-- ==== Sys2Proof/Word.lean ====
section
/-! DEFINITION. The words of the device and their plainest arithmetic. -/
namespace Sys2Proof

/-- A control-plane or engine word. -/
abbrev Word := BitVec 32

/-- A byte of memory. -/
abbrev Byte := BitVec 8

/-- A flag as the value of a one-bit field. -/
def b2n (b : Bool) : Nat := if b then 1 else 0

@[simp] theorem b2n_true : b2n true = 1 := rfl
@[simp] theorem b2n_false : b2n false = 0 := rfl

/-- Bits [hi:lo] of a number. -/
def bitsOf (w hi lo : Nat) : Nat := w / 2 ^ lo % 2 ^ (hi - lo + 1)

/-- Addition that saturates at a counter's limit. -/
def satAdd (lim a b : Nat) : Nat := min lim (a + b)

end Sys2Proof
end

