-- ==== Sys2Proof/Config.lean ====
section
/-! DEFINITION. The free values: what the spec leaves open although the machine goes on.  Each is a constant without a
body, so a claim holds for every value of it.  `State.free` numbers the draws. -/
namespace Sys2Proof

/-- The value of draw number `k` (log entry 2). -/
opaque Config.freeWord : Nat → BitVec 32

/-- The byte at address `a` of a memory whose contents were lost at draw number `k` (log entry 3). -/
opaque Config.freeByte : Nat → Nat → BitVec 8

/-- The transform of R55 into the frame that rotates with the output angle: the direct and the quadrature component of the phases' samples,
each given with the output angle at its sampling instant (log entry 22). -/
opaque Config.rotate : List (Nat × Int) → Int × Int

/-- The phase error that the components show, in au (R55; log entry 22). -/
opaque Config.phaseOf : Int × Int → BitVec 32

/-- One step of the second-order loop of R55, with damping 0.707, for a bandwidth in Hz, a phase error and the loop's integrator: the new
integrator and the frequency word before its limits (log entry 22). -/
opaque Config.loopStep : Nat → Int → Int → Int × Int

/-- KMAC256 of R388: the 16-byte tag of a message under a key (log entry 4). -/
opaque Config.kmacTag : List (BitVec 8) → List (BitVec 8) → BitVec 128

/-- KMAC256 of R389: a session key of 32 bytes from a key and a context (log entry 4). -/
opaque Config.kmacKey : List (BitVec 8) → List (BitVec 8) → List (BitVec 8)

/-- SHAKE256 with an output of 32 bytes (R388, R477, R479; log entry 4). -/
opaque Config.shake : List (BitVec 8) → List (BitVec 8)

/-- SHAKE256 with an output of 96 bytes, the seeds of an SLH-DSA key pair (R478; log entry 4). -/
opaque Config.shakeSeeds : List (BitVec 8) → List (BitVec 8)

/-- SLH-DSA verification under FIPS 205, with a context string and a public key, of a signature over a message (R471; log entry 4). -/
opaque Config.slhVerify : List (BitVec 8) → List (BitVec 8) → List (BitVec 8) → List (BitVec 8) → Bool

/-- The hash that key slot `k` holds as Xansin programmed it (R469; log entry 10). -/
opaque Config.ksHash : Nat → List (BitVec 8)

/-- SEC_DEVID, byte `k` (R478; log entry 10). -/
opaque Config.devid : Nat → BitVec 8

/-- Credential 0 as provisioned: its profile mask and its 32-byte key (R389, Table 15-11; log entry 10). -/
opaque Config.cred0Mask : BitVec 8
opaque Config.cred0Key : List (BitVec 8)

/-- The core that supervises the journal engine (R440; log entry 10). -/
opaque Config.jnlCore : Fin 4

/-- Byte `k` of the device's 256-bit secret in OTP (R478; log entry 10). -/
opaque Config.secret : Nat → BitVec 8

/-- The SLH-DSA public and signing key of FIPS 205 for three seeds (R478; log entry 4). -/
opaque Config.slhPublic : List (BitVec 8) → List (BitVec 8)
opaque Config.slhSigning : List (BitVec 8) → List (BitVec 8)

/-- SLH-DSA under FIPS 205: the signature of draw number `k`, with a signing key and a context string, over a message (R471, R479; log
entry 4). -/
opaque Config.slhSign : Nat → List (BitVec 8) → List (BitVec 8) → List (BitVec 8) → List (BitVec 8)

/-- Byte `k` of the identity certificate where the spec leaves it to Xansin: ARB, VERSION, KS0's public key and the signature (R478; log
entry 10). -/
opaque Config.xansinCert : Nat → BitVec 8

/-- What sets the resistor of converter `m`'s test DAC in its range of 10 kΩ ± 20 % (R317; log entry 10). -/
opaque Config.tdacTrim : Nat → Nat

end Sys2Proof
end

