-- ==== Sys2Proof/Machine/RegNames.lean ====
section
/-! DEFINITION. The names of the register fields and of the registers of the control plane, as the register tables of
the chapters give them (R14, R20, R492).  A field is UNIT_NAME_FIELD with the index letters of the unit left out
(CMPn_CTRL.EN is CMP_CTRL_EN); TRIPn registers carry TPIN_, AUXx registers AUXH_.  The instance of an indexed field is a number beside the name. -/
namespace Sys2Proof.Machine

/-- The access codes of Table 0-9 (R23). -/
inductive Access where
  | ro | rw | w1c | w1s | rc | wo | rwl
deriving DecidableEq, Repr

/-- The reset classes of Table 0-10 (R24); `fixed` is a value no reset changes (R22). -/
inductive ResetClass where
  | po | wr | ur | bk | fixed
deriving DecidableEq, Repr

/-- One constructor per register field of the spec's register tables. -/
inductive Fld where
  | SYS_ID_PART | SYS_ID_STEP | SYS_CAP0_LANEQ_PRESENT | SYS_CAP1_CE_PRESENT | SYS_CAP2_PW_PRESENT
  | SYS_CAP3_ADC_PRESENT | SYS_CAP3_SUP_PRESENT | SYS_CAP3_SAF_PRESENT | SYS_CAP3_AUX_PRESENT
  | SYS_CAP3_MIR_PRESENT | SYS_CAP3_HP_PRESENT | SYS_BUSERR_VALID | SYS_BUSERR_CAUSE | SYS_BUSERR_AGENT
  | SYS_BUSERR_COUNT | SYS_BUSADDRLO_ADDR | SYS_BUSADDRHI_WRITE | SYS_BUSADDRHI_ADDR | CE_ACTCTRL_MODE
  | CE_ACTCTRL_GO | CE_ACTSTAT_CODE | CE_ACTSTAT_WRPEND | CE_ACTSTAT_ERR | CE_ACTSTAT_DONE | CE_ACTSTAT_PEND
  | CE_ACTSTAT_VALIDATING | CE_ACTAT_AT | CE_ACTMASK_MASK | PMC_STAGE_REASON | PMC_STAGE_MINIMAL
  | PMC_STAGE_STAGE | PMC_ARM_DISERR | PMC_ARM_ARMERR | PMC_ARM_BLK | PMC_ARM_FREEOK | PMC_ARM_DISARM
  | PMC_ARM_ARM | PMC_RSTCTRL_RSTERR | PMC_RSTCTRL_SUPRST | PMC_RSTCTRL_WARM | PMC_RSTCAUSE_DEBUG
  | PMC_RSTCAUSE_PGOOD_LOSS | PMC_RSTCAUSE_SOFTWARE | PMC_RSTCAUSE_BUTTON | PMC_RSTCAUSE_POR_SUPPLY
  | PMC_RSTCAUSE_POR_PIN | PMC_BTN_HOLDMS | PMC_BTN_ARMED | PMC_BTN_STUCK | PMC_BTN_MMREQ | PMC_BTN_PRESSED
  | PMC_START_STARTOK | PMC_START_FAILCNT | PMC_SUPCNT_SUP3 | PMC_SUPCNT_SUP2 | PMC_SUPCNT_SUP1
  | PMC_SUPCNT_SUP0 | PMC_PDREQ_REQ | PMC_PDSTAT_PDERR | PMC_PDSTAT_PDWAIT | PMC_PDSTAT_PWR | PMC_BK_DATA
  | CLK_PLL_CTRL_RELOCK | CLK_PLL_CTRL_AUTORELOCK | CLK_PLL_STAT_BTERR | CLK_PLL_STAT_NOBAND
  | CLK_PLL_STAT_LOSS | CLK_PLL_STAT_ACQ | CLK_PLL_STAT_LOCKED | CLK_PLL_DITHER_DITHEN | CLK_PLL_DITHER_SEED
  | CLK_PLL_BAND_VALID | CLK_PLL_BAND_BAND | CLK_PLL_BAND_FLO | CLK_PLL_BAND_FHI | CLK_LOSS_ACTIVE
  | CLK_LOSS_RC16 | CLK_LOSS_REF | CLK_LOSS_CAUSE | THERM_STAT_MASKERR | THERM_STAT_SHUTLAT
  | THERM_STAT_BLKREQ | THERM_STAT_THROTTLE | THERM_MAX_ARGMAX | THERM_MAX_MAX | THERM_MASK_MASK
  | THERM_BKREC_SHUT125 | THERM_CNT_BLKCNT | THERM_CNT_THRCNT | THERM_TS_BROKEN | THERM_TS_TEMP
  | ATU_CTRL_SNAP | ATU_CTRL_SRCREQ | ATU_CTRL_EN | ATU_CFG_LOOPBW | ATU_CFG_MISSMAX | ATU_CFG_SVRATE
  | ATU_CFG_SVSTREAM | ATU_CFG_AUTOFREE | ATU_CFG_FPCSEL | ATU_STAT_SRCERR | ATU_STAT_FPCERR
  | ATU_STAT_DISERR | ATU_STAT_SRCLOSS | ATU_STAT_FPCPEND | ATU_STAT_SLEWING | ATU_STAT_HOLDOVER
  | ATU_STAT_LOCKED | ATU_STAT_SRC | ATU_STAT_ENST | ATU_FREQ_FREQ | ATU_FREE_FREE | ATU_ROCOF_ROCOF
  | ATU_SLEW_SLEW | ATU_ADCSEL_SINGLE | ATU_ADCSEL_AINC | ATU_ADCSEL_AINB | ATU_ADCSEL_AINA
  | ATU_ADCMIN_ADCMIN | ATU_PHERR_PHERR | ATU_FRETNUM_FRETNUM | ATU_FRETINIT_FRETINIT | ATU_ANGLE_ANGLE
  | ATU_BT_CNS_BTCNS | ATU_SNAP_FRET_FRET | ATU_SNAP_ANGLE_ANGLE | ATU_SNAP_SECH_SECH | ATU_SNAP_SECL_SECL
  | ATU_SNAP_NS_NS | ATU_TWIN_EPOCH | ATU_TWIN_SYNCED | ATU_TWIN_ROLE | ATU_TWIN_HBMISS | ATU_TWIN_LAST_LAST
  | ATU_TWIN_TK_TK | FRET_CTRL_SWAPMODE | FRET_CTRL_SWAP | FRET_CTRL_EN | FRET_STAT_SWAPCODE
  | FRET_STAT_WRPEND | FRET_STAT_WRACT | FRET_STAT_DISERR | FRET_STAT_SWAPERR | FRET_STAT_SWAPDONE
  | FRET_STAT_SWAPPEND | FRET_STAT_VALIDATING | FRET_STAT_ACTIVE | FRET_STAT_ENST | FRET_SWAPAT_SWAPAT
  | FRET_PLEN_PLENSEL | FRET_SKIPMASK_SKIP | FRET_SKIPCNT_COUNT | FRET_ADCOVR_OVR | MOD_CTRL_URST
  | MOD_CTRL_UNLOCK | MOD_CTRL_LOCK | MOD_CTRL_EN | MOD_STAT_ULERR | MOD_STAT_LKERR | MOD_STAT_DISERR
  | MOD_STAT_ENST | MOD_CFG_KEYH | MOD_CFG_KEYW | MOD_CFG_MINP | MOD_TCINC_CINC | MOD_TCB_TCB
  | MOD_DABLIM_SLEW | MOD_DABLIM_PHIMAX | ARM_CFG_EN | ARM_CFG_OWNER | ARM_CFG_NCELL | ARM_CFG_K
  | ARM_BYPASS_BYP | ARM_CBSRES_ADDR | ARM_STAT_LATECONV | ARM_STAT_CFGERR | ARM_STAT_CONV | ARM_STAT_ENST
  | ARM_DEF_DEF | ARM_CNT_CAP | ARM_CNT_SHIFT | ARM_CNT_DROP | ARM_CNT2_DABCLIP | ARM_MAP_LANE3
  | ARM_MAP_LANE2 | ARM_MAP_LANE1 | ARM_MAP_LANE0 | CL_CTRL_DLYEN | CL_CTRL_DLYPER | CL_CTRL_RETRYEN
  | CL_CTRL_EN | CL_STAT_OWNERR | CL_STAT_DLYJUMP | CL_STAT_DLYOVR | CL_STAT_EPOCHHI | CL_STAT_WRPEND
  | CL_STAT_WRACT | CL_STAT_MUTED | CL_STAT_ACTIVE | CL_STAT_ENST | CL_CFG_OWNER | CL_CFG_CELLID
  | CL_DELAY_VALID | CL_DELAY_DLY | CL_FCNT0_RETRY | CL_FCNT0_NOACK | CL_FCNT0_RETRYLATE | CL_FCNT0_MISSCMD
  | CL_FCNT1_LATE | CL_FCNT1_RXERR | CL_FCNT1_IDERR | CL_FCNT1_TYPEERR | CL_BCTRL_TXCHAN | CL_BCTRL_RXFREE
  | CL_BCTRL_TXGO | CL_BSTAT_RXDROP | CL_BSTAT_RXVALID | CL_BSTAT_TXBUSY | CL_BRXHDR_SEQ1 | CL_BRXHDR_CHAN1
  | CL_BRXHDR_SEQ0 | CL_BRXHDR_CHAN0 | CL_PHYCTRL_TRNTO | CL_PHYCTRL_IDLEMAX | CL_PHYCTRL_FXEN
  | CL_PHYCTRL_EIREQ | CL_PHYCTRL_RETRAIN | CL_PHYCTRL_RXPOLAUTO | CL_PHYCTRL_RXINV | CL_PHYCTRL_TXINV
  | CL_PHYCTRL_RATE | CL_PHYSTAT_EIERR | CL_PHYSTAT_RATEERR | CL_PHYSTAT_TXEQERR | CL_PHYSTAT_LOSS
  | CL_PHYSTAT_RXINVST | CL_PHYSTAT_LSTATE | CL_TXEQ_SWING | CL_TXEQ_POST | CL_TXEQ_PRE | CL_RXEQ_ADAPT
  | CL_RXEQ_PEAK | CL_LINKCNT_TRNFAIL | CL_LINKCNT_LOSSCNT | CL_LINKCNT_CODEERR | CL_PATCTRL_LOOP
  | CL_PATCTRL_CHKINV | CL_PATCTRL_GENINV | CL_PATCTRL_CHKEN | CL_PATCTRL_GENEN | CL_PATCTRL_CHKSEL
  | CL_PATCTRL_GENSEL | CL_PATSTAT_TESTERR | CL_PATSTAT_LOCK | CL_PATSTAT_LOSTLK | CL_PATERR_ERRCNT
  | CL_UPAT0_UPAT0 | CL_UPAT1_UPAT1 | CLG_CTRL_CLRRM | CLG_CTRL_CLRGO | CLG_CTRL_SWAP | CLG_CTRL_SWAPMODE
  | CLG_CTRL_UNLOCK | CLG_CTRL_LOCK | CLG_STAT_SWAPCODE | CLG_STAT_ULERR | CLG_STAT_LKERR | CLG_STAT_CLRERR
  | CLG_STAT_CLRDONE | CLG_STAT_SWAPERR | CLG_STAT_SWAPDONE | CLG_STAT_WRPEND | CLG_STAT_SWAPPEND
  | CLG_STAT_VALIDATING | CLG_SWAPAT_SWAPAT | CLG_SWAPMASK_MASK | CLG_CLRMASK_MASK | CLG_ARMTOK_TOK
  | CLG_EPOCH_EPOCH | CLG_DMAX_DMAX | CLG_NODE_NODE | CMP_CTRL_OINV | CMP_CTRL_OSEL | CMP_CTRL_HYST
  | CMP_CTRL_SAMP | CMP_CTRL_LOEN | CMP_CTRL_HIEN | CMP_CTRL_EN | CMP_THRH_THR | CMP_THRL_THR
  | CMP_FILT_TICKDIV | CMP_FILT_FILT | CMP_BLANK_BLKPW | CMP_BLANK_BLKEDGE | CMP_BLANK_BLKLEN
  | CMP_STATUS_DISERR | CMP_STATUS_WINERR | CMP_STATUS_LOSIDE | CMP_STATUS_LATCH | CMP_STATUS_STATE
  | CMP_STATUS_ENST | TPIN_CTRL_POL | TPIN_CTRL_EN | TPIN_FILT_TICKDIV | TPIN_FILT_FILT | TPIN_BLANK_BLKPW
  | TPIN_BLANK_BLKEDGE | TPIN_BLANK_BLKLEN | TPIN_STATUS_DISERR | TPIN_STATUS_LATCH | TPIN_STATUS_STATE
  | TPIN_STATUS_ENST | TRIP_CTRL_MCLR | TRIP_CTRL_UNLOCK | TRIP_CTRL_LOCK | TRIP_STAT_CLRSRC
  | TRIP_STAT_ULERR | TRIP_STAT_LKERR | TRIP_STAT_MCLRFAIL | TRIP_STAT_CLRFAIL | TRIP_STAT_UNRES
  | TRIP_STAT_FG | TRIP_STAT_MSTATE | TRIP_LAT0_CMP | TRIP_LAT1_SW | TRIP_LAT1_PIN | TRIP_LAT2_CLKLOSS
  | TRIP_LAT2_TWIN | TRIP_LAT2_THERMAL | TRIP_LAT2_SAFETY | TRIP_LAT2_SUP | TRIP_RMASK_RMASK
  | TRIP_FIRST_VALID | TRIP_FIRST_MULTI | TRIP_FIRST_SRC | TRIP_FIRST_FRET_FRET | TRIP_FIRST_CNS_CNS
  | TRIP_SUPREQ_REQ | TRIP_SWROUTE_MUTE | TRIP_SWROUTE_FG | TRIP_SUPROUTE_MUTE | TRIP_SUPROUTE_FG
  | TRIP_ROUTE_MUTE | TRIP_ROUTE_FG | TRIP_SWREQ_REQ | PW_CTRL_IMMDIS | PW_CTRL_EN | PW_CFG_SYNCPW
  | PW_CFG_SYNC | PW_CFG_DSTATE | PW_CFG_MINP_MODE | PW_CFG_POLL | PW_CFG_POLH | PW_CFG_MODE | PW_PRD_PRD
  | PW_PHS_PHS | PW_CMPA_CNT | PW_CMPA_FINE | PW_CMPB_CNT | PW_CMPB_FINE | PW_TRGA_EN | PW_TRGA_DIR
  | PW_TRGA_CNT | PW_TRGB_EN | PW_TRGB_DIR | PW_TRGB_CNT | PW_DT_FALL | PW_DT_RISE | PW_MINP_MINP
  | PW_TRIP_CLR | PW_TRIP_CLRFAIL | PW_TRIP_CLKLOSS | PW_TRIP_TRIPPED | PW_TRIP_TSTATE | PW_TRIP_FGSEL
  | PW_CBC_EN | PW_CBC_CMP | PW_CBC_BLK | PW_OVR_OVRL | PW_OVR_OVRH | PW_STAT_OVRERR | PW_STAT_CFGERR
  | PW_STAT_XCONF | PW_STAT_XCONFST | PW_STAT_FROZEN | PW_STAT_HON | PW_STAT_LON | PW_STAT_ENST | PW_CNT_DOWN
  | PW_CNT_CNT | PW_SUPCNT_CBC | PW_SUPCNT_SUP | PW_MCNT_DROP | PW_MCNT_STRETCH | PWM_CTRL_UNLOCK
  | PWM_CTRL_LOCK | PWM_STAT_ULERR | PWM_STAT_LKERR | PWM_STAT_OWNER | PWM_HOLD_HOLD | PWM_START_START
  | AD_CTRL_URST | AD_CTRL_SWGO | AD_CTRL_EN | AD_STAT_TDACERR | AD_STAT_DISERR | AD_STAT_CFGERR
  | AD_STAT_OVR | AD_STAT_CURLIST | AD_STAT_BUSY | AD_STAT_ENST | AD_TDAC_EN | AD_TDAC_MODE | AD_TDAC_TMASK
  | AD_TDAC_VAL | AD_LCFG_EVT | AD_LCFG_TRGEN | AD_LCFG_DIR | AD_LCFG_MASK | AD_LBUF_MODE | AD_LBUF_ENG
  | AD_LBUF_BASE | AD_LLEN_LEN | AD_LWPTR_SEQ | AD_LWPTR_PTR | ADC_CTRL_UNLOCK | ADC_CTRL_LOCK
  | ADC_STAT_ULERR | ADC_STAT_LKERR | AUX_CTRL_HOLD | AUX_CTRL_UNLOCK | AUX_CTRL_LOCK | AUX_STAT_ULERR
  | AUX_STAT_LKERR | AUX_STAT_LINKLOSS | AUX_STAT_ASHORT | AUX_STAT_VDRVUV | AUX_STAT_VHVUV | AUX_PRD_PRD
  | AUXH_CTRL_EN | AUXH_CFG_DESATV | AUXH_CFG_BLANK | AUXH_CFG_DT | AUXH_DUTY_HON | AUXH_OVR_OVRL
  | AUXH_OVR_OVRH | AUXH_STAT_XCONF | AUXH_STAT_DESAT | AUXH_STAT_BSUV | AUXH_STAT_XCONFST | AUXH_STAT_ENST
  | AUXH_FCNT_DESAT | AUXH_FCNT_BSUV | AUXH_FCNT_CLAMP | VREG_VID_VID | VREG_CFG_SYNCEN | VREG_CFG_NPH
  | VREG_CFG_HYS | VREG_CFG_FSW | VREG_SLEW_STEP | VREG_SS_PGFILT | VREG_SS_SSTO | VREG_STAT_REF
  | VREG_STAT_HICCUPS | VREG_STAT_VIDERR | VREG_STAT_OVP | VREG_STAT_SYNCLOST | VREG_STAT_SYNCACT
  | VREG_STAT_PGOOD | VREG_STAT_SSTATE | VREG_CNT_ILIM | SER_STAT_FAULTIDX | SER_STAT_FAULT | SER_STAT_NEWREC
  | SER_STAT_RECERR | SER_STAT_CONFIRMED | SER_STAT_PERMIT | SER_STAT_SOUTST | SER_STAT_STATE
  | SER_SIN_DEMAND | SER_SIN_FILTERED | SER_SIN_RAW | SER_PCRC_PCRC | SER_CONF_CONF | SER_STARTUP_SOUTOK
  | SER_STARTUP_TPOOK | SER_STARTUP_OPENSEEN | SER_STARTUP_DONE | SER_TEST_NOTDONE | SER_TEST_TESTRES
  | SER_CNT_DEMCNT | SER_CNT_REFUSED | SER_VER_VERSION | HP_CTRL_TXTS | HP_CTRL_ANEN | HP_CTRL_MODE
  | HP_CTRL_EN | HP_STAT_MODEERR | HP_STAT_HDXERR | HP_STAT_TSQ_OVF | HP_STAT_SPEED | HP_STAT_PSTATE
  | HP_STAT_ENST | HP_MAXLEN_MAXLEN | HP_TSLAT_TXLAT | HP_TSLAT_RXLAT | HP_TSQID_VALID | HP_TSQID_TSID
  | HP_TSQTS_CNS | HP_TQ0BASE_ADDR | HP_TQ0BASE_LOG2N | HP_TQ0IDX_TAIL | HP_TQ0IDX_HEAD | HP_TQ1BASE_ADDR
  | HP_TQ1BASE_LOG2N | HP_TQ1IDX_TAIL | HP_TQ1IDX_HEAD | HP_RQBASE_ADDR | HP_RQBASE_LOG2N | HP_RQIDX_TAIL
  | HP_RQIDX_HEAD | HP_ERRCNT_RXFULL | HP_ERRCNT_RXBAD | HP_PRP_EN | HP_PRP_FORGET | HP_PRPCNT_EVICT
  | HP_PRPCNT_WRONGLAN | HP_TXEQ_SWING | HP_TXEQ_POST | HP_TXEQ_PRE | HP_RXEQ_ADAPT | HP_RXEQ_PEAK
  | HP_PATCTRL_LOOP | HP_PATCTRL_CHKINV | HP_PATCTRL_GENINV | HP_PATCTRL_CHKEN | HP_PATCTRL_GENEN
  | HP_PATCTRL_CHKSEL | HP_PATCTRL_GENSEL | HP_PATSTAT_TESTERR | HP_PATSTAT_LOCK | HP_PATSTAT_LOSTLK
  | HP_PATERR_ERRCNT | HP_UPAT0_UPAT0 | HP_UPAT1_UPAT1 | TIME_CTRL_STEP | TIME_CTRL_SET | TIME_STAT_STEPCNT
  | TIME_STAT_SETERR | TIME_STAT_VALID | TIME_INC_INC | TIME_SECH_SECH | TIME_SECL_SECL | TIME_NS_NS
  | TIME_CNS_CNS | TIME_WSECH_SECH | TIME_WSECL_SECL | TIME_WNS_NS | TIME_STEPNS_STEPNS | TOUT_CTRL_MISSED
  | TOUT_CTRL_CFGERR | TOUT_CTRL_ENST | TOUT_CTRL_POL | TOUT_CTRL_MODE | TOUT_CTRL_EN | TOUT_SSEC_SSEC
  | TOUT_SNS_SNS | TOUT_PER_PER | TOUT_WID_WID | SVF_CTRL_EN | SVF_CTRL_PORTS | SVF_CTRL_VCH
  | SVF_MATCH_DSTLO | SVF_MATCH_APPID | SVF_RING_ADDR | SVF_RING_LOG2N | SVF_IDX_WIDX | SVF_CNT_MISS
  | SVF_CNT_BAD | JNL_STAT_SESSIONS | JNL_STAT_CONSERR | JNL_STAT_MIRFAIL | JNL_STAT_SOLO
  | JNL_STAT_REPLAYING | JNL_STAT_ENST | JNL_HEADLO_HEAD | JNL_HEADHI_HEAD | JNL_DONELO_DONE
  | JNL_DONEHI_DONE | JNL_USED_USED | JNL_CNT0_BADTAG | JNL_CNT0_NEEDSEQ | JNL_CNT1_FULL | JNL_CNT1_DUP
  | MIR_CTRL_EN | MIR_CTRL_CLAIM | MIR_CTRL_HANDOVER | MIR_CTRL_UNLOCK | MIR_CTRL_LOCK | MIR_CFG_PAIR
  | MIR_CFG_SIDE | MIR_CFG_AUTOTK | MIR_CFG_PWALIGN | MIR_CFG_PWMASTER | MIR_CFG_MOFF | MIR_STAT_ULERR
  | MIR_STAT_FOREIGN | MIR_STAT_SIDEERR | MIR_STAT_HOERR | MIR_STAT_TKDONE | MIR_STAT_YIELD
  | MIR_STAT_CLAIMERR | MIR_STAT_TKBLK | MIR_STAT_SYNCED | MIR_STAT_MIRUP | MIR_STAT_ROLE | MIR_STAT_HBMISS
  | MIR_STAT_ENST | MIR_HOAT_AT | MIR_DELAY_VALID | MIR_DELAY_DLY | MIR_CNT_RXERR | MIR_CNT_HBLATE
  | MIR_CNT_HBMISSED | MIR_CNT_PWMADJ | MIR_PEER0_EPOCH | MIR_PEER0_ROLE | MIR_PEER0_STAGE | MIR_PEER1_FRET
  | MIR_WINBASE_ADDR | MIR_WINLEN_LEN | ML_PHYCTRL_TRNTO | ML_PHYCTRL_RETRAIN | ML_PHYCTRL_RXPOLAUTO
  | ML_PHYCTRL_RXINV | ML_PHYCTRL_TXINV | ML_PHYSTAT_TXEQERR | ML_PHYSTAT_LOSS | ML_PHYSTAT_RXINVST
  | ML_PHYSTAT_LSTATE | ML_TXEQ_SWING | ML_TXEQ_POST | ML_TXEQ_PRE | ML_RXEQ_ADAPT | ML_RXEQ_PEAK
  | ML_LINKCNT_TRNFAIL | ML_LINKCNT_LOSSCNT | ML_LINKCNT_CODEERR | ML_PATCTRL_LOOP | ML_PATCTRL_CHKINV
  | ML_PATCTRL_GENINV | ML_PATCTRL_CHKEN | ML_PATCTRL_GENEN | ML_PATCTRL_CHKSEL | ML_PATCTRL_GENSEL
  | ML_PATSTAT_TESTERR | ML_PATSTAT_LOCK | ML_PATSTAT_LOSTLK | ML_PATERR_ERRCNT | ML_UPAT0_UPAT0
  | ML_UPAT1_UPAT1 | MIR_LANEMAP_REVERSED | MIR_LANEMAP_ORDERERR | MIR_LANEMAP_UP | ARB_WGT0_W3 | ARB_WGT0_W2
  | ARB_WGT0_W1 | ARB_WGT0_W0 | ARB_WGT1_W7W4 | ARB_WGT2_W9 | ARB_WGT2_W8 | ARB_HOLD_HOLD | ARB_VIOL_VIOL
  | ARB_VIOLCNT_COUNT | SSM_ECCCNT_UNC | SSM_ECCCNT_COR | SSM_ECCADDR_ADDR | SEC_LIFE_STATE | SEC_SLOT_PROG
  | SEC_SLOT_REVOKED | SEC_SLOT_USE | SEC_ARB_ENG | SEC_ARB_SER | SEC_ARB_FW | SEC_DEVID_DEVID
  | SEC_STAT_LASTRES | SEC_STAT_BUSY | SEC_TAMP_COUNT | SEC_TAMP_GLITCH | SEC_TAMP_PIN | SEC_TAMP_PINLVL
  | SEC_TAMPCFG_BLOCK | DBG_STAT_UNLOCKS | DBG_STAT_LEVEL | DBG_STAT_S4OK | DBG_STAT_UNLOCKED | DBG_CHAL_CHAL
  | DBG_PWM_FREEZE_FREEZE | CE_CTRL_URST | CE_CTRL_MISSTRIP | CE_CTRL_MISSMODE | CE_CTRL_EN | CE_STAT_IWRPEND
  | CE_STAT_IWRACT | CE_STAT_OVREND | CE_STAT_MISS | CE_STAT_STGOK | CE_STAT_ACTBANK | CE_STAT_HALTED
  | CE_STAT_RUNNING | CE_STAT_ENST | CE_MISSCNT_COUNT | CE_LASTCYC_LAST | CE_MAXCYC_MAX | CE_XCAUSE_VALID
  | CE_XCAUSE_FRETLO | CE_XCAUSE_CAUSE | CE_XPC_PC | CE_XINFO_INFO | CE_XCNT_ECCCOR | CE_XCNT_XCOUNT
  | CE_XCFG_XTRIP | CE_CSTAT_AGAIN | CE_CSTAT_LATE | CE_CSTAT_SENDDROP | CE_CSTAT_NOCOMMIT | CE_STGREQ_REQ
deriving DecidableEq

/-- One constructor per register of Table 20-3. -/
inductive Reg where
  | SYS_ID | SYS_CAP0 | SYS_CAP1 | SYS_CAP2 | SYS_CAP3 | SYS_BUSERR | SYS_BUSADDRLO | SYS_BUSADDRHI
  | CE_ACTCTRL | CE_ACTSTAT | CE_ACTAT | CE_ACTMASK | PMC_STAGE | PMC_ARM | PMC_RSTCTRL | PMC_RSTCAUSE
  | PMC_BTN | PMC_START | PMC_SUPCNT | PMC_PDREQ | PMC_PDSTAT | PMC_BK | CLK_PLL_CTRL | CLK_PLL_STAT
  | CLK_PLL_DITHER | CLK_PLL_BAND | CLK_LOSS | THERM_STAT | THERM_MAX | THERM_MASK | THERM_BKREC | THERM_CNT
  | THERM_TS | ATU_CTRL | ATU_CFG | ATU_STAT | ATU_FREQ | ATU_FREE | ATU_ROCOF | ATU_SLEW | ATU_ADCSEL
  | ATU_ADCMIN | ATU_PHERR | ATU_FRETNUM | ATU_FRETINIT | ATU_ANGLE | ATU_BT_CNS | ATU_SNAP_FRET
  | ATU_SNAP_ANGLE | ATU_SNAP_SECH | ATU_SNAP_SECL | ATU_SNAP_NS | ATU_TWIN | ATU_TWIN_LAST | ATU_TWIN_TK
  | FRET_CTRL | FRET_STAT | FRET_SWAPAT | FRET_PLEN | FRET_SKIPMASK | FRET_SKIPCNT | FRET_ADCOVR | MOD_CTRL
  | MOD_STAT | MOD_CFG | MOD_TCINC | MOD_TCB | MOD_DABLIM | ARM_CFG | ARM_BYPASS | ARM_CBSRES | ARM_STAT
  | ARM_DEF | ARM_CNT | ARM_CNT2 | ARM_MAP | CL_CTRL | CL_STAT | CL_CFG | CL_DELAY | CL_FCNT0 | CL_FCNT1
  | CL_BCTRL | CL_BSTAT | CL_BRXHDR | CL_PHYCTRL | CL_PHYSTAT | CL_TXEQ | CL_RXEQ | CL_LINKCNT | CL_PATCTRL
  | CL_PATSTAT | CL_PATERR | CL_UPAT0 | CL_UPAT1 | CLG_CTRL | CLG_STAT | CLG_SWAPAT | CLG_SWAPMASK
  | CLG_CLRMASK | CLG_ARMTOK | CLG_EPOCH | CLG_DMAX | CLG_NODE | CMP_CTRL | CMP_THRH | CMP_THRL | CMP_FILT
  | CMP_BLANK | CMP_STATUS | TPIN_CTRL | TPIN_FILT | TPIN_BLANK | TPIN_STATUS | TRIP_CTRL | TRIP_STAT
  | TRIP_LAT0 | TRIP_LAT1 | TRIP_LAT2 | TRIP_RMASK | TRIP_FIRST | TRIP_FIRST_FRET | TRIP_FIRST_CNS
  | TRIP_SUPREQ | TRIP_SWROUTE | TRIP_SUPROUTE | TRIP_ROUTE | TRIP_SWREQ | PW_CTRL | PW_CFG | PW_PRD | PW_PHS
  | PW_CMPA | PW_CMPB | PW_TRGA | PW_TRGB | PW_DT | PW_MINP | PW_TRIP | PW_CBC | PW_OVR | PW_STAT | PW_CNT
  | PW_SUPCNT | PW_MCNT | PWM_CTRL | PWM_STAT | PWM_HOLD | PWM_START | AD_CTRL | AD_STAT | AD_TDAC | AD_LCFG
  | AD_LBUF | AD_LLEN | AD_LWPTR | ADC_CTRL | ADC_STAT | AUX_CTRL | AUX_STAT | AUX_PRD | AUXH_CTRL | AUXH_CFG
  | AUXH_DUTY | AUXH_OVR | AUXH_STAT | AUXH_FCNT | VREG_VID | VREG_CFG | VREG_SLEW | VREG_SS | VREG_STAT
  | VREG_CNT | SER_STAT | SER_SIN | SER_PCRC | SER_CONF | SER_STARTUP | SER_TEST | SER_CNT | SER_VER
  | HP_CTRL | HP_STAT | HP_MAXLEN | HP_TSLAT | HP_TSQID | HP_TSQTS | HP_TQ0BASE | HP_TQ0IDX | HP_TQ1BASE
  | HP_TQ1IDX | HP_RQBASE | HP_RQIDX | HP_ERRCNT | HP_PRP | HP_PRPCNT | HP_TXEQ | HP_RXEQ | HP_PATCTRL
  | HP_PATSTAT | HP_PATERR | HP_UPAT0 | HP_UPAT1 | TIME_CTRL | TIME_STAT | TIME_INC | TIME_SECH | TIME_SECL
  | TIME_NS | TIME_CNS | TIME_WSECH | TIME_WSECL | TIME_WNS | TIME_STEPNS | TOUT_CTRL | TOUT_SSEC | TOUT_SNS
  | TOUT_PER | TOUT_WID | SVF_CTRL | SVF_MATCH | SVF_RING | SVF_IDX | SVF_CNT | JNL_STAT | JNL_HEADLO
  | JNL_HEADHI | JNL_DONELO | JNL_DONEHI | JNL_USED | JNL_CNT0 | JNL_CNT1 | MIR_CTRL | MIR_CFG | MIR_STAT
  | MIR_HOAT | MIR_DELAY | MIR_CNT | MIR_PEER0 | MIR_PEER1 | MIR_WINBASE | MIR_WINLEN | ML_PHYCTRL
  | ML_PHYSTAT | ML_TXEQ | ML_RXEQ | ML_LINKCNT | ML_PATCTRL | ML_PATSTAT | ML_PATERR | ML_UPAT0 | ML_UPAT1
  | MIR_LANEMAP | ARB_WGT0 | ARB_WGT1 | ARB_WGT2 | ARB_HOLD | ARB_VIOL | ARB_VIOLCNT | SSM_ECCCNT
  | SSM_ECCADDR | SEC_LIFE | SEC_SLOT | SEC_ARB | SEC_DEVID | SEC_STAT | SEC_TAMP | SEC_TAMPCFG | DBG_STAT
  | DBG_CHAL | DBG_PWM_FREEZE | CE_CTRL | CE_STAT | CE_MISSCNT | CE_LASTCYC | CE_MAXCYC | CE_XCAUSE | CE_XPC
  | CE_XINFO | CE_XCNT | CE_XCFG | CE_CSTAT | CE_STGREQ
deriving DecidableEq

end Sys2Proof.Machine
end

