-- ==== Sys2Proof/Machine/RegMap.lean ====
section
/-! DEFINITION. The register tables of the spec as data: the bits, access code, reset value and reset class of every
field (R20, R22, R23, R24), and the address and fields of every register (R15, R492). -/
namespace Sys2Proof.Machine

/-- A row of a register table: bits [hi:lo], access code, reset value and reset class. -/
structure FldSpec where
  hi : Nat
  lo : Nat
  acc : Access
  rst : Nat
  cls : ResetClass
deriving DecidableEq, Repr

/-- A register's place: the address of instance 0 and the (count, stride) of each index. -/
structure RegSpec where
  base : Nat
  dims : List (Nat × Nat)
  flds : List Fld
deriving DecidableEq

def fldTable0 : List (Fld × FldSpec) :=
  [(.SYS_ID_PART, ⟨31, 16, .ro, 0, .fixed⟩),
   (.SYS_ID_STEP, ⟨15, 8, .ro, 0, .fixed⟩),
   (.SYS_CAP0_LANEQ_PRESENT, ⟨23, 0, .ro, 0, .fixed⟩),
   (.SYS_CAP1_CE_PRESENT, ⟨23, 0, .ro, 0, .fixed⟩),
   (.SYS_CAP2_PW_PRESENT, ⟨23, 0, .ro, 0, .fixed⟩),
   (.SYS_CAP3_ADC_PRESENT, ⟨23, 16, .ro, 0, .fixed⟩),
   (.SYS_CAP3_SUP_PRESENT, ⟨11, 8, .ro, 0, .fixed⟩),
   (.SYS_CAP3_SAF_PRESENT, ⟨6, 6, .ro, 0, .fixed⟩),
   (.SYS_CAP3_AUX_PRESENT, ⟨5, 5, .ro, 0, .fixed⟩),
   (.SYS_CAP3_MIR_PRESENT, ⟨4, 4, .ro, 0, .fixed⟩),
   (.SYS_CAP3_HP_PRESENT, ⟨3, 0, .ro, 0, .fixed⟩),
   (.SYS_BUSERR_VALID, ⟨31, 31, .w1c, 0, .wr⟩),
   (.SYS_BUSERR_CAUSE, ⟨27, 24, .ro, 0, .wr⟩),
   (.SYS_BUSERR_AGENT, ⟨15, 8, .ro, 0, .wr⟩),
   (.SYS_BUSERR_COUNT, ⟨7, 0, .rc, 0, .wr⟩),
   (.SYS_BUSADDRLO_ADDR, ⟨31, 0, .ro, 0, .wr⟩),
   (.SYS_BUSADDRHI_WRITE, ⟨8, 8, .ro, 0, .wr⟩),
   (.SYS_BUSADDRHI_ADDR, ⟨7, 0, .ro, 0, .wr⟩),
   (.CE_ACTCTRL_MODE, ⟨9, 9, .rw, 0, .wr⟩),
   (.CE_ACTCTRL_GO, ⟨8, 8, .w1s, 0, .wr⟩),
   (.CE_ACTSTAT_CODE, ⟨27, 24, .ro, 0, .wr⟩),
   (.CE_ACTSTAT_WRPEND, ⟨18, 18, .w1c, 0, .wr⟩),
   (.CE_ACTSTAT_ERR, ⟨17, 17, .w1c, 0, .wr⟩),
   (.CE_ACTSTAT_DONE, ⟨16, 16, .w1c, 0, .wr⟩)]

def fldTable1 : List (Fld × FldSpec) :=
  [(.CE_ACTSTAT_PEND, ⟨9, 9, .ro, 0, .wr⟩),
   (.CE_ACTSTAT_VALIDATING, ⟨8, 8, .ro, 0, .wr⟩),
   (.CE_ACTAT_AT, ⟨31, 0, .rw, 0, .wr⟩),
   (.CE_ACTMASK_MASK, ⟨23, 0, .rw, 0, .wr⟩),
   (.PMC_STAGE_REASON, ⟨23, 16, .ro, 0, .wr⟩),
   (.PMC_STAGE_MINIMAL, ⟨8, 8, .ro, 0, .wr⟩),
   (.PMC_STAGE_STAGE, ⟨2, 0, .ro, 0, .wr⟩),
   (.PMC_ARM_DISERR, ⟨17, 17, .w1c, 0, .wr⟩),
   (.PMC_ARM_ARMERR, ⟨16, 16, .w1c, 0, .wr⟩),
   (.PMC_ARM_BLK, ⟨12, 9, .ro, 0, .wr⟩),
   (.PMC_ARM_FREEOK, ⟨8, 8, .rw, 0, .wr⟩),
   (.PMC_ARM_DISARM, ⟨1, 1, .wo, 0, .wr⟩),
   (.PMC_ARM_ARM, ⟨0, 0, .wo, 0, .wr⟩),
   (.PMC_RSTCTRL_RSTERR, ⟨16, 16, .w1c, 0, .wr⟩),
   (.PMC_RSTCTRL_SUPRST, ⟨7, 4, .wo, 0, .wr⟩),
   (.PMC_RSTCTRL_WARM, ⟨0, 0, .wo, 0, .wr⟩),
   (.PMC_RSTCAUSE_DEBUG, ⟨5, 5, .w1c, 0, .po⟩),
   (.PMC_RSTCAUSE_PGOOD_LOSS, ⟨4, 4, .w1c, 0, .po⟩),
   (.PMC_RSTCAUSE_SOFTWARE, ⟨3, 3, .w1c, 0, .po⟩),
   (.PMC_RSTCAUSE_BUTTON, ⟨2, 2, .w1c, 0, .po⟩),
   (.PMC_RSTCAUSE_POR_SUPPLY, ⟨1, 1, .ro, 1, .po⟩),
   (.PMC_RSTCAUSE_POR_PIN, ⟨0, 0, .ro, 0, .po⟩),
   (.PMC_BTN_HOLDMS, ⟨31, 16, .ro, 0, .po⟩),
   (.PMC_BTN_ARMED, ⟨3, 3, .ro, 0, .po⟩)]

def fldTable2 : List (Fld × FldSpec) :=
  [(.PMC_BTN_STUCK, ⟨2, 2, .w1c, 0, .po⟩),
   (.PMC_BTN_MMREQ, ⟨1, 1, .ro, 0, .po⟩),
   (.PMC_BTN_PRESSED, ⟨0, 0, .ro, 0, .po⟩),
   (.PMC_START_STARTOK, ⟨31, 16, .rw, 0x3c, .po⟩),
   (.PMC_START_FAILCNT, ⟨3, 0, .ro, 0, .po⟩),
   (.PMC_SUPCNT_SUP3, ⟨31, 24, .rc, 0, .po⟩),
   (.PMC_SUPCNT_SUP2, ⟨23, 16, .rc, 0, .po⟩),
   (.PMC_SUPCNT_SUP1, ⟨15, 8, .rc, 0, .po⟩),
   (.PMC_SUPCNT_SUP0, ⟨7, 0, .rc, 0, .po⟩),
   (.PMC_PDREQ_REQ, ⟨13, 4, .rw, 0, .wr⟩),
   (.PMC_PDSTAT_PDERR, ⟨17, 17, .w1c, 0, .wr⟩),
   (.PMC_PDSTAT_PDWAIT, ⟨16, 16, .ro, 0, .wr⟩),
   (.PMC_PDSTAT_PWR, ⟨13, 0, .ro, 0x3fff, .po⟩),
   (.PMC_BK_DATA, ⟨31, 0, .rw, 0, .bk⟩),
   (.CLK_PLL_CTRL_RELOCK, ⟨1, 1, .wo, 0, .wr⟩),
   (.CLK_PLL_CTRL_AUTORELOCK, ⟨0, 0, .rw, 1, .po⟩),
   (.CLK_PLL_STAT_BTERR, ⟨18, 18, .w1c, 0, .wr⟩),
   (.CLK_PLL_STAT_NOBAND, ⟨17, 17, .w1c, 0, .wr⟩),
   (.CLK_PLL_STAT_LOSS, ⟨16, 16, .w1c, 0, .po⟩),
   (.CLK_PLL_STAT_ACQ, ⟨1, 1, .ro, 0, .po⟩),
   (.CLK_PLL_STAT_LOCKED, ⟨0, 0, .ro, 0, .po⟩),
   (.CLK_PLL_DITHER_DITHEN, ⟨31, 31, .rw, 0, .wr⟩),
   (.CLK_PLL_DITHER_SEED, ⟨15, 0, .rw, 0, .wr⟩),
   (.CLK_PLL_BAND_VALID, ⟨31, 31, .rw, 0, .wr⟩)]

def fldTable3 : List (Fld × FldSpec) :=
  [(.CLK_PLL_BAND_BAND, ⟨29, 24, .rw, 0, .wr⟩),
   (.CLK_PLL_BAND_FLO, ⟨23, 12, .rw, 0, .wr⟩),
   (.CLK_PLL_BAND_FHI, ⟨11, 0, .rw, 0, .wr⟩),
   (.CLK_LOSS_ACTIVE, ⟨31, 31, .ro, 0, .po⟩),
   (.CLK_LOSS_RC16, ⟨6, 6, .w1c, 0, .po⟩),
   (.CLK_LOSS_REF, ⟨5, 5, .w1c, 0, .po⟩),
   (.CLK_LOSS_CAUSE, ⟨3, 0, .w1c, 0, .po⟩),
   (.THERM_STAT_MASKERR, ⟨20, 20, .w1c, 0, .wr⟩),
   (.THERM_STAT_SHUTLAT, ⟨19, 19, .ro, 0, .po⟩),
   (.THERM_STAT_BLKREQ, ⟨18, 18, .ro, 0, .po⟩),
   (.THERM_STAT_THROTTLE, ⟨17, 16, .ro, 0, .po⟩),
   (.THERM_MAX_ARGMAX, ⟨19, 16, .ro, 0, .po⟩),
   (.THERM_MAX_MAX, ⟨15, 0, .ro, 0, .po⟩),
   (.THERM_MASK_MASK, ⟨11, 0, .rw, 0, .bk⟩),
   (.THERM_BKREC_SHUT125, ⟨0, 0, .w1c, 0, .bk⟩),
   (.THERM_CNT_BLKCNT, ⟨31, 16, .rc, 0, .po⟩),
   (.THERM_CNT_THRCNT, ⟨15, 0, .rc, 0, .po⟩),
   (.THERM_TS_BROKEN, ⟨31, 31, .ro, 0, .po⟩),
   (.THERM_TS_TEMP, ⟨15, 0, .ro, 0, .po⟩),
   (.ATU_CTRL_SNAP, ⟨8, 8, .wo, 0, .wr⟩),
   (.ATU_CTRL_SRCREQ, ⟨5, 4, .rw, 2, .wr⟩),
   (.ATU_CTRL_EN, ⟨0, 0, .rw, 0, .wr⟩),
   (.ATU_CFG_LOOPBW, ⟨26, 24, .rw, 3, .wr⟩),
   (.ATU_CFG_MISSMAX, ⟨19, 16, .rw, 4, .wr⟩)]

def fldTable4 : List (Fld × FldSpec) :=
  [(.ATU_CFG_SVRATE, ⟨13, 12, .rw, 0, .wr⟩),
   (.ATU_CFG_SVSTREAM, ⟨11, 8, .rw, 0, .wr⟩),
   (.ATU_CFG_AUTOFREE, ⟨4, 4, .rw, 0, .wr⟩),
   (.ATU_CFG_FPCSEL, ⟨1, 0, .rw, 2, .wr⟩),
   (.ATU_STAT_SRCERR, ⟨20, 20, .w1c, 0, .wr⟩),
   (.ATU_STAT_FPCERR, ⟨19, 19, .w1c, 0, .wr⟩),
   (.ATU_STAT_DISERR, ⟨18, 18, .w1c, 0, .wr⟩),
   (.ATU_STAT_SRCLOSS, ⟨17, 17, .w1c, 0, .wr⟩),
   (.ATU_STAT_FPCPEND, ⟨11, 11, .ro, 0, .wr⟩),
   (.ATU_STAT_SLEWING, ⟨10, 10, .ro, 0, .wr⟩),
   (.ATU_STAT_HOLDOVER, ⟨9, 9, .ro, 0, .wr⟩),
   (.ATU_STAT_LOCKED, ⟨8, 8, .ro, 0, .wr⟩),
   (.ATU_STAT_SRC, ⟨5, 4, .ro, 2, .wr⟩),
   (.ATU_STAT_ENST, ⟨1, 0, .ro, 0, .wr⟩),
   (.ATU_FREQ_FREQ, ⟨31, 0, .ro, 0x218def4, .wr⟩),
   (.ATU_FREE_FREE, ⟨31, 0, .rw, 0x218def4, .wr⟩),
   (.ATU_ROCOF_ROCOF, ⟨15, 0, .rw, 0x40, .wr⟩),
   (.ATU_SLEW_SLEW, ⟨31, 0, .rw, 0x55e64, .wr⟩),
   (.ATU_ADCSEL_SINGLE, ⟨31, 31, .rw, 0, .wr⟩),
   (.ATU_ADCSEL_AINC, ⟨22, 16, .rw, 0, .wr⟩),
   (.ATU_ADCSEL_AINB, ⟨14, 8, .rw, 0, .wr⟩),
   (.ATU_ADCSEL_AINA, ⟨6, 0, .rw, 0, .wr⟩),
   (.ATU_ADCMIN_ADCMIN, ⟨11, 0, .rw, 0xcc, .wr⟩),
   (.ATU_PHERR_PHERR, ⟨31, 0, .ro, 0, .wr⟩)]

def fldTable5 : List (Fld × FldSpec) :=
  [(.ATU_FRETNUM_FRETNUM, ⟨31, 0, .ro, 0, .wr⟩),
   (.ATU_FRETINIT_FRETINIT, ⟨31, 0, .rw, 0, .wr⟩),
   (.ATU_ANGLE_ANGLE, ⟨31, 0, .ro, 0, .wr⟩),
   (.ATU_BT_CNS_BTCNS, ⟨31, 0, .ro, 0, .wr⟩),
   (.ATU_SNAP_FRET_FRET, ⟨31, 0, .ro, 0, .wr⟩),
   (.ATU_SNAP_ANGLE_ANGLE, ⟨31, 0, .ro, 0, .wr⟩),
   (.ATU_SNAP_SECH_SECH, ⟨15, 0, .ro, 0, .wr⟩),
   (.ATU_SNAP_SECL_SECL, ⟨31, 0, .ro, 0, .wr⟩),
   (.ATU_SNAP_NS_NS, ⟨29, 0, .ro, 0, .wr⟩),
   (.ATU_TWIN_EPOCH, ⟨31, 16, .ro, 0, .wr⟩),
   (.ATU_TWIN_SYNCED, ⟨12, 12, .ro, 0, .wr⟩),
   (.ATU_TWIN_ROLE, ⟨10, 8, .ro, 0, .wr⟩),
   (.ATU_TWIN_HBMISS, ⟨3, 0, .ro, 0, .wr⟩),
   (.ATU_TWIN_LAST_LAST, ⟨31, 0, .ro, 0, .wr⟩),
   (.ATU_TWIN_TK_TK, ⟨31, 0, .ro, 0, .wr⟩),
   (.FRET_CTRL_SWAPMODE, ⟨9, 9, .rw, 0, .wr⟩),
   (.FRET_CTRL_SWAP, ⟨8, 8, .w1s, 0, .wr⟩),
   (.FRET_CTRL_EN, ⟨0, 0, .rw, 0, .wr⟩),
   (.FRET_STAT_SWAPCODE, ⟨27, 24, .ro, 0, .wr⟩),
   (.FRET_STAT_WRPEND, ⟨20, 20, .w1c, 0, .wr⟩),
   (.FRET_STAT_WRACT, ⟨19, 19, .w1c, 0, .wr⟩),
   (.FRET_STAT_DISERR, ⟨18, 18, .w1c, 0, .wr⟩),
   (.FRET_STAT_SWAPERR, ⟨17, 17, .w1c, 0, .wr⟩),
   (.FRET_STAT_SWAPDONE, ⟨16, 16, .w1c, 0, .wr⟩)]

def fldTable6 : List (Fld × FldSpec) :=
  [(.FRET_STAT_SWAPPEND, ⟨9, 9, .ro, 0, .wr⟩),
   (.FRET_STAT_VALIDATING, ⟨8, 8, .ro, 0, .wr⟩),
   (.FRET_STAT_ACTIVE, ⟨4, 4, .ro, 0, .wr⟩),
   (.FRET_STAT_ENST, ⟨1, 0, .ro, 0, .wr⟩),
   (.FRET_SWAPAT_SWAPAT, ⟨31, 0, .rw, 0, .wr⟩),
   (.FRET_PLEN_PLENSEL, ⟨2, 0, .rw, 0, .po⟩),
   (.FRET_SKIPMASK_SKIP, ⟨23, 0, .w1c, 0, .wr⟩),
   (.FRET_SKIPCNT_COUNT, ⟨15, 0, .rc, 0, .wr⟩),
   (.FRET_ADCOVR_OVR, ⟨7, 0, .w1c, 0, .wr⟩),
   (.MOD_CTRL_URST, ⟨4, 4, .wo, 0, .wr⟩),
   (.MOD_CTRL_UNLOCK, ⟨3, 3, .wo, 0, .wr⟩),
   (.MOD_CTRL_LOCK, ⟨2, 2, .w1s, 0, .wr⟩),
   (.MOD_CTRL_EN, ⟨0, 0, .rw, 0, .ur⟩),
   (.MOD_STAT_ULERR, ⟨18, 18, .w1c, 0, .wr⟩),
   (.MOD_STAT_LKERR, ⟨17, 17, .w1c, 0, .wr⟩),
   (.MOD_STAT_DISERR, ⟨16, 16, .w1c, 0, .wr⟩),
   (.MOD_STAT_ENST, ⟨1, 0, .ro, 0, .wr⟩),
   (.MOD_CFG_KEYH, ⟨20, 20, .rwl, 0, .wr⟩),
   (.MOD_CFG_KEYW, ⟨19, 16, .rwl, 0, .wr⟩),
   (.MOD_CFG_MINP, ⟨11, 0, .rwl, 0x1f4, .wr⟩),
   (.MOD_TCINC_CINC, ⟨31, 0, .rwl, 0, .wr⟩),
   (.MOD_TCB_TCB, ⟨31, 0, .ro, 0, .wr⟩),
   (.MOD_DABLIM_SLEW, ⟨31, 16, .rwl, 0x100, .wr⟩),
   (.MOD_DABLIM_PHIMAX, ⟨15, 0, .rwl, 0x4000, .wr⟩)]

def fldTable7 : List (Fld × FldSpec) :=
  [(.ARM_CFG_EN, ⟨31, 31, .rwl, 0, .wr⟩),
   (.ARM_CFG_OWNER, ⟨28, 24, .rwl, 0, .wr⟩),
   (.ARM_CFG_NCELL, ⟨13, 8, .rwl, 0, .wr⟩),
   (.ARM_CFG_K, ⟨5, 0, .rwl, 9, .wr⟩),
   (.ARM_BYPASS_BYP, ⟨31, 0, .rw, 0, .wr⟩),
   (.ARM_CBSRES_ADDR, ⟨15, 6, .rwl, 0, .wr⟩),
   (.ARM_STAT_LATECONV, ⟨18, 18, .w1c, 0, .wr⟩),
   (.ARM_STAT_CFGERR, ⟨17, 17, .w1c, 0, .wr⟩),
   (.ARM_STAT_CONV, ⟨16, 16, .w1c, 0, .wr⟩),
   (.ARM_STAT_ENST, ⟨1, 0, .ro, 0, .wr⟩),
   (.ARM_DEF_DEF, ⟨31, 0, .ro, 0, .wr⟩),
   (.ARM_CNT_CAP, ⟨31, 24, .rc, 0, .wr⟩),
   (.ARM_CNT_SHIFT, ⟨23, 16, .rc, 0, .wr⟩),
   (.ARM_CNT_DROP, ⟨15, 0, .rc, 0, .wr⟩),
   (.ARM_CNT2_DABCLIP, ⟨15, 0, .rc, 0, .wr⟩),
   (.ARM_MAP_LANE3, ⟨30, 24, .rwl, 0, .wr⟩),
   (.ARM_MAP_LANE2, ⟨22, 16, .rwl, 0, .wr⟩),
   (.ARM_MAP_LANE1, ⟨14, 8, .rwl, 0, .wr⟩),
   (.ARM_MAP_LANE0, ⟨6, 0, .rwl, 0, .wr⟩),
   (.CL_CTRL_DLYEN, ⟨8, 8, .rw, 1, .wr⟩),
   (.CL_CTRL_DLYPER, ⟨7, 4, .rw, 4, .wr⟩),
   (.CL_CTRL_RETRYEN, ⟨1, 1, .rw, 1, .wr⟩),
   (.CL_CTRL_EN, ⟨0, 0, .rw, 0, .wr⟩),
   (.CL_STAT_OWNERR, ⟨21, 21, .w1c, 0, .wr⟩)]

def fldTable8 : List (Fld × FldSpec) :=
  [(.CL_STAT_DLYJUMP, ⟨20, 20, .w1c, 0, .wr⟩),
   (.CL_STAT_DLYOVR, ⟨19, 19, .w1c, 0, .wr⟩),
   (.CL_STAT_EPOCHHI, ⟨18, 18, .w1c, 0, .wr⟩),
   (.CL_STAT_WRPEND, ⟨17, 17, .w1c, 0, .wr⟩),
   (.CL_STAT_WRACT, ⟨16, 16, .w1c, 0, .wr⟩),
   (.CL_STAT_MUTED, ⟨9, 9, .ro, 0, .wr⟩),
   (.CL_STAT_ACTIVE, ⟨8, 8, .ro, 0, .wr⟩),
   (.CL_STAT_ENST, ⟨1, 0, .ro, 0, .wr⟩),
   (.CL_CFG_OWNER, ⟨28, 24, .rwl, 0, .wr⟩),
   (.CL_CFG_CELLID, ⟨15, 0, .rwl, 0xffff, .wr⟩),
   (.CL_DELAY_VALID, ⟨31, 31, .ro, 0, .wr⟩),
   (.CL_DELAY_DLY, ⟨23, 0, .ro, 0, .wr⟩),
   (.CL_FCNT0_RETRY, ⟨31, 24, .rc, 0, .wr⟩),
   (.CL_FCNT0_NOACK, ⟨23, 16, .rc, 0, .wr⟩),
   (.CL_FCNT0_RETRYLATE, ⟨15, 8, .rc, 0, .wr⟩),
   (.CL_FCNT0_MISSCMD, ⟨7, 0, .rc, 0, .wr⟩),
   (.CL_FCNT1_LATE, ⟨31, 24, .rc, 0, .wr⟩),
   (.CL_FCNT1_RXERR, ⟨23, 16, .rc, 0, .wr⟩),
   (.CL_FCNT1_IDERR, ⟨15, 8, .rc, 0, .wr⟩),
   (.CL_FCNT1_TYPEERR, ⟨7, 0, .rc, 0, .wr⟩),
   (.CL_BCTRL_TXCHAN, ⟨23, 8, .rw, 0, .wr⟩),
   (.CL_BCTRL_RXFREE, ⟨7, 4, .w1s, 0, .wr⟩),
   (.CL_BCTRL_TXGO, ⟨3, 0, .w1s, 0, .wr⟩),
   (.CL_BSTAT_RXDROP, ⟨31, 24, .rc, 0, .wr⟩)]

def fldTable9 : List (Fld × FldSpec) :=
  [(.CL_BSTAT_RXVALID, ⟨7, 4, .ro, 0, .wr⟩),
   (.CL_BSTAT_TXBUSY, ⟨3, 0, .ro, 0, .wr⟩),
   (.CL_BRXHDR_SEQ1, ⟨31, 24, .ro, 0, .wr⟩),
   (.CL_BRXHDR_CHAN1, ⟨19, 16, .ro, 0, .wr⟩),
   (.CL_BRXHDR_SEQ0, ⟨15, 8, .ro, 0, .wr⟩),
   (.CL_BRXHDR_CHAN0, ⟨3, 0, .ro, 0, .wr⟩),
   (.CL_PHYCTRL_TRNTO, ⟨31, 24, .rw, 0xa, .wr⟩),
   (.CL_PHYCTRL_IDLEMAX, ⟨23, 16, .rw, 0x64, .wr⟩),
   (.CL_PHYCTRL_FXEN, ⟨11, 11, .rw, 1, .wr⟩),
   (.CL_PHYCTRL_EIREQ, ⟨10, 10, .rw, 0, .wr⟩),
   (.CL_PHYCTRL_RETRAIN, ⟨9, 9, .wo, 0, .wr⟩),
   (.CL_PHYCTRL_RXPOLAUTO, ⟨8, 8, .rw, 1, .wr⟩),
   (.CL_PHYCTRL_RXINV, ⟨7, 7, .rw, 0, .wr⟩),
   (.CL_PHYCTRL_TXINV, ⟨6, 6, .rw, 0, .wr⟩),
   (.CL_PHYCTRL_RATE, ⟨0, 0, .rw, 0, .wr⟩),
   (.CL_PHYSTAT_EIERR, ⟨20, 20, .w1c, 0, .wr⟩),
   (.CL_PHYSTAT_RATEERR, ⟨19, 19, .w1c, 0, .wr⟩),
   (.CL_PHYSTAT_TXEQERR, ⟨18, 18, .w1c, 0, .wr⟩),
   (.CL_PHYSTAT_LOSS, ⟨17, 17, .w1c, 0, .wr⟩),
   (.CL_PHYSTAT_RXINVST, ⟨8, 8, .ro, 0, .wr⟩),
   (.CL_PHYSTAT_LSTATE, ⟨2, 0, .ro, 0, .wr⟩),
   (.CL_TXEQ_SWING, ⟨15, 12, .rw, 8, .wr⟩),
   (.CL_TXEQ_POST, ⟨11, 7, .rw, 6, .wr⟩),
   (.CL_TXEQ_PRE, ⟨6, 3, .rw, 0, .wr⟩)]

def fldTable10 : List (Fld × FldSpec) :=
  [(.CL_RXEQ_ADAPT, ⟨8, 8, .rw, 1, .wr⟩),
   (.CL_RXEQ_PEAK, ⟨3, 0, .rw, 6, .wr⟩),
   (.CL_LINKCNT_TRNFAIL, ⟨31, 24, .rc, 0, .wr⟩),
   (.CL_LINKCNT_LOSSCNT, ⟨23, 16, .rc, 0, .wr⟩),
   (.CL_LINKCNT_CODEERR, ⟨15, 0, .rc, 0, .wr⟩),
   (.CL_PATCTRL_LOOP, ⟨15, 14, .rw, 0, .wr⟩),
   (.CL_PATCTRL_CHKINV, ⟨13, 13, .rw, 0, .wr⟩),
   (.CL_PATCTRL_GENINV, ⟨12, 12, .rw, 0, .wr⟩),
   (.CL_PATCTRL_CHKEN, ⟨11, 11, .rw, 0, .wr⟩),
   (.CL_PATCTRL_GENEN, ⟨10, 10, .rw, 0, .wr⟩),
   (.CL_PATCTRL_CHKSEL, ⟨7, 4, .rw, 0, .wr⟩),
   (.CL_PATCTRL_GENSEL, ⟨3, 0, .rw, 0, .wr⟩),
   (.CL_PATSTAT_TESTERR, ⟨2, 2, .w1c, 0, .wr⟩),
   (.CL_PATSTAT_LOCK, ⟨1, 1, .ro, 0, .wr⟩),
   (.CL_PATSTAT_LOSTLK, ⟨0, 0, .w1c, 0, .wr⟩),
   (.CL_PATERR_ERRCNT, ⟨31, 0, .rc, 0, .wr⟩),
   (.CL_UPAT0_UPAT0, ⟨31, 0, .rw, 0, .wr⟩),
   (.CL_UPAT1_UPAT1, ⟨31, 0, .rw, 0, .wr⟩),
   (.CLG_CTRL_CLRRM, ⟨17, 12, .rw, 0, .wr⟩),
   (.CLG_CTRL_CLRGO, ⟨9, 9, .w1s, 0, .wr⟩),
   (.CLG_CTRL_SWAP, ⟨8, 8, .w1s, 0, .wr⟩),
   (.CLG_CTRL_SWAPMODE, ⟨4, 4, .rw, 0, .wr⟩),
   (.CLG_CTRL_UNLOCK, ⟨1, 1, .wo, 0, .wr⟩),
   (.CLG_CTRL_LOCK, ⟨0, 0, .w1s, 0, .wr⟩)]

def fldTable11 : List (Fld × FldSpec) :=
  [(.CLG_STAT_SWAPCODE, ⟨27, 24, .ro, 0, .wr⟩),
   (.CLG_STAT_ULERR, ⟨21, 21, .w1c, 0, .wr⟩),
   (.CLG_STAT_LKERR, ⟨20, 20, .w1c, 0, .wr⟩),
   (.CLG_STAT_CLRERR, ⟨19, 19, .w1c, 0, .wr⟩),
   (.CLG_STAT_CLRDONE, ⟨18, 18, .w1c, 0, .wr⟩),
   (.CLG_STAT_SWAPERR, ⟨17, 17, .w1c, 0, .wr⟩),
   (.CLG_STAT_SWAPDONE, ⟨16, 16, .w1c, 0, .wr⟩),
   (.CLG_STAT_WRPEND, ⟨10, 10, .w1c, 0, .wr⟩),
   (.CLG_STAT_SWAPPEND, ⟨9, 9, .ro, 0, .wr⟩),
   (.CLG_STAT_VALIDATING, ⟨8, 8, .ro, 0, .wr⟩),
   (.CLG_SWAPAT_SWAPAT, ⟨31, 0, .rw, 0, .wr⟩),
   (.CLG_SWAPMASK_MASK, ⟨31, 0, .rw, 0, .wr⟩),
   (.CLG_CLRMASK_MASK, ⟨31, 0, .rw, 0, .wr⟩),
   (.CLG_ARMTOK_TOK, ⟨15, 0, .rwl, 0, .wr⟩),
   (.CLG_EPOCH_EPOCH, ⟨15, 0, .rwl, 0, .bk⟩),
   (.CLG_DMAX_DMAX, ⟨11, 0, .rwl, 0x1f4, .wr⟩),
   (.CLG_NODE_NODE, ⟨15, 0, .rwl, 0, .wr⟩),
   (.CMP_CTRL_OINV, ⟨15, 15, .rwl, 0, .wr⟩),
   (.CMP_CTRL_OSEL, ⟨14, 14, .rwl, 0, .wr⟩),
   (.CMP_CTRL_HYST, ⟨11, 8, .rwl, 0, .wr⟩),
   (.CMP_CTRL_SAMP, ⟨4, 4, .rwl, 0, .wr⟩),
   (.CMP_CTRL_LOEN, ⟨3, 3, .rwl, 0, .wr⟩),
   (.CMP_CTRL_HIEN, ⟨2, 2, .rwl, 0, .wr⟩),
   (.CMP_CTRL_EN, ⟨0, 0, .rw, 0, .wr⟩)]

def fldTable12 : List (Fld × FldSpec) :=
  [(.CMP_THRH_THR, ⟨9, 0, .rw, 0x3ff, .wr⟩),
   (.CMP_THRL_THR, ⟨9, 0, .rw, 0, .wr⟩),
   (.CMP_FILT_TICKDIV, ⟨31, 16, .rwl, 0, .wr⟩),
   (.CMP_FILT_FILT, ⟨3, 0, .rwl, 0, .wr⟩),
   (.CMP_BLANK_BLKPW, ⟨28, 24, .rwl, 0, .wr⟩),
   (.CMP_BLANK_BLKEDGE, ⟨17, 16, .rwl, 0, .wr⟩),
   (.CMP_BLANK_BLKLEN, ⟨11, 0, .rwl, 0, .wr⟩),
   (.CMP_STATUS_DISERR, ⟨17, 17, .w1c, 0, .wr⟩),
   (.CMP_STATUS_WINERR, ⟨16, 16, .ro, 0, .wr⟩),
   (.CMP_STATUS_LOSIDE, ⟨6, 6, .ro, 0, .wr⟩),
   (.CMP_STATUS_LATCH, ⟨4, 4, .ro, 0, .wr⟩),
   (.CMP_STATUS_STATE, ⟨3, 2, .ro, 0, .wr⟩),
   (.CMP_STATUS_ENST, ⟨1, 0, .ro, 0, .wr⟩),
   (.TPIN_CTRL_POL, ⟨4, 4, .rwl, 0, .wr⟩),
   (.TPIN_CTRL_EN, ⟨0, 0, .rw, 0, .wr⟩),
   (.TPIN_FILT_TICKDIV, ⟨31, 16, .rwl, 0, .wr⟩),
   (.TPIN_FILT_FILT, ⟨3, 0, .rwl, 0, .wr⟩),
   (.TPIN_BLANK_BLKPW, ⟨28, 24, .rwl, 0, .wr⟩),
   (.TPIN_BLANK_BLKEDGE, ⟨17, 16, .rwl, 0, .wr⟩),
   (.TPIN_BLANK_BLKLEN, ⟨11, 0, .rwl, 0, .wr⟩),
   (.TPIN_STATUS_DISERR, ⟨17, 17, .w1c, 0, .wr⟩),
   (.TPIN_STATUS_LATCH, ⟨4, 4, .ro, 0, .wr⟩),
   (.TPIN_STATUS_STATE, ⟨3, 2, .ro, 0, .wr⟩),
   (.TPIN_STATUS_ENST, ⟨1, 0, .ro, 0, .wr⟩)]

def fldTable13 : List (Fld × FldSpec) :=
  [(.TRIP_CTRL_MCLR, ⟨9, 9, .wo, 0, .wr⟩),
   (.TRIP_CTRL_UNLOCK, ⟨1, 1, .wo, 0, .wr⟩),
   (.TRIP_CTRL_LOCK, ⟨0, 0, .w1s, 0, .wr⟩),
   (.TRIP_STAT_CLRSRC, ⟨23, 17, .ro, 0, .wr⟩),
   (.TRIP_STAT_ULERR, ⟨16, 16, .w1c, 0, .wr⟩),
   (.TRIP_STAT_LKERR, ⟨15, 15, .w1c, 0, .wr⟩),
   (.TRIP_STAT_MCLRFAIL, ⟨14, 14, .w1c, 0, .wr⟩),
   (.TRIP_STAT_CLRFAIL, ⟨13, 13, .w1c, 0, .wr⟩),
   (.TRIP_STAT_UNRES, ⟨5, 5, .ro, 0, .wr⟩),
   (.TRIP_STAT_FG, ⟨4, 1, .ro, 0, .wr⟩),
   (.TRIP_STAT_MSTATE, ⟨0, 0, .ro, 0, .wr⟩),
   (.TRIP_LAT0_CMP, ⟨31, 0, .w1c, 0, .wr⟩),
   (.TRIP_LAT1_SW, ⟨31, 8, .w1c, 0, .wr⟩),
   (.TRIP_LAT1_PIN, ⟨7, 0, .w1c, 0, .wr⟩),
   (.TRIP_LAT2_CLKLOSS, ⟨4, 4, .w1c, 0, .wr⟩),
   (.TRIP_LAT2_TWIN, ⟨3, 3, .w1c, 0, .wr⟩),
   (.TRIP_LAT2_THERMAL, ⟨2, 2, .w1c, 0, .wr⟩),
   (.TRIP_LAT2_SAFETY, ⟨1, 1, .w1c, 0, .wr⟩),
   (.TRIP_LAT2_SUP, ⟨0, 0, .w1c, 0, .wr⟩),
   (.TRIP_RMASK_RMASK, ⟨5, 0, .ro, 0, .wr⟩),
   (.TRIP_FIRST_VALID, ⟨31, 31, .w1c, 0, .po⟩),
   (.TRIP_FIRST_MULTI, ⟨8, 8, .ro, 0, .po⟩),
   (.TRIP_FIRST_SRC, ⟨6, 0, .ro, 0, .po⟩),
   (.TRIP_FIRST_FRET_FRET, ⟨31, 0, .ro, 0, .po⟩)]

def fldTable14 : List (Fld × FldSpec) :=
  [(.TRIP_FIRST_CNS_CNS, ⟨31, 0, .ro, 0, .po⟩),
   (.TRIP_SUPREQ_REQ, ⟨0, 0, .wo, 0, .wr⟩),
   (.TRIP_SWROUTE_MUTE, ⟨8, 8, .rwl, 0, .wr⟩),
   (.TRIP_SWROUTE_FG, ⟨3, 0, .rwl, 0, .wr⟩),
   (.TRIP_SUPROUTE_MUTE, ⟨8, 8, .rwl, 0, .wr⟩),
   (.TRIP_SUPROUTE_FG, ⟨3, 0, .rwl, 0, .wr⟩),
   (.TRIP_ROUTE_MUTE, ⟨8, 8, .rwl, 0, .wr⟩),
   (.TRIP_ROUTE_FG, ⟨3, 0, .rwl, 0, .wr⟩),
   (.TRIP_SWREQ_REQ, ⟨0, 0, .wo, 0, .wr⟩),
   (.PW_CTRL_IMMDIS, ⟨1, 1, .rw, 0, .wr⟩),
   (.PW_CTRL_EN, ⟨0, 0, .rw, 0, .wr⟩),
   (.PW_CFG_SYNCPW, ⟨28, 24, .rwl, 0, .wr⟩),
   (.PW_CFG_SYNC, ⟨20, 20, .rwl, 0, .wr⟩),
   (.PW_CFG_DSTATE, ⟨17, 16, .rwl, 0, .wr⟩),
   (.PW_CFG_MINP_MODE, ⟨9, 9, .rwl, 0, .wr⟩),
   (.PW_CFG_POLL, ⟨5, 5, .rwl, 0, .wr⟩),
   (.PW_CFG_POLH, ⟨4, 4, .rwl, 0, .wr⟩),
   (.PW_CFG_MODE, ⟨0, 0, .rwl, 0, .wr⟩),
   (.PW_PRD_PRD, ⟨15, 0, .rw, 0xf9f, .wr⟩),
   (.PW_PHS_PHS, ⟨15, 0, .rw, 0, .wr⟩),
   (.PW_CMPA_CNT, ⟨21, 6, .rw, 0, .wr⟩),
   (.PW_CMPA_FINE, ⟨5, 0, .rw, 0, .wr⟩),
   (.PW_CMPB_CNT, ⟨21, 6, .rw, 0, .wr⟩),
   (.PW_CMPB_FINE, ⟨5, 0, .rw, 0, .wr⟩)]

def fldTable15 : List (Fld × FldSpec) :=
  [(.PW_TRGA_EN, ⟨31, 31, .rw, 0, .wr⟩),
   (.PW_TRGA_DIR, ⟨30, 30, .rw, 0, .wr⟩),
   (.PW_TRGA_CNT, ⟨21, 6, .rw, 0, .wr⟩),
   (.PW_TRGB_EN, ⟨31, 31, .rw, 0, .wr⟩),
   (.PW_TRGB_DIR, ⟨30, 30, .rw, 0, .wr⟩),
   (.PW_TRGB_CNT, ⟨21, 6, .rw, 0, .wr⟩),
   (.PW_DT_FALL, ⟨23, 16, .rwl, 0x28, .wr⟩),
   (.PW_DT_RISE, ⟨7, 0, .rwl, 0x28, .wr⟩),
   (.PW_MINP_MINP, ⟨7, 0, .rwl, 0, .wr⟩),
   (.PW_TRIP_CLR, ⟨20, 20, .wo, 0, .wr⟩),
   (.PW_TRIP_CLRFAIL, ⟨19, 19, .w1c, 0, .wr⟩),
   (.PW_TRIP_CLKLOSS, ⟨18, 18, .ro, 0, .wr⟩),
   (.PW_TRIP_TRIPPED, ⟨17, 17, .ro, 0, .wr⟩),
   (.PW_TRIP_TSTATE, ⟨13, 12, .rwl, 0, .wr⟩),
   (.PW_TRIP_FGSEL, ⟨3, 0, .rwl, 0, .wr⟩),
   (.PW_CBC_EN, ⟨31, 31, .rwl, 0, .wr⟩),
   (.PW_CBC_CMP, ⟨28, 24, .rwl, 0, .wr⟩),
   (.PW_CBC_BLK, ⟨11, 0, .rwl, 0, .wr⟩),
   (.PW_OVR_OVRL, ⟨3, 2, .rw, 0, .wr⟩),
   (.PW_OVR_OVRH, ⟨1, 0, .rw, 0, .wr⟩),
   (.PW_STAT_OVRERR, ⟨20, 20, .w1c, 0, .wr⟩),
   (.PW_STAT_CFGERR, ⟨19, 19, .w1c, 0, .wr⟩),
   (.PW_STAT_XCONF, ⟨18, 18, .w1c, 0, .wr⟩),
   (.PW_STAT_XCONFST, ⟨9, 9, .ro, 0, .wr⟩)]

def fldTable16 : List (Fld × FldSpec) :=
  [(.PW_STAT_FROZEN, ⟨8, 8, .ro, 0, .wr⟩),
   (.PW_STAT_HON, ⟨5, 5, .ro, 0, .wr⟩),
   (.PW_STAT_LON, ⟨4, 4, .ro, 0, .wr⟩),
   (.PW_STAT_ENST, ⟨1, 0, .ro, 0, .wr⟩),
   (.PW_CNT_DOWN, ⟨16, 16, .ro, 0, .wr⟩),
   (.PW_CNT_CNT, ⟨15, 0, .ro, 0, .wr⟩),
   (.PW_SUPCNT_CBC, ⟨31, 16, .rc, 0, .wr⟩),
   (.PW_SUPCNT_SUP, ⟨15, 0, .rc, 0, .wr⟩),
   (.PW_MCNT_DROP, ⟨31, 16, .rc, 0, .wr⟩),
   (.PW_MCNT_STRETCH, ⟨15, 0, .rc, 0, .wr⟩),
   (.PWM_CTRL_UNLOCK, ⟨1, 1, .wo, 0, .wr⟩),
   (.PWM_CTRL_LOCK, ⟨0, 0, .w1s, 0, .wr⟩),
   (.PWM_STAT_ULERR, ⟨17, 17, .w1c, 0, .wr⟩),
   (.PWM_STAT_LKERR, ⟨16, 16, .w1c, 0, .wr⟩),
   (.PWM_STAT_OWNER, ⟨0, 0, .ro, 0, .wr⟩),
   (.PWM_HOLD_HOLD, ⟨23, 0, .rw, 0, .wr⟩),
   (.PWM_START_START, ⟨23, 0, .wo, 0, .wr⟩),
   (.AD_CTRL_URST, ⟨16, 16, .wo, 0, .wr⟩),
   (.AD_CTRL_SWGO, ⟨11, 8, .wo, 0, .wr⟩),
   (.AD_CTRL_EN, ⟨0, 0, .rw, 0, .ur⟩),
   (.AD_STAT_TDACERR, ⟨25, 25, .w1c, 0, .wr⟩),
   (.AD_STAT_DISERR, ⟨24, 24, .w1c, 0, .wr⟩),
   (.AD_STAT_CFGERR, ⟨23, 20, .w1c, 0, .wr⟩),
   (.AD_STAT_OVR, ⟨19, 16, .w1c, 0, .wr⟩)]

def fldTable17 : List (Fld × FldSpec) :=
  [(.AD_STAT_CURLIST, ⟨6, 5, .ro, 0, .wr⟩),
   (.AD_STAT_BUSY, ⟨4, 4, .ro, 0, .wr⟩),
   (.AD_STAT_ENST, ⟨1, 0, .ro, 0, .wr⟩),
   (.AD_TDAC_EN, ⟨31, 31, .rw, 0, .wr⟩),
   (.AD_TDAC_MODE, ⟨30, 30, .rwl, 0, .wr⟩),
   (.AD_TDAC_TMASK, ⟨27, 16, .rwl, 0, .wr⟩),
   (.AD_TDAC_VAL, ⟨9, 0, .rw, 0, .wr⟩),
   (.AD_LCFG_EVT, ⟨21, 16, .rwl, 0, .wr⟩),
   (.AD_LCFG_TRGEN, ⟨15, 15, .rwl, 0, .wr⟩),
   (.AD_LCFG_DIR, ⟨12, 12, .rwl, 0, .wr⟩),
   (.AD_LCFG_MASK, ⟨11, 0, .rwl, 0, .wr⟩),
   (.AD_LBUF_MODE, ⟨31, 31, .rwl, 0, .wr⟩),
   (.AD_LBUF_ENG, ⟨28, 24, .rwl, 0, .wr⟩),
   (.AD_LBUF_BASE, ⟨15, 2, .rwl, 0, .wr⟩),
   (.AD_LLEN_LEN, ⟨14, 0, .rwl, 0, .wr⟩),
   (.AD_LWPTR_SEQ, ⟨31, 24, .ro, 0, .wr⟩),
   (.AD_LWPTR_PTR, ⟨15, 2, .ro, 0, .wr⟩),
   (.ADC_CTRL_UNLOCK, ⟨1, 1, .wo, 0, .wr⟩),
   (.ADC_CTRL_LOCK, ⟨0, 0, .w1s, 0, .wr⟩),
   (.ADC_STAT_ULERR, ⟨17, 17, .w1c, 0, .wr⟩),
   (.ADC_STAT_LKERR, ⟨16, 16, .w1c, 0, .wr⟩),
   (.AUX_CTRL_HOLD, ⟨2, 2, .rw, 0, .wr⟩),
   (.AUX_CTRL_UNLOCK, ⟨1, 1, .wo, 0, .wr⟩),
   (.AUX_CTRL_LOCK, ⟨0, 0, .w1s, 0, .wr⟩)]

def fldTable18 : List (Fld × FldSpec) :=
  [(.AUX_STAT_ULERR, ⟨19, 19, .w1c, 0, .wr⟩),
   (.AUX_STAT_LKERR, ⟨18, 18, .w1c, 0, .wr⟩),
   (.AUX_STAT_LINKLOSS, ⟨17, 17, .w1c, 0, .wr⟩),
   (.AUX_STAT_ASHORT, ⟨2, 2, .ro, 0, .wr⟩),
   (.AUX_STAT_VDRVUV, ⟨1, 1, .ro, 0, .wr⟩),
   (.AUX_STAT_VHVUV, ⟨0, 0, .ro, 0, .wr⟩),
   (.AUX_PRD_PRD, ⟨14, 0, .rwl, 0x1387, .wr⟩),
   (.AUXH_CTRL_EN, ⟨0, 0, .rw, 0, .wr⟩),
   (.AUXH_CFG_DESATV, ⟨18, 16, .rwl, 4, .wr⟩),
   (.AUXH_CFG_BLANK, ⟨11, 8, .rwl, 6, .wr⟩),
   (.AUXH_CFG_DT, ⟨7, 0, .rwl, 0xa, .wr⟩),
   (.AUXH_DUTY_HON, ⟨14, 0, .rw, 0, .wr⟩),
   (.AUXH_OVR_OVRL, ⟨3, 2, .rw, 0, .wr⟩),
   (.AUXH_OVR_OVRH, ⟨1, 0, .rw, 0, .wr⟩),
   (.AUXH_STAT_XCONF, ⟨18, 18, .w1c, 0, .wr⟩),
   (.AUXH_STAT_DESAT, ⟨17, 17, .w1c, 0, .wr⟩),
   (.AUXH_STAT_BSUV, ⟨16, 16, .w1c, 0, .wr⟩),
   (.AUXH_STAT_XCONFST, ⟨2, 2, .ro, 0, .wr⟩),
   (.AUXH_STAT_ENST, ⟨1, 0, .ro, 0, .wr⟩),
   (.AUXH_FCNT_DESAT, ⟨31, 24, .rc, 0, .wr⟩),
   (.AUXH_FCNT_BSUV, ⟨23, 16, .rc, 0, .wr⟩),
   (.AUXH_FCNT_CLAMP, ⟨15, 0, .rc, 0, .wr⟩),
   (.VREG_VID_VID, ⟨7, 0, .rw, 0x96, .po⟩),
   (.VREG_CFG_SYNCEN, ⟨20, 20, .rw, 1, .po⟩)]

def fldTable19 : List (Fld × FldSpec) :=
  [(.VREG_CFG_NPH, ⟨17, 16, .rw, 3, .po⟩),
   (.VREG_CFG_HYS, ⟨15, 12, .rw, 5, .po⟩),
   (.VREG_CFG_FSW, ⟨6, 0, .rw, 0x32, .po⟩),
   (.VREG_SLEW_STEP, ⟨7, 0, .rw, 0xf, .po⟩),
   (.VREG_SS_PGFILT, ⟨15, 8, .rw, 0x10, .po⟩),
   (.VREG_SS_SSTO, ⟨3, 0, .rw, 8, .po⟩),
   (.VREG_STAT_REF, ⟨31, 24, .ro, 0, .po⟩),
   (.VREG_STAT_HICCUPS, ⟨23, 20, .ro, 0, .po⟩),
   (.VREG_STAT_VIDERR, ⟨19, 19, .w1c, 0, .po⟩),
   (.VREG_STAT_OVP, ⟨18, 18, .w1c, 0, .po⟩),
   (.VREG_STAT_SYNCLOST, ⟨17, 17, .w1c, 0, .po⟩),
   (.VREG_STAT_SYNCACT, ⟨4, 4, .ro, 0, .po⟩),
   (.VREG_STAT_PGOOD, ⟨3, 3, .ro, 0, .po⟩),
   (.VREG_STAT_SSTATE, ⟨1, 0, .ro, 0, .po⟩),
   (.VREG_CNT_ILIM, ⟨15, 0, .rc, 0, .po⟩),
   (.SER_STAT_FAULTIDX, ⟨26, 24, .ro, 0, .po⟩),
   (.SER_STAT_FAULT, ⟨23, 16, .ro, 0, .po⟩),
   (.SER_STAT_NEWREC, ⟨15, 15, .ro, 0, .po⟩),
   (.SER_STAT_RECERR, ⟨14, 14, .ro, 0, .po⟩),
   (.SER_STAT_CONFIRMED, ⟨13, 13, .ro, 0, .po⟩),
   (.SER_STAT_PERMIT, ⟨12, 12, .ro, 0, .po⟩),
   (.SER_STAT_SOUTST, ⟨11, 8, .ro, 0, .po⟩),
   (.SER_STAT_STATE, ⟨3, 0, .ro, 0, .po⟩),
   (.SER_SIN_DEMAND, ⟨23, 16, .ro, 0, .po⟩)]

def fldTable20 : List (Fld × FldSpec) :=
  [(.SER_SIN_FILTERED, ⟨15, 8, .ro, 0, .po⟩),
   (.SER_SIN_RAW, ⟨7, 0, .ro, 0, .po⟩),
   (.SER_PCRC_PCRC, ⟨31, 0, .ro, 0, .po⟩),
   (.SER_CONF_CONF, ⟨31, 0, .ro, 0, .po⟩),
   (.SER_STARTUP_SOUTOK, ⟨23, 20, .ro, 0, .po⟩),
   (.SER_STARTUP_TPOOK, ⟨19, 16, .ro, 0, .po⟩),
   (.SER_STARTUP_OPENSEEN, ⟨15, 8, .ro, 0, .po⟩),
   (.SER_STARTUP_DONE, ⟨7, 0, .ro, 0, .po⟩),
   (.SER_TEST_NOTDONE, ⟨31, 16, .ro, 0, .po⟩),
   (.SER_TEST_TESTRES, ⟨1, 0, .ro, 0, .po⟩),
   (.SER_CNT_DEMCNT, ⟨31, 16, .ro, 0, .po⟩),
   (.SER_CNT_REFUSED, ⟨15, 0, .ro, 0, .po⟩),
   (.SER_VER_VERSION, ⟨31, 0, .ro, 0, .po⟩),
   (.HP_CTRL_TXTS, ⟨5, 5, .rw, 0, .wr⟩),
   (.HP_CTRL_ANEN, ⟨4, 4, .rw, 1, .wr⟩),
   (.HP_CTRL_MODE, ⟨3, 2, .rw, 1, .wr⟩),
   (.HP_CTRL_EN, ⟨0, 0, .rw, 0, .wr⟩),
   (.HP_STAT_MODEERR, ⟨19, 19, .w1c, 0, .wr⟩),
   (.HP_STAT_HDXERR, ⟨18, 18, .w1c, 0, .wr⟩),
   (.HP_STAT_TSQ_OVF, ⟨17, 17, .w1c, 0, .wr⟩),
   (.HP_STAT_SPEED, ⟨8, 7, .ro, 2, .wr⟩),
   (.HP_STAT_PSTATE, ⟨6, 4, .ro, 0, .wr⟩),
   (.HP_STAT_ENST, ⟨1, 0, .ro, 0, .wr⟩),
   (.HP_MAXLEN_MAXLEN, ⟨13, 0, .rw, 0x600, .wr⟩)]

def fldTable21 : List (Fld × FldSpec) :=
  [(.HP_TSLAT_TXLAT, ⟨31, 16, .rw, 0x58, .wr⟩),
   (.HP_TSLAT_RXLAT, ⟨15, 0, .rw, 0xb0, .wr⟩),
   (.HP_TSQID_VALID, ⟨31, 31, .ro, 0, .wr⟩),
   (.HP_TSQID_TSID, ⟨15, 0, .ro, 0, .wr⟩),
   (.HP_TSQTS_CNS, ⟨31, 0, .rc, 0, .wr⟩),
   (.HP_TQ0BASE_ADDR, ⟨31, 12, .rw, 0, .wr⟩),
   (.HP_TQ0BASE_LOG2N, ⟨3, 0, .rw, 4, .wr⟩),
   (.HP_TQ0IDX_TAIL, ⟨31, 16, .rw, 0, .wr⟩),
   (.HP_TQ0IDX_HEAD, ⟨15, 0, .ro, 0, .wr⟩),
   (.HP_TQ1BASE_ADDR, ⟨31, 12, .rw, 0, .wr⟩),
   (.HP_TQ1BASE_LOG2N, ⟨3, 0, .rw, 4, .wr⟩),
   (.HP_TQ1IDX_TAIL, ⟨31, 16, .rw, 0, .wr⟩),
   (.HP_TQ1IDX_HEAD, ⟨15, 0, .ro, 0, .wr⟩),
   (.HP_RQBASE_ADDR, ⟨31, 12, .rw, 0, .wr⟩),
   (.HP_RQBASE_LOG2N, ⟨3, 0, .rw, 4, .wr⟩),
   (.HP_RQIDX_TAIL, ⟨31, 16, .rw, 0, .wr⟩),
   (.HP_RQIDX_HEAD, ⟨15, 0, .ro, 0, .wr⟩),
   (.HP_ERRCNT_RXFULL, ⟨31, 16, .rc, 0, .wr⟩),
   (.HP_ERRCNT_RXBAD, ⟨15, 0, .rc, 0, .wr⟩),
   (.HP_PRP_EN, ⟨31, 31, .rw, 0, .wr⟩),
   (.HP_PRP_FORGET, ⟨9, 0, .rw, 0x190, .wr⟩),
   (.HP_PRPCNT_EVICT, ⟨31, 16, .rc, 0, .wr⟩),
   (.HP_PRPCNT_WRONGLAN, ⟨15, 0, .rc, 0, .wr⟩),
   (.HP_TXEQ_SWING, ⟨15, 12, .rw, 8, .wr⟩)]

def fldTable22 : List (Fld × FldSpec) :=
  [(.HP_TXEQ_POST, ⟨11, 7, .rw, 6, .wr⟩),
   (.HP_TXEQ_PRE, ⟨6, 3, .rw, 0, .wr⟩),
   (.HP_RXEQ_ADAPT, ⟨8, 8, .rw, 1, .wr⟩),
   (.HP_RXEQ_PEAK, ⟨3, 0, .rw, 6, .wr⟩),
   (.HP_PATCTRL_LOOP, ⟨15, 14, .rw, 0, .wr⟩),
   (.HP_PATCTRL_CHKINV, ⟨13, 13, .rw, 0, .wr⟩),
   (.HP_PATCTRL_GENINV, ⟨12, 12, .rw, 0, .wr⟩),
   (.HP_PATCTRL_CHKEN, ⟨11, 11, .rw, 0, .wr⟩),
   (.HP_PATCTRL_GENEN, ⟨10, 10, .rw, 0, .wr⟩),
   (.HP_PATCTRL_CHKSEL, ⟨7, 4, .rw, 0, .wr⟩),
   (.HP_PATCTRL_GENSEL, ⟨3, 0, .rw, 0, .wr⟩),
   (.HP_PATSTAT_TESTERR, ⟨2, 2, .w1c, 0, .wr⟩),
   (.HP_PATSTAT_LOCK, ⟨1, 1, .ro, 0, .wr⟩),
   (.HP_PATSTAT_LOSTLK, ⟨0, 0, .w1c, 0, .wr⟩),
   (.HP_PATERR_ERRCNT, ⟨31, 0, .rc, 0, .wr⟩),
   (.HP_UPAT0_UPAT0, ⟨31, 0, .rw, 0, .wr⟩),
   (.HP_UPAT1_UPAT1, ⟨31, 0, .rw, 0, .wr⟩),
   (.TIME_CTRL_STEP, ⟨1, 1, .wo, 0, .wr⟩),
   (.TIME_CTRL_SET, ⟨0, 0, .wo, 0, .wr⟩),
   (.TIME_STAT_STEPCNT, ⟨31, 16, .ro, 0, .po⟩),
   (.TIME_STAT_SETERR, ⟨1, 1, .w1c, 0, .po⟩),
   (.TIME_STAT_VALID, ⟨0, 0, .ro, 0, .po⟩),
   (.TIME_INC_INC, ⟨31, 0, .rw, 0x80000000, .po⟩),
   (.TIME_SECH_SECH, ⟨15, 0, .ro, 0, .po⟩)]

def fldTable23 : List (Fld × FldSpec) :=
  [(.TIME_SECL_SECL, ⟨31, 0, .ro, 0, .po⟩),
   (.TIME_NS_NS, ⟨29, 0, .ro, 0, .po⟩),
   (.TIME_CNS_CNS, ⟨31, 0, .ro, 0, .po⟩),
   (.TIME_WSECH_SECH, ⟨15, 0, .rw, 0, .po⟩),
   (.TIME_WSECL_SECL, ⟨31, 0, .rw, 0, .po⟩),
   (.TIME_WNS_NS, ⟨29, 0, .rw, 0, .po⟩),
   (.TIME_STEPNS_STEPNS, ⟨31, 0, .rw, 0, .po⟩),
   (.TOUT_CTRL_MISSED, ⟨17, 17, .w1c, 0, .po⟩),
   (.TOUT_CTRL_CFGERR, ⟨16, 16, .w1c, 0, .po⟩),
   (.TOUT_CTRL_ENST, ⟨5, 4, .ro, 0, .po⟩),
   (.TOUT_CTRL_POL, ⟨2, 2, .rw, 0, .po⟩),
   (.TOUT_CTRL_MODE, ⟨1, 1, .rw, 0, .po⟩),
   (.TOUT_CTRL_EN, ⟨0, 0, .rw, 0, .wr⟩),
   (.TOUT_SSEC_SSEC, ⟨31, 0, .rw, 0, .po⟩),
   (.TOUT_SNS_SNS, ⟨29, 0, .rw, 0, .po⟩),
   (.TOUT_PER_PER, ⟨31, 0, .rw, 0, .po⟩),
   (.TOUT_WID_WID, ⟨31, 0, .rw, 0, .po⟩),
   (.SVF_CTRL_EN, ⟨31, 31, .rw, 0, .po⟩),
   (.SVF_CTRL_PORTS, ⟨11, 8, .rw, 0, .po⟩),
   (.SVF_CTRL_VCH, ⟨2, 0, .rw, 4, .po⟩),
   (.SVF_MATCH_DSTLO, ⟨31, 16, .rw, 0, .po⟩),
   (.SVF_MATCH_APPID, ⟨15, 0, .rw, 0, .po⟩),
   (.SVF_RING_ADDR, ⟨31, 12, .rw, 0, .po⟩),
   (.SVF_RING_LOG2N, ⟨3, 0, .rw, 4, .po⟩)]

def fldTable24 : List (Fld × FldSpec) :=
  [(.SVF_IDX_WIDX, ⟨15, 0, .ro, 0, .po⟩),
   (.SVF_CNT_MISS, ⟨31, 16, .rc, 0, .po⟩),
   (.SVF_CNT_BAD, ⟨15, 0, .rc, 0, .po⟩),
   (.JNL_STAT_SESSIONS, ⟨31, 24, .ro, 0, .wr⟩),
   (.JNL_STAT_CONSERR, ⟨17, 17, .w1c, 0, .wr⟩),
   (.JNL_STAT_MIRFAIL, ⟨16, 16, .w1c, 0, .wr⟩),
   (.JNL_STAT_SOLO, ⟨9, 9, .ro, 0, .wr⟩),
   (.JNL_STAT_REPLAYING, ⟨8, 8, .ro, 0, .wr⟩),
   (.JNL_STAT_ENST, ⟨1, 0, .ro, 0, .wr⟩),
   (.JNL_HEADLO_HEAD, ⟨31, 0, .ro, 0, .wr⟩),
   (.JNL_HEADHI_HEAD, ⟨31, 0, .ro, 0, .wr⟩),
   (.JNL_DONELO_DONE, ⟨31, 0, .ro, 0, .wr⟩),
   (.JNL_DONEHI_DONE, ⟨31, 0, .ro, 0, .wr⟩),
   (.JNL_USED_USED, ⟨16, 0, .ro, 0, .wr⟩),
   (.JNL_CNT0_BADTAG, ⟨31, 16, .rc, 0, .wr⟩),
   (.JNL_CNT0_NEEDSEQ, ⟨15, 0, .rc, 0, .wr⟩),
   (.JNL_CNT1_FULL, ⟨31, 16, .rc, 0, .wr⟩),
   (.JNL_CNT1_DUP, ⟨15, 0, .rc, 0, .wr⟩),
   (.MIR_CTRL_EN, ⟨8, 8, .rw, 0, .wr⟩),
   (.MIR_CTRL_CLAIM, ⟨3, 3, .wo, 0, .wr⟩),
   (.MIR_CTRL_HANDOVER, ⟨2, 2, .w1s, 0, .wr⟩),
   (.MIR_CTRL_UNLOCK, ⟨1, 1, .wo, 0, .wr⟩),
   (.MIR_CTRL_LOCK, ⟨0, 0, .w1s, 0, .wr⟩),
   (.MIR_CFG_PAIR, ⟨31, 31, .rwl, 0, .wr⟩)]

def fldTable25 : List (Fld × FldSpec) :=
  [(.MIR_CFG_SIDE, ⟨30, 30, .rwl, 0, .wr⟩),
   (.MIR_CFG_AUTOTK, ⟨29, 29, .rwl, 1, .wr⟩),
   (.MIR_CFG_PWALIGN, ⟨28, 28, .rwl, 0, .wr⟩),
   (.MIR_CFG_PWMASTER, ⟨20, 16, .rwl, 0, .wr⟩),
   (.MIR_CFG_MOFF, ⟨15, 0, .rwl, 0x8000, .wr⟩),
   (.MIR_STAT_ULERR, ⟨24, 24, .w1c, 0, .wr⟩),
   (.MIR_STAT_FOREIGN, ⟨23, 23, .w1c, 0, .wr⟩),
   (.MIR_STAT_SIDEERR, ⟨22, 22, .w1c, 0, .wr⟩),
   (.MIR_STAT_HOERR, ⟨21, 21, .w1c, 0, .wr⟩),
   (.MIR_STAT_TKDONE, ⟨20, 20, .w1c, 0, .wr⟩),
   (.MIR_STAT_YIELD, ⟨19, 19, .w1c, 0, .wr⟩),
   (.MIR_STAT_CLAIMERR, ⟨18, 18, .w1c, 0, .wr⟩),
   (.MIR_STAT_TKBLK, ⟨17, 16, .ro, 0, .wr⟩),
   (.MIR_STAT_SYNCED, ⟨12, 12, .ro, 0, .wr⟩),
   (.MIR_STAT_MIRUP, ⟨11, 11, .ro, 0, .wr⟩),
   (.MIR_STAT_ROLE, ⟨10, 8, .ro, 0, .wr⟩),
   (.MIR_STAT_HBMISS, ⟨7, 4, .ro, 0, .wr⟩),
   (.MIR_STAT_ENST, ⟨1, 0, .ro, 0, .wr⟩),
   (.MIR_HOAT_AT, ⟨31, 0, .rwl, 0, .wr⟩),
   (.MIR_DELAY_VALID, ⟨31, 31, .ro, 0, .wr⟩),
   (.MIR_DELAY_DLY, ⟨23, 0, .ro, 0, .wr⟩),
   (.MIR_CNT_RXERR, ⟨31, 24, .rc, 0, .wr⟩),
   (.MIR_CNT_HBLATE, ⟨23, 16, .rc, 0, .wr⟩),
   (.MIR_CNT_HBMISSED, ⟨15, 8, .rc, 0, .wr⟩)]

def fldTable26 : List (Fld × FldSpec) :=
  [(.MIR_CNT_PWMADJ, ⟨7, 0, .rc, 0, .wr⟩),
   (.MIR_PEER0_EPOCH, ⟨31, 16, .ro, 0, .wr⟩),
   (.MIR_PEER0_ROLE, ⟨10, 8, .ro, 0, .wr⟩),
   (.MIR_PEER0_STAGE, ⟨2, 0, .ro, 0, .wr⟩),
   (.MIR_PEER1_FRET, ⟨31, 0, .ro, 0, .wr⟩),
   (.MIR_WINBASE_ADDR, ⟨31, 8, .rwl, 0, .wr⟩),
   (.MIR_WINLEN_LEN, ⟨6, 0, .rwl, 0, .wr⟩),
   (.ML_PHYCTRL_TRNTO, ⟨31, 24, .rw, 0xa, .wr⟩),
   (.ML_PHYCTRL_RETRAIN, ⟨9, 9, .wo, 0, .wr⟩),
   (.ML_PHYCTRL_RXPOLAUTO, ⟨8, 8, .rw, 1, .wr⟩),
   (.ML_PHYCTRL_RXINV, ⟨7, 7, .rw, 0, .wr⟩),
   (.ML_PHYCTRL_TXINV, ⟨6, 6, .rw, 0, .wr⟩),
   (.ML_PHYSTAT_TXEQERR, ⟨18, 18, .w1c, 0, .wr⟩),
   (.ML_PHYSTAT_LOSS, ⟨17, 17, .w1c, 0, .wr⟩),
   (.ML_PHYSTAT_RXINVST, ⟨8, 8, .ro, 0, .wr⟩),
   (.ML_PHYSTAT_LSTATE, ⟨2, 0, .ro, 0, .wr⟩),
   (.ML_TXEQ_SWING, ⟨15, 12, .rw, 8, .wr⟩),
   (.ML_TXEQ_POST, ⟨11, 7, .rw, 6, .wr⟩),
   (.ML_TXEQ_PRE, ⟨6, 3, .rw, 0, .wr⟩),
   (.ML_RXEQ_ADAPT, ⟨8, 8, .rw, 1, .wr⟩),
   (.ML_RXEQ_PEAK, ⟨3, 0, .rw, 6, .wr⟩),
   (.ML_LINKCNT_TRNFAIL, ⟨31, 24, .rc, 0, .wr⟩),
   (.ML_LINKCNT_LOSSCNT, ⟨23, 16, .rc, 0, .wr⟩),
   (.ML_LINKCNT_CODEERR, ⟨15, 0, .rc, 0, .wr⟩)]

def fldTable27 : List (Fld × FldSpec) :=
  [(.ML_PATCTRL_LOOP, ⟨15, 14, .rw, 0, .wr⟩),
   (.ML_PATCTRL_CHKINV, ⟨13, 13, .rw, 0, .wr⟩),
   (.ML_PATCTRL_GENINV, ⟨12, 12, .rw, 0, .wr⟩),
   (.ML_PATCTRL_CHKEN, ⟨11, 11, .rw, 0, .wr⟩),
   (.ML_PATCTRL_GENEN, ⟨10, 10, .rw, 0, .wr⟩),
   (.ML_PATCTRL_CHKSEL, ⟨7, 4, .rw, 0, .wr⟩),
   (.ML_PATCTRL_GENSEL, ⟨3, 0, .rw, 0, .wr⟩),
   (.ML_PATSTAT_TESTERR, ⟨2, 2, .w1c, 0, .wr⟩),
   (.ML_PATSTAT_LOCK, ⟨1, 1, .ro, 0, .wr⟩),
   (.ML_PATSTAT_LOSTLK, ⟨0, 0, .w1c, 0, .wr⟩),
   (.ML_PATERR_ERRCNT, ⟨31, 0, .rc, 0, .wr⟩),
   (.ML_UPAT0_UPAT0, ⟨31, 0, .rw, 0, .wr⟩),
   (.ML_UPAT1_UPAT1, ⟨31, 0, .rw, 0, .wr⟩),
   (.MIR_LANEMAP_REVERSED, ⟨8, 8, .ro, 0, .wr⟩),
   (.MIR_LANEMAP_ORDERERR, ⟨4, 4, .w1c, 0, .wr⟩),
   (.MIR_LANEMAP_UP, ⟨3, 0, .ro, 0, .wr⟩),
   (.ARB_WGT0_W3, ⟨31, 24, .rw, 0x60, .wr⟩),
   (.ARB_WGT0_W2, ⟨23, 16, .rw, 0x60, .wr⟩),
   (.ARB_WGT0_W1, ⟨15, 8, .rw, 0x80, .wr⟩),
   (.ARB_WGT0_W0, ⟨7, 0, .rw, 0x80, .wr⟩),
   (.ARB_WGT1_W7W4, ⟨31, 0, .rw, 0x20202020, .wr⟩),
   (.ARB_WGT2_W9, ⟨15, 8, .rw, 0x20, .wr⟩),
   (.ARB_WGT2_W8, ⟨7, 0, .rw, 0x10, .wr⟩),
   (.ARB_HOLD_HOLD, ⟨9, 0, .rw, 0x100, .wr⟩)]

def fldTable28 : List (Fld × FldSpec) :=
  [(.ARB_VIOL_VIOL, ⟨9, 0, .w1c, 0, .wr⟩),
   (.ARB_VIOLCNT_COUNT, ⟨15, 0, .rc, 0, .wr⟩),
   (.SSM_ECCCNT_UNC, ⟨31, 16, .rc, 0, .wr⟩),
   (.SSM_ECCCNT_COR, ⟨15, 0, .rc, 0, .wr⟩),
   (.SSM_ECCADDR_ADDR, ⟨31, 0, .ro, 0, .wr⟩),
   (.SEC_LIFE_STATE, ⟨1, 0, .ro, 0, .wr⟩),
   (.SEC_SLOT_PROG, ⟨31, 31, .ro, 0, .wr⟩),
   (.SEC_SLOT_REVOKED, ⟨30, 30, .ro, 0, .wr⟩),
   (.SEC_SLOT_USE, ⟨29, 28, .ro, 0, .wr⟩),
   (.SEC_ARB_ENG, ⟨21, 16, .ro, 0, .wr⟩),
   (.SEC_ARB_SER, ⟨13, 8, .ro, 0, .wr⟩),
   (.SEC_ARB_FW, ⟨5, 0, .ro, 0, .wr⟩),
   (.SEC_DEVID_DEVID, ⟨31, 0, .ro, 0, .fixed⟩),
   (.SEC_STAT_LASTRES, ⟨23, 20, .ro, 0, .wr⟩),
   (.SEC_STAT_BUSY, ⟨0, 0, .ro, 0, .wr⟩),
   (.SEC_TAMP_COUNT, ⟨31, 16, .ro, 0, .bk⟩),
   (.SEC_TAMP_GLITCH, ⟨2, 2, .w1c, 0, .bk⟩),
   (.SEC_TAMP_PIN, ⟨1, 1, .w1c, 0, .bk⟩),
   (.SEC_TAMP_PINLVL, ⟨0, 0, .ro, 0, .po⟩),
   (.SEC_TAMPCFG_BLOCK, ⟨0, 0, .rw, 0, .wr⟩),
   (.DBG_STAT_UNLOCKS, ⟨31, 16, .ro, 0, .bk⟩),
   (.DBG_STAT_LEVEL, ⟨11, 8, .ro, 0, .wr⟩),
   (.DBG_STAT_S4OK, ⟨4, 4, .ro, 0, .wr⟩),
   (.DBG_STAT_UNLOCKED, ⟨0, 0, .ro, 0, .wr⟩)]

def fldTable29 : List (Fld × FldSpec) :=
  [(.DBG_CHAL_CHAL, ⟨31, 0, .ro, 0, .wr⟩),
   (.DBG_PWM_FREEZE_FREEZE, ⟨0, 0, .rw, 0, .wr⟩),
   (.CE_CTRL_URST, ⟨16, 16, .wo, 0, .wr⟩),
   (.CE_CTRL_MISSTRIP, ⟨9, 9, .rw, 0, .wr⟩),
   (.CE_CTRL_MISSMODE, ⟨8, 8, .rw, 0, .wr⟩),
   (.CE_CTRL_EN, ⟨0, 0, .rw, 0, .ur⟩),
   (.CE_STAT_IWRPEND, ⟨19, 19, .w1c, 0, .wr⟩),
   (.CE_STAT_IWRACT, ⟨18, 18, .w1c, 0, .wr⟩),
   (.CE_STAT_OVREND, ⟨17, 17, .w1c, 0, .wr⟩),
   (.CE_STAT_MISS, ⟨16, 16, .w1c, 0, .wr⟩),
   (.CE_STAT_STGOK, ⟨12, 12, .ro, 0, .wr⟩),
   (.CE_STAT_ACTBANK, ⟨8, 8, .ro, 0, .wr⟩),
   (.CE_STAT_HALTED, ⟨5, 5, .ro, 0, .wr⟩),
   (.CE_STAT_RUNNING, ⟨4, 4, .ro, 0, .wr⟩),
   (.CE_STAT_ENST, ⟨1, 0, .ro, 0, .wr⟩),
   (.CE_MISSCNT_COUNT, ⟨15, 0, .rc, 0, .wr⟩),
   (.CE_LASTCYC_LAST, ⟨31, 0, .ro, 0, .wr⟩),
   (.CE_MAXCYC_MAX, ⟨31, 0, .rc, 0, .wr⟩),
   (.CE_XCAUSE_VALID, ⟨31, 31, .w1c, 0, .wr⟩),
   (.CE_XCAUSE_FRETLO, ⟨23, 8, .ro, 0, .wr⟩),
   (.CE_XCAUSE_CAUSE, ⟨3, 0, .ro, 0, .wr⟩),
   (.CE_XPC_PC, ⟨31, 0, .ro, 0, .wr⟩),
   (.CE_XINFO_INFO, ⟨31, 0, .ro, 0, .wr⟩),
   (.CE_XCNT_ECCCOR, ⟨31, 16, .rc, 0, .wr⟩)]

def fldTable30 : List (Fld × FldSpec) :=
  [(.CE_XCNT_XCOUNT, ⟨15, 0, .rc, 0, .wr⟩),
   (.CE_XCFG_XTRIP, ⟨0, 0, .rw, 0, .wr⟩),
   (.CE_CSTAT_AGAIN, ⟨3, 3, .w1c, 0, .wr⟩),
   (.CE_CSTAT_LATE, ⟨2, 2, .w1c, 0, .wr⟩),
   (.CE_CSTAT_SENDDROP, ⟨1, 1, .w1c, 0, .wr⟩),
   (.CE_CSTAT_NOCOMMIT, ⟨0, 0, .w1c, 0, .wr⟩),
   (.CE_STGREQ_REQ, ⟨31, 0, .ro, 0, .wr⟩)]

/-- The register tables, one row per field, in the order of the constructors. In pieces of 24 rows. -/
def fldTable : List (List (Fld × FldSpec)) :=
  [fldTable0, fldTable1, fldTable2, fldTable3, fldTable4, fldTable5, fldTable6, fldTable7, fldTable8,
  fldTable9, fldTable10, fldTable11, fldTable12, fldTable13, fldTable14, fldTable15, fldTable16, fldTable17,
  fldTable18, fldTable19, fldTable20, fldTable21, fldTable22, fldTable23, fldTable24, fldTable25, fldTable26,
  fldTable27, fldTable28, fldTable29, fldTable30]

/-- The row of a field. -/
def Fld.spec (f : Fld) : FldSpec := ((fldTable.getD (f.ctorIdx / 24) []).getD (f.ctorIdx % 24) (f, ⟨0, 0, .ro, 0, .fixed⟩)).2

def regTable0 : List (Reg × RegSpec) :=
  [(.SYS_ID, ⟨0x40000000, [], [.SYS_ID_PART, .SYS_ID_STEP]⟩),
   (.SYS_CAP0, ⟨0x40000010, [], [.SYS_CAP0_LANEQ_PRESENT]⟩),
   (.SYS_CAP1, ⟨0x40000014, [], [.SYS_CAP1_CE_PRESENT]⟩),
   (.SYS_CAP2, ⟨0x40000018, [], [.SYS_CAP2_PW_PRESENT]⟩),
   (.SYS_CAP3, ⟨0x4000001C, [], [.SYS_CAP3_ADC_PRESENT, .SYS_CAP3_SUP_PRESENT, .SYS_CAP3_SAF_PRESENT, .SYS_CAP3_AUX_PRESENT, .SYS_CAP3_MIR_PRESENT, .SYS_CAP3_HP_PRESENT]⟩),
   (.SYS_BUSERR, ⟨0x40000020, [], [.SYS_BUSERR_VALID, .SYS_BUSERR_CAUSE, .SYS_BUSERR_AGENT, .SYS_BUSERR_COUNT]⟩),
   (.SYS_BUSADDRLO, ⟨0x40000024, [], [.SYS_BUSADDRLO_ADDR]⟩),
   (.SYS_BUSADDRHI, ⟨0x40000028, [], [.SYS_BUSADDRHI_WRITE, .SYS_BUSADDRHI_ADDR]⟩),
   (.CE_ACTCTRL, ⟨0x40000100, [], [.CE_ACTCTRL_MODE, .CE_ACTCTRL_GO]⟩),
   (.CE_ACTSTAT, ⟨0x40000104, [], [.CE_ACTSTAT_CODE, .CE_ACTSTAT_WRPEND, .CE_ACTSTAT_ERR, .CE_ACTSTAT_DONE, .CE_ACTSTAT_PEND, .CE_ACTSTAT_VALIDATING]⟩),
   (.CE_ACTAT, ⟨0x40000108, [], [.CE_ACTAT_AT]⟩),
   (.CE_ACTMASK, ⟨0x4000010C, [], [.CE_ACTMASK_MASK]⟩),
   (.PMC_STAGE, ⟨0x40010000, [], [.PMC_STAGE_REASON, .PMC_STAGE_MINIMAL, .PMC_STAGE_STAGE]⟩),
   (.PMC_ARM, ⟨0x40010004, [], [.PMC_ARM_DISERR, .PMC_ARM_ARMERR, .PMC_ARM_BLK, .PMC_ARM_FREEOK, .PMC_ARM_DISARM, .PMC_ARM_ARM]⟩),
   (.PMC_RSTCTRL, ⟨0x40010008, [], [.PMC_RSTCTRL_RSTERR, .PMC_RSTCTRL_SUPRST, .PMC_RSTCTRL_WARM]⟩),
   (.PMC_RSTCAUSE, ⟨0x4001000C, [], [.PMC_RSTCAUSE_DEBUG, .PMC_RSTCAUSE_PGOOD_LOSS, .PMC_RSTCAUSE_SOFTWARE, .PMC_RSTCAUSE_BUTTON, .PMC_RSTCAUSE_POR_SUPPLY, .PMC_RSTCAUSE_POR_PIN]⟩),
   (.PMC_BTN, ⟨0x40010010, [], [.PMC_BTN_HOLDMS, .PMC_BTN_ARMED, .PMC_BTN_STUCK, .PMC_BTN_MMREQ, .PMC_BTN_PRESSED]⟩),
   (.PMC_START, ⟨0x40010014, [], [.PMC_START_STARTOK, .PMC_START_FAILCNT]⟩),
   (.PMC_SUPCNT, ⟨0x40010018, [], [.PMC_SUPCNT_SUP3, .PMC_SUPCNT_SUP2, .PMC_SUPCNT_SUP1, .PMC_SUPCNT_SUP0]⟩),
   (.PMC_PDREQ, ⟨0x40010100, [], [.PMC_PDREQ_REQ]⟩),
   (.PMC_PDSTAT, ⟨0x40010104, [], [.PMC_PDSTAT_PDERR, .PMC_PDSTAT_PDWAIT, .PMC_PDSTAT_PWR]⟩),
   (.PMC_BK, ⟨0x40010200, [(8, 0x4)], [.PMC_BK_DATA]⟩),
   (.CLK_PLL_CTRL, ⟨0x40020000, [(4, 0x100)], [.CLK_PLL_CTRL_RELOCK, .CLK_PLL_CTRL_AUTORELOCK]⟩),
   (.CLK_PLL_STAT, ⟨0x40020004, [(4, 0x100)], [.CLK_PLL_STAT_BTERR, .CLK_PLL_STAT_NOBAND, .CLK_PLL_STAT_LOSS, .CLK_PLL_STAT_ACQ, .CLK_PLL_STAT_LOCKED]⟩)]

def regTable1 : List (Reg × RegSpec) :=
  [(.CLK_PLL_DITHER, ⟨0x40020008, [(4, 0x100)], [.CLK_PLL_DITHER_DITHEN, .CLK_PLL_DITHER_SEED]⟩),
   (.CLK_PLL_BAND, ⟨0x40020040, [(4, 0x100), (16, 0x4)], [.CLK_PLL_BAND_VALID, .CLK_PLL_BAND_BAND, .CLK_PLL_BAND_FLO, .CLK_PLL_BAND_FHI]⟩),
   (.CLK_LOSS, ⟨0x40020400, [], [.CLK_LOSS_ACTIVE, .CLK_LOSS_RC16, .CLK_LOSS_REF, .CLK_LOSS_CAUSE]⟩),
   (.THERM_STAT, ⟨0x40030000, [], [.THERM_STAT_MASKERR, .THERM_STAT_SHUTLAT, .THERM_STAT_BLKREQ, .THERM_STAT_THROTTLE]⟩),
   (.THERM_MAX, ⟨0x40030004, [], [.THERM_MAX_ARGMAX, .THERM_MAX_MAX]⟩),
   (.THERM_MASK, ⟨0x40030008, [], [.THERM_MASK_MASK]⟩),
   (.THERM_BKREC, ⟨0x4003000C, [], [.THERM_BKREC_SHUT125]⟩),
   (.THERM_CNT, ⟨0x40030010, [], [.THERM_CNT_BLKCNT, .THERM_CNT_THRCNT]⟩),
   (.THERM_TS, ⟨0x40030040, [(12, 0x4)], [.THERM_TS_BROKEN, .THERM_TS_TEMP]⟩),
   (.ATU_CTRL, ⟨0x40040000, [], [.ATU_CTRL_SNAP, .ATU_CTRL_SRCREQ, .ATU_CTRL_EN]⟩),
   (.ATU_CFG, ⟨0x40040004, [], [.ATU_CFG_LOOPBW, .ATU_CFG_MISSMAX, .ATU_CFG_SVRATE, .ATU_CFG_SVSTREAM, .ATU_CFG_AUTOFREE, .ATU_CFG_FPCSEL]⟩),
   (.ATU_STAT, ⟨0x40040008, [], [.ATU_STAT_SRCERR, .ATU_STAT_FPCERR, .ATU_STAT_DISERR, .ATU_STAT_SRCLOSS, .ATU_STAT_FPCPEND, .ATU_STAT_SLEWING, .ATU_STAT_HOLDOVER, .ATU_STAT_LOCKED, .ATU_STAT_SRC, .ATU_STAT_ENST]⟩),
   (.ATU_FREQ, ⟨0x4004000C, [], [.ATU_FREQ_FREQ]⟩),
   (.ATU_FREE, ⟨0x40040010, [], [.ATU_FREE_FREE]⟩),
   (.ATU_ROCOF, ⟨0x40040014, [], [.ATU_ROCOF_ROCOF]⟩),
   (.ATU_SLEW, ⟨0x40040018, [], [.ATU_SLEW_SLEW]⟩),
   (.ATU_ADCSEL, ⟨0x4004001C, [], [.ATU_ADCSEL_SINGLE, .ATU_ADCSEL_AINC, .ATU_ADCSEL_AINB, .ATU_ADCSEL_AINA]⟩),
   (.ATU_ADCMIN, ⟨0x40040020, [], [.ATU_ADCMIN_ADCMIN]⟩),
   (.ATU_PHERR, ⟨0x40040024, [], [.ATU_PHERR_PHERR]⟩),
   (.ATU_FRETNUM, ⟨0x40040028, [], [.ATU_FRETNUM_FRETNUM]⟩),
   (.ATU_FRETINIT, ⟨0x4004002C, [], [.ATU_FRETINIT_FRETINIT]⟩),
   (.ATU_ANGLE, ⟨0x40040030, [], [.ATU_ANGLE_ANGLE]⟩),
   (.ATU_BT_CNS, ⟨0x40040034, [], [.ATU_BT_CNS_BTCNS]⟩),
   (.ATU_SNAP_FRET, ⟨0x40040040, [], [.ATU_SNAP_FRET_FRET]⟩)]

def regTable2 : List (Reg × RegSpec) :=
  [(.ATU_SNAP_ANGLE, ⟨0x40040044, [], [.ATU_SNAP_ANGLE_ANGLE]⟩),
   (.ATU_SNAP_SECH, ⟨0x40040048, [], [.ATU_SNAP_SECH_SECH]⟩),
   (.ATU_SNAP_SECL, ⟨0x4004004C, [], [.ATU_SNAP_SECL_SECL]⟩),
   (.ATU_SNAP_NS, ⟨0x40040050, [], [.ATU_SNAP_NS_NS]⟩),
   (.ATU_TWIN, ⟨0x40040060, [], [.ATU_TWIN_EPOCH, .ATU_TWIN_SYNCED, .ATU_TWIN_ROLE, .ATU_TWIN_HBMISS]⟩),
   (.ATU_TWIN_LAST, ⟨0x40040064, [], [.ATU_TWIN_LAST_LAST]⟩),
   (.ATU_TWIN_TK, ⟨0x40040068, [], [.ATU_TWIN_TK_TK]⟩),
   (.FRET_CTRL, ⟨0x40050000, [], [.FRET_CTRL_SWAPMODE, .FRET_CTRL_SWAP, .FRET_CTRL_EN]⟩),
   (.FRET_STAT, ⟨0x40050004, [], [.FRET_STAT_SWAPCODE, .FRET_STAT_WRPEND, .FRET_STAT_WRACT, .FRET_STAT_DISERR, .FRET_STAT_SWAPERR, .FRET_STAT_SWAPDONE, .FRET_STAT_SWAPPEND, .FRET_STAT_VALIDATING, .FRET_STAT_ACTIVE, .FRET_STAT_ENST]⟩),
   (.FRET_SWAPAT, ⟨0x40050008, [], [.FRET_SWAPAT_SWAPAT]⟩),
   (.FRET_PLEN, ⟨0x40050010, [(2, 0x4)], [.FRET_PLEN_PLENSEL]⟩),
   (.FRET_SKIPMASK, ⟨0x40050020, [], [.FRET_SKIPMASK_SKIP]⟩),
   (.FRET_SKIPCNT, ⟨0x40050024, [], [.FRET_SKIPCNT_COUNT]⟩),
   (.FRET_ADCOVR, ⟨0x40050028, [], [.FRET_ADCOVR_OVR]⟩),
   (.MOD_CTRL, ⟨0x40060000, [], [.MOD_CTRL_URST, .MOD_CTRL_UNLOCK, .MOD_CTRL_LOCK, .MOD_CTRL_EN]⟩),
   (.MOD_STAT, ⟨0x40060004, [], [.MOD_STAT_ULERR, .MOD_STAT_LKERR, .MOD_STAT_DISERR, .MOD_STAT_ENST]⟩),
   (.MOD_CFG, ⟨0x40060008, [], [.MOD_CFG_KEYH, .MOD_CFG_KEYW, .MOD_CFG_MINP]⟩),
   (.MOD_TCINC, ⟨0x4006000C, [], [.MOD_TCINC_CINC]⟩),
   (.MOD_TCB, ⟨0x40060010, [], [.MOD_TCB_TCB]⟩),
   (.MOD_DABLIM, ⟨0x40060014, [], [.MOD_DABLIM_SLEW, .MOD_DABLIM_PHIMAX]⟩),
   (.ARM_CFG, ⟨0x40060100, [(6, 0x40)], [.ARM_CFG_EN, .ARM_CFG_OWNER, .ARM_CFG_NCELL, .ARM_CFG_K]⟩),
   (.ARM_BYPASS, ⟨0x40060104, [(6, 0x40)], [.ARM_BYPASS_BYP]⟩),
   (.ARM_CBSRES, ⟨0x40060108, [(6, 0x40)], [.ARM_CBSRES_ADDR]⟩),
   (.ARM_STAT, ⟨0x4006010C, [(6, 0x40)], [.ARM_STAT_LATECONV, .ARM_STAT_CFGERR, .ARM_STAT_CONV, .ARM_STAT_ENST]⟩)]

def regTable3 : List (Reg × RegSpec) :=
  [(.ARM_DEF, ⟨0x40060110, [(6, 0x40)], [.ARM_DEF_DEF]⟩),
   (.ARM_CNT, ⟨0x40060114, [(6, 0x40)], [.ARM_CNT_CAP, .ARM_CNT_SHIFT, .ARM_CNT_DROP]⟩),
   (.ARM_CNT2, ⟨0x40060118, [(6, 0x40)], [.ARM_CNT2_DABCLIP]⟩),
   (.ARM_MAP, ⟨0x40060120, [(6, 0x40), (8, 0x4)], [.ARM_MAP_LANE3, .ARM_MAP_LANE2, .ARM_MAP_LANE1, .ARM_MAP_LANE0]⟩),
   (.CL_CTRL, ⟨0x40080000, [(96, 0x400)], [.CL_CTRL_DLYEN, .CL_CTRL_DLYPER, .CL_CTRL_RETRYEN, .CL_CTRL_EN]⟩),
   (.CL_STAT, ⟨0x40080004, [(96, 0x400)], [.CL_STAT_OWNERR, .CL_STAT_DLYJUMP, .CL_STAT_DLYOVR, .CL_STAT_EPOCHHI, .CL_STAT_WRPEND, .CL_STAT_WRACT, .CL_STAT_MUTED, .CL_STAT_ACTIVE, .CL_STAT_ENST]⟩),
   (.CL_CFG, ⟨0x40080008, [(96, 0x400)], [.CL_CFG_OWNER, .CL_CFG_CELLID]⟩),
   (.CL_DELAY, ⟨0x4008000C, [(96, 0x400)], [.CL_DELAY_VALID, .CL_DELAY_DLY]⟩),
   (.CL_FCNT0, ⟨0x40080010, [(96, 0x400)], [.CL_FCNT0_RETRY, .CL_FCNT0_NOACK, .CL_FCNT0_RETRYLATE, .CL_FCNT0_MISSCMD]⟩),
   (.CL_FCNT1, ⟨0x40080014, [(96, 0x400)], [.CL_FCNT1_LATE, .CL_FCNT1_RXERR, .CL_FCNT1_IDERR, .CL_FCNT1_TYPEERR]⟩),
   (.CL_BCTRL, ⟨0x40080018, [(96, 0x400)], [.CL_BCTRL_TXCHAN, .CL_BCTRL_RXFREE, .CL_BCTRL_TXGO]⟩),
   (.CL_BSTAT, ⟨0x4008001C, [(96, 0x400)], [.CL_BSTAT_RXDROP, .CL_BSTAT_RXVALID, .CL_BSTAT_TXBUSY]⟩),
   (.CL_BRXHDR, ⟨0x40080020, [(96, 0x400), (2, 0x4)], [.CL_BRXHDR_SEQ1, .CL_BRXHDR_CHAN1, .CL_BRXHDR_SEQ0, .CL_BRXHDR_CHAN0]⟩),
   (.CL_PHYCTRL, ⟨0x40080300, [(96, 0x400)], [.CL_PHYCTRL_TRNTO, .CL_PHYCTRL_IDLEMAX, .CL_PHYCTRL_FXEN, .CL_PHYCTRL_EIREQ, .CL_PHYCTRL_RETRAIN, .CL_PHYCTRL_RXPOLAUTO, .CL_PHYCTRL_RXINV, .CL_PHYCTRL_TXINV, .CL_PHYCTRL_RATE]⟩),
   (.CL_PHYSTAT, ⟨0x40080304, [(96, 0x400)], [.CL_PHYSTAT_EIERR, .CL_PHYSTAT_RATEERR, .CL_PHYSTAT_TXEQERR, .CL_PHYSTAT_LOSS, .CL_PHYSTAT_RXINVST, .CL_PHYSTAT_LSTATE]⟩),
   (.CL_TXEQ, ⟨0x40080308, [(96, 0x400)], [.CL_TXEQ_SWING, .CL_TXEQ_POST, .CL_TXEQ_PRE]⟩),
   (.CL_RXEQ, ⟨0x4008030C, [(96, 0x400)], [.CL_RXEQ_ADAPT, .CL_RXEQ_PEAK]⟩),
   (.CL_LINKCNT, ⟨0x40080310, [(96, 0x400)], [.CL_LINKCNT_TRNFAIL, .CL_LINKCNT_LOSSCNT, .CL_LINKCNT_CODEERR]⟩),
   (.CL_PATCTRL, ⟨0x40080320, [(96, 0x400)], [.CL_PATCTRL_LOOP, .CL_PATCTRL_CHKINV, .CL_PATCTRL_GENINV, .CL_PATCTRL_CHKEN, .CL_PATCTRL_GENEN, .CL_PATCTRL_CHKSEL, .CL_PATCTRL_GENSEL]⟩),
   (.CL_PATSTAT, ⟨0x40080324, [(96, 0x400)], [.CL_PATSTAT_TESTERR, .CL_PATSTAT_LOCK, .CL_PATSTAT_LOSTLK]⟩),
   (.CL_PATERR, ⟨0x40080328, [(96, 0x400)], [.CL_PATERR_ERRCNT]⟩),
   (.CL_UPAT0, ⟨0x4008032C, [(96, 0x400)], [.CL_UPAT0_UPAT0]⟩),
   (.CL_UPAT1, ⟨0x40080330, [(96, 0x400)], [.CL_UPAT1_UPAT1]⟩),
   (.CLG_CTRL, ⟨0x40098000, [], [.CLG_CTRL_CLRRM, .CLG_CTRL_CLRGO, .CLG_CTRL_SWAP, .CLG_CTRL_SWAPMODE, .CLG_CTRL_UNLOCK, .CLG_CTRL_LOCK]⟩)]

def regTable4 : List (Reg × RegSpec) :=
  [(.CLG_STAT, ⟨0x40098004, [], [.CLG_STAT_SWAPCODE, .CLG_STAT_ULERR, .CLG_STAT_LKERR, .CLG_STAT_CLRERR, .CLG_STAT_CLRDONE, .CLG_STAT_SWAPERR, .CLG_STAT_SWAPDONE, .CLG_STAT_WRPEND, .CLG_STAT_SWAPPEND, .CLG_STAT_VALIDATING]⟩),
   (.CLG_SWAPAT, ⟨0x40098008, [], [.CLG_SWAPAT_SWAPAT]⟩),
   (.CLG_SWAPMASK, ⟨0x40098010, [(3, 0x4)], [.CLG_SWAPMASK_MASK]⟩),
   (.CLG_CLRMASK, ⟨0x40098020, [(3, 0x4)], [.CLG_CLRMASK_MASK]⟩),
   (.CLG_ARMTOK, ⟨0x40098030, [], [.CLG_ARMTOK_TOK]⟩),
   (.CLG_EPOCH, ⟨0x40098034, [], [.CLG_EPOCH_EPOCH]⟩),
   (.CLG_DMAX, ⟨0x40098038, [], [.CLG_DMAX_DMAX]⟩),
   (.CLG_NODE, ⟨0x4009803C, [], [.CLG_NODE_NODE]⟩),
   (.CMP_CTRL, ⟨0x400A0000, [(32, 0x20)], [.CMP_CTRL_OINV, .CMP_CTRL_OSEL, .CMP_CTRL_HYST, .CMP_CTRL_SAMP, .CMP_CTRL_LOEN, .CMP_CTRL_HIEN, .CMP_CTRL_EN]⟩),
   (.CMP_THRH, ⟨0x400A0004, [(32, 0x20)], [.CMP_THRH_THR]⟩),
   (.CMP_THRL, ⟨0x400A0008, [(32, 0x20)], [.CMP_THRL_THR]⟩),
   (.CMP_FILT, ⟨0x400A000C, [(32, 0x20)], [.CMP_FILT_TICKDIV, .CMP_FILT_FILT]⟩),
   (.CMP_BLANK, ⟨0x400A0010, [(32, 0x20)], [.CMP_BLANK_BLKPW, .CMP_BLANK_BLKEDGE, .CMP_BLANK_BLKLEN]⟩),
   (.CMP_STATUS, ⟨0x400A0014, [(32, 0x20)], [.CMP_STATUS_DISERR, .CMP_STATUS_WINERR, .CMP_STATUS_LOSIDE, .CMP_STATUS_LATCH, .CMP_STATUS_STATE, .CMP_STATUS_ENST]⟩),
   (.TPIN_CTRL, ⟨0x400A0400, [(8, 0x20)], [.TPIN_CTRL_POL, .TPIN_CTRL_EN]⟩),
   (.TPIN_FILT, ⟨0x400A040C, [(8, 0x20)], [.TPIN_FILT_TICKDIV, .TPIN_FILT_FILT]⟩),
   (.TPIN_BLANK, ⟨0x400A0410, [(8, 0x20)], [.TPIN_BLANK_BLKPW, .TPIN_BLANK_BLKEDGE, .TPIN_BLANK_BLKLEN]⟩),
   (.TPIN_STATUS, ⟨0x400A0414, [(8, 0x20)], [.TPIN_STATUS_DISERR, .TPIN_STATUS_LATCH, .TPIN_STATUS_STATE, .TPIN_STATUS_ENST]⟩),
   (.TRIP_CTRL, ⟨0x400A0600, [], [.TRIP_CTRL_MCLR, .TRIP_CTRL_UNLOCK, .TRIP_CTRL_LOCK]⟩),
   (.TRIP_STAT, ⟨0x400A0604, [], [.TRIP_STAT_CLRSRC, .TRIP_STAT_ULERR, .TRIP_STAT_LKERR, .TRIP_STAT_MCLRFAIL, .TRIP_STAT_CLRFAIL, .TRIP_STAT_UNRES, .TRIP_STAT_FG, .TRIP_STAT_MSTATE]⟩),
   (.TRIP_LAT0, ⟨0x400A0610, [], [.TRIP_LAT0_CMP]⟩),
   (.TRIP_LAT1, ⟨0x400A0614, [], [.TRIP_LAT1_SW, .TRIP_LAT1_PIN]⟩),
   (.TRIP_LAT2, ⟨0x400A0618, [], [.TRIP_LAT2_CLKLOSS, .TRIP_LAT2_TWIN, .TRIP_LAT2_THERMAL, .TRIP_LAT2_SAFETY, .TRIP_LAT2_SUP]⟩),
   (.TRIP_RMASK, ⟨0x400A0620, [], [.TRIP_RMASK_RMASK]⟩)]

def regTable5 : List (Reg × RegSpec) :=
  [(.TRIP_FIRST, ⟨0x400A0630, [], [.TRIP_FIRST_VALID, .TRIP_FIRST_MULTI, .TRIP_FIRST_SRC]⟩),
   (.TRIP_FIRST_FRET, ⟨0x400A0634, [], [.TRIP_FIRST_FRET_FRET]⟩),
   (.TRIP_FIRST_CNS, ⟨0x400A0638, [], [.TRIP_FIRST_CNS_CNS]⟩),
   (.TRIP_SUPREQ, ⟨0x400A0640, [], [.TRIP_SUPREQ_REQ]⟩),
   (.TRIP_SWROUTE, ⟨0x400A0644, [], [.TRIP_SWROUTE_MUTE, .TRIP_SWROUTE_FG]⟩),
   (.TRIP_SUPROUTE, ⟨0x400A0648, [], [.TRIP_SUPROUTE_MUTE, .TRIP_SUPROUTE_FG]⟩),
   (.TRIP_ROUTE, ⟨0x400A0700, [(40, 0x4)], [.TRIP_ROUTE_MUTE, .TRIP_ROUTE_FG]⟩),
   (.TRIP_SWREQ, ⟨0x400A0800, [(24, 0x4)], [.TRIP_SWREQ_REQ]⟩),
   (.PW_CTRL, ⟨0x400B0000, [(24, 0x80)], [.PW_CTRL_IMMDIS, .PW_CTRL_EN]⟩),
   (.PW_CFG, ⟨0x400B0004, [(24, 0x80)], [.PW_CFG_SYNCPW, .PW_CFG_SYNC, .PW_CFG_DSTATE, .PW_CFG_MINP_MODE, .PW_CFG_POLL, .PW_CFG_POLH, .PW_CFG_MODE]⟩),
   (.PW_PRD, ⟨0x400B0008, [(24, 0x80)], [.PW_PRD_PRD]⟩),
   (.PW_PHS, ⟨0x400B000C, [(24, 0x80)], [.PW_PHS_PHS]⟩),
   (.PW_CMPA, ⟨0x400B0010, [(24, 0x80)], [.PW_CMPA_CNT, .PW_CMPA_FINE]⟩),
   (.PW_CMPB, ⟨0x400B0014, [(24, 0x80)], [.PW_CMPB_CNT, .PW_CMPB_FINE]⟩),
   (.PW_TRGA, ⟨0x400B0018, [(24, 0x80)], [.PW_TRGA_EN, .PW_TRGA_DIR, .PW_TRGA_CNT]⟩),
   (.PW_TRGB, ⟨0x400B001C, [(24, 0x80)], [.PW_TRGB_EN, .PW_TRGB_DIR, .PW_TRGB_CNT]⟩),
   (.PW_DT, ⟨0x400B0020, [(24, 0x80)], [.PW_DT_FALL, .PW_DT_RISE]⟩),
   (.PW_MINP, ⟨0x400B0024, [(24, 0x80)], [.PW_MINP_MINP]⟩),
   (.PW_TRIP, ⟨0x400B0028, [(24, 0x80)], [.PW_TRIP_CLR, .PW_TRIP_CLRFAIL, .PW_TRIP_CLKLOSS, .PW_TRIP_TRIPPED, .PW_TRIP_TSTATE, .PW_TRIP_FGSEL]⟩),
   (.PW_CBC, ⟨0x400B002C, [(24, 0x80)], [.PW_CBC_EN, .PW_CBC_CMP, .PW_CBC_BLK]⟩),
   (.PW_OVR, ⟨0x400B0030, [(24, 0x80)], [.PW_OVR_OVRL, .PW_OVR_OVRH]⟩),
   (.PW_STAT, ⟨0x400B0034, [(24, 0x80)], [.PW_STAT_OVRERR, .PW_STAT_CFGERR, .PW_STAT_XCONF, .PW_STAT_XCONFST, .PW_STAT_FROZEN, .PW_STAT_HON, .PW_STAT_LON, .PW_STAT_ENST]⟩),
   (.PW_CNT, ⟨0x400B0038, [(24, 0x80)], [.PW_CNT_DOWN, .PW_CNT_CNT]⟩),
   (.PW_SUPCNT, ⟨0x400B003C, [(24, 0x80)], [.PW_SUPCNT_CBC, .PW_SUPCNT_SUP]⟩)]

def regTable6 : List (Reg × RegSpec) :=
  [(.PW_MCNT, ⟨0x400B0040, [(24, 0x80)], [.PW_MCNT_DROP, .PW_MCNT_STRETCH]⟩),
   (.PWM_CTRL, ⟨0x400B0C00, [], [.PWM_CTRL_UNLOCK, .PWM_CTRL_LOCK]⟩),
   (.PWM_STAT, ⟨0x400B0C04, [], [.PWM_STAT_ULERR, .PWM_STAT_LKERR, .PWM_STAT_OWNER]⟩),
   (.PWM_HOLD, ⟨0x400B0C08, [], [.PWM_HOLD_HOLD]⟩),
   (.PWM_START, ⟨0x400B0C0C, [], [.PWM_START_START]⟩),
   (.AD_CTRL, ⟨0x400C0000, [(8, 0x100)], [.AD_CTRL_URST, .AD_CTRL_SWGO, .AD_CTRL_EN]⟩),
   (.AD_STAT, ⟨0x400C0004, [(8, 0x100)], [.AD_STAT_TDACERR, .AD_STAT_DISERR, .AD_STAT_CFGERR, .AD_STAT_OVR, .AD_STAT_CURLIST, .AD_STAT_BUSY, .AD_STAT_ENST]⟩),
   (.AD_TDAC, ⟨0x400C0008, [(8, 0x100)], [.AD_TDAC_EN, .AD_TDAC_MODE, .AD_TDAC_TMASK, .AD_TDAC_VAL]⟩),
   (.AD_LCFG, ⟨0x400C0010, [(8, 0x100), (4, 0x10)], [.AD_LCFG_EVT, .AD_LCFG_TRGEN, .AD_LCFG_DIR, .AD_LCFG_MASK]⟩),
   (.AD_LBUF, ⟨0x400C0014, [(8, 0x100), (4, 0x10)], [.AD_LBUF_MODE, .AD_LBUF_ENG, .AD_LBUF_BASE]⟩),
   (.AD_LLEN, ⟨0x400C0018, [(8, 0x100), (4, 0x10)], [.AD_LLEN_LEN]⟩),
   (.AD_LWPTR, ⟨0x400C001C, [(8, 0x100), (4, 0x10)], [.AD_LWPTR_SEQ, .AD_LWPTR_PTR]⟩),
   (.ADC_CTRL, ⟨0x400C0800, [], [.ADC_CTRL_UNLOCK, .ADC_CTRL_LOCK]⟩),
   (.ADC_STAT, ⟨0x400C0804, [], [.ADC_STAT_ULERR, .ADC_STAT_LKERR]⟩),
   (.AUX_CTRL, ⟨0x400D0000, [], [.AUX_CTRL_HOLD, .AUX_CTRL_UNLOCK, .AUX_CTRL_LOCK]⟩),
   (.AUX_STAT, ⟨0x400D0004, [], [.AUX_STAT_ULERR, .AUX_STAT_LKERR, .AUX_STAT_LINKLOSS, .AUX_STAT_ASHORT, .AUX_STAT_VDRVUV, .AUX_STAT_VHVUV]⟩),
   (.AUX_PRD, ⟨0x400D0008, [], [.AUX_PRD_PRD]⟩),
   (.AUXH_CTRL, ⟨0x400D0100, [(4, 0x40)], [.AUXH_CTRL_EN]⟩),
   (.AUXH_CFG, ⟨0x400D0104, [(4, 0x40)], [.AUXH_CFG_DESATV, .AUXH_CFG_BLANK, .AUXH_CFG_DT]⟩),
   (.AUXH_DUTY, ⟨0x400D0108, [(4, 0x40)], [.AUXH_DUTY_HON]⟩),
   (.AUXH_OVR, ⟨0x400D010C, [(4, 0x40)], [.AUXH_OVR_OVRL, .AUXH_OVR_OVRH]⟩),
   (.AUXH_STAT, ⟨0x400D0110, [(4, 0x40)], [.AUXH_STAT_XCONF, .AUXH_STAT_DESAT, .AUXH_STAT_BSUV, .AUXH_STAT_XCONFST, .AUXH_STAT_ENST]⟩),
   (.AUXH_FCNT, ⟨0x400D0114, [(4, 0x40)], [.AUXH_FCNT_DESAT, .AUXH_FCNT_BSUV, .AUXH_FCNT_CLAMP]⟩),
   (.VREG_VID, ⟨0x400E0000, [], [.VREG_VID_VID]⟩)]

def regTable7 : List (Reg × RegSpec) :=
  [(.VREG_CFG, ⟨0x400E0004, [], [.VREG_CFG_SYNCEN, .VREG_CFG_NPH, .VREG_CFG_HYS, .VREG_CFG_FSW]⟩),
   (.VREG_SLEW, ⟨0x400E0008, [], [.VREG_SLEW_STEP]⟩),
   (.VREG_SS, ⟨0x400E000C, [], [.VREG_SS_PGFILT, .VREG_SS_SSTO]⟩),
   (.VREG_STAT, ⟨0x400E0010, [], [.VREG_STAT_REF, .VREG_STAT_HICCUPS, .VREG_STAT_VIDERR, .VREG_STAT_OVP, .VREG_STAT_SYNCLOST, .VREG_STAT_SYNCACT, .VREG_STAT_PGOOD, .VREG_STAT_SSTATE]⟩),
   (.VREG_CNT, ⟨0x400E0014, [], [.VREG_CNT_ILIM]⟩),
   (.SER_STAT, ⟨0x400F0000, [], [.SER_STAT_FAULTIDX, .SER_STAT_FAULT, .SER_STAT_NEWREC, .SER_STAT_RECERR, .SER_STAT_CONFIRMED, .SER_STAT_PERMIT, .SER_STAT_SOUTST, .SER_STAT_STATE]⟩),
   (.SER_SIN, ⟨0x400F0004, [], [.SER_SIN_DEMAND, .SER_SIN_FILTERED, .SER_SIN_RAW]⟩),
   (.SER_PCRC, ⟨0x400F0008, [], [.SER_PCRC_PCRC]⟩),
   (.SER_CONF, ⟨0x400F000C, [], [.SER_CONF_CONF]⟩),
   (.SER_STARTUP, ⟨0x400F0010, [], [.SER_STARTUP_SOUTOK, .SER_STARTUP_TPOOK, .SER_STARTUP_OPENSEEN, .SER_STARTUP_DONE]⟩),
   (.SER_TEST, ⟨0x400F0014, [], [.SER_TEST_NOTDONE, .SER_TEST_TESTRES]⟩),
   (.SER_CNT, ⟨0x400F0018, [], [.SER_CNT_DEMCNT, .SER_CNT_REFUSED]⟩),
   (.SER_VER, ⟨0x400F001C, [], [.SER_VER_VERSION]⟩),
   (.HP_CTRL, ⟨0x40100000, [(4, 0x4000)], [.HP_CTRL_TXTS, .HP_CTRL_ANEN, .HP_CTRL_MODE, .HP_CTRL_EN]⟩),
   (.HP_STAT, ⟨0x40100004, [(4, 0x4000)], [.HP_STAT_MODEERR, .HP_STAT_HDXERR, .HP_STAT_TSQ_OVF, .HP_STAT_SPEED, .HP_STAT_PSTATE, .HP_STAT_ENST]⟩),
   (.HP_MAXLEN, ⟨0x40100008, [(4, 0x4000)], [.HP_MAXLEN_MAXLEN]⟩),
   (.HP_TSLAT, ⟨0x4010000C, [(4, 0x4000)], [.HP_TSLAT_TXLAT, .HP_TSLAT_RXLAT]⟩),
   (.HP_TSQID, ⟨0x40100010, [(4, 0x4000)], [.HP_TSQID_VALID, .HP_TSQID_TSID]⟩),
   (.HP_TSQTS, ⟨0x40100014, [(4, 0x4000)], [.HP_TSQTS_CNS]⟩),
   (.HP_TQ0BASE, ⟨0x40100030, [(4, 0x4000)], [.HP_TQ0BASE_ADDR, .HP_TQ0BASE_LOG2N]⟩),
   (.HP_TQ0IDX, ⟨0x40100034, [(4, 0x4000)], [.HP_TQ0IDX_TAIL, .HP_TQ0IDX_HEAD]⟩),
   (.HP_TQ1BASE, ⟨0x40100038, [(4, 0x4000)], [.HP_TQ1BASE_ADDR, .HP_TQ1BASE_LOG2N]⟩),
   (.HP_TQ1IDX, ⟨0x4010003C, [(4, 0x4000)], [.HP_TQ1IDX_TAIL, .HP_TQ1IDX_HEAD]⟩),
   (.HP_RQBASE, ⟨0x40100040, [(4, 0x4000)], [.HP_RQBASE_ADDR, .HP_RQBASE_LOG2N]⟩)]

def regTable8 : List (Reg × RegSpec) :=
  [(.HP_RQIDX, ⟨0x40100044, [(4, 0x4000)], [.HP_RQIDX_TAIL, .HP_RQIDX_HEAD]⟩),
   (.HP_ERRCNT, ⟨0x40100050, [(4, 0x4000)], [.HP_ERRCNT_RXFULL, .HP_ERRCNT_RXBAD]⟩),
   (.HP_PRP, ⟨0x40100060, [(4, 0x4000)], [.HP_PRP_EN, .HP_PRP_FORGET]⟩),
   (.HP_PRPCNT, ⟨0x40100064, [(4, 0x4000)], [.HP_PRPCNT_EVICT, .HP_PRPCNT_WRONGLAN]⟩),
   (.HP_TXEQ, ⟨0x40103F08, [(4, 0x4000)], [.HP_TXEQ_SWING, .HP_TXEQ_POST, .HP_TXEQ_PRE]⟩),
   (.HP_RXEQ, ⟨0x40103F0C, [(4, 0x4000)], [.HP_RXEQ_ADAPT, .HP_RXEQ_PEAK]⟩),
   (.HP_PATCTRL, ⟨0x40103F20, [(4, 0x4000)], [.HP_PATCTRL_LOOP, .HP_PATCTRL_CHKINV, .HP_PATCTRL_GENINV, .HP_PATCTRL_CHKEN, .HP_PATCTRL_GENEN, .HP_PATCTRL_CHKSEL, .HP_PATCTRL_GENSEL]⟩),
   (.HP_PATSTAT, ⟨0x40103F24, [(4, 0x4000)], [.HP_PATSTAT_TESTERR, .HP_PATSTAT_LOCK, .HP_PATSTAT_LOSTLK]⟩),
   (.HP_PATERR, ⟨0x40103F28, [(4, 0x4000)], [.HP_PATERR_ERRCNT]⟩),
   (.HP_UPAT0, ⟨0x40103F2C, [(4, 0x4000)], [.HP_UPAT0_UPAT0]⟩),
   (.HP_UPAT1, ⟨0x40103F30, [(4, 0x4000)], [.HP_UPAT1_UPAT1]⟩),
   (.TIME_CTRL, ⟨0x40110000, [], [.TIME_CTRL_STEP, .TIME_CTRL_SET]⟩),
   (.TIME_STAT, ⟨0x40110004, [], [.TIME_STAT_STEPCNT, .TIME_STAT_SETERR, .TIME_STAT_VALID]⟩),
   (.TIME_INC, ⟨0x40110008, [], [.TIME_INC_INC]⟩),
   (.TIME_SECH, ⟨0x40110010, [], [.TIME_SECH_SECH]⟩),
   (.TIME_SECL, ⟨0x40110014, [], [.TIME_SECL_SECL]⟩),
   (.TIME_NS, ⟨0x40110018, [], [.TIME_NS_NS]⟩),
   (.TIME_CNS, ⟨0x4011001C, [], [.TIME_CNS_CNS]⟩),
   (.TIME_WSECH, ⟨0x40110020, [], [.TIME_WSECH_SECH]⟩),
   (.TIME_WSECL, ⟨0x40110024, [], [.TIME_WSECL_SECL]⟩),
   (.TIME_WNS, ⟨0x40110028, [], [.TIME_WNS_NS]⟩),
   (.TIME_STEPNS, ⟨0x4011002C, [], [.TIME_STEPNS_STEPNS]⟩),
   (.TOUT_CTRL, ⟨0x40110100, [(8, 0x20)], [.TOUT_CTRL_MISSED, .TOUT_CTRL_CFGERR, .TOUT_CTRL_ENST, .TOUT_CTRL_POL, .TOUT_CTRL_MODE, .TOUT_CTRL_EN]⟩),
   (.TOUT_SSEC, ⟨0x40110104, [(8, 0x20)], [.TOUT_SSEC_SSEC]⟩)]

def regTable9 : List (Reg × RegSpec) :=
  [(.TOUT_SNS, ⟨0x40110108, [(8, 0x20)], [.TOUT_SNS_SNS]⟩),
   (.TOUT_PER, ⟨0x4011010C, [(8, 0x20)], [.TOUT_PER_PER]⟩),
   (.TOUT_WID, ⟨0x40110110, [(8, 0x20)], [.TOUT_WID_WID]⟩),
   (.SVF_CTRL, ⟨0x40110300, [(16, 0x10)], [.SVF_CTRL_EN, .SVF_CTRL_PORTS, .SVF_CTRL_VCH]⟩),
   (.SVF_MATCH, ⟨0x40110304, [(16, 0x10)], [.SVF_MATCH_DSTLO, .SVF_MATCH_APPID]⟩),
   (.SVF_RING, ⟨0x40110308, [(16, 0x10)], [.SVF_RING_ADDR, .SVF_RING_LOG2N]⟩),
   (.SVF_IDX, ⟨0x4011030C, [(16, 0x10)], [.SVF_IDX_WIDX]⟩),
   (.SVF_CNT, ⟨0x40110400, [(16, 0x4)], [.SVF_CNT_MISS, .SVF_CNT_BAD]⟩),
   (.JNL_STAT, ⟨0x40120000, [], [.JNL_STAT_SESSIONS, .JNL_STAT_CONSERR, .JNL_STAT_MIRFAIL, .JNL_STAT_SOLO, .JNL_STAT_REPLAYING, .JNL_STAT_ENST]⟩),
   (.JNL_HEADLO, ⟨0x40120008, [], [.JNL_HEADLO_HEAD]⟩),
   (.JNL_HEADHI, ⟨0x4012000C, [], [.JNL_HEADHI_HEAD]⟩),
   (.JNL_DONELO, ⟨0x40120010, [], [.JNL_DONELO_DONE]⟩),
   (.JNL_DONEHI, ⟨0x40120014, [], [.JNL_DONEHI_DONE]⟩),
   (.JNL_USED, ⟨0x40120018, [], [.JNL_USED_USED]⟩),
   (.JNL_CNT0, ⟨0x4012001C, [], [.JNL_CNT0_BADTAG, .JNL_CNT0_NEEDSEQ]⟩),
   (.JNL_CNT1, ⟨0x40120020, [], [.JNL_CNT1_FULL, .JNL_CNT1_DUP]⟩),
   (.MIR_CTRL, ⟨0x40130000, [], [.MIR_CTRL_EN, .MIR_CTRL_CLAIM, .MIR_CTRL_HANDOVER, .MIR_CTRL_UNLOCK, .MIR_CTRL_LOCK]⟩),
   (.MIR_CFG, ⟨0x40130004, [], [.MIR_CFG_PAIR, .MIR_CFG_SIDE, .MIR_CFG_AUTOTK, .MIR_CFG_PWALIGN, .MIR_CFG_PWMASTER, .MIR_CFG_MOFF]⟩),
   (.MIR_STAT, ⟨0x40130008, [], [.MIR_STAT_ULERR, .MIR_STAT_FOREIGN, .MIR_STAT_SIDEERR, .MIR_STAT_HOERR, .MIR_STAT_TKDONE, .MIR_STAT_YIELD, .MIR_STAT_CLAIMERR, .MIR_STAT_TKBLK, .MIR_STAT_SYNCED, .MIR_STAT_MIRUP, .MIR_STAT_ROLE, .MIR_STAT_HBMISS, .MIR_STAT_ENST]⟩),
   (.MIR_HOAT, ⟨0x4013000C, [], [.MIR_HOAT_AT]⟩),
   (.MIR_DELAY, ⟨0x40130014, [], [.MIR_DELAY_VALID, .MIR_DELAY_DLY]⟩),
   (.MIR_CNT, ⟨0x40130018, [], [.MIR_CNT_RXERR, .MIR_CNT_HBLATE, .MIR_CNT_HBMISSED, .MIR_CNT_PWMADJ]⟩),
   (.MIR_PEER0, ⟨0x4013001C, [], [.MIR_PEER0_EPOCH, .MIR_PEER0_ROLE, .MIR_PEER0_STAGE]⟩),
   (.MIR_PEER1, ⟨0x40130020, [], [.MIR_PEER1_FRET]⟩)]

def regTable10 : List (Reg × RegSpec) :=
  [(.MIR_WINBASE, ⟨0x40130040, [(4, 0x8)], [.MIR_WINBASE_ADDR]⟩),
   (.MIR_WINLEN, ⟨0x40130044, [(4, 0x8)], [.MIR_WINLEN_LEN]⟩),
   (.ML_PHYCTRL, ⟨0x40130800, [(4, 0x40)], [.ML_PHYCTRL_TRNTO, .ML_PHYCTRL_RETRAIN, .ML_PHYCTRL_RXPOLAUTO, .ML_PHYCTRL_RXINV, .ML_PHYCTRL_TXINV]⟩),
   (.ML_PHYSTAT, ⟨0x40130804, [(4, 0x40)], [.ML_PHYSTAT_TXEQERR, .ML_PHYSTAT_LOSS, .ML_PHYSTAT_RXINVST, .ML_PHYSTAT_LSTATE]⟩),
   (.ML_TXEQ, ⟨0x40130808, [(4, 0x40)], [.ML_TXEQ_SWING, .ML_TXEQ_POST, .ML_TXEQ_PRE]⟩),
   (.ML_RXEQ, ⟨0x4013080C, [(4, 0x40)], [.ML_RXEQ_ADAPT, .ML_RXEQ_PEAK]⟩),
   (.ML_LINKCNT, ⟨0x40130810, [(4, 0x40)], [.ML_LINKCNT_TRNFAIL, .ML_LINKCNT_LOSSCNT, .ML_LINKCNT_CODEERR]⟩),
   (.ML_PATCTRL, ⟨0x40130820, [(4, 0x40)], [.ML_PATCTRL_LOOP, .ML_PATCTRL_CHKINV, .ML_PATCTRL_GENINV, .ML_PATCTRL_CHKEN, .ML_PATCTRL_GENEN, .ML_PATCTRL_CHKSEL, .ML_PATCTRL_GENSEL]⟩),
   (.ML_PATSTAT, ⟨0x40130824, [(4, 0x40)], [.ML_PATSTAT_TESTERR, .ML_PATSTAT_LOCK, .ML_PATSTAT_LOSTLK]⟩),
   (.ML_PATERR, ⟨0x40130828, [(4, 0x40)], [.ML_PATERR_ERRCNT]⟩),
   (.ML_UPAT0, ⟨0x4013082C, [(4, 0x40)], [.ML_UPAT0_UPAT0]⟩),
   (.ML_UPAT1, ⟨0x40130830, [(4, 0x40)], [.ML_UPAT1_UPAT1]⟩),
   (.MIR_LANEMAP, ⟨0x40130900, [], [.MIR_LANEMAP_REVERSED, .MIR_LANEMAP_ORDERERR, .MIR_LANEMAP_UP]⟩),
   (.ARB_WGT0, ⟨0x40140000, [], [.ARB_WGT0_W3, .ARB_WGT0_W2, .ARB_WGT0_W1, .ARB_WGT0_W0]⟩),
   (.ARB_WGT1, ⟨0x40140004, [], [.ARB_WGT1_W7W4]⟩),
   (.ARB_WGT2, ⟨0x40140008, [], [.ARB_WGT2_W9, .ARB_WGT2_W8]⟩),
   (.ARB_HOLD, ⟨0x4014000C, [], [.ARB_HOLD_HOLD]⟩),
   (.ARB_VIOL, ⟨0x40140010, [], [.ARB_VIOL_VIOL]⟩),
   (.ARB_VIOLCNT, ⟨0x40140014, [], [.ARB_VIOLCNT_COUNT]⟩),
   (.SSM_ECCCNT, ⟨0x40140020, [], [.SSM_ECCCNT_UNC, .SSM_ECCCNT_COR]⟩),
   (.SSM_ECCADDR, ⟨0x40140024, [], [.SSM_ECCADDR_ADDR]⟩),
   (.SEC_LIFE, ⟨0x40150000, [], [.SEC_LIFE_STATE]⟩),
   (.SEC_SLOT, ⟨0x40150010, [(4, 0x4)], [.SEC_SLOT_PROG, .SEC_SLOT_REVOKED, .SEC_SLOT_USE]⟩),
   (.SEC_ARB, ⟨0x40150020, [], [.SEC_ARB_ENG, .SEC_ARB_SER, .SEC_ARB_FW]⟩)]

def regTable11 : List (Reg × RegSpec) :=
  [(.SEC_DEVID, ⟨0x40150030, [(4, 0x4)], [.SEC_DEVID_DEVID]⟩),
   (.SEC_STAT, ⟨0x40150040, [], [.SEC_STAT_LASTRES, .SEC_STAT_BUSY]⟩),
   (.SEC_TAMP, ⟨0x40150050, [], [.SEC_TAMP_COUNT, .SEC_TAMP_GLITCH, .SEC_TAMP_PIN, .SEC_TAMP_PINLVL]⟩),
   (.SEC_TAMPCFG, ⟨0x40150054, [], [.SEC_TAMPCFG_BLOCK]⟩),
   (.DBG_STAT, ⟨0x40160000, [], [.DBG_STAT_UNLOCKS, .DBG_STAT_LEVEL, .DBG_STAT_S4OK, .DBG_STAT_UNLOCKED]⟩),
   (.DBG_CHAL, ⟨0x40160020, [(8, 0x4)], [.DBG_CHAL_CHAL]⟩),
   (.DBG_PWM_FREEZE, ⟨0x40160040, [], [.DBG_PWM_FREEZE_FREEZE]⟩),
   (.CE_CTRL, ⟨0x200F0000, [(24, 0x100000)], [.CE_CTRL_URST, .CE_CTRL_MISSTRIP, .CE_CTRL_MISSMODE, .CE_CTRL_EN]⟩),
   (.CE_STAT, ⟨0x200F0004, [(24, 0x100000)], [.CE_STAT_IWRPEND, .CE_STAT_IWRACT, .CE_STAT_OVREND, .CE_STAT_MISS, .CE_STAT_STGOK, .CE_STAT_ACTBANK, .CE_STAT_HALTED, .CE_STAT_RUNNING, .CE_STAT_ENST]⟩),
   (.CE_MISSCNT, ⟨0x200F0008, [(24, 0x100000)], [.CE_MISSCNT_COUNT]⟩),
   (.CE_LASTCYC, ⟨0x200F000C, [(24, 0x100000)], [.CE_LASTCYC_LAST]⟩),
   (.CE_MAXCYC, ⟨0x200F0010, [(24, 0x100000)], [.CE_MAXCYC_MAX]⟩),
   (.CE_XCAUSE, ⟨0x200F0040, [(24, 0x100000)], [.CE_XCAUSE_VALID, .CE_XCAUSE_FRETLO, .CE_XCAUSE_CAUSE]⟩),
   (.CE_XPC, ⟨0x200F0044, [(24, 0x100000)], [.CE_XPC_PC]⟩),
   (.CE_XINFO, ⟨0x200F0048, [(24, 0x100000)], [.CE_XINFO_INFO]⟩),
   (.CE_XCNT, ⟨0x200F004C, [(24, 0x100000)], [.CE_XCNT_ECCCOR, .CE_XCNT_XCOUNT]⟩),
   (.CE_XCFG, ⟨0x200F0050, [(24, 0x100000)], [.CE_XCFG_XTRIP]⟩),
   (.CE_CSTAT, ⟨0x200F0054, [(24, 0x100000)], [.CE_CSTAT_AGAIN, .CE_CSTAT_LATE, .CE_CSTAT_SENDDROP, .CE_CSTAT_NOCOMMIT]⟩),
   (.CE_STGREQ, ⟨0x200F0020, [(24, 0x100000), (4, 0x4)], [.CE_STGREQ_REQ]⟩)]

/-- Table 20-3 and the offset tables of the chapters. In pieces of 24 rows. -/
def regTable : List (List (Reg × RegSpec)) :=
  [regTable0, regTable1, regTable2, regTable3, regTable4, regTable5, regTable6, regTable7, regTable8,
  regTable9, regTable10, regTable11]

/-- The row of a register. -/
def Reg.spec (r : Reg) : RegSpec := ((regTable.getD (r.ctorIdx / 24) []).getD (r.ctorIdx % 24) (r, ⟨0, [], []⟩)).2

/-- The number of bits of a field. -/
def Fld.width (f : Fld) : Nat := f.spec.hi - f.spec.lo + 1

end Sys2Proof.Machine
end

