-- ==== Sys2Proof/Machine/Flags.lean ====
section
/-! DEFINITION. The sticky numeric flags of an engine (R87, Table 3-6). -/
namespace Sys2Proof.Machine

/-- The sticky numeric flags an instruction raises (Table 3-6). -/
structure NFlags where
  qsat : Bool := false
  adz : Bool := false
  nv : Bool := false
  dz : Bool := false
  of : Bool := false
  uf : Bool := false
  nx : Bool := false
deriving DecidableEq, Repr

/-- The flags as the word of Table 3-6. -/
def NFlags.bits (f : NFlags) : BitVec 7 :=
  BitVec.ofNat 7 (64 * b2n f.qsat + 32 * b2n f.adz + 16 * b2n f.nv + 8 * b2n f.dz + 4 * b2n f.of + 2 * b2n f.uf + b2n f.nx)

/-- The flags of two conditions together. -/
def NFlags.or (a b : NFlags) : NFlags :=
  ⟨a.qsat || b.qsat, a.adz || b.adz, a.nv || b.nv, a.dz || b.dz, a.of || b.of, a.uf || b.uf, a.nx || b.nx⟩

/-- QSAT alone. -/
def NFlags.sat (b : Bool) : NFlags := { qsat := b }

end Sys2Proof.Machine
end

