-- ==== Sys2Proof/Syntax.lean ====
section
/-! DEFINITION. The commands of the block: one constructor per row of spec/opcode_table.json, with the row's operands.
An engine instruction carries its engine `n`, its predicate field `pr` (PNEG and PRED, R88) and its fields (R95).  An event
carries the unit it concerns and what comes from outside the device with it. -/
namespace Sys2Proof

/-- A cell lane's or engine's neighbour on the control plane (Table 20-2). -/
inductive Agent where
  | sup (k : Fin 4) | saf | dma | hostDma | debug
deriving DecidableEq, Repr

/-- The units with a LOCK bit (R510). -/
inductive LockUnit where
  | mod | clg | trip | pwm | adc | aux | mir
deriving DecidableEq, Repr

/-- The units with an enable (R25, Table 1-7). -/
inductive UnitId where
  | atu | fret | mod | mir | jnl | dma
  | arm (a : Fin 6) | ce (n : Fin 24) | lane (n : Fin 96) | cmp (n : Fin 32) | tpin (n : Fin 8)
  | pw (n : Fin 24) | ad (m : Fin 8) | aux (x : Fin 4) | hp (p : Fin 4) | tout (n : Fin 8)
deriving DecidableEq, Repr

/-- Where a scan start comes from (R308). -/
inductive ScanSource where
  | fret | pwm | software
deriving DecidableEq, Repr

/-- A unit that trains (R203, R206). -/
inductive TrainUnit where
  | lane (n : Fin 96) | mirror
deriving DecidableEq, Repr

/-- A SerDes with transmit equaliser and pattern registers (R199, R217). -/
inductive Serdes where
  | lane (n : Fin 96) | mirror (m : Fin 4) | host (p : Fin 4)
deriving DecidableEq, Repr

/-- A frame as a lane receives it: the data bytes at frame offsets 1 to 63, whether a K character stood among them, and how
many code or disparity errors they held (R219, R220). -/
structure RxFrame where
  bytes : List Byte
  kchar : Bool
  errs : Nat
deriving DecidableEq, Repr

/-- An 8b/10b character: a data character Dx.y or a control character Kx.y (R201). -/
inductive Chr where
  | d (x : Fin 32) (y : Fin 8) | k (x : Fin 32) (y : Fin 8)
deriving DecidableEq, Repr

/-- What a mirror lane receives (R206, R207): block lock after 64 valid sync headers, a training block with its marker
0x5A or 0xA5 and the sending lane's number, a bad block, or a block with an invalid sync header. -/
inductive MirBlock where
  | lock | training (inverted : Bool) (num : Fin 4) | bad | badHeader
deriving DecidableEq, Repr

/-- The heartbeat of fret k (Table 16-3); the planner state is there only when an ACTIVE device sent it (R415).  `synced` is the sender's
SYNCED, which R429 needs and no field of the table carries (DESIGN CHOICE, log entry 51). -/
structure Heartbeat where
  fret : Word
  epoch : BitVec 16
  role : BitVec 3
  stage : BitVec 3
  freq : Word
  txoff : Word
  armtok : BitVec 16
  mute : BitVec 7
  hofret : Option Word
  jhead : BitVec 64
  jdone : BitVec 64
  pwcnt : Word
  winlen : BitVec 16
  levels : List Word
  defs : List Word
  phil : List (BitVec 16)
  synced : Bool
deriving DecidableEq, Repr

/-- An input of the trip fabric with blanking and a filter (R262, R267). -/
inductive TripIn where
  | cmp (n : Fin 32) | pin (n : Fin 8)
deriving DecidableEq, Repr

/-- A route register (R269). -/
inductive Route where
  | src (n : Fin 40) | sw | sup
deriving DecidableEq, Repr

/-- Who reads the station time: each core and engine has a holding latch of its own (R372). -/
inductive TimeReader where
  | sup (k : Fin 4) | engine (n : Fin 24) | other
deriving DecidableEq, Repr

/-- What SAF's own diagnostics detect in a safety cycle: nothing, MEM, CLOCK or PARAM (Table 13-4). -/
inductive SafDiag where
  | ok | mem | clock | param
deriving DecidableEq, Repr

/-- What the PCS of a host port reports (R364): the loss of lock, lock, or the end of a negotiation with half duplex only or not
and, in SGMII, the speed. -/
inductive PcsEvent where
  | lost | locked | negotiated (half : Bool) (speed : BitVec 2)
deriving DecidableEq, Repr

/-- Where a frame that a host port sends comes from: a transmit queue, or the partner's descriptor with DUP (R366, R368). -/
inductive TxSource where
  | queue0 | queue1 | copy
deriving DecidableEq, Repr

/-- Who sends a request and where to: the host port, the source address and source port as one number, the destination port, REQID, and
whether the datagram is an IP fragment (R386, Table 15-1). -/
structure Peer where
  port : Fin 4
  addr : Nat
  dport : Nat
  reqid : Word
  frag : Bool := false
deriving DecidableEq, Repr

/-- What a request carries in fields that are ignored on receipt, though its tag covers them: FLAGS bits 15:1, the header's bytes 0x10 to 0x1B,
and the reserved bytes in the body of IMAGE_PUT (R387, R393). -/
structure ReqRsv where
  flags : BitVec 15 := 0#15
  head : BitVec 96 := 0#96
  put : BitVec 24 := 0#24
deriving DecidableEq, Repr

/-- The header of a sessioned request and its tag (Table 15-1, R388). -/
structure Req where
  peer : Peer
  session : BitVec 16
  seq : Word
  notify : Bool
  tag : BitVec 128
  rsv : ReqRsv := {}
deriving DecidableEq, Repr

/-- The body of QUERY: JIDX, or SESSION and SEQ (R404). -/
inductive QueryKey where
  | jidx (j : BitVec 64) | seq (session : BitVec 16) (seq : Word)
deriving DecidableEq, Repr

/-- The control frames of the mirror link (Table 16-2): the twin's SIDE, its request for a delay measurement, its response with the measured
round trip in 2^-4 ns, and the end of the journal copy (R413, R417, R431); and any frame by its bytes, whose CRC decides (R414). -/
inductive CtlFrame where
  | side (b : Bool) | delayReq | delay (rt : Nat) | copyDone | raw (bytes : List Byte)
deriving DecidableEq, Repr

/-- An error in the memories with check bits (R94, R155): in the word that the engine fetches, or in the word at a control-plane address;
uncorrectable or of one bit.  Or an uncorrectable error of an OTP key slot (R469). -/
inductive EccEvent where
  | fetch (n : Fin 24) (bad : Bool) | word (addr : BitVec 40) (bad : Bool) | otp (k : Fin 4)
deriving DecidableEq, Repr

/-- What a converter samples: the external source's voltage in µV and its impedance in Ω, none at an open ball (R317), and the converter's
error in µV (R306, R504). -/
structure AdcInput where
  v : Int
  rs : Option Nat
  e : Int
deriving DecidableEq, Repr

/-- What the readback of a SOUT shows at the end of its dark pulse: below 1 V or not, or no V24S at the output stage (R345, Table 21-3). -/
inductive SoutRead where
  | low | high | unsupplied
deriving DecidableEq, Repr

/-- The bits that a pattern checker has received (R212). -/
structure PatRun where
  serdes : Serdes
  bits : List Bool
deriving DecidableEq, Repr

/-- What a debugger halts and resumes: an engine or a supervisory core (R481). -/
inductive HaltTarget where
  | engine (n : Fin 24) | sup (k : Fin 4)
deriving DecidableEq, Repr

/-- A debugger's halt; for an engine, with halting on BRK enabled or not (R104, R481). -/
structure HaltReq where
  target : HaltTarget
  brk : Bool
deriving DecidableEq, Repr

/-- The boundary-scan instructions that R481 tells apart: IDCODE, BYPASS, and the others by whether they drive balls. -/
inductive ScanOp where
  | idcode | bypass | other (drives : Bool)
deriving DecidableEq, Repr

/-- Where a timed frame waits: queue 0 of a port, or the port's copies of its partner's frames (R367, R368). -/
structure TxPlace where
  port : Fin 4
  copy : Bool
deriving DecidableEq, Repr

/-- The two holders of the power-on reset (R438, R496); of the supply, whether VBAT was there all the time VAUX was absent (R460). -/
inductive PorCause where
  | pin (vio : Bool) | supply (vbat vio : Bool)
deriving DecidableEq, Repr

/-- What the boot ROM's start finds: the start record and the journal index can be read (R446), and the lowest level of VIO, VSD, VSDT and
VANA in the last millisecond, in mV (R496). -/
structure RomStart where
  mramOk : Bool
  vio : Nat
  vsd : Nat
  vsdt : Nat
  vana : Nat
deriving DecidableEq, Repr

/-- The commands, in the order of the table. -/
inductive Instr where
  /-- REGISTER_WRITE (R23): A control-plane write to a register field that has no row of its own; it follows the field's access code (RW, W1C, W1S, RWL with LKERR). -/
  | regWrite (ag : Agent) (addr : BitVec 40) (w : Word)
  /-- READ_CLEAR (R23): A read of an RC field returns its value and clears it; an event in the same cycle is kept for the next read. -/
  | readClear (ag : Agent) (addr : BitVec 40)
  /-- UNMAPPED_ACCESS (R489): An access to an unmapped or unreachable address gets an error response, is not performed and is recorded in SYS_BUSERR. -/
  | unmappedAccess (ag : Agent) (addr : BitVec 40) (wr : Option (List (BitVec 8))) (size : Nat)
  /-- LOCK (R510): Writing 1 to a unit's LOCK bit locks that unit's RWL fields; a write that also sets UNLOCK leaves LOCK set. -/
  | lock (u : LockUnit) (withUnlock : Bool)
  /-- UNLOCK (R510): Writing a unit's UNLOCK = 1 clears its LOCK outside S4; in S4 it is ignored and sets the unit's ULERR. -/
  | unlock (u : LockUnit)
  /-- UNIT_ENABLE (R39): Writing EN = 1 to a unit sets ENST to ON from OFF within 4 cycles, or back to ON from DRAINING. -/
  | unitEnable (u : UnitId)
  /-- UNIT_DISABLE (R38): Writing EN = 0 sends ENST to OFF or DRAINING; refused in S4 for the ATU, dispatcher, modulation unit and routed comparators. -/
  | unitDisable (u : UnitId)
  /-- DRAIN_COMPLETE (R38): The work item in progress of a DRAINING unit completes and ENST goes to OFF. -/
  | drainComplete (u : UnitId)
  /-- FRET_BOUNDARY (R31): The angle reaches a fret threshold: the fret number advances, pending swaps and activations take effect, receive buffers flip, timebase state is queued and dispatch begins. -/
  | fretBoundary
  /-- TASK_START (R71): A task's start offset threshold triggers the engine to fetch from the entry point, or the start is skipped. -/
  | taskStart (n : Fin 24)
  /-- SCAN_START (R308): A fret-table, PWM-event or software start begins a scan of a list, or is dropped as an overrun or invalid configuration. -/
  | scanStart (m : Fin 8) (l : Fin 4) (src : ScanSource)
  /-- ADC_CONVERSION_DONE (R307): A 500 ns conversion ends; its result word is stored and the next conversion, ATU or scan, begins. -/
  | adcConversionDone (m : Fin 8) (x : AdcInput)
  /-- DEADLINE_THRESHOLD (R142): The angle reaches a task's deadline threshold; a miss is recorded and handled by MISSMODE if no COMMIT was accepted. -/
  | deadlineThreshold (n : Fin 24)
  /-- ARM_CONVERSION_DONE (R174): An arm's conversion completes: edges are filtered, capped and released to the member lanes and EW0 is rewritten. -/
  | armConversionDone (a : Fin 6)
  /-- FPCSEL_WRITE (R53): A write of ATU_CFG.FPCSEL is refused in S4, pends until the wrap while ON, or acts at once while OFF. -/
  | fpcselWrite (v : BitVec 2)
  /-- SOURCE_HANDOVER_REQUEST (R59): A write of ATU_CTRL.SRCREQ requests a handover at the next boundary; 0b11 sets SRCERR. -/
  | sourceHandoverRequest (v : BitVec 2)
  /-- SNAP (R63): Writing ATU_CTRL.SNAP captures fret number, angle and station time coherently. -/
  | snap
  /-- ATU_ENABLE (R75): Enabling the ATU starts the angle at 0 and the fret number at ATU_FRETINIT, and resets the Edge Planner records. -/
  | atuEnable
  /-- ATU_DISABLE (R74): Disabling the ATU outside S4 stops boundaries and thresholds within 4 FAB cycles; refused in S4. -/
  | atuDisable
  /-- SOURCE_LOSS (R58): The selected source is declared lost and the ATU enters holdover. -/
  | sourceLoss
  /-- SOURCE_RETURN (R58): A lost source returns and the ATU resumes tracking through the slew and clears HOLDOVER. -/
  | sourceReturn
  /-- SLEW_END (R60): The remaining angle difference falls below one FAB-cycle increment and SLEWING clears. -/
  | slewEnd
  /-- FRET_SWAP (R69): Writing FRET_CTRL.SWAP = 1 starts validation of the shadow fret table. -/
  | fretSwap (mode : Bool)
  /-- FRET_SWAP_VALIDATED (R69): Validation of the shadow fret table completes: failure sets SWAPERR and SWAPCODE, success sets SWAPPEND or swaps at once. -/
  | fretSwapValidated
  /-- FRET_TABLE_WRITE (R68): A write into a fret-table copy or FRET_PLEN is refused for the active copy or during a swap, otherwise performed. -/
  | fretTableWrite (off : BitVec 16) (w : Word)
  /-- ADD (R98): Integer add modulo 2^32. -/
  | add (n : Fin 24) (pr : BitVec 4) (rd ra rb : BitVec 5)
  /-- SUB (R98): Integer subtract modulo 2^32. -/
  | sub (n : Fin 24) (pr : BitVec 4) (rd ra rb : BitVec 5)
  /-- AND (R98): Bitwise AND. -/
  | and (n : Fin 24) (pr : BitVec 4) (rd ra rb : BitVec 5)
  /-- OR (R98): Bitwise OR. -/
  | or (n : Fin 24) (pr : BitVec 4) (rd ra rb : BitVec 5)
  /-- XOR (R98): Bitwise XOR. -/
  | xor (n : Fin 24) (pr : BitVec 4) (rd ra rb : BitVec 5)
  /-- ANDN (R98): Bitwise AND with the complement of rb. -/
  | andn (n : Fin 24) (pr : BitVec 4) (rd ra rb : BitVec 5)
  /-- SLL (R98): Logical shift left by rb[4:0]. -/
  | sll (n : Fin 24) (pr : BitVec 4) (rd ra rb : BitVec 5)
  /-- SRL (R98): Logical shift right. -/
  | srl (n : Fin 24) (pr : BitVec 4) (rd ra rb : BitVec 5)
  /-- SRA (R98): Arithmetic shift right. -/
  | sra (n : Fin 24) (pr : BitVec 4) (rd ra rb : BitVec 5)
  /-- ROR (R98): Rotate right. -/
  | ror (n : Fin 24) (pr : BitVec 4) (rd ra rb : BitVec 5)
  /-- MIN (R98): Signed minimum. -/
  | min (n : Fin 24) (pr : BitVec 4) (rd ra rb : BitVec 5)
  /-- MAX (R98): Signed maximum. -/
  | max (n : Fin 24) (pr : BitVec 4) (rd ra rb : BitVec 5)
  /-- MINU (R98): Unsigned minimum. -/
  | minu (n : Fin 24) (pr : BitVec 4) (rd ra rb : BitVec 5)
  /-- MAXU (R98): Unsigned maximum. -/
  | maxu (n : Fin 24) (pr : BitVec 4) (rd ra rb : BitVec 5)
  /-- CLZ (R98): Count leading zeros. -/
  | clz (n : Fin 24) (pr : BitVec 4) (rd ra : BitVec 5)
  /-- POPC (R98): Count of 1 bits. -/
  | popc (n : Fin 24) (pr : BitVec 4) (rd ra : BitVec 5)
  /-- MUL (R98): Low 32 bits of the product. -/
  | mul (n : Fin 24) (pr : BitVec 4) (rd ra rb : BitVec 5)
  /-- MULH (R98): High 32 bits of the signed product. -/
  | mulh (n : Fin 24) (pr : BitVec 4) (rd ra rb : BitVec 5)
  /-- MULHU (R98): High 32 bits of the unsigned product. -/
  | mulhu (n : Fin 24) (pr : BitVec 4) (rd ra rb : BitVec 5)
  /-- DIV (R98): Signed quotient on the divider; division by zero sets ADZ. -/
  | div (n : Fin 24) (pr : BitVec 4) (rd ra rb : BitVec 5)
  /-- DIVU (R98): Unsigned quotient on the divider. -/
  | divu (n : Fin 24) (pr : BitVec 4) (rd ra rb : BitVec 5)
  /-- REM (R98): Signed remainder on the divider. -/
  | rem (n : Fin 24) (pr : BitVec 4) (rd ra rb : BitVec 5)
  /-- REMU (R98): Unsigned remainder on the divider. -/
  | remu (n : Fin 24) (pr : BitVec 4) (rd ra rb : BitVec 5)
  /-- MOVL (R99): Load a zero-extended 16-bit immediate. -/
  | movl (n : Fin 24) (pr : BitVec 4) (rd : BitVec 5) (imm : BitVec 16)
  /-- MOVH (R99): Load the upper 16 bits keeping the lower half. -/
  | movh (n : Fin 24) (pr : BitVec 4) (rd : BitVec 5) (imm : BitVec 16)
  /-- ADDI (R99): Add a sign-extended 12-bit immediate. -/
  | addi (n : Fin 24) (pr : BitVec 4) (rd ra : BitVec 5) (imm : BitVec 12)
  /-- ANDI (R99): AND with a zero-extended immediate. -/
  | andi (n : Fin 24) (pr : BitVec 4) (rd ra : BitVec 5) (imm : BitVec 12)
  /-- ORI (R99): OR with a zero-extended immediate. -/
  | ori (n : Fin 24) (pr : BitVec 4) (rd ra : BitVec 5) (imm : BitVec 12)
  /-- XORI (R99): XOR with a zero-extended immediate. -/
  | xori (n : Fin 24) (pr : BitVec 4) (rd ra : BitVec 5) (imm : BitVec 12)
  /-- SHI (R99): Shift or rotate by an immediate count. -/
  | shi (n : Fin 24) (pr : BitVec 4) (rd ra : BitVec 5) (op : BitVec 2) (cnt : BitVec 5)
  /-- QADD (R100): Saturating Q31 add. -/
  | qadd (n : Fin 24) (pr : BitVec 4) (rd ra rb : BitVec 5)
  /-- QSUB (R100): Saturating Q31 subtract. -/
  | qsub (n : Fin 24) (pr : BitVec 4) (rd ra rb : BitVec 5)
  /-- QMUL (R100): Rounded saturating Q31 multiply. -/
  | qmul (n : Fin 24) (pr : BitVec 4) (rd ra rb : BitVec 5)
  /-- QNEG (R100): Saturating Q31 negate. -/
  | qneg (n : Fin 24) (pr : BitVec 4) (rd ra : BitVec 5)
  /-- QABS (R100): Saturating Q31 absolute value. -/
  | qabs (n : Fin 24) (pr : BitVec 4) (rd ra : BitVec 5)
  /-- QSHL (R100): Saturating Q31 shift left. -/
  | qshl (n : Fin 24) (pr : BitVec 4) (rd ra rb : BitVec 5)
  /-- QSHR (R100): Rounded Q31 shift right. -/
  | qshr (n : Fin 24) (pr : BitVec 4) (rd ra rb : BitVec 5)
  /-- MAC (R100): Accumulate a product into an accumulator with 72-bit saturation. -/
  | mac (n : Fin 24) (pr : BitVec 4) (a : BitVec 2) (ra rb : BitVec 5)
  /-- MSU (R100): Subtract a product from an accumulator. -/
  | msu (n : Fin 24) (pr : BitVec 4) (a : BitVec 2) (ra rb : BitVec 5)
  /-- MPYA (R100): Load an accumulator with a product. -/
  | mpya (n : Fin 24) (pr : BitVec 4) (a : BitVec 2) (ra rb : BitVec 5)
  /-- ADDA (R100): Add a Q31 value to an accumulator. -/
  | adda (n : Fin 24) (pr : BitVec 4) (a : BitVec 2) (ra : BitVec 5)
  /-- CLRA (R100): Clear an accumulator. -/
  | clra (n : Fin 24) (pr : BitVec 4) (a : BitVec 2)
  /-- RACC (R100): Round an accumulator to Q31 after a left shift by k. -/
  | racc (n : Fin 24) (pr : BitVec 4) (rd : BitVec 5) (a : BitVec 2) (k : BitVec 5)
  /-- MFA (R100): Read one part of an accumulator. -/
  | mfa (n : Fin 24) (pr : BitVec 4) (rd : BitVec 5) (a : BitVec 2) (part : BitVec 5)
  /-- MTA (R100): Write one part of an accumulator. -/
  | mta (n : Fin 24) (pr : BitVec 4) (a : BitVec 2) (ra : BitVec 5) (part : BitVec 5)
  /-- FADD (R101): FP32 add. -/
  | fadd (n : Fin 24) (pr : BitVec 4) (rd ra rb : BitVec 5)
  /-- FSUB (R101): FP32 subtract. -/
  | fsub (n : Fin 24) (pr : BitVec 4) (rd ra rb : BitVec 5)
  /-- FMUL (R101): FP32 multiply. -/
  | fmul (n : Fin 24) (pr : BitVec 4) (rd ra rb : BitVec 5)
  /-- FMA (R101): FP32 fused multiply-add into rd. -/
  | fma (n : Fin 24) (pr : BitVec 4) (rd ra rb : BitVec 5)
  /-- FMS (R101): FP32 fused multiply-subtract from rd. -/
  | fms (n : Fin 24) (pr : BitVec 4) (rd ra rb : BitVec 5)
  /-- FDIV (R101): FP32 divide on the divider. -/
  | fdiv (n : Fin 24) (pr : BitVec 4) (rd ra rb : BitVec 5)
  /-- FSQRT (R101): FP32 square root on the divider. -/
  | fsqrt (n : Fin 24) (pr : BitVec 4) (rd ra : BitVec 5)
  /-- FMIN (R101): FP32 minimumNumber. -/
  | fmin (n : Fin 24) (pr : BitVec 4) (rd ra rb : BitVec 5)
  /-- FMAX (R101): FP32 maximumNumber. -/
  | fmax (n : Fin 24) (pr : BitVec 4) (rd ra rb : BitVec 5)
  /-- FABS (R101): Clear the FP32 sign bit. -/
  | fabs (n : Fin 24) (pr : BitVec 4) (rd ra : BitVec 5)
  /-- FNEG (R101): Invert the FP32 sign bit. -/
  | fneg (n : Fin 24) (pr : BitVec 4) (rd ra : BitVec 5)
  /-- F2Q (R101): Convert FP32 to saturated Q31. -/
  | f2q (n : Fin 24) (pr : BitVec 4) (rd ra : BitVec 5)
  /-- Q2F (R101): Convert Q31 to FP32. -/
  | q2f (n : Fin 24) (pr : BitVec 4) (rd ra : BitVec 5)
  /-- F2I (R101): Convert FP32 to saturated signed integer. -/
  | f2i (n : Fin 24) (pr : BitVec 4) (rd ra : BitVec 5)
  /-- I2F (R101): Convert signed integer to FP32. -/
  | i2f (n : Fin 24) (pr : BitVec 4) (rd ra : BitVec 5)
  /-- CMP (R102): Compare two registers under a condition and combine into a predicate. -/
  | cmp (n : Fin 24) (pr : BitVec 4) (pd : BitVec 3) (comb : BitVec 2) (ra rb : BitVec 5) (cond : BitVec 4)
  /-- CMPI (R102): Compare a register with an immediate and combine into a predicate. -/
  | cmpi (n : Fin 24) (pr : BitVec 4) (pd : BitVec 3) (comb : BitVec 2) (ra : BitVec 5) (imm : BitVec 8) (cond : BitVec 4)
  /-- PLOG (R102): Logical operation on predicates. -/
  | plog (n : Fin 24) (pr : BitVec 4) (pd pa pb op : BitVec 3)
  /-- MFS (R104): Read a special register. -/
  | mfs (n : Fin 24) (pr : BitVec 4) (rd : BitVec 5) (sreg : BitVec 12)
  /-- MTS (R104): Write a writable special register; RO or absent numbers raise ILLEGAL. -/
  | mts (n : Fin 24) (pr : BitVec 4) (sreg : BitVec 12) (ra : BitVec 5)
  /-- NOP (R104): No operation. -/
  | nop (n : Fin 24) (pr : BitVec 4)
  /-- FENCE (R104): Wait until every earlier load and store has completed. -/
  | fence (n : Fin 24) (pr : BitVec 4)
  /-- BRK (R104): Debug halt where enabled, otherwise raise BREAK. -/
  | brk (n : Fin 24) (pr : BitVec 4)
  /-- LDW (R103): Load a word. -/
  | ldw (n : Fin 24) (pr : BitVec 4) (rd ra : BitVec 5) (imm : BitVec 12)
  /-- LDH (R103): Load a sign-extended halfword. -/
  | ldh (n : Fin 24) (pr : BitVec 4) (rd ra : BitVec 5) (imm : BitVec 12)
  /-- LDHU (R103): Load a zero-extended halfword. -/
  | ldhu (n : Fin 24) (pr : BitVec 4) (rd ra : BitVec 5) (imm : BitVec 12)
  /-- LDB (R103): Load a sign-extended byte. -/
  | ldb (n : Fin 24) (pr : BitVec 4) (rd ra : BitVec 5) (imm : BitVec 12)
  /-- LDBU (R103): Load a zero-extended byte. -/
  | ldbu (n : Fin 24) (pr : BitVec 4) (rd ra : BitVec 5) (imm : BitVec 12)
  /-- LDQ (R103): Load a Q15 halfword as Q31. -/
  | ldq (n : Fin 24) (pr : BitVec 4) (rd ra : BitVec 5) (imm : BitVec 12)
  /-- LDWP (R103): Load a word with post-increment. -/
  | ldwp (n : Fin 24) (pr : BitVec 4) (rd ra : BitVec 5) (imm : BitVec 12)
  /-- STW (R103): Store a word. -/
  | stw (n : Fin 24) (pr : BitVec 4) (rs ra : BitVec 5) (imm : BitVec 12)
  /-- STH (R103): Store a halfword. -/
  | sth (n : Fin 24) (pr : BitVec 4) (rs ra : BitVec 5) (imm : BitVec 12)
  /-- STB (R103): Store a byte. -/
  | stb (n : Fin 24) (pr : BitVec 4) (rs ra : BitVec 5) (imm : BitVec 12)
  /-- STQ (R103): Store a rounded saturated Q15 halfword. -/
  | stq (n : Fin 24) (pr : BitVec 4) (rs ra : BitVec 5) (imm : BitVec 12)
  /-- STWP (R103): Store a word with post-increment. -/
  | stwp (n : Fin 24) (pr : BitVec 4) (rs ra : BitVec 5) (imm : BitVec 12)
  /-- BR (R104): Relative branch. -/
  | br (n : Fin 24) (pr : BitVec 4) (off : BitVec 22)
  /-- CALL (R104): Relative call writing g31. -/
  | call (n : Fin 24) (pr : BitVec 4) (off : BitVec 22)
  /-- JR (R104): Jump to a register address. -/
  | jr (n : Fin 24) (pr : BitVec 4) (ra : BitVec 5)
  /-- JALR (R104): Jump to a register address and link. -/
  | jalr (n : Fin 24) (pr : BitVec 4) (rd ra : BitVec 5)
  /-- SINCOS (R116): Sine and cosine of an angle in au. -/
  | sincos (n : Fin 24) (pr : BitVec 4) (rd ra rb : BitVec 5)
  /-- BIQ (R119): One biquad step on a block in data RAM. -/
  | biq (n : Fin 24) (pr : BitVec 4) (rd ra rb : BitVec 5)
  /-- PI (R121): One PI step with anti-windup, blend and rate limit. -/
  | pi (n : Fin 24) (pr : BitVec 4) (rd ra rb : BitVec 5)
  /-- CAPO (R122): Bumpless handover of a loop to a PI block, by preload or blend. -/
  | capo (n : Fin 24) (pr : BitVec 4) (rd ra rb : BitVec 5)
  /-- LIM (R117): Signed clamp of rd between ra and rb. -/
  | lim (n : Fin 24) (pr : BitVec 4) (rd ra rb : BitVec 5)
  /-- LIMF (R117): FP32 clamp of rd between ra and rb. -/
  | limf (n : Fin 24) (pr : BitVec 4) (rd ra rb : BitVec 5)
  /-- SAT (R117): Signed clamp to n bits. -/
  | sat (n : Fin 24) (pr : BitVec 4) (rd ra cnt : BitVec 5)
  /-- SATU (R117): Unsigned clamp to n bits. -/
  | satu (n : Fin 24) (pr : BitVec 4) (rd ra cnt : BitVec 5)
  /-- PLUCK (R123): Advance the PRBS15 state word. -/
  | pluck (n : Fin 24) (pr : BitVec 4) (rd ra : BitVec 5)
  /-- PLKA (R124): Add or subtract an amplitude by the newest chip. -/
  | plka (n : Fin 24) (pr : BitVec 4) (rd ra rb : BitVec 5)
  /-- PLKC (R124): Correlate a value into an accumulator by chip L. -/
  | plkc (n : Fin 24) (pr : BitVec 4) (a : BitVec 2) (ra rb lag : BitVec 5)
  /-- SEND (R127): Write a lane command or arm reference working copy; discarded after COMMIT or for a non-owner. -/
  | send (n : Fin 24) (pr : BitVec 4) (ra rb : BitVec 5)
  /-- RECV (R130): Read a word of a lane's readable receive buffer. -/
  | recv (n : Fin 24) (pr : BitVec 4) (rd ra : BitVec 5)
  /-- PEGA (R131): Atomically try to acquire a peg. -/
  | pega (n : Fin 24) (pr : BitVec 4) (rd ra : BitVec 5)
  /-- PEGR (R131): Release a held peg and clear BROKEN. -/
  | pegr (n : Fin 24) (pr : BitVec 4) (rd ra : BitVec 5)
  /-- PEGRK (R131): Release a held peg leaving it BROKEN. -/
  | pegrk (n : Fin 24) (pr : BitVec 4) (rd ra : BitVec 5)
  /-- PEGQ (R131): Read the peg state word. -/
  | pegq (n : Fin 24) (pr : BitVec 4) (rd ra : BitVec 5)
  /-- WAITF (R132): Wait for an offset threshold or the deadline threshold. -/
  | waitf (n : Fin 24) (pr : BitVec 4) (pd : BitVec 3) (off : BitVec 16)
  /-- WAITF_WAKE (R132): A waiting WAITF wakes when its offset or the deadline is reached and writes pd. -/
  | waitfWake (n : Fin 24)
  /-- COMMIT (R134): Release the working copies of owned lanes and arms for the fret, or report LATE or AGAIN. -/
  | commit (n : Fin 24) (pr : BitVec 4) (rd : BitVec 5)
  /-- COMMIT_E (R134): COMMIT and then end the task. -/
  | commitE (n : Fin 24) (pr : BitVec 4) (rd : BitVec 5)
  /-- ENDT (R114): End the task; NOCOMMIT is set without an accepted COMMIT. -/
  | endt (n : Fin 24) (pr : BitVec 4)
  /-- DLQ (R133): Return the engine cycles left to the deadline. -/
  | dlq (n : Fin 24) (pr : BitVec 4) (rd : BitVec 5)
  /-- DLCK (R133): Test whether the cycles left to the deadline are at least ra. -/
  | dlck (n : Fin 24) (pr : BitVec 4) (pd : BitVec 3) (ra : BitVec 5)
  /-- SSM_GRANT (R157): The arbiter grants the raised requester with the highest credit and the transaction proceeds. -/
  | ssmGrant (raised : BitVec 10) (engines : BitVec 24) (cycles : Nat)
  /-- ARB_WINDOW_START (R157): Every 1,024 SSM cycles all arbiter credits are reset to their weights. -/
  | arbWindowStart
  /-- HOLD_LIMIT_CUT (R158): A grant reaching HOLD cycles incomplete is cut, ARB_VIOL is set and the rest is requested again. -/
  | holdLimitCut
  /-- CE_URST (R147): A unit reset of an engine ends its task, clears registers and EN, and breaks the pegs it holds. -/
  | ceUrst (n : Fin 24)
  /-- DEBUG_RESUME (R146): A halted engine resumes; a due ABORT or overrun end takes effect first. -/
  | debugResume (x : HaltTarget)
  /-- IMAGE_BANK_WRITE (R148): A control-plane write to an instruction bank or entry table is refused or performed and clears STGOK. -/
  | imageBankWrite (n : Fin 24) (off : BitVec 17) (w : Word)
  /-- ACT_GO (R151): Writing CE_ACTCTRL.GO = 1 starts validation of an activation. -/
  | actGo (mode : Bool)
  /-- ACT_VALIDATED (R151): Activation validation completes: failure sets ERR and CODE, success sets PEND or activates at once. -/
  | actValidated
  /-- PEG_ACQ_READ (R161): A SUP read of PEGn_ACQ performs PEGA for the reading core. -/
  | pegAcqRead (core : Fin 4) (peg : Fin 256)
  /-- PEG_REL_READ (R161): A SUP read of PEGn_REL performs PEGR for the reading core. -/
  | pegRelRead (core : Fin 4) (peg : Fin 256)
  /-- PEG_RELK_READ (R161): A SUP read of PEGn_RELK performs PEGRK for the reading core. -/
  | pegRelkRead (core : Fin 4) (peg : Fin 256)
  /-- CBS_SORT_START (R189): A queued sort of an arm enters the shared sorting network. -/
  | cbsSortStart (a : Fin 6)
  /-- CBS_SORT_DONE (R188): A sort completes and its result block is written to the owner's data RAM. -/
  | cbsSortDone (a : Fin 6)
  /-- MOD_URST (R169): A unit reset of the modulation unit abandons the conversion and resets the planner records; refused in S4. -/
  | modUrst
  /-- TRAINING_SET_RECEIVED (R202): A TA or TB set received in training advances the count, polarity decision and LSTATE. -/
  | trainingSetReceived (n : Fin 96) (first : Chr) (rest : List Chr) (errs : Nat)
  /-- TRAINING_TIMEOUT (R203): A lane not UP within TRNTO counts TRNFAIL and restarts training. -/
  | trainingTimeout (t : TrainUnit)
  /-- LINK_LOSS (R204): A lane in UP declares link loss, sets LOSS and returns to training. -/
  | linkLoss (n : Fin 96) (errs : Nat)
  /-- RETRAIN (R202): Writing CLn_PHYCTRL.RETRAIN restarts training of the lane. -/
  | retrain (n : Fin 96)
  /-- RATE_WRITE (R196): A change of RATE restarts training at the new rate, or is refused in S4. -/
  | rateWrite (n : Fin 96) (rate : Bool)
  /-- TXEQ_WRITE (R199): A TXEQ write with PRE + POST above 32 is refused, otherwise applied at the next word boundary. -/
  | txeqWrite (x : Serdes) (w : Word)
  /-- EIREQ_SET (R208): Writing EIREQ = 1 in UP sends EIS after the frame in progress; refused in S4. -/
  | eireqSet (n : Fin 96)
  /-- EIS_SENT (R208): The four EIS sets have been sent and the lane enters EIDLE. -/
  | eisSent (n : Fin 96)
  /-- EIS_RECEIVED (R208): An EIS from the cell is answered with EIS outside S4, or ignored in S4. -/
  | eisReceived (n : Fin 96)
  /-- EIREQ_CLEAR (R208): Writing EIREQ = 0 in EIDLE exits by FXB or full training. -/
  | eireqClear (n : Fin 96)
  /-- FXB_RECEIVED (R209): The partner's complete FXB and a following IDLE return the lane to UP. -/
  | fxbReceived (n : Fin 96)
  /-- FAST_EXIT_TIMEOUT (R209): No complete FXB within 4 µs sends the lane to training and counts TRNFAIL. -/
  | fastExitTimeout (n : Fin 96)
  /-- PATTERN_CTRL_WRITE (R213): A PATCTRL write starts or ends a generator, checker or loopback, or is refused. -/
  | patternCtrlWrite (x : Serdes) (w : Word)
  /-- CHECKER_LOCK (R212): The pattern checker locks after matching bits. -/
  | checkerLock (r : PatRun)
  /-- CHECKER_LOST_LOCK (R212): 32 mismatches in 128 bits drop lock and set LOSTLK. -/
  | checkerLostLock (x : Serdes) (bits : List Bool)
  /-- MIRROR_GROUP_UP (R206): The mirror lanes complete training, lane ordering and deskew and enter UP. -/
  | mirrorGroupUp
  /-- MIRROR_LINK_LOSS (R207): A loss on any mirror lane returns the whole group to training. -/
  | mirrorLinkLoss (m : Fin 4)
  /-- TIMEBASE_LAUNCH (R223): At the TB slot a lane sends any MUTE burst, TIMEBASE and a requested CLEAR. -/
  | timebaseLaunch (n : Fin 96)
  /-- DELAY_REQ_LAUNCH (R238): At the DLY slot in selected frets a lane sends DELAY_REQ and timestamps t1. -/
  | delayReqLaunch (n : Fin 96)
  /-- COMMAND_LAUNCH (R224): At the CMD slot a lane sends the released COMMAND, or counts MISSCMD. -/
  | commandLaunch (n : Fin 96)
  /-- RETRY_LAUNCH (R241): At RETRY a lane resends the COMMAND if its ACK was missing, BAD or NONE and the resend ends before the boundary. -/
  | retryLaunch (n : Fin 96)
  /-- ACK_RECEIVED (R225): A lane receives an ACK frame and holds its status for the retry decision. -/
  | ackReceived (n : Fin 96) (f : RxFrame)
  /-- TELEMETRY_RECEIVED (R226): A TELEMETRY frame is stored in the receive buffer, or discarded if late or invalid. -/
  | telemetryReceived (n : Fin 96) (f : RxFrame)
  /-- DELAY_RESP_RECEIVED (R238): A DELAY_RESP yields a delay result that is accepted or discarded and updates CLn_DELAY. -/
  | delayRespReceived (n : Fin 96) (f : RxFrame) (t4 : Nat)
  /-- DELAY_RESP_TIMEOUT (R238): No DELAY_RESP by the ACK slot discards the measurement. -/
  | delayRespTimeout (n : Fin 96)
  /-- BULK_RECEIVED (R229): A received BULK frame fills a free receive entry or is dropped. -/
  | bulkReceived (n : Fin 96) (f : RxFrame)
  /-- BULK_TX_GO (R229): Writing CLn_BCTRL.TXGO queues a bulk transmit entry. -/
  | bulkTxGo (n : Fin 96) (e : Fin 4)
  /-- BULK_TX_SEND (R234): A queued bulk frame is sent in a gap ending 16 ns before the next launch. -/
  | bulkTxSend (n : Fin 96)
  /-- BULK_RX_FREE (R229): Writing CLn_BCTRL.RXFREE releases a receive entry. -/
  | bulkRxFree (n : Fin 96) (e : Fin 4)
  /-- SLOT_TABLE_WRITE (R233): A write into a slot table copy is refused for the active copy or during a swap, otherwise performed. -/
  | slotTableWrite (n : Fin 96) (off : BitVec 7) (w : Word)
  /-- CLG_SWAP (R233): Writing CLG_CTRL.SWAP = 1 starts validation of the masked lanes' shadow slot tables. -/
  | clgSwap (mode : Bool)
  /-- CLG_SWAP_VALIDATED (R233): Slot-table validation completes with SWAPERR and SWAPCODE or a pending or immediate swap. -/
  | clgSwapValidated
  /-- CLEAR_REQUEST (R250): Writing CLG_CTRL.CLRGO = 1 requests a CLEAR, refused while muted, for an absent lane or when not commanding. -/
  | clearRequest
  /-- CMP_CROSSING (R259): A comparator input crosses a threshold or hysteresis edge and its raw output changes side. -/
  | cmpCrossing (n : Fin 32) (v : Nat)
  /-- TRIP_PIN_CHANGE (R267): A TRIP pin changes level and its decided level follows. -/
  | tripPinChange (n : Fin 8) (level : Bool)
  /-- BLANK_WINDOW_END (R262): A blanking window ends and the gated output follows the raw output. -/
  | blankWindowEnd (x : TripIn)
  /-- FILTER_QUALIFIED (R263): The qualification filter reaches its count and Q goes to the trip side. -/
  | filterQualified (x : TripIn)
  /-- MUTE_STATE_SET (R271): The fabric sees a latch routed to MUTE or a fixed source, sets MSTATE and the reason, and starts bursts on every UP lane. -/
  | muteStateSet
  /-- LATCH_CLEAR (R268): Writing 1 to a TRIP_LAT bit clears the latch unless its source is asserted. -/
  | latchClear (k : Fin 3) (w : Word)
  /-- MCLR (R271): Writing TRIP_CTRL.MCLR clears MSTATE unless a routed latch or fixed source holds it. -/
  | mclr
  /-- ROUTE_WRITE (R269): A route write acts from the next FAB cycle; gaining MUTE with the latch set sets MSTATE. -/
  | routeWrite (r : Route) (w : Word)
  /-- SW_TRIP_REQUEST (R274): A write of TRIP_SWREQn, an XTRIP exception or a MISSTRIP miss sets an engine request latch. -/
  | swTripRequest (n : Fin 24)
  /-- SUP_TRIP_REQUEST (R274): A write of TRIP_SUPREQ sets the supervisory request latch. -/
  | supTripRequest
  /-- PWM_PERIOD_START (R285): A pair's counter starts a new period; chained slaves load PHS. -/
  | pwmPeriodStart (n : Fin 24)
  /-- PWM_LOAD_POINT (R287): 512 FAB cycles before a period start the shadows are copied to the active copies unless held. -/
  | pwmLoadPoint (n : Fin 24)
  /-- PWM_COMPARE_MATCH (R286): The counter reaches a planned edge of X and the derived switch turns off or schedules turn-on. -/
  | pwmCompareMatch (n : Fin 24)
  /-- DEAD_TIME_EXPIRY (R291): A switch's dead time ends and it turns on. -/
  | deadTimeExpiry (n : Fin 24) (high : Bool)
  /-- PWM_START (R288): Writing PWM_START schedules a common start of masked ON pairs 512 cycles later. -/
  | pwmStart (mask : BitVec 24)
  /-- PWM_START_DUE (R288): The common start cycle arrives and the masked pairs start at PHS. -/
  | pwmStartDue
  /-- PWM_TRIP (R295): A selected force group line rises and the pair goes to its trip state and sets TRIPPED. -/
  | pwmTrip (n : Fin 24)
  /-- PWM_TRIP_CLEAR (R296): Writing PWn_TRIP.CLR clears TRIPPED and CLKLOSS unless a line is high or clock loss persists. -/
  | pwmTripClear (n : Fin 24)
  /-- CBC_CUT (R297): With the CBC comparator on the trip side outside blanking, PWnH turns off and X holds 0 to the period end. -/
  | cbcCut (n : Fin 24)
  /-- CBC_BLANK_END (R297): The CBC leading-edge blanking window after a PWnH turn-on ends. -/
  | cbcBlankEnd (n : Fin 24)
  /-- PWM_OVERRIDE (R292): A PWn_OVR write forces a switch; on is refused in S4. -/
  | pwmOverride (n : Fin 24) (ovrh ovrl : BitVec 2)
  /-- PWM_DISABLE (R299): Writing EN = 0 takes the pair to DSTATE at the period end or at once with IMMDIS. -/
  | pwmDisable (n : Fin 24)
  /-- PWM_TRIGGER (R300): TRGA or TRGB matches the counter and fires a PWM event. -/
  | pwmTrigger (n : Fin 24) (b : Bool)
  /-- DEBUG_HALT (R301): An engine halts by debug; with FREEZE set every pair freezes. -/
  | debugHalt (h : HaltReq)
  /-- ADC_SWGO (R309): Writing a bit of ADn_CTRL.SWGO starts a scan of that list. -/
  | adcSwgo (m : Fin 8) (lists : BitVec 4)
  /-- AD_URST (R316): A unit reset of a converter discards the conversion in progress; refused in S4 for an ATU converter. -/
  | adUrst (m : Fin 8)
  /-- TDAC_WRITE (R317): A test DAC write sets its output; BALL mode enable is refused in S4. -/
  | tdacWrite (m : Fin 8) (w : Word)
  /-- AUX_PERIOD_START (R321): The auxiliary counter starts a period, copies duty shadows and commands the high side on. -/
  | auxPeriodStart
  /-- AUX_HON_MATCH (R321): The counter reaches HON and the command passes to the low side. -/
  | auxHonMatch (x : Fin 4)
  /-- AUX_DEAD_TIME_EXPIRY (R322): An auxiliary switch's dead time ends and it turns on. -/
  | auxDeadTimeExpiry (x : Fin 4) (high : Bool)
  /-- BOOTSTRAP_UV (R323): A bootstrap supply below 7.5 V turns the high side off and sets BSUV. -/
  | bootstrapUv (x : Fin 4)
  /-- BOOTSTRAP_RECOVER (R323): The bootstrap supply rises above 8.3 V. -/
  | bootstrapRecover (x : Fin 4)
  /-- VDRV_UV (R323): VDRV below 8.0 V, or VHV below 10.5 V, turns every auxiliary switch off. -/
  | vdrvUv (vhv : Bool)
  /-- VDRV_RECOVER (R323): VDRV rises above 8.8 V. -/
  | vdrvRecover
  /-- AUX_DESAT_BLANK_END (R324): A switch's desaturation blanking time ends and the monitor opens. -/
  | auxDesatBlankEnd (x : Fin 4) (high : Bool)
  /-- AUX_DESAT (R324): A desaturation is detected; the motor is actively shorted or AUXD turned off. -/
  | auxDesat (x : Fin 4) (high : Bool)
  /-- AUX_OVERRIDE (R326): An AUXx_OVR write overrides a switch; both on gives both off and XCONF. -/
  | auxOverride (x : Fin 4) (ovrh ovrl : BitVec 2)
  /-- AUX_LINK_LOSS (R327): The control-die link is lost for 10 µs and every auxiliary switch turns off. -/
  | auxLinkLoss
  /-- AUX_LINK_RETURN (R327): The control-die link returns and the half-bridges resume at their next command edge. -/
  | auxLinkReturn
  /-- VREG_PHASE_FIRE (R329): The sensed rail falls below REF − H/2 and the next phase fires. -/
  | vregPhaseFire
  /-- VREG_ON_TIME_END (R329): A fired phase's on-time ends and VRPWMn goes low. -/
  | vregOnTimeEnd (p : Fin 4)
  /-- VREG_CURRENT_LIMIT (R333): VRILIMn_N low during a firing ends the on-time and counts ILIM. -/
  | vregCurrentLimit (p : Fin 4)
  /-- VREG_REF_STEP (R331): REF moves one 5 mV step towards the target. -/
  | vregRefStep
  /-- VID_WRITE (R331): A VREG_VID write sets a new target at once, or is refused outside 0x78–0xB4. -/
  | vidWrite (vid : BitVec 8)
  /-- PWRGD_ASSERT (R332): The rail stays in the window for 10 µs and PWRGD_CORE asserts. -/
  | pwrgdAssert
  /-- PWRGD_DEASSERT (R332): The rail stays outside the window beyond PGFILT and PWRGD_CORE deasserts, causing a warm reset. -/
  | pwrgdDeassert
  /-- OVP_DETECT (R332): The rail above REF + 10 % for 1 µs sets OVP. -/
  | ovpDetect
  /-- SOFT_START_TIMEOUT (R333): PWRGD_CORE not asserted within SSTO starts a hiccup, or latches off after the eighth. -/
  | softStartTimeout
  /-- HICCUP_END (R333): After 32 ms at mid level a new soft start begins. -/
  | hiccupEnd
  /-- HICCUP_COUNT_CLEAR (R333): PWRGD_CORE asserted for 100 ms returns HICCUPS to 0. -/
  | hiccupCountClear
  /-- SYNC_IN_LOST (R330): A missing or out-of-range SYNC_IN period falls back to the internal target. -/
  | syncInLost
  /-- SYNC_IN_REACQUIRED (R330): 16 consecutive in-range periods return the regulator to SYNC_IN. -/
  | syncInReacquired
  /-- SER_FIRMWARE_START (R340): SAF verifies and starts the SER firmware and SER leaves BOOT. -/
  | serFirmwareStart
  /-- SAFETY_CYCLE (R342): Every 250 µs SAF samples, filters and evaluates the inputs and runs its checks and state transitions. -/
  | safetyCycle (closed : BitVec 8) (readback : BitVec 4) (diag : SafDiag)
  /-- SER_SOUT_CUT (R347): 5 µs after source 65 every SOUT is commanded off. -/
  | serSoutCut
  /-- TPO_PULSE (R344): A TPO goes low at PPOS for its test pulse. -/
  | tpoPulse (k : Fin 4)
  /-- TPO_PULSE_END (R344): A TPO pulse ends and the inputs it supplies are checked for opening. -/
  | tpoPulseEnd (k : Fin 4) (closed : BitVec 8)
  /-- TPO_RECOVERY_CHECK (R344): 20 µs after a pulse the inputs must read closed again. -/
  | tpoRecoveryCheck (k : Fin 4) (closed : BitVec 8)
  /-- SOUT_DARK_PULSE (R345): An enabled SOUT is switched off at PPOS for its dark pulse. -/
  | soutDarkPulse (n : Fin 4)
  /-- DARK_PULSE_END (R345): A dark pulse ends; the output is checked and restored. -/
  | darkPulseEnd (n : Fin 4) (r : SoutRead)
  /-- PROOF_TEST_END (R352): The 64-cycle proof test ends with PASS into RECOVERY. -/
  | proofTestEnd
  /-- LOCKSTEP_FAULT (R354): The SAF lockstep checker detects a fault and hardware forces the safe state. -/
  | lockstepFault
  /-- SER_WATCHDOG_EXPIRY (R354): SAF fails to end a cycle within 750 µs and the watchdog forces the safe state. -/
  | serWatchdogExpiry
  /-- SAFE_SUPPLY_FAULT (R354): The SAFE supply monitor detects under- or overvoltage and forces the safe state. -/
  | safeSupplyFault
  /-- HOST_FRAME_RECEIVED (R365): A received Ethernet frame is checked, stamped, PRP-filtered, SV-matched and written to the receive ring. -/
  | hostFrameReceived (p : Fin 4) (f fcs : List Byte) (ago : Nat)
  /-- PRP_ENTRY_EXPIRY (R369): A duplicate-table entry older than FORGET is removed. -/
  | prpEntryExpiry (k : Fin 2)
  /-- TX_QUEUE_TAIL_WRITE (R366): Software advances a transmit queue TAIL, handing descriptors to the port. -/
  | txQueueTailWrite (p : Fin 4) (q : Fin 2) (tail : BitVec 16)
  /-- TIMED_LAUNCH_DUE (R367): A queue-0 timed frame's launch time or angle threshold arrives. -/
  | timedLaunchDue (q : TxPlace) (busy : Bool)
  /-- HOST_FRAME_SENT (R366): A frame leaves the port, with one-step insertion or a timestamp push, and STATUS and HEAD are written. -/
  | hostFrameSent (p : Fin 4) (src : TxSource) (ago : Nat)
  /-- TSQ_POP (R376): A read of HPp_TSQTS returns the head stamp and removes the entry. -/
  | tsqPop (p : Fin 4)
  /-- HOST_LINK_STATE_CHANGE (R364): A host port's PCS gains or loses lock or finishes negotiation and PSTATE changes. -/
  | hostLinkStateChange (p : Fin 4) (e : PcsEvent)
  /-- HP_MODE_WRITE (R374): A MODE write changes the PCS mode and loads TSLAT, or is refused for 0b11. -/
  | hpModeWrite (p : Fin 4) (mode : BitVec 2)
  /-- TIME_SET (R371): TIME_CTRL.SET loads the station clock, or is refused for TIME_WNS ≥ 10^9. -/
  | timeSet
  /-- TIME_STEP (R371): TIME_CTRL.STEP adds TIME_STEPNS to the station clock. -/
  | timeStep
  /-- TIME_NS_READ (R372): A read of TIME_NS captures the full time into the reader's holding latch. -/
  | timeNsRead (r : TimeReader)
  /-- TOUT_ENABLE (R381): Enabling a TOUT schedules its pulses, or is refused with CFGERR or sets MISSED. -/
  | toutEnable (n : Fin 8)
  /-- TOUT_RISE (R381): The station clock reaches a TOUT start and the output goes active. -/
  | toutRise (n : Fin 8)
  /-- TOUT_FALL (R381): WID elapses and the TOUT returns inactive. -/
  | toutFall (n : Fin 8)
  /-- IDENTIFY (R391): Host command returning the device identity. -/
  | identify (q : Peer)
  /-- STATUS (R391): Host command returning the device status. -/
  | status (q : Peer)
  /-- REASON (R446): Host command returning PMC_STAGE.REASON. -/
  | reason (q : Peer)
  /-- FW_RECOVER_BEGIN (R448): Opens a recovery of TOTAL bytes into the inactive firmware slot. -/
  | fwRecoverBegin (q : Peer) (total : Word)
  /-- FW_RECOVER_DATA (R448): Writes recovery bytes at the expected offset. -/
  | fwRecoverData (q : Peer) (off : Word) (data : List Byte)
  /-- FW_RECOVER_COMMIT (R448): Verifies the recovered object, activates the slot, clears FAILCNT and MMREQ and warm-resets. -/
  | fwRecoverCommit (q : Peer)
  /-- FW_RECOVER_RETRY (R448): Clears FAILCNT and MMREQ and warm-resets. -/
  | fwRecoverRetry (q : Peer)
  /-- RECOVERY_IDLE_TIMEOUT (R448): A recovery left 60 s without a request is closed and its data discarded. -/
  | recoveryIdleTimeout
  /-- OPEN (R389): Opens or resumes a session and derives a session key. -/
  | openSession (q : Peer) (cred : Byte) (resume : BitVec 16) (nh : List Byte)
  /-- SESSION_KEY_TIMEOUT (R389): A new session key not used within 5 s is discarded. -/
  | sessionKeyTimeout (sid : BitVec 16)
  /-- PING (R391): Unsequenced sessioned liveness command. -/
  | ping (r : Req)
  /-- QUERY (R404): Returns the state, result and data of a journal entry. -/
  | query (r : Req) (k : QueryKey)
  /-- READ (R391): Returns register or state values to a VIEW session. -/
  | readState (r : Req) (addr : BitVec 40)
  /-- LOG_READ (R391): Returns event log content. -/
  | logRead (r : Req)
  /-- ATTEST (R479): Returns a part of the signed attestation report and certificate for a nonce. -/
  | attest (r : Req) (nonce : List Byte) (part : Nat)
  /-- IMAGE_PUT (R393): Writes bytes of a signed object into the image or firmware put buffer. -/
  | imagePut (r : Req) (buf : Byte) (off : Word) (data : List Byte)
  /-- CLOSE (R390): Journalled command ending a session and releasing its locks. -/
  | closeSession (r : Req)
  /-- LOCK_TAKE (R406): Journalled command taking a session lock. -/
  | lockTake (r : Req) (lock : Byte)
  /-- LOCK_RELEASE (R406): Journalled command releasing a session lock, optionally leaving it BROKEN. -/
  | lockRelease (r : Req) (lock keep : Byte)
  /-- CONV_CMD (R400): Journalled converter command delivered to engine programs through the command ring. -/
  | convCmd (r : Req) (body : List Byte)
  /-- MUTE_REQ (R391): Journalled command that writes TRIP_SUPREQ. -/
  | muteReq (r : Req)
  /-- PARAM_WRITE (R392): Journalled write of a named parameter, including CONV_ARM and LIFE_DEPLOY. -/
  | paramWrite (r : Req) (pid : BitVec 16) (value : List Byte)
  /-- IMAGE_STAGE (R477): Stages and verifies an engine image into the staging banks. -/
  | imageStage (r : Req) (total : Word)
  /-- IMAGE_ACTIVATE (R393): Writes the activation registers and requests an activation. -/
  | imageActivate (r : Req) (mask : Word) (mode : Byte) (fret : Word)
  /-- SER_PARAM (R356): Writes the SER parameter record to the MRAM store. -/
  | serParam (r : Req) (body : List Byte)
  /-- SER_CONFIRM (R358): Stores the SER check value in the confirmation word. -/
  | serConfirm (r : Req) (v : Word)
  /-- SER_RESTART (R350): Requests SER to leave RECOVERY or FAULT for PERMIT or RECOVERY. -/
  | serRestart (r : Req)
  /-- SER_TEST (R352): Requests a SER proof test. -/
  | serTest (r : Req)
  /-- FW_STAGE (R475): Verifies a firmware or revocation object from the firmware buffer. -/
  | fwStage (r : Req) (start total : Word)
  /-- FW_ACTIVATE (R475): Makes the inactive firmware slot active with TRIAL, warm-resetting outside S4. -/
  | fwActivate (r : Req)
  /-- JOURNAL_COMMIT_DONE (R397): A journal entry is durable locally and, where paired, acknowledged by the twin, and is ACCEPTED. -/
  | journalCommitDone
  /-- MIRROR_COMMIT_TIMEOUT (R399): No twin commit within 100 µs leads to SOLO at the fence unless the device yields. -/
  | mirrorCommitTimeout
  /-- ENTRY_EXECUTE (R400): A non-ring journal entry starts execution once every earlier entry is DONE. -/
  | entryExecute
  /-- CONV_CMD_DELIVERY (R401): A CONV_CMD entry is marked DELIVERED and written into its ring slot before WIDX advances. -/
  | convCmdDelivery
  /-- CONSLO_WRITE (R402): An engine writes CONSLO to report consumed entries; an out-of-range value sets CONSERR. -/
  | consloWrite (n : Fin 24) (v : Word)
  /-- CONSUMED_MARK_DURABLE (R402): The consumed mark becomes durable and mirrored, making entries DONE. -/
  | consumedMarkDurable
  /-- JOURNAL_REPLAY (R403): After a reset or takeover the journal is replayed and entries not DONE are completed. -/
  | journalReplay
  /-- JOURNAL_COMPACTION (R405): Background compaction writes session checkpoints making entries reclaimable. -/
  | journalCompaction
  /-- LEASE_EXPIRE (R407): A lock lease expires and a LEASE_EXPIRE entry leaves the lock BROKEN and not held. -/
  | leaseExpire (k : Fin 5)
  /-- SESSION_IDLE_EXPIRY (R390): A session without a valid request for SESS_IDLE ends and its record is deleted. -/
  | sessionIdleExpiry (sid : BitVec 16)
  /-- HEARTBEAT_SEND (R416): At MOFF a paired device sends its HB, WIN and END stream. -/
  | heartbeatSend
  /-- HEARTBEAT_RECEIVED (R415): HB and END of a fret arrive valid and the heartbeat counts as received. -/
  | heartbeatReceived (h : Heartbeat) (ago : Nat)
  /-- WIN_FRAME_RECEIVED (R417): A WIN frame is written to its SSM address in a non-active device. -/
  | winFrameReceived (addr : Word) (data : List Byte)
  /-- JNL_FRAME_RECEIVED (R426): A mirrored journal entry is written to MRAM and answered with JACK. -/
  | jnlFrameReceived (e : List Byte)
  /-- JACK_RECEIVED (R426): The active twin receives the twin's durability report for an entry. -/
  | jackReceived (j : BitVec 64)
  /-- MARK_RECEIVED (R426): A MARK frame updates the twin's consumed mark and JNL_DONE. -/
  | markReceived (mark done : BitVec 64)
  /-- CTL_FRAME_RECEIVED (R413): A CTL frame exchanges SIDE, measures delay or controls the journal copy. -/
  | ctlFrameReceived (c : CtlFrame)
  /-- TWIN_TIMEBASE_JOIN (R418): A JOINING device with its ATU OFF enables the ATU at the predicted boundary k+2 of the twin. -/
  | twinTimebaseJoin
  /-- PWMASTER_ALIGN_LOAD (R419): A count difference above 4 is loaded into the master pair at its next period start. -/
  | pwmasterAlignLoad
  /-- TAKEOVER (R422): HBMISS reaches 2 in a synced armed standby and it becomes ACTIVE with a new epoch. -/
  | takeover
  /-- YIELD (R424): An ACTIVE device seeing a higher epoch, or isolated for 2 frets, yields at the next boundary. -/
  | yieldRole
  /-- HANDOVER_REQUEST (R429): Writing MIR_CTRL.HANDOVER requests a planned handover, or is refused. -/
  | handoverRequest
  /-- PLANNED_HANDOVER (R429): At the named boundary the active becomes STANDBY and the standby takes over. -/
  | plannedHandover
  /-- CLAIM (R430): Writing MIR_CTRL.CLAIM makes a JOINING device ACTIVE, or is refused. -/
  | claim
  /-- JOURNAL_COPY (R431): The active copies its journal and session records to a joining twin. -/
  | journalCopy
  /-- POR_PIN (R438): POR_N low starts a power-on reset. -/
  | porPin
  /-- POR_SUPPLY (R496): VAUX below 2.85 V for 2 µs starts a power-on reset. -/
  | porSupply
  /-- BOOT_ROM_START (R445): The boot ROM starts in S1, reads the start record and enters Minimal Mode or proceeds. -/
  | bootRomStart (x : RomStart)
  /-- FIRMWARE_START (R435): The verified station firmware starts and the device enters S2. -/
  | firmwareStart
  /-- STAGE_S3_ENTRY (R435): The stored images are staged and activated and the device enters S3. -/
  | stageS3Entry
  /-- ARM (R441): Writing PMC_ARM.ARM in S3 enters S4 if every arming condition holds. -/
  | arm (freeok : Bool)
  /-- DISARM (R442): Writing PMC_ARM.DISARM in S4 returns to S3 while the converter cannot switch. -/
  | disarm
  /-- WARM_RESET_REQUEST (R439): Writing PMC_RSTCTRL.WARM resets the device outside S4, or is refused in S4. -/
  | warmResetRequest (suprst : BitVec 4)
  /-- SUP_RESET (R440): A SUPRST write resets a supervisory core alone and counts it. -/
  | supReset (mask : BitVec 4)
  /-- SUP_WATCHDOG_EXPIRY (R438): A SUP watchdog expires and resets that core alone. -/
  | supWatchdogExpiry (k : Fin 4)
  /-- DEBUG_RESET (R438): A reset through the unlocked debug port causes a warm reset. -/
  | debugReset
  /-- BUTTON_PRESS (R443): A debounced press of RESET_BTN_N starts timing if the button is armed. -/
  | buttonPress
  /-- BUTTON_RELEASE (R444): A debounced release causes a warm reset or a Minimal Mode request by hold time. -/
  | buttonRelease (ms : Nat)
  /-- BUTTON_STUCK (R444): A press reaching 20,001 ms records STUCK_BUTTON. -/
  | buttonStuck
  /-- BUTTON_REARM (R444): The input held released for 1,000 ms re-arms the button. -/
  | buttonRearm
  /-- START_OK (R445): The device stays in S2 or above for STARTOK seconds and FAILCNT is cleared. -/
  | startOk
  /-- REF_LOSS (R454): No REF edge for 4 RC16 cycles: PLLs gated, PWM forced off, source 68 reported. -/
  | refLoss
  /-- PLL_LOCK_LOSS (R454): A PLL's frequency or phase error exceeds its limit and its outputs are gated. -/
  | pllLockLoss (n : Fin 4)
  /-- RC16_LOSS (R454): The LF monitor sees RC16 missing or out of range and forces the safe state. -/
  | rc16Loss
  /-- QUAD_FEED_GATE (R455): 200 ns after a declared reference loss PLL2's quad feed is gated. -/
  | quadFeedGate
  /-- PLL_LOCK (R452): A PLL acquires lock and its outputs are ungated; clock-loss recovery follows. -/
  | pllLock (n : Fin 4)
  /-- PLL_RELOCK (R457): Writing RELOCK makes a gated PLL re-acquire. -/
  | pllRelock (n : Fin 4)
  /-- BAND_WRITE (R452): A band table write is refused during acquisition, otherwise used at the next acquisition. -/
  | bandWrite (n : Fin 4) (m : Fin 16) (w : Word)
  /-- POWER_DOMAIN_REQUEST (R459): A PMC_PDREQ write requests a domain off or on; off is refused in S4. -/
  | powerDomainRequest (req : BitVec 10)
  /-- POWER_DOWN_DONE (R43): Every unit of a domain reaches OFF and the waiting power-down completes. -/
  | powerDownDone (d : Fin 14)
  /-- POWER_UP_DONE (R459): A powered-up domain completes within 50 µs with its registers at reset values. -/
  | powerUpDone (d : Fin 14)
  /-- THERMAL_SAMPLE (R463): Every 50 µs TS0–TS11 are converted and the throttle, block and shutdown levels are evaluated. -/
  | thermalSample (ts : List (BitVec 16)) (fail : BitVec 12)
  /-- THROT4_ENTRY (R463): 105 °C held 10 ms in THROT2 enters THROT4. -/
  | throt4Entry
  /-- THERMAL_SHUTDOWN (R465): Entry to SHUTDOWN runs the latched power-down sequence on RC16. -/
  | thermalShutdown
  /-- THERM_MASK_WRITE (R462): A THERM_MASK write is refused in S4 or when masking all sensors. -/
  | thermMaskWrite (mask : BitVec 12)
  /-- SEC_VERIFY_DONE (R472): The SEC unit completes verification of an object and records LASTRES. -/
  | secVerifyDone
  /-- IDENTITY_KEY_READY (R478): The identity key pair derivation completes in S2. -/
  | identityKeyReady
  /-- ENG_FLOOR_RAISE (R476): STARTOK after an activation raises the ENG floor and clears older STGOK. -/
  | engFloorRaise
  /-- DEBUG_TOKEN (R481): A presented debug token carrying the current challenge grants its LEVEL. -/
  | debugToken (obj : List Byte)
  /-- DBG_CHAL_READ (R481): A read of DBG_CHAL0 draws a new challenge. -/
  | dbgChalRead (ag : Agent)
  /-- TAMPER_PIN (R482): TAMPER_N held low for 1 ms is a tamper event. -/
  | tamperPin
  /-- SUPPLY_GLITCH (R482): A VCORE or SAFE transient beyond ±15 % for 20 ns is a tamper event. -/
  | supplyGlitch
  /-- POWER_ON_RESET_RELEASE (R496): The power-on reset is released, by POR_N going high or VAUX rising above 2.95 V, and the soft start of VCORE begins. -/
  | powerOnResetRelease (c : PorCause)
  /-- MUTE_BURST_COMPLETE (R272): A lane finishes the eighth set of a MUTE burst, returns to IDLE and launches any TIMEBASE, CLEAR or DELAY_REQ held back by the burst. -/
  | muteBurstComplete (n : Fin 96)
  /-- TB_SETS_SENT (R202): A lane in TRAIN_TB has sent its 16th TB set and, with 8 TB sets already received, enters UP. -/
  | tbSetsSent (n : Fin 96)
  /-- MIRROR_TRAINING_BLOCK_RECEIVED (R206): A mirror lane gains block lock or receives a training block, deciding polarity inversion and, at 16 good blocks on all lanes, the lane order or ORDERERR restart. -/
  | mirrorTrainingBlockReceived (m : Fin 4) (b : MirBlock)
  /-- REFERENCE_RETURN (R457): REF edges return after a reference loss and gated PLLs with AUTORELOCK begin to re-acquire. -/
  | referenceReturn
  /-- RESERVED_OPCODE (R96): An engine fetches a word whose major opcode or function is absent or reserved, such as the all-zero word, and raises ILLEGAL. -/
  | reservedOpcode (n : Fin 24) (w : Word)
  /-- FETCH_ECC_ERROR (R94): An engine fetch reads a word with an uncorrectable error and raises ECC_I whatever its predicate. -/
  | fetchEccError (e : EccEvent)
  /-- DMA_DESCRIPTOR_COMPLETE (R41): The DMA engine completes a descriptor, and a DRAINING engine then goes OFF. -/
  | dmaDescriptorComplete (src dst : BitVec 40) (len : Nat)
  /-- BADFORMAT_REQUEST (R391): A request datagram with an unknown CODE, or a malformed header, receives BADFORMAT, or is discarded without reply when its tag cannot be located or fails. -/
  | badformatRequest (q : Peer) (raw : List Byte)
deriving DecidableEq, Repr

end Sys2Proof
end

