-- ==== Sys2Proof/Machine/Parts.lean ====
section
/-! DEFINITION. The state of each unit that no register field shows (the register fields themselves are in the register
store of State).  Plain data. -/
namespace Sys2Proof.Machine

/-- The issue timing of R89, in engine cycles from the one after the fetch of R71. -/
structure Timing where
  /-- the cycle in which the first instruction of the task issued -/
  first : Option Nat := none
  /-- issue(i-1) -/
  last : Nat := 0
  /-- the next issue comes no earlier: the branch bubble, blocking instructions and the wake of WAITF -/
  next : Nat := 0
  readyG : Vector Nat 32 := Vector.replicate 32 0
  readyP : Vector Nat 8 := Vector.replicate 8 0
  /-- ready(A) for a later instruction of the accumulate group (R100) -/
  readyAGroup : Vector Nat 4 := Vector.replicate 4 0
  /-- ready(A) for every other instruction -/
  readyAOther : Vector Nat 4 := Vector.replicate 4 0
  dividerFree : Nat := 0
  /-- every earlier load and store has completed (FENCE, R104) -/
  memDone : Nat := 0
deriving DecidableEq, Repr

/-- One engine: Table 3-1, the task in progress and its timing. -/
structure Eng where
  g : Vector Word 32 := Vector.replicate 32 0#32
  acc : Vector (BitVec 72) 4 := Vector.replicate 4 0#72
  p : Vector Bool 8 := Vector.replicate 8 false
  /-- s_flags, and the flags of results in flight with the cycle in which each is written; cycle 0 marks those of the instruction that is
  being performed (R87) -/
  flags : BitVec 7 := 0#7
  flagQ : List (Nat × BitVec 7) := []
  pc : Word := 0#32
  /-- s_fret, s_fic, s_entry and the DEADLINE offset of the row that started the task -/
  sfret : Word := 0#32
  sfic : Nat := 0
  sentry : BitVec 4 := 0#4
  deadline : Nat := 0
  /-- a COMMIT has been accepted in this task -/
  committed : Bool := false
  /-- MISSTRIP as it stood at the write of EN = 0 with which the task in progress drains (R38) -/
  missTrip : Option Bool := none
  /-- the deadline threshold of this task has been handled (R142) -/
  dlDone : Bool := false
  /-- an ABORT or overrun end fell due during a halt (R146): 1 ABORT, 2 overrun -/
  endDue : Nat := 0
  /-- a WAITF in progress: its predicate and offset -/
  waitf : Option (BitVec 3 × BitVec 16) := none
  /-- the FAB cycle at whose end the task's first fetch comes -/
  startTick : Nat := 0
  tm : Timing := {}
  /-- ARB of the image in the active and in the staging bank (R476) -/
  actArb : Nat := 0
  stgArb : Nat := 0
  /-- PHASH of those images (R479) -/
  actHash : List Byte := []
  stgHash : List Byte := []
  /-- the unit list held for the active bank (R149, R152) -/
  actUnits : Vector Word 4 := Vector.replicate 4 0#32
deriving DecidableEq, Repr

/-- PEGn_STATE (Table 5-5). -/
structure Peg where
  held : Bool := false
  broken : Bool := false
  holder : Nat := 0x3F
  brkBy : Nat := 0x3F
  acqCnt : BitVec 16 := 0#16
deriving DecidableEq, Repr

/-- The SSM arbiter (R157 to R159).  Which engine a port serves first after a reset is the model's choice: the lowest, CE0 and CE12 (DESIGN
CHOICE, log entry 43). -/
structure Arbiter where
  /-- the credit of each requester -/
  credit : Vector Nat 10 := #v[128, 128, 96, 96, 32, 32, 32, 32, 16, 32]
  /-- the requester holding the grant and the cycles it has held it -/
  grant : Option (Fin 10 × Nat) := none
  /-- the newest grant and the SSM cycle, of which two make a FAB cycle, in which it ends; the FAB cycle of the last window start (R157) -/
  newest : Option (Fin 10 × Nat) := none
  windowAt : Nat := 0
  /-- the requesters whose cut transaction raises a new request (R158) -/
  cut : BitVec 10 := 0#10
  /-- the engine each cluster port served last -/
  lastA : Nat := 11
  lastB : Nat := 23
deriving DecidableEq, Repr

/-- The ATU state that a boundary queues for the timebase slots (R65). -/
structure TbState where
  fret : Nat := 0
  fic : Nat := 0
  fpcsel : Nat := 2
  freq : Nat := 35184372
  btcns : Nat := 0
  src : Nat := 2
  holdover : Bool := false
deriving DecidableEq, Repr

/-- A tracker of R55 and R59: its loop's integrator, its frequency word, the phase error of its newest samples, and whether samples came
since its loop last ran. -/
structure Track where
  integ : Int := 0
  word : Nat := 35184372
  pherr : Int := 0
  fresh : Bool := false
deriving DecidableEq, Repr

/-- The angle timebase. -/
structure AtuSt where
  /-- the 48-bit phase accumulator (R45): angle in units of 2^-16 au; while a boundary is due it stands one short of the threshold, and
  `past` holds what was added beyond -/
  acc : Nat := 0
  past : Nat := 0
  /-- the FPCSEL value that waits for the wrap (R53) -/
  fpcNew : Nat := 2
  /-- the requested source of a handover that waits for the boundary (R59) -/
  handover : Option Nat := none
  /-- the last tracked frequency word (R55, R58) -/
  tracked : Nat := 35184372
  /-- the word that AUTOFREE copies into ATU_FREE at the next boundary (R58) -/
  autoWord : Option Nat := none
  /-- the absolute au since which LOCKED's conditions have held without a break (R61) -/
  lockFrom : Option Nat := none
  /-- the trackers of the ADC and the SV source (R55, R59) -/
  adcTr : Track := {}
  svTr : Track := {}
  /-- the ATU conversions of the fret that have ended: input, output angle at the sampling instant, code (R54, R311) -/
  got : List (Nat × Nat × Nat) := []
  /-- the phase A samples of the last quarter cycle: absolute au of their fret, angle, code (R54) -/
  hist : List (Nat × Nat × Nat) := []
  /-- the absolute au since which the fundamental's amplitude has stayed below ATU_ADCMIN (R58), and whether a named input of this fret
  had no converter that was ON (R311) -/
  lowFrom : Option Nat := none
  deaf : Bool := false
  /-- the au from the enable to the start of the fret in progress, never wrapped -/
  absStart : Nat := 0
  /-- what the boundary of the fret in progress queued on the lanes (R31 step 4) -/
  tb : TbState := {}
  /-- the instants of the last boundary and of the one before, in 2^-4 ns -/
  bTime : Int := 0
  bPrev : Int := 0
deriving DecidableEq, Repr

/-- The SV stream that feeds the ATU (R56, R58): the consecutive samples missing up to the newest that came, and the FAB cycle in which that
one came, or the stream was selected. -/
structure SvFeed where
  miss : Nat := 0
  since : Nat := 0
deriving DecidableEq, Repr

/-- The fret dispatcher. -/
structure FretSt where
  /-- the row of the fret being dispatched (copy and row number); none while nothing is dispatched -/
  row : Option (Nat × Nat) := none
  /-- ROWCTL.SLOTSET of the row of the fret in progress (Table 2-7) -/
  slotset : Nat := 0
  /-- the task starts and scan starts already triggered in this fret -/
  started : BitVec 24 := 0#24
  scanned : BitVec 8 := 0#8
deriving DecidableEq, Repr

/-- The inputs of an arm's conversion, taken at its close (R172, R173). -/
structure Conv where
  /-- the fret k of the COMMIT that released the inputs -/
  fret : Word
  /-- ARW0 and ARW1, the mode (ARW2) and CPH (ARW3) -/
  refs : Int
  refe : Int
  mode : Nat
  cph : Nat
  /-- the deficit's share D of R175 and the applied frequency word -/
  d : Int
  freq : Nat
  /-- F and A0 of the planned fret, and its absolute start in au -/
  f : Nat
  a0 : Nat
  absStart : Nat
  minau : Nat
  k : Nat
  tcb : Nat
  cinc : Nat
  ncell : Nat
  mask : Nat
  /-- the positions in rank order (R190) -/
  order : List Nat
  /-- the member lanes in position order with their EW0 and EW1 -/
  lanes : List (Nat × Word × Word)
deriving DecidableEq, Repr

/-- A sort request: TAG, DIR, and for each position its group (0 valid, 1 not valid, 2 bypassed) and key (R187). -/
structure SortReq where
  tag : Nat
  asc : Bool
  /-- NCELL at the request -/
  ncell : Nat
  keys : List (Nat × Nat)
deriving DecidableEq, Repr

/-- The settings of the modulation unit that a draining item keeps from the write of EN = 0 (R38): OWNER and CBSRES.ADDR of the arm, SLEW
and PHIMAX. -/
structure ModSet where
  owner : Nat
  addr : Nat
  slew : Nat
  phimax : Nat
deriving DecidableEq, Repr

/-- The hidden state of one arm: its reference words, its plan in progress and its sorts. -/
structure ArmSt where
  /-- working and launch copies of ARW0–ARW7 (R127) -/
  work : Vector Word 8 := #v[0#32, 0#32, 3#32, 0#32, 0#32, 0#32, 0#32, 0#32]
  launch : Vector Word 8 := #v[0#32, 0#32, 3#32, 0#32, 0#32, 0#32, 0#32, 0#32]
  /-- the fret for which the owner's COMMIT released the launch copy -/
  released : Option Word := none
  /-- the inputs taken at the close of the conversion in progress (R172) -/
  conv : Option Conv := none
  /-- the queued sort and the sort in the network (R189) -/
  queued : Option SortReq := none
  running : Option SortReq := none
  /-- the newest completed ranking since the arm was enabled (R190) -/
  ranking : Option (List Nat) := none
  /-- the settings of a drain (R38) -/
  kept : Option ModSet := none
deriving DecidableEq, Repr

/-- A lane's receive buffer (R130, R226). -/
structure RxBuf where
  /-- RSTAT.STATE: 0 no frame, 1 VALID, 2 CRC error, 3 identifier -/
  state : Nat := 0
  epochHi : Bool := false
  tfret : Word := 0#32
  tw : Vector Word 12 := Vector.replicate 12 0#32
deriving DecidableEq, Repr

/-- The pattern generator and checker of a SerDes (R211, R212).  Histories are numbers with the newest bit lowest. -/
structure PatSt where
  /-- the generator's last bits, and the number of bits it has made -/
  gen : Nat := 0
  genPos : Nat := 0
  /-- the checker's last bits (its own predictions while locked), the bits taken since it was seeded, its consecutive matches, and the
  position of the user pattern's next bit -/
  hist : Nat := 0
  got : Nat := 0
  run : Nat := 0
  pos : Nat := 0
  /-- the last 128 bits since the lock: which of them mismatched, newest first -/
  wrong : List Bool := []
  /-- the test bits last sent -/
  tx : List Bool := []
deriving DecidableEq, Repr

/-- A MUTE burst in transmission (R247, R272): the reasons of its sets from the one that began at `since` on, in fifths of a FAB cycle. -/
structure Burst where
  since : Nat
  sets : List Nat
deriving DecidableEq, Repr

/-- The hidden state of one cell lane. -/
structure LaneSt where
  /-- working and launch copies of EW0–EW5 (R127) -/
  work : Vector Word 6 := Vector.replicate 6 0#32
  launch : Vector Word 6 := Vector.replicate 6 0#32
  /-- the fret for which the owner's COMMIT released the launch copy (R32) -/
  released : Option Word := none
  /-- the fret whose conversion completed for this lane, the arm that converted, and the edge records (R169, R184) -/
  convFret : Option Word := none
  convArm : Nat := 0
  edges : List Word := []
  /-- the Edge Planner's record of the cell: its level and the absolute au of its last kept edge (R180) -/
  level : Int := 0
  lastEdge : Option Int := none
  /-- PHIL of R191 -/
  phil : Int := 0
  /-- the COMMAND launched in the fret in progress: its fret, its frame and the RETRY offset of its slot set -/
  cmdFret : Option Word := none
  cmdFrame : List Byte := []
  retryOff : Nat := 0
  /-- the valid ACK held: its FRET, its STATUS and the au into the fret at which it arrived (R241) -/
  ack : Option (Nat × Nat × Nat) := none
  /-- the frames of the last launch in order, whether a burst cut the last of them, and the FAB cycle in which their
  transmission ends -/
  lastTx : List (List Byte) := []
  txCut : Bool := false
  txEnd : Nat := 0
  /-- a MUTE burst is in transmission; the launches it holds back (R248) -/
  burst : Option Burst := none
  heldTb : Bool := false
  heldDly : Bool := false
  /-- a CLEAR is requested on this lane (R250) -/
  clrPend : Bool := false
  /-- bulk transmit order and sequence number (R229) -/
  bulkQ : List (Fin 4) := []
  bulkSeq : BitVec 8 := 0#8
  /-- the readable receive buffer and the one being filled (R31) -/
  rx : RxBuf := {}
  fill : RxBuf := {}
  /-- the CLEAR after a TIMEBASE that a burst cut: it follows the burst (R248) -/
  heldClr : Bool := false
  /-- training: the FAB cycle in which it (re)started, consecutive good sets, inverted sets, TB sets and whether 16 TB sets have been sent
  (R202, R203) -/
  trainAt : Nat := 0
  good : Nat := 0
  inverted : Nat := 0
  tbGood : Nat := 0
  tbSent : Bool := false
  /-- the FAB cycle of entering EIDLE, whether an exit was asked for while EIS was being sent, and whether the receiver is idle already, for
  EIS has come or nothing was received (R208) -/
  idleAt : Nat := 0
  exitDue : Bool := false
  rxIdle : Bool := false
  /-- the FAB cycles of the last code and disparity errors in UP, newest first (R204) -/
  errAt : List Nat := []
  pat : PatSt := {}
  /-- delay measurement (R238): the round trips accepted, newest first, the consecutive ones discarded by the third test
  alone, DSEQ, t1 and whether a response is awaited -/
  dlyAcc : List Nat := []
  dlyOut : List Nat := []
  dseq : BitVec 8 := 0#8
  dlyT1 : Nat := 0
  dlyWait : Bool := false
deriving DecidableEq, Repr

/-- A mirror lane in training (R206): block lock, consecutive good and inverted training blocks, and the lane number they
carry. -/
structure MlSt where
  /-- the FAB cycle in which training (re)started (R206) -/
  trainAt : Nat := 0
  locked : Bool := false
  good : Nat := 0
  inverted : Nat := 0
  num : Nat := 0
  /-- the FAB cycles of the last invalid sync headers in UP, newest first (R207) -/
  errAt : List Nat := []
  pat : PatSt := {}
deriving DecidableEq, Repr

/-- The mirror logic (Twin Redundancy). -/
structure TwinSt where
  /-- the highest epoch seen in heartbeats and valid cell frames, none before the first (R423) -/
  maxEpoch : Option Nat := none
  /-- a higher epoch was seen: the device yields at the next boundary (R424) -/
  yieldDue : Bool := false
  /-- a valid frame arrived on some lane in this fret; the consecutive frets without one (R424) -/
  cellFrame : Bool := false
  quiet : Nat := 0
  /-- a foreign frame arrived in this fret; source 67 is asserted (R425) -/
  foreignNow : Bool := false
  foreign : Bool := false
  /-- the two newest heartbeats whose boundary has not come, with their arrivals in 2^-4 ns, oldest first (R416) -/
  hb : List (Heartbeat × Nat) := []
  /-- the consecutive heartbeats received with a boundary error within ±10 ns (R420) -/
  syncRun : Nat := 0
  /-- SYNCED at the last received heartbeat (R421) -/
  syncedThen : Bool := false
  /-- the PWMASTER difference to load at the master's next period start, and whether the last heartbeat needed one (R419) -/
  pwLoad : Option Int := none
  pwNeeded : Bool := false
  /-- the journal copy of R431 is complete; the SIDE exchange found equal sides (R413) -/
  copyDone : Bool := false
  sideEqual : Bool := false
  /-- the twin's announced handover (R429) -/
  hoFret : Option Nat := none
  /-- the boundary predicted by R418: its fret, the frequency word, and the FAB cycle it falls in -/
  joinAt : Option (Nat × Nat × Nat) := none
  /-- the ATU follows the twin (R418) -/
  follow : Bool := false
  /-- the boundary error at the last heartbeat, in 2^-4 ns (R420) -/
  bErr : Int := 0
  /-- the master pair's position at the last boundary (R419) -/
  pwOwn : Nat := 0
  /-- PWCNT as the last boundary sampled it (Table 16-3) -/
  pwCnt : Word := 0#32
  /-- the heartbeat stream of this fret has been sent (R416) -/
  hbSent : Bool := false
  /-- a heartbeat has come since the reset (R425); one since the mirror was last not UP, and the SYNCED that it showed (R429, R430) -/
  known : Bool := false
  heard : Bool := false
  peerSynced : Bool := false
  /-- R399's 100 µs have passed: SOLO follows at the fence (R426) -/
  soloDue : Bool := false
  /-- the heartbeat and the WIN frames of the last stream sent (the model's own observation) -/
  sent : Option Heartbeat := none
  sentWin : List (Nat × List Byte) := []
  /-- the FAB cycle in which the mirror group was last UP (R430) -/
  lastUp : Nat := 0
  /-- MIR_DELAY's accepted round trips and those discarded since, and the boundaries since a valid mirror frame (R417, R426) -/
  dlyAcc : List Nat := []
  dlyOut : List Nat := []
  silent : Nat := 0
  /-- the fret of a CLAIM, which ATU_TWIN_TK shows from the next boundary on (R434) -/
  tk : Option Nat := none
  /-- the FAB cycle in which the frame on the mirror link ends (Table 16-2) -/
  linkFree : Nat := 0
deriving DecidableEq, Repr

/-- The station clock (R370): seconds (48 bits) and nanoseconds with their fraction in units of 2^-29 ns, below 10^9 · 2^29. -/
structure ClockSt where
  sec : Nat := 0
  nsf : Nat := 0
deriving DecidableEq, Repr

/-- A timed output (R381): whether its pulse is at the active level, the station time in ns of its next rise, and whether a
single pulse has still to occur. -/
structure ToutSt where
  active : Bool := false
  rise : Option Nat := none
  /-- the FAB cycle in which the pulse in progress ends -/
  fall : Nat := 0
deriving DecidableEq, Repr

/-- A comparator or a trip pin (R259 to R263): the input voltage in units of 1.5 V / 384,000 (a pin: its level), the raw output's
two sides, the gated output, whether a blanking window is open and the FAB cycle in which it ends, and the consecutive ticks that found
the gated output on the trip side up to a FAB cycle. -/
structure TrInSt where
  vin : Nat := 0
  hi : Bool := false
  lo : Bool := false
  gated : Bool := false
  blank : Bool := false
  blankEnd : Nat := 0
  cnt : Nat := 0
  cntAt : Nat := 0
deriving DecidableEq, Repr

/-- What a pair takes at a load point (R287). -/
structure PwSet where
  updn : Bool := false
  prd : Nat := 3999
  phs : Nat := 0
  cmpA : Nat := 0
  cmpB : Nat := 0
  trgA : Word := 0#32
  trgB : Word := 0#32
  rise : Nat := 40
  fall : Nat := 40
  minp : Nat := 0
deriving DecidableEq, Repr

/-- One LV PWM pair.  Times of the plan and the dead-time guard are in 1/64 of a FAB cycle. -/
structure PairSt where
  /-- the pair has received a start, and its outputs have left the disable state (R288) -/
  started : Bool := false
  live : Bool := false
  /-- time since the start of the period in progress, and the pair's own running time -/
  pos : Nat := 0
  now : Nat := 0
  /-- the active set, the set of the next period and whether the load point of the next period has passed -/
  act : PwSet := {}
  nxt : PwSet := {}
  loaded : Bool := false
  /-- the edges of X still to come, from the start of the period in progress, and X at present -/
  plan : List (Nat × Bool) := []
  x : Bool := false
  /-- the switch commands of the plan, and a turn-on of the plan that waits for its dead time: high side or not, and due -/
  planH : Bool := false
  planL : Bool := false
  due : Option (Bool × Nat) := none
  /-- when each switch was last turned off -/
  hOff : Option Nat := none
  lOff : Option Nat := none
  /-- X is held at 0 by the cycle-by-cycle limit; the FAB cycle in which its blanking window ends (R297) -/
  cbcHold : Bool := false
  cbcEnd : Nat := 0
  /-- the sets taken by the writes of PWM_START whose starts have still to come, oldest first (R287, R288) -/
  starts : List PwSet := []
  /-- a cleared trip keeps the trip state until the next period start (R296) -/
  holdTrip : Bool := false
deriving DecidableEq, Repr

/-- The running scan of a converter (R308): its list, the inputs still to start, and the buffer taken at the start. -/
structure ScanSt where
  list : Nat
  rest : List Nat
  eng : Nat
  base : Nat
  len : Nat
  /-- until a conversion ends: the FAB cycle of the start, whether the fret table gave it, and the list's SEQ and PTR before it (R310) -/
  start : Option (Nat × Bool × Nat × Nat) := none
deriving DecidableEq, Repr

/-- A start dropped for its configuration in FAB cycle `tick`: its list, whether the fret table gave it, and the list's CFGERR before it
(R310). -/
structure BadStart where
  tick : Nat
  list : Nat
  fret : Bool
  was : Bool
deriving DecidableEq, Repr

/-- A conversion in progress: for the ATU or for the scan, its input, whether the test DAC applies, the VAL that the sampler takes instead
of the ball in SUBST mode, that which drives the input line in BALL mode (R311, R317), and the output angle at its sampling instant
(R307, R311). -/
structure AdcConv where
  atu : Bool
  input : Nat
  test : Bool
  sub : Option Nat := none
  ball : Option Nat := none
  angle : Nat := 0
deriving DecidableEq, Repr

/-- One converter. -/
structure AdcSt where
  scan : Option ScanSt := none
  conv : Option AdcConv := none
  /-- the ATU conversions requested and not yet started -/
  atuQ : List Nat := []
  /-- the starts of this FAB cycle that found an invalid list -/
  bad : List BadStart := []
deriving DecidableEq, Repr

/-- One auxiliary half-bridge (R320 to R327). -/
structure AuxSt where
  /-- the active HON after the clamp, and the generator's commands -/
  hon : Nat := 0
  gH : Bool := false
  gL : Bool := false
  /-- the commands after overrides -/
  hcmd : Bool := false
  lcmd : Bool := false
  /-- the gate balls, and when each switch was last turned off, in HV cycles -/
  ho : Bool := false
  lo : Bool := false
  hOff : Option Nat := none
  lOff : Option Nat := none
  /-- the desaturation monitors of the high and the low side are open -/
  monH : Bool := false
  monL : Bool := false
  /-- the bootstrap supply is low -/
  bsLow : Bool := false
  /-- faults whose action lasts until a command edge: bootstrap, VDRV, desaturation of AUXD, link -/
  bsHold : Bool := false
  vdHold : Bool := false
  dsHold : Bool := false
  lkHold : Bool := false
deriving DecidableEq, Repr

/-- What the auxiliary half-bridges share: the period counter and its time in HV cycles, the state of the link to the control die and of the
supplies, and the half-bridge whose desaturation started the active short. -/
structure AuxShared where
  cnt : Nat := 0
  now : Nat := 0
  linkDown : Bool := false
  /-- VDRV has fallen below 8.0 V and not risen above 8.8 V; VHV fell below 10.5 V with it -/
  vdLow : Bool := false
  vhLow : Bool := false
  short : Option (Fin 4) := none
deriving DecidableEq, Repr

/-- The level of VRPWMn (R328). -/
inductive PhaseLevel where
  | mid | low | high
deriving DecidableEq, Repr

/-- The core-rail regulator: the phase outputs and the next phase in rotation. -/
structure VregSt where
  phase : Vector PhaseLevel 4 := Vector.replicate 4 .mid
  next : Nat := 0
deriving DecidableEq, Repr

/-- Safe Energy Removal: SAF's own state (R338 to R361). -/
structure SerSt where
  /-- the record and the confirmation word in the MRAM store -/
  store : List Byte := []
  confirm : Word := 0#32
  /-- the stored record has not been taken yet; the record in use, empty for none -/
  fresh : Bool := false
  record : List Byte := []
  /-- safety cycles begun -/
  cycles : Nat := 0
  /-- for each input: how many consecutive samples agree with the last one -/
  run : Vector Nat 8 := Vector.replicate 8 0
  /-- the filtered state of the input has been established by samples -/
  known : BitVec 8 := 0#8
  /-- the guard has closed after its open, and its pulse check is awaited -/
  closed : BitVec 8 := 0#8
  /-- cycles in which a pair's channels have differed, held at its lower input -/
  disc : Vector Nat 8 := Vector.replicate 8 0
  /-- the SOUTs commanded on -/
  sout : BitVec 4 := 0#4
  /-- the SOUTs whose last readback showed on while commanded off, and off while commanded on -/
  stuckOn : BitVec 4 := 0#4
  stuckOff : BitVec 4 := 0#4
  /-- source 65 is asserted and the SOUTs are cut 5 µs later: the state entered then -/
  cut : Option Nat := none
  /-- a demand has been decided in PERMIT and DEMCNT has not counted it yet -/
  demand : Bool := false
  /-- the TPO that is low, or awaits its recovery check, with the inputs that read closed before its pulse -/
  pulse : Option (Fin 4 × BitVec 8) := none
  recovery : Option (Fin 4 × BitVec 8) := none
  /-- the SOUT in its dark pulse -/
  dark : Option (Fin 4) := none
  /-- abandoned pulses and dark pulses to repeat (R353) -/
  redoTpo : BitVec 4 := 0#4
  redoSout : BitVec 4 := 0#4
  /-- the safety cycle, counted from 1, after which the next TPO check and the next SOUT check are repeated: that in which the demand cleared,
  or in which the one before was repeated -/
  tpoFrom : Nat := 0
  soutFrom : Nat := 0
  /-- the safety cycles, counted from 1, that took the last TPO pulse and the last dark pulse -/
  tpoAt : Nat := 0
  darkAt : Nat := 0
  /-- inputs that read open during another TPO's pulse since their own -/
  cross : BitVec 8 := 0#8
  /-- the cause of the recorded fault is still detected -/
  cause : Bool := false
  /-- a restart request has been accepted in RECOVERY -/
  restart : Bool := false
  /-- test cycles begun in TEST, and the pulse checks of each TPO and the readbacks of each SOUT completed in it -/
  test : Nat := 0
  tpoRuns : Vector Nat 4 := Vector.replicate 4 0
  soutRuns : Vector Nat 4 := Vector.replicate 4 0
deriving DecidableEq, Repr

/-- When a frame is launched (R367): LTYPE, LAUNCH and OFFSET. -/
structure LaunchAt where
  ltype : Nat := 0
  launch : Nat := 0
  offset : Nat := 0
deriving DecidableEq, Repr

/-- A duplicate that the partner port sends by its own timing (R368): the frame with its trailer, TSREQ, TSID and TREF, its launch, and
whether that is due and late. -/
structure DupTx where
  frame : List Byte
  stamped : Bool
  tsid : Nat
  tref : Nat
  timing : LaunchAt := {}
  due : Option Bool := none
deriving DecidableEq, Repr

/-- A frame in transmission with the settings that it was formed under (R38): its source, where its descriptor lies, the frame with its
trailer, TSREQ, TSID, TREF, TXTS and TXLAT, and whether its launch was late. -/
structure TxJob where
  src : TxSource
  slot : Nat
  frame : List Byte
  stamped : Bool
  tsid : Nat
  tref : Nat
  oneStep : Bool
  lat : Nat
  late : Bool
deriving DecidableEq, Repr

/-- A host port: its timestamp queue (R376), whether the timed head of queue 0 is due and late (R367), the FAB cycle in which queue 0's
head came to the head, the SeqNr of each queue's head where it is sent as a duplicate (R368), its waiting duplicates, the frame that was
in progress at a disable, and the frame sent last with its FCS (the model's own observation of the ball). -/
structure HpSt where
  tsq : List (Nat × Nat) := []
  due : Option Bool := none
  headAt : Nat := 0
  seqs : Vector (Option Nat) 2 := Vector.replicate 2 none
  dups : List DupTx := []
  last : Option TxJob := none
  lastTx : List Byte := []
  pat : PatSt := {}
deriving DecidableEq, Repr

/-- An entry of the duplicate table: source address, SeqNr, receiving port, and the FAB cycle it was entered in (R369). -/
structure PrpEntry where
  mac : Nat
  seq : Nat
  port : Nat
  since : Nat
deriving DecidableEq, Repr

/-- A joined pair: the transmit counter and the duplicate table, oldest first (R368, R369). -/
structure PrpSt where
  seqTx : Nat := 0
  table : List PrpEntry := []
deriving DecidableEq, Repr

/-- An OTP key slot (R469): USE is 1 for FW, 2 for IMG.  The hash is `none` where Xansin programmed it. -/
structure OtpSlot where
  prog : Bool := false
  use : Nat := 0
  revoked : Bool := false
  hash : Option (List Byte) := none
  /-- OTP cannot give the slot, even with ECC correction -/
  fault : Bool := false
deriving DecidableEq, Repr

/-- The verification in progress: a staging command's journal index, its type, and where the object lies (R472). -/
structure SecJob where
  jidx : Nat
  image : Bool
  start : Nat
  total : Nat
deriving DecidableEq, Repr

/-- An anti-rollback counter (R476): the fuses blown in OTP and the mirror in MRAM. -/
structure ArbCount where
  fuses : Nat := 0
  mirror : Nat := 0
deriving DecidableEq, Repr

/-- The SEC unit (R469 to R482). -/
structure SecSt where
  deployed : Bool := false
  slots : Vector OtpSlot 4 := #v[{ prog := true, use := 1 }, { prog := true, use := 1 }, {}, {}]
  /-- the anti-rollback counters -/
  arbFw : ArbCount := {}
  arbSer : ArbCount := {}
  arbEng : ArbCount := {}
  /-- DBG_CHAL0 has drawn a challenge since the reset -/
  chalOk : Bool := false
  job : Option SecJob := none
  idReady : Bool := false
  /-- the ARB that the ENG floor rises to, unless another activation or a reset comes first (R476) -/
  engPend : Option Nat := none
  /-- the FAB cycle of that activation -/
  engAt : Nat := 0
  /-- ARB and PHASH of the running station firmware and SER firmware (R476, R479) -/
  runFw : Nat := 0
  runSer : Nat := 0
  fwHash : List Byte := []
  serHash : List Byte := []
  /-- the debug tokens that wait for the end of a verification, oldest first (R472) -/
  tokens : List (List Byte) := []
  /-- the supervisory cores halted by debug (R481) -/
  halted : BitVec 4 := 0#4
deriving DecidableEq, Repr

/-- What the event log records, as far as the chapters name it. -/
inductive LogEv where
  | stuckButton | slotSwitch | debugUnlock
deriving DecidableEq, Repr

/-- The PMC's state that no register shows, and the MRAM start record (R445, R473). -/
structure PmcSt where
  /-- POR_N is low; VAUX is below its threshold -/
  porPin : Bool := false
  porSupply : Bool := true
  /-- VIO is present, as the last release of a power-on reset or start of the boot ROM found it (R500) -/
  vio : Bool := false
  /-- the bring-up in progress began with a power-on reset -/
  fromPor : Bool := true
  failcnt : Nat := 0
  mmreq : Bool := false
  /-- the active firmware slot (0 A, 1 B), TRIAL, and whether a start with TRIAL has begun -/
  slot : Nat := 0
  trial : Bool := false
  trialBegun : Bool := false
  /-- an activation in S4 takes effect at the next reset (R475) -/
  slotPend : Bool := false
  /-- a press is being timed; the FAB cycle from which the present press counts, none once it is STUCK, that of the last debounced release
  or reset (R444), and that of the entry to S2 (R445) -/
  timing : Bool := false
  pressAt : Option Nat := none
  relAt : Nat := 0
  s2At : Nat := 0
  /-- the boot ROM has named a firmware slot to SAF (R447) -/
  safSlot : Option Nat := none
  /-- the engines of the activations requested since the reset that no activation of theirs with DONE has followed, and whether one of some
  engine has completed so (R435, R436) -/
  actDue : BitVec 24 := 0#24
  actAny : Bool := false
  log : List LogEv := []
deriving DecidableEq, Repr

/-- The thermal supervisor's counters: samples at or above and below each threshold, conversions and self-test failures (R461,
R463). -/
structure ThermSt where
  hot2 : Nat := 0
  cool2 : Nat := 0
  hot4 : Nat := 0
  cool4 : Nat := 0
  hotB : Nat := 0
  coolB : Nat := 0
  hotS : Nat := 0
  conv : Nat := 0
  fails : Vector Nat 12 := Vector.replicate 12 0
deriving DecidableEq, Repr

/-- A session record (R390): the credential and L, and the key and pending key of the session, which live in SUP memory. -/
structure Sess where
  id : Nat
  cred : Nat
  last : Nat := 0
  key : Option (List Byte) := none
  newKey : Option (List Byte) := none
  /-- the FAB cycle of its OPEN or last request with a valid tag (R390), and that of the OPEN that made the pending key (R389) -/
  seen : Nat := 0
  keyAt : Nat := 0
deriving DecidableEq, Repr

/-- A session lock (R406, R407): its holder, the BROKEN mark, and the FAB cycle in which the lease ends. -/
structure SLock where
  holder : Option Nat := none
  broken : Bool := false
  due : Nat := 0
deriving DecidableEq, Repr

/-- A sequenced request: who sent it, its session and number, NOTIFY, and its code and body (Table 15-1). -/
structure SReq where
  peer : Peer
  session : Nat
  seq : Nat
  notify : Bool
  code : Nat
  body : List Byte
deriving DecidableEq, Repr

/-- A class U request (Table 15-2). -/
inductive UReq where
  | ping | query (k : QueryKey) | read (addr : Nat) | logRead | attest (nonce : List Byte) (part : Nat)
  | imagePut (buf : Byte) (off : Nat) (data : List Byte)
deriving DecidableEq, Repr

/-- An authenticated request that waits for its session's previous one (R395): of class S, of class U, or malformed. -/
inductive Queued where
  | seq (r : SReq) | unseq (r : Req) (u : UReq) | bad (q : Peer) (session code seq : Nat)
deriving DecidableEq, Repr

/-- A request that has passed its checks and waits for its commit: its index, the twin's report, and the FAB cycle in which the commit
began (R397, R399). -/
structure Waiting where
  jidx : Nat
  req : SReq
  acked : Bool := false
  since : Nat := 0
deriving DecidableEq, Repr

/-- A frame that waits for the mirror link's transmitter (R414, R426): CTL frames, the 256 bytes of an entry or of a session record, the report
of an entry, and a mark with JNL_DONE. -/
inductive MirFrame where
  | side (b : Bool) | delay | delayResp | copyDone
  | jnl (e : List Byte) | jack (j : Nat) | mark (m done : Nat)
deriving DecidableEq, Repr

/-- A reply or a completion notice: the model's own observation of what the device sends (Table 15-1). -/
structure Reply where
  peer : Peer
  notice : Bool := false
  session : Nat := 0
  code : Nat := 0
  seq : Nat := 0
  dup : Bool := false
  solo : Bool := false
  status : Nat := 0
  result : Nat := 0xFF
  jidx : Nat := 0
  body : List Byte := []
  /-- sent with DUP = 1, on both LANs of a joined pair (R386) -/
  both : Bool := false
  /-- the tag, none in class N and where the device holds no key for the session (R388) -/
  tag : Option (BitVec 128) := none
deriving DecidableEq, Repr

/-- The source of an open firmware recovery, its TOTAL, the bytes received and the last DATA (R448). -/
structure Recovery where
  port : Fin 4
  addr : Nat
  total : Nat
  /-- the FAB cycle of its last request -/
  seen : Nat := 0
  got : Nat := 0
  lastOff : Nat := 0
  lastData : List Byte := []
deriving DecidableEq, Repr

/-- Host commands and the journal: the parts that are not the entries themselves, which lie in MRAM (R386 to R409). -/
structure JnlSt where
  /-- JIDX of the next entry, of the oldest entry not DONE and of the oldest that may not be overwritten -/
  head : Nat := 0
  done : Nat := 0
  reclaim : Nat := 0
  /-- the durable consumed mark plus 1, a reported mark not durable yet, and the index plus 1 of the newest delivered entry -/
  mark : Nat := 0
  cons : Option Nat := none
  /-- the fret in which the mark was reported -/
  consFret : Nat := 0
  widx : Nat := 0
  /-- the requests queued behind their session's previous one (R395), oldest first, and those waiting for their commit -/
  queue : List Queued := []
  waiting : List Waiting := []
  sessions : List Sess := []
  locks : Vector SLock 5 := Vector.replicate 5 {}
  /-- credentials other than credential 0 as provisioned: index, mask and key -/
  creds : List (Nat × Byte × List Byte) := []
  cred0 : Bool := true
  /-- the stored named parameters, and HCMD_PORT in use (Table 15-11) -/
  hcmdPort : Nat := 47096
  hcmdUsed : Nat := 47096
  sessIdle : Nat := 3600
  lease : Nat := 30
  /-- the last copy of a request with NOTIFY, by its index -/
  notify : List (Nat × Peer) := []
  /-- the entry that a firmware task executes over several steps -/
  running : Option Nat := none
  /-- the entries below this index are the replay's; of these, a CONV_CMD below the next has been delivered again; and the replay has read the
  journal since it began (R403) -/
  rerunTo : Nat := 0
  redlv : Nat := 0
  scanned : Bool := false
  /-- the value of a CRED_n entry as its acceptance unwrapped it, by the entry's index (R392, R480) -/
  credVal : List (Nat × List Byte) := []
  /-- the image buffer holds what IMAGE_PUT wrote (R393) -/
  imgHeld : Bool := false
  /-- the ranges of the firmware buffer, from and up to an offset, that FW_RECOVER has overwritten since IMAGE_PUT wrote them (R393) -/
  fwLost : List (Nat × Nat) := []
  /-- the newest attestation: its nonce, its payload and the draw of its signature (R479) -/
  report : Option (List Byte × List Byte × Nat) := none
  recovery : Option Recovery := none
  /-- the frames that wait for the mirror link, and the bytes of those sent last, in their order (R414) -/
  mirror : List MirFrame := []
  mirrorSent : List (List Byte) := []
  /-- the replies sent by the last command, oldest first -/
  replies : List Reply := []
deriving DecidableEq, Repr

/-- What a control-plane access answered last: the model's own observation of the response. -/
structure BusResp where
  data : Word := 0#32
  /-- the bytes of a transfer wider than a word -/
  line : List Byte := []
  err : Bool := false
deriving DecidableEq, Repr

end Sys2Proof.Machine
end

