-- ==== Sys2Proof/Machine/Store.lean ====
section
/-! DEFINITION. Sparse data by key in one canonical form: a list of (key, value) pairs with strictly rising keys in which
no entry holds what an unlisted key reads as.  The register store and the memory are both such lists. -/
namespace Sys2Proof.Machine

/-- What the store reads at key `k`; `d` is what an unlisted key reads as. -/
def Store.get {α : Type} (l : List (Nat × α)) (k : Nat) (d : α) : α :=
  match l with
  | [] => d
  | (a, v) :: t => if a = k then v else Store.get t k d

/-- The entry (k, v) put before the first larger key. -/
def Store.insert {α : Type} (l : List (Nat × α)) (k : Nat) (v : α) : List (Nat × α) :=
  match l with
  | [] => [(k, v)]
  | (a, w) :: t => if k < a then (k, v) :: (a, w) :: t else (a, w) :: Store.insert t k v

/-- The store with value `v` at key `k`; writing the default `d` removes the entry. -/
def Store.put {α : Type} [DecidableEq α] (l : List (Nat × α)) (k : Nat) (v d : α) : List (Nat × α) :=
  if v = d then l.filter (fun e => e.1 != k) else Store.insert (l.filter (fun e => e.1 != k)) k v

/-- The entries whose key satisfies `p`; the others return to their default. -/
def Store.keep {α : Type} (l : List (Nat × α)) (p : Nat → Bool) : List (Nat × α) :=
  l.filter (fun e => p e.1)

/-- The canonical form, where `d k` is what the unlisted key `k` reads as. -/
abbrev Store.Wf {α : Type} (d : Nat → α) (l : List (Nat × α)) : Prop :=
  l.Pairwise (fun a b => a.1 < b.1) ∧ ∀ e ∈ l, e.2 ≠ d e.1

end Sys2Proof.Machine
end

