-- ==== Sys2Proof/Machine/State.lean ====
section
/-! DEFINITION. The state of the block: the variant, the register fields, the memories, the hidden state of every unit,
and the queue of waiting commands.  Plain data. -/
namespace Sys2Proof.Machine

/-- The variants of Table 0-1. -/
inductive Variant where
  | ag9696 | ag9648 | ag9624
deriving DecidableEq, Repr

/-- Why a step stops.  No meaning of this block raises a fault: a command or an event that the present state rules out
changes nothing (log entry 5). -/
inductive Fault where
  /-- Raised by nobody.  Safe. -/
  | never
deriving DecidableEq, Repr

/-- Why a command is refused. -/
inductive Refusal where
  /-- Raised by an arm of `exec` whose meaning is not written yet.  Safe. -/
  | notModelled (mnemonic : String)
deriving DecidableEq, Repr

/-- The machine. -/
structure State where
  /-- which part this is; no command changes it -/
  variant : Variant
  /-- the waiting commands, first in first out -/
  pending : List Instr
  /-- the draws of free values made so far (the model's own field) -/
  free : Nat
  /-- FAB cycles since the start -/
  tick : Nat
  /-- the register fields that differ from their reset values (Store) -/
  regs : List (Nat × Nat)
  /-- the memories of the 40-bit control-plane space (Store) -/
  mem : List Host.Cell
  /-- memories whose contents were lost: base, size and draw, newest first -/
  lost : List (Nat × Nat × Nat)
  /-- word addresses that hold an uncorrectable error, and those with a single-bit error (R94, R155) -/
  eccBad : List Nat
  eccSoft : List Nat
  resp : BusResp
  atu : AtuSt
  fretd : FretSt
  ce : Vector Eng 24
  /-- the engines for which a debugger has enabled halting on BRK (R104) -/
  haltEn : BitVec 24
  pegs : Vector Peg 256
  arb : Arbiter
  arms : Vector ArmSt 6
  /-- the TPSC carrier accumulator (R177) -/
  carrier : Nat
  lanes : Vector LaneSt 96
  ml : Vector MlSt 4
  /-- the mirror lanes hold an order that the group can use, and wait for deskew (R206) -/
  mlOrdered : Bool
  twin : TwinSt
  /-- bit n: the outputs of PLLn are gated off (R452, R454) -/
  gated : BitVec 4
  /-- REF edges arrive; RC16 passes its monitor; PLL2's feed to the quads runs (R454, R455) -/
  refOk : Bool
  rc16Ok : Bool
  quadFeed : Bool
  /-- the FAB cycle in which the reference loss was declared, and those in which the PLLs' acquisitions started (R452, R455) -/
  lossAt : Nat
  acqAt : Vector Nat 4
  /-- PLL3's dither generator: the word loaded at its last acquisition, and the FAB cycle of that load (R453) -/
  ditherSeed : BitVec 16
  ditherAt : Nat
  clock : ClockSt
  /-- the seconds held by the latches of SUP0–SUP3, CE0–CE23 and all others (R372) -/
  secLatch : Vector Nat 29
  tout : Vector ToutSt 8
  cmps : Vector TrInSt 32
  pins : Vector TrInSt 8
  pairs : Vector PairSt 24
  /-- the common starts that PWM_START has scheduled: due cycle and mask (R288) -/
  pwStarts : List (Nat × BitVec 24)
  adcs : Vector AdcSt 8
  aux : Vector AuxSt 4
  auxc : AuxShared
  vreg : VregSt
  ser : SerSt
  hp : Vector HpSt 4
  prp : Vector PrpSt 2
  /-- the smpCnt each sampled-value entry expects next, none before its first (R380); the stream as the ATU sees it (R58) -/
  svExp : Vector (Option Nat) 16
  svFeed : SvFeed
  sec : SecSt
  pmc : PmcSt
  therm : ThermSt
  jnl : JnlSt
  /-- the DMA engine's ENST -/
  dmaEnst : Nat
deriving DecidableEq, Repr

/-- The machine right after a power-on reset. -/
def State.reset : State where
  variant := .ag9696
  pending := []
  free := 0
  tick := 0
  regs := []
  mem := []
  lost := []
  eccBad := []
  eccSoft := []
  resp := {}
  atu := {}
  fretd := {}
  ce := Vector.replicate 24 {}
  haltEn := 0#24
  pegs := Vector.replicate 256 {}
  arb := {}
  arms := Vector.replicate 6 {}
  carrier := 0
  lanes := Vector.replicate 96 {}
  ml := Vector.replicate 4 {}
  mlOrdered := false
  twin := {}
  gated := 15#4
  refOk := true
  rc16Ok := true
  quadFeed := false
  lossAt := 0
  acqAt := Vector.replicate 4 0
  ditherSeed := 0xACE1#16
  ditherAt := 0
  clock := {}
  secLatch := Vector.replicate 29 0
  tout := Vector.replicate 8 {}
  cmps := Vector.replicate 32 {}
  pins := Vector.replicate 8 {}
  pairs := Vector.replicate 24 {}
  pwStarts := []
  adcs := Vector.replicate 8 {}
  aux := Vector.replicate 4 {}
  auxc := {}
  vreg := {}
  ser := {}
  hp := Vector.replicate 4 {}
  prp := Vector.replicate 2 {}
  svExp := Vector.replicate 16 none
  svFeed := {}
  sec := {}
  pmc := {}
  therm := {}
  jnl := {}
  dmaEnst := 0

end Sys2Proof.Machine
end

