-- ==== Sys2Proof/Machine/Ops.lean ====
section
/-! DEFINITION. The named operations over the register fields, the memories and the variant. -/
namespace Sys2Proof.Machine

/-- The answer of every meaning. -/
abbrev Out := Host.Outcome State Fault Refusal

/-! Register fields. -/

/-- The key of a field's instance in the register store. -/
def Fld.key (f : Fld) (i : Nat) : Nat := f.ctorIdx * 1024 + i % 1024

/-- The value of field `f` of instance `i`. -/
def State.getF (s : State) (f : Fld) (i : Nat) : Nat := Store.get s.regs (f.key i) f.spec.rst

/-- Sets field `f` of instance `i`, cut to the field's width. -/
def State.setF (s : State) (f : Fld) (i v : Nat) : State :=
  { s with regs := Store.put s.regs (f.key i) (v % 2 ^ f.width) f.spec.rst }

/-- A one-bit field as a truth value. -/
def State.bit (s : State) (f : Fld) (i : Nat) : Bool := s.getF f i == 1

/-- Sets a one-bit field. -/
def State.setBit (s : State) (f : Fld) (i : Nat) (b : Bool) : State := s.setF f i (b2n b)

/-- Sets a field where a condition holds. -/
def State.setWhen (s : State) (c : Bool) (f : Fld) (i v : Nat) : State := if c then s.setF f i v else s

/-- Counts `k` events in a field that saturates at its largest value. -/
def State.countF (s : State) (f : Fld) (i k : Nat) : State :=
  s.setF f i (min (2 ^ f.width - 1) (s.getF f i + k))

/-- Sets bit `b` of a field. -/
def State.orF (s : State) (f : Fld) (i b : Nat) : State := s.setF f i (s.getF f i ||| 2 ^ b)

/-- Whether bit `b` of a field is set. -/
def State.testF (s : State) (f : Fld) (i b : Nat) : Bool := (s.getF f i).testBit b

/-- What the unlisted key `k` of the register store reads as. -/
def regDefault (k : Nat) : Nat := (Fld.ofNat (k / 1024)).spec.rst

/-- Returns every field whose class satisfies `p` and whose field satisfies `q` to its reset value. -/
def State.resetFields (s : State) (p : Fld → Nat → Bool) : State :=
  { s with regs := Store.keep s.regs (fun k => !p (Fld.ofNat (k / 1024)) (k % 1024)) }

/-! Free values. -/

/-- Draws a free word. -/
def State.draw (s : State) : Word × State := (Config.freeWord s.free, { s with free := s.free + 1 })

/-! Memory. -/

/-- The reset contents of a slot table byte at offset `o` of a set (R230): TB, DLY, CMD, ACK, RETRY, TLM. -/
def slotDefault (o : Nat) : Nat :=
  match o with
  | 3 => 0x10 | 5 => 0x88 | 7 => 0xA0 | 9 => 0xC0 | 11 => 0xD0 | _ => 0

/-- The address lies in a lane's slot tables (R230). -/
def inSlotTable (a : Nat) : Bool := decide (0x40080000 ≤ a ∧ a < 0x40098000 ∧ 0x100 ≤ a % 0x400 ∧ a % 0x400 < 0x180)

/-- The characters of a string. -/
def asciiBytes (x : String) : List Byte := x.toList.map (fun c => BitVec.ofNat 8 c.toNat)

/-- SEC_DEVID and the OTP secret, from byte 0 on (R478). -/
def devidBytes : List Byte := (List.range 16).map Config.devid
def secretBytes : List Byte := (List.range 32).map Config.secret

/-- The seeds of the identity key pair, its public key and its signing key (R478). -/
def idSeeds : List Byte := Config.shakeSeeds (secretBytes ++ asciiBytes "AG96ID")
def idPublic : List Byte := (Config.slhPublic idSeeds ++ List.replicate 64 0#8).take 64
def idSigning : List Byte := Config.slhSigning idSeeds

/-- The identity certificate's place in MRAM and its length (Table 19-5). -/
def certBase : Nat := 0x101E02000
def certSize : Nat := 0x74E0 + 64

/-- A byte of the identity certificate: an object of TYPE 0x07 signed by KS0, whose payload is the identity public key (R478; the payload is a
DESIGN CHOICE, log entry 11). -/
def certByte (o : Nat) : Byte :=
  if o < 4 then [0x41#8, 0x4F#8, 0x47#8, 0x53#8].getD o 0#8
  else if o = 4 then 7#8
  else if o = 5 ∨ o = 7 then 0#8
  else if 12 ≤ o ∧ o < 16 then (if o = 12 then 64#8 else 0#8)
  else if 16 ≤ o ∧ o < 32 then devidBytes.getD (o - 16) 0#8
  else if 32 ≤ o ∧ o < 64 then (Config.shake idPublic).getD (o - 32) 0#8
  else if 0x74E0 ≤ o then idPublic.getD (o - 0x74E0) 0#8
  else Config.xansinCert o

/-- What an unlisted byte reads as: the reset layout in a slot table, the identity certificate at its place, a free byte where the contents
were lost, else 0 (log entry 6). -/
def memDefault (lost : List (Nat × Nat × Nat)) (a : Nat) : Byte :=
  if inSlotTable a then BitVec.ofNat 8 (slotDefault (a % 16))
  else if certBase ≤ a ∧ a < certBase + certSize then certByte (a - certBase)
  else match lost.find? (fun r => decide (r.1 ≤ a ∧ a < r.1 + r.2.1)) with
    | some r => Config.freeByte r.2.2 a
    | none => 0#8

/-- Reads one byte. -/
def State.byte (s : State) (a : Nat) : Byte := Store.get s.mem a (memDefault s.lost a)

/-- Writes one byte. -/
def State.setByte (s : State) (a : Nat) (b : Byte) : State :=
  { s with mem := Store.put s.mem a b (memDefault s.lost a) }

/-- Reads `k` bytes, least significant first (R92). -/
def State.bytes (s : State) (a : Nat) : Nat → Nat
  | 0 => 0
  | k + 1 => (s.byte a).toNat + 256 * s.bytes (a + 1) k

/-- Writes `k` bytes of `v`, least significant first (R92). -/
def State.setBytes (s : State) (a v : Nat) : Nat → State
  | 0 => s
  | k + 1 => (s.setByte a (BitVec.ofNat 8 v)).setBytes (a + 1) (v / 256) k

/-- Reads a halfword and a word. -/
def State.half (s : State) (a : Nat) : Nat := s.bytes a 2
def State.word (s : State) (a : Nat) : Word := BitVec.ofNat 32 (s.bytes a 4)

/-- Writes a word. -/
def State.setWord (s : State) (a : Nat) (w : Word) : State := s.setBytes a w.toNat 4

/-- Writes a list of bytes. -/
def State.setList (s : State) (a : Nat) : List Byte → State
  | [] => s
  | b :: t => (s.setByte a b).setList (a + 1) t

/-- Reads a list of bytes. -/
def State.readList (s : State) (a : Nat) : Nat → List Byte
  | 0 => []
  | k + 1 => s.byte a :: s.readList (a + 1) k

/-- Returns a memory region to its reset contents. -/
def State.clearMem (s : State) (base size : Nat) : State :=
  { s with mem := Store.keep s.mem (fun a => !decide (base ≤ a ∧ a < base + size)) }

/-- Loses the contents of a memory region: they become free bytes (log entry 3). -/
def State.loseMem (s : State) (base size : Nat) : State :=
  { s.clearMem base size with lost := (base, size, s.free) :: s.lost, free := s.free + 1 }

/-! Uncorrectable words. -/

def State.badWord (s : State) (a : Nat) : Bool := s.eccBad.contains (a / 4 * 4)
def State.softWord (s : State) (a : Nat) : Bool := s.eccSoft.contains (a / 4 * 4)

/-- The memories with check bits: the engines' banks, entry tables and data RAM, and the SSM with its pegs (R94, R155). -/
def eccMemory (a : Nat) : Bool :=
  decide (0x10000000 ≤ a ∧ a < 0x10800000) ||
  (decide (0x20000000 ≤ a ∧ a < 0x20000000 + 24 * 0x100000) && (decide (a % 0x100000 < 0x6040) ||
    decide (0x10000 ≤ a % 0x100000 ∧ a % 0x100000 < 0x16040) || decide (0x80000 ≤ a % 0x100000 ∧ a % 0x100000 < 0x90000)))

/-- An upset in the word at `a`: an uncorrectable error, or one of a single bit in a word that has no worse. -/
def State.upset (s : State) (a : Nat) (bad : Bool) : State :=
  if !eccMemory a || s.badWord a || (!bad && s.softWord a) then s
  else if bad then { s with eccBad := a / 4 * 4 :: s.eccBad, eccSoft := s.eccSoft.filter (fun x => x != a / 4 * 4) }
  else { s with eccSoft := a / 4 * 4 :: s.eccSoft }

/-- A word store writes fresh check bits (R94, R155). -/
def State.freshWord (s : State) (a : Nat) : State :=
  { s with eccBad := s.eccBad.filter (fun x => x != a / 4 * 4), eccSoft := s.eccSoft.filter (fun x => x != a / 4 * 4) }

/-- The words that lie whole in `k` bytes from `a` take fresh check bits. -/
def State.freshRange (s : State) (a k : Nat) : State :=
  let kept := fun (x : Nat) => !decide (a ≤ x ∧ x + 4 ≤ a + k)
  { s with eccBad := s.eccBad.filter kept, eccSoft := s.eccSoft.filter kept }

/-- Stores bytes as the words they make up. -/
def State.putList (s : State) (a : Nat) (l : List Byte) : State := (s.setList a l).freshRange a l.length

/-! The variant (Table 0-1, R4). -/

def Variant.lanes : Variant → Nat | .ag9696 => 96 | .ag9648 => 48 | .ag9624 => 24
def Variant.engines : Variant → Nat | .ag9696 => 24 | .ag9648 => 16 | .ag9624 => 8
def Variant.pairs : Variant → Nat | .ag9624 => 12 | _ => 24
def Variant.ports : Variant → Nat | .ag9624 => 2 | _ => 4
/-- The auxiliary drive die and the mirror link. -/
def Variant.full : Variant → Bool | .ag9624 => false | _ => true

/-- SYS_ID and SYS_CAP0–SYS_CAP3 (Table 0-2, Table 0-7). -/
def Variant.sysId : Variant → Nat | .ag9696 => 0x96960100 | .ag9648 => 0x96480100 | .ag9624 => 0x96240100
def Variant.cap (v : Variant) (m : Nat) : Nat :=
  match v, m with
  | .ag9696, 0 => 0x00FFFFFF | .ag9696, 1 => 0x00FFFFFF | .ag9696, 2 => 0x00FFFFFF | .ag9696, 3 => 0x00FF0F7F
  | .ag9648, 0 => 0x00000FFF | .ag9648, 1 => 0x0000FFFF | .ag9648, 2 => 0x00FFFFFF | .ag9648, 3 => 0x00FF0F7F
  | .ag9624, 0 => 0x0000003F | .ag9624, 1 => 0x000000FF | .ag9624, 2 => 0x00000FFF | .ag9624, 3 => 0x00FF0F43
  | _, _ => 0

def State.laneOk (s : State) (n : Nat) : Bool := decide (n < s.variant.lanes)
def State.engOk (s : State) (n : Nat) : Bool := decide (n < s.variant.engines)
def State.pairOk (s : State) (n : Nat) : Bool := decide (n < s.variant.pairs)
def State.portOk (s : State) (p : Nat) : Bool := decide (p < s.variant.ports)

/-! Updates of one instance of a unit. -/

def State.modCe (s : State) (n : Fin 24) (f : Eng → Eng) : State := { s with ce := s.ce.set n (f s.ce[n]) }
def State.modPeg (s : State) (n : Fin 256) (f : Peg → Peg) : State := { s with pegs := s.pegs.set n (f s.pegs[n]) }
def State.modArm (s : State) (a : Fin 6) (f : ArmSt → ArmSt) : State := { s with arms := s.arms.set a (f s.arms[a]) }
def State.modLane (s : State) (n : Fin 96) (f : LaneSt → LaneSt) : State := { s with lanes := s.lanes.set n (f s.lanes[n]) }

/-- Performs an operation for each index below `n`, lowest first. -/
def forIdx {n : Nat} (f : Fin n → State → State) (s : State) : State := (List.finRange n).foldl (fun t i => f i t) s

/-! The stages (R435). -/

/-- The stage is S4 (ARMED). -/
def State.inS4 (s : State) : Bool := s.getF .PMC_STAGE_STAGE 0 == 4

/-! The debug port (R481). -/

/-- The levels in force: every one in PROVISION, else those of the grant, which acts in S4 only with S4OK. -/
def State.debugLevel (s : State) : Nat :=
  if !s.sec.deployed then 15
  else if s.bit .DBG_STAT_UNLOCKED 0 && (!s.inS4 || s.bit .DBG_STAT_S4OK 0) then s.getF .DBG_STAT_LEVEL 0
  else 0

/-! Clocks and power (R26, R451, R458). -/

/-- VAUX is present: the blocks on RC16 run, which are the PMC, the clock-loss detector, the thermal supervisor, VREG and the debug port
(R451, R460). -/
def State.aonRuns (s : State) : Bool := !s.pmc.porSupply
/-- The device has left S0, in which every other domain is held in reset (R435, R440). -/
def State.awake (s : State) : Bool := decide (1 ≤ s.getF .PMC_STAGE_STAGE 0)
/-- The outputs of PLL0 run. -/
def State.pll0Runs (s : State) : Bool := !s.gated.getLsbD 0
/-- The FAB clock and the other outputs of PLL0 serve their units, which no reset holds: the engines, the ATU, the dispatcher, the modulation
unit, the trip fabric and the PWM. -/
def State.fabRuns (s : State) : Bool := s.pll0Runs && s.awake
/-- The SUP clock runs: an output of PLL1, for the DMA engine and SEC. -/
def State.supRuns (s : State) : Bool := !s.gated.getLsbD 1
/-- The PTP clock runs: an output of PLL2. -/
def State.ptpRuns (s : State) : Bool := !s.gated.getLsbD 2

/-- A clock was lost and has not come back (R454, R457). -/
def State.clockLost (s : State) : Bool := s.bit .CLK_LOSS_ACTIVE 0
/-- The interconnect and SAF run: on the SYS clock, an output of PLL0, and before PLL0's first lock on RC16, on which the boot ROM runs
(R452; DEDUCED, log entry 44); not after a thermal shutdown (R465). -/
def State.sysRuns (s : State) : Bool := (s.pll0Runs || !s.clockLost) && !s.bit .THERM_STAT_SHUTLAT 0 && s.aonRuns
/-- An access reaches the units on the control plane: SYS runs, and no reset holds them (R26, R435). -/
def State.busRuns (s : State) : Bool := s.sysRuns && s.awake
/-- The same for the units on FAB and the clocks divided with it, which stand still before PLL0's first lock too. -/
def State.fabBus (s : State) : Bool := s.busRuns && s.fabRuns
/-- The supervisory cores run: on the SUP clock, and before PLL1's first lock on RC16 (log entry 44); not in S0 (R435) nor after a thermal
shutdown. -/
def State.coresRun (s : State) : Bool := (s.supRuns || !s.clockLost) && s.awake && !s.bit .THERM_STAT_SHUTLAT 0 && s.aonRuns
/-- The lanes' quads run: on PLL2's feed to the quads (R451, R455). -/
def State.quadsRun (s : State) : Bool := s.quadFeed && s.awake
/-- The mirror lanes and the mirror engine run: on an output of PLL3. -/
def State.mirRuns (s : State) : Bool := !s.gated.getLsbD 3 && s.awake
/-- The engines may run tasks, from S3 on (R435). -/
def State.tasksRun (s : State) : Bool := decide (3 ≤ s.getF .PMC_STAGE_STAGE 0)

/-- A domain with only absent units is never powered (R458): LINKB on the AG9648, and LINKB, CEB, MIR and HV on the AG9624. -/
def Variant.hasDomain (v : Variant) (d : Nat) : Bool :=
  match v with
  | .ag9696 => true
  | .ag9648 => d != 8
  | .ag9624 => d != 8 && d != 5 && d != 10 && d != 13

/-- Power domain `d` of Table 18-3 is powered; in storage mode BK alone is (R460). -/
def State.powered (s : State) (d : Nat) : Bool := s.variant.hasDomain d && s.testF .PMC_PDSTAT_PWR 0 d && (s.aonRuns || d == 0)

def domCea : Nat := 4
def domCeb : Nat := 5
def domProt : Nat := 6
def domLinka : Nat := 7
def domLinkb : Nat := 8
def domHost : Nat := 9
def domMir : Nat := 10
def domAna : Nat := 11
def domNvm : Nat := 12
def domHv : Nat := 13

/-- An engine that is present and powered. -/
def State.ceLive (s : State) (n : Fin 24) : Bool := s.engOk n && s.powered (if n.val < 12 then domCea else domCeb)

/-- The fabric's MUTE state (R271). -/
def State.mstate (s : State) : Bool := s.bit .TRIP_STAT_MSTATE 0

/-- The role is SINGLE or ACTIVE: the device commands the cells (R411, R412). -/
def State.commanding (s : State) : Bool := s.getF .MIR_STAT_ROLE 0 == 0 || s.getF .MIR_STAT_ROLE 0 == 3

/-- One second in FAB cycles. -/
def second : Nat := 400000000

/-- The byte at `a` lies in the header of the command ring where no agent may write it: its RO words, and CONSLO in a device that does not
command (Table 15-6, R412). -/
def State.ringFixed (s : State) (a : Nat) : Bool :=
  decide (0x10700000 ≤ a ∧ a < 0x10700014) && (!decide (0x10700008 ≤ a ∧ a < 0x1070000C) || !s.commanding)

/-- A frame joins those that wait for the mirror link. -/
def State.queueMir (s : State) (f : MirFrame) : State := { s with jnl := { s.jnl with mirror := s.jnl.mirror ++ [f] } }

/-- Epoch `a` is higher than epoch `b` (R252). -/
def epochHigher (a b : Nat) : Bool :=
  let d := (a + 65536 - b % 65536) % 65536
  decide (1 ≤ d ∧ d ≤ 32767)

end Sys2Proof.Machine
end

