-- ==== Sys2Proof/Machine/BusErr.lean ====
section
/-! DEFINITION. The agents of the control plane and the recording of bus errors (R486, R489, R493). -/
namespace Sys2Proof.Machine

/-- The agent codes of Table 20-4. -/
def agentCode : Agent → Nat
  | .sup k => 0x20 + k.val
  | .dma => 0x30
  | .hostDma => 0x31
  | .debug => 0x32
  | .saf => 0x33

/-- The bus error causes of Table 20-4. -/
def causeUnmapped : Nat := 1
def causeWidth : Nat := 2
def causeDmareg : Nat := 3
def causeEcc : Nat := 4

/-- The answer of an access: data without an error. -/
def State.answer (s : State) (w : Word) : State := { s with resp := ⟨w, [], false⟩ }

/-- An error response (R489, R493): the access is not performed, a read returns 0, the error is counted, and recorded unless a
record is held. -/
def State.busError (s : State) (cause : Nat) (ag : Agent) (addr : Nat) (wr : Bool) : State :=
  let s1 := { (s.countF .SYS_BUSERR_COUNT 0 1) with resp := ⟨0#32, [], true⟩ }
  if s.bit .SYS_BUSERR_VALID 0 then s1
  else (((((s1.setF .SYS_BUSERR_VALID 0 1).setF .SYS_BUSERR_CAUSE 0 cause).setF .SYS_BUSERR_AGENT 0 (agentCode ag)).setF
    .SYS_BUSADDRLO_ADDR 0 addr).setF .SYS_BUSADDRHI_ADDR 0 (addr / 2 ^ 32)).setBit .SYS_BUSADDRHI_WRITE 0 wr

end Sys2Proof.Machine
end

