-- ==== Sys2Proof/Decode.lean ====
section
/-! DEFINITION. The words of the engine instructions (R88, R95 to R97, R110; Tables 3-8 to 3-16 and 4-1): an encoder and a
decoder of the Volgar set, and the decoder of the command table's words.  The command table gives no row bits, so it spells
no command. -/
namespace Sys2Proof

/-- No row of the command table has bits. -/
def decodeTableWord (_nbits _w : Nat) : Option Instr := none

/-- The word of format R: predicate field, major, rd, ra, rb, func (Table 3-8). -/
def wordR (pr : BitVec 4) (major : BitVec 6) (rd ra rb : BitVec 5) (func : BitVec 7) : Word :=
  pr ++ major ++ rd ++ ra ++ rb ++ func

/-- The word of format I. -/
def wordI (pr : BitVec 4) (major : BitVec 6) (rd ra : BitVec 5) (imm : BitVec 12) : Word :=
  pr ++ major ++ rd ++ ra ++ imm

/-- The word of format M. -/
def wordM (pr : BitVec 4) (major : BitVec 6) (rd : BitVec 5) (imm : BitVec 16) : Word :=
  pr ++ major ++ rd ++ 0#1 ++ imm

/-- The word of format B. -/
def wordB (pr : BitVec 4) (major : BitVec 6) (off : BitVec 22) : Word := pr ++ major ++ off

/-- The word of format C. -/
def wordC (pr : BitVec 4) (major : BitVec 6) (pd : BitVec 3) (comb : BitVec 2) (ra rb : BitVec 5) (cond : BitVec 4) : Word :=
  pr ++ major ++ pd ++ comb ++ ra ++ rb ++ 0#3 ++ cond

/-- The word of format CI. -/
def wordCI (pr : BitVec 4) (major : BitVec 6) (pd : BitVec 3) (comb : BitVec 2) (ra : BitVec 5) (imm : BitVec 8) (cond : BitVec 4) : Word :=
  pr ++ major ++ pd ++ comb ++ ra ++ imm ++ cond

/-- The word of format P. -/
def wordP (pr : BitVec 4) (major : BitVec 6) (pd pa pb : BitVec 3) (op : BitVec 3) : Word :=
  pr ++ major ++ pd ++ pa ++ pb ++ 0#10 ++ op

/-- The word of format Q (R110). -/
def wordQ (pr : BitVec 4) (major : BitVec 6) (pd : BitVec 3) (ra : BitVec 5) (func : BitVec 7) : Word :=
  pr ++ major ++ pd ++ 0#2 ++ ra ++ 0#5 ++ func

/-- The word of WAITF (R110). -/
def wordW (pr : BitVec 4) (major : BitVec 6) (pd : BitVec 3) (off : BitVec 16) : Word :=
  pr ++ major ++ pd ++ 0#3 ++ off

/-- The accumulator index as a register field (R100). -/
def accField (a : BitVec 2) : BitVec 5 := 0#3 ++ a

/-- The word of an engine instruction; the zero word for the commands that are none. -/
def Instr.word : Instr → Word
  | .add _ pr rd ra rb => wordR pr 1#6 rd ra rb 0#7
  | .sub _ pr rd ra rb => wordR pr 1#6 rd ra rb 1#7
  | .and _ pr rd ra rb => wordR pr 1#6 rd ra rb 4#7
  | .or _ pr rd ra rb => wordR pr 1#6 rd ra rb 5#7
  | .xor _ pr rd ra rb => wordR pr 1#6 rd ra rb 6#7
  | .andn _ pr rd ra rb => wordR pr 1#6 rd ra rb 7#7
  | .sll _ pr rd ra rb => wordR pr 1#6 rd ra rb 8#7
  | .srl _ pr rd ra rb => wordR pr 1#6 rd ra rb 9#7
  | .sra _ pr rd ra rb => wordR pr 1#6 rd ra rb 10#7
  | .ror _ pr rd ra rb => wordR pr 1#6 rd ra rb 11#7
  | .min _ pr rd ra rb => wordR pr 1#6 rd ra rb 12#7
  | .max _ pr rd ra rb => wordR pr 1#6 rd ra rb 13#7
  | .minu _ pr rd ra rb => wordR pr 1#6 rd ra rb 14#7
  | .maxu _ pr rd ra rb => wordR pr 1#6 rd ra rb 15#7
  | .clz _ pr rd ra => wordR pr 1#6 rd ra 0#5 17#7
  | .popc _ pr rd ra => wordR pr 1#6 rd ra 0#5 18#7
  | .mul _ pr rd ra rb => wordR pr 1#6 rd ra rb 24#7
  | .mulh _ pr rd ra rb => wordR pr 1#6 rd ra rb 25#7
  | .mulhu _ pr rd ra rb => wordR pr 1#6 rd ra rb 26#7
  | .div _ pr rd ra rb => wordR pr 1#6 rd ra rb 28#7
  | .divu _ pr rd ra rb => wordR pr 1#6 rd ra rb 29#7
  | .rem _ pr rd ra rb => wordR pr 1#6 rd ra rb 30#7
  | .remu _ pr rd ra rb => wordR pr 1#6 rd ra rb 31#7
  | .movl _ pr rd imm => wordM pr 10#6 rd imm
  | .movh _ pr rd imm => wordM pr 11#6 rd imm
  | .addi _ pr rd ra imm => wordI pr 12#6 rd ra imm
  | .andi _ pr rd ra imm => wordI pr 13#6 rd ra imm
  | .ori _ pr rd ra imm => wordI pr 14#6 rd ra imm
  | .xori _ pr rd ra imm => wordI pr 15#6 rd ra imm
  | .shi _ pr rd ra op cnt => wordI pr 16#6 rd ra (op ++ 0#5 ++ cnt)
  | .qadd _ pr rd ra rb => wordR pr 2#6 rd ra rb 0#7
  | .qsub _ pr rd ra rb => wordR pr 2#6 rd ra rb 1#7
  | .qmul _ pr rd ra rb => wordR pr 2#6 rd ra rb 2#7
  | .qneg _ pr rd ra => wordR pr 2#6 rd ra 0#5 3#7
  | .qabs _ pr rd ra => wordR pr 2#6 rd ra 0#5 4#7
  | .qshl _ pr rd ra rb => wordR pr 2#6 rd ra rb 5#7
  | .qshr _ pr rd ra rb => wordR pr 2#6 rd ra rb 6#7
  | .mac _ pr a ra rb => wordR pr 2#6 (accField a) ra rb 16#7
  | .msu _ pr a ra rb => wordR pr 2#6 (accField a) ra rb 17#7
  | .mpya _ pr a ra rb => wordR pr 2#6 (accField a) ra rb 18#7
  | .adda _ pr a ra => wordR pr 2#6 (accField a) ra 0#5 19#7
  | .clra _ pr a => wordR pr 2#6 (accField a) 0#5 0#5 20#7
  | .racc _ pr rd a k => wordR pr 2#6 rd (accField a) k 21#7
  | .mfa _ pr rd a part => wordR pr 2#6 rd (accField a) part 22#7
  | .mta _ pr a ra part => wordR pr 2#6 (accField a) ra part 23#7
  | .fadd _ pr rd ra rb => wordR pr 3#6 rd ra rb 0#7
  | .fsub _ pr rd ra rb => wordR pr 3#6 rd ra rb 1#7
  | .fmul _ pr rd ra rb => wordR pr 3#6 rd ra rb 2#7
  | .fma _ pr rd ra rb => wordR pr 3#6 rd ra rb 3#7
  | .fms _ pr rd ra rb => wordR pr 3#6 rd ra rb 4#7
  | .fdiv _ pr rd ra rb => wordR pr 3#6 rd ra rb 5#7
  | .fsqrt _ pr rd ra => wordR pr 3#6 rd ra 0#5 6#7
  | .fmin _ pr rd ra rb => wordR pr 3#6 rd ra rb 7#7
  | .fmax _ pr rd ra rb => wordR pr 3#6 rd ra rb 8#7
  | .fabs _ pr rd ra => wordR pr 3#6 rd ra 0#5 9#7
  | .fneg _ pr rd ra => wordR pr 3#6 rd ra 0#5 10#7
  | .f2q _ pr rd ra => wordR pr 3#6 rd ra 0#5 16#7
  | .q2f _ pr rd ra => wordR pr 3#6 rd ra 0#5 17#7
  | .f2i _ pr rd ra => wordR pr 3#6 rd ra 0#5 18#7
  | .i2f _ pr rd ra => wordR pr 3#6 rd ra 0#5 19#7
  | .cmp _ pr pd comb ra rb cond => wordC pr 4#6 pd comb ra rb cond
  | .cmpi _ pr pd comb ra imm cond => wordCI pr 5#6 pd comb ra imm cond
  | .plog _ pr pd pa pb op => wordP pr 6#6 pd pa pb op
  | .mfs _ pr rd sreg => wordI pr 7#6 rd 0#5 sreg
  | .mts _ pr sreg ra => wordI pr 8#6 0#5 ra sreg
  | .nop _ pr => wordR pr 9#6 0#5 0#5 0#5 0#7
  | .fence _ pr => wordR pr 9#6 0#5 0#5 0#5 1#7
  | .brk _ pr => wordR pr 9#6 0#5 0#5 0#5 2#7
  | .ldw _ pr rd ra imm => wordI pr 20#6 rd ra imm
  | .ldh _ pr rd ra imm => wordI pr 21#6 rd ra imm
  | .ldhu _ pr rd ra imm => wordI pr 22#6 rd ra imm
  | .ldb _ pr rd ra imm => wordI pr 23#6 rd ra imm
  | .ldbu _ pr rd ra imm => wordI pr 24#6 rd ra imm
  | .ldq _ pr rd ra imm => wordI pr 25#6 rd ra imm
  | .ldwp _ pr rd ra imm => wordI pr 26#6 rd ra imm
  | .stw _ pr rs ra imm => wordI pr 28#6 rs ra imm
  | .sth _ pr rs ra imm => wordI pr 29#6 rs ra imm
  | .stb _ pr rs ra imm => wordI pr 30#6 rs ra imm
  | .stq _ pr rs ra imm => wordI pr 31#6 rs ra imm
  | .stwp _ pr rs ra imm => wordI pr 32#6 rs ra imm
  | .br _ pr off => wordB pr 36#6 off
  | .call _ pr off => wordB pr 37#6 off
  | .jr _ pr ra => wordR pr 38#6 0#5 ra 0#5 0#7
  | .jalr _ pr rd ra => wordR pr 38#6 rd ra 0#5 1#7
  | .sincos _ pr rd ra rb => wordR pr 48#6 rd ra rb 0#7
  | .biq _ pr rd ra rb => wordR pr 49#6 rd ra rb 0#7
  | .pi _ pr rd ra rb => wordR pr 50#6 rd ra rb 0#7
  | .capo _ pr rd ra rb => wordR pr 50#6 rd ra rb 1#7
  | .lim _ pr rd ra rb => wordR pr 51#6 rd ra rb 0#7
  | .limf _ pr rd ra rb => wordR pr 51#6 rd ra rb 1#7
  | .sat _ pr rd ra cnt => wordR pr 51#6 rd ra cnt 2#7
  | .satu _ pr rd ra cnt => wordR pr 51#6 rd ra cnt 3#7
  | .pluck _ pr rd ra => wordR pr 52#6 rd ra 0#5 0#7
  | .plka _ pr rd ra rb => wordR pr 52#6 rd ra rb 1#7
  | .plkc _ pr a ra rb lag => wordR pr 52#6 (accField a) ra rb (2#2 ++ lag)
  | .send _ pr ra rb => wordR pr 53#6 0#5 ra rb 0#7
  | .recv _ pr rd ra => wordR pr 53#6 rd ra 0#5 1#7
  | .pega _ pr rd ra => wordR pr 54#6 rd ra 0#5 0#7
  | .pegr _ pr rd ra => wordR pr 54#6 rd ra 0#5 1#7
  | .pegrk _ pr rd ra => wordR pr 54#6 rd ra 0#5 2#7
  | .pegq _ pr rd ra => wordR pr 54#6 rd ra 0#5 3#7
  | .waitf _ pr pd off => wordW pr 55#6 pd off
  | .commit _ pr rd => wordR pr 56#6 rd 0#5 0#5 0#7
  | .commitE _ pr rd => wordR pr 56#6 rd 0#5 0#5 1#7
  | .endt _ pr => wordR pr 56#6 0#5 0#5 0#5 2#7
  | .dlq _ pr rd => wordR pr 57#6 rd 0#5 0#5 0#7
  | .dlck _ pr pd ra => wordQ pr 57#6 pd ra 1#7
  | _ => 0#32

/-! The decoder: the fields of the word, then the major opcode's table; `none` is ILLEGAL (R96). -/

/-- A reserved or unused field that must be 0. -/
def need (c : Bool) (i : Instr) : Option Instr := if c then some i else none

/-- The integer ALU (Table 3-10). -/
def decodeInt (n : Fin 24) (pr : BitVec 4) (rd ra rb : BitVec 5) (func : Nat) : Option Instr :=
  match func with
  | 0 => some (.add n pr rd ra rb)
  | 1 => some (.sub n pr rd ra rb)
  | 4 => some (.and n pr rd ra rb)
  | 5 => some (.or n pr rd ra rb)
  | 6 => some (.xor n pr rd ra rb)
  | 7 => some (.andn n pr rd ra rb)
  | 8 => some (.sll n pr rd ra rb)
  | 9 => some (.srl n pr rd ra rb)
  | 10 => some (.sra n pr rd ra rb)
  | 11 => some (.ror n pr rd ra rb)
  | 12 => some (.min n pr rd ra rb)
  | 13 => some (.max n pr rd ra rb)
  | 14 => some (.minu n pr rd ra rb)
  | 15 => some (.maxu n pr rd ra rb)
  | 17 => need (rb == 0#5) (.clz n pr rd ra)
  | 18 => need (rb == 0#5) (.popc n pr rd ra)
  | 24 => some (.mul n pr rd ra rb)
  | 25 => some (.mulh n pr rd ra rb)
  | 26 => some (.mulhu n pr rd ra rb)
  | 28 => some (.div n pr rd ra rb)
  | 29 => some (.divu n pr rd ra rb)
  | 30 => some (.rem n pr rd ra rb)
  | 31 => some (.remu n pr rd ra rb)
  | _ => none

/-- Q31 and accumulators (Table 3-12). -/
def decodeQ31 (n : Fin 24) (pr : BitVec 4) (rd ra rb : BitVec 5) (func : Nat) : Option Instr :=
  match func with
  | 0 => some (.qadd n pr rd ra rb)
  | 1 => some (.qsub n pr rd ra rb)
  | 2 => some (.qmul n pr rd ra rb)
  | 3 => need (rb == 0#5) (.qneg n pr rd ra)
  | 4 => need (rb == 0#5) (.qabs n pr rd ra)
  | 5 => some (.qshl n pr rd ra rb)
  | 6 => some (.qshr n pr rd ra rb)
  | 16 => need (rd.extractLsb' 2 3 == 0#3) (.mac n pr (rd.extractLsb' 0 2) ra rb)
  | 17 => need (rd.extractLsb' 2 3 == 0#3) (.msu n pr (rd.extractLsb' 0 2) ra rb)
  | 18 => need (rd.extractLsb' 2 3 == 0#3) (.mpya n pr (rd.extractLsb' 0 2) ra rb)
  | 19 => need (rd.extractLsb' 2 3 == 0#3 && rb == 0#5) (.adda n pr (rd.extractLsb' 0 2) ra)
  | 20 => need (rd.extractLsb' 2 3 == 0#3 && ra == 0#5 && rb == 0#5) (.clra n pr (rd.extractLsb' 0 2))
  | 21 => need (ra.extractLsb' 2 3 == 0#3) (.racc n pr rd (ra.extractLsb' 0 2) rb)
  | 22 => need (ra.extractLsb' 2 3 == 0#3 && decide (rb.toNat ≤ 2)) (.mfa n pr rd (ra.extractLsb' 0 2) rb)
  | 23 => need (rd.extractLsb' 2 3 == 0#3 && decide (rb.toNat ≤ 2)) (.mta n pr (rd.extractLsb' 0 2) ra rb)
  | _ => none

/-- FP32 (Table 3-13). -/
def decodeFp (n : Fin 24) (pr : BitVec 4) (rd ra rb : BitVec 5) (func : Nat) : Option Instr :=
  match func with
  | 0 => some (.fadd n pr rd ra rb)
  | 1 => some (.fsub n pr rd ra rb)
  | 2 => some (.fmul n pr rd ra rb)
  | 3 => some (.fma n pr rd ra rb)
  | 4 => some (.fms n pr rd ra rb)
  | 5 => some (.fdiv n pr rd ra rb)
  | 6 => need (rb == 0#5) (.fsqrt n pr rd ra)
  | 7 => some (.fmin n pr rd ra rb)
  | 8 => some (.fmax n pr rd ra rb)
  | 9 => need (rb == 0#5) (.fabs n pr rd ra)
  | 10 => need (rb == 0#5) (.fneg n pr rd ra)
  | 16 => need (rb == 0#5) (.f2q n pr rd ra)
  | 17 => need (rb == 0#5) (.q2f n pr rd ra)
  | 18 => need (rb == 0#5) (.f2i n pr rd ra)
  | 19 => need (rb == 0#5) (.i2f n pr rd ra)
  | _ => none

/-- SYS (Table 3-16). -/
def decodeSys (n : Fin 24) (pr : BitVec 4) (rd ra rb : BitVec 5) (func : Nat) : Option Instr :=
  match func with
  | 0 => need (rd == 0#5 && ra == 0#5 && rb == 0#5) (.nop n pr)
  | 1 => need (rd == 0#5 && ra == 0#5 && rb == 0#5) (.fence n pr)
  | 2 => need (rd == 0#5 && ra == 0#5 && rb == 0#5) (.brk n pr)
  | _ => none

/-- JR and JALR (Table 3-16). -/
def decodeJump (n : Fin 24) (pr : BitVec 4) (rd ra rb : BitVec 5) (func : Nat) : Option Instr :=
  match func with
  | 0 => need (rd == 0#5 && rb == 0#5) (.jr n pr ra)
  | 1 => need (rb == 0#5) (.jalr n pr rd ra)
  | _ => none

/-- PI and CAPO (Table 4-1). -/
def decodePi (n : Fin 24) (pr : BitVec 4) (rd ra rb : BitVec 5) (func : Nat) : Option Instr :=
  match func with
  | 0 => some (.pi n pr rd ra rb)
  | 1 => some (.capo n pr rd ra rb)
  | _ => none

/-- LIM, LIMF, SAT and SATU (Table 4-1). -/
def decodeLim (n : Fin 24) (pr : BitVec 4) (rd ra rb : BitVec 5) (func : Nat) : Option Instr :=
  match func with
  | 0 => some (.lim n pr rd ra rb)
  | 1 => some (.limf n pr rd ra rb)
  | 2 => some (.sat n pr rd ra rb)
  | 3 => some (.satu n pr rd ra rb)
  | _ => none

/-- SEND and RECV (Table 4-1). -/
def decodeSlot (n : Fin 24) (pr : BitVec 4) (rd ra rb : BitVec 5) (func : Nat) : Option Instr :=
  match func with
  | 0 => need (rd == 0#5) (.send n pr ra rb)
  | 1 => need (rb == 0#5) (.recv n pr rd ra)
  | _ => none

/-- The peg instructions (Table 4-1). -/
def decodePeg (n : Fin 24) (pr : BitVec 4) (rd ra rb : BitVec 5) (func : Nat) : Option Instr :=
  match func with
  | 0 => need (rb == 0#5) (.pega n pr rd ra)
  | 1 => need (rb == 0#5) (.pegr n pr rd ra)
  | 2 => need (rb == 0#5) (.pegrk n pr rd ra)
  | 3 => need (rb == 0#5) (.pegq n pr rd ra)
  | _ => none

/-- COMMIT, COMMIT.E and ENDT (Table 4-1). -/
def decodeCommit (n : Fin 24) (pr : BitVec 4) (rd ra rb : BitVec 5) (func : Nat) : Option Instr :=
  match func with
  | 0 => need (ra == 0#5 && rb == 0#5) (.commit n pr rd)
  | 1 => need (ra == 0#5 && rb == 0#5) (.commitE n pr rd)
  | 2 => need (rd == 0#5 && ra == 0#5 && rb == 0#5) (.endt n pr)
  | _ => none

/-- PLUCK, PLKA and PLKC (Table 4-1). -/
def decodePluck (n : Fin 24) (pr : BitVec 4) (rd ra rb : BitVec 5) (func : BitVec 7) : Option Instr :=
  if func = 0#7 then need (rb == 0#5) (.pluck n pr rd ra)
  else if func = 1#7 then some (.plka n pr rd ra rb)
  else need (func.extractLsb' 5 2 == 2#2 && rd.extractLsb' 2 3 == 0#3)
    (.plkc n pr (rd.extractLsb' 0 2) ra rb (func.extractLsb' 0 5))

/-- The loads and stores, the immediates and the special-register moves: format I. -/
def decodeI (n : Fin 24) (pr : BitVec 4) (rd ra : BitVec 5) (imm : BitVec 12) (major : Nat) : Option Instr :=
  match major with
  | 7 => need (ra == 0#5) (.mfs n pr rd imm)
  | 8 => need (rd == 0#5) (.mts n pr imm ra)
  | 12 => some (.addi n pr rd ra imm)
  | 13 => some (.andi n pr rd ra imm)
  | 14 => some (.ori n pr rd ra imm)
  | 15 => some (.xori n pr rd ra imm)
  | 16 => need (imm.extractLsb' 5 5 == 0#5) (.shi n pr rd ra (imm.extractLsb' 10 2) (imm.extractLsb' 0 5))
  | 20 => some (.ldw n pr rd ra imm)
  | 21 => some (.ldh n pr rd ra imm)
  | 22 => some (.ldhu n pr rd ra imm)
  | 23 => some (.ldb n pr rd ra imm)
  | 24 => some (.ldbu n pr rd ra imm)
  | 25 => some (.ldq n pr rd ra imm)
  | 26 => need (rd != ra) (.ldwp n pr rd ra imm)
  | 28 => some (.stw n pr rd ra imm)
  | 29 => some (.sth n pr rd ra imm)
  | 30 => some (.stb n pr rd ra imm)
  | 31 => some (.stq n pr rd ra imm)
  | 32 => some (.stwp n pr rd ra imm)
  | _ => none

/-- A special register that MFS reads, and one that MTS writes (Table 3-2, R82). -/
def sregReadable (k : BitVec 12) : Bool := decide (k.toNat ≤ 7 ∨ k.toNat = 0x10 ∨ k.toNat = 0x11)
def sregWritable (k : BitVec 12) : Bool := decide (k.toNat = 0x10 ∨ k.toNat = 0x11)

/-- A condition that CMP accepts, and one that CMPI accepts (Table 3-14, R102). -/
def condOk (c : BitVec 4) : Bool := decide (c.toNat ≤ 5 ∨ (8 ≤ c.toNat ∧ c.toNat ≤ 12))
def condIntOk (c : BitVec 4) : Bool := decide (c.toNat ≤ 5)

/-- The predicate operands that a PLOG op does not use are 0 (R102). -/
def plogOk (op pa pb : BitVec 3) : Bool :=
  if op.toNat ≤ 3 then true else if op.toNat ≤ 5 then pb == 0#3 else pa == 0#3 && pb == 0#3

/-- The instruction a word stands for on engine `n`; `none` is a word that raises ILLEGAL for its fields alone. -/
def decodeFields (n : Fin 24) (w : Word) : Option Instr :=
  let pr : BitVec 4 := w.extractLsb' 28 4
  let major := (w.extractLsb' 22 6).toNat
  let rd : BitVec 5 := w.extractLsb' 17 5
  let ra : BitVec 5 := w.extractLsb' 12 5
  let rb : BitVec 5 := w.extractLsb' 7 5
  let func : BitVec 7 := w.extractLsb' 0 7
  let imm : BitVec 12 := w.extractLsb' 0 12
  let pd : BitVec 3 := w.extractLsb' 19 3
  let comb : BitVec 2 := w.extractLsb' 17 2
  match major with
  | 1 => decodeInt n pr rd ra rb func.toNat
  | 2 => decodeQ31 n pr rd ra rb func.toNat
  | 3 => decodeFp n pr rd ra rb func.toNat
  | 4 => need (w.extractLsb' 4 3 == 0#3) (.cmp n pr pd comb ra rb (w.extractLsb' 0 4))
  | 5 => some (.cmpi n pr pd comb ra (w.extractLsb' 4 8) (w.extractLsb' 0 4))
  | 6 => need (w.extractLsb' 3 10 == 0#10) (.plog n pr pd (w.extractLsb' 16 3) (w.extractLsb' 13 3) (w.extractLsb' 0 3))
  | 9 => decodeSys n pr rd ra rb func.toNat
  | 10 => need (w.extractLsb' 16 1 == 0#1) (.movl n pr rd (w.extractLsb' 0 16))
  | 11 => need (w.extractLsb' 16 1 == 0#1) (.movh n pr rd (w.extractLsb' 0 16))
  | 36 => some (.br n pr (w.extractLsb' 0 22))
  | 37 => some (.call n pr (w.extractLsb' 0 22))
  | 38 => decodeJump n pr rd ra rb func.toNat
  | 48 => if func = 0#7 then need (rd.getLsbD 0 == false && rd != 0#5) (.sincos n pr rd ra rb) else none
  | 49 => if func = 0#7 then some (.biq n pr rd ra rb) else none
  | 50 => decodePi n pr rd ra rb func.toNat
  | 51 => decodeLim n pr rd ra rb func.toNat
  | 52 => decodePluck n pr rd ra rb func
  | 53 => decodeSlot n pr rd ra rb func.toNat
  | 54 => decodePeg n pr rd ra rb func.toNat
  | 55 => need (w.extractLsb' 16 3 == 0#3) (.waitf n pr pd (w.extractLsb' 0 16))
  | 56 => decodeCommit n pr rd ra rb func.toNat
  | 57 => if func = 0#7 then need (ra == 0#5 && rb == 0#5) (.dlq n pr rd)
          else need (func == 1#7 && comb == 0#2 && rb == 0#5) (.dlck n pr pd ra)
  | m => decodeI n pr rd ra imm m

/-- Whether R82, R88, R96, R100, R102, R103 and R116 allow an engine instruction with these operands. -/
def Instr.legal : Instr → Bool
  | .cmp _ pr pd _ _ _ cond => pr != 8#4 && pd != 0#3 && condOk cond
  | .cmpi _ pr pd _ _ _ cond => pr != 8#4 && pd != 0#3 && condIntOk cond
  | .plog _ pr pd pa pb op => pr != 8#4 && pd != 0#3 && plogOk op pa pb
  | .mfs _ pr _ k => pr != 8#4 && sregReadable k
  | .mts _ pr k _ => pr != 8#4 && sregWritable k
  | .mfa _ pr _ _ part => pr != 8#4 && decide (part.toNat ≤ 2)
  | .mta _ pr _ _ part => pr != 8#4 && decide (part.toNat ≤ 2)
  | .ldwp _ pr rd ra _ => pr != 8#4 && rd != ra
  | .sincos _ pr rd _ _ => pr != 8#4 && rd.getLsbD 0 == false && rd != 0#5
  | .waitf _ pr pd _ => pr != 8#4 && pd != 0#3
  | .dlck _ pr pd _ => pr != 8#4 && pd != 0#3
  | .add _ pr _ _ _ => pr != 8#4
  | .sub _ pr _ _ _ => pr != 8#4
  | .and _ pr _ _ _ => pr != 8#4
  | .or _ pr _ _ _ => pr != 8#4
  | .xor _ pr _ _ _ => pr != 8#4
  | .andn _ pr _ _ _ => pr != 8#4
  | .sll _ pr _ _ _ => pr != 8#4
  | .srl _ pr _ _ _ => pr != 8#4
  | .sra _ pr _ _ _ => pr != 8#4
  | .ror _ pr _ _ _ => pr != 8#4
  | .min _ pr _ _ _ => pr != 8#4
  | .max _ pr _ _ _ => pr != 8#4
  | .minu _ pr _ _ _ => pr != 8#4
  | .maxu _ pr _ _ _ => pr != 8#4
  | .clz _ pr _ _ => pr != 8#4
  | .popc _ pr _ _ => pr != 8#4
  | .mul _ pr _ _ _ => pr != 8#4
  | .mulh _ pr _ _ _ => pr != 8#4
  | .mulhu _ pr _ _ _ => pr != 8#4
  | .div _ pr _ _ _ => pr != 8#4
  | .divu _ pr _ _ _ => pr != 8#4
  | .rem _ pr _ _ _ => pr != 8#4
  | .remu _ pr _ _ _ => pr != 8#4
  | .movl _ pr _ _ => pr != 8#4
  | .movh _ pr _ _ => pr != 8#4
  | .addi _ pr _ _ _ => pr != 8#4
  | .andi _ pr _ _ _ => pr != 8#4
  | .ori _ pr _ _ _ => pr != 8#4
  | .xori _ pr _ _ _ => pr != 8#4
  | .shi _ pr _ _ _ _ => pr != 8#4
  | .qadd _ pr _ _ _ => pr != 8#4
  | .qsub _ pr _ _ _ => pr != 8#4
  | .qmul _ pr _ _ _ => pr != 8#4
  | .qneg _ pr _ _ => pr != 8#4
  | .qabs _ pr _ _ => pr != 8#4
  | .qshl _ pr _ _ _ => pr != 8#4
  | .qshr _ pr _ _ _ => pr != 8#4
  | .mac _ pr _ _ _ => pr != 8#4
  | .msu _ pr _ _ _ => pr != 8#4
  | .mpya _ pr _ _ _ => pr != 8#4
  | .adda _ pr _ _ => pr != 8#4
  | .clra _ pr _ => pr != 8#4
  | .racc _ pr _ _ _ => pr != 8#4
  | .fadd _ pr _ _ _ => pr != 8#4
  | .fsub _ pr _ _ _ => pr != 8#4
  | .fmul _ pr _ _ _ => pr != 8#4
  | .fma _ pr _ _ _ => pr != 8#4
  | .fms _ pr _ _ _ => pr != 8#4
  | .fdiv _ pr _ _ _ => pr != 8#4
  | .fsqrt _ pr _ _ => pr != 8#4
  | .fmin _ pr _ _ _ => pr != 8#4
  | .fmax _ pr _ _ _ => pr != 8#4
  | .fabs _ pr _ _ => pr != 8#4
  | .fneg _ pr _ _ => pr != 8#4
  | .f2q _ pr _ _ => pr != 8#4
  | .q2f _ pr _ _ => pr != 8#4
  | .f2i _ pr _ _ => pr != 8#4
  | .i2f _ pr _ _ => pr != 8#4
  | .nop _ pr => pr != 8#4
  | .fence _ pr => pr != 8#4
  | .brk _ pr => pr != 8#4
  | .ldw _ pr _ _ _ => pr != 8#4
  | .ldh _ pr _ _ _ => pr != 8#4
  | .ldhu _ pr _ _ _ => pr != 8#4
  | .ldb _ pr _ _ _ => pr != 8#4
  | .ldbu _ pr _ _ _ => pr != 8#4
  | .ldq _ pr _ _ _ => pr != 8#4
  | .stw _ pr _ _ _ => pr != 8#4
  | .sth _ pr _ _ _ => pr != 8#4
  | .stb _ pr _ _ _ => pr != 8#4
  | .stq _ pr _ _ _ => pr != 8#4
  | .stwp _ pr _ _ _ => pr != 8#4
  | .br _ pr _ => pr != 8#4
  | .call _ pr _ => pr != 8#4
  | .jr _ pr _ => pr != 8#4
  | .jalr _ pr _ _ => pr != 8#4
  | .biq _ pr _ _ _ => pr != 8#4
  | .pi _ pr _ _ _ => pr != 8#4
  | .capo _ pr _ _ _ => pr != 8#4
  | .lim _ pr _ _ _ => pr != 8#4
  | .limf _ pr _ _ _ => pr != 8#4
  | .sat _ pr _ _ _ => pr != 8#4
  | .satu _ pr _ _ _ => pr != 8#4
  | .pluck _ pr _ _ => pr != 8#4
  | .plka _ pr _ _ _ => pr != 8#4
  | .plkc _ pr _ _ _ _ => pr != 8#4
  | .send _ pr _ _ => pr != 8#4
  | .recv _ pr _ _ => pr != 8#4
  | .pega _ pr _ _ => pr != 8#4
  | .pegr _ pr _ _ => pr != 8#4
  | .pegrk _ pr _ _ => pr != 8#4
  | .pegq _ pr _ _ => pr != 8#4
  | .commit _ pr _ => pr != 8#4
  | .commitE _ pr _ => pr != 8#4
  | .endt _ pr => pr != 8#4
  | .dlq _ pr _ => pr != 8#4
  | _ => false

/-- The decoder: `none` raises ILLEGAL (R96). -/
def decodeVolgar (n : Fin 24) (w : Word) : Option Instr :=
  match decodeFields n w with
  | some i => if i.legal then some i else none
  | none => none

end Sys2Proof
end

