-- ==== Sys2Proof/Machine/Operands.lean ====
section
/-! DEFINITION. The operand forms of an engine instruction (registers, predicates, accumulators) and the issue rule R89. -/
namespace Sys2Proof.Machine

/-- Reads register g`r`; g0 reads as 0. -/
def Eng.readG (e : Eng) (r : BitVec 5) : Word := if r = 0#5 then 0#32 else e.g[r.toNat]'(r.isLt)

/-- Writes register g`r`; a write to g0 is discarded. -/
def Eng.writeG (e : Eng) (r : BitVec 5) (w : Word) : Eng :=
  if r = 0#5 then e else { e with g := e.g.set r.toNat w r.isLt }

/-- Reads predicate p`k`; p0 reads as 1. -/
def Eng.readP (e : Eng) (k : BitVec 3) : Bool := if k = 0#3 then true else e.p[k.toNat]'(k.isLt)

/-- Writes predicate p`k`; p0 cannot be written. -/
def Eng.writeP (e : Eng) (k : BitVec 3) (b : Bool) : Eng :=
  if k = 0#3 then e else { e with p := e.p.set k.toNat b k.isLt }

def Eng.readA (e : Eng) (a : BitVec 2) : BitVec 72 := e.acc[a.toNat]'(a.isLt)
def Eng.writeA (e : Eng) (a : BitVec 2) (v : BitVec 72) : Eng := { e with acc := e.acc.set a.toNat v a.isLt }

/-- Sets sticky flags, once the instruction's result is written; hardware never clears one (R87). -/
def Eng.raise (e : Eng) (f : NFlags) : Eng := if f.bits = 0#7 then e else { e with flagQ := e.flagQ ++ [(0, f.bits)] }

/-- The flags of the results written by cycle `t` have been set. -/
def Eng.settle (e : Eng) (t : Nat) : Eng :=
  { e with
    flags := (e.flagQ.filter (fun q => decide (q.1 ≤ t))).foldl (fun f q => f ||| q.2) e.flags,
    flagQ := e.flagQ.filter (fun q => !decide (q.1 ≤ t)) }

/-- The flags that the performed instruction raised are set in cycle `c`. -/
def Eng.dueFlags (e : Eng) (c : Nat) : Eng := { e with flagQ := e.flagQ.map (fun q => (if q.1 = 0 then c else q.1, q.2)) }

/-- s_flags once every result in flight is written. -/
def Eng.allFlags (e : Eng) : BitVec 7 := e.flagQ.foldl (fun f q => f ||| q.2) e.flags

/-- The instruction is performed when p(PRED) XOR PNEG is 1 (R88). -/
def Eng.predTrue (e : Eng) (pr : BitVec 4) : Bool := e.readP (pr.extractLsb' 0 3) ^^ pr.getLsbD 3

/-- What an instruction reads, writes and uses, with its latencies (R89 and the opcode tables). -/
structure Use where
  readsG : List (BitVec 5) := []
  writesG : List (BitVec 5 × Nat) := []
  readsP : List (BitVec 3) := []
  writesP : List (BitVec 3 × Nat) := []
  /-- accumulators read or written, and whether the instruction is of the accumulate group (R100) -/
  accs : List (BitVec 2) := []
  writesA : Bool := false
  group : Bool := false
  /-- its latency if it uses the divider, else 0 -/
  divider : Nat := 0
  /-- its latency if it is blocking (R111), else 0 -/
  blocking : Nat := 0
  /-- a performed branch adds one bubble -/
  branch : Bool := false
  /-- the latency after which a load or store has completed -/
  mem : Nat := 0
deriving DecidableEq, Repr

/-- The latency after which the result, and with it the flags, are written (R87): 1 for what has no register or predicate result.  For an
accumulator R100 gives 1 within its group and 2 otherwise; that its QSAT is set after 1 is the model's choice (DESIGN CHOICE, log entry
53). -/
def Use.resultLat (u : Use) : Nat :=
  max 1 (max (u.writesG.foldl (fun m x => max m x.2) 0) (u.writesP.foldl (fun m x => max m x.2) 0))

def maxOver {α : Type} (f : α → Nat) (l : List α) : Nat := l.foldl (fun m x => max m (f x)) 0

def Timing.rG (t : Timing) (r : BitVec 5) : Nat := if r = 0#5 then 0 else t.readyG[r.toNat]'(r.isLt)
def Timing.rP (t : Timing) (k : BitVec 3) : Nat := if k = 0#3 then 0 else t.readyP[k.toNat]'(k.isLt)

/-- The cycle in which the instruction issues (R89): `perf` says that its predicate is true. -/
def Timing.issueAt (t : Timing) (pr : BitVec 4) (perf : Bool) (u : Use) : Nat :=
  let t0 := max t.next (t.rP (pr.extractLsb' 0 3))
  if perf then
    let a := fun (k : BitVec 2) => if u.group then t.readyAGroup[k.toNat]'(k.isLt) else t.readyAOther[k.toNat]'(k.isLt)
    max t0 (max (max (maxOver t.rG u.readsG) (maxOver (fun x => t.rG x.1) u.writesG))
      (max (max (maxOver t.rP u.readsP) (maxOver (fun x => t.rP x.1) u.writesP))
        (max (maxOver a u.accs) (if u.divider = 0 then 0 else t.dividerFree))))
  else t0

/-- The timing after an issue in cycle `c`; `block` is the latency of a blocking access, 0 for none. -/
def Timing.after (t : Timing) (c : Nat) (perf : Bool) (u : Use) (block : Nat) : Timing :=
  let t1 := { t with first := some (t.first.getD c), last := c, next := c + 1 }
  if perf then
    let g := u.writesG.foldl (fun v x => v.set x.1.toNat (c + x.2) x.1.isLt) t.readyG
    let p := u.writesP.foldl (fun v x => v.set x.1.toNat (c + x.2) x.1.isLt) t.readyP
    let ag := if u.writesA then u.accs.foldl (fun v k => v.set k.toNat (c + 1) k.isLt) t.readyAGroup else t.readyAGroup
    let ao := if u.writesA then
        u.accs.foldl (fun v k => v.set k.toNat (c + if u.group then 2 else 1) k.isLt) t.readyAOther
      else t.readyAOther
    { t1 with next := max (c + 1 + b2n u.branch) (c + max u.blocking block),
              readyG := g, readyP := p, readyAGroup := ag, readyAOther := ao,
              dividerFree := if u.divider = 0 then t.dividerFree else c + u.divider,
              memDone := max t.memDone (c + max u.mem block) }
  else t1

/-- The times in flight of a task, counted from the first cycle of a task that begins `d` cycles later (R89, R114). -/
def Timing.carry (t : Timing) (d : Nat) : Timing :=
  { readyG := t.readyG.map (fun x => x - d), readyP := t.readyP.map (fun x => x - d),
    readyAGroup := t.readyAGroup.map (fun x => x - d), readyAOther := t.readyAOther.map (fun x => x - d),
    dividerFree := t.dividerFree - d, memDone := t.memDone - d }

/-- What is in flight when a task begins `d` cycles after the one before (R89, R114): counted from the new task's first cycle. -/
def Eng.rebase (e : Eng) (d : Nat) : Eng :=
  { e.settle d with flagQ := (e.settle d).flagQ.map (fun q => (q.1 - d, q.2)), tm := e.tm.carry d }

end Sys2Proof.Machine
end

