-- ==== Sys2Proof/Machine/Engine.lean ====
section
/-! DEFINITION. The engines: fret arithmetic, the end of a task (R114), exceptions (R105 to R108), the issue of an
instruction (R88, R89, R106, R107), and the pegs (R131, R161, R162). -/
namespace Sys2Proof.Machine

/-! Fret arithmetic (R48 to R52). -/

/-- FPC in effect. -/
def State.fpc (s : State) : Nat := 512 * 2 ^ s.getF .ATU_CFG_FPCSEL 0
/-- au per fret and au per offset unit (Table 2-2). -/
def State.fretAu (s : State) : Nat := 2 ^ 32 / s.fpc
def State.unitAu (s : State) : Nat := s.fretAu / 65536
/-- The grid angle in au. -/
def State.angle (s : State) : Nat := s.atu.acc / 65536 % 2 ^ 32
/-- The angle since the start of the fret. -/
def State.inFret (s : State) : Nat := s.angle % s.fretAu
/-- The fret-in-cycle index (R51). -/
def State.fic (s : State) : Nat := s.angle / s.fretAu
def State.fretnum (s : State) : Nat := s.getF .ATU_FRETNUM_FRETNUM 0

/-- The angle has reached offset `o` of the fret in progress. -/
def State.offReached (s : State) (o : Nat) : Bool := decide (o * s.unitAu ≤ s.inFret)

/-- One second in units of 2^-29 ns. -/
def secUnits : Nat := 1000000000 * 2 ^ 29

/-- PTP cycles: the clock adds TIME_INC with carry into the seconds (R370). -/
def ClockSt.cycle (c : ClockSt) (inc : Nat) : ClockSt :=
  let n := c.nsf + inc
  { sec := (c.sec + n / secUnits) % 2 ^ 48, nsf := n % secUnits }

/-- The PTP cycles within `k` FAB cycles from `tick`: 5 in 8 (R26). -/
def ptpCycles (tick k : Nat) : Nat := (tick + k) * 5 / 8 - tick * 5 / 8

/-- The station clock runs: the PTP clock runs and the HOST domain is powered. -/
def State.clockRuns (s : State) : Bool := s.ptpRuns && s.powered 9

/-- `k` FAB cycles of the time counters: the cycle count, the carrier accumulator (R177) and the station clock. -/
def State.spend (s : State) (k : Nat) : State :=
  { s with
    tick := s.tick + k,
    carrier := if s.getF .MOD_STAT_ENST 0 = 0 then s.carrier else (s.carrier + k * s.getF .MOD_TCINC_CINC 0) % 2 ^ 32,
    clock := if s.clockRuns then s.clock.cycle (ptpCycles s.tick k * s.getF .TIME_INC_INC 0) else s.clock }

/-- The accumulator value of the next fret threshold. -/
def State.nextThreshold (s : State) : Nat := (s.fic + 1) * s.fretAu * 65536

/-- The accumulator with what a due boundary has beyond its threshold. -/
def State.accFull (s : State) : Nat := s.atu.acc + s.atu.past

/-- The FAB cycles until the accumulator equals or passes `thr`. -/
def State.cyclesTo (s : State) (thr : Nat) : Nat :=
  let f := max 1 (s.getF .ATU_FREQ_FREQ 0)
  (thr - s.accFull + f - 1) / f

/-- The angle advances by `x`, in units of the accumulator.  It stays short of the next fret threshold until the boundary is performed;
`past` keeps the rest, so that no part of an addition is lost. -/
def State.addAngle (s : State) (x : Nat) : State :=
  let t := s.accFull + x
  { s with atu := { s.atu with acc := min (s.nextThreshold - 1) t, past := t - min (s.nextThreshold - 1) t } }

/-- `k` additions of the frequency word (R45). -/
def State.addFreq (s : State) (k : Nat) : State := s.addAngle (k * s.getF .ATU_FREQ_FREQ 0)

/-- A fret threshold has been reached, and its boundary not performed yet. -/
def State.boundaryDue (s : State) : Bool := decide (s.nextThreshold ≤ s.accFull)

/-- Brings the angle up to offset `o` of the fret in progress, if it lies behind (an event at a threshold): to the first FAB cycle in
which the angle equals or passes it (R45, R71). -/
def State.raiseAngle (s : State) (o : Nat) : State :=
  if s.offReached o then s
  else
    let k := s.cyclesTo ((s.fic * s.fretAu + o * s.unitAu) * 65536)
    (s.addFreq k).spend k

/-- Serial order of fret numbers (R50): `a` is later than `b`. -/
def serialLater (a b : Nat) : Bool :=
  let d := (a + 2 ^ 32 - b) % 2 ^ 32
  decide (0 < d ∧ d < 2 ^ 31)

/-! ENST (Table 1-6). -/

def enstOff : Nat := 0
def enstOn : Nat := 1
def enstDraining : Nat := 2

def State.atuOn (s : State) : Bool := s.getF .ATU_STAT_ENST 0 == enstOn
/-- The angle runs, so that thresholds and boundaries occur. -/
def State.atuRuns (s : State) : Bool := s.atuOn && s.fabRuns

/-- Brings the block up to FAB cycle `t`, if it lies behind (an event whose instant the state fixes). -/
def State.passTo (s : State) (t : Nat) : State :=
  let k := t - s.tick
  (if s.atuRuns then s.addFreq k else s).spend k

/-! Tasks. -/

/-- The deadline threshold of the engine's task has been reached (R142). -/
def State.dlPassed (s : State) (n : Fin 24) : Bool :=
  s.fretnum != (s.ce[n]).sfret.toNat || s.offReached (s.ce[n]).deadline

/-- The FAB cycle in progress reaches the deadline threshold, or an earlier one has (R134): s_dl still counts from the last cycle that
ended. -/
def State.dlReaches (s : State) (n : Fin 24) : Bool :=
  s.dlPassed n || (s.atuRuns &&
    decide ((s.fic * s.fretAu + (s.ce[n]).deadline * s.unitAu) * 65536 ≤ s.accFull + s.getF .ATU_FREQ_FREQ 0))

/-- s_dl: the angle left to the deadline threshold (Table 3-2). -/
def State.sDl (s : State) (n : Fin 24) : Nat :=
  if s.dlPassed n then 0 else (s.ce[n]).deadline * s.unitAu - s.inFret

/-- DLQ's count of engine cycles to the deadline (R133). -/
def State.cyclesLeft (s : State) (n : Fin 24) : Nat := s.sDl n * 163840 / s.getF .ATU_FREQ_FREQ 0

def State.running (s : State) (n : Fin 24) : Bool := s.bit .CE_STAT_RUNNING n
def State.halted (s : State) (n : Fin 24) : Bool := s.bit .CE_STAT_HALTED n

/-- Sets the CEn request latch of the trip fabric (R274). -/
def State.swTrip (s : State) (n : Fin 24) : State := s.orF .TRIP_LAT1_SW 0 n

/-- A debug halt of an engine (R146). -/
def State.debugHalt (s : State) (n : Fin 24) : State := s.setF .CE_STAT_HALTED n 1

/-- The first engine cycle that begins at or after the end of FAB cycle `tick`: 2.5 engine cycles to a FAB cycle, with an edge of both
clocks at the even ones (R132; the phase is a DESIGN CHOICE, log entry 43). -/
def engineCycle (tick : Nat) : Nat := (tick * 5 + 1) / 2

/-- The cycle, in the count of the task's timing, in which an instruction issues first after the present FAB cycle (R71, R89, R132). -/
def State.wakeCycle (s : State) (n : Fin 24) : Nat := engineCycle s.tick - engineCycle (s.ce[n]).startTick - 1

/-- The cycle, in the count of the task's timing, that an end by the FAB clock falls in. -/
def State.elapsed (s : State) (n : Fin 24) : Nat := max (s.ce[n]).tm.last (s.wakeCycle n)

/-! Activation (R149, R151, R152): the part that acts when no masked engine runs. -/

/-- The staging bank. -/
def State.stgBank (s : State) (n : Nat) : Nat := 1 - s.getF .CE_STAT_ACTBANK n

def State.actMasked (s : State) (n : Nat) : Bool := s.testF .CE_ACTMASK_MASK 0 n
def State.actList (s : State) : List (Fin 24) := (List.finRange 24).filter (fun n => s.actMasked n)

/-- One engine's bank toggles, and the unit lists change over (R152). -/
def State.toggleBank (s : State) (n : Fin 24) : State :=
  let held := (s.ce[n]).actUnits
  let shown := Vector.ofFn (fun (m : Fin 4) => BitVec.ofNat 32 (s.getF .CE_STGREQ_REQ (n * 4 + m)))
  let s1 := forIdx (n := 4) (fun m t => t.setF .CE_STGREQ_REQ (n * 4 + m) (held[m]).toNat) s
  (s1.setF .CE_STAT_ACTBANK n (s.stgBank n)).modCe n (fun e =>
    { e with actUnits := shown, actArb := e.stgArb, stgArb := e.actArb, actHash := e.stgHash, stgHash := e.actHash })

/-- The activation of the masked engines, whose tasks have ended (R152). -/
def State.actSwap (s : State) : State :=
  let s0 := s.actList.foldl (fun t n => t.toggleBank n) s
  let s1 := { s0 with sec := { s0.sec with engPend := some ((s.actList.map (fun (n : Fin 24) => (s.ce[n]).stgArb)).foldl max 0), engAt := s.tick } }
  let mask := BitVec.ofNat 24 (s.getF .CE_ACTMASK_MASK 0)
  let s2 := { s1 with pmc := { s1.pmc with actDue := s1.pmc.actDue &&& ~~~mask, actAny := s1.pmc.actAny || mask != 0#24 } }
  ((s2.setF .CE_ACTCTRL_GO 0 0).setF .CE_ACTSTAT_PEND 0 0).setF .CE_ACTSTAT_DONE 0 1

/-- Every masked engine is OFF. -/
def State.actAllOff (s : State) : Bool := s.actList.all (fun n => s.getF .CE_STAT_ENST n == enstOff)

/-- A pending activation takes effect once every masked engine is OFF (R151). -/
def State.actOffDone (s : State) : State := if s.bit .CE_ACTSTAT_PEND 0 && s.actAllOff then s.actSwap else s

/-- The end of a task in cycle `cyc` of its timing (R114): LASTCYC and MAXCYC count from the first issue, NOCOMMIT without an accepted
COMMIT, and OFF for a DRAINING engine. -/
def State.endTask (s : State) (n : Fin 24) (cyc : Nat) : State :=
  let len := cyc - (s.ce[n]).tm.first.getD cyc
  let s1 := (s.setBit .CE_STAT_RUNNING n false).setF .CE_LASTCYC_LAST n len
  let s2 := s1.setF .CE_MAXCYC_MAX n (max (s.getF .CE_MAXCYC_MAX n) (len % 2 ^ 32))
  let s3 := s2.setWhen (!(s.ce[n]).committed) .CE_CSTAT_NOCOMMIT n 1
  let s4 := s3.setWhen (s.getF .CE_STAT_ENST n == enstDraining) .CE_STAT_ENST n enstOff
  (s4.modCe n (fun e => { e with waitf := none, endDue := 0 })).actOffDone

/-- The exception causes (Table 3-17). -/
def xIllegal : Nat := 1
def xIfetch : Nat := 2
def xAlign : Nat := 3
def xAccess : Nat := 4
def xEccI : Nat := 5
def xEccD : Nat := 6
def xBreak : Nat := 7

/-- An exception at `pc` (R106, R108): recorded unless a record is held, counted, the software trip with XTRIP, and the end
of the task. -/
def State.exception (s : State) (n : Fin 24) (cause : Nat) (pc info : Word) (cyc : Nat) : State :=
  let s1 := s.countF .CE_XCNT_XCOUNT n 1
  let s2 := if s.bit .CE_XCAUSE_VALID n then s1 else
    ((((s1.setF .CE_XCAUSE_VALID n 1).setF .CE_XCAUSE_FRETLO n (s.ce[n]).sfret.toNat).setF .CE_XCAUSE_CAUSE n cause).setF
      .CE_XPC_PC n pc.toNat).setF .CE_XINFO_INFO n info.toNat
  let s3 := if s.bit .CE_XCFG_XTRIP n then s2.swTrip n else s2
  s3.endTask n cyc

/-- What performing an instruction gives: a new state with the target of a taken branch and the latency of a blocking access
(0 for none), or an exception with its CEn_XINFO. -/
inductive Res where
  | done (s : State) (pc : Option Word) (block : Nat)
  | exc (cause : Nat) (info : Word)

/-- The engine can issue an instruction: a task runs, it is not halted and no WAITF waits. -/
def State.canIssue (s : State) (n : Fin 24) : Bool :=
  s.engOk n && s.fabRuns && s.running n && !s.halted n && (s.ce[n]).waitf.isNone

/-- Where the engine fetches its next instruction. -/
def State.fetchAddr (s : State) (n : Fin 24) : Nat := 0x20000000 + n * 0x100000 + 0x10000 * s.getF .CE_STAT_ACTBANK n + (s.ce[n]).pc.toNat

/-- The fetch raises no exception: it lies in the bank, and its word can be read (R94, R105). -/
def State.fetchOk (s : State) (n : Fin 24) : Bool := decide ((s.ce[n]).pc.toNat < 0x6000) && !s.badWord (s.fetchAddr n)

/-- The exception of a fetch (R105, R107): past the bank, or of a word that cannot be read. -/
def State.fetchFault (s : State) (n : Fin 24) : Option State :=
  let e := s.ce[n]
  if 0x6000 ≤ e.pc.toNat then some (s.exception n xIfetch 0x5FFC#32 0x6000#32 e.tm.next)
  else if s.badWord (s.fetchAddr n) then some (s.exception n xEccI e.pc e.pc e.tm.next)
  else none

/-- A corrected word of a fetch is counted (R94); the error stays in the word (DESIGN CHOICE, log entry 53). -/
def State.countFetch (s : State) (n : Fin 24) : State :=
  if s.softWord (s.fetchAddr n) then s.countF .CE_XCNT_ECCCOR n 1 else s

/-- One instruction of engine `n` (R88, R89, R94, R106, R107).  `i` is the
instruction, whose word and legality come from Decode, `eff` is its effect given the issue cycle.  An engine that cannot issue ignores the command (log entry 5). -/
def issue (n : Fin 24) (pr : BitVec 4) (u : Use) (i : Instr) (eff : Nat → State → Res) (s : State) : State :=
  if s.canIssue n then
    let e := s.ce[n]
    let perf := e.predTrue pr
    let t := e.tm.issueAt pr perf u
    match s.fetchFault n with
    | some t => t
    | none =>
      let s0 := (s.countFetch n).modCe n (fun e => e.settle t)
      if !i.legal then s0.exception n xIllegal e.pc i.word t
      else if !perf then
        s0.modCe n (fun e => { e with pc := e.pc + 4#32, tm := e.tm.after t false u 0 })
      else
        match eff t s0 with
        | .exc cause info => s0.exception n cause e.pc info t
        | .done s' npc block =>
          s'.modCe n (fun e' => { e'.dueFlags (t + u.resultLat) with pc := npc.getD (e.pc + 4#32), tm := e'.tm.after t true u block })
  else s

/-- The effect of a register instruction: an update of the engine alone. -/
def regEff (n : Fin 24) (f : Eng → Eng) : Nat → State → Res := fun _ s => .done (s.modCe n f) none 0

/-- The effect that writes one result and raises its flags. -/
def resultEff (n : Fin 24) (rd : BitVec 5) (r : Eng → Word × NFlags) : Nat → State → Res :=
  regEff n (fun e => (e.writeG rd (r e).1).raise (r e).2)

/-! Pegs (R131, R161). -/

/-- PEGn_STATE as a word (Table 5-5). -/
def Peg.word (p : Peg) : Word :=
  BitVec.ofNat 32 (b2n p.held * 2 ^ 31 + b2n p.broken * 2 ^ 30 + p.holder % 64 * 2 ^ 24 + p.brkBy % 64 * 2 ^ 16 + p.acqCnt.toNat)

/-- PEGA by agent `ag`: the new peg and the code of Table 4-8. -/
def Peg.acquire (p : Peg) (ag : Nat) : Peg × Word :=
  if p.held then (p, if p.holder = ag then 3#32 else 2#32)
  else ({ p with held := true, holder := ag, acqCnt := p.acqCnt + 1#16 }, if p.broken then 1#32 else 0#32)

/-- PEGR by agent `ag`. -/
def Peg.release (p : Peg) (ag : Nat) : Peg × Word :=
  if p.held ∧ p.holder = ag then ({ p with held := false, broken := false, holder := 0x3F }, 0#32) else (p, 4#32)

/-- PEGRK by agent `ag`. -/
def Peg.releaseBroken (p : Peg) (ag : Nat) : Peg × Word :=
  if p.held ∧ p.holder = ag then ({ p with held := false, broken := true, holder := 0x3F, brkBy := ag }, 0#32) else (p, 4#32)

/-- A reset of agent `ag` breaks the pegs it holds (R162). -/
def Peg.breakFor (p : Peg) (ag : Nat) : Peg :=
  if p.held ∧ p.holder = ag then { p with held := false, broken := true, holder := 0x3F, brkBy := ag } else p

def State.breakPegs (s : State) (ag : Nat) : State := { s with pegs := s.pegs.map (fun p => p.breakFor ag) }

/-- The control-plane address of a peg's words. -/
def pegAddr (k : Nat) : Nat := 0x107FF000 + 16 * k

/-! Engine memory regions (Table 5-2). -/

def ceBase (n : Nat) : Nat := 0x20000000 + n * 0x100000
def ceData (n : Nat) : Nat := ceBase n + 0x80000
def ceBank (n bank : Nat) : Nat := ceBase n + 0x10000 * bank
def ceEntry (n bank : Nat) : Nat := ceBank n bank + 0x6000

/-- S of R160 in SSM cycles for an engine. -/
def State.wssmS (s : State) (n : Fin 24) : Nat :=
  let own : Nat := if n.val < 12 then 0 else 1
  let ports : List (Fin 10) := List.finRange 10
  let w := fun (j : Nat) => match j with
    | 0 => s.getF .ARB_WGT0_W0 0 | 1 => s.getF .ARB_WGT0_W1 0 | 2 => s.getF .ARB_WGT0_W2 0 | 3 => s.getF .ARB_WGT0_W3 0
    | 8 => s.getF .ARB_WGT2_W8 0 | 9 => s.getF .ARB_WGT2_W9 0
    | k => s.getF .ARB_WGT1_W7W4 0 / 2 ^ (8 * (k - 4)) % 256
  let len := fun (j : Nat) => match j with | 0 => 1 | 1 => 1 | 2 => 16 | 3 => 16 | 8 => 16 | 9 => 16 | _ => 4
  let c := s.arb.credit.toList.getD own 0 - 11
  let wc := w own
  ports.foldl (fun (a : Nat) (j : Fin 10) =>
    if j.val = own then a
    else a + (if c ≤ w j.val then w j.val - c + len j.val else 0) + (if wc ≤ w j.val then w j.val - wc + len j.val else 0))
    (max 1 (s.getF .ARB_HOLD_HOLD 0) + 11)

/-- The bound of W_SSM in engine cycles: ceil(1.25 S). -/
def State.wssmBound (s : State) (n : Fin 24) : Nat := (s.wssmS n * 5 + 3) / 4

/-- Draws W_SSM: within its bound where R160 says that the bound holds, and free where S exceeds 1,024. -/
def State.ssmLatency (s : State) (n : Fin 24) : Nat × State :=
  let d := s.draw
  (14 + if s.wssmS n ≤ 1024 then d.1.toNat % (s.wssmBound n + 1) else d.1.toNat, d.2)

/-- Draws W_REG, at most 28 (R138). -/
def State.regLatency (s : State) : Nat × State :=
  let d := s.draw
  (10 + d.1.toNat % 29, d.2)

/-! ECC counts. -/

/-- A corrected read of the engine's memory (R94).  Whether the corrected word is written back is open: the model leaves the error in the word
until the word is written, so that each further read counts again (DESIGN CHOICE, log entry 53). -/
def State.countSoftCe (s : State) (n : Fin 24) (a : Nat) : State :=
  if s.softWord a then s.countF .CE_XCNT_ECCCOR n 1 else s
/-- A corrected read of the SSM (R155). -/
def State.countSoftSsm (s : State) (a : Nat) : State := if s.softWord a then s.countF .SSM_ECCCNT_COR 0 1 else s
/-- An uncorrectable word of the SSM was met (R155). -/
def State.countBadSsm (s : State) (a : Nat) : State :=
  (s.countF .SSM_ECCCNT_UNC 0 1).setF .SSM_ECCADDR_ADDR 0 (a / 4 * 4)

end Sys2Proof.Machine
end

