-- ==== Sys2Proof/Machine/Modulation.lean ====
section
/-! DEFINITION. The modulation unit: arm configuration, the close, the level functions, the edge filter, the DAB limits and
the Cell Balancing Sorter (R167 to R191). -/
namespace Sys2Proof.Machine

/-! Arms (R167 to R170). -/

/-- The lane of position `p` of arm `a`. -/
def State.armLane (s : State) (a p : Nat) : Nat :=
  let i := a * 8 + p / 4
  match p % 4 with
  | 0 => s.getF .ARM_MAP_LANE0 i | 1 => s.getF .ARM_MAP_LANE1 i | 2 => s.getF .ARM_MAP_LANE2 i | _ => s.getF .ARM_MAP_LANE3 i

def State.armNcell (s : State) (a : Nat) : Nat := s.getF .ARM_CFG_NCELL a

/-- The member lanes in position order. -/
def State.members (s : State) (a : Nat) : List Nat := (List.range (min 32 (s.armNcell a))).map (s.armLane a)

def State.armLive (s : State) (a : Nat) : Bool := s.getF .ARM_STAT_ENST a != enstOff

/-- The arms that govern a lane: they map it and are not OFF (R169). -/
def State.governors (s : State) (lane : Nat) : List Nat :=
  (List.range 6).filter (fun a => s.armLive a && (s.members a).contains lane)

/-- The lane is mapped in some arm. -/
def State.mapped (s : State) (lane : Nat) : Bool := (List.range 6).any (fun a => (s.members a).contains lane)

/-- R168: the arm's configuration is invalid. -/
def State.armBad (s : State) (a : Nat) : Bool :=
  let l := s.members a
  !s.engOk (s.getF .ARM_CFG_OWNER a) || s.armNcell a == 0 || decide (32 < s.armNcell a) ||
  l.any (fun x => !s.laneOk x) || !decide l.Nodup ||
  (List.range 6).any (fun b => b != a && s.armLive b && (s.members b).any (fun x => l.contains x))

/-- The configuration check (R168). -/
def State.armCheck (s : State) (a : Nat) : State := s.setWhen (s.armBad a) .ARM_STAT_CFGERR a 1

/-! Planner records (R185). -/

def LaneSt.clearPlan (l : LaneSt) : LaneSt := { l with level := 0, lastEdge := none, phil := 0 }

/-- R185 for one arm. -/
def State.planResetArm (s : State) (a : Fin 6) : State :=
  let m := s.members a
  let s1 := { s with lanes := s.lanes.mapFinIdx (fun i l _ => if m.contains i then l.clearPlan else l) }
  s1.setF .ARM_DEF_DEF a 0

/-- R185 for all arms; conversions in progress are abandoned. -/
def State.planResetAll (s : State) : State :=
  let s1 := { s with lanes := s.lanes.map LaneSt.clearPlan, arms := s.arms.map (fun x => { x with conv := none }) }
  forIdx (n := 6) (fun a t => t.setF .ARM_DEF_DEF a 0) s1

/-! Level functions (R175 to R179). -/

def sat31 (v : Int) : Int := max (-(2 ^ 31)) (min (2 ^ 31 - 1) v)

/-- The positions in service, and the in-service index of each (R170). -/
def Conv.inService (c : Conv) : List Nat := (List.range c.ncell).filter (fun p => !c.mask.testBit p)
def Conv.nIn (c : Conv) : Nat := c.inService.length

/-- R(x) (R175). -/
def Conv.ref (c : Conv) (x : Nat) : Int := sat31 (c.refs + c.d + ((c.refe - c.refs) * x).fdiv c.f)

/-- Rq: the reference with the cell's trim (R176). -/
def Conv.refTrim (c : Conv) (trim : Int) (x : Nat) : Int := sat31 (c.ref x + trim * 2 ^ 16)

/-- The unwrapped carrier phase of in-service index `q` in APSC or TPSC (R176, R177). -/
def Conv.phase (c : Conv) (q x : Nat) : Nat :=
  let base := c.cph + q * 2 ^ 32 / c.nIn
  if c.mode = 0 then c.k * (c.a0 + x) + base
  else (c.tcb + c.cinc * c.f * 65536 / c.freq) % 2 ^ 32 + c.cinc * x * 65536 / c.freq + base

/-- The triangular carrier. -/
def carrierAt (u : Nat) : Int := (((u % 2 ^ 32 : Nat) : Int) - 2 ^ 31).natAbs

/-- The level of a carrier mode. -/
def Conv.carLevel (c : Conv) (q : Nat) (trim : Int) (x : Nat) : Int :=
  let r := c.refTrim trim x
  let t := carrierAt (c.phase q x)
  if t < r then 1 else if t < -r then -1 else 0

/-- Bounds of the carrier for phases in [u, v]. -/
def carrierBounds (u v : Nat) : Int × Int :=
  if 2 ^ 32 ≤ v - u then (0, 2 ^ 31)
  else
    let a := carrierAt u
    let b := carrierAt v
    -- a multiple of 2^32 in the range is a maximum, an odd multiple of 2^31 a minimum
    let hasMax := decide ((u + 2 ^ 32 - 1) / 2 ^ 32 * 2 ^ 32 ≤ v)
    let hasMin := decide ((u + 2 ^ 32 - 1 + 2 ^ 31) / 2 ^ 32 * 2 ^ 32 ≤ v + 2 ^ 31)
    (if hasMin then 0 else min a b, if hasMax then 2 ^ 31 else max a b)

/-- The carrier level is the same at every offset of [x, y], by bounds alone. -/
def Conv.carConst (c : Conv) (q : Nat) (trim : Int) (x y : Nat) : Bool :=
  let r1 := c.refTrim trim x
  let r2 := c.refTrim trim y
  let lo := min r1 r2
  let hi := max r1 r2
  let b := carrierBounds (c.phase q x) (c.phase q y)
  decide (b.2 < lo) || decide (b.2 < -hi) || (decide (hi ≤ b.1) && decide (-lo ≤ b.1))

/-- The arm level of NLM (R178). -/
def Conv.nlm (c : Conv) (x : Nat) : Int :=
  let n : Int := c.nIn
  max (-n) (min n ((c.ref x * n + 2 ^ 30).fdiv (2 ^ 31)))

/-- The level of the cell at in-service rank `r` in NLM. -/
def Conv.nlmLevel (c : Conv) (r x : Nat) : Int :=
  let l := c.nlm x
  if (r : Int) < l.natAbs then (if l < 0 then -1 else 1) else 0

/-- The level function of position `p` and its constancy test. -/
def Conv.levelOf (c : Conv) (p : Nat) (trim : Int) : (Nat → Int) × (Nat → Nat → Bool) :=
  if !c.inService.contains p || c.mode = 3 then (fun _ => 0, fun _ _ => true)
  else if c.mode = 2 then
    let r := (c.order.filter (fun x => c.inService.contains x)).idxOf p
    (c.nlmLevel r, fun x y => decide (c.nlm x = c.nlm y))
  else
    let q := c.inService.idxOf p
    (c.carLevel q trim, c.carConst q trim)

/-! Edges (R180 to R184). -/

/-- An edge: from, to, offset. -/
structure Edge where
  src : Int
  dst : Int
  x : Nat
deriving DecidableEq, Repr

/-- The candidate edges at the offsets of (lo, hi], in order. -/
def edgesIn (lam : Nat → Int) (const : Nat → Nat → Bool) : Nat → Nat → Nat → List Edge
  | 0, _, _ => []
  | fuel + 1, lo, hi =>
    if hi ≤ lo then []
    else if hi = lo + 1 then (if lam lo = lam hi then [] else [⟨lam lo, lam hi, hi⟩])
    else if const lo hi then []
    else
      let mid := (lo + hi) / 2
      edgesIn lam const fuel lo mid ++ edgesIn lam const fuel mid hi

/-- The candidate edges of the planned fret for a cell at level `start` (R180). -/
def candidates (lam : Nat → Int) (const : Nat → Nat → Bool) (start : Int) (f : Nat) : List Edge :=
  (if lam 0 = start then [] else [⟨start, lam 0, 0⟩]) ++ edgesIn lam const 26 0 (f - 1)

/-- The state of the filter: kept edges newest first, the deficit, and the SHIFT and DROP counts. -/
structure Filt where
  kept : List Edge
  deficit : Int
  shifts : Nat
  drops : Nat
deriving DecidableEq, Repr

/-- The shift of a first edge that lies too close to the last kept edge of the earlier fret (R181): `none` when it is lost. -/
def Filt.first (minau f : Nat) (lastx : Option Int) (e : Edge) (t : Filt) : Filt :=
  match lastx with
  | some l =>
    if (e.x : Int) - l < minau then
      let s := l + minau
      if (f : Int) ≤ s then { t with deficit := t.deficit + (e.dst - e.src) * ((f : Int) - e.x), shifts := t.shifts + 1 }
      else { t with kept := [{ e with x := s.toNat }], deficit := t.deficit + (e.dst - e.src) * (s - e.x),
                    shifts := t.shifts + 1 }
    else { t with kept := [e] }
  | none => { t with kept := [e] }

/-- One candidate through the loop of R181, on the kept edges `kept`, newest first. -/
def Filt.push (minau f : Nat) (lastx : Option Int) : List Edge → Edge → Filt → Filt
  | [], e, t => Filt.first minau f lastx e { t with kept := [] }
  | d :: rest, e, t =>
    if minau ≤ e.x - d.x then { t with kept := e :: d :: rest }
    else
      let t1 := { t with deficit := t.deficit + (d.dst - e.dst) * ((e.x : Int) - d.x), drops := t.drops + 1 }
      if d.src = e.dst then { t1 with kept := rest }
      else Filt.push minau f lastx rest ⟨d.src, e.dst, d.x⟩ t1

/-- R181 over all candidates. -/
def filterEdges (minau f : Nat) (lastx : Option Int) (cs : List Edge) : Filt :=
  cs.foldl (fun t e => Filt.push minau f lastx t.kept e t) ⟨[], 0, 0, 0⟩

/-- The deficit of the edges dropped by the cap: sum of (e_j.to − e_4.to) × (x_(j+1) − x_j) (R182). -/
def capDeficit (to4 : Int) (f : Nat) : List Edge → Int
  | [] => 0
  | [e] => (e.dst - to4) * ((f : Int) - e.x)
  | e :: e' :: t => (e.dst - to4) * ((e'.x : Int) - e.x) + capDeficit to4 f (e' :: t)

/-- The edge record of Table 6-2. -/
def Edge.record (e : Edge) : Word :=
  BitVec.ofNat 32 ((if e.dst = 1 then 1 else if e.dst = -1 then 3 else 0) * 2 ^ 30 + e.x % 2 ^ 24)

/-- The plan of one cell: its kept edges in order, the deficit and whether it was capped. -/
structure CellPlan where
  edges : List Edge
  deficit : Int
  shifts : Nat
  drops : Nat
  capped : Bool
deriving DecidableEq, Repr

def Conv.planCell (c : Conv) (p : Nat) (l : LaneSt) (ew1 : Word) : CellPlan :=
  let lv := c.levelOf p (ew1.extractLsb' 16 16).toInt
  let t := filterEdges c.minau c.f (l.lastEdge.map (fun e => e - (c.absStart : Int))) (candidates lv.1 lv.2 l.level c.f)
  let k := t.kept.reverse
  let k4 := k.take 4
  let to4 := (k4.getLast?.map Edge.dst).getD 0
  ⟨k4, t.deficit + capDeficit to4 c.f (k.drop 4), t.shifts, t.drops, decide (4 < k.length)⟩

/-- The lane's record after its plan. -/
def LaneSt.planned (l : LaneSt) (c : Conv) (pl : CellPlan) : LaneSt :=
  match pl.edges.getLast? with
  | some e => { l with level := e.dst, lastEdge := some ((c.absStart : Int) + e.x) }
  | none => l

/-! DAB commands (R191). -/

/-- The step of R191: the new EW0, the new PHIL and whether the word changed. -/
def dabStep (slew phimax : Nat) (phil : Int) (ew0 : Word) : Word × Int × Bool :=
  let phi := (ew0.extractLsb' 16 16).toInt
  let dab := ew0.getLsbD 0
  let req := if dab then phi else 0
  let pm : Int := if phimax ≤ 0x7FFF then phimax else 0x7FFF
  let o1 := max (phil - slew) (min (phil + slew) req)
  let out := max (-pm) (min pm o1)
  let en := dab || decide (phil ≠ 0)
  (BitVec.ofInt 16 out ++ 0#15 ++ (if en then 1#1 else 0#1), out, decide (out ≠ phi) || (en != dab))

/-! The close (R172, R173, R183, R190). -/

/-- The ranking in use, completed for the present NCELL (R190). -/
def completeOrder (ranking : Option (List Nat)) (ncell : Nat) : List Nat :=
  match ranking with
  | none => List.range ncell
  | some r =>
    let named := r.filter (fun p => decide (p < ncell))
    named ++ (List.range ncell).filter (fun p => !named.contains p)

/-- FPCSEL in effect for the next fret (R53, R173). -/
def State.nextFpcsel (s : State) : Nat :=
  if s.bit .ATU_STAT_FPCPEND 0 ∧ s.fic + 1 = s.fpc then s.atu.fpcNew else s.getF .ATU_CFG_FPCSEL 0

/-- The arm takes its inputs for fret k+1. -/
def State.armInputs (s : State) (a : Fin 6) : Conv :=
  let x := s.arms[a]
  let w := x.launch
  let fpc := 512 * 2 ^ s.nextFpcsel
  let f := 2 ^ 32 / fpc
  let ncell := s.armNcell a
  let mask := s.getF .ARM_BYPASS_BYP a ||| w[4].toNat
  let nIn := ((List.range ncell).filter (fun p => !mask.testBit p)).length
  let deficit := (BitVec.ofNat 32 (s.getF .ARM_DEF_DEF a)).toInt
  let d : Int := if w[2].getLsbD 8 ∨ nIn = 0 then 0 else (deficit * 2 ^ 32 + nIn * f).fdiv (2 * nIn * f)
  let freq := s.getF .ATU_FREQ_FREQ 0
  { fret := BitVec.ofNat 32 s.fretnum, refs := w[0].toInt, refe := w[1].toInt, mode := w[2].toNat % 4,
    cph := w[3].toNat, d := d, freq := freq, f := f,
    a0 := (s.fic + 1) % s.fpc * f, absStart := s.atu.absStart + s.fretAu,
    minau := (s.getF .MOD_CFG_MINP 0 * freq + 163839) / 163840,
    k := max 3 (s.getF .ARM_CFG_K a), tcb := s.getF .MOD_TCB_TCB 0, cinc := s.getF .MOD_TCINC_CINC 0,
    ncell := ncell, mask := mask, order := completeOrder x.ranking ncell,
    lanes := (s.members a).map (fun n => (n, (s.lanes.toList.getD n {}).launch[0], (s.lanes.toList.getD n {}).launch[1])) }

def State.modOn (s : State) : Bool := s.getF .MOD_STAT_ENST 0 == enstOn

/-- The close of an arm at its owner's deadline threshold with an accepted COMMIT (R168, R172, R183); nothing is converted in the
MUTE state (R275), and a device that does not command leaves DEF as it is (R412). -/
def State.armClose (s : State) (a : Fin 6) : State :=
  if s.modOn && s.getF .ARM_STAT_ENST a == enstOn then
    if s.armBad a then s.setF .ARM_STAT_CFGERR a 1
    else if s.mstate then s
    else (s.modArm a (fun x => { x with conv := some (s.armInputs a) })).setWhen s.commanding .ARM_DEF_DEF a 0
  else s

/-- The settings under which an arm's items complete: those of the write of EN = 0 while they drain, else the present ones (R38). -/
def State.modNow (s : State) (a : Fin 6) : ModSet :=
  ⟨s.getF .ARM_CFG_OWNER a, s.getF .ARM_CBSRES_ADDR a, s.getF .MOD_DABLIM_SLEW 0, s.getF .MOD_DABLIM_PHIMAX 0⟩
def State.modSettings (s : State) (a : Fin 6) : ModSet := (s.arms[a]).kept.getD (s.modNow a)

/-- The plan of one member lane applied: its edges, its records and EW0 (R184, R191); the records are kept where the device does
not command (R412). -/
def State.planLane (s : State) (a : Fin 6) (c : Conv) (p : Nat) (m : Nat × Word × Word) : State × Int :=
  if h : m.1 < 96 then
    let n : Fin 96 := ⟨m.1, h⟩
    let l := s.lanes[n]
    let pl := c.planCell p l m.2.2
    let set := s.modSettings a
    let dab := dabStep set.slew set.phimax l.phil m.2.1
    let l1 := { (if s.commanding then { l.planned c pl with phil := dab.2.1 } else l) with
      edges := pl.edges.map Edge.record, convFret := some c.fret, convArm := a, launch := l.launch.set 0 dab.1 }
    let s1 := (((s.modLane n (fun _ => l1)).countF .ARM_CNT_SHIFT a pl.shifts).countF .ARM_CNT_DROP a pl.drops).countF
      .ARM_CNT_CAP a (b2n pl.capped)
    (s1.countF .ARM_CNT2_DABCLIP a (b2n dab.2.2), pl.deficit)
  else (s, 0)

/-- All member lanes in position order, summing the deficit. -/
def State.planLanes (s : State) (a : Fin 6) (c : Conv) : Nat → List (Nat × Word × Word) → Int → State × Int
  | _, [], d => (s, d)
  | p, m :: t, d =>
    let r := s.planLane a c p m
    r.1.planLanes a c (p + 1) t (d + r.2)

/-- The completion of a conversion (R174, R183, R184): the member lanes get their edges and DEF the new deficit. -/
def State.armConverted (s : State) (a : Fin 6) : State :=
  match (s.arms[a]).conv with
  | none => s
  | some c =>
    let r := s.planLanes a c 0 c.lanes 0
    let lim : Int := c.nIn * c.f
    let d := max (-lim) (min lim r.2)
    let s1 := (r.1.setWhen s.commanding .ARM_DEF_DEF a (BitVec.ofInt 32 d).toNat).setF .ARM_STAT_CONV a 1
    let s2 := s1.modArm a (fun x => { x with conv := none })
    s2.setWhen (s.getF .ARM_STAT_ENST a == enstDraining) .ARM_STAT_ENST a enstOff

/-- A conversion or a sort of the modulation unit is in progress. -/
def State.modBusy (s : State) : Bool := s.arms.toList.any (fun a => a.conv.isSome || a.running.isSome)

/-- A DRAINING unit whose last item has ended is OFF (R38). -/
def State.modDrained (s : State) : State :=
  s.setWhen (s.getF .MOD_STAT_ENST 0 == enstDraining && !s.modBusy) .MOD_STAT_ENST 0 enstOff

/-- ARM_CONVERSION_DONE (R174). -/
def execArmConversionDone (a : Fin 6) (s : State) : Out := .next (if s.fabRuns then (s.armConverted a).modDrained else s)

/-! The Cell Balancing Sorter (R186 to R190). -/

/-- The group and key of one position (R187). -/
def State.sortKey (s : State) (a : Fin 6) (mask p : Nat) : Nat × Nat :=
  let rx := (s.lanes.toList.getD (s.armLane a p) {}).rx
  let kw := s.getF .MOD_CFG_KEYW 0
  let w := (rx.tw.toList.getD (if kw < 12 then kw else 0) 0#32).toNat
  let key := if s.bit .MOD_CFG_KEYH 0 then w / 65536 else w % 65536
  (if mask.testBit p then 2 else if rx.state = 1 then 0 else 1, key)

/-- A SEND to ARW7 with REQ = 1 (R186, R189): it replaces a queued request. -/
def State.sortRequest (s : State) (a : Fin 6) (w : Word) : State :=
  if s.modOn && s.getF .ARM_STAT_ENST a == enstOn then
    let mask := s.getF .ARM_BYPASS_BYP a ||| ((s.arms[a]).work[4]).toNat
    let req : SortReq := ⟨w.toNat / 65536, w.getLsbD 8, s.armNcell a, (List.range (min 32 (s.armNcell a))).map (s.sortKey a mask)⟩
    s.modArm a (fun x => { x with queued := some req })
  else s

/-- Insertion that keeps equal keys in order. -/
def rankInsert (le : Nat × Nat → Nat × Nat → Bool) (x : Nat × Nat) : List (Nat × Nat) → List (Nat × Nat)
  | [] => [x]
  | y :: t => if le x y then x :: y :: t else y :: rankInsert le x t

def rankSort (le : Nat × Nat → Nat × Nat → Bool) : List (Nat × Nat) → List (Nat × Nat)
  | [] => []
  | x :: t => rankInsert le x (rankSort le t)

/-- The ranking of R187: the valid positions by key, then the others in service, then the bypassed ones. -/
def SortReq.rank (r : SortReq) : List Nat :=
  let pos := (List.range r.keys.length).zip r.keys
  let g := fun (k : Nat) => pos.filter (fun x => x.2.1 == k)
  let le := fun (x y : Nat × Nat) => if r.asc then decide (x.2 ≤ y.2) else decide (y.2 ≤ x.2)
  (rankSort le ((g 0).map (fun x => (x.1, x.2.2)))).map Prod.fst ++ (g 1).map Prod.fst ++ (g 2).map Prod.fst

def SortReq.nvalid (r : SortReq) : Nat := (r.keys.filter (fun x => x.1 == 0)).length

/-- CBS_SORT_START (R189): the queued request enters the network of a unit that is ON (R38). -/
def execCbsSortStart (a : Fin 6) (s : State) : Out :=
  .next (match (s.arms[a]).queued, (s.arms[a]).running with
    | some r, none => if s.modOn && s.fabRuns then s.modArm a (fun x => { x with queued := none, running := some r }) else s
    | _, _ => s)

/-- The result block in the owner's data RAM, 9 words with fresh check bits (R94, R188, Table 6-3). -/
def State.writeSort (s : State) (a : Fin 6) (r : SortReq) : State :=
  let set := s.modSettings a
  let base := ceData set.owner + set.addr * 64
  let ranks := (List.range 32).map (fun i => BitVec.ofNat 8 (r.rank.getD i 0xFF))
  let w := r.tag * 65536 + r.nvalid * 256 + r.ncell
  ((s.setList base ranks).setBytes (base + 0x20) w 4).freshRange base 36

/-- The sort in the network completes: its block is written, and the ranking counts from then on (R188, R190). -/
def State.sortDone (s : State) (a : Fin 6) : State :=
  match (s.arms[a]).running with
  | some r => (s.writeSort a r).modArm a (fun x => { x with running := none, ranking := some r.rank })
  | none => s

/-- CBS_SORT_DONE (R188, R190). -/
def execCbsSortDone (a : Fin 6) (s : State) : Out := .next (if s.fabRuns then (s.sortDone a).modDrained else s)

/-- The unit reset of the modulation unit (R40, R169, R185). -/
def State.modReset (s : State) : State :=
  let s1 := ((s.setF .MOD_CTRL_EN 0 0).setF .MOD_STAT_ENST 0 enstOff).planResetAll
  let s2 := { s1 with arms := s1.arms.map (fun x => { x with queued := none, running := none, kept := none }) }
  forIdx (n := 6) (fun a t => t.setF .ARM_STAT_ENST a (if t.bit .ARM_CFG_EN a then enstOn else enstOff)) s2

/-- MOD_URST: refused in S4 with DISERR (R169, Table 6-8). -/
def execModUrst (s : State) : Out :=
  .next (if !s.fabBus then s else if s.inS4 then s.setF .MOD_STAT_DISERR 0 1 else s.modReset)

end Sys2Proof.Machine
end

