-- ==== Sys2Proof/Machine/Image.lean ====
section
/-! DEFINITION. Engine execution: enable, drain and unit reset of an engine, image banks, activation, the SSM arbiter and the
peg reads (R136 to R166). -/
namespace Sys2Proof.Machine

/-! Enable, drain and unit reset (R37 to R40, R145 to R147). -/

/-- The general disable of a unit (R38): DRAINING while a work item is in progress, else OFF. -/
def enstAfterOff (busy : Bool) : Nat := if busy then enstDraining else enstOff

/-- Writing EN = 1 to an engine (R39). -/
def State.ceEnable (s : State) (n : Fin 24) : State :=
  ((s.setF .CE_CTRL_EN n 1).setF .CE_STAT_ENST n enstOn).modCe n (fun e => { e with missTrip := none })

/-- Writing EN = 0 to an engine: a task that has committed or passed its deadline ends at once, another drains (R145).  R146 names the ABORT
and the overrun end: that this end acts during a debug halt as well is the model's choice (DESIGN CHOICE, log entry 53). -/
def State.ceDisable (s : State) (n : Fin 24) : State :=
  let s1 := s.setF .CE_CTRL_EN n 0
  if s.running n then
    let s2 := (s1.setF .CE_STAT_ENST n enstDraining).modCe n (fun e => { e with missTrip := some (s.bit .CE_CTRL_MISSTRIP n) })
    if (s.ce[n]).committed || s.dlPassed n then s2.endTask n (s.elapsed n) else s2
  else (s1.setF .CE_STAT_ENST n enstOff).actOffDone

/-- What a unit reset clears in an engine (R80, R147): its registers, and what waits in its task.  What an accepted COMMIT released stays
due: the task's fret and deadline close the arms (R172). -/
def Eng.unitReset (e : Eng) : Eng :=
  { e with
    g := Vector.replicate 32 0#32, acc := Vector.replicate 4 0#72, p := Vector.replicate 8 false, flags := 0#7, flagQ := [],
    waitf := none, endDue := 0, tm := {} }

/-- A reset of the engine's domain: what describes the images in its banks alone stays. -/
def Eng.powerReset (e : Eng) : Eng :=
  { actUnits := e.actUnits, actArb := e.actArb, stgArb := e.stgArb, actHash := e.actHash, stgHash := e.stgHash }

/-- The unit reset of an engine (R80, R147, R162): the task ends without a record, the registers and EN are cleared, its pegs
break.  That it ends a debug halt too is the model's choice (DESIGN CHOICE, log entry 53). -/
def State.ceReset (s : State) (n : Fin 24) : State :=
  let s1 := (((s.setF .CE_CTRL_EN n 0).setF .CE_STAT_ENST n enstOff).setF .CE_STAT_RUNNING n 0).setF .CE_STAT_HALTED n 0
  ((s1.modCe n (fun e => e.unitReset)).breakPegs n).actOffDone

/-- CE_URST (R147). -/
def execCeUrst (n : Fin 24) (s : State) : Out := .next (if s.ceLive n && s.fabBus then s.ceReset n else s)

/-! Task starts, deadlines and the overrun end (R71, R72, R141 to R146). -/

/-- The word at offset `k` of row `r` of fret-table copy `c` (R66). -/
def fretRowAddr (c r : Nat) : Nat := 0x40058000 + c * 0x4000 + r * 0x100
def State.rowWord (s : State) (c r k : Nat) : Nat := (s.word (fretRowAddr c r + k)).toNat
/-- PLEN of copy `c`: 2^PLENSEL, with 0b111 as 0b110 (Table 2-29). -/
def State.plen (s : State) (c : Nat) : Nat := 2 ^ min 6 (s.getF .FRET_PLEN_PLENSEL c)

/-- The dispatcher skips the start (R72). -/
def State.skipStart (s : State) (n : Fin 24) : State := (s.orF .FRET_SKIPMASK_SKIP 0 n).countF .FRET_SKIPCNT_COUNT 0 1

/-- A task begins at entry `k` with its row's deadline (R141): no valid entry raises IFETCH at the start.  The entry is read through the check
bits of R94; that an uncorrectable one raises ECC_I, with the addresses that R141 gives an invalid one, is the model's choice (DESIGN
CHOICE, log entry 53). -/
def State.beginTask (s : State) (n : Fin 24) (k dl : Nat) : State :=
  let at_ := ceEntry n (s.getF .CE_STAT_ACTBANK n) + 4 * k
  let w := (s.word at_).toNat
  let addr := w % 65536
  let s1 := ((s.countSoftCe n at_).setF .CE_STAT_RUNNING n 1).modCe n (fun e => { e.rebase (engineCycle s.tick - engineCycle e.startTick) with
    pc := BitVec.ofNat 32 addr, sfret := BitVec.ofNat 32 s.fretnum, sfic := s.fic, sentry := BitVec.ofNat 4 k, deadline := dl,
    committed := false, dlDone := false, endDue := 0, waitf := none, startTick := s.tick })
  if s.badWord at_ then s1.exception n xEccI 0x6000#32 0x6000#32 0
  else if w < 2 ^ 31 then s1.exception n xIfetch 0x6000#32 0x6000#32 0
  else if addr % 4 ≠ 0 ∨ 0x6000 ≤ addr then s1.exception n xIfetch 0x6000#32 (BitVec.ofNat 32 addr) 0
  else s1

/-- TASK_START: the start offset of an enabled TASKA of the row in dispatch is reached (R71, R72).  Below S3 engines run no task (Table 17-1):
that such a start counts as skipped is the model's choice (DESIGN CHOICE, log entry 53). -/
def execTaskStart (n : Fin 24) (s : State) : Out :=
  .next (match s.fretd.row with
    | none => s
    | some (c, r) =>
      let ta := s.rowWord c r (8 * n)
      if ta < 2 ^ 31 ∨ s.fretd.started.getLsbD n = true ∨ s.atuRuns = false then s
      else
        let s0 := s.raiseAngle (ta % 65536)
        let s1 := { s0 with fretd := { s0.fretd with started := s0.fretd.started ||| BitVec.ofNat 24 (2 ^ n.val) } }
        if !s.engOk n || !s.tasksRun || s.getF .CE_STAT_ENST n != enstOn || s.running n || s.halted n then s1.skipStart n
        else s1.beginTask n (ta / 2 ^ 24 % 16) (s.rowWord c r (8 * n + 4) % 65536))

/-- MISSTRIP as it acts on the task: a DRAINING one keeps that of the write of EN = 0 (R38). -/
def State.missTrip (s : State) (n : Fin 24) : Bool :=
  if s.getF .CE_STAT_ENST n = enstDraining then (s.ce[n]).missTrip.getD (s.bit .CE_CTRL_MISSTRIP n) else s.bit .CE_CTRL_MISSTRIP n

/-- A deadline miss recorded (R142). -/
def State.recordMiss (s : State) (n : Fin 24) : State :=
  let s1 := (s.setF .CE_STAT_MISS n 1).countF .CE_MISSCNT_COUNT n 1
  if s.missTrip n then s1.swTrip n else s1

/-- The threshold of a running task without an accepted COMMIT: the miss, and the end under ABORT or while DRAINING; while
halted the end falls due (R142, R145, R146).  R146 names the ABORT and the overrun end; that the end of a DRAINING task under RUNON waits
for the resume too is the model's choice (DESIGN CHOICE, log entry 43). -/
def State.missDeadline (s : State) (n : Fin 24) : State :=
  let s1 := s.recordMiss n
  if s.getF .CE_CTRL_MISSMODE n == 0 || s.getF .CE_STAT_ENST n == enstDraining then
    if s.halted n then s1.modCe n (fun e => { e with endDue := 1 }) else s1.endTask n (s.elapsed n)
  else s1

/-- The arms whose owner is engine `n` and whose launch copy its task released for the fret in progress (R172). -/
def State.armsToClose (s : State) (n : Fin 24) : List (Fin 6) :=
  (List.finRange 6).filter (fun a => s.getF .ARM_CFG_OWNER a == n.val &&
    (s.arms[a]).released == some (BitVec.ofNat 32 s.fretnum))

/-- DEADLINE_THRESHOLD of the task that this fret started on the engine (R142, R145, R172). -/
def execDeadlineThreshold (n : Fin 24) (s : State) : Out :=
  .next (let e := s.ce[n]
    if s.atuRuns && s.fretd.started.getLsbD n && e.sfret == BitVec.ofNat 32 s.fretnum && !e.dlDone then
      let s1 := (s.raiseAngle e.deadline).modCe n (fun e => { e with dlDone := true })
      let s2 := if s.running n && !e.committed then s1.missDeadline n else s1
      (s.armsToClose n).foldl (fun t a => t.armClose a) s2
    else s)

/-- The end of a running task by R144 or R152. -/
def State.overrunEnd (s : State) (n : Fin 24) : State := (s.setF .CE_STAT_OVREND n 1).endTask n (s.elapsed n)

/-- R144 for one engine at the boundary that begins the fret in progress.  Where an enable of the ATU or a join with the twin has renumbered
the frets under a running task, the model ends it at the first boundary whose number is not s_fret or s_fret + 1 (DESIGN CHOICE, log entry
43). -/
def State.overrunCheck (s : State) (n : Fin 24) : State :=
  if s.running n && !decide ((s.fretnum + 2 ^ 32 - (s.ce[n]).sfret.toNat) % 2 ^ 32 < 2) then
    if s.halted n then s.modCe n (fun e => { e with endDue := 2 }) else s.overrunEnd n
  else s

/-- An engine resumes: an end that fell due takes effect first, and the next instruction issues in a cycle after the resume (R146). -/
def State.resumeEngine (s : State) (n : Fin 24) : State :=
  let s1 := (s.setF .CE_STAT_HALTED n 0).modCe n (fun e => { e with tm := { e.tm with next := max e.tm.next (s.wakeCycle n) } })
  match (s.ce[n]).endDue with
  | 0 => s1
  | 1 => s1.endTask n (s.elapsed n)
  | _ => s1.overrunEnd n

/-- DEBUG_RESUME, of an engine under the grant's level ENGINE, of a supervisory core under SYSTEM (R481). -/
def execDebugResume (x : HaltTarget) (s : State) : Out :=
  .next (match x with
    | .engine n => if s.halted n && s.debugLevel.testBit 0 && s.fabRuns then s.resumeEngine n else s
    | .sup k =>
      if s.debugLevel.testBit 1 && s.aonRuns then { s with sec := { s.sec with halted := s.sec.halted &&& ~~~(BitVec.ofNat 4 (2 ^ k.val)) } } else s)

/-! Image banks and activation (R148 to R153). -/

def State.actBusy (s : State) : Bool := s.bit .CE_ACTSTAT_VALIDATING 0 || s.bit .CE_ACTSTAT_PEND 0

/-- The offset lies in an instruction bank or entry table; the bank (Table 5-2). -/
def bankOf (off : Nat) : Option Nat :=
  if off < 0x6040 then some 0 else if 0x10000 ≤ off ∧ off < 0x16040 then some 1 else none

/-- R148: a control-plane write of `k` bytes into a bank or entry table.  In Minimal Mode no engine image is loaded (R447): that such a write
has no effect then, nor a GO, is read from it (DEDUCED, log entry 45). -/
def State.writeBank (s : State) (n : Fin 24) (off v k : Nat) : State :=
  match bankOf off with
  | none => s
  | some b =>
    if s.bit .PMC_STAGE_MINIMAL 0 then s
    else if b = s.getF .CE_STAT_ACTBANK n then s.setF .CE_STAT_IWRACT n 1
    else if s.actBusy && s.actMasked n then s.setF .CE_STAT_IWRPEND n 1
    else (((s.setBytes (ceBase n + off) v k).freshWord (ceBase n + off))).setF .CE_STAT_STGOK n 0

/-- IMAGE_BANK_WRITE: a word at offset `off` from the engine's base. -/
def execImageBankWrite (n : Fin 24) (off : BitVec 17) (w : Word) (s : State) : Out :=
  .next (if s.ceLive n && s.fabBus && decide (off.toNat % 4 = 0) then s.writeBank n off.toNat w.toNat 4 else s)

/-- SYS_CAPm (Table 0-7). -/
def State.cap (s : State) (m : Nat) : Nat := s.variant.cap m

/-- CODE 2 for one masked engine: it is absent or its image uses an absent unit. -/
def State.actMissing (s : State) (n : Nat) : Bool :=
  !s.engOk n || (List.range 4).any (fun m => decide (s.getF .CE_STGREQ_REQ (n * 4 + m) &&& s.cap m ≠ s.getF .CE_STGREQ_REQ (n * 4 + m)))

/-- CODE 4 for one masked engine. -/
def State.actBadEntry (s : State) (n : Nat) : Bool :=
  (List.range 16).any (fun k =>
    let w := (s.word (ceEntry n (s.stgBank n) + 4 * k)).toNat
    decide (2 ^ 31 ≤ w) && (decide (w % 4 ≠ 0) || decide (0x6000 ≤ w % 65536)))

/-- The activation takes effect at once (R151): the ATU or every masked engine is OFF. -/
def State.actAtOnce (s : State) : Bool :=
  !s.atuOn || s.actAllOff

/-- The fret named has begun or passed (R50). -/
def State.fretLate (s : State) (at_ : Nat) : Bool := !serialLater at_ s.fretnum

/-- The failure code of an activation, 0 for none (R151). -/
def State.actCode (s : State) : Nat :=
  let l := s.actList
  if l.any (fun n => s.actMissing n) then 2
  else if l.any (fun n => s.engOk n && !s.bit .CE_STAT_STGOK n) then 1
  else if s.bit .CE_ACTCTRL_MODE 0 && !s.actAtOnce && s.fretLate (s.getF .CE_ACTAT_AT 0) then 3
  else if l.any (fun n => s.actBadEntry n) then 4
  else 0

/-- The activation takes effect (R152): the masked engines' tasks are ended first, those of engines halted by debug too, at once (R146 names
the ABORT and the overrun end alone: DESIGN CHOICE, log entry 53). -/
def State.activate (s : State) : State :=
  (s.actList.foldl (fun t n => if t.running n then t.overrunEnd n else t) (s.setF .CE_ACTSTAT_PEND 0 0)).actSwap

/-- A pending activation that no longer has a boundary to wait for (R151). -/
def State.actOffCheck (s : State) : State := if s.bit .CE_ACTSTAT_PEND 0 && s.actAtOnce then s.activate else s

/-- Step 2 of a boundary for the activation (R152). -/
def State.actBoundary (s : State) : State :=
  if s.bit .CE_ACTSTAT_PEND 0 && (!s.bit .CE_ACTCTRL_MODE 0 || s.getF .CE_ACTAT_AT 0 == s.fretnum) then s.activate else s

/-- A write to CE_ACTCTRL: MODE and GO (R151, R153, R447). -/
def State.writeActCtrl (s : State) (mode go : Bool) : State :=
  if s.bit .PMC_STAGE_MINIMAL 0 then s
  else if s.actBusy then (if mode != s.bit .CE_ACTCTRL_MODE 0 then s.setF .CE_ACTSTAT_WRPEND 0 1 else s)
  else
    let s1 := s.setBit .CE_ACTCTRL_MODE 0 mode
    let due := s1.pmc.actDue ||| BitVec.ofNat 24 (s.getF .CE_ACTMASK_MASK 0)
    if go then (({ s1 with pmc := { s1.pmc with actDue := due } }).setF .CE_ACTCTRL_GO 0 1).setF .CE_ACTSTAT_VALIDATING 0 1 else s1

/-- ACT_GO: GO = 1 written with MODE. -/
def execActGo (mode : Bool) (s : State) : Out := .next (if s.fabBus then s.writeActCtrl mode true else s)

/-- ACT_VALIDATED: the validation completes (R151). -/
def execActValidated (s : State) : Out :=
  .next (if s.bit .CE_ACTSTAT_VALIDATING 0 && s.fabRuns then
    let c := s.actCode
    let s1 := s.setF .CE_ACTSTAT_VALIDATING 0 0
    if c ≠ 0 then ((s1.setF .CE_ACTSTAT_ERR 0 1).setF .CE_ACTSTAT_CODE 0 c).setF .CE_ACTCTRL_GO 0 0
    else if s.actAtOnce then s1.activate
    else s1.setF .CE_ACTSTAT_PEND 0 1
  else s)

/-! The arbiter (R156 to R159). -/

/-- The weight of requester `j`. -/
def State.weight (s : State) (j : Nat) : Nat :=
  match j with
  | 0 => s.getF .ARB_WGT0_W0 0 | 1 => s.getF .ARB_WGT0_W1 0 | 2 => s.getF .ARB_WGT0_W2 0 | 3 => s.getF .ARB_WGT0_W3 0
  | 8 => s.getF .ARB_WGT2_W8 0 | 9 => s.getF .ARB_WGT2_W9 0
  | k => s.getF .ARB_WGT1_W7W4 0 / 2 ^ (8 * (k - 4)) % 256

/-- ARB_HOLD.HOLD; 0 acts as 1. -/
def State.holdLimit (s : State) : Nat := max 1 (s.getF .ARB_HOLD_HOLD 0)

/-- The raised requesters: those given, the rest of cut transactions, and a cluster port only with a present engine waiting. -/
def State.raisedReq (s : State) (raised : BitVec 10) (engines : BitVec 24) : List (Fin 10) :=
  let waits := fun (lo : Nat) => (List.range 12).any (fun k => s.engOk (lo + k) && engines.getLsbD (lo + k))
  (List.finRange 10).filter (fun j => (raised ||| s.arb.cut).getLsbD j &&
    (match j.val with | 0 => waits 0 | 1 => waits 12 | _ => true))

/-- The requester granted: the highest credit, a tie to the lowest index (R157). -/
def bestOf (credit : Fin 10 → Nat) : List (Fin 10) → Option (Fin 10)
  | [] => none
  | j :: t => match bestOf credit t with
    | none => some j
    | some k => if credit k ≤ credit j then some j else some k

/-- The engine a cluster port serves: round-robin from the one after the last (R159). -/
def State.nextEngine (s : State) (lo last : Nat) (engines : BitVec 24) : Nat :=
  ((List.range 12).map (fun k => lo + (last - lo + 1 + k) % 12)).find? (fun n => s.engOk n && engines.getLsbD n) |>.getD last

/-- The SSM cycle, of which two make a FAB cycle, from which the next grant can hold (R157). -/
def State.grantFrom (s : State) : Nat :=
  match s.arb.newest with
  | some (_, e) => if 2 * s.tick ≤ e + 1 then e else 2 * s.tick
  | none => 2 * s.tick

/-- SSM_GRANT, once the newest grant has ended: one grant and the cycles its transaction takes; a transaction longer than the hold limit stays in its grant until
HOLD_LIMIT_CUT (R157 to R159). -/
def execSsmGrant (raised : BitVec 10) (engines : BitVec 24) (cycles : Nat) (s : State) : Out :=
  .next (match s.fabRuns, s.arb.grant with
    | false, _ | true, some _ => s
    | true, none =>
      match bestOf (fun j => s.arb.credit[j]) (s.raisedReq raised engines) with
      | none => s
      | some j =>
        let want := if j.val < 2 then 1 else max 1 cycles
        let held := min want s.holdLimit
        let t := s.passTo ((s.grantFrom + 1) / 2)
        let a := s.arb
        { t with arb := { a with
            credit := a.credit.set j (a.credit[j] - held),
            cut := a.cut &&& ~~~(BitVec.ofNat 10 (2 ^ j.val)),
            grant := if held < want then some (j, held) else none,
            newest := some (j, s.grantFrom + held),
            lastA := if j.val = 0 then s.nextEngine 0 a.lastA engines else a.lastA,
            lastB := if j.val = 1 then s.nextEngine 12 a.lastB engines else a.lastB } })

/-- A window starts: every credit is set to its weight, and the cycles that a grant still holds lower the new credit (R157). -/
def State.windowStart (s : State) : State :=
  let full : Vector Nat 10 := Vector.ofFn (fun (j : Fin 10) => s.weight j)
  let credit := match s.arb.newest with
    | none => full
    | some (j, e) => full.set j (full[j] - (e - 2 * s.tick))
  { s with arb := { s.arb with credit := credit, windowAt := s.arb.windowAt + (s.tick - s.arb.windowAt) / 512 * 512 } }

/-- ARB_WINDOW_START: 1,024 SSM cycles, 512 FAB cycles, after the last one (R157). -/
def execArbWindowStart (s : State) : Out := .next (if s.fabRuns then (s.passTo (s.arb.windowAt + 512)).windowStart else s)

/-- HOLD_LIMIT_CUT: the grant that reached HOLD ends incomplete and its rest raises a new request (R158). -/
def execHoldLimitCut (s : State) : Out :=
  .next (match s.fabRuns, s.arb.grant with
    | false, _ | true, none => s
    | true, some (j, _) =>
      let s1 := (s.orF .ARB_VIOL_VIOL 0 j).countF .ARB_VIOLCNT_COUNT 0 1
      { s1 with arb := { s1.arb with grant := none, cut := s1.arb.cut ||| BitVec.ofNat 10 (2 ^ j.val) } })

/-! Reads of the SSM by the engines that carry data (R155). -/

/-- The bytes as they are delivered: those of an uncorrectable word are 0. -/
def State.ssmBytes (s : State) (a k : Nat) : List Byte := (List.range k).map (fun i => if s.badWord (a + i) then 0#8 else s.byte (a + i))

/-- The counts that a read of `k` bytes moves; the error responses of an agent of Table 20-4 are recorded too. -/
def State.ssmCount (s : State) (who : Option Agent) (a k : Nat) : State :=
  (List.range ((a % 4 + k + 3) / 4)).foldl (fun t j =>
    let w := a / 4 * 4 + 4 * j
    if s.badWord w then
      let u := t.countBadSsm w
      match who with
      | some ag => u.busError causeEcc ag w false
      | none => u
    else t.countSoftSsm w) s

/-! Peg reads of SUP0 to SUP3 (R155, R161). -/

/-- One peg operation by a core's read; an uncorrectable peg word is delivered as 0 with an error response. -/
def State.pegRead (s : State) (core : Fin 4) (k : Fin 256) (off : Nat) (op : Peg → Peg × Word) : State :=
  if s.badWord (pegAddr k) then (s.countBadSsm (pegAddr k)).busError causeEcc (.sup core) (pegAddr k + off) false
  else
    let r := op s.pegs[k]
    ((s.countSoftSsm (pegAddr k)).modPeg k (fun _ => r.1)).answer r.2

def execPegAcqRead (core : Fin 4) (k : Fin 256) (s : State) : Out :=
  .next (if s.busRuns && s.coresRun then s.pegRead core k 4 (fun p => p.acquire (0x20 + core)) else s)
def execPegRelRead (core : Fin 4) (k : Fin 256) (s : State) : Out :=
  .next (if s.busRuns && s.coresRun then s.pegRead core k 8 (fun p => p.release (0x20 + core)) else s)
def execPegRelkRead (core : Fin 4) (k : Fin 256) (s : State) : Out :=
  .next (if s.busRuns && s.coresRun then s.pegRead core k 12 (fun p => p.releaseBroken (0x20 + core)) else s)

end Sys2Proof.Machine
end

