-- ==== Sys2Proof/Machine/Place.lean ====
section
/-! DEFINITION. The address map of the control plane (R485), the sizes of accesses (R487), and the accesses of the host DMA (Table 20-2). -/
namespace Sys2Proof.Machine

/-- The start of MRAM (Table 20-1). -/
def mram : Nat := 0x100000000

/-- What lies at a control-plane address (Table 20-1, Table 5-2). -/
inductive Place where
  | rom | ssm | peg | mram | none
  /-- an offset of CEn outside its control registers, and its control registers -/
  | ceMem (n : Fin 24) (off : Nat) | ceReg
  /-- the register space -/
  | reg
deriving DecidableEq, Repr

def placeOf (a : Nat) : Place :=
  if a < 0x40000 then .rom
  else if 0x10000000 ≤ a ∧ a < 0x107FF000 then .ssm
  else if 0x107FF000 ≤ a ∧ a < 0x10800000 then .peg
  else if 0x20000000 ≤ a ∧ a < 0x21800000 then
    if a % 0x100000 / 0x1000 = 0xF0 then .ceReg else .ceMem (Fin.ofNat 24 (a / 0x100000 - 0x200)) (a % 0x100000)
  else if 0x40000000 ≤ a ∧ a < 0x40070000 ∨ 0x40080000 ≤ a ∧ a < 0x40170000 then .reg
  else if mram ≤ a ∧ a < mram + 0x2000000 then .mram
  else .none

/-- The address lies in the register space, mapped or not (Table 20-1). -/
def inRegSpace (a : Nat) : Bool := decide (0x40000000 ≤ a ∧ a < 0x40170000)

/-! Sizes and uncorrectable words. -/

/-- The words that `k` bytes from `a` touch, and whether the word of address `x` lies whole among them. -/
def wordsOf (a k : Nat) : List Nat := (List.range ((a % 4 + k + 3) / 4)).map (fun j => a / 4 * 4 + 4 * j)
def wholeWord (a len x : Nat) : Bool := decide (a ≤ x / 4 * 4 ∧ x / 4 * 4 + 4 ≤ a + len)

/-- The uncorrectable words that an access of `k` bytes meets: a word written whole takes fresh check bits, whatever it held (R94, R155), and
of a peg the state word alone is read (R161). -/
def State.badWords (s : State) (a k : Nat) (wr : Bool) : List Nat :=
  match placeOf a with
  | .peg => if !wr && a % 16 == 0 && s.badWord a then [a] else []
  | .ssm | .ceMem _ _ => (wordsOf a k).filter (fun w => s.badWord w && !(wr && wholeWord a k w))
  | _ => []

/-- The place takes an access of `k` bytes at `a` by the agent (R161, R487): the SSM also transfers of the sizes of Table 5-3, a line of a
core, and a burst of whole words by a DMA (its alignment is a DESIGN CHOICE, log entry 53). -/
def sizeOk (ag : Agent) (a k : Nat) : Bool :=
  let plain := (k == 1 || k == 2 || k == 4) && a % k == 0
  match placeOf a with
  | .reg | .ceReg | .peg => k == 4 && a % 4 == 0
  | .ssm => plain || (decide (a + k ≤ 0x107FF000) && (match ag with
      | .sup _ => k == 64 && a % 64 == 0
      | .dma | .hostDma => decide (1 ≤ k ∧ k ≤ 256) && k % 4 == 0 && a % 4 == 0
      | _ => false))
  | _ => plain

/-! Absent units and stopped clocks (R5, R26). -/

/-- The place belongs to an absent unit (R5). -/
def State.absentAt (s : State) (a : Nat) : Bool :=
  match placeOf a with
  | .ceMem n _ => !s.engOk n
  | .ceReg => !s.engOk (a / 0x100000 - 0x200)
  | .reg =>
    if 0x40080000 ≤ a ∧ a < 0x40098000 then !s.laneOk ((a - 0x40080000) / 0x400)
    else if 0x400B0000 ≤ a ∧ a < 0x400B0C00 then !s.pairOk ((a - 0x400B0000) / 0x80)
    else if 0x400D0000 ≤ a ∧ a < 0x400E0000 then !s.variant.hasDomain domHv
    else if 0x40100000 ≤ a ∧ a < 0x40110000 then !s.portOk ((a - 0x40100000) / 0x4000)
    else 0x40130000 ≤ a && a < 0x40140000 && !s.variant.hasDomain domMir
  | _ => false

/-- The blocks on RC16: PMC, CLK and THERM, VREG and DBG (Table 1-1, Table 18-3). -/
def aonPlace (a : Nat) : Bool :=
  decide (0x40010000 ≤ a ∧ a < 0x40040000) || decide (0x400E0000 ≤ a ∧ a < 0x400F0000) || decide (0x40160000 ≤ a ∧ a < 0x40170000)

/-- SAF's own registers (R361). -/
def safetyPlace (a : Nat) : Bool := decide (0x400F0000 ≤ a ∧ a < 0x40100000)

/-- The agent's clock and that of its way to the place run, debug has not halted it, and no reset holds the place (R26, R435): while SYS is stopped and in S0, the blocks
on RC16 alone are reached, but SAF's registers in S0 too (R440). -/
def State.canAccess (s : State) (ag : Agent) (a : Nat) : Bool :=
  (if aonPlace a then s.aonRuns else if safetyPlace a then s.sysRuns else s.busRuns) && (match ag with | .sup k => s.coresRun && !s.sec.halted.getLsbD k | .dma => s.coresRun | .saf => s.sysRuns | _ => true)

/-- A corrected read of a word is counted where it lies (R94, R155). -/
def State.countSoft (s : State) (a : Nat) : State :=
  match placeOf a with
  | .ssm | .peg => s.countSoftSsm a
  | .ceMem n _ => if s.ceLive n then s.countSoftCe n a else s
  | _ => s

/-- The words of `k` bytes from `a` that a write covers in part are read and corrected first (R94, R155). -/
def State.countPartial (s : State) (a k : Nat) : State :=
  (wordsOf a k).foldl (fun t w => if wholeWord a k w then t else t.countSoft w) s

/-! Numbers as bytes. -/

/-- `k` bytes of a number, least significant first. -/
def leBytes (k v : Nat) : List Byte := (List.range k).map (fun i => BitVec.ofNat 8 (v / 256 ^ i))

/-- The number spelt by bytes, least significant first. -/
def leNat : List Byte → Nat
  | [] => 0
  | b :: t => b.toNat + 256 * leNat t

/-! The host DMA's accesses: frames, descriptors and records (Table 20-2). -/

def ssmBase : Nat := 0x10000000
/-- The address range lies in the SSM outside the peg window. -/
def inSsm (a k : Nat) : Bool := decide (ssmBase ≤ a ∧ a + k ≤ 0x107FF000)

/-- The cause with which an access by the host DMA to byte `x` errs, but for the check bits: it reaches the SSM, of which the pegs take no
transfer of its kind (R161), the engines' memories, and MRAM for reads; a write of the ROM or MRAM is ignored (R486, R487). -/
def State.hostCause (s : State) (x : Nat) (wr : Bool) : Option Nat :=
  if s.absentAt x then none
  else match placeOf x with
    | .ssm => none
    | .peg => some causeWidth
    | .ceMem _ off => if off < 0x90000 then none else some causeUnmapped
    | .mram => none
    | .rom => if wr then none else some causeUnmapped
    | _ => some (if inRegSpace x then causeDmareg else causeUnmapped)

/-- The first byte of a range at which the host DMA's access errs, with the cause. -/
def State.hostErr (s : State) (a k : Nat) (wr : Bool) : Option (Nat × Nat) :=
  (List.range k).findSome? (fun i => (s.hostCause (a + i) wr).map (fun c => (c, a + i)))

/-- A word that the host DMA stores: the ring's header keeps its RO words (Table 15-6), and banks and entry tables follow R148. -/
def State.hostWord (s : State) (w : Nat) (v : Word) : State :=
  match placeOf w with
  | .ssm => if s.ringFixed w then s else (s.setWord w v).freshWord w
  | .ceMem n off =>
    if !s.ceLive n then s
    else if 0x80000 ≤ off ∧ off < 0x90000 then (s.setWord w v).freshWord w
    else s.writeBank n off v.toNat 4
  | _ => s

/-- Writes bytes: whole words take fresh check bits, a word written in part is read and corrected first, and where it cannot be, it is not
stored and the access errs (R94, R155). -/
def State.hostWrite (s : State) (a : Nat) (l : List Byte) : State :=
  match s.hostErr a l.length true with
  | some (c, x) => s.busError c .hostDma x true
  | none =>
    let new := fun (w : Nat) => BitVec.ofNat 32 (leNat ((List.range 4).map (fun i =>
      if a ≤ w + i then l.getD (w + i - a) (s.byte (w + i)) else s.byte (w + i))))
    let bad := s.badWords a l.length true
    let t := (wordsOf a l.length).foldl (fun t w => if bad.contains w then t else t.hostWord w (new w)) (s.countPartial a l.length)
    bad.foldl (fun t w => (if placeOf w = .ssm then t.countBadSsm w else t).busError causeEcc .hostDma w true) t

/-- A byte as it is delivered: of an uncorrectable word, or of a unit that is absent or off, 0. -/
def State.hostByte (s : State) (x : Nat) : Byte :=
  match placeOf x with
  | .ssm => if s.badWord x then 0#8 else s.byte x
  | .ceMem n off => if s.ceLive n && (decide (0x80000 ≤ off) || (bankOf off).isSome) && !s.badWord x then s.byte x else 0#8
  | .mram => s.byte x
  | _ => 0#8

/-- Reads bytes: an uncorrectable word is delivered as 0 with an error response, and nothing is read out of reach (R155, R489). -/
def State.hostRead (s : State) (a k : Nat) : List Byte × State :=
  match s.hostErr a k false with
  | some (c, x) => (List.replicate k 0#8, s.busError c .hostDma x false)
  | none =>
    ((List.range k).map (fun i => s.hostByte (a + i)),
     (wordsOf a k).foldl (fun t w =>
       if (s.badWords w 4 false).isEmpty then t.countSoft w
       else (if placeOf w = .ssm then t.countBadSsm w else t).busError causeEcc .hostDma w false) s)

end Sys2Proof.Machine
end

