-- ==== Sys2Proof/Machine/Lane.lean ====
section
/-! DEFINITION. The physical layer of the lanes: training, link loss, rate, equaliser, electrical idle, test patterns and the
training of the mirror group (R195 to R218). -/
namespace Sys2Proof.Machine

/-! The character sequences (R201, Table 7-3, R247). -/

/-- K28.5, the comma. -/
def chComma : Chr := .k 28 5

/-- TA, TB and their forms as a receiver of the other polarity reads them. -/
def taSet : List Chr := chComma :: List.replicate 15 (.d 10 2)
def taInverted : List Chr := chComma :: List.replicate 15 (.d 21 5)
def tbSet : List Chr := chComma :: List.replicate 15 (.d 5 2)
def tbInverted : List Chr := chComma :: List.replicate 15 (.d 26 5)
/-- IDLE, EIS and FXB. -/
def idleChars : List Chr := [chComma, .d 16 2]
def eisChars : List Chr := (List.replicate 4 [chComma, .k 28 3, .k 28 3, .k 28 3]).flatten
def fxbChars : List Chr := (List.replicate 16 [chComma, .d 10 2]).flatten
/-- A data byte as a character: its low five bits are x of Dx.y. -/
def dataChr (b : Byte) : Chr := .d (Fin.ofNat 32 b.toNat) (Fin.ofNat 8 (b.toNat / 32))
/-- A frame of 63 data bytes as it is sent: character 0 is the start character K27.7 (R219). -/
def frameChars (f : List Byte) : List Chr := .k 27 7 :: f.map dataChr
/-- A MUTE set with the reason of RMASK bit `r`. -/
def muteSet (r : Nat) : List Chr := [.k 28 1, .k 28 1, .d 21 5, .d (Fin.ofNat 32 (r + 1)) 0]

/-- A training set as it arrives: whether it is TB, and whether it arrives inverted. -/
def setKind (cs : List Chr) : Option (Bool × Bool) :=
  if cs = taSet then some (false, false)
  else if cs = taInverted then some (false, true)
  else if cs = tbSet then some (true, false)
  else if cs = tbInverted then some (true, true)
  else none

/-! LSTATE (Table 7-4). -/

def lsOff : Nat := 0
def lsTa : Nat := 1
def lsTb : Nat := 2
def lsUp : Nat := 3
def lsEiEnter : Nat := 4
def lsEidle : Nat := 5
def lsExit : Nat := 6
def lsTest : Nat := 7

def State.lstate (s : State) (n : Fin 96) : Nat := s.getF .CL_PHYSTAT_LSTATE n
def State.laneUp (s : State) (n : Fin 96) : Bool := s.lstate n == lsUp
/-- The lane is present and powered; a write reaches it; its clock runs. -/
def State.laneLive (s : State) (n : Fin 96) : Bool := s.laneOk n && s.powered (if n.val < 48 then domLinka else domLinkb)
def State.laneBus (s : State) (n : Fin 96) : Bool := s.laneLive n && s.busRuns
def State.laneRuns (s : State) (n : Fin 96) : Bool := s.laneLive n && s.quadsRun
/-- The lane launches frames: UP and enabled (R205, R38). -/
def State.serving (s : State) (n : Fin 96) : Bool := s.laneRuns n && s.laneUp n && s.getF .CL_STAT_ENST n == enstOn

/-- The lane is present and enabled, and its clock runs. -/
def State.laneOn (s : State) (n : Fin 96) : Bool := s.laneRuns n && s.getF .CL_STAT_ENST n == enstOn

/-- Sets LSTATE; a lane that leaves UP empties its delay set and drops a requested CLEAR and the launches that a burst held back (R238, R250).
A burst in transmission goes on to its last set (R272). -/
def State.setLstate (s : State) (n : Fin 96) (v : Nat) : State :=
  let s1 := s.setF .CL_PHYSTAT_LSTATE n v
  if s.laneUp n && v != lsUp then
    ((s1.setF .CL_DELAY_VALID n 0).setF .CL_DELAY_DLY n 0).modLane n (fun l =>
      { l with dlyAcc := [], dlyOut := [], dlyWait := false, clrPend := false, heldTb := false, heldDly := false, heldClr := false,
               good := 0, errAt := [] })
  else s1

/-- What a lane repeats in its LSTATE where it sends neither a frame nor a burst: nothing in electrical idle nor without its clock (R455), and
its test data in TEST (Table 7-4). -/
def State.laneSends (s : State) (n : Fin 96) : List Chr :=
  if !s.laneRuns n then [] else
  match s.lstate n with
  | 1 => taSet | 2 => tbSet | 3 => idleChars | 4 => eisChars | 6 => fxbChars ++ idleChars | _ => []

/-- The receive inversion of a lane: RXINV where RXPOLAUTO = 0; else the last decision stands (R202, log entry 45). -/
def State.rxPolarity (s : State) (n : Fin 96) : State :=
  s.setWhen (!s.bit .CL_PHYCTRL_RXPOLAUTO n) .CL_PHYSTAT_RXINVST n (s.getF .CL_PHYCTRL_RXINV n)

/-- CLGRO ends once no masked lane still has a CLEAR to send (R250). -/
def State.clearCheck (s : State) : State :=
  if s.bit .CLG_CTRL_CLRGO 0 && s.lanes.toList.all (fun l => !l.clrPend && !l.heldClr) then
    (s.setF .CLG_CTRL_CLRGO 0 0).setF .CLG_STAT_CLRDONE 0 1
  else s

/-- The lane starts (or restarts) training in state 1 (R202). -/
def State.train (s : State) (n : Fin 96) : State :=
  let s1 := ((s.setLstate n lsTa).modLane n (fun l =>
    { l with trainAt := s.tick, good := 0, inverted := 0, tbGood := 0, tbSent := false })).clearCheck
  s1.rxPolarity n

/-! MUTE bursts (R247, R248, R272). -/

/-- The reasons of the 8 sets of a burst: those of the mask, cycled in increasing bit order. -/
def burstReasons (m : Nat) : List Nat :=
  let rs := (List.range 6).filter (fun b => m.testBit b)
  (List.range 8).map (fun i => rs.getD (i % max 1 rs.length) 0)

/-- The time of one set of four characters in fifths of a FAB cycle: 8 ns, or 16 ns at 2.5 Gbaud. -/
def State.setTime (s : State) (n : Fin 96) : Nat := if s.bit .CL_PHYCTRL_RATE n then 32 else 16

/-- The FAB cycle in which a burst's last set ends. -/
def Burst.endTick (b : Burst) (setTime : Nat) : Nat := (b.since + b.sets.length * setTime + 4) / 5

/-- A burst with the reasons `m` at FAB cycle `tick`: the set that a burst in transmission has begun is completed first, and its
other sets are not sent. -/
def burstAt (old : Option Burst) (tick setTime m : Nat) : Burst :=
  match old with
  | none => ⟨tick * 5, burstReasons m⟩
  | some b =>
    let i := (tick * 5 - b.since) / setTime
    ⟨b.since + min i b.sets.length * setTime, (b.sets.drop i).take 1 ++ burstReasons m⟩

/-- A burst starts: a frame in transmission is cut there, and a COMMAND that was cut is not resent (R255).  The CLEAR of a TIMEBASE that is cut
has not been launched, and follows the burst (R248); a frame takes as long as 16 sets. -/
def LaneSt.startBurst (l : LaneSt) (tick setTime m : Nat) : LaneSt :=
  let cut := decide (tick < l.txEnd)
  let held := decide (l.lastTx.length = 2 ∧ tick + (setTime * 16 + 4) / 5 ≤ l.txEnd)
  { l with burst := some (burstAt l.burst tick setTime m), txCut := l.txCut || cut, txEnd := min tick l.txEnd,
           heldClr := l.heldClr || held, lastTx := if held then l.lastTx.take 1 else l.lastTx,
           cmdFret := if cut && l.lastTx == [l.cmdFrame] then none else l.cmdFret }

def State.burst (s : State) (n : Fin 96) (m : Nat) : State := s.modLane n (fun l => l.startBurst s.tick (s.setTime n) m)

/-- The characters of the last launch, whose last frame a burst may have cut. -/
def LaneSt.txChars (l : LaneSt) : List Chr := (l.lastTx.map frameChars).flatten

/-- The characters of the burst that the lane has still to send from the set in progress on. -/
def LaneSt.burstChars (l : LaneSt) : List Chr :=
  match l.burst with
  | some b => (b.sets.map muteSet).flatten
  | none => []

/-- The lane enters UP: adaptation writes PEAK with a free value (R200), and a lane that comes up in the MUTE state takes it and
sends a burst first (R271). -/
def State.enterUp (s : State) (n : Fin 96) : State :=
  let s1 := (s.setLstate n lsUp).modLane n (fun l => { l with good := 0 })
  let s2 := if s.bit .CL_RXEQ_ADAPT n then
      let d := s1.draw
      d.2.setF .CL_RXEQ_PEAK n d.1.toNat
    else s1
  if s.mstate then (s2.setF .CL_STAT_MUTED n 1).burst n (s.getF .TRIP_RMASK_RMASK 0) else s2

/-- Link loss (R204). -/
def State.linkLost (s : State) (n : Fin 96) : State :=
  ((s.setF .CL_PHYSTAT_LOSS n 1).countF .CL_LINKCNT_LOSSCNT n 1).train n

/-- Code and disparity errors received in UP: each is counted, and 4 within 256 characters are a link loss (R204).  256 characters last
512 ns, or 1,024 ns at 2.5 Gbaud. -/
def State.codeErrors (s : State) (n : Fin 96) (errs : Nat) : State :=
  if errs = 0 || !s.laneUp n then s
  else
    let last := (List.replicate (min 4 errs) s.tick ++ (s.lanes[n]).errAt).take 4
    let s1 := (s.countF .CL_LINKCNT_CODEERR n errs).modLane n (fun l => { l with errAt := last })
    let span := if s.bit .CL_PHYCTRL_RATE n then 2040 else 1020
    if last.length = 4 ∧ last.all (fun t => decide ((s.tick - t) * 5 ≤ span)) = true then s1.linkLost n else s1

/-! Training (R202, R203). -/

/-- A set received in state 1. -/
def LaneSt.taSet (l : LaneSt) (seenInv auto err : Bool) : LaneSt × Bool :=
  if err then ({ l with good := 0, inverted := 0 }, false)
  else if seenInv then
    if auto && decide (3 ≤ l.inverted) then ({ l with good := 4, inverted := 0 }, true)
    else ({ l with good := 0, inverted := l.inverted + 1 }, false)
  else ({ l with good := l.good + 1, inverted := 0 }, false)

/-- A set received in state 2. -/
def LaneSt.tbSet (l : LaneSt) (tb seenInv err : Bool) : LaneSt :=
  { l with tbGood := if tb && !seenInv && !err then l.tbGood + 1 else 0 }

/-- State 2 ends with 8 consecutive TB sets received and 16 sent. -/
def State.tbCheck (s : State) (n : Fin 96) : State :=
  let l := s.lanes[n]
  if s.lstate n == lsTb && decide (8 ≤ l.tbGood) && l.tbSent then s.enterUp n else s

/-- TRAINING_SET_RECEIVED: 16 characters as they arrive at the receiver's input, with their code errors.  Characters of no set restart a
count.  In UP errors count (R204), and two consecutive TA sets without a code error are a link loss. -/
def execTrainingSetReceived (n : Fin 96) (first : Chr) (rest : List Chr) (errs : Nat) (s : State) : Out :=
  .next (
    let kind := setKind (first :: rest)
    let tb := (kind.map Prod.fst).getD false
    let inv := (kind.map Prod.snd).getD false ^^ s.bit .CL_PHYSTAT_RXINVST n
    let err := errs != 0 || kind.isNone
    if !s.laneRuns n then s
    else if s.lstate n == lsTa then
      let r := (s.lanes[n]).taSet inv (s.bit .CL_PHYCTRL_RXPOLAUTO n) err
      let s1 := (s.modLane n (fun _ => r.1)).setWhen r.2 .CL_PHYSTAT_RXINVST n (1 - s.getF .CL_PHYSTAT_RXINVST n)
      if 8 ≤ r.1.good then (s1.setLstate n lsTb).modLane n (fun l => { l with good := 0, tbGood := 0, tbSent := false }) else s1
    else if s.lstate n == lsTb then (s.modLane n (fun l => l.tbSet tb inv err)).tbCheck n
    else if s.laneUp n then
      if !tb && !inv && !err then
        if 1 ≤ (s.lanes[n]).good then s.linkLost n else s.modLane n (fun l => { l with good := l.good + 1 })
      else (s.modLane n (fun l => { l with good := 0 })).codeErrors n errs
    else s)

/-- TB_SETS_SENT: the 16th TB set has been sent. -/
def execTbSetsSent (n : Fin 96) (s : State) : Out :=
  .next (if s.lstate n == lsTb && s.laneRuns n then (s.modLane n (fun l => { l with tbSent := true })).tbCheck n else s)

/-- LINK_LOSS of a lane in UP, with code and disparity errors that no other event has counted (R204). -/
def execLinkLoss (n : Fin 96) (errs : Nat) (s : State) : Out :=
  .next (if s.laneUp n && s.laneRuns n then (s.countF .CL_LINKCNT_CODEERR n errs).linkLost n else s)

/-- Restarts training, from any state but OFF and TEST (R202, Table 7-6). -/
def State.retrain (s : State) (n : Fin 96) : State :=
  if s.lstate n == lsOff || s.lstate n == lsTest then s else s.train n

def execRetrain (n : Fin 96) (s : State) : Out := .next (if s.laneBus n then s.retrain n else s)

/-- A write of RATE (R196). -/
def State.writeRate (s : State) (n : Fin 96) (rate : Bool) : State :=
  if rate == s.bit .CL_PHYCTRL_RATE n then s
  else if s.inS4 then s.setF .CL_PHYSTAT_RATEERR n 1
  else (s.setBit .CL_PHYCTRL_RATE n rate).retrain n

def execRateWrite (n : Fin 96) (rate : Bool) (s : State) : Out := .next (if s.laneBus n then s.writeRate n rate else s)

/-! Lane enable (Table 7-4, R208, R210). -/

/-- The exit from electrical idle: by FXB after a short idle time, else by full training (R208). -/
def State.exitIdle (s : State) (n : Fin 96) : State :=
  if s.bit .CL_PHYCTRL_FXEN n && decide (s.tick - (s.lanes[n]).idleAt ≤ s.getF .CL_PHYCTRL_IDLEMAX n * 4000) then
    s.setLstate n lsExit
  else s.train n

/-- A lane begins to enter electrical idle: it sends EIS; from UP its receiver goes on (R208). -/
def State.enterIdle (s : State) (n : Fin 96) : State :=
  ((s.setLstate n lsEiEnter).modLane n (fun l => { l with exitDue := false, rxIdle := !s.laneUp n })).clearCheck

/-- The lane receives frames: in UP, and on the way to electrical idle until EIS has come or 1 µs has passed since its own (R208). -/
def State.rxLive (s : State) (n : Fin 96) : Bool :=
  s.laneRuns n && (s.laneUp n || (!(s.lanes[n]).rxIdle && (s.lstate n == lsEiEnter ||
    (s.lstate n == lsEidle && decide (s.tick < (s.lanes[n]).idleAt + 400)))))

/-- The OWNER field names a present engine (R126). -/
def State.ownerOk (s : State) (n : Fin 96) : Bool := s.engOk (s.getF .CL_CFG_OWNER n)

/-- An exit asked for while EIS is being sent follows it (log entry 45). -/
def State.exitLater (s : State) (n : Fin 96) : State :=
  if s.lstate n == lsEiEnter then s.modLane n (fun l => { l with exitDue := true }) else s

/-- Writing EN = 1 to a lane.  R208 names a lane that idles with EIREQ 0; that one which idles with EIREQ 1 exits too, with EIREQ still 1, is the
model's choice (DESIGN CHOICE, log entry 45). -/
def State.laneEnable (s : State) (n : Fin 96) : State :=
  let s1 := ((s.setF .CL_CTRL_EN n 1).setF .CL_STAT_ENST n enstOn).setWhen (!s.ownerOk n) .CL_STAT_OWNERR n 1
  if s.lstate n == lsOff then s1.train n
  else if s.getF .CL_STAT_ENST n != enstOff then s1
  else if s.lstate n == lsEidle then s1.exitIdle n
  else s1.exitLater n

/-- A lane's ENST reaches OFF: outside S4 it enters electrical idle, from training or a fast exit as from UP; in S4 it goes on, to IDLE
(R208, R210). -/
def State.laneReachOff (s : State) (n : Fin 96) : State :=
  let s1 := s.setF .CL_STAT_ENST n enstOff
  let v := s.lstate n
  if !s.inS4 && (v == lsTa || v == lsTb || v == lsUp || v == lsExit) then s1.enterIdle n else s1

/-- A frame or a burst is in transmission. -/
def State.txBusy (s : State) (n : Fin 96) : Bool := decide (s.tick < (s.lanes[n]).txEnd) || (s.lanes[n]).burst.isSome

/-- Writing EN = 0 to a lane: the frame in progress finishes (Table 1-7). -/
def State.laneDisable (s : State) (n : Fin 96) : State :=
  let s1 := s.setF .CL_CTRL_EN n 0
  if s.txBusy n then s1.setF .CL_STAT_ENST n enstDraining else s1.laneReachOff n

/-! Electrical idle (R208 to R210). -/

/-- EIREQ_SET: EIREQ = 1 written.  In a state other than UP it is stored and never acts when the lane reaches UP, and in EI_ENTER it does not
withdraw an exit already asked for (DESIGN CHOICE, log entry 45). -/
def State.eireqSet (s : State) (n : Fin 96) : State :=
  if s.inS4 then s.setF .CL_PHYSTAT_EIERR n 1
  else
    let s1 := s.setF .CL_PHYCTRL_EIREQ n 1
    if s.laneUp n then s1.enterIdle n else s1

def execEireqSet (n : Fin 96) (s : State) : Out := .next (if s.laneBus n then s.eireqSet n else s)

/-- EIREQ = 0 written: an exit, from EIDLE at once. -/
def State.eireqClear (s : State) (n : Fin 96) : State :=
  let s1 := s.setF .CL_PHYCTRL_EIREQ n 0
  if s.lstate n == lsEidle then s1.exitIdle n else s1.exitLater n

def execEireqClear (n : Fin 96) (s : State) : Out := .next (if s.laneBus n then s.eireqClear n else s)

/-- EIS_SENT, after a frame or a burst in transmission (R208, R272): the lane enters EIDLE; in S4 it exits at once (R210), and so it does where an exit was asked for meanwhile. -/
def execEisSent (n : Fin 96) (s : State) : Out :=
  .next (if s.lstate n == lsEiEnter && s.laneRuns n && !s.txBusy n then
    let s1 := (s.setLstate n lsEidle).modLane n (fun l => { l with idleAt := s.tick })
    if s.inS4 then s1.eireqClear n else if (s.lanes[n]).exitDue then s1.exitIdle n else s1
  else s)

/-- EIS_RECEIVED: outside S4 a lane in UP answers with EIS, and its receiver is idle from now on; in S4 it is ignored (R208, R210). -/
def execEisReceived (n : Fin 96) (s : State) : Out :=
  .next (if !s.laneRuns n || s.inS4 then s
    else (if s.laneUp n then s.enterIdle n else s).modLane n (fun l => { l with rxIdle := true }))

/-- FXB_RECEIVED: the partner's complete FXB and a following IDLE (R209). -/
def execFxbReceived (n : Fin 96) (s : State) : Out :=
  .next (if s.lstate n == lsExit && s.laneRuns n then s.enterUp n else s)

/-- FAST_EXIT_TIMEOUT (R209). -/
def execFastExitTimeout (n : Fin 96) (s : State) : Out :=
  .next (if s.lstate n == lsExit && s.laneRuns n then (s.countF .CL_LINKCNT_TRNFAIL n 1).train n else s)

/-! The SerDes registers (R217, R218). -/

/-- The fields of a SerDes's TXEQ and pattern registers, and its instance. -/
structure SerdesFlds where
  i : Nat
  swing : Fld
  post : Fld
  pre : Fld
  loop : Fld
  chkinv : Fld
  geninv : Fld
  chken : Fld
  genen : Fld
  chksel : Fld
  gensel : Fld
  testerr : Fld
  lock : Fld
  lostlk : Fld
  errcnt : Fld

def serdesFlds : Serdes → SerdesFlds
  | .lane n => ⟨n, .CL_TXEQ_SWING, .CL_TXEQ_POST, .CL_TXEQ_PRE, .CL_PATCTRL_LOOP, .CL_PATCTRL_CHKINV, .CL_PATCTRL_GENINV,
      .CL_PATCTRL_CHKEN, .CL_PATCTRL_GENEN, .CL_PATCTRL_CHKSEL, .CL_PATCTRL_GENSEL, .CL_PATSTAT_TESTERR, .CL_PATSTAT_LOCK,
      .CL_PATSTAT_LOSTLK, .CL_PATERR_ERRCNT⟩
  | .mirror m => ⟨m, .ML_TXEQ_SWING, .ML_TXEQ_POST, .ML_TXEQ_PRE, .ML_PATCTRL_LOOP, .ML_PATCTRL_CHKINV, .ML_PATCTRL_GENINV,
      .ML_PATCTRL_CHKEN, .ML_PATCTRL_GENEN, .ML_PATCTRL_CHKSEL, .ML_PATCTRL_GENSEL, .ML_PATSTAT_TESTERR, .ML_PATSTAT_LOCK,
      .ML_PATSTAT_LOSTLK, .ML_PATERR_ERRCNT⟩
  | .host p => ⟨p, .HP_TXEQ_SWING, .HP_TXEQ_POST, .HP_TXEQ_PRE, .HP_PATCTRL_LOOP, .HP_PATCTRL_CHKINV, .HP_PATCTRL_GENINV,
      .HP_PATCTRL_CHKEN, .HP_PATCTRL_GENEN, .HP_PATCTRL_CHKSEL, .HP_PATCTRL_GENSEL, .HP_PATSTAT_TESTERR, .HP_PATSTAT_LOCK,
      .HP_PATSTAT_LOSTLK, .HP_PATERR_ERRCNT⟩

/-- The port's HOST clock runs: from PLL3 in 10GBASE-R, else from PLL2 (Table 18-1). -/
def State.hostRuns (s : State) (p : Fin 4) : Bool := !s.gated.getLsbD (if s.getF .HP_CTRL_MODE p = 0 then 3 else 2) && s.awake

/-- The SerDes is present and powered; a write reaches it; its clock runs. -/
def State.serdesLive (s : State) : Serdes → Bool
  | .lane n => s.laneLive n
  | .mirror _ => s.powered domMir
  | .host p => s.portOk p && s.powered domHost
def State.serdesOk (s : State) (x : Serdes) : Bool := s.serdesLive x && s.busRuns
def State.serdesRuns (s : State) (x : Serdes) : Bool :=
  s.serdesLive x && (match x with | .lane _ => s.quadsRun | .mirror _ => s.mirRuns | .host p => s.hostRuns p)

/-- The generator runs or a loopback is selected: the SerDes is in test mode (R213). -/
def State.testing (s : State) (x : Serdes) : Bool :=
  let f := serdesFlds x
  s.bit f.genen f.i || s.getF f.loop f.i != 0

/-! The mirror group (R206, R207). -/

/-- The mirror lane group sets LSTATE on its lanes; one in test mode stays there (R213). -/
def State.mlAll (s : State) (v : Nat) : State :=
  forIdx (n := 4) (fun m t => if t.testing (.mirror m) then t else t.setF .ML_PHYSTAT_LSTATE m v) s

def State.mirUp (s : State) : Bool := s.bit .MIR_STAT_MIRUP 0

/-- The receive inversion of a mirror lane: RXINV where RXPOLAUTO = 0; else the last decision stands (R206, log entry 45). -/
def State.mirPolarity (s : State) (m : Fin 4) : State :=
  s.setWhen (!s.bit .ML_PHYCTRL_RXPOLAUTO m) .ML_PHYSTAT_RXINVST m (s.getF .ML_PHYCTRL_RXINV m)

/-- Updates one mirror lane's state. -/
def State.modMl (s : State) (m : Fin 4) (f : MlSt → MlSt) : State := { s with ml := s.ml.set m (f s.ml[m]) }

/-- The group starts training; when it leaves UP the delay measurement is void, a pending handover is abandoned, and source 67,
which needs the mirror UP, is no longer asserted (R417, R425, R429). -/
def State.mirTrain (s : State) : State :=
  let s1 := (s.mlAll lsTa).setF .MIR_LANEMAP_UP 0 0
  let s2 := (forIdx (n := 4) (fun m t => t.mirPolarity m) { s1 with ml := s1.ml.map (fun x => { pat := x.pat, trainAt := s.tick }), mlOrdered := false })
  if s.mirUp then
    let s3 := ((s2.setF .MIR_STAT_MIRUP 0 0).setF .MIR_DELAY_VALID 0 0).setF .MIR_DELAY_DLY 0 0
    let s4 := { s3 with twin := { s3.twin with lastUp := s.tick, foreign := false, foreignNow := false, dlyAcc := [], dlyOut := [], heard := false, peerSynced := false, hoFret := none } }
    if s.bit .MIR_CTRL_HANDOVER 0 then (s4.setF .MIR_CTRL_HANDOVER 0 0).setF .MIR_STAT_HOERR 0 1 else s4
  else s2

/-- Before a reset of the mirror logic: the group is UP for the last time (R430). -/
def State.mirDown (s : State) : State := if s.mirUp then { s with twin := { s.twin with lastUp := s.tick } } else s

/-- RETRAIN written to a mirror lane: a group that trains or is UP starts training. -/
def State.mirRetrain (s : State) : State :=
  if (List.finRange 4).all (fun m => s.getF .ML_PHYSTAT_LSTATE m == lsOff || s.getF .ML_PHYSTAT_LSTATE m == lsTest) then s else s.mirTrain

/-- Step 4 of R206: all four lanes are in training and hold 16 good training blocks. -/
def State.mirOrder (s : State) : State :=
  if (List.finRange 4).all (fun m => decide (16 ≤ (s.ml[m]).good) && s.getF .ML_PHYSTAT_LSTATE m == lsTa) then
    let nums := (List.finRange 4).map (fun m => (s.ml[m]).num)
    if nums = [0, 1, 2, 3] then { (s.setF .MIR_LANEMAP_REVERSED 0 0) with mlOrdered := true }
    else if nums = [3, 2, 1, 0] then { (s.setF .MIR_LANEMAP_REVERSED 0 1) with mlOrdered := true }
    else (s.setF .MIR_LANEMAP_ORDERERR 0 1).mirTrain
  else s

/-- A loss on one lane returns the group to training (R207). -/
def State.mirLost (s : State) (m : Fin 4) : State := ((s.setF .ML_PHYSTAT_LOSS m 1).countF .ML_LINKCNT_LOSSCNT m 1).mirTrain

/-- An invalid sync header in UP: it is counted, and 4 within 256 blocks are a loss (R207, R218).  A block lasts 6.4 ns. -/
def State.headerError (s : State) (m : Fin 4) : State :=
  let last := (s.tick :: (s.ml[m]).errAt).take 4
  let s1 := (s.countF .ML_LINKCNT_CODEERR m 1).modMl m (fun x => { x with errAt := last })
  if last.length = 4 ∧ last.all (fun t => decide ((s.tick - t) * 100 ≤ 255 * 256)) = true then s1.mirLost m else s1

/-- The payload of the training blocks that a mirror lane repeats once it has block lock: the marker seven times and its own number (R206). -/
def State.mirSends (s : State) (m : Fin 4) : Option (List Byte) :=
  if s.mirRuns && s.getF .ML_PHYSTAT_LSTATE m == lsTa && (s.ml[m]).locked then some (List.replicate 7 0x5A#8 ++ leBytes 1 m.val) else none

/-- MIRROR_TRAINING_BLOCK_RECEIVED (R206); in UP a block with an invalid sync header (R207). -/
def execMirrorTrainingBlockReceived (m : Fin 4) (b : MirBlock) (s : State) : Out :=
  .next (if !s.serdesRuns (.mirror m) then s
  else if s.getF .ML_PHYSTAT_LSTATE m == lsUp && b == .badHeader then s.headerError m
  else if s.getF .ML_PHYSTAT_LSTATE m == lsTa && !s.mlOrdered then
    let x := s.ml[m]
    match b with
    | .lock => s.modMl m (fun x => { x with locked := true })
    | .bad | .badHeader => s.modMl m (fun x => { x with good := 0, inverted := 0 })
    | .training inv num =>
      if !x.locked then s
      else
        let seen := inv ^^ s.bit .ML_PHYSTAT_RXINVST m
        if seen then
          if s.bit .ML_PHYCTRL_RXPOLAUTO m && decide (15 ≤ x.inverted) then
            (s.modMl m (fun x => { x with good := 0, inverted := 0, num := num })).setF .ML_PHYSTAT_RXINVST m
              (1 - s.getF .ML_PHYSTAT_RXINVST m)
          else s.modMl m (fun x => { x with good := 0, inverted := x.inverted + 1 })
        else
          (s.modMl m (fun x => { x with good := (if x.num = num.val then x.good else 0) + 1, inverted := 0, num := num })).mirOrder
  else s)

/-- MIRROR_GROUP_UP: ordered lanes are deskewed and enter UP; a paired device sends its SIDE (R413). -/
def execMirrorGroupUp (s : State) : Out :=
  .next (if s.mlOrdered && !s.mirUp && s.mirRuns then
    let s0 := if s.bit .MIR_CFG_PAIR 0 then s.queueMir (.side (s.bit .MIR_CFG_SIDE 0)) else s
    let s1 := ((s0.mlAll lsUp).setF .MIR_LANEMAP_UP 0 0xF).setF .MIR_STAT_MIRUP 0 1
    (forIdx (n := 4) (fun m t =>
      if t.bit .ML_RXEQ_ADAPT m then
        let d := t.draw
        d.2.setF .ML_RXEQ_PEAK m d.1.toNat
      else t) s1)
  else s)

/-- MIRROR_LINK_LOSS on one lane: the whole group returns to training (R207). -/
def execMirrorLinkLoss (m : Fin 4) (s : State) : Out :=
  .next (if s.mirUp && s.mirRuns then s.mirLost m else s)

/-- TRNTO x 10 µs in FAB cycles; a TRNTO of 0 acts as 1 (Table 7-8). -/
def trainTime (trnto : Nat) : Nat := max 1 trnto * 4000

/-- The mirror lanes that train, and the FAB cycle in which the first of them has trained for its TRNTO: that the first one ends the group's
attempt is the model's choice (DESIGN CHOICE, log entry 45). -/
def State.mirTraining (s : State) : List (Fin 4) := (List.finRange 4).filter (fun m => s.getF .ML_PHYSTAT_LSTATE m == lsTa)
def State.mirTrainEnd (s : State) : Option Nat :=
  ((s.mirTraining.map (fun (m : Fin 4) => (s.ml[m]).trainAt + trainTime (s.getF .ML_PHYCTRL_TRNTO m)))).min?

/-- TRAINING_TIMEOUT: a lane or the mirror group has not reached UP within TRNTO (R203, R206). -/
def execTrainingTimeout (t : TrainUnit) (s : State) : Out :=
  .next (match t with
    | .lane n =>
      if (s.lstate n == lsTa || s.lstate n == lsTb) && s.laneRuns n then
        ((s.passTo ((s.lanes[n]).trainAt + trainTime (s.getF .CL_PHYCTRL_TRNTO n))).countF .CL_LINKCNT_TRNFAIL n 1).train n
      else s
    | .mirror =>
      match s.mirTrainEnd with
      | some e =>
        if s.mirRuns && s.powered domMir then
          (s.mirTraining.foldl (fun t m => t.countF .ML_LINKCNT_TRNFAIL m 1) (s.passTo e)).mirTrain
        else s
      | none => s)

/-! Equaliser and test patterns (R199, R211 to R214). -/

/-- The main tap C0 (R199). -/
def State.mainTap (s : State) (x : Serdes) : Nat :=
  let f := serdesFlds x
  63 - s.getF f.pre f.i - s.getF f.post f.i

/-- The swing in mV peak-to-peak (Table 7-2). -/
def State.swing (s : State) (x : Serdes) : Nat := 300 + 50 * s.getF (serdesFlds x).swing (serdesFlds x).i

/-- TXINV: the transmitter's output is inverted (Tables 7-8 and 7-12). -/
def State.txInverted (s : State) : Serdes → Bool
  | .lane n => s.bit .CL_PHYCTRL_TXINV n
  | .mirror m => s.bit .ML_PHYCTRL_TXINV m
  | .host _ => false

/-- v(n) of R199 in 1/126 mV, from the bit before, the bit and the bit after, as TXINV gives them. -/
def State.txLevel (s : State) (x : Serdes) (before now after : Bool) : Int :=
  let f := serdesFlds x
  let b := fun (v : Bool) => (if v != s.txInverted x then 1 else -1 : Int)
  (s.mainTap x * b now - s.getF f.pre f.i * b after - s.getF f.post f.i * b before) * s.swing x

/-- A write of a TXEQ register: PRE + POST above 32 is refused (R199).  A host port has no TXEQERR field: there the refusal sets no flag (DESIGN
CHOICE, log entry 45). -/
def State.writeTxeq (s : State) (x : Serdes) (w : Word) : State :=
  let f := serdesFlds x
  let pre := bitsOf w.toNat 6 3
  let post := bitsOf w.toNat 11 7
  if 32 < pre + post then
    match x with
    | .lane n => s.setF .CL_PHYSTAT_TXEQERR n 1
    | .mirror m => s.setF .ML_PHYSTAT_TXEQERR m 1
    | .host _ => s
  else ((s.setF f.swing f.i (bitsOf w.toNat 15 12)).setF f.post f.i post).setF f.pre f.i pre

def execTxeqWrite (x : Serdes) (w : Word) (s : State) : Out := .next (if s.serdesOk x then s.writeTxeq x w else s)

/-- The lane state after its test mode may have begun or ended (R213); the host ports' PSTATE likewise (R364). -/
def State.testFollow (s : State) (x : Serdes) : State :=
  match x with
  | .lane n =>
    if s.testing x then (s.setLstate n lsTest).clearCheck
    else if s.lstate n == lsTest then s.train n
    else s
  | .mirror m =>
    if s.testing x then ((if s.mirUp || s.mlOrdered then s.mirTrain else s).setF .ML_PHYSTAT_LSTATE m lsTest)
    else if s.getF .ML_PHYSTAT_LSTATE m == lsTest then
      (if s.getF .MIR_STAT_ENST 0 == enstOff then s.setF .ML_PHYSTAT_LSTATE m lsTa else s.mirTrain)
    else s
  | .host p =>
    if s.getF .HP_STAT_ENST p == enstOff then s
    else if s.testing x then s.setF .HP_STAT_PSTATE p 4
    else if s.getF .HP_STAT_PSTATE p == 4 then s.setF .HP_STAT_PSTATE p 1
    else s

/-- The pattern unit of a SerDes. -/
def State.pat (s : State) : Serdes → PatSt
  | .lane n => (s.lanes[n]).pat
  | .mirror m => (s.ml[m]).pat
  | .host p => (s.hp[p]).pat

def State.modPat (s : State) (x : Serdes) (f : PatSt → PatSt) : State :=
  match x with
  | .lane n => s.modLane n (fun l => { l with pat := f l.pat })
  | .mirror m => s.modMl m (fun l => { l with pat := f l.pat })
  | .host p => { s with hp := s.hp.set p { s.hp[p] with pat := f (s.hp[p]).pat } }

/-- UPAT0 and UPAT1 as 64 bits, the first sent lowest. -/
def State.userPattern (s : State) : Serdes → Nat
  | .lane n => s.getF .CL_UPAT0_UPAT0 n + s.getF .CL_UPAT1_UPAT1 n * 2 ^ 32
  | .mirror m => s.getF .ML_UPAT0_UPAT0 m + s.getF .ML_UPAT1_UPAT1 m * 2 ^ 32
  | .host p => s.getF .HP_UPAT0_UPAT0 p + s.getF .HP_UPAT1_UPAT1 p * 2 ^ 32

/-- The degree and the second tap of a PRBS (Table 7-5). -/
def prbsTaps (sel : Nat) : Nat × Nat :=
  match sel with
  | 0 => (7, 6) | 1 => (15, 14) | 2 => (23, 18) | _ => (31, 28)

/-- The bit of a PRBS that follows a history: the sum of the bits at its two taps. -/
def prbsNext (sel hist : Nat) : Bool := hist.testBit ((prbsTaps sel).1 - 1) ^^ hist.testBit ((prbsTaps sel).2 - 1)

/-- A history with one more bit, of which the last 256 are kept. -/
def shiftBit (hist : Nat) (b : Bool) : Nat := (hist * 2 + b2n b) % 2 ^ 256

/-- The next bit of a generator, before GENINV (R211). -/
def PatSt.next (p : PatSt) (sel user : Nat) : Bool := if sel = 4 then user.testBit (p.genPos % 64) else prbsNext sel p.gen

/-- `k` bits of a generator, oldest first. -/
def PatSt.generate (sel user : Nat) (inv : Bool) : Nat → PatSt → PatSt × List Bool
  | 0, p => (p, [])
  | k + 1, p =>
    let b := p.next sel user
    let r := PatSt.generate sel user inv k { p with gen := shiftBit p.gen b, genPos := p.genPos + 1 }
    (r.1, (b ^^ inv) :: r.2)

/-- The last 256 bits are four periods of the user pattern, the newest its bit `i`. -/
def matchesUser (hist user i : Nat) : Bool :=
  (List.range 256).all (fun j => hist.testBit j == user.testBit ((i + 256 - j) % 64))

/-- An unlocked checker takes a bit; the truth value tells whether it locks (R212). -/
def PatSt.seek (sel user : Nat) (b : Bool) (p : PatSt) : PatSt × Bool :=
  let h := shiftBit p.hist b
  if sel = 4 then
    match if 256 ≤ p.got + 1 then (List.range 64).find? (fun i => matchesUser h user i) else none with
    | some i => ({ p with hist := h, got := p.got + 1, pos := (i + 1) % 64, wrong := [] }, true)
    | none => ({ p with hist := h, got := p.got + 1 }, false)
  else
    let run := if decide ((prbsTaps sel).1 ≤ p.got) && prbsNext sel p.hist == b then p.run + 1 else 0
    ({ p with hist := h, got := p.got + 1, run := run, wrong := [] }, decide (64 ≤ run))

/-- A locked checker takes a bit; the truth value tells whether it mismatched. -/
def PatSt.check (sel user : Nat) (b : Bool) (p : PatSt) : PatSt × Bool :=
  let want := if sel = 4 then user.testBit (p.pos % 64) else prbsNext sel p.hist
  let bad := want != b
  ({ p with hist := shiftBit p.hist want, pos := (p.pos + 1) % 64, wrong := (bad :: p.wrong).take 128 }, bad)

/-- One received bit at the checker of a SerDes (R212): it locks, counts a mismatch, or drops lock at 32 mismatches in 128 bits. -/
def State.checkBit (s : State) (x : Serdes) (bit : Bool) : State :=
  let f := serdesFlds x
  let sel := s.getF f.chksel f.i
  let b := bit ^^ s.bit f.chkinv f.i
  if !s.bit f.chken f.i then s
  else if s.bit f.lock f.i then
    let r := (s.pat x).check sel (s.userPattern x) b
    let s1 := (s.modPat x (fun _ => r.1)).countF f.errcnt f.i (b2n r.2)
    if 32 ≤ (r.1.wrong.filter id).length then
      ((s1.modPat x (fun p => { p with hist := 0, got := 0, run := 0, wrong := [] })).setF f.lock f.i 0).setF f.lostlk f.i 1
    else s1
  else
    let r := (s.pat x).seek sel (s.userPattern x) b
    (s.modPat x (fun _ => r.1)).setWhen r.2 f.lock f.i 1

/-- The test data of a SerDes while it receives `bits` (R211, R213): the generator sends as many, a far-end loopback sends what is received,
and a near-end loopback returns the generator's bits to the checker. -/
def State.checkBits (s : State) (x : Serdes) (bits : List Bool) : State :=
  let f := serdesFlds x
  let loop := s.getF f.loop f.i
  let gen := PatSt.generate (s.getF f.gensel f.i) (s.userPattern x) (s.bit f.geninv f.i) bits.length (s.pat x)
  let s1 := if s.bit f.genen f.i then s.modPat x (fun _ => { gen.1 with tx := gen.2 }) else s
  let s2 := if loop = 2 then s1.modPat x (fun p => { p with tx := bits }) else s1
  (if loop = 1 ∧ s.bit f.genen f.i = true then gen.2 else bits).foldl (fun t b => t.checkBit x b) s2

/-- The generator starts: a user pattern at its first bit, a PRBS at a free point of its sequence (log entry 45). -/
def State.startGen (s : State) (x : Serdes) : State :=
  let d := s.draw
  d.2.modPat x (fun p => { p with
    gen := if d.1.toNat % 2 ^ (prbsTaps (s.getF (serdesFlds x).gensel (serdesFlds x).i)).1 = 0 then 1 else d.1.toNat, genPos := 0 })

/-- A write of a PATCTRL register (R211, R213, R214).  A checker that is off, or whose pattern changes, is unlocked and seeds itself
anew. -/
def State.writePatctrl (s : State) (x : Serdes) (w : Word) : State :=
  let f := serdesFlds x
  let v := w.toNat
  let loop := bitsOf v 15 14
  let gen := w.getLsbD 10
  let inS4Lane := s.inS4 && (match x with | .host _ => false | _ => true) && (gen || loop != 0)
  if 4 < bitsOf v 3 0 || 4 < bitsOf v 7 4 || loop == 3 || inS4Lane then s.setF f.testerr f.i 1
  else
    let s1 := ((((((s.setF f.loop f.i loop).setF f.chkinv f.i (bitsOf v 13 13)).setF f.geninv f.i (bitsOf v 12 12)).setF
      f.chken f.i (bitsOf v 11 11)).setF f.genen f.i (b2n gen)).setF f.chksel f.i (bitsOf v 7 4)).setF f.gensel f.i (bitsOf v 3 0)
    let s2 := if gen && (!s.bit f.genen f.i || bitsOf v 3 0 != s.getF f.gensel f.i) then s1.startGen x else s1
    let s3 := if !w.getLsbD 11 || bitsOf v 7 4 != s.getF f.chksel f.i then
        (s2.setF f.lock f.i 0).modPat x (fun p => { p with hist := 0, got := 0, run := 0, wrong := [] })
      else s2
    s3.testFollow x

def execPatternCtrlWrite (x : Serdes) (w : Word) (s : State) : Out := .next (if s.serdesOk x then s.writePatctrl x w else s)

/-- CHECKER_LOCK: the bits received up to the one with which the checker locks (R212). -/
def execCheckerLock (r : PatRun) (s : State) : Out := .next (if s.serdesRuns r.serdes then s.checkBits r.serdes r.bits else s)

/-- CHECKER_LOST_LOCK: the bits received up to the one with which it drops lock (R212). -/
def execCheckerLostLock (x : Serdes) (bits : List Bool) (s : State) : Out := .next (if s.serdesRuns x then s.checkBits x bits else s)

/-- Entry to S4 for one lane: its generator and loopback are cleared, and EIDLE is left at once (R210, R214). -/
def State.laneEnterS4 (s : State) (n : Fin 96) : State :=
  let s1 := (s.setF .CL_PATCTRL_GENEN n 0).setF .CL_PATCTRL_LOOP n 0
  if s.lstate n == lsTest then s1.testFollow (.lane n)
  else if s.lstate n == lsEidle then s1.eireqClear n
  else s1

/-- The mirror lanes at the entry to S4 (R214). -/
def State.mirEnterS4 (s : State) : State :=
  forIdx (n := 4) (fun m t => ((t.setF .ML_PATCTRL_GENEN m 0).setF .ML_PATCTRL_LOOP m 0).testFollow (.mirror m)) s

end Sys2Proof.Machine
end

