-- ==== Sys2Proof/Machine/Link.lean ====
section
/-! DEFINITION. The cell link protocol on the device's side: frames, slot tables and their swap, the launches of a fret, the
receive path, delay measurement, bulk frames and CLEAR (R219 to R257). -/
namespace Sys2Proof.Machine

/-! Frames (R219 to R222). -/

/-- One bit of a reflected 32-bit CRC with the polynomial `p`. -/
def crcBit (p c : Nat) : Nat := if c.testBit 0 then (c >>> 1) ^^^ p else c >>> 1

def crcByte (p c : Nat) (b : Byte) : Nat :=
  crcBit p (crcBit p (crcBit p (crcBit p (crcBit p (crcBit p (crcBit p (crcBit p (c ^^^ b.toNat))))))))

def crcOf (p : Nat) (l : List Byte) : Nat := l.foldl (crcByte p) 0xFFFFFFFF ^^^ 0xFFFFFFFF

/-- CRC-32C (R222). -/
def crc32c (l : List Byte) : Nat := crcOf 0x82F63B78 l

/-- A field of a frame at frame offset `o`; the frame's first data byte has offset 1. -/
def frameField (f : List Byte) (o k : Nat) : Nat := leNat ((f.drop (o - 1)).take k)

/-- The data bytes of a frame: header, body padded with zeros to offset 59, CRC (Table 8-1). -/
def mkFrame (ty epoch fret cell : Nat) (body : List Byte) : List Byte :=
  let d := (leBytes 1 ty ++ leBytes 2 epoch ++ leBytes 4 fret ++ leBytes 2 cell ++ body ++ List.replicate 50 0#8).take 59
  d ++ leBytes 4 (crc32c d)

def tyTimebase : Nat := 1
def tyCommand : Nat := 2
def tyAck : Nat := 3
def tyTelemetry : Nat := 4
def tyClear : Nat := 5
def tyDelayReq : Nat := 6
def tyDelayResp : Nat := 7
def tyBulk : Nat := 8

/-- A frame of lane `n` in the fret in progress. -/
def State.frame (s : State) (n : Fin 96) (ty : Nat) (body : List Byte) : List Byte :=
  mkFrame ty (s.getF .CLG_EPOCH_EPOCH 0) s.fretnum (s.getF .CL_CFG_CELLID n) body

/-- FAB cycles and 2^-4 ns of one frame at the lane's RATE (R195). -/
def State.frameTicks (s : State) (n : Fin 96) : Nat := if s.bit .CL_PHYCTRL_RATE n then 103 else 52
def State.frameTime (s : State) (n : Fin 96) : Nat := if s.bit .CL_PHYCTRL_RATE n then 4096 else 2048

/-- The lane sends frames back to back. -/
def State.sendFrames (s : State) (n : Fin 96) (fs : List (List Byte)) : State :=
  s.modLane n (fun l => { l with lastTx := fs, txCut := false, txEnd := s.tick + fs.length * s.frameTicks n })

/-- The launch latency from a threshold's ideal time to the SOF at the ball, 18 to 24.5 ns (R231): a free value in 2^-4 ns. -/
def State.latency (s : State) : Nat × State :=
  let d := s.draw
  (288 + d.1.toNat % 105, d.2)

/-- The time since the boundary in 2^-4 ns, at the applied frequency word. -/
def State.sinceBoundary (s : State) : Nat := s.inFret * 65536 * 40 / s.getF .ATU_FREQ_FREQ 0

/-- How long ago the angle passed offset `o` of the fret in progress, in 2^-4 ns. -/
def State.sinceOffset (s : State) (o : Nat) : Nat :=
  (s.accFull - (s.fic * s.fretAu + o * s.unitAu) * 65536) * 40 / s.getF .ATU_FREQ_FREQ 0

/-! Slot tables (R230 to R233). -/

def slotBase (n : Nat) : Nat := 0x40080000 + n * 0x400 + 0x100
/-- Offset `k` of set `st` of copy `c`: 0 TB, 1 DLY, 2 CMD, 3 ACK, 4 RETRY, 5 TLM. -/
def State.slotOf (s : State) (n c st k : Nat) : Nat := s.half (slotBase n + c * 0x40 + st * 16 + 2 * k)
/-- The offset in use in the fret in progress. -/
def State.slot (s : State) (n : Fin 96) (k : Nat) : Nat := s.slotOf n (s.getF .CL_STAT_ACTIVE n) s.fretd.slotset k

def State.clgBusy (s : State) : Bool := s.bit .CLG_STAT_VALIDATING 0 || s.bit .CLG_STAT_SWAPPEND 0
def State.swapMasked (s : State) (n : Nat) : Bool := s.testF .CLG_SWAPMASK_MASK (n / 32) (n % 32)
def State.clrMasked (s : State) (n : Nat) : Bool := s.testF .CLG_CLRMASK_MASK (n / 32) (n % 32)

/-- A word write into lane `n`'s slot tables at offset `o` (R233); the reserved halfwords of a set stay 0 (R21, R230). -/
def State.writeSlot (s : State) (n : Fin 96) (o : Nat) (w : Word) : State :=
  if o / 64 % 2 = s.getF .CL_STAT_ACTIVE n then s.setF .CL_STAT_WRACT n 1
  else if s.clgBusy && s.swapMasked n then s.setF .CL_STAT_WRPEND n 1
  else s.setWord (slotBase n + o) (if o % 16 = 12 then 0#32 else w)

def execSlotTableWrite (n : Fin 96) (off : BitVec 7) (w : Word) (s : State) : Out :=
  .next (if s.laneBus n && decide (off.toNat % 4 = 0) then s.writeSlot n off.toNat w else s)

/-- FPCSEL for R232: the larger of the one in effect and a pending one. -/
def State.maxFpc (s : State) : Nat :=
  512 * 2 ^ (if s.bit .ATU_STAT_FPCPEND 0 then max s.atu.fpcNew (s.getF .ATU_CFG_FPCSEL 0) else s.getF .ATU_CFG_FPCSEL 0)

/-- t(a) − t(b) ≥ x ns, in the fret at 65 Hz with `fpc` frets a cycle. -/
def slotGap (fpc a b x : Nat) : Bool := decide ((x * 65 * fpc * 65536 : Int) ≤ ((a : Int) - b) * 1000000000)

/-- Table 8-7 for one slot set; `tf` and `dmax` in ns. -/
def slotsValid (fpc tf dmax tb dly cmd ack retry tlm : Nat) : Bool :=
  decide (tb < dly ∧ dly < cmd ∧ cmd < ack ∧ ack < retry ∧ ack < tlm) &&
  slotGap fpc dly tb (2 * tf + 30) && slotGap fpc cmd dly (tf + 16) && slotGap fpc ack dly (2 * tf + dmax + 1050) &&
  slotGap fpc ack cmd (tf + dmax + 70) && slotGap fpc retry ack (tf + dmax + 110) && slotGap fpc tlm ack (tf + 20) &&
  slotGap fpc 65536 tlm (tf + dmax + 20)

/-- Every set of the shadow copy of lane `n` is valid. -/
def State.shadowValid (s : State) (n : Fin 96) : Bool :=
  let c := 1 - s.getF .CL_STAT_ACTIVE n
  (List.range 4).all (fun st =>
    slotsValid s.maxFpc (s.frameTime n / 16) (s.getF .CLG_DMAX_DMAX 0) (s.slotOf n c st 0) (s.slotOf n c st 1) (s.slotOf n c st 2)
      (s.slotOf n c st 3) (s.slotOf n c st 4) (s.slotOf n c st 5))

def State.swapLanes (s : State) : List (Fin 96) := (List.finRange 96).filter (fun n => s.swapMasked n)

/-- The failure code of a slot-table swap, 0 for none (R233). -/
def State.clgCode (s : State) : Nat :=
  if s.swapLanes.any (fun n => !s.laneOk n) then 2
  else if s.swapLanes.any (fun n => !s.shadowValid n) then 1
  else if s.bit .CLG_CTRL_SWAPMODE 0 && s.atuOn && s.fretLate (s.getF .CLG_SWAPAT_SWAPAT 0) then 3
  else 0

/-- The swap takes effect on all masked lanes together. -/
def State.clgSwapNow (s : State) : State :=
  let s1 := s.swapLanes.foldl (fun t n => t.setF .CL_STAT_ACTIVE n (1 - t.getF .CL_STAT_ACTIVE n)) s
  (((s1.setF .CLG_CTRL_SWAP 0 0).setF .CLG_STAT_SWAPPEND 0 0).setF .CLG_STAT_SWAPDONE 0 1)

/-- Step 2 of a boundary for the slot tables. -/
def State.clgBoundary (s : State) : State :=
  if s.bit .CLG_STAT_SWAPPEND 0 && (!s.bit .CLG_CTRL_SWAPMODE 0 || s.getF .CLG_SWAPAT_SWAPAT 0 == s.fretnum) then s.clgSwapNow else s

/-- A pending swap when the ATU goes OFF. -/
def State.clgAtuOff (s : State) : State := if s.bit .CLG_STAT_SWAPPEND 0 then s.clgSwapNow else s

/-- A write of SWAPMODE and SWAP (R233). -/
def State.writeClgSwap (s : State) (mode go : Bool) : State :=
  if s.clgBusy then (if mode != s.bit .CLG_CTRL_SWAPMODE 0 then s.setF .CLG_STAT_WRPEND 0 1 else s)
  else
    let s1 := s.setBit .CLG_CTRL_SWAPMODE 0 mode
    if go then (s1.setF .CLG_CTRL_SWAP 0 1).setF .CLG_STAT_VALIDATING 0 1 else s1

def execClgSwap (mode : Bool) (s : State) : Out := .next (if s.fabBus then s.writeClgSwap mode true else s)

def execClgSwapValidated (s : State) : Out :=
  .next (if s.bit .CLG_STAT_VALIDATING 0 && s.fabRuns then
    let c := s.clgCode
    let s1 := s.setF .CLG_STAT_VALIDATING 0 0
    if c ≠ 0 then ((s1.setF .CLG_STAT_SWAPERR 0 1).setF .CLG_STAT_SWAPCODE 0 c).setF .CLG_CTRL_SWAP 0 0
    else if s.atuOn then s1.setF .CLG_STAT_SWAPPEND 0 1
    else s1.clgSwapNow
  else s)

/-! TIMEBASE, CLEAR and DELAY_REQ (R223, R227, R228, R234, R248, R250). -/

/-- The TIMEBASE body (Table 8-3). -/
def State.timebaseBody (s : State) (n : Fin 96) (txoff : Nat) : List Byte :=
  let t := s.atu.tb
  let flags := b2n s.inS4 + 2 * b2n t.holdover + 4 * t.src + 16 * s.getF .CL_STAT_MUTED n
  leBytes 1 flags ++ leBytes 1 t.fpcsel ++ leBytes 4 t.freq ++ leBytes 4 txoff ++ leBytes 4 (s.getF .CL_DELAY_DLY n) ++
  leBytes 2 (s.slot n 3) ++ leBytes 2 (s.slot n 5) ++ leBytes 2 (s.getF .CLG_ARMTOK_TOK 0) ++
  leBytes 2 (s.getF .MOD_DABLIM_SLEW 0) ++ leBytes 4 t.btcns ++ leBytes 2 (s.getF .CLG_NODE_NODE 0) ++ leBytes 2 t.fic

/-- The CLEAR body (R228). -/
def State.clearBody (s : State) : List Byte :=
  leBytes 1 0 ++ leBytes 1 (s.getF .CLG_CTRL_CLRRM 0) ++ leBytes 2 (s.getF .CLG_ARMTOK_TOK 0)

/-- Sends TIMEBASE and, directly after it, a requested CLEAR, with which the lane's part of the request is done (DESIGN CHOICE, log entry 46);
`late` tells how long ago the launch fell due, in 2^-4 ns. -/
def State.sendTimebase (s : State) (n : Fin 96) (late : Nat) : State :=
  let r := s.latency
  let s1 := r.2
  let tb := s1.frame n tyTimebase (s1.timebaseBody n (s1.sinceBoundary - late + r.1))
  let fs := if (s1.lanes[n]).clrPend || (s1.lanes[n]).heldClr then [tb, s1.frame n tyClear s1.clearBody] else [tb]
  ((s1.sendFrames n fs).modLane n (fun l => { l with clrPend := false, heldClr := false })).clearCheck

/-- Sends a CLEAR whose TIMEBASE a burst cut (R248). -/
def State.sendHeldClear (s : State) (n : Fin 96) : State :=
  ((s.sendFrames n [s.frame n tyClear s.clearBody]).modLane n (fun l => { l with heldClr := false })).clearCheck

/-- TIMEBASE_LAUNCH at the TB slot: a muted lane sends its burst first, and a launch due during a burst waits for its end. -/
def execTimebaseLaunch (n : Fin 96) (s : State) : Out :=
  .next (if s.serving n && s.atuRuns then
    let s1 := s.raiseAngle (s.slot n 0)
    if s1.bit .CL_STAT_MUTED n then
      (s1.burst n (s1.getF .TRIP_RMASK_RMASK 0)).modLane n (fun l => { l with heldTb := true })
    else if (s1.lanes[n]).burst.isSome then s1.modLane n (fun l => { l with heldTb := true })
    else s1.sendTimebase n (s1.sinceOffset (s.slot n 0))
  else s)

/-- Sends DELAY_REQ and notes t1 (R238); `late` as for TIMEBASE. -/
def State.sendDelayReq (s : State) (n : Fin 96) (late : Nat) : State :=
  let r := s.latency
  let q := (s.lanes[n]).dseq + 1#8
  let s1 := r.2.modLane n (fun l => { l with
    dseq := q, dlyWait := true, dlyT1 := s.tick * 40 - late + r.1, dlyOut := if l.dlyWait then [] else l.dlyOut })
  s1.sendFrames n [s1.frame n tyDelayReq (leBytes 1 0 ++ leBytes 1 q.toNat)]

/-- DELAY_REQ_LAUNCH at the DLY slot, in the frets whose low DLYPER bits are 0 (R238). -/
def execDelayReqLaunch (n : Fin 96) (s : State) : Out :=
  .next (if s.serving n && s.atuRuns && s.bit .CL_CTRL_DLYEN n && decide (s.fretnum % 2 ^ s.getF .CL_CTRL_DLYPER n = 0) then
    let s1 := s.raiseAngle (s.slot n 1)
    if (s1.lanes[n]).burst.isSome then s1.modLane n (fun l => { l with heldDly := true })
    else s1.sendDelayReq n (s1.sinceOffset (s.slot n 1))
  else s)

/-- MUTE_BURST_COMPLETE: at the end of its last set the lane returns to what its LSTATE sends and launches what the burst held back, TIMEBASE
first (R248, R272). -/
def execMuteBurstComplete (n : Fin 96) (s : State) : Out :=
  .next (match s.laneRuns n, (s.lanes[n]).burst with
  | true, some b =>
    let l := s.lanes[n]
    let s1 := (s.passTo (b.endTick (s.setTime n))).modLane n (fun l => { l with burst := none, heldTb := false, heldDly := false })
    let s2 := if l.heldTb && s1.serving n then s1.sendTimebase n 0
      else if l.heldClr && s1.serving n then s1.sendHeldClear n
      else s1
    if l.heldDly && s2.serving n then s2.sendDelayReq n 0 else s2
  | _, _ => s)

/-! COMMAND and its resend (R224, R241). -/

/-- The edge records the lane launches: none for a lane in no arm, those of its one governing arm's conversion for this fret, and
`none` where the lane launches nothing (R169, R174). -/
def State.commandEdges (s : State) (n : Fin 96) : Option (List Word) :=
  if !s.mapped n then some []
  else if !s.modOn then none
  else match s.governors n with
    | [a] => if (s.lanes[n]).convFret == some (BitVec.ofNat 32 s.fretnum) && (s.lanes[n]).convArm == a then some (s.lanes[n]).edges else none
    | _ => none

/-- LATECONV of the arm whose conversion for this fret is still running (R174). -/
def State.lateConv (s : State) (n : Fin 96) : State :=
  forIdx (n := 6) (fun a t =>
    if (s.governors n).contains a.val && (s.arms[a]).conv.isSome then t.setF .ARM_STAT_LATECONV a 1 else t) s

/-- The COMMAND body (Table 8-4). -/
def commandBody (retry : Bool) (edges ew : List Word) : List Byte :=
  leBytes 1 (b2n retry) ++ leBytes 1 edges.length ++ leBytes 4 0 ++
  (((edges.map (fun e => leBytes 4 e.toNat)).flatten ++ List.replicate 16 0#8).take 16) ++
  (ew.map (fun e => leBytes 4 e.toNat)).flatten

/-- COMMAND_LAUNCH: an enabled lane reaches its CMD slot.  A conversion still running sets LATECONV (R174); a lane without an owner misses its
command (R126); else a serving lane that commands sends a released COMMAND or counts MISSCMD (R32, R224, R275, R412). -/
def execCommandLaunch (n : Fin 96) (s : State) : Out :=
  .next (if s.laneOn n && s.atuRuns then
    let s1 := ((s.raiseAngle (s.slot n 2)).modLane n (fun l => { l with cmdFret := none })).lateConv n
    let miss := s1.countF .CL_FCNT0_MISSCMD n 1
    if !s1.ownerOk n then miss.setF .CL_STAT_OWNERR n 1
    else if !s1.serving n || !s1.commanding then s1
    else
      let l := s1.lanes[n]
      if s1.bit .CL_STAT_MUTED n || s1.mstate then miss
      else if l.released != some (BitVec.ofNat 32 s1.fretnum) then miss
      else match s1.commandEdges n with
        | none => miss
        | some es =>
          let fr := s1.frame n tyCommand (commandBody false es l.launch.toList)
          (s1.sendFrames n [fr]).modLane n (fun l => { l with
            cmdFret := some (BitVec.ofNat 32 s1.fretnum), cmdFrame := fr, retryOff := s1.slot n 4 })
  else s)

/-- The resend's frame: FLAGS.RETRY set, and a new CRC (R241). -/
def retryFrame (f : List Byte) : List Byte :=
  let d := (f.take 9 ++ [1#8] ++ f.drop 10).take 59
  d ++ leBytes 4 (crc32c d)

/-- 100 ns before RETRY the lane held a valid ACK of this fret: its STATUS. -/
def State.ackInTime (s : State) (n : Fin 96) (retry : Nat) : Option Nat :=
  match (s.lanes[n]).ack with
  | some (f, st, au) =>
    if f = s.fretnum ∧ au * 65536 + 40 * s.getF .ATU_FREQ_FREQ 0 ≤ retry * s.unitAu * 65536 then some st else none
  | none => none

/-- The resend's last character would reach the cell after the next boundary (R241). -/
def State.retryLate (s : State) (n : Fin 96) (retry : Nat) : Bool :=
  decide ((s.fretAu - retry * s.unitAu) * 40 * 65536 <
    (392 + s.frameTime n + s.getF .CL_DELAY_DLY n) * s.getF .ATU_FREQ_FREQ 0)

/-- RETRY_LAUNCH: the COMMAND of the fret is resent once (R241). -/
def execRetryLaunch (n : Fin 96) (s : State) : Out :=
  .next (if s.serving n && s.atuRuns then
    let l := s.lanes[n]
    let sent := l.cmdFret == some (BitVec.ofNat 32 s.fretnum)
    let off := if sent then l.retryOff else s.slot n 4
    let s1 := s.raiseAngle off
    let a := s1.ackInTime n off
    if !sent || !s1.commanding || s1.bit .CL_STAT_MUTED n || s1.mstate || !s1.bit .CL_CTRL_RETRYEN n then s1
    else if a == none || a == some 1 || a == some 2 then
      if s1.retryLate n off then s1.countF .CL_FCNT0_RETRYLATE n 1
      else ((s1.sendFrames n [retryFrame l.cmdFrame]).countF .CL_FCNT0_RETRY n 1).modLane n (fun l => { l with cmdFret := none })
    else s1
  else s)

/-- NOACK counts each fret that ended without a valid ACK of it on a serving lane (R256). -/
def State.noackStep (s : State) (ended : Nat) : State :=
  forIdx (n := 96) (fun n t =>
    if t.serving n && ((t.lanes[n]).ack.map Prod.fst) != some ended then t.countF .CL_FCNT0_NOACK n 1 else t) s

/-! Receiving (R220, R225, R226, R238, R252, R425). -/

/-- The highest epoch seen, with `e` among those seen (R423). -/
def TwinSt.seeEpoch (t : TwinSt) (e : Nat) : Option Nat :=
  match t.maxEpoch with
  | none => some e
  | some m => some (if epochHigher e m then e else m)

/-- The epoch of a valid cell frame (R252, R423 to R425).  Before a first heartbeat no frame is foreign: R425
needs one that is higher than the twin's last heartbeat epoch too. -/
def State.noteEpoch (s : State) (n : Fin 96) (e : Nat) : State :=
  let t := s.twin
  let hi := epochHigher e (s.getF .CLG_EPOCH_EPOCH 0)
  let foreign := s.mirUp && hi && t.known && epochHigher e (s.getF .MIR_PEER0_EPOCH 0)
  let s1 := { s with twin := { t with
    cellFrame := true,
    maxEpoch := t.seeEpoch e,
    yieldDue := t.yieldDue || (hi && s.getF .MIR_STAT_ROLE 0 == 3),
    foreignNow := t.foreignNow || foreign,
    foreign := t.foreign || foreign } }
  ((s1.setWhen hi .CL_STAT_EPOCHHI n 1).setWhen foreign .MIR_STAT_FOREIGN 0 1).setWhen foreign .TRIP_LAT2_TWIN 0 1

/-- The check of R220, with the counters it moves: 0 valid, 1 a character or CRC error, 2 TYPE, 3 CELLID. -/
def State.rxCheck (s : State) (n : Fin 96) (ty : Nat) (f : RxFrame) : Nat :=
  let d := f.bytes
  if f.kchar || f.errs != 0 || d.length != 63 || crc32c (d.take 59) != frameField d 60 4 then 1
  else if frameField d 1 1 != ty then 2
  else if frameField d 8 2 != s.getF .CL_CFG_CELLID n then 3
  else 0

/-- Receives a frame: a discarded one is counted (R220, R256), a valid one goes on with its epoch noted; the errors in it count for the
link (R204). -/
def State.receive (s : State) (n : Fin 96) (ty : Nat) (f : RxFrame) (bad : Nat → State → State) (ok : State → State) : State :=
  if s.rxLive n then
    let s1 := s.modLane n (fun l => { l with good := 0 })
    let lost := s1.countF .CL_FCNT1_RXERR n 1
    (match s1.rxCheck n ty f with
      | 0 => ok (s1.noteEpoch n (frameField f.bytes 2 2))
      | 1 => bad 1 lost
      | 2 => bad 2 (lost.countF .CL_FCNT1_TYPEERR n 1)
      | _ => bad 3 (lost.countF .CL_FCNT1_IDERR n 1)).codeErrors n f.errs
  else s

/-- ACK_RECEIVED: the lane holds its STATUS for the retry decision (R225, R241). -/
def execAckReceived (n : Fin 96) (f : RxFrame) (s : State) : Out :=
  .next (s.receive n tyAck f (fun _ t => t) (fun t =>
    t.modLane n (fun l => { l with ack := some (frameField f.bytes 4 4, frameField f.bytes 11 1, t.inFret) })))

/-- TELEMETRY_RECEIVED: the frame fills the buffer that flips at the next boundary; a frame of a fret that has ended is discarded
(R34, R226).  A frame discarded for a K character or a code error shows as CRC error, and a discarded frame replaces an earlier valid one
of its fret (DESIGN CHOICE, log entry 43). -/
def execTelemetryReceived (n : Fin 96) (f : RxFrame) (s : State) : Out :=
  .next (s.receive n tyTelemetry f
    (fun c t => if c = 2 then t else t.modLane n (fun l => { l with fill := { state := if c = 1 then 2 else 3 } }))
    (fun t =>
      if serialLater t.fretnum (frameField f.bytes 4 4) then t.countF .CL_FCNT1_LATE n 1
      else t.modLane n (fun l => { l with fill := {
        state := 1, epochHi := epochHigher (frameField f.bytes 2 2) (s.getF .CLG_EPOCH_EPOCH 0),
        tfret := BitVec.ofNat 32 (frameField f.bytes 4 4),
        tw := Vector.ofFn (fun (k : Fin 12) => BitVec.ofNat 32 (frameField f.bytes (12 + 4 * k) 4)) } })))

/-! Delay measurement (R238). -/

/-- The mean of 8 round trips as DLY: half of it, in 2^-4 ns; how a fraction rounds is open (log entry 8). -/
def meanDelay (rts : List Nat) (r : Nat) : Nat := (rts.sum + r % 16) / 16

/-- Eight results within 20 ns of their own mean: in round trips, 8·rt − sum within 20·16·16. -/
def nearMean (rts : List Nat) (rt : Nat) : Bool :=
  decide (((8 * rt : Int) - rts.sum).natAbs ≤ 5120)

/-- Takes a set of 8 as the delay. -/
def State.takeDelay (s : State) (n : Fin 96) (rts : List Nat) : State :=
  let d := s.draw
  let v := meanDelay rts d.1.toNat
  let s1 := (d.2.setF .CL_DELAY_VALID n 1).setF .CL_DELAY_DLY n v
  s1.setWhen (decide (s.getF .CLG_DMAX_DMAX 0 * 256 < rts.sum)) .CL_STAT_DLYOVR n 1

/-- One result that passed the first two tests. -/
def State.delayResult (s : State) (n : Fin 96) (rt : Nat) : State :=
  let l := s.lanes[n]
  if s.bit .CL_DELAY_VALID n && !nearMean l.dlyAcc rt then
    let out := (rt :: l.dlyOut).take 8
    if out.length = 8 ∧ out.all (nearMean out) = true then
      ((s.modLane n (fun l => { l with dlyAcc := out, dlyOut := [] })).takeDelay n out).setF .CL_STAT_DLYJUMP n 1
    else s.modLane n (fun l => { l with dlyOut := out })
  else
    let acc := (rt :: l.dlyAcc).take 8
    let s1 := s.modLane n (fun l => { l with dlyAcc := acc, dlyOut := [] })
    if acc.length = 8 then s1.takeDelay n acc else s1

/-- The measurement ends without a result of the first two tests. -/
def State.delayVoid (s : State) (n : Fin 96) : State := s.modLane n (fun l => { l with dlyWait := false, dlyOut := [] })

/-- DELAY_RESP_RECEIVED with t4 in 2^-4 ns on the lane's time base. -/
def execDelayRespReceived (n : Fin 96) (f : RxFrame) (t4 : Nat) (s : State) : Out :=
  .next (s.receive n tyDelayResp f (fun _ t => t) (fun t =>
    let l := t.lanes[n]
    if l.dlyWait then
      if frameField f.bytes 11 1 = l.dseq.toNat ∧ t.offReached (t.slot n 3) = false then
        (t.modLane n (fun l => { l with dlyWait := false })).delayResult n (t4 - l.dlyT1 - frameField f.bytes 12 4)
      else t.delayVoid n
    else t))

/-- DELAY_RESP_TIMEOUT: no response by the ACK slot. -/
def execDelayRespTimeout (n : Fin 96) (s : State) : Out :=
  .next (if (s.lanes[n]).dlyWait && s.atuRuns && s.laneRuns n then (s.raiseAngle (s.slot n 3)).delayVoid n else s)

/-! Bulk frames (R229, R234). -/

def bulkTxBase (n e : Nat) : Nat := 0x40080000 + n * 0x400 + 0x180 + 48 * e
def bulkRxBase (n e : Nat) : Nat := 0x40080000 + n * 0x400 + 0x240 + 48 * e

/-- BULK_TX_GO: entry `e` is queued, once. -/
def State.bulkGo (s : State) (n : Fin 96) (e : Fin 4) : State :=
  if s.testF .CL_BSTAT_TXBUSY n e then s
  else ((s.orF .CL_BCTRL_TXGO n e).orF .CL_BSTAT_TXBUSY n e).modLane n (fun l => { l with bulkQ := l.bulkQ ++ [e] })

def execBulkTxGo (n : Fin 96) (e : Fin 4) (s : State) : Out := .next (if s.laneBus n then s.bulkGo n e else s)

/-- Clears bit `b` of a field. -/
def State.clrF (s : State) (f : Fld) (i b : Nat) : State := if s.testF f i b then s.setF f i (s.getF f i - 2 ^ b) else s

/-- The time to the lane's next launch slot in 2^-4 ns: TB, DLY in the frets it selects, CMD and RETRY, each taken as a launch (R234,
log entry 46). -/
def State.nextLaunch (s : State) (n : Fin 96) : Nat :=
  let dly := s.bit .CL_CTRL_DLYEN n && decide (s.fretnum % 2 ^ s.getF .CL_CTRL_DLYPER n = 0)
  let offs := [s.slot n 0] ++ (if dly then [s.slot n 1] else []) ++ [s.slot n 2, s.slot n 4]
  let au := ((offs.filter (fun o => !s.offReached o)).map (fun o => o * s.unitAu)).foldl min (s.fretAu + s.slot n 0 * s.unitAu)
  (au - s.inFret) * 65536 * 40 / s.getF .ATU_FREQ_FREQ 0

/-- The gap that a bulk frame begins ends at least 16 ns before the next launch. -/
def State.gapOk (s : State) (n : Fin 96) : Bool := !s.atuRuns || decide (s.frameTime n + 256 ≤ s.nextLaunch n)

/-- BULK_TX_SEND: the oldest queued frame leaves in a gap that is long enough. -/
def execBulkTxSend (n : Fin 96) (s : State) : Out :=
  .next (match (s.lanes[n]).bulkQ with
    | [] => s
    | e :: t =>
      if s.serving n && !s.txBusy n && s.gapOk n then
        let chan := s.getF .CL_BCTRL_TXCHAN n / 2 ^ (4 * e.val) % 16
        let fr := s.frame n tyBulk (leBytes 1 chan ++ leBytes 1 (s.lanes[n]).bulkSeq.toNat ++ s.readList (bulkTxBase n e) 48)
        (((s.sendFrames n [fr]).clrF .CL_BCTRL_TXGO n e).clrF .CL_BSTAT_TXBUSY n e).modLane n (fun l =>
          { l with bulkQ := t, bulkSeq := l.bulkSeq + 1#8 })
      else s)

/-- Sets CHAN and SEQ of receive entry `e` (Table 8-21). -/
def State.setBrxHdr (s : State) (n : Fin 96) (e chan seq : Nat) : State :=
  let i := n.val * 2 + e / 2
  if e % 2 = 0 then (s.setF .CL_BRXHDR_CHAN0 i chan).setF .CL_BRXHDR_SEQ0 i seq
  else (s.setF .CL_BRXHDR_CHAN1 i chan).setF .CL_BRXHDR_SEQ1 i seq

/-- BULK_RECEIVED: the lowest free receive entry takes the frame, or it is dropped. -/
def execBulkReceived (n : Fin 96) (f : RxFrame) (s : State) : Out :=
  .next (s.receive n tyBulk f (fun _ t => t) (fun t =>
    match (List.range 4).find? (fun e => !t.testF .CL_BSTAT_RXVALID n e) with
    | none => t.countF .CL_BSTAT_RXDROP n 1
    | some e =>
      ((t.setList (bulkRxBase n e) ((f.bytes.drop 11).take 48)).setBrxHdr n e (frameField f.bytes 10 1 % 16)
        (frameField f.bytes 11 1)).orF .CL_BSTAT_RXVALID n e))

/-- BULK_RX_FREE (R229). -/
def State.bulkFree (s : State) (n : Fin 96) (e : Fin 4) : State := s.clrF .CL_BSTAT_RXVALID n e

def execBulkRxFree (n : Fin 96) (e : Fin 4) (s : State) : Out := .next (if s.laneBus n then s.bulkFree n e else s)

/-! CLEAR (R250). -/

/-- CLRGO = 1 written. -/
def State.clearRequest (s : State) : State :=
  if s.bit .CLG_CTRL_CLRGO 0 then s
  else if s.mstate || (List.range 96).any (fun n => s.clrMasked n && !s.laneOk n) || !s.commanding then s.setF .CLG_STAT_CLRERR 0 1
  else
    let s1 := s.setF .CLG_CTRL_CLRGO 0 1
    (forIdx (n := 96) (fun n t => if s.clrMasked n && s.laneUp n then t.modLane n (fun l => { l with clrPend := true }) else t)
      s1).clearCheck

def execClearRequest (s : State) : Out := .next (if s.fabBus then s.clearRequest else s)

end Sys2Proof.Machine
end

