-- ==== Sys2Proof/Machine/Time.lean ====
section
/-! DEFINITION. The station clock, its compact form and the timed outputs (R370 to R373, R381, R382). -/
namespace Sys2Proof.Machine

/-- The nanoseconds of the clock. -/
def ClockSt.ns (c : ClockSt) : Nat := c.nsf / 2 ^ 29

/-- The station time in ns. -/
def State.timeNs (s : State) : Nat := s.clock.sec * 1000000000 + s.clock.ns

/-- The compact form (R373). -/
def State.compact (s : State) : Nat := s.timeNs % 2 ^ 32

/-- The compact form of a time in 2^-4 ns. -/
def compactOf (t16 : Int) : Nat := ((t16 / 16) % (2 ^ 32)).toNat

/-- Brings the block up to the first FAB cycle in which the station clock has reached `t` ns, if the clock runs and `t` lies ahead. -/
def State.passTime (s : State) (t : Nat) : State :=
  let inc := s.getF .TIME_INC_INC 0
  if s.timeNs < t ∧ s.clockRuns = true ∧ inc ≠ 0 then
    let u := t * 2 ^ 29 - (s.clock.sec * secUnits + s.clock.nsf)
    s.passTo (((s.tick * 5 / 8 + (u + inc - 1) / inc) * 8 + 4) / 5)
  else s

/-! Timed outputs (R381, R382). -/

/-- The programmed start with the present time's seconds bits 47:32, in ns. -/
def State.toutStart (s : State) (n : Fin 8) : Nat :=
  (s.clock.sec / 2 ^ 32 * 2 ^ 32 + s.getF .TOUT_SSEC_SSEC n) * 1000000000 + s.getF .TOUT_SNS_SNS n

/-- The first instant START + k × PER not yet past. -/
def nextPeriodic (start per now : Nat) : Nat :=
  if now ≤ start then start else start + (now - start + per - 1) / per * per

/-- Computes the next rise of an output that is ON; a single pulse whose start has passed does not occur and sets MISSED. -/
def State.toutSchedule (s : State) (n : Fin 8) : State :=
  let st := s.toutStart n
  if s.bit .TOUT_CTRL_MODE n then
    { s with tout := s.tout.set n { s.tout[n] with rise := some (nextPeriodic st (s.getF .TOUT_PER_PER n) s.timeNs) } }
  else if st < s.timeNs then
    ({ s with tout := s.tout.set n { s.tout[n] with rise := none } }).setF .TOUT_CTRL_MISSED n 1
  else { s with tout := s.tout.set n { s.tout[n] with rise := some st } }

/-- EN = 1 written to a TOUT: refused where WID is below 8 or PER below WID + 8. -/
def State.toutEnable (s : State) (n : Fin 8) : State :=
  if s.bit .TOUT_CTRL_EN n then s
  else if s.getF .TOUT_WID_WID n < 8 ∨ s.getF .TOUT_PER_PER n < s.getF .TOUT_WID_WID n + 8 then s.setF .TOUT_CTRL_CFGERR n 1
  else ((s.setF .TOUT_CTRL_EN n 1).setF .TOUT_CTRL_ENST n enstOn).toutSchedule n

/-- EN = 0 written: the ball returns to its inactive level, even within a pulse. -/
def State.toutDisable (s : State) (n : Fin 8) : State :=
  { (s.setF .TOUT_CTRL_EN n 0).setF .TOUT_CTRL_ENST n enstOff with tout := s.tout.set n {} }

/-- A write reaches the HOST domain. -/
def State.hostBus (s : State) : Bool := s.busRuns && s.powered domHost

def execToutEnable (n : Fin 8) (s : State) : Out := .next (if s.hostBus then s.toutEnable n else s)

/-- TOUT_RISE: the station clock reaches the start; the pulse lasts WID ns of elapsed time (R382). -/
def execToutRise (n : Fin 8) (s : State) : Out :=
  .next (match (s.tout[n]).rise with
    | none => s
    | some d =>
      let t := s.passTime d
      let next := if s.bit .TOUT_CTRL_MODE n then some (d + s.getF .TOUT_PER_PER n) else none
      if t.timeNs < d || !s.clockRuns then s
      else { t with tout := t.tout.set n { active := true, rise := next, fall := t.tick + (s.getF .TOUT_WID_WID n * 2 + 4) / 5 } })

/-- TOUT_FALL: WID has elapsed on the PTP clock. -/
def execToutFall (n : Fin 8) (s : State) : Out :=
  .next (if (s.tout[n]).active && s.clockRuns then
    let t := s.passTo (s.tout[n]).fall
    { t with tout := t.tout.set n { t.tout[n] with active := false } }
  else s)

/-- What an accepted SET or STEP does besides the clock: the count, and the next rises (R371, R382).  A single pulse that has
already occurred or been missed is scheduled again only where its start lies ahead. -/
def State.stepped (s : State) : State :=
  let s1 := s.setF .TIME_STAT_STEPCNT 0 (s.getF .TIME_STAT_STEPCNT 0 + 1)
  forIdx (n := 8) (fun n t =>
    if t.getF .TOUT_CTRL_ENST n == enstOn then
      if (t.tout[n]).rise.isSome || t.bit .TOUT_CTRL_MODE n || decide (t.timeNs ≤ t.toutStart n) then t.toutSchedule n else t
    else t) s1

/-- TIME_SET (R371): refused for TIME_WNS at or above 10^9. -/
def State.timeSet (s : State) : State :=
  if 1000000000 ≤ s.getF .TIME_WNS_NS 0 then s.setF .TIME_STAT_SETERR 0 1
  else
    let sec := s.getF .TIME_WSECH_SECH 0 * 2 ^ 32 + s.getF .TIME_WSECL_SECL 0
    (({ s with clock := { sec := sec, nsf := s.getF .TIME_WNS_NS 0 * 2 ^ 29 } }).setF .TIME_STAT_VALID 0 1).stepped

/-- TIME_STEP: the signed nanoseconds of TIME_STEPNS are added with carry and borrow. -/
def State.timeStep (s : State) : State :=
  let d := (BitVec.ofNat 32 (s.getF .TIME_STEPNS_STEPNS 0)).toInt
  let t := (s.clock.sec * secUnits + s.clock.nsf : Int) + d * 2 ^ 29
  let m := (t % (2 ^ 48 * secUnits : Int)).toNat
  ({ s with clock := { sec := m / secUnits, nsf := m % secUnits } }).stepped

/-- The holding latch of a reader (R372). -/
def readerLatch : TimeReader → Fin 29
  | .sup k => ⟨k, by omega⟩
  | .engine n => ⟨4 + n, by omega⟩
  | .other => ⟨28, by omega⟩

/-- A read of TIME_NS captures the seconds in the reader's latch and returns the nanoseconds. -/
def State.readTimeNs (s : State) (r : TimeReader) : Word × State :=
  (BitVec.ofNat 32 s.clock.ns, { s with secLatch := s.secLatch.set (readerLatch r) s.clock.sec })

def execTimeNsRead (r : TimeReader) (s : State) : Out :=
  .next (if s.hostBus then (s.readTimeNs r).2.answer (s.readTimeNs r).1 else s)

end Sys2Proof.Machine
end

