-- ==== Sys2Proof/Machine/Trip.lean ====
section
/-! DEFINITION. The comparators, the trip pins, the source latches, the routes and the MUTE state (R258 to R281). -/
namespace Sys2Proof.Machine

/-! Sources (Table 9-1). -/

def srcSafety : Nat := 65
def srcThermal : Nat := 66
def srcTwin : Nat := 67
def srcClkLoss : Nat := 68

/-- STATE of a comparator and of a trip pin (Table 9-10). -/
def csOff : Nat := 0
def csUnresolved : Nat := 1
def csNormal : Nat := 2
def csTrip : Nat := 3

/-- The source latch of source `i`. -/
def State.latched (s : State) (i : Nat) : Bool :=
  if i < 32 then s.testF .TRIP_LAT0_CMP 0 i
  else if i < 40 then s.testF .TRIP_LAT1_PIN 0 (i - 32)
  else if i < 64 then s.testF .TRIP_LAT1_SW 0 (i - 40)
  else match i with
    | 64 => s.bit .TRIP_LAT2_SUP 0 | 65 => s.bit .TRIP_LAT2_SAFETY 0 | 66 => s.bit .TRIP_LAT2_THERMAL 0
    | 67 => s.bit .TRIP_LAT2_TWIN 0 | 68 => s.bit .TRIP_LAT2_CLKLOSS 0 | _ => false

/-- Sets (or clears) the latch of source `i`. -/
def State.setLatch (s : State) (i : Nat) (v : Bool) : State :=
  let upd := fun (f : Fld) (b : Nat) => if v then s.orF f 0 b else s.clrF f 0 b
  if i < 32 then upd .TRIP_LAT0_CMP i
  else if i < 40 then upd .TRIP_LAT1_PIN (i - 32)
  else if i < 64 then upd .TRIP_LAT1_SW (i - 40)
  else match i with
    | 64 => s.setBit .TRIP_LAT2_SUP 0 v | 65 => s.setBit .TRIP_LAT2_SAFETY 0 v | 66 => s.setBit .TRIP_LAT2_THERMAL 0 v
    | 67 => s.setBit .TRIP_LAT2_TWIN 0 v | 68 => s.setBit .TRIP_LAT2_CLKLOSS 0 v | _ => s

/-- Source `i` is asserted; source 65 in every SER state but PERMIT, and from the decision that ends PERMIT (Table 13-2, R347). -/
def State.asserted (s : State) (i : Nat) : Bool :=
  let st := fun (v : Nat) => v == csUnresolved || v == csTrip
  if i < 32 then st (s.getF .CMP_STATUS_STATE i)
  else if i < 40 then st (s.getF .TPIN_STATUS_STATE (i - 32))
  else match i with
    | 65 => s.getF .SER_STAT_STATE 0 != 5 || s.ser.cut.isSome
    | 66 => s.bit .THERM_STAT_BLKREQ 0
    | 67 => s.twin.foreign
    | 68 => s.bit .CLK_LOSS_ACTIVE 0
    | _ => false

/-- The source's route has MUTE; the fixed sources always set the MUTE state. -/
def State.routedMute (s : State) (i : Nat) : Bool :=
  if i < 40 then s.bit .TRIP_ROUTE_MUTE i
  else if i < 64 then s.bit .TRIP_SWROUTE_MUTE 0
  else if i = 64 then s.bit .TRIP_SUPROUTE_MUTE 0
  else decide (i ≤ 68)

/-- The force groups that the source drives, as a mask; source 68 forces without the fabric. -/
def State.routedFg (s : State) (i : Nat) : Nat :=
  if i < 40 then s.getF .TRIP_ROUTE_FG i
  else if i < 64 then s.getF .TRIP_SWROUTE_FG 0
  else if i = 64 then s.getF .TRIP_SUPROUTE_FG 0
  else if i ≤ 67 then 0xF else 0

/-- The RMASK bit of the source's reason (Tables 8-10 and 9-1). -/
def reasonBit (i : Nat) : Nat :=
  match i with
  | 64 => 4 | 65 => 1 | 66 => 2 | 67 => 5 | 68 => 3 | _ => 0

def State.sources : List Nat := List.range 69

/-- The sources whose latch sets the MUTE state. -/
def State.muting (s : State) : List Nat := State.sources.filter (fun i => s.latched i && s.routedMute i)

/-- The force group lines (R270). -/
def State.fgLines (s : State) : Nat :=
  (State.sources.filter (fun i => s.latched i)).foldl (fun m i => m ||| s.routedFg i) 0

/-- A comparator or pin with a non-zero route is UNRESOLVED (TRIP_STAT.UNRES). -/
def State.unresolved (s : State) : Bool :=
  (List.range 40).any (fun i => (s.bit .TRIP_ROUTE_MUTE i || s.getF .TRIP_ROUTE_FG i != 0) &&
    (if i < 32 then s.getF .CMP_STATUS_STATE i else s.getF .TPIN_STATUS_STATE (i - 32)) == csUnresolved)

/-! The MUTE state (R271 to R275). -/

/-- Each fixed source that is asserted sets its latch in every FAB cycle (R268). -/
def State.latchFixed (s : State) : State :=
  [65, 66, 67, 68].foldl (fun t i => if t.asserted i then t.setLatch i true else t) s

/-- Starts a burst on every UP lane; where the MUTE state rises, each takes it (R271, R272). -/
def State.muteLanes (s : State) (mask : Nat) : State :=
  forIdx (n := 96) (fun n t => if t.laneUp n then (t.setF .CL_STAT_MUTED n 1).burst n mask else t) s

/-- The first event (R273). -/
def State.recordFirst (s : State) (src : List Nat) : State :=
  if s.bit .TRIP_FIRST_VALID 0 then s
  else
    let s1 := (s.setF .TRIP_FIRST_VALID 0 1).setF .TRIP_FIRST_SRC 0 (src.headD 0)
    let s2 := (s1.setBit .TRIP_FIRST_MULTI 0 (decide (1 < src.length))).setF .TRIP_FIRST_FRET_FRET 0 s.fretnum
    s2.setF .TRIP_FIRST_CNS_CNS 0 s.compact

/-- One FAB cycle of the fabric: it latches the asserted fixed sources and, where a latch is routed to MUTE, sets the MUTE state or
adds its reason. -/
def State.muteCycle (s : State) : State :=
  let s1 := s.latchFixed
  let src := s1.muting
  let want := src.foldl (fun m i => m ||| 2 ^ reasonBit i) 0
  if src.isEmpty then s1
  else if s1.mstate then
    let old := s1.getF .TRIP_RMASK_RMASK 0
    if old ||| want = old then s1
    else (s1.setF .TRIP_RMASK_RMASK 0 (old ||| want)).muteLanes (old ||| want)
  else
    let s2 := ((s1.setF .TRIP_STAT_MSTATE 0 1).setF .TRIP_RMASK_RMASK 0 want).recordFirst src
    (s2.muteLanes want).planResetAll

/-- MUTE_STATE_SET: the fabric sees the latches in a FAB cycle. -/
def execMuteStateSet (s : State) : Out := .next (if s.fabRuns then s.muteCycle else s)

/-- MCLR = 1 written (R271). -/
def State.muteClear (s : State) : State :=
  if !s.muting.isEmpty || [65, 66, 67, 68].any (fun i => s.latched i || s.asserted i) then s.setF .TRIP_STAT_MCLRFAIL 0 1
  else forIdx (n := 96) (fun n t => t.setF .CL_STAT_MUTED n 0) (s.setF .TRIP_STAT_MSTATE 0 0)

def execMclr (s : State) : Out := .next (if s.fabBus then s.muteClear else s)

/-- A write of a TRIP_LAT register: the sources of word `k` in the order of its bits (R268). -/
def latSources : Fin 3 → List (Nat × Nat)
  | 0 => (List.range 32).map (fun b => (b, b))
  | 1 => (List.range 32).map (fun b => (b, 32 + b))
  | 2 => (List.range 5).map (fun b => (b, 64 + b))

/-- The latches that the write clears, and those that it must leave. -/
def State.clearLatches (s : State) (k : Fin 3) (w : Word) : State :=
  let hit := (latSources k).filter (fun e => w.getLsbD e.1 && s.latched e.2)
  let held := (hit.filter (fun e => s.asserted e.2)).map Prod.snd
  let s1 := hit.foldl (fun t e => if s.asserted e.2 then t else t.setLatch e.2 false) s
  match held.min? with
  | none => s1
  | some i => (s1.setF .TRIP_STAT_CLRFAIL 0 1).setF .TRIP_STAT_CLRSRC 0 i

def execLatchClear (k : Fin 3) (w : Word) (s : State) : Out := .next (if s.fabBus then s.clearLatches k w else s)

/-- The fields of a route register. -/
def routeFlds : Route → Fld × Fld × Nat
  | .src n => (.TRIP_ROUTE_MUTE, .TRIP_ROUTE_FG, n)
  | .sw => (.TRIP_SWROUTE_MUTE, .TRIP_SWROUTE_FG, 0)
  | .sup => (.TRIP_SUPROUTE_MUTE, .TRIP_SUPROUTE_FG, 0)

/-- A route write: locked fields are refused, with LKERR where the value differs; gaining MUTE with the latch set sets the MUTE
state (R23, R269). -/
def State.writeRoute (s : State) (r : Route) (w : Word) : State :=
  let f := routeFlds r
  let m := bitsOf w.toNat 8 8
  let g := bitsOf w.toNat 3 0
  if s.bit .TRIP_CTRL_LOCK 0 then
    s.setWhen (decide (m ≠ s.getF f.1 f.2.2 ∨ g ≠ s.getF f.2.1 f.2.2)) .TRIP_STAT_LKERR 0 1
  else
    let s1 := (s.setF f.1 f.2.2 m).setF f.2.1 f.2.2 g
    if s1.fabRuns then s1.muteCycle else s1

def execRouteWrite (r : Route) (w : Word) (s : State) : Out := .next (if s.fabBus then s.writeRoute r w else s)

/-- SW_TRIP_REQUEST: the request latch of CEn (R274). -/
def execSwTripRequest (n : Fin 24) (s : State) : Out := .next (if s.ceLive n && s.fabRuns then s.swTrip n else s)

/-- SUP_TRIP_REQUEST (R274). -/
def State.supTrip (s : State) : State := s.setF .TRIP_LAT2_SUP 0 1

def execSupTripRequest (s : State) : Out := .next (if s.fabBus then s.supTrip else s)

/-! Comparators and trip pins (R259 to R267). -/

/-- The fields of one input: STATE, FILT, EN, ENST, DISERR, BLKPW, BLKEDGE, BLKLEN, its instance and its source index. -/
structure TripInFlds where
  i : Nat
  src : Nat
  state : Fld
  filt : Fld
  en : Fld
  enst : Fld
  diserr : Fld
  blkpw : Fld
  blkedge : Fld
  blklen : Fld

def tripInFlds : TripIn → TripInFlds
  | .cmp n => ⟨n, n, .CMP_STATUS_STATE, .CMP_FILT_FILT, .CMP_CTRL_EN, .CMP_STATUS_ENST, .CMP_STATUS_DISERR, .CMP_BLANK_BLKPW,
      .CMP_BLANK_BLKEDGE, .CMP_BLANK_BLKLEN⟩
  | .pin n => ⟨n, 32 + n, .TPIN_STATUS_STATE, .TPIN_FILT_FILT, .TPIN_CTRL_EN, .TPIN_STATUS_ENST, .TPIN_STATUS_DISERR,
      .TPIN_BLANK_BLKPW, .TPIN_BLANK_BLKEDGE, .TPIN_BLANK_BLKLEN⟩

def State.trIn (s : State) : TripIn → TrInSt
  | .cmp n => s.cmps[n]
  | .pin n => s.pins[n]

def State.modTrIn (s : State) (x : TripIn) (f : TrInSt → TrInSt) : State :=
  match x with
  | .cmp n => { s with cmps := s.cmps.set n (f s.cmps[n]) }
  | .pin n => { s with pins := s.pins.set n (f s.pins[n]) }

def State.trState (s : State) (x : TripIn) : Nat := s.getF (tripInFlds x).state (tripInFlds x).i

/-- The high and low thresholds and the hysteresis in the unit of the input voltage (R259). -/
def State.cmpHigh (s : State) (n : Nat) : Nat := s.getF .CMP_THRH_THR n * 375
def State.cmpLow (s : State) (n : Nat) : Nat := s.getF .CMP_THRL_THR n * 375
def State.cmpHyst (s : State) (n : Nat) : Nat := s.getF .CMP_CTRL_HYST n * 512

/-- WINERR: both sides are enabled and the window is empty. -/
def State.winErr (s : State) (n : Nat) : Bool :=
  s.bit .CMP_CTRL_HIEN n && s.bit .CMP_CTRL_LOEN n && decide (s.cmpHigh n ≤ s.cmpLow n + 2 * s.cmpHyst n)

/-- The raw output after a decision on the input: its two sides (R259; a pin has only the asserted level). -/
def State.rawSides (s : State) (x : TripIn) : Bool × Bool :=
  let t := s.trIn x
  match x with
  | .cmp n =>
    (s.bit .CMP_CTRL_HIEN n && (decide (s.cmpHigh n < t.vin) || (t.hi && decide (s.cmpHigh n ≤ t.vin + s.cmpHyst n))),
     s.bit .CMP_CTRL_LOEN n && (decide (t.vin < s.cmpLow n) || (t.lo && decide (t.vin ≤ s.cmpLow n + s.cmpHyst n))))
  | .pin n => ((t.vin != 0) != s.bit .TPIN_CTRL_POL n, false)

/-- The input lies outside every enabled hysteresis band, on the non-trip side (R261). -/
def State.seenClear (s : State) (n : Fin 32) : Bool :=
  let v := (s.cmps[n]).vin
  (!s.bit .CMP_CTRL_HIEN n || decide (v + s.cmpHyst n < s.cmpHigh n)) && (!s.bit .CMP_CTRL_LOEN n || decide (s.cmpLow n + s.cmpHyst n < v))

/-- The raw output stays on the trip side: before it has been seen clear (R261), and over an empty window (Table 9-4). -/
def State.rawHeld (s : State) (x : TripIn) : Bool :=
  match x with
  | .cmp n => ((s.cmps[n]).hi || (s.cmps[n]).lo) && ((s.trState x == csUnresolved && !s.seenClear n) || s.winErr n)
  | .pin _ => false

/-- The input is sampled (R260); a pin is not. -/
def State.sampled (s : State) : TripIn → Bool
  | .cmp n => s.bit .CMP_CTRL_SAMP n
  | .pin _ => false

/-- The FAB cycles of one tick: 25 MHz over TICKDIV + 1, TICKDIV at most 24,999 (R260). -/
def State.tickLen (s : State) : TripIn → Nat
  | .cmp n => 16 * (min 24999 (s.getF .CMP_FILT_TICKDIV n) + 1)
  | .pin n => 16 * (min 24999 (s.getF .TPIN_FILT_TICKDIV n) + 1)

/-- A clean transition (R264). -/
def State.qualify (s : State) (x : TripIn) : State :=
  let s1 := (s.setF (tripInFlds x).state (tripInFlds x).i csTrip).setLatch (tripInFlds x).src true
  match x with
  | .cmp n => s1.setBit .CMP_STATUS_LOSIDE n ((s.trIn x).lo && !(s.trIn x).hi)
  | .pin _ => s1

/-- The gated output after the raw output or the window changed (R262), and Q where no filter stands between: in continuous mode with
FILT = 0 (R261, R263). -/
def State.gateStep (s : State) (x : TripIn) : State :=
  let f := tripInFlds x
  let t := s.trIn x
  let g := (t.hi || t.lo) && (t.gated || !t.blank)
  let s1 := s.modTrIn x (fun t => { t with gated := g })
  if g then
    if s1.trState x = csNormal ∧ s1.getF f.filt f.i = 0 ∧ s.sampled x = false then s1.qualify x else s1
  else s1.setF f.state f.i csNormal

/-- A decision on the input, where the input is enabled. -/
def State.decideIn (s : State) (x : TripIn) : State :=
  if s.trState x = csOff then s
  else
    let r := s.rawSides x
    (if (r.1 || r.2) || !s.rawHeld x then s.modTrIn x (fun t => { t with hi := r.1, lo := r.2 }) else s).gateStep x

/-- BLANK_WINDOW_END (R262). -/
def State.blankEndIn (s : State) (x : TripIn) : State :=
  let s1 := s.modTrIn x (fun t => { t with blank := false })
  if s1.trState x = csOff then s1 else s1.gateStep x

/-- The ticks at which the gated output must be found on the trip side: FILT of them, in sampled mode FILT after the first (R263). -/
def State.filtNeed (s : State) (x : TripIn) : Nat :=
  let f := tripInFlds x
  s.getF f.filt f.i + b2n (s.sampled x)

/-- `k` ticks up to the FAB cycle `now` have found the gated output as it is: on the trip side they count, and the output qualifies (R263). -/
def State.filtTicks (s : State) (x : TripIn) (k now : Nat) : State :=
  let t := s.trIn x
  let c := if t.gated then t.cnt + k else 0
  let s1 := s.modTrIn x (fun t => { t with cnt := c, cntAt := now })
  if t.gated ∧ s1.trState x = csNormal ∧ s.filtNeed x ≤ c then s1.qualify x else s1

/-- The ticks that have come up to the FAB cycle `now`, none without the reference, from which CMPTICK comes (R451); a sampled comparator
decides at them (R260). -/
def State.ticksTo (s : State) (x : TripIn) (now : Nat) : State :=
  let k := now / s.tickLen x - (s.trIn x).cntAt / s.tickLen x
  if k = 0 || !s.refOk then s else (if s.sampled x then s.decideIn x else s).filtTicks x k now

/-- What has come for an input up to the present FAB cycle: the ticks of its generator in its window, the window's end, and the ticks
since (R260, R262, R263).  Ticks fall on the multiples of their length, one at the window's end after it (log entry 47). -/
def State.inputRun (s : State) (x : TripIn) : State :=
  if s.trState x = csOff then s
  else
    let b := (s.trIn x).blankEnd
    let s1 := if (s.trIn x).blank && s.fabRuns && decide (b ≤ s.tick) then (s.ticksTo x (b - 1)).blankEndIn x else s
    s1.ticksTo x s.tick

/-- All inputs up to the present cycle. -/
def State.inputsRun (s : State) : State :=
  forIdx (n := 8) (fun n t => t.inputRun (.pin n)) (forIdx (n := 32) (fun n t => t.inputRun (.cmp n)) s)

/-- The reference returns: the ticks count from now on. -/
def State.ticksReturn (s : State) : State :=
  { s with cmps := s.cmps.map (fun t => { t with cntAt := s.tick }), pins := s.pins.map (fun t => { t with cntAt := s.tick }) }

/-- The first FAB cycle of the `k`-th tick from now on. -/
def State.tickAt (s : State) (x : TripIn) (k : Nat) : Nat := (s.tick / s.tickLen x + k) * s.tickLen x

/-- CMP_CROSSING: the voltage of a comparator's input, in units of 1.5 V / 384,000; it is decided at once, or at the next tick. -/
def execCmpCrossing (n : Fin 32) (v : Nat) (s : State) : Out :=
  .next (
    let x := TripIn.cmp n
    let s1 := (s.inputRun x).modTrIn x (fun t => { t with vin := v })
    if s.trState x != csOff && s.sampled x then (if s.refOk then (s1.passTo (s1.tickAt x 1)).inputRun x else s1) else s1.decideIn x)

/-- TRIP_PIN_CHANGE: the level of a TRIP ball. -/
def execTripPinChange (n : Fin 8) (level : Bool) (s : State) : Out :=
  .next (((s.inputRun (.pin n)).modTrIn (.pin n) (fun t => { t with vin := b2n level })).decideIn (.pin n))

/-- BLANK_WINDOW_END: the open window has lasted BLKLEN FAB cycles. -/
def execBlankWindowEnd (x : TripIn) (s : State) : Out :=
  .next (if (s.trIn x).blank && s.fabRuns then (s.passTo (s.trIn x).blankEnd).inputRun x else s)

/-- FILTER_QUALIFIED: the tick with which the filter's count is reached (R263). -/
def execFilterQualified (x : TripIn) (s : State) : Out :=
  .next (
    let s1 := s.inputRun x
    if s1.trState x = csNormal ∧ (s1.trIn x).gated = true ∧ s1.refOk = true then
      (s1.passTo (s1.tickAt x (max 1 (s1.filtNeed x - (s1.trIn x).cnt)))).inputRun x
    else s1)

/-- The input's route is not zero. -/
def State.routed (s : State) (src : Nat) : Bool := s.bit .TRIP_ROUTE_MUTE src || s.getF .TRIP_ROUTE_FG src != 0

/-- EN = 1 written: Q starts on the trip side, UNRESOLVED; in continuous mode the input is decided at once (R261). -/
def State.trInEnable (s : State) (x : TripIn) : State :=
  let f := tripInFlds x
  if s.trState x ≠ csOff then s
  else
    let s1 := ((s.setF f.en f.i 1).setF f.enst f.i enstOn).setF f.state f.i csUnresolved
    match x with
    | .cmp n =>
      let s2 := s1.modTrIn x (fun t => { t with hi := s.bit .CMP_CTRL_HIEN n, lo := s.bit .CMP_CTRL_LOEN n, gated := true, blank := false, cnt := 0, cntAt := s.tick })
      if s.bit .CMP_CTRL_SAMP n then s2 else s2.decideIn x
    | .pin _ => (s1.modTrIn x (fun t => { t with hi := true, lo := false, gated := true, blank := false, cnt := 0, cntAt := s.tick })).decideIn x

/-- EN = 0 written: refused in S4 for a routed input; else Q is on the non-trip side and the latch is kept (R266). -/
def State.trInDisable (s : State) (x : TripIn) : State :=
  let f := tripInFlds x
  if s.trState x = csOff then s
  else if s.inS4 && s.routed f.src then s.setF f.diserr f.i 1
  else (((s.setF f.en f.i 0).setF f.enst f.i enstOff).setF f.state f.i csOff).modTrIn x
    (fun t => { t with hi := false, lo := false, gated := false, blank := false })

/-- The inputs whose blanking windows open at an edge of pair `p`: `h` tells the high side's ball from the low side's, `rising` its
direction (R262).  A disabled input opens none, and a window that ends in this cycle is open no longer. -/
def State.openWindows (s : State) (p : Nat) (h rising : Bool) : State :=
  let ins := (List.finRange 32).map TripIn.cmp ++ (List.finRange 8).map TripIn.pin
  ins.foldl (fun t0 x =>
    let t := t0.inputRun x
    let f := tripInFlds x
    let e := t.getF f.blkedge f.i
    if t.trState x != csOff && t.getF f.blkpw f.i = p && ((e == 1 && h && rising) || e == 2) && !(t.trIn x).blank && t.getF f.blklen f.i != 0 then
      t.modTrIn x (fun u => { u with blank := true, blankEnd := t.tick + t.getF f.blklen f.i })
    else t) s

end Sys2Proof.Machine
end

