-- ==== Sys2Proof/Machine/Pwm.lean ====
section
/-! DEFINITION. The low-voltage bridge PWM: counting, planning, the dead-time guard, the interlock, trips and the
cycle-by-cycle limit (R283 to R302). -/
namespace Sys2Proof.Machine

def State.modPair (s : State) (n : Fin 24) (f : PairSt → PairSt) : State := { s with pairs := s.pairs.set n (f s.pairs[n]) }

/-! Counting (R284, R285). -/

/-- The effective PRD. -/
def PwSet.per (p : PwSet) : Nat := if p.updn then max 256 p.prd else max 511 p.prd
/-- FAB cycles of a period. -/
def PwSet.len (p : PwSet) : Nat := if p.updn then 2 * p.per else p.per + 1
/-- The count at a position, and whether it counts down; at the end of a period the last count stands until the next period begins. -/
def PwSet.count (p : PwSet) (pos : Nat) : Nat := if p.updn && decide (p.per < pos) then 2 * p.per - pos else min p.per pos
def PairSt.cnt (q : PairSt) : Nat := q.act.count (q.pos / 64)
def PairSt.down (q : PairSt) : Bool := q.act.updn && decide (q.act.per < q.pos / 64)

/-- The shadows of a pair as a set (R287). -/
def State.shadows (s : State) (n : Fin 24) : PwSet :=
  { updn := s.bit .PW_CFG_MODE n, prd := s.getF .PW_PRD_PRD n, phs := s.getF .PW_PHS_PHS n,
    cmpA := s.getF .PW_CMPA_CNT n * 64 + s.getF .PW_CMPA_FINE n, cmpB := s.getF .PW_CMPB_CNT n * 64 + s.getF .PW_CMPB_FINE n,
    trgA := BitVec.ofNat 32 (s.getF .PW_TRGA_EN n * 2 ^ 31 + s.getF .PW_TRGA_DIR n * 2 ^ 30 + s.getF .PW_TRGA_CNT n * 64),
    trgB := BitVec.ofNat 32 (s.getF .PW_TRGB_EN n * 2 ^ 31 + s.getF .PW_TRGB_DIR n * 2 ^ 30 + s.getF .PW_TRGB_CNT n * 64),
    rise := s.getF .PW_DT_RISE n, fall := s.getF .PW_DT_FALL n, minp := s.getF .PW_MINP_MINP n }

/-- A set's shadowed registers hold, DT and MINP are taken anew (R287). -/
def PwSet.held (p sh : PwSet) : PwSet := { p with rise := sh.rise, fall := sh.fall, minp := sh.minp }

/-! The reference X and its plan (R286, R290). -/

/-- tA and tB in 1/64 cycle; none where X is 0 for the whole period. -/
def PwSet.pulse (p : PwSet) : Option (Nat × Nat) :=
  let tb := if p.updn then (2 * p.per - p.cmpB / 64) * 64 + p.cmpB % 64 else p.cmpB
  if p.updn && decide (2 * p.per < p.cmpB / 64) then none
  else if p.cmpA < tb ∧ p.cmpA < p.len * 64 then some (p.cmpA, tb) else none

/-- X at a position of the period. -/
def PwSet.xAt (p : PwSet) (pos : Nat) : Bool :=
  match p.pulse with
  | some (a, b) => decide (a ≤ pos ∧ pos < b)
  | none => false

/-- The changes that X makes in a period: its level at the start, then its edges. -/
def PwSet.edges (p : PwSet) : List (Nat × Bool) :=
  (0, p.xAt 0) :: (match p.pulse with
    | some (a, b) => (if 0 < a then [(a, true)] else []) ++ (if b < p.len * 64 then [(b, false)] else [])
    | none => [])

/-- The counts of R290. -/
structure Judge where
  plan : List (Nat × Bool)
  sup : Nat := 0
  drop : Nat := 0
  stretch : Nat := 0
deriving DecidableEq, Repr

/-- One edge after the planned edges, newest first: it closes the interval that the last planned edge opened.  An interval whose
opening edge has already reached the ball passes. -/
def Judge.push (p : PwSet) (stretch : Bool) (x : Bool) (j : Judge) (e : Nat × Bool) : Judge :=
  match j.plan with
  | [] => if e.2 = x then j else { j with plan := [e] }
  | d :: rest =>
    if e.2 = d.2 then j
    else
      let dt := (if d.2 then p.rise else p.fall) * 64
      let w := e.1 - d.1
      if w ≤ dt then { j with plan := rest, sup := j.sup + 1 }
      else if w - dt < p.minp * 64 then
        if stretch then { j with plan := (d.1 + dt + p.minp * 64, e.2) :: j.plan, stretch := j.stretch + 1 }
        else { j with plan := rest, drop := j.drop + 1 }
      else { j with plan := e :: j.plan }

/-- Judges a period's edges, `off` after the start of the period in progress, behind the edges already planned.  A stretched edge of the
period before overrides the edges that lie before it. -/
def judgeEdges (p : PwSet) (stretch x : Bool) (plan : List (Nat × Bool)) (off : Nat) (es : List (Nat × Bool)) : Judge :=
  let hold := (plan.getLast?.map Prod.fst).getD 0
  let j := (es.filter (fun e => decide (hold ≤ off + e.1))).foldl (fun (j : Judge) e => j.push p stretch x (off + e.1, e.2)) ({ plan := plan.reverse } : Judge)
  { j with plan := j.plan.reverse }

/-! The outputs (R289, R291 to R294). -/

/-- A debug freeze is in force (R301). -/
def State.frozen (s : State) : Bool :=
  s.bit .DBG_PWM_FREEZE_FREEZE 0 && (List.range 24).any (fun n => s.bit .CE_STAT_HALTED n)

/-- The pair shows its trip state (ranks 1 and 2 of Table 10-2). -/
def State.tripForced (s : State) (n : Fin 24) : Bool :=
  s.bit .PW_TRIP_TRIPPED n || s.bit .PW_TRIP_CLKLOSS n || (s.pairs[n]).holdTrip

def State.pairOff (s : State) (n : Fin 24) : Bool := s.getF .PW_STAT_ENST n == enstOff

/-- The switches of a state coded as DSTATE and TSTATE. -/
def switchState (v : Nat) : Bool × Bool := (v == 2, v == 1)

/-- An override (R292). -/
def overridden (o : Nat) (cmd : Bool) : Bool := if o = 1 then false else if o = 2 then true else cmd

/-- The commands of the ranks 3, 5 and 6. -/
def State.commands (s : State) (n : Fin 24) : Bool × Bool :=
  let q := s.pairs[n]
  if s.pairOff n || !q.live then switchState (s.getF .PW_CFG_DSTATE n)
  else (overridden (s.getF .PW_OVR_OVRH n) q.planH, overridden (s.getF .PW_OVR_OVRL n) q.planL)

/-- The dead times that the guard uses: those of the active set, for DT is taken at the load point (R287, R291). -/
def State.deadTimes (s : State) (n : Fin 24) : Nat × Nat := ((s.pairs[n]).act.rise, (s.pairs[n]).act.fall)

/-- The ball of one switch changes: comparator windows open, and the limit's window at a turn-on of the high side (R262, R297). -/
def State.setBall (s : State) (n : Fin 24) (h on : Bool) : State :=
  let f : Fld := if h then .PW_STAT_HON else .PW_STAT_LON
  if s.bit f n = on then s
  else
    let pol := s.bit (if h then .PW_CFG_POLH else .PW_CFG_POLL) n
    let s1 := (s.setBit f n on).openWindows n h (on != pol)
    s1.modPair n (fun q =>
      if h then { q with hOff := if on then q.hOff else some q.now, cbcEnd := if on then s.tick + s.getF .PW_CBC_BLK n else q.cbcEnd }
      else { q with lOff := if on then q.lOff else some q.now })

/-- The dead time since `off` has passed. -/
def guardPassed (now dt : Nat) (off : Option Nat) : Bool :=
  match off with
  | none => true
  | some t => decide (t + dt * 64 ≤ now)

/-- The balls follow the wanted switches: turn-offs at once, turn-ons under the guard (R291). -/
def State.drive (s : State) (n : Fin 24) (want : Bool × Bool) : State :=
  let dt := s.deadTimes n
  let s1 := if want.1 then s else s.setBall n true false
  let s2 := if want.2 then s1 else s1.setBall n false false
  let q := s2.pairs[n]
  let s3 := if want.1 && !s2.bit .PW_STAT_LON n && guardPassed q.now dt.1 q.lOff then s2.setBall n true true else s2
  if want.2 && !s3.bit .PW_STAT_HON n && guardPassed q.now dt.2 q.hOff then s3.setBall n false true else s3

/-- The limit's blanking window is open: BLK FAB cycles from the last turn-on of the high side's ball (R297). -/
def State.cbcBlank (s : State) (n : Fin 24) : Bool := decide (s.tick < (s.pairs[n]).cbcEnd)

/-- The qualified output of the limit's comparator is on the trip side, outside blanking (R297). -/
def State.cbcActive (s : State) (n : Fin 24) : Bool :=
  s.bit .PW_CBC_EN n && !s.cbcBlank n && s.asserted (s.getF .PW_CBC_CMP n)

/-- X, with the hold of the limit. -/
def PairSt.xEff (q : PairSt) : Bool := q.x && !q.cbcHold

/-- The derived commands after X (with the hold) changed from `old`: the other switch turns off and the new one is due after its
dead time (R289). -/
def PairSt.deriveX (q : PairSt) (old : Bool) : PairSt :=
  if q.xEff = old then q
  else if q.xEff then { q with planL := false, planH := false, due := some (true, q.now + q.act.rise * 64) }
  else { q with planH := false, planL := false, due := some (false, q.now + q.act.fall * 64) }

/-- A due turn-on of the plan. -/
def PairSt.takeDue (q : PairSt) : PairSt :=
  match q.due with
  | some (h, t) => if t ≤ q.now then (if h then { q with planH := true, due := none } else { q with planL := true, due := none }) else q
  | none => q

/-- A cut of the cycle-by-cycle limit: X is held at 0 to the period end (R297). -/
def State.cbcCut (s : State) (n : Fin 24) : State :=
  (s.modPair n (fun q => ({ q with cbcHold := true }).deriveX q.xEff)).countF .PW_SUPCNT_CBC n 1

/-- The pair's outputs are held by the freeze (rank 4 of Table 10-2). -/
def State.heldFrozen (s : State) (n : Fin 24) : Bool := s.frozen && !(s.pairOff n || !(s.pairs[n]).live)

/-- The plan's part, with the limit, and the interlock's comparison of the commands, whatever a higher rank shows (R293). -/
def State.planPart (s : State) (n : Fin 24) : State :=
  let cut := s.cbcActive n && (s.pairs[n]).live && !s.pairOff n && !(s.pairs[n]).cbcHold && !s.bit .CLK_LOSS_ACTIVE 0 && !s.tripForced n
  let s1 := (if cut then s.cbcCut n else s).modPair n PairSt.takeDue
  let c := s1.commands n
  if c.1 && c.2 then (s1.setF .PW_STAT_XCONF n 1).setF .PW_STAT_XCONFST n 1 else s1.setF .PW_STAT_XCONFST n 0

/-- The pair's outputs are made to follow Table 10-2. -/
def State.settle (s : State) (n : Fin 24) : State :=
  let s1 := if s.heldFrozen n then s else s.planPart n
  if s.bit .CLK_LOSS_ACTIVE 0 then s1.drive n (false, false)
  else if s.tripForced n then s1.drive n (switchState (s.getF .PW_TRIP_TSTATE n))
  else if s.heldFrozen n then s1
  else
    let c := s1.commands n
    s1.drive n (if c.1 && c.2 then (false, false) else c)

/-! Running (R287, R288, R301). -/

/-- The counter of the pair runs. -/
def State.pairRuns (s : State) (n : Fin 24) : Bool :=
  s.pairOk n && s.fabRuns && (s.pairs[n]).started && !s.pairOff n && !s.frozen

/-- The pair's dead-time timers run: a freeze stops them, but not under a trip state or the disable state, which act in it (R301). -/
def State.timersRun (s : State) (n : Fin 24) : Bool := !s.frozen || s.tripForced n || s.pairOff n

/-- Moves the pair's time to position `p` of the period in progress, where it lies behind. -/
def PairSt.advanceTo (q : PairSt) (p : Nat) : PairSt :=
  if q.pos < p then { q with pos := p, now := q.now + (p - q.pos) } else q

/-- What a load takes: the shadows, or the active set while the pair's hold bit is 1 (R287). -/
def State.taken (s : State) (n : Fin 24) : PwSet :=
  if s.testF .PWM_HOLD_HOLD 0 n then (s.pairs[n]).act.held (s.shadows n) else s.shadows n

/-- The counts of a judgement (R290). -/
def State.countJudge (s : State) (n : Fin 24) (j : Judge) : State :=
  ((s.countF .PW_SUPCNT_SUP n j.sup).countF .PW_MCNT_DROP n j.drop).countF .PW_MCNT_STRETCH n j.stretch

/-- Pair `k` is chained to `m` (R288). -/
def State.chained (s : State) (k m : Fin 24) : Bool :=
  s.bit .PW_CFG_SYNC k && s.getF .PW_CFG_SYNCPW k == m.val && k != m && s.pairOk m && s.pairOk k && s.getF .PW_STAT_ENST k == enstOn

/-- The slaves of a pair whose period start lies 512 cycles ahead, where they have not started, take the set of their start, and so do theirs
where they start a period with it (R287, R288). -/
def State.chainTake (s : State) (m : Fin 24) : Nat → State
  | 0 => s
  | fuel + 1 =>
    (List.finRange 24).foldl (fun t k =>
      if t.chained k m && !(t.pairs[k]).started then
        let p := t.taken k
        let t1 := t.modPair k (fun q => { q with nxt := p, loaded := true })
        if p.phs = 0 then t1.chainTake k fuel else t1
      else t) s

/-- The load point: the next period's set is taken, and that period is planned (R287, R290). -/
def State.loadPoint (s : State) (n : Fin 24) : State :=
  let q := s.pairs[n]
  let nx := s.taken n
  let j := judgeEdges nx (s.bit .PW_CFG_MINP_MODE n) q.x q.plan (q.act.len * 64) nx.edges
  ((s.modPair n (fun q => { q with nxt := nx, loaded := true, plan := j.plan })).countJudge n j).chainTake n 24

/-- PWM_LOAD_POINT: 512 FAB cycles before the period start. -/
def execPwmLoadPoint (n : Fin 24) (s : State) : Out :=
  .next (let q := s.pairs[n]
    if s.pairRuns n && !q.loaded then (s.modPair n (fun q => q.advanceTo ((q.act.len - 512) * 64))).loadPoint n else s)

/-- The next planned edge of the period in progress takes effect. -/
def State.edgeStep (s : State) (n : Fin 24) : State :=
  let q := s.pairs[n]
  match q.plan with
  | (t, v) :: rest =>
    if t < q.act.len * 64 then
      (s.modPair n (fun q =>
        let q1 := { q.advanceTo t with plan := rest }
        ({ q1 with x := v }).deriveX q.xEff)).settle n
    else s
  | [] => s

/-- PWM_COMPARE_MATCH: the counter reaches the next planned edge of X. -/
def execPwmCompareMatch (n : Fin 24) (s : State) : Out := .next (if s.pairRuns n then s.edgeStep n else s)

/-- The edges of the period in progress that are still to come. -/
def State.finishEdges (s : State) (n : Fin 24) : Nat → State
  | 0 => s
  | k + 1 => (s.edgeStep n).finishEdges n k

/-- The pair goes OFF; the counter stops at its present value (R299). -/
def State.pairStop (s : State) (n : Fin 24) : State :=
  ((s.setF .PW_STAT_ENST n enstOff).modPair n (fun q =>
    { q with started := false, live := false, loaded := false, plan := [], x := false, planH := false, planL := false, due := none,
             cbcHold := false })).settle n

/-- A new period begins with the set loaded for it and with the edge planned at its start: a kept trip state and the limit's hold end, and
the outputs leave the disable state (R288, R296, R297). -/
def State.beginPeriod (s : State) (n : Fin 24) : State :=
  (s.modPair n (fun q =>
    let len := q.act.len * 64
    let es := q.plan.map (fun (e : Nat × Bool) => (e.1 - len, e.2))
    let x := (es.filter (fun e => e.1 == 0)).foldl (fun _ e => e.2) q.x
    let q1 := { q with plan := es.filter (fun e => e.1 != 0), x := x, act := q.nxt, pos := 0, loaded := false, holdTrip := false,
                       cbcHold := false }
    if q.live then q1.deriveX q.xEff else { q1 with live := true, planH := x, planL := !x, due := none })).settle n

/-- The edges planned for the next period, from its start, and X as that plan has it there. -/
def PairSt.nextEdges (q : PairSt) : List (Nat × Bool) :=
  (q.plan.filter (fun e => decide (q.act.len * 64 ≤ e.1))).map (fun e => (e.1 - q.act.len * 64, e.2))
def PairSt.nextX (q : PairSt) : Bool :=
  match q.nextEdges with
  | (t, v) :: _ => if t = 0 then v else !v
  | [] => (q.plan.getLast?.map Prod.snd).getD q.x

/-- The edges that change something, behind the level `x`. -/
def changes (x : Bool) : List (Nat × Bool) → List (Nat × Bool)
  | [] => []
  | e :: t => if e.2 = x then changes x t else e :: changes e.2 t

/-- Loads PHS of the set `p` and starts counting there; at PHS = 0 this is a period start (R288).  X takes the value that it has at count PHS,
and the interval that it opens there is judged with the rest of the period (R290).  What the load point of the next period has judged stands:
a period that begins now as `planned` there keeps its plan, and so does one whose load point PHS has passed. -/
def State.loadPhase (s : State) (n : Fin 24) (p : PwSet) (planned : Bool) : State :=
  let pos := p.phs * 64
  let q := s.pairs[n]
  if p.phs = 0 && planned then
    (s.modPair n (fun q => { q with
      plan := ((0, q.nextX) :: q.nextEdges.filter (fun e => e.1 != 0)).map (fun e => (e.1 + q.act.len * 64, e.2)) })).beginPeriod n
  else
    let j := judgeEdges p (s.bit .PW_CFG_MINP_MODE n) q.x [] 0 ((pos, p.xAt pos) :: p.edges.filter (fun e => decide (pos < e.1)))
    let s1 := (s.modPair n (fun q => { q with started := true, act := p, nxt := p, loaded := false })).countJudge n j
    if p.phs = 0 then
      (s1.modPair n (fun q => { q with plan := j.plan.map (fun e => (e.1 + q.act.len * 64, e.2)) })).beginPeriod n
    else
      let keep := q.started && q.loaded && decide (p.len ≤ p.phs + 512)
      let x := (j.plan.filter (fun e => e.1 == pos)).foldl (fun _ e => e.2) q.x
      let rest := j.plan.filter (fun e => e.1 != pos)
      let next := changes ((rest.getLast?.map Prod.snd).getD x) (q.nextEdges.map (fun e => (e.1 + p.len * 64, e.2)))
      (s1.modPair n (fun u =>
        ({ u with nxt := if keep then q.nxt else p, pos := pos, loaded := keep, x := x, plan := rest ++ (if keep then next else []) }).deriveX
          q.xEff)).settle n

/-- The slaves of a pair that starts a period load PHS; a slave that thereby starts a period passes it on. -/
def State.chainLoad (s : State) (m : Fin 24) : Nat → State
  | 0 => s
  | fuel + 1 =>
    (List.finRange 24).foldl (fun t k =>
      if t.chained k m then
        let q := t.pairs[k]
        let p := if q.loaded then q.nxt else if q.started then q.act else t.taken k
        if q.started && decide (q.pos = q.act.phs * 64) then t
        else
          let t1 := t.loadPhase k p (q.started && q.loaded)
          if p.phs = 0 then t1.chainLoad k fuel else t1
      else t) s

/-- PWM_PERIOD_START: the counter completes its period (R285, R287, R288, R299). -/
def State.periodStart (s : State) (n : Fin 24) : State :=
  let s1 := s.finishEdges n (s.pairs[n]).plan.length
  let s2 := s1.modPair n (fun q => q.advanceTo (q.act.len * 64))
  if s2.getF .PW_STAT_ENST n = enstDraining then s2.pairStop n
  else
    let s3 := if (s2.pairs[n]).loaded then s2 else s2.loadPoint n
    (s3.beginPeriod n).chainLoad n 24

def execPwmPeriodStart (n : Fin 24) (s : State) : Out := .next (if s.pairRuns n then s.periodStart n else s)

/-- DEAD_TIME_EXPIRY: the switch's dead time ends: a turn-on of the plan, or of the guard (R289, R291). -/
def execDeadTimeExpiry (n : Fin 24) (high : Bool) (s : State) : Out :=
  .next (if s.pairOk n && s.fabRuns && s.timersRun n then
    let q := s.pairs[n]
    let planDue := match q.due with | some (h, t) => if h = high then t else 0 | none => 0
    let dt := s.deadTimes n
    let guard := match (if high then q.lOff else q.hOff) with | some t => t + (if high then dt.1 else dt.2) * 64 | none => 0
    let t := max q.now (max planDue guard)
    let lim := match q.plan with | e :: _ => min e.1 (q.act.len * 64) | [] => q.act.len * 64
    (s.modPair n (fun q => { q with now := t, pos := if s.pairRuns n then max q.pos (min lim (q.pos + (t - q.now))) else q.pos })).settle n
  else s)

/-! Starts, enables and overrides (R288, R292, R299). -/

/-- PWM_START written: the masked pairs that are ON take their load and start together 512 cycles later (R287, R288). -/
def State.pwmStart (s : State) (mask : Nat) : State :=
  let hit := (List.finRange 24).filter (fun (n : Fin 24) => mask.testBit n && s.pairOk n && s.getF .PW_STAT_ENST n == enstOn)
  let m := hit.foldl (fun a (n : Fin 24) => a ||| 2 ^ n.val) 0
  let s1 := hit.foldl (fun t n =>
    let t1 := t.modPair n (fun q => { q with starts := q.starts ++ [t.taken n] })
    if (t.taken n).phs = 0 then t1.chainTake n 24 else t1) s
  { s1 with pwStarts := s1.pwStarts ++ [(s.tick + 512, BitVec.ofNat 24 m)] }

def execPwmStart (mask : BitVec 24) (s : State) : Out := .next (if s.fabBus then s.pwmStart mask.toNat else s)

/-- The oldest scheduled start (R288). -/
def State.startDue (s : State) : State :=
  match s.pwStarts with
  | [] => s
  | (_, m) :: rest =>
    (List.finRange 24).foldl (fun t (n : Fin 24) =>
      if m.getLsbD n then
        let p := (t.pairs[n]).starts.headD (t.taken n)
        let t0 := t.modPair n (fun q => { q with starts := q.starts.drop 1 })
        if t.getF .PW_STAT_ENST n == enstOn then
          let t1 := t0.loadPhase n p false
          if p.phs = 0 then t1.chainLoad n 24 else t1
        else t0
      else t) { s with pwStarts := rest }

/-- PWM_START_DUE: its FAB cycle arrives; while the pairs are frozen no counter starts (R301). -/
def execPwmStartDue (s : State) : Out :=
  .next (match s.pwStarts with
  | e :: _ => if s.fabRuns && !s.frozen then (s.passTo e.1).startDue else s
  | [] => s)

/-- EN = 1 written to a pair: its counter is held at PHS of the active copy, which no enable loads (R287, R288). -/
def State.pairEnable (s : State) (n : Fin 24) : State :=
  let was := s.getF .PW_STAT_ENST n
  let s1 := (s.setF .PW_CTRL_EN n 1).setF .PW_STAT_ENST n enstOn
  if was = enstOff then
    (s1.modPair n (fun q => { q with started := false, live := false, loaded := false, pos := q.act.phs * 64 })).settle n
  else s1

/-- EN = 0 written: OFF at once with IMMDIS or before a start, else DRAINING to the period end (R299). -/
def State.pairDisable (s : State) (n : Fin 24) : State :=
  let s1 := s.setF .PW_CTRL_EN n 0
  if s.pairOff n then s1
  else if s.bit .PW_CTRL_IMMDIS n || !(s.pairs[n]).started then s1.pairStop n
  else s1.setF .PW_STAT_ENST n enstDraining

/-- PWM_DISABLE: EN = 0 written; the value that EN already holds has no effect (R39, R299). -/
def execPwmDisable (n : Fin 24) (s : State) : Out := .next (if s.pairOk n && s.fabBus && s.bit .PW_CTRL_EN n then s.pairDisable n else s)

/-- A write of PWn_OVR: an override to on is refused in S4 (R292). -/
def State.writeOvr (s : State) (n : Fin 24) (h l : Nat) : State :=
  let one := fun (t : State) (f : Fld) (v : Nat) =>
    if v = 2 ∧ s.inS4 = true then t.setF .PW_STAT_OVRERR n 1 else t.setF f n v
  (one (one s .PW_OVR_OVRH h) .PW_OVR_OVRL l).settle n

def execPwmOverride (n : Fin 24) (ovrh ovrl : BitVec 2) (s : State) : Out :=
  .next (if s.pairOk n && s.fabBus then s.writeOvr n ovrh.toNat ovrl.toNat else s)

/-! Trips (R295 to R298). -/

/-- A force group line that the pair selects is high. -/
def State.pairLine (s : State) (n : Fin 24) : Bool := s.fgLines &&& s.getF .PW_TRIP_FGSEL n != 0

/-- Both switches off at once, then the trip state (R295).  A pending edge of the plan no longer reaches a ball: the trip state holds both
until a period start after the clear. -/
def State.pairTrip (s : State) (n : Fin 24) : State := ((s.setF .PW_TRIP_TRIPPED n 1).drive n (false, false)).settle n

/-- PWM_TRIP: a selected line rises. -/
def execPwmTrip (n : Fin 24) (s : State) : Out :=
  .next (if s.pairOk n && s.pairLine n && !s.bit .PW_TRIP_TRIPPED n then s.pairTrip n else s)

/-- CLR = 1 written (R296): the pair keeps its trip state until the next period start, and the plan goes on behind it. -/
def State.tripClear (s : State) (n : Fin 24) : State :=
  if s.pairLine n || s.bit .CLK_LOSS_ACTIVE 0 then s.setF .PW_TRIP_CLRFAIL n 1
  else if s.bit .PW_TRIP_TRIPPED n || s.bit .PW_TRIP_CLKLOSS n then
    ((s.setF .PW_TRIP_TRIPPED n 0).setF .PW_TRIP_CLKLOSS n 0).modPair n (fun q => { q with holdTrip := true })
  else s

def execPwmTripClear (n : Fin 24) (s : State) : Out := .next (if s.pairOk n && s.fabBus then s.tripClear n else s)

/-- CBC_CUT (R297). -/
def execCbcCut (n : Fin 24) (s : State) : Out :=
  .next (if s.pairRuns n && (s.pairs[n]).live && s.cbcActive n && !(s.pairs[n]).cbcHold then (s.cbcCut n).settle n else s)

/-- CBC_BLANK_END: the window has lasted BLK FAB cycles. -/
def execCbcBlankEnd (n : Fin 24) (s : State) : Out :=
  .next (if s.cbcBlank n && s.fabRuns then (s.passTo (s.pairs[n]).cbcEnd).settle n else s)

/-- The AON detector's report drives every ball off without the FAB clock (R298). -/
def State.pairsClockLoss (s : State) : State := forIdx (n := 24) (fun n t => t.settle n) s

/-- When the FAB clock runs again, each pair sets CLKLOSS (R298, R457). -/
def State.pairsClockBack (s : State) : State :=
  forIdx (n := 24) (fun n t => if t.pairOk n then (t.setF .PW_TRIP_CLKLOSS n 1).settle n else t) s

/-- An engine halts by debug, and a debugger enables halting on BRK or not. -/
def State.haltEngine (s : State) (n : Fin 24) (brk : Bool) : State :=
  let bit := BitVec.ofNat 24 (2 ^ n.val)
  { s.debugHalt n with haltEn := if brk then s.haltEn ||| bit else s.haltEn &&& ~~~bit }

/-- DEBUG_HALT, of an engine under the grant's level ENGINE; with FREEZE set every pair freezes (R301).  Of a supervisory core under SYSTEM
(R481): it makes no access until it resumes (DESIGN CHOICE, log entry 53). -/
def execDebugHalt (h : HaltReq) (s : State) : Out :=
  .next (match h.target with
    | .engine n => if s.ceLive n && s.fabRuns && s.debugLevel.testBit 0 then s.haltEngine n h.brk else s
    | .sup k =>
      if s.coresRun && s.debugLevel.testBit 1 then { s with sec := { s.sec with halted := s.sec.halted ||| BitVec.ofNat 4 (2 ^ k.val) } } else s)

/-! Triggers (R300). -/

/-- The position of a trigger word's match in the period. -/
def PwSet.trigPos (p : PwSet) (w : Word) : Option Nat :=
  let c := bitsOf w.toNat 21 6
  if !w.getLsbD 31 then none
  else if p.updn then
    if p.per < c then none
    else if w.getLsbD 30 then (if c = 0 then none else some (2 * p.per - c)) else some c
  else if p.per < c then none else some c

/-- The trigger has not passed in this period: it fires, and the pair's time comes up to it. -/
def State.fireTrigger (s : State) (n : Fin 24) (b : Bool) : Option State :=
  let q := s.pairs[n]
  match q.act.trigPos (if b then q.act.trgB else q.act.trgA) with
  | some c => if s.pairRuns n && decide (q.pos / 64 ≤ c) then some (s.modPair n (fun q => q.advanceTo (c * 64))) else none
  | none => none

end Sys2Proof.Machine
end

