-- ==== Sys2Proof/Machine/Adc.lean ====
section
/-! DEFINITION. The analogue converters: scans, ATU conversions, results and the test DAC (R306 to R318). -/
namespace Sys2Proof.Machine

def State.modAdc (s : State) (m : Fin 8) (f : AdcSt → AdcSt) : State := { s with adcs := s.adcs.set m (f s.adcs[m]) }

def State.adcOn (s : State) (m : Fin 8) : Bool := s.getF .AD_STAT_ENST m == enstOn

/-- The instance of list `l` of converter `m`. -/
def adList (m : Fin 8) (l : Nat) : Nat := m.val * 4 + l

/-- R312: the list is invalid. -/
def State.listBad (s : State) (m : Fin 8) (l : Nat) : Bool :=
  let i := adList m l
  let len := s.getF .AD_LLEN_LEN i
  !s.engOk (s.getF .AD_LBUF_ENG i) || len == 0 || decide (16384 < len) || decide (16384 < s.getF .AD_LBUF_BASE i + len) ||
  s.getF .AD_LCFG_MASK i == 0

/-- The inputs of the list in the order of DIR (R308). -/
def State.listInputs (s : State) (m : Fin 8) (l : Nat) : List Nat :=
  let up := (List.range 12).filter (fun k => (s.getF .AD_LCFG_MASK (adList m l)).testBit k)
  if s.bit .AD_LCFG_DIR (adList m l) then up.reverse else up

/-- The scan ends once its last input has been converted. -/
def State.scanEnd (s : State) (m : Fin 8) : State :=
  match (s.adcs[m]).scan with
  | some sc => if sc.rest = [] then (s.modAdc m (fun a => { a with scan := none })).setF .AD_STAT_BUSY m 0 else s
  | none => s

/-- The output angle 100 ns from now, at the sampling instant of a conversion that starts (R307, R311). -/
def State.sampleAngle (s : State) : Nat := (s.accFull + 40 * s.getF .ATU_FREQ_FREQ 0) / 65536 % 2 ^ 32

/-- A conversion of the scan's input `x`, with the state of the test DAC at its start (R317). -/
def State.scanConv (s : State) (m : Fin 8) (x : Nat) : AdcConv :=
  let test := s.bit .AD_TDAC_EN m && (s.getF .AD_TDAC_TMASK m).testBit x
  let val := some (s.getF .AD_TDAC_VAL m)
  { atu := false, input := x, test := test,
    sub := if test && !s.bit .AD_TDAC_MODE m then val else none,
    ball := if test && s.bit .AD_TDAC_MODE m then val else none }

/-- The converter's next conversion starts: a requested ATU conversion first, then the scan's next input (R311). -/
def State.adcNext (s : State) (m : Fin 8) : State :=
  if (s.adcs[m]).conv.isSome then s
  else
    let s1 := s.scanEnd m
    match (s.adcs[m]).atuQ, (s1.adcs[m]).scan with
    | x :: t, _ => s1.modAdc m (fun a => { a with conv := some { atu := true, input := x, test := false, angle := s.sampleAngle }, atuQ := t })
    | [], some sc =>
      match sc.rest with
      | x :: t => s1.modAdc m (fun a => { a with conv := some (s.scanConv m x), scan := some { sc with rest := t } })
      | [] => s1
    | [], none => s1

/-- A start dropped as an overrun (R310). -/
def State.scanDrop (s : State) (m : Fin 8) (l : Nat) (fret : Bool) : State :=
  let s1 := s.orF .AD_STAT_OVR m l
  if fret then s1.orF .FRET_ADCOVR_OVR 0 m else s1

/-- A scan of a valid list begins (R308, R314). -/
def State.scanBegin (s : State) (m : Fin 8) (l : Nat) (fret : Bool) : State :=
  let i := adList m l
  let base := s.getF .AD_LBUF_BASE i
  let len := s.getF .AD_LLEN_LEN i
  let ptr := s.getF .AD_LWPTR_PTR i
  let seq := s.getF .AD_LWPTR_SEQ i
  let s1 := s.setF .AD_LWPTR_SEQ i (seq + 1)
  let s2 := s1.setWhen (s.bit .AD_LBUF_MODE i || decide (ptr < base ∨ base + len ≤ ptr)) .AD_LWPTR_PTR i base
  let s3 := (s2.setF .AD_STAT_BUSY m 1).setF .AD_STAT_CURLIST m l
  let sc : ScanSt :=
    { list := l, rest := s.listInputs m l, eng := s.getF .AD_LBUF_ENG i, base := base, len := len, start := some (s.tick, fret, seq, ptr) }
  (s3.modAdc m (fun a => { a with scan := some sc })).adcNext m

/-- A scan that began in this FAB cycle gives way to a lower list: it is dropped as an overrun, with SEQ and PTR as they were (R310). -/
def State.scanYield (s : State) (m : Fin 8) (sc : ScanSt) (fret : Bool) (seq ptr : Nat) : State :=
  let i := adList m sc.list
  let s1 := (s.setF .AD_LWPTR_SEQ i seq).setF .AD_LWPTR_PTR i ptr
  (s1.modAdc m (fun a => { a with scan := none, conv := a.conv.filter (fun c => c.atu) })).scanDrop m sc.list fret

/-- A start of an invalid list is dropped with CFGERR (R310, R312). -/
def State.scanRefuse (s : State) (m : Fin 8) (l : Nat) (fret : Bool) : State :=
  let b : BadStart := { tick := s.tick, list := l, fret := fret, was := s.testF .AD_STAT_CFGERR m l }
  (s.modAdc m (fun a => { a with bad := b :: a.bad.filter (fun x => x.tick == s.tick) })).orF .AD_STAT_CFGERR m l

/-- A start of a valid list that finds none running: the starts of higher lists that this FAB cycle dropped for their configuration are
overruns of it, whatever the order (R310; DEDUCED, log entry 50). -/
def State.scanFirst (s : State) (m : Fin 8) (l : Nat) (fret : Bool) : State :=
  let late := (s.adcs[m]).bad.filter (fun b => b.tick == s.tick && decide (l < b.list))
  (late.foldl (fun t b => (t.setWhen (!b.was) .AD_STAT_CFGERR m (t.getF .AD_STAT_CFGERR m &&& (15 - 2 ^ b.list))).scanDrop m b.list b.fret)
    s).scanBegin m l fret

/-- A start of list `l` (R310, R312).  Of starts in one FAB cycle the lowest list runs, and two of one list are one. -/
def State.scanStart (s : State) (m : Fin 8) (l : Nat) (fret : Bool) : State :=
  if !(s.adcOn m && s.fabRuns) then s
  else match (s.adcs[m]).scan with
    | some sc =>
      match sc.start with
      | some (t, fr, seq, ptr) =>
        if t = s.tick ∧ sc.list = l then s.modAdc m (fun a => { a with scan := some { sc with start := some (t, fr || fret, seq, ptr) } })
        else if t = s.tick ∧ l < sc.list then
          if s.listBad m l then s.scanRefuse m l fret else (s.scanYield m sc fr seq ptr).scanBegin m l fret
        else s.scanDrop m l fret
      | none => s.scanDrop m l fret
    | none => if s.listBad m l then s.scanRefuse m l fret else s.scanFirst m l fret

/-- The SCAN word of converter `m` in the row being dispatched (Table 2-6). -/
def State.scanWord (s : State) (m : Fin 8) : Nat :=
  match s.fretd.row with
  | none => 0
  | some (c, r) => s.rowWord c r (0xC0 + 4 * m)

/-- SCAN_START: a start by the fret table at its offset, by a PWM event or by software (R71, R73, R309). -/
def execScanStart (m : Fin 8) (l : Fin 4) (src : ScanSource) (s : State) : Out :=
  .next (match src with
    | .fret =>
      let w := s.scanWord m
      if 2 ^ 31 ≤ w ∧ bitsOf w 25 24 = l.val ∧ s.fretd.scanned.getLsbD m = false ∧ s.atuRuns = true then
        let s0 := s.raiseAngle (w % 65536)
        ({ s0 with fretd := { s0.fretd with scanned := s0.fretd.scanned ||| BitVec.ofNat 8 (2 ^ m.val) } }).scanStart m l true
      else s
    | .pwm => if s.bit .AD_LCFG_TRGEN (adList m l) && s.pairOk (s.getF .AD_LCFG_EVT (adList m l) / 2) then s.scanStart m l false else s
    | .software => s.scanStart m l false)

/-- Writing bits of SWGO: the lowest list runs, the others are overruns (R309, R310). -/
def State.swgo (s : State) (m : Fin 8) (lists : Nat) : State :=
  (List.range 4).foldl (fun t l => if lists.testBit l then t.scanStart m l false else t) s

/-- A write reaches the converters. -/
def State.anaBus (s : State) : Bool := s.fabBus && s.powered domAna

def execAdcSwgo (m : Fin 8) (lists : BitVec 4) (s : State) : Out := .next (if s.anaBus then s.swgo m lists.toNat else s)

/-- A PWM event starts every list that selects it (R309). -/
def State.pwmEvent (s : State) (e : Nat) : State :=
  (List.finRange 8).foldl (fun t m => (List.range 4).foldl (fun t l =>
    if t.bit .AD_LCFG_TRGEN (adList m l) && t.getF .AD_LCFG_EVT (adList m l) == e then t.scanStart m l false else t) t) s

/-- PWM_TRIGGER: TRGA or TRGB of the pair matches the counter (R300). -/
def execPwmTrigger (n : Fin 24) (b : Bool) (s : State) : Out :=
  .next (match s.fireTrigger n b with
    | some s1 => s1.pwmEvent (2 * n + b2n b)
    | none => s)

/-- The result word (Table 11-1). -/
def resultWord (input list seq code : Nat) (test : Bool) : Nat :=
  input * 2 ^ 28 + list * 2 ^ 26 + b2n test * 2 ^ 25 + seq * 2 ^ 16 + code

/-- A scan's result is stored and PTR advances, back to BASE at the end of the buffer (R313, R314). -/
def State.storeResult (s : State) (m : Fin 8) (sc : ScanSt) (c : AdcConv) (code : Nat) : State :=
  let i := adList m sc.list
  let ptr := s.getF .AD_LWPTR_PTR i
  let a := ceData sc.eng + 4 * ptr
  let s1 := (s.setBytes a (resultWord c.input sc.list (s.getF .AD_LWPTR_SEQ i) code c.test) 4).freshWord a
  s1.setF .AD_LWPTR_PTR i (if sc.base + sc.len ≤ ptr + 1 then sc.base else ptr + 1)

/-- The inputs the ATU names: input numbers 0 to 95 (R54). -/
def State.atuInputs (s : State) : List Nat :=
  if s.bit .ATU_ADCSEL_SINGLE 0 then [s.getF .ATU_ADCSEL_AINA 0]
  else [s.getF .ATU_ADCSEL_AINA 0, s.getF .ATU_ADCSEL_AINB 0, s.getF .ATU_ADCSEL_AINC 0]

/-- ATU_ADCSEL names inputs above 95 or two on one converter. -/
def State.adcselBad (s : State) : Bool :=
  s.atuInputs.any (fun x => decide (95 < x)) || !decide (s.atuInputs.map (fun x => x / 12)).Nodup

/-- The samples of the named inputs, each with the output angle at its instant; with SINGLE the phase A sample and its copy of a quarter
cycle before, the quadrature signal (R54). -/
def AtuSt.phases (a : AtuSt) (inputs : List Nat) (single : Bool) : List (Nat × Int) :=
  let now := inputs.filterMap (fun x => (a.got.find? (fun g => g.1 == x)).map (fun g => (g.2.1, (g.2.2 : Int))))
  let old := (a.hist.find? (fun h => h.1 + 2 ^ 30 == a.absStart)).map (fun h => h.2.2)
  match single, now, old with
  | true, (x, c) :: _, some q => [(x, c), (x, (q : Int))]
  | _, _, _ => now

/-- The fundamental's amplitude lies below ATU_ADCMIN. -/
def ampLow (dq : Int × Int) (min : Nat) : Bool := decide (dq.1 * dq.1 + dq.2 * dq.2 < ((min * min : Nat) : Int))

/-- The ADC tracker takes the samples of a fret: the phase error, the amplitude against ATU_ADCMIN, and the record of phase A (R54, R55,
R58). -/
def AtuSt.takeAdc (a : AtuSt) (inputs : List Nat) (single : Bool) (min : Nat) : AtuSt :=
  let dq := Config.rotate (a.phases inputs single)
  let keep := a.hist.filter (fun h => decide (a.absStart < h.1 + 2 ^ 30))
  { a with
    adcTr := { a.adcTr with pherr := (Config.phaseOf dq).toInt, fresh := true },
    lowFrom := if a.deaf || ampLow dq min then some (a.lowFrom.getD a.absStart) else none,
    hist := match a.got.find? (fun g => some g.1 == inputs.head?) with
      | some g => (a.absStart, g.2) :: keep
      | none => keep }

/-- The code of an ATU conversion of input `x` reaches the ATU; with the last named input the tracker takes the samples. -/
def State.atuSample (s : State) (x angle code : Nat) : State :=
  if !s.atuInputs.contains x then s
  else
    let a := { s.atu with got := s.atu.got ++ [(x, angle, code)] }
    if s.atuInputs.all (fun y => a.got.any (fun g => g.1 == y)) && !s.atuInputs.all (fun y => s.atu.got.any (fun g => g.1 == y)) then
      { s with atu := a.takeAdc s.atuInputs (s.bit .ATU_ADCSEL_SINGLE 0) (s.getF .ATU_ADCMIN_ADCMIN 0) }
    else { s with atu := a }

/-- The code of a voltage in units of 2^-10 µV (R306): floor of V × 4,096 / 1.5 V, cut to 0 and 4,095. -/
def adcCode (v : Int) : Nat := (max 0 (min 4095 (v * 4 / 1500000))).toNat

/-- The resistor through which the test DAC of converter `m` drives the input line in BALL mode, in Ω (R317). -/
def tdacOhm (m : Nat) : Nat := 8000 + Config.tdacTrim m % 4001

/-- The voltage at the ball, in units of 2^-10 µV: the source's, pulled in BALL mode towards the DAC's output by Rs / (Rs + R), at an open
ball all the way (R317). -/
def AdcConv.ballVolt (c : AdcConv) (m : Nat) (x : AdcInput) : Int :=
  match c.ball, x.rs with
  | none, _ => 1024 * x.v
  | some val, none => 1500000 * (val : Int)
  | some val, some rs => 1024 * x.v + (1500000 * (val : Int) - 1024 * x.v) * (rs : Int) / ((rs + tdacOhm m : Nat) : Int)

/-- The code of a conversion: of the ball, or of the test DAC in SUBST mode, with the converter's error (R306, R317). -/
def AdcConv.code (c : AdcConv) (m : Nat) (x : AdcInput) : Nat :=
  match c.sub with
  | some val => adcCode (1500000 * (val : Int) + 1024 * x.e)
  | none => adcCode (c.ballVolt m x + 1024 * x.e)

/-- ADC_CONVERSION_DONE of what was at the input's ball at the sampling instant.  The code goes to the
scan's buffer or to the ATU; a DRAINING converter goes OFF (R306, R311, R316). -/
def execAdcConversionDone (m : Fin 8) (x : AdcInput) (s : State) : Out :=
  .next (match (s.adcs[m]).conv with
    | none => s
    | some c =>
      if s.fabRuns = false then s
      else
        let s1 := s.modAdc m (fun a => { a with conv := none, scan := a.scan.map (fun sc => { sc with start := none }) })
        let s2 := if c.atu then s1.atuSample (12 * m + c.input) c.angle (c.code m x)
          else match (s.adcs[m]).scan with
            | some sc => s1.storeResult m sc c (c.code m x)
            | none => s1
        if s.getF .AD_STAT_ENST m = enstDraining then
          ((s2.modAdc m (fun _ => {})).setF .AD_STAT_BUSY m 0).setF .AD_STAT_ENST m enstOff
        else s2.adcNext m)

/-- The converter serves an input of the ADC source in S4: a disable or URST is refused (R316). -/
def State.adcServes (s : State) (m : Fin 8) : Bool :=
  s.inS4 && s.getF .ATU_STAT_SRC 0 == 0 && (s.atuInputs.map (fun x => x / 12)).contains m.val

/-- The request for the conversion of one named input: on a converter that is not ON the ATU receives code 0, which counts as an amplitude
below ATU_ADCMIN (R58, R311). -/
def State.atuRequest (s : State) (x : Nat) : State :=
  let m := Fin.ofNat 8 (x / 12)
  if s.adcOn m then (s.modAdc m (fun a => { a with atuQ := a.atuQ ++ [x % 12] })).adcNext m
  else ({ s with atu := { s.atu with deaf := true } }).atuSample x (s.accFull / 65536 % 2 ^ 32) 0

/-- The ATU's conversions at a boundary, one of each named input (R54, R311).  That a refused ATU_ADCSEL takes no conversion at all is the
model's choice (DESIGN CHOICE, log entry 42). -/
def State.atuConversions (s : State) : State :=
  let s0 := { s with atu := { s.atu with got := [], deaf := false } }
  if s.adcselBad then s0 else s.atuInputs.foldl (fun t x => t.atuRequest x) s0

/-- EN = 1 written to a converter. -/
def State.adEnable (s : State) (m : Fin 8) : State := (s.setF .AD_CTRL_EN m 1).setF .AD_STAT_ENST m enstOn

/-- The ATU receives code 0 for the conversions that the converter drops (R311). -/
def State.atuDrop (s : State) (m : Fin 8) (xs : List Nat) : State :=
  xs.foldl (fun t x => ({ t with atu := { t.atu with deaf := true } }).atuSample (12 * m + x) (s.accFull / 65536 % 2 ^ 32) 0) s

/-- EN = 0 written: the conversion in progress completes, the rest of the scan is dropped (R316). -/
def State.adDisable (s : State) (m : Fin 8) : State :=
  if s.adcServes m then s.setF .AD_STAT_DISERR m 1
  else
    let a := s.adcs[m]
    let s1 := (s.setF .AD_CTRL_EN m 0).atuDrop m a.atuQ
    if a.conv.isSome then
      let s2 := if a.conv.any (fun c => c.atu) then (s1.modAdc m (fun a => { a with scan := none })).setF .AD_STAT_BUSY m 0 else s1
      (s2.modAdc m (fun a => { a with atuQ := [], scan := a.scan.map (fun sc => { sc with rest := [] }) })).setF .AD_STAT_ENST m enstDraining
    else (((s1.modAdc m (fun _ => {})).setF .AD_STAT_BUSY m 0).setF .AD_STAT_ENST m enstOff)

/-- AD_URST (R316). -/
def State.adReset (s : State) (m : Fin 8) : State :=
  if s.adcServes m then s.setF .AD_STAT_DISERR m 1
  else
    let a := s.adcs[m]
    let cut := (a.conv.toList.filter (fun c => c.atu)).map (fun c => c.input)
    (((((s.atuDrop m (cut ++ a.atuQ)).modAdc m (fun _ => {})).setF .AD_CTRL_EN m 0).setF .AD_STAT_BUSY m 0).setF .AD_STAT_ENST m enstOff)

def execAdUrst (m : Fin 8) (s : State) : Out := .next (if s.anaBus then s.adReset m else s)

/-- A write of ADn_TDAC: BALL mode is not enabled in S4; MODE and TMASK are locked fields (R23, R317). -/
def State.writeTdac (s : State) (m : Fin 8) (w : Word) : State :=
  let locked := s.bit .ADC_CTRL_LOCK 0
  let mode := if locked then s.getF .AD_TDAC_MODE m else bitsOf w.toNat 30 30
  let tmask := if locked then s.getF .AD_TDAC_TMASK m else bitsOf w.toNat 27 16
  let s0 := s.setWhen (decide (mode ≠ bitsOf w.toNat 30 30 ∨ tmask ≠ bitsOf w.toNat 27 16)) .ADC_STAT_LKERR 0 1
  if s.inS4 && w.getLsbD 31 && mode == 1 then s0.setF .AD_STAT_TDACERR m 1
  else (((s0.setF .AD_TDAC_EN m (bitsOf w.toNat 31 31)).setF .AD_TDAC_MODE m mode).setF .AD_TDAC_TMASK m tmask).setF .AD_TDAC_VAL m
    (bitsOf w.toNat 9 0)

def execTdacWrite (m : Fin 8) (w : Word) (s : State) : Out := .next (if s.anaBus then s.writeTdac m w else s)

end Sys2Proof.Machine
end

