-- ==== Sys2Proof/Machine/AuxDrive.lean ====
section
/-! DEFINITION. The auxiliary half-bridges and the core-rail regulator (R320 to R335).  The commands of PWRGD_DEASSERT and
SOFT_START_TIMEOUT that reach the bring-up are in Pmc. -/
namespace Sys2Proof.Machine

/-! The auxiliary half-bridges. -/

def State.modAux (s : State) (x : Fin 4) (f : AuxSt → AuxSt) : State := { s with aux := s.aux.set x (f s.aux[x]) }

/-- The auxiliary drive die is present and powered (Table 0-1, Table 18-3). -/
def State.auxOk (s : State) : Bool := s.powered domHv

/-- PRD with its limits (R321). -/
def State.auxPrd (s : State) : Nat := max 999 (min 24999 (s.getF .AUX_PRD_PRD 0))

/-- HONMAX of the refresh clamp (R322). -/
def State.honMax (s : State) (x : Fin 4) : Nat :=
  let p := s.auxPrd + 1
  p - max ((3 * p + 99) / 100) (40 + s.getF .AUXH_CFG_DT x)

/-- The half-bridge's switches as its commands and faults want them (R323 to R326). -/
def State.auxWant (s : State) (x : Fin 4) : Bool × Bool :=
  let a := s.aux[x]
  if s.auxc.linkDown || a.lkHold || a.vdHold || a.dsHold || s.auxc.vdLow then (false, false)
  else if x.val < 3 && s.auxc.short.isSome then (false, true)
  else if a.hcmd && a.lcmd then (false, false)
  else (a.hcmd && !a.bsHold && !a.bsLow, a.lcmd)

/-- A switch's ball: a turn-off notes the time and closes the monitor. -/
def AuxSt.setH (a : AuxSt) (now : Nat) (v : Bool) : AuxSt :=
  if a.ho = v then a else { a with ho := v, monH := false, hOff := if v then a.hOff else some now }
def AuxSt.setL (a : AuxSt) (now : Nat) (v : Bool) : AuxSt :=
  if a.lo = v then a else { a with lo := v, monL := false, lOff := if v then a.lOff else some now }

def auxGuard (now dt : Nat) (off : Option Nat) : Bool := match off with | none => true | some t => decide (t + dt ≤ now)

/-- The balls follow: turn-offs at once, turn-ons after the dead time (R322). -/
def State.auxDrive (s : State) (x : Fin 4) : State :=
  let w := s.auxWant x
  let now := s.auxc.now
  let dt := s.getF .AUXH_CFG_DT x
  s.modAux x (fun a =>
    let a1 := if w.1 then a else a.setH now false
    let a2 := if w.2 then a1 else a1.setL now false
    let a3 := if w.1 && !a2.lo && auxGuard now dt a2.lOff then a2.setH now true else a2
    if w.2 && !a3.ho && auxGuard now dt a3.hOff then a3.setL now true else a3)

/-- All four half-bridges. -/
def State.auxDriveAll (s : State) : State := forIdx (n := 4) (fun x t => t.auxDrive x) s

/-- A fault of the half-bridge ends at its command edge; one whose condition persists is detected again (R325). -/
def State.auxEdge (s : State) (x : Fin 4) : State :=
  if s.auxc.linkDown then s
  else
    let a := s.aux[x]
    let s1 := { (s.modAux x (fun a => { a with bsHold := a.bsLow, vdHold := s.auxc.vdLow, dsHold := false, lkHold := false })) with
      auxc := { s.auxc with short := if s.auxc.short = some x then none else s.auxc.short } }
    let s2 := if a.bsHold && a.bsLow then (s1.setF .AUXH_STAT_BSUV x 1).countF .AUXH_FCNT_BSUV x 1 else s1
    s2.setBit .AUX_STAT_ASHORT 0 s2.auxc.short.isSome

/-- The commands after overrides are formed anew; a change is a command edge (R325, R326). -/
def State.auxCommand (s : State) (x : Fin 4) : State :=
  let a := s.aux[x]
  let on := s.getF .AUXH_STAT_ENST x != enstOff
  let h := on && overridden (s.getF .AUXH_OVR_OVRH x) a.gH
  let l := on && overridden (s.getF .AUXH_OVR_OVRL x) a.gL
  let s1 := s.modAux x (fun a => { a with hcmd := h, lcmd := l })
  let s2 := if h != a.hcmd || l != a.lcmd then s1.auxEdge x else s1
  let s3 := (s2.setBit .AUXH_STAT_XCONFST x (h && l)).setWhen (h && l) .AUXH_STAT_XCONF x 1
  s3.auxDriveAll

/-- The period starts for one half-bridge: its duty is copied unless held, whatever its ENST; a DRAINING one goes OFF, one that is ON takes the
duty (R321, R322, R327). -/
def State.auxPeriod (s : State) (x : Fin 4) : State :=
  let want := if s.bit .AUX_CTRL_HOLD 0 then (s.aux[x]).hon else s.getF .AUXH_DUTY_HON x
  let s1 := s.modAux x (fun a => { a with hon := want })
  if s.getF .AUXH_STAT_ENST x = enstDraining then
    ((s1.setF .AUXH_STAT_ENST x enstOff).modAux x (fun a => { a with gH := false, gL := false })).auxCommand x
  else if s.getF .AUXH_STAT_ENST x = enstOn then
    let hon := min want (s.honMax x)
    let s2 := s1.countF .AUXH_FCNT_CLAMP x (b2n (decide (s.honMax x < want)))
    (s2.modAux x (fun a => { a with gH := decide (0 < hon), gL := decide (hon = 0) })).auxCommand x
  else s1

/-- AUX_PERIOD_START. -/
def State.auxPeriodStart (s : State) : State :=
  forIdx (n := 4) (fun x t => t.auxPeriod x)
    { s with auxc := { s.auxc with cnt := 0, now := s.auxc.now + (s.auxPrd + 1 - s.auxc.cnt) } }

def execAuxPeriodStart (s : State) : Out := .next (if s.auxOk && s.fabRuns then s.auxPeriodStart else s)

/-- Brings the period counter up to a count. -/
def State.auxRaise (s : State) (c : Nat) : State :=
  if s.auxc.cnt < c then { s with auxc := { s.auxc with cnt := c, now := s.auxc.now + (c - s.auxc.cnt) } } else s

/-- AUX_HON_MATCH: the command passes to the low side. -/
def State.auxMatch (s : State) (x : Fin 4) : State :=
  ((s.auxRaise (min (s.aux[x]).hon (s.honMax x))).modAux x (fun a => { a with gH := false, gL := true })).auxCommand x

def execAuxHonMatch (x : Fin 4) (s : State) : Out :=
  .next (if s.auxOk && s.fabRuns && (s.aux[x]).gH then s.auxMatch x else s)

/-- AUX_DEAD_TIME_EXPIRY: the waiting switch turns on. -/
def execAuxDeadTimeExpiry (x : Fin 4) (high : Bool) (s : State) : Out :=
  .next (if s.auxOk && s.fabRuns then
    let off := if high then (s.aux[x]).lOff else (s.aux[x]).hOff
    let due := match off with | some t => t + s.getF .AUXH_CFG_DT x | none => 0
    let d := due - s.auxc.now
    ({ s with auxc := { s.auxc with now := s.auxc.now + d, cnt := min s.auxPrd (s.auxc.cnt + d) } }).auxDrive x
  else s)

/-- BOOTSTRAP_UV (R323). -/
def execBootstrapUv (x : Fin 4) (s : State) : Out :=
  .next (if s.auxOk && !(s.aux[x]).bsLow then
    (((s.setF .AUXH_STAT_BSUV x 1).countF .AUXH_FCNT_BSUV x 1).modAux x (fun a => { a with bsLow := true, bsHold := true })).auxDrive x
  else s)

/-- BOOTSTRAP_RECOVER: the high side stays off until the next command edge (R325). -/
def execBootstrapRecover (x : Fin 4) (s : State) : Out :=
  .next (if s.auxOk then (s.modAux x (fun a => { a with bsLow := false })).auxDrive x else s)

/-- The supplies as VDRVUV and VHVUV show them. -/
def State.auxSupply (s : State) (vd vh : Bool) : State :=
  (({ s with auxc := { s.auxc with vdLow := vd, vhLow := vh } }).setBit .AUX_STAT_VDRVUV 0 vd).setBit .AUX_STAT_VHVUV 0 vh

/-- VDRV_UV: every switch turns off; `vhv` tells that VHV has fallen below 10.5 V. -/
def execVdrvUv (vhv : Bool) (s : State) : Out :=
  .next (if s.auxOk then
    (forIdx (n := 4) (fun x t => t.modAux x (fun a => { a with vdHold := true }))
      (s.auxSupply true (vhv || s.auxc.vhLow))).auxDriveAll
  else s)

/-- VDRV_RECOVER: each half-bridge resumes at its first command edge. -/
def execVdrvRecover (s : State) : Out :=
  .next (if s.auxOk then (s.auxSupply false false).auxDriveAll else s)

/-- AUX_DESAT_BLANK_END: the monitor of a switch that is on opens (R324). -/
def execAuxDesatBlankEnd (x : Fin 4) (high : Bool) (s : State) : Out :=
  .next (s.modAux x (fun a => if high then { a with monH := a.ho } else { a with monL := a.lo }))

/-- AUX_DESAT: on AUXA to AUXC an active short, on AUXD both switches off; a low side during the short is only counted (R324). -/
def State.auxDesat (s : State) (x : Fin 4) (high : Bool) : State :=
  let s1 := s.countF .AUXH_FCNT_DESAT x 1
  if x.val < 3 then
    if s.auxc.short.isSome && !high then s1
    else
      let s2 := { s1.setF .AUXH_STAT_DESAT x 1 with auxc := { s1.auxc with short := some x } }
      (s2.setF .AUX_STAT_ASHORT 0 1).auxDriveAll
  else ((s1.setF .AUXH_STAT_DESAT x 1).modAux x (fun a => { a with dsHold := true })).auxDrive x

def execAuxDesat (x : Fin 4) (high : Bool) (s : State) : Out :=
  .next (if s.auxOk && (if high then (s.aux[x]).monH else (s.aux[x]).monL) then s.auxDesat x high else s)

/-- A write of AUXx_OVR. -/
def State.writeAuxOvr (s : State) (x : Fin 4) (h l : Nat) : State :=
  ((s.setF .AUXH_OVR_OVRH x h).setF .AUXH_OVR_OVRL x l).auxCommand x

def execAuxOverride (x : Fin 4) (ovrh ovrl : BitVec 2) (s : State) : Out :=
  .next (if s.auxOk && s.fabBus then s.writeAuxOvr x ovrh.toNat ovrl.toNat else s)

/-- AUX_LINK_LOSS after 10 µs (R327). -/
def execAuxLinkLoss (s : State) : Out :=
  .next (if s.auxOk then
    (forIdx (n := 4) (fun x t => t.modAux x (fun a => { a with lkHold := true }))
      { s.setF .AUX_STAT_LINKLOSS 0 1 with auxc := { s.auxc with linkDown := true } }).auxDriveAll
  else s)

/-- AUX_LINK_RETURN: each half-bridge resumes at its first command edge from here on, one enabled during the loss too. -/
def execAuxLinkReturn (s : State) : Out :=
  .next (if s.auxc.linkDown then
    forIdx (n := 4) (fun x t => t.modAux x (fun a => { a with lkHold := true })) { s with auxc := { s.auxc with linkDown := false } }
  else s)

/-- EN of a half-bridge (R327, R37 to R39): it starts with the next period. -/
def State.auxEnable (s : State) (x : Fin 4) : State := (s.setF .AUXH_CTRL_EN x 1).setF .AUXH_STAT_ENST x enstOn

def State.auxDisable (s : State) (x : Fin 4) : State :=
  let s1 := s.setF .AUXH_CTRL_EN x 0
  if s.getF .AUXH_STAT_ENST x = enstOff then s1
  else if (s.aux[x]).gH || (s.aux[x]).gL then s1.setF .AUXH_STAT_ENST x enstDraining
  else (s1.setF .AUXH_STAT_ENST x enstOff).auxCommand x

/-! The core-rail regulator (R328 to R334). -/

/-- SSTATE of Table 12-3. -/
def ssHiccup : Nat := 0
def ssSoft : Nat := 1
def ssRun : Nat := 2
def ssLatch : Nat := 3

def State.sstate (s : State) : Nat := s.getF .VREG_STAT_SSTATE 0
/-- The regulator regulates; it runs whenever AON is powered (R328). -/
def State.regulating (s : State) : Bool := s.aonRuns && (s.sstate == ssSoft || s.sstate == ssRun)

def VregSt.setPhase (v : VregSt) (p : Fin 4) (l : PhaseLevel) : VregSt := { v with phase := v.phase.set p l }

/-- The next phase in rotation that is not still on (R329). -/
def State.nextPhase (s : State) : Option (Fin 4) :=
  let k := s.getF .VREG_CFG_NPH 0 + 1
  ((List.range k).map (fun i => (s.vreg.next + i) % k)).findSome? (fun i =>
    if h : i < 4 then (if s.vreg.phase[(⟨i, h⟩ : Fin 4)] = .high then none else some ⟨i, h⟩) else none)

/-- VREG_PHASE_FIRE. -/
def execVregPhaseFire (s : State) : Out :=
  .next (if s.regulating then
    match s.nextPhase with
    | none => s
    | some p => { s with vreg := { s.vreg.setPhase p .high with next := (p.val + 1) % (s.getF .VREG_CFG_NPH 0 + 1) } }
  else s)

/-- The on-time of a phase ends. -/
def State.phaseLow (s : State) (p : Fin 4) : State :=
  if s.vreg.phase[p] = .high then { s with vreg := s.vreg.setPhase p .low } else s

def execVregOnTimeEnd (p : Fin 4) (s : State) : Out := .next (if s.aonRuns then s.phaseLow p else s)

/-- VREG_CURRENT_LIMIT (R333). -/
def execVregCurrentLimit (p : Fin 4) (s : State) : Out :=
  .next (if s.vreg.phase[p] = .high ∧ s.aonRuns = true then (s.phaseLow p).countF .VREG_CNT_ILIM 0 1 else s)

/-- VREG_REF_STEP: one 5 mV step towards the target (R331). -/
def execVregRefStep (s : State) : Out :=
  .next (if s.regulating then
    let r := s.getF .VREG_STAT_REF 0
    let t := s.getF .VREG_VID_VID 0
    s.setF .VREG_STAT_REF 0 (if r < t then r + 1 else if t < r then r - 1 else r)
  else s)

/-- VID written: 0x78 to 0xB4, or refused (R331). -/
def State.writeVid (s : State) (v : Nat) : State :=
  if 0x78 ≤ v ∧ v ≤ 0xB4 then s.setF .VREG_VID_VID 0 v else s.setF .VREG_STAT_VIDERR 0 1

def execVidWrite (vid : BitVec 8) (s : State) : Out := .next (if s.aonRuns then s.writeVid vid.toNat else s)

/-- PWRGD_ASSERT: in a soft start REF has reached its target (R332). -/
def execPwrgdAssert (s : State) : Out :=
  .next (if s.regulating then
    let s1 := s.setWhen (s.sstate == ssSoft) .VREG_STAT_REF 0 (s.getF .VREG_VID_VID 0)
    (s1.setF .VREG_STAT_PGOOD 0 1).setF .VREG_STAT_SSTATE 0 ssRun
  else s)

/-- OVP_DETECT. -/
def execOvpDetect (s : State) : Out := .next (if s.aonRuns then s.setF .VREG_STAT_OVP 0 1 else s)

/-- Every VRPWMn goes to the mid level. -/
def State.phasesMid (s : State) : State := { s with vreg := { s.vreg with phase := Vector.replicate 4 .mid } }

/-- A phase that NPH does not name does not fire: it is at the mid level (R328). -/
def State.phasesFitted (s : State) : State :=
  { s with vreg := { s.vreg with phase := s.vreg.phase.mapFinIdx (fun i l _ => if i ≤ s.getF .VREG_CFG_NPH 0 then l else .mid) } }

/-- A soft start begins with REF at 0 V (R333). -/
def State.softStart (s : State) : State := (s.setF .VREG_STAT_SSTATE 0 ssSoft).setF .VREG_STAT_REF 0 0

/-- HICCUP_END. -/
def execHiccupEnd (s : State) : Out :=
  .next (if s.aonRuns && s.sstate == ssHiccup && s.getF .VREG_STAT_HICCUPS 0 != 0 && !s.bit .THERM_STAT_SHUTLAT 0 then s.softStart else s)

/-- HICCUP_COUNT_CLEAR. -/
def execHiccupCountClear (s : State) : Out := .next (if s.aonRuns && s.bit .VREG_STAT_PGOOD 0 then s.setF .VREG_STAT_HICCUPS 0 0 else s)

/-- SYNC_IN_LOST and SYNC_IN_REACQUIRED (R330). -/
def execSyncInLost (s : State) : Out :=
  .next (if s.aonRuns && s.bit .VREG_STAT_SYNCACT 0 then (s.setF .VREG_STAT_SYNCACT 0 0).setF .VREG_STAT_SYNCLOST 0 1 else s)
def execSyncInReacquired (s : State) : Out :=
  .next (if s.aonRuns && s.bit .VREG_CFG_SYNCEN 0 then s.setF .VREG_STAT_SYNCACT 0 1 else s)

end Sys2Proof.Machine
end

