-- ==== Sys2Proof/Machine/Ser.lean ====
section
/-! DEFINITION. Safe Energy Removal: the record, the safety cycle, the tests and the diagnostics (R338 to R361). -/
namespace Sys2Proof.Machine

/-! States and codes (Tables 13-2 and 13-4). -/

def serBoot : Nat := 0
def serUnconf : Nat := 1
def serStartup : Nat := 2
def serDemand : Nat := 3
def serRecovery : Nat := 4
def serPermit : Nat := 5
def serFault : Nat := 6
def serTest : Nat := 7

def fcCore : Nat := 1
def fcMem : Nat := 2
def fcWdog : Nat := 3
def fcClock : Nat := 4
def fcSupply : Nat := 5
def fcParam : Nat := 6
def fcPulse : Nat := 0x10
def fcCross : Nat := 0x11
def fcDiscrep : Nat := 0x12
def fcSoutOn : Nat := 0x20
def fcSoutOff : Nat := 0x21

def State.modSer (s : State) (f : SerSt → SerSt) : State := { s with ser := f s.ser }
def State.serState (s : State) : Nat := s.getF .SER_STAT_STATE 0
/-- Enters a state; PERMIT shows whether it is PERMIT. -/
def State.setSer (s : State) (v : Nat) : State := (s.setF .SER_STAT_STATE 0 v).setBit .SER_STAT_PERMIT 0 (v == serPermit)

/-! The record (Tables 13-5 and 13-6, R356, R357). -/

/-- The field of `k` bytes at offset `o`. -/
def recField (r : List Byte) (o k : Nat) : Nat := leNat ((r.drop o).take k)
/-- A field whose value 0 selects a default. -/
def recOr (r : List Byte) (o k d : Nat) : Nat := if recField r o k = 0 then d else recField r o k
def sinCfg (r : List Byte) (n : Nat) : Nat := recField r (4 + 4 * n) 4
def sinFunc (r : List Byte) (n : Nat) : Nat := bitsOf (sinCfg r n) 31 28
def sinFilt (r : List Byte) (n : Nat) : Nat := if bitsOf (sinCfg r n) 21 16 = 0 then 5 else bitsOf (sinCfg r n) 21 16
def sinTpo (r : List Byte) (n : Nat) : Nat := bitsOf (sinCfg r n) 13 12
def sinPair (r : List Byte) (n : Nat) : Nat := bitsOf (sinCfg r n) 10 8
def recDisc (r : List Byte) : Nat := recOr r 0x24 2 100
def recTpi (r : List Byte) : Nat := recOr r 0x26 1 1
def recTpw (r : List Byte) : Nat := recOr r 0x27 1 10
def recPpos (r : List Byte) : Nat := recOr r 0x28 1 20
def recSouten (r : List Byte) : Nat := recField r 0x29 1
def recDpw (r : List Byte) : Nat := recOr r 0x2A 1 10
def recDpi (r : List Byte) : Nat := recOr r 0x2C 2 1000

/-- Inputs `n` and `m` form a pair (R349). -/
def serPaired (r : List Byte) (n m : Nat) : Bool :=
  sinFunc r n == 2 && sinFunc r m == 2 && sinPair r n == m && sinPair r m == n && sinTpo r n != sinTpo r m

def sinValid (r : List Byte) (n : Nat) : Bool :=
  let c := sinCfg r n
  decide (sinFunc r n ≤ 4) && bitsOf c 25 22 == 0 && bitsOf c 15 14 == 0 && bitsOf c 11 11 == 0 && bitsOf c 7 0 == 0 &&
  decide (bitsOf c 21 16 ≤ 40) && (sinFunc r n == 2 || sinPair r n == 0) &&
  (sinFunc r n != 2 || serPaired r n (sinPair r n))

/-- R357. -/
def recordValid (r : List Byte) : Bool :=
  r.length == 64 && recField r 0 4 == 1 && (List.range 8).all (sinValid r) &&
  decide (10 ≤ recDisc r ∧ recDisc r ≤ 500) && decide (2 ≤ recTpw r ∧ recTpw r ≤ 15) &&
  decide (10 ≤ recPpos r ∧ recPpos r ≤ 200) && decide (recSouten r < 16) && decide (5 ≤ recDpw r ∧ recDpw r ≤ 20) &&
  recField r 0x2B 1 == 0 && decide (recDpi r ≤ 60000) && (r.drop 0x2E).all (fun b => b == 0#8) &&
  decide (recPpos r + 10 * recTpw r + 20 ≤ 240) && decide (recPpos r + 10 * recDpw r ≤ 240)

/-- The inputs in use. -/
def usedInputs (r : List Byte) : List Nat := (List.range 8).filter (fun n => sinFunc r n != 0)
def usedMask (r : List Byte) : Nat := (usedInputs r).foldl (fun m n => m ||| 2 ^ n) 0

/-- A valid record is in use. -/
def State.serRecord (s : State) : Bool := !s.ser.record.isEmpty && !s.bit .SER_STAT_RECERR 0

/-! Faults and demands (R347, R353, R354). -/

/-- A test in progress is abandoned: the TPO returns high, the dark output stays commanded off, the check is repeated later and
NOTDONE counts each one, a proof test as one (R353).  What a diagnostic abandons while no input demands is repeated in the next cycle (DEDUCED,
log entry 48). -/
def State.abandonTests (s : State) : State :=
  let t := s.ser
  let proof := s.serState == serTest
  let bitOf := fun (o : Option (Fin 4)) => match o with | some k => BitVec.ofNat 4 (2 ^ k.val) | none => 0#4
  let tp := if t.pulse.isSome then t.pulse.map Prod.fst else t.recovery.map Prod.fst
  let count := if proof then 1 else b2n tp.isSome + b2n t.dark.isSome
  let s1 := (s.countF .SER_TEST_NOTDONE 0 count).setWhen proof .SER_TEST_TESTRES 0 3
  s1.modSer (fun t => { t with
    pulse := none, recovery := none, dark := none, sout := t.sout &&& ~~~(bitOf t.dark),
    redoTpo := if proof then t.redoTpo else t.redoTpo ||| bitOf tp,
    redoSout := if proof then t.redoSout else t.redoSout ||| bitOf t.dark,
    tpoFrom := t.cycles, soutFrom := t.cycles })

/-- The safe state is decided: in PERMIT source 65 is asserted and the outputs are cut 5 µs later; else the state is entered at
once (R347). -/
def State.serLeave (s : State) (v : Nat) : State :=
  let s1 := s.abandonTests
  if s.serState = serPermit then s1.modSer (fun t => { t with cut := some v, demand := t.demand || v == serDemand, restart := false })
  else (s1.setSer v).modSer (fun t => { t with sout := 0#4, restart := false })

/-- A restartable code (Table 13-4). -/
def restartable (code : Nat) : Bool := decide (0x10 ≤ code)

/-- Records a fault, unless one that only a power-on reset clears is recorded. -/
def State.recordFault (s : State) (code idx : Nat) : State :=
  let old := s.getF .SER_STAT_FAULT 0
  if s.serState == serFault && old != 0 && !restartable old then s
  else ((s.setF .SER_STAT_FAULT 0 code).setF .SER_STAT_FAULTIDX 0 idx).modSer (fun t => { t with cause := true })

/-- Counts the demand that PERMIT ended on (R347). -/
def State.countDemand (s : State) : State := (s.countF .SER_CNT_DEMCNT 0 (b2n s.ser.demand)).modSer (fun t => { t with demand := false })

/-- A diagnostic of SAF's firmware detects a failure; in TEST the proof test fails (R352, R354).  In FAULT the safe state stands:
the code is recorded and a test in progress abandoned. -/
def State.serFail (s : State) (code idx : Nat) : State :=
  let s1 := s.recordFault code idx
  if s.serState = serTest then
    (((s1.setF .SER_TEST_TESTRES 0 2).setSer serFault).modSer (fun t => { t with sout := 0#4, pulse := none, recovery := none, dark := none }))
  else if s.serState = serFault then s1.abandonTests
  else s1.serLeave serFault

/-- A failure that the hardware detects forces the safe state at once (R354). -/
def State.serForce (s : State) (code : Nat) : State :=
  ((s.recordFault code 0).abandonTests.countDemand.setSer serFault).modSer (fun t => { t with sout := 0#4, cut := none, restart := false })

/-- LOCKSTEP_FAULT, SER_WATCHDOG_EXPIRY and SAFE_SUPPLY_FAULT; before SAF has started the firmware there is no cycle to miss. -/
def execLockstepFault (s : State) : Out := .next (if s.aonRuns then s.serForce fcCore else s)
def execSerWatchdogExpiry (s : State) : Out := .next (if s.serState ≠ serBoot ∧ s.aonRuns = true then s.serForce fcWdog else s)
def execSafeSupplyFault (s : State) : Out := .next (if s.aonRuns then s.serForce fcSupply else s)

/-- 5 µs after source 65 (R347). -/
def State.soutCut (s : State) : State :=
  match s.ser.cut with
  | none => s
  | some v => (s.setSer v).countDemand.modSer (fun t => { t with sout := 0#4, cut := none })

/-- SER_SOUT_CUT. -/
def execSerSoutCut (s : State) : Out := .next (if s.sysRuns then s.soutCut else s)

/-! The safety cycle (R342, R346 to R351, R358, R359). -/

/-- Entering STARTUP or RECOVERY: the checks start anew. -/
def State.clearChecks (s : State) : State := (s.setF .SER_STARTUP_TPOOK 0 0).setF .SER_STARTUP_SOUTOK 0 0

/-- FAULT with a code that only a power-on reset clears (R354). -/
def State.porFault (s : State) : Bool := s.serState == serFault && !restartable (s.getF .SER_STAT_FAULT 0)

/-- SAF takes the stored record (R357 to R359); FAULT with a code marked POR stays (log entry 48). -/
def State.takeRecord (s : State) : State :=
  let r := s.ser.store
  let ok := recordValid r
  let s1 := (s.setBit .SER_STAT_RECERR 0 (!ok)).setF .SER_PCRC_PCRC 0 (if ok then crc32c r else 0)
  let s2 := (((s1.setF .SER_STAT_CONFIRMED 0 0).setF .SER_STAT_NEWREC 0 0).setF .SER_SIN_FILTERED 0 0).setF .SER_SIN_RAW 0 0
  let s3 := if s.porFault then s2 else (s2.setSer serUnconf).setF .SER_STAT_FAULT 0 0
  (s3.setF .SER_SIN_DEMAND 0 (if ok then usedMask r else 0)).modSer (fun t =>
    { t with record := r, fresh := false, run := Vector.replicate 8 0, known := 0#8, closed := 0#8, disc := Vector.replicate 8 0, sout := 0#4,
             pulse := none, recovery := none, dark := none, redoTpo := 0#4, redoSout := 0#4, cross := 0#8, restart := false })

/-- A new record waits and SER is outside PERMIT (R359). -/
def State.takesRecord (s : State) : Bool := s.ser.fresh && s.serState != serPermit

/-- UNCONF: the confirmation word is loaded and compared (R358). -/
def State.confirmStep (s : State) : State :=
  let s1 := s.setF .SER_CONF_CONF 0 s.ser.confirm.toNat
  if s.serRecord && s.ser.confirm.toNat == s.getF .SER_PCRC_PCRC 0 then
    ((((s1.setF .SER_STAT_CONFIRMED 0 1).setSer serStartup).setF .SER_STARTUP_OPENSEEN 0 0).setF .SER_STARTUP_DONE 0 0).clearChecks.modSer
      (fun t => { t with closed := 0#8 })
  else s1

/-- The samples pass the filters: RAW, FILTERED and DEMAND (R342, R343). -/
def State.sampleInputs (s : State) (closed : BitVec 8) : State :=
  let r := s.ser.record
  let raw := closed.toNat &&& usedMask r
  let old := s.getF .SER_SIN_RAW 0
  let run := Vector.ofFn (fun (n : Fin 8) =>
    if raw.testBit n = old.testBit n then min 64 (s.ser.run[n] + 1) else 1)
  let est := fun (n : Nat) => decide (sinFilt r n ≤ run.toList.getD n 0)
  let filt := (usedInputs r).foldl (fun m n =>
    let b := if est n then raw.testBit n else (s.getF .SER_SIN_FILTERED 0).testBit n
    if b then m ||| 2 ^ n else m) 0
  let known := (usedInputs r).foldl (fun m n => if est n then m ||| 2 ^ n else m) s.ser.known.toNat
  (((s.setF .SER_SIN_RAW 0 raw).setF .SER_SIN_FILTERED 0 filt).setF .SER_SIN_DEMAND 0 (usedMask r - filt)).modSer
    (fun t => { t with run := run, known := BitVec.ofNat 8 known })

/-- The lowest pair whose channels have differed for more than DISC, after this cycle's count (R349). -/
def State.pairStep (s : State) : State :=
  let r := s.ser.record
  let f := s.getF .SER_SIN_FILTERED 0
  s.modSer (fun t => { t with disc := Vector.ofFn (fun (n : Fin 8) =>
    if serPaired r n (sinPair r n) && decide (n.val < sinPair r n) && f.testBit n != f.testBit (sinPair r n) then t.disc[n] + 1 else 0) })

def State.discFault (s : State) : Option Nat :=
  (List.range 8).find? (fun n => decide (4 * recDisc s.ser.record < s.ser.disc.toList.getD n 0))

/-- The guards' start-up transitions (R348). -/
def State.guardStep (s : State) : State :=
  let r := s.ser.record
  let f := s.getF .SER_SIN_FILTERED 0
  let dem := s.getF .SER_SIN_DEMAND 0
  let guards := (usedInputs r).filter (fun n => sinFunc r n == 1)
  guards.foldl (fun t n =>
    if t.testF .SER_STARTUP_DONE 0 n then t
    else
      let others := dem &&& (255 - 2 ^ n)
      if t.testF .SER_STARTUP_OPENSEEN 0 n && others != 0 then
        (t.clrF .SER_STARTUP_OPENSEEN 0 n).modSer (fun x => { x with closed := x.closed &&& ~~~(BitVec.ofNat 8 (2 ^ n)) })
      else if !f.testBit n && t.ser.known.getLsbD n && others == 0 then t.orF .SER_STARTUP_OPENSEEN 0 n
      else if f.testBit n && t.testF .SER_STARTUP_OPENSEEN 0 n then
        t.modSer (fun x => { x with closed := x.closed ||| BitVec.ofNat 8 (2 ^ n) })
      else t) s

/-- Every TPO with a used input and every enabled SOUT has passed its check (R348, R351). -/
def State.checksDone (s : State) : Bool :=
  let r := s.ser.record
  (usedInputs r).all (fun n => s.testF .SER_STARTUP_TPOOK 0 (sinTpo r n)) &&
  (List.range 4).all (fun n => !(recSouten r).testBit n || s.testF .SER_STARTUP_SOUTOK 0 n)

/-- Enters PERMIT: the enabled SOUTs go on. -/
def State.enterPermit (s : State) : State :=
  (s.setSer serPermit).modSer (fun t => { t with sout := BitVec.ofNat 4 (recSouten t.record), restart := false })

/-- The state transitions of one cycle; `ok` tells that no fault is present in it.  A restart request holds for this cycle alone
(R351). -/
def State.serTransition (s : State) (ok : Bool) : State :=
  let r := s.ser.record
  let dem := s.getF .SER_SIN_DEMAND 0 != 0
  let st := s.serState
  if st = serStartup then
    let t := s.guardStep
    if ok && !dem && t.checksDone && (usedInputs r).all (fun n => sinFunc r n != 1 || t.testF .SER_STARTUP_DONE 0 n) then t.enterPermit else t
  else if st = serDemand then (if dem then s else (s.setSer serRecovery).clearChecks)
  else if st = serRecovery then (if s.ser.restart && ok && !dem then s.enterPermit else s.modSer (fun t => { t with restart := false }))
  else if st = serPermit then (if dem then s.serLeave serDemand else s)
  else if st = serTest then (if dem then s.serLeave serDemand else s.modSer (fun t => { t with test := t.test + 1 }))
  else s

/-- The lowest output whose readback differs from its command at the sample: on while commanded off, or off while on (R345). -/
def State.soutFault (s : State) (rb : BitVec 4) : Option (Nat × Nat) :=
  (List.range 4).findSome? (fun n =>
    if rb.getLsbD n && !s.ser.sout.getLsbD n then some (fcSoutOn, n)
    else if !rb.getLsbD n && s.ser.sout.getLsbD n then some (fcSoutOff, n) else none)

def diagCode : SafDiag → Nat
  | .ok => 0 | .mem => fcMem | .clock => fcClock | .param => fcParam

/-- The cause of the recorded fault at this cycle: DISCREP while the channels differ, SOUTOFF and SOUTON while the readback differs;
PULSE and CROSS until the next passed check (R349, R354). -/
def State.causeStep (s : State) (sf : Option (Nat × Nat)) : State :=
  let c := s.getF .SER_STAT_FAULT 0
  if c = fcDiscrep then s.modSer (fun t => { t with cause := t.disc.toList.any (fun d => d != 0) })
  else if c = fcSoutOff ∨ c = fcSoutOn then s.modSer (fun t => { t with cause := sf.isSome })
  else s

/-- SAF's checks of one cycle; `sf` is what the readback at the sample instant showed. -/
def State.serChecks (s : State) (sf : Option (Nat × Nat)) (diag : SafDiag) : State :=
  if diagCode diag != 0 then s.serFail (diagCode diag) 0
  else match s.discFault, sf with
    | some n, _ => s.serFail fcDiscrep n
    | none, some (c, n) => s.serFail c n
    | none, none => s

/-- The readback at the sample instant: a new cycle begins, and each SOUT is compared with its command. -/
def State.readSouts (s : State) (rb : BitVec 4) : State :=
  s.modSer (fun t => { t with cycles := t.cycles + 1, stuckOn := rb &&& ~~~t.sout, stuckOff := t.sout &&& ~~~rb })

/-- A demand decided where STATE stays abandons the tests in progress (R353); a pulse that began after the sample of this cycle
started from what the sample shows.  While an input demands, and in the cycle in which the demand clears, the checks to repeat wait. -/
def State.newDemand (s : State) (old : Nat) : State :=
  let wait := old != 0 || s.getF .SER_SIN_DEMAND 0 != 0
  let s1 := s.modSer (fun t => { t with
    pulse := t.pulse.map (fun p => (p.1, BitVec.ofNat 8 (s.getF .SER_SIN_RAW 0))),
    tpoFrom := if wait then t.cycles else t.tpoFrom,
    soutFrom := if wait then t.cycles else t.soutFrom })
  if s.getF .SER_SIN_DEMAND 0 &&& (255 - old) != 0 && s.serState != serPermit && s.serState != serTest then s1.abandonTests else s1

/-- One safety cycle: `closed` are the sampled contacts, `rb` the SOUTs that read on, `diag` what SAF's own diagnostics detect. -/
def State.safetyCycle (s : State) (closed : BitVec 8) (rb : BitVec 4) (diag : SafDiag) : State :=
  let s0 := s.soutCut.readSouts rb
  let sf := s0.soutFault rb
  let s1 := if s0.takesRecord then s0.takeRecord else s0
  let s2 := if s1.serState = serUnconf then s1.confirmStep else s1
  let s3 := if s2.serRecord then ((s2.sampleInputs closed).pairStep).newDemand (s2.getF .SER_SIN_DEMAND 0) else s2
  let s4 := if s3.serRecord then s3.serTransition (diag == .ok && s3.discFault.isNone && sf.isNone) else s3
  (s4.causeStep sf).serChecks sf diag

/-- SAFETY_CYCLE; SAF stops with the SYS clock (R456). -/
def execSafetyCycle (closed : BitVec 8) (readback : BitVec 4) (diag : SafDiag) (s : State) : Out :=
  .next (if s.serState = serBoot ∨ s.sysRuns = false then s else s.safetyCycle closed readback diag)

/-- SER_FIRMWARE_START: SER leaves BOOT (R340). -/
def State.serStart (s : State) (version : Nat) : State :=
  if s.serState = serBoot then
    ((s.setSer serUnconf).setF .SER_VER_VERSION 0 version).modSer (fun t => { t with fresh := !t.store.isEmpty, cycles := 0, tpoAt := 0, darkAt := 0 })
  else s

/-! Test pulses and dark pulses (R344, R345, R352). -/

/-- The pulses run on a record in use; a proof test has its own schedule. -/
def State.pulsesRun (s : State) : Bool := s.sysRuns && s.serRecord && s.serState != serBoot && s.ser.cut.isNone

/-- The check of number `k` comes up in the safety cycle `n`, counted from 1, on the interval `i`; `t` is the test cycle, counted
from 1 (R344, R345, R352).  Of the checks `redo` that a demand cut short the lowest is repeated in the first cycle after `start`, when no input
demands; no other check comes up in that cycle (R353; DESIGN CHOICE, log entry 48). -/
def State.checkIn (s : State) (k i n t : Nat) (redo : BitVec 4) (start : Nat) : Bool :=
  if s.serState = serTest then decide (1 ≤ t ∧ t ≤ 64) && (t + 3) % 4 == k
  else if redo != 0#4 && n == start + 1 && s.getF .SER_SIN_DEMAND 0 == 0 then (List.range 4).find? (fun j => redo.getLsbD j) == some k
  else decide (1 ≤ n) && (n - 1) % i == 0 && (n - 1) / i % 4 == k

/-- The safety cycle, counted from 1, whose check of number `k` a pulse at this moment is: the cycle in progress, or the coming one
where PPOS lies before the end of its evaluation (R342: a pulse may begin before evaluation has ended). -/
def State.checkDue (s : State) (k i last : Nat) (redo : BitVec 4) (start : Nat) : Option Nat :=
  let c := s.ser.cycles
  let early := decide (recPpos s.ser.record < 40)
  if !s.pulsesRun then none
  else if decide (last < c) && s.checkIn k i c s.ser.test redo start then some c
  else if early && decide (last < c + 1) && s.checkIn k i (c + 1) (s.ser.test + 1) redo start then some (c + 1)
  else none

/-- The cycle in which TPOk pulses now. -/
def State.tpoDue (s : State) (k : Fin 4) : Option Nat := s.checkDue k (recTpi s.ser.record) s.ser.tpoAt s.ser.redoTpo s.ser.tpoFrom

/-- The cycle in which SOUTn takes its dark pulse now. -/
def State.darkDue (s : State) (n : Fin 4) : Option Nat :=
  if (recSouten s.ser.record).testBit n then s.checkDue n (recDpi s.ser.record) s.ser.darkAt s.ser.redoSout s.ser.soutFrom else none

/-- TPO_PULSE: the TPO goes low at PPOS. -/
def execTpoPulse (k : Fin 4) (s : State) : Out :=
  .next (match s.tpoDue k with
  | some c =>
    if s.ser.pulse.isNone && s.ser.recovery.isNone then
      s.modSer (fun t => { t with
        pulse := some (k, BitVec.ofNat 8 (s.getF .SER_SIN_RAW 0)), tpoAt := c, tpoFrom := c,
        redoTpo := t.redoTpo &&& ~~~(BitVec.ofNat 4 (2 ^ k.val)) })
    else s
  | none => s)

/-- The inputs that TPOk supplies and that read closed before the pulse. -/
def State.pulseInputs (s : State) (k : Nat) (before : BitVec 8) : List Nat :=
  (usedInputs s.ser.record).filter (fun n => sinTpo s.ser.record n == k && before.getLsbD n)

/-- TPO_PULSE_END: the inputs of the TPO must read open; an input that opened only during another TPO's pulse is crossed (R344). -/
def State.pulseEnd (s : State) (k : Fin 4) (before closed : BitVec 8) : State :=
  let own := s.pulseInputs k before
  let stuck := own.filter (fun n => closed.getLsbD n)
  let others := (usedInputs s.ser.record).filter (fun n => sinTpo s.ser.record n != k.val && before.getLsbD n && !closed.getLsbD n)
  let mask := fun (l : List Nat) => BitVec.ofNat 8 (l.foldl (fun m n => m ||| 2 ^ n) 0)
  let s1 := s.modSer (fun t => { t with pulse := none, cross := t.cross ||| mask others })
  match stuck.head? with
  | some n => s1.serFail (if s.ser.cross.getLsbD n then fcCross else fcPulse) n
  | none => s1.modSer (fun t => { t with recovery := some (k, before), cross := t.cross &&& ~~~(mask own) })

def execTpoPulseEnd (k : Fin 4) (closed : BitVec 8) (s : State) : Out :=
  .next (match s.ser.pulse with
    | some (j, before) => if j = k ∧ s.sysRuns = true then s.pulseEnd k before closed else s
    | none => s)

/-- TPO_RECOVERY_CHECK: the inputs read closed again, so the check has passed; an input that has opened passes nothing (R344,
R348). -/
def State.recoveryCheck (s : State) (k : Fin 4) (before closed : BitVec 8) : State :=
  let own := s.pulseInputs k before
  let proof := s.serState == serTest
  let s1 := s.modSer (fun t => { t with recovery := none, tpoRuns := t.tpoRuns.set k.val (t.tpoRuns[k] + b2n proof) })
  if own.all (fun n => closed.getLsbD n) then
    let c := s1.getF .SER_STAT_FAULT 0
    let s2 := if s.serState = serFault ∧ (c = fcPulse ∨ c = fcCross) ∧ own.contains (s1.getF .SER_STAT_FAULTIDX 0) = true then
        s1.modSer (fun t => { t with cause := false })
      else s1
    if s.serState = serStartup ∨ s.serState = serRecovery then
      let s3 := s2.orF .SER_STARTUP_TPOOK 0 k
      if s.serState = serStartup then
        own.foldl (fun t n => if sinFunc t.ser.record n == 1 && t.ser.closed.getLsbD n then t.orF .SER_STARTUP_DONE 0 n else t) s3
      else s3
    else s2
  else s1

def execTpoRecoveryCheck (k : Fin 4) (closed : BitVec 8) (s : State) : Out :=
  .next (match s.ser.recovery with
    | some (j, before) => if j = k ∧ s.sysRuns = true then s.recoveryCheck k before closed else s
    | none => s)

/-- SOUT_DARK_PULSE. -/
def execSoutDarkPulse (n : Fin 4) (s : State) : Out :=
  .next (match s.darkDue n with
  | some c =>
    if s.ser.dark.isNone then
      s.modSer (fun t => { t with dark := some n, darkAt := c, soutFrom := c, redoSout := t.redoSout &&& ~~~(BitVec.ofNat 4 (2 ^ n.val)) })
    else s
  | none => s)

/-- DARK_PULSE_END: the output must read below 1 V (R345).  One that does not is not restored; without V24S the check does not pass, which in a
proof test is a failure with code SOUTOFF (Table 21-3; DESIGN CHOICE, log entry 48). -/
def State.darkEnd (s : State) (n : Fin 4) (r : SoutRead) : State :=
  let on := BitVec.ofNat 4 (2 ^ n.val)
  let s1 := s.modSer (fun t => { t with
    dark := none, stuckOn := if r = .high then t.stuckOn ||| on else t.stuckOn &&& ~~~on,
    sout := if r = .high then t.sout &&& ~~~on else t.sout,
    soutRuns := t.soutRuns.set n.val (t.soutRuns[n] + b2n (s.serState == serTest)) })
  match r with
  | .low => if s.serState = serStartup ∨ s.serState = serRecovery then s1.orF .SER_STARTUP_SOUTOK 0 n else s1
  | .high => s1.serFail fcSoutOn n
  | .unsupplied => if s.serState = serTest then s1.serFail fcSoutOff n else s1

def execDarkPulseEnd (n : Fin 4) (r : SoutRead) (s : State) : Out :=
  .next (if s.ser.dark = some n ∧ s.sysRuns = true then s.darkEnd n r else s)

/-- The 64 test cycles have begun, every TPO has had its 16 pulse checks and every enabled SOUT its 16 readbacks (R352). -/
def State.proofDone (s : State) : Bool :=
  decide (64 ≤ s.ser.test) && s.ser.tpoRuns.toList.all (fun n => decide (16 ≤ n)) &&
  (List.range 4).all (fun n => !(recSouten s.ser.record).testBit n || decide (16 ≤ s.ser.soutRuns.toList.getD n 0))

/-- PROOF_TEST_END: every check of the 64 cycles has passed (R352). -/
def execProofTestEnd (s : State) : Out :=
  .next (if s.serState = serTest ∧ s.proofDone = true ∧ s.sysRuns = true then ((s.setF .SER_TEST_TESTRES 0 1).setSer serRecovery).clearChecks else s)

/-- The outputs that are on: those commanded on, but the one in a dark pulse. -/
def State.soutOn (s : State) : BitVec 4 :=
  match s.ser.dark with
  | some n => s.ser.sout &&& ~~~(BitVec.ofNat 4 (2 ^ n.val))
  | none => s.ser.sout

/-- The outputs that read on (SER_STAT.SOUTST): those that are on, but where the last readback showed otherwise. -/
def State.soutReads (s : State) : BitVec 4 := (s.soutOn &&& ~~~s.ser.stuckOff) ||| s.ser.stuckOn

/-! The host's requests (R350 to R352, R356, R358). -/

/-- SER_PARAM: the record is stored; in PERMIT it waits (R359). -/
def State.serParam (s : State) (r : List Byte) : State :=
  (s.modSer (fun t => { t with store := r, fresh := true })).setWhen (s.serState == serPermit) .SER_STAT_NEWREC 0 1

/-- SER_CONFIRM. -/
def State.serConfirm (s : State) (w : Word) : State := s.modSer (fun t => { t with confirm := w })

def State.serRefuse (s : State) : State := s.countF .SER_CNT_REFUSED 0 1

/-- SER_RESTART: accepted in RECOVERY after every check and in FAULT once the cause is gone; the answer tells whether (R350, R351,
R354).  SER is never armed while CONFIRMED is 0 (R358), so RECOVERY asks for CONFIRMED too (log entry 48). -/
def State.serRestart (s : State) : State × Bool :=
  let dem := s.getF .SER_SIN_DEMAND 0 != 0
  if dem then (s.serRefuse, false)
  else if s.serState = serRecovery ∧ s.checksDone = true ∧ s.bit .SER_STAT_CONFIRMED 0 = true then (s.modSer (fun t => { t with restart := true }), true)
  else if s.serState = serFault ∧ restartable (s.getF .SER_STAT_FAULT 0) = true ∧ s.ser.cause = false then
    (((s.setSer serRecovery).setF .SER_STAT_FAULT 0 0).clearChecks, true)
  else (s.serRefuse, false)

/-- SER_TEST: accepted in PERMIT and RECOVERY outside S4 (R352). -/
def State.serTestReq (s : State) : State × Bool :=
  if (s.serState = serPermit ∨ s.serState = serRecovery) ∧ s.inS4 = false ∧ s.ser.cut = none then
    ((s.setSer serTest).modSer (fun t => { t with
      sout := 0#4, test := 0, tpoRuns := Vector.replicate 4 0, soutRuns := Vector.replicate 4 0, pulse := none, recovery := none, dark := none,
      restart := false }), true)
  else (s.serRefuse, false)

end Sys2Proof.Machine
end

