-- ==== Sys2Proof/Machine/Atu.lean ====
section
/-! DEFINITION. The angle timebase between boundaries, the fret table and its swap (R45 to R75); what a boundary does is in
Boundary.lean. -/
namespace Sys2Proof.Machine

/-- The clamp of the applied frequency word (R46). -/
def clampFreq (w : Int) : Nat := (max 31665935 (min 45739683 w)).toNat

def srcAdc : Nat := 0
def srcSv : Nat := 1
def srcFree : Nat := 2

def State.src (s : State) : Nat := s.getF .ATU_STAT_SRC 0
def State.holdover (s : State) : Bool := s.bit .ATU_STAT_HOLDOVER 0

/-- The phase error in au, signed. -/
def State.pherr (s : State) : Int := (BitVec.ofNat 32 (s.getF .ATU_PHERR_PHERR 0)).toInt

/-- The output word during a slew (R60): the tracked word with the surplus towards the source. -/
def State.slewWord (s : State) : Nat :=
  let d : Int := s.getF .ATU_SLEW_SLEW 0
  clampFreq (s.atu.tracked + (if 0 ≤ s.pherr then d else -d))

/-- The filter entry that feeds the ATU, and whether it or SVRATE cannot be used (R58, R380, Table 2-11). -/
def State.svStream (s : State) : Nat := s.getF .ATU_CFG_SVSTREAM 0
def State.svVchBad (s : State) : Bool := decide (5 < s.getF .SVF_CTRL_VCH s.svStream)
def State.svBad (s : State) : Bool := s.svVchBad || s.getF .ATU_CFG_SVRATE 0 == 3

/-- The source `v` cannot be used as it is configured; the ADC source also while SRCERR is set (R54, R58). -/
def State.srcUnusable (s : State) (v : Nat) : Bool :=
  (v == srcAdc && (s.adcselBad || s.bit .ATU_STAT_SRCERR 0)) || (v == srcSv && s.svBad)

/-- The amplitude of the ADC source has stayed below ATU_ADCMIN for one full cycle (R58). -/
def State.lowCycle (s : State) : Bool := s.atu.lowFrom.any (fun a => decide (a + 2 ^ 32 ≤ s.atu.absStart))

/-- The last smpCnt before its wrap, at the rate of SVRATE (R380). -/
def State.svWrap (s : State) : Nat := match s.getF .ATU_CFG_SVRATE 0 with | 0 => 3999 | 1 => 4799 | _ => 14399

/-- The samples that have not come since the stream's newest (R56): one counts as missing when its successor's time has come too, a sample
period being one second over the rate (DESIGN CHOICE, log entry 42). -/
def State.svSilent (s : State) : Nat := (s.tick - s.svFeed.since) * (s.svWrap + 1) / second - 1

def State.missMax (s : State) : Nat := max 1 (s.getF .ATU_CFG_MISSMAX 0)

/-- The FAB cycle in which a stream that stays silent has missed MISSMAX consecutive samples. -/
def State.svLossAt (s : State) : Nat := s.svFeed.since + ((s.missMax - s.svFeed.miss + 1) * second + s.svWrap) / (s.svWrap + 1)

/-- The selected source counts as lost (R58). -/
def State.lossDue (s : State) : Bool :=
  s.src != srcFree && (s.srcUnusable s.src || (s.src == srcAdc && s.lowCycle) ||
    (s.src == srcSv && decide (s.missMax ≤ s.svFeed.miss + s.svSilent)))

/-- The selected source is lost (R58): holdover at the last tracked word.  That AUTOFREE is sampled here and not at the next boundary is
the model's choice (DESIGN CHOICE, log entry 42). -/
def State.sourceLost (s : State) : State :=
  if s.atuOn && s.src != srcFree && !s.holdover then
    let s1 := { s with atu := { s.atu with
      autoWord := if s.bit .ATU_CFG_AUTOFREE 0 then some s.atu.tracked else s.atu.autoWord, lockFrom := none } }
    ((((s1.setWhen (!s.twin.follow) .ATU_FREQ_FREQ 0 s.atu.tracked).setF .ATU_STAT_HOLDOVER 0 1).setF .ATU_STAT_SRCLOSS 0 1).setF
      .ATU_STAT_SLEWING 0 0).setF .ATU_STAT_LOCKED 0 0
  else s

/-- SRCERR for a source that its configuration rules out (R54, R380), and the loss of the selected source (R58).  A bad ATU_ADCSEL sets
SRCERR only where this runs with the ADC source selected: at an enable, at a boundary and at a write of SRCREQ (DESIGN CHOICE, log entry
42). -/
def State.sourceCheck (s : State) : State :=
  let s1 := s.setWhen ((s.src == srcAdc && s.adcselBad) || s.svVchBad) .ATU_STAT_SRCERR 0 1
  if s1.lossDue then s1.sourceLost else s1

/-- The entry named by SVSTREAM with a VCH of 6 or 7 sets SRCERR, and the SV source counts as lost (R380): at every write of ATU_CFG and of
an SVFn_CTRL. -/
def State.svCheck (s : State) : State :=
  let s1 := s.setWhen s.svVchBad .ATU_STAT_SRCERR 0 1
  if s1.lossDue then s1.sourceLost else s1

/-- SOURCE_LOSS: the amplitude, the samples or the configuration of the selected source fail; a stream of samples falls silent until
MISSMAX of them are missing. -/
def execSourceLoss (s : State) : Out :=
  .next (if s.atuRuns then
    let t := if s.src == srcSv && !s.lossDue then s.passTo s.svLossAt else s
    if t.lossDue then t.sourceLost else t
  else s)

/-- A write of ATU_CFG that names another stream begins its count of missing samples anew (R58). -/
def State.svSelect (s : State) (old : Nat) : State := if s.svStream = old then s else { s with svFeed := { since := s.tick } }

/-- The tracker of a source. -/
def AtuSt.track (a : AtuSt) (v : Nat) : Track := if v = srcAdc then a.adcTr else a.svTr

/-- ATU_PHERR shows the phase error of the source `v`. -/
def State.showPherr (s : State) (v : Nat) : State := s.setF .ATU_PHERR_PHERR 0 (BitVec.ofInt 32 (s.atu.track v).pherr).toNat

/-- The slew of R60 begins, towards the source `v`; not while the ATU follows the twin (R418). -/
def State.slewBegin (s : State) (v : Nat) : State :=
  if s.twin.follow then s
  else
    let s1 := (s.showPherr v).setF .ATU_STAT_SLEWING 0 1
    s1.setF .ATU_FREQ_FREQ 0 s1.slewWord

/-- The ATU begins to follow the twin: no slew of its own goes on (R418). -/
def State.followTwin (s : State) : State := ({ s with twin := { s.twin with follow := true } }).setF .ATU_STAT_SLEWING 0 0

/-- The ATU leaves follow mode and continues from its present word on its selected source, through the slew of R60 (R422). -/
def State.leaveFollow (s : State) : State :=
  if s.twin.follow then
    let s1 := { s with twin := { s.twin with follow := false }, atu := { s.atu with tracked := s.getF .ATU_FREQ_FREQ 0 } }
    if s.src = srcFree ∨ s.holdover = true then s1 else s1.slewBegin s.src
  else s

/-- SOURCE_RETURN: a lost source is back; the ATU tracks again through the slew of R60.  An AUTOFREE switch that the loss ordered still
follows at the boundary. -/
def execSourceReturn (s : State) : Out :=
  .next (if s.atuRuns && s.src != srcFree && s.holdover && !s.lossDue then (s.setF .ATU_STAT_HOLDOVER 0 0).slewBegin s.src else s)

/-- SLEW_END: the remaining difference is smaller than one FAB-cycle increment; its value is free within that bound. -/
def execSlewEnd (s : State) : Out :=
  .next (if s.atuRuns && s.bit .ATU_STAT_SLEWING 0 then
    let (r, s1) := s.draw
    let m := max 1 (s.getF .ATU_FREQ_FREQ 0 / 65536)
    let e : Int := (r.toNat % (2 * m - 1) : Nat) - ((m - 1 : Nat) : Int)
    let a := if s.src = srcAdc then { s.atu with adcTr := { s.atu.adcTr with pherr := e } }
      else { s.atu with svTr := { s.atu.svTr with pherr := e } }
    ((({ s1 with atu := a }).setF .ATU_STAT_SLEWING 0 0).setF .ATU_FREQ_FREQ 0 (clampFreq s.atu.tracked)).setF .ATU_PHERR_PHERR 0
      (BitVec.ofInt 32 e).toNat
  else s)

/-- A write of ATU_CTRL.SRCREQ (R59); 0b11 sets SRCERR, with which an ADC source in use is lost (R58). -/
def State.writeSrcreq (s : State) (v : Nat) : State :=
  if v = 3 then (s.setF .ATU_STAT_SRCERR 0 1).sourceCheck
  else (({ s with atu := { s.atu with handover := some v } }).setF .ATU_CTRL_SRCREQ 0 v)

/-- A write reaches the ATU, the dispatcher and the other units of the PROT domain. -/
def State.protBus (s : State) : Bool := s.fabBus && s.powered domProt

def execSourceHandoverRequest (v : BitVec 2) (s : State) : Out := .next (if s.protBus then s.writeSrcreq v.toNat else s)

/-- A write of ATU_CFG.FPCSEL (R53).  While a value is pending, FPCSEL reads the value in effect, and a write of any other value than the
pending one, the value in effect included, replaces the pending one and leaves FPCPEND at 1 (DESIGN CHOICE, log entry 42). -/
def State.writeFpcsel (s : State) (v : Nat) : State :=
  let pend := s.bit .ATU_STAT_FPCPEND 0
  if (if pend then s.atu.fpcNew else s.getF .ATU_CFG_FPCSEL 0) = v then s
  else if s.inS4 then s.setF .ATU_STAT_FPCERR 0 1
  else if s.atuOn then ({ s with atu := { s.atu with fpcNew := v } }).setF .ATU_STAT_FPCPEND 0 1
  else s.setF .ATU_CFG_FPCSEL 0 v

def execFpcselWrite (v : BitVec 2) (s : State) : Out := .next (if s.protBus then s.writeFpcsel v.toNat else s)

/-- SNAP (R63): fret number, angle and station time of one FAB cycle. -/
def State.snapshot (s : State) : State :=
  ((((s.setF .ATU_SNAP_FRET_FRET 0 s.fretnum).setF .ATU_SNAP_ANGLE_ANGLE 0 s.angle).setF .ATU_SNAP_SECH_SECH 0
    (s.clock.sec / 2 ^ 32)).setF .ATU_SNAP_SECL_SECL 0 s.clock.sec).setF .ATU_SNAP_NS_NS 0 s.clock.ns

def execSnap (s : State) : Out := .next (if s.protBus then s.snapshot else s)

/-! The fret table (R66 to R70). -/

def State.fretBusy (s : State) : Bool := s.bit .FRET_STAT_VALIDATING 0 || s.bit .FRET_STAT_SWAPPEND 0
def State.fretOn (s : State) : Bool := s.getF .FRET_STAT_ENST 0 == enstOn
/-- Frets are being dispatched: neither the dispatcher nor the ATU is OFF. -/
def State.fretLive (s : State) : Bool := s.getF .FRET_STAT_ENST 0 != enstOff && s.atuOn

/-- A write into copy `c` or its FRET_PLEN is refused (R68). -/
def State.fretGuard (s : State) (c : Nat) (f : State → State) : State :=
  if c = s.getF .FRET_STAT_ACTIVE 0 then s.setF .FRET_STAT_WRACT 0 1
  else if s.fretBusy then s.setF .FRET_STAT_WRPEND 0 1
  else f s

/-- The bits of a row's word at offset `o` of the row that are not reserved (Tables 2-3 to 2-7); reserved bits read 0 (R21). -/
def rowMask (o : Nat) : Word :=
  if o < 0xC0 then (if o % 8 = 0 then 0x8F00FFFF#32 else 0x0000FFFF#32)
  else if o < 0xE0 then 0x8300FFFF#32
  else if o = 0xE0 then 3#32
  else 0#32

/-- A write of a word into the table memory at offset `off` from the FRET base. -/
def State.writeFretTable (s : State) (off : Nat) (w : Word) : State :=
  if off < 0x8000 then s
  else s.fretGuard (off / 0x4000 - 2) (fun t => t.setWord (0x40050000 + off) (w &&& rowMask (off % 0x100)))

/-- FRET_TABLE_WRITE: a word. -/
def execFretTableWrite (off : BitVec 16) (w : Word) (s : State) : Out :=
  .next (if off.toNat % 4 = 0 ∧ s.protBus = true then s.writeFretTable off.toNat w else s)

/-- A write of FRET_PLENc. -/
def State.writePlen (s : State) (c v : Nat) : State := s.fretGuard c (fun t => t.setF .FRET_PLEN_PLENSEL c (min 6 (v % 8)))

/-- A write of SWAPMODE and SWAP (R69). -/
def State.writeFretSwap (s : State) (mode go : Bool) : State :=
  if s.fretBusy then (if mode != s.bit .FRET_CTRL_SWAPMODE 0 then s.setF .FRET_STAT_WRPEND 0 1 else s)
  else
    let s1 := s.setBit .FRET_CTRL_SWAPMODE 0 mode
    if go then (s1.setF .FRET_CTRL_SWAP 0 1).setF .FRET_STAT_VALIDATING 0 1 else s1

def execFretSwap (mode : Bool) (s : State) : Out := .next (if s.protBus then s.writeFretSwap mode true else s)

/-- The failure code of a fret-table swap, 0 for none: over the rows of the shadow copy. -/
def State.fretCode (s : State) : Nat :=
  let c := 1 - s.getF .FRET_STAT_ACTIVE 0
  let rows := List.range (s.plen c)
  let any := fun (p : Nat → Nat → Bool) =>
    rows.any (fun r => (List.range 24).any (fun n => decide (2 ^ 31 ≤ s.rowWord c r (8 * n)) && p r n))
  if any (fun _ n => !s.engOk n) then 2
  else if any (fun r n => decide (s.rowWord c r (8 * n + 4) % 65536 ≤ s.rowWord c r (8 * n) % 65536)) then 1
  else if s.bit .FRET_CTRL_SWAPMODE 0 && s.fretLive && s.fretLate (s.getF .FRET_SWAPAT_SWAPAT 0) then 3
  else 0

/-- The swap takes effect: ACTIVE toggles. -/
def State.fretSwapNow (s : State) : State :=
  (((s.setF .FRET_STAT_ACTIVE 0 (1 - s.getF .FRET_STAT_ACTIVE 0)).setF .FRET_STAT_SWAPPEND 0 0).setF .FRET_CTRL_SWAP 0 0).setF
    .FRET_STAT_SWAPDONE 0 1

/-- A pending swap when the dispatcher or the ATU goes OFF. -/
def State.fretOffCheck (s : State) : State := if s.bit .FRET_STAT_SWAPPEND 0 then s.fretSwapNow else s

/-- Step 2 of a boundary for the fret table. -/
def State.fretSwapBoundary (s : State) : State :=
  if s.bit .FRET_STAT_SWAPPEND 0 && (!s.bit .FRET_CTRL_SWAPMODE 0 || s.getF .FRET_SWAPAT_SWAPAT 0 == s.fretnum) then s.fretSwapNow
  else s

/-- FRET_SWAP_VALIDATED: the validation completes (R69). -/
def execFretSwapValidated (s : State) : Out :=
  .next (if s.fabRuns && s.bit .FRET_STAT_VALIDATING 0 then
    let c := s.fretCode
    let s1 := s.setF .FRET_STAT_VALIDATING 0 0
    if c ≠ 0 then ((s1.setF .FRET_STAT_SWAPERR 0 1).setF .FRET_STAT_SWAPCODE 0 c).setF .FRET_CTRL_SWAP 0 0
    else if s.fretLive then s1.setF .FRET_STAT_SWAPPEND 0 1
    else s1.fretSwapNow
  else s)

/-! Enables (R38, R44, R74). -/

/-- The dispatcher goes OFF. -/
def State.fretReachOff (s : State) : State :=
  (({ s with fretd := { s.fretd with row := none } }).setF .FRET_STAT_ENST 0 enstOff).fretOffCheck

def State.fretEnable (s : State) : State := (s.setF .FRET_CTRL_EN 0 1).setF .FRET_STAT_ENST 0 enstOn

/-- EN = 0 written to the dispatcher: refused in S4; otherwise the dispatch of the current fret finishes. -/
def State.fretDisable (s : State) : State :=
  if s.inS4 then s.setF .FRET_STAT_DISERR 0 1
  else
    let s1 := s.setF .FRET_CTRL_EN 0 0
    if s.getF .FRET_STAT_ENST 0 = enstOff then s1
    else if s.fretd.row.isSome && s.atuRuns then s1.setF .FRET_STAT_ENST 0 enstDraining
    else s1.fretReachOff

/-- EN = 0 written to the ATU (R53, R74): refused in S4; otherwise OFF.  A pending FPCSEL, a pending swap of the fret table or the slot tables
and a pending activation happen at once.  A handover requested and not yet made, and an AUTOFREE switch that a loss has ordered, are
dropped: ATU_FREE and SRCREQ keep their values (DESIGN CHOICE, log entry 42).  It follows no twin any longer (R418). -/
def State.atuDisable (s : State) : State :=
  if s.inS4 then s.setF .ATU_STAT_DISERR 0 1
  else if s.atuOn = false then s.setF .ATU_CTRL_EN 0 0
  else
    let s1 := (s.setF .ATU_CTRL_EN 0 0).setF .ATU_STAT_ENST 0 enstOff
    let s2 := { s1 with fretd := { s1.fretd with row := none }, twin := { s1.twin with follow := false }, atu := { s1.atu with handover := none, autoWord := none, lockFrom := none } }
    let s3 := (s2.setF .ATU_STAT_LOCKED 0 0).setF .ATU_STAT_SLEWING 0 0
    let s4 := if s.bit .ATU_STAT_FPCPEND 0 then (s3.setF .ATU_CFG_FPCSEL 0 s.atu.fpcNew).setF .ATU_STAT_FPCPEND 0 0 else s3
    let s5 := s4.fretOffCheck.clgAtuOff.actOffCheck
    if s.getF .FRET_STAT_ENST 0 = enstDraining then s5.fretReachOff else s5

def execAtuDisable (s : State) : Out := .next (if s.protBus then s.atuDisable else s)

end Sys2Proof.Machine
end

