-- ==== Sys2Proof/Machine/HostPort.lean ====
section
/-! DEFINITION. The host ports: rings, launches, PRP, timestamps and sampled values (R362 to R380). -/
namespace Sys2Proof.Machine

/-! Frames.  A frame is the list of its bytes from the destination address, in the SSM without the FCS and at the ball with it. -/

/-- The Ethernet FCS of a frame, as it is sent (R363; IEEE 802.3, log entry 9). -/
def fcsOf (f : List Byte) : List Byte := leBytes 4 (crcOf 0xEDB88320 f)

/-- A big-endian number. -/
def beNat (l : List Byte) : Nat := l.foldl (fun a b => a * 256 + b.toNat) 0
/-- `k` bytes of `v`, most significant first. -/
def beBytes (k v : Nat) : List Byte := (leBytes k v).reverse
/-- The big-endian field of `k` bytes at offset `o`. -/
def beAt (l : List Byte) (o k : Nat) : Nat := beNat ((l.drop o).take k)
/-- Replaces the bytes at offset `o`. -/
def putAt (l : List Byte) (o : Nat) (bs : List Byte) : List Byte := l.take o ++ bs ++ l.drop (o + bs.length)

/-- A VLAN tag's EtherType (log entry 9). -/
def isVlan (t : Nat) : Bool := t == 0x8100 || t == 0x88A8

/-- The offset of the EtherType behind up to two VLAN tags. -/
def etherOff (f : List Byte) : Nat :=
  if isVlan (beAt f 12 2) then (if isVlan (beAt f 16 2) then 20 else 16) else 12

/-! PTP frames (R375). -/

/-- Where the PTP header of a frame lies, and the IP header's offset and version where it travels over UDP to port 319. -/
def ptpAt (f : List Byte) : Option (Nat × Option (Nat × Nat)) :=
  let e := etherOff f
  let l3 := e + 2
  let t := beAt f e 2
  if t = 0x88F7 then some (l3, none)
  else if t = 0x0800 ∧ beAt f (l3 + 9) 1 = 17 then
    let udp := l3 + beAt f l3 1 % 16 * 4
    if beAt f (udp + 2) 2 = 319 then some (udp + 8, some (l3, 4)) else none
  else if t = 0x86DD ∧ beAt f (l3 + 6) 1 = 17 ∧ beAt f (l3 + 42) 2 = 319 then some (l3 + 48, some (l3, 6))
  else none

/-- messageType of a PTP frame. -/
def ptpType (f : List Byte) (o : Nat) : Nat := beAt f o 1 % 16

/-- A PTP event message is recognised (Table 14-2). -/
def isPtpEvent (f : List Byte) : Bool :=
  match ptpAt f with
  | some (o, _) => decide (o + 34 ≤ f.length ∧ ptpType f o < 4)
  | none => false

/-- The one's-complement sum of 16-bit words. -/
def sum16 : List Byte → Nat
  | a :: b :: t => a.toNat * 256 + b.toNat + sum16 t
  | [a] => a.toNat * 256
  | [] => 0
def fold16 (n : Nat) : Nat := let m := n % 65536 + n / 65536; let k := m % 65536 + m / 65536; k % 65536 + k / 65536

/-- Recomputes the UDP checksum behind the IP header at `ip`; an IPv4 checksum of 0 stays 0. -/
def udpChecksum (f : List Byte) (ip ver : Nat) : List Byte :=
  let udp := if ver = 4 then ip + beAt f ip 1 % 16 * 4 else ip + 40
  let addrs := if ver = 4 then (f.drop (ip + 12)).take 8 else (f.drop (ip + 8)).take 32
  let len := beAt f (udp + 4) 2
  if ver = 4 ∧ beAt f (udp + 6) 2 = 0 then f
  else
    let g := putAt f (udp + 6) [0#8, 0#8]
    let c := 0xFFFF - fold16 (sum16 addrs + 17 + len + sum16 ((g.drop udp).take len))
    putAt f (udp + 6) (beBytes 2 (if c = 0 then 0xFFFF else c))

/-- One-step insertion: none where the frame does not parse or the difference exceeds 10^9 ns. -/
def oneStep (f : List Byte) (egress tref : Nat) : Option (List Byte) :=
  match ptpAt f with
  | none => none
  | some (o, ip) =>
    let ty := ptpType f o
    let d := (egress + 2 ^ 32 - tref % 2 ^ 32) % 2 ^ 32
    if f.length < o + 34 ∨ (ty ≠ 0 ∧ ty ≠ 3) ∨ 1000000000 < d then none
    else
      let g := putAt f (o + 8) (beBytes 8 ((beAt f (o + 8) 8 + d * 65536) % 2 ^ 64))
      some (match ip with
        | none => g
        | some (i, v) => udpChecksum g i v)

/-! PRP (R368, R369). -/

/-- The redundancy control trailer of a frame of `len` bytes with the trailer (log entry 9): LSDUsize counts the bytes behind the
EtherType. -/
def rct (f : List Byte) (seq : Nat) (lanId : Nat) : List Byte :=
  f ++ beBytes 2 seq ++ beBytes 2 (lanId * 4096 + (f.length + 6 - (etherOff f + 2)) % 4096) ++ [0x88#8, 0xFB#8]

/-- SeqNr and LanId of a valid trailer. -/
def rctOf (f : List Byte) : Option (Nat × Nat) :=
  let n := f.length
  let w := beAt f (n - 4) 2
  if n < etherOff f + 8 ∨ beAt f (n - 2) 2 ≠ 0x88FB ∨ w % 4096 ≠ (n - (etherOff f + 2)) % 4096 ∨ (w / 4096 ≠ 10 ∧ w / 4096 ≠ 11) then none
  else some (beAt f (n - 6) 2, w / 4096)

/-- The even port of a port's pair, and the pair. -/
def pairIdx (p : Fin 4) : Fin 2 := ⟨p / 2, by omega⟩
def evenPort (p : Fin 4) : Nat := p / 2 * 2
def partner (p : Fin 4) : Fin 4 := ⟨(p / 2 * 2) + (1 - p % 2), by omega⟩
def State.joined (s : State) (p : Fin 4) : Bool := s.bit .HP_PRP_EN (evenPort p) && s.portOk (partner p)
/-- The LanId of a port: 0xA on the even port. -/
def lanOf (p : Fin 4) : Nat := 10 + p % 2

def State.modHp (s : State) (p : Fin 4) (f : HpSt → HpSt) : State := { s with hp := s.hp.set p (f s.hp[p]) }
def State.modPrp (s : State) (k : Fin 2) (f : PrpSt → PrpSt) : State := { s with prp := s.prp.set k (f s.prp[k]) }

/-- Enters a key in the duplicate table of 2,048 entries. -/
def State.prpEnter (s : State) (p : Fin 4) (mac seq : Nat) : State :=
  let t := ((s.prp[pairIdx p]).table.filter (fun e => !(e.mac == mac && e.seq == seq))) ++ [⟨mac, seq, p.val, s.tick⟩]
  if t.length ≤ 2048 then s.modPrp (pairIdx p) (fun x => { x with table := t })
  else (s.modPrp (pairIdx p) (fun x => { x with table := t.drop 1 })).countF .HP_PRPCNT_EVICT (evenPort p) 1

/-- What PRP makes of a received frame: whether it is delivered, with FLAGS[1:0].  A frame with the other LAN's LanId is counted, and takes
part in the duplicate table like any other (log entry 49). -/
def State.prpReceive (s : State) (p : Fin 4) (f : List Byte) : Option Nat × State :=
  match rctOf f with
  | none => (some 0, s)
  | some (seq, lan) =>
    if s.joined p = false then (some 1, s)
    else
      let mac := beAt f 6 6
      let wrong := lan != lanOf p
      let s1 := s.countF .HP_PRPCNT_WRONGLAN (evenPort p) (b2n wrong)
      if (s.prp[pairIdx p]).table.any (fun e => e.mac == mac && e.seq == seq && e.port != p.val) then
        (none, s1.modPrp (pairIdx p) (fun x => { x with table := x.table.filter (fun e => !(e.mac == mac && e.seq == seq)) }))
      else (some (1 + 2 * b2n wrong), s1.prpEnter p mac seq)

/-- PRP_ENTRY_EXPIRY: the oldest entry of pair `k` has lived for FORGET ms, of 400,000 FAB cycles each. -/
def execPrpEntryExpiry (k : Fin 2) (s : State) : Out :=
  .next (match (s.prp[k]).table with
    | [] => s
    | e :: _ => if !(s.powered domHost && s.awake) then s else (s.passTo (e.since + s.getF .HP_PRP_FORGET (2 * k.val) * 400000)).modPrp k (fun x => { x with table := x.table.drop 1 }))

/-! Sampled values (R378 to R380; log entry 9 for the encoding). -/

/-- Splits a BER string into its tagged values. -/
def tlvs : Nat → List Byte → Option (List (Nat × List Byte))
  | 0, _ => none
  | _ + 1, [] => some []
  | k + 1, t :: l :: r =>
    let cut := fun (n : Nat) (r : List Byte) =>
      if r.length < n then none else (tlvs k (r.drop n)).map (fun x => (t.toNat, r.take n) :: x)
    if l.toNat < 128 then cut l.toNat r
    else if l = 0x81#8 ∧ 1 ≤ r.length then cut (beAt r 0 1) (r.drop 1)
    else if l = 0x82#8 ∧ 2 ≤ r.length then cut (beAt r 0 2) (r.drop 2)
    else none
  | _ + 1, [_] => none

def tagged (t : Nat) (l : List (Nat × List Byte)) : Option (List Byte) := (l.find? (fun x => x.1 == t)).map Prod.snd

/-- A decoded ASDU: smpCnt, smpSynch, confRev, and the eight channels with their quality words. -/
structure Asdu where
  cnt : Nat
  synch : Nat
  conf : Nat
  chans : List (Nat × Nat)

def asduOf (b : List Byte) : Option Asdu := do
  let l ← tlvs 16 b
  let cnt ← tagged 0x82 l
  let conf ← tagged 0x83 l
  let syn ← tagged 0x85 l
  let smp ← tagged 0x87 l
  if cnt.length = 2 ∧ conf.length = 4 ∧ syn.length = 1 ∧ smp.length = 64 then
    some ⟨beNat cnt, beNat syn, beNat conf, (List.range 8).map (fun i => (beAt smp (8 * i) 4, beAt smp (8 * i + 4) 4))⟩
  else none

/-- The ASDUs of the bytes behind the EtherType. -/
def svDecode (b : List Byte) : Option (List Asdu) := do
  let len := beAt b 2 2
  if len < 8 ∨ b.length < len then none
  let top ← tlvs 4 ((b.drop 8).take (len - 8))
  let pdu ← tagged 0x60 top
  let l ← tlvs 8 pdu
  let no ← tagged 0x80 l
  let seq ← tagged 0xA2 l
  let parts ← tlvs 16 seq
  let as ← (parts.filter (fun x => x.1 == 0x30)).mapM (fun x => asduOf x.2)
  if as.length = beNat no ∧ 1 ≤ as.length ∧ as.length ≤ 8 then some as else none

/-- The entry a frame matches: the lowest. -/
def State.svEntry (s : State) (p : Fin 4) (f : List Byte) : Option (Fin 16) :=
  let e := etherOff f
  if beAt f e 2 ≠ 0x88BA then none
  else (List.finRange 16).find? (fun n => s.bit .SVF_CTRL_EN n && s.testF .SVF_CTRL_PORTS n p &&
    s.getF .SVF_MATCH_APPID n == beAt f (e + 2) 2 && s.getF .SVF_MATCH_DSTLO n == beAt f 4 2)

/-- The record of Table 14-5. -/
def Asdu.record (a : Asdu) (idx stamp : Nat) : List Byte :=
  leBytes 2 a.cnt ++ leBytes 1 a.synch ++ leBytes 1 idx ++ leBytes 4 stamp ++ leBytes 4 a.conf ++ leBytes 4 0 ++
  (a.chans.map (fun c => leBytes 4 c.1)).flatten ++ (a.chans.map (fun c => leBytes 4 c.2)).flatten ++ List.replicate 48 0#8

/-- Ring sizes: LOG2N in lo..hi, other values act as 4. -/
def ringN (log2n lo hi : Nat) : Nat := 2 ^ (if lo ≤ log2n ∧ log2n ≤ hi then log2n else 4)

/-- The samples an entry misses at count `c`: the skipped ones, or one where the count wraps elsewhere. -/
def svMissed (exp : Option Nat) (wrap c : Nat) : Nat :=
  match exp with
  | none => 0
  | some e => if c = e then 0 else if e < c ∧ c ≤ wrap then c - e else 1

/-- An invalid voltage channel (log entry 9): validity 0b01. -/
def State.asduInvalid (s : State) (n : Fin 16) (a : Asdu) : Bool :=
  a.synch != 2 || ((a.chans.drop (s.getF .SVF_CTRL_VCH n)).take 3).any (fun c => c.2 % 4 == 1)

/-- The ATU's count of consecutive missing samples (R56, R58). -/
def State.svCount (s : State) (n : Fin 16) (missed : Nat) (bad : Bool) : State :=
  if s.svStream ≠ n.val then s
  else
    let run := s.svFeed.miss + missed
    let lostSkip := decide (max 1 (s.getF .ATU_CFG_MISSMAX 0) ≤ run) && decide (0 < missed)
    let run' := if bad then run + 1 else 0
    let lost := lostSkip || decide (max 1 (s.getF .ATU_CFG_MISSMAX 0) ≤ run')
    let s1 := { s with svFeed := { miss := run', since := s.tick } }
    if lost && s.src == srcSv then s1.sourceLost else s1

/-- The age in ns of the sample with count `c`: the station time since the instant that smpCnt names within the second (R56). -/
def State.svAge (s : State) (c : Nat) : Nat := (s.clock.ns + 1000000000 - c * 1000000000 / (s.svWrap + 1) % 1000000000) % 1000000000

/-- The output angle at the instant of a sample `age` ns old (R56). -/
def State.angleAgo (s : State) (age : Nat) : Nat :=
  (((s.accFull : Int) - ((age * s.getF .ATU_FREQ_FREQ 0 * 2 / 5 : Nat) : Int)) / 65536 % 2 ^ 32).toNat

/-- The SV tracker takes the samples of channels VCH to VCH + 2 at the output angle of their own instant, so that their age does not bias
the phase error (R56, R380). -/
def State.svTake (s : State) (n : Fin 16) (a : Asdu) : State :=
  let x := s.angleAgo (s.svAge a.cnt)
  let dq := Config.rotate (((a.chans.drop (s.getF .SVF_CTRL_VCH n)).take 3).map (fun c => (x, (BitVec.ofNat 32 c.1).toInt)))
  { s with atu := { s.atu with svTr := { s.atu.svTr with pherr := (Config.phaseOf dq).toInt, fresh := true } } }

/-- One ASDU: the record, WIDX, the expected count and the ATU's view. -/
def State.svAsdu (s : State) (n : Fin 16) (stamp idx : Nat) (a : Asdu) : State :=
  let w := s.getF .SVF_IDX_WIDX n
  let addr := s.getF .SVF_RING_ADDR n * 4096 + w % ringN (s.getF .SVF_RING_LOG2N n) 4 12 * 128
  let miss := svMissed s.svExp[n] s.svWrap a.cnt
  let s1 := ((s.hostWrite addr (a.record idx stamp)).setF .SVF_IDX_WIDX n (w + 1)).countF .SVF_CNT_MISS n miss
  let s2 := { s1 with svExp := s1.svExp.set n (some (if a.cnt = s.svWrap then 0 else a.cnt + 1)) }
  let s3 := s2.svCount n miss (s.asduInvalid n a)
  if s.svStream = n.val ∧ s.asduInvalid n a = false then s3.svTake n a else s3

/-- A matched frame. -/
def State.svFrame (s : State) (n : Fin 16) (stamp : Nat) (b : List Byte) : State :=
  match svDecode b with
  | none => s.countF .SVF_CNT_BAD n 1
  | some as => (as.zipIdx).foldl (fun t x => t.svAsdu n stamp x.2 x.1) s

/-! Reception (R363, R365, R374). -/

def psDown : Nat := 1
def psAn : Nat := 2
def psUp : Nat := 3
def psTest : Nat := 4
def State.hpState (s : State) (p : Fin 4) : Nat := s.getF .HP_STAT_PSTATE p

/-- The port exists, has power and its clock, and its frames flow (R26, R364). -/
def State.hpUp (s : State) (p : Fin 4) : Bool := s.portOk p && s.powered 9 && s.hostRuns p && s.hpState p == psUp

def State.maxlen (s : State) (p : Fin 4) : Nat := max 64 (min 2020 (s.getF .HP_MAXLEN_MAXLEN p))

/-- The compact form of an instant `ago` ns before now, moved by `d` ns. -/
def State.stampAt (s : State) (ago : Nat) (d : Int) : Nat :=
  (((s.timeNs : Int) - ago + d) % (2 ^ 32 : Int)).toNat

/-- Writes a receive slot and advances HEAD, or drops the frame (R365). -/
def State.ringPut (s : State) (p : Fin 4) (f : List Byte) (flags stamp : Nat) : State :=
  let head := s.getF .HP_RQIDX_HEAD p
  let n := ringN (s.getF .HP_RQBASE_LOG2N p) 4 10
  if n ≤ (head + 65536 - s.getF .HP_RQIDX_TAIL p) % 65536 then s.countF .HP_ERRCNT_RXFULL p 1
  else
    let hdr := leBytes 2 f.length ++ leBytes 1 flags ++ leBytes 1 p.val ++ leBytes 4 stamp ++ List.replicate 24 0#8
    (s.hostWrite (s.getF .HP_RQBASE_ADDR p * 4096 + head % n * 2048) (hdr ++ f)).setF .HP_RQIDX_HEAD p (head + 1)

/-- HOST_FRAME_RECEIVED: the end of frame `f`, with its FCS, has come `ago` ns after its SFD passed the PCS boundary. -/
def execHostFrameReceived (p : Fin 4) (f fcs : List Byte) (ago : Nat) (s : State) : Out :=
  .next (if s.hpUp p = false then s
    else if fcs ≠ fcsOf f ∨ f.length + 4 < 64 ∨ s.maxlen p < f.length + 4 then s.countF .HP_ERRCNT_RXBAD p 1
    else
      let stamp := s.stampAt ago (-(s.getF .HP_TSLAT_RXLAT p : Int))
      match s.prpReceive p f with
      | (none, s1) => s1
      | (some fl, s1) =>
        let ptp := if isPtpEvent f then 8 else 0
        match s1.svEntry p f with
        | none => s1.ringPut p f (fl + ptp) stamp
        | some n => (s1.svFrame n stamp (f.drop (etherOff f + 2))).ringPut p f (fl + 4 + ptp) stamp)

/-! Transmission (R366 to R368, R375, R376). -/

/-- The fields of a transmit queue. -/
structure TqFlds where
  addr : Fld
  log2n : Fld
  tail : Fld
  head : Fld

def tqFlds (q : Fin 2) : TqFlds :=
  if q = 0 then ⟨.HP_TQ0BASE_ADDR, .HP_TQ0BASE_LOG2N, .HP_TQ0IDX_TAIL, .HP_TQ0IDX_HEAD⟩
  else ⟨.HP_TQ1BASE_ADDR, .HP_TQ1BASE_LOG2N, .HP_TQ1IDX_TAIL, .HP_TQ1IDX_HEAD⟩

def State.tqEmpty (s : State) (p : Fin 4) (q : Fin 2) : Bool := s.getF (tqFlds q).tail p == s.getF (tqFlds q).head p
/-- The address of the head descriptor. -/
def State.tqAddr (s : State) (p : Fin 4) (q : Fin 2) : Nat :=
  s.getF (tqFlds q).addr p * 4096 + s.getF (tqFlds q).head p % ringN (s.getF (tqFlds q).log2n p) 4 10 * 32

/-- A transmit descriptor (Table 14-3). -/
structure TxDesc where
  addr : Nat
  ltype : Nat
  dup : Bool
  ts : Bool
  len : Nat
  launch : Nat
  tsid : Nat
  offset : Nat
  tref : Nat
deriving DecidableEq, Repr

def State.txDesc (s : State) (a : Nat) : TxDesc :=
  let w := fun (k : Nat) => leNat (s.hostRead (a + 4 * k) 4).1
  { addr := w 0, ltype := w 1 / 2 ^ 26 % 4, dup := (w 1).testBit 25, ts := decide (0 < w 1 / 2 ^ 23 % 4), len := w 1 % 2 ^ 14,
    launch := w 2, tsid := w 3 / 65536, offset := w 3 % 65536, tref := w 4 }

/-- The port writes STATUS into the descriptor at `a`, then advances HEAD. -/
def State.txDoneAt (s : State) (p : Fin 4) (q : Fin 2) (a status : Nat) : State :=
  (s.hostWrite (a + 20) (leBytes 4 (status * 2 ^ 28))).setF (tqFlds q).head p (s.getF (tqFlds q).head p + 1)

def State.txDone (s : State) (p : Fin 4) (q : Fin 2) (status : Nat) : State := s.txDoneAt p q (s.tqAddr p q) status

/-- The descriptor is refused: LTYPE 0b11 in queue 0, or LEN outside its range. -/
def State.badDesc (s : State) (p : Fin 4) (q : Fin 2) (d : TxDesc) : Bool :=
  (q == 0 && d.ltype == 3) || decide (d.len < 60) || decide (s.maxlen p - 4 < d.len)

/-- The launch of a descriptor; in queue 1 LTYPE is ignored. -/
def TxDesc.timing (d : TxDesc) (q : Fin 2) : LaunchAt := if q = 0 then ⟨d.ltype, d.launch, d.offset⟩ else {}

/-- The time left to a launch, in ns, as a fraction: negative once it has passed, in the serial order of R50 (R367). -/
def State.launchIn (s : State) (a : LaunchAt) : Int × Nat :=
  if a.ltype = 1 then ((BitVec.ofInt 32 ((a.launch : Int) - s.compact)).toInt, 1)
  else
    let k := (BitVec.ofInt 32 ((a.launch : Int) - s.fretnum)).toInt
    ((k * s.fretAu + (a.offset * s.unitAu : Nat) - s.inFret) * 163840, max 1 (s.getF .ATU_FREQ_FREQ 0))

/-- The launch has come. -/
def State.launchDue (s : State) (a : LaunchAt) : Bool := decide ((s.launchIn a).1 ≤ 0)
/-- The launch has passed, and by more than 1 ms. -/
def State.launchLate (s : State) (a : LaunchAt) : Bool := decide ((s.launchIn a).1 < 0)
def State.launchLost (s : State) (a : LaunchAt) : Bool := decide ((s.launchIn a).1 < -(1000000 * (s.launchIn a).2 : Int))

/-- Brings the block up to a launch that lies ahead: a station time, or a threshold of the fret in progress. -/
def State.reachLaunch (s : State) (a : LaunchAt) : State :=
  if s.launchDue a then s
  else if a.ltype = 1 then s.passTime (s.timeNs + (s.launchIn a).1.toNat)
  else if a.launch = s.fretnum ∧ s.atuRuns = true then s.raiseAngle a.offset
  else s

/-- What a timed frame whose turn comes shows of its launch: none while it waits, else whether it is late. -/
def State.dueNow (s : State) (a : LaunchAt) : Option Bool := if a.ltype ≠ 0 ∧ s.launchDue a = true then some (s.launchLate a) else none

/-- The oldest waiting duplicate of a port: overdue ones are dropped. -/
def State.dupCheck (s : State) (p : Fin 4) : State :=
  let l := (s.hp[p]).dups.dropWhile (fun d => d.timing.ltype != 0 && s.launchLost d.timing)
  let l1 := match l with
    | [] => []
    | d :: t => { d with due := s.dueNow d.timing } :: t
  s.modHp p (fun h => { h with dups := l1 })

/-- A head with DUP on a joined pair takes its SeqNr, and the partner, where it is ON, takes its copy (R368). -/
def State.handCopy (s : State) (p : Fin 4) (q : Fin 2) (d : TxDesc) : State :=
  if d.dup && s.joined p then
    let seq := (s.prp[pairIdx p]).seqTx
    let s1 := (s.modPrp (pairIdx p) (fun x => { x with seqTx := (x.seqTx + 1) % 65536 })).modHp p (fun h => { h with seqs := h.seqs.set q (some seq) })
    if s.getF .HP_STAT_ENST (partner p) ≠ enstOn then s1
    else
      let r := s1.hostRead d.addr d.len
      let c : DupTx := { frame := rct r.1 seq (lanOf (partner p)), stamped := d.ts, tsid := d.tsid, tref := d.tref, timing := d.timing q }
      let s2 := r.2.modHp (partner p) (fun h => { h with dups := h.dups ++ [c] })
      if (s.hp[partner p]).dups.isEmpty then s2.dupCheck (partner p) else s2
  else s

/-- A descriptor becomes the head of queue `q`: refused and overdue ones are dropped, and a timed one whose time has come is
due.  At most as many as the ring holds. -/
def State.headCheck (s : State) (p : Fin 4) (q : Fin 2) : Nat → State
  | 0 => s
  | k + 1 =>
    if s.tqEmpty p q then s
    else
      let d := s.txDesc (s.tqAddr p q)
      let t := (s.hostRead (s.tqAddr p q) 32).2
      if s.badDesc p q d then (t.txDone p q 5).headCheck p q k
      else if (d.timing q).ltype ≠ 0 ∧ s.launchLost (d.timing q) = true then (t.txDone p q 3).headCheck p q k
      else
        (if q = 0 then t.modHp p (fun h => { h with due := s.dueNow (d.timing q), headAt := s.tick }) else t).handCopy p q d

/-- A new head after the last one has gone. -/
def State.newHead (s : State) (p : Fin 4) (q : Fin 2) : State :=
  (s.modHp p (fun h => { h with due := if q = 0 then none else h.due, seqs := h.seqs.set q none })).headCheck p q 1024

/-- The head of queue 0 of a port compares against the present time again, after a SET or STEP and where frames flow again: more than 1 ms
late it is dropped, its time passed it is late, else it waits (R367, R382, R383).  A frame in transmission goes on. -/
def State.headAgain (s : State) (p : Fin 4) : State :=
  if s.tqEmpty p 0 || (s.hp[p]).last.isSome then s
  else
    let a := (s.txDesc (s.tqAddr p 0)).timing 0
    if a.ltype = 0 then s
    else if s.launchLost a then (s.txDone p 0 3).newHead p 0
    else s.modHp p (fun h => { h with due := s.dueNow a })

/-- The waiting frames of a port, where it is ON. -/
def State.compareAgain (s : State) (p : Fin 4) : State :=
  if s.getF .HP_STAT_ENST p = enstOn then (s.headAgain p).dupCheck p else s

/-- SET and STEP with the timed launches, which compare against the stepped time (R371, R382). -/
def State.timeSetAll (s : State) : State :=
  if 1000000000 ≤ s.getF .TIME_WNS_NS 0 then s.timeSet else forIdx (n := 4) (fun p t => t.compareAgain p) s.timeSet
def State.timeStepAll (s : State) : State := forIdx (n := 4) (fun p t => t.compareAgain p) s.timeStep

def execTimeSet (s : State) : Out := .next (if s.hostBus then s.timeSetAll else s)
def execTimeStep (s : State) : Out := .next (if s.hostBus then s.timeStepAll else s)

/-- A write of TAIL. -/
def State.writeTail (s : State) (p : Fin 4) (q : Fin 2) (v : Nat) : State :=
  let e := s.tqEmpty p q
  let s1 := s.setF (tqFlds q).tail p v
  if e && s.getF .HP_STAT_ENST p == enstOn then s1.newHead p q else s1

/-- A write reaches the port. -/
def State.portBus (s : State) (p : Fin 4) : Bool := s.portOk p && s.hostBus

def execTxQueueTailWrite (p : Fin 4) (q : Fin 2) (tail : BitVec 16) (s : State) : Out :=
  .next (if s.portBus p then s.writeTail p q tail.toNat else s)

/-- The timed frame that waits first: queue 0's head, or the oldest duplicate of the partner. -/
def State.waitsFor (s : State) (p : Fin 4) (copy : Bool) : Option LaunchAt :=
  if copy then ((s.hp[p]).dups.head?).bind (fun d => if d.timing.ltype ≠ 0 ∧ d.due = none then some d.timing else none)
  else if s.tqEmpty p 0 then none
  else
    let a := (s.txDesc (s.tqAddr p 0)).timing 0
    if a.ltype ≠ 0 ∧ (s.hp[p]).due = none then some a else none

/-- TIMED_LAUNCH_DUE: the launch of queue 0's head, or of a duplicate, comes, with another frame in transmission or not. -/
def execTimedLaunchDue (q : TxPlace) (busy : Bool) (s : State) : Out :=
  let p := q.port
  let copy := q.copy
  .next (match s.waitsFor p copy with
  | none => s
  | some a =>
    let t := s.reachLaunch a
    if !(s.hpUp p && t.launchDue a) then s
    else if t.launchLost a then (if copy then t.dupCheck p else t.headAgain p)
    else if copy then
      t.modHp p (fun h =>
        let l := match h.dups with
          | [] => []
          | d :: r => { d with due := some busy } :: r
        { h with dups := l })
    else t.modHp p (fun h => { h with due := some busy }))

/-- A frame leaves the port with its FCS. -/
def State.putFrame (s : State) (p : Fin 4) (f : List Byte) : State := s.modHp p (fun h => { h with lastTx := f ++ fcsOf f })

/-- A frame leaves the port: one-step insertion or a push into the timestamp queue; STATUS 4 where the insertion fails. -/
def State.sendFrame (s : State) (p : Fin 4) (j : TxJob) (ago : Nat) : State × Bool :=
  let st := s.stampAt ago j.lat
  if j.stamped = false then (s.putFrame p j.frame, false)
  else if j.oneStep then
    match oneStep j.frame st j.tref with
    | none => (s.putFrame p j.frame, true)
    | some g => (s.putFrame p g, false)
  else
    let s1 := s.putFrame p j.frame
    if 16 ≤ (s.hp[p]).tsq.length then (s1.setF .HP_STAT_TSQ_OVF p 1, false)
    else (s1.modHp p (fun h => { h with tsq := h.tsq ++ [(j.tsid, st)] }), false)

/-- The port goes OFF. -/
def State.hpReachOff (s : State) (p : Fin 4) : State := (s.setF .HP_STAT_ENST p enstOff).setF .HP_STAT_PSTATE p 0

/-- What follows a frame: a DRAINING port is OFF with its queues as they are, and a port that is ON takes its next frame. -/
def State.sentNext (s : State) (p : Fin 4) (next : State → State) : State :=
  let s1 := s.modHp p (fun h => { h with last := none })
  if s.getF .HP_STAT_ENST p = enstDraining then s1.hpReachOff p else next s1

/-- The time of a byte on the line, in 0.1 ns (Table 14-1). -/
def State.byteTime (s : State) (p : Fin 4) : Nat :=
  if s.getF .HP_CTRL_MODE p = 0 then 8
  else if s.getF .HP_CTRL_MODE p = 2 ∧ s.getF .HP_STAT_SPEED p = 0 then 8000
  else if s.getF .HP_CTRL_MODE p = 2 ∧ s.getF .HP_STAT_SPEED p = 1 then 800
  else 80

/-- A queue-1 frame of `len` bytes could start `ago` ns ago: queue 0 had no head then, or its head waited for a launch behind the
frame's end (R366). -/
def State.queue1May (s : State) (p : Fin 4) (len ago : Nat) : Bool :=
  let a := (s.txDesc (s.tqAddr p 0)).timing 0
  let before := decide (s.tick * 25 < (s.hp[p]).headAt * 25 + ago * 10)
  let r := s.launchIn a
  s.tqEmpty p 0 || before || (a.ltype != 0 && decide ((((len + 4) * s.byteTime p : Nat) - (ago * 10 : Nat) : Int) * r.2 < r.1 * 10))

/-- The frame that queue `q`'s head or the oldest duplicate is can leave the port. -/
def State.canSend (s : State) (p : Fin 4) (src : TxSource) (ago : Nat) : Bool :=
  let head := fun (q : Fin 2) => !s.tqEmpty p q && !s.badDesc p q (s.txDesc (s.tqAddr p q))
  match src with
  | .queue0 => head 0 && ((s.txDesc (s.tqAddr p 0)).ltype == 0 || (s.hp[p]).due.isSome)
  | .queue1 => head 1 && s.queue1May p ((s.txDesc (s.tqAddr p 1)).len + if ((s.hp[p]).seqs[1]).isSome then 6 else 0) ago
  | .copy => ((s.hp[p]).dups.head?).any (fun d => d.timing.ltype == 0 || d.due.isSome)

/-- The frame that queue `q`'s head is, as the port takes it up, and the reads behind it. -/
def State.headJob (s : State) (p : Fin 4) (src : TxSource) (q : Fin 2) : TxJob × State :=
  let d := s.txDesc (s.tqAddr p q)
  let r := s.hostRead d.addr d.len
  let own := match (s.hp[p]).seqs[q] with
    | some seq => rct r.1 seq (lanOf p)
    | none => r.1
  ({ src := src, slot := s.tqAddr p q, frame := own, stamped := d.ts, tsid := d.tsid, tref := d.tref, oneStep := s.bit .HP_CTRL_TXTS p,
     lat := s.getF .HP_TSLAT_TXLAT p, late := q == 0 && d.ltype != 0 && (s.hp[p]).due == some true }, r.2)

/-- The frame that the source `src` gives. -/
def State.takeJob (s : State) (p : Fin 4) (src : TxSource) : Option (TxJob × State) :=
  match src with
  | .queue0 => some (s.headJob p src 0)
  | .queue1 => some (s.headJob p src 1)
  | .copy => ((s.hp[p]).dups.head?).map (fun d =>
      ({ src := src, slot := 0, frame := d.frame, stamped := d.stamped, tsid := d.tsid, tref := d.tref, oneStep := s.bit .HP_CTRL_TXTS p,
         lat := s.getF .HP_TSLAT_TXLAT p, late := false }, s))

/-- A frame leaves the port: STATUS and HEAD of its descriptor, or the duplicate is gone, and the next frame's turn comes. -/
def State.sendJob (s : State) (p : Fin 4) (j : TxJob) (ago : Nat) : State :=
  let r := s.sendFrame p j ago
  let done := fun (q : Fin 2) =>
    (r.1.txDoneAt p q j.slot (if r.2 then 4 else if j.late then 2 else 1)).sentNext p (fun t => t.newHead p q)
  match j.src with
  | .queue0 => done 0
  | .queue1 => done 1
  | .copy => (r.1.modHp p (fun h => { h with dups := h.dups.drop 1 })).sentNext p (fun t => t.dupCheck p)

/-- HOST_FRAME_SENT: a frame leaves the port, its SFD having passed the PCS boundary `ago` ns before.  A frame that was in progress at a
disable leaves as it was formed (R38), and a DRAINING port finishes that one alone. -/
def execHostFrameSent (p : Fin 4) (src : TxSource) (ago : Nat) (s : State) : Out :=
  .next (if s.hpUp p = false then s
    else match (s.hp[p]).last with
      | some j => if j.src = src then s.sendJob p j ago else s
      | none =>
        if s.getF .HP_STAT_ENST p = enstDraining || !s.canSend p src ago then s
        else match s.takeJob p src with
          | some (j, t) => t.sendJob p j ago
          | none => s)

/-- A read of HPp_TSQTS (R376). -/
def State.popTsq (s : State) (p : Fin 4) : Word × State :=
  match (s.hp[p]).tsq with
  | [] => (0#32, s)
  | (_, c) :: t => (BitVec.ofNat 32 c, s.modHp p (fun h => { h with tsq := t }))

def execTsqPop (p : Fin 4) (s : State) : Out :=
  .next (if s.portBus p then (s.popTsq p).2.answer (s.popTsq p).1 else s)

/-! The PCS (R362, R364, R374). -/

/-- The characterised latencies of Table 14-11, by mode and SGMII speed: TXLAT and RXLAT. -/
def tslat (mode speed : Nat) : Nat × Nat :=
  match mode, speed with
  | 0, _ => (42, 66)
  | 2, 0 => (888, 976)
  | 2, 1 => (168, 256)
  | _, _ => (88, 176)

def State.loadTslat (s : State) (p : Fin 4) : State :=
  let l := tslat (s.getF .HP_CTRL_MODE p) (s.getF .HP_STAT_SPEED p)
  (s.setF .HP_TSLAT_TXLAT p l.1).setF .HP_TSLAT_RXLAT p l.2

/-- A port that is enabled, and has no test mode, looks for lock again. -/
def State.hpRestart (s : State) (p : Fin 4) : State :=
  if s.getF .HP_STAT_ENST p = enstOn ∧ s.hpState p ≠ psTest then s.setF .HP_STAT_PSTATE p psDown else s

/-- A write of MODE (R362, R374). -/
def State.writeHpMode (s : State) (p : Fin 4) (m : Nat) : State :=
  if m = 3 then s.setF .HP_STAT_MODEERR p 1
  else if m = s.getF .HP_CTRL_MODE p then s.loadTslat p
  else ((s.setF .HP_CTRL_MODE p m).loadTslat p).hpRestart p

def execHpModeWrite (p : Fin 4) (mode : BitVec 2) (s : State) : Out :=
  .next (if s.portBus p then s.writeHpMode p mode.toNat else s)

/-- A change of the negotiated speed loads TSLAT (R374). -/
def State.setSpeed (s : State) (p : Fin 4) (v : Nat) : State :=
  if s.getF .HP_CTRL_MODE p ≠ 2 ∨ s.getF .HP_STAT_SPEED p = v ∨ v = 3 then s else (s.setF .HP_STAT_SPEED p v).loadTslat p

/-- Frames flow; a receiver that adapts writes the peaking it has found, a free value (R200, log entry 2). -/
def State.hpEnterUp (s : State) (p : Fin 4) : State :=
  let s1 := (s.setF .HP_STAT_PSTATE p psUp).compareAgain p
  if s.bit .HP_RXEQ_ADAPT p then s1.draw.2.setF .HP_RXEQ_PEAK p s1.draw.1.toNat else s1

/-- HOST_LINK_STATE_CHANGE, of a port that is not OFF; a loss ends the frame in progress. -/
def execHostLinkStateChange (p : Fin 4) (e : PcsEvent) (s : State) : Out :=
  .next (if s.portOk p && s.powered 9 && s.hostRuns p && s.getF .HP_STAT_ENST p != enstOff && s.hpState p != psTest then
    match e with
    | .lost => (s.setF .HP_STAT_PSTATE p psDown).modHp p (fun h => { h with last := none })
    | .locked =>
      if s.hpState p ≠ psDown then s
      else if s.getF .HP_CTRL_MODE p ≠ 0 ∧ s.bit .HP_CTRL_ANEN p = true then s.setF .HP_STAT_PSTATE p psAn
      else s.hpEnterUp p
    | .negotiated half speed =>
      if s.hpState p ≠ psAn then s
      else if half then s.setF .HP_STAT_HDXERR p 1
      else (s.setSpeed p speed.toNat).hpEnterUp p
  else s)

/-- EN = 1 and EN = 0 written to a port (Table 1-7).  From OFF the heads are looked at anew; one already handed over as a duplicate keeps its
SeqNr (R368).  A DRAINING port goes on with its frame (R39). -/
def State.hpEnable (s : State) (p : Fin 4) : State :=
  let off := s.getF .HP_STAT_ENST p == enstOff
  let s1 := (s.setF .HP_CTRL_EN p 1).setF .HP_STAT_ENST p enstOn
  let fresh := fun (t : State) (q : Fin 2) => if ((t.hp[p]).seqs[q]).isSome then t else t.newHead p q
  if off then (fresh (fresh (s1.setF .HP_STAT_PSTATE p (if s.testing (.host p) then psTest else psDown)) 0) 1).headAgain p else s1

/-- The frame that may be in progress, as a free value of four picks it (log entry 2). -/
def State.inProgress (s : State) (p : Fin 4) (pick : Nat) : Option TxSource :=
  let src := match pick with
    | 0 => some TxSource.queue0
    | 1 => some .queue1
    | 2 => some .copy
    | _ => none
  src.filter (fun x => s.hpState p == psUp && s.canSend p x 0)

/-- The frame in progress finishes, and queued frames stay queued; whether one is in progress is free (Table 1-7, log entry 2). -/
def State.hpDisable (s : State) (p : Fin 4) : State :=
  let s1 := s.setF .HP_CTRL_EN p 0
  if s.getF .HP_STAT_ENST p = enstOff then s1
  else if s.getF .HP_STAT_ENST p = enstDraining then s1
  else match (s.hp[p]).last, (s.inProgress p (s.draw.1.toNat % 4)).bind (s1.draw.2.takeJob p) with
    | some _, _ => s1.setF .HP_STAT_ENST p enstDraining
    | none, some x => (x.2.modHp p (fun h => { h with last := some x.1 })).setF .HP_STAT_ENST p enstDraining
    | none, none => s1.draw.2.hpReachOff p

end Sys2Proof.Machine
end

