-- ==== Sys2Proof/Machine/Clk.lean ====
section
/-! DEFINITION. The PLLs and the loss of a clock (R451 to R457). -/
namespace Sys2Proof.Machine

/-- The VCO target of a PLL in 2 MHz units (Table 18-2). -/
def vcoTarget : Fin 4 → Nat
  | 0 => 2000 | 1 => 1600 | 2 => 2500 | 3 => 5156

/-- A band covers the target, FLO and FHI in 4 MHz units; PLL3's 10,312.5 MHz lies between two multiples of 2 MHz. -/
def bandCovers (n : Fin 4) (flo fhi : Nat) : Bool :=
  if n = 3 then decide (2 * flo ≤ 5156) && decide (5157 ≤ 2 * fhi) else decide (2 * flo ≤ vcoTarget n) && decide (vcoTarget n ≤ 2 * fhi)

/-- The instance of band entry `m` of PLL `n`. -/
def bandIdx (n : Fin 4) (m : Nat) : Nat := n * 16 + m

/-- The lowest VALID entry that covers the target (R452). -/
def State.bandOf (s : State) (n : Fin 4) : Option Nat :=
  (List.range 16).find? (fun m => s.bit .CLK_PLL_BAND_VALID (bandIdx n m) &&
    bandCovers n (s.getF .CLK_PLL_BAND_FLO (bandIdx n m)) (s.getF .CLK_PLL_BAND_FHI (bandIdx n m)))

def State.pllLocked (s : State) (n : Nat) : Bool := s.bit .CLK_PLL_STAT_LOCKED n
def State.allLocked (s : State) : Bool := (List.range 4).all (fun n => s.pllLocked n)

/-! The dither of PLL3 (R453). -/

/-- One step of the generator x^16 + x^14 + x^13 + x^11 + 1: a shift to the right, the sum of the taps coming in at the top (the form is a
DESIGN CHOICE, log entry 44). -/
def ditherStep (w : BitVec 16) : BitVec 16 :=
  (w >>> 1) ||| (BitVec.ofBool (w.getLsbD 0 ^^ w.getLsbD 2 ^^ w.getLsbD 3 ^^ w.getLsbD 5)).zeroExtend 16 <<< 15

/-- `k` steps; the sequence repeats after 65,535. -/
def ditherRun (w : BitVec 16) : Nat → BitVec 16
  | 0 => w
  | k + 1 => ditherRun (ditherStep w) k

/-- The generator's word: one step in each REF cycle, of 16 FAB cycles, since the load (log entry 44). -/
def State.ditherWord (s : State) : BitVec 16 := ditherRun s.ditherSeed ((s.tick / 16 - s.ditherAt / 16) % 65535)

/-- What PLL3's modulator works on in 1/65,536: NFRAC of Table 18-2, and with DITHEN the generator's output bit. -/
def State.pllFraction (s : State) (n : Fin 4) : Nat :=
  if n = 3 then 0x8000 + (if s.bit .CLK_PLL_DITHER_DITHEN n then b2n (s.ditherWord.getLsbD 0) else 0) else 0

/-- The load at an acquisition: SEED, and 0xACE1 for a SEED of 0.  The fields of PLL0 to PLL2 have no effect. -/
def State.loadDither (s : State) (n : Fin 4) : State :=
  if n = 3 then
    let seed := s.getF .CLK_PLL_DITHER_SEED n
    { s with ditherSeed := if seed = 0 then 0xACE1#16 else BitVec.ofNat 16 seed, ditherAt := s.tick }
  else s

/-- An acquisition starts, or finds no band. -/
def State.acquire (s : State) (n : Fin 4) : State :=
  if (s.bandOf n).isSome then ({ s.loadDither n with acqAt := s.acqAt.set n s.tick }).setF .CLK_PLL_STAT_ACQ n 1
  else s.setF .CLK_PLL_STAT_NOBAND n 1

/-- The PLL's outputs are gated off.  Without PLL3 the mirror lanes have no clock, and the group is no longer UP (R451, R456; DEDUCED, log
entry 44). -/
def State.gatePll (s : State) (n : Fin 4) : State :=
  let s0 := if n = 3 ∧ s.mirUp = true then s.mirTrain else s
  let s1 := { s0 with gated := s.gated ||| BitVec.ofNat 4 (2 ^ n.val) }
  ((s1.setF .CLK_PLL_STAT_LOSS n 1).setF .CLK_PLL_STAT_LOCKED n 0).setF .CLK_PLL_STAT_ACQ n 0

/-- The quad feed is gated: the lanes fall silent, a burst breaks off, and a lane that was UP has lost its link (R455). -/
def State.gateQuads (s : State) : State :=
  let quiet := fun (l : LaneSt) => { l with burst := none, heldTb := false, heldDly := false, heldClr := false }
  forIdx (n := 96) (fun n t => if t.laneUp n then t.linkLost n else t) { s with quadFeed := false, lanes := s.lanes.map quiet }

/-- A declared clock-loss event (R456): every PWM ball off; where FAB runs, each pair sets CLKLOSS (R298). -/
def State.clockLoss (s : State) : State :=
  let s1 := (s.setF .CLK_LOSS_ACTIVE 0 1).pairsClockLoss
  if s1.fabRuns then s1.pairsClockBack else s1

/-- The quads' MUTE generators send a burst with reason CLOCK_LOSS on every lane that is UP (R197, R455). -/
def State.quadBurst (s : State) : State := forIdx (n := 96) (fun n t => if t.laneUp n then t.burst n 8 else t) s

/-- REF_LOSS (R454, R455): all four PLLs are gated, but the quad feed runs on where PLL2 was locked.  The comparators' ticks stop with REF
(R451); without VAUX no detector runs (R460). -/
def execRefLoss (s : State) : Out :=
  .next (if s.refOk then
    let s0 := { s.inputsRun with refOk := false }
    if !s.aonRuns then s0
    else
      let s1 := if s.quadFeed then s0.quadBurst else s0
      let s2 := forIdx (n := 4) (fun n t => if t.gated.getLsbD n then t.setF .CLK_PLL_STAT_ACQ n 0 else t.gatePll n) { s1 with lossAt := s.tick }
      (s2.setF .CLK_LOSS_REF 0 1).clockLoss
  else s)

/-- QUAD_FEED_GATE: 200 ns, 80 FAB cycles, after a declared reference loss, whether or not the reference has returned meanwhile. -/
def execQuadFeedGate (s : State) : Out :=
  .next (if s.gated.getLsbD 2 && s.quadFeed then (s.passTo (s.lossAt + 80)).gateQuads else s)

/-- PLL_LOCK_LOSS (R454, R455, R457). -/
def execPllLockLoss (n : Fin 4) (s : State) : Out :=
  .next (if !s.aonRuns then s
  else if s.pllLocked n then
    let s1 := ((s.gatePll n).orF .CLK_LOSS_CAUSE 0 n).clockLoss
    let s2 := if n = 2 then s1.gateQuads else s1
    if s2.bit .CLK_PLL_CTRL_AUTORELOCK n && s2.refOk then s2.acquire n else s2
  else if n = 2 && s.gated.getLsbD 2 && s.quadFeed then (s.orF .CLK_LOSS_CAUSE 0 n).gateQuads
  else s)

/-- RC16_LOSS (R454, R456). -/
def execRc16Loss (s : State) : Out :=
  .next (if s.aonRuns then (({ s with rc16Ok := false }).setF .CLK_LOSS_RC16 0 1).clockLoss else s)

/-- The event ends when REF is present and every PLL is locked (R457). -/
def State.clockCheck (s : State) : State :=
  if s.bit .CLK_LOSS_ACTIVE 0 && s.refOk && s.allLocked then s.setF .CLK_LOSS_ACTIVE 0 0 else s

/-- PLL_LOCK: after 256 REF cycles of 16 FAB cycles each (R452) the outputs are ungated.  When FAB runs again after a loss, the fabric
latches source 68 and each pair sets CLKLOSS. -/
def execPllLock (n : Fin 4) (s : State) : Out :=
  .next (if s.bit .CLK_PLL_STAT_ACQ n && s.refOk && s.aonRuns then
    let s0 := s.passTo (s.acqAt[n] + 4096)
    let s1 := (s0.setF .CLK_PLL_STAT_ACQ n 0).setF .CLK_PLL_STAT_LOCKED n 1
    let s2 := { s1 with gated := s1.gated &&& ~~~(BitVec.ofNat 4 (2 ^ n.val)), quadFeed := s1.quadFeed || n == 2 }
    let s3 := if n = 0 ∧ s2.fabRuns = true ∧ s.bit .CLK_LOSS_ACTIVE 0 = true then (s2.setLatch srcClkLoss true).pairsClockBack else s2
    s3.clockCheck
  else s)

/-- A gated PLL re-acquires where its reference is present. -/
def State.relock (s : State) (n : Fin 4) : State :=
  if s.gated.getLsbD n && s.refOk && s.aonRuns && !s.bit .CLK_PLL_STAT_ACQ n then s.acquire n else s

/-- A write of RELOCK. -/
def execPllRelock (n : Fin 4) (s : State) : Out := .next (s.relock n)

/-- With AUTORELOCK a gated PLL waits for nothing but its reference (R457). -/
def State.autoRelock (s : State) (n : Fin 4) : State := if s.bit .CLK_PLL_CTRL_AUTORELOCK n then s.relock n else s

/-- REFERENCE_RETURN: gated PLLs with AUTORELOCK re-acquire, and the comparators' ticks begin again. -/
def execReferenceReturn (s : State) : Out :=
  .next (if s.refOk then s else forIdx (n := 4) (fun n t => t.autoRelock n) { s.ticksReturn with refOk := true })

/-- A write of a band entry (R452): refused during acquisition. -/
def State.writeBand (s : State) (n : Fin 4) (m : Nat) (w : Word) : State :=
  if s.bit .CLK_PLL_STAT_ACQ n then s.setF .CLK_PLL_STAT_BTERR n 1
  else
    let k := bandIdx n m
    (((s.setBit .CLK_PLL_BAND_VALID k (w.getLsbD 31)).setF .CLK_PLL_BAND_BAND k (bitsOf w.toNat 29 24)).setF .CLK_PLL_BAND_FLO k
      (bitsOf w.toNat 23 12)).setF .CLK_PLL_BAND_FHI k (bitsOf w.toNat 11 0)

def execBandWrite (n : Fin 4) (m : Fin 16) (w : Word) (s : State) : Out := .next (if s.busRuns then s.writeBand n m w else s)

/-- The boot ROM measures every band and fills the tables with what it finds, which is free, and locks the PLLs that are not locked
(R452). -/
def State.romTables (s : State) : State :=
  let s1 := forIdx (n := 64) (fun k t =>
    let d := t.draw
    (((d.2.setF .CLK_PLL_BAND_VALID k 1).setF .CLK_PLL_BAND_BAND k (bitsOf d.1.toNat 29 24)).setF .CLK_PLL_BAND_FLO k
      (bitsOf d.1.toNat 23 12)).setF .CLK_PLL_BAND_FHI k (bitsOf d.1.toNat 11 0)) s
  forIdx (n := 4) (fun n t => t.relock n) s1

end Sys2Proof.Machine
end

