-- ==== Sys2Proof/Machine/Sec.lean ====
section
/-! DEFINITION. Key slots, signed objects, engine images, anti-rollback, the debug port and tamper events (R469 to R484). -/
namespace Sys2Proof.Machine

def State.modSec (s : State) (f : SecSt → SecSt) : State := { s with sec := f s.sec }
def State.modPmc (s : State) (f : PmcSt → PmcSt) : State := { s with pmc := f s.pmc }
def State.logEvent (s : State) (e : LogEv) : State := s.modPmc (fun p => { p with log := p.log ++ [e] })

/-! Signed objects (Table 19-1). -/

def tyStation : Nat := 1
def tySer : Nat := 2
def tyEngine : Nat := 3
def tyToken : Nat := 4
def tyRevoke : Nat := 5

def objType (o : List Byte) : Nat := leNat ((o.drop 4).take 1)
def objSlot (o : List Byte) : Nat := leNat ((o.drop 5).take 1)
def objArb (o : List Byte) : Nat := leNat ((o.drop 6).take 1)
def objVersion (o : List Byte) : Nat := leNat ((o.drop 8).take 4)
def objLen (o : List Byte) : Nat := leNat ((o.drop 12).take 4)
def objDevid (o : List Byte) : List Byte := (o.drop 16).take 16
def objPhash (o : List Byte) : List Byte := (o.drop 0x20).take 32
def objPk (o : List Byte) : List Byte := (o.drop 0x40).take 64
def objSig (o : List Byte) : List Byte := (o.drop 0x80).take 29792
def objPayload (o : List Byte) : List Byte := (o.drop 0x74E0).take (objLen o)

/-- The largest payload of a type: firmware objects fill their areas (R473), an engine image holds 24 sections (R477); a token's and a
revocation's layout is the model's (log entry 11). -/
def maxPayload (ty : Nat) : Nat :=
  match ty with
  | 1 => 0x600000 - 0x74E0 | 2 => 0x100000 - 0x74E0 | 3 => 4 + 24 * (64 + 16 + 4 + 24576) | 4 => 34 | 5 => 1 | _ => 0

/-- The challenge, LEVEL mask and S4OK of a token's payload (log entry 11). -/
def tokenLevel (o : List Byte) : Nat := leNat (((objPayload o).drop 32).take 1) % 16
def tokenS4ok (o : List Byte) : Bool := leNat (((objPayload o).drop 33).take 1) % 2 == 1
/-- The target slot of a revocation. -/
def revokeTarget (o : List Byte) : Nat := leNat ((objPayload o).take 1)

/-- A slot that OTP cannot give reads as revoked (R469). -/
def OtpSlot.dead (x : OtpSlot) : Bool := x.revoked || x.fault

def State.slotOk (s : State) (k : Nat) : Bool :=
  match s.sec.slots.toList[k]? with
  | some x => x.prog && !x.dead
  | none => false
def State.slotUse (s : State) (k : Nat) : Nat := (s.sec.slots.toList.getD k {}).use
def State.slotHash (s : State) (k : Nat) : List Byte := ((s.sec.slots.toList.getD k {}).hash).getD (Config.ksHash k)

/-- The unrevoked FW slots other than `k`. -/
def State.fwSlotsBut (s : State) (k : Nat) : List Nat := (List.range 4).filter (fun j => j != k && s.slotOk j && s.slotUse j == 1)

/-- The slot's USE permits the object, and a revocation may be applied (R470). -/
def State.useOk (s : State) (o : List Byte) : Bool :=
  let t := revokeTarget o
  let ty := objType o
  let img := s.slotUse (objSlot o) == 2
  (!img || ty == tyEngine || (ty == tyToken && (tokenLevel o) &&& 0b1010 == 0) || (ty == tyRevoke && s.slotUse t == 2)) &&
  (ty != tyRevoke || (t != objSlot o && (s.sec.slots.toList.getD t {}).prog && !(s.slotUse t == 1 && (s.fwSlotsBut t).isEmpty)))

/-- DEVID fits the device; tokens and revocations are bound to it. -/
def devOk (o : List Byte) : Bool :=
  objDevid o == devidBytes || (objDevid o == List.replicate 16 0#8 && objType o != tyToken && objType o != tyRevoke)

/-! Anti-rollback (R476). -/

/-- The floor: the larger of the fuses and their mirror. -/
def ArbCount.floor (c : ArbCount) : Nat := max c.fuses c.mirror
/-- A raise writes the mirror first; a counter of 64 fuses shows at most 63 (Table 19-4). -/
def ArbCount.raise (c : ArbCount) (a : Nat) : ArbCount := { c with mirror := max c.mirror (min 63 a) }
/-- The smaller copy comes up to the floor. -/
def ArbCount.level (c : ArbCount) : ArbCount := ⟨c.floor, c.floor⟩

/-- The fuses follow a raise, one FAB cycle after the mirror (DESIGN CHOICE, log entry 53), and what an interruption left at the next S1. -/
def SecSt.levelArb (c : SecSt) : SecSt := { c with arbFw := c.arbFw.level, arbSer := c.arbSer.level, arbEng := c.arbEng.level }

/-- The floor that governs a type. -/
def State.floorOf (s : State) (ty : Nat) : Nat :=
  match ty with
  | 1 => s.sec.arbFw.floor | 2 => s.sec.arbSer.floor | 3 => s.sec.arbEng.floor | _ => 0

/-- The current challenge. -/
def State.challenge (s : State) : List Byte := ((List.range 8).map (fun k => leBytes 4 (s.getF .DBG_CHAL_CHAL k))).flatten

/-- The context string of every signature (R471). -/
def slhContext : List Byte := asciiBytes "AG96SO"

/-- The checks of Table 19-2 on an object of one of the expected types: the code of the first that fails, 0 for none. -/
def State.secCheck (s : State) (expect : List Nat) (o : List Byte) : Nat :=
  let ty := objType o
  if leNat (o.take 4) ≠ 0x53474F41 ∨ leNat ((o.drop 7).take 1) ≠ 0 ∨ maxPayload ty < objLen o ∨ o.length < 0x74E0 + objLen o then 1
  else if !expect.contains ty then 2
  else if !s.slotOk (objSlot o) || !s.useOk o then 3
  else if Config.shake (objPk o) ≠ s.slotHash (objSlot o) then 4
  else if !devOk o || (ty == tyToken && !(s.sec.chalOk && (objPayload o).take 32 == s.challenge)) then 5
  else if objArb o < s.floorOf ty then 6
  else if Config.shake (objPayload o) ≠ objPhash o then 7
  else if !Config.slhVerify slhContext (objPk o) (o.take 0x80) (objSig o) then 8
  else 0

/-- Applies a revocation (R470). -/
def State.revoke (s : State) (k : Nat) : State :=
  s.modSec (fun c => { c with slots := c.slots.mapFinIdx (fun i x _ => if i = k then { x with revoked := true } else x) })

/-! Firmware slots (R473, R474). -/

/-- The address of firmware slot `k`. -/
def fwBase (k : Nat) : Nat := mram + 0x1000000 + k * 0x700000
def fwSize : Nat := 0x700000
/-- The object at `a`, as long as its LEN says, cut at the size of its area. -/
def State.objectAt (s : State) (a size : Nat) : List Byte :=
  s.readList a (min size (0x74E0 + (s.word (a + 12)).toNat))

def State.stationObj (s : State) (k : Nat) : List Byte := s.objectAt (fwBase k) 0x600000
def State.serObj (s : State) (k : Nat) : List Byte := s.objectAt (fwBase k + 0x600000) 0x100000
/-- The station firmware of slot `k` passes. -/
def State.stationOk (s : State) (k : Nat) : Bool := s.secCheck [tyStation] (s.stationObj k) == 0
def State.serOk (s : State) (k : Nat) : Bool := s.secCheck [tySer] (s.serObj k) == 0

/-! Engine images (R477). -/

/-- One section: its engine, entry table, unit list and code. -/
structure Section where
  eng : Nat
  entries : List Byte
  units : List Nat
  code : List Byte

/-- The sections of a payload, for the engines listed. -/
def sectionsOf : List Nat → List Byte → Option (List Section)
  | [], [] => some []
  | [], _ :: _ => none
  | n :: t, b =>
    let len := leNat ((b.drop 80).take 4)
    if b.length < 84 + len ∨ 24576 < len then none
    else
      (sectionsOf t (b.drop (84 + len))).map (fun l =>
        ⟨n, b.take 64, (List.range 4).map (fun m => leNat ((b.drop (64 + 4 * m)).take 4)), (b.drop 84).take len⟩ :: l)

def imageMask (p : List Byte) : Nat := leNat (p.take 4)
def imageEngines (p : List Byte) : List Nat := (List.range 24).filter (fun n => (imageMask p).testBit n)
def imageSections (p : List Byte) : Option (List Section) := sectionsOf (imageEngines p) (p.drop 4)

/-- Writes bytes into the staging bank by words. -/
def State.stageBytes (s : State) (n : Fin 24) (off : Nat) : List Byte → State
  | [] => s
  | b :: t => (s.writeBank n off b.toNat 1).stageBytes n (off + 1) t

/-- Firmware copies the sections into the staging banks (step 2). -/
def State.stageSections (s : State) (l : List Section) : State :=
  l.foldl (fun t x =>
    if h : x.eng < 24 then
      if t.engOk x.eng then
        let base := 0x10000 * t.stgBank x.eng
        (t.stageBytes ⟨x.eng, h⟩ base x.code).stageBytes ⟨x.eng, h⟩ (base + 0x6000) x.entries
      else t
    else t) s

/-- The staging banks read back in payload order (step 3). -/
def State.readBack (s : State) (p : List Byte) (l : List Section) : List Byte :=
  p.take 4 ++ (l.map (fun x =>
    let a := ceBank x.eng (s.stgBank x.eng)
    s.readList (a + 0x6000) 64 ++ (x.units.map (leBytes 4)).flatten ++ leBytes 4 x.code.length ++ s.readList a x.code.length)).flatten

/-- STGOK and STGREQ on every engine of the image together (step 4). -/
def State.stagePass (s : State) (arb : Nat) (hash : List Byte) (l : List Section) : State :=
  l.foldl (fun t x =>
    if h : x.eng < 24 then
      let n : Fin 24 := ⟨x.eng, h⟩
      let t1 := forIdx (n := 4) (fun m u => u.setF .CE_STGREQ_REQ (n * 4 + m) (x.units.getD m 0)) t
      (t1.setF .CE_STAT_STGOK n 1).modCe n (fun e => { e with stgArb := arb, stgHash := hash })
    else t) s

/-- The SEC unit's verification of a staged image: the result code, and the state with STGOK set where it is OK. -/
def State.verifyImage (s : State) (o : List Byte) : Nat × State :=
  let c := s.secCheck [tyEngine] o
  if c ≠ 0 then (c, s)
  else match imageSections (objPayload o) with
    | none => (1, s)
    | some l =>
      if l.all (fun x => s.engOk x.eng) && Config.shake (s.readBack (objPayload o) l) == objPhash o then (0, s.stagePass (objArb o) (objPhash o) l)
      else (7, s)

/-- PMC_START.STARTOK in FAB cycles; 0 seconds act as 1 (Table 17-14). -/
def State.startOk (s : State) : Nat := max 1 (s.getF .PMC_START_STARTOK 0) * second

/-- ENG_FLOOR_RAISE: STARTOK seconds after an activation (R476). -/
def execEngFloorRaise (s : State) : Out :=
  .next (match s.sec.engPend with
    | none => s
    | some a =>
      let up := s.sec.arbEng.raise a
      let s1 := (s.passTo (s.sec.engAt + s.startOk)).modSec (fun c => { c with arbEng := up, engPend := none })
      if s.sec.arbEng.floor < up.floor then
        forIdx (n := 24) (fun n t => if (t.ce[n]).stgArb < up.floor then t.setF .CE_STAT_STGOK n 0 else t) s1
      else s1)

/-- IDENTITY_KEY_READY: the derivation completes, in S2 or above (R478). -/
def execIdentityKeyReady (s : State) : Out :=
  .next (if 2 ≤ s.getF .PMC_STAGE_STAGE 0 ∧ s.coresRun = true then s.modSec (fun c => { c with idReady := true }) else s)

/-! The debug port (R481). -/

/-- A presented token is verified and, where it passes, grants its LEVEL. -/
def State.judgeToken (s : State) (obj : List Byte) : State :=
  let c := s.secCheck [tyToken] obj
  let s1 := s.setF .SEC_STAT_LASTRES 0 c
  if c ≠ 0 then s1
  else ((((s1.setF .DBG_STAT_LEVEL 0 (tokenLevel obj)).setBit .DBG_STAT_S4OK 0 (tokenS4ok obj)).setF .DBG_STAT_UNLOCKED 0 1).countF
    .DBG_STAT_UNLOCKS 0 1).logEvent .debugUnlock

/-- The tokens that waited for the SEC unit, in the order presented (R472). -/
def State.judgeTokens (s : State) : State :=
  s.sec.tokens.foldl State.judgeToken (s.modSec (fun c => { c with tokens := [] }))

/-- DEBUG_TOKEN: the SEC unit verifies one object at a time, and a token presented while it is busy waits (R472). -/
def execDebugToken (obj : List Byte) (s : State) : Out :=
  .next (if !s.coresRun then s
  else if s.sec.job.isSome then s.modSec (fun c => { c with tokens := c.tokens ++ [obj] })
  else s.judgeToken obj)

/-- The boundary-scan instructions that the port serves: IDCODE and BYPASS even when locked, the others under SCAN, and none that drives balls
in S4 (R481).  No command of the table shifts one in. -/
def State.scanServes (s : State) : ScanOp → Bool
  | .idcode | .bypass => s.aonRuns
  | .other drives => s.aonRuns && s.debugLevel.testBit 3 && !(drives && s.inS4)

/-- The grant ends (R481, R482). -/
def State.endGrant (s : State) : State := ((s.setF .DBG_STAT_LEVEL 0 0).setF .DBG_STAT_S4OK 0 0).setF .DBG_STAT_UNLOCKED 0 0

/-- A read of DBG_CHAL0 draws a new challenge. -/
def State.drawChallenge (s : State) : State :=
  let s1 := forIdx (n := 8) (fun k t =>
    let d := t.draw
    d.2.setF .DBG_CHAL_CHAL k d.1.toNat) s
  s1.modSec (fun c => { c with chalOk := true })

/-- The agent reaches DBG_CHAL0: a supervisory core, or the debug port, even when locked; any other access errs (R486). -/
def chalReader : Agent → Bool
  | .sup _ => true | .debug => true | _ => false

def execDbgChalRead (ag : Agent) (s : State) : Out :=
  .next (if !s.canAccess ag 0x40160020 then s
    else if chalReader ag then (s.drawChallenge).answer (BitVec.ofNat 32 (s.drawChallenge.getF .DBG_CHAL_CHAL 0))
    else s.busError (if ag = .saf then causeUnmapped else causeDmareg) ag 0x40160020 false)

/-! Tamper (R482). -/

/-- SUP0–SUP3 erase every session key. -/
def State.eraseKeys (s : State) : State :=
  { s with jnl := { s.jnl with sessions := s.jnl.sessions.map (fun x => { x with key := none, newKey := none }) } }

/-- A tamper event: its count, the grant and the session keys, and the block that station firmware requests. -/
def State.tamper (s : State) : State :=
  let s1 := (s.countF .SEC_TAMP_COUNT 0 1).endGrant.eraseKeys
  if s.bit .SEC_TAMPCFG_BLOCK 0 && decide (2 ≤ s.getF .PMC_STAGE_STAGE 0) && s.coresRun && s.fabBus then s1.supTrip else s1

/-- TAMPER_PIN: TAMPER_N has held a new level for 1 ms, the other than the debounced one (PINLVL, which is live).  Low is a tamper event; the
table has no row of its own for the release (DESIGN CHOICE, log entry 53). -/
def execTamperPin (s : State) : Out :=
  .next (if s.bit .SEC_TAMP_PINLVL 0 then s.setF .SEC_TAMP_PINLVL 0 0
  else
    let s1 := s.setF .SEC_TAMP_PINLVL 0 1
    if s.aonRuns then (s1.setF .SEC_TAMP_PIN 0 1).tamper else s1)

/-- SUPPLY_GLITCH. -/
def execSupplyGlitch (s : State) : Out := .next (if s.aonRuns then (s.setF .SEC_TAMP_GLITCH 0 1).tamper else s)

end Sys2Proof.Machine
end

