-- ==== Sys2Proof/Machine/Twin.lean ====
section
/-! DEFINITION. Twin redundancy: roles, the mirror link's frames, takeover, yield, handover and claim (R411 to R434). -/
namespace Sys2Proof.Machine

/-! Roles (Table 16-1). -/

def roleSingle : Nat := 0
def roleJoining : Nat := 1
def roleStandby : Nat := 2
def roleActive : Nat := 3
def roleYielded : Nat := 4

def State.role (s : State) : Nat := s.getF .MIR_STAT_ROLE 0
def State.modTwin (s : State) (f : TwinSt → TwinSt) : State := { s with twin := f s.twin }

/-- A role change, with OWNER_OUT (R428); SYNCED belongs to JOINING and STANDBY (R420). -/
def State.setRole (s : State) (r : Nat) : State :=
  ((s.setF .MIR_STAT_ROLE 0 r).setBit .PWM_STAT_OWNER 0 (r == roleSingle || r == roleActive)).setWhen
    (r != roleJoining && r != roleStandby) .MIR_STAT_SYNCED 0 0

/-- The device is paired and its mirror works. -/
def State.paired (s : State) : Bool := s.variant.full && s.role != roleSingle
def State.mirOn (s : State) : Bool := s.getF .MIR_STAT_ENST 0 != enstOff
/-- The FAB cycle is that of the last boundary. -/
def State.atBoundary (s : State) : Bool := decide ((s.atu.bTime + 39) / 40 = (s.tick : Int))

/-- The journal's replay of R403 is due. -/
def State.startReplay (s : State) : State := ({ s with jnl := { s.jnl with scanned := false } } : State).setF .JNL_STAT_REPLAYING 0 1

/-- The role becomes JOINING; an ATU that is ON is never aligned (R418). -/
def State.enterJoining (s : State) : State :=
  (s.setRole roleJoining).modTwin (fun t =>
    { t with follow := false, joinAt := none, hb := [], syncRun := 0, copyDone := false, syncedThen := false })

/-- The role becomes SINGLE: nothing of the pair goes on, and the ATU continues on its own source.  A device that did not command replays its
journal before it delivers from it (R411, R412; DEDUCED, log entry 51). -/
def State.becomeSingle (s : State) : State :=
  let s1 := ((s.leaveFollow.setRole roleSingle).setF .MIR_CTRL_HANDOVER 0 0).modTwin (fun t =>
    { t with joinAt := none, hb := [], hoFret := none, soloDue := false, yieldDue := false, syncRun := 0, syncedThen := false, pwLoad := none,
             copyDone := false })
  if !s.commanding && decide (2 ≤ s.getF .PMC_STAGE_STAGE 0) then s1.startReplay else s1

/-- A write of MIR_CFG.PAIR: set outside S4, a SINGLE device joins; a device without PAIR is SINGLE (R411).  Set in S4 it changes no role
until it is written again outside S4 (DESIGN CHOICE, log entry 51). -/
def State.pairChanged (s : State) : State :=
  if !s.bit .MIR_CFG_PAIR 0 then (if s.role = roleSingle then s else s.becomeSingle)
  else if s.role = roleSingle ∧ s.inS4 = false then s.enterJoining
  else s

/-! Epochs (R423). -/

/-- The higher of two epochs under R252. -/
def epochMax (a b : Nat) : Nat := if epochHigher b a then b else a

/-- The smallest epoch of the device's parity above every epoch it has seen: CLG_EPOCH, and those of heartbeats and cell frames. -/
def State.nextEpoch (s : State) : Nat :=
  let own := s.getF .CLG_EPOCH_EPOCH 0
  let m := match s.twin.maxEpoch with | some e => epochMax own e | none => own
  let n := (m + 1) % 65536
  if n % 2 = s.getF .MIR_CFG_SIDE 0 then n else (n + 1) % 65536

/-- SOLO begins; it ends only after a new copy of the journal (R399, R431). -/
def State.enterSolo (s : State) : State :=
  ((s.modTwin (fun t => { t with soloDue := false, copyDone := false })).setF .JNL_STAT_SOLO 0 1).setF .JNL_STAT_MIRFAIL 0 1

/-- The device becomes ACTIVE with a new epoch (steps 1 to 3 and 5 of R422); the journal is replayed and SOLO begins. -/
def State.becomeActive (s : State) : State :=
  let e := s.nextEpoch
  let s1 := (s.leaveFollow.setRole roleActive).setF .CLG_EPOCH_EPOCH 0 e
  (s1.modTwin (fun t => { t with yieldDue := false, quiet := 0, maxEpoch := some e, hoFret := none })).startReplay.enterSolo

/-- A takeover (R422), with its step 4. -/
def State.takeOver (s : State) : State :=
  ((s.becomeActive.setF .ATU_TWIN_TK_TK 0 s.fretnum).setF .MIR_STAT_TKDONE 0 1).setF .MIR_STAT_TKBLK 0 0

/-- The first condition of R421 that fails: 0 for none. -/
def State.tkBlock (s : State) : Nat :=
  if !s.twin.syncedThen then 1 else if !s.inS4 then 2 else if !s.bit .MIR_CFG_AUTOTK 0 then 3 else 0

/-- The takeover check at the boundary at which HBMISS reaches 2 (R421). -/
def State.takeoverCheck (s : State) : State :=
  if s.role = roleStandby ∧ s.getF .MIR_STAT_HBMISS 0 = 2 then
    if s.tkBlock = 0 then s.takeOver else s.setF .MIR_STAT_TKBLK 0 s.tkBlock
  else s

/-- TAKEOVER: at the boundary at which HBMISS has reached 2. -/
def execTakeover (s : State) : Out := .next (if s.atBoundary then s.takeoverCheck else s)

/-- An ACTIVE device yields (R424); an entry that waits for its commit is never accepted, and requests no longer wait. -/
def State.yieldCheck (s : State) : State :=
  if s.role = roleActive ∧ (s.twin.yieldDue = true ∨ (s.mirUp = false ∧ 2 ≤ s.twin.quiet)) then
    let s1 := ((s.setRole roleYielded).setF .MIR_STAT_YIELD 0 1).modTwin (fun t => { t with yieldDue := false, quiet := 0, soloDue := false })
    { s1 with jnl := { s1.jnl with waiting := [], queue := [] } }
  else s

/-- YIELD: at the first boundary after the event. -/
def execYieldRole (s : State) : Out := .next (if s.atBoundary then s.yieldCheck else s)

/-- A planned handover takes effect at the boundary of the fret it names (R429).  The device that was ACTIVE follows the twin from then on
(R418; DEDUCED, log entry 51). -/
def State.handoverStep (s : State) : State :=
  if s.role = roleActive ∧ s.bit .MIR_CTRL_HANDOVER 0 = true ∧ s.getF .MIR_HOAT_AT 0 = s.fretnum then
    (s.setRole roleStandby).followTwin.setF .MIR_CTRL_HANDOVER 0 0
  else if s.role = roleStandby ∧ s.twin.hoFret = some s.fretnum then s.takeOver
  else s

/-- PLANNED_HANDOVER: the named boundary. -/
def execPlannedHandover (s : State) : Out := .next (if s.atBoundary then s.handoverStep else s)

/-- A write reaches the mirror logic. -/
def State.mirBus (s : State) : Bool := s.variant.full && s.busRuns && s.powered domMir

/-- HANDOVER = 1 written (R429); the twin is STANDBY and SYNCED as its last heartbeat showed it. -/
def State.requestHandover (s : State) : State :=
  let ahead := (s.getF .MIR_HOAT_AT 0 + 2 ^ 32 - s.fretnum) % 2 ^ 32
  if s.role ≠ roleActive then s
  else if s.getF .MIR_PEER0_ROLE 0 ≠ roleStandby ∨ s.twin.peerSynced = false ∨ s.mirUp = false ∨ s.inS4 = false ∨ s.getF .MIR_PEER0_STAGE 0 ≠ 4 ∨ ahead < 4 ∨ 2 ^ 31 ≤ ahead then
    (s.setF .MIR_STAT_HOERR 0 1).setF .MIR_CTRL_HANDOVER 0 0
  else s.setF .MIR_CTRL_HANDOVER 0 1

def execHandoverRequest (s : State) : Out := .next (if s.mirBus then s.requestHandover else s)

/-- CLAIM = 1 written (R430): refused, also while both twins have one SIDE (R413), or ACTIVE with a new epoch. -/
def State.claimRole (s : State) : State :=
  let ok := s.role == roleJoining && !(s.mirUp && s.twin.sideEqual) &&
    ((s.mirUp && s.twin.heard && s.getF .MIR_PEER0_ROLE 0 != roleActive) || (!s.mirUp && decide (s.twin.lastUp + second ≤ s.tick)))
  if ok then s.becomeActive.modTwin (fun t => { t with tk := some s.fretnum }) else s.setF .MIR_STAT_CLAIMERR 0 1

def execClaim (s : State) : Out := .next (if s.mirBus then s.claimRole else s)

/-! The heartbeat (R415 to R417). -/

/-- The level of Table 6-2 as two bits. -/
def levelBits (v : Int) : Nat := if v = 1 then 1 else if v = -1 then 3 else 0
def bitsLevel (b : Nat) : Int := if b = 1 then 1 else if b = 3 then -1 else 0

/-- A cell record as the heartbeat carries it: the last edge is relative to the start of the planned fret; one that its 30 bits do not reach
is sent as none (DEDUCED, log entry 51). -/
def LaneSt.levelWord (l : LaneSt) (start : Int) : Word :=
  let off : Nat := match l.lastEdge with
    | none => 0x20000000
    | some e => if (e - start).natAbs < 2 ^ 29 then (BitVec.ofInt 30 (e - start)).toNat else 0x20000000
  BitVec.ofNat 32 (levelBits l.level * 2 ^ 30 + off)

/-- The record of a heartbeat's word. -/
def LaneSt.loadLevel (l : LaneSt) (w : Word) (phil : BitVec 16) (start : Int) : LaneSt :=
  { l with level := bitsLevel (w.toNat / 2 ^ 30), phil := phil.toInt,
           lastEdge := if w.extractLsb' 0 30 = 0x20000000#30 then none else some (start + (w.extractLsb' 0 30).toInt) }

/-- The count of the master pair. -/
def State.master (s : State) : Fin 24 := ⟨s.getF .MIR_CFG_PWMASTER 0 % 24, by omega⟩
def State.masterPos (s : State) : Nat := (s.pairs[s.master]).pos / 64
def State.pwcntWord (s : State) : Word :=
  BitVec.ofNat 32 ((s.pairs[s.master]).cnt + 65536 * b2n (s.pairs[s.master]).down)

/-- The windows as 256-byte blocks, windows 0 to 3 in order, at most 16 KiB in all (R417). -/
def State.winBlocks (s : State) : List Nat :=
  (((List.range 4).map (fun w => (List.range (s.getF .MIR_WINLEN_LEN w)).map (fun i => s.getF .MIR_WINBASE_ADDR w * 256 + i * 256))).flatten).take 64

/-- The heartbeat of the fret in progress; the SOF leaves within 100 ns of the threshold of MOFF, which is free. -/
def State.heartbeat (s : State) (free : Nat) : Heartbeat :=
  let active := s.role == roleActive
  let start : Int := s.atu.absStart + s.fretAu
  { fret := BitVec.ofNat 32 s.fretnum, epoch := BitVec.ofNat 16 (s.getF .CLG_EPOCH_EPOCH 0), role := BitVec.ofNat 3 s.role,
    stage := BitVec.ofNat 3 (s.getF .PMC_STAGE_STAGE 0), freq := BitVec.ofNat 32 s.atu.tb.freq,
    txoff := BitVec.ofNat 32 (s.getF .MIR_CFG_MOFF 0 * s.unitAu * 65536 * 40 / max 1 (s.getF .ATU_FREQ_FREQ 0) + free % 1601),
    armtok := BitVec.ofNat 16 (s.getF .CLG_ARMTOK_TOK 0),
    mute := BitVec.ofNat 7 (b2n s.mstate + 2 * s.getF .TRIP_RMASK_RMASK 0),
    hofret := if s.bit .MIR_CTRL_HANDOVER 0 then some (BitVec.ofNat 32 (s.getF .MIR_HOAT_AT 0)) else none,
    jhead := BitVec.ofNat 64 s.jnl.head, jdone := BitVec.ofNat 64 s.jnl.done, pwcnt := s.twin.pwCnt,
    winlen := if active then BitVec.ofNat 16 (256 * s.winBlocks.length) else 0#16, synced := s.bit .MIR_STAT_SYNCED 0,
    levels := if active then s.lanes.toList.map (fun l => l.levelWord start) else [],
    defs := if active then (List.range 6).map (fun a => BitVec.ofNat 32 (s.getF .ARM_DEF_DEF a)) else [],
    phil := if active then s.lanes.toList.map (fun l => BitVec.ofInt 16 l.phil) else [] }

/-- The WIN frames (R417). -/
def State.winFrames (s : State) : List (Nat × List Byte) := s.winBlocks.map (fun a => (a, s.ssmBytes a 256))

/-- The counts of the reads behind the WIN frames (R155). -/
def State.winCount (s : State) : State := s.winFrames.foldl (fun t x => t.ssmCount none x.1 256) s

/-! The frames of the link (R414, Table 16-2).  The spec gives no widths of TYPE, FRET and LEN and no layout of most payloads: those here are the
model's (DESIGN CHOICE, log entry 51). -/

/-- A frame on the wire: TYPE, FRET and LEN, the payload, and the CRC-32C over these. -/
def mirWire (ty fret : Nat) (payload : List Byte) : List Byte :=
  let d := leBytes 1 ty ++ leBytes 4 fret ++ leBytes 2 payload.length ++ payload
  d ++ leBytes 4 (crc32c d)

/-- TYPE and payload of a waiting frame. -/
def MirFrame.parts : MirFrame → Nat × List Byte
  | .jnl e => (4, e)
  | .jack j => (5, leBytes 8 j)
  | .mark m d => (6, leBytes 8 m ++ leBytes 8 d)
  | .side b => (7, leBytes 1 0 ++ leBytes 1 (b2n b))
  | .delay => (7, leBytes 1 1)
  | .delayResp => (7, leBytes 1 2)
  | .copyDone => (7, leBytes 1 3)

def MirFrame.ctl (f : MirFrame) : Bool := f.parts.1 == 7

/-- Its time on the link in FAB cycles: 56 ns for an entry, 10 ns for the others. -/
def MirFrame.cycles (f : MirFrame) : Nat := if f.parts.1 = 4 then 23 else 4

/-- A heartbeat's payload, in the order and the sizes of Table 16-3; the sender's SYNCED stands in bit 7 of ROLE's byte (log entry 51). -/
def hbBytes (h : Heartbeat) : List Byte :=
  leBytes 4 h.fret.toNat ++ leBytes 2 h.epoch.toNat ++ leBytes 1 (h.role.toNat + 128 * b2n h.synced) ++ leBytes 1 h.stage.toNat ++
  leBytes 4 h.freq.toNat ++ leBytes 4 h.txoff.toNat ++ leBytes 2 h.armtok.toNat ++ leBytes 1 h.mute.toNat ++
  leBytes 1 (b2n h.hofret.isSome) ++ leBytes 4 (h.hofret.getD 0#32).toNat ++ leBytes 8 h.jhead.toNat ++ leBytes 8 h.jdone.toNat ++
  leBytes 4 h.pwcnt.toNat ++ leBytes 2 h.winlen.toNat ++ (h.levels.map (fun w => leBytes 4 w.toNat)).flatten ++
  (h.defs.map (fun w => leBytes 4 w.toNat)).flatten ++ (h.phil.map (fun w => leBytes 2 w.toNat)).flatten

/-- The heartbeat stream: HB, the WIN frames with their addresses, END (R416). -/
def streamWire (h : Heartbeat) (win : List (Nat × List Byte)) : List (List Byte) :=
  mirWire 1 h.fret.toNat (hbBytes h) :: win.map (fun x => mirWire 2 h.fret.toNat (leBytes 4 x.1 ++ x.2)) ++ [mirWire 3 h.fret.toNat (leBytes 4 h.fret.toNat)]

/-- The frames that wait, in the order in which the transmitter serves them: CTL first (R414). -/
def JnlSt.mirOrder (j : JnlSt) : List MirFrame := j.mirror.filter MirFrame.ctl ++ j.mirror.filter (fun f => !f.ctl)

/-- The transmitter of the mirror link runs. -/
def State.mirSending (s : State) : Bool := s.paired && s.mirUp && s.mirRuns && s.getF .MIR_STAT_ENST 0 == enstOn

/-- The next waiting frame leaves once the link is free. -/
def State.mirCycle (s : State) : State :=
  match s.jnl.mirOrder with
  | [] => s
  | f :: _ =>
    if s.mirSending && decide (s.twin.linkFree ≤ s.tick) then
      { s with jnl := { s.jnl with mirror := s.jnl.mirror.erase f, mirrorSent := [mirWire f.parts.1 s.fretnum f.parts.2] },
               twin := { s.twin with linkFree := s.tick + f.cycles } }
    else s

/-- Every waiting frame has left, ahead of a heartbeat stream. -/
def State.serveMir (s : State) : State :=
  { s with jnl := { s.jnl with mirror := [], mirrorSent := s.jnl.mirOrder.map (fun f => mirWire f.parts.1 s.fretnum f.parts.2) },
           twin := { s.twin with linkFree := max s.twin.linkFree s.tick + (s.jnl.mirror.map MirFrame.cycles).sum } }

/-- HEARTBEAT_SEND: the threshold of MOFF, once in a fret (R416).  The frames that wait leave ahead of the stream (R414). -/
def execHeartbeatSend (s : State) : Out :=
  .next (if s.mirSending && s.atuRuns && !s.twin.hbSent then
    let s1 := s.raiseAngle (s.getF .MIR_CFG_MOFF 0)
    let d := s1.draw
    let win := if s.role = roleActive then s1.winFrames else []
    let s2 := if s.role = roleActive then d.2.winCount else d.2
    let h := s1.heartbeat d.1.toNat
    let s3 := s2.serveMir.modTwin (fun t =>
      { t with hbSent := true, sent := some h, sentWin := win, linkFree := t.linkFree + 88 + 23 * win.length })
    { s3 with jnl := { s3.jnl with mirrorSent := s3.jnl.mirrorSent ++ streamWire h win } }
  else s)

/-- A valid mirror frame has arrived. -/
def State.mirFrame (s : State) : State := s.modTwin (fun t => { t with silent := 0 })
/-- The device is paired and its mirror receives. -/
def State.hears (s : State) : Bool := s.paired && s.mirUp && s.mirOn && s.mirRuns

/-- What every valid heartbeat shows, a late one too: an epoch seen, and one above the device's own (R423, R424). -/
def State.noteHbEpoch (s : State) (h : Heartbeat) : State :=
  let hi := epochHigher h.epoch.toNat (s.getF .CLG_EPOCH_EPOCH 0)
  s.modTwin (fun t => { t with maxEpoch := t.seeEpoch h.epoch.toNat, yieldDue := t.yieldDue || (hi && s.role == roleActive) })

/-- What a received heartbeat sets: the twin's registers, the epoch and token of a device that is not ACTIVE, and the twin's planned handover
(R423, R429). -/
def State.noteHeartbeat (s : State) (h : Heartbeat) : State :=
  let s1 := ((((s.noteHbEpoch h).setF .MIR_PEER0_EPOCH 0 h.epoch.toNat).setF .MIR_PEER0_ROLE 0 h.role.toNat).setF .MIR_PEER0_STAGE 0 h.stage.toNat).setF
    .MIR_PEER1_FRET 0 h.fret.toNat
  let s2 := s1.modTwin (fun t => { t with hoFret := h.hofret.map BitVec.toNat, known := true, heard := true, peerSynced := h.synced })
  if s.role = roleActive then s2
  else (s2.setF .CLG_EPOCH_EPOCH 0 h.epoch.toNat).setF .CLG_ARMTOK_TOK 0 h.armtok.toNat

/-- The first heartbeat in JOINING outside S4, with the ATU OFF, predicts the boundary to join at (R418): from the ideal instant of boundary
k, which lies MIR_DELAY and TXOFF before the arrival of the SOF, two frets of FREQ. -/
def State.joinPredict (s : State) (h : Heartbeat) (arr : Nat) : State :=
  let frets := 2 * s.fretAu * 65536 * 40 / max 1 h.freq.toNat
  if s.role = roleJoining ∧ s.inS4 = false ∧ s.getF .ATU_STAT_ENST 0 = enstOff ∧ s.twin.joinAt = none then
    s.modTwin (fun t => { t with 
      joinAt := some ((h.fret.toNat + 2) % 2 ^ 32, h.freq.toNat, (arr + frets - s.getF .MIR_DELAY_DLY 0 - h.txoff.toNat + 39) / 40) })
  else s

/-- A heartbeat joins those that wait for their boundary: the two newest, one of each fret. -/
def TwinSt.keepHb (t : TwinSt) (h : Heartbeat) (arr : Nat) : TwinSt :=
  let l := t.hb.filter (fun x => x.1.fret != h.fret) ++ [(h, arr)]
  { t with hb := l.drop (l.length - 2) }

/-- A heartbeat is received.  A YIELDED device whose twin is ACTIVE joins, unless the twin has its SIDE (R413, R431); SOLO ends once the copy is
complete and the twin is STANDBY. -/
def State.takeHeartbeat (s : State) (h : Heartbeat) (arr : Nat) : State :=
  let s1 := ((s.noteHeartbeat h).joinPredict h arr).modTwin (fun t => t.keepHb h arr)
  if s.role = roleYielded ∧ h.role.toNat = roleActive ∧ s.twin.sideEqual = false then s1.enterJoining
  else if s.role = roleActive ∧ h.role.toNat = roleStandby ∧ s.twin.copyDone = true then s1.setF .JNL_STAT_SOLO 0 0
  else s1

/-- HEARTBEAT_RECEIVED: HB and END have arrived, the SOF of HB `ago` × 2^-4 ns before.  After the boundary it is late and not received (R416). -/
def execHeartbeatReceived (h : Heartbeat) (ago : Nat) (s : State) : Out :=
  .next (if !s.hears then s
  else if s.atuOn && serialLater s.fretnum h.fret.toNat then (s.mirFrame.noteHbEpoch h).countF .MIR_CNT_HBLATE 0 1
  else s.mirFrame.takeHeartbeat h (s.tick * 40 - ago))

/-- WIN_FRAME_RECEIVED: in a STANDBY or JOINING device the bytes are written to their SSM address. -/
def execWinFrameReceived (addr : Word) (data : List Byte) (s : State) : Out :=
  .next (if s.hears && (s.role == roleStandby || s.role == roleJoining) && data.length == 256 && inSsm addr.toNat 256 then
    s.mirFrame.putList addr.toNat data
  else s)

/-- The planner state of a heartbeat is loaded at the boundary after it (R417): `start` is the absolute start of the new fret. -/
def State.loadPlanner (s : State) (h : Heartbeat) (start : Int) : State :=
  let s1 := { s with lanes := s.lanes.mapFinIdx (fun i l _ => l.loadLevel (h.levels.getD i 0x20000000#32) (h.phil.getD i 0#16) start) }
  forIdx (n := 6) (fun a t => t.setF .ARM_DEF_DEF a (h.defs.getD a 0#32).toNat) s1

/-- The difference of PWCNT to the own position, in counts, the shorter way round; `len` is the period. -/
def pwDiff (twin : Word) (own len : Nat) : Int :=
  let p := if twin.getLsbD 16 then len - (twin.extractLsb' 0 16).toNat else (twin.extractLsb' 0 16).toNat
  let d := (p + len - own % len) % len
  if 2 * d ≤ len then d else (d : Int) - len

/-- A missed heartbeat (R416). -/
def State.heartbeatMissed (s : State) : State :=
  (((s.setF .MIR_STAT_HBMISS 0 (min 15 (s.getF .MIR_STAT_HBMISS 0 + 1))).countF .MIR_CNT_HBMISSED 0 1).setF .MIR_STAT_SYNCED 0 0).modTwin
    (fun t => { t with syncRun := 0 })

/-- The heartbeat of fret `k`, where it was received. -/
def State.heartbeatOf (s : State) (k : Nat) : Option (Heartbeat × Nat) := s.twin.hb.find? (fun x => x.1.fret.toNat == k)

/-- The boundary error: the twin's boundary `k`, which its heartbeat tells, against the device's own boundary `k`, the one before the last (R418,
R420). -/
def State.boundaryErr (s : State) (h : Heartbeat) (arr : Nat) : Int := (arr : Int) - s.getF .MIR_DELAY_DLY 0 - h.txoff.toNat - s.atu.bPrev

/-- The heartbeat's part of a boundary; `k` is the fret that has just ended (R416, R417, R419 to R421). -/
def State.heartbeatStep (s : State) (k : Nat) : State :=
  let later := s.twin.hb.filter (fun x => serialLater x.1.fret.toNat k)
  match s.heartbeatOf k with
  | some (h, arr) =>
      let passive := s.role != roleActive
      let err := s.boundaryErr h arr
      let len := max 1 (s.pairs[s.master]).act.len
      let d := pwDiff h.pwcnt s.twin.pwOwn len
      let need := passive && s.bit .MIR_CFG_PWALIGN 0 && decide (4 < d.natAbs)
      let run := if err.natAbs ≤ 160 then s.twin.syncRun + 1 else 0
      let sync := decide (16 ≤ run) && !need && s.twin.follow && (s.role == roleJoining || s.role == roleStandby)
      let s1 := (s.setF .MIR_STAT_HBMISS 0 0).setF .MIR_STAT_TKBLK 0 0
      let s2 := (s1.setBit .MIR_STAT_SYNCED 0 sync).modTwin (fun t => { t with
        hb := later, bErr := err, syncRun := run, syncedThen := sync, pwNeeded := need, pwLoad := if need then some d else t.pwLoad })
      let s3 := if passive && h.role.toNat == roleActive then
          (s2.loadPlanner h s.atu.absStart).setF .ATU_TWIN_LAST_LAST 0 k
        else s2
      if sync && s.role == roleJoining && h.role.toNat == roleActive && s.twin.copyDone && !s.twin.sideEqual then s3.setRole roleStandby
      else s3
  | none => s.heartbeatMissed.modTwin (fun t => { t with hb := later })

/-- The sample of the master pair, and the stream of the new fret still to send (R416, R419, Table 16-3). -/
def State.samplePwm (s : State) : State := s.modTwin (fun t => { t with pwOwn := s.masterPos, pwCnt := s.pwcntWord, hbSent := false })

/-- The frets without frames, and the foreign source (R424, R425). -/
def State.quietStep (s : State) : State :=
  (s.modTwin (fun t => { t with
    quiet := if t.cellFrame then 0 else t.quiet + 1, cellFrame := false, foreign := t.foreignNow, foreignNow := false, silent := t.silent + 1
    })).samplePwm

/-- SOLO at the later of R399's 100 µs and the fence, the boundary at which 4 whole frets have passed since the last valid mirror frame, where
the device has not yielded (R399, R426). -/
def State.soloStep (s : State) : State :=
  if s.twin.soloDue && decide (5 ≤ s.twin.silent) && s.role == roleActive then s.enterSolo else s

/-- The delay measurement of every 256th fret (R417). -/
def State.delayStep (s : State) : State := if s.mirUp && s.fretnum % 256 == 0 then s.queueMir .delay else s

/-- ATU_TWIN, and ATU_TWIN_TK after a CLAIM, as the boundary shows them (R434). -/
def State.latchTwin (s : State) : State :=
  let s0 := match s.twin.tk with
    | some f => (s.setF .ATU_TWIN_TK_TK 0 f).modTwin (fun t => { t with tk := none })
    | none => s
  (((s0.setF .ATU_TWIN_EPOCH 0 (s.getF .CLG_EPOCH_EPOCH 0)).setF .ATU_TWIN_SYNCED 0 (s.getF .MIR_STAT_SYNCED 0)).setF .ATU_TWIN_ROLE 0
    s.role).setF .ATU_TWIN_HBMISS 0 (s.getF .MIR_STAT_HBMISS 0)

/-- The mirror logic at a boundary, before step 4 of R31; `k` is the fret that has ended. -/
def State.twinBoundary (s : State) (k : Nat) : State :=
  if !s.paired then s.quietStep.latchTwin
  else (((((((s.heartbeatStep k).takeoverCheck).handoverStep).quietStep).yieldCheck).soloStep).delayStep).latchTwin

/-- The word a following ATU applies: FREQ with a correction that removes the boundary error, at most ATU_SLEW; its size is free
(R418). -/
def State.followWord (s : State) (h : Heartbeat) (arr free : Nat) : Nat :=
  let c : Int := free % (s.getF .ATU_SLEW_SLEW 0 + 1)
  let e := s.boundaryErr h arr
  clampFreq (h.freq.toNat + (if e = 0 then 0 else if 0 < e then -c else c))

/-! Control, journal and alignment frames. -/

/-- The twin's SIDE (R413). -/
def State.takeSide (s : State) (b : Bool) : State :=
  let eq := b == s.bit .MIR_CFG_SIDE 0
  (s.setWhen eq .MIR_STAT_SIDEERR 0 1).modTwin (fun t => { t with sideEqual := eq })

/-- Takes a set of 8 round trips as MIR_DELAY. -/
def State.takeMirDelay (s : State) (rts : List Nat) : State :=
  let d := s.draw
  ((d.2.setF .MIR_DELAY_VALID 0 1).setF .MIR_DELAY_DLY 0 (meanDelay rts d.1.toNat)).modTwin (fun t => { t with dlyAcc := rts, dlyOut := [] })

/-- A measured round trip, in the manner of R238 (R417): one beyond 20 ns of the mean is discarded, and 8 of those that agree are a new set. -/
def State.mirDelayResult (s : State) (rt : Nat) : State :=
  if s.bit .MIR_DELAY_VALID 0 && !nearMean s.twin.dlyAcc rt then
    let out := (rt :: s.twin.dlyOut).take 8
    if out.length = 8 ∧ out.all (nearMean out) = true then s.takeMirDelay out else s.modTwin (fun t => { t with dlyOut := out })
  else
    let acc := (rt :: s.twin.dlyAcc).take 8
    if acc.length = 8 then s.takeMirDelay acc else s.modTwin (fun t => { t with dlyAcc := acc, dlyOut := [] })

/-- The end of a journal copy: a JOINING device that is SYNCED with an ACTIVE twin becomes STANDBY (R420, R431). -/
def State.copyEnd (s : State) : State :=
  if s.role = roleJoining then
    let s1 := s.modTwin (fun t => { t with copyDone := true })
    if s.bit .MIR_STAT_SYNCED 0 && s.getF .MIR_PEER0_ROLE 0 == roleActive && !s.twin.sideEqual then s1.setRole roleStandby else s1
  else s

/-- The control frame in a frame's bytes: none where it is of another type, which arrives by a command of its own, or of no known payload. -/
def ctlOf (b : List Byte) : Option CtlFrame :=
  if leNat (b.take 1) ≠ 7 then none
  else match leNat ((b.drop 7).take 1) with
    | 0 => some (.side (leNat ((b.drop 8).take 1) == 1))
    | 1 => some .delayReq
    | 3 => some .copyDone
    | _ => none

/-- The frame is as long as its LEN says and its CRC holds. -/
def mirCrcOk (b : List Byte) : Bool :=
  let n := b.length - 4
  decide (11 ≤ b.length) && leNat ((b.drop 5).take 2) + 7 == n && crc32c (b.take n) == leNat (b.drop n)

/-- A valid control frame. -/
def State.ctlFrame (s : State) (c : CtlFrame) : State :=
  let s1 := s.mirFrame
  match c with
  | .side b => s1.takeSide b
  | .delayReq => s1.queueMir .delayResp
  | .delay rt => s1.mirDelayResult rt
  | .copyDone => s1.copyEnd
  | .raw _ => s1

/-- CTL_FRAME_RECEIVED (R413, R414, R417, R431).  A frame with a bad CRC is discarded and counted. -/
def execCtlFrameReceived (c : CtlFrame) (s : State) : Out :=
  .next (if !s.hears then s
  else match c with
    | .raw b => if mirCrcOk b then s.ctlFrame ((ctlOf b).getD c) else s.countF .MIR_CNT_RXERR 0 1
    | _ => s.ctlFrame c)

/-- PWMASTER_ALIGN_LOAD: at the master's next period start its counter takes the difference (R419). -/
def execPwmasterAlignLoad (s : State) : Out :=
  .next (match s.twin.pwLoad with
    | none => s
    | some d =>
      let m := s.master
      if s.paired && s.role != roleActive && s.pairRuns m then
        let s1 := if (s.pairs[m]).pos = 0 then s else s.periodStart m
        let act := (s1.pairs[m]).act
        let pos := (d % (max 1 act.len : Nat)).toNat
        let s2 := if pos = 0 then s1 else (s1.loadPhase m { act with phs := pos } false).modPair m (fun q => { q with act := act, nxt := act })
        (s2.countF .MIR_CNT_PWMADJ 0 1).modTwin (fun t => { t with pwLoad := none })
      else s)

end Sys2Proof.Machine
end

