-- ==== Sys2Proof/Machine/Boundary.lean ====
section
/-! DEFINITION. The fret boundary, the enable of the ATU and the passing of time (R31, R45 to R75, R418). -/
namespace Sys2Proof.Machine

/-! The frequency word of a new fret (R54 to R61). -/

/-- A frequency word moves from `w` towards `t` by at most ATU_ROCOF (R55). -/
def State.rocof (s : State) (w : Nat) (t : Int) : Nat :=
  let r : Int := s.getF .ATU_ROCOF_ROCOF 0
  clampFreq (max (w - r) (min (w + r) t))

/-- The loop bandwidth in Hz (Table 2-11). -/
def State.loopBw (s : State) : Nat := [1, 2, 5, 10, 20, 30, 40, 60].getD (s.getF .ATU_CFG_LOOPBW 0) 1

/-- The loop of a tracker at a boundary, where samples have come since the last (R55, log entry 22). -/
def State.trackStep (s : State) (t : Track) : Track :=
  if t.fresh then
    let o := Config.loopStep s.loopBw t.pherr t.integ
    { t with integ := o.1, word := s.rocof t.word o.2, fresh := false }
  else t

/-- Both trackers run, whichever source is selected (R59); that of a lost selected source holds (R58). -/
def State.stepTrackers (s : State) : State :=
  let run := fun (v : Nat) => !(s.src == v && s.holdover)
  { s with atu := { s.atu with
    adcTr := if run srcAdc then s.trackStep s.atu.adcTr else s.atu.adcTr,
    svTr := if run srcSv then s.trackStep s.atu.svTr else s.atu.svTr } }

/-- The free-running word moves towards ATU_FREE by at most ATU_ROCOF (R57). -/
def State.rampNext (s : State) : Nat :=
  let f := s.getF .ATU_FREQ_FREQ 0
  let r := s.getF .ATU_ROCOF_ROCOF 0
  let t := s.getF .ATU_FREE_FREE 0
  clampFreq (if f < t then (min t (f + r) : Nat) else (max t (f - r) : Nat))

/-- AUTOFREE at the boundary after a loss (R58).  That the switch clears HOLDOVER is the model's choice (DESIGN CHOICE, log entry 42). -/
def State.autoFreeStep (s : State) : State :=
  match s.atu.autoWord with
  | some w =>
    (((((({ s with atu := { s.atu with autoWord := none } }).setF .ATU_FREE_FREE 0 w).setF .ATU_STAT_SRC 0
      srcFree).setF .ATU_CTRL_SRCREQ 0 srcFree).setF .ATU_STAT_HOLDOVER 0 0).setF .ATU_STAT_SLEWING 0 0).setF .ATU_STAT_LOCKED 0 0
  | none => s

/-- A requested handover takes effect (R59, R60): the incoming tracker's word is applied through the slew.  That a handover clears
HOLDOVER is the model's choice (DESIGN CHOICE, log entry 42). -/
def State.handoverSrc (s : State) : State :=
  match s.atu.handover with
  | none => s
  | some v =>
    let s1 := (({ s with atu := { s.atu with handover := none } }).setF .ATU_CTRL_SRCREQ 0 v)
    if v = s.src then s1
    else
      let s2 := ((s1.setF .ATU_STAT_SRC 0 v).setF .ATU_STAT_HOLDOVER 0 0).setF .ATU_STAT_LOCKED 0 0
      if v = srcFree then s2.setF .ATU_STAT_SLEWING 0 0
      else
        let s3 := { s2 with atu := { s2.atu with tracked := (s2.atu.track v).word, lockFrom := none } }
        s3.slewBegin v

/-- ATU_PHERR in a new fret: the error of the selected tracker; without one that runs it is free (R55, log entry 22). -/
def State.pherrStep (s : State) : State :=
  if s.src = srcFree ∨ s.holdover = true then let d := s.draw; d.2.setF .ATU_PHERR_PHERR 0 d.1.toNat
  else s.showPherr s.src

/-- The word applied in the new fret (R55, R57, R58, R60, R418). -/
def State.wordStep (s : State) : State :=
  let s1 := s.stepTrackers.pherrStep
  if s1.twin.follow then
    let e := s1.draw
    match s.heartbeatOf ((s.fretnum + 2 ^ 32 - 1) % 2 ^ 32) with
    | some (h, arr) => e.2.setF .ATU_FREQ_FREQ 0 (s.followWord h arr e.1.toNat)
    | none => s1
  else if s1.src = srcFree then
    let f := s1.rampNext
    { s1.setF .ATU_FREQ_FREQ 0 f with atu := { s1.atu with tracked := f } }
  else if s1.holdover then s1
  else
    let s2 := { s1 with atu := { s1.atu with tracked := s1.rocof s1.atu.tracked (s1.atu.track s1.src).word } }
    s2.setF .ATU_FREQ_FREQ 0 (if s2.bit .ATU_STAT_SLEWING 0 then s2.slewWord else s2.atu.tracked)

/-- LOCKED: four cycles without a break (R61). -/
def State.lockStep (s : State) : State :=
  let ok := s.src != srcFree && !s.holdover && !s.bit .ATU_STAT_SLEWING 0 && decide (s.pherr.natAbs < 11930465)
  let since := if ok then some (s.atu.lockFrom.getD s.atu.absStart) else none
  ({ s with atu := { s.atu with lockFrom := since } }).setBit .ATU_STAT_LOCKED 0 (since.any (fun a => decide (a + 4 * 2 ^ 32 ≤ s.atu.absStart)))

/-- The source's part of a boundary. -/
def State.sourceStep (s : State) : State := s.wordStep.autoFreeStep.handoverSrc.sourceCheck.lockStep

/-! The steps of R31. -/

/-- A pending FPCSEL takes effect at the wrap (R53). -/
def State.fpcWrap (s : State) : State :=
  if s.bit .ATU_STAT_FPCPEND 0 && decide (s.fic = 0) then
    (s.setF .ATU_CFG_FPCSEL 0 s.atu.fpcNew).setF .ATU_STAT_FPCPEND 0 0
  else s

/-- Step 1: the angle reaches the threshold, the fret number advances and the timestamp is latched (R49, R62).  Where time has run over a
further threshold, its boundary falls due next: none is skipped. -/
def State.stepFret (s : State) : State :=
  let thr := s.nextThreshold
  let f := s.getF .ATU_FREQ_FREQ 0
  let k := s.cyclesTo thr
  let rest := s.accFull + k * f - thr
  let s1 := s.spend k
  let res := rest * 40 / (max 1 f)
  let s2 := { s1 with atu := { s1.atu with
    acc := thr % 2 ^ 48, past := 0, absStart := s.atu.absStart + s.fretAu, bTime := (s1.tick * 40 : Nat) - (res : Int), bPrev := s.atu.bTime } }
  ((((s2.setF .ATU_FRETNUM_FRETNUM 0 (s.fretnum + 1)).setF .ATU_BT_CNS_BTCNS 0 (compactOf ((s1.timeNs * 16 : Nat) - (res : Int)))).fpcWrap).addAngle
    rest)

/-- Step 2: the swaps and the activation named for this fret (R31, R152). -/
def State.swapStep (s : State) : State := s.fretSwapBoundary.clgBoundary.actBoundary

/-- Step 3: the receive buffers flip; a delay response still awaited is void (R238); what was released, converted, launched or acknowledged
for the fret that ended counts for no later fret (R32, R241). -/
def State.flipRx (s : State) : State :=
  { s with
    lanes := s.lanes.map (fun l => { l with
      rx := l.fill, fill := {}, dlyWait := false, dlyOut := if l.dlyWait then [] else l.dlyOut,
      released := none, convFret := none, cmdFret := none, ack := none }),
    arms := s.arms.map (fun x => { x with released := none }) }

/-- Step 4: the ATU state of the new fret (R65). -/
def State.queueTb (s : State) : State :=
  { s with atu := { s.atu with tb := {
      fret := s.fretnum, fic := s.fic, fpcsel := s.getF .ATU_CFG_FPCSEL 0, freq := s.getF .ATU_FREQ_FREQ 0,
      btcns := s.getF .ATU_BT_CNS_BTCNS 0, src := s.src, holdover := s.holdover } } }

/-- Step 5: the dispatcher begins the new fret; a DRAINING one has finished its fret (R41, R66, R74).  While the dispatcher is OFF the
lanes still take the slot set of the active copy's row (DESIGN CHOICE, log entry 42). -/
def State.dispatchStep (s : State) : State :=
  let s1 := if s.getF .FRET_STAT_ENST 0 = enstDraining then s.fretReachOff else s
  let c := s1.getF .FRET_STAT_ACTIVE 0
  let r := s1.fic % s1.plen c
  { s1 with fretd := {
      row := if s1.fretOn then some (c, r) else none,
      slotset := s1.rowWord c r 0xE0 % 4, started := 0#24, scanned := 0#8 } }

/-- The checks that every boundary makes on the engines and the arms (R144, R168), and the carrier latch (R177). -/
def State.boundaryChecks (s : State) : State :=
  let s1 := forIdx (n := 24) (fun n t => t.overrunCheck n) s
  let s2 := forIdx (n := 6) (fun a t => if t.armLive a then t.armCheck a else t) s1
  s2.setF .MOD_TCB_TCB 0 s2.carrier

/-- Steps 2 to 5 of R31 with the role changes before step 4. -/
def State.boundarySteps (s : State) (k : Nat) : State :=
  ((((((s.boundaryChecks.swapStep).flipRx).twinBoundary k).queueTb).dispatchStep).atuConversions)

/-- FRET_BOUNDARY: one boundary of the running ATU. -/
def State.fretBoundary (s : State) : State := ((s.stepFret.noackStep s.fretnum).sourceStep).boundarySteps s.fretnum

def execFretBoundary (s : State) : Out := .next (if s.atuRuns then s.fretBoundary else s)

/-! Enabling the ATU (R75, R418). -/

/-- What was released, converted, launched or acknowledged for a fret of an earlier run counts for no fret of the new one, which may carry
the same number (R32, R75). -/
def State.forgetFrets (s : State) : State :=
  { s with
    lanes := s.lanes.map (fun l => { l with released := none, convFret := none, cmdFret := none, ack := none }),
    arms := s.arms.map (fun x => { x with released := none }) }

/-- The ATU starts at an angle given as a fret-in-cycle index. -/
def State.atuStart (s : State) (fret fic freq : Nat) : State :=
  let a : AtuSt := { s.atu with
    acc := fic * s.fretAu * 65536, absStart := 0, past := 0, tracked := clampFreq freq, lockFrom := none, lowFrom := none, hist := [], got := [],
    bTime := (s.tick * 40 : Nat), bPrev := s.atu.bTime, handover := none, autoWord := none }
  let s1 := ({ s with atu := a }.setF .ATU_CTRL_EN 0 1).setF .ATU_STAT_ENST 0 enstOn
  let s2 := (((s1.setF .ATU_FRETNUM_FRETNUM 0 fret).setF .ATU_FREQ_FREQ 0 (clampFreq freq)).setF .ATU_BT_CNS_BTCNS 0 s.compact)
  let v := s.getF .ATU_CTRL_SRCREQ 0
  let s3 := ((s2.setF .ATU_STAT_SRC 0 v).setF .ATU_STAT_HOLDOVER 0 0).setBit .ATU_STAT_SLEWING 0 (v != srcFree)
  ((s3.setF .ATU_STAT_LOCKED 0 0).planResetAll.forgetFrets).sourceCheck

/-- Steps 2 to 5 of R31 at the boundary that the enable marks. -/
def State.atuFirst (s : State) : State :=
  ((((((s.boundaryChecks.swapStep).flipRx).samplePwm).latchTwin).queueTb).dispatchStep).atuConversions

/-- EN = 1 written to the ATU, which stays OFF in Minimal Mode (R447). -/
def State.atuEnable (s : State) : State :=
  if s.atuOn || !s.fabRuns || s.bit .PMC_STAGE_MINIMAL 0 then s
  else (s.atuStart (s.getF .ATU_FRETINIT_FRETINIT 0) 0 (s.getF .ATU_FREE_FREE 0)).atuFirst

def execAtuEnable (s : State) : Out := .next (if s.protBus then s.atuEnable else s)

/-- TWIN_TIMEBASE_JOIN: the predicted boundary of the twin arrives; its fret-in-cycle index is free (R418). -/
def State.twinJoin (s : State) : State :=
  match s.twin.joinAt with
  | none => s
  | some (k, f, due) =>
    if s.role = roleJoining ∧ s.inS4 = false ∧ s.atuOn = false ∧ s.fabRuns = true ∧ s.bit .PMC_STAGE_MINIMAL 0 = false then
      let d := (s.passTo due).draw
      let s1 := (d.2.setF .ATU_FRETINIT_FRETINIT 0 k).modTwin (fun t => { t with joinAt := none, follow := true })
      (s1.atuStart k (d.1.toNat % s.fpc) f).followTwin.atuFirst
    else s

def execTwinTimebaseJoin (s : State) : Out := .next s.twinJoin

/-! Time (R26): a step on an empty queue is one FAB cycle. -/

/-- A boundary whose threshold the angle has reached is performed. -/
def State.dueBoundary (s : State) : State := if s.atuRuns && s.boundaryDue then s.fretBoundary else s

/-- The ATU's part of a FAB cycle: one addition, and the boundary in the cycle that reaches its threshold (R45, R49). -/
def State.atuCycle (s : State) : State :=
  if s.atuRuns then ((s.dueBoundary.addFreq 1).spend 1).dueBoundary else s.spend 1

/-- The pairs' part: 64 units, held at the next edge of the plan and at the period end for their commands. -/
def State.pairCycle (s : State) (n : Fin 24) : State :=
  let q := s.pairs[n]
  let lim := match q.plan with | e :: _ => min e.1 (q.act.len * 64) | [] => q.act.len * 64
  let runs := s.pairRuns n
  (s.modPair n (fun q => { q with now := if s.timersRun n then q.now + 64 else q.now, pos := if runs then max q.pos (min lim (q.pos + 64)) else q.pos })).settle n

/-- The auxiliary drive's part: one HV cycle of 10 ns, held at the period's last count. -/
def State.auxCycle (s : State) : State :=
  if s.auxOk && decide (s.tick % 4 = 0) then
    ({ s with auxc := { s.auxc with now := s.auxc.now + 1, cnt := min s.auxPrd (s.auxc.cnt + 1) } }).auxDriveAll
  else s

/-- The pairs that a force group line trips (R295). -/
def State.tripPairs (s : State) : State :=
  forIdx (n := 24) (fun n t => if t.pairOk n && t.pairLine n && !t.bit .PW_TRIP_TRIPPED n then t.pairTrip n else t) s

/-- The fuses follow a raise of a floor (R476). -/
def State.fuseCycle (s : State) : State := if s.coresRun then s.modSec SecSt.levelArb else s

/-- The parts of a FAB cycle that do not need FAB. -/
def State.slowCycle (s : State) : State := s.clockCheck.mirCycle.fuseCycle

/-- One FAB cycle.  While FAB is gated, the station clock, the mirror link and the count of time go on. -/
def State.cycle (s : State) : State :=
  if s.fabRuns then
    (((forIdx (n := 24) (fun n t => t.pairCycle n) s.atuCycle).auxCycle.inputsRun.muteCycle).tripPairs).slowCycle
  else
    ({ s with tick := s.tick + 1, clock := if s.clockRuns then s.clock.cycle (ptpCycles s.tick 1 * s.getF .TIME_INC_INC 0) else s.clock } : State).slowCycle

end Sys2Proof.Machine
end

