-- ==== Sys2Proof/Machine/Power.lean ====
section
/-! DEFINITION. Power domains and the thermal supervisor (R43, R458 to R466), with what each domain holds. -/
namespace Sys2Proof.Machine

/-! The contents of the domains (Table 18-3), whose numbers are in Place.lean. -/

/-- The last field of each unit's group in the order of the names, and the group's domain; CE and CL fields go by their instance. -/
def fldDomains : List (Fld × Nat) :=
  [(.SYS_BUSADDRHI_ADDR, 3), (.CE_ACTMASK_MASK, 6), (.THERM_TS_TEMP, 1), (.ARM_MAP_LANE0, 6), (.CL_UPAT1_UPAT1, 7), (.CLG_NODE_NODE, 6),
   (.CMP_STATUS_ENST, 11), (.PWM_START_START, 6), (.ADC_STAT_LKERR, 11), (.AUXH_FCNT_CLAMP, 13), (.VREG_CNT_ILIM, 1), (.SER_VER_VERSION, 2),
   (.SVF_CNT_BAD, 9), (.JNL_CNT1_DUP, 12), (.MIR_LANEMAP_UP, 10), (.SSM_ECCADDR_ADDR, 6), (.SEC_TAMPCFG_BLOCK, 3), (.DBG_PWM_FREEZE_FREEZE, 1)]

/-- The power domain of a field's instance. -/
def fldDomain (f : Fld) (i : Nat) : Nat :=
  match fldDomains.find? (fun e => decide (f.ctorIdx ≤ e.1.ctorIdx)) with
  | some (e, d) =>
    if e = .CL_UPAT1_UPAT1 then (if f = .CL_BRXHDR_CHAN0 ∨ f = .CL_BRXHDR_SEQ0 ∨ f = .CL_BRXHDR_CHAN1 ∨ f = .CL_BRXHDR_SEQ1
      then (if i < 96 then 7 else 8) else if i < 48 then 7 else 8)
    else d
  | none => if f = .CE_STGREQ_REQ then (if i < 48 then 4 else 5) else if i < 12 then 4 else 5

/-- The engines, lanes and memory of a domain. -/
def domEngine (d : Nat) (n : Nat) : Bool := (d == domCea && decide (n < 12)) || (d == domCeb && decide (12 ≤ n))
def domLane (d : Nat) (n : Nat) : Bool := (d == domLinka && decide (n < 48)) || (d == domLinkb && decide (48 ≤ n))

/-- Returns the hidden state of a domain's units to the start: what a unit reset of each of them leaves. -/
def State.resetUnits (s : State) (d : Nat) : State :=
  let s1 := { s with
    ce := s.ce.mapFinIdx (fun n e _ => if domEngine d n then e.powerReset else e),
    lanes := s.lanes.mapFinIdx (fun n l _ => if domLane d n then
      { ({} : LaneSt) with level := l.level, lastEdge := l.lastEdge, phil := l.phil } else l) }
  match d with
  | 6 => { s1 with
      atu := {}, fretd := {}, pegs := Vector.replicate 256 {}, arb := { windowAt := s.tick }, arms := Vector.replicate 6 {}, carrier := 0,
      pairs := Vector.replicate 24 {}, pwStarts := [], pins := s1.pins.map (fun x => { vin := x.vin }), lanes := s1.lanes.map LaneSt.clearPlan }
  | 9 => { (forIdx (n := 8) (fun n t => t.setF .TOUT_CTRL_ENST n enstOff) s1) with
      hp := Vector.replicate 4 {}, prp := Vector.replicate 2 {}, svExp := Vector.replicate 16 none, svFeed := { since := s.tick },
      tout := Vector.replicate 8 {} }
  | 10 => { s1 with ml := Vector.replicate 4 {}, mlOrdered := false, twin := { lastUp := s.twin.lastUp } }
  | 11 => { s1 with cmps := s1.cmps.map (fun x => { vin := x.vin }), adcs := Vector.replicate 8 {} }
  | 13 => ({ s1 with
      aux := s1.aux.map (fun (a : AuxSt) => { bsLow := a.bsLow, bsHold := a.bsLow }), auxc := { linkDown := s.auxc.linkDown } }).auxSupply s.auxc.vdLow s.auxc.vhLow
  | _ => s1

/-- Loses the memories of a domain; the layout of R230 returns to a lane's slot tables. -/
def State.loseMemories (s : State) (d : Nat) : State :=
  match d with
  | 4 => s.loseMem (ceBase 0) (12 * 0x100000)
  | 5 => s.loseMem (ceBase 12) (12 * 0x100000)
  | 6 => (s.loseMem 0x10000000 0x800000).clearMem 0x40058000 0x8000
  | 7 => s.loseMem 0x40080000 0xC000
  | 8 => s.loseMem 0x4008C000 0xC000
  | _ => s

/-- The domain's units return to reset: every class but BK (R459), with the unit resets and the lost memories (R147). -/
def State.domainReset (s : State) (d : Nat) : State :=
  let s0 := if d = domMir then s.mirDown else s
  let s1 := (List.finRange 24).foldl (fun t (n : Fin 24) => if domEngine d n then t.breakPegs n else t) s0
  (((s1.resetFields (fun f i => f.spec.cls != .bk && fldDomain f i == d)).resetUnits d).loseMemories d).clearCheck

/-! Software power-down (R43, R459). -/

/-- The bits of PMC_PDREQ.REQ that software may write, from domain 4 on. -/
def switchableMask : Nat := 0b1011011011

/-- Every unit of the domain shows OFF. -/
def State.domainOff (s : State) (d : Nat) : Bool :=
  let off := fun (f : Fld) (i : Nat) => s.getF f i == enstOff
  match d with
  | 10 => off .MIR_STAT_ENST 0
  | 11 => (List.range 32).all (off .CMP_STATUS_ENST) && (List.range 8).all (off .AD_STAT_ENST)
  | 13 => (List.range 4).all (off .AUXH_STAT_ENST)
  | _ => (List.range 24).all (fun n => !domEngine d n || off .CE_STAT_ENST n) &&
         (List.range 96).all (fun n => !domLane d n || off .CL_STAT_ENST n)

/-- The request for domain `d` stands at off. -/
def State.offAsked (s : State) (d : Nat) : Bool := decide (4 ≤ d) && s.testF .PMC_PDREQ_REQ 0 (d - 4)

/-- PDWAIT: an off request waits. -/
def State.pdwait (s : State) : State :=
  s.setBit .PMC_PDSTAT_PDWAIT 0 ((List.range 14).any (fun d => s.offAsked d && s.powered d))

/-- The domain is powered down; without the mirror the device is SINGLE, with its OWNER_OUT (R411). -/
def State.powerOff (s : State) (d : Nat) : State :=
  let s1 := (if d = domMir ∧ s.awake = true then s.becomeSingle else s).domainReset d
  (if s1.testF .PMC_PDSTAT_PWR 0 d then s1.setF .PMC_PDSTAT_PWR 0 (s1.getF .PMC_PDSTAT_PWR 0 - 2 ^ d) else s1).pdwait

/-- An off request that need not wait acts. -/
def State.powerStep (s : State) (d : Nat) : State := if s.offAsked d && s.powered d && s.domainOff d then s.powerOff d else s

/-- A write of PMC_PDREQ.REQ. -/
def State.writePdreq (s : State) (v : Nat) : State :=
  let old := s.getF .PMC_PDREQ_REQ 0
  let bit := fun (t : Nat × Bool) (j : Nat) =>
    let want := v.testBit j
    if !switchableMask.testBit j || !s.variant.hasDomain (j + 4) || want == old.testBit j then (t.1 ||| (if old.testBit j then 2 ^ j else 0), t.2)
    else if want && s.inS4 then (t.1, true)
    else (t.1 ||| (if want then 2 ^ j else 0), t.2)
  let r := (List.range 10).foldl bit (0, false)
  let s1 := (s.setF .PMC_PDREQ_REQ 0 r.1).setWhen r.2 .PMC_PDSTAT_PDERR 0 1
  ((List.range 14).foldl (fun t d => t.powerStep d) s1).pdwait

/-- POWER_DOMAIN_REQUEST. -/
def execPowerDomainRequest (req : BitVec 10) (s : State) : Out := .next (if s.coresRun then s.writePdreq req.toNat else s)

/-- POWER_DOWN_DONE: the last unit of a domain has reached OFF. -/
def execPowerDownDone (d : Fin 14) (s : State) : Out := .next (if s.aonRuns then s.powerStep d else s)

/-- POWER_UP_DONE: a domain asked on is powered, within 50 µs, with its registers at their reset values (R459). -/
def execPowerUpDone (d : Fin 14) (s : State) : Out :=
  .next (if s.variant.hasDomain d && !s.powered d && decide (4 ≤ d.val) && !s.offAsked d && !s.bit .THERM_STAT_SHUTLAT 0 && s.aonRuns then
    (s.domainReset d).orF .PMC_PDSTAT_PWR 0 d
  else s)

/-! The thermal supervisor (R461 to R465).  Readings are in 1/16 °C. -/

def State.modTherm (s : State) (f : ThermSt → ThermSt) : State := { s with therm := f s.therm }

/-- One sensor: a self-test every 256th conversion, a broken sensor reads 150.0 °C. -/
def State.sensor (s : State) (test : Bool) (fail : BitVec 12) (i : Fin 12) (v : BitVec 16) : State :=
  let k := s.therm.fails[i]
  let k' := if test then (if fail.getLsbD i then k + 1 else 0) else k
  let broken := s.bit .THERM_TS_BROKEN i || decide (2 ≤ k') || decide (v.toInt < -960) || decide (2560 < v.toInt)
  let s1 := s.modTherm (fun t => { t with fails := t.fails.set i k' })
  (s1.setBit .THERM_TS_BROKEN i broken).setF .THERM_TS_TEMP i (if broken then 2400 else v.toNat)

/-- The sensors that are not masked. -/
def State.sensors (s : State) : List Nat := (List.range 12).filter (fun i => !s.testF .THERM_MASK_MASK 0 i)
def State.temp (s : State) (i : Nat) : Int := (BitVec.ofNat 16 (s.getF .THERM_TS_TEMP i)).toInt

/-- THERM_MAX: the maximum over the sensors not masked, and the lowest sensor that gives it. -/
def State.thermMax (s : State) : State :=
  match s.sensors with
  | [] => s
  | i :: t =>
    let best := t.foldl (fun b j => if s.temp b < s.temp j then j else b) i
    (s.setF .THERM_MAX_MAX 0 (BitVec.ofInt 16 (s.temp best)).toNat).setF .THERM_MAX_ARGMAX 0 best

/-- A run of consecutive samples. -/
def runOf (n : Nat) (b : Bool) : Nat := if b then n + 1 else 0

/-- The counters of Table 18-4 after a sample of `v`. -/
def ThermSt.count (t : ThermSt) (v : Int) (div2 : Bool) : ThermSt :=
  { t with
    hot2 := runOf t.hot2 (decide (1600 ≤ v)), cool2 := runOf t.cool2 (decide (v < 1520)),
    hot4 := runOf t.hot4 (div2 && decide (1680 ≤ v)), cool4 := runOf t.cool4 (decide (v < 1600)),
    hotB := runOf t.hotB (decide (1840 ≤ v)), coolB := runOf t.coolB (decide (v < 1760)),
    hotS := runOf t.hotS (decide (2000 ≤ v)) }

/-- Entry to and exit from the throttle levels; THROT4 has an entry of its own. -/
def State.throttleStep (s : State) : State :=
  let t := s.therm
  match s.getF .THERM_STAT_THROTTLE 0 with
  | 0 => if 2 ≤ t.hot2 then (s.setF .THERM_STAT_THROTTLE 0 1).countF .THERM_CNT_THRCNT 0 1 else s
  | 1 => if 20 ≤ t.cool2 then s.setF .THERM_STAT_THROTTLE 0 0 else s
  | _ => if 20 ≤ t.cool4 then s.setF .THERM_STAT_THROTTLE 0 1 else s

/-- The handover that BLOCK requests of the twin (R464). -/
def State.thermHandover (s : State) : State :=
  if s.role = roleActive ∧ s.bit .MIR_CFG_PAIR 0 = true then (s.setF .MIR_HOAT_AT 0 (s.fretnum + 4)).requestHandover else s

/-- Entry to and exit from BLOCK. -/
def State.blockStep (s : State) : State :=
  if s.bit .THERM_STAT_BLKREQ 0 then (if 20 ≤ s.therm.coolB then s.setF .THERM_STAT_BLKREQ 0 0 else s)
  else if 2 ≤ s.therm.hotB then
    let s1 := ((s.setF .THERM_STAT_BLKREQ 0 1).countF .THERM_CNT_BLKCNT 0 1).thermHandover
    if s1.fabRuns then s1.muteCycle else s1
  else s

/-- THERMAL_SAMPLE: the readings of TS0 to TS11 and the self-tests that fail. -/
def State.thermSample (s : State) (ts : List (BitVec 16)) (fail : BitVec 12) : State :=
  let test := s.therm.conv % 256 == 255
  let s1 := forIdx (n := 12) (fun i t => t.sensor test fail i (ts.getD i 0#16)) s
  let s2 := (s1.modTherm (fun t => { t with conv := (t.conv + 1) % 256 })).thermMax
  let v := (BitVec.ofNat 16 (s2.getF .THERM_MAX_MAX 0)).toInt
  (s2.modTherm (fun t => t.count v (s.getF .THERM_STAT_THROTTLE 0 == 1))).throttleStep.blockStep

def execThermalSample (ts : List (BitVec 16)) (fail : BitVec 12) (s : State) : Out := .next (if s.aonRuns then s.thermSample ts fail else s)

/-- THROT4_ENTRY: 105 °C held for 10 ms, 200 samples, in THROT2. -/
def execThrot4Entry (s : State) : Out :=
  .next (if s.aonRuns = true ∧ s.getF .THERM_STAT_THROTTLE 0 = 1 ∧ 200 ≤ s.therm.hot4 then s.setF .THERM_STAT_THROTTLE 0 2 else s)

/-- What SUP0 to SUP3 and the journal engine lose at any reset: keys, queues and the image buffer (R390, R393, R481). -/
def JnlSt.restart (j : JnlSt) : JnlSt :=
  { j with
    widx := 0, cons := none, queue := [], waiting := [], notify := [], running := none, scanned := false, imgHeld := false, report := none, recovery := none, mirror := [], mirrorSent := [],
    replies := [],
    sessions := j.sessions.map (fun x => { x with key := none, newKey := none }) }

def SecSt.restart (c : SecSt) : SecSt := { c with chalOk := false, job := none, idReady := false, engPend := none, tokens := [], halted := 0#4 }

/-- THERMAL_SHUTDOWN: the end of the sequence of Table 18-5.  Every domain but AON and BK is off, and the regulator has stopped. -/
def State.thermShutdown (s : State) : State :=
  let s1 := s.setF .THERM_BKREC_SHUT125 0 1
  let s2 := [4, 5, 7, 8, 10, 9, 11, 6, 3, 12, 2, 13].foldl (fun t d => t.domainReset d) s1
  let s3 := ((s2.setF .PMC_PDSTAT_PWR 0 3).setF .PMC_PDSTAT_PDWAIT 0 0).setF .THERM_STAT_SHUTLAT 0 1
  let s4 := { s3 with
    ser := { ({} : SerSt) with store := s.ser.store, confirm := s.ser.confirm }, dmaEnst := 0, clock := {},
    jnl := s.jnl.restart, sec := { s.sec.restart with runSer := 0, serHash := [] } }
  (s4.phasesMid).setWhen (s.sstate != ssLatch) .VREG_STAT_SSTATE 0 ssHiccup

def execThermalShutdown (s : State) : Out :=
  .next (if s.aonRuns = true ∧ 2 ≤ s.therm.hotS ∧ s.bit .THERM_STAT_SHUTLAT 0 = false then s.thermShutdown else s)

/-- A write of THERM_MASK (R462). -/
def State.writeThermMask (s : State) (m : Nat) : State :=
  if s.inS4 ∨ m % 4096 = 4095 then s.setF .THERM_STAT_MASKERR 0 1 else (s.setF .THERM_MASK_MASK 0 m).thermMax

def execThermMaskWrite (mask : BitVec 12) (s : State) : Out := .next (if s.coresRun then s.writeThermMask mask.toNat else s)

end Sys2Proof.Machine
end

