-- ==== Sys2Proof/Machine/Pmc.lean ====
section
/-! DEFINITION. Bring-up: resets, stages, arming, the reset button and the start record (R435 to R450, R473, R475, R496). -/
namespace Sys2Proof.Machine

def State.stage (s : State) : Nat := s.getF .PMC_STAGE_STAGE 0
def State.minimal (s : State) : Bool := s.bit .PMC_STAGE_MINIMAL 0

/-! Reasons (Table 17-5). -/

def rsFailedStarts : Nat := 1
def rsButton : Nat := 2
def rsFwInvalid : Nat := 3
def rsSafInvalid : Nat := 4
def rsMramFail : Nat := 5
def rsKeysRevoked : Nat := 6
def rsVcoreShort : Nat := 0x10

/-! Resets (R24, R40, R440). -/

/-- The units that every reset of class WR or PO covers. -/
def resetDomains : List Nat := [4, 5, 6, 7, 8, 9, 10, 11, 13]

/-- What a reset does to the activations of the bring-up (R436), and to the button's timing: a press that goes on is not timed, and the 1,000 ms of R444 begin anew; the hold time of a press
counts on over a warm reset, and from a power-on reset (DESIGN CHOICE, log entry 52). -/
def PmcSt.restart (p : PmcSt) (tick : Nat) (po : Bool) : PmcSt :=
  { p with timing := false, relAt := tick, pressAt := if po then p.pressAt.map (fun _ => tick) else p.pressAt, actDue := 0#24, actAny := false }

/-- The image buffer of IMAGE_PUT (R393). -/
def imgBuffer : Nat := 0x10600000
def imgSize : Nat := 0x100000

/-- The fields of class WR (and PO where `po`) return to their reset values; VCORE_SHORT stays until a power-on reset. -/
def State.resetClass (s : State) (po : Bool) : State :=
  s.resetFields (fun f _ =>
    match f.spec.cls with
    | .wr | .ur => po || f != .PMC_STAGE_REASON || s.getF .PMC_STAGE_REASON 0 != rsVcoreShort
    | .po => po
    | _ => false)

/-- What a warm reset leaves: every WR and UR field at its reset value, the header of the command ring (Table 15-6) too, every unit reset, and
the contents of the image buffer lost (R393). -/
def State.warmCore (s : State) : State :=
  let s1 := (resetDomains.foldl (fun t d => t.resetUnits d) (s.mirDown.resetClass false)).loseMem imgBuffer imgSize
  let s2 := { s1 with
    haltEn := 0#24, secLatch := Vector.replicate 29 0, dmaEnst := 0, jnl := s1.jnl.restart, sec := s1.sec.restart,
    pmc := { s1.pmc.restart s.tick false with fromPor := false } }
  (s2.setF .PMC_BTN_ARMED 0 0).setBytes 0x10700000 0 20

/-- A warm reset with its cause (Table 17-2). -/
def State.warmReset (s : State) (cause : Fld) : State := s.warmCore.setF cause 0 1

/-- The memories that a power-on reset loses: the SSM, the engines' and the bulk entries; the fret table and the slot tables return to
their reset contents (R67, R230). -/
def State.loseAll (s : State) : State := [4, 5, 6, 7, 8].foldl (fun t d => t.loseMemories d) s

/-- A power-on reset begins: every class but BK; the MRAM, the OTP and what stands at the pins stay. -/
def State.powerOnReset (s : State) (cause : Fld) : State :=
  let pressed := s.getF .PMC_BTN_PRESSED 0
  let tamper := s.getF .SEC_TAMP_PINLVL 0
  let s1 := (resetDomains.foldl (fun t d => t.resetUnits d) (s.mirDown.resetClass true)).loseAll
  let s2 := { s1 with
    haltEn := 0#24, secLatch := Vector.replicate 29 0, dmaEnst := 0, jnl := s1.jnl.restart,
    sec := { s1.sec.restart with runSer := 0, serHash := [] }, pmc := { s1.pmc.restart s.tick true with fromPor := true, safSlot := none }, therm := {}, vreg := {}, clock := {},
    ser := { ({} : SerSt) with store := s.ser.store, confirm := s.ser.confirm }, gated := 15#4, rc16Ok := true, quadFeed := false,
    eccBad := s.eccBad.filter (fun a => decide (mram ≤ a)), eccSoft := s.eccSoft.filter (fun a => decide (mram ≤ a)) }
  (((((s2.setF .PMC_RSTCAUSE_POR_SUPPLY 0 0).setF .PMC_RSTCAUSE_POR_PIN 0 0).setF cause 0 1).setF .PMC_BTN_PRESSED 0 pressed).setF
    .SEC_TAMP_PINLVL 0 tamper).setBytes 0x10700000 0 20

/-- A power-on reset is held. -/
def State.porHeld (s : State) : Bool := s.pmc.porPin || s.pmc.porSupply

/-- The thermal latch outlasts a reset by POR_N: the domains and the regulator stay off until VAUX is removed (R465). -/
def State.keepLatch (s t : State) : State :=
  if s.bit .THERM_STAT_SHUTLAT 0 then
    ((t.setF .THERM_STAT_SHUTLAT 0 1).setF .PMC_PDSTAT_PWR 0 3).setF .VREG_STAT_SSTATE 0 s.sstate
  else t

/-- POR_PIN: POR_N low, which is never refused (R438).  During a power-on reset that goes on it only holds on (Table 17-12). -/
def execPorPin (s : State) : Out :=
  .next ((if s.porHeld then s else s.keepLatch (s.powerOnReset .PMC_RSTCAUSE_POR_PIN)).modPmc (fun p => { p with porPin := true }))

/-- The loss of VBAT while the main supplies are absent: the class BK (R24, R460). -/
def State.backupLoss (s : State) : State := s.resetFields (fun f _ => f.spec.cls == .bk)

/-- POR_SUPPLY: VAUX below 2.85 V (R496). -/
def execPorSupply (s : State) : Out :=
  .next (if s.pmc.porSupply then s else (s.powerOnReset .PMC_RSTCAUSE_POR_SUPPLY).modPmc (fun p => { p with porSupply := true, vio := false }))

/-- One of the two holders of the power-on reset ends; where VBAT was lost as well while VAUX was absent, the class BK has been reset. -/
def State.porEnd (s : State) : PorCause → State
  | .pin vio => s.modPmc (fun p => { p with porPin := false, vio := vio })
  | .supply vbat vio =>
    if s.pmc.porSupply then (if vbat then s else s.backupLoss).modPmc (fun p => { p with porSupply := false, vio := vio }) else s

/-- POWER_ON_RESET_RELEASE: the soft start begins with the release (R333, R496). -/
def State.porRelease (s : State) (c : PorCause) : State :=
  let s1 := s.porEnd c
  if s.porHeld && !s1.porHeld && !s.bit .THERM_STAT_SHUTLAT 0 then s1.softStart else s1

def execPowerOnResetRelease (c : PorCause) (s : State) : Out := .next (s.porRelease c)

/-- DEBUG_RESET: refused while the port's grant does not hold SYSTEM. -/
def execDebugReset (s : State) : Out :=
  .next (if s.debugLevel.testBit 1 && s.aonRuns then s.warmReset .PMC_RSTCAUSE_DEBUG else s)

/-- PWRGD_DEASSERT beyond PGFILT. -/
def execPwrgdDeassert (s : State) : Out :=
  .next (if s.aonRuns && s.bit .VREG_STAT_PGOOD 0 then (s.setF .VREG_STAT_PGOOD 0 0).warmReset .PMC_RSTCAUSE_PGOOD_LOSS else s)

/-- SOFT_START_TIMEOUT: SSTO has passed without PWRGD_CORE: a hiccup, or the latch-off where the soft start after the eighth fails (R333,
R334). -/
def State.softTimeout (s : State) : State :=
  let h := s.getF .VREG_STAT_HICCUPS 0
  if 8 ≤ h ∧ s.sstate = ssSoft then ((s.phasesMid).setF .VREG_STAT_SSTATE 0 ssLatch).setF .PMC_STAGE_REASON 0 rsVcoreShort
  else ((s.phasesMid).setF .VREG_STAT_SSTATE 0 ssHiccup).countF .VREG_STAT_HICCUPS 0 1

def execSoftStartTimeout (s : State) : Out := .next (if s.aonRuns && s.regulating && !s.bit .VREG_STAT_PGOOD 0 then s.softTimeout else s)

/-- SUPn alone is reset (R162, R440). -/
def supCntFld : Fin 4 → Fld
  | 0 => .PMC_SUPCNT_SUP0 | 1 => .PMC_SUPCNT_SUP1 | 2 => .PMC_SUPCNT_SUP2 | 3 => .PMC_SUPCNT_SUP3

def State.supResetOne (s : State) (k : Fin 4) : State :=
  let s1 := (s.countF (supCntFld k) 0 1).breakPegs (0x20 + k)
  let s2 := { s1 with secLatch := s1.secLatch.set k 0, sec := { s1.sec with halted := s1.sec.halted &&& ~~~(1#4 <<< k.val) } }
  if k = Config.jnlCore then ({ s2 with jnl := { s2.jnl with queue := [], waiting := [] } } : State).startReplay else s2

def State.supReset (s : State) (mask : BitVec 4) : State := forIdx (n := 4) (fun k t => if mask.getLsbD k then t.supResetOne k else t) s

def execSupReset (mask : BitVec 4) (s : State) : Out := .next (if s.coresRun then s.supReset mask else s)
/-- SUP_WATCHDOG_EXPIRY of a core that runs. -/
def execSupWatchdogExpiry (k : Fin 4) (s : State) : Out := .next (if s.coresRun then s.supResetOne k else s)

/-- A write of WARM = 1 with SUPRST (R439, Table 17-11). -/
def State.warmRequest (s : State) (suprst : BitVec 4) : State :=
  if s.inS4 then (s.setF .PMC_RSTCTRL_RSTERR 0 1).supReset suprst else s.warmReset .PMC_RSTCAUSE_SOFTWARE

def execWarmResetRequest (suprst : BitVec 4) (s : State) : Out := .next (if s.coresRun then s.warmRequest suprst else s)

/-! Starts (R445 to R447, R473, R475). -/

def State.enterMinimal (s : State) (reason : Nat) : State := (s.setF .PMC_STAGE_MINIMAL 0 1).setF .PMC_STAGE_REASON 0 reason

/-- The start record's slot for this start: an activation that waited acts, and a start with TRIAL that failed goes back (R475). -/
def PmcSt.startSlot (p : PmcSt) : PmcSt :=
  if p.slotPend then { p with slot := 1 - p.slot, trial := true, trialBegun := true, slotPend := false }
  else if p.trial && p.trialBegun then { p with slot := 1 - p.slot, trial := false, trialBegun := false }
  else { p with trialBegun := p.trial }

/-- The code of the slot's station firmware (Table 19-2). -/
def State.stationCode (s : State) (k : Nat) : Nat := s.secCheck [tyStation] (s.stationObj k)

/-- The slot whose station firmware the ROM takes (R473). -/
def State.chooseSlot (s : State) : Option Nat :=
  if s.stationOk s.pmc.slot then some s.pmc.slot
  else if s.stationOk (1 - s.pmc.slot) then some (1 - s.pmc.slot)
  else none

/-- LASTRES after the ROM's verifications: the active slot's where it passes, else the other's, which came last. -/
def State.romResult (s : State) : Nat := if s.stationOk s.pmc.slot then 0 else s.stationCode (1 - s.pmc.slot)

/-- Every slot is revoked: KEYS_REVOKED. -/
def State.keysRevoked (s : State) : Bool := s.sec.slots.toList.all OtpSlot.dead

/-- The firmware slot that the ROM names to SAF, none in Minimal Mode. -/
def State.nameSlot (s : State) (k : Option Nat) : State := s.modPmc (fun p => { p with safSlot := k })

/-- The decisions of the ROM once it runs: the floors' smaller copies come up, then the start record and the firmware decide.  In Minimal
Mode no slot is named to SAF, and SER keeps the state it has (R447). -/
def State.romDecide (s : State) (mramOk : Bool) : State :=
  let mm := fun (t : State) (r : Nat) => (t.nameSlot none).enterMinimal r
  if !mramOk then mm (s.modSec SecSt.levelArb) rsMramFail
  else
    let s1 := (s.modSec SecSt.levelArb).modPmc PmcSt.startSlot
    let p := s1.pmc
    if p.mmreq then mm s1 rsButton
    else if 3 ≤ p.failcnt then mm s1 rsFailedStarts
    else if s1.keysRevoked then mm s1 rsKeysRevoked
    else
      let s2 := s1.setF .SEC_STAT_LASTRES 0 s1.romResult
      match s1.chooseSlot with
      | none => mm s2 rsFwInvalid
      | some k =>
        let s3 := if k = p.slot then s2 else (s2.modPmc (fun q => { q with slot := k })).logEvent .slotSwitch
        if s3.serState = serBoot ∧ s3.serOk k = false then mm s3 rsSafInvalid
        else (s3.nameSlot (some k)).modPmc (fun q => { q with failcnt := q.failcnt + 1 })

/-- Every supply has been above 90 % of its nominal 1.8, 0.9, 1.2 and 1.8 V for 1 ms (R496). -/
def railsOk (x : RomStart) : Bool :=
  decide (1620 < x.vio) && decide (810 < x.vsd) && decide (1080 < x.vsdt) && decide (1620 < x.vana)

/-- BOOT_ROM_START: S1 is entered once PWRGD_CORE is asserted and the supplies are good (R435, R496); the ROM locks the PLLs (R452). -/
def execBootRomStart (x : RomStart) (s : State) : Out :=
  .next (if s.stage = 0 ∧ s.porHeld = false ∧ railsOk x = true ∧ s.bit .VREG_STAT_PGOOD 0 = true ∧ s.bit .THERM_STAT_SHUTLAT 0 = false ∧
      s.getF .PMC_STAGE_REASON 0 ≠ rsVcoreShort then
    ((((s.setF .PMC_STAGE_STAGE 0 1).setRole roleSingle).modPmc (fun p => { p with vio := true })).romTables).romDecide x.mramOk
  else s)

/-- FIRMWARE_START: S2, with the journal's replay to come. -/
def State.firmwareStart (s : State) : State :=
  let o := s.stationObj s.pmc.slot
  let s1 := ((s.setF .PMC_STAGE_STAGE 0 2).startReplay.setF .JNL_STAT_ENST 0 enstOn).modSec (fun c =>
    { c with runFw := objArb o, fwHash := objPhash o })
  { s1 with jnl := { s1.jnl with hcmdUsed := s1.jnl.hcmdPort }, pmc := { s1.pmc with s2At := s.tick } }

def execFirmwareStart (s : State) : Out := .next (if s.stage = 1 ∧ s.minimal = false ∧ s.coresRun = true then s.firmwareStart else s)

/-- STAGE_S3_ENTRY: firmware has requested the activation of some engine, and every engine of every activation that it requested has
completed one with DONE since (DEDUCED, log entry 44). -/
def execStageS3Entry (s : State) : Out :=
  .next (if s.stage = 2 ∧ s.coresRun = true ∧ s.pmc.actAny = true ∧ s.pmc.actDue = 0#24 ∧ s.actBusy = false then s.setF .PMC_STAGE_STAGE 0 3 else s)

/-- SER_FIRMWARE_START: SAF's ROM has verified the SER object of the slot named to it (R340, R473). -/
def execSerFirmwareStart (s : State) : Out :=
  .next (match s.pmc.safSlot with
    | some k =>
      if s.serState = serBoot ∧ s.sysRuns = true ∧ s.serOk k = true then
        (s.serStart (objVersion (s.serObj k))).modSec (fun c => { c with runSer := objArb (s.serObj k), serHash := objPhash (s.serObj k) })
      else s
    | none => s)

/-- START_OK: STARTOK seconds after the entry to S2 FAILCNT is cleared, the trial has succeeded, and the floors rise (R445, R475, R476). -/
def execStartOk (s : State) : Out :=
  .next (if 2 ≤ s.stage then
    ((s.passTo (s.pmc.s2At + s.startOk)).modPmc (fun p => { p with failcnt := 0, trial := false, trialBegun := false })).modSec (fun c =>
      { c with arbFw := c.arbFw.raise c.runFw, arbSer := c.arbSer.raise c.runSer })
  else s)

/-! Arming (R441, R442). -/

/-- The first condition of Table 17-3 that fails, 0 for none. -/
def State.armBlock (s : State) : Nat :=
  let lockWaived := (s.src == srcFree && s.bit .PMC_ARM_FREEOK 0) ||
    ((s.role == roleJoining || s.role == roleStandby) && s.bit .MIR_STAT_SYNCED 0)
  if s.stage ≠ 3 ∨ s.minimal = true then 1
  else if !s.bit .VREG_STAT_PGOOD 0 then 2
  else if s.bit .THERM_STAT_BLKREQ 0 then 3
  else if s.serState ≠ serPermit then 4
  else if s.mstate then 5
  else if s.unresolved then 6
  else if !(s.atuOn && s.fretOn && s.modOn) then 7
  else if !(s.bit .ATU_STAT_LOCKED 0 || lockWaived) then 8
  else 0

/-- ARM = 1 written. -/
def State.armDevice (s : State) : State :=
  let b := s.armBlock
  let s1 := s.setF .PMC_ARM_BLK 0 b
  if b ≠ 0 then s1.setF .PMC_ARM_ARMERR 0 1
  else (forIdx (n := 96) (fun n t => t.laneEnterS4 n) (s1.setF .PMC_STAGE_STAGE 0 4)).mirEnterS4

/-- ARM with the FREEOK of the same write. -/
def execArm (freeok : Bool) (s : State) : Out := .next (if s.coresRun then (s.setBit .PMC_ARM_FREEOK 0 freeok).armDevice else s)

/-- DISARM = 1 written. -/
def State.disarmDevice (s : State) : State :=
  if !s.inS4 then s
  else if s.mstate || s.serState != serPermit then s.setF .PMC_STAGE_STAGE 0 3
  else s.setF .PMC_ARM_DISERR 0 1

def execDisarm (s : State) : Out := .next (if s.coresRun then s.disarmDevice else s)

/-- A write of PMC_ARM: no single write both arms and disarms (R441). -/
def State.writeArm (s : State) (arm disarm freeok : Bool) : State :=
  let s1 := s.setBit .PMC_ARM_FREEOK 0 freeok
  let s2 := if arm then s1.armDevice else s1
  if disarm && s.inS4 then s2.disarmDevice else s2

/-! The reset button (R443, R444). -/

/-- BUTTON_PRESS, debounced. -/
def execButtonPress (s : State) : Out :=
  .next (if s.bit .PMC_BTN_PRESSED 0 || !s.aonRuns then s
  else (s.setF .PMC_BTN_PRESSED 0 1).modPmc (fun p =>
    { p with timing := s.bit .PMC_BTN_ARMED 0, pressAt := some s.tick }))

/-- One millisecond in FAB cycles. -/
def milli : Nat := 400000

/-- BUTTON_RELEASE, debounced, with the hold time in ms of the LF clock. -/
def State.buttonRelease (s : State) (ms : Nat) : State :=
  let s0 := s.passTo (s.pmc.pressAt.getD 0 + ms * milli)
  let s1 := (s0.setF .PMC_BTN_PRESSED 0 0).modPmc (fun p => { p with timing := false, pressAt := none, relAt := s0.tick })
  if s.pmc.timing then
    let s2 := s1.setF .PMC_BTN_HOLDMS 0 (min 20001 ms)
    if ms < 5000 then s2.warmReset .PMC_RSTCAUSE_BUTTON
    else if ms ≤ 20000 then s2.modPmc (fun p => { p with mmreq := true })
    else s2
  else s1

def execButtonRelease (ms : Nat) (s : State) : Out := .next (if s.bit .PMC_BTN_PRESSED 0 && s.aonRuns then s.buttonRelease ms else s)

/-- BUTTON_STUCK: a press reaches 20,001 ms. -/
def State.buttonStuck (s : State) : State :=
  ((((s.setWhen s.pmc.timing .PMC_BTN_HOLDMS 0 20001).setF .PMC_BTN_STUCK 0 1).setF .PMC_BTN_ARMED 0 0).modPmc (fun p =>
    { p with timing := false, pressAt := none })).logEvent .stuckButton

def execButtonStuck (s : State) : Out :=
  .next (match s.pmc.pressAt with
    | some t => if s.bit .PMC_BTN_PRESSED 0 && s.aonRuns then (s.passTo (t + 20001 * milli)).buttonStuck else s
    | none => s)

/-- BUTTON_REARM: released for 1,000 ms. -/
def execButtonRearm (s : State) : Out :=
  .next (if s.bit .PMC_BTN_PRESSED 0 || !s.aonRuns then s else (s.passTo (s.pmc.relAt + 1000 * milli)).setF .PMC_BTN_ARMED 0 1)

end Sys2Proof.Machine
end

