-- ==== Sys2Proof/Machine/Journal.lean ====
section
/-! DEFINITION. The command journal: entries, sessions, locks, the checks of a sequenced request, acceptance, the command ring,
execution and replay (R386 to R409, R426). -/
namespace Sys2Proof.Machine

/-! Codes (Table 15-2), statuses (Table 15-3) and results (Table 15-4). -/

def cdClose : Nat := 0x200
def cdLockTake : Nat := 0x201
def cdLockRelease : Nat := 0x202
def cdConv : Nat := 0x300
def cdMute : Nat := 0x301
def cdParam : Nat := 0x400
def cdImgStage : Nat := 0x401
def cdImgAct : Nat := 0x402
def cdSerParam : Nat := 0x500
def cdSerConfirm : Nat := 0x501
def cdSerRestart : Nat := 0x502
def cdSerTest : Nat := 0x503
def cdFwStage : Nat := 0x600
def cdFwAct : Nat := 0x601
def cdLease : Nat := 0x0F00

def stOk : Nat := 0
def stAlready : Nat := 1
def stBadFormat : Nat := 0x10
def stNoSession : Nat := 0x11
def stNeedSeq : Nat := 0x12
def stSeqConflict : Nat := 0x13
def stBusy : Nat := 0x14
def stDenied : Nat := 0x20
def stNotHolder : Nat := 0x21
def stStage : Nat := 0x22
def stMissing : Nat := 0x23
def stJnlFull : Nat := 0x24
def stSessFull : Nat := 0x25
def stBringup : Nat := 0x30
def stMinimal : Nat := 0x31

def rsOk : Nat := 0
def rsFail : Nat := 1
def rsRefused : Nat := 2
def rsInterrupted : Nat := 3
def rsDataLost : Nat := 4
def rsPending : Nat := 0xFF

def State.modJnl (s : State) (f : JnlSt → JnlSt) : State := { s with jnl := f s.jnl }

/-- The key of a session. -/
def State.keyOf (s : State) (id : Nat) : Option (List Byte) := (s.jnl.sessions.find? (fun x => x.id == id)).bind Sess.key

/-- The header of a reply or notice and its body (Table 15-1). -/
def Reply.bytes (r : Reply) : List Byte :=
  leBytes 2 0x4147 ++ leBytes 1 1 ++ leBytes 1 (if r.notice then 3 else 2) ++ leBytes 2 r.session ++ leBytes 2 r.code ++ leBytes 4 r.seq ++
  leBytes 2 r.body.length ++ leBytes 2 (b2n r.dup + 2 * b2n r.solo) ++ leBytes 1 r.status ++ leBytes 1 r.result ++ leBytes 2 0 ++
  leBytes 8 r.jidx ++ leBytes 4 r.peer.reqid.toNat ++ r.body

/-- What the device sends joins the observation of this command, with its tag under a key (R388). -/
def State.sendAs (s : State) (key : Option (List Byte)) (r : Reply) : State :=
  s.modJnl (fun j => { j with replies := j.replies ++ [{ r with both := s.joined r.peer.port, tag := key.map (fun k => Config.kmacTag k (r.bytes ++ asciiBytes "AG96RSP")) }] })

/-- The same under the key of the message's session. -/
def State.send (s : State) (r : Reply) : State := s.sendAs (s.keyOf r.session) r
/-- A command that may send begins a new observation. -/
def State.noReplies (s : State) : State := s.modJnl (fun j => { j with replies := [] })

/-! Entries (Table 15-7). -/

def jnlDepth : Nat := 65536
def entryAddr (j : Nat) : Nat := mram + j % jnlDepth * 256

def stAccepted : Nat := 0
def stStarted : Nat := 1
def stDelivered : Nat := 2
def stDone : Nat := 3

def State.entField (s : State) (j o k : Nat) : Nat := s.bytes (entryAddr j + o) k
def State.entSession (s : State) (j : Nat) : Nat := s.entField j 0x08 2
def State.entCode (s : State) (j : Nat) : Nat := s.entField j 0x0A 2
def State.entSeq (s : State) (j : Nat) : Nat := s.entField j 0x0C 4
def State.entBody (s : State) (j : Nat) : List Byte := s.readList (entryAddr j + 0x20) (min 188 (s.entField j 0x18 2))
def State.entState (s : State) (j : Nat) : Nat := s.entField j 0xE0 1
def State.entResult (s : State) (j : Nat) : Nat := s.entField j 0xE1 1
def State.entRdata (s : State) (j : Nat) : List Byte := s.readList (entryAddr j + 0xE4) 24

/-- The two check words hold. -/
def State.headOk (s : State) (j : Nat) : Bool := crc32c (s.readList (entryAddr j) 0xDC) == s.entField j 0xDC 4
def State.statusOk (s : State) (j : Nat) : Bool := crc32c (s.readList (entryAddr j + 0xE0) 0x1C) == s.entField j 0xFC 4

/-- The entry's STATE, RESULT and RDATA with their check word. -/
def State.setEntry (s : State) (j st result : Nat) (rdata : List Byte) : State :=
  let b := leBytes 1 st ++ leBytes 1 result ++ leBytes 2 0 ++ (rdata ++ List.replicate 24 0#8).take 24
  s.setList (entryAddr j + 0xE0) (b ++ leBytes 4 (crc32c b))

/-- The 256 bytes of entry `j`. -/
def State.entBytes (s : State) (j : Nat) : List Byte := s.readList (entryAddr j) 256

/-- A new entry at index `j`, ACCEPTED. -/
def State.writeEntry (s : State) (j : Nat) (r : SReq) (solo : Bool) : State :=
  let h := leBytes 8 j ++ leBytes 2 r.session ++ leBytes 2 r.code ++ leBytes 4 r.seq ++ leBytes 4 s.compact ++ leBytes 4 s.fretnum ++
    leBytes 2 r.body.length ++ leBytes 2 (b2n solo + 2 * b2n r.notify) ++ leBytes 4 0 ++ (r.body ++ List.replicate 188 0#8).take 188
  (s.setList (entryAddr j) (h ++ leBytes 4 (crc32c h))).setEntry j stAccepted rsPending []

/-- The registers of Table 15-10 that follow the journal. -/
def State.jnlSync (s : State) : State :=
  let j := s.jnl
  (((((s.setF .JNL_HEADLO_HEAD 0 j.head).setF .JNL_HEADHI_HEAD 0 (j.head / 2 ^ 32)).setF .JNL_DONELO_DONE 0 j.done).setF .JNL_DONEHI_DONE 0
    (j.done / 2 ^ 32)).setF .JNL_USED_USED 0 (j.head - j.reclaim)).setF .JNL_STAT_SESSIONS 0 j.sessions.length

/-- The oldest entry not DONE. -/
def State.doneFrom (s : State) : Nat → Nat → Nat
  | 0, j => j
  | k + 1, j => if s.entState j = stDone then s.doneFrom k (j + 1) else j

def State.advanceDone (s : State) : State :=
  (s.modJnl (fun j => { j with done := s.doneFrom (j.head - j.done) j.done })).jnlSync

/-- The completion notice of an entry whose request carried NOTIFY (R404). -/
def State.noticeAs (s : State) (key : Option (List Byte)) (j : Nat) : State :=
  match s.jnl.notify.find? (fun e => e.1 == j) with
  | none => s
  | some (_, p) =>
    (s.sendAs key { peer := p, notice := true, session := s.entSession j, code := s.entCode j, seq := s.entSeq j,
                    result := s.entResult j, jidx := j, body := s.entRdata j }).modJnl (fun x => { x with notify := x.notify.filter (fun e => e.1 != j) })

def State.notice (s : State) (j : Nat) : State := s.noticeAs (s.keyOf (s.entSession j)) j

/-- An entry becomes DONE. -/
def State.finish (s : State) (j result : Nat) (rdata : List Byte) : State :=
  (((s.setEntry j stDone result rdata).modJnl (fun x => { x with running := none, credVal := x.credVal.filter (fun e => e.1 != j) })).advanceDone).notice j

/-- The index the next request gets. -/
def JnlSt.next (j : JnlSt) : Nat := j.head + j.waiting.length

/-- The newest entry of a session and number that is still in the journal, among the `k` below `hi`. -/
def State.findEntry (s : State) (session seq : Nat) : Nat → Nat → Option Nat
  | 0, _ => none
  | k + 1, hi => if s.entSession (hi - 1) = session ∧ s.entSeq (hi - 1) = seq then some (hi - 1) else s.findEntry session seq k (hi - 1)

/-- The entries that wait for their commit have taken the places of the oldest. -/
def State.entryOf (s : State) (session seq : Nat) : Option Nat :=
  s.findEntry session seq (min s.jnl.head (jnlDepth - s.jnl.waiting.length)) s.jnl.head

/-- The entry is still in the journal. -/
def State.entryHeld (s : State) (j : Nat) : Bool := decide (j < s.jnl.head ∧ s.jnl.next ≤ j + jnlDepth)

/-! Credentials, sessions and locks (R389, R390, R406, R407). -/

/-- Profile mask and key of a credential. -/
def State.cred (s : State) (n : Nat) : Option (Byte × List Byte) :=
  if n = 0 ∧ s.jnl.cred0 = true then some (Config.cred0Mask, Config.cred0Key)
  else (s.jnl.creds.find? (fun c => c.1 == n)).map Prod.snd

def State.sess (s : State) (id : Nat) : Option Sess := s.jnl.sessions.find? (fun x => x.id == id)
def State.modSess (s : State) (id : Nat) (f : Sess → Sess) : State :=
  s.modJnl (fun j => { j with sessions := j.sessions.map (fun x => if x.id = id then f x else x) })

/-- The session's profile has bit `b`. -/
def State.profile (s : State) (id b : Nat) : Bool :=
  match s.sess id with
  | some x => match s.cred x.cred with
    | some (m, _) => m.getLsbD b
    | none => false
  | none => false

def State.lockHolder (s : State) (k : Nat) : Option Nat := (s.jnl.locks.toList.getD k {}).holder
def State.setLock (s : State) (k : Nat) (l : SLock) : State :=
  s.modJnl (fun j => { j with locks := j.locks.mapFinIdx (fun i x _ => if i = k then l else x) })

/-- The FAB cycle in which a lease that is renewed now ends (R407). -/
def State.leaseEnd (s : State) : Nat := s.tick + s.jnl.lease * second

/-- A request with a valid tag renews the leases of its session and puts off its idle end (R390, R407). -/
def State.renew (s : State) (id : Nat) : State :=
  (s.modSess id (fun x => { x with seen := s.tick })).modJnl (fun j =>
    { j with locks := j.locks.map (fun l => if l.holder = some id then { l with due := s.leaseEnd } else l) })

/-- LOCK_TAKE: the new lock, with its lease, and the code of Table 4-8. -/
def SLock.take (l : SLock) (id due : Nat) : SLock × Nat :=
  match l.holder with
  | some h => (l, if h = id then 3 else 2)
  | none => ({ l with holder := some id, due := due }, if l.broken then 1 else 0)

/-- LOCK_RELEASE with KEEPBROKEN. -/
def SLock.release (l : SLock) (id : Nat) (keep : Bool) : SLock × Nat :=
  if l.holder = some id then ({ broken := keep }, 0) else (l, 4)

/-- Every lock of a session becomes not held, BROKEN or not. -/
def State.dropLocks (s : State) (id : Nat) (broken : Bool) : State :=
  s.modJnl (fun j => { j with locks := j.locks.map (fun l => if l.holder = some id then { broken := broken } else l) })

/-- The session of a queued request. -/
def Queued.session : Queued → Nat
  | .seq r => r.session
  | .unseq r _ => r.session.toNat
  | .bad _ id _ _ => id

/-- A session ends: its record is deleted, and nothing of it is known any more. -/
def State.endSession (s : State) (id : Nat) (broken : Bool) : State :=
  ((s.dropLocks id broken).modJnl (fun j =>
    { j with sessions := j.sessions.filter (fun x => x.id != id), queue := j.queue.filter (fun q => q.session != id) })).jnlSync

/-! Session records on the mirror link (R390, R426, R431), which go as JNL frames whose JIDX is all ones, in a layout of the model's (DESIGN
CHOICE, log entry 51). -/

/-- The mirror link takes journal frames: an ACTIVE device whose mirror is UP. -/
def State.mirrors (s : State) : Bool := s.role == roleActive && s.mirUp

/-- A byte with bit `k` for each lock. -/
def State.lockMask (s : State) (p : SLock → Bool) : Nat := ((s.jnl.locks.toList.zipIdx).map (fun x => if p x.1 then 2 ^ x.2 else 0)).sum

/-- The record: session, credential, whether it lives, L, the locks that it holds, and the locks that are BROKEN. -/
def State.sessFrame (s : State) (id : Nat) : List Byte :=
  let x := (s.sess id).getD { id := id, cred := 0 }
  leBytes 8 (2 ^ 64 - 1) ++ leBytes 2 id ++ leBytes 1 x.cred ++ leBytes 1 (b2n (s.sess id).isSome) ++ leBytes 4 x.last ++
    leBytes 1 (s.lockMask (fun l => l.holder == some id)) ++ leBytes 1 (s.lockMask SLock.broken) ++ List.replicate 238 0#8

def State.mirrorSess (s : State) (id : Nat) : State := if s.mirrors then s.queueMir (.jnl (s.sessFrame id)) else s

/-- A record arrives: its session lives on as the twin has it, or is deleted; leases begin again at a replay. -/
def State.takeSess (s : State) (e : List Byte) : State :=
  let id := leNat ((e.drop 8).take 2)
  let held := leNat ((e.drop 16).take 1)
  let broken := leNat ((e.drop 17).take 1)
  let s1 := if leNat ((e.drop 11).take 1) = 0 then s.endSession id false
    else
      let x := { (s.sess id).getD { id := id, cred := 0, seen := s.tick } with cred := leNat ((e.drop 10).take 1), last := leNat ((e.drop 12).take 4) }
      s.modJnl (fun j => { j with sessions := j.sessions.filter (fun y => y.id != id) ++ [x] })
  let lock := fun (k : Nat) (l : SLock) =>
    if held.testBit k then { holder := some id, due := s.leaseEnd, broken := broken.testBit k }
    else if l.holder = some id then { broken := broken.testBit k }
    else { l with broken := broken.testBit k }
  (s1.modJnl (fun j => { j with locks := j.locks.mapFinIdx (fun k l _ => lock k l) })).jnlSync

/-- The effect of an entry that the journal writer executes, and RDATA (CLOSE, LOCK_TAKE, LOCK_RELEASE, LEASE_EXPIRE). -/
def State.writerEffect (s : State) (session code : Nat) (body : List Byte) : State × List Byte :=
  let k := leNat (body.take 1)
  let l := s.jnl.locks.toList.getD k {}
  if code = cdClose then (s.endSession session false, [])
  else if code = cdLockTake then ((s.setLock k (l.take session s.leaseEnd).1), leBytes 1 (l.take session s.leaseEnd).2)
  else if code = cdLockRelease then
    let r := l.release session (leNat ((body.drop 1).take 1) == 1)
    (s.setLock k r.1, leBytes 1 r.2)
  else if code = cdLease then (if l.holder = some (leNat ((body.drop 1).take 2)) then s.setLock k { broken := true } else s, [])
  else (s, [])

/-- How much of RDATA the reply of acceptance carries: the code of LOCK_TAKE and LOCK_RELEASE. -/
def replyLen (code : Nat) : Nat := if code = cdLockTake ∨ code = cdLockRelease then 1 else 0

def writerCode (code : Nat) : Bool := code == cdClose || code == cdLockTake || code == cdLockRelease

/-! Authentication (R388, R394). -/

/-- The header of a request and its body; fields that are ignored stand as they came (Table 15-1). -/
def reqBytes (session code seq reqid : Nat) (notify : Bool) (rsv : ReqRsv) (body : List Byte) : List Byte :=
  leBytes 2 0x4147 ++ leBytes 1 1 ++ leBytes 1 1 ++ leBytes 2 session ++ leBytes 2 code ++ leBytes 4 seq ++ leBytes 2 body.length ++
  leBytes 2 (b2n notify + 2 * rsv.flags.toNat) ++ leBytes 12 rsv.head.toNat ++ leBytes 4 reqid ++ body

/-- The tag of a request is valid under a key. -/
def tagOk (key : Option (List Byte)) (msg : List Byte) (tag : BitVec 128) : Bool :=
  match key with
  | some k => Config.kmacTag k (msg ++ asciiBytes "AG96CMD") == tag
  | none => false

/-- Authenticates a sessioned request: none where it is discarded, else the state in which a pending key has become the session's and the
leases are renewed. -/
def State.authenticate (s : State) (r : Req) (code : Nat) (body : List Byte) : Option State :=
  let id := r.session.toNat
  let msg := reqBytes id code r.seq.toNat r.peer.reqid.toNat r.notify r.rsv body
  match s.sess id with
  | none => none
  | some x =>
    if tagOk x.key msg r.tag then some (s.renew id)
    else if tagOk x.newKey msg r.tag then some ((s.modSess id (fun y => { y with key := y.newKey, newKey := none })).renew id)
    else none

/-- The device answers at all: a stage above S0, supervisory cores that run (R26), a port that is UP, and a whole datagram, no IP
fragment, sent to HCMD_PORT as the last start of the station firmware took it (R386; the ROM keeps to it, log entry 50). -/
def State.answers (s : State) (p : Peer) : Bool :=
  decide (1 ≤ s.stage) && s.coresRun && s.hpUp p.port && p.dport == s.jnl.hcmdUsed && !p.frag

/-- The status with which a sessioned request is turned away in Minimal Mode, in S1 and during the replay. -/
def State.bringup (s : State) : Option Nat :=
  if s.minimal then some stMinimal
  else if s.stage = 1 ∨ s.bit .JNL_STAT_REPLAYING 0 = true then some stBringup
  else none

/-- The common front of a sessioned request: no answer, an answer without authentication, a discard, or the request goes on. -/
def State.sessioned (s : State) (r : Req) (code : Nat) (body : List Byte) (go : State → State) : State :=
  let s0 := s.noReplies
  if !s.answers r.peer then s0
  else match s.bringup with
    | some st => s0.send { peer := r.peer, session := r.session.toNat, code := code, seq := r.seq.toNat, status := st }
    | none =>
      match s0.authenticate r code body with
      | none => s0.countF .JNL_CNT0_BADTAG 0 1
      | some s1 => go s1

/-- A reply to a class U request. -/
def State.replyU (s : State) (r : Req) (code status : Nat) (body : List Byte) : State :=
  s.send { peer := r.peer, session := r.session.toNat, code := code, seq := r.seq.toNat, status := status, body := body }

/-! The checks of a sequenced request (R391, R392, R394 to R396). -/

/-- The sizes of the named parameters (Table 15-11). -/
def paramSize (pid : Nat) : Option Nat :=
  if pid = 1 then some 2 else if pid = 2 then some 4 else if pid = 3 then some 2 else if pid = 0x10 then some 1 else if pid = 0x20 then some 1
  else if pid = 0x30 ∨ pid = 0x31 then some 32 else if 0x100 ≤ pid ∧ pid < 0x110 then some 33 else none

/-- The profile bit that a parameter names besides CONFIGURE. -/
def paramProfile (pid : Nat) : Option Nat :=
  if pid = 2 ∨ pid = 3 then none else if pid = 0x10 then some 1 else some 4

/-- The body has its format. -/
def bodyOk (code : Nat) (b : List Byte) : Bool :=
  let n := b.length
  if code = cdClose ∨ code = cdMute ∨ code = cdSerRestart ∨ code = cdSerTest ∨ code = cdFwAct then n == 0
  else if code = cdLockTake then n == 1 && decide (leNat b < 5)
  else if code = cdLockRelease then n == 2 && decide (leNat (b.take 1) < 5) && decide (leNat (b.drop 1) < 2)
  else if code = cdConv then decide (n ≤ 188)
  else if code = cdParam then
    decide (4 ≤ n ∧ n ≤ 188) && leNat ((b.drop 2).take 2) == n - 4 && paramSize (leNat (b.take 2)) == some (n - 4)
  else if code = cdImgStage ∨ code = cdSerConfirm then n == 4
  else if code = cdImgAct then n == 9
  else if code = cdSerParam then n == 64
  else if code = cdFwStage then n == 8
  else false

/-- The stages of Table 15-2. -/
def State.stageOk (s : State) (code : Nat) : Bool :=
  if code = cdConv ∨ code = cdImgAct then decide (3 ≤ s.stage) else decide (2 ≤ s.stage)

/-- The profile bits of Table 15-2 and Table 15-11. -/
def State.profileOk (s : State) (id code : Nat) (b : List Byte) : Bool :=
  if writerCode code then true
  else if code = cdConv ∨ code = cdMute then s.profile id 1
  else if code = cdParam then
    s.profile id 2 && (match paramProfile (leNat (b.take 2)) with | some k => s.profile id k | none => true)
  else if code = cdImgStage ∨ code = cdImgAct then s.profile id 2
  else if code = cdFwStage ∨ code = cdFwAct then s.profile id 4
  else s.profile id 3

/-- The lock of Table 15-2. -/
def lockOf (code : Nat) : Option Nat :=
  if code = cdConv then some 0 else if code = cdParam then some 1
  else if code = cdImgStage ∨ code = cdImgAct then some 2
  else if code = cdSerParam ∨ code = cdSerConfirm ∨ code = cdSerRestart ∨ code = cdSerTest then some 3
  else if code = cdFwStage ∨ code = cdFwAct then some 4 else none

/-- The command addresses an absent unit: an engine in the MASK of IMAGE_ACTIVATE (R7). -/
def State.unitBad (s : State) (code : Nat) (b : List Byte) : Bool :=
  code == cdImgAct && (List.range 24).any (fun n => (leNat (b.take 4)).testBit n && !s.engOk n)

/-- A LEASE_EXPIRE entry for lock `k` waits behind earlier requests: what is evaluated after it finds the lock not held (R407). -/
def JnlSt.expiring (j : JnlSt) (k : Nat) : Bool := j.waiting.any (fun w => w.req.code == cdLease && leNat (w.req.body.take 1) == k)

/-- The lock is held by the session, or whom NOT_HOLDER names. -/
def State.lockBad (s : State) (id : Nat) (k : Option Nat) : Option Nat :=
  match k with
  | none => none
  | some k =>
    let h := if s.jnl.expiring k then none else s.lockHolder k
    if h = some id then none else some (h.getD 0)

/-- A reply of class S. -/
def State.replyS (s : State) (r : SReq) (status : Nat) (body : List Byte) : State :=
  s.send { peer := r.peer, session := r.session, code := r.code, seq := r.seq, status := status, body := body }

/-- The completion notice goes to the source of the last copy, where any copy carried NOTIFY and the entry is not DONE yet (R404). -/
def State.noteCopy (s : State) (j : Nat) (r : SReq) : State :=
  if s.entState j != stDone && (r.notify || s.jnl.notify.any (fun e => e.1 == j)) then
    s.modJnl (fun x => { x with notify := (j, r.peer) :: x.notify.filter (fun e => e.1 != j) })
  else s

/-- The answer to a duplicate (R396): the original reply again where code and body match. -/
def State.duplicate (s : State) (r : SReq) : State :=
  let s0 := s.countF .JNL_CNT1_DUP 0 1
  match s.entryOf r.session r.seq with
  | none => s0.replyS r stAlready []
  | some j =>
    if s.entCode j = r.code ∧ s.entBody j = r.body then
      (s0.noteCopy j r).send { peer := r.peer, session := r.session, code := r.code, seq := r.seq, dup := true, status := stOk,
                               solo := s.entField j 0x1A 2 % 2 == 1, result := s.entResult j, jidx := j,
                               body := (s.entRdata j).take (replyLen r.code) }
    else s0.replyS r stSeqConflict []

/-- An entry takes the next place of the journal, is written there and sent to the twin (R426), and waits for its commit; what acceptance
tells is written again then (log entry 51). -/
def State.journal (s : State) (r : SReq) (acked : Bool) : State :=
  let k := s.jnl.next
  let t := (s.writeEntry k r (s.bit .JNL_STAT_SOLO 0)).modJnl (fun j => { j with waiting := j.waiting ++ [{ jidx := k, req := r, acked := acked, since := s.tick }] })
  if s.mirrors then t.queueMir (.jnl (t.entBytes k)) else t

/-- Evaluates one request in the serial order; what passes waits for its commit. -/
def State.evaluate (s : State) (r : SReq) : State :=
  let l := ((s.sess r.session).getD { id := 0, cred := 0 }).last
  let d := (BitVec.ofNat 32 (r.seq + 2 ^ 32 - l)).toInt
  if !bodyOk r.code r.body then s.replyS r stBadFormat []
  else if 2 ≤ d then (s.countF .JNL_CNT0_NEEDSEQ 0 1).replyS r stNeedSeq (leBytes 4 (l + 1))
  else if d ≤ 0 then s.duplicate r
  else if !s.stageOk r.code then s.replyS r stStage []
  else if !s.profileOk r.session r.code r.body then s.replyS r stDenied []
  else if s.unitBad r.code r.body then s.replyS r stMissing []
  else match s.lockBad r.session (lockOf r.code) with
    | some h => s.replyS r stNotHolder (leBytes 2 h)
    | none =>
      if s.getF .JNL_STAT_ENST 0 ≠ enstOn then s.replyS r stBusy []
      else if jnlDepth ≤ s.jnl.next - s.jnl.reclaim then (s.countF .JNL_CNT1_FULL 0 1).replyS r stJnlFull []
      else s.journal r false

/-- The session has a request waiting for its commit. -/
def JnlSt.busy (j : JnlSt) (id : Nat) : Bool := j.waiting.any (fun w => w.req.session == id)

/-! Acceptance (R397 to R399). -/

/-- The commit needs the twin. -/
def State.needsTwin (s : State) : Bool := s.role == roleActive && !s.bit .JNL_STAT_SOLO 0

/-- The value of a CRED_n, its mask and the key unwrapped under the session's key, which is at hand at the acceptance and durable from then
on (R392, R480; DESIGN CHOICE, log entry 42). -/
def State.keepCred (s : State) (j session : Nat) (code : Nat) (b : List Byte) : State :=
  let pid := leNat (b.take 2)
  let v := b.drop 4
  if code = cdParam ∧ 0x100 ≤ pid then
    match s.keyOf session with
    | some sk =>
      let wrap := Config.kmacKey sk (leBytes 8 j ++ leBytes 1 (pid - 0x100) ++ asciiBytes "AG96WRAP")
      s.modJnl (fun x => { x with credVal := (j, v.take 1 ++ (v.drop 1).zipWith (fun a k => a ^^^ k) wrap) :: x.credVal })
    | none => s
  else s

/-- The oldest waiting request is ACCEPTED: its entry, L, the writer's effect and the reply. -/
def State.accept (s : State) (w : Waiting) : State :=
  let r := w.req
  let solo := s.bit .JNL_STAT_SOLO 0
  let s1 := (s.writeEntry w.jidx r solo).modJnl (fun j => { j with
    head := w.jidx + 1, waiting := j.waiting.tail,
    notify := if r.notify then (w.jidx, r.peer) :: j.notify else j.notify })
  let s2 := (s1.modSess r.session (fun x => { x with last := r.seq })).keepCred w.jidx r.session r.code r.body
  let e := s2.writerEffect r.session r.code r.body
  let s3 := if writerCode r.code then e.1.setEntry w.jidx stDone rsOk e.2 else s2
  let s4 := s3.advanceDone
  let key := s.keyOf r.session
  let s5 := s4.sendAs key { peer := r.peer, session := r.session, code := r.code, seq := r.seq, solo := solo, status := stOk,
                            result := s4.entResult w.jidx, jidx := w.jidx, body := e.2.take (replyLen r.code) }
  (if writerCode r.code then s5.noticeAs key w.jidx else s5).jnlSync

/-- A LEASE_EXPIRE entry is recorded, DONE at once: it needs no report of the twin. -/
def State.recordLease (s : State) (w : Waiting) : State :=
  let s1 := (s.writeEntry w.jidx w.req (s.bit .JNL_STAT_SOLO 0)).setEntry w.jidx stDone rsOk []
  let s2 := s1.modJnl (fun j => { j with head := w.jidx + 1, waiting := j.waiting.tail })
  ((s2.writerEffect 0 cdLease w.req.body).1).advanceDone

/-- The LEASE_EXPIRE entries that no earlier request holds back. -/
def State.recordLeases (s : State) : Nat → State
  | 0 => s
  | k + 1 =>
    match s.jnl.waiting with
    | w :: _ => if w.req.code = cdLease then (s.recordLease w).recordLeases k else s
    | [] => s

/-- MIRROR_COMMIT_TIMEOUT: 100 µs, 40,000 FAB cycles, without the twin's report: SOLO, where the fence has passed, or later at the fence
(R399, R426). -/
def execMirrorCommitTimeout (s : State) : Out :=
  .next (match s.jnl.waiting.find? (fun w => !w.acked) with
    | some w => if s.sysRuns && s.needsTwin then ((s.passTo (w.since + 40000)).modTwin (fun t => { t with soloDue := true })).soloStep else s
    | none => s)

/-- JACK_RECEIVED. -/
def execJackReceived (j : BitVec 64) (s : State) : Out :=
  .next (if s.hears && s.role == roleActive then
    s.mirFrame.modJnl (fun x => { x with waiting := x.waiting.map (fun w => if w.jidx = j.toNat then { w with acked := true } else w) })
  else s)

/-! The command ring (R400 to R402). -/

def ringBase : Nat := 0x10700000

/-- Delivers entry `j`. -/
def State.deliver (s : State) (j : Nat) (re : Bool) : State :=
  let s1 := (s.setEntry j stDelivered rsPending []).ssmCount none (ringBase + 0xC) 4
  let slot := s1.readList (entryAddr j) 0xE0 ++ leBytes 4 (b2n re) ++ s.ssmBytes (ringBase + 0xC) 4 ++ List.replicate 24 0#8
  let s2 := (s1.putList (ringBase + 0x100 + 256 * (j % 256)) slot).putList ringBase (leBytes 8 (j + 1))
  let s3 := if re then s2.putList (ringBase + 0x10) (leBytes 4 j) else s2
  s3.modJnl (fun x => { x with widx := j + 1, redlv := max x.redlv (j + 1) })

/-- A CONV_CMD entry that stands in the ring: one that a replay found delivered is delivered again first (R403). -/
def State.inRing (s : State) (j : Nat) : Bool :=
  s.entCode j == cdConv && s.entState j == stDelivered && (decide (s.jnl.rerunTo ≤ j) || decide (j < s.jnl.redlv))

/-- The next entry to deliver: every entry before it is DONE or a delivered CONV_CMD (R400). -/
def State.nextConv (s : State) : Nat → Nat → Option Nat
  | 0, _ => none
  | k + 1, j =>
    if s.entState j = stDone ∨ s.inRing j = true then s.nextConv k (j + 1)
    else if s.entCode j = cdConv then some j
    else none

/-- Entries below this are consumed or DONE. -/
def JnlSt.consumed (j : JnlSt) : Nat := max (max j.mark (j.cons.getD 0)) j.done

def State.convDelivery (s : State) : State :=
  match s.nextConv (s.jnl.head - s.jnl.done) s.jnl.done with
  | some j => if j < s.jnl.consumed + 256 then s.deliver j (s.entState j == stDelivered) else s
  | none => s

/-! The end of a replay (R403). -/

/-- Among the `k` entries from `j` on, those of the replay have been completed: DONE, or a CONV_CMD that has been delivered. -/
def State.replayed (s : State) : Nat → Nat → Bool
  | 0, _ => true
  | k + 1, j => (decide (s.jnl.rerunTo ≤ j) || s.entState j == stDone || s.inRing j) && s.replayed k (j + 1)

/-- Every held lease at its full length (step 5). -/
def State.restartLeases (s : State) : State :=
  let due := s.leaseEnd
  s.modJnl (fun j => { j with locks := j.locks.map (fun l => if l.holder.isSome then { l with due := due } else l) })

/-- The replay ends once it has read the entries and completed each. -/
def State.replayCheck (s : State) : State :=
  if s.bit .JNL_STAT_REPLAYING 0 && s.jnl.scanned && s.replayed (s.jnl.head - s.jnl.done) s.jnl.done then
    (s.setF .JNL_STAT_REPLAYING 0 0).restartLeases
  else s

/-- Entries may execute: from S2 on, outside a replay or once it has read the journal. -/
def State.mayExecute (s : State) : Bool := decide (2 ≤ s.stage) && (!s.bit .JNL_STAT_REPLAYING 0 || s.jnl.scanned)

/-- CONV_CMD_DELIVERY: a device that does not command delivers nothing (R412). -/
def execConvCmdDelivery (s : State) : Out :=
  .next (if s.sysRuns && s.commanding && s.mayExecute then s.convDelivery.replayCheck else s)

/-- A write of CONSLO: its index extended against WIDX (R402); one that was never delivered sets CONSERR. -/
def State.consNote (s : State) (v : Word) : State :=
  if !s.commanding then s
  else
    let w := s.jnl.widx
    let d := (w + 2 ^ 32 - 1 - v.toNat) % 2 ^ 32
    if w = 0 ∨ 256 ≤ d ∨ w - 1 < d then s.setF .JNL_STAT_CONSERR 0 1
    else
      let c := w - d
      if c ≤ max s.jnl.mark (s.jnl.cons.getD 0) then s else s.modJnl (fun j => { j with cons := some c, consFret := s.fretnum })

/-- CONSLO_WRITE by engine `n`. -/
def execConsloWrite (n : Fin 24) (v : Word) (s : State) : Out :=
  .next (if s.engOk n && s.commanding then ((s.setWord (ringBase + 8) v).freshWord (ringBase + 8)).consNote v else s)

/-- The CONV_CMD entries of the journal below `m` become DONE (R400, R402). -/
def State.markDone (s : State) (m : Nat) : Nat → Nat → State
  | 0, _ => s
  | k + 1, j =>
    if j < m ∧ s.entCode j = cdConv ∧ s.entState j ≠ stDone then ((s.setEntry j stDone rsOk []).notice j).markDone m k (j + 1)
    else s.markDone m k (j + 1)

def State.takeMark (s : State) (m : Nat) : State :=
  ((s.modJnl (fun j => { j with mark := max j.mark m, cons := none })).markDone m (min m s.jnl.head - s.jnl.done) s.jnl.done).advanceDone

/-- CONSUMED_MARK_DURABLE: after a fret boundary (R402); a MARK frame carries the mark to the twin (R426). -/
def execConsumedMarkDurable (s : State) : Out :=
  .next (match s.jnl.cons with
    | some m =>
      if s.sysRuns && s.fretnum != s.jnl.consFret then
        let t := (s.noReplies.takeMark m).replayCheck
        if s.mirrors then t.queueMir (.mark t.jnl.mark t.jnl.done) else t
      else s
    | none => s)

/-! Mirrored entries (R426). -/

/-- JNL_FRAME_RECEIVED: one entry of Table 15-7 is written, its session's L follows, and it is answered with JACK; or a session record. -/
def State.jnlFrame (s : State) (e : List Byte) : State :=
  let j := leNat (e.take 8)
  if j = 2 ^ 64 - 1 then s.takeSess e
  else
    let s1 := (s.setList (entryAddr j) e).modJnl (fun x => { x with head := max x.head (j + 1) })
    let s2 := s1.modSess (s1.entSession j) (fun x => { x with last := s1.entSeq j })
    (((s2.writerEffect (s2.entSession j) (s2.entCode j) (s2.entBody j)).1).advanceDone).queueMir (.jack j)

/-- The frames of a journal copy: the session records, the entries that are not reclaimable, and the end of the copy (R431). -/
def State.copyFrames (s : State) : List MirFrame :=
  s.jnl.sessions.map (fun x => .jnl (s.sessFrame x.id)) ++
  (List.range (s.jnl.head - s.jnl.reclaim)).map (fun k => .jnl (s.entBytes (s.jnl.reclaim + k))) ++ [.copyDone]

/-- JOURNAL_COPY: the ACTIVE device sends its journal entries and session records to a joining twin, as frames that its mirror link takes (R431). -/
def execJournalCopy (s : State) : Out :=
  .next (if s.role = roleActive ∧ s.mirUp = true ∧ s.mirRuns = true ∧ s.getF .MIR_PEER0_ROLE 0 = roleJoining ∧ s.twin.sideEqual = false then
    (s.copyFrames.foldl State.queueMir s).modTwin (fun t => { t with copyDone := true })
  else s)

def execJnlFrameReceived (e : List Byte) (s : State) : Out :=
  .next (if s.hears && (s.role == roleStandby || s.role == roleJoining) && e.length == 256 then s.mirFrame.jnlFrame e else s)

/-- MARK_RECEIVED: the twin's consumed mark and JNL_DONE. -/
def execMarkReceived (mark done : BitVec 64) (s : State) : Out :=
  .next (if s.hears && (s.role == roleStandby || s.role == roleJoining) then
    let s1 := s.mirFrame.takeMark mark.toNat
    (s1.modJnl (fun j => { j with done := max j.done (min j.head done.toNat) })).jnlSync
  else s)

/-! Execution (R391 to R393, R400). -/

/-- A session ends with its locks BROKEN, and its record in the twin with it. -/
def State.breakSession (s : State) (id : Nat) : State := (s.endSession id true).mirrorSess id

/-- The key that entry `j` writes; in a device that has no value of it, one that took over, what it unwraps is a free value (log entry 42). -/
def State.credKey (s : State) (j : Nat) : List Byte :=
  match s.jnl.credVal.find? (fun e => e.1 == j) with
  | some e => e.2.drop 1
  | none => (List.range 32).map (Config.freeByte s.free)

/-- Credential `c` is written, or deleted by a mask of 0; every session that uses it ends (R480). -/
def State.setCred (s : State) (c : Nat) (mask : Byte) (key : List Byte) : State :=
  let rest := s.jnl.creds.filter (fun x => x.1 != c)
  let t := ({ s with free := s.free + 1 } : State).modJnl (fun x => { x with cred0 := x.cred0 && c != 0, creds := if mask = 0#8 then rest else (c, mask, key) :: rest })
  (s.jnl.sessions.filter (fun x => x.cred == c)).foldl (fun u x => u.breakSession x.id) t

/-- A parameter's value, stored or acted on: the result and RDATA (R392, Table 15-11). -/
def State.paramWrite (s : State) (j : Nat) (b : List Byte) : State × Nat × List Byte :=
  let pid := leNat (b.take 2)
  let v := b.drop 4
  let n := leNat v
  let range := (s, rsFail, leBytes 1 1)
  let forbid := (s, rsFail, leBytes 1 2)
  let ok := fun (t : State) => (t, rsOk, ([] : List Byte))
  if pid = 1 then (if 1024 ≤ n then ok (s.modJnl (fun x => { x with hcmdPort := n })) else range)
  else if pid = 2 then (if 60 ≤ n ∧ n ≤ 86400 then ok (s.modJnl (fun x => { x with sessIdle := n })) else range)
  else if pid = 3 then (if 5 ≤ n ∧ n ≤ 600 then ok (s.modJnl (fun x => { x with lease := n })) else range)
  else if pid = 0x10 then
    if 1 < n then range
    else if n = 1 then
      if s.stage ≠ 3 then forbid
      else
        let t := s.armDevice
        if t.inS4 then ok t else (t, rsFail, leBytes 1 3 ++ leBytes 1 (t.getF .PMC_ARM_BLK 0))
    else if !s.inS4 then forbid
    else
      let t := s.disarmDevice
      if t.inS4 then (t, rsFail, leBytes 1 3 ++ leBytes 1 0xFF) else ok t
  else if pid = 0x20 then
    if n ≠ 1 then range
    else if s.sec.deployed || !((List.range 4).any (fun k => s.slotUse k == 2 && (s.sec.slots.toList.getD k {}).prog)) || (s.cred 0).isNone then forbid
    else ok (s.modSec (fun c => { c with deployed := true }))
  else if pid = 0x30 ∨ pid = 0x31 then
    let k := pid - 0x30 + 2
    if s.sec.deployed || (s.sec.slots.toList.getD k {}).prog then forbid
    else ok (s.modSec (fun c => { c with slots := c.slots.mapFinIdx (fun i x _ => if i = k then { prog := true, use := 2, hash := some v } else x) }))
  else
    let c := pid - 0x100
    if 32 ≤ leNat (v.take 1) then range
    else
      ok (s.setCred c (v.headD 0#8) (s.credKey j))

/-- SEC begins a verification for entry `j`; the end comes with SEC_VERIFY_DONE. -/
def State.startJob (s : State) (j : Nat) (image : Bool) (start total : Nat) : State :=
  ((s.modSec (fun c => { c with job := some ⟨j, image, start, total⟩ })).setF .SEC_STAT_BUSY 0 1).modJnl (fun x => { x with running := some j })

/-- The object of IMAGE_STAGE. -/
def State.imgObject (s : State) (total : Nat) : List Byte := s.ssmBytes imgBuffer (min imgSize total)

/-- IMAGE_STAGE: the sections are copied and SEC verifies.  The buffer is read once, by the core that supervises the journal (R155; which core
reads is a DESIGN CHOICE, log entry 53). -/
def State.imageStage (s : State) (j : Nat) (b : List Byte) : State :=
  if !s.jnl.imgHeld then s.finish j rsDataLost []
  else
    let o := s.imgObject (leNat b)
    let s0 := s.ssmCount (some (.sup Config.jnlCore)) imgBuffer (min imgSize (leNat b))
    let s1 := match imageSections (objPayload o) with | some l => s0.stageSections l | none => s0
    s1.startJob j true 0 (leNat b)

/-- IMAGE_ACTIVATE begins: MASK, MODE and AT are written and the activation requested, once no other runs. -/
def State.imageActivate (s : State) (j : Nat) (b : List Byte) : State :=
  if s.actBusy then s
  else
    let s1 := ((((s.setF .CE_ACTMASK_MASK 0 (leNat (b.take 4))).setF .CE_ACTAT_AT 0 (leNat ((b.drop 5).take 4))).setF .CE_ACTSTAT_DONE 0 0).setF
      .CE_ACTSTAT_ERR 0 0)
    ((s1.setEntry j stStarted rsPending []).writeActCtrl (leNat ((b.drop 4).take 1) % 2 == 1) true).modJnl (fun x => { x with running := some j })

/-- The activation of the running IMAGE_ACTIVATE has ended. -/
def State.imageActivated (s : State) (j : Nat) : State :=
  if s.bit .CE_ACTSTAT_DONE 0 then s.finish j rsOk []
  else if s.bit .CE_ACTSTAT_ERR 0 then s.finish j rsFail (leBytes 1 (s.getF .CE_ACTSTAT_CODE 0))
  else s

/-- FW_ACTIVATE: outside S4 a warm reset follows the reply (R475). -/
def State.fwActivate (s : State) (j : Nat) : State :=
  if s.inS4 then (s.modPmc (fun p => { p with slotPend := true })).finish j rsOk (leBytes 1 1)
  else
    let s1 := (s.modPmc (fun p => { p with slot := 1 - p.slot, trial := true, trialBegun := false, slotPend := false })).finish j rsOk []
    let s2 := s1.warmReset .PMC_RSTCAUSE_SOFTWARE
    s2.modJnl (fun x => { x with replies := s1.jnl.replies })

/-- The bytes of the firmware buffer from `a` up to `b` have been overwritten (R393), or have been put again. -/
def JnlSt.loseFw (x : JnlSt) (a b : Nat) : JnlSt := { x with fwLost := (a, b) :: x.fwLost }
def JnlSt.putFw (x : JnlSt) (a b : Nat) : JnlSt :=
  { x with fwLost := (x.fwLost.flatMap (fun r => [(r.1, min r.2 a), (max r.1 b, r.2)])).filter (fun r => decide (r.1 < r.2)) }
def JnlSt.fwGone (x : JnlSt) (a b : Nat) : Bool := x.fwLost.any (fun r => decide (r.1 < b ∧ a < r.2))

/-- Executes entry `j`, which firmware, SAF or in a rerun the journal writer performs; a rerun of SER_PARAM that finds the same bytes stored writes nothing (R391). -/
def State.perform (s : State) (j : Nat) : State :=
  let code := s.entCode j
  let b := s.entBody j
  let s1 := s.setEntry j stStarted rsPending []
  let res := fun (x : State × Bool) => x.1.finish j (if x.2 then rsOk else rsRefused) []
  if code = cdMute then s1.supTrip.finish j rsOk []
  else if code = cdParam then
    let r := s1.paramWrite j b
    r.1.finish j r.2.1 r.2.2
  else if code = cdImgStage then s1.imageStage j b
  else if code = cdImgAct then s.imageActivate j b
  else if code = cdSerParam then (if s.ser.store = b ∧ j < s.jnl.rerunTo then s1 else s1.serParam b).finish j rsOk []
  else if code = cdSerConfirm then (s1.serConfirm (BitVec.ofNat 32 (leNat b))).finish j rsOk []
  else if code = cdSerRestart then res s1.serRestart
  else if code = cdSerTest then res s1.serTestReq
  else if code = cdFwStage ∧ s.jnl.fwGone (leNat (b.take 4)) (leNat (b.take 4) + leNat (b.drop 4)) = true then s1.finish j rsDataLost []
  else if code = cdFwStage then s1.startJob j false (leNat (b.take 4)) (leNat (b.drop 4))
  else if code = cdFwAct then s1.fwActivate j
  else
    let e := s1.writerEffect (s.entSession j) code b
    e.1.finish j rsOk e.2

/-- The entry that may execute now: the oldest not DONE, where it is no CONV_CMD. -/
def State.entryExecute (s : State) : State :=
  match s.jnl.running with
  | some j => if s.entCode j = cdImgAct then s.imageActivated j else s
  | none =>
    if s.jnl.done < s.jnl.head ∧ s.entCode s.jnl.done ≠ cdConv ∧ s.sec.job = none then s.perform s.jnl.done else s

/-- ENTRY_EXECUTE. -/
def execEntryExecute (s : State) : Out :=
  .next (if s.coresRun && s.commanding && s.mayExecute then s.noReplies.entryExecute.replayCheck else s)

/-- SEC verifies a firmware or revocation object in the inactive slot's buffer; the bytes of a revocation are not kept (R393, R470). -/
def State.verifyFw (s : State) (start total : Nat) : Nat × State :=
  let o := s.readList (fwBase (1 - s.pmc.slot) + start) (min (fwSize - start) total)
  let c := s.secCheck [tyStation, tySer, tyRevoke] o
  if c ≠ 0 then (c, s)
  else if objType o = tyRevoke then (0, (s.revoke (revokeTarget o)).loseMem (fwBase (1 - s.pmc.slot) + start) (min (fwSize - start) total))
  else if (objType o = tyStation ∧ start = 0) ∨ (objType o = tySer ∧ start = 0x600000) then (0, s)
  else (1, s)

/-- SEC_VERIFY_DONE: LASTRES, and the staging entry completes. -/
def State.secVerified (s : State) (job : SecJob) : State :=
  let r := if job.image then s.verifyImage (s.imgObject job.total) else s.verifyFw job.start job.total
  let s1 := ((r.2.modSec (fun c => { c with job := none })).setF .SEC_STAT_BUSY 0 0).setF .SEC_STAT_LASTRES 0 r.1
  (s1.finish job.jidx (if r.1 = 0 then rsOk else rsFail) (leBytes 1 r.1)).judgeTokens

def execSecVerifyDone (s : State) : Out :=
  .next (match s.sec.job with
    | some job => if s.coresRun then (s.noReplies.secVerified job).replayCheck else s
    | none => s)

/-! Replay, compaction and expiries (R390, R403, R405, R407). -/

/-- Table 15-2's column "On replay" is INTERRUPT. -/
def interruptCode (code : Nat) : Bool := code == cdImgAct || code == cdSerRestart || code == cdSerTest || code == cdFwAct

/-- One entry of the replay (R403): one whose HCRC fails was never accepted and is removed, its place holding nothing; one whose SCRC fails
counts as ACCEPTED; a CONV_CMD entry below the durable mark is DONE (R400, R402). -/
def State.replayEntry (s : State) (j : Nat) : State :=
  let st := if s.statusOk j then s.entState j else stAccepted
  let code := s.entCode j
  if !s.headOk j then (s.setList (entryAddr j) (List.replicate 224 0#8)).finish j rsOk []
  else if st = stDone then s
  else if code = cdConv ∧ j < s.jnl.mark then s.setEntry j stDone rsOk []
  else if code = cdConv ∧ st = stDelivered then s
  else if st = stStarted ∧ interruptCode code = true then s.finish j rsInterrupted []
  else s.setEntry j stAccepted rsPending []

/-- The `k` entries from `j` on. -/
def State.replayScan (s : State) : Nat → Nat → State
  | 0, _ => s
  | k + 1, j => (s.replayEntry j).replayScan k (j + 1)

/-- The CONV_CMD entries that the order rule and the ring let in, at most `k`. -/
def State.redeliver (s : State) : Nat → State
  | 0 => s
  | k + 1 => s.convDelivery.redeliver k

/-- JOURNAL_REPLAY reads the journal, increments GEN and delivers what may be delivered; what is to run again runs by ENTRY_EXECUTE and
CONV_CMD_DELIVERY in its order, and the replay ends after the last of it. -/
def State.replay (s : State) : State :=
  let s1 := (s.ssmCount none (ringBase + 0xC) 4).putList (ringBase + 0xC) (leBytes 4 (leNat (s.ssmBytes (ringBase + 0xC) 4) + 1))
  let n := s.jnl.head - s.jnl.done
  let s2 := s1.modJnl (fun j => { j with
    cons := none, running := none, waiting := [], queue := [], rerunTo := j.head, redlv := j.done, scanned := true })
  (((s2.replayScan n s.jnl.done).advanceDone).redeliver (min n 256)).replayCheck

def execJournalReplay (s : State) : Out :=
  .next (if s.sysRuns && s.bit .JNL_STAT_REPLAYING 0 && !s.jnl.scanned && decide (2 ≤ s.stage) && s.commanding then s.noReplies.replay else s)

/-- JOURNAL_COMPACTION: a checkpoint covers every entry accepted so far; the DONE ones are reclaimable. -/
def execJournalCompaction (s : State) : Out :=
  .next (if s.busRuns = true ∧ s.getF .THERM_STAT_THROTTLE 0 = 0 then (s.modJnl (fun j => { j with reclaim := max j.reclaim j.done })).jnlSync else s)

/-- LEASE_EXPIRE of lock `k`: a system entry in the serial order, behind the requests evaluated before it (R407).  Its body names the lock and
the holder that loses it, which the spec leaves open (DESIGN CHOICE, log entry 42). -/
def State.leaseExpire (s : State) (k : Fin 5) (h : Nat) : State :=
  let s1 := s.journal ⟨⟨0, 0, 0, 0#32, false⟩, 0, 0, false, cdLease, leBytes 1 k.val ++ leBytes 2 h⟩ true
  s1.recordLeases s1.jnl.waiting.length

/-- LEASE_EXPIRE: the lease of lock `k` has run out. -/
def execLeaseExpire (k : Fin 5) (s : State) : Out :=
  .next (match s.lockHolder k with
    | some h =>
      if s.sysRuns && s.commanding && decide (2 ≤ s.stage) && !s.bit .JNL_STAT_REPLAYING 0 && !s.jnl.expiring k && decide (s.jnl.next - s.jnl.reclaim < jnlDepth) then
        (s.passTo (s.jnl.locks[k]).due).leaseExpire k h
      else s
    | none => s)

/-- SESSION_IDLE_EXPIRY: SESS_IDLE seconds without a request with a valid tag; its locks are left BROKEN (log entry 30). -/
def execSessionIdleExpiry (sid : BitVec 16) (s : State) : Out :=
  .next (match s.sess sid.toNat with
    | some x => if s.coresRun && decide (2 ≤ s.stage) then (s.passTo (x.seen + s.jnl.sessIdle * second)).breakSession sid.toNat else s
    | none => s)

/-- SESSION_KEY_TIMEOUT: 5 s without a request under the pending key (R389). -/
def execSessionKeyTimeout (sid : BitVec 16) (s : State) : Out :=
  .next (match s.sess sid.toNat with
    | some x =>
      if s.coresRun && x.newKey.isSome then (s.passTo (x.keyAt + 5 * second)).modSess sid.toNat (fun y => { y with newKey := none }) else s
    | none => s)

end Sys2Proof.Machine
end

