-- ==== Sys2Proof/Machine/Units.lean ====
section
/-! DEFINITION. The locks (R510) and the enables of all units (R25, R37 to R44). -/
namespace Sys2Proof.Machine

/-! LOCK and UNLOCK (R510). -/

/-- The LOCK bit of a unit, its ULERR flag and its power domain. -/
def lockFlds : LockUnit → Fld × Fld × Nat
  | .mod => (.MOD_CTRL_LOCK, .MOD_STAT_ULERR, domProt)
  | .clg => (.CLG_CTRL_LOCK, .CLG_STAT_ULERR, domProt)
  | .trip => (.TRIP_CTRL_LOCK, .TRIP_STAT_ULERR, domProt)
  | .pwm => (.PWM_CTRL_LOCK, .PWM_STAT_ULERR, domProt)
  | .adc => (.ADC_CTRL_LOCK, .ADC_STAT_ULERR, domAna)
  | .aux => (.AUX_CTRL_LOCK, .AUX_STAT_ULERR, domHv)
  | .mir => (.MIR_CTRL_LOCK, .MIR_STAT_ULERR, domMir)

/-- A write of LOCK and UNLOCK: UNLOCK alone clears LOCK outside S4, in S4 it sets ULERR; LOCK sets it. -/
def State.writeLock (s : State) (u : LockUnit) (lock unlock : Bool) : State :=
  let f := lockFlds u
  let s1 := if unlock then (if s.inS4 then s.setF f.2.1 0 1 else s.setF f.1 0 0) else s
  if lock then s1.setF f.1 0 1 else s1

/-- The unit is present and powered, and a write reaches it. -/
def State.lockLive (s : State) (u : LockUnit) : Bool := s.powered (lockFlds u).2.2 && s.busRuns

/-- LOCK: LOCK = 1 written, with UNLOCK or without. -/
def execLock (u : LockUnit) (withUnlock : Bool) (s : State) : Out :=
  .next (if s.lockLive u then s.writeLock u true withUnlock else s)

/-- UNLOCK: UNLOCK = 1 written alone. -/
def execUnlock (u : LockUnit) (s : State) : Out := .next (if s.lockLive u then s.writeLock u false true else s)

/-! The enables of the modulation unit, the arms, the mirror lane group, the journal engine and the DMA engine. -/

/-- The items of an arm complete under the settings of this moment, those of an earlier write staying (R38). -/
def State.keepSettings (s : State) (a : Fin 6) : State := s.modArm a (fun x => { x with kept := some (x.kept.getD (s.modNow a)) })
def State.dropSettings (s : State) (a : Fin 6) : State := s.modArm a (fun x => { x with kept := none })

/-- EN = 1 written to the modulation unit: the items in progress go on (R39). -/
def State.modEnable (s : State) : State :=
  let s1 := (s.setF .MOD_CTRL_EN 0 1).setF .MOD_STAT_ENST 0 enstOn
  forIdx (n := 6) (fun a t => if s.getF .ARM_STAT_ENST a == enstDraining then t else t.dropSettings a) s1

/-- EN = 0 written to the modulation unit: refused in S4 (R44); a queued sort is not started (R38). -/
def State.modDisable (s : State) : State :=
  if s.inS4 then s.setF .MOD_STAT_DISERR 0 1
  else
    let s1 := (s.setF .MOD_CTRL_EN 0 0).setF .MOD_STAT_ENST 0 (enstAfterOff s.modBusy)
    forIdx (n := 6) (fun a t => (t.keepSettings a).modArm a (fun x => { x with queued := none })) s1

/-- EN = 1 written to an arm: from OFF its planner records are reset, and no sort has completed since (R185, R190). -/
def State.armEnable (s : State) (a : Fin 6) : State :=
  let s1 := (s.setF .ARM_CFG_EN a 1).setF .ARM_STAT_ENST a enstOn
  let s2 := if s.getF .MOD_STAT_ENST 0 == enstDraining then s1 else s1.dropSettings a
  if s.getF .ARM_STAT_ENST a = enstOff then (s2.planResetArm a).modArm a (fun x => { x with ranking := none }) else s2

/-- EN = 0 written to an arm: the conversion in progress completes (R169). -/
def State.armDisable (s : State) (a : Fin 6) : State :=
  ((s.setF .ARM_CFG_EN a 0).setF .ARM_STAT_ENST a (enstAfterOff (s.arms[a]).conv.isSome)).keepSettings a

/-- EN = 1 written to the mirror lane group: lanes that are off train (R206). -/
def State.mirEnable (s : State) : State :=
  let s1 := (s.setF .MIR_CTRL_EN 0 1).setF .MIR_STAT_ENST 0 enstOn
  if (List.finRange 4).any (fun m => s.getF .ML_PHYSTAT_LSTATE m == lsOff) then s1.mirTrain else s1

/-- The group is OFF: its lanes go on with their training, or send idle characters (Table 1-7). -/
def State.mirReachOff (s : State) : State := s.setF .MIR_STAT_ENST 0 enstOff

/-- EN = 0 written to the group: the frame in progress finishes; whether one is in progress is free (Table 1-7, log entry 2). -/
def State.mirDisable (s : State) : State :=
  let d := s.draw
  let s1 := d.2.setF .MIR_CTRL_EN 0 0
  if d.1.getLsbD 0 then s1.setF .MIR_STAT_ENST 0 enstDraining else s1.mirReachOff

def State.jnlEnable (s : State) : State := s.setF .JNL_STAT_ENST 0 enstOn

/-- The journal engine is disabled: the oldest entry is made durable, later ones are not accepted (Table 1-7). -/
def State.jnlDisable (s : State) : State :=
  (s.setF .JNL_STAT_ENST 0 (enstAfterOff (!s.jnl.waiting.isEmpty))).modJnl (fun j => { j with waiting := j.waiting.take 1, queue := [] })

def State.dmaEnable (s : State) : State := { s with dmaEnst := enstOn }

/-- The DMA engine is disabled: the descriptor completes; whether one is in progress is free (Table 1-7, log entry 2). -/
def State.dmaDisable (s : State) : State :=
  let d := s.draw
  { d.2 with dmaEnst := enstAfterOff (d.1.getLsbD 0) }

/-! All units. -/

/-- ENST of a unit (Table 1-6). -/
def State.enst (s : State) : UnitId → Nat
  | .atu => s.getF .ATU_STAT_ENST 0
  | .fret => s.getF .FRET_STAT_ENST 0
  | .mod => s.getF .MOD_STAT_ENST 0
  | .mir => s.getF .MIR_STAT_ENST 0
  | .jnl => s.getF .JNL_STAT_ENST 0
  | .dma => s.dmaEnst
  | .arm a => s.getF .ARM_STAT_ENST a
  | .ce n => s.getF .CE_STAT_ENST n
  | .lane n => s.getF .CL_STAT_ENST n
  | .cmp n => s.getF .CMP_STATUS_ENST n
  | .tpin n => s.getF .TPIN_STATUS_ENST n
  | .pw n => s.getF .PW_STAT_ENST n
  | .ad m => s.getF .AD_STAT_ENST m
  | .aux x => s.getF .AUXH_STAT_ENST x
  | .hp p => s.getF .HP_STAT_ENST p
  | .tout n => s.getF .TOUT_CTRL_ENST n

/-- EN of a unit; the journal and DMA engines have no EN bit of their own, and are enabled while they show ON. -/
def State.enBit (s : State) : UnitId → Bool
  | .atu => s.bit .ATU_CTRL_EN 0
  | .fret => s.bit .FRET_CTRL_EN 0
  | .mod => s.bit .MOD_CTRL_EN 0
  | .mir => s.bit .MIR_CTRL_EN 0
  | .jnl => s.enst .jnl == enstOn
  | .dma => s.enst .dma == enstOn
  | .arm a => s.bit .ARM_CFG_EN a
  | .ce n => s.bit .CE_CTRL_EN n
  | .lane n => s.bit .CL_CTRL_EN n
  | .cmp n => s.bit .CMP_CTRL_EN n
  | .tpin n => s.bit .TPIN_CTRL_EN n
  | .pw n => s.bit .PW_CTRL_EN n
  | .ad m => s.bit .AD_CTRL_EN m
  | .aux x => s.bit .AUXH_CTRL_EN x
  | .hp p => s.bit .HP_CTRL_EN p
  | .tout n => s.bit .TOUT_CTRL_EN n

/-- The unit is present (R5) and its domain is powered (Table 18-3). -/
def State.unitLive (s : State) : UnitId → Bool
  | .atu | .fret | .mod | .arm _ | .tpin _ => s.powered domProt
  | .mir => s.powered domMir
  | .jnl => s.powered domNvm
  | .dma => s.powered 3
  | .ce n => s.ceLive n
  | .lane n => s.laneLive n
  | .cmp _ | .ad _ => s.powered domAna
  | .pw n => s.pairOk n && s.powered domProt
  | .aux _ => s.powered domHv
  | .hp p => s.portOk p && s.powered domHost
  | .tout _ => s.powered domHost

/-- The lock that covers an EN field of access RWL, the arms' alone, with the unit's LKERR (Table 6-7). -/
def State.enLocked (s : State) : UnitId → Option Fld
  | .arm _ => if s.bit .MOD_CTRL_LOCK 0 then some .MOD_STAT_LKERR else none
  | _ => none

/-- Performs EN = 1. -/
def State.enableUnit (s : State) : UnitId → State
  | .atu => s.atuEnable
  | .fret => s.fretEnable
  | .mod => s.modEnable
  | .mir => s.mirEnable
  | .jnl => s.jnlEnable
  | .dma => s.dmaEnable
  | .arm a => s.armEnable a
  | .ce n => s.ceEnable n
  | .lane n => s.laneEnable n
  | .cmp n => s.trInEnable (.cmp n)
  | .tpin n => s.trInEnable (.pin n)
  | .pw n => s.pairEnable n
  | .ad m => s.adEnable m
  | .aux x => s.auxEnable x
  | .hp p => s.hpEnable p
  | .tout n => s.toutEnable n

/-- Performs EN = 0. -/
def State.disableUnit (s : State) : UnitId → State
  | .atu => s.atuDisable
  | .fret => s.fretDisable
  | .mod => s.modDisable
  | .mir => s.mirDisable
  | .jnl => s.jnlDisable
  | .dma => s.dmaDisable
  | .arm a => s.armDisable a
  | .ce n => s.ceDisable n
  | .lane n => s.laneDisable n
  | .cmp n => s.trInDisable (.cmp n)
  | .tpin n => s.trInDisable (.pin n)
  | .pw n => s.pairDisable n
  | .ad m => s.adDisable m
  | .aux x => s.auxDisable x
  | .hp p => s.hpDisable p
  | .tout n => s.toutDisable n

/-- A write of EN: the value it already holds has no effect (R39), and a locked EN keeps its value and sets LKERR (R23). -/
def State.writeEn (s : State) (u : UnitId) (en : Bool) : State :=
  if s.enBit u == en then s
  else match s.enLocked u with
    | some f => s.setF f 0 1
    | none => if en then s.enableUnit u else s.disableUnit u

/-- A write of EN reaches the unit, and the units on FAB stand still without it. -/
def State.unitBus (s : State) (u : UnitId) : Bool :=
  s.unitLive u && s.busRuns && (match u with | .lane _ | .mir | .hp _ | .jnl | .dma | .tout _ => true | _ => s.fabRuns)

/-- UNIT_ENABLE. -/
def execUnitEnable (u : UnitId) (s : State) : Out := .next (if s.unitBus u then s.writeEn u true else s)

/-- UNIT_DISABLE. -/
def execUnitDisable (u : UnitId) (s : State) : Out := .next (if s.unitBus u then s.writeEn u false else s)

/-! The end of a drain (R38, Table 1-7). -/

/-- Every start of the row in dispatch has been triggered. -/
def State.rowDone (s : State) : Bool :=
  match s.fretd.row with
  | none => true
  | some (c, r) =>
    (List.finRange 24).all (fun n => decide (s.rowWord c r (8 * n) < 2 ^ 31) || s.fretd.started.getLsbD n) &&
    (List.finRange 8).all (fun m => decide (s.scanWord m < 2 ^ 31) || s.fretd.scanned.getLsbD m)

/-- The modulation unit's conversions and sorts complete. -/
def State.modFinish (s : State) : State :=
  (forIdx (n := 6) (fun a t => t.sortDone a) (forIdx (n := 6) (fun a t => t.armConverted a) s)).setF .MOD_STAT_ENST 0 enstOff

/-- The work item of a DRAINING unit completes and ENST goes to OFF.  Where the item's end is an event of its own (an engine's COMMIT or
deadline, a conversion's code, a journal commit), the unit stays DRAINING until that event has come. -/
def State.drainDone (s : State) : UnitId → State
  | .atu => s
  | .fret => if s.rowDone then s.fretReachOff else s
  | .mod => s.modFinish
  | .mir => s.mirReachOff
  | .jnl => if s.jnl.waiting.isEmpty then s.setF .JNL_STAT_ENST 0 enstOff else s
  | .dma => { s with dmaEnst := enstOff }
  | .arm a => (s.armConverted a).setF .ARM_STAT_ENST a enstOff
  | .ce n => if s.running n then s else (s.setF .CE_STAT_ENST n enstOff).actOffDone
  | .lane n => if (s.lanes[n]).burst.isSome then s else s.laneReachOff n
  | .cmp _ => s
  | .tpin _ => s
  | .pw n => if s.pairRuns n then s.periodStart n else s
  | .ad m => if (s.adcs[m]).conv.isSome then s else s.setF .AD_STAT_ENST m enstOff
  | .aux x => s.auxPeriod x
  | .hp p => if s.hpUp p && (s.hp[p]).last.isSome then s else s.hpReachOff p
  | .tout _ => s

/-- The clock of the unit's work runs (Table 18-1). -/
def State.unitRuns (s : State) : UnitId → Bool
  | .lane n => s.laneRuns n
  | .mir => s.mirRuns
  | .hp p => s.hostRuns p
  | .jnl => s.busRuns
  | .dma => s.coresRun
  | _ => s.fabRuns

/-- DRAIN_COMPLETE. -/
def execDrainComplete (u : UnitId) (s : State) : Out :=
  .next (if s.unitLive u && s.unitRuns u && s.enst u == enstDraining then s.drainDone u else s)

end Sys2Proof.Machine
end

