-- ==== Sys2Proof/Machine/Fp.lean ====
section
/-! DEFINITION. FP32 arithmetic under R85 and the conversions of Table 3-13: IEEE 754 binary32 with round to nearest even,
subnormal inputs read as zero, results flushed to zero by the after-rounding test, and one canonical NaN. -/
namespace Sys2Proof.Machine

/-- A read FP32 operand: a finite value is (-1)^sign * mant * 2^exp; a subnormal is read as a zero (R85). -/
inductive Fp where
  | zero (sign : Bool)
  | fin (sign : Bool) (mant : Nat) (exp : Int)
  | inf (sign : Bool)
  | qnan
  | snan
deriving DecidableEq, Repr

/-- Reads a word as FP32. -/
def Fp.ofWord (w : Word) : Fp :=
  let n := w.toNat
  let sign := decide (2 ^ 31 ≤ n)
  let e := bitsOf n 30 23
  let m := bitsOf n 22 0
  if e = 255 then (if m = 0 then .inf sign else if 2 ^ 22 ≤ m then .qnan else .snan)
  else if e = 0 then .zero sign
  else .fin sign (2 ^ 23 + m) ((e : Int) - 150)

def Fp.isNan : Fp → Bool
  | .qnan => true | .snan => true | _ => false
def Fp.isSnan : Fp → Bool
  | .snan => true | _ => false

/-- The canonical quiet NaN. -/
def Fp.canonical : Word := 0x7FC00000#32

def Fp.zeroWord (sign : Bool) : Word := if sign then 0x80000000#32 else 0#32
def Fp.infWord (sign : Bool) : Word := if sign then 0xFF800000#32 else 0x7F800000#32

/-- `m / 2^k` rounded to nearest, ties to even. -/
def rne (m k : Nat) : Nat :=
  let q := m / 2 ^ k
  let r := 2 * (m % 2 ^ k)
  if 2 ^ k < r then q + 1 else if r = 2 ^ k ∧ k ≠ 0 then q + q % 2 else q

/-- Rounds (-1)^sign * mant * 2^exp, where a set `sticky` says that the exact magnitude lies strictly between `mant` and
`mant + 1` units, to FP32 by R85.  `mant` must be non-zero and, with `sticky`, have at least 26 bits. -/
def Fp.round (sign : Bool) (mant : Nat) (exp : Int) (sticky : Bool) : Word × NFlags :=
  -- one extra bit carries the sticky remainder
  let m := 2 * mant + b2n sticky
  let e := exp - 1
  let bits := Nat.log2 m + 1
  let sh := bits - 24
  -- 24 significant bits with an unbounded exponent
  let r0 := if bits ≤ 24 then m * 2 ^ (24 - bits) else rne m sh
  let inexact := decide (24 < bits ∧ m % 2 ^ sh ≠ 0)
  let e0 : Int := e + (bits : Int) - 24
  let (r, e1) := if r0 = 2 ^ 24 then (2 ^ 23, e0 + 1) else (r0, e0)
  -- value is r * 2^e1 with 2^23 <= r < 2^24; the biased exponent of a normal is e1 + 150
  let be := e1 + 150
  if be ≤ 0 then (Fp.zeroWord sign, { uf := true, nx := true })
  else if 255 ≤ be then (Fp.infWord sign, { of := true, nx := true })
  else (BitVec.ofNat 32 (2 ^ 31 * b2n sign + be.toNat * 2 ^ 23 + (r - 2 ^ 23)), { nx := inexact })

def Fp.nanResult (nv : Bool) : Word × NFlags := (Fp.canonical, { nv := nv })

/-- The exact signed value of a finite operand in units of 2^exp. -/
def Fp.signedMant (sign : Bool) (m : Nat) : Int := if sign then -(m : Int) else m

/-- The sum of two exact values (x in units 2^ex, y in units 2^ey), rounded; an exact zero sum takes the sign `zs`. -/
def Fp.addExact (x : Int) (ex : Int) (y : Int) (ey : Int) (zs : Bool) : Word × NFlags :=
  let e := min ex ey
  let v := x * 2 ^ (ex - e).toNat + y * 2 ^ (ey - e).toNat
  if v = 0 then (Fp.zeroWord zs, {}) else Fp.round (decide (v < 0)) v.natAbs e false

/-- FADD (R101). -/
def Fp.add (a b : Fp) : Word × NFlags :=
  match a, b with
  | .snan, _ | _, .snan => Fp.nanResult true
  | .qnan, _ | _, .qnan => Fp.nanResult false
  | .inf s, .inf t => if s = t then (Fp.infWord s, {}) else Fp.nanResult true
  | .inf s, _ => (Fp.infWord s, {})
  | _, .inf t => (Fp.infWord t, {})
  | .zero s, .zero t => (Fp.zeroWord (s && t), {})
  | .zero _, .fin t m e => Fp.round t m e false
  | .fin s m e, .zero _ => Fp.round s m e false
  | .fin s m e, .fin t m' e' => Fp.addExact (Fp.signedMant s m) e (Fp.signedMant t m') e' false

/-- Negation of an operand (a NaN stays). -/
def Fp.neg : Fp → Fp
  | .zero s => .zero (!s)
  | .fin s m e => .fin (!s) m e
  | .inf s => .inf (!s)
  | .qnan => .qnan
  | .snan => .snan

/-- FMUL (R101). -/
def Fp.mul (a b : Fp) : Word × NFlags :=
  match a, b with
  | .snan, _ | _, .snan => Fp.nanResult true
  | .qnan, _ | _, .qnan => Fp.nanResult false
  | .inf _, .zero _ | .zero _, .inf _ => Fp.nanResult true
  | .inf s, .inf t | .inf s, .fin t _ _ | .fin s _ _, .inf t => (Fp.infWord (s ^^ t), {})
  | .zero s, .zero t | .zero s, .fin t _ _ | .fin s _ _, .zero t => (Fp.zeroWord (s ^^ t), {})
  | .fin s m e, .fin t m' e' => Fp.round (s ^^ t) (m * m') (e + e') false

/-- FMA: c + a * b with one rounding (R101); 0 times infinity is invalid whatever the addend (R85). -/
def Fp.fma (c a b : Fp) : Word × NFlags :=
  if a.isSnan || b.isSnan || c.isSnan then Fp.nanResult true else
  match a, b with
  | .inf _, .zero _ | .zero _, .inf _ => Fp.nanResult true
  | .qnan, _ | _, .qnan | .snan, _ | _, .snan => Fp.nanResult false
  | .inf s, .inf t | .inf s, .fin t _ _ | .fin s _ _, .inf t =>
    match c with
    | .qnan | .snan => Fp.nanResult false
    | .inf u => if u = (s ^^ t) then (Fp.infWord u, {}) else Fp.nanResult true
    | _ => (Fp.infWord (s ^^ t), {})
  | .zero s, .zero t | .zero s, .fin t _ _ | .fin s _ _, .zero t =>
    match c with
    | .qnan | .snan => Fp.nanResult false
    | .inf u => (Fp.infWord u, {})
    | .zero u => (Fp.zeroWord (u && (s ^^ t)), {})
    | .fin u m e => Fp.round u m e false
  | .fin s m e, .fin t m' e' =>
    match c with
    | .qnan | .snan => Fp.nanResult false
    | .inf u => (Fp.infWord u, {})
    | .zero _ => Fp.round (s ^^ t) (m * m') (e + e') false
    | .fin u mc ec => Fp.addExact (Fp.signedMant u mc) ec (Fp.signedMant (s ^^ t) (m * m')) (e + e') false

/-- FDIV (R101). -/
def Fp.div (a b : Fp) : Word × NFlags :=
  match a, b with
  | .snan, _ | _, .snan => Fp.nanResult true
  | .qnan, _ | _, .qnan => Fp.nanResult false
  | .inf _, .inf _ | .zero _, .zero _ => Fp.nanResult true
  | .inf s, .zero t | .inf s, .fin t _ _ => (Fp.infWord (s ^^ t), {})
  | .fin s _ _, .zero t => (Fp.infWord (s ^^ t), { dz := true })
  | .zero s, .fin t _ _ | .zero s, .inf t | .fin s _ _, .inf t => (Fp.zeroWord (s ^^ t), {})
  | .fin s m e, .fin t m' e' =>
    Fp.round (s ^^ t) (m * 2 ^ 40 / m') (e - e' - 40) (decide (m * 2 ^ 40 % m' ≠ 0))

/-- The integer square root by trial of each bit from `k - 1` down. -/
def isqrtBits (n : Nat) : Nat → Nat → Nat
  | 0, r => r
  | k + 1, r => isqrtBits n k (if (r + 2 ^ k) * (r + 2 ^ k) ≤ n then r + 2 ^ k else r)

/-- FSQRT (R101). -/
def Fp.sqrt (a : Fp) : Word × NFlags :=
  match a with
  | .snan => Fp.nanResult true
  | .qnan => Fp.nanResult false
  | .zero s => (Fp.zeroWord s, {})
  | .inf s => if s then Fp.nanResult true else (Fp.infWord false, {})
  | .fin true _ _ => Fp.nanResult true
  | .fin false m e =>
    -- an even exponent, and enough bits for a sticky remainder
    let (m1, e1) := if e % 2 = 0 then (m * 2 ^ 40, e - 40) else (m * 2 ^ 41, e - 41)
    let r := isqrtBits m1 34 0
    Fp.round false r (e1 / 2) (decide (r * r ≠ m1))

/-- The order of two operands that are not NaN; −0 lies below +0. -/
def Fp.totalLt (a b : Fp) : Bool :=
  match a, b with
  | .qnan, _ | .snan, _ | _, .qnan | _, .snan => false
  | .inf s, .inf t => s && !t
  | .inf s, _ => s
  | _, .inf t => !t
  | .zero s, .zero t => s && !t
  | .zero _, .fin t _ _ => !t
  | .fin s _ _, .zero _ => s
  | .fin s m e, .fin t m' e' =>
    let d := min e e'
    decide (Fp.signedMant s m * 2 ^ (e - d).toNat < Fp.signedMant t m' * 2 ^ (e' - d).toNat)

/-- The word of an operand that FMIN or FMAX delivers: a subnormal reads as a zero (R85). -/
def Fp.deliver (w : Word) : Word :=
  match Fp.ofWord w with
  | .zero s => Fp.zeroWord s
  | .qnan | .snan => Fp.canonical
  | _ => w

/-- FMIN and FMAX: minimumNumber and maximumNumber (R101). -/
def Fp.minmax (isMax : Bool) (wa wb : Word) : Word × NFlags :=
  let a := Fp.ofWord wa
  let b := Fp.ofWord wb
  let fl : NFlags := { nv := a.isSnan || b.isSnan }
  if a.isNan && b.isNan then (Fp.canonical, fl)
  else if a.isNan then (Fp.deliver wb, fl)
  else if b.isNan then (Fp.deliver wa, fl)
  else if isMax then (if a.totalLt b then Fp.deliver wb else Fp.deliver wa, fl)
  else (if b.totalLt a then Fp.deliver wb else Fp.deliver wa, fl)

/-- Numeric equality: +0 equals −0. -/
def Fp.eq (a b : Fp) : Bool :=
  match a, b with
  | .qnan, _ | .snan, _ | _, .qnan | _, .snan => false
  | .zero _, .zero _ => true
  | _, _ => decide (a = b)

/-- Numeric less-than: the zeros are equal. -/
def Fp.lt (a b : Fp) : Bool :=
  match a, b with
  | .zero _, .zero _ => false
  | _, _ => a.totalLt b

/-- An exact value v * 2^e rounded to the nearest even integer, with the inexact flag. -/
def rneInt (v : Int) (e : Int) : Int × Bool :=
  if 0 ≤ e then (v * 2 ^ e.toNat, false)
  else
    let k := (-e).toNat
    let q := (rne v.natAbs k : Int)
    (if v < 0 then -q else q, decide (v.natAbs % 2 ^ k ≠ 0))

/-- Saturates an exact integer to 32 signed bits. -/
def sat32 (v : Int) : Word × Bool :=
  if v < -(2 ^ 31) then (0x80000000#32, true)
  else if 2 ^ 31 - 1 < v then (0x7FFFFFFF#32, true)
  else (BitVec.ofInt 32 v, false)

/-- F2I and F2Q: the conversion of ra × 2^k (k = 0 or 31) to a saturated integer; NaN gives 0 with NV (R84, R101). -/
def Fp.toInt (k : Nat) (a : Fp) : Word × NFlags :=
  match a with
  | .qnan | .snan => (0#32, { nv := true })
  | .zero _ => (0#32, {})
  | .inf s => (if s then 0x80000000#32 else 0x7FFFFFFF#32, { qsat := true })
  | .fin s m e =>
    let (v, inex) := rneInt (Fp.signedMant s m) (e + k)
    let (w, sat) := sat32 v
    (w, { qsat := sat, nx := inex && !sat })

/-- I2F and Q2F: a signed integer times 2^-k to FP32 (R101). -/
def Fp.ofInt (k : Nat) (w : Word) : Word × NFlags :=
  let v := w.toInt
  if v = 0 then (0#32, {}) else Fp.round (decide (v < 0)) v.natAbs (-(k : Int)) false

end Sys2Proof.Machine
end

