-- ==== Sys2Proof/Machine/Alu.lean ====
section
/-! DEFINITION. The arithmetic of the Volgar register instructions as plain functions of operand values: the integer ALU
(Table 3-10), immediates (Table 3-11), Q31 and accumulator arithmetic (Table 3-12), comparisons (Table 3-14), and SINCOS,
LIM, SAT, PLUCK, PLKA of Volgar Control Instructions.  A result comes with the flags it raises. -/
namespace Sys2Proof.Machine

/-- Saturation of an exact value to `n` signed bits (R84). -/
def satBits (n : Nat) (v : Int) : Int × Bool :=
  if v < -(2 ^ (n - 1)) then (-(2 ^ (n - 1)), true)
  else if 2 ^ (n - 1) - 1 < v then (2 ^ (n - 1) - 1, true)
  else (v, false)

/-- A saturated Q31 or integer result (R84). -/
def satQ (v : Int) : Word × NFlags :=
  let r := satBits 32 v
  (BitVec.ofInt 32 r.1, NFlags.sat r.2)

/-- Reduction by `s` bits, rounding half towards plus infinity (R84). -/
def rnd (v : Int) (s : Nat) : Int := if s = 0 then v else (v + 2 ^ (s - 1)).fdiv (2 ^ s)

def noFlags (w : Word) : Word × NFlags := (w, {})

/-! Integer ALU (R98). -/

def shiftAmount (b : Word) : Nat := b.toNat % 32

def aluClz (a : Word) : Word := if a = 0#32 then 32#32 else BitVec.ofNat 32 (31 - Nat.log2 a.toNat)

/-- The number of 1 bits among the `k` low bits of `n`. -/
def popCount (n : Nat) : Nat → Nat
  | 0 => 0
  | k + 1 => n / 2 ^ k % 2 + popCount n k

def aluPopc (a : Word) : Word := BitVec.ofNat 32 (popCount a.toNat 32)

def aluDiv (a b : Word) : Word × NFlags :=
  if b = 0#32 then (if a.toInt < 0 then 0x80000000#32 else 0x7FFFFFFF#32, { adz := true })
  else if a = 0x80000000#32 ∧ b = 0xFFFFFFFF#32 then (0x7FFFFFFF#32, { adz := true })
  else (BitVec.ofInt 32 (a.toInt.tdiv b.toInt), {})

def aluDivu (a b : Word) : Word × NFlags :=
  if b = 0#32 then (0xFFFFFFFF#32, { adz := true }) else (BitVec.ofNat 32 (a.toNat / b.toNat), {})

def aluRem (a b : Word) : Word × NFlags :=
  if b = 0#32 then (a, { adz := true })
  else if a = 0x80000000#32 ∧ b = 0xFFFFFFFF#32 then (0#32, { adz := true })
  else (BitVec.ofInt 32 (a.toInt.tmod b.toInt), {})

def aluRemu (a b : Word) : Word × NFlags :=
  if b = 0#32 then (a, { adz := true }) else (BitVec.ofNat 32 (a.toNat % b.toNat), {})

/-- SHI: imm12[11:10] selects the shift, imm12[4:0] the count (R99). -/
def aluShi (op : BitVec 2) (a : Word) (n : BitVec 5) : Word :=
  if op = 0#2 then a <<< n.toNat else if op = 1#2 then a >>> n.toNat
  else if op = 2#2 then a.sshiftRight n.toNat else a.rotateRight n.toNat

/-! Q31 and accumulators (R84, R86, R100). -/

def qMul (a b : Word) : Word × NFlags := satQ (rnd (a.toInt * b.toInt) 31)

def qShr (a b : Word) : Word := BitVec.ofInt 32 (rnd a.toInt (shiftAmount b))

/-- An exact accumulator value saturated to 72 bits. -/
def satAcc (v : Int) : BitVec 72 × NFlags :=
  let r := satBits 72 v
  (BitVec.ofInt 72 r.1, NFlags.sat r.2)

/-- RACC: shift left by k, reduce by 31 bits, saturate to Q31 (R86). -/
def raccVal (a : Int) (k : Nat) : Word × NFlags := satQ (rnd (a * 2 ^ k) 31)

def mfaVal (a : BitVec 72) (part : Nat) : Word :=
  if part = 0 then a.extractLsb' 0 32 else if part = 1 then a.extractLsb' 32 32
  else (a.extractLsb' 64 8).signExtend 32

def mtaVal (a : BitVec 72) (part : Nat) (w : Word) : BitVec 72 :=
  if part = 0 then a.extractLsb' 32 40 ++ w
  else if part = 1 then (a.extractLsb' 64 8 ++ w) ++ a.extractLsb' 0 32
  else w.extractLsb' 0 8 ++ a.extractLsb' 0 64

/-- STQ's halfword: sat16(floor((rs + 2^15) / 2^16)) (R103). -/
def stqHalf (w : Word) : BitVec 16 × NFlags :=
  let r := satBits 16 (rnd w.toInt 16)
  (BitVec.ofInt 16 r.1, NFlags.sat r.2)

/-! Comparisons and predicates (R102). -/

/-- The condition of Table 3-14, `none` where the table has no such number. -/
def condVal (cond : BitVec 4) (a b : Word) : Option (Bool × NFlags) :=
  let x := Fp.ofWord a
  let y := Fp.ofWord b
  let nan := x.isNan || y.isNan
  let snan := x.isSnan || y.isSnan
  match cond.toNat with
  | 0 => some (decide (a = b), {})
  | 1 => some (decide (a ≠ b), {})
  | 2 => some (decide (a.toInt < b.toInt), {})
  | 3 => some (decide (b.toInt ≤ a.toInt), {})
  | 4 => some (decide (a.toNat < b.toNat), {})
  | 5 => some (decide (b.toNat ≤ a.toNat), {})
  | 8 => some (x.eq y, { nv := snan })
  | 9 => some (!x.eq y, { nv := snan })
  | 10 => some (!nan && x.lt y, { nv := nan })
  | 11 => some (!nan && !x.lt y, { nv := nan })
  | 12 => some (nan, { nv := snan })
  | _ => none

def combVal (comb : BitVec 2) (old c : Bool) : Bool :=
  if comb = 0#2 then c else if comb = 1#2 then old && c else if comb = 2#2 then old || c else old && !c

def plogVal (op : BitVec 3) (a b : Bool) : Bool :=
  match op.toNat with
  | 0 => a && b | 1 => a || b | 2 => a ^^ b | 3 => a && !b | 4 => a | 5 => !a | 6 => true | _ => false

/-! SINCOS (R116): correctly rounded through a power series in 200-bit fixed point. -/

/-- π in units of 2^-200. -/
def pi200 : Nat := 0x3243f6a8885a308d313198a2e03707344a4093822299f31d008

/-- The power series x^k/k! − x^(k+2)/(k+2)! + … in units of 2^-200; `t` is the term of degree `k`. -/
def trigSeries (x : Nat) : Nat → Nat → Nat → Int
  | 0, _, _ => 0
  | fuel + 1, k, t => (t : Int) - trigSeries x fuel (k + 2) (t * x / 2 ^ 200 * x / 2 ^ 200 / ((k + 1) * (k + 2)))

/-- sin(2π r / 2^32) × 2^31 rounded to the nearest integer, for r up to a quarter turn. -/
def sinQuarter (r : Nat) : Int :=
  let x := r * pi200 / 2 ^ 31
  (trigSeries x 28 1 x * 2 ^ 31 + 2 ^ 199).fdiv (2 ^ 200)

/-- The exact rounded sine of an angle in au, before the delivery of 1 as 0x7FFF_FFFF. -/
def sinAu (theta : Nat) : Int :=
  let q := theta / 2 ^ 30 % 4
  let r := theta % 2 ^ 30
  if q = 0 then sinQuarter r else if q = 1 then sinQuarter (2 ^ 30 - r)
  else if q = 2 then -sinQuarter r else -sinQuarter (2 ^ 30 - r)

def trigWord (v : Int) : Word := (sat32 v).1

def sinWord (theta : Word) : Word := trigWord (sinAu theta.toNat)
def cosWord (theta : Word) : Word := trigWord (sinAu ((theta.toNat + 2 ^ 30) % 2 ^ 32))

/-! Limits (R117). -/

def limVal (d a b : Word) : Word :=
  let m := if d.toInt < a.toInt then a else d
  if b.toInt < m.toInt then b else m

def limfVal (d a b : Word) : Word × NFlags :=
  let m := Fp.minmax true d a
  let r := Fp.minmax false m.1 b
  (r.1, { nv := m.2.nv || r.2.nv })

/-- Clamp to [lo, hi]; QSAT when the value changes. -/
def clampSat (v lo hi : Int) : Word × NFlags :=
  let r := max lo (min hi v)
  (BitVec.ofInt 32 r, NFlags.sat (decide (r ≠ v)))

def satVal (a : Word) (n : Nat) : Word × NFlags := clampSat a.toInt (-(2 ^ n)) (2 ^ n - 1)
def satuVal (a : Word) (n : Nat) : Word × NFlags := clampSat a.toInt 0 (2 ^ n - 1)

/-! PLUCK (R123, R124). -/

def pluckVal (w : Word) : Word :=
  (w <<< 1) ||| (if w.getLsbD 14 ^^ w.getLsbD 13 then 1#32 else 0#32)

def plkaVal (d a b : Word) : Word × NFlags :=
  if b.getLsbD 0 then satQ (d.toInt + a.toInt) else satQ (d.toInt - a.toInt)

/-! BIQ, PI and CAPO (R119, R121, R122) as functions of the block's words. -/

/-- One biquad step: the output and the new X1, X2, Y1, Y2. -/
def biqStep (k : Nat) (b0 b1 b2 a1 a2 x1 x2 y1 y2 x : Int) : Word × NFlags :=
  raccVal (b0 * x + b1 * x1 + b2 * x2 - a1 * y1 - a2 * y2) k

def rnd31 (v : Int) : Int := (v + 2 ^ 30).fdiv (2 ^ 31)
def clampI (v lo hi : Int) : Int := min (max v lo) hi

/-- A PI block (Table 4-5). -/
structure PiBlock where
  blend : Bool
  bcnt : Nat
  m : Nat
  k : Nat
  kp : Int
  ki : Int
  i : Int
  umin : Int
  umax : Int
  rlim : Int
  ulast : Int
  ufrom : Int
deriving DecidableEq, Repr

/-- The CTL word as PI and CAPO write it: unlisted bits are written as 0 (R120). -/
def PiBlock.ctl (b : PiBlock) : Word :=
  BitVec.ofNat 32 (2 ^ 31 * b2n b.blend + 2 ^ 16 * b.bcnt + 2 ^ 8 * b.m + b.k)

/-- One PI step (R121): the new block, the output and whether QSAT is set. -/
def PiBlock.step (b : PiBlock) (e : Int) : PiBlock × Int × Bool :=
  let p := satBits 32 (rnd31 (b.kp * e * 2 ^ b.k))
  let di := satBits 32 (rnd31 (b.ki * e * 2 ^ b.k))
  let si := satBits 32 (b.i + di.1)
  let i := clampI si.1 b.umin b.umax
  let su := satBits 32 (p.1 + i)
  let upi := clampI su.1 b.umin b.umax
  let m := if b.m = 0 then 1 else b.m
  let j := min (b.bcnt + 1) m
  let done := decide (m ≤ j)
  let ut0 := if b.blend then b.ufrom + (2 * (upi - b.ufrom) * j + m).fdiv (2 * m) else upi
  let ut := if b.rlim ≠ 0 then clampI ut0 (satBits 32 (b.ulast - b.rlim)).1 (satBits 32 (b.ulast + b.rlim)).1 else ut0
  ({ b with i := i, ulast := ut,
            blend := b.blend && !done, bcnt := if b.blend then (if done then 0 else j) else b.bcnt },
   ut, p.2 || di.2 || si.2 || su.2)

/-- One CAPO step (R122): the new block, the status and whether QSAT is set. -/
def PiBlock.capo (b : PiBlock) (u e : Int) : PiBlock × Word × Bool :=
  let p := satBits 32 (rnd31 (b.kp * e * 2 ^ b.k))
  let q := u - p.1
  if b.umin ≤ u ∧ u ≤ b.umax ∧ b.umin ≤ q ∧ q ≤ b.umax then
    ({ b with i := q, blend := false, bcnt := 0, ulast := u }, 0#32, p.2)
  else
    ({ b with i := clampI q b.umin b.umax, ufrom := u, blend := true, bcnt := 0, ulast := u }, 1#32, p.2)

end Sys2Proof.Machine
end

