-- ==== Sys2Proof/Machine/VolgarCtl.lean ====
section
/-! DEFINITION. The control instructions (R110 to R135): SINCOS, limits, BIQ, PI, CAPO, PLUCK, SEND, RECV, the pegs, WAITF, COMMIT and
the deadline query. -/
namespace Sys2Proof.Machine

/-- SINCOS: sine to rd and cosine to rd + 1 (R116). -/
def execSincos (n : Fin 24) (pr : BitVec 4) (rd ra rb : BitVec 5) (s : State) : Out :=
  .next (issue n pr { readsG := [ra, rb], writesG := [(rd, 4), (rd + 1#5, 4)] } (.sincos n pr rd ra rb)
    (regEff n (fun e =>
      let a := e.readG ra + e.readG rb
      (e.writeG rd (sinWord a)).writeG (rd + 1#5) (cosWord a))) s)

/-- LIM: rd clamped between ra and rb, signed (R117). -/
def execLim (n : Fin 24) (pr : BitVec 4) (rd ra rb : BitVec 5) (s : State) : Out :=
  .next (issue n pr { readsG := [rd, ra, rb], writesG := [(rd, 1)] } (.lim n pr rd ra rb)
    (resultEff n rd (fun e => noFlags (limVal (e.readG rd) (e.readG ra) (e.readG rb)))) s)

/-- LIMF: FMIN(FMAX(rd, ra), rb) (R117). -/
def execLimf (n : Fin 24) (pr : BitVec 4) (rd ra rb : BitVec 5) (s : State) : Out :=
  .next (issue n pr { readsG := [rd, ra, rb], writesG := [(rd, 1)] } (.limf n pr rd ra rb)
    (resultEff n rd (fun e => limfVal (e.readG rd) (e.readG ra) (e.readG rb))) s)

/-- SAT: ra clamped to [−2^n, 2^n − 1] (R117). -/
def execSat (n : Fin 24) (pr : BitVec 4) (rd ra cnt : BitVec 5) (s : State) : Out :=
  .next (issue n pr { readsG := [ra], writesG := [(rd, 1)] } (.sat n pr rd ra cnt)
    (resultEff n rd (fun e => satVal (e.readG ra) cnt.toNat)) s)

/-- SATU: ra, signed, clamped to [0, 2^n − 1] (R117). -/
def execSatu (n : Fin 24) (pr : BitVec 4) (rd ra cnt : BitVec 5) (s : State) : Out :=
  .next (issue n pr { readsG := [ra], writesG := [(rd, 1)] } (.satu n pr rd ra cnt)
    (resultEff n rd (fun e => satuVal (e.readG ra) cnt.toNat)) s)

/-- PLUCK: one step of the PRBS15 state word (R123). -/
def execPluck (n : Fin 24) (pr : BitVec 4) (rd ra : BitVec 5) (s : State) : Out :=
  .next (issue n pr { readsG := [ra], writesG := [(rd, 1)] } (.pluck n pr rd ra)
    (resultEff n rd (fun e => noFlags (pluckVal (e.readG ra)))) s)

/-- PLKA: rd ± ra by chip rb[0] (R124). -/
def execPlka (n : Fin 24) (pr : BitVec 4) (rd ra rb : BitVec 5) (s : State) : Out :=
  .next (issue n pr { readsG := [rd, ra, rb], writesG := [(rd, 1)] } (.plka n pr rd ra rb)
    (resultEff n rd (fun e => plkaVal (e.readG rd) (e.readG ra) (e.readG rb))) s)

/-- PLKC: the accumulator plus or minus ra × 2^31 by chip rb[L] (R124). -/
def execPlkc (n : Fin 24) (pr : BitVec 4) (a : BitVec 2) (ra rb lag : BitVec 5) (s : State) : Out :=
  .next (issue n pr { readsG := [ra, rb], accs := [a], writesA := true, group := true } (.plkc n pr a ra rb lag)
    (regEff n (fun e =>
      let v : Int := if e.readG rb |>.getLsbD lag.toNat then (e.readG ra).toInt else -(e.readG ra).toInt
      let r := satAcc ((e.readA a).toInt + v * 2 ^ 31)
      (e.writeA a r.1).raise r.2)) s)

/-! BIQ, PI and CAPO: one step on a block of data RAM (R111). -/

/-- Word `k` of the block at `a` in the data RAM of engine `n`. -/
def State.blk (s : State) (n : Fin 24) (a k : Nat) : Word := s.word (ceData n + a + 4 * k)

/-- The checks of a block of `len` words at address `a` (R111): ALIGN, ACCESS, then ECC_D with the address of the first bad
word. -/
def State.blockFault (s : State) (n : Fin 24) (a : Word) (len : Nat) : Option (Nat × Word) :=
  if a.toNat % 4 ≠ 0 then some (xAlign, a)
  else if 0x10000 < a.toNat + 4 * len then some (xAccess, a)
  else match (List.range len).find? (fun k => s.badWord (ceData n + a.toNat + 4 * k)) with
    | some k => some (xEccD, a + BitVec.ofNat 32 (4 * k))
    | none => none

/-- The corrected reads of a block (R94). -/
def State.blockSoft (s : State) (n : Fin 24) (a len : Nat) : State :=
  (List.range len).foldl (fun t k => t.countSoftCe n (ceData n + a + 4 * k)) s

/-- A word store into the engine's own data RAM. -/
def State.putRam (s : State) (n : Fin 24) (a : Nat) (w : Word) : State := (s.setWord (ceData n + a) w).freshWord (ceData n + a)

/-- BIQ: one biquad step of the block at rb on input ra (R118, R119). -/
def biqEff (n : Fin 24) (rd ra rb : BitVec 5) : Nat → State → Res := fun _ s =>
  let e := s.ce[n]
  let a := e.readG rb
  match s.blockFault n a 10 with
  | some f => .exc f.1 f.2
  | none =>
    let w := fun k => (s.blk n a.toNat k).toInt
    let x := e.readG ra
    let y := biqStep ((s.blk n a.toNat 0).toNat % 8) (w 1) (w 2) (w 3) (w 4) (w 5) (w 6) (w 7) (w 8) (w 9) x.toInt
    let s1 := s.blockSoft n a.toNat 10
    let s2 := (((s1.putRam n (a.toNat + 28) (s.blk n a.toNat 6)).putRam n (a.toNat + 24) x).putRam n (a.toNat + 36)
      (s.blk n a.toNat 8)).putRam n (a.toNat + 32) y.1
    .done (s2.modCe n (fun e => (e.writeG rd y.1).raise y.2)) none 0

def execBiq (n : Fin 24) (pr : BitVec 4) (rd ra rb : BitVec 5) (s : State) : Out :=
  .next (issue n pr { readsG := [ra, rb], writesG := [(rd, 9)], blocking := 9, mem := 9 } (.biq n pr rd ra rb) (biqEff n rd ra rb) s)

/-- The PI block at `a` (Table 4-5); an RLIM with bit 31 set acts as 0x7FFF_FFFF. -/
def State.piBlock (s : State) (n : Fin 24) (a : Nat) : PiBlock :=
  let c := (s.blk n a 0).toNat
  let r := s.blk n a 6
  { blend := decide (2 ^ 31 ≤ c), bcnt := c / 2 ^ 16 % 256, m := c / 256 % 256, k := c % 8,
    kp := (s.blk n a 1).toInt, ki := (s.blk n a 2).toInt, i := (s.blk n a 3).toInt,
    umin := (s.blk n a 4).toInt, umax := (s.blk n a 5).toInt,
    rlim := if r.getLsbD 31 then 2 ^ 31 - 1 else r.toInt, ulast := (s.blk n a 7).toInt, ufrom := (s.blk n a 8).toInt }

/-- Writes the hardware fields of a PI block. -/
def State.putPi (s : State) (n : Fin 24) (a : Nat) (b : PiBlock) : State :=
  (((s.putRam n a b.ctl).putRam n (a + 12) (BitVec.ofInt 32 b.i)).putRam n (a + 28) (BitVec.ofInt 32 b.ulast)).putRam n (a + 32)
    (BitVec.ofInt 32 b.ufrom)

/-- PI: one step of the block at rb on error ra (R120, R121). -/
def piEff (n : Fin 24) (rd ra rb : BitVec 5) : Nat → State → Res := fun _ s =>
  let e := s.ce[n]
  let a := e.readG rb
  match s.blockFault n a 9 with
  | some f => .exc f.1 f.2
  | none =>
    let r := (s.piBlock n a.toNat).step (e.readG ra).toInt
    let s2 := (s.blockSoft n a.toNat 9).putPi n a.toNat r.1
    .done (s2.modCe n (fun e => (e.writeG rd (BitVec.ofInt 32 r.2.1)).raise (NFlags.sat r.2.2))) none 0

def execPi (n : Fin 24) (pr : BitVec 4) (rd ra rb : BitVec 5) (s : State) : Out :=
  .next (issue n pr { readsG := [ra, rb], writesG := [(rd, 10)], blocking := 10, mem := 10 } (.pi n pr rd ra rb) (piEff n rd ra rb) s)

/-- CAPO: handover of the block at rb to output rd with error ra (R122). -/
def capoEff (n : Fin 24) (rd ra rb : BitVec 5) : Nat → State → Res := fun _ s =>
  let e := s.ce[n]
  let a := e.readG rb
  match s.blockFault n a 9 with
  | some f => .exc f.1 f.2
  | none =>
    let r := (s.piBlock n a.toNat).capo (e.readG rd).toInt (e.readG ra).toInt
    let s2 := (s.blockSoft n a.toNat 9).putPi n a.toNat r.1
    .done (s2.modCe n (fun e => (e.writeG rd r.2.1).raise (NFlags.sat r.2.2))) none 0

def execCapo (n : Fin 24) (pr : BitVec 4) (rd ra rb : BitVec 5) (s : State) : Out :=
  .next (issue n pr { readsG := [rd, ra, rb], writesG := [(rd, 12)], blocking := 12, mem := 12 } (.capo n pr rd ra rb)
    (capoEff n rd ra rb) s)

/-! SEND and RECV (R125 to R130). -/

/-- The fields of a slot descriptor (Table 4-6). -/
def descKind (w : Word) : Nat := w.toNat / 2 ^ 28
def descIndex (w : Word) : Nat := w.toNat / 256 % 256
def descWord (w : Word) : Nat := w.toNat % 16
/-- The reserved bits are zero. -/
def descClean (w : Word) : Bool := decide (w.toNat / 2 ^ 16 % 2 ^ 12 = 0 ∧ w.toNat / 16 % 16 = 0)

/-- The descriptor is one SEND accepts (R125). -/
def sendOk (w : Word) : Bool :=
  descClean w && ((descKind w == 0 && decide (descIndex w ≤ 95 ∧ descWord w ≤ 5)) ||
    (descKind w == 1 && decide (descIndex w ≤ 5 ∧ descWord w ≤ 7)))

/-- The descriptor is one RECV accepts (R125). -/
def recvOk (w : Word) : Bool :=
  descClean w && descKind w == 2 && decide (descIndex w ≤ 95 ∧ (descWord w ≤ 11 ∨ descWord w = 14 ∨ descWord w = 15))

/-- SEND writes rb to the slot word named by ra; a SEND after COMMIT, to an absent lane or to another's lane or arm is
discarded with SENDDROP (R127, R129).  A SEND to ARW7 with REQ = 1 requests a sort (R186). -/
def sendEff (n : Fin 24) (ra rb : BitVec 5) : Nat → State → Res := fun _ s =>
  let e := s.ce[n]
  let d := e.readG ra
  let w := e.readG rb
  if !sendOk d then .exc xAccess d
  else
    let drop : Res := .done (s.setF .CE_CSTAT_SENDDROP n 1) none 0
    if e.committed then drop
    else if descKind d = 0 then
      if h : descIndex d < 96 ∧ descWord d < 6 then
        if s.laneOk (descIndex d) && s.getF .CL_CFG_OWNER (descIndex d) == n.val then
          .done (s.modLane ⟨descIndex d, h.1⟩ (fun l => { l with work := l.work.set (descWord d) w h.2 })) none 0
        else drop
      else drop
    else if h : descIndex d < 6 ∧ descWord d < 8 then
      if s.getF .ARM_CFG_OWNER (descIndex d) == n.val then
        let a : Fin 6 := ⟨descIndex d, h.1⟩
        let s1 := s.modArm a (fun x => { x with work := x.work.set (descWord d) w h.2 })
        .done (if descWord d = 7 ∧ w.getLsbD 0 then s1.sortRequest a w else s1) none 0
      else drop
    else drop

def execSend (n : Fin 24) (pr : BitVec 4) (ra rb : BitVec 5) (s : State) : Out :=
  .next (issue n pr { readsG := [ra, rb] } (.send n pr ra rb) (sendEff n ra rb) s)

/-- RSTAT (Table 4-7). -/
def RxBuf.rstat (b : RxBuf) : Word := BitVec.ofNat 32 (16 * b2n b.epochHi + b.state % 4)

/-- The word of a receive buffer that RECV reads: TW and TFRET read 0 while STATE is not VALID (R130). -/
def RxBuf.recv (b : RxBuf) (k : Nat) : Word :=
  if k = 15 then b.rstat
  else if b.state ≠ 1 then 0#32
  else if k = 14 then b.tfret
  else b.tw.toList.getD k 0#32

/-- RECV: the slot word named by ra; an absent lane gives 0 (R130). -/
def recvEff (n : Fin 24) (rd ra : BitVec 5) : Nat → State → Res := fun _ s =>
  let d := (s.ce[n]).readG ra
  if !recvOk d then .exc xAccess d
  else
    let v := if s.laneOk (descIndex d) then (s.lanes.toList.getD (descIndex d) {}).rx.recv (descWord d) else 0#32
    .done (s.modCe n (fun e => e.writeG rd v)) none 0

def execRecv (n : Fin 24) (pr : BitVec 4) (rd ra : BitVec 5) (s : State) : Out :=
  .next (issue n pr { readsG := [ra], writesG := [(rd, 8)] } (.recv n pr rd ra) (recvEff n rd ra) s)

/-! Pegs (R131). -/

/-- One peg instruction: ACCESS for a non-zero ra[31:8], ECC_D for an uncorrectable peg word, else one atomic operation.  CEn_XINFO of the
ECC_D is the operand ra, the peg's number, as for ACCESS: Table 3-17's data address names no form for a peg (DESIGN CHOICE, log entry
43). -/
def pegEff (n : Fin 24) (rd ra : BitVec 5) (op : Peg → Peg × Word) : Nat → State → Res := fun _ s =>
  let v := (s.ce[n]).readG ra
  if h : v.toNat < 256 then
    let k : Fin 256 := ⟨v.toNat, h⟩
    if s.badWord (pegAddr k) then .exc xEccD v
    else
      let lat := s.ssmLatency n
      let r := op s.pegs[k]
      .done (((lat.2.countSoftSsm (pegAddr k)).modPeg k (fun _ => r.1)).modCe n (fun e => e.writeG rd r.2)) none lat.1
  else .exc xAccess v

/-- A peg instruction that meets an uncorrectable word counts it (R155). -/
def pegCount (n : Fin 24) (ra : BitVec 5) (s : State) : State :=
  let v := (s.ce[n]).readG ra
  if v.toNat < 256 ∧ s.badWord (pegAddr v.toNat) then s.countBadSsm (pegAddr v.toNat) else s

/-- The instruction is performed now: it issues, it is legal and its predicate is true. -/
def State.performs (s : State) (n : Fin 24) (i : Instr) (pr : BitVec 4) : Bool :=
  s.canIssue n && s.fetchOk n && i.legal && (s.ce[n]).predTrue pr

def pegIssue (n : Fin 24) (pr : BitVec 4) (rd ra : BitVec 5) (i : Instr) (op : Peg → Peg × Word) (s : State) : State :=
  issue n pr { readsG := [ra], writesG := [(rd, 14)], mem := 14 } i (pegEff n rd ra op)
    (if s.performs n i pr then pegCount n ra s else s)

/-- PEGA: tries to acquire the peg (Table 4-8). -/
def execPega (n : Fin 24) (pr : BitVec 4) (rd ra : BitVec 5) (s : State) : Out :=
  .next (pegIssue n pr rd ra (.pega n pr rd ra) (fun p => p.acquire n.val) s)

/-- PEGR: releases a held peg and clears BROKEN (Table 4-8). -/
def execPegr (n : Fin 24) (pr : BitVec 4) (rd ra : BitVec 5) (s : State) : Out :=
  .next (pegIssue n pr rd ra (.pegr n pr rd ra) (fun p => p.release n.val) s)

/-- PEGRK: releases a held peg and leaves it BROKEN (Table 4-8). -/
def execPegrk (n : Fin 24) (pr : BitVec 4) (rd ra : BitVec 5) (s : State) : Out :=
  .next (pegIssue n pr rd ra (.pegrk n pr rd ra) (fun p => p.releaseBroken n.val) s)

/-- PEGQ: reads the peg state word (R131). -/
def execPegq (n : Fin 24) (pr : BitVec 4) (rd ra : BitVec 5) (s : State) : Out :=
  .next (pegIssue n pr rd ra (.pegq n pr rd ra) (fun p => (p, p.word)) s)

/-! WAITF and the deadline query (R132, R133). -/

/-- WAITF passes at once where the offset or the deadline has been reached, else the engine waits (Table 4-9). -/
def waitfEff (n : Fin 24) (pd : BitVec 3) (off : BitVec 16) : Nat → State → Res := fun _ s =>
  if s.dlPassed n then .done (s.modCe n (fun e => e.writeP pd false)) none 0
  else if s.offReached off.toNat then .done (s.modCe n (fun e => e.writeP pd true)) none 0
  else .done (s.modCe n (fun e => { e with waitf := some (pd, off) })) none 0

def execWaitf (n : Fin 24) (pr : BitVec 4) (pd : BitVec 3) (off : BitVec 16) (s : State) : Out :=
  .next (issue n pr { writesP := [(pd, 1)] } (.waitf n pr pd off) (waitfEff n pd off) s)

/-- WAITF_WAKE: the angle reaches the offset or the deadline threshold, whichever comes first; the deadline wins (R132).  The
next instruction issues after the wake, a reader of pd in the first engine cycle after it: Table 4-1's "1 after the wake" could also mean
one cycle later (DESIGN CHOICE, log entry 53). -/
def execWaitfWake (n : Fin 24) (s : State) : Out :=
  .next (match (s.ce[n]).waitf with
    | none => s
    | some (pd, off) =>
      if s.running n && !s.halted n && s.atuRuns then
        let s1 := if s.dlPassed n || s.offReached off.toNat then s else s.raiseAngle (min off.toNat (s.ce[n]).deadline)
        let b := !s1.dlPassed n
        s1.modCe n (fun e => { e.writeP pd b with waitf := none, tm := { e.tm with next := max e.tm.next (s1.wakeCycle n) } })
      else s)

/-- DLQ: the engine cycles left to the deadline (R133). -/
def execDlq (n : Fin 24) (pr : BitVec 4) (rd : BitVec 5) (s : State) : Out :=
  .next (issue n pr { writesG := [(rd, 3)] } (.dlq n pr rd)
    (fun _ s => .done (s.modCe n (fun e => e.writeG rd (BitVec.ofNat 32 (s.cyclesLeft n)))) none 0) s)

/-- DLCK: whether the cycles left are at least ra, unsigned (R133). -/
def execDlck (n : Fin 24) (pr : BitVec 4) (pd : BitVec 3) (ra : BitVec 5) (s : State) : Out :=
  .next (issue n pr { readsG := [ra], writesP := [(pd, 3)] } (.dlck n pr pd ra)
    (fun _ s => .done (s.modCe n (fun e => e.writeP pd (decide ((e.readG ra).toNat ≤ s.cyclesLeft n)))) none 0) s)

/-! COMMIT and ENDT (R114, R128, R134, R145). -/

/-- The release of R128: every lane and arm the engine owns takes its working copy for the fret s_fret. -/
def State.releaseAll (s : State) (n : Fin 24) : State :=
  let k := (s.ce[n]).sfret
  { s with
    lanes := s.lanes.mapFinIdx (fun i l _ =>
      if s.laneOk i && s.getF .CL_CFG_OWNER i == n.val then { l with launch := l.work, released := some k } else l),
    arms := s.arms.mapFinIdx (fun i x _ =>
      if s.getF .ARM_CFG_OWNER i == n.val then { x with launch := x.work, released := some k } else x) }

/-- The release and the code of COMMIT (Table of R134): 0 ACCEPTED, 1 LATE, 2 AGAIN.  The command issues in the FAB cycle that follows the
`tick` cycles passed, and is LATE where that cycle reaches the deadline threshold. -/
def State.commitOp (s : State) (n : Fin 24) : State × Word :=
  if (s.ce[n]).committed then (s.setF .CE_CSTAT_AGAIN n 1, 2#32)
  else if s.dlReaches n then (s.setF .CE_CSTAT_LATE n 1, 1#32)
  else ((s.releaseAll n).modCe n (fun e => { e with committed := true }), 0#32)

/-- COMMIT: a DRAINING engine's task ends at its accepted COMMIT (R145). -/
def commitEff (n : Fin 24) (rd : BitVec 5) : Nat → State → Res := fun t s =>
  let r := s.commitOp n
  let s1 := r.1.modCe n (fun e => e.writeG rd r.2)
  .done (if r.2 == 0#32 && s.getF .CE_STAT_ENST n == enstDraining then s1.endTask n t else s1) none 0

def execCommit (n : Fin 24) (pr : BitVec 4) (rd : BitVec 5) (s : State) : Out :=
  .next (issue n pr { writesG := [(rd, 2)] } (.commit n pr rd) (commitEff n rd) s)

/-- COMMIT.E: the same, then the end of the task whatever the status (R134). -/
def execCommitE (n : Fin 24) (pr : BitVec 4) (rd : BitVec 5) (s : State) : Out :=
  .next (issue n pr { writesG := [(rd, 2)] } (.commitE n pr rd)
    (fun t s =>
      let r := s.commitOp n
      .done ((r.1.modCe n (fun e => e.writeG rd r.2)).endTask n t) none 0) s)

/-- ENDT: the end of the task (R114). -/
def execEndt (n : Fin 24) (pr : BitVec 4) (s : State) : Out :=
  .next (issue n pr {} (.endt n pr) (fun t s => .done (s.endTask n t) none 0) s)

end Sys2Proof.Machine
end

