-- ==== Sys2Proof/Machine/Bus.lean ====
section
/-! DEFINITION. Register reads and writes word by word (R14, R15, R20 to R23, R491), the address map and its access rules (R485 to R489),
and the commands REGISTER_WRITE, READ_CLEAR and UNMAPPED_ACCESS. -/
namespace Sys2Proof.Machine

/-! Finding a register (R15, R492). -/

/-- The instance at offset `o` from instance 0, for the (count, stride) of each index. -/
def locate (o : Nat) : List (Nat × Nat) → Option Nat
  | [] => if o = 0 then some 0 else none
  | [(c, st)] => if o % st = 0 ∧ o / st < c then some (o / st) else none
  | (c, st) :: (d, su) :: _ => if o / st < c ∧ o % st % su = 0 ∧ o % st / su < d then some (o / st * d + o % st / su) else none

def RegSpec.locate (r : RegSpec) (a : Nat) : Option Nat := if a < r.base then none else Machine.locate (a - r.base) r.dims

/-- The register and instance at an address. -/
def findReg (a : Nat) : Option (Reg × Nat) :=
  regTable.findSome? (fun t => t.findSome? (fun e => (e.2.locate a).map (fun i => (e.1, i))))

/-- The first index of an instance. -/
def RegSpec.major (r : RegSpec) (i : Nat) : Nat := match r.dims with | [_, (d, _)] => i / d | _ => i

/-- The register belongs to a present unit whose domain is powered (R5, R458). -/
def State.regLive (s : State) (r : Reg) (i : Nat) : Bool :=
  let p := r.spec
  let n := p.major i
  let present :=
    if p.base < 0x40000000 then s.engOk n
    else if 0x40080000 ≤ p.base ∧ p.base < 0x40098000 then s.laneOk n
    else if 0x400B0000 ≤ p.base ∧ p.base < 0x400B0C00 then s.pairOk n
    else if 0x40100000 ≤ p.base ∧ p.base < 0x40110000 then s.portOk n
    else true
  present && (match p.flds with | f :: _ => s.powered (fldDomain f i) | [] => true)

/-! Reading. -/

/-- The present value of a field: some show live state of the unit, the others are stored. -/
def State.readF (s : State) (f : Fld) (i : Nat) : Nat :=
  let slot := s.sec.slots.toList.getD i {}
  match f with
  | .SYS_ID_PART => s.variant.sysId / 65536
  | .SYS_ID_STEP => s.variant.sysId / 256 % 256
  | .SYS_CAP0_LANEQ_PRESENT => s.cap 0
  | .SYS_CAP1_CE_PRESENT => s.cap 1
  | .SYS_CAP2_PW_PRESENT => s.cap 2
  | .SYS_CAP3_ADC_PRESENT => bitsOf (s.cap 3) 23 16
  | .SYS_CAP3_SUP_PRESENT => bitsOf (s.cap 3) 11 8
  | .SYS_CAP3_SAF_PRESENT => bitsOf (s.cap 3) 6 6
  | .SYS_CAP3_AUX_PRESENT => bitsOf (s.cap 3) 5 5
  | .SYS_CAP3_MIR_PRESENT => bitsOf (s.cap 3) 4 4
  | .SYS_CAP3_HP_PRESENT => bitsOf (s.cap 3) 3 0
  | .PMC_BTN_MMREQ => b2n s.pmc.mmreq
  | .PMC_START_FAILCNT => min 15 s.pmc.failcnt
  | .PMC_PDSTAT_PWR => ((List.range 14).map (fun d => b2n (s.powered d) * 2 ^ d)).sum
  | .ATU_ANGLE_ANGLE => s.angle
  | .CMP_STATUS_LATCH => b2n (s.latched i)
  | .CMP_STATUS_WINERR => b2n (s.winErr i)
  | .TPIN_STATUS_LATCH => b2n (s.latched (32 + i))
  | .SER_STAT_SOUTST => s.soutReads.toNat
  | .TRIP_STAT_FG => s.fgLines
  | .TRIP_STAT_UNRES => b2n s.unresolved
  | .PW_STAT_FROZEN => b2n s.frozen
  | .PW_CNT_CNT => (s.pairs.toList.getD i {}).cnt
  | .PW_CNT_DOWN => b2n (s.pairs.toList.getD i {}).down
  | .HP_TSQID_VALID => b2n (!(s.hp.toList.getD i {}).tsq.isEmpty)
  | .HP_TSQID_TSID => (((s.hp.toList.getD i {}).tsq).headD (0, 0)).1
  | .TIME_NS_NS => s.clock.ns
  | .TIME_CNS_CNS => s.compact
  | .SEC_LIFE_STATE => if s.sec.deployed then 2 else 1
  | .SEC_SLOT_PROG => b2n slot.prog
  | .SEC_SLOT_REVOKED => b2n slot.dead
  | .SEC_SLOT_USE => slot.use
  | .SEC_ARB_ENG => s.sec.arbEng.floor
  | .SEC_ARB_SER => s.sec.arbSer.floor
  | .SEC_ARB_FW => s.sec.arbFw.floor
  | .SEC_DEVID_DEVID => leNat ((devidBytes.drop (4 * i)).take 4)
  | f => s.getF f i

/-- A field as a read shows it: a WO field reads 0 (R23). -/
def State.showF (s : State) (f : Fld) (i : Nat) : Nat :=
  if f.spec.acc = .wo then 0 else s.readF f i % 2 ^ f.width

/-- A register as a read shows it; reserved bits and the reserved HP1_PRP and HP3_PRP read 0 (R21, R368). -/
def State.showReg (s : State) (r : Reg) (i : Nat) : Word :=
  if r = .HP_PRP ∧ i % 2 = 1 then 0#32 else
  BitVec.ofNat 32 ((r.spec.flds.map (fun f => s.showF f i * 2 ^ f.spec.lo)).sum)

/-- The RC fields of a register are cleared by its read (R23). -/
def State.clearRc (s : State) (r : Reg) (i : Nat) : State :=
  r.spec.flds.foldl (fun t f => if f.spec.acc = .rc then t.setF f i 0 else t) s

/-- A read of a register with its side effects (R491), for a reader with a holding latch of the station time (R372). -/
def State.readReg (s : State) (rd : TimeReader) (r : Reg) (i : Nat) : Word × State :=
  if !s.regLive r i then (0#32, s)
  else match r with
  | .HP_TSQTS => s.popTsq (Fin.ofNat 4 i)
  | .TIME_NS => s.readTimeNs rd
  | .TIME_SECH => (BitVec.ofNat 32 (s.secLatch[readerLatch rd] / 2 ^ 32 % 65536), s)
  | .TIME_SECL => (BitVec.ofNat 32 (s.secLatch[readerLatch rd]), s)
  | .DBG_CHAL =>
    if i = 0 then (let t := s.drawChallenge; (t.showReg .DBG_CHAL 0, t)) else (s.showReg r i, s)
  | r => (s.showReg r i, s.clearRc r i)

/-! Writing. -/

/-- LOCK and LKERR of the block that a register lies in; the mirror has no LKERR. -/
def blockLock (a : Nat) : Option (Fld × Option Fld) :=
  if 0x40060000 ≤ a ∧ a < 0x40070000 then some (.MOD_CTRL_LOCK, some .MOD_STAT_LKERR)
  else if 0x40080000 ≤ a ∧ a < 0x400A0000 then some (.CLG_CTRL_LOCK, some .CLG_STAT_LKERR)
  else if 0x400A0000 ≤ a ∧ a < 0x400B0000 then some (.TRIP_CTRL_LOCK, some .TRIP_STAT_LKERR)
  else if 0x400B0000 ≤ a ∧ a < 0x400C0000 then some (.PWM_CTRL_LOCK, some .PWM_STAT_LKERR)
  else if 0x400C0000 ≤ a ∧ a < 0x400D0000 then some (.ADC_CTRL_LOCK, some .ADC_STAT_LKERR)
  else if 0x400D0000 ≤ a ∧ a < 0x400E0000 then some (.AUX_CTRL_LOCK, some .AUX_STAT_LKERR)
  else if 0x40130000 ≤ a ∧ a < 0x40140000 then some (.MIR_CTRL_LOCK, none)
  else none

/-- The block's LOCK is set. -/
def State.isLocked (s : State) (lk : Option (Fld × Option Fld)) : Bool :=
  match lk with
  | some (f, _) => s.bit f 0
  | none => false

/-- Sets the block's LKERR. -/
def State.lockError (s : State) (lk : Option (Fld × Option Fld)) : State :=
  match lk with
  | some (_, some f) => s.setF f 0 1
  | _ => s

/-- The bits of a field in a written word. -/
def Fld.of (f : Fld) (w : Word) : Nat := bitsOf w.toNat f.spec.hi f.spec.lo

/-- A write of one field by its access code (Table 0-9). -/
def State.writeField (s : State) (lk : Option (Fld × Option Fld)) (f : Fld) (i v : Nat) : State :=
  match f.spec.acc with
  | .rw => s.setF f i v
  | .w1c => s.setF f i (s.getF f i - (s.getF f i &&& v))
  | .w1s => s.setF f i (s.getF f i ||| v)
  | .rwl => if s.isLocked lk then (if v = s.getF f i then s else s.lockError lk) else s.setF f i v
  | .ro | .rc | .wo => s

/-- A write of the fields of a register other than those of `skip`. -/
def State.writeFields (s : State) (r : Reg) (i : Nat) (w : Word) (skip : List Fld) : State :=
  r.spec.flds.foldl (fun t f => if skip.contains f then t else t.writeField (blockLock r.spec.base) f i (f.of w)) s

/-- A write that would change a field while an activation or a swap is under way is refused with `err` (R69, R153, R233). -/
def State.guardedWrite (s : State) (busy : Bool) (err f : Fld) (i v : Nat) : State :=
  if busy then (if v = s.getF f i then s else s.setF err 0 1) else s.setF f i v

/-- A field with the coding of DSTATE and TSTATE: 0b11 is refused, with CFGERR, or with LKERR under LOCK as any other value that differs
(Table 10-5, R23). -/
def State.writeSwitch (s : State) (f : Fld) (n : Nat) (w : Word) : State :=
  if f.of w = 3 ∧ s.isLocked (blockLock 0x400B0000) = false then s.setF .PW_STAT_CFGERR n 1
  else s.writeField (blockLock 0x400B0000) f n (f.of w)

/-- A configuration write to an input of the trip fabric: the ticks count from now on, and in continuous mode the input is decided at
once. -/
def State.redecide (s : State) (x : TripIn) : State :=
  let s1 := s.modTrIn x (fun t => { t with cntAt := s.tick })
  if s.sampled x then s1 else s1.decideIn x

/-- A write of EIREQ of a lane (R208, R210). -/
def State.writeEireq (s : State) (n : Fin 96) (v : Bool) : State :=
  if v then s.eireqSet n else s.eireqClear n

/-- A write of ATU_CTRL.SRCREQ: writing the source in use with no handover waiting requests nothing (log entry 12). -/
def State.writeAtuSource (s : State) (v : Nat) : State :=
  if v = s.src ∧ s.atu.handover = none then s.setF .ATU_CTRL_SRCREQ 0 v else s.writeSrcreq v

/-- Performs an operation where a bit of the written word is set. -/
def onBit (w : Word) (b : Nat) (f : State → State) (s : State) : State := if w.getLsbD b then f s else s

/-- A control-plane or engine write of a whole register that is present and powered.  Flags of access W1C are cleared first, so that a new
hardware set wins (R23). -/
def State.putReg (s : State) (r : Reg) (i : Nat) (w : Word) : State :=
  let g := fun (skip : List Fld) => s.writeFields r i w skip
  let n24 : Fin 24 := Fin.ofNat 24 i
  let n96 : Fin 96 := Fin.ofNat 96 i
  let n8 : Fin 8 := Fin.ofNat 8 i
  let n4 : Fin 4 := Fin.ofNat 4 i
  match r with
  | .CE_ACTCTRL => s.writeActCtrl (w.getLsbD 9) (w.getLsbD 8)
  | .CE_ACTAT => s.guardedWrite s.actBusy .CE_ACTSTAT_WRPEND .CE_ACTAT_AT 0 w.toNat
  | .CE_ACTMASK => s.guardedWrite s.actBusy .CE_ACTSTAT_WRPEND .CE_ACTMASK_MASK 0 (w.toNat % 2 ^ 24)
  | .PMC_ARM => (g []).writeArm (w.getLsbD 0) (w.getLsbD 1) (w.getLsbD 8)
  | .PMC_RSTCTRL => if w.getLsbD 0 then (g []).warmRequest (w.extractLsb' 4 4) else (g []).supReset (w.extractLsb' 4 4)
  | .PMC_PDREQ => s.writePdreq (bitsOf w.toNat 13 4)
  | .CLK_PLL_CTRL => (onBit w 1 (fun t => t.relock n4) (g [])).autoRelock n4
  | .CLK_PLL_BAND => s.writeBand (Fin.ofNat 4 (i / 16)) (i % 16) w
  | .THERM_MASK => s.writeThermMask (bitsOf w.toNat 11 0)
  | .ATU_CTRL => (onBit w 8 State.snapshot (s.writeAtuSource (bitsOf w.toNat 5 4))).writeEn .atu (w.getLsbD 0)
  | .ATU_CFG => (((g [.ATU_CFG_FPCSEL]).svSelect s.svStream).writeFpcsel (bitsOf w.toNat 1 0)).svCheck
  | .SVF_CTRL => (g []).svCheck
  | .FRET_CTRL => (s.writeFretSwap (w.getLsbD 9) (w.getLsbD 8)).writeEn .fret (w.getLsbD 0)
  | .FRET_SWAPAT => s.guardedWrite s.fretBusy .FRET_STAT_WRPEND .FRET_SWAPAT_SWAPAT 0 w.toNat
  | .FRET_PLEN => s.writePlen i (bitsOf w.toNat 2 0)
  | .MOD_CTRL =>
    let t := s.writeLock .mod (w.getLsbD 2) (w.getLsbD 3)
    if w.getLsbD 4 then (if t.inS4 then t.setF .MOD_STAT_DISERR 0 1 else t.modReset) else t.writeEn .mod (w.getLsbD 0)
  | .ARM_CFG => (g [.ARM_CFG_EN]).writeEn (.arm (Fin.ofNat 6 i)) (w.getLsbD 31)
  | .CL_CTRL => (g [.CL_CTRL_EN]).writeEn (.lane n96) (w.getLsbD 0)
  | .CL_BCTRL =>
    (List.finRange 4).foldl (fun t e => onBit w (4 + e.val) (fun u => u.bulkFree n96 e) (onBit w e.val (fun u => u.bulkGo n96 e) t))
      (g [.CL_BCTRL_RXFREE, .CL_BCTRL_TXGO])
  | .CL_PHYCTRL =>
    onBit w 9 (fun t => t.retrain n96)
      ((((g [.CL_PHYCTRL_EIREQ, .CL_PHYCTRL_RATE]).rxPolarity n96).writeRate n96 (w.getLsbD 0)).writeEireq n96 (w.getLsbD 10))
  | .CL_TXEQ => s.writeTxeq (.lane n96) w
  | .CL_PATCTRL => s.writePatctrl (.lane n96) w
  | .CLG_CTRL =>
    let t := (g [.CLG_CTRL_CLRGO, .CLG_CTRL_SWAP, .CLG_CTRL_SWAPMODE, .CLG_CTRL_LOCK]).writeLock .clg (w.getLsbD 0) (w.getLsbD 1)
    onBit w 9 State.clearRequest (t.writeClgSwap (w.getLsbD 4) (w.getLsbD 8))
  | .CLG_SWAPAT => s.guardedWrite s.clgBusy .CLG_STAT_WRPEND .CLG_SWAPAT_SWAPAT 0 w.toNat
  | .CLG_SWAPMASK => s.guardedWrite s.clgBusy .CLG_STAT_WRPEND .CLG_SWAPMASK_MASK i w.toNat
  | .CMP_CTRL => ((g (if i < 4 then [.CMP_CTRL_EN] else [.CMP_CTRL_EN, .CMP_CTRL_OINV])).redecide (.cmp (Fin.ofNat 32 i))).writeEn (.cmp (Fin.ofNat 32 i)) (w.getLsbD 0)
  | .CMP_THRH | .CMP_THRL | .CMP_FILT | .CMP_BLANK => (g []).redecide (.cmp (Fin.ofNat 32 i))
  | .TPIN_CTRL => ((g [.TPIN_CTRL_EN]).redecide (.pin n8)).writeEn (.tpin n8) (w.getLsbD 0)
  | .TPIN_FILT | .TPIN_BLANK => (g []).redecide (.pin n8)
  | .TRIP_CTRL => onBit w 9 State.muteClear (s.writeLock .trip (w.getLsbD 0) (w.getLsbD 1))
  | .TRIP_LAT0 => s.clearLatches 0 w
  | .TRIP_LAT1 => s.clearLatches 1 w
  | .TRIP_LAT2 => s.clearLatches 2 w
  | .TRIP_SUPREQ => onBit w 0 State.supTrip s
  | .TRIP_SWROUTE => s.writeRoute .sw w
  | .TRIP_SUPROUTE => s.writeRoute .sup w
  | .TRIP_ROUTE => s.writeRoute (.src (Fin.ofNat 40 i)) w
  | .TRIP_SWREQ => if s.engOk i then onBit w 0 (fun t => t.swTrip n24) s else s
  | .PW_CTRL => (g [.PW_CTRL_EN]).writeEn (.pw n24) (w.getLsbD 0)
  | .PW_CFG => ((g [.PW_CFG_DSTATE]).writeSwitch .PW_CFG_DSTATE i w).settle n24
  | .PW_TRIP =>
    let t := ((g [.PW_TRIP_TSTATE]).writeSwitch .PW_TRIP_TSTATE i w).settle n24
    onBit w 20 (fun u => u.tripClear n24) t
  | .PW_CBC => (g []).settle n24
  | .PW_OVR => s.writeOvr n24 (bitsOf w.toNat 1 0) (bitsOf w.toNat 3 2)
  | .PWM_CTRL => s.writeLock .pwm (w.getLsbD 0) (w.getLsbD 1)
  | .PWM_START => s.pwmStart (bitsOf w.toNat 23 0)
  | .AD_CTRL =>
    if w.getLsbD 16 then s.adReset n8 else (s.writeEn (.ad n8) (w.getLsbD 0)).swgo n8 (bitsOf w.toNat 11 8)
  | .AD_TDAC => s.writeTdac n8 w
  | .ADC_CTRL => s.writeLock .adc (w.getLsbD 0) (w.getLsbD 1)
  | .AUX_CTRL => (g [.AUX_CTRL_LOCK]).writeLock .aux (w.getLsbD 0) (w.getLsbD 1)
  | .AUXH_CTRL => s.writeEn (.aux n4) (w.getLsbD 0)
  | .AUXH_OVR => s.writeAuxOvr n4 (bitsOf w.toNat 1 0) (bitsOf w.toNat 3 2)
  | .VREG_VID => s.writeVid (bitsOf w.toNat 7 0)
  | .VREG_CFG => let t := (g []).phasesFitted; if t.bit .VREG_CFG_SYNCEN 0 then t else t.setF .VREG_STAT_SYNCACT 0 0
  | .HP_CTRL => ((g [.HP_CTRL_EN, .HP_CTRL_MODE]).writeHpMode n4 (bitsOf w.toNat 3 2)).writeEn (.hp n4) (w.getLsbD 0)
  | .HP_TQ0IDX => s.writeTail n4 0 (bitsOf w.toNat 31 16)
  | .HP_TQ1IDX => s.writeTail n4 1 (bitsOf w.toNat 31 16)
  | .HP_PRP => if i % 2 = 0 then g [] else s
  | .HP_TXEQ => s.writeTxeq (.host n4) w
  | .HP_PATCTRL => s.writePatctrl (.host n4) w
  | .TIME_CTRL => if w.getLsbD 0 then s.timeSetAll else onBit w 1 State.timeStepAll s
  | .TIME_SECH | .TIME_SECL | .TIME_NS => s
  | .TOUT_CTRL => (g [.TOUT_CTRL_EN]).writeEn (.tout n8) (w.getLsbD 0)
  | .MIR_CTRL =>
    let t := s.writeLock .mir (w.getLsbD 0) (w.getLsbD 1)
    onBit w 3 State.claimRole (onBit w 2 State.requestHandover (t.writeEn .mir (w.getLsbD 8)))
  | .MIR_CFG => (g []).pairChanged
  | .ML_PHYCTRL =>
    onBit w 9 State.mirRetrain ((g []).mirPolarity n4)
  | .ML_TXEQ => s.writeTxeq (.mirror n4) w
  | .ML_PATCTRL => s.writePatctrl (.mirror n4) w
  | .DBG_PWM_FREEZE => if s.debugLevel.testBit 2 then forIdx (n := 24) (fun k t => t.settle k) (g []) else s
  | .CE_CTRL =>
    let t := g [.CE_CTRL_EN]
    if w.getLsbD 16 then t.ceReset n24 else t.writeEn (.ce n24) (w.getLsbD 0)
  | _ => g []

/-- A write of a register; the registers of an absent unit or an unpowered domain ignore it (R5). -/
def State.writeReg (s : State) (r : Reg) (i : Nat) (w : Word) : State := if s.regLive r i then s.putReg r i w else s

/-! The address map (R485 to R489). -/

/-- The registers that a locked debug port may read (R481). -/
def lockedReads : List Nat := [0x40010000, 0x40030000, 0x4003000C, 0x40160020, 0x40160024, 0x40160028, 0x4016002C, 0x40160030, 0x40160034,
  0x40160038, 0x4016003C]

/-- The agent reaches the place (Table 20-2, R361, R481). -/
def State.reaches (s : State) (ag : Agent) (a : Nat) (wr : Bool) : Bool :=
  let p := placeOf a
  match ag with
  | .sup _ => p != .none
  | .saf => (p == .reg && decide (0x400F0000 ≤ a ∧ a < 0x40100000)) || p == .mram
  | .dma | .hostDma =>
    match p with
    | .ssm | .peg | .mram => true
    | .ceMem _ off => decide (off < 0x90000)
    | _ => false
  | .debug =>
    let l := s.debugLevel
    (!wr && lockedReads.contains a) ||
    match p with
    | .none => false
    | .ceMem _ _ => l.testBit 1 || l.testBit 0
    | .reg => l.testBit 1 || (l.testBit 2 && wr && a == 0x40160040)
    | _ => l.testBit 1

/-- The word at a memory address holds an uncorrectable error. -/
def State.eccAt (s : State) (a : Nat) : Bool :=
  match placeOf a with
  | .ssm | .peg | .ceMem _ _ => s.badWord a
  | _ => false

/-- The cause with which an access of `k` bytes errs, none where it is performed or ignored (R5, R161, R486, R487, R489, R94, R155).  A write
of the ROM or MRAM by an agent that may not make it is ignored (R487). -/
def State.accessErr (s : State) (ag : Agent) (a k : Nat) (wr : Bool) : Option Nat :=
  let p := placeOf a
  if s.absentAt a then none
  else if !s.reaches ag a wr then
    if wr = true ∧ (p = .rom ∨ p = .mram) then none
    else if (ag = .dma ∨ ag = .hostDma) ∧ inRegSpace a = true then some causeDmareg else some causeUnmapped
  else if !sizeOk ag a k then some causeWidth
  else if !(s.badWords a k wr).isEmpty then some causeEcc
  else none

/-- An error of an access of `k` bytes, with the counts that uncorrectable words of the SSM move (R155). -/
def State.accessError (s : State) (cause : Nat) (ag : Agent) (a k : Nat) (wr : Bool) : State :=
  let s1 := if cause = causeEcc ∧ (placeOf a = .ssm ∨ placeOf a = .peg) then (s.badWords a k wr).foldl (fun t w => t.countBadSsm w) s else s
  s1.busError cause ag a wr

/-- PWn_CMPA or PWn_CMPB. -/
def isCompare (a : Nat) : Bool := decide (0x400B0000 ≤ a ∧ a < 0x400B0C00) && (a % 0x80 == 0x10 || a % 0x80 == 0x14)

/-- The block takes writes of this agent: SAFETY only from SAF, and PMC, JOURNAL, SEC and DBG only from SUP0–SUP3, but for FREEZE
(R361, R486, R481); the supervisory cores have no path to the PWM compares in S4 (Table 1-2). -/
def State.blockWritable (s : State) (ag : Agent) (a : Nat) : Bool :=
  match ag with
  | .sup _ => !decide (0x400F0000 ≤ a ∧ a < 0x40100000) && !(s.inS4 && isCompare a)
  | .saf => true
  | _ => !(decide (0x40010000 ≤ a ∧ a < 0x40020000) || decide (0x400F0000 ≤ a ∧ a < 0x40100000) || decide (0x40120000 ≤ a ∧ a < 0x40130000) ||
      decide (0x40150000 ≤ a ∧ a < 0x40170000 ∧ a ≠ 0x40160040))

/-- The lane, entry and offset of a lane's memory windows (Table 8-13). -/
def laneOff (a : Nat) : Option (Fin 96 × Nat) :=
  if 0x40080000 ≤ a ∧ a < 0x40098000 then some (Fin.ofNat 96 ((a - 0x40080000) / 0x400), a % 0x400) else none

/-- A word write into the register space or the control registers of an engine: a register, the fret table, a slot table, a bulk transmit
entry, or an unassigned offset (R21). -/
def State.writeSpace (s : State) (a : Nat) (w : Word) : State :=
  match findReg a with
  | some (r, i) => s.writeReg r i w
  | none =>
    if 0x40058000 ≤ a ∧ a < 0x40060000 then (if s.powered domProt then s.writeFretTable (a - 0x40050000) w else s)
    else match laneOff a with
      | some (n, o) =>
        if !s.unitLive (.lane n) then s
        else if 0x100 ≤ o ∧ o < 0x180 then s.writeSlot n (o - 0x100) w
        else if 0x180 ≤ o ∧ o < 0x240 then s.setWord a w
        else s
      | none => s

/-- Where the parameter store begins (Table 19-5).  Credential 0 stands first, its mask and its key, at the place where the debug port writes
it in PROVISION (R480; DESIGN CHOICE, log entry 53). -/
def paramStore : Nat := mram + 0x1E10000

/-- A word of MRAM: the journal is the journal engine's alone, firmware writes the other regions (R474); the debug port writes credential 0. -/
def State.writeMram (s : State) (ag : Agent) (a : Nat) (w : Word) : State :=
  match ag with
  | .sup _ => if a < mram + 0x1000000 then s else s.setWord a w
  | .debug =>
    if !s.sec.deployed && decide (paramStore ≤ a ∧ a < paramStore + 36) then
      let t := s.setWord a w
      t.setCred 0 (t.byte paramStore) (t.readList (paramStore + 1) 32)
    else s
  | _ => s

/-- A word write into a memory place. -/
def State.writeMem (s : State) (ag : Agent) (a : Nat) (w : Word) : State :=
  match placeOf a with
  | .ssm =>
    if !s.powered domProt || s.ringFixed a then s
    else
      let t := (s.setWord a w).freshWord a
      if a = 0x10700008 then t.consNote w else t
  | .ceMem n off =>
    if !s.unitLive (.ce n) then s
    else if 0x80000 ≤ off ∧ off < 0x90000 then (s.setWord a w).freshWord a
    else s.writeBank n off w.toNat 4
  | .mram => s.writeMram ag a w
  | _ => s

/-- A word write by an agent of the control plane. -/
def State.busWrite (s : State) (ag : Agent) (a : Nat) (w : Word) : State :=
  if !s.canAccess ag a then s
  else match s.accessErr ag a 4 true with
  | some c => s.accessError c ag a 4 true
  | none =>
    let t := match placeOf a with
      | .reg | .ceReg => if s.blockWritable ag a then s.writeSpace a w else s
      | _ => s.writeMem ag a w
    t.answer 0#32

/-- REGISTER_WRITE: a word write to a register without a row of its own, or to any other place. -/
def execRegWrite (ag : Agent) (addr : BitVec 40) (w : Word) (s : State) : Out := .next (s.busWrite ag addr.toNat w)

/-! Reads. -/

/-- The reader of the station time that an agent is (R372). -/
def readerOf : Agent → TimeReader
  | .sup k => .sup k
  | _ => .other

/-- A word of a peg's area read without a peg operation: its state at offset 0 (Table 5-4). -/
def State.pegWord (s : State) (a : Nat) : Word :=
  if a % 16 = 0 then (s.pegs[(Fin.ofNat 256 ((a - 0x107FF000) / 16))]).word else 0#32

/-- A word of the register space read by a reader; a lane's receive buffer shows the newest telemetry (Table 8-13). -/
def State.readSpace (s : State) (rd : TimeReader) (a : Nat) : Word × State :=
  match findReg a with
  | some (r, i) => s.readReg rd r i
  | none =>
    if 0x40058000 ≤ a ∧ a < 0x40060000 then (if s.powered domProt then s.word a else 0#32, s)
    else match laneOff a with
      | some (n, o) =>
        if !s.unitLive (.lane n) then (0#32, s)
        else if 0x40 ≤ o ∧ o < 0x80 then ((s.lanes[n]).rx.recv ((o - 0x40) / 4), s)
        else if 0x100 ≤ o ∧ o < 0x300 then (s.word a, s)
        else (0#32, s)
      | none => (0#32, s)

/-- A word of a memory place; a corrected word is counted (R94, R155). -/
def State.readMem (s : State) (a : Nat) : Word × State :=
  match placeOf a with
  | .ssm => if s.powered domProt then (s.word a, s.countSoftSsm a) else (0#32, s)
  | .ceMem n off =>
    if !s.unitLive (.ce n) || !(decide (0x80000 ≤ off ∧ off < 0x90000) || (bankOf off).isSome) then (0#32, s)
    else (s.word a, s.countSoftCe n a)
  | .rom | .mram => (s.word a, s)
  | .peg => if s.powered domProt then (s.pegWord a, if a % 16 = 0 then s.countSoftSsm a else s) else (0#32, s)
  | _ => (0#32, s)

/-- A word read by an agent of the control plane.  A core's read of a peg's offsets 0x4 to 0xC is a peg operation (R161). -/
def State.busRead (s : State) (ag : Agent) (a : Nat) : State :=
  if !s.canAccess ag a then s
  else match s.accessErr ag a 4 false with
  | some c => s.accessError c ag a 4 false
  | none =>
    match placeOf a, ag with
    | .reg, _ | .ceReg, _ => let r := s.readSpace (readerOf ag) a; r.2.answer r.1
    | .peg, .sup core =>
      let k : Fin 256 := Fin.ofNat 256 ((a - 0x107FF000) / 16)
      let me := 0x20 + core.val
      if a % 16 = 0 then (s.readMem a).2.answer (s.readMem a).1
      else if a % 16 = 4 then s.pegRead core k 4 (fun p => p.acquire me)
      else if a % 16 = 8 then s.pegRead core k 8 (fun p => p.release me)
      else s.pegRead core k 12 (fun p => p.releaseBroken me)
    | _, _ => let r := s.readMem a; r.2.answer r.1

/-- READ_CLEAR: a read of a register with RC fields, or of any other place. -/
def execReadClear (ag : Agent) (addr : BitVec 40) (s : State) : Out := .next (s.busRead ag addr.toNat)

/-! Accesses of any size (R487). -/

/-- A byte of a memory place, as a word read there shows it. -/
def State.memByte (s : State) (x : Nat) : Byte := ((s.readMem (x / 4 * 4)).1 >>> (8 * (x % 4))).setWidth 8

/-- A read of `k` bytes of a memory place. -/
def State.readMemBytes (s : State) (a k : Nat) : State :=
  let l := (List.range k).map (fun i => s.memByte (a + i))
  let t := (wordsOf a k).foldl (fun t w => (t.readMem w).2) s
  { t with resp := ⟨BitVec.ofNat 32 (leNat (l.take 4)), if k ≤ 4 then [] else l, false⟩ }

/-- A write of bytes into a memory place: each word with those of its bytes that the write names. -/
def State.writeMemBytes (s : State) (ag : Agent) (a : Nat) (l : List Byte) : State :=
  let new := fun (w : Nat) => BitVec.ofNat 32 (leNat ((List.range 4).map (fun i =>
    if a ≤ w + i then l.getD (w + i - a) (s.byte (w + i)) else s.byte (w + i))))
  (((wordsOf a l.length).foldl (fun t w => t.writeMem ag w (new w)) (s.countPartial a l.length))).answer 0#32

/-- An access of `k` bytes: of a word as REGISTER_WRITE and READ_CLEAR have it, of any other size in a memory place. -/
def State.access (s : State) (ag : Agent) (a : Nat) (wr : Option (List Byte)) (k : Nat) : State :=
  if k = 4 then
    match wr with
    | some l => s.busWrite ag a (BitVec.ofNat 32 (leNat l))
    | none => s.busRead ag a
  else if !s.canAccess ag a then s
  else match s.accessErr ag a k wr.isSome with
    | some c => s.accessError c ag a k wr.isSome
    | none =>
      match wr with
      | some l => s.writeMemBytes ag a l
      | none => s.readMemBytes a k

/-- UNMAPPED_ACCESS: an access of `size` bytes, with the bytes written, none for a read.  One that errs is refused and recorded (R486, R487,
R489); one that the place takes is performed. -/
def execUnmappedAccess (ag : Agent) (addr : BitVec 40) (wr : Option (List Byte)) (size : Nat) (s : State) : Out :=
  .next (s.access ag addr.toNat wr size)

/-! Bulk copies (Table 20-2). -/

/-- A read of word `a` without side effects: what READ of R393 gives (R491). -/
def State.peek (s : State) (a : Nat) : Word :=
  match placeOf a with
  | .reg | .ceReg =>
    match findReg a with
    | some (.HP_TSQTS, i) => BitVec.ofNat 32 (((s.hp.toList.getD i {}).tsq).headD (0, 0)).2
    | some (.TIME_SECH, i) => (s.readReg .other .TIME_SECH i).1
    | some (.TIME_SECL, i) => (s.readReg .other .TIME_SECL i).1
    | some (r, i) => if s.regLive r i then s.showReg r i else 0#32
    | none => (s.readSpace .other a).1
  | _ => if s.eccAt a then 0#32 else (s.readMem a).1

/-- The first address of a range at which an access by the DMA engine errs.  A word written whole takes fresh check bits, whatever it held
(R94, R155).  The peg area takes aligned 32-bit accesses alone (R161); that no access of a copy is one is the model's choice (DESIGN
CHOICE, log entry 53). -/
def State.dmaErr (s : State) (a len : Nat) (wr : Bool) : Option (Nat × Nat) :=
  (List.range len).findSome? (fun k =>
    let x := a + k
    if placeOf x = .peg then some (causeWidth, x)
    else (s.accessErr .dma (if wr && wholeWord a len x then x / 4 * 4 else x) (if wr && wholeWord a len x then 4 else 1) wr).map (fun c => (c, x)))

/-- The corrected words that a copy reads (R94, R155). -/
def State.dmaSoft (s : State) (a len : Nat) : State :=
  (List.range len).foldl (fun t k =>
    if k = 0 ∨ (a + k) % 4 = 0 then t.countSoft (a + k) else t) s

/-- One byte read for a copy; the registers and windows of an absent unit read 0 (R5). -/
def State.dmaGet (s : State) (a : Nat) : Byte :=
  match placeOf a with
  | .reg | .ceReg => 0#8
  | .ceMem n off => if s.unitLive (.ce n) && (decide (0x80000 ≤ off ∧ off < 0x90000) || (bankOf off).isSome) then s.byte a else 0#8
  | _ => s.byte a

/-- One byte of a copy: banks and entry tables by R148, MRAM is not written (R487). -/
def State.dmaByte (s : State) (a : Nat) (b : Byte) : State :=
  match placeOf a with
  | .ssm => if s.ringFixed a then s else (s.setByte a b).freshWord a
  | .ceMem n off =>
    if !s.unitLive (.ce n) then s
    else if 0x80000 ≤ off ∧ off < 0x90000 then (s.setByte a b).freshWord a
    else s.writeBank n off b.toNat 1
  | _ => s

def State.dmaPut (s : State) (a : Nat) : List Byte → State
  | [] => s
  | b :: t => (s.dmaByte a b).dmaPut (a + 1) t

/-- DMA_DESCRIPTOR_COMPLETE: the copy of one descriptor, refused as a whole where a byte of it lies out of reach, and the end of a drain
(Table 1-7, Table 20-5). -/
def execDmaDescriptorComplete (src dst : BitVec 40) (len : Nat) (s : State) : Out :=
  .next (if s.dmaEnst = enstOff || !(s.coresRun && s.sysRuns && s.powered 3) then s
  else
    let s1 := match s.dmaErr src.toNat len false, s.dmaErr dst.toNat len true with
      | some (c, a), _ => s.accessError c .dma a 1 false
      | none, some (c, a) => s.accessError c .dma a 1 true
      | none, none => ((s.dmaSoft src.toNat len).countPartial dst.toNat len).dmaPut dst.toNat ((List.range len).map (fun k => s.dmaGet (src.toNat + k)))
    if s.dmaEnst = enstDraining then { s1 with dmaEnst := enstOff } else s1)

end Sys2Proof.Machine
end

