-- ==== Sys2Proof/Machine/HostCmd.lean ====
section
/-! DEFINITION. The host commands of Table 15-2 (R386 to R409, R446 to R448, R479) and the datagrams that are malformed. -/
namespace Sys2Proof.Machine

/-! The answers to class U requests. -/

def cdPing : Nat := 0x100
def cdQuery : Nat := 0x101
def cdRead : Nat := 0x102
def cdLogRead : Nat := 0x103
def cdAttest : Nat := 0x104
def cdImagePut : Nat := 0x105

/-- The code and the body of a class U request. -/
def UReq.code : UReq → Nat
  | .ping => cdPing | .query _ => cdQuery | .read _ => cdRead | .logRead => cdLogRead | .attest _ _ => cdAttest | .imagePut _ _ _ => cdImagePut

def queryBody : QueryKey → List Byte
  | .jidx j => leBytes 8 j.toNat
  | .seq session seq => leBytes 2 session.toNat ++ leBytes 4 seq.toNat

def UReq.body (r : Req) : UReq → List Byte
  | .ping | .logRead => []
  | .query k => queryBody k
  | .read a => leBytes 5 a
  | .attest nonce part => nonce ++ leBytes 4 part
  | .imagePut buf off data => [buf] ++ leBytes 3 r.rsv.put.toNat ++ leBytes 4 off ++ data

/-- Goes on where the session has VIEW. -/
def State.viewed (s : State) (r : Req) (code : Nat) (go : State → State) : State :=
  if s.profile r.session.toNat 0 then go s else s.replyU r code stDenied []

/-- STATE, RESULT and RDATA of a held entry; ALREADY once it has been reclaimed (R404). -/
def State.queryEntry (s : State) (r : Req) (j : Nat) : State :=
  if s.entryHeld j then s.replyU r cdQuery stOk (leBytes 1 (s.entState j) ++ leBytes 1 (s.entResult j) ++ s.entRdata j)
  else s.replyU r cdQuery stAlready []

/-- QUERY (R404): an entry by its index, or the newest one of a session and number. -/
def State.query (s : State) (r : Req) (k : QueryKey) : State :=
  match k with
  | .jidx j => s.queryEntry r j.toNat
  | .seq session seq =>
    match s.entryOf session.toNat seq.toNat with
    | some j => s.queryEntry r j
    | none => s.replyU r cdQuery stAlready []

/-- An index that no entry has had yet is malformed (log entry 13). -/
def State.queryOk (s : State) : QueryKey → Bool
  | .jidx j => decide (j.toNat < s.jnl.head)
  | .seq _ _ => true

/-- READ: the word at an address, or MISSING_UNIT where it belongs to an absent unit (R7); the body is the address (log entry 13). -/
def State.readWord (s : State) (r : Req) (a : Nat) : State :=
  if s.absentAt a then s.replyU r cdRead stMissing [] else s.replyU r cdRead stOk (leBytes 4 (s.peek a).toNat)

/-- A body whose bytes and length the spec does not give (log entry 13). -/
def State.freeBody (s : State) : List Byte × State :=
  let d := s.draw
  ((List.range (d.1.toNat % 1393)).map (Config.freeByte s.free), d.2)

/-- The report's payload (R479): what it lists, in its order, least significant byte first, filled up to the 192 bytes before the engines'
hashes (DESIGN CHOICE, log entry 13).  The hashes are those of the firmware that runs. -/
def State.reportPayload (s : State) (nonce : List Byte) : List Byte :=
  let hash := fun (h : List Byte) => (h ++ List.replicate 32 0#8).take 32
  let slot := fun (x : OtpSlot) => leBytes 1 (b2n x.prog + 2 * b2n x.dead + 4 * x.use)
  let head := nonce ++ devidBytes ++ leBytes 1 (if s.sec.deployed then 2 else 1) ++ leBytes 1 s.stage ++ leBytes 1 (b2n s.minimal) ++
    leBytes 1 (s.getF .PMC_STAGE_REASON 0) ++ (s.sec.slots.toList.map slot).flatten ++
    leBytes 1 s.sec.arbFw.floor ++ leBytes 1 s.sec.arbSer.floor ++ leBytes 1 s.sec.arbEng.floor ++
    hash s.sec.fwHash ++ hash s.sec.serHash ++
    leBytes 4 (s.showReg .SER_PCRC 0).toNat ++ leBytes 1 (s.getF .SER_STAT_CONFIRMED 0) ++
    leBytes 4 (s.showReg .DBG_STAT 0).toNat ++ leBytes 4 (s.showReg .SEC_TAMP 0).toNat ++
    leBytes 6 s.clock.sec ++ leBytes 4 s.clock.ns ++ leBytes 4 s.fretnum
  (head ++ List.replicate 192 0#8).take 192 ++ ((List.range s.variant.engines).map (fun n => hash (s.ce.toList.getD n {}).actHash)).flatten

/-- The report as an object of TYPE 0x06 signed by the identity key (Table 19-1, R478). -/
def reportObject (payload : List Byte) (k : Nat) : List Byte :=
  let h := leBytes 4 0x53474F41 ++ [6#8, 0xFF#8, 0#8, 0#8] ++ leBytes 4 0 ++ leBytes 4 payload.length ++ devidBytes ++
    (Config.shake payload ++ List.replicate 32 0#8).take 32 ++ idPublic
  h ++ (Config.slhSign k idSigning slhContext h ++ List.replicate 29792 0#8).take 29792 ++ payload

/-- The identity certificate in MRAM (Table 19-5). -/
def State.certificate (s : State) : List Byte := s.objectAt certBase 0xE000

/-- The length of the report with the certificate (R479). -/
def State.reportLen (s : State) : Nat := 0x74E0 + 192 + 32 * s.variant.engines + s.certificate.length

/-- The report of this nonce, held or new for a new nonce, with the certificate (R479). -/
def State.attested (s : State) (nonce : List Byte) : List Byte × State :=
  let fresh := fun (_ : Unit) =>
    (reportObject (s.reportPayload nonce) s.free ++ s.certificate,
      ({ s with free := s.free + 1, jnl := { s.jnl with report := some (nonce, s.reportPayload nonce, s.free) } } : State))
  match s.jnl.report with
  | some (n, p, k) => if n = nonce then (reportObject p k ++ s.certificate, s) else fresh ()
  | none => fresh ()

/-- The slice of part `part`; the last one also carries the total length. -/
def reportPart (o : List Byte) (part : Nat) : List Byte :=
  (o.drop (1384 * part)).take 1384 ++ (if o.length ≤ 1384 * (part + 1) then leBytes 4 o.length else [])

/-- ATTEST (R479): a nonce of another length, or a part beyond the report, is malformed. -/
def State.attestReply (s : State) (r : Req) (nonce : List Byte) (part : Nat) : State :=
  if nonce.length ≠ 32 ∨ s.reportLen ≤ 1384 * part then s.replyU r cdAttest stBadFormat []
  else s.viewed r cdAttest (fun t =>
    if !t.sec.idReady then t.replyU r cdAttest stBringup []
    else (t.attested nonce).2.replyU r cdAttest stOk (reportPart (t.attested nonce).1 part))

/-- The size of a put buffer, its profile bit, its lock and its base (R393). -/
def putSize (buf : Byte) : Nat := if buf = 0#8 then imgSize else fwSize
def putProfile (buf : Byte) : Nat := if buf = 0#8 then 2 else 4
def putLock (buf : Byte) : Nat := if buf = 0#8 then 2 else 4
def State.putBase (s : State) (buf : Byte) : Nat := if buf = 0#8 then imgBuffer else fwBase (1 - s.pmc.slot)

/-- The body of IMAGE_PUT has its format (R393). -/
def putOk (buf : Byte) (off : Nat) (data : List Byte) : Bool :=
  decide (buf.toNat ≤ 1 ∧ 1 ≤ data.length ∧ data.length ≤ 1384 ∧ off + data.length ≤ putSize buf)

/-- IMAGE_PUT (R393). -/
def State.imagePut (s : State) (r : Req) (buf : Byte) (off : Nat) (data : List Byte) : State :=
  if !putOk buf off data then s.replyU r cdImagePut stBadFormat []
  else if !s.profile r.session.toNat (putProfile buf) then s.replyU r cdImagePut stDenied []
  else match s.lockBad r.session.toNat (some (putLock buf)) with
    | some h => s.replyU r cdImagePut stNotHolder (leBytes 2 h)
    | none =>
      let s1 := s.putList (s.putBase buf + off) data
      (s1.modJnl (fun j => if buf = 0#8 then { j with imgHeld := true } else j.putFw off (off + data.length))).replyU r cdImagePut stOk []

/-- The answer to a class U request; the format check comes before the profile check (R394). -/
def State.answerU (s : State) (r : Req) (u : UReq) : State :=
  match u with
  | .ping => s.replyU r cdPing stOk []
  | .query k => if s.queryOk k then s.viewed r cdQuery (fun t => t.query r k) else s.replyU r cdQuery stBadFormat []
  | .read a => s.viewed r cdRead (fun t => t.readWord r a)
  | .logRead => s.viewed r cdLogRead (fun t => t.freeBody.2.replyU r cdLogRead stOk t.freeBody.1)
  | .attest nonce part => s.attestReply r nonce part
  | .imagePut buf off data => s.imagePut r buf off data

/-! The order of one session's requests (R395). -/

/-- Evaluates a request; a device that does not command accepts nothing of class S (Table 16-1). -/
def State.serve (s : State) (q : Queued) : State :=
  match q with
  | .seq r => if s.commanding then s.evaluate r else s
  | .unseq r u => s.answerU r u
  | .bad q id code seq => s.send { peer := q, session := id, code := code, seq := seq, status := stBadFormat }

/-- BUSY, for a request that finds its session's queue full. -/
def State.turnAway (s : State) (q : Queued) : State :=
  match q with
  | .seq r => s.replyS r stBusy []
  | .unseq r u => s.replyU r u.code stBusy []
  | .bad q id code seq => s.send { peer := q, session := id, code := code, seq := seq, status := stBusy }

/-- An authenticated request arrives: behind an undecided one of its session it waits, at most eight of them. -/
def State.submit (s : State) (q : Queued) : State :=
  let mine := s.jnl.queue.filter (fun x => x.session == q.session)
  if s.jnl.busy q.session || !mine.isEmpty then
    if 8 ≤ mine.length then s.turnAway q else s.modJnl (fun j => { j with queue := j.queue ++ [q] })
  else s.serve q

/-- Evaluates the queued requests whose session has none waiting, oldest first. -/
def State.drainQueue (s : State) : Nat → State
  | 0 => s
  | k + 1 =>
    match s.jnl.queue.find? (fun q => !s.jnl.busy q.session) with
    | none => s
    | some q => ((s.modJnl (fun j => { j with queue := j.queue.erase q })).serve q).drainQueue k

/-- A sequenced request. -/
def State.request (s : State) (r : Req) (code : Nat) (body : List Byte) : State :=
  s.sessioned r code body (fun t => t.submit (.seq ⟨r.peer, r.session.toNat, r.seq.toNat, r.notify, code, body⟩))

/-- An unsequenced request. -/
def State.unsequenced (s : State) (r : Req) (u : UReq) : State := s.sessioned r u.code (u.body r) (fun t => t.submit (.unseq r u))

/-- JOURNAL_COMMIT_DONE: the oldest request is accepted, and what waited behind it goes on. -/
def execJournalCommitDone (s : State) : Out :=
  .next (let s0 := s.noReplies
    match s.jnl.waiting with
    | [] => s0
    | w :: _ =>
      if s.sysRuns && s.commanding && s.getF .JNL_STAT_ENST 0 != enstOff && (w.acked || !s.needsTwin) then
        let s1 := (s0.accept w).recordLeases s0.jnl.waiting.length
        s1.drainQueue s1.jnl.queue.length
      else s0)

/-! Sequenced commands (class S): each body in its layout, then the journal's checks. -/

def execCloseSession (r : Req) (s : State) : Out := .next (s.request r cdClose [])
def execLockTake (r : Req) (lock : Byte) (s : State) : Out := .next (s.request r cdLockTake [lock])
def execLockRelease (r : Req) (lock keep : Byte) (s : State) : Out := .next (s.request r cdLockRelease [lock, keep])
def execConvCmd (r : Req) (body : List Byte) (s : State) : Out := .next (s.request r cdConv body)
def execMuteReq (r : Req) (s : State) : Out := .next (s.request r cdMute [])
def execParamWrite (r : Req) (pid : BitVec 16) (value : List Byte) (s : State) : Out :=
  .next (s.request r cdParam (leBytes 2 pid.toNat ++ leBytes 2 value.length ++ value))
def execImageStage (r : Req) (total : Word) (s : State) : Out := .next (s.request r cdImgStage (leBytes 4 total.toNat))
def execImageActivate (r : Req) (mask : Word) (mode : Byte) (fret : Word) (s : State) : Out :=
  .next (s.request r cdImgAct (leBytes 4 mask.toNat ++ [mode] ++ leBytes 4 fret.toNat))
def execSerParam (r : Req) (body : List Byte) (s : State) : Out := .next (s.request r cdSerParam body)
def execSerConfirm (r : Req) (v : Word) (s : State) : Out := .next (s.request r cdSerConfirm (leBytes 4 v.toNat))
def execSerRestart (r : Req) (s : State) : Out := .next (s.request r cdSerRestart [])
def execSerTest (r : Req) (s : State) : Out := .next (s.request r cdSerTest [])
def execFwStage (r : Req) (start total : Word) (s : State) : Out :=
  .next (s.request r cdFwStage (leBytes 4 start.toNat ++ leBytes 4 total.toNat))
def execFwActivate (r : Req) (s : State) : Out := .next (s.request r cdFwAct [])

/-! Unsequenced commands (class U). -/

def execPing (r : Req) (s : State) : Out := .next (s.unsequenced r .ping)
def execQuery (r : Req) (k : QueryKey) (s : State) : Out := .next (s.unsequenced r (.query k))
def execReadState (r : Req) (addr : BitVec 40) (s : State) : Out := .next (s.unsequenced r (.read addr.toNat))
def execLogRead (r : Req) (s : State) : Out := .next (s.unsequenced r .logRead)
def execAttest (r : Req) (nonce : List Byte) (part : Nat) (s : State) : Out := .next (s.unsequenced r (.attest nonce part))
def execImagePut (r : Req) (buf : Byte) (off : Word) (data : List Byte) (s : State) : Out :=
  .next (s.unsequenced r (.imagePut buf off.toNat data))

/-! Sessionless commands (class N). -/

def cdIdentify : Nat := 1
def cdStatus : Nat := 2
def cdReason : Nat := 3
def cdRecover : Nat := 4
def cdOpen : Nat := 0x10

def State.replyN (s : State) (q : Peer) (code status : Nat) (body : List Byte) : State :=
  s.sendAs none { peer := q, code := code, status := status, body := body }

/-- The front of a class N request: the device answers at all. -/
def State.sessionless (s : State) (q : Peer) (go : State → State) : State :=
  if s.answers q then go s.noReplies else s.noReplies

def execIdentify (q : Peer) (s : State) : Out :=
  .next (s.sessionless q (fun t => t.freeBody.2.replyN q cdIdentify stOk t.freeBody.1))
def execStatus (q : Peer) (s : State) : Out :=
  .next (s.sessionless q (fun t => t.freeBody.2.replyN q cdStatus stOk t.freeBody.1))

/-- Stage S1 outside Minimal Mode. -/
def State.inS1 (s : State) : Bool := decide (s.stage = 1) && !s.minimal

/-- REASON (R446). -/
def execReason (q : Peer) (s : State) : Out :=
  .next (s.sessionless q (fun t =>
    if t.inS1 then t.replyN q cdReason stBringup []
    else t.replyN q cdReason stOk (leBytes 1 (t.getF .PMC_STAGE_REASON 0))))

/-! FW_RECOVER (R448). -/

/-- The request comes from the source of the open recovery. -/
def Recovery.from (c : Recovery) (q : Peer) : Bool := c.port == q.port && c.addr == q.addr

/-- The front of FW_RECOVER: Minimal Mode only, and one source at a time. -/
def State.recovering (s : State) (q : Peer) (go : State → State) : State :=
  s.sessionless q (fun t =>
    if !t.minimal then t.replyN q cdRecover (if t.stage = 1 then stBringup else stStage) []
    else match t.jnl.recovery with
      | some c =>
        if c.from q then go (t.modJnl (fun j => { j with recovery := some { c with seen := t.tick } })) else t.replyN q cdRecover stBusy []
      | none => go t)

/-- BEGIN. -/
def State.recoverBegin (s : State) (q : Peer) (total : Nat) : State :=
  if fwSize < total then s.replyN q cdRecover stBadFormat []
  else (s.modJnl (fun j => { j with recovery := some { port := q.port, addr := q.addr, total := total, seen := s.tick } })).replyN q cdRecover stOk []

def execFwRecoverBegin (q : Peer) (total : Word) (s : State) : Out := .next (s.recovering q (fun t => t.recoverBegin q total.toNat))

/-- DATA. -/
def State.recoverData (s : State) (q : Peer) (off : Nat) (data : List Byte) : State :=
  match s.jnl.recovery with
  | none => s.replyN q cdRecover stNeedSeq (leBytes 4 0)
  | some c =>
    if off = c.got then
      if data.length = 0 ∨ 1384 < data.length ∨ c.total < off + data.length then s.replyN q cdRecover stBadFormat []
      else
        ((s.setList (fwBase (1 - s.pmc.slot) + off) data).modJnl (fun j =>
          { j.loseFw off (off + data.length) with recovery := some { c with got := off + data.length, lastOff := off, lastData := data } })).replyN q cdRecover stOk []
    else if off = c.lastOff ∧ data = c.lastData then s.replyN q cdRecover stOk []
    else s.replyN q cdRecover stNeedSeq (leBytes 4 c.got)

def execFwRecoverData (q : Peer) (off : Word) (data : List Byte) (s : State) : Out :=
  .next (s.recovering q (fun t => t.recoverData q off.toNat data))

/-- The start record after COMMIT or RETRY. -/
def PmcSt.retry (p : PmcSt) : PmcSt := { p with failcnt := 0, mmreq := false }

/-- Replies, then performs a warm reset. -/
def State.replyReset (s : State) (q : Peer) : State :=
  let s1 := s.replyN q cdRecover stOk []
  (s1.warmReset .PMC_RSTCAUSE_SOFTWARE).modJnl (fun j => { j with replies := s1.jnl.replies })

/-- The object that a recovery has received. -/
def State.recovered (s : State) (total : Nat) : List Byte := s.readList (fwBase (1 - s.pmc.slot)) total

/-- COMMIT: incomplete, a failed check, or the slot becomes active without TRIAL (R475). -/
def State.recoverCommit (s : State) (q : Peer) : State :=
  match s.jnl.recovery with
  | none => s.replyN q cdRecover stBadFormat [1#8]
  | some c =>
    if c.got ≠ c.total then s.replyN q cdRecover stBadFormat [1#8]
    else
      let k := s.secCheck [tyStation] (s.recovered c.total)
      let t := s.setF .SEC_STAT_LASTRES 0 k
      if k = 6 then t.replyN q cdRecover stBadFormat [3#8]
      else if k ≠ 0 then t.replyN q cdRecover stBadFormat [2#8]
      else (t.modPmc (fun p => { p.retry with slot := 1 - p.slot, trial := false, trialBegun := false, slotPend := false })).replyReset q

def execFwRecoverCommit (q : Peer) (s : State) : Out := .next (s.recovering q (fun t => t.recoverCommit q))

/-- RETRY: refused for reasons 0x03 to 0x06. -/
def State.recoverRetry (s : State) (q : Peer) : State :=
  if 3 ≤ s.getF .PMC_STAGE_REASON 0 ∧ s.getF .PMC_STAGE_REASON 0 ≤ 6 then s.replyN q cdRecover stStage []
  else (s.modPmc PmcSt.retry).replyReset q

def execFwRecoverRetry (q : Peer) (s : State) : Out := .next (s.recovering q (fun t => t.recoverRetry q))

/-- RECOVERY_IDLE_TIMEOUT: 60 s without a request; the recovery closes and its data is discarded. -/
def execRecoveryIdleTimeout (s : State) : Out :=
  .next (match s.jnl.recovery with
    | some c =>
      if s.coresRun then ((s.passTo (c.seen + 60 * second)).modJnl (fun j => { j with recovery := none })).loseMem (fwBase (1 - s.pmc.slot)) c.got
      else s
    | none => s)

/-! OPEN (R389, R390). -/

/-- The first identifier from `d` on, in the range 0x0001 to 0xFFFE, that no record has. -/
def State.freeSession (s : State) (d : Nat) : Nat → Nat
  | 0 => d % 0xFFFE + 1
  | k + 1 => if (s.sess (d % 0xFFFE + 1)).isSome then s.freeSession (d + 1) k else d % 0xFFFE + 1

/-- The reply and the pending key of session `id`. -/
def State.openKey (s : State) (q : Peer) (key nh : List Byte) (id : Nat) : State :=
  let nd := (List.range 16).map (Config.freeByte s.free)
  let sk := Config.kmacKey key (leBytes 2 id ++ nh ++ nd ++ leBytes 2 (s.getF .CLG_NODE_NODE 0) ++ asciiBytes "AG96SES")
  let s1 := ({ s with free := s.free + 1 } : State).modSess id (fun x => { x with newKey := some sk, keyAt := s.tick })
  let body := leBytes 2 id ++ nd ++ leBytes 4 (((s.sess id).getD { id := 0, cred := 0 }).last + 1) ++ leBytes 2 s.jnl.lease
  (s1.sendAs (some sk) { peer := q, code := cdOpen, body := body }).jnlSync

/-- An OPEN that is in its stage; the record of a new session goes to the twin too. -/
def State.openStage (s : State) (q : Peer) (cred resume : Nat) (nh : List Byte) : State :=
  match s.cred cred with
  | none => s.replyN q cdOpen stDenied []
  | some (_, key) =>
    if resume = 0 then
      if 32 ≤ s.jnl.sessions.length then s.replyN q cdOpen stSessFull []
      else
        let d := s.draw
        let id := s.freeSession d.1.toNat 32
        ((d.2.modJnl (fun j => { j with sessions := j.sessions ++ [{ id := id, cred := cred, seen := s.tick }] })).mirrorSess id).openKey q key nh id
    else match s.sess resume with
      | none => s.replyN q cdOpen stNoSession []
      | some x => if x.cred = cred then s.openKey q key nh resume else s.replyN q cdOpen stNoSession []

def State.openReq (s : State) (q : Peer) (cred resume : Nat) (nh : List Byte) : State :=
  if s.minimal then s.replyN q cdOpen stMinimal []
  else if 16 ≤ cred ∨ nh.length ≠ 16 then s.replyN q cdOpen stBadFormat []
  else match s.bringup with
    | some st => s.replyN q cdOpen st []
    | none => s.openStage q cred resume nh

def execOpenSession (q : Peer) (cred : Byte) (resume : BitVec 16) (nh : List Byte) (s : State) : Out :=
  .next (s.sessionless q (fun t => t.openReq q cred.toNat resume.toNat nh))

/-! Malformed datagrams (R387, R388, R394). -/

/-- A field of the header at offset `o`. -/
def hdr (raw : List Byte) (o k : Nat) : Nat := leNat ((raw.drop o).take k)
def rawBody (raw : List Byte) : List Byte := (raw.drop 32).take (hdr raw 0x0C 2)
def rawTag (raw : List Byte) : BitVec 128 := BitVec.ofNat 128 (leNat ((raw.drop (32 + hdr raw 0x0C 2)).take 16))
def codesN : List Nat := [cdIdentify, cdStatus, cdReason, cdRecover, cdOpen]
def codesU : List Nat := [cdPing, cdQuery, cdRead, cdLogRead, cdAttest, cdImagePut]
def codesS : List Nat :=
  [cdClose, cdLockTake, cdLockRelease, cdConv, cdMute, cdParam, cdImgStage, cdImgAct, cdSerParam, cdSerConfirm, cdSerRestart, cdSerTest,
   cdFwStage, cdFwAct]

/-- The body length of a class N command. -/
def bodyOkN (code n : Nat) (b : List Byte) : Bool :=
  if code = cdOpen then n == 19
  else if code = cdRecover then
    match leNat (b.take 1) with
    | 1 => n == 5
    | 2 => decide (6 ≤ n ∧ n ≤ 1389)
    | 3 | 4 => n == 1
    | _ => false
  else n == 0

/-- The body length of a class U command. -/
def bodyOkU (code n : Nat) : Bool :=
  if code = cdQuery then n == 8 || n == 6
  else if code = cdRead then n == 5
  else if code = cdAttest then n == 36
  else if code = cdImagePut then decide (9 ≤ n ∧ n ≤ 1392)
  else n == 0

/-- MAGIC, VER, KIND, LEN, CODE and the body of a datagram (R394). -/
def rawOk (raw : List Byte) : Bool :=
  let code := hdr raw 6 2
  let n := hdr raw 0x0C 2
  hdr raw 0 2 == 0x4147 && hdr raw 2 1 == 1 && hdr raw 3 1 == 1 && decide (raw.length ≤ 1440) &&
  (if hdr raw 4 2 = 0 then codesN.contains code && raw.length == 32 + n && bodyOkN code n (rawBody raw)
   else decide (raw.length = 48 + n) &&
     ((codesU.contains code && decide (n ≤ 1392) && bodyOkU code n) || (codesS.contains code && decide (n ≤ 188) && bodyOk code (rawBody raw))))

/-- A sessioned datagram with a valid tag, as R388 locates it. -/
def State.rawAuth (s : State) (raw : List Byte) : Bool :=
  match s.sess (hdr raw 4 2) with
  | none => false
  | some x => decide (hdr raw 0 2 = 0x4147 ∧ hdr raw 2 1 = 1 ∧ 48 + hdr raw 0x0C 2 ≤ raw.length) &&
      (tagOk x.key (raw.take (32 + hdr raw 0x0C 2)) (rawTag raw) || tagOk x.newKey (raw.take (32 + hdr raw 0x0C 2)) (rawTag raw))

/-- A valid tag under the pending key makes it the session's key (R389). -/
def State.rawKey (s : State) (raw : List Byte) : State :=
  s.modSess (hdr raw 4 2) (fun x =>
    if tagOk x.key (raw.take (32 + hdr raw 0x0C 2)) (rawTag raw) then x else { x with key := x.newKey, newKey := none })

/-- A malformed datagram: no answer below a header, BADFORMAT, a refusal before authentication, or a discard. -/
def State.badDatagram (s : State) (q : Peer) (raw : List Byte) : State :=
  let session := hdr raw 4 2
  let code := hdr raw 6 2
  if raw.length < 32 then s
  else if codesN.contains code = true ∨ (session = 0 ∧ (codesU ++ codesS).contains code = false) then
    s.replyN q code (if s.minimal && !decide (1 ≤ code ∧ code ≤ 4) then stMinimal else stBadFormat) []
  else match s.bringup with
    | some st => s.sendAs none { peer := q, session := session, code := code, seq := hdr raw 8 4, status := st }
    | none =>
      if s.rawAuth raw then
        ((s.rawKey raw).renew session).submit (.bad q session code (hdr raw 8 4))
      else s.countF .JNL_CNT0_BADTAG 0 1

/-- BADFORMAT_REQUEST: a datagram that is well formed is one of the other rows, and changes nothing here (log entry 5). -/
def execBadformatRequest (q : Peer) (raw : List Byte) (s : State) : Out :=
  .next (if rawOk raw then s else s.sessionless q (fun t => t.badDatagram q raw))

end Sys2Proof.Machine
end

