-- ==== Sys2Proof/Machine/VolgarFp.lean ====
section
/-! DEFINITION. The FP32 instructions (R85, R101, Table 3-13) and the comparisons and predicates (R102, Table 3-14). -/
namespace Sys2Proof.Machine

/-- FADD (R101). -/
def execFadd (n : Fin 24) (pr : BitVec 4) (rd ra rb : BitVec 5) (s : State) : Out :=
  .next (issue n pr { readsG := [ra, rb], writesG := [(rd, 3)] } (.fadd n pr rd ra rb)
    (resultEff n rd (fun e => Fp.add (Fp.ofWord (e.readG ra)) (Fp.ofWord (e.readG rb)))) s)

/-- FSUB (R101). -/
def execFsub (n : Fin 24) (pr : BitVec 4) (rd ra rb : BitVec 5) (s : State) : Out :=
  .next (issue n pr { readsG := [ra, rb], writesG := [(rd, 3)] } (.fsub n pr rd ra rb)
    (resultEff n rd (fun e => Fp.add (Fp.ofWord (e.readG ra)) (Fp.ofWord (e.readG rb)).neg)) s)

/-- FMUL (R101). -/
def execFmul (n : Fin 24) (pr : BitVec 4) (rd ra rb : BitVec 5) (s : State) : Out :=
  .next (issue n pr { readsG := [ra, rb], writesG := [(rd, 3)] } (.fmul n pr rd ra rb)
    (resultEff n rd (fun e => Fp.mul (Fp.ofWord (e.readG ra)) (Fp.ofWord (e.readG rb)))) s)

/-- FMA: rd = rd + ra × rb, rounded once (R101). -/
def execFma (n : Fin 24) (pr : BitVec 4) (rd ra rb : BitVec 5) (s : State) : Out :=
  .next (issue n pr { readsG := [rd, ra, rb], writesG := [(rd, 4)] } (.fma n pr rd ra rb)
    (resultEff n rd (fun e => Fp.fma (Fp.ofWord (e.readG rd)) (Fp.ofWord (e.readG ra)) (Fp.ofWord (e.readG rb)))) s)

/-- FMS: rd = rd − ra × rb, rounded once (R101). -/
def execFms (n : Fin 24) (pr : BitVec 4) (rd ra rb : BitVec 5) (s : State) : Out :=
  .next (issue n pr { readsG := [rd, ra, rb], writesG := [(rd, 4)] } (.fms n pr rd ra rb)
    (resultEff n rd (fun e => Fp.fma (Fp.ofWord (e.readG rd)) (Fp.ofWord (e.readG ra)).neg (Fp.ofWord (e.readG rb)))) s)

/-- FDIV on the divider (R101). -/
def execFdiv (n : Fin 24) (pr : BitVec 4) (rd ra rb : BitVec 5) (s : State) : Out :=
  .next (issue n pr { readsG := [ra, rb], writesG := [(rd, 12)], divider := 12 } (.fdiv n pr rd ra rb)
    (resultEff n rd (fun e => Fp.div (Fp.ofWord (e.readG ra)) (Fp.ofWord (e.readG rb)))) s)

/-- FSQRT on the divider (R101). -/
def execFsqrt (n : Fin 24) (pr : BitVec 4) (rd ra : BitVec 5) (s : State) : Out :=
  .next (issue n pr { readsG := [ra], writesG := [(rd, 12)], divider := 12 } (.fsqrt n pr rd ra)
    (resultEff n rd (fun e => Fp.sqrt (Fp.ofWord (e.readG ra)))) s)

/-- FMIN: minimumNumber (R101). -/
def execFmin (n : Fin 24) (pr : BitVec 4) (rd ra rb : BitVec 5) (s : State) : Out :=
  .next (issue n pr { readsG := [ra, rb], writesG := [(rd, 1)] } (.fmin n pr rd ra rb)
    (resultEff n rd (fun e => Fp.minmax false (e.readG ra) (e.readG rb))) s)

/-- FMAX: maximumNumber (R101). -/
def execFmax (n : Fin 24) (pr : BitVec 4) (rd ra rb : BitVec 5) (s : State) : Out :=
  .next (issue n pr { readsG := [ra, rb], writesG := [(rd, 1)] } (.fmax n pr rd ra rb)
    (resultEff n rd (fun e => Fp.minmax true (e.readG ra) (e.readG rb))) s)

/-- FABS: sign bit cleared, NaN included (R101). -/
def execFabs (n : Fin 24) (pr : BitVec 4) (rd ra : BitVec 5) (s : State) : Out :=
  .next (issue n pr { readsG := [ra], writesG := [(rd, 1)] } (.fabs n pr rd ra)
    (resultEff n rd (fun e => noFlags ((e.readG ra) &&& 0x7FFFFFFF#32))) s)

/-- FNEG: sign bit inverted, NaN included (R101). -/
def execFneg (n : Fin 24) (pr : BitVec 4) (rd ra : BitVec 5) (s : State) : Out :=
  .next (issue n pr { readsG := [ra], writesG := [(rd, 1)] } (.fneg n pr rd ra)
    (resultEff n rd (fun e => noFlags ((e.readG ra) ^^^ 0x80000000#32))) s)

/-- F2Q: FP32 to Q31 (R84, R101). -/
def execF2q (n : Fin 24) (pr : BitVec 4) (rd ra : BitVec 5) (s : State) : Out :=
  .next (issue n pr { readsG := [ra], writesG := [(rd, 2)] } (.f2q n pr rd ra)
    (resultEff n rd (fun e => Fp.toInt 31 (Fp.ofWord (e.readG ra)))) s)

/-- Q2F: Q31 to FP32 (R84, R101). -/
def execQ2f (n : Fin 24) (pr : BitVec 4) (rd ra : BitVec 5) (s : State) : Out :=
  .next (issue n pr { readsG := [ra], writesG := [(rd, 2)] } (.q2f n pr rd ra)
    (resultEff n rd (fun e => Fp.ofInt 31 (e.readG ra))) s)

/-- F2I: FP32 to signed integer (R84, R101). -/
def execF2i (n : Fin 24) (pr : BitVec 4) (rd ra : BitVec 5) (s : State) : Out :=
  .next (issue n pr { readsG := [ra], writesG := [(rd, 2)] } (.f2i n pr rd ra)
    (resultEff n rd (fun e => Fp.toInt 0 (Fp.ofWord (e.readG ra)))) s)

/-- I2F: signed integer to FP32 (R84, R101). -/
def execI2f (n : Fin 24) (pr : BitVec 4) (rd ra : BitVec 5) (s : State) : Out :=
  .next (issue n pr { readsG := [ra], writesG := [(rd, 2)] } (.i2f n pr rd ra)
    (resultEff n rd (fun e => Fp.ofInt 0 (e.readG ra))) s)

/-- The latency to pd: 1 for the integer conditions, 2 for the FP32 conditions (R102). -/
def condLat (cond : BitVec 4) : Nat := if cond.toNat ≤ 5 then 1 else 2

/-- Combinations 0b01 to 0b11 read pd (R102). -/
def combReads (comb : BitVec 2) (pd : BitVec 3) : List (BitVec 3) := if comb = 0#2 then [] else [pd]

/-- The effect of a comparison of `x` and `y`. -/
def cmpEff (n : Fin 24) (pd : BitVec 3) (comb : BitVec 2) (cond : BitVec 4) (x y : Eng → Word) : Nat → State → Res :=
  regEff n (fun e =>
    let r := (condVal cond (x e) (y e)).getD (false, {})
    (e.writeP pd (combVal comb (e.readP pd) r.1)).raise r.2)

/-- CMP: pd combined with the condition of ra and rb (R102). -/
def execCmp (n : Fin 24) (pr : BitVec 4) (pd : BitVec 3) (comb : BitVec 2) (ra rb : BitVec 5) (cond : BitVec 4) (s : State) : Out :=
  .next (issue n pr { readsG := [ra, rb], readsP := combReads comb pd, writesP := [(pd, condLat cond)] } (.cmp n pr pd comb ra rb cond)
    (cmpEff n pd comb cond (fun e => e.readG ra) (fun e => e.readG rb)) s)

/-- CMPI: pd combined with an integer condition of ra and imm8 (R102). -/
def execCmpi (n : Fin 24) (pr : BitVec 4) (pd : BitVec 3) (comb : BitVec 2) (ra : BitVec 5) (imm : BitVec 8) (cond : BitVec 4) (s : State) : Out :=
  .next (issue n pr { readsG := [ra], readsP := combReads comb pd, writesP := [(pd, 1)] } (.cmpi n pr pd comb ra imm cond)
    (cmpEff n pd comb cond (fun e => e.readG ra) (fun _ => imm.signExtend 32)) s)

/-- PLOG: a logical operation on predicates (R102). -/
def execPlog (n : Fin 24) (pr : BitVec 4) (pd pa pb op : BitVec 3) (s : State) : Out :=
  .next (issue n pr { readsP := [pa, pb], writesP := [(pd, 1)] } (.plog n pr pd pa pb op)
    (regEff n (fun e => e.writeP pd (plogVal op (e.readP pa) (e.readP pb)))) s)

end Sys2Proof.Machine
end

