-- ==== Sys2Proof/Machine/VolgarInt.lean ====
section
/-! DEFINITION. The integer ALU and immediate instructions (R98, R99; Tables 3-10, 3-11). -/
namespace Sys2Proof.Machine

/-- ADD: rd = ra + rb mod 2^32 (R98). -/
def execAdd (n : Fin 24) (pr : BitVec 4) (rd ra rb : BitVec 5) (s : State) : Out :=
  .next (issue n pr { readsG := [ra, rb], writesG := [(rd, 1)] } (.add n pr rd ra rb)
    (resultEff n rd (fun e => noFlags ((e.readG ra) + (e.readG rb)))) s)

/-- SUB: rd = ra − rb mod 2^32 (R98). -/
def execSub (n : Fin 24) (pr : BitVec 4) (rd ra rb : BitVec 5) (s : State) : Out :=
  .next (issue n pr { readsG := [ra, rb], writesG := [(rd, 1)] } (.sub n pr rd ra rb)
    (resultEff n rd (fun e => noFlags ((e.readG ra) - (e.readG rb)))) s)

/-- AND: rd = ra AND rb (R98). -/
def execAnd (n : Fin 24) (pr : BitVec 4) (rd ra rb : BitVec 5) (s : State) : Out :=
  .next (issue n pr { readsG := [ra, rb], writesG := [(rd, 1)] } (.and n pr rd ra rb)
    (resultEff n rd (fun e => noFlags ((e.readG ra) &&& (e.readG rb)))) s)

/-- OR: rd = ra OR rb (R98). -/
def execOr (n : Fin 24) (pr : BitVec 4) (rd ra rb : BitVec 5) (s : State) : Out :=
  .next (issue n pr { readsG := [ra, rb], writesG := [(rd, 1)] } (.or n pr rd ra rb)
    (resultEff n rd (fun e => noFlags ((e.readG ra) ||| (e.readG rb)))) s)

/-- XOR: rd = ra XOR rb (R98). -/
def execXor (n : Fin 24) (pr : BitVec 4) (rd ra rb : BitVec 5) (s : State) : Out :=
  .next (issue n pr { readsG := [ra, rb], writesG := [(rd, 1)] } (.xor n pr rd ra rb)
    (resultEff n rd (fun e => noFlags ((e.readG ra) ^^^ (e.readG rb)))) s)

/-- ANDN: rd = ra AND NOT rb (R98). -/
def execAndn (n : Fin 24) (pr : BitVec 4) (rd ra rb : BitVec 5) (s : State) : Out :=
  .next (issue n pr { readsG := [ra, rb], writesG := [(rd, 1)] } (.andn n pr rd ra rb)
    (resultEff n rd (fun e => noFlags ((e.readG ra) &&& ~~~(e.readG rb)))) s)

/-- SLL: rd = ra shifted left by rb[4:0] (R98). -/
def execSll (n : Fin 24) (pr : BitVec 4) (rd ra rb : BitVec 5) (s : State) : Out :=
  .next (issue n pr { readsG := [ra, rb], writesG := [(rd, 1)] } (.sll n pr rd ra rb)
    (resultEff n rd (fun e => noFlags ((e.readG ra) <<< shiftAmount (e.readG rb)))) s)

/-- SRL: logical shift right by rb[4:0] (R98). -/
def execSrl (n : Fin 24) (pr : BitVec 4) (rd ra rb : BitVec 5) (s : State) : Out :=
  .next (issue n pr { readsG := [ra, rb], writesG := [(rd, 1)] } (.srl n pr rd ra rb)
    (resultEff n rd (fun e => noFlags ((e.readG ra) >>> shiftAmount (e.readG rb)))) s)

/-- SRA: arithmetic shift right by rb[4:0] (R98). -/
def execSra (n : Fin 24) (pr : BitVec 4) (rd ra rb : BitVec 5) (s : State) : Out :=
  .next (issue n pr { readsG := [ra, rb], writesG := [(rd, 1)] } (.sra n pr rd ra rb)
    (resultEff n rd (fun e => noFlags (BitVec.sshiftRight (e.readG ra) (shiftAmount (e.readG rb))))) s)

/-- ROR: rotate right by rb[4:0] (R98). -/
def execRor (n : Fin 24) (pr : BitVec 4) (rd ra rb : BitVec 5) (s : State) : Out :=
  .next (issue n pr { readsG := [ra, rb], writesG := [(rd, 1)] } (.ror n pr rd ra rb)
    (resultEff n rd (fun e => noFlags (BitVec.rotateRight (e.readG ra) (shiftAmount (e.readG rb))))) s)

/-- MIN: signed minimum (R98). -/
def execMin (n : Fin 24) (pr : BitVec 4) (rd ra rb : BitVec 5) (s : State) : Out :=
  .next (issue n pr { readsG := [ra, rb], writesG := [(rd, 1)] } (.min n pr rd ra rb)
    (resultEff n rd (fun e => noFlags (if (e.readG ra).toInt ≤ (e.readG rb).toInt then e.readG ra else e.readG rb))) s)

/-- MAX: signed maximum (R98). -/
def execMax (n : Fin 24) (pr : BitVec 4) (rd ra rb : BitVec 5) (s : State) : Out :=
  .next (issue n pr { readsG := [ra, rb], writesG := [(rd, 1)] } (.max n pr rd ra rb)
    (resultEff n rd (fun e => noFlags (if (e.readG ra).toInt ≤ (e.readG rb).toInt then e.readG rb else e.readG ra))) s)

/-- MINU: unsigned minimum (R98). -/
def execMinu (n : Fin 24) (pr : BitVec 4) (rd ra rb : BitVec 5) (s : State) : Out :=
  .next (issue n pr { readsG := [ra, rb], writesG := [(rd, 1)] } (.minu n pr rd ra rb)
    (resultEff n rd (fun e => noFlags (if (e.readG ra).toNat ≤ (e.readG rb).toNat then e.readG ra else e.readG rb))) s)

/-- MAXU: unsigned maximum (R98). -/
def execMaxu (n : Fin 24) (pr : BitVec 4) (rd ra rb : BitVec 5) (s : State) : Out :=
  .next (issue n pr { readsG := [ra, rb], writesG := [(rd, 1)] } (.maxu n pr rd ra rb)
    (resultEff n rd (fun e => noFlags (if (e.readG ra).toNat ≤ (e.readG rb).toNat then e.readG rb else e.readG ra))) s)

/-- CLZ: leading zeros of ra, 32 for 0 (R98). -/
def execClz (n : Fin 24) (pr : BitVec 4) (rd ra : BitVec 5) (s : State) : Out :=
  .next (issue n pr { readsG := [ra], writesG := [(rd, 1)] } (.clz n pr rd ra)
    (resultEff n rd (fun e => noFlags (aluClz (e.readG ra)))) s)

/-- POPC: the number of 1 bits of ra (R98). -/
def execPopc (n : Fin 24) (pr : BitVec 4) (rd ra : BitVec 5) (s : State) : Out :=
  .next (issue n pr { readsG := [ra], writesG := [(rd, 1)] } (.popc n pr rd ra)
    (resultEff n rd (fun e => noFlags (aluPopc (e.readG ra)))) s)

/-- MUL: low 32 bits of the product (R98). -/
def execMul (n : Fin 24) (pr : BitVec 4) (rd ra rb : BitVec 5) (s : State) : Out :=
  .next (issue n pr { readsG := [ra, rb], writesG := [(rd, 2)] } (.mul n pr rd ra rb)
    (resultEff n rd (fun e => noFlags ((e.readG ra) * (e.readG rb)))) s)

/-- MULH: high 32 bits, signed × signed (R98). -/
def execMulh (n : Fin 24) (pr : BitVec 4) (rd ra rb : BitVec 5) (s : State) : Out :=
  .next (issue n pr { readsG := [ra, rb], writesG := [(rd, 2)] } (.mulh n pr rd ra rb)
    (resultEff n rd (fun e => noFlags (BitVec.ofInt 32 (((e.readG ra).toInt * (e.readG rb).toInt).fdiv (2 ^ 32))))) s)

/-- MULHU: high 32 bits, unsigned × unsigned (R98). -/
def execMulhu (n : Fin 24) (pr : BitVec 4) (rd ra rb : BitVec 5) (s : State) : Out :=
  .next (issue n pr { readsG := [ra, rb], writesG := [(rd, 2)] } (.mulhu n pr rd ra rb)
    (resultEff n rd (fun e => noFlags (BitVec.ofNat 32 ((e.readG ra).toNat * (e.readG rb).toNat / 2 ^ 32)))) s)

/-- DIV on the divider (R98). -/
def execDiv (n : Fin 24) (pr : BitVec 4) (rd ra rb : BitVec 5) (s : State) : Out :=
  .next (issue n pr { readsG := [ra, rb], writesG := [(rd, 18)], divider := 18 } (.div n pr rd ra rb)
    (resultEff n rd (fun e => aluDiv (e.readG ra) (e.readG rb))) s)

/-- DIVU on the divider (R98). -/
def execDivu (n : Fin 24) (pr : BitVec 4) (rd ra rb : BitVec 5) (s : State) : Out :=
  .next (issue n pr { readsG := [ra, rb], writesG := [(rd, 18)], divider := 18 } (.divu n pr rd ra rb)
    (resultEff n rd (fun e => aluDivu (e.readG ra) (e.readG rb))) s)

/-- REM on the divider (R98). -/
def execRem (n : Fin 24) (pr : BitVec 4) (rd ra rb : BitVec 5) (s : State) : Out :=
  .next (issue n pr { readsG := [ra, rb], writesG := [(rd, 18)], divider := 18 } (.rem n pr rd ra rb)
    (resultEff n rd (fun e => aluRem (e.readG ra) (e.readG rb))) s)

/-- REMU on the divider (R98). -/
def execRemu (n : Fin 24) (pr : BitVec 4) (rd ra rb : BitVec 5) (s : State) : Out :=
  .next (issue n pr { readsG := [ra, rb], writesG := [(rd, 18)], divider := 18 } (.remu n pr rd ra rb)
    (resultEff n rd (fun e => aluRemu (e.readG ra) (e.readG rb))) s)

/-- MOVL: rd = imm16, zero-extended (R99). -/
def execMovl (n : Fin 24) (pr : BitVec 4) (rd : BitVec 5) (imm : BitVec 16) (s : State) : Out :=
  .next (issue n pr { writesG := [(rd, 1)] } (.movl n pr rd imm)
    (resultEff n rd (fun _ => noFlags (imm.zeroExtend 32))) s)

/-- MOVH: rd[31:16] = imm16, rd[15:0] kept (R99). -/
def execMovh (n : Fin 24) (pr : BitVec 4) (rd : BitVec 5) (imm : BitVec 16) (s : State) : Out :=
  .next (issue n pr { readsG := [rd], writesG := [(rd, 1)] } (.movh n pr rd imm)
    (resultEff n rd (fun e => noFlags (imm ++ (e.readG rd).extractLsb' 0 16))) s)

/-- ADDI: rd = ra + sign-extended imm12 (R99). -/
def execAddi (n : Fin 24) (pr : BitVec 4) (rd ra : BitVec 5) (imm : BitVec 12) (s : State) : Out :=
  .next (issue n pr { readsG := [ra], writesG := [(rd, 1)] } (.addi n pr rd ra imm)
    (resultEff n rd (fun e => noFlags ((e.readG ra) + imm.signExtend 32))) s)

/-- ANDI: with the zero-extended imm12 (R99). -/
def execAndi (n : Fin 24) (pr : BitVec 4) (rd ra : BitVec 5) (imm : BitVec 12) (s : State) : Out :=
  .next (issue n pr { readsG := [ra], writesG := [(rd, 1)] } (.andi n pr rd ra imm)
    (resultEff n rd (fun e => noFlags ((e.readG ra) &&& imm.zeroExtend 32))) s)

/-- ORI: with the zero-extended imm12 (R99). -/
def execOri (n : Fin 24) (pr : BitVec 4) (rd ra : BitVec 5) (imm : BitVec 12) (s : State) : Out :=
  .next (issue n pr { readsG := [ra], writesG := [(rd, 1)] } (.ori n pr rd ra imm)
    (resultEff n rd (fun e => noFlags ((e.readG ra) ||| imm.zeroExtend 32))) s)

/-- XORI: with the zero-extended imm12 (R99). -/
def execXori (n : Fin 24) (pr : BitVec 4) (rd ra : BitVec 5) (imm : BitVec 12) (s : State) : Out :=
  .next (issue n pr { readsG := [ra], writesG := [(rd, 1)] } (.xori n pr rd ra imm)
    (resultEff n rd (fun e => noFlags ((e.readG ra) ^^^ imm.zeroExtend 32))) s)

/-- SHI: a shift or rotate by an immediate count (R99). -/
def execShi (n : Fin 24) (pr : BitVec 4) (rd ra : BitVec 5) (op : BitVec 2) (cnt : BitVec 5) (s : State) : Out :=
  .next (issue n pr { readsG := [ra], writesG := [(rd, 1)] } (.shi n pr rd ra op cnt)
    (resultEff n rd (fun e => noFlags (aluShi op (e.readG ra) cnt))) s)

end Sys2Proof.Machine
end

