-- ==== Sys2Proof/Machine/VolgarMem.lean ====
section
/-! DEFINITION. The loads and stores of an engine (R91 to R94, R103, Table 3-15) over its data windows (R136 to R138, Table 5-1). -/
namespace Sys2Proof.Machine

/-- The windows of Table 5-1. -/
inductive Window where
  | own | ssm | atu | trip | pwm | time | none
deriving DecidableEq, Repr

def windowOf (a : Nat) : Window :=
  if a < 0x10000 then .own
  else if 0x10000000 ≤ a ∧ a < 0x107FF000 then .ssm
  else if 0x40040000 ≤ a ∧ a < 0x40041000 then .atu
  else if 0x400A0000 ≤ a ∧ a < 0x400B0000 then .trip
  else if 0x400B0000 ≤ a ∧ a < 0x400C0000 then .pwm
  else if 0x40110000 ≤ a ∧ a < 0x40120000 then .time
  else .none

/-- The control-plane address of an engine's data address (R91, R136). -/
def memAddr (n : Fin 24) (a : Nat) : Nat := if a < 0x10000 then ceData n + a else a

/-- The address ra + imm12 × size (R103). -/
def Eng.dataAddr (e : Eng) (ra : BitVec 5) (imm : BitVec 12) (size : Nat) : Word :=
  e.readG ra + imm.signExtend 32 * BitVec.ofNat 32 size

/-- The window takes the access: register windows take words only, ATU and TIME no store, TRIP only the engine's own request register. -/
def windowTakes (n : Fin 24) (a size : Nat) (store : Bool) : Bool :=
  match windowOf a with
  | .own | .ssm => true
  | .atu | .time => size == 4 && !store
  | .trip => size == 4 && (!store || a == 0x400A0800 + 4 * n.val)
  | .pwm => size == 4
  | .none => false

/-- The word at a data address cannot be used: a load, or a store narrower than a word, of an uncorrectable one (R94, R155). -/
def State.dataBad (s : State) (n : Fin 24) (a size : Nat) (store : Bool) : Bool :=
  match windowOf a with
  | .own | .ssm => s.badWord (memAddr n a) && (!store || size != 4)
  | _ => false

/-- The checks of a load or store: ALIGN, ACCESS, ECC_D (R107). -/
def State.dataFault (s : State) (n : Fin 24) (a size : Nat) (store : Bool) : Option Nat :=
  if a % size ≠ 0 then some xAlign
  else if !windowTakes n a size store then some xAccess
  else if s.dataBad n a size store then some xEccD
  else none

/-- The value that a load of `size` bytes finds, the state with its side effects, and its latency if it is blocking. -/
def State.dataLoad (s : State) (n : Fin 24) (a size : Nat) : Nat × State × Nat :=
  match windowOf a with
  | .own => (s.bytes (memAddr n a) size, s.countSoftCe n (memAddr n a), 0)
  | .ssm =>
    let l := s.ssmLatency n
    (s.bytes a size, l.2.countSoftSsm a, l.1)
  | _ =>
    let l := s.regLatency
    let r := l.2.readSpace (.engine n) a
    (r.1.toNat, r.2, l.1)

/-- The state after a store of `size` bytes of `v`, and its latency if it is blocking.  A store narrower than a word reads and corrects the word
first, and writes it with fresh check bits (R94, R155).  A store into the word CONSLO reports consumption (R402). -/
def State.dataStore (s : State) (n : Fin 24) (a size v : Nat) : State × Nat :=
  match windowOf a with
  | .own =>
    let s0 := if size = 4 then s else s.countSoftCe n (memAddr n a)
    ((s0.setBytes (memAddr n a) v size).freshWord (memAddr n a), 0)
  | .ssm =>
    let l := s.ssmLatency n
    if l.2.ringFixed a then (l.2, l.1)
    else
      let s0 := if size = 4 then l.2 else l.2.countSoftSsm a
      let u := (s0.setBytes a v size).freshWord a
      (if a / 4 * 4 = 0x10700008 then u.consNote (u.word 0x10700008) else u, l.1)
  | _ =>
    let l := s.regLatency
    (l.2.writeSpace a (BitVec.ofNat 32 v), l.1)

/-- The effect of a load: `ext` makes the register's value, and a post-increment writes ra. -/
def loadEff (n : Fin 24) (rd ra : BitVec 5) (a : Word) (size : Nat) (ext : Nat → Word) (post : Option Word) : Nat → State → Res := fun _ s =>
  match s.dataFault n a.toNat size false with
  | some c => .exc c a
  | none =>
    let r := s.dataLoad n a.toNat size
    .done (r.2.1.modCe n (fun e =>
      let e1 := match post with | some w => e.writeG ra w | none => e
      e1.writeG rd (ext r.1))) none r.2.2

/-- The effect of a store of `v`, which raises the flags `fl`. -/
def storeEff (n : Fin 24) (ra : BitVec 5) (a : Word) (size v : Nat) (fl : NFlags) (post : Option Word) : Nat → State → Res := fun _ s =>
  match s.dataFault n a.toNat size true with
  | some c => .exc c a
  | none =>
    let r := s.dataStore n a.toNat size v
    .done (r.1.modCe n (fun e =>
      let e1 := match post with | some w => e.writeG ra w | none => e
      e1.raise fl)) none r.2

/-- An access of the SSM that meets an uncorrectable word counts it (R155). -/
def State.dataCount (s : State) (n : Fin 24) (i : Instr) (pr : BitVec 4) (a size : Nat) (store : Bool) : State :=
  if s.performs n i pr && windowOf a == .ssm && s.dataFault n a size store == some xEccD then s.countBadSsm a else s

/-- A load instruction. -/
def loadInstr (n : Fin 24) (pr : BitVec 4) (rd ra : BitVec 5) (imm : BitVec 12) (i : Instr) (size : Nat) (ext : Nat → Word) (s : State) : State :=
  let a := (s.ce[n]).dataAddr ra imm size
  issue n pr { readsG := [ra], writesG := [(rd, 3)], mem := 3 } i (loadEff n rd ra a size ext none) (s.dataCount n i pr a.toNat size false)

/-- A store instruction of the value `v`. -/
def storeInstr (n : Fin 24) (pr : BitVec 4) (rs ra : BitVec 5) (imm : BitVec 12) (i : Instr) (size : Nat) (v : Word → Nat × NFlags)
    (s : State) : State :=
  let a := (s.ce[n]).dataAddr ra imm size
  let x := v ((s.ce[n]).readG rs)
  issue n pr { readsG := [rs, ra], mem := 1 } i (storeEff n ra a size x.1 x.2 none) (s.dataCount n i pr a.toNat size true)

/-- LDW. -/
def execLdw (n : Fin 24) (pr : BitVec 4) (rd ra : BitVec 5) (imm : BitVec 12) (s : State) : Out :=
  .next (loadInstr n pr rd ra imm (.ldw n pr rd ra imm) 4 (fun v => BitVec.ofNat 32 v) s)

/-- LDH: a sign-extended halfword. -/
def execLdh (n : Fin 24) (pr : BitVec 4) (rd ra : BitVec 5) (imm : BitVec 12) (s : State) : Out :=
  .next (loadInstr n pr rd ra imm (.ldh n pr rd ra imm) 2 (fun v => (BitVec.ofNat 16 v).signExtend 32) s)

/-- LDHU: a zero-extended halfword. -/
def execLdhu (n : Fin 24) (pr : BitVec 4) (rd ra : BitVec 5) (imm : BitVec 12) (s : State) : Out :=
  .next (loadInstr n pr rd ra imm (.ldhu n pr rd ra imm) 2 (fun v => BitVec.ofNat 32 (v % 65536)) s)

/-- LDB: a sign-extended byte. -/
def execLdb (n : Fin 24) (pr : BitVec 4) (rd ra : BitVec 5) (imm : BitVec 12) (s : State) : Out :=
  .next (loadInstr n pr rd ra imm (.ldb n pr rd ra imm) 1 (fun v => (BitVec.ofNat 8 v).signExtend 32) s)

/-- LDBU: a zero-extended byte. -/
def execLdbu (n : Fin 24) (pr : BitVec 4) (rd ra : BitVec 5) (imm : BitVec 12) (s : State) : Out :=
  .next (loadInstr n pr rd ra imm (.ldbu n pr rd ra imm) 1 (fun v => BitVec.ofNat 32 (v % 256)) s)

/-- LDQ: a Q15 halfword × 2^16. -/
def execLdq (n : Fin 24) (pr : BitVec 4) (rd ra : BitVec 5) (imm : BitVec 12) (s : State) : Out :=
  .next (loadInstr n pr rd ra imm (.ldq n pr rd ra imm) 2 (fun v => BitVec.ofNat 32 (v * 65536)) s)

/-- LDWP: ra itself is the address and takes ra + imm12 × 4. -/
def execLdwp (n : Fin 24) (pr : BitVec 4) (rd ra : BitVec 5) (imm : BitVec 12) (s : State) : Out :=
  .next (
    let i : Instr := .ldwp n pr rd ra imm
    let a := (s.ce[n]).readG ra
    issue n pr { readsG := [ra], writesG := [(rd, 3), (ra, 1)], mem := 3 } i
      (loadEff n rd ra a 4 (fun v => BitVec.ofNat 32 v) (some ((s.ce[n]).dataAddr ra imm 4))) (s.dataCount n i pr a.toNat 4 false))

/-- STW. -/
def execStw (n : Fin 24) (pr : BitVec 4) (rs ra : BitVec 5) (imm : BitVec 12) (s : State) : Out :=
  .next (storeInstr n pr rs ra imm (.stw n pr rs ra imm) 4 (fun w => (w.toNat, {})) s)

/-- STH: the low halfword. -/
def execSth (n : Fin 24) (pr : BitVec 4) (rs ra : BitVec 5) (imm : BitVec 12) (s : State) : Out :=
  .next (storeInstr n pr rs ra imm (.sth n pr rs ra imm) 2 (fun w => (w.toNat % 65536, {})) s)

/-- STB: the low byte. -/
def execStb (n : Fin 24) (pr : BitVec 4) (rs ra : BitVec 5) (imm : BitVec 12) (s : State) : Out :=
  .next (storeInstr n pr rs ra imm (.stb n pr rs ra imm) 1 (fun w => (w.toNat % 256, {})) s)

/-- STQ: the rounded and saturated Q15 halfword; saturation sets QSAT. -/
def execStq (n : Fin 24) (pr : BitVec 4) (rs ra : BitVec 5) (imm : BitVec 12) (s : State) : Out :=
  .next (storeInstr n pr rs ra imm (.stq n pr rs ra imm) 2 (fun w => ((stqHalf w).1.toNat, (stqHalf w).2)) s)

/-- STWP: ra itself is the address and takes ra + imm12 × 4. -/
def execStwp (n : Fin 24) (pr : BitVec 4) (rs ra : BitVec 5) (imm : BitVec 12) (s : State) : Out :=
  .next (
    let i : Instr := .stwp n pr rs ra imm
    let a := (s.ce[n]).readG ra
    issue n pr { readsG := [rs, ra], writesG := [(ra, 1)], mem := 1 } i
      (storeEff n ra a 4 ((s.ce[n]).readG rs).toNat {} (some ((s.ce[n]).dataAddr ra imm 4))) (s.dataCount n i pr a.toNat 4 true))

end Sys2Proof.Machine
end

