-- ==== Sys2Proof/Machine/VolgarQ31.lean ====
section
/-! DEFINITION. The Q31 and accumulator instructions (R100, Table 3-12). -/
namespace Sys2Proof.Machine

/-- QADD: rd = sat(ra + rb) (R100). -/
def execQadd (n : Fin 24) (pr : BitVec 4) (rd ra rb : BitVec 5) (s : State) : Out :=
  .next (issue n pr { readsG := [ra, rb], writesG := [(rd, 1)] } (.qadd n pr rd ra rb)
    (resultEff n rd (fun e => satQ ((e.readG ra).toInt + (e.readG rb).toInt))) s)

/-- QSUB: rd = sat(ra − rb) (R100). -/
def execQsub (n : Fin 24) (pr : BitVec 4) (rd ra rb : BitVec 5) (s : State) : Out :=
  .next (issue n pr { readsG := [ra, rb], writesG := [(rd, 1)] } (.qsub n pr rd ra rb)
    (resultEff n rd (fun e => satQ ((e.readG ra).toInt - (e.readG rb).toInt))) s)

/-- QMUL: rd = sat(floor((ra × rb + 2^30) / 2^31)) (R100). -/
def execQmul (n : Fin 24) (pr : BitVec 4) (rd ra rb : BitVec 5) (s : State) : Out :=
  .next (issue n pr { readsG := [ra, rb], writesG := [(rd, 2)] } (.qmul n pr rd ra rb)
    (resultEff n rd (fun e => qMul (e.readG ra) (e.readG rb))) s)

/-- QNEG: rd = sat(−ra) (R100). -/
def execQneg (n : Fin 24) (pr : BitVec 4) (rd ra : BitVec 5) (s : State) : Out :=
  .next (issue n pr { readsG := [ra], writesG := [(rd, 1)] } (.qneg n pr rd ra)
    (resultEff n rd (fun e => satQ (-(e.readG ra).toInt))) s)

/-- QABS: rd = sat(abs(ra)) (R100). -/
def execQabs (n : Fin 24) (pr : BitVec 4) (rd ra : BitVec 5) (s : State) : Out :=
  .next (issue n pr { readsG := [ra], writesG := [(rd, 1)] } (.qabs n pr rd ra)
    (resultEff n rd (fun e => satQ ((e.readG ra).toInt.natAbs : Int))) s)

/-- QSHL: rd = sat(ra × 2^n), n = rb[4:0] (R100). -/
def execQshl (n : Fin 24) (pr : BitVec 4) (rd ra rb : BitVec 5) (s : State) : Out :=
  .next (issue n pr { readsG := [ra, rb], writesG := [(rd, 1)] } (.qshl n pr rd ra rb)
    (resultEff n rd (fun e => satQ ((e.readG ra).toInt * 2 ^ shiftAmount (e.readG rb)))) s)

/-- QSHR: ra reduced by n = rb[4:0] bits (R100). -/
def execQshr (n : Fin 24) (pr : BitVec 4) (rd ra rb : BitVec 5) (s : State) : Out :=
  .next (issue n pr { readsG := [ra, rb], writesG := [(rd, 1)] } (.qshr n pr rd ra rb)
    (resultEff n rd (fun e => noFlags (qShr (e.readG ra) (e.readG rb)))) s)

/-- The effect that writes one accumulator and raises its flags. -/
def accEff (n : Fin 24) (a : BitVec 2) (r : Eng → BitVec 72 × NFlags) : Nat → State → Res :=
  regEff n (fun e => (e.writeA a (r e).1).raise (r e).2)

/-- MAC: A = sat72(A + ra × rb) (R100). -/
def execMac (n : Fin 24) (pr : BitVec 4) (a : BitVec 2) (ra rb : BitVec 5) (s : State) : Out :=
  .next (issue n pr { readsG := [ra, rb], accs := [a], writesA := true, group := true } (.mac n pr a ra rb)
    (accEff n a (fun e => satAcc ((e.readA a).toInt + (e.readG ra).toInt * (e.readG rb).toInt))) s)

/-- MSU: A = sat72(A − ra × rb) (R100). -/
def execMsu (n : Fin 24) (pr : BitVec 4) (a : BitVec 2) (ra rb : BitVec 5) (s : State) : Out :=
  .next (issue n pr { readsG := [ra, rb], accs := [a], writesA := true, group := true } (.msu n pr a ra rb)
    (accEff n a (fun e => satAcc ((e.readA a).toInt - (e.readG ra).toInt * (e.readG rb).toInt))) s)

/-- MPYA: A = ra × rb, which never saturates (R100). -/
def execMpya (n : Fin 24) (pr : BitVec 4) (a : BitVec 2) (ra rb : BitVec 5) (s : State) : Out :=
  .next (issue n pr { readsG := [ra, rb], accs := [a], writesA := true, group := true } (.mpya n pr a ra rb)
    (accEff n a (fun e => satAcc ((e.readG ra).toInt * (e.readG rb).toInt))) s)

/-- ADDA: A = sat72(A + ra × 2^31) (R100). -/
def execAdda (n : Fin 24) (pr : BitVec 4) (a : BitVec 2) (ra : BitVec 5) (s : State) : Out :=
  .next (issue n pr { readsG := [ra], accs := [a], writesA := true, group := true } (.adda n pr a ra)
    (accEff n a (fun e => satAcc ((e.readA a).toInt + (e.readG ra).toInt * 2 ^ 31))) s)

/-- CLRA: A = 0 (R100). -/
def execClra (n : Fin 24) (pr : BitVec 4) (a : BitVec 2) (s : State) : Out :=
  .next (issue n pr { accs := [a], writesA := true } (.clra n pr a)
    (accEff n a (fun _ => (0#72, {}))) s)

/-- RACC: the accumulator shifted left by k and rounded to Q31 (R86, R100). -/
def execRacc (n : Fin 24) (pr : BitVec 4) (rd : BitVec 5) (a : BitVec 2) (k : BitVec 5) (s : State) : Out :=
  .next (issue n pr { accs := [a], writesG := [(rd, 1)] } (.racc n pr rd a k)
    (resultEff n rd (fun e => raccVal (e.readA a).toInt k.toNat)) s)

/-- MFA: one part of the accumulator (R100). -/
def execMfa (n : Fin 24) (pr : BitVec 4) (rd : BitVec 5) (a : BitVec 2) (part : BitVec 5) (s : State) : Out :=
  .next (issue n pr { accs := [a], writesG := [(rd, 1)] } (.mfa n pr rd a part)
    (resultEff n rd (fun e => noFlags (mfaVal (e.readA a) part.toNat))) s)

/-- MTA: writes one part of the accumulator (R100). -/
def execMta (n : Fin 24) (pr : BitVec 4) (a : BitVec 2) (ra : BitVec 5) (part : BitVec 5) (s : State) : Out :=
  .next (issue n pr { readsG := [ra], accs := [a], writesA := true } (.mta n pr a ra part)
    (accEff n a (fun e => (mtaVal (e.readA a) part.toNat (e.readG ra), {}))) s)

end Sys2Proof.Machine
end

