-- ==== Sys2Proof/Machine/VolgarSys.lean ====
section
/-! DEFINITION. The branch and system instructions (R104, Table 3-16), the fetch exceptions (R94, R96) and the special registers (Table 3-2). -/
namespace Sys2Proof.Machine

/-- A branch to `t`: a target that is not word-aligned or not below 0x6000 raises IFETCH (R104). -/
def jumpTo (t : Word) (s : State) : Res :=
  if t.toNat % 4 = 0 ∧ t.toNat < 0x6000 then .done s (some t) 0 else .exc xIfetch t

/-- The target PC + 4 × off22. -/
def branchTarget (pc : Word) (off : BitVec 22) : Word := pc + (off.signExtend 32) * 4#32

/-- BR (R104). -/
def execBr (n : Fin 24) (pr : BitVec 4) (off : BitVec 22) (s : State) : Out :=
  .next (issue n pr { branch := true } (.br n pr off) (fun _ s => jumpTo (branchTarget (s.ce[n]).pc off) s) s)

/-- CALL: g31 = PC + 4 (R104). -/
def execCall (n : Fin 24) (pr : BitVec 4) (off : BitVec 22) (s : State) : Out :=
  .next (issue n pr { writesG := [(31#5, 1)], branch := true } (.call n pr off)
    (fun _ s => jumpTo (branchTarget (s.ce[n]).pc off) (s.modCe n (fun e => e.writeG 31#5 (e.pc + 4#32)))) s)

/-- JR (R104). -/
def execJr (n : Fin 24) (pr : BitVec 4) (ra : BitVec 5) (s : State) : Out :=
  .next (issue n pr { readsG := [ra], branch := true } (.jr n pr ra) (fun _ s => jumpTo ((s.ce[n]).readG ra) s) s)

/-- JALR: rd = PC + 4, PC = ra (R104). -/
def execJalr (n : Fin 24) (pr : BitVec 4) (rd ra : BitVec 5) (s : State) : Out :=
  .next (issue n pr { readsG := [ra], writesG := [(rd, 1)], branch := true } (.jalr n pr rd ra)
    (fun _ s => jumpTo ((s.ce[n]).readG ra) (s.modCe n (fun e => e.writeG rd (e.pc + 4#32)))) s)

/-- s_pred as a word (Table 3-7). -/
def Eng.predWord (e : Eng) : Word :=
  BitVec.ofNat 32 (1 + ((List.range 7).map (fun k => b2n (e.p.toList.getD (k + 1) false) * 2 ^ (k + 1))).sum)

/-- The value of a special register at an issue in cycle `t` (Table 3-2); s_cyc counts from the task's first issue. -/
def State.sreg (s : State) (n : Fin 24) (t : Nat) (k : BitVec 12) : Word :=
  let e := s.ce[n]
  match k.toNat with
  | 0 => e.sfret
  | 1 => BitVec.ofNat 32 e.sfic
  | 2 => BitVec.ofNat 32 s.angle
  | 3 => BitVec.ofNat 32 (s.getF .ATU_FREQ_FREQ 0)
  | 4 => BitVec.ofNat 32 (s.sDl n)
  | 5 => BitVec.ofNat 32 (t - e.tm.first.getD t)
  | 6 => BitVec.ofNat 32 n.val
  | 7 => e.sentry.zeroExtend 32
  | 0x10 => e.flags.zeroExtend 32
  | _ => e.predWord

/-- s_pred stands for p1 to p7. -/
def predRegs (sreg : BitVec 12) : List (BitVec 3) := if sreg = 0x11#12 then [1, 2, 3, 4, 5, 6, 7] else []

/-- MFS: reads a special register; an absent number raises ILLEGAL (R82). -/
def execMfs (n : Fin 24) (pr : BitVec 4) (rd : BitVec 5) (sreg : BitVec 12) (s : State) : Out :=
  .next (issue n pr { writesG := [(rd, 2)], readsP := predRegs sreg } (.mfs n pr rd sreg)
    (fun t s => .done (s.modCe n (fun e => e.writeG rd (s.sreg n t sreg))) none 0) s)

/-- The writable special registers: s_flags is replaced whole, and a flag that an instruction in flight sets later is 1 all the same (R87,
R109); s_pred writes p1 to p7 (Table 3-7). -/
def Eng.writeSreg (e : Eng) (k : BitVec 12) (w : Word) : Eng :=
  if k = 0x10#12 then { e with flags := w.extractLsb' 0 7 }
  else { e with p := e.p.mapFinIdx (fun i b _ => if i = 0 then b else w.getLsbD i) }

/-- MTS: writes s_flags or s_pred; any other number raises ILLEGAL (R82). -/
def execMts (n : Fin 24) (pr : BitVec 4) (sreg : BitVec 12) (ra : BitVec 5) (s : State) : Out :=
  .next (issue n pr { readsG := [ra], writesP := (predRegs sreg).map (fun k => (k, 1)) }
    (.mts n pr sreg ra) (regEff n (fun e => e.writeSreg sreg (e.readG ra))) s)

/-- NOP (R104). -/
def execNop (n : Fin 24) (pr : BitVec 4) (s : State) : Out :=
  .next (issue n pr {} (.nop n pr) (fun _ s => .done s none 0) s)

/-- FENCE: the next instruction issues only after every earlier load and store has completed (R104). -/
def execFence (n : Fin 24) (pr : BitVec 4) (s : State) : Out :=
  .next (issue n pr {} (.fence n pr)
    (fun t s => .done s none ((s.ce[n]).tm.memDone - t)) s)

/-- Halting on BRK is enabled: a debugger has asked for it, and its grant holds ENGINE (R481). -/
def State.brkHalts (s : State) (n : Fin 24) : Bool := s.haltEn.getLsbD n && s.debugLevel.testBit 0

/-- BRK: a debug halt where a debugger has enabled halting of the engine, otherwise BREAK (R104).  The halted engine's PC stands at the next
instruction, where a resume goes on (DESIGN CHOICE, log entry 53). -/
def execBrk (n : Fin 24) (pr : BitVec 4) (s : State) : Out :=
  .next (issue n pr {} (.brk n pr)
    (fun _ s => if s.brkHalts n then .done (s.debugHalt n) none 0 else .exc xBreak 0#32) s)

/-- RESERVED_OPCODE: a fetched word that stands for no instruction raises ILLEGAL with the word, whatever its predicate
(R96). -/
def execReservedOpcode (n : Fin 24) (w : Word) (s : State) : Out :=
  .next (if s.canIssue n && (decodeVolgar n w).isNone then
    match s.fetchFault n with
    | some t => t
    | none => (s.countFetch n).exception n xIllegal (s.ce[n]).pc w (s.ce[n]).tm.next
  else s)

/-- FETCH_ECC_ERROR: an error in a word with check bits (R94, R155).  In the word that the engine fetches, an uncorrectable one raises ECC_I
whatever its predicate (R107); every other error waits in the word for the next read or fetch.  A key slot that OTP cannot give any longer
reads as revoked (R469). -/
def execFetchEccError (e : EccEvent) (s : State) : Out :=
  .next (match e with
    | .word a bad => s.upset a.toNat bad
    | .otp k => { s with sec := { s.sec with slots := s.sec.slots.set k { s.sec.slots[k] with fault := true } } }
    | .fetch n bad =>
      let s1 := s.upset (s.fetchAddr n) bad
      if s1.canIssue n then (s1.fetchFault n).getD s1 else s1)

end Sys2Proof.Machine
end

