-- ==== Sys2Proof/Machine/Dispatch.lean ====
section
/-! DEFINITION. One arm per command: a direct call of its meaning. -/
namespace Sys2Proof.Machine

/-- The effect of a command on everything but the queue. -/
def exec (i : Instr) (s : State) : Host.Outcome State Fault Refusal :=
  match i with
  | .regWrite ag addr w => Sys2Proof.Machine.execRegWrite ag addr w s
  | .readClear ag addr => Sys2Proof.Machine.execReadClear ag addr s
  | .unmappedAccess ag addr wr size => Sys2Proof.Machine.execUnmappedAccess ag addr wr size s
  | .lock u withUnlock => Sys2Proof.Machine.execLock u withUnlock s
  | .unlock u => Sys2Proof.Machine.execUnlock u s
  | .unitEnable u => Sys2Proof.Machine.execUnitEnable u s
  | .unitDisable u => Sys2Proof.Machine.execUnitDisable u s
  | .drainComplete u => Sys2Proof.Machine.execDrainComplete u s
  | .fretBoundary => Sys2Proof.Machine.execFretBoundary s
  | .taskStart n => Sys2Proof.Machine.execTaskStart n s
  | .scanStart m l src => Sys2Proof.Machine.execScanStart m l src s
  | .adcConversionDone m x => Sys2Proof.Machine.execAdcConversionDone m x s
  | .deadlineThreshold n => Sys2Proof.Machine.execDeadlineThreshold n s
  | .armConversionDone a => Sys2Proof.Machine.execArmConversionDone a s
  | .fpcselWrite v => Sys2Proof.Machine.execFpcselWrite v s
  | .sourceHandoverRequest v => Sys2Proof.Machine.execSourceHandoverRequest v s
  | .snap => Sys2Proof.Machine.execSnap s
  | .atuEnable => Sys2Proof.Machine.execAtuEnable s
  | .atuDisable => Sys2Proof.Machine.execAtuDisable s
  | .sourceLoss => Sys2Proof.Machine.execSourceLoss s
  | .sourceReturn => Sys2Proof.Machine.execSourceReturn s
  | .slewEnd => Sys2Proof.Machine.execSlewEnd s
  | .fretSwap mode => Sys2Proof.Machine.execFretSwap mode s
  | .fretSwapValidated => Sys2Proof.Machine.execFretSwapValidated s
  | .fretTableWrite off w => Sys2Proof.Machine.execFretTableWrite off w s
  | .add n pr rd ra rb => Sys2Proof.Machine.execAdd n pr rd ra rb s
  | .sub n pr rd ra rb => Sys2Proof.Machine.execSub n pr rd ra rb s
  | .and n pr rd ra rb => Sys2Proof.Machine.execAnd n pr rd ra rb s
  | .or n pr rd ra rb => Sys2Proof.Machine.execOr n pr rd ra rb s
  | .xor n pr rd ra rb => Sys2Proof.Machine.execXor n pr rd ra rb s
  | .andn n pr rd ra rb => Sys2Proof.Machine.execAndn n pr rd ra rb s
  | .sll n pr rd ra rb => Sys2Proof.Machine.execSll n pr rd ra rb s
  | .srl n pr rd ra rb => Sys2Proof.Machine.execSrl n pr rd ra rb s
  | .sra n pr rd ra rb => Sys2Proof.Machine.execSra n pr rd ra rb s
  | .ror n pr rd ra rb => Sys2Proof.Machine.execRor n pr rd ra rb s
  | .min n pr rd ra rb => Sys2Proof.Machine.execMin n pr rd ra rb s
  | .max n pr rd ra rb => Sys2Proof.Machine.execMax n pr rd ra rb s
  | .minu n pr rd ra rb => Sys2Proof.Machine.execMinu n pr rd ra rb s
  | .maxu n pr rd ra rb => Sys2Proof.Machine.execMaxu n pr rd ra rb s
  | .clz n pr rd ra => Sys2Proof.Machine.execClz n pr rd ra s
  | .popc n pr rd ra => Sys2Proof.Machine.execPopc n pr rd ra s
  | .mul n pr rd ra rb => Sys2Proof.Machine.execMul n pr rd ra rb s
  | .mulh n pr rd ra rb => Sys2Proof.Machine.execMulh n pr rd ra rb s
  | .mulhu n pr rd ra rb => Sys2Proof.Machine.execMulhu n pr rd ra rb s
  | .div n pr rd ra rb => Sys2Proof.Machine.execDiv n pr rd ra rb s
  | .divu n pr rd ra rb => Sys2Proof.Machine.execDivu n pr rd ra rb s
  | .rem n pr rd ra rb => Sys2Proof.Machine.execRem n pr rd ra rb s
  | .remu n pr rd ra rb => Sys2Proof.Machine.execRemu n pr rd ra rb s
  | .movl n pr rd imm => Sys2Proof.Machine.execMovl n pr rd imm s
  | .movh n pr rd imm => Sys2Proof.Machine.execMovh n pr rd imm s
  | .addi n pr rd ra imm => Sys2Proof.Machine.execAddi n pr rd ra imm s
  | .andi n pr rd ra imm => Sys2Proof.Machine.execAndi n pr rd ra imm s
  | .ori n pr rd ra imm => Sys2Proof.Machine.execOri n pr rd ra imm s
  | .xori n pr rd ra imm => Sys2Proof.Machine.execXori n pr rd ra imm s
  | .shi n pr rd ra op cnt => Sys2Proof.Machine.execShi n pr rd ra op cnt s
  | .qadd n pr rd ra rb => Sys2Proof.Machine.execQadd n pr rd ra rb s
  | .qsub n pr rd ra rb => Sys2Proof.Machine.execQsub n pr rd ra rb s
  | .qmul n pr rd ra rb => Sys2Proof.Machine.execQmul n pr rd ra rb s
  | .qneg n pr rd ra => Sys2Proof.Machine.execQneg n pr rd ra s
  | .qabs n pr rd ra => Sys2Proof.Machine.execQabs n pr rd ra s
  | .qshl n pr rd ra rb => Sys2Proof.Machine.execQshl n pr rd ra rb s
  | .qshr n pr rd ra rb => Sys2Proof.Machine.execQshr n pr rd ra rb s
  | .mac n pr a ra rb => Sys2Proof.Machine.execMac n pr a ra rb s
  | .msu n pr a ra rb => Sys2Proof.Machine.execMsu n pr a ra rb s
  | .mpya n pr a ra rb => Sys2Proof.Machine.execMpya n pr a ra rb s
  | .adda n pr a ra => Sys2Proof.Machine.execAdda n pr a ra s
  | .clra n pr a => Sys2Proof.Machine.execClra n pr a s
  | .racc n pr rd a k => Sys2Proof.Machine.execRacc n pr rd a k s
  | .mfa n pr rd a part => Sys2Proof.Machine.execMfa n pr rd a part s
  | .mta n pr a ra part => Sys2Proof.Machine.execMta n pr a ra part s
  | .fadd n pr rd ra rb => Sys2Proof.Machine.execFadd n pr rd ra rb s
  | .fsub n pr rd ra rb => Sys2Proof.Machine.execFsub n pr rd ra rb s
  | .fmul n pr rd ra rb => Sys2Proof.Machine.execFmul n pr rd ra rb s
  | .fma n pr rd ra rb => Sys2Proof.Machine.execFma n pr rd ra rb s
  | .fms n pr rd ra rb => Sys2Proof.Machine.execFms n pr rd ra rb s
  | .fdiv n pr rd ra rb => Sys2Proof.Machine.execFdiv n pr rd ra rb s
  | .fsqrt n pr rd ra => Sys2Proof.Machine.execFsqrt n pr rd ra s
  | .fmin n pr rd ra rb => Sys2Proof.Machine.execFmin n pr rd ra rb s
  | .fmax n pr rd ra rb => Sys2Proof.Machine.execFmax n pr rd ra rb s
  | .fabs n pr rd ra => Sys2Proof.Machine.execFabs n pr rd ra s
  | .fneg n pr rd ra => Sys2Proof.Machine.execFneg n pr rd ra s
  | .f2q n pr rd ra => Sys2Proof.Machine.execF2q n pr rd ra s
  | .q2f n pr rd ra => Sys2Proof.Machine.execQ2f n pr rd ra s
  | .f2i n pr rd ra => Sys2Proof.Machine.execF2i n pr rd ra s
  | .i2f n pr rd ra => Sys2Proof.Machine.execI2f n pr rd ra s
  | .cmp n pr pd comb ra rb cond => Sys2Proof.Machine.execCmp n pr pd comb ra rb cond s
  | .cmpi n pr pd comb ra imm cond => Sys2Proof.Machine.execCmpi n pr pd comb ra imm cond s
  | .plog n pr pd pa pb op => Sys2Proof.Machine.execPlog n pr pd pa pb op s
  | .mfs n pr rd sreg => Sys2Proof.Machine.execMfs n pr rd sreg s
  | .mts n pr sreg ra => Sys2Proof.Machine.execMts n pr sreg ra s
  | .nop n pr => Sys2Proof.Machine.execNop n pr s
  | .fence n pr => Sys2Proof.Machine.execFence n pr s
  | .brk n pr => Sys2Proof.Machine.execBrk n pr s
  | .ldw n pr rd ra imm => Sys2Proof.Machine.execLdw n pr rd ra imm s
  | .ldh n pr rd ra imm => Sys2Proof.Machine.execLdh n pr rd ra imm s
  | .ldhu n pr rd ra imm => Sys2Proof.Machine.execLdhu n pr rd ra imm s
  | .ldb n pr rd ra imm => Sys2Proof.Machine.execLdb n pr rd ra imm s
  | .ldbu n pr rd ra imm => Sys2Proof.Machine.execLdbu n pr rd ra imm s
  | .ldq n pr rd ra imm => Sys2Proof.Machine.execLdq n pr rd ra imm s
  | .ldwp n pr rd ra imm => Sys2Proof.Machine.execLdwp n pr rd ra imm s
  | .stw n pr rs ra imm => Sys2Proof.Machine.execStw n pr rs ra imm s
  | .sth n pr rs ra imm => Sys2Proof.Machine.execSth n pr rs ra imm s
  | .stb n pr rs ra imm => Sys2Proof.Machine.execStb n pr rs ra imm s
  | .stq n pr rs ra imm => Sys2Proof.Machine.execStq n pr rs ra imm s
  | .stwp n pr rs ra imm => Sys2Proof.Machine.execStwp n pr rs ra imm s
  | .br n pr off => Sys2Proof.Machine.execBr n pr off s
  | .call n pr off => Sys2Proof.Machine.execCall n pr off s
  | .jr n pr ra => Sys2Proof.Machine.execJr n pr ra s
  | .jalr n pr rd ra => Sys2Proof.Machine.execJalr n pr rd ra s
  | .sincos n pr rd ra rb => Sys2Proof.Machine.execSincos n pr rd ra rb s
  | .biq n pr rd ra rb => Sys2Proof.Machine.execBiq n pr rd ra rb s
  | .pi n pr rd ra rb => Sys2Proof.Machine.execPi n pr rd ra rb s
  | .capo n pr rd ra rb => Sys2Proof.Machine.execCapo n pr rd ra rb s
  | .lim n pr rd ra rb => Sys2Proof.Machine.execLim n pr rd ra rb s
  | .limf n pr rd ra rb => Sys2Proof.Machine.execLimf n pr rd ra rb s
  | .sat n pr rd ra cnt => Sys2Proof.Machine.execSat n pr rd ra cnt s
  | .satu n pr rd ra cnt => Sys2Proof.Machine.execSatu n pr rd ra cnt s
  | .pluck n pr rd ra => Sys2Proof.Machine.execPluck n pr rd ra s
  | .plka n pr rd ra rb => Sys2Proof.Machine.execPlka n pr rd ra rb s
  | .plkc n pr a ra rb lag => Sys2Proof.Machine.execPlkc n pr a ra rb lag s
  | .send n pr ra rb => Sys2Proof.Machine.execSend n pr ra rb s
  | .recv n pr rd ra => Sys2Proof.Machine.execRecv n pr rd ra s
  | .pega n pr rd ra => Sys2Proof.Machine.execPega n pr rd ra s
  | .pegr n pr rd ra => Sys2Proof.Machine.execPegr n pr rd ra s
  | .pegrk n pr rd ra => Sys2Proof.Machine.execPegrk n pr rd ra s
  | .pegq n pr rd ra => Sys2Proof.Machine.execPegq n pr rd ra s
  | .waitf n pr pd off => Sys2Proof.Machine.execWaitf n pr pd off s
  | .waitfWake n => Sys2Proof.Machine.execWaitfWake n s
  | .commit n pr rd => Sys2Proof.Machine.execCommit n pr rd s
  | .commitE n pr rd => Sys2Proof.Machine.execCommitE n pr rd s
  | .endt n pr => Sys2Proof.Machine.execEndt n pr s
  | .dlq n pr rd => Sys2Proof.Machine.execDlq n pr rd s
  | .dlck n pr pd ra => Sys2Proof.Machine.execDlck n pr pd ra s
  | .ssmGrant raised engines cycles => Sys2Proof.Machine.execSsmGrant raised engines cycles s
  | .arbWindowStart => Sys2Proof.Machine.execArbWindowStart s
  | .holdLimitCut => Sys2Proof.Machine.execHoldLimitCut s
  | .ceUrst n => Sys2Proof.Machine.execCeUrst n s
  | .debugResume n => Sys2Proof.Machine.execDebugResume n s
  | .imageBankWrite n off w => Sys2Proof.Machine.execImageBankWrite n off w s
  | .actGo mode => Sys2Proof.Machine.execActGo mode s
  | .actValidated => Sys2Proof.Machine.execActValidated s
  | .pegAcqRead core peg => Sys2Proof.Machine.execPegAcqRead core peg s
  | .pegRelRead core peg => Sys2Proof.Machine.execPegRelRead core peg s
  | .pegRelkRead core peg => Sys2Proof.Machine.execPegRelkRead core peg s
  | .cbsSortStart a => Sys2Proof.Machine.execCbsSortStart a s
  | .cbsSortDone a => Sys2Proof.Machine.execCbsSortDone a s
  | .modUrst => Sys2Proof.Machine.execModUrst s
  | .trainingSetReceived n first rest errs => Sys2Proof.Machine.execTrainingSetReceived n first rest errs s
  | .trainingTimeout t => Sys2Proof.Machine.execTrainingTimeout t s
  | .linkLoss n errs => Sys2Proof.Machine.execLinkLoss n errs s
  | .retrain n => Sys2Proof.Machine.execRetrain n s
  | .rateWrite n rate => Sys2Proof.Machine.execRateWrite n rate s
  | .txeqWrite x w => Sys2Proof.Machine.execTxeqWrite x w s
  | .eireqSet n => Sys2Proof.Machine.execEireqSet n s
  | .eisSent n => Sys2Proof.Machine.execEisSent n s
  | .eisReceived n => Sys2Proof.Machine.execEisReceived n s
  | .eireqClear n => Sys2Proof.Machine.execEireqClear n s
  | .fxbReceived n => Sys2Proof.Machine.execFxbReceived n s
  | .fastExitTimeout n => Sys2Proof.Machine.execFastExitTimeout n s
  | .patternCtrlWrite x w => Sys2Proof.Machine.execPatternCtrlWrite x w s
  | .checkerLock r => Sys2Proof.Machine.execCheckerLock r s
  | .checkerLostLock x bits => Sys2Proof.Machine.execCheckerLostLock x bits s
  | .mirrorGroupUp => Sys2Proof.Machine.execMirrorGroupUp s
  | .mirrorLinkLoss m => Sys2Proof.Machine.execMirrorLinkLoss m s
  | .timebaseLaunch n => Sys2Proof.Machine.execTimebaseLaunch n s
  | .delayReqLaunch n => Sys2Proof.Machine.execDelayReqLaunch n s
  | .commandLaunch n => Sys2Proof.Machine.execCommandLaunch n s
  | .retryLaunch n => Sys2Proof.Machine.execRetryLaunch n s
  | .ackReceived n f => Sys2Proof.Machine.execAckReceived n f s
  | .telemetryReceived n f => Sys2Proof.Machine.execTelemetryReceived n f s
  | .delayRespReceived n f t4 => Sys2Proof.Machine.execDelayRespReceived n f t4 s
  | .delayRespTimeout n => Sys2Proof.Machine.execDelayRespTimeout n s
  | .bulkReceived n f => Sys2Proof.Machine.execBulkReceived n f s
  | .bulkTxGo n e => Sys2Proof.Machine.execBulkTxGo n e s
  | .bulkTxSend n => Sys2Proof.Machine.execBulkTxSend n s
  | .bulkRxFree n e => Sys2Proof.Machine.execBulkRxFree n e s
  | .slotTableWrite n off w => Sys2Proof.Machine.execSlotTableWrite n off w s
  | .clgSwap mode => Sys2Proof.Machine.execClgSwap mode s
  | .clgSwapValidated => Sys2Proof.Machine.execClgSwapValidated s
  | .clearRequest => Sys2Proof.Machine.execClearRequest s
  | .cmpCrossing n v => Sys2Proof.Machine.execCmpCrossing n v s
  | .tripPinChange n level => Sys2Proof.Machine.execTripPinChange n level s
  | .blankWindowEnd x => Sys2Proof.Machine.execBlankWindowEnd x s
  | .filterQualified x => Sys2Proof.Machine.execFilterQualified x s
  | .muteStateSet => Sys2Proof.Machine.execMuteStateSet s
  | .latchClear k w => Sys2Proof.Machine.execLatchClear k w s
  | .mclr => Sys2Proof.Machine.execMclr s
  | .routeWrite r w => Sys2Proof.Machine.execRouteWrite r w s
  | .swTripRequest n => Sys2Proof.Machine.execSwTripRequest n s
  | .supTripRequest => Sys2Proof.Machine.execSupTripRequest s
  | .pwmPeriodStart n => Sys2Proof.Machine.execPwmPeriodStart n s
  | .pwmLoadPoint n => Sys2Proof.Machine.execPwmLoadPoint n s
  | .pwmCompareMatch n => Sys2Proof.Machine.execPwmCompareMatch n s
  | .deadTimeExpiry n high => Sys2Proof.Machine.execDeadTimeExpiry n high s
  | .pwmStart mask => Sys2Proof.Machine.execPwmStart mask s
  | .pwmStartDue => Sys2Proof.Machine.execPwmStartDue s
  | .pwmTrip n => Sys2Proof.Machine.execPwmTrip n s
  | .pwmTripClear n => Sys2Proof.Machine.execPwmTripClear n s
  | .cbcCut n => Sys2Proof.Machine.execCbcCut n s
  | .cbcBlankEnd n => Sys2Proof.Machine.execCbcBlankEnd n s
  | .pwmOverride n ovrh ovrl => Sys2Proof.Machine.execPwmOverride n ovrh ovrl s
  | .pwmDisable n => Sys2Proof.Machine.execPwmDisable n s
  | .pwmTrigger n b => Sys2Proof.Machine.execPwmTrigger n b s
  | .debugHalt h => Sys2Proof.Machine.execDebugHalt h s
  | .adcSwgo m lists => Sys2Proof.Machine.execAdcSwgo m lists s
  | .adUrst m => Sys2Proof.Machine.execAdUrst m s
  | .tdacWrite m w => Sys2Proof.Machine.execTdacWrite m w s
  | .auxPeriodStart => Sys2Proof.Machine.execAuxPeriodStart s
  | .auxHonMatch x => Sys2Proof.Machine.execAuxHonMatch x s
  | .auxDeadTimeExpiry x high => Sys2Proof.Machine.execAuxDeadTimeExpiry x high s
  | .bootstrapUv x => Sys2Proof.Machine.execBootstrapUv x s
  | .bootstrapRecover x => Sys2Proof.Machine.execBootstrapRecover x s
  | .vdrvUv vhv => Sys2Proof.Machine.execVdrvUv vhv s
  | .vdrvRecover => Sys2Proof.Machine.execVdrvRecover s
  | .auxDesatBlankEnd x high => Sys2Proof.Machine.execAuxDesatBlankEnd x high s
  | .auxDesat x high => Sys2Proof.Machine.execAuxDesat x high s
  | .auxOverride x ovrh ovrl => Sys2Proof.Machine.execAuxOverride x ovrh ovrl s
  | .auxLinkLoss => Sys2Proof.Machine.execAuxLinkLoss s
  | .auxLinkReturn => Sys2Proof.Machine.execAuxLinkReturn s
  | .vregPhaseFire => Sys2Proof.Machine.execVregPhaseFire s
  | .vregOnTimeEnd p => Sys2Proof.Machine.execVregOnTimeEnd p s
  | .vregCurrentLimit p => Sys2Proof.Machine.execVregCurrentLimit p s
  | .vregRefStep => Sys2Proof.Machine.execVregRefStep s
  | .vidWrite vid => Sys2Proof.Machine.execVidWrite vid s
  | .pwrgdAssert => Sys2Proof.Machine.execPwrgdAssert s
  | .pwrgdDeassert => Sys2Proof.Machine.execPwrgdDeassert s
  | .ovpDetect => Sys2Proof.Machine.execOvpDetect s
  | .softStartTimeout => Sys2Proof.Machine.execSoftStartTimeout s
  | .hiccupEnd => Sys2Proof.Machine.execHiccupEnd s
  | .hiccupCountClear => Sys2Proof.Machine.execHiccupCountClear s
  | .syncInLost => Sys2Proof.Machine.execSyncInLost s
  | .syncInReacquired => Sys2Proof.Machine.execSyncInReacquired s
  | .serFirmwareStart => Sys2Proof.Machine.execSerFirmwareStart s
  | .safetyCycle closed readback diag => Sys2Proof.Machine.execSafetyCycle closed readback diag s
  | .serSoutCut => Sys2Proof.Machine.execSerSoutCut s
  | .tpoPulse k => Sys2Proof.Machine.execTpoPulse k s
  | .tpoPulseEnd k closed => Sys2Proof.Machine.execTpoPulseEnd k closed s
  | .tpoRecoveryCheck k closed => Sys2Proof.Machine.execTpoRecoveryCheck k closed s
  | .soutDarkPulse n => Sys2Proof.Machine.execSoutDarkPulse n s
  | .darkPulseEnd n fell => Sys2Proof.Machine.execDarkPulseEnd n fell s
  | .proofTestEnd => Sys2Proof.Machine.execProofTestEnd s
  | .lockstepFault => Sys2Proof.Machine.execLockstepFault s
  | .serWatchdogExpiry => Sys2Proof.Machine.execSerWatchdogExpiry s
  | .safeSupplyFault => Sys2Proof.Machine.execSafeSupplyFault s
  | .hostFrameReceived p f fcs ago => Sys2Proof.Machine.execHostFrameReceived p f fcs ago s
  | .prpEntryExpiry k => Sys2Proof.Machine.execPrpEntryExpiry k s
  | .txQueueTailWrite p q tail => Sys2Proof.Machine.execTxQueueTailWrite p q tail s
  | .timedLaunchDue q busy => Sys2Proof.Machine.execTimedLaunchDue q busy s
  | .hostFrameSent p src ago => Sys2Proof.Machine.execHostFrameSent p src ago s
  | .tsqPop p => Sys2Proof.Machine.execTsqPop p s
  | .hostLinkStateChange p e => Sys2Proof.Machine.execHostLinkStateChange p e s
  | .hpModeWrite p mode => Sys2Proof.Machine.execHpModeWrite p mode s
  | .timeSet => Sys2Proof.Machine.execTimeSet s
  | .timeStep => Sys2Proof.Machine.execTimeStep s
  | .timeNsRead r => Sys2Proof.Machine.execTimeNsRead r s
  | .toutEnable n => Sys2Proof.Machine.execToutEnable n s
  | .toutRise n => Sys2Proof.Machine.execToutRise n s
  | .toutFall n => Sys2Proof.Machine.execToutFall n s
  | .identify q => Sys2Proof.Machine.execIdentify q s
  | .status q => Sys2Proof.Machine.execStatus q s
  | .reason q => Sys2Proof.Machine.execReason q s
  | .fwRecoverBegin q total => Sys2Proof.Machine.execFwRecoverBegin q total s
  | .fwRecoverData q off data => Sys2Proof.Machine.execFwRecoverData q off data s
  | .fwRecoverCommit q => Sys2Proof.Machine.execFwRecoverCommit q s
  | .fwRecoverRetry q => Sys2Proof.Machine.execFwRecoverRetry q s
  | .recoveryIdleTimeout => Sys2Proof.Machine.execRecoveryIdleTimeout s
  | .openSession q cred resume nh => Sys2Proof.Machine.execOpenSession q cred resume nh s
  | .sessionKeyTimeout sid => Sys2Proof.Machine.execSessionKeyTimeout sid s
  | .ping r => Sys2Proof.Machine.execPing r s
  | .query r k => Sys2Proof.Machine.execQuery r k s
  | .readState r addr => Sys2Proof.Machine.execReadState r addr s
  | .logRead r => Sys2Proof.Machine.execLogRead r s
  | .attest r nonce part => Sys2Proof.Machine.execAttest r nonce part s
  | .imagePut r buf off data => Sys2Proof.Machine.execImagePut r buf off data s
  | .closeSession r => Sys2Proof.Machine.execCloseSession r s
  | .lockTake r lock => Sys2Proof.Machine.execLockTake r lock s
  | .lockRelease r lock keep => Sys2Proof.Machine.execLockRelease r lock keep s
  | .convCmd r body => Sys2Proof.Machine.execConvCmd r body s
  | .muteReq r => Sys2Proof.Machine.execMuteReq r s
  | .paramWrite r pid value => Sys2Proof.Machine.execParamWrite r pid value s
  | .imageStage r total => Sys2Proof.Machine.execImageStage r total s
  | .imageActivate r mask mode fret => Sys2Proof.Machine.execImageActivate r mask mode fret s
  | .serParam r body => Sys2Proof.Machine.execSerParam r body s
  | .serConfirm r v => Sys2Proof.Machine.execSerConfirm r v s
  | .serRestart r => Sys2Proof.Machine.execSerRestart r s
  | .serTest r => Sys2Proof.Machine.execSerTest r s
  | .fwStage r start total => Sys2Proof.Machine.execFwStage r start total s
  | .fwActivate r => Sys2Proof.Machine.execFwActivate r s
  | .journalCommitDone => Sys2Proof.Machine.execJournalCommitDone s
  | .mirrorCommitTimeout => Sys2Proof.Machine.execMirrorCommitTimeout s
  | .entryExecute => Sys2Proof.Machine.execEntryExecute s
  | .convCmdDelivery => Sys2Proof.Machine.execConvCmdDelivery s
  | .consloWrite n v => Sys2Proof.Machine.execConsloWrite n v s
  | .consumedMarkDurable => Sys2Proof.Machine.execConsumedMarkDurable s
  | .journalReplay => Sys2Proof.Machine.execJournalReplay s
  | .journalCompaction => Sys2Proof.Machine.execJournalCompaction s
  | .leaseExpire k => Sys2Proof.Machine.execLeaseExpire k s
  | .sessionIdleExpiry sid => Sys2Proof.Machine.execSessionIdleExpiry sid s
  | .heartbeatSend => Sys2Proof.Machine.execHeartbeatSend s
  | .heartbeatReceived h ago => Sys2Proof.Machine.execHeartbeatReceived h ago s
  | .winFrameReceived addr data => Sys2Proof.Machine.execWinFrameReceived addr data s
  | .jnlFrameReceived e => Sys2Proof.Machine.execJnlFrameReceived e s
  | .jackReceived j => Sys2Proof.Machine.execJackReceived j s
  | .markReceived mark done => Sys2Proof.Machine.execMarkReceived mark done s
  | .ctlFrameReceived c => Sys2Proof.Machine.execCtlFrameReceived c s
  | .twinTimebaseJoin => Sys2Proof.Machine.execTwinTimebaseJoin s
  | .pwmasterAlignLoad => Sys2Proof.Machine.execPwmasterAlignLoad s
  | .takeover => Sys2Proof.Machine.execTakeover s
  | .yieldRole => Sys2Proof.Machine.execYieldRole s
  | .handoverRequest => Sys2Proof.Machine.execHandoverRequest s
  | .plannedHandover => Sys2Proof.Machine.execPlannedHandover s
  | .claim => Sys2Proof.Machine.execClaim s
  | .journalCopy => Sys2Proof.Machine.execJournalCopy s
  | .porPin => Sys2Proof.Machine.execPorPin s
  | .porSupply => Sys2Proof.Machine.execPorSupply s
  | .bootRomStart mramOk => Sys2Proof.Machine.execBootRomStart mramOk s
  | .firmwareStart => Sys2Proof.Machine.execFirmwareStart s
  | .stageS3Entry => Sys2Proof.Machine.execStageS3Entry s
  | .arm freeok => Sys2Proof.Machine.execArm freeok s
  | .disarm => Sys2Proof.Machine.execDisarm s
  | .warmResetRequest suprst => Sys2Proof.Machine.execWarmResetRequest suprst s
  | .supReset mask => Sys2Proof.Machine.execSupReset mask s
  | .supWatchdogExpiry k => Sys2Proof.Machine.execSupWatchdogExpiry k s
  | .debugReset => Sys2Proof.Machine.execDebugReset s
  | .buttonPress => Sys2Proof.Machine.execButtonPress s
  | .buttonRelease ms => Sys2Proof.Machine.execButtonRelease ms s
  | .buttonStuck => Sys2Proof.Machine.execButtonStuck s
  | .buttonRearm => Sys2Proof.Machine.execButtonRearm s
  | .startOk => Sys2Proof.Machine.execStartOk s
  | .refLoss => Sys2Proof.Machine.execRefLoss s
  | .pllLockLoss n => Sys2Proof.Machine.execPllLockLoss n s
  | .rc16Loss => Sys2Proof.Machine.execRc16Loss s
  | .quadFeedGate => Sys2Proof.Machine.execQuadFeedGate s
  | .pllLock n => Sys2Proof.Machine.execPllLock n s
  | .pllRelock n => Sys2Proof.Machine.execPllRelock n s
  | .bandWrite n m w => Sys2Proof.Machine.execBandWrite n m w s
  | .powerDomainRequest req => Sys2Proof.Machine.execPowerDomainRequest req s
  | .powerDownDone d => Sys2Proof.Machine.execPowerDownDone d s
  | .powerUpDone d => Sys2Proof.Machine.execPowerUpDone d s
  | .thermalSample ts fail => Sys2Proof.Machine.execThermalSample ts fail s
  | .throt4Entry => Sys2Proof.Machine.execThrot4Entry s
  | .thermalShutdown => Sys2Proof.Machine.execThermalShutdown s
  | .thermMaskWrite mask => Sys2Proof.Machine.execThermMaskWrite mask s
  | .secVerifyDone => Sys2Proof.Machine.execSecVerifyDone s
  | .identityKeyReady => Sys2Proof.Machine.execIdentityKeyReady s
  | .engFloorRaise => Sys2Proof.Machine.execEngFloorRaise s
  | .debugToken obj => Sys2Proof.Machine.execDebugToken obj s
  | .dbgChalRead ag => Sys2Proof.Machine.execDbgChalRead ag s
  | .tamperPin => Sys2Proof.Machine.execTamperPin s
  | .supplyGlitch => Sys2Proof.Machine.execSupplyGlitch s
  | .powerOnResetRelease c => Sys2Proof.Machine.execPowerOnResetRelease c s
  | .muteBurstComplete n => Sys2Proof.Machine.execMuteBurstComplete n s
  | .tbSetsSent n => Sys2Proof.Machine.execTbSetsSent n s
  | .mirrorTrainingBlockReceived m b => Sys2Proof.Machine.execMirrorTrainingBlockReceived m b s
  | .referenceReturn => Sys2Proof.Machine.execReferenceReturn s
  | .reservedOpcode n w => Sys2Proof.Machine.execReservedOpcode n w s
  | .fetchEccError e => Sys2Proof.Machine.execFetchEccError e s
  | .dmaDescriptorComplete src dst len => Sys2Proof.Machine.execDmaDescriptorComplete src dst len s
  | .badformatRequest q raw => Sys2Proof.Machine.execBadformatRequest q raw s

end Sys2Proof.Machine
end

