-- ==== Sys2Proof/Safety.lean ====
section
/-! DEFINITION. The terms of the claims: what a command answers, what it leaves, and when the state is well formed. -/
namespace Sys2Proof.Machine

/-! What a command answers. -/

/-- The command is executed: it answers a next state, and that state is as `P` says. -/
def Answers (c : Instr) (s : State) (P : State → Prop) : Prop := ∃ t, exec c s = .next t ∧ P t

/-- Every register field but those listed, each with its instance, reads as before. -/
def RegsBut (s t : State) (l : List (Fld × Nat)) : Prop :=
  ∀ f i, (∀ e ∈ l, f.key i ≠ e.1.key e.2) → t.getF f i = s.getF f i

/-- Nothing but register fields changes, and of these only the listed ones. -/
def OnlyRegs (s t : State) (l : List (Fld × Nat)) : Prop := t = { s with regs := t.regs } ∧ RegsBut s t l

/-- The command is executed; afterwards the listed register fields, each with its instance, read the listed values, every other register
field reads as before, and everything but the register fields is as in `s'`. -/
def SetsOn (c : Instr) (s s' : State) (l : List (Fld × Nat × Nat)) : Prop :=
  Answers c s (fun t => t = { s' with regs := t.regs } ∧ (∀ e ∈ l, t.getF e.1 e.2.1 = e.2.2) ∧
    RegsBut s t (l.map (fun e => (e.1, e.2.1))))

/-- The same where nothing but register fields changes. -/
def Sets (c : Instr) (s : State) (l : List (Fld × Nat × Nat)) : Prop := SetsOn c s s l

/-- The command is executed and changes nothing. -/
def Ignores (c : Instr) (s : State) : Prop := exec c s = .next s

/-- Every byte of memory reads as before. -/
def SameMem (s t : State) : Prop := ∀ a, t.byte a = s.byte a

/-- Every byte of memory outside the `k` bytes at `a` reads as before. -/
def MemBut (s t : State) (a k : Nat) : Prop := ∀ x, x < a ∨ a + k ≤ x → t.byte x = s.byte x

/-! Engine instructions. -/

/-- The engine and the predicate field of an engine instruction. -/
def engineOf : Instr → Option (Fin 24 × BitVec 4)
  | .add n pr _ _ _ | .sub n pr _ _ _ | .and n pr _ _ _ | .or n pr _ _ _ | .xor n pr _ _ _ | .andn n pr _ _ _ | .sll n pr _ _ _
  | .srl n pr _ _ _ | .sra n pr _ _ _ | .ror n pr _ _ _ | .min n pr _ _ _ | .max n pr _ _ _ | .minu n pr _ _ _
  | .maxu n pr _ _ _ | .clz n pr _ _ | .popc n pr _ _ | .mul n pr _ _ _ | .mulh n pr _ _ _ | .mulhu n pr _ _ _
  | .div n pr _ _ _ | .divu n pr _ _ _ | .rem n pr _ _ _ | .remu n pr _ _ _ | .movl n pr _ _ | .movh n pr _ _
  | .addi n pr _ _ _ | .andi n pr _ _ _ | .ori n pr _ _ _ | .xori n pr _ _ _ | .shi n pr _ _ _ _ | .qadd n pr _ _ _
  | .qsub n pr _ _ _ | .qmul n pr _ _ _ | .qneg n pr _ _ | .qabs n pr _ _ | .qshl n pr _ _ _ | .qshr n pr _ _ _
  | .mac n pr _ _ _ | .msu n pr _ _ _ | .mpya n pr _ _ _ | .adda n pr _ _ | .clra n pr _ | .racc n pr _ _ _ | .mfa n pr _ _ _
  | .mta n pr _ _ _ | .fadd n pr _ _ _ | .fsub n pr _ _ _ | .fmul n pr _ _ _ | .fma n pr _ _ _ | .fms n pr _ _ _
  | .fdiv n pr _ _ _ | .fsqrt n pr _ _ | .fmin n pr _ _ _ | .fmax n pr _ _ _ | .fabs n pr _ _ | .fneg n pr _ _ | .f2q n pr _ _
  | .q2f n pr _ _ | .f2i n pr _ _ | .i2f n pr _ _ | .cmp n pr _ _ _ _ _ | .cmpi n pr _ _ _ _ _ | .plog n pr _ _ _ _
  | .mfs n pr _ _ | .mts n pr _ _ | .nop n pr | .fence n pr | .brk n pr | .ldw n pr _ _ _ | .ldh n pr _ _ _ | .ldhu n pr _ _ _
  | .ldb n pr _ _ _ | .ldbu n pr _ _ _ | .ldq n pr _ _ _ | .ldwp n pr _ _ _ | .stw n pr _ _ _ | .sth n pr _ _ _
  | .stb n pr _ _ _ | .stq n pr _ _ _ | .stwp n pr _ _ _ | .br n pr _ | .call n pr _ | .jr n pr _ | .jalr n pr _ _
  | .sincos n pr _ _ _ | .biq n pr _ _ _ | .pi n pr _ _ _ | .capo n pr _ _ _ | .lim n pr _ _ _ | .limf n pr _ _ _
  | .sat n pr _ _ _ | .satu n pr _ _ _ | .pluck n pr _ _ | .plka n pr _ _ _ | .plkc n pr _ _ _ _ | .send n pr _ _
  | .recv n pr _ _ | .pega n pr _ _ | .pegr n pr _ _ | .pegrk n pr _ _ | .pegq n pr _ _ | .waitf n pr _ _ | .commit n pr _
  | .commitE n pr _ | .endt n pr | .dlq n pr _ | .dlck n pr _ _ => some (n, pr)
  | .regWrite _ _ _ | .readClear _ _ | .unmappedAccess _ _ _ _ | .lock _ _ | .unlock _ | .unitEnable _ | .unitDisable _
  | .drainComplete _ | .fretBoundary | .taskStart _ | .scanStart _ _ _ | .adcConversionDone _ _ | .deadlineThreshold _
  | .armConversionDone _ | .fpcselWrite _ | .sourceHandoverRequest _ | .snap | .atuEnable | .atuDisable | .sourceLoss
  | .sourceReturn | .slewEnd | .fretSwap _ | .fretSwapValidated | .fretTableWrite _ _ | .waitfWake _ | .ssmGrant _ _ _
  | .arbWindowStart | .holdLimitCut | .ceUrst _ | .debugResume _ | .imageBankWrite _ _ _ | .actGo _ | .actValidated
  | .pegAcqRead _ _ | .pegRelRead _ _ | .pegRelkRead _ _ | .cbsSortStart _ | .cbsSortDone _ | .modUrst
  | .trainingSetReceived _ _ _ _ | .trainingTimeout _ | .linkLoss _ _ | .retrain _ | .rateWrite _ _ | .txeqWrite _ _
  | .eireqSet _ | .eisSent _ | .eisReceived _ | .eireqClear _ | .fxbReceived _ | .fastExitTimeout _ | .patternCtrlWrite _ _
  | .checkerLock _ | .checkerLostLock _ _ | .mirrorGroupUp | .mirrorLinkLoss _ | .timebaseLaunch _ | .delayReqLaunch _
  | .commandLaunch _ | .retryLaunch _ | .ackReceived _ _ | .telemetryReceived _ _ | .delayRespReceived _ _ _
  | .delayRespTimeout _ | .bulkReceived _ _ | .bulkTxGo _ _ | .bulkTxSend _ | .bulkRxFree _ _ | .slotTableWrite _ _ _
  | .clgSwap _ | .clgSwapValidated | .clearRequest | .cmpCrossing _ _ | .tripPinChange _ _ | .blankWindowEnd _
  | .filterQualified _ | .muteStateSet | .latchClear _ _ | .mclr | .routeWrite _ _ | .swTripRequest _ | .supTripRequest
  | .pwmPeriodStart _ | .pwmLoadPoint _ | .pwmCompareMatch _ | .deadTimeExpiry _ _ | .pwmStart _ | .pwmStartDue | .pwmTrip _
  | .pwmTripClear _ | .cbcCut _ | .cbcBlankEnd _ | .pwmOverride _ _ _ | .pwmDisable _ | .pwmTrigger _ _ | .debugHalt _
  | .adcSwgo _ _ | .adUrst _ | .tdacWrite _ _ | .auxPeriodStart | .auxHonMatch _ | .auxDeadTimeExpiry _ _ | .bootstrapUv _
  | .bootstrapRecover _ | .vdrvUv _ | .vdrvRecover | .auxDesatBlankEnd _ _ | .auxDesat _ _ | .auxOverride _ _ _ | .auxLinkLoss
  | .auxLinkReturn | .vregPhaseFire | .vregOnTimeEnd _ | .vregCurrentLimit _ | .vregRefStep | .vidWrite _ | .pwrgdAssert
  | .pwrgdDeassert | .ovpDetect | .softStartTimeout | .hiccupEnd | .hiccupCountClear | .syncInLost | .syncInReacquired
  | .serFirmwareStart | .safetyCycle _ _ _ | .serSoutCut | .tpoPulse _ | .tpoPulseEnd _ _ | .tpoRecoveryCheck _ _
  | .soutDarkPulse _ | .darkPulseEnd _ _ | .proofTestEnd | .lockstepFault | .serWatchdogExpiry | .safeSupplyFault
  | .hostFrameReceived _ _ _ _ | .prpEntryExpiry _ | .txQueueTailWrite _ _ _ | .timedLaunchDue _ _ | .hostFrameSent _ _ _
  | .tsqPop _ | .hostLinkStateChange _ _ | .hpModeWrite _ _ | .timeSet | .timeStep | .timeNsRead _ | .toutEnable _
  | .toutRise _ | .toutFall _ | .identify _ | .status _ | .reason _ | .fwRecoverBegin _ _ | .fwRecoverData _ _ _
  | .fwRecoverCommit _ | .fwRecoverRetry _ | .recoveryIdleTimeout | .openSession _ _ _ _ | .sessionKeyTimeout _ | .ping _
  | .query _ _ | .readState _ _ | .logRead _ | .attest _ _ _ | .imagePut _ _ _ _ | .closeSession _ | .lockTake _ _
  | .lockRelease _ _ _ | .convCmd _ _ | .muteReq _ | .paramWrite _ _ _ | .imageStage _ _ | .imageActivate _ _ _ _
  | .serParam _ _ | .serConfirm _ _ | .serRestart _ | .serTest _ | .fwStage _ _ _ | .fwActivate _ | .journalCommitDone
  | .mirrorCommitTimeout | .entryExecute | .convCmdDelivery | .consloWrite _ _ | .consumedMarkDurable | .journalReplay
  | .journalCompaction | .leaseExpire _ | .sessionIdleExpiry _ | .heartbeatSend | .heartbeatReceived _ _
  | .winFrameReceived _ _ | .jnlFrameReceived _ | .jackReceived _ | .markReceived _ _ | .ctlFrameReceived _ | .twinTimebaseJoin
  | .pwmasterAlignLoad | .takeover | .yieldRole | .handoverRequest | .plannedHandover | .claim | .journalCopy | .porPin
  | .porSupply | .bootRomStart _ | .firmwareStart | .stageS3Entry | .arm _ | .disarm | .warmResetRequest _ | .supReset _
  | .supWatchdogExpiry _ | .debugReset | .buttonPress | .buttonRelease _ | .buttonStuck | .buttonRearm | .startOk | .refLoss
  | .pllLockLoss _ | .rc16Loss | .quadFeedGate | .pllLock _ | .pllRelock _ | .bandWrite _ _ _ | .powerDomainRequest _
  | .powerDownDone _ | .powerUpDone _ | .thermalSample _ _ | .throt4Entry | .thermalShutdown | .thermMaskWrite _
  | .secVerifyDone | .identityKeyReady | .engFloorRaise | .debugToken _ | .dbgChalRead _ | .tamperPin | .supplyGlitch
  | .powerOnResetRelease _ | .muteBurstComplete _ | .tbSetsSent _ | .mirrorTrainingBlockReceived _ _ | .referenceReturn
  | .reservedOpcode _ _ | .fetchEccError _ | .dmaDescriptorComplete _ _ _ | .badformatRequest _ _ => none

/-- Engine `n` fetches an instruction: it can issue, its PC lies in the bank, and the word there can be read (R94, R104, R105). -/
abbrev Fetches (n : Fin 24) (s : State) : Prop := s.canIssue n = true ∧ s.fetchOk n = true

/-- Engine `n` performs instruction `i`: it fetches it, the encoding is legal and the predicate is true (R88, R96). -/
abbrev Performs (i : Instr) (n : Fin 24) (pr : BitVec 4) (s : State) : Prop :=
  Fetches n s ∧ i.legal = true ∧ (s.ce[n]).predTrue pr = true

/-- Nothing but engine `n` changes. -/
def OnlyEngine (n : Fin 24) (s t : State) : Prop := t = { s with ce := t.ce } ∧ ∀ m : Fin 24, m ≠ n → t.ce[m] = s.ce[m]

/-- Engine `n` is as `e` says but for its issue timing; its flags are those of `e` once every result in flight is written (R87). -/
def EngIs (n : Fin 24) (e : Eng) (t : State) : Prop :=
  t.ce[n] = { e with flags := t.ce[n].flags, flagQ := t.ce[n].flagQ, tm := t.ce[n].tm } ∧ (t.ce[n]).allFlags = e.allFlags

/-- An engine register or predicate or accumulator alone changes, with the flags raised, the PC and the issue timing. -/
def EngineStep (n : Fin 24) (fl : NFlags) (s t : State) : Prop :=
  t.ce[n] = { s.ce[n] with g := t.ce[n].g, p := t.ce[n].p, acc := t.ce[n].acc, flags := t.ce[n].flags, flagQ := t.ce[n].flagQ,
                           pc := (s.ce[n]).pc + 4#32, tm := t.ce[n].tm } ∧
  (t.ce[n]).allFlags = (s.ce[n]).allFlags ||| fl.bits

/-- Every general register but `rd` reads as before; `rd` reads `w`, and g0 reads 0. -/
def GprIs (n : Fin 24) (rd : BitVec 5) (w : Word) (s t : State) : Prop :=
  ∀ x, (t.ce[n]).readG x = if x = rd ∧ rd ≠ 0#5 then w else (s.ce[n]).readG x

/-- Every predicate but `pd` reads as before, and `pd` reads `b`. -/
def PredIs (n : Fin 24) (pd : BitVec 3) (b : Bool) (s t : State) : Prop :=
  ∀ x, (t.ce[n]).readP x = if x = pd then b else (s.ce[n]).readP x

/-- Every accumulator but `a` reads as before, and `a` reads `v`. -/
def AccIs (n : Fin 24) (a : BitVec 2) (v : BitVec 72) (s t : State) : Prop :=
  ∀ x, (t.ce[n]).readA x = if x = a then v else (s.ce[n]).readA x

def SameG (n : Fin 24) (s t : State) : Prop := ∀ x, (t.ce[n]).readG x = (s.ce[n]).readG x
def SameP (n : Fin 24) (s t : State) : Prop := (t.ce[n]).p = (s.ce[n]).p
def SameA (n : Fin 24) (s t : State) : Prop := (t.ce[n]).acc = (s.ce[n]).acc

/-- A register instruction: `rd` takes the result, the flags of the result are raised, and nothing else changes. -/
def Result (n : Fin 24) (rd : BitVec 5) (r : Word × NFlags) (s t : State) : Prop :=
  OnlyEngine n s t ∧ EngineStep n r.2 s t ∧ GprIs n rd r.1 s t ∧ SameP n s t ∧ SameA n s t

/-- An accumulator instruction. -/
def AccResult (n : Fin 24) (a : BitVec 2) (r : BitVec 72 × NFlags) (s t : State) : Prop :=
  OnlyEngine n s t ∧ EngineStep n r.2 s t ∧ AccIs n a r.1 s t ∧ SameG n s t ∧ SameP n s t

/-- A predicate instruction. -/
def PredResult (n : Fin 24) (pd : BitVec 3) (b : Bool) (fl : NFlags) (s t : State) : Prop :=
  OnlyEngine n s t ∧ EngineStep n fl s t ∧ PredIs n pd b s t ∧ SameG n s t ∧ SameA n s t

/-- The instruction, performed, is executed with this outcome, told from the state in which a corrected fetch has been counted (R94). -/
def Gives (i : Instr) (n : Fin 24) (pr : BitVec 4) (s : State) (P : State → State → Prop) : Prop :=
  Performs i n pr s → Answers i s (P (s.countFetch n))

/-- The fields an exception or the end of a task of engine `n` may write (R106, R108, R114). -/
def taskFields (n : Fin 24) : List (Fld × Nat) :=
  [(.CE_STAT_RUNNING, n), (.CE_STAT_ENST, n), (.CE_LASTCYC_LAST, n), (.CE_MAXCYC_MAX, n), (.CE_CSTAT_NOCOMMIT, n)]

def exceptionFields (n : Fin 24) : List (Fld × Nat) :=
  ([(.CE_XCNT_XCOUNT, n.val), (.CE_XCAUSE_VALID, n), (.CE_XCAUSE_FRETLO, n), (.CE_XCAUSE_CAUSE, n), (.CE_XPC_PC, n), (.CE_XINFO_INFO, n),
   (.TRIP_LAT1_SW, 0)] : List (Fld × Nat)) ++ taskFields n

/-- Engine `n` alone may keep a pending activation waiting: every other masked engine is OFF (R151). -/
def State.actFree (s : State) (n : Fin 24) : Bool :=
  s.bit .CE_ACTSTAT_PEND 0 && s.actList.all (fun m => m == n || s.getF .CE_STAT_ENST m == 0)

/-- The end of engine `n`'s task leaves every engine of a pending activation OFF, so that the activation takes effect (R151). -/
def State.actEnds (s : State) (n : Fin 24) : Bool :=
  s.actFree n && (!s.actMasked n || s.getF .CE_STAT_ENST n == 0 || s.getF .CE_STAT_ENST n == 2)

/-- The fields an activation writes (R152). -/
def State.swapFields (s : State) : List (Fld × Nat) :=
  ([(.CE_ACTSTAT_PEND, 0), (.CE_ACTSTAT_DONE, 0), (.CE_ACTCTRL_GO, 0)] : List (Fld × Nat)) ++
    s.actList.flatMap (fun m => (.CE_STAT_ACTBANK, m.val) :: (List.range 4).map (fun k => (.CE_STGREQ_REQ, m.val * 4 + k)))

/-- The activation has taken effect: PEND and GO are 0, DONE is 1, and every masked engine's banks have changed places (R152). -/
def Swapped (s t : State) : Prop :=
  t.bit .CE_ACTSTAT_PEND 0 = false ∧ t.bit .CE_ACTCTRL_GO 0 = false ∧ t.bit .CE_ACTSTAT_DONE 0 = true ∧
  ∀ m ∈ s.actList, t.getF .CE_STAT_ACTBANK m = (1 - s.getF .CE_STAT_ACTBANK m) ∧
    (t.ce[m]).actArb = (s.ce[m]).stgArb ∧ (t.ce[m]).stgArb = (s.ce[m]).actArb ∧
    (t.ce[m]).actHash = (s.ce[m]).stgHash ∧ (t.ce[m]).stgHash = (s.ce[m]).actHash

/-- An engine is as before but for what an activation changes in it. -/
def SwapKeeps (n : Fin 24) (s t : State) : Prop :=
  t.ce[n] = { s.ce[n] with actUnits := t.ce[n].actUnits, actArb := t.ce[n].actArb, stgArb := t.ce[n].stgArb,
                           actHash := t.ce[n].actHash, stgHash := t.ce[n].stgHash }

/-- Nothing changes but engine `n` and the listed register fields, and what a pending activation changes where `swap` says that it takes
effect. -/
def EngineEnds (n : Fin 24) (swap : Bool) (l : List (Fld × Nat)) (s t : State) : Prop :=
  (swap = false → t = { s with regs := t.regs, ce := t.ce } ∧ RegsBut s t l ∧ ∀ m : Fin 24, m ≠ n → t.ce[m] = s.ce[m]) ∧
  (swap = true → t = { s with regs := t.regs, ce := t.ce, sec := { s.sec with engPend := t.sec.engPend, engAt := t.sec.engAt },
                              pmc := { s.pmc with actDue := t.pmc.actDue, actAny := t.pmc.actAny } } ∧
    RegsBut s t (l ++ s.swapFields) ∧ Swapped s t ∧ ∀ m : Fin 24, m ≠ n → SwapKeeps m s t)

/-- The end of engine `n`'s task. -/
abbrev EndsTask (n : Fin 24) (l : List (Fld × Nat)) (s t : State) : Prop := EngineEnds n (s.actEnds n) l s t

/-- Engine `n` takes an exception (R106, R108): the task ends, the exception is counted and, where no record is held, recorded with the
faulting PC and its information; XTRIP requests the software trip; registers and memory stay. -/
def Takes (n : Fin 24) (cause : Nat) (pc info : Word) (s t : State) : Prop :=
  t.bit .CE_STAT_RUNNING n = false ∧
  t.getF .CE_XCNT_XCOUNT n = min 65535 (s.getF .CE_XCNT_XCOUNT n + 1) ∧
  (s.bit .CE_XCAUSE_VALID n = false →
    t.bit .CE_XCAUSE_VALID n = true ∧ t.getF .CE_XCAUSE_CAUSE n = cause ∧ t.getF .CE_XPC_PC n = pc.toNat ∧
    t.getF .CE_XINFO_INFO n = info.toNat) ∧
  (s.bit .CE_XCAUSE_VALID n = true →
    t.bit .CE_XCAUSE_VALID n = true ∧ t.getF .CE_XCAUSE_CAUSE n = s.getF .CE_XCAUSE_CAUSE n ∧
    t.getF .CE_XPC_PC n = s.getF .CE_XPC_PC n ∧ t.getF .CE_XINFO_INFO n = s.getF .CE_XINFO_INFO n) ∧
  t.testF .TRIP_LAT1_SW 0 n = (s.testF .TRIP_LAT1_SW 0 n || s.bit .CE_XCFG_XTRIP n) ∧
  EndsTask n (exceptionFields n) s t ∧ (t.ce[n]).g = (s.ce[n]).g ∧ (t.ce[n]).p = (s.ce[n]).p ∧
  (t.ce[n]).acc = (s.ce[n]).acc ∧ (t.ce[n]).allFlags = (s.ce[n]).allFlags

/-! Well-formed states. -/

/-- Every listed register value fits its field. -/
def RegsFit (l : List (Nat × Nat)) : Prop := ∀ e ∈ l, e.2 < 2 ^ (Fld.ofNat (e.1 / 1024)).width

/-- The memory is in its canonical form: addresses rise strictly, and no entry holds what its address reads as when it is not listed. -/
abbrev Memory.wf (s : State) : Prop := Store.Wf (memDefault s.lost) s.mem

/-- The register store and the memory are in their canonical form, and every stored field value fits its field. -/
def State.Wf (s : State) : Prop :=
  Store.Wf regDefault s.regs ∧ RegsFit s.regs ∧ Memory.wf s

end Sys2Proof.Machine
end

