-- ==== Sys2Proof/Certificates/Slice0/Obligations.lean ====
section
/-! DEFINITION. The statements about the model. -/
open Sys2Proof Sys2Proof.Machine

/-! The engines. -/

/-- R98 (Table 3-10): the results of the integer ALU, with everything else unchanged. -/
def Claims.IntegerAluResults : Prop := ∀ (n : Fin 24) (pr : BitVec 4) (rd ra rb : BitVec 5) (s : State),
  let a := (s.ce[n]).readG ra
  let b := (s.ce[n]).readG rb
  Gives (.add n pr rd ra rb) n pr s (Result n rd (BitVec.ofNat 32 (a.toNat + b.toNat), {})) ∧
  Gives (.sub n pr rd ra rb) n pr s (Result n rd (BitVec.ofInt 32 ((a.toNat : Int) - b.toNat), {})) ∧
  Gives (.and n pr rd ra rb) n pr s (Result n rd (a &&& b, {})) ∧
  Gives (.or n pr rd ra rb) n pr s (Result n rd (a ||| b, {})) ∧
  Gives (.xor n pr rd ra rb) n pr s (Result n rd (a ^^^ b, {})) ∧
  Gives (.andn n pr rd ra rb) n pr s (Result n rd (a &&& ~~~b, {})) ∧
  Gives (.sll n pr rd ra rb) n pr s (Result n rd (a <<< (b.toNat % 32), {})) ∧
  Gives (.srl n pr rd ra rb) n pr s (Result n rd (a >>> (b.toNat % 32), {})) ∧
  Gives (.sra n pr rd ra rb) n pr s (Result n rd (a.sshiftRight (b.toNat % 32), {})) ∧
  Gives (.ror n pr rd ra rb) n pr s (Result n rd (a >>> (b.toNat % 32) ||| a <<< ((32 - b.toNat % 32) % 32), {})) ∧
  Gives (.min n pr rd ra rb) n pr s (Result n rd (BitVec.ofInt 32 (min a.toInt b.toInt), {})) ∧
  Gives (.max n pr rd ra rb) n pr s (Result n rd (BitVec.ofInt 32 (max a.toInt b.toInt), {})) ∧
  Gives (.minu n pr rd ra rb) n pr s (Result n rd (BitVec.ofNat 32 (min a.toNat b.toNat), {})) ∧
  Gives (.maxu n pr rd ra rb) n pr s (Result n rd (BitVec.ofNat 32 (max a.toNat b.toNat), {})) ∧
  Gives (.mul n pr rd ra rb) n pr s (Result n rd (BitVec.ofNat 32 (a.toNat * b.toNat), {})) ∧
  Gives (.mulh n pr rd ra rb) n pr s (Result n rd (BitVec.ofInt 32 (a.toInt * b.toInt / 2 ^ 32), {})) ∧
  Gives (.mulhu n pr rd ra rb) n pr s (Result n rd (BitVec.ofNat 32 (a.toNat * b.toNat / 2 ^ 32), {}))

/-- R98 (Table 3-10): CLZ gives the number of zeros above the highest 1 bit, 32 for 0; POPC the number of 1 bits. -/
def Claims.BitCountResults : Prop := ∀ (n : Fin 24) (pr : BitVec 4) (rd ra : BitVec 5) (s : State),
  let a := (s.ce[n]).readG ra
  (∀ k : Nat, k ≤ 32 → a.toNat < 2 ^ (32 - k) → (k < 32 → 2 ^ (31 - k) ≤ a.toNat) →
    Gives (.clz n pr rd ra) n pr s (Result n rd (BitVec.ofNat 32 k, {}))) ∧
  Gives (.popc n pr rd ra) n pr s (Result n rd (BitVec.ofNat 32 ((List.range 32).filter a.getLsbD).length, {}))

/-- R98: the divider's results.  A division by zero and 0x8000_0000 / −1 set ADZ. -/
def Claims.DividerResults : Prop := ∀ (n : Fin 24) (pr : BitVec 4) (rd ra rb : BitVec 5) (s : State),
  let a := (s.ce[n]).readG ra
  let b := (s.ce[n]).readG rb
  let zero := b = 0#32
  let corner := a = 0x80000000#32 ∧ b = 0xFFFFFFFF#32
  let adz : NFlags := { adz := true }
  (zero → Gives (.div n pr rd ra rb) n pr s (Result n rd (if a.toInt < 0 then 0x80000000#32 else 0x7FFFFFFF#32, adz))) ∧
  (corner → Gives (.div n pr rd ra rb) n pr s (Result n rd (0x7FFFFFFF#32, adz))) ∧
  (¬zero → ¬corner → Gives (.div n pr rd ra rb) n pr s (Result n rd (BitVec.ofInt 32 (a.toInt.tdiv b.toInt), {}))) ∧
  (zero → Gives (.divu n pr rd ra rb) n pr s (Result n rd (0xFFFFFFFF#32, adz))) ∧
  (¬zero → Gives (.divu n pr rd ra rb) n pr s (Result n rd (BitVec.ofNat 32 (a.toNat / b.toNat), {}))) ∧
  (zero → Gives (.rem n pr rd ra rb) n pr s (Result n rd (a, adz))) ∧
  (corner → Gives (.rem n pr rd ra rb) n pr s (Result n rd (0#32, adz))) ∧
  (¬zero → ¬corner → Gives (.rem n pr rd ra rb) n pr s (Result n rd (BitVec.ofInt 32 (a.toInt.tmod b.toInt), {}))) ∧
  (zero → Gives (.remu n pr rd ra rb) n pr s (Result n rd (a, adz))) ∧
  (¬zero → Gives (.remu n pr rd ra rb) n pr s (Result n rd (BitVec.ofNat 32 (a.toNat % b.toNat), {})))

/-- R99 (Table 3-11): the immediate instructions. -/
def Claims.ImmediateResults : Prop := ∀ (n : Fin 24) (pr : BitVec 4) (rd ra cnt : BitVec 5) (imm : BitVec 12) (imm16 : BitVec 16)
    (s : State),
  let a := (s.ce[n]).readG ra
  let d := (s.ce[n]).readG rd
  Gives (.movl n pr rd imm16) n pr s (Result n rd (BitVec.ofNat 32 imm16.toNat, {})) ∧
  Gives (.movh n pr rd imm16) n pr s (Result n rd (BitVec.ofNat 32 (imm16.toNat * 65536 + d.toNat % 65536), {})) ∧
  Gives (.addi n pr rd ra imm) n pr s (Result n rd (BitVec.ofInt 32 (a.toInt + imm.toInt), {})) ∧
  Gives (.andi n pr rd ra imm) n pr s (Result n rd (a &&& BitVec.ofNat 32 imm.toNat, {})) ∧
  Gives (.ori n pr rd ra imm) n pr s (Result n rd (a ||| BitVec.ofNat 32 imm.toNat, {})) ∧
  Gives (.xori n pr rd ra imm) n pr s (Result n rd (a ^^^ BitVec.ofNat 32 imm.toNat, {})) ∧
  Gives (.shi n pr rd ra 0#2 cnt) n pr s (Result n rd (a <<< cnt.toNat, {})) ∧
  Gives (.shi n pr rd ra 1#2 cnt) n pr s (Result n rd (a >>> cnt.toNat, {})) ∧
  Gives (.shi n pr rd ra 2#2 cnt) n pr s (Result n rd (a.sshiftRight cnt.toNat, {})) ∧
  Gives (.shi n pr rd ra 3#2 cnt) n pr s (Result n rd (a.rotateRight cnt.toNat, {}))

/-- The nearest value of a signed range of `n` bits, and whether it differs (R84). -/
def nearest (n : Nat) (v : Int) : Int := max (-(2 ^ (n - 1))) (min (2 ^ (n - 1) - 1) v)

/-- A saturated 32-bit result with QSAT. -/
def qResult (v : Int) : Word × NFlags := (BitVec.ofInt 32 (nearest 32 v), { qsat := decide (nearest 32 v ≠ v) })

/-- A saturated accumulator with QSAT. -/
def accResult (v : Int) : BitVec 72 × NFlags := (BitVec.ofInt 72 (nearest 72 v), { qsat := decide (nearest 72 v ≠ v) })

/-- Reduction by `k` bits, half towards plus infinity. -/
def reduced (v : Int) (k : Nat) : Int := if k = 0 then v else (v + 2 ^ (k - 1)) / 2 ^ k

/-- R84, R100 (Table 3-12): the Q31 instructions, exact, rounded half towards plus infinity and saturated with QSAT. -/
def Claims.Q31Results : Prop := ∀ (n : Fin 24) (pr : BitVec 4) (rd ra rb : BitVec 5) (s : State),
  let a := ((s.ce[n]).readG ra).toInt
  let b := ((s.ce[n]).readG rb).toInt
  let k := ((s.ce[n]).readG rb).toNat % 32
  Gives (.qadd n pr rd ra rb) n pr s (Result n rd (qResult (a + b))) ∧
  Gives (.qsub n pr rd ra rb) n pr s (Result n rd (qResult (a - b))) ∧
  Gives (.qmul n pr rd ra rb) n pr s (Result n rd (qResult (reduced (a * b) 31))) ∧
  Gives (.qneg n pr rd ra) n pr s (Result n rd (qResult (-a))) ∧
  Gives (.qabs n pr rd ra) n pr s (Result n rd (qResult a.natAbs)) ∧
  Gives (.qshl n pr rd ra rb) n pr s (Result n rd (qResult (a * 2 ^ k))) ∧
  Gives (.qshr n pr rd ra rb) n pr s (Result n rd (BitVec.ofInt 32 (reduced a k), {}))

/-- R86, R100: the accumulator instructions.  Sums are exact and saturate to 72 bits; RACC shifts left by k, reduces by 31 bits and saturates
to Q31; MFA and MTA move one part. -/
def Claims.AccumulatorResults : Prop := ∀ (n : Fin 24) (pr : BitVec 4) (rd ra rb k : BitVec 5) (a : BitVec 2) (s : State),
  let e := s.ce[n]
  let v := (e.readA a).toInt
  let x := (e.readG ra).toInt
  let y := (e.readG rb).toInt
  Gives (.mac n pr a ra rb) n pr s (AccResult n a (accResult (v + x * y))) ∧
  Gives (.msu n pr a ra rb) n pr s (AccResult n a (accResult (v - x * y))) ∧
  Gives (.mpya n pr a ra rb) n pr s (AccResult n a (BitVec.ofInt 72 (x * y), {})) ∧
  Gives (.adda n pr a ra) n pr s (AccResult n a (accResult (v + x * 2 ^ 31))) ∧
  Gives (.clra n pr a) n pr s (AccResult n a (0#72, {})) ∧
  Gives (.racc n pr rd a k) n pr s (Result n rd (qResult (reduced (v * 2 ^ k.toNat) 31))) ∧
  Gives (.mfa n pr rd a 0#5) n pr s (Result n rd ((e.readA a).extractLsb' 0 32, {})) ∧
  Gives (.mfa n pr rd a 1#5) n pr s (Result n rd ((e.readA a).extractLsb' 32 32, {})) ∧
  Gives (.mfa n pr rd a 2#5) n pr s (Result n rd (((e.readA a).extractLsb' 64 8).signExtend 32, {})) ∧
  Gives (.mta n pr a ra 0#5) n pr s (AccResult n a ((e.readA a).extractLsb' 32 40 ++ e.readG ra, {})) ∧
  Gives (.mta n pr a ra 1#5) n pr s
    (AccResult n a ((e.readA a).extractLsb' 64 8 ++ e.readG ra ++ (e.readA a).extractLsb' 0 32, {})) ∧
  Gives (.mta n pr a ra 2#5) n pr s (AccResult n a ((e.readG ra).extractLsb' 0 8 ++ (e.readA a).extractLsb' 0 64, {}))

/-- R101 (Table 3-13): each FP32 instruction writes the result of its operation on the operands as R85 reads them, raises its flags and changes
nothing else. -/
def Claims.Fp32Results : Prop := ∀ (n : Fin 24) (pr : BitVec 4) (rd ra rb : BitVec 5) (s : State),
  let d := (s.ce[n]).readG rd
  let a := (s.ce[n]).readG ra
  let b := (s.ce[n]).readG rb
  Gives (.fadd n pr rd ra rb) n pr s (Result n rd (Fp.add (Fp.ofWord a) (Fp.ofWord b))) ∧
  Gives (.fsub n pr rd ra rb) n pr s (Result n rd (Fp.add (Fp.ofWord a) (Fp.ofWord b).neg)) ∧
  Gives (.fmul n pr rd ra rb) n pr s (Result n rd (Fp.mul (Fp.ofWord a) (Fp.ofWord b))) ∧
  Gives (.fma n pr rd ra rb) n pr s (Result n rd (Fp.fma (Fp.ofWord d) (Fp.ofWord a) (Fp.ofWord b))) ∧
  Gives (.fms n pr rd ra rb) n pr s (Result n rd (Fp.fma (Fp.ofWord d) (Fp.ofWord a).neg (Fp.ofWord b))) ∧
  Gives (.fdiv n pr rd ra rb) n pr s (Result n rd (Fp.div (Fp.ofWord a) (Fp.ofWord b))) ∧
  Gives (.fsqrt n pr rd ra) n pr s (Result n rd (Fp.sqrt (Fp.ofWord a))) ∧
  Gives (.fmin n pr rd ra rb) n pr s (Result n rd (Fp.minmax false a b)) ∧
  Gives (.fmax n pr rd ra rb) n pr s (Result n rd (Fp.minmax true a b)) ∧
  Gives (.fabs n pr rd ra) n pr s (Result n rd (BitVec.ofNat 32 (a.toNat % 2 ^ 31), {})) ∧
  Gives (.fneg n pr rd ra) n pr s (Result n rd (a ^^^ 0x80000000#32, {})) ∧
  Gives (.f2q n pr rd ra) n pr s (Result n rd (Fp.toInt 31 (Fp.ofWord a))) ∧
  Gives (.q2f n pr rd ra) n pr s (Result n rd (Fp.ofInt 31 a)) ∧
  Gives (.f2i n pr rd ra) n pr s (Result n rd (Fp.toInt 0 (Fp.ofWord a))) ∧
  Gives (.i2f n pr rd ra) n pr s (Result n rd (Fp.ofInt 0 a))

/-- A NaN, a signalling one, an infinity and a value read as zero, by the bits of binary32. -/
def isNan32 (w : Word) : Bool := decide (w.toNat / 2 ^ 23 % 256 = 255 ∧ w.toNat % 2 ^ 23 ≠ 0)
def isSnan32 (w : Word) : Bool := isNan32 w && !w.getLsbD 22
def isInf32 (w : Word) : Bool := decide (w.toNat / 2 ^ 23 % 256 = 255 ∧ w.toNat % 2 ^ 23 = 0)
def isZero32 (w : Word) : Bool := decide (w.toNat / 2 ^ 23 % 256 = 0)

/-- R85: every NaN result is 0x7FC0_0000, with NV for a signalling NaN input and not for a quiet NaN alone; 0 × ∞ is invalid in FMA and FMS
whatever the addend. -/
def Claims.Fp32NanResults : Prop := ∀ (n : Fin 24) (pr : BitVec 4) (rd ra rb : BitVec 5) (s : State),
  let d := (s.ce[n]).readG rd
  let a := (s.ce[n]).readG ra
  let b := (s.ce[n]).readG rb
  let two : Word × NFlags := (0x7FC00000#32, { nv := isSnan32 a || isSnan32 b })
  let invalid := (isZero32 a && isInf32 b) || (isInf32 a && isZero32 b)
  let three : Word × NFlags := (0x7FC00000#32, { nv := isSnan32 a || isSnan32 b || isSnan32 d || invalid })
  ((isNan32 a || isNan32 b) = true →
    Gives (.fadd n pr rd ra rb) n pr s (Result n rd two) ∧ Gives (.fsub n pr rd ra rb) n pr s (Result n rd two) ∧
    Gives (.fmul n pr rd ra rb) n pr s (Result n rd two) ∧ Gives (.fdiv n pr rd ra rb) n pr s (Result n rd two)) ∧
  ((isNan32 a || isNan32 b || isNan32 d || invalid) = true →
    Gives (.fma n pr rd ra rb) n pr s (Result n rd three) ∧ Gives (.fms n pr rd ra rb) n pr s (Result n rd three)) ∧
  (isNan32 a = true → Gives (.fsqrt n pr rd ra) n pr s (Result n rd (0x7FC00000#32, { nv := isSnan32 a }))) ∧
  (invalid = true → Gives (.fmul n pr rd ra rb) n pr s (Result n rd (0x7FC00000#32, { nv := true })))

/-- pd combined with a condition (R102). -/
def combined (comb : BitVec 2) (old c : Bool) : Bool :=
  if comb = 0#2 then c else if comb = 1#2 then old && c else if comb = 2#2 then old || c else old && !c

/-- R102 (Table 3-14): the integer and FP32 conditions, combined into pd, and PLOG. -/
def Claims.PredicateResults : Prop := ∀ (n : Fin 24) (pr : BitVec 4) (pd pa pb : BitVec 3) (comb : BitVec 2) (ra rb : BitVec 5)
    (imm : BitVec 8) (s : State),
  let e := s.ce[n]
  let a := e.readG ra
  let b := e.readG rb
  let c := BitVec.ofInt 32 imm.toInt
  let x := Fp.ofWord a
  let y := Fp.ofWord b
  let nan := isNan32 a || isNan32 b
  let snan := isSnan32 a || isSnan32 b
  (∀ k v, (k, v) ∈ [(0#4, decide (a = b)), (1#4, decide (a ≠ b)), (2#4, decide (a.toInt < b.toInt)), (3#4, decide (b.toInt ≤ a.toInt)),
      (4#4, decide (a.toNat < b.toNat)), (5#4, decide (b.toNat ≤ a.toNat))] →
    Gives (.cmp n pr pd comb ra rb k) n pr s (PredResult n pd (combined comb (e.readP pd) v) {})) ∧
  (∀ k v, (k, v) ∈ [(0#4, decide (a = c)), (1#4, decide (a ≠ c)), (2#4, decide (a.toInt < c.toInt)), (3#4, decide (c.toInt ≤ a.toInt)),
      (4#4, decide (a.toNat < c.toNat)), (5#4, decide (c.toNat ≤ a.toNat))] →
    Gives (.cmpi n pr pd comb ra imm k) n pr s (PredResult n pd (combined comb (e.readP pd) v) {})) ∧
  (∀ k v nv, (k, v, nv) ∈ [(8#4, !nan && x.eq y, snan), (9#4, nan || !x.eq y, snan), (10#4, !nan && x.lt y, nan),
      (11#4, !nan && !x.lt y, nan), (12#4, nan, snan)] →
    Gives (.cmp n pr pd comb ra rb k) n pr s (PredResult n pd (combined comb (e.readP pd) v) { nv := nv })) ∧
  (∀ k v, (k, v) ∈ [(0#3, e.readP pa && e.readP pb), (1#3, e.readP pa || e.readP pb), (2#3, e.readP pa != e.readP pb),
      (3#3, e.readP pa && !e.readP pb), (4#3, e.readP pa), (5#3, !e.readP pa), (6#3, true), (7#3, false)] →
    Gives (.plog n pr pd pa pb k) n pr s (PredResult n pd v {}))

/-- Table 3-2, R82, R87: MFS reads a special register, s_flags with the results written by then; MTS replaces s_flags whole, and a flag that an instruction in
flight sets later is 1 all the same, or writes p1 to p7; either with a number absent from the
table, and an MTS to a register marked RO, takes ILLEGAL. -/
def Claims.SpecialRegisters : Prop := ∀ (n : Fin 24) (pr : BitVec 4) (rd ra : BitVec 5) (s : State),
  let e := s.ce[n]
  let t := e.tm.issueAt pr true { writesG := [(rd, 2)] }
  let inFlight := e.flagQ.filter (fun q => decide (e.tm.issueAt pr true { readsG := [ra] } < q.1))
  (∀ k v, (k, v) ∈ [(0#12, e.sfret), (1#12, BitVec.ofNat 32 e.sfic), (2#12, BitVec.ofNat 32 s.angle),
      (3#12, BitVec.ofNat 32 (s.getF .ATU_FREQ_FREQ 0)), (4#12, BitVec.ofNat 32 (s.sDl n)), (5#12, BitVec.ofNat 32 (t - e.tm.first.getD t)),
      (6#12, BitVec.ofNat 32 n.val), (7#12, BitVec.ofNat 32 e.sentry.toNat), (0x10#12, BitVec.ofNat 32 (e.settle t).flags.toNat)] →
    Gives (.mfs n pr rd k) n pr s (Result n rd (v, {}))) ∧
  (∀ v : Word, (∀ k : Nat, v.getLsbD k = (decide (k < 8) && e.readP (BitVec.ofNat 3 k))) →
    Gives (.mfs n pr rd 0x11#12) n pr s (Result n rd (v, {}))) ∧
  Gives (.mts n pr 0x10#12 ra) n pr s (fun s t => OnlyEngine n s t ∧
    t.ce[n] = { e with flags := (e.readG ra).extractLsb' 0 7, flagQ := t.ce[n].flagQ, pc := e.pc + 4#32, tm := t.ce[n].tm } ∧
    (t.ce[n]).allFlags = inFlight.foldl (fun f q => f ||| q.2) ((e.readG ra).extractLsb' 0 7)) ∧
  Gives (.mts n pr 0x11#12 ra) n pr s (fun s t => OnlyEngine n s t ∧
    EngIs n { e with p := t.ce[n].p, pc := e.pc + 4#32 } t ∧
    ∀ k : BitVec 3, (t.ce[n]).readP k = (decide (k = 0#3) || (e.readG ra).getLsbD k.toNat)) ∧
  (∀ k : BitVec 12, k ∉ ([0, 1, 2, 3, 4, 5, 6, 7, 0x10, 0x11] : List (BitVec 12)) → Fetches n s →
    Answers (.mfs n pr rd k) s (Takes n 1 e.pc (Instr.mfs n pr rd k).word (s.countFetch n))) ∧
  (∀ k : BitVec 12, k ≠ 0x10#12 → k ≠ 0x11#12 → Fetches n s →
    Answers (.mts n pr k ra) s (Takes n 1 e.pc (Instr.mts n pr k ra).word (s.countFetch n)))

/-- R88: an engine instruction with a legal encoding whose predicate is false moves past itself and has no other effect than the issue rule;
it holds for every engine instruction. -/
def Claims.FalsePredicateHasNoEffect : Prop := ∀ (i : Instr) (n : Fin 24) (pr : BitVec 4) (s : State),
  engineOf i = some (n, pr) → Fetches n s → i.legal = true → (s.ce[n]).predTrue pr = false →
  Answers i s (fun t => OnlyEngine n (s.countFetch n) t ∧ EngIs n { s.ce[n] with pc := (s.ce[n]).pc + 4#32 } t)

/-- R94, R96, R106, R107: whatever its predicate, an engine instruction with an illegal encoding takes ILLEGAL with its word, one fetched at or
above 0x6000 takes IFETCH, and one whose word cannot be read takes ECC_I; an engine that cannot issue ignores it (log entry 5). -/
def Claims.FetchExceptions : Prop := ∀ (i : Instr) (n : Fin 24) (pr : BitVec 4) (s : State), engineOf i = some (n, pr) →
  (Fetches n s → i.legal = false → Answers i s (Takes n 1 (s.ce[n]).pc i.word (s.countFetch n))) ∧
  (s.canIssue n = true → (s.ce[n]).pc.toNat < 0x6000 → s.badWord (s.fetchAddr n) = true →
    Answers i s (Takes n 5 (s.ce[n]).pc (s.ce[n]).pc s)) ∧
  (s.canIssue n = true → 0x6000 ≤ (s.ce[n]).pc.toNat → Answers i s (Takes n 2 0x5FFC#32 0x6000#32 s)) ∧
  (s.canIssue n = false → exec i s = .next s)

/-- R96, R94, R155: a fetched word that decodes to nothing takes ILLEGAL with the word; an uncorrectable error in the word that the engine fetches takes
ECC_I at its PC; every other error in a memory with check bits waits in its word, where an uncorrectable one replaces one of a single bit. -/
def Claims.ReservedOpcodeAndFetchEcc : Prop := ∀ (n : Fin 24) (w : Word) (a : BitVec 40) (s : State),
  (Fetches n s → decodeVolgar n w = none → Answers (.reservedOpcode n w) s (Takes n 1 (s.ce[n]).pc w (s.countFetch n))) ∧
  (s.canIssue n = true → (s.ce[n]).pc.toNat < 0x6000 →
    Answers (.fetchEccError (.fetch n true)) s (Takes n 5 (s.ce[n]).pc (s.ce[n]).pc (s.upset (s.fetchAddr n) true))) ∧
  (Fetches n s → Answers (.fetchEccError (.fetch n false)) s (fun t => t = { s with eccSoft := t.eccSoft } ∧
    t.softWord (s.fetchAddr n) = true)) ∧
  (eccMemory a.toNat = true → s.badWord a.toNat = false →
    Answers (.fetchEccError (.word a true)) s (fun t => t = { s with eccBad := t.eccBad, eccSoft := t.eccSoft } ∧
      t.badWord a.toNat = true ∧ t.softWord a.toNat = false ∧
      ∀ x, x / 4 ≠ a.toNat / 4 → t.badWord x = s.badWord x ∧ t.softWord x = s.softWord x) ∧
    Answers (.fetchEccError (.word a false)) s (fun t => t = { s with eccSoft := t.eccSoft } ∧ t.softWord a.toNat = true ∧
      ∀ x, x / 4 ≠ a.toNat / 4 → t.softWord x = s.softWord x)) ∧
  ((eccMemory a.toNat = false ∨ s.badWord a.toNat = true) → ∀ b, Ignores (.fetchEccError (.word a b)) s)

/-- A branch of engine `n` goes to `target`, with `rd` holding `w`. -/
def Branches (n : Fin 24) (target : Word) (rd : BitVec 5) (w : Word) (s t : State) : Prop :=
  OnlyEngine n s t ∧ EngIs n { s.ce[n] with g := t.ce[n].g, pc := target } t ∧ GprIs n rd w s t

/-- R104 (Table 3-16): branches go to a word-aligned target below 0x6000 and save PC + 4 in the link register; any other target takes IFETCH
with no other effect.  NOP has none, and FENCE lets nothing issue before the earlier accesses have completed. -/
def Claims.BranchesAndFence : Prop := ∀ (n : Fin 24) (pr : BitVec 4) (off : BitVec 22) (rd ra : BitVec 5) (s : State),
  let e := s.ce[n]
  let rel := BitVec.ofInt 32 (e.pc.toInt + 4 * off.toInt)
  let reg := e.readG ra
  let ok := fun (t : Word) => t.toNat % 4 = 0 ∧ t.toNat < 0x6000
  (ok rel → Gives (.br n pr off) n pr s (Branches n rel 0#5 0#32)) ∧
  (ok rel → Gives (.call n pr off) n pr s (Branches n rel 31#5 (e.pc + 4#32))) ∧
  (ok reg → Gives (.jr n pr ra) n pr s (Branches n reg 0#5 0#32)) ∧
  (ok reg → Gives (.jalr n pr rd ra) n pr s (Branches n reg rd (e.pc + 4#32))) ∧
  (¬ok rel → Gives (.br n pr off) n pr s (Takes n 2 e.pc rel) ∧ Gives (.call n pr off) n pr s (Takes n 2 e.pc rel)) ∧
  (¬ok reg → Gives (.jr n pr ra) n pr s (Takes n 2 e.pc reg) ∧ Gives (.jalr n pr rd ra) n pr s (Takes n 2 e.pc reg)) ∧
  Gives (.nop n pr) n pr s (fun s t => OnlyEngine n s t ∧ EngIs n { e with pc := e.pc + 4#32 } t) ∧
  Gives (.fence n pr) n pr s (fun s t => OnlyEngine n s t ∧ EngIs n { e with pc := e.pc + 4#32 } t ∧
    e.tm.memDone ≤ (t.ce[n]).tm.next)

/-- R104, R481: BRK halts the engine where a debugger whose grant holds ENGINE has enabled halting, and otherwise takes BREAK. -/
def Claims.BreakHaltsOrTraps : Prop := ∀ (n : Fin 24) (pr : BitVec 4) (s : State),
  (s.brkHalts n = true → Gives (.brk n pr) n pr s (fun s t =>
    t.bit .CE_STAT_HALTED n = true ∧ RegsBut s t [(.CE_STAT_HALTED, n)] ∧ t = { s with regs := t.regs, ce := t.ce } ∧
    (∀ m : Fin 24, m ≠ n → t.ce[m] = s.ce[m]) ∧ EngIs n { s.ce[n] with pc := (s.ce[n]).pc + 4#32 } t)) ∧
  (s.brkHalts n = false → Gives (.brk n pr) n pr s (Takes n 7 (s.ce[n]).pc 0#32))

/-- R116, R117, R123, R124: SINCOS, the limits, PLUCK and its injections. -/
def Claims.ControlMathResults : Prop := ∀ (n : Fin 24) (pr : BitVec 4) (rd ra rb cnt lag : BitVec 5) (k : BitVec 2) (s : State),
  let e := s.ce[n]
  let d := e.readG rd
  let a := e.readG ra
  let b := e.readG rb
  let clamp := fun (lo hi : Int) => (BitVec.ofInt 32 (max lo (min hi a.toInt)), ({ qsat := decide (max lo (min hi a.toInt) ≠ a.toInt) } : NFlags))
  Gives (.sincos n pr rd ra rb) n pr s (fun s t => OnlyEngine n s t ∧ EngineStep n {} s t ∧ SameP n s t ∧ SameA n s t ∧
    ∀ x, (t.ce[n]).readG x = if x = rd then sinWord (a + b) else if x = rd + 1#5 then cosWord (a + b) else e.readG x) ∧
  Gives (.lim n pr rd ra rb) n pr s (Result n rd (BitVec.ofInt 32 (min (max d.toInt a.toInt) b.toInt), {})) ∧
  Gives (.limf n pr rd ra rb) n pr s (Result n rd
    ((Fp.minmax false (Fp.minmax true d a).1 b).1, (Fp.minmax true d a).2.or (Fp.minmax false (Fp.minmax true d a).1 b).2)) ∧
  Gives (.sat n pr rd ra cnt) n pr s (Result n rd (clamp (-(2 ^ cnt.toNat)) (2 ^ cnt.toNat - 1))) ∧
  Gives (.satu n pr rd ra cnt) n pr s (Result n rd (clamp 0 (2 ^ cnt.toNat - 1))) ∧
  Gives (.pluck n pr rd ra) n pr s (Result n rd (BitVec.ofNat 32 (2 * a.toNat + b2n (a.getLsbD 14 != a.getLsbD 13)), {})) ∧
  Gives (.plka n pr rd ra rb) n pr s (Result n rd (qResult (if b.getLsbD 0 then d.toInt + a.toInt else d.toInt - a.toInt))) ∧
  Gives (.plkc n pr k ra rb lag) n pr s (AccResult n k
    (accResult ((e.readA k).toInt + (if b.getLsbD lag.toNat then a.toInt else -a.toInt) * 2 ^ 31)))

/-- A block of `len` words at `a` in the data RAM that BIQ, PI or CAPO can use (R111). -/
abbrev BlockOk (s : State) (n : Fin 24) (a : Word) (len : Nat) : Prop :=
  a.toNat % 4 = 0 ∧ a.toNat + 4 * len ≤ 0x10000 ∧ ∀ k, k < len → s.badWord (ceData n + a.toNat + 4 * k) = false

/-- What a block instruction may change besides the words it writes: the engine, the count of corrected reads and the check bits. -/
def BlockFrame (n : Fin 24) (fl : NFlags) (s t : State) : Prop :=
  t = { s with regs := t.regs, mem := t.mem, ce := t.ce, eccBad := t.eccBad, eccSoft := t.eccSoft } ∧ RegsBut s t [(.CE_XCNT_ECCCOR, n)] ∧
  (∀ m : Fin 24, m ≠ n → t.ce[m] = s.ce[m]) ∧ EngineStep n fl s t ∧ SameP n s t ∧ SameA n s t

/-- R118, R119: BIQ writes the saturated biquad sum to rd and Y1 and shifts X1 and Y1 into X2 and Y2. -/
def Claims.BiquadStep : Prop := ∀ (n : Fin 24) (pr : BitVec 4) (rd ra rb : BitVec 5) (s : State),
  let a := (s.ce[n]).readG rb
  let base := ceData n + a.toNat
  let w := fun (k : Nat) => s.word (base + 4 * k)
  let x := (s.ce[n]).readG ra
  let sum : Int := (w 1).toInt * x.toInt + (w 2).toInt * (w 6).toInt + (w 3).toInt * (w 7).toInt - (w 4).toInt * (w 8).toInt -
    (w 5).toInt * (w 9).toInt
  let y := qResult (reduced (sum * 2 ^ ((w 0).toNat % 8)) 31)
  BlockOk s n a 10 → Gives (.biq n pr rd ra rb) n pr s (fun s t => BlockFrame n y.2 s t ∧ GprIs n rd y.1 s t ∧ MemBut s t (base + 24) 16 ∧
    t.word (base + 24) = x ∧ t.word (base + 28) = w 6 ∧ t.word (base + 32) = y.1 ∧ t.word (base + 36) = w 8)

/-- R120 to R122: PI and CAPO write the four hardware words of their block and rd, as the step of the block says. -/
def Claims.PiAndCapoSteps : Prop := ∀ (n : Fin 24) (pr : BitVec 4) (rd ra rb : BitVec 5) (s : State),
  let a := (s.ce[n]).readG rb
  let base := ceData n + a.toNat
  let b := s.piBlock n a.toNat
  let p := b.step ((s.ce[n]).readG ra).toInt
  let c := b.capo ((s.ce[n]).readG rd).toInt ((s.ce[n]).readG ra).toInt
  let holds := fun (q : PiBlock) (t : State) => t.word base = q.ctl ∧ t.word (base + 12) = BitVec.ofInt 32 q.i ∧
    t.word (base + 28) = BitVec.ofInt 32 q.ulast ∧ t.word (base + 32) = BitVec.ofInt 32 q.ufrom ∧
    ∀ x, (x < base ∨ (base + 4 ≤ x ∧ x < base + 12) ∨ (base + 16 ≤ x ∧ x < base + 28) ∨ base + 36 ≤ x) → t.byte x = s.byte x
  BlockOk s n a 9 →
    Gives (.pi n pr rd ra rb) n pr s (fun s t => BlockFrame n { qsat := p.2.2 } s t ∧ GprIs n rd (BitVec.ofInt 32 p.2.1) s t ∧ holds p.1 t) ∧
    Gives (.capo n pr rd ra rb) n pr s (fun s t => BlockFrame n { qsat := c.2.2 } s t ∧ GprIs n rd c.2.1 s t ∧ holds c.1 t)

/-- R111, R107: a block that is misaligned, passes the end of the data RAM or holds an uncorrectable word raises ALIGN, ACCESS or ECC_D before
any write. -/
def Claims.BlockExceptions : Prop := ∀ (n : Fin 24) (pr : BitVec 4) (rd ra rb : BitVec 5) (s : State),
  let a := (s.ce[n]).readG rb
  let pc := (s.ce[n]).pc
  let each := fun (len : Nat) (i : Instr) =>
    (a.toNat % 4 ≠ 0 → Gives i n pr s (Takes n 3 pc a)) ∧
    (a.toNat % 4 = 0 → 0x10000 < a.toNat + 4 * len → Gives i n pr s (Takes n 4 pc a)) ∧
    (∀ k, a.toNat % 4 = 0 → a.toNat + 4 * len ≤ 0x10000 → k < len → s.badWord (ceData n + a.toNat + 4 * k) = true →
      (∀ j, j < k → s.badWord (ceData n + a.toNat + 4 * j) = false) →
      Gives i n pr s (Takes n 6 pc (a + BitVec.ofNat 32 (4 * k))))
  each 10 (.biq n pr rd ra rb) ∧ each 9 (.pi n pr rd ra rb) ∧ each 9 (.capo n pr rd ra rb)

/-- A load or store of `size` bytes at `a` in the engine's own data RAM or in the SSM (Table 5-1) that no check stops. -/
abbrev MemOk (s : State) (n : Fin 24) (a : Word) (size : Nat) : Prop :=
  a.toNat % size = 0 ∧ (windowOf a.toNat = .own ∨ windowOf a.toNat = .ssm) ∧ s.badWord (memAddr n a.toNat) = false

/-- What a load leaves: memory and all but the engine and the counts of corrected reads (an SSM access draws its latency). -/
def LoadFrame (n : Fin 24) (s t : State) : Prop :=
  t = { s with regs := t.regs, ce := t.ce, free := t.free } ∧ RegsBut s t [(.CE_XCNT_ECCCOR, n), (.SSM_ECCCNT_COR, 0)] ∧
  (∀ m : Fin 24, m ≠ n → t.ce[m] = s.ce[m]) ∧ EngineStep n {} s t ∧ SameP n s t ∧ SameA n s t

/-- An access of a register window (R137, Table 5-1) by engine `n`: what the register does in `r`, told from the state in which the latency has been
drawn, and the engine's own step. -/
def WindowFrame (n : Fin 24) (r : State → State) (s t : State) : Prop :=
  let u := r { s with free := s.free + 1 }
  t = { u with ce := t.ce } ∧ (∀ m : Fin 24, m ≠ n → t.ce[m] = s.ce[m]) ∧ EngineStep n {} s t ∧ SameP n s t ∧ SameA n s t

/-- R92, R103, R137 (Table 3-15): the loads from memory; a load of a register window gives the register's word and has its read side effect; rd takes the extended bytes, LDWP also steps ra, and memory is unchanged. -/
def Claims.LoadResults : Prop := ∀ (n : Fin 24) (pr : BitVec 4) (rd ra : BitVec 5) (imm : BitVec 12) (s : State),
  let e := s.ce[n]
  let at' := fun (size : Nat) => BitVec.ofInt 32 ((e.readG ra).toInt + imm.toInt * size)
  let v := fun (size : Nat) => s.bytes (memAddr n (at' size).toNat) size
  let a := e.readG ra
  (MemOk s n (at' 4) 4 → Gives (.ldw n pr rd ra imm) n pr s (fun s t => LoadFrame n s t ∧ GprIs n rd (BitVec.ofNat 32 (v 4)) s t)) ∧
  (MemOk s n (at' 2) 2 →
    Gives (.ldh n pr rd ra imm) n pr s (fun s t => LoadFrame n s t ∧ GprIs n rd ((BitVec.ofNat 16 (v 2)).signExtend 32) s t) ∧
    Gives (.ldhu n pr rd ra imm) n pr s (fun s t => LoadFrame n s t ∧ GprIs n rd (BitVec.ofNat 32 (v 2)) s t) ∧
    Gives (.ldq n pr rd ra imm) n pr s (fun s t => LoadFrame n s t ∧ GprIs n rd (BitVec.ofNat 32 (v 2 * 65536)) s t)) ∧
  (MemOk s n (at' 1) 1 →
    Gives (.ldb n pr rd ra imm) n pr s (fun s t => LoadFrame n s t ∧ GprIs n rd ((BitVec.ofNat 8 (v 1)).signExtend 32) s t) ∧
    Gives (.ldbu n pr rd ra imm) n pr s (fun s t => LoadFrame n s t ∧ GprIs n rd (BitVec.ofNat 32 (v 1)) s t)) ∧
  (MemOk s n a 4 → Gives (.ldwp n pr rd ra imm) n pr s (fun s t => LoadFrame n s t ∧
    ∀ x, (t.ce[n]).readG x = if x = rd ∧ rd ≠ 0#5 then BitVec.ofNat 32 (s.bytes (memAddr n a.toNat) 4)
      else if x = ra ∧ ra ≠ 0#5 then at' 4 else e.readG x)) ∧
  (∀ x : Word, x.toNat % 4 = 0 → windowOf x.toNat ∈ [Window.atu, .trip, .pwm, .time] →
    let read := fun (u : State) => u.readSpace (.engine n) x.toNat
    (at' 4 = x → Gives (.ldw n pr rd ra imm) n pr s (fun s t => WindowFrame n (fun u => (read u).2) s t ∧
      GprIs n rd (read s).1 s t)) ∧
    (a = x → Gives (.ldwp n pr rd ra imm) n pr s (fun s t => WindowFrame n (fun u => (read u).2) s t ∧
      ∀ y, (t.ce[n]).readG y = if y = rd ∧ rd ≠ 0#5 then (read s).1 else if y = ra ∧ ra ≠ 0#5 then at' 4 else e.readG y)))

/-- An access of the SSM by engine `n` meets an uncorrectable word at `a`: it is counted with its address (R155), and ECC_D is taken with `info`. -/
def BadSsm (n : Fin 24) (info : Word) (a : Nat) (s t : State) : Prop :=
  t.getF .SSM_ECCCNT_UNC 0 = min (2 ^ Fld.SSM_ECCCNT_UNC.width - 1) (s.getF .SSM_ECCCNT_UNC 0 + 1) ∧
  t.getF .SSM_ECCADDR_ADDR 0 = a / 4 * 4 % 2 ^ Fld.SSM_ECCADDR_ADDR.width ∧
  Takes n 6 (s.ce[n]).pc info (s.countBadSsm a) t

/-- A store of the `size` low bytes of `v` at data address `a`: those bytes and no others, the engine with the flags and, for an SSM access, the
draw of its latency.  A store narrower than a word into a word with an error of a single bit counts it (R94, R155).  A store into the word CONSLO
reports consumption as well (R402); the header words of the command ring that no agent may write keep their values (Table 15-6, R412). -/
def Stores (n : Fin 24) (a : Word) (size v : Nat) (fl : NFlags) (s t : State) : Prop :=
  let m := memAddr n a.toNat
  let corrected := size ≠ 4 ∧ s.softWord m = true ∧ s.ringFixed a.toNat = false
  let more := fun (f : Fld) (i : Nat) => min (2 ^ f.width - 1) (s.getF f i + 1)
  (s.ringFixed a.toNat = false → (∀ k, k < size → t.byte (m + k) = BitVec.ofNat 8 (v / 256 ^ k)) ∧ MemBut s t m size) ∧
  (s.ringFixed a.toNat = true → SameMem s t) ∧
  (∀ j : Fin 24, j ≠ n → t.ce[j] = s.ce[j]) ∧ EngineStep n fl s t ∧ SameP n s t ∧ SameA n s t ∧
  t.getF .CE_XCNT_ECCCOR n = (if corrected ∧ a.toNat < 0x10000 then more .CE_XCNT_ECCCOR n else s.getF .CE_XCNT_ECCCOR n) ∧
  t.getF .SSM_ECCCNT_COR 0 = (if corrected ∧ 0x10000 ≤ a.toNat then more .SSM_ECCCNT_COR 0 else s.getF .SSM_ECCCNT_COR 0) ∧
  RegsBut s t [(.CE_XCNT_ECCCOR, n), (.SSM_ECCCNT_COR, 0), (.JNL_STAT_CONSERR, 0)] ∧
  t = { s with mem := t.mem, ce := t.ce, free := t.free, eccBad := t.eccBad, eccSoft := t.eccSoft, regs := t.regs, jnl := t.jnl } ∧
  (a.toNat / 4 * 4 ≠ 0x10700008 ∨ s.ringFixed a.toNat = true → t.jnl = s.jnl ∧ t.getF .JNL_STAT_CONSERR 0 = s.getF .JNL_STAT_CONSERR 0)

/-- R92, R103, R137: the stores to memory and to the register windows at ra + imm12 × size (STWP: at ra, which then steps), with STQ's rounding and QSAT; every other byte of memory
is unchanged; a store into a register window writes the register by its access codes.  A store may be narrower than an uncorrectable word only where it writes the whole word (R94, R155). -/
def Claims.StoreResults : Prop := ∀ (n : Fin 24) (pr : BitVec 4) (rs ra : BitVec 5) (imm : BitVec 12) (s : State),
  let e := s.ce[n]
  let at' := fun (size : Nat) => BitVec.ofInt 32 ((e.readG ra).toInt + imm.toInt * size)
  let w := e.readG rs
  let a := e.readG ra
  let q := reduced w.toInt 16
  let inMem := fun (x : Word) => windowOf x.toNat = .own ∨ windowOf x.toNat = .ssm
  ((at' 4).toNat % 4 = 0 → inMem (at' 4) →
    Gives (.stw n pr rs ra imm) n pr s (fun s t => Stores n (at' 4) 4 w.toNat {} s t ∧ SameG n s t)) ∧
  (MemOk s n (at' 2) 2 →
    Gives (.sth n pr rs ra imm) n pr s (fun s t => Stores n (at' 2) 2 w.toNat {} s t ∧ SameG n s t) ∧
    Gives (.stq n pr rs ra imm) n pr s (fun s t =>
      Stores n (at' 2) 2 (BitVec.ofInt 16 (nearest 16 q)).toNat { qsat := decide (nearest 16 q ≠ q) } s t ∧ SameG n s t)) ∧
  (MemOk s n (at' 1) 1 → Gives (.stb n pr rs ra imm) n pr s (fun s t => Stores n (at' 1) 1 w.toNat {} s t ∧ SameG n s t)) ∧
  (a.toNat % 4 = 0 → inMem a →
    Gives (.stwp n pr rs ra imm) n pr s (fun s t => Stores n a 4 w.toNat {} s t ∧ GprIs n ra (at' 4) s t)) ∧
  (∀ x : Word, x.toNat % 4 = 0 → (windowOf x.toNat = .pwm ∨ x.toNat = 0x400A0800 + 4 * n.val) →
    let write := fun (u : State) => u.writeSpace x.toNat w
    (at' 4 = x → Gives (.stw n pr rs ra imm) n pr s (fun s t => WindowFrame n write s t ∧ SameG n s t)) ∧
    (a = x → Gives (.stwp n pr rs ra imm) n pr s (fun s t => WindowFrame n write s t ∧ GprIs n ra (at' 4) s t)))

/-- Table 5-1, R91, R103, R107: a misaligned access takes ALIGN, one that its window does not take ACCESS, and an uncorrectable word in the
engine's own RAM ECC_D, each with the address and with no other effect; one in the SSM is counted and takes ECC_D (R155). -/
def Claims.MemoryExceptions : Prop := ∀ (n : Fin 24) (pr : BitVec 4) (rd ra : BitVec 5) (imm : BitVec 12) (s : State),
  let e := s.ce[n]
  let each := fun (i : Instr) (a : Word) (size : Nat) (store : Bool) =>
    (a.toNat % size ≠ 0 → Gives i n pr s (Takes n 3 e.pc a)) ∧
    (a.toNat % size = 0 → windowTakes n a.toNat size store = false → Gives i n pr s (Takes n 4 e.pc a)) ∧
    (a.toNat % size = 0 → a.toNat < 0x10000 → s.badWord (ceData n + a.toNat) = true → (store = false ∨ size ≠ 4) →
      Gives i n pr s (Takes n 6 e.pc a)) ∧
    (a.toNat % size = 0 → windowOf a.toNat = .ssm → s.badWord a.toNat = true → (store = false ∨ size ≠ 4) →
      Gives i n pr s (BadSsm n a a.toNat))
  let at' := fun (size : Nat) => BitVec.ofInt 32 ((e.readG ra).toInt + imm.toInt * size)
  each (.ldw n pr rd ra imm) (at' 4) 4 false ∧ each (.ldh n pr rd ra imm) (at' 2) 2 false ∧ each (.ldhu n pr rd ra imm) (at' 2) 2 false ∧
  each (.ldb n pr rd ra imm) (at' 1) 1 false ∧ each (.ldbu n pr rd ra imm) (at' 1) 1 false ∧ each (.ldq n pr rd ra imm) (at' 2) 2 false ∧
  each (.ldwp n pr rd ra imm) (e.readG ra) 4 false ∧ each (.stw n pr rd ra imm) (at' 4) 4 true ∧ each (.sth n pr rd ra imm) (at' 2) 2 true ∧
  each (.stb n pr rd ra imm) (at' 1) 1 true ∧ each (.stq n pr rd ra imm) (at' 2) 2 true ∧ each (.stwp n pr rd ra imm) (e.readG ra) 4 true

/-- R125 to R129, R186: SEND writes the named slot word of a lane or arm that the engine owns, and one to ARW7 with REQ = 1 requests a sort with the
word's token and direction while the modulation unit and the arm are ON; after a COMMIT, to an absent lane or to another's it is
discarded with SENDDROP, and a descriptor that is none takes ACCESS. -/
def Claims.SendWritesOwnSlots : Prop := ∀ (n : Fin 24) (pr : BitVec 4) (ra rb : BitVec 5) (s : State),
  let e := s.ce[n]
  let d := e.readG ra
  let dropped := fun (s t : State) => t.bit .CE_CSTAT_SENDDROP n = true ∧ RegsBut s t [(.CE_CSTAT_SENDDROP, n)] ∧
    t = { s with regs := t.regs, ce := t.ce } ∧ (∀ m : Fin 24, m ≠ n → t.ce[m] = s.ce[m]) ∧
    EngIs n { e with pc := e.pc + 4#32 } t
  (∀ (l : Fin 96) (k : Fin 6), d = BitVec.ofNat 32 (l.val * 256 + k.val) →
    (e.committed = false → s.laneOk l = true → s.getF .CL_CFG_OWNER l = n.val → Gives (.send n pr ra rb) n pr s (fun s t =>
      t = { s with ce := t.ce, lanes := t.lanes } ∧ (∀ m : Fin 24, m ≠ n → t.ce[m] = s.ce[m]) ∧
      EngIs n { e with pc := e.pc + 4#32 } t ∧ (∀ m : Fin 96, m ≠ l → t.lanes[m] = s.lanes[m]) ∧
      t.lanes[l] = { s.lanes[l] with work := (s.lanes[l]).work.set k (e.readG rb) })) ∧
    (e.committed = true ∨ s.laneOk l = false ∨ s.getF .CL_CFG_OWNER l ≠ n.val → Gives (.send n pr ra rb) n pr s dropped)) ∧
  (∀ (l : Fin 6) (k : Fin 8), d = BitVec.ofNat 32 (2 ^ 28 + l.val * 256 + k.val) →
    (e.committed = false → s.getF .ARM_CFG_OWNER l = n.val → Gives (.send n pr ra rb) n pr s (fun s t =>
      t = { s with ce := t.ce, arms := t.arms } ∧ (∀ m : Fin 24, m ≠ n → t.ce[m] = s.ce[m]) ∧
      EngIs n { e with pc := e.pc + 4#32 } t ∧ (∀ m : Fin 6, m ≠ l → t.arms[m] = s.arms[m]) ∧
      t.arms[l] = { s.arms[l] with work := (s.arms[l]).work.set k (e.readG rb), queued := t.arms[l].queued } ∧
      (k.val ≠ 7 ∨ (e.readG rb).getLsbD 0 = false ∨ s.getF .MOD_STAT_ENST 0 ≠ 1 ∨ s.getF .ARM_STAT_ENST l ≠ 1 →
        t.arms[l].queued = s.arms[l].queued) ∧
      (k.val = 7 → (e.readG rb).getLsbD 0 = true → s.modOn = true → s.getF .ARM_STAT_ENST l = 1 → ∃ r, t.arms[l].queued = some r ∧
        r.tag = (e.readG rb).toNat / 65536 ∧ r.asc = (e.readG rb).getLsbD 8 ∧ r.ncell = s.armNcell l ∧
        r.keys.length = min 32 (s.armNcell l)))) ∧
    (e.committed = true ∨ s.getF .ARM_CFG_OWNER l ≠ n.val → Gives (.send n pr ra rb) n pr s dropped)) ∧
  (sendOk d = false → Gives (.send n pr ra rb) n pr s (Takes n 4 e.pc d))

/-- R130: RECV reads the telemetry words and TFRET of a lane's receive buffer while it is VALID and 0 otherwise, RSTAT always, and 0 for an absent
lane; a descriptor that is none takes ACCESS. -/
def Claims.RecvReadsTheReceiveBuffer : Prop := ∀ (n : Fin 24) (pr : BitVec 4) (rd ra : BitVec 5) (s : State),
  let d := (s.ce[n]).readG ra
  (∀ (l : Fin 96) (k : Fin 16), d = BitVec.ofNat 32 (2 * 2 ^ 28 + l.val * 256 + k.val) →
    (s.laneOk l = false → recvOk d = true → Gives (.recv n pr rd ra) n pr s (Result n rd (0#32, {}))) ∧
    (s.laneOk l = true →
      (k.val = 15 → Gives (.recv n pr rd ra) n pr s (Result n rd ((s.lanes[l]).rx.rstat, {}))) ∧
      (recvOk d = true → k.val ≠ 15 → (s.lanes[l]).rx.state ≠ 1 → Gives (.recv n pr rd ra) n pr s (Result n rd (0#32, {}))) ∧
      ((s.lanes[l]).rx.state = 1 →
        (k.val = 14 → Gives (.recv n pr rd ra) n pr s (Result n rd ((s.lanes[l]).rx.tfret, {}))) ∧
        (∀ h : k.val < 12, Gives (.recv n pr rd ra) n pr s (Result n rd ((s.lanes[l]).rx.tw[k.val], {})))))) ∧
  (recvOk d = false → Gives (.recv n pr rd ra) n pr s (Takes n 4 (s.ce[n]).pc d))

/-- What a peg instruction leaves: all but the peg, the engine, the draw of the latency and the count of corrected reads. -/
def PegFrame (n : Fin 24) (k : Fin 256) (s t : State) : Prop :=
  t = { s with regs := t.regs, ce := t.ce, pegs := t.pegs, free := t.free } ∧ RegsBut s t [(.SSM_ECCCNT_COR, 0)] ∧
  (∀ m : Fin 24, m ≠ n → t.ce[m] = s.ce[m]) ∧ EngineStep n {} s t ∧ SameP n s t ∧ SameA n s t ∧
  (∀ m : Fin 256, m ≠ k → t.pegs[m] = s.pegs[m])

/-- R131 (Table 4-8), R155: PEGA, PEGR, PEGRK and PEGQ by engine n on peg ra: the peg's new state and the code in rd; an operand above 255 takes
ACCESS, and an uncorrectable peg word is counted and takes ECC_D. -/
def Claims.PegInstructions : Prop := ∀ (n : Fin 24) (pr : BitVec 4) (rd ra : BitVec 5) (k : Fin 256) (s : State),
  let p := s.pegs[k]
  let mine := p.held = true ∧ p.holder = n.val
  let does := fun (i : Instr) (q : Peg) (code : Word) =>
    Gives i n pr s (fun s t => PegFrame n k s t ∧ t.pegs[k] = q ∧ GprIs n rd code s t)
  let forms : List Instr := [.pega n pr rd ra, .pegr n pr rd ra, .pegrk n pr rd ra, .pegq n pr rd ra]
  let v := (s.ce[n]).readG ra
  (255 < v.toNat → ∀ i ∈ forms, Gives i n pr s (Takes n 4 (s.ce[n]).pc v)) ∧
  (v = BitVec.ofNat 32 k → s.badWord (pegAddr k) = true → ∀ i ∈ forms, Gives i n pr s (BadSsm n v (pegAddr k))) ∧
  (v = BitVec.ofNat 32 k → s.badWord (pegAddr k) = false →
    (p.held = false → does (.pega n pr rd ra) { p with held := true, holder := n.val, acqCnt := p.acqCnt + 1#16 } (if p.broken then 1#32 else 0#32)) ∧
    (mine → does (.pega n pr rd ra) p 3#32) ∧ (p.held = true → p.holder ≠ n.val → does (.pega n pr rd ra) p 2#32) ∧
    (mine → does (.pegr n pr rd ra) { p with held := false, broken := false, holder := 0x3F } 0#32) ∧
    (¬mine → does (.pegr n pr rd ra) p 4#32) ∧
    (mine → does (.pegrk n pr rd ra) { p with held := false, broken := true, holder := 0x3F, brkBy := n.val } 0#32) ∧
    (¬mine → does (.pegrk n pr rd ra) p 4#32) ∧
    does (.pegq n pr rd ra) p p.word)

/-- R132 (Table 4-9): WAITF passes with pd = 1 where its offset has been reached and with pd = 0 where the deadline has, and else the engine waits;
the wake writes pd by the same rule.  R133: DLQ and DLCK. -/
def Claims.WaitAndDeadlineQueries : Prop := ∀ (n : Fin 24) (pr : BitVec 4) (pd : BitVec 3) (off : BitVec 16) (rd ra : BitVec 5) (s : State),
  let e := s.ce[n]
  (s.dlPassed n = true → Gives (.waitf n pr pd off) n pr s (PredResult n pd false {})) ∧
  (s.dlPassed n = false → s.offReached off.toNat = true → Gives (.waitf n pr pd off) n pr s (PredResult n pd true {})) ∧
  (s.dlPassed n = false → s.offReached off.toNat = false → Gives (.waitf n pr pd off) n pr s (fun s t => OnlyEngine n s t ∧
    EngIs n { e with waitf := some (pd, off), pc := e.pc + 4#32 } t)) ∧
  (e.waitf = some (pd, off) → pd ≠ 0#3 → s.running n = true → s.halted n = false → s.atuRuns = true →
    (s.dlPassed n = true → Answers (.waitfWake n) s (fun t => OnlyEngine n s t ∧ (t.ce[n]).waitf = none ∧ PredIs n pd false s t ∧
      SameG n s t ∧ SameA n s t ∧ (t.ce[n]).pc = e.pc)) ∧
    (s.dlPassed n = false → s.offReached off.toNat = true → Answers (.waitfWake n) s (fun t => OnlyEngine n s t ∧ (t.ce[n]).waitf = none ∧
      PredIs n pd true s t ∧ SameG n s t ∧ SameA n s t ∧ (t.ce[n]).pc = e.pc)) ∧
    (s.dlPassed n = false → s.offReached off.toNat = false → Answers (.waitfWake n) s (fun t => (t.ce[n]).waitf = none ∧
      (PredIs n pd true s t ∨ PredIs n pd false s t) ∧ SameG n s t ∧ SameA n s t ∧ (t.ce[n]).pc = e.pc ∧
      t = { s with ce := t.ce, tick := t.tick, carrier := t.carrier, clock := t.clock, atu := t.atu } ∧
      ∀ m : Fin 24, m ≠ n → t.ce[m] = s.ce[m]))) ∧
  Gives (.dlq n pr rd) n pr s (Result n rd (BitVec.ofNat 32 (s.sDl n * 163840 / s.getF .ATU_FREQ_FREQ 0), {})) ∧
  Gives (.dlck n pr pd ra) n pr s (PredResult n pd (decide ((e.readG ra).toNat ≤ s.sDl n * 163840 / s.getF .ATU_FREQ_FREQ 0)) {})

/-- The task of engine `n` has ended in `t` after `cyc` cycles, `com` saying whether a COMMIT was accepted (R114). -/
def Ended (n : Fin 24) (cyc : Nat) (com : Bool) (s t : State) : Prop :=
  t.bit .CE_STAT_RUNNING n = false ∧ t.getF .CE_LASTCYC_LAST n = cyc % 2 ^ 32 ∧
  t.getF .CE_MAXCYC_MAX n = max (s.getF .CE_MAXCYC_MAX n) (cyc % 2 ^ 32) % 2 ^ 32 ∧
  t.bit .CE_CSTAT_NOCOMMIT n = (s.bit .CE_CSTAT_NOCOMMIT n || !com) ∧
  t.getF .CE_STAT_ENST n = (if s.getF .CE_STAT_ENST n = 2 then 0 else s.getF .CE_STAT_ENST n) ∧
  (t.ce[n]).waitf = none ∧ (t.ce[n]).endDue = 0

/-- R114, R134, R145: COMMIT is ACCEPTED before the FAB cycle that reaches the deadline and once, and releases every lane and arm of the engine for s_fret; later it is LATE, and
after an accepted one AGAIN.  COMMIT.E also ends the task, ENDT ends it, and an accepted COMMIT ends the task of a DRAINING engine; LASTCYC counts
from the task's first issue, and a pending activation whose engines are then all OFF takes effect (R151). -/
def Claims.CommitAndTaskEnd : Prop := ∀ (n : Fin 24) (pr : BitVec 4) (rd : BitVec 5) (s : State),
  let e := s.ce[n]
  let ok := e.committed = false ∧ s.dlReaches n = false
  let code := if e.committed = true then 2#32 else if s.dlReaches n = true then 1#32 else 0#32
  let len := fun (cyc : Nat) => cyc - e.tm.first.getD cyc
  let cyc := len (e.tm.issueAt pr true { writesG := [(rd, 2)] })
  let released := fun (s t : State) =>
    (∀ l : Fin 96, t.lanes[l] = if s.laneOk l = true ∧ s.getF .CL_CFG_OWNER l = n.val then
      { s.lanes[l] with launch := (s.lanes[l]).work, released := some e.sfret } else s.lanes[l]) ∧
    (∀ a : Fin 6, t.arms[a] = if s.getF .ARM_CFG_OWNER a = n.val then
      { s.arms[a] with launch := (s.arms[a]).work, released := some e.sfret } else s.arms[a])
  let effect := fun (s t : State) =>
    (ok → (t.ce[n]).committed = true ∧ released s t) ∧
    (¬ok → (t.ce[n]).committed = e.committed ∧ t.lanes = s.lanes ∧ t.arms = s.arms) ∧
    (e.committed = true → t.bit .CE_CSTAT_AGAIN n = true ∧ t.bit .CE_CSTAT_LATE n = s.bit .CE_CSTAT_LATE n) ∧
    (e.committed = false → s.dlReaches n = true → t.bit .CE_CSTAT_LATE n = true ∧ t.bit .CE_CSTAT_AGAIN n = s.bit .CE_CSTAT_AGAIN n) ∧
    (ok → t.bit .CE_CSTAT_LATE n = s.bit .CE_CSTAT_LATE n ∧ t.bit .CE_CSTAT_AGAIN n = s.bit .CE_CSTAT_AGAIN n) ∧
    GprIs n rd code s t ∧ SameP n s t ∧ SameA n s t ∧ (t.ce[n]).pc = e.pc + 4#32 ∧ (t.ce[n]).allFlags = e.allFlags
  let fields : List (Fld × Nat) := [(.CE_CSTAT_AGAIN, n), (.CE_CSTAT_LATE, n)]
  let ends := fun (s t : State) => EndsTask n (fields ++ taskFields n) { s with lanes := t.lanes, arms := t.arms } t
  ((s.getF .CE_STAT_ENST n ≠ 2 ∨ ¬ok) → Gives (.commit n pr rd) n pr s (fun s t => effect s t ∧ RegsBut s t fields ∧
    (∀ m : Fin 24, m ≠ n → t.ce[m] = s.ce[m]) ∧ t = { s with regs := t.regs, ce := t.ce, lanes := t.lanes, arms := t.arms })) ∧
  (s.getF .CE_STAT_ENST n = 2 → ok → Gives (.commit n pr rd) n pr s (fun s t => effect s t ∧ Ended n cyc true s t ∧ ends s t)) ∧
  Gives (.commitE n pr rd) n pr s (fun s t => effect s t ∧ Ended n cyc (decide (e.committed = true ∨ ok)) s t ∧ ends s t) ∧
  Gives (.endt n pr) n pr s (fun s t => Ended n (len (e.tm.issueAt pr true {})) e.committed s t ∧ EndsTask n (taskFields n) s t ∧
    (t.ce[n]).g = e.g ∧ (t.ce[n]).p = e.p ∧ (t.ce[n]).acc = e.acc ∧ (t.ce[n]).allFlags = e.allFlags ∧ (t.ce[n]).pc = e.pc + 4#32)

/-! Engine execution. -/

/-- The state in which engine `n` has begun its task of row `r` of table copy `c` and has issued nothing (R141): RUNNING is set, and a corrected
entry is counted. -/
def begunTask (n : Fin 24) (c r : Nat) (s : State) : State :=
  let ta := s.rowWord c r (8 * n)
  let at_ := ceEntry n (s.getF .CE_STAT_ACTBANK n) + 4 * (ta / 2 ^ 24 % 16)
  { s with
    regs := ((s.countSoftCe n at_).setF .CE_STAT_RUNNING n 1).regs,
    ce := s.ce.set n { (s.ce[n]).rebase (engineCycle s.tick - engineCycle (s.ce[n]).startTick) with
        pc := BitVec.ofNat 32 ((s.word at_).toNat % 65536), sfret := BitVec.ofNat 32 s.fretnum, sfic := s.fic, sentry := BitVec.ofNat 4 (ta / 2 ^ 24),
        deadline := s.rowWord c r (8 * n + 4) % 65536, committed := false, dlDone := false, endDue := 0, waitf := none, startTick := s.tick },
    fretd := { s.fretd with started := s.fretd.started ||| BitVec.ofNat 24 (2 ^ n.val) } }

/-- R71, R72, R141: at the start offset of an enabled TASKA the task begins at its entry point with s_fret, s_fic, s_entry and the row's deadline, and
no other register changes, what is in flight being counted from the task's first cycle (R89); an invalid entry point raises IFETCH at the start, at
0x6000 with the address that the entry names; an engine that is not ON, still runs or is halted, and every engine below S3 (log entry 53), skips it with
SKIPMASK and SKIPCNT. -/
def Claims.TaskStart : Prop := ∀ (n : Fin 24) (c r : Nat) (s : State),
  let ta := s.rowWord c r (8 * n)
  let at_ := ceEntry n (s.getF .CE_STAT_ACTBANK n) + 4 * (ta / 2 ^ 24 % 16)
  let w := (s.word at_).toNat
  let ready := s.engOk n = true ∧ s.tasksRun = true ∧ s.getF .CE_STAT_ENST n = 1 ∧ s.running n = false ∧ s.halted n = false
  s.fretd.row = some (c, r) → 2 ^ 31 ≤ ta → s.fretd.started.getLsbD n = false → s.atuRuns = true → s.offReached (ta % 65536) = true →
    (ready → s.badWord at_ = false → 2 ^ 31 ≤ w → w % 4 = 0 → w % 65536 < 0x6000 → Answers (.taskStart n) s (fun t =>
      t = begunTask n c r s ∧ t.bit .CE_STAT_RUNNING n = true ∧ RegsBut s t [(.CE_STAT_RUNNING, n), (.CE_XCNT_ECCCOR, n)] ∧
      t.getF .CE_XCNT_ECCCOR n = (if s.softWord at_ = true then min (2 ^ Fld.CE_XCNT_ECCCOR.width - 1) (s.getF .CE_XCNT_ECCCOR n + 1)
        else s.getF .CE_XCNT_ECCCOR n) ∧
      (t.ce[n]).pc = BitVec.ofNat 32 (w % 65536) ∧ (t.ce[n]).g = (s.ce[n]).g ∧ (t.ce[n]).p = (s.ce[n]).p ∧ (t.ce[n]).acc = (s.ce[n]).acc ∧
      (t.ce[n]).sfret = BitVec.ofNat 32 s.fretnum ∧ ∀ m : Fin 24, m ≠ n → t.ce[m] = s.ce[m])) ∧
    (ready → s.badWord at_ = false → w < 2 ^ 31 →
      Answers (.taskStart n) s (Takes n 2 0x6000#32 0x6000#32 (begunTask n c r s))) ∧
    (ready → s.badWord at_ = false → 2 ^ 31 ≤ w → (w % 4 ≠ 0 ∨ 0x6000 ≤ w % 65536) →
      Answers (.taskStart n) s (Takes n 2 0x6000#32 (BitVec.ofNat 32 (w % 65536)) (begunTask n c r s))) ∧
    (¬ready → SetsOn (.taskStart n) s { s with fretd := { s.fretd with started := s.fretd.started ||| BitVec.ofNat 24 (2 ^ n.val) } }
      [(.FRET_SKIPMASK_SKIP, 0, (s.getF .FRET_SKIPMASK_SKIP 0 ||| 2 ^ n.val) % 2 ^ 24),
       (.FRET_SKIPCNT_COUNT, 0, min (2 ^ Fld.FRET_SKIPCNT_COUNT.width - 1) (s.getF .FRET_SKIPCNT_COUNT 0 + 1))])

/-- R142: a running task that reaches its deadline without an accepted COMMIT records a miss, requests the software trip where MISSTRIP is set (a
DRAINING engine's as it was when EN was cleared, R38), and ends under ABORT or while DRAINING; a task that has committed records none. -/
def Claims.DeadlineMiss : Prop := ∀ (n : Fin 24) (s : State),
  let e := s.ce[n]
  let trips := if s.getF .CE_STAT_ENST n = 2 then e.missTrip.getD (s.bit .CE_CTRL_MISSTRIP n) else s.bit .CE_CTRL_MISSTRIP n
  s.atuRuns = true → s.fretd.started.getLsbD n = true → e.sfret = BitVec.ofNat 32 s.fretnum → e.dlDone = false → s.offReached e.deadline = true →
  s.armsToClose n = [] → s.running n = true → s.halted n = false →
    (e.committed = true → Answers (.deadlineThreshold n) s (fun t => OnlyEngine n s t ∧ t.ce[n] = { e with dlDone := true })) ∧
    (e.committed = false → Answers (.deadlineThreshold n) s (fun t =>
      t.bit .CE_STAT_MISS n = true ∧ t.getF .CE_MISSCNT_COUNT n = min (2 ^ Fld.CE_MISSCNT_COUNT.width - 1) (s.getF .CE_MISSCNT_COUNT n + 1) ∧
      t.testF .TRIP_LAT1_SW 0 n = (s.testF .TRIP_LAT1_SW 0 n || trips) ∧
      t.bit .CE_STAT_RUNNING n = !(s.getF .CE_CTRL_MISSMODE n == 0 || s.getF .CE_STAT_ENST n == 2) ∧
      (t.ce[n]).g = e.g ∧ (t.ce[n]).acc = e.acc ∧ (t.ce[n]).p = e.p ∧ (t.ce[n]).flags = e.flags ∧
      EngineEnds n ((s.getF .CE_CTRL_MISSMODE n == 0 || s.getF .CE_STAT_ENST n == 2) && s.actEnds n)
        (([(.CE_STAT_MISS, n.val), (.CE_MISSCNT_COUNT, n.val), (.TRIP_LAT1_SW, 0)] : List (Fld × Nat)) ++ taskFields n) s t))

/-- R172, R168, R183: the deadline threshold of a task that has committed closes every arm of the engine that its COMMIT released: an arm that is ON in a
modulation unit that is ON takes the planner's inputs and clears DEF where the device commands, or sets CFGERR where its configuration is invalid; in the
MUTE state nothing is converted (R275); every other arm stays. -/
def Claims.DeadlineClosesArms : Prop := ∀ (n : Fin 24) (s : State),
  let e := s.ce[n]
  let closes := fun (a : Fin 6) => s.getF .ARM_CFG_OWNER a = n.val ∧ (s.arms[a]).released = some (BitVec.ofNat 32 s.fretnum) ∧
    s.getF .MOD_STAT_ENST 0 = 1 ∧ s.getF .ARM_STAT_ENST a = 1
  s.atuRuns = true → s.fretd.started.getLsbD n = true → e.sfret = BitVec.ofNat 32 s.fretnum → e.dlDone = false → s.offReached e.deadline = true →
  e.committed = true → Answers (.deadlineThreshold n) s (fun t =>
    t = { s with regs := t.regs, ce := t.ce, arms := t.arms } ∧ t.ce[n] = { e with dlDone := true } ∧ (∀ m : Fin 24, m ≠ n → t.ce[m] = s.ce[m]) ∧
    RegsBut s t ((List.range 6).flatMap (fun a => [(.ARM_STAT_CFGERR, a), (.ARM_DEF_DEF, a)])) ∧
    ∀ a : Fin 6,
      (closes a → s.armBad a = true → t.bit .ARM_STAT_CFGERR a = true ∧ t.arms[a] = s.arms[a] ∧ t.getF .ARM_DEF_DEF a = s.getF .ARM_DEF_DEF a) ∧
      (closes a → s.armBad a = false → s.mstate = false → t.arms[a] = { s.arms[a] with conv := some (s.armInputs a) } ∧
        t.getF .ARM_STAT_CFGERR a = s.getF .ARM_STAT_CFGERR a ∧
        t.getF .ARM_DEF_DEF a = if s.commanding then 0 else s.getF .ARM_DEF_DEF a) ∧
      (¬closes a ∨ (s.armBad a = false ∧ s.mstate = true) → t.arms[a] = s.arms[a] ∧
        t.getF .ARM_STAT_CFGERR a = s.getF .ARM_STAT_CFGERR a ∧ t.getF .ARM_DEF_DEF a = s.getF .ARM_DEF_DEF a))

/-- R80, R147, R162: a unit reset clears the registers, the task and EN of the engine, and the pegs it held become BROKEN; R146, R481: a debug halt sets
HALTED where the grant holds ENGINE, and a resume under that grant clears it and lets an end that fell due take effect, the cycles of the halt
included in LASTCYC (R164). -/
def Obligations.EngineResetAndDebug : Prop := ∀ (n : Fin 24) (s : State),
  (s.ceLive n = true → s.fabBus = true → Answers (.ceUrst n) s (fun t =>
    EngineEnds n (s.actFree n) [(.CE_CTRL_EN, n), (.CE_STAT_ENST, n), (.CE_STAT_RUNNING, n), (.CE_STAT_HALTED, n)] { s with pegs := t.pegs } t ∧
    t.ce[n] = { s.ce[n] with
      g := Vector.replicate 32 0#32, acc := Vector.replicate 4 0#72, p := Vector.replicate 8 false,
      flags := 0#7, flagQ := [], waitf := none, endDue := 0, tm := {},
      actUnits := t.ce[n].actUnits, actArb := t.ce[n].actArb, stgArb := t.ce[n].stgArb, actHash := t.ce[n].actHash, stgHash := t.ce[n].stgHash } ∧
    (s.actFree n = false → (t.ce[n]).actUnits = (s.ce[n]).actUnits ∧ (t.ce[n]).actArb = (s.ce[n]).actArb ∧ (t.ce[n]).stgArb = (s.ce[n]).stgArb ∧
      (t.ce[n]).actHash = (s.ce[n]).actHash ∧ (t.ce[n]).stgHash = (s.ce[n]).stgHash) ∧
    t.getF .CE_CTRL_EN n = 0 ∧ t.getF .CE_STAT_ENST n = 0 ∧ t.bit .CE_STAT_RUNNING n = false ∧ t.bit .CE_STAT_HALTED n = false ∧
    ∀ k : Fin 256, t.pegs[k] = if (s.pegs[k]).held = true ∧ (s.pegs[k]).holder = n.val then
      { s.pegs[k] with held := false, broken := true, holder := 0x3F, brkBy := n.val } else s.pegs[k])) ∧
  (s.ceLive n = true → s.fabRuns = true → s.debugLevel.testBit 0 = true → ∀ brk,
    Answers (.debugHalt ⟨.engine n, brk⟩) s (fun t => t = { s with regs := t.regs, haltEn := t.haltEn } ∧ t.bit .CE_STAT_HALTED n = true ∧
      RegsBut s t [(.CE_STAT_HALTED, n)] ∧
      ∀ m : Fin 24, t.haltEn.getLsbD m = if m = n then brk else s.haltEn.getLsbD m)) ∧
  (s.ceLive n = false ∨ s.fabRuns = false ∨ s.debugLevel.testBit 0 = false → ∀ brk, Ignores (.debugHalt ⟨.engine n, brk⟩) s) ∧
  (s.halted n = false ∨ s.fabRuns = false ∨ s.debugLevel.testBit 0 = false → Ignores (.debugResume (.engine n)) s) ∧
  (s.halted n = true → s.debugLevel.testBit 0 = true → s.fabRuns = true →
    ((s.ce[n]).endDue = 0 → Answers (.debugResume (.engine n)) s (fun t => t = { s with regs := t.regs, ce := t.ce } ∧
      t.bit .CE_STAT_HALTED n = false ∧ RegsBut s t [(.CE_STAT_HALTED, n)] ∧ (∀ m : Fin 24, m ≠ n → t.ce[m] = s.ce[m]) ∧
      t.ce[n] = { s.ce[n] with tm := { (s.ce[n]).tm with next := t.ce[n].tm.next } } ∧ (s.ce[n]).tm.next ≤ (t.ce[n]).tm.next)) ∧
    ((s.ce[n]).endDue ≠ 0 → Answers (.debugResume (.engine n)) s (fun t => t.bit .CE_STAT_HALTED n = false ∧
      Ended n (s.elapsed n - (s.ce[n]).tm.first.getD (s.elapsed n)) (s.ce[n]).committed s t ∧
      (t.bit .CE_STAT_OVREND n = (s.bit .CE_STAT_OVREND n || decide ((s.ce[n]).endDue ≠ 1))) ∧
      EndsTask n (([(.CE_STAT_HALTED, n.val), (.CE_STAT_OVREND, n.val)] : List (Fld × Nat)) ++ taskFields n) s t))) ∧
  (∀ k : Fin 4, s.coresRun = true → s.debugLevel.testBit 1 = true →
    Answers (.debugHalt ⟨.sup k, false⟩) s (fun t => t = { s with sec := { s.sec with halted := t.sec.halted } } ∧
      ∀ m : Fin 4, t.sec.halted.getLsbD m = (s.sec.halted.getLsbD m || decide (m = k))) ∧
    Answers (.debugResume (.sup k)) s (fun t => t = { s with sec := { s.sec with halted := t.sec.halted } } ∧
      ∀ m : Fin 4, t.sec.halted.getLsbD m = (s.sec.halted.getLsbD m && !decide (m = k))))

/-- R148: a control-plane word into the staging bank is written and clears STGOK; one into the active bank is refused with IWRACT, and one into a bank
that a pending activation masks with IWRPEND; in Minimal Mode none has an effect (R447, log entry 45). -/
def Claims.ImageBankWrites : Prop := ∀ (n : Fin 24) (off : BitVec 17) (w : Word) (b : Nat) (s : State),
  let a := ceBase n + off.toNat
  s.ceLive n = true → s.fabBus = true → off.toNat % 4 = 0 → bankOf off.toNat = some b →
    (s.bit .PMC_STAGE_MINIMAL 0 = true → Ignores (.imageBankWrite n off w) s) ∧
    (s.bit .PMC_STAGE_MINIMAL 0 = false →
    (b = s.getF .CE_STAT_ACTBANK n → Sets (.imageBankWrite n off w) s [(.CE_STAT_IWRACT, n, 1)]) ∧
    (b ≠ s.getF .CE_STAT_ACTBANK n → s.actBusy = true → s.actMasked n = true → Sets (.imageBankWrite n off w) s [(.CE_STAT_IWRPEND, n, 1)]) ∧
    (b ≠ s.getF .CE_STAT_ACTBANK n → (s.actBusy = false ∨ s.actMasked n = false) → Answers (.imageBankWrite n off w) s (fun t =>
      t.word a = w ∧ MemBut s t a 4 ∧ t.bit .CE_STAT_STGOK n = false ∧ RegsBut s t [(.CE_STAT_STGOK, n)] ∧
      t = { s with regs := t.regs, mem := t.mem, eccBad := t.eccBad, eccSoft := t.eccSoft })))

/-- R151 to R153: GO begins a validation with its MODE, unless one runs or waits (another MODE then sets WRPEND); a failed validation shows its code and
clears GO; one that passes waits for a boundary, or takes effect at once where the ATU or every masked engine is OFF: the masked engines' banks toggle
and DONE is set.  In Minimal Mode a GO has no effect (R447, log entry 45). -/
def Claims.Activation : Prop := ∀ (mode : Bool) (s : State),
  let open_ := s.fabBus = true ∧ s.bit .PMC_STAGE_MINIMAL 0 = false
  let due := { s.pmc with actDue := s.pmc.actDue ||| BitVec.ofNat 24 (s.getF .CE_ACTMASK_MASK 0) }
  (s.fabBus = true → s.bit .PMC_STAGE_MINIMAL 0 = true → Ignores (.actGo mode) s) ∧
  (open_ → s.actBusy = false → SetsOn (.actGo mode) s { s with pmc := due } [(.CE_ACTCTRL_MODE, 0, b2n mode), (.CE_ACTCTRL_GO, 0, 1), (.CE_ACTSTAT_VALIDATING, 0, 1)]) ∧
  (open_ → s.actBusy = true → mode ≠ s.bit .CE_ACTCTRL_MODE 0 → Sets (.actGo mode) s [(.CE_ACTSTAT_WRPEND, 0, 1)]) ∧
  (open_ → s.actBusy = true → mode = s.bit .CE_ACTCTRL_MODE 0 → Ignores (.actGo mode) s) ∧
  (s.fabRuns = true → s.bit .CE_ACTSTAT_VALIDATING 0 = true → s.actCode ≠ 0 → Sets .actValidated s
    [(.CE_ACTSTAT_VALIDATING, 0, 0), (.CE_ACTSTAT_ERR, 0, 1), (.CE_ACTSTAT_CODE, 0, s.actCode), (.CE_ACTCTRL_GO, 0, 0)]) ∧
  (s.fabRuns = true → s.bit .CE_ACTSTAT_VALIDATING 0 = true → s.actCode = 0 → s.actAtOnce = false → Sets .actValidated s
    [(.CE_ACTSTAT_VALIDATING, 0, 0), (.CE_ACTSTAT_PEND, 0, 1)]) ∧
  (s.fabRuns = true → s.bit .CE_ACTSTAT_VALIDATING 0 = true → s.actCode = 0 → s.actAtOnce = true → (∀ n ∈ s.actList, s.running n = false) → Answers .actValidated s (fun t =>
    t.bit .CE_ACTSTAT_DONE 0 = true ∧ t.bit .CE_ACTCTRL_GO 0 = false ∧ t.bit .CE_ACTSTAT_PEND 0 = false ∧ t.bit .CE_ACTSTAT_VALIDATING 0 = false ∧
    (∀ n : Fin 24, t.getF .CE_STAT_ACTBANK n = if s.actMasked n then (1 - s.getF .CE_STAT_ACTBANK n) else s.getF .CE_STAT_ACTBANK n) ∧
    t = { s with regs := t.regs, ce := t.ce, sec := { s.sec with engPend := t.sec.engPend, engAt := t.sec.engAt },
                 pmc := { s.pmc with actDue := t.pmc.actDue, actAny := t.pmc.actAny } })) ∧
  (∀ n : Fin 24, s.actMasked n = true → s.engOk n = false → s.actCode = 2)

/-- R157 to R159: the SSM is granted to the raised requester with the highest credit, a tie to the lowest index, whose credit falls by the cycles it
holds, at most HOLD; a window start, every 512 FAB cycles, sets every credit to its weight less the cycles that a grant still holds; a grant that
reaches HOLD is cut, recorded and raised again. -/
def Obligations.SsmArbiterGrants : Prop := ∀ (raised : BitVec 10) (engines : BitVec 24) (cycles : Nat) (j : Fin 10) (s : State),
  let l := s.raisedReq raised engines
  let want := if j.val < 2 then 1 else max 1 cycles
  let held := min want (max 1 (s.getF .ARB_HOLD_HOLD 0))
  let due := s.passTo (s.arb.windowAt + 512)
  (s.fabRuns = true → s.arb.grant = none → j ∈ l → (∀ k ∈ l, s.arb.credit[k] < s.arb.credit[j] ∨ (s.arb.credit[k] = s.arb.credit[j] ∧ j ≤ k)) →
    Answers (.ssmGrant raised engines cycles) s (fun t => t = { s.passTo ((s.grantFrom + 1) / 2) with arb := t.arb } ∧
      t.arb.newest = some (j, s.grantFrom + held) ∧ t.arb.windowAt = s.arb.windowAt ∧ t.arb.credit[j] = s.arb.credit[j] - held ∧
      (∀ k : Fin 10, k ≠ j → t.arb.credit[k] = s.arb.credit[k]) ∧ t.arb.grant = (if held < want then some (j, held) else none) ∧
      t.arb.cut = s.arb.cut &&& ~~~BitVec.ofNat 10 (2 ^ j.val))) ∧
  (s.fabRuns = true → Answers .arbWindowStart s (fun t => t = { due with arb := { s.arb with credit := t.arb.credit, windowAt := t.arb.windowAt } } ∧
    t.arb.windowAt % 512 = s.arb.windowAt % 512 ∧ t.arb.windowAt ≤ due.tick ∧ due.tick < t.arb.windowAt + 512 ∧
    ∀ k : Fin 10, t.arb.credit[k] = s.weight k - (s.arb.newest.map (fun e => if e.1 = k then e.2 - 2 * due.tick else 0)).getD 0)) ∧
  (∀ h, s.fabRuns = true → s.arb.grant = some (j, h) → SetsOn .holdLimitCut s { s with arb := { s.arb with grant := none, cut := s.arb.cut ||| BitVec.ofNat 10 (2 ^ j.val) } }
    [(.ARB_VIOL_VIOL, 0, (s.getF .ARB_VIOL_VIOL 0 ||| 2 ^ j.val) % 2 ^ 10),
     (.ARB_VIOLCNT_COUNT, 0, min (2 ^ Fld.ARB_VIOLCNT_COUNT.width - 1) (s.getF .ARB_VIOLCNT_COUNT 0 + 1))])

/-- R161 (Table 4-8): a peg read by SUPk acts as holder 0x20 + k and answers its code; an uncorrectable peg word answers an error instead. -/
def Claims.PegReadsOfTheCores : Prop := ∀ (c : Fin 4) (k : Fin 256) (s : State),
  let p := s.pegs[k]
  let me := 0x20 + c.val
  let mine := p.held = true ∧ p.holder = me
  let does := fun (i : Instr) (q : Peg) (code : Word) => Answers i s (fun t => t.pegs[k] = q ∧ t.resp = ⟨code, [], false⟩ ∧
    (∀ m : Fin 256, m ≠ k → t.pegs[m] = s.pegs[m]) ∧ t = { s with regs := t.regs, pegs := t.pegs, resp := t.resp } ∧
    RegsBut s t [(.SSM_ECCCNT_COR, 0)])
  s.busRuns = true → s.coresRun = true → (s.badWord (pegAddr k) = false →
    (p.held = false → does (.pegAcqRead c k) { p with held := true, holder := me, acqCnt := p.acqCnt + 1#16 } (if p.broken then 1#32 else 0#32)) ∧
    (mine → does (.pegAcqRead c k) p 3#32 ∧ does (.pegRelRead c k) { p with held := false, broken := false, holder := 0x3F } 0#32 ∧
      does (.pegRelkRead c k) { p with held := false, broken := true, holder := 0x3F, brkBy := me } 0#32) ∧
    (¬mine → does (.pegRelRead c k) p 4#32 ∧ does (.pegRelkRead c k) p 4#32) ∧
    (p.held = true → p.holder ≠ me → does (.pegAcqRead c k) p 2#32)) ∧
  (s.badWord (pegAddr k) = true → ∀ i ∈ [Instr.pegAcqRead c k, .pegRelRead c k, .pegRelkRead c k],
    Answers i s (fun t => t.resp = ⟨0#32, [], true⟩ ∧ t.pegs = s.pegs))

/-! Registers, units and locks. -/

/-- The registers that hold RW fields alone and that a write only stores. -/
def plainRw : List Reg :=
  [.PMC_BK, .CLK_PLL_DITHER, .ATU_FREE, .ATU_ROCOF, .ATU_SLEW, .ATU_ADCSEL, .ATU_ADCMIN, .ATU_FRETINIT, .ARM_BYPASS, .CL_RXEQ,
   .CL_UPAT0, .CL_UPAT1, .CLG_CLRMASK, .PW_PRD, .PW_PHS, .PW_CMPA, .PW_CMPB, .PW_TRGA, .PW_TRGB, .PWM_HOLD, .AUXH_DUTY, .VREG_SLEW,
   .VREG_SS, .HP_MAXLEN, .HP_TSLAT, .HP_TQ0BASE, .HP_TQ1BASE, .HP_RQBASE, .HP_RXEQ, .HP_UPAT0, .HP_UPAT1, .TIME_INC, .TIME_WSECH,
   .TIME_WSECL, .TIME_WNS, .TIME_STEPNS, .TOUT_SSEC, .TOUT_SNS, .TOUT_PER, .TOUT_WID, .SVF_MATCH, .SVF_RING, .ML_RXEQ,
   .ML_UPAT0, .ML_UPAT1, .ARB_WGT0, .ARB_WGT1, .ARB_WGT2, .ARB_HOLD, .SEC_TAMPCFG, .CE_XCFG]
/-- The registers that hold RWL fields alone and that a write only stores. -/
def plainRwl : List Reg :=
  [.MOD_CFG, .MOD_TCINC, .MOD_DABLIM, .ARM_CBSRES, .ARM_MAP, .CL_CFG, .CLG_ARMTOK, .CLG_EPOCH, .CLG_DMAX, .CLG_NODE, .PW_DT, .PW_MINP,
   .AD_LCFG, .AD_LBUF, .AD_LLEN, .AUX_PRD, .AUXH_CFG, .MIR_HOAT, .MIR_WINBASE, .MIR_WINLEN]
/-- The registers that hold W1C fields alone and that a write only clears. -/
def plainW1c : List Reg :=
  [.THERM_BKREC, .FRET_SKIPMASK, .FRET_ADCOVR, .ADC_STAT, .ARB_VIOL, .CE_CSTAT]
/-- The registers that hold RC fields alone and that a read only clears. -/
def plainRc : List Reg :=
  [.PMC_SUPCNT, .THERM_CNT, .FRET_SKIPCNT, .ARM_CNT, .ARM_CNT2, .CL_FCNT0, .CL_FCNT1, .CL_LINKCNT, .CL_PATERR, .PW_SUPCNT, .PW_MCNT,
   .AUXH_FCNT, .VREG_CNT, .HP_ERRCNT, .HP_PRPCNT, .HP_PATERR, .SVF_CNT, .JNL_CNT0, .JNL_CNT1, .MIR_CNT, .ML_LINKCNT, .ML_PATERR,
   .ARB_VIOLCNT, .SSM_ECCCNT, .CE_MISSCNT, .CE_MAXCYC, .CE_XCNT]

/-- R5, R20 to R23: a word written by a core stores RW fields, clears the W1C bits that are 1, and stores RWL fields while the block is not locked; a
locked RWL field keeps its value and LKERR is set where the value differs; absent registers and unassigned offsets take nothing, nor do the PWM
compares in S4 (Table 1-2).  A register of RO and RC fields alone takes nothing; LOCK, of access W1S, is set by a 1 and kept by a 0; REQ of the trip
requests, of access WO, requests where it is 1 and does nothing where it is 0 or the engine is absent.  The core and its way to the register run. -/
def Claims.RegisterWrites : Prop := ∀ (k : Fin 4) (a : BitVec 40) (w : Word) (s : State),
  let c := Instr.regWrite (.sup k) a w
  let ok := { s with resp := ⟨0#32, [], false⟩ }
  a.toNat % 4 = 0 → (placeOf a.toNat = .reg ∨ placeOf a.toNat = .ceReg) → s.canAccess (.sup k) a.toNat = true →
    (findReg a.toNat = none → (a.toNat < 0x40058000 ∨ 0x40060000 ≤ a.toNat) → laneOff a.toNat = none → Answers c s (fun t => t = ok)) ∧
    ∀ r i, findReg a.toNat = some (r, i) →
      let live := s.regLive r i = true
      let puts := SetsOn c s ok (r.spec.flds.map (fun f => (f, i, f.of w)))
      (s.regLive r i = false → Answers c s (fun t => t = ok)) ∧
      (s.regLive r i = true → r ∈ plainRw → (s.inS4 = true → r ≠ .PW_CMPA ∧ r ≠ .PW_CMPB) → puts) ∧
      (s.regLive r i = true → s.inS4 = true → r = .PW_CMPA ∨ r = .PW_CMPB → Answers c s (fun t => t = ok)) ∧
      (s.regLive r i = true → r ∈ plainW1c →
        SetsOn c s ok (r.spec.flds.map (fun f => (f, i, (s.getF f i - (s.getF f i &&& f.of w)) % 2 ^ f.width)))) ∧
      (s.regLive r i = true → r ∈ plainRwl → ∀ lock lkerr, blockLock r.spec.base = some (lock, lkerr) →
        (s.bit lock 0 = false → puts) ∧
        (s.bit lock 0 = true → (∀ f ∈ r.spec.flds, f.of w = s.getF f i) → SetsOn c s ok []) ∧
        (s.bit lock 0 = true → (∃ f ∈ r.spec.flds, f.of w ≠ s.getF f i) → SetsOn c s ok (lkerr.toList.map (fun f => (f, 0, 1))))) ∧
      (live → (∀ f ∈ r.spec.flds, f.spec.acc = .ro ∨ f.spec.acc = .rc) → Answers c s (fun t => t = ok)) ∧
      (∀ u, (r, u) ∈ [(Reg.TRIP_CTRL, LockUnit.trip), (.PWM_CTRL, .pwm), (.ADC_CTRL, .adc)] → live →
        (w.toNat = 1 → SetsOn c s ok [((lockFlds u).1, 0, 1)]) ∧ (w.toNat = 0 → SetsOn c s ok [])) ∧
      (live → r = .TRIP_SWREQ → SetsOn c s ok
        (if w.getLsbD 0 && s.engOk i then [(.TRIP_LAT1_SW, 0, (s.getF .TRIP_LAT1_SW 0 ||| 2 ^ i) % 2 ^ Fld.TRIP_LAT1_SW.width)] else [])) ∧
      (live → r = .TRIP_SUPREQ → w.getLsbD 0 = false → SetsOn c s ok [])

/-- The registers whose read does more than to show and clear fields: the timestamp queue (R369), the station time's holding latch (R372) and the
debug challenge (R481). -/
def specialReads : List Reg := [.HP_TSQTS, .TIME_NS, .TIME_SECH, .TIME_SECL, .DBG_CHAL]

/-- R23, R21, R5: a read of a register answers its fields, a WO field and the reserved bits as 0, and clears the RC ones; the read of a register
without RC fields changes nothing, and one of an absent or unpowered unit answers 0. -/
def Claims.ReadClears : Prop := ∀ (k : Fin 4) (a : BitVec 40) (r : Reg) (i : Nat) (s : State),
  let c := Instr.readClear (.sup k) a
  a.toNat % 4 = 0 → (placeOf a.toNat = .reg ∨ placeOf a.toNat = .ceReg) → findReg a.toNat = some (r, i) → s.canAccess (.sup k) a.toNat = true →
    (s.regLive r i = false → Answers c s (fun t => t = { s with resp := ⟨0#32, [], false⟩ })) ∧
    (s.regLive r i = true → r ∈ plainRc → ∃ w : Word, (∀ f ∈ r.spec.flds, f.of w = s.getF f i % 2 ^ f.width) ∧
      SetsOn c s { s with resp := ⟨w, [], false⟩ } (r.spec.flds.map (fun f => (f, i, 0)))) ∧
    (s.regLive r i = true → r ∉ specialReads → (∀ f ∈ r.spec.flds, f.spec.acc ≠ .rc) → (r = .HP_PRP → i % 2 = 0) → ∃ w : Word,
      (∀ f ∈ r.spec.flds, f.of w = if f.spec.acc = .wo then 0 else s.readF f i % 2 ^ f.width) ∧
      (∀ b < 32, (∀ f ∈ r.spec.flds, b < f.spec.lo ∨ f.spec.hi < b) → w.getLsbD b = false) ∧
      Answers c s (fun t => t = { s with resp := ⟨w, [], false⟩ }))

/-- R92, R155, R487: words of the SSM and the MRAM written and read by a core; a full word takes fresh check bits, a corrected word is counted, and an
uncorrectable one answers an error, is counted, and is recorded where no record is held; the journal region takes no write (R474); the header words of the command ring that no agent may write keep their values (Table 15-6). -/
def Claims.MemoryAccesses : Prop := ∀ (k : Fin 4) (a : BitVec 40) (w : Word) (s : State),
  let x := a.toNat
  let ssm := 0x10000000 ≤ x ∧ x < 0x107FF000
  let mr := mram ≤ x ∧ x < mram + 0x2000000
  let cor := (s.getF .SSM_ECCCNT_COR 0 + 1)
  let unc := (s.getF .SSM_ECCCNT_UNC 0 + 1)
  x % 4 = 0 → s.canAccess (.sup k) x = true →
    (ssm → s.ringFixed x = true → Answers (.regWrite (.sup k) a w) s (fun t => t = { s with resp := ⟨0#32, [], false⟩ })) ∧
    (ssm → x ≠ 0x10700008 → s.ringFixed x = false → s.powered domProt = true → Answers (.regWrite (.sup k) a w) s (fun t =>
      t.word x = w ∧ MemBut s t x 4 ∧ s.eccBad.filter (fun y => y != x) = t.eccBad ∧ s.eccSoft.filter (fun y => y != x) = t.eccSoft ∧
      t = { s with mem := t.mem, eccBad := t.eccBad, eccSoft := t.eccSoft, resp := ⟨0#32, [], false⟩ })) ∧
    (mr → x < mram + 0x1000000 → Answers (.regWrite (.sup k) a w) s (fun t => t = { s with resp := ⟨0#32, [], false⟩ })) ∧
    (mr → mram + 0x1000000 ≤ x → Answers (.regWrite (.sup k) a w) s (fun t => t.word x = w ∧ MemBut s t x 4 ∧ t = { s with mem := t.mem, resp := ⟨0#32, [], false⟩ })) ∧
    (mr → Answers (.readClear (.sup k) a) s (fun t => t = { s with resp := ⟨s.word x, [], false⟩ })) ∧
    (ssm → s.powered domProt = true → s.badWord x = false → s.softWord x = false →
      Answers (.readClear (.sup k) a) s (fun t => t = { s with resp := ⟨s.word x, [], false⟩ })) ∧
    (ssm → s.powered domProt = true → s.badWord x = false → s.softWord x = true →
      SetsOn (.readClear (.sup k) a) s { s with resp := ⟨s.word x, [], false⟩ }
        [(.SSM_ECCCNT_COR, 0, min (2 ^ Fld.SSM_ECCCNT_COR.width - 1) cor)]) ∧
    (ssm → s.badWord x = true →
      let counts : List (Fld × Nat × Nat) := [(.SSM_ECCCNT_UNC, 0, min (2 ^ Fld.SSM_ECCCNT_UNC.width - 1) unc),
        (.SSM_ECCADDR_ADDR, 0, x % 2 ^ Fld.SSM_ECCADDR_ADDR.width), (.SYS_BUSERR_COUNT, 0, min 255 (s.getF .SYS_BUSERR_COUNT 0 + 1))]
      (s.bit .SYS_BUSERR_VALID 0 = true → SetsOn (.readClear (.sup k) a) s { s with resp := ⟨0#32, [], true⟩ } counts) ∧
      (s.bit .SYS_BUSERR_VALID 0 = false → SetsOn (.readClear (.sup k) a) s { s with resp := ⟨0#32, [], true⟩ } (counts ++
        [(.SYS_BUSERR_VALID, 0, 1), (.SYS_BUSERR_CAUSE, 0, 4), (.SYS_BUSERR_AGENT, 0, 0x20 + k.val), (.SYS_BUSADDRLO_ADDR, 0, x),
         (.SYS_BUSADDRHI_ADDR, 0, 0), (.SYS_BUSADDRHI_WRITE, 0, 0)])))

/-- R487, Table 5-3: the SSM takes accesses of a byte, of an aligned halfword and of an aligned 64-byte line by a core; a read answers the bytes, a
write stores them and no others.  A halfword that is not aligned errs with WIDTH and is recorded where no record is held. -/
def Claims.NarrowAccesses : Prop := ∀ (k : Fin 4) (a : BitVec 40) (l : List Byte) (s : State),
  let x := a.toNat
  let n := l.length
  let read := Instr.unmappedAccess (.sup k) a none n
  let write := Instr.unmappedAccess (.sup k) a (some l) n
  0x10700040 ≤ x → x + n ≤ 0x107FF000 → s.canAccess (.sup k) x = true → s.powered domProt = true →
    (n = 1 ∨ (n = 2 ∧ x % 2 = 0) ∨ (n = 64 ∧ x % 64 = 0) → (∀ j < n, s.badWord (x + j) = false) →
      Answers write s (fun t => (∀ j < n, t.byte (x + j) = l.getD j 0#8) ∧ MemBut s t x n ∧
        t = { s with mem := t.mem, regs := t.regs, eccBad := t.eccBad, eccSoft := t.eccSoft, resp := ⟨0#32, [], false⟩ } ∧
        RegsBut s t [(.SSM_ECCCNT_COR, 0)]) ∧
      Answers read s (fun t => t = { s with regs := t.regs, resp := t.resp } ∧ RegsBut s t [(.SSM_ECCCNT_COR, 0)] ∧ t.resp.err = false ∧
        ∀ j < n, (if n ≤ 4 then (t.resp.data >>> (8 * j)).setWidth 8 else t.resp.line.getD j 0#8) = s.byte (x + j))) ∧
    (n = 2 → x % 2 = 1 → s.bit .SYS_BUSERR_VALID 0 = false → ∀ i ∈ [read, write],
      SetsOn i s { s with resp := ⟨0#32, [], true⟩ }
        [(.SYS_BUSERR_COUNT, 0, min 255 (s.getF .SYS_BUSERR_COUNT 0 + 1)), (.SYS_BUSERR_VALID, 0, 1), (.SYS_BUSERR_CAUSE, 0, 2),
         (.SYS_BUSERR_AGENT, 0, 0x20 + k.val), (.SYS_BUSADDRLO_ADDR, 0, x), (.SYS_BUSADDRHI_ADDR, 0, 0),
         (.SYS_BUSADDRHI_WRITE, 0, b2n (i == write))])

/-- R489, R493: an access to an address that nothing maps answers an error, is counted, and is recorded with its cause, agent, address and direction
where no record is held. -/
def Claims.UnmappedAccess : Prop := ∀ (ag : Agent) (a : BitVec 40) (wr : Option (List Byte)) (size : Nat) (s : State),
  let c := Instr.unmappedAccess ag a wr size
  let count := (Fld.SYS_BUSERR_COUNT, 0, min 255 (s.getF .SYS_BUSERR_COUNT 0 + 1))
  placeOf a.toNat = .none → s.canAccess ag a.toNat = true →
    (s.bit .SYS_BUSERR_VALID 0 = true → SetsOn c s { s with resp := ⟨0#32, [], true⟩ } [count]) ∧
    (s.bit .SYS_BUSERR_VALID 0 = false → SetsOn c s { s with resp := ⟨0#32, [], true⟩ }
      [count, (.SYS_BUSERR_VALID, 0, 1), (.SYS_BUSERR_CAUSE, 0, if (ag = .dma ∨ ag = .hostDma) ∧ inRegSpace a.toNat = true then 3 else 1),
       (.SYS_BUSERR_AGENT, 0, agentCode ag), (.SYS_BUSADDRLO_ADDR, 0, a.toNat % 2 ^ 32), (.SYS_BUSADDRHI_ADDR, 0, a.toNat / 2 ^ 32),
       (.SYS_BUSADDRHI_WRITE, 0, b2n wr.isSome)])

/-- R155, R487 (Tables 1-7, 20-2): a descriptor of the DMA engine copies bytes of the SSM, the MRAM or an engine's data RAM into the SSM or an
engine's data RAM, a whole word taking fresh check bits and each corrected word that it reads being counted, and nothing else changes; the header words of
the command ring that no agent may write keep their values.  A descriptor with a byte out of reach, or in a word that cannot be read, copies nothing and
answers an error.  A DRAINING engine is OFF after it. -/
def Obligations.DmaCopies : Prop := ∀ (src dst : BitVec 40) (len : Nat) (s : State),
  let c := Instr.dmaDescriptorComplete src dst len
  let ram := fun (a : Nat) => match placeOf a with
    | .ceMem n off => s.unitLive (.ce n) && decide (0x80000 ≤ off ∧ off < 0x90000)
    | _ => false
  let ssm := fun (a : Nat) => decide (0x10000000 ≤ a ∧ a < 0x107FF000)
  let goes := fun (a : Nat) => ssm a || ram a
  let comes := fun (a : Nat) => goes a || decide (mram ≤ a ∧ a < mram + 0x2000000)
  let whole := fun (a x : Nat) => decide (a ≤ x / 4 * 4 ∧ x / 4 * 4 + 4 ≤ a + len)
  let counts : List (Fld × Nat) := (.SSM_ECCCNT_COR, 0) :: (List.range 24).map (fun n => (.CE_XCNT_ECCCOR, n))
  s.dmaEnst ≠ 0 → s.coresRun = true → s.sysRuns = true → s.powered 3 = true →
    ((∀ k < len, goes (dst.toNat + k) = true ∧ comes (src.toNat + k) = true) →
      (∀ k < len, s.badWord (src.toNat + k) = false ∨ placeOf (src.toNat + k) = .mram) →
      (∀ k < len, s.badWord (dst.toNat + k) = false ∨ whole dst.toNat (dst.toNat + k) = true) →
      Answers c s (fun t =>
        t = { s with regs := t.regs, mem := t.mem, eccBad := t.eccBad, eccSoft := t.eccSoft, dmaEnst := if s.dmaEnst = 2 then 0 else s.dmaEnst } ∧
        RegsBut s t counts ∧ MemBut s t dst.toNat len ∧
        ∀ k < len, t.byte (dst.toNat + k) = if s.ringFixed (dst.toNat + k) then s.byte (dst.toNat + k) else s.byte (src.toNat + k))) ∧
    ((∃ k < len, (s.badWord (src.toNat + k) = true ∧ ssm (src.toNat + k) = true) ∨ placeOf (src.toNat + k) = .none ∨ placeOf (src.toNat + k) = .peg ∨
        (placeOf (src.toNat + k) = .reg ∧ s.absentAt (src.toNat + k) = false) ∨
        placeOf (dst.toNat + k) = .none ∨ placeOf (dst.toNat + k) = .peg) →
      Answers c s (fun t => t.mem = s.mem ∧ t.resp = ⟨0#32, [], true⟩ ∧
        t.getF .SYS_BUSERR_COUNT 0 = min 255 (s.getF .SYS_BUSERR_COUNT 0 + 1)))

/-- R510: LOCK = 1 sets LOCK; UNLOCK = 1 clears it outside S4 and sets ULERR in S4. -/
def Claims.Locks : Prop := ∀ (u : LockUnit) (s : State),
  let lock := (lockFlds u).1
  let ulerr := (lockFlds u).2.1
  s.lockLive u = true →
    Sets (.lock u false) s [(lock, 0, 1)] ∧
    (s.inS4 = false → Sets (.lock u true) s [(lock, 0, 1)]) ∧
    (s.inS4 = true → Sets (.lock u true) s [(lock, 0, 1), (ulerr, 0, 1)]) ∧
    (s.inS4 = false → Sets (.unlock u) s [(lock, 0, 0)]) ∧
    (s.inS4 = true → Sets (.unlock u) s [(ulerr, 0, 1)])

/-- R25, R37 to R44 (Tables 1-6, 1-7): EN = 1 written to an OFF unit turns it ON; EN = 0 turns it OFF or, with a work item in progress, DRAINING, and the
end of the item turns it OFF; the value that EN already holds changes nothing.  An engine that goes OFF lets an activation that waits for it alone take
effect (R151); the modulation unit's items keep the settings that they have when EN is cleared (R38). -/
def Claims.UnitEnables : Prop := ∀ (s : State), s.fabBus = true →
  (∀ u : UnitId, s.unitLive u = true → (s.enBit u = true → Ignores (.unitEnable u) s) ∧ (s.enBit u = false → Ignores (.unitDisable u) s)) ∧
  (s.unitLive .mod = true → s.enBit .mod = false → Answers (.unitEnable .mod) s (fun t =>
    t = { s with regs := t.regs, arms := t.arms } ∧ t.bit .MOD_CTRL_EN 0 = true ∧ t.getF .MOD_STAT_ENST 0 = 1 ∧
    RegsBut s t [(.MOD_CTRL_EN, 0), (.MOD_STAT_ENST, 0)] ∧
    ∀ a : Fin 6, t.arms[a] = { s.arms[a] with kept := if s.getF .ARM_STAT_ENST a = 2 then (s.arms[a]).kept else none })) ∧
  (s.unitLive .mod = true → s.enBit .mod = true → s.inS4 = true → Sets (.unitDisable .mod) s [(.MOD_STAT_DISERR, 0, 1)]) ∧
  (s.unitLive .mod = true → s.enBit .mod = true → s.inS4 = false →
    Answers (.unitDisable .mod) s (fun t =>
      t = { s with regs := t.regs, arms := t.arms } ∧ t.bit .MOD_CTRL_EN 0 = false ∧ t.getF .MOD_STAT_ENST 0 = (if s.modBusy then 2 else 0) ∧
      RegsBut s t [(.MOD_CTRL_EN, 0), (.MOD_STAT_ENST, 0)] ∧
      ∀ a : Fin 6, t.arms[a] = { s.arms[a] with
        queued := none,
        kept := some ((s.arms[a]).kept.getD ⟨s.getF .ARM_CFG_OWNER a, s.getF .ARM_CBSRES_ADDR a, s.getF .MOD_DABLIM_SLEW 0, s.getF .MOD_DABLIM_PHIMAX 0⟩) })) ∧
  (∀ n : Fin 24, s.unitLive (.ce n) = true → s.enBit (.ce n) = false →
    SetsOn (.unitEnable (.ce n)) s { s with ce := s.ce.set n { s.ce[n] with missTrip := none } } [(.CE_CTRL_EN, n, 1), (.CE_STAT_ENST, n, 1)]) ∧
  (∀ n : Fin 24, s.unitLive (.ce n) = true → s.enBit (.ce n) = true → s.running n = false →
    Answers (.unitDisable (.ce n)) s (fun t => EngineEnds n (s.actFree n) [(.CE_CTRL_EN, n), (.CE_STAT_ENST, n)] s t ∧
      t.bit .CE_CTRL_EN n = false ∧ t.getF .CE_STAT_ENST n = 0 ∧ SwapKeeps n s t)) ∧
  (∀ n : Fin 24, s.unitLive (.ce n) = true → s.enBit (.ce n) = true → s.running n = true → (s.ce[n]).committed = false → s.dlPassed n = false →
    SetsOn (.unitDisable (.ce n)) s { s with ce := s.ce.set n { s.ce[n] with missTrip := some (s.bit .CE_CTRL_MISSTRIP n) } }
      [(.CE_CTRL_EN, n, 0), (.CE_STAT_ENST, n, 2)]) ∧
  (∀ m : Fin 8, s.unitLive (.ad m) = true → s.enBit (.ad m) = false →
    Sets (.unitEnable (.ad m)) s [(.AD_CTRL_EN, m, 1), (.AD_STAT_ENST, m, 1)]) ∧
  (∀ x : Fin 4, s.unitLive (.aux x) = true → s.enBit (.aux x) = false →
    Sets (.unitEnable (.aux x)) s [(.AUXH_CTRL_EN, x, 1), (.AUXH_STAT_ENST, x, 1)]) ∧
  (s.unitLive .dma = true → s.enBit .dma = false → Answers (.unitEnable .dma) s (fun t => t = { s with dmaEnst := 1 })) ∧
  (s.unitLive .fret = true → s.enBit .fret = true → s.inS4 = false → s.getF .FRET_STAT_ENST 0 = 1 → s.fretd.row.isSome = true → s.atuRuns = true →
    Sets (.unitDisable .fret) s [(.FRET_CTRL_EN, 0, 0), (.FRET_STAT_ENST, 0, 2)]) ∧
  (s.unitLive .fret = true → s.getF .FRET_STAT_ENST 0 = 2 → s.rowDone = true → s.bit .FRET_STAT_SWAPPEND 0 = false →
    SetsOn (.drainComplete .fret) s { s with fretd := { s.fretd with row := none } } [(.FRET_STAT_ENST, 0, 0)]) ∧
  (∀ p : Fin 4, s.unitLive (.hp p) = true → s.hostRuns p = true → s.getF .HP_STAT_ENST p = 2 → (s.hpUp p = false ∨ (s.hp[p]).last = none) →
    Sets (.drainComplete (.hp p)) s [(.HP_STAT_ENST, p, 0), (.HP_STAT_PSTATE, p, 0)]) ∧
  (s.unitLive .jnl = true → s.getF .JNL_STAT_ENST 0 = 2 → s.jnl.waiting = [] → Sets (.drainComplete .jnl) s [(.JNL_STAT_ENST, 0, 0)])

/-! The angle timebase and the fret dispatcher. -/

/-- R31, R45, R49, R62, R66, R177: at a boundary the angle is the first that equals or passes the threshold, no part of an addition being lost and no
further threshold passed, the
fret number advances, the receive
buffers flip, the ATU state is queued, the carrier is latched and the dispatch of the new fret begins; no byte of memory changes. -/
def Obligations.FretBoundary : Prop := ∀ (s : State),
  let f := s.getF .ATU_FREQ_FREQ 0
  let thr := s.nextThreshold
  let full := s.atu.acc + s.atu.past
  s.atuRuns = true → Answers .fretBoundary s (fun t =>
    t.fretnum = (s.fretnum + 1) % 2 ^ 32 ∧ t.atu.tb.fret = t.fretnum ∧ t.atu.tb.freq = t.getF .ATU_FREQ_FREQ 0 ∧
    (0 < f → ∃ k, thr ≤ full + k * f ∧ (k = 0 ∨ full + (k - 1) * f < thr) ∧ t.tick = s.tick + k ∧
      t.atu.acc + t.atu.past = thr % 2 ^ 48 + (full + k * f - thr)) ∧ t.atu.acc < t.nextThreshold ∧
    t.getF .MOD_TCB_TCB 0 = t.carrier % 2 ^ 32 ∧ t.fretd.started = 0#24 ∧ t.fretd.scanned = 0#8 ∧
    (s.getF .FRET_STAT_ENST 0 ≠ 1 → t.fretd.row = none) ∧
    (s.getF .FRET_STAT_ENST 0 = 1 → ∃ c r, t.fretd.row = some (c, r) ∧ c = t.getF .FRET_STAT_ACTIVE 0 ∧ r = t.fic % t.plen c) ∧
    (∀ n : Fin 96, (t.lanes[n]).rx = (s.lanes[n]).fill ∧ (t.lanes[n]).fill = {}) ∧
    (s.src = 2 → s.atu.handover = none → s.atu.autoWord = none → s.twin.follow = false →
      let r := s.getF .ATU_ROCOF_ROCOF 0
      let w := s.getF .ATU_FREE_FREE 0
      t.getF .ATU_FREQ_FREQ 0 = clampFreq ((if f < w then min w (f + r) else max w (f - r) : Nat) : Int)) ∧
    SameMem s t ∧ t.pending = s.pending ∧ t.variant = s.variant)

/-- R32, R44, R74, R75, R447: the enable starts the ATU at angle 0 with fret FRETINIT and the free-running word, what was released or converted for frets
of an earlier run counts no more, and in Minimal Mode the ATU stays OFF; the disable clears LOCKED and SLEWING and is refused in S4. -/
def Claims.AtuEnableDisable : Prop := ∀ (s : State),
  (s.protBus = true → s.atuOn = false → s.bit .PMC_STAGE_MINIMAL 0 = false → Answers .atuEnable s (fun t =>
    t.getF .ATU_CTRL_EN 0 = 1 ∧ t.getF .ATU_STAT_ENST 0 = 1 ∧ t.atu.acc = 0 ∧ t.fretnum = s.getF .ATU_FRETINIT_FRETINIT 0 % 2 ^ 32 ∧
    t.getF .ATU_FREQ_FREQ 0 = clampFreq (s.getF .ATU_FREE_FREE 0) ∧ t.src = s.getF .ATU_CTRL_SRCREQ 0 % 4 ∧ t.tick = s.tick ∧
    (∀ n : Fin 96, (t.lanes[n]).rx = (s.lanes[n]).fill ∧ (t.lanes[n]).level = 0 ∧ (t.lanes[n]).lastEdge = none ∧ (t.lanes[n]).phil = 0 ∧
      (t.lanes[n]).released = none ∧ (t.lanes[n]).convFret = none ∧ (t.lanes[n]).cmdFret = none ∧ (t.lanes[n]).ack = none) ∧
    (∀ a : Fin 6, t.getF .ARM_DEF_DEF a = 0 ∧ (t.arms[a]).released = none) ∧ SameMem s t)) ∧
  (s.atuOn = true ∨ s.protBus = false ∨ s.bit .PMC_STAGE_MINIMAL 0 = true → Ignores .atuEnable s) ∧
  (s.protBus = true → s.inS4 = true → Sets .atuDisable s [(.ATU_STAT_DISERR, 0, 1)]) ∧
  (s.protBus = true → s.inS4 = false → s.atuOn = true → s.bit .ATU_STAT_FPCPEND 0 = false → s.bit .FRET_STAT_SWAPPEND 0 = false → s.bit .CLG_STAT_SWAPPEND 0 = false →
    s.bit .CE_ACTSTAT_PEND 0 = false → s.getF .FRET_STAT_ENST 0 ≠ 2 →
      SetsOn .atuDisable s { s with fretd := { s.fretd with row := none }, twin := { s.twin with follow := false }, atu := { s.atu with handover := none, autoWord := none, lockFrom := none } }
        [(.ATU_CTRL_EN, 0, 0), (.ATU_STAT_ENST, 0, 0), (.ATU_STAT_LOCKED, 0, 0), (.ATU_STAT_SLEWING, 0, 0)])

/-- R53, R58 to R60, R63: FPCSEL, the sources and the snapshot.  A source is lost where its configuration, its amplitude or its samples fail, an SV stream that
falls silent once MISSMAX samples have not come; SRCREQ = 0b11 sets SRCERR, with which an ADC source in use is lost. -/
def Claims.AtuSources : Prop := ∀ (v : BitVec 2) (s : State),
  let pend := s.bit .ATU_STAT_FPCPEND 0
  let cur := if pend then s.atu.fpcNew else s.getF .ATU_CFG_FPCSEL 0
  let slew : Int := s.getF .ATU_SLEW_SLEW 0
  let bound := max 1 (s.getF .ATU_FREQ_FREQ 0 / 65536)
  let lost := { s with atu := { s.atu with autoWord := if s.bit .ATU_CFG_AUTOFREE 0 then some s.atu.tracked else s.atu.autoWord, lockFrom := none } }
  let holds : List (Fld × Nat × Nat) := [(.ATU_FREQ_FREQ, 0, if s.twin.follow then s.getF .ATU_FREQ_FREQ 0 else s.atu.tracked % 2 ^ Fld.ATU_FREQ_FREQ.width), (.ATU_STAT_HOLDOVER, 0, 1),
    (.ATU_STAT_SRCLOSS, 0, 1), (.ATU_STAT_SLEWING, 0, 0), (.ATU_STAT_LOCKED, 0, 0)]
  let p := BitVec.ofInt 32 (s.atu.track s.src).pherr
  (s.protBus = true → cur = v.toNat → Ignores (.fpcselWrite v) s) ∧
  (s.protBus = true → cur ≠ v.toNat → s.inS4 = true → Sets (.fpcselWrite v) s [(.ATU_STAT_FPCERR, 0, 1)]) ∧
  (s.protBus = true → cur ≠ v.toNat → s.inS4 = false → s.atuOn = true →
    SetsOn (.fpcselWrite v) s { s with atu := { s.atu with fpcNew := v.toNat } } [(.ATU_STAT_FPCPEND, 0, 1)]) ∧
  (s.protBus = true → cur ≠ v.toNat → s.inS4 = false → s.atuOn = false → Sets (.fpcselWrite v) s [(.ATU_CFG_FPCSEL, 0, v.toNat)]) ∧
  (s.protBus = true → v = 3#2 → (s.src = 2 ∨ s.atuOn = false ∨ s.holdover = true) → Sets (.sourceHandoverRequest v) s [(.ATU_STAT_SRCERR, 0, 1)]) ∧
  (s.protBus = true → v = 3#2 → s.src = 0 → s.atuOn = true → s.holdover = false → SetsOn (.sourceHandoverRequest v) s lost ((.ATU_STAT_SRCERR, 0, 1) :: holds)) ∧
  (s.protBus = true → v = 3#2 → s.src = 1 → s.lossDue = false → Sets (.sourceHandoverRequest v) s [(.ATU_STAT_SRCERR, 0, 1)]) ∧
  (s.protBus = true → v ≠ 3#2 → SetsOn (.sourceHandoverRequest v) s { s with atu := { s.atu with handover := some v.toNat } } [(.ATU_CTRL_SRCREQ, 0, v.toNat)]) ∧
  (s.protBus = true → Sets .snap s [(.ATU_SNAP_FRET_FRET, 0, s.fretnum % 2 ^ 32), (.ATU_SNAP_ANGLE_ANGLE, 0, s.angle), (.ATU_SNAP_SECH_SECH, 0, s.clock.sec / 2 ^ 32 % 2 ^ 16),
    (.ATU_SNAP_SECL_SECL, 0, s.clock.sec % 2 ^ 32), (.ATU_SNAP_NS_NS, 0, s.clock.ns % 2 ^ 30)]) ∧
  (s.atuRuns = true → s.holdover = false → s.lossDue = true → SetsOn .sourceLoss s lost holds) ∧
  (s.atuRuns = true → s.holdover = false → s.src = 1 → Answers .sourceLoss s (fun t => t.holdover = true ∧ t.bit .ATU_STAT_SRCLOSS 0 = true ∧
    t.bit .ATU_STAT_LOCKED 0 = false ∧ t.bit .ATU_STAT_SLEWING 0 = false ∧ t.atu.tracked = s.atu.tracked ∧ s.tick ≤ t.tick ∧
    (s.twin.follow = false → t.getF .ATU_FREQ_FREQ 0 = s.atu.tracked % 2 ^ Fld.ATU_FREQ_FREQ.width))) ∧
  (s.lossDue = false → s.src ≠ 1 → Ignores .sourceLoss s) ∧
  (s.src ≠ 2 → (s.srcUnusable s.src = true ∨ (s.src = 1 ∧ max 1 (s.getF .ATU_CFG_MISSMAX 0) ≤ s.svFeed.miss) ∨
    (s.src = 0 ∧ ∃ a, s.atu.lowFrom = some a ∧ a + 2 ^ 32 ≤ s.atu.absStart)) → s.lossDue = true) ∧
  (s.atuRuns = true → s.src ≠ 2 → s.holdover = true → s.lossDue = false → s.twin.follow = true → Sets .sourceReturn s [(.ATU_STAT_HOLDOVER, 0, 0)]) ∧
  (s.atuRuns = true → s.src ≠ 2 → s.holdover = true → s.lossDue = false → s.twin.follow = false →
    Sets .sourceReturn s [(.ATU_STAT_HOLDOVER, 0, 0), (.ATU_STAT_SLEWING, 0, 1), (.ATU_PHERR_PHERR, 0, p.toNat),
      (.ATU_FREQ_FREQ, 0, clampFreq (s.atu.tracked + if 0 ≤ p.toInt then slew else -slew))]) ∧
  (s.atuRuns = true → s.bit .ATU_STAT_SLEWING 0 = true → s.getF .ATU_FREQ_FREQ 0 < 2 ^ 32 → Answers .slewEnd s (fun t =>
    t = { s with regs := t.regs, free := s.free + 1, atu := { s.atu with adcTr := t.atu.adcTr, svTr := t.atu.svTr } } ∧
    (t.atu.track s.src).pherr = t.pherr ∧ t.bit .ATU_STAT_SLEWING 0 = false ∧ t.getF .ATU_FREQ_FREQ 0 = clampFreq s.atu.tracked ∧
    t.pherr.natAbs < bound ∧ RegsBut s t [(.ATU_STAT_SLEWING, 0), (.ATU_FREQ_FREQ, 0), (.ATU_PHERR_PHERR, 0)]))

/-- R21, R68 to R70: writes of the fret table go into the shadow copy alone, the reserved bits of its rows reading 0; a swap is validated, and then waits
for a boundary, or takes effect at once where the dispatcher or the ATU is OFF. -/
def Obligations.FretTableSwaps : Prop := ∀ (mode : Bool) (off : BitVec 16) (w : Word) (s : State),
  let act := s.getF .FRET_STAT_ACTIVE 0
  let copy := off.toNat / 0x4000 - 2
  let a := 0x40050000 + off.toNat
  let sh := 1 - act
  (s.protBus = true → off.toNat % 4 = 0 → 0x8000 ≤ off.toNat →
    (copy = act → Sets (.fretTableWrite off w) s [(.FRET_STAT_WRACT, 0, 1)]) ∧
    (copy ≠ act → s.fretBusy = true → Sets (.fretTableWrite off w) s [(.FRET_STAT_WRPEND, 0, 1)]) ∧
    (copy ≠ act → s.fretBusy = false → Answers (.fretTableWrite off w) s (fun t => t.word a = w &&& rowMask (off.toNat % 0x100) ∧ MemBut s t a 4 ∧ t = { s with mem := t.mem }))) ∧
  (s.protBus = true → s.fretBusy = false → Sets (.fretSwap mode) s [(.FRET_CTRL_SWAPMODE, 0, b2n mode), (.FRET_CTRL_SWAP, 0, 1), (.FRET_STAT_VALIDATING, 0, 1)]) ∧
  (s.protBus = true → s.fretBusy = true → mode ≠ s.bit .FRET_CTRL_SWAPMODE 0 → Sets (.fretSwap mode) s [(.FRET_STAT_WRPEND, 0, 1)]) ∧
  (s.fabRuns = true → s.bit .FRET_STAT_VALIDATING 0 = true → s.fretCode ≠ 0 → Sets .fretSwapValidated s
    [(.FRET_STAT_VALIDATING, 0, 0), (.FRET_STAT_SWAPERR, 0, 1), (.FRET_STAT_SWAPCODE, 0, s.fretCode), (.FRET_CTRL_SWAP, 0, 0)]) ∧
  (s.fabRuns = true → s.bit .FRET_STAT_VALIDATING 0 = true → s.fretCode = 0 → s.getF .FRET_STAT_ENST 0 ≠ 0 → s.atuOn = true →
    Sets .fretSwapValidated s [(.FRET_STAT_VALIDATING, 0, 0), (.FRET_STAT_SWAPPEND, 0, 1)]) ∧
  (s.fabRuns = true → s.bit .FRET_STAT_VALIDATING 0 = true → s.fretCode = 0 → (s.getF .FRET_STAT_ENST 0 = 0 ∨ s.atuOn = false) → Sets .fretSwapValidated s
    [(.FRET_STAT_VALIDATING, 0, 0), (.FRET_STAT_ACTIVE, 0, sh), (.FRET_STAT_SWAPPEND, 0, 0), (.FRET_CTRL_SWAP, 0, 0), (.FRET_STAT_SWAPDONE, 0, 1)]) ∧
  (∀ r n, r < s.plen sh → n < 24 → 2 ^ 31 ≤ s.rowWord sh r (8 * n) →
    (s.engOk n = false → s.fretCode = 2) ∧
    (s.rowWord sh r (8 * n + 4) % 65536 ≤ s.rowWord sh r (8 * n) % 65536 → s.fretCode = 1 ∨ s.fretCode = 2))

/-! The modulation unit. -/

/-- R38, R169, R172, R174, R184, R185: the completion of a conversion gives each member lane the edge records of its plan and the arm its deficit, and
ends the drain of a unit that has no other item in progress; the unit reset abandons conversions and sorts and resets the planner's records. -/
def Claims.ConversionsAndReset : Prop := ∀ (a : Fin 6) (s : State),
  let others := ∃ b : Fin 6, ((s.arms[b]).conv.isSome = true ∧ b ≠ a) ∨ (s.arms[b]).running.isSome = true
  (s.fabRuns = true → ∀ c, (s.arms[a]).conv = some c → (c.lanes.map Prod.fst).Nodup → (∀ m ∈ c.lanes, m.1 < 96) → Answers (.armConversionDone a) s (fun t =>
    t.bit .ARM_STAT_CONV a = true ∧ (t.arms[a]).conv = none ∧ (∀ b : Fin 6, b ≠ a → t.arms[b] = s.arms[b]) ∧
    (∀ p, ∀ h : p < c.lanes.length, ∀ n : Fin 96, n.val = (c.lanes[p]).1 →
      (t.lanes[n]).edges = ((c.planCell p s.lanes[n] (c.lanes[p]).2.2).edges).map Edge.record ∧
      (t.lanes[n]).convFret = some c.fret ∧ (t.lanes[n]).convArm = a) ∧
    (∀ n : Fin 96, n.val ∉ c.lanes.map Prod.fst → t.lanes[n] = s.lanes[n]) ∧
    (s.commanding = false → t.getF .ARM_DEF_DEF a = s.getF .ARM_DEF_DEF a) ∧
    (s.commanding = true → c.nIn * c.f < 2 ^ 31 → (BitVec.ofNat 32 (t.getF .ARM_DEF_DEF a)).toInt.natAbs ≤ c.nIn * c.f) ∧
    t.getF .ARM_STAT_ENST a = (if s.getF .ARM_STAT_ENST a = 2 then 0 else s.getF .ARM_STAT_ENST a) ∧
    (others → t.getF .MOD_STAT_ENST 0 = s.getF .MOD_STAT_ENST 0) ∧
    (¬others → t.getF .MOD_STAT_ENST 0 = if s.getF .MOD_STAT_ENST 0 = 2 then 0 else s.getF .MOD_STAT_ENST 0) ∧
    t = { s with regs := t.regs, lanes := t.lanes, arms := t.arms } ∧
    RegsBut s t [(.MOD_STAT_ENST, 0), (.ARM_STAT_CONV, a), (.ARM_DEF_DEF, a), (.ARM_STAT_ENST, a), (.ARM_CNT_SHIFT, a), (.ARM_CNT_DROP, a), (.ARM_CNT_CAP, a),
      (.ARM_CNT2_DABCLIP, a)])) ∧
  (s.fabBus = true → s.inS4 = true → Sets .modUrst s [(.MOD_STAT_DISERR, 0, 1)]) ∧
  (s.fabBus = true → s.inS4 = false → Answers .modUrst s (fun t =>
    t.getF .MOD_CTRL_EN 0 = 0 ∧ t.getF .MOD_STAT_ENST 0 = 0 ∧
    (∀ b : Fin 6, t.arms[b] = { s.arms[b] with conv := none, queued := none, running := none, kept := none } ∧ t.getF .ARM_DEF_DEF b = 0 ∧
      t.getF .ARM_STAT_ENST b = b2n (s.bit .ARM_CFG_EN b)) ∧
    (∀ n : Fin 96, t.lanes[n] = { s.lanes[n] with level := 0, lastEdge := none, phil := 0 }) ∧
    t = { s with regs := t.regs, lanes := t.lanes, arms := t.arms } ∧
    RegsBut s t ([(.MOD_CTRL_EN, 0), (.MOD_STAT_ENST, 0)] ++ (List.range 6).map (fun b => (Fld.ARM_DEF_DEF, b)) ++
      (List.range 6).map (fun b => (Fld.ARM_STAT_ENST, b)))))

/-- R181, R182: the kept edges of a cell lie at least MINAU apart, and a fret keeps at most four. -/
def Obligations.EdgeSpacingAndLimit : Prop :=
  (∀ (minau f : Nat) (lastx : Option Int) (cs : List Edge), 1 ≤ minau →
    (filterEdges minau f lastx cs).kept.Pairwise (fun later earlier => earlier.x + minau ≤ later.x)) ∧
  (∀ (c : Conv) (p : Nat) (l : LaneSt) (ew1 : Word), (c.planCell p l ew1).edges.length ≤ 4 ∧
    ((c.planCell p l ew1).capped = true → (c.planCell p l ew1).edges.length = 4))

/-- R187 to R190: a queued sort enters the network; its ranking is a permutation of the positions with the valid ones in front in the order of their keys,
written with TAG, NVALID and NCELL into the result block, whose words take fresh check bits.  An item that completes after the unit's EN was cleared keeps
the OWNER and the address of that moment (R38). -/
def Claims.CellSort : Prop := ∀ (a : Fin 6) (s : State) (r : SortReq),
  let set := (s.arms[a]).kept.getD ⟨s.getF .ARM_CFG_OWNER a, s.getF .ARM_CBSRES_ADDR a, s.getF .MOD_DABLIM_SLEW 0, s.getF .MOD_DABLIM_PHIMAX 0⟩
  let base := ceData set.owner + set.addr * 64
  let others := ∃ b : Fin 6, (s.arms[b]).conv.isSome = true ∨ ((s.arms[b]).running.isSome = true ∧ b ≠ a)
  let key := fun (p : Nat) => (r.keys.getD p (0, 0)).2
  ((s.arms[a]).queued = some r → (s.arms[a]).running = none → s.getF .MOD_STAT_ENST 0 = 1 → s.fabRuns = true → Answers (.cbsSortStart a) s (fun t =>
    t = { s with arms := t.arms } ∧ t.arms[a] = { s.arms[a] with queued := none, running := some r } ∧ ∀ b : Fin 6, b ≠ a → t.arms[b] = s.arms[b])) ∧
  ((s.arms[a]).running = some r → s.fabRuns = true → Answers (.cbsSortDone a) s (fun t =>
    t = { s with regs := t.regs, arms := t.arms, mem := t.mem, eccBad := t.eccBad, eccSoft := t.eccSoft } ∧ RegsBut s t [(.MOD_STAT_ENST, 0)] ∧
    (others → t.getF .MOD_STAT_ENST 0 = s.getF .MOD_STAT_ENST 0) ∧
    (¬others → t.getF .MOD_STAT_ENST 0 = if s.getF .MOD_STAT_ENST 0 = 2 then 0 else s.getF .MOD_STAT_ENST 0) ∧
    (∀ i < 36, t.badWord (base + i) = false ∧ t.softWord (base + i) = false) ∧ t.arms[a] = { s.arms[a] with running := none, ranking := some r.rank } ∧
    (∀ b : Fin 6, b ≠ a → t.arms[b] = s.arms[b]) ∧ MemBut s t base 0x24 ∧
    (∀ i < 32, t.byte (base + i) = BitVec.ofNat 8 (r.rank.getD i 0xFF)) ∧
    t.word (base + 0x20) = BitVec.ofNat 32 (r.tag * 65536 + r.nvalid * 256 + r.ncell))) ∧
  ((∀ k ∈ r.keys, k.1 ≤ 2) → r.rank.Perm (List.range r.keys.length)) ∧
  (∀ i j, i < j → j < r.nvalid → (r.keys.getD (r.rank.getD i 0) (9, 0)).1 = 0 ∧
    (r.asc = true → key (r.rank.getD i 0) ≤ key (r.rank.getD j 0)) ∧ (r.asc = false → key (r.rank.getD j 0) ≤ key (r.rank.getD i 0)))

/-! The physical layer of the lanes. -/

/-- The fields of lane `n` that a change of LSTATE may write, with those of a requested CLEAR that ends by it. -/
def lstateFields (n : Fin 96) : List (Fld × Nat) :=
  [(.CL_PHYSTAT_LSTATE, n), (.CL_DELAY_VALID, n), (.CL_DELAY_DLY, n), (.CL_PHYSTAT_RXINVST, n), (.CLG_CTRL_CLRGO, 0), (.CLG_STAT_CLRDONE, 0)]

/-- Lane `n` enters the state `v`; one that leaves UP empties its delay set and drops a requested CLEAR (R238, R250), and a burst goes on (R272); nothing changes
but the lane and, beside `more`, its fields. -/
def EntersState (n : Fin 96) (v : Nat) (more : List (Fld × Nat)) (s t : State) : Prop :=
  t.lstate n = v ∧ (s.laneUp n = true → v ≠ 3 → t.bit .CL_DELAY_VALID n = false ∧ t.getF .CL_DELAY_DLY n = 0 ∧ (t.lanes[n]).dlyAcc = [] ∧
    (t.lanes[n]).clrPend = false) ∧ (t.lanes[n]).burst = (s.lanes[n]).burst ∧
  (∀ m : Fin 96, m ≠ n → t.lanes[m] = s.lanes[m]) ∧ t = { s with regs := t.regs, lanes := t.lanes } ∧ RegsBut s t (lstateFields n ++ more)

/-- Lane `n` starts training in state 1 with its counts at zero and the polarity that RXINV gives where RXPOLAUTO is off (R201, R202). -/
def Trains (n : Fin 96) (more : List (Fld × Nat)) (s t : State) : Prop :=
  EntersState n 1 more s t ∧
  t.getF .CL_PHYSTAT_RXINVST n % 2 = (if s.bit .CL_PHYCTRL_RXPOLAUTO n then s.getF .CL_PHYSTAT_RXINVST n else s.getF .CL_PHYCTRL_RXINV n) % 2 ∧
  (t.lanes[n]).good = 0 ∧ (t.lanes[n]).inverted = 0 ∧ (t.lanes[n]).tbGood = 0 ∧ (t.lanes[n]).tbSent = false ∧ (t.lanes[n]).trainAt = s.tick

/-- Lane `n` enters UP: adaptation writes PEAK, and in the MUTE state the lane is muted and sends a burst (R200, R271). -/
def GoesUp (n : Fin 96) (s t : State) : Prop :=
  t.lstate n = 3 ∧ (s.bit .CL_RXEQ_ADAPT n = false → t.getF .CL_RXEQ_PEAK n = s.getF .CL_RXEQ_PEAK n) ∧
  (s.mstate = true → t.bit .CL_STAT_MUTED n = true ∧ (t.lanes[n]).burst = some (burstAt (s.lanes[n]).burst s.tick (s.setTime n) (s.getF .TRIP_RMASK_RMASK 0))) ∧
  (s.mstate = false → t.getF .CL_STAT_MUTED n = s.getF .CL_STAT_MUTED n ∧ (t.lanes[n]).burst = (s.lanes[n]).burst) ∧
  (∀ m : Fin 96, m ≠ n → t.lanes[m] = s.lanes[m]) ∧ t = { s with regs := t.regs, lanes := t.lanes, free := t.free } ∧
  RegsBut s t [(.CL_PHYSTAT_LSTATE, n), (.CL_RXEQ_PEAK, n), (.CL_STAT_MUTED, n)]

/-- Nothing but lane `n`'s hidden state changes, which becomes `l`. -/
def LaneIs (n : Fin 96) (l : LaneSt) (s t : State) : Prop :=
  t = { s with lanes := t.lanes } ∧ t.lanes[n] = l ∧ ∀ m : Fin 96, m ≠ n → t.lanes[m] = s.lanes[m]

/-- R201, R202, R204: the sets that train a lane, character by character.  In state 1 eight consecutive good sets lead to state 2, an error starts again, and
with RXPOLAUTO the fourth inverted set turns the polarity; in state 2 eight TB sets received and sixteen sent lead to UP; in UP the second of two TA sets
is a link loss. -/
def Claims.LaneTraining : Prop := ∀ (n : Fin 96) (tb inverted : Bool) (first : Chr) (rest : List Chr) (errs : Nat) (s : State),
  let l := s.lanes[n]
  let inv := inverted ^^ s.bit .CL_PHYSTAT_RXINVST n
  let auto := s.bit .CL_PHYCTRL_RXPOLAUTO n
  let x : Chr := if tb then (if inverted then .d 26 5 else .d 5 2) else (if inverted then .d 21 5 else .d 10 2)
  let got := fun (e : Bool) => Instr.trainingSetReceived n (.k 28 5) (List.replicate 15 x) (if e then errs + 1 else 0)
  let l2 := { l with tbGood := if tb && !inv then l.tbGood + 1 else 0 }
  s.laneRuns n = true →
    (s.lstate n = 1 →
      Answers (got true) s (LaneIs n { l with good := 0, inverted := 0 } s) ∧
      (inv = false → l.good < 7 → Answers (got false) s (LaneIs n { l with good := l.good + 1, inverted := 0 } s)) ∧
      (inv = false → 7 ≤ l.good → Answers (got false) s (fun t => t.lstate n = 2 ∧
        t.lanes[n] = { l with good := 0, inverted := 0, tbGood := 0, tbSent := false } ∧ (∀ m : Fin 96, m ≠ n → t.lanes[m] = s.lanes[m]) ∧
        t = { s with regs := t.regs, lanes := t.lanes } ∧ RegsBut s t [(.CL_PHYSTAT_LSTATE, n)])) ∧
      (inv = true → (auto = false ∨ l.inverted < 3) → Answers (got false) s (LaneIs n { l with good := 0, inverted := l.inverted + 1 } s)) ∧
      (inv = true → auto = true → 3 ≤ l.inverted → Answers (got false) s (fun t => t.getF .CL_PHYSTAT_RXINVST n = (1 - s.getF .CL_PHYSTAT_RXINVST n) ∧
        t.lanes[n] = { l with good := 4, inverted := 0 } ∧ (∀ m : Fin 96, m ≠ n → t.lanes[m] = s.lanes[m]) ∧
        t = { s with regs := t.regs, lanes := t.lanes } ∧ RegsBut s t [(.CL_PHYSTAT_RXINVST, n)]))) ∧
    (s.lstate n = 2 →
      ((l2.tbGood < 8 ∨ l.tbSent = false) → Answers (got false) s (LaneIs n l2 s)) ∧
      (8 ≤ l2.tbGood → l.tbSent = true → Answers (got false) s (GoesUp n s)) ∧
      Answers (got true) s (LaneIs n { l with tbGood := 0 } s) ∧
      (l.tbGood < 8 → Answers (.tbSetsSent n) s (LaneIs n { l with tbSent := true } s)) ∧
      (8 ≤ l.tbGood → Answers (.tbSetsSent n) s (GoesUp n s))) ∧
    (setKind (first :: rest) = none → s.lstate n = 1 →
      Answers (.trainingSetReceived n first rest errs) s (LaneIs n { l with good := 0, inverted := 0 } s)) ∧
    (s.lstate n = 3 → tb = false → inv = false →
      (l.good = 0 → Answers (got false) s (LaneIs n { l with good := 1 } s)) ∧
      (l.good ≠ 0 → Answers (got false) s (fun t => Trains n [(.CL_PHYSTAT_LOSS, n), (.CL_LINKCNT_LOSSCNT, n)] s t ∧ t.bit .CL_PHYSTAT_LOSS n = true)))

/-- R196, R202 to R204, R209: what returns a lane to training, with its counts; one that has trained for TRNTO × 10 µs, a TRNTO of 0 acting as 1,
counts TRNFAIL and trains again (R203, Table 7-8). -/
def Claims.LaneRestarts : Prop := ∀ (n : Fin 96) (rate : Bool) (errs : Nat) (s : State),
  let count := fun (f : Fld) (k : Nat) => min (2 ^ f.width - 1) (s.getF f n + k)
  (s.laneBus n = true → s.lstate n ≠ 0 → s.lstate n ≠ 7 → Answers (.retrain n) s (Trains n [] s)) ∧
  (s.lstate n = 0 ∨ s.lstate n = 7 → Ignores (.retrain n) s) ∧
  (s.laneRuns n = true → s.lstate n = 3 → Answers (.linkLoss n errs) s (fun t =>
    Trains n [(.CL_PHYSTAT_LOSS, n), (.CL_LINKCNT_LOSSCNT, n), (.CL_LINKCNT_CODEERR, n)] s t ∧ t.bit .CL_PHYSTAT_LOSS n = true ∧
    t.getF .CL_LINKCNT_LOSSCNT n = count .CL_LINKCNT_LOSSCNT 1 ∧ t.getF .CL_LINKCNT_CODEERR n = count .CL_LINKCNT_CODEERR errs)) ∧
  (s.laneRuns n = true → s.lstate n = 1 ∨ s.lstate n = 2 → Answers (.trainingTimeout (.lane n)) s (fun t =>
    let due := (s.lanes[n]).trainAt + max 1 (s.getF .CL_PHYCTRL_TRNTO n) * 4000
    Trains n [(.CL_LINKCNT_TRNFAIL, n)] (s.passTo due) t ∧ t.tick = max s.tick due ∧ t.getF .CL_LINKCNT_TRNFAIL n = count .CL_LINKCNT_TRNFAIL 1)) ∧
  (s.laneRuns n = true → s.lstate n = 6 → Answers (.fastExitTimeout n) s (fun t =>
    Trains n [(.CL_LINKCNT_TRNFAIL, n)] s t ∧ t.getF .CL_LINKCNT_TRNFAIL n = count .CL_LINKCNT_TRNFAIL 1)) ∧
  (s.laneBus n = true →
    (rate = s.bit .CL_PHYCTRL_RATE n → Ignores (.rateWrite n rate) s) ∧
    (rate ≠ s.bit .CL_PHYCTRL_RATE n → s.inS4 = true → Sets (.rateWrite n rate) s [(.CL_PHYSTAT_RATEERR, n, 1)]) ∧
    (rate ≠ s.bit .CL_PHYCTRL_RATE n → s.inS4 = false → s.lstate n ≠ 0 → s.lstate n ≠ 7 →
      Answers (.rateWrite n rate) s (fun t => Trains n [(.CL_PHYCTRL_RATE, n)] s t ∧ t.bit .CL_PHYCTRL_RATE n = rate)))

/-- R208 to R210: electrical idle.  EIREQ takes a lane from UP to the state that sends the EIS, waits outside UP and sets EIERR in S4; the EIS sent,
after a frame or a burst in transmission (R272), leads to idle, one received takes a lane from UP to its own EIS and idles its receiver, which till then
goes on; the clear of EIREQ leads from idle to fast exit where FXEN is set and IDLEMAX has not
passed, and else to training, and one asked for while the EIS is sent follows it (log entry 45); an FXB in fast exit leads to UP. -/
def Obligations.ElectricalIdleEntryAndExit : Prop := ∀ (n : Fin 96) (s : State),
  let quick := s.bit .CL_PHYCTRL_FXEN n = true ∧ s.tick - (s.lanes[n]).idleAt ≤ s.getF .CL_PHYCTRL_IDLEMAX n * 4000
  (s.laneBus n = true →
    (s.inS4 = true → Sets (.eireqSet n) s [(.CL_PHYSTAT_EIERR, n, 1)]) ∧
    (s.inS4 = false → s.lstate n ≠ 3 → Sets (.eireqSet n) s [(.CL_PHYCTRL_EIREQ, n, 1)]) ∧
    (s.inS4 = false → s.lstate n = 3 → Answers (.eireqSet n) s (fun t =>
      EntersState n 4 [(.CL_PHYCTRL_EIREQ, n)] s t ∧ t.bit .CL_PHYCTRL_EIREQ n = true)) ∧
    (s.lstate n ≠ 4 → s.lstate n ≠ 5 → Sets (.eireqClear n) s [(.CL_PHYCTRL_EIREQ, n, 0)]) ∧
    (s.lstate n = 4 → Answers (.eireqClear n) s (fun t => t.bit .CL_PHYCTRL_EIREQ n = false ∧ RegsBut s t [(.CL_PHYCTRL_EIREQ, n)] ∧
      t = { s with regs := t.regs, lanes := t.lanes } ∧ t.lanes[n] = { s.lanes[n] with exitDue := true } ∧
      ∀ m : Fin 96, m ≠ n → t.lanes[m] = s.lanes[m])) ∧
    (s.lstate n = 5 → quick → Sets (.eireqClear n) s [(.CL_PHYCTRL_EIREQ, n, 0), (.CL_PHYSTAT_LSTATE, n, 6)]) ∧
    (s.lstate n = 5 → ¬quick → Answers (.eireqClear n) s (fun t => Trains n [(.CL_PHYCTRL_EIREQ, n)] s t ∧ t.bit .CL_PHYCTRL_EIREQ n = false))) ∧
  (s.laneRuns n = true → s.txBusy n = false → s.lstate n = 4 → s.inS4 = true ∨ (s.lanes[n]).exitDue = true → Answers (.eisSent n) s (fun t =>
    t.lstate n = (if s.bit .CL_PHYCTRL_FXEN n then 6 else 1) ∧ (∀ m : Fin 96, m ≠ n → t.lanes[m] = s.lanes[m]) ∧
    t = { s with regs := t.regs, lanes := t.lanes } ∧ RegsBut s t ((.CL_PHYCTRL_EIREQ, n.val) :: lstateFields n))) ∧
  (s.laneRuns n = true → s.txBusy n = false → s.lstate n = 4 → s.inS4 = false → (s.lanes[n]).exitDue = false → Answers (.eisSent n) s (fun t => t.lstate n = 5 ∧ t.lanes[n] = { s.lanes[n] with idleAt := s.tick } ∧
    (∀ m : Fin 96, m ≠ n → t.lanes[m] = s.lanes[m]) ∧ t = { s with regs := t.regs, lanes := t.lanes } ∧ RegsBut s t [(.CL_PHYSTAT_LSTATE, n)])) ∧
  (s.txBusy n = true → Ignores (.eisSent n) s) ∧
  (s.laneRuns n = true → s.lstate n = 3 → s.inS4 = false → Answers (.eisReceived n) s (fun t => EntersState n 4 [] s t ∧ t.rxLive n = false)) ∧
  (s.laneRuns n = true → s.lstate n ≠ 3 → s.inS4 = false → Answers (.eisReceived n) s (LaneIs n { s.lanes[n] with rxIdle := true } s)) ∧
  (s.inS4 = true ∨ s.laneRuns n = false → Ignores (.eisReceived n) s) ∧
  (s.laneRuns n = true → s.lstate n = 3 → s.inS4 = false → s.laneBus n = true → Answers (.eireqSet n) s (fun t => t.rxLive n = true)) ∧
  (s.laneRuns n = true → s.lstate n = 6 → Answers (.fxbReceived n) s (GoesUp n s))

/-- R199, R211 to R214: the equaliser and the test patterns of a SerDes.  PRE + POST above 32 is refused, a reserved pattern, or a generator or loopback of
a lane in S4 sets TESTERR; the generator or a loopback puts the SerDes into its test state.  The generator sends the PRBS or the user pattern; a checker
locks after 64 bits that follow the sequence, counts each mismatch from then on, and drops lock at 32 mismatches in 128 bits. -/
def Obligations.EqualiserAndPatterns : Prop := ∀ (x : Serdes) (w : Word) (bits : List Bool) (bit : Bool) (s : State),
  let f := serdesFlds x
  let v := w.toNat
  let pre := v / 8 % 16
  let post := v / 128 % 32
  let loop := v / 2 ^ 14 % 4
  let gen := v / 2 ^ 10 % 2
  let host := ∃ p, x = .host p
  let bad := 4 < v % 16 ∨ 4 < v / 16 % 16 ∨ loop = 3 ∨ (s.inS4 = true ∧ ¬host ∧ (gen = 1 ∨ loop ≠ 0))
  let fields : List (Fld × Nat) := [(f.loop, f.i), (f.chkinv, f.i), (f.geninv, f.i), (f.chken, f.i), (f.genen, f.i), (f.chksel, f.i), (f.gensel, f.i),
    (f.lock, f.i)]
  let p := s.pat x
  let user := s.userPattern x
  let b := bit ^^ s.bit f.chkinv f.i
  let sel := s.getF f.chksel f.i
  let gsel := s.getF f.gensel f.i
  let inv := s.bit f.geninv f.i
  let misses := fun (want : Bool) => ((((want != b) :: p.wrong).take 128).filter id).length
  let want := if sel = 4 then user.testBit (p.pos % 64) else p.hist.testBit ((prbsTaps sel).1 - 1) != p.hist.testBit ((prbsTaps sel).2 - 1)
  let counted := min (2 ^ f.errcnt.width - 1) (s.getF f.errcnt f.i + b2n (want != b))
  (s.serdesOk x = true →
    (pre + post ≤ 32 → Sets (.txeqWrite x w) s [(f.swing, f.i, v / 2 ^ 12 % 16), (f.post, f.i, post), (f.pre, f.i, pre)]) ∧
    (32 < pre + post →
      (∀ n, x = .lane n → Sets (.txeqWrite x w) s [(.CL_PHYSTAT_TXEQERR, n, 1)]) ∧
      (∀ m, x = .mirror m → Sets (.txeqWrite x w) s [(.ML_PHYSTAT_TXEQERR, m, 1)]) ∧
      (host → Ignores (.txeqWrite x w) s)) ∧
    (s.getF f.pre f.i + s.getF f.post f.i ≤ 32 → s.mainTap x + s.getF f.pre f.i + s.getF f.post f.i = 63) ∧
    (bad → Sets (.patternCtrlWrite x w) s [(f.testerr, f.i, 1)]) ∧
    (¬bad → Answers (.patternCtrlWrite x w) s (fun t =>
      t.getF f.gensel f.i = v % 16 ∧ t.getF f.chksel f.i = v / 16 % 16 ∧ t.getF f.genen f.i = gen ∧ t.getF f.chken f.i = v / 2 ^ 11 % 2 ∧
      t.getF f.geninv f.i = v / 2 ^ 12 % 2 ∧ t.getF f.chkinv f.i = v / 2 ^ 13 % 2 ∧ t.getF f.loop f.i = loop ∧
      t.getF f.lock f.i = (if v / 2 ^ 11 % 2 = 0 ∨ v / 16 % 16 ≠ sel then 0 else s.getF f.lock f.i) ∧
      (gen = 1 ∨ loop ≠ 0 →
        (∀ n, x = .lane n → EntersState n 7 fields { s with free := t.free } t) ∧
        (∀ m, x = .mirror m → t.getF .ML_PHYSTAT_LSTATE m = 7) ∧
        (∀ p, x = .host p → t.getF .HP_STAT_PSTATE p = (if s.getF .HP_STAT_ENST p = 0 then s.getF .HP_STAT_PSTATE p else 4) ∧
          t = { s with regs := t.regs, free := t.free, hp := t.hp } ∧ RegsBut s t (fields ++ [(.HP_STAT_PSTATE, p.val)]))) ∧
      (gen = 0 → loop = 0 → ∀ n, x = .lane n → s.lstate n = 7 → Trains n fields s t)))) ∧
  (s.serdesRuns x = true →
    (s.bit f.genen f.i = false → s.getF f.loop f.i = 0 →
      Answers (.checkerLock ⟨x, bits⟩) s (fun t => t = bits.foldl (fun u b => u.checkBit x b) s) ∧
      Answers (.checkerLostLock x bits) s (fun t => t = bits.foldl (fun u b => u.checkBit x b) s) ∧
      (s.bit f.chken f.i = false → Ignores (.checkerLock ⟨x, bits⟩) s) ∧
      (s.bit f.chken f.i = true → s.bit f.lock f.i = false → sel < 4 → (prbsTaps sel).1 ≤ p.got → 63 ≤ p.run → want = b →
        Answers (.checkerLock ⟨x, [bit]⟩) s (fun t => t.bit f.lock f.i = true ∧ t.getF f.errcnt f.i = s.getF f.errcnt f.i)) ∧
      (s.bit f.chken f.i = true → s.bit f.lock f.i = true → misses want < 32 → Answers (.checkerLock ⟨x, [bit]⟩) s (fun t =>
        t.bit f.lock f.i = true ∧ t.getF f.errcnt f.i = counted)) ∧
      (s.bit f.chken f.i = true → s.bit f.lock f.i = true → 32 ≤ misses want → Answers (.checkerLostLock x [bit]) s (fun t =>
        t.bit f.lock f.i = false ∧ t.bit f.lostlk f.i = true ∧ t.getF f.errcnt f.i = counted ∧ (t.pat x).got = 0))) ∧
    (s.bit f.genen f.i = true → s.bit f.chken f.i = false → s.getF f.loop f.i ≠ 2 → Answers (.checkerLock ⟨x, bits⟩) s (fun t =>
      let tx := (t.pat x).tx
      tx.length = bits.length ∧
      (gsel = 4 → ∀ i < bits.length, tx.getD i false = (user.testBit ((p.genPos + i) % 64) != inv)) ∧
      (gsel < 4 → ∀ i < bits.length, (prbsTaps gsel).1 ≤ i →
        tx.getD i false = ((tx.getD (i - (prbsTaps gsel).1) false != tx.getD (i - (prbsTaps gsel).2) false) != inv)))) ∧
    (s.getF f.loop f.i = 2 → s.bit f.chken f.i = false → Answers (.checkerLock ⟨x, bits⟩) s (fun t => (t.pat x).tx = bits)))

/-- The mirror group's fields that a change of its link may write. -/
def mirrorFields : List (Fld × Nat) :=
  (List.range 4).map (fun m => (Fld.ML_PHYSTAT_LSTATE, m)) ++ (List.range 4).map (fun m => (Fld.ML_PHYSTAT_RXINVST, m)) ++ [(.MIR_LANEMAP_UP, 0), (.MIR_STAT_MIRUP, 0), (.MIR_DELAY_VALID, 0), (.MIR_DELAY_DLY, 0),
    (.MIR_CTRL_HANDOVER, 0), (.MIR_STAT_HOERR, 0)]

/-- The mirror group is in training with its counts at zero; a lane in its test state stays there (R206, R207, R213). -/
def MirrorTrains (more : List (Fld × Nat)) (s t : State) : Prop :=
  t.bit .MIR_STAT_MIRUP 0 = false ∧ t.getF .MIR_LANEMAP_UP 0 = 0 ∧ t.mlOrdered = false ∧ (∀ m : Fin 4, t.ml[m] = { pat := (s.ml[m]).pat, trainAt := s.tick }) ∧
  (∀ m : Fin 4, s.bit .ML_PHYCTRL_RXPOLAUTO m = false → t.getF .ML_PHYSTAT_RXINVST m % 2 = s.getF .ML_PHYCTRL_RXINV m % 2) ∧
  (∀ m : Fin 4, s.testing (.mirror m) = false → t.getF .ML_PHYSTAT_LSTATE m = 1) ∧
  t = { s with regs := t.regs, ml := t.ml, mlOrdered := t.mlOrdered, twin := t.twin } ∧ RegsBut s t (mirrorFields ++ more)

/-- R206, R207, R218, R413: the training of the mirror lane group, its entry into UP, with which a paired device sends its SIDE, and its loss; an invalid sync
header in UP is counted, and the fourth within 256 blocks is a loss.  A group in training for TRNTO × 10 µs counts TRNFAIL on the lanes that train and
trains again (that the first lane's TRNTO ends the attempt is log entry 45's choice). -/
def Obligations.MirrorLinkTraining : Prop := ∀ (m : Fin 4) (inv : Bool) (num : Fin 4) (s : State),
  let x := s.ml[m]
  let one := fun (y : MlSt) (t : State) => t = { s with ml := t.ml } ∧ t.ml[m] = y ∧ ∀ k : Fin 4, k ≠ m → t.ml[k] = s.ml[k]
  let seen := inv ^^ s.bit .ML_PHYSTAT_RXINVST m
  let good := (if x.num = num.val then x.good else 0) + 1
  (s.serdesRuns (.mirror m) = true → s.getF .ML_PHYSTAT_LSTATE m = 1 → s.mlOrdered = false →
    Answers (.mirrorTrainingBlockReceived m .lock) s (one { x with locked := true }) ∧
    Answers (.mirrorTrainingBlockReceived m .bad) s (one { x with good := 0, inverted := 0 }) ∧
    (x.locked = true → seen = false → ((good < 16) ∨ ∃ k : Fin 4, k ≠ m ∧ ((s.ml[k]).good < 16 ∨ s.getF .ML_PHYSTAT_LSTATE k ≠ 1)) →
      Answers (.mirrorTrainingBlockReceived m (.training inv num)) s (one { x with good := good, inverted := 0, num := num })) ∧
    (x.locked = true → seen = false → 16 ≤ good → num = m → (∀ k : Fin 4, k ≠ m → 16 ≤ (s.ml[k]).good ∧ (s.ml[k]).num = k.val ∧
        s.getF .ML_PHYSTAT_LSTATE k = 1) →
      Answers (.mirrorTrainingBlockReceived m (.training inv num)) s (fun t => t.mlOrdered = true ∧ t.getF .MIR_LANEMAP_REVERSED 0 = 0 ∧
        t = { s with regs := t.regs, ml := t.ml, mlOrdered := true } ∧ RegsBut s t [(.MIR_LANEMAP_REVERSED, 0)])) ∧
    (x.locked = true → seen = true → (s.bit .ML_PHYCTRL_RXPOLAUTO m = false ∨ x.inverted < 15) →
      Answers (.mirrorTrainingBlockReceived m (.training inv num)) s (one { x with good := 0, inverted := x.inverted + 1 })) ∧
    (x.locked = true → seen = true → s.bit .ML_PHYCTRL_RXPOLAUTO m = true → 15 ≤ x.inverted →
      Answers (.mirrorTrainingBlockReceived m (.training inv num)) s (fun t =>
        one { x with good := 0, inverted := 0, num := num } { t with regs := s.regs } ∧
        t.getF .ML_PHYSTAT_RXINVST m = (1 - s.getF .ML_PHYSTAT_RXINVST m) ∧ RegsBut s t [(.ML_PHYSTAT_RXINVST, m)]))) ∧
  (s.serdesRuns (.mirror m) = true → s.getF .ML_PHYSTAT_LSTATE m = 3 → (∀ a b c, x.errAt = a :: b :: c :: [] → 255 * 256 < (s.tick - c) * 100) → x.errAt.length ≤ 3 →
    Answers (.mirrorTrainingBlockReceived m .badHeader) s (fun t =>
      one { x with errAt := s.tick :: x.errAt } { t with regs := s.regs } ∧ RegsBut s t [(.ML_LINKCNT_CODEERR, m)] ∧
      t.getF .ML_LINKCNT_CODEERR m = min (2 ^ Fld.ML_LINKCNT_CODEERR.width - 1) (s.getF .ML_LINKCNT_CODEERR m + 1))) ∧
  (s.serdesRuns (.mirror m) = true → s.getF .ML_PHYSTAT_LSTATE m = 3 → 3 ≤ x.errAt.length → (∀ a ∈ x.errAt.take 3, (s.tick - a) * 100 ≤ 255 * 256) →
    Answers (.mirrorTrainingBlockReceived m .badHeader) s (fun t => t.bit .ML_PHYSTAT_LOSS m = true ∧ t.getF .MIR_LANEMAP_UP 0 = 0 ∧
      t.getF .ML_LINKCNT_LOSSCNT m = min (2 ^ Fld.ML_LINKCNT_LOSSCNT.width - 1) (s.getF .ML_LINKCNT_LOSSCNT m + 1))) ∧
  (s.mirRuns = true → s.mlOrdered = true → s.mirUp = false → Answers .mirrorGroupUp s (fun t => t.mirUp = true ∧ t.getF .MIR_LANEMAP_UP 0 = 15 ∧
    (∀ k : Fin 4, s.testing (.mirror k) = false → t.getF .ML_PHYSTAT_LSTATE k = 3) ∧ t = { s with
      regs := t.regs, free := t.free,
      jnl := { s.jnl with mirror := s.jnl.mirror ++ if s.bit .MIR_CFG_PAIR 0 then [.side (s.bit .MIR_CFG_SIDE 0)] else [] } } ∧
    RegsBut s t (mirrorFields ++ (List.range 4).map (fun k => (Fld.ML_RXEQ_PEAK, k))))) ∧
  (s.mirRuns = true → s.mirUp = true → Answers (.mirrorLinkLoss m) s (fun t => MirrorTrains [(.ML_PHYSTAT_LOSS, m), (.ML_LINKCNT_LOSSCNT, m)] s t ∧
    t.bit .ML_PHYSTAT_LOSS m = true ∧ t.getF .ML_LINKCNT_LOSSCNT m = min (2 ^ Fld.ML_LINKCNT_LOSSCNT.width - 1) (s.getF .ML_LINKCNT_LOSSCNT m + 1))) ∧
  (s.mirRuns = true → s.powered domMir = true → ∀ due, s.mirTrainEnd = some due → Answers (.trainingTimeout .mirror) s (fun t =>
    MirrorTrains ((List.range 4).map (fun k => (Fld.ML_LINKCNT_TRNFAIL, k))) (s.passTo due) t ∧ t.tick = max s.tick due ∧
    ∀ k : Fin 4, t.getF .ML_LINKCNT_TRNFAIL k = if s.getF .ML_PHYSTAT_LSTATE k = 1 then
      min (2 ^ Fld.ML_LINKCNT_TRNFAIL.width - 1) (s.getF .ML_LINKCNT_TRNFAIL k + 1) else s.getF .ML_LINKCNT_TRNFAIL k)) ∧
  (∀ due, s.mirTrainEnd = some due → ∃ k : Fin 4, s.getF .ML_PHYSTAT_LSTATE k = 1 ∧
    due = (s.ml[k]).trainAt + max 1 (s.getF .ML_PHYCTRL_TRNTO k) * 4000)

/-! The cell links. -/

/-- The event comes at offset `o` of the fret: the state in which the angle has reached it (R45, R71). -/
def atOffset (s : State) (o : Nat) : State := s.raiseAngle o

/-- Lane `n` sends these frames back to back from the present FAB cycle; no other lane changes, and of the registers only those listed. -/
def Sends (n : Fin 96) (fs : List (List Byte)) (l : List (Fld × Nat)) (r t : State) : Prop :=
  (t.lanes[n]).lastTx = fs ∧ (t.lanes[n]).txCut = false ∧ (t.lanes[n]).txEnd = r.tick + fs.length * r.frameTicks n ∧
  (∀ m : Fin 96, m ≠ n → t.lanes[m] = r.lanes[m]) ∧ t = { r with lanes := t.lanes, regs := t.regs, free := t.free } ∧ RegsBut r t l

/-- R220 to R222 (Tables 8-1, 8-2): a frame has 63 data bytes with TYPE, EPOCH, FRET, CELLID, the body and a CRC-32C over them, and passes the receiver's
check. -/
def Claims.FrameFormat : Prop := ∀ (ty epoch fret cell : Nat) (body : List Byte),
  let f := mkFrame ty epoch fret cell body
  ty < 256 → epoch < 65536 → fret < 2 ^ 32 → cell < 65536 → body.length ≤ 50 →
    f.length = 63 ∧ frameField f 1 1 = ty ∧ frameField f 2 2 = epoch ∧ frameField f 4 4 = fret ∧ frameField f 8 2 = cell ∧
    (f.drop 9).take body.length = body ∧ crc32c (f.take 59) = frameField f 60 4

/-- R223, R227, R228, R234, R238, R248, R250: TIMEBASE, a CLEAR behind it, and DELAY_REQ, with a launch latency of 18 to 24.5 ns from the ideal
time of the slot; a muted lane sends its burst first, and a launch that falls into a burst waits for the end of its last set; a CLEAR
whose TIMEBASE a burst cut follows the burst. -/
def Claims.LinkLaunches : Prop := ∀ (n : Fin 96) (s : State),
  let r := atOffset s (s.slot n 0)
  let d := atOffset s (s.slot n 1)
  let l := s.lanes[n]
  let clr : List (Fld × Nat) := [(.CLG_CTRL_CLRGO, 0), (.CLG_STAT_CLRDONE, 0)]
  let tb := fun (u : State) (late lat : Nat) => u.frame n 1 (u.timebaseBody n (u.sinceBoundary - late + lat))
  let lateTb := r.sinceOffset (s.slot n 0)
  let lateDly := d.sinceOffset (s.slot n 1)
  let soon := fun (lat : Nat) => 288 ≤ lat ∧ lat ≤ 392
  (s.serving n = true → s.atuRuns = true →
    (s.bit .CL_STAT_MUTED n = true → Answers (.timebaseLaunch n) s (fun t => t = { r with lanes := t.lanes } ∧
      (t.lanes[n]).burst = some (burstAt l.burst r.tick (s.setTime n) (s.getF .TRIP_RMASK_RMASK 0)) ∧ (t.lanes[n]).heldTb = true ∧ ∀ m : Fin 96, m ≠ n → t.lanes[m] = s.lanes[m])) ∧
    (s.bit .CL_STAT_MUTED n = false → l.burst.isSome = true → Answers (.timebaseLaunch n) s (LaneIs n { l with heldTb := true } r)) ∧
    (s.bit .CL_STAT_MUTED n = false → l.burst = none → l.clrPend = false → l.heldClr = false → Answers (.timebaseLaunch n) s (fun t =>
      ∃ lat, soon lat ∧ Sends n [tb r lateTb lat] clr r t)) ∧
    (s.bit .CL_STAT_MUTED n = false → l.burst = none → (l.clrPend = true ∨ l.heldClr = true) → Answers (.timebaseLaunch n) s (fun t =>
      (∃ lat, soon lat ∧ Sends n [tb r lateTb lat, r.frame n 5 r.clearBody] clr r t) ∧ (t.lanes[n]).clrPend = false ∧
      (t.lanes[n]).heldClr = false)) ∧
    (s.bit .CL_CTRL_DLYEN n = true → s.fretnum % 2 ^ s.getF .CL_CTRL_DLYPER n = 0 → l.burst.isSome = true →
      Answers (.delayReqLaunch n) s (LaneIs n { l with heldDly := true } d)) ∧
    (s.bit .CL_CTRL_DLYEN n = true → s.fretnum % 2 ^ s.getF .CL_CTRL_DLYPER n = 0 → l.burst = none → Answers (.delayReqLaunch n) s (fun t =>
      Sends n [d.frame n 6 [0#8, l.dseq + 1#8]] [] d t ∧ (t.lanes[n]).dseq = l.dseq + 1#8 ∧ (t.lanes[n]).dlyWait = true ∧
      ∃ lat, soon lat ∧ (t.lanes[n]).dlyT1 = d.tick * 40 - lateDly + lat))) ∧
  (∀ b, l.burst = some b → s.laneRuns n = true → let e := s.passTo (b.endTick (s.setTime n))
    (l.heldTb = false → l.heldDly = false → l.heldClr = false →
      Answers (.muteBurstComplete n) s (LaneIs n { l with burst := none, heldTb := false, heldDly := false } e)) ∧
    (l.heldTb = true → l.heldDly = false → l.clrPend = false → l.heldClr = false → s.serving n = true → Answers (.muteBurstComplete n) s (fun t =>
      (t.lanes[n]).burst = none ∧ ∃ lat, soon lat ∧ Sends n [tb e 0 lat] clr e t)) ∧
    (l.heldTb = false → l.heldDly = false → l.heldClr = true → s.serving n = true → Answers (.muteBurstComplete n) s (fun t =>
      (t.lanes[n]).burst = none ∧ (t.lanes[n]).heldClr = false ∧ Sends n [e.frame n 5 e.clearBody] clr e t)))

/-- R32, R126, R174, R224, R241, R256, R275, R412: at the CMD slot of an enabled lane a conversion of its arm that still runs sets LATECONV, a lane without
an owner counts MISSCMD and sets OWNERR, and a released COMMAND carries the edge records and the launch copy of EW0 to EW5; one that cannot be sent
counts MISSCMD.  Without an ACK, or with a STATUS that asks for it, it is sent once more; a fret that ends without an ACK counts NOACK. -/
def Obligations.CommandAndRetry : Prop := ∀ (n : Fin 96) (s : State),
  let r := atOffset s (s.slot n 2)
  let l := s.lanes[n]
  let free := s.bit .CL_STAT_MUTED n = false ∧ s.mstate = false
  let count := fun (f : Fld) => min (2 ^ f.width - 1) (s.getF f n + 1)
  let lc : List (Fld × Nat) := (List.range 6).map (fun a => (Fld.ARM_STAT_LATECONV, a))
  let cleared := fun (t : State) => t = { r with regs := t.regs, lanes := t.lanes } ∧ t.lanes[n] = { l with cmdFret := none } ∧
    ∀ m : Fin 96, m ≠ n → t.lanes[m] = s.lanes[m]
  let missed := fun (t : State) => cleared t ∧ t.getF .CL_FCNT0_MISSCMD n = count .CL_FCNT0_MISSCMD
  let sent := l.cmdFret = some (BitVec.ofNat 32 s.fretnum)
  let q := atOffset s l.retryOff
  let a := q.ackInTime n l.retryOff
  (s.laneOn n = true → s.atuRuns = true →
    Answers (.commandLaunch n) s (fun t => ∀ k : Fin 6, t.bit .ARM_STAT_LATECONV k =
      (s.bit .ARM_STAT_LATECONV k || ((s.governors n).contains k.val && (s.arms[k]).conv.isSome))) ∧
    (s.ownerOk n = false → Answers (.commandLaunch n) s (fun t => missed t ∧ t.bit .CL_STAT_OWNERR n = true ∧
      RegsBut s t (lc ++ [(.CL_FCNT0_MISSCMD, n.val), (.CL_STAT_OWNERR, n.val)]))) ∧
    (s.ownerOk n = true → (s.serving n = false ∨ s.commanding = false) → Answers (.commandLaunch n) s (fun t => cleared t ∧ RegsBut s t lc)) ∧
    (s.ownerOk n = true → s.serving n = true → s.commanding = true →
      (¬free ∨ l.released ≠ some (BitVec.ofNat 32 s.fretnum) ∨ r.commandEdges n = none) → Answers (.commandLaunch n) s (fun t =>
        missed t ∧ RegsBut s t (lc ++ [(.CL_FCNT0_MISSCMD, n.val)]))) ∧
    (∀ es, s.ownerOk n = true → s.serving n = true → s.commanding = true → free → l.released = some (BitVec.ofNat 32 s.fretnum) →
      r.commandEdges n = some es → Answers (.commandLaunch n) s (fun t => Sends n [r.frame n 2 (commandBody false es l.launch.toList)] lc r t ∧
        (t.lanes[n]).cmdFret = some (BitVec.ofNat 32 s.fretnum) ∧ (t.lanes[n]).cmdFrame = r.frame n 2 (commandBody false es l.launch.toList) ∧
        (t.lanes[n]).retryOff = s.slot n 4))) ∧
  (s.serving n = true → s.atuRuns = true → sent →
    (s.commanding = true → free → s.bit .CL_CTRL_RETRYEN n = true → (a = none ∨ a = some 1 ∨ a = some 2) →
      (q.retryLate n l.retryOff = false → Answers (.retryLaunch n) s (fun t => Sends n [retryFrame l.cmdFrame] [(.CL_FCNT0_RETRY, n)] q t ∧
        (t.lanes[n]).cmdFret = none ∧ t.getF .CL_FCNT0_RETRY n = count .CL_FCNT0_RETRY)) ∧
      (q.retryLate n l.retryOff = true → SetsOn (.retryLaunch n) s q [(.CL_FCNT0_RETRYLATE, n, count .CL_FCNT0_RETRYLATE)])) ∧
    (∀ st, a = some st → st ≠ 1 → st ≠ 2 → Answers (.retryLaunch n) s (fun t => t = q)) ∧
    (s.bit .CL_CTRL_RETRYEN n = false → Answers (.retryLaunch n) s (fun t => t = q))) ∧
  (s.atuRuns = true → Answers .fretBoundary s (fun t => t.getF .CL_FCNT0_NOACK n =
    if s.serving n = true ∧ l.ack.map Prod.fst ≠ some s.fretnum then count .CL_FCNT0_NOACK else s.getF .CL_FCNT0_NOACK n))

/-- A frame that a lane receives without an error, in UP or, before EIS or 1 µs after its own, on the way to electrical idle (R208), with the type `ty` and the lane's CELLID (R220, R222). -/
def GoodFrame (s : State) (n : Fin 96) (ty : Nat) (f : RxFrame) : Prop :=
  s.rxLive n = true ∧ f.kchar = false ∧ f.errs = 0 ∧ f.bytes.length = 63 ∧ crc32c (f.bytes.take 59) = frameField f.bytes 60 4 ∧
  frameField f.bytes 1 1 = ty ∧ frameField f.bytes 8 2 = s.getF .CL_CFG_CELLID n

/-- What every good frame leaves as it was: the other lanes and, but for its epoch's flags and `l`, every register (R252, R425). -/
def RxFrameOf (n : Fin 96) (l : List (Fld × Nat)) (s t : State) : Prop :=
  (∀ m : Fin 96, m ≠ n → t.lanes[m] = s.lanes[m]) ∧ t.twin.cellFrame = true ∧ t.pending = s.pending ∧ t.jnl = s.jnl ∧ t.ce = s.ce ∧ t.arms = s.arms ∧
  RegsBut s t (([(.CL_STAT_EPOCHHI, n.val), (.MIR_STAT_FOREIGN, 0), (.TRIP_LAT2_TWIN, 0), (.CL_LINKCNT_CODEERR, n.val)] : List (Fld × Nat)) ++ l)

/-- R204, R220, R225, R226, R252, R256: a good ACK is held with its STATUS, a good TELEMETRY fills the buffer that flips at the next boundary, a late one is counted, and a
frame with an error is counted by its kind; a higher epoch sets EPOCHHI. -/
def Claims.LinkReceives : Prop := ∀ (n : Fin 96) (f : RxFrame) (s : State),
  let b := f.bytes
  let count := fun (g : Fld) => min (2 ^ g.width - 1) (s.getF g n + 1)
  (GoodFrame s n 3 f → Answers (.ackReceived n f) s (fun t => RxFrameOf n [] s t ∧ SameMem s t ∧
    t.lanes[n] = { s.lanes[n] with good := 0, ack := some (frameField b 4 4, frameField b 11 1, s.inFret) } ∧
    (epochHigher (frameField b 2 2) (s.getF .CLG_EPOCH_EPOCH 0) = true → t.bit .CL_STAT_EPOCHHI n = true))) ∧
  (GoodFrame s n 4 f → serialLater s.fretnum (frameField b 4 4) = false → Answers (.telemetryReceived n f) s (fun t => RxFrameOf n [] s t ∧ SameMem s t ∧
    (t.lanes[n]).rx = (s.lanes[n]).rx ∧ (t.lanes[n]).fill.state = 1 ∧ (t.lanes[n]).fill.tfret = BitVec.ofNat 32 (frameField b 4 4) ∧
    ∀ k : Fin 12, (t.lanes[n]).fill.tw[k] = BitVec.ofNat 32 (frameField b (12 + 4 * k) 4))) ∧
  (GoodFrame s n 4 f → serialLater s.fretnum (frameField b 4 4) = true → Answers (.telemetryReceived n f) s (fun t =>
    RxFrameOf n [(.CL_FCNT1_LATE, n)] s t ∧ (t.lanes[n]).fill = (s.lanes[n]).fill ∧ t.getF .CL_FCNT1_LATE n = count .CL_FCNT1_LATE)) ∧
  (s.laneRuns n = true → s.lstate n = 3 → (f.kchar = true ∨ f.errs ≠ 0 ∨ b.length ≠ 63 ∨ crc32c (b.take 59) ≠ frameField b 60 4) →
    ((s.lanes[n]).errAt.length + f.errs < 4 → Answers (.telemetryReceived n f) s (fun t =>
      (t.lanes[n]).fill = { state := 2 } ∧ (t.lanes[n]).rx = (s.lanes[n]).rx ∧ t.getF .CL_FCNT1_RXERR n = count .CL_FCNT1_RXERR ∧
      t.getF .CL_LINKCNT_CODEERR n = (if f.errs = 0 then s.getF .CL_LINKCNT_CODEERR n
        else min (2 ^ Fld.CL_LINKCNT_CODEERR.width - 1) (s.getF .CL_LINKCNT_CODEERR n + f.errs)) ∧
      t = { s with regs := t.regs, lanes := t.lanes } ∧ RegsBut s t [(.CL_FCNT1_RXERR, n), (.CL_LINKCNT_CODEERR, n)])) ∧
    (4 ≤ f.errs → Answers (.telemetryReceived n f) s (fun t => t.getF .CL_FCNT1_RXERR n = count .CL_FCNT1_RXERR ∧
      t.getF .CL_LINKCNT_LOSSCNT n = count .CL_LINKCNT_LOSSCNT ∧ t.bit .CL_PHYSTAT_LOSS n = true ∧
      Trains n [(.CL_FCNT1_RXERR, n), (.CL_LINKCNT_CODEERR, n), (.CL_PHYSTAT_LOSS, n), (.CL_LINKCNT_LOSSCNT, n)] s t))) ∧
  (∀ g : RxFrame, g.bytes = b → GoodFrame s n (frameField b 1 1) g → frameField b 1 1 ≠ 3 → Answers (.ackReceived n g) s (fun t =>
    (t.lanes[n]).ack = (s.lanes[n]).ack ∧ t.getF .CL_FCNT1_TYPEERR n = count .CL_FCNT1_TYPEERR ∧
    t.getF .CL_FCNT1_RXERR n = count .CL_FCNT1_RXERR ∧ RegsBut s t [(.CL_FCNT1_TYPEERR, n), (.CL_FCNT1_RXERR, n)])) ∧
  (s.laneRuns n = true → s.lstate n = 3 → f.kchar = false → f.errs = 0 → b.length = 63 → crc32c (b.take 59) = frameField b 60 4 → frameField b 1 1 = 4 →
    frameField b 8 2 ≠ s.getF .CL_CFG_CELLID n → Answers (.telemetryReceived n f) s (fun t => (t.lanes[n]).fill = { state := 3 } ∧
      t.getF .CL_FCNT1_IDERR n = count .CL_FCNT1_IDERR ∧ t.getF .CL_FCNT1_RXERR n = count .CL_FCNT1_RXERR ∧
      RegsBut s t [(.CL_FCNT1_IDERR, n), (.CL_FCNT1_RXERR, n)]))

/-- R238: a response with the DSEQ of the request before the ACK slot gives a round trip; the eighth makes the delay valid, half their mean; a missing
response voids the measurement. -/
def Claims.DelayMeasurement : Prop := ∀ (n : Fin 96) (f : RxFrame) (t4 : Nat) (s : State),
  let l := s.lanes[n]
  let rt := t4 - l.dlyT1 - frameField f.bytes 12 4
  let ok := GoodFrame s n 7 f ∧ l.dlyWait = true ∧ frameField f.bytes 11 1 = l.dseq.toNat ∧ s.offReached (s.slot n 3) = false
  let sum := rt + (l.dlyAcc.take 7).sum
  (ok → s.bit .CL_DELAY_VALID n = false → l.dlyAcc.length < 7 → Answers (.delayRespReceived n f t4) s (fun t =>
    RxFrameOf n [] s t ∧ (t.lanes[n]).dlyAcc = rt :: l.dlyAcc ∧ (t.lanes[n]).dlyWait = false ∧ t.bit .CL_DELAY_VALID n = false)) ∧
  (ok → s.bit .CL_DELAY_VALID n = false → 7 ≤ l.dlyAcc.length → sum < 2 ^ 20 → Answers (.delayRespReceived n f t4) s (fun t =>
    RxFrameOf n [(.CL_DELAY_VALID, n), (.CL_DELAY_DLY, n), (.CL_STAT_DLYOVR, n)] s t ∧ t.bit .CL_DELAY_VALID n = true ∧
    sum / 16 ≤ t.getF .CL_DELAY_DLY n ∧ t.getF .CL_DELAY_DLY n ≤ (sum + 15) / 16 ∧
    (s.getF .CLG_DMAX_DMAX 0 * 256 < sum → t.bit .CL_STAT_DLYOVR n = true))) ∧
  (l.dlyWait = true → s.atuRuns = true → s.laneRuns n = true →
    Answers (.delayRespTimeout n) s (LaneIs n { l with dlyWait := false, dlyOut := [] } (atOffset s (s.slot n 3))))

/-- R229, R234: bulk entries queue in the order of their TXGO, leave with CHAN, SEQ and 48 bytes in a gap that ends at least 16 ns
before the next launch, and arrive in the lowest free receive
entry or are dropped and counted; RXFREE frees an entry. -/
def Claims.BulkFrames : Prop := ∀ (n : Fin 96) (e : Fin 4) (f : RxFrame) (s : State),
  let l := s.lanes[n]
  let w := 2 ^ e.val
  (s.laneBus n = true →
    (s.testF .CL_BSTAT_TXBUSY n e = true → Ignores (.bulkTxGo n e) s) ∧
    (s.testF .CL_BSTAT_TXBUSY n e = false → Answers (.bulkTxGo n e) s (fun t => (t.lanes[n]).bulkQ = l.bulkQ ++ [e] ∧
      t.testF .CL_BSTAT_TXBUSY n e = true ∧ t.testF .CL_BCTRL_TXGO n e = true ∧ (∀ m : Fin 96, m ≠ n → t.lanes[m] = s.lanes[m]) ∧
      t = { s with regs := t.regs, lanes := t.lanes } ∧ RegsBut s t [(.CL_BSTAT_TXBUSY, n), (.CL_BCTRL_TXGO, n)])) ∧
    (s.testF .CL_BSTAT_RXVALID n e = true → Sets (.bulkRxFree n e) s
      [(.CL_BSTAT_RXVALID, n, (s.getF .CL_BSTAT_RXVALID n - w) % 2 ^ Fld.CL_BSTAT_RXVALID.width)]) ∧
    (s.testF .CL_BSTAT_RXVALID n e = false → Ignores (.bulkRxFree n e) s)) ∧
  ((s.txBusy n = true ∨ s.gapOk n = false) → Ignores (.bulkTxSend n) s) ∧
  (∀ rest, l.bulkQ = e :: rest → s.serving n = true → s.txBusy n = false → s.gapOk n = true → Answers (.bulkTxSend n) s (fun t =>
    let chan := s.getF .CL_BCTRL_TXCHAN n / 2 ^ (4 * e.val) % 16
    Sends n [s.frame n 8 ([BitVec.ofNat 8 chan, l.bulkSeq] ++ s.readList (bulkTxBase n e) 48)] [(.CL_BSTAT_TXBUSY, n), (.CL_BCTRL_TXGO, n)] s t ∧
    (t.lanes[n]).bulkQ = rest ∧ (t.lanes[n]).bulkSeq = l.bulkSeq + 1#8 ∧
    (s.getF .CL_BSTAT_TXBUSY n < 16 → t.testF .CL_BSTAT_TXBUSY n e = false))) ∧
  (GoodFrame s n 8 f → s.testF .CL_BSTAT_RXVALID n e = false → (∀ k : Fin 4, k < e → s.testF .CL_BSTAT_RXVALID n k = true) →
    Answers (.bulkReceived n f) s (fun t => t.readList (bulkRxBase n e) 48 = (f.bytes.drop 11).take 48 ∧ t.testF .CL_BSTAT_RXVALID n e = true ∧
      MemBut s t (bulkRxBase n e) 48 ∧
      RxFrameOf n [(.CL_BSTAT_RXVALID, n), (.CL_BRXHDR_CHAN0, n * 2 + e / 2), (.CL_BRXHDR_SEQ0, n * 2 + e / 2), (.CL_BRXHDR_CHAN1, n * 2 + e / 2),
        (.CL_BRXHDR_SEQ1, n * 2 + e / 2)] s t)) ∧
  (GoodFrame s n 8 f → (∀ k : Fin 4, s.testF .CL_BSTAT_RXVALID n k = true) → Answers (.bulkReceived n f) s (fun t =>
    SameMem s t ∧ RxFrameOf n [(.CL_BSTAT_RXDROP, n)] s t ∧
    t.getF .CL_BSTAT_RXDROP n = min (2 ^ Fld.CL_BSTAT_RXDROP.width - 1) (s.getF .CL_BSTAT_RXDROP n + 1)))

/-- R230 to R233, R250: slot tables are written in their shadow copy alone, the reserved halfwords of a set reading 0 (R21), and swapped on all masked lanes together; a CLEAR is requested for the masked lanes
in UP, and refused in the MUTE state, for an absent lane, and by a device that does not command. -/
def Claims.SlotTablesAndClear : Prop := ∀ (n : Fin 96) (off : BitVec 7) (w : Word) (mode : Bool) (s : State),
  let a := slotBase n + off.toNat
  let copy := off.toNat / 64
  (s.laneBus n = true → off.toNat % 4 = 0 →
    (copy = s.getF .CL_STAT_ACTIVE n → Sets (.slotTableWrite n off w) s [(.CL_STAT_WRACT, n, 1)]) ∧
    (copy ≠ s.getF .CL_STAT_ACTIVE n → s.clgBusy = true → s.swapMasked n = true → Sets (.slotTableWrite n off w) s [(.CL_STAT_WRPEND, n, 1)]) ∧
    (copy ≠ s.getF .CL_STAT_ACTIVE n → (s.clgBusy = false ∨ s.swapMasked n = false) → Answers (.slotTableWrite n off w) s (fun t =>
      t.word a = (if off.toNat % 16 = 12 then 0#32 else w) ∧ MemBut s t a 4 ∧ t = { s with mem := t.mem }))) ∧
  (s.fabBus = true → s.clgBusy = false → Sets (.clgSwap mode) s [(.CLG_CTRL_SWAPMODE, 0, b2n mode), (.CLG_CTRL_SWAP, 0, 1), (.CLG_STAT_VALIDATING, 0, 1)]) ∧
  (s.fabBus = true → s.clgBusy = true → mode ≠ s.bit .CLG_CTRL_SWAPMODE 0 → Sets (.clgSwap mode) s [(.CLG_STAT_WRPEND, 0, 1)]) ∧
  (s.fabRuns = true → s.bit .CLG_STAT_VALIDATING 0 = true → s.clgCode ≠ 0 → Sets .clgSwapValidated s
    [(.CLG_STAT_VALIDATING, 0, 0), (.CLG_STAT_SWAPERR, 0, 1), (.CLG_STAT_SWAPCODE, 0, s.clgCode), (.CLG_CTRL_SWAP, 0, 0)]) ∧
  (s.fabRuns = true → s.bit .CLG_STAT_VALIDATING 0 = true → s.clgCode = 0 → s.atuOn = true →
    Sets .clgSwapValidated s [(.CLG_STAT_VALIDATING, 0, 0), (.CLG_STAT_SWAPPEND, 0, 1)]) ∧
  (s.fabRuns = true → s.bit .CLG_STAT_VALIDATING 0 = true → s.clgCode = 0 → s.atuOn = false → Answers .clgSwapValidated s (fun t =>
    t.bit .CLG_STAT_VALIDATING 0 = false ∧ t.bit .CLG_STAT_SWAPPEND 0 = false ∧ t.bit .CLG_CTRL_SWAP 0 = false ∧ t.bit .CLG_STAT_SWAPDONE 0 = true ∧
    (∀ k : Fin 96, t.getF .CL_STAT_ACTIVE k = if s.swapMasked k then 1 - s.getF .CL_STAT_ACTIVE k else s.getF .CL_STAT_ACTIVE k) ∧
    OnlyRegs s t (([(.CLG_STAT_VALIDATING, 0), (.CLG_STAT_SWAPPEND, 0), (.CLG_CTRL_SWAP, 0), (.CLG_STAT_SWAPDONE, 0)] : List (Fld × Nat)) ++
      (List.range 96).map (fun k => (Fld.CL_STAT_ACTIVE, k))))) ∧
  (s.fabBus = true → s.bit .CLG_CTRL_CLRGO 0 = false → (s.mstate = true ∨ s.commanding = false ∨ ∃ k : Fin 96, s.clrMasked k = true ∧ s.laneOk k = false) →
    Sets .clearRequest s [(.CLG_STAT_CLRERR, 0, 1)]) ∧
  (s.fabBus = true → s.bit .CLG_CTRL_CLRGO 0 = false → s.mstate = false → s.commanding = true → (∀ k : Fin 96, s.clrMasked k = true → s.laneOk k = true) →
    Answers .clearRequest s (fun t => (∀ k : Fin 96, s.clrMasked k = true → s.laneUp k = true → (t.lanes[k]).clrPend = true) ∧
      ((∃ k : Fin 96, s.clrMasked k = true ∧ s.laneUp k = true) → t.bit .CLG_CTRL_CLRGO 0 = true) ∧
      t = { s with regs := t.regs, lanes := t.lanes } ∧ RegsBut s t [(.CLG_CTRL_CLRGO, 0), (.CLG_STAT_CLRDONE, 0)]))

/-! The trip fabric. -/

/-- The fields that a decision on input `x` may write: its STATE, its latch and, for a comparator, LOSIDE. -/
def tripFields : TripIn → List (Fld × Nat)
  | .cmp n => [(.CMP_STATUS_STATE, n), (.CMP_STATUS_LOSIDE, n), (.TRIP_LAT0_CMP, 0)]
  | .pin n => [(.TPIN_STATUS_STATE, n), (.TRIP_LAT1_PIN, 0)]

/-- Nothing is due for input `x` in the present FAB cycle: its open window lasts on, and no tick of its generator has come that has not been taken (R260,
R262, R263). -/
def NothingDue (x : TripIn) (s : State) : Prop :=
  let q := s.trIn x
  (q.blank = true → s.tick < q.blankEnd) ∧ s.tick / s.tickLen x = q.cntAt / s.tickLen x

/-- LOSIDE of input `x` reads `v`: which side tripped (R264); a pin has none. -/
def LoSide (x : TripIn) (v : Bool) (t : State) : Prop :=
  match x with
  | .cmp n => t.bit .CMP_STATUS_LOSIDE n = v
  | .pin _ => True

/-- LOSIDE of input `x` stays. -/
def SameSide (x : TripIn) (s t : State) : Prop :=
  match x with
  | .cmp n => t.bit .CMP_STATUS_LOSIDE n = s.bit .CMP_STATUS_LOSIDE n
  | .pin _ => True

/-- No latch but that of source `i` changes. -/
def OtherLatches (i : Nat) (s t : State) : Prop := ∀ j < 69, j ≠ i → t.latched j = s.latched j

/-- Input `x` of the fabric, with its raw sides and its gate after the change, takes its state: the non-trip side is NORMAL, and from NORMAL the trip side
is a qualified transition where no filter and no sampling stand between (R261 to R264). -/
def InputDecided (x : TripIn) (q : TrInSt) (s t : State) : Prop :=
  let f := tripInFlds x
  t.trIn x = q ∧ (∀ y, y ≠ x → t.trIn y = s.trIn y) ∧ t = { s with regs := t.regs, cmps := t.cmps, pins := t.pins } ∧ RegsBut s t (tripFields x) ∧
  OtherLatches f.src s t ∧
  (q.gated = false → t.trState x = 2 ∧ t.latched f.src = s.latched f.src ∧ SameSide x s t) ∧
  (q.gated = true → s.trState x = 2 → s.getF f.filt f.i = 0 → s.sampled x = false →
    t.trState x = 3 ∧ t.latched f.src = true ∧ LoSide x (q.lo && !q.hi) t) ∧
  (q.gated = true → (s.trState x ≠ 2 ∨ s.getF f.filt f.i ≠ 0 ∨ s.sampled x = true) →
    t.trState x = s.trState x ∧ t.latched f.src = s.latched f.src ∧ SameSide x s t)

/-- R259 to R264, R267: a comparator's two sides with their thresholds and hysteresis, held at the start until the input has been seen clear and over an
empty window; a pin's level and polarity; sampling, at the next tick; the blanking window to its end; and the filter's count of ticks.  An input that is OFF
decides nothing. -/
def Obligations.TripInputFilters : Prop := ∀ (n : Fin 32) (p : Fin 8) (v : Nat) (level : Bool) (x : TripIn) (s : State),
  let c := s.cmps[n]
  let hi := s.getF .CMP_THRH_THR n * 375
  let lo := s.getF .CMP_THRL_THR n * 375
  let hyst := s.getF .CMP_CTRL_HYST n * 512
  let hiEn := s.bit .CMP_CTRL_HIEN n
  let loEn := s.bit .CMP_CTRL_LOEN n
  let above := hiEn && (decide (hi < v) || (c.hi && decide (hi ≤ v + hyst)))
  let below := loEn && (decide (v < lo) || (c.lo && decide (v ≤ lo + hyst)))
  let clear := (!hiEn || decide (v + hyst < hi)) && (!loEn || decide (lo + hyst < v))
  let empty := hiEn && loEn && decide (hi ≤ lo + 2 * hyst)
  let held := !(above || below) && (c.hi || c.lo) && ((decide (s.trState (.cmp n) = 1) && !clear) || empty)
  let high := if held then c.hi else above
  let low := if held then c.lo else below
  let b := s.pins[p]
  let act := level != s.bit .TPIN_CTRL_POL p
  let q := s.trIn x
  let f := tripInFlds x
  let tk := ({ s with cmps := s.cmps.set n { c with vin := v } }).passTo ((s.tick / s.tickLen (.cmp n) + 1) * s.tickLen (.cmp n))
  (s.trState (.cmp n) ≠ 0 → s.sampled (.cmp n) = false → NothingDue (.cmp n) s → Answers (.cmpCrossing n v) s
    (InputDecided (.cmp n) { c with vin := v, hi := high, lo := low, gated := (high || low) && (c.gated || !c.blank) } s)) ∧
  (s.trState (.cmp n) ≠ 0 → s.sampled (.cmp n) = true → s.refOk = false → NothingDue (.cmp n) s → Answers (.cmpCrossing n v) s (fun t =>
    t = { s with cmps := t.cmps } ∧ t.cmps[n] = { c with vin := v } ∧ ∀ m : Fin 32, m ≠ n → t.cmps[m] = s.cmps[m])) ∧
  (s.trState (.cmp n) ≠ 0 → s.sampled (.cmp n) = true → s.refOk = true → NothingDue (.cmp n) s → c.blank = false → Answers (.cmpCrossing n v) s (fun t =>
    t = { tk with regs := t.regs, cmps := t.cmps } ∧ (∀ m : Fin 32, m ≠ n → t.cmps[m] = s.cmps[m]) ∧ RegsBut s t (tripFields (.cmp n)) ∧
    (t.cmps[n]).vin = v ∧ (t.cmps[n]).hi = high ∧ (t.cmps[n]).lo = low ∧
    (t.cmps[n]).gated = (high || low) ∧ (t.cmps[n]).cnt = (if high || low then c.cnt + 1 else 0) ∧ (t.cmps[n]).cntAt = tk.tick ∧
    OtherLatches n s t ∧
    (high = false → low = false → t.trState (.cmp n) = 2 ∧ t.latched n = s.latched n ∧ SameSide (.cmp n) s t) ∧
    ((high || low) = true → s.trState (.cmp n) = 2 → s.getF .CMP_FILT_FILT n ≤ c.cnt →
      t.trState (.cmp n) = 3 ∧ t.latched n = true ∧ LoSide (.cmp n) (low && !high) t) ∧
    ((high || low) = true → (s.trState (.cmp n) ≠ 2 ∨ c.cnt < s.getF .CMP_FILT_FILT n) →
      t.trState (.cmp n) = s.trState (.cmp n) ∧ t.latched n = s.latched n ∧ SameSide (.cmp n) s t))) ∧
  (s.trState (.cmp n) = 0 → Answers (.cmpCrossing n v) s (fun t => t = { s with cmps := t.cmps } ∧ t.cmps[n] = { c with vin := v } ∧
    ∀ m : Fin 32, m ≠ n → t.cmps[m] = s.cmps[m])) ∧
  (s.trState (.pin p) ≠ 0 → NothingDue (.pin p) s → Answers (.tripPinChange p level) s
    (InputDecided (.pin p) { b with vin := b2n level, hi := act, lo := false, gated := act && (b.gated || !b.blank) } s)) ∧
  (let r := s.passTo q.blankEnd
   s.fabRuns = true → q.blank = true → s.trState x ≠ 0 → r.tick / s.tickLen x = q.cntAt / s.tickLen x →
    Answers (.blankWindowEnd x) s (InputDecided x { q with blank := false, gated := q.hi || q.lo } r)) ∧
  (let need := s.getF f.filt f.i + b2n (s.sampled x)
   let r := s.passTo ((s.tick / s.tickLen x + max 1 (need - q.cnt)) * s.tickLen x)
   s.refOk = true → s.trState x = 2 → q.gated = true → q.blank = false → NothingDue x s → (s.sampled x = false ∨ (s.rawSides x).1 = true ∨ (s.rawSides x).2 = true) →
    Answers (.filterQualified x) s (fun t => t.trState x = 3 ∧ t.latched f.src = true ∧ t = { r with regs := t.regs, cmps := t.cmps, pins := t.pins } ∧
      RegsBut s t (tripFields x) ∧ OtherLatches f.src s t ∧
      (s.sampled x = false → LoSide x (q.lo && !q.hi) t) ∧ (s.sampled x = true → LoSide x ((s.rawSides x).2 && !(s.rawSides x).1) t)))

/-- R268, R270 to R275: a cycle of the fabric latches the asserted fixed sources; a latched source routed to MUTE sets the MUTE state or adds its reason,
and where the state rises the first event is recorded, every lane in UP is muted and sends a burst, and the planner's records are reset. -/
def Claims.MuteState : Prop := ∀ (s : State),
  let on := fun (i : Nat) => i < 69 ∧ (s.latched i = true ∨ (65 ≤ i ∧ s.asserted i = true))
  let mutes := fun (i : Nat) => on i ∧ s.routedMute i = true
  (s.fabRuns = true → (∀ i, ¬mutes i) → (∀ i, 65 ≤ i → i < 69 → s.asserted i = false) → Ignores .muteStateSet s) ∧
  (s.fabRuns = true → (∃ i, mutes i) → Answers .muteStateSet s (fun t => t.mstate = true ∧ (∀ i < 69, t.latched i = true ↔ on i) ∧
      (∀ i, mutes i → t.testF .TRIP_RMASK_RMASK 0 (reasonBit i) = true) ∧
      t = { s with regs := t.regs, lanes := t.lanes, arms := t.arms } ∧ (∀ n : Fin 96, (t.lanes[n]).launch = (s.lanes[n]).launch) ∧
      (s.mstate = false →
        (∀ n : Fin 96, s.laneUp n = true → t.bit .CL_STAT_MUTED n = true ∧ (t.lanes[n]).burst =
          some (burstAt (s.lanes[n]).burst s.tick (s.setTime n) (t.getF .TRIP_RMASK_RMASK 0))) ∧
        (∀ n : Fin 96, s.laneUp n = false → t.getF .CL_STAT_MUTED n = s.getF .CL_STAT_MUTED n) ∧
        (∀ n : Fin 96, (t.lanes[n]).level = 0 ∧ (t.lanes[n]).lastEdge = none ∧ (t.lanes[n]).phil = 0) ∧
        (∀ a : Fin 6, t.getF .ARM_DEF_DEF a = 0 ∧ (t.arms[a]).conv = none) ∧
        (s.bit .TRIP_FIRST_VALID 0 = false → t.bit .TRIP_FIRST_VALID 0 = true ∧ t.getF .TRIP_FIRST_FRET_FRET 0 = s.fretnum % 2 ^ 32 ∧
          t.getF .TRIP_FIRST_CNS_CNS 0 = s.compact ∧ ∀ i, mutes i → (∀ j, mutes j → i ≤ j) → t.getF .TRIP_FIRST_SRC 0 = i)) ∧
      (s.mstate = true → (∀ i < 6, s.testF .TRIP_RMASK_RMASK 0 i = true → t.testF .TRIP_RMASK_RMASK 0 i = true) ∧
        t.getF .TRIP_FIRST_SRC 0 = s.getF .TRIP_FIRST_SRC 0 ∧
        (t.getF .TRIP_RMASK_RMASK 0 ≠ s.getF .TRIP_RMASK_RMASK 0 → ∀ n : Fin 96, s.laneUp n = true → t.bit .CL_STAT_MUTED n = true ∧
          (t.lanes[n]).burst = some (burstAt (s.lanes[n]).burst s.tick (s.setTime n) (t.getF .TRIP_RMASK_RMASK 0)))))) ∧
  (s.fabBus = true → (∀ i, ¬mutes i) → (∀ i, 65 ≤ i → i < 69 → s.asserted i = false ∧ s.latched i = false) →
      Answers .mclr s (fun t => t.mstate = false ∧ (∀ n : Fin 96, t.getF .CL_STAT_MUTED n = 0) ∧
        OnlyRegs s t ((.TRIP_STAT_MSTATE, 0) :: (List.range 96).map (fun n => (Fld.CL_STAT_MUTED, n))))) ∧
  (s.fabBus = true → (∃ i, mutes i) → Sets .mclr s [(.TRIP_STAT_MCLRFAIL, 0, 1)])

/-- R23, R268, R269, R274: writing 1 to a latch clears it unless its source is still asserted; routes are locked fields; the requests of an engine and of a
core set their latches. -/
def Claims.LatchesAndRoutes : Prop := ∀ (k : Fin 3) (w : Word) (r : Route) (n : Fin 24) (s : State),
  let hit := fun (b i : Nat) => (b, i) ∈ latSources k ∧ w.getLsbD b = true ∧ s.latched i = true
  let f := routeFlds r
  let m := w.toNat / 256 % 2
  let g := w.toNat % 16
  (s.fabBus = true → Answers (.latchClear k w) s (fun t =>
    (∀ i < 69, t.latched i = true ↔ s.latched i = true ∧ ¬∃ b, hit b i ∧ s.asserted i = false) ∧
    ((∀ b i, hit b i → s.asserted i = false) → t.bit .TRIP_STAT_CLRFAIL 0 = s.bit .TRIP_STAT_CLRFAIL 0) ∧
    (∀ b i, hit b i → s.asserted i = true → (∀ c j, hit c j → s.asserted j = true → i ≤ j) →
      t.bit .TRIP_STAT_CLRFAIL 0 = true ∧ t.getF .TRIP_STAT_CLRSRC 0 = i) ∧
    OnlyRegs s t [(.TRIP_LAT0_CMP, 0), (.TRIP_LAT1_PIN, 0), (.TRIP_LAT1_SW, 0), (.TRIP_LAT2_SUP, 0), (.TRIP_LAT2_SAFETY, 0), (.TRIP_LAT2_THERMAL, 0),
      (.TRIP_LAT2_TWIN, 0), (.TRIP_LAT2_CLKLOSS, 0), (.TRIP_STAT_CLRFAIL, 0), (.TRIP_STAT_CLRSRC, 0)])) ∧
  (s.fabBus = true → s.bit .TRIP_CTRL_LOCK 0 = true → (m ≠ s.getF f.1 f.2.2 ∨ g ≠ s.getF f.2.1 f.2.2) →
    Sets (.routeWrite r w) s [(.TRIP_STAT_LKERR, 0, 1)]) ∧
  (s.fabBus = true → s.bit .TRIP_CTRL_LOCK 0 = true → m = s.getF f.1 f.2.2 → g = s.getF f.2.1 f.2.2 → Ignores (.routeWrite r w) s) ∧
  (s.fabBus = true → s.bit .TRIP_CTRL_LOCK 0 = false → Answers (.routeWrite r w) s (fun t =>
    t.getF f.1 f.2.2 = m ∧ t.getF f.2.1 f.2.2 = g ∧ t = { s with regs := t.regs, lanes := t.lanes, arms := t.arms } ∧
    (∀ i, r = .src i → s.latched i = true → m = 1 → t.mstate = true))) ∧
  (s.ceLive n = true → s.fabRuns = true → Answers (.swTripRequest n) s (fun t => OnlyRegs s t [(.TRIP_LAT1_SW, 0)] ∧ t.latched (40 + n) = true ∧
    ∀ i < 69, i ≠ 40 + n.val → t.latched i = s.latched i)) ∧
  (s.fabBus = true → Sets .supTripRequest s [(.TRIP_LAT2_SUP, 0, 1)])

/-! The bridge PWM. -/

/-- The fields that the outputs of pair `n` move. -/
def pairFields (n : Fin 24) : List (Fld × Nat) :=
  [(.PW_STAT_HON, n), (.PW_STAT_LON, n), (.PW_STAT_XCONF, n), (.PW_STAT_XCONFST, n), (.PW_SUPCNT_CBC, n)]

/-- Nothing but pair `n`, its fields and `more`, and the blanking windows that its edges open changes (R262). -/
def OnlyPair (n : Fin 24) (more : List (Fld × Nat)) (s t : State) : Prop :=
  t = { s with regs := t.regs, pairs := t.pairs, cmps := t.cmps, pins := t.pins } ∧ (∀ m : Fin 24, m ≠ n → t.pairs[m] = s.pairs[m]) ∧
  RegsBut s t (pairFields n ++ more)

/-- The set that pair `k` takes: its shadows, or its active set while it is held (R287). -/
def pairLoad (s : State) (k : Fin 24) : PwSet := if s.testF .PWM_HOLD_HOLD 0 k then (s.pairs[k]).act.held (s.shadows k) else s.shadows k

/-- Every slave of a pair of `m` that has not started takes the set of its start, and only such slaves of some pair do (R287, R288). -/
def SlavesTake (m : Fin 24 → Prop) (s t : State) : Prop := ∀ k : Fin 24,
  ((s.pairs[k]).started = false → (∃ j, m j ∧ s.chained k j = true) → (t.pairs[k]).nxt = pairLoad s k ∧ (t.pairs[k]).loaded = true) ∧
  (((s.pairs[k]).started = true ∨ ∀ j, s.chained k j = false) → (t.pairs[k]).nxt = (s.pairs[k]).nxt ∧ (t.pairs[k]).loaded = (s.pairs[k]).loaded)

/-- R287, R288, R301: a common start is scheduled 512 cycles ahead, with what each pair that is ON loads: its shadows, or its active set while it is held;
no counter starts in a freeze; the load point takes the shadows of a pair that is not held; the period start uses them, and loads PHS into the pairs chained
to it. -/
def Claims.PwmPeriods : Prop := ∀ (n : Fin 24) (mask : BitVec 24) (s : State),
  let q := s.pairs[n]
  let hit := fun (k : Fin 24) => mask.getLsbD k = true ∧ s.pairOk k = true ∧ s.getF .PW_STAT_ENST k = 1
  let load := pairLoad s
  let next := if q.loaded then q.nxt else load n
  (s.fabBus = true → Answers (.pwmStart mask) s (fun t => t = { s with pairs := t.pairs, pwStarts := t.pwStarts } ∧
    (∃ m : BitVec 24, t.pwStarts = s.pwStarts ++ [(s.tick + 512, m)] ∧ ∀ k : Fin 24, m.getLsbD k = true ↔ hit k) ∧
    (∀ k : Fin 24, t.pairs[k] = { s.pairs[k] with nxt := (t.pairs[k]).nxt, loaded := (t.pairs[k]).loaded, starts := (t.pairs[k]).starts } ∧
      (hit k → (t.pairs[k]).starts = (s.pairs[k]).starts ++ [load k]) ∧ (¬hit k → (t.pairs[k]).starts = (s.pairs[k]).starts)) ∧
    SlavesTake (fun j => hit j ∧ (load j).phs = 0) s t)) ∧
  (∀ d m rest, s.fabRuns = true → s.pwStarts = (d, m) :: rest →
    (s.frozen = true → Ignores .pwmStartDue s) ∧
    (s.frozen = false → Answers .pwmStartDue s (fun t => t.pwStarts = rest ∧
      t = { s.passTo d with regs := t.regs, pairs := t.pairs, pwStarts := rest, cmps := t.cmps, pins := t.pins } ∧
      ∀ k : Fin 24, (m.getLsbD k = true → (t.pairs[k]).starts = ((s.pairs[k]).starts).drop 1) ∧
        (m.getLsbD k = true → s.getF .PW_STAT_ENST k = 1 → (t.pairs[k]).started = true) ∧
        (m.getLsbD k = true → s.getF .PW_STAT_ENST k = 1 → s.bit .PW_CFG_SYNC k = false →
          (t.pairs[k]).act = (s.pairs[k]).starts.headD (load k) ∧ (t.pairs[k]).pos = (t.pairs[k]).act.phs * 64 ∧
          ((t.pairs[k]).act.phs = 0 → (t.pairs[k]).live = true)) ∧
        (m.getLsbD k = false → s.bit .PW_CFG_SYNC k = false → t.pairs[k] = s.pairs[k])))) ∧
  (s.pairRuns n = true → q.loaded = false → Answers (.pwmLoadPoint n) s (fun t =>
    (t.pairs[n]).loaded = true ∧ (t.pairs[n]).nxt = load n ∧ (t.pairs[n]).act = q.act ∧ (t.pairs[n]).x = q.x ∧
    t = { s with regs := t.regs, pairs := t.pairs } ∧ RegsBut s t [(.PW_SUPCNT_SUP, n), (.PW_MCNT_DROP, n), (.PW_MCNT_STRETCH, n)] ∧
    ∀ k : Fin 24, k ≠ n → t.pairs[k] = { s.pairs[k] with nxt := (t.pairs[k]).nxt, loaded := (t.pairs[k]).loaded } ∧
      ((s.pairs[k]).started = false → s.chained k n = true → (t.pairs[k]).nxt = load k ∧ (t.pairs[k]).loaded = true) ∧
      (((s.pairs[k]).started = true ∨ ∀ j, s.chained k j = false) → t.pairs[k] = s.pairs[k]))) ∧
  (s.pairRuns n = true → s.getF .PW_STAT_ENST n ≠ 2 → s.bit .PW_CFG_SYNC n = false → Answers (.pwmPeriodStart n) s (fun t =>
    (t.pairs[n]).pos = 0 ∧ (t.pairs[n]).act = next ∧ (t.pairs[n]).live = true ∧ (t.pairs[n]).loaded = false ∧
    (s.bit .PW_CBC_EN n = false → (t.pairs[n]).cbcHold = false) ∧
    (∀ k : Fin 24, s.chained k n = true → (t.pairs[k]).started = true ∧
      ((s.pairs[k]).started = true → (s.pairs[k]).pos = (s.pairs[k]).act.phs * 64 → t.pairs[k] = s.pairs[k]) ∧
      (((s.pairs[k]).started = false ∨ (s.pairs[k]).pos ≠ (s.pairs[k]).act.phs * 64) →
        (t.pairs[k]).act = (if (s.pairs[k]).started = false ∧ (q.loaded = false ∨ (s.pairs[k]).loaded = false) then load k
          else if (s.pairs[k]).loaded then (s.pairs[k]).nxt else (s.pairs[k]).act) ∧
        (t.pairs[k]).pos = (t.pairs[k]).act.phs * 64)) ∧
    t = { s with regs := t.regs, pairs := t.pairs, cmps := t.cmps, pins := t.pins })) ∧
  (s.pairRuns n = true → s.getF .PW_STAT_ENST n = 2 → Answers (.pwmPeriodStart n) s (fun t =>
    t.getF .PW_STAT_ENST n = 0 ∧ (t.pairs[n]).started = false ∧ OnlyPair n [(.PW_STAT_ENST, n)] s t)) ∧
  (∀ e v rest, s.pairRuns n = true → q.plan = (e, v) :: rest → e < q.act.len * 64 → Answers (.pwmCompareMatch n) s (fun t =>
    (t.pairs[n]).x = v ∧ (t.pairs[n]).plan = rest ∧ (t.pairs[n]).pos = max q.pos e ∧ OnlyPair n [] s t))

/-- R289, R291, R292, R295 to R297, R299: a turn-on comes when its dead time has passed; trips, their clearing, overrides, the cycle-by-cycle limit and the
disable of a pair. -/
def Claims.PwmOutputs : Prop := ∀ (n : Fin 24) (high : Bool) (h l : BitVec 2) (s : State),
  let q := s.pairs[n]
  let normal := s.bit .CLK_LOSS_ACTIVE 0 = false ∧ s.tripForced n = false ∧ s.frozen = false ∧ s.pairOff n = false ∧ q.live = true
  let refused := fun (v : BitVec 2) => s.inS4 = true ∧ v = 2#2
  (∀ d, s.pairOk n = true → s.fabRuns = true → normal → (s.cbcActive n = false ∨ q.cbcHold = true) → q.due = some (high, d) →
    (if high then q.planL else q.planH) = false → s.getF .PW_OVR_OVRH n = 0 → s.getF .PW_OVR_OVRL n = 0 →
    s.bit (if high then .PW_STAT_LON else .PW_STAT_HON) n = false → Answers (.deadTimeExpiry n high) s (fun t =>
      t.bit (if high then .PW_STAT_HON else .PW_STAT_LON) n = true ∧ t.bit (if high then .PW_STAT_LON else .PW_STAT_HON) n = false ∧
      (t.pairs[n]).due = none ∧ OnlyPair n [] s t)) ∧
  (s.pairOk n = true → s.pairLine n = true → s.bit .PW_TRIP_TRIPPED n = false → Answers (.pwmTrip n) s (fun t =>
    t.bit .PW_TRIP_TRIPPED n = true ∧ OnlyPair n [(.PW_TRIP_TRIPPED, n)] s t ∧
    (s.getF .PW_TRIP_TSTATE n = 0 → t.bit .PW_STAT_HON n = false ∧ t.bit .PW_STAT_LON n = false))) ∧
  (s.pairOk n = true → s.fabBus = true → (s.pairLine n = true ∨ s.bit .CLK_LOSS_ACTIVE 0 = true) → Sets (.pwmTripClear n) s [(.PW_TRIP_CLRFAIL, n, 1)]) ∧
  (s.pairOk n = true → s.fabBus = true → s.pairLine n = false → s.bit .CLK_LOSS_ACTIVE 0 = false →
    (s.bit .PW_TRIP_TRIPPED n = true ∨ s.bit .PW_TRIP_CLKLOSS n = true) →
    SetsOn (.pwmTripClear n) s (s.modPair n (fun q => { q with holdTrip := true }))
      [(.PW_TRIP_TRIPPED, n, 0), (.PW_TRIP_CLKLOSS, n, 0)]) ∧
  (s.pairOk n = true → s.fabBus = true → Answers (.pwmOverride n h l) s (fun t =>
    (¬refused h → t.getF .PW_OVR_OVRH n = h.toNat) ∧ (refused h → t.getF .PW_OVR_OVRH n = s.getF .PW_OVR_OVRH n) ∧
    (¬refused l → t.getF .PW_OVR_OVRL n = l.toNat) ∧ (refused l → t.getF .PW_OVR_OVRL n = s.getF .PW_OVR_OVRL n) ∧
    (refused h ∨ refused l → t.bit .PW_STAT_OVRERR n = true) ∧
    OnlyPair n [(.PW_OVR_OVRH, n), (.PW_OVR_OVRL, n), (.PW_STAT_OVRERR, n)] s t)) ∧
  (s.pairRuns n = true → q.live = true → s.cbcActive n = true → q.cbcHold = false → Answers (.cbcCut n) s (fun t =>
    (t.pairs[n]).cbcHold = true ∧ (t.pairs[n]).x = q.x ∧ t.getF .PW_SUPCNT_CBC n = min (2 ^ Fld.PW_SUPCNT_CBC.width - 1) (s.getF .PW_SUPCNT_CBC n + 1) ∧
    OnlyPair n [] s t)) ∧
  (s.cbcBlank n = false → Ignores (.cbcBlankEnd n) s) ∧
  (let r := s.passTo q.cbcEnd
   s.fabRuns = true → s.cbcBlank n = true → (s.bit .PW_STAT_HON n = true ∨ s.getF .PW_CBC_BLK n = 0) → Answers (.cbcBlankEnd n) s (fun t =>
    t.cbcBlank n = false ∧ OnlyPair n [] r t ∧
    (normal → q.cbcHold = false → s.bit .PW_CBC_EN n = true → r.asserted (s.getF .PW_CBC_CMP n) = true → (t.pairs[n]).cbcHold = true))) ∧
  (s.bit .PW_CTRL_EN n = false → Ignores (.pwmDisable n) s) ∧
  (s.pairOk n = true → s.fabBus = true → s.bit .PW_CTRL_EN n = true → s.pairOff n = true → Sets (.pwmDisable n) s [(.PW_CTRL_EN, n, 0)]) ∧
  (s.pairOk n = true → s.fabBus = true → s.bit .PW_CTRL_EN n = true → s.pairOff n = false → s.bit .PW_CTRL_IMMDIS n = false → q.started = true →
    Sets (.pwmDisable n) s [(.PW_CTRL_EN, n, 0), (.PW_STAT_ENST, n, 2)]) ∧
  (s.pairOk n = true → s.fabBus = true → s.bit .PW_CTRL_EN n = true → s.pairOff n = false → (s.bit .PW_CTRL_IMMDIS n = true ∨ q.started = false) → Answers (.pwmDisable n) s (fun t =>
    t.getF .PW_CTRL_EN n = 0 ∧ t.getF .PW_STAT_ENST n = 0 ∧ (t.pairs[n]).started = false ∧ OnlyPair n [(.PW_CTRL_EN, n), (.PW_STAT_ENST, n)] s t))

/-- R291, R293: no command, and no cycle with none waiting, ever turns on the two switches of a pair together. -/
def Obligations.NoShootThrough : Prop := ∀ (s t : State),
  (∀ n : Fin 24, ¬(s.bit .PW_STAT_HON n = true ∧ s.bit .PW_STAT_LON n = true)) → step s = .next t →
    ∀ n : Fin 24, ¬(t.bit .PW_STAT_HON n = true ∧ t.bit .PW_STAT_LON n = true)

/-! The converters. -/

/-- A valid list's scan starts on a converter that is ON and free: SEQ advances, PTR goes to BASE in mode BLOCK or outside the buffer, and the first input
is converted (R308, R313, R314). -/
def ScanBegins (m : Fin 8) (l : Nat) (more : List (Fld × Nat)) (r t : State) : Prop :=
  let i := adList m l
  let base := r.getF .AD_LBUF_BASE i
  let ptr := r.getF .AD_LWPTR_PTR i
  (r.listInputs m l ≠ [] → t.bit .AD_STAT_BUSY m = true) ∧ t.getF .AD_STAT_CURLIST m = l ∧
  t.getF .AD_LWPTR_SEQ i = (r.getF .AD_LWPTR_SEQ i + 1) % 2 ^ Fld.AD_LWPTR_SEQ.width ∧
  (r.getF .AD_LBUF_MODE i = 1 ∨ ptr < base ∨ base + r.getF .AD_LLEN_LEN i ≤ ptr → t.getF .AD_LWPTR_PTR i = base % 2 ^ Fld.AD_LWPTR_PTR.width) ∧
  (∀ x rest, (r.adcs[m]).conv = none → (r.adcs[m]).atuQ = [] → r.listInputs m l = x :: rest →
    ∃ c, (t.adcs[m]).conv = some c ∧ c.atu = false ∧ c.input = x ∧
      (c.test = true ↔ r.bit .AD_TDAC_EN m = true ∧ (r.getF .AD_TDAC_TMASK m).testBit x = true) ∧
      c.sub = (if c.test = true ∧ r.bit .AD_TDAC_MODE m = false then some (r.getF .AD_TDAC_VAL m) else none) ∧
      c.ball = if c.test = true ∧ r.bit .AD_TDAC_MODE m = true then some (r.getF .AD_TDAC_VAL m) else none) ∧
  (∀ k : Fin 8, k ≠ m → t.adcs[k] = r.adcs[k]) ∧ t = { r with regs := t.regs, adcs := t.adcs } ∧
  RegsBut r t ([(.AD_STAT_BUSY, m.val), (.AD_STAT_CURLIST, m.val), (.AD_LWPTR_SEQ, i), (.AD_LWPTR_PTR, i)] ++ more)

/-- R300, R308 to R317: scans are started by the fret table, by a PWM event and by software, refused with CFGERR or OVR; a conversion's result is stored with
its input, list and sequence number; a trigger word's match starts the lists of its event; the unit reset and the test DAC. -/
def Obligations.ConverterScans : Prop := ∀ (m : Fin 8) (l : Fin 4) (u : AdcInput) (w : Word) (n : Fin 24) (b : Bool) (s : State),
  let a := s.adcs[m]
  let on := s.adcOn m = true ∧ s.fabRuns = true
  let ovr := Sets (.scanStart m l .software) s [(.AD_STAT_OVR, m, (s.getF .AD_STAT_OVR m ||| 2 ^ l.val) % 2 ^ Fld.AD_STAT_OVR.width)]
  let sw := s.scanWord m
  let r := { s.raiseAngle (sw % 65536) with fretd := { s.fretd with scanned := s.fretd.scanned ||| BitVec.ofNat 8 (2 ^ m.val) } }
  let locked := s.bit .ADC_CTRL_LOCK 0
  let mode := if locked then s.getF .AD_TDAC_MODE m else w.toNat / 2 ^ 30 % 2
  let mask := if locked then s.getF .AD_TDAC_TMASK m else w.toNat / 2 ^ 16 % 4096
  let first := ∀ b ∈ a.bad, b.tick = s.tick → b.list ≤ l.val
  (on → a.scan = none → s.listBad m l = false → first →
    Answers (.scanStart m l .software) s (ScanBegins m l [] s) ∧ (s.anaBus = true → Answers (.adcSwgo m (BitVec.ofNat 4 (2 ^ l.val))) s (ScanBegins m l [] s)) ∧
    (2 ^ 31 ≤ sw → sw / 2 ^ 24 % 4 = l.val → s.fretd.scanned.getLsbD m = false → s.atuRuns = true →
      Answers (.scanStart m l .fret) s (ScanBegins m l [] r))) ∧
  (∀ x, on → a.scan = none → s.listBad m l = false → a.bad = [x] → x.tick = s.tick → l.val < x.list → x.list < 4 → x.was = false →
    Answers (.scanStart m l .software) s (fun t => t.testF .AD_STAT_CFGERR m x.list = false ∧ t.testF .AD_STAT_OVR m x.list = true ∧
      t.testF .FRET_ADCOVR_OVR 0 m = (s.testF .FRET_ADCOVR_OVR 0 m || x.fret) ∧ t.getF .AD_STAT_CURLIST m = l.val ∧
      ∃ s2, (t.adcs[m]).scan = some s2 ∧ s2.list = l.val)) ∧
  (on → a.scan = none → s.listBad m l = true → SetsOn (.scanStart m l .software) s (s.modAdc m (fun a =>
      { a with bad := { tick := s.tick, list := l, fret := false, was := s.testF .AD_STAT_CFGERR m l } :: a.bad.filter (fun x => x.tick == s.tick) }))
    [(.AD_STAT_CFGERR, m, (s.getF .AD_STAT_CFGERR m ||| 2 ^ l.val) % 2 ^ Fld.AD_STAT_CFGERR.width)]) ∧
  (∀ sc, on → a.scan = some sc →
    ((sc.start = none ∨ (∃ e, sc.start = some e ∧ e.1 ≠ s.tick)) → ovr) ∧
    (∀ fr sq pt, sc.start = some (s.tick, fr, sq, pt) →
      (sc.list = l.val → Ignores (.scanStart m l .software) s) ∧
      (sc.list < l.val → ovr) ∧
      (l.val < sc.list → sc.list < 4 → s.listBad m l = false → Answers (.scanStart m l .software) s (fun t =>
        t.testF .AD_STAT_OVR m sc.list = true ∧ t.getF .AD_STAT_CURLIST m = l.val ∧ t.bit .AD_STAT_BUSY m = true ∧
        ∃ s2, (t.adcs[m]).scan = some s2 ∧ s2.list = l.val)))) ∧
  (∀ sc c, s.fabRuns = true → a.conv = some c → c.atu = false → a.scan = some sc → c.input < 12 → sc.list < 4 → s.getF .AD_STAT_ENST m ≠ 2 →
    let i := adList m sc.list
    let ptr := s.getF .AD_LWPTR_PTR i
    let p := ceData sc.eng + 4 * ptr
    ∃ volt : Int, (∀ val : Nat, c.sub = some val → volt = 1500000 * val) ∧ (c.sub = none → c.ball = none → volt = 1024 * u.v) ∧
      (∀ val : Nat, c.sub = none → c.ball = some val → u.rs = none → volt = 1500000 * val) ∧
      (∀ val rs : Nat, c.sub = none → c.ball = some val → u.rs = some rs → ∃ ohm : Nat, 8000 ≤ ohm ∧ ohm ≤ 12000 ∧
        volt = 1024 * u.v + (1500000 * val - 1024 * u.v) * rs / (rs + ohm)) ∧
    let code := (max 0 (min 4095 ((volt + 1024 * u.e) * 4 / 1500000))).toNat
    Answers (.adcConversionDone m u) s (fun t =>
      (t.word p).toNat = (c.input * 2 ^ 28 + sc.list * 2 ^ 26 + b2n c.test * 2 ^ 25 + s.getF .AD_LWPTR_SEQ i * 2 ^ 16 + code) % 2 ^ 32 ∧ MemBut s t p 4 ∧
      t.getF .AD_LWPTR_PTR i = (if sc.base + sc.len ≤ ptr + 1 then sc.base else ptr + 1) % 2 ^ Fld.AD_LWPTR_PTR.width ∧
      (sc.rest = [] → t.bit .AD_STAT_BUSY m = false ∧ (t.adcs[m]).scan = none) ∧
      (∀ y ys, sc.rest = y :: ys → a.atuQ = [] → ∃ d, (t.adcs[m]).conv = some d ∧ d.atu = false ∧ d.input = y) ∧
      (∀ y ys, a.atuQ = y :: ys → ∃ d, (t.adcs[m]).conv = some d ∧ d.atu = true ∧ d.input = y) ∧
      t = { s with regs := t.regs, adcs := t.adcs, mem := t.mem, eccBad := t.eccBad, eccSoft := t.eccSoft } ∧
      RegsBut s t [(.AD_LWPTR_PTR, i), (.AD_STAT_BUSY, m)])) ∧
  (∀ c, s.pairRuns n = true → (s.pairs[n]).act.trigPos (if b then (s.pairs[n]).act.trgB else (s.pairs[n]).act.trgA) = some c →
    (s.pairs[n]).pos / 64 ≤ c →
    (∀ k : Fin 8, ∀ j < 4, s.bit .AD_LCFG_TRGEN (adList k j) = true → s.getF .AD_LCFG_EVT (adList k j) = 2 * n.val + b2n b → k = m ∧ j = l.val) →
    s.bit .AD_LCFG_TRGEN (adList m l) = true → s.getF .AD_LCFG_EVT (adList m l) = 2 * n.val + b2n b → s.adcOn m = true → a.scan = none →
    s.listBad m l = false → first →
      Answers (.pwmTrigger n b) s (ScanBegins m l [] (s.modPair n (fun q => q.advanceTo (c * 64))))) ∧
  (s.anaBus = true → s.adcServes m = true → Sets (.adUrst m) s [(.AD_STAT_DISERR, m, 1)]) ∧
  (s.anaBus = true → s.adcServes m = false → Answers (.adUrst m) s (fun t => t.adcs[m] = {} ∧ (∀ k : Fin 8, k ≠ m → t.adcs[k] = s.adcs[k]) ∧
    t.getF .AD_CTRL_EN m = 0 ∧ t.getF .AD_STAT_BUSY m = 0 ∧ t.getF .AD_STAT_ENST m = 0 ∧
    t = { s with regs := t.regs, adcs := t.adcs, atu := t.atu } ∧ RegsBut s t [(.AD_CTRL_EN, m), (.AD_STAT_BUSY, m), (.AD_STAT_ENST, m)] ∧
    (a.atuQ = [] → (∀ c, a.conv = some c → c.atu = false) → t.atu = s.atu))) ∧
  (s.anaBus = true → ¬(s.inS4 = true ∧ w.getLsbD 31 = true ∧ mode = 1) → Answers (.tdacWrite m w) s (fun t =>
    t.getF .AD_TDAC_EN m = w.toNat / 2 ^ 31 ∧ t.getF .AD_TDAC_VAL m = w.toNat % 1024 ∧
    t.getF .AD_TDAC_MODE m = mode % 2 ∧ t.getF .AD_TDAC_TMASK m = mask % 4096 ∧
    OnlyRegs s t [(.AD_TDAC_EN, m), (.AD_TDAC_VAL, m), (.AD_TDAC_MODE, m), (.AD_TDAC_TMASK, m), (.ADC_STAT_LKERR, 0)])) ∧
  (s.anaBus = true → s.inS4 = true → w.getLsbD 31 = true → w.getLsbD 30 = true → locked = false → Sets (.tdacWrite m w) s [(.AD_STAT_TDACERR, m, 1)])

/-! The station clock and the timed outputs. -/

/-- After a SET or STEP that gave the clock its value: the count, and the next rise of each output that is ON; one whose single pulse now lies in the past
misses it (R371, R382). -/
def Stepped (more : List (Fld × Nat)) (s t : State) : Prop :=
  t = { s with clock := t.clock, regs := t.regs, tout := t.tout } ∧
  t.getF .TIME_STAT_STEPCNT 0 = (s.getF .TIME_STAT_STEPCNT 0 + 1) % 2 ^ Fld.TIME_STAT_STEPCNT.width ∧
  RegsBut s t ((.TIME_STAT_STEPCNT, 0) :: more ++ (List.range 8).map (fun n => (Fld.TOUT_CTRL_MISSED, n))) ∧
  ∀ n : Fin 8,
    let start := t.toutStart n
    let per := s.getF .TOUT_PER_PER n
    let on := s.getF .TOUT_CTRL_ENST n = 1
    let same := (t.tout[n]).rise = (s.tout[n]).rise ∧ t.getF .TOUT_CTRL_MISSED n = s.getF .TOUT_CTRL_MISSED n
    t.tout[n] = { s.tout[n] with rise := (t.tout[n]).rise } ∧ (¬on → same) ∧
    (on → s.bit .TOUT_CTRL_MODE n = true → 0 < per → t.getF .TOUT_CTRL_MISSED n = s.getF .TOUT_CTRL_MISSED n ∧
      ∃ k, (t.tout[n]).rise = some (start + k * per) ∧ t.timeNs ≤ start + k * per ∧ (k = 0 ∨ start + (k - 1) * per < t.timeNs)) ∧
    (on → s.bit .TOUT_CTRL_MODE n = false → t.timeNs ≤ start →
      (t.tout[n]).rise = some start ∧ t.getF .TOUT_CTRL_MISSED n = s.getF .TOUT_CTRL_MISSED n) ∧
    (on → s.bit .TOUT_CTRL_MODE n = false → start < t.timeNs → (s.tout[n]).rise.isSome = true →
      (t.tout[n]).rise = none ∧ t.bit .TOUT_CTRL_MISSED n = true) ∧
    (on → s.bit .TOUT_CTRL_MODE n = false → start < t.timeNs → (s.tout[n]).rise = none → same)

/-- R370 to R372, R381, R382: SET and STEP with STEPCNT, the coherent read, and the pulses of the timed outputs. -/
def Obligations.StationTimeAndOutputs : Prop := ∀ (r : TimeReader) (n : Fin 8) (s : State),
  let ns := s.getF .TIME_WNS_NS 0
  let step := (BitVec.ofNat 32 (s.getF .TIME_STEPNS_STEPNS 0)).toInt
  let start := s.toutStart n
  let per := s.getF .TOUT_PER_PER n
  let idle := ∀ p : Fin 4, s.getF .HP_STAT_ENST p ≠ 1 ∨ (s.tqEmpty p 0 = true ∧ (s.hp[p]).dups = [])
  let one := fun (q : ToutSt) (t : State) => t.tout[n] = q ∧ ∀ k : Fin 8, k ≠ n → t.tout[k] = s.tout[k]
  (s.hostBus = true → 1000000000 ≤ ns → Sets .timeSet s [(.TIME_STAT_SETERR, 0, 1)]) ∧
  (s.hostBus = true → ns < 1000000000 → idle → Answers .timeSet s (fun t => Stepped [(.TIME_STAT_VALID, 0)] s t ∧
    t.clock = ⟨s.getF .TIME_WSECH_SECH 0 * 2 ^ 32 + s.getF .TIME_WSECL_SECL 0, ns * 2 ^ 29⟩ ∧ t.bit .TIME_STAT_VALID 0 = true)) ∧
  (s.hostBus = true → idle → s.clock.nsf < 10 ^ 9 * 2 ^ 29 → 0 ≤ (s.timeNs : Int) + step → (s.timeNs : Int) + step < 2 ^ 48 * 10 ^ 9 → Answers .timeStep s (fun t =>
    (t.timeNs : Int) = s.timeNs + step ∧ t.clock.nsf % 2 ^ 29 = s.clock.nsf % 2 ^ 29 ∧ Stepped [] s t)) ∧
  (s.hostBus = true → Answers (.timeNsRead r) s (fun t => t = { s with secLatch := t.secLatch, resp := ⟨BitVec.ofNat 32 s.clock.ns, [], false⟩ } ∧
    t.secLatch[readerLatch r] = s.clock.sec ∧ ∀ k : Fin 29, k ≠ readerLatch r → t.secLatch[k] = s.secLatch[k])) ∧
  (s.hostBus = true → s.bit .TOUT_CTRL_EN n = false → (s.getF .TOUT_WID_WID n < 8 ∨ per < s.getF .TOUT_WID_WID n + 8) →
    Sets (.toutEnable n) s [(.TOUT_CTRL_CFGERR, n, 1)]) ∧
  (s.hostBus = true → s.bit .TOUT_CTRL_EN n = false → 8 ≤ s.getF .TOUT_WID_WID n → s.getF .TOUT_WID_WID n + 8 ≤ per → Answers (.toutEnable n) s (fun t =>
    t.bit .TOUT_CTRL_EN n = true ∧ t.getF .TOUT_CTRL_ENST n = 1 ∧ t = { s with regs := t.regs, tout := t.tout } ∧
    RegsBut s t [(.TOUT_CTRL_EN, n), (.TOUT_CTRL_ENST, n), (.TOUT_CTRL_MISSED, n)] ∧
    (s.bit .TOUT_CTRL_MODE n = false → start < s.timeNs → t.bit .TOUT_CTRL_MISSED n = true ∧ (t.tout[n]).rise = none) ∧
    (s.bit .TOUT_CTRL_MODE n = false → s.timeNs ≤ start → (t.tout[n]).rise = some start) ∧
    (s.bit .TOUT_CTRL_MODE n = true → ∃ k, (t.tout[n]).rise = some (start + k * per) ∧ s.timeNs ≤ start + k * per ∧
      (k = 0 ∨ start + (k - 1) * per < s.timeNs)))) ∧
  (∀ d, (s.tout[n]).rise = some d → let u := s.passTime d
    ((u.timeNs < d ∨ s.clockRuns = false) → Ignores (.toutRise n) s) ∧
    (d ≤ u.timeNs → s.clockRuns = true → Answers (.toutRise n) s (fun t => t = { u with tout := t.tout } ∧
      one { active := true, rise := if s.bit .TOUT_CTRL_MODE n then some (d + per) else none,
            fall := u.tick + (s.getF .TOUT_WID_WID n * 2 + 4) / 5 } t))) ∧
  (∀ d, s.clock.nsf < 10 ^ 9 * 2 ^ 29 → s.clockRuns = true → 0 < s.getF .TIME_INC_INC 0 → s.getF .TIME_INC_INC 0 < 2 ^ 32 → d + 8 ≤ 2 ^ 48 * 10 ^ 9 →
    d ≤ (s.passTime d).timeNs) ∧
  (let u := s.passTo (s.tout[n]).fall
   s.clockRuns = true → (s.tout[n]).active = true → Answers (.toutFall n) s (fun t => one { s.tout[n] with active := false } t ∧ t = { u with tout := t.tout })) ∧
  (((s.tout[n]).active = false ∨ s.clockRuns = false) → Ignores (.toutFall n) s)

/-! The auxiliary drive and the core-rail regulator. -/

/-- Nothing but the auxiliary drive and its flags changes. -/
def OnlyAux (more : List (Fld × Nat)) (s t : State) : Prop :=
  t = { s with regs := t.regs, aux := t.aux, auxc := t.auxc } ∧
  RegsBut s t (((List.range 4).map (fun x => [(Fld.AUXH_STAT_XCONFST, x), (.AUXH_STAT_XCONF, x), (.AUXH_STAT_BSUV, x), (.AUXH_FCNT_BSUV, x)])).flatten ++
    ([(.AUX_STAT_ASHORT, 0)] : List (Fld × Nat)) ++ more)

/-- R320 to R327: the period start takes the duty under the refresh clamp, the match passes the command to the low side, the dead time and the faults of a
half-bridge, and the link. -/
def Claims.AuxHalfBridges : Prop := ∀ (x : Fin 4) (high vhv : Bool) (h l : BitVec 2) (s : State),
  let a := s.aux[x]
  let duty := fun (y : Fin 4) => if s.bit .AUX_CTRL_HOLD 0 then (s.aux[y]).hon else s.getF .AUXH_DUTY_HON y
  let hon := fun (y : Fin 4) => min (duty y) (s.honMax y)
  let count := fun (f : Fld) (y k : Nat) => min (2 ^ f.width - 1) (s.getF f y + k)
  let off := fun (t : State) (y : Fin 4) => (t.aux[y]).ho = false ∧ (t.aux[y]).lo = false
  let due := match (if high then a.lOff else a.hOff) with | some t => t + s.getF .AUXH_CFG_DT x | none => 0
  s.auxOk = true →
    (s.fabRuns = true → Answers .auxPeriodStart s (fun t => t.auxc.cnt = 0 ∧
      (∀ y : Fin 4, (t.aux[y]).hon = duty y) ∧
      (∀ y : Fin 4, s.getF .AUXH_STAT_ENST y = 1 → (t.aux[y]).gH = decide (0 < hon y) ∧ (t.aux[y]).gL = decide (hon y = 0) ∧
        t.getF .AUXH_FCNT_CLAMP y = count .AUXH_FCNT_CLAMP y (if s.honMax y < duty y then 1 else 0)) ∧
      (∀ y : Fin 4, s.getF .AUXH_STAT_ENST y = 2 → t.getF .AUXH_STAT_ENST y = 0 ∧ (t.aux[y]).gH = false ∧ (t.aux[y]).gL = false) ∧
      OnlyAux ((List.range 4).map (fun y => (Fld.AUXH_FCNT_CLAMP, y)) ++ (List.range 4).map (fun y => (Fld.AUXH_STAT_ENST, y))) s t)) ∧
    (s.fabRuns = true → a.gH = true → Answers (.auxHonMatch x) s (fun t => (t.aux[x]).gH = false ∧ (t.aux[x]).gL = true ∧
      t.auxc.cnt = max s.auxc.cnt (min a.hon (s.honMax x)) ∧ OnlyAux [] s t)) ∧
    (s.fabRuns = true → (if high then (s.auxWant x).1 else (s.auxWant x).2) = true → (if high then a.lo else a.ho) = false →
      Answers (.auxDeadTimeExpiry x high) s (fun t => (if high then (t.aux[x]).ho else (t.aux[x]).lo) = true ∧ t.auxc.now = max s.auxc.now due ∧
        OnlyAux [] s t)) ∧
    (a.bsLow = false → Answers (.bootstrapUv x) s (fun t => (t.aux[x]).bsLow = true ∧ (t.aux[x]).ho = false ∧ t.bit .AUXH_STAT_BSUV x = true ∧
      t.getF .AUXH_FCNT_BSUV x = count .AUXH_FCNT_BSUV x 1 ∧ OnlyAux [] s t)) ∧
    Answers (.bootstrapRecover x) s (fun t => (t.aux[x]).bsLow = false ∧ (t.aux[x]).bsHold = a.bsHold ∧ OnlyAux [] s t) ∧
    Answers (.vdrvUv vhv) s (fun t => t.bit .AUX_STAT_VDRVUV 0 = true ∧ t.auxc.vdLow = true ∧
      t.bit .AUX_STAT_VHVUV 0 = (vhv || s.auxc.vhLow) ∧ (∀ y : Fin 4, (t.aux[y]).vdHold = true ∧ off t y) ∧ OnlyAux [(.AUX_STAT_VDRVUV, 0), (.AUX_STAT_VHVUV, 0)] s t) ∧
    Answers .vdrvRecover s (fun t => t.bit .AUX_STAT_VDRVUV 0 = false ∧ t.bit .AUX_STAT_VHVUV 0 = false ∧ t.auxc.vdLow = false ∧
      (∀ y : Fin 4, (t.aux[y]).vdHold = (s.aux[y]).vdHold ∧ ((s.aux[y]).vdHold = true → off t y)) ∧
      OnlyAux [(.AUX_STAT_VDRVUV, 0), (.AUX_STAT_VHVUV, 0)] s t) ∧
    Answers (.auxDesatBlankEnd x high) s (fun t => (if high then (t.aux[x]).monH = a.ho else (t.aux[x]).monL = a.lo) ∧ t = { s with aux := t.aux } ∧
      ∀ y : Fin 4, y ≠ x → t.aux[y] = s.aux[y]) ∧
    ((if high then a.monH else a.monL) = true → x.val < 3 → (s.auxc.short = none ∨ high = true) → Answers (.auxDesat x high) s (fun t =>
      t.bit .AUXH_STAT_DESAT x = true ∧ t.bit .AUX_STAT_ASHORT 0 = true ∧ t.auxc.short = some x ∧ t.getF .AUXH_FCNT_DESAT x = count .AUXH_FCNT_DESAT x 1 ∧
      (∀ y : Fin 4, y.val < 3 → (t.aux[y]).ho = false) ∧ OnlyAux [(.AUXH_STAT_DESAT, x), (.AUXH_FCNT_DESAT, x)] s t)) ∧
    ((if high then a.monH else a.monL) = true → x.val = 3 → Answers (.auxDesat x high) s (fun t => t.bit .AUXH_STAT_DESAT x = true ∧ (t.aux[x]).dsHold = true ∧
      off t x ∧ OnlyAux [(.AUXH_STAT_DESAT, x), (.AUXH_FCNT_DESAT, x)] s t)) ∧
    (a.monL = true → x.val < 3 → s.auxc.short.isSome = true → Sets (.auxDesat x false) s [(.AUXH_FCNT_DESAT, x, count .AUXH_FCNT_DESAT x 1)]) ∧
    (s.fabBus = true → Answers (.auxOverride x h l) s (fun t => t.getF .AUXH_OVR_OVRH x = h.toNat ∧ t.getF .AUXH_OVR_OVRL x = l.toNat ∧
      ((t.aux[x]).hcmd = true ↔ s.getF .AUXH_STAT_ENST x ≠ 0 ∧ (h = 2#2 ∨ (h ≠ 1#2 ∧ a.gH = true))) ∧
      ((t.aux[x]).lcmd = true ↔ s.getF .AUXH_STAT_ENST x ≠ 0 ∧ (l = 2#2 ∨ (l ≠ 1#2 ∧ a.gL = true))) ∧
      ((t.aux[x]).hcmd = true → (t.aux[x]).lcmd = true → t.bit .AUXH_STAT_XCONF x = true) ∧
      OnlyAux [(.AUXH_OVR_OVRH, x), (.AUXH_OVR_OVRL, x)] s t)) ∧
    Answers .auxLinkLoss s (fun t => t.bit .AUX_STAT_LINKLOSS 0 = true ∧ t.auxc.linkDown = true ∧ (∀ y : Fin 4, (t.aux[y]).lkHold = true ∧ off t y) ∧
      OnlyAux [(.AUX_STAT_LINKLOSS, 0)] s t) ∧
    (s.auxc.linkDown = true → Answers .auxLinkReturn s (fun t => t = { s with aux := t.aux, auxc := { s.auxc with linkDown := false } } ∧
      ∀ y : Fin 4, t.aux[y] = { s.aux[y] with lkHold := true })) ∧
    (s.auxc.linkDown = false → Ignores .auxLinkReturn s)

/-- R328 to R335: phases fire in rotation, VID moves REF in steps, and PWRGD, soft start, hiccup and SYNC_IN move SSTATE and their flags. -/
def Claims.Regulator : Prop := ∀ (p : Fin 4) (vid : BitVec 8) (s : State),
  let k := s.getF .VREG_CFG_NPH 0 + 1
  let ref := s.getF .VREG_STAT_REF 0
  let tgt := s.getF .VREG_VID_VID 0
  let hic := s.getF .VREG_STAT_HICCUPS 0
  let mid := { s with vreg := { s.vreg with phase := Vector.replicate 4 .mid } }
  let low := { s with vreg := { s.vreg with phase := s.vreg.phase.set p .low } }
  let active := s.sstate = 1 ∨ s.sstate = 2
  s.aonRuns = true →
  (active → s.vreg.next % k = p.val → s.vreg.phase[p] ≠ .high → Answers .vregPhaseFire s (fun t =>
    t = { s with vreg := { s.vreg with phase := s.vreg.phase.set p .high, next := (p.val + 1) % k } })) ∧
  (s.vreg.phase[p] = .high → Answers (.vregOnTimeEnd p) s (fun t => t = low)) ∧
  (s.vreg.phase[p] = .high → SetsOn (.vregCurrentLimit p) s low
    [(.VREG_CNT_ILIM, 0, min (2 ^ Fld.VREG_CNT_ILIM.width - 1) (s.getF .VREG_CNT_ILIM 0 + 1))]) ∧
  (active → ref < tgt → tgt < 256 → Sets .vregRefStep s [(.VREG_STAT_REF, 0, ref + 1)]) ∧
  (active → tgt < ref → ref ≤ 256 → Sets .vregRefStep s [(.VREG_STAT_REF, 0, ref - 1)]) ∧
  (0x78 ≤ vid.toNat → vid.toNat ≤ 0xB4 → Sets (.vidWrite vid) s [(.VREG_VID_VID, 0, vid.toNat)]) ∧
  (vid.toNat < 0x78 ∨ 0xB4 < vid.toNat → Sets (.vidWrite vid) s [(.VREG_STAT_VIDERR, 0, 1)]) ∧
  (s.sstate = 1 → Sets .pwrgdAssert s [(.VREG_STAT_REF, 0, tgt % 256), (.VREG_STAT_PGOOD, 0, 1), (.VREG_STAT_SSTATE, 0, 2)]) ∧
  (s.sstate = 2 → Sets .pwrgdAssert s [(.VREG_STAT_PGOOD, 0, 1), (.VREG_STAT_SSTATE, 0, 2)]) ∧
  Sets .ovpDetect s [(.VREG_STAT_OVP, 0, 1)] ∧
  (active → s.bit .VREG_STAT_PGOOD 0 = false → (hic < 8 ∨ s.sstate = 2) → SetsOn .softStartTimeout s mid
    [(.VREG_STAT_SSTATE, 0, 0), (.VREG_STAT_HICCUPS, 0, min (2 ^ Fld.VREG_STAT_HICCUPS.width - 1) (hic + 1))]) ∧
  (s.sstate = 1 → s.bit .VREG_STAT_PGOOD 0 = false → 8 ≤ hic → SetsOn .softStartTimeout s mid [(.VREG_STAT_SSTATE, 0, 3), (.PMC_STAGE_REASON, 0, 0x10)]) ∧
  (s.sstate = 0 → hic ≠ 0 → s.bit .THERM_STAT_SHUTLAT 0 = false → Sets .hiccupEnd s [(.VREG_STAT_SSTATE, 0, 1), (.VREG_STAT_REF, 0, 0)]) ∧
  (s.bit .VREG_STAT_PGOOD 0 = true → Sets .hiccupCountClear s [(.VREG_STAT_HICCUPS, 0, 0)]) ∧
  (s.bit .VREG_STAT_SYNCACT 0 = true → Sets .syncInLost s [(.VREG_STAT_SYNCACT, 0, 0), (.VREG_STAT_SYNCLOST, 0, 1)]) ∧
  (s.bit .VREG_CFG_SYNCEN 0 = true → Sets .syncInReacquired s [(.VREG_STAT_SYNCACT, 0, 1)])

/-! Resets and bring-up. -/

/-- The supply flags of the auxiliary drive show what stands at its pins, also behind a reset (R323). -/
def AuxSupplyShown (u t : State) : Prop :=
  t.bit .AUX_STAT_VDRVUV 0 = u.auxc.vdLow ∧ t.bit .AUX_STAT_VHVUV 0 = u.auxc.vhLow ∧ t.auxc.vdLow = u.auxc.vdLow ∧ t.auxc.vhLow = u.auxc.vhLow

/-- A warm reset from `u` (R24, R40, R162, R390, R393, R439): every field of class WR or UR takes its reset value, every other field but the cause is kept, and
so are the memories, but for the image buffer, and the journal; engines, arms, lanes' frames, pegs and session keys are cleared, and so is the header of the
command ring. -/
def WarmReset (cause : Fld) (u t : State) : Prop :=
  t.bit cause 0 = true ∧
  (∀ f i, (f.spec.cls = .wr ∨ f.spec.cls = .ur) → f ≠ .PMC_STAGE_REASON → f ≠ .AUX_STAT_VDRVUV → f ≠ .AUX_STAT_VHVUV → t.getF f i = f.spec.rst) ∧
  AuxSupplyShown u t ∧
  (∀ f i, f.spec.cls ≠ .wr → f.spec.cls ≠ .ur → f ≠ cause → f ≠ .PMC_BTN_ARMED → f ≠ .TOUT_CTRL_ENST → t.getF f i = u.getF f i) ∧
  (∀ n : Fin 24, (t.ce[n]).g = Vector.replicate 32 0#32 ∧ (t.ce[n]).acc = Vector.replicate 4 0#72 ∧ (t.ce[n]).pc = 0#32) ∧
  (∀ k : Fin 256, t.pegs[k] = {}) ∧ (∀ a : Fin 6, t.arms[a] = {}) ∧ (∀ x ∈ t.jnl.sessions, x.key = none ∧ x.newKey = none) ∧
  t.jnl.head = u.jnl.head ∧ t.jnl.done = u.jnl.done ∧ t.jnl.waiting = [] ∧ t.clock = u.clock ∧ t.vreg = u.vreg ∧ t.ser = u.ser ∧ t.variant = u.variant ∧
  t.pmc.failcnt = u.pmc.failcnt ∧ t.sec.slots = u.sec.slots ∧ t.lost = (0x10600000, 0x100000, u.free) :: u.lost ∧
  (∀ x, x < 0x10600000 ∨ 0x10700014 ≤ x → t.byte x = u.byte x) ∧ ∀ k < 20, t.byte (0x10700000 + k) = 0#8

/-- A power-on reset begins in `u` (R24, R67, R449, R496): every class but BK, the clocks gated, the station clock and the SSM's contents lost; the MRAM, the key
slots and the stored SER record stay. -/
def PowerOn (cause : Fld) (u t : State) : Prop :=
  t.bit cause 0 = true ∧
  (∀ f i, (f.spec.cls = .wr ∨ f.spec.cls = .ur ∨ f.spec.cls = .po) → f ≠ .PMC_RSTCAUSE_POR_SUPPLY → f ≠ .PMC_RSTCAUSE_POR_PIN → f ≠ .PMC_BTN_PRESSED →
    f ≠ .SEC_TAMP_PINLVL → (u.bit .THERM_STAT_SHUTLAT 0 = false ∨ (f ≠ .THERM_STAT_SHUTLAT ∧ f ≠ .PMC_PDSTAT_PWR ∧ f ≠ .VREG_STAT_SSTATE)) →
    f ≠ .AUX_STAT_VDRVUV → f ≠ .AUX_STAT_VHVUV → t.getF f i = f.spec.rst) ∧ AuxSupplyShown u t ∧
  (∀ f i, f.spec.cls = .bk → t.getF f i = u.getF f i) ∧ t.gated = 15#4 ∧ t.quadFeed = false ∧ t.clock = {} ∧ t.therm = {} ∧ t.vreg = {} ∧
  t.ser.store = u.ser.store ∧ t.sec.slots = u.sec.slots ∧ (∀ k : Fin 256, t.pegs[k] = {}) ∧ (∀ a, mram ≤ a → t.byte a = u.byte a) ∧
  (∀ x ∈ t.jnl.sessions, x.key = none) ∧ t.pmc.fromPor = true

/-- R162, R440: the cores named are reset alone: each is counted, its pegs break and its holding latch is cleared. -/
def CoresReset (mask : BitVec 4) (more : List (Fld × Nat)) (s t : State) : Prop :=
  (∀ k : Fin 4, t.getF (supCntFld k) 0 = if mask.getLsbD k then min (2 ^ (supCntFld k).width - 1) (s.getF (supCntFld k) 0 + 1) else s.getF (supCntFld k) 0) ∧
  (∀ p : Fin 256, t.pegs[p] = if (s.pegs[p]).held = true ∧ (∃ k : Fin 4, mask.getLsbD k = true ∧ (s.pegs[p]).holder = 0x20 + k.val) then
    { s.pegs[p] with held := false, broken := true, holder := 0x3F, brkBy := (s.pegs[p]).holder } else s.pegs[p]) ∧
  (∀ k : Fin 4, mask.getLsbD k = true → t.secLatch[(⟨k.val, by omega⟩ : Fin 29)] = 0) ∧
  (∀ k : Fin 4, t.sec.halted.getLsbD k = (s.sec.halted.getLsbD k && !mask.getLsbD k)) ∧
  t = { s with regs := t.regs, pegs := t.pegs, secLatch := t.secLatch, jnl := t.jnl, sec := { s.sec with halted := t.sec.halted } } ∧
  RegsBut s t ((List.finRange 4).map (fun k => (supCntFld k, 0)) ++ ([(.JNL_STAT_REPLAYING, 0)] : List (Fld × Nat)) ++ more)

/-- R24, R333, R436 to R440, R443, R444, R465, R496: the resets and the reset button.  A loss of power-good, a request outside S4, a debug reset and a short
press give a warm reset with their cause; a request in S4 resets the masked cores alone, with RSTERR; a core's reset and its watchdog reset that core; the pin and the supply give a power-on reset, held while either lasts or the thermal shutdown is latched; a hold of 5 to 20 s
requests Minimal Mode, and a longer one sets STUCK and disarms the button until it is rearmed. -/
def Obligations.ResetCausesAndClasses : Prop := ∀ (mask : BitVec 4) (k : Fin 4) (ms : Nat) (vio : Bool) (s : State),
  let held := s.pmc.porPin = true ∨ s.pmc.porSupply = true
  let e := s.passTo (s.pmc.pressAt.getD 0 + ms * 400000)
  let up := (e.setF .PMC_BTN_PRESSED 0 0).modPmc (fun p => { p with timing := false, pressAt := none, relAt := e.tick })
  (s.aonRuns = true → s.bit .VREG_STAT_PGOOD 0 = true → Answers .pwrgdDeassert s (WarmReset .PMC_RSTCAUSE_PGOOD_LOSS (s.setF .VREG_STAT_PGOOD 0 0))) ∧
  (s.coresRun = true → s.inS4 = false → Answers (.warmResetRequest mask) s (WarmReset .PMC_RSTCAUSE_SOFTWARE s)) ∧
  (s.coresRun = true → s.inS4 = true → Answers (.warmResetRequest mask) s (fun t => CoresReset mask [(.PMC_RSTCTRL_RSTERR, 0)] s t ∧ t.bit .PMC_RSTCTRL_RSTERR 0 = true)) ∧
  (s.aonRuns = true → s.debugLevel.testBit 1 = true → Answers .debugReset s (WarmReset .PMC_RSTCAUSE_DEBUG s)) ∧
  (s.coresRun = true → Answers (.supReset mask) s (CoresReset mask [] s)) ∧
  (s.coresRun = true → Answers (.supWatchdogExpiry k) s (CoresReset (BitVec.ofNat 4 (2 ^ k.val)) [] s)) ∧
  (s.coresRun = false → Ignores (.supWatchdogExpiry k) s) ∧
  (¬held → Answers .porPin s (fun t => PowerOn .PMC_RSTCAUSE_POR_PIN s t ∧ t.pmc.porPin = true ∧
    (s.bit .THERM_STAT_SHUTLAT 0 = true → t.bit .THERM_STAT_SHUTLAT 0 = true ∧ t.getF .PMC_PDSTAT_PWR 0 = 3 ∧ t.sstate = s.sstate))) ∧
  (held → Answers .porPin s (fun t => t = { s with pmc := { s.pmc with porPin := true } })) ∧
  (s.pmc.porSupply = false → Answers .porSupply s (fun t => PowerOn .PMC_RSTCAUSE_POR_SUPPLY { s with regs := (s.setF .THERM_STAT_SHUTLAT 0 0).regs } t ∧
    t.pmc.porSupply = true ∧ t.pmc.vio = false)) ∧
  (s.pmc.porSupply = true → s.pmc.porPin = false → s.bit .THERM_STAT_SHUTLAT 0 = false →
    SetsOn (.powerOnResetRelease (.supply true vio)) s { s with pmc := { s.pmc with porSupply := false, vio := vio } } [(.VREG_STAT_SSTATE, 0, 1), (.VREG_STAT_REF, 0, 0)]) ∧
  (s.pmc.porSupply = true → Answers (.powerOnResetRelease (.supply false vio)) s (fun t => (∀ f i, f.spec.cls = .bk → t.getF f i = f.spec.rst) ∧
    (∀ f i, f.spec.cls ≠ .bk → f ≠ .VREG_STAT_SSTATE → f ≠ .VREG_STAT_REF → t.getF f i = s.getF f i) ∧
    t = { s with regs := t.regs, pmc := { s.pmc with porSupply := false, vio := vio } })) ∧
  (s.pmc.porSupply = true → s.pmc.porPin = true →
    Answers (.powerOnResetRelease (.pin vio)) s (fun t => t = { s with pmc := { s.pmc with porPin := false, vio := vio } })) ∧
  (s.aonRuns = false → Ignores .buttonPress s ∧ Ignores (.buttonRelease ms) s ∧ Ignores .buttonStuck s ∧ Ignores .buttonRearm s) ∧
  (s.aonRuns = true → s.bit .PMC_BTN_PRESSED 0 = false → SetsOn .buttonPress s { s with
    pmc := { s.pmc with timing := s.bit .PMC_BTN_ARMED 0, pressAt := some s.tick } } [(.PMC_BTN_PRESSED, 0, 1)]) ∧
  (s.aonRuns = true → s.bit .PMC_BTN_PRESSED 0 = true → s.pmc.timing = false → Answers (.buttonRelease ms) s (fun t => t = up)) ∧
  (s.aonRuns = true → s.bit .PMC_BTN_PRESSED 0 = true → s.pmc.timing = true → ms < 5000 →
    Answers (.buttonRelease ms) s (WarmReset .PMC_RSTCAUSE_BUTTON (up.setF .PMC_BTN_HOLDMS 0 ms))) ∧
  (s.aonRuns = true → s.bit .PMC_BTN_PRESSED 0 = true → s.pmc.timing = true → 5000 ≤ ms → ms ≤ 20000 →
    SetsOn (.buttonRelease ms) s { e with pmc := { s.pmc with timing := false, pressAt := none, relAt := e.tick, mmreq := true } }
      [(.PMC_BTN_PRESSED, 0, 0), (.PMC_BTN_HOLDMS, 0, ms)]) ∧
  (s.aonRuns = true → s.bit .PMC_BTN_PRESSED 0 = true → s.pmc.timing = true → 20000 < ms →
    SetsOn (.buttonRelease ms) s { e with pmc := { s.pmc with timing := false, pressAt := none, relAt := e.tick } }
      [(.PMC_BTN_PRESSED, 0, 0), (.PMC_BTN_HOLDMS, 0, 20001)]) ∧
  (∀ t0, s.aonRuns = true → s.bit .PMC_BTN_PRESSED 0 = true → s.pmc.pressAt = some t0 →
    let b := s.passTo (t0 + 20001 * 400000)
    SetsOn .buttonStuck s { b with pmc := { s.pmc with timing := false, pressAt := none, log := s.pmc.log ++ [.stuckButton] } }
      ([(.PMC_BTN_STUCK, 0, 1), (.PMC_BTN_ARMED, 0, 0)] ++ if s.pmc.timing then [(.PMC_BTN_HOLDMS, 0, 20001)] else [])) ∧
  (s.aonRuns = true → s.bit .PMC_BTN_PRESSED 0 = false → SetsOn .buttonRearm s (s.passTo (s.pmc.relAt + 1000 * 400000)) [(.PMC_BTN_ARMED, 0, 1)])

/-- R435, R441, R442, R445 to R447, R473, R475, R476: the stages S0 to S4.
The boot ROM enters Minimal Mode with the reason of the first check that fails, and else counts the start, chooses the firmware slot and leads to S1;
the firmware leads to S2, a completed activation to S3, and ARM, where every condition of R442 holds, to S4 with the patterns off; ARM elsewhere shows the
blocking condition with ARMERR; DISARM returns to S3 unless SER is in PERMIT and nothing is muted; the start record is cleared and the floors raised. -/
def Obligations.BringUpStages : Prop := ∀ (freeok : Bool) (x : RomStart) (s : State),
  let rails := 1620 < x.vio ∧ 810 < x.vsd ∧ 1080 < x.vsdt ∧ 1620 < x.vana
  let start := rails ∧ s.stage = 0 ∧ s.pmc.porPin = false ∧ s.pmc.porSupply = false ∧ s.bit .VREG_STAT_PGOOD 0 = true ∧ s.bit .THERM_STAT_SHUTLAT 0 = false ∧
    s.getF .PMC_STAGE_REASON 0 ≠ 0x10
  let minimal := fun (r : Nat) (t : State) => t.stage = 1 ∧ t.minimal = true ∧ t.getF .PMC_STAGE_REASON 0 = r ∧ t.role = 0 ∧ t.pmc.safSlot = none ∧
    t.serState = s.serState ∧ SameMem s t
  let c := (s.modSec SecSt.levelArb).modPmc PmcSt.startSlot
  let b := (s.setBit .PMC_ARM_FREEOK 0 freeok).armBlock
  let ready := s.stage = 3 ∧ s.minimal = false ∧ s.bit .VREG_STAT_PGOOD 0 = true ∧ s.bit .THERM_STAT_BLKREQ 0 = false ∧ s.serState = 5 ∧ s.mstate = false ∧
    s.unresolved = false ∧ s.atuOn = true ∧ s.fretOn = true ∧ s.modOn = true ∧
    (s.bit .ATU_STAT_LOCKED 0 = true ∨ (s.src = 2 ∧ freeok = true) ∨ ((s.role = 1 ∨ s.role = 2) ∧ s.bit .MIR_STAT_SYNCED 0 = true))
  (¬start → Ignores (.bootRomStart x) s) ∧
  (start → x.mramOk = false → Answers (.bootRomStart x) s (minimal 5)) ∧
  (start → x.mramOk = true → s.pmc.mmreq = true → Answers (.bootRomStart x) s (minimal 2)) ∧
  (start → x.mramOk = true → s.pmc.mmreq = false → 3 ≤ s.pmc.failcnt → Answers (.bootRomStart x) s (minimal 1)) ∧
  (start → x.mramOk = true → s.pmc.mmreq = false → s.pmc.failcnt < 3 → s.keysRevoked = true → Answers (.bootRomStart x) s (minimal 6)) ∧
  (start → x.mramOk = true → s.pmc.mmreq = false → s.pmc.failcnt < 3 → s.keysRevoked = false → c.chooseSlot = none →
    Answers (.bootRomStart x) s (fun t => minimal 3 t ∧ t.getF .SEC_STAT_LASTRES 0 = c.stationCode (1 - c.pmc.slot) % 16)) ∧
  (∀ j, start → x.mramOk = true → s.pmc.mmreq = false → s.pmc.failcnt < 3 → s.keysRevoked = false → c.chooseSlot = some j →
    (s.serState = 0 → s.serOk j = false → Answers (.bootRomStart x) s (minimal 4)) ∧
    (s.serState ≠ 0 ∨ s.serOk j = true → Answers (.bootRomStart x) s (fun t => t.stage = 1 ∧ t.minimal = s.minimal ∧ t.pmc.slot = j ∧
      t.pmc.safSlot = some j ∧ t.pmc.failcnt = s.pmc.failcnt + 1 ∧ t.role = 0 ∧ t.getF .SEC_STAT_LASTRES 0 = 0 ∧
      (∀ k : Fin 4, s.gated.getLsbD k = true → s.refOk = true → (t.bandOf k).isSome = true → t.bit .CLK_PLL_STAT_ACQ k = true) ∧ SameMem s t))) ∧
  (s.stage = 1 → s.minimal = false → s.coresRun = true → SetsOn .firmwareStart s
    { s with
      pmc := { s.pmc with s2At := s.tick }, jnl := { s.jnl with hcmdUsed := s.jnl.hcmdPort, scanned := false },
      sec := { s.sec with runFw := objArb (s.stationObj s.pmc.slot), fwHash := objPhash (s.stationObj s.pmc.slot) } }
    [(.PMC_STAGE_STAGE, 0, 2), (.JNL_STAT_REPLAYING, 0, 1), (.JNL_STAT_ENST, 0, 1)]) ∧
  (s.stage = 2 → s.coresRun = true → s.pmc.actAny = true → s.pmc.actDue = 0#24 → s.actBusy = false →
    Sets .stageS3Entry s [(.PMC_STAGE_STAGE, 0, 3)]) ∧
  (s.stage ≠ 2 ∨ s.pmc.actAny = false ∨ s.pmc.actDue ≠ 0#24 ∨ s.actBusy = true → Ignores .stageS3Entry s) ∧
  (2 ≤ s.stage → Answers .startOk s (fun t => t = { s.passTo (s.pmc.s2At + max 1 (s.getF .PMC_START_STARTOK 0) * 400000000) with
    pmc := { s.pmc with failcnt := 0, trial := false, trialBegun := false },
    sec := { s.sec with arbFw := ⟨s.sec.arbFw.fuses, max s.sec.arbFw.mirror (min 63 s.sec.runFw)⟩,
                        arbSer := ⟨s.sec.arbSer.fuses, max s.sec.arbSer.mirror (min 63 s.sec.runSer)⟩ } })) ∧
  (s.coresRun = true → ¬ready → 0 < b ∧ b ≤ 8 ∧
    Sets (.arm freeok) s [(.PMC_ARM_FREEOK, 0, b2n freeok), (.PMC_ARM_BLK, 0, b), (.PMC_ARM_ARMERR, 0, 1)]) ∧
  (s.coresRun = true → ready → Answers (.arm freeok) s (fun t => t.stage = 4 ∧ t.getF .PMC_ARM_BLK 0 = 0 ∧ SameMem s t ∧
    (∀ n : Fin 96, t.bit .CL_PATCTRL_GENEN n = false ∧ t.getF .CL_PATCTRL_LOOP n = 0) ∧
    (∀ m : Fin 4, t.bit .ML_PATCTRL_GENEN m = false ∧ t.getF .ML_PATCTRL_LOOP m = 0) ∧
    t = { s with regs := t.regs, lanes := t.lanes, ml := t.ml, mlOrdered := t.mlOrdered, twin := t.twin })) ∧
  (s.coresRun = true → s.inS4 = true → (s.mstate = true ∨ s.serState ≠ 5) → Sets .disarm s [(.PMC_STAGE_STAGE, 0, 3)]) ∧
  (s.coresRun = true → s.inS4 = true → s.mstate = false → s.serState = 5 → Sets .disarm s [(.PMC_ARM_DISERR, 0, 1)])

/-! Clocks, power and temperature. -/

/-- A declared loss of a clock: every ball of the PWM is off (R298, R456). -/
def ClockLost (t : State) : Prop :=
  t.bit .CLK_LOSS_ACTIVE 0 = true ∧ ∀ n : Fin 24, t.bit .PW_STAT_HON n = false ∧ t.bit .PW_STAT_LON n = false

/-- R451 to R457: the losses of the reference, of a PLL and of RC16, the locks after 256 REF cycles, the load of PLL3's dither generator at an acquisition, and
the band tables. -/
def Claims.Clocks : Prop := ∀ (n : Fin 4) (m : Fin 16) (w : Word) (s : State),
  let i := n.val * 16 + m.val
  let lanes := fun (t : State) => ∀ k : Fin 96, s.laneUp k = true → t.lstate k = 1 ∧ t.bit .CL_PHYSTAT_LOSS k = true
  (s.aonRuns = false → s.refOk = true → Answers .refLoss s (fun t => t.refOk = false ∧ t.gated = s.gated ∧
    t.bit .CLK_LOSS_ACTIVE 0 = s.bit .CLK_LOSS_ACTIVE 0 ∧ SameMem s t)) ∧
  (s.aonRuns = true → s.refOk = true → Answers .refLoss s (fun t => ClockLost t ∧ t.bit .CLK_LOSS_REF 0 = true ∧ t.refOk = false ∧ t.gated = 15#4 ∧ t.quadFeed = s.quadFeed ∧
    (∀ k : Fin 4, s.gated.getLsbD k = false → t.bit .CLK_PLL_STAT_LOSS k = true ∧ t.bit .CLK_PLL_STAT_LOCKED k = false) ∧
    (s.quadFeed = true → ∀ k : Fin 96, s.laneUp k = true → (t.lanes[k]).burst = some (burstAt (s.lanes[k]).burst s.tick (s.setTime k) 8)) ∧
    t.lossAt = s.tick ∧ SameMem s t)) ∧
  (s.gated.getLsbD 2 = true → s.quadFeed = true → Answers .quadFeedGate s (fun t => t.quadFeed = false ∧ t.tick = max s.tick (s.lossAt + 80) ∧ lanes t ∧ SameMem s t)) ∧
  (s.aonRuns = true → s.pllLocked n = true → Answers (.pllLockLoss n) s (fun t => ClockLost t ∧ t.gated = s.gated ||| BitVec.ofNat 4 (2 ^ n.val) ∧
    t.bit .CLK_PLL_STAT_LOSS n = true ∧ t.bit .CLK_PLL_STAT_LOCKED n = false ∧ t.testF .CLK_LOSS_CAUSE 0 n = true ∧ (n = 2 → lanes t ∧ t.quadFeed = false) ∧
    (n ≠ 0 → s.fabRuns = true → ∀ k : Fin 24, s.pairOk k = true → t.bit .PW_TRIP_CLKLOSS k = true) ∧
    (s.bit .CLK_PLL_CTRL_AUTORELOCK n = true → s.refOk = true → (s.bandOf n).isSome = true → t.bit .CLK_PLL_STAT_ACQ n = true) ∧ SameMem s t)) ∧
  (s.aonRuns = true → Answers .rc16Loss s (fun t => ClockLost t ∧ t.rc16Ok = false ∧ t.bit .CLK_LOSS_RC16 0 = true ∧ t.gated = s.gated ∧ SameMem s t)) ∧
  (s.aonRuns = true → s.bit .CLK_PLL_STAT_ACQ n = true → s.refOk = true → Answers (.pllLock n) s (fun t => t.bit .CLK_PLL_STAT_LOCKED n = true ∧
    t.tick = max s.tick (s.acqAt[n] + 4096) ∧ t.bit .CLK_PLL_STAT_ACQ n = false ∧ t.gated = s.gated &&& ~~~BitVec.ofNat 4 (2 ^ n.val) ∧ (n = 2 → t.quadFeed = true) ∧
    (n = 0 → s.awake = true → s.bit .CLK_LOSS_ACTIVE 0 = true → t.latched 68 = true ∧ ∀ k : Fin 24, s.pairOk k = true → t.bit .PW_TRIP_CLKLOSS k = true) ∧
    ((∀ k : Fin 4, k ≠ n → s.pllLocked k = true) → t.bit .CLK_LOSS_ACTIVE 0 = false) ∧ SameMem s t)) ∧
  (s.aonRuns = true → s.gated.getLsbD n = true → s.refOk = true → s.bit .CLK_PLL_STAT_ACQ n = false →
    ((s.bandOf n).isSome = true → SetsOn (.pllRelock n) s { s with
      acqAt := s.acqAt.set n s.tick, ditherAt := if n = 3 then s.tick else s.ditherAt,
      ditherSeed := if n = 3 then (if s.getF .CLK_PLL_DITHER_SEED 3 = 0 then 0xACE1#16 else BitVec.ofNat 16 (s.getF .CLK_PLL_DITHER_SEED 3)) else s.ditherSeed }
      [(.CLK_PLL_STAT_ACQ, n, 1)]) ∧
    (s.bandOf n = none → Sets (.pllRelock n) s [(.CLK_PLL_STAT_NOBAND, n, 1)])) ∧
  (s.refOk = false → Answers .referenceReturn s (fun t => t.refOk = true ∧ t.gated = s.gated ∧ SameMem s t ∧
    (∀ k : Fin 4, s.aonRuns = true → s.gated.getLsbD k = true → s.bit .CLK_PLL_CTRL_AUTORELOCK k = true → (s.bandOf k).isSome = true → t.bit .CLK_PLL_STAT_ACQ k = true))) ∧
  (s.busRuns = true → s.bit .CLK_PLL_STAT_ACQ n = true → Sets (.bandWrite n m w) s [(.CLK_PLL_STAT_BTERR, n, 1)]) ∧
  (s.busRuns = true → s.bit .CLK_PLL_STAT_ACQ n = false → Sets (.bandWrite n m w) s [(.CLK_PLL_BAND_VALID, i, w.toNat / 2 ^ 31), (.CLK_PLL_BAND_BAND, i, w.toNat / 2 ^ 24 % 64),
    (.CLK_PLL_BAND_FLO, i, w.toNat / 2 ^ 12 % 4096), (.CLK_PLL_BAND_FHI, i, w.toNat % 4096)])

/-- R43, R458 to R466: power domains go off when they are asked and all their units are OFF, and come back with their registers at reset; the thermal
supervisor's maximum, throttle, block and shutdown. -/
def Claims.PowerAndHeat : Prop := ∀ (req : BitVec 10) (d : Fin 14) (ts : List (BitVec 16)) (fail mask : BitVec 12) (s : State),
  let may := fun (j : Nat) => switchableMask.testBit j = true ∧ s.variant.hasDomain (j + 4) = true
  let unmasked := ∃ i : Fin 12, s.testF .THERM_MASK_MASK 0 i = false
  let max_ := fun (t : State) => (BitVec.ofNat 16 (t.getF .THERM_MAX_MAX 0)).toInt
  let warmer := fun (v : Int) (t : State) => v ≤ max_ t
  (s.coresRun = true → Answers (.powerDomainRequest req) s (fun t =>
    (∀ j < 10, (may j ∧ ¬(s.inS4 = true ∧ req.getLsbD j = true) → t.testF .PMC_PDREQ_REQ 0 j = req.getLsbD j) ∧
      (¬may j → t.testF .PMC_PDREQ_REQ 0 j = s.testF .PMC_PDREQ_REQ 0 j)) ∧
    ((∃ j < 10, may j ∧ s.inS4 = true ∧ req.getLsbD j = true ∧ s.testF .PMC_PDREQ_REQ 0 j = false) → t.bit .PMC_PDSTAT_PDERR 0 = true) ∧
    (∀ e < 14, 4 ≤ e → t.testF .PMC_PDREQ_REQ 0 (e - 4) = true → s.domainOff e = true → t.powered e = false) ∧
    (∀ e < 14, (e < 4 ∨ t.testF .PMC_PDREQ_REQ 0 (e - 4) = false) → t.powered e = s.powered e))) ∧
  (s.aonRuns = true → s.offAsked d = true → s.powered d = true → s.domainOff d = true → Answers (.powerDownDone d) s (fun t => t.powered d = false ∧
    (d = 10 → s.stage ≠ 0 → t.role = 0 ∧ t.bit .PWM_STAT_OWNER 0 = true) ∧ (d = 13 → AuxSupplyShown s t) ∧
    ∀ f i, f.spec.cls ≠ .bk → fldDomain f (i % 1024) = d.val → f ≠ .CLG_CTRL_CLRGO → f ≠ .CLG_STAT_CLRDONE → f ≠ .AUX_STAT_VDRVUV →
      f ≠ .AUX_STAT_VHVUV → t.getF f i = f.spec.rst)) ∧
  (s.aonRuns = true → s.variant.hasDomain d = true → s.powered d = false → 4 ≤ d.val → s.offAsked d = false → s.bit .THERM_STAT_SHUTLAT 0 = false →
    Answers (.powerUpDone d) s (fun t => t.powered d = true ∧ (d = 13 → AuxSupplyShown s t) ∧
      ∀ f i, f.spec.cls ≠ .bk → fldDomain f (i % 1024) = d.val → f ≠ .CLG_CTRL_CLRGO → f ≠ .CLG_STAT_CLRDONE → f ≠ .AUX_STAT_VDRVUV →
        f ≠ .AUX_STAT_VHVUV → t.getF f i = f.spec.rst)) ∧
  (s.aonRuns = true → Answers (.thermalSample ts fail) s (fun t =>
    (∀ i : Fin 12, let v := ts.getD i 0#16
      (s.bit .THERM_TS_BROKEN i = true ∨ v.toInt < -960 ∨ 2560 < v.toInt → t.bit .THERM_TS_BROKEN i = true) ∧
      (t.bit .THERM_TS_BROKEN i = true → t.getF .THERM_TS_TEMP i = 2400) ∧ (t.bit .THERM_TS_BROKEN i = false → t.getF .THERM_TS_TEMP i = v.toNat)) ∧
    (unmasked → (∃ i : Fin 12, s.testF .THERM_MASK_MASK 0 i = false ∧ max_ t = t.temp i ∧ t.getF .THERM_MAX_ARGMAX 0 = i.val) ∧
      ∀ i : Fin 12, s.testF .THERM_MASK_MASK 0 i = false → t.temp i ≤ max_ t) ∧
    (s.getF .THERM_STAT_THROTTLE 0 = 0 → 1 ≤ s.therm.hot2 → warmer 1600 t → t.getF .THERM_STAT_THROTTLE 0 = 1) ∧
    (s.getF .THERM_STAT_THROTTLE 0 = 0 → ¬warmer 1600 t → t.getF .THERM_STAT_THROTTLE 0 = 0) ∧
    (s.bit .THERM_STAT_BLKREQ 0 = false → 1 ≤ s.therm.hotB → warmer 1840 t → t.bit .THERM_STAT_BLKREQ 0 = true ∧
      (s.fabRuns = true → t.latched 66 = true ∧ t.mstate = true)) ∧
    (s.bit .THERM_STAT_BLKREQ 0 = true → warmer 1760 t → t.bit .THERM_STAT_BLKREQ 0 = true))) ∧
  (s.aonRuns = true → s.getF .THERM_STAT_THROTTLE 0 = 1 → 200 ≤ s.therm.hot4 → Sets .throt4Entry s [(.THERM_STAT_THROTTLE, 0, 2)]) ∧
  (s.aonRuns = true → 2 ≤ s.therm.hotS → s.bit .THERM_STAT_SHUTLAT 0 = false → Answers .thermalShutdown s (fun t =>
    t.bit .THERM_STAT_SHUTLAT 0 = true ∧ t.bit .THERM_BKREC_SHUT125 0 = true ∧ t.getF .PMC_PDSTAT_PWR 0 = 3 ∧
    t.getF .VREG_STAT_SSTATE 0 = (if s.getF .VREG_STAT_SSTATE 0 = 3 then 3 else 0) ∧
    (∀ p : Fin 4, t.vreg.phase[p] = .mid) ∧ t.serState = 0 ∧ t.getF .CE_STAT_ENST 0 = 0 ∧ t.getF .PMC_STAGE_STAGE 0 = s.getF .PMC_STAGE_STAGE 0)) ∧
  (s.coresRun = true → (s.inS4 = true ∨ mask = 0xFFF#12) → Sets (.thermMaskWrite mask) s [(.THERM_STAT_MASKERR, 0, 1)]) ∧
  (s.coresRun = true → s.inS4 = false → mask ≠ 0xFFF#12 → Answers (.thermMaskWrite mask) s (fun t => t.getF .THERM_MASK_MASK 0 = mask.toNat ∧
    (∀ i : Fin 12, mask.getLsbD i = false → t.temp i ≤ max_ t) ∧ (∃ i : Fin 12, mask.getLsbD i = false ∧ max_ t = t.temp i) ∧
    OnlyRegs s t [(.THERM_MASK_MASK, 0), (.THERM_MAX_MAX, 0), (.THERM_MAX_ARGMAX, 0)]))

/-! Safe Energy Removal. -/

/-- Nothing but SAF's state and its registers changes. -/
def OnlySer (s t : State) : Prop :=
  t = { s with regs := t.regs, ser := t.ser } ∧
  RegsBut s t [(.SER_STAT_STATE, 0), (.SER_STAT_PERMIT, 0), (.SER_STAT_FAULT, 0), (.SER_STAT_FAULTIDX, 0), (.SER_STAT_NEWREC, 0),
    (.SER_STAT_RECERR, 0), (.SER_STAT_CONFIRMED, 0), (.SER_STAT_SOUTST, 0), (.SER_SIN_RAW, 0), (.SER_SIN_FILTERED, 0), (.SER_SIN_DEMAND, 0),
    (.SER_PCRC_PCRC, 0), (.SER_CONF_CONF, 0), (.SER_STARTUP_SOUTOK, 0), (.SER_STARTUP_TPOOK, 0), (.SER_STARTUP_OPENSEEN, 0),
    (.SER_STARTUP_DONE, 0), (.SER_TEST_NOTDONE, 0), (.SER_TEST_TESTRES, 0), (.SER_CNT_DEMCNT, 0)]

/-- The input is used and the filter, after this sample, shows it closed: FILT samples in a row that agree, or the old state (R342). -/
def FilteredClosed (s : State) (closed : BitVec 8) (n : Fin 8) : Prop :=
  let r := s.ser.record
  let raw := closed.getLsbD n
  let run := if raw = s.testF .SER_SIN_RAW 0 n then min 64 (s.ser.run[n] + 1) else 1
  sinFunc r n ≠ 0 ∧ if sinFilt r n ≤ run then raw = true else s.testF .SER_SIN_FILTERED 0 n = true

/-- R342, R343, R345 to R354, R357 to R359: one safety cycle filters the samples; a demand in PERMIT asserts source 65 and orders the cut, all closed leads
from DEMAND to RECOVERY, a restart to PERMIT in the next cycle alone, a diagnostic that fails to the safe state, and a stored record is taken. -/
def Claims.SafetyCycles : Prop := ∀ (closed : BitVec 8) (rb : BitVec 4) (diag : SafDiag) (s : State),
  let r := s.ser.record
  let demands := ∃ n : Fin 8, sinFunc r n ≠ 0 ∧ ¬FilteredClosed s closed n
  let quiet := fun (t : State) => diag = .ok ∧ t.discFault = none ∧ s.soutFault rb = none
  let code := match diag with | .ok => 0 | .mem => 2 | .clock => 4 | .param => 6
  let cycle := Instr.safetyCycle closed rb diag
  let on := s.serState ≠ 0 ∧ s.sysRuns = true
  let sout := if s.ser.cut.isSome then 0#4 else s.ser.sout
  let lit := fun (t : State) => t.ser.sout = if t.ser.cut.isSome then s.ser.sout &&& ~~~(match s.ser.dark with
    | some k => BitVec.ofNat 4 (2 ^ k.val) | none => 0#4) else s.ser.sout
  (¬on → Ignores cycle s) ∧
  (on → Answers cycle s (fun t => OnlySer s t ∧ t.ser.stuckOn = rb &&& ~~~sout ∧ t.ser.stuckOff = sout &&& ~~~rb ∧ t.ser.cycles = s.ser.cycles + 1 ∧
    t.ser.store = s.ser.store ∧ t.ser.confirm = s.ser.confirm)) ∧
  (on → s.ser.cut = none → s.takesRecord = false → s.serRecord = true → Answers cycle s (fun t =>
    ∀ n : Fin 8, t.testF .SER_SIN_RAW 0 n = (decide (sinFunc r n ≠ 0) && closed.getLsbD n) ∧
      (t.testF .SER_SIN_FILTERED 0 n = true ↔ FilteredClosed s closed n) ∧
      (t.testF .SER_SIN_DEMAND 0 n = true ↔ sinFunc r n ≠ 0 ∧ ¬FilteredClosed s closed n))) ∧
  (s.serState = 5 → s.sysRuns = true → s.serRecord = true → s.ser.cut = none → Answers cycle s (fun t => t.serState = 5 ∧ lit t ∧
    (demands → t.ser.cut.isSome = true ∧ t.ser.demand = true ∧ t.asserted 65 = true) ∧ (demands → quiet t → t.ser.cut = some 3) ∧
    (¬demands → quiet t → t.ser.cut = none ∧ t.asserted 65 = false) ∧
    (diag ≠ .ok → t.ser.cut = some 6 ∧ t.getF .SER_STAT_FAULT 0 = code))) ∧
  (s.serState = 3 → s.sysRuns = true → s.serRecord = true → s.ser.cut = none → s.takesRecord = false → Answers cycle s (fun t =>
    (demands → quiet t → t.serState = 3) ∧
    (¬demands → quiet t → t.serState = 4 ∧ t.getF .SER_STARTUP_TPOOK 0 = 0 ∧ t.getF .SER_STARTUP_SOUTOK 0 = 0) ∧
    (diag ≠ .ok → t.serState = 6 ∧ t.getF .SER_STAT_FAULT 0 = code ∧ t.ser.sout = 0#4))) ∧
  (s.serState = 4 → s.sysRuns = true → s.serRecord = true → s.ser.cut = none → s.takesRecord = false → Answers cycle s (fun t => t.ser.restart = false ∧
    (s.ser.restart = true → ¬demands → quiet t → t.serState = 5 ∧ t.bit .SER_STAT_PERMIT 0 = true ∧ t.ser.sout = BitVec.ofNat 4 (recSouten r)) ∧
    ((s.ser.restart = false ∨ demands) → quiet t → t.serState = 4 ∧ (s.ser.dark = none → t.ser.sout = s.ser.sout)))) ∧
  (s.serState = 1 → s.sysRuns = true → s.takesRecord = false → s.ser.cut = none → Answers cycle s (fun t =>
    t.getF .SER_CONF_CONF 0 = s.ser.confirm.toNat ∧
    (s.serRecord = true → s.ser.confirm.toNat = s.getF .SER_PCRC_PCRC 0 → t.bit .SER_STAT_CONFIRMED 0 = true) ∧
    (s.serRecord = false ∨ s.ser.confirm.toNat ≠ s.getF .SER_PCRC_PCRC 0 → quiet t → t.serState = 1))) ∧
  (on → s.serState ≠ 5 → s.takesRecord = true → s.ser.cut = none → Answers cycle s (fun t => t.ser.record = s.ser.store ∧ t.ser.fresh = false ∧
    (recordValid s.ser.store = false → s.porFault = false → quiet t → t.bit .SER_STAT_RECERR 0 = true ∧ t.getF .SER_PCRC_PCRC 0 = 0 ∧ t.serState = 1 ∧
      t.bit .SER_STAT_CONFIRMED 0 = false ∧ t.ser.sout = 0#4) ∧
    (recordValid s.ser.store = true → t.bit .SER_STAT_RECERR 0 = false ∧ t.getF .SER_PCRC_PCRC 0 = crc32c s.ser.store) ∧
    (s.porFault = true → s.getF .SER_STAT_FAULT 0 ≠ 0 → t.serState = 6 ∧ t.getF .SER_STAT_FAULT 0 = s.getF .SER_STAT_FAULT 0)))

/-- R340, R344, R345, R347, R351 to R354: the start of SAF's firmware, the cut 5 µs after source 65, the test pulses and dark pulses with their checks, the
end of a proof test, and the failures that the hardware detects. -/
def Claims.SafetyTests : Prop := ∀ (k : Fin 4) (closed before : BitVec 8) (s : State),
  let r := s.ser.record
  let c := s.ser.cycles
  let runs := s.sysRuns = true ∧ s.serRecord = true ∧ s.serState ≠ 0 ∧ s.ser.cut = none
  let again := fun (redo : BitVec 4) (start : Nat) => redo ≠ 0#4 ∧ c = start + 1 ∧ s.getF .SER_SIN_DEMAND 0 = 0
  let due := fun (i : Nat) (redo : BitVec 4) (start : Nat) => (s.serState = 7 ∧ 1 ≤ s.ser.test ∧ s.ser.test ≤ 64 ∧ (s.ser.test - 1) % 4 = k.val) ∨
    (s.serState ≠ 7 ∧ ((again redo start ∧ redo.getLsbD k = true ∧ ∀ j < k.val, redo.getLsbD j = false) ∨
      (¬again redo start ∧ 1 ≤ c ∧ (c - 1) % i = 0 ∧ (c - 1) / i % 4 = k.val)))
  let on := BitVec.ofNat 4 (2 ^ k.val)
  let plus := fun (v : Vector Nat 4) => v.set k.val (v[k] + if s.serState = 7 then 1 else 0)
  let own := fun (n : Fin 8) => sinFunc r n ≠ 0 ∧ sinTpo r n = k.val ∧ before.getLsbD n = true
  let checks := s.serState = 2 ∨ s.serState = 4
  let fails := fun (code idx : Nat) (t : State) => OnlySer s t ∧
    (s.serState ≠ 6 → t.getF .SER_STAT_FAULT 0 = code ∧ t.getF .SER_STAT_FAULTIDX 0 = idx) ∧
    (s.serState = 5 → t.serState = 5 ∧ t.ser.cut = some 6 ∧ t.asserted 65 = true) ∧
    (s.serState ≠ 5 → t.serState = 6) ∧ (s.serState ≠ 5 → s.serState ≠ 6 → t.ser.sout = 0#4) ∧
    (s.serState = 6 → 0x10 ≤ s.getF .SER_STAT_FAULT 0 → t.getF .SER_STAT_FAULT 0 = code ∧ t.getF .SER_STAT_FAULTIDX 0 = idx) ∧
    (s.serState = 7 → t.getF .SER_TEST_TESTRES 0 = 2)
  let latched := s.serState = 6 ∧ 0 < s.getF .SER_STAT_FAULT 0 ∧ s.getF .SER_STAT_FAULT 0 < 0x10
  let forced := fun (code : Nat) (t : State) => t.serState = 6 ∧ t.bit .SER_STAT_PERMIT 0 = false ∧ t.ser.sout = 0#4 ∧ t.ser.cut = none ∧
    OnlySer s t ∧ (t.getF .SER_STAT_FAULT 0 = if latched then s.getF .SER_STAT_FAULT 0 else code) ∧
    (t.getF .SER_CNT_DEMCNT 0 = min 65535 (s.getF .SER_CNT_DEMCNT 0 + if s.ser.demand then 1 else 0))
  let proof := 64 ≤ s.ser.test ∧ ∀ j : Fin 4, 16 ≤ s.ser.tpoRuns[j] ∧ ((recSouten r).testBit j = true → 16 ≤ s.ser.soutRuns[j])
  (∀ j, s.pmc.safSlot = some j → s.serState = 0 → s.sysRuns = true → s.serOk j = true → SetsOn .serFirmwareStart s { s with
    ser := { s.ser with fresh := !s.ser.store.isEmpty, cycles := 0, tpoAt := 0, darkAt := 0 }, sec := { s.sec with runSer := objArb (s.serObj j), serHash := objPhash (s.serObj j) } }
    [(.SER_STAT_STATE, 0, 1), (.SER_STAT_PERMIT, 0, 0), (.SER_VER_VERSION, 0, objVersion (s.serObj j) % 2 ^ 32)]) ∧
  (∀ v, s.ser.cut = some v → v < 8 → s.sysRuns = true →
    SetsOn .serSoutCut s { s with ser := { s.ser with sout := 0#4, cut := none, demand := false } }
      [(.SER_STAT_STATE, 0, v), (.SER_STAT_PERMIT, 0, if v = 5 then 1 else 0),
       (.SER_CNT_DEMCNT, 0, min 65535 (s.getF .SER_CNT_DEMCNT 0 + if s.ser.demand then 1 else 0))]) ∧
  (runs → s.ser.pulse = none → s.ser.recovery = none → s.ser.tpoAt < c → due (recTpi r) s.ser.redoTpo s.ser.tpoFrom →
    Answers (.tpoPulse k) s (fun t => t = { s with ser := { s.ser with
      pulse := some (k, BitVec.ofNat 8 (s.getF .SER_SIN_RAW 0)), tpoAt := c, tpoFrom := c, redoTpo := s.ser.redoTpo &&& ~~~BitVec.ofNat 4 (2 ^ k.val) } })) ∧
  (s.sysRuns = true → s.ser.pulse = some (k, before) → (∀ n, own n → closed.getLsbD n = false) → Answers (.tpoPulseEnd k closed) s (fun t =>
    t = { s with ser := { s.ser with pulse := none, recovery := some (k, before), cross := t.ser.cross } } ∧ ∀ n : Fin 8, own n → t.ser.cross.getLsbD n = false)) ∧
  (∀ n : Fin 8, s.sysRuns = true → s.ser.pulse = some (k, before) → own n → closed.getLsbD n = true → (∀ m, m < n → own m → closed.getLsbD m = false) →
    Answers (.tpoPulseEnd k closed) s (fails (if s.ser.cross.getLsbD n then 0x11 else 0x10) n)) ∧
  (s.sysRuns = true → s.ser.recovery = some (k, before) → Answers (.tpoRecoveryCheck k closed) s (fun t => t.ser.recovery = none ∧
    t.serState = s.serState ∧ OnlySer s t ∧ t.ser.sout = s.ser.sout ∧ t.ser.tpoRuns = plus s.ser.tpoRuns ∧
    ((∀ n, own n → closed.getLsbD n = true) → checks → t.getF .SER_STARTUP_TPOOK 0 = s.getF .SER_STARTUP_TPOOK 0 % 16 ||| 2 ^ k.val) ∧
    ((¬∀ n, own n → closed.getLsbD n = true) → t = { s with ser := { s.ser with recovery := none, tpoRuns := plus s.ser.tpoRuns } }))) ∧
  (runs → s.ser.dark = none → (recSouten r).testBit k = true → s.ser.darkAt < c → due (recDpi r) s.ser.redoSout s.ser.soutFrom →
    Answers (.soutDarkPulse k) s (fun t => t = { s with ser := { s.ser with
      dark := some k, darkAt := c, soutFrom := c, redoSout := s.ser.redoSout &&& ~~~BitVec.ofNat 4 (2 ^ k.val) } } ∧ t.soutOn.getLsbD k = false)) ∧
  (s.sysRuns = true → s.ser.dark = some k → SetsOn (.darkPulseEnd k .low) s { s with ser := { s.ser with
      dark := none, stuckOn := s.ser.stuckOn &&& ~~~on, soutRuns := plus s.ser.soutRuns } }
    [(.SER_STARTUP_SOUTOK, 0, if checks then s.getF .SER_STARTUP_SOUTOK 0 % 16 ||| 2 ^ k.val else s.getF .SER_STARTUP_SOUTOK 0)]) ∧
  (s.sysRuns = true → s.ser.dark = some k → Answers (.darkPulseEnd k .high) s (fun t => fails 0x20 k t ∧ t.ser.sout.getLsbD k = false ∧
    t.ser.dark = none)) ∧
  (s.sysRuns = true → s.ser.dark = some k → s.serState ≠ 7 → Answers (.darkPulseEnd k .unsupplied) s (fun t => t = { s with ser := { s.ser with
      dark := none, stuckOn := s.ser.stuckOn &&& ~~~on, soutRuns := s.ser.soutRuns } })) ∧
  (s.sysRuns = true → s.ser.dark = some k → s.serState = 7 → Answers (.darkPulseEnd k .unsupplied) s (fails 0x21 k)) ∧
  (s.serState = 7 → s.sysRuns = true → proof → Sets .proofTestEnd s [(.SER_TEST_TESTRES, 0, 1), (.SER_STAT_STATE, 0, 4), (.SER_STAT_PERMIT, 0, 0),
    (.SER_STARTUP_TPOOK, 0, 0), (.SER_STARTUP_SOUTOK, 0, 0)]) ∧
  (¬proof → Ignores .proofTestEnd s) ∧
  (s.aonRuns = true → Answers .lockstepFault s (forced 1) ∧ (s.serState ≠ 0 → Answers .serWatchdogExpiry s (forced 3)) ∧
    Answers .safeSupplyFault s (forced 5))

/-! Host ports. -/

/-- The receive slot of the ring's head (R365). -/
def rxSlot (s : State) (p : Fin 4) : Nat :=
  s.getF .HP_RQBASE_ADDR p * 4096 + s.getF .HP_RQIDX_HEAD p % ringN (s.getF .HP_RQBASE_LOG2N p) 4 10 * 2048

/-- The ring has a free slot, in the SSM, for a frame of this length. -/
abbrev RxRoom (s : State) (p : Fin 4) (len : Nat) : Prop :=
  (s.getF .HP_RQIDX_HEAD p + 65536 - s.getF .HP_RQIDX_TAIL p) % 65536 < ringN (s.getF .HP_RQBASE_LOG2N p) 4 10 ∧ inSsm (rxSlot s p) (32 + len) = true

/-- The fields of a bus error and of the SSM's counts, which an access of the host DMA to an uncorrectable word moves (R155, R489). -/
def hostErrFields : List (Fld × Nat) :=
  [(.SSM_ECCCNT_UNC, 0), (.SSM_ECCCNT_COR, 0), (.SSM_ECCADDR_ADDR, 0), (.SYS_BUSERR_COUNT, 0), (.SYS_BUSERR_VALID, 0), (.SYS_BUSERR_CAUSE, 0),
   (.SYS_BUSERR_AGENT, 0), (.SYS_BUSADDRLO_ADDR, 0), (.SYS_BUSADDRHI_ADDR, 0), (.SYS_BUSADDRHI_WRITE, 0)]

/-- The frame is delivered: its header (Table 14-2) and its bytes stand in the slot, HEAD has advanced, and no other byte of memory has changed; a rest within
an uncorrectable word is not stored, and is a bus error (R155). -/
def Delivered (p : Fin 4) (f : List Byte) (flags stamp : Nat) (s t : State) : Prop :=
  let all := leBytes 2 f.length ++ leBytes 1 flags ++ leBytes 1 p.val ++ leBytes 4 stamp ++ List.replicate 24 0#8 ++ f
  let whole := all.length / 4 * 4
  let cut := whole < all.length ∧ s.badWord (rxSlot s p + whole) = true
  (¬cut → t.readList (rxSlot s p) (32 + f.length) = all) ∧
  (cut → t.readList (rxSlot s p) whole = all.take whole ∧ t.bit .SYS_BUSERR_VALID 0 = true) ∧
  t.getF .HP_RQIDX_HEAD p = (s.getF .HP_RQIDX_HEAD p + 1) % 65536 ∧ MemBut s t (rxSlot s p) (32 + f.length)

/-- Nothing but memory with its check bits, the listed fields and those of a host DMA error changes. -/
def HostWrote (more : List (Fld × Nat)) (s t : State) : Prop :=
  t = { s with regs := t.regs, mem := t.mem, eccBad := t.eccBad, eccSoft := t.eccSoft, resp := t.resp } ∧ RegsBut s t (more ++ hostErrFields) ∧
  (s.eccBad = [] → RegsBut s t more ∧ t.resp = s.resp)

/-- R155, R363, R365, R369, R374, R378 to R380: a frame with a wrong FCS or length is counted; PRP discards the second copy; a frame is delivered with its flags
and stamp, or dropped; a matched frame gives its record, and the selected stream its samples to the ATU. -/
def Claims.HostReception : Prop := ∀ (p : Fin 4) (f fcs : List Byte) (ago : Nat) (k : Fin 2) (s : State),
  let good := fcs = leBytes 4 (crcOf 0xEDB88320 f) ∧ 60 ≤ f.length ∧ f.length + 4 ≤ s.maxlen p
  let stamp := s.stampAt ago (-(s.getF .HP_TSLAT_RXLAT p : Int))
  let ptp := if isPtpEvent f then 8 else 0
  let tag := if (rctOf f).isSome then 1 else 0
  let table := (s.prp[pairIdx p]).table
  let mac := beAt f 6 6
  let rx := Instr.hostFrameReceived p f fcs ago
  let count := fun (fl : Fld) (i : Nat) => min (2 ^ fl.width - 1) (s.getF fl i + 1)
  let full := ringN (s.getF .HP_RQBASE_LOG2N p) 4 10 ≤ (s.getF .HP_RQIDX_HEAD p + 65536 - s.getF .HP_RQIDX_TAIL p) % 65536
  (s.hpUp p = false → Ignores rx s) ∧
  (s.hpUp p = true → ¬good → Sets rx s [(.HP_ERRCNT_RXBAD, p, count .HP_ERRCNT_RXBAD p)]) ∧
  (s.hpUp p = true → good → s.joined p = false → s.svEntry p f = none → full → Sets rx s [(.HP_ERRCNT_RXFULL, p, count .HP_ERRCNT_RXFULL p)]) ∧
  (s.hpUp p = true → good → (s.joined p = false ∨ rctOf f = none) → s.svEntry p f = none → RxRoom s p f.length → Answers rx s (fun t =>
    Delivered p f (tag + ptp) stamp s t ∧ HostWrote [(.HP_RQIDX_HEAD, p)] s t)) ∧
  (∀ seq lan, s.hpUp p = true → good → s.joined p = true → rctOf f = some (seq, lan) →
    let wrong := if lan ≠ lanOf p then 1 else 0
    let same := fun (e : PrpEntry) => e.mac == mac && e.seq == seq
    let new := table.filter (fun e => !same e) ++ [⟨mac, seq, p.val, s.tick⟩]
    let lanCount := fun (t : State) => t.getF .HP_PRPCNT_WRONGLAN (evenPort p) =
      min (2 ^ Fld.HP_PRPCNT_WRONGLAN.width - 1) (s.getF .HP_PRPCNT_WRONGLAN (evenPort p) + wrong)
    ((∃ e ∈ table, same e = true ∧ e.port ≠ p.val) → Answers rx s (fun t => lanCount t ∧ RegsBut s t [(.HP_PRPCNT_WRONGLAN, evenPort p)] ∧
      t = { (s.modPrp (pairIdx p) (fun x => { x with table := table.filter (fun e => !same e) })) with regs := t.regs })) ∧
    ((∀ e ∈ table, same e = true → e.port = p.val) → s.svEntry p f = none → RxRoom s p f.length → Answers rx s (fun t =>
      Delivered p f (1 + 2 * wrong + ptp) stamp s t ∧ lanCount t ∧
      (new.length ≤ 2048 → (t.prp[pairIdx p]).table = new ∧ t.getF .HP_PRPCNT_EVICT (evenPort p) = s.getF .HP_PRPCNT_EVICT (evenPort p)) ∧
      (2048 < new.length → (t.prp[pairIdx p]).table = new.drop 1 ∧ t.getF .HP_PRPCNT_EVICT (evenPort p) = count .HP_PRPCNT_EVICT (evenPort p)) ∧
      HostWrote [(.HP_RQIDX_HEAD, p), (.HP_PRPCNT_WRONGLAN, evenPort p), (.HP_PRPCNT_EVICT, evenPort p)]
        (s.modPrp (pairIdx p) (fun x => { x with table := (t.prp[pairIdx p]).table })) t))) ∧
  (∀ n, s.hpUp p = true → good → s.joined p = false → s.svEntry p f = some n → svDecode (f.drop (etherOff f + 2)) = none → RxRoom s p f.length →
    Answers rx s (fun t => Delivered p f (tag + 4 + ptp) stamp s t ∧ t.getF .SVF_CNT_BAD n = count .SVF_CNT_BAD n ∧
      HostWrote [(.HP_RQIDX_HEAD, p), (.SVF_CNT_BAD, n)] s t)) ∧
  (∀ n a, s.hpUp p = true → good → s.joined p = false → s.svEntry p f = some n → svDecode (f.drop (etherOff f + 2)) = some [a] → full →
    let w := s.getF .SVF_IDX_WIDX n
    let addr := s.getF .SVF_RING_ADDR n * 4096 + w % ringN (s.getF .SVF_RING_LOG2N n) 4 12 * 128
    let x := s.angleAgo (s.svAge a.cnt)
    let next := s.svExp.set n (some (if a.cnt = s.svWrap then 0 else a.cnt + 1))
    inSsm addr 128 = true →
      (s.svStream ≠ n.val → Answers rx s (fun t => t.readList addr 128 = a.record 0 stamp ∧ MemBut s t addr 128 ∧ t.getF .SVF_IDX_WIDX n = (w + 1) % 65536 ∧
        (∀ e, s.svExp[n] = some e → a.cnt = e → t.getF .SVF_CNT_MISS n = min 65535 (s.getF .SVF_CNT_MISS n)) ∧
        HostWrote [(.SVF_IDX_WIDX, n), (.SVF_CNT_MISS, n), (.HP_ERRCNT_RXFULL, p)] { s with svExp := next } t)) ∧
      (s.svStream = n.val → s.asduInvalid n a = false → (s.svExp[n] = none ∨ s.svExp[n] = some a.cnt) → Answers rx s (fun t =>
        t.readList addr 128 = a.record 0 stamp ∧ t.svFeed.miss = 0 ∧ t.atu = { s.atu with svTr := { s.atu.svTr with
          pherr := (Config.phaseOf (Config.rotate (((a.chans.drop (s.getF .SVF_CTRL_VCH n)).take 3).map (fun c =>
            (x, (BitVec.ofNat 32 c.1).toInt))))).toInt,
          fresh := true } }))) ∧
  (∀ e rest, s.powered 9 = true → s.awake = true → (s.prp[k]).table = e :: rest → Answers (.prpEntryExpiry k) s (fun t =>
    t = (s.passTo (e.since + s.getF .HP_PRP_FORGET (2 * k.val) * 400000)).modPrp k (fun x => { x with table := rest }))) ∧
  ((s.prp[k]).table = [] → Ignores (.prpEntryExpiry k) s)

/-- The queue's one descriptor is done: STATUS is written, HEAD has advanced, and no other byte of memory has changed (R366). -/
def TxDone (p : Fin 4) (q : Fin 2) (status : Nat) (s t : State) : Prop :=
  t.word (s.tqAddr p q + 20) = BitVec.ofNat 32 (status * 2 ^ 28) ∧ t.getF (tqFlds q).head p = (s.getF (tqFlds q).head p + 1) % 65536 ∧
  MemBut s t (s.tqAddr p q + 20) 4

/-- The same as `HostWrote`, where a correctable word that is read counts too. -/
def HostRead (more : List (Fld × Nat)) (s t : State) : Prop :=
  t = { s with regs := t.regs, mem := t.mem, eccBad := t.eccBad, eccSoft := t.eccSoft, resp := t.resp } ∧ RegsBut s t (more ++ hostErrFields)

/-- R363, R366 to R368, R375, R376: descriptors become heads, of which a DUP head takes its SeqNr and hands the partner its copy, wait for their time, and are
sent with their FCS, with or without a timestamp; a DRAINING port finishes its frame alone. -/
def Obligations.HostTransmission : Prop := ∀ (p : Fin 4) (q : Fin 2) (tail : BitVec 16) (busy : Bool) (ago : Nat) (s : State),
  let d := s.txDesc (s.tqAddr p q)
  let h := s.hp[p]
  let ready := s.portBus p = true
  let on := s.getF .HP_STAT_ENST p = 1
  let oneLeft := fun (v : Nat) => v = (s.getF (tqFlds q).head p + 1) % 65536 ∧ inSsm (s.tqAddr p q + 20) 4 = true
  let one := oneLeft (s.getF (tqFlds q).tail p)
  let src := if q = 0 then TxSource.queue0 else .queue1
  let turn := s.badDesc p q d = false ∧ (q = 0 → d.ltype = 0 ∨ h.due.isSome = true) ∧ (q = 1 → s.queue1May p (d.len + if (h.seqs[q]).isSome then 6 else 0) ago = true)
  let flows := s.hpUp p = true ∧ on ∧ h.last = none
  let goes := flows ∧ one ∧ turn
  let dup := d.dup = true ∧ s.joined p = true
  let status := if q = 0 ∧ d.ltype ≠ 0 ∧ h.due = some true then 2 else 1
  let body := (s.hostRead d.addr d.len).1
  let f := match h.seqs[q] with | some seq => rct body seq (lanOf p) | none => body
  let wire := fun (g : List Byte) => g ++ leBytes 4 (crcOf 0xEDB88320 g)
  let stamp := s.stampAt ago (s.getF .HP_TSLAT_TXLAT p)
  let gone := fun (h' : HpSt) => { h' with due := if q = 0 then none else h.due, seqs := h.seqs.set q none }
  let headed := { gone h with headAt := if q = 0 then s.tick else h.headAt }
  let wait := d.timing q
  let fresh := ready ∧ on ∧ s.tqEmpty p q = true
  let sent := fun (st : Nat) (more : List (Fld × Nat)) (h' : HpSt) (t : State) =>
    TxDone p q st s t ∧ HostRead (((tqFlds q).head, p.val) :: more) (s.modHp p (fun _ => gone h')) t
  (ready → (s.tqEmpty p q = false ∨ ¬on) → Sets (.txQueueTailWrite p q tail) s [((tqFlds q).tail, p, tail.toNat)]) ∧
  (fresh → tail.toNat = s.getF (tqFlds q).head p → SetsOn (.txQueueTailWrite p q tail) s (s.modHp p gone) [((tqFlds q).tail, p, tail.toNat)]) ∧
  (fresh → tail.toNat ≠ s.getF (tqFlds q).head p → s.badDesc p q d = false → ¬dup → (wait.ltype = 0 ∨ s.launchLost wait = false) →
    Answers (.txQueueTailWrite p q tail) s (fun t => t.getF (tqFlds q).tail p = tail.toNat ∧ SameMem s t ∧
      HostRead [((tqFlds q).tail, p)] (s.modHp p (fun _ => { headed with due := if q = 0 then s.dueNow wait else h.due })) t)) ∧
  (fresh → tail.toNat ≠ s.getF (tqFlds q).head p → s.badDesc p q d = false → dup → wait.ltype = 0 → Answers (.txQueueTailWrite p q tail) s (fun t =>
    let seq := (s.prp[pairIdx p]).seqTx
    (t.prp[pairIdx p]).seqTx = (seq + 1) % 65536 ∧ (t.hp[p]).seqs = h.seqs.set q (some seq) ∧ SameMem s t ∧
    (s.getF .HP_STAT_ENST (partner p) = 1 → (t.hp[partner p]).dups = (s.hp[partner p]).dups ++
      [{ frame := rct body seq (lanOf (partner p)), stamped := d.ts, tsid := d.tsid, tref := d.tref, timing := wait }]) ∧
    (s.getF .HP_STAT_ENST (partner p) ≠ 1 → t.hp[partner p] = s.hp[partner p]) ∧
    HostRead [((tqFlds q).tail, p)] { s with hp := t.hp, prp := t.prp } t)) ∧
  (fresh → oneLeft tail.toNat → s.badDesc p q d = true → Answers (.txQueueTailWrite p q tail) s (fun t =>
    TxDone p q 5 s t ∧ HostRead [((tqFlds q).head, p), ((tqFlds q).tail, p)] (s.modHp p gone) t)) ∧
  (fresh → oneLeft tail.toNat → s.badDesc p q d = false → wait.ltype ≠ 0 → s.launchLost wait = true → Answers (.txQueueTailWrite p q tail) s (fun t =>
    TxDone p q 3 s t ∧ HostRead [((tqFlds q).head, p), ((tqFlds q).tail, p)] (s.modHp p gone) t)) ∧
  (let r := s.reachLaunch wait
   q = 0 → s.tqEmpty p q = false → h.due = none → wait.ltype ≠ 0 →
    (s.hpUp p = true → r.launchDue wait = true → r.launchLost wait = true → h.last = none → one → Answers (.timedLaunchDue ⟨p, false⟩ busy) s (fun t =>
      TxDone p q 3 s t ∧ HostRead [((tqFlds q).head, p)] (r.modHp p gone) t)) ∧
    (s.hpUp p = true → r.launchDue wait = true → r.launchLost wait = false → Answers (.timedLaunchDue ⟨p, false⟩ busy) s (fun t => t = r.modHp p (fun x => { x with due := some busy }))) ∧
    ((s.hpUp p = false ∨ r.launchDue wait = false) → Ignores (.timedLaunchDue ⟨p, false⟩ busy) s)) ∧
  (∀ x rest, h.dups = x :: rest → x.timing.ltype ≠ 0 → x.due = none →
    let r := s.reachLaunch x.timing
    (s.hpUp p = true → r.launchDue x.timing = true → r.launchLost x.timing = true → rest = [] → Answers (.timedLaunchDue ⟨p, true⟩ busy) s (fun t =>
      t = r.modHp p (fun y => { y with dups := [] }))) ∧
    (s.hpUp p = true → r.launchDue x.timing = true → r.launchLost x.timing = false → Answers (.timedLaunchDue ⟨p, true⟩ busy) s (fun t =>
      t = r.modHp p (fun y => { y with dups := { x with due := some busy } :: rest }))) ∧
    ((s.hpUp p = false ∨ r.launchDue x.timing = false) → Ignores (.timedLaunchDue ⟨p, true⟩ busy) s)) ∧
  (goes → d.ts = false → Answers (.hostFrameSent p src ago) s (sent status [] { h with lastTx := wire f })) ∧
  (goes → d.ts = true → s.bit .HP_CTRL_TXTS p = false → h.tsq.length < 16 →
    Answers (.hostFrameSent p src ago) s (sent status [] { h with lastTx := wire f, tsq := h.tsq ++ [(d.tsid, stamp)] })) ∧
  (goes → d.ts = true → s.bit .HP_CTRL_TXTS p = false → 16 ≤ h.tsq.length → Answers (.hostFrameSent p src ago) s (fun t =>
    sent status [(.HP_STAT_TSQ_OVF, p)] { h with lastTx := wire f } t ∧ t.bit .HP_STAT_TSQ_OVF p = true)) ∧
  (∀ g, goes → d.ts = true → s.bit .HP_CTRL_TXTS p = true → oneStep f stamp d.tref = some g →
    Answers (.hostFrameSent p src ago) s (sent status [] { h with lastTx := wire g })) ∧
  (goes → d.ts = true → s.bit .HP_CTRL_TXTS p = true → oneStep f stamp d.tref = none →
    Answers (.hostFrameSent p src ago) s (sent 4 [] { h with lastTx := wire f })) ∧
  (flows → (s.tqEmpty p q = true ∨ ¬turn) → Ignores (.hostFrameSent p src ago) s) ∧
  (s.hpUp p = true → s.getF .HP_STAT_ENST p = 2 → (∀ j, h.last = some j → j.src ≠ src) → Ignores (.hostFrameSent p src ago) s) ∧
  (∀ j, s.hpUp p = true → s.getF .HP_STAT_ENST p = 2 → h.last = some j → j.src = src → inSsm (j.slot + 20) 4 = true → j.stamped = false →
    Answers (.hostFrameSent p src ago) s (fun t => t.word (j.slot + 20) = BitVec.ofNat 32 ((if j.late then 2 else 1) * 2 ^ 28) ∧
      MemBut s t (j.slot + 20) 4 ∧ t.getF (tqFlds q).head p = (s.getF (tqFlds q).head p + 1) % 65536 ∧
      (t.hp[p]).lastTx = wire j.frame ∧ t.getF .HP_STAT_ENST p = 0 ∧ t.hpState p = 0 ∧
      HostRead [((tqFlds q).head, p), (.HP_STAT_ENST, p), (.HP_STAT_PSTATE, p)]
        (s.modHp p (fun _ => { h with lastTx := wire j.frame, last := none })) t)) ∧
  (∀ x rest, flows → h.dups = x :: rest → (x.timing.ltype = 0 ∨ x.due.isSome = true) → x.stamped = false →
    Answers (.hostFrameSent p .copy ago) s (fun t => (t.hp[p]).lastTx = wire x.frame ∧ t = s.modHp p (fun _ => { h with lastTx := wire x.frame, dups := (t.hp[p]).dups }) ∧
      (rest = [] → (t.hp[p]).dups = []) ∧ (∀ y ys, rest = y :: ys → y.timing.ltype = 0 → y.due = none → (t.hp[p]).dups = rest))) ∧
  (∀ x rest, ready → h.tsq = x :: rest → Answers (.tsqPop p) s (fun t =>
    t = { (s.modHp p (fun _ => { h with tsq := rest })) with resp := ⟨BitVec.ofNat 32 x.2, [], false⟩ }))

/-- R200, R362 to R364, R374 (Table 14-11): the link states, the negotiation, and the latencies that a new mode or speed loads; a receiver that adapts writes
PEAK when frames begin to flow. -/
def Claims.HostLinks : Prop := ∀ (p : Fin 4) (mode speed : BitVec 2) (s : State),
  let ready := s.portBus p = true
  let restarts := s.getF .HP_STAT_ENST p = 1 ∧ s.hpState p ≠ 4
  let live := s.portOk p = true ∧ s.powered 9 = true ∧ s.hostRuns p = true ∧ s.getF .HP_STAT_ENST p ≠ 0 ∧ s.hpState p ≠ 4
  let quiet := s.getF .HP_STAT_ENST p ≠ 1 ∨ (s.tqEmpty p 0 = true ∧ (s.hp[p]).dups = [])
  let aneg := s.getF .HP_CTRL_MODE p ≠ 0 ∧ s.bit .HP_CTRL_ANEN p = true
  let old := s.getF .HP_STAT_SPEED p
  let tx := fun (m sp : Nat) => if m = 0 then 42 else if m = 2 ∧ sp = 0 then 888 else if m = 2 ∧ sp = 1 then 168 else 88
  let rx := fun (m sp : Nat) => if m = 0 then 66 else if m = 2 ∧ sp = 0 then 976 else if m = 2 ∧ sp = 1 then 256 else 176
  let m := s.getF .HP_CTRL_MODE p
  let up := fun (c : Instr) (l : List (Fld × Nat × Nat)) => Answers c s (fun t => t.hpState p = 3 ∧ (∀ e ∈ l, t.getF e.1 e.2.1 = e.2.2) ∧
    (quiet → t = { s with regs := t.regs, free := t.free, hp := t.hp } ∧ (∀ k : Fin 4, t.hp[k] = s.hp[k]) ∧
    RegsBut s t ((.HP_STAT_PSTATE, p.val) :: l.map (fun e => (e.1, e.2.1)) ++ if s.bit .HP_RXEQ_ADAPT p then [(.HP_RXEQ_PEAK, p.val)] else [])))
  (live → SetsOn (.hostLinkStateChange p .lost) s (s.modHp p (fun h => { h with last := none })) [(.HP_STAT_PSTATE, p, 1)]) ∧
  (live → s.hpState p = 1 → aneg → Sets (.hostLinkStateChange p .locked) s [(.HP_STAT_PSTATE, p, 2)]) ∧
  (live → s.hpState p = 1 → ¬aneg → up (.hostLinkStateChange p .locked) []) ∧
  (live → s.hpState p = 2 → Sets (.hostLinkStateChange p (.negotiated true speed)) s [(.HP_STAT_HDXERR, p, 1)]) ∧
  (live → s.hpState p = 2 → m = 2 → speed.toNat ≠ old → speed ≠ 3#2 → up (.hostLinkStateChange p (.negotiated false speed))
    [(.HP_STAT_SPEED, p, speed.toNat), (.HP_TSLAT_TXLAT, p, tx 2 speed.toNat), (.HP_TSLAT_RXLAT, p, rx 2 speed.toNat)]) ∧
  (live → s.hpState p = 2 → (m ≠ 2 ∨ speed.toNat = old ∨ speed = 3#2) → up (.hostLinkStateChange p (.negotiated false speed)) []) ∧
  (¬live → Ignores (.hostLinkStateChange p .lost) s ∧ Ignores (.hostLinkStateChange p .locked) s) ∧
  (ready → mode = 3#2 → Sets (.hpModeWrite p mode) s [(.HP_STAT_MODEERR, p, 1)]) ∧
  (ready → mode ≠ 3#2 → mode.toNat = m → Sets (.hpModeWrite p mode) s [(.HP_TSLAT_TXLAT, p, tx m old), (.HP_TSLAT_RXLAT, p, rx m old)]) ∧
  (ready → mode ≠ 3#2 → mode.toNat ≠ m → restarts → Sets (.hpModeWrite p mode) s
    [(.HP_CTRL_MODE, p, mode.toNat), (.HP_TSLAT_TXLAT, p, tx mode.toNat old), (.HP_TSLAT_RXLAT, p, rx mode.toNat old), (.HP_STAT_PSTATE, p, 1)]) ∧
  (ready → mode ≠ 3#2 → mode.toNat ≠ m → ¬restarts → Sets (.hpModeWrite p mode) s
    [(.HP_CTRL_MODE, p, mode.toNat), (.HP_TSLAT_TXLAT, p, tx mode.toNat old), (.HP_TSLAT_RXLAT, p, rx mode.toNat old)])

/-! Host commands. -/

/-- The one reply (or notice) that this command sends: on both ports of a joined pair (R386), with its tag under a key (R388). -/
def Tagged (s : State) (r : Reply) (key : Option (List Byte)) : Reply :=
  { r with both := s.joined r.peer.port, tag := key.map (fun k => Config.kmacTag k (r.bytes ++ asciiBytes "AG96RSP")) }

/-- The command sends this reply and changes nothing else. -/
def Replies (r : Reply) (key : Option (List Byte)) (s t : State) : Prop := t = { s with jnl := { s.jnl with replies := [Tagged s r key] } }

/-- A sessioned request is answered at this port, sessions are served, and its tag is valid (R388, R394).  `u` is the state that goes on:
a tag under the pending key alone has made it the session's key (R389); the session's idle time begins anew and the leases of its locks
are renewed (R390, R407). -/
def Authentic (r : Req) (code : Nat) (body : List Byte) (s u : State) : Prop :=
  let id := r.session.toNat
  let msg := reqBytes id code r.seq.toNat r.peer.reqid.toNat r.notify r.rsv body
  s.answers r.peer = true ∧ s.bringup = none ∧ ∃ x, s.sess id = some x ∧ (tagOk x.key msg r.tag = true ∨ tagOk x.newKey msg r.tag = true) ∧
    u = { s with jnl := { s.jnl with
      sessions := s.jnl.sessions.map (fun y => if y.id = id then
        { y with key := if tagOk x.key msg r.tag = true then y.key else y.newKey,
                 newKey := if tagOk x.key msg r.tag = true then y.newKey else none, seen := s.tick } else y),
      locks := s.jnl.locks.map (fun l => if l.holder = some id then { l with due := s.tick + s.jnl.lease * 400000000 } else l) } }

/-- No session key makes its tag valid. -/
def Unauthentic (r : Req) (code : Nat) (body : List Byte) (s : State) : Prop :=
  s.answers r.peer = true ∧ s.bringup = none ∧ ∀ x, s.sess r.session.toNat = some x →
    tagOk x.key (reqBytes r.session.toNat code r.seq.toNat r.peer.reqid.toNat r.notify r.rsv body) r.tag = false ∧
    tagOk x.newKey (reqBytes r.session.toNat code r.seq.toNat r.peer.reqid.toNat r.notify r.rsv body) r.tag = false

/-- What every sessioned request meets first (R388, R389, R394, R403): no answer, a refusal in bring-up, a discard that is counted. -/
def SessionedFront (c : Instr) (r : Req) (code : Nat) (body : List Byte) (s : State) : Prop :=
  (s.answers r.peer = false → Answers c s (fun t => t = s.noReplies)) ∧
  (s.answers r.peer = true → ∀ st, s.bringup = some st →
    Answers c s (Replies { peer := r.peer, session := r.session.toNat, code := code, seq := r.seq.toNat, status := st } (s.keyOf r.session.toNat) s)) ∧
  (Unauthentic r code body s → SetsOn c s s.noReplies [(.JNL_CNT0_BADTAG, 0, min 65535 (s.getF .JNL_CNT0_BADTAG 0 + 1))])

/-- The session's requests are decided one by one (R395): none of it waits for its commit and none is queued. -/
def InTurn (id : Nat) (s : State) : Prop := s.jnl.busy id = false ∧ ∀ q ∈ s.jnl.queue, Queued.session q ≠ id

/-- A request that finds an undecided one of its session waits in the queue, and gets BUSY where eight of them wait already (R395). -/
def OutOfTurn (c : Instr) (id : Nat) (q : Queued) (busy : State → Prop) (s u : State) : Prop :=
  let mine := (s.jnl.queue.filter (fun x => Queued.session x == id)).length
  ¬InTurn id s → (mine < 8 → Answers c s (fun t => t = { u with jnl := { u.jnl with replies := [], queue := s.jnl.queue ++ [q] } })) ∧
    (8 ≤ mine → Answers c s busy)

/-- The class S commands with their codes and bodies (Table 15-2). -/
def ClassS (r : Req) (c : Instr) (code : Nat) (body : List Byte) : Prop :=
  (c = .closeSession r ∧ code = 0x200 ∧ body = []) ∨ (∃ k, c = .lockTake r k ∧ code = 0x201 ∧ body = [k]) ∨
  (∃ k kb, c = .lockRelease r k kb ∧ code = 0x202 ∧ body = [k, kb]) ∨ (c = .convCmd r body ∧ code = 0x300) ∨
  (c = .muteReq r ∧ code = 0x301 ∧ body = []) ∨
  (∃ pid v, c = .paramWrite r pid v ∧ code = 0x400 ∧ body = leBytes 2 pid.toNat ++ leBytes 2 v.length ++ v) ∨
  (∃ w, c = .imageStage r w ∧ code = 0x401 ∧ body = leBytes 4 w.toNat) ∨
  (∃ w m v, c = .imageActivate r w m v ∧ code = 0x402 ∧ body = leBytes 4 w.toNat ++ [m] ++ leBytes 4 v.toNat) ∨
  (c = .serParam r body ∧ code = 0x500) ∨ (∃ w, c = .serConfirm r w ∧ code = 0x501 ∧ body = leBytes 4 w.toNat) ∨
  (c = .serRestart r ∧ code = 0x502 ∧ body = []) ∨ (c = .serTest r ∧ code = 0x503 ∧ body = []) ∨
  (∃ w v, c = .fwStage r w v ∧ code = 0x600 ∧ body = leBytes 4 w.toNat ++ leBytes 4 v.toNat) ∨ (c = .fwActivate r ∧ code = 0x601 ∧ body = [])

/-- R388, R391, R394 to R397: what each class S command meets, in the order of R394: format, sequence, stage, profile, unit, lock, journal space.  One that passes
waits for its commit; a duplicate gets its reply again. -/
def Obligations.SequencedRequests : Prop := ∀ (r : Req) (c : Instr) (code : Nat) (body : List Byte) (s : State),
  let id := r.session.toNat
  let last := ((s.sess id).getD { id := 0, cred := 0 }).last
  let d := (BitVec.ofNat 32 (r.seq.toNat + 2 ^ 32 - last)).toInt
  ClassS r c code body → SessionedFront c r code body s ∧ ∀ u, Authentic r code body s u →
    let reply := fun (code : Nat) (st : Nat) (bd : List Byte) => Replies
      { peer := r.peer, session := id, code := code, seq := r.seq.toNat, status := st, body := bd } (u.keyOf id) u
    let auth := s.commanding = true ∧ InTurn id s
    let fmt := bodyOk code body = true
    let stage := s.stageOk code = true
    let prof := s.profileOk id code body = true
    let unit := s.unitBad code body = false
    let k := s.jnl.head + s.jnl.waiting.length
    let counted := fun (st : Nat) (bd : List Byte) (f : Fld) (t : State) =>
      reply code st bd { t with regs := u.regs } ∧ t.getF f 0 = min 65535 (s.getF f 0 + 1) ∧ RegsBut s t [(f, 0)]
    let queued : SReq := ⟨r.peer, id, r.seq.toNat, r.notify, code, body⟩
    OutOfTurn c id (.seq queued) (reply code 0x14 []) s u ∧
    (s.commanding = false → InTurn id s → Answers c s (fun t => t = u.noReplies)) ∧
    (auth → ¬fmt → Answers c s (reply code 0x10 [])) ∧
    (auth → fmt → 2 ≤ d → Answers c s (counted 0x12 (leBytes 4 (last + 1)) .JNL_CNT0_NEEDSEQ)) ∧
    (auth → fmt → d ≤ 0 → s.entryOf id r.seq.toNat = none → Answers c s (counted 1 [] .JNL_CNT1_DUP)) ∧
    (∀ j, auth → fmt → d ≤ 0 → s.entryOf id r.seq.toNat = some j → ¬(s.entCode j = code ∧ s.entBody j = body) →
      Answers c s (counted 0x13 [] .JNL_CNT1_DUP)) ∧
    (∀ j, auth → fmt → d ≤ 0 → s.entryOf id r.seq.toNat = some j → s.entCode j = code → s.entBody j = body → Answers c s (fun t =>
      let waits := s.entState j ≠ 3 ∧ (r.notify = true ∨ ∃ e ∈ s.jnl.notify, e.1 = j)
      (waits → t.jnl.notify = (j, r.peer) :: s.jnl.notify.filter (fun e => e.1 != j)) ∧ (¬waits → t.jnl.notify = s.jnl.notify) ∧
      Replies { peer := r.peer, session := id, code := code, seq := r.seq.toNat, dup := true, status := 0, solo := s.entField j 0x1A 2 % 2 == 1,
                result := s.entResult j, jidx := j, body := (s.entRdata j).take (if code = 0x201 ∨ code = 0x202 then 1 else 0) } (u.keyOf id)
        { u with jnl := { u.jnl with notify := t.jnl.notify } } { t with regs := u.regs } ∧
      t.getF .JNL_CNT1_DUP 0 = min 65535 (s.getF .JNL_CNT1_DUP 0 + 1) ∧ RegsBut s t [(.JNL_CNT1_DUP, 0)])) ∧
    (auth → fmt → d = 1 → ¬stage → Answers c s (reply code 0x22 [])) ∧
    (auth → fmt → d = 1 → stage → ¬prof → Answers c s (reply code 0x20 [])) ∧
    (auth → fmt → d = 1 → stage → prof → ¬unit → Answers c s (reply code 0x23 [])) ∧
    (∀ h, auth → fmt → d = 1 → stage → prof → unit → s.lockBad id (lockOf code) = some h → Answers c s (reply code 0x21 (leBytes 2 h))) ∧
    (auth → fmt → d = 1 → stage → prof → unit → s.lockBad id (lockOf code) = none → s.getF .JNL_STAT_ENST 0 ≠ 1 →
      Answers c s (reply code 0x14 [])) ∧
    (auth → fmt → d = 1 → stage → prof → unit → s.lockBad id (lockOf code) = none → s.getF .JNL_STAT_ENST 0 = 1 →
      65536 ≤ k - s.jnl.reclaim → Answers c s (counted 0x24 [] .JNL_CNT1_FULL)) ∧
    (auth → fmt → d = 1 → stage → prof → unit → s.lockBad id (lockOf code) = none → s.getF .JNL_STAT_ENST 0 = 1 →
      k - s.jnl.reclaim < 65536 → Answers c s (fun t => t = { u with
        mem := t.mem,
        jnl := { u.jnl with
          replies := [], mirror := s.jnl.mirror ++ (if s.role = 3 ∧ s.mirUp = true then [.jnl (t.readList (entryAddr k) 256)] else []),
          waiting := s.jnl.waiting ++ [{ jidx := k, req := queued, since := s.tick }] } } ∧
        MemBut s t (entryAddr k) 256 ∧ t.headOk k = true ∧ t.statusOk k = true ∧ t.entSession k = id ∧ t.entCode k = code ∧ t.entSeq k = r.seq.toNat ∧
        t.entBody k = body ∧ t.entState k = 0))

/-- R388, R389, R391, R393, R394, R404, R479: the class U commands PING, QUERY, READ, LOG_READ, ATTEST and IMAGE_PUT.  The layouts that the spec does not give are those of log entry 13. -/
def Obligations.UnsequencedRequests : Prop := ∀ (r : Req) (k : QueryKey) (addr : BitVec 40) (nonce : List Byte) (part : Nat) (buf : Byte) (off : Word)
    (data : List Byte) (s u : State),
  let id := r.session.toNat
  let key := u.keyOf id
  let view := s.profile id 0 = true
  let reply := fun (code st : Nat) (bd : List Byte) =>
    ({ peer := r.peer, session := id, code := code, seq := r.seq.toNat, status := st, body := bd } : Reply)
  let put := [buf] ++ leBytes 3 r.rsv.put.toNat ++ leBytes 4 off.toNat ++ data
  let att := nonce ++ leBytes 4 part
  let next := s.jnl.head + s.jnl.waiting.length
  let held := fun (j : Nat) => j < s.jnl.head ∧ next ≤ j + 65536
  let turn := InTurn id s
  let found := fun (j : Nat) => Answers (.query r k) s (Replies (reply 0x101 0 (leBytes 1 (s.entState j) ++ leBytes 1 (s.entResult j) ++ s.entRdata j)) key u)
  let size := if buf = 0#8 then 0x100000 else 0x700000
  let fits := buf.toNat ≤ 1 ∧ 1 ≤ data.length ∧ data.length ≤ 1384 ∧ off.toNat + data.length ≤ size
  let base := (if buf = 0#8 then 0x10600000 else fwBase (1 - s.pmc.slot)) + off.toNat
  let bad := s.lockBad id (some (if buf = 0#8 then 2 else 4))
  let may := s.profile id (if buf = 0#8 then 2 else 4) = true
  let report := fun (p : List Byte) (n : Nat) => reportObject p n ++ s.certificate
  let sent := fun (o : List Byte) (v : State) => Answers (.attest r nonce part) s (Replies (reply 0x104 0 (reportPart o part)) key v)
  let whole := nonce.length = 32 ∧ 1384 * part < s.reportLen
  (∀ e ∈ ([(.ping r, 0x100, [], .ping), (.query r k, 0x101, queryBody k, .query k), (.readState r addr, 0x102, leBytes 5 addr.toNat, .read addr.toNat),
    (.logRead r, 0x103, [], .logRead), (.attest r nonce part, 0x104, att, .attest nonce part),
    (.imagePut r buf off data, 0x105, put, .imagePut buf off.toNat data)] : List (Instr × Nat × List Byte × UReq)),
      SessionedFront e.1 r e.2.1 e.2.2.1 s ∧
      (Authentic r e.2.1 e.2.2.1 s u → OutOfTurn e.1 id (.unseq r e.2.2.2) (Replies (reply e.2.1 0x14 []) key u) s u)) ∧
  (Authentic r 0x100 [] s u → turn → Answers (.ping r) s (Replies (reply 0x100 0 []) key u)) ∧
  (Authentic r 0x101 (queryBody k) s u → turn →
    (∀ j, k = .jidx j → s.jnl.head ≤ j.toNat → Answers (.query r k) s (Replies (reply 0x101 0x10 []) key u)) ∧
    (∀ j, k = .jidx j → view → held j.toNat → found j.toNat) ∧
    (∀ sid seq j, k = .seq sid seq → view → s.entryOf sid.toNat seq.toNat = some j → held j → found j) ∧
    (∀ j, k = .jidx j → view → j.toNat < s.jnl.head → j.toNat + 65536 < next → Answers (.query r k) s (Replies (reply 0x101 1 []) key u)) ∧
    (∀ sid seq, k = .seq sid seq → view → s.entryOf sid.toNat seq.toNat = none → Answers (.query r k) s (Replies (reply 0x101 1 []) key u)) ∧
    (∀ sid seq, k = .seq sid seq → ¬view → Answers (.query r k) s (Replies (reply 0x101 0x20 []) key u))) ∧
  (Authentic r 0x102 (leBytes 5 addr.toNat) s u → turn →
    (view → s.absentAt addr.toNat = false → Answers (.readState r addr) s (Replies (reply 0x102 0 (leBytes 4 (s.peek addr.toNat).toNat)) key u)) ∧
    (view → s.absentAt addr.toNat = true → Answers (.readState r addr) s (Replies (reply 0x102 0x23 []) key u)) ∧
    (¬view → Answers (.readState r addr) s (Replies (reply 0x102 0x20 []) key u))) ∧
  (Authentic r 0x103 [] s u → turn → view → Answers (.logRead r) s (fun t => ∃ bd, Replies (reply 0x103 0 bd) key { u with free := s.free + 1 } t)) ∧
  (Authentic r 0x103 [] s u → turn → ¬view → Answers (.logRead r) s (Replies (reply 0x103 0x20 []) key u)) ∧
  (Authentic r 0x104 att s u → turn →
    (¬whole → Answers (.attest r nonce part) s (Replies (reply 0x104 0x10 []) key u)) ∧
    (whole → ¬view → Answers (.attest r nonce part) s (Replies (reply 0x104 0x20 []) key u)) ∧
    (whole → view → s.sec.idReady = false → Answers (.attest r nonce part) s (Replies (reply 0x104 0x30 []) key u)) ∧
    (∀ p n, whole → view → s.sec.idReady = true → s.jnl.report = some (nonce, p, n) → sent (report p n) u) ∧
    (whole → view → s.sec.idReady = true → (∀ p n, s.jnl.report ≠ some (nonce, p, n)) → sent (report (s.reportPayload nonce) s.free)
      { u with free := s.free + 1, jnl := { u.jnl with report := some (nonce, s.reportPayload nonce, s.free) } })) ∧
  (Authentic r 0x105 put s u → turn →
    (¬fits → Answers (.imagePut r buf off data) s (Replies (reply 0x105 0x10 []) key u)) ∧
    (fits → ¬may → Answers (.imagePut r buf off data) s (Replies (reply 0x105 0x20 []) key u)) ∧
    (∀ h, fits → may → bad = some h → Answers (.imagePut r buf off data) s (Replies (reply 0x105 0x21 (leBytes 2 h)) key u)) ∧
    (fits → may → bad = none → Answers (.imagePut r buf off data) s (fun t => t.readList base data.length = data ∧ MemBut s t base data.length ∧
      Replies (reply 0x105 0 []) key { u with
        mem := t.mem, eccBad := t.eccBad, eccSoft := t.eccSoft, jnl := { u.jnl with imgHeld := s.jnl.imgHeld || buf == 0#8, fwLost := t.jnl.fwLost } } t ∧
      (buf = 0#8 → t.jnl.fwLost = s.jnl.fwLost) ∧
      (buf = 1#8 → ∀ x, (∃ e ∈ t.jnl.fwLost, e.1 ≤ x ∧ x < e.2) ↔
        (∃ e ∈ s.jnl.fwLost, e.1 ≤ x ∧ x < e.2) ∧ ¬(off.toNat ≤ x ∧ x < off.toNat + data.length)))))

/-- The registers of Table 15-10 that follow the journal. -/
def jnlFields : List (Fld × Nat) :=
  [(.JNL_HEADLO_HEAD, 0), (.JNL_HEADHI_HEAD, 0), (.JNL_DONELO_DONE, 0), (.JNL_DONEHI_DONE, 0), (.JNL_USED_USED, 0), (.JNL_STAT_SESSIONS, 0)]

/-- R386 to R391, R394, R446, R448: the class N commands, the sessions that OPEN makes, firmware recovery, and malformed datagrams. -/
def Obligations.SessionlessRequests : Prop := ∀ (q : Peer) (total off : Word) (data nh raw : List Byte) (cred : Byte) (resume sid : BitVec 16) (s : State),
  let ans := s.answers q = true
  let touched := { s with jnl := { s.jnl with recovery := s.jnl.recovery.map (fun c => { c with seen := s.tick }) } }
  let reply := fun (code st : Nat) (bd : List Byte) => Replies { peer := q, code := code, status := st, body := bd } none s
  let tells := fun (st : Nat) (bd : List Byte) => Replies { peer := q, code := 4, status := st, body := bd } none touched
  let mm := ans ∧ s.minimal = true ∧ ∀ c, s.jnl.recovery = some c → c.port = q.port ∧ c.addr = q.addr
  let base := fwBase (1 - s.pmc.slot)
  let wellMade := cred.toNat < 16 ∧ nh.length = 16
  let serve := ans ∧ s.minimal = false ∧ s.bringup = none ∧ wellMade
  let opened := fun (id last : Nat) (key : List Byte) (olds : List Sess) (t : State) => ∃ nd : List Byte, nd.length = 16 ∧
    let sk := Config.kmacKey key (leBytes 2 id ++ nh ++ nd ++ leBytes 2 (s.getF .CLG_NODE_NODE 0) ++ asciiBytes "AG96SES")
    t.jnl = { s.jnl with
      sessions := olds.map (fun x => if x.id = id then { x with newKey := some sk, keyAt := s.tick } else x), mirror := t.jnl.mirror,
      replies := [Tagged s { peer := q, code := 0x10, body := leBytes 2 id ++ nd ++ leBytes 4 (last + 1) ++ leBytes 2 s.jnl.lease } (some sk)] } ∧
    t = { s with free := t.free, regs := t.regs, jnl := t.jnl } ∧ RegsBut s t jnlFields
  let reset := fun (p : PmcSt) (t : State) => WarmReset .PMC_RSTCAUSE_SOFTWARE { s with pmc := p } t ∧
    t.pmc.slot = p.slot ∧ t.pmc.mmreq = p.mmreq ∧ t.pmc.trial = p.trial ∧ t.jnl.replies = [Tagged s { peer := q, code := 4 } none]
  let again := { s.pmc with failcnt := 0, mmreq := false }
  let broken := rawOk raw = false ∧ 32 ≤ raw.length
  let plain := codesN.contains (hdr raw 6 2) = true ∨ (hdr raw 4 2 = 0 ∧ (codesU ++ codesS).contains (hdr raw 6 2) = false)
  (¬ans → ∀ c ∈ ([.identify q, .status q, .reason q, .fwRecoverBegin q total, .fwRecoverData q off data, .fwRecoverCommit q, .fwRecoverRetry q,
    .openSession q cred resume nh] : List Instr), Answers c s (fun t => t = s.noReplies)) ∧
  (ans → ∀ e ∈ ([(.identify q, 1), (.status q, 2)] : List (Instr × Nat)), Answers e.1 s (fun t => ∃ bd,
    Replies { peer := q, code := e.2, body := bd } none { s with free := s.free + 1 } t)) ∧
  (ans → s.minimal = true ∨ s.stage ≠ 1 → Answers (.reason q) s (reply 3 0 (leBytes 1 (s.getF .PMC_STAGE_REASON 0)))) ∧
  (ans → s.minimal = false → s.stage ≠ 1 → Answers (.fwRecoverBegin q total) s (reply 4 0x22 [])) ∧
  (mm → total.toNat ≤ 0x700000 → Answers (.fwRecoverBegin q total) s (fun t => t = { s with jnl := { s.jnl with
    recovery := some { port := q.port, addr := q.addr, total := total.toNat, seen := s.tick }, replies := [Tagged s { peer := q, code := 4 } none] } })) ∧
  (mm → 0x700000 < total.toNat → Answers (.fwRecoverBegin q total) s (tells 0x10 [])) ∧
  (∀ c, ans → s.minimal = true → s.jnl.recovery = some c → c.port ≠ q.port ∨ c.addr ≠ q.addr → ∀ i ∈ ([.fwRecoverBegin q total, .fwRecoverData q off data,
    .fwRecoverCommit q, .fwRecoverRetry q] : List Instr), Answers i s (reply 4 0x14 [])) ∧
  (∀ c, mm → s.jnl.recovery = some c → off.toNat = c.got → 1 ≤ data.length → data.length ≤ 1384 → off.toNat + data.length ≤ c.total →
    Answers (.fwRecoverData q off data) s (fun t => t.readList (base + off.toNat) data.length = data ∧ MemBut s t (base + off.toNat) data.length ∧
      t = { s with mem := t.mem, jnl := { s.jnl with
        fwLost := (off.toNat, off.toNat + data.length) :: s.jnl.fwLost, recovery := some { c with seen := s.tick, got := off.toNat + data.length, lastOff := off.toNat, lastData := data }, replies := [Tagged s { peer := q, code := 4 } none] } })) ∧
  (∀ c, mm → s.jnl.recovery = some c → off.toNat ≠ c.got → off.toNat ≠ c.lastOff → Answers (.fwRecoverData q off data) s (tells 0x12 (leBytes 4 c.got))) ∧
  (∀ c, mm → s.jnl.recovery = some c → c.got ≠ c.total → Answers (.fwRecoverCommit q) s (tells 0x10 [1#8])) ∧
  (∀ c k, mm → s.jnl.recovery = some c → c.got = c.total → s.secCheck [tyStation] (s.readList base c.total) = k → k ≠ 0 → k < 16 →
    Answers (.fwRecoverCommit q) s (fun t => tells 0x10 [if k = 6 then 3#8 else 2#8] { t with regs := s.regs } ∧ t.getF .SEC_STAT_LASTRES 0 = k ∧
      RegsBut s t [(.SEC_STAT_LASTRES, 0)])) ∧
  (∀ c, mm → s.jnl.recovery = some c → c.got = c.total → s.secCheck [tyStation] (s.readList base c.total) = 0 →
    Answers (.fwRecoverCommit q) s (reset { again with slot := 1 - s.pmc.slot, trial := false, trialBegun := false, slotPend := false, timing := false, fromPor := false })) ∧
  (mm → s.getF .PMC_STAGE_REASON 0 < 3 ∨ 6 < s.getF .PMC_STAGE_REASON 0 → Answers (.fwRecoverRetry q) s (reset { again with timing := false, fromPor := false })) ∧
  (mm → 3 ≤ s.getF .PMC_STAGE_REASON 0 → s.getF .PMC_STAGE_REASON 0 ≤ 6 → Answers (.fwRecoverRetry q) s (tells 0x22 [])) ∧
  (∀ c, s.jnl.recovery = some c → s.coresRun = true → Answers .recoveryIdleTimeout s (fun t => t.jnl = { s.jnl with recovery := none } ∧ MemBut s t base c.got ∧
    t = { s.passTo (c.seen + 60 * 400000000) with mem := t.mem, lost := t.lost, free := t.free, jnl := t.jnl })) ∧
  (ans → s.minimal = true → Answers (.openSession q cred resume nh) s (reply 0x10 0x31 [])) ∧
  (ans → s.minimal = false → ¬wellMade → Answers (.openSession q cred resume nh) s (reply 0x10 0x10 [])) ∧
  (∀ st, ans → s.minimal = false → wellMade → s.bringup = some st → Answers (.openSession q cred resume nh) s (reply 0x10 st [])) ∧
  (serve → s.cred cred.toNat = none → Answers (.openSession q cred resume nh) s (reply 0x10 0x20 [])) ∧
  (∀ m key, serve → s.cred cred.toNat = some (m, key) → resume = 0#16 → s.jnl.sessions.length < 32 → Answers (.openSession q cred resume nh) s (fun t =>
    ∃ id, 1 ≤ id ∧ id ≤ 0xFFFE ∧ s.sess id = none ∧
      t.jnl.mirror = s.jnl.mirror ++ (if s.role = 3 ∧ s.mirUp = true then [.jnl (t.sessFrame id)] else []) ∧ opened id 0 key (s.jnl.sessions ++ [{ id := id, cred := cred.toNat, seen := s.tick }]) t)) ∧
  (∀ m key, serve → s.cred cred.toNat = some (m, key) → resume = 0#16 → 32 ≤ s.jnl.sessions.length →
    Answers (.openSession q cred resume nh) s (reply 0x10 0x25 [])) ∧
  (∀ m key x, serve → s.cred cred.toNat = some (m, key) → resume ≠ 0#16 → s.sess resume.toNat = some x → x.cred = cred.toNat →
    Answers (.openSession q cred resume nh) s (fun t => opened resume.toNat x.last key s.jnl.sessions t ∧ t.jnl.mirror = s.jnl.mirror)) ∧
  (∀ m key, serve → s.cred cred.toNat = some (m, key) → resume ≠ 0#16 → (∀ x, s.sess resume.toNat = some x → x.cred ≠ cred.toNat) →
    Answers (.openSession q cred resume nh) s (reply 0x10 0x11 [])) ∧
  (∀ x, s.sess sid.toNat = some x → x.newKey ≠ none → s.coresRun = true → Answers (.sessionKeyTimeout sid) s (fun t =>
    t = { s.passTo (x.keyAt + 5 * 400000000) with jnl := { s.jnl with
    sessions := s.jnl.sessions.map (fun x => if x.id = sid.toNat then { x with newKey := none } else x) } })) ∧
  (ans → rawOk raw = false → raw.length < 32 → Answers (.badformatRequest q raw) s (fun t => t = s.noReplies)) ∧
  (ans → broken → plain → Answers (.badformatRequest q raw) s (reply (hdr raw 6 2)
      (if s.minimal = true ∧ ¬(1 ≤ hdr raw 6 2 ∧ hdr raw 6 2 ≤ 4) then 0x31 else 0x10) [])) ∧
  (∀ st, ans → broken → ¬plain → s.bringup = some st → Answers (.badformatRequest q raw) s
    (Replies { peer := q, session := hdr raw 4 2, code := hdr raw 6 2, seq := hdr raw 8 4, status := st } none s)) ∧
  (ans → broken → ¬plain → s.bringup = none → s.rawAuth raw = true →
    let u := (s.rawKey raw).renew (hdr raw 4 2)
    let no := fun (st : Nat) => Replies { peer := q, session := hdr raw 4 2, code := hdr raw 6 2, seq := hdr raw 8 4, status := st } (u.keyOf (hdr raw 4 2)) u
    (InTurn (hdr raw 4 2) s → Answers (.badformatRequest q raw) s (no 0x10)) ∧
    OutOfTurn (.badformatRequest q raw) (hdr raw 4 2) (.bad q (hdr raw 4 2) (hdr raw 6 2) (hdr raw 8 4)) (no 0x14) s u) ∧
  (ans → broken → ¬plain → s.bringup = none → s.rawAuth raw = false →
    SetsOn (.badformatRequest q raw) s s.noReplies [(.JNL_CNT0_BADTAG, 0, min 65535 (s.getF .JNL_CNT0_BADTAG 0 + 1))])

/-- R390, R397, R399, R400, R405 to R407: the oldest waiting request becomes an entry once it is durable; L advances, and CLOSE, LOCK_TAKE and LOCK_RELEASE act in the
same step.  The twin's missing report, the lease and idle expiries, and compaction. -/
def Claims.JournalEntries : Prop := ∀ (k : Fin 5) (sid : BitVec 16) (w : Waiting) (rest : List Waiting) (s : State),
  let r := w.req
  let j := w.jidx
  let id := r.session
  let fits := j < 2 ^ 64 ∧ r.session < 65536 ∧ r.seq < 2 ^ 32 ∧ r.code < 65536 ∧ r.body.length ≤ 188
  let due := s.jnl.waiting = w :: rest ∧ s.jnl.queue = [] ∧ s.sysRuns = true ∧ s.commanding = true ∧ s.getF .JNL_STAT_ENST 0 ≠ 0 ∧
    (w.acked = true ∨ s.role ≠ 3 ∨ s.bit .JNL_STAT_SOLO 0 = true) ∧ (∀ x xs, rest = x :: xs → x.req.code ≠ 0x0F00)
  let solo := s.bit .JNL_STAT_SOLO 0
  let entry := fun (st result : Nat) (rd : List Byte) (t : State) => t.headOk j = true ∧ t.statusOk j = true ∧ t.entSession j = id ∧ t.entCode j = r.code ∧
    t.entSeq j = r.seq ∧ t.entBody j = r.body ∧ t.entState j = st ∧ t.entResult j = result ∧ (t.entRdata j).take rd.length = rd ∧
    MemBut s t (entryAddr j) 256 ∧ t.jnl.head = j + 1 ∧ t.jnl.waiting = rest ∧ RegsBut s t jnlFields ∧ t = { s with regs := t.regs, mem := t.mem, jnl := t.jnl }
  let reply := fun (result : Nat) (bd : List Byte) => Tagged s { peer := r.peer, session := id, code := r.code, seq := r.seq, solo := solo, status := 0, result := result, jidx := j, body := bd } (s.keyOf id)
  let lock := fun (n : Nat) => s.jnl.locks.toList.getD n {}
  let others := fun (n : Nat) (t : State) => ∀ i : Fin 5, i.val ≠ n → t.jnl.locks[i] = s.jnl.locks[i]
  let bumped := s.jnl.sessions.map (fun x => if x.id = id then { x with last := r.seq } else x)
  (s.jnl.waiting = [] → Answers .journalCommitDone s (fun t => t = s.noReplies)) ∧
  (due → fits → writerCode r.code = false → Answers .journalCommitDone s (fun t => entry 0 0xFF [] t ∧ t.jnl.sessions = bumped ∧
    t.jnl.replies = [reply 0xFF []] ∧ t.jnl.locks = s.jnl.locks)) ∧
  (due → fits → r.notify = false → r.code = 0x200 → (∀ x ∈ s.jnl.notify, x.1 ≠ j) → Answers .journalCommitDone s (fun t => entry 3 0 [] t ∧ t.sess id = none ∧ t.jnl.replies = [reply 0 []] ∧
    ∀ i : Fin 5, t.jnl.locks[i] = if (s.jnl.locks[i]).holder = some id then {} else s.jnl.locks[i])) ∧
  (due → fits → r.notify = false → r.code = 0x201 → (∀ x ∈ s.jnl.notify, x.1 ≠ j) → r.body = [BitVec.ofNat 8 k.val] → Answers .journalCommitDone s (fun t =>
    let code := if (lock k).holder = none then (if (lock k).broken then 1 else 0) else if (lock k).holder = some id then 3 else 2
    entry 3 0 (leBytes 1 code) t ∧ t.jnl.sessions = bumped ∧ t.jnl.replies = [reply 0 (leBytes 1 code)] ∧ others k t ∧
    t.jnl.locks[k] = if (lock k).holder = none then { lock k with holder := some id, due := s.tick + s.jnl.lease * 400000000 } else lock k)) ∧
  (∀ keep : Bool, due → fits → r.notify = false → r.code = 0x202 → (∀ x ∈ s.jnl.notify, x.1 ≠ j) → r.body = [BitVec.ofNat 8 k.val, BitVec.ofNat 8 (b2n keep)] →
    Answers .journalCommitDone s (fun t =>
      let code := if (lock k).holder = some id then 0 else 4
      entry 3 0 (leBytes 1 code) t ∧ t.jnl.sessions = bumped ∧ t.jnl.replies = [reply 0 (leBytes 1 code)] ∧ others k t ∧
      t.jnl.locks[k] = if (lock k).holder = some id then { broken := keep } else lock k)) ∧
  (s.sysRuns = true → s.role = 3 → solo = false → s.jnl.waiting.find? (fun x => !x.acked) = some w → Answers .mirrorCommitTimeout s (fun t =>
    let r := s.passTo (w.since + 40000)
    (5 ≤ r.twin.silent → t.bit .JNL_STAT_SOLO 0 = true) ∧
    (r.twin.silent < 5 → t = { r with twin := { r.twin with soloDue := true } }))) ∧
  (∀ h, s.sysRuns = true → (lock k).holder = some h → s.commanding = true → 2 ≤ s.stage → s.bit .JNL_STAT_REPLAYING 0 = false →
    s.jnl.expiring k = false → s.jnl.head + s.jnl.waiting.length - s.jnl.reclaim < 65536 →
    (s.jnl.waiting = [] → h < 65536 → Answers (.leaseExpire k) s (fun t => t.jnl.locks[k] = { broken := true } ∧ others k t ∧ t.jnl.head = s.jnl.head + 1 ∧
      t.entCode s.jnl.head = 0x0F00 ∧ t.entBody s.jnl.head = leBytes 1 k.val ++ leBytes 2 h ∧ t.entState s.jnl.head = 3 ∧ t.headOk s.jnl.head = true ∧
      t.statusOk s.jnl.head = true ∧ t.jnl.waiting = [] ∧
      (∃ f : List Byte, f.length = 256 ∧ t.jnl.mirror = s.jnl.mirror ++ (if s.role = 3 ∧ s.mirUp = true then [.jnl f] else [])) ∧
      MemBut s t (entryAddr s.jnl.head) 256 ∧ RegsBut s t jnlFields ∧ t = { s.passTo (lock k).due with regs := t.regs, mem := t.mem, jnl := t.jnl })) ∧
    (∀ x xs, s.jnl.waiting = x :: xs → x.req.code ≠ 0x0F00 → Answers (.leaseExpire k) s (fun t => t.jnl.locks = s.jnl.locks ∧ t.jnl.head = s.jnl.head ∧
      t.jnl.expiring k = true ∧ ∃ y, t.jnl.waiting = s.jnl.waiting ++ [y] ∧ y.jidx = s.jnl.head + s.jnl.waiting.length ∧ y.req.code = 0x0F00))) ∧
  (∀ x, s.sess sid.toNat = some x → s.coresRun = true → 2 ≤ s.stage → Answers (.sessionIdleExpiry sid) s (fun t => t.sess sid.toNat = none ∧ (∀ x, x ≠ sid.toNat → t.sess x = s.sess x) ∧
    (∀ i : Fin 5, t.jnl.locks[i] = if (s.jnl.locks[i]).holder = some sid.toNat then { broken := true } else s.jnl.locks[i]) ∧
    RegsBut s t jnlFields ∧ t = { s.passTo (x.seen + s.jnl.sessIdle * 400000000) with regs := t.regs, jnl := t.jnl })) ∧
  (s.busRuns = true → s.getF .THERM_STAT_THROTTLE 0 = 0 → Answers .journalCompaction s (fun t => t.jnl = { s.jnl with reclaim := max s.jnl.reclaim s.jnl.done } ∧
    t.getF .JNL_USED_USED 0 = (s.jnl.head - max s.jnl.reclaim s.jnl.done) % 2 ^ 17 ∧ RegsBut s t jnlFields ∧ t = { s with regs := t.regs, jnl := t.jnl }))

/-- R356, R358, R350, R391 to R393, R400 to R403: execution in the order of the journal, the command ring with its consumed mark, and the replay. -/
def Claims.JournalExecution : Prop := ∀ (n : Fin 24) (v : Word) (s : State),
  let j := s.jnl.done
  let code := s.entCode j
  let b := s.entBody j
  let open_ := 2 ≤ s.stage ∧ (s.bit .JNL_STAT_REPLAYING 0 = false ∨ s.jnl.scanned = true)
  let runs := s.coresRun = true ∧ s.commanding = true ∧ open_ ∧ s.jnl.running = none ∧ j < s.jnl.head ∧ s.sec.job = none
  let done := fun (result : Nat) (rd : List Byte) (t : State) => t.entState j = 3 ∧ t.entResult j = result ∧ (t.entRdata j).take rd.length = rd ∧ t.statusOk j = true ∧
    MemBut s t (entryAddr j + 0xE0) 32
  let started := fun (t : State) => t.entState j = 1 ∧ t.statusOk j = true ∧ t.jnl.running = some j ∧ MemBut s t (entryAddr j + 0xE0) 32
  let param := fun (pid : Nat) (value : List Byte) => b = leBytes 2 pid ++ leBytes 2 value.length ++ value
  let ring := 0x10700000
  let slot := fun (i : Nat) => 0x10700100 + 256 * (i % 256)
  let gen := if s.badWord (ring + 0xC) = true then 0 else (s.word (ring + 0xC)).toNat
  let delivered := fun (i re : Nat) (t : State) => t.entState i = 2 ∧ t.statusOk i = true ∧ t.readList (slot i) 0xE0 = s.readList (entryAddr i) 0xE0 ∧
    t.bytes (slot i + 0xE0) 4 = re ∧ t.bytes ring 8 = (i + 1) % 2 ^ 64 ∧ t.jnl.widx = i + 1
  let back := (s.jnl.widx + 2 ^ 32 - 1 - v.toNat) % 2 ^ 32
  let mark := s.jnl.widx - back
  let good := s.jnl.widx ≠ 0 ∧ back < 256 ∧ back < s.jnl.widx
  let replays := s.sysRuns = true ∧ s.bit .JNL_STAT_REPLAYING 0 = true ∧ s.jnl.scanned = false ∧ 2 ≤ s.stage ∧ s.commanding = true
  let readIn := fun (t : State) => t.jnl.scanned = true ∧ (t.word (ring + 0xC)).toNat = (gen + 1) % 2 ^ 32 ∧ t.jnl.running = none ∧
    t.jnl.waiting = [] ∧ t.jnl.cons = none ∧ t.jnl.queue = [] ∧ t.jnl.sessions = s.jnl.sessions ∧ t.jnl.head = s.jnl.head ∧ t.jnl.rerunTo = s.jnl.head
  let replayed := fun (t : State) => readIn t ∧ t.bit .JNL_STAT_REPLAYING 0 = false ∧
    ∀ i : Fin 5, t.jnl.locks[i] = if (s.jnl.locks[i]).holder = none then s.jnl.locks[i] else { s.jnl.locks[i] with due := s.tick + s.jnl.lease * 400000000 }
  let alone := s.jnl.head = j + 1 ∧ s.headOk j = true ∧ s.statusOk j = true
  (runs → code = 0x301 → Answers .entryExecute s (fun t => t.latched 64 = true ∧ done 0 [] t)) ∧
  (∀ m, runs → code = 0x400 → m < 2 ^ 32 → param 2 (leBytes 4 m) → Answers .entryExecute s (fun t =>
    if 60 ≤ m ∧ m ≤ 86400 then t.jnl.sessIdle = m ∧ done 0 [] t else t.jnl.sessIdle = s.jnl.sessIdle ∧ done 1 [1#8] t)) ∧
  (∀ m, runs → code = 0x400 → m < 2 ^ 16 → param 1 (leBytes 2 m) → Answers .entryExecute s (fun t =>
    if 1024 ≤ m then t.jnl.hcmdPort = m ∧ t.jnl.hcmdUsed = s.jnl.hcmdUsed ∧ done 0 [] t else t.jnl.hcmdPort = s.jnl.hcmdPort ∧ done 1 [1#8] t)) ∧
  (runs → code = 0x500 → s.ser.store = b → j < s.jnl.rerunTo → Answers .entryExecute s (fun t => t.ser = s.ser ∧ done 0 [] t)) ∧
  (runs → code = 0x500 → s.ser.store ≠ b ∨ s.jnl.rerunTo ≤ j → Answers .entryExecute s (fun t => t.ser.store = b ∧ t.ser.fresh = true ∧
    (s.serState = 5 → t.bit .SER_STAT_NEWREC 0 = true) ∧ done 0 [] t)) ∧
  (runs → code = 0x501 → Answers .entryExecute s (fun t => t.ser = { s.ser with confirm := BitVec.ofNat 32 (leNat b) } ∧ done 0 [] t)) ∧
  (runs → code = 0x502 → s.getF .SER_SIN_DEMAND 0 ≠ 0 → Answers .entryExecute s (fun t => done 2 [] t ∧ t.ser = s.ser ∧
    t.getF .SER_CNT_REFUSED 0 = min 65535 (s.getF .SER_CNT_REFUSED 0 + 1))) ∧
  (runs → code = 0x502 → s.getF .SER_SIN_DEMAND 0 = 0 → s.serState = 4 → s.checksDone = true → s.bit .SER_STAT_CONFIRMED 0 = true → Answers .entryExecute s (fun t =>
    done 0 [] t ∧ t.ser = { s.ser with restart := true })) ∧
  (runs → code = 0x503 → (s.serState = 5 ∨ s.serState = 4) → s.inS4 = false → s.ser.cut = none → Answers .entryExecute s (fun t =>
    done 0 [] t ∧ t.serState = 7 ∧ t.ser.sout = 0#4)) ∧
  (runs → code = 0x503 → s.inS4 = true → Answers .entryExecute s (fun t => done 2 [] t ∧ t.serState = s.serState)) ∧
  let lostBytes := s.jnl.fwGone (leNat (b.take 4)) (leNat (b.take 4) + leNat (b.drop 4)) = true
  (runs → code = 0x600 → lostBytes → Answers .entryExecute s (done 4 [])) ∧
  (runs → code = 0x600 → ¬lostBytes → Answers .entryExecute s (fun t => started t ∧ t.bit .SEC_STAT_BUSY 0 = true ∧
    t.sec.job = some ⟨j, false, leNat (b.take 4), leNat (b.drop 4)⟩)) ∧
  (runs → code = 0x401 → s.jnl.imgHeld = false → Answers .entryExecute s (done 4 [])) ∧
  (runs → code = 0x402 → s.actBusy = false → Answers .entryExecute s (fun t => started t ∧ t.getF .CE_ACTMASK_MASK 0 = leNat (b.take 4) % 2 ^ 24 ∧
    t.bit .CE_ACTCTRL_GO 0 = true ∧ t.bit .CE_ACTSTAT_VALIDATING 0 = true)) ∧
  (runs → code = 0x601 → s.inS4 = true → Answers .entryExecute s (fun t => done 0 [1#8] t ∧ t.pmc.slotPend = true ∧ t.pmc.slot = s.pmc.slot)) ∧
  (∀ (c : Nat) (m : Byte) (wrapped key : List Byte) (x : Byte), runs → code = 0x400 → c < 16 → m.toNat < 32 → wrapped.length = 32 →
    param (0x100 + c) (m :: wrapped) → s.jnl.credVal.find? (fun e => e.1 == j) = some (j, x :: key) → Answers .entryExecute s (fun t =>
      t.cred c = (if m = 0#8 then none else some (m, key)) ∧ done 0 [] t)) ∧
  (∀ k : Fin 5, runs → code = 0x201 → b = [BitVec.ofNat 8 k.val] → s.entSession j < 65536 →
    let l := s.jnl.locks[k]
    let got := if l.holder = none then (if l.broken then 1 else 0) else if l.holder = some (s.entSession j) then 3 else 2
    Answers .entryExecute s (fun t => done 0 (leBytes 1 got) t ∧ (l.holder = none → (t.jnl.locks[k]).holder = some (s.entSession j)))) ∧
  (∀ i, s.sysRuns = true → s.commanding = true → open_ → s.nextConv (s.jnl.head - j) j = some i → i < s.jnl.consumed + 256 →
    Answers .convCmdDelivery s (fun t => delivered i (if s.entState i = 2 then 1 else 0) t ∧ t.jnl.redlv = max s.jnl.redlv (i + 1))) ∧
  (s.engOk n = false ∨ s.commanding = false → Ignores (.consloWrite n v) s) ∧
  (s.engOk n = true → s.commanding = true → good → s.jnl.consumed < mark → Answers (.consloWrite n v) s (fun t => t.word (ring + 8) = v ∧
    t.jnl = { s.jnl with cons := some mark, consFret := s.fretnum } ∧ MemBut s t (ring + 8) 4 ∧
    t = { s with mem := t.mem, jnl := t.jnl, eccBad := t.eccBad, eccSoft := t.eccSoft } ∧ t.badWord (ring + 8) = false)) ∧
  (s.engOk n = true → s.commanding = true → ¬good → Answers (.consloWrite n v) s (fun t => t.bit .JNL_STAT_CONSERR 0 = true ∧ t.word (ring + 8) = v ∧
    t.jnl = s.jnl ∧ MemBut s t (ring + 8) 4)) ∧
  (∀ m, s.jnl.cons = some m → s.sysRuns = true → s.fretnum ≠ s.jnl.consFret → m ≤ j + 65536 → Answers .consumedMarkDurable s (fun t => t.jnl.mark = max s.jnl.mark m ∧ t.jnl.cons = none ∧
    t.jnl.mirror = s.jnl.mirror ++ (if s.role = 3 ∧ s.mirUp = true then [.mark t.jnl.mark t.jnl.done] else []) ∧
    ∀ i, j ≤ i → i < m → i < s.jnl.head → s.entCode i = 0x300 → t.entState i = 3 ∧ (s.entState i ≠ 3 → t.entResult i = 0))) ∧
  (replays → s.jnl.head = j → Answers .journalReplay s (fun t => replayed t ∧ t.jnl.done = j ∧ MemBut s t (ring + 0xC) 4)) ∧
  (replays → s.jnl.head = j + 1 → s.headOk j = false → Answers .journalReplay s (fun t => replayed t ∧ t.jnl.done = j + 1 ∧ t.entState j = 3 ∧
    t.entCode j = 0 ∧ t.entBody j = [])) ∧
  (replays → alone → code = 0x300 → s.entState j = 2 → s.jnl.mark ≤ j → Answers .journalReplay s (fun t => replayed t ∧ delivered j 1 t ∧
    t.bytes (ring + 0x10) 4 = j % 2 ^ 32)) ∧
  (replays → alone → code = 0x300 → s.entState j ≠ 3 → j < s.jnl.mark → Answers .journalReplay s (fun t => replayed t ∧ t.entState j = 3 ∧ t.entResult j = 0)) ∧
  (replays → alone → s.entState j = 1 → interruptCode code = true → Answers .journalReplay s (fun t => replayed t ∧ t.entState j = 3 ∧ t.entResult j = 3)) ∧
  (replays → alone → s.entState j = 1 → interruptCode code = false → code ≠ 0x300 → Answers .journalReplay s (fun t => readIn t ∧
    t.bit .JNL_STAT_REPLAYING 0 = true ∧ t.entState j = 0 ∧ t.jnl.done = j))

/-! Twin redundancy. -/

/-- R413 to R420, R423 to R427, R431: what the mirror frames do, the heartbeat stream that is sent, and the alignment of the timebase and of
the master pair.  A late heartbeat is counted and shows its epoch only.  TYPE's width, the payloads' layouts and the session records' place in
JNL frames are the model's choice (log entry 51). -/
def Obligations.MirrorFrameEffects : Prop := ∀ (h : Heartbeat) (ago rt : Nat) (addr : Word) (data e raw : List Byte) (m d jk : BitVec 64) (side : Bool)
    (s : State),
  let hears := s.hears = true
  let passive := s.role = 2 ∨ s.role = 1
  let inTime := ¬(s.atuOn = true ∧ serialLater s.fretnum h.fret.toNat = true)
  let active := s.role = 3
  let arrived := s.tick * 40 - ago
  let quiet := { s.twin with silent := 0 }
  let j := leNat (e.take 8)
  let id := leNat ((e.drop 8).take 2)
  let acc := (rt :: s.twin.dlyAcc).take 8
  let out := (rt :: s.twin.dlyOut).take 8
  let near := fun (l : List Nat) (r : Nat) => ((8 * r : Int) - l.sum).natAbs ≤ 5120
  let keep := s.bit .MIR_DELAY_VALID 0 = false ∨ near s.twin.dlyAcc rt
  let newSet := out.length = 8 ∧ ∀ r ∈ out, near out r
  let mean := fun (l : List Nat) (t : State) => t = { s with regs := t.regs, free := s.free + 1, twin := { quiet with dlyAcc := l, dlyOut := [] } } ∧
    t.bit .MIR_DELAY_VALID 0 = true ∧ (∃ r < 16, t.getF .MIR_DELAY_DLY 0 = (l.sum + r) / 16 % 2 ^ 24) ∧
    RegsBut s t [(.MIR_DELAY_VALID, 0), (.MIR_DELAY_DLY, 0)]
  let ctl := fun (f : MirFrame) => f.parts.1 == 7
  let higher := epochHigher h.epoch.toNat (s.getF .CLG_EPOCH_EPOCH 0) = true
  let seen := some (match s.twin.maxEpoch with | some x => if epochHigher h.epoch.toNat x = true then h.epoch.toNat else x | none => h.epoch.toNat)
  let due := s.twin.yieldDue || (epochHigher h.epoch.toNat (s.getF .CLG_EPOCH_EPOCH 0) && s.role == 3)
  let rejoins := s.role = 4 ∧ h.role = 3#3 ∧ s.twin.sideEqual = false
  let kept := s.twin.hb.filter (fun x => x.1.fret != h.fret) ++ [(h, arrived)]
  let mp := s.master
  (¬hears → ∀ c ∈ ([.heartbeatReceived h ago, .winFrameReceived addr data, .jnlFrameReceived e, .jackReceived jk, .markReceived m d,
    .ctlFrameReceived .copyDone, .ctlFrameReceived (.raw raw)] : List Instr), Ignores c s) ∧
  (s.mirSending = true → s.atuRuns = true → s.twin.hbSent = false →
    Answers .heartbeatSend s (fun t => ∃ b,
    t.twin = { s.twin with hbSent := true, sent := some b, sentWin := t.twin.sentWin, linkFree := t.twin.linkFree } ∧
    b.synced = s.bit .MIR_STAT_SYNCED 0 ∧ b.pwcnt = s.twin.pwCnt ∧ b.fret.toNat = s.fretnum % 2 ^ 32 ∧ b.epoch.toNat = s.getF .CLG_EPOCH_EPOCH 0 % 65536 ∧
    b.role.toNat = s.role % 8 ∧ b.stage.toNat = s.stage % 8 ∧ b.armtok.toNat = s.getF .CLG_ARMTOK_TOK 0 % 65536 ∧ b.freq.toNat = s.atu.tb.freq % 2 ^ 32 ∧
    b.jhead.toNat = s.jnl.head % 2 ^ 64 ∧ b.jdone.toNat = s.jnl.done % 2 ^ 64 ∧
    (active → b.levels.length = 96 ∧ b.defs.length = 6 ∧ b.phil.length = 96 ∧ t.twin.sentWin = s.winBlocks.map (fun x => (x, s.ssmBytes x 256)) ∧
      b.winlen.toNat = 256 * t.twin.sentWin.length) ∧
    (¬active → b.levels = [] ∧ b.defs = [] ∧ b.phil = [] ∧ t.twin.sentWin = [] ∧ b.winlen = 0#16 ∧ t.regs = s.regs) ∧
    (s.eccBad = [] → s.eccSoft = [] → t.regs = s.regs) ∧
    t.jnl = { s.jnl with mirror := [], mirrorSent := t.jnl.mirrorSent } ∧
    t.jnl.mirrorSent = (s.jnl.mirror.filter ctl ++ s.jnl.mirror.filter (fun f => !ctl f)).map (fun f => mirWire f.parts.1 s.fretnum f.parts.2) ++
      (mirWire 1 b.fret.toNat (hbBytes b) :: t.twin.sentWin.map (fun x => mirWire 2 b.fret.toNat (leBytes 4 x.1 ++ x.2)) ++
        [mirWire 3 b.fret.toNat (leBytes 4 b.fret.toNat)]) ∧
    (∀ w ∈ streamWire b t.twin.sentWin, mirCrcOk w = true) ∧
    s.tick + (s.jnl.mirror.map MirFrame.cycles).sum + 88 + 23 * t.twin.sentWin.length ≤ t.twin.linkFree ∧
    t = { s with regs := t.regs, jnl := t.jnl, tick := t.tick, carrier := t.carrier, clock := t.clock,
                 atu := { s.atu with acc := t.atu.acc, past := t.atu.past }, free := s.free + 1, twin := t.twin })) ∧
  (s.mirSending = false ∨ s.atuRuns = false ∨ s.twin.hbSent = true → Ignores .heartbeatSend s) ∧
  (hears → ¬inTime → SetsOn (.heartbeatReceived h ago) s { s with twin := { quiet with maxEpoch := seen, yieldDue := due } }
    [(.MIR_CNT_HBLATE, 0, min 255 (s.getF .MIR_CNT_HBLATE 0 + 1))]) ∧
  (hears → inTime → Answers (.heartbeatReceived h ago) s (fun t =>
    t.getF .MIR_PEER0_EPOCH 0 = h.epoch.toNat ∧ t.getF .MIR_PEER0_ROLE 0 = h.role.toNat ∧ t.getF .MIR_PEER0_STAGE 0 = h.stage.toNat ∧
    t.getF .MIR_PEER1_FRET 0 = h.fret.toNat ∧
    (s.role ≠ 3 → t.getF .CLG_EPOCH_EPOCH 0 = h.epoch.toNat ∧ t.getF .CLG_ARMTOK_TOK 0 = h.armtok.toNat ∧ t.twin.yieldDue = s.twin.yieldDue) ∧
    (s.role = 3 → t.getF .CLG_EPOCH_EPOCH 0 = s.getF .CLG_EPOCH_EPOCH 0 ∧ t.getF .CLG_ARMTOK_TOK 0 = s.getF .CLG_ARMTOK_TOK 0 ∧
      (higher → t.twin.yieldDue = true) ∧ (¬higher → t.twin.yieldDue = s.twin.yieldDue)) ∧
    t.twin.heard = true ∧ t.twin.peerSynced = h.synced ∧ t.twin.silent = 0 ∧ t.twin.maxEpoch = seen ∧ t.twin.hoFret = h.hofret.map BitVec.toNat ∧
    (¬rejoins → t.twin.hb = kept.drop (kept.length - 2) ∧ t.twin.follow = s.twin.follow ∧ t.twin.copyDone = s.twin.copyDone) ∧
    (rejoins → t.twin.hb = [] ∧ t.twin.follow = false ∧ t.twin.copyDone = false ∧ t.twin.joinAt = none) ∧
    (rejoins → t.role = 1) ∧ (¬rejoins → t.role = s.role) ∧
    t.bit .JNL_STAT_SOLO 0 = (s.bit .JNL_STAT_SOLO 0 && !(s.role == 3 && h.role == 2#3 && s.twin.copyDone)) ∧
    (s.role = 1 → s.inS4 = false → s.getF .ATU_STAT_ENST 0 = 0 → s.twin.joinAt = none →
      t.twin.joinAt = some ((h.fret.toNat + 2) % 2 ^ 32, h.freq.toNat,
        (arrived + 2 * s.fretAu * 65536 * 40 / max 1 h.freq.toNat - s.getF .MIR_DELAY_DLY 0 - h.txoff.toNat + 39) / 40)) ∧
    t = { s with regs := t.regs, twin := t.twin } ∧
    RegsBut s t [(.MIR_PEER0_EPOCH, 0), (.MIR_PEER0_ROLE, 0), (.MIR_PEER0_STAGE, 0), (.MIR_PEER1_FRET, 0), (.CLG_EPOCH_EPOCH, 0), (.CLG_ARMTOK_TOK, 0),
      (.MIR_STAT_ROLE, 0), (.PWM_STAT_OWNER, 0), (.JNL_STAT_SOLO, 0)])) ∧
  (hears → passive → data.length = 256 → inSsm addr.toNat 256 = true → Answers (.winFrameReceived addr data) s (fun t =>
    t.readList addr.toNat 256 = data ∧ MemBut s t addr.toNat 256 ∧ (∀ x ∈ t.eccBad, x ∈ s.eccBad) ∧ (∀ k < 256, t.badWord (addr.toNat + k) = false) ∧
    t = { s with mem := t.mem, eccBad := t.eccBad, eccSoft := t.eccSoft, twin := quiet })) ∧
  (hears → passive → e.length = 256 → j ≠ 2 ^ 64 - 1 → Answers (.jnlFrameReceived e) s (fun t =>
    t.readList (entryAddr j) 256 = e ∧ MemBut s t (entryAddr j) 256 ∧ t.jnl.head = max s.jnl.head (j + 1) ∧
    (∀ x, s.sess (t.entSession j) = some x → t.entCode j ≠ cdClose → ∃ y, t.sess (t.entSession j) = some y ∧ y.last = t.entSeq j ∧ y.cred = x.cred) ∧
    t.jnl.mirror = s.jnl.mirror ++ [.jack j] ∧ t = { s with mem := t.mem, regs := t.regs, free := t.free, jnl := t.jnl, twin := quiet } ∧ RegsBut s t jnlFields)) ∧
  (hears → passive → e.length = 256 → j = 2 ^ 64 - 1 → Answers (.jnlFrameReceived e) s (fun t =>
    (leNat ((e.drop 11).take 1) = 0 → t.sess id = none) ∧
    (leNat ((e.drop 11).take 1) ≠ 0 → ∃ y, t.sess id = some y ∧ y.cred = leNat ((e.drop 10).take 1) ∧ y.last = leNat ((e.drop 12).take 4)) ∧
    (∀ k : Fin 5, (t.jnl.locks[k]).broken = (leNat ((e.drop 17).take 1)).testBit k.val ∧
      ((leNat ((e.drop 16).take 1)).testBit k.val = true ↔ (t.jnl.locks[k]).holder = some id)) ∧
    t.jnl.mirror = s.jnl.mirror ∧ t.jnl.head = s.jnl.head ∧ t = { s with regs := t.regs, jnl := t.jnl, twin := quiet } ∧ RegsBut s t jnlFields)) ∧
  (hears → s.role = 3 → Answers (.jackReceived jk) s (fun t => t = { s with twin := quiet, jnl := { s.jnl with
    waiting := s.jnl.waiting.map (fun w => if w.jidx = jk.toNat then { w with acked := true } else w) } })) ∧
  (hears → passive → Answers (.markReceived m d) s (fun t => t.jnl.mark = max s.jnl.mark m.toNat ∧ t.jnl.cons = none ∧ t.jnl.head = s.jnl.head ∧
    min s.jnl.head d.toNat ≤ t.jnl.done ∧ t.jnl.sessions = s.jnl.sessions ∧ RegsBut s t jnlFields ∧
    t = { s with mem := t.mem, regs := t.regs, jnl := t.jnl, twin := quiet })) ∧
  (hears → SetsOn (.ctlFrameReceived (.side side)) s { s with twin := { quiet with sideEqual := side == s.bit .MIR_CFG_SIDE 0 } }
    [(.MIR_STAT_SIDEERR, 0, if side = s.bit .MIR_CFG_SIDE 0 then 1 else s.getF .MIR_STAT_SIDEERR 0)]) ∧
  (hears → Answers (.ctlFrameReceived .delayReq) s (fun t => t = { s with twin := quiet, jnl := { s.jnl with mirror := s.jnl.mirror ++ [.delayResp] } })) ∧
  (hears → keep → acc.length < 8 → Answers (.ctlFrameReceived (.delay rt)) s (fun t => t = { s with twin := { quiet with dlyAcc := acc, dlyOut := [] } })) ∧
  (hears → keep → 8 ≤ acc.length → Answers (.ctlFrameReceived (.delay rt)) s (mean acc)) ∧
  (hears → ¬keep → ¬newSet → Answers (.ctlFrameReceived (.delay rt)) s (fun t => t = { s with twin := { quiet with dlyOut := out } })) ∧
  (hears → ¬keep → newSet → Answers (.ctlFrameReceived (.delay rt)) s (mean out)) ∧
  (hears → s.role = 1 → Answers (.ctlFrameReceived .copyDone) s (fun t => t = { s with regs := t.regs, twin := { quiet with copyDone := true } } ∧
    t.role = (if s.bit .MIR_STAT_SYNCED 0 = true ∧ s.getF .MIR_PEER0_ROLE 0 = 3 ∧ s.twin.sideEqual = false then 2 else 1) ∧
    RegsBut s t [(.MIR_STAT_ROLE, 0), (.PWM_STAT_OWNER, 0)])) ∧
  (hears → mirCrcOk raw = false →
    Sets (.ctlFrameReceived (.raw raw)) s [(.MIR_CNT_RXERR, 0, min (2 ^ Fld.MIR_CNT_RXERR.width - 1) (s.getF .MIR_CNT_RXERR 0 + 1))]) ∧
  (∀ c, hears → mirCrcOk raw = true → ctlOf raw = some c → exec (.ctlFrameReceived (.raw raw)) s = exec (.ctlFrameReceived c) s) ∧
  (∀ k f due, s.twin.joinAt = some (k, f, due) → s.role = 1 → s.inS4 = false → s.atuOn = false → s.fabRuns = true → s.minimal = false →
    Answers .twinTimebaseJoin s (fun t =>
    t.tick = max s.tick due ∧ t.atuOn = true ∧ t.fretnum = k % 2 ^ 32 ∧ t.getF .ATU_FRETINIT_FRETINIT 0 = k % 2 ^ 32 ∧ t.getF .ATU_FREQ_FREQ 0 = clampFreq f ∧
    t.getF .ATU_STAT_SLEWING 0 = 0 ∧ t.twin.follow = true ∧ t.twin.joinAt = none ∧ t.twin.hbSent = false ∧
    (∃ c < s.fpc, t.atu.acc = c * s.fretAu * 65536) ∧ SameMem s t)) ∧
  (∀ x, s.twin.pwLoad = some x → s.paired = true → s.role ≠ 3 → s.pairRuns mp = true → (s.pairs[mp]).pos = 0 → Answers .pwmasterAlignLoad s (fun t =>
    t.twin = { s.twin with pwLoad := none } ∧ t.getF .MIR_CNT_PWMADJ 0 = min 255 (s.getF .MIR_CNT_PWMADJ 0 + 1) ∧
    (t.pairs[mp]).pos = (x % (max 1 (s.pairs[mp]).act.len : Nat)).toNat * 64 ∧ (t.pairs[mp]).act.len = (s.pairs[mp]).act.len ∧ SameMem s t)) ∧
  (s.role = 3 → s.mirUp = true → s.mirRuns = true → s.getF .MIR_PEER0_ROLE 0 = 1 → s.twin.sideEqual = false →
    Answers .journalCopy s (fun t => t = { s with twin := { s.twin with copyDone := true }, jnl := { s.jnl with
      mirror := s.jnl.mirror ++ (s.jnl.sessions.map (fun x => MirFrame.jnl (s.sessFrame x.id)) ++
        (List.range (s.jnl.head - s.jnl.reclaim)).map (fun k => MirFrame.jnl (s.readList (entryAddr (s.jnl.reclaim + k)) 256)) ++ [.copyDone]) } }))

/-- The fields that a new ACTIVE device sets (R422, R423, R426, R430). -/
def activeFields (s : State) : List (Fld × Nat × Nat) :=
  [(.MIR_STAT_ROLE, 0, 3), (.PWM_STAT_OWNER, 0, 1), (.CLG_EPOCH_EPOCH, 0, s.nextEpoch), (.JNL_STAT_REPLAYING, 0, 1), (.JNL_STAT_SOLO, 0, 1),
   (.JNL_STAT_MIRFAIL, 0, 1), (.MIR_STAT_SYNCED, 0, 0)]

/-- A command makes the device ACTIVE (R422, R430): besides `l` and the twin logic's change `f`, the ATU leaves follow mode and continues from
its present word, through the slew of R60 where it tracks a source. -/
def Leads (c : Instr) (s : State) (f : TwinSt → TwinSt) (l : List (Fld × Nat × Nat)) : Prop :=
  let slews := s.twin.follow = true ∧ s.src ≠ 2 ∧ s.holdover = false
  let l1 := activeFields s ++ l
  Answers c s (fun t =>
    (∀ x ∈ l1, t.getF x.1 x.2.1 = x.2.2) ∧
    t.twin = f { s.twin with
      follow := false, yieldDue := false, quiet := 0, maxEpoch := some s.nextEpoch, hoFret := none, soloDue := false, copyDone := false } ∧
    t.jnl = { s.jnl with scanned := false } ∧
    t.atu = (if s.twin.follow = true then { s.atu with tracked := s.getF .ATU_FREQ_FREQ 0 } else s.atu) ∧
    (slews → t.getF .ATU_STAT_SLEWING 0 = 1) ∧
    (¬slews → RegsBut s t (l1.map (fun x => (x.1, x.2.1)))) ∧
    t = { s with regs := t.regs, twin := t.twin, jnl := t.jnl, atu := t.atu } ∧
    RegsBut s t (l1.map (fun x => (x.1, x.2.1)) ++ [(.ATU_STAT_SLEWING, 0), (.ATU_FREQ_FREQ, 0), (.ATU_PHERR_PHERR, 0)]))

/-- R411, R413, R421 to R424, R428 to R430: takeover, yield, planned handover and claim.  Two missed
heartbeats lead a synchronised STANDBY device in S4 with AUTOTK to ACTIVE with the next epoch, and else set TKBLK; a device that must yield becomes YIELDED
and gives up OWNER_OUT; a handover is accepted under its conditions, and at its fret the roles change; a claim makes a JOINING device ACTIVE,
not while both twins have one SIDE. -/
def Obligations.TwinRoleChanges : Prop := ∀ (p : Nat) (s : State),
  let takes := fun (c : Instr) => Leads c s id [(.ATU_TWIN_TK_TK, 0, s.fretnum % 2 ^ 32), (.MIR_STAT_TKDONE, 0, 1), (.MIR_STAT_TKBLK, 0, 0)]
  let bound := s.atBoundary = true
  let missed := bound ∧ s.role = 2 ∧ s.getF .MIR_STAT_HBMISS 0 = 2
  let sync := s.twin.syncedThen = true
  let auto := s.bit .MIR_CFG_AUTOTK 0 = true
  let yields := s.twin.yieldDue = true ∨ (s.mirUp = false ∧ 2 ≤ s.twin.quiet)
  let ahead := (s.getF .MIR_HOAT_AT 0 + 2 ^ 32 - s.fretnum) % 2 ^ 32
  let mayHand := s.getF .MIR_PEER0_ROLE 0 = 2 ∧ s.twin.peerSynced = true ∧ s.mirUp = true ∧ s.inS4 = true ∧ s.getF .MIR_PEER0_STAGE 0 = 4 ∧ 4 ≤ ahead ∧ ahead < 2 ^ 31
  let mayClaim := s.role = 1 ∧ ¬(s.mirUp = true ∧ s.twin.sideEqual = true) ∧
    ((s.mirUp = true ∧ s.twin.heard = true ∧ s.getF .MIR_PEER0_ROLE 0 ≠ 3) ∨ (s.mirUp = false ∧ s.twin.lastUp + 400000000 ≤ s.tick))
  let bus := s.mirBus = true
  let own := s.getF .CLG_EPOCH_EPOCH 0
  let top := match s.twin.maxEpoch with | some e => (if epochHigher e own = true then e else own) | none => own
  (p < 65536 → top = p → s.getF .MIR_CFG_SIDE 0 = 1 - p % 2 → s.nextEpoch = (p + 1) % 65536) ∧
  (p < 65536 → top = p → s.getF .MIR_CFG_SIDE 0 = p % 2 → s.nextEpoch = (p + 2) % 65536) ∧
  (missed → sync → s.inS4 = true → auto → takes .takeover) ∧
  (missed → ¬sync → Sets .takeover s [(.MIR_STAT_TKBLK, 0, 1)]) ∧
  (missed → sync → s.inS4 = false → Sets .takeover s [(.MIR_STAT_TKBLK, 0, 2)]) ∧
  (missed → sync → s.inS4 = true → ¬auto → Sets .takeover s [(.MIR_STAT_TKBLK, 0, 3)]) ∧
  (¬bound → ∀ c ∈ ([.takeover, .yieldRole, .plannedHandover] : List Instr), Ignores c s) ∧
  (bound → s.role = 3 → yields → SetsOn .yieldRole s { s with
    twin := { s.twin with yieldDue := false, quiet := 0, soloDue := false }, jnl := { s.jnl with waiting := [], queue := [] } }
    [(.MIR_STAT_ROLE, 0, 4), (.PWM_STAT_OWNER, 0, 0), (.MIR_STAT_SYNCED, 0, 0), (.MIR_STAT_YIELD, 0, 1)]) ∧
  (s.role ≠ 3 ∨ ¬yields → Ignores .yieldRole s) ∧
  (bound → s.role = 3 → s.bit .MIR_CTRL_HANDOVER 0 = true → s.getF .MIR_HOAT_AT 0 = s.fretnum →
    SetsOn .plannedHandover s { s with twin := { s.twin with follow := true } }
      [(.MIR_STAT_ROLE, 0, 2), (.PWM_STAT_OWNER, 0, 0), (.MIR_CTRL_HANDOVER, 0, 0), (.ATU_STAT_SLEWING, 0, 0)]) ∧
  (bound → s.role = 2 → s.twin.hoFret = some s.fretnum → takes .plannedHandover) ∧
  (¬bus → ∀ c ∈ ([.handoverRequest, .claim] : List Instr), Ignores c s) ∧
  (bus → s.role = 3 → mayHand → Sets .handoverRequest s [(.MIR_CTRL_HANDOVER, 0, 1)]) ∧
  (bus → s.role = 3 → ¬mayHand → Sets .handoverRequest s [(.MIR_STAT_HOERR, 0, 1), (.MIR_CTRL_HANDOVER, 0, 0)]) ∧
  (bus → mayClaim → Leads .claim s (fun t => { t with tk := some s.fretnum }) []) ∧
  (bus → ¬mayClaim → Sets .claim s [(.MIR_STAT_CLAIMERR, 0, 1)])

/-! Security. -/

/-- R469 to R472, R476 to R478, R481, R482, R486: SEC's verdicts, the debug grant, the challenge, the identity key, the engine floor and the
tamper events.  A token presented while SEC is busy waits for it.  The debounced TAMPER_N follows TAMPER_PIN both ways: the model's choice (log
entry 53). -/
def Obligations.SecurityVerdicts : Prop := ∀ (obj : List Byte) (ag : Agent) (job : SecJob) (s : State),
  let runs := s.coresRun = true
  let c := s.secCheck [tyToken] obj
  let base := fwBase (1 - s.pmc.slot) + job.start
  let size := min (0x700000 - job.start) job.total
  let fw := s.readList base size
  let img := s.ssmBytes 0x10600000 (min 0x100000 job.total)
  let cf := s.secCheck [tyStation, tySer, tyRevoke] fw
  let ci := s.secCheck [tyEngine] img
  let status := entryAddr job.jidx + 0xE0
  let ends := fun (r : Nat) (t : State) => t.getF .SEC_STAT_LASTRES 0 = r ∧ t.bit .SEC_STAT_BUSY 0 = false ∧ t.sec.job = none ∧ t.entState job.jidx = 3 ∧
    t.entResult job.jidx = (if r = 0 then 0 else 1) ∧ (t.entRdata job.jidx).take 1 = [BitVec.ofNat 8 r]
  let tells := fun (r : Nat) (t : State) => ends r t ∧ MemBut s t status 32
  let verifies := runs ∧ s.sec.job = some job ∧ s.sec.tokens = []
  let placed := (objType fw = 1 ∧ job.start = 0) ∨ (objType fw = 2 ∧ job.start = 0x600000)
  let wiped := { s with jnl := { s.jnl with sessions := s.jnl.sessions.map (fun x => { x with key := none, newKey := none }) } }
  let blocks := s.bit .SEC_TAMPCFG_BLOCK 0 = true ∧ 2 ≤ s.stage ∧ runs ∧ s.fabBus = true
  let tampered := [(Fld.SEC_TAMP_COUNT, 0, min (2 ^ Fld.SEC_TAMP_COUNT.width - 1) (s.getF .SEC_TAMP_COUNT 0 + 1)), (.DBG_STAT_LEVEL, 0, 0), (.DBG_STAT_S4OK, 0, 0),
    (.DBG_STAT_UNLOCKED, 0, 0), (.TRIP_LAT2_SUP, 0, if blocks then 1 else s.getF .TRIP_LAT2_SUP 0)]
  let free := runs ∧ s.sec.job = none
  (s.coresRun = false → Ignores (.debugToken obj) s) ∧
  (∀ x, runs → s.sec.job = some x →
    Answers (.debugToken obj) s (fun t => t = { s with sec := { s.sec with tokens := s.sec.tokens ++ [obj] } })) ∧
  (free → leNat (obj.take 4) ≠ 0x53474F41 → Sets (.debugToken obj) s [(.SEC_STAT_LASTRES, 0, 1)]) ∧
  (free → c ≠ 0 → Sets (.debugToken obj) s [(.SEC_STAT_LASTRES, 0, c)]) ∧
  (free → c = 0 → SetsOn (.debugToken obj) s { s with pmc := { s.pmc with log := s.pmc.log ++ [.debugUnlock] } } [(.SEC_STAT_LASTRES, 0, 0),
    (.DBG_STAT_LEVEL, 0, tokenLevel obj), (.DBG_STAT_S4OK, 0, b2n (tokenS4ok obj)), (.DBG_STAT_UNLOCKED, 0, 1),
    (.DBG_STAT_UNLOCKS, 0, min (2 ^ Fld.DBG_STAT_UNLOCKS.width - 1) (s.getF .DBG_STAT_UNLOCKS 0 + 1))]) ∧
  (s.canAccess ag 0x40160020 = true → chalReader ag = true → Answers (.dbgChalRead ag) s (fun t =>
    t.sec = { s.sec with chalOk := true } ∧ t.resp = ⟨BitVec.ofNat 32 (t.getF .DBG_CHAL_CHAL 0), [], false⟩ ∧
    t = { s with regs := t.regs, free := s.free + 8, sec := t.sec, resp := t.resp } ∧ RegsBut s t ((List.range 8).map (fun k => (Fld.DBG_CHAL_CHAL, k))))) ∧
  (s.canAccess ag 0x40160020 = true → chalReader ag = false → Answers (.dbgChalRead ag) s (fun t =>
    t.resp.err = true ∧ t.getF .SYS_BUSERR_COUNT 0 = min 255 (s.getF .SYS_BUSERR_COUNT 0 + 1) ∧ t.bit .SYS_BUSERR_VALID 0 = true ∧
    (s.bit .SYS_BUSERR_VALID 0 = false → t.getF .SYS_BUSERR_CAUSE 0 = (if ag = .saf then causeUnmapped else causeDmareg) ∧
      t.getF .SYS_BUSADDRLO_ADDR 0 = 0x40160020) ∧
    t = { s with regs := t.regs, resp := t.resp } ∧
    RegsBut s t [(.SYS_BUSERR_COUNT, 0), (.SYS_BUSERR_VALID, 0), (.SYS_BUSERR_CAUSE, 0), (.SYS_BUSERR_AGENT, 0), (.SYS_BUSADDRLO_ADDR, 0),
      (.SYS_BUSADDRHI_ADDR, 0), (.SYS_BUSADDRHI_WRITE, 0)])) ∧
  (s.canAccess ag 0x40160020 = false → Ignores (.dbgChalRead ag) s) ∧
  (2 ≤ s.stage → runs → Answers .identityKeyReady s (fun t => t = { s with sec := { s.sec with idReady := true } })) ∧
  (s.stage < 2 ∨ ¬runs → Ignores .identityKeyReady s) ∧
  (∀ a, s.sec.engPend = some a → Answers .engFloorRaise s (fun t =>
    let up := max s.sec.arbEng.mirror (min 63 a)
    t.sec = { s.sec with arbEng := { s.sec.arbEng with mirror := up }, engPend := none } ∧
    (∀ n : Fin 24, t.getF .CE_STAT_STGOK n =
      if max s.sec.arbEng.fuses s.sec.arbEng.mirror < max s.sec.arbEng.fuses up ∧ (s.ce[n]).stgArb < max s.sec.arbEng.fuses up then 0
      else s.getF .CE_STAT_STGOK n) ∧
    t = { s.passTo (s.sec.engAt + max 1 (s.getF .PMC_START_STARTOK 0) * 400000000) with regs := t.regs, sec := t.sec } ∧
    RegsBut s t ((List.finRange 24).map (fun n => (Fld.CE_STAT_STGOK, n.val))))) ∧
  (s.sec.engPend = none → Ignores .engFloorRaise s) ∧
  (s.bit .SEC_TAMP_PINLVL 0 = false → s.aonRuns = true → SetsOn .tamperPin s wiped (tampered ++ [(.SEC_TAMP_PIN, 0, 1), (.SEC_TAMP_PINLVL, 0, 1)])) ∧
  (s.bit .SEC_TAMP_PINLVL 0 = false → s.aonRuns = false → Sets .tamperPin s [(.SEC_TAMP_PINLVL, 0, 1)]) ∧
  (s.bit .SEC_TAMP_PINLVL 0 = true → Sets .tamperPin s [(.SEC_TAMP_PINLVL, 0, 0)]) ∧
  (s.aonRuns = true → SetsOn .supplyGlitch s wiped (tampered ++ [(.SEC_TAMP_GLITCH, 0, 1)])) ∧
  (s.sec.job = none ∨ s.coresRun = false → Ignores .secVerifyDone s) ∧
  (verifies → job.image = false → cf ≠ 0 → Answers .secVerifyDone s (fun t => tells cf t ∧ t.sec.slots = s.sec.slots)) ∧
  (verifies → job.image = false → cf = 0 → objType fw = 5 → Answers .secVerifyDone s (fun t => ends 0 t ∧
    (∀ x, x < base ∨ base + size ≤ x → x < status ∨ status + 32 ≤ x → t.byte x = s.byte x) ∧
    ∀ k : Fin 4, t.sec.slots[k] = if k.val = revokeTarget fw then { s.sec.slots[k] with revoked := true } else s.sec.slots[k])) ∧
  (verifies → job.image = false → cf = 0 → placed → Answers .secVerifyDone s (fun t => tells 0 t ∧ t.sec.slots = s.sec.slots)) ∧
  (verifies → job.image = true → ci ≠ 0 → Answers .secVerifyDone s (fun t => tells ci t ∧
    ∀ n : Fin 24, t.getF .CE_STAT_STGOK n = s.getF .CE_STAT_STGOK n)) ∧
  (∀ l, verifies → job.image = true → ci = 0 → imageSections (objPayload img) = some l → l.all (fun x => s.engOk x.eng) = true →
    Config.shake (s.readBack (objPayload img) l) = objPhash img → Answers .secVerifyDone s (fun t => tells 0 t ∧ ∀ x ∈ l, t.bit .CE_STAT_STGOK x.eng = true))

/-! The block as a whole. -/

/-- A step takes the command at the front of the queue and runs it on the queue's rest.  With an empty queue one FAB cycle passes: the
model's choice (log entry 14). -/
def Obligations.StepRunsFrontCommand : Prop := ∀ (c : Instr) (r : List Instr) (s : State),
  (s.pending = c :: r → step s = exec c { s with pending := r }) ∧ (s.pending = [] → step s = .next s.cycle)

/-- Every command is executed: it answers a next state, and neither the queue nor the variant of the part (R3) changes.  That an event
which the present state rules out changes nothing, and stops nothing, is the model's choice (log entry 5). -/
def Obligations.EveryCommandAnswers : Prop := ∀ (c : Instr) (s : State), ∃ t, exec c s = .next t ∧ t.pending = s.pending ∧ t.variant = s.variant

/-- The state after a power-on reset: every register field reads its reset value, among them those that the spec gives and that are not 0;
the slot tables hold the sets of R230; the stage is S0, the role is SINGLE, the record of Safe Energy Removal is empty.  The other bytes
of memory read 0: the model's choice (log entry 6). -/
def Obligations.ResetState : Prop :=
  let s := State.reset
  s.pending = [] ∧ (∀ f i, s.getF f i = f.spec.rst) ∧
  (∀ a, s.byte a = if inSlotTable a then BitVec.ofNat 8 (slotDefault (a % 16)) else 0#8) ∧
  (∀ n : Fin 96, ∀ x < 8, (List.range 6).map (fun k => s.half (slotBase n + x * 16 + 2 * k)) = [0x0000, 0x1000, 0x8800, 0xA000, 0xC000, 0xD000]) ∧
  s.stage = 0 ∧ s.minimal = false ∧ s.getF .MIR_STAT_ROLE 0 = 0 ∧ s.getF .ATU_CTRL_SRCREQ 0 = 2 ∧ s.getF .ATU_CFG_LOOPBW 0 = 3 ∧
  s.getF .ATU_CFG_FPCSEL 0 = 2 ∧ s.getF .VREG_VID_VID 0 = 0x96 ∧ s.getF .PW_PRD_PRD 0 = 3999 ∧ s.getF .TIME_INC_INC 0 = 0x80000000 ∧
  s.getF .HP_CTRL_MODE 0 = 1 ∧ s.getF .HP_MAXLEN_MAXLEN 0 = 0x600 ∧ s.getF .SVF_CTRL_VCH 0 = 4 ∧ s.getF .MIR_CFG_MOFF 0 = 0x8000 ∧
  s.getF .MIR_CFG_AUTOTK 0 = 1 ∧ s.getF .SER_STAT_STATE 0 = 0 ∧
  s.ser.record = [] ∧ s.clock = { sec := 0, nsf := 0 } ∧
  (∀ n : Fin 24, (s.ce[n]).pc = 0#32 ∧ ∀ x, (s.ce[n]).readG x = 0#32) ∧ (∀ p : Fin 256, s.pegs[p] = { held := false, broken := false, holder := 0x3F, brkBy := 0x3F, acqCnt := 0#16 }) ∧
  (∀ a : Fin 6, (s.arms[a]).launch[2] = 3#32) ∧ (∀ n : Fin 96, (s.lanes[n]).launch = Vector.replicate 6 0#32)

/-- The reset state is well formed. -/
def Obligations.ResetIsWellFormed : Prop := State.reset.Wf

/-- Every step keeps the register store and the memory in their canonical form, and every stored field value inside the width of its
field. -/
def Obligations.StepKeepsWellFormed : Prop := ∀ s t : State, s.Wf → step s = .next t → t.Wf

/-- Words written out bit by bit from Tables 3-8 to 3-16 and 4-1 decode to the instructions they stand for, and the words that R88 and R96
call illegal to none. -/
def Obligations.WordsDecode : Prop := ∀ n : Fin 24,
  decodeVolgar n 0b0000_000001_00011_00001_00010_0000000#32 = some (.add n 0#4 3#5 1#5 2#5) ∧
  decodeVolgar n 0b0001_000010_00101_00110_00111_0000010#32 = some (.qmul n 1#4 5#5 6#5 7#5) ∧
  decodeVolgar n 0b0000_000011_00101_00110_00111_0000011#32 = some (.fma n 0#4 5#5 6#5 7#5) ∧
  decodeVolgar n 0b1010_000100_001_10_00100_00101_000_1011#32 = some (.cmp n 10#4 1#3 2#2 4#5 5#5 11#4) ∧
  decodeVolgar n 0b0000_000101_011_00_00100_11111111_0010#32 = some (.cmpi n 0#4 3#3 0#2 4#5 255#8 2#4) ∧
  decodeVolgar n 0b0000_000110_010_001_011_0000000000_001#32 = some (.plog n 0#4 2#3 1#3 3#3 1#3) ∧
  decodeVolgar n 0b0000_001010_00111_0_1010101111001101#32 = some (.movl n 0#4 7#5 0xABCD#16) ∧
  decodeVolgar n 0b0000_001100_00001_00010_111111111111#32 = some (.addi n 0#4 1#5 2#5 0xFFF#12) ∧
  decodeVolgar n 0b0000_010100_01000_01001_000000000100#32 = some (.ldw n 0#4 8#5 9#5 4#12) ∧
  decodeVolgar n 0b0000_100100_1111111111111111111110#32 = some (.br n 0#4 0x3FFFFE#22) ∧
  decodeVolgar n 0b0000_110101_00000_00010_00011_0000000#32 = some (.send n 0#4 2#5 3#5) ∧
  decodeVolgar n 0b0000_111000_00000_00000_00000_0000010#32 = some (.endt n 0#4) ∧
  decodeVolgar n 0#32 = none ∧ decodeVolgar n 0xFFFFFFFF#32 = none ∧
  decodeVolgar n 0b1000_000001_00011_00001_00010_0000000#32 = none ∧ decodeVolgar n 0b0000_000100_000_00_00100_00101_000_0000#32 = none

/-- R88, R95 to R97 and R110: every legal engine instruction, with any operands, is what the decoder reads from its word, and every word
that the decoder reads as an instruction is that instruction's word. -/
def Obligations.DecodeAndEncodeAgree : Prop := ∀ (n : Fin 24) (i : Instr) (pr : BitVec 4) (w : Word),
  (engineOf i = some (n, pr) → i.legal = true → decodeVolgar n i.word = some i) ∧ (decodeVolgar n w = some i → i.word = w)

/-! Statements that take several of the claims above together. -/

/-- The claims IntegerAluResults, BitCountResults, DividerResults and ImmediateResults together. -/
def Obligations.IntegerInstructions : Prop := Claims.IntegerAluResults ∧ Claims.BitCountResults ∧ Claims.DividerResults ∧ Claims.ImmediateResults

/-- The claims Q31Results and AccumulatorResults together. -/
def Obligations.FixedPointInstructions : Prop := Claims.Q31Results ∧ Claims.AccumulatorResults

/-- The claims Fp32Results and Fp32NanResults together. -/
def Obligations.FloatInstructions : Prop := Claims.Fp32Results ∧ Claims.Fp32NanResults

/-- The claims PredicateResults, SpecialRegisters and FalsePredicateHasNoEffect together. -/
def Obligations.PredicateInstructions : Prop := Claims.PredicateResults ∧ Claims.SpecialRegisters ∧ Claims.FalsePredicateHasNoEffect

/-- The claims FetchExceptions and ReservedOpcodeAndFetchEcc together. -/
def Obligations.InstructionFetch : Prop := Claims.FetchExceptions ∧ Claims.ReservedOpcodeAndFetchEcc

/-- The claims BranchesAndFence and BreakHaltsOrTraps together. -/
def Obligations.ControlTransfer : Prop := Claims.BranchesAndFence ∧ Claims.BreakHaltsOrTraps

/-- The claims ControlMathResults, BiquadStep, PiAndCapoSteps and BlockExceptions together. -/
def Obligations.ControlBlocks : Prop := Claims.ControlMathResults ∧ Claims.BiquadStep ∧ Claims.PiAndCapoSteps ∧ Claims.BlockExceptions

/-- The claims LoadResults, StoreResults and MemoryExceptions together. -/
def Obligations.LoadsAndStores : Prop := Claims.LoadResults ∧ Claims.StoreResults ∧ Claims.MemoryExceptions

/-- The claims SendWritesOwnSlots and RecvReadsTheReceiveBuffer together. -/
def Obligations.SendAndReceive : Prop := Claims.SendWritesOwnSlots ∧ Claims.RecvReadsTheReceiveBuffer

/-- The claims PegInstructions and PegReadsOfTheCores together. -/
def Obligations.PegAccesses : Prop := Claims.PegInstructions ∧ Claims.PegReadsOfTheCores

/-- The claims WaitAndDeadlineQueries and CommitAndTaskEnd together. -/
def Obligations.TaskInstructions : Prop := Claims.WaitAndDeadlineQueries ∧ Claims.CommitAndTaskEnd

/-- The claims TaskStart, DeadlineMiss and DeadlineClosesArms together. -/
def Obligations.TaskStartAndDeadline : Prop := Claims.TaskStart ∧ Claims.DeadlineMiss ∧ Claims.DeadlineClosesArms

/-- The claims ImageBankWrites and Activation together. -/
def Obligations.ImageBanksAndActivation : Prop := Claims.ImageBankWrites ∧ Claims.Activation

/-- The claims RegisterWrites and ReadClears together. -/
def Obligations.RegisterAccesses : Prop := Claims.RegisterWrites ∧ Claims.ReadClears

/-- The claims MemoryAccesses, NarrowAccesses and UnmappedAccess together. -/
def Obligations.MemoryAndUnmappedAccesses : Prop := Claims.MemoryAccesses ∧ Claims.NarrowAccesses ∧ Claims.UnmappedAccess

/-- The claims Locks and UnitEnables together. -/
def Obligations.LocksAndUnitEnables : Prop := Claims.Locks ∧ Claims.UnitEnables

/-- The claims AtuEnableDisable and AtuSources together. -/
def Obligations.AngleTimebaseSources : Prop := Claims.AtuEnableDisable ∧ Claims.AtuSources

/-- The claims ConversionsAndReset and CellSort together. -/
def Obligations.ConversionAndSort : Prop := Claims.ConversionsAndReset ∧ Claims.CellSort

/-- The claims LaneTraining and LaneRestarts together. -/
def Obligations.LaneTrainingAndRestarts : Prop := Claims.LaneTraining ∧ Claims.LaneRestarts

/-- The claims FrameFormat and LinkLaunches together. -/
def Obligations.FramesAndLaunches : Prop := Claims.FrameFormat ∧ Claims.LinkLaunches

/-- The claims LinkReceives and DelayMeasurement together. -/
def Obligations.LinkReceptionAndDelay : Prop := Claims.LinkReceives ∧ Claims.DelayMeasurement

/-- The claims BulkFrames and SlotTablesAndClear together. -/
def Obligations.BulkAndSlotTables : Prop := Claims.BulkFrames ∧ Claims.SlotTablesAndClear

/-- The claims MuteState and LatchesAndRoutes together. -/
def Obligations.MuteLatchesAndRoutes : Prop := Claims.MuteState ∧ Claims.LatchesAndRoutes

/-- The claims PwmPeriods and PwmOutputs together. -/
def Obligations.PwmPeriodsAndOutputs : Prop := Claims.PwmPeriods ∧ Claims.PwmOutputs

/-- The claims AuxHalfBridges and Regulator together. -/
def Obligations.AuxiliaryDriveAndRegulator : Prop := Claims.AuxHalfBridges ∧ Claims.Regulator

/-- The claims Clocks and PowerAndHeat together. -/
def Obligations.ClocksPowerAndHeat : Prop := Claims.Clocks ∧ Claims.PowerAndHeat

/-- The claims SafetyCycles and SafetyTests together. -/
def Obligations.SafetyCyclesAndTests : Prop := Claims.SafetyCycles ∧ Claims.SafetyTests

/-- The claims HostReception and HostLinks together. -/
def Obligations.HostReceptionAndLinks : Prop := Claims.HostReception ∧ Claims.HostLinks

/-- The claims JournalEntries and JournalExecution together. -/
def Obligations.JournalEntriesAndExecution : Prop := Claims.JournalEntries ∧ Claims.JournalExecution
end

