-- ==== Sys2Proof/Laws/State.lean ====
section
/-! SUPPORT. What each update of State leaves: one theorem per update, one clause per field, so that no proof unfolds a record update. -/
namespace Sys2Proof.Machine

variable (s : State)

@[simp] theorem State.setF_keeps (f : Fld) (i v : Nat) :
    (s.setF f i v).variant = s.variant ∧ (s.setF f i v).pending = s.pending ∧ (s.setF f i v).free = s.free ∧
    (s.setF f i v).tick = s.tick ∧ (s.setF f i v).mem = s.mem ∧ (s.setF f i v).lost = s.lost ∧ (s.setF f i v).eccBad = s.eccBad ∧
    (s.setF f i v).eccSoft = s.eccSoft ∧ (s.setF f i v).resp = s.resp ∧ (s.setF f i v).atu = s.atu ∧
    (s.setF f i v).fretd = s.fretd ∧ (s.setF f i v).ce = s.ce ∧ (s.setF f i v).haltEn = s.haltEn ∧ (s.setF f i v).pegs = s.pegs ∧
    (s.setF f i v).arb = s.arb ∧ (s.setF f i v).arms = s.arms ∧ (s.setF f i v).carrier = s.carrier ∧
    (s.setF f i v).lanes = s.lanes ∧ (s.setF f i v).ml = s.ml ∧ (s.setF f i v).mlOrdered = s.mlOrdered ∧
    (s.setF f i v).twin = s.twin ∧ (s.setF f i v).gated = s.gated ∧ (s.setF f i v).refOk = s.refOk ∧
    (s.setF f i v).rc16Ok = s.rc16Ok ∧ (s.setF f i v).quadFeed = s.quadFeed ∧ (s.setF f i v).lossAt = s.lossAt ∧
    (s.setF f i v).acqAt = s.acqAt ∧ (s.setF f i v).ditherSeed = s.ditherSeed ∧ (s.setF f i v).ditherAt = s.ditherAt ∧
    (s.setF f i v).clock = s.clock ∧ (s.setF f i v).secLatch = s.secLatch ∧ (s.setF f i v).tout = s.tout ∧
    (s.setF f i v).cmps = s.cmps ∧ (s.setF f i v).pins = s.pins ∧ (s.setF f i v).pairs = s.pairs ∧
    (s.setF f i v).pwStarts = s.pwStarts ∧ (s.setF f i v).adcs = s.adcs ∧ (s.setF f i v).aux = s.aux ∧
    (s.setF f i v).auxc = s.auxc ∧ (s.setF f i v).vreg = s.vreg ∧ (s.setF f i v).ser = s.ser ∧ (s.setF f i v).hp = s.hp ∧
    (s.setF f i v).prp = s.prp ∧ (s.setF f i v).svExp = s.svExp ∧ (s.setF f i v).svFeed = s.svFeed ∧ (s.setF f i v).sec = s.sec ∧
    (s.setF f i v).pmc = s.pmc ∧ (s.setF f i v).therm = s.therm ∧ (s.setF f i v).jnl = s.jnl ∧
    (s.setF f i v).dmaEnst = s.dmaEnst ∧ (∀ x, (s.setF f i v).byte x = s.byte x) :=
  ⟨rfl, rfl, rfl, rfl, rfl, rfl, rfl, rfl, rfl, rfl, rfl, rfl, rfl, rfl, rfl, rfl, rfl, rfl, rfl, rfl, rfl, rfl, rfl, rfl, rfl, rfl, rfl, rfl, rfl, rfl, rfl, rfl, rfl, rfl, rfl, rfl, rfl, rfl, rfl, rfl, rfl, rfl, rfl, rfl, rfl, rfl, rfl, rfl, rfl, rfl, fun _ => rfl⟩

@[simp] theorem State.resetFields_keeps (p : Fld → Nat → Bool) :
    (s.resetFields p).variant = s.variant ∧ (s.resetFields p).pending = s.pending ∧ (s.resetFields p).free = s.free ∧
    (s.resetFields p).tick = s.tick ∧ (s.resetFields p).mem = s.mem ∧ (s.resetFields p).lost = s.lost ∧
    (s.resetFields p).eccBad = s.eccBad ∧ (s.resetFields p).eccSoft = s.eccSoft ∧ (s.resetFields p).resp = s.resp ∧
    (s.resetFields p).atu = s.atu ∧ (s.resetFields p).fretd = s.fretd ∧ (s.resetFields p).ce = s.ce ∧
    (s.resetFields p).haltEn = s.haltEn ∧ (s.resetFields p).pegs = s.pegs ∧ (s.resetFields p).arb = s.arb ∧
    (s.resetFields p).arms = s.arms ∧ (s.resetFields p).carrier = s.carrier ∧ (s.resetFields p).lanes = s.lanes ∧
    (s.resetFields p).ml = s.ml ∧ (s.resetFields p).mlOrdered = s.mlOrdered ∧ (s.resetFields p).twin = s.twin ∧
    (s.resetFields p).gated = s.gated ∧ (s.resetFields p).refOk = s.refOk ∧ (s.resetFields p).rc16Ok = s.rc16Ok ∧
    (s.resetFields p).quadFeed = s.quadFeed ∧ (s.resetFields p).lossAt = s.lossAt ∧ (s.resetFields p).acqAt = s.acqAt ∧
    (s.resetFields p).ditherSeed = s.ditherSeed ∧ (s.resetFields p).ditherAt = s.ditherAt ∧ (s.resetFields p).clock = s.clock ∧
    (s.resetFields p).secLatch = s.secLatch ∧ (s.resetFields p).tout = s.tout ∧ (s.resetFields p).cmps = s.cmps ∧
    (s.resetFields p).pins = s.pins ∧ (s.resetFields p).pairs = s.pairs ∧ (s.resetFields p).pwStarts = s.pwStarts ∧
    (s.resetFields p).adcs = s.adcs ∧ (s.resetFields p).aux = s.aux ∧ (s.resetFields p).auxc = s.auxc ∧
    (s.resetFields p).vreg = s.vreg ∧ (s.resetFields p).ser = s.ser ∧ (s.resetFields p).hp = s.hp ∧
    (s.resetFields p).prp = s.prp ∧ (s.resetFields p).svExp = s.svExp ∧ (s.resetFields p).svFeed = s.svFeed ∧
    (s.resetFields p).sec = s.sec ∧ (s.resetFields p).pmc = s.pmc ∧ (s.resetFields p).therm = s.therm ∧
    (s.resetFields p).jnl = s.jnl ∧ (s.resetFields p).dmaEnst = s.dmaEnst ∧ (∀ x, (s.resetFields p).byte x = s.byte x) :=
  ⟨rfl, rfl, rfl, rfl, rfl, rfl, rfl, rfl, rfl, rfl, rfl, rfl, rfl, rfl, rfl, rfl, rfl, rfl, rfl, rfl, rfl, rfl, rfl, rfl, rfl, rfl, rfl, rfl, rfl, rfl, rfl, rfl, rfl, rfl, rfl, rfl, rfl, rfl, rfl, rfl, rfl, rfl, rfl, rfl, rfl, rfl, rfl, rfl, rfl, rfl, fun _ => rfl⟩

@[simp] theorem State.setByte_keeps (a : Nat) (b : Byte) :
    (s.setByte a b).variant = s.variant ∧ (s.setByte a b).pending = s.pending ∧ (s.setByte a b).free = s.free ∧
    (s.setByte a b).tick = s.tick ∧ (s.setByte a b).regs = s.regs ∧ (s.setByte a b).lost = s.lost ∧
    (s.setByte a b).eccBad = s.eccBad ∧ (s.setByte a b).eccSoft = s.eccSoft ∧ (s.setByte a b).resp = s.resp ∧
    (s.setByte a b).atu = s.atu ∧ (s.setByte a b).fretd = s.fretd ∧ (s.setByte a b).ce = s.ce ∧
    (s.setByte a b).haltEn = s.haltEn ∧ (s.setByte a b).pegs = s.pegs ∧ (s.setByte a b).arb = s.arb ∧
    (s.setByte a b).arms = s.arms ∧ (s.setByte a b).carrier = s.carrier ∧ (s.setByte a b).lanes = s.lanes ∧
    (s.setByte a b).ml = s.ml ∧ (s.setByte a b).mlOrdered = s.mlOrdered ∧ (s.setByte a b).twin = s.twin ∧
    (s.setByte a b).gated = s.gated ∧ (s.setByte a b).refOk = s.refOk ∧ (s.setByte a b).rc16Ok = s.rc16Ok ∧
    (s.setByte a b).quadFeed = s.quadFeed ∧ (s.setByte a b).lossAt = s.lossAt ∧ (s.setByte a b).acqAt = s.acqAt ∧
    (s.setByte a b).ditherSeed = s.ditherSeed ∧ (s.setByte a b).ditherAt = s.ditherAt ∧ (s.setByte a b).clock = s.clock ∧
    (s.setByte a b).secLatch = s.secLatch ∧ (s.setByte a b).tout = s.tout ∧ (s.setByte a b).cmps = s.cmps ∧
    (s.setByte a b).pins = s.pins ∧ (s.setByte a b).pairs = s.pairs ∧ (s.setByte a b).pwStarts = s.pwStarts ∧
    (s.setByte a b).adcs = s.adcs ∧ (s.setByte a b).aux = s.aux ∧ (s.setByte a b).auxc = s.auxc ∧ (s.setByte a b).vreg = s.vreg ∧
    (s.setByte a b).ser = s.ser ∧ (s.setByte a b).hp = s.hp ∧ (s.setByte a b).prp = s.prp ∧ (s.setByte a b).svExp = s.svExp ∧
    (s.setByte a b).svFeed = s.svFeed ∧ (s.setByte a b).sec = s.sec ∧ (s.setByte a b).pmc = s.pmc ∧
    (s.setByte a b).therm = s.therm ∧ (s.setByte a b).jnl = s.jnl ∧ (s.setByte a b).dmaEnst = s.dmaEnst ∧
    (∀ g j, (s.setByte a b).getF g j = s.getF g j) :=
  ⟨rfl, rfl, rfl, rfl, rfl, rfl, rfl, rfl, rfl, rfl, rfl, rfl, rfl, rfl, rfl, rfl, rfl, rfl, rfl, rfl, rfl, rfl, rfl, rfl, rfl, rfl, rfl, rfl, rfl, rfl, rfl, rfl, rfl, rfl, rfl, rfl, rfl, rfl, rfl, rfl, rfl, rfl, rfl, rfl, rfl, rfl, rfl, rfl, rfl, rfl, fun _ _ => rfl⟩

@[simp] theorem State.clearMem_keeps (base size : Nat) :
    (s.clearMem base size).variant = s.variant ∧ (s.clearMem base size).pending = s.pending ∧
    (s.clearMem base size).free = s.free ∧ (s.clearMem base size).tick = s.tick ∧ (s.clearMem base size).regs = s.regs ∧
    (s.clearMem base size).lost = s.lost ∧ (s.clearMem base size).eccBad = s.eccBad ∧ (s.clearMem base size).eccSoft = s.eccSoft ∧
    (s.clearMem base size).resp = s.resp ∧ (s.clearMem base size).atu = s.atu ∧ (s.clearMem base size).fretd = s.fretd ∧
    (s.clearMem base size).ce = s.ce ∧ (s.clearMem base size).haltEn = s.haltEn ∧ (s.clearMem base size).pegs = s.pegs ∧
    (s.clearMem base size).arb = s.arb ∧ (s.clearMem base size).arms = s.arms ∧ (s.clearMem base size).carrier = s.carrier ∧
    (s.clearMem base size).lanes = s.lanes ∧ (s.clearMem base size).ml = s.ml ∧ (s.clearMem base size).mlOrdered = s.mlOrdered ∧
    (s.clearMem base size).twin = s.twin ∧ (s.clearMem base size).gated = s.gated ∧ (s.clearMem base size).refOk = s.refOk ∧
    (s.clearMem base size).rc16Ok = s.rc16Ok ∧ (s.clearMem base size).quadFeed = s.quadFeed ∧
    (s.clearMem base size).lossAt = s.lossAt ∧ (s.clearMem base size).acqAt = s.acqAt ∧
    (s.clearMem base size).ditherSeed = s.ditherSeed ∧ (s.clearMem base size).ditherAt = s.ditherAt ∧
    (s.clearMem base size).clock = s.clock ∧ (s.clearMem base size).secLatch = s.secLatch ∧ (s.clearMem base size).tout = s.tout ∧
    (s.clearMem base size).cmps = s.cmps ∧ (s.clearMem base size).pins = s.pins ∧ (s.clearMem base size).pairs = s.pairs ∧
    (s.clearMem base size).pwStarts = s.pwStarts ∧ (s.clearMem base size).adcs = s.adcs ∧ (s.clearMem base size).aux = s.aux ∧
    (s.clearMem base size).auxc = s.auxc ∧ (s.clearMem base size).vreg = s.vreg ∧ (s.clearMem base size).ser = s.ser ∧
    (s.clearMem base size).hp = s.hp ∧ (s.clearMem base size).prp = s.prp ∧ (s.clearMem base size).svExp = s.svExp ∧
    (s.clearMem base size).svFeed = s.svFeed ∧ (s.clearMem base size).sec = s.sec ∧ (s.clearMem base size).pmc = s.pmc ∧
    (s.clearMem base size).therm = s.therm ∧ (s.clearMem base size).jnl = s.jnl ∧ (s.clearMem base size).dmaEnst = s.dmaEnst ∧
    (∀ g j, (s.clearMem base size).getF g j = s.getF g j) :=
  ⟨rfl, rfl, rfl, rfl, rfl, rfl, rfl, rfl, rfl, rfl, rfl, rfl, rfl, rfl, rfl, rfl, rfl, rfl, rfl, rfl, rfl, rfl, rfl, rfl, rfl, rfl, rfl, rfl, rfl, rfl, rfl, rfl, rfl, rfl, rfl, rfl, rfl, rfl, rfl, rfl, rfl, rfl, rfl, rfl, rfl, rfl, rfl, rfl, rfl, rfl, fun _ _ => rfl⟩

@[simp] theorem State.loseMem_keeps (base size : Nat) :
    (s.loseMem base size).variant = s.variant ∧ (s.loseMem base size).pending = s.pending ∧ (s.loseMem base size).tick = s.tick ∧
    (s.loseMem base size).regs = s.regs ∧ (s.loseMem base size).eccBad = s.eccBad ∧ (s.loseMem base size).eccSoft = s.eccSoft ∧
    (s.loseMem base size).resp = s.resp ∧ (s.loseMem base size).atu = s.atu ∧ (s.loseMem base size).fretd = s.fretd ∧
    (s.loseMem base size).ce = s.ce ∧ (s.loseMem base size).haltEn = s.haltEn ∧ (s.loseMem base size).pegs = s.pegs ∧
    (s.loseMem base size).arb = s.arb ∧ (s.loseMem base size).arms = s.arms ∧ (s.loseMem base size).carrier = s.carrier ∧
    (s.loseMem base size).lanes = s.lanes ∧ (s.loseMem base size).ml = s.ml ∧ (s.loseMem base size).mlOrdered = s.mlOrdered ∧
    (s.loseMem base size).twin = s.twin ∧ (s.loseMem base size).gated = s.gated ∧ (s.loseMem base size).refOk = s.refOk ∧
    (s.loseMem base size).rc16Ok = s.rc16Ok ∧ (s.loseMem base size).quadFeed = s.quadFeed ∧
    (s.loseMem base size).lossAt = s.lossAt ∧ (s.loseMem base size).acqAt = s.acqAt ∧
    (s.loseMem base size).ditherSeed = s.ditherSeed ∧ (s.loseMem base size).ditherAt = s.ditherAt ∧
    (s.loseMem base size).clock = s.clock ∧ (s.loseMem base size).secLatch = s.secLatch ∧ (s.loseMem base size).tout = s.tout ∧
    (s.loseMem base size).cmps = s.cmps ∧ (s.loseMem base size).pins = s.pins ∧ (s.loseMem base size).pairs = s.pairs ∧
    (s.loseMem base size).pwStarts = s.pwStarts ∧ (s.loseMem base size).adcs = s.adcs ∧ (s.loseMem base size).aux = s.aux ∧
    (s.loseMem base size).auxc = s.auxc ∧ (s.loseMem base size).vreg = s.vreg ∧ (s.loseMem base size).ser = s.ser ∧
    (s.loseMem base size).hp = s.hp ∧ (s.loseMem base size).prp = s.prp ∧ (s.loseMem base size).svExp = s.svExp ∧
    (s.loseMem base size).svFeed = s.svFeed ∧ (s.loseMem base size).sec = s.sec ∧ (s.loseMem base size).pmc = s.pmc ∧
    (s.loseMem base size).therm = s.therm ∧ (s.loseMem base size).jnl = s.jnl ∧ (s.loseMem base size).dmaEnst = s.dmaEnst ∧
    (∀ g j, (s.loseMem base size).getF g j = s.getF g j) :=
  ⟨rfl, rfl, rfl, rfl, rfl, rfl, rfl, rfl, rfl, rfl, rfl, rfl, rfl, rfl, rfl, rfl, rfl, rfl, rfl, rfl, rfl, rfl, rfl, rfl, rfl, rfl, rfl, rfl, rfl, rfl, rfl, rfl, rfl, rfl, rfl, rfl, rfl, rfl, rfl, rfl, rfl, rfl, rfl, rfl, rfl, rfl, rfl, rfl, fun _ _ => rfl⟩

@[simp] theorem State.draw_keeps :
    (s.draw.2).variant = s.variant ∧ (s.draw.2).pending = s.pending ∧ (s.draw.2).tick = s.tick ∧ (s.draw.2).regs = s.regs ∧
    (s.draw.2).mem = s.mem ∧ (s.draw.2).lost = s.lost ∧ (s.draw.2).eccBad = s.eccBad ∧ (s.draw.2).eccSoft = s.eccSoft ∧
    (s.draw.2).resp = s.resp ∧ (s.draw.2).atu = s.atu ∧ (s.draw.2).fretd = s.fretd ∧ (s.draw.2).ce = s.ce ∧
    (s.draw.2).haltEn = s.haltEn ∧ (s.draw.2).pegs = s.pegs ∧ (s.draw.2).arb = s.arb ∧ (s.draw.2).arms = s.arms ∧
    (s.draw.2).carrier = s.carrier ∧ (s.draw.2).lanes = s.lanes ∧ (s.draw.2).ml = s.ml ∧ (s.draw.2).mlOrdered = s.mlOrdered ∧
    (s.draw.2).twin = s.twin ∧ (s.draw.2).gated = s.gated ∧ (s.draw.2).refOk = s.refOk ∧ (s.draw.2).rc16Ok = s.rc16Ok ∧
    (s.draw.2).quadFeed = s.quadFeed ∧ (s.draw.2).lossAt = s.lossAt ∧ (s.draw.2).acqAt = s.acqAt ∧
    (s.draw.2).ditherSeed = s.ditherSeed ∧ (s.draw.2).ditherAt = s.ditherAt ∧ (s.draw.2).clock = s.clock ∧
    (s.draw.2).secLatch = s.secLatch ∧ (s.draw.2).tout = s.tout ∧ (s.draw.2).cmps = s.cmps ∧ (s.draw.2).pins = s.pins ∧
    (s.draw.2).pairs = s.pairs ∧ (s.draw.2).pwStarts = s.pwStarts ∧ (s.draw.2).adcs = s.adcs ∧ (s.draw.2).aux = s.aux ∧
    (s.draw.2).auxc = s.auxc ∧ (s.draw.2).vreg = s.vreg ∧ (s.draw.2).ser = s.ser ∧ (s.draw.2).hp = s.hp ∧ (s.draw.2).prp = s.prp ∧
    (s.draw.2).svExp = s.svExp ∧ (s.draw.2).svFeed = s.svFeed ∧ (s.draw.2).sec = s.sec ∧ (s.draw.2).pmc = s.pmc ∧
    (s.draw.2).therm = s.therm ∧ (s.draw.2).jnl = s.jnl ∧ (s.draw.2).dmaEnst = s.dmaEnst ∧
    (∀ g j, (s.draw.2).getF g j = s.getF g j) ∧ (∀ x, (s.draw.2).byte x = s.byte x) :=
  ⟨rfl, rfl, rfl, rfl, rfl, rfl, rfl, rfl, rfl, rfl, rfl, rfl, rfl, rfl, rfl, rfl, rfl, rfl, rfl, rfl, rfl, rfl, rfl, rfl, rfl, rfl, rfl, rfl, rfl, rfl, rfl, rfl, rfl, rfl, rfl, rfl, rfl, rfl, rfl, rfl, rfl, rfl, rfl, rfl, rfl, rfl, rfl, rfl, rfl, rfl, fun _ _ => rfl, fun _ => rfl⟩

@[simp] theorem State.freshWord_keeps (a : Nat) :
    (s.freshWord a).variant = s.variant ∧ (s.freshWord a).pending = s.pending ∧ (s.freshWord a).free = s.free ∧
    (s.freshWord a).tick = s.tick ∧ (s.freshWord a).regs = s.regs ∧ (s.freshWord a).mem = s.mem ∧ (s.freshWord a).lost = s.lost ∧
    (s.freshWord a).resp = s.resp ∧ (s.freshWord a).atu = s.atu ∧ (s.freshWord a).fretd = s.fretd ∧ (s.freshWord a).ce = s.ce ∧
    (s.freshWord a).haltEn = s.haltEn ∧ (s.freshWord a).pegs = s.pegs ∧ (s.freshWord a).arb = s.arb ∧
    (s.freshWord a).arms = s.arms ∧ (s.freshWord a).carrier = s.carrier ∧ (s.freshWord a).lanes = s.lanes ∧
    (s.freshWord a).ml = s.ml ∧ (s.freshWord a).mlOrdered = s.mlOrdered ∧ (s.freshWord a).twin = s.twin ∧
    (s.freshWord a).gated = s.gated ∧ (s.freshWord a).refOk = s.refOk ∧ (s.freshWord a).rc16Ok = s.rc16Ok ∧
    (s.freshWord a).quadFeed = s.quadFeed ∧ (s.freshWord a).lossAt = s.lossAt ∧ (s.freshWord a).acqAt = s.acqAt ∧
    (s.freshWord a).ditherSeed = s.ditherSeed ∧ (s.freshWord a).ditherAt = s.ditherAt ∧ (s.freshWord a).clock = s.clock ∧
    (s.freshWord a).secLatch = s.secLatch ∧ (s.freshWord a).tout = s.tout ∧ (s.freshWord a).cmps = s.cmps ∧
    (s.freshWord a).pins = s.pins ∧ (s.freshWord a).pairs = s.pairs ∧ (s.freshWord a).pwStarts = s.pwStarts ∧
    (s.freshWord a).adcs = s.adcs ∧ (s.freshWord a).aux = s.aux ∧ (s.freshWord a).auxc = s.auxc ∧ (s.freshWord a).vreg = s.vreg ∧
    (s.freshWord a).ser = s.ser ∧ (s.freshWord a).hp = s.hp ∧ (s.freshWord a).prp = s.prp ∧ (s.freshWord a).svExp = s.svExp ∧
    (s.freshWord a).svFeed = s.svFeed ∧ (s.freshWord a).sec = s.sec ∧ (s.freshWord a).pmc = s.pmc ∧
    (s.freshWord a).therm = s.therm ∧ (s.freshWord a).jnl = s.jnl ∧ (s.freshWord a).dmaEnst = s.dmaEnst ∧
    (∀ g j, (s.freshWord a).getF g j = s.getF g j) ∧ (∀ x, (s.freshWord a).byte x = s.byte x) :=
  ⟨rfl, rfl, rfl, rfl, rfl, rfl, rfl, rfl, rfl, rfl, rfl, rfl, rfl, rfl, rfl, rfl, rfl, rfl, rfl, rfl, rfl, rfl, rfl, rfl, rfl, rfl, rfl, rfl, rfl, rfl, rfl, rfl, rfl, rfl, rfl, rfl, rfl, rfl, rfl, rfl, rfl, rfl, rfl, rfl, rfl, rfl, rfl, rfl, rfl, fun _ _ => rfl, fun _ => rfl⟩

@[simp] theorem State.freshRange_keeps (a k : Nat) :
    (s.freshRange a k).variant = s.variant ∧ (s.freshRange a k).pending = s.pending ∧ (s.freshRange a k).free = s.free ∧
    (s.freshRange a k).tick = s.tick ∧ (s.freshRange a k).regs = s.regs ∧ (s.freshRange a k).mem = s.mem ∧
    (s.freshRange a k).lost = s.lost ∧ (s.freshRange a k).resp = s.resp ∧ (s.freshRange a k).atu = s.atu ∧
    (s.freshRange a k).fretd = s.fretd ∧ (s.freshRange a k).ce = s.ce ∧ (s.freshRange a k).haltEn = s.haltEn ∧
    (s.freshRange a k).pegs = s.pegs ∧ (s.freshRange a k).arb = s.arb ∧ (s.freshRange a k).arms = s.arms ∧
    (s.freshRange a k).carrier = s.carrier ∧ (s.freshRange a k).lanes = s.lanes ∧ (s.freshRange a k).ml = s.ml ∧
    (s.freshRange a k).mlOrdered = s.mlOrdered ∧ (s.freshRange a k).twin = s.twin ∧ (s.freshRange a k).gated = s.gated ∧
    (s.freshRange a k).refOk = s.refOk ∧ (s.freshRange a k).rc16Ok = s.rc16Ok ∧ (s.freshRange a k).quadFeed = s.quadFeed ∧
    (s.freshRange a k).lossAt = s.lossAt ∧ (s.freshRange a k).acqAt = s.acqAt ∧ (s.freshRange a k).ditherSeed = s.ditherSeed ∧
    (s.freshRange a k).ditherAt = s.ditherAt ∧ (s.freshRange a k).clock = s.clock ∧ (s.freshRange a k).secLatch = s.secLatch ∧
    (s.freshRange a k).tout = s.tout ∧ (s.freshRange a k).cmps = s.cmps ∧ (s.freshRange a k).pins = s.pins ∧
    (s.freshRange a k).pairs = s.pairs ∧ (s.freshRange a k).pwStarts = s.pwStarts ∧ (s.freshRange a k).adcs = s.adcs ∧
    (s.freshRange a k).aux = s.aux ∧ (s.freshRange a k).auxc = s.auxc ∧ (s.freshRange a k).vreg = s.vreg ∧
    (s.freshRange a k).ser = s.ser ∧ (s.freshRange a k).hp = s.hp ∧ (s.freshRange a k).prp = s.prp ∧
    (s.freshRange a k).svExp = s.svExp ∧ (s.freshRange a k).svFeed = s.svFeed ∧ (s.freshRange a k).sec = s.sec ∧
    (s.freshRange a k).pmc = s.pmc ∧ (s.freshRange a k).therm = s.therm ∧ (s.freshRange a k).jnl = s.jnl ∧
    (s.freshRange a k).dmaEnst = s.dmaEnst ∧ (∀ g j, (s.freshRange a k).getF g j = s.getF g j) ∧
    (∀ x, (s.freshRange a k).byte x = s.byte x) :=
  ⟨rfl, rfl, rfl, rfl, rfl, rfl, rfl, rfl, rfl, rfl, rfl, rfl, rfl, rfl, rfl, rfl, rfl, rfl, rfl, rfl, rfl, rfl, rfl, rfl, rfl, rfl, rfl, rfl, rfl, rfl, rfl, rfl, rfl, rfl, rfl, rfl, rfl, rfl, rfl, rfl, rfl, rfl, rfl, rfl, rfl, rfl, rfl, rfl, rfl, fun _ _ => rfl, fun _ => rfl⟩

@[simp] theorem State.queueMir_keeps (f : MirFrame) :
    (s.queueMir f).variant = s.variant ∧ (s.queueMir f).pending = s.pending ∧ (s.queueMir f).free = s.free ∧
    (s.queueMir f).tick = s.tick ∧ (s.queueMir f).regs = s.regs ∧ (s.queueMir f).mem = s.mem ∧ (s.queueMir f).lost = s.lost ∧
    (s.queueMir f).eccBad = s.eccBad ∧ (s.queueMir f).eccSoft = s.eccSoft ∧ (s.queueMir f).resp = s.resp ∧
    (s.queueMir f).atu = s.atu ∧ (s.queueMir f).fretd = s.fretd ∧ (s.queueMir f).ce = s.ce ∧ (s.queueMir f).haltEn = s.haltEn ∧
    (s.queueMir f).pegs = s.pegs ∧ (s.queueMir f).arb = s.arb ∧ (s.queueMir f).arms = s.arms ∧
    (s.queueMir f).carrier = s.carrier ∧ (s.queueMir f).lanes = s.lanes ∧ (s.queueMir f).ml = s.ml ∧
    (s.queueMir f).mlOrdered = s.mlOrdered ∧ (s.queueMir f).twin = s.twin ∧ (s.queueMir f).gated = s.gated ∧
    (s.queueMir f).refOk = s.refOk ∧ (s.queueMir f).rc16Ok = s.rc16Ok ∧ (s.queueMir f).quadFeed = s.quadFeed ∧
    (s.queueMir f).lossAt = s.lossAt ∧ (s.queueMir f).acqAt = s.acqAt ∧ (s.queueMir f).ditherSeed = s.ditherSeed ∧
    (s.queueMir f).ditherAt = s.ditherAt ∧ (s.queueMir f).clock = s.clock ∧ (s.queueMir f).secLatch = s.secLatch ∧
    (s.queueMir f).tout = s.tout ∧ (s.queueMir f).cmps = s.cmps ∧ (s.queueMir f).pins = s.pins ∧ (s.queueMir f).pairs = s.pairs ∧
    (s.queueMir f).pwStarts = s.pwStarts ∧ (s.queueMir f).adcs = s.adcs ∧ (s.queueMir f).aux = s.aux ∧
    (s.queueMir f).auxc = s.auxc ∧ (s.queueMir f).vreg = s.vreg ∧ (s.queueMir f).ser = s.ser ∧ (s.queueMir f).hp = s.hp ∧
    (s.queueMir f).prp = s.prp ∧ (s.queueMir f).svExp = s.svExp ∧ (s.queueMir f).svFeed = s.svFeed ∧ (s.queueMir f).sec = s.sec ∧
    (s.queueMir f).pmc = s.pmc ∧ (s.queueMir f).therm = s.therm ∧ (s.queueMir f).dmaEnst = s.dmaEnst ∧
    (∀ g j, (s.queueMir f).getF g j = s.getF g j) ∧ (∀ x, (s.queueMir f).byte x = s.byte x) :=
  ⟨rfl, rfl, rfl, rfl, rfl, rfl, rfl, rfl, rfl, rfl, rfl, rfl, rfl, rfl, rfl, rfl, rfl, rfl, rfl, rfl, rfl, rfl, rfl, rfl, rfl, rfl, rfl, rfl, rfl, rfl, rfl, rfl, rfl, rfl, rfl, rfl, rfl, rfl, rfl, rfl, rfl, rfl, rfl, rfl, rfl, rfl, rfl, rfl, rfl, rfl, fun _ _ => rfl, fun _ => rfl⟩

@[simp] theorem State.answer_keeps (w : Word) :
    (s.answer w).variant = s.variant ∧ (s.answer w).pending = s.pending ∧ (s.answer w).free = s.free ∧
    (s.answer w).tick = s.tick ∧ (s.answer w).regs = s.regs ∧ (s.answer w).mem = s.mem ∧ (s.answer w).lost = s.lost ∧
    (s.answer w).eccBad = s.eccBad ∧ (s.answer w).eccSoft = s.eccSoft ∧ (s.answer w).atu = s.atu ∧ (s.answer w).fretd = s.fretd ∧
    (s.answer w).ce = s.ce ∧ (s.answer w).haltEn = s.haltEn ∧ (s.answer w).pegs = s.pegs ∧ (s.answer w).arb = s.arb ∧
    (s.answer w).arms = s.arms ∧ (s.answer w).carrier = s.carrier ∧ (s.answer w).lanes = s.lanes ∧ (s.answer w).ml = s.ml ∧
    (s.answer w).mlOrdered = s.mlOrdered ∧ (s.answer w).twin = s.twin ∧ (s.answer w).gated = s.gated ∧
    (s.answer w).refOk = s.refOk ∧ (s.answer w).rc16Ok = s.rc16Ok ∧ (s.answer w).quadFeed = s.quadFeed ∧
    (s.answer w).lossAt = s.lossAt ∧ (s.answer w).acqAt = s.acqAt ∧ (s.answer w).ditherSeed = s.ditherSeed ∧
    (s.answer w).ditherAt = s.ditherAt ∧ (s.answer w).clock = s.clock ∧ (s.answer w).secLatch = s.secLatch ∧
    (s.answer w).tout = s.tout ∧ (s.answer w).cmps = s.cmps ∧ (s.answer w).pins = s.pins ∧ (s.answer w).pairs = s.pairs ∧
    (s.answer w).pwStarts = s.pwStarts ∧ (s.answer w).adcs = s.adcs ∧ (s.answer w).aux = s.aux ∧ (s.answer w).auxc = s.auxc ∧
    (s.answer w).vreg = s.vreg ∧ (s.answer w).ser = s.ser ∧ (s.answer w).hp = s.hp ∧ (s.answer w).prp = s.prp ∧
    (s.answer w).svExp = s.svExp ∧ (s.answer w).svFeed = s.svFeed ∧ (s.answer w).sec = s.sec ∧ (s.answer w).pmc = s.pmc ∧
    (s.answer w).therm = s.therm ∧ (s.answer w).jnl = s.jnl ∧ (s.answer w).dmaEnst = s.dmaEnst ∧
    (∀ g j, (s.answer w).getF g j = s.getF g j) ∧ (∀ x, (s.answer w).byte x = s.byte x) :=
  ⟨rfl, rfl, rfl, rfl, rfl, rfl, rfl, rfl, rfl, rfl, rfl, rfl, rfl, rfl, rfl, rfl, rfl, rfl, rfl, rfl, rfl, rfl, rfl, rfl, rfl, rfl, rfl, rfl, rfl, rfl, rfl, rfl, rfl, rfl, rfl, rfl, rfl, rfl, rfl, rfl, rfl, rfl, rfl, rfl, rfl, rfl, rfl, rfl, rfl, rfl, fun _ _ => rfl, fun _ => rfl⟩

@[simp] theorem State.spend_keeps (k : Nat) :
    (s.spend k).variant = s.variant ∧ (s.spend k).pending = s.pending ∧ (s.spend k).free = s.free ∧ (s.spend k).regs = s.regs ∧
    (s.spend k).mem = s.mem ∧ (s.spend k).lost = s.lost ∧ (s.spend k).eccBad = s.eccBad ∧ (s.spend k).eccSoft = s.eccSoft ∧
    (s.spend k).resp = s.resp ∧ (s.spend k).atu = s.atu ∧ (s.spend k).fretd = s.fretd ∧ (s.spend k).ce = s.ce ∧
    (s.spend k).haltEn = s.haltEn ∧ (s.spend k).pegs = s.pegs ∧ (s.spend k).arb = s.arb ∧ (s.spend k).arms = s.arms ∧
    (s.spend k).lanes = s.lanes ∧ (s.spend k).ml = s.ml ∧ (s.spend k).mlOrdered = s.mlOrdered ∧ (s.spend k).twin = s.twin ∧
    (s.spend k).gated = s.gated ∧ (s.spend k).refOk = s.refOk ∧ (s.spend k).rc16Ok = s.rc16Ok ∧
    (s.spend k).quadFeed = s.quadFeed ∧ (s.spend k).lossAt = s.lossAt ∧ (s.spend k).acqAt = s.acqAt ∧
    (s.spend k).ditherSeed = s.ditherSeed ∧ (s.spend k).ditherAt = s.ditherAt ∧ (s.spend k).secLatch = s.secLatch ∧
    (s.spend k).tout = s.tout ∧ (s.spend k).cmps = s.cmps ∧ (s.spend k).pins = s.pins ∧ (s.spend k).pairs = s.pairs ∧
    (s.spend k).pwStarts = s.pwStarts ∧ (s.spend k).adcs = s.adcs ∧ (s.spend k).aux = s.aux ∧ (s.spend k).auxc = s.auxc ∧
    (s.spend k).vreg = s.vreg ∧ (s.spend k).ser = s.ser ∧ (s.spend k).hp = s.hp ∧ (s.spend k).prp = s.prp ∧
    (s.spend k).svExp = s.svExp ∧ (s.spend k).svFeed = s.svFeed ∧ (s.spend k).sec = s.sec ∧ (s.spend k).pmc = s.pmc ∧
    (s.spend k).therm = s.therm ∧ (s.spend k).jnl = s.jnl ∧ (s.spend k).dmaEnst = s.dmaEnst ∧
    (∀ g j, (s.spend k).getF g j = s.getF g j) ∧ (∀ x, (s.spend k).byte x = s.byte x) :=
  ⟨rfl, rfl, rfl, rfl, rfl, rfl, rfl, rfl, rfl, rfl, rfl, rfl, rfl, rfl, rfl, rfl, rfl, rfl, rfl, rfl, rfl, rfl, rfl, rfl, rfl, rfl, rfl, rfl, rfl, rfl, rfl, rfl, rfl, rfl, rfl, rfl, rfl, rfl, rfl, rfl, rfl, rfl, rfl, rfl, rfl, rfl, rfl, rfl, fun _ _ => rfl, fun _ => rfl⟩

@[simp] theorem State.modCe_keeps (n : Fin 24) (f : Eng → Eng) :
    (s.modCe n f).variant = s.variant ∧ (s.modCe n f).pending = s.pending ∧ (s.modCe n f).free = s.free ∧
    (s.modCe n f).tick = s.tick ∧ (s.modCe n f).regs = s.regs ∧ (s.modCe n f).mem = s.mem ∧ (s.modCe n f).lost = s.lost ∧
    (s.modCe n f).eccBad = s.eccBad ∧ (s.modCe n f).eccSoft = s.eccSoft ∧ (s.modCe n f).resp = s.resp ∧
    (s.modCe n f).atu = s.atu ∧ (s.modCe n f).fretd = s.fretd ∧ (s.modCe n f).haltEn = s.haltEn ∧ (s.modCe n f).pegs = s.pegs ∧
    (s.modCe n f).arb = s.arb ∧ (s.modCe n f).arms = s.arms ∧ (s.modCe n f).carrier = s.carrier ∧ (s.modCe n f).lanes = s.lanes ∧
    (s.modCe n f).ml = s.ml ∧ (s.modCe n f).mlOrdered = s.mlOrdered ∧ (s.modCe n f).twin = s.twin ∧
    (s.modCe n f).gated = s.gated ∧ (s.modCe n f).refOk = s.refOk ∧ (s.modCe n f).rc16Ok = s.rc16Ok ∧
    (s.modCe n f).quadFeed = s.quadFeed ∧ (s.modCe n f).lossAt = s.lossAt ∧ (s.modCe n f).acqAt = s.acqAt ∧
    (s.modCe n f).ditherSeed = s.ditherSeed ∧ (s.modCe n f).ditherAt = s.ditherAt ∧ (s.modCe n f).clock = s.clock ∧
    (s.modCe n f).secLatch = s.secLatch ∧ (s.modCe n f).tout = s.tout ∧ (s.modCe n f).cmps = s.cmps ∧
    (s.modCe n f).pins = s.pins ∧ (s.modCe n f).pairs = s.pairs ∧ (s.modCe n f).pwStarts = s.pwStarts ∧
    (s.modCe n f).adcs = s.adcs ∧ (s.modCe n f).aux = s.aux ∧ (s.modCe n f).auxc = s.auxc ∧ (s.modCe n f).vreg = s.vreg ∧
    (s.modCe n f).ser = s.ser ∧ (s.modCe n f).hp = s.hp ∧ (s.modCe n f).prp = s.prp ∧ (s.modCe n f).svExp = s.svExp ∧
    (s.modCe n f).svFeed = s.svFeed ∧ (s.modCe n f).sec = s.sec ∧ (s.modCe n f).pmc = s.pmc ∧ (s.modCe n f).therm = s.therm ∧
    (s.modCe n f).jnl = s.jnl ∧ (s.modCe n f).dmaEnst = s.dmaEnst ∧ (∀ g j, (s.modCe n f).getF g j = s.getF g j) ∧
    (∀ x, (s.modCe n f).byte x = s.byte x) :=
  ⟨rfl, rfl, rfl, rfl, rfl, rfl, rfl, rfl, rfl, rfl, rfl, rfl, rfl, rfl, rfl, rfl, rfl, rfl, rfl, rfl, rfl, rfl, rfl, rfl, rfl, rfl, rfl, rfl, rfl, rfl, rfl, rfl, rfl, rfl, rfl, rfl, rfl, rfl, rfl, rfl, rfl, rfl, rfl, rfl, rfl, rfl, rfl, rfl, rfl, rfl, fun _ _ => rfl, fun _ => rfl⟩

@[simp] theorem State.modPeg_keeps (n : Fin 256) (f : Peg → Peg) :
    (s.modPeg n f).variant = s.variant ∧ (s.modPeg n f).pending = s.pending ∧ (s.modPeg n f).free = s.free ∧
    (s.modPeg n f).tick = s.tick ∧ (s.modPeg n f).regs = s.regs ∧ (s.modPeg n f).mem = s.mem ∧ (s.modPeg n f).lost = s.lost ∧
    (s.modPeg n f).eccBad = s.eccBad ∧ (s.modPeg n f).eccSoft = s.eccSoft ∧ (s.modPeg n f).resp = s.resp ∧
    (s.modPeg n f).atu = s.atu ∧ (s.modPeg n f).fretd = s.fretd ∧ (s.modPeg n f).ce = s.ce ∧ (s.modPeg n f).haltEn = s.haltEn ∧
    (s.modPeg n f).arb = s.arb ∧ (s.modPeg n f).arms = s.arms ∧ (s.modPeg n f).carrier = s.carrier ∧
    (s.modPeg n f).lanes = s.lanes ∧ (s.modPeg n f).ml = s.ml ∧ (s.modPeg n f).mlOrdered = s.mlOrdered ∧
    (s.modPeg n f).twin = s.twin ∧ (s.modPeg n f).gated = s.gated ∧ (s.modPeg n f).refOk = s.refOk ∧
    (s.modPeg n f).rc16Ok = s.rc16Ok ∧ (s.modPeg n f).quadFeed = s.quadFeed ∧ (s.modPeg n f).lossAt = s.lossAt ∧
    (s.modPeg n f).acqAt = s.acqAt ∧ (s.modPeg n f).ditherSeed = s.ditherSeed ∧ (s.modPeg n f).ditherAt = s.ditherAt ∧
    (s.modPeg n f).clock = s.clock ∧ (s.modPeg n f).secLatch = s.secLatch ∧ (s.modPeg n f).tout = s.tout ∧
    (s.modPeg n f).cmps = s.cmps ∧ (s.modPeg n f).pins = s.pins ∧ (s.modPeg n f).pairs = s.pairs ∧
    (s.modPeg n f).pwStarts = s.pwStarts ∧ (s.modPeg n f).adcs = s.adcs ∧ (s.modPeg n f).aux = s.aux ∧
    (s.modPeg n f).auxc = s.auxc ∧ (s.modPeg n f).vreg = s.vreg ∧ (s.modPeg n f).ser = s.ser ∧ (s.modPeg n f).hp = s.hp ∧
    (s.modPeg n f).prp = s.prp ∧ (s.modPeg n f).svExp = s.svExp ∧ (s.modPeg n f).svFeed = s.svFeed ∧ (s.modPeg n f).sec = s.sec ∧
    (s.modPeg n f).pmc = s.pmc ∧ (s.modPeg n f).therm = s.therm ∧ (s.modPeg n f).jnl = s.jnl ∧
    (s.modPeg n f).dmaEnst = s.dmaEnst ∧ (∀ g j, (s.modPeg n f).getF g j = s.getF g j) ∧ (∀ x, (s.modPeg n f).byte x = s.byte x) :=
  ⟨rfl, rfl, rfl, rfl, rfl, rfl, rfl, rfl, rfl, rfl, rfl, rfl, rfl, rfl, rfl, rfl, rfl, rfl, rfl, rfl, rfl, rfl, rfl, rfl, rfl, rfl, rfl, rfl, rfl, rfl, rfl, rfl, rfl, rfl, rfl, rfl, rfl, rfl, rfl, rfl, rfl, rfl, rfl, rfl, rfl, rfl, rfl, rfl, rfl, rfl, fun _ _ => rfl, fun _ => rfl⟩

@[simp] theorem State.modArm_keeps (n : Fin 6) (f : ArmSt → ArmSt) :
    (s.modArm n f).variant = s.variant ∧ (s.modArm n f).pending = s.pending ∧ (s.modArm n f).free = s.free ∧
    (s.modArm n f).tick = s.tick ∧ (s.modArm n f).regs = s.regs ∧ (s.modArm n f).mem = s.mem ∧ (s.modArm n f).lost = s.lost ∧
    (s.modArm n f).eccBad = s.eccBad ∧ (s.modArm n f).eccSoft = s.eccSoft ∧ (s.modArm n f).resp = s.resp ∧
    (s.modArm n f).atu = s.atu ∧ (s.modArm n f).fretd = s.fretd ∧ (s.modArm n f).ce = s.ce ∧ (s.modArm n f).haltEn = s.haltEn ∧
    (s.modArm n f).pegs = s.pegs ∧ (s.modArm n f).arb = s.arb ∧ (s.modArm n f).carrier = s.carrier ∧
    (s.modArm n f).lanes = s.lanes ∧ (s.modArm n f).ml = s.ml ∧ (s.modArm n f).mlOrdered = s.mlOrdered ∧
    (s.modArm n f).twin = s.twin ∧ (s.modArm n f).gated = s.gated ∧ (s.modArm n f).refOk = s.refOk ∧
    (s.modArm n f).rc16Ok = s.rc16Ok ∧ (s.modArm n f).quadFeed = s.quadFeed ∧ (s.modArm n f).lossAt = s.lossAt ∧
    (s.modArm n f).acqAt = s.acqAt ∧ (s.modArm n f).ditherSeed = s.ditherSeed ∧ (s.modArm n f).ditherAt = s.ditherAt ∧
    (s.modArm n f).clock = s.clock ∧ (s.modArm n f).secLatch = s.secLatch ∧ (s.modArm n f).tout = s.tout ∧
    (s.modArm n f).cmps = s.cmps ∧ (s.modArm n f).pins = s.pins ∧ (s.modArm n f).pairs = s.pairs ∧
    (s.modArm n f).pwStarts = s.pwStarts ∧ (s.modArm n f).adcs = s.adcs ∧ (s.modArm n f).aux = s.aux ∧
    (s.modArm n f).auxc = s.auxc ∧ (s.modArm n f).vreg = s.vreg ∧ (s.modArm n f).ser = s.ser ∧ (s.modArm n f).hp = s.hp ∧
    (s.modArm n f).prp = s.prp ∧ (s.modArm n f).svExp = s.svExp ∧ (s.modArm n f).svFeed = s.svFeed ∧ (s.modArm n f).sec = s.sec ∧
    (s.modArm n f).pmc = s.pmc ∧ (s.modArm n f).therm = s.therm ∧ (s.modArm n f).jnl = s.jnl ∧
    (s.modArm n f).dmaEnst = s.dmaEnst ∧ (∀ g j, (s.modArm n f).getF g j = s.getF g j) ∧ (∀ x, (s.modArm n f).byte x = s.byte x) :=
  ⟨rfl, rfl, rfl, rfl, rfl, rfl, rfl, rfl, rfl, rfl, rfl, rfl, rfl, rfl, rfl, rfl, rfl, rfl, rfl, rfl, rfl, rfl, rfl, rfl, rfl, rfl, rfl, rfl, rfl, rfl, rfl, rfl, rfl, rfl, rfl, rfl, rfl, rfl, rfl, rfl, rfl, rfl, rfl, rfl, rfl, rfl, rfl, rfl, rfl, rfl, fun _ _ => rfl, fun _ => rfl⟩

@[simp] theorem State.modLane_keeps (n : Fin 96) (f : LaneSt → LaneSt) :
    (s.modLane n f).variant = s.variant ∧ (s.modLane n f).pending = s.pending ∧ (s.modLane n f).free = s.free ∧
    (s.modLane n f).tick = s.tick ∧ (s.modLane n f).regs = s.regs ∧ (s.modLane n f).mem = s.mem ∧ (s.modLane n f).lost = s.lost ∧
    (s.modLane n f).eccBad = s.eccBad ∧ (s.modLane n f).eccSoft = s.eccSoft ∧ (s.modLane n f).resp = s.resp ∧
    (s.modLane n f).atu = s.atu ∧ (s.modLane n f).fretd = s.fretd ∧ (s.modLane n f).ce = s.ce ∧
    (s.modLane n f).haltEn = s.haltEn ∧ (s.modLane n f).pegs = s.pegs ∧ (s.modLane n f).arb = s.arb ∧
    (s.modLane n f).arms = s.arms ∧ (s.modLane n f).carrier = s.carrier ∧ (s.modLane n f).ml = s.ml ∧
    (s.modLane n f).mlOrdered = s.mlOrdered ∧ (s.modLane n f).twin = s.twin ∧ (s.modLane n f).gated = s.gated ∧
    (s.modLane n f).refOk = s.refOk ∧ (s.modLane n f).rc16Ok = s.rc16Ok ∧ (s.modLane n f).quadFeed = s.quadFeed ∧
    (s.modLane n f).lossAt = s.lossAt ∧ (s.modLane n f).acqAt = s.acqAt ∧ (s.modLane n f).ditherSeed = s.ditherSeed ∧
    (s.modLane n f).ditherAt = s.ditherAt ∧ (s.modLane n f).clock = s.clock ∧ (s.modLane n f).secLatch = s.secLatch ∧
    (s.modLane n f).tout = s.tout ∧ (s.modLane n f).cmps = s.cmps ∧ (s.modLane n f).pins = s.pins ∧
    (s.modLane n f).pairs = s.pairs ∧ (s.modLane n f).pwStarts = s.pwStarts ∧ (s.modLane n f).adcs = s.adcs ∧
    (s.modLane n f).aux = s.aux ∧ (s.modLane n f).auxc = s.auxc ∧ (s.modLane n f).vreg = s.vreg ∧ (s.modLane n f).ser = s.ser ∧
    (s.modLane n f).hp = s.hp ∧ (s.modLane n f).prp = s.prp ∧ (s.modLane n f).svExp = s.svExp ∧
    (s.modLane n f).svFeed = s.svFeed ∧ (s.modLane n f).sec = s.sec ∧ (s.modLane n f).pmc = s.pmc ∧
    (s.modLane n f).therm = s.therm ∧ (s.modLane n f).jnl = s.jnl ∧ (s.modLane n f).dmaEnst = s.dmaEnst ∧
    (∀ g j, (s.modLane n f).getF g j = s.getF g j) ∧ (∀ x, (s.modLane n f).byte x = s.byte x) :=
  ⟨rfl, rfl, rfl, rfl, rfl, rfl, rfl, rfl, rfl, rfl, rfl, rfl, rfl, rfl, rfl, rfl, rfl, rfl, rfl, rfl, rfl, rfl, rfl, rfl, rfl, rfl, rfl, rfl, rfl, rfl, rfl, rfl, rfl, rfl, rfl, rfl, rfl, rfl, rfl, rfl, rfl, rfl, rfl, rfl, rfl, rfl, rfl, rfl, rfl, rfl, fun _ _ => rfl, fun _ => rfl⟩

@[simp] theorem State.modPair_keeps (n : Fin 24) (f : PairSt → PairSt) :
    (s.modPair n f).variant = s.variant ∧ (s.modPair n f).pending = s.pending ∧ (s.modPair n f).free = s.free ∧
    (s.modPair n f).tick = s.tick ∧ (s.modPair n f).regs = s.regs ∧ (s.modPair n f).mem = s.mem ∧ (s.modPair n f).lost = s.lost ∧
    (s.modPair n f).eccBad = s.eccBad ∧ (s.modPair n f).eccSoft = s.eccSoft ∧ (s.modPair n f).resp = s.resp ∧
    (s.modPair n f).atu = s.atu ∧ (s.modPair n f).fretd = s.fretd ∧ (s.modPair n f).ce = s.ce ∧
    (s.modPair n f).haltEn = s.haltEn ∧ (s.modPair n f).pegs = s.pegs ∧ (s.modPair n f).arb = s.arb ∧
    (s.modPair n f).arms = s.arms ∧ (s.modPair n f).carrier = s.carrier ∧ (s.modPair n f).lanes = s.lanes ∧
    (s.modPair n f).ml = s.ml ∧ (s.modPair n f).mlOrdered = s.mlOrdered ∧ (s.modPair n f).twin = s.twin ∧
    (s.modPair n f).gated = s.gated ∧ (s.modPair n f).refOk = s.refOk ∧ (s.modPair n f).rc16Ok = s.rc16Ok ∧
    (s.modPair n f).quadFeed = s.quadFeed ∧ (s.modPair n f).lossAt = s.lossAt ∧ (s.modPair n f).acqAt = s.acqAt ∧
    (s.modPair n f).ditherSeed = s.ditherSeed ∧ (s.modPair n f).ditherAt = s.ditherAt ∧ (s.modPair n f).clock = s.clock ∧
    (s.modPair n f).secLatch = s.secLatch ∧ (s.modPair n f).tout = s.tout ∧ (s.modPair n f).cmps = s.cmps ∧
    (s.modPair n f).pins = s.pins ∧ (s.modPair n f).pwStarts = s.pwStarts ∧ (s.modPair n f).adcs = s.adcs ∧
    (s.modPair n f).aux = s.aux ∧ (s.modPair n f).auxc = s.auxc ∧ (s.modPair n f).vreg = s.vreg ∧ (s.modPair n f).ser = s.ser ∧
    (s.modPair n f).hp = s.hp ∧ (s.modPair n f).prp = s.prp ∧ (s.modPair n f).svExp = s.svExp ∧
    (s.modPair n f).svFeed = s.svFeed ∧ (s.modPair n f).sec = s.sec ∧ (s.modPair n f).pmc = s.pmc ∧
    (s.modPair n f).therm = s.therm ∧ (s.modPair n f).jnl = s.jnl ∧ (s.modPair n f).dmaEnst = s.dmaEnst ∧
    (∀ g j, (s.modPair n f).getF g j = s.getF g j) ∧ (∀ x, (s.modPair n f).byte x = s.byte x) :=
  ⟨rfl, rfl, rfl, rfl, rfl, rfl, rfl, rfl, rfl, rfl, rfl, rfl, rfl, rfl, rfl, rfl, rfl, rfl, rfl, rfl, rfl, rfl, rfl, rfl, rfl, rfl, rfl, rfl, rfl, rfl, rfl, rfl, rfl, rfl, rfl, rfl, rfl, rfl, rfl, rfl, rfl, rfl, rfl, rfl, rfl, rfl, rfl, rfl, rfl, rfl, fun _ _ => rfl, fun _ => rfl⟩

@[simp] theorem State.modAdc_keeps (n : Fin 8) (f : AdcSt → AdcSt) :
    (s.modAdc n f).variant = s.variant ∧ (s.modAdc n f).pending = s.pending ∧ (s.modAdc n f).free = s.free ∧
    (s.modAdc n f).tick = s.tick ∧ (s.modAdc n f).regs = s.regs ∧ (s.modAdc n f).mem = s.mem ∧ (s.modAdc n f).lost = s.lost ∧
    (s.modAdc n f).eccBad = s.eccBad ∧ (s.modAdc n f).eccSoft = s.eccSoft ∧ (s.modAdc n f).resp = s.resp ∧
    (s.modAdc n f).atu = s.atu ∧ (s.modAdc n f).fretd = s.fretd ∧ (s.modAdc n f).ce = s.ce ∧ (s.modAdc n f).haltEn = s.haltEn ∧
    (s.modAdc n f).pegs = s.pegs ∧ (s.modAdc n f).arb = s.arb ∧ (s.modAdc n f).arms = s.arms ∧
    (s.modAdc n f).carrier = s.carrier ∧ (s.modAdc n f).lanes = s.lanes ∧ (s.modAdc n f).ml = s.ml ∧
    (s.modAdc n f).mlOrdered = s.mlOrdered ∧ (s.modAdc n f).twin = s.twin ∧ (s.modAdc n f).gated = s.gated ∧
    (s.modAdc n f).refOk = s.refOk ∧ (s.modAdc n f).rc16Ok = s.rc16Ok ∧ (s.modAdc n f).quadFeed = s.quadFeed ∧
    (s.modAdc n f).lossAt = s.lossAt ∧ (s.modAdc n f).acqAt = s.acqAt ∧ (s.modAdc n f).ditherSeed = s.ditherSeed ∧
    (s.modAdc n f).ditherAt = s.ditherAt ∧ (s.modAdc n f).clock = s.clock ∧ (s.modAdc n f).secLatch = s.secLatch ∧
    (s.modAdc n f).tout = s.tout ∧ (s.modAdc n f).cmps = s.cmps ∧ (s.modAdc n f).pins = s.pins ∧ (s.modAdc n f).pairs = s.pairs ∧
    (s.modAdc n f).pwStarts = s.pwStarts ∧ (s.modAdc n f).aux = s.aux ∧ (s.modAdc n f).auxc = s.auxc ∧
    (s.modAdc n f).vreg = s.vreg ∧ (s.modAdc n f).ser = s.ser ∧ (s.modAdc n f).hp = s.hp ∧ (s.modAdc n f).prp = s.prp ∧
    (s.modAdc n f).svExp = s.svExp ∧ (s.modAdc n f).svFeed = s.svFeed ∧ (s.modAdc n f).sec = s.sec ∧ (s.modAdc n f).pmc = s.pmc ∧
    (s.modAdc n f).therm = s.therm ∧ (s.modAdc n f).jnl = s.jnl ∧ (s.modAdc n f).dmaEnst = s.dmaEnst ∧
    (∀ g j, (s.modAdc n f).getF g j = s.getF g j) ∧ (∀ x, (s.modAdc n f).byte x = s.byte x) :=
  ⟨rfl, rfl, rfl, rfl, rfl, rfl, rfl, rfl, rfl, rfl, rfl, rfl, rfl, rfl, rfl, rfl, rfl, rfl, rfl, rfl, rfl, rfl, rfl, rfl, rfl, rfl, rfl, rfl, rfl, rfl, rfl, rfl, rfl, rfl, rfl, rfl, rfl, rfl, rfl, rfl, rfl, rfl, rfl, rfl, rfl, rfl, rfl, rfl, rfl, rfl, fun _ _ => rfl, fun _ => rfl⟩

@[simp] theorem State.modAux_keeps (n : Fin 4) (f : AuxSt → AuxSt) :
    (s.modAux n f).variant = s.variant ∧ (s.modAux n f).pending = s.pending ∧ (s.modAux n f).free = s.free ∧
    (s.modAux n f).tick = s.tick ∧ (s.modAux n f).regs = s.regs ∧ (s.modAux n f).mem = s.mem ∧ (s.modAux n f).lost = s.lost ∧
    (s.modAux n f).eccBad = s.eccBad ∧ (s.modAux n f).eccSoft = s.eccSoft ∧ (s.modAux n f).resp = s.resp ∧
    (s.modAux n f).atu = s.atu ∧ (s.modAux n f).fretd = s.fretd ∧ (s.modAux n f).ce = s.ce ∧ (s.modAux n f).haltEn = s.haltEn ∧
    (s.modAux n f).pegs = s.pegs ∧ (s.modAux n f).arb = s.arb ∧ (s.modAux n f).arms = s.arms ∧
    (s.modAux n f).carrier = s.carrier ∧ (s.modAux n f).lanes = s.lanes ∧ (s.modAux n f).ml = s.ml ∧
    (s.modAux n f).mlOrdered = s.mlOrdered ∧ (s.modAux n f).twin = s.twin ∧ (s.modAux n f).gated = s.gated ∧
    (s.modAux n f).refOk = s.refOk ∧ (s.modAux n f).rc16Ok = s.rc16Ok ∧ (s.modAux n f).quadFeed = s.quadFeed ∧
    (s.modAux n f).lossAt = s.lossAt ∧ (s.modAux n f).acqAt = s.acqAt ∧ (s.modAux n f).ditherSeed = s.ditherSeed ∧
    (s.modAux n f).ditherAt = s.ditherAt ∧ (s.modAux n f).clock = s.clock ∧ (s.modAux n f).secLatch = s.secLatch ∧
    (s.modAux n f).tout = s.tout ∧ (s.modAux n f).cmps = s.cmps ∧ (s.modAux n f).pins = s.pins ∧ (s.modAux n f).pairs = s.pairs ∧
    (s.modAux n f).pwStarts = s.pwStarts ∧ (s.modAux n f).adcs = s.adcs ∧ (s.modAux n f).auxc = s.auxc ∧
    (s.modAux n f).vreg = s.vreg ∧ (s.modAux n f).ser = s.ser ∧ (s.modAux n f).hp = s.hp ∧ (s.modAux n f).prp = s.prp ∧
    (s.modAux n f).svExp = s.svExp ∧ (s.modAux n f).svFeed = s.svFeed ∧ (s.modAux n f).sec = s.sec ∧ (s.modAux n f).pmc = s.pmc ∧
    (s.modAux n f).therm = s.therm ∧ (s.modAux n f).jnl = s.jnl ∧ (s.modAux n f).dmaEnst = s.dmaEnst ∧
    (∀ g j, (s.modAux n f).getF g j = s.getF g j) ∧ (∀ x, (s.modAux n f).byte x = s.byte x) :=
  ⟨rfl, rfl, rfl, rfl, rfl, rfl, rfl, rfl, rfl, rfl, rfl, rfl, rfl, rfl, rfl, rfl, rfl, rfl, rfl, rfl, rfl, rfl, rfl, rfl, rfl, rfl, rfl, rfl, rfl, rfl, rfl, rfl, rfl, rfl, rfl, rfl, rfl, rfl, rfl, rfl, rfl, rfl, rfl, rfl, rfl, rfl, rfl, rfl, rfl, rfl, fun _ _ => rfl, fun _ => rfl⟩

@[simp] theorem State.modHp_keeps (n : Fin 4) (f : HpSt → HpSt) :
    (s.modHp n f).variant = s.variant ∧ (s.modHp n f).pending = s.pending ∧ (s.modHp n f).free = s.free ∧
    (s.modHp n f).tick = s.tick ∧ (s.modHp n f).regs = s.regs ∧ (s.modHp n f).mem = s.mem ∧ (s.modHp n f).lost = s.lost ∧
    (s.modHp n f).eccBad = s.eccBad ∧ (s.modHp n f).eccSoft = s.eccSoft ∧ (s.modHp n f).resp = s.resp ∧
    (s.modHp n f).atu = s.atu ∧ (s.modHp n f).fretd = s.fretd ∧ (s.modHp n f).ce = s.ce ∧ (s.modHp n f).haltEn = s.haltEn ∧
    (s.modHp n f).pegs = s.pegs ∧ (s.modHp n f).arb = s.arb ∧ (s.modHp n f).arms = s.arms ∧ (s.modHp n f).carrier = s.carrier ∧
    (s.modHp n f).lanes = s.lanes ∧ (s.modHp n f).ml = s.ml ∧ (s.modHp n f).mlOrdered = s.mlOrdered ∧
    (s.modHp n f).twin = s.twin ∧ (s.modHp n f).gated = s.gated ∧ (s.modHp n f).refOk = s.refOk ∧
    (s.modHp n f).rc16Ok = s.rc16Ok ∧ (s.modHp n f).quadFeed = s.quadFeed ∧ (s.modHp n f).lossAt = s.lossAt ∧
    (s.modHp n f).acqAt = s.acqAt ∧ (s.modHp n f).ditherSeed = s.ditherSeed ∧ (s.modHp n f).ditherAt = s.ditherAt ∧
    (s.modHp n f).clock = s.clock ∧ (s.modHp n f).secLatch = s.secLatch ∧ (s.modHp n f).tout = s.tout ∧
    (s.modHp n f).cmps = s.cmps ∧ (s.modHp n f).pins = s.pins ∧ (s.modHp n f).pairs = s.pairs ∧
    (s.modHp n f).pwStarts = s.pwStarts ∧ (s.modHp n f).adcs = s.adcs ∧ (s.modHp n f).aux = s.aux ∧ (s.modHp n f).auxc = s.auxc ∧
    (s.modHp n f).vreg = s.vreg ∧ (s.modHp n f).ser = s.ser ∧ (s.modHp n f).prp = s.prp ∧ (s.modHp n f).svExp = s.svExp ∧
    (s.modHp n f).svFeed = s.svFeed ∧ (s.modHp n f).sec = s.sec ∧ (s.modHp n f).pmc = s.pmc ∧ (s.modHp n f).therm = s.therm ∧
    (s.modHp n f).jnl = s.jnl ∧ (s.modHp n f).dmaEnst = s.dmaEnst ∧ (∀ g j, (s.modHp n f).getF g j = s.getF g j) ∧
    (∀ x, (s.modHp n f).byte x = s.byte x) :=
  ⟨rfl, rfl, rfl, rfl, rfl, rfl, rfl, rfl, rfl, rfl, rfl, rfl, rfl, rfl, rfl, rfl, rfl, rfl, rfl, rfl, rfl, rfl, rfl, rfl, rfl, rfl, rfl, rfl, rfl, rfl, rfl, rfl, rfl, rfl, rfl, rfl, rfl, rfl, rfl, rfl, rfl, rfl, rfl, rfl, rfl, rfl, rfl, rfl, rfl, rfl, fun _ _ => rfl, fun _ => rfl⟩

@[simp] theorem State.modPrp_keeps (n : Fin 2) (f : PrpSt → PrpSt) :
    (s.modPrp n f).variant = s.variant ∧ (s.modPrp n f).pending = s.pending ∧ (s.modPrp n f).free = s.free ∧
    (s.modPrp n f).tick = s.tick ∧ (s.modPrp n f).regs = s.regs ∧ (s.modPrp n f).mem = s.mem ∧ (s.modPrp n f).lost = s.lost ∧
    (s.modPrp n f).eccBad = s.eccBad ∧ (s.modPrp n f).eccSoft = s.eccSoft ∧ (s.modPrp n f).resp = s.resp ∧
    (s.modPrp n f).atu = s.atu ∧ (s.modPrp n f).fretd = s.fretd ∧ (s.modPrp n f).ce = s.ce ∧ (s.modPrp n f).haltEn = s.haltEn ∧
    (s.modPrp n f).pegs = s.pegs ∧ (s.modPrp n f).arb = s.arb ∧ (s.modPrp n f).arms = s.arms ∧
    (s.modPrp n f).carrier = s.carrier ∧ (s.modPrp n f).lanes = s.lanes ∧ (s.modPrp n f).ml = s.ml ∧
    (s.modPrp n f).mlOrdered = s.mlOrdered ∧ (s.modPrp n f).twin = s.twin ∧ (s.modPrp n f).gated = s.gated ∧
    (s.modPrp n f).refOk = s.refOk ∧ (s.modPrp n f).rc16Ok = s.rc16Ok ∧ (s.modPrp n f).quadFeed = s.quadFeed ∧
    (s.modPrp n f).lossAt = s.lossAt ∧ (s.modPrp n f).acqAt = s.acqAt ∧ (s.modPrp n f).ditherSeed = s.ditherSeed ∧
    (s.modPrp n f).ditherAt = s.ditherAt ∧ (s.modPrp n f).clock = s.clock ∧ (s.modPrp n f).secLatch = s.secLatch ∧
    (s.modPrp n f).tout = s.tout ∧ (s.modPrp n f).cmps = s.cmps ∧ (s.modPrp n f).pins = s.pins ∧ (s.modPrp n f).pairs = s.pairs ∧
    (s.modPrp n f).pwStarts = s.pwStarts ∧ (s.modPrp n f).adcs = s.adcs ∧ (s.modPrp n f).aux = s.aux ∧
    (s.modPrp n f).auxc = s.auxc ∧ (s.modPrp n f).vreg = s.vreg ∧ (s.modPrp n f).ser = s.ser ∧ (s.modPrp n f).hp = s.hp ∧
    (s.modPrp n f).svExp = s.svExp ∧ (s.modPrp n f).svFeed = s.svFeed ∧ (s.modPrp n f).sec = s.sec ∧ (s.modPrp n f).pmc = s.pmc ∧
    (s.modPrp n f).therm = s.therm ∧ (s.modPrp n f).jnl = s.jnl ∧ (s.modPrp n f).dmaEnst = s.dmaEnst ∧
    (∀ g j, (s.modPrp n f).getF g j = s.getF g j) ∧ (∀ x, (s.modPrp n f).byte x = s.byte x) :=
  ⟨rfl, rfl, rfl, rfl, rfl, rfl, rfl, rfl, rfl, rfl, rfl, rfl, rfl, rfl, rfl, rfl, rfl, rfl, rfl, rfl, rfl, rfl, rfl, rfl, rfl, rfl, rfl, rfl, rfl, rfl, rfl, rfl, rfl, rfl, rfl, rfl, rfl, rfl, rfl, rfl, rfl, rfl, rfl, rfl, rfl, rfl, rfl, rfl, rfl, rfl, fun _ _ => rfl, fun _ => rfl⟩

@[simp] theorem State.modJnl_keeps (f : JnlSt → JnlSt) :
    (s.modJnl f).variant = s.variant ∧ (s.modJnl f).pending = s.pending ∧ (s.modJnl f).free = s.free ∧
    (s.modJnl f).tick = s.tick ∧ (s.modJnl f).regs = s.regs ∧ (s.modJnl f).mem = s.mem ∧ (s.modJnl f).lost = s.lost ∧
    (s.modJnl f).eccBad = s.eccBad ∧ (s.modJnl f).eccSoft = s.eccSoft ∧ (s.modJnl f).resp = s.resp ∧ (s.modJnl f).atu = s.atu ∧
    (s.modJnl f).fretd = s.fretd ∧ (s.modJnl f).ce = s.ce ∧ (s.modJnl f).haltEn = s.haltEn ∧ (s.modJnl f).pegs = s.pegs ∧
    (s.modJnl f).arb = s.arb ∧ (s.modJnl f).arms = s.arms ∧ (s.modJnl f).carrier = s.carrier ∧ (s.modJnl f).lanes = s.lanes ∧
    (s.modJnl f).ml = s.ml ∧ (s.modJnl f).mlOrdered = s.mlOrdered ∧ (s.modJnl f).twin = s.twin ∧ (s.modJnl f).gated = s.gated ∧
    (s.modJnl f).refOk = s.refOk ∧ (s.modJnl f).rc16Ok = s.rc16Ok ∧ (s.modJnl f).quadFeed = s.quadFeed ∧
    (s.modJnl f).lossAt = s.lossAt ∧ (s.modJnl f).acqAt = s.acqAt ∧ (s.modJnl f).ditherSeed = s.ditherSeed ∧
    (s.modJnl f).ditherAt = s.ditherAt ∧ (s.modJnl f).clock = s.clock ∧ (s.modJnl f).secLatch = s.secLatch ∧
    (s.modJnl f).tout = s.tout ∧ (s.modJnl f).cmps = s.cmps ∧ (s.modJnl f).pins = s.pins ∧ (s.modJnl f).pairs = s.pairs ∧
    (s.modJnl f).pwStarts = s.pwStarts ∧ (s.modJnl f).adcs = s.adcs ∧ (s.modJnl f).aux = s.aux ∧ (s.modJnl f).auxc = s.auxc ∧
    (s.modJnl f).vreg = s.vreg ∧ (s.modJnl f).ser = s.ser ∧ (s.modJnl f).hp = s.hp ∧ (s.modJnl f).prp = s.prp ∧
    (s.modJnl f).svExp = s.svExp ∧ (s.modJnl f).svFeed = s.svFeed ∧ (s.modJnl f).sec = s.sec ∧ (s.modJnl f).pmc = s.pmc ∧
    (s.modJnl f).therm = s.therm ∧ (s.modJnl f).dmaEnst = s.dmaEnst ∧ (∀ g j, (s.modJnl f).getF g j = s.getF g j) ∧
    (∀ x, (s.modJnl f).byte x = s.byte x) :=
  ⟨rfl, rfl, rfl, rfl, rfl, rfl, rfl, rfl, rfl, rfl, rfl, rfl, rfl, rfl, rfl, rfl, rfl, rfl, rfl, rfl, rfl, rfl, rfl, rfl, rfl, rfl, rfl, rfl, rfl, rfl, rfl, rfl, rfl, rfl, rfl, rfl, rfl, rfl, rfl, rfl, rfl, rfl, rfl, rfl, rfl, rfl, rfl, rfl, rfl, rfl, fun _ _ => rfl, fun _ => rfl⟩

@[simp] theorem State.modTherm_keeps (f : ThermSt → ThermSt) :
    (s.modTherm f).variant = s.variant ∧ (s.modTherm f).pending = s.pending ∧ (s.modTherm f).free = s.free ∧
    (s.modTherm f).tick = s.tick ∧ (s.modTherm f).regs = s.regs ∧ (s.modTherm f).mem = s.mem ∧ (s.modTherm f).lost = s.lost ∧
    (s.modTherm f).eccBad = s.eccBad ∧ (s.modTherm f).eccSoft = s.eccSoft ∧ (s.modTherm f).resp = s.resp ∧
    (s.modTherm f).atu = s.atu ∧ (s.modTherm f).fretd = s.fretd ∧ (s.modTherm f).ce = s.ce ∧ (s.modTherm f).haltEn = s.haltEn ∧
    (s.modTherm f).pegs = s.pegs ∧ (s.modTherm f).arb = s.arb ∧ (s.modTherm f).arms = s.arms ∧
    (s.modTherm f).carrier = s.carrier ∧ (s.modTherm f).lanes = s.lanes ∧ (s.modTherm f).ml = s.ml ∧
    (s.modTherm f).mlOrdered = s.mlOrdered ∧ (s.modTherm f).twin = s.twin ∧ (s.modTherm f).gated = s.gated ∧
    (s.modTherm f).refOk = s.refOk ∧ (s.modTherm f).rc16Ok = s.rc16Ok ∧ (s.modTherm f).quadFeed = s.quadFeed ∧
    (s.modTherm f).lossAt = s.lossAt ∧ (s.modTherm f).acqAt = s.acqAt ∧ (s.modTherm f).ditherSeed = s.ditherSeed ∧
    (s.modTherm f).ditherAt = s.ditherAt ∧ (s.modTherm f).clock = s.clock ∧ (s.modTherm f).secLatch = s.secLatch ∧
    (s.modTherm f).tout = s.tout ∧ (s.modTherm f).cmps = s.cmps ∧ (s.modTherm f).pins = s.pins ∧ (s.modTherm f).pairs = s.pairs ∧
    (s.modTherm f).pwStarts = s.pwStarts ∧ (s.modTherm f).adcs = s.adcs ∧ (s.modTherm f).aux = s.aux ∧
    (s.modTherm f).auxc = s.auxc ∧ (s.modTherm f).vreg = s.vreg ∧ (s.modTherm f).ser = s.ser ∧ (s.modTherm f).hp = s.hp ∧
    (s.modTherm f).prp = s.prp ∧ (s.modTherm f).svExp = s.svExp ∧ (s.modTherm f).svFeed = s.svFeed ∧ (s.modTherm f).sec = s.sec ∧
    (s.modTherm f).pmc = s.pmc ∧ (s.modTherm f).jnl = s.jnl ∧ (s.modTherm f).dmaEnst = s.dmaEnst ∧
    (∀ g j, (s.modTherm f).getF g j = s.getF g j) ∧ (∀ x, (s.modTherm f).byte x = s.byte x) :=
  ⟨rfl, rfl, rfl, rfl, rfl, rfl, rfl, rfl, rfl, rfl, rfl, rfl, rfl, rfl, rfl, rfl, rfl, rfl, rfl, rfl, rfl, rfl, rfl, rfl, rfl, rfl, rfl, rfl, rfl, rfl, rfl, rfl, rfl, rfl, rfl, rfl, rfl, rfl, rfl, rfl, rfl, rfl, rfl, rfl, rfl, rfl, rfl, rfl, rfl, rfl, fun _ _ => rfl, fun _ => rfl⟩

@[simp] theorem State.modSec_keeps (f : SecSt → SecSt) :
    (s.modSec f).variant = s.variant ∧ (s.modSec f).pending = s.pending ∧ (s.modSec f).free = s.free ∧
    (s.modSec f).tick = s.tick ∧ (s.modSec f).regs = s.regs ∧ (s.modSec f).mem = s.mem ∧ (s.modSec f).lost = s.lost ∧
    (s.modSec f).eccBad = s.eccBad ∧ (s.modSec f).eccSoft = s.eccSoft ∧ (s.modSec f).resp = s.resp ∧ (s.modSec f).atu = s.atu ∧
    (s.modSec f).fretd = s.fretd ∧ (s.modSec f).ce = s.ce ∧ (s.modSec f).haltEn = s.haltEn ∧ (s.modSec f).pegs = s.pegs ∧
    (s.modSec f).arb = s.arb ∧ (s.modSec f).arms = s.arms ∧ (s.modSec f).carrier = s.carrier ∧ (s.modSec f).lanes = s.lanes ∧
    (s.modSec f).ml = s.ml ∧ (s.modSec f).mlOrdered = s.mlOrdered ∧ (s.modSec f).twin = s.twin ∧ (s.modSec f).gated = s.gated ∧
    (s.modSec f).refOk = s.refOk ∧ (s.modSec f).rc16Ok = s.rc16Ok ∧ (s.modSec f).quadFeed = s.quadFeed ∧
    (s.modSec f).lossAt = s.lossAt ∧ (s.modSec f).acqAt = s.acqAt ∧ (s.modSec f).ditherSeed = s.ditherSeed ∧
    (s.modSec f).ditherAt = s.ditherAt ∧ (s.modSec f).clock = s.clock ∧ (s.modSec f).secLatch = s.secLatch ∧
    (s.modSec f).tout = s.tout ∧ (s.modSec f).cmps = s.cmps ∧ (s.modSec f).pins = s.pins ∧ (s.modSec f).pairs = s.pairs ∧
    (s.modSec f).pwStarts = s.pwStarts ∧ (s.modSec f).adcs = s.adcs ∧ (s.modSec f).aux = s.aux ∧ (s.modSec f).auxc = s.auxc ∧
    (s.modSec f).vreg = s.vreg ∧ (s.modSec f).ser = s.ser ∧ (s.modSec f).hp = s.hp ∧ (s.modSec f).prp = s.prp ∧
    (s.modSec f).svExp = s.svExp ∧ (s.modSec f).svFeed = s.svFeed ∧ (s.modSec f).pmc = s.pmc ∧ (s.modSec f).therm = s.therm ∧
    (s.modSec f).jnl = s.jnl ∧ (s.modSec f).dmaEnst = s.dmaEnst ∧ (∀ g j, (s.modSec f).getF g j = s.getF g j) ∧
    (∀ x, (s.modSec f).byte x = s.byte x) :=
  ⟨rfl, rfl, rfl, rfl, rfl, rfl, rfl, rfl, rfl, rfl, rfl, rfl, rfl, rfl, rfl, rfl, rfl, rfl, rfl, rfl, rfl, rfl, rfl, rfl, rfl, rfl, rfl, rfl, rfl, rfl, rfl, rfl, rfl, rfl, rfl, rfl, rfl, rfl, rfl, rfl, rfl, rfl, rfl, rfl, rfl, rfl, rfl, rfl, rfl, rfl, fun _ _ => rfl, fun _ => rfl⟩

@[simp] theorem State.modPmc_keeps (f : PmcSt → PmcSt) :
    (s.modPmc f).variant = s.variant ∧ (s.modPmc f).pending = s.pending ∧ (s.modPmc f).free = s.free ∧
    (s.modPmc f).tick = s.tick ∧ (s.modPmc f).regs = s.regs ∧ (s.modPmc f).mem = s.mem ∧ (s.modPmc f).lost = s.lost ∧
    (s.modPmc f).eccBad = s.eccBad ∧ (s.modPmc f).eccSoft = s.eccSoft ∧ (s.modPmc f).resp = s.resp ∧ (s.modPmc f).atu = s.atu ∧
    (s.modPmc f).fretd = s.fretd ∧ (s.modPmc f).ce = s.ce ∧ (s.modPmc f).haltEn = s.haltEn ∧ (s.modPmc f).pegs = s.pegs ∧
    (s.modPmc f).arb = s.arb ∧ (s.modPmc f).arms = s.arms ∧ (s.modPmc f).carrier = s.carrier ∧ (s.modPmc f).lanes = s.lanes ∧
    (s.modPmc f).ml = s.ml ∧ (s.modPmc f).mlOrdered = s.mlOrdered ∧ (s.modPmc f).twin = s.twin ∧ (s.modPmc f).gated = s.gated ∧
    (s.modPmc f).refOk = s.refOk ∧ (s.modPmc f).rc16Ok = s.rc16Ok ∧ (s.modPmc f).quadFeed = s.quadFeed ∧
    (s.modPmc f).lossAt = s.lossAt ∧ (s.modPmc f).acqAt = s.acqAt ∧ (s.modPmc f).ditherSeed = s.ditherSeed ∧
    (s.modPmc f).ditherAt = s.ditherAt ∧ (s.modPmc f).clock = s.clock ∧ (s.modPmc f).secLatch = s.secLatch ∧
    (s.modPmc f).tout = s.tout ∧ (s.modPmc f).cmps = s.cmps ∧ (s.modPmc f).pins = s.pins ∧ (s.modPmc f).pairs = s.pairs ∧
    (s.modPmc f).pwStarts = s.pwStarts ∧ (s.modPmc f).adcs = s.adcs ∧ (s.modPmc f).aux = s.aux ∧ (s.modPmc f).auxc = s.auxc ∧
    (s.modPmc f).vreg = s.vreg ∧ (s.modPmc f).ser = s.ser ∧ (s.modPmc f).hp = s.hp ∧ (s.modPmc f).prp = s.prp ∧
    (s.modPmc f).svExp = s.svExp ∧ (s.modPmc f).svFeed = s.svFeed ∧ (s.modPmc f).sec = s.sec ∧ (s.modPmc f).therm = s.therm ∧
    (s.modPmc f).jnl = s.jnl ∧ (s.modPmc f).dmaEnst = s.dmaEnst ∧ (∀ g j, (s.modPmc f).getF g j = s.getF g j) ∧
    (∀ x, (s.modPmc f).byte x = s.byte x) :=
  ⟨rfl, rfl, rfl, rfl, rfl, rfl, rfl, rfl, rfl, rfl, rfl, rfl, rfl, rfl, rfl, rfl, rfl, rfl, rfl, rfl, rfl, rfl, rfl, rfl, rfl, rfl, rfl, rfl, rfl, rfl, rfl, rfl, rfl, rfl, rfl, rfl, rfl, rfl, rfl, rfl, rfl, rfl, rfl, rfl, rfl, rfl, rfl, rfl, rfl, rfl, fun _ _ => rfl, fun _ => rfl⟩

@[simp] theorem State.modSer_keeps (f : SerSt → SerSt) :
    (s.modSer f).variant = s.variant ∧ (s.modSer f).pending = s.pending ∧ (s.modSer f).free = s.free ∧
    (s.modSer f).tick = s.tick ∧ (s.modSer f).regs = s.regs ∧ (s.modSer f).mem = s.mem ∧ (s.modSer f).lost = s.lost ∧
    (s.modSer f).eccBad = s.eccBad ∧ (s.modSer f).eccSoft = s.eccSoft ∧ (s.modSer f).resp = s.resp ∧ (s.modSer f).atu = s.atu ∧
    (s.modSer f).fretd = s.fretd ∧ (s.modSer f).ce = s.ce ∧ (s.modSer f).haltEn = s.haltEn ∧ (s.modSer f).pegs = s.pegs ∧
    (s.modSer f).arb = s.arb ∧ (s.modSer f).arms = s.arms ∧ (s.modSer f).carrier = s.carrier ∧ (s.modSer f).lanes = s.lanes ∧
    (s.modSer f).ml = s.ml ∧ (s.modSer f).mlOrdered = s.mlOrdered ∧ (s.modSer f).twin = s.twin ∧ (s.modSer f).gated = s.gated ∧
    (s.modSer f).refOk = s.refOk ∧ (s.modSer f).rc16Ok = s.rc16Ok ∧ (s.modSer f).quadFeed = s.quadFeed ∧
    (s.modSer f).lossAt = s.lossAt ∧ (s.modSer f).acqAt = s.acqAt ∧ (s.modSer f).ditherSeed = s.ditherSeed ∧
    (s.modSer f).ditherAt = s.ditherAt ∧ (s.modSer f).clock = s.clock ∧ (s.modSer f).secLatch = s.secLatch ∧
    (s.modSer f).tout = s.tout ∧ (s.modSer f).cmps = s.cmps ∧ (s.modSer f).pins = s.pins ∧ (s.modSer f).pairs = s.pairs ∧
    (s.modSer f).pwStarts = s.pwStarts ∧ (s.modSer f).adcs = s.adcs ∧ (s.modSer f).aux = s.aux ∧ (s.modSer f).auxc = s.auxc ∧
    (s.modSer f).vreg = s.vreg ∧ (s.modSer f).hp = s.hp ∧ (s.modSer f).prp = s.prp ∧ (s.modSer f).svExp = s.svExp ∧
    (s.modSer f).svFeed = s.svFeed ∧ (s.modSer f).sec = s.sec ∧ (s.modSer f).pmc = s.pmc ∧ (s.modSer f).therm = s.therm ∧
    (s.modSer f).jnl = s.jnl ∧ (s.modSer f).dmaEnst = s.dmaEnst ∧ (∀ g j, (s.modSer f).getF g j = s.getF g j) ∧
    (∀ x, (s.modSer f).byte x = s.byte x) :=
  ⟨rfl, rfl, rfl, rfl, rfl, rfl, rfl, rfl, rfl, rfl, rfl, rfl, rfl, rfl, rfl, rfl, rfl, rfl, rfl, rfl, rfl, rfl, rfl, rfl, rfl, rfl, rfl, rfl, rfl, rfl, rfl, rfl, rfl, rfl, rfl, rfl, rfl, rfl, rfl, rfl, rfl, rfl, rfl, rfl, rfl, rfl, rfl, rfl, rfl, rfl, fun _ _ => rfl, fun _ => rfl⟩

@[simp] theorem State.modTwin_keeps (f : TwinSt → TwinSt) :
    (s.modTwin f).variant = s.variant ∧ (s.modTwin f).pending = s.pending ∧ (s.modTwin f).free = s.free ∧
    (s.modTwin f).tick = s.tick ∧ (s.modTwin f).regs = s.regs ∧ (s.modTwin f).mem = s.mem ∧ (s.modTwin f).lost = s.lost ∧
    (s.modTwin f).eccBad = s.eccBad ∧ (s.modTwin f).eccSoft = s.eccSoft ∧ (s.modTwin f).resp = s.resp ∧
    (s.modTwin f).atu = s.atu ∧ (s.modTwin f).fretd = s.fretd ∧ (s.modTwin f).ce = s.ce ∧ (s.modTwin f).haltEn = s.haltEn ∧
    (s.modTwin f).pegs = s.pegs ∧ (s.modTwin f).arb = s.arb ∧ (s.modTwin f).arms = s.arms ∧ (s.modTwin f).carrier = s.carrier ∧
    (s.modTwin f).lanes = s.lanes ∧ (s.modTwin f).ml = s.ml ∧ (s.modTwin f).mlOrdered = s.mlOrdered ∧
    (s.modTwin f).gated = s.gated ∧ (s.modTwin f).refOk = s.refOk ∧ (s.modTwin f).rc16Ok = s.rc16Ok ∧
    (s.modTwin f).quadFeed = s.quadFeed ∧ (s.modTwin f).lossAt = s.lossAt ∧ (s.modTwin f).acqAt = s.acqAt ∧
    (s.modTwin f).ditherSeed = s.ditherSeed ∧ (s.modTwin f).ditherAt = s.ditherAt ∧ (s.modTwin f).clock = s.clock ∧
    (s.modTwin f).secLatch = s.secLatch ∧ (s.modTwin f).tout = s.tout ∧ (s.modTwin f).cmps = s.cmps ∧
    (s.modTwin f).pins = s.pins ∧ (s.modTwin f).pairs = s.pairs ∧ (s.modTwin f).pwStarts = s.pwStarts ∧
    (s.modTwin f).adcs = s.adcs ∧ (s.modTwin f).aux = s.aux ∧ (s.modTwin f).auxc = s.auxc ∧ (s.modTwin f).vreg = s.vreg ∧
    (s.modTwin f).ser = s.ser ∧ (s.modTwin f).hp = s.hp ∧ (s.modTwin f).prp = s.prp ∧ (s.modTwin f).svExp = s.svExp ∧
    (s.modTwin f).svFeed = s.svFeed ∧ (s.modTwin f).sec = s.sec ∧ (s.modTwin f).pmc = s.pmc ∧ (s.modTwin f).therm = s.therm ∧
    (s.modTwin f).jnl = s.jnl ∧ (s.modTwin f).dmaEnst = s.dmaEnst ∧ (∀ g j, (s.modTwin f).getF g j = s.getF g j) ∧
    (∀ x, (s.modTwin f).byte x = s.byte x) :=
  ⟨rfl, rfl, rfl, rfl, rfl, rfl, rfl, rfl, rfl, rfl, rfl, rfl, rfl, rfl, rfl, rfl, rfl, rfl, rfl, rfl, rfl, rfl, rfl, rfl, rfl, rfl, rfl, rfl, rfl, rfl, rfl, rfl, rfl, rfl, rfl, rfl, rfl, rfl, rfl, rfl, rfl, rfl, rfl, rfl, rfl, rfl, rfl, rfl, rfl, rfl, fun _ _ => rfl, fun _ => rfl⟩

end Sys2Proof.Machine
end

