-- ==== Sys2Proof/Laws/Store.lean ====
section
/-! SUPPORT. The laws of the canonical stores: a read after a write, and that writes keep the canonical form. -/
namespace Sys2Proof.Machine

variable {α : Type}

/-- Dropping the entries of one key leaves every other key, and the dropped key reads as its default. -/
theorem Store.get_filter (l : List (Nat × α)) (k j : Nat) (d : α) :
    Store.get (l.filter (fun e => e.1 != k)) j d = if j = k then d else Store.get l j d := by
  induction l with
  | nil => simp [Store.get]
  | cons e t ih =>
    obtain ⟨a, v⟩ := e
    by_cases ha : a = k
    · subst ha
      by_cases hj : j = a
      · simp_all
      · simp_all [Store.get, Ne.symm hj]
    · by_cases hj : j = k
      · subst hj; simp_all [Store.get]
      · simp_all [Store.get]

theorem Store.get_insert_ne (l : List (Nat × α)) (k j : Nat) (v d : α) (h : j ≠ k) :
    Store.get (Store.insert l k v) j d = Store.get l j d := by
  induction l with
  | nil => simp [Store.insert, Store.get, Ne.symm h]
  | cons e t ih =>
    obtain ⟨a, w⟩ := e
    simp only [Store.insert]
    split <;> simp [Store.get, Ne.symm h, ih]

theorem Store.get_insert_same (l : List (Nat × α)) (k : Nat) (v d : α) (h : ∀ e ∈ l, e.1 ≠ k) :
    Store.get (Store.insert l k v) k d = v := by
  induction l with
  | nil => simp [Store.insert, Store.get]
  | cons e t ih =>
    obtain ⟨a, w⟩ := e
    simp only [Store.insert]
    have ha : a ≠ k := h (a, w) (by simp)
    split
    · simp [Store.get]
    · simp [Store.get, ha, ih (fun e he => h e (by simp [he]))]

variable [DecidableEq α]

/-- A read after a write, whatever list the store is: the written key gives the value written, any other key what it gave. -/
theorem Store.get_put (l : List (Nat × α)) (k j : Nat) (v d d' : α) (hd : j = k → d' = d) :
    Store.get (Store.put l k v d) j d' = if j = k then v else Store.get l j d' := by
  unfold Store.put
  by_cases hj : j = k
  · subst hj
    rw [hd rfl]
    split
    · rename_i hv; simp [Store.get_filter, hv]
    · simp only [if_true]
      exact Store.get_insert_same _ _ _ _ (fun e he => by simpa using (List.mem_filter.1 he).2)
  · split <;> simp [Store.get_filter, Store.get_insert_ne, hj]

/-- Every entry of a list after an insertion was there before or is the inserted one. -/
theorem Store.mem_insert (l : List (Nat × α)) (k : Nat) (v : α) (e : Nat × α)
    (h : e ∈ Store.insert l k v) : e ∈ l ∨ e = (k, v) := by
  induction l with
  | nil => simp_all [Store.insert]
  | cons x t ih =>
    obtain ⟨a, w⟩ := x
    simp only [Store.insert] at h
    split at h
    · simp at h ⊢; tauto
    · rcases List.mem_cons.1 h with h | h
      · exact .inl (by simp [h])
      · rcases ih h with h | h
        · exact .inl (by simp [h])
        · exact .inr h

theorem Store.sorted_insert (l : List (Nat × α)) (k : Nat) (v : α)
    (h : l.Pairwise (fun a b => a.1 < b.1)) (hk : ∀ e ∈ l, e.1 ≠ k) :
    (Store.insert l k v).Pairwise (fun a b => a.1 < b.1) := by
  induction l with
  | nil => simp [Store.insert]
  | cons x t ih =>
    obtain ⟨a, w⟩ := x
    have hp := List.pairwise_cons.1 h
    have ha : a ≠ k := hk (a, w) (by simp)
    simp only [Store.insert]
    split
    · rename_i hlt
      refine List.pairwise_cons.2 ⟨fun e he => ?_, h⟩
      rcases List.mem_cons.1 he with rfl | he
      · exact hlt
      · exact lt_trans hlt (hp.1 e he)
    · refine List.pairwise_cons.2 ⟨fun e he => ?_, ih hp.2 (fun e he => hk e (by simp [he]))⟩
      rcases Store.mem_insert t k v e he with he | rfl
      · exact hp.1 e he
      · simp; omega

/-- A write keeps the canonical form. -/
theorem Store.wf_put (dflt : Nat → α) (l : List (Nat × α)) (k : Nat) (v : α)
    (h : Store.Wf dflt l) : Store.Wf dflt (Store.put l k v (dflt k)) := by
  unfold Store.put
  have hf : Store.Wf dflt (l.filter (fun e => e.1 != k)) :=
    ⟨h.1.sublist List.filter_sublist, fun e he => h.2 e (List.mem_of_mem_filter he)⟩
  split
  · exact hf
  · rename_i hv
    refine ⟨Store.sorted_insert _ _ _ hf.1 (fun e he => by simpa using (List.mem_filter.1 he).2), fun e he => ?_⟩
    rcases Store.mem_insert _ k v e he with he | rfl
    · exact hf.2 e he
    · exact hv

omit [DecidableEq α] in
/-- Returning entries to their default keeps the canonical form. -/
theorem Store.wf_keep (dflt : Nat → α) (l : List (Nat × α)) (p : Nat → Bool)
    (h : Store.Wf dflt l) : Store.Wf dflt (Store.keep l p) :=
  ⟨h.1.sublist List.filter_sublist, fun e he => h.2 e (List.mem_of_mem_filter he)⟩

omit [DecidableEq α] in
/-- A kept key reads as before; a dropped key reads as its default. -/
theorem Store.get_keep (l : List (Nat × α)) (p : Nat → Bool) (k : Nat) (d : α) :
    Store.get (Store.keep l p) k d = if p k then Store.get l k d else d := by
  induction l with
  | nil => simp [Store.keep, Store.get]
  | cons e t ih =>
    obtain ⟨a, v⟩ := e
    simp only [Store.keep, List.filter_cons] at ih ⊢
    by_cases ha : a = k
    · subst ha
      by_cases hp : p a <;> simp_all [Store.get]
    · by_cases hp : p a <;> simp_all [Store.get]

end Sys2Proof.Machine
end

