-- ==== Sys2Proof/Laws/Regs.lean ====
section
/-! SUPPORT. Reading and writing the register fields and the bytes of memory, and the canonical form of both stores. -/
namespace Sys2Proof.Machine

theorem Fld.key_inj {f g : Fld} {i j : Nat} (h : f.key i = g.key j) : f = g ∧ i % 1024 = j % 1024 := by
  unfold Fld.key at h
  have hc : f.ctorIdx = g.ctorIdx := by omega
  have hi : i % 1024 = j % 1024 := by omega
  refine ⟨?_, hi⟩
  rw [← Fld.ofNat_ctorIdx f, ← Fld.ofNat_ctorIdx g, hc]

theorem Fld.key_ne {f g : Fld} (i j : Nat) (h : f ≠ g) : f.key i ≠ g.key j := fun e => h (Fld.key_inj e).1

/-- A field reads as what was written to it, cut to its width; every other field reads as before. -/
theorem State.getF_setF (s : State) (f g : Fld) (i j v : Nat) :
    (s.setF f i v).getF g j = if g.key j = f.key i then v % 2 ^ f.width else s.getF g j := by
  unfold State.getF State.setF
  rw [Store.get_put]
  intro h
  rw [(Fld.key_inj h).1]

@[simp] theorem State.getF_setF_same (s : State) (f : Fld) (i v : Nat) : (s.setF f i v).getF f i = v % 2 ^ f.width := by
  simp [State.getF_setF]

theorem State.getF_setF_ne (s : State) {f g : Fld} (i j v : Nat) (h : g ≠ f) : (s.setF f i v).getF g j = s.getF g j := by
  rw [State.getF_setF, if_neg (Fld.key_ne j i h)]

theorem State.getF_setF_idx (s : State) (f : Fld) (i j v : Nat) (h : j % 1024 ≠ i % 1024) : (s.setF f i v).getF f j = s.getF f j := by
  rw [State.getF_setF, if_neg (fun e => h (Fld.key_inj e).2)]

/-- A byte reads as what was written to it; every other byte reads as before. -/
theorem State.byte_setByte (s : State) (a x : Nat) (b : Byte) : (s.setByte a b).byte x = if x = a then b else s.byte x := by
  unfold State.byte State.setByte
  rw [Store.get_put]
  intro h; rw [h]

/-- Writing bytes changes only those bytes. -/
theorem State.byte_setBytes (s : State) (a v k x : Nat) (h : x < a ∨ a + k ≤ x) : (s.setBytes a v k).byte x = s.byte x := by
  induction k generalizing s a v with
  | zero => rfl
  | succ k ih => rw [State.setBytes, ih _ _ _ (by omega), State.byte_setByte, if_neg (by omega)]

theorem State.byte_setList (s : State) (a : Nat) (l : List Byte) (x : Nat) (h : x < a ∨ a + l.length ≤ x) :
    (s.setList a l).byte x = s.byte x := by
  induction l generalizing s a with
  | nil => rfl
  | cons b t ih =>
    simp only [List.length_cons] at h
    rw [State.setList, ih _ _ (by omega), State.byte_setByte, if_neg (by omega)]

/-- A list that has been written is read back. -/
theorem State.readList_setList (s : State) (a : Nat) (l : List Byte) : (s.setList a l).readList a l.length = l := by
  induction l generalizing s a with
  | nil => rfl
  | cons b t ih =>
    simp only [State.setList, List.length_cons, State.readList, ih]
    rw [State.byte_setList _ _ _ _ (Or.inl (Nat.lt_succ_self a))]
    simp [State.byte_setByte]

/-- A part of a list that is read. -/
theorem State.readList_slice (s : State) (a m k n : Nat) (h : k + n ≤ m) : ((s.readList a m).drop k).take n = s.readList (a + k) n := by
  induction k generalizing a m with
  | zero =>
    simp only [List.drop_zero, Nat.add_zero]
    induction n generalizing a m with
    | zero => rfl
    | succ n ih =>
      obtain ⟨m, rfl⟩ : ∃ j, m = j + 1 := ⟨m - 1, by omega⟩
      simp only [State.readList, List.take_succ_cons]
      rw [ih (a + 1) m (by omega)]
  | succ k ih =>
    obtain ⟨m, rfl⟩ : ∃ j, m = j + 1 := ⟨m - 1, by omega⟩
    simp only [State.readList, List.drop_succ_cons]
    rw [ih (a + 1) m (by omega), show a + 1 + k = a + (k + 1) by omega]

/-- A number is read as its bytes spell it. -/
theorem State.bytes_eq (s : State) (a k : Nat) : s.bytes a k = leNat (s.readList a k) := by
  induction k generalizing a with
  | zero => rfl
  | succ k ih => rw [State.bytes, State.readList, leNat, ih]

/-- The canonical form of the register store and of the memory survives every write. -/
theorem State.regsWf_setF (s : State) (f : Fld) (i v : Nat) (h : Store.Wf regDefault s.regs) : Store.Wf regDefault (s.setF f i v).regs := by
  have e : f.spec.rst = regDefault (f.key i) := by
    have hk : f.key i / 1024 = f.ctorIdx := by unfold Fld.key; omega
    simp [regDefault, hk, Fld.ofNat_ctorIdx]
  unfold State.setF
  rw [e]
  exact Store.wf_put regDefault _ _ _ h

theorem State.regsWf_resetFields (s : State) (p : Fld → Nat → Bool) (h : Store.Wf regDefault s.regs) :
    Store.Wf regDefault (s.resetFields p).regs :=
  Store.wf_keep regDefault s.regs (fun k => !p (Fld.ofNat (k / 1024)) (k % 1024)) h

theorem State.memWf_setByte (s : State) (a : Nat) (b : Byte) (h : Store.Wf (memDefault s.lost) s.mem) :
    Store.Wf (memDefault (s.setByte a b).lost) (s.setByte a b).mem := Store.wf_put _ _ _ _ h

theorem State.memWf_setBytes (s : State) (a v k : Nat) (h : Store.Wf (memDefault s.lost) s.mem) :
    Store.Wf (memDefault (s.setBytes a v k).lost) (s.setBytes a v k).mem := by
  induction k generalizing s a v with
  | zero => exact h
  | succ k ih => exact ih _ _ _ (State.memWf_setByte _ _ _ h)

theorem State.memWf_setList (s : State) (a : Nat) (l : List Byte) (h : Store.Wf (memDefault s.lost) s.mem) :
    Store.Wf (memDefault (s.setList a l).lost) (s.setList a l).mem := by
  induction l generalizing s a with
  | nil => exact h
  | cons b t ih => exact ih _ _ (State.memWf_setByte _ _ _ h)

theorem State.memWf_clearMem (s : State) (base size : Nat) (h : Store.Wf (memDefault s.lost) s.mem) :
    Store.Wf (memDefault (s.clearMem base size).lost) (s.clearMem base size).mem :=
  Store.wf_keep (memDefault s.lost) s.mem (fun a => !decide (base ≤ a ∧ a < base + size)) h

/-- Memory that is lost has no entry, so its new default lists none. -/
theorem State.memWf_loseMem (s : State) (base size : Nat) (h : Store.Wf (memDefault s.lost) s.mem) :
    Store.Wf (memDefault (s.loseMem base size).lost) (s.loseMem base size).mem := by
  refine ⟨h.1.sublist List.filter_sublist, fun e he => ?_⟩
  have hm := List.mem_filter.1 he
  have hd := h.2 e hm.1
  have hr : ¬ (base ≤ e.1 ∧ e.1 < base + size) := by
    have := hm.2
    simp only [Bool.not_eq_true', decide_eq_false_iff_not] at this
    exact this
  have : memDefault ((base, size, s.free) :: s.lost) e.1 = memDefault s.lost e.1 := by
    unfold memDefault
    rw [List.find?_cons_of_neg (by simpa using hr)]
  exact this ▸ hd

end Sys2Proof.Machine
end

