-- ==== Sys2Proof/Laws/Engine.lean ====
section
/-! SUPPORT. The operand forms, and the issue of an engine instruction: what each of its outcomes gives (R88, R106, R107). -/
namespace Sys2Proof.Machine

/-! Operands. -/

@[simp] theorem Eng.readG_zero (e : Eng) : e.readG 0#5 = 0#32 := by simp [Eng.readG]
@[simp] theorem Eng.readP_zero (e : Eng) : e.readP 0#3 = true := by simp [Eng.readP]

theorem Eng.readG_writeG (e : Eng) (r x : BitVec 5) (w : Word) :
    (e.writeG r w).readG x = if x = r ∧ r ≠ 0#5 then w else e.readG x := by
  unfold Eng.readG Eng.writeG
  by_cases hx : x = 0#5
  · by_cases hr : r = 0#5 <;> simp [hx, hr, eq_comm]
  · by_cases hr : r = 0#5
    · simp [hr, hx]
    · simp only [hx, hr, if_false, Vector.getElem_set, ne_eq, not_false_eq_true, and_true]
      by_cases h : x = r
      · simp [h]
      · have hn : ¬ r.toNat = x.toNat := fun hc => h (BitVec.eq_of_toNat_eq hc.symm)
        simp [h, hn]

theorem Eng.readP_writeP (e : Eng) (k x : BitVec 3) (b : Bool) :
    (e.writeP k b).readP x = if x = k ∧ k ≠ 0#3 then b else e.readP x := by
  unfold Eng.readP Eng.writeP
  by_cases hx : x = 0#3
  · by_cases hr : k = 0#3 <;> simp [hx, hr, eq_comm]
  · by_cases hr : k = 0#3
    · simp [hr, hx]
    · simp only [hx, hr, if_false, Vector.getElem_set, ne_eq, not_false_eq_true, and_true]
      by_cases h : x = k
      · simp [h]
      · have hn : ¬ k.toNat = x.toNat := fun hc => h (BitVec.eq_of_toNat_eq hc.symm)
        simp [h, hn]

theorem Eng.readA_writeA (e : Eng) (a x : BitVec 2) (v : BitVec 72) : (e.writeA a v).readA x = if x = a then v else e.readA x := by
  unfold Eng.readA Eng.writeA
  simp only [Vector.getElem_set]
  by_cases h : x = a
  · simp [h]
  · have hn : ¬ a.toNat = x.toNat := fun hc => h (BitVec.eq_of_toNat_eq hc.symm)
    simp [h, hn]

/-! Only the written register file changes. -/

theorem Eng.writeG_eq (e : Eng) (r : BitVec 5) (w : Word) : e.writeG r w = { e with g := (e.writeG r w).g } := by
  unfold Eng.writeG; split <;> rfl

theorem Eng.writeP_eq (e : Eng) (k : BitVec 3) (b : Bool) : e.writeP k b = { e with p := (e.writeP k b).p } := by
  unfold Eng.writeP; split <;> rfl

@[simp] theorem State.modCe_same (s : State) (n : Fin 24) (f : Eng → Eng) : (s.modCe n f).ce[n] = f s.ce[n] := by
  simp [State.modCe]

theorem State.modCe_ne (s : State) (n m : Fin 24) (f : Eng → Eng) (h : m ≠ n) : (s.modCe n f).ce[m] = s.ce[m] := by
  have hv : ¬ n.val = m.val := fun e => h (Fin.ext e.symm)
  simp [State.modCe, hv]

theorem OnlyEngine.of_modCe (s : State) (n : Fin 24) (f : Eng → Eng) : OnlyEngine n s (s.modCe n f) :=
  ⟨rfl, fun m h => State.modCe_ne s n m f h⟩

/-! Flags in flight (R87). -/

@[simp] theorem Eng.settle_readG (e : Eng) (c : Nat) (r : BitVec 5) : (e.settle c).readG r = e.readG r := rfl
@[simp] theorem Eng.settle_readP (e : Eng) (c : Nat) (k : BitVec 3) : (e.settle c).readP k = e.readP k := rfl
@[simp] theorem Eng.settle_readA (e : Eng) (c : Nat) (a : BitVec 2) : (e.settle c).readA a = e.readA a := rfl

theorem flags_or_out (l : List (Nat × BitVec 7)) (f g : BitVec 7) :
    l.foldl (fun f q => f ||| q.2) (f ||| g) = l.foldl (fun f q => f ||| q.2) f ||| g := by
  induction l generalizing f with
  | nil => rfl
  | cons q l ih =>
    simp only [List.foldl_cons]
    rw [← ih, BitVec.or_assoc, BitVec.or_comm g q.2, BitVec.or_assoc]

/-- Setting the flags that are due changes no flag's final value. -/
@[simp] theorem Eng.settle_allFlags (e : Eng) (c : Nat) : (e.settle c).allFlags = e.allFlags := by
  simp only [Eng.allFlags, Eng.settle]
  generalize e.flags = f
  induction e.flagQ generalizing f with
  | nil => rfl
  | cons q l ih =>
    by_cases h : q.1 ≤ c
    · simp [h, ih]
    · simp only [List.filter_cons, h, decide_false, Bool.not_false, if_true, Bool.false_eq_true, if_false, List.foldl_cons]
      rw [flags_or_out l f q.2, ← ih f, flags_or_out]

theorem Eng.raise_allFlags (e : Eng) (fl : NFlags) : (e.raise fl).allFlags = e.allFlags ||| fl.bits := by
  unfold Eng.raise Eng.allFlags
  split
  · next h => simp [h]
  · simp

@[simp] theorem Eng.dueFlags_allFlags (e : Eng) (c : Nat) : (e.dueFlags c).allFlags = e.allFlags := by
  simp only [Eng.allFlags, Eng.dueFlags]
  generalize e.flags = f
  induction e.flagQ generalizing f with
  | nil => rfl
  | cons q l ih => simp [ih]

theorem Eng.raise_eq (e : Eng) (fl : NFlags) : e.raise fl = { e with flagQ := (e.raise fl).flagQ } := by
  unfold Eng.raise; split <;> rfl

/-! Issue. -/

theorem State.fetchFault_none {n : Fin 24} {s : State} (h : Fetches n s) : s.fetchFault n = none := by
  obtain ⟨-, hf⟩ := h
  simp only [State.fetchOk, Bool.and_eq_true, decide_eq_true_eq, Bool.not_eq_true'] at hf
  have hn : ¬ 0x6000 ≤ (s.ce[n]).pc.toNat := Nat.not_le.mpr hf.1
  simp only [State.fetchFault, hn, hf.2, if_false, Bool.false_eq_true]

@[simp] theorem State.countFetch_ce (s : State) (n : Fin 24) : (s.countFetch n).ce = s.ce := by
  unfold State.countFetch State.countF; split <;> rfl

theorem issue_performs {i : Instr} {n : Fin 24} {pr : BitVec 4} {s : State} (h : Performs i n pr s) (u : Use) (eff : Nat → State → Res) :
    issue n pr u i eff s =
      let t := (s.ce[n]).tm.issueAt pr true u
      let s0 := (s.countFetch n).modCe n (fun e => e.settle t)
      match eff t s0 with
      | .exc cause info => s0.exception n cause (s.ce[n]).pc info t
      | .done s' npc block =>
        s'.modCe n (fun e' => { e'.dueFlags (t + u.resultLat) with pc := npc.getD ((s.ce[n]).pc + 4#32), tm := e'.tm.after t true u block }) := by
  obtain ⟨hf, hl, ht⟩ := h
  have hn := State.fetchFault_none hf
  simp only [issue, hf.1, hn, hl, ht, if_true, Bool.not_true, Bool.false_eq_true, if_false]

theorem issue_idle {n : Fin 24} {s : State} (h : s.canIssue n = false) (pr : BitVec 4) (u : Use) (i : Instr) (eff : Nat → State → Res) :
    issue n pr u i eff s = s := by
  simp [issue, h]

theorem issue_ifetch {n : Fin 24} {s : State} (h : s.canIssue n = true) (hp : 0x6000 ≤ (s.ce[n]).pc.toNat) (pr : BitVec 4) (u : Use)
    (i : Instr) (eff : Nat → State → Res) :
    issue n pr u i eff s = s.exception n xIfetch 0x5FFC#32 0x6000#32 (s.ce[n]).tm.next := by
  simp only [issue, State.fetchFault, h, hp, if_true]

theorem issue_eccI {n : Fin 24} {s : State} (h : s.canIssue n = true) (hp : (s.ce[n]).pc.toNat < 0x6000)
    (hb : s.badWord (s.fetchAddr n) = true) (pr : BitVec 4) (u : Use) (i : Instr) (eff : Nat → State → Res) :
    issue n pr u i eff s = s.exception n xEccI (s.ce[n]).pc (s.ce[n]).pc (s.ce[n]).tm.next := by
  have hn : ¬ 0x6000 ≤ (s.ce[n]).pc.toNat := by omega
  simp only [issue, State.fetchFault, h, hn, hb, if_true, if_false]

theorem issue_illegal {n : Fin 24} {s : State} {i : Instr} (h : Fetches n s) (hl : i.legal = false) (pr : BitVec 4) (u : Use)
    (eff : Nat → State → Res) :
    issue n pr u i eff s =
      let t := (s.ce[n]).tm.issueAt pr ((s.ce[n]).predTrue pr) u
      ((s.countFetch n).modCe n (fun e => e.settle t)).exception n xIllegal (s.ce[n]).pc i.word t := by
  have hn := State.fetchFault_none h
  simp only [issue, h.1, hn, hl, if_true, Bool.not_false]

theorem issue_false {n : Fin 24} {s : State} {i : Instr} {pr : BitVec 4} (h : Fetches n s) (hl : i.legal = true)
    (ht : (s.ce[n]).predTrue pr = false) (u : Use) (eff : Nat → State → Res) :
    issue n pr u i eff s =
      let t := (s.ce[n]).tm.issueAt pr false u
      (s.countFetch n).modCe n (fun e => { e.settle t with pc := e.pc + 4#32, tm := e.tm.after t false u 0 }) := by
  have hn := State.fetchFault_none h
  simp only [issue, h.1, hn, hl, ht, if_true, if_false, Bool.not_true, Bool.not_false, Bool.false_eq_true]
  simp [State.modCe, Eng.settle]

/-- An instruction whose effect is an update of the engine alone. -/
theorem issue_regEff {i : Instr} {n : Fin 24} {pr : BitVec 4} {s : State} (h : Performs i n pr s) (u : Use) (f : Eng → Eng) :
    issue n pr u i (regEff n f) s =
      let t := (s.ce[n]).tm.issueAt pr true u
      (s.countFetch n).modCe n (fun e =>
        { (f (e.settle t)).dueFlags (t + u.resultLat) with pc := e.pc + 4#32, tm := (f (e.settle t)).tm.after t true u 0 }) := by
  rw [issue_performs h]
  simp [regEff, State.modCe]

/-- An instruction that writes one register. -/
theorem issue_result {i : Instr} {n : Fin 24} {pr : BitVec 4} {s : State} (h : Performs i n pr s) (u : Use) (rd : BitVec 5)
    (r : Eng → Word × NFlags) :
    Result n rd (r ((s.ce[n]).settle ((s.ce[n]).tm.issueAt pr true u))) (s.countFetch n) (issue n pr u i (resultEff n rd r) s) := by
  rw [resultEff, issue_regEff h]
  refine ⟨OnlyEngine.of_modCe _ _ _, ⟨?_, ?_⟩, ?_, ?_, ?_⟩
  · simp only [State.modCe_same, State.countFetch_ce]
    rw [Eng.raise_eq, Eng.writeG_eq]
    rfl
  · simp only [State.modCe_same, State.countFetch_ce]
    refine (Eng.dueFlags_allFlags _ _).trans ((Eng.raise_allFlags _ _).trans ?_)
    rw [Eng.writeG_eq]
    exact congrArg (· ||| _) (Eng.settle_allFlags _ _)
  · intro x
    simp only [State.modCe_same, State.countFetch_ce]
    rw [Eng.raise_eq]
    exact Eng.readG_writeG _ _ _ _
  · simp only [SameP, State.modCe_same, State.countFetch_ce]
    rw [Eng.raise_eq, Eng.writeG_eq]
    rfl
  · simp only [SameA, State.modCe_same, State.countFetch_ce]
    rw [Eng.raise_eq, Eng.writeG_eq]
    rfl

/-- An instruction that writes one accumulator. -/
theorem issue_accResult {i : Instr} {n : Fin 24} {pr : BitVec 4} {s : State} (h : Performs i n pr s) (u : Use) (a : BitVec 2)
    (r : Eng → BitVec 72 × NFlags) :
    AccResult n a (r ((s.ce[n]).settle ((s.ce[n]).tm.issueAt pr true u))) (s.countFetch n)
      (issue n pr u i (regEff n (fun e => (e.writeA a (r e).1).raise (r e).2)) s) := by
  rw [issue_regEff h]
  refine ⟨OnlyEngine.of_modCe _ _ _, ⟨?_, ?_⟩, ?_, ?_, ?_⟩
  · simp only [State.modCe_same, State.countFetch_ce]
    rw [Eng.raise_eq]
    rfl
  · simp only [State.modCe_same, State.countFetch_ce]
    refine (Eng.dueFlags_allFlags _ _).trans ((Eng.raise_allFlags _ _).trans ?_)
    exact congrArg (· ||| _) (Eng.settle_allFlags _ _)
  · intro x
    simp only [State.modCe_same, State.countFetch_ce]
    rw [Eng.raise_eq]
    exact Eng.readA_writeA _ _ _ _
  · intro x
    simp only [State.modCe_same, State.countFetch_ce]
    rw [Eng.raise_eq]
    rfl
  · simp only [SameP, State.modCe_same, State.countFetch_ce]
    rw [Eng.raise_eq]
    rfl

/-- An instruction that writes one predicate other than p0. -/
theorem issue_predResult {i : Instr} {n : Fin 24} {pr : BitVec 4} {s : State} (h : Performs i n pr s) (u : Use) (pd : BitVec 3)
    (hp : pd ≠ 0#3) (r : Eng → Bool × NFlags) :
    let x := r ((s.ce[n]).settle ((s.ce[n]).tm.issueAt pr true u))
    PredResult n pd x.1 x.2 (s.countFetch n) (issue n pr u i (regEff n (fun e => (e.writeP pd (r e).1).raise (r e).2)) s) := by
  rw [issue_regEff h]
  refine ⟨OnlyEngine.of_modCe _ _ _, ⟨?_, ?_⟩, ?_, ?_, ?_⟩
  · simp only [State.modCe_same, State.countFetch_ce]
    rw [Eng.raise_eq, Eng.writeP_eq]
    rfl
  · simp only [State.modCe_same, State.countFetch_ce]
    refine (Eng.dueFlags_allFlags _ _).trans ((Eng.raise_allFlags _ _).trans ?_)
    rw [Eng.writeP_eq]
    exact congrArg (· ||| _) (Eng.settle_allFlags _ _)
  · intro x
    simp only [State.modCe_same, State.countFetch_ce]
    rw [Eng.raise_eq]
    exact (Eng.readP_writeP _ pd x _).trans (by simp [hp])
  · intro x
    simp only [State.modCe_same, State.countFetch_ce]
    rw [Eng.raise_eq, Eng.writeP_eq]
    rfl
  · simp only [SameA, State.modCe_same, State.countFetch_ce]
    rw [Eng.raise_eq, Eng.writeP_eq]
    rfl

end Sys2Proof.Machine
end

