-- ==== Sys2Proof/Machine/Balls.lean ====
section
/-! DEFINITION. The levels of the digital output balls, as functions of the state: true is high, and none is a ball that nothing drives (R16).
No command reads them. -/
namespace Sys2Proof.Machine

/-- A 1.8 V output: it floats while VIO is absent (R500). -/
def State.vioBall (s : State) (v : Bool) : Option Bool := if s.pmc.vio then some v else none

/-- In S0 and S1 the outputs are at the level of Table 21-5, whatever their registers hold; OWNER_OUT too, though R428 gives S1 the level of
its role (DEDUCED, log entry 44). -/
def State.pastS1 (s : State) (v : Bool) : Bool := decide (2 ≤ s.getF .PMC_STAGE_STAGE 0) && v

/-- CMPO0–CMPO3 show Q (true on the trip side) or the latch, inverted by OINV (R265). -/
def State.cmpBall (s : State) (n : Fin 4) : Option Bool :=
  let st := s.getF .CMP_STATUS_STATE n
  let q := st == csUnresolved || st == csTrip
  s.vioBall (s.pastS1 ((if s.bit .CMP_CTRL_OSEL n then s.latched n else q) != s.bit .CMP_CTRL_OINV n))

/-- The selector balls (R302, R428): OWNER_OUT, and OWNER_OUT_N its inverse. -/
def State.ownerBall (s : State) : Option Bool := s.vioBall (s.pastS1 (s.bit .PWM_STAT_OWNER 0))
def State.ownerNBall (s : State) : Option Bool := s.ownerBall.map not

/-- PWnH and PWnL at the level of POLH and POLL (R283); a device without the pair drives no such ball (R9, R506). -/
def State.pwmBall (s : State) (n : Fin 24) (high : Bool) : Option Bool :=
  if s.pairOk n then
    s.vioBall (s.pastS1 (if high then s.bit .PW_STAT_HON n != s.bit .PW_CFG_POLH n else s.bit .PW_STAT_LON n != s.bit .PW_CFG_POLL n))
  else none

/-- TOUTn: its active level during a pulse (R381). -/
def State.toutBall (s : State) (n : Fin 8) : Option Bool := s.vioBall (s.pastS1 (s.tout[n].active != s.bit .TOUT_CTRL_POL n))

/-- TDO drives nothing in S0 and S1; the levels that it shifts out later belong to the boundary-scan port, whose data no rule gives, and are
those of `shifted` (Table 21-5). -/
def State.tdoBall (s : State) (shifted : Option Bool) : Option Bool := if s.pmc.vio && s.pastS1 true then shifted else none

/-- The gate outputs HOx and LOx of an auxiliary half-bridge (R320); a device without the die has none (R506). -/
def State.auxBall (s : State) (x : Fin 4) (high : Bool) : Option Bool :=
  if s.auxOk then some (if high then s.aux[x].ho else s.aux[x].lo) else none

/-- The device has the serial unit: a cell lane, a mirror lane or a host port (R5, R9). -/
def State.serdesPresent (s : State) : Serdes → Bool
  | .lane n => s.laneOk n
  | .mirror _ => s.variant.full
  | .host p => s.portOk p

/-- The transmit pair of a serial unit, which is high impedance where the unit is absent (R199, R506). -/
def State.txBall (s : State) (x : Serdes) (before now after : Bool) : Option Int :=
  if s.serdesPresent x then some (s.txLevel x before now after) else none

/-- VRPWMn: high, low, or the mid level of high impedance (R328, R501). -/
def State.vrpwmBall (s : State) (p : Fin 4) : PhaseLevel := s.vreg.phase[p]

/-- PWRGD_CORE (R332). -/
def State.pwrgdBall (s : State) : Bool := s.bit .VREG_STAT_PGOOD 0

/-- SOUTn sources current while it is commanded on and outside its dark pulse (R345). -/
def State.soutBall (s : State) (n : Fin 4) : Bool := s.ser.sout.getLsbD n && s.ser.dark != some n

/-- TPOk is high but for its own pulse (R344). -/
def State.tpoBall (s : State) (k : Fin 4) : Bool :=
  match s.ser.pulse with
  | some (p, _) => p != k
  | none => true

end Sys2Proof.Machine
end

