-- ==== Sys2Proof/WellFormed.lean ====
section
/-! DEFINITION. Which commands are well formed: an engine instruction has a legal encoding (R96), and what comes from outside the device
has the size that the spec gives it.  The meanings are total: an ill-formed operand ends no run. -/
namespace Sys2Proof

/-- A frame of 64 bytes whose first is the SOF (R219). -/
def RxFrame.ok (f : RxFrame) : Bool := decide (f.bytes.length = 63)

/-- The planner state is for every lane and arm, or absent (Table 16-3). -/
def Heartbeat.ok (h : Heartbeat) : Bool :=
  decide ((h.levels.length = 96 ∧ h.defs.length = 6 ∧ h.phil.length = 96) ∨ (h.levels.length = 0 ∧ h.defs.length = 0 ∧ h.phil.length = 0))

/-- The command is well formed. -/
def Instr.wf (i : Instr) : Bool :=
  match i with
  | .unmappedAccess _ _ wr size => decide (1 ≤ size ∧ size ≤ 256) && wr.all (fun l => l.length == size)
  | .ackReceived _ f => f.ok
  | .telemetryReceived _ f => f.ok
  | .delayRespReceived _ f _ => f.ok
  | .bulkReceived _ f => f.ok
  | .fwRecoverData _ _ d => decide (d.length ≤ 1387)
  | .openSession _ _ _ nh => decide (nh.length = 16)
  | .attest _ nonce part => decide (nonce.length = 32 ∧ part < 2 ^ 32)
  | .imagePut _ _ _ d => decide (d.length ≤ 1384)
  | .convCmd _ b => decide (b.length ≤ 188)
  | .paramWrite _ _ v => decide (v.length ≤ 184)
  | .serParam _ b => decide (b.length = 64)
  | .heartbeatReceived h _ => h.ok
  | .winFrameReceived _ d => decide (d.length ≤ 256)
  | .jnlFrameReceived e => decide (e.length = 256)
  | .thermalSample ts _ => decide (ts.length = 12)
  | .debugToken o => decide (0x74E0 ≤ o.length)
  | .badformatRequest _ raw => decide (raw.length ≤ 1440)
  | .adcConversionDone _ x => decide (x.e.natAbs ≤ 10448)
  | .trainingSetReceived _ _ rest errs => decide (rest.length = 15 ∧ errs ≤ 16)
  | .add _ _ _ _ _ | .sub _ _ _ _ _ | .and _ _ _ _ _ | .or _ _ _ _ _ | .xor _ _ _ _ _ | .andn _ _ _ _ _ | .sll _ _ _ _ _
  | .srl _ _ _ _ _ | .sra _ _ _ _ _ | .ror _ _ _ _ _ | .min _ _ _ _ _ | .max _ _ _ _ _ | .minu _ _ _ _ _ | .maxu _ _ _ _ _
  | .clz _ _ _ _ | .popc _ _ _ _ | .mul _ _ _ _ _ | .mulh _ _ _ _ _ | .mulhu _ _ _ _ _ | .div _ _ _ _ _ | .divu _ _ _ _ _
  | .rem _ _ _ _ _ | .remu _ _ _ _ _ | .movl _ _ _ _ | .movh _ _ _ _ | .addi _ _ _ _ _ | .andi _ _ _ _ _ | .ori _ _ _ _ _
  | .xori _ _ _ _ _ | .shi _ _ _ _ _ _ | .qadd _ _ _ _ _ | .qsub _ _ _ _ _ | .qmul _ _ _ _ _ | .qneg _ _ _ _ | .qabs _ _ _ _
  | .qshl _ _ _ _ _ | .qshr _ _ _ _ _ | .mac _ _ _ _ _ | .msu _ _ _ _ _ | .mpya _ _ _ _ _ | .adda _ _ _ _ | .clra _ _ _
  | .racc _ _ _ _ _ | .mfa _ _ _ _ _ | .mta _ _ _ _ _ | .fadd _ _ _ _ _ | .fsub _ _ _ _ _ | .fmul _ _ _ _ _ | .fma _ _ _ _ _
  | .fms _ _ _ _ _ | .fdiv _ _ _ _ _ | .fsqrt _ _ _ _ | .fmin _ _ _ _ _ | .fmax _ _ _ _ _ | .fabs _ _ _ _ | .fneg _ _ _ _
  | .f2q _ _ _ _ | .q2f _ _ _ _ | .f2i _ _ _ _ | .i2f _ _ _ _ | .cmp _ _ _ _ _ _ _ | .cmpi _ _ _ _ _ _ _ | .plog _ _ _ _ _ _
  | .mfs _ _ _ _ | .mts _ _ _ _ | .nop _ _ | .fence _ _ | .brk _ _ | .ldw _ _ _ _ _ | .ldh _ _ _ _ _ | .ldhu _ _ _ _ _
  | .ldb _ _ _ _ _ | .ldbu _ _ _ _ _ | .ldq _ _ _ _ _ | .ldwp _ _ _ _ _ | .stw _ _ _ _ _ | .sth _ _ _ _ _ | .stb _ _ _ _ _
  | .stq _ _ _ _ _ | .stwp _ _ _ _ _ | .br _ _ _ | .call _ _ _ | .jr _ _ _ | .jalr _ _ _ _ | .sincos _ _ _ _ _ | .biq _ _ _ _ _
  | .pi _ _ _ _ _ | .capo _ _ _ _ _ | .lim _ _ _ _ _ | .limf _ _ _ _ _ | .sat _ _ _ _ _ | .satu _ _ _ _ _ | .pluck _ _ _ _
  | .plka _ _ _ _ _ | .plkc _ _ _ _ _ _ | .send _ _ _ _ | .recv _ _ _ _ | .pega _ _ _ _ | .pegr _ _ _ _ | .pegrk _ _ _ _
  | .pegq _ _ _ _ | .waitf _ _ _ _ | .commit _ _ _ | .commitE _ _ _ | .endt _ _ | .dlq _ _ _ | .dlck _ _ _ _ => i.legal
  | .regWrite _ _ _ | .readClear _ _ | .lock _ _ | .unlock _ | .unitEnable _ | .unitDisable _ | .drainComplete _
  | .fretBoundary | .taskStart _ | .scanStart _ _ _ | .deadlineThreshold _ | .armConversionDone _
  | .fpcselWrite _ | .sourceHandoverRequest _ | .snap | .atuEnable | .atuDisable | .sourceLoss | .sourceReturn | .slewEnd
  | .fretSwap _ | .fretSwapValidated | .fretTableWrite _ _ | .waitfWake _ | .ssmGrant _ _ _ | .arbWindowStart | .holdLimitCut
  | .ceUrst _ | .debugResume _ | .imageBankWrite _ _ _ | .actGo _ | .actValidated | .pegAcqRead _ _ | .pegRelRead _ _
  | .pegRelkRead _ _ | .cbsSortStart _ | .cbsSortDone _ | .modUrst | .trainingTimeout _
  | .linkLoss _ _ | .retrain _ | .rateWrite _ _ | .txeqWrite _ _ | .eireqSet _ | .eisSent _ | .eisReceived _ | .eireqClear _
  | .fxbReceived _ | .fastExitTimeout _ | .patternCtrlWrite _ _ | .checkerLock _ | .checkerLostLock _ _ | .mirrorGroupUp
  | .mirrorLinkLoss _ | .timebaseLaunch _ | .delayReqLaunch _ | .commandLaunch _ | .retryLaunch _ | .delayRespTimeout _
  | .bulkTxGo _ _ | .bulkTxSend _ | .bulkRxFree _ _ | .slotTableWrite _ _ _ | .clgSwap _ | .clgSwapValidated | .clearRequest
  | .cmpCrossing _ _ | .tripPinChange _ _ | .blankWindowEnd _ | .filterQualified _ | .muteStateSet | .latchClear _ _ | .mclr
  | .routeWrite _ _ | .swTripRequest _ | .supTripRequest | .pwmPeriodStart _ | .pwmLoadPoint _ | .pwmCompareMatch _
  | .deadTimeExpiry _ _ | .pwmStart _ | .pwmStartDue | .pwmTrip _ | .pwmTripClear _ | .cbcCut _ | .cbcBlankEnd _
  | .pwmOverride _ _ _ | .pwmDisable _ | .pwmTrigger _ _ | .debugHalt _ | .adcSwgo _ _ | .adUrst _ | .tdacWrite _ _
  | .auxPeriodStart | .auxHonMatch _ | .auxDeadTimeExpiry _ _ | .bootstrapUv _ | .bootstrapRecover _ | .vdrvUv _ | .vdrvRecover
  | .auxDesatBlankEnd _ _ | .auxDesat _ _ | .auxOverride _ _ _ | .auxLinkLoss | .auxLinkReturn | .vregPhaseFire
  | .vregOnTimeEnd _ | .vregCurrentLimit _ | .vregRefStep | .vidWrite _ | .pwrgdAssert | .pwrgdDeassert | .ovpDetect
  | .softStartTimeout | .hiccupEnd | .hiccupCountClear | .syncInLost | .syncInReacquired | .serFirmwareStart
  | .safetyCycle _ _ _ | .serSoutCut | .tpoPulse _ | .tpoPulseEnd _ _ | .tpoRecoveryCheck _ _ | .soutDarkPulse _
  | .darkPulseEnd _ _ | .proofTestEnd | .lockstepFault | .serWatchdogExpiry | .safeSupplyFault | .hostFrameReceived _ _ _ _
  | .prpEntryExpiry _ | .txQueueTailWrite _ _ _ | .timedLaunchDue _ _ | .hostFrameSent _ _ _ | .tsqPop _
  | .hostLinkStateChange _ _ | .hpModeWrite _ _ | .timeSet | .timeStep | .timeNsRead _ | .toutEnable _ | .toutRise _
  | .toutFall _ | .identify _ | .status _ | .reason _ | .fwRecoverBegin _ _ | .fwRecoverCommit _ | .fwRecoverRetry _
  | .recoveryIdleTimeout | .sessionKeyTimeout _ | .ping _ | .query _ _ | .readState _ _ | .logRead _ | .closeSession _
  | .lockTake _ _ | .lockRelease _ _ _ | .muteReq _ | .imageStage _ _ | .imageActivate _ _ _ _ | .serConfirm _ _
  | .serRestart _ | .serTest _ | .fwStage _ _ _ | .fwActivate _ | .journalCommitDone | .mirrorCommitTimeout | .entryExecute
  | .convCmdDelivery | .consloWrite _ _ | .consumedMarkDurable | .journalReplay | .journalCompaction | .leaseExpire _
  | .sessionIdleExpiry _ | .heartbeatSend | .jackReceived _ | .markReceived _ _ | .ctlFrameReceived _ | .twinTimebaseJoin
  | .pwmasterAlignLoad | .takeover | .yieldRole | .handoverRequest | .plannedHandover | .claim | .journalCopy | .porPin
  | .porSupply | .bootRomStart _ | .firmwareStart | .stageS3Entry | .arm _ | .disarm | .warmResetRequest _ | .supReset _
  | .supWatchdogExpiry _ | .debugReset | .buttonPress | .buttonRelease _ | .buttonStuck | .buttonRearm | .startOk | .refLoss
  | .pllLockLoss _ | .rc16Loss | .quadFeedGate | .pllLock _ | .pllRelock _ | .bandWrite _ _ _ | .powerDomainRequest _
  | .powerDownDone _ | .powerUpDone _ | .throt4Entry | .thermalShutdown | .thermMaskWrite _ | .secVerifyDone
  | .identityKeyReady | .engFloorRaise | .dbgChalRead _ | .tamperPin | .supplyGlitch | .powerOnResetRelease _
  | .muteBurstComplete _ | .tbSetsSent _ | .mirrorTrainingBlockReceived _ _ | .referenceReturn | .reservedOpcode _ _
  | .fetchEccError _ | .dmaDescriptorComplete _ _ _ => true

end Sys2Proof
end

