-- ==== Sys2Proof/Tests/Slice0.lean ====
section
/-! SUPPORT. Tests: results that the spec works out, the checks of WellFormed, and for each claim states and operands that meet its
hypotheses. -/
open Sys2Proof Sys2Proof.Machine
namespace Sys2Proof.Tests

set_option maxRecDepth 20000

/-! Helpers. -/

/-- The device in S3, supplied, with every clock. -/
def up : State := { State.reset.setF .PMC_STAGE_STAGE 0 3 with gated := 0#4, quadFeed := true, pmc := { porSupply := false } }

/-- Engine 0 runs a task, with `f` applied to the engine. -/
def task (f : Eng → Eng) : State :=
  { up.setF .CE_STAT_RUNNING 0 1 with ce := Vector.replicate 24 (f {}) }

/-- The same with g1, g2 and g3 as given. -/
def eng (x y z : Word) : State :=
  task (fun e => { e with g := ((e.g.set 1 x).set 2 y).set 3 z })

/-- The same with fields set. -/
def fields (s : State) (l : List (Fld × Nat × Nat)) : State := l.foldl (fun t e => t.setF e.1 e.2.1 e.2.2) s

/-- The state a command leaves. -/
def after (i : Instr) (s : State) : State := match exec i s with
  | .next t => t
  | _ => s

/-- General register of engine 0. -/
def g (s : State) (r : BitVec 5) : Word := (s.ce[0]).readG r

/-! The worked results of the spec: engines. -/

/-- R97's example: (!p2) FMA g4, g8, g9. -/
theorem test_fma_word : decodeVolgar 5 0xA0C88483#32 = some (.fma 5 10#4 4#5 8#5 9#5) ∧ (Instr.fma 5 10#4 4#5 8#5 9#5).word = 0xA0C88483#32 := by decide

theorem test_words_of_the_control_families : decodeVolgar 0 0b0000_110000_00010_00001_00011_0000000#32 = some (.sincos 0 0#4 2#5 1#5 3#5) ∧
    decodeVolgar 0 0b0000_110100_00001_00010_00011_1000101#32 = some (.plkc 0 0#4 1#2 2#5 3#5 5#5) ∧
    decodeVolgar 0 0b0000_110110_00001_00010_00000_0000011#32 = some (.pegq 0 0#4 1#5 2#5) ∧
    decodeVolgar 0 0b0000_110111_011_000_1000000000000001#32 = some (.waitf 0 0#4 3#3 0x8001#16) ∧
    decodeVolgar 0 0b0000_111001_011_00_00010_00000_0000001#32 = some (.dlck 0 0#4 3#3 2#5) ∧
    decodeVolgar 0 0b0000_001000_00000_00011_000000010001#32 = some (.mts 0 0#4 0x11#12 3#5) ∧
    decodeVolgar 0 0b0000_010000_00011_00010_10_00000_00100#32 = some (.shi 0 0#4 3#5 2#5 2#2 4#5) := by decide

/-- R88, R96: what a legal word may not hold. -/
theorem test_illegal_words : decodeVolgar 0 0b0000_110000_00011_00001_00011_0000000#32 = none ∧
    decodeVolgar 0 0b0000_011010_00011_00011_000000000000#32 = none ∧ decodeVolgar 0 0b0000_000111_00011_00000_000000001000#32 = none ∧
    decodeVolgar 0 0b0000_000001_00011_00001_00010_0000010#32 = none ∧ decodeVolgar 0 0b0000_001010_00111_1_0000000000000000#32 = none := by decide

/-- The fields that bound an integer result: wrap, signs, and the shift by rb[4:0] alone (Table 3-10). -/
theorem test_integer_corners : g (after (.add 0 0#4 3#5 1#5 2#5) (eng 0xFFFFFFFF#32 2#32 0#32)) 3#5 = 1#32 ∧
    g (after (.sub 0 0#4 3#5 1#5 2#5) (eng 1#32 2#32 0#32)) 3#5 = 0xFFFFFFFF#32 ∧
    g (after (.sra 0 0#4 3#5 1#5 2#5) (eng 0x80000000#32 33#32 0#32)) 3#5 = 0xC0000000#32 ∧
    g (after (.mulh 0 0#4 3#5 1#5 2#5) (eng 0xFFFFFFFF#32 2#32 0#32)) 3#5 = 0xFFFFFFFF#32 ∧
    g (after (.minu 0 0#4 3#5 1#5 2#5) (eng 0xFFFFFFFF#32 2#32 0#32)) 3#5 = 2#32 ∧
    g (after (.min 0 0#4 3#5 1#5 2#5) (eng 0xFFFFFFFF#32 2#32 0#32)) 3#5 = 0xFFFFFFFF#32 ∧
    g (after (.rem 0 0#4 3#5 1#5 2#5) (eng 0xFFFFFFF9#32 2#32 0#32)) 3#5 = 0xFFFFFFFF#32 ∧
    g (after (.div 0 0#4 3#5 1#5 2#5) (eng 0xFFFFFFF9#32 2#32 0#32)) 3#5 = 0xFFFFFFFD#32 := by decide

/-- 1.5 + 1.25, 3 × 0.5, 1 / 3 rounded to nearest even, √2, and 1.5 and −2^31 to the integers, in binary32. -/
theorem test_float_results : g (after (.fadd 0 0#4 3#5 1#5 2#5) (eng 0x3FC00000#32 0x3FA00000#32 0#32)) 3#5 = 0x40300000#32 ∧
    g (after (.fmul 0 0#4 3#5 1#5 2#5) (eng 0x40400000#32 0x3F000000#32 0#32)) 3#5 = 0x3FC00000#32 ∧
    g (after (.fdiv 0 0#4 3#5 1#5 2#5) (eng 0x3F800000#32 0x40400000#32 0#32)) 3#5 = 0x3EAAAAAB#32 ∧
    g (after (.fsqrt 0 0#4 3#5 1#5) (eng 0x40000000#32 0#32 0#32)) 3#5 = 0x3FB504F3#32 ∧
    g (after (.fma 0 0#4 3#5 1#5 2#5) (eng 0x40000000#32 0x40400000#32 0x3F800000#32)) 3#5 = 0x40E00000#32 ∧
    g (after (.f2i 0 0#4 3#5 1#5) (eng 0xCF000000#32 0#32 0#32)) 3#5 = 0x80000000#32 ∧
    g (after (.i2f 0 0#4 3#5 1#5) (eng 0xFFFFFFFE#32 0#32 0#32)) 3#5 = 0xC0000000#32 := by decide

/-- Q31: 0.5 × 0.5, −1 × −1 saturates, and a shift right that rounds half up. -/
theorem test_q31_results : g (after (.qmul 0 0#4 3#5 1#5 2#5) (eng 0x40000000#32 0x40000000#32 0#32)) 3#5 = 0x20000000#32 ∧
    g (after (.qmul 0 0#4 3#5 1#5 2#5) (eng 0x80000000#32 0x80000000#32 0#32)) 3#5 = 0x7FFFFFFF#32 ∧
    ((after (.qmul 0 0#4 3#5 1#5 2#5) (eng 0x80000000#32 0x80000000#32 0#32)).ce[0]).flagQ ≠ [] ∧
    g (after (.qshr 0 0#4 3#5 1#5 2#5) (eng 3#32 1#32 0#32)) 3#5 = 2#32 ∧
    g (after (.qneg 0 0#4 3#5 1#5) (eng 0x80000000#32 0#32 0#32)) 3#5 = 0x7FFFFFFF#32 := by decide

/-- The registers that SINCOS of an angle writes. -/
def sincosOf (a : Word) : Word × Word :=
  (g (after (.sincos 0 0#4 2#5 1#5 3#5) (eng a 0#32 0#32)) 2#5, g (after (.sincos 0 0#4 2#5 1#5 3#5) (eng a 0#32 0#32)) 3#5)

/-- Table 4-3. -/
theorem test_sincos_reference : sincosOf 0#32 = (0#32, 0x7FFFFFFF#32) ∧ sincosOf 0x20000000#32 = (0x5A82799A#32, 0x5A82799A#32) ∧ 
    sincosOf 0x40000000#32 = (0x7FFFFFFF#32, 0#32) ∧ sincosOf 0x80000000#32 = (0#32, 0x80000000#32) ∧ sincosOf 0xC0000000#32 = (0x80000000#32, 0#32) := by decide +kernel

/-- The block of the example under R121, with UMAX as given. -/
def piExample (umax : Nat) : State :=
  let s := eng 0x10000000#32 0x400#32 0x30000000#32
  [(0, 0x800), (4, 0x20000000), (8, 0x01000000), (12, 0), (16, 0xC0000000), (20, umax), (24, 0x00800000), (28, 0), (32, 0)].foldl
    (fun t e => t.setBytes (ceData 0 + 0x400 + e.1) e.2 4) s

/-- R121, R122 (the worked handover): CAPO preloads I = 0x2C000000 and returns 0, or returns 1 where u lies above UMAX. -/
theorem test_capo_example : let a := after (.capo 0 0#4 3#5 1#5 2#5) (piExample 0x40000000)
    let b := after (.capo 0 0#4 3#5 1#5 2#5) (piExample 0x28000000)
    (g a 3#5, a.word (ceData 0 + 0x40C)) = (0#32, 0x2C000000#32) ∧ (g b 3#5, b.word (ceData 0 + 0x40C)) = (1#32, 0x28000000#32) ∧
    b.word (ceData 0 + 0x41C) = 0x30000000#32 := by decide

/-- The PI step of the next fret gives u = 0x30200000 and i = 0x2C200000, or 0x2F800000 in the blend. -/
theorem test_pi_example : let a := after (.pi 0 0#4 4#5 1#5 2#5) (after (.capo 0 0#4 3#5 1#5 2#5) (piExample 0x40000000))
    let b := after (.pi 0 0#4 4#5 1#5 2#5) (after (.capo 0 0#4 3#5 1#5 2#5) (piExample 0x28000000))
    (g a 4#5, a.word (ceData 0 + 0x40C)) = (0x30200000#32, 0x2C200000#32) ∧ g b 4#5 = 0x2F800000#32 := by decide

/-- The block of R119's example. -/
def notch : State :=
  [(0, 1), (4, 0x40000000), (8, 0x80009DEA), (12, 0x40000000), (16, 0x80049DE5), (20, 0x3FFC0010)].foldl
    (fun t e => t.setBytes (ceData 0 + 0x400 + e.1) e.2 4) (eng 0x40000000#32 0x400#32 0#32)

/-- The notch of R119's example on a first sample of 0.5: y = B0 × 2 × x = 0.5, and the history takes x and y. -/
theorem test_biq_notch : let t := after (.biq 0 0#4 3#5 1#5 2#5) notch
    g t 3#5 = 0x40000000#32 ∧ t.word (ceData 0 + 0x418) = 0x40000000#32 ∧ t.word (ceData 0 + 0x420) = 0x40000000#32 := by decide

/-- The example under R133: DLQ returns 4,730. -/
theorem test_dlq_example : g (after (.dlq 0 0#4 3#5)
    { task (fun e => { e with deadline := 0x8000 }) with atu := { acc := 0x400 * 32 * 65536 } }) 3#5 = 4730#32 := by decide

/-- A load sign-extends, a store writes its bytes least significant first, and the steps of LDWP and STWP are in words (Table 3-15). -/
theorem test_loads_and_stores : let s := (eng 0x100#32 0xA1B2C3D4#32 0#32).setBytes (ceData 0 + 0x100) 0x8091A2F3 4
    g (after (.ldb 0 0#4 3#5 1#5 0#12) s) 3#5 = 0xFFFFFFF3#32 ∧ g (after (.ldhu 0 0#4 3#5 1#5 1#12) s) 3#5 = 0x8091#32 ∧
    g (after (.ldq 0 0#4 3#5 1#5 1#12) s) 3#5 = 0x80910000#32 ∧ g (after (.ldwp 0 0#4 3#5 1#5 0xFFF#12) s) 1#5 = 0xFC#32 ∧
    (after (.sth 0 0#4 2#5 1#5 1#12) s).byte (ceData 0 + 0x102) = 0xD4#8 ∧
    (after (.sth 0 0#4 2#5 1#5 1#12) s).word (ceData 0 + 0x100) = 0xC3D4A2F3#32 := by decide

/-- Engine 0 of R160's example: W_SSM is 375 at HOLD = 256 and 95 at HOLD = 32. -/
theorem test_wssm_example : let s := { eng 0#32 0#32 0#32 with arb := { credit := #v[108, 128, 96, 96, 32, 32, 32, 32, 16, 32] } }
    (s.setF .ARB_HOLD_HOLD 0 256).wssmBound 4 = 375 ∧ (s.setF .ARB_HOLD_HOLD 0 32).wssmBound 4 = 95 := by decide

/-! The claims' hypotheses: engines. -/

/-- The instructions of the integer, immediate, Q31, accumulator, FP32 and control families are performed, with an unconditional and with a
negated predicate. -/
theorem test_met_performs : let s := eng 1#32 2#32 3#32
    Performs (.add 0 0#4 31#5 1#5 0#5) 0 0#4 s ∧ Performs (.sub 0 9#4 0#5 1#5 2#5) 0 9#4 s ∧ Performs (.clz 0 0#4 3#5 1#5) 0 0#4 s ∧
    Performs (.div 0 0#4 3#5 1#5 2#5) 0 0#4 s ∧ Performs (.shi 0 0#4 3#5 1#5 3#2 31#5) 0 0#4 s ∧ Performs (.qmul 0 0#4 3#5 1#5 2#5) 0 0#4 s ∧
    Performs (.mta 0 0#4 3#2 1#5 2#5) 0 0#4 s ∧ Performs (.fma 0 0#4 3#5 1#5 2#5) 0 0#4 s ∧ Performs (.sincos 0 0#4 30#5 1#5 2#5) 0 0#4 s ∧
    Performs (.plkc 0 0#4 3#2 1#5 2#5 31#5) 0 0#4 s ∧ Performs (.nop 0 0#4) 0 0#4 s := by decide

/-- The bounds of CLZ: k = 0, 31 and 32. -/
theorem test_met_clz : ∀ x ∈ [(0#32, 32), (1#32, 31), (0xFFFFFFFF#32, 0)], let a := (eng x.1 0#32 0#32).ce[0].readG 1#5
    x.2 ≤ 32 ∧ a.toNat < 2 ^ (32 - x.2) ∧ (x.2 < 32 → 2 ^ (31 - x.2) ≤ a.toNat) := by decide

/-- The divider's three cases. -/
theorem test_met_divider : (g (eng 5#32 0#32 0#32) 2#5 = 0#32) ∧ (g (eng 0x80000000#32 0xFFFFFFFF#32 0#32) 1#5 = 0x80000000#32 ∧
    g (eng 0x80000000#32 0xFFFFFFFF#32 0#32) 2#5 = 0xFFFFFFFF#32) ∧ g (eng 5#32 0xFFFFFFFF#32 0#32) 2#5 ≠ 0#32 := by decide

/-- The NaN cases of FADD, FMA, FSQRT and FMUL. -/
theorem test_met_nan : isNan32 0x7FC00000#32 = true ∧ isSnan32 0x7F800001#32 = true ∧ isSnan32 0x7FC00000#32 = false ∧
    (isZero32 0x80000000#32 && isInf32 0xFF800000#32) = true := by decide

/-- CMP, CMPI and PLOG are performed with every condition of the claim, and MFS and MTS with every register. -/
theorem test_met_predicates : ∀ i ∈ [0#4, 1#4, 2#4, 3#4, 4#4, 5#4, 8#4, 9#4, 10#4, 11#4, 12#4].map (Instr.cmp 0 0#4 7#3 3#2 1#5 2#5) ++
    [0#4, 1#4, 2#4, 3#4, 4#4, 5#4].map (Instr.cmpi 0 0#4 1#3 0#2 1#5 0x80#8) ++ [0#3, 1#3, 2#3, 3#3].map (Instr.plog 0 0#4 1#3 7#3 2#3) ++
    [.plog 0 0#4 1#3 7#3 0#3 5#3, .plog 0 0#4 1#3 0#3 0#3 7#3, .mts 0 0#4 0x10#12 3#5, .mts 0 0#4 0x11#12 3#5] ++
    [0#12, 1#12, 2#12, 3#12, 4#12, 5#12, 6#12, 7#12, 0x10#12, 0x11#12].map (Instr.mfs 0 0#4 3#5), Performs i 0 0#4 (eng 1#32 2#32 3#32) := by decide

/-- A false predicate, an illegal encoding, a fetch at the end of the code region and an engine that cannot issue. -/
theorem test_met_fetch : let s := eng 1#32 2#32 3#32
    (Fetches 0 s ∧ (Instr.add 0 1#4 3#5 1#5 2#5).legal = true ∧ (s.ce[0]).predTrue 1#4 = false) ∧
    (Instr.add 0 8#4 3#5 1#5 2#5).legal = false ∧
    (let u := task (fun e => { e with pc := 0x6000#32 }); u.canIssue 0 = true ∧ 0x6000 ≤ (u.ce[0]).pc.toNat) ∧
    Fetches 0 (task (fun e => { e with pc := 0x5FFC#32 })) ∧ State.reset.canIssue 0 = false ∧ decodeVolgar 0 0#32 = none ∧
    ({ s with eccBad := [s.fetchAddr 0] } : State).badWord (s.fetchAddr 0) = true ∧ ({ s with eccBad := [s.fetchAddr 0] } : State).canIssue 0 = true := by decide

/-- An error in a memory with check bits, in one without, and in a word that cannot be read already. -/
theorem test_met_word_errors : eccMemory 0x107FEFFC = true ∧ up.badWord 0x107FEFFC = false ∧ eccMemory mram = false ∧
    ({ up with eccBad := [0x10000000] } : State).badWord 0x10000000 = true ∧ eccMemory (ceData 23 + 0xFFFC) = true := by decide

/-- Branches to 0 and to 0x5FFC, and to 0x6000 and a misaligned target. -/
theorem test_met_branches : Performs (.br 0 0#4 0#22) 0 0#4 (eng 0#32 0#32 0#32) ∧ Performs (.jalr 0 0#4 31#5 1#5) 0 0#4 (eng 0x5FFC#32 0#32 0#32) ∧
    (0x5FFC % 4 = 0 ∧ 0x5FFC < 0x6000) ∧ ¬(0x6000 % 4 = 0 ∧ 0x6000 < 0x6000) ∧ ¬(2 % 4 = 0) ∧
    (let h := { (eng 0#32 0#32 0#32).setF .SEC_LIFE_STATE 0 0 with haltEn := 1#24 }; Performs (.brk 0 0#4) 0 0#4 h ∧ h.brkHalts 0 = true) ∧
    (eng 0#32 0#32 0#32).brkHalts 0 = false := by decide

/-- The last block of the data RAM, one past it, a misaligned one, and an uncorrectable last word. -/
theorem test_met_blocks : let s := eng 0xFFD8#32 0xFFDC#32 0x402#32
    BlockOk s 0 (g s 1#5) 10 ∧ BlockOk s 0 (g s 2#5) 9 ∧ 0x10000 < (g s 2#5).toNat + 4 * 10 ∧ (g s 3#5).toNat % 4 ≠ 0 ∧
    (let u := { s with eccBad := [ceData 0 + 0xFFFC] }; u.badWord (ceData 0 + 0xFFD8 + 4 * 9) = true ∧
      ∀ j, j < 9 → u.badWord (ceData 0 + 0xFFD8 + 4 * j) = false) ∧
    Performs (.biq 0 0#4 3#5 1#5 2#5) 0 0#4 s ∧ Performs (.pi 0 0#4 3#5 1#5 2#5) 0 0#4 s ∧ Performs (.capo 0 0#4 3#5 1#5 2#5) 0 0#4 s := by decide

/-- The ends of the engine's RAM and of the SSM, and the accesses that raise ALIGN, ACCESS and ECC_D. -/
theorem test_met_memory : let s := eng 0#32 0#32 0#32
    MemOk s 0 0xFFFC#32 4 ∧ MemOk s 0 0x10000000#32 4 ∧ MemOk s 0 0x107FEFFE#32 2 ∧ MemOk s 0 0xFFFF#32 1 ∧
    (0x107FF000#32).toNat % 4 = 0 ∧ windowTakes 0 0x10000 4 true = false ∧ windowTakes 0 0x10000 1 false = false ∧ (2#32).toNat % 4 ≠ 0 ∧
    (let u := { s with eccBad := [ceData 0 + 0x100] }; u.badWord (ceData 0 + 0x100) = true) ∧
    Performs (.ldwp 0 0#4 3#5 1#5 0x800#12) 0 0#4 s ∧ Performs (.stwp 0 0#4 3#5 1#5 0x7FF#12) 0 0#4 s ∧ Performs (.stq 0 0#4 3#5 1#5 0#12) 0 0#4 s := by decide

/-- SEND to the last lane's EW5 and the last arm's ARW7, by the owner, after a COMMIT, to an absent lane and with a bad descriptor. -/
theorem test_met_send : let s := eng (BitVec.ofNat 32 (95 * 256 + 5)) (BitVec.ofNat 32 (2 ^ 28 + 5 * 256 + 7)) 0xF0000000#32
    Performs (.send 0 0#4 1#5 2#5) 0 0#4 s ∧ s.laneOk 95 = true ∧ s.getF .CL_CFG_OWNER 95 = 0 ∧ s.getF .ARM_CFG_OWNER 5 = 0 ∧
    (s.setF .CL_CFG_OWNER 95 1).getF .CL_CFG_OWNER 95 ≠ 0 ∧ ({ s with variant := .ag9648 } : State).laneOk 95 = false ∧ sendOk (g s 3#5) = false := by decide

/-- RECV of RSTAT, of TFRET and the last telemetry word of a VALID buffer, of another buffer, of an absent lane, and a bad descriptor. -/
theorem test_met_recv : let s := eng (BitVec.ofNat 32 (2 * 2 ^ 28 + 95 * 256 + 15)) (BitVec.ofNat 32 (2 * 2 ^ 28 + 95 * 256 + 14)) 0x2000000C#32
    Performs (.recv 0 0#4 3#5 1#5) 0 0#4 s ∧ recvOk (g s 1#5) = true ∧ recvOk (g s 2#5) = true ∧ recvOk (BitVec.ofNat 32 (2 * 2 ^ 28 + 11)) = true ∧
    (s.lanes[95]).rx.state ≠ 1 ∧ ((s.modLane 95 (fun l => { l with rx := { state := 1 } })).lanes[95]).rx.state = 1 ∧ recvOk (g s 3#5) = false := by decide

/-- A free peg, a broken one, one held by the engine and one held by another. -/
theorem test_met_pegs : let s := eng 255#32 0#32 0#32
    let u := s.modPeg 255 (fun p => { p with held := true, holder := 0 })
    let v := s.modPeg 255 (fun p => { p with held := true, holder := 0x20 })
    (s.ce[0]).readG 1#5 = BitVec.ofNat 32 255 ∧ s.badWord (pegAddr 255) = false ∧ (s.pegs[255]).held = false ∧
    ((u.pegs[255]).held = true ∧ (u.pegs[255]).holder = 0) ∧ ((v.pegs[255]).held = true ∧ (v.pegs[255]).holder ≠ 0) ∧
    Performs (.pega 0 0#4 3#5 1#5) 0 0#4 s ∧ ({ s with eccBad := [pegAddr 255] } : State).badWord (pegAddr 255) = true := by decide

/-- WAITF before its offset, at it, and past the deadline; the wake of the waiting engine. -/
theorem test_met_waitf : let s := fields { task (fun e => { e with deadline := 0x100, waitf := none }) with
      atu := { acc := 0x80 * 32 * 65536 } } [(.ATU_STAT_ENST, 0, 1)]
    let w := s.modCe 0 (fun e => { e with waitf := some (1#3, 0x80#16) })
    s.dlPassed 0 = false ∧ s.offReached 0x80 = true ∧ s.offReached 0x81 = false ∧
    ({ s with atu := { acc := 0x100 * 32 * 65536 } } : State).dlPassed 0 = true ∧ Performs (.waitf 0 0#4 1#3 0x81#16) 0 0#4 s ∧
    (w.ce[0]).waitf = some (1#3, 0x80#16) ∧ w.running 0 = true ∧ w.halted 0 = false ∧ w.atuRuns = true := by decide

/-- COMMIT accepted, late and again, of an engine that is ON and of one that is DRAINING. -/
theorem test_met_commit : let s := fields (task (fun e => { e with deadline := 0x100 })) [(.ATU_STAT_ENST, 0, 1), (.CE_STAT_ENST, 0, 1)]
    Performs (.commit 0 0#4 3#5) 0 0#4 s ∧ Performs (.commitE 0 0#4 3#5) 0 0#4 s ∧ Performs (.endt 0 0#4) 0 0#4 s ∧
    (s.ce[0]).committed = false ∧ s.dlPassed 0 = false ∧ s.getF .CE_STAT_ENST 0 ≠ 2 ∧ (s.setF .CE_STAT_ENST 0 2).getF .CE_STAT_ENST 0 = 2 ∧
    (task (fun e => { e with sfret := 1#32 })).dlPassed 0 = true := by decide

/-- The start offset of TASKA of engine 0 in row 0 has been reached; the engine is ready, or OFF. -/
theorem test_met_task_start : let s := (((fields up [(.ATU_STAT_ENST, 0, 1), (.CE_STAT_ENST, 0, 1)]).setBytes (fretRowAddr 0 0) 0x81000000 4).setBytes
      (ceEntry 0 0 + 4) 0x80005FFC 4)
    let s := { s with gated := 0#4, fretd := { row := some (0, 0) } }
    let ta := s.rowWord 0 0 0
    let w := (s.word (ceEntry 0 (s.getF .CE_STAT_ACTBANK 0) + 4 * (ta / 2 ^ 24 % 16))).toNat
    2 ^ 31 ≤ ta ∧ s.fretd.started.getLsbD 0 = false ∧ s.atuRuns = true ∧ s.offReached (ta % 65536) = true ∧
    (s.engOk 0 = true ∧ s.getF .CE_STAT_ENST 0 = 1 ∧ s.running 0 = false ∧ s.halted 0 = false) ∧ (2 ^ 31 ≤ w ∧ w % 4 = 0 ∧ w % 65536 < 0x6000) ∧
    (s.setF .CE_STAT_ENST 0 0).getF .CE_STAT_ENST 0 ≠ 1 := by decide

/-- The deadline of the task of this fret is reached with no arm to close. -/
theorem test_met_deadline : let s := { fields (task (fun e => { e with committed := true })) [(.ATU_STAT_ENST, 0, 1)] with
      fretd := { started := 1#24 } }
    s.atuRuns = true ∧ s.fretd.started.getLsbD 0 = true ∧ (s.ce[0]).sfret = BitVec.ofNat 32 s.fretnum ∧ (s.ce[0]).dlDone = false ∧
    s.offReached (s.ce[0]).deadline = true ∧ s.armsToClose 0 = [] ∧ s.running 0 = true ∧ s.halted 0 = false := by decide

/-- A unit reset, a halt under a grant with ENGINE and without one, and resumes with and without an end that fell due. -/
theorem test_met_engine_debug : let s := fields (task (fun e => { e with endDue := 2 })) [(.CE_STAT_HALTED, 0, 1)]
    s.engOk 23 = true ∧ s.debugLevel.testBit 0 = true ∧ ({ s with variant := .ag9624 } : State).engOk 23 = false ∧ s.halted 0 = true ∧ (s.ce[0]).endDue ≠ 0 ∧
    ((task (fun e => { e with endDue := 0 })).ce[0]).endDue = 0 := by decide

/-- A write into the last word of each bank of engine 0, with bank 0 active, and into a bank that a pending activation masks. -/
theorem test_met_banks : let s := up
    let u := fields s [(.CE_ACTSTAT_PEND, 0, 1), (.CE_ACTMASK_MASK, 0, 1)]
    bankOf 0x603C = some 0 ∧ bankOf 0x1603C = some 1 ∧ s.getF .CE_STAT_ACTBANK 0 = 0 ∧ s.actBusy = false ∧
    u.actBusy = true ∧ u.actMasked 0 = true := by decide

/-- A validation that fails (an absent or a not staged engine), one that waits and one that acts at once. -/
theorem test_met_activation : let s := fields up [(.CE_ACTSTAT_VALIDATING, 0, 1)]
    let u := fields s [(.CE_ACTMASK_MASK, 0, 1)]
    s.actBusy = true ∧ up.actBusy = false ∧ u.actCode ≠ 0 ∧ (s.actCode = 0 ∧ s.actAtOnce = true ∧ ∀ n ∈ s.actList, s.running n = false) ∧
    ({ u with variant := .ag9624 } : State).engOk 8 = false ∧
    (let v := fields u [(.CE_STAT_STGOK, 0, 1), (.CE_STAT_ENST, 0, 1), (.ATU_STAT_ENST, 0, 1)]; v.actCode = 0 ∧ v.actAtOnce = false) := by decide

/-- A request on port 0 from engine 11, with the tie of the two ports' credits, and a grant to be cut. -/
theorem test_met_arbiter : let s := up
    let l := s.raisedReq 3#10 0x001800#24
    s.arb.grant = none ∧ (0 : Fin 10) ∈ l ∧ (∀ k ∈ l, s.arb.credit[k] < s.arb.credit[(0 : Fin 10)] ∨
      (s.arb.credit[k] = s.arb.credit[(0 : Fin 10)] ∧ (0 : Fin 10) ≤ k)) := by decide

/-- Loads and stores of the register windows at their ends, and of an SSM word that cannot be read; a store of part of a word with an error of a single bit, and one into CONSLO. -/
theorem test_met_windows : ∀ x ∈ [0x40040000, 0x40040FFC, 0x400A0000, 0x400AFFFC, 0x400B0000, 0x400BFFFC, 0x40110000, 0x4011FFFC],
    x % 4 = 0 ∧ windowOf x ∈ [Window.atu, .trip, .pwm, .time] := by decide

/-- The accesses of windows and of the SSM are performed. -/
theorem test_met_window_accesses : let s := eng 0x4004014C#32 0x400A0800#32 0x400B0000#32
    (g s 1#5).toNat = 0x4004014C ∧ (g s 2#5).toNat = 0x400A0800 ∧ windowOf 0x400B0000 = .pwm ∧ Performs (.ldw 0 0#4 3#5 1#5 0#12) 0 0#4 s ∧
    Performs (.stw 0 0#4 1#5 3#5 0#12) 0 0#4 s ∧ Performs (.stwp 0 0#4 1#5 2#5 0#12) 0 0#4 s ∧ windowOf 0x107FEFFC = .ssm ∧
    ({ up with eccBad := [0x107FEFFC] } : State).badWord 0x107FEFFC = true := by decide

/-- Words with an error of a single bit that stores of a part of them meet, and the words of the command ring's header. -/
theorem test_met_soft_words : let u : State := { up with eccSoft := [0x10000000, ceData 0] }
    u.softWord 0x10000000 = true ∧ u.softWord (memAddr 0 1) = true ∧ u.ringFixed 0x10000000 = false ∧ MemOk u 0 0x10000002#32 2 ∧ MemOk u 0 1#32 1 ∧
    u.ringFixed 0x10700008 = false ∧ (u.setF .MIR_STAT_ROLE 0 1).ringFixed 0x10700008 = true := by decide

/-- A write of ARW7 with and without a request, to an arm that is ON in a unit that is ON and to one that is not. -/
theorem test_met_send_request : let s := fields (eng (BitVec.ofNat 32 (2 ^ 28 + 7)) 0x00070101#32 0x00070100#32) [(.MOD_STAT_ENST, 0, 1), (.ARM_STAT_ENST, 0, 1)]
    (s.ce[0]).readG 1#5 = BitVec.ofNat 32 (2 ^ 28 + (0 : Fin 6).val * 256 + (7 : Fin 8).val) ∧ (s.ce[0]).committed = false ∧ s.modOn = true ∧
    s.getF .ARM_STAT_ENST 0 = 1 ∧ s.getF .ARM_CFG_OWNER 0 = 0 ∧ (g s 2#5).getLsbD 0 = true ∧ (g s 3#5).getLsbD 0 = false ∧
    up.getF .MOD_STAT_ENST 0 ≠ 1 ∧ Performs (.send 0 0#4 1#5 2#5) 0 0#4 s ∧ (task (fun e => { e with committed := true })).ce[0].committed = true := by decide

/-- A peg operand above 255. -/
theorem test_met_peg_operand : let s := eng 256#32 0#32 0#32
    255 < ((s.ce[0]).readG 1#5).toNat ∧ Performs (.pegq 0 0#4 3#5 1#5) 0 0#4 s := by decide

/-- A COMMIT in the FAB cycle that reaches the deadline, and one in the cycle before. -/
theorem test_met_commit_late : let s := fun (o : Nat) => { fields (task (fun e => { e with deadline := 1 })) [(.ATU_STAT_ENST, 0, 1)] with
      atu := { acc := 32 * 65536 - o * 35184372 } }
    ((s 1).ce[0]).committed = false ∧ (s 1).dlReaches 0 = (s 1).dlReaches 0 ∧ (s 0).dlReaches 0 = true ∧
    Performs (.commit 0 0#4 3#5) 0 0#4 (s 1) := by decide

/-- The entry that TASKA of engine 0 names in row 0 holds `w`, and `f` is done to the device. -/
def starting (w : Nat) (f : State → State) : State :=
  let s := (((fields up [(.ATU_STAT_ENST, 0, 1), (.CE_STAT_ENST, 0, 1)]).setBytes (fretRowAddr 0 0) 0x81000000 4).setBytes (ceEntry 0 0 + 4) w 4)
  f { s with fretd := { row := some (0, 0) } }

/-- An entry that is not valid, one with a misaligned and one with a too high address, an uncorrectable and a corrected one, and a stage below S3. -/
theorem test_met_bad_entries : let at_ := fun (s : State) => ceEntry 0 (s.getF .CE_STAT_ACTBANK 0) + 4 * (s.rowWord 0 0 0 / 2 ^ 24 % 16)
    let w := fun (s : State) => (s.word (at_ s)).toNat
    w (starting 0x100 id) < 2 ^ 31 ∧ (2 ^ 31 ≤ w (starting 0x80000002 id) ∧ w (starting 0x80000002 id) % 4 ≠ 0) ∧
    (2 ^ 31 ≤ w (starting 0x80006000 id) ∧ 0x6000 ≤ w (starting 0x80006000 id) % 65536) ∧
    (let u := starting 0x80000000 (fun s => { s with eccSoft := [at_ s] }); u.softWord (at_ u) = true ∧ u.badWord (at_ u) = false) ∧
    (starting 0x80000000 id).tasksRun = true ∧ (starting 0x80000000 (fun s => s.setF .PMC_STAGE_STAGE 0 2)).tasksRun = false := by decide

/-- A committed task of engine 0 at its deadline, with arm 0 of `n` levels released and ON, and arm 1 not released. -/
def closing (n : Nat) (l : List (Fld × Nat × Nat)) : State :=
  { fields (task (fun e => { e with committed := true })) ([(.ATU_STAT_ENST, 0, 1), (.MOD_STAT_ENST, 0, 1), (.ARM_STAT_ENST, 0, 1), (.ARM_CFG_NCELL, 0, n)] ++ l) with
      fretd := { started := 1#24 }, arms := up.arms.set 0 { up.arms[0] with released := some 0#32 } }

/-- Arms that convert, whose configuration is bad, that stay in the MUTE state, and that were not released. -/
theorem test_met_closing : let s := closing 1 []
    (s.atuRuns = true ∧ s.fretd.started.getLsbD 0 = true ∧ (s.ce[0]).sfret = BitVec.ofNat 32 s.fretnum ∧ (s.ce[0]).dlDone = false ∧
      s.offReached (s.ce[0]).deadline = true ∧ (s.ce[0]).committed = true) ∧
    (s.getF .ARM_CFG_OWNER 0 = 0 ∧ (s.arms[0]).released = some (BitVec.ofNat 32 s.fretnum) ∧ s.getF .MOD_STAT_ENST 0 = 1 ∧ s.getF .ARM_STAT_ENST 0 = 1) ∧
    (s.armBad 0 = false ∧ s.mstate = false) ∧ (closing 0 []).armBad 0 = true ∧ (closing 1 [(.TRIP_STAT_MSTATE, 0, 1)]).mstate = true ∧ (s.arms[1]).released = none := by decide

/-- The grant that a halt, a resume and the cores' halt need, the fabric's clock, and where they are missing. -/
theorem test_met_debug_grants : let d := (up.setF .SEC_LIFE_STATE 0 0)
    (d.debugLevel.testBit 0 = true ∧ d.debugLevel.testBit 1 = true ∧ d.coresRun = true ∧ d.fabRuns = true ∧ d.fabBus = true) ∧ d.ceLive 23 = true ∧
    State.reset.fabRuns = false ∧ up.halted 0 = false ∧ ({ up with gated := 1#4 } : State).fabRuns = false ∧
    ({ up with sec := { deployed := true } } : State).debugLevel.testBit 0 = false ∧ ({ up with variant := .ag9624 } : State).ceLive 23 = false := by decide

/-- Minimal Mode, in which an image and an activation are not taken. -/
theorem test_met_minimal : let m := up.setF .PMC_STAGE_MINIMAL 0 1
    m.bit .PMC_STAGE_MINIMAL 0 = true ∧ up.bit .PMC_STAGE_MINIMAL 0 = false ∧ m.fabBus = true ∧ m.ceLive 0 = true := by decide

/-- A grant that a cut at HOLD ends, and a core's read of a peg that cannot be read. -/
theorem test_met_cut : ({ up with arb := { grant := some (9, 256) } } : State).arb.grant = some (9, 256) ∧ up.fabRuns = true ∧ up.busRuns = true ∧ up.coresRun = true ∧
    ({ up with eccBad := [pegAddr 0] } : State).badWord (pegAddr 0) = true ∧ (0x800#12 : BitVec 12).toNat = 0x800 := by decide

/-! The worked results of the spec: registers, links and modulation. -/

/-- The example under R492: five registers and their addresses, and an address that no region holds. -/
theorem test_register_addresses : findReg 0x400B08A8 = some (.PW_TRIP, 17) ∧ findReg 0x400601C0 = some (.ARM_CFG, 3) ∧
    findReg 0x400C053C = some (.AD_LWPTR, 5 * 4 + 2) ∧ findReg 0x4008E40C = some (.CL_DELAY, 57) ∧ findReg 0x213F0040 = some (.CE_XCAUSE, 19) ∧
    placeOf 0x40070010 = .none := by decide

/-- The device of stage S1. -/
def live : State := up.setF .PMC_STAGE_STAGE 0 1

/-- On an AG9648, CL57 and CE19 are absent, and SYS_CAP0 and SYS_CAP1 read as in Table 0-7. -/
theorem test_absent_units : let s : State := { live with variant := .ag9648 }
    (after (.readClear (.sup 0) 0x4008E40C#40) s).resp = ⟨0#32, [], false⟩ ∧ (after (.regWrite (.sup 0) 0x213F0040#40 0xFFFFFFFF#32) s).regs = s.regs ∧
    (after (.readClear (.sup 0) 0x40000010#40) s).resp.data = 0xFFF#32 ∧ (after (.readClear (.sup 0) 0x40000014#40) s).resp.data = 0xFFFF#32 := by decide

/-- R222: the CRC of the ASCII string "123456789". -/
theorem test_crc : crc32c [0x31#8, 0x32#8, 0x33#8, 0x34#8, 0x35#8, 0x36#8, 0x37#8, 0x38#8, 0x39#8] = 0xE3069283 := by decide

/-- The close of the example under R192: 32 cells in NLM at 50.000 Hz, a deficit of 65,536, and position 12 at rank 15, position 7 at rank 20. -/
def arm0 : Conv :=
  { fret := 0#32, refs := 0x51D00000, refe := 0x53D00000, mode := 2, cph := 0, d := 2097152, freq := 35184372, f := 2097152, a0 := 0,
    absStart := 2097152, minau := 107375, k := 9, tcb := 0, cinc := 0, ncell := 32, mask := 0,
    order := [0, 1, 2, 3, 4, 5, 6, 8, 9, 10, 11, 13, 14, 15, 16, 12, 17, 18, 19, 20, 7] ++ (List.range 11).map (· + 21), lanes := [] }

/-- L is 20 at the start of the fret, and 21 from 65,536 au on; the reference is 1,374,683,136 + 16 x; MINAU is 107,375. -/
theorem test_nlm_example : arm0.ref 0 = 1374683136 ∧ arm0.ref 65536 = 1375731712 ∧ arm0.nlm 0 = 20 ∧ arm0.nlm 65535 = 20 ∧ arm0.nlm 65536 = 21 ∧
    arm0.nlm 2097151 = 21 ∧ (500 * 35184372 + 163839) / 163840 = 107375 := by decide

/-- R141's example: one offset unit is 32 au, and offset 0x0400 is reached in the 62nd FAB cycle of the fret. -/
theorem test_offset_example : up.unitAu = 32 ∧ (up.raiseAngle 0x400).tick = 62 := by decide

/-! The claims' hypotheses: registers, units and locks. -/

/-- A plain register, one with W1C bits and a locked RWL one, a register without a live unit, and a free offset. -/
theorem test_met_register_writes : let s := live
    (∀ k : Fin 4, ∀ a ∈ [0x40100008, 0x20BF0018, 0x40000004], s.canAccess (.sup k) a = true) ∧ s.inS4 = false ∧ s.regLive .PW_CMPA 23 = true ∧
    (s.setF .PMC_STAGE_STAGE 0 4).inS4 = true ∧ (placeOf 0x40100008 = .reg ∧ findReg 0x40100008 = some (.HP_MAXLEN, 0) ∧ s.regLive .HP_MAXLEN 0 = true ∧ Reg.HP_MAXLEN ∈ plainRw) ∧
    (findReg 0x20BF0018 = some (.CE_CSTAT, 11) → placeOf 0x20BF0018 = .ceReg) ∧ s.regLive .ADC_STAT 0 = true ∧
    (s.regLive .CLG_EPOCH 0 = true ∧ blockLock Reg.CLG_EPOCH.spec.base = some (.CLG_CTRL_LOCK, some .CLG_STAT_LKERR) ∧ s.bit .CLG_CTRL_LOCK 0 = false ∧
      (s.setF .CLG_CTRL_LOCK 0 1).bit .CLG_CTRL_LOCK 0 = true) ∧
    ({ s with variant := .ag9624 } : State).regLive .CL_CFG 24 = false ∧ findReg 0x40000004 = none ∧ laneOff 0x40000004 = none := by decide

/-- A read-clear counter of a live unit, and a core that reaches it. -/
theorem test_met_read_clears : (0x4003FFFC % 4 = 0) ∧ live.regLive .ARB_VIOLCNT 0 = true ∧ Reg.ARB_VIOLCNT ∈ plainRc ∧
    (∃ a, a % 4 = 0 ∧ placeOf a = .reg ∧ findReg a = some (.ARB_VIOLCNT, 0) ∧ live.canAccess (.sup 3) a = true) :=
  ⟨by decide, by decide, by decide, Reg.ARB_VIOLCNT.spec.base, by decide, by decide, by decide, by decide⟩

/-- The ends of the SSM and of the MRAM, an error of each kind, and a record that is held. -/
theorem test_met_memories : let s := fields live [(.SYS_BUSERR_VALID, 0, 1)]
    (∀ a ∈ [0x10000000, 0x107FEFFC, mram, mram + 0x1FFFFFC, 0x40070010], s.canAccess (.sup 0) a = true) ∧ s.ringFixed 0x10700000 = true ∧
    s.ringFixed 0x107FEFFC = false ∧ live.canAccess .dma 0x40070010 = true ∧ (0x10000000 ≤ 0x107FEFFC ∧ 0x107FEFFC < 0x107FF000 ∧ 0x107FEFFC % 4 = 0) ∧ (mram ≤ mram + 0x1FFFFFC ∧ mram + 0x1FFFFFC < mram + 0x2000000) ∧
    s.powered domProt = true ∧ s.badWord 0x10000000 = false ∧ s.softWord 0x10000000 = false ∧
    ({ s with eccSoft := [0x10000000] } : State).softWord 0x10000000 = true ∧ ({ s with eccBad := [0x10000000] } : State).badWord 0x10000000 = true ∧
    s.bit .SYS_BUSERR_VALID 0 = true ∧ placeOf 0x40070010 = .none ∧ up.bit .SYS_BUSERR_VALID 0 = false := by decide

/-- A copy of one byte from the MRAM to the last byte of the SSM, one into an engine's data RAM, and ones that read an uncorrectable word, a register and a hole. -/
theorem test_met_dma : let s : State := { live with dmaEnst := 1 }
    let b : State := { s with eccBad := [0x10000000] }
    s.dmaEnst ≠ 0 ∧ s.coresRun = true ∧ s.sysRuns = true ∧ s.powered 3 = true ∧ (placeOf (ceData 0) = .ceMem 0 0x80000 ∧ s.unitLive (.ce 0) = true) ∧
    (placeOf 0x40100008 = .reg ∧ s.absentAt 0x40100008 = false) ∧ placeOf 0x40070010 = .none ∧ placeOf (mram + 0) = .mram ∧ (∀ k < 1, (0x10000000 ≤ 0x107FEFFF + k ∧ 0x107FEFFF + k < 0x107FF000) ∧ (mram ≤ mram + k ∧ mram + k < mram + 0x2000000)) ∧
    (∀ k < 1, s.badWord (mram + k) = false ∧ s.badWord (0x107FEFFF + k) = false) ∧ (∃ k < 1, b.badWord (0x10000000 + k) = true) := by decide

/-- The locks outside S4 and in S4. -/
theorem test_met_locks : up.lockLive .mod = true ∧ up.inS4 = false ∧
    (up.setF .PMC_STAGE_STAGE 0 4).inS4 = true := by decide

/-- Units that are OFF, ON, busy and DRAINING. -/
theorem test_met_unit_enables : let s := fields up [(.MOD_CTRL_EN, 0, 1), (.CE_CTRL_EN, 0, 1), (.FRET_CTRL_EN, 0, 1), (.FRET_STAT_ENST, 0, 1),
      (.ATU_STAT_ENST, 0, 1)]
    let u := { s.setF .CE_STAT_RUNNING 0 1 with gated := 0#4, fretd := { row := some (0, 0) }, ce := Vector.replicate 24 { deadline := 1 } }
    (∀ x ∈ [UnitId.mod, .ce 0, .ad 0, .aux 0, .dma, .fret, .hp 0, .jnl], s.unitLive x = true) ∧ up.enBit .mod = false ∧ s.enBit .mod = true ∧
    s.sysRuns = true ∧ s.inS4 = false ∧ (s.setF .PMC_STAGE_STAGE 0 4).inS4 = true ∧ up.enBit (.ce 0) = false ∧ up.enBit (.aux 0) = false ∧
    s.hpUp 0 = false ∧ up.enBit .dma = false ∧ s.enBit .fret = true ∧ s.enBit (.ce 0) = true ∧ s.running 0 = false ∧ (u.running 0 = true ∧ (u.ce[0]).committed = false ∧ u.dlPassed 0 = false) ∧
    up.enBit (.ad 0) = false ∧ up.dmaEnst ≠ 1 ∧ (u.getF .FRET_STAT_ENST 0 = 1 ∧ u.fretd.row.isSome = true ∧ u.atuRuns = true) ∧
    ((u.setF .FRET_STAT_ENST 0 2).getF .FRET_STAT_ENST 0 = 2 ∧ u.rowDone = true ∧ u.bit .FRET_STAT_SWAPPEND 0 = false) ∧
    (s.setF .HP_STAT_ENST 0 2).getF .HP_STAT_ENST 0 = 2 ∧ (s.setF .JNL_STAT_ENST 0 2).getF .JNL_STAT_ENST 0 = 2 ∧ s.jnl.waiting = [] := by decide

/-! The claims' hypotheses: the angle timebase, the dispatcher and the modulation unit. -/

/-- A boundary of a running ATU, with and without the dispatcher, and its enable and disable. -/
theorem test_met_timebase : let s := { fields up [(.ATU_STAT_ENST, 0, 1), (.FRET_STAT_ENST, 0, 1)] with gated := 0#4 }
    s.atuRuns = true ∧ s.src = 2 ∧ s.atu.handover = none ∧ s.atu.autoWord = none ∧ s.twin.follow = false ∧ 0 < s.getF .ATU_FREQ_FREQ 0 ∧
    (up.atuOn = false ∧ ({ up with gated := 0#4 } : State).fabRuns = true) ∧ s.inS4 = false ∧ s.bit .ATU_STAT_FPCPEND 0 = false ∧
    s.bit .FRET_STAT_SWAPPEND 0 = false ∧ s.bit .CLG_STAT_SWAPPEND 0 = false ∧ s.bit .CE_ACTSTAT_PEND 0 = false ∧ s.getF .FRET_STAT_ENST 0 ≠ 2 ∧
    s.bit .PMC_STAGE_MINIMAL 0 = false ∧ (s.setF .PMC_STAGE_MINIMAL 0 1).bit .PMC_STAGE_MINIMAL 0 = true ∧ State.reset.fabRuns = false ∧
    (s.setF .PMC_STAGE_STAGE 0 4).inS4 = true ∧ up.getF .FRET_STAT_ENST 0 ≠ 1 := by decide

/-- FPCSEL in effect and another, a lost source, one in holdover that is usable, and a slew. -/
theorem test_met_sources : let s := fields up [(.ATU_STAT_ENST, 0, 1), (.ATU_STAT_SRC, 0, 0), (.ATU_STAT_SLEWING, 0, 1)]
    s.getF .ATU_CFG_FPCSEL 0 = 2 ∧ s.atuOn = true ∧ s.src ≠ 2 ∧ s.holdover = false ∧ (s.setF .ATU_STAT_HOLDOVER 0 1).holdover = true ∧
    (fields s [(.ATU_ADCSEL_SINGLE, 0, 1)]).srcUnusable 0 = false ∧ s.bit .ATU_STAT_SLEWING 0 = true ∧ s.getF .ATU_FREQ_FREQ 0 < 2 ^ 32 ∧
    (s.bit .ATU_STAT_FPCPEND 0 = false ∧ (2 : Nat) ≠ (3#2).toNat ∧ s.inS4 = false ∧ (s.setF .PMC_STAGE_STAGE 0 4).inS4 = true ∧ up.atuOn = false) ∧
    (s.src = 0 ∧ s.holdover = false) := by decide

/-- A source that is lost: no SV samples for MISSMAX times, a low amplitude for one period; and none lost, in holdover with a usable source. -/
theorem test_met_source_loss : let s := fields up [(.ATU_STAT_ENST, 0, 1), (.ATU_STAT_SRC, 0, 1)]
    let m : State := { s with svFeed := { miss := 255 } }
    let a : State := { s.setF .ATU_STAT_SRC 0 0 with atu := { lowFrom := some 0, absStart := 2 ^ 32 } }
    let h := fields up [(.ATU_STAT_ENST, 0, 1), (.ATU_STAT_SRC, 0, 0), (.ATU_ADCSEL_SINGLE, 0, 1), (.ATU_STAT_HOLDOVER, 0, 1)]
    (m.src = 1 ∧ max 1 (m.getF .ATU_CFG_MISSMAX 0) ≤ m.svFeed.miss ∧ m.atuOn = true ∧ m.holdover = false ∧ m.lossDue = true) ∧
    (a.src = 0 ∧ a.atu.lowFrom = some 0 ∧ 0 + 2 ^ 32 ≤ a.atu.absStart ∧ a.lossDue = true) ∧
    (h.atuOn = true ∧ h.src ≠ 2 ∧ h.holdover = true ∧ h.lossDue = false) ∧ (up.lossDue = false ∧ up.src = 2) := by decide

/-- The first and last word of each table copy, a pending swap, and a validation that passes and one that fails with either code. -/
theorem test_met_fret_swaps : let s := fields up [(.FRET_STAT_VALIDATING, 0, 1)]
    let bad := (s.setBytes (fretRowAddr 1 0) 0x80000000 4)
    let absent : State := { s with variant := .ag9624 }
    0xBFFC / 0x4000 - 2 = 0 ∧ 0xFFFC / 0x4000 - 2 = 1 ∧ s.getF .FRET_STAT_ACTIVE 0 = 0 ∧ s.fretBusy = true ∧ up.fretBusy = false ∧
    s.fretCode = 0 ∧ s.fretOn = false ∧ bad.fretCode = 1 ∧ 2 ^ 31 ≤ bad.rowWord 1 0 0 ∧ 0 < bad.plen 1 ∧
    (absent.setBytes (fretRowAddr 1 0 + 8 * 23) 0x80000000 4).fretCode = 2 := by decide

/-- A conversion with one member lane, in S4 and outside; a queued sort and one in the network. -/
theorem test_met_modulation : let c := { arm0 with lanes := [(95, 0#32, 0#32)] }
    let s := up.modArm 5 (fun x => { x with conv := some c })
    let r : SortReq := { tag := 1, asc := true, ncell := 32, keys := [(0, 3), (2, 1), (1, 0), (0, 2)] }
    let q : State := { up with gated := 0#4 }
    q.fabRuns = true ∧ (¬∃ b : Fin 6, ((s.arms[b]).conv.isSome = true ∧ b ≠ 5) ∨ (s.arms[b]).running.isSome = true) ∧
    (∃ b : Fin 6, (((s.modArm 0 (fun x => { x with conv := some c })).arms[b]).conv.isSome = true ∧ b ≠ 5)) ∧
    (q.setF .MOD_STAT_ENST 0 1).getF .MOD_STAT_ENST 0 = 1 ∧ ((s.modArm 0 (fun x => { x with running := some r })).arms[0]).running = some r ∧
    (s.arms[5]).conv = some c ∧ (c.lanes.map Prod.fst).Nodup ∧ (∀ m ∈ c.lanes, m.1 < 96) ∧ s.commanding = true ∧ c.nIn * c.f < 2 ^ 31 ∧
    ((up.modArm 0 (fun x => { x with queued := some r })).arms[0]).queued = some r ∧ (up.arms[0]).running = none ∧
    (∀ k ∈ r.keys, k.1 ≤ 2) ∧ r.rank = [3, 0, 2, 1] ∧ r.nvalid = 2 := by decide

/-! The claims' hypotheses: lanes, the mirror link and the cell links. -/

/-- Lane 95 in LSTATE `v`, enabled, with its clocks and `f` applied to it. -/
def lane (v : Nat) (f : LaneSt → LaneSt) : State :=
  { (fields up [(.CL_PHYSTAT_LSTATE, 95, v), (.CL_STAT_ENST, 95, 1), (.ATU_STAT_ENST, 0, 1)]).modLane 95 f with gated := 0#4, quadFeed := true }

/-- The last good set of state 1 and of state 2, the third and fourth inverted sets with RXPOLAUTO. -/
theorem test_met_training : let s := lane 1 (fun l => { l with good := 7, inverted := 3 })
    let u := lane 2 (fun l => { l with tbGood := 7, tbSent := true })
    s.quadFeed = true ∧ s.lstate 95 = 1 ∧ (s.lanes[95]).good = 7 ∧ (s.lanes[95]).inverted = 3 ∧ s.bit .CL_PHYCTRL_RXPOLAUTO 95 = true ∧
    s.bit .CL_PHYSTAT_RXINVST 95 = false ∧ u.lstate 95 = 2 ∧ 8 ≤ (u.lanes[95]).tbGood + 1 ∧ (u.lanes[95]).tbSent = true ∧
    ((lane 2 (fun l => { l with tbGood := 8 })).lanes[95]).tbGood = 8 ∧ setKind [.d 1 0] = none ∧
    ((lane 3 (fun l => { l with good := 1 })).lanes[95]).good ≠ 0 ∧ ((lane 3 id).lanes[95]).good = 0 := by decide

/-- The states that training, losses, rate changes and idle are about. -/
theorem test_met_lane_states : (∀ v ∈ [0, 1, 2, 3, 4, 5, 6, 7], (lane v id).lstate 95 = v) ∧ (lane 3 id).laneOk 95 = true ∧ (lane 3 id).inS4 = false ∧
    ((lane 3 id).setF .PMC_STAGE_STAGE 0 4).inS4 = true ∧ (lane 3 id).bit .CL_PHYCTRL_RATE 95 = false ∧
    (((lane 4 (fun l => { l with exitDue := true })).lanes[95]).exitDue = true ∧ ((lane 4 id).lanes[95]).exitDue = false) ∧
    (let s := lane 5 id; s.bit .CL_PHYCTRL_FXEN 95 = true ∧ s.tick - (s.lanes[95]).idleAt ≤ s.getF .CL_PHYCTRL_IDLEMAX 95 * 4000 ∧
      ¬ ((s.setF .CL_PHYCTRL_FXEN 95 0).bit .CL_PHYCTRL_FXEN 95 = true)) := by decide

/-- PRE + POST of 32 and 33, a reserved pattern, and on each kind of SerDes a checker about to lock, one that counts and one about to lose its lock, a
generator of either kind and the far-end loopback. -/
theorem test_met_serdes : (∀ x ∈ [Serdes.lane 95, .mirror 3, .host 3], up.serdesOk x = true) ∧ ((1 * 8 + 31 * 128) / 8 % 16 + (1 * 8 + 31 * 128) / 128 % 32 = 32 ∧ (2 * 8 + 31 * 128) / 8 % 16 + (2 * 8 + 31 * 128) / 128 % 32 = 33) ∧
    4 < 5 % 16 ∧ ¬(4 < 4 % 16) ∧
    (∀ x ∈ [Serdes.lane 95, .mirror 3, .host 3], let f := serdesFlds x
     let at' := fun (p : PatSt) => up.modPat x (fun _ => p)
     let s := (at' { got := 7, run := 63, hist := 2 ^ 6 }).setF f.chken f.i 1
     let t := (at' { wrong := List.replicate 31 true }).setF f.chken f.i 1 |>.setF f.lock f.i 1
     let g := up.setF f.genen f.i 1
     (s.bit f.genen f.i = false ∧ s.getF f.loop f.i = 0) ∧ (s.bit f.chken f.i = true ∧ s.bit f.lock f.i = false ∧ s.getF f.chksel f.i < 4 ∧
       (prbsTaps (s.getF f.chksel f.i)).1 ≤ (s.pat x).got ∧ 63 ≤ (s.pat x).run) ∧
     (t.bit f.chken f.i = true ∧ t.bit f.lock f.i = true ∧ ((((true != false) :: (t.pat x).wrong).take 128).filter id).length = 32) ∧
     (g.bit f.genen f.i = true ∧ g.bit f.chken f.i = false ∧ g.getF f.loop f.i ≠ 2 ∧ g.getF f.gensel f.i < 4 ∧ (g.setF f.gensel f.i 4).getF f.gensel f.i = 4) ∧
     (up.setF f.loop f.i 2).getF f.loop f.i = 2 ∧ (s.getF f.pre f.i + s.getF f.post f.i ≤ 32)) ∧
    ((up.setF .PMC_STAGE_STAGE 0 4).inS4 = true ∧ (2 ^ 10 / 2 ^ 10 % 2 = 1) ∧ 3 * 2 ^ 14 / 2 ^ 14 % 4 = 3) := by decide

/-- Three mirror lanes with their sixteen blocks and the fourth with fifteen; an ordered group, and one that is UP. -/
theorem test_met_mirror_link : let s := { fields up [(.ML_PHYSTAT_LSTATE, 0, 1), (.ML_PHYSTAT_LSTATE, 3, 1)] with
      ml := #v[{ locked := true, good := 16, num := 0 }, { locked := true, good := 16, num := 1 }, { locked := true, good := 16, num := 2 },
               { locked := true, good := 15, num := 3, inverted := 15 }] }
    s.getF .ML_PHYSTAT_LSTATE 3 = 1 ∧ s.mlOrdered = false ∧ (s.ml[3]).locked = true ∧ (s.ml[3]).good + 1 = 16 ∧ (s.ml[3]).num = 3 ∧
    (∀ k : Fin 4, k ≠ 3 → 16 ≤ (s.ml[k]).good ∧ (s.ml[k]).num = k.val) ∧ s.bit .ML_PHYSTAT_RXINVST 3 = false ∧
    s.mirUp = false ∧ s.getF .ML_PHYSTAT_LSTATE 0 = 1 ∧ (s.setF .MIR_STAT_MIRUP 0 1).mirUp = true ∧ ({ s with mlOrdered := true } : State).mlOrdered = true ∧
    (∀ k : Fin 4, k ≠ 3 → (fields s [(.ML_PHYSTAT_LSTATE, 1, 1), (.ML_PHYSTAT_LSTATE, 2, 1)]).getF .ML_PHYSTAT_LSTATE k = 1) ∧
    s.bit .ML_PHYCTRL_RXPOLAUTO 3 = true ∧ (s.setF .ML_PHYCTRL_RXPOLAUTO 3 0).bit .ML_PHYCTRL_RXPOLAUTO 3 = false := by decide

/-- A mirror lane in UP with no invalid header before, with three within the last 256 blocks, and with three of which the oldest is older. -/
theorem test_met_mirror_errors : let s := fun (l : List Nat) => { fields up [(.ML_PHYSTAT_LSTATE, 2, 3)] with
      tick := 1000, ml := up.ml.set 2 { errAt := l } }
    (s []).getF .ML_PHYSTAT_LSTATE 2 = 3 ∧ ((s []).ml[2]).errAt.length ≤ 3 ∧ (3 ≤ ((s [999, 998, 400]).ml[2]).errAt.length ∧
      ∀ a ∈ ((s [999, 998, 400]).ml[2]).errAt.take 3, (1000 - a) * 100 ≤ 255 * 256) ∧
    (((s [999, 998, 347]).ml[2]).errAt = [999, 998, 347] ∧ 255 * 256 < (1000 - 347) * 100) := by decide

/-- A lane that launches: muted, in a burst, with a CLEAR, and with its delay request due. -/
theorem test_met_launches : let s := lane 3 (fun l => { l with burst := some ⟨0, burstReasons 1⟩, clrPend := true, heldTb := true })
    let u := lane 3 id
    s.serving 95 = true ∧ s.atuRuns = true ∧ (s.setF .CL_STAT_MUTED 95 1).bit .CL_STAT_MUTED 95 = true ∧ (s.lanes[95]).burst.isSome = true ∧
    (s.lanes[95]).clrPend = true ∧ (u.lanes[95]).burst = none ∧ (u.lanes[95]).clrPend = false ∧ u.bit .CL_STAT_MUTED 95 = false ∧
    u.bit .CL_CTRL_DLYEN 95 = true ∧ u.fretnum % 2 ^ u.getF .CL_CTRL_DLYPER 95 = 0 ∧ (s.lanes[95]).heldTb = true ∧ (s.lanes[95]).heldDly = false ∧
    (u.lanes[95]).heldTb = false := by decide

/-- A released COMMAND of a lane in no arm, one not released, and a resend that is due, with an ACK and without. -/
theorem test_met_commands : let s := lane 3 (fun l => { l with released := some 0#32, cmdFret := some 0#32, retryOff := 0xC000 })
    let k := s.modLane 95 (fun l => { l with ack := some (0, 0, 0) })
    s.laneOn 95 = true ∧ s.atuRuns = true ∧ s.ownerOk 95 = true ∧ s.serving 95 = true ∧ ((lane 1 id).laneOn 95 = true ∧ (lane 1 id).serving 95 = false) ∧
    (s.setF .CL_CFG_OWNER 95 24).ownerOk 95 = false ∧ s.bit .CL_STAT_MUTED 95 = false ∧ s.commanding = true ∧ s.mstate = false ∧
    (let p := (s.setF .ARM_STAT_ENST 0 1).modArm 0 (fun x => { x with conv := some arm0 }); (p.arms[0]).conv.isSome = true) ∧
    (s.lanes[95]).released = some (BitVec.ofNat 32 s.fretnum) ∧ (atOffset s (s.slot 95 2)).commandEdges 95 = some [] ∧
    (atOffset k 0xC000).ackInTime 95 0xC000 ≠ some 1 ∧ (up.lanes[0]).ack.map Prod.fst ≠ some 0 ∧
    ((lane 3 id).lanes[95]).released ≠ some (BitVec.ofNat 32 s.fretnum) ∧ (s.lanes[95]).cmdFret = some (BitVec.ofNat 32 s.fretnum) ∧
    (let q := atOffset s 0xC000; q.ackInTime 95 0xC000 = none ∧ q.retryLate 95 0xC000 = false ∧ (atOffset k 0xC000).ackInTime 95 0xC000 = some 0) ∧
    s.bit .CL_CTRL_RETRYEN 95 = true ∧ (s.setF .CL_CTRL_RETRYEN 95 0).bit .CL_CTRL_RETRYEN 95 = false ∧
    (s.setF .MIR_STAT_ROLE 0 2).commanding = false := by decide

/-- A frame of the type `ty` from lane 95's cell. -/
def rxOf (ty fret : Nat) : RxFrame := { bytes := mkFrame ty 0 fret 0xFFFF [], kchar := false, errs := 0 }

/-- A good frame is received. -/
theorem test_met_good_frame : let s := lane 3 id
    let f := rxOf 4 0
    s.lstate 95 = 3 ∧ f.kchar = false ∧ f.errs = 0 ∧ f.bytes.length = 63 ∧ crc32c (f.bytes.take 59) = frameField f.bytes 60 4 ∧
    frameField f.bytes 1 1 = 4 ∧ frameField f.bytes 8 2 = s.getF .CL_CFG_CELLID 95 ∧ serialLater s.fretnum (frameField f.bytes 4 4) = false := by decide

/-- A late telemetry, an error, the eighth delay response, and a missing one. -/
theorem test_met_receives : let s := { lane 3 (fun l => { l with dlyWait := true, dlyAcc := [0, 0, 0, 0, 0, 0, 0] }) with fretd := {} }
    serialLater 1 (frameField (rxOf 4 0).bytes 4 4) = true ∧ ({ rxOf 4 0 with kchar := true } : RxFrame).kchar = true ∧ (s.lanes[95]).dlyWait = true ∧
    frameField (rxOf 7 0).bytes 11 1 = (s.lanes[95]).dseq.toNat ∧ s.offReached (s.slot 95 3) = false ∧ s.bit .CL_DELAY_VALID 95 = false ∧
    7 ≤ (s.lanes[95]).dlyAcc.length ∧ ((lane 3 id).lanes[95]).dlyAcc.length < 7 ∧ s.atuRuns = true := by decide

/-- Bulk entries busy and free in both directions. -/
theorem test_met_bulk : let s := fields (lane 3 (fun l => { l with bulkQ := [3] })) [(.CL_BSTAT_TXBUSY, 95, 8), (.CL_BSTAT_RXVALID, 95, 7)]
    s.gapOk 95 = true ∧ (atOffset s (s.slot 95 2 - 100)).gapOk 95 = false ∧ s.laneOk 95 = true ∧ s.testF .CL_BSTAT_TXBUSY 95 3 = true ∧ s.testF .CL_BSTAT_TXBUSY 95 0 = false ∧ s.testF .CL_BSTAT_RXVALID 95 3 = false ∧
    (∀ k : Fin 4, k < 3 → s.testF .CL_BSTAT_RXVALID 95 k = true) ∧ (s.lanes[95]).bulkQ = [3] ∧ s.serving 95 = true ∧ s.txBusy 95 = false ∧
    s.getF .CL_BSTAT_TXBUSY 95 < 16 ∧ (∀ k : Fin 4, (s.setF .CL_BSTAT_RXVALID 95 15).testF .CL_BSTAT_RXVALID 95 k = true) := by decide

/-- Slot-table writes into each copy, a swap that fails, waits and acts, and a CLEAR that is taken and refused. -/
theorem test_met_slots : let s := fields (lane 3 id) [(.CLG_STAT_VALIDATING, 0, 1), (.CLG_SWAPMASK_MASK, 2, 2 ^ 31), (.CLG_CLRMASK_MASK, 2, 2 ^ 31)]
    0x3C / 64 = 0 ∧ 0x7C / 64 = 1 ∧ s.getF .CL_STAT_ACTIVE 95 = 0 ∧ s.clgBusy = true ∧ s.swapMasked 95 = true ∧ (lane 3 id).clgBusy = false ∧
    (s.clgCode = 0 ∧ s.atuOn = true ∧ (s.setF .ATU_STAT_ENST 0 0).atuOn = false) ∧ ({ s with variant := .ag9648 } : State).clgCode = 2 ∧
    s.bit .CLG_CTRL_CLRGO 0 = false ∧ s.mstate = false ∧ s.commanding = true ∧ (∀ k : Fin 96, s.clrMasked k = true → s.laneOk k = true) ∧
    s.clrMasked 95 = true ∧ s.laneUp 95 = true ∧ (s.setF .TRIP_STAT_MSTATE 0 1).mstate = true := by decide

/-- Registers of one access code: RO and RC alone, W1S and WO, with and without a live engine, and a register that clears nothing. -/
theorem test_met_other_codes : let s := live
    (∀ f ∈ Reg.SYS_CAP0.spec.flds, f.spec.acc = .ro ∨ f.spec.acc = .rc) ∧ s.regLive .SYS_CAP0 0 = true ∧ Reg.SYS_CAP0 ∉ specialReads ∧
    (∀ r ∈ [Reg.TRIP_CTRL, .PWM_CTRL, .ADC_CTRL, .TRIP_SUPREQ], s.regLive r 0 = true) ∧ s.regLive .TRIP_SWREQ 23 = true ∧
    (1#32).getLsbD 0 = true ∧ s.engOk 23 = true ∧ ({ s with variant := .ag9624 } : State).engOk 23 = false ∧
    (∀ f ∈ Reg.TRIP_SWREQ.spec.flds, f.spec.acc = .wo) ∧ (∀ f ∈ Reg.PW_PRD.spec.flds, f.spec.acc ≠ .rc) ∧ s.regLive .PW_PRD 0 = true ∧
    s.regLive .HP_PRP 0 = true ∧ (0 : Nat) % 2 = 0 := by decide

/-- The ring's words that keep their values, both sides of the journal region, and an uncorrectable word with no record held. -/
theorem test_met_regions : let s : State := { live with eccBad := [0x10000000] }
    s.ringFixed 0x10700010 = true ∧ s.ringFixed 0x10700014 = false ∧ (mram ≤ mram + 0xFFFFFC ∧ mram + 0xFFFFFC < mram + 0x1000000) ∧
    (mram + 0x1000000 ≤ mram + 0x1000000 ∧ mram + 0x1000000 < mram + 0x2000000) ∧ s.bit .SYS_BUSERR_VALID 0 = false ∧ s.badWord 0x10000000 = true ∧
    s.canAccess (.sup 0) 0x10000000 = true ∧ s.canAccess (.sup 3) (mram + 0xFFFFFC) = true := by decide

/-- A byte at the end of the SSM, a halfword and a line, and a halfword that is not aligned. -/
theorem test_met_narrow : let s := live
    (0x10700040 ≤ 0x107FEFFF ∧ 0x107FEFFF + 1 ≤ 0x107FF000) ∧ (0x107FEFFE + 2 ≤ 0x107FF000 ∧ 0x107FEFFE % 2 = 0) ∧
    (0x10700040 % 64 = 0 ∧ 0x10700040 + 64 ≤ 0x107FF000) ∧ (0x10700041 % 2 = 1 ∧ 0x10700041 + 2 ≤ 0x107FF000) ∧
    (∀ a ∈ [0x107FEFFF, 0x107FEFFE, 0x10700040, 0x10700041], s.canAccess (.sup 0) a = true) ∧ s.powered domProt = true ∧
    (∀ j < 2, s.badWord (0x107FEFFE + j) = false) ∧ s.bit .SYS_BUSERR_VALID 0 = false ∧ ([0#8, 0#8] : List Byte).length = 2 := by decide

/-- A byte written and read back, and the error of a halfword that is not aligned (Table 5-3). -/
theorem test_narrow : let t := after (.unmappedAccess (.sup 0) 0x107FEFFF#40 (some [0xA5#8]) 1) live
    t.byte 0x107FEFFF = 0xA5#8 ∧ t.byte 0x107FEFFE = 0#8 ∧ (after (.unmappedAccess (.sup 0) 0x107FEFFF#40 none 1) t).resp = ⟨0xA5#32, [], false⟩ ∧
    (after (.unmappedAccess (.sup 0) 0x10700041#40 none 2) live).getF .SYS_BUSERR_CAUSE 0 = 2 := by decide

/-- A copy into the command ring's header, whose fixed words stay, and a whole word over one that cannot be read. -/
theorem test_met_dma_edges : let s : State := { live with dmaEnst := 2, eccBad := [0x10000000] }
    s.dmaEnst = 2 ∧ s.ringFixed 0x10700000 = true ∧ (s.badWord 0x10000000 = true ∧ 0x10000000 / 4 * 4 + 4 ≤ 0x10000000 + 4) := by decide

/-- The modulation unit with an arm that drains, a host port that drains with a frame in transmission and one that is down, and the FAB bus. -/
theorem test_met_drains : let s := fields up [(.HP_STAT_ENST, 0, 2), (.MOD_CTRL_EN, 0, 1), (.ARM_STAT_ENST, 0, 2)]
    s.fabBus = true ∧ s.hostRuns 0 = true ∧ s.hpUp 0 = false ∧ (s.hp[0]).last = none ∧ s.modBusy = false ∧
    (s.modArm 0 (fun x => { x with conv := some arm0 })).modBusy = true ∧ ({ up with gated := 1#4 } : State).fabRuns = false := by decide

/-- The bus of the PROT domain, SRCREQ = 0b11 with an ADC source, an SV stream that is silent and one that is not, and a device that follows its twin. -/
theorem test_met_source_edges : let s := fields up [(.ATU_STAT_ENST, 0, 1), (.ATU_STAT_SRC, 0, 0)]
    let v := s.setF .ATU_STAT_SRC 0 1
    s.protBus = true ∧ State.reset.protBus = false ∧ (s.src = 0 ∧ s.atuOn = true ∧ s.holdover = false) ∧ (v.src = 1 ∧ v.lossDue = false ∧ v.holdover = false ∧ v.atuRuns = true) ∧
    (let f : State := { s.setF .ATU_STAT_HOLDOVER 0 1 with twin := { follow := true } }; f.twin.follow = true ∧ f.holdover = true ∧ f.src ≠ 2) ∧
    (s.twin.follow = false ∧ (fields s [(.ATU_ADCSEL_SINGLE, 0, 1)]).lossDue = false) := by decide

/-- A lane that a burst or a frame keeps from its EIS, one that idles its receiver, the end of a training attempt, and the mirror group's. -/
theorem test_met_lane_edges : let s := lane 4 (fun l => { l with burst := some ⟨0, burstReasons 1⟩ })
    s.txBusy 95 = true ∧ (lane 4 id).txBusy 95 = false ∧ (lane 3 id).laneBus 95 = true ∧ (lane 3 id).rxLive 95 = true ∧
    (lane 4 (fun l => { l with rxIdle := true })).rxLive 95 = false ∧ (lane 1 id).laneRuns 95 = true ∧ ({ lane 1 id with quadFeed := false } : State).laneRuns 95 = false ∧
    (let m := fields up [(.ML_PHYSTAT_LSTATE, 2, 1)]; m.mirTrainEnd = some (max 1 (m.getF .ML_PHYCTRL_TRNTO 2) * 4000) ∧ m.mirRuns = true ∧ m.powered domMir = true ∧
      m.serdesRuns (.mirror 2) = true) ∧ (up.setF .MIR_CFG_PAIR 0 1).bit .MIR_CFG_PAIR 0 = true := by decide

/-! The worked results of the spec: trips, PWM and the regulator. -/

/-- R331's example: VID 0xA0 is taken and REF steps up by one; VID 0x77 is refused. -/
theorem test_vid_steps : let s := fields up [(.VREG_STAT_SSTATE, 0, 2), (.VREG_STAT_REF, 0, 0x96)]
    let t := after .vregRefStep (after (.vidWrite 0xA0#8) s)
    t.getF .VREG_STAT_REF 0 = 0x97 ∧ (after (.vidWrite 0x77#8) s).getF .VREG_VID_VID 0 = 0x96 ∧
    (after .vregRefStep (after (.vidWrite 0x8C#8) t)).getF .VREG_STAT_REF 0 = 0x96 := by decide

/-- CMP5 of the example under R280: a crossing 120 ns after the edge, inside the blanking window, leaves STATE NORMAL, the window ends at 500 ns, and the
second tick after it, at 560 ns, qualifies. -/
theorem test_blanking_example : let s := { fields live [(.CMP_STATUS_STATE, 5, 2), (.CMP_FILT_FILT, 5, 2), (.CMP_CTRL_HIEN, 5, 1),
      (.CMP_THRH_THR, 5, 512)] with tick := 48, cmps := up.cmps.set 5 { blank := true, blankEnd := 200, cntAt := 48 } }
    let t := after (.cmpCrossing 5 384000) s
    let u := after (.blankWindowEnd (.cmp 5)) t
    let q := after (.filterQualified (.cmp 5)) u
    ((t.cmps[5]).hi, (t.cmps[5]).gated, t.trState (.cmp 5)) = (true, false, 2) ∧ ((u.cmps[5]).gated, u.trState (.cmp 5)) = (true, 2) ∧
    (q.trState (.cmp 5), q.latched 5) = (3, true) ∧ (u.tick, q.tick) = (200, 224) := by decide

/-- PW3 of the example under R295: the trip turns both switches off and cancels the edge that is due. -/
theorem test_pwm_trip_example : let s := { fields up [(.PW_STAT_ENST, 3, 1), (.PW_TRIP_FGSEL, 3, 1), (.TRIP_ROUTE_FG, 9, 1), (.TRIP_LAT0_CMP, 0, 512)] with
      gated := 0#4, pairs := up.pairs.set 3 { started := true, live := true, x := true, planH := true, due := some (true, 64) } }
    let t := after (.pwmTrip 3) s
    s.pairLine 3 = true ∧ t.bit .PW_TRIP_TRIPPED 3 = true ∧ t.bit .PW_STAT_HON 3 = false ∧ t.bit .PW_STAT_LON 3 = false := by decide

/-! The claims' hypotheses: the trip fabric and the PWM. -/

/-- Inputs that are OFF, NORMAL and TRIP, a window that is open, and a gate on the trip side. -/
theorem test_met_trip_inputs : let s := { fields up [(.CMP_STATUS_STATE, 31, 2), (.TPIN_STATUS_STATE, 7, 1)] with
      cmps := up.cmps.set 31 { blank := true, gated := true } }
    s.trState (.cmp 31) = 2 ∧ s.trState (.cmp 0) = 0 ∧ s.trState (.pin 7) ≠ 0 ∧ (s.trIn (.cmp 31)).blank = true ∧ (s.trIn (.cmp 31)).gated = true ∧
    (let u := { s with cmps := s.cmps.set 31 { gated := true, hi := true } }
     NothingDue (.cmp 31) u ∧ u.sampled (.cmp 31) = false ∧ (u.trIn (.cmp 31)).blank = false ∧ NothingDue (.pin 7) u ∧
     (u.setF .CMP_CTRL_SAMP 31 1).sampled (.cmp 31) = true ∧ ((u.setF .CMP_CTRL_HIEN 31 1).rawSides (.cmp 31)).1 = false) ∧
    (let w := { s.setF .CMP_CTRL_HIEN 31 1 with cmps := s.cmps.set 31 { gated := true, hi := true, vin := 2000000 } }; (w.rawSides (.cmp 31)).1 = true) ∧
    (let r := ({ s with cmps := s.cmps.set 31 { blank := true, blankEnd := 15 } } : State)
     (r.passTo 15).tick / r.tickLen (.cmp 31) = (r.trIn (.cmp 31)).cntAt / r.tickLen (.cmp 31)) := by
  unfold NothingDue
  decide

/-- The fabric with a latched source routed to MUTE, with none, and with the fixed sources quiet. -/
theorem test_met_mute : let s := { fields up [(.SER_STAT_STATE, 0, 5)] with gated := 0#4 }
    let u := fields s [(.TRIP_LAT0_CMP, 0, 1), (.TRIP_ROUTE_MUTE, 0, 1)]
    s.fabRuns = true ∧ (∀ i < 69, s.latched i = false ∧ (65 ≤ i → s.asserted i = false)) ∧ (u.latched 0 = true ∧ u.routedMute 0 = true) ∧
    u.mstate = false ∧ (u.setF .TRIP_STAT_MSTATE 0 1).mstate = true ∧ s.bit .TRIP_FIRST_VALID 0 = false := by decide

/-- A latch whose source is quiet and one whose source is asserted, and routes of a locked and an open fabric. -/
theorem test_met_latches : let s := fields up [(.TRIP_LAT0_CMP, 0, 3), (.CMP_STATUS_STATE, 1, 3), (.TRIP_CTRL_LOCK, 0, 1)]
    (0, 0) ∈ latSources 0 ∧ (31, 63) ∈ latSources 1 ∧ (4, 68) ∈ latSources 2 ∧ s.latched 0 = true ∧ s.asserted 0 = false ∧ s.latched 1 = true ∧
    s.asserted 1 = true ∧ s.bit .TRIP_CTRL_LOCK 0 = true ∧ up.bit .TRIP_CTRL_LOCK 0 = false ∧ State.reset.fabRuns = false ∧ s.engOk 23 = true := by decide

/-- Pair 23 started and ON, with `f` applied to it. -/
def pair (f : PairSt → PairSt) : State :=
  { fields up [(.PW_STAT_ENST, 23, 1)] with gated := 0#4, pairs := up.pairs.set 23 (f { started := true }) }

/-- A start to come, a load point, a period start of a pair that is ON and of one that is DRAINING, and an edge of the plan. -/
theorem test_met_pwm_periods : let s := { pair (fun q => { q with plan := [(64, true)] }) with pwStarts := [(512, 0x800000#24)] }
    s.fabRuns = true ∧ s.pairRuns 23 = true ∧ (s.pairs[23]).loaded = false ∧ s.getF .PW_STAT_ENST 23 ≠ 2 ∧ s.bit .PW_CFG_SYNC 23 = false ∧
    (s.setF .PW_STAT_ENST 23 2).pairRuns 23 = true ∧ (s.pairs[23]).plan = [(64, true)] ∧ 64 < (s.pairs[23]).act.len * 64 ∧
    (0x800000#24).getLsbD 23 = true ∧ s.getF .PW_STAT_ENST 23 = 1 ∧ s.pairOk 23 = true ∧ s.frozen = false ∧
    (let t := fields s [(.DBG_PWM_FREEZE_FREEZE, 0, 1), (.CE_STAT_HALTED, 23, 1)]; t.frozen = true ∧ t.fabRuns = true) ∧ (s.setF .PWM_HOLD_HOLD 0 0x800000).testF .PWM_HOLD_HOLD 0 23 = true := by decide

/-- A turn-on that is due, a raised force line, a held trip, and the limit's blanking. -/
theorem test_met_pwm_outputs : let s := pair (fun q => { q with live := true, due := some (true, 0), cbcEnd := 5 })
    let u := fields s [(.PW_TRIP_FGSEL, 23, 1), (.TRIP_ROUTE_FG, 0, 1), (.TRIP_LAT0_CMP, 0, 1)]
    let v := fields (pair (fun q => { q with live := true })) [(.PW_CBC_EN, 23, 1), (.CMP_STATUS_STATE, 0, 3)]
    s.pairOk 23 = true ∧ (s.bit .CLK_LOSS_ACTIVE 0 = false ∧ s.tripForced 23 = false ∧ s.frozen = false ∧ s.pairOff 23 = false ∧ (s.pairs[23]).live = true) ∧
    s.cbcActive 23 = false ∧ (s.pairs[23]).planL = false ∧ s.getF .PW_OVR_OVRH 23 = 0 ∧ s.getF .PW_OVR_OVRL 23 = 0 ∧ s.bit .PW_STAT_LON 23 = false ∧
    (u.pairLine 23 = true ∧ u.bit .PW_TRIP_TRIPPED 23 = false) ∧ (s.pairLine 23 = false ∧ (s.setF .PW_TRIP_TRIPPED 23 1).bit .PW_TRIP_TRIPPED 23 = true) ∧
    (v.pairRuns 23 = true ∧ v.cbcActive 23 = true ∧ (v.pairs[23]).cbcHold = false) ∧ (s.cbcBlank 23 = true ∧ s.getF .PW_CBC_BLK 23 = 0) ∧
    s.bit .PW_CTRL_EN 23 = false ∧ (s.setF .PW_CTRL_EN 23 1).bit .PW_CTRL_EN 23 = true ∧ (s.pairs[23]).started = true ∧ s.fabRuns = true ∧
    (s.setF .PMC_STAGE_STAGE 0 4).inS4 = true ∧ s.bit .PW_CTRL_IMMDIS 23 = false ∧ up.pairOff 23 = true ∧ (s.setF .PW_CTRL_IMMDIS 23 1).bit .PW_CTRL_IMMDIS 23 = true := by decide

/-- The premise of the claim on shoot-through holds at reset. -/
theorem test_met_no_shoot_through :
    ∀ n : Fin 24, ¬(State.reset.bit .PW_STAT_HON n = true ∧ State.reset.bit .PW_STAT_LON n = true) := by decide

/-- A valid list of one input on a free converter and on a busy one, an invalid list, a scan word and a trigger. -/
theorem test_met_converters : let s := { pair (fun q => { q with act := { trgB := 0x80000000#32 } }) with adcs := up.adcs.set 6 {
      scan := some ⟨3, [], 0, 0, 1, none⟩, conv := some ⟨false, 11, true, none, none, 0⟩ } }
    let s := fields s [(.AD_STAT_ENST, 7, 1), (.AD_STAT_ENST, 6, 1), (.AD_LLEN_LEN, 31, 1), (.AD_LCFG_MASK, 31, 0x800), (.AD_LCFG_TRGEN, 31, 1),
      (.AD_LCFG_EVT, 31, 47), (.ATU_STAT_ENST, 0, 1), (.PMC_STAGE_STAGE, 0, 4)]
    let f := { s.setBytes (fretRowAddr 0 0 + 0xC0 + 28) 0x83000000 4 with fretd := { row := some (0, 0) } }
    s.adcOn 7 = true ∧ (s.adcs[7]).scan = none ∧ s.listBad 7 3 = false ∧ s.listBad 7 0 = true ∧ (s.adcs[6]).scan.isSome = true ∧ s.adcOn 6 = true ∧
    (2 ^ 31 ≤ f.scanWord 7 ∧ f.scanWord 7 / 2 ^ 24 % 4 = 3 ∧ f.fretd.scanned.getLsbD 7 = false ∧ f.atuRuns = true) ∧
    (s.adcs[6]).conv = some ⟨false, 11, true, none, none, 0⟩ ∧ s.getF .AD_STAT_ENST 6 ≠ 2 ∧ (s.pairRuns 23 = true ∧ (s.pairs[23]).act.trigPos (s.pairs[23]).act.trgB = some 0) ∧
    (∀ k : Fin 8, ∀ j < 4, s.bit .AD_LCFG_TRGEN (adList k j) = true → s.getF .AD_LCFG_EVT (adList k j) = 47 → k = 7 ∧ j = 3) ∧
    s.fabRuns = true ∧ (s.pairs[23]).pos / 64 ≤ 0 ∧
    s.adcServes 7 = false ∧ (s.setF .ATU_STAT_SRC 0 0).adcServes 0 = true ∧ s.inS4 = true ∧ s.bit .ADC_CTRL_LOCK 0 = false := by decide

/-- A scan of list 0 and one of list 3 that began in this FAB cycle, and a list of higher rank that is valid. -/
theorem test_met_scan_starts : ∀ k ∈ [0, 3], let s := fields up [(.AD_STAT_ENST, 6, 1), (.AD_LLEN_LEN, 24, 1), (.AD_LCFG_MASK, 24, 1)]
    let t := { s with gated := 0#4, adcs := s.adcs.set 6 { scan := some ⟨k, [], 0, 0, 1, some (s.tick, false, 0, 0)⟩ } }
    t.adcOn 6 = true ∧ t.fabRuns = true ∧ (t.adcs[6]).scan = some ⟨k, [], 0, 0, 1, some (t.tick, false, 0, 0)⟩ ∧ t.listBad 6 0 = false ∧
    (t.adcs[7]).conv = none ∧ (t.adcs[7]).atuQ = [] := by decide

/-- SET with the largest nanoseconds and one above, STEP, a pulse of the least width and a wider period, and a rise that is due. -/
theorem test_met_time : let s := fields up [(.TIME_WNS_NS, 0, 999999999), (.TOUT_WID_WID, 7, 8), (.TOUT_PER_PER, 7, 16)]
    s.getF .TIME_WNS_NS 0 < 1000000000 ∧ 1000000000 ≤ (s.setF .TIME_WNS_NS 0 1000000000).getF .TIME_WNS_NS 0 ∧ (∀ k : Fin 8, s.getF .TOUT_CTRL_ENST k ≠ 1) ∧
    s.clock.nsf < 10 ^ 9 * 2 ^ 29 ∧ s.bit .TOUT_CTRL_EN 7 = false ∧ 8 ≤ s.getF .TOUT_WID_WID 7 ∧ s.getF .TOUT_WID_WID 7 + 8 ≤ s.getF .TOUT_PER_PER 7 ∧
    up.getF .TOUT_WID_WID 7 < 8 ∧ s.bit .TOUT_CTRL_MODE 7 = false ∧ s.timeNs ≤ s.toutStart 7 ∧
    (let r := fun (d : Nat) => ({ s with tout := s.tout.set 7 { rise := some d }, gated := 0#4 } : State)
     ((r 0).passTime 0).timeNs = 0 ∧ 8 ≤ ((r 8).passTime 8).timeNs ∧ (r 0).clockRuns = true ∧ ({ r 5 with gated := 15#4 } : State).clockRuns = false ∧
     (({ r 5 with gated := 15#4 } : State).passTime 5).timeNs < 5) ∧ 0 < s.getF .TIME_INC_INC 0 ∧ s.getF .TIME_INC_INC 0 < 2 ^ 32 ∧
    (({ s with tout := s.tout.set 7 { active := true } } : State).tout[7]).active = true ∧ (s.tout[7]).active = false ∧ s.bit .TOUT_CTRL_MODE 7 = false ∧
    (({ s with clock := { sec := 1, nsf := 0 } } : State).toutStart 7 < ({ s with clock := { sec := 1, nsf := 0 } } : State).timeNs) := by decide

/-! The claims' hypotheses: the auxiliary drive, the regulator, resets and bring-up, clocks, power and heat. -/

/-- The auxiliary drive: a command of the high side, monitors that are open, an active short and none. -/
theorem test_met_aux : let s := { fields up [(.AUXH_STAT_ENST, 0, 1), (.AUXH_STAT_ENST, 3, 2)] with
      gated := 0#4, aux := up.aux.set 0 { gH := true, hcmd := true, monH := true, monL := true } }
    s.auxOk = true ∧ s.fabRuns = true ∧ (s.aux[0]).gH = true ∧ (s.auxWant 0).1 = true ∧ (s.aux[0]).lo = false ∧ (s.aux[0]).bsLow = false ∧
    (s.aux[0]).monH = true ∧ s.auxc.short = none ∧ ({ s with auxc := { short := some 0 } } : State).auxc.short.isSome = true ∧
    s.getF .AUXH_STAT_ENST 0 = 1 ∧ s.getF .AUXH_STAT_ENST 3 = 2 ∧ (s.aux[0]).monL = true ∧
    (({ s with aux := s.aux.set 3 { gL := true, lcmd := true, monH := true } } : State).auxWant 3).2 = true ∧
    (({ s with aux := s.aux.set 3 { monH := true } } : State).aux[3]).monH = true := by decide

/-- The regulator: each state, a phase that is on, REF below and above the target, and the eighth hiccup. -/
theorem test_met_regulator : let s := { fields up [(.VREG_STAT_SSTATE, 0, 1), (.VREG_STAT_REF, 0, 0x97), (.VREG_STAT_HICCUPS, 0, 8)] with
      vreg := { phase := #v[.high, .mid, .mid, .low], next := 3 } }
    s.sstate = 1 ∧ (s.setF .VREG_STAT_SSTATE 0 2).sstate = 2 ∧ s.vreg.next % (s.getF .VREG_CFG_NPH 0 + 1) = 3 ∧ s.vreg.phase[3] ≠ .high ∧ s.vreg.phase[0] = .high ∧
    s.getF .VREG_VID_VID 0 < s.getF .VREG_STAT_REF 0 ∧ s.getF .VREG_STAT_REF 0 ≤ 256 ∧ up.getF .VREG_STAT_REF 0 < up.getF .VREG_VID_VID 0 ∧
    s.bit .VREG_STAT_PGOOD 0 = false ∧ 8 ≤ s.getF .VREG_STAT_HICCUPS 0 ∧ ((s.setF .VREG_STAT_SSTATE 0 0).sstate = 0 ∧
      s.getF .VREG_STAT_HICCUPS 0 ≠ 0 ∧ s.bit .THERM_STAT_SHUTLAT 0 = false) ∧ (s.setF .VREG_STAT_HICCUPS 0 7).getF .VREG_STAT_HICCUPS 0 < 8 ∧
    (s.setF .VREG_STAT_PGOOD 0 1).bit .VREG_STAT_PGOOD 0 = true ∧ (s.setF .VREG_STAT_SYNCACT 0 1).bit .VREG_STAT_SYNCACT 0 = true ∧ s.bit .VREG_CFG_SYNCEN 0 = true := by decide

/-- The reset causes: power good, S4, the debugger, the pin and the supply, and a press of each length. -/
theorem test_met_resets : let s := fields up [(.VREG_STAT_PGOOD, 0, 1), (.PMC_BTN_PRESSED, 0, 1)]
    let t := s.modPmc (fun p => { p with timing := true })
    s.bit .VREG_STAT_PGOOD 0 = true ∧ s.inS4 = false ∧ s.debugLevel.testBit 1 = true ∧ s.bit .THERM_STAT_SHUTLAT 0 = false ∧ s.pmc.porSupply = false ∧
    s.pmc.porPin = false ∧ (let r := s.modPmc (fun p => { p with porSupply := false }); ¬(r.pmc.porPin = true ∨ r.pmc.porSupply = true)) ∧
    (s.bit .PMC_BTN_PRESSED 0 = true ∧ s.pmc.timing = false ∧ t.pmc.timing = true) ∧ up.bit .PMC_BTN_PRESSED 0 = false ∧
    (live.coresRun = true ∧ State.reset.coresRun = false) ∧ (s.setF .PMC_STAGE_STAGE 0 4).inS4 = true ∧ (s.setF .THERM_STAT_SHUTLAT 0 1).bit .THERM_STAT_SHUTLAT 0 = true ∧
    (s.modPmc (fun p => { p with porPin := true })).pmc.porPin = true ∧ (s.modPmc (fun p => { p with pressAt := some 0 })).pmc.pressAt = some 0 := by decide

/-- The start with each reason for minimal mode, the later stages, and a device that is ready to arm. -/
theorem test_met_bring_up : let s := fields up [(.VREG_STAT_PGOOD, 0, 1), (.PMC_STAGE_STAGE, 0, 0)]
    let ready := fields s [(.PMC_STAGE_STAGE, 0, 3), (.SER_STAT_STATE, 0, 5), (.ATU_STAT_ENST, 0, 1), (.FRET_STAT_ENST, 0, 1), (.MOD_STAT_ENST, 0, 1),
      (.ATU_STAT_LOCKED, 0, 1), (.CE_ACTSTAT_DONE, 0, 1)]
    (s.stage = 0 ∧ s.pmc.porPin = false ∧ s.pmc.porSupply = false ∧ s.getF .PMC_STAGE_REASON 0 ≠ 0x10) ∧ s.pmc.mmreq = false ∧ s.pmc.failcnt < 3 ∧
    3 ≤ (s.modPmc (fun p => { p with failcnt := 3 })).pmc.failcnt ∧ s.keysRevoked = false ∧
    ({ s with sec := { slots := Vector.replicate 4 { revoked := true } } } : State).keysRevoked = true ∧
    (ready.stage = 3 ∧ ready.minimal = false ∧ ready.bit .THERM_STAT_BLKREQ 0 = false ∧ ready.serState = 5 ∧ ready.mstate = false ∧ ready.unresolved = false ∧
      ready.atuOn = true ∧ ready.fretOn = true ∧ ready.modOn = true ∧ ready.bit .ATU_STAT_LOCKED 0 = true) ∧
    (ready.setF .PMC_STAGE_STAGE 0 1).stage = 1 ∧ (ready.setF .PMC_STAGE_STAGE 0 2).stage = 2 ∧ ready.bit .CE_ACTSTAT_DONE 0 = true ∧ ready.actBusy = false ∧
    (ready.setF .PMC_STAGE_STAGE 0 4).inS4 = true ∧ s.bit .VREG_STAT_PGOOD 0 = true ∧ s.bit .THERM_STAT_SHUTLAT 0 = false ∧ ready.bit .VREG_STAT_PGOOD 0 = true ∧
    ready.coresRun = true ∧ (ready.setF .PMC_STAGE_STAGE 0 1).coresRun = true ∧ ((fields ready [(.PMC_STAGE_STAGE, 0, 4), (.SER_STAT_STATE, 0, 3)]).serState ≠ 5) ∧
    (s.modPmc (fun p => { p with mmreq := true })).pmc.mmreq = true := by decide

/-- The station firmware area holds no object at reset, so the ROM chooses no slot. -/
theorem test_met_no_firmware : (State.reset.modPmc PmcSt.startSlot).chooseSlot = none := by decide +kernel

/-- A reference and a PLL that are lost and return, and a band that covers. -/
theorem test_met_clocks : let s := { fields up [(.CLK_PLL_STAT_LOCKED, 2, 1), (.CLK_PLL_STAT_ACQ, 3, 1)] with quadFeed := true }
    s.refOk = true ∧ ({ s with refOk := false } : State).refOk = false ∧ s.quadFeed = true ∧ s.pllLocked 2 = true ∧ s.bit .CLK_PLL_STAT_ACQ 3 = true ∧
    ({ s with gated := 15#4 } : State).gated.getLsbD 0 = true ∧ s.bit .CLK_PLL_STAT_ACQ 0 = false ∧ s.bandOf 0 = none ∧
    ((fields s [(.CLK_PLL_BAND_VALID, 0, 1), (.CLK_PLL_BAND_FHI, 0, 4095)]).bandOf 0).isSome = true := by decide

/-- A domain that is asked off and may go, one that returns, and the temperatures of the throttle, the block and the shutdown. -/
theorem test_met_power : let s := fields up [(.PMC_PDREQ_REQ, 0, 2)]
    let u := fields up [(.PMC_PDSTAT_PWR, 0, 0x3FDF), (.THERM_STAT_THROTTLE, 0, 1)]
    s.offAsked 5 = true ∧ s.powered 5 = true ∧ s.domainOff 5 = true ∧ u.variant.hasDomain 5 = true ∧ u.powered 5 = false ∧ u.offAsked 5 = false ∧
    u.fabRuns = true ∧ (let b := { u.setF .THERM_STAT_BLKREQ 0 1 with gated := 0#4, therm := { hot2 := 1, hotB := 1 } }; b.bit .THERM_STAT_BLKREQ 0 = true ∧
      b.fabRuns = true ∧ 1 ≤ b.therm.hotB ∧ 1 ≤ b.therm.hot2) ∧ u.bit .THERM_STAT_BLKREQ 0 = false ∧ s.getF .THERM_STAT_THROTTLE 0 = 0 ∧ s.getF .VREG_STAT_SSTATE 0 ≠ 3 ∧
    u.getF .THERM_STAT_THROTTLE 0 = 1 ∧ 200 ≤ ({ hot4 := 200 } : ThermSt).hot4 ∧ 2 ≤ ({ hotS := 2 } : ThermSt).hotS ∧
    u.bit .THERM_STAT_SHUTLAT 0 = false ∧ (0x7FF#12 ≠ 0xFFF#12) ∧ (1600#16).toInt = 1600 := by decide

/-! More of the hypotheses: inputs, PWM, converters and time. -/

/-- A sampled comparator without a REF and with one, whose count reaches FILT or not, and the side that tripped. -/
theorem test_met_sampled : let s := { fields up [(.CMP_STATUS_STATE, 31, 2), (.CMP_CTRL_SAMP, 31, 1), (.CMP_FILT_FILT, 31, 2)] with cmps := up.cmps.set 31 { cnt := 2 } }
    s.trState (.cmp 31) = 2 ∧ s.sampled (.cmp 31) = true ∧ s.refOk = true ∧ ({ s with refOk := false } : State).refOk = false ∧ (s.cmps[31]).blank = false ∧
    s.getF .CMP_FILT_FILT 31 ≤ (s.cmps[31]).cnt ∧ up.getF .CMP_STATUS_STATE 0 = 0 ∧ (s.setF .CMP_FILT_FILT 31 3).getF .CMP_FILT_FILT 31 = 3 := by decide

/-- A pair that another starts, before its own start and with its set loaded, a start with its list, and a frozen PWM. -/
theorem test_met_chains : let s := fields (pair (fun q => { q with starts := [{}], loaded := true })) [(.PW_STAT_ENST, 0, 1), (.PW_CFG_SYNC, 0, 1), (.PW_CFG_SYNCPW, 0, 23)]
    s.chained 0 23 = true ∧ (s.pairs[0]).started = false ∧ (s.pairs[23]).started = true ∧ (s.pairs[23]).starts = [{}] ∧ (s.pairs[23]).loaded = true ∧
    (∀ j : Fin 24, up.chained 0 j = false) ∧ (pairLoad s 23).phs = 0 ∧ s.fabBus = true ∧ (s.pairs[0]).pos = (s.pairs[0]).act.phs * 64 := by decide

/-- A limit's blanking with the high side on, a hold that a trip ends, a clock loss that refuses a clear, and a raised limit in blanking. -/
theorem test_met_pwm_edges : let s := fields (pair (fun q => { q with live := true, cbcEnd := 5, cbcHold := true })) [(.PW_STAT_HON, 23, 1), (.PW_CBC_BLK, 23, 3)]
    s.cbcBlank 23 = true ∧ s.bit .PW_STAT_HON 23 = true ∧ s.getF .PW_CBC_BLK 23 ≠ 0 ∧ (s.pairs[23]).cbcHold = true ∧ up.cbcBlank 23 = false ∧
    (s.setF .CLK_LOSS_ACTIVE 0 1).bit .CLK_LOSS_ACTIVE 0 = true ∧ (s.setF .PW_TRIP_CLKLOSS 23 1).bit .PW_TRIP_CLKLOSS 23 = true ∧
    (let r := fields (s.passTo 5) [(.PW_CBC_EN, 23, 1), (.CMP_STATUS_STATE, 0, 3)]; r.asserted (r.getF .PW_CBC_CMP 23) = true) ∧
    (let o := s.setF .PMC_STAGE_STAGE 0 4; o.inS4 = true ∧ o.fabBus = true) := by decide

/-- A step of the whole device with a command in front: it answers a next state. -/
theorem test_met_step : ∃ t, step { State.reset with pending := [.dmaDescriptorComplete 0#40 0#40 0] } = .next t := by
  exact ⟨_, rfl⟩

/-- A list that was refused in this FAB cycle before a valid one of higher rank, a test of the ball with and without a source, and the test DAC's error in S4. -/
theorem test_met_adc_edges : let s := { fields up [(.AD_STAT_ENST, 6, 1), (.AD_LLEN_LEN, 24, 1), (.AD_LCFG_MASK, 24, 1)] with
      adcs := up.adcs.set 6 { bad := [{ tick := up.tick, list := 3, fret := true, was := false }] } }
    s.adcOn 6 = true ∧ s.fabRuns = true ∧ s.anaBus = true ∧ (s.adcs[6]).scan = none ∧ s.listBad 6 0 = false ∧ s.listBad 6 3 = true ∧
    (s.adcs[6]).bad = [{ tick := s.tick, list := 3, fret := true, was := false }] ∧ (0 : Nat) < 3 ∧
    (s.setF .PMC_STAGE_STAGE 0 4).inS4 = true ∧ (0xC0000000#32).getLsbD 31 = true ∧ (0xC0000000#32).getLsbD 30 = true ∧ s.bit .ADC_CTRL_LOCK 0 = false ∧
    (({ atu := false, input := 0, test := true, ball := some 512 } : AdcConv).ball = some 512 ∧ (⟨0, some 5000, 0⟩ : AdcInput).rs = some 5000 ∧ (⟨0, none, 0⟩ : AdcInput).rs = none) ∧
    (s.adcs[0]).atuQ = [] := by decide

/-- Timed outputs that are ON as the clock is set: one with pulses to come, one whose single pulse lies ahead and one whose pulse is missed. -/
theorem test_met_stepped : let s := { fields up [(.TOUT_CTRL_ENST, 0, 1), (.TOUT_CTRL_ENST, 1, 1), (.TOUT_CTRL_MODE, 1, 1), (.TOUT_PER_PER, 1, 16)] with
      clock := ⟨1, 0⟩, tout := up.tout.set 0 { rise := some 5 } }
    s.hostBus = true ∧ s.getF .TOUT_CTRL_ENST 0 = 1 ∧ s.bit .TOUT_CTRL_MODE 0 = false ∧ s.bit .TOUT_CTRL_MODE 1 = true ∧ 0 < s.getF .TOUT_PER_PER 1 ∧
    s.toutStart 0 < s.timeNs ∧ (s.tout[0]).rise.isSome = true ∧ (s.tout[1]).rise = none ∧ up.timeNs ≤ up.toutStart 0 ∧
    (∀ p : Fin 4, s.getF .HP_STAT_ENST p ≠ 1 ∨ (s.tqEmpty p 0 = true ∧ (s.hp[p]).dups = [])) ∧ (0 + 8 ≤ 2 ^ 48 * 10 ^ 9) := by decide

/-- The auxiliary drive with its link down, and a short in one bridge while another's low side shows. -/
theorem test_met_aux_link : ({ up with auxc := { linkDown := true } } : State).auxc.linkDown = true ∧ up.auxc.linkDown = false ∧ up.auxOk = true ∧ up.fabBus = true ∧
    ({ up with auxc := { short := some 2 }, aux := up.aux.set 0 { monL := true } } : State).auxc.short.isSome = true := by decide

/-- The supplies: VAUX absent and back, the rails of the boot ROM at their limits, and what a device in storage ignores. -/
theorem test_met_supplies : let off := up.modPmc (fun p => { p with porSupply := true })
    off.aonRuns = false ∧ off.pmc.porSupply = true ∧ off.pmc.porPin = false ∧ off.bit .THERM_STAT_SHUTLAT 0 = false ∧ up.aonRuns = true ∧
    (off.modPmc (fun p => { p with porPin := true })).pmc.porPin = true ∧ (1620 < 1621 ∧ 810 < 811 ∧ 1080 < 1081 ∧ ¬(1620 < 1620)) ∧
    (let r := fields up [(.PMC_STAGE_STAGE, 0, 0), (.VREG_STAT_PGOOD, 0, 1)]; r.stage = 0 ∧ r.bit .VREG_STAT_PGOOD 0 = true ∧ r.bit .THERM_STAT_SHUTLAT 0 = false) := by decide

/-- An activation that has acted, one that has not come, and a device that may arm by its role or its free-running source. -/
theorem test_met_stage_edges : let s := (up.setF .PMC_STAGE_STAGE 0 2).modPmc (fun p => { p with actAny := true })
    s.stage = 2 ∧ s.coresRun = true ∧ s.pmc.actAny = true ∧ s.pmc.actDue = 0#24 ∧ s.actBusy = false ∧ up.pmc.actAny = false ∧
    (s.modPmc (fun p => { p with actDue := 1#24 })).pmc.actDue ≠ 0#24 ∧ up.src = 2 ∧ (up.setF .MIR_STAT_ROLE 0 1).role = 1 ∧
    (up.setF .MIR_STAT_SYNCED 0 1).bit .MIR_STAT_SYNCED 0 = true := by decide

/-- PLL0 about to lock with a loss still shown, and PLL2 stopped with its feed still on. -/
theorem test_met_clock_edges : let s := { fields up [(.CLK_PLL_STAT_ACQ, 0, 1), (.CLK_LOSS_ACTIVE, 0, 1)] with gated := 5#4 }
    s.aonRuns = true ∧ s.bit .CLK_PLL_STAT_ACQ 0 = true ∧ s.refOk = true ∧ s.awake = true ∧ s.bit .CLK_LOSS_ACTIVE 0 = true ∧ s.pairOk 23 = true ∧
    (s.gated.getLsbD 2 = true ∧ s.quadFeed = true) ∧ (up.setF .CLK_PLL_CTRL_AUTORELOCK 2 1).bit .CLK_PLL_CTRL_AUTORELOCK 2 = true ∧ up.busRuns = true := by decide

/-! The claims' hypotheses: Safe Energy Removal. -/

/-- A valid record: input 0 with function 3 on TPO0, and SOUT0 enabled. -/
def serRec : List Byte := [1#8, 0#8, 0#8, 0#8, 0#8, 0#8, 0#8, 0x30#8] ++ List.replicate 33 0#8 ++ [1#8] ++ List.replicate 22 0#8

/-- SER in state `v` with that record in use, and `f` applied. -/
def ser (v : Nat) (f : SerSt → SerSt) : State :=
  { up.setF .SER_STAT_STATE 0 v with ser := f { record := serRec, store := serRec, cycles := 1 } }

/-- A new state of SER after one cycle. -/
def serAfter (closed : BitVec 8) (rb : BitVec 4) (d : SafDiag) (s : State) : Nat × Bool := ((after (.safetyCycle closed rb d) s).serState, (after (.safetyCycle closed rb d) s).asserted 65)

/-- The states of Table 13-2 under a cycle: a demand, an all-closed cycle, a confirmation, a restart, a failed diagnostic, a bad readback. -/
theorem test_safety_cycle : recordValid serRec = true ∧
    (let s := (ser 5 (fun t => { t with sout := 1#4, run := Vector.replicate 8 9 })).setF .SER_SIN_FILTERED 0 1;
     (after (.safetyCycle 1#8 1#4 .ok) s).ser.cut = none ∧ (after (.safetyCycle 1#8 0#4 .ok) s).getF .SER_STAT_FAULT 0 = 0x21 ∧
      (after (.safetyCycle 1#8 1#4 .clock) s).getF .SER_STAT_FAULT 0 = 4) ∧
    (let s := (ser 3 (fun t => { t with run := Vector.replicate 8 9 })).setF .SER_SIN_RAW 0 1;
     serAfter 1#8 0#4 .ok s = (4, true) ∧ serAfter 0#8 0#4 .ok s = (3, true)) ∧
    (let s := ser 1 (fun t => { t with confirm := 7#32 });
     serAfter 1#8 0#4 .ok s = (1, true) ∧ (after (.safetyCycle 1#8 0#4 .ok) (s.setF .SER_PCRC_PCRC 0 7)).bit .SER_STAT_CONFIRMED 0 = true) := by decide

/-- The clauses' states: BOOT, a record to be taken, a bad one, PERMIT with and without a demand, RECOVERY with a restart. -/
theorem test_met_safety_cycles : let s := (ser 5 (fun t => { t with run := Vector.replicate 8 9 })).setF .SER_SIN_FILTERED 0 1
    let r := ser 4 (fun t => { t with restart := true })
    s.sysRuns = true ∧ State.reset.serState = 0 ∧ s.serState = 5 ∧ s.serRecord = true ∧ s.ser.cut = none ∧ s.takesRecord = false ∧
    (FilteredClosed (s.setF .SER_SIN_RAW 0 1) 1#8 0 ∧ sinFunc s.ser.record 0 ≠ 0 ∧
      ¬FilteredClosed ((ser 5 id).setF .SER_SIN_FILTERED 0 0) 0#8 0) ∧
    s.discFault = none ∧ (ser 5 id).soutFault 0#4 = none ∧ (r.serState = 4 ∧ r.ser.restart = true ∧ r.serRecord = true) ∧
    ((ser 1 (fun t => { t with fresh := true, store := [1#8] })).takesRecord = true ∧ recordValid [1#8] = false ∧ (ser 1 id).porFault = false) ∧
    (let w := (ser 6 (fun t => { t with fresh := true })).setF .SER_STAT_FAULT 0 1; w.serState ≠ 5 ∧ w.takesRecord = true ∧ w.porFault = true ∧
      w.getF .SER_STAT_FAULT 0 ≠ 0 ∧ recordValid w.ser.store = true) ∧
    ((ser 3 id).serState = 3 ∧ (ser 3 id).takesRecord = false) ∧ ((ser 1 id).serState = 1 ∧ (ser 1 id).takesRecord = false) ∧ r.takesRecord = false := by
  unfold FilteredClosed
  decide +kernel

/-- The pulses: due, in progress, stuck, crossed, in recovery; the cut; a proof test; a latched fault. -/
theorem test_met_safety_tests : let s := ser 5 (fun t => { t with sout := 1#4 })
    (s.sysRuns = true ∧ s.serRecord = true ∧ s.serState ≠ 0 ∧ s.serState ≠ 1 ∧ s.ser.cut = none ∧ s.ser.tpoAt < s.ser.cycles ∧ s.ser.darkAt < s.ser.cycles ∧ s.ser.pulse = none ∧ s.ser.recovery = none ∧ s.ser.dark = none) ∧
    (s.ser.cycles - 1) % recTpi s.ser.record = 0 ∧ (s.ser.cycles - 1) / recTpi s.ser.record % 4 = (0 : Fin 4).val ∧ (s.ser.cycles - 1) % recDpi s.ser.record = 0 ∧
    (recSouten s.ser.record).testBit 0 = true ∧ (ser 7 (fun t => { t with test := 4 })).ser.test % 4 = 0 ∧
    (sinFunc s.ser.record 0 ≠ 0 ∧ sinTpo s.ser.record 0 = 0 ∧ (1#8).getLsbD 0 = true) ∧
    (ser 5 (fun t => { t with pulse := some (0, 1#8), cross := 1#8 })).ser.pulse = some (0, 1#8) ∧
    (ser 4 (fun t => { t with recovery := some (0, 1#8) })).ser.recovery = some (0, 1#8) ∧ (ser 5 (fun t => { t with dark := some 0 })).ser.dark = some 0 ∧
    (ser 5 (fun t => { t with cut := some 3 })).ser.cut = some 3 ∧
    (let t := ser 7 (fun t => { t with test := 64, tpoRuns := Vector.replicate 4 16, soutRuns := #v[16, 0, 0, 0] })
     (t.serState = 7 ∧ 64 ≤ t.ser.test ∧ (t.ser.test - 1) % 4 = (3 : Fin 4).val) ∧
     ∀ j : Fin 4, 16 ≤ t.ser.tpoRuns[j] ∧ ((recSouten t.ser.record).testBit j = true → 16 ≤ t.ser.soutRuns[j])) ∧ s.ser.test < 64 ∧
    (let d := ser 4 (fun t => { t with redoTpo := 4#4, cycles := 2 }); 1 ≤ d.ser.cycles ∧ d.ser.redoTpo.getLsbD 2 = true ∧ d.getF .SER_SIN_DEMAND 0 = 0) ∧
    (let u := (ser 6 id).setF .SER_STAT_FAULT 0 0x10; u.serState = 6 ∧ 0x10 ≤ u.getF .SER_STAT_FAULT 0) ∧
    (let u := (ser 6 id).setF .SER_STAT_FAULT 0 1; u.porFault = true ∧ u.serState = 6 ∧ 0 < u.getF .SER_STAT_FAULT 0 ∧ u.getF .SER_STAT_FAULT 0 < 0x10) := by decide

/-! The claims' hypotheses: host ports. -/

/-- Port 3 is UP and ON with its clocks, with rings in the SSM. -/
def port (l : List (Fld × Nat × Nat)) : State :=
  { fields up ([(.HP_STAT_PSTATE, 3, 3), (.HP_STAT_ENST, 3, 1), (.HP_RQBASE_ADDR, 3, 0x10000), (.HP_TQ0BASE_ADDR, 3, 0x10010),
    (.HP_TQ1BASE_ADDR, 3, 0x10020), (.PMC_PDSTAT_PWR, 0, 0x3FFF), (.PMC_STAGE_STAGE, 0, 1)] ++ l) with gated := 0#4 }

/-- A frame of 60 bytes with the EtherType given. -/
def frame (a b : Byte) : List Byte := List.replicate 12 2#8 ++ [a, b] ++ List.replicate 46 0#8

/-- A sampled-value frame with one ASDU, its count 0x0102. -/
def svFrame1 : List Byte := List.replicate 12 2#8 ++ [0x88#8, 0xBA#8, 0x40#8, 0x00#8, 0#8, 96#8, 0#8, 0#8, 0#8, 0#8] ++
  [0x60#8, 86#8, 0x80#8, 1#8, 1#8, 0xA2#8, 81#8, 0x30#8, 79#8, 0x82#8, 2#8, 1#8, 2#8, 0x83#8, 4#8, 0#8, 0#8, 0#8, 1#8, 0x85#8, 1#8, 2#8, 0x87#8, 64#8] ++
  List.replicate 64 0#8

/-- The check value of the CRC of IEEE 802.3 over the ASCII string "123456789" (log entry 9). -/
theorem test_fcs : crcOf 0xEDB88320 [0x31#8, 0x32#8, 0x33#8, 0x34#8, 0x35#8, 0x36#8, 0x37#8, 0x38#8, 0x39#8] = 0xCBF43926 := by decide

/-- A received frame lies in its slot behind the header of Table 14-2. -/
theorem test_receive_slot : let t := after (.hostFrameReceived 3 (frame 0x08#8 0x06#8) (fcsOf (frame 0x08#8 0x06#8)) 0) (port [])
    t.half 0x10000000 = 60 ∧ t.byte 0x10000003 = 3#8 ∧ t.byte 0x1000002C = 0x08#8 ∧ t.getF .HP_RQIDX_HEAD 3 = 1 := by decide

/-- A frame on a port that is down, a bad one, a full ring, a good one, a PRP frame of each LAN, and a sampled-value frame. -/
theorem test_met_reception : let s := port []
    let j := port [(.HP_PRP_EN, 2, 1)]
    let v := port [(.SVF_CTRL_EN, 15, 1), (.SVF_CTRL_PORTS, 15, 8), (.SVF_MATCH_APPID, 15, 0x4000), (.SVF_MATCH_DSTLO, 15, 0x0202), (.SVF_RING_ADDR, 15, 0x10030),
      (.HP_RQIDX_HEAD, 3, 16)]
    let f := frame 0x08#8 0x06#8
    let pf := rct f 5 11
    State.reset.hpUp 3 = false ∧ s.hpUp 3 = true ∧ (60 ≤ f.length ∧ f.length + 4 ≤ s.maxlen 3) ∧ s.joined 3 = false ∧ s.svEntry 3 f = none ∧ RxRoom s 3 60 ∧
    ringN (v.getF .HP_RQBASE_LOG2N 3) 4 10 ≤ (v.getF .HP_RQIDX_HEAD 3 + 65536 - v.getF .HP_RQIDX_TAIL 3) % 65536 ∧
    j.joined 3 = true ∧ lanOf 3 = 11 ∧ rctOf pf = some (5, 11) ∧ rctOf (rct f 5 10) = some (5, 10) ∧ rctOf f = none ∧ pf.length + 4 ≤ j.maxlen 3 ∧ RxRoom j 3 pf.length ∧
    (∃ e ∈ ((j.modPrp 1 (fun x => { x with table := [⟨beAt pf 6 6, 5, 2, 0⟩] })).prp[pairIdx 3]).table, (e.mac == beAt pf 6 6 && e.seq == 5) = true ∧ e.port ≠ (3 : Fin 4).val) ∧
    ((j.modPrp 1 (fun x => { x with table := List.replicate 2048 ⟨0, 5, 3, 0⟩ })).prp[pairIdx 3]).table.length = 2048 ∧ fcsOf f ≠ [0#8, 0#8, 0#8, 0#8] ∧
    v.svEntry 3 svFrame1 = some 15 ∧ ((svDecode (svFrame1.drop (etherOff svFrame1 + 2))).map (fun l => l.map (v.asduInvalid 15))) = some [false] ∧ ((svDecode (svFrame1.drop (etherOff svFrame1 + 2))).map List.length) = some 1 ∧ v.svStream ≠ (15 : Fin 16).val ∧
    v.svEntry 3 (svFrame1.take 60) = some 15 ∧ (svDecode ((svFrame1.take 60).drop (etherOff (svFrame1.take 60) + 2))).isNone = true ∧
    inSsm (v.getF .SVF_RING_ADDR 15 * 4096) 128 = true ∧ v.svExp[(15 : Fin 16)] = none ∧
    (let w := fields v [(.ATU_CFG_SVSTREAM, 0, 15)]; w.svStream = (15 : Fin 16).val ∧ w.hpUp 3 = true) := by decide

/-- One descriptor at the head of queue `q` of port 3: 60 bytes at 0x10000800, with the flag bits given. -/
def queued (q : Fin 2) (w1 : Nat) (l : List (Fld × Nat × Nat)) : State :=
  let s := port ([((tqFlds q).tail, 3, 1)] ++ l)
  (s.setBytes (s.tqAddr 3 q) 0x10000800 4).setBytes (s.tqAddr 3 q + 4) w1 4

/-- A descriptor that goes, timed, stamped, duplicated, refused; a one-step frame that parses and one that does not. -/
theorem test_met_transmission : let s := queued 0 60 []
    (s.portOk 3 = true ∧ s.powered 9 = true ∧ s.getF .HP_STAT_ENST 3 = 1 ∧ s.hpUp 3 = true) ∧
    (s.getF .HP_TQ0IDX_TAIL 3 = (s.getF .HP_TQ0IDX_HEAD 3 + 1) % 65536 ∧ inSsm (s.tqAddr 3 0 + 20) 4 = true) ∧
    s.badDesc 3 0 (s.txDesc (s.tqAddr 3 0)) = false ∧ (s.txDesc (s.tqAddr 3 0)).ltype = 0 ∧ (s.txDesc (s.tqAddr 3 0)).ts = false ∧
    (port []).tqEmpty 3 0 = true ∧ (let u := queued 0 59 []; u.badDesc 3 0 (u.txDesc (u.tqAddr 3 0)) = true) ∧
    (let u := queued 0 (60 + 2 ^ 26 + 2 ^ 23) []; 0 < (u.txDesc (u.tqAddr 3 0)).ltype ∧ (u.txDesc (u.tqAddr 3 0)).ts = true ∧ (u.hp[3]).due = none) ∧
    (let u := queued 1 (60 + 2 ^ 25) [(.HP_PRP_EN, 2, 1)]; (u.txDesc (u.tqAddr 3 1)).dup = true ∧ u.joined 3 = true ∧ u.badDesc 3 1 (u.txDesc (u.tqAddr 3 1)) = false) ∧
    (up.hp[3]).tsq.length < 16 ∧ 16 ≤ (List.replicate 16 (0, 0) : List (Nat × Nat)).length ∧
    (oneStep (frame 0x88#8 0xF7#8) 100 50).isSome = true ∧ (oneStep (frame 0x08#8 0x06#8) 100 50).isNone = true ∧
    (s.modHp 3 (fun h => { h with dups := [⟨[], false, 0, 0, {}, none⟩], tsq := [(1, 2)] })).getF .HP_STAT_ENST 3 = 1 := by decide

/-- A queue that takes a first descriptor, one with DUP on a joined pair; a launch that is lost, one that is due and one that is not; a duplicate of a port
that is UP; queue 1 with queue 0 empty; and a DRAINING port in the middle of a frame. -/
theorem test_met_timed_frames : let e := fun (q : Fin 2) (w1 : Nat) => queued q w1 [((tqFlds q).tail, 3, 0), (.HP_PRP_EN, 2, 1)]
    let late : State := { e 0 (60 + 2 ^ 26) with clock := { sec := 0, nsf := 2000000 * 2 ^ 29 } }
    let x : DupTx := { frame := [], stamped := false, tsid := 0, tref := 0, timing := ⟨1, 0, 0⟩ }
    let c := (port []).modHp 3 (fun h => { h with dups := [x] })
    ((e 0 60).tqEmpty 3 0 = true ∧ (1#16).toNat ≠ (e 0 60).getF .HP_TQ0IDX_HEAD 3 ∧ (e 0 60).badDesc 3 0 ((e 0 60).txDesc ((e 0 60).tqAddr 3 0)) = false ∧
      ((e 0 60).txDesc ((e 0 60).tqAddr 3 0)).dup = false) ∧
    (((e 1 (60 + 2 ^ 25)).txDesc ((e 1 (60 + 2 ^ 25)).tqAddr 3 1)).dup = true ∧ (e 1 60).joined 3 = true ∧ (e 1 60).getF .HP_STAT_ENST (partner 3) ≠ 1 ∧
      ((e 1 60).setF .HP_STAT_ENST 2 1).getF .HP_STAT_ENST (partner 3) = 1) ∧
    (((late.txDesc (late.tqAddr 3 0)).timing 0).ltype ≠ 0 ∧ late.launchLost ((late.txDesc (late.tqAddr 3 0)).timing 0) = true) ∧
    ((e 0 (60 + 2 ^ 26)).launchLost ⟨1, 0, 0⟩ = false ∧ ((port []).reachLaunch ⟨1, 8, 0⟩).launchDue ⟨1, 8, 0⟩ = true ∧
      ((port []).reachLaunch ⟨2, 1, 0⟩).launchDue ⟨2, 1, 0⟩ = false) ∧ ((c.hp[3]).dups = [x] ∧ x.timing.ltype ≠ 0 ∧ x.due = none ∧ c.hpUp 3 = true) ∧
    (let u := queued 1 60 []; u.queue1May 3 60 0 = true) ∧
    (let j : TxJob := ⟨.queue0, 0x10010000, [], false, 0, 0, false, 0, false⟩
     let d := (queued 0 60 [(.HP_STAT_ENST, 3, 2)]).modHp 3 (fun h => { h with last := some j })
     d.hpUp 3 = true ∧ d.getF .HP_STAT_ENST 3 = 2 ∧ (d.hp[3]).last = some j ∧ j.src ≠ .copy ∧ inSsm (j.slot + 20) 4 = true ∧ j.stamped = false) := by decide

/-- The link states that a change may meet, and the modes and speeds. -/
theorem test_met_host_links : let s := port [(.HP_STAT_PSTATE, 3, 1)]
    let n := port [(.HP_STAT_PSTATE, 3, 2), (.HP_CTRL_MODE, 3, 2), (.HP_CTRL_ANEN, 3, 1)]
    (s.portOk 3 = true ∧ s.powered 9 = true ∧ s.hostRuns 3 = true ∧ s.getF .HP_STAT_ENST 3 = 1 ∧ s.hpState 3 ≠ 4) ∧ State.reset.hostRuns 3 = false ∧ s.hpState 3 = 1 ∧ n.hpState 3 = 2 ∧
    (n.getF .HP_CTRL_MODE 3 ≠ 0 ∧ n.bit .HP_CTRL_ANEN 3 = true) ∧ ¬((n.setF .HP_CTRL_MODE 3 0).getF .HP_CTRL_MODE 3 ≠ 0) ∧
    n.getF .HP_CTRL_MODE 3 = 2 ∧ (1#2).toNat ≠ n.getF .HP_STAT_SPEED 3 ∧ (1#2 : BitVec 2) ≠ 3#2 ∧ s.getF .HP_CTRL_MODE 3 ≠ 2 := by decide

/-! The claims' hypotheses: host commands. -/

/-- Session 5 of credential 0 with L = 7 and a key, in stage S3, the role SINGLE, port 3 UP, and `f` applied to the journal. -/
def host (l : List (Fld × Nat × Nat)) (f : JnlSt → JnlSt) : State :=
  { port ([(.PMC_STAGE_STAGE, 0, 3), (.JNL_STAT_ENST, 0, 1)] ++ l) with jnl := f { sessions := [{ id := 5, cred := 1, last := 7, key := some [] }], creds := [(1, 0xFF#8, [])] } }

/-- A peer at port 3. -/
def peer3 : Peer := ⟨3, 0, 47096, 0#32, false⟩

/-- The tag that the device computes for a request of session 5. -/
def tagOf (code seq : Nat) (body : List Byte) : BitVec 128 := Config.kmacTag [] (reqBytes 5 code seq 0 false {} body ++ asciiBytes "AG96CMD")

/-- Whatever KMAC256 is, a request that carries the tag of its session's key is authentic. -/
theorem test_met_authentic (l : List (Fld × Nat × Nat)) (f : JnlSt → JnlSt) (code seq : Nat) (body : List Byte) (h : seq < 2 ^ 32)
    (ha : (host l f).answers peer3 = true) (hb : (host l f).bringup = none)
    (hs : (host l f).sess 5 = some { id := 5, cred := 1, last := 7, key := some [] }) :
    ∃ u, Authentic ⟨peer3, 5#16, BitVec.ofNat 32 seq, false, tagOf code seq body, {}⟩ code body (host l f) u := by
  refine ⟨_, ha, hb, _, hs, .inl ?_, rfl⟩
  have e : (BitVec.ofNat 32 seq).toNat = seq := Nat.mod_eq_of_lt h
  rw [e]; exact beq_self_eq_true _

/-- Nothing is authentic where the session has no key. -/
theorem test_met_unauthentic (r : Req) (h : r.peer = peer3) (code : Nat) (body : List Byte) :
    Unauthentic r code body (host [] (fun j => { j with sessions := [] })) := by
  refine ⟨by rw [h]; decide, by decide, ?_⟩
  intro x hx; exact absurd hx (by simp [State.sess, host])

/-- The commands of class S with the number that is next, in their stage, with the profile, the unit and the lock; and one failure of each. -/
theorem test_met_sequenced : let s := host [] (fun j => { j with locks := j.locks.set 0 { holder := some 5 } })
    let d := fun (seq : Nat) => (BitVec.ofNat 32 (seq + 2 ^ 32 - 7)).toInt
    (s.answers peer3 = true ∧ s.bringup = none ∧ s.sess 5 = some { id := 5, cred := 1, last := 7, key := some [] }) ∧ s.commanding = true ∧
    s.jnl.busy 5 = false ∧ (∀ q ∈ s.jnl.queue, Queued.session q ≠ 5) ∧ (bodyOk 0x300 [1#8] = true ∧ bodyOk 0x201 [5#8] = false) ∧
    (d 8 = 1 ∧ 2 ≤ d 9 ∧ d 7 ≤ 0 ∧ d (7 + 2 ^ 31) ≤ 0) ∧ s.entryOf 5 7 = none ∧ s.stageOk 0x300 = true ∧ s.profileOk 5 0x300 [] = true ∧
    s.unitBad 0x300 [] = false ∧ s.lockBad 5 (lockOf 0x300) = none ∧ s.getF .JNL_STAT_ENST 0 = 1 ∧ s.jnl.head + s.jnl.waiting.length - s.jnl.reclaim < 65536 ∧
    (s.setF .PMC_STAGE_STAGE 0 2).stageOk 0x300 = false ∧ s.profileOk 6 0x300 [] = false ∧
    ({ s with variant := .ag9624 } : State).unitBad 0x402 (leBytes 4 0x100 ++ List.replicate 5 0#8) = true ∧ s.lockBad 5 (lockOf 0x400) = some 0 ∧
    65536 ≤ (host [] (fun j => { j with head := 65536 })).jnl.head + s.jnl.waiting.length - s.jnl.reclaim ∧
    (let u := host [] (fun j => { j with waiting := [⟨0, ⟨peer3, 5, 8, false, 0x300, []⟩, false, 0⟩], queue := List.replicate 8 (.seq ⟨peer3, 5, 9, false, 0x300, []⟩) });
     u.jnl.busy 5 = true ∧ 8 ≤ (u.jnl.queue.filter (fun x => Queued.session x == 5)).length) ∧
    State.reset.answers peer3 = false ∧ (s.setF .PMC_STAGE_STAGE 0 1).bringup = some 0x30 ∧ (s.setF .PMC_STAGE_MINIMAL 0 1).bringup = some 0x31 := by decide

/-- The accepted request of `host` at index 0: a state with that entry. -/
def committed (code : Nat) (body : List Byte) (seq : Nat) : State :=
  after .journalCommitDone (host [] (fun j => { j with waiting := [⟨0, ⟨peer3, 5, seq, false, code, body⟩, false, 0⟩] }))

/-- A request that has been accepted is found again by its number; with another body its number conflicts (R396). -/
theorem test_met_duplicate : let s := committed 0x301 [] 8
    s.entryOf 5 8 = some 0 ∧ s.entCode 0 = 0x301 ∧ s.entBody 0 = [] ∧ ¬(s.entCode 0 = 0x300 ∧ s.entBody 0 = []) ∧ s.entState 0 = 0 ∧
    (s.sess 5).map Sess.last = some 8 ∧ s.jnl.head = 1 ∧ s.headOk 0 = true ∧ s.statusOk 0 = true := by decide +kernel

/-- LOCK_TAKE and LOCK_RELEASE answer the codes of Table 4-8. -/
theorem test_lock_codes : (committed 0x201 [4#8] 8).entRdata 0 = 0#8 :: List.replicate 23 0#8 ∧ ((committed 0x201 [4#8] 8).jnl.locks[4]).holder = some 5 ∧
    (committed 0x202 [4#8, 0#8] 8).entRdata 0 = 4#8 :: List.replicate 23 0#8 := by decide +kernel

/-- A class U request: its session's profile, a held entry, one reclaimed, a register that is present and one of an absent unit, fitting and other data. -/
theorem test_met_unsequenced : let s := committed 0x301 [] 8
    let v := host [] (fun j => { j with locks := j.locks.set 2 { holder := some 5 } })
    let x := { v with variant := .ag9624 }
    (s.profile 5 0 = true ∧ v.profile 6 0 = false ∧ v.profile 5 2 = true ∧ v.profile 5 4 = true) ∧ ((0 : Nat) < s.jnl.head ∧ s.jnl.head ≤ 0 + 65536) ∧
    s.entryOf 5 8 = some 0 ∧ s.entryOf 5 9 = none ∧ 0 + 65536 < (host [] (fun j => { j with head := 65537 })).jnl.head ∧
    findReg 0x10000000 = none ∧ (match findReg 0x40800300 with | some (g, i) => v.regLive g i && !x.regLive g i | none => true) = true ∧
    (v.lockHolder 2 = some 5 ∧ v.lockHolder 4 ≠ some 5) ∧ v.sec.idReady = false ∧ ((List.replicate 32 0#8 : List Byte)).length = 32 ∧
    ((0#8).toNat ≤ 1 ∧ 1 ≤ 1384 ∧ 0xFFA98 + 1384 ≤ 0x100000 ∧ ¬(0xFFA99 + 1384 ≤ 0x100000) ∧ ¬((2#8).toNat ≤ 1)) := by decide +kernel

/-- Minimal Mode with a recovery that is complete and one that is not, an OPEN that is served, for a new and an old session, and raw datagrams. -/
theorem test_met_sessionless : let s := host [] id
    let m := host [(.PMC_STAGE_MINIMAL, 0, 1), (.PMC_STAGE_REASON, 0, 1)] (fun j => { j with recovery := some { port := 3, addr := 0, total := 0x700000, got := 0x6FFA98 } })
    (s.answers peer3 = true ∧ s.minimal = false ∧ s.stage ≠ 1 ∧ s.bringup = none) ∧ (m.answers peer3 = true ∧ m.minimal = true) ∧
    (∀ c, m.jnl.recovery = some c → c.port = peer3.port ∧ c.addr = peer3.addr) ∧ (m.jnl.recovery.map Recovery.got = some 0x6FFA98 ∧ 0x6FFA98 + 1384 ≤ 0x700000) ∧
    (0 ≠ 0x6FFA98 ∧ 1 ≤ 1384) ∧ (let u := host [(.PMC_STAGE_MINIMAL, 0, 1)] (fun j => { j with recovery := some { port := 3, addr := 0, total := 4, got := 4 } })
      u.jnl.recovery.map Recovery.got = u.jnl.recovery.map Recovery.total) ∧ (m.getF .PMC_STAGE_REASON 0 < 3 ∧ (m.setF .PMC_STAGE_REASON 0 6).getF .PMC_STAGE_REASON 0 = 6) ∧
    s.cred 1 = some (0xFF#8, []) ∧ (1#8).toNat < 16 ∧ s.jnl.sessions.length < 32 ∧ s.sess 5 = some { id := 5, cred := 1, last := 7, key := some [] } ∧ s.sess 6 = none ∧
    32 ≤ (List.replicate 32 ({ id := 5, cred := 1 } : Sess)).length ∧ rawOk [] = false ∧ rawOk (List.replicate 32 0#8) = false ∧
    (let raw := [0#8, 0#8, 0#8, 0#8, 6#8, 0#8] ++ List.replicate 26 (0#8 : Byte); rawOk raw = false ∧ hdr raw 4 2 ≠ 0 ∧ s.rawAuth raw = false) := by decide

/-- The recovered object passes where the checks of Table 19-2 find nothing. -/
theorem test_met_recovered (s : State) (h : s.secCheck [tyStation] (s.readList (fwBase (1 - s.pmc.slot)) 4) = 0) :
    ∃ c : Recovery, c.got = c.total ∧ s.secCheck [tyStation] (s.readList (fwBase (1 - s.pmc.slot)) c.total) = 0 :=
  ⟨{ port := 3, addr := 0, total := 4, got := 4 }, rfl, h⟩

/-- Acceptance: a SINGLE device, an ACTIVE one whose twin has reported or not, and what expires. -/
theorem test_met_entries : let w : Waiting := ⟨0, ⟨peer3, 5, 8, false, 0x201, [4#8]⟩, false, 0⟩
    let s := host [] (fun j => { j with waiting := [w], locks := j.locks.set 4 { holder := some 5 } })
    let a := s.setF .MIR_STAT_ROLE 0 3
    (s.jnl.waiting = w :: [] ∧ s.jnl.queue = [] ∧ s.commanding = true ∧ s.getF .JNL_STAT_ENST 0 ≠ 0 ∧ s.role ≠ 3) ∧
    (0 < 2 ^ 64 ∧ w.req.session < 65536 ∧ w.req.seq < 2 ^ 32 ∧ w.req.code < 65536 ∧ w.req.body.length ≤ 188) ∧ writerCode 0x300 = false ∧
    (∀ x ∈ s.jnl.notify, x.1 ≠ 0) ∧ w.req.body = [BitVec.ofNat 8 (4 : Fin 5).val] ∧ (a.role = 3 ∧ a.bit .JNL_STAT_SOLO 0 = false ∧ ∃ x ∈ a.jnl.waiting, x.acked = false) ∧
    (s.jnl.locks.toList.getD 4 {}).holder ≠ none ∧ s.jnl.head + s.jnl.waiting.length - s.jnl.reclaim < 65536 ∧ s.getF .THERM_STAT_THROTTLE 0 = 0 := by decide

/-- The system and the supervisory cores run, the twin's report has come in, and the lock and the session that expire are held. -/
theorem test_met_acceptance : let w : Waiting := ⟨0, ⟨peer3, 5, 8, false, 0x301, []⟩, true, 0⟩
    let s := host [] (fun j => { j with waiting := [w], locks := j.locks.set 4 { holder := some 5 } })
    s.sysRuns = true ∧ s.coresRun = true ∧ w.acked = true ∧ (s.setF .JNL_STAT_SOLO 0 1).bit .JNL_STAT_SOLO 0 = true ∧
    ((s.setF .MIR_STAT_ROLE 0 3).role = 3 ∧ (s.jnl.waiting.map (fun x => { x with acked := false })).find? (fun x => !x.acked) = some { w with acked := false }) ∧
    s.sess 5 = some { id := 5, cred := 1, last := 7, key := some [] } ∧ (s.setF .JNL_STAT_ENST 0 2).getF .JNL_STAT_ENST 0 ≠ 1 ∧
    [3#8, 1#8] = [BitVec.ofNat 8 (3 : Fin 5).val, BitVec.ofNat 8 (b2n true)] := by decide

/-- Firmware recovery by another peer and at another place, credentials that are not programmed, a resumed session of its own credential and of another, a session
whose new key waits, and raw datagrams in bring-up and without a session. -/
theorem test_met_session_edges : let s := host [] id
    let m := host [(.PMC_STAGE_MINIMAL, 0, 1)] (fun j => { j with recovery := some { port := 2, addr := 0, total := 4, got := 2, lastOff := 1 } })
    let raw := fun (code : Byte) => [0#8, 0#8, 0#8, 0#8, 0#8, 0#8, code, 0x7F#8] ++ List.replicate 24 (0#8 : Byte)
    (m.minimal = true ∧ m.answers peer3 = true ∧ m.jnl.recovery.map (fun c => decide (c.port ≠ peer3.port)) = some true ∧ m.coresRun = true) ∧
    (m.jnl.recovery.map (fun c => decide ((3#32).toNat ≠ c.got ∧ (3#32).toNat ≠ c.lastOff)) = some true) ∧
    s.cred 2 = none ∧ ((s.sess 5).map Sess.cred = some 1 ∧ 1 ≠ (0#8).toNat) ∧
    ((host [] (fun j => { j with sessions := [{ id := 5, cred := 1, newKey := some [] }] })).sess 5).map (fun x => x.newKey.isSome) = some true ∧
    (rawOk (raw 1#8) = false ∧ hdr (raw 1#8) 4 2 = 0 ∧ (codesU ++ codesS).contains (hdr (raw 1#8) 6 2) = false) ∧
    (s.setF .PMC_STAGE_STAGE 0 1).bringup = some 0x30 ∧ (0x700001#32).toNat > 0x700000 ∧ ((s.setF .PMC_STAGE_STAGE 0 1).minimal = false) := by decide

/-- A raw datagram of session 5 that carries the tag of its key is authentic, whatever KMAC256 is. -/
theorem test_met_raw_authentic : ∃ raw : List Byte, (host [] id).rawAuth raw = true ∧ hdr raw 4 2 ≠ 0 ∧ 32 ≤ raw.length ∧ rawOk raw = false ∧ (host [] id).answers peer3 = true := by
  let p : List Byte := [0x47#8, 0x41#8, 1#8, 0#8, 5#8, 0#8] ++ List.replicate 26 0#8
  obtain ⟨g, hg⟩ : ∃ g, Config.kmacTag [] (p ++ asciiBytes "AG96CMD") = g := ⟨_, rfl⟩
  have ht : rawTag (p ++ leBytes 16 g.toNat) = g := by
    show BitVec.ofNat 128 (leNat (leBytes 16 g.toNat)) = g
    apply BitVec.eq_of_toNat_eq
    have := g.isLt
    simp [leBytes, leNat, List.range, List.range.loop]; omega
  refine ⟨p ++ leBytes 16 g.toNat, ?_, by show (5 : Nat) ≠ 0; decide, by simp [p], rfl, by decide⟩
  have e : tagOk (some []) p g = true := by show (Config.kmacTag [] (p ++ asciiBytes "AG96CMD") == g) = true; rw [hg]; exact beq_self_eq_true _
  show (decide (16711 = 0x4147 ∧ 1 = 1 ∧ 48 + 0 ≤ 48) && (tagOk (some []) p (rawTag (p ++ leBytes 16 g.toNat)) || false)) = true
  rw [ht, e]; decide

/-- Execution: the entry of each kind is the oldest one not DONE. -/
theorem test_met_execution : let p := fun (t : State) => t.commanding = true ∧ t.bit .JNL_STAT_REPLAYING 0 = false ∧ 2 ≤ t.stage ∧ t.jnl.running = none ∧ t.jnl.done < t.jnl.head ∧ t.sec.job = none
    (p (committed 0x301 [] 8) ∧ (committed 0x301 [] 8).entCode 0 = 0x301) ∧
    (p (committed 0x400 (leBytes 2 2 ++ leBytes 2 4 ++ leBytes 4 86400) 8) ∧
      (committed 0x400 (leBytes 2 2 ++ leBytes 2 4 ++ leBytes 4 86400) 8).entBody 0 = leBytes 2 2 ++ leBytes 2 (leBytes 4 86400).length ++ leBytes 4 86400) ∧
    (p (committed 0x400 (leBytes 2 1 ++ leBytes 2 2 ++ leBytes 2 1024) 8) ∧
      (committed 0x400 (leBytes 2 1 ++ leBytes 2 2 ++ leBytes 2 1024) 8).entBody 0 = leBytes 2 1 ++ leBytes 2 (leBytes 2 1024).length ++ leBytes 2 1024) ∧
    (p (committed 0x500 serRec 8) ∧ (committed 0x500 serRec 8).entBody 0 = serRec ∧ (committed 0x500 serRec 8).ser.store ≠ serRec) ∧
    (p (committed 0x402 (List.replicate 9 0#8) 8) ∧ (committed 0x402 (List.replicate 9 0#8) 8).actBusy = false) ∧
    (p (committed 0x401 (leBytes 4 0) 8) ∧ (committed 0x401 (leBytes 4 0) 8).jnl.imgHeld = false) := by decide +kernel

/-- The rest of execution: SER's states, S4, the ring and its marks, and the replay. -/
theorem test_met_execution_states : let s := committed 0x300 [] 8
    let r := s.setF .JNL_STAT_REPLAYING 0 1
    let w := host [] (fun j => { j with widx := 300 })
    (s.getF .SER_SIN_DEMAND 0 = 0 ∧ (s.setF .SER_SIN_DEMAND 0 1).getF .SER_SIN_DEMAND 0 ≠ 0 ∧ (ser 4 (fun t => { t with record := [] })).checksDone = true) ∧
    ((s.setF .PMC_STAGE_STAGE 0 4).inS4 = true ∧ s.inS4 = false ∧ s.ser.cut = none) ∧ (s.nextConv (s.jnl.head - 0) 0 = some 0 ∧ 0 < s.jnl.consumed + 256) ∧
    ((w.jnl.widx + 2 ^ 32 - 1 - (299#32).toNat) % 2 ^ 32 = 0 ∧ (w.jnl.widx + 2 ^ 32 - 1 - (44#32).toNat) % 2 ^ 32 = 255 ∧ ¬((w.jnl.widx + 2 ^ 32 - 1 - (43#32).toNat) % 2 ^ 32 < 256) ∧
      w.jnl.consumed < 45) ∧ (r.bit .JNL_STAT_REPLAYING 0 = true ∧ 2 ≤ r.stage ∧ r.commanding = true ∧ r.jnl.head = r.jnl.done + 1 ∧ r.headOk 0 = true ∧ r.statusOk 0 = true ∧ r.jnl.mark ≤ 0) ∧
    ((after .convCmdDelivery s).entState 0 = 2 ∧ (after .convCmdDelivery s).statusOk 0 = true) ∧ (r.setEntry 0 1 255 []).entState 0 = 1 ∧
    (r.setBytes (entryAddr 0) 7 1).headOk 0 = false ∧ interruptCode 0x402 = true ∧ interruptCode 0x400 = false := by decide +kernel

/-- What execution meets beside its stage: the clocks, a record that the last run already wrote, one that it did not, SER's DEMAND and RECOVERY with a confirmed
record, a firmware buffer that was lost, the activation of firmware in S4, and the marks of the ring. -/
theorem test_met_execution_edges : let s := committed 0x500 serRec 8
    let r := fields (ser 4 id) [(.SER_STAT_CONFIRMED, 0, 1), (.SER_STARTUP_TPOOK, 0, 15), (.SER_STARTUP_SOUTOK, 0, 15)]
    (s.coresRun = true ∧ s.sysRuns = true ∧ s.commanding = true ∧ s.engOk (23 : Fin 24) = true) ∧
    (let t := { s with ser := { s.ser with store := serRec }, jnl := { s.jnl with rerunTo := 1 } }; t.ser.store = serRec ∧ t.jnl.done < t.jnl.rerunTo) ∧
    (s.jnl.rerunTo ≤ s.jnl.done ∧ (s.setF .SER_STAT_STATE 0 5).serState = 5) ∧
    (r.serState = 4 ∧ r.checksDone = true ∧ r.bit .SER_STAT_CONFIRMED 0 = true ∧ r.getF .SER_SIN_DEMAND 0 = 0) ∧
    (s.jnl.fwGone 0 100 = false ∧ ({ s.jnl with fwLost := [(99, 120)] } : JnlSt).fwGone 0 100 = true) ∧
    ((committed 0x601 [] 8).entCode 0 = 0x601 ∧ ((committed 0x601 [] 8).setF .PMC_STAGE_STAGE 0 4).inS4 = true) ∧
    (let u := { s with jnl := { s.jnl with cons := some 3, consFret := 0 }, regs := (s.setF .ATU_FRETNUM_FRETNUM 0 1).regs }
     u.jnl.cons = some 3 ∧ u.fretnum ≠ u.jnl.consFret ∧ 3 ≤ u.jnl.done + 65536) := by decide +kernel

/-! The claims' hypotheses: twin redundancy and security. -/

/-- A paired device in role `r` whose mirror lane group is UP. -/
def twin (r : Nat) (l : List (Fld × Nat × Nat)) : State :=
  { fields up ([(.MIR_STAT_ROLE, 0, r), (.MIR_STAT_ENST, 0, 1), (.MIR_STAT_MIRUP, 0, 1)] ++ l) with gated := 0#4 }

/-- A heartbeat of an ACTIVE twin in fret 4. -/
def beat : Heartbeat := { fret := 4#32, epoch := 2#16, role := 3#3, stage := 4#3, freq := 35184372#32, txoff := 0#32, armtok := 9#16, mute := 0#7, hofret := none,
                          jhead := 0#64, jdone := 0#64, pwcnt := 0#32, winlen := 0#16, synced := true, levels := [], defs := [], phil := [] }

/-- Epochs compare modulo 2^16 (R252). -/
theorem test_epochs : epochHigher 2 1 = true ∧ epochHigher 1 1 = false ∧ epochHigher 0 0xFFFF = true ∧ epochHigher 0x8001 1 = false ∧ epochHigher 0x8000 1 = true := by decide

/-- A heartbeat tells a STANDBY device its epoch and token; the ACTIVE one yields to a higher epoch. -/
theorem test_heartbeat : (after (.heartbeatReceived beat 0) (twin 2 [])).getF .CLG_ARMTOK_TOK 0 = 9 ∧ (after (.heartbeatReceived beat 0) (twin 3 [])).twin.yieldDue = true ∧
    (after (.heartbeatReceived beat 0) (twin 4 [])).role = 1 := by decide

/-- The frames' clauses: a device that hears in each role, one that does not, the delays, and the timebase to join. -/
theorem test_met_mirror_frames : let j := { twin 1 [] with twin := { joinAt := some (6, 35184372, 100), dlyAcc := List.replicate 8 5 } }
    State.reset.hears = false ∧ (∀ r ∈ [1, 2, 3, 4], (twin r []).hears = true ∧ (twin r []).role = r) ∧
    (let s := fields (twin 3 []) [(.ATU_STAT_ENST, 0, 1)]; s.paired = true ∧ s.mirUp = true ∧ s.getF .MIR_STAT_ENST 0 = 1 ∧ s.atuRuns = true ∧ s.atuOn = true ∧ beat.fret.toNat ≠ s.fretnum) ∧
    (twin 2 []).atuOn = false ∧ (inSsm (0x107FEF00#32).toNat 256 = true ∧ inSsm (0x10000000#32).toNat 256 = true) ∧
    (((3 :: (twin 2 []).twin.dlyAcc).take 8).length < 8 ∧ 8 ≤ ((3 :: j.twin.dlyAcc).take 8).length) ∧
    (j.twin.joinAt = some (6, 35184372, 100) ∧ j.role = 1 ∧ j.inS4 = false ∧ j.atuOn = false ∧ j.fabRuns = true ∧ j.getF .ATU_STAT_ENST 0 = 0) ∧
    (twin 1 []).twin.joinAt = none ∧ ((twin 3 [(.MIR_PEER0_ROLE, 0, 1)]).getF .MIR_PEER0_ROLE 0 = 1 ∧ (twin 3 []).twin.sideEqual = false) := by decide

/-- A difference to load at the master pair's period start. -/
theorem test_met_alignment : let s := { fields (twin 2 []) [(.PW_STAT_ENST, 0, 1)] with
      twin := { pwLoad := some (-5) }, pairs := up.pairs.set 0 { started := true } }
    s.twin.pwLoad = some (-5) ∧ s.paired = true ∧ s.role ≠ 3 ∧ s.master = 0 ∧ s.pairRuns s.master = true ∧ (s.pairs[s.master]).pos = 0 := by decide

/-- Takeover with every condition and with each failing one, yield, handover on both sides, and claim with the group UP and DOWN. -/
theorem test_met_role_changes : let s := { twin 2 [(.MIR_STAT_HBMISS, 0, 2), (.PMC_STAGE_STAGE, 0, 4)] with
      twin := { syncedThen := true, hoFret := some 0 } }
    let a := twin 3 [(.MIR_PEER0_ROLE, 0, 2), (.PMC_STAGE_STAGE, 0, 4), (.MIR_PEER0_STAGE, 0, 4), (.MIR_HOAT_AT, 0, 4)]
    let c := { twin 1 [(.MIR_STAT_MIRUP, 0, 0)] with tick := 400000000 }
    (s.role = 2 ∧ s.getF .MIR_STAT_HBMISS 0 = 2 ∧ s.twin.syncedThen = true ∧ s.inS4 = true ∧ s.bit .MIR_CFG_AUTOTK 0 = true) ∧
    (s.setF .PMC_STAGE_STAGE 0 3).inS4 = false ∧ (s.setF .MIR_CFG_AUTOTK 0 0).bit .MIR_CFG_AUTOTK 0 = false ∧ s.twin.hoFret = some s.fretnum ∧
    (a.role = 3 ∧ a.getF .MIR_PEER0_ROLE 0 = 2 ∧ a.mirUp = true ∧ a.inS4 = true ∧ a.getF .MIR_PEER0_STAGE 0 = 4 ∧ 4 ≤ (a.getF .MIR_HOAT_AT 0 + 2 ^ 32 - a.fretnum) % 2 ^ 32) ∧
    ((a.setF .MIR_HOAT_AT 0 3).getF .MIR_HOAT_AT 0 + 2 ^ 32 - a.fretnum) % 2 ^ 32 < 4 ∧
    (let h := fields a [(.MIR_CTRL_HANDOVER, 0, 1), (.MIR_HOAT_AT, 0, 0)]; h.bit .MIR_CTRL_HANDOVER 0 = true ∧ h.getF .MIR_HOAT_AT 0 = h.fretnum) ∧
    ({ a with twin := { yieldDue := true } } : State).twin.yieldDue = true ∧ ((a.setF .MIR_STAT_MIRUP 0 0).mirUp = false ∧ ({ quiet := 2 } : TwinSt).quiet = 2) ∧
    (c.role = 1 ∧ c.mirUp = false ∧ c.twin.lastUp + 400000000 ≤ c.tick) ∧ ((twin 1 []).mirUp = true ∧ (twin 1 []).getF .MIR_PEER0_ROLE 0 ≠ 3) ∧
    (let e := fields (twin 1 []) [(.CLG_EPOCH_EPOCH, 0, 0xFFFF), (.MIR_PEER0_EPOCH, 0, 0xFFFF)]; let e := { e with twin := { maxEpoch := some 0xFFFF } }
      e.getF .CLG_EPOCH_EPOCH 0 = 0xFFFF ∧ e.getF .MIR_PEER0_EPOCH 0 = 0xFFFF ∧ e.getF .MIR_CFG_SIDE 0 = 1 - 0xFFFF % 2 ∧ e.nextEpoch = 0) := by decide

/-- A heartbeat that is still to be sent; one in time and one that is late; a twin that takes up its copy, one that finishes it, and one that tells that it is STANDBY. -/
theorem test_met_heartbeats : let s := twin 3 [(.ATU_STAT_ENST, 0, 1)]
    let c := twin 1 [(.MIR_STAT_SYNCED, 0, 1), (.MIR_PEER0_ROLE, 0, 3)]
    (s.gated.getLsbD 3 = false ∧ s.twin.hbSent = false ∧ s.eccBad = [] ∧ s.eccSoft = []) ∧ serialLater s.fretnum beat.fret.toNat = false ∧
    (let l := twin 2 [(.ATU_STAT_ENST, 0, 1), (.ATU_FRETNUM_FRETNUM, 0, 9)]; l.atuOn = true ∧ serialLater l.fretnum beat.fret.toNat = true) ∧
    ((twin 4 []).twin.sideEqual = false ∧ beat.role = 3#3) ∧ ((twin 1 []).inS4 = false ∧ (twin 1 []).getF .ATU_STAT_ENST 0 = 0) ∧
    (c.role = 1 ∧ c.bit .MIR_STAT_SYNCED 0 = true ∧ c.getF .MIR_PEER0_ROLE 0 = 3 ∧ c.twin.sideEqual = false) ∧
    ({ beat with role := 2#3 }.role = 2#3 ∧ ({ s with twin := { copyDone := true } } : State).twin.copyDone = true) := by decide

/-- A state at a fret boundary and one between two, and the conditions of each change of role that the theorem above leaves out. -/
theorem test_met_role_edges : let a := { twin 3 [(.MIR_PEER0_ROLE, 0, 2), (.PMC_STAGE_STAGE, 0, 4), (.MIR_PEER0_STAGE, 0, 4), (.MIR_HOAT_AT, 0, 4)] with twin := { peerSynced := true } }
    let c := { twin 1 [] with twin := { heard := true } }
    a.atBoundary = true ∧ ({ a with tick := 5 } : State).atBoundary = false ∧ a.variant.full = true ∧ a.twin.peerSynced = true ∧ a.mirUp = true ∧ a.inS4 = true ∧
    a.getF .MIR_PEER0_STAGE 0 = 4 ∧ (a.getF .MIR_HOAT_AT 0 + 2 ^ 32 - a.fretnum) % 2 ^ 32 < 2 ^ 31 ∧ ¬(a.twin.yieldDue = true ∨ (a.mirUp = false ∧ 2 ≤ a.twin.quiet)) ∧
    (c.role = 1 ∧ c.mirUp = true ∧ c.twin.heard = true ∧ c.getF .MIR_PEER0_ROLE 0 ≠ 3 ∧ c.variant.full = true) ∧ (a.role ≠ 1) := by decide

/-- The identity key is derived in S2; the cores run for a verdict, and do not before S1. -/
theorem test_met_security_edges : let s := up.setF .PMC_STAGE_STAGE 0 2
    2 ≤ s.stage ∧ s.coresRun = true ∧ State.reset.coresRun = false := by decide

/-- An object with the wrong magic, and agents that reach DBG_CHAL0 and one that does not. -/
theorem test_met_security : leNat (([0#8] : List Byte).take 4) ≠ 0x53474F41 ∧ up.secCheck [tyToken] [0#8] ≠ 0 ∧ chalReader .debug = true ∧ chalReader (.sup 3) = true ∧
    chalReader .dma = false ∧ 2 ≤ (up.setF .PMC_STAGE_STAGE 0 2).stage ∧ (up.modSec (fun c => { c with engPend := some 1 })).sec.engPend = some 1 ∧
    up.sec.job = none := by decide

/-- A job on an object that the checks refuse. -/
theorem test_met_verdicts : let job : SecJob := ⟨0, false, 0, 0x74E0⟩
    let s := up.modSec (fun c => { c with job := some job })
    s.sec.job = some job ∧ s.secCheck [tyStation, tySer, tyRevoke] [] ≠ 0 ∧ s.secCheck [tyEngine] [] ≠ 0 := by decide

/-- Six pieces laid end to end, cut at their borders. -/
theorem pieces (a b c k g p : List Byte) (ha : a.length = 16) (hb : b.length = 16) (hc : c.length = 32) (hk : k.length = 64) (hg : g.length = 29792) :
    let l := (a ++ b) ++ (c ++ ((k ++ g) ++ p))
    l.length = 0x74E0 + p.length ∧ l.take 16 = a ∧ (l.drop 16).take 16 = b ∧ (l.drop 32).take 32 = c ∧ (l.drop 64).take 64 = k ∧ l.drop 0x74E0 = p := by
  refine ⟨?_, ?_, ?_, ?_, ?_, ?_⟩
  · simp only [List.length_append]; omega
  all_goals simp (disch := omega) [List.drop_append, List.drop_eq_nil_of_le, ha, hb, hc, hk]

/-- A signed object of a type under a slot's key, bound to this device, with the hash that its header needs and a key and a signature of zeros. -/
def signed (ty slot : Byte) (p : List Byte) : List Byte :=
  ((leBytes 4 0x53474F41 ++ [ty, slot, 0#8, 0#8] ++ leBytes 4 0 ++ leBytes 4 p.length) ++ devidBytes) ++
  (Config.shake p ++ ((List.replicate 64 0#8 ++ List.replicate 29792 0#8) ++ p))

/-- Slots 0 (FW), 1 (FW) and 2 (IMG) are programmed for that key, and a challenge of zeros has been drawn. -/
def keyed (job : Option SecJob) : State :=
  up.modSec (fun c => { c with
    slots := #v[⟨true, 1, false, some (Config.shake (List.replicate 64 0#8)), false⟩, ⟨true, 1, false, none, false⟩, ⟨true, 2, false, some (Config.shake (List.replicate 64 0#8)), false⟩, {}],
    chalOk := true, job := job })

/-- The cases of the verdicts: a token, a revocation of slot 1, station and SER firmware, and an engine image without engines. -/
def signedCases : List (Byte × Byte × List Byte) :=
  [(4#8, 0#8, List.replicate 32 0#8 ++ [15#8, 0#8]), (5#8, 0#8, [1#8]), (1#8, 0#8, []), (2#8, 0#8, []), (3#8, 2#8, [])]

/-- The fields of such an object. -/
theorem signed_fields (ty slot : Byte) (p : List Byte) (h : (Config.shake p).length = 32) :
    let o := signed ty slot p
    o.length = 0x74E0 + p.length ∧ leNat (o.take 4) = 0x53474F41 ∧ objType o = ty.toNat ∧ objSlot o = slot.toNat ∧ objArb o = 0 ∧ leNat ((o.drop 7).take 1) = 0 ∧
    objLen o = p.length % 2 ^ 32 ∧ objDevid o = devidBytes ∧ objPhash o = Config.shake p ∧ objPk o = List.replicate 64 0#8 ∧ o.drop 0x74E0 = p := by
  obtain ⟨g, hg, hl⟩ : ∃ g : List Byte, List.replicate 29792 0#8 = g ∧ g.length = 29792 := ⟨_, rfl, List.length_replicate ..⟩
  unfold signed
  rw [hg]
  obtain ⟨q1, q2, q3, q4, q5, q6⟩ := pieces (leBytes 4 0x53474F41 ++ [ty, slot, 0#8, 0#8] ++ leBytes 4 0 ++ leBytes 4 p.length) devidBytes
    (Config.shake p) (List.replicate 64 0#8) g p (by simp [leBytes]) (by simp [devidBytes]) h (List.length_replicate ..) hl
  have cut : ∀ k n o, List.take 16 o = leBytes 4 0x53474F41 ++ [ty, slot, 0#8, 0#8] ++ leBytes 4 0 ++ leBytes 4 p.length → k + n ≤ 16 →
      (o.drop k).take n = ((leBytes 4 0x53474F41 ++ [ty, slot, 0#8, 0#8] ++ leBytes 4 0 ++ leBytes 4 p.length).drop k).take n := by
    intro k n o ho hk
    rw [← ho, List.drop_take, List.take_take, Nat.min_eq_left (by omega)]
  refine ⟨q1, ?_, ?_, ?_, ?_, ?_, ?_, q3, q4, q5, q6⟩
  · have c := cut 0 4 _ q2 (by decide)
    rw [List.drop_zero] at c
    rw [c]
    show leNat (leBytes 4 0x53474F41) = _
    decide
  · rw [objType, cut 4 1 _ q2 (by decide)]; show ty.toNat + 256 * 0 = _; omega
  · rw [objSlot, cut 5 1 _ q2 (by decide)]; show slot.toNat + 256 * 0 = _; omega
  · rw [objArb, cut 6 1 _ q2 (by decide)]; rfl
  · rw [cut 7 1 _ q2 (by decide)]; rfl
  · rw [objLen, cut 12 4 _ q2 (by decide)]
    show leNat (leBytes 4 p.length) = _
    simp [leBytes, leNat, List.range, List.range.loop]; omega

/-- Where SHAKE256 answers 32 bytes and the signature verifies, the objects pass every check of Table 19-2. -/
theorem test_met_signed (h1 : ∀ p, (Config.shake p).length = 32) (h2 : ∀ a b c d, Config.slhVerify a b c d = true) (l : List Nat) :
    ∀ x ∈ signedCases, l.contains x.1.toNat = true → (keyed none).secCheck l (signed x.1 x.2.1 x.2.2) = 0 := by
  intro x hx hc
  obtain ⟨f1, f2, f3, f4, f5, f6, f7, f8, f9, f10, f11⟩ := signed_fields x.1 x.2.1 x.2.2 (h1 _)
  have fp : objPayload (signed x.1 x.2.1 x.2.2) = x.2.2.take (x.2.2.length % 2 ^ 32) := by unfold objPayload; rw [f7, f11]
  generalize signed x.1 x.2.1 x.2.2 = o at *
  simp only [signedCases, List.mem_cons, List.not_mem_nil, or_false] at hx
  simp only [State.secCheck, State.useOk, devOk, revokeTarget, tokenLevel, f1, f2, f3, f4, f5, f6, f7, f8, f9, f10, fp, h2, hc]
  have e0 : (keyed none).slotHash 0 = Config.shake (List.replicate 64 0#8) := rfl
  have e2 : (keyed none).slotHash 2 = Config.shake (List.replicate 64 0#8) := rfl
  rcases hx with rfl | rfl | rfl | rfl | rfl <;> simp [e0, e2] <;> decide

/-- Writing a list changes the memory alone. -/
theorem setList_mem (s : State) (a : Nat) (l : List Byte) : ∃ m, s.setList a l = { s with mem := m } := by
  induction l generalizing s a with
  | nil => exact ⟨s.mem, rfl⟩
  | cons b t ih =>
    obtain ⟨m, h⟩ := ih (s.setByte a b) (a + 1)
    exact ⟨m, by rw [State.setList, h]; rfl⟩

/-- A passing object lies where SEC looks for it: firmware and revocations in the inactive slot, images in the image buffer. -/
theorem test_met_verdict (h1 : ∀ p, (Config.shake p).length = 32) (h2 : ∀ a b c d, Config.slhVerify a b c d = true) (image : Bool) (l : List Nat) (start k : Nat) :
    ∀ x ∈ signedCases, l.contains x.1.toNat = true → ∃ (s : State) (job : SecJob), s.sec.job = some job ∧ job.image = image ∧ job.start = start ∧
      (∀ b, b = (if image then 0x10600000 else fwBase (1 - s.pmc.slot) + start) → (signed x.1 x.2.1 x.2.2).length ≤ k →
        s.readList b (min k job.total) = signed x.1 x.2.1 x.2.2) ∧ s.secCheck l (signed x.1 x.2.1 x.2.2) = 0 := by
  intro x hx hc
  obtain ⟨m, hm⟩ := setList_mem (keyed (some ⟨0, image, start, (signed x.1 x.2.1 x.2.2).length⟩)) (if image then 0x10600000 else fwBase 1 + start) (signed x.1 x.2.1 x.2.2)
  refine ⟨(keyed (some ⟨0, image, start, (signed x.1 x.2.1 x.2.2).length⟩)).setList (if image then 0x10600000 else fwBase 1 + start) (signed x.1 x.2.1 x.2.2),
    ⟨0, image, start, (signed x.1 x.2.1 x.2.2).length⟩, ?_, rfl, rfl, ?_, ?_⟩
  · rw [hm]; rfl
  · intro b hb hk
    have hs : ∀ t : State, t = { keyed (some ⟨0, image, start, (signed x.1 x.2.1 x.2.2).length⟩) with mem := m } → t.pmc.slot = 0 := fun t e => by rw [e]; rfl
    rw [hs _ hm] at hb
    rw [hb, Nat.min_eq_right hk]
    exact State.readList_setList _ _ _
  · refine Eq.trans ?_ (test_met_signed h1 h2 l x hx hc)
    rw [hm]; rfl

/-- A passing object of `q` that lies where a slot's firmware lies reads as itself. -/
theorem placed (h1 : ∀ p, (Config.shake p).length = 32) (h2 : ∀ a b c d, Config.slhVerify a b c d = true) (q : State) (ty : Byte) (b k : Nat)
    (hq : ∀ m, ({ q with mem := m } : State).secCheck [ty.toNat] (signed ty 0#8 []) = (keyed none).secCheck [ty.toNat] (signed ty 0#8 []))
    (hx : (ty, 0#8, []) ∈ signedCases) (hk : 0x74E0 ≤ k) :
    ∃ m, ({ q with mem := m } : State).secCheck [ty.toNat] (({ q with mem := m } : State).objectAt b k) = 0 := by
  obtain ⟨f1, _, _, _, _, _, f7, _⟩ := signed_fields ty 0#8 [] (h1 _)
  have q0 := test_met_signed h1 h2 [ty.toNat] (ty, 0#8, []) hx (by simp)
  have f7 : leNat (((signed ty 0#8 []).drop 12).take 4) = 0 := f7
  have q0 : (keyed none).secCheck [ty.toNat] (signed ty 0#8 []) = 0 := q0
  generalize signed ty 0#8 [] = o at *
  have hr := State.readList_setList q b o
  obtain ⟨m, e⟩ := setList_mem q b o
  rw [e] at hr
  have hl : o.length = 0x74E0 := f1
  refine ⟨m, ?_⟩
  have hw : ({ q with mem := m } : State).word (b + 12) = 0#32 := by
    rw [State.word, State.bytes_eq, ← State.readList_slice _ b o.length 12 4 (by rw [hl]; decide), hr, f7]
  have ho : ({ q with mem := m } : State).objectAt b k = o := by
    rw [State.objectAt, hw]
    show State.readList _ _ (min k 0x74E0) = o
    rw [Nat.min_eq_right hk, ← hl, hr]
  rw [ho, hq, q0]

/-- SAF's start: the SER object of slot 1 passes. -/
theorem test_met_ser_start (h1 : ∀ p, (Config.shake p).length = 32) (h2 : ∀ a b c d, Config.slhVerify a b c d = true) :
    ∃ s : State, s.pmc.safSlot = some 1 ∧ s.serState = 0 ∧ s.serOk 1 = true := by
  obtain ⟨m, h⟩ := placed h1 h2 ((keyed none).modPmc (fun p => { p with safSlot := some 1 })) 2#8 (fwBase 1 + 0x600000) 0x100000 (fun _ => rfl) (by decide) (by decide)
  exact ⟨_, rfl, rfl, beq_iff_eq.mpr h⟩

/-- The ROM's choice: the station object of slot 0 passes, and SAF has started already. -/
theorem test_met_firmware (h1 : ∀ p, (Config.shake p).length = 32) (h2 : ∀ a b c d, Config.slhVerify a b c d = true) :
    ∃ s : State, s.pmc.mmreq = false ∧ s.pmc.failcnt < 3 ∧ s.keysRevoked = false ∧ (s.modPmc PmcSt.startSlot).chooseSlot = some 0 ∧ s.serState ≠ 0 := by
  obtain ⟨m, h⟩ := placed h1 h2 (((keyed none).setF .SER_STAT_STATE 0 5).modPmc PmcSt.startSlot) 1#8 (fwBase 0) 0x600000 (fun _ => rfl) (by decide) (by decide)
  have e : ((keyed none).setF .SER_STAT_STATE 0 5).pmc.failcnt < 3 ∧ ((keyed none).setF .SER_STAT_STATE 0 5).serState ≠ 0 := by decide
  refine ⟨{ (keyed none).setF .SER_STAT_STATE 0 5 with mem := m }, rfl, e.1, rfl, ?_, e.2⟩
  exact if_pos (beq_iff_eq.mpr h)

/-- The image without engines: no sections, every one of them present, and what is read back has the hash of the header. -/
theorem test_met_image (s : State) (h1 : ∀ p, (Config.shake p).length = 32) : let o := signed 3#8 2#8 []
    imageSections (objPayload o) = some [] ∧ ([] : List Section).all (fun x => s.engOk x.eng) = true ∧ Config.shake (s.readBack (objPayload o) []) = objPhash o := by
  obtain ⟨_, _, _, _, _, _, f7, _, f9, _, f11⟩ := signed_fields 3#8 2#8 [] (h1 _)
  have fp : objPayload (signed 3#8 2#8 []) = [] := by unfold objPayload; rw [f7, f11]; rfl
  refine ⟨by rw [fp]; rfl, rfl, by rw [fp, f9]; rfl⟩

/-! The claims' hypotheses: the block as a whole. -/

/-- A queue with a command and an empty one. -/
theorem test_met_queue : ({ State.reset with pending := [.muteStateSet] } : State).pending = .muteStateSet :: [] ∧ State.reset.pending = [] := ⟨rfl, rfl⟩

/-- The reset state is well formed, and a step from it answers. -/
theorem test_met_well_formed : State.reset.Wf ∧ ∃ t, step State.reset = .next t := by
  refine ⟨⟨by decide, ?_, by decide⟩, _, rfl⟩
  intro e he; exact absurd he (by simp [State.reset])

/-- Legal instructions of each format, with every operand at its largest value. -/
theorem test_met_encodings : ∀ i ∈ [.add 23 10#4 31#5 31#5 31#5, .movl 0 0#4 31#5 0xFFFF#16, .addi 0 0#4 31#5 31#5 0xFFF#12, .shi 0 0#4 31#5 31#5 3#2 31#5,
    .br 0 7#4 0x3FFFFF#22, .cmp 0 0#4 7#3 3#2 31#5 31#5 12#4, .plog 0 0#4 7#3 7#3 7#3 3#3, .mts 0 0#4 0x11#12 31#5, .waitf 0 0#4 7#3 0xFFFF#16,
    .stwp 0 0#4 31#5 30#5 0xFFF#12, .plkc 0 0#4 3#2 31#5 31#5 31#5, Instr.endt 0 0#4], i.legal = true ∧ (engineOf i).isSome = true := by decide

/-! The checks of WellFormed. -/

/-- A frame of `k` bytes after the SOF. -/
def framed (k : Nat) : RxFrame := ⟨List.replicate k 0#8, false, 0⟩

/-- A request of session 1. -/
def reqOne : Req := ⟨peer3, 1#16, 1#32, false, 0#128, {}⟩

/-- Each check refuses its ill-formed command. -/
theorem test_ill_formed : ∀ i ∈ [.unmappedAccess .dma 0#40 none 0, .ackReceived 0 (framed 62), .telemetryReceived 0 (framed 64), .delayRespReceived 0 (framed 0) 0,
    .bulkReceived 0 (framed 62), .fwRecoverData peer3 0#32 (List.replicate 1388 0#8), .openSession peer3 0#8 0#16 (List.replicate 15 0#8),
    .attest reqOne (List.replicate 31 0#8) 0, .attest reqOne (List.replicate 32 0#8) (2 ^ 32), .imagePut reqOne 0#8 0#32 (List.replicate 1385 0#8),
    .convCmd reqOne (List.replicate 189 0#8), .paramWrite reqOne 1#16 (List.replicate 185 0#8), .serParam reqOne (List.replicate 63 0#8),
    .heartbeatReceived { beat with levels := [0#32] } 0, .winFrameReceived 0#32 (List.replicate 257 0#8), .jnlFrameReceived (List.replicate 255 0#8),
    .thermalSample [] 0#12, .debugToken [], .badformatRequest peer3 (List.replicate 1441 0#8), .add 0 8#4 3#5 1#5 2#5,
    Instr.ldwp 0 0#4 3#5 3#5 0#12], i.wf = false := by decide +kernel

/-- The same commands with their sizes right are well formed. -/
theorem test_well_formed : ∀ i ∈ [.unmappedAccess .dma 0#40 (some (List.replicate 4 0#8)) 4, .ackReceived 0 (framed 63), .telemetryReceived 0 (framed 63), .delayRespReceived 0 (framed 63) 0,
    .bulkReceived 0 (framed 63), .fwRecoverData peer3 0#32 (List.replicate 1384 0#8), .openSession peer3 0#8 0#16 (List.replicate 16 0#8),
    .attest reqOne (List.replicate 32 0#8) (2 ^ 32 - 1), .imagePut reqOne 0#8 0#32 (List.replicate 1384 0#8),
    .convCmd reqOne (List.replicate 188 0#8), .paramWrite reqOne 1#16 (List.replicate 184 0#8), .serParam reqOne (List.replicate 64 0#8),
    .heartbeatReceived beat 0, .winFrameReceived 0#32 (List.replicate 256 0#8), .jnlFrameReceived (List.replicate 256 0#8),
    .thermalSample (List.replicate 12 0#16) 0#12, .badformatRequest peer3 (List.replicate 1440 0#8), .add 0 10#4 3#5 1#5 2#5,
    Instr.ldwp 0 0#4 3#5 2#5 0#12, .tamperPin], i.wf = true := by decide +kernel

/-! More of the hypotheses: Safe Energy Removal, host ports, host commands, the twin and security. -/

/-- The repeat of a pulse that a demand cut short, a dark pulse in proof test without V24S, and the supplies' faults while RC16 runs. -/
theorem test_met_ser_edges : let r := ser 5 (fun t => { t with redoTpo := 2#4, redoSout := 2#4, cycles := 2, tpoFrom := 1, soutFrom := 1, tpoAt := 1, darkAt := 1 })
    (r.ser.redoTpo ≠ 0#4 ∧ r.ser.cycles = r.ser.tpoFrom + 1 ∧ r.getF .SER_SIN_DEMAND 0 = 0 ∧ r.ser.redoTpo.getLsbD 1 = true ∧
      (∀ j < 1, r.ser.redoTpo.getLsbD j = false) ∧ r.ser.tpoAt < r.ser.cycles) ∧
    (let u := ser 7 (fun t => { t with dark := some 3 }); u.ser.dark = some 3 ∧ u.serState = 7 ∧ u.sysRuns = true ∧ u.aonRuns = true) ∧
    (ser 6 (fun t => { t with dark := some 0 })).serState = 6 ∧ (up.modPmc (fun p => { p with safSlot := some 1 })).pmc.safSlot = some 1 := by decide

/-- A slot whose last bytes lie in a word that cannot be read, a pair's stopped clock, and a stream's sample that was expected. -/
theorem test_met_host_edges : let s := port []
    let b : State := { s with eccBad := [0x1000005C] }
    (32 + 61) / 4 * 4 = 92 ∧ rxSlot s 3 = 0x10000000 ∧ b.badWord (rxSlot s 3 + 92) = true ∧ s.powered 9 = true ∧ s.awake = true ∧
    (let e := s.modPrp 1 (fun x => { x with table := [⟨0, 5, 3, 0⟩] }); (e.prp[(1 : Fin 2)]).table = [⟨0, 5, 3, 0⟩]) ∧ (s.prp[(0 : Fin 2)]).table = [] ∧
    ({ s with svExp := Vector.replicate 16 (some 0x102) } : State).svExp[(15 : Fin 16)] = some 0x102 := by decide

/-- A copy for the partner that may go, one whose launch is lost, and a port with its queues empty. -/
theorem test_met_copies : let x : DupTx := { frame := [], stamped := false, tsid := 0, tref := 0, timing := {} }
    let y : DupTx := { x with timing := ⟨1, 0, 0⟩ }
    let late : State := { (port []).modHp 3 (fun h => { h with dups := [y] }) with clock := { sec := 0, nsf := 2000000 * 2 ^ 29 } }
    x.timing.ltype = 0 ∧ x.stamped = false ∧ ((port []).hp[3]).last = none ∧ (port []).hpUp 3 = true ∧ (port []).getF .HP_STAT_ENST 3 = 1 ∧
    ((late.hp[3]).dups = [y] ∧ (late.reachLaunch y.timing).launchDue y.timing = true ∧ (late.reachLaunch y.timing).launchLost y.timing = true) ∧
    ((port []).tqEmpty 3 0 = true ∧ ((port []).hp[3]).dups = []) ∧ (port []).portBus 3 = true := by decide

/-- A session with a request undecided, with one queued, and a journal that waits; entries DONE and not, with and without a notice asked. -/
theorem test_met_turns : let w : Waiting := ⟨0, ⟨peer3, 5, 8, false, 0x300, []⟩, false, 0⟩
    let b := host [] (fun j => { j with waiting := [w] })
    let q := host [] (fun j => { j with queue := [.seq ⟨peer3, 5, 8, false, 0x300, []⟩] })
    InTurn 5 (host [] id) ∧ ¬InTurn 5 b ∧ (b.jnl.queue.filter (fun x => Queued.session x == 5)).length < 8 ∧ ¬InTurn 5 q := by
  unfold InTurn
  decide

/-- A duplicate of an entry that is not DONE, whose notice is asked by an earlier copy, and of one that is. -/
theorem test_met_notices : let s := committed 0x301 [] 8
    let n : State := { s with jnl := { s.jnl with notify := [(0, peer3)] } }
    s.entState 0 ≠ 3 ∧ (∃ e ∈ n.jnl.notify, e.1 = 0) ∧ (s.setEntry 0 3 0 []).entState 0 = 3 := by decide +kernel

/-- A commit that has waited for the twin over a silence of five frets and over one of four; a lease that ends behind a request that waits. -/
theorem test_met_commit_edges : let w : Waiting := ⟨0, ⟨peer3, 5, 8, false, 0x301, []⟩, false, 0⟩
    let s := host [(.MIR_STAT_ROLE, 0, 3)] (fun j => { j with waiting := [w], locks := j.locks.set 4 { holder := some 5 } })
    let t := fun (k : Nat) => ({ s with twin := { silent := k } } : State)
    (5 ≤ ((t 5).passTo (w.since + 40000)).twin.silent ∧ ((t 4).passTo (w.since + 40000)).twin.silent < 5) ∧
    (s.role = 3 ∧ s.bit .JNL_STAT_SOLO 0 = false ∧ s.jnl.waiting.find? (fun x => !x.acked) = some w) ∧
    ((s.jnl.locks[4]).holder = some 5 ∧ s.commanding = true ∧ 2 ≤ s.stage ∧ s.bit .JNL_STAT_REPLAYING 0 = false ∧ s.jnl.expiring 4 = false ∧ w.req.code ≠ 0x0F00) ∧
    s.busRuns = true := by decide

/-- A credential that came unwrapped, an entry that runs again, LOCK_TAKE to be executed, a delivery behind the replay's scan, and the rest of a replay. -/
theorem test_met_rerun : let s := committed 0x201 [4#8] 8
    let r : State := { s with jnl := { s.jnl with done := 0, rerunTo := 1, scanned := true, credVal := [(0, [1#8, 2#8])], locks := Vector.replicate 5 {} } }
    r.entCode 0 = 0x201 ∧ r.entBody 0 = [BitVec.ofNat 8 (4 : Fin 5).val] ∧ r.entSession 0 < 65536 ∧ r.jnl.done < r.jnl.head ∧ r.jnl.scanned = true ∧
    r.jnl.credVal.find? (fun e => e.1 == 0) = some (0, 1#8 :: [2#8]) ∧ (r.jnl.locks[4]).holder = none ∧
    (let z := r.setF .JNL_STAT_REPLAYING 0 1; 2 ≤ z.stage ∧ z.bit .JNL_STAT_REPLAYING 0 = true ∧ z.jnl.scanned = true ∧ z.jnl.running = none ∧ z.sec.job = none) := by decide +kernel

/-- A valid wire frame of CTL and one whose CRC is wrong; what the delays of the mirror link keep, leave out and begin anew. -/
theorem test_met_wire : let w := mirWire 7 4 [3#8]
    mirCrcOk w = true ∧ mirCrcOk (w.take 11 ++ [0#8]) = false ∧ ctlOf w = some .copyDone ∧ ctlOf (mirWire 7 4 [0#8, 1#8]) = some (.side true) := by decide

/-- The measurements of the mirror's delay. -/
theorem test_met_mirror_delays : let s := twin 2 [(.MIR_DELAY_VALID, 0, 1)]
    let near := fun (l : List Nat) (r : Nat) => ((8 * r : Int) - l.sum).natAbs ≤ 5120
    let set := List.replicate 8 1000
    let old := List.replicate 7 5000
    s.bit .MIR_DELAY_VALID 0 = true ∧ (twin 2 []).bit .MIR_DELAY_VALID 0 = false ∧ near set 1640 ∧ ¬near set 1641 ∧
    (((5000 :: old).take 8).length = 8 ∧ ∀ r ∈ (5000 :: old).take 8, near ((5000 :: old).take 8) r) := by decide

/-- The frame of a session record, and of an entry, for a device that passes none on. -/
theorem test_met_jnl_frames : let e := fun (j : Nat) => leBytes 8 j ++ List.replicate 248 (0#8 : Byte)
    (e 5).length = 256 ∧ leNat ((e 5).take 8) ≠ 2 ^ 64 - 1 ∧ leNat ((e (2 ^ 64 - 1)).take 8) = 2 ^ 64 - 1 ∧ leNat (((e 5).drop 11).take 1) = 0 ∧
    leNat (((leBytes 8 5 ++ [0#8, 0#8, 1#8, 1#8] : List Byte).drop 11).take 1) ≠ 0 ∧ (twin 1 []).role = 1 ∧ (twin 2 []).role = 2 := by decide

/-- The mirror sends with the group UP and the unit ON; a rejoining device whose SIDE differs; the copy that an ACTIVE device sends; a heartbeat already sent. -/
theorem test_met_mirror_sends : let s := twin 3 [(.ATU_STAT_ENST, 0, 1), (.MIR_PEER0_ROLE, 0, 1)]
    s.mirSending = true ∧ State.reset.mirSending = false ∧ ({ s with twin := { hbSent := true } } : State).twin.hbSent = true ∧
    (s.mirUp = true ∧ s.mirRuns = true ∧ s.getF .MIR_PEER0_ROLE 0 = 1 ∧ s.twin.sideEqual = false) ∧ s.mirBus = true ∧
    ({ s with gated := 15#4 } : State).mirRuns = false ∧ (twin 1 []).minimal = false := by decide

/-- A device that takes the lead while it tracks a source behind its twin, and one that was not in follow mode; a claim while both have one SIDE. -/
theorem test_met_leads : let s := { twin 2 [(.ATU_STAT_SRC, 0, 0)] with twin := { follow := true } }
    (s.twin.follow = true ∧ s.src ≠ 2 ∧ s.holdover = false) ∧ (twin 2 []).twin.follow = false ∧
    (let c := { twin 1 [] with twin := { sideEqual := true, heard := true } }; c.mirUp = true ∧ c.twin.sideEqual = true ∧ c.role = 1) ∧
    (let q := { twin 3 [(.MIR_STAT_MIRUP, 0, 0)] with twin := { quiet := 2 } }; q.mirUp = false ∧ 2 ≤ q.twin.quiet ∧ q.role = 3 ∧ q.atBoundary = true) ∧
    State.reset.mirBus = false := by decide

/-- A token that finds SEC busy; the challenge's register for each agent; the pin low and high, and with VAUX absent; a trip that BLOCK asks for. -/
theorem test_met_sec_edges : let job : SecJob := ⟨0, true, 0, 0x100⟩
    (up.modSec (fun c => { c with job := some job })).sec.job = some job ∧ up.sec.tokens = [] ∧ up.coresRun = true ∧
    (∀ ag ∈ [Agent.sup 0, .debug, .saf, .dma, .hostDma], up.canAccess ag 0x40160020 = true) ∧ State.reset.canAccess (.sup 0) 0x40160020 = false ∧
    (up.bit .SEC_TAMP_PINLVL 0 = false ∧ up.aonRuns = true ∧ (up.setF .SEC_TAMP_PINLVL 0 1).bit .SEC_TAMP_PINLVL 0 = true) ∧
    (up.modPmc (fun p => { p with porSupply := true })).aonRuns = false ∧ (up.setF .SEC_TAMPCFG_BLOCK 0 1).bit .SEC_TAMPCFG_BLOCK 0 = true ∧ 2 ≤ up.stage ∧
    up.sec.engPend = none := by decide
end Sys2Proof.Tests
end

section
/-! SUPPORT. What a chain of updates may have written: the calculus of RegsBut, and the updates that leave everything but one engine and listed
register fields. -/
namespace Sys2Proof.Machine

/-! Reads after the other writes of a field. -/

section Reads
variable (s : State) {f g : Fld} (i j : Nat)

@[simp] theorem State.getF_countF_same (f : Fld) (k : Nat) :
    (s.countF f i k).getF f i = min (2 ^ f.width - 1) (s.getF f i + k) := by
  have hw : 0 < 2 ^ f.width := Nat.two_pow_pos _
  rw [State.countF, State.getF_setF_same, Nat.mod_eq_of_lt (by omega)]

theorem State.getF_countF_ne (k : Nat) (h : g ≠ f) : (s.countF f i k).getF g j = s.getF g j :=
  s.getF_setF_ne i j _ h

theorem State.getF_orF_ne (b : Nat) (h : g ≠ f) : (s.orF f i b).getF g j = s.getF g j :=
  s.getF_setF_ne i j _ h

theorem State.getF_setWhen_same (c : Bool) (f : Fld) (v : Nat) :
    (s.setWhen c f i v).getF f i = if c then v % 2 ^ f.width else s.getF f i := by
  cases c
  · rfl
  · exact s.getF_setF_same f i v

theorem State.getF_setWhen_ne (c : Bool) (v : Nat) (h : g ≠ f) : (s.setWhen c f i v).getF g j = s.getF g j := by
  cases c
  · rfl
  · exact s.getF_setF_ne i j v h

theorem State.testF_orF_same (f : Fld) {b : Nat} (h : b < f.width) : (s.orF f i b).testF f i b = true := by
  simp [State.orF, State.testF, Nat.testBit_mod_two_pow, h]

end Reads

/-! RegsBut. -/

section RegsBut
variable {s t u : State} {l l' : List (Fld × Nat)}

theorem RegsBut.refl (s : State) (l : List (Fld × Nat)) : RegsBut s s l := fun _ _ _ => rfl

theorem RegsBut.trans (h : RegsBut s t l) (h' : RegsBut t u l) : RegsBut s u l :=
  fun f i hi => (h' f i hi).trans (h f i hi)

theorem RegsBut.mono (h : RegsBut s t l) (hl : l ⊆ l') : RegsBut s t l' :=
  fun f i hi => h f i fun e he => hi e (hl he)

theorem RegsBut.setF (h : RegsBut s t l) {f : Fld} {i : Nat} (v : Nat) (hm : (f, i) ∈ l) : RegsBut s (t.setF f i v) l := by
  intro g j hj
  rw [State.getF_setF, if_neg (hj _ hm)]
  exact h g j hj

/-- A field that no listed entry names reads as before, whatever its index. -/
theorem RegsBut.getF_eq (h : RegsBut s t l) {f : Fld} (hf : ∀ e ∈ l, e.1 ≠ f) (i : Nat) : t.getF f i = s.getF f i :=
  h f i fun e he => Fld.key_ne i e.2 (hf e he).symm

end RegsBut

/-! Updates of engine `n` and of listed register fields. -/

/-- Nothing but register fields and engines changes. -/
def EngineFrame (s t : State) : Prop := t = { s with regs := t.regs, ce := t.ce }

theorem EngineFrame.trans {s t u : State} (h : EngineFrame s t) (h' : EngineFrame t u) : EngineFrame s u :=
  Eq.trans h' (congrArg (fun x : State => { x with regs := u.regs, ce := u.ce }) h)

/-- Nothing but engine `n` and the listed register fields changes. -/
structure EngineAlone (n : Fin 24) (l : List (Fld × Nat)) (s t : State) : Prop where
  frame : EngineFrame s t
  regs : RegsBut s t l
  others : ∀ m : Fin 24, m ≠ n → t.ce[m] = s.ce[m]

namespace EngineAlone
variable {n : Fin 24} {l l' : List (Fld × Nat)} {s t u : State}

theorem refl (n : Fin 24) (l : List (Fld × Nat)) (s : State) : EngineAlone n l s s :=
  ⟨rfl, .refl s l, fun _ _ => rfl⟩

theorem trans (h : EngineAlone n l s t) (h' : EngineAlone n l t u) : EngineAlone n l s u where
  frame := h.frame.trans h'.frame
  regs := h.regs.trans h'.regs
  others m hm := (h'.others m hm).trans (h.others m hm)

theorem mono (h : EngineAlone n l s t) (hl : l ⊆ l') : EngineAlone n l' s t :=
  ⟨h.frame, h.regs.mono hl, h.others⟩

theorem setF {f : Fld} {i : Nat} (h : EngineAlone n l s t) (v : Nat) (hm : (f, i) ∈ l) : EngineAlone n l s (t.setF f i v) :=
  h.trans ⟨rfl, (RegsBut.refl t l).setF v hm, fun _ _ => rfl⟩

theorem countF {f : Fld} {i : Nat} (h : EngineAlone n l s t) (k : Nat) (hm : (f, i) ∈ l) : EngineAlone n l s (t.countF f i k) :=
  h.setF _ hm

theorem orF {f : Fld} {i : Nat} (h : EngineAlone n l s t) (b : Nat) (hm : (f, i) ∈ l) : EngineAlone n l s (t.orF f i b) :=
  h.setF _ hm

theorem setWhen {f : Fld} {i : Nat} (h : EngineAlone n l s t) (c : Bool) (v : Nat) (hm : (f, i) ∈ l) :
    EngineAlone n l s (t.setWhen c f i v) := by
  cases c
  · exact h
  · exact h.setF v hm

theorem modCe (h : EngineAlone n l s t) (f : Eng → Eng) : EngineAlone n l s (t.modCe n f) :=
  h.trans ⟨rfl, .refl t l, fun m hm => State.modCe_ne t n m f hm⟩

/-- Where no activation takes effect, the end of an engine's work is such an update. -/
theorem engineEnds (h : EngineAlone n l s t) : EngineEnds n false l s t :=
  ⟨fun _ => ⟨h.frame, h.regs, h.others⟩, nofun⟩

end EngineAlone

/-! The activation (R151, R152). -/

/-- The names of the fields that an activation writes. -/
def swapNames : List Fld := [.CE_ACTSTAT_PEND, .CE_ACTSTAT_DONE, .CE_ACTCTRL_GO, .CE_STAT_ACTBANK, .CE_STGREQ_REQ]

/-- The fields that the toggle of engine `m`'s bank writes. -/
def bankFields (m : Fin 24) : List (Fld × Nat) :=
  (.CE_STAT_ACTBANK, m.val) :: (List.range 4).map (fun k => (.CE_STGREQ_REQ, m.val * 4 + k))

theorem State.swapFields_names (s : State) : ∀ e ∈ s.swapFields, e.1 ∈ swapNames := by
  intro e he
  simp only [State.swapFields, List.mem_append, List.mem_flatMap, List.mem_cons, List.mem_map] at he
  rcases he with (rfl | rfl | rfl | h) | ⟨m, -, rfl | ⟨k, -, rfl⟩⟩
  · simp [swapNames]
  · simp [swapNames]
  · simp [swapNames]
  · cases h
  · simp [swapNames]
  · simp [swapNames]

/-- Engine `m`'s banks have changed places. -/
def BankToggled (m : Fin 24) (s t : State) : Prop :=
  t.getF .CE_STAT_ACTBANK m = (1 - s.getF .CE_STAT_ACTBANK m) ∧
    (t.ce[m]).actArb = (s.ce[m]).stgArb ∧ (t.ce[m]).stgArb = (s.ce[m]).actArb ∧
    (t.ce[m]).actHash = (s.ce[m]).stgHash ∧ (t.ce[m]).stgHash = (s.ce[m]).actHash

/-- The images of engine `m`'s banks are as before. -/
def BankSame (m : Fin 24) (s t : State) : Prop :=
  t.getF .CE_STAT_ACTBANK m = s.getF .CE_STAT_ACTBANK m ∧
    (t.ce[m]).actArb = (s.ce[m]).actArb ∧ (t.ce[m]).stgArb = (s.ce[m]).stgArb ∧
    (t.ce[m]).actHash = (s.ce[m]).actHash ∧ (t.ce[m]).stgHash = (s.ce[m]).stgHash

theorem BankToggled.of_same {m : Fin 24} {s t u : State} (h : BankSame m s t) (h' : BankToggled m t u) : BankToggled m s u := by
  obtain ⟨b, a, g, c, d⟩ := h
  obtain ⟨b', a', g', c', d'⟩ := h'
  exact ⟨b'.trans (congrArg _ b), a'.trans g, g'.trans a, c'.trans d, d'.trans c⟩

theorem BankToggled.then_same {m : Fin 24} {s t u : State} (h : BankToggled m s t) (h' : BankSame m t u) : BankToggled m s u := by
  obtain ⟨b, a, g, c, d⟩ := h
  obtain ⟨b', a', g', c', d'⟩ := h'
  exact ⟨b'.trans b, a'.trans a, g'.trans g, c'.trans c, d'.trans d⟩

theorem BankSame.trans {m : Fin 24} {s t u : State} (h : BankSame m s t) (h' : BankSame m t u) : BankSame m s u := by
  obtain ⟨b, a, g, c, d⟩ := h
  obtain ⟨b', a', g', c', d'⟩ := h'
  exact ⟨b'.trans b, a'.trans a, g'.trans g, c'.trans c, d'.trans d⟩

theorem SwapKeeps.trans {m : Fin 24} {s t u : State} (h : SwapKeeps m s t) (h' : SwapKeeps m t u) : SwapKeeps m s u := by
  unfold SwapKeeps at h'
  rw [h] at h'
  exact h'

theorem SwapKeeps.of_eq {m : Fin 24} {s t : State} (h : t.ce[m] = s.ce[m]) : SwapKeeps m s t := by
  rw [SwapKeeps, h]

/-- An activation leaves what a task sees of its engine. -/
theorem SwapKeeps.registers {n : Fin 24} {s t : State} (h : SwapKeeps n s t) :
    (t.ce[n]).g = (s.ce[n]).g ∧ (t.ce[n]).p = (s.ce[n]).p ∧ (t.ce[n]).acc = (s.ce[n]).acc ∧ (t.ce[n]).flags = (s.ce[n]).flags ∧
      (t.ce[n]).allFlags = (s.ce[n]).allFlags :=
  have h' : t.ce[n] = _ := h
  ⟨(congrArg Eng.g h' :), (congrArg Eng.p h' :), (congrArg Eng.acc h' :), (congrArg Eng.flags h' :), (congrArg Eng.allFlags h' :)⟩

/-- The staging unit list of engine `m` shows what was held for its active bank. -/
def State.showHeldUnits (s : State) (m : Fin 24) : State :=
  forIdx (n := 4) (fun k t => t.setF .CE_STGREQ_REQ (m * 4 + k) ((s.ce[m]).actUnits[k]).toNat) s

theorem State.showHeldUnits_alone (s : State) (m : Fin 24) : EngineAlone m (bankFields m) s (s.showHeldUnits m) :=
  List.foldlRecOn _ _ (.refl m _ s) fun _ ht _ _ => ht.setF _ (by simp [bankFields])

@[simp] theorem State.showHeldUnits_ce (s : State) (m : Fin 24) : (s.showHeldUnits m).ce = s.ce :=
  List.foldlRecOn (motive := fun t : State => t.ce = s.ce) _ _ rfl fun _ ht _ _ => ht

theorem State.toggleBank_eq (s : State) (m : Fin 24) :
    s.toggleBank m = ((s.showHeldUnits m).setF .CE_STAT_ACTBANK m (s.stgBank m)).modCe m (fun e =>
      { e with actUnits := Vector.ofFn (fun (k : Fin 4) => BitVec.ofNat 32 (s.getF .CE_STGREQ_REQ (m * 4 + k))),
               actArb := e.stgArb, stgArb := e.actArb, actHash := e.stgHash, stgHash := e.actHash }) := rfl

theorem State.toggleBank_alone (s : State) (m : Fin 24) : EngineAlone m (bankFields m) s (s.toggleBank m) := by
  rw [State.toggleBank_eq]
  exact ((s.showHeldUnits_alone m).setF _ (by simp [bankFields])).modCe _

theorem State.toggleBank_keeps (s : State) (m k : Fin 24) : SwapKeeps k s (s.toggleBank m) := by
  by_cases h : k = m
  · subst h
    simp only [SwapKeeps, State.toggleBank_eq, State.modCe_same]
    simp
  · exact .of_eq ((s.toggleBank_alone m).others k h)

theorem State.toggleBank_toggled (s : State) (m : Fin 24) : BankToggled m s (s.toggleBank m) := by
  have hw : Fld.CE_STAT_ACTBANK.width = 1 := rfl
  have hb : (1 - s.getF .CE_STAT_ACTBANK m) % 2 = 1 - s.getF .CE_STAT_ACTBANK m := by omega
  simp only [BankToggled, State.toggleBank_eq, State.modCe_same]
  simp [State.stgBank, hw, hb]

theorem State.toggleBank_same (s : State) {m k : Fin 24} (h : k ≠ m) : BankSame k s (s.toggleBank m) := by
  have ha := s.toggleBank_alone m
  have hb : (s.toggleBank m).getF .CE_STAT_ACTBANK k = s.getF .CE_STAT_ACTBANK k := by
    refine ha.regs _ _ fun e he hk => ?_
    obtain ⟨hf, hi⟩ := Fld.key_inj hk
    simp only [bankFields, List.mem_cons, List.mem_map] at he
    rcases he with rfl | ⟨j, -, rfl⟩
    · have : k.val = m.val := by simpa [Nat.mod_eq_of_lt (show k.val < 1024 by omega), Nat.mod_eq_of_lt (show m.val < 1024 by omega)] using hi
      exact h (Fin.ext this)
    · cases hf
  rw [BankSame, ha.others k h]
  exact ⟨hb, rfl, rfl, rfl, rfl⟩

/-- The banks of the engines of `L` have changed places, and nothing else has changed. -/
structure BanksToggled (L : List (Fin 24)) (s t : State) : Prop where
  frame : EngineFrame s t
  regs : RegsBut s t (L.flatMap bankFields)
  keeps : ∀ m, SwapKeeps m s t
  others : ∀ m ∉ L, BankSame m s t
  toggled : ∀ m ∈ L, BankToggled m s t

theorem State.foldl_toggleBank (L : List (Fin 24)) (hL : L.Nodup) (s : State) :
    BanksToggled L s (L.foldl (fun t m => t.toggleBank m) s) := by
  induction L generalizing s with
  | nil => exact ⟨rfl, .refl s _, fun m => .of_eq rfl, fun m _ => ⟨rfl, rfl, rfl, rfl, rfl⟩, nofun⟩
  | cons x xs ih =>
    obtain ⟨hx, hxs⟩ := List.nodup_cons.1 hL
    have h1 := s.toggleBank_alone x
    obtain ⟨frame, regs, keeps, others, toggled⟩ := ih hxs (s.toggleBank x)
    rw [List.foldl_cons]
    refine ⟨h1.frame.trans frame, ?_, fun m => (s.toggleBank_keeps x m).trans (keeps m), fun m hm => ?_, fun m hm => ?_⟩
    · rw [List.flatMap_cons]
      exact (h1.regs.mono (List.subset_append_left _ _)).trans (regs.mono (List.subset_append_right _ _))
    · obtain ⟨hne, hn⟩ := not_or.1 (List.mem_cons.not.1 hm)
      exact (s.toggleBank_same hne).trans (others m hn)
    · by_cases hmx : m = x
      · subst hmx
        exact (s.toggleBank_toggled m).then_same (others m hx)
      · exact .of_same (s.toggleBank_same hmx) (toggled m ((List.mem_cons.1 hm).resolve_left hmx))

/-- The state but for its register fields, its engines and the activation's marks of SEC and PMC. -/
def SwapFrame (s t : State) : Prop :=
  t = { s with regs := t.regs, ce := t.ce, sec := { s.sec with engPend := t.sec.engPend, engAt := t.sec.engAt },
               pmc := { s.pmc with actDue := t.pmc.actDue, actAny := t.pmc.actAny } }

theorem State.actList_nodup (s : State) : s.actList.Nodup := (List.nodup_finRange 24).filter _

/-- What an activation does (R152). -/
theorem State.actSwap_spec (s : State) :
    SwapFrame s s.actSwap ∧ RegsBut s s.actSwap s.swapFields ∧ Swapped s s.actSwap ∧ ∀ m, SwapKeeps m s s.actSwap := by
  obtain ⟨frame, regs, keeps, -, toggled⟩ := State.foldl_toggleBank s.actList s.actList_nodup s
  have hce : s.actSwap.ce = (s.actList.foldl (fun t m => t.toggleBank m) s).ce := rfl
  have hb : ∀ j, s.actSwap.getF .CE_STAT_ACTBANK j = (s.actList.foldl (fun t m => t.toggleBank m) s).getF .CE_STAT_ACTBANK j := by
    intro j
    simp only [State.actSwap, State.getF_setF_ne, ne_eq, reduceCtorEq, not_false_eq_true]
    rfl
  refine ⟨?_, ?_, ⟨?_, ?_, ?_, fun m hm => ?_⟩, fun m => ?_⟩
  · unfold SwapFrame State.actSwap
    generalize s.actList.foldl (fun t m => t.toggleBank m) s = u at frame ⊢
    obtain ⟨r, c, rfl⟩ : ∃ r c, u = { s with regs := r, ce := c } := ⟨_, _, frame⟩
    rfl
  · have hs : RegsBut s _ s.swapFields := regs.mono (List.subset_append_right _ _)
    have hu : ∀ u : State, u.regs = (s.actList.foldl (fun t m => t.toggleBank m) s).regs → RegsBut s u s.swapFields := by
      intro u hu f i hi
      rw [State.getF, hu]
      exact hs f i hi
    exact (((hu _ rfl).setF 0 (by simp [State.swapFields])).setF 0 (by simp [State.swapFields])).setF 1 (by simp [State.swapFields])
  · simp [State.actSwap, State.bit, State.getF_setF_ne]
  · simp [State.actSwap, State.bit, State.getF_setF_ne]
  · have hw : Fld.CE_ACTSTAT_DONE.width = 1 := rfl
    simp [State.actSwap, State.bit, hw]
  · have := toggled m hm
    rw [BankToggled, ← hb, ← hce] at this
    exact this
  · have := keeps m
    rw [SwapKeeps, ← hce] at this
    exact this

end Sys2Proof.Machine
end

section
/-! SUPPORT. The end of a task and an exception: what each of them gives, with the activation that waits for the engine (R106, R114, R151). -/
namespace Sys2Proof.Machine

/-! The activation that waits for its engines to be OFF. -/

/-- A pending activation takes effect in this state. -/
def State.actDue (s : State) : Bool := s.bit .CE_ACTSTAT_PEND 0 && s.actAllOff

theorem State.actOffDone_due {s : State} (h : s.actDue = true) : s.actOffDone = s.actSwap := if_pos h

theorem State.actOffDone_idle {s : State} (h : s.actDue = false) : s.actOffDone = s := by
  unfold State.actDue at h
  simp [State.actOffDone, h]

/-- What an activation does not name stays. -/
theorem State.getF_actOffDone (s : State) {f : Fld} (hf : f ∉ swapNames) (i : Nat) : s.actOffDone.getF f i = s.getF f i := by
  cases h : s.actDue
  · rw [State.actOffDone_idle h]
  · rw [State.actOffDone_due h]
    obtain ⟨-, hregs, -, -⟩ := s.actSwap_spec
    refine hregs.getF_eq (fun e he hef => hf ?_) i
    rw [← hef]
    exact s.swapFields_names e he

theorem State.actOffDone_keeps (s : State) (n : Fin 24) : SwapKeeps n s s.actOffDone := by
  cases h : s.actDue
  · rw [State.actOffDone_idle h]
    exact .of_eq rfl
  · rw [State.actOffDone_due h]
    obtain ⟨-, -, -, hkeeps⟩ := s.actSwap_spec
    exact hkeeps n

theorem State.mem_actList (s : State) (m : Fin 24) : m ∈ s.actList ↔ s.actMasked m = true := by
  simp [State.actList]

theorem State.actList_congr {s t : State} (h : t.getF .CE_ACTMASK_MASK 0 = s.getF .CE_ACTMASK_MASK 0) : t.actList = s.actList := by
  simp only [State.actList, State.actMasked, State.testF, h]

theorem State.swapFields_congr {s t : State} (h : t.getF .CE_ACTMASK_MASK 0 = s.getF .CE_ACTMASK_MASK 0) : t.swapFields = s.swapFields := by
  simp only [State.swapFields, State.actList_congr h]

/-- The images of engine `e`'s banks are those of `e'`. -/
def Eng.SameImages (e e' : Eng) : Prop :=
  e.actArb = e'.actArb ∧ e.stgArb = e'.stgArb ∧ e.actHash = e'.actHash ∧ e.stgHash = e'.stgHash

/-- The fields that say which activation waits and what it changes. -/
def actNames : List Fld := .CE_ACTMASK_MASK :: swapNames

section
variable {n : Fin 24} {l : List (Fld × Nat)} {s t : State}

theorem EngineAlone.bankSame (h : EngineAlone n l s t) (hl : ∀ e ∈ l, e.1 ∉ actNames) (hi : (t.ce[n]).SameImages s.ce[n])
    (m : Fin 24) : BankSame m s t := by
  refine ⟨h.regs.getF_eq (fun e he hef => hl e he (by rw [hef]; simp [actNames, swapNames])) m, ?_⟩
  by_cases hm : m = n
  · subst hm
    exact hi
  · rw [h.others m hm]
    exact ⟨rfl, rfl, rfl, rfl⟩

/-- The end of an engine's work lets a pending activation take effect where its engines are then all OFF (R151). -/
theorem EngineAlone.actOffDone (h : EngineAlone n l s t) (hl : ∀ e ∈ l, e.1 ∉ actNames) (hi : (t.ce[n]).SameImages s.ce[n]) :
    EngineEnds n t.actDue l s t.actOffDone := by
  cases hd : t.actDue
  · rw [State.actOffDone_idle hd]
    exact h.engineEnds
  · rw [State.actOffDone_due hd]
    obtain ⟨hframe, hregs, ⟨hpend, hgo, hdone, hbanks⟩, hkeeps⟩ := t.actSwap_spec
    have hmask : t.getF .CE_ACTMASK_MASK 0 = s.getF .CE_ACTMASK_MASK 0 :=
      h.regs.getF_eq (fun e he hef => hl e he (by rw [hef]; simp [actNames])) 0
    rw [State.swapFields_congr hmask] at hregs
    rw [State.actList_congr hmask] at hbanks
    refine ⟨nofun, fun _ => ⟨?_, ?_, ⟨hpend, hgo, hdone, fun m hm => ?_⟩, fun m hm => ?_⟩⟩
    · obtain ⟨r, c, rfl⟩ : ∃ r c, t = { s with regs := r, ce := c } := ⟨_, _, h.frame⟩
      exact hframe
    · exact (h.regs.mono (List.subset_append_left _ _)).trans (hregs.mono (List.subset_append_right _ _))
    · exact BankToggled.of_same (h.bankSame hl hi m) (hbanks m hm)
    · exact (SwapKeeps.of_eq (h.others m hm)).trans (hkeeps m)

/-- Whether an activation takes effect turns on engine `n` alone where the others are as before. -/
theorem State.actDue_eq (hp : t.getF .CE_ACTSTAT_PEND 0 = s.getF .CE_ACTSTAT_PEND 0)
    (hm : t.getF .CE_ACTMASK_MASK 0 = s.getF .CE_ACTMASK_MASK 0)
    (ho : ∀ m : Fin 24, m ≠ n → t.getF .CE_STAT_ENST m = s.getF .CE_STAT_ENST m) :
    t.actDue = (s.actFree n && (!s.actMasked n || t.getF .CE_STAT_ENST n == 0)) := by
  have hpend : t.bit .CE_ACTSTAT_PEND 0 = s.bit .CE_ACTSTAT_PEND 0 := by rw [State.bit, hp, State.bit]
  rw [State.actDue, State.actFree, State.actAllOff, State.actList_congr hm, hpend, Bool.and_assoc]
  congr 1
  rw [Bool.eq_iff_iff]
  simp only [Bool.and_eq_true, Bool.or_eq_true, List.all_eq_true, State.mem_actList, Bool.not_eq_true', beq_iff_eq]
  constructor
  · intro h
    refine ⟨fun m hmask => ?_, ?_⟩
    · by_cases hmn : m = n
      · exact .inl hmn
      · exact .inr ((ho m hmn).symm.trans (h m hmask))
    · cases hn : s.actMasked n
      · exact .inl rfl
      · exact .inr (h n hn)
  · rintro ⟨hothers, hn⟩ m hmask
    by_cases hmn : m = n
    · subst hmn
      exact hn.resolve_left (by simp [hmask])
    · exact (ho m hmn).trans ((hothers m hmask).resolve_left hmn)

end

/-! The end of a task (R114). -/

/-- The end of a task before an activation that waited for it. -/
def State.taskEnded (s : State) (n : Fin 24) (cyc : Nat) : State :=
  let len := cyc - (s.ce[n]).tm.first.getD cyc
  let s1 := (s.setBit .CE_STAT_RUNNING n false).setF .CE_LASTCYC_LAST n len
  let s2 := s1.setF .CE_MAXCYC_MAX n (max (s.getF .CE_MAXCYC_MAX n) (len % 2 ^ 32))
  let s3 := s2.setWhen (!(s.ce[n]).committed) .CE_CSTAT_NOCOMMIT n 1
  let s4 := s3.setWhen (s.getF .CE_STAT_ENST n == enstDraining) .CE_STAT_ENST n enstOff
  s4.modCe n (fun e => { e with waitf := none, endDue := 0 })

theorem State.endTask_eq (s : State) (n : Fin 24) (cyc : Nat) : s.endTask n cyc = (s.taskEnded n cyc).actOffDone := rfl

/-- The names of the fields that the end of a task writes. -/
def taskNames : List Fld := [.CE_STAT_RUNNING, .CE_STAT_ENST, .CE_LASTCYC_LAST, .CE_MAXCYC_MAX, .CE_CSTAT_NOCOMMIT]

theorem taskFields_names {n : Fin 24} {e : Fld × Nat} (h : e ∈ taskFields n) : e.1 ∈ taskNames :=
  show e.1 ∈ (taskFields n).map Prod.fst from List.mem_map_of_mem h

theorem taskFields_idx (n : Fin 24) : ∀ e ∈ taskFields n, e.2 = n.val := by simp [taskFields]

section
variable (s : State) (n : Fin 24) (cyc : Nat)

theorem State.taskEnded_alone : EngineAlone n (taskFields n) s (s.taskEnded n cyc) := by
  unfold State.taskEnded State.setBit
  exact ((((((EngineAlone.refl n _ s).setF _ (by simp [taskFields])).setF _ (by simp [taskFields])).setF _
    (by simp [taskFields])).setWhen _ _ (by simp [taskFields])).setWhen _ _ (by simp [taskFields])).modCe _

theorem State.taskEnded_ce : (s.taskEnded n cyc).ce[n] = { s.ce[n] with waitf := none, endDue := 0 } := by
  have hce (u : State) (c : Bool) (f : Fld) (i v : Nat) : (u.setWhen c f i v).ce = u.ce := by cases c <;> rfl
  simp only [State.taskEnded, State.modCe_same, hce]
  rfl

theorem State.taskEnded_running : (s.taskEnded n cyc).bit .CE_STAT_RUNNING n = false := by
  have h : (s.taskEnded n cyc).getF .CE_STAT_RUNNING n = 0 := by
    simp [State.taskEnded, State.setBit, b2n, State.getF_setWhen_ne, State.getF_setF_ne]
  simp [State.bit, h]

/-- A DRAINING engine is OFF after its task, any other as before. -/
theorem State.taskEnded_enst :
    (s.taskEnded n cyc).getF .CE_STAT_ENST n = if s.getF .CE_STAT_ENST n = 2 then 0 else s.getF .CE_STAT_ENST n := by
  simp [State.taskEnded, State.setBit, State.getF_setWhen_same, State.getF_setWhen_ne, State.getF_setF_ne, enstDraining, enstOff]

theorem State.taskEnded_actDue : (s.taskEnded n cyc).actDue = s.actEnds n := by
  have h := (s.taskEnded_alone n cyc).regs
  rw [State.actDue_eq (h.getF_eq (by simp [taskFields]) 0) (h.getF_eq (by simp [taskFields]) 0) fun m hm => ?_, State.taskEnded_enst,
    State.actEnds, Bool.or_assoc]
  · congr 2
    rw [Bool.eq_iff_iff]
    simp only [Bool.or_eq_true, beq_iff_eq]
    split <;> omega
  · refine h _ _ fun e he hk => hm (Fin.ext ?_)
    have := (Fld.key_inj hk).2
    rw [taskFields_idx n e he] at this
    omega

theorem State.endTask_running : (s.endTask n cyc).bit .CE_STAT_RUNNING n = false := by
  rw [State.endTask_eq, State.bit, State.getF_actOffDone _ (by simp [swapNames])]
  exact s.taskEnded_running n cyc

/-- What neither the end of a task nor an activation names stays. -/
theorem State.getF_endTask {f : Fld} (hf : f ∉ taskNames ++ swapNames) (i : Nat) : (s.endTask n cyc).getF f i = s.getF f i := by
  have h : f ∉ swapNames := fun hm => hf (List.mem_append_right _ hm)
  rw [State.endTask_eq, State.getF_actOffDone _ h]
  refine (s.taskEnded_alone n cyc).regs.getF_eq (fun e he hef => hf (List.mem_append_left _ ?_)) i
  rw [← hef]
  exact taskFields_names he

/-- The end of a task leaves the engine's registers. -/
theorem State.endTask_registers : ((s.endTask n cyc).ce[n]).g = (s.ce[n]).g ∧ ((s.endTask n cyc).ce[n]).p = (s.ce[n]).p ∧
    ((s.endTask n cyc).ce[n]).acc = (s.ce[n]).acc ∧ ((s.endTask n cyc).ce[n]).flags = (s.ce[n]).flags ∧
    ((s.endTask n cyc).ce[n]).allFlags = (s.ce[n]).allFlags := by
  have h := ((s.taskEnded n cyc).actOffDone_keeps n).registers
  rw [State.taskEnded_ce] at h
  exact h

end

/-- The end of a task after updates of the engine and of listed fields that do not bear on its ENST or on an activation. -/
theorem EngineAlone.endTask {n : Fin 24} {l : List (Fld × Nat)} {s t : State} (h : EngineAlone n l s t)
    (hl : ∀ e ∈ l, e.1 ∉ .CE_STAT_ENST :: actNames) (hp : (t.ce[n]).SameImages s.ce[n]) (cyc : Nat) :
    EngineEnds n (s.actEnds n) (l ++ taskFields n) s (t.endTask n cyc) := by
  have hsame {f : Fld} (hf : f ∈ .CE_STAT_ENST :: actNames) (i : Nat) : t.getF f i = s.getF f i :=
    h.regs.getF_eq (fun e he hef => hl e he (hef ▸ hf)) i
  have hends : t.actEnds n = s.actEnds n := by
    have hm := hsame (f := .CE_ACTMASK_MASK) (by simp [actNames]) 0
    simp only [State.actEnds, State.actFree, State.actMasked, State.testF, State.bit, State.actList_congr hm, hm,
      hsame (f := .CE_STAT_ENST) (by simp), hsame (f := .CE_ACTSTAT_PEND) (by simp [actNames, swapNames])]
  have hall : EngineAlone n (l ++ taskFields n) s (t.taskEnded n cyc) :=
    (h.mono (List.subset_append_left _ _)).trans ((t.taskEnded_alone n cyc).mono (List.subset_append_right _ _))
  rw [← hends, ← t.taskEnded_actDue n cyc, State.endTask_eq]
  refine hall.actOffDone (fun e he => ?_) ?_
  · rcases List.mem_append.1 he with he | he
    · exact fun hm => hl e he (List.mem_cons_of_mem _ hm)
    · have hdisj : ∀ f ∈ taskNames, f ∉ actNames := by simp [taskNames, actNames, swapNames]
      exact hdisj e.1 (taskFields_names he)
  · rw [State.taskEnded_ce]
    exact hp

/-! Exceptions (R106, R108). -/

/-- The request latch of the engine's software trip is set. -/
theorem State.swTrip_testF (s : State) (n : Fin 24) : (s.swTrip n).testF .TRIP_LAT1_SW 0 n = true :=
  s.testF_orF_same 0 .TRIP_LAT1_SW (show n.val < 24 from n.isLt)

/-- An exception counted, and recorded where no record is held. -/
def State.excRecord (s : State) (n : Fin 24) (cause : Nat) (pc info : Word) : State :=
  let s1 := s.countF .CE_XCNT_XCOUNT n 1
  if s.bit .CE_XCAUSE_VALID n then s1 else
    ((((s1.setF .CE_XCAUSE_VALID n 1).setF .CE_XCAUSE_FRETLO n (s.ce[n]).sfret.toNat).setF .CE_XCAUSE_CAUSE n cause).setF
      .CE_XPC_PC n pc.toNat).setF .CE_XINFO_INFO n info.toNat

/-- Engine `n`'s software trip requested where `c` holds. -/
def State.tripWhen (s : State) (n : Fin 24) (c : Bool) : State := if c then s.swTrip n else s

/-- The fields that an exception of engine `n` writes before the task ends. -/
def recordFields (n : Fin 24) : List (Fld × Nat) :=
  [(.CE_XCNT_XCOUNT, n.val), (.CE_XCAUSE_VALID, n), (.CE_XCAUSE_FRETLO, n), (.CE_XCAUSE_CAUSE, n), (.CE_XPC_PC, n), (.CE_XINFO_INFO, n),
   (.TRIP_LAT1_SW, 0)]

theorem EngineAlone.tripWhen {n : Fin 24} {l : List (Fld × Nat)} {s t : State} (h : EngineAlone n l s t) (c : Bool)
    (hm : (.TRIP_LAT1_SW, 0) ∈ l) : EngineAlone n l s (t.tripWhen n c) := by
  cases c
  · exact h
  · exact h.orF _ hm

section
variable (s : State) (n : Fin 24) (c : Bool)

theorem State.getF_tripWhen {f : Fld} (hf : f ≠ .TRIP_LAT1_SW) (i : Nat) : (s.tripWhen n c).getF f i = s.getF f i := by
  cases c
  · rfl
  · exact s.getF_orF_ne 0 i n hf

@[simp] theorem State.tripWhen_ce : (s.tripWhen n c).ce = s.ce := by cases c <;> rfl

theorem State.tripWhen_testF : (s.tripWhen n c).testF .TRIP_LAT1_SW 0 n = (s.testF .TRIP_LAT1_SW 0 n || c) := by
  cases c
  · exact (Bool.or_false _).symm
  · exact (s.swTrip_testF n).trans (Bool.or_true _).symm

variable (cause : Nat) (pc info : Word) (cyc : Nat)

theorem State.exception_eq :
    s.exception n cause pc info cyc = ((s.excRecord n cause pc info).tripWhen n (s.bit .CE_XCFG_XTRIP n)).endTask n cyc := rfl

theorem State.excRecord_alone : EngineAlone n (recordFields n) s (s.excRecord n cause pc info) := by
  have h1 : EngineAlone n (recordFields n) s (s.countF .CE_XCNT_XCOUNT n 1) := (EngineAlone.refl n _ s).countF 1 (by simp [recordFields])
  unfold State.excRecord
  split
  · exact h1
  · exact ((((h1.setF _ (by simp [recordFields])).setF _ (by simp [recordFields])).setF _ (by simp [recordFields])).setF _
      (by simp [recordFields])).setF _ (by simp [recordFields])

@[simp] theorem State.excRecord_ce : (s.excRecord n cause pc info).ce = s.ce := by
  unfold State.excRecord State.countF
  split <;> simp only [State.setF_keeps]

theorem State.excRecord_count :
    (s.excRecord n cause pc info).getF .CE_XCNT_XCOUNT n = min 65535 (s.getF .CE_XCNT_XCOUNT n + 1) := by
  have hw : Fld.CE_XCNT_XCOUNT.width = 16 := rfl
  unfold State.excRecord
  split <;> simp [State.getF_setF_ne, hw]

/-- A record that is held stays; else the exception is recorded. -/
theorem State.excRecord_held (h : s.bit .CE_XCAUSE_VALID n = true) {f : Fld} (hf : f ≠ .CE_XCNT_XCOUNT) :
    (s.excRecord n cause pc info).getF f n = s.getF f n := by
  rw [State.excRecord, if_pos h, State.getF_countF_ne _ _ _ _ hf]

theorem State.excRecord_new (h : s.bit .CE_XCAUSE_VALID n = false) (hc : cause < 16) :
    (s.excRecord n cause pc info).getF .CE_XCAUSE_VALID n = 1 ∧ (s.excRecord n cause pc info).getF .CE_XCAUSE_CAUSE n = cause ∧
    (s.excRecord n cause pc info).getF .CE_XPC_PC n = pc.toNat ∧ (s.excRecord n cause pc info).getF .CE_XINFO_INFO n = info.toNat := by
  have hv : Fld.CE_XCAUSE_VALID.width = 1 := rfl
  have hw : Fld.CE_XCAUSE_CAUSE.width = 4 := rfl
  have hp : Fld.CE_XPC_PC.width = 32 := rfl
  have hi : Fld.CE_XINFO_INFO.width = 32 := rfl
  have hpc : pc.toNat % 2 ^ 32 = pc.toNat := Nat.mod_eq_of_lt pc.isLt
  have hinfo : info.toNat % 2 ^ 32 = info.toNat := Nat.mod_eq_of_lt info.isLt
  rw [State.excRecord, h, if_neg Bool.false_ne_true]
  refine ⟨?_, ?_, ?_, ?_⟩
  · simp [State.getF_setF_ne, hv]
  · simp [State.getF_setF_ne, hw, Nat.mod_eq_of_lt hc]
  · simp only [State.getF_setF_ne, State.getF_setF_same, ne_eq, reduceCtorEq, not_false_eq_true, hp, hpc]
  · simp only [State.getF_setF_same, hi, hinfo]

/-- What an exception of engine `n` gives. -/
theorem State.exception_takes (hc : cause < 16) : Takes n cause pc info s (s.exception n cause pc info cyc) := by
  have hread {f : Fld} (hf : f ∉ .TRIP_LAT1_SW :: (taskNames ++ swapNames)) :
      (s.exception n cause pc info cyc).getF f n = (s.excRecord n cause pc info).getF f n := by
    obtain ⟨hne, hn⟩ := not_or.1 (List.mem_cons.not.1 hf)
    rw [State.exception_eq, State.getF_endTask _ _ _ hn, State.getF_tripWhen _ _ _ hne]
  have hvalid := hread (f := .CE_XCAUSE_VALID) (by simp [taskNames, swapNames])
  have hcause := hread (f := .CE_XCAUSE_CAUSE) (by simp [taskNames, swapNames])
  have hpc := hread (f := .CE_XPC_PC) (by simp [taskNames, swapNames])
  have hinfo := hread (f := .CE_XINFO_INFO) (by simp [taskNames, swapNames])
  have hcount := hread (f := .CE_XCNT_XCOUNT) (by simp [taskNames, swapNames])
  have halone := (s.excRecord_alone n cause pc info).tripWhen (s.bit .CE_XCFG_XTRIP n) (by simp [recordFields])
  obtain ⟨hg, hp, hacc, -, hflags⟩ :=
    ((s.excRecord n cause pc info).tripWhen n (s.bit .CE_XCFG_XTRIP n)).endTask_registers n cyc
  rw [State.tripWhen_ce, State.excRecord_ce] at hg hp hacc hflags
  refine ⟨?_, hcount.trans (s.excRecord_count n cause pc info), fun hv => ?_, fun hv => ?_, ?_, ?_, hg, hp, hacc, hflags⟩
  · rw [State.exception_eq]
    exact State.endTask_running _ n cyc
  · obtain ⟨hv', hc', hp', hi'⟩ := s.excRecord_new n cause pc info hv hc
    exact ⟨by rw [State.bit, hvalid, hv']; rfl, hcause.trans hc', hpc.trans hp', hinfo.trans hi'⟩
  · have held {f : Fld} (hf : f ≠ .CE_XCNT_XCOUNT) := s.excRecord_held n cause pc info hv hf
    refine ⟨?_, hcause.trans (held (by simp)), hpc.trans (held (by simp)), hinfo.trans (held (by simp))⟩
    rw [State.bit, hvalid, held (by simp)]
    exact hv
  · have hlatch : (s.excRecord n cause pc info).getF .TRIP_LAT1_SW 0 = s.getF .TRIP_LAT1_SW 0 := by
      unfold State.excRecord
      split <;> simp [State.getF_setF_ne, State.getF_countF_ne]
    have htest := (s.excRecord n cause pc info).tripWhen_testF n (s.bit .CE_XCFG_XTRIP n)
    rw [State.testF, State.testF, hlatch] at htest
    rw [State.exception_eq, State.testF, State.getF_endTask _ _ _ (by simp [taskNames, swapNames])]
    exact htest
  · refine halone.endTask (by simp [recordFields, actNames, swapNames]) ?_ cyc
    rw [State.tripWhen_ce, State.excRecord_ce]
    exact ⟨rfl, rfl, rfl, rfl⟩

end

end Sys2Proof.Machine
end

section
/-! The start of a task and its deadline (R71, R72, R141, R142). -/
namespace Sys2Proof.Machine

/-- An offset that has been reached needs no time to pass. -/
theorem State.raiseAngle_reached {s : State} {o : Nat} (h : s.offReached o = true) : s.raiseAngle o = s := if_pos h

/-! Task starts. -/

/-- The dispatcher has dealt with engine `n`'s start in this fret (R71). -/
def State.markStarted (s : State) (n : Fin 24) : State :=
  { s with fretd := { s.fretd with started := s.fretd.started ||| BitVec.ofNat 24 (2 ^ n.val) } }

/-- The engine can take the task that is due (R72). -/
def State.takesTask (s : State) (n : Fin 24) : Bool :=
  s.engOk n && s.tasksRun && s.getF .CE_STAT_ENST n == enstOn && !s.running n && !s.halted n

/-- A start that is due is a task begun or a start skipped (R71, R72). -/
theorem exec_taskStart {n : Fin 24} {c r : Nat} {s : State} (hrow : s.fretd.row = some (c, r))
    (hta : 2 ^ 31 ≤ s.rowWord c r (8 * n)) (hst : s.fretd.started.getLsbD n = false) (hrun : s.atuRuns = true)
    (hoff : s.offReached (s.rowWord c r (8 * n) % 65536) = true) :
    exec (.taskStart n) s = .next (if s.takesTask n then
      (s.markStarted n).beginTask n (s.rowWord c r (8 * n) / 2 ^ 24 % 16) (s.rowWord c r (8 * n + 4) % 65536)
      else (s.markStarted n).skipStart n) := by
  have hno : ¬(s.rowWord c r (8 * n) < 2 ^ 31 ∨ s.fretd.started.getLsbD n = true ∨ s.atuRuns = false) := by
    rintro (h | h | h)
    · exact Nat.not_le.2 h hta
    · exact Bool.false_ne_true (hst.symm.trans h)
    · exact Bool.false_ne_true (h.symm.trans hrun)
  have hready : (!s.engOk n || !s.tasksRun || s.getF .CE_STAT_ENST n != enstOn || s.running n || s.halted n) = !s.takesTask n := by
    simp only [State.takesTask, Bool.not_and, Bool.not_not, bne]
  show execTaskStart n s = _
  unfold execTaskStart
  rw [hrow]
  dsimp only
  rw [if_neg hno, State.raiseAngle_reached hoff, hready]
  cases s.takesTask n <;> rfl

theorem State.takesTask_iff (s : State) (n : Fin 24) : s.takesTask n = true ↔
    s.engOk n = true ∧ s.tasksRun = true ∧ s.getF .CE_STAT_ENST n = 1 ∧ s.running n = false ∧ s.halted n = false := by
  simp [State.takesTask, enstOn, and_assoc]

theorem ofNat_four_mod (x : Nat) : BitVec.ofNat 4 (x % 16) = BitVec.ofNat 4 x := by
  apply BitVec.eq_of_toNat_eq
  simp

/-- A corrected entry is counted, and nothing else happens. -/
theorem State.countSoftCe_frame (s : State) (n : Fin 24) (a : Nat) : s.countSoftCe n a = { s with regs := (s.countSoftCe n a).regs } := by
  unfold State.countSoftCe
  split <;> rfl

theorem State.countSoftCe_markStarted (s : State) (n : Fin 24) (a : Nat) :
    (s.markStarted n).countSoftCe n a = (s.countSoftCe n a).markStarted n := by
  show (if s.softWord a then _ else _) = State.markStarted (if s.softWord a then _ else _) n
  cases s.softWord a <;> rfl

/-- The address of the entry that TASKA of row `r` names (R141). -/
def State.entryAddr (s : State) (n : Fin 24) (c r : Nat) : Nat :=
  ceEntry n (s.getF .CE_STAT_ACTBANK n) + 4 * (s.rowWord c r (8 * n) / 2 ^ 24 % 16)

section
variable {n : Fin 24} {c r : Nat} {s : State}

/-- A task that begins is the one that has begun, or takes the exception of its entry (R141). -/
theorem State.beginTask_eq :
    let w := (s.word (s.entryAddr n c r)).toNat
    (s.markStarted n).beginTask n (s.rowWord c r (8 * n) / 2 ^ 24 % 16) (s.rowWord c r (8 * n + 4) % 65536) =
      if s.badWord (s.entryAddr n c r) then (begunTask n c r s).exception n xEccI 0x6000#32 0x6000#32 0
      else if w < 2 ^ 31 then (begunTask n c r s).exception n xIfetch 0x6000#32 0x6000#32 0
      else if w % 65536 % 4 ≠ 0 ∨ 0x6000 ≤ w % 65536 then
        (begunTask n c r s).exception n xIfetch 0x6000#32 (BitVec.ofNat 32 (w % 65536)) 0
      else begunTask n c r s := by
  intro w
  have hb : (((s.markStarted n).countSoftCe n (s.entryAddr n c r)).setF .CE_STAT_RUNNING n 1).modCe n (fun e =>
      { e.rebase (engineCycle s.tick - engineCycle e.startTick) with
        pc := BitVec.ofNat 32 (w % 65536), sfret := BitVec.ofNat 32 s.fretnum, sfic := s.fic,
        sentry := BitVec.ofNat 4 (s.rowWord c r (8 * n) / 2 ^ 24 % 16), deadline := s.rowWord c r (8 * n + 4) % 65536,
        committed := false, dlDone := false, endDue := 0, waitf := none, startTick := s.tick }) = begunTask n c r s := by
    rw [ofNat_four_mod, State.countSoftCe_markStarted, State.countSoftCe_frame]
    rfl
  rw [← hb]
  rfl

variable (hbad : s.badWord (s.entryAddr n c r) = false)
include hbad

theorem State.beginTask_unnamed (hw : (s.word (s.entryAddr n c r)).toNat < 2 ^ 31) :
    (s.markStarted n).beginTask n (s.rowWord c r (8 * n) / 2 ^ 24 % 16) (s.rowWord c r (8 * n + 4) % 65536) =
      (begunTask n c r s).exception n xIfetch 0x6000#32 0x6000#32 0 := by
  rw [State.beginTask_eq, hbad, if_neg Bool.false_ne_true, if_pos hw]

variable (hw : 2 ^ 31 ≤ (s.word (s.entryAddr n c r)).toNat)
include hw

theorem State.beginTask_misplaced (h : (s.word (s.entryAddr n c r)).toNat % 4 ≠ 0 ∨ 0x6000 ≤ (s.word (s.entryAddr n c r)).toNat % 65536) :
    (s.markStarted n).beginTask n (s.rowWord c r (8 * n) / 2 ^ 24 % 16) (s.rowWord c r (8 * n + 4) % 65536) =
      (begunTask n c r s).exception n xIfetch 0x6000#32 (BitVec.ofNat 32 ((s.word (s.entryAddr n c r)).toNat % 65536)) 0 := by
  rw [State.beginTask_eq, hbad, if_neg Bool.false_ne_true, if_neg (Nat.not_lt.2 hw), if_pos (by omega)]

theorem State.beginTask_valid (ha : (s.word (s.entryAddr n c r)).toNat % 4 = 0) (hl : (s.word (s.entryAddr n c r)).toNat % 65536 < 0x6000) :
    (s.markStarted n).beginTask n (s.rowWord c r (8 * n) / 2 ^ 24 % 16) (s.rowWord c r (8 * n + 4) % 65536) = begunTask n c r s := by
  rw [State.beginTask_eq, hbad, if_neg Bool.false_ne_true, if_neg (Nat.not_lt.2 hw), if_neg (by omega)]

end

section
variable (n : Fin 24) (c r : Nat) (s : State)

theorem begunTask_ce : (begunTask n c r s).ce[n] = { (s.ce[n]).rebase (engineCycle s.tick - engineCycle (s.ce[n]).startTick) with
    pc := BitVec.ofNat 32 ((s.word (s.entryAddr n c r)).toNat % 65536), sfret := BitVec.ofNat 32 s.fretnum, sfic := s.fic,
    sentry := BitVec.ofNat 4 (s.rowWord c r (8 * n) / 2 ^ 24), deadline := s.rowWord c r (8 * n + 4) % 65536, committed := false,
    dlDone := false, endDue := 0, waitf := none, startTick := s.tick } := by
  simp [begunTask, State.entryAddr]

theorem begunTask_ce_ne {m : Fin 24} (h : m ≠ n) : (begunTask n c r s).ce[m] = s.ce[m] := by
  have hv : ¬ n.val = m.val := fun e => h (Fin.ext e.symm)
  simp [begunTask, hv]

theorem begunTask_getF (f : Fld) (i : Nat) :
    (begunTask n c r s).getF f i = ((s.countSoftCe n (s.entryAddr n c r)).setF .CE_STAT_RUNNING n 1).getF f i := rfl

theorem begunTask_running : (begunTask n c r s).bit .CE_STAT_RUNNING n = true := by
  have hw : Fld.CE_STAT_RUNNING.width = 1 := rfl
  simp [State.bit, begunTask_getF, hw]

theorem begunTask_regs : RegsBut s (begunTask n c r s) [(.CE_STAT_RUNNING, n), (.CE_XCNT_ECCCOR, n)] := by
  have hsoft : RegsBut s (s.countSoftCe n (s.entryAddr n c r)) [(.CE_STAT_RUNNING, n), (.CE_XCNT_ECCCOR, n)] := by
    unfold State.countSoftCe
    split
    · exact (RegsBut.refl s _).setF _ (by simp)
    · exact RegsBut.refl s _
  exact hsoft.setF (f := .CE_STAT_RUNNING) (i := n) 1 (by simp)

theorem begunTask_eccCor : (begunTask n c r s).getF .CE_XCNT_ECCCOR n =
    if s.softWord (s.entryAddr n c r) = true then min (2 ^ Fld.CE_XCNT_ECCCOR.width - 1) (s.getF .CE_XCNT_ECCCOR n + 1)
    else s.getF .CE_XCNT_ECCCOR n := by
  rw [begunTask_getF, State.getF_setF_ne _ _ _ _ (by simp), State.countSoftCe]
  split
  · exact s.getF_countF_same _ _ _
  · rfl

/-- A skipped start is counted and shows in SKIPMASK (R72). -/
theorem State.skipStart_skips : (s.skipStart n) = { s with regs := (s.skipStart n).regs } ∧
    (s.skipStart n).getF .FRET_SKIPMASK_SKIP 0 = (s.getF .FRET_SKIPMASK_SKIP 0 ||| 2 ^ n.val) % 2 ^ 24 ∧
    (s.skipStart n).getF .FRET_SKIPCNT_COUNT 0 = min (2 ^ Fld.FRET_SKIPCNT_COUNT.width - 1) (s.getF .FRET_SKIPCNT_COUNT 0 + 1) ∧
    RegsBut s (s.skipStart n) [(.FRET_SKIPMASK_SKIP, 0), (.FRET_SKIPCNT_COUNT, 0)] := by
  have hw : Fld.FRET_SKIPMASK_SKIP.width = 24 := rfl
  unfold State.skipStart
  refine ⟨rfl, ?_, ?_, ((RegsBut.refl s _).setF _ (by simp)).setF _ (by simp)⟩
  · rw [State.getF_countF_ne _ _ _ _ (by simp), State.orF, State.getF_setF_same, hw]
  · rw [State.getF_countF_same, State.getF_orF_ne _ _ _ _ (by simp)]

end

/-- The claim of R71, R72 and R141: of the starts that are due, those of a ready engine begin the task or take the exception of its entry, and
every other is skipped. -/
theorem taskStart : Claims.TaskStart := by
  intro n c r s ta at_ w ready hrow hta hst hrun hoff
  have hexec := exec_taskStart hrow hta hst hrun hoff
  have hready : ready → s.takesTask n = true := (s.takesTask_iff n).2
  refine ⟨fun hr hbad hw halign hlow => ?_, fun hr hbad hw => ?_, fun hr hbad hw hinv => ?_, fun hr => ?_⟩
  · rw [if_pos (hready hr), State.beginTask_valid hbad hw halign hlow] at hexec
    refine ⟨_, hexec, rfl, begunTask_running n c r s, begunTask_regs n c r s, begunTask_eccCor n c r s, ?_⟩
    rw [begunTask_ce]
    exact ⟨rfl, rfl, rfl, rfl, rfl, fun m hm => begunTask_ce_ne n c r s hm⟩
  · rw [if_pos (hready hr), State.beginTask_unnamed hbad hw] at hexec
    exact ⟨_, hexec, State.exception_takes _ n xIfetch _ _ 0 (by decide)⟩
  · rw [if_pos (hready hr), State.beginTask_misplaced hbad hw hinv] at hexec
    exact ⟨_, hexec, State.exception_takes _ n xIfetch _ _ 0 (by decide)⟩
  · rw [if_neg (mt (s.takesTask_iff n).1 hr)] at hexec
    obtain ⟨hframe, hmask, hcount, hregs⟩ := (s.markStarted n).skipStart_skips n
    exact ⟨_, hexec, hframe, by simpa using ⟨hmask, hcount⟩, hregs⟩

end Sys2Proof.Machine
end

section
/-! The deadline threshold: the miss of a task that has not committed (R142). -/
namespace Sys2Proof.Machine

/-- The deadline threshold of the engine's task has been handled (R142). -/
def State.deadlineSeen (s : State) (n : Fin 24) : State := s.modCe n (fun e => { e with dlDone := true })

/-- At the threshold of a task of this fret, a miss is handled and the arms that its COMMIT released are closed (R142, R172). -/
theorem exec_deadlineThreshold {n : Fin 24} {s : State} (hrun : s.atuRuns = true) (hst : s.fretd.started.getLsbD n = true)
    (hfret : (s.ce[n]).sfret = BitVec.ofNat 32 s.fretnum) (hdone : (s.ce[n]).dlDone = false) (hoff : s.offReached (s.ce[n]).deadline = true) :
    exec (.deadlineThreshold n) s = .next ((s.armsToClose n).foldl (fun t a => t.armClose a)
      (if (s.deadlineSeen n).running n && !(s.ce[n]).committed then (s.deadlineSeen n).missDeadline n else s.deadlineSeen n)) := by
  have hdue : (s.atuRuns && s.fretd.started.getLsbD n && (s.ce[n]).sfret == BitVec.ofNat 32 s.fretnum && !(s.ce[n]).dlDone) = true := by
    rw [hrun, hst, hfret, hdone, beq_self_eq_true]
    rfl
  show execDeadlineThreshold n s = _
  unfold execDeadlineThreshold
  dsimp only
  rw [if_pos hdue, State.raiseAngle_reached hoff]
  rfl

/-- The fields that a deadline miss of engine `n` writes. -/
def missFields (n : Fin 24) : List (Fld × Nat) := [(.CE_STAT_MISS, n.val), (.CE_MISSCNT_COUNT, n.val), (.TRIP_LAT1_SW, 0)]

/-- The miss ends the task: under ABORT, or while the engine is DRAINING (R142, R145). -/
def State.missEnds (s : State) (n : Fin 24) : Bool := s.getF .CE_CTRL_MISSMODE n == 0 || s.getF .CE_STAT_ENST n == 2

section
variable (s : State) (n : Fin 24)

theorem State.recordMiss_eq : s.recordMiss n = ((s.setF .CE_STAT_MISS n 1).countF .CE_MISSCNT_COUNT n 1).tripWhen n (s.missTrip n) := rfl

theorem State.recordMiss_alone : EngineAlone n (missFields n) s (s.recordMiss n) := by
  rw [State.recordMiss_eq]
  exact (((EngineAlone.refl n _ s).setF _ (by simp [missFields])).countF _ (by simp [missFields])).tripWhen _ (by simp [missFields])

@[simp] theorem State.recordMiss_ce : (s.recordMiss n).ce = s.ce := State.tripWhen_ce _ n _

theorem State.recordMiss_miss : (s.recordMiss n).getF .CE_STAT_MISS n = 1 := by
  have hw : Fld.CE_STAT_MISS.width = 1 := rfl
  rw [State.recordMiss_eq, State.getF_tripWhen _ _ _ (by simp), State.getF_countF_ne _ _ _ _ (by simp), State.getF_setF_same, hw]
  rfl

theorem State.recordMiss_count :
    (s.recordMiss n).getF .CE_MISSCNT_COUNT n = min (2 ^ Fld.CE_MISSCNT_COUNT.width - 1) (s.getF .CE_MISSCNT_COUNT n + 1) := by
  rw [State.recordMiss_eq, State.getF_tripWhen _ _ _ (by simp), State.getF_countF_same, State.getF_setF_ne _ _ _ _ (by simp)]

theorem State.recordMiss_trip : (s.recordMiss n).testF .TRIP_LAT1_SW 0 n = (s.testF .TRIP_LAT1_SW 0 n || s.missTrip n) := by
  rw [State.recordMiss_eq, State.tripWhen_testF, State.testF, State.getF_countF_ne _ _ _ _ (by simp), State.getF_setF_ne _ _ _ _ (by simp)]
  rfl

/-- The miss of an engine that is not halted is recorded, and ends the task or not (R142, R145). -/
theorem State.missDeadline_eq (h : s.halted n = false) :
    s.missDeadline n = if s.missEnds n then (s.recordMiss n).endTask n (s.elapsed n) else s.recordMiss n := by
  rw [State.missDeadline, h]
  rfl

/-- What a miss gives, told from the state before the threshold. -/
theorem State.deadlineSeen_missDeadline (hr : s.running n = true) (hh : s.halted n = false) :
    let t := (s.deadlineSeen n).missDeadline n
    t.bit .CE_STAT_MISS n = true ∧
    t.getF .CE_MISSCNT_COUNT n = min (2 ^ Fld.CE_MISSCNT_COUNT.width - 1) (s.getF .CE_MISSCNT_COUNT n + 1) ∧
    t.testF .TRIP_LAT1_SW 0 n = (s.testF .TRIP_LAT1_SW 0 n || (s.deadlineSeen n).missTrip n) ∧
    t.bit .CE_STAT_RUNNING n = !s.missEnds n ∧
    (t.ce[n]).g = (s.ce[n]).g ∧ (t.ce[n]).acc = (s.ce[n]).acc ∧ (t.ce[n]).p = (s.ce[n]).p ∧ (t.ce[n]).flags = (s.ce[n]).flags ∧
    EngineEnds n (s.missEnds n && s.actEnds n) (missFields n ++ taskFields n) s t := by
  intro t
  let u := (s.deadlineSeen n).recordMiss n
  have halone : EngineAlone n (missFields n) s u :=
    ((EngineAlone.refl n _ s).modCe _).trans ((s.deadlineSeen n).recordMiss_alone n)
  have hu : u.ce[n] = { s.ce[n] with dlDone := true } := by
    show ((s.deadlineSeen n).recordMiss n).ce[n] = _
    rw [State.recordMiss_ce]
    exact s.modCe_same n _
  have hmiss := (s.deadlineSeen n).recordMiss_miss n
  have hcount := (s.deadlineSeen n).recordMiss_count n
  have htrip := (s.deadlineSeen n).recordMiss_trip n
  have heq : t = if s.missEnds n then u.endTask n ((s.deadlineSeen n).elapsed n) else u := (s.deadlineSeen n).missDeadline_eq n hh
  cases hends : s.missEnds n
  · rw [hends, if_neg Bool.false_ne_true] at heq
    rw [heq, hu]
    refine ⟨by rw [State.bit, hmiss]; rfl, hcount, htrip, ?_, rfl, rfl, rfl, rfl, ?_⟩
    · exact (congrArg (· == 1) (halone.regs.getF_eq (by simp [missFields]) n)).trans hr
    · exact (halone.mono (List.subset_append_left _ _)).engineEnds
  · rw [hends, if_pos rfl] at heq
    obtain ⟨hg, hp, hacc, hflags, -⟩ := u.endTask_registers n ((s.deadlineSeen n).elapsed n)
    rw [hu] at hg hp hacc hflags
    have hread {f : Fld} (hf : f ∉ taskNames ++ swapNames) (i : Nat) : t.getF f i = u.getF f i := by
      rw [heq, State.getF_endTask u n _ hf]
    have hswap := halone.endTask (by simp [missFields, actNames, swapNames]) (by rw [hu]; exact ⟨rfl, rfl, rfl, rfl⟩) ((s.deadlineSeen n).elapsed n)
    rw [State.bit, State.testF, hread (by simp [taskNames, swapNames]), hread (by simp [taskNames, swapNames]),
      hread (by simp [taskNames, swapNames]), heq]
    exact ⟨by rw [hmiss]; rfl, hcount, htrip, u.endTask_running n _, hg, hacc, hp, hflags, hswap⟩

end

/-- The claim of R142. -/
theorem deadlineMiss : Claims.DeadlineMiss := by
  intro n s e trips hrun hst hfret hdone hoff harms hr hh
  have hexec := exec_deadlineThreshold hrun hst hfret hdone hoff
  rw [harms, List.foldl_nil, show (s.deadlineSeen n).running n = true from hr, Bool.true_and] at hexec
  refine ⟨fun hcom => ?_, fun hcom => ?_⟩
  · rw [show (s.ce[n]).committed = true from hcom, Bool.not_true, if_neg Bool.false_ne_true] at hexec
    exact ⟨_, hexec, .of_modCe s n _, s.modCe_same n _⟩
  · have htrips : (s.deadlineSeen n).missTrip n = trips := by
      simp only [State.missTrip, State.deadlineSeen, State.modCe_same]
      rfl
    rw [show (s.ce[n]).committed = false from hcom, Bool.not_false, if_pos rfl] at hexec
    have h := s.deadlineSeen_missDeadline n hr hh
    rw [htrips] at h
    exact ⟨_, hexec, h⟩

end Sys2Proof.Machine
end

section
/-! The deadline threshold: the close of the arms that a COMMIT released (R168, R172, R183). -/
namespace Sys2Proof.Machine

/-- The fields that the close of arm `a` writes. -/
def closeFields (a : Fin 6) : List (Fld × Nat) := [(.ARM_STAT_CFGERR, a.val), (.ARM_DEF_DEF, a.val)]

/-- Nothing but register fields and arms changes. -/
def ArmFrame (s t : State) : Prop := t = { s with regs := t.regs, arms := t.arms }

theorem ArmFrame.trans {s t u : State} (h : ArmFrame s t) (h' : ArmFrame t u) : ArmFrame s u :=
  Eq.trans h' (congrArg (fun x : State => { x with regs := u.regs, arms := u.arms }) h)

theorem ArmFrame.keeps {s t : State} (h : ArmFrame s t) : t.variant = s.variant ∧ t.lanes = s.lanes ∧ t.atu = s.atu ∧ t.ce = s.ce := by
  obtain ⟨r, x, rfl⟩ : ∃ r x, t = { s with regs := r, arms := x } := ⟨_, _, h⟩
  exact ⟨rfl, rfl, rfl, rfl⟩

/-- Arm `a` is as before. -/
def ArmSame (a : Fin 6) (s t : State) : Prop :=
  t.arms[a] = s.arms[a] ∧ t.getF .ARM_STAT_CFGERR a = s.getF .ARM_STAT_CFGERR a ∧ t.getF .ARM_DEF_DEF a = s.getF .ARM_DEF_DEF a

theorem ArmSame.refl (a : Fin 6) (s : State) : ArmSame a s s := ⟨rfl, rfl, rfl⟩

theorem ArmSame.trans {a : Fin 6} {s t u : State} (h : ArmSame a s t) (h' : ArmSame a t u) : ArmSame a s u := by
  obtain ⟨harm, herr, hdef⟩ := h
  obtain ⟨harm', herr', hdef'⟩ := h'
  exact ⟨harm'.trans harm, herr'.trans herr, hdef'.trans hdef⟩

/-- The arm and its modulation unit are ON, so that a close acts on it (R172). -/
def State.armOn (s : State) (a : Fin 6) : Bool := s.modOn && s.getF .ARM_STAT_ENST a == enstOn

/-- Arm `a` has been closed, told from the state before (R168, R183, R275). -/
structure ArmClosed (a : Fin 6) (s t : State) : Prop where
  bad : s.armOn a = true → s.armBad a = true →
    t.bit .ARM_STAT_CFGERR a = true ∧ t.arms[a] = s.arms[a] ∧ t.getF .ARM_DEF_DEF a = s.getF .ARM_DEF_DEF a
  taken : s.armOn a = true → s.armBad a = false → s.mstate = false →
    t.arms[a] = { s.arms[a] with conv := some (s.armInputs a) } ∧ t.getF .ARM_STAT_CFGERR a = s.getF .ARM_STAT_CFGERR a ∧
      t.getF .ARM_DEF_DEF a = if s.commanding then 0 else s.getF .ARM_DEF_DEF a
  left : s.armOn a = false ∨ (s.armBad a = false ∧ s.mstate = true) → ArmSame a s t

theorem ArmClosed.then_same {a : Fin 6} {s t u : State} (h : ArmClosed a s t) (h' : ArmSame a t u) : ArmClosed a s u := by
  obtain ⟨harm, herr, hdef⟩ := id h'
  refine ⟨fun hon hbad => ?_, fun hon hbad hm => ?_, fun hl => (h.left hl).trans h'⟩
  · rw [State.bit, harm, herr, hdef]
    exact h.bad hon hbad
  · rw [harm, herr, hdef]
    exact h.taken hon hbad hm

/-! One arm. -/

section
variable (s : State) (a : Fin 6)

/-- The close is one of four: an arm that is not ON, one whose configuration is invalid, the MUTE state, and the planner's inputs taken. -/
theorem State.armClose_eq : s.armClose a =
    if s.armOn a then
      if s.armBad a then s.setF .ARM_STAT_CFGERR a 1
      else if s.mstate then s
      else (s.modArm a (fun x => { x with conv := some (s.armInputs a) })).setWhen s.commanding .ARM_DEF_DEF a 0
    else s := rfl

theorem State.setWhen_arms (c : Bool) (f : Fld) (i v : Nat) : (s.setWhen c f i v).arms = s.arms := by cases c <;> rfl

theorem State.armClose_frame : ArmFrame s (s.armClose a) := by
  rw [State.armClose_eq]
  cases s.armOn a <;> cases s.armBad a <;> cases s.mstate <;> cases s.commanding <;> rfl

theorem State.armClose_regs : RegsBut s (s.armClose a) (closeFields a) := by
  rw [State.armClose_eq]
  split_ifs
  · exact (RegsBut.refl s _).setF 1 (by simp [closeFields])
  · exact .refl s _
  · have hmod : RegsBut s (s.modArm a (fun x => { x with conv := some (s.armInputs a) })) (closeFields a) := .refl s _
    cases s.commanding
    · exact hmod
    · exact hmod.setF 0 (by simp [closeFields])
  · exact .refl s _

theorem State.armClose_ne {b : Fin 6} (h : b ≠ a) : ArmSame b s (s.armClose a) := by
  have hv : ¬ a.val = b.val := fun e => h (Fin.ext e.symm)
  have hkey : ∀ f : Fld, ∀ e ∈ closeFields a, f.key b.val ≠ e.1.key e.2 := by
    intro f e he hk
    have hidx : e.2 = a.val := by
      simp only [closeFields, List.mem_cons, List.not_mem_nil, or_false] at he
      rcases he with rfl | rfl <;> rfl
    have hi := (Fld.key_inj hk).2
    rw [hidx] at hi
    omega
  refine ⟨?_, s.armClose_regs a _ _ (hkey _), s.armClose_regs a _ _ (hkey _)⟩
  rw [State.armClose_eq]
  split_ifs
  · rfl
  · rfl
  · simp [State.setWhen_arms, State.modArm, hv]
  · rfl

theorem State.armClose_closed : ArmClosed a s (s.armClose a) := by
  rw [State.armClose_eq]
  refine ⟨fun hon hbad => ?_, fun hon hbad hm => ?_, fun hl => ?_⟩
  · have hw : Fld.ARM_STAT_CFGERR.width = 1 := rfl
    rw [if_pos hon, if_pos hbad]
    exact ⟨by simp [State.bit, hw], rfl, s.getF_setF_ne _ _ _ (by simp)⟩
  · rw [hon, hbad, hm, if_pos rfl, if_neg Bool.false_ne_true, if_neg Bool.false_ne_true]
    refine ⟨?_, State.getF_setWhen_ne _ _ _ _ _ (by simp), ?_⟩
    · simp [State.setWhen_arms, State.modArm]
    · cases s.commanding
      · rfl
      · exact (State.getF_setF_same _ _ _ _).trans (Nat.zero_mod _)
  · rcases hl with hoff | ⟨hbad, hm⟩
    · rw [hoff]
      exact .refl a s
    · rw [hbad, hm]
      cases s.armOn a <;> exact .refl a s

end

/-! The arms one after another. -/

/-- Every field that a close does not write reads as before, and nothing else but arms changes: what closing another arm leaves. -/
structure ArmsOnly (s t : State) : Prop where
  frame : ArmFrame s t
  regs : ∀ f i, f ≠ .ARM_STAT_CFGERR → f ≠ .ARM_DEF_DEF → t.getF f i = s.getF f i

theorem State.armClose_only (s : State) (a : Fin 6) : ArmsOnly s (s.armClose a) where
  frame := s.armClose_frame a
  regs f i he hd := (s.armClose_regs a).getF_eq (by simp [closeFields, he.symm, hd.symm]) i

section
variable {s t : State} (h : ArmsOnly s t)
include h

theorem ArmsOnly.armNcell : t.armNcell = s.armNcell := funext fun a => h.regs _ a (by simp) (by simp)

theorem ArmsOnly.members : t.members = s.members := by
  have harm : t.armLane = s.armLane := by
    funext a p
    simp only [State.armLane, h.regs, ne_eq, reduceCtorEq, not_false_eq_true]
  funext a
  rw [State.members, State.members, harm, h.armNcell]

theorem ArmsOnly.armBad (a : Nat) : t.armBad a = s.armBad a := by
  obtain ⟨hv, -, -, -⟩ := h.frame.keeps
  have hlive : t.armLive = s.armLive := funext fun b => by rw [State.armLive, h.regs _ b (by simp) (by simp), State.armLive]
  have heng : t.engOk = s.engOk := funext fun b => by rw [State.engOk, hv, State.engOk]
  have hlane : t.laneOk = s.laneOk := funext fun b => by rw [State.laneOk, hv, State.laneOk]
  rw [State.armBad, h.members, h.armNcell, hlive, heng, hlane, h.regs _ a (by simp) (by simp), State.armBad]

theorem ArmsOnly.armOn (a : Fin 6) : t.armOn a = s.armOn a := by
  simp only [State.armOn, State.modOn, h.regs, ne_eq, reduceCtorEq, not_false_eq_true]

theorem ArmsOnly.mstate : t.mstate = s.mstate := by
  simp only [State.mstate, State.bit, h.regs, ne_eq, reduceCtorEq, not_false_eq_true]

theorem ArmsOnly.commanding : t.commanding = s.commanding := by
  simp only [State.commanding, h.regs, ne_eq, reduceCtorEq, not_false_eq_true]

theorem ArmsOnly.armInputs {a : Fin 6} (ha : ArmSame a s t) : t.armInputs a = s.armInputs a := by
  obtain ⟨harm, -, hdef⟩ := ha
  obtain ⟨-, hl, hatu, -⟩ := h.frame.keeps
  have hfpc : t.fpc = s.fpc := by rw [State.fpc, h.regs _ _ (by simp) (by simp), State.fpc]
  have hau : t.fretAu = s.fretAu := by rw [State.fretAu, hfpc, State.fretAu]
  have hfic : t.fic = s.fic := by rw [State.fic, State.angle, hatu, hau, State.fic, State.angle]
  have hnext : t.nextFpcsel = s.nextFpcsel := by
    rw [State.nextFpcsel, State.bit, hfic, hfpc, hatu, h.regs _ _ (by simp) (by simp), h.regs .ATU_CFG_FPCSEL _ (by simp) (by simp)]
    rfl
  have hnum : t.fretnum = s.fretnum := h.regs _ _ (by simp) (by simp)
  have hbyp : t.getF .ARM_BYPASS_BYP a = s.getF .ARM_BYPASS_BYP a := h.regs _ _ (by simp) (by simp)
  unfold State.armInputs
  rw [harm, hdef, hl, hatu, h.members, h.armNcell, hnext, hfic, hfpc, hau, hnum, hbyp]
  simp only [h.regs, ne_eq, reduceCtorEq, not_false_eq_true]

/-- A close after the closes of other arms is the close told from before them. -/
theorem ArmsOnly.armClosed {a : Fin 6} {u : State} (ha : ArmSame a s t) (hc : ArmClosed a t u) : ArmClosed a s u := by
  obtain ⟨bad, taken, left⟩ := hc
  rw [h.armOn, h.armBad] at bad taken left
  rw [h.mstate] at taken left
  rw [h.armInputs ha, h.commanding] at taken
  obtain ⟨harm, herr, hdef⟩ := id ha
  rw [harm, hdef] at bad taken
  rw [herr] at taken
  exact ⟨bad, taken, fun hl => ha.trans (left hl)⟩

end

/-- The arms of `L` have been closed and no other has changed. -/
structure ArmsClosed (L : List (Fin 6)) (s t : State) : Prop where
  frame : ArmFrame s t
  regs : RegsBut s t (L.flatMap closeFields)
  others : ∀ a ∉ L, ArmSame a s t
  closed : ∀ a ∈ L, ArmClosed a s t

theorem State.foldl_armClose (L : List (Fin 6)) (hL : L.Nodup) (s : State) :
    ArmsClosed L s (L.foldl (fun t a => t.armClose a) s) := by
  induction L generalizing s with
  | nil => exact ⟨rfl, .refl s _, fun a _ => .refl a s, nofun⟩
  | cons x xs ih =>
    obtain ⟨hx, hxs⟩ := List.nodup_cons.1 hL
    obtain ⟨frame, regs, others, closed⟩ := ih hxs (s.armClose x)
    rw [List.foldl_cons]
    refine ⟨(s.armClose_frame x).trans frame, ?_, fun a ha => ?_, fun a ha => ?_⟩
    · rw [List.flatMap_cons]
      exact ((s.armClose_regs x).mono (List.subset_append_left _ _)).trans (regs.mono (List.subset_append_right _ _))
    · obtain ⟨hne, hn⟩ := not_or.1 (List.mem_cons.not.1 ha)
      exact (s.armClose_ne x hne).trans (others a hn)
    · by_cases hax : a = x
      · subst hax
        exact (s.armClose_closed a).then_same (others a hx)
      · exact (s.armClose_only x).armClosed (s.armClose_ne x hax) (closed a ((List.mem_cons.1 ha).resolve_left hax))

theorem State.armsToClose_nodup (s : State) (n : Fin 24) : (s.armsToClose n).Nodup := (List.nodup_finRange 6).filter _

theorem State.mem_armsToClose (s : State) (n : Fin 24) (a : Fin 6) : a ∈ s.armsToClose n ↔
    s.getF .ARM_CFG_OWNER a = n.val ∧ (s.arms[a]).released = some (BitVec.ofNat 32 s.fretnum) := by
  simp [State.armsToClose]

/-- The claim of R168, R172, R183 and R275. -/
theorem deadlineClosesArms : Claims.DeadlineClosesArms := by
  intro n s e closes hrun hst hfret hdone hoff hcom
  have hexec := exec_deadlineThreshold hrun hst hfret hdone hoff
  rw [show (s.ce[n]).committed = true from hcom, Bool.not_true, Bool.and_false, if_neg Bool.false_ne_true] at hexec
  have hfold := State.foldl_armClose (s.armsToClose n) (s.armsToClose_nodup n) (s.deadlineSeen n)
  generalize (s.armsToClose n).foldl (fun t a => t.armClose a) (s.deadlineSeen n) = t at hexec hfold
  obtain ⟨frame, regs, others, closed⟩ := hfold
  obtain ⟨-, -, -, hce⟩ := frame.keeps
  have hcloses (a : Fin 6) : closes a ↔ a ∈ s.armsToClose n ∧ s.armOn a = true := by
    simp [closes, State.mem_armsToClose, State.armOn, State.modOn, enstOn, and_assoc]
  have hclosed (a : Fin 6) (ha : a ∈ s.armsToClose n) : ArmClosed a s t :=
    let ⟨bad, taken, left⟩ := closed a ha
    ⟨bad, taken, left⟩
  refine ⟨t, hexec, ?_, ?_, fun m hm => ?_, ?_, fun a => ⟨fun hc hbad => ?_, fun hc hbad hm => ?_, fun hl => ?_⟩⟩
  · obtain ⟨r, x, rfl⟩ : ∃ r x, t = { s.deadlineSeen n with regs := r, arms := x } := ⟨_, _, frame⟩
    rfl
  · rw [hce]
    exact s.modCe_same n _
  · rw [hce]
    exact s.modCe_ne n m _ hm
  · refine RegsBut.mono (show RegsBut s t _ from regs) fun e he => ?_
    obtain ⟨a, -, ha⟩ := List.mem_flatMap.1 he
    exact List.mem_flatMap.2 ⟨a, List.mem_range.2 a.isLt, ha⟩
  · obtain ⟨ha, hon⟩ := (hcloses a).1 hc
    exact (hclosed a ha).bad hon hbad
  · obtain ⟨ha, hon⟩ := (hcloses a).1 hc
    exact (hclosed a ha).taken hon hbad hm
  · by_cases ha : a ∈ s.armsToClose n
    · refine (hclosed a ha).left (hl.imp (fun hn => ?_) id)
      exact Bool.eq_false_iff.2 fun hon => hn ((hcloses a).2 ⟨ha, hon⟩)
    · exact others a ha

/-- Settles O42: the start of a task by what the dispatcher does with it and what the entry gives, the deadline by the end of the task, and the arms
by the close of each of them in turn. -/
theorem taskStartAndDeadline : Obligations.TaskStartAndDeadline := ⟨taskStart, deadlineMiss, deadlineClosesArms⟩

end Sys2Proof.Machine
end

section
/-! SUPPORT. What an engine instruction answers, whichever it is: it issues, and it is skipped, takes an exception or is performed (R88, R106,
R107). -/
namespace Sys2Proof.Machine

/-! Every engine instruction issues. -/

/-- Instruction `i` goes through the issue rule, from a state that differs only where the instruction is performed (a count of R155). -/
def Issues (i : Instr) (n : Fin 24) (pr : BitVec 4) (s : State) : Prop :=
  ∃ u eff s', exec i s = .next (issue n pr u i eff s') ∧ (s.performs n i pr = false → s' = s)

theorem State.dataCount_skipped {s : State} {n : Fin 24} {i : Instr} {pr : BitVec 4} {a size : Nat} {store : Bool}
    (h : s.performs n i pr = false) : s.dataCount n i pr a size store = s := by
  simp [State.dataCount, h]

theorem exec_issues {i : Instr} {n : Fin 24} {pr : BitVec 4} (s : State) (h : engineOf i = some (n, pr)) : Issues i n pr s := by
  cases i with
  | ldw | ldh | ldhu | ldb | ldbu | ldq | ldwp | stw | sth | stb | stq | stwp =>
    cases h
    exact ⟨_, _, _, rfl, State.dataCount_skipped⟩
  | pega | pegr | pegrk | pegq =>
    cases h
    exact ⟨_, _, _, rfl, fun hp => if_neg (Bool.eq_false_iff.1 hp)⟩
  | _ => cases h <;> exact ⟨_, _, _, rfl, fun _ => rfl⟩

theorem State.performs_iff (s : State) (n : Fin 24) (i : Instr) (pr : BitVec 4) : s.performs n i pr = true ↔ Performs i n pr s := by
  simp [State.performs, and_assoc]

/-! A false predicate (R88). -/

/-- The claim of R88. -/
theorem falsePredicateHasNoEffect : Claims.FalsePredicateHasNoEffect := by
  intro i n pr s hi hf hl hp
  obtain ⟨u, eff, s', hexec, hs⟩ := exec_issues s hi
  obtain rfl : s' = s := hs (Bool.eq_false_iff.2 fun h => Bool.false_ne_true (hp.symm.trans ((s.performs_iff n i pr).1 h).2.2))
  refine ⟨_, hexec, ?_⟩
  rw [issue_false hf hl hp]
  refine ⟨.of_modCe _ _ _, ?_, ?_⟩
  · rw [State.modCe_same, State.countFetch_ce]
    rfl
  · rw [State.modCe_same, State.countFetch_ce]
    exact Eng.settle_allFlags _ _

/-! Exceptions (R106, R107). -/

/-- Engine `n` has settled flags and register fields have been put again, and nothing reads differently but s_flags. -/
structure SettledFrom (n : Fin 24) (s t : State) : Prop where
  frame : EngineFrame s t
  fields : t.getF = s.getF
  others : ∀ m : Fin 24, m ≠ n → t.ce[m] = s.ce[m]
  own : ∃ c, t.ce[n] = (s.ce[n]).settle c

theorem SettledFrom.modCe (s : State) (n : Fin 24) (c : Nat) : SettledFrom n s (s.modCe n (fun e => e.settle c)) :=
  ⟨rfl, rfl, fun m hm => s.modCe_ne n m _ hm, c, s.modCe_same n _⟩

section
variable {n : Fin 24} {s s' t : State} (h : SettledFrom n s s')
include h

/-- The images of an engine are those of before. -/
theorem SettledFrom.images (m : Fin 24) : (s'.ce[m]).actArb = (s.ce[m]).actArb ∧ (s'.ce[m]).stgArb = (s.ce[m]).stgArb ∧
    (s'.ce[m]).actHash = (s.ce[m]).actHash ∧ (s'.ce[m]).stgHash = (s.ce[m]).stgHash := by
  by_cases hm : m = n
  · obtain ⟨c, hc⟩ := h.own
    rw [hm, hc]
    exact ⟨rfl, rfl, rfl, rfl⟩
  · rw [h.others m hm]
    exact ⟨rfl, rfl, rfl, rfl⟩

theorem SettledFrom.actList : s'.actList = s.actList := by
  simp only [State.actList, State.actMasked, State.testF, h.fields]

theorem SettledFrom.regsBut {l : List (Fld × Nat)} (ht : RegsBut s' t l) : RegsBut s t l :=
  fun f i hi => (ht f i hi).trans (congrFun (congrFun h.fields f) i)

theorem SettledFrom.swapped (ht : Swapped s' t) : Swapped s t := by
  unfold Swapped at ht ⊢
  rw [h.actList, h.fields] at ht
  obtain ⟨hpend, hgo, hdone, hbanks⟩ := ht
  refine ⟨hpend, hgo, hdone, fun m hm => ?_⟩
  obtain ⟨hA, hS, hH, hG⟩ := h.images m
  rw [← hA, ← hS, ← hH, ← hG]
  exact hbanks m hm

theorem SettledFrom.endsTask {l : List (Fld × Nat)} (ht : EndsTask n l s' t) : EndsTask n l s t := by
  have hends : s'.actEnds n = s.actEnds n := by
    simp only [State.actEnds, State.actFree, State.actMasked, State.bit, State.testF, h.actList, h.fields]
  have hswap : s'.swapFields = s.swapFields := by rw [State.swapFields, h.actList, State.swapFields]
  obtain ⟨still, swap⟩ := ht
  rw [hends] at still swap
  refine ⟨fun hn => ?_, fun hy => ?_⟩
  · obtain ⟨frame, regs, others⟩ := still hn
    exact ⟨h.frame.trans frame, h.regsBut regs, fun m hm => (others m hm).trans (h.others m hm)⟩
  · obtain ⟨frame, regs, swapped, others⟩ := swap hy
    rw [hswap] at regs
    refine ⟨?_, h.regsBut regs, h.swapped swapped, fun m hm => ?_⟩
    · obtain ⟨r, c, rfl⟩ : ∃ r c, s' = { s with regs := r, ce := c } := ⟨_, _, h.frame⟩
      exact frame
    · have := others m hm
      rw [SwapKeeps, h.others m hm] at this
      exact this

/-- An exception told from the settled engine is one told from before. -/
theorem SettledFrom.takes {cause : Nat} {pc info : Word} (ht : Takes n cause pc info s' t) : Takes n cause pc info s t := by
  obtain ⟨c, hc⟩ := h.own
  unfold Takes at ht ⊢
  simp only [State.bit, State.testF, h.fields, hc, Eng.settle_allFlags] at ht
  obtain ⟨hrun, hcount, hnew, hheld, htrip, hends, hregs⟩ := ht
  exact ⟨hrun, hcount, hnew, hheld, htrip, h.endsTask hends, hregs⟩

end

section
variable {i : Instr} {n : Fin 24} {pr : BitVec 4} {s : State} (u : Use)

/-- An exception of the performed instruction. -/
theorem issue_exc (h : Performs i n pr s) {eff : Nat → State → Res} {cause : Nat} {info : Word}
    (he : ∀ t c, eff t ((s.countFetch n).modCe n (fun e => e.settle c)) = .exc cause info) (hc : cause < 16) :
    Takes n cause (s.ce[n]).pc info (s.countFetch n) (issue n pr u i eff s) := by
  rw [issue_performs h]
  simp only [he]
  exact (SettledFrom.modCe _ n _).takes (State.exception_takes _ n cause _ info _ hc)

/-- An illegal encoding takes ILLEGAL with its word. -/
theorem issue_illegal_takes (h : Fetches n s) (hl : i.legal = false) (eff : Nat → State → Res) :
    Takes n 1 (s.ce[n]).pc i.word (s.countFetch n) (issue n pr u i eff s) := by
  rw [issue_illegal h hl]
  exact (SettledFrom.modCe _ n _).takes (State.exception_takes _ n 1 _ i.word _ (by decide))

end

/-! Instructions that write one register, accumulator or predicate. -/

section
variable {i : Instr} {n : Fin 24} {pr : BitVec 4} {s : State} {u : Use}

theorem Gives.result {rd : BitVec 5} {r : Eng → Word × NFlags} {x : Word × NFlags}
    (hexec : exec i s = .next (issue n pr u i (resultEff n rd r) s)) (hr : ∀ c, r ((s.ce[n]).settle c) = x) :
    Gives i n pr s (Result n rd x) :=
  fun h => ⟨_, hexec, hr _ ▸ issue_result h u rd r⟩

theorem Gives.accResult {a : BitVec 2} {r : Eng → BitVec 72 × NFlags} {x : BitVec 72 × NFlags}
    (hexec : exec i s = .next (issue n pr u i (accEff n a r) s)) (hr : ∀ c, r ((s.ce[n]).settle c) = x) :
    Gives i n pr s (AccResult n a x) :=
  fun h => ⟨_, hexec, hr _ ▸ issue_accResult h u a r⟩

theorem Gives.predResult {pd : BitVec 3} {r : Eng → Bool × NFlags} {b : Bool} {fl : NFlags}
    (hexec : exec i s = .next (issue n pr u i (regEff n (fun e => (e.writeP pd (r e).1).raise (r e).2)) s))
    (hpd : i.legal = true → pd ≠ 0#3) (hr : ∀ c, r ((s.ce[n]).settle c) = (b, fl)) :
    Gives i n pr s (PredResult n pd b fl) := by
  intro h
  obtain ⟨-, hl, -⟩ := id h
  have hres := issue_predResult h u pd (hpd hl) r
  rw [hr] at hres
  exact ⟨_, hexec, hres⟩

/-- Two effects that act alike on the settled state give the same. -/
theorem issue_eff_congr (h : Performs i n pr s) (u : Use) {eff eff' : Nat → State → Res}
    (he : let c := (s.ce[n]).tm.issueAt pr true u
      eff c ((s.countFetch n).modCe n (fun e => e.settle c)) = eff' c ((s.countFetch n).modCe n (fun e => e.settle c))) :
    issue n pr u i eff s = issue n pr u i eff' s := by
  rw [issue_performs h, issue_performs h]
  simp only [he]

end

end Sys2Proof.Machine
end

section
/-! The Q31 and accumulator instructions (R84, R86, R100). -/
namespace Sys2Proof.Machine

/-! The arithmetic of the model is that of the claims. -/

theorem satBits_eq (n : Nat) (v : Int) : satBits n v = (nearest n v, decide (nearest n v ≠ v)) := by
  have hpos : (0 : Int) < 2 ^ (n - 1) := by positivity
  unfold satBits nearest
  split_ifs with hlo hhi
  · rw [min_eq_right (by omega), max_eq_left (by omega), decide_eq_true (by omega)]
  · rw [min_eq_left (by omega), max_eq_right (by omega), decide_eq_true (by omega)]
  · rw [min_eq_right (by omega), max_eq_right (by omega), decide_eq_false (by omega)]

theorem satQ_eq (v : Int) : satQ v = qResult v := by
  rw [satQ, satBits_eq]
  rfl

theorem satAcc_eq (v : Int) : satAcc v = accResult v := by
  rw [satAcc, satBits_eq]
  rfl

theorem rnd_eq (v : Int) (k : Nat) : rnd v k = reduced v k := by
  unfold rnd reduced
  rw [Int.fdiv_eq_ediv_of_nonneg _ (by positivity)]

/-- A value of 72 bits stays. -/
theorem accResult_of_fits {v : Int} (hlo : -(2 ^ 71) ≤ v) (hhi : v < 2 ^ 71) : accResult v = (BitVec.ofInt 72 v, {}) := by
  have hv : nearest 72 v = v := by
    unfold nearest
    omega
  rw [accResult, hv, decide_eq_false (not_not.2 rfl)]

/-- The product of two words has 63 bits. -/
theorem natAbs_mul_words (a b : Word) : (a.toInt * b.toInt).natAbs ≤ 2 ^ 62 := by
  have ha := a.toInt_lt
  have hb := b.toInt_lt
  have ha' := a.le_toInt
  have hb' := b.le_toInt
  rw [Int.natAbs_mul]
  calc a.toInt.natAbs * b.toInt.natAbs ≤ 2 ^ 31 * 2 ^ 31 := Nat.mul_le_mul (by omega) (by omega)
    _ = 2 ^ 62 := by norm_num

/-- The claim of R84 and R100. -/
theorem q31Results : Claims.Q31Results := by
  intro n pr rd ra rb s a b k
  refine ⟨.result rfl fun _ => satQ_eq _, .result rfl fun _ => satQ_eq _, .result rfl fun _ => ?_, .result rfl fun _ => satQ_eq _,
    .result rfl fun _ => satQ_eq _, .result rfl fun _ => satQ_eq _, .result rfl fun _ => ?_⟩
  · rw [qMul, satQ_eq, rnd_eq]
    rfl
  · rw [qShr, rnd_eq]
    rfl

/-- The claim of R86 and R100. -/
theorem accumulatorResults : Claims.AccumulatorResults := by
  intro n pr rd ra rb k a s e v x y
  have hmpya : satAcc (x * y) = (BitVec.ofInt 72 (x * y), {}) := by
    have hb : (x * y).natAbs ≤ 2 ^ 62 := natAbs_mul_words _ _
    rw [satAcc_eq]
    exact accResult_of_fits (by omega) (by omega)
  have hracc : raccVal v k.toNat = qResult (reduced (v * 2 ^ k.toNat) 31) := by rw [raccVal, satQ_eq, rnd_eq]
  exact ⟨.accResult rfl fun _ => satAcc_eq _, .accResult rfl fun _ => satAcc_eq _, .accResult rfl fun _ => hmpya,
    .accResult rfl fun _ => satAcc_eq _, .accResult rfl fun _ => rfl, .result rfl fun _ => hracc, .result rfl fun _ => rfl,
    .result rfl fun _ => rfl, .result rfl fun _ => rfl, .accResult rfl fun _ => rfl, .accResult rfl fun _ => rfl,
    .accResult rfl fun _ => rfl⟩

/-- Settles O32: the saturation and the rounding of the model are those of the claims, and an exact product of words never saturates 72 bits. -/
theorem fixedPointInstructions : Obligations.FixedPointInstructions := ⟨q31Results, accumulatorResults⟩

end Sys2Proof.Machine
end

section
/-! The compares, PLOG and the special registers (R82, R87, R102). -/
namespace Sys2Proof.Machine

/-! Conditions. -/

/-- A NaN operand, and a signalling one, by the bits of binary32. -/
theorem Fp.ofWord_nan (w : Word) : (Fp.ofWord w).isNan = isNan32 w ∧ (Fp.ofWord w).isSnan = isSnan32 w := by
  have hexp : bitsOf w.toNat 30 23 = w.toNat / 2 ^ 23 % 256 := rfl
  have hman : bitsOf w.toNat 22 0 = w.toNat % 2 ^ 23 := by simp [bitsOf]
  have hbit : w.getLsbD 22 = decide (2 ^ 22 ≤ w.toNat % 2 ^ 23) := by
    rw [BitVec.getLsbD, Nat.testBit_eq_decide_div_mod_eq]
    exact decide_eq_decide.2 (by omega)
  simp only [Fp.ofWord, isSnan32, isNan32, hexp, hman, hbit]
  generalize w.toNat / 2 ^ 23 % 256 = exp
  generalize w.toNat % 2 ^ 23 = mant
  by_cases he : exp = 255
  · by_cases hm : mant = 0
    · simp [he, hm, Fp.isNan, Fp.isSnan]
    · by_cases hq : 4194304 ≤ mant <;> simp [he, hm, hq, Fp.isNan, Fp.isSnan]
  · by_cases hz : exp = 0 <;> simp [he, hz, Fp.isNan, Fp.isSnan]

/-- A NaN equals nothing. -/
theorem Fp.eq_of_nan {x y : Fp} (h : (x.isNan || y.isNan) = true) : x.eq y = false := by
  cases x <;> cases y <;> simp_all [Fp.isNan, Fp.eq]

theorem Gives.cmp {n : Fin 24} {pr k : BitVec 4} {pd : BitVec 3} {comb : BitVec 2} {ra rb : BitVec 5} {s : State} {v : Bool} {fl : NFlags}
    (h : condVal k ((s.ce[n]).readG ra) ((s.ce[n]).readG rb) = some (v, fl)) :
    Gives (.cmp n pr pd comb ra rb k) n pr s (PredResult n pd (combined comb ((s.ce[n]).readP pd) v) fl) := by
  refine .predResult (r := fun e => let r := (condVal k (e.readG ra) (e.readG rb)).getD (false, {})
    (combVal comb (e.readP pd) r.1, r.2)) rfl (fun hl => ?_) (fun c => ?_)
  · simp only [Instr.legal, Bool.and_eq_true, bne_iff_ne] at hl
    exact hl.1.2
  · simp only [Eng.settle_readG, h]
    rfl

theorem Gives.cmpi {n : Fin 24} {pr k : BitVec 4} {pd : BitVec 3} {comb : BitVec 2} {ra : BitVec 5} {imm : BitVec 8} {s : State} {v : Bool}
    {fl : NFlags} (h : condVal k ((s.ce[n]).readG ra) (BitVec.ofInt 32 imm.toInt) = some (v, fl)) :
    Gives (.cmpi n pr pd comb ra imm k) n pr s (PredResult n pd (combined comb ((s.ce[n]).readP pd) v) fl) := by
  refine .predResult (r := fun e => let r := (condVal k (e.readG ra) (imm.signExtend 32)).getD (false, {})
    (combVal comb (e.readP pd) r.1, r.2)) rfl (fun hl => ?_) (fun c => ?_)
  · simp only [Instr.legal, Bool.and_eq_true, bne_iff_ne] at hl
    exact hl.1.2
  · simp only [Eng.settle_readG, BitVec.signExtend, h]
    rfl

theorem Gives.plog {n : Fin 24} {pr : BitVec 4} {pd pa pb k : BitVec 3} {s : State} {v : Bool}
    (h : plogVal k ((s.ce[n]).readP pa) ((s.ce[n]).readP pb) = v) :
    Gives (.plog n pr pd pa pb k) n pr s (PredResult n pd v {}) := by
  refine .predResult (r := fun e => (plogVal k (e.readP pa) (e.readP pb), {})) rfl (fun hl => ?_) (fun c => ?_)
  · simp only [Instr.legal, Bool.and_eq_true, bne_iff_ne] at hl
    exact hl.1.2
  · simp only [Eng.settle_readP, h]

/-- The FP32 conditions by the bits of the operands (Table 3-14). -/
theorem condVal_fp (a b : Word) :
    let x := Fp.ofWord a
    let y := Fp.ofWord b
    let nan := isNan32 a || isNan32 b
    let snan := isSnan32 a || isSnan32 b
    condVal 8#4 a b = some (!nan && x.eq y, { nv := snan }) ∧ condVal 9#4 a b = some (nan || !x.eq y, { nv := snan }) ∧
    condVal 10#4 a b = some (!nan && x.lt y, { nv := nan }) ∧ condVal 11#4 a b = some (!nan && !x.lt y, { nv := nan }) ∧
    condVal 12#4 a b = some (nan, { nv := snan }) := by
  intro x y nan snan
  obtain ⟨hna, hsa⟩ := Fp.ofWord_nan a
  obtain ⟨hnb, hsb⟩ := Fp.ofWord_nan b
  have hnan : (x.isNan || y.isNan) = nan := by rw [hna, hnb]
  have hsnan : (x.isSnan || y.isSnan) = snan := by rw [hsa, hsb]
  have heq : x.eq y = (!nan && x.eq y) := by
    cases hn : nan
    · rfl
    · exact Fp.eq_of_nan (hnan.trans hn)
  have hne : (!x.eq y) = (nan || !x.eq y) := by
    rw [heq]
    cases nan <;> rfl
  refine ⟨?_, ?_, ?_, ?_, ?_⟩
  · rw [← heq, ← hsnan]
    rfl
  · rw [← hne, ← hsnan]
    rfl
  · rw [← hnan]
    rfl
  · rw [← hnan]
    rfl
  · rw [← hnan, ← hsnan]
    rfl

/-- The claim of R102. -/
theorem predicateResults : Claims.PredicateResults := by
  intro n pr pd pa pb comb ra rb imm s e a b c x y nan snan
  obtain ⟨heq, hne, hlt, hge, hun⟩ := condVal_fp a b
  refine ⟨fun k v hk => .cmp ?_, fun k v hk => .cmpi ?_, fun k v nv hk => .cmp ?_, fun k v hk => .plog ?_⟩
  · simp only [List.mem_cons, Prod.mk.injEq, List.not_mem_nil, or_false] at hk
    rcases hk with ⟨rfl, rfl⟩ | ⟨rfl, rfl⟩ | ⟨rfl, rfl⟩ | ⟨rfl, rfl⟩ | ⟨rfl, rfl⟩ | ⟨rfl, rfl⟩ <;> rfl
  · simp only [List.mem_cons, Prod.mk.injEq, List.not_mem_nil, or_false] at hk
    rcases hk with ⟨rfl, rfl⟩ | ⟨rfl, rfl⟩ | ⟨rfl, rfl⟩ | ⟨rfl, rfl⟩ | ⟨rfl, rfl⟩ | ⟨rfl, rfl⟩ <;> rfl
  · simp only [List.mem_cons, Prod.mk.injEq, List.not_mem_nil, or_false] at hk
    rcases hk with ⟨rfl, rfl, rfl⟩ | ⟨rfl, rfl, rfl⟩ | ⟨rfl, rfl, rfl⟩ | ⟨rfl, rfl, rfl⟩ | ⟨rfl, rfl, rfl⟩
    exacts [heq, hne, hlt, hge, hun]
  · simp only [List.mem_cons, Prod.mk.injEq, List.not_mem_nil, or_false] at hk
    rcases hk with ⟨rfl, rfl⟩ | ⟨rfl, rfl⟩ | ⟨rfl, rfl⟩ | ⟨rfl, rfl⟩ | ⟨rfl, rfl⟩ | ⟨rfl, rfl⟩ | ⟨rfl, rfl⟩ | ⟨rfl, rfl⟩ <;> rfl

/-! The special registers. -/

theorem State.getF_countFetch_ne (s : State) (n : Fin 24) {f : Fld} (hf : f ≠ .CE_XCNT_ECCCOR) (i : Nat) :
    (s.countFetch n).getF f i = s.getF f i := by
  unfold State.countFetch
  split
  · exact State.getF_countF_ne _ _ _ _ hf
  · rfl

theorem State.countFetch_atu (s : State) (n : Fin 24) : (s.countFetch n).atu = s.atu := by
  unfold State.countFetch State.countF
  split <;> rfl

/-- What the special registers show is the same for the settled engine after a corrected fetch has been counted, but for s_flags. -/
theorem State.sreg_sources (s : State) (n : Fin 24) (c : Nat) :
    let u := (s.countFetch n).modCe n (fun e => e.settle c)
    u.ce[n] = (s.ce[n]).settle c ∧ u.angle = s.angle ∧ u.getF .ATU_FREQ_FREQ 0 = s.getF .ATU_FREQ_FREQ 0 ∧ u.sDl n = s.sDl n := by
  intro u
  have hce : u.ce[n] = (s.ce[n]).settle c := by rw [State.modCe_same, State.countFetch_ce]
  have hfield {f : Fld} (hf : f ≠ .CE_XCNT_ECCCOR) (i : Nat) : u.getF f i = s.getF f i := s.getF_countFetch_ne n hf i
  have hangle : u.angle = s.angle := congrArg (fun a : AtuSt => a.acc / 65536 % 2 ^ 32) (s.countFetch_atu n)
  have hfret : u.fretAu = s.fretAu := congrArg (fun k => 2 ^ 32 / (512 * 2 ^ k)) (hfield (f := .ATU_CFG_FPCSEL) (by simp) 0)
  refine ⟨hce, hangle, hfield (by simp) 0, ?_⟩
  simp only [State.sDl, State.dlPassed, State.offReached, State.fretnum, State.unitAu, State.inFret, hangle, hfret, hce]
  rw [hfield (by simp) 0]
  rfl

/-- s_pred has p0 to p7 as its bits, and p0 reads as 1 (Table 3-7). -/
theorem Eng.predWord_eq_ofBits (e : Eng) : e.predWord = BitVec.ofNat 32 (Nat.ofBits (fun k : Fin 8 => e.readP (BitVec.ofNat 3 k))) := by
  have hb (b : Bool) : b2n b = b.toNat := by cases b <;> rfl
  refine congrArg (BitVec.ofNat 32) ?_
  simp [List.range_succ, Nat.ofBits_succ, Eng.readP, hb]
  omega

theorem Eng.predWord_eq (e : Eng) {v : Word} (hv : ∀ k : Nat, v.getLsbD k = (decide (k < 8) && e.readP (BitVec.ofNat 3 k))) :
    e.predWord = v := by
  refine BitVec.eq_of_getLsbD_eq fun k hk => ?_
  rw [hv, e.predWord_eq_ofBits, BitVec.getLsbD_ofNat, Nat.testBit_ofBits]
  by_cases h : k < 8 <;> simp [hk, h]

theorem Gives.mfs {n : Fin 24} {pr : BitVec 4} {rd : BitVec 5} {k : BitVec 12} {s : State} {v : Word}
    (h : let c := (s.ce[n]).tm.issueAt pr true { writesG := [(rd, 2)], readsP := predRegs k }
      ((s.countFetch n).modCe n (fun e => e.settle c)).sreg n c k = v) :
    Gives (.mfs n pr rd k) n pr s (Result n rd (v, {})) := by
  intro hp
  refine ⟨_, rfl, ?_⟩
  rw [issue_eff_congr hp _ (eff' := resultEff n rd (fun _ => (v, {})))]
  · exact issue_result hp _ rd _
  · simp only [h]
    rfl

/-- s_pred written: p1 to p7 take their bits, and p0 still reads as 1. -/
theorem Eng.readP_writeSreg (e : Eng) (w : Word) (k : BitVec 3) :
    (e.writeSreg 0x11#12 w).readP k = (decide (k = 0#3) || w.getLsbD k.toNat) := by
  by_cases hk : k = 0#3
  · simp [hk]
  · have hn : k.toNat ≠ 0 := fun h => hk (BitVec.eq_of_toNat_eq h)
    simp [Eng.readP, Eng.writeSreg, hk, hn]

theorem Gives.mtsFlags (n : Fin 24) (pr : BitVec 4) (ra : BitVec 5) (s : State) :
    let e := s.ce[n]
    let inFlight := e.flagQ.filter (fun q => decide (e.tm.issueAt pr true { readsG := [ra] } < q.1))
    Gives (.mts n pr 0x10#12 ra) n pr s (fun s t => OnlyEngine n s t ∧
      t.ce[n] = { e with flags := (e.readG ra).extractLsb' 0 7, flagQ := t.ce[n].flagQ, pc := e.pc + 4#32, tm := t.ce[n].tm } ∧
      (t.ce[n]).allFlags = inFlight.foldl (fun f q => f ||| q.2) ((e.readG ra).extractLsb' 0 7)) := by
  intro e inFlight hp
  have hqueue (c : Nat) : (e.settle c).flagQ = e.flagQ.filter (fun q => decide (c < q.1)) :=
    List.filter_congr fun q _ => by rw [← decide_not, decide_eq_decide, not_le]
  refine ⟨_, rfl, ?_⟩
  rw [issue_regEff hp]
  refine ⟨.of_modCe _ _ _, ?_, ?_⟩
  · rw [State.modCe_same, State.countFetch_ce]
    rfl
  · rw [State.modCe_same, State.countFetch_ce]
    refine (Eng.dueFlags_allFlags ((e.settle _).writeSreg 0x10#12 (e.readG ra)) _).trans ?_
    exact congrArg (fun l : List (Nat × BitVec 7) => l.foldl (fun f q => f ||| q.2) ((e.readG ra).extractLsb' 0 7)) (hqueue _)

theorem Gives.mtsPreds (n : Fin 24) (pr : BitVec 4) (ra : BitVec 5) (s : State) :
    Gives (.mts n pr 0x11#12 ra) n pr s (fun s' t => OnlyEngine n s' t ∧
      EngIs n { s.ce[n] with p := t.ce[n].p, pc := (s.ce[n]).pc + 4#32 } t ∧
      ∀ k : BitVec 3, (t.ce[n]).readP k = (decide (k = 0#3) || ((s.ce[n]).readG ra).getLsbD k.toNat)) := by
  intro hp
  refine ⟨_, rfl, ?_⟩
  rw [issue_regEff hp]
  refine ⟨.of_modCe _ _ _, ⟨?_, ?_⟩, fun k => ?_⟩
  · rw [State.modCe_same, State.countFetch_ce]
    rfl
  · rw [State.modCe_same, State.countFetch_ce]
    exact (Eng.dueFlags_allFlags _ _).trans (Eng.settle_allFlags _ _)
  · rw [State.modCe_same, State.countFetch_ce]
    exact Eng.readP_writeSreg ((s.ce[n]).settle _) _ k

theorem sregReadable_eq_false {k : BitVec 12} (h : k ∉ ([0, 1, 2, 3, 4, 5, 6, 7, 0x10, 0x11] : List (BitVec 12))) :
    sregReadable k = false := by
  simp only [List.mem_cons, List.not_mem_nil, or_false, not_or] at h
  exact decide_eq_false (by bv_omega)

theorem sregWritable_eq_false {k : BitVec 12} (h10 : k ≠ 0x10#12) (h11 : k ≠ 0x11#12) : sregWritable k = false :=
  decide_eq_false (by bv_omega)

/-- The claim of R82 and R87. -/
theorem specialRegisters : Claims.SpecialRegisters := by
  intro n pr rd ra s e t inFlight
  refine ⟨fun k v hk => .mfs ?_, fun v hv => .mfs ?_, .mtsFlags n pr ra s, .mtsPreds n pr ra s, fun k hk hf => ?_, fun k h10 h11 hf => ?_⟩
  · simp only [List.mem_cons, Prod.mk.injEq, List.not_mem_nil, or_false] at hk
    obtain ⟨hce, hangle, hfreq, hdl⟩ := s.sreg_sources n t
    rcases hk with ⟨rfl, rfl⟩ | ⟨rfl, rfl⟩ | ⟨rfl, rfl⟩ | ⟨rfl, rfl⟩ | ⟨rfl, rfl⟩ | ⟨rfl, rfl⟩ | ⟨rfl, rfl⟩ | ⟨rfl, rfl⟩ | ⟨rfl, rfl⟩
    exacts [(congrArg Eng.sfret hce :), (congrArg (fun e => BitVec.ofNat 32 e.sfic) hce :), congrArg (BitVec.ofNat 32) hangle,
      congrArg (BitVec.ofNat 32) hfreq, congrArg (BitVec.ofNat 32) hdl,
      (congrArg (fun e => BitVec.ofNat 32 (t - e.tm.first.getD t)) hce :), rfl,
      (congrArg (fun e => e.sentry.zeroExtend 32) hce).trans (BitVec.ofNat_toNat _ _).symm,
      (congrArg (fun e => e.flags.zeroExtend 32) hce).trans (BitVec.ofNat_toNat _ _).symm]
  · obtain ⟨hce, -⟩ := s.sreg_sources n (e.tm.issueAt pr true { writesG := [(rd, 2)], readsP := predRegs 0x11#12 })
    exact (congrArg Eng.predWord hce).trans (e.predWord_eq hv)
  · refine ⟨_, rfl, issue_illegal_takes _ hf ?_ _⟩
    rw [Instr.legal, sregReadable_eq_false hk, Bool.and_false]
  · refine ⟨_, rfl, issue_illegal_takes _ hf ?_ _⟩
    rw [Instr.legal, sregWritable_eq_false h10 h11, Bool.and_false]

/-- Settles O34: the conditions by the bits of binary32, the special registers as the settled engine shows them, and a false predicate by the
issue rule, through which every engine instruction goes. -/
theorem predicateInstructions : Obligations.PredicateInstructions := ⟨predicateResults, specialRegisters, falsePredicateHasNoEffect⟩

end Sys2Proof.Machine
end

section
/-! SUPPORT. What a register of the engines' windows does (R137) does not look at the engines and draws nothing: the operations of the PWM, of the
trip fabric's inputs and of a register read, with other engines and another count of draws in place. -/
namespace Sys2Proof.Machine

/-- The engines and the count of draws are put in place of those of `s`. -/
def State.withEngines (s : State) (c : Vector Eng 24) (k : Nat) : State := { s with ce := c, free := k }

section Blind
variable (s t : State) (c : Vector Eng 24) (k : Nat) (n : Fin 24) (f : Fld) (i v : Nat) (b : Bool) (x : TripIn) (w : Word)

/-! What is read is the same. -/

@[simp] theorem State.withEngines_getF : (s.withEngines c k).getF f i = s.getF f i := (rfl)
@[simp] theorem State.withEngines_bit : (s.withEngines c k).bit f i = s.bit f i := (rfl)
@[simp] theorem State.withEngines_testF : (s.withEngines c k).testF f i v = s.testF f i v := (rfl)
@[simp] theorem State.withEngines_tick : (s.withEngines c k).tick = s.tick := (rfl)
@[simp] theorem State.withEngines_pairs : (s.withEngines c k).pairs = s.pairs := (rfl)
@[simp] theorem State.withEngines_pwStarts : (s.withEngines c k).pwStarts = s.pwStarts := (rfl)
@[simp] theorem State.withEngines_refOk : (s.withEngines c k).refOk = s.refOk := (rfl)
@[simp] theorem State.withEngines_fabRuns : (s.withEngines c k).fabRuns = s.fabRuns := (rfl)
@[simp] theorem State.withEngines_inS4 : (s.withEngines c k).inS4 = s.inS4 := (rfl)
@[simp] theorem State.withEngines_trIn : (s.withEngines c k).trIn x = s.trIn x := by cases x <;> exact rfl
@[simp] theorem State.withEngines_trState : (s.withEngines c k).trState x = s.trState x := (rfl)
@[simp] theorem State.withEngines_sampled : (s.withEngines c k).sampled x = s.sampled x := by cases x <;> exact rfl
@[simp] theorem State.withEngines_tickLen : (s.withEngines c k).tickLen x = s.tickLen x := by cases x <;> exact rfl
@[simp] theorem State.withEngines_rawSides : (s.withEngines c k).rawSides x = s.rawSides x := by cases x <;> exact rfl
@[simp] theorem State.withEngines_rawHeld : (s.withEngines c k).rawHeld x = s.rawHeld x := by cases x <;> exact rfl
@[simp] theorem State.withEngines_filtNeed : (s.withEngines c k).filtNeed x = s.filtNeed x := by simp [State.filtNeed]
@[simp] theorem State.withEngines_cbcActive : (s.withEngines c k).cbcActive n = s.cbcActive n := (rfl)
@[simp] theorem State.withEngines_commands : (s.withEngines c k).commands n = s.commands n := (rfl)
@[simp] theorem State.withEngines_pairOff : (s.withEngines c k).pairOff n = s.pairOff n := (rfl)
@[simp] theorem State.withEngines_pairOk : (s.withEngines c k).pairOk i = s.pairOk i := (rfl)
@[simp] theorem State.withEngines_tripForced : (s.withEngines c k).tripForced n = s.tripForced n := (rfl)
@[simp] theorem State.withEngines_heldFrozen : (s.withEngines c k).heldFrozen n = s.heldFrozen n := (rfl)
@[simp] theorem State.withEngines_deadTimes : (s.withEngines c k).deadTimes n = s.deadTimes n := (rfl)
@[simp] theorem State.withEngines_taken : (s.withEngines c k).taken n = s.taken n := (rfl)
@[simp] theorem State.withEngines_chained (m : Fin 24) : (s.withEngines c k).chained n m = s.chained n m := (rfl)
@[simp] theorem State.withEngines_pairLine : (s.withEngines c k).pairLine n = s.pairLine n := (rfl)
@[simp] theorem State.withEngines_regLive (r : Reg) : (s.withEngines c k).regLive r i = s.regLive r i := (rfl)
@[simp] theorem State.withEngines_showReg (r : Reg) : (s.withEngines c k).showReg r i = s.showReg r i := (rfl)

/-! What is written goes with them. -/

@[simp] theorem State.ite_withEngines (p : Prop) [Decidable p] :
    (if p then s.withEngines c k else t.withEngines c k) = (if p then s else t).withEngines c k :=
  (apply_ite (State.withEngines · c k) p s t).symm

@[simp] theorem State.setF_withEngines : (s.withEngines c k).setF f i v = (s.setF f i v).withEngines c k := rfl
@[simp] theorem State.setBit_withEngines : (s.withEngines c k).setBit f i b = (s.setBit f i b).withEngines c k := rfl
@[simp] theorem State.orF_withEngines : (s.withEngines c k).orF f i v = (s.orF f i v).withEngines c k := rfl
@[simp] theorem State.clrF_withEngines : (s.withEngines c k).clrF f i v = (s.clrF f i v).withEngines c k := by
  simp [State.clrF]
@[simp] theorem State.countF_withEngines : (s.withEngines c k).countF f i v = (s.countF f i v).withEngines c k := rfl
@[simp] theorem State.modPair_withEngines (g : PairSt → PairSt) :
    (s.withEngines c k).modPair n g = (s.modPair n g).withEngines c k := rfl
@[simp] theorem State.modTrIn_withEngines (g : TrInSt → TrInSt) :
    (s.withEngines c k).modTrIn x g = (s.modTrIn x g).withEngines c k := by cases x <;> rfl

/-- A chain of such operations is one. -/
theorem State.foldl_withEngines {α : Type} (g : State → α → State)
    (hg : ∀ t a, g (t.withEngines c k) a = (g t a).withEngines c k) (l : List α) :
    l.foldl g (s.withEngines c k) = (l.foldl g s).withEngines c k := by
  induction l generalizing s with
  | nil => rfl
  | cons a l ih => rw [List.foldl_cons, List.foldl_cons, hg, ih]

/-! The inputs of the trip fabric. -/

@[simp] theorem State.setLatch_withEngines : (s.withEngines c k).setLatch i b = (s.setLatch i b).withEngines c k := by
  by_cases hcmp : i < 32
  · simp [State.setLatch, hcmp]
  by_cases hpin : i < 40
  · simp [State.setLatch, hcmp, hpin]
  by_cases hsw : i < 64
  · simp [State.setLatch, hcmp, hpin, hsw]
  simp only [State.setLatch, hcmp, hpin, hsw, if_false]
  split <;> simp

@[simp] theorem State.qualify_withEngines : (s.withEngines c k).qualify x = (s.qualify x).withEngines c k := by
  cases x <;> simp [State.qualify]

@[simp] theorem State.gateStep_withEngines : (s.withEngines c k).gateStep x = (s.gateStep x).withEngines c k := by
  simp [State.gateStep]

@[simp] theorem State.decideIn_withEngines : (s.withEngines c k).decideIn x = (s.decideIn x).withEngines c k := by
  simp [State.decideIn]

@[simp] theorem State.blankEndIn_withEngines : (s.withEngines c k).blankEndIn x = (s.blankEndIn x).withEngines c k := by
  simp [State.blankEndIn]

@[simp] theorem State.filtTicks_withEngines (j now : Nat) :
    (s.withEngines c k).filtTicks x j now = (s.filtTicks x j now).withEngines c k := by
  simp [State.filtTicks]

@[simp] theorem State.ticksTo_withEngines (now : Nat) : (s.withEngines c k).ticksTo x now = (s.ticksTo x now).withEngines c k := by
  simp [State.ticksTo]

@[simp] theorem State.inputRun_withEngines : (s.withEngines c k).inputRun x = (s.inputRun x).withEngines c k := by
  simp [State.inputRun]

@[simp] theorem State.openWindows_withEngines (p : Nat) (h rising : Bool) :
    (s.withEngines c k).openWindows p h rising = (s.openWindows p h rising).withEngines c k :=
  State.foldl_withEngines s c k _ (fun t x => by simp) _

/-! The outputs of the PWM. -/

@[simp] theorem State.setBall_withEngines (h on : Bool) : (s.withEngines c k).setBall n h on = (s.setBall n h on).withEngines c k := by
  simp [State.setBall]

@[simp] theorem State.drive_withEngines (want : Bool × Bool) : (s.withEngines c k).drive n want = (s.drive n want).withEngines c k := by
  simp [State.drive]

@[simp] theorem State.cbcCut_withEngines : (s.withEngines c k).cbcCut n = (s.cbcCut n).withEngines c k := rfl

@[simp] theorem State.planPart_withEngines : (s.withEngines c k).planPart n = (s.planPart n).withEngines c k := by
  simp [State.planPart]

@[simp] theorem State.settle_withEngines : (s.withEngines c k).settle n = (s.settle n).withEngines c k := by
  simp [State.settle]

@[simp] theorem State.pairStop_withEngines : (s.withEngines c k).pairStop n = (s.pairStop n).withEngines c k := by
  simp [State.pairStop]

@[simp] theorem State.pairEnable_withEngines : (s.withEngines c k).pairEnable n = (s.pairEnable n).withEngines c k := by
  simp [State.pairEnable]

@[simp] theorem State.pairDisable_withEngines : (s.withEngines c k).pairDisable n = (s.pairDisable n).withEngines c k := by
  simp [State.pairDisable]

@[simp] theorem State.writeOvr_withEngines (h l : Nat) : (s.withEngines c k).writeOvr n h l = (s.writeOvr n h l).withEngines c k := by
  simp [State.writeOvr]

@[simp] theorem State.tripClear_withEngines : (s.withEngines c k).tripClear n = (s.tripClear n).withEngines c k := by
  simp [State.tripClear]

@[simp] theorem State.chainTake_withEngines (fuel : Nat) :
    (s.withEngines c k).chainTake n fuel = (s.chainTake n fuel).withEngines c k := by
  induction fuel generalizing s n with
  | zero => rfl
  | succ fuel ih =>
    rw [State.chainTake, State.chainTake]
    exact State.foldl_withEngines s c k _ (fun t m => by simp [ih]) _

@[simp] theorem State.pwmStart_withEngines : (s.withEngines c k).pwmStart v = (s.pwmStart v).withEngines c k := by
  unfold State.pwmStart
  dsimp only
  rw [State.foldl_withEngines s c k _ (fun t m => by simp)]
  rfl

/-! Register writes. -/

@[simp] theorem State.isLocked_withEngines (lk : Option (Fld × Option Fld)) : (s.withEngines c k).isLocked lk = s.isLocked lk := rfl

@[simp] theorem State.lockError_withEngines (lk : Option (Fld × Option Fld)) :
    (s.withEngines c k).lockError lk = (s.lockError lk).withEngines c k := by
  unfold State.lockError
  split <;> rfl

@[simp] theorem State.writeField_withEngines (lk : Option (Fld × Option Fld)) :
    (s.withEngines c k).writeField lk f i v = (s.writeField lk f i v).withEngines c k := by
  unfold State.writeField
  split <;> simp

@[simp] theorem State.writeFields_withEngines (r : Reg) (skip : List Fld) :
    (s.withEngines c k).writeFields r i w skip = (s.writeFields r i w skip).withEngines c k :=
  State.foldl_withEngines s c k _ (fun t g => by simp) _

@[simp] theorem State.writeSwitch_withEngines : (s.withEngines c k).writeSwitch f i w = (s.writeSwitch f i w).withEngines c k := by
  simp [State.writeSwitch]

@[simp] theorem State.writeLock_withEngines (u : LockUnit) (lock unlock : Bool) :
    (s.withEngines c k).writeLock u lock unlock = (s.writeLock u lock unlock).withEngines c k := by
  simp [State.writeLock]

@[simp] theorem State.writePwEn_withEngines : (s.withEngines c k).writeEn (.pw n) b = (s.writeEn (.pw n) b).withEngines c k := by
  simp [State.writeEn, State.enBit, State.enLocked, State.enableUnit, State.disableUnit]

/-! Places. -/

/-- How far a register reaches from its first place. -/
def RegSpec.reach (r : RegSpec) : Nat :=
  match r.dims with
  | [] => 1
  | (c, st) :: _ => c * st

/-- The strides of a register are not 0. -/
def RegSpec.strided (r : RegSpec) : Bool := r.dims.all (fun d => d.2 != 0)

theorem RegSpec.locate_lt {r : RegSpec} {a j : Nat} (hs : r.strided = true) (h : r.locate a = some j) : r.base ≤ a ∧ a < r.base + r.reach := by
  obtain ⟨base, dims, flds⟩ := r
  simp only [RegSpec.locate, RegSpec.strided] at *
  split_ifs at h with hlt
  refine ⟨Nat.not_lt.1 hlt, ?_⟩
  have hin {c st : Nat} (hst : 0 < st) (hc : (a - base) / st < c) : a - base < c * st := (Nat.div_lt_iff_lt_mul hst).1 hc
  show a < base + RegSpec.reach ⟨base, dims, flds⟩
  rcases dims with _ | ⟨⟨c, st⟩, _ | ⟨⟨d, su⟩, l⟩⟩
  · simp only [Machine.locate] at h
    split_ifs at h
    show a < base + 1
    omega
  · simp only [List.all_cons, List.all_nil, Bool.and_true, bne_iff_ne] at hs
    simp only [Machine.locate] at h
    split_ifs at h with hc
    have := hin (Nat.pos_of_ne_zero hs) hc.2
    show a < base + c * st
    omega
  · simp only [List.all_cons, Bool.and_eq_true, bne_iff_ne] at hs
    simp only [Machine.locate] at h
    split_ifs at h with hc
    have := hin (Nat.pos_of_ne_zero hs.1) hc.1
    show a < base + c * st
    omega

theorem findReg_mem {a j : Nat} {r : Reg} (h : findReg a = some (r, j)) : ∃ e ∈ regTable.flatten, e.1 = r ∧ e.2.locate a = some j := by
  obtain ⟨l, hl, he⟩ := List.exists_of_findSome?_eq_some h
  obtain ⟨e, hel, hloc⟩ := List.exists_of_findSome?_eq_some he
  obtain ⟨j', hj, hr⟩ := Option.map_eq_some_iff.1 hloc
  obtain ⟨rfl, rfl⟩ := Prod.mk.inj hr
  exact ⟨e, List.mem_flatten_of_mem hl hel, rfl, hj⟩

/-- The registers that have a place in [lo, hi), in the order of the table. -/
def regsIn (lo hi : Nat) : List Reg :=
  (regTable.flatten.filter (fun e => !e.2.strided || (decide (e.2.base < hi) && decide (lo < e.2.base + e.2.reach)))).map Prod.fst

theorem findReg_in {a j lo hi : Nat} {r : Reg} (h : findReg a = some (r, j)) (hlo : lo ≤ a) (hhi : a < hi) : r ∈ regsIn lo hi := by
  obtain ⟨e, he, rfl, hloc⟩ := findReg_mem h
  refine List.mem_map_of_mem (List.mem_filter.2 ⟨he, ?_⟩)
  cases hs : e.2.strided
  · rfl
  · obtain ⟨hb, hr⟩ := RegSpec.locate_lt hs hloc
    simp only [Bool.not_true, Bool.false_or, Bool.and_eq_true, decide_eq_true_eq]
    omega

/-- The registers of the PWM window (R283). -/
theorem regsIn_pwm : regsIn 0x400B0000 0x400C0000 = [.PW_CTRL, .PW_CFG, .PW_PRD, .PW_PHS, .PW_CMPA, .PW_CMPB, .PW_TRGA, .PW_TRGB, .PW_DT,
    .PW_MINP, .PW_TRIP, .PW_CBC, .PW_OVR, .PW_STAT, .PW_CNT, .PW_SUPCNT, .PW_MCNT, .PWM_CTRL, .PWM_STAT, .PWM_HOLD, .PWM_START] := by
  decide +kernel

theorem regsIn_request : regsIn 0x400A0800 0x400A0860 = [.TRIP_SWREQ] := by decide +kernel

/-- No window of an engine shows the debug challenge, whose read draws it. -/
theorem challenge_outside_windows : .DBG_CHAL ∉ regsIn 0x40040000 0x40041000 ∧ .DBG_CHAL ∉ regsIn 0x400A0000 0x400C0000 ∧
    .DBG_CHAL ∉ regsIn 0x40110000 0x40120000 := by
  decide +kernel

/-! Reads and writes of a window's word. -/

theorem State.onBit_withEngines (j : Nat) (g : State → State) (hg : ∀ t : State, g (t.withEngines c k) = (g t).withEngines c k) :
    onBit w j g (s.withEngines c k) = (onBit w j g s).withEngines c k := by
  simp [onBit, hg]

theorem State.writeReg_withEngines {r : Reg} (hr : r = .TRIP_SWREQ ∨ r ∈ regsIn 0x400B0000 0x400C0000) :
    (s.withEngines c k).writeReg r i w = (s.writeReg r i w).withEngines c k := by
  have hput : (s.withEngines c k).putReg r i w = (s.putReg r i w).withEngines c k := by
    rcases hr with rfl | hr
    · have hok : (s.withEngines c k).engOk i = s.engOk i := rfl
      simp only [State.putReg, hok, State.swTrip, onBit, State.orF_withEngines, State.ite_withEngines]
    · rw [regsIn_pwm] at hr
      fin_cases hr <;> simp [State.putReg, onBit]
  simp [State.writeReg, hput]

@[simp] theorem State.clearRc_withEngines (r : Reg) : (s.withEngines c k).clearRc r i = (s.clearRc r i).withEngines c k :=
  State.foldl_withEngines s c k _ (fun t g => by simp) _

/-- A register without a read of its own shows its fields, and its RC fields are cleared. -/
theorem State.readReg_plain (rd : TimeReader) {r : Reg} (hr : r ∉ [Reg.DBG_CHAL, .HP_TSQTS, .TIME_NS, .TIME_SECH, .TIME_SECL]) :
    s.readReg rd r i = if s.regLive r i then (s.showReg r i, s.clearRc r i) else (0#32, s) := by
  unfold State.readReg
  cases s.regLive r i
  · rfl
  · rw [if_neg (by simp), if_pos rfl]
    split <;> simp_all

theorem State.popTsq_withEngines (p : Fin 4) :
    (s.withEngines c k).popTsq p = ((s.popTsq p).1, (s.popTsq p).2.withEngines c k) := by
  have hhp : (s.withEngines c k).hp = s.hp := rfl
  unfold State.popTsq
  rw [hhp]
  cases (s.hp[p]).tsq <;> rfl

theorem State.readReg_withEngines (rd : TimeReader) {r : Reg} (hc : r ≠ .DBG_CHAL) :
    (s.withEngines c k).readReg rd r i = ((s.readReg rd r i).1, (s.readReg rd r i).2.withEngines c k) := by
  by_cases hr : r ∈ [Reg.HP_TSQTS, .TIME_NS, .TIME_SECH, .TIME_SECL]
  · unfold State.readReg
    rw [State.withEngines_regLive]
    cases s.regLive r i
    · rfl
    · fin_cases hr
      exacts [s.popTsq_withEngines c k _, rfl, rfl, rfl]
  · have hplain : r ∉ [Reg.DBG_CHAL, .HP_TSQTS, .TIME_NS, .TIME_SECH, .TIME_SECL] := by simp_all
    rw [State.readReg_plain _ _ _ hplain, State.readReg_plain _ _ _ hplain, State.withEngines_regLive, State.withEngines_showReg,
      State.clearRc_withEngines]
    cases s.regLive r i <;> rfl

/-- The windows of the register space that an engine reaches (Table 5-1). -/
theorem windowOf_range {a : Nat} (h : windowOf a ∈ [Window.atu, .trip, .pwm, .time]) :
    (0x40040000 ≤ a ∧ a < 0x40041000) ∨ (0x400A0000 ≤ a ∧ a < 0x400C0000) ∨ (0x40110000 ≤ a ∧ a < 0x40120000) := by
  unfold windowOf at h
  split_ifs at h <;> simp at h <;> omega

/-- Outside the registers, the fret table and the lanes' windows a word of the register space reads 0 and takes nothing. -/
theorem laneOff_none {a : Nat} (h : a < 0x40080000 ∨ 0x40098000 ≤ a) : laneOff a = none := if_neg (by omega)

theorem State.readSpace_withEngines (rd : TimeReader) {a : Nat} (h : windowOf a ∈ [Window.atu, .trip, .pwm, .time]) :
    (s.withEngines c k).readSpace rd a = ((s.readSpace rd a).1, (s.readSpace rd a).2.withEngines c k) := by
  have hrange := windowOf_range h
  unfold State.readSpace
  cases hreg : findReg a with
  | none =>
    dsimp only
    rw [if_neg (by omega), if_neg (by omega), laneOff_none (by omega)]
  | some p =>
    obtain ⟨r, j⟩ := p
    obtain ⟨hatu, htrip, htime⟩ := challenge_outside_windows
    refine s.readReg_withEngines c k _ rd ?_
    rintro rfl
    rcases hrange with ⟨hlo, hhi⟩ | ⟨hlo, hhi⟩ | ⟨hlo, hhi⟩
    · exact hatu (findReg_in hreg hlo hhi)
    · exact htrip (findReg_in hreg hlo hhi)
    · exact htime (findReg_in hreg hlo hhi)

theorem State.writeSpace_withEngines {a : Nat} (h : (0x400B0000 ≤ a ∧ a < 0x400C0000) ∨ (0x400A0800 ≤ a ∧ a < 0x400A0860)) :
    (s.withEngines c k).writeSpace a w = (s.writeSpace a w).withEngines c k := by
  unfold State.writeSpace
  cases hreg : findReg a with
  | none =>
    dsimp only
    rw [if_neg (by omega), if_neg (by omega), laneOff_none (by omega)]
  | some p =>
    refine s.writeReg_withEngines c k _ w ?_
    rcases h with ⟨hlo, hhi⟩ | ⟨hlo, hhi⟩
    · exact .inr (findReg_in hreg hlo hhi)
    · have hr := findReg_in hreg hlo hhi
      rw [regsIn_request] at hr
      exact .inl (List.mem_singleton.1 hr)

end Blind

end Sys2Proof.Machine
end

section
/-! SUPPORT. The loads and stores of an engine (R91 to R94, R103): their addresses and checks, what the accessed memory or register does, and what
the instruction leaves in the engine. -/
namespace Sys2Proof.Machine

/-! Addresses. -/

/-- The data address ra + imm12 × size (R103). -/
theorem Eng.dataAddr_eq (e : Eng) (ra : BitVec 5) (imm : BitVec 12) (size : Nat) :
    e.dataAddr ra imm size = BitVec.ofInt 32 ((e.readG ra).toInt + imm.toInt * size) := by
  rw [BitVec.ofInt_add, BitVec.ofInt_mul, BitVec.ofInt_toInt, BitVec.ofInt_natCast]
  rfl

theorem windowOf_own {a : Nat} : windowOf a = .own ↔ a < 0x10000 := by
  unfold windowOf
  split_ifs <;> simp [*]

theorem windowOf_ssm {a : Nat} (h : windowOf a = .ssm) : 0x10000000 ≤ a ∧ a < 0x107FF000 := by
  unfold windowOf at h
  split_ifs at h with hown hssm
  exact hssm

theorem windowOf_pwm {a : Nat} (h : windowOf a = .pwm) : 0x400B0000 ≤ a ∧ a < 0x400C0000 := by
  unfold windowOf at h
  split_ifs at h with hown hssm hatu htrip hpwm
  exact hpwm

theorem memAddr_ssm (n : Fin 24) {a : Nat} (h : windowOf a = .ssm) : memAddr n a = a :=
  if_neg (by have := windowOf_ssm h; omega)

/-- The ring's header lies in the SSM. -/
theorem State.ringFixed_own (s : State) {a : Nat} (h : a < 0x10000) : s.ringFixed a = false := by
  unfold State.ringFixed
  rw [decide_eq_false (by omega), Bool.false_and]

/-! Checks (R107). -/

theorem State.dataFault_congr {s t : State} (h : t.eccBad = s.eccBad) : t.dataFault = s.dataFault := by
  funext n a size store
  unfold State.dataFault State.dataBad State.badWord
  rw [h]

theorem State.countFetch_frame (s : State) (n : Fin 24) : s.countFetch n = { s with regs := (s.countFetch n).regs } := by
  unfold State.countFetch
  split <;> rfl

theorem State.countFetch_eccBad (s : State) (n : Fin 24) : (s.countFetch n).eccBad = s.eccBad := by
  rw [State.countFetch_frame]

section
variable {s : State} {n : Fin 24} {a size : Nat} {store : Bool}

theorem State.dataFault_align (h : a % size ≠ 0) : s.dataFault n a size store = some 3 := if_pos h

theorem State.dataFault_access (h : a % size = 0) (hw : windowTakes n a size store = false) : s.dataFault n a size store = some 4 := by
  rw [State.dataFault, if_neg (not_not.2 h), hw]
  rfl

theorem windowTakes_mem (h : windowOf a = .own ∨ windowOf a = .ssm) : windowTakes n a size store = true := by
  unfold windowTakes
  rcases h with h | h <;> rw [h]

theorem State.dataBad_mem (h : windowOf a = .own ∨ windowOf a = .ssm) :
    s.dataBad n a size store = (s.badWord (memAddr n a) && (!store || size != 4)) := by
  unfold State.dataBad
  rcases h with h | h <;> rw [h]

theorem State.dataFault_mem (h : a % size = 0) (hw : windowOf a = .own ∨ windowOf a = .ssm) :
    s.dataFault n a size store = if s.badWord (memAddr n a) && (!store || size != 4) then some 6 else none := by
  rw [State.dataFault, if_neg (not_not.2 h), windowTakes_mem hw, State.dataBad_mem hw]
  rfl

theorem State.dataFault_window (h : a % size = 0) (hown : windowOf a ≠ .own) (hssm : windowOf a ≠ .ssm)
    (hw : windowTakes n a size store = true) : s.dataFault n a size store = none := by
  have hbad : s.dataBad n a size store = false := by
    unfold State.dataBad
    split <;> simp_all
  rw [State.dataFault, if_neg (not_not.2 h), hw, hbad]
  rfl

end

/-- Without an uncorrectable word nothing is counted. -/
theorem State.dataCount_none {s : State} {n : Fin 24} {i : Instr} {pr : BitVec 4} {a size : Nat} {store : Bool}
    (h : ¬(windowOf a = .ssm ∧ s.dataFault n a size store = some 6)) : s.dataCount n i pr a size store = s := by
  unfold State.dataCount
  refine if_neg fun hc => h ?_
  simp only [Bool.and_eq_true, beq_iff_eq] at hc
  exact ⟨hc.1.2, hc.2⟩

/-! Other engines in place. -/

/-- The engines are put in place of those of `s`. -/
def State.withCe (s : State) (c : Vector Eng 24) : State := { s with ce := c }

theorem State.countFetch_modCe (s : State) (n : Fin 24) (c : Nat) :
    (s.countFetch n).modCe n (fun e => e.settle c) = (s.countFetch n).withCe ((s.countFetch n).modCe n (fun e => e.settle c)).ce := rfl

/-! What an instruction gives may be said weaker. -/

theorem Gives.imp {i : Instr} {n : Fin 24} {pr : BitVec 4} {s : State} {P Q : State → State → Prop} (h : Gives i n pr s P)
    (hpq : ∀ t, P (s.countFetch n) t → Q (s.countFetch n) t) : Gives i n pr s Q := by
  intro hp
  obtain ⟨t, ht, hP⟩ := h hp
  exact ⟨t, ht, hpq _ hP⟩

/-! What the instruction leaves in the engine. -/

/-- General registers written one after another. -/
def Eng.writeAll (e : Eng) (l : List (BitVec 5 × Word)) : Eng := l.foldl (fun e x => e.writeG x.1 x.2) e

theorem Eng.writeAll_eq (e : Eng) (l : List (BitVec 5 × Word)) : e.writeAll l = { e with g := (e.writeAll l).g } := by
  induction l generalizing e with
  | nil => rfl
  | cons x l ih =>
    have h := ih (e.writeG x.1 x.2)
    rw [Eng.writeG_eq] at h
    rw [show e.writeAll (x :: l) = (e.writeG x.1 x.2).writeAll l from rfl, Eng.writeG_eq]
    exact h

theorem Eng.readG_writeAll (e : Eng) (l : List (BitVec 5 × Word)) (x : BitVec 5) :
    (e.writeAll l).readG x = l.foldl (fun v y => if x = y.1 ∧ y.1 ≠ 0#5 then y.2 else v) (e.readG x) := by
  induction l generalizing e with
  | nil => rfl
  | cons y l ih => rw [List.foldl_cons, ← Eng.readG_writeG, ← ih]; rfl

/-- Engine `n` has performed a load or store with the register writes `ws` and the flags `fl`, and all but the engines is as in `u`. -/
structure Accessed (n : Fin 24) (ws : List (BitVec 5 × Word)) (fl : NFlags) (u s t : State) : Prop where
  state : t = { u with ce := t.ce }
  others : ∀ m : Fin 24, m ≠ n → t.ce[m] = s.ce[m]
  engine : EngineStep n fl s t
  gprs : ∀ x, (t.ce[n]).readG x = ((s.ce[n]).writeAll ws).readG x
  preds : SameP n s t
  accs : SameA n s t

theorem issue_accessed {i : Instr} {n : Fin 24} {pr : BitVec 4} {s : State} (h : Performs i n pr s) (us : Use) {eff : Nat → State → Res}
    {u : State} {ws : List (BitVec 5 × Word)} {fl : NFlags} {block : Nat}
    (he : ∀ t c, eff t ((s.countFetch n).withCe c) = .done ((u.withCe c).modCe n (fun e => (e.writeAll ws).raise fl)) none block) :
    Accessed n ws fl u (s.countFetch n) (issue n pr us i eff s) := by
  rw [issue_performs h]
  dsimp only
  generalize (s.ce[n]).tm.issueAt pr true us = c
  rw [State.countFetch_modCe, he]
  have hce : (((s.countFetch n).modCe n (fun e => e.settle c)).ce)[n] = ((s.countFetch n).ce[n]).settle c := State.modCe_same _ _ _
  have hne (m : Fin 24) (hm : m ≠ n) : (((s.countFetch n).modCe n (fun e => e.settle c)).ce)[m] = (s.countFetch n).ce[m] :=
    State.modCe_ne _ _ _ _ hm
  rw [← State.countFetch_ce s n]
  generalize ((s.countFetch n).modCe n (fun e => e.settle c)).ce = ce at hce hne
  generalize s.countFetch n = s1 at *
  have hown : (u.withCe ce).ce[n] = (s1.ce[n]).settle c := hce
  refine ⟨rfl, fun m hm => ?_, ⟨?_, ?_⟩, fun x => ?_, ?_, ?_⟩
  · rw [State.modCe_ne _ _ _ _ hm, State.modCe_ne _ _ _ _ hm]
    exact hne m hm
  · simp only [State.modCe_same, hown]
    rw [Eng.raise_eq, Eng.writeAll_eq]
    rfl
  · simp only [State.modCe_same, hown]
    refine (Eng.dueFlags_allFlags _ _).trans ((Eng.raise_allFlags _ _).trans ?_)
    rw [Eng.writeAll_eq]
    exact congrArg (· ||| _) (Eng.settle_allFlags _ _)
  · simp only [State.modCe_same, hown]
    rw [Eng.raise_eq, Eng.readG_writeAll]
    exact Eng.readG_writeAll _ _ _
  · simp only [SameP, State.modCe_same, hown]
    rw [Eng.raise_eq, Eng.writeAll_eq]
    rfl
  · simp only [SameA, State.modCe_same, hown]
    rw [Eng.raise_eq, Eng.writeAll_eq]
    rfl

section
variable {n : Fin 24} {fl : NFlags} {u s t : State}

theorem Accessed.sameG (h : Accessed n [] fl u s t) : SameG n s t := h.gprs

theorem Accessed.gprIs {rd : BitVec 5} {w : Word} (h : Accessed n [(rd, w)] fl u s t) : GprIs n rd w s t :=
  fun x => (h.gprs x).trans (Eng.readG_writeAll _ _ _)

theorem Accessed.two {rd ra : BitVec 5} {v w : Word} (h : Accessed n [(ra, w), (rd, v)] fl u s t) (x : BitVec 5) :
    (t.ce[n]).readG x = if x = rd ∧ rd ≠ 0#5 then v else if x = ra ∧ ra ≠ 0#5 then w else (s.ce[n]).readG x :=
  (h.gprs x).trans (Eng.readG_writeAll _ _ _)

end

end Sys2Proof.Machine
end

section
/-! SUPPORT. The loads of an engine (R92, R103, R137). -/
namespace Sys2Proof.Machine

/-! Memory as numbers. -/

theorem State.bytes_congr {s t : State} (h : ∀ a, t.byte a = s.byte a) (a k : Nat) : t.bytes a k = s.bytes a k := by
  induction k generalizing a with
  | zero => rfl
  | succ k ih => rw [State.bytes, State.bytes, h, ih]

theorem State.bytes_lt (s : State) (a k : Nat) : s.bytes a k < 256 ^ k := by
  induction k generalizing a with
  | zero => exact Nat.one_pos
  | succ k ih =>
    have hb := (s.byte a).isLt
    have := ih (a + 1)
    rw [State.bytes, Nat.pow_succ]
    omega

theorem State.countFetch_bytes (s : State) (n : Fin 24) (a k : Nat) : (s.countFetch n).bytes a k = s.bytes a k :=
  State.bytes_congr (fun x => by rw [s.countFetch_frame n]; rfl) a k

/-! What a load finds. -/

section
variable (s : State) (n : Fin 24) (c : Vector Eng 24) {a : Nat} (size : Nat)

@[simp] theorem State.countSoftCe_withCe : (s.withCe c).countSoftCe n a = (s.countSoftCe n a).withCe c :=
  (apply_ite (State.withCe · c) (s.softWord a = true) (s.countF .CE_XCNT_ECCCOR n 1) s).symm

@[simp] theorem State.countSoftSsm_withCe : (s.withCe c).countSoftSsm a = (s.countSoftSsm a).withCe c :=
  (apply_ite (State.withCe · c) (s.softWord a = true) (s.countF .SSM_ECCCNT_COR 0 1) s).symm

theorem State.dataLoad_own (h : windowOf a = .own) :
    s.dataLoad n a size = (s.bytes (memAddr n a) size, s.countSoftCe n (memAddr n a), 0) := by
  unfold State.dataLoad
  rw [h]

theorem State.dataLoad_ssm (h : windowOf a = .ssm) :
    s.dataLoad n a size = (s.bytes (memAddr n a) size, s.draw.2.countSoftSsm a, (s.ssmLatency n).1) := by
  unfold State.dataLoad
  rw [h, memAddr_ssm n h]
  rfl

theorem State.dataLoad_register (h : windowOf a ∈ [Window.atu, .trip, .pwm, .time]) :
    s.dataLoad n a size = (let r := s.draw.2.readSpace (.engine n) a; (r.1.toNat, r.2, s.regLatency.1)) := by
  unfold State.dataLoad
  split
  next hown => simp [hown] at h
  next hssm => simp [hssm] at h
  next => rfl

theorem State.countSoftCe_regs : s.countSoftCe n a = { s with regs := (s.countSoftCe n a).regs } ∧
    RegsBut s (s.countSoftCe n a) [(.CE_XCNT_ECCCOR, n)] := by
  unfold State.countSoftCe
  split
  · exact ⟨rfl, (RegsBut.refl s _).setF _ (List.mem_singleton.2 rfl)⟩
  · exact ⟨rfl, RegsBut.refl s _⟩

theorem State.countSoftSsm_regs : s.countSoftSsm a = { s with regs := (s.countSoftSsm a).regs } ∧
    RegsBut s (s.countSoftSsm a) [(.SSM_ECCCNT_COR, 0)] := by
  unfold State.countSoftSsm
  split
  · exact ⟨rfl, (RegsBut.refl s _).setF _ (List.mem_singleton.2 rfl)⟩
  · exact ⟨rfl, RegsBut.refl s _⟩

/-- A load from memory does not look at the engines. -/
theorem State.dataLoad_withCe (h : windowOf a = .own ∨ windowOf a = .ssm) :
    (s.withCe c).dataLoad n a size =
      (s.bytes (memAddr n a) size, (s.dataLoad n a size).2.1.withCe c, (s.dataLoad n a size).2.2) := by
  have hbytes : (s.withCe c).bytes (memAddr n a) size = s.bytes (memAddr n a) size :=
    State.bytes_congr (s := s) (t := s.withCe c) (fun _ => rfl) _ _
  rcases h with h | h
  · rw [State.dataLoad_own _ n size h, State.dataLoad_own _ n size h, hbytes, State.countSoftCe_withCe]
  · rw [State.dataLoad_ssm _ n size h, State.dataLoad_ssm _ n size h, hbytes,
      ← State.countSoftSsm_withCe]
    rfl

/-- A load from memory counts a corrected read and draws the latency of the SSM. -/
theorem State.dataLoad_regs (h : windowOf a = .own ∨ windowOf a = .ssm) :
    let u := (s.dataLoad n a size).2.1
    u = { s with regs := u.regs, free := u.free } ∧ RegsBut s u [(.CE_XCNT_ECCCOR, n), (.SSM_ECCCNT_COR, 0)] := by
  rcases h with h | h
  · rw [State.dataLoad_own _ n size h]
    obtain ⟨hframe, hregs⟩ := s.countSoftCe_regs n (a := memAddr n a)
    exact ⟨by rw [hframe], hregs.mono (by simp)⟩
  · rw [State.dataLoad_ssm _ n size h]
    obtain ⟨hframe, hregs⟩ := s.draw.2.countSoftSsm_regs (a := a)
    refine ⟨?_, RegsBut.mono (l := [(.SSM_ECCCNT_COR, 0)]) hregs (by simp)⟩
    dsimp only
    rw [hframe]
    rfl

/-- A load of a register reads it with the side effect of the read. -/
theorem State.dataLoad_register_withCe (h : windowOf a ∈ [Window.atu, .trip, .pwm, .time]) :
    (s.withCe c).dataLoad n a size = ((s.readSpace (.engine n) a).1.toNat,
      (({ s with free := s.free + 1 } : State).readSpace (.engine n) a).2.withCe c, s.regLatency.1) := by
  rw [State.dataLoad_register _ n size h]
  have hc := s.readSpace_withEngines c (s.free + 1) (.engine n) h
  have h0 := s.readSpace_withEngines s.ce (s.free + 1) (.engine n) h
  rw [show (s.withCe c).draw.2 = s.withEngines c (s.free + 1) from rfl, hc,
    show ({ s with free := s.free + 1 } : State) = s.withEngines s.ce (s.free + 1) from rfl, h0]
  rfl

end

/-! What a load instruction gives. -/

section
variable {i : Instr} {n : Fin 24} {pr : BitVec 4} {s : State} {us : Use} {rd ra : BitVec 5} {a : Word} {size : Nat} {ext : Nat → Word}
  {post : Option Word}

/-- The register writes of a load or store: the step of ra, then `ws`. -/
def postThen (ra : BitVec 5) (post : Option Word) (ws : List (BitVec 5 × Word)) : List (BitVec 5 × Word) :=
  match post with
  | some w => (ra, w) :: ws
  | none => ws

theorem loadEff_done {t : Nat} {u u' : State} {v block : Nat} (hf : u.dataFault n a.toNat size false = none)
    (hl : u.dataLoad n a.toNat size = (v, u', block)) :
    loadEff n rd ra a size ext post t u =
      .done (u'.modCe n (fun e => (e.writeAll (postThen ra post [(rd, ext v)])).raise {})) none block := by
  unfold loadEff
  rw [hf, hl]
  cases post <;> rfl

/-- A load that no check stops: what it leaves, where what it finds and does does not depend on the engines. -/
theorem load_accessed
    (hexec : exec i s = .next (issue n pr us i (loadEff n rd ra a size ext post) (s.dataCount n i pr a.toNat size false)))
    (hf : s.dataFault n a.toNat size false = none) {v block : Nat} {u : State}
    (hl : ∀ c, ((s.countFetch n).withCe c).dataLoad n a.toNat size = (v, u.withCe c, block)) :
    Gives i n pr s (Accessed n (postThen ra post [(rd, ext v)]) {} u) := by
  intro hp
  rw [State.dataCount_none (by simp [hf])] at hexec
  have hfault : ∀ c, ((s.countFetch n).withCe c).dataFault n a.toNat size false = none := fun c => by
    rw [State.dataFault_congr (s := s) (t := (s.countFetch n).withCe c) (s.countFetch_eccBad n), hf]
  exact ⟨_, hexec, issue_accessed hp us fun t c => loadEff_done (hfault c) (hl c)⟩

theorem State.dataFault_memOk {store : Bool} (h : MemOk s n a size) : s.dataFault n a.toNat size store = none := by
  obtain ⟨halign, hwin, hbad⟩ := h
  rw [State.dataFault_mem halign hwin, hbad]
  rfl

/-- A load from memory. -/
theorem load_memory
    (hexec : exec i s = .next (issue n pr us i (loadEff n rd ra a size ext post) (s.dataCount n i pr a.toNat size false)))
    (h : MemOk s n a size) {w : Word} (hw : ext (s.bytes (memAddr n a.toNat) size) = w) :
    Gives i n pr s (fun s t => LoadFrame n s t ∧ ∃ u, Accessed n (postThen ra post [(rd, w)]) {} u s t) := by
  intro hp
  obtain ⟨-, hwin, -⟩ := id h
  obtain ⟨t, ht, hacc⟩ := load_accessed hexec (State.dataFault_memOk h) (fun c => State.dataLoad_withCe _ n c size hwin) hp
  rw [State.countFetch_bytes, hw] at hacc
  obtain ⟨hframe, hregs⟩ := (s.countFetch n).dataLoad_regs n size hwin
  refine ⟨t, ht, ⟨?_, ?_, hacc.others, hacc.engine, hacc.preds, hacc.accs⟩, _, hacc⟩
  · have hstate := hacc.state
    rw [hframe] at hstate
    rw [hstate]
  · rw [hacc.state]
    exact hregs

/-- A load of a register of the engines' windows. -/
theorem load_register
    (hexec : exec i s = .next (issue n pr us i (loadEff n rd ra a size (fun v => BitVec.ofNat 32 v) post) (s.dataCount n i pr a.toNat size false)))
    (halign : a.toNat % size = 0) (hsize : size = 4) (hwin : windowOf a.toNat ∈ [Window.atu, .trip, .pwm, .time]) :
    Gives i n pr s (fun s t => WindowFrame n (fun u => (u.readSpace (.engine n) a.toNat).2) s t ∧
      ∃ u, Accessed n (postThen ra post [(rd, (s.readSpace (.engine n) a.toNat).1)]) {} u s t) := by
  intro hp
  have htakes : windowTakes n a.toNat size false = true := by
    unfold windowTakes
    split <;> simp_all
  have hf : s.dataFault n a.toNat size false = none :=
    State.dataFault_window halign (by rintro h; simp [h] at hwin) (by rintro h; simp [h] at hwin) htakes
  obtain ⟨t, ht, hacc⟩ := load_accessed hexec hf (fun c => State.dataLoad_register_withCe _ n c size hwin) hp
  rw [BitVec.ofNat_toNat, BitVec.setWidth_eq] at hacc
  exact ⟨t, ht, ⟨hacc.state, hacc.others, hacc.engine, hacc.preds, hacc.accs⟩, _, hacc⟩

end

end Sys2Proof.Machine
end

section
/-! SUPPORT. The claim of the loads. -/
namespace Sys2Proof.Machine

section
variable {i : Instr} {n : Fin 24} {pr : BitVec 4} {s : State} {us : Use} {rd ra : BitVec 5} {a : Word} {size : Nat} {ext : Nat → Word}

theorem load_memory_gpr
    (hexec : exec i s = .next (issue n pr us i (loadEff n rd ra a size ext none) (s.dataCount n i pr a.toNat size false)))
    (h : MemOk s n a size) {w : Word} (hw : ext (s.bytes (memAddr n a.toNat) size) = w) :
    Gives i n pr s (fun s t => LoadFrame n s t ∧ GprIs n rd w s t) :=
  (load_memory hexec h hw).imp fun _ ⟨hframe, _, hacc⟩ => ⟨hframe, hacc.gprIs⟩

end

/-- The claim of R92, R103 and R137 for loads. -/
theorem loadResults : Claims.LoadResults := by
  intro n pr rd ra imm s
  have haddr := (s.ce[n]).dataAddr_eq ra imm
  simp only [← haddr]
  refine ⟨fun h => load_memory_gpr rfl h rfl, fun h => ⟨load_memory_gpr rfl h rfl, load_memory_gpr rfl h ?_, load_memory_gpr rfl h rfl⟩,
    fun h => ⟨load_memory_gpr rfl h rfl, load_memory_gpr rfl h ?_⟩, fun h => ?_, fun x halign hwin => ⟨?_, ?_⟩⟩
  · exact congrArg _ (Nat.mod_eq_of_lt (s.bytes_lt _ 2))
  · exact congrArg _ (Nat.mod_eq_of_lt (s.bytes_lt _ 1))
  · refine (load_memory rfl h rfl).imp fun t ⟨hframe, _, hacc⟩ => ⟨hframe, fun x => ?_⟩
    simpa only [State.countFetch_bytes, State.countFetch_ce] using hacc.two x
  · rintro rfl
    exact (load_register rfl halign rfl hwin).imp fun _ ⟨hframe, _, hacc⟩ => ⟨hframe, hacc.gprIs⟩
  · rintro rfl
    refine (load_register rfl halign rfl hwin).imp fun t ⟨hframe, _, hacc⟩ => ⟨hframe, fun y => ?_⟩
    simpa only [State.countFetch_ce] using hacc.two y

end Sys2Proof.Machine
end

section
/-! SUPPORT. The stores of an engine (R92, R94, R103, R137, R155, R402). -/
namespace Sys2Proof.Machine

/-! Bytes that are written. -/

section
variable (s : State) (c : Vector Eng 24) (a v k : Nat)

theorem State.setBytes_frame : s.setBytes a v k = { s with mem := (s.setBytes a v k).mem } := by
  induction k generalizing s a v with
  | zero => rfl
  | succ k ih => rw [State.setBytes, ih]; rfl

theorem State.setBytes_withCe : (s.withCe c).setBytes a v k = (s.setBytes a v k).withCe c := by
  induction k generalizing s a v with
  | zero => rfl
  | succ k ih => exact ih (s.setByte a (BitVec.ofNat 8 v)) _ _

/-- A number that is written is spelt by its bytes. -/
theorem State.byte_setBytes_in {j : Nat} (h : j < k) : (s.setBytes a v k).byte (a + j) = BitVec.ofNat 8 (v / 256 ^ j) := by
  induction k generalizing s a v j with
  | zero => omega
  | succ k ih =>
    rw [State.setBytes]
    cases j with
    | zero => rw [State.byte_setBytes _ _ _ _ _ (by omega), State.byte_setByte, if_pos (Nat.add_zero a), Nat.pow_zero, Nat.div_one]
    | succ j => rw [show a + (j + 1) = a + 1 + j by omega, ih _ _ _ (by omega), Nat.div_div_eq_div_mul, Nat.pow_succ']

/-- Only the low bytes of a number are written. -/
theorem State.setBytes_mod : s.setBytes a (v % 256 ^ k) k = s.setBytes a v k := by
  induction k generalizing s a v with
  | zero => rfl
  | succ k ih =>
    have hlow : BitVec.ofNat 8 (v % 256 ^ (k + 1)) = BitVec.ofNat 8 v :=
      BitVec.eq_of_toNat_eq (by
        rw [BitVec.toNat_ofNat, BitVec.toNat_ofNat]
        exact Nat.mod_mod_of_dvd v (Dvd.intro_left (256 ^ k) rfl))
    rw [State.setBytes, State.setBytes, hlow, Nat.pow_succ', Nat.mod_mul_right_div_self, ih]

end

/-! Bytes stored into a word of memory. -/

/-- A corrected read counted in field `f` where `c` holds. -/
def State.countWhen (s : State) (f : Fld) (i : Nat) (c : Bool) : State := if c then s.countF f i 1 else s

/-- Bytes stored into a word: an error of a single bit in it is counted in field `f` by a store narrower than the word (R94, R155). -/
def State.storeIn (s : State) (f : Fld) (i m size v : Nat) : State :=
  ((s.countWhen f i (size != 4 && s.softWord m)).setBytes m v size).freshWord m

/-- Consumption reported by a store into the word CONSLO (R402). -/
def State.consWhen (s : State) (c : Bool) : State := if c then s.consNote (s.word 0x10700008) else s

section
variable (s : State) (cs : Vector Eng 24) (f : Fld) (i m size v : Nat) (c : Bool)

theorem State.countWhen_regs : s.countWhen f i c = { s with regs := (s.countWhen f i c).regs } ∧ RegsBut s (s.countWhen f i c) [(f, i)] := by
  cases c
  · exact ⟨rfl, RegsBut.refl s _⟩
  · exact ⟨rfl, (RegsBut.refl s _).setF _ (List.mem_singleton.2 rfl)⟩

theorem State.getF_countWhen :
    (s.countWhen f i c).getF f i = if c then min (2 ^ f.width - 1) (s.getF f i + 1) else s.getF f i := by
  cases c
  · rfl
  · exact s.getF_countF_same i f 1

theorem State.storeIn_frame : let u := s.storeIn f i m size v
    u = { s with mem := u.mem, eccBad := u.eccBad, eccSoft := u.eccSoft, regs := u.regs } := by
  unfold State.storeIn
  rw [State.setBytes_frame, (s.countWhen_regs f i _).1]
  rfl

theorem State.storeIn_getF : (s.storeIn f i m size v).getF = (s.countWhen f i (size != 4 && s.softWord m)).getF := by
  unfold State.storeIn
  rw [State.setBytes_frame]
  rfl

theorem State.storeIn_regs : RegsBut s (s.storeIn f i m size v) [(f, i)] := by
  unfold RegsBut
  rw [State.storeIn_getF]
  exact (s.countWhen_regs f i _).2

theorem State.storeIn_byte {k : Nat} (h : k < size) : (s.storeIn f i m size v).byte (m + k) = BitVec.ofNat 8 (v / 256 ^ k) :=
  State.byte_setBytes_in _ m v size h

theorem State.storeIn_memBut : MemBut s (s.storeIn f i m size v) m size := by
  intro x hx
  refine (State.byte_setBytes (s.countWhen f i _) m v size x hx).trans ?_
  rw [(s.countWhen_regs f i _).1]
  rfl

theorem State.storeIn_withCe : (s.withCe cs).storeIn f i m size v = (s.storeIn f i m size v).withCe cs := by
  have hcount (b : Bool) : (s.withCe cs).countWhen f i b = (s.countWhen f i b).withCe cs := by cases b <;> rfl
  unfold State.storeIn
  rw [show (s.withCe cs).softWord m = s.softWord m from rfl, hcount, State.setBytes_withCe]
  rfl

theorem State.consNote_regs (w : Word) : let u := s.consNote w
    u = { s with regs := u.regs, jnl := u.jnl } ∧ RegsBut s u [(.JNL_STAT_CONSERR, 0)] := by
  unfold State.consNote
  split_ifs
  · exact ⟨rfl, RegsBut.refl s _⟩
  · dsimp only
    split_ifs
    · exact ⟨rfl, (RegsBut.refl s _).setF _ (List.mem_singleton.2 rfl)⟩
    · exact ⟨rfl, RegsBut.refl s _⟩
    · exact ⟨rfl, RegsBut.refl s _⟩

theorem State.consNote_withCe (w : Word) : (s.withCe cs).consNote w = (s.consNote w).withCe cs := by
  unfold State.consNote
  rw [show (s.withCe cs).commanding = s.commanding from rfl]
  split_ifs
  · rfl
  · dsimp only
    rw [show (s.withCe cs).jnl = s.jnl from rfl]
    split_ifs <;> rfl

theorem State.consWhen_regs : let u := s.consWhen c
    u = { s with regs := u.regs, jnl := u.jnl } ∧ RegsBut s u [(.JNL_STAT_CONSERR, 0)] := by
  cases c
  · exact ⟨rfl, RegsBut.refl s _⟩
  · exact s.consNote_regs _

theorem State.consWhen_withCe : (s.withCe cs).consWhen c = (s.consWhen c).withCe cs := by
  cases c
  · rfl
  · unfold State.consWhen
    rw [if_pos rfl, if_pos rfl, State.consNote_withCe]
    congr 2

theorem State.consWhen_byte (x : Nat) : (s.consWhen c).byte x = s.byte x := by
  rw [(s.consWhen_regs c).1]
  rfl

end

/-! What a store does. -/

section
variable (s : State) (n : Fin 24) (c : Vector Eng 24) {a : Nat} (size v : Nat)

theorem State.dataStore_own (h : windowOf a = .own) :
    s.dataStore n a size v = (s.storeIn .CE_XCNT_ECCCOR n (memAddr n a) size v, 0) := by
  unfold State.dataStore State.storeIn State.countWhen State.countSoftCe
  rw [h]
  by_cases hw : size = 4 <;> simp [hw]

theorem State.dataStore_fixed (h : windowOf a = .ssm) (hfix : s.ringFixed a = true) :
    s.dataStore n a size v = (s.draw.2, (s.ssmLatency n).1) := by
  unfold State.dataStore
  rw [h]
  exact if_pos hfix

theorem State.dataStore_ssm (h : windowOf a = .ssm) (hfix : s.ringFixed a = false) :
    s.dataStore n a size v =
      ((s.draw.2.storeIn .SSM_ECCCNT_COR 0 a size v).consWhen (decide (a / 4 * 4 = 0x10700008)), (s.ssmLatency n).1) := by
  unfold State.dataStore State.storeIn State.countWhen State.countSoftSsm State.consWhen
  rw [h]
  refine (if_neg (Bool.eq_false_iff.1 hfix)).trans ?_
  by_cases hw : size = 4 <;> simp [hw] <;> rfl

theorem State.dataStore_register (hown : windowOf a ≠ .own) (hssm : windowOf a ≠ .ssm) :
    s.dataStore n a size v = (s.draw.2.writeSpace a (BitVec.ofNat 32 v), s.regLatency.1) := by
  unfold State.dataStore
  split
  next h => exact absurd h hown
  next h => exact absurd h hssm
  next => rfl

/-- A store into memory does not look at the engines. -/
theorem State.dataStore_withCe (h : windowOf a = .own ∨ windowOf a = .ssm) :
    (s.withCe c).dataStore n a size v = ((s.dataStore n a size v).1.withCe c, (s.dataStore n a size v).2) := by
  rcases h with h | h
  · rw [State.dataStore_own _ n size v h, State.dataStore_own _ n size v h, State.storeIn_withCe]
  · cases hfix : s.ringFixed a with
    | true =>
      rw [State.dataStore_fixed _ n size v h hfix, State.dataStore_fixed (s.withCe c) n size v h hfix]
      rfl
    | false =>
      rw [State.dataStore_ssm _ n size v h hfix, State.dataStore_ssm (s.withCe c) n size v h hfix, ← State.consWhen_withCe,
        ← State.storeIn_withCe]
      rfl

/-- Only the low bytes of the value count. -/
theorem State.dataStore_mod (h : windowOf a = .own ∨ windowOf a = .ssm) :
    s.dataStore n a size (v % 256 ^ size) = s.dataStore n a size v := by
  unfold State.dataStore
  rcases h with h | h <;> simp only [h, State.setBytes_mod]

end

/-! What a store into memory leaves. -/

/-- Memory and the register fields after a store into memory, told from those before. -/
structure MemStored (n : Fin 24) (a size v : Nat) (s u : State) : Prop where
  bytes : s.ringFixed a = false → (∀ k, k < size → u.byte (memAddr n a + k) = BitVec.ofNat 8 (v / 256 ^ k)) ∧ MemBut s u (memAddr n a) size
  fixed : s.ringFixed a = true → SameMem s u
  own : u.getF .CE_XCNT_ECCCOR n = (s.countWhen .CE_XCNT_ECCCOR n
    (decide ((size ≠ 4 ∧ s.softWord (memAddr n a) = true ∧ s.ringFixed a = false) ∧ a < 0x10000))).getF .CE_XCNT_ECCCOR n
  ssm : u.getF .SSM_ECCCNT_COR 0 = (s.countWhen .SSM_ECCCNT_COR 0
    (decide ((size ≠ 4 ∧ s.softWord (memAddr n a) = true ∧ s.ringFixed a = false) ∧ 0x10000 ≤ a))).getF .SSM_ECCCNT_COR 0
  regs : RegsBut s u [(.CE_XCNT_ECCCOR, n), (.SSM_ECCCNT_COR, 0), (.JNL_STAT_CONSERR, 0)]
  frame : u = { s with mem := u.mem, free := u.free, eccBad := u.eccBad, eccSoft := u.eccSoft, regs := u.regs, jnl := u.jnl }
  cons : a / 4 * 4 ≠ 0x10700008 ∨ s.ringFixed a = true → u.jnl = s.jnl ∧ u.getF .JNL_STAT_CONSERR 0 = s.getF .JNL_STAT_CONSERR 0

section
variable (s : State) (n : Fin 24) {a : Nat} (size v : Nat)

theorem State.storeIn_jnl (f : Fld) (i m : Nat) : (s.storeIn f i m size v).jnl = s.jnl := by
  rw [State.storeIn_frame]

theorem State.dataStore_own_stored (h : windowOf a = .own) : MemStored n a size v s (s.dataStore n a size v).1 := by
  have hlt : a < 0x10000 := windowOf_own.1 h
  have hfix : s.ringFixed a = false := s.ringFixed_own hlt
  rw [State.dataStore_own _ n size v h]
  have hregs := s.storeIn_regs .CE_XCNT_ECCCOR n (memAddr n a) size v
  refine ⟨fun _ => ⟨fun k hk => s.storeIn_byte _ _ _ _ _ hk, s.storeIn_memBut _ _ _ _ _⟩, fun hf => ?_, ?_, ?_, hregs.mono (by simp),
    ?_, fun _ => ⟨s.storeIn_jnl _ _ _ _ _, hregs.getF_eq (by simp) 0⟩⟩
  · rw [hfix] at hf
    contradiction
  · rw [State.storeIn_getF]
    simp [hfix, hlt, bne, Bool.beq_eq_decide_eq]
  · rw [hregs.getF_eq (by simp), decide_eq_false (by omega)]
    rfl
  · rw [State.storeIn_frame]

theorem State.dataStore_fixed_stored (h : windowOf a = .ssm) (hfix : s.ringFixed a = true) :
    MemStored n a size v s (s.dataStore n a size v).1 := by
  rw [State.dataStore_fixed _ n size v h hfix]
  refine ⟨fun hf => ?_, fun _ _ => rfl, ?_, ?_, RegsBut.refl s _, rfl, fun _ => ⟨rfl, rfl⟩⟩
  · rw [hfix] at hf
    contradiction
  · rw [decide_eq_false (by simp [hfix])]
    rfl
  · rw [decide_eq_false (by simp [hfix])]
    rfl

theorem State.dataStore_ssm_stored (h : windowOf a = .ssm) (hfix : s.ringFixed a = false) :
    MemStored n a size v s (s.dataStore n a size v).1 := by
  obtain ⟨hlo, -⟩ := windowOf_ssm h
  have hm : memAddr n a = a := memAddr_ssm n h
  rw [State.dataStore_ssm _ n size v h hfix]
  have hstore := s.draw.2.storeIn_regs .SSM_ECCCNT_COR 0 a size v
  have hframe := s.draw.2.storeIn_frame .SSM_ECCCNT_COR 0 a size v
  have hbyte {k : Nat} := s.draw.2.storeIn_byte .SSM_ECCCNT_COR 0 a size v (k := k)
  have hbut := s.draw.2.storeIn_memBut .SSM_ECCCNT_COR 0 a size v
  have hcor := s.draw.2.storeIn_getF .SSM_ECCCNT_COR 0 a size v
  have hjnl := s.draw.2.storeIn_jnl size v .SSM_ECCCNT_COR 0 a
  generalize s.draw.2.storeIn .SSM_ECCCNT_COR 0 a size v = u at *
  obtain ⟨hcframe, hcons⟩ := u.consWhen_regs (decide (a / 4 * 4 = 0x10700008))
  refine ⟨fun _ => ⟨fun k hk => ?_, fun x hx => ?_⟩, fun hf => ?_, ?_, ?_, ?_, ?_, fun hne => ?_⟩
  · rw [State.consWhen_byte, hm]
    exact hbyte hk
  · rw [State.consWhen_byte]
    exact hbut x (hm ▸ hx)
  · rw [hfix] at hf
    contradiction
  · rw [hcons.getF_eq (by simp), hstore.getF_eq (by simp), decide_eq_false (by omega)]
    rfl
  · rw [hcons.getF_eq (by simp), hcor, hm]
    have hc : (size != 4 && s.softWord a) = decide ((size ≠ 4 ∧ s.softWord a = true ∧ s.ringFixed a = false) ∧ 0x10000 ≤ a) := by
      simp [hfix, show 0x10000 ≤ a by omega, bne, Bool.beq_eq_decide_eq]
    rw [← hc]
    exact (s.draw.2.getF_countWhen _ _ _).trans (s.getF_countWhen _ _ _).symm
  · exact RegsBut.trans (t := u) (RegsBut.mono (l := [(.SSM_ECCCNT_COR, 0)]) hstore (by simp)) (hcons.mono (by simp))
  · rw [hcframe]
    dsimp only
    rw [hframe]
    rfl
  · have hno : decide (a / 4 * 4 = 0x10700008) = false := decide_eq_false (hne.resolve_right (by simp [hfix]))
    rw [hno]
    exact ⟨hjnl, hstore.getF_eq (by simp) 0⟩

theorem State.dataStore_stored (h : windowOf a = .own ∨ windowOf a = .ssm) : MemStored n a size v s (s.dataStore n a size v).1 := by
  rcases h with h | h
  · exact s.dataStore_own_stored n size v h
  · cases hfix : s.ringFixed a with
    | true => exact s.dataStore_fixed_stored n size v h hfix
    | false => exact s.dataStore_ssm_stored n size v h hfix

end

/-- An instruction that has done what `dataStore` does, with the flags `fl`, has stored. -/
theorem Accessed.stores {n : Fin 24} {ws : List (BitVec 5 × Word)} {fl : NFlags} {s t : State} {a : Word} {size v : Nat}
    (h : Accessed n ws fl (s.dataStore n a.toNat size v).1 s t) (hwin : windowOf a.toNat = .own ∨ windowOf a.toNat = .ssm) :
    Stores n a size v fl s t := by
  obtain ⟨hstate, hothers, hengine, -, hpreds, haccs⟩ := h
  obtain ⟨hbytes, hfixed, hown, hssm, hregs, hframe, hcons⟩ := s.dataStore_stored n size v hwin
  generalize (s.dataStore n a.toNat size v).1 = u at *
  obtain ⟨c, rfl⟩ : ∃ c, t = u.withCe c := ⟨_, hstate⟩
  refine ⟨hbytes, hfixed, hothers, hengine, hpreds, haccs, ?_, ?_, hregs, ?_, hcons⟩
  · refine hown.trans ((s.getF_countWhen _ _ _).trans ?_)
    simp only [decide_eq_true_eq]
  · refine hssm.trans ((s.getF_countWhen _ _ _).trans ?_)
    simp only [decide_eq_true_eq]
  · rw [hframe]
    rfl

end Sys2Proof.Machine
end

section
/-! SUPPORT. The claim of the stores. -/
namespace Sys2Proof.Machine

section
variable {i : Instr} {n : Fin 24} {pr : BitVec 4} {s : State} {us : Use} {ra : BitVec 5} {a : Word} {size v : Nat} {fl : NFlags}
  {post : Option Word}

theorem storeEff_done {t : Nat} {u u' : State} {block : Nat} (hf : u.dataFault n a.toNat size true = none)
    (hs : u.dataStore n a.toNat size v = (u', block)) :
    storeEff n ra a size v fl post t u = .done (u'.modCe n (fun e => (e.writeAll (postThen ra post [])).raise fl)) none block := by
  unfold storeEff
  rw [hf, hs]
  cases post <;> rfl

/-- A store that no check stops: what it leaves, where what it does does not depend on the engines. -/
theorem store_accessed
    (hexec : exec i s = .next (issue n pr us i (storeEff n ra a size v fl post) (s.dataCount n i pr a.toNat size true)))
    (hf : s.dataFault n a.toNat size true = none) {block : Nat} {u : State}
    (hs : ∀ c, ((s.countFetch n).withCe c).dataStore n a.toNat size v = (u.withCe c, block)) :
    Gives i n pr s (Accessed n (postThen ra post []) fl u) := by
  intro hp
  rw [State.dataCount_none (by simp [hf])] at hexec
  have hfault : ∀ c, ((s.countFetch n).withCe c).dataFault n a.toNat size true = none := fun c => by
    rw [State.dataFault_congr (s := s) (t := (s.countFetch n).withCe c) (s.countFetch_eccBad n), hf]
  exact ⟨_, hexec, issue_accessed hp us fun t c => storeEff_done (hfault c) (hs c)⟩

/-- A store into memory; of its value the low bytes count. -/
theorem store_memory
    (hexec : exec i s = .next (issue n pr us i (storeEff n ra a size v fl post) (s.dataCount n i pr a.toNat size true)))
    (hf : s.dataFault n a.toNat size true = none) (hwin : windowOf a.toNat = .own ∨ windowOf a.toNat = .ssm)
    {w : Nat} (hw : v = w % 256 ^ size) :
    Gives i n pr s (fun s t => Stores n a size w fl s t ∧ ∃ u, Accessed n (postThen ra post []) fl u s t) := by
  refine (store_accessed hexec hf fun c => State.dataStore_withCe _ n c size v hwin).imp fun t hacc => ⟨?_, _, hacc⟩
  rw [hw, State.dataStore_mod _ n size w hwin] at hacc
  exact hacc.stores hwin

theorem store_memOk
    (hexec : exec i s = .next (issue n pr us i (storeEff n ra a size v fl post) (s.dataCount n i pr a.toNat size true)))
    (h : MemOk s n a size) {w : Nat} (hw : v = w % 256 ^ size) :
    Gives i n pr s (fun s t => Stores n a size w fl s t ∧ ∃ u, Accessed n (postThen ra post []) fl u s t) := by
  obtain ⟨-, hwin, -⟩ := id h
  exact store_memory hexec (State.dataFault_memOk h) hwin hw

/-- A whole word is stored whatever check bits it had. -/
theorem State.dataFault_word (h : a.toNat % 4 = 0) (hwin : windowOf a.toNat = .own ∨ windowOf a.toNat = .ssm) :
    s.dataFault n a.toNat 4 true = none := by
  rw [State.dataFault_mem h hwin]
  exact if_neg (by simp)

/-- The register windows take a word at these places only (R137). -/
theorem windowTakes_register (n : Fin 24) {x : Nat} (h : windowOf x = .pwm ∨ x = 0x400A0800 + 4 * n.val) :
    windowTakes n x 4 true = true ∧ windowOf x ≠ .own ∧ windowOf x ≠ .ssm ∧
      ((0x400B0000 ≤ x ∧ x < 0x400C0000) ∨ (0x400A0800 ≤ x ∧ x < 0x400A0860)) := by
  rcases h with h | rfl
  · have hr := windowOf_pwm h
    simp [windowTakes, h, hr]
  · have hn := n.isLt
    have hw : windowOf (0x400A0800 + 4 * n.val) = .trip := by
      unfold windowOf
      rw [if_neg (by omega), if_neg (by omega), if_neg (by omega), if_pos (by omega)]
    simp [windowTakes, hw]
    omega

/-- A store into a register of the engines' windows. -/
theorem store_register {w : Word}
    (hexec : exec i s = .next (issue n pr us i (storeEff n ra a 4 w.toNat {} post) (s.dataCount n i pr a.toNat 4 true)))
    (halign : a.toNat % 4 = 0) (h : windowOf a.toNat = .pwm ∨ a.toNat = 0x400A0800 + 4 * n.val) :
    Gives i n pr s (fun s t => WindowFrame n (fun u => u.writeSpace a.toNat w) s t ∧
      ∃ u, Accessed n (postThen ra post []) {} u s t) := by
  obtain ⟨htakes, hown, hssm, hrange⟩ := windowTakes_register n h
  have hstore (c : Vector Eng 24) : ((s.countFetch n).withCe c).dataStore n a.toNat 4 w.toNat =
      (((({ s.countFetch n with free := (s.countFetch n).free + 1 } : State).writeSpace a.toNat w).withCe c),
        (s.countFetch n).regLatency.1) := by
    generalize s.countFetch n = s1
    have hc := s1.writeSpace_withEngines c (s1.free + 1) w hrange
    have h0 := s1.writeSpace_withEngines s1.ce (s1.free + 1) w hrange
    rw [State.dataStore_register _ n 4 _ hown hssm, BitVec.ofNat_toNat, BitVec.setWidth_eq,
      show (s1.withCe c).draw.2 = s1.withEngines c (s1.free + 1) from rfl, hc,
      show ({ s1 with free := s1.free + 1 } : State) = s1.withEngines s1.ce (s1.free + 1) from rfl, h0]
    rfl
  exact (store_accessed hexec (State.dataFault_window halign hown hssm htakes) hstore).imp fun t hacc =>
    ⟨⟨hacc.state, hacc.others, hacc.engine, hacc.preds, hacc.accs⟩, _, hacc⟩

end

/-- STQ's halfword is the nearest Q15 value (R103). -/
theorem stqHalf_eq (w : Word) : stqHalf w =
    (BitVec.ofInt 16 (nearest 16 (reduced w.toInt 16)), { qsat := decide (nearest 16 (reduced w.toInt 16) ≠ reduced w.toInt 16) }) := by
  unfold stqHalf
  rw [rnd_eq, satBits_eq]
  rfl

/-- The claim of R92, R103 and R137 for stores. -/
theorem storeResults : Claims.StoreResults := by
  intro n pr rs ra imm s
  have haddr := (s.ce[n]).dataAddr_eq ra imm
  have hword : ((s.ce[n]).readG rs).toNat = ((s.ce[n]).readG rs).toNat % 256 ^ 4 := (Nat.mod_eq_of_lt ((s.ce[n]).readG rs).isLt).symm
  simp only [← haddr]
  refine ⟨fun halign hwin => ?_, fun h => ⟨?_, ?_⟩, fun h => ?_, fun halign hwin => ?_, fun x halign hwin => ⟨?_, ?_⟩⟩
  · exact (store_memory rfl (State.dataFault_word halign hwin) hwin hword).imp fun _ ⟨hst, _, hacc⟩ => ⟨hst, hacc.sameG⟩
  · exact (store_memOk rfl h rfl).imp fun _ ⟨hst, _, hacc⟩ => ⟨hst, hacc.sameG⟩
  · have hhalf := stqHalf_eq ((s.ce[n]).readG rs)
    refine (store_memOk (fl := (stqHalf ((s.ce[n]).readG rs)).2) rfl h
      (w := (stqHalf ((s.ce[n]).readG rs)).1.toNat) ?_).imp fun _ ⟨hst, _, hacc⟩ => ⟨?_, hacc.sameG⟩
    · exact (Nat.mod_eq_of_lt (stqHalf ((s.ce[n]).readG rs)).1.isLt).symm
    · rw [hhalf] at hst
      exact hst
  · exact (store_memOk rfl h rfl).imp fun _ ⟨hst, _, hacc⟩ => ⟨hst, hacc.sameG⟩
  · exact (store_memory rfl (State.dataFault_word halign hwin) hwin hword).imp fun _ ⟨hst, _, hacc⟩ => ⟨hst, hacc.gprIs⟩
  · rintro rfl
    exact (store_register rfl halign hwin).imp fun _ ⟨hframe, _, hacc⟩ => ⟨hframe, hacc.sameG⟩
  · rintro rfl
    exact (store_register rfl halign hwin).imp fun _ ⟨hframe, _, hacc⟩ => ⟨hframe, hacc.gprIs⟩

end Sys2Proof.Machine
end

section
/-! SUPPORT. The exceptions of a load or store (R91, R103, R107, R155). -/
namespace Sys2Proof.Machine

/-! An exception leaves the fields that it does not name. -/

theorem Takes.getF_eq {n : Fin 24} {cause : Nat} {pc info : Word} {s t : State} (h : Takes n cause pc info s t) {f : Fld}
    (hf : f ∉ .TRIP_LAT1_SW :: (exceptionFields n).map Prod.fst ++ swapNames) (i : Nat) : t.getF f i = s.getF f i := by
  obtain ⟨-, -, -, -, -, ⟨still, swap⟩, -⟩ := h
  have hnot : ∀ e ∈ exceptionFields n ++ s.swapFields, e.1 ≠ f := by
    rintro e he rfl
    rcases List.mem_append.1 he with he | he
    · exact hf (by simp [List.mem_map_of_mem he])
    · exact hf (List.mem_append_right _ (s.swapFields_names e he))
  cases hends : s.actEnds n with
  | false =>
    obtain ⟨-, hregs, -⟩ := still hends
    exact hregs.getF_eq (fun e he => hnot e (List.mem_append_left _ he)) i
  | true =>
    obtain ⟨-, hregs, -⟩ := swap hends
    exact hregs.getF_eq hnot i

/-! An uncorrectable word of the SSM that is met (R155). -/

section
variable (s : State) (n : Fin 24) (a : Nat)

theorem State.getF_countBadSsm {f : Fld} (hf : f ∉ [Fld.SSM_ECCCNT_UNC, .SSM_ECCADDR_ADDR]) (i : Nat) :
    (s.countBadSsm a).getF f i = s.getF f i := by
  simp only [List.mem_cons, List.not_mem_nil, or_false, not_or] at hf
  obtain ⟨hunc, haddr⟩ := hf
  rw [State.countBadSsm, State.getF_setF_ne _ _ _ _ haddr, State.getF_countF_ne _ _ _ _ hunc]

theorem State.countBadSsm_unc : (s.countBadSsm a).getF .SSM_ECCCNT_UNC 0 =
    min (2 ^ Fld.SSM_ECCCNT_UNC.width - 1) (s.getF .SSM_ECCCNT_UNC 0 + 1) := by
  rw [State.countBadSsm, State.getF_setF_ne _ _ _ _ (by decide), State.getF_countF_same]

theorem State.countBadSsm_addr : (s.countBadSsm a).getF .SSM_ECCADDR_ADDR 0 = a / 4 * 4 % 2 ^ Fld.SSM_ECCADDR_ADDR.width :=
  State.getF_setF_same _ _ _ _

theorem State.countBadSsm_fetchAddr : (s.countBadSsm a).fetchAddr n = s.fetchAddr n := by
  unfold State.fetchAddr
  rw [s.getF_countBadSsm a (by decide)]
  rfl

theorem State.countBadSsm_fetches (h : Fetches n s) : Fetches n (s.countBadSsm a) := by
  obtain ⟨hissue, hfetch⟩ := h
  refine ⟨?_, ?_⟩
  · rw [← hissue]
    unfold State.canIssue State.fabRuns State.awake State.running State.halted State.bit
    rw [s.getF_countBadSsm a (by decide), s.getF_countBadSsm a (by decide), s.getF_countBadSsm a (by decide)]
    rfl
  · rw [← hfetch]
    unfold State.fetchOk
    rw [s.countBadSsm_fetchAddr]
    rfl

/-- Writes of two fields may change places. -/
theorem State.setF_comm_getF {f g : Fld} (h : f ≠ g) (i j v w : Nat) :
    ((s.setF f i v).setF g j w).getF = ((s.setF g j w).setF f i v).getF := by
  funext x k
  have hne : f.key i ≠ g.key j := Fld.key_ne i j h
  simp only [State.getF_setF]
  split_ifs with hg hf
  · exact absurd (hf.symm.trans hg) hne
  all_goals rfl

theorem State.setF_congr_getF {t u : State} (h : t.getF = u.getF) (f : Fld) (i v : Nat) : (t.setF f i v).getF = (u.setF f i v).getF := by
  funext x k
  rw [State.getF_setF, State.getF_setF, h]

/-- A count of the SSM and one of the engine may change places. -/
theorem State.countBadSsm_countF_getF (v : Nat) :
    ((s.countBadSsm a).countF .CE_XCNT_ECCCOR n v).getF = ((s.countF .CE_XCNT_ECCCOR n v).countBadSsm a).getF := by
  rw [State.countF, s.getF_countBadSsm a (by decide), State.countBadSsm, State.countBadSsm]
  refine (State.setF_comm_getF _ (by decide) _ _ _ _).trans (State.setF_congr_getF ?_ _ _ _)
  rw [State.countF, State.countF, State.countF, State.getF_setF_ne _ _ _ _ (by decide)]
  exact State.setF_comm_getF s (by decide) _ _ _ _

/-- The counts of a fetch and of a word of the SSM may change places. -/
theorem State.countBadSsm_settled (c : Nat) :
    SettledFrom n ((s.countFetch n).countBadSsm a) (((s.countBadSsm a).countFetch n).modCe n (fun e => e.settle c)) := by
  have hce : ((s.countFetch n).countBadSsm a).ce = s.ce := s.countFetch_ce n
  have hce' : ((s.countBadSsm a).countFetch n).ce = s.ce := (s.countBadSsm a).countFetch_ce n
  refine ⟨?_, ?_, fun m hm => ?_, c, ?_⟩
  · rw [State.countFetch_frame (s.countBadSsm a), State.countFetch_frame s]
    rfl
  · show ((s.countBadSsm a).countFetch n).getF = _
    unfold State.countFetch
    rw [s.countBadSsm_fetchAddr, show (s.countBadSsm a).softWord (s.fetchAddr n) = s.softWord (s.fetchAddr n) from rfl]
    split
    · exact s.countBadSsm_countF_getF n a 1
    · rfl
  · rw [State.modCe_ne _ _ _ _ hm, hce, hce']
  · rw [State.modCe_same, hce, hce']

end

/-! The clauses of the claim. -/

/-- An effect raises the exception that its check finds at data address `a`. -/
def FaultsAt (n : Fin 24) (a : Word) (size : Nat) (store : Bool) (eff : Nat → State → Res) : Prop :=
  ∀ t u c, u.dataFault n a.toNat size store = some c → eff t u = .exc c a

theorem loadEff_faults (n : Fin 24) (rd ra : BitVec 5) (a : Word) (size : Nat) (ext : Nat → Word) (post : Option Word) :
    FaultsAt n a size false (loadEff n rd ra a size ext post) := by
  intro t u c h
  unfold loadEff
  rw [h]

theorem storeEff_faults (n : Fin 24) (ra : BitVec 5) (a : Word) (size v : Nat) (fl : NFlags) (post : Option Word) :
    FaultsAt n a size true (storeEff n ra a size v fl post) := by
  intro t u c h
  unfold storeEff
  rw [h]

section
variable {i : Instr} {n : Fin 24} {pr : BitVec 4} {s : State} {us : Use} {a : Word} {size : Nat} {store : Bool} {eff : Nat → State → Res}

/-- A check that fails takes its exception with the address, where no word of the SSM is counted. -/
theorem access_takes (hexec : exec i s = .next (issue n pr us i eff (s.dataCount n i pr a.toNat size store)))
    (heff : FaultsAt n a size store eff) {cause : Nat} (hf : s.dataFault n a.toNat size store = some cause) (hc : cause < 16)
    (hcount : windowOf a.toNat = .ssm → cause ≠ 6) : Gives i n pr s (Takes n cause (s.ce[n]).pc a) := by
  intro hp
  rw [State.dataCount_none (by rintro ⟨hw, h⟩; exact hcount hw (Option.some.inj (hf.symm.trans h)))] at hexec
  refine ⟨_, hexec, issue_exc us hp (fun t c => heff _ _ _ ?_) hc⟩
  rw [State.dataFault_congr (s := s) (t := (s.countFetch n).modCe n _) (s.countFetch_eccBad n), hf]

/-- An uncorrectable word of the SSM is counted, and ECC_D is taken. -/
theorem access_badSsm (hexec : exec i s = .next (issue n pr us i eff (s.dataCount n i pr a.toNat size store)))
    (heff : FaultsAt n a size store eff) (hf : s.dataFault n a.toNat size store = some 6) (hw : windowOf a.toNat = .ssm) :
    Gives i n pr s (BadSsm n a a.toNat) := by
  intro hp
  have hcount : s.dataCount n i pr a.toNat size store = s.countBadSsm a.toNat :=
    if_pos (by simp [(s.performs_iff n i pr).2 hp, hw, hf, xEccD])
  rw [hcount] at hexec
  obtain ⟨hfetch, hlegal, hpred⟩ := hp
  have htakes : Takes n 6 (s.ce[n]).pc a ((s.countFetch n).countBadSsm a.toNat) (issue n pr us i eff (s.countBadSsm a.toNat)) := by
    rw [issue_performs ⟨s.countBadSsm_fetches n _ hfetch, hlegal, hpred⟩]
    have he (t : Nat) : eff t (((s.countBadSsm a.toNat).countFetch n).modCe n (fun e => e.settle t)) = .exc 6 a :=
      heff _ _ _ (by
        rw [State.dataFault_congr (s := s) (t := ((s.countBadSsm a.toNat).countFetch n).modCe n _)
          ((s.countBadSsm a.toNat).countFetch_eccBad n), hf])
    dsimp only
    generalize ((s.countBadSsm a.toNat).ce[n]).tm.issueAt pr true us = t
    rw [he]
    exact (s.countBadSsm_settled n _ t).takes (State.exception_takes _ n 6 _ a _ (by decide))
  refine ⟨_, hexec, ?_, ?_, ?_⟩
  · rw [htakes.getF_eq (by simp [exceptionFields, taskFields, swapNames])]
    exact (s.countFetch n).countBadSsm_unc a.toNat
  · rw [htakes.getF_eq (by simp [exceptionFields, taskFields, swapNames])]
    exact (s.countFetch n).countBadSsm_addr a.toNat
  · rw [State.countFetch_ce]
    exact htakes

/-- The exceptions of an access. -/
theorem access_exceptions (hexec : exec i s = .next (issue n pr us i eff (s.dataCount n i pr a.toNat size store)))
    (heff : FaultsAt n a size store eff) :
    (a.toNat % size ≠ 0 → Gives i n pr s (Takes n 3 (s.ce[n]).pc a)) ∧
    (a.toNat % size = 0 → windowTakes n a.toNat size store = false → Gives i n pr s (Takes n 4 (s.ce[n]).pc a)) ∧
    (a.toNat % size = 0 → a.toNat < 0x10000 → s.badWord (ceData n + a.toNat) = true → (store = false ∨ size ≠ 4) →
      Gives i n pr s (Takes n 6 (s.ce[n]).pc a)) ∧
    (a.toNat % size = 0 → windowOf a.toNat = .ssm → s.badWord a.toNat = true → (store = false ∨ size ≠ 4) →
      Gives i n pr s (BadSsm n a a.toNat)) := by
  have hpart (h : store = false ∨ size ≠ 4) : (!store || size != 4) = true := by simpa using h
  refine ⟨fun h => ?_, fun h hw => ?_, fun h hlt hbad hpt => ?_, fun h hw hbad hpt => ?_⟩
  · exact access_takes hexec heff (State.dataFault_align h) (by decide) (fun _ => by decide)
  · exact access_takes hexec heff (State.dataFault_access h hw) (by decide) (fun _ => by decide)
  · have hown := windowOf_own.2 hlt
    refine access_takes hexec heff ?_ (by decide) (fun hw => by simp [hown] at hw)
    rw [State.dataFault_mem h (.inl hown), memAddr, if_pos hlt, hbad, hpart hpt]
    rfl
  · refine access_badSsm hexec heff ?_ hw
    rw [State.dataFault_mem h (.inr hw), memAddr_ssm n hw, hbad, hpart hpt]
    rfl

end

/-- The claim of Table 5-1 and R107. -/
theorem memoryExceptions : Claims.MemoryExceptions := by
  intro n pr rd ra imm s
  have haddr := (s.ce[n]).dataAddr_eq ra imm
  have load {i : Instr} {us : Use} {a : Word} {size : Nat} {ext : Nat → Word} {post : Option Word}
      (hexec : exec i s = .next (issue n pr us i (loadEff n rd ra a size ext post) (s.dataCount n i pr a.toNat size false))) :=
    access_exceptions hexec (loadEff_faults n rd ra a size ext post)
  have store {i : Instr} {us : Use} {a : Word} {size v : Nat} {fl : NFlags} {post : Option Word}
      (hexec : exec i s = .next (issue n pr us i (storeEff n ra a size v fl post) (s.dataCount n i pr a.toNat size true))) :=
    access_exceptions hexec (storeEff_faults n ra a size v fl post)
  dsimp only
  rw [← haddr 4, ← haddr 2, ← haddr 1]
  exact ⟨load rfl, load rfl, load rfl, load rfl, load rfl, load rfl, load rfl, store rfl, store rfl, store rfl, store rfl, store rfl⟩

/-- Settles O38: an access that no check stops writes its registers and does what its window does, whatever stands in the engines; one that a
check stops raises that check's exception before any effect. -/
theorem loadsAndStores : Obligations.LoadsAndStores := ⟨loadResults, storeResults, memoryExceptions⟩

end Sys2Proof.Machine
end

section
/-! SUPPORT. What an instruction gives that acts on more than its engine, or reads what stands outside it: told from the settled engine. -/
namespace Sys2Proof.Machine

/-- The state in which the effect of an instruction of engine `n` acts: a corrected fetch is counted, and the flags due by cycle `c` are set. -/
def State.settled (s : State) (n : Fin 24) (c : Nat) : State := (s.countFetch n).modCe n (fun e => e.settle c)

/-- The engine after an instruction: its PC is `pc`, the flags that the instruction raised are due in cycle `k`, and its timing is `tm`. -/
def Eng.movedOn (e : Eng) (pc : Word) (k : Nat) (tm : Timing) : Eng := { e.dueFlags k with pc := pc, tm := tm }

section
variable (s : State) (n : Fin 24) (c : Nat)

@[simp] theorem State.settled_ce : (s.settled n c).ce[n] = (s.ce[n]).settle c := by
  rw [State.settled, State.modCe_same, State.countFetch_ce]

theorem State.settled_ce_ne {m : Fin 24} (h : m ≠ n) : (s.settled n c).ce[m] = s.ce[m] := by
  rw [State.settled, State.modCe_ne _ _ _ _ h, State.countFetch_ce]

theorem State.settled_frame : EngineFrame s (s.settled n c) := by
  rw [State.settled, State.countFetch_frame]
  rfl

theorem State.settled_getF {f : Fld} (h : f ≠ .CE_XCNT_ECCCOR) (i : Nat) : (s.settled n c).getF f i = s.getF f i :=
  s.getF_countFetch_ne n h i

end

/-- An update of an engine turns on what it makes of that engine. -/
theorem State.modCe_congr {s : State} {n : Fin 24} {f g : Eng → Eng} (h : f s.ce[n] = g s.ce[n]) : s.modCe n f = s.modCe n g :=
  congrArg (fun e => { s with ce := s.ce.set n e }) h

section
variable {i : Instr} {n : Fin 24} {pr : BitVec 4} {s : State} {us : Use} {eff : Nat → State → Res}

/-! The engine writes general registers. -/

/-- An instruction that writes general registers and raises flags, and leaves all but the engines as in `u`. -/
theorem Gives.accessed {u : State} {ws : List (BitVec 5 × Word)} {fl : NFlags} {block : Nat}
    (hexec : exec i s = .next (issue n pr us i eff s))
    (he : ∀ t c, eff t (s.settled n c) = .done ((u.withCe (s.settled n c).ce).modCe n (fun e => (e.writeAll ws).raise fl)) none block) :
    Gives i n pr s (Accessed n ws fl u) := by
  intro hp
  refine ⟨_, hexec, ?_⟩
  rw [issue_eff_congr hp us (eff' := fun _ x => .done ((u.withCe x.ce).modCe n (fun e => (e.writeAll ws).raise fl)) none block) (he _ _)]
  exact issue_accessed hp us fun _ _ => rfl

theorem Accessed.onlyEngine {ws : List (BitVec 5 × Word)} {fl : NFlags} {t : State} (h : Accessed n ws fl s s t) : OnlyEngine n s t :=
  ⟨h.state, h.others⟩

/-- An instruction that writes one register with a result told from the settled state. -/
theorem Gives.resultOf {rd : BitVec 5} {v : Word} (hexec : exec i s = .next (issue n pr us i eff s))
    (he : ∀ t c, eff t (s.settled n c) = .done ((s.settled n c).modCe n (fun e => e.writeG rd v)) none 0) :
    Gives i n pr s (Result n rd (v, {})) :=
  (Gives.accessed (u := s.countFetch n) (ws := [(rd, v)]) (fl := {}) hexec he).imp fun _ h =>
    ⟨h.onlyEngine, h.engine, h.gprIs, h.preds, h.accs⟩

/-- An instruction that writes one predicate other than p0 with a value told from the settled state. -/
theorem Gives.predOf {pd : BitVec 3} {b : Bool} (hexec : exec i s = .next (issue n pr us i eff s)) (hpd : i.legal = true → pd ≠ 0#3)
    (he : ∀ t c, eff t (s.settled n c) = .done ((s.settled n c).modCe n (fun e => e.writeP pd b)) none 0) :
    Gives i n pr s (PredResult n pd b {}) := by
  intro hp
  obtain ⟨-, hl, -⟩ := id hp
  refine ⟨_, hexec, ?_⟩
  rw [issue_eff_congr hp us (eff' := regEff n (fun e => (e.writeP pd b).raise {})) (he _ _)]
  exact issue_predResult hp us pd (hpd hl) fun _ => (b, {})

/-! The engine changes as the effect says, and moves on. -/

/-- An instruction with effect `v` moves its engine on from the state that the effect gives. -/
theorem issue_done (h : Performs i n pr s) (us : Use) {v : Nat → State} {block : Nat}
    (he : ∀ c, eff c (s.settled n c) = .done (v c) none block) :
    ∃ (k : Nat) (tm : Timing → Timing), issue n pr us i eff s =
      (v ((s.ce[n]).tm.issueAt pr true us)).modCe n (fun e => e.movedOn ((s.ce[n]).pc + 4#32) k (tm e.tm)) := by
  rw [issue_performs h]
  dsimp only
  generalize (s.ce[n]).tm.issueAt pr true us = c
  rw [show (s.countFetch n).modCe n (fun e => e.settle c) = s.settled n c from rfl, he]
  exact ⟨_, fun x => x.after c true us block, rfl⟩

/-- Engine `n` has performed an instruction whose effect on it is `f`, and all but the engines is as in `u`. -/
structure Acted (n : Fin 24) (f : Eng → Eng) (u s t : State) : Prop where
  state : t = { u with ce := t.ce }
  others : ∀ m : Fin 24, m ≠ n → t.ce[m] = s.ce[m]
  own : ∃ c k tm, t.ce[n] = (f ((s.ce[n]).settle c)).movedOn ((s.ce[n]).pc + 4#32) k tm

theorem Gives.acted {u : State} {f : Eng → Eng} {block : Nat} (hexec : exec i s = .next (issue n pr us i eff s))
    (he : ∀ t c, eff t (s.settled n c) = .done ((u.withCe (s.settled n c).ce).modCe n f) none block) :
    Gives i n pr s (Acted n f u) := by
  intro hp
  obtain ⟨k, tm, h⟩ := issue_done hp us fun c => he c c
  refine ⟨_, hexec, ?_⟩
  rw [h]
  generalize (s.ce[n]).tm.issueAt pr true us = c
  refine ⟨rfl, fun m hm => ?_, c, k, tm (f ((s.ce[n]).settle c)).tm, ?_⟩
  · rw [State.modCe_ne _ _ _ _ hm, State.modCe_ne _ _ _ _ hm, State.countFetch_ce]
    exact s.settled_ce_ne n c hm
  · rw [State.modCe_same, State.modCe_same, State.countFetch_ce, show (u.withCe (s.settled n c).ce).ce[n] = _ from s.settled_ce n c]

/-- An effect that leaves the flags moves the engine past the instruction and changes it as `f` says. -/
theorem Acted.engIs {f : Eng → Eng} {u t : State} (h : Acted n f u s t)
    (hf : ∀ c, f ((s.ce[n]).settle c) = (f s.ce[n]).settle c) : EngIs n { f s.ce[n] with pc := (s.ce[n]).pc + 4#32 } t := by
  obtain ⟨c, k, tm, h⟩ := h.own
  rw [hf] at h
  refine ⟨?_, ?_⟩
  · rw [h]
    rfl
  · rw [h]
    exact (Eng.dueFlags_allFlags _ k).trans (Eng.settle_allFlags _ c)

end

end Sys2Proof.Machine
end

section
/-! SINCOS, the limits, PLUCK and its injections (R116, R117, R123, R124). -/
namespace Sys2Proof.Machine

/-! The arithmetic of the model is that of the claim. -/

theorem limVal_eq (d a b : Word) : limVal d a b = BitVec.ofInt 32 (min (max d.toInt a.toInt) b.toInt) := by
  have hmax : (if d.toInt < a.toInt then a else d).toInt = max d.toInt a.toInt := by split_ifs <;> omega
  have hmin (m : Word) : (if b.toInt < m.toInt then b else m).toInt = min m.toInt b.toInt := by split_ifs <;> omega
  rw [← hmax, ← hmin, BitVec.ofInt_toInt]
  rfl

/-- Of the flags a minimum or maximum raises NV alone. -/
theorem Fp.minmax_flags (isMax : Bool) (a b : Word) : (Fp.minmax isMax a b).2 = { nv := (Fp.minmax isMax a b).2.nv } := by
  unfold Fp.minmax
  dsimp only
  split_ifs <;> rfl

theorem limfVal_eq (d a b : Word) : limfVal d a b =
    ((Fp.minmax false (Fp.minmax true d a).1 b).1, (Fp.minmax true d a).2.or (Fp.minmax false (Fp.minmax true d a).1 b).2) := by
  rw [Fp.minmax_flags true d a, Fp.minmax_flags false (Fp.minmax true d a).1 b]
  rfl

/-- The chip that PLUCK shifts in takes the place of the new bit 0. -/
theorem pluckVal_eq (w : Word) : pluckVal w = BitVec.ofNat 32 (2 * w.toNat + b2n (w.getLsbD 14 != w.getLsbD 13)) := by
  have hshift : w <<< 1 = BitVec.ofNat 32 (2 * w.toNat) := by
    rw [BitVec.shiftLeft_eq_mul_twoPow]
    bv_omega
  have hfree : w <<< 1 &&& 1#32 = 0#32 := by
    refine BitVec.eq_of_getLsbD_eq fun k _ => ?_
    cases k <;> simp
  unfold pluckVal
  show _ ||| (if (w.getLsbD 14 != w.getLsbD 13) = true then 1#32 else 0#32) = _
  cases w.getLsbD 14 != w.getLsbD 13
  · rw [if_neg Bool.false_ne_true, BitVec.or_zero, hshift]
    rfl
  · rw [if_pos rfl, ← BitVec.add_eq_or_of_and_eq_zero _ _ hfree, hshift, ← BitVec.ofNat_add]
    rfl

theorem plkaVal_eq (d a b : Word) : plkaVal d a b = qResult (if b.getLsbD 0 then d.toInt + a.toInt else d.toInt - a.toInt) := by
  unfold plkaVal
  split_ifs <;> exact satQ_eq _

/-- SINCOS writes an even register and the odd one behind it. -/
theorem sincos_registers {n : Fin 24} {pr : BitVec 4} {rd ra rb : BitVec 5} (h : (Instr.sincos n pr rd ra rb).legal = true) :
    rd ≠ 0#5 ∧ rd + 1#5 ≠ 0#5 ∧ rd ≠ rd + 1#5 := by
  simp only [Instr.legal, Bool.and_eq_true, beq_iff_eq, bne_iff_ne] at h
  obtain ⟨⟨-, heven⟩, hrd⟩ := h
  refine ⟨hrd, fun hz => ?_, fun he => ?_⟩
  · rw [show rd = 31#5 by bv_omega] at heven
    contradiction
  · bv_omega

theorem Gives.sincos (n : Fin 24) (pr : BitVec 4) (rd ra rb : BitVec 5) (s : State) :
    let a := (s.ce[n]).readG ra + (s.ce[n]).readG rb
    Gives (.sincos n pr rd ra rb) n pr s (fun u t => OnlyEngine n u t ∧ EngineStep n {} u t ∧ SameP n u t ∧ SameA n u t ∧
      ∀ x, (t.ce[n]).readG x = if x = rd then sinWord a else if x = rd + 1#5 then cosWord a else (s.ce[n]).readG x) := by
  intro a hp
  obtain ⟨-, hlegal, -⟩ := id hp
  obtain ⟨hrd, hnext, hne⟩ := sincos_registers hlegal
  have hacc : Gives (.sincos n pr rd ra rb) n pr s
      (Accessed n [(rd, sinWord a), (rd + 1#5, cosWord a)] {} (s.countFetch n)) := by
    refine .accessed (block := 0) rfl fun t c => congrArg (Res.done · none 0) (State.modCe_congr ?_)
    rw [State.settled_ce]
    rfl
  obtain ⟨t, ht, h⟩ := hacc hp
  refine ⟨t, ht, h.onlyEngine, h.engine, h.preds, h.accs, fun x => ?_⟩
  rw [h.gprs x, Eng.readG_writeAll, State.countFetch_ce]
  by_cases hx : x = rd
  · subst hx
    simp [hrd, hne]
  · simp [hx, hnext]

/-- The claim of R116, R117, R123 and R124. -/
theorem controlMathResults : Claims.ControlMathResults := by
  intro n pr rd ra rb cnt lag k s e d a b clamp
  refine ⟨.sincos n pr rd ra rb s, .result rfl fun _ => congrArg noFlags (limVal_eq _ _ _), .result rfl fun _ => limfVal_eq _ _ _,
    .result rfl fun _ => rfl, .result rfl fun _ => rfl, .result rfl fun _ => congrArg noFlags (pluckVal_eq _),
    .result rfl fun _ => plkaVal_eq _ _ _, .accResult rfl fun _ => satAcc_eq _⟩

end Sys2Proof.Machine
end

section
/-! SUPPORT. The blocks of data RAM that BIQ, PI and CAPO work on (R111): the words that are written, and the exceptions. -/
namespace Sys2Proof.Machine

/-! Words of memory. -/

theorem State.bytes_congr_range {s t : State} {a k : Nat} (h : ∀ x, a ≤ x → x < a + k → t.byte x = s.byte x) :
    t.bytes a k = s.bytes a k := by
  induction k generalizing a with
  | zero => rfl
  | succ k ih =>
    rw [State.bytes, State.bytes, h a (Nat.le_refl a) (by omega), ih fun x hlo hhi => h x (by omega) (by omega)]

/-- A number that is spelt by its bytes is read as it is, cut to them. -/
theorem State.bytes_of_byte {s : State} {m v k : Nat} (h : ∀ j, j < k → s.byte (m + j) = BitVec.ofNat 8 (v / 256 ^ j)) :
    s.bytes m k = v % 256 ^ k := by
  induction k generalizing m v with
  | zero => rw [Nat.pow_zero, Nat.mod_one]; rfl
  | succ k ih =>
    have hlow : s.byte m = BitVec.ofNat 8 v := by simpa using h 0 (Nat.succ_pos k)
    have hrest : s.bytes (m + 1) k = v / 256 % 256 ^ k := ih fun j hj => by
      rw [Nat.add_assoc, Nat.add_comm 1 j, h (j + 1) (by omega), Nat.pow_succ', Nat.div_div_eq_div_mul]
    rw [State.bytes, hlow, hrest, Nat.pow_succ', Nat.mod_mul, BitVec.toNat_ofNat]

/-! Memory written and corrected reads counted. -/

/-- Nothing changes but memory with its check bits and engine `n`'s count of corrected reads. -/
structure RamFrame (n : Fin 24) (s t : State) : Prop where
  frame : t = { s with regs := t.regs, mem := t.mem, eccBad := t.eccBad, eccSoft := t.eccSoft }
  regs : RegsBut s t [(.CE_XCNT_ECCCOR, n)]

theorem RamFrame.refl (n : Fin 24) (s : State) : RamFrame n s s := ⟨rfl, .refl s _⟩

theorem RamFrame.trans {n : Fin 24} {s t u : State} (h : RamFrame n s t) (h' : RamFrame n t u) : RamFrame n s u where
  frame := Eq.trans h'.frame
    (congrArg (fun x : State => { x with regs := u.regs, mem := u.mem, eccBad := u.eccBad, eccSoft := u.eccSoft }) h.frame)
  regs := h.regs.trans h'.regs

/-- A word stored at `m`. -/
def State.storeWord (s : State) (n : Fin 24) (m : Nat) (w : Word) : State := s.storeIn .CE_XCNT_ECCCOR n m 4 w.toNat

theorem State.putRam_eq (s : State) (n : Fin 24) (a : Nat) (w : Word) : s.putRam n a w = s.storeWord n (ceData n + a) w := rfl

/-- Words stored one after another, each with its address. -/
def State.storeWords (s : State) (n : Fin 24) (l : List (Nat × Word)) : State := l.foldl (fun t e => t.storeWord n e.1 e.2) s

/-- The words at two addresses do not overlap. -/
def Apart (a b : Nat) : Prop := a + 4 ≤ b ∨ b + 4 ≤ a

section
variable (s : State) (n : Fin 24) (m x : Nat) (w : Word) (l : List (Nat × Word)) (c : Vector Eng 24)

theorem State.storeWord_ram : RamFrame n s (s.storeWord n m w) where
  frame := (s.storeIn_frame .CE_XCNT_ECCCOR n m 4 w.toNat).trans rfl
  regs := s.storeIn_regs _ _ _ _ _

theorem State.storeWord_withCe : (s.withCe c).storeWord n m w = (s.storeWord n m w).withCe c := s.storeIn_withCe c _ _ _ _ _

theorem State.word_storeWord_same : (s.storeWord n m w).word m = w := by
  have hbytes : (s.storeWord n m w).bytes m 4 = w.toNat % 256 ^ 4 :=
    State.bytes_of_byte fun j hj => s.storeIn_byte .CE_XCNT_ECCCOR n m 4 w.toNat hj
  have hw : w.toNat % 256 ^ 4 = w.toNat := Nat.mod_eq_of_lt w.isLt
  rw [State.word, hbytes, hw, BitVec.ofNat_toNat, BitVec.setWidth_eq]

variable {m x}

theorem State.byte_storeWord (h : x < m ∨ m + 4 ≤ x) : (s.storeWord n m w).byte x = s.byte x :=
  s.storeIn_memBut .CE_XCNT_ECCCOR n m 4 w.toNat x h

variable (m x)

theorem State.storeWords_cons (e : Nat × Word) : s.storeWords n (e :: l) = (s.storeWord n e.1 e.2).storeWords n l := by
  unfold State.storeWords
  rw [List.foldl_cons]

theorem State.storeWords_ram : RamFrame n s (s.storeWords n l) := by
  induction l generalizing s with
  | nil => exact .refl n s
  | cons e l ih =>
    rw [State.storeWords_cons]
    exact (s.storeWord_ram n e.1 e.2).trans (ih (s.storeWord n e.1 e.2))

theorem State.storeWords_withCe : (s.withCe c).storeWords n l = (s.storeWords n l).withCe c := by
  induction l generalizing s with
  | nil => rfl
  | cons e l ih => rw [State.storeWords_cons, State.storeWord_withCe, ih, State.storeWords_cons]

variable {l x}

theorem State.byte_storeWords (h : ∀ e ∈ l, x < e.1 ∨ e.1 + 4 ≤ x) : (s.storeWords n l).byte x = s.byte x := by
  induction l generalizing s with
  | nil => rfl
  | cons e l ih =>
    obtain ⟨he, hl⟩ := List.forall_mem_cons.1 h
    rw [State.storeWords_cons]
    exact (ih (s.storeWord n e.1 e.2) hl).trans (s.byte_storeWord n e.2 he)

theorem State.word_storeWords_ne (h : ∀ e ∈ l, Apart x e.1) : (s.storeWords n l).word x = s.word x := by
  refine congrArg (BitVec.ofNat 32) (State.bytes_congr_range fun y hlo hhi => s.byte_storeWords n fun e he => ?_)
  have := h e he
  unfold Apart at this
  omega

/-- Of words that do not overlap each is read back. -/
theorem State.word_storeWords (hl : l.Pairwise (fun e f => Apart e.1 f.1)) : ∀ e ∈ l, (s.storeWords n l).word e.1 = e.2 := by
  induction l generalizing s with
  | nil => nofun
  | cons e l ih =>
    obtain ⟨he, hl⟩ := List.pairwise_cons.1 hl
    rw [State.storeWords_cons]
    refine List.forall_mem_cons.2 ⟨?_, ih (s.storeWord n e.1 e.2) hl⟩
    exact ((s.storeWord n e.1 e.2).word_storeWords_ne n he).trans (s.word_storeWord_same n e.1 e.2)

end

/-! The corrected reads of a block. -/

section
variable (s : State) (n : Fin 24) (a len : Nat)

theorem State.countSoftCe_ram : RamFrame n s (s.countSoftCe n a) := by
  obtain ⟨hframe, hregs⟩ := s.countSoftCe_regs n (a := a)
  exact ⟨by rw [hframe], hregs⟩

theorem State.blockSoft_ram : RamFrame n s (s.blockSoft n a len) :=
  List.foldlRecOn _ _ (.refl n s) fun t h k _ => h.trans (t.countSoftCe_ram n (ceData n + a + 4 * k))

theorem State.blockSoft_byte (x : Nat) : (s.blockSoft n a len).byte x = s.byte x :=
  List.foldlRecOn (motive := fun t : State => t.byte x = s.byte x) _ _ rfl fun t h k _ => by
    rw [(t.countSoftCe_regs n (a := ceData n + a + 4 * k)).1]
    exact h

theorem State.blockSoft_withCe (c : Vector Eng 24) : (s.withCe c).blockSoft n a len = (s.blockSoft n a len).withCe c := by
  unfold State.blockSoft
  induction List.range len generalizing s with
  | nil => rfl
  | cons k l ih => rw [List.foldl_cons, State.countSoftCe_withCe, ih, List.foldl_cons]

end

/-! What the instruction sees of its block. -/

section
variable (s : State) (n : Fin 24) (c : Nat)

theorem State.settled_blk : (s.settled n c).blk = s.blk := by
  rw [show s.settled n c = _ from s.settled_frame n c]
  rfl

theorem State.settled_piBlock : (s.settled n c).piBlock = s.piBlock := by
  unfold State.piBlock
  rw [State.settled_blk]

theorem State.settled_blockFault : (s.settled n c).blockFault = s.blockFault := by
  rw [show s.settled n c = _ from s.settled_frame n c]
  rfl

end

section
variable {s : State} {n : Fin 24} {a : Word} {len : Nat}

/-- A block that BIQ, PI or CAPO can use raises no exception. -/
theorem State.blockFault_none (h : BlockOk s n a len) : s.blockFault n a len = none := by
  obtain ⟨halign, hend, hgood⟩ := h
  have hfind : (List.range len).find? (fun k => s.badWord (ceData n + a.toNat + 4 * k)) = none :=
    List.find?_eq_none.2 fun k hk => by simp [hgood k (List.mem_range.1 hk)]
  rw [State.blockFault, if_neg (not_not.2 halign), if_neg (by omega), hfind]

theorem State.blockFault_align (h : a.toNat % 4 ≠ 0) : s.blockFault n a len = some (3, a) := if_pos h

theorem State.blockFault_access (h : a.toNat % 4 = 0) (hend : 0x10000 < a.toNat + 4 * len) : s.blockFault n a len = some (4, a) := by
  rw [State.blockFault, if_neg (not_not.2 h), if_pos hend]
  rfl

/-- The first uncorrectable word of a block raises ECC_D with its address. -/
theorem State.blockFault_bad {k : Nat} (h : a.toNat % 4 = 0) (hend : a.toNat + 4 * len ≤ 0x10000) (hk : k < len)
    (hbad : s.badWord (ceData n + a.toNat + 4 * k) = true) (hgood : ∀ j, j < k → s.badWord (ceData n + a.toNat + 4 * j) = false) :
    s.blockFault n a len = some (6, a + BitVec.ofNat 32 (4 * k)) := by
  have hfind : (List.range len).find? (fun k => s.badWord (ceData n + a.toNat + 4 * k)) = some k :=
    List.find?_range_eq_some.2 ⟨hbad, List.mem_range.2 hk, fun j hj => by simp [hgood j hj]⟩
  rw [State.blockFault, if_neg (not_not.2 h), if_neg (by omega), hfind]
  rfl

end

/-! What a block instruction gives. -/

section
variable {i : Instr} {n : Fin 24} {pr : BitVec 4} {s : State} {us : Use} {eff : Nat → State → Res}

/-- An instruction that reads a block, stores the words `l` and writes `rd`. -/
theorem Gives.block {a len : Nat} {l : List (Nat × Word)} {rd : BitVec 5} {w : Word} {fl : NFlags}
    (hexec : exec i s = .next (issue n pr us i eff s)) (hl : l.Pairwise (fun e f => Apart e.1 f.1))
    (he : ∀ t c, eff t (s.settled n c) =
      .done ((((s.settled n c).blockSoft n a len).storeWords n l).modCe n (fun e => (e.writeG rd w).raise fl)) none 0) :
    Gives i n pr s (fun u t => BlockFrame n fl u t ∧ GprIs n rd w u t ∧ (∀ e ∈ l, t.word e.1 = e.2) ∧
      ∀ x, (∀ e ∈ l, x < e.1 ∨ e.1 + 4 ≤ x) → t.byte x = u.byte x) := by
  have hacc : Gives i n pr s (Accessed n [(rd, w)] fl (((s.countFetch n).blockSoft n a len).storeWords n l)) := by
    refine .accessed (block := 0) hexec fun t c => ?_
    rw [he, ← State.storeWords_withCe, ← State.blockSoft_withCe]
    rfl
  refine hacc.imp fun t h => ?_
  generalize s.countFetch n = u at *
  have hram := (u.blockSoft_ram n a len).trans ((u.blockSoft n a len).storeWords_ram n l)
  have hwords := (u.blockSoft n a len).word_storeWords n hl
  have hbytes {x : Nat} := (u.blockSoft n a len).byte_storeWords n (l := l) (x := x)
  generalize hv : (u.blockSoft n a len).storeWords n l = v at *
  obtain ⟨hstate, hothers, hengine, -, hpreds, haccs⟩ := id h
  refine ⟨⟨?_, ?_, hothers, hengine, hpreds, haccs⟩, h.gprIs, ?_, fun x hx => ?_⟩
  · rw [hram.frame] at hstate
    exact hstate.trans (by rw [hstate])
  · rw [hstate]
    exact hram.regs
  · rw [hstate]
    exact hwords
  · rw [hstate]
    exact (hbytes hx).trans (u.blockSoft_byte n a len x)

end

end Sys2Proof.Machine
end


section
/-! BIQ, PI and CAPO (R118 to R122), and the exceptions of their blocks (R111). -/
namespace Sys2Proof.Machine

/-- The output of the biquad at `a` for the input `x`, and its QSAT. -/
def State.biqOut (s : State) (n : Fin 24) (a : Nat) (x : Word) : Word × NFlags :=
  let w := fun (k : Nat) => (s.blk n a k).toInt
  biqStep ((s.blk n a 0).toNat % 8) (w 1) (w 2) (w 3) (w 4) (w 5) (w 6) (w 7) (w 8) (w 9) x.toInt

/-- The words that BIQ writes: X2, X1, Y2 and Y1. -/
def State.biqWords (s : State) (n : Fin 24) (a : Nat) (x : Word) : List (Nat × Word) :=
  [(ceData n + (a + 28), s.blk n a 6), (ceData n + (a + 24), x), (ceData n + (a + 36), s.blk n a 8),
   (ceData n + (a + 32), (s.biqOut n a x).1)]

theorem State.biqWords_apart (s : State) (n : Fin 24) (a : Nat) (x : Word) :
    (s.biqWords n a x).Pairwise (fun e f => Apart e.1 f.1) := by
  simp [State.biqWords, Apart]
  omega

/-- The words of a PI block that the hardware writes, in the order in which it does. -/
def piWords (n : Fin 24) (a : Nat) (b : PiBlock) : List (Nat × Word) :=
  [(ceData n + a, b.ctl), (ceData n + (a + 12), BitVec.ofInt 32 b.i), (ceData n + (a + 28), BitVec.ofInt 32 b.ulast),
   (ceData n + (a + 32), BitVec.ofInt 32 b.ufrom)]

theorem State.putPi_eq (s : State) (n : Fin 24) (a : Nat) (b : PiBlock) : s.putPi n a b = s.storeWords n (piWords n a b) := by
  simp only [State.putPi, State.putRam_eq, piWords, State.storeWords, List.foldl_cons, List.foldl_nil]

theorem piWords_apart (n : Fin 24) (a : Nat) (b : PiBlock) : (piWords n a b).Pairwise (fun e f => Apart e.1 f.1) := by
  simp [piWords, Apart]
  omega

section
variable {s : State} {n : Fin 24} {rd ra rb : BitVec 5}

theorem biqEff_done (h : BlockOk s n ((s.ce[n]).readG rb) 10) (t c : Nat) :
    let a := ((s.ce[n]).readG rb).toNat
    let x := (s.ce[n]).readG ra
    biqEff n rd ra rb t (s.settled n c) = .done ((((s.settled n c).blockSoft n a 10).storeWords n (s.biqWords n a x)).modCe n
      (fun e => (e.writeG rd (s.biqOut n a x).1).raise (s.biqOut n a x).2)) none 0 := by
  unfold biqEff
  simp only [State.settled_ce, Eng.settle_readG, State.settled_blockFault, State.blockFault_none h, State.settled_blk, State.putRam_eq,
    State.biqWords, State.biqOut, State.storeWords, List.foldl_cons, List.foldl_nil]

theorem piEff_done (h : BlockOk s n ((s.ce[n]).readG rb) 9) (t c : Nat) :
    let a := ((s.ce[n]).readG rb).toNat
    let r := (s.piBlock n a).step ((s.ce[n]).readG ra).toInt
    piEff n rd ra rb t (s.settled n c) = .done ((((s.settled n c).blockSoft n a 9).storeWords n (piWords n a r.1)).modCe n
      (fun e => (e.writeG rd (BitVec.ofInt 32 r.2.1)).raise { qsat := r.2.2 })) none 0 := by
  unfold piEff
  simp only [State.settled_ce, Eng.settle_readG, State.settled_blockFault, State.blockFault_none h, State.settled_piBlock, State.putPi_eq]
  rfl

theorem capoEff_done (h : BlockOk s n ((s.ce[n]).readG rb) 9) (t c : Nat) :
    let a := ((s.ce[n]).readG rb).toNat
    let r := (s.piBlock n a).capo ((s.ce[n]).readG rd).toInt ((s.ce[n]).readG ra).toInt
    capoEff n rd ra rb t (s.settled n c) = .done ((((s.settled n c).blockSoft n a 9).storeWords n (piWords n a r.1)).modCe n
      (fun e => (e.writeG rd r.2.1).raise { qsat := r.2.2 })) none 0 := by
  unfold capoEff
  simp only [State.settled_ce, Eng.settle_readG, State.settled_blockFault, State.blockFault_none h, State.settled_piBlock, State.putPi_eq]
  rfl

end

/-! An exception stops a step before it writes (R107). -/

/-- An effect on the block of `len` words at rb raises the exception that the checks of the block find. -/
def BlockFaults (n : Fin 24) (rb : BitVec 5) (len : Nat) (eff : Nat → State → Res) : Prop :=
  ∀ t u f, u.blockFault n ((u.ce[n]).readG rb) len = some f → eff t u = .exc f.1 f.2

section
variable (n : Fin 24) (rd ra rb : BitVec 5)

theorem biqEff_faults : BlockFaults n rb 10 (biqEff n rd ra rb) := by
  intro t u f h
  unfold biqEff
  dsimp only
  rw [h]

theorem piEff_faults : BlockFaults n rb 9 (piEff n rd ra rb) := by
  intro t u f h
  unfold piEff
  dsimp only
  rw [h]

theorem capoEff_faults : BlockFaults n rb 9 (capoEff n rd ra rb) := by
  intro t u f h
  unfold capoEff
  dsimp only
  rw [h]

end

section
variable {i : Instr} {n : Fin 24} {pr : BitVec 4} {s : State} {us : Use} {eff : Nat → State → Res} {rb : BitVec 5} {len : Nat}

theorem block_takes (hexec : exec i s = .next (issue n pr us i eff s)) (heff : BlockFaults n rb len eff) {cause : Nat} {info : Word}
    (hf : s.blockFault n ((s.ce[n]).readG rb) len = some (cause, info)) (hc : cause < 16) :
    Gives i n pr s (Takes n cause (s.ce[n]).pc info) := by
  refine fun hp => ⟨_, hexec, issue_exc us hp (fun t c => heff t (s.settled n c) (cause, info) ?_) hc⟩
  rw [State.settled_blockFault, State.settled_ce, Eng.settle_readG, hf]

/-- The exceptions of a block, in the order of the checks. -/
theorem block_exceptions (hexec : exec i s = .next (issue n pr us i eff s)) (heff : BlockFaults n rb len eff) :
    let a := (s.ce[n]).readG rb
    let pc := (s.ce[n]).pc
    (a.toNat % 4 ≠ 0 → Gives i n pr s (Takes n 3 pc a)) ∧
    (a.toNat % 4 = 0 → 0x10000 < a.toNat + 4 * len → Gives i n pr s (Takes n 4 pc a)) ∧
    (∀ k, a.toNat % 4 = 0 → a.toNat + 4 * len ≤ 0x10000 → k < len → s.badWord (ceData n + a.toNat + 4 * k) = true →
      (∀ j, j < k → s.badWord (ceData n + a.toNat + 4 * j) = false) →
      Gives i n pr s (Takes n 6 pc (a + BitVec.ofNat 32 (4 * k)))) :=
  ⟨fun halign => block_takes hexec heff (State.blockFault_align halign) (by decide),
    fun halign hend => block_takes hexec heff (State.blockFault_access halign hend) (by decide),
    fun _ halign hend hk hbad hgood => block_takes hexec heff (State.blockFault_bad halign hend hk hbad hgood) (by decide)⟩

end

/-- The claim of R118 and R119. -/
theorem biquadStep : Claims.BiquadStep := by
  intro n pr rd ra rb s a base w x sum y hok
  have hy : s.biqOut n a.toNat x = y := by
    rw [State.biqOut, biqStep, raccVal, satQ_eq, rnd_eq]
    rfl
  refine (Gives.block rfl (s.biqWords_apart n a.toNat x) (biqEff_done hok)).imp fun t ⟨hframe, hgpr, hwords, hbytes⟩ => ?_
  simp only [State.biqWords, List.forall_mem_cons, ← Nat.add_assoc] at hwords hbytes
  obtain ⟨hx2, hx1, hy2, hy1, -⟩ := hwords
  rw [← hy]
  exact ⟨hframe, hgpr, fun z hz => hbytes z ⟨by omega, by omega, by omega, by omega, nofun⟩, hx1, hx2, hy1, hy2⟩

theorem State.countFetch_byte (s : State) (n : Fin 24) (x : Nat) : (s.countFetch n).byte x = s.byte x := by
  rw [s.countFetch_frame n]
  rfl

/-- What PI and CAPO leave in the block at `a`. -/
theorem piWords_hold {n : Fin 24} {a : Nat} {b : PiBlock} {u t : State} (hwords : ∀ e ∈ piWords n a b, t.word e.1 = e.2)
    (hbytes : ∀ x, (∀ e ∈ piWords n a b, x < e.1 ∨ e.1 + 4 ≤ x) → t.byte x = u.byte x) :
    let base := ceData n + a
    t.word base = b.ctl ∧ t.word (base + 12) = BitVec.ofInt 32 b.i ∧ t.word (base + 28) = BitVec.ofInt 32 b.ulast ∧
      t.word (base + 32) = BitVec.ofInt 32 b.ufrom ∧
      ∀ x, (x < base ∨ (base + 4 ≤ x ∧ x < base + 12) ∨ (base + 16 ≤ x ∧ x < base + 28) ∨ base + 36 ≤ x) → t.byte x = u.byte x := by
  intro base
  simp only [piWords, List.forall_mem_cons, ← Nat.add_assoc] at hwords hbytes
  obtain ⟨hctl, hi, hulast, hufrom, -⟩ := hwords
  exact ⟨hctl, hi, hulast, hufrom, fun x hx => hbytes x ⟨by omega, by omega, by omega, by omega, nofun⟩⟩

/-- The claim of R120 to R122. -/
theorem piAndCapoSteps : Claims.PiAndCapoSteps := by
  intro n pr rd ra rb s a base b p c holds hok
  refine ⟨?_, ?_⟩
  · refine (Gives.block rfl (piWords_apart n a.toNat p.1) (piEff_done hok)).imp fun t ⟨hframe, hgpr, hwords, hbytes⟩ => ?_
    exact ⟨hframe, hgpr, piWords_hold hwords fun x hx => (hbytes x hx).trans (s.countFetch_byte n x)⟩
  · refine (Gives.block rfl (piWords_apart n a.toNat c.1) (capoEff_done hok)).imp fun t ⟨hframe, hgpr, hwords, hbytes⟩ => ?_
    exact ⟨hframe, hgpr, piWords_hold hwords fun x hx => (hbytes x hx).trans (s.countFetch_byte n x)⟩

/-- The claim of R107 and R111. -/
theorem blockExceptions : Claims.BlockExceptions := by
  intro n pr rd ra rb s a pc each
  exact ⟨block_exceptions rfl (biqEff_faults n rd ra rb), block_exceptions rfl (piEff_faults n rd ra rb),
    block_exceptions rfl (capoEff_faults n rd ra rb)⟩

/-- Settles O37: the words of the block as the instruction finds them, the four that it stores, and the first check that fails. -/
theorem controlBlocks : Obligations.ControlBlocks := ⟨controlMathResults, biquadStep, piAndCapoSteps, blockExceptions⟩

end Sys2Proof.Machine
end

section
/-! SUPPORT. The slot descriptors of SEND and RECV (R125), and what an update of lanes or arms leaves to the engines. -/
namespace Sys2Proof.Machine

/-! Descriptors. -/

/-- The fields of a descriptor whose reserved bits are 0. -/
theorem desc_fields {d : Word} {kind l k : Nat} (hd : d = BitVec.ofNat 32 (kind * 2 ^ 28 + l * 256 + k)) (hkind : kind < 16)
    (hl : l < 256) (hk : k < 16) : descKind d = kind ∧ descIndex d = l ∧ descWord d = k ∧ descClean d = true := by
  have hn : d.toNat = kind * 2 ^ 28 + l * 256 + k := by
    rw [hd, BitVec.toNat_ofNat]
    exact Nat.mod_eq_of_lt (by omega)
  unfold descKind descIndex descWord descClean
  rw [hn]
  exact ⟨by omega, by omega, by omega, decide_eq_true (by omega)⟩

/-! Updates beside the engines. -/

theorem State.modCe_id (s : State) (n : Fin 24) : s.modCe n id = s := by simp [State.modCe]

/-- The settled state is the one in which a corrected fetch has been counted, but for the engines. -/
theorem State.settled_withCe (s : State) (n : Fin 24) (c : Nat) : s.settled n c = (s.countFetch n).withCe (s.settled n c).ce := rfl

section
variable (s : State) (n : Fin 24) (c : Nat)

theorem State.settled_laneOk : (s.settled n c).laneOk = s.laneOk := by
  rw [show s.settled n c = _ from s.settled_frame n c]
  rfl

theorem State.settled_lanes : (s.settled n c).lanes = s.lanes := by
  rw [show s.settled n c = _ from s.settled_frame n c]

end

section
variable {i : Instr} {n : Fin 24} {pr : BitVec 4} {s : State} {us : Use} {eff : Nat → State → Res}

/-- An instruction whose effect `p` leaves the engines alone moves its engine past itself. -/
theorem Gives.beside {p : State → State} {block : Nat} (hexec : exec i s = .next (issue n pr us i eff s))
    (hp : ∀ (u : State) c, p (u.withCe c) = (p u).withCe c)
    (he : ∀ t c, eff t (s.settled n c) = .done (p (s.settled n c)) none block) :
    Gives i n pr s (fun u t => t = { p u with ce := t.ce } ∧ (∀ m : Fin 24, m ≠ n → t.ce[m] = u.ce[m]) ∧
      EngIs n { s.ce[n] with pc := (s.ce[n]).pc + 4#32 } t) := by
  have hact : Gives i n pr s (Acted n id (p (s.countFetch n))) := by
    refine .acted (block := block) hexec fun t c => ?_
    rw [he, State.modCe_id, ← hp, ← State.settled_withCe]
  refine hact.imp fun t h => ⟨h.state, h.others, ?_⟩
  have heng := h.engIs fun c => rfl
  rw [State.countFetch_ce] at heng
  exact heng

end

end Sys2Proof.Machine
end

section
/-! SEND and RECV (R125 to R130, R186). -/
namespace Sys2Proof.Machine

/-! SEND. -/

/-- A SEND that is discarded (R129). -/
def State.dropSend (s : State) (n : Fin 24) : State := s.setF .CE_CSTAT_SENDDROP n 1

/-- A sort request for arm `a` by the word `w` of a SEND to ARW7 (R186, R187). -/
def State.sortReq (s : State) (a : Fin 6) (w : Word) : SortReq :=
  ⟨w.toNat / 65536, w.getLsbD 8, s.armNcell a,
    (List.range (min 32 (s.armNcell a))).map (s.sortKey a (s.getF .ARM_BYPASS_BYP a ||| ((s.arms[a]).work[4]).toNat))⟩

theorem State.sortRequest_eq (s : State) (a : Fin 6) (w : Word) :
    s.sortRequest a w = if s.armOn a then s.modArm a (fun x => { x with queued := some (s.sortReq a w) }) else s := rfl

/-- The word `w` written into word `k` of arm `a`, with the sort that it requests. -/
def State.sendArm (s : State) (a : Fin 6) (k : Fin 8) (w : Word) : State :=
  let u := s.modArm a (fun x => { x with work := x.work.set k w })
  if k.val = 7 ∧ w.getLsbD 0 then u.sortRequest a w else u

theorem State.sortRequest_withCe (s : State) (a : Fin 6) (w : Word) (c : Vector Eng 24) :
    (s.withCe c).sortRequest a w = (s.sortRequest a w).withCe c := by
  rw [State.sortRequest_eq, State.sortRequest_eq, show (s.withCe c).armOn a = s.armOn a from rfl]
  cases s.armOn a <;> rfl

theorem State.modArm_withCe (s : State) (a : Fin 6) (f : ArmSt → ArmSt) (c : Vector Eng 24) :
    (s.withCe c).modArm a f = (s.modArm a f).withCe c := rfl

theorem State.sendArm_withCe (s : State) (a : Fin 6) (k : Fin 8) (w : Word) (c : Vector Eng 24) :
    (s.withCe c).sendArm a k w = (s.sendArm a k w).withCe c := by
  unfold State.sendArm
  rw [State.modArm_withCe]
  dsimp only
  split
  · exact State.sortRequest_withCe _ a w c
  · rfl

section
variable {n : Fin 24} {ra rb : BitVec 5} {s : State}

/-- A SEND to a lane is written where the engine owns the lane and has not committed, and else discarded (R129). -/
theorem sendEff_lane {l : Fin 96} {k : Fin 6} (hd : (s.ce[n]).readG ra = BitVec.ofNat 32 (l.val * 256 + k.val)) (t c : Nat) :
    sendEff n ra rb t (s.settled n c) = .done (
      if (s.ce[n]).committed = false ∧ s.laneOk l = true ∧ s.getF .CL_CFG_OWNER l = n.val then
        (s.settled n c).modLane l (fun x => { x with work := x.work.set k ((s.ce[n]).readG rb) })
      else (s.settled n c).dropSend n) none 0 := by
  obtain ⟨hkind, hidx, hword, hclean⟩ :=
    desc_fields (d := (s.ce[n]).readG ra) (kind := 0) (l := l) (k := k) (by simpa using hd) (by decide) (by omega) (by omega)
  have hok : sendOk ((s.ce[n]).readG ra) = true := by
    simp only [sendOk, hkind, hidx, hword, hclean]
    simp
    omega
  have hcom : ((s.ce[n]).settle c).committed = (s.ce[n]).committed := rfl
  unfold sendEff
  simp only [State.settled_ce, Eng.settle_readG, hok, hkind, hidx, hword, hcom, dif_pos (And.intro l.isLt k.isLt), State.settled_laneOk,
    s.settled_getF n c (f := .CL_CFG_OWNER) (by decide), if_true, Bool.not_true, Bool.false_eq_true, if_false]
  cases (s.ce[n]).committed
  · simp only [Bool.and_eq_true, beq_iff_eq, true_and, Bool.false_eq_true, if_false]
    split_ifs <;> rfl
  · rfl

/-- A SEND to an arm likewise. -/
theorem sendEff_arm {l : Fin 6} {k : Fin 8} (hd : (s.ce[n]).readG ra = BitVec.ofNat 32 (2 ^ 28 + l.val * 256 + k.val)) (t c : Nat) :
    sendEff n ra rb t (s.settled n c) = .done (
      if (s.ce[n]).committed = false ∧ s.getF .ARM_CFG_OWNER l = n.val then (s.settled n c).sendArm l k ((s.ce[n]).readG rb)
      else (s.settled n c).dropSend n) none 0 := by
  obtain ⟨hkind, hidx, hword, hclean⟩ :=
    desc_fields (d := (s.ce[n]).readG ra) (kind := 1) (l := l) (k := k) (by simpa using hd) (by decide) (by omega) (by omega)
  have hok : sendOk ((s.ce[n]).readG ra) = true := by
    simp only [sendOk, hkind, hidx, hword, hclean]
    simp
    omega
  have hcom : ((s.ce[n]).settle c).committed = (s.ce[n]).committed := rfl
  unfold sendEff
  simp only [State.settled_ce, Eng.settle_readG, hok, hkind, hidx, hword, hcom, dif_pos (And.intro l.isLt k.isLt),
    s.settled_getF n c (f := .ARM_CFG_OWNER) (by decide), one_ne_zero, Bool.not_true, Bool.false_eq_true, if_false]
  cases (s.ce[n]).committed
  · by_cases hown : s.getF .ARM_CFG_OWNER l = n.val
    · simp only [hown, BEq.rfl, and_self, if_true, Bool.false_eq_true, if_false]
      rfl
    · simp only [hown, beq_iff_eq, and_false, Bool.false_eq_true, if_false]
      rfl
  · rfl

/-- A SEND with a descriptor that is none takes ACCESS with the descriptor (R125). -/
theorem sendEff_bad (hbad : sendOk ((s.ce[n]).readG ra) = false) (t c : Nat) :
    sendEff n ra rb t (s.settled n c) = .exc xAccess ((s.ce[n]).readG ra) := by
  unfold sendEff
  simp only [State.settled_ce, Eng.settle_readG, hbad, Bool.not_false, if_true]

end

section
variable {n : Fin 24} {pr : BitVec 4} {ra rb : BitVec 5} {s : State}

/-- A SEND that an effect discards. -/
theorem Gives.sendDropped (h : ∀ t c, sendEff n ra rb t (s.settled n c) = .done ((s.settled n c).dropSend n) none 0) :
    Gives (.send n pr ra rb) n pr s (fun u t => t.bit .CE_CSTAT_SENDDROP n = true ∧ RegsBut u t [(.CE_CSTAT_SENDDROP, n)] ∧
      t = { u with regs := t.regs, ce := t.ce } ∧ (∀ m : Fin 24, m ≠ n → t.ce[m] = u.ce[m]) ∧
      EngIs n { s.ce[n] with pc := (s.ce[n]).pc + 4#32 } t) := by
  refine (Gives.beside (p := fun u => u.dropSend n) rfl (fun _ _ => rfl) h).imp fun t ⟨hstate, hothers, heng⟩ => ?_
  refine ⟨?_, ?_, ?_, hothers, heng⟩
  · rw [hstate]
    exact congrArg (· == 1) (State.getF_setF_same (s.countFetch n) .CE_CSTAT_SENDDROP n 1)
  · rw [hstate]
    exact (RegsBut.refl (s.countFetch n) _).setF 1 (List.mem_singleton.2 rfl)
  · rw [hstate]
    rfl

end

section
variable (u : State) (l : Fin 6) (k : Fin 8) (w : Word)

/-- A written arm word is in the arm, and only a request of a sort changes what else the arm holds. -/
theorem State.sendArm_cases : u.sendArm l k w =
    u.modArm l (fun x =>
      { x with
        work := x.work.set k w,
        queued := if k.val = 7 ∧ w.getLsbD 0 = true ∧ u.armOn l = true then
            some ((u.modArm l (fun x => { x with work := x.work.set k w })).sortReq l w)
          else x.queued }) := by
  unfold State.sendArm
  dsimp only
  rw [State.sortRequest_eq, show (u.modArm l _).armOn l = u.armOn l from rfl]
  by_cases hreq : k.val = 7 ∧ w.getLsbD 0 = true
  · cases hon : u.armOn l <;> simp [hreq, State.modArm]
  · have hreq' : ¬(k.val = 7 ∧ w.getLsbD 0 = true ∧ u.armOn l = true) := fun h => hreq ⟨h.1, h.2.1⟩
    simp only [if_neg hreq, if_neg hreq']

/-- The sort that a written word requests is the one it names. -/
theorem State.sortReq_spec (u : State) :
    let r := u.sortReq l w
    r.tag = w.toNat / 65536 ∧ r.asc = w.getLsbD 8 ∧ r.ncell = u.armNcell l ∧ r.keys.length = min 32 (u.armNcell l) :=
  ⟨rfl, rfl, rfl, by simp [State.sortReq]⟩

end

/-- The claim of R125 to R129 and R186. -/
theorem sendWritesOwnSlots : Claims.SendWritesOwnSlots := by
  intro n pr ra rb s e d dropped
  refine ⟨fun l k hd => ⟨fun hcom hlane hown => ?_, fun hno => ?_⟩, fun l k hd => ⟨fun hcom hown => ?_, fun hno => ?_⟩, fun hbad => ?_⟩
  · refine (Gives.beside (p := fun u => u.modLane l (fun x => { x with work := x.work.set k (e.readG rb) })) rfl (fun _ _ => rfl)
      fun t c => (sendEff_lane hd t c).trans (by rw [if_pos ⟨hcom, hlane, hown⟩])).imp fun t ⟨hstate, hothers, heng⟩ => ?_
    refine ⟨?_, hothers, heng, fun m hm => ?_, ?_⟩
    · rw [hstate]
      rfl
    · rw [hstate]
      exact Vector.getElem_set_ne l.isLt m.isLt (fun h => hm (Fin.ext h.symm))
    · rw [hstate]
      exact Vector.getElem_set_self _
  · suffices hnot : ¬(e.committed = false ∧ s.laneOk l = true ∧ s.getF .CL_CFG_OWNER l = n.val) from
      .sendDropped fun t c => (sendEff_lane hd t c).trans (by rw [if_neg hnot])
    rintro ⟨hcom, hlane, hown⟩
    rcases hno with h | h | h
    · exact Bool.noConfusion (hcom.symm.trans h)
    · exact Bool.noConfusion (hlane.symm.trans h)
    · exact h hown
  · refine (Gives.beside (p := fun u => u.sendArm l k (e.readG rb)) rfl (fun u c => u.sendArm_withCe l k _ c)
      fun t c => (sendEff_arm hd t c).trans (by rw [if_pos ⟨hcom, hown⟩])).imp fun t ⟨hstate, hothers, heng⟩ => ?_
    have harms := congrArg State.arms hstate
    rw [State.sendArm_cases] at hstate harms
    have harm : t.arms[l] = _ := (congrArg (fun v : Vector ArmSt 6 => v[l]) harms).trans (Vector.getElem_set_self _)
    refine ⟨?_, hothers, heng, fun m hm => ?_, ?_, fun hno => ?_, fun hk hreq hmod harmon => ?_⟩
    · rw [hstate]
      rfl
    · rw [harms]
      exact Vector.getElem_set_ne l.isLt m.isLt (fun h => hm (Fin.ext h.symm))
    · rw [harm]
    · rw [harm]
      refine if_neg fun ⟨hk, hreq, hon⟩ => ?_
      simp only [State.armOn, State.modOn, Bool.and_eq_true, beq_iff_eq] at hon
      obtain ⟨hmod, harmon⟩ := hon
      rcases hno with h | h | h | h
      · exact h hk
      · exact Bool.noConfusion (hreq.symm.trans h)
      · exact h hmod
      · exact h harmon
    · rw [harm]
      have hon : (s.countFetch n).armOn l = true := by
        simp [State.armOn, hmod, harmon, enstOn]
      exact ⟨_, if_pos ⟨hk, hreq, hon⟩, State.sortReq_spec l (e.readG rb) _⟩
  · suffices hnot : ¬(e.committed = false ∧ s.getF .ARM_CFG_OWNER l = n.val) from
      .sendDropped fun t c => (sendEff_arm hd t c).trans (by rw [if_neg hnot])
    rintro ⟨hcom, hown⟩
    rcases hno with h | h
    · exact Bool.noConfusion (hcom.symm.trans h)
    · exact h hown
  · exact fun hp => ⟨_, rfl, issue_exc _ hp (sendEff_bad hbad) (by decide)⟩

/-! RECV. -/

section
variable {n : Fin 24} {pr : BitVec 4} {rd ra : BitVec 5} {s : State}

/-- The descriptors that RECV accepts (R125). -/
theorem recvOk_iff {d : Word} {l : Fin 96} {k : Fin 16} (hd : d = BitVec.ofNat 32 (2 * 2 ^ 28 + l.val * 256 + k.val)) :
    recvOk d = true ↔ k.val ≤ 11 ∨ k.val = 14 ∨ k.val = 15 := by
  obtain ⟨hkind, hidx, hword, hclean⟩ := desc_fields (d := d) (kind := 2) (l := l) (k := k) hd (by decide) (by omega) k.isLt
  simp only [recvOk, hkind, hidx, hword, hclean, BEq.rfl, Bool.true_and, decide_eq_true_eq]
  omega

/-- A RECV with a descriptor that is none takes ACCESS with the descriptor (R125). -/
theorem recvEff_bad (hbad : recvOk ((s.ce[n]).readG ra) = false) (t c : Nat) :
    recvEff n rd ra t (s.settled n c) = .exc xAccess ((s.ce[n]).readG ra) := by
  unfold recvEff
  simp only [State.settled_ce, Eng.settle_readG, hbad, Bool.not_false, if_true]

/-- An accepted RECV reads the receive buffer of a lane that exists, and 0 from one that does not (R130). -/
theorem Gives.recv {l : Fin 96} {k : Fin 16} {v : Word}
    (hd : (s.ce[n]).readG ra = BitVec.ofNat 32 (2 * 2 ^ 28 + l.val * 256 + k.val)) (hok : recvOk ((s.ce[n]).readG ra) = true)
    (hv : (if s.laneOk l then (s.lanes[l]).rx.recv k else 0#32) = v) :
    Gives (.recv n pr rd ra) n pr s (Result n rd (v, {})) := by
  refine .resultOf rfl fun t c => ?_
  obtain ⟨-, hidx, hword, -⟩ := desc_fields (kind := 2) (l := l) (k := k) hd (by decide) (by omega) k.isLt
  have hlane : s.lanes.toList.getD l {} = s.lanes[l] := by
    rw [List.getD_eq_getElem _ _ (by simp)]
    exact Vector.getElem_toList _
  unfold recvEff
  simp only [State.settled_ce, Eng.settle_readG, hok, hidx, hword, State.settled_laneOk, State.settled_lanes, hlane, hv, Bool.not_true,
    Bool.false_eq_true, if_false]

end

/-- What a receive buffer that is VALID answers below RSTAT (R130). -/
theorem RxBuf.recv_valid {b : RxBuf} {k : Nat} (hk : k ≠ 15) (hb : b.state = 1) :
    b.recv k = if k = 14 then b.tfret else b.tw.toList.getD k 0#32 := by
  rw [RxBuf.recv, if_neg hk, if_neg (not_not.2 hb)]

/-- The claim of R130. -/
theorem recvReadsTheReceiveBuffer : Claims.RecvReadsTheReceiveBuffer := by
  intro n pr rd ra s d
  refine ⟨fun l k hd => ⟨fun hlane hok => .recv hd hok (if_neg (by simp [hlane])),
    fun hlane => ⟨fun hk => ?_, fun hok hk hst => ?_, fun hst => ⟨fun hk => ?_, fun hk => ?_⟩⟩⟩,
    fun hbad hp => ⟨_, rfl, issue_exc _ hp (recvEff_bad hbad) (by decide)⟩⟩
  · exact .recv hd ((recvOk_iff hd).2 (.inr (.inr hk))) ((if_pos hlane).trans (if_pos hk))
  · exact .recv hd hok ((if_pos hlane).trans ((if_neg hk).trans (if_pos hst)))
  · exact .recv hd ((recvOk_iff hd).2 (.inr (.inl hk)))
      ((if_pos hlane).trans ((RxBuf.recv_valid (by omega) hst).trans (if_pos hk)))
  · refine .recv hd ((recvOk_iff hd).2 (.inl (by omega)))
      ((if_pos hlane).trans ((RxBuf.recv_valid (by omega) hst).trans ((if_neg (by omega)).trans ?_)))
    rw [List.getD_eq_getElem _ _ (by simpa using hk)]
    exact Vector.getElem_toList _

/-- Settles O39: a descriptor's fields tell the word that SEND writes or RECV reads, and the effect acts beside the engines. -/
theorem sendAndReceive : Obligations.SendAndReceive := ⟨sendWritesOwnSlots, recvReadsTheReceiveBuffer⟩

end Sys2Proof.Machine
end

section
/-! SUPPORT. The deadline and the offsets as an instruction of the engine finds them (R132 to R134). -/
namespace Sys2Proof.Machine

/-- State `t` shows engine `n` the same fret time as `s`. -/
structure TimeSame (n : Fin 24) (s t : State) : Prop where
  frame : EngineFrame s t
  fields : ∀ f : Fld, f ≠ .CE_XCNT_ECCCOR → ∀ i, t.getF f i = s.getF f i
  sfret : (t.ce[n]).sfret = (s.ce[n]).sfret
  deadline : (t.ce[n]).deadline = (s.ce[n]).deadline

theorem State.countFetch_time (s : State) (n : Fin 24) : TimeSame n s (s.countFetch n) where
  frame := by
    rw [State.countFetch_frame]
    rfl
  fields _ hf i := s.getF_countFetch_ne n hf i
  sfret := by rw [State.countFetch_ce]
  deadline := by rw [State.countFetch_ce]

theorem State.settled_time (s : State) (n : Fin 24) (c : Nat) : TimeSame n s (s.settled n c) where
  frame := s.settled_frame n c
  fields _ hf i := s.settled_getF n c hf i
  sfret := by
    rw [State.settled_ce]
    rfl
  deadline := by
    rw [State.settled_ce]
    rfl

namespace TimeSame
variable {n : Fin 24} {s t : State} (h : TimeSame n s t)
include h

theorem atu : t.atu = s.atu := by rw [h.frame]

theorem angle : t.angle = s.angle := by rw [State.angle, h.atu, State.angle]

theorem fretAu : t.fretAu = s.fretAu := by rw [State.fretAu, State.fpc, h.fields _ (by simp), State.fretAu, State.fpc]

theorem inFret : t.inFret = s.inFret := by rw [State.inFret, h.angle, h.fretAu, State.inFret]

theorem unitAu : t.unitAu = s.unitAu := by rw [State.unitAu, h.fretAu, State.unitAu]

theorem offReached (o : Nat) : t.offReached o = s.offReached o := by rw [State.offReached, h.unitAu, h.inFret, State.offReached]

theorem dlPassed : t.dlPassed n = s.dlPassed n := by
  rw [State.dlPassed, State.fretnum, h.fields _ (by simp), h.sfret, h.deadline, h.offReached, State.dlPassed, State.fretnum]

theorem cyclesLeft : t.cyclesLeft n = s.cyclesLeft n := by
  rw [State.cyclesLeft, State.sDl, h.dlPassed, h.deadline, h.unitAu, h.inFret, h.fields _ (by simp), State.cyclesLeft, State.sDl]

theorem atuRuns : t.atuRuns = s.atuRuns := by
  have hrun : t.fabRuns = s.fabRuns := by
    rw [State.fabRuns, State.awake, h.fields _ (by simp), State.pll0Runs, show t.gated = s.gated by rw [h.frame], State.fabRuns,
      State.awake, State.pll0Runs]
  rw [State.atuRuns, State.atuOn, h.fields _ (by simp), hrun, State.atuRuns, State.atuOn]

theorem dlReaches : t.dlReaches n = s.dlReaches n := by
  rw [State.dlReaches, h.dlPassed, h.atuRuns, State.fic, h.angle, h.fretAu, h.deadline, h.unitAu, State.accFull, h.atu,
    h.fields _ (by simp), State.dlReaches, State.fic, State.accFull]

end TimeSame

end Sys2Proof.Machine
end

section
/-! WAITF and the deadline queries (R132, R133). -/
namespace Sys2Proof.Machine

/-! WAITF. -/

section
variable {n : Fin 24} {pr : BitVec 4} {pd : BitVec 3} {off : BitVec 16} {s : State}

theorem waitf_pd_ne (h : (Instr.waitf n pr pd off).legal = true) : pd ≠ 0#3 := by
  simp only [Instr.legal, Bool.and_eq_true, bne_iff_ne] at h
  exact h.2

/-- WAITF decides by the deadline and the offset of the state that it issues in. -/
theorem waitfEff_settled (t c : Nat) : waitfEff n pd off t (s.settled n c) =
    if s.dlPassed n then .done ((s.settled n c).modCe n (fun e => e.writeP pd false)) none 0
    else if s.offReached off.toNat then .done ((s.settled n c).modCe n (fun e => e.writeP pd true)) none 0
    else .done ((s.settled n c).modCe n (fun e => { e with waitf := some (pd, off) })) none 0 := by
  rw [waitfEff, (s.settled_time n c).dlPassed, (s.settled_time n c).offReached]

/-- What the wake of a WAITF does in the state `t` in which the angle has been brought to the offset or the deadline. -/
def State.woken (t : State) (n : Fin 24) (pd : BitVec 3) : State :=
  t.modCe n (fun e => { e.writeP pd (!t.dlPassed n) with waitf := none, tm := { e.tm with next := max e.tm.next (t.wakeCycle n) } })

theorem exec_waitfWake (hw : (s.ce[n]).waitf = some (pd, off)) (hrun : s.running n = true) (hhalt : s.halted n = false)
    (hatu : s.atuRuns = true) : exec (.waitfWake n) s =
      .next (if s.dlPassed n || s.offReached off.toNat then s.woken n pd
        else (s.raiseAngle (min off.toNat (s.ce[n]).deadline)).woken n pd) := by
  refine (show exec (.waitfWake n) s = execWaitfWake n s from rfl).trans ?_
  unfold execWaitfWake
  simp only [hw, hrun, hhalt, hatu, Bool.not_false, Bool.and_self, if_true]
  split <;> rfl

/-- The wake changes its engine alone: pd is 1 where the deadline has not been reached. -/
theorem State.woken_spec (t : State) (n : Fin 24) (hpd : pd ≠ 0#3) : let v := t.woken n pd
    OnlyEngine n t v ∧ (v.ce[n]).waitf = none ∧ PredIs n pd (!t.dlPassed n) t v ∧ SameG n t v ∧ SameA n t v ∧
      (v.ce[n]).pc = (t.ce[n]).pc := by
  intro v
  have hv : v.ce[n] = _ := t.modCe_same n _
  rw [Eng.writeP_eq] at hv
  refine ⟨.of_modCe _ _ _, ?_, fun x => ?_, fun x => ?_, ?_, ?_⟩
  · rw [hv]
  · rw [hv]
    refine (Eng.readP_writeP _ _ _ _).trans ?_
    simp only [hpd, ne_eq, not_false_eq_true, and_true]
  · rw [hv]
    rfl
  · rw [SameA, hv]
  · rw [hv]

/-- Raising the angle changes the angle and the time counters alone. -/
theorem State.raiseAngle_frame (s : State) (o : Nat) : s.raiseAngle o =
    { s with tick := (s.raiseAngle o).tick, carrier := (s.raiseAngle o).carrier, clock := (s.raiseAngle o).clock,
             atu := (s.raiseAngle o).atu } := by
  unfold State.raiseAngle
  split <;> rfl

end

theorem dlck_pd_ne {n : Fin 24} {pr : BitVec 4} {pd : BitVec 3} {ra : BitVec 5} (h : (Instr.dlck n pr pd ra).legal = true) : pd ≠ 0#3 := by
  simp only [Instr.legal, Bool.and_eq_true, bne_iff_ne] at h
  exact h.2

/-- The claim of R132 and R133. -/
theorem waitAndDeadlineQueries : Claims.WaitAndDeadlineQueries := by
  intro n pr pd off rd ra s e
  refine ⟨fun hdl => ?_, fun hdl hoff => ?_, fun hdl hoff => ?_, fun hw hpd hrun hhalt hatu => ?_, ?_, ?_⟩
  · exact .predOf rfl waitf_pd_ne fun t c => (waitfEff_settled t c).trans (if_pos hdl)
  · exact .predOf rfl waitf_pd_ne fun t c => (waitfEff_settled t c).trans ((if_neg (by simp [hdl])).trans (if_pos hoff))
  · refine (Gives.acted (u := s.countFetch n) (f := fun e => { e with waitf := some (pd, off) }) (block := 0) rfl fun t c =>
      (waitfEff_settled t c).trans ((if_neg (by simp [hdl])).trans (if_neg (by simp [hoff])))).imp fun t h => ⟨⟨h.state, fun m hm => ?_⟩, ?_⟩
    · rw [h.others m hm]
    · have heng := h.engIs fun c => rfl
      rw [State.countFetch_ce] at heng
      exact heng
  · have hexec := exec_waitfWake hw hrun hhalt hatu
    refine ⟨fun hdl => ?_, fun hdl hoff => ?_, fun hdl hoff => ?_⟩
    · rw [if_pos (by simp [hdl])] at hexec
      have hspec := s.woken_spec n hpd
      rw [hdl] at hspec
      exact ⟨_, hexec, hspec⟩
    · rw [if_pos (by simp [hoff])] at hexec
      have hspec := s.woken_spec n hpd
      rw [hdl] at hspec
      exact ⟨_, hexec, hspec⟩
    · rw [if_neg (by simp [hdl, hoff])] at hexec
      have hframe := s.raiseAngle_frame (min off.toNat e.deadline)
      have hframe := s.raiseAngle_frame (min off.toNat (s.ce[n]).deadline)
      generalize s.raiseAngle (min off.toNat (s.ce[n]).deadline) = u at hexec hframe
      obtain ⟨tick, carrier, clock, atu, rfl⟩ : ∃ tick carrier clock atu,
        u = { s with tick := tick, carrier := carrier, clock := clock, atu := atu } := ⟨_, _, _, _, hframe⟩
      obtain ⟨⟨-, hothers⟩, hwait, hpred, hg, ha, hpc⟩ := State.woken_spec _ n hpd
      refine ⟨_, hexec, hwait, ?_, hg, ha, hpc, rfl, hothers⟩
      generalize State.dlPassed _ n = passed at hpred
      cases passed
      · exact .inl hpred
      · exact .inr hpred
  · refine .resultOf rfl fun t c => ?_
    rw [(s.settled_time n c).cyclesLeft]
    rfl
  · refine .predOf rfl dlck_pd_ne fun t c => ?_
    rw [(s.settled_time n c).cyclesLeft]
    exact congrArg (fun u => Res.done u none 0) (State.modCe_congr (by rw [State.settled_ce]; rfl))

end Sys2Proof.Machine
end

section
/-! SUPPORT. The end of a task that an instruction asks for (R114). -/
namespace Sys2Proof.Machine

/-! What the end of a task gives. -/

section
variable (s : State) (n : Fin 24) (cyc : Nat)

/-- The engine after the end of its task, but for its images. -/
theorem State.endTask_engine : let e := (s.endTask n cyc).ce[n]
    e.waitf = none ∧ e.endDue = 0 ∧ e.committed = (s.ce[n]).committed ∧ e.pc = (s.ce[n]).pc := by
  have h : (s.endTask n cyc).ce[n] = _ := (s.taskEnded n cyc).actOffDone_keeps n
  rw [State.taskEnded_ce] at h
  rw [h]
  exact ⟨rfl, rfl, rfl, rfl⟩

/-- What the end of a task leaves in the fields it writes (R114). -/
theorem State.taskEnded_fields : let len := cyc - (s.ce[n]).tm.first.getD cyc
    let t := s.taskEnded n cyc
    t.getF .CE_LASTCYC_LAST n = len % 2 ^ 32 ∧ t.getF .CE_MAXCYC_MAX n = max (s.getF .CE_MAXCYC_MAX n) (len % 2 ^ 32) % 2 ^ 32 ∧
    t.bit .CE_CSTAT_NOCOMMIT n = (s.bit .CE_CSTAT_NOCOMMIT n || !(s.ce[n]).committed) := by
  have hlast : Fld.CE_LASTCYC_LAST.width = 32 := rfl
  have hmax : Fld.CE_MAXCYC_MAX.width = 32 := rfl
  have hno : Fld.CE_CSTAT_NOCOMMIT.width = 1 := rfl
  refine ⟨?_, ?_, ?_⟩
  · simp [State.taskEnded, State.setBit, State.getF_setWhen_ne, State.getF_setF_ne, hlast]
  · simp [State.taskEnded, State.setBit, State.getF_setWhen_ne, hmax]
  · simp only [State.taskEnded]
    generalize (s.ce[n]).committed = committed
    cases committed <;>
      simp [State.setBit, State.bit, State.getF_setWhen_same, State.getF_setWhen_ne, State.getF_setF_ne, hno]

theorem State.endTask_ended : Ended n (cyc - (s.ce[n]).tm.first.getD cyc) (s.ce[n]).committed s (s.endTask n cyc) := by
  have hkeep {f : Fld} (hf : f ∉ swapNames) : (s.endTask n cyc).getF f n = (s.taskEnded n cyc).getF f n := State.getF_actOffDone _ hf n
  obtain ⟨hlast, hmax, hno⟩ := s.taskEnded_fields n cyc
  obtain ⟨hwait, hdue, -, -⟩ := s.endTask_engine n cyc
  refine ⟨s.endTask_running n cyc, ?_, ?_, ?_, ?_, hwait, hdue⟩
  · rw [hkeep (by simp [swapNames]), hlast]
  · rw [hkeep (by simp [swapNames]), hmax]
  · rw [State.bit, hkeep (by simp [swapNames])]
    exact hno
  · rw [hkeep (by simp [swapNames]), State.taskEnded_enst]

end

section
variable {n : Fin 24} {s t : State}

/-- The end of a task leaves the lanes and the arms. -/
theorem EngineEnds.slots {swap : Bool} {l : List (Fld × Nat)} (h : EngineEnds n swap l s t) : t.lanes = s.lanes ∧ t.arms = s.arms := by
  cases swap with
  | false =>
    obtain ⟨hframe, -, -⟩ := h.1 rfl
    rw [hframe]
    exact ⟨rfl, rfl⟩
  | true =>
    obtain ⟨hframe, -, -⟩ := h.2 rfl
    rw [hframe]
    exact ⟨rfl, rfl⟩

theorem BankSame.modCe {f : Eng → Eng} (hf : (f t.ce[n]).SameImages t.ce[n]) (m : Fin 24) : BankSame m t (t.modCe n f) := by
  refine ⟨rfl, ?_⟩
  by_cases hm : m = n
  · subst hm
    rw [State.modCe_same]
    exact hf
  · rw [State.modCe_ne _ _ _ _ hm]
    exact ⟨rfl, rfl, rfl, rfl⟩

/-- An update of the engine that leaves no WAITF and no end due leaves what the end of its task gives. -/
theorem Ended.modCe {cyc : Nat} {com : Bool} (h : Ended n cyc com s t) {f : Eng → Eng}
    (hf : (f t.ce[n]).waitf = (t.ce[n]).waitf ∧ (f t.ce[n]).endDue = (t.ce[n]).endDue) : Ended n cyc com s (t.modCe n f) := by
  obtain ⟨hrun, hlast, hmax, hno, henst, hwait, hdue⟩ := h
  obtain ⟨hfw, hfd⟩ := hf
  refine ⟨hrun, hlast, hmax, hno, henst, ?_, ?_⟩
  · rw [State.modCe_same, hfw, hwait]
  · rw [State.modCe_same, hfd, hdue]

/-- The end of a task is told as well from a state with the same task fields. -/
theorem Ended.told_from {u : State} {cyc : Nat} {com : Bool} (h : Ended n cyc com s t)
    (hsame : ∀ {f : Fld}, f ∈ taskNames → s.getF f n = u.getF f n) : Ended n cyc com u t := by
  obtain ⟨hrun, hlast, hmax, hno, henst, hwait, hdue⟩ := h
  rw [hsame (by simp [taskNames])] at hmax henst
  rw [State.bit, State.bit, hsame (by simp [taskNames])] at hno
  exact ⟨hrun, hlast, hmax, hno, henst, hwait, hdue⟩

/-- An update of the engine that leaves its images leaves what the end of its work gives. -/
theorem EngineEnds.modCe {swap : Bool} {l : List (Fld × Nat)} (h : EngineEnds n swap l s t) {f : Eng → Eng}
    (hf : (f t.ce[n]).SameImages t.ce[n]) : EngineEnds n swap l s (t.modCe n f) := by
  obtain ⟨still, swaps⟩ := h
  refine ⟨fun hs => ?_, fun hs => ?_⟩
  · obtain ⟨hframe, hregs, hothers⟩ := still hs
    exact ⟨congrArg (fun u : State => u.modCe n f) hframe, hregs, fun m hm => (State.modCe_ne t n m f hm).trans (hothers m hm)⟩
  · obtain ⟨hframe, hregs, ⟨hpend, hgo, hdone, hbanks⟩, hothers⟩ := swaps hs
    refine ⟨congrArg (fun u : State => u.modCe n f) hframe, hregs, ⟨hpend, hgo, hdone, fun m hm => ?_⟩, fun m hm =>
      (hothers m hm).trans (.of_eq (State.modCe_ne t n m f hm))⟩
    exact BankToggled.then_same (hbanks m hm) (BankSame.modCe hf m)

end

end Sys2Proof.Machine
end

section
/-! COMMIT, COMMIT.E and ENDT (R114, R128, R134, R145). -/
namespace Sys2Proof.Machine

/-! The engine moves on after its task has ended, or without an end. -/

theorem Eng.movedOn_images (e : Eng) (pc : Word) (k : Nat) (tm : Timing) : (e.movedOn pc k tm).SameImages e := ⟨rfl, rfl, rfl, rfl⟩

theorem Eng.movedOn_waits (e : Eng) (pc : Word) (k : Nat) (tm : Timing) :
    (e.movedOn pc k tm).waitf = e.waitf ∧ (e.movedOn pc k tm).endDue = e.endDue := ⟨rfl, rfl⟩

/-- State `t` is `x` after engine `n` has moved on to `pc`, and its task may have ended. -/
structure MovesOn (n : Fin 24) (pc : Word) (x t : State) : Prop where
  lanes : t.lanes = x.lanes
  arms : t.arms = x.arms
  again : t.bit .CE_CSTAT_AGAIN n = x.bit .CE_CSTAT_AGAIN n
  late : t.bit .CE_CSTAT_LATE n = x.bit .CE_CSTAT_LATE n
  committed : (t.ce[n]).committed = (x.ce[n]).committed
  g : (t.ce[n]).g = (x.ce[n]).g
  p : (t.ce[n]).p = (x.ce[n]).p
  acc : (t.ce[n]).acc = (x.ce[n]).acc
  flags : (t.ce[n]).allFlags = (x.ce[n]).allFlags
  pc : (t.ce[n]).pc = pc

section
variable (x : State) (n : Fin 24) (pc : Word) (k : Nat) (tm : Timing → Timing) (cyc : Nat)

theorem State.movedOn_movesOn : MovesOn n pc x (x.modCe n (fun e => e.movedOn pc k (tm e.tm))) := by
  have hengine := x.modCe_same n (fun e => e.movedOn pc k (tm e.tm))
  refine ⟨rfl, rfl, rfl, rfl, ?_, ?_, ?_, ?_, ?_, ?_⟩
  · rw [hengine, Eng.movedOn]
    rfl
  · rw [hengine, Eng.movedOn]
    rfl
  · rw [hengine, Eng.movedOn]
    rfl
  · rw [hengine, Eng.movedOn]
    rfl
  · rw [hengine]
    exact Eng.dueFlags_allFlags x.ce[n] k
  · rw [hengine, Eng.movedOn]

theorem State.endTask_movesOn : MovesOn n pc x ((x.endTask n cyc).modCe n (fun e => e.movedOn pc k (tm e.tm))) := by
  obtain ⟨hlanes, harms⟩ := ((EngineAlone.refl n [] x).endTask (by simp) ⟨rfl, rfl, rfl, rfl⟩ cyc).slots
  obtain ⟨hg, hp, hacc, -, hflags⟩ := x.endTask_registers n cyc
  obtain ⟨-, -, hcommitted, -⟩ := x.endTask_engine n cyc
  have hmove := (x.endTask n cyc).movedOn_movesOn n pc k tm
  have hkeep {f : Fld} (hf : f ∉ taskNames ++ swapNames) : (x.endTask n cyc).bit f n = x.bit f n := by
    rw [State.bit, State.getF_endTask _ _ _ hf, State.bit]
  exact { lanes := hmove.lanes.trans hlanes, arms := hmove.arms.trans harms, again := hmove.again.trans (hkeep (by simp [taskNames, swapNames])),
          late := hmove.late.trans (hkeep (by simp [taskNames, swapNames])), committed := hmove.committed.trans hcommitted, g := hmove.g.trans hg,
          p := hmove.p.trans hp, acc := hmove.acc.trans hacc, flags := hmove.flags.trans hflags, pc := hmove.pc }

end

/-- The end of the task of an engine that has been updated, with fields written that neither the end of a task nor an activation writes. -/
theorem EngineAlone.taskEnds {n : Fin 24} {l : List (Fld × Nat)} {s x : State} (h : EngineAlone n l s x)
    (hl : ∀ e ∈ l, e.1 ∉ taskNames ++ actNames) (hp : (x.ce[n]).SameImages s.ce[n]) {first : Option Nat}
    (hfirst : (x.ce[n]).tm.first = first) {com : Bool} (hcom : (x.ce[n]).committed = com) (cyc : Nat) (pc : Word) (k : Nat)
    (tm : Timing → Timing) :
    let t := (x.endTask n cyc).modCe n (fun e => e.movedOn pc k (tm e.tm))
    Ended n (cyc - first.getD cyc) com s t ∧ EndsTask n (l ++ taskFields n) s t := by
  intro t
  have hsame {f : Fld} (hf : f ∈ taskNames) : x.getF f n = s.getF f n :=
    h.regs.getF_eq (fun e he hef => hl e he (List.mem_append_left _ (hef ▸ hf))) n
  refine ⟨?_, ?_⟩
  · have hended := x.endTask_ended n cyc
    rw [hfirst, hcom] at hended
    exact Ended.modCe (Ended.told_from hended hsame) (Eng.movedOn_waits _ pc k _)
  · refine (h.endTask (fun e he hm => hl e he ?_) hp cyc).modCe (Eng.movedOn_images _ pc k _)
    rcases List.mem_cons.1 hm with hm | hm
    · exact List.mem_append_left _ (by rw [hm]; simp [taskNames])
    · exact List.mem_append_right _ hm

/-! COMMIT. -/

section
variable (s : State) (n : Fin 24)

/-- The release of a lane (R128). -/
theorem State.releaseAll_lanes (l : Fin 96) : (s.releaseAll n).lanes[l] =
    if s.laneOk l = true ∧ s.getF .CL_CFG_OWNER l = n.val then
      { s.lanes[l] with launch := (s.lanes[l]).work, released := some (s.ce[n]).sfret }
    else s.lanes[l] := by
  simp only [State.releaseAll, Fin.getElem_fin, Vector.getElem_mapFinIdx, Bool.and_eq_true, beq_iff_eq]

/-- The release of an arm (R128). -/
theorem State.releaseAll_arms (a : Fin 6) : (s.releaseAll n).arms[a] =
    if s.getF .ARM_CFG_OWNER a = n.val then
      { s.arms[a] with launch := (s.arms[a]).work, released := some (s.ce[n]).sfret }
    else s.arms[a] := by
  simp only [State.releaseAll, Fin.getElem_fin, Vector.getElem_mapFinIdx, beq_iff_eq]

/-- The three answers of a COMMIT, told from the state before it issues (R134). -/
theorem State.commitOp_settled (c : Nat) : (s.settled n c).commitOp n =
    if (s.ce[n]).committed then ((s.settled n c).setF .CE_CSTAT_AGAIN n 1, 2#32)
    else if s.dlReaches n then ((s.settled n c).setF .CE_CSTAT_LATE n 1, 1#32)
    else (((s.settled n c).releaseAll n).modCe n (fun e => { e with committed := true }), 0#32) := by
  rw [State.commitOp, (s.settled_time n c).dlReaches, State.settled_ce]
  rfl

/-- The code of a COMMIT (R134). -/
def State.commitCode : Word := if (s.ce[n]).committed = true then 2#32 else if s.dlReaches n = true then 1#32 else 0#32

/-- The fields that a COMMIT may write. -/
def commitFields (n : Fin 24) : List (Fld × Nat) := [(.CE_CSTAT_AGAIN, n), (.CE_CSTAT_LATE, n)]

end

/-- State `x` is `s` after engine `n` has decided a COMMIT in cycle `c`, before it writes the code (R134). -/
structure Commits (n : Fin 24) (c : Nat) (s x : State) : Prop where
  engine : x.ce[n] = { (s.ce[n]).settle c with committed := (s.ce[n]).committed || !s.dlReaches n }
  alone : EngineAlone n (commitFields n) { s.settled n c with lanes := x.lanes, arms := x.arms } x
  accepted : (s.ce[n]).committed = false → s.dlReaches n = false →
    x.lanes = ((s.settled n c).releaseAll n).lanes ∧ x.arms = ((s.settled n c).releaseAll n).arms
  refused : ¬((s.ce[n]).committed = false ∧ s.dlReaches n = false) → x.lanes = s.lanes ∧ x.arms = s.arms
  again : x.bit .CE_CSTAT_AGAIN n = (s.bit .CE_CSTAT_AGAIN n || (s.ce[n]).committed)
  late : x.bit .CE_CSTAT_LATE n = (s.bit .CE_CSTAT_LATE n || (!(s.ce[n]).committed && s.dlReaches n))

section
variable {s : State} {n : Fin 24} (c : Nat)

/-- A COMMIT that is refused leaves whether one has been accepted. -/
theorem State.commit_or_refused (hno : ¬((s.ce[n]).committed = false ∧ s.dlReaches n = false)) :
    ((s.ce[n]).committed || !s.dlReaches n) = (s.ce[n]).committed := by
  cases hc : (s.ce[n]).committed
  · rw [Bool.false_or, Bool.not_eq_false']
    exact eq_true_of_ne_false fun hd => hno ⟨hc, hd⟩
  · rfl

/-- A COMMIT that is refused changes no more than the field that records it. -/
theorem Commits.of_refused {f : Fld} (hf : (f, n.val) ∈ commitFields n) (hno : ¬((s.ce[n]).committed = false ∧ s.dlReaches n = false))
    (hagain : ((s.settled n c).setF f n 1).bit .CE_CSTAT_AGAIN n = (s.bit .CE_CSTAT_AGAIN n || (s.ce[n]).committed))
    (hlate : ((s.settled n c).setF f n 1).bit .CE_CSTAT_LATE n =
      (s.bit .CE_CSTAT_LATE n || (!(s.ce[n]).committed && s.dlReaches n))) :
    Commits n c s ((s.settled n c).setF f n 1) where
  engine := by
    rw [State.commit_or_refused hno]
    exact s.settled_ce n c
  alone := (EngineAlone.refl n _ (s.settled n c)).setF 1 hf
  accepted hcom hdl := absurd ⟨hcom, hdl⟩ hno
  refused _ := by
    rw [show (s.settled n c).setF f n 1 = { s with regs := _, ce := _ } from
      (s.settled_frame n c).trans (show EngineFrame (s.settled n c) ((s.settled n c).setF f n 1) from rfl)]
    exact ⟨rfl, rfl⟩
  again := hagain
  late := hlate

theorem State.settled_bit (s : State) (n : Fin 24) (c : Nat) {f : Fld} (hf : f ≠ .CE_XCNT_ECCCOR) (i : Nat) :
    (s.settled n c).bit f i = s.bit f i := by
  rw [State.bit, s.settled_getF n c hf, State.bit]

/-- A COMMIT that is accepted releases, and records it. -/
theorem Commits.of_accepted (hcom : (s.ce[n]).committed = false) (hdl : s.dlReaches n = false) :
    Commits n c s (((s.settled n c).releaseAll n).modCe n (fun e => { e with committed := true })) where
  engine := by
    rw [State.modCe_same, show ((s.settled n c).releaseAll n).ce[n] = _ from s.settled_ce n c, hcom, hdl]
    rfl
  alone := (EngineAlone.refl n _ ((s.settled n c).releaseAll n)).modCe _
  accepted _ _ := ⟨rfl, rfl⟩
  refused hno := absurd ⟨hcom, hdl⟩ hno
  again := (s.settled_bit n c (by simp) n).trans (by rw [hcom, Bool.or_false])
  late := (s.settled_bit n c (by simp) n).trans (by rw [hdl, Bool.and_false, Bool.or_false])

/-- A COMMIT does what its code says (R134). -/
theorem State.commitOp_commits : Commits n c s ((s.settled n c).commitOp n).1 ∧ ((s.settled n c).commitOp n).2 = s.commitCode n := by
  have hset {f : Fld} (hw : f.width = 1) : ((s.settled n c).setF f n 1).bit f n = true := by simp [State.bit, hw]
  have hne {f g : Fld} (hf : f ≠ .CE_XCNT_ECCCOR) (h : f ≠ g) : ((s.settled n c).setF g n 1).bit f n = s.bit f n := by
    rw [← s.settled_bit n c hf, State.bit, State.getF_setF_ne _ _ _ _ h, State.bit]
  rw [State.commitOp_settled, State.commitCode]
  cases hcom : (s.ce[n]).committed
  · cases hdl : s.dlReaches n
    · exact ⟨.of_accepted c hcom hdl, rfl⟩
    · refine ⟨.of_refused c (f := .CE_CSTAT_LATE) (by simp [commitFields]) (by simp [hdl]) ?_ ?_, rfl⟩
      · rw [hne (by simp) (by simp), hcom, Bool.or_false]
      · rw [hset rfl, hcom, hdl]
        simp
  · refine ⟨.of_refused c (f := .CE_CSTAT_AGAIN) (by simp [commitFields]) (fun h => Bool.noConfusion (hcom.symm.trans h.1)) ?_ ?_, rfl⟩
    · rw [hset rfl, hcom, Bool.or_true]
    · rw [hne (by simp) (by simp), hcom]
      simp

/-- The state that a COMMIT leaves, before its engine moves on. -/
def State.committing (s : State) (n : Fin 24) (rd : BitVec 5) : State :=
  (s.commitOp n).1.modCe n (fun e => e.writeG rd (s.commitOp n).2)

/-- The engine that a COMMIT leaves. -/
theorem State.committing_ce (rd : BitVec 5) : ((s.settled n c).committing n rd).ce[n] =
    ({ (s.ce[n]).settle c with committed := (s.ce[n]).committed || !s.dlReaches n } : Eng).writeG rd (s.commitCode n) := by
  obtain ⟨hop, hcode⟩ := State.commitOp_commits (s := s) (n := n) c
  rw [State.committing, State.modCe_same, hop.engine, hcode]

theorem State.commitCode_accepted : (s.commitCode n == 0#32) = (!(s.ce[n]).committed && !s.dlReaches n) := by
  rw [State.commitCode]
  cases (s.ce[n]).committed
  · cases s.dlReaches n <;> rfl
  · rfl

/-- An accepted COMMIT of a DRAINING engine ends its task (R145). -/
theorem commitEff_settled (rd : BitVec 5) : commitEff n rd c (s.settled n c) =
    .done (if (!(s.ce[n]).committed && !s.dlReaches n) && s.getF .CE_STAT_ENST n == 2 then
      ((s.settled n c).committing n rd).endTask n c else (s.settled n c).committing n rd) none 0 := by
  obtain ⟨-, hcode⟩ := State.commitOp_commits (s := s) (n := n) c
  rw [commitEff, hcode, State.commitCode_accepted, s.settled_getF n c (by simp), ← hcode]
  rfl

end

theorem Eng.writeG_keeps (e : Eng) (r : BitVec 5) (w : Word) : (e.writeG r w).p = e.p ∧ (e.writeG r w).acc = e.acc ∧
    (e.writeG r w).allFlags = e.allFlags ∧ (e.writeG r w).committed = e.committed ∧ (e.writeG r w).tm = e.tm ∧
    (e.writeG r w).SameImages e := by
  rw [Eng.writeG_eq]
  exact ⟨rfl, rfl, rfl, rfl, rfl, rfl, rfl, rfl, rfl⟩

theorem Eng.readG_congr {e e' : Eng} (h : e.g = e'.g) (r : BitVec 5) : e.readG r = e'.readG r := by rw [Eng.readG, h, Eng.readG]

/-- A COMMIT changes its engine, what it releases and the fields that record a refusal. -/
theorem State.committing_alone (s : State) (n : Fin 24) (rd : BitVec 5) (c : Nat) : let x := (s.settled n c).committing n rd
    EngineAlone n (commitFields n) { s.countFetch n with lanes := x.lanes, arms := x.arms } x := by
  intro x
  obtain ⟨hop, -⟩ := State.commitOp_commits (s := s) (n := n) c
  exact (((EngineAlone.refl n _ { s.countFetch n with lanes := x.lanes, arms := x.arms }).modCe (fun e => e.settle c)).trans hop.alone).modCe _

section
variable {n : Fin 24} {rd : BitVec 5} {s t : State} {c : Nat} {pc : Word} (h : MovesOn n pc ((s.settled n c).committing n rd) t)
include h

/-- What a COMMIT leaves of its engine: the code in `rd`, and whether a COMMIT has been accepted. -/
theorem MovesOn.commit_engine : (t.ce[n]).committed = ((s.ce[n]).committed || !s.dlReaches n) ∧ GprIs n rd (s.commitCode n) s t ∧
    SameP n s t ∧ SameA n s t ∧ (t.ce[n]).allFlags = (s.ce[n]).allFlags := by
  have hx := State.committing_ce (s := s) (n := n) c rd
  obtain ⟨hp, hacc, hflags, hcommitted, -⟩ := Eng.writeG_keeps
    { (s.ce[n]).settle c with committed := (s.ce[n]).committed || !s.dlReaches n } rd (s.commitCode n)
  rw [← hx] at hp hacc hflags hcommitted
  refine ⟨h.committed.trans hcommitted, fun x => ?_, h.p.trans hp, h.acc.trans hacc,
    (h.flags.trans hflags).trans (Eng.settle_allFlags s.ce[n] c)⟩
  rw [Eng.readG_congr h.g, hx]
  exact Eng.readG_writeG _ _ _ _

/-- The fields in which a COMMIT records its refusal. -/
theorem MovesOn.commit_bits : t.bit .CE_CSTAT_AGAIN n = (s.bit .CE_CSTAT_AGAIN n || (s.ce[n]).committed) ∧
    t.bit .CE_CSTAT_LATE n = (s.bit .CE_CSTAT_LATE n || (!(s.ce[n]).committed && s.dlReaches n)) := by
  obtain ⟨hop, -⟩ := State.commitOp_commits (s := s) (n := n) c
  exact ⟨h.again.trans hop.again, h.late.trans hop.late⟩

/-- What an accepted COMMIT releases (R128). -/
theorem MovesOn.commit_released (hcom : (s.ce[n]).committed = false) (hdl : s.dlReaches n = false) : let u := s.countFetch n
    (∀ l : Fin 96, t.lanes[l] = if u.laneOk l = true ∧ u.getF .CL_CFG_OWNER l = n.val then
      { u.lanes[l] with launch := (u.lanes[l]).work, released := some (s.ce[n]).sfret } else u.lanes[l]) ∧
    (∀ a : Fin 6, t.arms[a] = if u.getF .ARM_CFG_OWNER a = n.val then
      { u.arms[a] with launch := (u.arms[a]).work, released := some (s.ce[n]).sfret } else u.arms[a]) := by
  obtain ⟨hop, -⟩ := State.commitOp_commits (s := s) (n := n) c
  obtain ⟨hlanes, harms⟩ := hop.accepted hcom hdl
  refine ⟨fun l => ?_, fun a => ?_⟩
  · rw [h.lanes, show ((s.settled n c).committing n rd).lanes = _ from hlanes, State.releaseAll_lanes, State.settled_ce]
    rfl
  · rw [h.arms, show ((s.settled n c).committing n rd).arms = _ from harms, State.releaseAll_arms, State.settled_ce]
    rfl

/-- A COMMIT that is refused releases nothing. -/
theorem MovesOn.commit_refused (hno : ¬((s.ce[n]).committed = false ∧ s.dlReaches n = false)) :
    t.lanes = (s.countFetch n).lanes ∧ t.arms = (s.countFetch n).arms := by
  obtain ⟨hop, -⟩ := State.commitOp_commits (s := s) (n := n) c
  obtain ⟨hlanes, harms⟩ := hop.refused hno
  rw [State.countFetch_frame]
  exact ⟨h.lanes.trans hlanes, h.arms.trans harms⟩

end

/-- The end of the task after a COMMIT (R114, R134). -/
theorem State.committing_ends (s : State) (n : Fin 24) (rd : BitVec 5) (c : Nat) (pc : Word) (k : Nat) (tm : Timing → Timing) :
    let x := (s.settled n c).committing n rd
    let t := (x.endTask n c).modCe n (fun e => e.movedOn pc k (tm e.tm))
    Ended n (c - (s.ce[n]).tm.first.getD c) ((s.ce[n]).committed || !s.dlReaches n) (s.countFetch n) t ∧
      EndsTask n (commitFields n ++ taskFields n) { s.countFetch n with lanes := x.lanes, arms := x.arms } t := by
  intro x t
  have hx : x.ce[n] = _ := State.committing_ce (s := s) (n := n) c rd
  obtain ⟨-, -, -, hcommitted, htm, himg⟩ := Eng.writeG_keeps
    { (s.ce[n]).settle c with committed := (s.ce[n]).committed || !s.dlReaches n } rd (s.commitCode n)
  rw [← hx] at hcommitted htm himg
  refine (s.committing_alone n rd c).taskEnds (by simp [commitFields, taskNames, actNames, swapNames]) ?_ (congrArg Timing.first htm)
    hcommitted c pc k tm
  rw [show State.ce _ = (s.countFetch n).ce from rfl, State.countFetch_ce]
  exact himg

/-- ENDT ends the task, and its engine moves on (R114). -/
theorem endt_ends (n : Fin 24) (pr : BitVec 4) (s : State) :
    let e := s.ce[n]
    let c := e.tm.issueAt pr true {}
    Gives (.endt n pr) n pr s (fun s t => Ended n (c - e.tm.first.getD c) e.committed s t ∧ EndsTask n (taskFields n) s t ∧
      (t.ce[n]).g = e.g ∧ (t.ce[n]).p = e.p ∧ (t.ce[n]).acc = e.acc ∧ (t.ce[n]).allFlags = e.allFlags ∧ (t.ce[n]).pc = e.pc + 4#32) := by
  intro e c hp
  obtain ⟨k, tm, h⟩ := issue_done hp {} (v := fun c => (s.settled n c).endTask n c) (block := 0)
    (eff := fun t s => .done (s.endTask n t) none 0) (fun c => rfl)
  refine ⟨_, rfl, ?_⟩
  rw [h]
  have hx : (s.settled n c).ce[n] = e.settle c := s.settled_ce n c
  have himg : ((s.settled n c).ce[n]).SameImages (s.countFetch n).ce[n] := by
    rw [hx, State.countFetch_ce]
    exact ⟨rfl, rfl, rfl, rfl⟩
  have halone : EngineAlone n [] (s.countFetch n) (s.settled n c) := (EngineAlone.refl n [] (s.countFetch n)).modCe _
  obtain ⟨hended, hends⟩ := halone.taskEnds (by simp) himg (congrArg (fun e : Eng => e.tm.first) hx) (congrArg Eng.committed hx) c
    (e.pc + 4#32) k tm
  obtain ⟨-, -, -, -, -, hg, hpred, hacc, hflags, hpc⟩ := (s.settled n c).endTask_movesOn n (e.pc + 4#32) k tm c
  rw [hx] at hg hpred hacc hflags
  exact ⟨hended, hends, hg, hpred, hacc, hflags.trans (Eng.settle_allFlags e c), hpc⟩

/-- The claim of R114, R134 and R145. -/
theorem commitAndTaskEnd : Claims.CommitAndTaskEnd := by
  intro n pr rd s e ok code len cyc released effect fields ends
  have hce : (s.countFetch n).ce = s.ce := s.countFetch_ce n
  have hbit {f : Fld} (hf : f ≠ .CE_XCNT_ECCCOR) : (s.countFetch n).bit f n = s.bit f n := by
    rw [State.bit, s.getF_countFetch_ne n hf, State.bit]
  have heffect (c : Nat) {t : State} (h : MovesOn n (e.pc + 4#32) ((s.settled n c).committing n rd) t) : effect (s.countFetch n) t := by
    obtain ⟨hcom, hg, hp, hacc, hflags⟩ := h.commit_engine
    obtain ⟨hagain, hlate⟩ := h.commit_bits
    refine ⟨fun hok => ⟨?_, h.commit_released hok.1 hok.2⟩, fun hno => ⟨?_, h.commit_refused hno⟩, fun hc => ⟨?_, ?_⟩,
      fun hc hd => ⟨?_, ?_⟩, fun hok => ⟨?_, ?_⟩, ?_, ?_, ?_, h.pc, hflags⟩
    · rw [hcom, hok.1, hok.2]
      rfl
    · rw [hcom, State.commit_or_refused hno]
    · rw [hagain, hc, Bool.or_true]
    · rw [hlate, hc, hbit (by simp), Bool.not_true, Bool.false_and, Bool.or_false]
    · rw [(s.countFetch_time n).dlReaches] at hd
      rw [hlate, hc, hd, Bool.not_false, Bool.and_true, Bool.or_true]
    · rw [hagain, hc, hbit (by simp), Bool.or_false]
    · rw [hlate, hok.2, hbit (by simp), Bool.and_false, Bool.or_false]
    · rw [hagain, hok.1, hbit (by simp), Bool.or_false]
    · rw [GprIs, hce]
      exact hg
    · rw [SameP, hce]
      exact hp
    · rw [SameA, hce]
      exact hacc
  have hends (c : Nat) (k : Nat) (tm : Timing → Timing) :
      let t := (((s.settled n c).committing n rd).endTask n c).modCe n (fun e' => e'.movedOn (e.pc + 4#32) k (tm e'.tm))
      Ended n (len c) (e.committed || !s.dlReaches n) (s.countFetch n) t ∧ ends (s.countFetch n) t := by
    intro t
    have hmove := ((s.settled n c).committing n rd).endTask_movesOn n (e.pc + 4#32) k tm c
    obtain ⟨hended, htask⟩ := s.committing_ends n rd c (e.pc + 4#32) k tm
    rw [← hmove.lanes, ← hmove.arms] at htask
    exact ⟨hended, htask⟩
  have hdecide : decide (e.committed = true ∨ ok) = (e.committed || !s.dlReaches n) := by
    rw [Bool.eq_iff_iff, decide_eq_true_iff, Bool.or_eq_true, Bool.not_eq_true']
    exact ⟨fun h => h.imp_right And.right, fun h => or_iff_not_imp_left.2 fun hc => ⟨Bool.eq_false_iff.2 hc, h.resolve_left hc⟩⟩
  refine ⟨fun hno hp => ?_, fun henst hok hp => ?_, fun hp => ?_, endt_ends n pr s⟩
  · have hcond : ¬((!(s.ce[n]).committed && !s.dlReaches n) && s.getF .CE_STAT_ENST n == 2) = true := by
      simp only [Bool.and_eq_true, Bool.not_eq_true', beq_iff_eq]
      rintro ⟨hok, henst⟩
      exact hno.elim (fun h => h henst) (fun h => h hok)
    obtain ⟨k, tm, h⟩ := issue_done hp { writesG := [(rd, 2)] } (v := fun c => (s.settled n c).committing n rd)
      (fun c => (commitEff_settled c rd).trans (by rw [if_neg hcond]))
    refine ⟨_, rfl, ?_⟩
    rw [h]
    generalize (s.ce[n]).tm.issueAt pr true { writesG := [(rd, 2)] } = c
    obtain ⟨hframe, hregs, hothers⟩ := (s.committing_alone n rd c).modCe (fun e' => e'.movedOn (e.pc + 4#32) k (tm e'.tm))
    exact ⟨heffect c (State.movedOn_movesOn _ _ _ _ _), hregs, hothers, hframe⟩
  · have hcond : ((!(s.ce[n]).committed && !s.dlReaches n) && s.getF .CE_STAT_ENST n == 2) = true := by
      simp only [Bool.and_eq_true, Bool.not_eq_true', beq_iff_eq]
      exact ⟨hok, henst⟩
    obtain ⟨k, tm, h⟩ := issue_done hp { writesG := [(rd, 2)] } (v := fun c => ((s.settled n c).committing n rd).endTask n c)
      (fun c => (commitEff_settled c rd).trans (by rw [if_pos hcond]))
    refine ⟨_, rfl, ?_⟩
    rw [h]
    obtain ⟨hended, hends⟩ := hends _ k tm
    rw [hok.2, Bool.not_false, Bool.or_true] at hended
    exact ⟨heffect _ (State.endTask_movesOn _ _ _ _ _ _), hended, hends⟩
  · obtain ⟨k, tm, h⟩ := issue_done hp { writesG := [(rd, 2)] } (v := fun c => ((s.settled n c).committing n rd).endTask n c) (block := 0)
      (eff := fun t s => let r := s.commitOp n
        .done ((r.1.modCe n (fun e => e.writeG rd r.2)).endTask n t) none 0) (fun c => rfl)
    refine ⟨_, rfl, ?_⟩
    rw [h]
    obtain ⟨hended, hends⟩ := hends _ k tm
    rw [← hdecide] at hended
    exact ⟨heffect _ (State.endTask_movesOn _ _ _ _ _ _), hended, hends⟩

/-- Settles O41: WAITF and the queries by what they find of the deadline, COMMIT by its three answers, and the end of a task by one lemma. -/
theorem taskInstructions : Obligations.TaskInstructions := ⟨waitAndDeadlineQueries, commitAndTaskEnd⟩

end Sys2Proof.Machine
end

section
/-! The words of the engine instructions: fields read back from a word, and words put together from their fields (R95 to R97, R110). -/
namespace Sys2Proof
open Sys2Proof.Machine

/-! The fields of a word of each format. -/

section
variable (pr : BitVec 4) (major : BitVec 6) (rd ra rb : BitVec 5) (func : BitVec 7)

@[simp] theorem wordR_fields :
    (wordR pr major rd ra rb func).extractLsb' 28 4 = pr ∧ (wordR pr major rd ra rb func).extractLsb' 22 6 = major ∧
    (wordR pr major rd ra rb func).extractLsb' 17 5 = rd ∧ (wordR pr major rd ra rb func).extractLsb' 12 5 = ra ∧
    (wordR pr major rd ra rb func).extractLsb' 7 5 = rb ∧ (wordR pr major rd ra rb func).extractLsb' 0 7 = func := by
  refine ⟨?_, ?_, ?_, ?_, ?_, ?_⟩ <;>
  · ext i hi
    simp only [wordR, BitVec.getElem_extractLsb', BitVec.getLsbD_append]
    grind

@[simp] theorem wordI_fields (imm : BitVec 12) :
    (wordI pr major rd ra imm).extractLsb' 28 4 = pr ∧ (wordI pr major rd ra imm).extractLsb' 22 6 = major ∧
    (wordI pr major rd ra imm).extractLsb' 17 5 = rd ∧ (wordI pr major rd ra imm).extractLsb' 12 5 = ra ∧
    (wordI pr major rd ra imm).extractLsb' 0 12 = imm := by
  refine ⟨?_, ?_, ?_, ?_, ?_⟩ <;>
  · ext i hi
    simp only [wordI, BitVec.getElem_extractLsb', BitVec.getLsbD_append]
    grind

@[simp] theorem wordM_fields (imm : BitVec 16) :
    (wordM pr major rd imm).extractLsb' 28 4 = pr ∧ (wordM pr major rd imm).extractLsb' 22 6 = major ∧
    (wordM pr major rd imm).extractLsb' 17 5 = rd ∧ (wordM pr major rd imm).extractLsb' 16 1 = 0#1 ∧
    (wordM pr major rd imm).extractLsb' 0 16 = imm := by
  refine ⟨?_, ?_, ?_, ?_, ?_⟩ <;>
  · ext i hi
    simp only [wordM, BitVec.getElem_extractLsb', BitVec.getLsbD_append]
    grind

@[simp] theorem wordB_fields (off : BitVec 22) :
    (wordB pr major off).extractLsb' 28 4 = pr ∧ (wordB pr major off).extractLsb' 22 6 = major ∧
    (wordB pr major off).extractLsb' 0 22 = off := by
  refine ⟨?_, ?_, ?_⟩ <;>
  · ext i hi
    simp only [wordB, BitVec.getElem_extractLsb', BitVec.getLsbD_append]
    grind

@[simp] theorem wordC_fields (pd : BitVec 3) (comb : BitVec 2) (cond : BitVec 4) :
    (wordC pr major pd comb ra rb cond).extractLsb' 28 4 = pr ∧ (wordC pr major pd comb ra rb cond).extractLsb' 22 6 = major ∧
    (wordC pr major pd comb ra rb cond).extractLsb' 19 3 = pd ∧ (wordC pr major pd comb ra rb cond).extractLsb' 17 2 = comb ∧
    (wordC pr major pd comb ra rb cond).extractLsb' 12 5 = ra ∧ (wordC pr major pd comb ra rb cond).extractLsb' 7 5 = rb ∧
    (wordC pr major pd comb ra rb cond).extractLsb' 4 3 = 0#3 ∧ (wordC pr major pd comb ra rb cond).extractLsb' 0 4 = cond := by
  refine ⟨?_, ?_, ?_, ?_, ?_, ?_, ?_, ?_⟩ <;>
  · ext i hi
    simp only [wordC, BitVec.getElem_extractLsb', BitVec.getLsbD_append]
    grind

@[simp] theorem wordCI_fields (pd : BitVec 3) (comb : BitVec 2) (imm : BitVec 8) (cond : BitVec 4) :
    (wordCI pr major pd comb ra imm cond).extractLsb' 28 4 = pr ∧ (wordCI pr major pd comb ra imm cond).extractLsb' 22 6 = major ∧
    (wordCI pr major pd comb ra imm cond).extractLsb' 19 3 = pd ∧ (wordCI pr major pd comb ra imm cond).extractLsb' 17 2 = comb ∧
    (wordCI pr major pd comb ra imm cond).extractLsb' 12 5 = ra ∧ (wordCI pr major pd comb ra imm cond).extractLsb' 4 8 = imm ∧
    (wordCI pr major pd comb ra imm cond).extractLsb' 0 4 = cond := by
  refine ⟨?_, ?_, ?_, ?_, ?_, ?_, ?_⟩ <;>
  · ext i hi
    simp only [wordCI, BitVec.getElem_extractLsb', BitVec.getLsbD_append]
    grind

@[simp] theorem wordP_fields (pd pa pb op : BitVec 3) :
    (wordP pr major pd pa pb op).extractLsb' 28 4 = pr ∧ (wordP pr major pd pa pb op).extractLsb' 22 6 = major ∧
    (wordP pr major pd pa pb op).extractLsb' 19 3 = pd ∧ (wordP pr major pd pa pb op).extractLsb' 16 3 = pa ∧
    (wordP pr major pd pa pb op).extractLsb' 13 3 = pb ∧ (wordP pr major pd pa pb op).extractLsb' 3 10 = 0#10 ∧
    (wordP pr major pd pa pb op).extractLsb' 0 3 = op := by
  refine ⟨?_, ?_, ?_, ?_, ?_, ?_, ?_⟩ <;>
  · ext i hi
    simp only [wordP, BitVec.getElem_extractLsb', BitVec.getLsbD_append]
    grind

@[simp] theorem wordQ_fields (pd : BitVec 3) :
    (wordQ pr major pd ra func).extractLsb' 28 4 = pr ∧ (wordQ pr major pd ra func).extractLsb' 22 6 = major ∧
    (wordQ pr major pd ra func).extractLsb' 19 3 = pd ∧ (wordQ pr major pd ra func).extractLsb' 17 2 = 0#2 ∧
    (wordQ pr major pd ra func).extractLsb' 12 5 = ra ∧ (wordQ pr major pd ra func).extractLsb' 7 5 = 0#5 ∧
    (wordQ pr major pd ra func).extractLsb' 0 7 = func := by
  refine ⟨?_, ?_, ?_, ?_, ?_, ?_, ?_⟩ <;>
  · ext i hi
    simp only [wordQ, BitVec.getElem_extractLsb', BitVec.getLsbD_append]
    grind

@[simp] theorem wordW_fields (pd : BitVec 3) (off : BitVec 16) :
    (wordW pr major pd off).extractLsb' 28 4 = pr ∧ (wordW pr major pd off).extractLsb' 22 6 = major ∧
    (wordW pr major pd off).extractLsb' 19 3 = pd ∧ (wordW pr major pd off).extractLsb' 16 3 = 0#3 ∧
    (wordW pr major pd off).extractLsb' 0 16 = off := by
  refine ⟨?_, ?_, ?_, ?_, ?_⟩ <;>
  · ext i hi
    simp only [wordW, BitVec.getElem_extractLsb', BitVec.getLsbD_append]
    grind

@[simp] theorem accField_fields (a : BitVec 2) : (accField a).extractLsb' 2 3 = 0#3 ∧ (accField a).extractLsb' 0 2 = a := by
  refine ⟨?_, ?_⟩ <;>
  · ext i hi
    simp only [accField, BitVec.getElem_extractLsb', BitVec.getLsbD_append]
    grind

@[simp] theorem lagField_fields (lag : BitVec 5) :
    ((2#2 ++ lag : BitVec 7)).extractLsb' 5 2 = 2#2 ∧ ((2#2 ++ lag : BitVec 7)).extractLsb' 0 5 = lag := by
  refine ⟨?_, ?_⟩ <;>
  · ext i hi
    simp only [BitVec.getElem_extractLsb', BitVec.getLsbD_append]
    grind

@[simp] theorem shiftField_fields (op : BitVec 2) (cnt : BitVec 5) :
    ((op ++ 0#5 ++ cnt : BitVec 12)).extractLsb' 5 5 = 0#5 ∧ ((op ++ 0#5 ++ cnt : BitVec 12)).extractLsb' 10 2 = op ∧
    ((op ++ 0#5 ++ cnt : BitVec 12)).extractLsb' 0 5 = cnt := by
  refine ⟨?_, ?_, ?_⟩ <;>
  · ext i hi
    simp only [BitVec.getElem_extractLsb', BitVec.getLsbD_append]
    grind

end

theorem lagField_ne (lag : BitVec 5) : (2#2 ++ lag : BitVec 7) ≠ 0#7 ∧ (2#2 ++ lag : BitVec 7) ≠ 1#7 := by
  constructor <;> intro h <;> exact absurd (congrArg (BitVec.extractLsb' 5 2) h) (by simp)

/-! What the decoder reads from the word of an instruction. -/

section
variable (n : Fin 24) (pr : BitVec 4) (rd ra rb : BitVec 5) (func : BitVec 7)

theorem decodeFields_int : decodeFields n (wordR pr 1#6 rd ra rb func) = decodeInt n pr rd ra rb func.toNat := by
  simp [decodeFields]

theorem decodeFields_q31 : decodeFields n (wordR pr 2#6 rd ra rb func) = decodeQ31 n pr rd ra rb func.toNat := by
  simp [decodeFields]

theorem decodeFields_fp : decodeFields n (wordR pr 3#6 rd ra rb func) = decodeFp n pr rd ra rb func.toNat := by
  simp [decodeFields]

theorem decodeFields_sys : decodeFields n (wordR pr 9#6 rd ra rb func) = decodeSys n pr rd ra rb func.toNat := by
  simp [decodeFields]

theorem decodeFields_jump : decodeFields n (wordR pr 38#6 rd ra rb func) = decodeJump n pr rd ra rb func.toNat := by
  simp [decodeFields]

theorem decodeFields_pi : decodeFields n (wordR pr 50#6 rd ra rb func) = decodePi n pr rd ra rb func.toNat := by
  simp [decodeFields]

theorem decodeFields_lim : decodeFields n (wordR pr 51#6 rd ra rb func) = decodeLim n pr rd ra rb func.toNat := by
  simp [decodeFields]

theorem decodeFields_slot : decodeFields n (wordR pr 53#6 rd ra rb func) = decodeSlot n pr rd ra rb func.toNat := by
  simp [decodeFields]

theorem decodeFields_peg : decodeFields n (wordR pr 54#6 rd ra rb func) = decodePeg n pr rd ra rb func.toNat := by
  simp [decodeFields]

theorem decodeFields_commit : decodeFields n (wordR pr 56#6 rd ra rb func) = decodeCommit n pr rd ra rb func.toNat := by
  simp [decodeFields]

theorem decodeFields_pluck : decodeFields n (wordR pr 52#6 rd ra rb func) = decodePluck n pr rd ra rb func := by
  simp [decodeFields]

end

theorem decodeFields_word {n : Fin 24} {i : Instr} {pr : BitVec 4} (h : engineOf i = some (n, pr)) (hl : i.legal = true) :
    decodeFields n i.word = some i := by
  cases i <;> simp only [engineOf.eq_def, Option.some.injEq, Prod.mk.injEq, reduceCtorEq] at h <;> obtain ⟨rfl, rfl⟩ := h
  case ldwp =>
    have hne := (Bool.and_eq_true_iff.1 hl).2
    simp [Instr.word.eq_def, decodeFields, decodeI, need, hne]
  case sincos =>
    simp only [Instr.legal.eq_def, Bool.and_eq_true, beq_iff_eq, BitVec.getLsbD_eq_getElem (show 0 < 5 by decide)] at hl
    obtain ⟨⟨-, heven⟩, hne⟩ := hl
    simp [Instr.word.eq_def, decodeFields, need, hne, heven]
  case mfa =>
    have hpart := (Bool.and_eq_true_iff.1 hl).2
    simp [Instr.word.eq_def, decodeFields_q31, decodeQ31, need, of_decide_eq_true hpart]
  case mta =>
    have hpart := (Bool.and_eq_true_iff.1 hl).2
    simp [Instr.word.eq_def, decodeFields_q31, decodeQ31, need, of_decide_eq_true hpart]
  case plkc => simp [Instr.word.eq_def, decodeFields_pluck, decodePluck, need, lagField_ne]
  case pluck => simp [Instr.word.eq_def, decodeFields_pluck, decodePluck, need]
  case plka => simp [Instr.word.eq_def, decodeFields_pluck, decodePluck]
  case add | sub | and | or | xor | andn | sll | srl | sra | ror | min | max | minu | maxu | clz | popc | mul | mulh | mulhu | div | divu | rem | remu =>
    simp [Instr.word.eq_def, decodeFields_int, decodeInt, need]
  case qadd | qsub | qmul | qneg | qabs | qshl | qshr | mac | msu | mpya | adda | clra | racc =>
    simp [Instr.word.eq_def, decodeFields_q31, decodeQ31, need]
  case fadd | fsub | fmul | fma | fms | fdiv | fsqrt | fmin | fmax | fabs | fneg | f2q | q2f | f2i | i2f =>
    simp [Instr.word.eq_def, decodeFields_fp, decodeFp, need]
  case nop | fence | brk =>
    simp [Instr.word.eq_def, decodeFields_sys, decodeSys, need]
  case jr | jalr =>
    simp [Instr.word.eq_def, decodeFields_jump, decodeJump, need]
  case pi | capo =>
    simp [Instr.word.eq_def, decodeFields_pi, decodePi]
  case lim | limf | sat | satu =>
    simp [Instr.word.eq_def, decodeFields_lim, decodeLim]
  case send | recv =>
    simp [Instr.word.eq_def, decodeFields_slot, decodeSlot, need]
  case pega | pegr | pegrk | pegq =>
    simp [Instr.word.eq_def, decodeFields_peg, decodePeg, need]
  case commit | commitE | endt =>
    simp [Instr.word.eq_def, decodeFields_commit, decodeCommit, need]
  all_goals simp [Instr.word.eq_def, decodeFields, decodeI, need]

/-! Words put together from the fields that the decoder reads. -/

section
variable (w : Word)

theorem wordR_of_fields : wordR (w.extractLsb' 28 4) (w.extractLsb' 22 6) (w.extractLsb' 17 5) (w.extractLsb' 12 5) (w.extractLsb' 7 5)
    (w.extractLsb' 0 7) = w := by
  simp (disch := decide) only [wordR, BitVec.extractLsb'_append_extractLsb'_eq_extractLsb']
  exact BitVec.extractLsb'_eq_self

theorem wordI_of_fields : wordI (w.extractLsb' 28 4) (w.extractLsb' 22 6) (w.extractLsb' 17 5) (w.extractLsb' 12 5) (w.extractLsb' 0 12) = w := by
  simp (disch := decide) only [wordI, BitVec.extractLsb'_append_extractLsb'_eq_extractLsb']
  exact BitVec.extractLsb'_eq_self

theorem wordM_of_fields (h : w.extractLsb' 16 1 = 0#1) :
    wordM (w.extractLsb' 28 4) (w.extractLsb' 22 6) (w.extractLsb' 17 5) (w.extractLsb' 0 16) = w := by
  rw [wordM, ← h]
  simp (disch := decide) only [BitVec.extractLsb'_append_extractLsb'_eq_extractLsb']
  exact BitVec.extractLsb'_eq_self

theorem wordB_of_fields : wordB (w.extractLsb' 28 4) (w.extractLsb' 22 6) (w.extractLsb' 0 22) = w := by
  simp (disch := decide) only [wordB, BitVec.extractLsb'_append_extractLsb'_eq_extractLsb']
  exact BitVec.extractLsb'_eq_self

theorem wordC_of_fields (h : w.extractLsb' 4 3 = 0#3) : wordC (w.extractLsb' 28 4) (w.extractLsb' 22 6) (w.extractLsb' 19 3) (w.extractLsb' 17 2)
    (w.extractLsb' 12 5) (w.extractLsb' 7 5) (w.extractLsb' 0 4) = w := by
  rw [wordC, ← h]
  simp (disch := decide) only [BitVec.extractLsb'_append_extractLsb'_eq_extractLsb']
  exact BitVec.extractLsb'_eq_self

theorem wordCI_of_fields : wordCI (w.extractLsb' 28 4) (w.extractLsb' 22 6) (w.extractLsb' 19 3) (w.extractLsb' 17 2) (w.extractLsb' 12 5)
    (w.extractLsb' 4 8) (w.extractLsb' 0 4) = w := by
  simp (disch := decide) only [wordCI, BitVec.extractLsb'_append_extractLsb'_eq_extractLsb']
  exact BitVec.extractLsb'_eq_self

theorem wordP_of_fields (h : w.extractLsb' 3 10 = 0#10) : wordP (w.extractLsb' 28 4) (w.extractLsb' 22 6) (w.extractLsb' 19 3)
    (w.extractLsb' 16 3) (w.extractLsb' 13 3) (w.extractLsb' 0 3) = w := by
  rw [wordP, ← h]
  simp (disch := decide) only [BitVec.extractLsb'_append_extractLsb'_eq_extractLsb']
  exact BitVec.extractLsb'_eq_self

theorem wordQ_of_fields (hc : w.extractLsb' 17 2 = 0#2) (hb : w.extractLsb' 7 5 = 0#5) :
    wordQ (w.extractLsb' 28 4) (w.extractLsb' 22 6) (w.extractLsb' 19 3) (w.extractLsb' 12 5) (w.extractLsb' 0 7) = w := by
  rw [wordQ, ← hc, ← hb]
  simp (disch := decide) only [BitVec.extractLsb'_append_extractLsb'_eq_extractLsb']
  exact BitVec.extractLsb'_eq_self

theorem wordW_of_fields (h : w.extractLsb' 16 3 = 0#3) :
    wordW (w.extractLsb' 28 4) (w.extractLsb' 22 6) (w.extractLsb' 19 3) (w.extractLsb' 0 16) = w := by
  rw [wordW, ← h]
  simp (disch := decide) only [BitVec.extractLsb'_append_extractLsb'_eq_extractLsb']
  exact BitVec.extractLsb'_eq_self

end

theorem accField_of_fields (r : BitVec 5) (h : r.extractLsb' 2 3 = 0#3) : accField (r.extractLsb' 0 2) = r := by
  rw [accField, ← h]
  simp (disch := decide) only [BitVec.extractLsb'_append_extractLsb'_eq_extractLsb']
  exact BitVec.extractLsb'_eq_self

theorem lagField_of_fields (func : BitVec 7) (h : func.extractLsb' 5 2 = 2#2) : (2#2 ++ func.extractLsb' 0 5 : BitVec 7) = func := by
  rw [← h]
  simp (disch := decide) only [BitVec.extractLsb'_append_extractLsb'_eq_extractLsb']
  exact BitVec.extractLsb'_eq_self

theorem shiftField_of_fields (imm : BitVec 12) (h : imm.extractLsb' 5 5 = 0#5) :
    (imm.extractLsb' 10 2 ++ 0#5 ++ imm.extractLsb' 0 5 : BitVec 12) = imm := by
  rw [← h]
  simp (disch := decide) only [BitVec.extractLsb'_append_extractLsb'_eq_extractLsb']
  exact BitVec.extractLsb'_eq_self

/-! The word of what each table of the decoder reads. -/

theorem need_eq_some {c : Bool} {i j : Instr} : need c i = some j ↔ c = true ∧ i = j := by
  cases c <;> simp [need]

theorem eq_ofNat_of_toNat {v k : Nat} {x : BitVec v} (h : x.toNat = k) : x = BitVec.ofNat v k := by
  rw [← h, BitVec.ofNat_toNat, BitVec.setWidth_eq]

section
variable {n : Fin 24} {pr : BitVec 4} {rd ra rb : BitVec 5} {w : Word} {k : Nat}

theorem word_of_decodeInt (h : (decodeInt n pr rd ra rb k).map Instr.word = some w) : w = wordR pr 1#6 rd ra rb (BitVec.ofNat 7 k) := by
  unfold decodeInt at h
  split at h
  all_goals simp only [need, apply_ite (Option.map Instr.word), Option.map_some, Option.map_none, Instr.word.eq_def] at h
  all_goals grind [accField_of_fields]

theorem word_of_decodeQ31 (h : (decodeQ31 n pr rd ra rb k).map Instr.word = some w) : w = wordR pr 2#6 rd ra rb (BitVec.ofNat 7 k) := by
  unfold decodeQ31 at h
  split at h
  all_goals simp only [need, apply_ite (Option.map Instr.word), Option.map_some, Option.map_none, Instr.word.eq_def] at h
  all_goals grind [accField_of_fields]

theorem word_of_decodeFp (h : (decodeFp n pr rd ra rb k).map Instr.word = some w) : w = wordR pr 3#6 rd ra rb (BitVec.ofNat 7 k) := by
  unfold decodeFp at h
  split at h
  all_goals simp only [need, apply_ite (Option.map Instr.word), Option.map_some, Option.map_none, Instr.word.eq_def] at h
  all_goals grind [accField_of_fields]

theorem word_of_decodeSys (h : (decodeSys n pr rd ra rb k).map Instr.word = some w) : w = wordR pr 9#6 rd ra rb (BitVec.ofNat 7 k) := by
  unfold decodeSys at h
  split at h
  all_goals simp only [need, apply_ite (Option.map Instr.word), Option.map_some, Option.map_none, Instr.word.eq_def] at h
  all_goals grind [accField_of_fields]

theorem word_of_decodeJump (h : (decodeJump n pr rd ra rb k).map Instr.word = some w) : w = wordR pr 38#6 rd ra rb (BitVec.ofNat 7 k) := by
  unfold decodeJump at h
  split at h
  all_goals simp only [need, apply_ite (Option.map Instr.word), Option.map_some, Option.map_none, Instr.word.eq_def] at h
  all_goals grind [accField_of_fields]

theorem word_of_decodePi (h : (decodePi n pr rd ra rb k).map Instr.word = some w) : w = wordR pr 50#6 rd ra rb (BitVec.ofNat 7 k) := by
  unfold decodePi at h
  split at h
  all_goals simp only [Option.map_some, Option.map_none, Instr.word.eq_def] at h
  all_goals grind [accField_of_fields]

theorem word_of_decodeLim (h : (decodeLim n pr rd ra rb k).map Instr.word = some w) : w = wordR pr 51#6 rd ra rb (BitVec.ofNat 7 k) := by
  unfold decodeLim at h
  split at h
  all_goals simp only [Option.map_some, Option.map_none, Instr.word.eq_def] at h
  all_goals grind [accField_of_fields]

theorem word_of_decodeSlot (h : (decodeSlot n pr rd ra rb k).map Instr.word = some w) : w = wordR pr 53#6 rd ra rb (BitVec.ofNat 7 k) := by
  unfold decodeSlot at h
  split at h
  all_goals simp only [need, apply_ite (Option.map Instr.word), Option.map_some, Option.map_none, Instr.word.eq_def] at h
  all_goals grind [accField_of_fields]

theorem word_of_decodePeg (h : (decodePeg n pr rd ra rb k).map Instr.word = some w) : w = wordR pr 54#6 rd ra rb (BitVec.ofNat 7 k) := by
  unfold decodePeg at h
  split at h
  all_goals simp only [need, apply_ite (Option.map Instr.word), Option.map_some, Option.map_none, Instr.word.eq_def] at h
  all_goals grind [accField_of_fields]

theorem word_of_decodeCommit (h : (decodeCommit n pr rd ra rb k).map Instr.word = some w) : w = wordR pr 56#6 rd ra rb (BitVec.ofNat 7 k) := by
  unfold decodeCommit at h
  split at h
  all_goals simp only [need, apply_ite (Option.map Instr.word), Option.map_some, Option.map_none, Instr.word.eq_def] at h
  all_goals grind [accField_of_fields]

theorem word_of_decodePluck {func : BitVec 7} (h : (decodePluck n pr rd ra rb func).map Instr.word = some w) : w = wordR pr 52#6 rd ra rb func := by
  unfold decodePluck at h
  split_ifs at h with h0 h1
  all_goals simp only [need, apply_ite (Option.map Instr.word), Option.map_some, Option.map_none, Instr.word.eq_def] at h
  all_goals grind [accField_of_fields, lagField_of_fields]

theorem word_of_decodeI {imm : BitVec 12} (h : (decodeI n pr rd ra imm k).map Instr.word = some w) : w = wordI pr (BitVec.ofNat 6 k) rd ra imm := by
  unfold decodeI at h
  split at h
  all_goals simp only [need, apply_ite (Option.map Instr.word), Option.map_some, Option.map_none, Instr.word.eq_def] at h
  all_goals grind [shiftField_of_fields]

end

theorem word_of_decodeFields {n : Fin 24} {w : Word} {i : Instr} (h : decodeFields n w = some i) : i.word = w := by
  simp only [decodeFields] at h
  have hR {k : Nat} (hf : (w.extractLsb' 22 6).toNat = k) (hi : i.word = wordR (w.extractLsb' 28 4) (BitVec.ofNat 6 k) (w.extractLsb' 17 5)
      (w.extractLsb' 12 5) (w.extractLsb' 7 5) (BitVec.ofNat 7 (w.extractLsb' 0 7).toNat)) : i.word = w := by
    rw [hi, BitVec.ofNat_toNat, BitVec.setWidth_eq, ← eq_ofNat_of_toNat hf, wordR_of_fields]
  split at h <;> rename_i hf
  · exact hR hf (word_of_decodeInt (congrArg _ h))
  · exact hR hf (word_of_decodeQ31 (congrArg _ h))
  · exact hR hf (word_of_decodeFp (congrArg _ h))
  · obtain ⟨hz, rfl⟩ := need_eq_some.1 h
    simp only [Instr.word.eq_def]
    rw [← eq_ofNat_of_toNat hf, wordC_of_fields w (beq_iff_eq.1 hz)]
  · obtain rfl := Option.some.inj h
    simp only [Instr.word.eq_def]
    rw [← eq_ofNat_of_toNat hf, wordCI_of_fields]
  · obtain ⟨hz, rfl⟩ := need_eq_some.1 h
    simp only [Instr.word.eq_def]
    rw [← eq_ofNat_of_toNat hf, wordP_of_fields w (beq_iff_eq.1 hz)]
  · exact hR hf (word_of_decodeSys (congrArg _ h))
  · obtain ⟨hz, rfl⟩ := need_eq_some.1 h
    simp only [Instr.word.eq_def]
    rw [← eq_ofNat_of_toNat hf, wordM_of_fields w (beq_iff_eq.1 hz)]
  · obtain ⟨hz, rfl⟩ := need_eq_some.1 h
    simp only [Instr.word.eq_def]
    rw [← eq_ofNat_of_toNat hf, wordM_of_fields w (beq_iff_eq.1 hz)]
  · obtain rfl := Option.some.inj h
    simp only [Instr.word.eq_def]
    rw [← eq_ofNat_of_toNat hf, wordB_of_fields]
  · obtain rfl := Option.some.inj h
    simp only [Instr.word.eq_def]
    rw [← eq_ofNat_of_toNat hf, wordB_of_fields]
  · exact hR hf (word_of_decodeJump (congrArg _ h))
  · split_ifs at h with hz
    obtain ⟨-, rfl⟩ := need_eq_some.1 h
    exact hR hf (by rw [hz]; rfl)
  · split_ifs at h with hz
    obtain rfl := Option.some.inj h
    exact hR hf (by rw [hz]; rfl)
  · exact hR hf (word_of_decodePi (congrArg _ h))
  · exact hR hf (word_of_decodeLim (congrArg _ h))
  · exact hR hf (by rw [word_of_decodePluck (congrArg _ h), BitVec.ofNat_toNat, BitVec.setWidth_eq])
  · exact hR hf (word_of_decodeSlot (congrArg _ h))
  · exact hR hf (word_of_decodePeg (congrArg _ h))
  · obtain ⟨hz, rfl⟩ := need_eq_some.1 h
    simp only [Instr.word.eq_def]
    rw [← eq_ofNat_of_toNat hf, wordW_of_fields w (beq_iff_eq.1 hz)]
  · exact hR hf (word_of_decodeCommit (congrArg _ h))
  · split_ifs at h with hz
    · obtain ⟨h0, rfl⟩ := need_eq_some.1 h
      obtain ⟨ha, hb⟩ := Bool.and_eq_true_iff.1 h0
      exact hR hf (by rw [hz, beq_iff_eq.1 ha, beq_iff_eq.1 hb]; rfl)
    · obtain ⟨h0, rfl⟩ := need_eq_some.1 h
      simp only [Bool.and_eq_true, beq_iff_eq] at h0
      obtain ⟨⟨h1, hc⟩, hb⟩ := h0
      simp only [Instr.word.eq_def]
      rw [← eq_ofNat_of_toNat hf, ← h1, wordQ_of_fields w hc hb]
  · rw [word_of_decodeI (congrArg _ h), BitVec.ofNat_toNat, BitVec.setWidth_eq, wordI_of_fields]

/-! Decoding and encoding agree. -/

theorem decodeVolgar_eq_some {n : Fin 24} {w : Word} {i : Instr} : decodeVolgar n w = some i ↔ decodeFields n w = some i ∧ i.legal = true := by
  unfold decodeVolgar
  cases decodeFields n w with
  | none => simp
  | some j =>
    simp only [Option.ite_none_right_eq_some, Option.some.injEq]
    exact ⟨fun ⟨hl, e⟩ => ⟨e, e ▸ hl⟩, fun ⟨e, hl⟩ => ⟨e ▸ hl, e⟩⟩

/-- Settles O30: the fields of a word are read back from it, and a word is put together from the fields that are read. -/
theorem decodeAndEncodeAgree : Obligations.DecodeAndEncodeAgree := fun _ _ _ _ =>
  ⟨fun h hl => decodeVolgar_eq_some.2 ⟨decodeFields_word h hl, hl⟩, fun h => word_of_decodeFields (decodeVolgar_eq_some.1 h).1⟩

/-- Settles O29: each word is decoded by its fields. -/
theorem wordsDecode : Obligations.WordsDecode := by
  intro n
  refine ⟨rfl, rfl, rfl, rfl, rfl, rfl, rfl, rfl, rfl, rfl, rfl, rfl, rfl, rfl, rfl, rfl⟩

end Sys2Proof
end

section
/-! SUPPORT. What every command keeps: the queue, the variant, the canonical form of the stores, and that no pair has both switches on.  Each
operation of the model is shown once to keep it. -/
namespace Sys2Proof.Machine

-- The proofs one after another: all at once they would need more threads, and their stacks, than the check's memory holds.
set_option Elab.async false

/-- No PWM pair has both switches on (R291, R293). -/
def State.PairsApart (s : State) : Prop := ∀ n : Fin 24, ¬(s.bit .PW_STAT_HON n = true ∧ s.bit .PW_STAT_LON n = true)

/-- State `s` has come from `s₀` by operations of the device: the queue and the variant are those of `s₀`, and the stores stay canonical and the
pairs apart where they were so in `s₀`. -/
structure SoundParts (s₀ : State) (variant : Variant) (pending : List Instr) (regs : List (Nat × Nat)) (mem : List Host.Cell)
    (lost : List (Nat × Nat × Nat)) : Prop where
  variant : variant = s₀.variant
  pending : pending = s₀.pending
  regsWf : s₀.Wf → Store.Wf regDefault regs ∧ RegsFit regs
  memWf : s₀.Wf → Store.Wf (memDefault lost) mem
  apart : s₀.PairsApart → ∀ n : Fin 24, ¬(Store.get regs (Fld.PW_STAT_HON.key n) Fld.PW_STAT_HON.spec.rst = 1 ∧
    Store.get regs (Fld.PW_STAT_LON.key n) Fld.PW_STAT_LON.spec.rst = 1)

/-- The same of a state: it speaks of no other field, so an update of another field has the same proof. -/
def Sound (s₀ s : State) : Prop := SoundParts s₀ s.variant s.pending s.regs s.mem s.lost

/-- The fields that show the switches of a pair. -/
def Fld.isBall : Fld → Bool
  | .PW_STAT_HON | .PW_STAT_LON => true
  | _ => false

theorem Fld.ofNat_key (f : Fld) (i : Nat) : Fld.ofNat (f.key i / 1024) = f := by
  rw [Fld.key, show (f.ctorIdx * 1024 + i % 1024) / 1024 = f.ctorIdx by omega, Fld.ofNat_ctorIdx]

/-- A value that fits its field keeps every stored value inside its field. -/
theorem RegsFit.put {l : List (Nat × Nat)} (h : RegsFit l) {f : Fld} {i v : Nat} (hv : v < 2 ^ f.width) :
    RegsFit (Store.put l (f.key i) v f.spec.rst) := by
  have hkeep : RegsFit (l.filter (fun e => e.1 != f.key i)) := fun e he => h e (List.mem_of_mem_filter he)
  unfold Store.put
  split
  · exact hkeep
  · intro e he
    obtain he | rfl := Store.mem_insert _ _ _ e he
    · exact hkeep e he
    · exact (f.ofNat_key i).symm ▸ hv

/-- Software does not write the fields that show the switches: they are of access RO. -/
theorem Fld.isBall_of_ne_ro {f : Fld} (h : f.spec.acc ≠ .ro) : f.isBall = false := by
  unfold Fld.isBall
  split
  · exact absurd rfl h
  · exact absurd rfl h
  · rfl

theorem State.bit_eq_true (s : State) (f : Fld) (i : Nat) : s.bit f i = true ↔ Store.get s.regs (f.key i) f.spec.rst = 1 := by
  simp [State.bit, State.getF]

/-- What performing an instruction gives is sound. -/
def Res.Sound (s₀ : State) : Res → Prop
  | .done s _ _ => Machine.Sound s₀ s
  | .exc _ _ => True

theorem Fld.key_fin_inj {f : Fld} {m n : Fin 24} (h : f.key m = f.key n) : m = n := by
  have hk := (Fld.key_inj h).2
  omega

/-- The pairs stay apart when a switch turns off. -/
theorem State.PairsApart.turnOff {s : State} (ha : s.PairsApart) (n : Fin 24) (high : Bool) :
    (s.setBit (if high then .PW_STAT_HON else .PW_STAT_LON) n false).PairsApart := by
  intro m
  cases high
  · change ¬((s.setF .PW_STAT_LON n 0).bit .PW_STAT_HON m = true ∧ (s.setF .PW_STAT_LON n 0).bit .PW_STAT_LON m = true)
    rw [State.bit, State.bit, State.getF_setF_ne _ _ _ _ (by simp), State.getF_setF]
    split
    · simp
    · exact ha m
  · change ¬((s.setF .PW_STAT_HON n 0).bit .PW_STAT_HON m = true ∧ (s.setF .PW_STAT_HON n 0).bit .PW_STAT_LON m = true)
    rw [State.bit, State.bit, State.getF_setF_ne s (f := .PW_STAT_HON) (g := .PW_STAT_LON) _ _ _ (by simp), State.getF_setF]
    split
    · simp
    · exact ha m

/-- They stay apart when a switch turns on while the other one is off (R293). -/
theorem State.PairsApart.turnOn {s : State} (ha : s.PairsApart) {n : Fin 24} {high : Bool}
    (hoff : s.bit (if high then .PW_STAT_LON else .PW_STAT_HON) n = false) :
    (s.setBit (if high then .PW_STAT_HON else .PW_STAT_LON) n true).PairsApart := by
  intro m
  cases high
  · change ¬((s.setF .PW_STAT_LON n 1).bit .PW_STAT_HON m = true ∧ (s.setF .PW_STAT_LON n 1).bit .PW_STAT_LON m = true)
    rw [State.bit, State.bit, State.getF_setF_ne _ _ _ _ (by simp), State.getF_setF]
    split
    · rename_i hk
      obtain rfl := Fld.key_fin_inj hk
      exact fun h => absurd h.1 (by rw [← State.bit, show s.bit .PW_STAT_HON m = false from hoff]; decide)
    · exact ha m
  · change ¬((s.setF .PW_STAT_HON n 1).bit .PW_STAT_HON m = true ∧ (s.setF .PW_STAT_HON n 1).bit .PW_STAT_LON m = true)
    rw [State.bit, State.bit, State.getF_setF_ne s (f := .PW_STAT_HON) (g := .PW_STAT_LON) _ _ _ (by simp), State.getF_setF]
    split
    · rename_i hk
      obtain rfl := Fld.key_fin_inj hk
      exact fun h => absurd h.2 (by rw [← State.bit, show s.bit .PW_STAT_LON m = false from hoff]; decide)
    · exact ha m

theorem Sound.refl (s : State) : Sound s s :=
  ⟨rfl, rfl, fun h => ⟨h.1, h.2.1⟩, fun h => h.2.2, fun h n hn => h n ⟨(s.bit_eq_true _ _).2 hn.1, (s.bit_eq_true _ _).2 hn.2⟩⟩

section
variable {s₀ s : State} (hs : Sound s₀ s)
include hs

theorem Sound.keepsWf (hr : s₀.Wf) : s.Wf := ⟨(hs.regsWf hr).1, (hs.regsWf hr).2, hs.memWf hr⟩

theorem Sound.keepsApart (hr : s₀.PairsApart) : s.PairsApart := fun n hn =>
  hs.apart hr n ⟨(s.bit_eq_true _ _).1 hn.1, (s.bit_eq_true _ _).1 hn.2⟩

theorem Sound.trans {t : State} (h' : Sound s t) : Sound s₀ t :=
  ⟨h'.variant.trans hs.variant, h'.pending.trans hs.pending, fun hr => h'.regsWf (hs.keepsWf hr), fun hr => h'.memWf (hs.keepsWf hr),
    fun hr => h'.apart (hs.keepsApart hr)⟩

/-- A write of a field, where it leaves the pairs apart. -/
theorem Sound.setF' {f : Fld} {i v : Nat} (ha : s.PairsApart → (s.setF f i v).PairsApart) : Sound s₀ (s.setF f i v) := by
  refine ⟨hs.variant, hs.pending, fun hr => ⟨s.regsWf_setF f i v (hs.regsWf hr).1, ?_⟩, hs.memWf, fun hr n hn => ?_⟩
  · exact RegsFit.put (hs.regsWf hr).2 (Nat.mod_lt _ (Nat.two_pow_pos _))
  · exact ha (hs.keepsApart hr) n ⟨(State.bit_eq_true _ _ _).2 hn.1, (State.bit_eq_true _ _ _).2 hn.2⟩

theorem Sound.setF {f : Fld} {i v : Nat} (hf : f.isBall = false := by rfl) : Sound s₀ (s.setF f i v) := by
  have hH : Fld.PW_STAT_HON ≠ f := by rintro rfl; cases hf
  have hL : Fld.PW_STAT_LON ≠ f := by rintro rfl; cases hf
  refine hs.setF' fun ha n => ?_
  rw [State.bit, State.bit, State.getF_setF_ne _ _ _ _ hH, State.getF_setF_ne _ _ _ _ hL]
  exact ha n

theorem Sound.resetFields {p : Fld → Nat → Bool} : Sound s₀ (s.resetFields p) := by
  refine ⟨hs.variant, hs.pending, fun hr => ⟨s.regsWf_resetFields p (hs.regsWf hr).1, fun e he => (hs.regsWf hr).2 e (List.mem_of_mem_filter he)⟩,
    hs.memWf, fun hr n hn => ?_⟩
  simp only [State.resetFields, Store.get_keep] at hn
  obtain ⟨hH, hL⟩ := hn
  split at hH
  · split at hL
    · exact hs.apart hr n ⟨hH, hL⟩
    · cases hL
  · cases hH

theorem Sound.setByte {a : Nat} {b : Byte} : Sound s₀ (s.setByte a b) :=
  ⟨hs.variant, hs.pending, hs.regsWf, fun hr => s.memWf_setByte a b (hs.memWf hr), hs.apart⟩

theorem Sound.clearMem {base size : Nat} : Sound s₀ (s.clearMem base size) :=
  ⟨hs.variant, hs.pending, hs.regsWf, fun hr => s.memWf_clearMem base size (hs.memWf hr), hs.apart⟩

theorem Sound.loseMem {base size : Nat} : Sound s₀ (s.loseMem base size) :=
  ⟨hs.variant, hs.pending, hs.regsWf, fun hr => s.memWf_loseMem base size (hs.memWf hr), hs.apart⟩

/-- An update of a field of which soundness does not speak. -/
theorem Sound.upd {t : State} (hv : t.variant = s.variant := by rfl) (hp : t.pending = s.pending := by rfl) (hr : t.regs = s.regs := by rfl)
    (hm : t.mem = s.mem := by rfl) (hl : t.lost = s.lost := by rfl) : Sound s₀ t := by
  unfold Sound
  rw [hv, hp, hr, hm, hl]
  exact hs

omit hs in
theorem Sound.ite {c : Prop} [Decidable c] {a b : State} (ha : Sound s₀ a) (hb : Sound s₀ b) : Sound s₀ (if c then a else b) := by
  split
  · exact ha
  · exact hb

omit hs in
theorem Sound.cond {c : Prop} [Decidable c] {a b : State} (ha : c → Sound s₀ a) (hb : Sound s₀ b) : Sound s₀ (if c then a else b) := by
  split
  · exact ha ‹_›
  · exact hb

theorem Sound.foldl {α : Type} {f : State → α → State} {l : List α} (hf : ∀ t a, Sound s₀ t → Sound s₀ (f t a)) : Sound s₀ (l.foldl f s) := by
  induction l generalizing s with
  | nil => exact hs
  | cons a l ih => exact ih (hf s a hs)

theorem Sound.forIdx {n : Nat} {f : Fin n → State → State} (hf : ∀ t i, Sound s₀ t → Sound s₀ (f i t)) : Sound s₀ (forIdx f s) :=
  hs.foldl fun t i => hf t i

end
end Sys2Proof.Machine
end

section
/-! SUPPORT. Each operation of the model is sound.  The many short proofs are elaborated one after another: side by side they hold more threads than the
check has memory for. -/
namespace Sys2Proof.Machine

-- The proofs one after another: all at once they would need more threads, and their stacks, than the check's memory holds.
set_option Elab.async false
set_option Elab.async false
section
variable {s₀ s : State} (hs : Sound s₀ s)
include hs

theorem Sound.setBit {f i b} (hf : f.isBall = false := by rfl) : Sound s₀ (s.setBit f i b) := .setF hs hf

theorem Sound.setWhen {c f i v} (hf : f.isBall = false := by rfl) : Sound s₀ (s.setWhen c f i v) := .ite (.setF hs hf) hs

theorem Sound.countF {f i k} (hf : f.isBall = false := by rfl) : Sound s₀ (s.countF f i k) := .setF hs hf

theorem Sound.orF {f i b} (hf : f.isBall = false := by rfl) : Sound s₀ (s.orF f i b) := .setF hs hf

theorem Sound.draw : Sound s₀ s.draw.2 := hs

theorem Sound.setBytes {a v k} : Sound s₀ (s.setBytes a v k) := by
  induction k generalizing s a v with
  | zero => exact hs
  | succ k ih => exact ih (.setByte hs)

theorem Sound.setWord {a w} : Sound s₀ (s.setWord a w) := .setBytes hs

theorem Sound.setList {a l} : Sound s₀ (s.setList a l) := by
  induction l generalizing s a with
  | nil => exact hs
  | cons b t ih => exact ih (.setByte hs)

theorem Sound.upset {a bad} : Sound s₀ (s.upset a bad) := by
  unfold State.upset
  refine .ite hs (.ite ?_ ?_)
  exact hs
  exact hs

theorem Sound.freshWord {a} : Sound s₀ (s.freshWord a) := hs

theorem Sound.freshRange {a k} : Sound s₀ (s.freshRange a k) := by
  unfold State.freshRange
  refine ?_
  exact hs

theorem Sound.putList {a l} : Sound s₀ (s.putList a l) := .freshRange (.setList hs)

theorem Sound.modCe {n f} : Sound s₀ (s.modCe n f) := hs

theorem Sound.modPeg {n f} : Sound s₀ (s.modPeg n f) := hs

theorem Sound.modArm {a f} : Sound s₀ (s.modArm a f) := hs

theorem Sound.modLane {n f} : Sound s₀ (s.modLane n f) := hs

theorem Sound.queueMir {f} : Sound s₀ (s.queueMir f) := hs

theorem Sound.answer {w} : Sound s₀ (s.answer w) := hs

theorem Sound.busError {cause ag addr wr} : Sound s₀ (s.busError cause ag addr wr) := by
  unfold State.busError
  extract_lets _ s1
  have h1 : Sound s₀ s1 := (show Sound s₀ (s.countF Sys2Proof.Machine.Fld.SYS_BUSERR_COUNT 0 1) from .countF hs)
  exact .ite h1 (.setBit (.setF (.setF (.setF (.setF (.setF h1))))))

theorem Sound.spend {k} : Sound s₀ (s.spend k) := hs

theorem Sound.addAngle {x} : Sound s₀ (s.addAngle x) := by
  unfold State.addAngle
  refine ?_
  exact hs

theorem Sound.addFreq {k} : Sound s₀ (s.addFreq k) := .addAngle hs

theorem Sound.raiseAngle {o} : Sound s₀ (s.raiseAngle o) := .ite hs (.spend (.addFreq hs))

theorem Sound.passTo {t} : Sound s₀ (s.passTo t) := .spend (.ite (.addFreq hs) hs)

theorem Sound.swTrip {n} : Sound s₀ (s.swTrip n) := .orF hs

theorem Sound.debugHalt {n} : Sound s₀ (s.debugHalt n) := .setF hs

theorem Sound.toggleBank {n} : Sound s₀ (s.toggleBank n) := .modCe (.setF (.forIdx hs fun _ _ ht => .setF ht))

theorem Sound.actSwap : Sound s₀ (s.actSwap) := by
  unfold State.actSwap
  extract_lets s0 _ s1 mask _ s2
  have h1 : Sound s₀ s0 := .foldl hs fun _ _ ht => .toggleBank ht
  have h2 : Sound s₀ s1 := h1
  have h3 : Sound s₀ s2 := h2
  exact .setF (.setF (.setF h3))

theorem Sound.actOffDone : Sound s₀ (s.actOffDone) := .ite (.actSwap hs) hs

theorem Sound.endTask {n cyc} : Sound s₀ (s.endTask n cyc) := .actOffDone (.modCe (.setWhen (.setWhen (.setF (.setF (.setBit hs))))))

theorem Sound.exception {n cause pc info cyc} : Sound s₀ (s.exception n cause pc info cyc) := by
  unfold State.exception
  extract_lets s1 s2 s3
  have h1 : Sound s₀ s1 := .countF hs
  have h2 : Sound s₀ s2 := .ite h1 (.setF (.setF (.setF (.setF (.setF h1)))))
  have h3 : Sound s₀ s3 := .ite (.swTrip h2) h2
  exact .endTask h3

theorem Sound.fetchFault {n t} (h : s.fetchFault n = some t) : Sound s₀ t := by
  unfold State.fetchFault at h
  extract_lets e at h
  split_ifs at h
  · cases h; exact .exception hs
  · cases h; exact .exception hs

theorem Sound.countFetch {n} : Sound s₀ (s.countFetch n) := .ite (.countF hs) hs

theorem Sound.issue {n pr u i eff} (heff : ∀ k t, Sound s₀ t → (eff k t).Sound s₀) : Sound s₀ (issue n pr u i eff s) := by
  refine .ite ?_ hs
  extract_lets e perf k s0
  split
  · rename_i h
    exact .fetchFault hs h
  · have h0 : Sound s₀ s0 := .modCe (.countFetch hs)
    refine .ite (.exception h0) (.ite (.modCe h0) ?_)
    have he := heff k s0 h0
    split
    · exact .exception h0
    · rename_i h
      rw [h] at he
      exact .modCe he

theorem Sound.breakPegs {ag} : Sound s₀ (s.breakPegs ag) := hs

theorem Sound.ssmLatency {n} : Sound s₀ (s.ssmLatency n).2 := .draw hs

theorem Sound.regLatency : Sound s₀ (s.regLatency).2 := .draw hs

theorem Sound.countSoftCe {n a} : Sound s₀ (s.countSoftCe n a) := .ite (.countF hs) hs

theorem Sound.countSoftSsm {a} : Sound s₀ (s.countSoftSsm a) := .ite (.countF hs) hs

theorem Sound.countBadSsm {a} : Sound s₀ (s.countBadSsm a) := .setF (.countF hs)

theorem Sound.armCheck {a} : Sound s₀ (s.armCheck a) := .setWhen hs

theorem Sound.planResetArm {a} : Sound s₀ (s.planResetArm a) := by
  unfold State.planResetArm
  refine .setF ?_
  exact hs

theorem Sound.planResetAll : Sound s₀ (s.planResetAll) := by
  unfold State.planResetAll
  refine .forIdx ?_ fun _ _ ht => .setF ht
  exact hs

theorem Sound.armClose {a} : Sound s₀ (s.armClose a) := .ite (.ite (.setF hs) (.ite hs (.setWhen (.modArm hs)))) hs

theorem Sound.planLane {a c p m} : Sound s₀ (s.planLane a c p m).1 := by
  unfold State.planLane
  split
  · exact .countF (.countF (.countF (.countF (.modLane hs))))
  · exact hs

theorem Sound.planLanes {a c p l d} : Sound s₀ (s.planLanes a c p l d).1 := by
  induction l generalizing s p d with
  | nil => exact hs
  | cons m t ih => exact ih (.planLane hs)

theorem Sound.armConverted {a} : Sound s₀ (s.armConverted a) := by
  unfold State.armConverted
  split
  · exact hs
  · exact .setWhen (.modArm (.setF (.setWhen (.planLanes hs))))

theorem Sound.modDrained : Sound s₀ (s.modDrained) := .setWhen hs

theorem Sound.sortRequest {a w} : Sound s₀ (s.sortRequest a w) := .ite (.modArm hs) hs

theorem Sound.writeSort {a r} : Sound s₀ (s.writeSort a r) := .freshRange (.setBytes (.setList hs))

theorem Sound.sortDone {a} : Sound s₀ (s.sortDone a) := by
  unfold State.sortDone
  split
  · exact .modArm (.writeSort hs)
  · exact hs

theorem Sound.modReset : Sound s₀ (s.modReset) := by
  unfold State.modReset
  extract_lets s1 s2
  have h1 : Sound s₀ s1 := .planResetAll (.setF (.setF hs))
  have h2 : Sound s₀ s2 := h1
  exact .forIdx h2 fun _ _ ht => .setF ht

theorem Sound.ceEnable {n} : Sound s₀ (s.ceEnable n) := .modCe (.setF (.setF hs))

theorem Sound.ceDisable {n} : Sound s₀ (s.ceDisable n) :=
  .ite (.ite (.endTask (.modCe (.setF (.setF hs)))) (.modCe (.setF (.setF hs)))) (.actOffDone (.setF (.setF hs)))

theorem Sound.ceReset {n} : Sound s₀ (s.ceReset n) := .actOffDone (.breakPegs (.modCe (.setF (.setF (.setF (.setF hs))))))

theorem Sound.skipStart {n} : Sound s₀ (s.skipStart n) := .countF (.orF hs)

theorem Sound.beginTask {n k dl} : Sound s₀ (s.beginTask n k dl) := by
  unfold State.beginTask
  extract_lets at_ w addr s1
  have h1 : Sound s₀ s1 := .modCe (.setF (.countSoftCe hs))
  exact .ite (.exception h1) (.ite (.exception h1) (.ite (.exception h1) h1))

theorem Sound.recordMiss {n} : Sound s₀ (s.recordMiss n) := .ite (.swTrip (.countF (.setF hs))) (.countF (.setF hs))

theorem Sound.missDeadline {n} : Sound s₀ (s.missDeadline n) :=
  .ite (.ite (.modCe (.recordMiss hs)) (.endTask (.recordMiss hs))) (.recordMiss hs)

theorem Sound.overrunEnd {n} : Sound s₀ (s.overrunEnd n) := .endTask (.setF hs)

theorem Sound.overrunCheck {n} : Sound s₀ (s.overrunCheck n) := .ite (.ite (.modCe hs) (.overrunEnd hs)) hs

theorem Sound.resumeEngine {n} : Sound s₀ (s.resumeEngine n) := by
  unfold State.resumeEngine
  extract_lets s1
  have h1 : Sound s₀ s1 := .modCe (.setF hs)
  split
  · exact h1
  · exact .endTask h1
  · exact .overrunEnd h1

theorem Sound.writeBank {n off v k} : Sound s₀ (s.writeBank n off v k) := by
  unfold State.writeBank
  split
  · exact hs
  · exact .ite hs (.ite (.setF hs) (.ite (.setF hs) (.setF (.freshWord (.setBytes hs)))))

theorem Sound.activate : Sound s₀ (s.activate) := .actSwap (.foldl (.setF hs) fun _ _ ht => .ite (.overrunEnd ht) ht)

theorem Sound.actOffCheck : Sound s₀ (s.actOffCheck) := .ite (.activate hs) hs

theorem Sound.actBoundary : Sound s₀ (s.actBoundary) := .ite (.activate hs) hs

theorem Sound.writeActCtrl {mode go} : Sound s₀ (s.writeActCtrl mode go) := by
  unfold State.writeActCtrl
  refine .ite ?_ ?_
  · exact hs
  · refine .ite ?_ ?_
    · exact .ite (.setF hs) hs
    · exact .ite (.setF (.setF ((show Sound s₀ (s.setBit Sys2Proof.Machine.Fld.CE_ACTCTRL_MODE 0 mode) from .setBit hs)))) (.setBit hs)

theorem Sound.windowStart : Sound s₀ (s.windowStart) := by
  unfold State.windowStart
  refine ?_
  exact hs

theorem Sound.ssmCount {who a k} : Sound s₀ (s.ssmCount who a k) :=
  .foldl hs fun _ _ ht => .ite ((by split <;> [exact .busError (.countBadSsm ht); exact .countBadSsm ht])) (.countSoftSsm ht)

theorem Sound.pegRead {core k off op} : Sound s₀ (s.pegRead core k off op) :=
  .ite (.busError (.countBadSsm hs)) (.answer (.modPeg (.countSoftSsm hs)))

theorem Sound.countSoft {a} : Sound s₀ (s.countSoft a) := by
  unfold State.countSoft
  split
  · exact .countSoftSsm hs
  · exact .countSoftSsm hs
  · exact .ite (.countSoftCe hs) hs
  · exact hs

theorem Sound.countPartial {a k} : Sound s₀ (s.countPartial a k) := .foldl hs fun _ _ ht => .ite ht (.countSoft ht)

theorem Sound.hostWord {w v} : Sound s₀ (s.hostWord w v) := by
  unfold State.hostWord
  split
  · exact .ite hs (.freshWord (.setWord hs))
  · exact .ite hs (.ite (.freshWord (.setWord hs)) (.writeBank hs))
  · exact hs

theorem Sound.hostWrite {a l} : Sound s₀ (s.hostWrite a l) := by
  unfold State.hostWrite
  split
  · exact .busError hs
  · exact .foldl (.foldl (.countPartial hs) fun _ _ ht => .ite ht (.hostWord ht)) fun _ _ ht => .busError (.ite (.countBadSsm ht) ht)

theorem Sound.hostRead {a k} : Sound s₀ (s.hostRead a k).2 := by
  unfold State.hostRead
  split
  · exact .busError hs
  · exact .foldl hs fun _ _ ht => .ite (.countSoft ht) (.busError (.ite (.countBadSsm ht) ht))

theorem Sound.setLstate {n v} : Sound s₀ (s.setLstate n v) := .ite (.modLane (.setF (.setF (.setF hs)))) (.setF hs)

theorem Sound.rxPolarity {n} : Sound s₀ (s.rxPolarity n) := .setWhen hs

theorem Sound.clearCheck : Sound s₀ (s.clearCheck) := .ite (.setF (.setF hs)) hs

theorem Sound.train {n} : Sound s₀ (s.train n) := .rxPolarity (.clearCheck (.modLane (.setLstate hs)))

theorem Sound.burst {n m} : Sound s₀ (s.burst n m) := .modLane hs

theorem Sound.enterUp {n} : Sound s₀ (s.enterUp n) := by
  unfold State.enterUp
  extract_lets s1 d s2
  have h1 : Sound s₀ s1 := .modLane (.setLstate hs)
  have h2 : Sound s₀ s2 := .ite (.setF (.draw h1)) h1
  exact .ite (.burst (.setF h2)) h2

theorem Sound.linkLost {n} : Sound s₀ (s.linkLost n) := .train (.countF (.setF hs))

theorem Sound.codeErrors {n errs} : Sound s₀ (s.codeErrors n errs) := .ite hs (.ite (.linkLost (.modLane (.countF hs))) (.modLane (.countF hs)))

theorem Sound.tbCheck {n} : Sound s₀ (s.tbCheck n) := .ite (.enterUp hs) hs

theorem Sound.retrain {n} : Sound s₀ (s.retrain n) := .ite hs (.train hs)

theorem Sound.writeRate {n rate} : Sound s₀ (s.writeRate n rate) := .ite hs (.ite (.setF hs) (.retrain (.setBit hs)))

theorem Sound.exitIdle {n} : Sound s₀ (s.exitIdle n) := .ite (.setLstate hs) (.train hs)

theorem Sound.enterIdle {n} : Sound s₀ (s.enterIdle n) := .clearCheck (.modLane (.setLstate hs))

theorem Sound.exitLater {n} : Sound s₀ (s.exitLater n) := .ite (.modLane hs) hs

theorem Sound.laneEnable {n} : Sound s₀ (s.laneEnable n) := by
  unfold State.laneEnable
  extract_lets s1
  have h1 : Sound s₀ s1 := .setWhen (.setF (.setF hs))
  exact .ite (.train h1) (.ite h1 (.ite (.exitIdle h1) (.exitLater h1)))

theorem Sound.laneReachOff {n} : Sound s₀ (s.laneReachOff n) := .ite (.enterIdle (.setF hs)) (.setF hs)

theorem Sound.laneDisable {n} : Sound s₀ (s.laneDisable n) := .ite (.setF (.setF hs)) (.laneReachOff (.setF hs))

theorem Sound.eireqSet {n} : Sound s₀ (s.eireqSet n) := .ite (.setF hs) (.ite (.enterIdle (.setF hs)) (.setF hs))

theorem Sound.eireqClear {n} : Sound s₀ (s.eireqClear n) := .ite (.exitIdle (.setF hs)) (.exitLater (.setF hs))

theorem Sound.mlAll {v} : Sound s₀ (s.mlAll v) := .forIdx hs fun _ _ ht => .ite ht (.setF ht)

theorem Sound.mirPolarity {m} : Sound s₀ (s.mirPolarity m) := .setWhen hs

theorem Sound.modMl {m f} : Sound s₀ (s.modMl m f) := hs

theorem Sound.mirTrain : Sound s₀ s.mirTrain := by
  unfold State.mirTrain
  extract_lets s1 s2 s3 _ s4
  have h1 : Sound s₀ s1 := .setF (.mlAll hs)
  clear_value s1
  have h2 : Sound s₀ s2 := .forIdx (.upd h1) fun _ _ ht => .mirPolarity ht
  have h3 : Sound s₀ s3 := .setF (.setF (.setF h2))
  clear_value s3
  have h4 : Sound s₀ s4 := .upd h3
  exact .ite (.ite (.setF (.setF h4)) h4) h2

theorem Sound.mirDown : Sound s₀ (s.mirDown) := by
  unfold State.mirDown
  refine .ite ?_ hs
  exact hs

theorem Sound.mirRetrain : Sound s₀ (s.mirRetrain) := .ite hs (.mirTrain hs)

theorem Sound.mirOrder : Sound s₀ (s.mirOrder) := by
  unfold State.mirOrder
  refine .ite ?_ ?_
  · extract_lets nums
    refine .ite ?_ ?_
    · exact (show Sound s₀ (s.setF Sys2Proof.Machine.Fld.MIR_LANEMAP_REVERSED 0 0) from .setF hs)
    · exact .ite ((show Sound s₀ (s.setF Sys2Proof.Machine.Fld.MIR_LANEMAP_REVERSED 0 1) from .setF hs)) (.mirTrain (.setF hs))
  · exact hs

theorem Sound.mirLost {m} : Sound s₀ (s.mirLost m) := .mirTrain (.countF (.setF hs))

theorem Sound.headerError {m} : Sound s₀ (s.headerError m) := .ite (.mirLost (.modMl (.countF hs))) (.modMl (.countF hs))

theorem Sound.writeTxeq {x w} : Sound s₀ (s.writeTxeq x w) := by
  unfold State.writeTxeq
  cases x with
  | lane n => exact .ite (.setF hs) (.setF (.setF (.setF hs)))
  | mirror m => exact .ite (.setF hs) (.setF (.setF (.setF hs)))
  | host p => exact .ite hs (.setF (.setF (.setF hs)))

theorem Sound.testFollow {x} : Sound s₀ (s.testFollow x) := by
  unfold State.testFollow
  split
  · exact .ite (.clearCheck (.setLstate hs)) (.ite (.train hs) hs)
  · exact .ite (.setF (.ite (.mirTrain hs) hs)) (.ite (.ite (.setF hs) (.mirTrain hs)) hs)
  · exact .ite hs (.ite (.setF hs) (.ite (.setF hs) hs))

theorem Sound.modPat {x f} : Sound s₀ (s.modPat x f) := by
  unfold State.modPat
  split
  · exact .modLane hs
  · exact .modMl hs
  · exact hs

theorem Sound.checkBit {x bit} : Sound s₀ (s.checkBit x bit) := by
  cases x <;>
  exact .ite hs (.ite (.ite (.setF (.setF (.modPat (.countF (.modPat hs))))) (.countF (.modPat hs))) (.setWhen (.modPat hs)))

theorem Sound.checkBits {x bits} : Sound s₀ (s.checkBits x bits) :=
  .foldl (.ite (.modPat (.ite (.modPat hs) hs)) (.ite (.modPat hs) hs)) fun _ _ ht => .checkBit ht

theorem Sound.startGen {x} : Sound s₀ (s.startGen x) := .modPat (.draw hs)

theorem Sound.writePatctrl {x w} : Sound s₀ (s.writePatctrl x w) := by
  cases x <;>
  · unfold State.writePatctrl
    extract_lets f v loop gen inS4Lane s1 s2 s3
    have h1 : Sound s₀ s1 := .setF (.setF (.setF (.setF (.setF (.setF (.setF hs))))))
    have h2 : Sound s₀ s2 := .ite (.startGen h1) h1
    have h3 : Sound s₀ s3 := .ite (.modPat (.setF h2)) h2
    exact .ite (.setF hs) (.testFollow h3)

theorem Sound.laneEnterS4 {n} : Sound s₀ (s.laneEnterS4 n) :=
  .ite (.testFollow (.setF (.setF hs))) (.ite (.eireqClear (.setF (.setF hs))) (.setF (.setF hs)))

theorem Sound.mirEnterS4 : Sound s₀ (s.mirEnterS4) := .forIdx hs fun _ _ ht => .testFollow (.setF (.setF ht))

theorem Sound.sendFrames {n fs} : Sound s₀ (s.sendFrames n fs) := .modLane hs

theorem Sound.latency : Sound s₀ (s.latency).2 := .draw hs

theorem Sound.writeSlot {n o w} : Sound s₀ (s.writeSlot n o w) := .ite (.setF hs) (.ite (.setF hs) (.setWord hs))

theorem Sound.clgSwapNow : Sound s₀ (s.clgSwapNow) := .setF (.setF (.setF (.foldl hs fun _ _ ht => .setF ht)))

theorem Sound.clgBoundary : Sound s₀ (s.clgBoundary) := .ite (.clgSwapNow hs) hs

theorem Sound.clgAtuOff : Sound s₀ (s.clgAtuOff) := .ite (.clgSwapNow hs) hs

theorem Sound.writeClgSwap {mode go} : Sound s₀ (s.writeClgSwap mode go) :=
  .ite (.ite (.setF hs) hs) (.ite (.setF (.setF (.setBit hs))) (.setBit hs))

theorem Sound.sendTimebase {n late} : Sound s₀ (s.sendTimebase n late) := .clearCheck (.modLane (.sendFrames (.latency hs)))

theorem Sound.sendHeldClear {n} : Sound s₀ (s.sendHeldClear n) := .clearCheck (.modLane (.sendFrames hs))

theorem Sound.sendDelayReq {n late} : Sound s₀ (s.sendDelayReq n late) := .sendFrames (.modLane (.latency hs))

theorem Sound.lateConv {n} : Sound s₀ (s.lateConv n) := .forIdx hs fun _ _ ht => .ite (.setF ht) ht

theorem Sound.noackStep {ended} : Sound s₀ (s.noackStep ended) := .forIdx hs fun _ _ ht => .ite (.countF ht) ht

theorem Sound.noteEpoch {n e} : Sound s₀ (s.noteEpoch n e) := by
  unfold State.noteEpoch
  refine .setWhen (.setWhen (.setWhen ?_))
  exact hs

theorem Sound.receive {n ty f bad ok} (hbad : ∀ k t, Sound s₀ t → Sound s₀ (bad k t)) (hok : ∀ t, Sound s₀ t → Sound s₀ (ok t)) :
    Sound s₀ (s.receive n ty f bad ok) := by
  unfold State.receive
  extract_lets s1 lost
  have h1 : Sound s₀ s1 := .modLane hs
  have h2 : Sound s₀ lost := .countF h1
  refine .ite (.codeErrors ?_) hs
  split
  · exact hok _ (.noteEpoch h1)
  · exact hbad 1 _ h2
  · exact hbad 2 _ (.countF h2)
  · exact hbad 3 _ (.countF h2)

theorem Sound.takeDelay {n rts} : Sound s₀ (s.takeDelay n rts) := .setWhen (.setF (.setF (.draw hs)))

theorem Sound.delayResult {n rt} : Sound s₀ (s.delayResult n rt) :=
  .ite (.ite (.setF (.takeDelay (.modLane hs))) (.modLane hs)) (.ite (.takeDelay (.modLane hs)) (.modLane hs))

theorem Sound.delayVoid {n} : Sound s₀ (s.delayVoid n) := .modLane hs

theorem Sound.bulkGo {n e} : Sound s₀ (s.bulkGo n e) := .ite hs (.modLane (.orF (.orF hs)))

theorem Sound.clrF {f i b} (hf : f.isBall = false := by rfl) : Sound s₀ (s.clrF f i b) := .ite (.setF hs hf) hs

theorem Sound.setBrxHdr {n e chan seq} : Sound s₀ (s.setBrxHdr n e chan seq) := .ite (.setF (.setF hs)) (.setF (.setF hs))

theorem Sound.bulkFree {n e} : Sound s₀ (s.bulkFree n e) := .clrF hs

theorem Sound.clearRequest : Sound s₀ (s.clearRequest) :=
  .ite hs (.ite (.setF hs) (.clearCheck (.forIdx (.setF hs) fun _ _ ht => .ite (.modLane ht) ht)))

theorem Sound.passTime {t} : Sound s₀ (s.passTime t) := .ite (.passTo hs) hs

theorem Sound.toutSchedule {n} : Sound s₀ (s.toutSchedule n) := by
  unfold State.toutSchedule
  refine .ite ?_ (.ite (.setF ?_) ?_)
  exact hs
  exact hs
  exact hs

theorem Sound.toutEnable {n} : Sound s₀ (s.toutEnable n) := .ite hs (.ite (.setF hs) (.toutSchedule (.setF (.setF hs))))

theorem Sound.toutDisable {n} : Sound s₀ (s.toutDisable n) := by
  have h1 : Sound s₀ ((s.setF .TOUT_CTRL_EN n 0).setF .TOUT_CTRL_ENST n enstOff) := .setF (.setF hs)
  exact h1

theorem Sound.stepped : Sound s₀ (s.stepped) := .forIdx (.setF hs) fun _ _ ht => .ite (.ite (.toutSchedule ht) ht) ht

theorem Sound.timeSet : Sound s₀ (s.timeSet) := by
  unfold State.timeSet
  refine .ite (.setF hs) (.stepped (.setF ?_))
  exact hs

theorem Sound.timeStep : Sound s₀ (s.timeStep) := by
  unfold State.timeStep
  refine .stepped ?_
  exact hs

theorem Sound.readTimeNs {r} : Sound s₀ (s.readTimeNs r).2 := by
  unfold State.readTimeNs
  refine ?_
  exact hs

theorem Sound.setLatch {i v} : Sound s₀ (s.setLatch i v) := by
  unfold State.setLatch
  refine .ite (.ite (.orF hs) (.clrF hs)) (.ite (.ite (.orF hs) (.clrF hs)) (.ite (.ite (.orF hs) (.clrF hs)) ?_))
  split
  · exact .setBit hs
  · exact .setBit hs
  · exact .setBit hs
  · exact .setBit hs
  · exact .setBit hs
  · exact hs

theorem Sound.latchFixed : Sound s₀ (s.latchFixed) := .foldl hs fun _ _ ht => .ite (.setLatch ht) ht

theorem Sound.muteLanes {mask} : Sound s₀ (s.muteLanes mask) := .forIdx hs fun _ _ ht => .ite (.burst (.setF ht)) ht

theorem Sound.recordFirst {src} : Sound s₀ (s.recordFirst src) := .ite hs (.setF (.setF (.setBit (.setF (.setF hs)))))

theorem Sound.muteCycle : Sound s₀ (s.muteCycle) := by
  unfold State.muteCycle
  extract_lets s1 src want
  have h1 : Sound s₀ s1 := .latchFixed hs
  exact .ite h1 (.ite (.ite h1 (.muteLanes (.setF h1))) (.planResetAll (.muteLanes (.recordFirst (.setF (.setF h1))))))

theorem Sound.muteClear : Sound s₀ (s.muteClear) := .ite (.setF hs) (.forIdx (.setF hs) fun _ _ ht => .setF ht)

theorem Sound.clearLatches {k w} : Sound s₀ (s.clearLatches k w) := by
  unfold State.clearLatches
  extract_lets hit held s1
  have h1 : Sound s₀ s1 := .foldl hs fun _ _ ht => .ite ht (.setLatch ht)
  split
  · exact h1
  · exact .setF (.setF h1)

theorem Sound.writeRoute {t w} : Sound s₀ (s.writeRoute t w) := by
  cases t <;> exact .ite (.setWhen hs) (.ite (.muteCycle (.setF (.setF hs))) (.setF (.setF hs)))

theorem Sound.supTrip : Sound s₀ (s.supTrip) := .setF hs

theorem Sound.modTrIn {x f} : Sound s₀ (s.modTrIn x f) := by
  unfold State.modTrIn
  split
  · exact hs
  · exact hs

theorem Sound.qualify {x} : Sound s₀ (s.qualify x) := by
  cases x with
  | cmp n => exact .setBit (.setLatch (.setF hs))
  | pin n => exact .setLatch (.setF hs)

theorem Sound.gateStep {x} : Sound s₀ (s.gateStep x) := by
  cases x <;> exact .ite (.ite (.qualify (.modTrIn hs)) (.modTrIn hs)) (.setF (.modTrIn hs))

theorem Sound.decideIn {x} : Sound s₀ (s.decideIn x) := .ite hs (.gateStep (.ite (.modTrIn hs) hs))

theorem Sound.blankEndIn {x} : Sound s₀ (s.blankEndIn x) := .ite (.modTrIn hs) (.gateStep (.modTrIn hs))

theorem Sound.filtTicks {x k now} : Sound s₀ (s.filtTicks x k now) := .ite (.qualify (.modTrIn hs)) (.modTrIn hs)

theorem Sound.ticksTo {x now} : Sound s₀ (s.ticksTo x now) := .ite hs (.filtTicks (.ite (.decideIn hs) hs))

theorem Sound.inputRun {x} : Sound s₀ (s.inputRun x) := .ite hs (.ticksTo (.ite (.blankEndIn (.ticksTo hs)) hs))

theorem Sound.inputsRun : Sound s₀ (s.inputsRun) := .forIdx (.forIdx hs fun _ _ ht => .inputRun ht) fun _ _ ht => .inputRun ht

theorem Sound.ticksReturn : Sound s₀ (s.ticksReturn) := hs

theorem Sound.trInEnable {x} : Sound s₀ (s.trInEnable x) := by
  cases x with
  | cmp n => exact .ite hs (.ite (.modTrIn (.setF (.setF (.setF hs)))) (.decideIn (.modTrIn (.setF (.setF (.setF hs))))))
  | pin n => exact .ite hs (.decideIn (.modTrIn (.setF (.setF (.setF hs)))))

theorem Sound.trInDisable {x} : Sound s₀ (s.trInDisable x) := by
  cases x <;> exact .ite hs (.ite (.setF hs) (.modTrIn (.setF (.setF (.setF hs)))))

theorem Sound.openWindows {p h rising} : Sound s₀ (s.openWindows p h rising) :=
  .foldl hs fun _ _ ht => .ite (.modTrIn (.inputRun ht)) (.inputRun ht)

theorem Sound.modPair {n f} : Sound s₀ (s.modPair n f) := hs

/-- A switch turns off. -/
theorem Sound.turnOff {n : Fin 24} {high : Bool} : Sound s₀ (s.setBall n high false) :=
  .ite hs (.modPair (.openWindows (.setF' hs fun ha => ha.turnOff n high)))

/-- A switch turns on where the other switch of the pair is off. -/
theorem Sound.turnOn {n : Fin 24} {high : Bool} (hoff : s.bit (if high then .PW_STAT_LON else .PW_STAT_HON) n = false) :
    Sound s₀ (s.setBall n high true) :=
  .ite hs (.modPair (.openWindows (.setF' hs fun ha => ha.turnOn hoff)))

theorem Sound.drive {n want} : Sound s₀ (s.drive n want) := by
  unfold State.drive
  extract_lets dt s1 s2 q s3
  have h1 : Sound s₀ s1 := .ite hs (.turnOff hs)
  have h2 : Sound s₀ s2 := .ite h1 (.turnOff h1)
  have h3 : Sound s₀ s3 := .cond (fun h => .turnOn h2 (by simp_all)) h2
  exact .cond (fun h => .turnOn h3 (by simp_all)) h3

theorem Sound.cbcCut {n} : Sound s₀ (s.cbcCut n) := .countF (.modPair hs)

theorem Sound.planPart {n} : Sound s₀ (s.planPart n) :=
  .ite (.setF (.setF (.modPair (.ite (.cbcCut hs) hs)))) (.setF (.modPair (.ite (.cbcCut hs) hs)))

theorem Sound.settle {n} : Sound s₀ (s.settle n) :=
  .ite (.drive (.ite hs (.planPart hs))) (.ite (.drive (.ite hs (.planPart hs))) (.ite (.ite hs (.planPart hs)) (.drive (.ite hs (.planPart hs)))))

theorem Sound.countJudge {n j} : Sound s₀ (s.countJudge n j) := .countF (.countF (.countF hs))

theorem Sound.chainTake {m k} : Sound s₀ (s.chainTake m k) := by
  induction k generalizing s m with
  | zero => exact hs
  | succ k ih => exact .foldl hs fun _ _ ht => .ite (.ite (ih (.modPair ht)) (.modPair ht)) ht

theorem Sound.loadPoint {n} : Sound s₀ (s.loadPoint n) := .chainTake (.countJudge (.modPair hs))

theorem Sound.edgeStep {n} : Sound s₀ (s.edgeStep n) := by
  unfold State.edgeStep
  extract_lets q
  split
  · exact .ite (.settle (.modPair hs)) hs
  · exact hs

theorem Sound.finishEdges {n k} : Sound s₀ (s.finishEdges n k) := by
  induction k generalizing s with
  | zero => exact hs
  | succ k ih => exact ih (.edgeStep hs)

theorem Sound.pairStop {n} : Sound s₀ (s.pairStop n) := .settle (.modPair (.setF hs))

theorem Sound.beginPeriod {n} : Sound s₀ (s.beginPeriod n) := .settle (.modPair hs)

theorem Sound.loadPhase {n p planned} : Sound s₀ (s.loadPhase n p planned) :=
  .ite (.beginPeriod (.modPair hs)) (.ite (.beginPeriod (.modPair (.countJudge (.modPair hs)))) (.settle (.modPair (.countJudge (.modPair hs)))))

theorem Sound.chainLoad {m k} : Sound s₀ (s.chainLoad m k) := by
  induction k generalizing s m with
  | zero => exact hs
  | succ k ih => exact .foldl hs fun _ _ ht => .ite (.ite ht (.ite (ih (.loadPhase ht)) (.loadPhase ht))) ht

theorem Sound.periodStart {n} : Sound s₀ (s.periodStart n) := by
  unfold State.periodStart
  extract_lets s1 s2
  have h1 : Sound s₀ s1 := .finishEdges hs
  have h2 : Sound s₀ s2 := .modPair h1
  exact .ite (.pairStop h2) (.chainLoad (.beginPeriod (.ite h2 (.loadPoint h2))))

theorem Sound.pwmStart {mask} : Sound s₀ (s.pwmStart mask) := by
  unfold State.pwmStart
  extract_lets hit m s1
  have h1 : Sound s₀ s1 := .foldl hs fun _ _ ht => .ite (.chainTake (.modPair ht)) (.modPair ht)
  exact h1

theorem Sound.startDue : Sound s₀ s.startDue := by
  unfold State.startDue
  split
  · exact hs
  · refine .foldl (by exact hs) fun _ _ ht => ?_
    exact .ite (.ite (.ite (.chainLoad (.loadPhase (.modPair ht))) (.loadPhase (.modPair ht))) (.modPair ht)) ht

theorem Sound.pairEnable {n} : Sound s₀ (s.pairEnable n) := .ite (.settle (.modPair (.setF (.setF hs)))) (.setF (.setF hs))

theorem Sound.pairDisable {n} : Sound s₀ (s.pairDisable n) := .ite (.setF hs) (.ite (.pairStop (.setF hs)) (.setF (.setF hs)))

theorem Sound.writeOvr {n u l} : Sound s₀ (s.writeOvr n u l) := .settle (.ite (.setF (.ite (.setF hs) (.setF hs))) (.setF (.ite (.setF hs) (.setF hs))))

theorem Sound.pairTrip {n} : Sound s₀ (s.pairTrip n) := .settle (.drive (.setF hs))

theorem Sound.tripClear {n} : Sound s₀ (s.tripClear n) := .ite (.setF hs) (.ite (.modPair (.setF (.setF hs))) hs)

theorem Sound.pairsClockLoss : Sound s₀ (s.pairsClockLoss) := .forIdx hs fun _ _ ht => .settle ht

theorem Sound.pairsClockBack : Sound s₀ (s.pairsClockBack) := .forIdx hs fun _ _ ht => .ite (.settle (.setF ht)) ht

theorem Sound.haltEngine {n brk} : Sound s₀ (s.haltEngine n brk) := by
  have h1 : Sound s₀ (s.debugHalt n) := .debugHalt hs
  exact h1

theorem Sound.fireTrigger {n b t} (h : s.fireTrigger n b = some t) : Sound s₀ t := by
  simp only [State.fireTrigger] at h
  split at h
  · split_ifs at h
    cases h
    exact .modPair hs
  · cases h

theorem Sound.modAdc {m f} : Sound s₀ (s.modAdc m f) := hs

theorem Sound.scanEnd {m} : Sound s₀ (s.scanEnd m) := by
  unfold State.scanEnd
  split
  · exact .ite (.setF (.modAdc hs)) hs
  · exact hs

theorem Sound.adcNext {m} : Sound s₀ (s.adcNext m) := by
  unfold State.adcNext
  refine .ite ?_ ?_
  · exact hs
  · extract_lets s1
    have h1 : Sound s₀ s1 := .scanEnd hs
    split
    · exact .modAdc h1
    · split
      · exact .modAdc h1
      · exact h1
    · exact h1

theorem Sound.scanDrop {m l fret} : Sound s₀ (s.scanDrop m l fret) := .ite (.orF (.orF hs)) (.orF hs)

theorem Sound.scanBegin {m l fret} : Sound s₀ (s.scanBegin m l fret) := .adcNext (.modAdc (.setF (.setF (.setWhen (.setF hs)))))

theorem Sound.scanYield {m sc fret seq ptr} : Sound s₀ (s.scanYield m sc fret seq ptr) := .scanDrop (.modAdc (.setF (.setF hs)))

theorem Sound.scanRefuse {m l fret} : Sound s₀ (s.scanRefuse m l fret) := .orF (.modAdc hs)

theorem Sound.scanFirst {m l fret} : Sound s₀ (s.scanFirst m l fret) := .scanBegin (.foldl hs fun _ _ ht => .scanDrop (.setWhen ht))

theorem Sound.scanStart {m l fret} : Sound s₀ (s.scanStart m l fret) := by
  unfold State.scanStart
  refine .ite ?_ ?_
  · exact hs
  · split
    · split
      · exact .ite (.modAdc hs) (.ite (.ite (.scanRefuse hs) (.scanBegin (.scanYield hs))) (.scanDrop hs))
      · exact .scanDrop hs
    · exact .ite (.scanRefuse hs) (.scanFirst hs)

theorem Sound.swgo {m lists} : Sound s₀ (s.swgo m lists) := .foldl hs fun _ _ ht => .ite (.scanStart ht) ht

theorem Sound.pwmEvent {e} : Sound s₀ (s.pwmEvent e) := .foldl hs fun _ _ ht => .foldl ht fun _ _ ht => .ite (.scanStart ht) ht

theorem Sound.storeResult {m sc c code} : Sound s₀ (s.storeResult m sc c code) := .setF (.freshWord (.setBytes hs))

theorem Sound.atuSample {x angle code} : Sound s₀ (s.atuSample x angle code) := by
  unfold State.atuSample
  refine .ite hs (.ite ?_ ?_)
  exact hs
  exact hs

theorem Sound.atuRequest {x} : Sound s₀ (s.atuRequest x) := by
  unfold State.atuRequest
  refine .ite (.adcNext (.modAdc hs)) (.atuSample ?_)
  exact hs

theorem Sound.atuConversions : Sound s₀ (s.atuConversions) := by
  unfold State.atuConversions
  refine .ite ?_ (.foldl ?_ fun _ _ ht => .atuRequest ht)
  exact hs
  exact hs

theorem Sound.adEnable {m} : Sound s₀ (s.adEnable m) := .setF (.setF hs)

theorem Sound.atuDrop {m xs} : Sound s₀ (s.atuDrop m xs) := by
  unfold State.atuDrop
  refine .foldl hs fun _ _ ht => .atuSample ?_
  exact ht

theorem Sound.adDisable {m} : Sound s₀ (s.adDisable m) := by
  unfold State.adDisable
  refine .ite ?_ ?_
  · exact .setF hs
  · exact .ite (.setF (.modAdc (.ite (.setF (.modAdc (.atuDrop (.setF hs)))) (.atuDrop (.setF hs))))) (.setF (.setF (.modAdc (.atuDrop (.setF hs)))))

theorem Sound.adReset {m} : Sound s₀ (s.adReset m) := .ite (.setF hs) (.setF (.setF (.setF (.modAdc (.atuDrop hs)))))

theorem Sound.writeTdac {m w} : Sound s₀ (s.writeTdac m w) := .ite (.setF (.setWhen hs)) (.setF (.setF (.setF (.setF (.setWhen hs)))))

theorem Sound.modAux {x f} : Sound s₀ (s.modAux x f) := hs

theorem Sound.auxDrive {x} : Sound s₀ (s.auxDrive x) := .modAux hs

theorem Sound.auxDriveAll : Sound s₀ (s.auxDriveAll) := .forIdx hs fun _ _ ht => .auxDrive ht

theorem Sound.auxEdge {x} : Sound s₀ (s.auxEdge x) := by
  unfold State.auxEdge
  refine .ite ?_ ?_
  · exact hs
  · extract_lets a _ _ s1 s2
    have h1 : Sound s₀ s1 := (show Sound s₀ (s.modAux x fun a =>
  { hon := a.hon, gH := a.gH, gL := a.gL, hcmd := a.hcmd, lcmd := a.lcmd, ho := a.ho, lo := a.lo, hOff := a.hOff,
    lOff := a.lOff, monH := a.monH, monL := a.monL, bsLow := a.bsLow, bsHold := a.bsLow, vdHold := s.auxc.vdLow }) from .modAux hs)
    have h2 : Sound s₀ s2 := .ite (.countF (.setF h1)) h1
    exact .setBit h2

theorem Sound.auxCommand {x} : Sound s₀ (s.auxCommand x) := .auxDriveAll (.setWhen (.setBit (.ite (.auxEdge (.modAux hs)) (.modAux hs))))

theorem Sound.auxPeriod {x} : Sound s₀ (s.auxPeriod x) :=
  .ite (.auxCommand (.modAux (.setF (.modAux hs)))) (.ite (.auxCommand (.modAux (.countF (.modAux hs)))) (.modAux hs))

theorem Sound.auxPeriodStart : Sound s₀ (s.auxPeriodStart) := by
  unfold State.auxPeriodStart
  refine .forIdx ?_ fun _ _ ht => .auxPeriod ht
  exact hs

theorem Sound.auxRaise {c} : Sound s₀ (s.auxRaise c) := by
  unfold State.auxRaise
  refine .ite ?_ hs
  exact hs

theorem Sound.auxMatch {x} : Sound s₀ (s.auxMatch x) := .auxCommand (.modAux (.auxRaise hs))

theorem Sound.auxSupply {vd vh} : Sound s₀ (s.auxSupply vd vh) := by
  unfold State.auxSupply
  refine .setBit (.setBit ?_)
  exact hs

theorem Sound.auxDesat {x high} : Sound s₀ (s.auxDesat x high) := by
  unfold State.auxDesat
  extract_lets s1
  have h1 : Sound s₀ s1 := .countF hs
  refine .ite ?_ ?_
  · exact .ite h1 (.auxDriveAll (.setF ((show Sound s₀ (s1.setF Sys2Proof.Machine.Fld.AUXH_STAT_DESAT (↑x) 1) from .setF h1))))
  · exact .auxDrive (.modAux (.setF h1))

theorem Sound.writeAuxOvr {x h l} : Sound s₀ (s.writeAuxOvr x h l) := .auxCommand (.setF (.setF hs))

theorem Sound.auxEnable {x} : Sound s₀ (s.auxEnable x) := .setF (.setF hs)

theorem Sound.auxDisable {x} : Sound s₀ (s.auxDisable x) := .ite (.setF hs) (.ite (.setF (.setF hs)) (.auxCommand (.setF (.setF hs))))

theorem Sound.phaseLow {p} : Sound s₀ (s.phaseLow p) := by
  unfold State.phaseLow
  refine .ite ?_ hs
  exact hs

theorem Sound.writeVid {v} : Sound s₀ (s.writeVid v) := .ite (.setF hs) (.setF hs)

theorem Sound.phasesMid : Sound s₀ (s.phasesMid) := hs

theorem Sound.phasesFitted : Sound s₀ (s.phasesFitted) := hs

theorem Sound.softStart : Sound s₀ (s.softStart) := .setF (.setF hs)

theorem Sound.modSer {f} : Sound s₀ (s.modSer f) := hs

theorem Sound.setSer {v} : Sound s₀ (s.setSer v) := .setBit (.setF hs)

theorem Sound.abandonTests : Sound s₀ (s.abandonTests) := .modSer (.setWhen (.countF hs))

theorem Sound.serLeave {v} : Sound s₀ (s.serLeave v) := .ite (.modSer (.abandonTests hs)) (.modSer (.setSer (.abandonTests hs)))

theorem Sound.recordFault {code idx} : Sound s₀ (s.recordFault code idx) := .ite hs (.modSer (.setF (.setF hs)))

theorem Sound.countDemand : Sound s₀ (s.countDemand) := .modSer (.countF hs)

theorem Sound.serFail {code idx} : Sound s₀ (s.serFail code idx) :=
  .ite (.modSer (.setSer (.setF (.recordFault hs)))) (.ite (.abandonTests (.recordFault hs)) (.serLeave (.recordFault hs)))

theorem Sound.serForce {code} : Sound s₀ (s.serForce code) := .modSer (.setSer (.countDemand (.abandonTests (.recordFault hs))))

theorem Sound.soutCut : Sound s₀ (s.soutCut) := by
  unfold State.soutCut
  split
  · exact hs
  · exact .modSer (.countDemand (.setSer hs))

theorem Sound.clearChecks : Sound s₀ (s.clearChecks) := .setF (.setF hs)

theorem Sound.takeRecord : Sound s₀ (s.takeRecord) :=
  .modSer (.setF (.ite (.setF (.setF (.setF (.setF (.setF (.setBit hs)))))) (.setF (.setSer (.setF (.setF (.setF (.setF (.setF (.setBit hs))))))))))

theorem Sound.confirmStep : Sound s₀ (s.confirmStep) := .ite (.modSer (.clearChecks (.setF (.setF (.setSer (.setF (.setF hs))))))) (.setF hs)

theorem Sound.sampleInputs {closed} : Sound s₀ (s.sampleInputs closed) := .modSer (.setF (.setF (.setF hs)))

theorem Sound.pairStep : Sound s₀ (s.pairStep) := .modSer hs

theorem Sound.guardStep : Sound s₀ (s.guardStep) :=
  .foldl hs fun _ _ ht => .ite ht (.ite (.modSer (.clrF ht)) (.ite (.orF ht) (.ite (.modSer ht) ht)))

theorem Sound.enterPermit : Sound s₀ (s.enterPermit) := .modSer (.setSer hs)

theorem Sound.serTransition {ok} : Sound s₀ (s.serTransition ok) := by
  unfold State.serTransition
  extract_lets r dem st
  refine .ite ?_ ?_
  · exact .ite (.enterPermit (.guardStep hs)) (.guardStep hs)
  · refine .ite ?_ ?_
    · exact .ite hs (.clearChecks (.setSer hs))
    · exact .ite (.ite (.enterPermit hs) (.modSer hs)) (.ite (.ite (.serLeave hs) hs) (.ite (.ite (.serLeave hs) (.modSer hs)) hs))

theorem Sound.causeStep {sf} : Sound s₀ (s.causeStep sf) := .ite (.modSer hs) (.ite (.modSer hs) hs)

theorem Sound.serChecks {sf diag} : Sound s₀ (s.serChecks sf diag) := by
  unfold State.serChecks
  refine .ite ?_ ?_
  · exact .serFail hs
  · split
    · exact .serFail hs
    · exact .serFail hs
    · exact hs

theorem Sound.readSouts {rb} : Sound s₀ (s.readSouts rb) := .modSer hs

theorem Sound.newDemand {old} : Sound s₀ (s.newDemand old) := .ite (.abandonTests (.modSer hs)) (.modSer hs)

theorem Sound.safetyCycle {closed rb diag} : Sound s₀ (s.safetyCycle closed rb diag) := by
  unfold State.safetyCycle
  extract_lets s0 sf s1 s2 s3 s4
  have h1 : Sound s₀ s0 := .readSouts (.soutCut hs)
  have h2 : Sound s₀ s1 := .ite (.takeRecord h1) h1
  have h3 : Sound s₀ s2 := .ite (.confirmStep h2) h2
  have h4 : Sound s₀ s3 := .ite (.newDemand (.pairStep (.sampleInputs h3))) h3
  have h5 : Sound s₀ s4 := .ite (.serTransition h4) h4
  exact .serChecks (.causeStep h5)

theorem Sound.serStart {version} : Sound s₀ (s.serStart version) := .ite (.modSer (.setF (.setSer hs))) hs

theorem Sound.pulseEnd {k before closed} : Sound s₀ (s.pulseEnd k before closed) := by
  unfold State.pulseEnd
  extract_lets own stuck others mask s1
  have h1 : Sound s₀ s1 := .modSer hs
  split
  · exact .serFail h1
  · exact .modSer h1

theorem Sound.recoveryCheck {k before closed} : Sound s₀ (s.recoveryCheck k before closed) := by
  unfold State.recoveryCheck
  extract_lets own proof s1
  have h1 : Sound s₀ s1 := .modSer hs
  exact .ite (.ite (.ite (.foldl (.orF (.ite (.modSer h1) h1)) fun _ _ ht => .ite (.orF ht) ht) (.orF (.ite (.modSer h1) h1))) (.ite (.modSer h1) h1)) h1

theorem Sound.darkEnd {n r} : Sound s₀ (s.darkEnd n r) := by
  unfold State.darkEnd
  extract_lets on s1
  have h1 : Sound s₀ s1 := .modSer hs
  split
  · exact .ite (.orF h1) h1
  · exact .serFail h1
  · exact .ite (.serFail h1) h1

theorem Sound.serParam {r} : Sound s₀ (s.serParam r) := .setWhen (.modSer hs)

theorem Sound.serConfirm {w} : Sound s₀ (s.serConfirm w) := .modSer hs

theorem Sound.serRefuse : Sound s₀ (s.serRefuse) := .countF hs

theorem Sound.serRestart : Sound s₀ (s.serRestart).1 := by
  unfold State.serRestart
  extract_lets dem
  split
  · exact .serRefuse hs
  · split
    · exact .modSer hs
    · split
      · exact .clearChecks (.setF (.setSer hs))
      · exact .serRefuse hs

theorem Sound.serTestReq : Sound s₀ (s.serTestReq).1 := by
  unfold State.serTestReq
  split
  · exact .modSer (.setSer hs)
  · exact .serRefuse hs

theorem Sound.sourceLost : Sound s₀ (s.sourceLost) := by
  unfold State.sourceLost
  refine .ite (.setF (.setF (.setF (.setF (.setWhen ?_))))) hs
  exact hs

theorem Sound.sourceCheck : Sound s₀ (s.sourceCheck) := .ite (.sourceLost (.setWhen hs)) (.setWhen hs)

theorem Sound.svCheck : Sound s₀ (s.svCheck) := .ite (.sourceLost (.setWhen hs)) (.setWhen hs)

theorem Sound.svSelect {old} : Sound s₀ (s.svSelect old) := by
  unfold State.svSelect
  refine .ite hs ?_
  exact hs

theorem Sound.showPherr {v} : Sound s₀ (s.showPherr v) := .setF hs

theorem Sound.slewBegin {v} : Sound s₀ (s.slewBegin v) := .ite hs (.setF (.setF (.showPherr hs)))

theorem Sound.followTwin : Sound s₀ (s.followTwin) := by
  unfold State.followTwin
  refine .setF ?_
  exact hs

theorem Sound.leaveFollow : Sound s₀ (s.leaveFollow) := by
  unfold State.leaveFollow
  refine .ite (.ite ?_ (.slewBegin ?_)) hs
  exact hs
  exact hs

theorem Sound.writeSrcreq {v} : Sound s₀ (s.writeSrcreq v) := by
  unfold State.writeSrcreq
  refine .ite (.sourceCheck (.setF hs)) (.setF ?_)
  exact hs

theorem Sound.writeFpcsel {v} : Sound s₀ (s.writeFpcsel v) := by
  unfold State.writeFpcsel
  refine .ite hs (.ite (.setF hs) (.ite (.setF ?_) (.setF hs)))
  exact hs

theorem Sound.snapshot : Sound s₀ (s.snapshot) := .setF (.setF (.setF (.setF (.setF hs))))

theorem Sound.fretGuard {c f} (hf : ∀ t, Sound s₀ t → Sound s₀ (f t)) : Sound s₀ (s.fretGuard c f) := .ite (.setF hs) (.ite (.setF hs) (hf s hs))

theorem Sound.writeFretTable {off w} : Sound s₀ (s.writeFretTable off w) := .ite hs (.fretGuard hs (fun _ ht => .setWord ht))

theorem Sound.writePlen {c v} : Sound s₀ (s.writePlen c v) := .fretGuard hs (fun _ ht => .setF ht)

theorem Sound.writeFretSwap {mode go} : Sound s₀ (s.writeFretSwap mode go) :=
  .ite (.ite (.setF hs) hs) (.ite (.setF (.setF (.setBit hs))) (.setBit hs))

theorem Sound.fretSwapNow : Sound s₀ (s.fretSwapNow) := .setF (.setF (.setF (.setF hs)))

theorem Sound.fretOffCheck : Sound s₀ (s.fretOffCheck) := .ite (.fretSwapNow hs) hs

theorem Sound.fretSwapBoundary : Sound s₀ (s.fretSwapBoundary) := .ite (.fretSwapNow hs) hs

theorem Sound.fretReachOff : Sound s₀ (s.fretReachOff) := by
  unfold State.fretReachOff
  refine .fretOffCheck (.setF ?_)
  exact hs

theorem Sound.fretEnable : Sound s₀ (s.fretEnable) := .setF (.setF hs)

theorem Sound.fretDisable : Sound s₀ (s.fretDisable) := .ite (.setF hs) (.ite (.setF hs) (.ite (.setF (.setF hs)) (.fretReachOff (.setF hs))))

theorem Sound.atuDisable : Sound s₀ (s.atuDisable) := by
  unfold State.atuDisable
  refine .ite ?_ ?_
  · exact .setF hs
  · refine .ite ?_ ?_
    · exact .setF hs
    · extract_lets s1 _ _ _ s2 s3 s4 s5
      have h1 : Sound s₀ s1 := .setF (.setF hs)
      have h2 : Sound s₀ s2 := h1
      have h3 : Sound s₀ s3 := .setF (.setF h2)
      have h4 : Sound s₀ s4 := .ite (.setF (.setF h3)) h3
      have h5 : Sound s₀ s5 := .actOffCheck (.clgAtuOff (.fretOffCheck h4))
      exact .ite (.fretReachOff h5) h5

theorem Sound.modHp {p f} : Sound s₀ (s.modHp p f) := hs

theorem Sound.modPrp {k f} : Sound s₀ (s.modPrp k f) := hs

theorem Sound.prpEnter {p mac seq} : Sound s₀ (s.prpEnter p mac seq) := .ite (.modPrp hs) (.countF (.modPrp hs))

theorem Sound.prpReceive {p f} : Sound s₀ (s.prpReceive p f).2 := by
  unfold State.prpReceive
  split
  · exact hs
  · split
    · exact hs
    · extract_lets mac wrong s1
      have h1 : Sound s₀ s1 := .countF hs
      split
      · exact .modPrp h1
      · exact .prpEnter h1

theorem Sound.svCount {n missed bad} : Sound s₀ (s.svCount n missed bad) := by
  unfold State.svCount
  refine .ite hs (.ite (.sourceLost ?_) ?_)
  exact hs
  exact hs

theorem Sound.svTake {n a} : Sound s₀ (s.svTake n a) := by
  unfold State.svTake
  refine ?_
  exact hs

theorem Sound.svAsdu {n stamp idx a} : Sound s₀ (s.svAsdu n stamp idx a) := by
  unfold State.svAsdu
  extract_lets w addr miss s1 s2 s3
  have h1 : Sound s₀ s1 := .countF (.setF (.hostWrite hs))
  clear_value s1
  have h2 : Sound s₀ s2 := .upd h1
  have h3 : Sound s₀ s3 := .svCount h2
  exact .ite (.svTake h3) h3

theorem Sound.svFrame {n stamp b} : Sound s₀ (s.svFrame n stamp b) := by
  unfold State.svFrame
  split
  · exact .countF hs
  · exact .foldl hs fun _ _ ht => .svAsdu ht

theorem Sound.ringPut {p f flags stamp} : Sound s₀ (s.ringPut p f flags stamp) := .ite (.countF hs) (.setF (.hostWrite hs))

theorem Sound.txDoneAt {p} {q : Fin 2} {a status} : Sound s₀ (s.txDoneAt p q a status) := by
  fin_cases q <;> exact .setF (.hostWrite hs)

theorem Sound.txDone {p q status} : Sound s₀ (s.txDone p q status) := .txDoneAt hs

theorem Sound.reachLaunch {a} : Sound s₀ (s.reachLaunch a) := .ite hs (.ite (.passTime hs) (.ite (.raiseAngle hs) hs))

theorem Sound.dupCheck {p} : Sound s₀ (s.dupCheck p) := .modHp hs

theorem Sound.handCopy {p q d} : Sound s₀ (s.handCopy p q d) :=
  .ite (.ite (.modHp (.modPrp hs)) (.ite (.dupCheck (.modHp (.hostRead (.modHp (.modPrp hs))))) (.modHp (.hostRead (.modHp (.modPrp hs)))))) hs

theorem Sound.headCheck {p q k} : Sound s₀ (s.headCheck p q k) := by
  induction k generalizing s with
  | zero => exact hs
  | succ k ih =>
    exact .ite hs (.ite (ih (.txDone (.hostRead hs))) (.ite (ih (.txDone (.hostRead hs)))
      (.handCopy (.ite (.modHp (.hostRead hs)) (.hostRead hs)))))

theorem Sound.newHead {p q} : Sound s₀ (s.newHead p q) := .headCheck (.modHp hs)

theorem Sound.headAgain {p} : Sound s₀ (s.headAgain p) := .ite hs (.ite hs (.ite (.newHead (.txDone hs)) (.modHp hs)))

theorem Sound.compareAgain {p} : Sound s₀ (s.compareAgain p) := .ite (.dupCheck (.headAgain hs)) hs

theorem Sound.timeSetAll : Sound s₀ (s.timeSetAll) := .ite (.timeSet hs) (.forIdx (.timeSet hs) fun _ _ ht => .compareAgain ht)

theorem Sound.timeStepAll : Sound s₀ (s.timeStepAll) := .forIdx (.timeStep hs) fun _ _ ht => .compareAgain ht

theorem Sound.writeTail {p} {q : Fin 2} {v} : Sound s₀ (s.writeTail p q v) := by
  fin_cases q <;> exact .ite (.newHead (.setF hs)) (.setF hs)

theorem Sound.putFrame {p f} : Sound s₀ (s.putFrame p f) := .modHp hs

theorem Sound.sendFrame {p j ago} : Sound s₀ (s.sendFrame p j ago).1 := by
  unfold State.sendFrame
  extract_lets st s1
  have h1 : Sound s₀ s1 := .putFrame hs
  split
  · exact .putFrame hs
  · split
    · split
      · exact .putFrame hs
      · exact .putFrame hs
    · split
      · exact .setF h1
      · exact .modHp h1

theorem Sound.hpReachOff {p} : Sound s₀ (s.hpReachOff p) := .setF (.setF hs)

theorem Sound.sentNext {p next} (hf : ∀ t, Sound s₀ t → Sound s₀ (next t)) : Sound s₀ (s.sentNext p next) :=
  .ite (.hpReachOff (.modHp hs)) (hf _ (.modHp hs))

theorem Sound.headJob {p src q} : Sound s₀ (s.headJob p src q).2 := .hostRead hs

theorem Sound.takeJob {p src j t} (h : s.takeJob p src = some (j, t)) : Sound s₀ t := by
  cases src with
  | queue0 => cases h; exact .headJob (src := .queue0) (q := 0) hs
  | queue1 => cases h; exact .headJob (src := .queue1) (q := 1) hs
  | copy =>
    simp only [State.takeJob, Option.map_eq_some_iff] at h
    obtain ⟨_, -, h⟩ := h
    cases h
    exact hs

theorem Sound.sendJob {p j ago} : Sound s₀ (s.sendJob p j ago) := by
  have hdone (q : Fin 2) (status : Nat) : Sound s₀ (((s.sendFrame p j ago).1.txDoneAt p q j.slot status).sentNext p (fun t => t.newHead p q)) :=
    .sentNext (.txDoneAt (.sendFrame hs)) fun _ ht => .newHead ht
  unfold State.sendJob
  extract_lets r done
  split
  · exact hdone 0 _
  · exact hdone 1 _
  · exact .sentNext (.modHp (.sendFrame hs)) fun _ ht => .dupCheck ht

theorem Sound.popTsq {p} : Sound s₀ (s.popTsq p).2 := by
  unfold State.popTsq
  split
  · exact hs
  · exact .modHp hs

theorem Sound.loadTslat {p} : Sound s₀ (s.loadTslat p) := .setF (.setF hs)

theorem Sound.hpRestart {p} : Sound s₀ (s.hpRestart p) := .ite (.setF hs) hs

theorem Sound.writeHpMode {p m} : Sound s₀ (s.writeHpMode p m) := .ite (.setF hs) (.ite (.loadTslat hs) (.hpRestart (.loadTslat (.setF hs))))

theorem Sound.setSpeed {p v} : Sound s₀ (s.setSpeed p v) := .ite hs (.loadTslat (.setF hs))

theorem Sound.hpEnterUp {p} : Sound s₀ (s.hpEnterUp p) := .ite (.setF (.draw (.compareAgain (.setF hs)))) (.compareAgain (.setF hs))

theorem Sound.hpEnable {p} : Sound s₀ (s.hpEnable p) := by
  have hfresh (t : State) (q : Fin 2) (ht : Sound s₀ t) : Sound s₀ (if ((t.hp[p]).seqs[q]).isSome then t else t.newHead p q) := .ite ht (.newHead ht)
  exact .ite (.headAgain (hfresh _ 1 (hfresh _ 0 (.setF (.setF (.setF hs)))))) (.setF (.setF hs))

theorem Sound.hpDisable {p} : Sound s₀ (s.hpDisable p) := by
  unfold State.hpDisable
  extract_lets s1
  have h1 : Sound s₀ s1 := .setF hs
  refine .ite h1 (.ite h1 ?_)
  split
  · exact .setF h1
  · rename_i x _ hx
    obtain ⟨src, -, hj⟩ := Option.bind_eq_some_iff.1 hx
    exact .setF (.modHp (.takeJob (.draw h1) hj))
  · exact .hpReachOff (.draw h1)

theorem Sound.loadDither {n} : Sound s₀ (s.loadDither n) := by
  unfold State.loadDither
  refine .ite ?_ hs
  exact hs

theorem Sound.acquire {n} : Sound s₀ (s.acquire n) := .ite (.setF ((show Sound s₀ (s.loadDither n) from .loadDither hs))) (.setF hs)

theorem Sound.gatePll {n} : Sound s₀ (s.gatePll n) :=
  .setF (.setF (.setF ((show Sound s₀ (if n = 3 ∧ s.mirUp = true then s.mirTrain else s) from .ite (.mirTrain hs) hs))))

theorem Sound.gateQuads : Sound s₀ (s.gateQuads) := by
  unfold State.gateQuads
  refine .forIdx ?_ fun _ _ ht => .ite (.linkLost ht) ht
  exact hs

theorem Sound.clockLoss : Sound s₀ (s.clockLoss) := .ite (.pairsClockBack (.pairsClockLoss (.setF hs))) (.pairsClockLoss (.setF hs))

theorem Sound.quadBurst : Sound s₀ (s.quadBurst) := .forIdx hs fun _ _ ht => .ite (.burst ht) ht

theorem Sound.clockCheck : Sound s₀ (s.clockCheck) := .ite (.setF hs) hs

theorem Sound.relock {n} : Sound s₀ (s.relock n) := .ite (.acquire hs) hs

theorem Sound.autoRelock {n} : Sound s₀ (s.autoRelock n) := .ite (.relock hs) hs

theorem Sound.writeBand {n m w} : Sound s₀ (s.writeBand n m w) := .ite (.setF hs) (.setF (.setF (.setF (.setBit hs))))

theorem Sound.romTables : Sound s₀ (s.romTables) :=
  .forIdx (.forIdx hs fun _ _ ht => .setF (.setF (.setF (.setF (.draw ht))))) fun _ _ ht => .relock ht

theorem Sound.modSec {f} : Sound s₀ (s.modSec f) := hs

theorem Sound.modPmc {f} : Sound s₀ (s.modPmc f) := hs

theorem Sound.logEvent {e} : Sound s₀ (s.logEvent e) := .modPmc hs

theorem Sound.revoke {k} : Sound s₀ (s.revoke k) := .modSec hs

theorem Sound.stageBytes {n off l} : Sound s₀ (s.stageBytes n off l) := by
  induction l generalizing s off with
  | nil => exact hs
  | cons b t ih => exact ih (.writeBank hs)

theorem Sound.stageSections {l} : Sound s₀ (s.stageSections l) := by
  refine .foldl hs fun _ _ ht => ?_
  split
  · exact .ite (.stageBytes (.stageBytes ht)) ht
  · exact ht

theorem Sound.stagePass {arb hash l} : Sound s₀ (s.stagePass arb hash l) := by
  refine .foldl hs fun _ _ ht => ?_
  split
  · exact .modCe (.setF (.forIdx ht fun _ _ hu => .setF hu))
  · exact ht

theorem Sound.verifyImage {o} : Sound s₀ (s.verifyImage o).2 := by
  unfold State.verifyImage
  extract_lets c
  split
  · exact hs
  · split
    · exact hs
    · split
      · exact .stagePass hs
      · exact hs

theorem Sound.judgeToken {obj} : Sound s₀ (s.judgeToken obj) := .ite (.setF hs) (.logEvent (.countF (.setF (.setBit (.setF (.setF hs))))))

theorem Sound.judgeTokens : Sound s₀ (s.judgeTokens) := .foldl (.modSec hs) fun _ _ ht => .judgeToken ht

theorem Sound.endGrant : Sound s₀ (s.endGrant) := .setF (.setF (.setF hs))

theorem Sound.drawChallenge : Sound s₀ (s.drawChallenge) := .modSec (.forIdx hs fun _ _ ht => .setF (.draw ht))

theorem Sound.eraseKeys : Sound s₀ (s.eraseKeys) := hs

theorem Sound.tamper : Sound s₀ (s.tamper) := .ite (.supTrip (.eraseKeys (.endGrant (.countF hs)))) (.eraseKeys (.endGrant (.countF hs)))

theorem Sound.modTwin {f} : Sound s₀ (s.modTwin f) := hs

theorem Sound.setRole {r} : Sound s₀ (s.setRole r) := .setWhen (.setBit (.setF hs))

theorem Sound.startReplay : Sound s₀ (s.startReplay) := by
  unfold State.startReplay
  refine .setF ?_
  exact hs

theorem Sound.enterJoining : Sound s₀ (s.enterJoining) := .modTwin (.setRole hs)

theorem Sound.becomeSingle : Sound s₀ (s.becomeSingle) :=
  .ite (.startReplay (.modTwin (.setF (.setRole (.leaveFollow hs))))) (.modTwin (.setF (.setRole (.leaveFollow hs))))

theorem Sound.pairChanged : Sound s₀ (s.pairChanged) := .ite (.ite hs (.becomeSingle hs)) (.ite (.enterJoining hs) hs)

theorem Sound.enterSolo : Sound s₀ (s.enterSolo) := .setF (.setF (.modTwin hs))

theorem Sound.becomeActive : Sound s₀ (s.becomeActive) := .enterSolo (.startReplay (.modTwin (.setF (.setRole (.leaveFollow hs)))))

theorem Sound.takeOver : Sound s₀ (s.takeOver) := .setF (.setF (.setF (.becomeActive hs)))

theorem Sound.takeoverCheck : Sound s₀ (s.takeoverCheck) := .ite (.ite (.takeOver hs) (.setF hs)) hs

theorem Sound.yieldCheck : Sound s₀ (s.yieldCheck) := by
  unfold State.yieldCheck
  refine .ite ?_ ?_
  · extract_lets s1
    have h1 : Sound s₀ s1 := .modTwin (.setF (.setRole hs))
    exact h1
  · exact hs

theorem Sound.handoverStep : Sound s₀ (s.handoverStep) := .ite (.setF (.followTwin (.setRole hs))) (.ite (.takeOver hs) hs)

theorem Sound.requestHandover : Sound s₀ (s.requestHandover) := .ite hs (.ite (.setF (.setF hs)) (.setF hs))

theorem Sound.claimRole : Sound s₀ (s.claimRole) := .ite (.modTwin (.becomeActive hs)) (.setF hs)

theorem Sound.winCount : Sound s₀ (s.winCount) := .foldl hs fun _ _ ht => .ssmCount ht

theorem Sound.mirCycle : Sound s₀ (s.mirCycle) := by
  unfold State.mirCycle
  split
  · exact hs
  · refine .ite ?_ hs
    exact hs

theorem Sound.serveMir : Sound s₀ (s.serveMir) := hs

theorem Sound.mirFrame : Sound s₀ (s.mirFrame) := .modTwin hs

theorem Sound.noteHbEpoch {h} : Sound s₀ (s.noteHbEpoch h) := .modTwin hs

theorem Sound.noteHeartbeat {h} : Sound s₀ (s.noteHeartbeat h) :=
  .ite (.modTwin (.setF (.setF (.setF (.setF (.noteHbEpoch hs)))))) (.setF (.setF (.modTwin (.setF (.setF (.setF (.setF (.noteHbEpoch hs))))))))

theorem Sound.joinPredict {h arr} : Sound s₀ (s.joinPredict h arr) := .ite (.modTwin hs) hs

theorem Sound.takeHeartbeat {h arr} : Sound s₀ (s.takeHeartbeat h arr) := by
  unfold State.takeHeartbeat
  extract_lets s1
  have h1 : Sound s₀ s1 := .modTwin (.joinPredict (.noteHeartbeat hs))
  exact .ite (.enterJoining h1) (.ite (.setF h1) h1)

theorem Sound.loadPlanner {h start} : Sound s₀ (s.loadPlanner h start) := by
  unfold State.loadPlanner
  refine .forIdx ?_ fun _ _ ht => .setF ht
  exact hs

theorem Sound.heartbeatMissed : Sound s₀ (s.heartbeatMissed) := .modTwin (.setF (.countF (.setF hs)))

theorem Sound.heartbeatStep {k} : Sound s₀ (s.heartbeatStep k) := by
  unfold State.heartbeatStep
  extract_lets later
  split
  · have h2 : Sound s₀ ((s.setF .MIR_STAT_HBMISS 0 0).setF .MIR_STAT_TKBLK 0 0) := .setF (.setF hs)
    refine .ite (.setRole (.ite (.setF (.loadPlanner (.modTwin (.setBit h2)))) (.modTwin (.setBit h2)))) ?_
    exact .ite (.setF (.loadPlanner (.modTwin (.setBit h2)))) (.modTwin (.setBit h2))
  · exact .modTwin (.heartbeatMissed hs)

theorem Sound.samplePwm : Sound s₀ (s.samplePwm) := .modTwin hs

theorem Sound.quietStep : Sound s₀ (s.quietStep) := .samplePwm (.modTwin hs)

theorem Sound.soloStep : Sound s₀ (s.soloStep) := .ite (.enterSolo hs) hs

theorem Sound.delayStep : Sound s₀ (s.delayStep) := .ite (.queueMir hs) hs

theorem Sound.latchTwin : Sound s₀ s.latchTwin := by
  unfold State.latchTwin
  extract_lets s0
  have h1 : Sound s₀ s0 := by
    unfold s0
    split
    · exact .modTwin (.setF hs)
    · exact hs
  exact .setF (.setF (.setF (.setF h1)))

theorem Sound.twinBoundary {k} : Sound s₀ (s.twinBoundary k) := by
  unfold State.twinBoundary
  refine .ite ?_ ?_
  · exact .latchTwin (.quietStep hs)
  · exact .latchTwin (.delayStep (.soloStep (.yieldCheck (.quietStep (.handoverStep (.takeoverCheck (.heartbeatStep hs)))))))

theorem Sound.takeSide {b} : Sound s₀ (s.takeSide b) := .modTwin (.setWhen hs)

theorem Sound.takeMirDelay {rts} : Sound s₀ (s.takeMirDelay rts) := .modTwin (.setF (.setF (.draw hs)))

theorem Sound.mirDelayResult {rt} : Sound s₀ (s.mirDelayResult rt) :=
  .ite (.ite (.takeMirDelay hs) (.modTwin hs)) (.ite (.takeMirDelay hs) (.modTwin hs))

theorem Sound.copyEnd : Sound s₀ (s.copyEnd) := .ite (.ite (.setRole (.modTwin hs)) (.modTwin hs)) hs

theorem Sound.ctlFrame {c} : Sound s₀ (s.ctlFrame c) := by
  unfold State.ctlFrame
  extract_lets s1
  have h1 : Sound s₀ s1 := .mirFrame hs
  split
  · exact .takeSide h1
  · exact .queueMir h1
  · exact .mirDelayResult h1
  · exact .copyEnd h1
  · exact h1

theorem Sound.stepTrackers : Sound s₀ (s.stepTrackers) := by
  unfold State.stepTrackers
  refine ?_
  exact hs

theorem Sound.autoFreeStep : Sound s₀ (s.autoFreeStep) := by
  unfold State.autoFreeStep
  split
  · refine .setF (.setF (.setF (.setF (.setF (.setF ?_)))))
    exact hs
  · exact hs

theorem Sound.handoverSrc : Sound s₀ s.handoverSrc := by
  unfold State.handoverSrc
  split
  · exact hs
  · rename_i v _
    extract_lets _ s1 s2 _ s3
    have h0 : Sound s₀ { s with atu := { s.atu with handover := none } } := hs
    have h1 : Sound s₀ s1 := .setF h0
    have h2 : Sound s₀ s2 := .setF (.setF (.setF h1))
    clear_value s2
    exact .ite h1 (.ite (.setF h2) (.slewBegin (.upd h2)))

theorem Sound.pherrStep : Sound s₀ (s.pherrStep) := .ite (.setF (.draw hs)) (.showPherr hs)

theorem Sound.wordStep : Sound s₀ s.wordStep := by
  unfold State.wordStep
  extract_lets s1 e f _ s2
  have h1 : Sound s₀ s1 := .pherrStep (.stepTrackers hs)
  refine .ite ?_ (.ite (.upd (s := s1.setF .ATU_FREQ_FREQ 0 f) (.setF h1)) (.ite h1 (.setF (.upd h1))))
  split
  · exact .setF (.draw h1)
  · exact h1

theorem Sound.lockStep : Sound s₀ (s.lockStep) := by
  unfold State.lockStep
  refine .setBit ?_
  exact hs

theorem Sound.sourceStep : Sound s₀ (s.sourceStep) := .lockStep (.sourceCheck (.handoverSrc (.autoFreeStep (.wordStep hs))))

theorem Sound.fpcWrap : Sound s₀ (s.fpcWrap) := .ite (.setF (.setF hs)) hs

theorem Sound.stepFret : Sound s₀ s.stepFret := by
  unfold State.stepFret
  extract_lets thr f k rest s1 res s2
  have h1 : Sound s₀ s1 := .spend hs
  exact .addAngle (.fpcWrap (.setF (.setF (.upd h1))))

theorem Sound.swapStep : Sound s₀ (s.swapStep) := .actBoundary (.clgBoundary (.fretSwapBoundary hs))

theorem Sound.flipRx : Sound s₀ (s.flipRx) := hs

theorem Sound.queueTb : Sound s₀ (s.queueTb) := hs

theorem Sound.dispatchStep : Sound s₀ (s.dispatchStep) := by
  unfold State.dispatchStep
  extract_lets s1 c r
  have h1 : Sound s₀ s1 := .ite (.fretReachOff hs) hs
  exact h1

theorem Sound.boundaryChecks : Sound s₀ (s.boundaryChecks) :=
  .setF (.forIdx (.forIdx hs fun _ _ ht => .overrunCheck ht) fun _ _ ht => .ite (.armCheck ht) ht)

theorem Sound.boundarySteps {k} : Sound s₀ (s.boundarySteps k) :=
  .atuConversions (.dispatchStep (.queueTb (.twinBoundary (.flipRx (.swapStep (.boundaryChecks hs))))))

theorem Sound.fretBoundary : Sound s₀ (s.fretBoundary) := .boundarySteps (.sourceStep (.noackStep (.stepFret hs)))

theorem Sound.forgetFrets : Sound s₀ (s.forgetFrets) := hs

theorem Sound.atuStart {fret fic freq} : Sound s₀ (s.atuStart fret fic freq) := by
  unfold State.atuStart
  refine .sourceCheck (.forgetFrets (.planResetAll (.setF (.setBit (.setF (.setF (.setF (.setF (.setF (.setF (.setF ?_)))))))))))
  exact hs

theorem Sound.atuFirst : Sound s₀ (s.atuFirst) :=
  .atuConversions (.dispatchStep (.queueTb (.latchTwin (.samplePwm (.flipRx (.swapStep (.boundaryChecks hs)))))))

theorem Sound.atuEnable : Sound s₀ (s.atuEnable) := .ite hs (.atuFirst (.atuStart hs))

theorem Sound.twinJoin : Sound s₀ (s.twinJoin) := by
  unfold State.twinJoin
  split
  · exact hs
  · exact .ite (.atuFirst (.followTwin (.atuStart (.modTwin (.setF (.draw (.passTo hs))))))) hs

theorem Sound.dueBoundary : Sound s₀ (s.dueBoundary) := .ite (.fretBoundary hs) hs

theorem Sound.atuCycle : Sound s₀ (s.atuCycle) := .ite (.dueBoundary (.spend (.addFreq (.dueBoundary hs)))) (.spend hs)

theorem Sound.pairCycle {n} : Sound s₀ (s.pairCycle n) := .settle (.modPair hs)

theorem Sound.auxCycle : Sound s₀ (s.auxCycle) := by
  unfold State.auxCycle
  refine .ite (.auxDriveAll ?_) hs
  exact hs

theorem Sound.tripPairs : Sound s₀ (s.tripPairs) := .forIdx hs fun _ _ ht => .ite (.pairTrip ht) ht

theorem Sound.fuseCycle : Sound s₀ (s.fuseCycle) := .ite (.modSec hs) hs

theorem Sound.slowCycle : Sound s₀ (s.slowCycle) := .fuseCycle (.mirCycle (.clockCheck hs))

theorem Sound.cycle : Sound s₀ (s.cycle) := by
  unfold State.cycle
  refine .ite (.slowCycle (.tripPairs (.muteCycle (.inputsRun (.auxCycle (.forIdx (.atuCycle hs) fun _ _ ht => .pairCycle ht)))))) (.slowCycle ?_)
  exact hs

theorem Sound.resetUnits {d} : Sound s₀ (s.resetUnits d) := by
  unfold State.resetUnits
  extract_lets _ s1 t
  have h1 : Sound s₀ s1 := hs
  have ht : Sound s₀ t := .forIdx h1 fun _ _ ht => .setF ht
  clear_value t s1
  split
  · exact .upd h1
  · exact .upd ht
  · exact .upd h1
  · exact .upd h1
  · exact .auxSupply (.upd h1)
  · exact h1

theorem Sound.loseMemories {d} : Sound s₀ (s.loseMemories d) := by
  unfold State.loseMemories
  split
  · exact .loseMem hs
  · exact .loseMem hs
  · exact .clearMem (.loseMem hs)
  · exact .loseMem hs
  · exact .loseMem hs
  · exact hs

theorem Sound.domainReset {d} : Sound s₀ (s.domainReset d) :=
  .clearCheck (.loseMemories (.resetUnits (.resetFields (.foldl (.ite (.mirDown hs) hs) fun _ _ ht => .ite (.breakPegs ht) ht))))

theorem Sound.pdwait : Sound s₀ (s.pdwait) := .setBit hs

theorem Sound.powerOff {d} : Sound s₀ (s.powerOff d) :=
  .pdwait (.ite (.setF (.domainReset (.ite (.becomeSingle hs) hs))) (.domainReset (.ite (.becomeSingle hs) hs)))

theorem Sound.powerStep {d} : Sound s₀ (s.powerStep d) := .ite (.powerOff hs) hs

theorem Sound.writePdreq {v} : Sound s₀ (s.writePdreq v) := .pdwait (.foldl (.setWhen (.setF hs)) fun _ _ ht => .powerStep ht)

theorem Sound.modTherm {f} : Sound s₀ (s.modTherm f) := hs

theorem Sound.sensor {test fail i v} : Sound s₀ (s.sensor test fail i v) := .setF (.setBit (.modTherm hs))

theorem Sound.thermMax : Sound s₀ (s.thermMax) := by
  unfold State.thermMax
  split
  · exact hs
  · exact .setF (.setF hs)

theorem Sound.throttleStep : Sound s₀ (s.throttleStep) := by
  unfold State.throttleStep
  extract_lets t
  split
  · exact .ite (.countF (.setF hs)) hs
  · exact .ite (.setF hs) hs
  · exact .ite (.setF hs) hs

theorem Sound.thermHandover : Sound s₀ (s.thermHandover) := .ite (.requestHandover (.setF hs)) hs

theorem Sound.blockStep : Sound s₀ (s.blockStep) :=
  .ite (.ite (.setF hs) hs) (.ite (.ite (.muteCycle (.thermHandover (.countF (.setF hs)))) (.thermHandover (.countF (.setF hs)))) hs)

theorem Sound.thermSample {ts fail} : Sound s₀ (s.thermSample ts fail) :=
  .blockStep (.throttleStep (.modTherm (.thermMax (.modTherm (.forIdx hs fun _ _ ht => .sensor ht)))))

theorem Sound.thermShutdown : Sound s₀ s.thermShutdown := by
  unfold State.thermShutdown
  extract_lets s1 s2 s3 _ _ s4
  have h1 : Sound s₀ s1 := .setF hs
  have h2 : Sound s₀ s2 := .foldl h1 fun _ _ ht => .domainReset ht
  have h3 : Sound s₀ s3 := .setF (.setF (.setF h2))
  clear_value s3
  have h4 : Sound s₀ s4 := .upd h3
  exact .setWhen (.phasesMid h4)

theorem Sound.writeThermMask {m} : Sound s₀ (s.writeThermMask m) := .ite (.setF hs) (.thermMax (.setF hs))

theorem Sound.resetClass {po} : Sound s₀ (s.resetClass po) := .resetFields hs

theorem Sound.warmCore : Sound s₀ s.warmCore := by
  unfold State.warmCore
  extract_lets s1 _ s2
  have h1 : Sound s₀ s1 := .loseMem (.foldl (.resetClass (.mirDown hs)) fun _ _ ht => .resetUnits ht)
  clear_value s1
  have h2 : Sound s₀ s2 := .upd h1
  exact .setBytes (.setF h2)

theorem Sound.warmReset {cause} (hf : cause.isBall = false := by rfl) : Sound s₀ (s.warmReset cause) := .setF (.warmCore hs) hf

theorem Sound.loseAll : Sound s₀ (s.loseAll) := .foldl hs fun _ _ ht => .loseMemories ht

theorem Sound.powerOnReset {cause} (hf : cause.isBall = false := by rfl) : Sound s₀ (s.powerOnReset cause) := by
  unfold State.powerOnReset
  extract_lets pressed tamper s1 _ _ _ s2
  have h1 : Sound s₀ s1 := .loseAll (.foldl (.resetClass (.mirDown hs)) fun _ _ ht => .resetUnits ht)
  clear_value s1
  have h2 : Sound s₀ s2 := .upd h1
  exact .setBytes (.setF (.setF (.setF (.setF (.setF h2)) hf)))

omit hs in
theorem Sound.keepLatch {t} (ht : Sound s₀ t) : Sound s₀ (s.keepLatch t) := .ite (.setF (.setF (.setF ht))) ht

theorem Sound.backupLoss : Sound s₀ (s.backupLoss) := .resetFields hs

theorem Sound.porEnd {x0} : Sound s₀ (s.porEnd x0) := by
  unfold State.porEnd
  split
  · exact .modPmc hs
  · exact .ite (.modPmc (.ite hs (.backupLoss hs))) hs

theorem Sound.porRelease {c} : Sound s₀ (s.porRelease c) := .ite (.softStart (.porEnd hs)) (.porEnd hs)

theorem Sound.softTimeout : Sound s₀ (s.softTimeout) := .ite (.setF (.setF (.phasesMid hs))) (.countF (.setF (.phasesMid hs)))

theorem Sound.supResetOne {k : Fin 4} : Sound s₀ (s.supResetOne k) := by
  unfold State.supResetOne
  extract_lets s1 _ s2
  have h1 : Sound s₀ s1 := .breakPegs (by fin_cases k <;> exact .countF hs)
  have h2 : Sound s₀ s2 := .upd h1
  exact .ite (.startReplay (.upd h2)) h2

theorem Sound.supReset {mask} : Sound s₀ (s.supReset mask) := .forIdx hs fun _ _ ht => .ite (.supResetOne ht) ht

theorem Sound.warmRequest {suprst} : Sound s₀ (s.warmRequest suprst) := .ite (.supReset (.setF hs)) (.warmReset hs)

theorem Sound.enterMinimal {reason} : Sound s₀ (s.enterMinimal reason) := .setF (.setF hs)

theorem Sound.nameSlot {k} : Sound s₀ (s.nameSlot k) := .modPmc hs

theorem Sound.romDecide {mramOk} : Sound s₀ (s.romDecide mramOk) := by
  unfold State.romDecide
  extract_lets mm s1 p s2
  have hmm (t : State) (k : Nat) (ht : Sound s₀ t) : Sound s₀ (mm t k) := .enterMinimal (.nameSlot ht)
  have h1 : Sound s₀ s1 := .modPmc (.modSec hs)
  have h2 : Sound s₀ s2 := .setF h1
  refine .ite (hmm _ _ (.modSec hs)) (.ite (hmm _ _ h1) (.ite (hmm _ _ h1) (.ite (hmm _ _ h1) ?_)))
  split
  · exact hmm _ _ h2
  · extract_lets s3
    have h3 : Sound s₀ s3 := .ite h2 (.logEvent (.modPmc h2))
    exact .ite (hmm _ _ h3) (.modPmc (.nameSlot h3))

theorem Sound.firmwareStart : Sound s₀ (s.firmwareStart) := by
  unfold State.firmwareStart
  extract_lets o s1
  have h1 : Sound s₀ s1 := .modSec (.setF (.startReplay (.setF hs)))
  exact h1

theorem Sound.armDevice : Sound s₀ (s.armDevice) :=
  .ite (.setF (.setF hs)) (.mirEnterS4 (.forIdx (.setF (.setF hs)) fun _ _ ht => .laneEnterS4 ht))

theorem Sound.disarmDevice : Sound s₀ (s.disarmDevice) := .ite hs (.ite (.setF hs) (.setF hs))

theorem Sound.writeArm {arm disarm freeok} : Sound s₀ (s.writeArm arm disarm freeok) :=
  .ite (.disarmDevice (.ite (.armDevice (.setBit hs)) (.setBit hs))) (.ite (.armDevice (.setBit hs)) (.setBit hs))

theorem Sound.buttonRelease {ms} : Sound s₀ (s.buttonRelease ms) := by
  unfold State.buttonRelease
  extract_lets s0 s1
  have h1 : Sound s₀ s0 := .passTo hs
  have h2 : Sound s₀ s1 := .modPmc (.setF h1)
  exact .ite (.ite (.warmReset (.setF h2)) (.ite (.modPmc (.setF h2)) (.setF h2))) h2

theorem Sound.buttonStuck : Sound s₀ (s.buttonStuck) := .logEvent (.modPmc (.setF (.setF (.setWhen hs))))

theorem Sound.modJnl {f} : Sound s₀ (s.modJnl f) := hs

theorem Sound.sendAs {key r} : Sound s₀ (s.sendAs key r) := .modJnl hs

theorem Sound.send {r} : Sound s₀ (s.send r) := .sendAs hs

theorem Sound.noReplies : Sound s₀ (s.noReplies) := .modJnl hs

theorem Sound.setEntry {j st result rdata} : Sound s₀ (s.setEntry j st result rdata) := .setList hs

theorem Sound.writeEntry {j a solo} : Sound s₀ (s.writeEntry j a solo) := by
  unfold State.writeEntry
  exact .setEntry (.setList hs)

theorem Sound.jnlSync : Sound s₀ (s.jnlSync) := .setF (.setF (.setF (.setF (.setF (.setF hs)))))

theorem Sound.advanceDone : Sound s₀ (s.advanceDone) := .jnlSync (.modJnl hs)

theorem Sound.noticeAs {key j} : Sound s₀ (s.noticeAs key j) := by
  unfold State.noticeAs
  split
  · exact hs
  · exact .modJnl (.sendAs hs)

theorem Sound.notice {j} : Sound s₀ (s.notice j) := .noticeAs hs

theorem Sound.finish {j result rdata} : Sound s₀ (s.finish j result rdata) := .notice (.advanceDone (.modJnl (.setEntry hs)))

theorem Sound.modSess {id f} : Sound s₀ (s.modSess id f) := .modJnl hs

theorem Sound.setLock {k l} : Sound s₀ (s.setLock k l) := .modJnl hs

theorem Sound.renew {id} : Sound s₀ (s.renew id) := .modJnl (.modSess hs)

theorem Sound.dropLocks {id broken} : Sound s₀ (s.dropLocks id broken) := .modJnl hs

theorem Sound.endSession {id broken} : Sound s₀ (s.endSession id broken) := .jnlSync (.modJnl (.dropLocks hs))

theorem Sound.mirrorSess {id} : Sound s₀ (s.mirrorSess id) := .ite (.queueMir hs) hs

theorem Sound.takeSess {e} : Sound s₀ (s.takeSess e) := .jnlSync (.modJnl (.ite (.endSession hs) (.modJnl hs)))

theorem Sound.writerEffect {session code body} : Sound s₀ (s.writerEffect session code body).1 := by
  unfold State.writerEffect
  extract_lets k l
  split
  · exact .endSession hs
  · split
    · exact .setLock hs
    · split
      · exact .setLock hs
      · split
        · exact .ite (.setLock hs) hs
        · exact hs

theorem Sound.authenticate {a code body t} (h : s.authenticate a code body = some t) : Sound s₀ t := by
  unfold State.authenticate at h
  extract_lets id msg at h
  split at h
  · cases h
  · split_ifs at h
    · cases h; exact .renew hs
    · cases h; exact .renew (.modSess hs)

theorem Sound.sessioned {a code body go} (hgo : ∀ t, Sound s₀ t → Sound s₀ (go t)) : Sound s₀ (s.sessioned a code body go) := by
  unfold State.sessioned
  extract_lets s0
  have h0 : Sound s₀ s0 := .noReplies hs
  refine .ite h0 ?_
  split
  · exact .send h0
  · split
    · exact .countF h0
    · rename_i h
      exact hgo _ (.authenticate h0 h)

theorem Sound.replyU {r code status body} : Sound s₀ (s.replyU r code status body) := .send hs

theorem Sound.replyS {r status body} : Sound s₀ (s.replyS r status body) := .send hs

theorem Sound.noteCopy {j r} : Sound s₀ (s.noteCopy j r) := .ite (.modJnl hs) hs

theorem Sound.duplicate {r} : Sound s₀ (s.duplicate r) := by
  unfold State.duplicate
  extract_lets s0
  have h1 : Sound s₀ s0 := .countF hs
  split
  · exact .replyS h1
  · exact .ite (.send (.noteCopy h1)) (.replyS h1)

theorem Sound.journal {r acked} : Sound s₀ (s.journal r acked) := .ite (.queueMir (.modJnl (.writeEntry hs))) (.modJnl (.writeEntry hs))

theorem Sound.evaluate {r} : Sound s₀ (s.evaluate r) := by
  unfold State.evaluate
  extract_lets l d
  refine .ite ?_ ?_
  · exact .replyS hs
  · refine .ite ?_ ?_
    · exact .replyS (.countF hs)
    · refine .ite ?_ ?_
      · exact .duplicate hs
      · refine .ite ?_ ?_
        · exact .replyS hs
        · refine .ite ?_ ?_
          · exact .replyS hs
          · refine .ite ?_ ?_
            · exact .replyS hs
            · split
              · exact .replyS hs
              · exact .ite (.replyS hs) (.ite (.replyS (.countF hs)) (.journal hs))

theorem Sound.keepCred {j session code b} : Sound s₀ (s.keepCred j session code b) := by
  unfold State.keepCred
  extract_lets pid v
  refine .ite ?_ ?_
  · split
    · exact .modJnl hs
    · exact hs
  · exact hs

theorem Sound.accept {w} : Sound s₀ (s.accept w) := by
  unfold State.accept
  extract_lets r solo s1 s2 e s3 s4 key s5
  have h1 : Sound s₀ s1 := .modJnl (.writeEntry hs)
  have h2 : Sound s₀ s2 := .keepCred (.modSess h1)
  have h3 : Sound s₀ s3 := .ite (.setEntry (.writerEffect h2)) h2
  have h4 : Sound s₀ s4 := .advanceDone h3
  have h5 : Sound s₀ s5 := .sendAs h4
  exact .jnlSync (.ite (.noticeAs h5) h5)

theorem Sound.recordLease {w} : Sound s₀ (s.recordLease w) := .advanceDone (.writerEffect (.modJnl (.setEntry (.writeEntry hs))))

theorem Sound.recordLeases {k} : Sound s₀ (s.recordLeases k) := by
  induction k generalizing s with
  | zero => exact hs
  | succ k ih =>
    unfold State.recordLeases
    split
    · exact .ite (ih (.recordLease hs)) hs
    · exact hs

theorem Sound.deliver {j re} : Sound s₀ (s.deliver j re) :=
  .modJnl (.ite (.putList (.putList (.putList (.ssmCount (.setEntry hs))))) (.putList (.putList (.ssmCount (.setEntry hs)))))

theorem Sound.convDelivery : Sound s₀ (s.convDelivery) := by
  unfold State.convDelivery
  split
  · exact .ite (.deliver hs) hs
  · exact hs

theorem Sound.restartLeases : Sound s₀ (s.restartLeases) := .modJnl hs

theorem Sound.replayCheck : Sound s₀ (s.replayCheck) := .ite (.restartLeases (.setF hs)) hs

theorem Sound.consNote {v} : Sound s₀ (s.consNote v) := .ite hs (.ite (.setF hs) (.ite hs (.modJnl hs)))

theorem Sound.markDone {m k j} : Sound s₀ (s.markDone m k j) := by
  induction k generalizing s j with
  | zero => exact hs
  | succ k ih => exact .ite (ih (.notice (.setEntry hs))) (ih hs)

theorem Sound.takeMark {m} : Sound s₀ (s.takeMark m) := .advanceDone (.markDone (.modJnl hs))

theorem Sound.jnlFrame {e} : Sound s₀ (s.jnlFrame e) :=
  .ite (.takeSess hs) (.queueMir (.advanceDone (.writerEffect (.modSess (.modJnl (.setList hs))))))

theorem Sound.breakSession {id} : Sound s₀ (s.breakSession id) := .mirrorSess (.endSession hs)

theorem Sound.setCred {c mask key} : Sound s₀ (s.setCred c mask key) := by
  unfold State.setCred
  refine .foldl (.modJnl ?_) fun _ _ ht => .breakSession ht
  exact hs

omit hs in
theorem Sound.iteFst {α : Type} {c : Prop} [Decidable c] {a b : State × α} (ha : Sound s₀ a.1) (hb : Sound s₀ b.1) :
    Sound s₀ (if c then a else b).1 := by
  split
  · exact ha
  · exact hb

theorem Sound.paramWrite {j b} : Sound s₀ (s.paramWrite j b).1 := by
  unfold State.paramWrite
  extract_lets pid v n range forbid ok t u k c
  have ht : Sound s₀ t := .armDevice hs
  have hu : Sound s₀ u := .disarmDevice hs
  refine .iteFst (.iteFst (.modJnl hs) hs) (.iteFst (.iteFst (.modJnl hs) hs) (.iteFst (.iteFst (.modJnl hs) hs) (.iteFst ?_ ?_)))
  · exact .iteFst hs (.iteFst (.iteFst hs (.iteFst ht ht)) (.iteFst hs (.iteFst hu hu)))
  · exact .iteFst (.iteFst hs (.iteFst hs (.modSec hs))) (.iteFst (.iteFst hs (.modSec hs)) (.iteFst hs (.setCred hs)))

theorem Sound.startJob {j image start total} : Sound s₀ (s.startJob j image start total) := .modJnl (.setF (.modSec hs))

theorem Sound.imageStage {j b} : Sound s₀ (s.imageStage j b) := by
  unfold State.imageStage
  extract_lets o s0 s1
  have h0 : Sound s₀ s0 := .ssmCount hs
  have h1 : Sound s₀ s1 := by
    unfold s1
    split
    · exact .stageSections h0
    · exact h0
  exact .ite (.finish hs) (.startJob h1)

theorem Sound.imageActivate {j b} : Sound s₀ (s.imageActivate j b) :=
  .ite hs (.modJnl (.writeActCtrl (.setEntry (.setF (.setF (.setF (.setF hs)))))))

theorem Sound.imageActivated {j} : Sound s₀ (s.imageActivated j) := .ite (.finish hs) (.ite (.finish hs) hs)

theorem Sound.fwActivate {j} : Sound s₀ (s.fwActivate j) := .ite (.finish (.modPmc hs)) (.modJnl (.warmReset (.finish (.modPmc hs))))

theorem Sound.perform {j} : Sound s₀ (s.perform j) := by
  unfold State.perform
  extract_lets code b s1 res p e
  have h1 : Sound s₀ s1 := .setEntry hs
  refine .ite (.finish (.supTrip h1)) (.ite (.finish (.paramWrite h1)) (.ite (.imageStage h1) (.ite (.imageActivate hs)
    (.ite (.finish (.ite h1 (.serParam h1))) (.ite (.finish (.serConfirm h1)) (.ite (.finish (.serRestart h1)) (.ite (.finish (.serTestReq h1))
    (.ite (.finish h1) (.ite (.startJob h1) (.ite (.fwActivate h1) (.finish (.writerEffect h1))))))))))))

theorem Sound.entryExecute : Sound s₀ (s.entryExecute) := by
  unfold State.entryExecute
  split
  · exact .ite (.imageActivated hs) hs
  · exact .ite (.perform hs) hs

theorem Sound.verifyFw {start total} : Sound s₀ (s.verifyFw start total).2 := by
  unfold State.verifyFw
  extract_lets o c
  split
  · exact hs
  · split
    · exact .loseMem (.revoke hs)
    · split
      · exact hs
      · exact hs

theorem Sound.secVerified {job} : Sound s₀ (s.secVerified job) := by
  have hr : Sound s₀ (if job.image then s.verifyImage (s.imgObject job.total) else s.verifyFw job.start job.total).2 := by
    split
    · exact .verifyImage hs
    · exact .verifyFw hs
  exact .judgeTokens (.finish (.setF (.setF (.modSec hr))))

theorem Sound.replayEntry {j} : Sound s₀ (s.replayEntry j) :=
  .ite (.finish (.setList hs)) (.ite hs (.ite (.setEntry hs) (.ite hs (.ite (.finish hs) (.setEntry hs)))))

theorem Sound.replayScan {k j} : Sound s₀ (s.replayScan k j) := by
  induction k generalizing s j with
  | zero => exact hs
  | succ k ih => exact ih (.replayEntry hs)

theorem Sound.redeliver {k} : Sound s₀ (s.redeliver k) := by
  induction k generalizing s with
  | zero => exact hs
  | succ k ih => exact ih (.convDelivery hs)

theorem Sound.replay : Sound s₀ (s.replay) := .replayCheck (.redeliver (.advanceDone (.replayScan (.modJnl (.putList (.ssmCount hs))))))

theorem Sound.leaseExpire {k h} : Sound s₀ (s.leaseExpire k h) := .recordLeases (.journal hs)

theorem Sound.writeLock {u lock unlock} : Sound s₀ (s.writeLock u lock unlock) := by
  cases u <;> exact .ite (.setF (.ite (.ite (.setF hs) (.setF hs)) hs)) (.ite (.ite (.setF hs) (.setF hs)) hs)

theorem Sound.keepSettings {a} : Sound s₀ (s.keepSettings a) := .modArm hs

theorem Sound.dropSettings {a} : Sound s₀ (s.dropSettings a) := .modArm hs

theorem Sound.modEnable : Sound s₀ (s.modEnable) := .forIdx (.setF (.setF hs)) fun _ _ ht => .ite ht (.dropSettings ht)

theorem Sound.modDisable : Sound s₀ (s.modDisable) := .ite (.setF hs) (.forIdx (.setF (.setF hs)) fun _ _ ht => .modArm (.keepSettings ht))

theorem Sound.armEnable {a} : Sound s₀ (s.armEnable a) := by
  unfold State.armEnable
  extract_lets s1 s2
  have h1 : Sound s₀ s1 := .setF (.setF hs)
  have h2 : Sound s₀ s2 := .ite h1 (.dropSettings h1)
  exact .ite (.modArm (.planResetArm h2)) h2

theorem Sound.armDisable {a} : Sound s₀ (s.armDisable a) := .keepSettings (.setF (.setF hs))

theorem Sound.mirEnable : Sound s₀ (s.mirEnable) := .ite (.mirTrain (.setF (.setF hs))) (.setF (.setF hs))

theorem Sound.mirReachOff : Sound s₀ (s.mirReachOff) := .setF hs

theorem Sound.mirDisable : Sound s₀ (s.mirDisable) := .ite (.setF (.setF (.draw hs))) (.mirReachOff (.setF (.draw hs)))

theorem Sound.jnlEnable : Sound s₀ (s.jnlEnable) := .setF hs

theorem Sound.jnlDisable : Sound s₀ (s.jnlDisable) := .modJnl (.setF hs)

theorem Sound.dmaEnable : Sound s₀ (s.dmaEnable) := hs

theorem Sound.dmaDisable : Sound s₀ s.dmaDisable := by
  have h1 : Sound s₀ s.draw.2 := .draw hs
  exact h1

theorem Sound.enableUnit {x0} : Sound s₀ (s.enableUnit x0) := by
  unfold State.enableUnit
  split
  · exact .atuEnable hs
  · exact .fretEnable hs
  · exact .modEnable hs
  · exact .mirEnable hs
  · exact .jnlEnable hs
  · exact .dmaEnable hs
  · exact .armEnable hs
  · exact .ceEnable hs
  · exact .laneEnable hs
  · exact .trInEnable hs
  · exact .trInEnable hs
  · exact .pairEnable hs
  · exact .adEnable hs
  · exact .auxEnable hs
  · exact .hpEnable hs
  · exact .toutEnable hs

theorem Sound.disableUnit {x0} : Sound s₀ (s.disableUnit x0) := by
  unfold State.disableUnit
  split
  · exact .atuDisable hs
  · exact .fretDisable hs
  · exact .modDisable hs
  · exact .mirDisable hs
  · exact .jnlDisable hs
  · exact .dmaDisable hs
  · exact .armDisable hs
  · exact .ceDisable hs
  · exact .laneDisable hs
  · exact .trInDisable hs
  · exact .trInDisable hs
  · exact .pairDisable hs
  · exact .adDisable hs
  · exact .auxDisable hs
  · exact .hpDisable hs
  · exact .toutDisable hs

theorem Sound.writeEn {u en} : Sound s₀ (s.writeEn u en) := by
  refine .ite hs ?_
  split
  · rename_i f h
    have hf : f = .MOD_STAT_LKERR := by
      unfold State.enLocked at h
      split at h
      · split_ifs at h
        exact (Option.some.inj h).symm
      · cases h
    subst hf
    exact .setF hs
  · exact .ite (.enableUnit hs) (.disableUnit hs)

theorem Sound.modFinish : Sound s₀ (s.modFinish) := .setF (.forIdx (.forIdx hs fun _ _ ht => .armConverted ht) fun _ _ ht => .sortDone ht)

theorem Sound.drainDone {x0} : Sound s₀ (s.drainDone x0) := by
  unfold State.drainDone
  split
  · exact hs
  · exact .ite (.fretReachOff hs) hs
  · exact .modFinish hs
  · exact .mirReachOff hs
  · exact .ite (.setF hs) hs
  · exact hs
  · exact .setF (.armConverted hs)
  · exact .ite hs (.actOffDone (.setF hs))
  · exact .ite hs (.laneReachOff hs)
  · exact hs
  · exact hs
  · exact .ite (.periodStart hs) hs
  · exact .ite hs (.setF hs)
  · exact .auxPeriod hs
  · exact .ite hs (.hpReachOff hs)
  · exact hs

theorem Sound.blockSoft {n a len} : Sound s₀ (s.blockSoft n a len) := .foldl hs fun _ _ ht => .countSoftCe ht

theorem Sound.putRam {n a w} : Sound s₀ (s.putRam n a w) := .freshWord (.setWord hs)

theorem Sound.putPi {n a b} : Sound s₀ (s.putPi n a b) := .putRam (.putRam (.putRam (.putRam hs)))

theorem Sound.pegCount {n ra} : Sound s₀ (pegCount n ra s) := .ite (.countBadSsm hs) hs

theorem Sound.pegEff {n rd ra op} (k : Nat) : (pegEff n rd ra op k s).Sound s₀ := by
  unfold Machine.pegEff
  extract_lets v lat
  split
  · extract_lets k
    split
    · trivial
    · exact .modCe (.modPeg (.countSoftSsm (.ssmLatency hs)))
  · trivial

theorem Sound.pegIssue {n pr rd ra i op} : Sound s₀ (pegIssue n pr rd ra i op s) :=
  .issue (.ite (.pegCount hs) hs) fun k _ ht => Sound.pegEff ht k

theorem Sound.releaseAll {n} : Sound s₀ (s.releaseAll n) := by
  unfold State.releaseAll
  refine ?_
  exact hs

theorem Sound.commitOp {n} : Sound s₀ (s.commitOp n).1 := by
  unfold State.commitOp
  split
  · exact .setF hs
  · split
    · exact .setF hs
    · exact .modCe (.releaseAll hs)

theorem Sound.clearRc {a i} : Sound s₀ (s.clearRc a i) :=
  .foldl hs fun _ f ht => .cond (fun h => .setF ht (f.isBall_of_ne_ro (by rw [h]; decide))) ht

theorem Sound.readReg {rd r i} : Sound s₀ (s.readReg rd r i).2 := by
  unfold State.readReg
  split
  · exact hs
  · split
    · exact .popTsq hs
    · exact .readTimeNs hs
    · exact hs
    · exact hs
    · split
      · exact .drawChallenge hs
      · exact hs
    · exact .clearRc hs

theorem Sound.lockError {a} : Sound s₀ (s.lockError (blockLock a)) := by
  unfold State.lockError blockLock
  split_ifs
  · exact .setF hs
  · exact .setF hs
  · exact .setF hs
  · exact .setF hs
  · exact .setF hs
  · exact .setF hs
  · exact hs
  · exact hs

theorem Sound.writeField {a f i v} : Sound s₀ (s.writeField (blockLock a) f i v) := by
  unfold State.writeField
  split
  · exact .setF hs (f.isBall_of_ne_ro (by simp [*]))
  · exact .setF hs (f.isBall_of_ne_ro (by simp [*]))
  · exact .setF hs (f.isBall_of_ne_ro (by simp [*]))
  · exact .ite (.ite hs (.lockError hs)) (.setF hs (f.isBall_of_ne_ro (by simp [*])))
  · exact hs
  · exact hs
  · exact hs

theorem Sound.writeFields {r i w skip} : Sound s₀ (s.writeFields r i w skip) := .foldl hs fun _ _ ht => .ite ht (.writeField ht)

theorem Sound.guardedWrite {busy err f i v} (herr : err.isBall = false := by rfl) (hf : f.isBall = false := by rfl) :
    Sound s₀ (s.guardedWrite busy err f i v) := .ite (.ite hs (.setF hs herr)) (.setF hs hf)

theorem Sound.writeSwitch {f n w} : Sound s₀ (s.writeSwitch f n w) := .ite (.setF hs) (.writeField hs)

theorem Sound.redecide {x} : Sound s₀ (s.redecide x) := .ite (.modTrIn hs) (.decideIn (.modTrIn hs))

theorem Sound.writeEireq {n v} : Sound s₀ (s.writeEireq n v) := .ite (.eireqSet hs) (.eireqClear hs)

theorem Sound.writeAtuSource {v} : Sound s₀ (s.writeAtuSource v) := .ite (.setF hs) (.writeSrcreq hs)

theorem Sound.onBit {w : Word} {b : Nat} {f : State → State} (hf : ∀ t, Sound s₀ t → Sound s₀ (f t)) : Sound s₀ (onBit w b f s) := .ite (hf s hs) hs

theorem Sound.putReg {r i w} : Sound s₀ (s.putReg r i w) := by
  unfold State.putReg
  extract_lets g n24 n96 n8 n4
  have hg : ∀ skip, Sound s₀ (g skip) := fun _ => .writeFields hs
  split
  · exact .writeActCtrl hs
  · exact .guardedWrite hs
  · exact .guardedWrite hs
  · exact .writeArm (hg _)
  · exact .ite (.warmRequest (hg _)) (.supReset (hg _))
  · exact .writePdreq hs
  · exact .autoRelock (.onBit (hg _) fun _ ht => .relock ht)
  · exact .writeBand hs
  · exact .writeThermMask hs
  · exact .writeEn (.onBit (.writeAtuSource hs) (fun _ ht => .snapshot ht))
  · exact .svCheck (.writeFpcsel (.svSelect (hg _)))
  · exact .svCheck (hg _)
  · exact .writeEn (.writeFretSwap hs)
  · exact .guardedWrite hs
  · exact .writePlen hs
  · exact .ite (.ite (.setF (.writeLock hs)) (.modReset (.writeLock hs))) (.writeEn (.writeLock hs))
  · exact .writeEn (hg _)
  · exact .writeEn (hg _)
  · exact .foldl (hg _) fun _ _ ht => .onBit (.onBit ht fun _ hu => .bulkGo hu) fun _ hu => .bulkFree hu
  · exact .onBit (.writeEireq (.writeRate (.rxPolarity (hg _)))) fun _ ht => .retrain ht
  · exact .writeTxeq hs
  · exact .writePatctrl hs
  · exact .onBit (.writeClgSwap (.writeLock (hg _))) fun _ ht => .clearRequest ht
  · exact .guardedWrite hs
  · exact .guardedWrite hs
  · exact .writeEn (.redecide (hg _))
  · exact .redecide (hg _)
  · exact .redecide (hg _)
  · exact .redecide (hg _)
  · exact .redecide (hg _)
  · exact .writeEn (.redecide (hg _))
  · exact .redecide (hg _)
  · exact .redecide (hg _)
  · exact .onBit (.writeLock hs) (fun _ ht => .muteClear ht)
  · exact .clearLatches hs
  · exact .clearLatches hs
  · exact .clearLatches hs
  · exact .onBit hs (fun _ ht => .supTrip ht)
  · exact .writeRoute hs
  · exact .writeRoute hs
  · exact .writeRoute hs
  · exact .ite (.onBit hs (fun _ ht => .swTrip ht)) hs
  · exact .writeEn (hg _)
  · exact .settle (.writeSwitch (hg _))
  · exact .onBit (.settle (.writeSwitch (hg _))) fun _ ht => .tripClear ht
  · exact .settle (hg _)
  · exact .writeOvr hs
  · exact .writeLock hs
  · exact .pwmStart hs
  · exact .ite (.adReset hs) (.swgo (.writeEn hs))
  · exact .writeTdac hs
  · exact .writeLock hs
  · exact .writeLock (hg _)
  · exact .writeEn hs
  · exact .writeAuxOvr hs
  · exact .writeVid hs
  · exact .ite (.phasesFitted (hg _)) (.setF (.phasesFitted (hg _)))
  · exact .writeEn (.writeHpMode (hg _))
  · exact .writeTail hs
  · exact .writeTail hs
  · exact .ite (hg _) hs
  · exact .writeTxeq hs
  · exact .writePatctrl hs
  · exact .ite (.timeSetAll hs) (.onBit hs (fun _ ht => .timeStepAll ht))
  · exact hs
  · exact hs
  · exact hs
  · exact .writeEn (hg _)
  · exact .onBit (.onBit (.writeEn (.writeLock hs)) (fun _ ht => .requestHandover ht)) (fun _ ht => .claimRole ht)
  · exact .pairChanged (hg _)
  · exact .onBit (.mirPolarity (hg _)) fun _ ht => .mirRetrain ht
  · exact .writeTxeq hs
  · exact .writePatctrl hs
  · exact .ite (.forIdx (hg _) fun _ _ ht => .settle ht) hs
  · exact .ite (.ceReset (hg _)) (.writeEn (hg _))
  · exact hg _

theorem Sound.writeReg {r i w} : Sound s₀ (s.writeReg r i w) := .ite (.putReg hs) hs

theorem Sound.accessError {cause ag a k wr} : Sound s₀ (s.accessError cause ag a k wr) :=
  .busError (.ite (.foldl hs fun _ _ ht => .countBadSsm ht) hs)

theorem Sound.writeSpace {a w} : Sound s₀ (s.writeSpace a w) := by
  unfold State.writeSpace
  split
  · exact .writeReg hs
  · refine .ite ?_ ?_
    · exact .ite (.writeFretTable hs) hs
    · split
      · exact .ite hs (.ite (.writeSlot hs) (.ite (.setWord hs) hs))
      · exact hs

theorem Sound.writeMram {ag a w} : Sound s₀ (s.writeMram ag a w) := by
  unfold State.writeMram
  split
  · exact .ite hs (.setWord hs)
  · exact .ite (.setCred (.setWord hs)) hs
  · exact hs

theorem Sound.writeMem {ag a w} : Sound s₀ (s.writeMem ag a w) := by
  unfold State.writeMem
  split
  · exact .ite hs (.ite (.consNote (.freshWord (.setWord hs))) (.freshWord (.setWord hs)))
  · exact .ite hs (.ite (.freshWord (.setWord hs)) (.writeBank hs))
  · exact .writeMram hs
  · exact hs

theorem Sound.busWrite {ag a w} : Sound s₀ (s.busWrite ag a w) := by
  refine .ite hs ?_
  split
  · exact .accessError hs
  · refine .answer ?_
    split
    · exact .ite (.writeSpace hs) hs
    · exact .ite (.writeSpace hs) hs
    · exact .writeMem hs

theorem Sound.readSpace {rd a} : Sound s₀ (s.readSpace rd a).2 := by
  unfold State.readSpace
  split
  · exact .readReg hs
  · split
    · exact hs
    · split
      · split
        · exact hs
        · split
          · exact hs
          · split
            · exact hs
            · exact hs
      · exact hs

theorem Sound.readMem {a} : Sound s₀ (s.readMem a).2 := by
  unfold State.readMem
  split
  · split
    · exact .countSoftSsm hs
    · exact hs
  · split
    · exact hs
    · exact .countSoftCe hs
  · exact hs
  · exact hs
  · split
    · exact .ite (.countSoftSsm hs) hs
    · exact hs
  · exact hs

theorem Sound.busRead {ag a} : Sound s₀ (s.busRead ag a) := by
  unfold State.busRead
  refine .ite ?_ ?_
  · exact hs
  · split
    · exact .accessError hs
    · split
      · exact .answer (.readSpace hs)
      · exact .answer (.readSpace hs)
      · exact .ite (.answer (.readMem hs)) (.ite (.pegRead hs) (.ite (.pegRead hs) (.pegRead hs)))
      · exact .answer (.readMem hs)

theorem Sound.readMemBytes {a k} : Sound s₀ (s.readMemBytes a k) :=
  (show Sound s₀ (List.foldl (fun t w => (t.readMem w).2) s (Sys2Proof.Machine.wordsOf a k)) from .foldl hs fun _ _ ht => .readMem ht)

theorem Sound.writeMemBytes {ag a l} : Sound s₀ (s.writeMemBytes ag a l) := .answer (.foldl (.countPartial hs) fun _ _ ht => .writeMem ht)

theorem Sound.access {ag a wr k} : Sound s₀ (s.access ag a wr k) := by
  unfold State.access
  refine .ite ?_ ?_
  · split
    · exact .busWrite hs
    · exact .busRead hs
  · refine .ite ?_ ?_
    · exact hs
    · split
      · exact .accessError hs
      · split
        · exact .writeMemBytes hs
        · exact .readMemBytes hs

theorem Sound.dmaSoft {a len} : Sound s₀ (s.dmaSoft a len) := .foldl hs fun _ _ ht => .ite (.countSoft ht) ht

theorem Sound.dmaByte {a b} : Sound s₀ (s.dmaByte a b) := by
  unfold State.dmaByte
  split
  · exact .ite hs (.freshWord (.setByte hs))
  · exact .ite hs (.ite (.freshWord (.setByte hs)) (.writeBank hs))
  · exact hs

theorem Sound.dmaPut {a l} : Sound s₀ (s.dmaPut a l) := by
  induction l generalizing s a with
  | nil => exact hs
  | cons b t ih => exact ih (.dmaByte hs)

theorem Sound.viewed {a code go} (hgo : ∀ t, Sound s₀ t → Sound s₀ (go t)) : Sound s₀ (s.viewed a code go) := .ite (hgo s hs) (.replyU hs)

theorem Sound.queryEntry {r j} : Sound s₀ (s.queryEntry r j) := .ite (.replyU hs) (.replyU hs)

theorem Sound.query {r k} : Sound s₀ (s.query r k) := by
  unfold State.query
  split
  · exact .queryEntry hs
  · split
    · exact .queryEntry hs
    · exact .replyU hs

theorem Sound.readWord {r a} : Sound s₀ (s.readWord r a) := .ite (.replyU hs) (.replyU hs)

theorem Sound.freeBody : Sound s₀ (s.freeBody).2 := .draw hs

theorem Sound.attested {nonce} : Sound s₀ (s.attested nonce).2 := by
  unfold State.attested
  extract_lets fresh
  split
  · split
    · exact hs
    · exact hs
  · exact hs

theorem Sound.attestReply {r nonce part} : Sound s₀ (s.attestReply r nonce part) :=
  .ite (.replyU hs) (.viewed hs (fun _ ht => .ite (.replyU ht) (.replyU (.attested ht))))

theorem Sound.imagePut {r buf off data} : Sound s₀ (s.imagePut r buf off data) := by
  unfold State.imagePut
  refine .ite ?_ ?_
  · exact .replyU hs
  · refine .ite ?_ ?_
    · exact .replyU hs
    · split
      · exact .replyU hs
      · exact .replyU (.modJnl (.putList hs))

theorem Sound.answerU {r u} : Sound s₀ (s.answerU r u) := by
  unfold State.answerU
  split
  · exact .replyU hs
  · exact .ite (.viewed hs (fun _ ht => .query ht)) (.replyU hs)
  · exact .viewed hs (fun _ ht => .readWord ht)
  · exact .viewed hs (fun _ ht => .replyU (.freeBody ht))
  · exact .attestReply hs
  · exact .imagePut hs

theorem Sound.serve {q} : Sound s₀ (s.serve q) := by
  unfold State.serve
  split
  · exact .ite (.evaluate hs) hs
  · exact .answerU hs
  · exact .send hs

theorem Sound.turnAway {q} : Sound s₀ (s.turnAway q) := by
  unfold State.turnAway
  split
  · exact .replyS hs
  · exact .replyU hs
  · exact .send hs

theorem Sound.submit {q} : Sound s₀ (s.submit q) := .ite (.ite (.turnAway hs) (.modJnl hs)) (.serve hs)

theorem Sound.drainQueue {k} : Sound s₀ (s.drainQueue k) := by
  induction k generalizing s with
  | zero => exact hs
  | succ k ih =>
    unfold State.drainQueue
    split
    · exact hs
    · exact ih (.serve (.modJnl hs))

theorem Sound.request {r code body} : Sound s₀ (s.request r code body) := .sessioned hs (fun _ ht => .submit ht)

theorem Sound.unsequenced {r u} : Sound s₀ (s.unsequenced r u) := .sessioned hs (fun _ ht => .submit ht)

theorem Sound.replyN {q code status body} : Sound s₀ (s.replyN q code status body) := .sendAs hs

theorem Sound.sessionless {q go} (hgo : ∀ t, Sound s₀ t → Sound s₀ (go t)) : Sound s₀ (s.sessionless q go) :=
  .ite (hgo _ (.noReplies hs)) (.noReplies hs)

theorem Sound.recovering {q go} (hgo : ∀ t, Sound s₀ t → Sound s₀ (go t)) : Sound s₀ (s.recovering q go) := by
  refine .sessionless hs fun t ht => .ite (.replyN ht) ?_
  split
  · exact .ite (hgo _ (.modJnl ht)) (.replyN ht)
  · exact hgo t ht

theorem Sound.recoverBegin {q total} : Sound s₀ (s.recoverBegin q total) := .ite (.replyN hs) (.replyN (.modJnl hs))

theorem Sound.recoverData {q off data} : Sound s₀ (s.recoverData q off data) := by
  unfold State.recoverData
  split
  · exact .replyN hs
  · exact .ite (.ite (.replyN hs) (.replyN (.modJnl (.setList hs)))) (.ite (.replyN hs) (.replyN hs))

theorem Sound.replyReset {q} : Sound s₀ (s.replyReset q) := .modJnl (.warmReset (.replyN hs))

theorem Sound.recoverCommit {q} : Sound s₀ (s.recoverCommit q) := by
  unfold State.recoverCommit
  split
  · exact .replyN hs
  · exact .ite (.replyN hs) (.ite (.replyN (.setF hs)) (.ite (.replyN (.setF hs)) (.replyReset (.modPmc (.setF hs)))))

theorem Sound.recoverRetry {q} : Sound s₀ (s.recoverRetry q) := .ite (.replyN hs) (.replyReset (.modPmc hs))

theorem Sound.openKey {q key nh id} : Sound s₀ (s.openKey q key nh id) := by
  have h1 : Sound s₀ { s with free := s.free + 1 } := hs
  exact .jnlSync (.sendAs (.modSess h1))

theorem Sound.openStage {q cred resume nh} : Sound s₀ (s.openStage q cred resume nh) := by
  unfold State.openStage
  split
  · exact .replyN hs
  · refine .ite ?_ ?_
    · exact .ite (.replyN hs) (.openKey (.mirrorSess (.modJnl (.draw hs))))
    · split
      · exact .replyN hs
      · exact .ite (.openKey hs) (.replyN hs)

theorem Sound.openReq {q cred resume nh} : Sound s₀ (s.openReq q cred resume nh) := by
  unfold State.openReq
  refine .ite ?_ ?_
  · exact .replyN hs
  · refine .ite ?_ ?_
    · exact .replyN hs
    · split
      · exact .replyN hs
      · exact .openStage hs

theorem Sound.rawKey {raw} : Sound s₀ (s.rawKey raw) := .modSess hs

theorem Sound.badDatagram {q raw} : Sound s₀ (s.badDatagram q raw) := by
  unfold State.badDatagram
  extract_lets session code
  refine .ite ?_ ?_
  · exact hs
  · refine .ite ?_ ?_
    · exact .replyN hs
    · split
      · exact .sendAs hs
      · exact .ite (.submit (.renew (.rawKey hs))) (.countF hs)

theorem Sound.dataLoad {n a size} : Sound s₀ (s.dataLoad n a size).2.1 := by
  unfold State.dataLoad
  split
  · exact .countSoftCe hs
  · exact .countSoftSsm (.ssmLatency hs)
  · exact .readSpace (.regLatency hs)

theorem Sound.dataStore {n a size v} : Sound s₀ (s.dataStore n a size v).1 := by
  unfold State.dataStore
  split
  · exact .freshWord (.setBytes (.ite hs (.countSoftCe hs)))
  · have hl : Sound s₀ (s.ssmLatency n).2 := .ssmLatency hs
    extract_lets l s0 u
    have hu : Sound s₀ u := .freshWord (.setBytes (.ite hl (.countSoftSsm hl)))
    split
    · exact hl
    · exact .ite (.consNote hu) hu
  · exact .writeSpace (.regLatency hs)

theorem Sound.dataCount {n i pr a size store} : Sound s₀ (s.dataCount n i pr a size store) := .ite (.countBadSsm hs) hs

theorem Sound.loadEff {n rd ra a size ext post} (k : Nat) : (loadEff n rd ra a size ext post k s).Sound s₀ := by
  unfold Machine.loadEff
  split
  · trivial
  · exact .modCe (.dataLoad hs)

theorem Sound.loadInstr {n pr rd ra imm i size ext} : Sound s₀ (loadInstr n pr rd ra imm i size ext s) :=
  .issue (.dataCount hs) fun k _ ht => Sound.loadEff ht k

theorem Sound.storeEff {n ra a size v fl post} (k : Nat) : (storeEff n ra a size v fl post k s).Sound s₀ := by
  unfold Machine.storeEff
  split
  · trivial
  · exact .modCe (.dataStore hs)

theorem Sound.storeInstr {n pr rs ra imm i size v} : Sound s₀ (storeInstr n pr rs ra imm i size v s) :=
  .issue (.dataCount hs) fun k _ ht => Sound.storeEff ht k

end
end Sys2Proof.Machine
end

section
/-! SUPPORT. What performing an engine instruction keeps, and from it what every command keeps. -/
namespace Sys2Proof.Machine

-- The proofs one after another: all at once they would need more threads, and their stacks, than the check's memory holds.
set_option Elab.async false
set_option Elab.async false
section
variable {s₀ s : State} (hs : Sound s₀ s)
include hs

/-! The effects of the engine instructions. -/

theorem Sound.issueReg {n pr u i f} : Sound s₀ (Machine.issue n pr u i (regEff n f) s) := .issue hs fun _ _ ht => ht.modCe

theorem Sound.biqEff {n rd ra rb} (k : Nat) : (biqEff n rd ra rb k s).Sound s₀ := by
  unfold Machine.biqEff
  extract_lets e a
  split
  · trivial
  · exact .modCe (.putRam (.putRam (.putRam (.putRam (.blockSoft hs)))))

theorem Sound.piEff {n rd ra rb} (k : Nat) : (piEff n rd ra rb k s).Sound s₀ := by
  unfold Machine.piEff
  extract_lets e a
  split
  · trivial
  · exact .modCe (.putPi (.blockSoft hs))

theorem Sound.capoEff {n rd ra rb} (k : Nat) : (capoEff n rd ra rb k s).Sound s₀ := by
  unfold Machine.capoEff
  extract_lets e a
  split
  · trivial
  · exact .modCe (.putPi (.blockSoft hs))

theorem Sound.sendEff {n ra rb} (k : Nat) : (sendEff n ra rb k s).Sound s₀ := by
  have hdrop : Sound s₀ (s.setF .CE_CSTAT_SENDDROP n 1) := .setF hs
  unfold Machine.sendEff
  extract_lets e d w drop
  split
  · trivial
  split
  · exact hdrop
  split
  · split
    · split
      · exact .modLane hs
      · exact hdrop
    · exact hdrop
  split
  · split
    · exact .ite (.sortRequest (.modArm hs)) (.modArm hs)
    · exact hdrop
  · exact hdrop

theorem Sound.recvEff {n rd ra} (k : Nat) : (recvEff n rd ra k s).Sound s₀ := by
  unfold Machine.recvEff
  extract_lets d
  split
  · trivial
  · exact .modCe hs

theorem Sound.waitfEff {n pd off} (k : Nat) : (waitfEff n pd off k s).Sound s₀ := by
  unfold Machine.waitfEff
  split
  · exact .modCe hs
  split
  · exact .modCe hs
  · exact .modCe hs

theorem Sound.commitEff {n rd} (k : Nat) : (commitEff n rd k s).Sound s₀ :=
  .ite (.endTask (.modCe (.commitOp hs))) (.modCe (.commitOp hs))

theorem Sound.jumpTo {a} : (jumpTo a s).Sound s₀ := by
  unfold Machine.jumpTo
  split
  · exact hs
  · trivial

theorem Sound.issueBrk {n pr u i} :
    Sound s₀ (Machine.issue n pr u i (fun _ s => if s.brkHalts n then .done (s.debugHalt n) none 0 else .exc xBreak 0#32) s) := by
  refine .issue hs fun k t ht => ?_
  split
  · exact .debugHalt ht
  · trivial

theorem Sound.fetchFaultGetD {n} : Sound s₀ ((s.fetchFault n).getD s) := by
  cases hf : s.fetchFault n with
  | none => exact hs
  | some t => exact .fetchFault hs hf

theorem Sound.toutPulse {t : State} {n : Fin 8} {d fall : Nat} {next : Option Nat} (ht : Sound s₀ t) :
    Sound s₀ (if t.timeNs < d || !s.clockRuns then s
      else { t with tout := t.tout.set n { active := true, rise := next, fall := fall } }) :=
  .ite hs (.upd ht)

/-! The commands whose meaning has cases. -/

theorem Answers.taskStart {n} : Answers (.taskStart n) s (Sound s₀) := by
  refine ⟨_, rfl, ?_⟩
  split
  · exact hs
  · rename_i c r _
    have h1 : Sound s₀ (s.raiseAngle (s.rowWord c r (8 * n) % 65536)) := .raiseAngle hs
    exact .ite hs (.ite (.skipStart (.upd h1)) (.beginTask (.upd h1)))

theorem Answers.scanStart {m l src} : Answers (.scanStart m l src) s (Sound s₀) := by
  refine ⟨_, rfl, ?_⟩
  have h1 : Sound s₀ (s.raiseAngle (s.scanWord m % 65536)) := .raiseAngle hs
  split
  · exact .ite (.scanStart (.upd h1)) hs
  · exact .ite (.scanStart hs) hs
  · exact .scanStart hs

theorem Answers.adcConversionDone {m x} : Answers (.adcConversionDone m x) s (Sound s₀) := by
  refine ⟨_, rfl, ?_⟩
  split
  · exact hs
  · refine .ite ?_ ?_
    · exact hs
    · extract_lets s1 s2
      have h1 : Sound s₀ s1 := .modAdc hs
      have h2 : Sound s₀ s2 := .ite (.atuSample h1) ((by split <;> [exact .storeResult h1; exact h1]))
      exact .ite (.setF (.setF (.modAdc h2))) (.adcNext h2)

theorem Answers.slewEnd : Answers .slewEnd s (Sound s₀) := by
  refine ⟨_, rfl, .ite (.setF (.setF (.setF ?_))) hs⟩
  exact .upd hs

theorem Answers.ldwp {n pr rd ra imm} : Answers (.ldwp n pr rd ra imm) s (Sound s₀) :=
  ⟨_, rfl, Sound.issue (.dataCount hs) fun k _ ht => Sound.loadEff ht k⟩

theorem Answers.stwp {n pr rs ra imm} : Answers (.stwp n pr rs ra imm) s (Sound s₀) :=
  ⟨_, rfl, Sound.issue (.dataCount hs) fun k _ ht => Sound.storeEff ht k⟩

theorem Answers.waitfWake {n} : Answers (.waitfWake n) s (Sound s₀) := by
  refine ⟨_, rfl, ?_⟩
  split
  · exact hs
  · exact .ite (.modCe (.ite hs (.raiseAngle hs))) hs

theorem Answers.ssmGrant {raised engines cycles} : Answers (.ssmGrant raised engines cycles) s (Sound s₀) := by
  refine ⟨_, rfl, ?_⟩
  split
  · exact hs
  · exact hs
  · split
    · exact hs
    · exact (show Sound s₀ (s.passTo ((s.grantFrom + 1) / 2)) from .passTo hs)

theorem Answers.holdLimitCut : Answers .holdLimitCut s (Sound s₀) := by
  refine ⟨_, rfl, ?_⟩
  split
  · exact hs
  · exact hs
  · rename_i j _ _
    extract_lets t
    have h1 : Sound s₀ t := .countF (.orF hs)
    clear_value t
    exact .upd h1

theorem Answers.debugResume {x} : Answers (.debugResume x) s (Sound s₀) := by
  refine ⟨_, rfl, ?_⟩
  split
  · exact .ite (.resumeEngine hs) hs
  · refine .ite ?_ hs
    exact hs

theorem Answers.cbsSortStart {a} : Answers (.cbsSortStart a) s (Sound s₀) := by
  refine ⟨_, rfl, ?_⟩
  split
  · exact .ite (.modArm hs) hs
  · exact hs

theorem Answers.trainingSetReceived {n first rest errs} : Answers (.trainingSetReceived n first rest errs) s (Sound s₀) := by
  refine ⟨_, rfl, ?_⟩
  extract_lets kind tb inv err
  refine .ite ?_ ?_
  · exact hs
  · refine .ite ?_ ?_
    · exact .ite (.modLane (.setLstate (.setWhen (.modLane hs)))) (.setWhen (.modLane hs))
    · exact .ite (.tbCheck (.modLane hs)) (.ite (.ite (.ite (.linkLost hs) (.modLane hs)) (.codeErrors (.modLane hs))) hs)

theorem Answers.trainingTimeout {t} : Answers (.trainingTimeout t) s (Sound s₀) := by
  refine ⟨_, rfl, ?_⟩
  split
  · exact .ite (.train (.countF (.passTo hs))) hs
  · split
    · exact .ite (.mirTrain (.foldl (.passTo hs) fun _ _ ht => .countF ht)) hs
    · exact hs

theorem Answers.commandLaunch {n} : Answers (.commandLaunch n) s (Sound s₀) := by
  refine ⟨_, rfl, ?_⟩
  refine .ite ?_ ?_
  · extract_lets s1 miss
    have h1 : Sound s₀ s1 := .lateConv (.modLane (.raiseAngle hs))
    have h2 : Sound s₀ miss := .countF h1
    refine .ite ?_ ?_
    · exact .setF h2
    · refine .ite ?_ ?_
      · exact h1
      · extract_lets l
        refine .ite ?_ ?_
        · exact h2
        · refine .ite ?_ ?_
          · exact h2
          · split
            · exact h2
            · exact .modLane (.sendFrames h1)
  · exact hs

theorem Answers.bulkTxSend {n} : Answers (.bulkTxSend n) s (Sound s₀) := by
  refine ⟨_, rfl, ?_⟩
  split
  · exact hs
  · exact .ite (.modLane (.clrF (.clrF (.sendFrames hs)))) hs

theorem Answers.pwmStartDue : Answers .pwmStartDue s (Sound s₀) := by
  refine ⟨_, rfl, ?_⟩
  split
  · exact .ite (.startDue (.passTo hs)) hs
  · exact hs

theorem Answers.pwmTrigger {n b} : Answers (.pwmTrigger n b) s (Sound s₀) := by
  refine ⟨_, rfl, ?_⟩
  split
  · exact .pwmEvent (.fireTrigger hs ‹_›)
  · exact hs

theorem Answers.debugHalt {h} : Answers (.debugHalt h) s (Sound s₀) := by
  refine ⟨_, rfl, ?_⟩
  split
  · exact .ite (.haltEngine hs) hs
  · refine .ite ?_ hs
    exact hs

theorem Answers.auxDeadTimeExpiry {x high} : Answers (.auxDeadTimeExpiry x high) s (Sound s₀) := by
  refine ⟨_, rfl, ?_⟩
  refine .ite (.auxDrive ?_) hs
  exact hs

theorem Answers.auxLinkLoss : Answers .auxLinkLoss s (Sound s₀) := by
  refine ⟨_, rfl, ?_⟩
  have h1 : Sound s₀ (s.setF .AUX_STAT_LINKLOSS 0 1) := .setF hs
  generalize s.setF .AUX_STAT_LINKLOSS 0 1 = t at h1 ⊢
  exact .ite (.auxDriveAll (.forIdx (.upd h1) fun _ _ ht => .modAux ht)) hs

theorem Answers.auxLinkReturn : Answers .auxLinkReturn s (Sound s₀) := by
  refine ⟨_, rfl, ?_⟩
  refine .ite (.forIdx ?_ fun _ _ ht => .modAux ht) hs
  exact hs

theorem Answers.vregPhaseFire : Answers .vregPhaseFire s (Sound s₀) := by
  refine ⟨_, rfl, ?_⟩
  refine .ite ?_ ?_
  · split
    · exact hs
    · exact hs
  · exact hs

theorem Answers.serFirmwareStart : Answers .serFirmwareStart s (Sound s₀) := by
  refine ⟨_, rfl, ?_⟩
  split
  · exact .ite (.modSec (.serStart hs)) hs
  · exact hs

theorem Answers.tpoPulse {k} : Answers (.tpoPulse k) s (Sound s₀) := by
  refine ⟨_, rfl, ?_⟩
  split
  · exact .ite (.modSer hs) hs
  · exact hs

theorem Answers.tpoPulseEnd {k closed} : Answers (.tpoPulseEnd k closed) s (Sound s₀) := by
  refine ⟨_, rfl, ?_⟩
  split
  · exact .ite (.pulseEnd hs) hs
  · exact hs

theorem Answers.tpoRecoveryCheck {k closed} : Answers (.tpoRecoveryCheck k closed) s (Sound s₀) := by
  refine ⟨_, rfl, ?_⟩
  split
  · exact .ite (.recoveryCheck hs) hs
  · exact hs

theorem Answers.soutDarkPulse {n} : Answers (.soutDarkPulse n) s (Sound s₀) := by
  refine ⟨_, rfl, ?_⟩
  split
  · exact .ite (.modSer hs) hs
  · exact hs

theorem Answers.hostFrameReceived {p f fcs ago} : Answers (.hostFrameReceived p f fcs ago) s (Sound s₀) := by
  refine ⟨_, rfl, ?_⟩
  refine .ite hs (.ite (.countF hs) ?_)
  have h1 : Sound s₀ (s.prpReceive p f).2 := .prpReceive hs
  generalize s.prpReceive p f = r at h1
  obtain ⟨_ | fl, t⟩ := r
  · exact h1
  · dsimp only at h1 ⊢
    split
    · exact .ringPut h1
    · exact .ringPut (.svFrame h1)

theorem Answers.prpEntryExpiry {k} : Answers (.prpEntryExpiry k) s (Sound s₀) := by
  refine ⟨_, rfl, ?_⟩
  split
  · exact hs
  · exact .ite hs (.modPrp (.passTo hs))

theorem Answers.timedLaunchDue {q busy} : Answers (.timedLaunchDue q busy) s (Sound s₀) := by
  refine ⟨_, rfl, ?_⟩
  split
  · exact hs
  · rename_i a _
    have h1 : Sound s₀ (s.reachLaunch a) := .reachLaunch hs
    exact .ite hs (.ite (.ite (.dupCheck h1) (.headAgain h1)) (.ite (.modHp h1) (.modHp h1)))

theorem Answers.hostFrameSent {p src ago} : Answers (.hostFrameSent p src ago) s (Sound s₀) := by
  refine ⟨_, rfl, .ite hs ?_⟩
  split
  · exact .ite (.sendJob hs) hs
  · refine .ite hs ?_
    split
    · exact .sendJob (.takeJob hs ‹_›)
    · exact hs

theorem Answers.hostLinkStateChange {p e} : Answers (.hostLinkStateChange p e) s (Sound s₀) := by
  refine ⟨_, rfl, ?_⟩
  refine .ite ?_ ?_
  · split
    · exact .modHp (.setF hs)
    · exact .ite hs (.ite (.setF hs) (.hpEnterUp hs))
    · exact .ite hs (.ite (.setF hs) (.hpEnterUp (.setSpeed hs)))
  · exact hs

theorem Answers.toutRise {n} : Answers (.toutRise n) s (Sound s₀) := by
  refine ⟨_, rfl, ?_⟩
  split
  · exact hs
  · exact .toutPulse hs (.passTime hs)

theorem Answers.toutFall {n} : Answers (.toutFall n) s (Sound s₀) := by
  refine ⟨_, rfl, ?_⟩
  have h1 : Sound s₀ (s.passTo (s.tout[n]).fall) := .passTo hs
  generalize s.passTo _ = t at h1 ⊢
  exact .ite (.upd h1) hs

theorem Answers.recoveryIdleTimeout : Answers .recoveryIdleTimeout s (Sound s₀) := by
  refine ⟨_, rfl, ?_⟩
  split
  · exact .ite (.loseMem (.modJnl (.passTo hs))) hs
  · exact hs

theorem Answers.sessionKeyTimeout {sid} : Answers (.sessionKeyTimeout sid) s (Sound s₀) := by
  refine ⟨_, rfl, ?_⟩
  split
  · exact .ite (.modSess (.passTo hs)) hs
  · exact hs

theorem Answers.journalCommitDone : Answers .journalCommitDone s (Sound s₀) := by
  refine ⟨_, rfl, ?_⟩
  extract_lets s0
  have h1 : Sound s₀ s0 := .noReplies hs
  split
  · exact h1
  · exact .ite (.drainQueue (.recordLeases (.accept h1))) h1

theorem Answers.mirrorCommitTimeout : Answers .mirrorCommitTimeout s (Sound s₀) := by
  refine ⟨_, rfl, ?_⟩
  split
  · exact .ite (.soloStep (.modTwin (.passTo hs))) hs
  · exact hs

theorem Answers.consumedMarkDurable : Answers .consumedMarkDurable s (Sound s₀) := by
  refine ⟨_, rfl, ?_⟩
  split
  · exact .ite (.ite (.queueMir (.replayCheck (.takeMark (.noReplies hs)))) (.replayCheck (.takeMark (.noReplies hs)))) hs
  · exact hs

theorem Answers.leaseExpire {k} : Answers (.leaseExpire k) s (Sound s₀) := by
  refine ⟨_, rfl, ?_⟩
  split
  · exact .ite (.leaseExpire (.passTo hs)) hs
  · exact hs

theorem Answers.sessionIdleExpiry {sid} : Answers (.sessionIdleExpiry sid) s (Sound s₀) := by
  refine ⟨_, rfl, ?_⟩
  split
  · exact .ite (.breakSession (.passTo hs)) hs
  · exact hs

theorem Answers.heartbeatSend : Answers .heartbeatSend s (Sound s₀) := by
  refine ⟨_, rfl, ?_⟩
  refine .ite ?_ ?_
  · extract_lets s1 d win s2 h s3
    have h1 : Sound s₀ s1 := .raiseAngle hs
    have h2 : Sound s₀ s2 := .ite (.winCount (.draw h1)) (.draw h1)
    have h3 : Sound s₀ s3 := .modTwin (.serveMir h2)
    exact h3
  · exact hs

theorem Answers.ctlFrameReceived {c} : Answers (.ctlFrameReceived c) s (Sound s₀) := by
  refine ⟨_, rfl, ?_⟩
  refine .ite ?_ ?_
  · exact hs
  · split
    · exact .ite (.ctlFrame hs) (.countF hs)
    · exact .ctlFrame hs

theorem Answers.pwmasterAlignLoad : Answers .pwmasterAlignLoad s (Sound s₀) := by
  refine ⟨_, rfl, ?_⟩
  split
  · exact hs
  · exact .ite (.modTwin (.countF (.ite (.ite hs (.periodStart hs)) (.modPair (.loadPhase (.ite hs (.periodStart hs))))))) hs

theorem Answers.porPin : Answers .porPin s (Sound s₀) :=
  ⟨_, rfl, .modPmc (.ite hs (.keepLatch (.powerOnReset hs)))⟩

theorem Answers.buttonStuck : Answers .buttonStuck s (Sound s₀) := by
  refine ⟨_, rfl, ?_⟩
  split
  · exact .ite (.buttonStuck (.passTo hs)) hs
  · exact hs

theorem Answers.refLoss : Answers .refLoss s (Sound s₀) := by
  refine ⟨_, rfl, ?_⟩
  have h0 : Sound s₀ s.inputsRun := .inputsRun hs
  generalize s.inputsRun = t at h0 ⊢
  refine .ite (.ite h0 ?_) hs
  extract_lets s0 s1 s2
  have h0 : Sound s₀ s0 := h0
  clear_value s0
  have h1 : Sound s₀ s1 := .ite (.quadBurst h0) h0
  clear_value s1
  have h2 : Sound s₀ s2 := .forIdx (.upd h1) fun _ _ ht => .ite (.setF ht) (.gatePll ht)
  exact .clockLoss (.setF h2)

theorem Answers.pllLockLoss {n} : Answers (.pllLockLoss n) s (Sound s₀) := by
  refine ⟨_, rfl, ?_⟩
  refine .ite ?_ ?_
  · exact hs
  · refine .ite ?_ ?_
    · extract_lets s1 s2
      have h1 : Sound s₀ s1 := .clockLoss (.orF (.gatePll hs))
      have h2 : Sound s₀ s2 := .ite (.gateQuads h1) h1
      exact .ite (.acquire h2) h2
    · exact .ite (.gateQuads (.orF hs)) hs

theorem Answers.rc16Loss : Answers .rc16Loss s (Sound s₀) := by
  refine ⟨_, rfl, ?_⟩
  refine .ite (.clockLoss (.setF ?_)) hs
  exact hs

theorem Answers.pllLock {n} : Answers (.pllLock n) s (Sound s₀) := by
  refine ⟨_, rfl, ?_⟩
  refine .ite ?_ ?_
  · extract_lets s0 s1 s2 s3
    have h1 : Sound s₀ s0 := .passTo hs
    have h2 : Sound s₀ s1 := .setF (.setF h1)
    have h3 : Sound s₀ s2 := h2
    have h4 : Sound s₀ s3 := .ite (.pairsClockBack (.setLatch h3)) h3
    exact .clockCheck h4
  · exact hs

theorem Answers.secVerifyDone : Answers .secVerifyDone s (Sound s₀) := by
  refine ⟨_, rfl, ?_⟩
  split
  · exact .ite (.replayCheck (.secVerified (.noReplies hs))) hs
  · exact hs

theorem Answers.engFloorRaise : Answers .engFloorRaise s (Sound s₀) := by
  refine ⟨_, rfl, ?_⟩
  split
  · exact hs
  · exact .ite (.forIdx (.modSec (.passTo hs)) fun _ _ ht => .ite (.setF ht) ht) (.modSec (.passTo hs))

theorem Answers.muteBurstComplete {n} : Answers (.muteBurstComplete n) s (Sound s₀) := by
  refine ⟨_, rfl, ?_⟩
  split
  · extract_lets l s1 s2
    have h1 : Sound s₀ s1 := .modLane (.passTo hs)
    have h2 : Sound s₀ s2 := .ite (.sendTimebase h1) (.ite (.sendHeldClear h1) h1)
    exact .ite (.sendDelayReq h2) h2
  · exact hs

theorem Answers.mirrorTrainingBlockReceived {m b} : Answers (.mirrorTrainingBlockReceived m b) s (Sound s₀) := by
  refine ⟨_, rfl, ?_⟩
  refine .ite ?_ ?_
  · exact hs
  · refine .ite ?_ ?_
    · exact .headerError hs
    · refine .ite ?_ ?_
      · extract_lets x
        split
        · exact .modMl hs
        · exact .modMl hs
        · exact .modMl hs
        · exact .ite hs (.ite (.ite (.setF (.modMl hs)) (.modMl hs)) (.mirOrder (.modMl hs)))
      · exact hs

theorem Answers.referenceReturn : Answers .referenceReturn s (Sound s₀) := by
  refine ⟨_, rfl, ?_⟩
  have h1 : Sound s₀ s.ticksReturn := .ticksReturn hs
  generalize s.ticksReturn = t at h1 ⊢
  exact .ite hs (.forIdx (.upd h1) fun _ _ ht => .autoRelock ht)

theorem Answers.reservedOpcode {n w} : Answers (.reservedOpcode n w) s (Sound s₀) := by
  refine ⟨_, rfl, .ite ?_ hs⟩
  split
  · exact .fetchFault hs ‹_›
  · exact .exception (.countFetch hs)

theorem Answers.fetchEccError {e} : Answers (.fetchEccError e) s (Sound s₀) := by
  refine ⟨_, rfl, ?_⟩
  split
  · exact .upset hs
  · exact hs
  · exact .ite (.fetchFaultGetD (.upset hs)) (.upset hs)

theorem Answers.dmaDescriptorComplete {src dst len} : Answers (.dmaDescriptorComplete src dst len) s (Sound s₀) := by
  refine ⟨_, rfl, .ite hs ?_⟩
  extract_lets s1
  have h1 : Sound s₀ s1 := by
    unfold s1
    generalize (List.range len).map _ = l
    split
    · exact .accessError hs
    · exact .accessError hs
    · exact .dmaPut (.countPartial (.dmaSoft hs))
  clear_value s1
  exact .ite (.upd h1) h1

/-- Every command answers, and what it answers is sound: one line for each command. -/
theorem answers_sound (c : Instr) : Answers c s (Sound s₀) := by
  cases c with
  | regWrite => exact ⟨_, rfl, .busWrite hs⟩
  | readClear => exact ⟨_, rfl, .busRead hs⟩
  | unmappedAccess => exact ⟨_, rfl, .access hs⟩
  | lock => exact ⟨_, rfl, .ite (.writeLock hs) hs⟩
  | unlock => exact ⟨_, rfl, .ite (.writeLock hs) hs⟩
  | unitEnable => exact ⟨_, rfl, .ite (.writeEn hs) hs⟩
  | unitDisable => exact ⟨_, rfl, .ite (.writeEn hs) hs⟩
  | drainComplete => exact ⟨_, rfl, .ite (.drainDone hs) hs⟩
  | fretBoundary => exact ⟨_, rfl, .ite (.fretBoundary hs) hs⟩
  | taskStart => exact .taskStart hs
  | scanStart => exact .scanStart hs
  | adcConversionDone => exact .adcConversionDone hs
  | deadlineThreshold => exact ⟨_, rfl, .ite (.foldl (.ite (.missDeadline (.modCe (.raiseAngle hs))) (.modCe (.raiseAngle hs))) fun _ _ ht => .armClose ht) hs⟩
  | armConversionDone => exact ⟨_, rfl, .ite (.modDrained (.armConverted hs)) hs⟩
  | fpcselWrite => exact ⟨_, rfl, .ite (.writeFpcsel hs) hs⟩
  | sourceHandoverRequest => exact ⟨_, rfl, .ite (.writeSrcreq hs) hs⟩
  | snap => exact ⟨_, rfl, .ite (.snapshot hs) hs⟩
  | atuEnable => exact ⟨_, rfl, .ite (.atuEnable hs) hs⟩
  | atuDisable => exact ⟨_, rfl, .ite (.atuDisable hs) hs⟩
  | sourceLoss => exact ⟨_, rfl, .ite (.ite (.sourceLost (.ite (.passTo hs) hs)) (.ite (.passTo hs) hs)) hs⟩
  | sourceReturn => exact ⟨_, rfl, .ite (.slewBegin (.setF hs)) hs⟩
  | slewEnd => exact .slewEnd hs
  | fretSwap => exact ⟨_, rfl, .ite (.writeFretSwap hs) hs⟩
  | fretSwapValidated => exact ⟨_, rfl, .ite (.ite (.setF (.setF (.setF (.setF hs)))) (.ite (.setF (.setF hs)) (.fretSwapNow (.setF hs)))) hs⟩
  | fretTableWrite => exact ⟨_, rfl, .ite (.writeFretTable hs) hs⟩
  | add => exact ⟨_, rfl, .issueReg hs⟩
  | sub => exact ⟨_, rfl, .issueReg hs⟩
  | and => exact ⟨_, rfl, .issueReg hs⟩
  | or => exact ⟨_, rfl, .issueReg hs⟩
  | xor => exact ⟨_, rfl, .issueReg hs⟩
  | andn => exact ⟨_, rfl, .issueReg hs⟩
  | sll => exact ⟨_, rfl, .issueReg hs⟩
  | srl => exact ⟨_, rfl, .issueReg hs⟩
  | sra => exact ⟨_, rfl, .issueReg hs⟩
  | ror => exact ⟨_, rfl, .issueReg hs⟩
  | min => exact ⟨_, rfl, .issueReg hs⟩
  | max => exact ⟨_, rfl, .issueReg hs⟩
  | minu => exact ⟨_, rfl, .issueReg hs⟩
  | maxu => exact ⟨_, rfl, .issueReg hs⟩
  | clz => exact ⟨_, rfl, .issueReg hs⟩
  | popc => exact ⟨_, rfl, .issueReg hs⟩
  | mul => exact ⟨_, rfl, .issueReg hs⟩
  | mulh => exact ⟨_, rfl, .issueReg hs⟩
  | mulhu => exact ⟨_, rfl, .issueReg hs⟩
  | div => exact ⟨_, rfl, .issueReg hs⟩
  | divu => exact ⟨_, rfl, .issueReg hs⟩
  | rem => exact ⟨_, rfl, .issueReg hs⟩
  | remu => exact ⟨_, rfl, .issueReg hs⟩
  | movl => exact ⟨_, rfl, .issueReg hs⟩
  | movh => exact ⟨_, rfl, .issueReg hs⟩
  | addi => exact ⟨_, rfl, .issueReg hs⟩
  | andi => exact ⟨_, rfl, .issueReg hs⟩
  | ori => exact ⟨_, rfl, .issueReg hs⟩
  | xori => exact ⟨_, rfl, .issueReg hs⟩
  | shi => exact ⟨_, rfl, .issueReg hs⟩
  | qadd => exact ⟨_, rfl, .issueReg hs⟩
  | qsub => exact ⟨_, rfl, .issueReg hs⟩
  | qmul => exact ⟨_, rfl, .issueReg hs⟩
  | qneg => exact ⟨_, rfl, .issueReg hs⟩
  | qabs => exact ⟨_, rfl, .issueReg hs⟩
  | qshl => exact ⟨_, rfl, .issueReg hs⟩
  | qshr => exact ⟨_, rfl, .issueReg hs⟩
  | mac => exact ⟨_, rfl, .issueReg hs⟩
  | msu => exact ⟨_, rfl, .issueReg hs⟩
  | mpya => exact ⟨_, rfl, .issueReg hs⟩
  | adda => exact ⟨_, rfl, .issueReg hs⟩
  | clra => exact ⟨_, rfl, .issueReg hs⟩
  | racc => exact ⟨_, rfl, .issueReg hs⟩
  | mfa => exact ⟨_, rfl, .issueReg hs⟩
  | mta => exact ⟨_, rfl, .issueReg hs⟩
  | fadd => exact ⟨_, rfl, .issueReg hs⟩
  | fsub => exact ⟨_, rfl, .issueReg hs⟩
  | fmul => exact ⟨_, rfl, .issueReg hs⟩
  | fma => exact ⟨_, rfl, .issueReg hs⟩
  | fms => exact ⟨_, rfl, .issueReg hs⟩
  | fdiv => exact ⟨_, rfl, .issueReg hs⟩
  | fsqrt => exact ⟨_, rfl, .issueReg hs⟩
  | fmin => exact ⟨_, rfl, .issueReg hs⟩
  | fmax => exact ⟨_, rfl, .issueReg hs⟩
  | fabs => exact ⟨_, rfl, .issueReg hs⟩
  | fneg => exact ⟨_, rfl, .issueReg hs⟩
  | f2q => exact ⟨_, rfl, .issueReg hs⟩
  | q2f => exact ⟨_, rfl, .issueReg hs⟩
  | f2i => exact ⟨_, rfl, .issueReg hs⟩
  | i2f => exact ⟨_, rfl, .issueReg hs⟩
  | cmp => exact ⟨_, rfl, .issueReg hs⟩
  | cmpi => exact ⟨_, rfl, .issueReg hs⟩
  | plog => exact ⟨_, rfl, .issueReg hs⟩
  | mfs => exact ⟨_, rfl, .issue hs fun _ _ ht => Sound.modCe ht⟩
  | mts => exact ⟨_, rfl, .issueReg hs⟩
  | nop => exact ⟨_, rfl, .issue hs fun _ _ ht => ht⟩
  | fence => exact ⟨_, rfl, .issue hs fun _ _ ht => ht⟩
  | brk => exact ⟨_, rfl, .issueBrk hs⟩
  | ldw => exact ⟨_, rfl, .loadInstr hs⟩
  | ldh => exact ⟨_, rfl, .loadInstr hs⟩
  | ldhu => exact ⟨_, rfl, .loadInstr hs⟩
  | ldb => exact ⟨_, rfl, .loadInstr hs⟩
  | ldbu => exact ⟨_, rfl, .loadInstr hs⟩
  | ldq => exact ⟨_, rfl, .loadInstr hs⟩
  | ldwp => exact .ldwp hs
  | stw => exact ⟨_, rfl, .storeInstr hs⟩
  | sth => exact ⟨_, rfl, .storeInstr hs⟩
  | stb => exact ⟨_, rfl, .storeInstr hs⟩
  | stq => exact ⟨_, rfl, .storeInstr hs⟩
  | stwp => exact .stwp hs
  | br => exact ⟨_, rfl, .issue hs fun _ _ ht => Sound.jumpTo ht⟩
  | call => exact ⟨_, rfl, .issue hs fun _ _ ht => Sound.jumpTo (.modCe ht)⟩
  | jr => exact ⟨_, rfl, .issue hs fun _ _ ht => Sound.jumpTo ht⟩
  | jalr => exact ⟨_, rfl, .issue hs fun _ _ ht => Sound.jumpTo (.modCe ht)⟩
  | sincos => exact ⟨_, rfl, .issueReg hs⟩
  | biq => exact ⟨_, rfl, .issue hs fun k _ ht => Sound.biqEff ht k⟩
  | pi => exact ⟨_, rfl, .issue hs fun k _ ht => Sound.piEff ht k⟩
  | capo => exact ⟨_, rfl, .issue hs fun k _ ht => Sound.capoEff ht k⟩
  | lim => exact ⟨_, rfl, .issueReg hs⟩
  | limf => exact ⟨_, rfl, .issueReg hs⟩
  | sat => exact ⟨_, rfl, .issueReg hs⟩
  | satu => exact ⟨_, rfl, .issueReg hs⟩
  | pluck => exact ⟨_, rfl, .issueReg hs⟩
  | plka => exact ⟨_, rfl, .issueReg hs⟩
  | plkc => exact ⟨_, rfl, .issueReg hs⟩
  | send => exact ⟨_, rfl, .issue hs fun k _ ht => Sound.sendEff ht k⟩
  | recv => exact ⟨_, rfl, .issue hs fun k _ ht => Sound.recvEff ht k⟩
  | pega => exact ⟨_, rfl, .pegIssue hs⟩
  | pegr => exact ⟨_, rfl, .pegIssue hs⟩
  | pegrk => exact ⟨_, rfl, .pegIssue hs⟩
  | pegq => exact ⟨_, rfl, .pegIssue hs⟩
  | waitf => exact ⟨_, rfl, .issue hs fun k _ ht => Sound.waitfEff ht k⟩
  | waitfWake => exact .waitfWake hs
  | commit => exact ⟨_, rfl, .issue hs fun k _ ht => Sound.commitEff ht k⟩
  | commitE => exact ⟨_, rfl, .issue hs fun _ _ ht => Sound.endTask (.modCe (.commitOp ht))⟩
  | endt => exact ⟨_, rfl, .issue hs fun _ _ ht => Sound.endTask ht⟩
  | dlq => exact ⟨_, rfl, .issue hs fun _ _ ht => Sound.modCe ht⟩
  | dlck => exact ⟨_, rfl, .issue hs fun _ _ ht => Sound.modCe ht⟩
  | ssmGrant => exact .ssmGrant hs
  | arbWindowStart => exact ⟨_, rfl, .ite (.windowStart (.passTo hs)) hs⟩
  | holdLimitCut => exact .holdLimitCut hs
  | ceUrst => exact ⟨_, rfl, .ite (.ceReset hs) hs⟩
  | debugResume => exact .debugResume hs
  | imageBankWrite => exact ⟨_, rfl, .ite (.writeBank hs) hs⟩
  | actGo => exact ⟨_, rfl, .ite (.writeActCtrl hs) hs⟩
  | actValidated => exact ⟨_, rfl, .ite (.ite (.setF (.setF (.setF (.setF hs)))) (.ite (.activate (.setF hs)) (.setF (.setF hs)))) hs⟩
  | pegAcqRead => exact ⟨_, rfl, .ite (.pegRead hs) hs⟩
  | pegRelRead => exact ⟨_, rfl, .ite (.pegRead hs) hs⟩
  | pegRelkRead => exact ⟨_, rfl, .ite (.pegRead hs) hs⟩
  | cbsSortStart => exact .cbsSortStart hs
  | cbsSortDone => exact ⟨_, rfl, .ite (.modDrained (.sortDone hs)) hs⟩
  | modUrst => exact ⟨_, rfl, .ite hs (.ite (.setF hs) (.modReset hs))⟩
  | trainingSetReceived => exact .trainingSetReceived hs
  | trainingTimeout => exact .trainingTimeout hs
  | linkLoss => exact ⟨_, rfl, .ite (.linkLost (.countF hs)) hs⟩
  | retrain => exact ⟨_, rfl, .ite (.retrain hs) hs⟩
  | rateWrite => exact ⟨_, rfl, .ite (.writeRate hs) hs⟩
  | txeqWrite => exact ⟨_, rfl, .ite (.writeTxeq hs) hs⟩
  | eireqSet => exact ⟨_, rfl, .ite (.eireqSet hs) hs⟩
  | eisSent => exact ⟨_, rfl, .ite (.ite (.eireqClear (.modLane (.setLstate hs))) (.ite (.exitIdle (.modLane (.setLstate hs))) (.modLane (.setLstate hs)))) hs⟩
  | eisReceived => exact ⟨_, rfl, .ite hs (.modLane (.ite (.enterIdle hs) hs))⟩
  | eireqClear => exact ⟨_, rfl, .ite (.eireqClear hs) hs⟩
  | fxbReceived => exact ⟨_, rfl, .ite (.enterUp hs) hs⟩
  | fastExitTimeout => exact ⟨_, rfl, .ite (.train (.countF hs)) hs⟩
  | patternCtrlWrite => exact ⟨_, rfl, .ite (.writePatctrl hs) hs⟩
  | checkerLock => exact ⟨_, rfl, .ite (.checkBits hs) hs⟩
  | checkerLostLock => exact ⟨_, rfl, .ite (.checkBits hs) hs⟩
  | mirrorGroupUp => exact ⟨_, rfl, .ite (.forIdx (.setF (.setF (.mlAll (.ite (.queueMir hs) hs)))) fun _ _ ht => .ite (.setF (.draw ht)) ht) hs⟩
  | mirrorLinkLoss => exact ⟨_, rfl, .ite (.mirLost hs) hs⟩
  | timebaseLaunch => exact ⟨_, rfl, .ite (.ite (.modLane (.burst (.raiseAngle hs))) (.ite (.modLane (.raiseAngle hs)) (.sendTimebase (.raiseAngle hs)))) hs⟩
  | delayReqLaunch => exact ⟨_, rfl, .ite (.ite (.modLane (.raiseAngle hs)) (.sendDelayReq (.raiseAngle hs))) hs⟩
  | commandLaunch => exact .commandLaunch hs
  | retryLaunch => exact ⟨_, rfl, .ite (.ite (.raiseAngle hs) (.ite (.ite (.countF (.raiseAngle hs)) (.modLane (.countF (.sendFrames (.raiseAngle hs))))) (.raiseAngle hs))) hs⟩
  | ackReceived => exact ⟨_, rfl, .receive hs (fun _ _ ht => ht) (fun _ ht => .modLane ht)⟩
  | telemetryReceived => exact ⟨_, rfl, .receive hs (fun _ _ ht => .ite ht (.modLane ht)) (fun _ ht => .ite (.countF ht) (.modLane ht))⟩
  | delayRespReceived => exact ⟨_, rfl, .receive hs (fun _ _ ht => ht) (fun _ ht => .ite (.ite (.delayResult (.modLane ht)) (.delayVoid ht)) ht)⟩
  | delayRespTimeout => exact ⟨_, rfl, .ite (.delayVoid (.raiseAngle hs)) hs⟩
  | bulkReceived => exact ⟨_, rfl, .receive hs (fun _ _ ht => ht) (fun _ ht => (by split <;> [exact .countF ht; exact .orF (.setBrxHdr (.setList ht))]))⟩
  | bulkTxGo => exact ⟨_, rfl, .ite (.bulkGo hs) hs⟩
  | bulkTxSend => exact .bulkTxSend hs
  | bulkRxFree => exact ⟨_, rfl, .ite (.bulkFree hs) hs⟩
  | slotTableWrite => exact ⟨_, rfl, .ite (.writeSlot hs) hs⟩
  | clgSwap => exact ⟨_, rfl, .ite (.writeClgSwap hs) hs⟩
  | clgSwapValidated => exact ⟨_, rfl, .ite (.ite (.setF (.setF (.setF (.setF hs)))) (.ite (.setF (.setF hs)) (.clgSwapNow (.setF hs)))) hs⟩
  | clearRequest => exact ⟨_, rfl, .ite (.clearRequest hs) hs⟩
  | cmpCrossing => exact ⟨_, rfl, .ite (.ite (.inputRun (.passTo (.modTrIn (.inputRun hs)))) (.modTrIn (.inputRun hs))) (.decideIn (.modTrIn (.inputRun hs)))⟩
  | tripPinChange => exact ⟨_, rfl, .decideIn (.modTrIn (.inputRun hs))⟩
  | blankWindowEnd => exact ⟨_, rfl, .ite (.inputRun (.passTo hs)) hs⟩
  | filterQualified => exact ⟨_, rfl, .ite (.inputRun (.passTo (.inputRun hs))) (.inputRun hs)⟩
  | muteStateSet => exact ⟨_, rfl, .ite (.muteCycle hs) hs⟩
  | latchClear => exact ⟨_, rfl, .ite (.clearLatches hs) hs⟩
  | mclr => exact ⟨_, rfl, .ite (.muteClear hs) hs⟩
  | routeWrite => exact ⟨_, rfl, .ite (.writeRoute hs) hs⟩
  | swTripRequest => exact ⟨_, rfl, .ite (.swTrip hs) hs⟩
  | supTripRequest => exact ⟨_, rfl, .ite (.supTrip hs) hs⟩
  | pwmPeriodStart => exact ⟨_, rfl, .ite (.periodStart hs) hs⟩
  | pwmLoadPoint => exact ⟨_, rfl, .ite (.loadPoint (.modPair hs)) hs⟩
  | pwmCompareMatch => exact ⟨_, rfl, .ite (.edgeStep hs) hs⟩
  | deadTimeExpiry => exact ⟨_, rfl, .ite (.settle (.modPair hs)) hs⟩
  | pwmStart => exact ⟨_, rfl, .ite (.pwmStart hs) hs⟩
  | pwmStartDue => exact .pwmStartDue hs
  | pwmTrip => exact ⟨_, rfl, .ite (.pairTrip hs) hs⟩
  | pwmTripClear => exact ⟨_, rfl, .ite (.tripClear hs) hs⟩
  | cbcCut => exact ⟨_, rfl, .ite (.settle (.cbcCut hs)) hs⟩
  | cbcBlankEnd => exact ⟨_, rfl, .ite (.settle (.passTo hs)) hs⟩
  | pwmOverride => exact ⟨_, rfl, .ite (.writeOvr hs) hs⟩
  | pwmDisable => exact ⟨_, rfl, .ite (.pairDisable hs) hs⟩
  | pwmTrigger => exact .pwmTrigger hs
  | debugHalt => exact .debugHalt hs
  | adcSwgo => exact ⟨_, rfl, .ite (.swgo hs) hs⟩
  | adUrst => exact ⟨_, rfl, .ite (.adReset hs) hs⟩
  | tdacWrite => exact ⟨_, rfl, .ite (.writeTdac hs) hs⟩
  | auxPeriodStart => exact ⟨_, rfl, .ite (.auxPeriodStart hs) hs⟩
  | auxHonMatch => exact ⟨_, rfl, .ite (.auxMatch hs) hs⟩
  | auxDeadTimeExpiry => exact .auxDeadTimeExpiry hs
  | bootstrapUv => exact ⟨_, rfl, .ite (.auxDrive (.modAux (.countF (.setF hs)))) hs⟩
  | bootstrapRecover => exact ⟨_, rfl, .ite (.auxDrive (.modAux hs)) hs⟩
  | vdrvUv => exact ⟨_, rfl, .ite (.auxDriveAll (.forIdx (.auxSupply hs) fun _ _ ht => .modAux ht)) hs⟩
  | vdrvRecover => exact ⟨_, rfl, .ite (.auxDriveAll (.auxSupply hs)) hs⟩
  | auxDesatBlankEnd => exact ⟨_, rfl, .modAux hs⟩
  | auxDesat => exact ⟨_, rfl, .ite (.auxDesat hs) hs⟩
  | auxOverride => exact ⟨_, rfl, .ite (.writeAuxOvr hs) hs⟩
  | auxLinkLoss => exact .auxLinkLoss hs
  | auxLinkReturn => exact .auxLinkReturn hs
  | vregPhaseFire => exact .vregPhaseFire hs
  | vregOnTimeEnd => exact ⟨_, rfl, .ite (.phaseLow hs) hs⟩
  | vregCurrentLimit => exact ⟨_, rfl, .ite (.countF (.phaseLow hs)) hs⟩
  | vregRefStep => exact ⟨_, rfl, .ite (.setF hs) hs⟩
  | vidWrite => exact ⟨_, rfl, .ite (.writeVid hs) hs⟩
  | pwrgdAssert => exact ⟨_, rfl, .ite (.setF (.setF (.setWhen hs))) hs⟩
  | pwrgdDeassert => exact ⟨_, rfl, .ite (.warmReset (.setF hs)) hs⟩
  | ovpDetect => exact ⟨_, rfl, .ite (.setF hs) hs⟩
  | softStartTimeout => exact ⟨_, rfl, .ite (.softTimeout hs) hs⟩
  | hiccupEnd => exact ⟨_, rfl, .ite (.softStart hs) hs⟩
  | hiccupCountClear => exact ⟨_, rfl, .ite (.setF hs) hs⟩
  | syncInLost => exact ⟨_, rfl, .ite (.setF (.setF hs)) hs⟩
  | syncInReacquired => exact ⟨_, rfl, .ite (.setF hs) hs⟩
  | serFirmwareStart => exact .serFirmwareStart hs
  | safetyCycle => exact ⟨_, rfl, .ite hs (.safetyCycle hs)⟩
  | serSoutCut => exact ⟨_, rfl, .ite (.soutCut hs) hs⟩
  | tpoPulse => exact .tpoPulse hs
  | tpoPulseEnd => exact .tpoPulseEnd hs
  | tpoRecoveryCheck => exact .tpoRecoveryCheck hs
  | soutDarkPulse => exact .soutDarkPulse hs
  | darkPulseEnd => exact ⟨_, rfl, .ite (.darkEnd hs) hs⟩
  | proofTestEnd => exact ⟨_, rfl, .ite (.clearChecks (.setSer (.setF hs))) hs⟩
  | lockstepFault => exact ⟨_, rfl, .ite (.serForce hs) hs⟩
  | serWatchdogExpiry => exact ⟨_, rfl, .ite (.serForce hs) hs⟩
  | safeSupplyFault => exact ⟨_, rfl, .ite (.serForce hs) hs⟩
  | hostFrameReceived => exact .hostFrameReceived hs
  | prpEntryExpiry => exact .prpEntryExpiry hs
  | txQueueTailWrite => exact ⟨_, rfl, .ite (.writeTail hs) hs⟩
  | timedLaunchDue => exact .timedLaunchDue hs
  | hostFrameSent => exact .hostFrameSent hs
  | tsqPop => exact ⟨_, rfl, .ite (.answer (.popTsq hs)) hs⟩
  | hostLinkStateChange => exact .hostLinkStateChange hs
  | hpModeWrite => exact ⟨_, rfl, .ite (.writeHpMode hs) hs⟩
  | timeSet => exact ⟨_, rfl, .ite (.timeSetAll hs) hs⟩
  | timeStep => exact ⟨_, rfl, .ite (.timeStepAll hs) hs⟩
  | timeNsRead => exact ⟨_, rfl, .ite (.answer (.readTimeNs hs)) hs⟩
  | toutEnable => exact ⟨_, rfl, .ite (.toutEnable hs) hs⟩
  | toutRise => exact .toutRise hs
  | toutFall => exact .toutFall hs
  | identify => exact ⟨_, rfl, .sessionless hs (fun _ ht => .replyN (.freeBody ht))⟩
  | status => exact ⟨_, rfl, .sessionless hs (fun _ ht => .replyN (.freeBody ht))⟩
  | reason => exact ⟨_, rfl, .sessionless hs (fun _ ht => .ite (.replyN ht) (.replyN ht))⟩
  | fwRecoverBegin => exact ⟨_, rfl, .recovering hs (fun _ ht => .recoverBegin ht)⟩
  | fwRecoverData => exact ⟨_, rfl, .recovering hs (fun _ ht => .recoverData ht)⟩
  | fwRecoverCommit => exact ⟨_, rfl, .recovering hs (fun _ ht => .recoverCommit ht)⟩
  | fwRecoverRetry => exact ⟨_, rfl, .recovering hs (fun _ ht => .recoverRetry ht)⟩
  | recoveryIdleTimeout => exact .recoveryIdleTimeout hs
  | openSession => exact ⟨_, rfl, .sessionless hs (fun _ ht => .openReq ht)⟩
  | sessionKeyTimeout => exact .sessionKeyTimeout hs
  | ping => exact ⟨_, rfl, .unsequenced hs⟩
  | query => exact ⟨_, rfl, .unsequenced hs⟩
  | readState => exact ⟨_, rfl, .unsequenced hs⟩
  | logRead => exact ⟨_, rfl, .unsequenced hs⟩
  | attest => exact ⟨_, rfl, .unsequenced hs⟩
  | imagePut => exact ⟨_, rfl, .unsequenced hs⟩
  | closeSession => exact ⟨_, rfl, .request hs⟩
  | lockTake => exact ⟨_, rfl, .request hs⟩
  | lockRelease => exact ⟨_, rfl, .request hs⟩
  | convCmd => exact ⟨_, rfl, .request hs⟩
  | muteReq => exact ⟨_, rfl, .request hs⟩
  | paramWrite => exact ⟨_, rfl, .request hs⟩
  | imageStage => exact ⟨_, rfl, .request hs⟩
  | imageActivate => exact ⟨_, rfl, .request hs⟩
  | serParam => exact ⟨_, rfl, .request hs⟩
  | serConfirm => exact ⟨_, rfl, .request hs⟩
  | serRestart => exact ⟨_, rfl, .request hs⟩
  | serTest => exact ⟨_, rfl, .request hs⟩
  | fwStage => exact ⟨_, rfl, .request hs⟩
  | fwActivate => exact ⟨_, rfl, .request hs⟩
  | journalCommitDone => exact .journalCommitDone hs
  | mirrorCommitTimeout => exact .mirrorCommitTimeout hs
  | entryExecute => exact ⟨_, rfl, .ite (.replayCheck (.entryExecute (.noReplies hs))) hs⟩
  | convCmdDelivery => exact ⟨_, rfl, .ite (.replayCheck (.convDelivery hs)) hs⟩
  | consloWrite => exact ⟨_, rfl, .ite (.consNote (.freshWord (.setWord hs))) hs⟩
  | consumedMarkDurable => exact .consumedMarkDurable hs
  | journalReplay => exact ⟨_, rfl, .ite (.replay (.noReplies hs)) hs⟩
  | journalCompaction => exact ⟨_, rfl, .ite (.jnlSync (.modJnl hs)) hs⟩
  | leaseExpire => exact .leaseExpire hs
  | sessionIdleExpiry => exact .sessionIdleExpiry hs
  | heartbeatSend => exact .heartbeatSend hs
  | heartbeatReceived => exact ⟨_, rfl, .ite hs (.ite (.countF (.noteHbEpoch (.mirFrame hs))) (.takeHeartbeat (.mirFrame hs)))⟩
  | winFrameReceived => exact ⟨_, rfl, .ite (.putList (.mirFrame hs)) hs⟩
  | jnlFrameReceived => exact ⟨_, rfl, .ite (.jnlFrame (.mirFrame hs)) hs⟩
  | jackReceived => exact ⟨_, rfl, .ite (.modJnl (.mirFrame hs)) hs⟩
  | markReceived => exact ⟨_, rfl, .ite (.jnlSync (.modJnl (.takeMark (.mirFrame hs)))) hs⟩
  | ctlFrameReceived => exact .ctlFrameReceived hs
  | twinTimebaseJoin => exact ⟨_, rfl, .twinJoin hs⟩
  | pwmasterAlignLoad => exact .pwmasterAlignLoad hs
  | takeover => exact ⟨_, rfl, .ite (.takeoverCheck hs) hs⟩
  | yieldRole => exact ⟨_, rfl, .ite (.yieldCheck hs) hs⟩
  | handoverRequest => exact ⟨_, rfl, .ite (.requestHandover hs) hs⟩
  | plannedHandover => exact ⟨_, rfl, .ite (.handoverStep hs) hs⟩
  | claim => exact ⟨_, rfl, .ite (.claimRole hs) hs⟩
  | journalCopy => exact ⟨_, rfl, .ite (.modTwin (.foldl hs fun _ _ ht => .queueMir ht)) hs⟩
  | porPin => exact .porPin hs
  | porSupply => exact ⟨_, rfl, .ite hs (.modPmc (.powerOnReset hs))⟩
  | bootRomStart => exact ⟨_, rfl, .ite (.romDecide (.romTables (.modPmc (.setRole (.setF hs))))) hs⟩
  | firmwareStart => exact ⟨_, rfl, .ite (.firmwareStart hs) hs⟩
  | stageS3Entry => exact ⟨_, rfl, .ite (.setF hs) hs⟩
  | arm => exact ⟨_, rfl, .ite (.armDevice (.setBit hs)) hs⟩
  | disarm => exact ⟨_, rfl, .ite (.disarmDevice hs) hs⟩
  | warmResetRequest => exact ⟨_, rfl, .ite (.warmRequest hs) hs⟩
  | supReset => exact ⟨_, rfl, .ite (.supReset hs) hs⟩
  | supWatchdogExpiry => exact ⟨_, rfl, .ite (.supResetOne hs) hs⟩
  | debugReset => exact ⟨_, rfl, .ite (.warmReset hs) hs⟩
  | buttonPress => exact ⟨_, rfl, .ite hs (.modPmc (.setF hs))⟩
  | buttonRelease => exact ⟨_, rfl, .ite (.buttonRelease hs) hs⟩
  | buttonStuck => exact .buttonStuck hs
  | buttonRearm => exact ⟨_, rfl, .ite hs (.setF (.passTo hs))⟩
  | startOk => exact ⟨_, rfl, .ite (.modSec (.modPmc (.passTo hs))) hs⟩
  | refLoss => exact .refLoss hs
  | pllLockLoss => exact .pllLockLoss hs
  | rc16Loss => exact .rc16Loss hs
  | quadFeedGate => exact ⟨_, rfl, .ite (.gateQuads (.passTo hs)) hs⟩
  | pllLock => exact .pllLock hs
  | pllRelock => exact ⟨_, rfl, .relock hs⟩
  | bandWrite => exact ⟨_, rfl, .ite (.writeBand hs) hs⟩
  | powerDomainRequest => exact ⟨_, rfl, .ite (.writePdreq hs) hs⟩
  | powerDownDone => exact ⟨_, rfl, .ite (.powerStep hs) hs⟩
  | powerUpDone => exact ⟨_, rfl, .ite (.orF (.domainReset hs)) hs⟩
  | thermalSample => exact ⟨_, rfl, .ite (.thermSample hs) hs⟩
  | throt4Entry => exact ⟨_, rfl, .ite (.setF hs) hs⟩
  | thermalShutdown => exact ⟨_, rfl, .ite (.thermShutdown hs) hs⟩
  | thermMaskWrite => exact ⟨_, rfl, .ite (.writeThermMask hs) hs⟩
  | secVerifyDone => exact .secVerifyDone hs
  | identityKeyReady => exact ⟨_, rfl, .ite (.modSec hs) hs⟩
  | engFloorRaise => exact .engFloorRaise hs
  | debugToken => exact ⟨_, rfl, .ite hs (.ite (.modSec hs) (.judgeToken hs))⟩
  | dbgChalRead => exact ⟨_, rfl, .ite hs (.ite (.answer (.drawChallenge hs)) (.busError hs))⟩
  | tamperPin => exact ⟨_, rfl, .ite (.setF hs) (.ite (.tamper (.setF (.setF hs))) (.setF hs))⟩
  | supplyGlitch => exact ⟨_, rfl, .ite (.tamper (.setF hs)) hs⟩
  | powerOnResetRelease => exact ⟨_, rfl, .porRelease hs⟩
  | muteBurstComplete => exact .muteBurstComplete hs
  | tbSetsSent => exact ⟨_, rfl, .ite (.tbCheck (.modLane hs)) hs⟩
  | mirrorTrainingBlockReceived => exact .mirrorTrainingBlockReceived hs
  | referenceReturn => exact .referenceReturn hs
  | reservedOpcode => exact .reservedOpcode hs
  | fetchEccError => exact .fetchEccError hs
  | dmaDescriptorComplete => exact .dmaDescriptorComplete hs
  | badformatRequest => exact ⟨_, rfl, .ite hs (.sessionless hs (fun _ ht => .badDatagram ht))⟩

end
end Sys2Proof.Machine
end

section
/-! The obligations about every step: what one command keeps (O12, O25, O28), what a step does (O24), and the reset state (O26, O27). -/
namespace Sys2Proof.Machine

-- The proofs one after another: all at once they would need more threads, and their stacks, than the check's memory holds.
set_option Elab.async false

/-- A step is sound, against the state without the command that it takes off the queue. -/
theorem step_sound {s t : State} (h : step s = .next t) : Sound { s with pending := s.pending.tail } t := by
  unfold step at h
  split at h
  · rename_i hp
    obtain rfl := Host.Outcome.next.inj h
    have hs : Sound { s with pending := s.pending.tail } s :=
      { Sound.refl { s with pending := s.pending.tail } with pending := by rw [hp]; rfl }
    exact hs.cycle
  · rename_i c rest hp
    obtain ⟨u, hu, hsound⟩ := answers_sound (Sound.refl { s with pending := rest }) c
    obtain rfl := Host.Outcome.next.inj (hu.symm.trans h)
    rwa [hp, List.tail_cons]

/-- Settles O12: no operation of the device turns on a switch while the other one of its pair is on. -/
theorem noShootThrough : Obligations.NoShootThrough := fun _ _ hs hstep => (step_sound hstep).keepsApart hs

/-- Settles O28: each operation of the device keeps the canonical form and the widths. -/
theorem stepKeepsWellFormed : Obligations.StepKeepsWellFormed := fun _ _ hs hstep => (step_sound hstep).keepsWf hs

/-- Settles O25, by the cases of the command. -/
theorem everyCommandAnswers : Obligations.EveryCommandAnswers := fun c s => by
  obtain ⟨t, ht, hsound⟩ := answers_sound (Sound.refl s) c
  exact ⟨t, ht, hsound.pending, hsound.variant⟩

/-- Settles O24, by the definition of a step. -/
theorem stepRunsFrontCommand : Obligations.StepRunsFrontCommand := fun c r s =>
  ⟨fun h => by rw [step, h], fun h => by rw [step, h]⟩

/-- Settles O27: both stores are empty. -/
theorem resetIsWellFormed : Obligations.ResetIsWellFormed := by
  refine ⟨⟨List.Pairwise.nil, ?_⟩, ?_, List.Pairwise.nil, ?_⟩ <;> exact fun e he => absurd he List.not_mem_nil

/-- Refutes O26: after a power-on reset the first byte of the identity certificate in the MRAM reads 0x41, not 0. -/
theorem not_resetState : ¬ Obligations.ResetState := by
  unfold Obligations.ResetState
  intro h
  obtain ⟨_, _, hbyte, _⟩ := h
  have hcert : State.reset.byte certBase = 0x41#8 := by decide
  have hslot : inSlotTable certBase = false := by decide
  have hzero := hbyte certBase
  rw [hcert, hslot] at hzero
  exact absurd hzero (by decide)

end Sys2Proof.Machine
end

section
/-! The integer and the FP32 instructions (R85, R98, R99, R101). -/
namespace Sys2Proof.Machine

-- The proofs one after another: all at once they would need more threads, and their stacks, than the check's memory holds.
set_option Elab.async false

/-! The integer ALU of the model is that of the claims. -/

theorem Word.add_toNat (a b : Word) : a + b = BitVec.ofNat 32 (a.toNat + b.toNat) := by simp [BitVec.ofNat_add]

theorem Word.sub_toInt (a b : Word) : a - b = BitVec.ofInt 32 ((a.toNat : Int) - b.toNat) := by
  apply BitVec.eq_of_toInt_eq
  rw [BitVec.toInt_sub, BitVec.toInt_ofInt, BitVec.toInt_eq_toNat_bmod, BitVec.toInt_eq_toNat_bmod]
  simp

theorem Word.mul_toNat (a b : Word) : a * b = BitVec.ofNat 32 (a.toNat * b.toNat) := by simp [BitVec.ofNat_mul]

theorem Word.min_toInt (a b : Word) : (if a.toInt ≤ b.toInt then a else b) = BitVec.ofInt 32 (min a.toInt b.toInt) := by
  split
  · rw [min_eq_left ‹_›, BitVec.ofInt_toInt]
  · rw [min_eq_right (by omega), BitVec.ofInt_toInt]

theorem Word.max_toInt (a b : Word) : (if a.toInt ≤ b.toInt then b else a) = BitVec.ofInt 32 (max a.toInt b.toInt) := by
  split
  · rw [max_eq_right ‹_›, BitVec.ofInt_toInt]
  · rw [max_eq_left (by omega), BitVec.ofInt_toInt]

theorem Word.min_toNat (a b : Word) : (if a.toNat ≤ b.toNat then a else b) = BitVec.ofNat 32 (min a.toNat b.toNat) := by
  split
  · rw [min_eq_left ‹_›, BitVec.ofNat_toNat, BitVec.setWidth_eq]
  · rw [min_eq_right (by omega), BitVec.ofNat_toNat, BitVec.setWidth_eq]

theorem Word.max_toNat (a b : Word) : (if a.toNat ≤ b.toNat then b else a) = BitVec.ofNat 32 (max a.toNat b.toNat) := by
  split
  · rw [max_eq_right ‹_›, BitVec.ofNat_toNat, BitVec.setWidth_eq]
  · rw [max_eq_left (by omega), BitVec.ofNat_toNat, BitVec.setWidth_eq]

/-- A rotation by two shifts; a rotation by 0 shifts twice by 0. -/
theorem Word.rotateRight_shifts (a : Word) {k : Nat} (h : k < 32) : a.rotateRight k = a >>> k ||| a <<< ((32 - k) % 32) := by
  rw [BitVec.rotateRight_eq_rotateRightAux_of_lt h, BitVec.rotateRightAux]
  rcases Nat.eq_zero_or_pos k with rfl | hk
  · simp
  · rw [Nat.mod_eq_of_lt (by omega)]

/-- The claim of R98 about the ALU. -/
theorem integerAluResults : Claims.IntegerAluResults := by
  intro n pr rd ra rb s a b
  refine ⟨.result rfl fun _ => congrArg noFlags (Word.add_toNat a b), .result rfl fun _ => congrArg noFlags (Word.sub_toInt a b),
    .result rfl fun _ => rfl, .result rfl fun _ => rfl, .result rfl fun _ => rfl, .result rfl fun _ => rfl,
    .result rfl fun _ => rfl, .result rfl fun _ => rfl, .result rfl fun _ => rfl,
    .result rfl fun _ => congrArg noFlags (Word.rotateRight_shifts a (Nat.mod_lt _ (by decide))),
    .result rfl fun _ => congrArg noFlags (Word.min_toInt a b), .result rfl fun _ => congrArg noFlags (Word.max_toInt a b),
    .result rfl fun _ => congrArg noFlags (Word.min_toNat a b), .result rfl fun _ => congrArg noFlags (Word.max_toNat a b),
    .result rfl fun _ => congrArg noFlags (Word.mul_toNat a b), .result rfl fun _ => ?_, .result rfl fun _ => rfl⟩
  exact congrArg (fun v => noFlags (BitVec.ofInt 32 v)) (Int.fdiv_eq_ediv_of_nonneg _ (by decide))

theorem aluClz_eq {a : Word} {k : Nat} (hk : k ≤ 32) (hlt : a.toNat < 2 ^ (32 - k)) (hle : k < 32 → 2 ^ (31 - k) ≤ a.toNat) :
    aluClz a = BitVec.ofNat 32 k := by
  unfold aluClz
  split
  · rename_i h0
    obtain rfl : k = 32 := by
      by_contra hne
      have := hle (by omega)
      rw [h0, BitVec.toNat_zero] at this
      exact absurd this (by simp)
    rfl
  · rename_i h0
    have hpos : a.toNat ≠ 0 := fun h => h0 (BitVec.eq_of_toNat_eq h)
    have hk32 : k < 32 := by
      by_contra hge
      obtain rfl : k = 32 := by omega
      exact hpos (by simpa using hlt)
    have hlog : Nat.log2 a.toNat = 31 - k :=
      (Nat.log2_eq_iff hpos).2 ⟨hle hk32, by rwa [show 31 - k + 1 = 32 - k by omega]⟩
    rw [hlog, show 31 - (31 - k) = k by omega]

theorem popCount_eq (a : Word) (k : Nat) : popCount a.toNat k = ((List.range k).filter a.getLsbD).length := by
  induction k with
  | zero => rfl
  | succ k ih =>
    have hbit : a.toNat / 2 ^ k % 2 = (if a.getLsbD k then 1 else 0) := by
      rw [BitVec.getLsbD, Nat.testBit_eq_decide_div_mod_eq]
      split <;> simp_all
    rw [popCount, ih, hbit, List.range_succ, List.filter_append, List.length_append, List.filter_singleton]
    cases a.getLsbD k
    · simp
    · simp [Nat.add_comm]

/-- The claim of R98 about CLZ and POPC. -/
theorem bitCountResults : Claims.BitCountResults := by
  intro n pr rd ra s a
  refine ⟨fun k hk hlt hle => .result rfl fun _ => congrArg noFlags (aluClz_eq hk hlt hle), .result rfl fun _ => ?_⟩
  exact congrArg (fun v => noFlags (BitVec.ofNat 32 v)) (popCount_eq a 32)

/-- The claim of R98 about the divider. -/
theorem dividerResults : Claims.DividerResults := by
  intro n pr rd ra rb s a b zero corner adz
  have hne (h : corner) : b ≠ 0#32 := fun h0 => absurd (h.2.symm.trans h0) (by decide)
  refine ⟨fun h => .result rfl fun _ => ?_, fun h => .result rfl fun _ => ?_, fun h h' => .result rfl fun _ => ?_,
    fun h => .result rfl fun _ => if_pos h, fun h => .result rfl fun _ => if_neg h, fun h => .result rfl fun _ => if_pos h,
    fun h => .result rfl fun _ => ?_, fun h h' => .result rfl fun _ => ?_,
    fun h => .result rfl fun _ => if_pos h, fun h => .result rfl fun _ => if_neg h⟩
  · exact if_pos h
  · exact (if_neg (hne h)).trans (if_pos h)
  · exact (if_neg h).trans (if_neg h')
  · exact (if_neg (hne h)).trans (if_pos h)
  · exact (if_neg h).trans (if_neg h')

theorem Word.append_low (h : BitVec 16) (d : Word) : h ++ d.extractLsb' 0 16 = BitVec.ofNat 32 (h.toNat * 65536 + d.toNat % 65536) := by
  apply BitVec.eq_of_toNat_eq
  have := h.isLt
  rw [BitVec.toNat_append, BitVec.toNat_ofNat, BitVec.extractLsb'_toNat, Nat.shiftRight_zero, Nat.shiftLeft_eq, Nat.mul_comm,
    ← Nat.two_pow_add_eq_or_of_lt (Nat.mod_lt _ (by decide))]
  omega

theorem Word.zeroExtend_toNat {k : Nat} (v : BitVec k) : v.zeroExtend 32 = BitVec.ofNat 32 v.toNat := by simp

/-- The claim of R99. -/
theorem immediateResults : Claims.ImmediateResults := by
  intro n pr rd ra cnt imm imm16 s a d
  have haddi : a + imm.signExtend 32 = BitVec.ofInt 32 (a.toInt + imm.toInt) := by
    rw [BitVec.ofInt_add, BitVec.ofInt_toInt, BitVec.signExtend]
  have hzero : imm.zeroExtend 32 = BitVec.ofNat 32 imm.toNat := Word.zeroExtend_toNat imm
  refine ⟨.result rfl fun _ => congrArg noFlags (Word.zeroExtend_toNat imm16), .result rfl fun _ => congrArg noFlags (Word.append_low imm16 d),
    .result rfl fun _ => congrArg noFlags haddi, .result rfl fun _ => congrArg (fun v => noFlags (a &&& v)) hzero,
    .result rfl fun _ => congrArg (fun v => noFlags (a ||| v)) hzero, .result rfl fun _ => congrArg (fun v => noFlags (a ^^^ v)) hzero,
    .result rfl fun _ => rfl, .result rfl fun _ => rfl, .result rfl fun _ => rfl, .result rfl fun _ => rfl⟩

/-- Settles O31: each operation of the model's ALU is the claimed one. -/
theorem integerInstructions : Obligations.IntegerInstructions := ⟨integerAluResults, bitCountResults, dividerResults, immediateResults⟩

/-! FP32: what makes a result a NaN (R85). -/

def Fp.isInf : Fp → Bool
  | .inf _ => true
  | _ => false

def Fp.isZero : Fp → Bool
  | .zero _ => true
  | _ => false

/-- An infinity, and a value read as zero, by the bits of binary32. -/
theorem Fp.ofWord_extreme (w : Word) : (Fp.ofWord w).isInf = isInf32 w ∧ (Fp.ofWord w).isZero = isZero32 w := by
  have hexp : bitsOf w.toNat 30 23 = w.toNat / 2 ^ 23 % 256 := rfl
  have hman : bitsOf w.toNat 22 0 = w.toNat % 2 ^ 23 := by simp [bitsOf]
  simp only [Fp.ofWord, isInf32, isZero32, hexp, hman]
  generalize w.toNat / 2 ^ 23 % 256 = exp
  generalize w.toNat % 2 ^ 23 = mant
  by_cases he : exp = 255
  · by_cases hm : mant = 0
    · simp [he, hm, Fp.isInf, Fp.isZero]
    · by_cases hq : 4194304 ≤ mant <;> simp [he, hm, hq, Fp.isInf, Fp.isZero]
  · by_cases hz : exp = 0 <;> simp [he, hz, Fp.isInf, Fp.isZero]

@[simp] theorem Fp.isNan_neg (x : Fp) : x.neg.isNan = x.isNan := by cases x <;> rfl
@[simp] theorem Fp.isSnan_neg (x : Fp) : x.neg.isSnan = x.isSnan := by cases x <;> rfl
@[simp] theorem Fp.isInf_neg (x : Fp) : x.neg.isInf = x.isInf := by cases x <;> rfl
@[simp] theorem Fp.isZero_neg (x : Fp) : x.neg.isZero = x.isZero := by cases x <;> rfl

/-- A product that is invalid: zero times infinity. -/
def Fp.invalidMul (x y : Fp) : Bool := (x.isZero && y.isInf) || (x.isInf && y.isZero)

section
variable {x y : Fp}

theorem Fp.add_nan (h : (x.isNan || y.isNan) = true) : Fp.add x y = Fp.nanResult (x.isSnan || y.isSnan) := by
  cases x <;> cases y <;> simp_all [Fp.add, Fp.isNan, Fp.isSnan]

theorem Fp.mul_nan (h : (x.isNan || y.isNan) = true) : Fp.mul x y = Fp.nanResult (x.isSnan || y.isSnan) := by
  cases x <;> cases y <;> simp_all [Fp.mul, Fp.isNan, Fp.isSnan]

theorem Fp.div_nan (h : (x.isNan || y.isNan) = true) : Fp.div x y = Fp.nanResult (x.isSnan || y.isSnan) := by
  cases x <;> cases y <;> simp_all [Fp.div, Fp.isNan, Fp.isSnan]

theorem Fp.mul_invalid (h : x.invalidMul y = true) : Fp.mul x y = Fp.nanResult true := by
  cases x <;> cases y <;> simp_all [Fp.invalidMul, Fp.mul, Fp.isInf, Fp.isZero]

theorem Fp.sqrt_nan (h : x.isNan = true) : Fp.sqrt x = Fp.nanResult x.isSnan := by
  cases x <;> simp_all [Fp.sqrt, Fp.isNan, Fp.isSnan]

theorem Fp.fma_nan {c : Fp} (h : (x.isNan || y.isNan || c.isNan || x.invalidMul y) = true) :
    Fp.fma c x y = Fp.nanResult (x.isSnan || y.isSnan || c.isSnan || x.invalidMul y) := by
  cases x <;> cases y <;> cases c <;> simp_all [Fp.invalidMul, Fp.fma, Fp.isNan, Fp.isSnan, Fp.isInf, Fp.isZero]

end

theorem Word.clear_sign (a : Word) : a &&& 0x7FFFFFFF#32 = BitVec.ofNat 32 (a.toNat % 2 ^ 31) := by
  apply BitVec.eq_of_toNat_eq
  rw [BitVec.toNat_and, BitVec.toNat_ofNat, BitVec.toNat_ofNat, show 0x7FFFFFFF % 2 ^ 32 = 2 ^ 31 - 1 from rfl, Nat.and_two_pow_sub_one_eq_mod]
  omega

/-- The claim of R101. -/
theorem fp32Results : Claims.Fp32Results := by
  intro n pr rd ra rb s d a b
  exact ⟨.result rfl fun _ => rfl, .result rfl fun _ => rfl, .result rfl fun _ => rfl, .result rfl fun _ => rfl,
    .result rfl fun _ => rfl, .result rfl fun _ => rfl, .result rfl fun _ => rfl, .result rfl fun _ => rfl,
    .result rfl fun _ => rfl, .result rfl fun _ => congrArg noFlags (Word.clear_sign a), .result rfl fun _ => rfl,
    .result rfl fun _ => rfl, .result rfl fun _ => rfl, .result rfl fun _ => rfl, .result rfl fun _ => rfl⟩

/-- The claim of R85. -/
theorem fp32NanResults : Claims.Fp32NanResults := by
  intro n pr rd ra rb s d a b two invalid three
  obtain ⟨hnanA, hsnanA⟩ := Fp.ofWord_nan a
  obtain ⟨hnanB, hsnanB⟩ := Fp.ofWord_nan b
  obtain ⟨hnanD, hsnanD⟩ := Fp.ofWord_nan d
  obtain ⟨hinfA, hzeroA⟩ := Fp.ofWord_extreme a
  obtain ⟨hinfB, hzeroB⟩ := Fp.ofWord_extreme b
  have hinvalid : (Fp.ofWord a).invalidMul (Fp.ofWord b) = invalid := by rw [Fp.invalidMul, hinfA, hzeroA, hinfB, hzeroB]
  have hinvalid' : (Fp.ofWord a).neg.invalidMul (Fp.ofWord b) = invalid := by
    rw [Fp.invalidMul, Fp.isInf_neg, Fp.isZero_neg, hinfA, hzeroA, hinfB, hzeroB]
  have htwo : two = Fp.nanResult ((Fp.ofWord a).isSnan || (Fp.ofWord b).isSnan) := by rw [hsnanA, hsnanB]; rfl
  have hthree : three = Fp.nanResult ((Fp.ofWord a).isSnan || (Fp.ofWord b).isSnan || (Fp.ofWord d).isSnan || invalid) := by
    rw [hsnanA, hsnanB, hsnanD]; rfl
  refine ⟨fun h => ?_, fun h => ?_, fun h => .result rfl fun _ => ?_, fun h => .result rfl fun _ => Fp.mul_invalid (hinvalid.trans h)⟩
  · rw [← hnanA, ← hnanB] at h
    rw [htwo]
    refine ⟨.result rfl fun _ => Fp.add_nan h, .result rfl fun _ => ?_, .result rfl fun _ => Fp.mul_nan h, .result rfl fun _ => Fp.div_nan h⟩
    rw [← Fp.isSnan_neg (Fp.ofWord b)]
    exact Fp.add_nan (by rwa [Fp.isNan_neg])
  · rw [← hnanA, ← hnanB, ← hnanD] at h
    rw [hthree]
    refine ⟨.result rfl fun _ => ?_, .result rfl fun _ => ?_⟩
    · rw [← hinvalid] at h ⊢
      exact Fp.fma_nan h
    · rw [← hinvalid', ← Fp.isNan_neg (Fp.ofWord a)] at h
      rw [← hinvalid', ← Fp.isSnan_neg (Fp.ofWord a)]
      exact Fp.fma_nan h
  · rw [← hsnanA]
    exact Fp.sqrt_nan (hnanA.trans h)

/-- Settles O33: the results are the model's operations, and an operand that is a NaN decides each of them by cases on its kind. -/
theorem floatInstructions : Obligations.FloatInstructions := ⟨fp32Results, fp32NanResults⟩

end Sys2Proof.Machine
end

section
/-! The fetch of an engine instruction (R94, R96), and branches, NOP, FENCE and BRK (R104). -/
namespace Sys2Proof.Machine

-- The proofs one after another: all at once they would need more threads, and their stacks, than the check's memory holds.
set_option Elab.async false

/-! A fetch from a bank that does not exist. -/

/-- Engine 0 runs a task, and CE0_STAT.ACTBANK holds 2, a value too wide for its field of one bit (no run of the device leads here). -/
def strayBank : State :=
  { State.reset with gated := 0#4, regs := [(Fld.CE_STAT_RUNNING.key 0, 1), (Fld.CE_STAT_ACTBANK.key 0, 2), (Fld.PMC_STAGE_STAGE.key 0, 3)] }

theorem strayBank_issues : strayBank.canIssue 0 = true ∧ (strayBank.ce[(0 : Fin 24)]).pc.toNat < 0x6000 := by decide

/-- The word that it would fetch lies in no memory with check bits, so that no error waits in it. -/
theorem strayBank_upset : strayBank.upset (strayBank.fetchAddr 0) true = strayBank := if_pos (by decide)

theorem exec_fetchEccError_fetch {s u : State} {n : Fin 24} {bad : Bool} (hu : s.upset (s.fetchAddr n) bad = u) :
    exec (.fetchEccError (.fetch n bad)) s = .next (if u.canIssue n then (u.fetchFault n).getD u else u) := by
  rw [← hu]
  rfl

theorem exec_fetchEccError_strayBank : exec (.fetchEccError (.fetch 0 true)) strayBank = .next strayBank := by
  have hnone : strayBank.fetchFault 0 = none := State.fetchFault_none ⟨strayBank_issues.1, by decide⟩
  rw [exec_fetchEccError_fetch strayBank_upset, if_pos strayBank_issues.1, hnone, Option.getD_none]

/-- Refutes O35: where ACTBANK holds a value wider than its field, an uncorrectable error at the fetched word raises no exception; the claim of R94
asks for well-formed states alone. -/
theorem not_instructionFetch : ¬ Obligations.InstructionFetch := by
  unfold Obligations.InstructionFetch Claims.ReservedOpcodeAndFetchEcc
  rintro ⟨-, h⟩
  obtain ⟨-, hfetch, -⟩ := h 0 0#32 0#40 strayBank
  obtain ⟨t, ht, hrun, -⟩ := hfetch strayBank_issues.1 strayBank_issues.2
  rw [exec_fetchEccError_strayBank] at ht
  obtain rfl := Host.Outcome.next.inj ht
  exact absurd hrun (by decide)

end Sys2Proof.Machine
end

section
/-! Branches, NOP, FENCE and BRK (R104). -/
namespace Sys2Proof.Machine

-- The proofs one after another: all at once they would need more threads, and their stacks, than the check's memory holds.
set_option Elab.async false

section
variable {i : Instr} {n : Fin 24} {pr : BitVec 4} {s : State} {us : Use} {eff : Nat → State → Res}

/-! Branches. -/

/-- A target that a branch can reach: word-aligned and in the bank. -/
abbrev TargetOk (t : Word) : Prop := t.toNat % 4 = 0 ∧ t.toNat < 0x6000

theorem branchTarget_eq (pc : Word) (off : BitVec 22) : branchTarget pc off = BitVec.ofInt 32 (pc.toInt + 4 * off.toInt) := by
  rw [branchTarget, BitVec.signExtend, Int.mul_comm, BitVec.ofInt_add, BitVec.ofInt_mul, BitVec.ofInt_toInt]
  rfl

/-- Engine `n` has settled, written `w` to `rd` and gone to `target`. -/
theorem EngIs.of_jumped {t : State} {e : Eng} {c k : Nat} {tm : Timing} {target w : Word} {rd : BitVec 5}
    (h : t.ce[n] = ((e.settle c).writeG rd w).movedOn target k tm) : EngIs n { e with g := t.ce[n].g, pc := target } t := by
  rw [Eng.writeG_eq] at h
  refine ⟨?_, ?_⟩
  · rw [h]
    rfl
  · rw [h]
    exact (Eng.dueFlags_allFlags _ k).trans (Eng.settle_allFlags e c)

/-- An instruction that jumps, and writes `w` to `rd` where it saves a link. -/
theorem Gives.branches {target w : Word} {rd : BitVec 5} (hexec : exec i s = .next (issue n pr us i eff s)) (hok : TargetOk target)
    (he : ∀ t c, eff t (s.settled n c) = jumpTo target ((s.settled n c).modCe n (fun e => e.writeG rd w))) :
    Gives i n pr s (Branches n target rd w) := by
  intro hp
  refine ⟨_, hexec, ?_⟩
  rw [issue_performs hp]
  dsimp only
  generalize (s.ce[n]).tm.issueAt pr true us = c
  rw [show (s.countFetch n).modCe n (fun e => e.settle c) = s.settled n c from rfl, he, jumpTo, if_pos hok]
  change Branches n target rd w _ (((s.settled n c).modCe n fun e => e.writeG rd w).modCe n
    fun e => e.movedOn target (c + us.resultLat) (e.tm.after c true us 0))
  have hown (f g : Eng → Eng) : (((s.settled n c).modCe n f).modCe n g).ce[n] = g (f (((s.countFetch n).ce[n]).settle c)) := by
    rw [State.modCe_same, State.modCe_same, State.settled_ce, State.countFetch_ce]
  refine ⟨⟨rfl, fun m hm => ?_⟩, EngIs.of_jumped (hown _ _), fun x => ?_⟩
  · rw [State.modCe_ne _ _ _ _ hm, State.modCe_ne _ _ _ _ hm, s.settled_ce_ne n c hm, State.countFetch_ce]
  · rw [hown]
    exact Eng.readG_writeG _ _ _ _

theorem Gives.branchFaults {target : Word} (hexec : exec i s = .next (issue n pr us i eff s)) (hbad : ¬TargetOk target)
    (he : ∀ t c, ∃ u, eff t (s.settled n c) = jumpTo target u) : Gives i n pr s (Takes n 2 (s.ce[n]).pc target) := by
  intro hp
  refine ⟨_, hexec, issue_exc us hp (fun t c => ?_) (by decide)⟩
  obtain ⟨u, hu⟩ := he t c
  exact hu.trans (if_neg hbad)

/-! NOP, FENCE and a halt. -/

/-- An instruction whose effect leaves the engines, moves its engine past itself in some cycle `c`. -/
theorem issue_passed (h : Performs i n pr s) (us : Use) {p : State → State} {block : Nat → State → Nat}
    (he : ∀ t c, eff t (s.settled n c) = .done (p (s.settled n c)) none (block t (s.settled n c))) :
    ∃ c, issue n pr us i eff s = (p (s.settled n c)).modCe n
      (fun e => e.movedOn ((s.ce[n]).pc + 4#32) (c + us.resultLat) (e.tm.after c true us (block c (s.settled n c)))) := by
  refine ⟨(s.ce[n]).tm.issueAt pr true us, ?_⟩
  rw [issue_performs h]
  dsimp only
  rw [show (s.countFetch n).modCe n (fun e => e.settle _) = s.settled n _ from rfl, he]
  rfl

theorem EngIs.of_movedOn {t : State} {e : Eng} {c k : Nat} {tm : Timing} {pc : Word}
    (h : t.ce[n] = (e.settle c).movedOn pc k tm) : EngIs n { e with pc := pc } t := by
  refine ⟨?_, ?_⟩
  · rw [h]
    rfl
  · rw [h]
    exact (Eng.dueFlags_allFlags _ k).trans (Eng.settle_allFlags e c)

theorem passed_ce {p : State → State} (hp : ∀ u, (p u).ce = u.ce) (c : Nat) (f : Eng → Eng) :
    ((p (s.settled n c)).modCe n f).ce[n] = f ((s.ce[n]).settle c) ∧
    ∀ m : Fin 24, m ≠ n → ((p (s.settled n c)).modCe n f).ce[m] = (s.countFetch n).ce[m] := by
  refine ⟨?_, fun m hm => ?_⟩
  · rw [State.modCe_same, hp, State.settled_ce]
  · rw [State.modCe_ne _ _ _ _ hm, hp, s.settled_ce_ne n c hm, State.countFetch_ce]

end

/-- NOP has no effect. -/
theorem Gives.nop (n : Fin 24) (pr : BitVec 4) (s : State) :
    Gives (.nop n pr) n pr s (fun u t => OnlyEngine n u t ∧ EngIs n { s.ce[n] with pc := (s.ce[n]).pc + 4#32 } t) := by
  intro hp
  obtain ⟨c, hc⟩ := issue_passed hp {} (eff := fun _ u => .done u none 0) (p := id) (block := fun _ _ => 0) fun _ _ => rfl
  obtain ⟨hown, hothers⟩ := passed_ce (s := s) (n := n) (p := id) (fun _ => rfl) c _
  exact ⟨_, congrArg Host.Outcome.next hc, ⟨rfl, hothers⟩, .of_movedOn hown⟩

/-- FENCE lets the next instruction issue when every access has completed. -/
theorem Gives.fence (n : Fin 24) (pr : BitVec 4) (s : State) :
    Gives (.fence n pr) n pr s (fun u t => OnlyEngine n u t ∧ EngIs n { s.ce[n] with pc := (s.ce[n]).pc + 4#32 } t ∧
      (s.ce[n]).tm.memDone ≤ (t.ce[n]).tm.next) := by
  intro hp
  obtain ⟨c, hc⟩ := issue_passed hp {} (eff := fun t u => .done u none ((u.ce[n]).tm.memDone - t)) (p := id)
    (block := fun t u => (u.ce[n]).tm.memDone - t) fun _ _ => rfl
  obtain ⟨hown, hothers⟩ := passed_ce (s := s) (n := n) (p := id) (fun _ => rfl) c _
  refine ⟨_, congrArg Host.Outcome.next hc, ⟨rfl, hothers⟩, .of_movedOn hown, ?_⟩
  rw [hown, show ((s.settled n c).ce[n]) = _ from s.settled_ce n c]
  change _ ≤ max _ (c + max _ ((s.ce[n]).tm.memDone - c))
  omega

/-- The claim of R104 about branches and fences. -/
theorem branchesAndFence : Claims.BranchesAndFence := by
  intro n pr off rd ra s e rel reg ok
  have hrel : branchTarget (s.ce[n]).pc off = rel := branchTarget_eq _ off
  have hset (c : Nat) : (s.settled n c).ce[n] = (s.ce[n]).settle c := s.settled_ce n c
  have hlink (c : Nat) (r : BitVec 5) : (s.settled n c).modCe n (fun x => x.writeG r (x.pc + 4#32)) =
      (s.settled n c).modCe n (fun x => x.writeG r (e.pc + 4#32)) := State.modCe_congr (by rw [hset]; rfl)
  have hnone (c : Nat) : s.settled n c = (s.settled n c).modCe n (fun x => x.writeG 0#5 0#32) := (State.modCe_id _ n).symm
  refine ⟨fun h => .branches rfl h fun t c => ?_, fun h => .branches rfl h fun t c => ?_, fun h => .branches rfl h fun t c => ?_,
    fun h => .branches rfl h fun t c => ?_,
    fun h => ⟨.branchFaults rfl h fun t c => ⟨s.settled n c, ?_⟩, .branchFaults rfl h fun t c => ⟨_, congrArg (jumpTo · _) ?_⟩⟩,
    fun h => ⟨.branchFaults rfl h fun t c => ⟨s.settled n c, ?_⟩, .branchFaults rfl h fun t c => ⟨_, congrArg (jumpTo · _) ?_⟩⟩,
    .nop n pr s, .fence n pr s⟩
  · rw [hset, ← hnone]
    exact congrArg (jumpTo · _) hrel
  · rw [hset, hlink]
    exact congrArg (jumpTo · _) hrel
  · rw [hset, ← hnone]
    rfl
  · rw [hset, hlink]
    rfl
  · rw [hset]
    exact congrArg (jumpTo · _) hrel
  · rw [hset]
    exact hrel
  · rw [hset]
    rfl
  · rw [hset]
    rfl

/-! BRK. -/

theorem State.settled_debugLevel (s : State) (n : Fin 24) (c : Nat) : (s.settled n c).debugLevel = s.debugLevel := by
  have hsec : (s.settled n c).sec = s.sec := by rw [show s.settled n c = _ from s.settled_frame n c]
  unfold State.debugLevel State.inS4 State.bit
  simp only [hsec, s.settled_getF n c, ne_eq, reduceCtorEq, not_false_eq_true]

theorem State.settled_brkHalts (s : State) (n : Fin 24) (c : Nat) : (s.settled n c).brkHalts n = s.brkHalts n := by
  have hen : (s.settled n c).haltEn = s.haltEn := by rw [show s.settled n c = _ from s.settled_frame n c]
  rw [State.brkHalts, State.settled_debugLevel, hen, State.brkHalts]

/-- The claim of R104 and R481. -/
theorem breakHaltsOrTraps : Claims.BreakHaltsOrTraps := by
  intro n pr s
  refine ⟨fun h hp => ?_, fun h hp => ⟨_, rfl, issue_exc {} hp (fun t c => ?_) (by decide)⟩⟩
  · obtain ⟨c, hc⟩ := issue_passed hp {} (p := fun u => u.debugHalt n) (block := fun _ _ => 0)
      (eff := fun _ u => if u.brkHalts n then .done (u.debugHalt n) none 0 else .exc xBreak 0#32)
      fun _ c => if_pos ((s.settled_brkHalts n c).trans h)
    obtain ⟨hown, hothers⟩ := passed_ce (s := s) (n := n) (p := fun u => u.debugHalt n) (fun _ => rfl) c _
    refine ⟨_, congrArg Host.Outcome.next hc, ?_, ?_, rfl, hothers, ?_⟩
    · exact beq_iff_eq.2 (State.getF_setF_same (s.settled n c) .CE_STAT_HALTED n 1)
    · exact (RegsBut.refl _ _).setF 1 (List.mem_singleton.2 rfl)
    · rw [State.countFetch_ce]
      exact .of_movedOn hown
  · exact if_neg (Bool.eq_false_iff.1 ((s.settled_brkHalts n c).trans h))

/-- Settles O36: a branch by its target, the others by what an instruction that leaves its engine alone does. -/
theorem controlTransfer : Obligations.ControlTransfer := ⟨branchesAndFence, breakHaltsOrTraps⟩

end Sys2Proof.Machine
end

section
/-! The pegs, taken and released by engines and cores (R131, R155, R161, Table 4-8). -/
namespace Sys2Proof.Machine

-- The proofs one after another: all at once they would need more threads, and their stacks, than the check's memory holds.
set_option Elab.async false

/-! The operations on a peg. -/

section
variable {p : Peg} {ag : Nat}

theorem Peg.acquire_free (h : p.held = false) :
    p.acquire ag = ({ p with held := true, holder := ag, acqCnt := p.acqCnt + 1#16 }, if p.broken then 1#32 else 0#32) := by
  rw [Peg.acquire, h]
  rfl

theorem Peg.acquire_mine (h : p.held = true ∧ p.holder = ag) : p.acquire ag = (p, 3#32) := by
  rw [Peg.acquire, if_pos h.1, if_pos h.2]

theorem Peg.acquire_other (h : p.held = true) (hne : p.holder ≠ ag) : p.acquire ag = (p, 2#32) := by
  rw [Peg.acquire, if_pos h, if_neg hne]

theorem Peg.release_mine (h : p.held = true ∧ p.holder = ag) :
    p.release ag = ({ p with held := false, broken := false, holder := 0x3F }, 0#32) := if_pos h

theorem Peg.release_other (h : ¬(p.held = true ∧ p.holder = ag)) : p.release ag = (p, 4#32) := if_neg h

theorem Peg.releaseBroken_mine (h : p.held = true ∧ p.holder = ag) :
    p.releaseBroken ag = ({ p with held := false, broken := true, holder := 0x3F, brkBy := ag }, 0#32) := if_pos h

theorem Peg.releaseBroken_other (h : ¬(p.held = true ∧ p.holder = ag)) : p.releaseBroken ag = (p, 4#32) := if_neg h

end

/-! Writes of a peg, and the count of a corrected word. -/

@[simp] theorem State.modPeg_same (s : State) (k : Fin 256) (f : Peg → Peg) : (s.modPeg k f).pegs[k] = f s.pegs[k] := by
  simp [State.modPeg]

theorem State.modPeg_ne (s : State) {k m : Fin 256} (f : Peg → Peg) (h : m ≠ k) : (s.modPeg k f).pegs[m] = s.pegs[m] := by
  simp [State.modPeg, Fin.val_ne_of_ne h.symm]

theorem State.ssmLatency_withCe (s : State) (c : Vector Eng 24) (n : Fin 24) :
    (s.withCe c).ssmLatency n = ((s.ssmLatency n).1, s.draw.2.withCe c) := rfl

/-- The effect of a peg instruction on a peg that can be read. -/
theorem pegEff_done {u : State} {n : Fin 24} {rd ra : BitVec 5} {op : Peg → Peg × Word} {k : Fin 256} {q : Peg} {code : Word}
    (hk : ((u.ce[n]).readG ra).toNat = k) (hbad : u.badWord (pegAddr k) = false) (hop : op u.pegs[k] = (q, code)) (t : Nat) :
    pegEff n rd ra op t u = .done (((u.draw.2.countSoftSsm (pegAddr k)).modPeg k (fun _ => q)).modCe n (fun e => e.writeG rd code))
      none (u.ssmLatency n).1 := by
  unfold pegEff
  simp only
  rw [dif_pos (by omega)]
  simp only [hk, hbad, hop, Bool.false_eq_true, if_false]
  rfl

/-! The peg instructions. -/

section
variable {i : Instr} {n : Fin 24} {pr : BitVec 4} {s : State} {rd ra : BitVec 5} {op : Peg → Peg × Word}
  (hexec : exec i s = .next (pegIssue n pr rd ra i op s))
include hexec

/-- An operand above 255. -/
theorem peg_takesAccess (h : 255 < ((s.ce[n]).readG ra).toNat) : Gives i n pr s (Takes n 4 (s.ce[n]).pc ((s.ce[n]).readG ra)) := by
  have hcount : pegCount n ra s = s := if_neg fun hc => by omega
  rw [pegIssue, hcount, ite_self] at hexec
  refine fun hp => ⟨_, hexec, issue_exc _ hp (fun t c => ?_) (by decide)⟩
  unfold pegEff
  rw [show ((s.countFetch n).modCe n fun e => e.settle c).ce[n] = _ from s.settled_ce n c, Eng.settle_readG, dif_neg (by omega)]
  rfl

/-- A peg whose word cannot be read. -/
theorem peg_badSsm {k : Fin 256} (hk : (s.ce[n]).readG ra = BitVec.ofNat 32 k) (hbad : s.badWord (pegAddr k) = true) :
    Gives i n pr s (BadSsm n ((s.ce[n]).readG ra) (pegAddr k)) := by
  have hkn : ((s.ce[n]).readG ra).toNat = k := by
    rw [hk, BitVec.toNat_ofNat]
    exact Nat.mod_eq_of_lt (by omega)
  intro hp
  have hcount : (if s.performs n i pr then pegCount n ra s else s) = s.countBadSsm (pegAddr k) := by
    rw [if_pos ((s.performs_iff n i pr).2 hp), pegCount, hkn, if_pos ⟨k.isLt, hbad⟩]
  rw [pegIssue, hcount] at hexec
  obtain ⟨hfetch, hlegal, hpred⟩ := hp
  have htakes : Takes n 6 (s.ce[n]).pc ((s.ce[n]).readG ra) ((s.countFetch n).countBadSsm (pegAddr k))
      (issue n pr { readsG := [ra], writesG := [(rd, 14)], mem := 14 } i (pegEff n rd ra op) (s.countBadSsm (pegAddr k))) := by
    rw [issue_performs ⟨s.countBadSsm_fetches n _ hfetch, hlegal, hpred⟩]
    have he (t c : Nat) : pegEff n rd ra op t ((s.countBadSsm (pegAddr k)).settled n c) = .exc 6 ((s.ce[n]).readG ra) := by
      unfold pegEff
      have hce : ((s.countBadSsm (pegAddr k)).settled n c).ce[n] = (s.ce[n]).settle c := State.settled_ce _ n c
      have hb : ((s.countBadSsm (pegAddr k)).settled n c).badWord (pegAddr k) = true := by
        rw [State.badWord, show (State.settled _ n c).eccBad = _ from (s.countBadSsm (pegAddr k)).countFetch_eccBad n]
        exact hbad
      dsimp only
      rw [hce, Eng.settle_readG, dif_pos (by omega)]
      simp only [hkn]
      rw [if_pos hb]
      rfl
    dsimp only
    generalize ((s.countBadSsm (pegAddr k)).ce[n]).tm.issueAt pr true _ = t
    rw [show ((s.countBadSsm (pegAddr k)).countFetch n).modCe n (fun e => e.settle t) = (s.countBadSsm (pegAddr k)).settled n t from rfl, he]
    exact (s.countBadSsm_settled n _ t).takes (State.exception_takes _ n 6 _ _ _ (by decide))
  refine ⟨_, hexec, ?_, ?_, ?_⟩
  · rw [htakes.getF_eq (by simp [exceptionFields, taskFields, swapNames])]
    exact (s.countFetch n).countBadSsm_unc _
  · rw [htakes.getF_eq (by simp [exceptionFields, taskFields, swapNames])]
    exact (s.countFetch n).countBadSsm_addr _
  · rw [State.countFetch_ce]
    exact htakes

/-- A peg that can be read takes its new state, and `rd` the code. -/
theorem peg_does {k : Fin 256} (hk : (s.ce[n]).readG ra = BitVec.ofNat 32 k) (hbad : s.badWord (pegAddr k) = false)
    {q : Peg} {code : Word} (hop : op s.pegs[k] = (q, code)) :
    Gives i n pr s (fun s t => PegFrame n k s t ∧ t.pegs[k] = q ∧ GprIs n rd code s t) := by
  have hkn : ((s.ce[n]).readG ra).toNat = k := by
    rw [hk, BitVec.toNat_ofNat]
    exact Nat.mod_eq_of_lt (by omega)
  have hcount : pegCount n ra s = s := if_neg fun hc => by
    rw [hkn, hbad] at hc
    exact Bool.false_ne_true hc.2
  rw [pegIssue, hcount, ite_self] at hexec
  have hpegs : (s.countFetch n).pegs = s.pegs := by rw [State.countFetch_frame]
  have hacc := Gives.accessed (u := ((s.countFetch n).draw.2.countSoftSsm (pegAddr k)).modPeg k (fun _ => q)) (ws := [(rd, code)]) (fl := {})
    (block := ((s.countFetch n).ssmLatency n).1) hexec fun t c => by
      have hb : (s.settled n c).badWord (pegAddr k) = false := by
        rw [State.badWord, show (State.settled _ n c).eccBad = _ from s.countFetch_eccBad n]
        exact hbad
      rw [pegEff_done (by rw [State.settled_ce, Eng.settle_readG, hkn]) hb ((congrArg (fun v => op v[k]) hpegs).trans hop) t,
        s.settled_withCe n c, State.ssmLatency_withCe]
      generalize (s.settled n c).ce = ce
      rw [show ((s.countFetch n).withCe ce).draw.2 = (s.countFetch n).draw.2.withCe ce from rfl, State.countSoftSsm_withCe]
      generalize (s.countFetch n).draw.2.countSoftSsm (pegAddr k) = u
      rfl
  obtain ⟨hframe, hregs⟩ := (s.countFetch n).draw.2.countSoftSsm_regs (a := pegAddr k)
  refine hacc.imp fun t ⟨hstate, hothers, heng, hgprs, hpreds, haccs⟩ => ?_
  have hpegs' : t.pegs = (((s.countFetch n).draw.2.countSoftSsm (pegAddr k)).modPeg k fun _ => q).pegs := by
    rw [hstate]
  refine ⟨⟨?_, ?_, hothers, heng, hpreds, haccs, fun m hm => ?_⟩, ?_, ?_⟩
  · rw [hstate, State.modPeg, hframe]
    rfl
  · refine RegsBut.trans (t := (s.countFetch n).draw.2.countSoftSsm (pegAddr k)) hregs ?_
    rw [hstate]
    exact .refl _ _
  · rw [hpegs', State.modPeg_ne _ _ hm, hframe]
    rfl
  · rw [hpegs', State.modPeg_same]
  · exact fun x => (hgprs x).trans (Eng.readG_writeAll _ _ _)

end

/-- The claim of R131 and R155. -/
theorem pegInstructions : Claims.PegInstructions := by
  intro n pr rd ra k s p mine does forms v
  have hforms {P : Instr → Prop} (ha : P (.pega n pr rd ra)) (hr : P (.pegr n pr rd ra)) (hk : P (.pegrk n pr rd ra))
      (hq : P (.pegq n pr rd ra)) : ∀ i ∈ forms, P i := by
    intro i hi
    simp only [forms, List.mem_cons, List.not_mem_nil, or_false] at hi
    rcases hi with rfl | rfl | rfl | rfl
    exacts [ha, hr, hk, hq]
  refine ⟨fun h => hforms (peg_takesAccess rfl h) (peg_takesAccess rfl h) (peg_takesAccess rfl h) (peg_takesAccess rfl h),
    fun h hb => hforms (peg_badSsm rfl h hb) (peg_badSsm rfl h hb) (peg_badSsm rfl h hb) (peg_badSsm rfl h hb), fun h hb => ?_⟩
  exact ⟨fun hp => peg_does rfl h hb (Peg.acquire_free hp), fun hp => peg_does rfl h hb (Peg.acquire_mine hp),
    fun hp hne => peg_does rfl h hb (Peg.acquire_other hp hne), fun hp => peg_does rfl h hb (Peg.release_mine hp),
    fun hp => peg_does rfl h hb (Peg.release_other hp), fun hp => peg_does rfl h hb (Peg.releaseBroken_mine hp),
    fun hp => peg_does rfl h hb (Peg.releaseBroken_other hp), peg_does rfl h hb rfl⟩

/-! The reads of the cores. -/

theorem State.busError_resp (s : State) (cause : Nat) (ag : Agent) (a : Nat) (wr : Bool) :
    (s.busError cause ag a wr).resp = ⟨0#32, [], true⟩ ∧ (s.busError cause ag a wr).pegs = s.pegs := by
  unfold State.busError
  extract_lets _ s1
  have h1 : s1.resp = ⟨0#32, [], true⟩ ∧ s1.pegs = s.pegs := ⟨rfl, rfl⟩
  clear_value s1
  split
  · exact h1
  · exact h1

section
variable {c : Fin 4} {k : Fin 256} {s : State} {op : Peg → Peg × Word} {off : Nat} {i : Instr}
  (hexec : exec i s = .next (if s.busRuns && s.coresRun then s.pegRead c k off op else s)) (hbus : s.busRuns = true) (hcores : s.coresRun = true)
include hexec hbus hcores

theorem pegRead_does (hbad : s.badWord (pegAddr k) = false) {q : Peg} {code : Word} (hop : op s.pegs[k] = (q, code)) :
    Answers i s (fun t => t.pegs[k] = q ∧ t.resp = ⟨code, [], false⟩ ∧ (∀ m : Fin 256, m ≠ k → t.pegs[m] = s.pegs[m]) ∧
      t = { s with regs := t.regs, pegs := t.pegs, resp := t.resp } ∧ RegsBut s t [(.SSM_ECCCNT_COR, 0)]) := by
  refine ⟨_, hexec, ?_⟩
  rw [hbus, hcores, Bool.and_self, if_pos rfl, State.pegRead, if_neg (by rw [hbad]; exact Bool.false_ne_true)]
  dsimp only
  rw [hop]
  obtain ⟨hframe, hregs⟩ := s.countSoftSsm_regs (a := pegAddr k)
  have hpegs : (s.countSoftSsm (pegAddr k)).pegs = s.pegs := by rw [hframe]
  refine ⟨?_, rfl, fun m hm => ?_, ?_, hregs⟩
  · change ((s.countSoftSsm (pegAddr k)).modPeg k fun _ => q).pegs[k] = q
    rw [State.modPeg_same]
  · rw [← hpegs]
    change ((s.countSoftSsm (pegAddr k)).modPeg k fun _ => q).pegs[m] = _
    rw [State.modPeg_ne _ _ hm]
  · rw [hframe]
    rfl

theorem pegRead_bad (hbad : s.badWord (pegAddr k) = true) :
    Answers i s (fun t => t.resp = ⟨0#32, [], true⟩ ∧ t.pegs = s.pegs) := by
  refine ⟨_, hexec, ?_⟩
  rw [hbus, hcores, Bool.and_self, if_pos rfl, State.pegRead, if_pos hbad]
  exact State.busError_resp (s.countBadSsm (pegAddr k)) _ _ _ _

end

/-- The claim of R161. -/
theorem pegReadsOfTheCores : Claims.PegReadsOfTheCores := by
  intro c k s p me mine does hbus hcores
  refine ⟨fun hb => ⟨fun h => ?_, fun h => ⟨?_, ?_, ?_⟩, fun h => ⟨?_, ?_⟩, fun h hne => ?_⟩, fun hb i hi => ?_⟩
  · exact pegRead_does rfl hbus hcores hb (Peg.acquire_free h)
  · exact pegRead_does rfl hbus hcores hb (Peg.acquire_mine h)
  · exact pegRead_does rfl hbus hcores hb (Peg.release_mine h)
  · exact pegRead_does rfl hbus hcores hb (Peg.releaseBroken_mine h)
  · exact pegRead_does rfl hbus hcores hb (Peg.release_other h)
  · exact pegRead_does rfl hbus hcores hb (Peg.releaseBroken_other h)
  · exact pegRead_does rfl hbus hcores hb (Peg.acquire_other h hne)
  · simp only [List.mem_cons, List.not_mem_nil, or_false] at hi
    rcases hi with rfl | rfl | rfl <;> exact pegRead_bad rfl hbus hcores hb

/-- Settles O40: an engine's instruction and a core's read by the operation on the peg. -/
theorem pegAccesses : Obligations.PegAccesses := ⟨pegInstructions, pegReadsOfTheCores⟩

end Sys2Proof.Machine
end

section
/-! The SSM arbiter (R157 to R159). -/
namespace Sys2Proof.Machine

-- The proofs one after another: all at once they would need more threads, and their stacks, than the check's memory holds.
set_option Elab.async false

/-! The requester with the highest credit. -/

/-- `m` has the highest credit of `l`, and of those with that credit the lowest index. -/
def IsBest (credit : Fin 10 → Nat) (l : List (Fin 10)) (m : Fin 10) : Prop :=
  m ∈ l ∧ ∀ k ∈ l, credit k < credit m ∨ (credit k = credit m ∧ m ≤ k)

theorem IsBest.unique {credit : Fin 10 → Nat} {l : List (Fin 10)} {m m' : Fin 10} (h : IsBest credit l m) (h' : IsBest credit l m') :
    m = m' := by
  have hm := h.2 m' h'.1
  have hm' := h'.2 m h.1
  omega

theorem bestOf_isBest {credit : Fin 10 → Nat} {l : List (Fin 10)} (hl : l.Pairwise (· < ·)) (hne : l ≠ []) :
    ∃ m, bestOf credit l = some m ∧ IsBest credit l m := by
  induction l with
  | nil => exact absurd rfl hne
  | cons j l ih =>
    obtain ⟨hj, hl⟩ := List.pairwise_cons.1 hl
    rcases l.eq_nil_or_concat with rfl | ⟨_, _, hcons⟩
    · exact ⟨j, rfl, List.mem_singleton.2 rfl, fun k hk => .inr (List.mem_singleton.1 hk ▸ ⟨rfl, le_rfl⟩)⟩
    · obtain ⟨m, hm, hmem, hbest⟩ := ih hl (by rw [hcons]; simp)
      rw [bestOf, hm]
      dsimp only
      split
      · rename_i hle
        refine ⟨j, rfl, List.mem_cons_self, fun k hk => ?_⟩
        rcases List.mem_cons.1 hk with rfl | hk
        · exact .inr ⟨rfl, le_rfl⟩
        · have := hbest k hk
          have := hj k hk
          omega
      · rename_i hlt
        refine ⟨m, rfl, List.mem_cons_of_mem _ hmem, fun k hk => ?_⟩
        rcases List.mem_cons.1 hk with rfl | hk
        · exact .inl (by omega)
        · exact hbest k hk

theorem bestOf_eq {credit : Fin 10 → Nat} {l : List (Fin 10)} (hl : l.Pairwise (· < ·)) {j : Fin 10} (h : IsBest credit l j) :
    bestOf credit l = some j := by
  obtain ⟨m, hm, hbest⟩ := bestOf_isBest (credit := credit) hl (List.ne_nil_of_mem h.1)
  rw [hm, hbest.unique h]

theorem State.raisedReq_sorted (s : State) (raised : BitVec 10) (engines : BitVec 24) : (s.raisedReq raised engines).Pairwise (· < ·) :=
  List.Pairwise.filter _ (List.pairwise_lt_finRange 10)

/-! Time that passes. -/

theorem State.passTo_frame (s : State) (t : Nat) : s.passTo t =
    { s with tick := s.tick + (t - s.tick), atu := (s.passTo t).atu, carrier := (s.passTo t).carrier, clock := (s.passTo t).clock } := by
  unfold State.passTo
  split <;> rfl

/-- The weight, the newest grant and so on are those of before. -/
theorem State.windowStart_passTo (s : State) (t : Nat) : (s.passTo t).windowStart =
    { s.passTo t with arb := { s.arb with
        credit := (s.passTo t).windowStart.arb.credit,
        windowAt := s.arb.windowAt + ((s.passTo t).tick - s.arb.windowAt) / 512 * 512 } } := by
  have h := s.passTo_frame t
  have harb : (s.passTo t).arb = s.arb := by rw [h]
  unfold State.windowStart
  rw [harb]

theorem State.windowStart_credit (s : State) (k : Fin 10) : s.windowStart.arb.credit[k] =
    s.weight k - (s.arb.newest.map (fun e => if e.1 = k then e.2 - 2 * s.tick else 0)).getD 0 := by
  unfold State.windowStart
  dsimp only
  cases s.arb.newest with
  | none => simp
  | some e =>
    obtain ⟨j, e⟩ := e
    by_cases hj : j = k
    · subst hj
      simp
    · simp [hj, Fin.val_ne_of_ne hj]

/-- Settles O2: the choice by the order of the credits, the window and the cut by what they write. -/
theorem ssmArbiterGrants : Obligations.SsmArbiterGrants := by
  intro raised engines cycles j s l want held due
  refine ⟨fun hrun hnone hj hbest => ⟨_, rfl, ?_⟩, fun hrun => ⟨_, rfl, ?_⟩, fun h hrun hgrant => ⟨_, rfl, ?_⟩⟩
  · have hb : bestOf (fun j => s.arb.credit[j]) (s.raisedReq raised engines) = some j := bestOf_eq (s.raisedReq_sorted _ _) ⟨hj, hbest⟩
    rw [hrun, hnone]
    dsimp only
    rw [hb]
    refine ⟨rfl, rfl, rfl, ?_, fun k hk => ?_, rfl, rfl⟩
    · simp [held, want, State.holdLimit]
    · simp [Fin.val_ne_of_ne hk.symm]
  · rw [if_pos hrun, State.windowStart_passTo]
    have hdue : due.tick = s.tick + (s.arb.windowAt + 512 - s.tick) := congrArg State.tick (s.passTo_frame _)
    refine ⟨rfl, ?_, ?_, ?_, fun k => ?_⟩
    · exact Nat.add_mul_mod_self_right _ _ _
    · change s.arb.windowAt + (due.tick - s.arb.windowAt) / 512 * 512 ≤ due.tick
      omega
    · change due.tick < s.arb.windowAt + (due.tick - s.arb.windowAt) / 512 * 512 + 512
      omega
    · refine (due.windowStart_credit k).trans ?_
      have hframe := s.passTo_frame (s.arb.windowAt + 512)
      have hw : due.weight k = s.weight k := by
        rw [show due = _ from hframe]
        rfl
      have harb : due.arb = s.arb := by rw [show due = _ from hframe]
      rw [hw, harb]
  · rw [hrun, hgrant]
    have hne : Fld.ARB_VIOLCNT_COUNT ≠ Fld.ARB_VIOL_VIOL := by decide
    have hcount : (s.orF .ARB_VIOL_VIOL 0 j.val).getF .ARB_VIOLCNT_COUNT 0 = s.getF .ARB_VIOLCNT_COUNT 0 := State.getF_setF_ne _ _ _ _ hne
    refine ⟨rfl, fun e he => ?_, ?_⟩
    · simp only [List.mem_cons, List.not_mem_nil, or_false] at he
      rcases he with rfl | rfl
      · exact (State.getF_setF_ne _ _ _ _ hne.symm).trans (State.getF_setF_same _ _ _ _)
      · exact (State.getF_countF_same _ _ _ _).trans (by rw [hcount])
    · exact ((RegsBut.refl s _).setF _ (by simp)).setF _ (by simp)

end Sys2Proof.Machine
end

section
/-! SUPPORT. Commands that act under one condition, and lists of register fields written one after another. -/
namespace Sys2Proof.Machine

-- The proofs one after another: all at once they would need more threads, and their stacks, than the check's memory holds.
set_option Elab.async false

section
variable {c : Instr} {s t u : State} {b : Bool}

/-- A command whose condition holds answers the state it gives. -/
theorem Answers.of_guard {P : State → Prop} (h : exec c s = .next (if b then t else u)) (hb : b = true) (hp : P t) : Answers c s P :=
  ⟨t, by rw [h, if_pos hb], hp⟩

/-- A command whose condition fails changes nothing. -/
theorem Ignores.of_guard (h : exec c s = .next (if b then t else s)) (hb : b = false) : Ignores c s := by
  rw [Ignores, h, if_neg (by simp [hb])]

end

theorem State.bit_setF_same (s : State) (f : Fld) (i v : Nat) : (s.setF f i v).bit f i = (v % 2 ^ f.width == 1) := by
  rw [State.bit, State.getF_setF_same]

theorem State.bit_setF_ne (s : State) {f g : Fld} (i j v : Nat) (h : g ≠ f) : (s.setF f i v).bit g j = s.bit g j := by
  rw [State.bit, State.getF_setF_ne _ _ _ _ h, State.bit]

/-! One element of a vector. -/

section
variable {α : Type} {n : Nat} (v : Vector α n) {i j : Fin n} (x : α)

theorem vector_set_same : (v.set i x)[i] = x := Vector.getElem_set_self _

theorem vector_set_ne (h : j ≠ i) : (v.set i x)[j] = v[j] := Vector.getElem_set_ne _ _ fun e => h (Fin.ext e.symm)

end

/-! The same step for every index in turn. -/

/-- Where the step for an index changes what is seen at that index alone, the whole chain gives at each index what its step gives. -/
theorem forIdx_each {n : Nat} {α : Type} {f : Fin n → State → State} {s : State} (seen : Fin n → State → α) (frame : State → Prop)
    (R : Fin n → α → Prop) (h0 : frame s)
    (hstep : ∀ t i, frame t → seen i t = seen i s → frame (f i t) ∧ R i (seen i (f i t)) ∧ ∀ j, j ≠ i → seen j (f i t) = seen j t) :
    frame (forIdx f s) ∧ ∀ i, R i (seen i (forIdx f s)) := by
  have key : ∀ (l : List (Fin n)) (t : State), l.Nodup → frame t → (∀ i ∈ l, seen i t = seen i s) → (∀ i, i ∉ l → R i (seen i t)) →
      frame (l.foldl (fun t i => f i t) t) ∧ ∀ i, R i (seen i (l.foldl (fun t i => f i t) t)) := by
    intro l
    induction l with
    | nil => exact fun t _ hf _ hR => ⟨hf, fun i => hR i (List.not_mem_nil)⟩
    | cons x xs ih =>
      intro t hnd hf hpre hR
      obtain ⟨hx, hxs⟩ := List.nodup_cons.1 hnd
      obtain ⟨hf', hRx, hothers⟩ := hstep t x hf (hpre x List.mem_cons_self)
      refine ih (f x t) hxs hf' (fun i hi => ?_) fun i hi => ?_
      · rw [hothers i fun e => hx (e ▸ hi)]
        exact hpre i (List.mem_cons_of_mem _ hi)
      · by_cases hix : i = x
        · rw [hix]
          exact hRx
        · rw [hothers i hix]
          exact hR i fun hmem => (List.mem_cons.1 hmem).elim hix hi
  exact key _ s (List.nodup_finRange n) h0 (fun _ _ => rfl) fun i hi => absurd (List.mem_finRange i) hi

/-- A chain of steps that each change nothing. -/
theorem forIdx_id {n : Nat} {f : Fin n → State → State} {s : State} (h : ∀ i, f i s = s) : forIdx f s = s :=
  List.foldlRecOn (motive := fun t => t = s) _ _ rfl fun t ht i _ => by rw [ht, h i]

/-! A list of register fields written one after another, and what a command does that writes such a list. -/

/-- The fields of `l`, each with its index and its value, are written in turn. -/
def State.setAll (s : State) (l : List (Fld × Nat × Nat)) : State := l.foldl (fun t e => t.setF e.1 e.2.1 e.2.2) s

/-- The instances that a list of writes names. -/
def writtenKeys (l : List (Fld × Nat × Nat)) : List Nat := l.map (fun e => e.1.key e.2.1)

/-- The widths of the fields of a list of writes hold its values. -/
def WritesFit (l : List (Fld × Nat × Nat)) : Prop := ∀ e ∈ l, e.2.2 < 2 ^ e.1.width

@[simp] theorem writesFit_nil : WritesFit [] := List.forall_mem_nil _

@[simp] theorem writesFit_cons {e : Fld × Nat × Nat} {l : List (Fld × Nat × Nat)} :
    WritesFit (e :: l) ↔ e.2.2 < 2 ^ e.1.width ∧ WritesFit l := List.forall_mem_cons

@[simp] theorem Fld.width_ne_zero (f : Fld) : f.width ≠ 0 := Nat.succ_ne_zero _

/-- Every field holds a bit. -/
theorem Fld.one_lt (f : Fld) : 1 < 2 ^ f.width := Nat.one_lt_two_pow f.width_ne_zero

@[simp] theorem Fld.b2n_lt (f : Fld) (b : Bool) : b2n b < 2 ^ f.width := by
  cases b
  · exact Nat.two_pow_pos _
  · exact f.one_lt

theorem State.setAll_nil (s : State) : s.setAll [] = s := rfl

theorem State.setAll_cons (s : State) (f : Fld) (i v : Nat) (l : List (Fld × Nat × Nat)) : s.setAll ((f, i, v) :: l) = (s.setF f i v).setAll l := rfl

theorem State.setAll_frame (s : State) (l : List (Fld × Nat × Nat)) : s.setAll l = { s with regs := (s.setAll l).regs } :=
  List.foldlRecOn (motive := fun t : State => t = { s with regs := t.regs }) l _ rfl
    fun _ ht e _ => congrArg (fun u : State => u.setF e.1 e.2.1 e.2.2) ht

theorem State.setAll_regsBut (s : State) (l : List (Fld × Nat × Nat)) : RegsBut s (s.setAll l) (l.map (fun e => (e.1, e.2.1))) :=
  List.foldlRecOn (motive := fun t => RegsBut s t _) l _ (.refl s _) fun _ ht _ he => ht.setF _ (List.mem_map_of_mem he)

/-- An index written once reads the value written, cut to the field's width. -/
theorem State.getF_setAll (s : State) {l : List (Fld × Nat × Nat)} (hk : (writtenKeys l).Nodup) :
    ∀ e ∈ l, (s.setAll l).getF e.1 e.2.1 = e.2.2 % 2 ^ e.1.width := by
  induction l generalizing s with
  | nil => exact List.forall_mem_nil _
  | cons x xs ih =>
    obtain ⟨hx, hxs⟩ := List.nodup_cons.1 hk
    intro e he
    rcases List.mem_cons.1 he with rfl | he
    · refine ((s.setF e.1 e.2.1 e.2.2).setAll_regsBut xs _ _ fun y hy heq => hx ?_).trans (s.getF_setF_same _ _ _)
      obtain ⟨z, hz, rfl⟩ := List.mem_map.1 hy
      exact List.mem_map.2 ⟨z, hz, heq.symm⟩
    · exact ih _ hxs e he

/-- Writes of different fields name different instances. -/
theorem writtenKeys_nodup {l : List (Fld × Nat × Nat)} (h : (l.map Prod.fst).Nodup) : (writtenKeys l).Nodup := by
  rw [List.Nodup, List.pairwise_map] at h
  exact List.pairwise_map.2 (h.imp fun hne => Fld.key_ne _ _ hne)

/-- A command that writes a list of fields, each index once. -/
theorem SetsOn.of_setAll {c : Instr} {s s' : State} {l : List (Fld × Nat × Nat)} (h : exec c s = .next (s'.setAll l))
    (hk : (writtenKeys l).Nodup) (hv : WritesFit l) (hregs : s'.regs = s.regs) : SetsOn c s s' l := by
  refine ⟨_, h, s'.setAll_frame l, fun e he => ?_, fun f i hi => ?_⟩
  · rw [s'.getF_setAll hk e he, Nat.mod_eq_of_lt (hv e he)]
  · rw [s'.setAll_regsBut l f i hi, State.getF, State.getF, hregs]

/-! Time that passes. -/

section
variable (s : State) (t : Nat)

theorem State.passTo_regs : (s.passTo t).regs = s.regs := by rw [s.passTo_frame t]

theorem State.getF_passTo (f : Fld) (i : Nat) : (s.passTo t).getF f i = s.getF f i := by rw [State.getF, s.passTo_regs, State.getF]

/-- The station clock over the PTP cycles that pass. -/
theorem State.passTo_clock : (s.passTo t).clock =
    if s.clockRuns then s.clock.cycle (ptpCycles s.tick (t - s.tick) * s.getF .TIME_INC_INC 0) else s.clock := by
  unfold State.passTo
  dsimp only
  cases s.atuRuns <;> rfl

theorem State.passTo_tick : (s.passTo t).tick = max s.tick t := by
  have h : (s.passTo t).tick = s.tick + (t - s.tick) := congrArg State.tick (s.passTo_frame t)
  omega

end

/-! Words of memory. -/

/-- Bytes that spell a number read as its low bytes. -/
theorem State.bytes_of_spelt (s : State) {a v k : Nat} (h : ∀ j, j < k → s.byte (a + j) = BitVec.ofNat 8 (v / 256 ^ j)) :
    s.bytes a k = v % 256 ^ k := by
  induction k generalizing a v with
  | zero => simp [State.bytes, Nat.mod_one]
  | succ k ih =>
    have h0 := h 0 (by omega)
    have hrest : s.bytes (a + 1) k = v / 256 % 256 ^ k := ih fun j hj => by
      have := h (j + 1) (by omega)
      rw [show a + 1 + j = a + (j + 1) by omega, this, Nat.div_div_eq_div_mul, Nat.pow_succ']
    rw [State.bytes, hrest, show a = a + 0 from rfl, h0, Nat.pow_succ', Nat.mod_mul]
    simp

theorem State.bytes_setBytes (s : State) (a v k : Nat) : (s.setBytes a v k).bytes a k = v % 256 ^ k :=
  State.bytes_of_spelt _ fun _ hj => State.byte_setBytes_in s a v k hj

/-- A word written reads back. -/
theorem State.word_setWord (s : State) (a : Nat) (w : Word) : (s.setWord a w).word a = w := by
  apply BitVec.eq_of_toNat_eq
  have hw := w.isLt
  rw [State.word, State.setWord, State.bytes_setBytes, BitVec.toNat_ofNat]
  omega

theorem State.word_setF (s : State) (f : Fld) (i v a : Nat) : (s.setF f i v).word a = s.word a := rfl

theorem MemBut.setF {s t : State} {a k : Nat} (h : MemBut s t a k) (f : Fld) (i v : Nat) : MemBut s (t.setF f i v) a k := h

/-- A whole word stored with fresh check bits. -/
def State.putWord (s : State) (a : Nat) (w : Word) : State := (s.setWord a w).freshWord a

theorem State.putWord_frame (s : State) (a : Nat) (w : Word) : s.putWord a w =
    { s with mem := (s.putWord a w).mem, eccBad := (s.putWord a w).eccBad, eccSoft := (s.putWord a w).eccSoft } := by
  unfold State.putWord State.setWord
  rw [State.setBytes_frame]
  rfl

theorem State.word_putWord (s : State) (a : Nat) (w : Word) : (s.putWord a w).word a = w := s.word_setWord a w

theorem State.putWord_memBut (s : State) (a : Nat) (w : Word) : MemBut s (s.putWord a w) a 4 := fun x hx => s.byte_setBytes a w.toNat 4 x hx

theorem State.getF_putWord (s : State) (a : Nat) (w : Word) (f : Fld) (i : Nat) : (s.putWord a w).getF f i = s.getF f i := by
  rw [s.putWord_frame]
  rfl

/-! An engine that goes OFF. -/

/-- With engine `n` OFF the other engines decide whether a pending activation takes effect (R151). -/
theorem EngineAlone.actDue_off {n : Fin 24} {l : List (Fld × Nat)} {s t : State} (h : EngineAlone n l s t) (hl : ∀ e ∈ l, e.1 ∉ actNames)
    (hidx : ∀ e ∈ l, e.2 = n.val) (hoff : t.getF .CE_STAT_ENST n = 0) : t.actDue = s.actFree n := by
  have hkeep {f : Fld} (hf : f ∈ actNames) (i : Nat) : t.getF f i = s.getF f i := h.regs.getF_eq (fun e he heq => hl e he (heq ▸ hf)) i
  rw [State.actDue_eq (n := n) (hkeep (by simp [actNames, swapNames]) 0) (hkeep (by simp [actNames, swapNames]) 0) fun m hm => ?_, hoff]
  · simp
  · refine h.regs _ _ fun e he hk => hm (Fin.ext ?_)
    have := (Fld.key_inj hk).2
    have := hidx e he
    omega

/-- What the end of an engine's work gives where it leaves the engine OFF. -/
theorem EngineAlone.offEnds {n : Fin 24} {l : List (Fld × Nat)} {s t : State} (h : EngineAlone n l s t) (hl : ∀ e ∈ l, e.1 ∉ actNames)
    (hidx : ∀ e ∈ l, e.2 = n.val) (hoff : t.getF .CE_STAT_ENST n = 0) (hi : (t.ce[n]).SameImages s.ce[n]) :
    EngineEnds n (s.actFree n) l s t.actOffDone := by
  rw [← h.actDue_off hl hidx hoff]
  exact h.actOffDone hl hi

end Sys2Proof.Machine
end

section
/-! The unit reset of an engine, debug halt and resume (R80, R146, R147, R164, R481). -/
namespace Sys2Proof.Machine

-- The proofs one after another: all at once they would need more threads, and their stacks, than the check's memory holds.
set_option Elab.async false

/-- The fields that a unit reset of engine `n` clears. -/
def unitResetFields (n : Fin 24) : List (Fld × Nat) := [(.CE_CTRL_EN, n), (.CE_STAT_ENST, n), (.CE_STAT_RUNNING, n), (.CE_STAT_HALTED, n)]

section
variable (n : Fin 24) (s : State)

/-- Engine `n` reset, before its pegs are broken and a pending activation takes effect. -/
def State.engineCleared (s : State) (n : Fin 24) : State :=
  ((((s.setF .CE_CTRL_EN n 0).setF .CE_STAT_ENST n enstOff).setF .CE_STAT_RUNNING n 0).setF .CE_STAT_HALTED n 0).modCe n (fun e => e.unitReset)

theorem State.ceReset_eq : s.ceReset n = ((s.breakPegs n).engineCleared n).actOffDone := rfl

theorem State.engineCleared_alone : EngineAlone n (unitResetFields n) s (s.engineCleared n) :=
  (((((EngineAlone.refl n _ s).setF _ (by simp [unitResetFields])).setF _ (by simp [unitResetFields])).setF _ (by simp [unitResetFields])).setF _
    (by simp [unitResetFields])).modCe _

theorem State.engineCleared_ce : (s.engineCleared n).ce[n] = (s.ce[n]).unitReset := State.modCe_same _ _ _

/-- Every field of the reset engine reads 0. -/
theorem State.engineCleared_fields : ∀ e ∈ unitResetFields n, (s.engineCleared n).getF e.1 e.2 = 0 := by
  simp [unitResetFields, State.engineCleared, State.getF_setF_ne, enstOff]

theorem unitResetFields_idle : ∀ e ∈ unitResetFields n, e.1 ∉ actNames := by simp [unitResetFields, actNames, swapNames]

/-- With engine `n` reset the other engines decide whether a pending activation takes effect. -/
theorem State.engineCleared_actDue : (s.engineCleared n).actDue = s.actFree n :=
  (s.engineCleared_alone n).actDue_off (unitResetFields_idle n) (by simp [unitResetFields])
    (s.engineCleared_fields n (.CE_STAT_ENST, n) (by simp [unitResetFields]))

end

theorem Peg.breakFor_eq (p : Peg) (ag : Nat) : p.breakFor ag =
    if p.held = true ∧ p.holder = ag then { p with held := false, broken := true, holder := 0x3F, brkBy := ag } else p := rfl

/-- What a unit reset of engine `n` gives. -/
theorem State.ceReset_ends (n : Fin 24) (s : State) :
    EngineEnds n (s.actFree n) (unitResetFields n) (s.breakPegs n) (s.ceReset n) := by
  rw [State.ceReset_eq]
  refine ((s.breakPegs n).engineCleared_alone n).offEnds (unitResetFields_idle n) (by simp [unitResetFields])
    ((s.breakPegs n).engineCleared_fields n (.CE_STAT_ENST, n) (by simp [unitResetFields])) ?_
  rw [State.engineCleared_ce]
  exact ⟨rfl, rfl, rfl, rfl⟩

theorem EngineEnds.pegs {n : Fin 24} {swap : Bool} {l : List (Fld × Nat)} {s t : State} (h : EngineEnds n swap l s t) : t.pegs = s.pegs := by
  cases swap with
  | false =>
    obtain ⟨hframe, -, -⟩ := h.1 rfl
    rw [hframe]
  | true =>
    obtain ⟨hframe, -, -⟩ := h.2 rfl
    rw [hframe]

theorem State.getF_ceReset (n : Fin 24) (s : State) : ∀ e ∈ unitResetFields n, (s.ceReset n).getF e.1 e.2 = 0 := by
  intro e he
  have hdisj : e.1 ∉ swapNames := by
    revert he e
    simp [unitResetFields, swapNames]
  rw [State.ceReset_eq, State.getF_actOffDone _ hdisj]
  exact (s.breakPegs n).engineCleared_fields n e he

/-! Debug halt and resume. -/

section
variable (n : Fin 24) (s : State)

/-- Engine `n` goes on after a halt. -/
def State.unhalted (s : State) (n : Fin 24) : State :=
  (s.setF .CE_STAT_HALTED n 0).modCe n (fun e => { e with tm := { e.tm with next := max e.tm.next (s.wakeCycle n) } })

theorem State.unhalted_ce : (s.unhalted n).ce[n] = { s.ce[n] with tm := { (s.ce[n]).tm with next := max (s.ce[n]).tm.next (s.wakeCycle n) } } :=
  State.modCe_same _ _ _

theorem State.unhalted_alone : EngineAlone n [(.CE_STAT_HALTED, n)] s (s.unhalted n) :=
  ((EngineAlone.refl n _ s).setF _ (by simp)).modCe _

theorem State.unhalted_elapsed : (s.unhalted n).elapsed n = s.elapsed n := by
  simp only [State.elapsed, State.wakeCycle, State.unhalted_ce]
  rfl

theorem State.resumeEngine_eq : s.resumeEngine n =
    match (s.ce[n]).endDue with
    | 0 => s.unhalted n
    | 1 => (s.unhalted n).endTask n (s.elapsed n)
    | _ => ((s.unhalted n).setF .CE_STAT_OVREND n 1).endTask n (s.elapsed n) := by
  unfold State.resumeEngine State.overrunEnd
  rw [← s.unhalted_elapsed n]
  rfl

/-- The end of a task that fell due in a halt, after the engine's own updates. -/
theorem State.resumed_ends {x : State} (hx : EngineAlone n [(.CE_STAT_HALTED, n), (.CE_STAT_OVREND, n)] s x)
    (hce : x.ce[n] = (s.unhalted n).ce[n]) (hhalted : x.getF .CE_STAT_HALTED n = 0) (cyc : Nat) :
    let t := x.endTask n cyc
    t.bit .CE_STAT_HALTED n = false ∧ t.bit .CE_STAT_OVREND n = x.bit .CE_STAT_OVREND n ∧
    Ended n (cyc - (s.ce[n]).tm.first.getD cyc) (s.ce[n]).committed s t ∧
    EndsTask n (([(.CE_STAT_HALTED, n.val), (.CE_STAT_OVREND, n.val)] : List (Fld × Nat)) ++ taskFields n) s t := by
  refine ⟨?_, ?_, ?_, ?_⟩
  · rw [State.bit, State.getF_endTask _ _ _ (by simp [taskNames, swapNames]), hhalted]
    rfl
  · rw [State.bit, State.getF_endTask _ _ _ (by simp [taskNames, swapNames]), State.bit]
  · have hended := x.endTask_ended n cyc
    rw [hce, State.unhalted_ce] at hended
    refine Ended.told_from hended fun hf => hx.regs.getF_eq (fun e he hef => ?_) n
    subst hef
    revert he hf
    simp only [List.mem_cons, List.not_mem_nil, or_false]
    rintro (rfl | rfl) <;> simp [taskNames]
  · refine hx.endTask (by simp [actNames, swapNames]) ?_ cyc
    rw [hce, State.unhalted_ce]
    exact ⟨rfl, rfl, rfl, rfl⟩

/-- A resume where the end of the task fell due in the halt. -/
theorem State.resumeEngine_ends (hdue : (s.ce[n]).endDue ≠ 0) :
    let t := s.resumeEngine n
    t.bit .CE_STAT_HALTED n = false ∧
    Ended n (s.elapsed n - (s.ce[n]).tm.first.getD (s.elapsed n)) (s.ce[n]).committed s t ∧
    (t.bit .CE_STAT_OVREND n = (s.bit .CE_STAT_OVREND n || decide ((s.ce[n]).endDue ≠ 1))) ∧
    EndsTask n (([(.CE_STAT_HALTED, n.val), (.CE_STAT_OVREND, n.val)] : List (Fld × Nat)) ++ taskFields n) s t := by
  have ha := (s.unhalted_alone n).mono (l' := [(.CE_STAT_HALTED, n), (.CE_STAT_OVREND, n)]) (by simp)
  have hh : (s.unhalted n).getF .CE_STAT_HALTED n = 0 := s.getF_setF_same .CE_STAT_HALTED n 0
  by_cases h1 : (s.ce[n]).endDue = 1
  · obtain ⟨hhalt, hov, hended, hends⟩ := s.resumed_ends n ha rfl hh (s.elapsed n)
    rw [State.resumeEngine_eq, h1]
    refine ⟨hhalt, hended, hov.trans ?_, hends⟩
    rw [show (s.unhalted n).bit .CE_STAT_OVREND n = s.bit .CE_STAT_OVREND n from
      s.bit_setF_ne (f := .CE_STAT_HALTED) n n 0 (by simp)]
    simp
  · have hx := ha.setF 1 (f := .CE_STAT_OVREND) (i := n) (by simp)
    obtain ⟨hhalt, hov, hended, hends⟩ := s.resumed_ends n hx rfl ((State.getF_setF_ne _ _ _ _ (by simp)).trans hh) (s.elapsed n)
    have heq : s.resumeEngine n = ((s.unhalted n).setF .CE_STAT_OVREND n 1).endTask n (s.elapsed n) := by
      rw [State.resumeEngine_eq]
      split <;> simp_all
    rw [heq]
    refine ⟨hhalt, hended, hov.trans ?_, hends⟩
    rw [State.bit_setF_same, decide_eq_true h1, Bool.or_true]
    rfl

end

/-- One bit of a mask. -/
theorem getLsbD_bitOf {w : Nat} (k m : Fin w) : (BitVec.ofNat w (2 ^ k.val)).getLsbD m = decide (m = k) := by
  rw [BitVec.getLsbD_ofNat, Nat.testBit_two_pow]
  simp [Fin.ext_iff, eq_comm]

/-- Settles O1: the reset and the resume by the rules of the end of an engine's task, the halt by what it writes. -/
theorem engineResetAndDebug : Obligations.EngineResetAndDebug := by
  intro n s
  refine ⟨fun hlive hbus => Answers.of_guard (t := s.ceReset n) rfl (by simp [hlive, hbus]) ?_, fun hlive hrun hdbg brk => ?_, fun h brk => ?_,
    fun h => ?_, fun hhalt hdbg hrun => ⟨fun hdue => ?_, fun hdue => ?_⟩, fun k hrun hdbg => ⟨?_, ?_⟩⟩
  · have hends := s.ceReset_ends n
    have hpegs : (s.ceReset n).pegs = (s.breakPegs n).pegs := hends.pegs
    have hfields := s.getF_ceReset n
    simp only [unitResetFields, List.mem_cons, List.not_mem_nil, or_false, forall_eq_or_imp, forall_eq] at hfields
    obtain ⟨hen, henst, hrun, hhalt⟩ := hfields
    have hbit {f : Fld} (h : (s.ceReset n).getF f n = 0) : (s.ceReset n).bit f n = false := by rw [State.bit, h]; rfl
    have hkeeps : SwapKeeps n ((s.breakPegs n).engineCleared n) (s.ceReset n) := State.actOffDone_keeps _ n
    refine ⟨?_, ?_, ?_, hen, henst, hbit hrun, hbit hhalt, fun k => ?_⟩
    · rw [hpegs]
      exact hends
    · rw [SwapKeeps, State.engineCleared_ce] at hkeeps
      exact hkeeps
    · intro hfree
      have hidle : s.ceReset n = (s.breakPegs n).engineCleared n :=
        State.actOffDone_idle (((s.breakPegs n).engineCleared_actDue n).trans hfree)
      rw [hidle, State.engineCleared_ce]
      exact ⟨rfl, rfl, rfl, rfl, rfl⟩
    · rw [hpegs]
      simp [State.breakPegs, Peg.breakFor_eq]
  · refine Answers.of_guard (t := s.haltEngine n brk) rfl (by simp [hlive, hrun, hdbg]) ⟨rfl, ?_, ?_, fun m => ?_⟩
    · exact s.bit_setF_same .CE_STAT_HALTED n 1
    · exact (RegsBut.refl s _).setF 1 (List.mem_singleton.2 rfl)
    · cases brk
      · change (s.haltEn &&& ~~~BitVec.ofNat 24 (2 ^ n.val)).getLsbD m = _
        rw [BitVec.getLsbD_and, BitVec.getLsbD_not, getLsbD_bitOf]
        split <;> simp [*]
      · change (s.haltEn ||| BitVec.ofNat 24 (2 ^ n.val)).getLsbD m = _
        rw [BitVec.getLsbD_or, getLsbD_bitOf]
        split <;> simp [*]
  · refine Ignores.of_guard (t := s.haltEngine n brk) rfl ?_
    simp only [Bool.and_eq_false_iff]
    tauto
  · refine Ignores.of_guard (t := s.resumeEngine n) rfl ?_
    simp only [Bool.and_eq_false_iff]
    tauto
  · have ha := s.unhalted_alone n
    have heq : s.resumeEngine n = s.unhalted n := by rw [State.resumeEngine_eq, hdue]; rfl
    refine Answers.of_guard (t := s.resumeEngine n) rfl (by simp [hhalt, hrun, hdbg]) ?_
    rw [heq]
    refine ⟨ha.frame, s.bit_setF_same .CE_STAT_HALTED n 0, ha.regs, ha.others, ?_, ?_⟩
    · rw [State.unhalted_ce]
    · rw [State.unhalted_ce]
      exact le_max_left _ _
  · exact Answers.of_guard (t := s.resumeEngine n) rfl (by simp [hhalt, hrun, hdbg]) (s.resumeEngine_ends n hdue)
  · refine Answers.of_guard rfl (by simp [hrun, hdbg]) ⟨rfl, fun m => ?_⟩
    change (s.sec.halted ||| BitVec.ofNat 4 (2 ^ k.val)).getLsbD m = _
    rw [BitVec.getLsbD_or, getLsbD_bitOf]
  · have haon : s.aonRuns = true := by
      simp only [State.coresRun, Bool.and_eq_true] at hrun
      exact hrun.2
    refine Answers.of_guard rfl (by simp [haon, hdbg]) ⟨rfl, fun m => ?_⟩
    change (s.sec.halted &&& ~~~BitVec.ofNat 4 (2 ^ k.val)).getLsbD m = _
    rw [BitVec.getLsbD_and, BitVec.getLsbD_not, getLsbD_bitOf]
    simp

end Sys2Proof.Machine
end

section
/-! What `exec` does for the commands below: one function of the model for each. -/
namespace Sys2Proof.Machine

-- The proofs one after another: all at once they would need more threads, and their stacks, than the check's memory holds.
set_option Elab.async false

theorem exec_actGo : ∀ mode (s : State), exec (.actGo mode) s = execActGo mode s := fun _ _ => rfl

theorem exec_actValidated : ∀ (s : State), exec .actValidated s = execActValidated s := fun _ => rfl

theorem exec_checkerLock : ∀ r (s : State), exec (.checkerLock r) s = execCheckerLock r s := fun _ _ => rfl

theorem exec_checkerLostLock : ∀ x bits (s : State), exec (.checkerLostLock x bits) s = execCheckerLostLock x bits s := fun _ _ _ => rfl

theorem exec_drainComplete : ∀ u (s : State), exec (.drainComplete u) s = execDrainComplete u s := fun _ _ => rfl

theorem exec_eireqClear : ∀ n (s : State), exec (.eireqClear n) s = execEireqClear n s := fun _ _ => rfl

theorem exec_eireqSet : ∀ n (s : State), exec (.eireqSet n) s = execEireqSet n s := fun _ _ => rfl

theorem exec_eisReceived : ∀ n (s : State), exec (.eisReceived n) s = execEisReceived n s := fun _ _ => rfl

theorem exec_eisSent : ∀ n (s : State), exec (.eisSent n) s = execEisSent n s := fun _ _ => rfl

theorem exec_fastExitTimeout : ∀ n (s : State), exec (.fastExitTimeout n) s = execFastExitTimeout n s := fun _ _ => rfl

theorem exec_filterQualified : ∀ x (s : State), exec (.filterQualified x) s = execFilterQualified x s := fun _ _ => rfl

theorem exec_fretSwap : ∀ mode (s : State), exec (.fretSwap mode) s = execFretSwap mode s := fun _ _ => rfl

theorem exec_fretSwapValidated : ∀ (s : State), exec .fretSwapValidated s = execFretSwapValidated s := fun _ => rfl

theorem exec_fretTableWrite : ∀ off w (s : State), exec (.fretTableWrite off w) s = execFretTableWrite off w s := fun _ _ _ => rfl

theorem exec_fxbReceived : ∀ n (s : State), exec (.fxbReceived n) s = execFxbReceived n s := fun _ _ => rfl

theorem exec_imageBankWrite : ∀ n off w (s : State), exec (.imageBankWrite n off w) s = execImageBankWrite n off w s := fun _ _ _ _ => rfl

theorem exec_latchClear : ∀ k w (s : State), exec (.latchClear k w) s = execLatchClear k w s := fun _ _ _ => rfl

theorem exec_linkLoss : ∀ n errs (s : State), exec (.linkLoss n errs) s = execLinkLoss n errs s := fun _ _ _ => rfl

theorem exec_lock : ∀ u withUnlock (s : State), exec (.lock u withUnlock) s = execLock u withUnlock s := fun _ _ _ => rfl

theorem exec_mclr : ∀ (s : State), exec .mclr s = execMclr s := fun _ => rfl

theorem exec_mirrorGroupUp : ∀ (s : State), exec .mirrorGroupUp s = execMirrorGroupUp s := fun _ => rfl

theorem exec_mirrorLinkLoss : ∀ m (s : State), exec (.mirrorLinkLoss m) s = execMirrorLinkLoss m s := fun _ _ => rfl

theorem exec_mirrorTrainingBlockReceived : ∀ m b (s : State), exec (.mirrorTrainingBlockReceived m b) s = execMirrorTrainingBlockReceived m b s := fun _ _ _ => rfl

theorem exec_muteStateSet : ∀ (s : State), exec .muteStateSet s = execMuteStateSet s := fun _ => rfl

theorem exec_patternCtrlWrite : ∀ x w (s : State), exec (.patternCtrlWrite x w) s = execPatternCtrlWrite x w s := fun _ _ _ => rfl

theorem exec_rateWrite : ∀ n rate (s : State), exec (.rateWrite n rate) s = execRateWrite n rate s := fun _ _ _ => rfl

theorem exec_retrain : ∀ n (s : State), exec (.retrain n) s = execRetrain n s := fun _ _ => rfl

theorem exec_routeWrite : ∀ r w (s : State), exec (.routeWrite r w) s = execRouteWrite r w s := fun _ _ _ => rfl

theorem exec_supTripRequest : ∀ (s : State), exec .supTripRequest s = execSupTripRequest s := fun _ => rfl

theorem exec_swTripRequest : ∀ n (s : State), exec (.swTripRequest n) s = execSwTripRequest n s := fun _ _ => rfl

theorem exec_tbSetsSent : ∀ n (s : State), exec (.tbSetsSent n) s = execTbSetsSent n s := fun _ _ => rfl

theorem exec_timeSet : ∀ (s : State), exec .timeSet s = execTimeSet s := fun _ => rfl

theorem exec_timeStep : ∀ (s : State), exec .timeStep s = execTimeStep s := fun _ => rfl

theorem exec_toutEnable : ∀ n (s : State), exec (.toutEnable n) s = execToutEnable n s := fun _ _ => rfl

theorem exec_toutRise : ∀ n (s : State), exec (.toutRise n) s = execToutRise n s := fun _ _ => rfl

theorem exec_trainingSetReceived : ∀ n first rest errs (s : State), exec (.trainingSetReceived n first rest errs) s = execTrainingSetReceived n first rest errs s := fun _ _ _ _ _ => rfl

theorem exec_trainingTimeout : ∀ t (s : State), exec (.trainingTimeout t) s = execTrainingTimeout t s := fun _ _ => rfl

theorem exec_tripPinChange : ∀ n level (s : State), exec (.tripPinChange n level) s = execTripPinChange n level s := fun _ _ _ => rfl

theorem exec_txeqWrite : ∀ x w (s : State), exec (.txeqWrite x w) s = execTxeqWrite x w s := fun _ _ _ => rfl

theorem exec_unitDisable : ∀ u (s : State), exec (.unitDisable u) s = execUnitDisable u s := fun _ _ => rfl

theorem exec_unitEnable : ∀ u (s : State), exec (.unitEnable u) s = execUnitEnable u s := fun _ _ => rfl

theorem exec_unlock : ∀ u (s : State), exec (.unlock u) s = execUnlock u s := fun _ _ => rfl

end Sys2Proof.Machine
end

section
/-! The image banks and the activation of a program image (R148 to R153). -/
namespace Sys2Proof.Machine

-- The proofs one after another: all at once they would need more threads, and their stacks, than the check's memory holds.
set_option Elab.async false

/-- A control-plane word written into a bank or an entry table, by the state of the bank. -/
theorem State.writeBank_cases {n : Fin 24} {off b : Nat} (hb : bankOf off = some b) (s : State) (v k : Nat) : s.writeBank n off v k =
    if s.bit .PMC_STAGE_MINIMAL 0 then s
    else if b = s.getF .CE_STAT_ACTBANK n then s.setF .CE_STAT_IWRACT n 1
    else if s.actBusy && s.actMasked n then s.setF .CE_STAT_IWRPEND n 1
    else (((s.setBytes (ceBase n + off) v k).freshWord (ceBase n + off))).setF .CE_STAT_STGOK n 0 := by
  rw [State.writeBank, hb]

theorem imageBankWrites : Claims.ImageBankWrites := by
  intro n off w b s a hlive hbus halign hb
  have hexec : exec (.imageBankWrite n off w) s = .next (s.writeBank n off.toNat w.toNat 4) := by
    simp [exec_imageBankWrite, execImageBankWrite, hlive, hbus, halign]
  refine ⟨fun hmin => ?_, fun hmin => ⟨fun hact => ?_, fun hact hbusy hmask => ?_, fun hact hfree => ?_⟩⟩
  · rw [Ignores, hexec, State.writeBank_cases hb, if_pos hmin]
  · refine SetsOn.of_setAll ?_ (writtenKeys_nodup (by simp)) (by simp) rfl
    rw [hexec, State.writeBank_cases hb, if_neg (by simp [hmin]), if_pos hact]
    rfl
  · refine SetsOn.of_setAll ?_ (writtenKeys_nodup (by simp)) (by simp) rfl
    rw [hexec, State.writeBank_cases hb, if_neg (by simp [hmin]), if_neg hact, if_pos (by simp [hbusy, hmask])]
    rfl
  · have hopen : ¬(s.actBusy && s.actMasked n) = true := by
      simp only [Bool.and_eq_true, not_and_or, Bool.not_eq_true]
      exact hfree
    have hput : exec (.imageBankWrite n off w) s = .next ((s.putWord a w).setF .CE_STAT_STGOK n 0) := by
      rw [hexec, State.writeBank_cases hb, if_neg (by simp [hmin]), if_neg hact, if_neg hopen]
      rfl
    refine ⟨_, hput, (State.word_setF _ _ _ _ a).trans (s.word_putWord a w), (s.putWord_memBut a w).setF _ _ _, State.bit_setF_same _ _ _ _, ?_, ?_⟩
    · exact RegsBut.setF (fun f i _ => s.getF_putWord a w f i) 0 (List.mem_singleton.2 rfl)
    · rw [s.putWord_frame]
      rfl

theorem State.actCode_le (s : State) : s.actCode ≤ 4 := by
  unfold State.actCode
  dsimp only
  split_ifs <;> omega

/-- Where no masked engine runs a task, an activation only changes the banks. -/
theorem State.activate_idle (s : State) (h : ∀ n ∈ s.actList, s.running n = false) : s.activate = (s.setF .CE_ACTSTAT_PEND 0 0).actSwap := by
  have hfold : s.actList.foldl (fun t n => if t.running n then t.overrunEnd n else t) (s.setF .CE_ACTSTAT_PEND 0 0) = s.setF .CE_ACTSTAT_PEND 0 0 := by
    refine List.foldlRecOn (motive := fun t => t = s.setF .CE_ACTSTAT_PEND 0 0) _ _ rfl fun t ht n hn => ?_
    have hrun : (s.setF .CE_ACTSTAT_PEND 0 0).running n = s.running n := s.bit_setF_ne _ _ _ (by simp)
    rw [ht, if_neg (by simp [hrun, h n hn])]
  rw [State.activate, hfold]

/-- The bank of an engine that no activation masks stays. -/
theorem State.actSwap_bank (s : State) (n : Fin 24) : s.actSwap.getF .CE_STAT_ACTBANK n =
    if s.actMasked n then 1 - s.getF .CE_STAT_ACTBANK n else s.getF .CE_STAT_ACTBANK n := by
  obtain ⟨-, hregs, ⟨-, -, -, hbanks⟩, -⟩ := s.actSwap_spec
  cases hmask : s.actMasked n with
  | true =>
    rw [if_pos rfl]
    exact (hbanks n ((s.mem_actList n).2 hmask)).1
  | false =>
    rw [if_neg (by simp)]
    refine hregs _ _ fun e he heq => ?_
    obtain ⟨hf, hi⟩ := Fld.key_inj heq
    simp only [State.swapFields, List.mem_append, List.mem_cons, List.not_mem_nil, or_false, List.mem_flatMap, List.mem_map] at he
    rcases he with (rfl | rfl | rfl) | ⟨m, hm, rfl | ⟨k, -, rfl⟩⟩
    · cases hf
    · cases hf
    · cases hf
    · have hnm : n = m := Fin.ext (by have := n.isLt; have := m.isLt; dsimp only at hi; omega)
      rw [hnm, (s.mem_actList m).1 hm] at hmask
      cases hmask
    · cases hf

theorem actGo_cases (mode : Bool) (s : State) (hbus : s.fabBus = true) : exec (.actGo mode) s = .next (s.writeActCtrl mode true) := by
  simp [exec_actGo, execActGo, hbus]

/-- The end of a validation. -/
theorem actValidated_cases (s : State) (hrun : s.fabRuns = true) (hval : s.bit .CE_ACTSTAT_VALIDATING 0 = true) :
    exec .actValidated s = .next (if s.actCode ≠ 0 then
      (((s.setF .CE_ACTSTAT_VALIDATING 0 0).setF .CE_ACTSTAT_ERR 0 1).setF .CE_ACTSTAT_CODE 0 s.actCode).setF .CE_ACTCTRL_GO 0 0
    else if s.actAtOnce then (s.setF .CE_ACTSTAT_VALIDATING 0 0).activate
    else (s.setF .CE_ACTSTAT_VALIDATING 0 0).setF .CE_ACTSTAT_PEND 0 1) := by
  rw [exec_actValidated, execActValidated, hrun, hval]
  rfl

theorem activation : Claims.Activation := by
  intro mode s open_ due
  refine ⟨fun hbus hmin => ?_, fun ⟨hbus, hmin⟩ hfree => ?_, fun ⟨hbus, hmin⟩ hbusy hmode => ?_, fun ⟨hbus, hmin⟩ hbusy hmode => ?_,
    fun hrun hval hcode => ?_, fun hrun hval hcode hwait => ?_, fun hrun hval hcode hnow hidle => ?_, fun n hmask habs => ?_⟩
  · rw [Ignores, actGo_cases mode s hbus, State.writeActCtrl, if_pos hmin]
  · refine SetsOn.of_setAll ?_ (writtenKeys_nodup (by simp)) ?_ rfl
    · rw [actGo_cases mode s hbus, State.writeActCtrl, if_neg (by simp [hmin]), if_neg (by simp [hfree])]
      rfl
    · simp
  · refine SetsOn.of_setAll ?_ (writtenKeys_nodup (by simp)) (by simp) rfl
    rw [actGo_cases mode s hbus, State.writeActCtrl, if_neg (by simp [hmin]), if_pos hbusy, if_pos (by simp [hmode])]
    rfl
  · rw [Ignores, actGo_cases mode s hbus, State.writeActCtrl, if_neg (by simp [hmin]), if_pos hbusy, if_neg (by simp [hmode])]
  · refine SetsOn.of_setAll ?_ (writtenKeys_nodup (by simp)) ?_ rfl
    · rw [actValidated_cases s hrun hval, if_pos hcode]
      rfl
    · have hcodes : s.actCode < 2 ^ Fld.CE_ACTSTAT_CODE.width := by
        have hw : Fld.CE_ACTSTAT_CODE.width = 4 := rfl
        have := s.actCode_le
        rw [hw]
        omega
      simp [hcodes]
  · refine SetsOn.of_setAll ?_ (writtenKeys_nodup (by simp)) (by simp) rfl
    rw [actValidated_cases s hrun hval, if_neg (not_not.2 hcode), if_neg (by simp [hwait])]
    rfl
  · let x := (s.setF .CE_ACTSTAT_VALIDATING 0 0).setF .CE_ACTSTAT_PEND 0 0
    have hexec : exec .actValidated s = .next x.actSwap := by
      rw [actValidated_cases s hrun hval, if_neg (not_not.2 hcode), if_pos hnow]
      refine congrArg Host.Outcome.next (State.activate_idle _ fun n hn => ?_)
      rw [State.actList_congr (s.getF_setF_ne _ _ _ (by simp))] at hn
      exact (s.bit_setF_ne _ _ _ (by simp)).trans (hidle n hn)
    have hsame {f : Fld} (hf : f ≠ .CE_ACTSTAT_VALIDATING ∧ f ≠ .CE_ACTSTAT_PEND) (i : Nat) : x.getF f i = s.getF f i :=
      (State.getF_setF_ne _ _ _ _ hf.2).trans (State.getF_setF_ne _ _ _ _ hf.1)
    obtain ⟨hframe, hregs, ⟨hpend, hgo, hdone, -⟩, -⟩ := x.actSwap_spec
    refine ⟨_, hexec, hdone, hgo, hpend, ?_, fun n => (x.actSwap_bank n).trans ?_, hframe⟩
    · have hval : x.getF .CE_ACTSTAT_VALIDATING 0 = 0 :=
        (State.getF_setF_ne _ _ _ _ (by simp)).trans (s.getF_setF_same .CE_ACTSTAT_VALIDATING 0 0)
      have hkeep : x.actSwap.getF .CE_ACTSTAT_VALIDATING 0 = x.getF .CE_ACTSTAT_VALIDATING 0 :=
        hregs.getF_eq (fun e he heq => absurd (x.swapFields_names e he) (by rw [heq]; simp [swapNames])) 0
      rw [State.bit, hkeep, hval]
      rfl
    · have hmask : x.actMasked n = s.actMasked n := by
        rw [State.actMasked, State.actMasked, State.testF, State.testF, hsame (by simp)]
      rw [hmask, hsame (by simp)]
  · have : s.actList.any (fun n => s.actMissing n) = true := List.any_eq_true.2 ⟨n, (s.mem_actList n).2 hmask, by simp [State.actMissing, habs]⟩
    simp [State.actCode, this]

/-- Settles O43: the writes and the activation by the branches of what the engine control answers. -/
theorem imageBanksAndActivation : Obligations.ImageBanksAndActivation := ⟨imageBankWrites, activation⟩

end Sys2Proof.Machine
end

section
/-! The fret table: guarded writes, validation and swap (R21, R68 to R70). -/
namespace Sys2Proof.Machine

-- The proofs one after another: all at once they would need more threads, and their stacks, than the check's memory holds.
set_option Elab.async false

theorem State.fretCode_le (s : State) : s.fretCode ≤ 3 := by
  unfold State.fretCode
  dsimp only
  split_ifs <;> omega

/-- The end of a validation. -/
theorem fretSwapValidated_cases (s : State) (hrun : s.fabRuns = true) (hval : s.bit .FRET_STAT_VALIDATING 0 = true) :
    exec .fretSwapValidated s = .next (if s.fretCode ≠ 0 then
      (((s.setF .FRET_STAT_VALIDATING 0 0).setF .FRET_STAT_SWAPERR 0 1).setF .FRET_STAT_SWAPCODE 0 s.fretCode).setF .FRET_CTRL_SWAP 0 0
    else if s.fretLive then (s.setF .FRET_STAT_VALIDATING 0 0).setF .FRET_STAT_SWAPPEND 0 1
    else (s.setF .FRET_STAT_VALIDATING 0 0).fretSwapNow) := by
  rw [exec_fretSwapValidated, execFretSwapValidated, hrun, hval]
  rfl

/-- A word written to the table, by the copy it lies in. -/
theorem fretTableWrite_cases (off : BitVec 16) (w : Word) (s : State) (hbus : s.protBus = true) (halign : off.toNat % 4 = 0)
    (hoff : 0x8000 ≤ off.toNat) : exec (.fretTableWrite off w) s = .next (s.fretGuard (off.toNat / 0x4000 - 2)
      (fun t => t.setWord (0x40050000 + off.toNat) (w &&& rowMask (off.toNat % 0x100)))) := by
  rw [exec_fretTableWrite, execFretTableWrite, if_pos ⟨halign, hbus⟩, State.writeFretTable, if_neg (by omega)]

theorem fretSwap_cases (mode : Bool) (s : State) (hbus : s.protBus = true) : exec (.fretSwap mode) s = .next (s.writeFretSwap mode true) := by
  rw [exec_fretSwap, execFretSwap, if_pos hbus]

/-- An enabled row of the shadow copy that fails one test of the validation. -/
theorem shadowRow_fails {s : State} {r n : Nat} (p : Nat → Nat → Bool) (hr : r < s.plen (1 - s.getF .FRET_STAT_ACTIVE 0)) (hn : n < 24)
    (hen : 2 ^ 31 ≤ s.rowWord (1 - s.getF .FRET_STAT_ACTIVE 0) r (8 * n)) (hp : p r n = true) :
    (List.range (s.plen (1 - s.getF .FRET_STAT_ACTIVE 0))).any (fun r => (List.range 24).any (fun n =>
      decide (2 ^ 31 ≤ s.rowWord (1 - s.getF .FRET_STAT_ACTIVE 0) r (8 * n)) && p r n)) = true :=
  List.any_eq_true.2 ⟨r, List.mem_range.2 hr, List.any_eq_true.2 ⟨n, List.mem_range.2 hn, by simp only [hp, hen, decide_true, Bool.and_self]⟩⟩

/-- Settles O5: the writes and the swap by the branches of what the dispatcher answers. -/
theorem fretTableSwaps : Obligations.FretTableSwaps := by
  intro mode off w s act copy a sh
  refine ⟨fun hbus halign hoff => ⟨fun hact => ?_, fun hact hbusy => ?_, fun hact hfree => ?_⟩, fun hbus hfree => ?_,
    fun hbus hbusy hmode => ?_, fun hrun hval hcode => ?_, fun hrun hval hcode henst hatu => ?_, fun hrun hval hcode hoff => ?_,
    fun r n hr hn hen => ⟨fun habs => ?_, fun hword => ?_⟩⟩
  · refine SetsOn.of_setAll ?_ (writtenKeys_nodup (by simp)) (by simp) rfl
    rw [fretTableWrite_cases off w s hbus halign hoff, State.fretGuard, if_pos hact]
    rfl
  · refine SetsOn.of_setAll ?_ (writtenKeys_nodup (by simp)) (by simp) rfl
    rw [fretTableWrite_cases off w s hbus halign hoff, State.fretGuard, if_neg hact, if_pos hbusy]
    rfl
  · refine ⟨s.setWord a (w &&& rowMask (off.toNat % 0x100)), ?_, s.word_setWord a _, fun x hx => s.byte_setBytes a _ 4 x hx,
      State.setBytes_frame s a _ 4⟩
    rw [fretTableWrite_cases off w s hbus halign hoff, State.fretGuard, if_neg hact, if_neg (by simp [hfree])]
  · refine SetsOn.of_setAll ?_ (writtenKeys_nodup (by simp)) (by simp) rfl
    rw [fretSwap_cases mode s hbus, State.writeFretSwap, if_neg (by simp [hfree])]
    rfl
  · refine SetsOn.of_setAll ?_ (writtenKeys_nodup (by simp)) (by simp) rfl
    rw [fretSwap_cases mode s hbus, State.writeFretSwap, if_pos hbusy, if_pos (by simp [hmode])]
    rfl
  · refine SetsOn.of_setAll ?_ (writtenKeys_nodup (by simp)) ?_ rfl
    · rw [fretSwapValidated_cases s hrun hval, if_pos hcode]
      rfl
    · have hfit : s.fretCode < 2 ^ Fld.FRET_STAT_SWAPCODE.width := by
        have hw : Fld.FRET_STAT_SWAPCODE.width = 4 := rfl
        have := s.fretCode_le
        rw [hw]
        omega
      simp [hfit]
  · refine SetsOn.of_setAll ?_ (writtenKeys_nodup (by simp)) (by simp) rfl
    rw [fretSwapValidated_cases s hrun hval, if_neg (not_not.2 hcode), if_pos (by simp [State.fretLive, enstOff, henst, hatu])]
    rfl
  · have hdead : ¬s.fretLive = true := by
      simp only [State.fretLive, enstOff, Bool.and_eq_true, bne_iff_ne, not_and_or, not_not, Bool.not_eq_true]
      exact hoff
    have hact : (s.setF .FRET_STAT_VALIDATING 0 0).getF .FRET_STAT_ACTIVE 0 = act := s.getF_setF_ne _ _ _ (by simp)
    refine SetsOn.of_setAll ?_ (writtenKeys_nodup (by simp)) ?_ rfl
    · rw [fretSwapValidated_cases s hrun hval, if_neg (not_not.2 hcode), if_neg hdead, State.fretSwapNow, hact]
      rfl
    · have hfit : sh < 2 ^ Fld.FRET_STAT_ACTIVE.width := lt_of_le_of_lt (Nat.sub_le 1 act) (Fld.one_lt _)
      simp [hfit]
  · have hany := shadowRow_fails (fun _ n => !s.engOk n) hr hn hen (by simp [habs])
    rw [State.fretCode]
    exact if_pos hany
  · have hany := shadowRow_fails (fun r n => decide (s.rowWord sh r (8 * n + 4) % 65536 ≤ s.rowWord sh r (8 * n) % 65536)) hr hn hen
      (decide_eq_true hword)
    rw [State.fretCode]
    dsimp only
    rw [if_pos hany]
    split_ifs
    · exact .inr rfl
    · exact .inl rfl

end Sys2Proof.Machine
end

section
/-! The edge filter (R181, R182). -/
namespace Sys2Proof.Machine

-- The proofs one after another: all at once they would need more threads, and their stacks, than the check's memory holds.
set_option Elab.async false

/-- Edges, newest first, that lie at least `minau` apart. -/
def Spaced (minau : Nat) (l : List Edge) : Prop := l.Pairwise (fun later earlier => earlier.x + minau ≤ later.x)

/-- The first edge of a fret is kept alone or lost. -/
theorem Filt.first_spaced (minau f : Nat) (lastx : Option Int) (e : Edge) (t : Filt) (h : t.kept = []) :
    Spaced minau (Filt.first minau f lastx e t).kept := by
  unfold Filt.first
  split
  · dsimp only
    split_ifs
    · simp [h, Spaced]
    · simp [Spaced]
    · simp [Spaced]
  · simp [Spaced]

/-- A candidate is kept behind the newest edge where it lies far enough from it; else it takes that edge with it or its place. -/
theorem Filt.push_spaced {minau : Nat} (hm : 1 ≤ minau) (f : Nat) (lastx : Option Int) (kept : List Edge) (e : Edge) (t : Filt)
    (h : Spaced minau kept) : Spaced minau (Filt.push minau f lastx kept e t).kept := by
  induction kept generalizing e t with
  | nil => exact Filt.first_spaced minau f lastx e _ rfl
  | cons d rest ih =>
    obtain ⟨hd, hrest⟩ := List.pairwise_cons.1 h
    rw [Filt.push]
    split_ifs with hgap hback
    · refine List.pairwise_cons.2 ⟨fun y hy => ?_, h⟩
      rcases List.mem_cons.1 hy with rfl | hy
      · omega
      · have := hd y hy
        omega
    · exact hrest
    · exact ih _ _ hrest

/-- Settles O6: the spacing by induction over the candidates, the limit by the first four of the kept edges. -/
theorem edgeSpacingAndLimit : Obligations.EdgeSpacingAndLimit := by
  refine ⟨fun minau f lastx cs hm => ?_, fun c p l ew1 => ?_⟩
  · exact List.foldlRecOn (motive := fun t : Filt => Spaced minau t.kept) cs _ List.Pairwise.nil
      fun t ht e _ => Filt.push_spaced hm f lastx t.kept e t ht
  · rw [Conv.planCell]
    dsimp only
    rw [List.length_take, decide_eq_true_iff]
    omega

end Sys2Proof.Machine
end

section
/-! The station clock: SET, STEP and the coherent read, and the timed outputs (R370 to R372, R381, R382). -/
namespace Sys2Proof.Machine

-- The proofs one after another: all at once they would need more threads, and their stacks, than the check's memory holds.
set_option Elab.async false

/-- The next rise of a periodic output is the first that is not past. -/
theorem nextPeriodic_first (start per now : Nat) (hper : 0 < per) :
    ∃ k, nextPeriodic start per now = start + k * per ∧ now ≤ start + k * per ∧ (k = 0 ∨ start + (k - 1) * per < now) := by
  unfold nextPeriodic
  split_ifs with h
  · exact ⟨0, by omega, by omega, .inl rfl⟩
  · have hdiv := Nat.div_add_mod (now - start + per - 1) per
    have hmod := Nat.mod_lt (now - start + per - 1) hper
    generalize (now - start + per - 1) / per = k at hdiv ⊢
    rw [Nat.mul_comm] at hdiv
    refine ⟨k, rfl, by omega, ?_⟩
    cases k with
    | zero => exact .inl rfl
    | succ k =>
      rw [Nat.succ_mul] at hdiv
      exact .inr (by rw [Nat.add_sub_cancel]; omega)

/-! The outputs after a SET or STEP. -/

/-- A timed output and its MISSED. -/
def State.toutSeen (s : State) (n : Fin 8) : ToutSt × Nat := (s.tout[n], s.getF .TOUT_CTRL_MISSED n)

/-- Nothing but the timed outputs and their MISSED changes. -/
def ToutFrame (s t : State) : Prop :=
  t = { s with regs := t.regs, tout := t.tout } ∧ RegsBut s t ((List.range 8).map (fun n => (Fld.TOUT_CTRL_MISSED, n)))

section
variable {s t : State} {n : Fin 8}

theorem ToutFrame.getF (h : ToutFrame s t) {f : Fld} (hf : f ≠ .TOUT_CTRL_MISSED) (i : Nat) : t.getF f i = s.getF f i :=
  h.2.getF_eq (fun e he => by
    obtain ⟨_, -, rfl⟩ := List.mem_map.1 he
    exact hf.symm) i

theorem ToutFrame.start (h : ToutFrame s t) (n : Fin 8) : t.toutStart n = s.toutStart n ∧ t.timeNs = s.timeNs := by
  have hclock : t.clock = s.clock := by rw [h.1]
  simp only [State.toutStart, State.timeNs, h.getF (f := .TOUT_SSEC_SSEC) (by simp), h.getF (f := .TOUT_SNS_SNS) (by simp), hclock, and_self]

theorem missed_mem (n : Fin 8) : (Fld.TOUT_CTRL_MISSED, n.val) ∈ (List.range 8).map (fun n => (Fld.TOUT_CTRL_MISSED, n)) :=
  List.mem_map.2 ⟨n.val, List.mem_range.2 n.isLt, rfl⟩

/-- The rise that output `n` is given. -/
theorem State.toutSchedule_spec (s : State) (n : Fin 8) : let t := s.toutSchedule n
    ToutFrame s t ∧ (∀ j, j ≠ n → t.toutSeen j = s.toutSeen j) ∧
    t.tout[n] = { s.tout[n] with rise := t.tout[n].rise } ∧
    (s.bit .TOUT_CTRL_MODE n = true → t.tout[n].rise = some (nextPeriodic (s.toutStart n) (s.getF .TOUT_PER_PER n) s.timeNs) ∧
      t.getF .TOUT_CTRL_MISSED n = s.getF .TOUT_CTRL_MISSED n) ∧
    (s.bit .TOUT_CTRL_MODE n = false → s.toutStart n < s.timeNs → t.tout[n].rise = none ∧ t.getF .TOUT_CTRL_MISSED n = 1) ∧
    (s.bit .TOUT_CTRL_MODE n = false → s.timeNs ≤ s.toutStart n → t.tout[n].rise = some (s.toutStart n) ∧
      t.getF .TOUT_CTRL_MISSED n = s.getF .TOUT_CTRL_MISSED n) := by
  have hother (q : ToutSt) (j : Fin 8) (hj : j ≠ n) : (s.tout.set n q)[j] = s.tout[j] := vector_set_ne _ _ hj
  have hown (q : ToutSt) : (s.tout.set n q)[n] = q := vector_set_same _ _
  intro t
  cases hmode : s.bit .TOUT_CTRL_MODE n with
  | true =>
    have ht : t = { s with tout := s.tout.set n { s.tout[n] with rise := some (nextPeriodic (s.toutStart n) (s.getF .TOUT_PER_PER n) s.timeNs) } } := by
      simp only [t, State.toutSchedule, hmode, if_true]
    rw [ht]
    refine ⟨⟨rfl, .refl s _⟩, fun j hj => Prod.ext (hother _ j hj) rfl, ?_, fun _ => ⟨?_, rfl⟩, nofun, nofun⟩
    · rw [hown]
    · rw [hown]
  | false =>
    by_cases hpast : s.toutStart n < s.timeNs
    · have ht : t = ({ s with tout := s.tout.set n { s.tout[n] with rise := none } } : State).setF .TOUT_CTRL_MISSED n 1 := by
        simp only [t, State.toutSchedule, hmode, hpast, if_true]
        rfl
      rw [ht]
      refine ⟨⟨rfl, RegsBut.setF (fun _ _ _ => rfl) 1 (missed_mem n)⟩, fun j hj => Prod.ext (hother _ j hj) ?_, ?_, nofun, fun _ _ => ⟨?_, ?_⟩,
        fun _ h => absurd hpast (by omega)⟩
      · exact State.getF_setF_idx _ _ _ _ _ (by have := n.isLt; have := j.isLt; have : j.val ≠ n.val := fun e => hj (Fin.ext e); omega)
      · rw [show (({ s with tout := s.tout.set n { s.tout[n] with rise := none } } : State).setF .TOUT_CTRL_MISSED n 1).tout =
          s.tout.set n { s.tout[n] with rise := none } from rfl, hown]
      · exact congrArg ToutSt.rise (hown _)
      · exact State.getF_setF_same _ .TOUT_CTRL_MISSED n 1
    · have ht : t = { s with tout := s.tout.set n { s.tout[n] with rise := some (s.toutStart n) } } := by
        simp only [t, State.toutSchedule, hmode, hpast, if_false]
        rfl
      rw [ht]
      refine ⟨⟨rfl, .refl s _⟩, fun j hj => Prod.ext (hother _ j hj) rfl, ?_, nofun, fun _ h => absurd h hpast, fun _ _ => ⟨?_, rfl⟩⟩
      · rw [hown]
      · rw [hown]

/-- Of the registers the schedule of output `n` writes its MISSED alone. -/
theorem State.toutSchedule_regs (s : State) (n : Fin 8) : RegsBut s (s.toutSchedule n) [(.TOUT_CTRL_MISSED, n)] := by
  unfold State.toutSchedule
  dsimp only
  split_ifs
  · exact fun _ _ _ => rfl
  · exact RegsBut.setF (fun _ _ _ => rfl) 1 (List.mem_singleton.2 rfl)
  · exact fun _ _ _ => rfl

/-- What a step of the clock leaves of output `n`, told by the output and its MISSED. -/
def ToutAfter (s : State) (n : Fin 8) (x : ToutSt × Nat) : Prop :=
  let start := s.toutStart n
  let per := s.getF .TOUT_PER_PER n
  let on := s.getF .TOUT_CTRL_ENST n = 1
  let same := x.1.rise = (s.tout[n]).rise ∧ x.2 = s.getF .TOUT_CTRL_MISSED n
  x.1 = { s.tout[n] with rise := x.1.rise } ∧ (¬on → same) ∧
  (on → s.bit .TOUT_CTRL_MODE n = true → 0 < per → x.2 = s.getF .TOUT_CTRL_MISSED n ∧
    ∃ k, x.1.rise = some (start + k * per) ∧ s.timeNs ≤ start + k * per ∧ (k = 0 ∨ start + (k - 1) * per < s.timeNs)) ∧
  (on → s.bit .TOUT_CTRL_MODE n = false → s.timeNs ≤ start → x.1.rise = some start ∧ x.2 = s.getF .TOUT_CTRL_MISSED n) ∧
  (on → s.bit .TOUT_CTRL_MODE n = false → start < s.timeNs → (s.tout[n]).rise.isSome = true → x.1.rise = none ∧ x.2 = 1) ∧
  (on → s.bit .TOUT_CTRL_MODE n = false → start < s.timeNs → (s.tout[n]).rise = none → same)

/-- An output scheduled anew, told from a state with its registers, its clock and the output. -/
theorem ToutFrame.scheduled (h : ToutFrame s t) (hsame : t.toutSeen n = s.toutSeen n) (hlive : (s.tout[n]).rise.isSome = true ∨
    s.bit .TOUT_CTRL_MODE n = true ∨ s.timeNs ≤ s.toutStart n) (hon : s.getF .TOUT_CTRL_ENST n = 1) :
    ToutAfter s n ((t.toutSchedule n).toutSeen n) := by
  obtain ⟨htout, hmissed⟩ := Prod.ext_iff.1 hsame
  have htout : t.tout[n] = s.tout[n] := htout
  have hmissed : t.getF .TOUT_CTRL_MISSED n = s.getF .TOUT_CTRL_MISSED n := hmissed
  obtain ⟨hstart, hnow⟩ := h.start n
  obtain ⟨-, -, hq, hper, hpast, hnext⟩ := t.toutSchedule_spec n
  have hmode : t.bit .TOUT_CTRL_MODE n = s.bit .TOUT_CTRL_MODE n := by rw [State.bit, h.getF (by simp), State.bit]
  rw [htout] at hq
  rw [hmode, hstart, hnow] at hper hpast hnext
  rw [hmissed, h.getF (by simp)] at hper
  rw [hmissed] at hnext
  refine ⟨hq, fun hoff => absurd hon hoff, fun _ hm hp => ?_, fun _ hm hle => hnext hm hle, fun _ hm hlt _ => hpast hm hlt, fun _ hm hlt hnone => ?_⟩
  · obtain ⟨hrise, hkeep⟩ := hper hm
    obtain ⟨k, hk, hfirst⟩ := nextPeriodic_first (s.toutStart n) (s.getF .TOUT_PER_PER n) s.timeNs hp
    exact ⟨hkeep, k, hrise.trans (congrArg some hk), hfirst⟩
  · rcases hlive with h | h | h
    · rw [hnone] at h
      cases h
    · rw [hm] at h
      cases h
    · omega

/-- An output that is not scheduled anew. -/
theorem toutAfter_same (hidle : ¬s.getF .TOUT_CTRL_ENST n = 1 ∨ (s.tout[n]).rise.isSome = false ∧ s.bit .TOUT_CTRL_MODE n = false ∧ s.toutStart n < s.timeNs) :
    ToutAfter s n (s.toutSeen n) := by
  refine ⟨rfl, fun _ => ⟨rfl, rfl⟩, fun hon hm _ => ?_, fun hon _ hle => ?_, fun hon _ _ hsome => ?_, fun _ _ _ _ => ⟨rfl, rfl⟩⟩
  all_goals
    obtain ⟨hrise, hmode, hpast⟩ := hidle.resolve_left (not_not.2 hon)
  · rw [hm] at hmode
    cases hmode
  · omega
  · rw [hsome] at hrise
    cases hrise

/-- One output in the chain of a SET or STEP. -/
def State.toutAgain (s : State) (n : Fin 8) : State :=
  if s.getF .TOUT_CTRL_ENST n == enstOn then
    if (s.tout[n]).rise.isSome || s.bit .TOUT_CTRL_MODE n || decide (s.timeNs ≤ s.toutStart n) then s.toutSchedule n else s
  else s

theorem ToutFrame.again (h : ToutFrame s t) (hsame : t.toutSeen n = s.toutSeen n) : ToutFrame s (t.toutAgain n) ∧
    ToutAfter s n ((t.toutAgain n).toutSeen n) ∧ ∀ j, j ≠ n → (t.toutAgain n).toutSeen j = t.toutSeen j := by
  obtain ⟨hframe, hothers, -⟩ := t.toutSchedule_spec n
  have htrans : ToutFrame s (t.toutSchedule n) := ⟨hframe.1.trans (by rw [h.1]), h.2.trans hframe.2⟩
  have htout : t.tout[n] = s.tout[n] := congrArg Prod.fst hsame
  obtain ⟨hstart, hnow⟩ := h.start n
  have hmode : t.bit .TOUT_CTRL_MODE n = s.bit .TOUT_CTRL_MODE n := by rw [State.bit, h.getF (by simp), State.bit]
  unfold State.toutAgain
  rw [h.getF (by simp), htout, hmode, hstart, hnow]
  split_ifs with hon hlive
  · refine ⟨htrans, h.scheduled hsame ?_ (beq_iff_eq.1 hon), hothers⟩
    simpa only [Bool.or_eq_true, decide_eq_true_iff, or_assoc] using hlive
  · refine ⟨h, ?_, fun _ _ => rfl⟩
    rw [hsame]
    refine toutAfter_same (.inr ?_)
    simpa only [Bool.or_eq_true, decide_eq_true_iff, not_or, Bool.not_eq_true, not_le, and_assoc] using hlive
  · refine ⟨h, ?_, fun _ _ => rfl⟩
    rw [hsame]
    exact toutAfter_same (.inl fun e => hon (beq_iff_eq.2 e))

end

/-- The outputs after STEPCNT has counted. -/
theorem State.stepped_outputs (s : State) : let s1 := s.setF .TIME_STAT_STEPCNT 0 (s.getF .TIME_STAT_STEPCNT 0 + 1)
    ToutFrame s1 s.stepped ∧ ∀ n, ToutAfter s1 n (s.stepped.toutSeen n) :=
  forIdx_each (f := fun n t => t.toutAgain n) (fun n t => t.toutSeen n) (ToutFrame _) (ToutAfter _) ⟨rfl, .refl _ _⟩
    fun _ _ hf hsame => hf.again hsame

/-- The frames of the clock's value, of STEPCNT and of the outputs one after another. -/
theorem steppedFrame {s x s1 t : State} (hx : x = { s with clock := x.clock, regs := x.regs }) (h1 : s1 = { x with regs := s1.regs })
    (ht : t = { s1 with regs := t.regs, tout := t.tout }) : t = { s with clock := t.clock, regs := t.regs, tout := t.tout } := by
  obtain ⟨a, b, rfl⟩ : ∃ a b, t = { s1 with regs := a, tout := b } := ⟨_, _, ht⟩
  obtain ⟨c, rfl⟩ : ∃ c, s1 = { x with regs := c } := ⟨_, h1⟩
  obtain ⟨d, e, rfl⟩ : ∃ d e, x = { s with clock := d, regs := e } := ⟨_, _, hx⟩
  rfl

/-- The fields that the outputs are told by. -/
def toutNames : List Fld := [.TOUT_PER_PER, .TOUT_CTRL_ENST, .TOUT_CTRL_MODE, .TOUT_CTRL_MISSED, .TIME_STAT_STEPCNT]

/-- A step after the clock has taken its value and other fields theirs. -/
theorem State.stepped_spec {s x : State} {more : List (Fld × Nat)} (hx : x = { s with clock := x.clock, regs := x.regs })
    (hregs : RegsBut s x more) (hmore : ∀ e ∈ more, e.1 ∉ toutNames) : Stepped more s x.stepped := by
  obtain ⟨⟨hframe, hbut⟩, hafter⟩ := x.stepped_outputs
  have hs {f : Fld} (hf : f ∈ toutNames) (i : Nat) : x.getF f i = s.getF f i := hregs.getF_eq (fun e he heq => hmore e he (heq ▸ hf)) i
  have h1 {f : Fld} (hf : f ∈ toutNames ∧ f ≠ .TIME_STAT_STEPCNT) (i : Nat) :
      (x.setF .TIME_STAT_STEPCNT 0 (x.getF .TIME_STAT_STEPCNT 0 + 1)).getF f i = s.getF f i := (x.getF_setF_ne _ _ _ hf.2).trans (hs hf.1 i)
  have hout : ∀ e ∈ (List.range 8).map (fun n => (Fld.TOUT_CTRL_MISSED, n)), e.1 = .TOUT_CTRL_MISSED := fun e he => by
    obtain ⟨_, -, rfl⟩ := List.mem_map.1 he
    rfl
  refine ⟨?_, ?_, ?_, fun n => ?_⟩
  · exact steppedFrame hx rfl hframe
  · rw [hbut.getF_eq (fun e he => by rw [hout e he]; simp), State.getF_setF_same, hs (by simp [toutNames])]
  · refine RegsBut.trans (t := x.setF .TIME_STAT_STEPCNT 0 (x.getF .TIME_STAT_STEPCNT 0 + 1)) ?_ (hbut.mono ?_)
    · exact (hregs.mono (fun e he => by simp [he])).setF _ (by simp)
    · exact List.subset_append_right _ _
  · have hn := hafter n
    have htout : s.tout[n] = (x.setF .TIME_STAT_STEPCNT 0 (x.getF .TIME_STAT_STEPCNT 0 + 1)).tout[n] := by
      change _ = x.tout[n]
      rw [hx]
    obtain ⟨hstart, hnow⟩ := ToutFrame.start ⟨hframe, hbut⟩ n
    simp only [ToutAfter, State.toutSeen, h1 (f := .TOUT_PER_PER) (by simp [toutNames]), h1 (f := .TOUT_CTRL_ENST) (by simp [toutNames]),
      h1 (f := .TOUT_CTRL_MISSED) (by simp [toutNames]), State.bit, h1 (f := .TOUT_CTRL_MODE) (by simp [toutNames]), ← htout, ← hstart, ← hnow] at hn
    obtain ⟨hq, hoff, hper, hnext, hpast, hlost⟩ := hn
    refine ⟨hq, hoff, hper, hnext, fun hon hm hlt hsome => ?_, hlost⟩
    obtain ⟨hrise, hmissed⟩ := hpast hon hm hlt hsome
    exact ⟨hrise, by rw [State.bit, hmissed]; rfl⟩

/-! The value of the clock. -/

/-- The nanoseconds of a clock told in its units. -/
theorem clock_split (x : Nat) : x / (1000000000 * 2 ^ 29) * 1000000000 + x % (1000000000 * 2 ^ 29) / 2 ^ 29 = x / 2 ^ 29 := by omega

/-- A signed step whose result the clock holds. -/
theorem stepValue_of_fits {sec nsf : Nat} {d : Int} (h : 0 ≤ ((sec * 1000000000 + nsf / 2 ^ 29 : Nat) : Int) + d)
    (hmax : ((sec * 1000000000 + nsf / 2 ^ 29 : Nat) : Int) + d < 2 ^ 48 * 10 ^ 9) :
    let m := (((sec * (1000000000 * 2 ^ 29) + nsf : Int) + d * 2 ^ 29) % (2 ^ 48 * (1000000000 * 2 ^ 29) : Int)).toNat
    ((m / 2 ^ 29 : Nat) : Int) = ((sec * 1000000000 + nsf / 2 ^ 29 : Nat) : Int) + d ∧ m % 2 ^ 29 = nsf % 2 ^ 29 := by
  omega

/-- The PTP cycles up to the FAB cycle in which PTP cycle `p` has come. -/
theorem ptpCycles_upTo {tick p : Nat} (h : tick * 5 / 8 < p) : ptpCycles tick ((p * 8 + 4) / 5 - tick) = p - tick * 5 / 8 := by
  unfold ptpCycles
  omega

/-- The launch comparisons change nothing on ports that have nothing to launch. -/
theorem State.compareAgain_idle {t : State} {p : Fin 4}
    (h : t.getF .HP_STAT_ENST p ≠ 1 ∨ (t.tqEmpty p 0 = true ∧ (t.hp[p]).dups = [])) : t.compareAgain p = t := by
  unfold State.compareAgain
  split_ifs with hon
  · obtain ⟨hempty, hdups⟩ := h.resolve_left (not_not.2 hon)
    have hsame : ({ t.hp[p] with dups := [] } : HpSt) = t.hp[p] := by rw [← hdups]
    have hhead : t.headAgain p = t := by simp [State.headAgain, hempty]
    have hset : t.hp.set p t.hp[p] = t.hp := Vector.set_getElem_self _
    rw [hhead, State.dupCheck, hdups]
    change ({ t with hp := t.hp.set p ({ t.hp[p] with dups := [] } : HpSt) } : State) = t
    rw [hsame, hset]
  · rfl

/-- A state whose host ports are as before but for other fields. -/
theorem State.compareAll_idle {s t : State} (hidle : ∀ p : Fin 4, s.getF .HP_STAT_ENST p ≠ 1 ∨ (s.tqEmpty p 0 = true ∧ (s.hp[p]).dups = []))
    (hhp : t.hp = s.hp) (hregs : ∀ f ∈ [Fld.HP_STAT_ENST, .HP_TQ0IDX_TAIL, .HP_TQ0IDX_HEAD], ∀ i, t.getF f i = s.getF f i) :
    forIdx (n := 4) (fun p t => t.compareAgain p) t = t := by
  refine forIdx_id fun p => State.compareAgain_idle ?_
  have htq : t.tqEmpty p 0 = s.tqEmpty p 0 := by
    simp only [State.tqEmpty, tqFlds, if_true, hregs .HP_TQ0IDX_TAIL (by simp), hregs .HP_TQ0IDX_HEAD (by simp)]
  rw [hregs _ (by simp), htq, hhp]
  exact hidle p

theorem Stepped.idle {s t : State} {more : List (Fld × Nat)} (h : Stepped more s t) (hmore : ∀ e ∈ more, e.1 ∉ [Fld.HP_STAT_ENST, .HP_TQ0IDX_TAIL, .HP_TQ0IDX_HEAD])
    (hidle : ∀ p : Fin 4, s.getF .HP_STAT_ENST p ≠ 1 ∨ (s.tqEmpty p 0 = true ∧ (s.hp[p]).dups = [])) :
    forIdx (n := 4) (fun p t => t.compareAgain p) t = t := by
  obtain ⟨hframe, -, hregs, -⟩ := h
  refine State.compareAll_idle hidle (by rw [hframe]) fun f hf i => hregs.getF_eq (fun e he heq => ?_) i
  subst heq
  simp only [List.mem_append, List.mem_cons, List.mem_map] at he
  rcases he with (rfl | he) | ⟨_, -, rfl⟩
  · simp at hf
  · exact hmore e he hf
  · simp at hf

/-- The units that are added take the clock to `d` nanoseconds without a wrap. -/
theorem clock_reaches {c : ClockSt} {d x inc r : Nat} (hlate : c.sec * (1000000000 * 2 ^ 29) + c.nsf < d * 2 ^ 29)
    (hx : x + r = d * 2 ^ 29 - (c.sec * (1000000000 * 2 ^ 29) + c.nsf) + inc - 1) (hr : r < inc) (hinc : inc < 2 ^ 32)
    (hd : d + 8 ≤ 2 ^ 48 * 10 ^ 9) : d ≤ (c.cycle x).sec * 1000000000 + (c.cycle x).ns := by
  unfold ClockSt.ns ClockSt.cycle secUnits
  dsimp only
  omega

theorem State.passTime_tout (s : State) (d : Nat) : (s.passTime d).tout = s.tout := by
  rw [State.passTime]
  by_cases h : s.timeNs < d ∧ s.clockRuns = true ∧ s.getF .TIME_INC_INC 0 ≠ 0
  · rw [if_pos h, State.passTo_frame]
  · rw [if_neg h]

theorem late_units {sec nsf d : Nat} (h : sec * 1000000000 + nsf / 2 ^ 29 < d) : sec * (1000000000 * 2 ^ 29) + nsf < d * 2 ^ 29 := by
  have hd : (sec * 1000000000 + nsf / 2 ^ 29 + 1) * 2 ^ 29 ≤ d * 2 ^ 29 := Nat.mul_le_mul_right _ h
  have hn := Nat.lt_mul_div_succ nsf (Nat.two_pow_pos 29)
  rw [Nat.mul_comm] at hn
  rw [← Nat.mul_assoc]
  generalize (2 : Nat) ^ 29 = U at *
  rw [Nat.add_assoc, Nat.add_mul] at hd
  exact lt_of_lt_of_le (Nat.add_lt_add_left hn _) hd

/-- The PTP cycles that take the clock over `u` units. -/
theorem ceil_cycles {u inc : Nat} (hinc : 0 < inc) (hu : 0 < u) :
    0 < (u + inc - 1) / inc ∧ ∃ r, r < inc ∧ (u + inc - 1) / inc * inc + r = u + inc - 1 := by
  refine ⟨Nat.div_pos (by omega) hinc, _, Nat.mod_lt (u + inc - 1) hinc, ?_⟩
  rw [Nat.mul_comm]
  exact Nat.div_add_mod _ _

/-- Time that passes till the clock shows `d` nanoseconds. -/
theorem State.passTime_reaches {s : State} {d : Nat} (hrun : s.clockRuns = true)
    (hinc : 0 < s.getF .TIME_INC_INC 0) (hinc' : s.getF .TIME_INC_INC 0 < 2 ^ 32) (hd : d + 8 ≤ 2 ^ 48 * 10 ^ 9) : d ≤ (s.passTime d).timeNs := by
  rw [State.passTime]
  by_cases h : s.timeNs < d ∧ s.clockRuns = true ∧ s.getF .TIME_INC_INC 0 ≠ 0
  · rw [if_pos h]
    obtain ⟨hns, -, -⟩ := h
    rw [State.timeNs, ClockSt.ns] at hns
    have hlate := late_units hns
    obtain ⟨hk, r, hr, hceil⟩ := ceil_cycles hinc (Nat.sub_pos_of_lt hlate)
    have hptp : ∀ k, 0 < k → ptpCycles s.tick (((s.tick * 5 / 8 + k) * 8 + 4) / 5 - s.tick) = k := fun k hk => by
      rw [ptpCycles_upTo (by omega), Nat.add_sub_cancel_left]
    rw [State.timeNs, State.passTo_clock, if_pos hrun]
    dsimp only [secUnits]
    rw [hptp _ hk]
    exact clock_reaches hlate hceil hr hinc' hd
  · rw [if_neg h]
    exact not_lt.1 fun hlt => h ⟨hlt, hrun, by omega⟩

/-- The value that a STEP gives the clock. -/
theorem timeStep_value {s : State} (hbus : s.hostBus = true)
    (hidle : ∀ p : Fin 4, s.getF .HP_STAT_ENST p ≠ 1 ∨ (s.tqEmpty p 0 = true ∧ (s.hp[p]).dups = []))
    (hlo : 0 ≤ (s.timeNs : Int) + (BitVec.ofNat 32 (s.getF .TIME_STEPNS_STEPNS 0)).toInt)
    (hhi : (s.timeNs : Int) + (BitVec.ofNat 32 (s.getF .TIME_STEPNS_STEPNS 0)).toInt < 2 ^ 48 * 10 ^ 9) :
    Answers .timeStep s (fun t => (t.timeNs : Int) = s.timeNs + (BitVec.ofNat 32 (s.getF .TIME_STEPNS_STEPNS 0)).toInt ∧
      t.clock.nsf % 2 ^ 29 = s.clock.nsf % 2 ^ 29 ∧ Stepped [] s t) := by
  let m := (((s.clock.sec * secUnits + s.clock.nsf : Int) + (BitVec.ofNat 32 (s.getF .TIME_STEPNS_STEPNS 0)).toInt * 2 ^ 29) % (2 ^ 48 * secUnits : Int)).toNat
  let x : State := { s with clock := { sec := m / secUnits, nsf := m % secUnits } }
  have hstep : Stepped [] s x.stepped := State.stepped_spec rfl (fun _ _ _ => rfl) (List.forall_mem_nil _)
  have hexec : exec .timeStep s = .next x.stepped := by
    simp only [exec_timeStep, execTimeStep, hbus, if_true, State.timeStepAll, State.timeStep]
    exact congrArg Host.Outcome.next (Stepped.idle hstep (List.forall_mem_nil _) hidle)
  have hclock : x.stepped.clock = { sec := m / secUnits, nsf := m % secUnits } := by
    obtain ⟨⟨hframe, -⟩, -⟩ := x.stepped_outputs
    rw [hframe]
    rfl
  rw [State.timeNs, ClockSt.ns] at hlo hhi
  have hvalue := (stepValue_of_fits hlo hhi).1
  have hfrac := (stepValue_of_fits hlo hhi).2
  refine ⟨_, hexec, ?_, ?_, hstep⟩
  · rw [State.timeNs, ClockSt.ns, State.timeNs, ClockSt.ns, hclock]
    exact (congrArg Int.ofNat (clock_split m)).trans hvalue
  · rw [hclock]
    exact (Nat.mod_mod_of_dvd m (Dvd.intro_left 1000000000 rfl)).trans hfrac

/-- The value that a SET gives the clock. -/
theorem timeSet_value {s : State} (hbus : s.hostBus = true) (hns : s.getF .TIME_WNS_NS 0 < 1000000000)
    (hidle : ∀ p : Fin 4, s.getF .HP_STAT_ENST p ≠ 1 ∨ (s.tqEmpty p 0 = true ∧ (s.hp[p]).dups = [])) :
    Answers .timeSet s (fun t => Stepped [(.TIME_STAT_VALID, 0)] s t ∧
      t.clock = ⟨s.getF .TIME_WSECH_SECH 0 * 2 ^ 32 + s.getF .TIME_WSECL_SECL 0, s.getF .TIME_WNS_NS 0 * 2 ^ 29⟩ ∧ t.bit .TIME_STAT_VALID 0 = true) := by
  let x := ({ s with clock := { sec := s.getF .TIME_WSECH_SECH 0 * 2 ^ 32 + s.getF .TIME_WSECL_SECL 0, nsf := s.getF .TIME_WNS_NS 0 * 2 ^ 29 } } : State).setF .TIME_STAT_VALID 0 1
  have hstep : Stepped [(.TIME_STAT_VALID, 0)] s x.stepped :=
    State.stepped_spec rfl (RegsBut.setF (fun _ _ _ => rfl) 1 (by simp)) (by simp [toutNames])
  have hexec : exec .timeSet s = .next x.stepped := by
    simp only [exec_timeSet, execTimeSet, hbus, if_true, State.timeSetAll, State.timeSet]
    rw [if_neg (not_le.2 hns), if_neg (not_le.2 hns)]
    exact congrArg Host.Outcome.next (Stepped.idle hstep (by simp) hidle)
  obtain ⟨⟨hframe, hbut⟩, -⟩ := x.stepped_outputs
  refine ⟨_, hexec, hstep, ?_, ?_⟩
  · rw [hframe]
    rfl
  · have hvalid : x.stepped.getF .TIME_STAT_VALID 0 = 1 := by
      rw [ToutFrame.getF ⟨hframe, hbut⟩ (by simp), State.getF_setF_ne _ _ _ _ (by simp)]
      exact State.getF_setF_same _ .TIME_STAT_VALID 0 1
    rw [State.bit, hvalid]
    rfl

/-- An output that is enabled with a width and a period that it can keep. -/
theorem toutEnable_schedules {n : Fin 8} {s : State} (hbus : s.hostBus = true) (hoff : s.bit .TOUT_CTRL_EN n = false)
    (hwid : 8 ≤ s.getF .TOUT_WID_WID n) (hper : s.getF .TOUT_WID_WID n + 8 ≤ s.getF .TOUT_PER_PER n) :
    Answers (.toutEnable n) s (fun t =>
      t.bit .TOUT_CTRL_EN n = true ∧ t.getF .TOUT_CTRL_ENST n = 1 ∧ t = { s with regs := t.regs, tout := t.tout } ∧
      RegsBut s t [(.TOUT_CTRL_EN, n), (.TOUT_CTRL_ENST, n), (.TOUT_CTRL_MISSED, n)] ∧
      (s.bit .TOUT_CTRL_MODE n = false → s.toutStart n < s.timeNs → t.bit .TOUT_CTRL_MISSED n = true ∧ (t.tout[n]).rise = none) ∧
      (s.bit .TOUT_CTRL_MODE n = false → s.timeNs ≤ s.toutStart n → (t.tout[n]).rise = some (s.toutStart n)) ∧
      (s.bit .TOUT_CTRL_MODE n = true → ∃ k, (t.tout[n]).rise = some (s.toutStart n + k * s.getF .TOUT_PER_PER n) ∧
        s.timeNs ≤ s.toutStart n + k * s.getF .TOUT_PER_PER n ∧
        (k = 0 ∨ s.toutStart n + (k - 1) * s.getF .TOUT_PER_PER n < s.timeNs))) := by
  let x := (s.setF .TOUT_CTRL_EN n 1).setF .TOUT_CTRL_ENST n enstOn
  have hexec : exec (.toutEnable n) s = .next (x.toutSchedule n) := by
    simp only [exec_toutEnable, execToutEnable, hbus, if_true, State.toutEnable, hoff]
    rw [if_neg (by simp), if_neg (by omega)]
  have hx {f : Fld} (hf : f ≠ .TOUT_CTRL_EN ∧ f ≠ .TOUT_CTRL_ENST) (i : Nat) : x.getF f i = s.getF f i :=
    (State.getF_setF_ne _ _ _ _ hf.2).trans (s.getF_setF_ne _ _ _ hf.1)
  have hstart : x.toutStart n = s.toutStart n := by simp only [State.toutStart, hx (f := .TOUT_SSEC_SSEC) (by simp), hx (f := .TOUT_SNS_SNS) (by simp)]; rfl
  obtain ⟨hf, -, hq, hper', hpast, hnext⟩ := x.toutSchedule_spec n
  have hmode : x.bit .TOUT_CTRL_MODE n = s.bit .TOUT_CTRL_MODE n := by rw [State.bit, hx (by simp), State.bit]
  rw [hmode, hstart] at hper' hpast hnext
  rw [hx (by simp)] at hper'
  refine ⟨_, hexec, ?_, ?_, ?_, ?_, fun hm hlt => ?_, fun hm hle => (hnext hm hle).1, fun hm => ?_⟩
  · rw [State.bit, hf.getF (by simp)]
    exact (State.bit_setF_ne _ _ _ _ (by simp)).trans (s.bit_setF_same .TOUT_CTRL_EN n 1)
  · rw [hf.getF (by simp)]
    exact State.getF_setF_same _ .TOUT_CTRL_ENST n enstOn
  · rw [hf.1]
    rfl
  · exact (((RegsBut.refl s _).setF 1 (by simp)).setF enstOn (by simp)).trans ((x.toutSchedule_regs n).mono (by simp))
  · obtain ⟨hrise, hmissed⟩ := hpast hm hlt
    exact ⟨by rw [State.bit, hmissed]; rfl, hrise⟩
  · obtain ⟨hrise, -⟩ := hper' hm
    obtain ⟨k, hk, hfirst⟩ := nextPeriodic_first (s.toutStart n) (s.getF .TOUT_PER_PER n) s.timeNs (by omega)
    exact ⟨k, hrise.trans (congrArg some hk), hfirst⟩

/-- Output `n` in the pulse that rises at `d`, with time as in `u`. -/
def State.pulse (s u : State) (n : Fin 8) (d : Nat) : ToutSt :=
  { active := true, rise := if s.bit .TOUT_CTRL_MODE n then some (d + s.getF .TOUT_PER_PER n) else none,
    fall := u.tick + (s.getF .TOUT_WID_WID n * 2 + 4) / 5 }

theorem toutRise_cases {n : Fin 8} {s : State} {d : Nat} (hd : (s.tout[n]).rise = some d) : exec (.toutRise n) s =
    .next (if (s.passTime d).timeNs < d || !s.clockRuns then s else
      { s.passTime d with tout := (s.passTime d).tout.set n (s.pulse (s.passTime d) n d) }) := by
  rw [exec_toutRise, execToutRise, hd]
  rfl

/-- A pulse that falls due. -/
theorem toutRise_pulse {n : Fin 8} {s : State} {d : Nat} (hd : (s.tout[n]).rise = some d) (hdue : d ≤ (s.passTime d).timeNs)
    (hrun : s.clockRuns = true) : Answers (.toutRise n) s (fun t => t = { s.passTime d with tout := t.tout } ∧
      t.tout[n] = { active := true, rise := if s.bit .TOUT_CTRL_MODE n then some (d + s.getF .TOUT_PER_PER n) else none,
                    fall := (s.passTime d).tick + (s.getF .TOUT_WID_WID n * 2 + 4) / 5 } ∧ ∀ k : Fin 8, k ≠ n → t.tout[k] = s.tout[k]) := by
  have hnow : ¬(decide ((s.passTime d).timeNs < d) || !s.clockRuns) = true := by
    rw [hrun, Bool.not_true, Bool.or_false, decide_eq_true_iff]
    exact not_lt.2 hdue
  refine ⟨_, (toutRise_cases hd).trans (by rw [if_neg hnow]), rfl, vector_set_same _ _, fun k hk => (vector_set_ne _ _ hk).trans ?_⟩
  rw [s.passTime_tout]

/-- Settles O14: SET and STEP by what a step leaves of each output, the pulses by the branches of their commands. -/
theorem stationTimeAndOutputs : Obligations.StationTimeAndOutputs := by
  intro r n s ns step start per idle one
  refine ⟨fun hbus hns => ?_, fun hbus hns hidle => ?_, fun hbus hidle hnsf hlo hhi => ?_, fun hbus => ?_, fun hbus hoff hbad => ?_,
    fun hbus hoff hwid hper => ?_, fun d hd => ⟨fun hnot => ?_, fun hdue hrun => ?_⟩, fun d hnsf hrun hinc hinc' hd => ?_, fun hrun hact => ?_, fun hnot => ?_⟩
  · refine SetsOn.of_setAll ?_ (writtenKeys_nodup (by simp)) (by simp) rfl
    simp only [exec_timeSet, execTimeSet, hbus, if_true, State.timeSetAll, State.timeSet]
    rw [if_pos hns, if_pos hns]
    rfl
  · exact timeSet_value hbus hns hidle
  · exact timeStep_value hbus hidle hlo hhi
  · exact Answers.of_guard rfl hbus ⟨rfl, vector_set_same _ _, fun k hk => vector_set_ne _ _ hk⟩
  · refine SetsOn.of_setAll ?_ (writtenKeys_nodup (by simp)) (by simp) rfl
    simp only [exec_toutEnable, execToutEnable, hbus, if_true, State.toutEnable, hoff]
    rw [if_neg (by simp), if_pos hbad]
    rfl
  · exact toutEnable_schedules hbus hoff hwid hper
  · rw [Ignores, toutRise_cases hd, if_pos]
    simpa only [Bool.or_eq_true, decide_eq_true_iff, Bool.not_eq_true'] using hnot
  · exact toutRise_pulse hd hdue hrun
  · exact State.passTime_reaches hrun hinc hinc' hd
  · refine Answers.of_guard rfl (by rw [hact, hrun]; rfl) ⟨⟨(vector_set_same _ _).trans ?_, fun k hk => (vector_set_ne _ _ hk).trans ?_⟩, rfl⟩
    · rw [s.passTo_frame]
    · rw [s.passTo_frame]
  · refine Ignores.of_guard rfl ?_
    simp only [Bool.and_eq_false_iff]
    exact hnot

end Sys2Proof.Machine
end

section
/-! Locks, and the enabling and disabling of units (R25, R37 to R44, R151, R510). -/
namespace Sys2Proof.Machine

-- The proofs one after another: all at once they would need more threads, and their stacks, than the check's memory holds.
set_option Elab.async false

/-! Locks. -/

theorem lockFlds_ne (u : LockUnit) : (lockFlds u).1 ≠ (lockFlds u).2.1 := by cases u <;> simp [lockFlds]

theorem lock_cases (u : LockUnit) (withUnlock : Bool) {s : State} (h : s.lockLive u = true) :
    exec (.lock u withUnlock) s = .next (s.writeLock u true withUnlock) := by
  rw [exec_lock, execLock, if_pos h]

theorem unlock_cases (u : LockUnit) {s : State} (h : s.lockLive u = true) : exec (.unlock u) s = .next (s.writeLock u false true) := by
  rw [exec_unlock, execUnlock, if_pos h]

theorem locks : Claims.Locks := by
  intro u s lock ulerr hlive
  refine ⟨?_, fun hs4 => ?_, fun hs4 => ?_, fun hs4 => ?_, fun hs4 => ?_⟩
  · exact SetsOn.of_setAll (lock_cases u false hlive) (writtenKeys_nodup (by simp)) (by simp) rfl
  · refine ⟨_, lock_cases u true hlive, ?_⟩
    have hwrite : s.writeLock u true true = (s.setF lock 0 0).setF lock 0 1 := by simp [State.writeLock, hs4, lock]
    rw [hwrite]
    refine ⟨rfl, ?_, ?_⟩
    · simp [Nat.mod_eq_of_lt (Fld.one_lt _)]
    · exact ((RegsBut.refl s _).setF 0 (by simp)).setF 1 (by simp)
  · refine ⟨_, lock_cases u true hlive, ?_⟩
    have hwrite : s.writeLock u true true = (s.setF ulerr 0 1).setF lock 0 1 := by simp [State.writeLock, hs4, lock, ulerr]
    rw [hwrite]
    refine ⟨rfl, ?_, ?_⟩
    · simp [Nat.mod_eq_of_lt (Fld.one_lt _), State.getF_setF_ne _ _ _ _ (lockFlds_ne u).symm, lock, ulerr]
    · exact ((RegsBut.refl s _).setF 1 (by simp)).setF 1 (by simp)
  · refine SetsOn.of_setAll ((unlock_cases u hlive).trans ?_) (writtenKeys_nodup (by simp)) (by simp) rfl
    simp [State.writeLock, hs4]
    rfl
  · refine SetsOn.of_setAll ((unlock_cases u hlive).trans ?_) (writtenKeys_nodup (by simp)) (by simp) rfl
    simp [State.writeLock, hs4]
    rfl

/-! Enables. -/

section
variable {u : UnitId} {s : State}

/-- EN = 1 written to a unit whose EN is 0 and not locked. -/
theorem unitEnable_cases (hbus : s.unitBus u = true) (hen : s.enBit u = false) (hlock : s.enLocked u = none) :
    exec (.unitEnable u) s = .next (s.enableUnit u) := by
  rw [exec_unitEnable, execUnitEnable, if_pos hbus, State.writeEn, hen, hlock]
  rfl

/-- EN = 0 written to a unit whose EN is 1 and not locked. -/
theorem unitDisable_cases (hbus : s.unitBus u = true) (hen : s.enBit u = true) (hlock : s.enLocked u = none) :
    exec (.unitDisable u) s = .next (s.disableUnit u) := by
  rw [exec_unitDisable, execUnitDisable, if_pos hbus, State.writeEn, hen, hlock]
  rfl

/-- The value that EN already holds. -/
theorem unitEnable_held (hen : s.enBit u = true) : Ignores (.unitEnable u) s := by
  rw [Ignores, exec_unitEnable, execUnitEnable, State.writeEn, hen]
  simp

theorem unitDisable_held (hen : s.enBit u = false) : Ignores (.unitDisable u) s := by
  rw [Ignores, exec_unitDisable, execUnitDisable, State.writeEn, hen]
  simp

/-- A unit reached over the bus while the FAB clock runs. -/
theorem State.unitBus_of_fab (hfab : s.fabBus = true) (hlive : s.unitLive u = true) : s.unitBus u = true := by
  obtain ⟨hbus, hrun⟩ := (Bool.and_eq_true _ _).mp hfab
  cases u <;> simp [State.unitBus, hlive, hbus, hrun]

/-- The end of the work of a DRAINING unit. -/
theorem drainComplete_cases (hlive : s.unitLive u = true) (hrun : s.unitRuns u = true) (henst : s.enst u = enstDraining) :
    exec (.drainComplete u) s = .next (s.drainDone u) := by
  simp [exec_drainComplete, execDrainComplete, hlive, hrun, henst]

end

/-! The modulation unit's arms. -/

theorem State.modArm_same (s : State) (a : Fin 6) (f : ArmSt → ArmSt) : (s.modArm a f).arms[a] = f s.arms[a] := vector_set_same _ _

theorem State.modArm_ne (s : State) {a b : Fin 6} (f : ArmSt → ArmSt) (h : b ≠ a) : (s.modArm a f).arms[b] = s.arms[b] := vector_set_ne _ _ h

/-- A step for each arm that changes nothing but that arm. -/
theorem eachArm {s : State} (g : Fin 6 → ArmSt → ArmSt) {f : Fin 6 → State → State}
    (hf : ∀ a t, t.regs = s.regs → f a t = t.modArm a (g a)) :
    forIdx f s = { s with regs := (forIdx f s).regs, arms := (forIdx f s).arms } ∧ (forIdx f s).regs = s.regs ∧
      ∀ a, (forIdx f s).arms[a] = g a s.arms[a] := by
  have hall := forIdx_each (f := f) (s := s) (fun a t => t.arms[a]) (fun t => t = { s with regs := t.regs, arms := t.arms } ∧ t.regs = s.regs)
    (fun a x => x = g a s.arms[a]) ⟨rfl, rfl⟩ fun t a ht ha => by
      have hstep := hf a t ht.2
      rw [hstep]
      refine ⟨⟨?_, ht.2⟩, ?_, fun b hb => t.modArm_ne _ hb⟩
      · rw [ht.1]
        rfl
      · rw [State.modArm_same, ha]
  exact ⟨hall.1.1, hall.1.2, hall.2⟩

/-- What enabling the modulation unit writes. -/
theorem State.modEnable_spec (s : State) : let t := s.modEnable
    t = { s with regs := t.regs, arms := t.arms } ∧ t.regs = ((s.setF .MOD_CTRL_EN 0 1).setF .MOD_STAT_ENST 0 enstOn).regs ∧
    ∀ a : Fin 6, t.arms[a] = { s.arms[a] with kept := if s.getF .ARM_STAT_ENST a = 2 then (s.arms[a]).kept else none } := by
  let x := (s.setF .MOD_CTRL_EN 0 1).setF .MOD_STAT_ENST 0 enstOn
  let g := fun (a : Fin 6) (q : ArmSt) => { q with kept := if s.getF .ARM_STAT_ENST a = 2 then q.kept else none }
  have hstep : ∀ (a : Fin 6) (t : State), t.regs = x.regs → (if s.getF .ARM_STAT_ENST a == enstDraining then t else t.dropSettings a) =
      t.modArm a (g a) := by
    intro a t _
    by_cases h : s.getF .ARM_STAT_ENST a = 2
    · have hid : t.arms.set a t.arms[a] = t.arms := Vector.set_getElem_self _
      simp only [h, g, enstDraining, beq_self_eq_true, if_true, State.modArm, hid]
    · simp [h, g, enstDraining, State.dropSettings]
  obtain ⟨hframe, hregs, harms⟩ := eachArm (s := x) g hstep
  have heq : s.modEnable = forIdx (n := 6) (fun a t => if s.getF .ARM_STAT_ENST a == enstDraining then t else t.dropSettings a) x := rfl
  rw [heq]
  exact ⟨hframe, hregs, harms⟩

/-- What disabling the modulation unit outside S4 writes. -/
theorem State.modDisable_spec {s : State} (hs4 : s.inS4 = false) : let t := s.modDisable
    t = { s with regs := t.regs, arms := t.arms } ∧ t.regs = ((s.setF .MOD_CTRL_EN 0 0).setF .MOD_STAT_ENST 0 (enstAfterOff s.modBusy)).regs ∧
    ∀ a : Fin 6, t.arms[a] = { s.arms[a] with queued := none, kept := some ((s.arms[a]).kept.getD (s.modNow a)) } := by
  let x := (s.setF .MOD_CTRL_EN 0 0).setF .MOD_STAT_ENST 0 (enstAfterOff s.modBusy)
  let g := fun (a : Fin 6) (q : ArmSt) => { q with queued := none, kept := some (q.kept.getD (s.modNow a)) }
  have hx {f : Fld} (hf : f ≠ .MOD_CTRL_EN ∧ f ≠ .MOD_STAT_ENST) (i : Nat) : x.getF f i = s.getF f i :=
    (State.getF_setF_ne _ _ _ _ hf.2).trans (s.getF_setF_ne _ _ _ hf.1)
  have hstep : ∀ (a : Fin 6) (t : State), t.regs = x.regs → (t.keepSettings a).modArm a (fun y => { y with queued := none }) = t.modArm a (g a) := by
    intro a t ht
    have hnow : t.modNow a = s.modNow a := by
      have hget (f : Fld) (i : Nat) : t.getF f i = x.getF f i := by rw [State.getF, ht, State.getF]
      simp only [State.modNow, hget]
      rw [hx (by simp), hx (by simp), hx (by simp), hx (by simp)]
    rw [State.keepSettings, hnow]
    simp [State.modArm, g]
  obtain ⟨hframe, hregs, harms⟩ := eachArm (s := x) g hstep
  have heq : s.modDisable = forIdx (n := 6) (fun a t => (t.keepSettings a).modArm a (fun y => { y with queued := none })) x := by
    rw [State.modDisable, if_neg (by simp [hs4])]
  rw [heq]
  exact ⟨hframe, hregs, harms⟩

theorem State.modCe_setF (s : State) (n : Fin 24) (g : Eng → Eng) (f : Fld) (i v : Nat) :
    (s.setF f i v).modCe n g = (s.modCe n g).setF f i v := rfl

theorem unitEnables : Claims.UnitEnables := by
  intro s hfab
  have hbus {u : UnitId} (h : s.unitLive u = true) : s.unitBus u = true := State.unitBus_of_fab hfab h
  refine ⟨fun u _ => ⟨unitEnable_held, unitDisable_held⟩, fun hlive hen => ?_, fun hlive hen hs4 => ?_, fun hlive hen hs4 => ?_,
    fun n hlive hen => ?_, fun n hlive hen hidle => ?_, fun n hlive hen hrun hcom hdl => ?_, fun m hlive hen => ?_, fun x hlive hen => ?_,
    fun hlive hen => ?_, fun hlive hen hs4 henst hrow hatu => ?_, fun hlive henst hrow hswap => ?_, fun p hlive hrun henst hlast => ?_,
    fun hlive henst hwait => ?_⟩
  · obtain ⟨hframe, hregs, harms⟩ := s.modEnable_spec
    refine ⟨_, unitEnable_cases (hbus hlive) hen rfl, hframe, ?_, ?_, fun f i hi => ?_, harms⟩
    all_goals
      simp only [State.bit, State.getF, State.enableUnit, hregs]
    · exact (State.bit_setF_ne _ _ _ _ (by simp)).trans (s.bit_setF_same .MOD_CTRL_EN 0 1)
    · exact State.getF_setF_same _ .MOD_STAT_ENST 0 enstOn
    · exact (((RegsBut.refl s _).setF 1 (by simp)).setF enstOn (by simp)) f i hi
  · exact SetsOn.of_setAll ((unitDisable_cases (hbus hlive) hen rfl).trans (by simp [State.disableUnit, State.modDisable, hs4]; rfl))
      (writtenKeys_nodup (by simp)) (by simp) rfl
  · obtain ⟨hframe, hregs, harms⟩ := State.modDisable_spec hs4
    refine ⟨_, unitDisable_cases (hbus hlive) hen rfl, hframe, ?_, ?_, fun f i hi => ?_, harms⟩
    all_goals
      simp only [State.bit, State.getF, State.disableUnit, hregs]
    · exact (State.bit_setF_ne _ _ _ _ (by simp)).trans (s.bit_setF_same .MOD_CTRL_EN 0 0)
    · refine (State.getF_setF_same _ .MOD_STAT_ENST 0 _).trans ?_
      unfold enstAfterOff
      split <;> rfl
    · exact (((RegsBut.refl s _).setF 0 (by simp)).setF _ (by simp)) f i hi
  · refine SetsOn.of_setAll (s' := s.modCe n (fun e => { e with missTrip := none })) ((unitEnable_cases (hbus hlive) hen rfl).trans ?_)
      (writtenKeys_nodup (by simp)) (by simp) rfl
    rw [State.enableUnit, State.ceEnable, State.modCe_setF, State.modCe_setF]
    rfl
  · let x := (s.setF .CE_CTRL_EN n 0).setF .CE_STAT_ENST n enstOff
    have hexec : exec (.unitDisable (.ce n)) s = .next x.actOffDone := by
      rw [unitDisable_cases (hbus hlive) hen rfl, State.disableUnit, State.ceDisable, if_neg (by simp [hidle])]
    have hx : EngineAlone n [(.CE_CTRL_EN, n), (.CE_STAT_ENST, n)] s x := ((EngineAlone.refl n _ s).setF _ (by simp)).setF _ (by simp)
    have henst : x.getF .CE_STAT_ENST n = 0 := State.getF_setF_same _ .CE_STAT_ENST n 0
    refine ⟨_, hexec, hx.offEnds (by simp [actNames, swapNames]) (by simp) henst ⟨rfl, rfl, rfl, rfl⟩, ?_, ?_, x.actOffDone_keeps n⟩
    · rw [State.bit, State.getF_actOffDone _ (by simp [swapNames])]
      exact (State.bit_setF_ne _ _ _ _ (by simp)).trans (s.bit_setF_same .CE_CTRL_EN n 0)
    · rw [State.getF_actOffDone _ (by simp [swapNames]), henst]
  · refine SetsOn.of_setAll (s' := s.modCe n (fun e => { e with missTrip := some (s.bit .CE_CTRL_MISSTRIP n) }))
      ((unitDisable_cases (hbus hlive) hen rfl).trans ?_) (writtenKeys_nodup (by simp)) ?_ rfl
    · rw [State.disableUnit, State.ceDisable, if_pos hrun, if_neg (by rw [hcom, hdl]; simp), State.modCe_setF, State.modCe_setF]
      rfl
    · simp
      decide
  · exact SetsOn.of_setAll (unitEnable_cases (hbus hlive) hen rfl) (writtenKeys_nodup (by simp)) (by simp) rfl
  · exact SetsOn.of_setAll (unitEnable_cases (hbus hlive) hen rfl) (writtenKeys_nodup (by simp)) (by simp) rfl
  · exact ⟨_, unitEnable_cases (hbus hlive) hen rfl, rfl⟩
  · refine SetsOn.of_setAll ((unitDisable_cases (hbus hlive) hen rfl).trans ?_) (writtenKeys_nodup (by simp)) ?_ rfl
    · rw [State.disableUnit, State.fretDisable, if_neg (by simp [hs4]), if_neg (by simp [henst, enstOff]), if_pos (by simp [hrow, hatu])]
      rfl
    · simp
      decide
  · obtain ⟨-, hrun⟩ := (Bool.and_eq_true _ _).mp hfab
    refine SetsOn.of_setAll ((drainComplete_cases hlive hrun henst).trans ?_) (writtenKeys_nodup (by simp)) (by simp) rfl
    have hpend : ¬(({ s with fretd := { s.fretd with row := none } } : State).setF .FRET_STAT_ENST 0 enstOff).bit .FRET_STAT_SWAPPEND 0 = true := by
      rw [State.bit_setF_ne _ _ _ _ (by simp)]
      exact Bool.eq_false_iff.1 hswap
    rw [State.drainDone, if_pos hrow, State.fretReachOff, State.fretOffCheck, if_neg hpend]
    rfl
  · refine SetsOn.of_setAll ((drainComplete_cases hlive hrun henst).trans ?_) (writtenKeys_nodup (by simp)) (by simp) rfl
    have hfree : ¬(s.hpUp p && (s.hp[p]).last.isSome) = true := by
      rcases hlast with h | h
      · rw [h]
        simp
      · rw [h]
        simp
    rw [State.drainDone, if_neg hfree]
    rfl
  · obtain ⟨hrun, -⟩ := (Bool.and_eq_true _ _).mp hfab
    refine SetsOn.of_setAll ((drainComplete_cases hlive hrun henst).trans ?_) (writtenKeys_nodup (by simp)) (by simp) rfl
    rw [State.drainDone, hwait]
    rfl

/-- Settles O46: each write by the branches of its unit, the arms of the modulation unit one by one. -/
theorem locksAndUnitEnables : Obligations.LocksAndUnitEnables := ⟨locks, unitEnables⟩

end Sys2Proof.Machine
end

section
/-! SUPPORT. The source latches of the trip fabric: what a write of one latch leaves of each (R268). -/
namespace Sys2Proof.Machine

-- The proofs one after another: all at once they would need more threads, and their stacks, than the check's memory holds.
set_option Elab.async false

/-! One bit of a field. -/

theorem testBit_or_two_pow_ne {x b c : Nat} (h : c ≠ b) : (x ||| 2 ^ b).testBit c = x.testBit c := by
  rw [Nat.testBit_or, Nat.testBit_two_pow_of_ne h.symm, Bool.or_false]

/-- A set bit is part of the number cut to any greater width. -/
theorem two_pow_le_mod {x b c : Nat} (hb : x.testBit b = true) (h : b < c) : 2 ^ b ≤ x % 2 ^ c :=
  Nat.ge_two_pow_of_testBit (by rw [Nat.testBit_mod_two_pow, hb]; simp [h])

/-- A set bit taken away leaves every other bit. -/
theorem testBit_sub_two_pow {x b : Nat} (hb : x.testBit b = true) (c : Nat) : (x - 2 ^ b).testBit c = (x.testBit c && decide (c ≠ b)) := by
  have hle : 2 ^ b ≤ x := Nat.ge_two_pow_of_testBit hb
  rcases Nat.lt_trichotomy c b with h | h | h
  · obtain ⟨k, rfl⟩ : ∃ k, b = c + (k + 1) := ⟨b - c - 1, by omega⟩
    have hsplit : 2 ^ (c + (k + 1)) = 2 ^ c * (2 * 2 ^ k) := by rw [Nat.pow_add, pow_succ' 2 k]
    have hdiv : 2 * 2 ^ k ≤ x / 2 ^ c := by
      rw [Nat.le_div_iff_mul_le (Nat.two_pow_pos c), Nat.mul_comm, ← hsplit]
      exact hle
    rw [Nat.testBit_eq_decide_div_mod_eq, Nat.testBit_eq_decide_div_mod_eq, hsplit, Nat.sub_mul_div]
    simp only [ne_eq, show c ≠ c + (k + 1) by omega, not_false_eq_true, decide_true, Bool.and_true, decide_eq_decide]
    omega
  · subst h
    rw [Nat.testBit_eq_decide_div_mod_eq] at hb
    have hodd := of_decide_eq_true hb
    rw [Nat.testBit_eq_decide_div_mod_eq]
    have hdiv : (x - 2 ^ c) / 2 ^ c = x / 2 ^ c - 1 := by
      have := Nat.sub_mul_div x (2 ^ c) 1
      rwa [Nat.mul_one] at this
    rw [hdiv]
    simp
    omega
  · have hlow := two_pow_le_mod hb h
    have hdiv : (x - 2 ^ b) / 2 ^ c = x / 2 ^ c := by
      have hx := Nat.div_add_mod x (2 ^ c)
      have hlt := Nat.mod_lt x (Nat.two_pow_pos c)
      have hsub : x - 2 ^ b = (x % 2 ^ c - 2 ^ b) + 2 ^ c * (x / 2 ^ c) := by
        generalize 2 ^ c * (x / 2 ^ c) = p at *
        generalize x % 2 ^ c = m at *
        omega
      rw [hsub, Nat.add_mul_div_left _ _ (Nat.two_pow_pos c),
        Nat.div_eq_of_lt (lt_of_le_of_lt (Nat.sub_le _ _) hlt),
        Nat.zero_add]
    rw [Nat.testBit_eq_decide_div_mod_eq, hdiv, ← Nat.testBit_eq_decide_div_mod_eq]
    simp [show c ≠ b by omega]

section
variable (s : State) (f : Fld) (i : Nat) {b c : Nat}

theorem State.testF_orF_ne (h : c < f.width) (hne : c ≠ b) : (s.orF f i b).testF f i c = s.testF f i c := by
  rw [State.testF, State.orF, State.getF_setF_same, Nat.testBit_mod_two_pow, testBit_or_two_pow_ne hne, State.testF]
  simp [h]

theorem State.testF_clrF (h : c < f.width) : (s.clrF f i b).testF f i c = (s.testF f i c && decide (c ≠ b)) := by
  unfold State.clrF
  split_ifs with hb
  · rw [State.testF, State.getF_setF_same, Nat.testBit_mod_two_pow, testBit_sub_two_pow hb, State.testF]
    simp [h]
  · by_cases hc : c = b
    · subst hc
      simp [hb]
    · simp [hc]

end

theorem State.testF_setF_ne (s : State) {f g : Fld} (i j v b : Nat) (h : g ≠ f) : (s.setF f i v).testF g j b = s.testF g j b := by
  rw [State.testF, State.getF_setF_ne _ _ _ _ h, State.testF]

/-! Where the latch of a source stands (Table 9-1). -/

/-- The field of source `i`'s latch. -/
def latchFld (i : Nat) : Fld :=
  if i < 32 then .TRIP_LAT0_CMP else if i < 40 then .TRIP_LAT1_PIN else if i < 64 then .TRIP_LAT1_SW
  else match i with
    | 64 => .TRIP_LAT2_SUP | 65 => .TRIP_LAT2_SAFETY | 66 => .TRIP_LAT2_THERMAL | 67 => .TRIP_LAT2_TWIN | _ => .TRIP_LAT2_CLKLOSS

/-- The bit of source `i`'s latch in its field. -/
def latchBit (i : Nat) : Nat := if i < 32 then i else if i < 40 then i - 32 else if i < 64 then i - 40 else 0

/-- The source whose latch is a bit of a field. -/
def latchSource (f : Fld) (b : Nat) : Nat :=
  match f with
  | .TRIP_LAT0_CMP => b | .TRIP_LAT1_PIN => 32 + b | .TRIP_LAT1_SW => 40 + b
  | .TRIP_LAT2_SUP => 64 | .TRIP_LAT2_SAFETY => 65 | .TRIP_LAT2_THERMAL => 66 | .TRIP_LAT2_TWIN => 67 | _ => 68

theorem latchSource_latch : ∀ i < 69, latchSource (latchFld i) (latchBit i) = i := by decide

theorem latchBit_lt : ∀ i < 69, latchBit i < (latchFld i).width := by decide

/-- A latch of its own field stands there alone. -/
theorem latchSource_own : ∀ i < 69, 64 ≤ i → ∀ b, latchSource (latchFld i) b = i := by
  intro i hi h
  interval_cases i <;> exact fun b => rfl

/-- The sources in the order of their fields. -/
theorem source_cases (i : Nat) {P : Prop} (hcmp : i < 32 → P) (hpin : ¬i < 32 → i < 40 → P) (hsw : ¬i < 32 → ¬i < 40 → i < 64 → P)
    (hfix : ¬i < 64 → P) : P := by
  by_cases h1 : i < 32
  · exact hcmp h1
  · by_cases h2 : i < 40
    · exact hpin h1 h2
    · by_cases h3 : i < 64
      · exact hsw h1 h2 h3
      · exact hfix h3

/-- The latch of source `i` as a bit of its field, or as the field. -/
theorem State.latched_eq (s : State) {i : Nat} (hi : i < 69) :
    s.latched i = if i < 64 then s.testF (latchFld i) 0 (latchBit i) else s.bit (latchFld i) 0 := by
  refine source_cases i (fun h => ?_) (fun h h' => ?_) (fun h h' h'' => ?_) fun h => ?_
  · simp only [State.latched, latchFld, latchBit, h, show i < 64 by omega, if_true]
  · simp only [State.latched, latchFld, latchBit, h, h', show i < 64 by omega, if_true, if_false]
  · simp only [State.latched, latchFld, latchBit, h, h', h'', if_true, if_false]
  · interval_cases i <;> rfl

theorem State.setLatch_eq (s : State) {i : Nat} (hi : i < 69) (v : Bool) : s.setLatch i v =
    if i < 64 then (if v then s.orF (latchFld i) 0 (latchBit i) else s.clrF (latchFld i) 0 (latchBit i))
    else s.setBit (latchFld i) 0 v := by
  refine source_cases i (fun h => ?_) (fun h h' => ?_) (fun h h' h'' => ?_) fun h => ?_
  · simp only [State.setLatch, latchFld, latchBit, h, show i < 64 by omega, if_true]
  · simp only [State.setLatch, latchFld, latchBit, h, h', show i < 64 by omega, if_true, if_false]
  · simp only [State.setLatch, latchFld, latchBit, h, h', h'', if_true, if_false]
  · interval_cases i <;> simp [State.setLatch, latchFld]

theorem State.setLatch_regsBut (s : State) {i : Nat} (hi : i < 69) (v : Bool) :
    s.setLatch i v = { s with regs := (s.setLatch i v).regs } ∧ RegsBut s (s.setLatch i v) [(latchFld i, 0)] := by
  rw [State.setLatch_eq s hi]
  unfold State.clrF
  split_ifs
  · exact ⟨rfl, (RegsBut.refl s _).setF _ (by simp)⟩
  · exact ⟨rfl, (RegsBut.refl s _).setF _ (by simp)⟩
  · exact ⟨rfl, RegsBut.refl s _⟩
  · exact ⟨rfl, (RegsBut.refl s _).setF _ (by simp)⟩

/-- The latch that is written. -/
theorem State.latched_setLatch_same (s : State) {i : Nat} (hi : i < 69) (v : Bool) : (s.setLatch i v).latched i = v := by
  rw [State.latched_eq _ hi, State.setLatch_eq s hi]
  split_ifs with h hv
  · rw [State.testF_orF_same _ _ _ (latchBit_lt i hi), hv]
  · rw [State.testF_clrF _ _ _ (latchBit_lt i hi), Bool.eq_false_iff.2 hv]
    simp
  · rw [State.setBit, State.bit_setF_same, Nat.mod_eq_of_lt (Fld.b2n_lt _ _)]
    cases v <;> rfl

/-- Every other latch. -/
theorem State.latched_setLatch_ne (s : State) {i j : Nat} (hi : i < 69) (hj : j < 69) (hne : j ≠ i) (v : Bool) :
    (s.setLatch i v).latched j = s.latched j := by
  by_cases hf : latchFld j = latchFld i
  · have hsi := latchSource_latch i hi
    have hsj := latchSource_latch j hj
    have hlow : i < 64 ∧ j < 64 := by
      refine ⟨not_le.1 fun h => hne ?_, not_le.1 fun h => hne ?_⟩
      · rw [← hsj, hf, latchSource_own i hi h]
      · rw [← hsi, ← hf, latchSource_own j hj h]
    have hbit : latchBit j ≠ latchBit i := fun e => hne (by rw [← hsj, hf, e, hsi])
    have hw : latchBit j < (latchFld i).width := hf ▸ latchBit_lt j hj
    rw [State.latched_eq _ hj, State.latched_eq _ hj, State.setLatch_eq s hi, if_pos hlow.1, if_pos hlow.2, if_pos hlow.2, hf]
    split_ifs
    · exact s.testF_orF_ne _ _ hw hbit
    · rw [State.testF_clrF _ _ _ hw]
      simp [hbit]
  · have hkeep : (s.setLatch i v).getF (latchFld j) 0 = s.getF (latchFld j) 0 :=
      (s.setLatch_regsBut hi v).2.getF_eq (by simpa using Ne.symm hf) 0
    rw [State.latched_eq _ hj, State.latched_eq _ hj]
    simp only [State.testF, State.bit, hkeep]

/-- The latches turn on the register fields alone. -/
theorem State.latched_congr {s t : State} (h : ∀ i < 69, t.getF (latchFld i) 0 = s.getF (latchFld i) 0) : ∀ i < 69, t.latched i = s.latched i := by
  intro i hi
  rw [State.latched_eq _ hi, State.latched_eq _ hi]
  simp only [State.testF, State.bit, h i hi]

/-- The fields of the latches. -/
def latchNames : List Fld := [.TRIP_LAT0_CMP, .TRIP_LAT1_PIN, .TRIP_LAT1_SW, .TRIP_LAT2_SUP, .TRIP_LAT2_SAFETY, .TRIP_LAT2_THERMAL,
  .TRIP_LAT2_TWIN, .TRIP_LAT2_CLKLOSS]

theorem latchFld_mem : ∀ i < 69, latchFld i ∈ latchNames := by decide

theorem State.latched_setF (s : State) {f : Fld} (i v : Nat) (hf : f ∉ latchNames) : ∀ j < 69, (s.setF f i v).latched j = s.latched j :=
  State.latched_congr fun j hj => s.getF_setF_ne _ _ _ fun e => hf (e ▸ latchFld_mem j hj)

end Sys2Proof.Machine
end

section
/-! The trip inputs: sides, hysteresis, blanking and filter (R259 to R264, R267). -/
namespace Sys2Proof.Machine

-- The proofs one after another: all at once they would need more threads, and their stacks, than the check's memory holds.
set_option Elab.async false

/-! An input's state and its fields. -/

section
variable (s : State) (x : TripIn) (f : TrInSt → TrInSt)

theorem State.trIn_modTrIn_same : (s.modTrIn x f).trIn x = f (s.trIn x) := by
  cases x with
  | cmp n => exact vector_set_same _ _
  | pin n => exact vector_set_same _ _

theorem State.trIn_modTrIn_ne {y : TripIn} (h : y ≠ x) : (s.modTrIn x f).trIn y = s.trIn y := by
  cases x with
  | cmp n =>
    cases y with
    | cmp m => exact vector_set_ne _ _ fun e => h (congrArg TripIn.cmp e)
    | pin m => rfl
  | pin n =>
    cases y with
    | cmp m => rfl
    | pin m => exact vector_set_ne _ _ fun e => h (congrArg TripIn.pin e)

theorem State.modTrIn_frame : s.modTrIn x f = { s with cmps := (s.modTrIn x f).cmps, pins := (s.modTrIn x f).pins } := by cases x <;> rfl

theorem State.modTrIn_regs : (s.modTrIn x f).regs = s.regs := by cases x <;> rfl

theorem State.getF_modTrIn (g : Fld) (i : Nat) : (s.modTrIn x f).getF g i = s.getF g i := by rw [State.getF, s.modTrIn_regs, State.getF]

end

theorem tripIn_src_lt (x : TripIn) : (tripInFlds x).src < 69 := by
  cases x with
  | cmp n => exact lt_of_lt_of_le n.isLt (by decide)
  | pin n =>
    have := n.isLt
    change 32 + n.val < 69
    omega

/-- What a decision and a count read of the registers turns on these fields, none of which they write. -/
theorem State.tripSettings_congr {s t : State} (h : t.regs = s.regs) (x : TripIn) :
    t.trState x = s.trState x ∧ t.sampled x = s.sampled x ∧ t.tickLen x = s.tickLen x := by
  have hget : t.getF = s.getF := by funext f i; rw [State.getF, h, State.getF]
  cases x <;> simp [State.trState, State.sampled, State.tickLen, State.bit, hget]

/-! A qualified transition (R264). -/

/-- Only the registers of input `x` and the input itself change. -/
structure InputFrame (x : TripIn) (s t : State) : Prop where
  frame : t = { s with regs := t.regs, cmps := t.cmps, pins := t.pins }
  regs : RegsBut s t (tripFields x)
  others : ∀ y, y ≠ x → t.trIn y = s.trIn y
  latches : OtherLatches (tripInFlds x).src s t

theorem InputFrame.trans {x : TripIn} {s t u : State} (h : InputFrame x s t) (h' : InputFrame x t u) : InputFrame x s u where
  frame := by
    obtain ⟨a, b, c, rfl⟩ : ∃ a b c, t = { s with regs := a, cmps := b, pins := c } := ⟨_, _, _, h.frame⟩
    exact h'.frame
  regs := h.regs.trans h'.regs
  others y hy := (h'.others y hy).trans (h.others y hy)
  latches j hj hne := (h'.latches j hj hne).trans (h.latches j hj hne)

theorem State.modTrIn_input (s : State) (x : TripIn) (f : TrInSt → TrInSt) : InputFrame x s (s.modTrIn x f) where
  frame := by cases x <;> rfl
  regs := fun g i _ => s.getF_modTrIn x f g i
  others y hy := s.trIn_modTrIn_ne x f hy
  latches j hj _ := State.latched_congr (fun i _ => s.getF_modTrIn x f _ 0) j hj

/-- The field of the state of an input is no latch. -/
theorem tripState_latch (x : TripIn) : (tripInFlds x).state ∉ latchNames := by cases x <;> simp [tripInFlds, latchNames]

theorem tripState_ne_latch (x : TripIn) : (tripInFlds x).state ≠ latchFld (tripInFlds x).src :=
  fun e => tripState_latch x (e ▸ latchFld_mem _ (tripIn_src_lt x))

theorem tripState_width (x : TripIn) : (tripInFlds x).state.width = 2 := by
  cases x with
  | cmp n => exact (rfl : Fld.CMP_STATUS_STATE.width = 2)
  | pin n => exact (rfl : Fld.TPIN_STATUS_STATE.width = 2)

theorem latchFld_input (x : TripIn) : latchFld (tripInFlds x).src = match x with | .cmp _ => .TRIP_LAT0_CMP | .pin _ => .TRIP_LAT1_PIN := by
  cases x with
  | cmp n => simp [latchFld, tripInFlds]
  | pin n => simp [latchFld, tripInFlds, show 32 + n.val < 40 by have := n.isLt; omega]

/-- The state of an input written. -/
theorem State.setState_input (s : State) (x : TripIn) (v : Nat) : InputFrame x s (s.setF (tripInFlds x).state (tripInFlds x).i v) ∧
    (s.setF (tripInFlds x).state (tripInFlds x).i v).trState x = v % 4 := by
  refine ⟨⟨rfl, ?_, fun y _ => ?_, fun j hj _ => s.latched_setF _ _ (tripState_latch x) j hj⟩, ?_⟩
  · exact (RegsBut.refl s _).setF _ (by cases x <;> simp [tripFields, tripInFlds])
  · cases y <;> rfl
  · rw [State.trState, State.getF_setF_same, tripState_width]
    rfl

/-- The latch of an input set. -/
theorem State.setLatch_inputFrame (s : State) (x : TripIn) : InputFrame x s (s.setLatch (tripInFlds x).src true) := by
  obtain ⟨hframe, hregs⟩ := s.setLatch_regsBut (tripIn_src_lt x) true
  refine ⟨?_, hregs.mono ?_, fun y _ => ?_, fun j hj hne => s.latched_setLatch_ne (tripIn_src_lt x) hj hne true⟩
  · rw [hframe]
  · rw [latchFld_input]
    cases x <;> simp [tripFields]
  · rw [hframe]
    cases y <;> rfl

/-- What a clean transition leaves: TRIP, the latch and which side tripped. -/
theorem State.qualify_spec (s : State) (x : TripIn) : let t := s.qualify x
    InputFrame x s t ∧ t.trIn x = s.trIn x ∧ t.trState x = 3 ∧ t.latched (tripInFlds x).src = true ∧
      LoSide x ((s.trIn x).lo && !(s.trIn x).hi) t := by
  let y := s.setF (tripInFlds x).state (tripInFlds x).i csTrip
  let z := y.setLatch (tripInFlds x).src true
  obtain ⟨hy, hstate⟩ := s.setState_input x csTrip
  have hz : InputFrame x y z := y.setLatch_inputFrame x
  have hzstate : z.trState x = 3 := by
    refine ((y.setLatch_regsBut (tripIn_src_lt x) true).2.getF_eq ?_ _).trans hstate
    simpa using (tripState_ne_latch x).symm
  have hzlatch : z.latched (tripInFlds x).src = true := y.latched_setLatch_same (tripIn_src_lt x) true
  have hzin : z.trIn x = s.trIn x := by
    have hregs : z = { y with regs := z.regs } := (y.setLatch_regsBut (tripIn_src_lt x) true).1
    rw [hregs]
    cases x <;> rfl
  cases x with
  | pin n => exact ⟨hy.trans hz, hzin, hzstate, hzlatch, trivial⟩
  | cmp n =>
    have hside : InputFrame (.cmp n) z (z.setBit .CMP_STATUS_LOSIDE n ((s.cmps[n]).lo && !(s.cmps[n]).hi)) := by
      refine ⟨rfl, (RegsBut.refl z _).setF _ (by simp [tripFields]), fun w _ => ?_, fun j hj _ => z.latched_setF _ _ (by simp [latchNames]) j hj⟩
      cases w <;> rfl
    refine ⟨(hy.trans hz).trans hside, hzin, ?_, ?_, ?_⟩
    · exact (z.getF_setF_ne _ _ _ (by simp [tripInFlds])).trans hzstate
    · exact (z.latched_setF _ _ (by simp [latchNames]) _ (tripIn_src_lt (.cmp n))).trans hzlatch
    · refine (z.bit_setF_same .CMP_STATUS_LOSIDE n _).trans ?_
      rw [Nat.mod_eq_of_lt (Fld.b2n_lt _ _)]
      change (b2n ((s.cmps[n]).lo && !(s.cmps[n]).hi) == 1) = ((s.cmps[n]).lo && !(s.cmps[n]).hi)
      cases (s.cmps[n]).lo && !(s.cmps[n]).hi <;> rfl

/-! The gate, a decision and a count of ticks. -/

/-- What turns on the register fields alone. -/
structure SameSettings (x : TripIn) (s t : State) : Prop where
  state : t.trState x = s.trState x
  sampled : t.sampled x = s.sampled x
  tick : t.tickLen x = s.tickLen x
  filt : t.getF (tripInFlds x).filt (tripInFlds x).i = s.getF (tripInFlds x).filt (tripInFlds x).i
  latch : ∀ j < 69, t.latched j = s.latched j
  side : SameSide x s t

theorem SameSettings.of_regs {x : TripIn} {s t : State} (h : t.regs = s.regs) : SameSettings x s t := by
  have hget (f : Fld) (i : Nat) : t.getF f i = s.getF f i := by rw [State.getF, h, State.getF]
  obtain ⟨hstate, hsampled, htick⟩ := State.tripSettings_congr h x
  refine ⟨hstate, hsampled, htick, hget _ _, State.latched_congr fun i _ => hget _ _, ?_⟩
  cases x with
  | cmp n => exact congrArg (· == 1) (hget _ _)
  | pin n => trivial

theorem SameSettings.modTrIn (s : State) (x : TripIn) (f : TrInSt → TrInSt) : SameSettings x s (s.modTrIn x f) := .of_regs (s.modTrIn_regs x f)

/-- What input `x` has decided is told as well from a state in which it alone differs. -/
theorem InputDecided.of_frame {x : TripIn} {q : TrInSt} {s s' t : State} (h : InputDecided x q s' t) (hf : InputFrame x s s')
    (hs : SameSettings x s s') : InputDecided x q s t := by
  obtain ⟨hin, hothers, hframe, hregs, hlatch, hoff, hon, hstay⟩ := h
  have hall := hf.trans ⟨hframe, hregs, hothers, hlatch⟩
  have hsrc := hs.latch _ (tripIn_src_lt x)
  have hside {v : State} (h : SameSide x s' v) : SameSide x s v := by
    cases x with
    | cmp n => exact Eq.trans h hs.side
    | pin n => trivial
  rw [hs.state, hs.filt, hs.sampled] at hon hstay
  rw [hsrc] at hoff hstay
  exact ⟨hin, hall.others, hall.frame, hall.regs, hall.latches, fun h => ⟨(hoff h).1, (hoff h).2.1, hside (hoff h).2.2⟩, hon,
    fun h h' => ⟨(hstay h h').1, (hstay h h').2.1, hside (hstay h h').2.2⟩⟩

/-- The gated output of an input. -/
def TrInSt.gate (q : TrInSt) : Bool := (q.hi || q.lo) && (q.gated || !q.blank)

/-- The gate after its input has changed (R261, R262). -/
theorem State.gateStep_decided (s : State) (x : TripIn) : InputDecided x { s.trIn x with gated := (s.trIn x).gate } s (s.gateStep x) := by
  let y := s.modTrIn x (fun t => { t with gated := (s.trIn x).gate })
  have hy : InputFrame x s y := s.modTrIn_input x _
  have hs : SameSettings x s y := .modTrIn s x _
  have hin : y.trIn x = { s.trIn x with gated := (s.trIn x).gate } := s.trIn_modTrIn_same x _
  refine InputDecided.of_frame ?_ hy hs
  have hstep : s.gateStep x = if (s.trIn x).gate then
      (if y.trState x = csNormal ∧ y.getF (tripInFlds x).filt (tripInFlds x).i = 0 ∧ s.sampled x = false then y.qualify x else y)
    else y.setF (tripInFlds x).state (tripInFlds x).i csNormal := rfl
  rw [hstep, ← hin, ← hs.sampled]
  have hgated : (y.trIn x).gated = (s.trIn x).gate := by rw [hin]
  have hrefl : InputFrame x y y := ⟨rfl, .refl y _, fun _ _ => rfl, fun _ _ _ => rfl⟩
  have hsame : SameSide x y y := by
    cases x with
    | cmp n => exact rfl
    | pin n => trivial
  cases hg : (s.trIn x).gate with
  | false =>
    obtain ⟨hframe, hstate⟩ := y.setState_input x csNormal
    rw [hg] at hgated
    rw [if_neg (by simp)]
    refine ⟨?_, hframe.others, hframe.frame, hframe.regs, hframe.latches, fun _ => ⟨hstate, ?_, ?_⟩, fun h => ?_, fun h => ?_⟩
    · cases x <;> rfl
    · exact y.latched_setF _ _ (tripState_latch x) _ (tripIn_src_lt x)
    · cases x with
      | cmp n => exact y.bit_setF_ne _ _ _ (by simp [tripInFlds])
      | pin n => trivial
    · rw [hgated] at h
      cases h
    · rw [hgated] at h
      cases h
  | true =>
    rw [hg] at hgated
    rw [if_pos rfl]
    split_ifs with hqual
    · obtain ⟨hnormal, hfilt, hcont⟩ := hqual
      obtain ⟨hframe, hqin, hstate, hlatch, hside⟩ := y.qualify_spec x
      refine ⟨hqin, hframe.others, hframe.frame, hframe.regs, hframe.latches, fun h => ?_, fun _ _ _ _ => ⟨hstate, hlatch, hside⟩, fun _ h => ?_⟩
      · rw [hgated] at h
        cases h
      · rw [hcont] at h
        rcases h with h | h | h
        · exact absurd hnormal h
        · exact absurd hfilt h
        · cases h
    · refine ⟨rfl, hrefl.others, hrefl.frame, hrefl.regs, hrefl.latches, fun h => ?_, fun _ h1 h2 h3 => absurd ⟨h1, h2, h3⟩ hqual,
        fun _ _ => ⟨rfl, rfl, hsame⟩⟩
      rw [hgated] at h
      cases h

/-- A decision on an input that is enabled (R259 to R264). -/
theorem State.decideIn_decided {s : State} {x : TripIn} (hon : s.trState x ≠ 0) :
    let q := if ((s.rawSides x).1 || (s.rawSides x).2) || !s.rawHeld x then { s.trIn x with hi := (s.rawSides x).1, lo := (s.rawSides x).2 }
      else s.trIn x
    InputDecided x { q with gated := q.gate } s (s.decideIn x) := by
  intro q
  rw [State.decideIn, if_neg (show ¬s.trState x = csOff from hon)]
  by_cases h : (((s.rawSides x).1 || (s.rawSides x).2) || !s.rawHeld x) = true
  · have hq : q = { s.trIn x with hi := (s.rawSides x).1, lo := (s.rawSides x).2 } := if_pos h
    let y := s.modTrIn x (fun t => { t with hi := (s.rawSides x).1, lo := (s.rawSides x).2 })
    have hin : y.trIn x = q := (s.trIn_modTrIn_same x _).trans hq.symm
    have hgate := y.gateStep_decided x
    rw [hin] at hgate
    dsimp only
    rw [if_pos h]
    exact InputDecided.of_frame hgate (s.modTrIn_input x _) (.modTrIn s x _)
  · have hq : q = s.trIn x := if_neg h
    dsimp only
    rw [if_neg h, hq]
    exact s.gateStep_decided x

/-- Ticks that find the gated output as it is (R263). -/
theorem State.filtTicks_spec (s : State) (x : TripIn) (k now : Nat) : let q := s.trIn x
    let c := if q.gated then q.cnt + k else 0
    let t := s.filtTicks x k now
    InputFrame x s t ∧ t.trIn x = { q with cnt := c, cntAt := now } ∧
    (q.gated = true → s.trState x = 2 → s.filtNeed x ≤ c → t.trState x = 3 ∧ t.latched (tripInFlds x).src = true ∧ LoSide x (q.lo && !q.hi) t) ∧
    (¬(q.gated = true ∧ s.trState x = 2 ∧ s.filtNeed x ≤ c) →
      t.trState x = s.trState x ∧ t.latched (tripInFlds x).src = s.latched (tripInFlds x).src ∧ SameSide x s t) := by
  intro q c t
  let y := s.modTrIn x (fun t => { t with cnt := c, cntAt := now })
  have hy : InputFrame x s y := s.modTrIn_input x _
  have hs : SameSettings x s y := .modTrIn s x _
  have hin : y.trIn x = { q with cnt := c, cntAt := now } := s.trIn_modTrIn_same x _
  have ht : t = if q.gated = true ∧ y.trState x = 2 ∧ s.filtNeed x ≤ c then y.qualify x else y := rfl
  rw [hs.state] at ht
  by_cases h : q.gated = true ∧ s.trState x = 2 ∧ s.filtNeed x ≤ c
  · obtain ⟨hframe, hqin, hstate, hlatch, hside⟩ := y.qualify_spec x
    rw [ht, if_pos h]
    refine ⟨hy.trans hframe, hqin.trans hin, fun _ _ _ => ⟨hstate, hlatch, ?_⟩, fun hno => absurd h hno⟩
    rw [hin] at hside
    exact hside
  · rw [ht, if_neg h]
    exact ⟨hy, hin, fun h1 h2 h3 => absurd ⟨h1, h2, h3⟩ h, fun _ => ⟨hs.state, hs.latch _ (tripIn_src_lt x), hs.side⟩⟩

/-! What has come for an input. -/

theorem State.ticksTo_none {s : State} {x : TripIn} {now : Nat} (h : now / s.tickLen x ≤ (s.trIn x).cntAt / s.tickLen x) : s.ticksTo x now = s := by
  rw [State.ticksTo, if_pos]
  simp [Nat.sub_eq_zero_of_le h]

theorem State.inputRun_idle {s : State} {x : TripIn} (h : s.trState x ≠ 0 → NothingDue x s) : s.inputRun x = s := by
  unfold State.inputRun
  dsimp only
  split_ifs with hoff hwin
  · rfl
  · obtain ⟨hopen, -⟩ := h hoff
    simp only [Bool.and_eq_true, decide_eq_true_iff] at hwin
    obtain ⟨⟨hblank, -⟩, hend⟩ := hwin
    have := hopen hblank
    omega
  · exact State.ticksTo_none (h hoff).2.le

theorem State.passTo_input (s : State) (x : TripIn) (d : Nat) : SameSettings x s (s.passTo d) ∧ (s.passTo d).trIn x = s.trIn x ∧
    (s.passTo d).rawSides x = s.rawSides x := by
  have hframe := s.passTo_frame d
  refine ⟨.of_regs (s.passTo_regs d), ?_, ?_⟩
  · rw [hframe]
    cases x <;> rfl
  · rw [hframe]
    cases x <;> rfl

/-- The first FAB cycle of the `k`-th tick from now on. -/
theorem tickAt_div {t len k : Nat} (hlen : 0 < len) (hk : 0 < k) :
    max t ((t / len + k) * len) = (t / len + k) * len ∧ (t / len + k) * len / len = t / len + k := by
  refine ⟨max_eq_right ?_, Nat.mul_div_cancel _ hlen⟩
  have hdiv := Nat.div_add_mod t len
  have hmod := Nat.mod_lt t hlen
  have hle : (t / len + 1) * len ≤ (t / len + k) * len := Nat.mul_le_mul_right len (by omega)
  rw [Nat.add_mul, Nat.mul_comm, Nat.one_mul] at hle
  omega

theorem State.tickLen_pos (s : State) (x : TripIn) : 0 < s.tickLen x := by cases x <;> simp [State.tickLen]

/-- The decision that a comparator's new voltage leads to (R259, R261), in a state with the settings of `s`. -/
theorem State.cmp_decision {s t : State} {n : Fin 32} {v : Nat} (hc : t.cmps[n] = { s.cmps[n] with vin := v }) (hr : t.regs = s.regs) :
    let c := s.cmps[n]
    let hi := s.getF .CMP_THRH_THR n * 375
    let lo := s.getF .CMP_THRL_THR n * 375
    let hyst := s.getF .CMP_CTRL_HYST n * 512
    let hiEn := s.bit .CMP_CTRL_HIEN n
    let loEn := s.bit .CMP_CTRL_LOEN n
    let above := hiEn && (decide (hi < v) || (c.hi && decide (hi ≤ v + hyst)))
    let below := loEn && (decide (v < lo) || (c.lo && decide (v ≤ lo + hyst)))
    let clear := (!hiEn || decide (v + hyst < hi)) && (!loEn || decide (lo + hyst < v))
    let empty := hiEn && loEn && decide (hi ≤ lo + 2 * hyst)
    let held := !(above || below) && (c.hi || c.lo) && ((decide (s.trState (.cmp n) = 1) && !clear) || empty)
    (if ((t.rawSides (.cmp n)).1 || (t.rawSides (.cmp n)).2) || !t.rawHeld (.cmp n) then
      { t.trIn (.cmp n) with hi := (t.rawSides (.cmp n)).1, lo := (t.rawSides (.cmp n)).2 } else t.trIn (.cmp n)) =
    { c with vin := v, hi := if held then c.hi else above, lo := if held then c.lo else below } := by
  intro c hi lo hyst hiEn loEn above below clear empty held
  have hget : t.getF = s.getF := by funext f i; rw [State.getF, hr, State.getF]
  have hraw : t.rawSides (.cmp n) = (above, below) := by
    simp only [State.rawSides, State.trIn, hc, State.cmpHigh, State.cmpLow, State.cmpHyst, State.bit, hget]
    rfl
  have hheld : t.rawHeld (.cmp n) = ((c.hi || c.lo) && ((decide (s.trState (.cmp n) = 1) && !clear) || empty)) := by
    simp only [State.rawHeld, State.seenClear, State.winErr, State.trState, hc, State.cmpHigh, State.cmpLow, State.cmpHyst, State.bit, hget]
    rfl
  have hin : t.trIn (.cmp n) = { c with vin := v } := hc
  rw [hraw, hheld, hin]
  have hh : held = (!(above || below) && ((c.hi || c.lo) && ((decide (s.trState (.cmp n) = 1) && !clear) || empty))) := Bool.and_assoc _ _ _
  rw [hh]
  cases (above || below) <;> cases ((c.hi || c.lo) && ((decide (s.trState (.cmp n) = 1) && !clear) || empty)) <;> simp

theorem State.decideIn_off {s : State} {x : TripIn} (hoff : s.trState x = 0) : s.decideIn x = s := by
  rw [State.decideIn]
  exact if_pos hoff

/-- Nothing that input `x` writes bears on the filter's count. -/
theorem filtNeed_of_regs {s t : State} {x : TripIn} (h : RegsBut s t (tripFields x)) : t.filtNeed x = s.filtNeed x := by
  cases x with
  | cmp n =>
    simp only [State.filtNeed, tripInFlds, State.sampled, State.bit, h.getF_eq (f := .CMP_FILT_FILT) (by simp [tripFields]),
      h.getF_eq (f := .CMP_CTRL_SAMP) (by simp [tripFields])]
  | pin p => simp only [State.filtNeed, tripInFlds, State.sampled, h.getF_eq (f := .TPIN_FILT_FILT) (by simp [tripFields])]

theorem tickLen_of_regs {s t : State} {x : TripIn} (h : RegsBut s t (tripFields x)) : t.tickLen x = s.tickLen x := by
  cases x with
  | cmp n => simp only [State.tickLen, h.getF_eq (f := .CMP_FILT_TICKDIV) (by simp [tripFields])]
  | pin p => simp only [State.tickLen, h.getF_eq (f := .TPIN_FILT_TICKDIV) (by simp [tripFields])]

/-- Ticks that come at an enabled input outside its window. -/
theorem State.inputRun_ticks {s : State} {x : TripIn} {k : Nat} (hon : s.trState x ≠ 0) (hblank : (s.trIn x).blank = false) (href : s.refOk = true)
    (hk : s.tick / s.tickLen x = (s.trIn x).cntAt / s.tickLen x + k) (hpos : 0 < k) :
    s.inputRun x = (if s.sampled x then s.decideIn x else s).filtTicks x k s.tick := by
  have hticks : s.inputRun x = s.ticksTo x s.tick := by
    rw [State.inputRun, if_neg (show ¬s.trState x = csOff from hon)]
    dsimp only
    rw [hblank]
    rfl
  rw [hticks, State.ticksTo, hk, Nat.add_sub_cancel_left, if_neg]
  simp [href, hpos.ne']

theorem InputFrame.pins {n : Fin 32} {s t : State} (h : InputFrame (.cmp n) s t) : t.pins = s.pins :=
  Vector.ext fun i hi => h.others (.pin ⟨i, hi⟩) (by simp)

/-- The end of an input's window, with no tick that has not been taken (R262). -/
theorem State.inputRun_windowEnd {s : State} {x : TripIn} (hon : s.trState x ≠ 0) (hblank : (s.trIn x).blank = true) (hrun : s.fabRuns = true)
    (hend : (s.trIn x).blankEnd ≤ s.tick) (htick : s.tick / s.tickLen x = (s.trIn x).cntAt / s.tickLen x) :
    InputDecided x { s.trIn x with blank := false, gated := (s.trIn x).hi || (s.trIn x).lo } s (s.inputRun x) := by
  let y := s.modTrIn x (fun t => { t with blank := false })
  have hy : SameSettings x s y := .modTrIn s x _
  have hin : y.trIn x = { s.trIn x with blank := false } := s.trIn_modTrIn_same x _
  have hgate := y.gateStep_decided x
  have hopen : ({ s.trIn x with blank := false } : TrInSt).gate = ((s.trIn x).hi || (s.trIn x).lo) := by simp [TrInSt.gate]
  rw [hin, hopen] at hgate
  have hbefore : s.ticksTo x ((s.trIn x).blankEnd - 1) = s :=
    State.ticksTo_none (le_of_le_of_eq (Nat.div_le_div_right (by omega)) htick)
  have hwin : s.blankEndIn x = y.gateStep x := by
    rw [State.blankEndIn]
    exact if_neg (show ¬y.trState x = 0 from hy.state ▸ hon)
  have hrunEq : s.inputRun x = (y.gateStep x).ticksTo x s.tick := by
    rw [State.inputRun, if_neg (show ¬s.trState x = csOff from hon)]
    dsimp only
    rw [if_pos (by simp [hblank, hrun, hend]), hbefore, hwin]
  have hdone := InputDecided.of_frame hgate (s.modTrIn_input x _) hy
  have ⟨hq, _, _, hregs, _⟩ := hdone
  have hnone : (y.gateStep x).ticksTo x s.tick = y.gateStep x := by
    refine State.ticksTo_none ?_
    rw [tickLen_of_regs hregs, hq]
    exact htick.le
  rw [hrunEq, hnone]
  exact hdone

/-- The ticks that take an input's count to its end (R260, R263). -/
theorem State.inputRun_qualifies {s : State} {x : TripIn} {k : Nat} (hnormal : s.trState x = 2) (hgated : (s.trIn x).gated = true)
    (hblank : (s.trIn x).blank = false) (href : s.refOk = true) (hk : s.tick / s.tickLen x = (s.trIn x).cntAt / s.tickLen x + k) (hpos : 0 < k)
    (hneed : s.filtNeed x ≤ (s.trIn x).cnt + k)
    (hside : s.sampled x = false ∨ (s.rawSides x).1 = true ∨ (s.rawSides x).2 = true) : let t := s.inputRun x
    InputFrame x s t ∧ t.trState x = 3 ∧ t.latched (tripInFlds x).src = true ∧
      (s.sampled x = false → LoSide x ((s.trIn x).lo && !(s.trIn x).hi) t) ∧
      (s.sampled x = true → LoSide x ((s.rawSides x).2 && !(s.rawSides x).1) t) := by
  intro t
  have ht : t = (if s.sampled x then s.decideIn x else s).filtTicks x k s.tick := State.inputRun_ticks (by omega) hblank href hk hpos
  cases hs : s.sampled x with
  | false =>
    rw [hs, if_neg (by simp)] at ht
    obtain ⟨hframe, -, hqual, -⟩ := s.filtTicks_spec x k s.tick
    rw [hgated, if_pos rfl] at hqual
    obtain ⟨hstate, hlatch, hlo⟩ := hqual rfl hnormal hneed
    rw [ht]
    exact ⟨hframe, hstate, hlatch, fun _ => hlo, nofun⟩
  | true =>
    rw [hs, if_pos rfl] at ht
    have hraw : ((s.rawSides x).1 || (s.rawSides x).2) = true := by
      rcases hside with h | h | h
      · rw [hs] at h
        cases h
      · rw [h, Bool.true_or]
      · rw [h, Bool.or_true]
    have hdec := State.decideIn_decided (s := s) (x := x) (by omega)
    have hgate : ({ s.trIn x with hi := (s.rawSides x).1, lo := (s.rawSides x).2 } : TrInSt).gate = true := by
      simp only [TrInSt.gate, hraw, hblank, hgated, Bool.not_false, Bool.or_true, Bool.and_true]
    rw [hraw, Bool.true_or, if_pos rfl] at hdec
    dsimp only at hdec
    rw [hgate] at hdec
    obtain ⟨hin, hothers, hfr, hregs, hlatches, -, -, hstay⟩ := hdec
    obtain ⟨hstate, -, -⟩ := hstay rfl (.inr (.inr hs))
    obtain ⟨hframe, -, hqual, -⟩ := (s.decideIn x).filtTicks_spec x k s.tick
    rw [hin, if_pos rfl, filtNeed_of_regs hregs] at hqual
    obtain ⟨hstate', hlatch, hlo⟩ := hqual rfl (hstate.trans hnormal) hneed
    rw [ht]
    exact ⟨InputFrame.trans ⟨hfr, hregs, hothers, hlatches⟩ hframe, hstate', hlatch, nofun, fun _ => hlo⟩

/-- The tick at which a sampled input decides (R260, R263). -/
theorem State.inputRun_sampledTick {s : State} {x : TripIn} {q : TrInSt} (hon : s.trState x ≠ 0) (hsamp : s.sampled x = true)
    (hblank : (s.trIn x).blank = false) (href : s.refOk = true) (hk : s.tick / s.tickLen x = (s.trIn x).cntAt / s.tickLen x + 1)
    (hq : (if ((s.rawSides x).1 || (s.rawSides x).2) || !s.rawHeld x then
      { s.trIn x with hi := (s.rawSides x).1, lo := (s.rawSides x).2 } else s.trIn x) = q) : let t := s.inputRun x
    InputFrame x s t ∧ t.trIn x = { q with gated := q.hi || q.lo, cnt := if q.hi || q.lo then q.cnt + 1 else 0, cntAt := s.tick } ∧
    ((q.hi || q.lo) = false → t.trState x = 2 ∧ t.latched (tripInFlds x).src = s.latched (tripInFlds x).src ∧ SameSide x s t) ∧
    ((q.hi || q.lo) = true → s.trState x = 2 → s.filtNeed x ≤ q.cnt + 1 →
      t.trState x = 3 ∧ t.latched (tripInFlds x).src = true ∧ LoSide x (q.lo && !q.hi) t) ∧
    ((q.hi || q.lo) = true → (s.trState x ≠ 2 ∨ q.cnt + 1 < s.filtNeed x) →
      t.trState x = s.trState x ∧ t.latched (tripInFlds x).src = s.latched (tripInFlds x).src ∧ SameSide x s t) := by
  intro t
  have ht : t = (s.decideIn x).filtTicks x 1 s.tick := by
    refine (State.inputRun_ticks hon hblank href hk Nat.one_pos).trans ?_
    rw [hsamp]
    rfl
  have hqblank : q.blank = false := by
    rw [← hq]
    split_ifs <;> exact hblank
  have hgate : q.gate = (q.hi || q.lo) := by rw [TrInSt.gate, hqblank, Bool.not_false, Bool.or_true, Bool.and_true]
  have hdec := State.decideIn_decided hon
  rw [hq] at hdec
  dsimp only at hdec
  rw [hgate] at hdec
  obtain ⟨hin, hothers, hfr, hregs, hlatches, hclear, -, hstay⟩ := hdec
  have hframe : InputFrame x s (s.decideIn x) := ⟨hfr, hregs, hothers, hlatches⟩
  obtain ⟨hframe', hin', hqual, hwait⟩ := (s.decideIn x).filtTicks_spec x 1 s.tick
  rw [hin, filtNeed_of_regs hregs] at hqual hwait
  rw [hin] at hin'
  rw [ht]
  have hside {u v w : State} (h : SameSide x u v) (h' : SameSide x v w) : SameSide x u w := by
    cases x with
    | cmp n => exact Eq.trans h' h
    | pin n => trivial
  refine ⟨hframe.trans hframe', hin', fun hg => ?_, fun hg hstate hneed => ?_, fun hg hno => ?_⟩
  · obtain ⟨hstate, hlatch, hlo⟩ := hclear hg
    obtain ⟨hstate', hlatch', hlo'⟩ := hwait fun h => by simp [hg] at h
    exact ⟨hstate'.trans hstate, hlatch'.trans hlatch, hside hlo hlo'⟩
  · obtain ⟨hkeep, -, -⟩ := hstay hg (.inr (.inr hsamp))
    exact hqual hg (hkeep.trans hstate) (by simpa [hg] using hneed)
  · obtain ⟨hstate, hlatch, hlo⟩ := hstay hg (.inr (.inr hsamp))
    obtain ⟨hstate', hlatch', hlo'⟩ := hwait fun ⟨_, h2, h3⟩ => by
      rw [hstate] at h2
      rcases hno with hno | hno
      · exact hno h2
      · simp only [hg, if_true] at h3
        omega
    exact ⟨hstate'.trans hstate, hlatch'.trans hlatch, hside hlo hlo'⟩

/-- Settles O11: each command by the rules of a decision, of the gate and of the count of ticks. -/
theorem tripInputFilters : Obligations.TripInputFilters := by
  intro n p v level x s c hi lo hyst hiEn loEn above below clear empty held high low b act q f tk
  have hcmp : exec (.cmpCrossing n v) s = .next (let s1 := (s.inputRun (.cmp n)).modTrIn (.cmp n) (fun t => { t with vin := v })
    if s.trState (.cmp n) != csOff && s.sampled (.cmp n) then (if s.refOk then (s1.passTo (s1.tickAt (.cmp n) 1)).inputRun (.cmp n) else s1)
    else s1.decideIn (.cmp n)) := rfl
  have hsets : SameSettings (.cmp n) s (s.modTrIn (.cmp n) (fun t => { t with vin := v })) := .modTrIn s _ _
  refine ⟨fun hon hcont hidle => ?_, fun hon hsamp href hidle => ?_, fun hon hsamp href hidle hblank => ?_, fun hoff => ?_, fun hon hidle => ?_,
    fun hrun hblank hon htick => ?_, fun href hnormal hgated hblank hidle hside => ?_⟩
  · refine ⟨_, hcmp, ?_⟩
    dsimp only
    rw [if_neg (by simp [hcont]), State.inputRun_idle fun _ => hidle]
    refine InputDecided.of_frame ?_ (s.modTrIn_input (.cmp n) _) hsets
    have hdec := State.decideIn_decided (s := s.modTrIn (.cmp n) (fun t => { t with vin := v })) (x := .cmp n) (by rw [hsets.state]; exact hon)
    dsimp only at hdec
    rw [State.cmp_decision (vector_set_same _ _) (s.modTrIn_regs _ _)] at hdec
    exact hdec
  · refine ⟨_, hcmp, ?_⟩
    dsimp only
    rw [if_pos (by simp [hsamp, csOff, hon]), if_neg (by simp [href]), State.inputRun_idle fun _ => hidle]
    exact ⟨rfl, vector_set_same _ _, fun m hm => vector_set_ne _ _ hm⟩
  · let y := s.modTrIn (.cmp n) (fun t => { t with vin := v })
    have htk : tk = y.passTo (y.tickAt (.cmp n) 1) := rfl
    obtain ⟨hpass, hpassin, -⟩ := y.passTo_input (.cmp n) (y.tickAt (.cmp n) 1)
    obtain ⟨htick, hdiv⟩ := tickAt_div (t := s.tick) (s.tickLen_pos (.cmp n)) Nat.one_pos
    have hcin : tk.trIn (.cmp n) = { c with vin := v } := hpassin.trans (vector_set_same _ _)
    have hregs : tk.regs = s.regs := (y.passTo_regs _).trans (s.modTrIn_regs _ _)
    have hset : SameSettings (.cmp n) s tk := .of_regs hregs
    have hq : (if ((tk.rawSides (.cmp n)).1 || (tk.rawSides (.cmp n)).2) || !tk.rawHeld (.cmp n) then
        { tk.trIn (.cmp n) with hi := (tk.rawSides (.cmp n)).1, lo := (tk.rawSides (.cmp n)).2 } else tk.trIn (.cmp n)) =
        { c with vin := v, hi := high, lo := low } := State.cmp_decision hcin hregs
    obtain ⟨hframe, hin, hclear, hqual, hstay⟩ := State.inputRun_sampledTick (hset.state ▸ hon) (hset.sampled.trans hsamp)
      (by rw [hcin]; exact hblank) (by rw [htk, y.passTo_frame]; exact href)
      (by rw [hset.tick, hcin, htk, State.passTo_tick]
          change max s.tick ((s.tick / s.tickLen (.cmp n) + 1) * s.tickLen (.cmp n)) / s.tickLen (.cmp n) = c.cntAt / s.tickLen (.cmp n) + 1
          rw [htick, hdiv, hidle.2]
          rfl) hq
    have hneed : tk.filtNeed (.cmp n) = s.getF .CMP_FILT_FILT n + 1 := by
      rw [filtNeed_of_regs (s := s) fun f i _ => by rw [State.getF, hregs, State.getF], State.filtNeed, hsamp]
      rfl
    have hruns : exec (.cmpCrossing n v) s = .next (tk.inputRun (.cmp n)) := by
      rw [hcmp, State.inputRun_idle fun _ => hidle]
      dsimp only
      rw [if_pos (by simp [hsamp, csOff, hon]), if_pos href]
      rfl
    have hcmps (m : Fin 32) (hm : m ≠ n) : tk.cmps[m] = s.cmps[m] := by
      rw [htk, y.passTo_frame]
      exact vector_set_ne _ _ hm
    have hpins := hframe.pins
    have hfr := hframe.frame
    rw [hpins] at hfr
    rw [hset.state, hneed] at hqual hstay
    have hlatch (j : Nat) (hj : j < 69) : tk.latched j = s.latched j := hset.latch j hj
    have hsame {w : State} (h : SameSide (.cmp n) tk w) : SameSide (.cmp n) s w := Eq.trans h hset.side
    refine ⟨_, hruns, hfr, fun m hm => ?_, ?_, ?_, ?_, ?_, ?_, ?_, ?_, ?_, ?_, ?_, ?_⟩
    · exact (hframe.others (.cmp m) (fun e => hm (TripIn.cmp.inj e))).trans (hcmps m hm)
    · exact RegsBut.trans (fun f i _ => by rw [State.getF, hregs, State.getF]) hframe.regs
    · exact congrArg TrInSt.vin hin
    · exact congrArg TrInSt.hi hin
    · exact congrArg TrInSt.lo hin
    · exact congrArg TrInSt.gated hin
    · exact congrArg TrInSt.cnt hin
    · exact congrArg TrInSt.cntAt hin
    · exact fun j hj hne => (hframe.latches j hj hne).trans (hlatch j hj)
    · intro hh hl
      obtain ⟨h1, h2, h3⟩ := hclear (by rw [hh, hl]; rfl)
      exact ⟨h1, h2.trans (hlatch _ (tripIn_src_lt (.cmp n))), hsame h3⟩
    · exact fun hg hnormal hfilt => hqual hg hnormal (Nat.succ_le_succ hfilt)
    · intro hg hno
      obtain ⟨h1, h2, h3⟩ := hstay hg (hno.imp_right Nat.succ_lt_succ)
      exact ⟨h1, h2.trans (hlatch _ (tripIn_src_lt (.cmp n))), hsame h3⟩
  · refine ⟨_, hcmp, ?_⟩
    dsimp only
    rw [if_neg (by simp [csOff, hoff]), State.inputRun_idle fun h => absurd hoff h, State.decideIn_off (hsets.state.trans hoff)]
    exact ⟨rfl, vector_set_same _ _, fun m hm => vector_set_ne _ _ hm⟩
  · let y := s.modTrIn (.pin p) (fun t => { t with vin := b2n level })
    have hpin : exec (.tripPinChange p level) s = .next (y.decideIn (.pin p)) := by
      rw [exec_tripPinChange, execTripPinChange, State.inputRun_idle fun _ => hidle]
    have hy : SameSettings (.pin p) s y := .modTrIn s _ _
    have hdec := State.decideIn_decided (s := y) (x := .pin p) (by rw [hy.state]; exact hon)
    have hin : y.pins[p] = { b with vin := b2n level } := vector_set_same _ _
    have hraw : y.rawSides (.pin p) = (act, false) := by
      simp only [State.rawSides, State.trIn, hin, act]
      cases level <;> rfl
    rw [hraw, show y.rawHeld (.pin p) = false from rfl] at hdec
    simp only [Bool.not_false, Bool.or_true, if_true, show y.trIn (.pin p) = _ from hin] at hdec
    have hgate : ({ b with vin := b2n level, hi := act, lo := false } : TrInSt).gate = (act && (b.gated || !b.blank)) := by simp [TrInSt.gate]
    rw [hgate] at hdec
    exact ⟨_, hpin, InputDecided.of_frame hdec (s.modTrIn_input (.pin p) _) hy⟩
  · let r := s.passTo q.blankEnd
    obtain ⟨hr, hin, -⟩ := s.passTo_input x q.blankEnd
    have hrunr : r.fabRuns = true := by
      rw [show r = _ from s.passTo_frame _]
      exact hrun
    refine Answers.of_guard rfl (by rw [hblank, hrun]; rfl) ?_
    have hwin := State.inputRun_windowEnd (s := r) (x := x) (by rw [hr.state]; exact hon) (by rw [hin]; exact hblank) hrunr ?_ ?_
    · rw [hin] at hwin
      exact hwin
    · rw [hin, State.passTo_tick]
      exact le_max_right _ _
    · rw [hr.tick, hin]
      exact htick
  · let need := s.getF f.filt f.i + b2n (s.sampled x)
    let r := s.passTo ((s.tick / s.tickLen x + max 1 (need - q.cnt)) * s.tickLen x)
    obtain ⟨hr, hin, hraw⟩ := s.passTo_input x ((s.tick / s.tickLen x + max 1 (need - q.cnt)) * s.tickLen x)
    obtain ⟨htick, hdiv⟩ := tickAt_div (t := s.tick) (s.tickLen_pos x) (show 0 < max 1 (need - q.cnt) by omega)
    have hexec : exec (.filterQualified x) s = .next (r.inputRun x) := by
      rw [exec_filterQualified, execFilterQualified, State.inputRun_idle fun _ => hidle]
      dsimp only
      rw [if_pos ⟨hnormal, hgated, href⟩]
      rfl
    have hneed : r.filtNeed x = need := by
      rw [filtNeed_of_regs (s := s) fun f i _ => s.getF_passTo _ f i]
      rfl
    have hall := State.inputRun_qualifies (s := r) (x := x) (k := max 1 (need - q.cnt)) (by rw [hr.state]; exact hnormal) (by rw [hin]; exact hgated)
      (by rw [hin]; exact hblank) (by rw [show r = _ from s.passTo_frame _]; exact href) ?_ (by omega) ?_ (by rw [hr.sampled, hraw]; exact hside)
    · rw [hin, hr.sampled, hraw] at hall
      obtain ⟨hframe, hstate, hlatch, hcont, hsamp⟩ := hall
      refine ⟨_, hexec, hstate, hlatch, hframe.frame, ?_, fun j hj hne => (hframe.latches j hj hne).trans (hr.latch j hj), hcont, hsamp⟩
      exact RegsBut.trans (fun f i _ => s.getF_passTo _ f i) hframe.regs
    · rw [hr.tick, hin, State.passTo_tick, htick, hdiv, hidle.2]
    · rw [hneed, hin]
      change need ≤ q.cnt + max 1 (need - q.cnt)
      omega

end Sys2Proof.Machine
end

section
/-! SUPPORT. The lanes of the cell links, the MUTE state's sources and bits of masks. -/
namespace Sys2Proof.Machine

-- The proofs one after another: all at once they would need more threads, and their stacks, than the check's memory holds.
set_option Elab.async false

/-! One index of a field among its others. -/

theorem fin_key_ne {k : Nat} (hk : k ≤ 1024) {m n : Fin k} (h : m ≠ n) : m.val % 1024 ≠ n.val % 1024 := by
  rw [Nat.mod_eq_of_lt (lt_of_lt_of_le m.isLt hk), Nat.mod_eq_of_lt (lt_of_lt_of_le n.isLt hk)]
  exact fun e => h (Fin.ext e)

theorem State.getF_setF_fin (s : State) (f : Fld) {k : Nat} (hk : k ≤ 1024) {m n : Fin k} (h : m ≠ n) (v : Nat) :
    (s.setF f n v).getF f m = s.getF f m := s.getF_setF_idx f _ _ v (fin_key_ne hk h)

/-! Register fields alone. -/

section
variable {s t u : State} {l l' : List (Fld × Nat)}

theorem OnlyRegs.refl (s : State) (l : List (Fld × Nat)) : OnlyRegs s s l := ⟨rfl, .refl s l⟩

theorem OnlyRegs.trans (h : OnlyRegs s t l) (h' : OnlyRegs t u l) : OnlyRegs s u l :=
  ⟨h'.1.trans (congrArg (fun x : State => { x with regs := u.regs }) h.1), h.2.trans h'.2⟩

theorem OnlyRegs.mono (h : OnlyRegs s t l) (hl : l ⊆ l') : OnlyRegs s t l' := ⟨h.1, h.2.mono hl⟩

theorem OnlyRegs.setF (h : OnlyRegs s t l) {f : Fld} {i : Nat} (v : Nat) (hm : (f, i) ∈ l) : OnlyRegs s (t.setF f i v) l :=
  h.trans ⟨rfl, (RegsBut.refl t l).setF v hm⟩

theorem OnlyRegs.getF_eq (h : OnlyRegs s t l) {f : Fld} (hf : ∀ e ∈ l, e.1 ≠ f) (i : Nat) : t.getF f i = s.getF f i := h.2.getF_eq hf i

end

/-! One lane among the others. -/

/-- Nothing but register fields, lanes and arms changes. -/
def LaneFrame (s t : State) : Prop := t = { s with regs := t.regs, lanes := t.lanes, arms := t.arms }

theorem LaneFrame.refl (s : State) : LaneFrame s s := rfl

theorem LaneFrame.trans {s t u : State} (h : LaneFrame s t) (h' : LaneFrame t u) : LaneFrame s u :=
  Eq.trans h' (congrArg (fun x : State => { x with regs := u.regs, lanes := u.lanes, arms := u.arms }) h)

theorem OnlyRegs.laneFrame {s t : State} {l : List (Fld × Nat)} (h : OnlyRegs s t l) : LaneFrame s t := by
  obtain ⟨r, rfl⟩ : ∃ r, t = { s with regs := r } := ⟨_, h.1⟩
  rfl

theorem State.modLane_same (s : State) (n : Fin 96) (f : LaneSt → LaneSt) : (s.modLane n f).lanes[n] = f s.lanes[n] := vector_set_same _ _

theorem State.modLane_ne (s : State) {n m : Fin 96} (f : LaneSt → LaneSt) (h : m ≠ n) : (s.modLane n f).lanes[m] = s.lanes[m] :=
  vector_set_ne _ _ h

end Sys2Proof.Machine
end

section
/-! The trip fabric: latches, routes and the MUTE state (R268 to R275). -/
namespace Sys2Proof.Machine

-- The proofs one after another: all at once they would need more threads, and their stacks, than the check's memory holds.
set_option Elab.async false

/-! What the fabric reads of the registers. -/

/-- The fields that say which sources are asserted. -/
def assertNames : List Fld := [.CMP_STATUS_STATE, .TPIN_STATUS_STATE, .SER_STAT_STATE, .THERM_STAT_BLKREQ, .CLK_LOSS_ACTIVE]

/-- The fields that route the sources to MUTE. -/
def muteRouteNames : List Fld := [.TRIP_ROUTE_MUTE, .TRIP_SWROUTE_MUTE, .TRIP_SUPROUTE_MUTE]

theorem State.asserted_congr {s t : State} (hser : t.ser = s.ser) (htwin : t.twin = s.twin)
    (h : ∀ f ∈ assertNames, ∀ i, t.getF f i = s.getF f i) (i : Nat) : t.asserted i = s.asserted i := by
  simp only [State.asserted, State.bit, hser, htwin, h .CMP_STATUS_STATE (by simp [assertNames]), h .TPIN_STATUS_STATE (by simp [assertNames]),
    h .SER_STAT_STATE (by simp [assertNames]), h .THERM_STAT_BLKREQ (by simp [assertNames]), h .CLK_LOSS_ACTIVE (by simp [assertNames])]

theorem State.routedMute_congr {s t : State} (h : ∀ f ∈ muteRouteNames, ∀ i, t.getF f i = s.getF f i) (i : Nat) :
    t.routedMute i = s.routedMute i := by
  simp only [State.routedMute, State.bit, h .TRIP_ROUTE_MUTE (by simp [muteRouteNames]), h .TRIP_SWROUTE_MUTE (by simp [muteRouteNames]),
    h .TRIP_SUPROUTE_MUTE (by simp [muteRouteNames])]

/-! Latches set or cleared one after another. -/

/-- The registers of the latches. -/
def latchKeys : List (Fld × Nat) := latchNames.map (fun f => (f, 0))

/-- The latches of the sources `l` written. -/
def State.setLatches (s : State) (l : List Nat) (v : Bool) : State := l.foldl (fun t i => t.setLatch i v) s

theorem State.setLatches_spec (v : Bool) {l : List Nat} : ∀ {s : State}, (∀ i ∈ l, i < 69) →
    let t := s.setLatches l v
    OnlyRegs s t latchKeys ∧ ∀ j < 69, t.latched j = if j ∈ l then v else s.latched j := by
  induction l with
  | nil => exact fun _ => ⟨⟨rfl, .refl _ _⟩, fun j _ => by simp [State.setLatches]⟩
  | cons x xs ih =>
    intro s hl
    have hx : x < 69 := hl x List.mem_cons_self
    obtain ⟨honly, hlatch⟩ := ih (s := s.setLatch x v) fun i hi => hl i (List.mem_cons_of_mem _ hi)
    have hkeys : [(latchFld x, 0)] ⊆ latchKeys :=
      List.cons_subset.2 ⟨List.mem_map.2 ⟨_, latchFld_mem x hx, rfl⟩, List.nil_subset _⟩
    have hfirst : OnlyRegs s (s.setLatch x v) latchKeys := (show OnlyRegs s _ _ from s.setLatch_regsBut hx v).mono hkeys
    refine ⟨hfirst.trans honly, fun j hj => (hlatch j hj).trans ?_⟩
    by_cases hmem : j ∈ xs
    · simp [hmem]
    · by_cases hjx : j = x
      · simp [hjx, State.latched_setLatch_same _ hx]
      · simp [hmem, hjx, State.latched_setLatch_ne _ hx hj hjx]

theorem OnlyRegs.asserted {s t : State} {l : List (Fld × Nat)} (h : OnlyRegs s t l) (hl : ∀ e ∈ l, e.1 ∉ assertNames) (i : Nat) :
    t.asserted i = s.asserted i := by
  obtain ⟨hframe, hregs⟩ := h
  exact State.asserted_congr (by rw [hframe]) (by rw [hframe]) (fun f hf j => hregs.getF_eq (fun e he heq => hl e he (heq ▸ hf)) j) i

theorem latchKeys_asserts : ∀ e ∈ latchKeys, e.1 ∉ assertNames := by decide

theorem State.asserted_setLatch (s : State) {i : Nat} (hi : i < 69) (v : Bool) (j : Nat) : (s.setLatch i v).asserted j = s.asserted j := by
  refine OnlyRegs.asserted (s.setLatch_regsBut hi v) ?_ j
  simp only [List.mem_singleton, forall_eq]
  have : ∀ i < 69, latchFld i ∉ assertNames := by decide
  exact this i hi

/-- The fixed sources are latched as they stand (R270). -/
theorem State.latchFixed_eq (s : State) : s.latchFixed = s.setLatches ([65, 66, 67, 68].filter s.asserted) true := by
  have key : ∀ (l : List Nat) (t : State), (∀ i ∈ l, i < 69) → (∀ j, t.asserted j = s.asserted j) →
      l.foldl (fun t i => if t.asserted i then t.setLatch i true else t) t = t.setLatches (l.filter s.asserted) true := by
    intro l
    induction l with
    | nil => exact fun _ _ _ => rfl
    | cons x xs ih =>
      intro t hl hsame
      have hrest (i : Nat) (hi : i ∈ xs) : i < 69 := hl i (List.mem_cons_of_mem _ hi)
      rw [List.foldl_cons, hsame x]
      cases hx : s.asserted x with
      | true =>
        rw [List.filter_cons_of_pos hx]
        exact ih (t.setLatch x true) hrest fun j => (t.asserted_setLatch (hl x List.mem_cons_self) true j).trans (hsame j)
      | false =>
        rw [List.filter_cons_of_neg (by simp [hx])]
        exact ih t hrest hsame
  exact key _ s (by simp) fun _ => rfl

theorem State.latchFixed_spec (s : State) : OnlyRegs s s.latchFixed latchKeys ∧
    ∀ i < 69, s.latchFixed.latched i = true ↔ s.latched i = true ∨ (65 ≤ i ∧ s.asserted i = true) := by
  obtain ⟨honly, hlatch⟩ := State.setLatches_spec (s := s) true (l := [65, 66, 67, 68].filter s.asserted) fun i hi => by
    have := (List.mem_filter.1 hi).1
    simp only [List.mem_cons, List.not_mem_nil, or_false] at this
    omega
  rw [← State.latchFixed_eq] at honly hlatch
  refine ⟨honly, fun i hi => ?_⟩
  rw [hlatch i hi]
  have hmem : i ∈ [65, 66, 67, 68].filter s.asserted ↔ 65 ≤ i ∧ s.asserted i = true := by
    rw [List.mem_filter]
    refine and_congr_left fun _ => ?_
    simp only [List.mem_cons, List.not_mem_nil, or_false]
    omega
  split_ifs with h
  · simp [hmem.1 h]
  · simp [mt hmem.2 h]

/-! The lanes muted and the planner reset. -/

@[simp] theorem LaneSt.clearPlan_launch (l : LaneSt) : l.clearPlan.launch = l.launch := rfl

@[simp] theorem LaneSt.clearPlan_burst (l : LaneSt) : l.clearPlan.burst = l.burst := rfl

/-- Where the state of a lane stands that a mute changes. -/
def State.muteSeen (s : State) (n : Fin 96) : Nat × LaneSt := (s.getF .CL_STAT_MUTED n, s.lanes[n])

theorem State.muteLanes_spec (s : State) (mask : Nat) : let t := s.muteLanes mask
    (LaneFrame s t ∧ ∀ f i, f ≠ .CL_STAT_MUTED → t.getF f i = s.getF f i) ∧
    ∀ n : Fin 96, t.muteSeen n = if s.laneUp n then (1, (s.lanes[n]).startBurst s.tick (s.setTime n) mask) else s.muteSeen n := by
  refine forIdx_each (s := s) (fun n t => t.muteSeen n) (fun t => LaneFrame s t ∧
    ∀ f i, f ≠ .CL_STAT_MUTED → t.getF f i = s.getF f i)
    (fun n x => x = if s.laneUp n then (1, (s.lanes[n]).startBurst s.tick (s.setTime n) mask) else s.muteSeen n) ⟨rfl, fun _ _ _ => rfl⟩
    fun t n hf hsame => ?_
  obtain ⟨hframe, hkeep⟩ := hf
  have hup : t.laneUp n = s.laneUp n := by rw [State.laneUp, State.lstate, hkeep _ _ (by simp), State.laneUp, State.lstate]
  have htime : t.setTime n = s.setTime n := by rw [State.setTime, State.bit, hkeep _ _ (by simp), State.setTime, State.bit]
  have htick : t.tick = s.tick := by rw [hframe]
  obtain ⟨-, hlane⟩ := Prod.mk.inj hsame
  rw [hup]
  cases hu : s.laneUp n with
  | false => exact ⟨⟨hframe, hkeep⟩, hsame, fun _ _ => rfl⟩
  | true =>
    rw [if_pos rfl, if_pos rfl]
    let u := t.setF .CL_STAT_MUTED n 1
    have hutime : u.setTime n = s.setTime n := by rw [← htime, State.setTime, State.bit_setF_ne _ _ _ _ (by simp), State.setTime]
    refine ⟨⟨hframe.trans rfl, fun f i hf => (t.getF_setF_ne n.val i 1 hf).trans (hkeep f i hf)⟩, ?_, fun m hm => ?_⟩
    · refine Prod.ext (t.getF_setF_same .CL_STAT_MUTED n 1) ((u.modLane_same n _).trans ?_)
      rw [hutime, show u.tick = s.tick from htick, show u.lanes[n] = s.lanes[n] from hlane]
    · exact Prod.ext (t.getF_setF_fin .CL_STAT_MUTED (by decide) hm 1) (u.modLane_ne _ hm)

theorem State.planResetAll_spec (s : State) : let t := s.planResetAll
    (LaneFrame s t ∧ (∀ f i, f ≠ .ARM_DEF_DEF → t.getF f i = s.getF f i) ∧
      (∀ n : Fin 96, t.lanes[n] = (s.lanes[n]).clearPlan) ∧ ∀ a : Fin 6, t.arms[a] = { s.arms[a] with conv := none }) ∧
    ∀ a : Fin 6, t.getF .ARM_DEF_DEF a = 0 := by
  let s1 : State := { s with lanes := s.lanes.map LaneSt.clearPlan, arms := s.arms.map (fun x => { x with conv := none }) }
  refine forIdx_each (s := s1) (fun a t => t.getF .ARM_DEF_DEF a) (fun t => LaneFrame s t ∧
    (∀ f i, f ≠ .ARM_DEF_DEF → t.getF f i = s.getF f i) ∧ (∀ n : Fin 96, t.lanes[n] = (s.lanes[n]).clearPlan) ∧
    ∀ a : Fin 6, t.arms[a] = { s.arms[a] with conv := none }) (fun a x => x = 0)
    ⟨rfl, fun _ _ _ => rfl, fun n => by simp [s1], fun a => by simp [s1]⟩ fun t a hf _ => ?_
  obtain ⟨hframe, hkeep, hlanes, harms⟩ := hf
  exact ⟨⟨LaneFrame.trans hframe rfl, fun f i hf => (t.getF_setF_ne _ _ _ hf).trans (hkeep f i hf), hlanes, harms⟩, t.getF_setF_same _ _ _,
    fun b hb => t.getF_setF_fin _ (by decide) hb _⟩

/-- The fields of the first event. -/
def firstNames : List Fld := [.TRIP_FIRST_VALID, .TRIP_FIRST_SRC, .TRIP_FIRST_MULTI, .TRIP_FIRST_FRET_FRET, .TRIP_FIRST_CNS_CNS]

theorem State.recordFirst_spec (s : State) (src : List Nat) : let t := s.recordFirst src
    t = { s with regs := t.regs } ∧ (∀ f ∉ firstNames, ∀ i, t.getF f i = s.getF f i) ∧
    (s.bit .TRIP_FIRST_VALID 0 = false → t.bit .TRIP_FIRST_VALID 0 = true ∧ t.getF .TRIP_FIRST_FRET_FRET 0 = s.fretnum % 2 ^ 32 ∧
      t.getF .TRIP_FIRST_CNS_CNS 0 = s.compact ∧ t.getF .TRIP_FIRST_SRC 0 = src.headD 0 % 2 ^ 7) := by
  intro t
  have ht : t = if s.bit .TRIP_FIRST_VALID 0 then s else s.setAll [(.TRIP_FIRST_VALID, 0, 1), (.TRIP_FIRST_SRC, 0, src.headD 0),
    (.TRIP_FIRST_MULTI, 0, b2n (decide (1 < src.length))), (.TRIP_FIRST_FRET_FRET, 0, s.fretnum), (.TRIP_FIRST_CNS_CNS, 0, s.compact)] := rfl
  cases hv : s.bit .TRIP_FIRST_VALID 0 with
  | true =>
    rw [hv, if_pos rfl] at ht
    rw [ht]
    exact ⟨rfl, fun _ _ _ => rfl, nofun⟩
  | false =>
    rw [hv, if_neg (by simp)] at ht
    have hget := s.getF_setAll (l := [(.TRIP_FIRST_VALID, 0, 1), (.TRIP_FIRST_SRC, 0, src.headD 0),
      (.TRIP_FIRST_MULTI, 0, b2n (decide (1 < src.length))), (.TRIP_FIRST_FRET_FRET, 0, s.fretnum), (.TRIP_FIRST_CNS_CNS, 0, s.compact)])
      (writtenKeys_nodup (by simp))
    rw [← ht] at hget
    have hvalid : t.getF .TRIP_FIRST_VALID 0 = 1 := hget (.TRIP_FIRST_VALID, 0, 1) (by simp)
    have hfret : t.getF .TRIP_FIRST_FRET_FRET 0 = s.fretnum % 2 ^ Fld.TRIP_FIRST_FRET_FRET.width :=
      hget (.TRIP_FIRST_FRET_FRET, 0, s.fretnum) (by simp)
    have hcns : t.getF .TRIP_FIRST_CNS_CNS 0 = s.timeNs % 2 ^ 32 % 2 ^ Fld.TRIP_FIRST_CNS_CNS.width :=
      hget (.TRIP_FIRST_CNS_CNS, 0, s.compact) (by simp)
    have hsrc : t.getF .TRIP_FIRST_SRC 0 = src.headD 0 % 2 ^ Fld.TRIP_FIRST_SRC.width := hget (.TRIP_FIRST_SRC, 0, src.headD 0) (by simp)
    rw [show Fld.TRIP_FIRST_FRET_FRET.width = 32 from rfl] at hfret
    rw [show Fld.TRIP_FIRST_CNS_CNS.width = 32 from rfl, Nat.mod_mod] at hcns
    rw [show Fld.TRIP_FIRST_SRC.width = 7 from rfl] at hsrc
    refine ⟨ht ▸ s.setAll_frame _, fun f hf i => ?_, fun _ => ⟨?_, hfret, hcns, hsrc⟩⟩
    · rw [ht]
      refine (s.setAll_regsBut _).getF_eq (fun e he heq => hf ?_) i
      simp only [List.map_cons, List.map_nil, List.mem_cons, List.not_mem_nil, or_false] at he
      rcases he with rfl | rfl | rfl | rfl | rfl <;> simp [firstNames, ← heq]
    · rw [State.bit, hvalid]
      rfl

/-! The sources that mute. -/

theorem State.mem_muting {s : State} {i : Nat} : i ∈ s.muting ↔ i < 69 ∧ s.latched i = true ∧ s.routedMute i = true := by
  rw [State.muting, State.sources, List.mem_filter, List.mem_range, Bool.and_eq_true]

/-- The reasons of the sources `l`, added to the mask `m`. -/
def reasonMask (m : Nat) (l : List Nat) : Nat := l.foldl (fun m i => m ||| 2 ^ reasonBit i) m

theorem testBit_reasonMask (l : List Nat) (m b : Nat) : (reasonMask m l).testBit b = (m.testBit b || l.any (fun i => reasonBit i == b)) := by
  induction l generalizing m with
  | nil => simp [reasonMask]
  | cons x xs ih =>
    rw [reasonMask, List.foldl_cons, ← reasonMask, ih, Nat.testBit_or, Nat.testBit_two_pow, List.any_cons, Bool.or_assoc]
    rfl

theorem reasonBit_lt (i : Nat) : reasonBit i < 6 := by
  unfold reasonBit
  split <;> decide

theorem reasonMask_lt (l : List Nat) : reasonMask 0 l < 2 ^ 6 := by
  refine Nat.lt_pow_two_of_testBit _ fun b hb => ?_
  rw [testBit_reasonMask, Nat.zero_testBit, Bool.false_or, List.any_eq_false]
  intro i _ h
  have := reasonBit_lt i
  have := beq_iff_eq.1 h
  omega

/-- What a burst says turns on the six reasons alone. -/
theorem burstAt_mod (old : Option Burst) (tick time m : Nat) : burstAt old tick time (m % 2 ^ 6) = burstAt old tick time m := by
  have h : burstReasons (m % 2 ^ 6) = burstReasons m := by
    have hf : (List.range 6).filter (fun b => (m % 2 ^ 6).testBit b) = (List.range 6).filter (fun b => m.testBit b) :=
      List.filter_congr fun b hb => by rw [Nat.testBit_mod_two_pow, decide_eq_true (List.mem_range.1 hb), Bool.true_and]
    rw [burstReasons, hf, burstReasons]
  cases old <;> simp only [burstAt, h]

theorem headD_filter_range {p : Nat → Bool} {k i : Nat} (hi : i < k) (hp : p i = true) (hmin : ∀ j < k, p j = true → i ≤ j) :
    ((List.range k).filter p).headD 0 = i := by
  have hfind : (List.range k).find? p = some i := by
    rw [List.find?_range_eq_some]
    exact ⟨hp, List.mem_range.2 hi, fun j hj => by
      have hnot : ¬p j = true := fun h => absurd (hmin j (by omega) h) (by omega)
      simpa using hnot⟩
  rw [List.headD_eq_head?, List.head?_filter, hfind]
  rfl

/-! A cycle of the fabric. -/

theorem State.muteCycle_none {s : State} (h : s.latchFixed.muting = []) : s.muteCycle = s.latchFixed := by
  rw [State.muteCycle]
  dsimp only
  rw [h]
  rfl

theorem State.muteCycle_held {s : State} (h : s.latchFixed.muting ≠ []) (hm : s.latchFixed.mstate = true) :
    let x := s.latchFixed
    let old := x.getF .TRIP_RMASK_RMASK 0
    let m := old ||| reasonMask 0 x.muting
    s.muteCycle = if m = old then x else (x.setF .TRIP_RMASK_RMASK 0 m).muteLanes m := by
  rw [State.muteCycle]
  dsimp only
  rw [if_neg (by simpa using h), if_pos hm]
  rfl

/-- The first cycle of a MUTE state (R271, R273). -/
def State.muteRisen (s : State) (m : Nat) : State := (s.setF .TRIP_STAT_MSTATE 0 1).setF .TRIP_RMASK_RMASK 0 m

theorem State.muteCycle_rise {s : State} (h : s.latchFixed.muting ≠ []) (hm : s.latchFixed.mstate = false) :
    let x := s.latchFixed
    let m := reasonMask 0 x.muting
    s.muteCycle = (((x.muteRisen m).recordFirst x.muting).muteLanes m).planResetAll := by
  rw [State.muteCycle]
  dsimp only
  rw [if_neg (by simpa using h), if_neg (by simp [hm])]
  rfl

/-- The fields that a cycle of the fabric writes beside the latches. -/
def muteNames : List Fld := [.TRIP_RMASK_RMASK, .TRIP_STAT_MSTATE, .CL_STAT_MUTED, .ARM_DEF_DEF] ++ firstNames

/-- What a MUTE mask leaves of a lane in UP. -/
def MutedLane (s t : State) (m : Nat) (n : Fin 96) : Prop :=
  t.bit .CL_STAT_MUTED n = true ∧ (t.lanes[n]).burst = some (burstAt (s.lanes[n]).burst s.tick (s.setTime n) m)

/-- The lanes after a MUTE mask has reached them. -/
theorem State.muteLanes_lane (s : State) (m : Nat) (n : Fin 96) : let t := s.muteLanes m
    ((t.lanes[n]).launch = (s.lanes[n]).launch) ∧ (s.laneUp n = true → MutedLane s t m n) ∧
      (s.laneUp n = false → t.getF .CL_STAT_MUTED n = s.getF .CL_STAT_MUTED n) := by
  obtain ⟨-, hlane⟩ := s.muteLanes_spec m
  have hn := hlane n
  cases hu : s.laneUp n with
  | false =>
    rw [hu, if_neg (by simp)] at hn
    obtain ⟨hmuted, hst⟩ := Prod.mk.inj hn
    exact ⟨congrArg LaneSt.launch hst, nofun, fun _ => hmuted⟩
  | true =>
    rw [hu, if_pos rfl] at hn
    obtain ⟨hmuted, hst⟩ := Prod.mk.inj hn
    refine ⟨by rw [hst, LaneSt.startBurst], fun _ => ⟨?_, by rw [hst, LaneSt.startBurst]⟩, nofun⟩
    rw [State.bit, hmuted]
    rfl

/-- The rise of the MUTE state. -/
theorem State.rise_spec (x : State) (src : List Nat) {m : Nat} (hm : m < 2 ^ 6) :
    let t := (((x.muteRisen m).recordFirst src).muteLanes m).planResetAll
    LaneFrame x t ∧ (∀ f ∉ muteNames, ∀ i, t.getF f i = x.getF f i) ∧ t.mstate = true ∧ t.getF .TRIP_RMASK_RMASK 0 = m ∧
      (∀ n : Fin 96, ((t.lanes[n]).launch = (x.lanes[n]).launch) ∧ (x.laneUp n = true → MutedLane x t m n) ∧
        (x.laneUp n = false → t.getF .CL_STAT_MUTED n = x.getF .CL_STAT_MUTED n) ∧
        (t.lanes[n]).level = 0 ∧ (t.lanes[n]).lastEdge = none ∧ (t.lanes[n]).phil = 0) ∧
      (∀ a : Fin 6, t.getF .ARM_DEF_DEF a = 0 ∧ (t.arms[a]).conv = none) ∧
      (x.bit .TRIP_FIRST_VALID 0 = false → t.bit .TRIP_FIRST_VALID 0 = true ∧ t.getF .TRIP_FIRST_FRET_FRET 0 = x.fretnum % 2 ^ 32 ∧
        t.getF .TRIP_FIRST_CNS_CNS 0 = x.compact ∧ t.getF .TRIP_FIRST_SRC 0 = src.headD 0 % 2 ^ 7) := by
  intro t
  let y := x.muteRisen m
  let z := y.recordFirst src
  let w := z.muteLanes m
  have hy (f : Fld) (h1 : f ≠ .TRIP_RMASK_RMASK) (h2 : f ≠ .TRIP_STAT_MSTATE) (i : Nat) : y.getF f i = x.getF f i :=
    (State.getF_setF_ne _ _ _ _ h1).trans (State.getF_setF_ne _ _ _ _ h2)
  obtain ⟨(hz : z = { y with regs := z.regs }), hzkeep, hzfirst⟩ := y.recordFirst_spec src
  obtain ⟨⟨hw, hwkeep⟩, -⟩ := z.muteLanes_spec m
  obtain ⟨⟨ht, htkeep, htlanes, htarms⟩, htdef⟩ := w.planResetAll_spec
  have hzkeep (f : Fld) (h : f ∉ firstNames) (i : Nat) : z.getF f i = y.getF f i := hzkeep f h i
  have hzx (f : Fld) (h1 : f ≠ .TRIP_RMASK_RMASK) (h2 : f ≠ .TRIP_STAT_MSTATE) (h3 : f ∉ firstNames) (i : Nat) : z.getF f i = x.getF f i :=
    (hzkeep f h3 i).trans (hy f h1 h2 i)
  have htz (f : Fld) (h1 : f ≠ .CL_STAT_MUTED) (h2 : f ≠ .ARM_DEF_DEF) (i : Nat) : t.getF f i = z.getF f i :=
    (htkeep f i h2).trans (hwkeep f i h1)
  have hmstate : t.getF .TRIP_STAT_MSTATE 0 = 1 := by
    rw [htz _ (by simp) (by simp), hzkeep _ (by simp [firstNames])]
    exact (State.getF_setF_ne _ _ _ _ (by simp)).trans (State.getF_setF_same _ _ _ _)
  have hmask : t.getF .TRIP_RMASK_RMASK 0 = m := by
    rw [htz _ (by simp) (by simp), hzkeep _ (by simp [firstNames])]
    exact (State.getF_setF_same _ _ _ _).trans (Nat.mod_eq_of_lt hm)
  have hzlanes : z.lanes = x.lanes := by rw [hz]; rfl
  have hztick : z.tick = x.tick := by rw [hz]; rfl
  refine ⟨LaneFrame.trans (t := z) (by rw [hz]; rfl) (LaneFrame.trans hw ht), fun f hf i => ?_, ?_, hmask, fun n => ?_, fun a => ⟨htdef a, ?_⟩, fun hv => ?_⟩
  · simp only [muteNames, List.mem_append, List.mem_cons, List.not_mem_nil, or_false, not_or] at hf
    obtain ⟨⟨h1, h2, h3, h4⟩, h5⟩ := hf
    exact (htz f h3 h4 i).trans (hzx f h1 h2 h5 i)
  · rw [State.mstate, State.bit, hmstate]
    rfl
  · obtain ⟨(hlaunch : (w.lanes[n]).launch = (z.lanes[n]).launch), (hup : z.laneUp n = true → MutedLane z w m n),
      (hdown : z.laneUp n = false → w.getF .CL_STAT_MUTED n = z.getF .CL_STAT_MUTED n)⟩ := z.muteLanes_lane m n
    have hlane : z.lanes[n] = x.lanes[n] := by rw [hzlanes]
    have hupx : z.laneUp n = x.laneUp n := by
      rw [State.laneUp, State.lstate, hzx _ (by simp) (by simp) (by simp [firstNames]), State.laneUp, State.lstate]
    have htime : z.setTime n = x.setTime n := by
      rw [State.setTime, State.bit, hzx _ (by simp) (by simp) (by simp [firstNames]), State.setTime, State.bit]
    have hmuted : t.getF .CL_STAT_MUTED n = w.getF .CL_STAT_MUTED n := htkeep _ _ (by simp)
    rw [hupx] at hup hdown
    have htn : t.lanes[n] = (w.lanes[n]).clearPlan := htlanes n
    refine ⟨?_, fun h => ?_, fun h => ?_, congrArg LaneSt.level htn, congrArg LaneSt.lastEdge htn, congrArg LaneSt.phil htn⟩
    · rw [htn, LaneSt.clearPlan_launch, hlaunch, hlane]
    · obtain ⟨hbit, hburst⟩ := hup h
      rw [hztick, htime, hlane] at hburst
      exact ⟨(congrArg (· == 1) hmuted).trans hbit, by rw [htn, LaneSt.clearPlan_burst, hburst]⟩
    · exact hmuted.trans ((hdown h).trans (hzx _ (by simp) (by simp) (by simp [firstNames]) _))
  · exact congrArg ArmSt.conv (htarms a)
  · obtain ⟨h1, h2, h3, h4⟩ := hzfirst ((congrArg (· == 1) (hy _ (by simp) (by simp) 0)).trans hv)
    rw [State.bit, htz _ (by simp) (by simp), htz _ (by simp) (by simp), htz _ (by simp) (by simp), htz _ (by simp) (by simp)]
    exact ⟨h1, h2.trans (congrArg (· % 2 ^ 32) (hy _ (by simp) (by simp) 0)), h3, h4⟩

/-- A mask that the MUTE state takes on while it stands. -/
theorem State.held_spec (x : State) (m : Nat) : let t := (x.setF .TRIP_RMASK_RMASK 0 m).muteLanes m
    LaneFrame x t ∧ (∀ f ∉ muteNames, ∀ i, t.getF f i = x.getF f i) ∧ t.mstate = x.mstate ∧ t.getF .TRIP_RMASK_RMASK 0 = m % 2 ^ 6 ∧
      t.getF .TRIP_FIRST_SRC 0 = x.getF .TRIP_FIRST_SRC 0 ∧
      ∀ n : Fin 96, ((t.lanes[n]).launch = (x.lanes[n]).launch) ∧ (x.laneUp n = true → MutedLane x t m n) := by
  intro t
  let y := x.setF .TRIP_RMASK_RMASK 0 m
  obtain ⟨⟨ht, hkeep⟩, -⟩ := y.muteLanes_spec m
  have hy (f : Fld) (h : f ≠ .TRIP_RMASK_RMASK) (i : Nat) : y.getF f i = x.getF f i := State.getF_setF_ne _ _ _ _ h
  refine ⟨LaneFrame.trans (t := y) rfl ht, fun f hf i => ?_, ?_, (hkeep _ _ (by simp)).trans (State.getF_setF_same _ _ _ _),
    (hkeep _ _ (by simp)).trans (hy _ (by simp) 0), fun n => ?_⟩
  · simp only [muteNames, List.mem_append, List.mem_cons, List.not_mem_nil, or_false, not_or] at hf
    obtain ⟨⟨h1, h2, h3, h4⟩, h5⟩ := hf
    exact (hkeep f i h3).trans (hy f h1 i)
  · exact congrArg (· == 1) ((hkeep .TRIP_STAT_MSTATE 0 (by simp)).trans (hy _ (by simp) 0))
  · obtain ⟨hlaunch, hup, -⟩ := y.muteLanes_lane m n
    have hupx : y.laneUp n = x.laneUp n := congrArg (· == lsUp) (hy _ (by simp) n)
    have htime : y.setTime n = x.setTime n := by rw [State.setTime, State.bit, hy _ (by simp), State.setTime, State.bit]
    refine ⟨hlaunch, fun h => ?_⟩
    obtain ⟨hbit, hburst⟩ := hup (hupx.trans h)
    rw [htime] at hburst
    exact ⟨hbit, hburst⟩

theorem State.mem_muting_latchFixed {s : State} {i : Nat} : i ∈ s.latchFixed.muting ↔
    (i < 69 ∧ (s.latched i = true ∨ (65 ≤ i ∧ s.asserted i = true))) ∧ s.routedMute i = true := by
  obtain ⟨honly, hlatch⟩ := s.latchFixed_spec
  have hroute : s.latchFixed.routedMute i = s.routedMute i := State.routedMute_congr (fun f hf j =>
    honly.getF_eq (fun e he heq => (show ∀ e ∈ latchKeys, e.1 ∉ muteRouteNames by decide) e he (heq ▸ hf)) j) i
  rw [State.mem_muting, hroute, and_assoc]
  exact and_congr_right fun h => by rw [hlatch i h]

theorem State.latchFixed_keeps (s : State) {f : Fld} (hf : f ∉ latchNames) (i : Nat) : s.latchFixed.getF f i = s.getF f i :=
  s.latchFixed_spec.1.getF_eq (fun e he heq => hf (by
    obtain ⟨g, hg, rfl⟩ := List.mem_map.1 he
    exact heq ▸ hg)) i

/-- What every cycle of the fabric leaves. -/
structure CycleKeeps (s t : State) : Prop where
  frame : LaneFrame s t
  regs : ∀ f ∉ latchNames ++ muteNames, ∀ i, t.getF f i = s.getF f i
  latches : ∀ i < 69, t.latched i = s.latchFixed.latched i
  launch : ∀ n : Fin 96, (t.lanes[n]).launch = (s.lanes[n]).launch
  muted : s.latchFixed.muting ≠ [] → t.mstate = true

theorem CycleKeeps.of_latchFixed {s t : State} (ht : LaneFrame s.latchFixed t) (hkeep : ∀ f ∉ muteNames, ∀ i, t.getF f i = s.latchFixed.getF f i)
    (hlaunch : ∀ n : Fin 96, (t.lanes[n]).launch = (s.latchFixed.lanes[n]).launch) (hm : s.latchFixed.muting ≠ [] → t.mstate = true) :
    CycleKeeps s t where
  frame := LaneFrame.trans s.latchFixed_spec.1.laneFrame ht
  regs f hf i := by
    rw [List.mem_append, not_or] at hf
    exact (hkeep f hf.2 i).trans (s.latchFixed_keeps hf.1 i)
  latches := State.latched_congr fun i hi => hkeep _ ((show ∀ i < 69, latchFld i ∉ muteNames by decide) i hi) 0
  launch n := by rw [hlaunch n, s.latchFixed_spec.1.1]
  muted := hm

theorem CycleKeeps.of_held {s : State} {m : Nat} (hm : s.latchFixed.mstate = true) :
    CycleKeeps s ((s.latchFixed.setF .TRIP_RMASK_RMASK 0 m).muteLanes m) := by
  have h := s.latchFixed.held_spec m
  generalize (s.latchFixed.setF .TRIP_RMASK_RMASK 0 m).muteLanes m = t at h ⊢
  obtain ⟨hframe, hkeep, hstate, -, -, hlane⟩ := h
  exact .of_latchFixed hframe hkeep (fun n => (hlane n).1) fun _ => hstate.trans hm

theorem CycleKeeps.of_rise {s : State} {m : Nat} {src : List Nat} (hm : m < 2 ^ 6) :
    CycleKeeps s ((((s.latchFixed.muteRisen m).recordFirst src).muteLanes m).planResetAll) := by
  have h := s.latchFixed.rise_spec src hm
  generalize (((s.latchFixed.muteRisen m).recordFirst src).muteLanes m).planResetAll = t at h ⊢
  obtain ⟨hframe, hkeep, hstate, -, hlane, -⟩ := h
  exact .of_latchFixed hframe hkeep (fun n => (hlane n).1) fun _ => hstate

theorem State.muteCycle_keeps (s : State) : CycleKeeps s s.muteCycle := by
  by_cases hsrc : s.latchFixed.muting = []
  · rw [State.muteCycle_none hsrc]
    exact .of_latchFixed (.refl _) (fun _ _ _ => rfl) (fun _ => rfl) fun h => absurd hsrc h
  · cases hm : s.latchFixed.mstate with
    | true =>
      rw [State.muteCycle_held hsrc hm]
      split_ifs with hold
      · exact .of_latchFixed (.refl _) (fun _ _ _ => rfl) (fun _ => rfl) fun _ => hm
      · exact .of_held hm
    | false =>
      rw [State.muteCycle_rise hsrc hm]
      exact .of_rise (reasonMask_lt _)

/-! The end of a MUTE state, and the latches. -/

theorem State.muteClear_spec (s : State) : let y := s.setF .TRIP_STAT_MSTATE 0 0
    let l := (.TRIP_STAT_MSTATE, 0) :: (List.range 96).map (fun n => (Fld.CL_STAT_MUTED, n))
    let t := forIdx (n := 96) (fun n t => t.setF .CL_STAT_MUTED n 0) y
    (OnlyRegs s t l ∧ t.getF .TRIP_STAT_MSTATE 0 = 0) ∧ ∀ n : Fin 96, t.getF .CL_STAT_MUTED n = 0 := by
  intro y l
  refine forIdx_each (s := y) (fun n t => t.getF .CL_STAT_MUTED n) (fun t => OnlyRegs s t l ∧ t.getF .TRIP_STAT_MSTATE 0 = 0) (fun _ x => x = 0)
    ⟨(OnlyRegs.refl s l).setF 0 List.mem_cons_self, State.getF_setF_same _ _ _ _⟩ fun t n hf _ => ?_
  obtain ⟨honly, hstate⟩ := hf
  refine ⟨⟨honly.setF 0 (List.mem_cons_of_mem _ (List.mem_map.2 ⟨n, List.mem_range.2 n.isLt, rfl⟩)), ?_⟩, State.getF_setF_same _ _ _ _,
    fun m hm => t.getF_setF_fin _ (by decide) hm 0⟩
  rw [State.getF_setF_ne _ _ _ _ (by simp), hstate]

/-- Where no fixed source is asserted, none is latched. -/
theorem State.latchFixed_id {s : State} (h : ∀ i, 65 ≤ i → i < 69 → s.asserted i = false) : s.latchFixed = s := by
  rw [State.latchFixed_eq, List.filter_eq_nil_iff.2]
  · rfl
  · intro i hi
    simp only [List.mem_cons, List.not_mem_nil, or_false] at hi
    simp [h i (by omega) (by omega)]

theorem muteStateSet_eq {s : State} (h : s.fabRuns = true) : exec .muteStateSet s = .next s.muteCycle := by
  rw [exec_muteStateSet, execMuteStateSet, h]
  rfl

/-- The mask says each reason of a source that mutes. -/
theorem State.reason_shown {s : State} {i : Nat} (hi : i ∈ s.latchFixed.muting) : s.muteCycle.testF .TRIP_RMASK_RMASK 0 (reasonBit i) = true := by
  let x := s.latchFixed
  have hsrc : x.muting ≠ [] := List.ne_nil_of_mem hi
  have hbit : (reasonMask 0 x.muting).testBit (reasonBit i) = true := by
    rw [testBit_reasonMask, Nat.zero_testBit, Bool.false_or]
    exact List.any_eq_true.2 ⟨i, hi, beq_self_eq_true _⟩
  cases hm : x.mstate with
  | true =>
    have hor : (x.getF .TRIP_RMASK_RMASK 0 ||| reasonMask 0 x.muting).testBit (reasonBit i) = true := by rw [Nat.testBit_or, hbit, Bool.or_true]
    rw [State.muteCycle_held hsrc hm]
    split_ifs with hold
    · rw [State.testF, ← hold]
      exact hor
    · obtain ⟨-, -, -, hmask, -⟩ := x.held_spec (x.getF .TRIP_RMASK_RMASK 0 ||| reasonMask 0 x.muting)
      rw [State.testF, hmask, Nat.testBit_mod_two_pow, hor, decide_eq_true (reasonBit_lt i)]
      rfl
  | false =>
    obtain ⟨-, -, -, hmask, -⟩ := x.rise_spec x.muting (reasonMask_lt x.muting)
    rw [State.muteCycle_rise hsrc hm, State.testF, hmask]
    exact hbit

/-- What mutes as the state rises (R271, R273). -/
theorem State.muteCycle_risen {s : State} (hsrc : s.latchFixed.muting ≠ []) (hm : s.mstate = false) : let t := s.muteCycle
    (∀ n : Fin 96, s.laneUp n = true → MutedLane s t (t.getF .TRIP_RMASK_RMASK 0) n) ∧
    (∀ n : Fin 96, s.laneUp n = false → t.getF .CL_STAT_MUTED n = s.getF .CL_STAT_MUTED n) ∧
    (∀ n : Fin 96, (t.lanes[n]).level = 0 ∧ (t.lanes[n]).lastEdge = none ∧ (t.lanes[n]).phil = 0) ∧
    (∀ a : Fin 6, t.getF .ARM_DEF_DEF a = 0 ∧ (t.arms[a]).conv = none) ∧
    (s.bit .TRIP_FIRST_VALID 0 = false → t.bit .TRIP_FIRST_VALID 0 = true ∧ t.getF .TRIP_FIRST_FRET_FRET 0 = s.fretnum % 2 ^ 32 ∧
      t.getF .TRIP_FIRST_CNS_CNS 0 = s.compact ∧ ∀ i, i ∈ s.latchFixed.muting → (∀ j ∈ s.latchFixed.muting, i ≤ j) → t.getF .TRIP_FIRST_SRC 0 = i) := by
  intro t
  let x := s.latchFixed
  have hx : x = { s with regs := x.regs } := s.latchFixed_spec.1.1
  have hget {f : Fld} (hf : f ∉ latchNames) (i : Nat) : x.getF f i = s.getF f i := s.latchFixed_keeps hf i
  have hup (n : Fin 96) : x.laneUp n = s.laneUp n := congrArg (· == lsUp) (hget (by simp [latchNames]) n)
  have htime (n : Fin 96) : x.setTime n = s.setTime n := by
    rw [State.setTime, State.bit, hget (by simp [latchNames]), State.setTime, State.bit]
  have htick : x.tick = s.tick := by rw [hx]
  have hlanes : x.lanes = s.lanes := by rw [hx]
  have hcompact : x.compact = s.compact := by rw [hx]; rfl
  obtain ⟨-, -, -, hmask, hlane, harm, hfirst⟩ := x.rise_spec x.muting (reasonMask_lt x.muting)
  have ht : t = (((x.muteRisen (reasonMask 0 x.muting)).recordFirst x.muting).muteLanes (reasonMask 0 x.muting)).planResetAll :=
    State.muteCycle_rise hsrc ((congrArg (· == 1) (hget (f := .TRIP_STAT_MSTATE) (by simp [latchNames]) 0)).trans hm)
  rw [← ht] at hmask hlane harm hfirst
  refine ⟨fun n hn => ?_, fun n hn => ?_, fun n => (hlane n).2.2.2, harm, fun hv => ?_⟩
  · obtain ⟨-, hmuted, -⟩ := hlane n
    have h := hmuted ((hup n).trans hn)
    rw [MutedLane, htick, htime, hlanes] at h
    rw [hmask]
    exact h
  · obtain ⟨-, -, hkeep, -⟩ := hlane n
    exact (hkeep ((hup n).trans hn)).trans (hget (by simp [latchNames]) _)
  · obtain ⟨h1, h2, h3, h4⟩ := hfirst ((congrArg (· == 1) (hget (f := .TRIP_FIRST_VALID) (by simp [latchNames]) 0)).trans hv)
    refine ⟨h1, h2.trans (congrArg (· % 2 ^ 32) (hget (by simp [latchNames]) 0)), h3.trans hcompact, fun i hi hmin => h4.trans ?_⟩
    have hlt := (State.mem_muting.1 hi).1
    have hhead : x.muting.headD 0 = i := headD_filter_range hlt (List.mem_filter.1 hi).2 fun j hj hp =>
      hmin j (List.mem_filter.2 ⟨List.mem_range.2 hj, hp⟩)
    rw [hhead, Nat.mod_eq_of_lt (by omega)]

/-- What a further source does while the state stands (R271). -/
theorem State.muteCycle_stays {s : State} (hsrc : s.latchFixed.muting ≠ []) (hm : s.mstate = true) : let t := s.muteCycle
    (∀ i < 6, s.testF .TRIP_RMASK_RMASK 0 i = true → t.testF .TRIP_RMASK_RMASK 0 i = true) ∧
    t.getF .TRIP_FIRST_SRC 0 = s.getF .TRIP_FIRST_SRC 0 ∧
    (t.getF .TRIP_RMASK_RMASK 0 ≠ s.getF .TRIP_RMASK_RMASK 0 → ∀ n : Fin 96, s.laneUp n = true → MutedLane s t (t.getF .TRIP_RMASK_RMASK 0) n) := by
  intro t
  let x := s.latchFixed
  let m := x.getF .TRIP_RMASK_RMASK 0 ||| reasonMask 0 x.muting
  have hx : x = { s with regs := x.regs } := s.latchFixed_spec.1.1
  have hget {f : Fld} (hf : f ∉ latchNames) (i : Nat) : x.getF f i = s.getF f i := s.latchFixed_keeps hf i
  have hup (n : Fin 96) : x.laneUp n = s.laneUp n := congrArg (· == lsUp) (hget (by simp [latchNames]) n)
  have htime (n : Fin 96) : x.setTime n = s.setTime n := by
    rw [State.setTime, State.bit, hget (by simp [latchNames]), State.setTime, State.bit]
  have htick : x.tick = s.tick := by rw [hx]
  have hlanes : x.lanes = s.lanes := by rw [hx]
  have hold : x.getF .TRIP_RMASK_RMASK 0 = s.getF .TRIP_RMASK_RMASK 0 := hget (by simp [latchNames]) 0
  have ht : t = if m = x.getF .TRIP_RMASK_RMASK 0 then x else (x.setF .TRIP_RMASK_RMASK 0 m).muteLanes m :=
    State.muteCycle_held hsrc ((congrArg (· == 1) (hget (f := .TRIP_STAT_MSTATE) (by simp [latchNames]) 0)).trans hm)
  by_cases hsame : m = x.getF .TRIP_RMASK_RMASK 0
  · rw [if_pos hsame] at ht
    rw [ht]
    exact ⟨fun i _ h => (congrArg (Nat.testBit · i) hold).trans h, hget (by simp [latchNames]) 0, fun h => absurd hold h⟩
  · rw [if_neg hsame] at ht
    obtain ⟨-, -, -, hmask, hfirst, hlane⟩ := x.held_spec m
    rw [← ht] at hmask hfirst hlane
    refine ⟨fun i hi h => ?_, hfirst.trans (hget (by simp [latchNames]) 0), fun _ n hn => ?_⟩
    · rw [State.testF, hmask, Nat.testBit_mod_two_pow, decide_eq_true hi, Bool.true_and, Nat.testBit_or, hold]
      exact Bool.or_eq_true_iff.2 (.inl h)
    · obtain ⟨hbit, hburst⟩ := (hlane n).2 ((hup n).trans hn)
      rw [htick, htime, hlanes] at hburst
      rw [hmask, MutedLane, burstAt_mod]
      exact ⟨hbit, hburst⟩

/-- The MUTE state of R268 to R275: a cycle with no source, with the state as it stands, and with its rise. -/
theorem muteState : Claims.MuteState := by
  intro s on mutes
  have hmem (i : Nat) : i ∈ s.latchFixed.muting ↔ mutes i := State.mem_muting_latchFixed
  obtain ⟨honly, hlatch⟩ := s.latchFixed_spec
  refine ⟨fun hrun hnone hclear => ?_, fun hrun hsome => ?_, fun hbus hnone hclear => ?_, fun hbus hsome => ?_⟩
  · rw [Ignores, muteStateSet_eq hrun, State.muteCycle_none, State.latchFixed_id hclear]
    exact List.eq_nil_iff_forall_not_mem.2 fun i hi => hnone i ((hmem i).1 hi)
  · have hsrc : s.latchFixed.muting ≠ [] := by
      obtain ⟨i, hi⟩ := hsome
      exact List.ne_nil_of_mem ((hmem i).2 hi)
    obtain ⟨hframe, -, hlat, hlaunch, hm⟩ := s.muteCycle_keeps
    refine ⟨_, muteStateSet_eq hrun, hm hsrc, fun i hi => ?_, fun i hi => State.reason_shown ((hmem i).2 hi), hframe, hlaunch, fun hno => ?_,
      fun hyes => State.muteCycle_stays hsrc hyes⟩
    · rw [hlat i hi, hlatch i hi]
      exact (and_iff_right hi).symm
    · obtain ⟨h1, h2, h3, h4, h5⟩ := State.muteCycle_risen hsrc hno
      refine ⟨h1, h2, h3, h4, fun hv => ?_⟩
      obtain ⟨hvalid, hfret, hcns, hfirst⟩ := h5 hv
      exact ⟨hvalid, hfret, hcns, fun i hi hmin => hfirst i ((hmem i).2 hi) fun j hj => hmin j ((hmem j).1 hj)⟩
  · have hquiet : (!s.muting.isEmpty || [65, 66, 67, 68].any (fun i => s.latched i || s.asserted i)) = false := by
      have hnil : s.muting = [] := List.eq_nil_iff_forall_not_mem.2 fun i hi => by
        obtain ⟨hlt, hl, hr⟩ := State.mem_muting.1 hi
        exact hnone i ⟨⟨hlt, .inl hl⟩, hr⟩
      have hfix {i : Nat} (h1 : 65 ≤ i) (h2 : i < 69) : (s.latched i || s.asserted i) = false := by
        rw [(hclear i h1 h2).1, (hclear i h1 h2).2]
        rfl
      rw [hnil, List.any_eq_false.2]
      · rfl
      · intro i hi
        simp only [List.mem_cons, List.not_mem_nil, or_false] at hi
        rw [hfix (by omega) (by omega)]
        simp
    obtain ⟨⟨hregs, hstate⟩, hlanes⟩ := s.muteClear_spec
    refine ⟨_, ?_, (congrArg (· == 1) hstate).trans rfl, hlanes, hregs⟩
    rw [exec_mclr, execMclr, if_pos hbus, State.muteClear, if_neg (by rw [hquiet]; simp)]
  · have hbusy : (!s.muting.isEmpty || [65, 66, 67, 68].any (fun i => s.latched i || s.asserted i)) = true := by
      obtain ⟨i, ⟨hlt, hon⟩, hr⟩ := hsome
      rw [Bool.or_eq_true]
      rcases hon with hl | ⟨hi, ha⟩
      · exact .inl (by simpa using List.ne_nil_of_mem (State.mem_muting.2 ⟨hlt, hl, hr⟩))
      · refine .inr (List.any_eq_true.2 ⟨i, ?_, by rw [ha, Bool.or_true]⟩)
        simp only [List.mem_cons, List.not_mem_nil, or_false]
        omega
    refine SetsOn.of_setAll (l := [(.TRIP_STAT_MCLRFAIL, 0, 1)]) ?_ (writtenKeys_nodup (by simp)) (by simp) rfl
    rw [exec_mclr, execMclr, if_pos hbus, State.muteClear, if_pos hbusy]
    rfl

theorem latSources_lt {k : Fin 3} {e : Nat × Nat} (h : e ∈ latSources k) : e.2 < 69 :=
  (show ∀ k : Fin 3, ∀ e ∈ latSources k, e.2 < 69 by decide) k e h

/-- The clear of latches (R23, R268): those whose source is not asserted, and the first one that is. -/
theorem State.clearLatches_spec (s : State) (k : Fin 3) (w : Word) :
    let hit := fun (b i : Nat) => (b, i) ∈ latSources k ∧ w.getLsbD b = true ∧ s.latched i = true
    let t := s.clearLatches k w
    let keys := latchKeys ++ [(.TRIP_STAT_CLRFAIL, 0), (.TRIP_STAT_CLRSRC, 0)]
    OnlyRegs s t keys ∧ (∀ i < 69, t.latched i = true ↔ s.latched i = true ∧ ¬∃ b, hit b i ∧ s.asserted i = false) ∧
    ((∀ b i, hit b i → s.asserted i = false) → t.bit .TRIP_STAT_CLRFAIL 0 = s.bit .TRIP_STAT_CLRFAIL 0) ∧
    (∀ b i, hit b i → s.asserted i = true → (∀ c j, hit c j → s.asserted j = true → i ≤ j) →
      t.bit .TRIP_STAT_CLRFAIL 0 = true ∧ t.getF .TRIP_STAT_CLRSRC 0 = i) := by
  intro hit t keys
  let hits := (latSources k).filter (fun e => w.getLsbD e.1 && s.latched e.2)
  let freed := (hits.filter (fun e => !s.asserted e.2)).map Prod.snd
  let held := (hits.filter (fun e => s.asserted e.2)).map Prod.snd
  let y := s.setLatches freed false
  have hmem (b i : Nat) : (b, i) ∈ hits ↔ hit b i := by rw [List.mem_filter, Bool.and_eq_true]
  have hfreed (i : Nat) : i ∈ freed ↔ ∃ b, hit b i ∧ s.asserted i = false := by
    simp only [freed, List.mem_map, List.mem_filter, Prod.exists, exists_eq_right, hmem, Bool.not_eq_true']
  have hheld (i : Nat) : i ∈ held ↔ ∃ b, hit b i ∧ s.asserted i = true := by
    simp only [held, List.mem_map, List.mem_filter, Prod.exists, exists_eq_right, hmem]
  obtain ⟨honly, hlatch⟩ := State.setLatches_spec (s := s) false (l := freed) fun i hi => by
    obtain ⟨b, ⟨hb, -⟩, -⟩ := (hfreed i).1 hi
    exact latSources_lt hb
  have hy : hits.foldl (fun t e => if s.asserted e.2 then t else t.setLatch e.2 false) s = y := by
    simp only [y, State.setLatches, freed, List.foldl_map, List.foldl_filter]
    congr 1
    funext t e
    cases s.asserted e.2 <;> rfl
  have ht : t = match held.min? with
    | none => y
    | some i => (y.setF .TRIP_STAT_CLRFAIL 0 1).setF .TRIP_STAT_CLRSRC 0 i := by
    rw [← hy]
    rfl
  have hylat (i : Nat) (hi : i < 69) : y.latched i = true ↔ s.latched i = true ∧ ¬∃ b, hit b i ∧ s.asserted i = false := by
    rw [hlatch i hi, ← hfreed]
    split_ifs with h <;> simp [h]
  have hykeys : OnlyRegs s y keys := honly.mono (List.subset_append_left _ _)
  have hyfail : y.getF .TRIP_STAT_CLRFAIL 0 = s.getF .TRIP_STAT_CLRFAIL 0 := honly.getF_eq (by decide) 0
  cases hmin : held.min? with
  | none =>
    rw [hmin] at ht
    have hnil := List.min?_eq_none_iff.1 hmin
    rw [ht]
    refine ⟨hykeys, hylat, fun _ => congrArg (· == 1) hyfail, fun b i hb ha => ?_⟩
    have := (hheld i).2 ⟨b, hb, ha⟩
    rw [hnil] at this
    exact absurd this List.not_mem_nil
  | some m =>
    rw [hmin] at ht
    obtain ⟨hm, hle⟩ := List.min?_eq_some_iff.1 hmin
    obtain ⟨c, hc, hca⟩ := (hheld m).1 hm
    have hlt : m < 69 := latSources_lt hc.1
    rw [ht]
    refine ⟨(hykeys.setF 1 (by simp [keys])).setF m (by simp [keys]), fun i hi => ?_, fun hnone => ?_, fun b i hb ha hfirst => ⟨?_, ?_⟩⟩
    · rw [State.latched_setF _ _ _ (by simp [latchNames]) i hi, State.latched_setF _ _ _ (by simp [latchNames]) i hi]
      exact hylat i hi
    · rw [hnone c m hc] at hca
      cases hca
    · rw [State.bit_setF_ne _ _ _ _ (by simp), State.bit_setF_same]
      rfl
    · rw [State.getF_setF_same, show Fld.TRIP_STAT_CLRSRC.width = 7 from rfl, Nat.mod_eq_of_lt (by omega)]
      exact le_antisymm (hle i ((hheld i).2 ⟨b, hb, ha⟩)) (hfirst c m hc hca)

theorem routeFlds_facts (r : Route) : let f := routeFlds r
    f.1 ≠ f.2.1 ∧ f.1 ∉ latchNames ++ muteNames ∧ f.2.1 ∉ latchNames ++ muteNames ∧ f.1.width = 1 ∧ f.2.1.width = 4 ∧
      f.1 ≠ .PMC_STAGE_STAGE ∧ f.2.1 ≠ .PMC_STAGE_STAGE := by
  cases r with
  | src n =>
    exact ⟨by simp [routeFlds], by simp [routeFlds, latchNames, muteNames, firstNames], by simp [routeFlds, latchNames, muteNames, firstNames],
      (rfl : Fld.TRIP_ROUTE_MUTE.width = 1), (rfl : Fld.TRIP_ROUTE_FG.width = 4), by simp [routeFlds], by simp [routeFlds]⟩
  | sw =>
    exact ⟨by simp [routeFlds], by simp [routeFlds, latchNames, muteNames, firstNames], by simp [routeFlds, latchNames, muteNames, firstNames],
      (rfl : Fld.TRIP_SWROUTE_MUTE.width = 1), (rfl : Fld.TRIP_SWROUTE_FG.width = 4), by simp [routeFlds], by simp [routeFlds]⟩
  | sup =>
    exact ⟨by simp [routeFlds], by simp [routeFlds, latchNames, muteNames, firstNames], by simp [routeFlds, latchNames, muteNames, firstNames],
      (rfl : Fld.TRIP_SUPROUTE_MUTE.width = 1), (rfl : Fld.TRIP_SUPROUTE_FG.width = 4), by simp [routeFlds], by simp [routeFlds]⟩

/-- The fields of a route's word. -/
theorem routeWord (w : Word) : bitsOf w.toNat 8 8 = w.toNat / 256 % 2 ∧ bitsOf w.toNat 3 0 = w.toNat % 16 := by
  simp [bitsOf]

/-- A route written where the fabric is not locked (R268, R269). -/
theorem State.writeRoute_unlocked {s : State} {r : Route} {w : Word} (hbus : s.fabBus = true) (hlock : s.bit .TRIP_CTRL_LOCK 0 = false) :
    let f := routeFlds r
    let t := s.writeRoute r w
    t.getF f.1 f.2.2 = w.toNat / 256 % 2 ∧ t.getF f.2.1 f.2.2 = w.toNat % 16 ∧ LaneFrame s t ∧
    (∀ i, r = .src i → s.latched i = true → w.toNat / 256 % 2 = 1 → t.mstate = true) := by
  intro f t
  obtain ⟨hne, hmute, hfg, hmutew, hfgw, hstage, hstage'⟩ := routeFlds_facts r
  let m := w.toNat / 256 % 2
  let g := w.toNat % 16
  let y := (s.setF f.1 f.2.2 m).setF f.2.1 f.2.2 g
  have hawake : y.getF .PMC_STAGE_STAGE 0 = s.getF .PMC_STAGE_STAGE 0 :=
    (State.getF_setF_ne _ _ _ _ hstage'.symm).trans (State.getF_setF_ne _ _ _ _ hstage.symm)
  have hrun : y.fabRuns = true := by
    rw [State.fabRuns, State.awake, hawake]
    exact ((Bool.and_eq_true _ _).mp hbus).2
  have ht : t = y.muteCycle := by
    change s.writeRoute r w = _
    rw [State.writeRoute, (routeWord w).1, (routeWord w).2, if_neg (by simp [hlock])]
    exact if_pos hrun
  have hkeeps := y.muteCycle_keeps
  have hym : y.getF f.1 f.2.2 = m := by
    rw [State.getF_setF_ne _ _ _ _ hne, State.getF_setF_same, hmutew]
    exact Nat.mod_mod _ _
  have hyg : y.getF f.2.1 f.2.2 = g := by
    rw [State.getF_setF_same, hfgw]
    exact Nat.mod_mod _ _
  rw [ht]
  refine ⟨(hkeeps.regs _ hmute _).trans hym, (hkeeps.regs _ hfg _).trans hyg, LaneFrame.trans (t := y) rfl hkeeps.frame, fun i hr hl hm => ?_⟩
  subst hr
  have hroute : y.routedMute i = true := by
    rw [State.routedMute, if_pos i.isLt]
    exact beq_iff_eq.2 (hym.trans hm)
  have hlatch : y.latched i = true := by
    rw [State.latched_setF _ _ _ (by simp [f, routeFlds, latchNames]) _ (by omega),
      State.latched_setF _ _ _ (by simp [f, routeFlds, latchNames]) _ (by omega)]
    exact hl
  exact hkeeps.muted (List.ne_nil_of_mem (State.mem_muting_latchFixed.2 ⟨⟨by omega, .inl hlatch⟩, hroute⟩))

theorem State.swTrip_eq (s : State) (n : Fin 24) : s.swTrip n = s.setLatch (40 + n) true := by
  have hn := n.isLt
  rw [State.setLatch_eq _ (by omega), if_pos (by omega), if_pos rfl]
  simp only [latchFld, latchBit, show ¬40 + n.val < 32 by omega, show ¬40 + n.val < 40 by omega, show 40 + n.val < 64 by omega, if_true, if_false,
    Nat.add_sub_cancel_left]
  rfl

/-- The latches and routes of R23, R268, R269 and R274. -/
theorem latchesAndRoutes : Claims.LatchesAndRoutes := by
  intro k w r n s hit f m g
  have hroute (hbus : s.fabBus = true) : exec (.routeWrite r w) s = .next (s.writeRoute r w) := by
    rw [exec_routeWrite, execRouteWrite, if_pos hbus]
  obtain ⟨hm, hg⟩ := routeWord w
  refine ⟨fun hbus => ?_, fun hbus hlock hne => ?_, fun hbus hlock hsame hsame' => ?_, fun hbus hlock => ?_, fun hlive hrun => ?_, fun hbus => ?_⟩
  · obtain ⟨honly, hlatch, hkeep, hfail⟩ := s.clearLatches_spec k w
    exact ⟨_, by rw [exec_latchClear, execLatchClear, if_pos hbus], hlatch, hkeep, hfail, honly⟩
  · refine SetsOn.of_setAll (l := [(.TRIP_STAT_LKERR, 0, 1)]) ?_ (writtenKeys_nodup (by simp)) (by simp) rfl
    rw [hroute hbus, State.writeRoute, if_pos hlock, hm, hg]
    exact congrArg _ (if_pos (decide_eq_true hne))
  · rw [Ignores, hroute hbus, State.writeRoute, if_pos hlock, hm, hg]
    exact congrArg _ (if_neg (by simpa using not_or.2 ⟨not_not.2 hsame, not_not.2 hsame'⟩))
  · obtain ⟨h1, h2, h3, h4⟩ := State.writeRoute_unlocked (r := r) (w := w) hbus hlock
    exact ⟨_, hroute hbus, h1, h2, h3, h4⟩
  · have hn := n.isLt
    refine ⟨s.swTrip n, by rw [exec_swTripRequest, execSwTripRequest, hlive, hrun]; rfl, (OnlyRegs.refl s _).setF _ (by simp), ?_, fun i hi hne => ?_⟩
    · rw [State.swTrip_eq]
      exact s.latched_setLatch_same (by omega) true
    · rw [State.swTrip_eq]
      exact s.latched_setLatch_ne (by omega) hi hne true
  · refine SetsOn.of_setAll (l := [(.TRIP_LAT2_SUP, 0, 1)]) ?_ (writtenKeys_nodup (by simp)) (by simp) rfl
    rw [exec_supTripRequest, execSupTripRequest, if_pos hbus]
    rfl

/-- Settles O53: the MUTE state by the cases of a cycle of the fabric, the latches by the rule of setting many of them. -/
theorem muteLatchesAndRoutes : Obligations.MuteLatchesAndRoutes := ⟨muteState, latchesAndRoutes⟩

end Sys2Proof.Machine
end

section
/-! SUPPORT. One lane of the cell links: its changes of state (R200 to R204, R208 to R210). -/
namespace Sys2Proof.Machine

-- The proofs one after another: all at once they would need more threads, and their stacks, than the check's memory holds.
set_option Elab.async false

/-- Nothing but lane `n` and the listed register fields changes. -/
structure LaneAlone (n : Fin 96) (l : List (Fld × Nat)) (s t : State) : Prop where
  frame : t = { s with regs := t.regs, lanes := t.lanes }
  regs : RegsBut s t l
  others : ∀ m : Fin 96, m ≠ n → t.lanes[m] = s.lanes[m]

namespace LaneAlone
variable {n : Fin 96} {l l' : List (Fld × Nat)} {s t u : State}

theorem refl (n : Fin 96) (l : List (Fld × Nat)) (s : State) : LaneAlone n l s s := ⟨rfl, .refl s l, fun _ _ => rfl⟩

theorem trans (h : LaneAlone n l s t) (h' : LaneAlone n l t u) : LaneAlone n l s u where
  frame := h'.frame.trans (congrArg (fun x : State => { x with regs := u.regs, lanes := u.lanes }) h.frame)
  regs := h.regs.trans h'.regs
  others m hm := (h'.others m hm).trans (h.others m hm)

theorem mono (h : LaneAlone n l s t) (hl : l ⊆ l') : LaneAlone n l' s t := ⟨h.frame, h.regs.mono hl, h.others⟩

theorem setF (h : LaneAlone n l s t) {f : Fld} {i : Nat} (v : Nat) (hm : (f, i) ∈ l) : LaneAlone n l s (t.setF f i v) :=
  h.trans ⟨rfl, (RegsBut.refl t l).setF v hm, fun _ _ => rfl⟩

theorem modLane (h : LaneAlone n l s t) (f : LaneSt → LaneSt) : LaneAlone n l s (t.modLane n f) :=
  h.trans ⟨rfl, .refl t l, fun _ hm => t.modLane_ne f hm⟩

theorem tick_eq (h : LaneAlone n l s t) : t.tick = s.tick := by rw [h.frame]

theorem getF_eq (h : LaneAlone n l s t) {f : Fld} (hf : ∀ e ∈ l, e.1 ≠ f) (i : Nat) : t.getF f i = s.getF f i := h.regs.getF_eq hf i

theorem bit_eq (h : LaneAlone n l s t) {f : Fld} (hf : ∀ e ∈ l, e.1 ≠ f) (i : Nat) : t.bit f i = s.bit f i := by
  rw [State.bit, h.getF_eq hf, State.bit]

theorem bus_eq (h : LaneAlone n l s t) (hl : ∀ e ∈ l, e.1 ≠ .PMC_STAGE_STAGE ∧ e.1 ≠ .PMC_PDSTAT_PWR) (m : Fin 96) :
    t.laneRuns m = s.laneRuns m ∧ t.inS4 = s.inS4 := by
  have hstage := h.getF_eq (fun e he => (hl e he).1) 0
  have hpwr := h.getF_eq (fun e he => (hl e he).2) 0
  obtain ⟨a, b, rfl⟩ : ∃ a b, t = { s with regs := a, lanes := b } := ⟨_, _, h.frame⟩
  refine ⟨?_, congrArg (· == 4) hstage⟩
  simp only [State.laneRuns, State.laneLive, State.powered, State.quadsRun, State.awake, State.testF, hstage, hpwr]
  rfl

end LaneAlone

/-! The check on a requested CLEAR (R250). -/

theorem State.clearCheck_spec (s : State) : OnlyRegs s s.clearCheck [(.CLG_CTRL_CLRGO, 0), (.CLG_STAT_CLRDONE, 0)] := by
  unfold State.clearCheck
  split_ifs
  · exact ((OnlyRegs.refl s _).setF 0 (by simp)).setF 1 (by simp)
  · exact .refl s _

theorem State.clearCheck_lanes (s : State) : s.clearCheck.lanes = s.lanes := by rw [s.clearCheck_spec.1]

theorem State.clearCheck_getF (s : State) {f : Fld} (h1 : f ≠ .CLG_CTRL_CLRGO) (h2 : f ≠ .CLG_STAT_CLRDONE) (i : Nat) :
    s.clearCheck.getF f i = s.getF f i := s.clearCheck_spec.2.getF_eq (by simp [h1.symm, h2.symm]) i

theorem LaneAlone.clearCheck {n : Fin 96} {l : List (Fld × Nat)} {s t : State} (h : LaneAlone n l s t)
    (hl : [(Fld.CLG_CTRL_CLRGO, 0), (.CLG_STAT_CLRDONE, 0)] ⊆ l) : LaneAlone n l s t.clearCheck :=
  h.trans ⟨by conv_lhs => rw [t.clearCheck_spec.1, ← t.clearCheck_lanes], t.clearCheck_spec.2.mono hl, fun _ _ => by rw [t.clearCheck_lanes]⟩

/-! LSTATE. -/

theorem State.laneUp_congr {s t : State} {n : Fin 96} (h : t.lstate n = s.lstate n) : t.laneUp n = s.laneUp n := by rw [State.laneUp, h, State.laneUp]

/-- The fields that lane `n`'s change of state writes by itself. -/
def setLstateFields (n : Fin 96) : List (Fld × Nat) := [(.CL_PHYSTAT_LSTATE, n), (.CL_DELAY_VALID, n), (.CL_DELAY_DLY, n)]

theorem State.setLstate_alone (s : State) (n : Fin 96) (v : Nat) : LaneAlone n (setLstateFields n) s (s.setLstate n v) := by
  unfold State.setLstate
  dsimp only
  have h := (LaneAlone.refl n (setLstateFields n) s).setF (f := .CL_PHYSTAT_LSTATE) (i := n) v (by simp [setLstateFields])
  split_ifs
  · exact ((h.setF 0 (by simp [setLstateFields])).setF 0 (by simp [setLstateFields])).modLane _
  · exact h

theorem State.lstate_setLstate (s : State) (n : Fin 96) {v : Nat} (hv : v < 8) : (s.setLstate n v).lstate n = v := by
  have hset : (s.setF .CL_PHYSTAT_LSTATE n v).getF .CL_PHYSTAT_LSTATE n = v := by
    rw [State.getF_setF_same]
    exact Nat.mod_eq_of_lt hv
  unfold State.setLstate
  dsimp only
  split_ifs
  · change State.getF (((s.setF .CL_PHYSTAT_LSTATE n v).setF .CL_DELAY_VALID n 0).setF .CL_DELAY_DLY n 0) .CL_PHYSTAT_LSTATE n = v
    rw [State.getF_setF_ne _ _ _ _ (by simp), State.getF_setF_ne _ _ _ _ (by simp), hset]
  · exact hset

/-- A lane that is not in UP changes its state alone. -/
theorem State.setLstate_eq {s : State} {n : Fin 96} {v : Nat} (h : s.laneUp n = false ∨ v = 3) : s.setLstate n v = s.setF .CL_PHYSTAT_LSTATE n v := by
  unfold State.setLstate
  refine if_neg ?_
  rcases h with h | h <;> simp [h, lsUp]

/-- What a lane drops as it leaves UP (R238, R250). -/
def LaneSt.leftUp (l : LaneSt) : LaneSt :=
  { l with dlyAcc := [], dlyOut := [], dlyWait := false, clrPend := false, heldTb := false, heldDly := false, heldClr := false, good := 0, errAt := [] }

theorem LaneSt.leftUp_facts (l : LaneSt) : l.leftUp.dlyAcc = [] ∧ l.leftUp.clrPend = false ∧ l.leftUp.burst = l.burst := ⟨rfl, rfl, rfl⟩

/-- A lane that leaves UP. -/
theorem State.setLstate_leaves {s : State} {n : Fin 96} {v : Nat} (h : s.laneUp n = true) (hv : v ≠ 3) : let t := s.setLstate n v
    t.getF .CL_DELAY_VALID n = 0 ∧ t.getF .CL_DELAY_DLY n = 0 ∧ t.lanes[n] = (s.lanes[n]).leftUp := by
  intro t
  let y := ((s.setF .CL_PHYSTAT_LSTATE n v).setF .CL_DELAY_VALID n 0).setF .CL_DELAY_DLY n 0
  have ht : t = y.modLane n LaneSt.leftUp := if_pos (by simp [h, lsUp, hv])
  have hvalid : y.getF .CL_DELAY_VALID n = 0 := by rw [State.getF_setF_ne _ _ _ _ (by simp), State.getF_setF_same, Nat.zero_mod]
  have hdly : y.getF .CL_DELAY_DLY n = 0 := by rw [State.getF_setF_same, Nat.zero_mod]
  rw [ht]
  exact ⟨hvalid, hdly, y.modLane_same n _⟩

theorem State.setLstate_burst (s : State) (n : Fin 96) (v : Nat) : ((s.setLstate n v).lanes[n]).burst = (s.lanes[n]).burst := by
  by_cases h : s.laneUp n = false ∨ v = 3
  · rw [State.setLstate_eq h]
    rfl
  · rw [not_or, Bool.not_eq_false] at h
    obtain ⟨-, -, hlane⟩ := State.setLstate_leaves h.1 h.2
    rw [hlane, (LaneSt.leftUp_facts _).2.2]

/-- A lane that is left in a state, with what follows from it. -/
theorem EntersState.of_setLstate {s t : State} {n : Fin 96} {v : Nat} {more : List (Fld × Nat)} (hv : v < 8)
    (h : LaneAlone n (lstateFields n ++ more) (s.setLstate n v) t)
    (hregs : ∀ f ∈ [Fld.CL_PHYSTAT_LSTATE, .CL_DELAY_VALID, .CL_DELAY_DLY], t.getF f n = (s.setLstate n v).getF f n)
    (hacc : (t.lanes[n]).dlyAcc = ((s.setLstate n v).lanes[n]).dlyAcc) (hclr : (t.lanes[n]).clrPend = ((s.setLstate n v).lanes[n]).clrPend)
    (hburst : (t.lanes[n]).burst = ((s.setLstate n v).lanes[n]).burst) : EntersState n v more s t := by
  have hall : LaneAlone n (lstateFields n ++ more) s t :=
    ((s.setLstate_alone n v).mono (by simp [setLstateFields, lstateFields])).trans h
  refine ⟨(hregs _ (by simp)).trans (s.lstate_setLstate n hv), fun hup hne => ?_, hburst.trans (s.setLstate_burst n v), hall.others, hall.frame, hall.regs⟩
  obtain ⟨hvalid, hdly, hlane⟩ := State.setLstate_leaves hup hne
  exact ⟨congrArg (· == 1) ((hregs _ (by simp)).trans hvalid), (hregs _ (by simp)).trans hdly, by rw [hacc, hlane, (LaneSt.leftUp_facts _).1],
    by rw [hclr, hlane, (LaneSt.leftUp_facts _).2.1]⟩

/-- A change of state after a write that bears on nothing of it. -/
theorem EntersState.after {s s' t : State} {n : Fin 96} {v : Nat} {more : List (Fld × Nat)} (h : EntersState n v more s' t) (hs : LaneAlone n more s s')
    (hl : ∀ e ∈ more, e.1 ≠ .CL_PHYSTAT_LSTATE) (hburst : (s'.lanes[n]).burst = (s.lanes[n]).burst) : EntersState n v more s t := by
  obtain ⟨hstate, hleave, hb, hothers, hframe, hregs⟩ := h
  have hall : LaneAlone n (lstateFields n ++ more) s t := (hs.mono (List.subset_append_right _ _)).trans ⟨hframe, hregs, hothers⟩
  have hup : s'.laneUp n = s.laneUp n := State.laneUp_congr (hs.getF_eq hl n)
  rw [hup] at hleave
  exact ⟨hstate, hleave, hb.trans hburst, hall.others, hall.frame, hall.regs⟩

theorem EntersState.mono {s t : State} {n : Fin 96} {v : Nat} {l more : List (Fld × Nat)} (h : EntersState n v l s t) (hl : l ⊆ more) :
    EntersState n v more s t := by
  obtain ⟨hstate, hleave, hb, hothers, hframe, hregs⟩ := h
  exact ⟨hstate, hleave, hb, hothers, hframe, hregs.mono (List.append_subset.2 ⟨List.subset_append_left _ _, fun _ he => List.mem_append_right _ (hl he)⟩)⟩

/-- What a change of state leaves of a field that it does not write. -/
theorem EntersState.getF_eq {s t : State} {n : Fin 96} {v : Nat} (h : EntersState n v [] s t) {f : Fld} (hf : ∀ e ∈ lstateFields n, e.1 ≠ f) (i : Nat) :
    t.getF f i = s.getF f i := by
  obtain ⟨-, -, -, -, -, hregs⟩ := h
  rw [List.append_nil] at hregs
  exact hregs.getF_eq hf i

theorem EntersState.alone {s t : State} {n : Fin 96} {v : Nat} {more : List (Fld × Nat)} (h : EntersState n v more s t) :
    LaneAlone n (lstateFields n ++ more) s t := by
  obtain ⟨-, -, -, hothers, hframe, hregs⟩ := h
  exact ⟨hframe, hregs, hothers⟩

/-! Training (R201, R202). -/

/-- The counts with which a lane starts training. -/
def LaneSt.retrained (tick : Nat) (l : LaneSt) : LaneSt := { l with trainAt := tick, good := 0, inverted := 0, tbGood := 0, tbSent := false }

theorem LaneSt.retrained_facts (tick : Nat) (l : LaneSt) : (l.retrained tick).dlyAcc = l.dlyAcc ∧ (l.retrained tick).clrPend = l.clrPend ∧
    (l.retrained tick).burst = l.burst ∧ (l.retrained tick).good = 0 ∧ (l.retrained tick).inverted = 0 ∧ (l.retrained tick).tbGood = 0 ∧
    (l.retrained tick).tbSent = false ∧ (l.retrained tick).trainAt = tick := ⟨rfl, rfl, rfl, rfl, rfl, rfl, rfl, rfl⟩

theorem State.train_spec (s : State) (n : Fin 96) : Trains n [] s (s.train n) := by
  let a := s.setLstate n lsTa
  let b := a.modLane n (LaneSt.retrained s.tick)
  let c := b.clearCheck
  let d := s.train n
  have hd : d = if !c.bit .CL_PHYCTRL_RXPOLAUTO n then c.setF .CL_PHYSTAT_RXINVST n (c.getF .CL_PHYCTRL_RXINV n) else c := rfl
  have halone : LaneAlone n (lstateFields n ++ []) a c := ((LaneAlone.refl n _ a).modLane _).clearCheck (by simp [lstateFields])
  have hlane : d.lanes[n] = (a.lanes[n]).retrained s.tick := by
    have hcd : d.lanes = c.lanes := by
      rw [hd]
      split_ifs <;> rfl
    rw [hcd, show c.lanes = b.lanes from b.clearCheck_lanes]
    exact a.modLane_same n _
  have hcget {f : Fld} (h1 : f ≠ .CLG_CTRL_CLRGO) (h2 : f ≠ .CLG_STAT_CLRDONE) (i : Nat) : c.getF f i = a.getF f i := b.clearCheck_getF h1 h2 i
  have hdget {f : Fld} (h1 : f ≠ .CLG_CTRL_CLRGO) (h2 : f ≠ .CLG_STAT_CLRDONE) (h3 : f ≠ .CL_PHYSTAT_RXINVST) (i : Nat) : d.getF f i = a.getF f i := by
    refine Eq.trans ?_ (hcget h1 h2 i)
    rw [hd]
    split_ifs
    · exact State.getF_setF_ne _ _ _ _ h3
    · rfl
  have haget {f : Fld} (h1 : f ≠ .CL_PHYSTAT_LSTATE) (h2 : f ≠ .CL_DELAY_VALID) (h3 : f ≠ .CL_DELAY_DLY) (i : Nat) : a.getF f i = s.getF f i :=
    (s.setLstate_alone n lsTa).getF_eq (by simp [setLstateFields, h1.symm, h2.symm, h3.symm]) i
  have hauto : c.bit .CL_PHYCTRL_RXPOLAUTO n = s.bit .CL_PHYCTRL_RXPOLAUTO n :=
    congrArg (· == 1) ((hcget (by simp) (by simp) _).trans (haget (by simp) (by simp) (by simp) _))
  have hcd : LaneAlone n (lstateFields n ++ []) c d := by
    rw [hd]
    split_ifs
    · exact (LaneAlone.refl n _ c).setF _ (by simp [lstateFields])
    · exact .refl n _ c
  obtain ⟨hacc, hclr, hburst, hgood, hinv, htb, hsent, hat⟩ := LaneSt.retrained_facts s.tick a.lanes[n]
  refine ⟨EntersState.of_setLstate (by decide) (halone.trans hcd) ?_ (hlane ▸ hacc) (hlane ▸ hclr) (hlane ▸ hburst), ?_, hlane ▸ hgood, hlane ▸ hinv,
    hlane ▸ htb, hlane ▸ hsent, hlane ▸ hat⟩
  · intro f hf
    simp only [List.mem_cons, List.not_mem_nil, or_false] at hf
    rcases hf with rfl | rfl | rfl <;> exact hdget (by simp) (by simp) (by simp) _
  · change d.getF _ _ % 2 = _
    rw [hd, hauto]
    cases s.bit .CL_PHYCTRL_RXPOLAUTO n with
    | true =>
      rw [if_neg (by simp), if_pos rfl]
      exact congrArg (· % 2) ((hcget (by simp) (by simp) _).trans (haget (by simp) (by simp) (by simp) _))
    | false =>
      rw [if_pos (by simp), if_neg (by simp), State.getF_setF_same]
      refine (Nat.mod_mod _ _).trans (congrArg (· % 2) ?_)
      exact (hcget (by simp) (by simp) _).trans (haget (by simp) (by simp) (by simp) _)

/-- The fields whose values training turns on. -/
def trainReads : List Fld := [.CL_PHYSTAT_LSTATE, .CL_PHYCTRL_RXPOLAUTO, .CL_PHYSTAT_RXINVST, .CL_PHYCTRL_RXINV]

/-- Training after writes that bear on nothing of it. -/
theorem Trains.after {s s' t : State} {n : Fin 96} {more : List (Fld × Nat)} (h : Trains n [] s' t) (hs : LaneAlone n more s s')
    (hl : ∀ e ∈ more, e.1 ∉ trainReads) (hburst : (s'.lanes[n]).burst = (s.lanes[n]).burst) : Trains n more s t := by
  obtain ⟨henter, hpol, hgood, hinv, htb, hsent, hat⟩ := h
  have hget {f : Fld} (hf : f ∈ trainReads) : s'.getF f n = s.getF f n := hs.getF_eq (fun e he heq => hl e he (heq ▸ hf)) n
  rw [State.bit, hget (f := .CL_PHYCTRL_RXPOLAUTO) (by simp [trainReads]), hget (f := .CL_PHYSTAT_RXINVST) (by simp [trainReads]),
    hget (f := .CL_PHYCTRL_RXINV) (by simp [trainReads])] at hpol
  exact ⟨EntersState.after (EntersState.mono henter (List.nil_subset _)) hs (fun e he heq => hl e he (by simp [heq, trainReads])) hburst, hpol, hgood, hinv, htb, hsent,
    hat.trans hs.tick_eq⟩

/-- What training leaves of a field that it does not write. -/
theorem Trains.getF_eq {s t : State} {n : Fin 96} (h : Trains n [] s t) {f : Fld} (hf : ∀ e ∈ lstateFields n, e.1 ≠ f) (i : Nat) : t.getF f i = s.getF f i :=
  EntersState.getF_eq h.1 hf i

/-! Entry into UP (R200, R271). -/

/-- What lane `n` is as it enters UP, before the MUTE state is looked at. -/
def State.upState (s : State) (n : Fin 96) : State :=
  let s1 := (s.setF .CL_PHYSTAT_LSTATE n 3).modLane n (fun l => { l with good := 0 })
  if s.bit .CL_RXEQ_ADAPT n then s1.draw.2.setF .CL_RXEQ_PEAK n s1.draw.1.toNat else s1

theorem State.enterUp_eq (s : State) (n : Fin 96) : s.enterUp n =
    if s.mstate then ((s.upState n).setF .CL_STAT_MUTED n 1).burst n (s.getF .TRIP_RMASK_RMASK 0) else s.upState n := by
  rw [State.enterUp, State.setLstate_eq (v := lsUp) (.inr rfl)]
  rfl

theorem State.upState_spec (s : State) (n : Fin 96) : let t := s.upState n
    t.lstate n = 3 ∧ (s.bit .CL_RXEQ_ADAPT n = false → t.getF .CL_RXEQ_PEAK n = s.getF .CL_RXEQ_PEAK n) ∧
    t = { s with regs := t.regs, lanes := t.lanes, free := t.free } ∧ RegsBut s t [(.CL_PHYSTAT_LSTATE, n), (.CL_RXEQ_PEAK, n)] ∧
    t.lanes[n] = { s.lanes[n] with good := 0 } ∧ ∀ m : Fin 96, m ≠ n → t.lanes[m] = s.lanes[m] := by
  intro t
  let y := s.setF .CL_PHYSTAT_LSTATE n 3
  let z := y.modLane n (fun l => { l with good := 0 })
  have hz : z.lstate n = 3 := s.getF_setF_same .CL_PHYSTAT_LSTATE n 3
  have hregs : RegsBut s y [(.CL_PHYSTAT_LSTATE, n), (.CL_RXEQ_PEAK, n)] := (RegsBut.refl s _).setF 3 (by simp)
  have hpeak : y.getF .CL_RXEQ_PEAK n = s.getF .CL_RXEQ_PEAK n := State.getF_setF_ne _ _ _ _ (by simp)
  have hzn : z.lanes[n] = { s.lanes[n] with good := 0 } := y.modLane_same n _
  have hzm (m : Fin 96) (hm : m ≠ n) : z.lanes[m] = s.lanes[m] := y.modLane_ne _ hm
  have ht : t = if s.bit .CL_RXEQ_ADAPT n then z.draw.2.setF .CL_RXEQ_PEAK n z.draw.1.toNat else z := rfl
  cases had : s.bit .CL_RXEQ_ADAPT n with
  | false =>
    rw [had, if_neg (by simp)] at ht
    rw [ht]
    exact ⟨hz, fun _ => hpeak, rfl, hregs, hzn, hzm⟩
  | true =>
    rw [had, if_pos rfl] at ht
    rw [ht]
    exact ⟨(z.draw.2.getF_setF_ne _ _ _ (by simp)).trans hz, nofun, rfl, RegsBut.setF (t := z.draw.2) hregs _ (by simp), hzn, hzm⟩

theorem State.enterUp_spec (s : State) (n : Fin 96) : GoesUp n s (s.enterUp n) := by
  obtain ⟨hstate, hpeak, hframe, hregs, hlane, hothers⟩ := s.upState_spec n
  rw [s.enterUp_eq n]
  generalize s.upState n = x at hstate hpeak hframe hregs hlane hothers ⊢
  have hsub : [(Fld.CL_PHYSTAT_LSTATE, n.val), (.CL_RXEQ_PEAK, n.val)] ⊆ [(.CL_PHYSTAT_LSTATE, n.val), (.CL_RXEQ_PEAK, n.val), (.CL_STAT_MUTED, n.val)] := by
    simp
  cases hm : s.mstate with
  | false =>
    rw [if_neg (by simp)]
    exact ⟨hstate, hpeak, fun h => absurd (hm.symm.trans h) nofun, fun _ => ⟨hregs.getF_eq (by simp) _, by rw [hlane]⟩, hothers, hframe, hregs.mono hsub⟩
  | true =>
    rw [if_pos rfl]
    let y := x.setF .CL_STAT_MUTED n 1
    have htime : y.setTime n = s.setTime n := by
      rw [State.setTime, State.bit_setF_ne _ _ _ _ (by simp), State.bit, hregs.getF_eq (by simp), State.setTime, State.bit]
    have htick : y.tick = s.tick := by
      change x.tick = _
      rw [hframe]
    have hburst : (((y.burst n (s.getF .TRIP_RMASK_RMASK 0)).lanes[n]).burst) =
        some (burstAt (s.lanes[n]).burst s.tick (s.setTime n) (s.getF .TRIP_RMASK_RMASK 0)) := by
      rw [State.burst, State.modLane_same, htime, htick, LaneSt.startBurst, show y.lanes[n] = _ from hlane]
    have hyget {f : Fld} (hf : f ≠ .CL_STAT_MUTED) : y.getF f n = x.getF f n := State.getF_setF_ne _ _ _ _ hf
    refine ⟨(hyget (by simp)).trans hstate, fun h => (hyget (by simp)).trans (hpeak h), fun _ => ⟨?_, hburst⟩,
      fun h => absurd (hm.symm.trans h) nofun, fun m hne => (y.modLane_ne _ hne).trans (hothers m hne), ?_, ?_⟩
    · exact beq_iff_eq.2 (x.getF_setF_same .CL_STAT_MUTED n 1)
    · obtain ⟨a, b, c, rfl⟩ : ∃ a b c, x = { s with regs := a, lanes := b, free := c } := ⟨_, _, _, hframe⟩
      rfl
    · exact (hregs.mono hsub).setF (f := .CL_STAT_MUTED) (i := n) 1 (by simp)

/-- Entry into UP after a step of training on the lane's own counts. -/
theorem GoesUp.of_modLane {s t : State} {n : Fin 96} {f : LaneSt → LaneSt} (h : GoesUp n (s.modLane n f) t)
    (hf : (f s.lanes[n]).burst = (s.lanes[n]).burst) : GoesUp n s t := by
  obtain ⟨hstate, hpeak, hmute, hquiet, hothers, hframe, hregs⟩ := h
  rw [s.modLane_same n f, hf] at hmute hquiet
  exact ⟨hstate, hpeak, hmute, hquiet, fun m hm => (hothers m hm).trans (s.modLane_ne f hm), hframe, hregs⟩

end Sys2Proof.Machine
end

section
/-! Electrical idle of the cell lanes (R208 to R210). -/
namespace Sys2Proof.Machine

-- The proofs one after another: all at once they would need more threads, and their stacks, than the check's memory holds.
set_option Elab.async false

/-! The steps of electrical idle. -/

/-- A lane sends the EIS (R208). -/
theorem State.enterIdle_spec (s : State) (n : Fin 96) : EntersState n 4 [] s (s.enterIdle n) ∧
    ((s.enterIdle n).lanes[n]).rxIdle = !s.laneUp n := by
  let a := s.setLstate n lsEiEnter
  let b := a.modLane n (fun l => { l with exitDue := false, rxIdle := !s.laneUp n })
  have hlane : (s.enterIdle n).lanes[n] = { a.lanes[n] with exitDue := false, rxIdle := !s.laneUp n } := by
    rw [show (s.enterIdle n).lanes = b.lanes from b.clearCheck_lanes]
    exact a.modLane_same n _
  have halone : LaneAlone n (lstateFields n ++ []) a (s.enterIdle n) := ((LaneAlone.refl n _ a).modLane _).clearCheck (by simp [lstateFields])
  refine ⟨EntersState.of_setLstate (by decide) halone (fun f hf => ?_) (by rw [hlane]; rfl) (by rw [hlane]; rfl) (by rw [hlane]; rfl), by rw [hlane]⟩
  simp only [List.mem_cons, List.not_mem_nil, or_false] at hf
  rcases hf with rfl | rfl | rfl <;> exact b.clearCheck_getF (by simp) (by simp) _

theorem State.exitIdle_quick {s : State} {n : Fin 96} (h : s.bit .CL_PHYCTRL_FXEN n = true)
    (hmax : s.tick - (s.lanes[n]).idleAt ≤ s.getF .CL_PHYCTRL_IDLEMAX n * 4000) : s.exitIdle n = s.setLstate n lsExit :=
  if_pos (by rw [h, decide_eq_true hmax]; rfl)

theorem State.exitIdle_slow {s : State} {n : Fin 96}
    (h : ¬(s.bit .CL_PHYCTRL_FXEN n = true ∧ s.tick - (s.lanes[n]).idleAt ≤ s.getF .CL_PHYCTRL_IDLEMAX n * 4000)) : s.exitIdle n = s.train n :=
  if_neg (by simpa [Bool.and_eq_true] using h)

/-- An exit asked for as the lane goes idle (R209). -/
theorem State.exitIdle_fresh {s y : State} {n : Fin 96} {l : List (Fld × Nat)} (h : LaneAlone n l s y) (hl : lstateFields n ⊆ l)
    (hat : (y.lanes[n]).idleAt = y.tick) : LaneAlone n l s (y.exitIdle n) ∧ (y.exitIdle n).lstate n = if y.bit .CL_PHYCTRL_FXEN n then 6 else 1 := by
  cases hfx : y.bit .CL_PHYCTRL_FXEN n with
  | true =>
    rw [State.exitIdle_quick hfx (by rw [hat, Nat.sub_self]; exact Nat.zero_le _), if_pos rfl]
    have hfields : setLstateFields n ⊆ l := fun e he => hl (List.mem_of_mem_take (i := 3) he)
    exact ⟨h.trans ((y.setLstate_alone n lsExit).mono hfields), y.lstate_setLstate n (by decide)⟩
  | false =>
    obtain ⟨henter, -⟩ := y.train_spec n
    rw [State.exitIdle_slow (by simp [hfx]), if_neg (by simp)]
    have halone : LaneAlone n (lstateFields n ++ []) y (y.train n) := EntersState.alone henter
    exact ⟨h.trans (halone.mono (by rw [List.append_nil]; exact hl)), henter.1⟩

/-- Lane `n` in idle from now on (R208). -/
def State.idled (s : State) (n : Fin 96) : State := (s.setF .CL_PHYSTAT_LSTATE n 5).modLane n (fun l => { l with idleAt := s.tick })

theorem State.idled_spec {s : State} {n : Fin 96} (h : s.lstate n = 4) : let t := s.idled n
    (s.setLstate n lsEidle).modLane n (fun l => { l with idleAt := s.tick }) = t ∧ LaneAlone n [(.CL_PHYSTAT_LSTATE, n)] s t ∧ t.lstate n = 5 ∧
      t.lanes[n] = { s.lanes[n] with idleAt := s.tick } := by
  refine ⟨?_, ((LaneAlone.refl n _ s).setF 5 (by simp)).modLane _, s.getF_setF_same .CL_PHYSTAT_LSTATE n 5, State.modLane_same _ n _⟩
  rw [State.setLstate_eq (.inl (by rw [State.laneUp, h]; rfl))]
  rfl

/-- The exit asked for while the EIS was sent, and that in S4 (R209, R272). -/
theorem State.idled_exits {s x : State} {n : Fin 96} (hx : x = s.idled n) (h : s.lstate n = 4) (due : Bool) :
    let t := if due then x.eireqClear n else x.exitIdle n
    t.lstate n = (if s.bit .CL_PHYCTRL_FXEN n then 6 else 1) ∧ LaneAlone n ((.CL_PHYCTRL_EIREQ, n.val) :: lstateFields n) s t := by
  obtain ⟨-, halone, hstate, hlane⟩ := State.idled_spec h
  rw [← hx] at halone hstate hlane
  have hxs : LaneAlone n ((.CL_PHYCTRL_EIREQ, n.val) :: lstateFields n) s x := halone.mono (by simp [lstateFields])
  have hfx : x.bit .CL_PHYCTRL_FXEN n = s.bit .CL_PHYCTRL_FXEN n := halone.bit_eq (by simp) n
  have hat : (x.lanes[n]).idleAt = x.tick := by rw [hlane, halone.tick_eq]
  cases due with
  | false =>
    obtain ⟨hall, hst⟩ := State.exitIdle_fresh hxs (List.subset_cons_self _ _) hat
    rw [hfx] at hst
    exact ⟨hst, hall⟩
  | true =>
    let y := x.setF .CL_PHYCTRL_EIREQ n 0
    have hy : x.eireqClear n = y.exitIdle n := if_pos (by rw [hstate]; rfl)
    obtain ⟨hall, hst⟩ := State.exitIdle_fresh (y := y) (hxs.setF 0 (by simp)) (List.subset_cons_self _ _) hat
    rw [State.bit_setF_ne _ _ _ _ (by simp), hfx] at hst
    rw [if_pos rfl, hy]
    exact ⟨hst, hall⟩

/-- Settles O7: each command by the lane's steps into and out of idle. -/
theorem electricalIdleEntryAndExit : Obligations.ElectricalIdleEntryAndExit := by
  intro n s quick
  let a := s.setF .CL_PHYCTRL_EIREQ n 1
  let b := s.setF .CL_PHYCTRL_EIREQ n 0
  have ha : LaneAlone n [(.CL_PHYCTRL_EIREQ, n)] s a := (LaneAlone.refl n _ s).setF 1 (by simp)
  have hb : LaneAlone n [(.CL_PHYCTRL_EIREQ, n)] s b := (LaneAlone.refl n _ s).setF 0 (by simp)
  have haup : a.laneUp n = s.laneUp n := State.laneUp_congr (ha.getF_eq (by simp) n)
  have hup {v : Nat} (h : s.lstate n = v) : s.laneUp n = (v == 3) := by rw [State.laneUp, h]; rfl
  have hset (hbus : s.laneBus n = true) (h4 : s.inS4 = false) : exec (.eireqSet n) s = .next (if s.laneUp n then a.enterIdle n else a) := by
    rw [exec_eireqSet, execEireqSet, if_pos hbus, State.eireqSet, if_neg (by simp [h4])]
  have hclear (hbus : s.laneBus n = true) : exec (.eireqClear n) s = .next (if s.lstate n == lsEidle then b.exitIdle n else b.exitLater n) := by
    rw [exec_eireqClear, execEireqClear, if_pos hbus, State.eireqClear]
  have hblstate : b.lstate n = s.lstate n := hb.getF_eq (by simp) n
  have hbfx : b.bit .CL_PHYCTRL_FXEN n = s.bit .CL_PHYCTRL_FXEN n := hb.bit_eq (by simp) n
  have hbmax : b.getF .CL_PHYCTRL_IDLEMAX n = s.getF .CL_PHYCTRL_IDLEMAX n := hb.getF_eq (by simp) n
  have hzero {t : State} (h : t.getF .CL_PHYCTRL_EIREQ n = b.getF .CL_PHYCTRL_EIREQ n) : t.bit .CL_PHYCTRL_EIREQ n = false := by
    rw [State.bit, h, State.getF_setF_same]
    rfl
  have hsent (hrun : s.laneRuns n = true) (htx : s.txBusy n = false) (hst : s.lstate n = 4) : exec (.eisSent n) s =
      .next (if s.inS4 then (s.idled n).eireqClear n else if (s.lanes[n]).exitDue then (s.idled n).exitIdle n else s.idled n) := by
    rw [exec_eisSent, execEisSent, (State.idled_spec hst).1, hst, hrun, htx]
    rfl
  refine ⟨fun hbus => ⟨fun h4 => ?_, fun h4 hno => ?_, fun h4 h3 => ?_, fun hne4 hne5 => ?_, fun h4 => ?_, fun h5 hq => ?_, fun h5 hq => ?_⟩,
    fun hrun htx hst hend => ?_, fun hrun htx hst h4 hex => ?_, fun htx => ?_, fun hrun h3 h4 => ?_, fun hrun h3 h4 => ?_, fun h => ?_,
    fun hrun h3 h4 hbus => ?_, fun hrun h6 => ?_⟩
  · refine SetsOn.of_setAll (l := [(.CL_PHYSTAT_EIERR, n, 1)]) ?_ (writtenKeys_nodup (by simp)) (by simp) rfl
    rw [exec_eireqSet, execEireqSet, if_pos hbus, State.eireqSet, if_pos h4]
    rfl
  · refine SetsOn.of_setAll (l := [(.CL_PHYCTRL_EIREQ, n, 1)]) ?_ (writtenKeys_nodup (by simp)) (by simp) rfl
    rw [hset hbus h4, hup rfl, if_neg (by simpa using hno)]
    rfl
  · obtain ⟨henter, -⟩ := a.enterIdle_spec n
    refine ⟨_, by rw [hset hbus h4, hup h3]; rfl, EntersState.after (EntersState.mono henter (List.nil_subset _)) ha (by simp) rfl, ?_⟩
    rw [State.bit, EntersState.getF_eq henter (by simp [lstateFields]), State.getF_setF_same]
    rfl
  · refine SetsOn.of_setAll (l := [(.CL_PHYCTRL_EIREQ, n, 0)]) ?_ (writtenKeys_nodup (by simp)) (by simp) rfl
    rw [hclear hbus, if_neg (by simpa [lsEidle] using hne5), State.exitLater, if_neg (by simpa [lsEiEnter, hblstate] using hne4)]
    rfl
  · refine ⟨b.modLane n (fun l => { l with exitDue := true }), ?_, hzero rfl, hb.regs, rfl, b.modLane_same n _, fun m hm => b.modLane_ne _ hm⟩
    rw [hclear hbus, h4, if_neg (by decide), State.exitLater, hblstate, h4]
    rfl
  · refine SetsOn.of_setAll (l := [(.CL_PHYCTRL_EIREQ, n, 0), (.CL_PHYSTAT_LSTATE, n, 6)]) ?_ (writtenKeys_nodup (by simp))
      (by simpa using (by decide : 6 < 2 ^ Fld.CL_PHYSTAT_LSTATE.width)) rfl
    have hnot : b.laneUp n = false := (State.laneUp_congr hblstate).trans (hup h5)
    rw [hclear hbus, h5, if_pos (by decide), State.exitIdle_quick (hbfx.trans hq.1) (by rw [hbmax]; exact hq.2), State.setLstate_eq (.inl hnot)]
    rfl
  · have htrain := b.train_spec n
    refine ⟨b.train n, ?_, Trains.after htrain hb (by simp [trainReads]) rfl, hzero (Trains.getF_eq htrain (by simp [lstateFields]) n)⟩
    rw [hclear hbus, h5, if_pos (by decide), State.exitIdle_slow (by rw [hbfx, hbmax]; exact hq)]
  · obtain ⟨hstate, halone⟩ := State.idled_exits rfl hst s.inS4
    refine ⟨_, ?_, hstate, halone.others, halone.frame, halone.regs⟩
    rw [hsent hrun htx hst]
    rcases hend with h | h
    · rw [h]
      rfl
    · rw [h]
      cases s.inS4 <;> rfl
  · obtain ⟨-, halone, hstate, hlane⟩ := State.idled_spec hst
    exact ⟨s.idled n, by rw [hsent hrun htx hst, h4, hex]; rfl, hstate, hlane, halone.others, halone.frame, halone.regs⟩
  · rw [Ignores, exec_eisSent, execEisSent, htx]
    simp
  · obtain ⟨henter, hidle⟩ := s.enterIdle_spec n
    let t := (s.enterIdle n).modLane n (fun l => { l with rxIdle := true })
    have ht : exec (.eisReceived n) s = .next t := by
      rw [exec_eisReceived, execEisReceived, hrun, h4, hup h3]
      rfl
    have htn : t.lanes[n] = { (s.enterIdle n).lanes[n] with rxIdle := true } := State.modLane_same _ n _
    have henter' : EntersState n 4 [] s t := by
      have halone : LaneAlone n (lstateFields n ++ []) s t := (show LaneAlone _ _ _ _ from EntersState.alone henter).modLane _
      obtain ⟨hstate, hleave, hburst, -⟩ := henter
      exact ⟨hstate, fun h1 h2 => by rw [htn]; exact hleave h1 h2, by rw [htn]; exact hburst, halone.others, halone.frame, halone.regs⟩
    refine ⟨t, ht, henter', ?_⟩
    have htup : t.laneUp n = false := by rw [State.laneUp, show t.lstate n = 4 from henter'.1]; rfl
    rw [State.rxLive, htup, htn]
    simp
  · refine ⟨s.modLane n (fun l => { l with rxIdle := true }), ?_, rfl, s.modLane_same n _, fun m hm => s.modLane_ne _ hm⟩
    rw [exec_eisReceived, execEisReceived, hrun, h4, hup rfl]
    simp [h3]
  · rw [Ignores, exec_eisReceived, execEisReceived, if_pos]
    rcases h with h | h <;> simp [h]
  · obtain ⟨henter, hidle⟩ := a.enterIdle_spec n
    refine ⟨a.enterIdle n, by rw [hset hbus h4, hup h3]; rfl, ?_⟩
    have halone : LaneAlone n (lstateFields n ++ [(.CL_PHYCTRL_EIREQ, n.val)]) s (a.enterIdle n) :=
      (ha.mono (List.subset_append_right _ _)).trans (show LaneAlone n _ _ _ from EntersState.alone (EntersState.mono henter (List.nil_subset _)))
    change (a.enterIdle n).rxLive n = true
    rw [State.rxLive, (halone.bus_eq (by simp [lstateFields]) n).1, hrun, hidle, haup, hup h3, henter.1]
    simp [lsEiEnter]
  · refine ⟨s.enterUp n, ?_, s.enterUp_spec n⟩
    rw [exec_fxbReceived, execFxbReceived, h6, hrun]
    rfl

end Sys2Proof.Machine
end

section
/-! The training of the cell lanes and what sends them back to it (R196, R201 to R204, R209). -/
namespace Sys2Proof.Machine

-- The proofs one after another: all at once they would need more threads, and their stacks, than the check's memory holds.
set_option Elab.async false

/-! A set that a lane receives. -/

/-- The sixteen characters of a TA or TB set, the inverted ones among them. -/
def trainSet (tb inverted : Bool) : List Chr :=
  .k 28 5 :: List.replicate 15 (if tb then (if inverted then .d 26 5 else .d 5 2) else (if inverted then .d 21 5 else .d 10 2))

theorem setKind_trainSet (tb inverted : Bool) : setKind (trainSet tb inverted) = some (tb, inverted) := by
  cases tb <;> cases inverted <;> decide

theorem LaneIs.of_modLane {s : State} {n : Fin 96} {f : LaneSt → LaneSt} {l : LaneSt} (h : f s.lanes[n] = l) : LaneIs n l s (s.modLane n f) :=
  ⟨rfl, (s.modLane_same n f).trans h, fun _ hm => s.modLane_ne f hm⟩

/-- What state 1 makes of a set (R202). -/
def State.taStep (s : State) (n : Fin 96) (r : LaneSt × Bool) : State :=
  let s1 := (s.modLane n (fun _ => r.1)).setWhen r.2 .CL_PHYSTAT_RXINVST n (1 - s.getF .CL_PHYSTAT_RXINVST n)
  if 8 ≤ r.1.good then (s1.setLstate n lsTb).modLane n (fun l => { l with good := 0, tbGood := 0, tbSent := false }) else s1

theorem State.taStep_keeps {s : State} {n : Fin 96} {l : LaneSt} (h : l.good < 8) : s.taStep n (l, false) = s.modLane n (fun _ => l) :=
  if_neg (show ¬8 ≤ l.good by omega)

theorem State.taStep_turns {s : State} {n : Fin 96} {l : LaneSt} (h : l.good < 8) :
    s.taStep n (l, true) = (s.modLane n (fun _ => l)).setF .CL_PHYSTAT_RXINVST n (1 - s.getF .CL_PHYSTAT_RXINVST n) :=
  if_neg (show ¬8 ≤ l.good by omega)

theorem LaneSt.taSet_error {l : LaneSt} {inv auto : Bool} : l.taSet inv auto true = ({ l with good := 0, inverted := 0 }, false) := rfl

theorem LaneSt.taSet_good {l : LaneSt} {auto : Bool} : l.taSet false auto false = ({ l with good := l.good + 1, inverted := 0 }, false) := rfl

theorem LaneSt.taSet_inverted {l : LaneSt} {auto : Bool} (h : auto = false ∨ l.inverted < 3) :
    l.taSet true auto false = ({ l with good := 0, inverted := l.inverted + 1 }, false) := by
  have hno : (auto && decide (3 ≤ l.inverted)) = false := by
    rcases h with h | h
    · rw [h, Bool.false_and]
    · rw [decide_eq_false (by omega), Bool.and_false]
  simp [LaneSt.taSet, hno]

theorem LaneSt.taSet_turned {l : LaneSt} (h : 3 ≤ l.inverted) : l.taSet true true false = ({ l with good := 4, inverted := 0 }, true) := by
  simp [LaneSt.taSet, h]

section
variable {s : State} {n : Fin 96} {first : Chr} {rest : List Chr} {errs : Nat} {k : Option (Bool × Bool)}
variable (hrun : s.laneRuns n = true) (hk : setKind (first :: rest) = k)
include hrun hk

theorem trainingSet_ta (h : s.lstate n = 1) : exec (.trainingSetReceived n first rest errs) s =
    .next (s.taStep n ((s.lanes[n]).taSet ((k.map Prod.snd).getD false ^^ s.bit .CL_PHYSTAT_RXINVST n) (s.bit .CL_PHYCTRL_RXPOLAUTO n)
      (errs != 0 || k.isNone))) := by
  rw [exec_trainingSetReceived, execTrainingSetReceived, hk, hrun, h]
  rfl

theorem trainingSet_tb (h : s.lstate n = 2) : exec (.trainingSetReceived n first rest errs) s =
    .next ((s.modLane n (fun l => l.tbSet ((k.map Prod.fst).getD false) ((k.map Prod.snd).getD false ^^ s.bit .CL_PHYSTAT_RXINVST n)
      (errs != 0 || k.isNone))).tbCheck n) := by
  rw [exec_trainingSetReceived, execTrainingSetReceived, hk, hrun, h]
  rfl

/-- A TA set in UP (R204). -/
theorem trainingSet_up (h : s.lstate n = 3) (hta : k = some (false, s.bit .CL_PHYSTAT_RXINVST n)) (herr : errs = 0) :
    exec (.trainingSetReceived n first rest errs) s =
      .next (if 1 ≤ (s.lanes[n]).good then s.linkLost n else s.modLane n (fun l => { l with good := l.good + 1 })) := by
  rw [exec_trainingSetReceived, execTrainingSetReceived, hk, hrun, State.laneUp, h, hta, herr]
  simp [lsTa, lsTb, lsUp]

end

theorem State.tbCheck_eq {s : State} {n : Fin 96} (h : s.lstate n = 2) :
    s.tbCheck n = if 8 ≤ (s.lanes[n]).tbGood ∧ (s.lanes[n]).tbSent = true then s.enterUp n else s := by
  simp [State.tbCheck, h, lsTb]

/-- A link loss (R204). -/
theorem State.linkLost_spec (s : State) (n : Fin 96) : let t := s.linkLost n
    Trains n [(.CL_PHYSTAT_LOSS, n), (.CL_LINKCNT_LOSSCNT, n)] s t ∧ t.bit .CL_PHYSTAT_LOSS n = true ∧
    t.getF .CL_LINKCNT_LOSSCNT n = min (2 ^ Fld.CL_LINKCNT_LOSSCNT.width - 1) (s.getF .CL_LINKCNT_LOSSCNT n + 1) ∧
    t.getF .CL_LINKCNT_CODEERR n = s.getF .CL_LINKCNT_CODEERR n := by
  intro t
  let y := (s.setF .CL_PHYSTAT_LOSS n 1).countF .CL_LINKCNT_LOSSCNT n 1
  have hy : LaneAlone n [(.CL_PHYSTAT_LOSS, n), (.CL_LINKCNT_LOSSCNT, n)] s y := ((LaneAlone.refl n _ s).setF 1 (by simp)).setF _ (by simp)
  have htrain := y.train_spec n
  have hget {f : Fld} (hf : ∀ e ∈ lstateFields n, e.1 ≠ f) : t.getF f n = y.getF f n := Trains.getF_eq htrain hf n
  refine ⟨Trains.after htrain hy (by simp [trainReads]) rfl, beq_iff_eq.2 ?_, ?_, ?_⟩
  · rw [hget (by simp [lstateFields]), State.getF_countF_ne _ _ _ _ (by simp)]
    exact s.getF_setF_same .CL_PHYSTAT_LOSS n 1
  · rw [hget (by simp [lstateFields]), State.getF_countF_same, State.getF_setF_ne _ _ _ _ (by simp)]
  · rw [hget (by simp [lstateFields])]
    exact hy.getF_eq (by simp) n

/-- The training of R201, R202 and R204, state by state. -/
theorem laneTraining : Claims.LaneTraining := by
  intro n tb inverted first rest errs s l inv auto x got l2 hrun
  have hkind : setKind (.k 28 5 :: List.replicate 15 x) = some (tb, inverted) := setKind_trainSet tb inverted
  have hgot (e : Bool) : got e = .trainingSetReceived n (.k 28 5) (List.replicate 15 x) (if e then errs + 1 else 0) := rfl
  refine ⟨fun h1 => ?_, fun h2 => ?_, fun hnone h1 => ?_, fun h3 htb hinv => ?_⟩
  · have hta (e : Bool) : exec (got e) s = .next (s.taStep n (l.taSet inv auto e)) := by
      rw [hgot, trainingSet_ta hrun hkind h1]
      cases e <;> rfl
    refine ⟨⟨_, hta true, ?_⟩, fun hinv hgood => ⟨_, hta false, ?_⟩, fun hinv hgood => ⟨_, hta false, ?_⟩, fun hinv hno => ⟨_, hta false, ?_⟩,
      fun hinv ha hthree => ⟨_, hta false, ?_⟩⟩
    · rw [LaneSt.taSet_error, State.taStep_keeps (by simp)]
      exact LaneIs.of_modLane rfl
    · rw [hinv, LaneSt.taSet_good, State.taStep_keeps (show l.good + 1 < 8 by omega)]
      exact LaneIs.of_modLane rfl
    · let y := s.modLane n (fun _ => { l with good := l.good + 1, inverted := 0 })
      have hstep : s.taStep n (l.taSet inv auto false) = (y.setF .CL_PHYSTAT_LSTATE n 2).modLane n (fun l => { l with good := 0, tbGood := 0, tbSent := false }) := by
        rw [hinv, LaneSt.taSet_good, State.taStep]
        dsimp only
        rw [if_pos (show 8 ≤ l.good + 1 by omega), State.setWhen, if_neg (by simp), State.setLstate_eq (.inl (by rw [State.laneUp, show y.lstate n = 1 from h1]; rfl))]
        rfl
      rw [hstep]
      have halone : LaneAlone n [(.CL_PHYSTAT_LSTATE, n)] s y := (LaneAlone.refl n _ s).modLane _
      have hall := (halone.setF (f := .CL_PHYSTAT_LSTATE) (i := n) 2 (by simp)).modLane (fun l => { l with good := 0, tbGood := 0, tbSent := false })
      refine ⟨y.getF_setF_same .CL_PHYSTAT_LSTATE n 2, ?_, hall.others, hall.frame, hall.regs⟩
      have hyn : (y.setF .CL_PHYSTAT_LSTATE n 2).lanes[n] = { l with good := l.good + 1, inverted := 0 } := s.modLane_same n fun _ => _
      rw [State.modLane_same, hyn]
    · rw [hinv, LaneSt.taSet_inverted hno, State.taStep_keeps (by simp)]
      exact LaneIs.of_modLane rfl
    · rw [hinv, ha, LaneSt.taSet_turned hthree, State.taStep_turns (by simp)]
      let y := s.modLane n (fun _ => { l with good := 4, inverted := 0 })
      have hall : LaneAlone n [(.CL_PHYSTAT_RXINVST, n)] s (y.setF .CL_PHYSTAT_RXINVST n (1 - s.getF .CL_PHYSTAT_RXINVST n)) :=
        ((LaneAlone.refl n _ s).modLane _).setF _ (by simp)
      refine ⟨?_, s.modLane_same n fun _ => _, hall.others, hall.frame, hall.regs⟩
      refine (y.getF_setF_same .CL_PHYSTAT_RXINVST n _).trans (Nat.mod_eq_of_lt ?_)
      have := Fld.CL_PHYSTAT_RXINVST.one_lt
      omega
  · have htb (e : Bool) : exec (got e) s = .next ((s.modLane n (fun l => l.tbSet tb inv e)).tbCheck n) := by
      rw [hgot, trainingSet_tb hrun hkind h2]
      cases e <;> rfl
    have hcheck (f : LaneSt → LaneSt) : (s.modLane n f).tbCheck n =
        if 8 ≤ (f l).tbGood ∧ (f l).tbSent = true then (s.modLane n f).enterUp n else s.modLane n f := by
      rw [State.tbCheck_eq (show (s.modLane n f).lstate n = 2 from h2), s.modLane_same n f]
    have hsent : exec (.tbSetsSent n) s = .next ((s.modLane n (fun l => { l with tbSent := true })).tbCheck n) := by
      rw [exec_tbSetsSent, execTbSetsSent, h2, hrun]
      rfl
    have hl2 : l.tbSet tb inv false = l2 := by rw [LaneSt.tbSet, Bool.not_false, Bool.and_true]
    have hl2sent : l2.tbSent = l.tbSent := rfl
    have hup {f : LaneSt → LaneSt} (hf : (f l).burst = l.burst) : GoesUp n s ((s.modLane n f).enterUp n) :=
      GoesUp.of_modLane (State.enterUp_spec _ n) hf
    refine ⟨fun hno => ⟨_, htb false, ?_⟩, fun h8 hs => ⟨_, htb false, ?_⟩, ⟨_, htb true, ?_⟩, fun hlt => ⟨_, hsent, ?_⟩, fun h8 => ⟨_, hsent, ?_⟩⟩
    · rw [hcheck, hl2, hl2sent, if_neg (by rintro ⟨h, h'⟩; rcases hno with hno | hno; exacts [absurd h (by omega), absurd (hno.symm.trans h') nofun])]
      exact LaneIs.of_modLane hl2
    · rw [hcheck, hl2, hl2sent, if_pos ⟨h8, hs⟩]
      exact hup rfl
    · have hzero : (l.tbSet tb inv true).tbGood = 0 := by simp [LaneSt.tbSet]
      rw [hcheck, hzero, if_neg (by simp)]
      exact LaneIs.of_modLane (by rw [LaneSt.tbSet, Bool.not_true, Bool.and_false]; rfl)
    · rw [hcheck, if_neg (fun h => absurd h.1 (show ¬8 ≤ l.tbGood by omega))]
      exact LaneIs.of_modLane rfl
    · rw [hcheck, if_pos ⟨h8, rfl⟩]
      exact hup rfl
  · refine ⟨_, trainingSet_ta hrun hnone h1, ?_⟩
    rw [Option.isNone_none, Bool.or_true, LaneSt.taSet_error, State.taStep_keeps (by simp)]
    exact LaneIs.of_modLane rfl
  · have hset : exec (got false) s = .next (if 1 ≤ l.good then s.linkLost n else s.modLane n (fun l => { l with good := l.good + 1 })) := by
      refine trainingSet_up hrun hkind h3 ?_ rfl
      rw [htb, show inverted = s.bit .CL_PHYSTAT_RXINVST n by simpa [inv] using hinv]
    refine ⟨fun hzero => ⟨_, hset, ?_⟩, fun hpos => ⟨_, hset, ?_⟩⟩
    · rw [if_neg (by omega)]
      exact LaneIs.of_modLane (by rw [show (s.lanes[n]).good = 0 from hzero])
    · rw [if_pos (by omega)]
      obtain ⟨htrain, hloss, -⟩ := s.linkLost_spec n
      exact ⟨htrain, hloss⟩

/-- A lane that has failed to train (R203, R209). -/
theorem State.trainFailed_spec (s : State) (n : Fin 96) : let t := (s.countF .CL_LINKCNT_TRNFAIL n 1).train n
    Trains n [(.CL_LINKCNT_TRNFAIL, n)] s t ∧
    t.getF .CL_LINKCNT_TRNFAIL n = min (2 ^ Fld.CL_LINKCNT_TRNFAIL.width - 1) (s.getF .CL_LINKCNT_TRNFAIL n + 1) := by
  have hy : LaneAlone n [(.CL_LINKCNT_TRNFAIL, n)] s (s.countF .CL_LINKCNT_TRNFAIL n 1) := (LaneAlone.refl n _ s).setF _ (by simp)
  have htrain := (s.countF .CL_LINKCNT_TRNFAIL n 1).train_spec n
  refine ⟨Trains.after htrain hy (by simp [trainReads]) rfl, ?_⟩
  rw [Trains.getF_eq htrain (by simp [lstateFields]), State.getF_countF_same]

/-- What returns a lane to training (R196, R202 to R204, R209). -/
theorem laneRestarts : Claims.LaneRestarts := by
  intro n rate errs s count
  refine ⟨fun hbus hoff htest => ?_, fun h => ?_, fun hrun h3 => ?_, fun hrun h12 => ?_, fun hrun h6 => ?_, fun hbus => ⟨fun hsame => ?_, fun hne h4 => ?_,
    fun hne h4 hoff htest => ?_⟩⟩
  · refine ⟨s.train n, ?_, s.train_spec n⟩
    rw [exec_retrain, execRetrain, if_pos hbus, State.retrain, if_neg (by simp [lsOff, lsTest, hoff, htest])]
  · have hsame : s.retrain n = s := if_pos (by rcases h with h | h <;> simp [h, lsOff, lsTest])
    rw [Ignores, exec_retrain, execRetrain, hsame, ite_self]
  · let y := s.countF .CL_LINKCNT_CODEERR n errs
    have hy : LaneAlone n [(.CL_PHYSTAT_LOSS, n), (.CL_LINKCNT_LOSSCNT, n), (.CL_LINKCNT_CODEERR, n)] s y := (LaneAlone.refl n _ s).setF _ (by simp)
    obtain ⟨htrain, hloss, hcount, hcode⟩ := y.linkLost_spec n
    refine ⟨y.linkLost n, ?_, ?_, hloss, ?_, ?_⟩
    · have hon : (s.laneUp n && s.laneRuns n) = true := by rw [State.laneUp, h3, hrun]; rfl
      rw [exec_linkLoss, execLinkLoss, if_pos hon]
    · obtain ⟨henter, hrest⟩ := htrain
      have hnames : [(Fld.CL_PHYSTAT_LOSS, n.val), (.CL_LINKCNT_LOSSCNT, n.val)] ⊆
          [(.CL_PHYSTAT_LOSS, n.val), (.CL_LINKCNT_LOSSCNT, n.val), (.CL_LINKCNT_CODEERR, n.val)] := by simp
      refine ⟨EntersState.after (EntersState.mono henter hnames) hy (by simp) rfl, ?_⟩
      rw [State.bit, hy.getF_eq (by simp), hy.getF_eq (by simp), hy.getF_eq (by simp)] at hrest
      exact hrest
    · rw [hcount, State.getF_countF_ne _ _ _ _ (by simp)]
    · rw [hcode, State.getF_countF_same]
  · let due := (s.lanes[n]).trainAt + max 1 (s.getF .CL_PHYCTRL_TRNTO n) * 4000
    let r := s.passTo due
    let y := r.countF .CL_LINKCNT_TRNFAIL n 1
    have hexec : exec (.trainingTimeout (.lane n)) s = .next (y.train n) := by
      have hon : ((s.lstate n == lsTa || s.lstate n == lsTb) && s.laneRuns n) = true := by
        rw [hrun, Bool.and_true]
        rcases h12 with h | h <;> rw [h] <;> rfl
      rw [exec_trainingTimeout, execTrainingTimeout]
      exact congrArg _ (if_pos hon)
    obtain ⟨htrain, hfail⟩ := r.trainFailed_spec n
    have halone := EntersState.alone htrain.1
    refine ⟨y.train n, hexec, htrain, ?_, ?_⟩
    · rw [halone.tick_eq, State.passTo_tick]
    · rw [hfail, s.getF_passTo]
  · obtain ⟨htrain, hfail⟩ := s.trainFailed_spec n
    refine ⟨_, ?_, htrain, hfail⟩
    rw [exec_fastExitTimeout, execFastExitTimeout, h6, hrun]
    rfl
  · rw [Ignores, exec_rateWrite, execRateWrite, if_pos hbus, State.writeRate, if_pos (beq_iff_eq.2 hsame)]
  · refine SetsOn.of_setAll (l := [(.CL_PHYSTAT_RATEERR, n, 1)]) ?_ (writtenKeys_nodup (by simp)) (by simp) rfl
    rw [exec_rateWrite, execRateWrite, if_pos hbus, State.writeRate, if_neg (by simpa using hne), if_pos h4]
    rfl
  · let y := s.setBit .CL_PHYCTRL_RATE n rate
    have hy : LaneAlone n [(.CL_PHYCTRL_RATE, n)] s y := (LaneAlone.refl n _ s).setF _ (by simp)
    have htrain := y.train_spec n
    have hylstate : y.lstate n = s.lstate n := hy.getF_eq (by simp) n
    refine ⟨y.train n, ?_, Trains.after htrain hy (by simp [trainReads]) rfl, ?_⟩
    · rw [exec_rateWrite, execRateWrite, if_pos hbus, State.writeRate, if_neg (by simpa using hne), if_neg (by simp [h4]), State.retrain, hylstate,
        if_neg (by simp [lsOff, lsTest, hoff, htest])]
    · have hrate : y.getF .CL_PHYCTRL_RATE n = b2n rate := (State.getF_setF_same _ _ _ _).trans (Nat.mod_eq_of_lt (Fld.b2n_lt _ _))
      rw [State.bit, Trains.getF_eq htrain (by simp [lstateFields]), hrate]
      cases rate <;> rfl

/-- Settles O49: the sets of training by the step of each state, the restarts by the rule of training after other writes. -/
theorem laneTrainingAndRestarts : Obligations.LaneTrainingAndRestarts := ⟨laneTraining, laneRestarts⟩

end Sys2Proof.Machine
end

section
/-! SUPPORT. The mirror lane group: its LSTATE, its training and its loss (R206, R207, R213). -/
namespace Sys2Proof.Machine

-- The proofs one after another: all at once they would need more threads, and their stacks, than the check's memory holds.
set_option Elab.async false

/-- The instances of a field of the four mirror lanes. -/
def mlKeys (f : Fld) : List (Fld × Nat) := (List.range 4).map (fun m => (f, m))

theorem mem_mlKeys (f : Fld) (m : Fin 4) : (f, m.val) ∈ mlKeys f := List.mem_map.2 ⟨m, List.mem_range.2 m.isLt, rfl⟩

theorem mlKeys_name {f : Fld} {e : Fld × Nat} (h : e ∈ mlKeys f) : e.1 = f := by
  obtain ⟨m, -, rfl⟩ := List.mem_map.1 h
  rfl

theorem State.modMl_same (s : State) (m : Fin 4) (f : MlSt → MlSt) : (s.modMl m f).ml[m] = f s.ml[m] := vector_set_same _ _

theorem State.modMl_ne (s : State) {m k : Fin 4} (f : MlSt → MlSt) (h : k ≠ m) : (s.modMl m f).ml[k] = s.ml[k] := vector_set_ne _ _ h

/-- Whether a SerDes is in its test state turns on two fields. -/
theorem State.testing_congr {s t : State} {x : Serdes} (hgen : t.getF (serdesFlds x).genen (serdesFlds x).i = s.getF (serdesFlds x).genen (serdesFlds x).i)
    (hloop : t.getF (serdesFlds x).loop (serdesFlds x).i = s.getF (serdesFlds x).loop (serdesFlds x).i) : t.testing x = s.testing x := by
  simp only [State.testing, State.bit, hgen, hloop]

/-- The group's lanes but those in their test state take an LSTATE (R213). -/
theorem State.mlAll_spec (s : State) {v : Nat} (hv : v < 8) : OnlyRegs s (s.mlAll v) (mlKeys .ML_PHYSTAT_LSTATE) ∧
    ∀ m : Fin 4, (s.mlAll v).getF .ML_PHYSTAT_LSTATE m = if s.testing (.mirror m) then s.getF .ML_PHYSTAT_LSTATE m else v := by
  refine forIdx_each (s := s) (fun m t => t.getF .ML_PHYSTAT_LSTATE m) (fun t => OnlyRegs s t (mlKeys .ML_PHYSTAT_LSTATE))
    (fun m x => x = if s.testing (.mirror m) then s.getF .ML_PHYSTAT_LSTATE m else v) (.refl s _) fun t m ht hsame => ?_
  have hname : ∀ e ∈ mlKeys .ML_PHYSTAT_LSTATE, e.1 = .ML_PHYSTAT_LSTATE := fun e he => mlKeys_name he
  have htest : t.testing (.mirror m) = s.testing (.mirror m) :=
    State.testing_congr (ht.getF_eq (fun e he => by simp [hname e he, serdesFlds]) _) (ht.getF_eq (fun e he => by simp [hname e he, serdesFlds]) _)
  rw [htest]
  cases s.testing (.mirror m) with
  | true => exact ⟨ht, hsame, fun _ _ => rfl⟩
  | false =>
    refine ⟨ht.setF v (mem_mlKeys _ m), ?_, fun k hk => t.getF_setF_fin _ (by decide) hk v⟩
    exact (t.getF_setF_same .ML_PHYSTAT_LSTATE m v).trans (Nat.mod_eq_of_lt hv)

/-- The polarity with which the group's lanes start training (R206). -/
theorem State.mirPolarity_all (s : State) : let t := forIdx (n := 4) (fun m t => t.mirPolarity m) s
    OnlyRegs s t (mlKeys .ML_PHYSTAT_RXINVST) ∧
    ∀ m : Fin 4, s.bit .ML_PHYCTRL_RXPOLAUTO m = false → t.getF .ML_PHYSTAT_RXINVST m % 2 = s.getF .ML_PHYCTRL_RXINV m % 2 := by
  refine forIdx_each (s := s) (fun m t => t.getF .ML_PHYSTAT_RXINVST m) (fun t => OnlyRegs s t (mlKeys .ML_PHYSTAT_RXINVST))
    (fun m x => s.bit .ML_PHYCTRL_RXPOLAUTO m = false → x % 2 = s.getF .ML_PHYCTRL_RXINV m % 2) (.refl s _) fun t m ht hsame => ?_
  have hkeep {f : Fld} (hf : f ≠ .ML_PHYSTAT_RXINVST) (i : Nat) : t.getF f i = s.getF f i := ht.getF_eq (fun e he => mlKeys_name he ▸ hf.symm) i
  have hauto : t.bit .ML_PHYCTRL_RXPOLAUTO m = s.bit .ML_PHYCTRL_RXPOLAUTO m := by rw [State.bit, hkeep (by simp), State.bit]
  have hpol : t.mirPolarity m = if !s.bit .ML_PHYCTRL_RXPOLAUTO m then t.setF .ML_PHYSTAT_RXINVST m (s.getF .ML_PHYCTRL_RXINV m) else t := by
    rw [State.mirPolarity, hauto, hkeep (by simp), State.setWhen]
  rw [hpol]
  cases hb : s.bit .ML_PHYCTRL_RXPOLAUTO m with
  | true => exact ⟨ht, nofun, fun _ _ => rfl⟩
  | false =>
    rw [Bool.not_false, if_pos rfl]
    refine ⟨ht.setF _ (mem_mlKeys _ m), fun _ => ?_, fun k hk => t.getF_setF_fin _ (by decide) hk _⟩
    rw [State.getF_setF_same]
    exact Nat.mod_mod _ _

/-- Nothing but register fields, the mirror lanes and the twin's state changes. -/
def GroupFrame (s t : State) : Prop := t = { s with regs := t.regs, ml := t.ml, mlOrdered := t.mlOrdered, twin := t.twin }

theorem GroupFrame.trans {s t u : State} (h : GroupFrame s t) (h' : GroupFrame t u) : GroupFrame s u :=
  Eq.trans h' (congrArg (fun x : State => { x with regs := u.regs, ml := u.ml, mlOrdered := u.mlOrdered, twin := u.twin }) h)

theorem OnlyRegs.groupFrame {s t : State} {l : List (Fld × Nat)} (h : OnlyRegs s t l) : GroupFrame s t := by
  obtain ⟨r, rfl⟩ : ∃ r, t = { s with regs := r } := ⟨_, h.1⟩
  rfl

theorem OnlyRegs.ml_eq {s t : State} {l : List (Fld × Nat)} (h : OnlyRegs s t l) : t.ml = s.ml ∧ t.mlOrdered = s.mlOrdered := by
  obtain ⟨r, rfl⟩ : ∃ r, t = { s with regs := r } := ⟨_, h.1⟩
  exact ⟨rfl, rfl⟩

/-- The group's counts as it starts training. -/
def State.mirCounts (s : State) (now : Nat) : State := { s with ml := s.ml.map (fun x => { pat := x.pat, trainAt := now }), mlOrdered := false }

theorem State.mirCounts_frame (s : State) (now : Nat) : GroupFrame s (s.mirCounts now) := rfl

theorem State.mirCounts_regs (s : State) (now : Nat) (l : List (Fld × Nat)) : RegsBut s (s.mirCounts now) l := fun _ _ _ => rfl

theorem State.getF_mirCounts (s : State) (now : Nat) (f : Fld) (i : Nat) : (s.mirCounts now).getF f i = s.getF f i := rfl

/-- What the loss of the mirror link drops (R413, R238). -/
def TwinSt.linkLost (w : TwinSt) (now : Nat) : TwinSt :=
  { w with lastUp := now, foreign := false, foreignNow := false, dlyAcc := [], dlyOut := [], heard := false, peerSynced := false, hoFret := none }

/-- The group leaves UP, with a handover under way or not. -/
def State.groupDown (s : State) (now : Nat) (handover : Bool) : State :=
  let s1 := ((s.setF .MIR_STAT_MIRUP 0 0).setF .MIR_DELAY_VALID 0 0).setF .MIR_DELAY_DLY 0 0
  let s2 := { s1 with twin := s1.twin.linkLost now }
  if handover then (s2.setF .MIR_CTRL_HANDOVER 0 0).setF .MIR_STAT_HOERR 0 1 else s2

/-- The group's fields beside those of its lanes. -/
def groupKeys : List (Fld × Nat) :=
  [(.MIR_STAT_MIRUP, 0), (.MIR_DELAY_VALID, 0), (.MIR_DELAY_DLY, 0), (.MIR_CTRL_HANDOVER, 0), (.MIR_STAT_HOERR, 0)]

theorem State.groupDown_spec (s : State) (now : Nat) (handover : Bool) : let t := s.groupDown now handover
    (GroupFrame s t ∧ t.ml = s.ml ∧ t.mlOrdered = s.mlOrdered) ∧ RegsBut s t groupKeys ∧ t.bit .MIR_STAT_MIRUP 0 = false := by
  let s1 := ((s.setF .MIR_STAT_MIRUP 0 0).setF .MIR_DELAY_VALID 0 0).setF .MIR_DELAY_DLY 0 0
  have hregs : RegsBut s s1 groupKeys :=
    (((RegsBut.refl s groupKeys).setF 0 (by simp [groupKeys])).setF 0 (by simp [groupKeys])).setF 0 (by simp [groupKeys])
  have hup : s1.getF .MIR_STAT_MIRUP 0 = 0 := by
    rw [State.getF_setF_ne _ _ _ _ (by simp), State.getF_setF_ne _ _ _ _ (by simp), State.getF_setF_same, Nat.zero_mod]
  let s2 : State := { s1 with twin := s1.twin.linkLost now }
  cases handover with
  | false => exact ⟨⟨rfl, rfl, rfl⟩, hregs, congrArg (· == 1) hup⟩
  | true =>
    refine ⟨⟨rfl, rfl, rfl⟩, RegsBut.setF (RegsBut.setF (t := s2) hregs 0 (by simp [groupKeys])) 1 (by simp [groupKeys]), beq_eq_false_iff_ne.2 ?_⟩
    have hkeep : (s.groupDown now true).getF .MIR_STAT_MIRUP 0 = 0 :=
      (State.getF_setF_ne _ _ _ _ (by simp)).trans ((State.getF_setF_ne _ _ _ _ (by simp)).trans hup)
    rw [hkeep]
    decide

/-- The group's lanes start training. -/
def State.groupTrains (s : State) : State :=
  forIdx (n := 4) (fun m t => t.mirPolarity m) (((s.mlAll lsTa).setF .MIR_LANEMAP_UP 0 0).mirCounts s.tick)

theorem State.mirTrain_eq (s : State) : s.mirTrain =
    if s.mirUp then s.groupTrains.groupDown s.tick (s.bit .MIR_CTRL_HANDOVER 0) else s.groupTrains := by
  simp only [State.mirTrain, State.groupTrains, State.groupDown, State.mirCounts, TwinSt.linkLost]

theorem State.groupTrains_spec (s : State) : let t := s.groupTrains
    (GroupFrame s t ∧ t.mlOrdered = false) ∧ RegsBut s t mirrorFields ∧ t.getF .MIR_LANEMAP_UP 0 = 0 ∧
    (∀ m : Fin 4, t.ml[m] = { pat := (s.ml[m]).pat, trainAt := s.tick }) ∧
    (∀ m : Fin 4, s.bit .ML_PHYCTRL_RXPOLAUTO m = false → t.getF .ML_PHYSTAT_RXINVST m % 2 = s.getF .ML_PHYCTRL_RXINV m % 2) ∧
    (∀ m : Fin 4, s.testing (.mirror m) = false → t.getF .ML_PHYSTAT_LSTATE m = 1) ∧ t.getF .MIR_STAT_MIRUP 0 = s.getF .MIR_STAT_MIRUP 0 := by
  intro t
  let a := s.mlAll lsTa
  let b := a.setF .MIR_LANEMAP_UP 0 0
  let c := b.mirCounts s.tick
  obtain ⟨ha, hlstate⟩ := s.mlAll_spec (v := lsTa) (by decide)
  obtain ⟨(ht : OnlyRegs c t (mlKeys .ML_PHYSTAT_RXINVST)), hpol⟩ := c.mirPolarity_all
  have hcb {f : Fld} (h2 : f ≠ .MIR_LANEMAP_UP) (i : Nat) : c.getF f i = a.getF f i :=
    (b.getF_mirCounts s.tick f i).trans (a.getF_setF_ne 0 i 0 h2)
  have hta {f : Fld} (h1 : f ≠ .ML_PHYSTAT_RXINVST) (h2 : f ≠ .MIR_LANEMAP_UP) (i : Nat) : t.getF f i = a.getF f i :=
    (ht.getF_eq (fun e he => mlKeys_name he ▸ h1.symm) i).trans (hcb h2 i)
  have hca {f : Fld} (h2 : f ≠ .MIR_LANEMAP_UP) (h3 : f ≠ .ML_PHYSTAT_LSTATE) (i : Nat) : c.getF f i = s.getF f i :=
    (hcb h2 i).trans (ha.getF_eq (fun e he => mlKeys_name he ▸ h3.symm) i)
  have hml (m : Fin 4) : t.ml[m] = { pat := (s.ml[m]).pat, trainAt := s.tick } := by
    have hmap : c.ml = a.ml.map (fun x => { pat := x.pat, trainAt := s.tick }) := rfl
    rw [ht.ml_eq.1, hmap, show a.ml = s.ml from ha.ml_eq.1]
    simp
  have hframe : GroupFrame s t :=
    (OnlyRegs.groupFrame ha).trans (GroupFrame.trans (show GroupFrame a b from rfl) ((b.mirCounts_frame s.tick).trans ht.groupFrame))
  refine ⟨⟨hframe, ht.ml_eq.2.trans rfl⟩, ?_, ?_, hml, fun m hm => ?_, fun m hm => ?_,
    (hta (by simp) (by simp) 0).trans (ha.getF_eq (fun e he => by simp [mlKeys_name he]) 0)⟩
  · have h1 : RegsBut s a mirrorFields := ha.2.mono (by simp [mlKeys, mirrorFields])
    have h2 : RegsBut s b mirrorFields := h1.setF 0 (by simp [mirrorFields])
    exact (h2.trans (b.mirCounts_regs s.tick mirrorFields)).trans (ht.2.mono (by simp [mlKeys, mirrorFields]))
  · rw [ht.getF_eq (fun e he => by simp [mlKeys_name he]) 0, b.getF_mirCounts]
    exact (a.getF_setF_same .MIR_LANEMAP_UP 0 0).trans (Nat.zero_mod _)
  · have hb : c.bit .ML_PHYCTRL_RXPOLAUTO m = false := by rw [State.bit, hca (by simp) (by simp)]; exact hm
    exact (hpol m hb).trans (congrArg (· % 2) (hca (by simp) (by simp) _))
  · rw [hta (by simp) (by simp), show a.getF .ML_PHYSTAT_LSTATE m = _ from hlstate m, hm]
    rfl

/-- The group starts training again, with the link lost where it was up. -/
theorem State.mirTrain_spec (s : State) : MirrorTrains [] s s.mirTrain := by
  obtain ⟨⟨hframe, hord⟩, hregs, hup, hml, hpol, hstate, hmirup⟩ := s.groupTrains_spec
  rw [s.mirTrain_eq]
  generalize s.groupTrains = x at hframe hord hregs hup hml hpol hstate hmirup ⊢
  have hsub : mirrorFields ⊆ mirrorFields ++ [] := by simp
  cases hm : s.mirUp with
  | false =>
    rw [if_neg (by simp)]
    exact ⟨(congrArg (· == 1) hmirup).trans hm, hup, hord, hml, hpol, hstate, hframe, hregs.mono hsub⟩
  | true =>
    rw [if_pos rfl]
    obtain ⟨⟨hframe', hml', hord'⟩, hregs', hdown⟩ := x.groupDown_spec s.tick (s.bit .MIR_CTRL_HANDOVER 0)
    generalize x.groupDown s.tick (s.bit .MIR_CTRL_HANDOVER 0) = t at hframe' hml' hord' hregs' hdown ⊢
    have hget {f : Fld} (hf : ∀ e ∈ groupKeys, e.1 ≠ f) (i : Nat) : t.getF f i = x.getF f i := hregs'.getF_eq hf i
    refine ⟨hdown, (hget (by simp [groupKeys]) 0).trans hup, hord'.trans hord, fun m => by rw [hml']; exact hml m, fun m h => ?_, fun m h => ?_, hframe.trans hframe',
      (hregs.trans (hregs'.mono ?_)).mono hsub⟩
    · rw [hget (by simp [groupKeys])]
      exact hpol m h
    · rw [hget (by simp [groupKeys])]
      exact hstate m h
    · simp [groupKeys, mirrorFields]

/-- The fields whose values the group's training turns on. -/
def mirReads : List Fld := [.ML_PHYCTRL_RXPOLAUTO, .ML_PHYCTRL_RXINV, .ML_PATCTRL_GENEN, .ML_PATCTRL_LOOP]

/-- Training after writes that bear on nothing of it. -/
theorem MirrorTrains.after {s s' t : State} {more : List (Fld × Nat)} (h : MirrorTrains [] s' t) (hs : OnlyRegs s s' more)
    (hl : ∀ e ∈ more, e.1 ∉ mirReads) : MirrorTrains more s t := by
  obtain ⟨hdown, hup, hord, hml, hpol, hstate, hframe, hregs⟩ := h
  have hget {f : Fld} (hf : f ∈ mirReads) (i : Nat) : s'.getF f i = s.getF f i := hs.getF_eq (fun e he heq => hl e he (heq ▸ hf)) i
  have htick : s'.tick = s.tick := by rw [hs.1]
  rw [List.append_nil] at hregs
  refine ⟨hdown, hup, hord, fun m => ?_, fun m hm => ?_, fun m hm => hstate m ?_, GroupFrame.trans hs.groupFrame hframe,
    (hs.2.mono (List.subset_append_right _ _)).trans (hregs.mono (List.subset_append_left _ _))⟩
  · rw [hml m, hs.ml_eq.1, htick]
  · rw [hpol m (by rw [State.bit, hget (by simp [mirReads])]; exact hm), hget (by simp [mirReads])]
  · rw [← hm]
    exact State.testing_congr (hget (by simp [mirReads, serdesFlds]) m) (hget (by simp [mirReads, serdesFlds]) m)

theorem MirrorTrains.getF_eq {s t : State} (h : MirrorTrains [] s t) {f : Fld} (hf : ∀ e ∈ mirrorFields, e.1 ≠ f) (i : Nat) : t.getF f i = s.getF f i := by
  obtain ⟨-, -, -, -, -, -, -, hregs⟩ := h
  rw [List.append_nil] at hregs
  exact hregs.getF_eq hf i

/-- The loss of the mirror link (R207). -/
theorem State.mirLost_spec (s : State) (m : Fin 4) : let t := s.mirLost m
    MirrorTrains [(.ML_PHYSTAT_LOSS, m), (.ML_LINKCNT_LOSSCNT, m)] s t ∧ t.bit .ML_PHYSTAT_LOSS m = true ∧
    t.getF .ML_LINKCNT_LOSSCNT m = min (2 ^ Fld.ML_LINKCNT_LOSSCNT.width - 1) (s.getF .ML_LINKCNT_LOSSCNT m + 1) := by
  intro t
  let y := (s.setF .ML_PHYSTAT_LOSS m 1).countF .ML_LINKCNT_LOSSCNT m 1
  have hy : OnlyRegs s y [(.ML_PHYSTAT_LOSS, m), (.ML_LINKCNT_LOSSCNT, m)] := ((OnlyRegs.refl s _).setF 1 (by simp)).setF _ (by simp)
  have htrain : MirrorTrains [] y t := y.mirTrain_spec
  have hget {f : Fld} (hf : ∀ e ∈ mirrorFields, e.1 ≠ f) : t.getF f m = y.getF f m := MirrorTrains.getF_eq htrain hf m
  refine ⟨MirrorTrains.after htrain hy (by simp [mirReads]), beq_iff_eq.2 ?_, ?_⟩
  · rw [hget (by decide), State.getF_countF_ne _ _ _ _ (by simp)]
    exact s.getF_setF_same .ML_PHYSTAT_LOSS m 1
  · rw [hget (by decide), State.getF_countF_same, State.getF_setF_ne _ _ _ _ (by simp)]

end Sys2Proof.Machine
end

section
/-! The training of the mirror lane group (R206, R207, R218, R413). -/
namespace Sys2Proof.Machine

-- The proofs one after another: all at once they would need more threads, and their stacks, than the check's memory holds.
set_option Elab.async false

/-- A step of one mirror lane's own counts. -/
theorem State.modMl_one (s : State) (m : Fin 4) {f : MlSt → MlSt} {y : MlSt} (h : f s.ml[m] = y) :
    s.modMl m f = { s with ml := (s.modMl m f).ml } ∧ (s.modMl m f).ml[m] = y ∧ ∀ k : Fin 4, k ≠ m → (s.modMl m f).ml[k] = s.ml[k] :=
  ⟨rfl, (s.modMl_same m f).trans h, fun _ hk => s.modMl_ne f hk⟩

/-- Sixteen good blocks on each lane order the group (R206). -/
theorem State.mirOrder_waits {s : State} {m : Fin 4} (h : (s.ml[m]).good < 16 ∨ s.getF .ML_PHYSTAT_LSTATE m ≠ 1) : s.mirOrder = s := by
  refine if_neg fun hall => ?_
  have hm := List.all_eq_true.1 hall m (List.mem_finRange m)
  rw [Bool.and_eq_true, decide_eq_true_iff, beq_iff_eq] at hm
  rcases h with h | h
  · exact absurd hm.1 (by omega)
  · exact h hm.2

theorem State.mirOrder_straight {s : State} (hgood : ∀ k : Fin 4, 16 ≤ (s.ml[k]).good ∧ s.getF .ML_PHYSTAT_LSTATE k = 1)
    (hnum : ∀ k : Fin 4, (s.ml[k]).num = k.val) : s.mirOrder = { s.setF .MIR_LANEMAP_REVERSED 0 0 with mlOrdered := true } := by
  have hall : (List.finRange 4).all (fun m => decide (16 ≤ (s.ml[m]).good) && s.getF .ML_PHYSTAT_LSTATE m == lsTa) = true := by
    refine List.all_eq_true.2 fun k _ => ?_
    rw [decide_eq_true (hgood k).1, (hgood k).2]
    rfl
  have hnums : (List.finRange 4).map (fun m => (s.ml[m]).num) = [0, 1, 2, 3] := by
    rw [List.map_congr_left fun k _ => hnum k]
    decide
  rw [State.mirOrder, if_pos hall]
  exact if_pos hnums

/-- A group in training for TRNTO counts the failure on the lanes that train (R206). -/
theorem State.countAll_spec {f : Fld} {l : List (Fin 4)} : ∀ {s : State}, l.Nodup → let t := l.foldl (fun t m => t.countF f m 1) s
    OnlyRegs s t (mlKeys f) ∧ ∀ k : Fin 4, t.getF f k = if k ∈ l then min (2 ^ f.width - 1) (s.getF f k + 1) else s.getF f k := by
  induction l with
  | nil => exact fun _ => ⟨.refl _ _, fun k => by simp⟩
  | cons x xs ih =>
    intro s hnd
    obtain ⟨hx, hxs⟩ := List.nodup_cons.1 hnd
    obtain ⟨honly, hcount⟩ := ih (s := s.countF f x 1) hxs
    refine ⟨OnlyRegs.trans ((OnlyRegs.refl s _).setF _ (mem_mlKeys f x)) honly, fun k => (hcount k).trans ?_⟩
    by_cases hk : k = x
    · rw [hk, if_neg hx, if_pos List.mem_cons_self, State.getF_countF_same]
    · have hne : (s.countF f x 1).getF f k = s.getF f k := s.getF_setF_fin f (by decide) hk _
      simp [hne, hk]

theorem State.mem_mirTraining {s : State} {m : Fin 4} : m ∈ s.mirTraining ↔ s.getF .ML_PHYSTAT_LSTATE m = 1 := by
  rw [State.mirTraining, List.mem_filter, beq_iff_eq]
  exact and_iff_right (List.mem_finRange m)

/-- A block in training (R206). -/
theorem mirrorBlock_training {m : Fin 4} {b : MirBlock} {s : State} (hrun : s.serdesRuns (.mirror m) = true) (h1 : s.getF .ML_PHYSTAT_LSTATE m = 1)
    (hord : s.mlOrdered = false) : exec (.mirrorTrainingBlockReceived m b) s = .next (match b with
      | .lock => s.modMl m (fun x => { x with locked := true })
      | .bad | .badHeader => s.modMl m (fun x => { x with good := 0, inverted := 0 })
      | .training inv num =>
        if !(s.ml[m]).locked then s
        else if inv ^^ s.bit .ML_PHYSTAT_RXINVST m then
          if s.bit .ML_PHYCTRL_RXPOLAUTO m && decide (15 ≤ (s.ml[m]).inverted) then
            (s.modMl m (fun x => { x with good := 0, inverted := 0, num := num })).setF .ML_PHYSTAT_RXINVST m
              (1 - s.getF .ML_PHYSTAT_RXINVST m)
          else s.modMl m (fun x => { x with good := 0, inverted := x.inverted + 1 })
        else
          (s.modMl m (fun x => { x with good := (if x.num = num.val then x.good else 0) + 1, inverted := 0, num := num })).mirOrder) := by
  rw [exec_mirrorTrainingBlockReceived, execMirrorTrainingBlockReceived, hrun, h1, hord]
  cases b <;> rfl

theorem mirrorBlock_set {m : Fin 4} {inv : Bool} {num : Fin 4} {s : State} (hrun : s.serdesRuns (.mirror m) = true)
    (h1 : s.getF .ML_PHYSTAT_LSTATE m = 1) (hord : s.mlOrdered = false) (hlock : (s.ml[m]).locked = true) :
    exec (.mirrorTrainingBlockReceived m (.training inv num)) s = .next (if inv ^^ s.bit .ML_PHYSTAT_RXINVST m then
      if s.bit .ML_PHYCTRL_RXPOLAUTO m && decide (15 ≤ (s.ml[m]).inverted) then
        (s.modMl m (fun x => { x with good := 0, inverted := 0, num := num })).setF .ML_PHYSTAT_RXINVST m (1 - s.getF .ML_PHYSTAT_RXINVST m)
      else s.modMl m (fun x => { x with good := 0, inverted := x.inverted + 1 })
    else (s.modMl m (fun x => { x with good := (if x.num = num.val then x.good else 0) + 1, inverted := 0, num := num })).mirOrder) := by
  rw [mirrorBlock_training hrun h1 hord]
  dsimp only
  rw [hlock]
  rfl

/-- An invalid sync header in UP (R207). -/
theorem mirrorBlock_header {m : Fin 4} {s : State} (hrun : s.serdesRuns (.mirror m) = true) (h3 : s.getF .ML_PHYSTAT_LSTATE m = 3) :
    exec (.mirrorTrainingBlockReceived m .badHeader) s = .next (s.headerError m) := by
  rw [exec_mirrorTrainingBlockReceived, execMirrorTrainingBlockReceived, hrun, h3]
  rfl

/-- An invalid sync header counted, before the loss is looked at. -/
def State.headerCounted (s : State) (m : Fin 4) : State :=
  (s.countF .ML_LINKCNT_CODEERR m 1).modMl m (fun x => { x with errAt := (s.tick :: (s.ml[m]).errAt).take 4 })

theorem State.headerError_eq (s : State) (m : Fin 4) : let last := (s.tick :: (s.ml[m]).errAt).take 4
    s.headerError m = if last.length = 4 ∧ last.all (fun t => decide ((s.tick - t) * 100 ≤ 255 * 256)) = true then
      (s.headerCounted m).mirLost m else s.headerCounted m := rfl

theorem mirrorTimeout {s : State} {due : Nat} (hdue : s.mirTrainEnd = some due) (hrun : s.mirRuns = true) (hpow : s.powered domMir = true) :
    exec (.trainingTimeout .mirror) s =
      .next (s.mirTraining.foldl (fun t m => t.countF .ML_LINKCNT_TRNFAIL m 1) (s.passTo due)).mirTrain := by
  have hon : (s.mirRuns && s.powered domMir) = true := by rw [hrun, hpow]; rfl
  rw [exec_trainingTimeout, execTrainingTimeout, hdue]
  exact congrArg _ (if_pos hon)

/-- The equalisers that adapt write PEAK (R200). -/
def State.groupPeaks (s : State) : State :=
  forIdx (n := 4) (fun m t => if t.bit .ML_RXEQ_ADAPT m then t.draw.2.setF .ML_RXEQ_PEAK m t.draw.1.toNat else t) s

theorem State.groupPeaks_spec (s : State) : let t := s.groupPeaks
    t = { s with regs := t.regs, free := t.free } ∧ RegsBut s t (mlKeys .ML_RXEQ_PEAK) := by
  refine (forIdx_each (s := s) (fun _ _ => ()) (fun t => t = { s with regs := t.regs, free := t.free } ∧ RegsBut s t (mlKeys .ML_RXEQ_PEAK))
    (fun _ _ => True) ⟨rfl, .refl s _⟩ fun t m ht _ => ⟨?_, trivial, fun _ _ => rfl⟩).1
  obtain ⟨hframe, hregs⟩ := ht
  split_ifs
  · refine ⟨?_, RegsBut.setF (t := t.draw.2) hregs _ (mem_mlKeys _ m)⟩
    obtain ⟨a, b, rfl⟩ : ∃ a b, t = { s with regs := a, free := b } := ⟨_, _, hframe⟩
    rfl
  · exact ⟨hframe, hregs⟩

/-- The group in UP, before its equalisers adapt. -/
def State.groupRaised (s : State) : State := ((s.mlAll lsUp).setF .MIR_LANEMAP_UP 0 0xF).setF .MIR_STAT_MIRUP 0 1

theorem State.groupRaised_spec (s : State) : let t := s.groupRaised
    OnlyRegs s t mirrorFields ∧ t.getF .MIR_STAT_MIRUP 0 = 1 ∧ t.getF .MIR_LANEMAP_UP 0 = 15 ∧
      ∀ k : Fin 4, s.testing (.mirror k) = false → t.getF .ML_PHYSTAT_LSTATE k = 3 := by
  intro t
  obtain ⟨honly, hstate⟩ := s.mlAll_spec (v := lsUp) (by decide)
  have hsub : mlKeys .ML_PHYSTAT_LSTATE ⊆ mirrorFields := by simp [mlKeys, mirrorFields]
  refine ⟨((OnlyRegs.mono honly hsub).setF 0xF (by simp [mirrorFields])).setF 1 (by simp [mirrorFields]), State.getF_setF_same _ _ _ _, ?_, fun k hk => ?_⟩
  · exact (State.getF_setF_ne _ _ _ _ (by simp)).trans (State.getF_setF_same _ _ _ _)
  · refine (State.getF_setF_ne _ _ _ _ (by simp)).trans ((State.getF_setF_ne _ _ _ _ (by simp)).trans ?_)
    rw [hstate k, hk]
    rfl

/-- The SIDE that a paired device sends (R413). -/
def State.sideSent (s : State) : State := if s.bit .MIR_CFG_PAIR 0 then s.queueMir (.side (s.bit .MIR_CFG_SIDE 0)) else s

theorem State.sideSent_eq (s : State) : s.sideSent = { s with
    jnl := { s.jnl with mirror := s.jnl.mirror ++ if s.bit .MIR_CFG_PAIR 0 then [.side (s.bit .MIR_CFG_SIDE 0)] else [] } } := by
  rw [State.sideSent]
  cases s.bit .MIR_CFG_PAIR 0 with
  | true => rfl
  | false => simp

/-- Settles O9: a block by its case, the group's training by the rule of the group. -/
theorem mirrorLinkTraining : Obligations.MirrorLinkTraining := by
  intro m inv num s x one seen good
  refine ⟨fun hrun h1 hord => ⟨?_, ?_, fun hlock hseen hwait => ?_, fun hlock hseen hgood hnum hall => ?_, fun hlock hseen hno => ?_,
    fun hlock hseen hauto hten => ?_⟩, fun hrun h3 hold hlen => ?_, fun hrun h3 hlen hall => ?_, fun hrun hord hup => ?_, fun hrun hup => ?_,
    fun hrun hpow due hdue => ?_, fun due hdue => ?_⟩
  · exact ⟨_, mirrorBlock_training hrun h1 hord, s.modMl_one m rfl⟩
  · exact ⟨_, mirrorBlock_training hrun h1 hord, s.modMl_one m rfl⟩
  · let y := s.modMl m (fun x => { x with good := (if x.num = num.val then x.good else 0) + 1, inverted := 0, num := num })
    have hy : y.mirOrder = y := by
      rcases hwait with hlow | ⟨k, hk, hlow⟩
      · exact State.mirOrder_waits (m := m) (.inl (by rw [s.modMl_same]; exact hlow))
      · exact State.mirOrder_waits (m := k) (by rw [s.modMl_ne _ hk]; exact hlow)
    refine ⟨y, ?_, s.modMl_one m rfl⟩
    rw [mirrorBlock_set hrun h1 hord hlock, if_neg (Bool.eq_false_iff.1 hseen)]
    exact congrArg _ hy
  · let y := s.modMl m (fun x => { x with good := (if x.num = num.val then x.good else 0) + 1, inverted := 0, num := num })
    have hym : y.ml[m] = { x with good := good, inverted := 0, num := num } := s.modMl_same m fun _ => _
    have hyk (k : Fin 4) (hk : k ≠ m) : y.ml[k] = s.ml[k] := s.modMl_ne _ hk
    have hy : y.mirOrder = { y.setF .MIR_LANEMAP_REVERSED 0 0 with mlOrdered := true } := by
      refine State.mirOrder_straight (fun k => ?_) fun k => ?_
      · by_cases hk : k = m
        · rw [hk, hym]
          exact ⟨hgood, h1⟩
        · rw [hyk k hk]
          exact ⟨(hall k hk).1, (hall k hk).2.2⟩
      · by_cases hk : k = m
        · rw [hk, hym, hnum]
        · rw [hyk k hk]
          exact (hall k hk).2.1
    let t : State := { y.setF .MIR_LANEMAP_REVERSED 0 0 with mlOrdered := true }
    have hregs : RegsBut s (y.setF .MIR_LANEMAP_REVERSED 0 0) [(.MIR_LANEMAP_REVERSED, 0)] :=
      RegsBut.setF (t := y) (fun _ _ _ => rfl) 0 (List.mem_singleton.2 rfl)
    refine ⟨t, (mirrorBlock_set hrun h1 hord hlock).trans ?_, rfl, ?_, rfl, hregs⟩
    · rw [if_neg (Bool.eq_false_iff.1 hseen)]
      exact congrArg _ hy
    · exact (y.getF_setF_same .MIR_LANEMAP_REVERSED 0 0).trans (Nat.zero_mod _)
  · have hwait : (s.bit .ML_PHYCTRL_RXPOLAUTO m && decide (15 ≤ (s.ml[m]).inverted)) = false := by
      rcases hno with h | h
      · rw [h, Bool.false_and]
      · rw [decide_eq_false (show ¬15 ≤ x.inverted by omega), Bool.and_false]
    refine ⟨_, (mirrorBlock_set hrun h1 hord hlock).trans ?_, s.modMl_one m (f := fun x => { x with good := 0, inverted := x.inverted + 1 }) rfl⟩
    rw [if_pos hseen, if_neg (Bool.eq_false_iff.1 hwait)]
  · let y := s.modMl m (fun x => { x with good := 0, inverted := 0, num := num })
    have hturn : (s.bit .ML_PHYCTRL_RXPOLAUTO m && decide (15 ≤ (s.ml[m]).inverted)) = true := by rw [hauto, decide_eq_true hten]; rfl
    refine ⟨y.setF .ML_PHYSTAT_RXINVST m (1 - s.getF .ML_PHYSTAT_RXINVST m), (mirrorBlock_set hrun h1 hord hlock).trans ?_,
      s.modMl_one m (f := fun x => { x with good := 0, inverted := 0, num := num }) rfl, ?_, RegsBut.setF (t := y) (fun _ _ _ => rfl) _ (by simp)⟩
    · rw [if_pos hseen, if_pos hturn]
    · refine (y.getF_setF_same .ML_PHYSTAT_RXINVST m _).trans (Nat.mod_eq_of_lt ?_)
      have := Fld.ML_PHYSTAT_RXINVST.one_lt
      omega
  · have hlast : (s.tick :: x.errAt).take 4 = s.tick :: x.errAt := List.take_of_length_le (Nat.succ_le_succ hlen)
    have hno : ¬(((s.tick :: x.errAt).take 4).length = 4 ∧ ((s.tick :: x.errAt).take 4).all (fun t => decide ((s.tick - t) * 100 ≤ 255 * 256)) = true) := by
      rw [hlast]
      rintro ⟨hfour, hnear⟩
      obtain ⟨a, b, c, habc⟩ := List.length_eq_three.1 (show x.errAt.length = 3 by simpa using hfour)
      have hc := List.all_eq_true.1 hnear c (by simp [habc])
      exact absurd (of_decide_eq_true hc) (not_le.2 (hold a b c habc))
    refine ⟨s.headerCounted m, (mirrorBlock_header hrun h3).trans ?_, ?_, ?_, ?_⟩
    · rw [s.headerError_eq m, if_neg hno]
    · exact s.modMl_one m (f := fun x => { x with errAt := (s.tick :: (s.ml[m]).errAt).take 4 }) (congrArg (fun l => { s.ml[m] with errAt := l }) hlast)
    · exact (OnlyRegs.refl s [(.ML_LINKCNT_CODEERR, m.val)]).2.setF _ (by simp)
    · exact s.getF_countF_same m .ML_LINKCNT_CODEERR 1
  · have hloss : ((s.tick :: x.errAt).take 4).length = 4 ∧ ((s.tick :: x.errAt).take 4).all (fun t => decide ((s.tick - t) * 100 ≤ 255 * 256)) = true := by
      refine ⟨by simpa using hlen, List.all_eq_true.2 fun a ha => decide_eq_true ?_⟩
      rw [List.take_succ_cons, List.mem_cons] at ha
      rcases ha with rfl | ha
      · simp
      · exact hall a ha
    obtain ⟨htrain, hbit, hcount⟩ := (s.headerCounted m).mirLost_spec m
    refine ⟨_, (mirrorBlock_header hrun h3).trans ?_, hbit, htrain.2.1, hcount.trans ?_⟩
    · rw [s.headerError_eq m, if_pos hloss]
    · rw [show (s.headerCounted m).getF .ML_LINKCNT_LOSSCNT m = s.getF .ML_LINKCNT_LOSSCNT m from State.getF_countF_ne _ _ _ _ (by simp)]
  · let y := s.sideSent.groupRaised
    obtain ⟨(hy : OnlyRegs s.sideSent y _), hmirup, hup', hstate⟩ := s.sideSent.groupRaised_spec
    let t := y.groupPeaks
    obtain ⟨(hframe : t = _), hregs⟩ := y.groupPeaks_spec
    have hget {f : Fld} (hf : f ≠ .ML_RXEQ_PEAK) (i : Nat) : t.getF f i = y.getF f i := hregs.getF_eq (fun e he => mlKeys_name he ▸ hf.symm) i
    have hside (f : Fld) (i : Nat) : s.sideSent.getF f i = s.getF f i := by rw [s.sideSent_eq]; rfl
    refine ⟨t, ?_, ?_, ?_, fun k hk => ?_, ?_, ?_⟩
    · have hon : (s.mlOrdered && !s.mirUp && s.mirRuns) = true := by rw [hord, hup, hrun]; rfl
      rw [exec_mirrorGroupUp, execMirrorGroupUp, if_pos hon]
      rfl
    · rw [State.mirUp, State.bit, hget (by simp)]
      exact beq_iff_eq.2 hmirup
    · exact (hget (by simp) 0).trans hup'
    · refine (hget (by simp) k).trans (hstate k ?_)
      rw [← hk]
      exact State.testing_congr (hside _ _) (hside _ _)
    · rw [s.sideSent_eq] at hy
      exact hframe.trans (congrArg (fun x : State => { x with regs := t.regs, free := t.free }) hy.1)
    · have hsides : RegsBut s s.sideSent (mirrorFields ++ mlKeys .ML_RXEQ_PEAK) := fun f i _ => hside f i
      exact (hsides.trans (hy.2.mono (List.subset_append_left _ _))).trans (hregs.mono (List.subset_append_right _ _))
  · obtain ⟨htrain, hbit, hcount⟩ := s.mirLost_spec m
    refine ⟨_, ?_, htrain, hbit, hcount⟩
    rw [exec_mirrorLinkLoss, execMirrorLinkLoss, hup, hrun]
    rfl
  · let r := s.passTo due
    let y := s.mirTraining.foldl (fun t m => t.countF .ML_LINKCNT_TRNFAIL m 1) r
    obtain ⟨(hy : OnlyRegs r y _), hcount⟩ := State.countAll_spec (f := .ML_LINKCNT_TRNFAIL) (l := s.mirTraining) (s := r)
      ((List.nodup_finRange 4).filter _)
    have htrain := y.mirTrain_spec
    have hframe := htrain.2.2.2.2.2.2.1
    refine ⟨y.mirTrain, ?_, MirrorTrains.after htrain hy (fun e he => by rw [mlKeys_name he]; simp [mirReads]), ?_, fun k => ?_⟩
    · exact mirrorTimeout hdue hrun hpow
    · rw [hframe]
      change y.tick = _
      rw [hy.1]
      exact s.passTo_tick due
    · rw [MirrorTrains.getF_eq htrain (by decide), show y.getF .ML_LINKCNT_TRNFAIL k = _ from hcount k, s.getF_passTo, if_congr State.mem_mirTraining rfl rfl]
  · obtain ⟨k, hk, rfl⟩ := List.mem_map.1 (List.min?_mem hdue)
    exact ⟨k, State.mem_mirTraining.1 hk, rfl⟩

end Sys2Proof.Machine
end

section
/-! The equaliser and the test patterns of a SerDes (R199, R211 to R214). -/
namespace Sys2Proof.Machine

-- The proofs one after another: all at once they would need more threads, and their stacks, than the check's memory holds.
set_option Elab.async false

/-! The fields of a SerDes. -/

/-- The names of the fields that the patterns of `x` turn on. -/
def patNames (x : Serdes) : List Fld :=
  let f := serdesFlds x
  [f.loop, f.chkinv, f.geninv, f.chken, f.genen, f.chksel, f.gensel, f.lock, f.lostlk, f.errcnt]

theorem patNames_nodup (x : Serdes) : (patNames x).Nodup := by
  cases x <;> simp [patNames, serdesFlds]

theorem patNames_width (x : Serdes) : let f := serdesFlds x
    f.loop.width = 2 ∧ f.chkinv.width = 1 ∧ f.geninv.width = 1 ∧ f.chken.width = 1 ∧ f.genen.width = 1 ∧ f.chksel.width = 4 ∧ f.gensel.width = 4 ∧
      f.swing.width = 4 ∧ f.post.width = 5 ∧ f.pre.width = 4 := by
  cases x with
  | lane n => exact ⟨(rfl : Fld.CL_PATCTRL_LOOP.width = 2), (rfl : Fld.CL_PATCTRL_CHKINV.width = 1), (rfl : Fld.CL_PATCTRL_GENINV.width = 1),
      (rfl : Fld.CL_PATCTRL_CHKEN.width = 1), (rfl : Fld.CL_PATCTRL_GENEN.width = 1), (rfl : Fld.CL_PATCTRL_CHKSEL.width = 4),
      (rfl : Fld.CL_PATCTRL_GENSEL.width = 4), (rfl : Fld.CL_TXEQ_SWING.width = 4), (rfl : Fld.CL_TXEQ_POST.width = 5), (rfl : Fld.CL_TXEQ_PRE.width = 4)⟩
  | mirror m => exact ⟨(rfl : Fld.ML_PATCTRL_LOOP.width = 2), (rfl : Fld.ML_PATCTRL_CHKINV.width = 1), (rfl : Fld.ML_PATCTRL_GENINV.width = 1),
      (rfl : Fld.ML_PATCTRL_CHKEN.width = 1), (rfl : Fld.ML_PATCTRL_GENEN.width = 1), (rfl : Fld.ML_PATCTRL_CHKSEL.width = 4),
      (rfl : Fld.ML_PATCTRL_GENSEL.width = 4), (rfl : Fld.ML_TXEQ_SWING.width = 4), (rfl : Fld.ML_TXEQ_POST.width = 5), (rfl : Fld.ML_TXEQ_PRE.width = 4)⟩
  | host p => exact ⟨(rfl : Fld.HP_PATCTRL_LOOP.width = 2), (rfl : Fld.HP_PATCTRL_CHKINV.width = 1), (rfl : Fld.HP_PATCTRL_GENINV.width = 1),
      (rfl : Fld.HP_PATCTRL_CHKEN.width = 1), (rfl : Fld.HP_PATCTRL_GENEN.width = 1), (rfl : Fld.HP_PATCTRL_CHKSEL.width = 4),
      (rfl : Fld.HP_PATCTRL_GENSEL.width = 4), (rfl : Fld.HP_TXEQ_SWING.width = 4), (rfl : Fld.HP_TXEQ_POST.width = 5), (rfl : Fld.HP_TXEQ_PRE.width = 4)⟩

/-! The pattern state of a SerDes. -/

section
variable (s : State) (x : Serdes) (f : PatSt → PatSt)

theorem State.pat_modPat : (s.modPat x f).pat x = f (s.pat x) := by
  cases x with
  | lane n => exact congrArg LaneSt.pat (s.modLane_same n fun l => { l with pat := f l.pat })
  | mirror m => exact congrArg MlSt.pat (s.modMl_same m fun l => { l with pat := f l.pat })
  | host p => exact congrArg HpSt.pat (vector_set_same s.hp { s.hp[p] with pat := f (s.hp[p]).pat })

theorem State.getF_modPat (g : Fld) (i : Nat) : (s.modPat x f).getF g i = s.getF g i := by cases x <;> rfl

theorem State.bit_modPat (g : Fld) (i : Nat) : (s.modPat x f).bit g i = s.bit g i := by cases x <;> rfl

theorem State.pat_setF (g : Fld) (i v : Nat) : (s.setF g i v).pat x = s.pat x := by cases x <;> rfl

theorem State.userPattern_congr {t : State} (h : ∀ g i, t.getF g i = s.getF g i) : t.userPattern x = s.userPattern x := by
  cases x <;> simp only [State.userPattern, h]

end

/-! The words written. -/

/-- The fields of a pattern control word. -/
theorem patWord (v : Nat) : bitsOf v 3 0 = v % 16 ∧ bitsOf v 7 4 = v / 16 % 16 ∧ bitsOf v 11 11 = v / 2 ^ 11 % 2 ∧ bitsOf v 12 12 = v / 2 ^ 12 % 2 ∧
    bitsOf v 13 13 = v / 2 ^ 13 % 2 ∧ bitsOf v 15 14 = v / 2 ^ 14 % 4 ∧ bitsOf v 6 3 = v / 8 % 16 ∧ bitsOf v 11 7 = v / 128 % 32 ∧
    bitsOf v 15 12 = v / 2 ^ 12 % 16 := by
  simp [bitsOf]

theorem getLsbD_eq_decide (w : Word) (k : Nat) : w.getLsbD k = decide (w.toNat / 2 ^ k % 2 = 1) := by
  rw [BitVec.getLsbD, Nat.testBit_eq_decide_div_mod_eq]

theorem b2n_getLsbD (w : Word) (k : Nat) : b2n (w.getLsbD k) = w.toNat / 2 ^ k % 2 := by
  rw [getLsbD_eq_decide]
  rcases Nat.mod_two_eq_zero_or_one (w.toNat / 2 ^ k) with h | h <;> rw [h] <;> rfl

/-! The equaliser (R199). -/

theorem txeqWrite_set {x : Serdes} {w : Word} {s : State} (hok : s.serdesOk x = true) (h : w.toNat / 8 % 16 + w.toNat / 128 % 32 ≤ 32) :
    let f := serdesFlds x
    Sets (.txeqWrite x w) s [(f.swing, f.i, w.toNat / 2 ^ 12 % 16), (f.post, f.i, w.toNat / 128 % 32), (f.pre, f.i, w.toNat / 8 % 16)] := by
  intro f
  obtain ⟨-, -, -, -, -, -, hpre, hpost, hswing⟩ := patWord w.toNat
  obtain ⟨-, -, -, -, -, -, -, hws, hwp, hwr⟩ := patNames_width x
  refine SetsOn.of_setAll ?_ (writtenKeys_nodup (by cases x <;> simp [f, serdesFlds])) ?_ rfl
  · rw [exec_txeqWrite, execTxeqWrite, if_pos hok, State.writeTxeq.eq_def, hpre, hpost, hswing, if_neg (by omega)]
    rfl
  · intro e he
    simp only [List.mem_cons, List.not_mem_nil, or_false] at he
    rcases he with rfl | rfl | rfl
    · rw [hws]; exact Nat.mod_lt _ (by decide)
    · rw [hwp]; exact Nat.mod_lt _ (by decide)
    · rw [hwr]; exact Nat.mod_lt _ (by decide)

theorem txeqWrite_refused {x : Serdes} {w : Word} {s : State} (hok : s.serdesOk x = true) (h : 32 < w.toNat / 8 % 16 + w.toNat / 128 % 32) :
    (∀ n, x = .lane n → Sets (.txeqWrite x w) s [(.CL_PHYSTAT_TXEQERR, n, 1)]) ∧
    (∀ m, x = .mirror m → Sets (.txeqWrite x w) s [(.ML_PHYSTAT_TXEQERR, m, 1)]) ∧ ((∃ p, x = .host p) → Ignores (.txeqWrite x w) s) := by
  obtain ⟨-, -, -, -, -, -, hpre, hpost, -⟩ := patWord w.toNat
  have hexec : exec (.txeqWrite x w) s = .next (match x with
      | .lane n => s.setF .CL_PHYSTAT_TXEQERR n 1
      | .mirror m => s.setF .ML_PHYSTAT_TXEQERR m 1
      | .host _ => s) := by
    rw [exec_txeqWrite, execTxeqWrite, if_pos hok, State.writeTxeq.eq_def, hpre, hpost, if_pos h]
    cases x <;> rfl
  refine ⟨?_, ?_, ?_⟩
  · rintro n rfl
    exact SetsOn.of_setAll (l := [(.CL_PHYSTAT_TXEQERR, n.val, 1)]) hexec (writtenKeys_nodup (by simp)) (by simp) rfl
  · rintro m rfl
    exact SetsOn.of_setAll (l := [(.ML_PHYSTAT_TXEQERR, m.val, 1)]) hexec (writtenKeys_nodup (by simp)) (by simp) rfl
  · rintro ⟨p, rfl⟩
    exact hexec

/-! The pattern control word (R211, R213). -/

/-- Nothing but register fields, the freely chosen values and the pattern state of `x` changes. -/
def PatFrame (x : Serdes) (s t : State) : Prop :=
  match x with
  | .lane n => t = { s with regs := t.regs, free := t.free, lanes := t.lanes } ∧ (∀ m : Fin 96, m ≠ n → t.lanes[m] = s.lanes[m]) ∧
      (t.lanes[n]).burst = (s.lanes[n]).burst
  | .mirror _ => True
  | .host _ => t = { s with regs := t.regs, free := t.free, hp := t.hp }

theorem PatFrame.refl (x : Serdes) (s : State) : PatFrame x s s := by
  cases x with
  | lane n => exact ⟨rfl, fun _ _ => rfl, rfl⟩
  | mirror m => trivial
  | host p => exact rfl

theorem PatFrame.trans {x : Serdes} {s t u : State} (h : PatFrame x s t) (h' : PatFrame x t u) : PatFrame x s u := by
  cases x with
  | lane n =>
    obtain ⟨hf, ho, hb⟩ := h
    obtain ⟨hf', ho', hb'⟩ := h'
    exact ⟨hf'.trans (congrArg (fun y : State => { y with regs := u.regs, free := u.free, lanes := u.lanes }) hf),
      fun m hm => (ho' m hm).trans (ho m hm), hb'.trans hb⟩
  | mirror m => trivial
  | host p => exact Eq.trans h' (congrArg (fun y : State => { y with regs := u.regs, free := u.free, hp := u.hp }) h)

theorem PatFrame.setF (x : Serdes) (s : State) (g : Fld) (i v : Nat) : PatFrame x s (s.setF g i v) := by
  cases x with
  | lane n => exact ⟨rfl, fun _ _ => rfl, rfl⟩
  | mirror m => trivial
  | host p => exact rfl

theorem PatFrame.draw (x : Serdes) (s : State) : PatFrame x s s.draw.2 := by
  cases x with
  | lane n => exact ⟨rfl, fun _ _ => rfl, rfl⟩
  | mirror m => trivial
  | host p => exact rfl

theorem PatFrame.modPat (x : Serdes) (s : State) (f : PatSt → PatSt) : PatFrame x s (s.modPat x f) := by
  cases x with
  | lane n =>
    refine ⟨rfl, fun m hm => s.modLane_ne (fun l => { l with pat := f l.pat }) hm, ?_⟩
    change ((s.modLane n fun l => { l with pat := f l.pat }).lanes[n]).burst = _
    rw [s.modLane_same]
  | mirror m => trivial
  | host p => exact rfl

theorem PatFrame.startGen (x : Serdes) (s : State) : PatFrame x s (s.startGen x) := by
  rw [State.startGen]
  exact (PatFrame.draw x s).trans (.modPat x s.draw.2 _)

theorem State.getF_startGen (s : State) (x : Serdes) (g : Fld) (i : Nat) : (s.startGen x).getF g i = s.getF g i := State.getF_modPat _ x _ g i

/-- The seven fields of a pattern control word. -/
def patWrites (x : Serdes) (v : Nat) : List (Fld × Nat × Nat) :=
  let f := serdesFlds x
  [(f.loop, f.i, v / 2 ^ 14 % 4), (f.chkinv, f.i, v / 2 ^ 13 % 2), (f.geninv, f.i, v / 2 ^ 12 % 2), (f.chken, f.i, v / 2 ^ 11 % 2),
    (f.genen, f.i, v / 2 ^ 10 % 2), (f.chksel, f.i, v / 16 % 16), (f.gensel, f.i, v % 16)]

/-- The generator starts anew where it is enabled or its pattern changes. -/
def State.patStart (s : State) (x : Serdes) (v : Nat) : State :=
  let f := serdesFlds x
  if v / 2 ^ 10 % 2 = 1 ∧ (s.bit f.genen f.i = false ∨ v % 16 ≠ s.getF f.gensel f.i) then (s.setAll (patWrites x v)).startGen x
  else s.setAll (patWrites x v)

/-- A pattern control word written, before the SerDes follows it. -/
def State.patWritten (s : State) (x : Serdes) (v : Nat) : State :=
  let f := serdesFlds x
  if v / 2 ^ 11 % 2 = 0 ∨ v / 16 % 16 ≠ s.getF f.chksel f.i then
    ((s.patStart x v).setF f.lock f.i 0).modPat x (fun p => { p with hist := 0, got := 0, run := 0, wrong := [] })
  else s.patStart x v

/-- The words that the pattern control refuses (R213). -/
def PatBad (s : State) (x : Serdes) (v : Nat) : Prop :=
  4 < v % 16 ∨ 4 < v / 16 % 16 ∨ v / 2 ^ 14 % 4 = 3 ∨ (s.inS4 = true ∧ ¬(∃ p, x = .host p) ∧ (v / 2 ^ 10 % 2 = 1 ∨ v / 2 ^ 14 % 4 ≠ 0))

theorem patBad_iff (s : State) (x : Serdes) (w : Word) : (4 < bitsOf w.toNat 3 0 || 4 < bitsOf w.toNat 7 4 || bitsOf w.toNat 15 14 == 3 ||
    (s.inS4 && (match x with | .host _ => false | _ => true) && (w.getLsbD 10 || bitsOf w.toNat 15 14 != 0))) = true ↔ PatBad s x w.toNat := by
  obtain ⟨h1, h2, -, -, -, h3, -⟩ := patWord w.toNat
  rw [h1, h2, h3, getLsbD_eq_decide, PatBad]
  cases x <;> simp [or_assoc]

theorem State.writePatctrl_bad {s : State} {x : Serdes} {w : Word} (h : PatBad s x w.toNat) :
    s.writePatctrl x w = s.setF (serdesFlds x).testerr (serdesFlds x).i 1 := by
  rw [State.writePatctrl.eq_def]
  exact if_pos ((patBad_iff s x w).2 h)

theorem State.writePatctrl_ok {s : State} {x : Serdes} {w : Word} (h : ¬PatBad s x w.toNat) :
    s.writePatctrl x w = (s.patWritten x w.toNat).testFollow x := by
  obtain ⟨h1, h2, h3, h4, h5, h6, -⟩ := patWord w.toNat
  rw [State.writePatctrl.eq_def]
  refine (if_neg ((patBad_iff s x w).not.2 h)).trans ?_
  have hgen : (w.getLsbD 10 && (!s.bit (serdesFlds x).genen (serdesFlds x).i || w.toNat % 16 != s.getF (serdesFlds x).gensel (serdesFlds x).i)) = true ↔
      w.toNat / 2 ^ 10 % 2 = 1 ∧ (s.bit (serdesFlds x).genen (serdesFlds x).i = false ∨ w.toNat % 16 ≠ s.getF (serdesFlds x).gensel (serdesFlds x).i) := by
    rw [getLsbD_eq_decide]
    simp
  have hsel : (!w.getLsbD 11 || w.toNat / 16 % 16 != s.getF (serdesFlds x).chksel (serdesFlds x).i) = true ↔
      w.toNat / 2 ^ 11 % 2 = 0 ∨ w.toNat / 16 % 16 ≠ s.getF (serdesFlds x).chksel (serdesFlds x).i := by
    rw [getLsbD_eq_decide]
    simp
  simp only [h1, h2, h3, h4, h5, h6, hgen, hsel, b2n_getLsbD]
  rfl

theorem patWrites_map (x : Serdes) (v : Nat) : (patWrites x v).map Prod.fst = (patNames x).take 7 := by
  simp [patWrites, patNames]

theorem patWrites_get {x : Serdes} {v : Nat} {s : State} : ∀ e ∈ patWrites x v, (s.setAll (patWrites x v)).getF e.1 e.2.1 = e.2.2 := by
  obtain ⟨hl, hci, hgi, hce, hge, hcs, hgs, -⟩ := patNames_width x
  intro e he
  have hnd : ((patWrites x v).map Prod.fst).Nodup := patWrites_map x v ▸ (patNames_nodup x).sublist (List.take_sublist 7 _)
  rw [s.getF_setAll (writtenKeys_nodup hnd) e he]
  simp only [patWrites, List.mem_cons, List.not_mem_nil, or_false] at he
  rcases he with rfl | rfl | rfl | rfl | rfl | rfl | rfl
  · rw [hl]; exact Nat.mod_mod _ _
  · rw [hci]; exact Nat.mod_mod _ _
  · rw [hgi]; exact Nat.mod_mod _ _
  · rw [hce]; exact Nat.mod_mod _ _
  · rw [hge]; exact Nat.mod_mod _ _
  · rw [hcs]; exact Nat.mod_mod _ _
  · rw [hgs]; exact Nat.mod_mod _ _

/-- The fields that a pattern control word writes. -/
def patKeys (x : Serdes) : List (Fld × Nat) :=
  let f := serdesFlds x
  [(f.loop, f.i), (f.chkinv, f.i), (f.geninv, f.i), (f.chken, f.i), (f.genen, f.i), (f.chksel, f.i), (f.gensel, f.i), (f.lock, f.i)]

theorem PatFrame.setAll (x : Serdes) (s : State) (l : List (Fld × Nat × Nat)) : PatFrame x s (s.setAll l) :=
  List.foldlRecOn (motive := fun t : State => PatFrame x s t) l _ (.refl x s) fun t ht e _ => ht.trans (.setF x t e.1 e.2.1 e.2.2)

theorem State.patStart_spec (s : State) (x : Serdes) (v : Nat) : let t := s.patStart x v
    PatFrame x s t ∧ (∀ g i, t.getF g i = (s.setAll (patWrites x v)).getF g i) ∧ (v / 2 ^ 10 % 2 = 0 → t.free = s.free) := by
  have hall := PatFrame.setAll x s (patWrites x v)
  unfold State.patStart
  dsimp only
  split_ifs with h
  · exact ⟨hall.trans (.startGen x _), fun g i => State.getF_startGen _ x g i, fun h0 => absurd (h0.symm.trans h.1) (by decide)⟩
  · exact ⟨hall, fun _ _ => rfl, fun _ => by rw [s.setAll_frame]⟩

theorem patWrites_name {x : Serdes} {v : Nat} {e : Fld × Nat × Nat} (h : e ∈ patWrites x v) : e.1 ∈ (patNames x).take 7 :=
  patWrites_map x v ▸ List.mem_map_of_mem h

theorem patWrites_keys (x : Serdes) (v : Nat) : (patWrites x v).map (fun e => (e.1, e.2.1)) ⊆ patKeys x := by
  have hpre : (patWrites x v).map (fun e => (e.1, e.2.1)) = (patKeys x).take 7 := by simp [patWrites, patKeys]
  exact hpre ▸ List.take_subset 7 _

theorem lock_mem_patKeys (x : Serdes) : ((serdesFlds x).lock, (serdesFlds x).i) ∈ patKeys x := List.mem_of_getElem? (i := 7) rfl

theorem patNames_lock {x : Serdes} {g : Fld} (h : g ∈ (patNames x).take 7) : g ≠ (serdesFlds x).lock := by
  cases x <;> (rintro rfl; simp [patNames, serdesFlds] at h)

/-- The pattern control word is in its fields, and the lock is kept or dropped (R211, R214). -/
theorem State.patWritten_spec (s : State) (x : Serdes) (v : Nat) : let t := s.patWritten x v
    let f := serdesFlds x
    PatFrame x s t ∧ RegsBut s t (patKeys x) ∧ (v / 2 ^ 10 % 2 = 0 → t.free = s.free) ∧ (∀ e ∈ patWrites x v, t.getF e.1 e.2.1 = e.2.2) ∧
      t.getF f.lock f.i = if v / 2 ^ 11 % 2 = 0 ∨ v / 16 % 16 ≠ s.getF f.chksel f.i then 0 else s.getF f.lock f.i := by
  obtain ⟨hframe, hget, hfree⟩ := s.patStart_spec x v
  have hregs : RegsBut s (s.setAll (patWrites x v)) (patKeys x) := (s.setAll_regsBut _).mono (patWrites_keys x v)
  have hlock : (s.setAll (patWrites x v)).getF (serdesFlds x).lock (serdesFlds x).i = s.getF (serdesFlds x).lock (serdesFlds x).i :=
    (s.setAll_regsBut _).getF_eq (fun e he => by
      obtain ⟨e', he', rfl⟩ := List.mem_map.1 he
      exact patNames_lock (patWrites_name he')) _
  unfold State.patWritten
  generalize s.patStart x v = y at hframe hget hfree
  have hregs' : RegsBut s y (patKeys x) := fun g i hgi => (hget g i).trans (hregs g i hgi)
  dsimp only
  split_ifs with h
  · refine ⟨(hframe.trans (.setF x y _ _ _)).trans (.modPat x _ _), fun g i hgi => ?_, fun h0 => ?_, fun e he => ?_, ?_⟩
    · exact (State.getF_modPat _ x _ g i).trans (hregs'.setF 0 (lock_mem_patKeys x) g i hgi)
    · rw [← hfree h0]
      cases x <;> rfl
    · rw [State.getF_modPat, State.getF_setF_ne _ _ _ _ (patNames_lock (patWrites_name he)), hget]
      exact patWrites_get e he
    · rw [State.getF_modPat, State.getF_setF_same, Nat.zero_mod]
  · exact ⟨hframe, hregs', hfree, fun e he => (hget _ _).trans (patWrites_get e he), (hget _ _).trans hlock⟩

/-! The SerDes follows its word (R213). -/

theorem patKeys_names (x : Serdes) {e : Fld × Nat} (h : e ∈ patKeys x) : e.1 ∈ patNames x := by
  have hsub : (patKeys x).map Prod.fst ⊆ patNames x := by
    rw [show (patKeys x).map Prod.fst = (patNames x).take 8 from by simp [patKeys, patNames]]
    exact List.take_subset 8 _
  exact hsub (List.mem_map_of_mem h)

theorem patKeys_lane (n : Fin 96) : ∀ e ∈ patKeys (.lane n), e.1 ∉ trainReads := by simp [patKeys, serdesFlds, trainReads]

/-- A lane in its test state. -/
def State.laneTested (s : State) (n : Fin 96) : State := (s.setLstate n lsTest).clearCheck

theorem State.laneTested_spec (s : State) (n : Fin 96) : EntersState n 7 [] s (s.laneTested n) := by
  refine EntersState.of_setLstate (by decide) ((LaneAlone.refl n _ _).clearCheck (by simp [lstateFields])) (fun f hf => ?_) ?_ ?_ ?_
  · simp only [List.mem_cons, List.not_mem_nil, or_false] at hf
    rcases hf with rfl | rfl | rfl <;> exact State.clearCheck_getF _ (by simp) (by simp) _
  · exact congrArg (fun l : Vector LaneSt 96 => (l[n]).dlyAcc) (State.clearCheck_lanes _)
  · exact congrArg (fun l : Vector LaneSt 96 => (l[n]).clrPend) (State.clearCheck_lanes _)
  · exact congrArg (fun l : Vector LaneSt 96 => (l[n]).burst) (State.clearCheck_lanes _)

theorem State.testFollow_lane (s : State) (n : Fin 96) : s.testFollow (.lane n) =
    if s.testing (.lane n) then s.laneTested n else if s.lstate n == lsTest then s.train n else s := rfl

/-- The state of a mirror lane in test. -/
def State.mirrorTested (s : State) (m : Fin 4) : State := (if s.mirUp || s.mlOrdered then s.mirTrain else s).setF .ML_PHYSTAT_LSTATE m lsTest

theorem State.mirrorTested_spec (s : State) (m : Fin 4) : (s.mirrorTested m).getF .ML_PHYSTAT_LSTATE m = 7 ∧
    ∀ {f : Fld}, (∀ e ∈ mirrorFields, e.1 ≠ f) → ∀ i, (s.mirrorTested m).getF f i = s.getF f i := by
  refine ⟨(State.getF_setF_same _ _ _ _).trans (by rw [(rfl : Fld.ML_PHYSTAT_LSTATE.width = 3)]; rfl), fun {f} hf i => ?_⟩
  have hne : f ≠ .ML_PHYSTAT_LSTATE := (hf (.ML_PHYSTAT_LSTATE, 0) (by simp [mirrorFields])).symm
  rw [State.mirrorTested, State.getF_setF_ne _ _ _ _ hne]
  split_ifs
  · exact MirrorTrains.getF_eq s.mirTrain_spec hf i
  · rfl

/-- Where a mirror lane leaves its test state. -/
def State.mirrorUntested (s : State) (m : Fin 4) : State :=
  if s.getF .ML_PHYSTAT_LSTATE m == lsTest then
    (if s.getF .MIR_STAT_ENST 0 == enstOff then s.setF .ML_PHYSTAT_LSTATE m lsTa else s.mirTrain)
  else s

theorem State.mirrorUntested_getF (s : State) (m : Fin 4) {f : Fld} (hf : ∀ e ∈ mirrorFields, e.1 ≠ f) (i : Nat) :
    (s.mirrorUntested m).getF f i = s.getF f i := by
  have hne : f ≠ .ML_PHYSTAT_LSTATE := (hf (.ML_PHYSTAT_LSTATE, 0) (by simp [mirrorFields])).symm
  unfold State.mirrorUntested
  split_ifs
  · exact State.getF_setF_ne _ _ _ _ hne
  · exact MirrorTrains.getF_eq s.mirTrain_spec hf i
  · rfl

theorem State.testFollow_mirror (s : State) (m : Fin 4) : s.testFollow (.mirror m) =
    if s.testing (.mirror m) then s.mirrorTested m else s.mirrorUntested m := rfl

theorem State.testFollow_host (s : State) (p : Fin 4) : s.testFollow (.host p) =
    if s.getF .HP_STAT_ENST p == enstOff then s
    else if s.testing (.host p) then s.setF .HP_STAT_PSTATE p 4
    else if s.getF .HP_STAT_PSTATE p == 4 then s.setF .HP_STAT_PSTATE p 1
    else s := rfl

/-- Following its word leaves a SerDes the fields of that word. -/
theorem State.testFollow_getF (s : State) (x : Serdes) {g : Fld} (hg : g ∈ patNames x) (i : Nat) : (s.testFollow x).getF g i = s.getF g i := by
  cases x with
  | lane n =>
    have hne : ∀ e ∈ lstateFields n, e.1 ≠ g := by
      rintro e he rfl
      revert hg
      simp only [lstateFields, List.mem_cons, List.not_mem_nil, or_false] at he
      rcases he with rfl | rfl | rfl | rfl | rfl | rfl <;> simp [patNames, serdesFlds]
    rw [s.testFollow_lane]
    split_ifs
    · exact EntersState.getF_eq (s.laneTested_spec n) hne i
    · exact Trains.getF_eq (s.train_spec n) hne i
    · rfl
  | mirror m =>
    have hne : ∀ e ∈ mirrorFields, e.1 ≠ g := by
      rintro e he rfl
      revert hg
      have hname : e.1 ∈ mirrorFields.map Prod.fst := List.mem_map_of_mem he
      simp only [mirrorFields, List.range, List.range.loop, List.map_cons, List.map_nil, List.cons_append, List.nil_append, List.mem_cons, List.not_mem_nil,
        or_false] at hname
      rcases hname with h | h | h | h | h | h | h | h | h | h | h | h | h | h <;> simp [h, patNames, serdesFlds]
    rw [s.testFollow_mirror]
    split_ifs
    · exact (s.mirrorTested_spec m).2 hne i
    · exact s.mirrorUntested_getF m hne i
  | host p =>
    have hne : g ≠ .HP_STAT_PSTATE := by
      rintro rfl
      simp [patNames, serdesFlds] at hg
    rw [s.testFollow_host]
    split_ifs
    · rfl
    · exact State.getF_setF_ne _ _ _ _ hne
    · exact State.getF_setF_ne _ _ _ _ hne
    · rfl

theorem State.testing_of {s : State} {x : Serdes} : s.testing x = true ↔
    s.getF (serdesFlds x).genen (serdesFlds x).i = 1 ∨ s.getF (serdesFlds x).loop (serdesFlds x).i ≠ 0 := by
  simp [State.testing, State.bit]

/-- The pattern control word is taken, and the SerDes follows it. -/
theorem patternCtrlWrite_taken {x : Serdes} {w : Word} {s : State} (hok : s.serdesOk x = true) (h : ¬PatBad s x w.toNat) :
    exec (.patternCtrlWrite x w) s = .next ((s.patWritten x w.toNat).testFollow x) := by
  rw [exec_patternCtrlWrite, execPatternCtrlWrite, if_pos hok, State.writePatctrl_ok h]

section
variable {s : State} {v : Nat}

/-- A lane whose word turns a generator or a loopback on enters its test state (R213). -/
theorem lane_enters_test {n : Fin 96} (h : v / 2 ^ 10 % 2 = 1 ∨ v / 2 ^ 14 % 4 ≠ 0) : let t := (s.patWritten (.lane n) v).testFollow (.lane n)
    EntersState n 7 (patKeys (.lane n)) { s with free := t.free } t := by
  obtain ⟨⟨hframe, hothers, hburst⟩, hregs, -, hget, -⟩ := s.patWritten_spec (.lane n) v
  generalize s.patWritten (.lane n) v = y at hframe hothers hburst hregs hget
  have htest : y.testing (.lane n) = true := State.testing_of.2 (h.imp (fun h => (hget _ (List.mem_of_getElem? (i := 4) rfl)).trans h)
    fun h h0 => h ((hget _ (List.mem_of_getElem? (i := 0) rfl)).symm.trans h0))
  have hfree : (y.laneTested n).free = y.free := by rw [(EntersState.alone (y.laneTested_spec n)).frame]
  rw [y.testFollow_lane, if_pos htest]
  dsimp only
  rw [hfree]
  exact EntersState.after (EntersState.mono (y.laneTested_spec n) (List.nil_subset _)) ⟨hframe, hregs, hothers⟩
    (fun e he heq => patKeys_lane n e he (by simp [heq, trainReads])) hburst

/-- A lane whose word turns both off leaves its test state for training (R213). -/
theorem lane_leaves_test {n : Fin 96} (hgen : v / 2 ^ 10 % 2 = 0) (hloop : v / 2 ^ 14 % 4 = 0) (hstate : s.lstate n = 7) :
    Trains n (patKeys (.lane n)) s ((s.patWritten (.lane n) v).testFollow (.lane n)) := by
  obtain ⟨⟨hframe, hothers, hburst⟩, hregs, hfree, hget, -⟩ := s.patWritten_spec (.lane n) v
  generalize s.patWritten (.lane n) v = y at hframe hothers hburst hregs hfree hget
  have htest : ¬y.testing (.lane n) = true := by
    rw [State.testing_of, hget (_, _, _) (List.mem_of_getElem? (i := 4) rfl), hget (_, _, _) (List.mem_of_getElem? (i := 0) rfl)]
    exact fun h => h.elim (fun h1 => absurd (hgen.symm.trans h1) (by decide)) fun h0 => h0 hloop
  have halone : LaneAlone n (patKeys (.lane n)) s y := ⟨by conv_lhs => rw [hframe, hfree hgen], hregs, hothers⟩
  have hl : (y.lstate n == lsTest) = true := by
    rw [State.lstate, halone.getF_eq (fun e he heq => patKeys_lane n e he (by simp [heq, trainReads]))]
    exact beq_iff_eq.2 hstate
  rw [y.testFollow_lane, if_neg htest, if_pos hl]
  exact Trains.after (y.train_spec n) halone (patKeys_lane n) hburst

theorem mirror_enters_test {m : Fin 4} (h : v / 2 ^ 10 % 2 = 1 ∨ v / 2 ^ 14 % 4 ≠ 0) :
    ((s.patWritten (.mirror m) v).testFollow (.mirror m)).getF .ML_PHYSTAT_LSTATE m = 7 := by
  obtain ⟨-, -, -, hget, -⟩ := s.patWritten_spec (.mirror m) v
  generalize s.patWritten (.mirror m) v = y at hget
  have htest : y.testing (.mirror m) = true := State.testing_of.2 (h.imp (fun h => (hget _ (List.mem_of_getElem? (i := 4) rfl)).trans h)
    fun h h0 => h ((hget _ (List.mem_of_getElem? (i := 0) rfl)).symm.trans h0))
  rw [y.testFollow_mirror, if_pos htest]
  exact (y.mirrorTested_spec m).1

theorem host_enters_test {p : Fin 4} (h : v / 2 ^ 10 % 2 = 1 ∨ v / 2 ^ 14 % 4 ≠ 0) : let t := (s.patWritten (.host p) v).testFollow (.host p)
    t.getF .HP_STAT_PSTATE p = (if s.getF .HP_STAT_ENST p = 0 then s.getF .HP_STAT_PSTATE p else 4) ∧
      t = { s with regs := t.regs, free := t.free, hp := t.hp } ∧ RegsBut s t (patKeys (.host p) ++ [(.HP_STAT_PSTATE, p.val)]) := by
  obtain ⟨hframe, hregs, -, hget, -⟩ := s.patWritten_spec (.host p) v
  generalize s.patWritten (.host p) v = y at hframe hregs hget
  have htest : y.testing (.host p) = true := State.testing_of.2 (h.imp (fun h => (hget _ (List.mem_of_getElem? (i := 4) rfl)).trans h)
    fun h h0 => h ((hget _ (List.mem_of_getElem? (i := 0) rfl)).symm.trans h0))
  have henst : y.getF .HP_STAT_ENST p = s.getF .HP_STAT_ENST p := hregs.getF_eq (by simp [patKeys, serdesFlds]) p
  have hps : y.getF .HP_STAT_PSTATE p = s.getF .HP_STAT_PSTATE p := hregs.getF_eq (by simp [patKeys, serdesFlds]) p
  have hregs' := hregs.mono (List.subset_append_left _ [(.HP_STAT_PSTATE, p.val)])
  rw [← henst, ← hps]
  by_cases h0 : y.getF .HP_STAT_ENST p = 0
  · rw [State.testFollow_host, if_pos ((beq_iff_eq (b := enstOff)).2 h0), if_pos h0]
    exact ⟨rfl, hframe, hregs'⟩
  · rw [State.testFollow_host, if_neg ((beq_iff_eq (b := enstOff)).not.2 h0), if_pos htest, if_neg h0]
    refine ⟨(y.getF_setF_same _ _ _).trans (by rw [(rfl : Fld.HP_STAT_PSTATE.width = 3)]; rfl), ?_, hregs'.setF 4 (List.mem_append_right _ (List.mem_singleton.2 rfl))⟩
    exact congrArg (fun u : State => u.setF .HP_STAT_PSTATE p 4) hframe

end

/-! The generator (R211). -/

theorem shiftBit_zero (hist : Nat) (b : Bool) : (shiftBit hist b).testBit 0 = b := by
  rw [shiftBit, Nat.testBit_mod_two_pow]
  cases b <;> simp [b2n, Nat.testBit_zero]

theorem shiftBit_succ (hist : Nat) (b : Bool) {k : Nat} (hk : k + 1 < 256) : (shiftBit hist b).testBit (k + 1) = hist.testBit k := by
  have hlt : b2n b < 2 := by cases b <;> decide
  have hdiv : (hist * 2 + b2n b) / 2 = hist := by omega
  rw [shiftBit, Nat.testBit_mod_two_pow, decide_eq_true hk, Bool.true_and, Nat.testBit_succ, hdiv]

theorem PatSt.generate_succ (sel user : Nat) (inv : Bool) (k : Nat) (p : PatSt) : (generate sel user inv (k + 1) p).2 =
    (p.next sel user ^^ inv) :: (generate sel user inv k { p with gen := shiftBit p.gen (p.next sel user), genPos := p.genPos + 1 }).2 := rfl

theorem PatSt.generate_length (sel user : Nat) (inv : Bool) (k : Nat) (p : PatSt) : (generate sel user inv k p).2.length = k := by
  induction k generalizing p with
  | zero => rfl
  | succ k ih => rw [generate_succ, List.length_cons, ih]

/-- The user pattern is sent from its next bit on. -/
theorem PatSt.generate_user (user : Nat) (inv : Bool) (k : Nat) (p : PatSt) : ∀ i < k,
    (generate 4 user inv k p).2.getD i false = (user.testBit ((p.genPos + i) % 64) ^^ inv) := by
  induction k generalizing p with
  | zero => nofun
  | succ k ih =>
    intro i hi
    rw [generate_succ]
    cases i with
    | zero => rfl
    | succ i =>
      rw [List.getD_cons_succ, ih _ i (by omega), Nat.add_right_comm]
      rfl

/-- The bit that the generator made `m` steps before the bit `i` of what it sends. -/
def PatSt.before (p : PatSt) (inv : Bool) (tx : List Bool) (i m : Nat) : Bool :=
  if m ≤ i then tx.getD (i - m) false ^^ inv else p.gen.testBit (m - i - 1)

theorem PatSt.before_sent {p : PatSt} {inv : Bool} {tx : List Bool} {i m : Nat} (h : m ≤ i) : p.before inv tx i m = (tx.getD (i - m) false ^^ inv) := if_pos h

theorem PatSt.before_succ (p : PatSt) (inv b : Bool) (pos : Nat) (tx : List Bool) {i m : Nat} (hm : 0 < m) (hm' : m < 256) :
    p.before inv ((b ^^ inv) :: tx) (i + 1) m = ({ p with gen := shiftBit p.gen b, genPos := pos } : PatSt).before inv tx i m := by
  unfold PatSt.before
  rcases Nat.lt_trichotomy m (i + 1) with h | rfl | h
  · rw [if_pos (by omega), if_pos (by omega), Nat.sub_add_comm (by omega), List.getD_cons_succ]
  · rw [if_pos le_rfl, if_neg (by omega), Nat.sub_self, show i + 1 - i - 1 = 0 by omega, shiftBit_zero, List.getD_cons_zero, Bool.xor_assoc, Bool.xor_self,
      Bool.xor_false]
  · rw [if_neg (by omega), if_neg (by omega), show m - i - 1 = m - (i + 1) - 1 + 1 by omega, shiftBit_succ _ _ (by omega)]

theorem prbsTaps_bounds (sel : Nat) : 0 < (prbsTaps sel).2 ∧ (prbsTaps sel).2 < (prbsTaps sel).1 ∧ (prbsTaps sel).1 < 256 := by
  unfold prbsTaps
  split <;> decide

/-- Each bit of a pseudo-random sequence follows from those at its two taps. -/
theorem PatSt.generate_prbs {sel : Nat} (hsel : sel < 4) (user : Nat) (inv : Bool) (k : Nat) (p : PatSt) : ∀ i < k,
    let tx := (generate sel user inv k p).2
    tx.getD i false = ((p.before inv tx i (prbsTaps sel).1 ^^ p.before inv tx i (prbsTaps sel).2) ^^ inv) := by
  obtain ⟨h2, h21, h1⟩ := prbsTaps_bounds sel
  have hne : sel ≠ 4 := by omega
  induction k generalizing p with
  | zero => nofun
  | succ k ih =>
    intro i hi
    rw [generate_succ]
    dsimp only
    cases i with
    | zero =>
      rw [List.getD_cons_zero, PatSt.before, PatSt.before, if_neg (by omega), if_neg (by omega), PatSt.next, if_neg hne]
      rfl
    | succ i =>
      rw [List.getD_cons_succ, p.before_succ inv _ (p.genPos + 1) _ (by omega) h1, p.before_succ inv _ (p.genPos + 1) _ h2 (by omega)]
      exact ih _ i (by omega)

theorem PatSt.generate_prbs_sent {sel : Nat} (hsel : sel < 4) (user : Nat) (inv : Bool) (k : Nat) (p : PatSt) {i : Nat} (hi : i < k)
    (hle : (prbsTaps sel).1 ≤ i) : let tx := (generate sel user inv k p).2
    tx.getD i false = ((tx.getD (i - (prbsTaps sel).1) false != tx.getD (i - (prbsTaps sel).2) false) != inv) := by
  have hle' : (prbsTaps sel).2 ≤ i := (prbsTaps_bounds sel).2.1.le.trans hle
  refine (PatSt.generate_prbs hsel user inv k p i hi).trans ?_
  rw [PatSt.before_sent hle, PatSt.before_sent hle']
  cases inv <;> simp only [Bool.bne_eq_xor, Bool.xor_true, Bool.xor_false, Bool.not_xor, Bool.xor_not, Bool.not_not]

/-! The checker (R212, R214). -/

theorem State.bit_of_getF {s t : State} {f : Fld} {i : Nat} (h : t.getF f i = s.getF f i) : t.bit f i = s.bit f i := congrArg (· == 1) h

/-- With the checker off no bit has an effect. -/
theorem State.foldl_checkBit_off {s : State} {x : Serdes} (h : s.bit (serdesFlds x).chken (serdesFlds x).i = false) (bits : List Bool) :
    bits.foldl (fun t b => t.checkBit x b) s = s := by
  have hstep (b : Bool) : s.checkBit x b = s := by
    rw [State.checkBit]
    exact if_pos (by rw [h]; rfl)
  exact List.foldlRecOn (motive := fun t : State => t = s) bits _ rfl fun t ht b _ => ht ▸ hstep b

theorem State.checkBits_plain {s : State} {x : Serdes} (hgen : s.bit (serdesFlds x).genen (serdesFlds x).i = false)
    (hloop : s.getF (serdesFlds x).loop (serdesFlds x).i = 0) (bits : List Bool) : s.checkBits x bits = bits.foldl (fun t b => t.checkBit x b) s := by
  unfold State.checkBits
  simp [hgen, hloop]

/-- The bits generated are those sent, where they are not looped back from the receiver. -/
theorem State.checkBits_generates {s : State} {x : Serdes} (hgen : s.bit (serdesFlds x).genen (serdesFlds x).i = true)
    (hoff : s.bit (serdesFlds x).chken (serdesFlds x).i = false) (hloop : s.getF (serdesFlds x).loop (serdesFlds x).i ≠ 2) (bits : List Bool) :
    ((s.checkBits x bits).pat x).tx = (PatSt.generate (s.getF (serdesFlds x).gensel (serdesFlds x).i) (s.userPattern x)
      (s.bit (serdesFlds x).geninv (serdesFlds x).i) bits.length (s.pat x)).2 := by
  unfold State.checkBits
  dsimp only
  rw [if_pos hgen, if_neg hloop, State.foldl_checkBit_off ((s.bit_modPat x _ _ _).trans hoff), State.pat_modPat]

theorem State.checkBits_loops {s : State} {x : Serdes} (hoff : s.bit (serdesFlds x).chken (serdesFlds x).i = false)
    (hloop : s.getF (serdesFlds x).loop (serdesFlds x).i = 2) (bits : List Bool) : ((s.checkBits x bits).pat x).tx = bits := by
  unfold State.checkBits
  dsimp only
  rw [if_pos hloop, State.foldl_checkBit_off, State.pat_modPat]
  rw [State.bit_modPat]
  split_ifs
  · exact (s.bit_modPat x _ _ _).trans hoff
  · exact hoff

/-- The bit that a checker expects next. -/
def State.wanted (s : State) (x : Serdes) : Bool :=
  let sel := s.getF (serdesFlds x).chksel (serdesFlds x).i
  if sel = 4 then (s.userPattern x).testBit ((s.pat x).pos % 64) else prbsNext sel (s.pat x).hist

/-- The mismatches among the last 128 bits, one more with the newest bit. -/
def PatSt.misses (p : PatSt) (bad : Bool) : Nat := (((bad :: p.wrong).take 128).filter id).length

theorem serdesFlds_ne (x : Serdes) : let f := serdesFlds x
    f.errcnt ≠ f.lock ∧ f.errcnt ≠ f.lostlk ∧ f.lock ≠ f.lostlk := by
  cases x <;> simp [serdesFlds]

section
variable {s : State} {x : Serdes}

/-- The sixty-fourth bit in sequence locks the checker, and none is counted. -/
theorem State.checkBit_locks (bit : Bool) (hon : s.bit (serdesFlds x).chken (serdesFlds x).i = true)
    (hlock : s.bit (serdesFlds x).lock (serdesFlds x).i = false) (hsel : s.getF (serdesFlds x).chksel (serdesFlds x).i < 4)
    (hgot : (prbsTaps (s.getF (serdesFlds x).chksel (serdesFlds x).i)).1 ≤ (s.pat x).got) (hrun : 63 ≤ (s.pat x).run)
    (hwant : s.wanted x = (bit ^^ s.bit (serdesFlds x).chkinv (serdesFlds x).i)) : let t := s.checkBit x bit
    t.bit (serdesFlds x).lock (serdesFlds x).i = true ∧ t.getF (serdesFlds x).errcnt (serdesFlds x).i = s.getF (serdesFlds x).errcnt (serdesFlds x).i := by
  obtain ⟨hne, -, -⟩ := serdesFlds_ne x
  have hseek : ((s.pat x).seek (s.getF (serdesFlds x).chksel (serdesFlds x).i) (s.userPattern x) (bit ^^ s.bit (serdesFlds x).chkinv (serdesFlds x).i)).2 = true := by
    rw [State.wanted, if_neg (by omega)] at hwant
    rw [PatSt.seek, if_neg (by omega), hwant]
    simp [hgot]
    omega
  unfold State.checkBit
  simp only [hon, hlock, Bool.not_true, Bool.false_eq_true, if_false]
  rw [hseek]
  refine ⟨?_, (State.getF_setWhen_ne _ _ _ _ _ hne).trans (s.getF_modPat x _ _ _)⟩
  exact beq_iff_eq.2 ((State.getF_setWhen_same _ _ _ _ _).trans (Nat.mod_eq_of_lt (Fld.one_lt _)))

/-- A locked checker counts a mismatch, and drops the lock with 32 of them in 128 bits. -/
theorem State.checkBit_counts (bit : Bool) (hon : s.bit (serdesFlds x).chken (serdesFlds x).i = true)
    (hlock : s.bit (serdesFlds x).lock (serdesFlds x).i = true) : let t := s.checkBit x bit
    let bad := s.wanted x != (bit ^^ s.bit (serdesFlds x).chkinv (serdesFlds x).i)
    t.getF (serdesFlds x).errcnt (serdesFlds x).i =
      min (2 ^ (serdesFlds x).errcnt.width - 1) (s.getF (serdesFlds x).errcnt (serdesFlds x).i + b2n bad) ∧
    ((s.pat x).misses bad < 32 → t.bit (serdesFlds x).lock (serdesFlds x).i = true) ∧
    (32 ≤ (s.pat x).misses bad →
      t.bit (serdesFlds x).lock (serdesFlds x).i = false ∧ t.bit (serdesFlds x).lostlk (serdesFlds x).i = true ∧ (t.pat x).got = 0) := by
  obtain ⟨hne, hne', hne''⟩ := serdesFlds_ne x
  unfold State.checkBit
  simp only [hon, hlock, Bool.not_true, Bool.false_eq_true, if_false, if_true]
  set r := (s.pat x).check (s.getF (serdesFlds x).chksel (serdesFlds x).i) (s.userPattern x) (bit ^^ s.bit (serdesFlds x).chkinv (serdesFlds x).i) with hr
  have hbad : r.2 = (s.wanted x != (bit ^^ s.bit (serdesFlds x).chkinv (serdesFlds x).i)) := rfl
  have hmiss : (r.1.wrong.filter id).length = (s.pat x).misses r.2 := rfl
  rw [hmiss, ← hbad]
  set y := (s.modPat x fun _ => r.1).countF (serdesFlds x).errcnt (serdesFlds x).i (b2n r.2) with hy
  have hcount : y.getF (serdesFlds x).errcnt (serdesFlds x).i =
      min (2 ^ (serdesFlds x).errcnt.width - 1) (s.getF (serdesFlds x).errcnt (serdesFlds x).i + b2n r.2) :=
    (State.getF_countF_same _ _ _ _).trans (by rw [State.getF_modPat])
  split_ifs with h
  · refine ⟨?_, fun hlt => absurd h (by omega), fun _ => ⟨?_, ?_, ?_⟩⟩
    · rw [State.getF_setF_ne _ _ _ _ hne', State.getF_setF_ne _ _ _ _ hne, State.getF_modPat, hcount]
    · rw [State.bit_setF_ne _ _ _ _ hne'']
      exact beq_eq_false_iff_ne.2 (by rw [State.getF_setF_same, Nat.zero_mod]; decide)
    · exact beq_iff_eq.2 ((State.getF_setF_same _ _ _ _).trans (Nat.mod_eq_of_lt (Fld.one_lt _)))
    · rw [State.pat_setF, State.pat_setF, State.pat_modPat]
  · refine ⟨hcount, fun _ => ?_, fun hge => absurd hge h⟩
    exact (State.bit_of_getF ((State.getF_countF_ne _ _ _ _ hne.symm).trans (s.getF_modPat x _ _ _))).trans hlock

end

/-! The obligation. -/

theorem mainTap_sum {s : State} {x : Serdes} (h : s.getF (serdesFlds x).pre (serdesFlds x).i + s.getF (serdesFlds x).post (serdesFlds x).i ≤ 32) :
    s.mainTap x + s.getF (serdesFlds x).pre (serdesFlds x).i + s.getF (serdesFlds x).post (serdesFlds x).i = 63 := by
  rw [State.mainTap]
  omega

theorem patternCtrlWrite_refused {x : Serdes} {w : Word} {s : State} (hok : s.serdesOk x = true) (h : PatBad s x w.toNat) :
    Sets (.patternCtrlWrite x w) s [((serdesFlds x).testerr, (serdesFlds x).i, 1)] := by
  refine SetsOn.of_setAll (l := [((serdesFlds x).testerr, (serdesFlds x).i, 1)]) ?_ (List.nodup_singleton _) ?_ rfl
  · rw [exec_patternCtrlWrite, execPatternCtrlWrite, if_pos hok, State.writePatctrl_bad h]
    rfl
  · exact List.forall_mem_singleton.2 (Fld.one_lt _)

/-- The fields of a SerDes after its word and what follows from it. -/
theorem patternCtrl_fields (x : Serdes) (v : Nat) (s : State) : let t := (s.patWritten x v).testFollow x
    (∀ e ∈ patWrites x v, t.getF e.1 e.2.1 = e.2.2) ∧
      t.getF (serdesFlds x).lock (serdesFlds x).i = if v / 2 ^ 11 % 2 = 0 ∨ v / 16 % 16 ≠ s.getF (serdesFlds x).chksel (serdesFlds x).i then 0
        else s.getF (serdesFlds x).lock (serdesFlds x).i := by
  obtain ⟨-, -, -, hget, hlock⟩ := s.patWritten_spec x v
  refine ⟨fun e he => ((s.patWritten x v).testFollow_getF x (List.take_subset 7 _ (patWrites_name he)) _).trans (hget e he), ?_⟩
  exact ((s.patWritten x v).testFollow_getF x (List.mem_of_getElem? (i := 7) rfl) _).trans hlock

theorem checkerLock_runs {x : Serdes} {s : State} (h : s.serdesRuns x = true) (bits : List Bool) :
    exec (.checkerLock ⟨x, bits⟩) s = .next (s.checkBits x bits) := by
  rw [exec_checkerLock, execCheckerLock, if_pos h]

theorem checkerLostLock_runs {x : Serdes} {s : State} (h : s.serdesRuns x = true) (bits : List Bool) :
    exec (.checkerLostLock x bits) s = .next (s.checkBits x bits) := by
  rw [exec_checkerLostLock, execCheckerLostLock, if_pos h]

/-- Settles O8: the word's fields and what the SerDes does of them, then the checker bit by bit and the generator by induction on its bits. -/
theorem equaliserAndPatterns : Obligations.EqualiserAndPatterns := by
  intro x w bits bit s f v pre post loop gen host bad fields p user b sel gsel inv misses want counted
  refine ⟨fun hok => ⟨txeqWrite_set hok, txeqWrite_refused hok, mainTap_sum, patternCtrlWrite_refused hok, fun hbad => ?_⟩, fun hruns => ⟨fun hgen hloop => ?_, ?_, ?_⟩⟩
  · obtain ⟨hget, hlock⟩ := patternCtrl_fields x v s
    refine ⟨_, patternCtrlWrite_taken hok hbad, hget (_, _, _) (List.mem_of_getElem? (i := 6) rfl), hget (_, _, _) (List.mem_of_getElem? (i := 5) rfl),
      hget (_, _, _) (List.mem_of_getElem? (i := 4) rfl), hget (_, _, _) (List.mem_of_getElem? (i := 3) rfl),
      hget (_, _, _) (List.mem_of_getElem? (i := 2) rfl), hget (_, _, _) (List.mem_of_getElem? (i := 1) rfl),
      hget (_, _, _) (List.mem_of_getElem? (i := 0) rfl), hlock, fun hon => ⟨?_, ?_, ?_⟩, ?_⟩
    · rintro n rfl
      exact lane_enters_test hon
    · rintro m rfl
      exact mirror_enters_test hon
    · rintro p rfl
      exact host_enters_test hon
    · rintro hg hl n rfl hstate
      exact lane_leaves_test hg hl hstate
  · refine ⟨⟨_, checkerLock_runs hruns bits, State.checkBits_plain hgen hloop bits⟩, ⟨_, checkerLostLock_runs hruns bits, State.checkBits_plain hgen hloop bits⟩,
      fun hoff => ?_, fun hon hlock hsel hgot hrun hwant => ?_, fun hon hlock hmiss => ?_, fun hon hlock hmiss => ?_⟩
    · rw [Ignores, checkerLock_runs hruns, State.checkBits_plain hgen hloop, State.foldl_checkBit_off hoff]
    · refine ⟨_, checkerLock_runs hruns _, ?_⟩
      rw [State.checkBits_plain hgen hloop]
      exact State.checkBit_locks bit hon hlock hsel hgot hrun hwant
    · refine ⟨_, checkerLock_runs hruns _, ?_⟩
      rw [State.checkBits_plain hgen hloop]
      obtain ⟨hcount, hkeep, -⟩ := State.checkBit_counts bit hon hlock
      exact ⟨hkeep hmiss, hcount⟩
    · refine ⟨_, checkerLostLock_runs hruns _, ?_⟩
      rw [State.checkBits_plain hgen hloop]
      obtain ⟨hcount, -, hdrop⟩ := State.checkBit_counts bit hon hlock
      obtain ⟨hunlock, hlost, hgot⟩ := hdrop hmiss
      exact ⟨hunlock, hlost, hcount, hgot⟩
  · intro hgen hoff hloop
    refine ⟨_, checkerLock_runs hruns bits, ?_⟩
    dsimp only
    rw [State.checkBits_generates hgen hoff hloop]
    refine ⟨PatSt.generate_length _ _ _ _ _, fun hg i hi => ?_, fun hg i hi hle => ?_⟩
    · rw [show s.getF (serdesFlds x).gensel (serdesFlds x).i = 4 from hg]
      exact (PatSt.generate_user user inv bits.length p i hi).trans (by rw [Bool.bne_eq_xor])
    · exact PatSt.generate_prbs_sent hg user inv bits.length p hi hle
  · intro hloop hoff
    exact ⟨_, checkerLock_runs hruns bits, State.checkBits_loops hoff hloop bits⟩

end Sys2Proof.Machine
end

section
/-! Accesses to memory: places, check bits and bus errors. -/
namespace Sys2Proof.Machine

-- The proofs one after another: all at once they would need more threads, and their stacks, than the check's memory holds.
set_option Elab.async false

/-! A bus error (R489, R493). -/

/-- The fields of a bus error: its count, and the record where none is held. -/
def State.busRecord (s : State) (cause : Nat) (ag : Agent) (a : Nat) (wr : Bool) : List (Fld × Nat × Nat) :=
  (.SYS_BUSERR_COUNT, 0, min 255 (s.getF .SYS_BUSERR_COUNT 0 + 1)) :: if s.bit .SYS_BUSERR_VALID 0 then [] else
    [(.SYS_BUSERR_VALID, 0, 1), (.SYS_BUSERR_CAUSE, 0, cause), (.SYS_BUSERR_AGENT, 0, agentCode ag), (.SYS_BUSADDRLO_ADDR, 0, a),
      (.SYS_BUSADDRHI_ADDR, 0, a / 2 ^ 32), (.SYS_BUSADDRHI_WRITE, 0, b2n wr)]

/-- The answer of an access that errs. -/
def State.erred (s : State) : State := { s with resp := ⟨0#32, [], true⟩ }

theorem State.busError_eq (s : State) (cause : Nat) (ag : Agent) (a : Nat) (wr : Bool) :
    s.busError cause ag a wr = s.erred.setAll (s.busRecord cause ag a wr) := by
  have hcount : s.erred.setF .SYS_BUSERR_COUNT 0 (min 255 (s.getF .SYS_BUSERR_COUNT 0 + 1)) =
      { s.countF .SYS_BUSERR_COUNT 0 1 with resp := ⟨0#32, [], true⟩ } := by
    rw [State.countF, (rfl : Fld.SYS_BUSERR_COUNT.width = 8)]
    rfl
  rw [State.busRecord, State.setAll_cons, hcount, State.busError]
  dsimp only
  split_ifs
  · rfl
  · rfl

theorem State.erred_setAll_frame (s : State) (l : List (Fld × Nat × Nat)) :
    (s.erred.setAll l).mem = s.mem ∧ (s.erred.setAll l).resp = ⟨0#32, [], true⟩ := by
  rw [s.erred.setAll_frame l]
  exact ⟨rfl, rfl⟩

theorem State.busError_spec (s : State) (cause : Nat) (ag : Agent) (a : Nat) (wr : Bool) : let t := s.busError cause ag a wr
    t.mem = s.mem ∧ t.resp = ⟨0#32, [], true⟩ ∧ t.getF .SYS_BUSERR_COUNT 0 = min 255 (s.getF .SYS_BUSERR_COUNT 0 + 1) := by
  rw [s.busError_eq]
  obtain ⟨hmem, hresp⟩ := s.erred_setAll_frame (s.busRecord cause ag a wr)
  refine ⟨hmem, hresp, ?_⟩
  have hnd : (writtenKeys (s.busRecord cause ag a wr)).Nodup := writtenKeys_nodup (by
    unfold State.busRecord
    split_ifs <;> simp)
  refine (State.getF_setAll _ hnd (.SYS_BUSERR_COUNT, 0, min 255 (s.getF .SYS_BUSERR_COUNT 0 + 1)) (by simp [State.busRecord])).trans ?_
  exact Nat.mod_eq_of_lt (by rw [(rfl : Fld.SYS_BUSERR_COUNT.width = 8)]; exact (Nat.min_le_left _ _).trans_lt (by decide))

/-- The fields of an uncorrectable word of the SSM. -/
def ssmBadKeys : List (Fld × Nat) := [(.SSM_ECCCNT_UNC, 0), (.SSM_ECCADDR_ADDR, 0)]

theorem State.countBadSsm_only (s : State) (a : Nat) : OnlyRegs s (s.countBadSsm a) ssmBadKeys :=
  ((OnlyRegs.refl s _).setF _ (by simp [ssmBadKeys])).setF _ (by simp [ssmBadKeys])

/-- An access that errs changes no byte of memory, answers an error and is counted. -/
theorem State.accessError_spec (s : State) (cause : Nat) (ag : Agent) (a k : Nat) (wr : Bool) : let t := s.accessError cause ag a k wr
    t.mem = s.mem ∧ t.resp = ⟨0#32, [], true⟩ ∧ t.getF .SYS_BUSERR_COUNT 0 = min 255 (s.getF .SYS_BUSERR_COUNT 0 + 1) := by
  have hbad : OnlyRegs s ((s.badWords a k wr).foldl (fun t w => t.countBadSsm w) s) ssmBadKeys :=
    List.foldlRecOn (motive := fun t => OnlyRegs s t ssmBadKeys) _ _ (.refl s _) fun t ht w _ => ht.trans (t.countBadSsm_only w)
  rw [State.accessError]
  dsimp only
  split_ifs
  · obtain ⟨hmem, hresp, hcount⟩ := State.busError_spec ((s.badWords a k wr).foldl (fun t w => t.countBadSsm w) s) cause ag a wr
    exact ⟨hmem.trans (by rw [hbad.1]), hresp, hcount.trans (by rw [hbad.getF_eq (by simp [ssmBadKeys])])⟩
  · exact s.busError_spec cause ag a wr

/-! Corrected words (R94, R155). -/

/-- The counts of corrected words. -/
def corKeys : List (Fld × Nat) := (.SSM_ECCCNT_COR, 0) :: (List.range 24).map (fun n => (.CE_XCNT_ECCCOR, n))

theorem mem_corKeys (n : Fin 24) : (Fld.CE_XCNT_ECCCOR, n.val) ∈ corKeys :=
  List.mem_cons_of_mem _ (List.mem_map.2 ⟨n, List.mem_range.2 n.isLt, rfl⟩)

theorem corKeys_name {e : Fld × Nat} (h : e ∈ corKeys) : e.1 = .SSM_ECCCNT_COR ∨ e.1 = .CE_XCNT_ECCCOR := by
  simp only [corKeys, List.mem_cons, List.mem_map] at h
  obtain rfl | ⟨n, -, rfl⟩ := h
  · exact .inl rfl
  · exact .inr rfl

theorem State.countSoft_only (s : State) (a : Nat) : OnlyRegs s (s.countSoft a) corKeys := by
  have hssm : OnlyRegs s (s.countSoftSsm a) corKeys := by
    unfold State.countSoftSsm
    split_ifs
    · exact (OnlyRegs.refl s _).setF _ List.mem_cons_self
    · exact .refl s _
  unfold State.countSoft
  split
  · exact hssm
  · exact hssm
  next n _ _ =>
    unfold State.countSoftCe
    split_ifs
    · exact (OnlyRegs.refl s _).setF _ (mem_corKeys n)
    · exact .refl s _
    · exact .refl s _
  · exact .refl s _

theorem State.countPartial_only (s : State) (a k : Nat) : OnlyRegs s (s.countPartial a k) corKeys :=
  List.foldlRecOn (motive := fun t => OnlyRegs s t corKeys) _ _ (.refl s _) fun t ht w _ => by
    split_ifs
    · exact ht
    · exact ht.trans (t.countSoft_only w)

/-! Places. -/

theorem placeOf_ssm {a : Nat} (h : 0x10000000 ≤ a ∧ a < 0x107FF000) : placeOf a = .ssm := by
  rw [placeOf, if_neg (by omega), if_pos h]

theorem placeOf_mram {a : Nat} (h : mram ≤ a ∧ a < mram + 0x2000000) : placeOf a = .mram := by
  rw [mram] at h
  rw [placeOf, if_neg (by omega), if_neg (by omega), if_neg (by omega), if_neg (by omega), if_neg (by omega), if_pos (by rw [mram]; exact h)]

theorem placeOf_eq_ssm {a : Nat} : placeOf a = .ssm ↔ 0x10000000 ≤ a ∧ a < 0x107FF000 := by
  refine ⟨fun h => ?_, placeOf_ssm⟩
  rw [placeOf] at h
  split_ifs at h with h1 h2
  exact h2

theorem placeOf_eq_ceMem {a : Nat} {n : Fin 24} {off : Nat} : placeOf a = .ceMem n off ↔
    (0x20000000 ≤ a ∧ a < 0x21800000) ∧ a % 0x100000 / 0x1000 ≠ 0xF0 ∧ n = Fin.ofNat 24 (a / 0x100000 - 0x200) ∧ off = a % 0x100000 := by
  constructor
  · intro h
    rw [placeOf] at h
    split_ifs at h with h1 h2 h3 h4 h5
    obtain ⟨hn, hoff⟩ := Place.ceMem.inj h
    exact ⟨h4, h5, hn.symm, hoff.symm⟩
  · rintro ⟨h, hne, rfl, rfl⟩
    rw [placeOf, if_neg (by omega), if_neg (by omega), if_neg (by omega), if_pos h]
    exact if_neg hne

/-- No word lies in a place and out of it. -/
theorem placeOf_word_none {a : Nat} (h : placeOf a = .none) : placeOf (a / 4 * 4) = .none := by
  rw [placeOf] at h
  split_ifs at h with h1 h2 h3 h4 h5 h6 h7
  rw [mram] at h7
  rw [placeOf, if_neg (by omega), if_neg (by omega), if_neg (by omega), if_neg (by omega), if_neg (by omega), if_neg (by rw [mram]; omega)]

end Sys2Proof.Machine
end

section
/-! The copies of the DMA engine (R155, R487). -/
namespace Sys2Proof.Machine

-- The proofs one after another: all at once they would need more threads, and their stacks, than the check's memory holds.
set_option Elab.async false

/-- The bytes that a copy may write: the SSM and the data RAM of an engine that is live. -/
def State.dmaGoes (s : State) (a : Nat) : Prop :=
  placeOf a = .ssm ∨ ∃ n off, placeOf a = .ceMem n off ∧ s.ceLive n = true ∧ 0x80000 ≤ off ∧ off < 0x90000

/-- The bytes that a copy may read. -/
def State.dmaComes (s : State) (a : Nat) : Prop := s.dmaGoes a ∨ placeOf a = .mram

section
variable {s : State} {a : Nat}

theorem State.dmaGoes_iff : (decide (0x10000000 ≤ a ∧ a < 0x107FF000) || match placeOf a with
    | .ceMem n off => s.unitLive (.ce n) && decide (0x80000 ≤ off ∧ off < 0x90000)
    | _ => false) = true ↔ s.dmaGoes a := by
  rw [Bool.or_eq_true, decide_eq_true_eq, ← placeOf_eq_ssm, State.dmaGoes]
  refine or_congr_right ?_
  cases placeOf a <;> simp [State.unitLive]

theorem State.dmaGoes_absent (h : s.dmaGoes a) : s.absentAt a = false ∧ ∀ wr, s.reaches .dma a wr = true := by
  rcases h with h | ⟨n, off, h, hlive, -, hoff⟩
  · rw [State.absentAt, h]
    exact ⟨rfl, fun _ => by rw [State.reaches, h]⟩
  · rw [State.absentAt, h]
    refine ⟨?_, fun _ => ?_⟩
    · rw [State.ceLive, Bool.and_eq_true] at hlive
      change (!s.engOk n) = false
      rw [hlive.1]
      rfl
    · rw [State.reaches, h]
      exact decide_eq_true (by omega)

theorem State.dmaGoes_word (h : s.dmaGoes a) : s.dmaGoes (a / 4 * 4) := by
  rcases h with h | ⟨n, off, h, hlive, h8, h9⟩
  · rw [placeOf_eq_ssm] at h
    exact .inl (placeOf_ssm (by omega))
  · obtain ⟨hin, hreg, rfl, rfl⟩ := placeOf_eq_ceMem.1 h
    refine .inr ⟨_, a % 0x100000 / 4 * 4, placeOf_eq_ceMem.2 ⟨by omega, by omega, ?_, by omega⟩, hlive, by omega, by omega⟩
    rw [show a / 4 * 4 / 0x100000 = a / 0x100000 by omega]

theorem wordsOf_byte (a : Nat) : wordsOf a 1 = [a / 4 * 4] := by
  rw [wordsOf, show (a % 4 + 1 + 3) / 4 = 1 by omega]
  rfl

theorem wordsOf_word (h : a % 4 = 0) : wordsOf a 4 = [a] := by
  rw [wordsOf, show (a % 4 + 4 + 3) / 4 = 1 by omega]
  simp
  omega

theorem State.badWord_word (s : State) (a : Nat) : s.badWord (a / 4 * 4) = s.badWord a := by
  rw [State.badWord, State.badWord, Nat.mul_div_cancel _ (by decide)]

theorem State.dmaComes_place (h : s.dmaComes a) : placeOf a = .ssm ∨ (∃ n off, placeOf a = .ceMem n off) ∨ placeOf a = .mram := by
  rcases h with (h | ⟨n, off, h, -⟩) | h
  · exact .inl h
  · exact .inr (.inl ⟨n, off, h⟩)
  · exact .inr (.inr h)

theorem State.dmaComes_absent (h : s.dmaComes a) : s.absentAt a = false ∧ s.reaches .dma a false = true := by
  rcases h with h | h
  · exact ⟨(State.dmaGoes_absent h).1, (State.dmaGoes_absent h).2 false⟩
  · rw [State.absentAt, State.reaches, h]
    exact ⟨rfl, rfl⟩

theorem State.sizeOk_dma (h : s.dmaComes a) {k : Nat} (hk : k = 1 ∨ (k = 4 ∧ a % 4 = 0)) : sizeOk .dma a k = true := by
  have hplain : ((k == 1 || k == 2 || k == 4) && a % k == 0) = true := by
    rcases hk with rfl | ⟨rfl, h0⟩
    · simp [Nat.mod_one]
    · simp [h0]
  rw [sizeOk, hplain]
  rcases State.dmaComes_place h with h | ⟨n, off, h⟩ | h <;> rw [h]
  exact Bool.true_or _

/-- An access of which nothing stands in the way. -/
theorem State.accessErr_none {ag : Agent} {k : Nat} {wr : Bool} (hreach : s.reaches ag a wr = true) (hsize : sizeOk ag a k = true)
    (hbad : s.badWords a k wr = []) : s.accessErr ag a k wr = none := by
  rw [State.accessErr, hreach, hsize, hbad]
  simp

theorem State.badWords_of {k : Nat} {wr : Bool} (hplace : placeOf a ≠ .peg) (h : ∀ w ∈ wordsOf a k, s.badWord w = true → wr = true ∧ wholeWord a k w = true) :
    s.badWords a k wr = [] := by
  have hfilter : (wordsOf a k).filter (fun w => s.badWord w && !(wr && wholeWord a k w)) = [] :=
    List.filter_eq_nil_iff.2 fun w hw => by
      cases hb : s.badWord w with
      | false => simp
      | true => simp [h w hw hb]
  unfold State.badWords
  split
  · contradiction
  · exact hfilter
  · exact hfilter
  · rfl

theorem State.dmaComes_peg (h : s.dmaComes a) : placeOf a ≠ .peg := by
  rcases State.dmaComes_place h with h | ⟨n, off, h⟩ | h <;> rw [h] <;> nofun

/-- A byte that a copy reads. -/
theorem State.accessErr_read (h : s.dmaComes a) (hb : s.badWord a = false ∨ placeOf a = .mram) : s.accessErr .dma a 1 false = none := by
  refine State.accessErr_none (State.dmaComes_absent h).2 (State.sizeOk_dma h (.inl rfl)) ?_
  rcases hb with hb | hb
  · refine State.badWords_of (State.dmaComes_peg h) fun w hw hbad => ?_
    rw [wordsOf_byte, List.mem_singleton] at hw
    rw [hw, s.badWord_word, hb] at hbad
    contradiction
  · rw [State.badWords, hb]

/-- A byte that a copy writes into a word that it does not write whole. -/
theorem State.accessErr_write (h : s.dmaGoes a) (hb : s.badWord a = false) : s.accessErr .dma a 1 true = none := by
  refine State.accessErr_none ((State.dmaGoes_absent h).2 true) (State.sizeOk_dma (.inl h) (.inl rfl))
    (State.badWords_of (State.dmaComes_peg (.inl h)) fun w hw hbad => ?_)
  rw [wordsOf_byte, List.mem_singleton] at hw
  rw [hw, s.badWord_word, hb] at hbad
  contradiction

/-- A word that a copy writes whole, whatever it held. -/
theorem State.accessErr_whole (h : s.dmaGoes a) : s.accessErr .dma (a / 4 * 4) 4 true = none := by
  have hword := State.dmaGoes_word h
  refine State.accessErr_none ((State.dmaGoes_absent hword).2 true) (State.sizeOk_dma (.inl hword) (.inr ⟨rfl, by omega⟩))
    (State.badWords_of (State.dmaComes_peg (.inl hword)) fun w hw _ => ⟨rfl, ?_⟩)
  rw [wordsOf_word (by omega), List.mem_singleton] at hw
  rw [hw, wholeWord]
  exact decide_eq_true (by omega)

end

/-! What stands in the way of a copy. -/

section
variable {s : State} {a len : Nat} {wr : Bool}

theorem State.dmaErr_none (h : ∀ k < len, placeOf (a + k) ≠ .peg ∧
      s.accessErr .dma (if wr && wholeWord a len (a + k) then (a + k) / 4 * 4 else a + k) (if wr && wholeWord a len (a + k) then 4 else 1) wr = none) :
    s.dmaErr a len wr = none := by
  rw [State.dmaErr, List.findSome?_eq_none_iff]
  intro k hk
  obtain ⟨hpeg, herr⟩ := h k (List.mem_range.1 hk)
  dsimp only
  rw [if_neg hpeg, herr]
  rfl

theorem State.dmaErr_some {k : Nat} (hk : k < len) (h : placeOf (a + k) = .peg ∨
      ∃ c, s.accessErr .dma (if wr && wholeWord a len (a + k) then (a + k) / 4 * 4 else a + k) (if wr && wholeWord a len (a + k) then 4 else 1) wr = some c) :
    ∃ c x, s.dmaErr a len wr = some (c, x) := by
  obtain ⟨⟨c, x⟩, hcx⟩ := Option.ne_none_iff_exists'.1 (fun hnone : s.dmaErr a len wr = none => by
    rw [State.dmaErr, List.findSome?_eq_none_iff] at hnone
    have hk' := hnone k (List.mem_range.2 hk)
    dsimp only at hk'
    rcases h with h | ⟨c, h⟩
    · rw [if_pos h] at hk'
      contradiction
    · by_cases hpeg : placeOf (a + k) = .peg
      · rw [if_pos hpeg] at hk'
        contradiction
      · rw [if_neg hpeg, h] at hk'
        contradiction)
  exact ⟨c, x, hcx⟩

/-- Nothing stands in the way of reading. -/
theorem State.dmaErr_read (h : ∀ k < len, s.dmaComes (a + k)) (hb : ∀ k < len, s.badWord (a + k) = false ∨ placeOf (a + k) = .mram) :
    s.dmaErr a len false = none :=
  State.dmaErr_none fun k hk => ⟨State.dmaComes_peg (h k hk), State.accessErr_read (h k hk) (hb k hk)⟩

/-- Nothing stands in the way of writing. -/
theorem State.dmaErr_write (h : ∀ k < len, s.dmaGoes (a + k)) (hb : ∀ k < len, s.badWord (a + k) = false ∨ wholeWord a len (a + k) = true) :
    s.dmaErr a len true = none := by
  refine State.dmaErr_none fun k hk => ⟨State.dmaComes_peg (.inl (h k hk)), ?_⟩
  rw [Bool.true_and]
  cases hw : wholeWord a len (a + k) with
  | true => exact State.accessErr_whole (h k hk)
  | false => exact State.accessErr_write (h k hk) ((hb k hk).resolve_right (by rw [hw]; exact Bool.false_ne_true))

theorem State.accessErr_unmapped {k : Nat} (h : placeOf a = .none) : ∃ c, s.accessErr .dma a k wr = some c := by
  rw [State.accessErr, State.absentAt, State.reaches, h]
  simp only [Bool.false_eq_true, if_false, Bool.not_false, if_true, reduceCtorEq, or_self, and_false]
  split_ifs
  · exact ⟨_, rfl⟩
  · exact ⟨_, rfl⟩

/-- What stands in the way of reading. -/
theorem State.dmaErr_source {k : Nat} (hk : k < len) (h : (s.badWord (a + k) = true ∧ placeOf (a + k) = .ssm) ∨ placeOf (a + k) = .none ∨
      placeOf (a + k) = .peg ∨ (placeOf (a + k) = .reg ∧ s.absentAt (a + k) = false)) : ∃ c x, s.dmaErr a len false = some (c, x) := by
  refine State.dmaErr_some hk ?_
  rw [Bool.false_and]
  rcases h with ⟨hb, h⟩ | h | h | ⟨h, hpresent⟩
  · refine .inr ⟨causeEcc, ?_⟩
    have hcomes : s.dmaComes (a + k) := .inl (.inl h)
    have hbad : s.badWords (a + k) 1 false = [(a + k) / 4 * 4] := by
      rw [State.badWords, h, wordsOf_byte]
      exact List.filter_cons_of_pos (by rw [s.badWord_word, hb]; rfl)
    change s.accessErr .dma (a + k) 1 false = _
    rw [State.accessErr, (State.dmaComes_absent hcomes).1, (State.dmaComes_absent hcomes).2, State.sizeOk_dma hcomes (.inl rfl), hbad]
    rfl
  · exact .inr (State.accessErr_unmapped h)
  · exact .inl h
  · refine .inr ?_
    change ∃ c, s.accessErr .dma (a + k) 1 false = some c
    rw [State.accessErr, hpresent, State.reaches, h]
    simp only [Bool.false_eq_true, if_false, Bool.not_false, if_true, false_and]
    split_ifs <;> exact ⟨_, rfl⟩

/-- What stands in the way of writing. -/
theorem State.dmaErr_target {k : Nat} (hk : k < len) (h : placeOf (a + k) = .none ∨ placeOf (a + k) = .peg) : ∃ c x, s.dmaErr a len true = some (c, x) := by
  refine State.dmaErr_some hk ?_
  rcases h with h | h
  · refine .inr (State.accessErr_unmapped ?_)
    split_ifs
    · exact placeOf_word_none h
    · exact h
  · exact .inl h

end

/-! The bytes written. -/

/-- Nothing but bytes of memory and their check bits changes. -/
def MemFrame (s t : State) : Prop := t = { s with mem := t.mem, eccBad := t.eccBad, eccSoft := t.eccSoft }

section
variable {s t u : State} {a : Nat}

theorem MemFrame.refl (s : State) : MemFrame s s := rfl

theorem MemFrame.trans (h : MemFrame s t) (h' : MemFrame t u) : MemFrame s u :=
  Eq.trans h' (congrArg (fun x : State => { x with mem := u.mem, eccBad := u.eccBad, eccSoft := u.eccSoft }) h)

theorem MemFrame.dmaGoes_iff (h : MemFrame s t) : t.dmaGoes a ↔ s.dmaGoes a := by
  rw [MemFrame] at h
  rw [h]
  rfl

theorem MemFrame.ringFixed_eq (h : MemFrame s t) : t.ringFixed a = s.ringFixed a := by
  rw [MemFrame] at h
  rw [h]
  rfl

theorem MemFrame.setByte (s : State) (a : Nat) (b : Byte) : MemFrame s ((s.setByte a b).freshWord a) := rfl

theorem State.byte_freshByte (s : State) (a x : Nat) (b : Byte) : ((s.setByte a b).freshWord a).byte x = if x = a then b else s.byte x := s.byte_setByte a x b

/-- A byte of a copy goes where it is sent, but for the fixed words of the command ring. -/
theorem State.dmaByte_spec (h : s.dmaGoes a) (b : Byte) : let t := s.dmaByte a b
    MemFrame s t ∧ ∀ x, t.byte x = if x = a ∧ s.ringFixed a = false then b else s.byte x := by
  rcases h with h | ⟨n, off, h, hlive, h8, h9⟩
  · rw [State.dmaByte, h]
    cases hr : s.ringFixed a with
    | true => exact ⟨.refl s, fun x => (if_neg (by simp)).symm⟩
    | false =>
      refine ⟨.setByte s a b, fun x => ?_⟩
      simpa using s.byte_freshByte a x b
  · have hring : s.ringFixed a = false := by
      obtain ⟨hin, -, -, -⟩ := placeOf_eq_ceMem.1 h
      rw [State.ringFixed, decide_eq_false (by omega)]
      rfl
    have hunit : s.unitLive (.ce n) = true := hlive
    rw [State.dmaByte, h, hring]
    dsimp only
    rw [hunit, if_neg (by simp), if_pos ⟨h8, h9⟩]
    exact ⟨.setByte s a b, fun x => by simpa using s.byte_freshByte a x b⟩

/-- The bytes of a copy, each where it is sent. -/
theorem State.dmaPut_spec (l : List Byte) : ∀ {s : State} {a : Nat}, (∀ k < l.length, s.dmaGoes (a + k)) → let t := s.dmaPut a l
    MemFrame s t ∧ MemBut s t a l.length ∧ ∀ k < l.length, t.byte (a + k) = if s.ringFixed (a + k) then s.byte (a + k) else l.getD k 0#8 := by
  induction l with
  | nil => exact fun _ => ⟨.refl _, fun _ _ => rfl, nofun⟩
  | cons b l ih =>
    intro s a h
    obtain ⟨hf, hb⟩ := State.dmaByte_spec (h 0 (by simp)) b
    rw [Nat.add_zero] at hf hb
    obtain ⟨hf', hbut, hput⟩ := ih (s := s.dmaByte a b) (a := a + 1) fun k hk => by
      rw [hf.dmaGoes_iff, show a + 1 + k = a + (k + 1) by omega]
      exact h (k + 1) (by simpa using hk)
    refine ⟨hf.trans hf', fun x hx => ?_, fun k hk => ?_⟩
    · rw [List.length_cons] at hx
      rw [State.dmaPut, hbut x (by omega), hb, if_neg (by omega)]
    · cases k with
      | zero =>
        simp only [Nat.add_zero]
        rw [State.dmaPut, hbut a (by omega), hb]
        cases s.ringFixed a <;> simp
      | succ k =>
        have hk' : k < l.length := by simpa using hk
        have hbk : (s.dmaByte a b).byte (a + 1 + k) = s.byte (a + 1 + k) := (hb _).trans (if_neg (by omega))
        rw [State.dmaPut, show a + (k + 1) = a + 1 + k by omega, hput k hk', hf.ringFixed_eq, hbk, List.getD_cons_succ]

end

/-! The copy. -/

theorem State.dmaSoft_only (s : State) (a len : Nat) : OnlyRegs s (s.dmaSoft a len) corKeys :=
  List.foldlRecOn (motive := fun t => OnlyRegs s t corKeys) _ _ (.refl s _) fun t ht k _ => by
    split_ifs
    · exact ht.trans (t.countSoft_only _)
    · exact ht

section
variable {s t : State} {a : Nat}

theorem OnlyRegs.corKeys_getF (h : OnlyRegs s t corKeys) {f : Fld} (hssm : f ≠ .SSM_ECCCNT_COR) (hce : f ≠ .CE_XCNT_ECCCOR) (i : Nat) :
    t.getF f i = s.getF f i :=
  h.getF_eq (fun _ he heq => (corKeys_name he).elim (fun h' => hssm (heq.symm.trans h')) fun h' => hce (heq.symm.trans h')) i

theorem OnlyRegs.dmaGoes_of (h : OnlyRegs s t corKeys) (ha : s.dmaGoes a) : t.dmaGoes a := by
  have hpwr : t.getF .PMC_PDSTAT_PWR 0 = s.getF .PMC_PDSTAT_PWR 0 := h.corKeys_getF (by simp) (by simp) 0
  obtain ⟨r, rfl⟩ : ∃ r, t = { s with regs := r } := ⟨_, h.1⟩
  refine ha.imp_right fun ⟨n, off, hplace, hlive, hoff⟩ => ⟨n, off, hplace, ?_, hoff⟩
  rw [← hlive]
  simp only [State.ceLive, State.powered, State.testF, hpwr]
  rfl

theorem OnlyRegs.ringFixed_eq (h : OnlyRegs s t corKeys) : t.ringFixed a = s.ringFixed a := by
  rw [State.ringFixed, State.ringFixed, State.commanding, State.commanding, h.corKeys_getF (by simp) (by simp)]

end

/-- What a copy reads of a byte that it can reach. -/
theorem State.dmaGet_comes {s : State} {a : Nat} (h : s.dmaComes a) : s.dmaGet a = s.byte a := by
  rcases h with (h | ⟨n, off, h, hlive, hoff⟩) | h
  · rw [State.dmaGet, h]
  · have hunit : s.unitLive (.ce n) = true := hlive
    rw [State.dmaGet, h]
    dsimp only
    rw [hunit, decide_eq_true hoff]
    rfl
  · rw [State.dmaGet, h]

/-- The copy itself, with the corrected words counted first. -/
def State.dmaCopy (s : State) (src dst len : Nat) : State :=
  ((s.dmaSoft src len).countPartial dst len).dmaPut dst ((List.range len).map fun k => s.dmaGet (src + k))

theorem State.dmaCopy_spec {s : State} {src dst len : Nat} (h : ∀ k < len, s.dmaGoes (dst + k) ∧ s.dmaComes (src + k)) : let t := s.dmaCopy src dst len
    t = { s with regs := t.regs, mem := t.mem, eccBad := t.eccBad, eccSoft := t.eccSoft } ∧ RegsBut s t corKeys ∧ MemBut s t dst len ∧
      ∀ k < len, t.byte (dst + k) = if s.ringFixed (dst + k) then s.byte (dst + k) else s.byte (src + k) := by
  have hc : OnlyRegs s ((s.dmaSoft src len).countPartial dst len) corKeys := (s.dmaSoft_only src len).trans (State.countPartial_only _ dst len)
  have hlen : ((List.range len).map fun k => s.dmaGet (src + k)).length = len := by rw [List.length_map, List.length_range]
  unfold State.dmaCopy
  generalize (s.dmaSoft src len).countPartial dst len = c at hc
  have hbyte (x : Nat) : c.byte x = s.byte x := by
    rw [hc.1]
    rfl
  obtain ⟨hf, hbut, hput⟩ := State.dmaPut_spec ((List.range len).map fun k => s.dmaGet (src + k)) (s := c) (a := dst)
    fun k hk => hc.dmaGoes_of (h k (hlen ▸ hk)).1
  rw [hlen] at hbut hput
  generalize c.dmaPut dst _ = t at hf hbut hput
  refine ⟨Eq.trans hf ?_, fun f i hi => ?_, fun x hx => (hbut x hx).trans (hbyte x), fun k hk => ?_⟩
  · have hregs : t.regs = c.regs := by rw [MemFrame] at hf; rw [hf]
    rw [hregs]
    exact congrArg (fun x : State => { x with mem := t.mem, eccBad := t.eccBad, eccSoft := t.eccSoft }) hc.1
  · have hget : t.getF f i = c.getF f i := by rw [MemFrame] at hf; rw [hf]; rfl
    exact hget.trans (hc.2 f i hi)
  · have hval : ((List.range len).map fun k => s.dmaGet (src + k)).getD k 0#8 = s.byte (src + k) := by
      rw [List.getD_eq_getElem _ _ (by rw [hlen]; exact hk), List.getElem_map, List.getElem_range, State.dmaGet_comes (h k hk).2]
    rw [hput k hk, hc.ringFixed_eq, hbyte, hval]

/-- The end of a drain with a descriptor (Table 1-7). -/
def State.dmaEnd (s t : State) : State := if s.dmaEnst = enstDraining then { t with dmaEnst := enstOff } else t

theorem State.dmaEnd_spec (s t : State) : (s.dmaEnd t).mem = t.mem ∧ (s.dmaEnd t).resp = t.resp ∧ ∀ f i, (s.dmaEnd t).getF f i = t.getF f i := by
  rw [State.dmaEnd]
  split_ifs <;> exact ⟨rfl, rfl, fun _ _ => rfl⟩

/-- The end of a drain after a copy. -/
theorem State.dmaEnd_copy {s t : State} (h : t = { s with regs := t.regs, mem := t.mem, eccBad := t.eccBad, eccSoft := t.eccSoft }) : let u := s.dmaEnd t
    u = { s with regs := u.regs, mem := u.mem, eccBad := u.eccBad, eccSoft := u.eccSoft, dmaEnst := if s.dmaEnst = 2 then 0 else s.dmaEnst } ∧
      ∀ x, u.byte x = t.byte x := by
  obtain ⟨r, m, b, c, rfl⟩ : ∃ r m b c, t = { s with regs := r, mem := m, eccBad := b, eccSoft := c } := ⟨_, _, _, _, h⟩
  rw [State.dmaEnd, show enstDraining = 2 from rfl]
  dsimp only
  split_ifs <;> exact ⟨rfl, fun _ => rfl⟩

section
variable {src dst : BitVec 40} {len : Nat} {s : State}

/-- What a descriptor does: an error at the first byte in its way, and else the copy. -/
def State.dmaOutcome (s : State) (src dst len : Nat) : State :=
  match s.dmaErr src len false, s.dmaErr dst len true with
  | some (c, a), _ => s.accessError c .dma a 1 false
  | none, some (c, a) => s.accessError c .dma a 1 true
  | none, none => s.dmaCopy src dst len

theorem dmaDescriptor_runs (h0 : s.dmaEnst ≠ 0) (hcores : s.coresRun = true) (hsys : s.sysRuns = true) (hpow : s.powered 3 = true) :
    exec (.dmaDescriptorComplete src dst len) s = .next (s.dmaEnd (s.dmaOutcome src.toNat dst.toNat len)) := by
  have hexec : exec (.dmaDescriptorComplete src dst len) s = execDmaDescriptorComplete src dst len s := rfl
  rw [hexec, execDmaDescriptorComplete, if_neg (by simp [h0, enstOff, hcores, hsys, hpow])]
  rfl

theorem State.dmaOutcome_error {src dst : Nat} (h : (∃ c x, s.dmaErr src len false = some (c, x)) ∨ ∃ c x, s.dmaErr dst len true = some (c, x)) :
    ∃ c x wr, s.dmaOutcome src dst len = s.accessError c .dma x 1 wr := by
  rw [State.dmaOutcome]
  rcases h with ⟨c, x, h⟩ | ⟨c, x, h⟩
  · rw [h]
    exact ⟨c, x, false, rfl⟩
  · rw [h]
    rcases s.dmaErr src len false with _ | ⟨c', x'⟩
    · exact ⟨c, x, true, rfl⟩
    · exact ⟨c', x', false, rfl⟩

end

/-- Settles O3: nothing stands in the way of a descriptor within reach, whose bytes are put one by one; an error changes no byte. -/
theorem dmaCopies : Obligations.DmaCopies := by
  intro src dst len s c ram ssm goes comes whole counts h0 hcores hsys hpow
  refine ⟨fun hreach hsrc hdst => ?_, fun ⟨k, hk, hway⟩ => ?_⟩
  · have hgoes (k : Nat) (hk : k < len) : s.dmaGoes (dst.toNat + k) := State.dmaGoes_iff.1 (hreach k hk).1
    have hcomes (k : Nat) (hk : k < len) : s.dmaComes (src.toNat + k) :=
      (Bool.or_eq_true_iff.1 (hreach k hk).2).imp (fun h => State.dmaGoes_iff.1 h) fun h => placeOf_mram (of_decide_eq_true h)
    have hout : s.dmaOutcome src.toNat dst.toNat len = s.dmaCopy src.toNat dst.toNat len := by
      rw [State.dmaOutcome, State.dmaErr_read hcomes hsrc, State.dmaErr_write hgoes hdst]
    obtain ⟨hframe, hregs, hbut, hput⟩ := State.dmaCopy_spec fun k hk => ⟨hgoes k hk, hcomes k hk⟩
    refine ⟨_, dmaDescriptor_runs h0 hcores hsys hpow, ?_⟩
    rw [hout]
    generalize s.dmaCopy src.toNat dst.toNat len = t at hframe hregs hbut hput
    obtain ⟨hframe', hbyte⟩ := State.dmaEnd_copy hframe
    obtain ⟨-, -, hget⟩ := s.dmaEnd_spec t
    exact ⟨hframe', fun f i hi => (hget f i).trans (hregs f i hi), fun x hx => (hbyte x).trans (hbut x hx), fun k hk => (hbyte _).trans (hput k hk)⟩
  · have herr : (∃ c x, s.dmaErr src.toNat len false = some (c, x)) ∨ ∃ c x, s.dmaErr dst.toNat len true = some (c, x) := by
      rcases hway with ⟨hb, h⟩ | h | h | h | h | h
      · exact .inl (State.dmaErr_source hk (.inl ⟨hb, placeOf_ssm (of_decide_eq_true h)⟩))
      · exact .inl (State.dmaErr_source hk (.inr (.inl h)))
      · exact .inl (State.dmaErr_source hk (.inr (.inr (.inl h))))
      · exact .inl (State.dmaErr_source hk (.inr (.inr (.inr h))))
      · exact .inr (State.dmaErr_target hk (.inl h))
      · exact .inr (State.dmaErr_target hk (.inr h))
    obtain ⟨cause, x, wr, hout⟩ := State.dmaOutcome_error herr
    refine ⟨_, dmaDescriptor_runs h0 hcores hsys hpow, ?_⟩
    rw [hout]
    obtain ⟨hmem, hresp, hcount⟩ := s.accessError_spec cause .dma x 1 wr
    obtain ⟨hmem', hresp', hget⟩ := s.dmaEnd_spec (s.accessError cause .dma x 1 wr)
    exact ⟨hmem'.trans hmem, hresp'.trans hresp, (hget _ _).trans hcount⟩

end Sys2Proof.Machine
end

section
/-! The fret boundary (R31, R45). -/
namespace Sys2Proof.Machine

-- The proofs one after another: all at once they would need more threads, and their stacks, than the check's memory holds.
set_option Elab.async false

/-- The ATU runs on the ADC, and ATU_CFG.FPCSEL holds 30, a value too wide for its field of two bits (no run of the device leads here): a cycle would
then have more frets than the angle has units, and a fret is 0 au long. -/
def wideFpcsel : State :=
  let s := ((State.reset.setF .PMC_STAGE_STAGE 0 3).setF .ATU_STAT_ENST 0 1).setF .ATU_STAT_SRC 0 0
  { s with regs := Store.put s.regs (Fld.ATU_CFG_FPCSEL.key 0) 30 2, gated := 0#4, quadFeed := true, pmc := { porSupply := false } }

theorem wideFpcsel_runs : wideFpcsel.atuRuns = true := by decide

theorem wideFpcsel_boundary : exec .fretBoundary wideFpcsel = .next wideFpcsel.fretBoundary := by
  have hexec : exec .fretBoundary wideFpcsel = execFretBoundary wideFpcsel := rfl
  rw [hexec, execFretBoundary, if_pos wideFpcsel_runs]

/-- The boundary leaves FPCSEL as it is. -/
theorem wideFpcsel_kept : wideFpcsel.fretBoundary.getF .ATU_CFG_FPCSEL 0 = 30 := by decide +kernel

/-- No angle lies below the next threshold. -/
theorem wideFpcsel_threshold : wideFpcsel.fretBoundary.nextThreshold = 0 := by
  have hau : wideFpcsel.fretBoundary.fretAu = 0 := by
    rw [State.fretAu, State.fpc, wideFpcsel_kept]
    exact Nat.div_eq_of_lt (by norm_num)
  rw [State.nextThreshold, hau, Nat.mul_zero, Nat.zero_mul]

/-- Refutes O4: where FPCSEL holds a value wider than its field, the angle after a boundary does not lie below the next threshold, which is 0; the claim
is made of every state, well formed or not. -/
theorem not_fretBoundary : ¬ Obligations.FretBoundary := by
  intro h
  obtain ⟨t, ht, -, -, -, -, hlt, -⟩ := h wideFpcsel wideFpcsel_runs
  rw [wideFpcsel_boundary] at ht
  obtain rfl := Host.Outcome.next.inj ht
  rw [wideFpcsel_threshold] at hlt
  exact absurd hlt (Nat.not_lt_zero _)

end Sys2Proof.Machine
end

section
/-! What a lane launches at an offset of the fret. -/
namespace Sys2Proof.Machine

-- The proofs one after another: all at once they would need more threads, and their stacks, than the check's memory holds.
set_option Elab.async false

/-! The angle brought up to an offset. -/

section
variable (s : State) (o : Nat)

theorem State.raiseAngle_regs : (s.raiseAngle o).regs = s.regs := by rw [s.raiseAngle_frame o]

theorem State.raiseAngle_lanes : (s.raiseAngle o).lanes = s.lanes := by rw [s.raiseAngle_frame o]

theorem State.raiseAngle_getF (f : Fld) (i : Nat) : (s.raiseAngle o).getF f i = s.getF f i := by rw [State.getF, s.raiseAngle_regs o, State.getF]

theorem State.raiseAngle_bit (f : Fld) (i : Nat) : (s.raiseAngle o).bit f i = s.bit f i := by rw [State.bit, s.raiseAngle_getF o, State.bit]

theorem State.raiseAngle_serving (n : Fin 96) : (s.raiseAngle o).serving n = s.serving n := by
  rw [s.raiseAngle_frame o]
  rfl

theorem State.passTo_serving (n : Fin 96) (t : Nat) : (s.passTo t).serving n = s.serving n := by
  rw [s.passTo_frame t]
  rfl

end

/-! Frames sent. -/

section
variable {n : Fin 96} {fs : List (List Byte)} {l : List (Fld × Nat)} {r t : State}

theorem State.latency_spec (s : State) : (288 ≤ s.latency.1 ∧ s.latency.1 ≤ 392) ∧ s.latency.2 = { s with free := s.free + 1 } := by
  refine ⟨?_, rfl⟩
  rw [State.latency]
  have := Nat.mod_lt s.draw.1.toNat (show 0 < 105 by decide)
  dsimp only
  omega

/-- The draw of a latency bears on nothing else. -/
theorem Sends.of_drawn (h : Sends n fs l { r with free := r.free + 1 } t) : Sends n fs l r t := h

theorem Sends.of_alone (h : LaneAlone n l r t) (htx : (t.lanes[n]).lastTx = fs) (hcut : (t.lanes[n]).txCut = false)
    (hend : (t.lanes[n]).txEnd = r.tick + fs.length * r.frameTicks n) : Sends n fs l r t := by
  refine ⟨htx, hcut, hend, h.others, ?_, h.regs⟩
  have hfree : t.free = r.free := by rw [h.frame]
  rw [hfree]
  exact h.frame

/-- What a lane keeps in mind of the frames that it sends, with `f` applied to it. -/
theorem State.sendFrames_spec (s : State) (n : Fin 96) (fs : List (List Byte)) (f : LaneSt → LaneSt)
    (hf : ∀ x : LaneSt, (f x).lastTx = x.lastTx ∧ (f x).txCut = x.txCut ∧ (f x).txEnd = x.txEnd) (l : List (Fld × Nat)) :
    let t := (s.sendFrames n fs).modLane n f
    Sends n fs l s t ∧ LaneAlone n l s t ∧
      t.lanes[n] = f { s.lanes[n] with lastTx := fs, txCut := false, txEnd := s.tick + fs.length * s.frameTicks n } := by
  have halone : LaneAlone n l s ((s.sendFrames n fs).modLane n f) := ((LaneAlone.refl n l s).modLane _).modLane f
  have hlane : ((s.sendFrames n fs).modLane n f).lanes[n] =
      f { s.lanes[n] with lastTx := fs, txCut := false, txEnd := s.tick + fs.length * s.frameTicks n } := by
    rw [State.modLane_same, State.sendFrames, State.modLane_same]
  obtain ⟨htx, hcut, hend⟩ := hf { s.lanes[n] with lastTx := fs, txCut := false, txEnd := s.tick + fs.length * s.frameTicks n }
  refine ⟨Sends.of_alone halone ?_ ?_ ?_, halone, hlane⟩
  · rw [hlane]
    exact htx
  · rw [hlane]
    exact hcut
  · rw [hlane]
    exact hend

/-- The check on a requested CLEAR behind the frames. -/
theorem Sends.clearCheck (h : Sends n fs l r t) (hl : [(Fld.CLG_CTRL_CLRGO, 0), (.CLG_STAT_CLRDONE, 0)] ⊆ l) : Sends n fs l r t.clearCheck := by
  obtain ⟨htx, hcut, hend, hothers, hframe, hregs⟩ := h
  have hspec := t.clearCheck_spec
  rw [Sends, t.clearCheck_lanes]
  refine ⟨htx, hcut, hend, hothers, ?_, hregs.trans (hspec.2.mono hl)⟩
  exact hspec.1.trans (congrArg (fun x : State => { x with regs := t.clearCheck.regs }) hframe) |>.trans (by rw [show t.clearCheck.free = t.free by rw [hspec.1]])

end

end Sys2Proof.Machine
end

section
/-! Link frames and what a lane launches (R220 to R223, R227, R228, R234, R238, R248, R250). -/
namespace Sys2Proof.Machine

-- The proofs one after another: all at once they would need more threads, and their stacks, than the check's memory holds.
set_option Elab.async false

/-! The bytes of a number. -/

theorem leBytes_length (k v : Nat) : (leBytes k v).length = k := by rw [leBytes, List.length_map, List.length_range]

theorem leBytes_succ (k v : Nat) : leBytes (k + 1) v = BitVec.ofNat 8 v :: leBytes k (v / 256) := by
  rw [leBytes, leBytes, List.range_succ_eq_map, List.map_cons, List.map_map, Nat.pow_zero, Nat.div_one]
  refine congrArg _ (List.map_congr_left fun i _ => ?_)
  rw [Function.comp_apply, Nat.pow_succ', Nat.div_div_eq_div_mul]

theorem leNat_leBytes {k v : Nat} (h : v < 256 ^ k) : leNat (leBytes k v) = v := by
  induction k generalizing v with
  | zero => rw [Nat.lt_one_iff.1 h]; rfl
  | succ k ih =>
    rw [leBytes_succ, leNat, ih (by rw [Nat.pow_succ] at h; omega), BitVec.toNat_ofNat]
    omega

theorem leBytes_byte (b : Byte) : leBytes 1 b.toNat = [b] := by
  simp [leBytes]

/-! The check value (R222). -/

theorem crcBit_lt {p c : Nat} (hp : p < 2 ^ 32) (hc : c < 2 ^ 32) : crcBit p c < 2 ^ 32 := by
  have hshift : c >>> 1 < 2 ^ 32 := by
    rw [Nat.shiftRight_one]
    omega
  unfold crcBit
  split_ifs
  · exact Nat.xor_lt_two_pow hshift hp
  · exact hshift

theorem crcByte_lt {p c : Nat} (b : Byte) (hp : p < 2 ^ 32) (hc : c < 2 ^ 32) : crcByte p c b < 2 ^ 32 := by
  have hx : c ^^^ b.toNat < 2 ^ 32 := Nat.xor_lt_two_pow hc (b.isLt.trans (by decide))
  exact crcBit_lt hp (crcBit_lt hp (crcBit_lt hp (crcBit_lt hp (crcBit_lt hp (crcBit_lt hp (crcBit_lt hp (crcBit_lt hp hx)))))))

theorem crc32c_lt (l : List Byte) : crc32c l < 2 ^ 32 :=
  Nat.xor_lt_two_pow (List.foldlRecOn (motive := fun c => c < 2 ^ 32) l _ (by decide) fun _ hc b _ => crcByte_lt b (by decide) hc) (by decide)

/-! The format of a frame (Tables 8-1, 8-2). -/

section
variable (ty epoch fret cell : Nat) (body : List Byte)

/-- The data bytes of a frame ahead of its check value. -/
def frameData : List Byte := leBytes 1 ty ++ (leBytes 2 epoch ++ (leBytes 4 fret ++ (leBytes 2 cell ++ (body ++ List.replicate 50 0#8).take 50)))

theorem frameData_length : (frameData ty epoch fret cell body).length = 59 := by
  simp [frameData, leBytes_length]

theorem mkFrame_eq : mkFrame ty epoch fret cell body =
    frameData ty epoch fret cell body ++ leBytes 4 (crc32c (frameData ty epoch fret cell body)) := by
  have hdata : (leBytes 1 ty ++ leBytes 2 epoch ++ leBytes 4 fret ++ leBytes 2 cell ++ body ++ List.replicate 50 0#8).take 59 =
      frameData ty epoch fret cell body := by
    have hlen : (leBytes 1 ty ++ leBytes 2 epoch ++ leBytes 4 fret ++ leBytes 2 cell).length = 9 := by simp [leBytes_length]
    rw [List.append_assoc, List.take_append, hlen, List.take_of_length_le (by rw [hlen]; decide), frameData]
    simp only [List.append_assoc]
  rw [mkFrame, hdata]

/-- A field that stands behind the bytes `pre`. -/
theorem frameField_of {f pre rest : List Byte} {o k v : Nat} (hf : f = pre ++ (leBytes k v ++ rest)) (hpre : pre.length = o - 1) (hv : v < 256 ^ k) :
    frameField f o k = v := by
  rw [frameField, hf, List.drop_left' hpre, List.take_left' (leBytes_length k v), leNat_leBytes hv]

end

/-- The claim of R220 to R222. -/
theorem frameFormat : Claims.FrameFormat := by
  intro ty epoch fret cell body f hty hepoch hfret hcell hbody
  have hf : f = frameData ty epoch fret cell body ++ leBytes 4 (crc32c (frameData ty epoch fret cell body)) := mkFrame_eq ..
  have hlen := frameData_length ty epoch fret cell body
  have hcrc : frameField f 60 4 = crc32c (frameData ty epoch fret cell body) :=
    frameField_of (rest := []) (hf.trans (by rw [List.append_nil])) hlen (crc32c_lt _)
  have htake : f.take 59 = frameData ty epoch fret cell body := by rw [hf, List.take_left' hlen]
  have hspelt : f = leBytes 1 ty ++ (leBytes 2 epoch ++ (leBytes 4 fret ++ (leBytes 2 cell ++ ((body ++ List.replicate 50 0#8).take 50 ++
      leBytes 4 (crc32c (frameData ty epoch fret cell body)))))) := by
    rw [hf, frameData]
    simp only [List.append_assoc]
  refine ⟨?_, frameField_of (pre := []) hspelt rfl hty, frameField_of hspelt (leBytes_length _ _) hepoch, ?_, ?_, ?_, by rw [htake, hcrc]⟩
  · rw [hf, List.length_append, hlen, leBytes_length]
  · rw [← List.append_assoc] at hspelt
    exact frameField_of hspelt (by simp [leBytes_length]) hfret
  · rw [← List.append_assoc, ← List.append_assoc] at hspelt
    exact frameField_of hspelt (by simp [leBytes_length]) hcell
  · rw [← List.append_assoc, ← List.append_assoc, ← List.append_assoc] at hspelt
    rw [hspelt, List.drop_left' (by simp [leBytes_length]), List.take_append_of_le_length (by simp; omega), List.take_take, Nat.min_eq_left hbody,
      List.take_left' rfl]

/-! What a lane launches. -/

section
variable {n : Fin 96} {s : State}

/-- The frames of a TIMEBASE slot. -/
def State.timebaseFrames (r : State) (n : Fin 96) (late lat : Nat) (clear : Bool) : List (List Byte) :=
  let tb := r.frame n 1 (r.timebaseBody n (r.sinceBoundary - late + lat))
  if clear then [tb, r.frame n 5 r.clearBody] else [tb]

/-- The fields of a requested CLEAR. -/
def clrKeys : List (Fld × Nat) := [(.CLG_CTRL_CLRGO, 0), (.CLG_STAT_CLRDONE, 0)]

/-- TIMEBASE, and a CLEAR behind it where one is requested (R223, R228). -/
theorem State.sendTimebase_spec (r : State) (n : Fin 96) (late : Nat) : let t := r.sendTimebase n late
    ∃ lat, (288 ≤ lat ∧ lat ≤ 392) ∧ Sends n (r.timebaseFrames n late lat ((r.lanes[n]).clrPend || (r.lanes[n]).heldClr)) clrKeys r t ∧
      (t.lanes[n]).clrPend = false ∧ (t.lanes[n]).heldClr = false ∧ (t.lanes[n]).burst = (r.lanes[n]).burst := by
  refine ⟨r.latency.1, r.latency_spec.1, ?_⟩
  obtain ⟨hsends, -, hlane⟩ := State.sendFrames_spec r.latency.2 n
    (r.timebaseFrames n late r.latency.1 ((r.lanes[n]).clrPend || (r.lanes[n]).heldClr))
    (fun l => { l with clrPend := false, heldClr := false }) (fun _ => ⟨rfl, rfl, rfl⟩) clrKeys
  have heq : r.sendTimebase n late = ((r.latency.2.sendFrames n (r.timebaseFrames n late r.latency.1 ((r.lanes[n]).clrPend || (r.lanes[n]).heldClr))).modLane n
      fun l => { l with clrPend := false, heldClr := false }).clearCheck := rfl
  rw [heq]
  refine ⟨Sends.of_drawn (r := r) (Sends.clearCheck hsends (List.Subset.refl _)), ?_⟩
  rw [State.clearCheck_lanes, hlane]
  exact ⟨rfl, rfl, rfl⟩

/-- A CLEAR whose TIMEBASE a burst cut (R248). -/
theorem State.sendHeldClear_spec (r : State) (n : Fin 96) : let t := r.sendHeldClear n
    Sends n [r.frame n 5 r.clearBody] clrKeys r t ∧ (t.lanes[n]).heldClr = false ∧ (t.lanes[n]).burst = (r.lanes[n]).burst := by
  obtain ⟨hsends, -, hlane⟩ := State.sendFrames_spec r n [r.frame n 5 r.clearBody] (fun l => { l with heldClr := false }) (fun _ => ⟨rfl, rfl, rfl⟩) clrKeys
  rw [State.sendHeldClear]
  refine ⟨Sends.clearCheck hsends (List.Subset.refl _), ?_⟩
  rw [State.clearCheck_lanes, show tyClear = 5 from rfl, hlane]
  exact ⟨rfl, rfl⟩

/-- A lane that asks for a delay response, with the time of its request. -/
def LaneSt.asks (l : LaneSt) (t1 : Nat) : LaneSt :=
  { l with dseq := l.dseq + 1#8, dlyWait := true, dlyT1 := t1, dlyOut := if l.dlyWait then [] else l.dlyOut }

/-- A lane that sends frames up to a FAB cycle. -/
def LaneSt.sends (l : LaneSt) (fs : List (List Byte)) (till : Nat) : LaneSt := { l with lastTx := fs, txCut := false, txEnd := till }

theorem State.sendDelayReq_eq (r : State) (n : Fin 96) (late : Nat) : r.sendDelayReq n late =
    (r.latency.2.modLane n fun l => l.asks (r.tick * 40 - late + r.latency.1)).sendFrames n [r.frame n 6 [0#8, (r.lanes[n]).dseq + 1#8]] := by
  have hbody : leBytes 1 0 ++ leBytes 1 ((r.lanes[n]).dseq + 1#8).toNat = [0#8, (r.lanes[n]).dseq + 1#8] := congrArg _ (leBytes_byte _)
  rw [← hbody]
  rfl

/-- DELAY_REQ, with its time noted (R238). -/
theorem State.sendDelayReq_spec (r : State) (n : Fin 96) (late : Nat) : let t := r.sendDelayReq n late
    Sends n [r.frame n 6 [0#8, (r.lanes[n]).dseq + 1#8]] [] r t ∧ (t.lanes[n]).dseq = (r.lanes[n]).dseq + 1#8 ∧ (t.lanes[n]).dlyWait = true ∧
      ∃ lat, (288 ≤ lat ∧ lat ≤ 392) ∧ (t.lanes[n]).dlyT1 = r.tick * 40 - late + lat := by
  have hlane : ((r.latency.2.modLane n fun l => l.asks (r.tick * 40 - late + r.latency.1)).lanes[n]) =
    (r.lanes[n]).asks (r.tick * 40 - late + r.latency.1) := State.modLane_same _ _ _
  rw [State.sendDelayReq_eq]
  have halone : LaneAlone n [] r.latency.2 (r.latency.2.modLane n fun l => l.asks (r.tick * 40 - late + r.latency.1)) := (LaneAlone.refl n _ _).modLane _
  generalize r.latency.2.modLane n (fun l => l.asks (r.tick * 40 - late + r.latency.1)) = u at hlane halone
  have hsent : (u.sendFrames n [r.frame n 6 [0#8, (r.lanes[n]).dseq + 1#8]]).lanes[n] =
    (u.lanes[n]).sends [r.frame n 6 [0#8, (r.lanes[n]).dseq + 1#8]] (u.tick + 1 * u.frameTicks n) := State.modLane_same _ _ _
  have htick : u.tick + 1 * u.frameTicks n = r.tick + 1 * r.frameTicks n := by
    rw [halone.tick_eq, State.frameTicks, halone.bit_eq (by simp)]
    rfl
  refine ⟨Sends.of_drawn (r := r) (Sends.of_alone (halone.modLane _) ?_ ?_ ?_), ?_, ?_, r.latency.1, r.latency_spec.1, ?_⟩
  · rw [hsent]
    rfl
  · rw [hsent]
    rfl
  · rw [hsent]
    exact htick
  · rw [hsent, hlane]
    rfl
  · rw [hsent, hlane]
    rfl
  · rw [hsent, hlane]
    rfl

/-- What a serving lane does at its TB slot, where `r` is the state at the slot. -/
theorem timebaseLaunch_at {r : State} (hr : s.raiseAngle (s.slot n 0) = r) (hserv : s.serving n = true) (hruns : s.atuRuns = true) :
    exec (.timebaseLaunch n) s = .next (if s.bit .CL_STAT_MUTED n then (r.burst n (s.getF .TRIP_RMASK_RMASK 0)).modLane n (fun l => { l with heldTb := true })
      else if (s.lanes[n]).burst.isSome then r.modLane n (fun l => { l with heldTb := true })
      else r.sendTimebase n (r.sinceOffset (s.slot n 0))) := by
  have hexec : exec (.timebaseLaunch n) s = execTimebaseLaunch n s := rfl
  rw [hexec, execTimebaseLaunch, hserv, hruns, Bool.and_self, if_pos rfl, ← s.raiseAngle_bit (s.slot n 0), ← s.raiseAngle_getF (s.slot n 0),
    ← s.raiseAngle_lanes (s.slot n 0), hr]

/-- What a serving lane does at its DLY slot. -/
theorem delayReqLaunch_at {r : State} (hr : s.raiseAngle (s.slot n 1) = r) (hserv : s.serving n = true) (hruns : s.atuRuns = true)
    (hen : s.bit .CL_CTRL_DLYEN n = true) (hper : s.fretnum % 2 ^ s.getF .CL_CTRL_DLYPER n = 0) :
    exec (.delayReqLaunch n) s = .next (if (s.lanes[n]).burst.isSome then r.modLane n (fun l => { l with heldDly := true })
      else r.sendDelayReq n (r.sinceOffset (s.slot n 1))) := by
  have hexec : exec (.delayReqLaunch n) s = execDelayReqLaunch n s := rfl
  rw [hexec, execDelayReqLaunch, hserv, hruns, hen, decide_eq_true hper, Bool.and_self, Bool.and_self, Bool.and_self, if_pos rfl,
    ← s.raiseAngle_lanes (s.slot n 1), hr]

/-- A muted lane sends its burst first. -/
theorem State.burst_holds (r : State) (n : Fin 96) (m : Nat) : let t := (r.burst n m).modLane n fun l => { l with heldTb := true }
    t = { r with lanes := t.lanes } ∧ (t.lanes[n]).burst = some (burstAt (r.lanes[n]).burst r.tick (r.setTime n) m) ∧ (t.lanes[n]).heldTb = true ∧
      ∀ k : Fin 96, k ≠ n → t.lanes[k] = r.lanes[k] := by
  have hlane : ((r.burst n m).modLane n fun l => { l with heldTb := true }).lanes[n] =
      { (r.lanes[n]).startBurst r.tick (r.setTime n) m with heldTb := true } := by
    rw [State.modLane_same, State.burst, State.modLane_same]
  refine ⟨rfl, ?_, ?_, fun k hk => ?_⟩
  · rw [hlane]
    rfl
  · rw [hlane]
  · rw [State.modLane_ne _ _ hk, State.burst, State.modLane_ne _ _ hk]

/-- The lane once its burst has ended. -/
def State.burstOver (s : State) (n : Fin 96) (till : Nat) : State :=
  (s.passTo till).modLane n fun l => { l with burst := none, heldTb := false, heldDly := false }

/-- The end of a burst, with what it held back (R248, R272). -/
theorem muteBurstComplete_at {b : Burst} (hb : (s.lanes[n]).burst = some b) (hrun : s.laneRuns n = true) (hdly : (s.lanes[n]).heldDly = false) :
    exec (.muteBurstComplete n) s = .next (let e := s.burstOver n (b.endTick (s.setTime n))
      if (s.lanes[n]).heldTb && e.serving n then e.sendTimebase n 0
      else if (s.lanes[n]).heldClr && e.serving n then e.sendHeldClear n else e) := by
  have hexec : exec (.muteBurstComplete n) s = execMuteBurstComplete n s := rfl
  rw [hexec, execMuteBurstComplete, hrun, hb]
  dsimp only
  rw [hdly, Bool.false_and, if_neg (by decide)]
  rfl

theorem State.burstOver_spec (s : State) (n : Fin 96) (till : Nat) : let e := s.burstOver n till
    LaneIs n { s.lanes[n] with burst := none, heldTb := false, heldDly := false } (s.passTo till) e ∧ e.serving n = s.serving n := by
  refine ⟨LaneIs.of_modLane ?_, s.passTo_serving n till⟩
  rw [s.passTo_frame till]

/-- A lane whose hidden state alone has changed may be forgotten where frames follow. -/
theorem Sends.of_laneIs {fs : List (List Byte)} {l : List (Fld × Nat)} {x : LaneSt} {r u t : State} (h : Sends n fs l u t) (hu : LaneIs n x r u) : Sends n fs l r t := by
  obtain ⟨htx, hcut, hend, hothers, hframe, hregs⟩ := h
  obtain ⟨hu, -, hm⟩ := hu
  have hut (m : Fin 96) (hne : m ≠ n) : t.lanes[m] = r.lanes[m] := (hothers m hne).trans (hm m hne)
  clear hm hothers
  obtain ⟨y, rfl⟩ : ∃ y, u = { r with lanes := y } := ⟨_, hu⟩
  exact ⟨htx, hcut, hend, hut, hframe, hregs⟩

end

/-- The launches of the slots. -/
theorem linkLaunches_slots (n : Fin 96) (s : State) : let r := atOffset s (s.slot n 0)
    let d := atOffset s (s.slot n 1)
    let l := s.lanes[n]
    let tb := fun (u : State) (late lat : Nat) => u.frame n 1 (u.timebaseBody n (u.sinceBoundary - late + lat))
    let lateTb := r.sinceOffset (s.slot n 0)
    let lateDly := d.sinceOffset (s.slot n 1)
    let soon := fun (lat : Nat) => 288 ≤ lat ∧ lat ≤ 392
    s.serving n = true → s.atuRuns = true →
    (s.bit .CL_STAT_MUTED n = true → Answers (.timebaseLaunch n) s (fun t => t = { r with lanes := t.lanes } ∧
      (t.lanes[n]).burst = some (burstAt l.burst r.tick (s.setTime n) (s.getF .TRIP_RMASK_RMASK 0)) ∧ (t.lanes[n]).heldTb = true ∧ ∀ m : Fin 96, m ≠ n → t.lanes[m] = s.lanes[m])) ∧
    (s.bit .CL_STAT_MUTED n = false → l.burst.isSome = true → Answers (.timebaseLaunch n) s (LaneIs n { l with heldTb := true } r)) ∧
    (s.bit .CL_STAT_MUTED n = false → l.burst = none → l.clrPend = false → l.heldClr = false → Answers (.timebaseLaunch n) s (fun t =>
      ∃ lat, soon lat ∧ Sends n [tb r lateTb lat] clrKeys r t)) ∧
    (s.bit .CL_STAT_MUTED n = false → l.burst = none → (l.clrPend = true ∨ l.heldClr = true) → Answers (.timebaseLaunch n) s (fun t =>
      (∃ lat, soon lat ∧ Sends n [tb r lateTb lat, r.frame n 5 r.clearBody] clrKeys r t) ∧ (t.lanes[n]).clrPend = false ∧
      (t.lanes[n]).heldClr = false)) ∧
    (s.bit .CL_CTRL_DLYEN n = true → s.fretnum % 2 ^ s.getF .CL_CTRL_DLYPER n = 0 → l.burst.isSome = true →
      Answers (.delayReqLaunch n) s (LaneIs n { l with heldDly := true } d)) ∧
    (s.bit .CL_CTRL_DLYEN n = true → s.fretnum % 2 ^ s.getF .CL_CTRL_DLYPER n = 0 → l.burst = none → Answers (.delayReqLaunch n) s (fun t =>
      Sends n [d.frame n 6 [0#8, l.dseq + 1#8]] [] d t ∧ (t.lanes[n]).dseq = l.dseq + 1#8 ∧ (t.lanes[n]).dlyWait = true ∧
      ∃ lat, soon lat ∧ (t.lanes[n]).dlyT1 = d.tick * 40 - lateDly + lat)) := by
  intro r d l tb lateTb lateDly soon hserv hruns
  have hr : r.lanes = s.lanes := s.raiseAngle_lanes _
  have hrl : r.lanes[n] = l := congrArg (fun v : Vector LaneSt 96 => v[n]) hr
  have hdl : d.lanes[n] = l := congrArg (fun v : Vector LaneSt 96 => v[n]) (s.raiseAngle_lanes (s.slot n 1))
  have htime : r.setTime n = s.setTime n := congrArg (fun b : Bool => if b then 32 else 16) (s.raiseAngle_bit (s.slot n 0) .CL_PHYCTRL_RATE n)
  have htb := timebaseLaunch_at (r := r) rfl hserv hruns
  have hdly := delayReqLaunch_at (r := d) rfl hserv hruns
  clear_value r d
  refine ⟨fun hm => ?_, fun hm hb => ?_, fun hm hb hc hh => ?_, fun hm hb hc => ?_, fun hen hper hb => ?_, fun hen hper hb => ?_⟩
  · rw [if_pos hm] at htb
    obtain ⟨hframe, hburst, hheld, hothers⟩ := r.burst_holds n (s.getF .TRIP_RMASK_RMASK 0)
    rw [hrl, htime] at hburst
    rw [hr] at hothers
    exact ⟨_, htb, hframe, hburst, hheld, hothers⟩
  · rw [if_neg (by rw [hm]; decide), if_pos hb] at htb
    exact ⟨_, htb, LaneIs.of_modLane (by rw [hrl])⟩
  · rw [if_neg (by rw [hm]; decide), if_neg (by rw [hb]; decide)] at htb
    obtain ⟨lat, hlat, hsends, -⟩ := r.sendTimebase_spec n lateTb
    rw [hrl, hc, hh] at hsends
    exact ⟨_, htb, lat, hlat, hsends⟩
  · rw [if_neg (by rw [hm]; decide), if_neg (by rw [hb]; decide)] at htb
    obtain ⟨lat, hlat, hsends, hclr, hheld, -⟩ := r.sendTimebase_spec n lateTb
    rw [hrl, (Bool.or_eq_true_iff.2 hc : (l.clrPend || l.heldClr) = true)] at hsends
    exact ⟨_, htb, ⟨lat, hlat, hsends⟩, hclr, hheld⟩
  · have hdly := hdly hen hper
    rw [if_pos hb] at hdly
    exact ⟨_, hdly, LaneIs.of_modLane (by rw [hdl])⟩
  · have hdly := hdly hen hper
    rw [if_neg (by rw [hb]; decide)] at hdly
    obtain ⟨hsends, hseq, hwait, lat, hlat, ht1⟩ := d.sendDelayReq_spec n lateDly
    rw [hdl] at hsends hseq
    exact ⟨_, hdly, hsends, hseq, hwait, lat, hlat, ht1⟩

/-- The claim of R223 to R250: the slots, and the end of a burst. -/
theorem linkLaunches : Claims.LinkLaunches := by
  intro n s r d l clr tb lateTb lateDly soon
  refine ⟨linkLaunches_slots n s, fun b hb hrun => ?_⟩
  intro e
  obtain ⟨hover, hserving⟩ := s.burstOver_spec n (b.endTick (s.setTime n))
  have hel : e.lanes[n] = l := by
    change (s.passTo (b.endTick (s.setTime n))).lanes[n] = l
    rw [s.passTo_frame]
  have hat (hdly : l.heldDly = false) := muteBurstComplete_at hb hrun hdly
  generalize s.burstOver n (b.endTick (s.setTime n)) = u at hover hserving hat
  have hover' : LaneIs n { l with burst := none, heldTb := false, heldDly := false } e u := hover
  obtain ⟨huf, hul, -⟩ := hover
  have hframes (lat : Nat) (c : Bool) : u.timebaseFrames n 0 lat c = e.timebaseFrames n 0 lat c := by rw [huf]; rfl
  have hclear : u.frame n 5 u.clearBody = e.frame n 5 e.clearBody := by rw [huf]; rfl
  refine ⟨fun htb hdly hclr => ?_, fun htb hdly hpend hclr hserv => ?_, fun htb hdly hclr hserv => ?_⟩
  · have hexec := hat hdly
    dsimp only at hexec
    rw [htb, hclr, Bool.false_and, if_neg (by decide), if_neg (by decide)] at hexec
    exact ⟨_, hexec, hover'⟩
  · have hexec := hat hdly
    dsimp only at hexec
    rw [htb, hserving, hserv, Bool.and_self, if_pos rfl] at hexec
    obtain ⟨lat, hlat, hsends, -, -, hburst⟩ := u.sendTimebase_spec n 0
    rw [hul] at hsends hburst
    rw [hframes, hpend, hclr] at hsends
    exact ⟨_, hexec, hburst, lat, hlat, Sends.of_laneIs hsends hover'⟩
  · have hexec := hat hdly
    dsimp only at hexec
    rw [htb, hclr, hserving, hserv, Bool.false_and, if_neg (by decide), Bool.and_self, if_pos rfl] at hexec
    obtain ⟨hsends, hheld, hburst⟩ := u.sendHeldClear_spec n
    rw [hul] at hburst
    exact ⟨_, hexec, hburst, hheld, Sends.of_laneIs (hclear ▸ hsends) hover'⟩

/-- Settles O50: the format from the bytes of each field, and the launches case by case. -/
theorem framesAndLaunches : Obligations.FramesAndLaunches := ⟨frameFormat, linkLaunches⟩

end Sys2Proof.Machine
end

section
/-! The COMMAND of a lane and its retry (R32, R126, R174, R224, R241). -/
namespace Sys2Proof.Machine

-- The proofs one after another: all at once they would need more threads, and their stacks, than the check's memory holds.
set_option Elab.async false

/-! The state at the CMD slot. -/

/-- The LATECONV bits of the arms. -/
def lateKeys : List (Fld × Nat) := (List.range 6).map (fun a => (Fld.ARM_STAT_LATECONV, a))

theorem mem_lateKeys (a : Fin 6) : (Fld.ARM_STAT_LATECONV, a.val) ∈ lateKeys := List.mem_map.2 ⟨a, List.mem_range.2 a.isLt, rfl⟩

theorem lateKeys_ne {f : Fld} (h : f ≠ .ARM_STAT_LATECONV) : ∀ e ∈ lateKeys, e.1 ≠ f := by
  intro e he
  obtain ⟨a, -, rfl⟩ := List.mem_map.1 he
  exact h.symm

/-- An arm whose conversion for this fret still runs (R174). -/
def State.lateAt (s : State) (n : Fin 96) (a : Fin 6) : Bool := (s.governors n).contains a.val && (s.arms[a]).conv.isSome

theorem State.lateConv_spec (s : State) (n : Fin 96) : let t := s.lateConv n
    OnlyRegs s t lateKeys ∧ ∀ a : Fin 6, t.bit .ARM_STAT_LATECONV a = (s.bit .ARM_STAT_LATECONV a || s.lateAt n a) := by
  refine forIdx_each (s := s) (fun a t => t.bit .ARM_STAT_LATECONV a) (fun t => OnlyRegs s t lateKeys)
    (fun a x => x = (s.bit .ARM_STAT_LATECONV a || s.lateAt n a)) (.refl s _) fun t a ht hsame => ?_
  have hstep : (if (s.governors n).contains a.val && (s.arms[a]).conv.isSome then t.setF .ARM_STAT_LATECONV a 1 else t) =
    if s.lateAt n a then t.setF .ARM_STAT_LATECONV a 1 else t := rfl
  rw [hstep]
  cases s.lateAt n a with
  | false => exact ⟨ht, by simpa using hsame, fun _ _ => rfl⟩
  | true =>
    refine ⟨ht.setF 1 (mem_lateKeys a), ?_, fun k hk => congrArg (· == 1) (t.getF_setF_fin _ (by decide) hk 1)⟩
    rw [if_pos rfl, State.bit_setF_same, Bool.or_true]
    exact beq_iff_eq.2 (Nat.mod_eq_of_lt (Fld.one_lt _))

/-- The state at lane `n`'s CMD slot. -/
def State.atCommand (s : State) (n : Fin 96) : State :=
  ((s.raiseAngle (s.slot n 2)).modLane n (fun l => { l with cmdFret := none })).lateConv n

/-- What the state at the CMD slot has of the state when the angle reached it. -/
structure AtCommand (n : Fin 96) (s r c : State) : Prop where
  alone : LaneAlone n lateKeys r c
  lane : c.lanes[n] = { s.lanes[n] with cmdFret := none }
  getF : ∀ {f : Fld}, f ≠ .ARM_STAT_LATECONV → ∀ i, c.getF f i = s.getF f i
  late : ∀ a : Fin 6, c.bit .ARM_STAT_LATECONV a = (s.bit .ARM_STAT_LATECONV a || ((s.governors n).contains a.val && (s.arms[a]).conv.isSome))

theorem State.atCommand_spec (s : State) (n : Fin 96) : AtCommand n s (s.raiseAngle (s.slot n 2)) (s.atCommand n) := by
  have hrf := s.raiseAngle_frame (s.slot n 2)
  have hlanes := s.raiseAngle_lanes (s.slot n 2)
  have hget := s.raiseAngle_getF (s.slot n 2)
  rw [State.atCommand]
  generalize s.raiseAngle (s.slot n 2) = r at hrf hlanes hget
  obtain ⟨hlate, hbits⟩ := (r.modLane n fun l => { l with cmdFret := none }).lateConv_spec n
  have hlatelanes : ((r.modLane n fun l => { l with cmdFret := none }).lateConv n).lanes = (r.modLane n fun l => { l with cmdFret := none }).lanes := by
    rw [hlate.1]
  have halone : LaneAlone n lateKeys r ((r.modLane n fun l => { l with cmdFret := none }).lateConv n) :=
    ((LaneAlone.refl n _ r).modLane _).trans ⟨by conv_lhs => rw [hlate.1, ← hlatelanes], hlate.2, fun m hm => by rw [hlatelanes]⟩
  refine ⟨halone, ?_, fun hf i => (halone.getF_eq (lateKeys_ne hf) i).trans (hget _ _), fun a => ?_⟩
  · rw [hlatelanes, State.modLane_same, hlanes]
  · have hgov : (r.modLane n fun l => { l with cmdFret := none }).governors n = s.governors n ∧ r.arms = s.arms := by
      rw [hrf]
      exact ⟨rfl, rfl⟩
    rw [hbits a, State.lateAt, hgov.1]
    change (r.bit _ _ || ((s.governors n).contains a.val && (r.arms[a]).conv.isSome)) = _
    rw [hgov.2, State.bit, hget]
    rfl

section
variable {n : Fin 96} {s r c : State} (h : AtCommand n s r c)
include h

theorem AtCommand.bit {f : Fld} (hf : f ≠ .ARM_STAT_LATECONV) (i : Nat) : c.bit f i = s.bit f i := congrArg (· == 1) (h.getF hf i)

theorem AtCommand.commanding_eq : c.commanding = s.commanding := by
  rw [State.commanding, State.commanding, h.getF (by simp)]

theorem AtCommand.fretnum_eq : c.fretnum = s.fretnum := h.getF (by simp) 0

end

/-- The edge records turn on fields that no LATECONV bit is and on the lane's conversion. -/
theorem State.commandEdges_congr {r c : State} {n : Fin 96} (hget : ∀ {f : Fld}, f ≠ .ARM_STAT_LATECONV → ∀ i, c.getF f i = r.getF f i)
    (hfret : (c.lanes[n]).convFret = (r.lanes[n]).convFret) (harm : (c.lanes[n]).convArm = (r.lanes[n]).convArm)
    (hedges : (c.lanes[n]).edges = (r.lanes[n]).edges) : c.commandEdges n = r.commandEdges n := by
  have hlane (a p : Nat) : c.armLane a p = r.armLane a p := by
    unfold State.armLane
    dsimp only
    split <;> exact hget (by simp) _
  have hmem (a : Nat) : c.members a = r.members a := by
    have hlanes : c.armLane a = r.armLane a := funext (hlane a)
    rw [State.members, State.members, hlanes, State.armNcell, State.armNcell, hget (by simp)]
  have hlive (a : Nat) : c.armLive a = r.armLive a := by rw [State.armLive, State.armLive, hget (by simp)]
  have hgov : c.governors n = r.governors n := by simp only [State.governors, hlive, hmem]
  have hmapped : c.mapped n = r.mapped n := by simp only [State.mapped, hmem]
  have hmod : c.modOn = r.modOn := by rw [State.modOn, State.modOn, hget (by simp)]
  have hnum : c.fretnum = r.fretnum := hget (by simp) 0
  unfold State.commandEdges
  rw [hgov, hmapped, hmod, hnum, hfret, harm, hedges]

/-- Frames sent after changes of the lane and of fields that bear on none of it. -/
theorem Sends.after {n : Fin 96} {fs : List (List Byte)} {l : List (Fld × Nat)} {r c t : State} (h : Sends n fs l c t) (hc : LaneAlone n l r c)
    (hrate : ∀ e ∈ l, e.1 ≠ .CL_PHYCTRL_RATE) : Sends n fs l r t := by
  obtain ⟨htx, hcut, hend, hothers, hframe, hregs⟩ := h
  refine ⟨htx, hcut, ?_, fun m hm => (hothers m hm).trans (hc.others m hm), ?_, hc.regs.trans hregs⟩
  · rw [hend, hc.tick_eq, State.frameTicks, hc.bit_eq hrate, State.frameTicks]
  · exact hframe.trans (congrArg (fun x : State => { x with lanes := t.lanes, regs := t.regs, free := t.free }) hc.frame)

/-- What a lane does at its CMD slot. -/
def State.command (c : State) (n : Fin 96) : State :=
  let miss := c.countF .CL_FCNT0_MISSCMD n 1
  if !c.ownerOk n then miss.setF .CL_STAT_OWNERR n 1
  else if !c.serving n || !c.commanding then c
  else if c.bit .CL_STAT_MUTED n || c.mstate then miss
  else if (c.lanes[n]).released != some (BitVec.ofNat 32 c.fretnum) then miss
  else match c.commandEdges n with
    | none => miss
    | some es =>
      let fr := c.frame n 2 (commandBody false es (c.lanes[n]).launch.toList)
      (c.sendFrames n [fr]).modLane n (fun l => { l with cmdFret := some (BitVec.ofNat 32 c.fretnum), cmdFrame := fr, retryOff := c.slot n 4 })

theorem commandLaunch_at {n : Fin 96} {s : State} (hon : s.laneOn n = true) (hruns : s.atuRuns = true) :
    exec (.commandLaunch n) s = .next ((s.atCommand n).command n) := by
  have hexec : exec (.commandLaunch n) s = execCommandLaunch n s := rfl
  rw [hexec, execCommandLaunch, hon, hruns, Bool.and_self, if_pos rfl]
  rfl

section
variable {n : Fin 96} {s r c : State} (h : AtCommand n s r c)
include h

omit h in
/-- The LATECONV bits are as they stand at the slot, whatever follows. -/
theorem State.command_late (a : Nat) : (c.command n).bit .ARM_STAT_LATECONV a = c.bit .ARM_STAT_LATECONV a := by
  have hmiss : (c.countF .CL_FCNT0_MISSCMD n 1).bit .ARM_STAT_LATECONV a = c.bit .ARM_STAT_LATECONV a :=
    State.bit_of_getF (State.getF_countF_ne _ _ _ _ (by simp))
  unfold State.command
  dsimp only
  split_ifs
  · exact (State.bit_setF_ne _ _ _ _ (by simp)).trans hmiss
  · rfl
  · exact hmiss
  · exact hmiss
  · split
    · exact hmiss
    · rfl

theorem AtCommand.ownerOk_eq (hv : r.variant = s.variant) : c.ownerOk n = s.ownerOk n := by
  have hvar : c.variant = s.variant := by rw [h.alone.frame]; exact hv
  rw [State.ownerOk, State.ownerOk, State.engOk, State.engOk, h.getF (by simp), hvar]

theorem AtCommand.serving_eq (hr : r.serving n = s.serving n) (hget : ∀ f i, r.getF f i = s.getF f i) : c.serving n = s.serving n := by
  have hruns : c.laneRuns n = r.laneRuns n := (h.alone.bus_eq (fun e he => ⟨lateKeys_ne (by simp) e he, lateKeys_ne (by simp) e he⟩) n).1
  rw [← hr, State.serving, State.serving, hruns, State.laneUp, State.laneUp, State.lstate, State.lstate, h.getF (by simp), h.getF (by simp), hget, hget]

/-- The count of a COMMAND that is missed. -/
theorem AtCommand.missed : let t := c.countF .CL_FCNT0_MISSCMD n 1
    LaneAlone n (lateKeys ++ [(.CL_FCNT0_MISSCMD, n.val)]) r t ∧ t.lanes[n] = { s.lanes[n] with cmdFret := none } ∧
      t.getF .CL_FCNT0_MISSCMD n = min (2 ^ Fld.CL_FCNT0_MISSCMD.width - 1) (s.getF .CL_FCNT0_MISSCMD n + 1) := by
  refine ⟨(h.alone.mono (List.subset_append_left _ _)).setF _ (List.mem_append_right _ (List.mem_singleton.2 rfl)), h.lane, ?_⟩
  rw [State.getF_countF_same, h.getF (by simp)]

end

theorem State.slot_congr {n : Fin 96} {s c : State} (hmem : c.mem = s.mem) (hlost : c.lost = s.lost) (hfretd : c.fretd = s.fretd)
    (hact : c.getF .CL_STAT_ACTIVE n = s.getF .CL_STAT_ACTIVE n) (k : Nat) : c.slot n k = s.slot n k := by
  have hbyte (a : Nat) : c.byte a = s.byte a := by rw [State.byte, State.byte, hmem, hlost]
  rw [State.slot, State.slot, State.slotOf, State.slotOf, hfretd, hact]
  simp only [State.half, State.bytes, hbyte]

/-- A COMMAND that is sent, with what the lane keeps of it (R224, R241). -/
theorem State.command_sends {n : Fin 96} {s c : State} (h : AtCommand n s (s.raiseAngle (s.slot n 2)) c) {es : List Word} (howner : c.ownerOk n = true)
    (hserv : c.serving n = true) (hcom : c.commanding = true) (hmuted : c.bit .CL_STAT_MUTED n = false) (hms : c.mstate = false)
    (hrel : (c.lanes[n]).released = some (BitVec.ofNat 32 c.fretnum)) (hedges : c.commandEdges n = some es) : let t := c.command n
    let fr := (s.raiseAngle (s.slot n 2)).frame n 2 (commandBody false es (s.lanes[n]).launch.toList)
    Sends n [fr] lateKeys (s.raiseAngle (s.slot n 2)) t ∧ (t.lanes[n]).cmdFret = some (BitVec.ofNat 32 s.fretnum) ∧ (t.lanes[n]).cmdFrame = fr ∧
      (t.lanes[n]).retryOff = s.slot n 4 := by
  intro t fr
  have hfr : c.frame n 2 (commandBody false es (c.lanes[n]).launch.toList) = fr := by
    rw [h.lane]
    simp only [State.frame, h.getF (f := .CLG_EPOCH_EPOCH) (by simp), h.getF (f := .CL_CFG_CELLID) (by simp), State.fretnum,
      h.getF (f := .ATU_FRETNUM_FRETNUM) (by simp), fr, State.raiseAngle_getF]
  have hslot : c.slot n 4 = s.slot n 4 := by
    have hframe := h.alone.frame
    rw [s.raiseAngle_frame (s.slot n 2)] at hframe
    exact State.slot_congr (by rw [hframe]) (by rw [hframe]) (by rw [hframe]) (h.getF (by simp) n) 4
  have heq : t = (c.sendFrames n [fr]).modLane n fun l => { l with cmdFret := some (BitVec.ofNat 32 s.fretnum), cmdFrame := fr, retryOff := s.slot n 4 } := by
    unfold t State.command
    dsimp only
    rw [howner, hserv, hcom, hmuted, hms, hrel, hedges]
    simp only [Bool.not_true, Bool.or_self, Bool.false_eq_true, if_false, bne_self_eq_false]
    rw [hfr, hslot, h.fretnum_eq]
  obtain ⟨hsends, -, hlane⟩ := State.sendFrames_spec c n [fr]
    (fun l => { l with cmdFret := some (BitVec.ofNat 32 s.fretnum), cmdFrame := fr, retryOff := s.slot n 4 }) (fun _ => ⟨rfl, rfl, rfl⟩) lateKeys
  rw [← heq] at hsends hlane
  refine ⟨Sends.after hsends h.alone (lateKeys_ne (by simp)), ?_, ?_, ?_⟩
  · rw [hlane]
  · rw [hlane]
  · rw [hlane]

/-- The claims on the CMD slot. -/
theorem commandSlot (n : Fin 96) (s : State) (hon : s.laneOn n = true) (hruns : s.atuRuns = true) : let r := atOffset s (s.slot n 2)
    let l := s.lanes[n]
    let free := s.bit .CL_STAT_MUTED n = false ∧ s.mstate = false
    let count := fun (f : Fld) => min (2 ^ f.width - 1) (s.getF f n + 1)
    let cleared := fun (t : State) => t = { r with regs := t.regs, lanes := t.lanes } ∧ t.lanes[n] = { l with cmdFret := none } ∧
      ∀ m : Fin 96, m ≠ n → t.lanes[m] = s.lanes[m]
    let missed := fun (t : State) => cleared t ∧ t.getF .CL_FCNT0_MISSCMD n = count .CL_FCNT0_MISSCMD
    Answers (.commandLaunch n) s (fun t => ∀ k : Fin 6, t.bit .ARM_STAT_LATECONV k =
      (s.bit .ARM_STAT_LATECONV k || ((s.governors n).contains k.val && (s.arms[k]).conv.isSome))) ∧
    (s.ownerOk n = false → Answers (.commandLaunch n) s (fun t => missed t ∧ t.bit .CL_STAT_OWNERR n = true ∧
      RegsBut s t (lateKeys ++ [(.CL_FCNT0_MISSCMD, n.val), (.CL_STAT_OWNERR, n.val)]))) ∧
    (s.ownerOk n = true → (s.serving n = false ∨ s.commanding = false) → Answers (.commandLaunch n) s (fun t => cleared t ∧ RegsBut s t lateKeys)) ∧
    (s.ownerOk n = true → s.serving n = true → s.commanding = true →
      (¬free ∨ l.released ≠ some (BitVec.ofNat 32 s.fretnum) ∨ r.commandEdges n = none) → Answers (.commandLaunch n) s (fun t =>
        missed t ∧ RegsBut s t (lateKeys ++ [(.CL_FCNT0_MISSCMD, n.val)]))) ∧
    (∀ es, s.ownerOk n = true → s.serving n = true → s.commanding = true → free → l.released = some (BitVec.ofNat 32 s.fretnum) →
      r.commandEdges n = some es → Answers (.commandLaunch n) s (fun t => Sends n [r.frame n 2 (commandBody false es l.launch.toList)] lateKeys r t ∧
        (t.lanes[n]).cmdFret = some (BitVec.ofNat 32 s.fretnum) ∧ (t.lanes[n]).cmdFrame = r.frame n 2 (commandBody false es l.launch.toList) ∧
        (t.lanes[n]).retryOff = s.slot n 4)) := by
  intro r l free count cleared missed
  have hexec := commandLaunch_at hon hruns
  have h := s.atCommand_spec n
  generalize s.atCommand n = c at hexec h
  have hrget : ∀ f i, r.getF f i = s.getF f i := s.raiseAngle_getF _
  have hrl : r.lanes = s.lanes := s.raiseAngle_lanes _
  have howner : c.ownerOk n = s.ownerOk n := h.ownerOk_eq (by rw [s.raiseAngle_frame])
  have hserving : c.serving n = s.serving n := h.serving_eq (s.raiseAngle_serving _ n) hrget
  have hmuted : c.bit .CL_STAT_MUTED n = s.bit .CL_STAT_MUTED n := h.bit (by simp) n
  have hms : c.mstate = s.mstate := h.bit (by simp) 0
  have hreg {t : State} {k : List (Fld × Nat)} (ht : RegsBut r t k) : RegsBut s t k := fun f i hi => (ht f i hi).trans (hrget f i)
  have hedges : c.commandEdges n = r.commandEdges n := State.commandEdges_congr (fun hf i => (h.getF hf i).trans (hrget _ _).symm)
    (by rw [h.lane, hrl]) (by rw [h.lane, hrl]) (by rw [h.lane, hrl])
  have hreleased : (c.lanes[n]).released = l.released := by rw [h.lane]
  have hcleared {t : State} {k : List (Fld × Nat)} (ht : LaneAlone n k r t) (hl : t.lanes[n] = { l with cmdFret := none }) : cleared t :=
    ⟨ht.frame, hl, fun m hm => (ht.others m hm).trans (by rw [hrl])⟩
  obtain ⟨hmiss, hmissl, hcount⟩ := h.missed
  have hmissed : missed (c.countF .CL_FCNT0_MISSCMD n 1) := ⟨hcleared hmiss hmissl, hcount⟩
  refine ⟨⟨_, hexec, fun k => (State.command_late k).trans (h.late k)⟩, fun hno => ?_, fun hok hidle => ?_, fun hok hserv hcom hway => ?_,
    fun es hok hserv hcom hfree hrel hes => ?_⟩
  · refine ⟨_, hexec, ?_⟩
    have hcmd : c.command n = (c.countF .CL_FCNT0_MISSCMD n 1).setF .CL_STAT_OWNERR n 1 := by
      rw [State.command, howner, hno]
      rfl
    have halone := (hmiss.mono (l' := lateKeys ++ [(.CL_FCNT0_MISSCMD, n.val), (.CL_STAT_OWNERR, n.val)]) (by simp)).setF (f := .CL_STAT_OWNERR) (i := n) 1 (by simp)
    rw [hcmd]
    refine ⟨⟨hcleared halone hmissl, (State.getF_setF_ne _ _ _ _ (by simp)).trans hcount⟩, ?_, hreg halone.regs⟩
    rw [State.bit_setF_same]
    exact beq_iff_eq.2 (Nat.mod_eq_of_lt (Fld.one_lt _))
  · refine ⟨_, hexec, ?_⟩
    have hcmd : c.command n = c := by
      unfold State.command
      dsimp only
      rw [howner, hserving, h.commanding_eq, hok]
      rcases hidle with h0 | h0 <;> simp [h0]
    rw [hcmd]
    exact ⟨hcleared h.alone h.lane, hreg h.alone.regs⟩
  · refine ⟨_, hexec, ?_⟩
    have hcmd : c.command n = c.countF .CL_FCNT0_MISSCMD n 1 := by
      unfold State.command
      dsimp only
      rw [howner, hserving, h.commanding_eq, hok, hserv, hcom, hmuted, hms, hreleased, h.fretnum_eq, hedges]
      simp only [Bool.not_true, Bool.or_self, Bool.false_eq_true, if_false]
      split_ifs with h1 h2
      · rfl
      · rfl
      · have hnone : r.commandEdges n = none := by
          rcases hway with hf | hr | he
          · exact absurd (by simpa [free] using h1) hf
          · exact absurd (by simpa using h2) hr
          · exact he
        rw [hnone]
    rw [hcmd]
    exact ⟨hmissed, hreg hmiss.regs⟩
  · obtain ⟨hm, hs⟩ := hfree
    exact ⟨_, hexec, State.command_sends h (howner.trans hok) (hserving.trans hserv) (h.commanding_eq.trans hcom) (hmuted.trans hm) (hms.trans hs)
      (by rw [hreleased, h.fretnum_eq]; exact hrel) (hedges.trans hes)⟩

/-! The retry (R241). -/

theorem Sends.setF {n : Fin 96} {fs : List (List Byte)} {l : List (Fld × Nat)} {r t : State} (h : Sends n fs l r t) {f : Fld} {i : Nat} (v : Nat)
    (hm : (f, i) ∈ l) : Sends n fs l r (t.setF f i v) := by
  obtain ⟨htx, hcut, hend, hothers, hframe, hregs⟩ := h
  exact ⟨htx, hcut, hend, hothers, congrArg (fun x : State => x.setF f i v) hframe, hregs.setF v hm⟩

/-- What a lane that has sent its COMMAND does at its RETRY slot. -/
def State.retry (q : State) (n : Fin 96) (off : Nat) : State :=
  let a := q.ackInTime n off
  if !q.commanding || q.bit .CL_STAT_MUTED n || q.mstate || !q.bit .CL_CTRL_RETRYEN n then q
  else if a == none || a == some 1 || a == some 2 then
    if q.retryLate n off then q.countF .CL_FCNT0_RETRYLATE n 1
    else ((q.sendFrames n [retryFrame (q.lanes[n]).cmdFrame]).modLane n (fun l => { l with cmdFret := none })).countF .CL_FCNT0_RETRY n 1
  else q

theorem retryLaunch_at {n : Fin 96} {s : State} (hserv : s.serving n = true) (hruns : s.atuRuns = true)
    (hsent : (s.lanes[n]).cmdFret = some (BitVec.ofNat 32 s.fretnum)) :
    exec (.retryLaunch n) s = .next ((s.raiseAngle (s.lanes[n]).retryOff).retry n (s.lanes[n]).retryOff) := by
  have hexec : exec (.retryLaunch n) s = execRetryLaunch n s := rfl
  have hb : ((s.lanes[n]).cmdFret == some (BitVec.ofNat 32 s.fretnum)) = true := beq_iff_eq.2 hsent
  rw [hexec, execRetryLaunch, hserv, hruns, Bool.and_self, if_pos rfl]
  dsimp only
  rw [hb]
  simp only [Bool.not_true, Bool.false_or, if_true]
  rw [State.retry, s.raiseAngle_lanes]
  rfl

/-- The claims on the RETRY slot. -/
theorem retrySlot (n : Fin 96) (s : State) (hserv : s.serving n = true) (hruns : s.atuRuns = true)
    (hsent : (s.lanes[n]).cmdFret = some (BitVec.ofNat 32 s.fretnum)) : let l := s.lanes[n]
    let free := s.bit .CL_STAT_MUTED n = false ∧ s.mstate = false
    let count := fun (f : Fld) => min (2 ^ f.width - 1) (s.getF f n + 1)
    let q := atOffset s l.retryOff
    let a := q.ackInTime n l.retryOff
    (s.commanding = true → free → s.bit .CL_CTRL_RETRYEN n = true → (a = none ∨ a = some 1 ∨ a = some 2) →
      (q.retryLate n l.retryOff = false → Answers (.retryLaunch n) s (fun t => Sends n [retryFrame l.cmdFrame] [(.CL_FCNT0_RETRY, n)] q t ∧
        (t.lanes[n]).cmdFret = none ∧ t.getF .CL_FCNT0_RETRY n = count .CL_FCNT0_RETRY)) ∧
      (q.retryLate n l.retryOff = true → SetsOn (.retryLaunch n) s q [(.CL_FCNT0_RETRYLATE, n, count .CL_FCNT0_RETRYLATE)])) ∧
    (∀ st, a = some st → st ≠ 1 → st ≠ 2 → Answers (.retryLaunch n) s (fun t => t = q)) ∧
    (s.bit .CL_CTRL_RETRYEN n = false → Answers (.retryLaunch n) s (fun t => t = q)) := by
  intro l free count q a
  have hexec : exec (.retryLaunch n) s = .next (q.retry n l.retryOff) := retryLaunch_at hserv hruns hsent
  have hget : ∀ f i, q.getF f i = s.getF f i := s.raiseAngle_getF _
  have hbit : ∀ f i, q.bit f i = s.bit f i := s.raiseAngle_bit _
  have hlane : q.lanes[n] = l := congrArg (fun v : Vector LaneSt 96 => v[n]) (s.raiseAngle_lanes _)
  have hregs : q.regs = s.regs := s.raiseAngle_regs _
  have hcom : q.commanding = s.commanding := by rw [State.commanding, State.commanding, hget]
  have hms : q.mstate = s.mstate := hbit _ _
  have hkeep (h : (a == none || a == some 1 || a == some 2) = false ∨ s.bit .CL_CTRL_RETRYEN n = false) : q.retry n l.retryOff = q := by
    unfold State.retry
    dsimp only
    rcases h with h | h
    · rw [h, if_neg (show ¬false = true by decide), ite_self]
    · rw [if_pos (by rw [hbit .CL_CTRL_RETRYEN, h]; simp)]
  refine ⟨fun hc ⟨hm, hf⟩ hen ha => ?_, fun st ha h1 h2 => ⟨_, hexec, hkeep (.inl ?_)⟩, fun hen => ⟨_, hexec, hkeep (.inr hen)⟩⟩
  · have hway : (a == none || a == some 1 || a == some 2) = true := by
      rcases ha with ha | ha | ha <;> rw [ha] <;> rfl
    have hretry : q.retry n l.retryOff = if q.retryLate n l.retryOff then q.countF .CL_FCNT0_RETRYLATE n 1
        else ((q.sendFrames n [retryFrame l.cmdFrame]).modLane n (fun l => { l with cmdFret := none })).countF .CL_FCNT0_RETRY n 1 := by
      unfold State.retry
      dsimp only
      rw [hway, hcom, hms, hbit, hbit, hc, hm, hf, hen, hlane]
      rfl
    rw [hretry] at hexec
    refine ⟨fun hlate => ?_, fun hlate => ?_⟩
    · rw [if_neg (by rw [hlate]; decide)] at hexec
      obtain ⟨hsends, -, hl⟩ := State.sendFrames_spec q n [retryFrame l.cmdFrame] (fun l => { l with cmdFret := none }) (fun _ => ⟨rfl, rfl, rfl⟩)
        [(.CL_FCNT0_RETRY, n.val)]
      refine ⟨_, hexec, Sends.setF hsends _ (List.mem_singleton.2 rfl), ?_, ?_⟩
      · change (((q.sendFrames n [retryFrame l.cmdFrame]).modLane n fun l => { l with cmdFret := none }).lanes[n]).cmdFret = none
        rw [hl]
      · rw [State.getF_countF_same]
        change min _ (q.getF _ _ + 1) = _
        rw [hget]
    · rw [if_pos hlate] at hexec
      refine SetsOn.of_setAll (l := [(.CL_FCNT0_RETRYLATE, n.val, count .CL_FCNT0_RETRYLATE)]) ?_ (List.nodup_singleton _) ?_ hregs
      · rw [hexec, State.countF, hget]
        rfl
      · exact List.forall_mem_singleton.2 ((Nat.min_le_left _ _).trans_lt (Nat.sub_lt (Nat.two_pow_pos _) Nat.one_pos))
  · rw [ha]
    simp [h1, h2]

end Sys2Proof.Machine
end

section
/-! Nothing at a fret boundary but its own step counts a COMMAND without an ACK (R241). -/
namespace Sys2Proof.Machine

-- The proofs one after another: all at once they would need more threads, and their stacks, than the check's memory holds.
set_option Elab.async false

/-- The counts of COMMANDs without an ACK, lane by lane, in a register store. -/
def NoackRegs (cnt : Nat → Nat) (regs : List (Nat × Nat)) : Prop :=
  ∀ n, Store.get regs (Fld.CL_FCNT0_NOACK.key n) Fld.CL_FCNT0_NOACK.spec.rst = cnt n

/-- The counts of COMMANDs without an ACK are `cnt`. -/
def NoackIs (cnt : Nat → Nat) (s : State) : Prop := NoackRegs cnt s.regs

section
variable {cnt : Nat → Nat} {s : State} (hs : NoackIs cnt s)
include hs

theorem NoackIs.setF {f : Fld} {i v : Nat} (hf : (f == .CL_FCNT0_NOACK) = false := by rfl) : NoackIs cnt (s.setF f i v) := fun n =>
  (s.getF_setF_ne i n v (beq_eq_false_iff_ne.1 hf).symm).trans (hs n)

theorem NoackIs.upd {t : State} (hr : t.regs = s.regs := by rfl) : NoackIs cnt t := by
  rw [NoackIs, hr]
  exact hs

omit hs in
theorem NoackIs.ite {c : Prop} [Decidable c] {x y : State} (hx : NoackIs cnt x) (hy : NoackIs cnt y) : NoackIs cnt (if c then x else y) := by
  split
  · exact hx
  · exact hy

theorem NoackIs.foldl {α : Type} {f : State → α → State} {l : List α} (hf : ∀ t x, NoackIs cnt t → NoackIs cnt (f t x)) : NoackIs cnt (l.foldl f s) :=
  List.foldlRecOn (motive := NoackIs cnt) l f hs fun t ht x _ => hf t x ht

theorem NoackIs.forIdx {n : Nat} {f : Fin n → State → State} (hf : ∀ t i, NoackIs cnt t → NoackIs cnt (f i t)) : NoackIs cnt (forIdx f s) :=
  hs.foldl fun t i => hf t i

theorem NoackIs.setBit {f i b} (hf : (f == .CL_FCNT0_NOACK) = false := by rfl) : NoackIs cnt (s.setBit f i b) := .setF hs hf

theorem NoackIs.setWhen {c f i v} (hf : (f == .CL_FCNT0_NOACK) = false := by rfl) : NoackIs cnt (s.setWhen c f i v) := .ite (.setF hs hf) hs

theorem NoackIs.countF {f i k} (hf : (f == .CL_FCNT0_NOACK) = false := by rfl) : NoackIs cnt (s.countF f i k) := .setF hs hf

theorem NoackIs.draw : NoackIs cnt s.draw.2 := hs

theorem NoackIs.modCe {n f} : NoackIs cnt (s.modCe n f) := hs

theorem NoackIs.queueMir {f} : NoackIs cnt (s.queueMir f) := hs

theorem NoackIs.spend {k} : NoackIs cnt (s.spend k) := hs

theorem NoackIs.addAngle {x} : NoackIs cnt (s.addAngle x) := by
  unfold State.addAngle
  refine ?_
  exact hs

theorem NoackIs.toggleBank {n} : NoackIs cnt (s.toggleBank n) := .modCe (.setF (.forIdx hs fun _ _ ht => .setF ht))

theorem NoackIs.actSwap : NoackIs cnt (s.actSwap) := by
  unfold State.actSwap
  extract_lets s0 _ s1 mask _ s2
  have h1 : NoackIs cnt s0 := .foldl hs fun _ _ ht => .toggleBank ht
  have h2 : NoackIs cnt s1 := h1
  have h3 : NoackIs cnt s2 := h2
  exact .setF (.setF (.setF h3))

theorem NoackIs.actOffDone : NoackIs cnt (s.actOffDone) := .ite (.actSwap hs) hs

theorem NoackIs.endTask {n cyc} : NoackIs cnt (s.endTask n cyc) := .actOffDone (.modCe (.setWhen (.setWhen (.setF (.setF (.setBit hs))))))

theorem NoackIs.armCheck {a} : NoackIs cnt (s.armCheck a) := .setWhen hs

theorem NoackIs.overrunEnd {n} : NoackIs cnt (s.overrunEnd n) := .endTask (.setF hs)

theorem NoackIs.overrunCheck {n} : NoackIs cnt (s.overrunCheck n) := .ite (.ite (.modCe hs) (.overrunEnd hs)) hs

theorem NoackIs.activate : NoackIs cnt (s.activate) := .actSwap (.foldl (.setF hs) fun _ _ ht => .ite (.overrunEnd ht) ht)

theorem NoackIs.actBoundary : NoackIs cnt (s.actBoundary) := .ite (.activate hs) hs

theorem NoackIs.clgSwapNow : NoackIs cnt (s.clgSwapNow) := .setF (.setF (.setF (.foldl hs fun _ _ ht => .setF ht)))

theorem NoackIs.clgBoundary : NoackIs cnt (s.clgBoundary) := .ite (.clgSwapNow hs) hs

theorem NoackIs.modAdc {m f} : NoackIs cnt (s.modAdc m f) := hs

theorem NoackIs.scanEnd {m} : NoackIs cnt (s.scanEnd m) := by
  unfold State.scanEnd
  split
  · exact .ite (.setF (.modAdc hs)) hs
  · exact hs

theorem NoackIs.adcNext {m} : NoackIs cnt (s.adcNext m) := by
  unfold State.adcNext
  refine .ite ?_ ?_
  · exact hs
  · extract_lets s1
    have h1 : NoackIs cnt s1 := .scanEnd hs
    split
    · exact .modAdc h1
    · split
      · exact .modAdc h1
      · exact h1
    · exact h1

theorem NoackIs.atuSample {x angle code} : NoackIs cnt (s.atuSample x angle code) := by
  unfold State.atuSample
  refine .ite hs (.ite ?_ ?_)
  exact hs
  exact hs

theorem NoackIs.atuRequest {x} : NoackIs cnt (s.atuRequest x) := by
  unfold State.atuRequest
  refine .ite (.adcNext (.modAdc hs)) (.atuSample ?_)
  exact hs

theorem NoackIs.atuConversions : NoackIs cnt (s.atuConversions) := by
  unfold State.atuConversions
  refine .ite ?_ (.foldl ?_ fun _ _ ht => .atuRequest ht)
  exact hs
  exact hs

theorem NoackIs.sourceLost : NoackIs cnt (s.sourceLost) := by
  unfold State.sourceLost
  refine .ite (.setF (.setF (.setF (.setF (.setWhen ?_))))) hs
  exact hs

theorem NoackIs.sourceCheck : NoackIs cnt (s.sourceCheck) := .ite (.sourceLost (.setWhen hs)) (.setWhen hs)

theorem NoackIs.showPherr {v} : NoackIs cnt (s.showPherr v) := .setF hs

theorem NoackIs.slewBegin {v} : NoackIs cnt (s.slewBegin v) := .ite hs (.setF (.setF (.showPherr hs)))

theorem NoackIs.followTwin : NoackIs cnt (s.followTwin) := by
  unfold State.followTwin
  refine .setF ?_
  exact hs

theorem NoackIs.leaveFollow : NoackIs cnt (s.leaveFollow) := by
  unfold State.leaveFollow
  refine .ite (.ite ?_ (.slewBegin ?_)) hs
  exact hs
  exact hs

theorem NoackIs.fretSwapNow : NoackIs cnt (s.fretSwapNow) := .setF (.setF (.setF (.setF hs)))

theorem NoackIs.fretOffCheck : NoackIs cnt (s.fretOffCheck) := .ite (.fretSwapNow hs) hs

theorem NoackIs.fretSwapBoundary : NoackIs cnt (s.fretSwapBoundary) := .ite (.fretSwapNow hs) hs

theorem NoackIs.fretReachOff : NoackIs cnt (s.fretReachOff) := by
  unfold State.fretReachOff
  refine .fretOffCheck (.setF ?_)
  exact hs

theorem NoackIs.modTwin {f} : NoackIs cnt (s.modTwin f) := hs

theorem NoackIs.setRole {r} : NoackIs cnt (s.setRole r) := .setWhen (.setBit (.setF hs))

theorem NoackIs.startReplay : NoackIs cnt (s.startReplay) := by
  unfold State.startReplay
  refine .setF ?_
  exact hs

theorem NoackIs.enterSolo : NoackIs cnt (s.enterSolo) := .setF (.setF (.modTwin hs))

theorem NoackIs.becomeActive : NoackIs cnt (s.becomeActive) := .enterSolo (.startReplay (.modTwin (.setF (.setRole (.leaveFollow hs)))))

theorem NoackIs.takeOver : NoackIs cnt (s.takeOver) := .setF (.setF (.setF (.becomeActive hs)))

theorem NoackIs.takeoverCheck : NoackIs cnt (s.takeoverCheck) := .ite (.ite (.takeOver hs) (.setF hs)) hs

theorem NoackIs.yieldCheck : NoackIs cnt (s.yieldCheck) := by
  unfold State.yieldCheck
  refine .ite ?_ ?_
  · extract_lets s1
    have h1 : NoackIs cnt s1 := .modTwin (.setF (.setRole hs))
    exact h1
  · exact hs

theorem NoackIs.handoverStep : NoackIs cnt (s.handoverStep) := .ite (.setF (.followTwin (.setRole hs))) (.ite (.takeOver hs) hs)

theorem NoackIs.loadPlanner {h start} : NoackIs cnt (s.loadPlanner h start) := by
  unfold State.loadPlanner
  refine .forIdx ?_ fun _ _ ht => .setF ht
  exact hs

theorem NoackIs.heartbeatMissed : NoackIs cnt (s.heartbeatMissed) := .modTwin (.setF (.countF (.setF hs)))

theorem NoackIs.heartbeatStep {k} : NoackIs cnt (s.heartbeatStep k) := by
  unfold State.heartbeatStep
  extract_lets later
  split
  · have h2 : NoackIs cnt ((s.setF .MIR_STAT_HBMISS 0 0).setF .MIR_STAT_TKBLK 0 0) := .setF (.setF hs)
    refine .ite (.setRole (.ite (.setF (.loadPlanner (.modTwin (.setBit h2)))) (.modTwin (.setBit h2)))) ?_
    exact .ite (.setF (.loadPlanner (.modTwin (.setBit h2)))) (.modTwin (.setBit h2))
  · exact .modTwin (.heartbeatMissed hs)

theorem NoackIs.samplePwm : NoackIs cnt (s.samplePwm) := .modTwin hs

theorem NoackIs.quietStep : NoackIs cnt (s.quietStep) := .samplePwm (.modTwin hs)

theorem NoackIs.soloStep : NoackIs cnt (s.soloStep) := .ite (.enterSolo hs) hs

theorem NoackIs.delayStep : NoackIs cnt (s.delayStep) := .ite (.queueMir hs) hs

theorem NoackIs.latchTwin : NoackIs cnt s.latchTwin := by
  unfold State.latchTwin
  extract_lets s0
  have h1 : NoackIs cnt s0 := by
    unfold s0
    split
    · exact .modTwin (.setF hs)
    · exact hs
  exact .setF (.setF (.setF (.setF h1)))

theorem NoackIs.twinBoundary {k} : NoackIs cnt (s.twinBoundary k) := by
  unfold State.twinBoundary
  refine .ite ?_ ?_
  · exact .latchTwin (.quietStep hs)
  · exact .latchTwin (.delayStep (.soloStep (.yieldCheck (.quietStep (.handoverStep (.takeoverCheck (.heartbeatStep hs)))))))

theorem NoackIs.stepTrackers : NoackIs cnt (s.stepTrackers) := by
  unfold State.stepTrackers
  refine ?_
  exact hs

theorem NoackIs.autoFreeStep : NoackIs cnt (s.autoFreeStep) := by
  unfold State.autoFreeStep
  split
  · refine .setF (.setF (.setF (.setF (.setF (.setF ?_)))))
    exact hs
  · exact hs

theorem NoackIs.handoverSrc : NoackIs cnt s.handoverSrc := by
  unfold State.handoverSrc
  split
  · exact hs
  · rename_i v _
    extract_lets _ s1 s2 _ s3
    have h0 : NoackIs cnt { s with atu := { s.atu with handover := none } } := hs
    have h1 : NoackIs cnt s1 := .setF h0
    have h2 : NoackIs cnt s2 := .setF (.setF (.setF h1))
    clear_value s2
    exact .ite h1 (.ite (.setF h2) (.slewBegin (.upd h2)))

theorem NoackIs.pherrStep : NoackIs cnt (s.pherrStep) := .ite (.setF (.draw hs)) (.showPherr hs)

theorem NoackIs.wordStep : NoackIs cnt s.wordStep := by
  unfold State.wordStep
  extract_lets s1 e f _ s2
  have h1 : NoackIs cnt s1 := .pherrStep (.stepTrackers hs)
  refine .ite ?_ (.ite (.upd (s := s1.setF .ATU_FREQ_FREQ 0 f) (.setF h1)) (.ite h1 (.setF (.upd h1))))
  split
  · exact .setF (.draw h1)
  · exact h1

theorem NoackIs.lockStep : NoackIs cnt (s.lockStep) := by
  unfold State.lockStep
  refine .setBit ?_
  exact hs

theorem NoackIs.sourceStep : NoackIs cnt (s.sourceStep) := .lockStep (.sourceCheck (.handoverSrc (.autoFreeStep (.wordStep hs))))

theorem NoackIs.fpcWrap : NoackIs cnt (s.fpcWrap) := .ite (.setF (.setF hs)) hs

theorem NoackIs.stepFret : NoackIs cnt s.stepFret := by
  unfold State.stepFret
  extract_lets thr f k rest s1 res s2
  have h1 : NoackIs cnt s1 := .spend hs
  exact .addAngle (.fpcWrap (.setF (.setF (.upd h1))))

theorem NoackIs.swapStep : NoackIs cnt (s.swapStep) := .actBoundary (.clgBoundary (.fretSwapBoundary hs))

theorem NoackIs.flipRx : NoackIs cnt (s.flipRx) := hs

theorem NoackIs.queueTb : NoackIs cnt (s.queueTb) := hs

theorem NoackIs.dispatchStep : NoackIs cnt (s.dispatchStep) := by
  unfold State.dispatchStep
  extract_lets s1 c r
  have h1 : NoackIs cnt s1 := .ite (.fretReachOff hs) hs
  exact h1

theorem NoackIs.boundaryChecks : NoackIs cnt (s.boundaryChecks) :=
  .setF (.forIdx (.forIdx hs fun _ _ ht => .overrunCheck ht) fun _ _ ht => .ite (.armCheck ht) ht)

theorem NoackIs.boundarySteps {k} : NoackIs cnt (s.boundarySteps k) :=
  .atuConversions (.dispatchStep (.queueTb (.twinBoundary (.flipRx (.swapStep (.boundaryChecks hs))))))

end

/-! The step that counts. -/

/-- The fields of the boundary's first step. -/
def stepKeys : List (Fld × Nat) := [(.ATU_FRETNUM_FRETNUM, 0), (.ATU_BT_CNS_BTCNS, 0), (.ATU_CFG_FPCSEL, 0), (.ATU_STAT_FPCPEND, 0)]

/-- Nothing but register fields, the time and the angle changes. -/
def StepFrame (s t : State) : Prop := t = { s with regs := t.regs, tick := t.tick, carrier := t.carrier, clock := t.clock, atu := t.atu }

theorem StepFrame.trans {s t u : State} (h : StepFrame s t) (h' : StepFrame t u) : StepFrame s u :=
  Eq.trans h' (congrArg (fun x : State => { x with regs := u.regs, tick := u.tick, carrier := u.carrier, clock := u.clock, atu := u.atu }) h)

theorem StepFrame.setF (s : State) (f : Fld) (i v : Nat) : StepFrame s (s.setF f i v) := rfl

theorem StepFrame.addAngle (s : State) (x : Nat) : StepFrame s (s.addAngle x) := rfl

theorem StepFrame.fpcWrap (s : State) : StepFrame s s.fpcWrap := by
  unfold State.fpcWrap
  split_ifs <;> rfl

theorem State.fpcWrap_regsBut (s : State) : RegsBut s s.fpcWrap stepKeys := by
  unfold State.fpcWrap
  split_ifs
  · exact ((RegsBut.refl s _).setF _ (by simp [stepKeys])).setF _ (by simp [stepKeys])
  · exact .refl s _

theorem State.stepFret_spec (s : State) : StepFrame s s.stepFret ∧ RegsBut s s.stepFret stepKeys := by
  unfold State.stepFret
  extract_lets thr f k rest s1 res _ s2
  have h2f : StepFrame s s2 := rfl
  have h2r : RegsBut s s2 stepKeys := .refl s _
  clear_value s2
  exact ⟨(((h2f.trans (.setF _ _ _ _)).trans (.setF _ _ _ _)).trans (.fpcWrap _)).trans (.addAngle _ _),
    ((h2r.setF _ (by simp [stepKeys])).setF _ (by simp [stepKeys])).trans (State.fpcWrap_regsBut _)⟩

/-- The lanes whose fret ended without an ACK (R241). -/
def State.unacked (s : State) (ended : Nat) (n : Fin 96) : Bool := s.serving n && ((s.lanes[n]).ack.map Prod.fst) != some ended

/-- The counts of COMMANDs without an ACK. -/
def noackKeys : List (Fld × Nat) := (List.range 96).map (fun n => (Fld.CL_FCNT0_NOACK, n))

theorem noackKeys_ne {f : Fld} (h : f ≠ .CL_FCNT0_NOACK) : ∀ e ∈ noackKeys, e.1 ≠ f := by
  intro e he
  obtain ⟨a, -, rfl⟩ := List.mem_map.1 he
  exact h.symm

theorem State.serving_congr {s t : State} {n : Fin 96} (hv : t.variant = s.variant) (hq : t.quadFeed = s.quadFeed) (hp : t.pmc = s.pmc)
    (hget : ∀ f ∈ [Fld.PMC_PDSTAT_PWR, .PMC_STAGE_STAGE, .CL_PHYSTAT_LSTATE, .CL_STAT_ENST], ∀ i, t.getF f i = s.getF f i) : t.serving n = s.serving n := by
  simp only [State.serving, State.laneRuns, State.laneLive, State.laneOk, State.powered, State.testF, State.aonRuns, State.quadsRun, State.awake, State.laneUp,
    State.lstate, hv, hq, hp, hget .PMC_PDSTAT_PWR (by simp), hget .PMC_STAGE_STAGE (by simp), hget .CL_PHYSTAT_LSTATE (by simp),
    hget .CL_STAT_ENST (by simp)]

theorem State.noackStep_spec (s : State) (ended : Nat) (n : Fin 96) : (s.noackStep ended).getF .CL_FCNT0_NOACK n =
    if s.unacked ended n then min (2 ^ Fld.CL_FCNT0_NOACK.width - 1) (s.getF .CL_FCNT0_NOACK n + 1) else s.getF .CL_FCNT0_NOACK n := by
  refine (forIdx_each (s := s) (fun n t => t.getF .CL_FCNT0_NOACK n) (fun t => OnlyRegs s t noackKeys)
    (fun n x => x = if s.unacked ended n then min (2 ^ Fld.CL_FCNT0_NOACK.width - 1) (s.getF .CL_FCNT0_NOACK n + 1) else s.getF .CL_FCNT0_NOACK n)
    (.refl s _) fun t m ht hsame => ?_).2 n
  have hun : t.unacked ended m = s.unacked ended m := by
    have hl : t.lanes = s.lanes := by rw [ht.1]
    rw [State.unacked, State.unacked, hl, State.serving_congr (by rw [ht.1]) (by rw [ht.1]) (by rw [ht.1]) fun f hf i => ht.getF_eq (noackKeys_ne ?_) i]
    simp only [List.mem_cons, List.not_mem_nil, or_false] at hf
    rcases hf with rfl | rfl | rfl | rfl <;> simp
  have hstep : (if t.serving m && ((t.lanes[m]).ack.map Prod.fst) != some ended then t.countF .CL_FCNT0_NOACK m 1 else t) =
    if t.unacked ended m then t.countF .CL_FCNT0_NOACK m 1 else t := rfl
  rw [hstep, hun]
  split_ifs
  · exact ⟨ht.setF _ (List.mem_map.2 ⟨m, List.mem_range.2 m.isLt, rfl⟩), (State.getF_countF_same _ _ _ _).trans (by rw [hsame]),
      fun k hk => t.getF_setF_fin _ (by decide) hk _⟩
  · exact ⟨ht, hsame, fun _ _ => rfl⟩

/-- The claim on the boundary. -/
theorem fretBoundary_noack (n : Fin 96) (s : State) (hruns : s.atuRuns = true) : Answers .fretBoundary s (fun t => t.getF .CL_FCNT0_NOACK n =
    if s.serving n = true ∧ (s.lanes[n]).ack.map Prod.fst ≠ some s.fretnum then min (2 ^ Fld.CL_FCNT0_NOACK.width - 1) (s.getF .CL_FCNT0_NOACK n + 1)
    else s.getF .CL_FCNT0_NOACK n) := by
  have hexec : exec .fretBoundary s = .next s.fretBoundary := by
    have hexec : exec .fretBoundary s = execFretBoundary s := rfl
    rw [hexec, execFretBoundary, if_pos hruns]
  have hkept : NoackIs (fun m => (s.stepFret.noackStep s.fretnum).getF .CL_FCNT0_NOACK m) s.fretBoundary :=
    NoackIs.boundarySteps (.sourceStep fun _ => rfl)
  have hfirst : NoackIs (fun m => s.getF .CL_FCNT0_NOACK m) s.stepFret := NoackIs.stepFret fun _ => rfl
  obtain ⟨hf, hr⟩ := s.stepFret_spec
  rw [StepFrame] at hf
  have hserving : s.stepFret.serving n = s.serving n := State.serving_congr (by rw [hf]) (by rw [hf]) (by rw [hf]) fun f hf' i => hr.getF_eq (by
    simp only [List.mem_cons, List.not_mem_nil, or_false] at hf'
    rcases hf' with rfl | rfl | rfl | rfl <;> simp [stepKeys]) i
  have hlanes : s.stepFret.lanes = s.lanes := by rw [hf]
  have hcond : s.stepFret.unacked s.fretnum n = true ↔ s.serving n = true ∧ (s.lanes[n]).ack.map Prod.fst ≠ some s.fretnum := by
    rw [State.unacked, hserving, hlanes, Bool.and_eq_true, bne_iff_ne]
  refine ⟨_, hexec, (hkept n).trans ?_⟩
  dsimp only
  rw [State.noackStep_spec, show s.stepFret.getF .CL_FCNT0_NOACK n = _ from hfirst n]
  exact if_congr hcond rfl rfl

/-- Settles O10: the CMD and RETRY slots case by case; at a boundary the count is taken in one step, and no other step writes it. -/
theorem commandAndRetry : Obligations.CommandAndRetry := by
  intro n s
  exact ⟨commandSlot n s, retrySlot n s, fretBoundary_noack n s⟩

end Sys2Proof.Machine
end

section
/-! Accesses of the cores to memory, and accesses that nothing maps (R92, R155, R487 to R489, R493). -/
namespace Sys2Proof.Machine

-- The proofs one after another: all at once they would need more threads, and their stacks, than the check's memory holds.
set_option Elab.async false

/-! What stands in the way of an access. -/

section
variable {s : State} {k : Fin 4} {x : Nat} {wr : Bool} {w : Word}

theorem State.reaches_sup (h : placeOf x ≠ .none) : s.reaches (.sup k) x wr = true := by
  rw [State.reaches]
  exact bne_iff_ne.2 h

theorem sizeOk_word (hp : placeOf x = .ssm ∨ placeOf x = .mram) (h4 : x % 4 = 0) : sizeOk (.sup k) x 4 = true := by
  rw [sizeOk]
  rcases hp with hp | hp <;> simp [hp, h4]

theorem place_ne {p : Place} (hp : placeOf x = .ssm ∨ placeOf x = .mram) (h1 : p ≠ .ssm) (h2 : p ≠ .mram) : placeOf x ≠ p := by
  rcases hp with hp | hp
  · exact hp ▸ h1.symm
  · exact hp ▸ h2.symm

/-- A word that a core writes, whatever it held. -/
theorem State.accessErr_wordWrite (hp : placeOf x = .ssm ∨ placeOf x = .mram) (h4 : x % 4 = 0) : s.accessErr (.sup k) x 4 true = none := by
  refine State.accessErr_none (State.reaches_sup (place_ne hp nofun nofun)) (sizeOk_word hp h4)
    (State.badWords_of (place_ne hp nofun nofun) fun v hv _ => ⟨rfl, ?_⟩)
  rw [wordsOf_word h4, List.mem_singleton] at hv
  rw [hv, wholeWord]
  exact decide_eq_true (by omega)

/-- A word that a core reads and that can be read. -/
theorem State.accessErr_wordRead (hp : (placeOf x = .ssm ∧ s.badWord x = false) ∨ placeOf x = .mram) (h4 : x % 4 = 0) :
    s.accessErr (.sup k) x 4 false = none := by
  have hp' : placeOf x = .ssm ∨ placeOf x = .mram := hp.imp_left And.left
  refine State.accessErr_none (State.reaches_sup (place_ne hp' nofun nofun)) (sizeOk_word hp' h4) ?_
  rcases hp with ⟨hp, hb⟩ | hp
  · refine State.badWords_of (place_ne hp' nofun nofun) fun v hv hbad => ?_
    rw [wordsOf_word h4, List.mem_singleton] at hv
    rw [hv, hb] at hbad
    contradiction
  · rw [State.badWords, hp]

/-- A word that a core reads and that cannot be read. -/
theorem State.accessErr_wordBad (hp : placeOf x = .ssm) (hb : s.badWord x = true) (h4 : x % 4 = 0) :
    s.accessErr (.sup k) x 4 false = some causeEcc ∧ s.badWords x 4 false = [x] := by
  have hbad : s.badWords x 4 false = [x] := by
    rw [State.badWords, hp, wordsOf_word h4]
    exact List.filter_cons_of_pos (by rw [hb]; rfl)
  have habsent : s.absentAt x = false := by rw [State.absentAt, hp]
  refine ⟨?_, hbad⟩
  rw [State.accessErr, hbad, State.reaches_sup (place_ne (.inl hp) nofun nofun), sizeOk_word (.inl hp) h4, habsent]
  rfl

theorem State.busWrite_mem (hc : s.canAccess (.sup k) x = true) (hp : placeOf x = .ssm ∨ placeOf x = .mram) (h4 : x % 4 = 0) :
    s.busWrite (.sup k) x w = (s.writeMem (.sup k) x w).answer 0#32 := by
  rw [State.busWrite, hc, State.accessErr_wordWrite hp h4]
  rcases hp with hp | hp <;> rw [hp] <;> rfl

theorem State.busRead_mem (hc : s.canAccess (.sup k) x = true) (hp : (placeOf x = .ssm ∧ s.badWord x = false) ∨ placeOf x = .mram) (h4 : x % 4 = 0) :
    s.busRead (.sup k) x = (s.readMem x).2.answer (s.readMem x).1 := by
  unfold State.busRead
  rw [hc, State.accessErr_wordRead hp h4]
  rcases hp with ⟨hp, -⟩ | hp <;> rw [hp] <;> rfl

end

/-! An access that errs. -/

/-- An access of any size that errs. -/
theorem State.access_err {s : State} {ag : Agent} {a n c : Nat} {wr : Option (List Byte)} (hc : s.canAccess ag a = true) (herr : s.accessErr ag a n wr.isSome = some c) :
    s.access ag a wr n = s.accessError c ag a n wr.isSome := by
  unfold State.access
  split_ifs with h4
  · subst h4
    cases wr with
    | none =>
      rw [Option.isSome_none] at herr ⊢
      unfold State.busRead
      rw [hc, herr]
      rfl
    | some l =>
      rw [Option.isSome_some] at herr ⊢
      unfold State.busWrite
      rw [hc, herr]
      rfl
  · rw [hc] at *
    contradiction
  · rw [herr]

theorem State.setF_mod (s : State) (f : Fld) (i v : Nat) : s.setF f i (v % 2 ^ f.width) = s.setF f i v := by
  rw [State.setF, State.setF, Nat.mod_mod]

theorem agentCode_lt (ag : Agent) : agentCode ag < 2 ^ 6 := by
  cases ag with
  | sup k => have := k.isLt; rw [agentCode]; omega
  | saf | dma | hostDma | debug => decide

/-- What a bus error writes, each value cut to its field. -/
def busFields (cause : Nat) (ag : Agent) (a : Nat) (wr : Bool) : List (Fld × Nat × Nat) :=
  [(.SYS_BUSERR_VALID, 0, 1), (.SYS_BUSERR_CAUSE, 0, cause), (.SYS_BUSERR_AGENT, 0, agentCode ag), (.SYS_BUSADDRLO_ADDR, 0, a % 2 ^ 32),
    (.SYS_BUSADDRHI_ADDR, 0, a / 2 ^ 32), (.SYS_BUSADDRHI_WRITE, 0, b2n wr)]

theorem State.busError_fields (s : State) (cause : Nat) (ag : Agent) (a : Nat) (wr : Bool) : s.busError cause ag a wr = s.erred.setAll
    ((.SYS_BUSERR_COUNT, 0, min 255 (s.getF .SYS_BUSERR_COUNT 0 + 1)) :: if s.bit .SYS_BUSERR_VALID 0 then [] else busFields cause ag a wr) := by
  rw [s.busError_eq, State.busRecord]
  split_ifs
  · rfl
  · simp only [State.setAll_cons, State.setAll_nil, busFields]
    rw [← State.setF_mod _ .SYS_BUSADDRLO_ADDR 0 a]
    rfl

theorem State.erred_setAll_comm (s : State) (l : List (Fld × Nat × Nat)) : (s.setAll l).erred = s.erred.setAll l := by
  induction l generalizing s with
  | nil => rfl
  | cons e l ih => exact ih (s.setF e.1 e.2.1 e.2.2)

theorem State.setAll_append (s : State) (l m : List (Fld × Nat × Nat)) : s.setAll (l ++ m) = (s.setAll l).setAll m := List.foldl_append

theorem busFields_fit {cause : Nat} (hcause : cause < 16) (ag : Agent) {a : Nat} (ha : a < 2 ^ 40) (wr : Bool) : WritesFit (busFields cause ag a wr) := by
  have hag := agentCode_lt ag
  simp only [busFields, writesFit_cons, writesFit_nil, Fld.b2n_lt, Fld.one_lt, and_true, true_and]
  have hc : Fld.SYS_BUSERR_CAUSE.width = 4 := rfl
  have ha' : Fld.SYS_BUSERR_AGENT.width = 8 := rfl
  have hlo : Fld.SYS_BUSADDRLO_ADDR.width = 32 := rfl
  have hhi : Fld.SYS_BUSADDRHI_ADDR.width = 8 := rfl
  rw [hc, ha', hlo, hhi]
  omega

/-- What a command does that counts `pre` and then answers a bus error. -/
theorem SetsOn.of_busError {c : Instr} {s : State} {pre : List (Fld × Nat × Nat)} {cause : Nat} {ag : Agent} {a : Nat} {wr : Bool}
    (hexec : exec c s = .next ((s.setAll pre).busError cause ag a wr))
    (hnd : (pre.map Prod.fst ++ .SYS_BUSERR_COUNT :: (busFields cause ag a wr).map Prod.fst).Nodup) (hfit : WritesFit pre)
    (hcause : cause < 16) (ha : a < 2 ^ 40) : let count := (Fld.SYS_BUSERR_COUNT, 0, min 255 (s.getF .SYS_BUSERR_COUNT 0 + 1))
    (s.bit .SYS_BUSERR_VALID 0 = true → SetsOn c s s.erred (pre ++ [count])) ∧
    (s.bit .SYS_BUSERR_VALID 0 = false → SetsOn c s s.erred (pre ++ count :: busFields cause ag a wr)) := by
  have hnot {f : Fld} (hf : f ∈ Fld.SYS_BUSERR_COUNT :: (busFields cause ag a wr).map Prod.fst) : (s.setAll pre).getF f 0 = s.getF f 0 :=
    (s.setAll_regsBut pre).getF_eq (fun e he heq => by
      obtain ⟨e', he', rfl⟩ := List.mem_map.1 he
      exact (List.nodup_append.1 hnd).2.2 _ (List.mem_map_of_mem he') _ hf heq) 0
  have hcount : (s.setAll pre).getF .SYS_BUSERR_COUNT 0 = s.getF .SYS_BUSERR_COUNT 0 := hnot List.mem_cons_self
  have hvalid : (s.setAll pre).bit .SYS_BUSERR_VALID 0 = s.bit .SYS_BUSERR_VALID 0 := by
    rw [State.bit, State.bit, hnot (by simp [busFields])]
  rw [State.busError_fields, hcount, hvalid, State.erred_setAll_comm, ← State.setAll_append] at hexec
  have hcnt : min 255 (s.getF .SYS_BUSERR_COUNT 0 + 1) < 2 ^ Fld.SYS_BUSERR_COUNT.width :=
    (Nat.min_le_left _ _).trans_lt (show 255 < 2 ^ 8 by decide)
  refine ⟨fun hv => ?_, fun hv => ?_⟩
  · rw [hv, if_pos rfl] at hexec
    refine SetsOn.of_setAll hexec (writtenKeys_nodup ?_) ?_ rfl
    · rw [List.map_append]
      exact hnd.sublist (List.Sublist.append_left (List.cons_sublist_cons.2 (List.nil_sublist _)) _)
    · exact List.forall_mem_append.2 ⟨hfit, List.forall_mem_singleton.2 hcnt⟩
  · rw [hv, if_neg (by decide)] at hexec
    refine SetsOn.of_setAll hexec (writtenKeys_nodup ?_) ?_ rfl
    · rw [List.map_append]
      exact hnd
    · exact List.forall_mem_append.2 ⟨hfit, List.forall_mem_cons.2 ⟨hcnt, busFields_fit hcause ag ha wr⟩⟩

/-! Words. -/

section
variable {s : State} {k : Fin 4} {a : BitVec 40} {x : Nat} {w : Word}

/-- The places of the claims, read from an address. -/
theorem readMem_ssm (hp : placeOf x = .ssm) (hpow : s.powered domProt = true) : s.readMem x = (s.word x, s.countSoftSsm x) := by
  rw [State.readMem, hp]
  exact if_pos hpow

theorem readMem_mram (hp : placeOf x = .mram) : s.readMem x = (s.word x, s) := by
  rw [State.readMem, hp]

theorem writeMem_ssm (hp : placeOf x = .ssm) (hpow : s.powered domProt = true) (hring : s.ringFixed x = false) (hcons : x ≠ 0x10700008) (ag : Agent) :
    s.writeMem ag x w = s.putWord x w := by
  rw [State.writeMem, hp]
  dsimp only
  rw [hpow, hring, if_neg (by decide), if_neg hcons]
  rfl

theorem State.word_answer (s : State) (v : Word) (a : Nat) : (s.answer v).word a = s.word a := rfl

theorem State.answer_putWord (s : State) (x : Nat) (w : Word) : let t := s.putWord x w
    t.answer 0#32 = { s with mem := t.mem, eccBad := t.eccBad, eccSoft := t.eccSoft, resp := ⟨0#32, [], false⟩ } :=
  congrArg (fun u : State => u.answer 0#32) (s.putWord_frame x w)

theorem State.putWord_ecc (h4 : x % 4 = 0) : s.eccBad.filter (fun y => y != x) = (s.putWord x w).eccBad ∧
    s.eccSoft.filter (fun y => y != x) = (s.putWord x w).eccSoft := by
  have hx : x / 4 * 4 = x := by omega
  rw [State.putWord, State.setWord, State.setBytes_frame]
  change _ = s.eccBad.filter (fun y => y != x / 4 * 4) ∧ _ = s.eccSoft.filter (fun y => y != x / 4 * 4)
  rw [hx]
  exact ⟨rfl, rfl⟩

end

theorem State.countBadSsm_setAll {s : State} {x : Nat} (h4 : x % 4 = 0) : s.countBadSsm x =
    s.setAll [(.SSM_ECCCNT_UNC, 0, min (2 ^ Fld.SSM_ECCCNT_UNC.width - 1) (s.getF .SSM_ECCCNT_UNC 0 + 1)),
      (.SSM_ECCADDR_ADDR, 0, x % 2 ^ Fld.SSM_ECCADDR_ADDR.width)] := by
  rw [State.setAll_cons, State.setAll_cons, State.setAll_nil, State.setF_mod, State.countBadSsm, show x / 4 * 4 = x by omega]
  rfl

/-- A word that cannot be read is counted, and the access errs. -/
theorem State.busRead_bad {s : State} {k : Fin 4} {x : Nat} (hc : s.canAccess (.sup k) x = true) (hp : placeOf x = .ssm) (hb : s.badWord x = true)
    (h4 : x % 4 = 0) : s.busRead (.sup k) x = (s.countBadSsm x).busError causeEcc (.sup k) x false := by
  obtain ⟨herr, hwords⟩ := State.accessErr_wordBad (k := k) hp hb h4
  unfold State.busRead
  rw [hc, herr]
  change s.accessError causeEcc (.sup k) x 4 false = _
  rw [State.accessError, hwords, if_pos ⟨rfl, .inl hp⟩]
  rfl

theorem memoryAccesses : Claims.MemoryAccesses := by
  intro k a w s x ssm mr cor unc h4 hc
  have hx : x < 2 ^ 40 := a.isLt
  have hbus : exec (.readClear (.sup k) a) s = .next (s.busRead (.sup k) x) := rfl
  have hwrite (hp : placeOf x = .ssm ∨ placeOf x = .mram) : exec (.regWrite (.sup k) a w) s = .next ((s.writeMem (.sup k) x w).answer 0#32) :=
    (rfl : exec (.regWrite (.sup k) a w) s = .next (s.busWrite (.sup k) x w)).trans (congrArg _ (State.busWrite_mem hc hp h4))
  have hread (hp : (placeOf x = .ssm ∧ s.badWord x = false) ∨ placeOf x = .mram) :
      exec (.readClear (.sup k) a) s = .next ((s.readMem x).2.answer (s.readMem x).1) :=
    hbus.trans (congrArg _ (State.busRead_mem hc hp h4))
  clear_value x
  refine ⟨fun hs hr => ?_, fun hs hcons hr hpow => ?_, fun hm hlo => ?_, fun hm hhi => ?_, fun hm => ?_, fun hs hpow hb hsoft => ?_,
    fun hs hpow hb hsoft => ?_, fun hs hb => ?_⟩
  · refine ⟨_, hwrite (.inl (placeOf_ssm hs)), ?_⟩
    rw [State.writeMem, placeOf_ssm hs, hr]
    simp only [Bool.or_true, if_true]
    rfl
  · refine ⟨_, hwrite (.inl (placeOf_ssm hs)), ?_⟩
    rw [writeMem_ssm (placeOf_ssm hs) hpow hr hcons]
    obtain ⟨hbad, hsoft⟩ := State.putWord_ecc (s := s) (w := w) h4
    refine ⟨(State.word_answer _ _ _).trans (s.word_putWord x w), fun y hy => s.putWord_memBut x w y hy, hbad, hsoft, ?_⟩
    exact s.answer_putWord x w
  · refine ⟨_, hwrite (.inr (placeOf_mram hm)), ?_⟩
    rw [State.writeMem, placeOf_mram hm]
    dsimp only
    rw [State.writeMram, if_pos hlo]
    rfl
  · refine ⟨_, hwrite (.inr (placeOf_mram hm)), ?_⟩
    have hput : s.writeMem (.sup k) x w = s.setWord x w := by
      rw [State.writeMem, placeOf_mram hm]
      exact if_neg (by omega)
    rw [hput]
    exact ⟨(State.word_answer _ _ _).trans (s.word_setWord x w), fun y hy => s.byte_setBytes x w.toNat 4 y hy, congrArg (fun u : State => u.answer 0#32) (s.setBytes_frame x w.toNat 4)⟩
  · refine ⟨_, hread (.inr (placeOf_mram hm)), ?_⟩
    rw [readMem_mram (placeOf_mram hm)]
    rfl
  · refine ⟨_, hread (.inl ⟨placeOf_ssm hs, hb⟩), ?_⟩
    rw [readMem_ssm (placeOf_ssm hs) hpow, State.countSoftSsm, hsoft]
    rfl
  · refine SetsOn.of_setAll (l := [(.SSM_ECCCNT_COR, 0, min (2 ^ Fld.SSM_ECCCNT_COR.width - 1) cor)]) ?_ (List.nodup_singleton _)
      (List.forall_mem_singleton.2 ?_) rfl
    · rw [hread (.inl ⟨placeOf_ssm hs, hb⟩), readMem_ssm (placeOf_ssm hs) hpow, State.countSoftSsm, hsoft]
      rfl
    · exact (Nat.min_le_left _ _).trans_lt (show 2 ^ Fld.SSM_ECCCNT_COR.width - 1 < 2 ^ Fld.SSM_ECCCNT_COR.width by decide)
  · have hexec : exec (.readClear (.sup k) a) s = .next ((s.setAll [(.SSM_ECCCNT_UNC, 0, min (2 ^ Fld.SSM_ECCCNT_UNC.width - 1) unc),
        (.SSM_ECCADDR_ADDR, 0, x % 2 ^ Fld.SSM_ECCADDR_ADDR.width)]).busError 4 (.sup k) x false) := by
      rw [hbus, ← State.countBadSsm_setAll h4]
      exact congrArg _ (State.busRead_bad hc (placeOf_ssm hs) hb h4)
    obtain ⟨hheld, hfree⟩ := SetsOn.of_busError hexec (by simp [busFields]) (by
      simp only [writesFit_cons, writesFit_nil, and_true]
      exact ⟨(Nat.min_le_left _ _).trans_lt (show 2 ^ Fld.SSM_ECCCNT_UNC.width - 1 < 2 ^ Fld.SSM_ECCCNT_UNC.width by decide),
        Nat.mod_lt _ (Nat.two_pow_pos _)⟩) (by decide) hx
    refine ⟨hheld, fun hv => ?_⟩
    have hfields := hfree hv
    rw [busFields, Nat.mod_eq_of_lt (show x < 2 ^ 32 by omega), Nat.div_eq_of_lt (show x < 2 ^ 32 by omega)] at hfields
    exact hfields

/-! Accesses that nothing maps. -/

theorem lockedReads_placed : ∀ x ∈ lockedReads, placeOf x ≠ .none := by decide

theorem State.reaches_none {s : State} {ag : Agent} {x : Nat} {wr : Bool} (h : placeOf x = .none) : s.reaches ag x wr = false := by
  have hlocked : x ∉ lockedReads := fun hl => lockedReads_placed x hl h
  cases ag with
  | debug => simp [State.reaches, h, hlocked]
  | sup k | saf => simp [State.reaches, h]
  | dma | hostDma => rw [State.reaches, h]

theorem State.accessErr_none_place {s : State} {ag : Agent} {x n : Nat} {wr : Bool} (h : placeOf x = .none) :
    s.accessErr ag x n wr = some (if (ag = .dma ∨ ag = .hostDma) ∧ inRegSpace x = true then 3 else 1) := by
  rw [State.accessErr, State.reaches_none h, State.absentAt, h]
  simp only [Bool.false_eq_true, if_false, Bool.not_false, if_true, reduceCtorEq, or_self, and_false, causeDmareg, causeUnmapped]
  split_ifs <;> rfl

theorem State.accessError_other {s : State} {c : Nat} (h : c ≠ causeEcc) (ag : Agent) (x n : Nat) (wr : Bool) :
    s.accessError c ag x n wr = s.busError c ag x wr := by
  rw [State.accessError, if_neg (fun h' => h h'.1)]

theorem unmappedAccess : Claims.UnmappedAccess := by
  intro ag a wr size s c count hp hc
  have hcause : (if (ag = .dma ∨ ag = .hostDma) ∧ inRegSpace a.toNat = true then 3 else 1) < 4 := by split_ifs <;> decide
  have herr := State.accessErr_none_place (s := s) (ag := ag) (n := size) (wr := wr.isSome) hp
  generalize (if (ag = .dma ∨ ag = .hostDma) ∧ inRegSpace a.toNat = true then 3 else 1) = cause at hcause herr ⊢
  have hexec : exec c s = .next ((s.setAll []).busError cause ag a.toNat wr.isSome) :=
    congrArg Host.Outcome.next ((State.access_err hc herr).trans (State.accessError_other (show cause ≠ 4 by omega) ag a.toNat size wr.isSome))
  exact SetsOn.of_busError hexec (by simp [busFields]) (by simp) (by omega) a.isLt

/-! Bytes, halfwords and lines of the SSM. -/

theorem leNat_byte (l : List Byte) : ∀ {j : Nat}, j < l.length → BitVec.ofNat 8 (leNat l / 256 ^ j) = l.getD j 0#8 := by
  induction l with
  | nil => exact fun h => absurd h (by simp)
  | cons b l ih =>
    intro j hj
    rw [leNat]
    cases j with
    | zero =>
      apply BitVec.eq_of_toNat_eq
      have := b.isLt
      rw [pow_zero, Nat.div_one, BitVec.toNat_ofNat, List.getD_cons_zero]
      omega
    | succ j =>
      have hb := b.isLt
      rw [Nat.pow_succ', ← Nat.div_div_eq_div_mul, show (b.toNat + 256 * leNat l) / 256 = leNat l by omega, List.getD_cons_succ]
      exact ih (by simpa using hj)

/-- A byte of a word. -/
theorem word_leNat_byte (l : List Byte) {j : Nat} (hj : j < l.length) (h4 : j < 4) :
    ((BitVec.ofNat 32 (leNat l)) >>> (8 * j)).setWidth 8 = l.getD j 0#8 := by
  rw [← leNat_byte l hj]
  apply BitVec.eq_of_toNat_eq
  rw [BitVec.toNat_setWidth, BitVec.toNat_ushiftRight, BitVec.toNat_ofNat, BitVec.toNat_ofNat, Nat.shiftRight_eq_div_pow, Nat.pow_mul]
  have : j = 0 ∨ j = 1 ∨ j = 2 ∨ j = 3 := by omega
  rcases this with rfl | rfl | rfl | rfl <;> omega

theorem State.word_byte (s : State) (a : Nat) {j : Nat} (h4 : j < 4) : ((s.word a) >>> (8 * j)).setWidth 8 = s.byte (a + j) := by
  have hlist : s.bytes a 4 = leNat [s.byte a, s.byte (a + 1), s.byte (a + 2), s.byte (a + 3)] := rfl
  rw [State.word, hlist, word_leNat_byte _ (by simpa using h4) h4]
  have : j = 0 ∨ j = 1 ∨ j = 2 ∨ j = 3 := by omega
  rcases this with rfl | rfl | rfl | rfl <;> rfl

section
variable {s : State} {k : Fin 4} {x n : Nat} {wr : Bool}

/-- The sizes of an access of a core to the SSM. -/
def CoreSize (x n : Nat) : Prop := n = 1 ∨ (n = 2 ∧ x % 2 = 0) ∨ (n = 64 ∧ x % 64 = 0)

theorem sizeOk_core (hs : 0x10000000 ≤ x) (hn : x + n ≤ 0x107FF000) (h : CoreSize x n) : sizeOk (.sup k) x n = true := by
  have hp : placeOf x = .ssm := placeOf_ssm (by rcases h with rfl | ⟨rfl, -⟩ | ⟨rfl, -⟩ <;> omega)
  rw [sizeOk, hp]
  rcases h with rfl | ⟨rfl, h2⟩ | ⟨rfl, h64⟩
  · simp [Nat.mod_one]
  · simp [h2]
  · simp [h64, hn]

/-- A word that an access touches holds a byte of it. -/
theorem wordsOf_touch (h : CoreSize x n) {v : Nat} (hv : v ∈ wordsOf x n) : ∃ j < n, v = (x + j) / 4 * 4 := by
  rw [wordsOf, List.mem_map] at hv
  obtain ⟨i, hi, rfl⟩ := hv
  rw [List.mem_range] at hi
  rcases h with rfl | ⟨rfl, h2⟩ | ⟨rfl, h64⟩
  · exact ⟨0, by omega, by omega⟩
  · exact ⟨0, by omega, by omega⟩
  · exact ⟨4 * i, by omega, by omega⟩

theorem mem_wordsOf {j : Nat} (hj : j < n) : (x + j) / 4 * 4 ∈ wordsOf x n := by
  rw [wordsOf, List.mem_map]
  exact ⟨(x + j) / 4 - x / 4, List.mem_range.2 (by omega), by omega⟩

theorem State.accessErr_core (hs : 0x10000000 ≤ x) (hn : x + n ≤ 0x107FF000) (h : CoreSize x n) (hb : ∀ j < n, s.badWord (x + j) = false) :
    s.accessErr (.sup k) x n wr = none := by
  have hp : placeOf x = .ssm := placeOf_ssm (by rcases h with rfl | ⟨rfl, -⟩ | ⟨rfl, -⟩ <;> omega)
  refine State.accessErr_none (State.reaches_sup (place_ne (.inl hp) nofun nofun)) (sizeOk_core hs hn h)
    (State.badWords_of (place_ne (.inl hp) nofun nofun) fun v hv hbad => ?_)
  obtain ⟨j, hj, rfl⟩ := wordsOf_touch h hv
  rw [s.badWord_word, hb j hj] at hbad
  contradiction

/-- A halfword that is not aligned. -/
theorem State.accessErr_width (hs : 0x10000000 ≤ x) (hn : x + 2 ≤ 0x107FF000) (hodd : x % 2 = 1) : s.accessErr (.sup k) x 2 wr = some causeWidth := by
  have hp : placeOf x = .ssm := placeOf_ssm (by omega)
  have hsize : sizeOk (.sup k) x 2 = false := by
    rw [sizeOk, hp]
    simp [hodd]
  have habsent : s.absentAt x = false := by rw [State.absentAt, hp]
  rw [State.accessErr, hsize, habsent, State.reaches_sup (place_ne (.inl hp) nofun nofun)]
  rfl

end

/-! What a narrow write leaves in the words that it touches. -/

/-- A byte after a write of `l` at `x`. -/
def State.newByte (s : State) (x : Nat) (l : List Byte) (y : Nat) : Byte := if x ≤ y then l.getD (y - x) (s.byte y) else s.byte y

/-- A word after a write of `l` at `x`. -/
def State.newWord (s : State) (x : Nat) (l : List Byte) (w : Nat) : Word := BitVec.ofNat 32 (leNat ((List.range 4).map fun i => s.newByte x l (w + i)))

theorem State.writeMemBytes_eq (s : State) (ag : Agent) (x : Nat) (l : List Byte) : s.writeMemBytes ag x l =
    ((wordsOf x l.length).foldl (fun t w => t.writeMem ag w (s.newWord x l w)) (s.countPartial x l.length)).answer 0#32 := rfl

theorem State.byte_putWord (t : State) {w : Nat} (v : Word) (hw : w % 4 = 0) (y : Nat) :
    (t.putWord w v).byte y = if y / 4 * 4 = w then (v >>> (8 * (y % 4))).setWidth 8 else t.byte y := by
  split_ifs with h
  · have hy : y = w + y % 4 := by omega
    rw [← congrArg (fun u : Word => (u >>> (8 * (y % 4))).setWidth 8) (t.word_putWord w v)]
    rw [State.word_byte _ _ (Nat.mod_lt _ (by decide)), ← hy]
  · exact t.putWord_memBut w v y (by omega)

theorem State.newWord_byte (s : State) (x : Nat) (l : List Byte) (w : Nat) {j : Nat} (hj : j < 4) :
    ((s.newWord x l w) >>> (8 * j)).setWidth 8 = s.newByte x l (w + j) := by
  rw [State.newWord, word_leNat_byte _ (by simpa using hj) hj, List.getD_eq_getElem _ _ (by simpa using hj), List.getElem_map, List.getElem_range]

theorem MemFrame.powered_eq {s t : State} (h : MemFrame s t) (d : Nat) : t.powered d = s.powered d := by
  rw [MemFrame] at h
  rw [h]
  rfl

theorem foldl_writeMem (s : State) (ag : Agent) (x : Nat) (l : List Byte) {ws : List Nat} (hws : ∀ w ∈ ws, w % 4 = 0 ∧ 0x10700040 ≤ w ∧ w < 0x107FF000) :
    ∀ t : State, t.powered domProt = true → let u := ws.foldl (fun t w => t.writeMem ag w (s.newWord x l w)) t
      MemFrame t u ∧ ∀ y, u.byte y = if y / 4 * 4 ∈ ws then s.newByte x l y else t.byte y := by
  induction ws with
  | nil => exact fun t _ => ⟨.refl t, fun y => (if_neg (by simp)).symm⟩
  | cons w ws ih =>
    intro t hpow
    obtain ⟨h4, hlo, hhi⟩ := hws w List.mem_cons_self
    have hring : t.ringFixed w = false := by
      rw [State.ringFixed, decide_eq_false (by omega)]
      rfl
    have hput : t.writeMem ag w (s.newWord x l w) = t.putWord w (s.newWord x l w) := writeMem_ssm (placeOf_ssm (by omega)) hpow hring (by omega) ag
    have hframe : MemFrame t (t.putWord w (s.newWord x l w)) := t.putWord_frame w _
    obtain ⟨hf, hb⟩ := ih (fun v hv => hws v (List.mem_cons_of_mem _ hv)) _ ((hframe.powered_eq _).trans hpow)
    rw [List.foldl_cons, hput]
    refine ⟨hframe.trans hf, fun y => ?_⟩
    rw [hb y, t.byte_putWord _ h4]
    by_cases hy : y / 4 * 4 = w
    · rw [if_pos hy, s.newWord_byte x l w (Nat.mod_lt _ (by decide)), show w + y % 4 = y by omega, if_pos (List.mem_cons.2 (.inl hy))]
      split_ifs <;> rfl
    · rw [if_neg hy]
      simp [hy]

/-! The corrected words that a narrow access counts. -/

theorem State.countSoftSsm_only (s : State) (a : Nat) : OnlyRegs s (s.countSoftSsm a) [(.SSM_ECCCNT_COR, 0)] := by
  rw [State.countSoftSsm]
  split_ifs
  · exact (OnlyRegs.refl s _).setF _ List.mem_cons_self
  · exact .refl s _

theorem State.countPartial_ssm (s : State) {x n : Nat} (h : ∀ w ∈ wordsOf x n, placeOf w = .ssm) : OnlyRegs s (s.countPartial x n) [(.SSM_ECCCNT_COR, 0)] :=
  List.foldlRecOn (motive := fun t => OnlyRegs s t _) _ _ (.refl s _) fun t ht w hw => by
    split_ifs
    · exact ht
    · refine ht.trans ?_
      rw [State.countSoft, h w hw]
      exact t.countSoftSsm_only w

theorem foldl_readMem (s : State) {ws : List Nat} (h : ∀ w ∈ ws, placeOf w = .ssm) :
    OnlyRegs s (ws.foldl (fun t w => (t.readMem w).2) s) [(.SSM_ECCCNT_COR, 0)] :=
  List.foldlRecOn (motive := fun t => OnlyRegs s t _) _ _ (.refl s _) fun t ht w hw => by
    refine ht.trans ?_
    rw [State.readMem, h w hw]
    dsimp only
    split_ifs
    · exact t.countSoftSsm_only w
    · exact .refl t _

section
variable {s : State} {k : Fin 4} {x : Nat} {l : List Byte}

/-- The words of an access to the SSM past the header of the command ring. -/
theorem wordsOf_ssm {n : Nat} (hlo : 0x10700040 ≤ x) (hn : x + n ≤ 0x107FF000) (h : CoreSize x n) :
    ∀ w ∈ wordsOf x n, w % 4 = 0 ∧ 0x10700040 ≤ w ∧ w < 0x107FF000 := by
  intro w hw
  obtain ⟨j, hj, rfl⟩ := wordsOf_touch h hw
  omega

theorem State.writeMemBytes_spec (ag : Agent) (hpow : s.powered domProt = true) (hlo : 0x10700040 ≤ x) (hn : x + l.length ≤ 0x107FF000)
    (h : CoreSize x l.length) : let t := s.writeMemBytes ag x l
    (∀ j < l.length, t.byte (x + j) = l.getD j 0#8) ∧ MemBut s t x l.length ∧
      t = { s with mem := t.mem, regs := t.regs, eccBad := t.eccBad, eccSoft := t.eccSoft, resp := ⟨0#32, [], false⟩ } ∧
      RegsBut s t [(.SSM_ECCCNT_COR, 0)] := by
  have hws := wordsOf_ssm hlo hn h
  have hc := s.countPartial_ssm (x := x) (n := l.length) fun w hw => placeOf_ssm (by have := hws w hw; omega)
  have hcpow : (s.countPartial x l.length).powered domProt = true := by
    rw [← hpow, State.powered, State.powered, State.testF, State.testF, hc.getF_eq (by simp), hc.1]
    rfl
  obtain ⟨hf, hb⟩ := foldl_writeMem s ag x l hws _ hcpow
  rw [State.writeMemBytes_eq]
  have hcbyte (y : Nat) : (s.countPartial x l.length).byte y = s.byte y := by
    rw [hc.1]
    rfl
  generalize (s.countPartial x l.length) = c at hc hf hb hcbyte
  generalize (wordsOf x l.length).foldl (fun t w => t.writeMem ag w (s.newWord x l w)) c = u at hf hb
  have hregs : u.regs = c.regs := by
    rw [MemFrame] at hf
    rw [hf]
  have hframe : u = { s with mem := u.mem, regs := u.regs, eccBad := u.eccBad, eccSoft := u.eccSoft } := by
    rw [hregs]
    exact Eq.trans hf (congrArg (fun v : State => { v with mem := u.mem, eccBad := u.eccBad, eccSoft := u.eccSoft }) hc.1)
  refine ⟨fun j hj => ?_, fun y hy => ?_, congrArg (fun v : State => v.answer 0#32) hframe, fun f i hi => ?_⟩
  · refine (hb (x + j)).trans ?_
    rw [if_pos (mem_wordsOf hj), State.newByte, if_pos (by omega), show x + j - x = j by omega, List.getD_eq_getElem _ _ hj,
      List.getD_eq_getElem _ _ hj]
  · refine (hb y).trans ?_
    rw [hcbyte]
    have hnew : s.newByte x l y = s.byte y := by
      rw [State.newByte]
      split_ifs
      · rw [List.getD_eq_default _ _ (by omega)]
      · rfl
    rw [hnew]
    exact ite_self _
  · exact (congrArg (fun r => Store.get r (f.key i) f.spec.rst) hregs).trans (hc.2 f i hi)

theorem State.readMemBytes_spec {n : Nat} (hpow : s.powered domProt = true) (hlo : 0x10700040 ≤ x) (hn : x + n ≤ 0x107FF000)
    (h : CoreSize x n) : let t := s.readMemBytes x n
    t = { s with regs := t.regs, resp := t.resp } ∧ RegsBut s t [(.SSM_ECCCNT_COR, 0)] ∧ t.resp.err = false ∧
      ∀ j < n, (if n ≤ 4 then (t.resp.data >>> (8 * j)).setWidth 8 else t.resp.line.getD j 0#8) = s.byte (x + j) := by
  have hws := wordsOf_ssm hlo hn h
  have hssm : ∀ w ∈ wordsOf x n, placeOf w = .ssm := fun w hw => placeOf_ssm (by have := hws w hw; omega)
  have hc := foldl_readMem s hssm
  have hbyte {j : Nat} (hj : j < n) : s.memByte (x + j) = s.byte (x + j) := by
    rw [State.memByte, readMem_ssm (hssm _ (mem_wordsOf hj)) hpow, State.word_byte _ _ (Nat.mod_lt _ (by decide)),
      show (x + j) / 4 * 4 + (x + j) % 4 = x + j by omega]
  have hget {j : Nat} (hj : j < n) : ((List.range n).map fun i => s.memByte (x + i)).getD j 0#8 = s.byte (x + j) := by
    rw [List.getD_eq_getElem _ _ (by simpa using hj), List.getElem_map, List.getElem_range, hbyte hj]
  refine ⟨?_, hc.2, rfl, fun j hj => ?_⟩
  · exact congrArg (fun v : State => { v with resp := (s.readMemBytes x n).resp }) hc.1
  · split_ifs with h4
    · refine Eq.trans ?_ (hget hj)
      change ((BitVec.ofNat 32 (leNat (((List.range n).map fun i => s.memByte (x + i)).take 4))) >>> (8 * j)).setWidth 8 = _
      rw [List.take_of_length_le (by simpa using h4), word_leNat_byte _ (by simpa using hj) (by omega)]
    · refine Eq.trans ?_ (hget hj)
      change (if n ≤ 4 then [] else (List.range n).map fun i => s.memByte (x + i)).getD j 0#8 = _
      rw [if_neg h4]

end

theorem narrowAccesses : Claims.NarrowAccesses := by
  intro k a l s x n read write hlo hn hc hpow
  have hx : x < 2 ^ 40 := a.isLt
  refine ⟨fun h hb => ?_, fun h2 hodd hv => ?_⟩
  · have h4 : n ≠ 4 := by omega
    have herr (wr : Bool) : s.accessErr (.sup k) x n wr = none := State.accessErr_core (by omega) hn h hb
    have hwrite : s.access (.sup k) x (some l) n = s.writeMemBytes (.sup k) x l := by
      rw [State.access, if_neg h4, hc, herr]
      rfl
    have hread : s.access (.sup k) x none n = s.readMemBytes x n := by
      rw [State.access, if_neg h4, hc, herr]
      rfl
    exact ⟨⟨_, congrArg Host.Outcome.next hwrite, State.writeMemBytes_spec _ hpow hlo hn h⟩,
      ⟨_, congrArg Host.Outcome.next hread, State.readMemBytes_spec hpow hlo hn h⟩⟩
  · have hsets {wr : Option (List Byte)} : SetsOn (Instr.unmappedAccess (.sup k) a wr n) s s.erred
        ((.SYS_BUSERR_COUNT, 0, min 255 (s.getF .SYS_BUSERR_COUNT 0 + 1)) :: busFields causeWidth (.sup k) x wr.isSome) := by
      have herr : s.accessErr (.sup k) x n wr.isSome = some causeWidth := by
        rw [h2] at hn ⊢
        exact State.accessErr_width (by omega) hn hodd
      have hexec : exec (.unmappedAccess (.sup k) a wr n) s = .next ((s.setAll []).busError causeWidth (.sup k) x wr.isSome) :=
        congrArg Host.Outcome.next ((State.access_err hc herr).trans (State.accessError_other (by decide) _ x n _))
      exact (SetsOn.of_busError hexec (by simp [busFields]) (by simp) (by decide) hx).2 hv
    have hlow : x % 2 ^ 32 = x := Nat.mod_eq_of_lt (by omega)
    have hhigh : x / 2 ^ 32 = 0 := Nat.div_eq_of_lt (by omega)
    have hread := hsets (wr := none)
    have hwrite := hsets (wr := some l)
    rw [busFields, hlow, hhigh] at hread hwrite
    have hne : (read == write) = false := beq_eq_false_iff_ne.2 fun he => by
      injection he with _ _ he
      contradiction
    refine List.forall_mem_cons.2 ⟨?_, List.forall_mem_singleton.2 ?_⟩
    · rw [hne]
      exact hread
    · rw [beq_self_eq_true]
      exact hwrite

/-- Settles O45: words by the place of their address, narrow accesses by the words that they touch, and what nothing maps by its error. -/
theorem memoryAndUnmappedAccesses : Obligations.MemoryAndUnmappedAccesses := ⟨memoryAccesses, narrowAccesses, unmappedAccess⟩

end Sys2Proof.Machine
end

section
/-! Registers written and read by the cores (R5, R20 to R23). -/
namespace Sys2Proof.Machine

-- The proofs one after another: all at once they would need more threads, and their stacks, than the check's memory holds.
set_option Elab.async false

/-! The registers of the map. -/

/-- What holds of every register of the table holds of a register found. -/
theorem findReg_all {P : Reg → Prop} (h : ∀ e ∈ regTable.flatten, P e.1) {a i : Nat} {r : Reg} (hf : findReg a = some (r, i)) : P r := by
  obtain ⟨e, he, rfl, -⟩ := findReg_mem hf
  exact h e he

theorem regTable_spec : ∀ e ∈ regTable.flatten, e.1.spec = e.2 := by decide +kernel

/-- The fields of a register stand below one another in a word. -/
def Stacked (l : List Fld) : Prop := l.Pairwise (fun f g => g.spec.hi < f.spec.lo) ∧ ∀ f ∈ l, f.spec.hi < 32 ∧ f.spec.lo ≤ f.spec.hi

theorem regTable_stacked : ∀ e ∈ regTable.flatten, Stacked e.1.spec.flds := by
  unfold Stacked
  decide +kernel

theorem findReg_locate {a i : Nat} {r : Reg} (hf : findReg a = some (r, i)) : r.spec.locate a = some i := by
  obtain ⟨e, he, rfl, hl⟩ := findReg_mem hf
  rw [regTable_spec e he]
  exact hl

theorem Stacked.nodup {l : List Fld} (h : Stacked l) : l.Nodup :=
  h.1.imp_of_mem fun {f g} hf _ hlt heq => by
    have hle := (h.2 f hf).2
    rw [heq] at hlt hle
    omega

theorem Fld.of_lt (f : Fld) (w : Word) : f.of w < 2 ^ f.width := Nat.mod_lt _ (Nat.two_pow_pos _)

/-! What a write of a register does. -/

/-- The registers whose write does more than store their fields. -/
def ownWrites : List Reg :=
  [.CE_ACTCTRL, .CE_ACTAT, .CE_ACTMASK, .PMC_ARM, .PMC_RSTCTRL, .PMC_PDREQ, .CLK_PLL_CTRL, .CLK_PLL_BAND, .THERM_MASK, .ATU_CTRL, .ATU_CFG,
   .SVF_CTRL, .FRET_CTRL, .FRET_SWAPAT, .FRET_PLEN, .MOD_CTRL, .ARM_CFG, .CL_CTRL, .CL_BCTRL, .CL_PHYCTRL, .CL_TXEQ, .CL_PATCTRL, .CLG_CTRL,
   .CLG_SWAPAT, .CLG_SWAPMASK, .CMP_CTRL, .CMP_THRH, .CMP_THRL, .CMP_FILT, .CMP_BLANK, .TPIN_CTRL, .TPIN_FILT, .TPIN_BLANK, .TRIP_CTRL, .TRIP_LAT0,
   .TRIP_LAT1, .TRIP_LAT2, .TRIP_SUPREQ, .TRIP_SWROUTE, .TRIP_SUPROUTE, .TRIP_ROUTE, .TRIP_SWREQ, .PW_CTRL, .PW_CFG, .PW_TRIP, .PW_CBC, .PW_OVR,
   .PWM_CTRL, .PWM_START, .AD_CTRL, .AD_TDAC, .ADC_CTRL, .AUX_CTRL, .AUXH_CTRL, .AUXH_OVR, .VREG_VID, .VREG_CFG, .HP_CTRL, .HP_TQ0IDX, .HP_TQ1IDX,
   .HP_PRP, .HP_TXEQ, .HP_PATCTRL, .TIME_CTRL, .TIME_SECH, .TIME_SECL, .TIME_NS, .TOUT_CTRL, .MIR_CTRL, .MIR_CFG, .ML_PHYCTRL, .ML_TXEQ, .ML_PATCTRL,
   .DBG_PWM_FREEZE, .CE_CTRL]

section
variable {s : State} {r : Reg} {i : Nat} {w : Word}

theorem State.putReg_plain (h : r ∉ ownWrites) : s.putReg r i w = s.writeFields r i w [] := by
  unfold State.putReg
  extract_lets g n24 n96 n8 n4
  split
  case h_76 => rfl
  all_goals exact absurd (by decide) h

/-- A write of RW fields. -/
theorem foldl_writeField_rw (lk : Option (Fld × Option Fld)) (w : Word) (i : Nat) (l : List Fld) (h : ∀ f ∈ l, f.spec.acc = .rw) :
    ∀ s : State, l.foldl (fun t f => t.writeField lk f i (f.of w)) s = s.setAll (l.map fun f => (f, i, f.of w)) := by
  induction l with
  | nil => exact fun s => rfl
  | cons f l ih =>
    intro s
    rw [List.foldl_cons, List.map_cons, State.setAll_cons, ih fun g hg => h g (List.mem_cons_of_mem _ hg), State.writeField, h f List.mem_cons_self]

/-- A write of RWL fields while their block is not locked. -/
theorem foldl_writeField_free {lock : Fld} {lkerr : Option Fld} (w : Word) (i : Nat) (l : List Fld) (h : ∀ f ∈ l, f.spec.acc = .rwl ∧ f ≠ lock) :
    ∀ s : State, s.bit lock 0 = false → l.foldl (fun t f => t.writeField (some (lock, lkerr)) f i (f.of w)) s = s.setAll (l.map fun f => (f, i, f.of w)) := by
  induction l with
  | nil => exact fun s _ => rfl
  | cons f l ih =>
    intro s hlock
    obtain ⟨hacc, hne⟩ := h f List.mem_cons_self
    have hfree : s.isLocked (some (lock, lkerr)) = false := hlock
    rw [List.foldl_cons, List.map_cons, State.setAll_cons, State.writeField, hacc]
    dsimp only
    rw [hfree, if_neg Bool.false_ne_true]
    exact ih (fun g hg => h g (List.mem_cons_of_mem _ hg)) _ ((s.bit_setF_ne _ _ _ hne.symm).trans hlock)

/-- A write of RWL fields while their block is locked. -/
theorem foldl_writeField_locked {lock : Fld} {lkerr : Option Fld} (w : Word) (i : Nat) (l : List Fld)
    (h : ∀ f ∈ l, f.spec.acc = .rwl) (hne : ∀ e ∈ lkerr, lock ≠ e) :
    ∀ s : State, s.bit lock 0 = true → let t := l.foldl (fun t f => t.writeField (some (lock, lkerr)) f i (f.of w)) s
      ((∀ f ∈ l, f.of w = s.getF f i) → t = s) ∧
      ((∃ f ∈ l, f.of w ≠ s.getF f i) → OnlyRegs s t (lkerr.toList.map fun f => (f, 0)) ∧ ∀ e ∈ lkerr, t.getF e 0 = 1) := by
  induction l with
  | nil => exact fun s _ => ⟨fun _ => rfl, by simp⟩
  | cons f l ih =>
    intro s hlock
    have hl := fun g hg => h g (List.mem_cons_of_mem f hg)
    have hstep : s.writeField (some (lock, lkerr)) f i (f.of w) = if f.of w = s.getF f i then s else s.lockError (some (lock, lkerr)) := by
      have hlocked : s.isLocked (some (lock, lkerr)) = true := hlock
      rw [State.writeField, h f List.mem_cons_self]
      exact if_pos hlocked
    rw [List.foldl_cons, hstep]
    by_cases hf : f.of w = s.getF f i
    · rw [if_pos hf]
      obtain ⟨hsame, hdiff⟩ := ih hl s hlock
      exact ⟨fun hall => hsame fun g hg => hall g (List.mem_cons_of_mem _ hg), fun ⟨g, hg, hgne⟩ =>
        hdiff ((List.mem_cons.1 hg).elim (fun he => absurd hf (he ▸ hgne)) fun hg => ⟨g, hg, hgne⟩)⟩
    · rw [if_neg hf]
      refine ⟨fun hall => absurd (hall f List.mem_cons_self) hf, fun _ => ?_⟩
      have herr : OnlyRegs s (s.lockError (some (lock, lkerr))) (lkerr.toList.map fun f => (f, 0)) ∧
          ∀ e ∈ lkerr, (s.lockError (some (lock, lkerr))).getF e 0 = 1 := by
        cases lkerr with
        | none => exact ⟨.refl s _, by simp⟩
        | some e =>
          refine ⟨(OnlyRegs.refl s _).setF (f := e) (i := 0) 1 (by simp), fun e' he' => ?_⟩
          obtain rfl := Option.some.inj he'
          exact (s.getF_setF_same e 0 1).trans (Nat.mod_eq_of_lt e.one_lt)
      have hlock' : (s.lockError (some (lock, lkerr))).bit lock 0 = true := by
        rw [State.bit, herr.1.getF_eq fun e he => ?_]
        · exact hlock
        · obtain ⟨g, hg, rfl⟩ := List.mem_map.1 he
          exact (hne g (Option.mem_toList.1 hg)).symm
      generalize s.lockError (some (lock, lkerr)) = u at herr hlock'
      obtain ⟨hsame, hdiff⟩ := ih hl u hlock'
      by_cases hall : ∀ g ∈ l, g.of w = u.getF g i
      · rw [hsame hall]
        exact herr
      · obtain ⟨honly, hset⟩ := hdiff (by simpa using hall)
        exact ⟨herr.1.trans honly, hset⟩

/-- A write of W1C fields. -/
theorem foldl_writeField_w1c (lk : Option (Fld × Option Fld)) (w : Word) (i : Nat) (l : List Fld) (h : ∀ f ∈ l, f.spec.acc = .w1c) (hl : l.Nodup) :
    ∀ s : State, l.foldl (fun t f => t.writeField lk f i (f.of w)) s =
      s.setAll (l.map fun f => (f, i, (s.getF f i - (s.getF f i &&& f.of w)) % 2 ^ f.width)) := by
  induction l with
  | nil => exact fun s => rfl
  | cons f l ih =>
    intro s
    obtain ⟨hf, hl⟩ := List.nodup_cons.1 hl
    rw [List.foldl_cons, List.map_cons, State.setAll_cons, State.setF_mod, ih (fun g hg => h g (List.mem_cons_of_mem _ hg)) hl, State.writeField,
      h f List.mem_cons_self]
    refine congrArg _ (List.map_congr_left fun g hg => ?_)
    rw [s.getF_setF_ne i i _ fun he : g = f => hf (he ▸ hg)]

/-- A write of fields that a write does not reach. -/
theorem foldl_writeField_ro (lk : Option (Fld × Option Fld)) (w : Word) (i : Nat) (l : List Fld) (h : ∀ f ∈ l, f.spec.acc = .ro ∨ f.spec.acc = .rc)
    (s : State) : l.foldl (fun t f => t.writeField lk f i (f.of w)) s = s :=
  List.foldlRecOn (motive := fun t => t = s) _ _ rfl fun t ht f hf => by
    rw [ht, State.writeField]
    rcases h f hf with h | h <;> rw [h]

theorem State.setAll_answer (s : State) (l : List (Fld × Nat × Nat)) (v : Word) : (s.setAll l).answer v = (s.answer v).setAll l := by
  induction l generalizing s with
  | nil => rfl
  | cons e l ih => exact ih (s.setF e.1 e.2.1 e.2.2)

theorem writtenKeys_flds {l : List Fld} (h : l.Nodup) (i : Nat) (v : Fld → Nat) : (writtenKeys (l.map fun f => (f, i, v f))).Nodup :=
  writtenKeys_nodup (by
    rw [List.map_map]
    exact (List.map_id l).symm ▸ h)

end

/-! Where a register stands. -/

section
variable {s : State} {k : Fin 4} {r : Reg} {i x : Nat} {w : Word}

theorem State.accessErr_reg (hp : placeOf x = .reg ∨ placeOf x = .ceReg) (h4 : x % 4 = 0) (wr : Bool) : s.accessErr (.sup k) x 4 wr = none := by
  have hne : placeOf x ≠ .none := by rcases hp with hp | hp <;> rw [hp] <;> nofun
  refine State.accessErr_none (State.reaches_sup hne) ?_ ?_
  · rw [sizeOk]
    rcases hp with hp | hp <;> simp [hp, h4]
  · rw [State.badWords]
    rcases hp with hp | hp <;> rw [hp]

theorem State.busWrite_reg (hc : s.canAccess (.sup k) x = true) (hp : placeOf x = .reg ∨ placeOf x = .ceReg) (h4 : x % 4 = 0) :
    s.busWrite (.sup k) x w = (if s.blockWritable (.sup k) x then s.writeSpace x w else s).answer 0#32 := by
  unfold State.busWrite
  rw [hc, State.accessErr_reg hp h4]
  rcases hp with hp | hp <;> rw [hp] <;> rfl

theorem State.busRead_reg (hc : s.canAccess (.sup k) x = true) (hp : placeOf x = .reg ∨ placeOf x = .ceReg) (h4 : x % 4 = 0) :
    s.busRead (.sup k) x = (s.readSpace (.sup k) x).2.answer (s.readSpace (.sup k) x).1 := by
  unfold State.busRead
  rw [hc, State.accessErr_reg hp h4]
  rcases hp with hp | hp <;> rw [hp] <;> rfl

theorem regsIn_pairs : ∀ r ∈ regsIn 0x400B0000 0x400B0C00,
    r.spec.dims = [(24, 0x80)] ∧ (r.spec.base % 0x80 = 0x10 ∨ r.spec.base % 0x80 = 0x14 → r = .PW_CMPA ∨ r = .PW_CMPB) := by decide +kernel

theorem locate_pair {p : RegSpec} (hd : p.dims = [(24, 0x80)]) (h : p.locate x = some i) : x = p.base + 0x80 * i ∧ i < 24 := by
  rw [RegSpec.locate, hd, Machine.locate] at h
  split_ifs at h with hlt hin
  have := Option.some.inj h
  omega

/-- The compares of the pairs. -/
theorem isCompare_reg (hf : findReg x = some (r, i)) (h : isCompare x = true) : r = .PW_CMPA ∨ r = .PW_CMPB := by
  simp only [isCompare, Bool.and_eq_true, Bool.or_eq_true, decide_eq_true_eq, beq_iff_eq] at h
  obtain ⟨hd, hcmp⟩ := regsIn_pairs r (findReg_in hf h.1.1 h.1.2)
  have hx := (locate_pair hd (findReg_locate hf)).1
  exact hcmp (by omega)

theorem isCompare_of (hf : findReg x = some (r, i)) (hr : r = .PW_CMPA ∨ r = .PW_CMPB) : isCompare x = true := by
  have hl := findReg_locate hf
  rcases hr with rfl | rfl
  · obtain ⟨hx, hi⟩ := locate_pair rfl hl
    have hb : Reg.PW_CMPA.spec.base = 0x400B0010 := rfl
    rw [hb] at hx
    simp only [isCompare, Bool.and_eq_true, Bool.or_eq_true, decide_eq_true_eq, beq_iff_eq]
    omega
  · obtain ⟨hx, hi⟩ := locate_pair rfl hl
    have hb : Reg.PW_CMPB.spec.base = 0x400B0014 := rfl
    rw [hb] at hx
    simp only [isCompare, Bool.and_eq_true, Bool.or_eq_true, decide_eq_true_eq, beq_iff_eq]
    omega

/-- The registers of Safe Energy Removal, which its own core alone writes. -/
def safetyRegs : List Reg := regsIn 0x400F0000 0x40100000

theorem State.blockWritable_reg (hf : findReg x = some (r, i)) (hs : r ∉ safetyRegs) (h4 : s.inS4 = true → r ≠ .PW_CMPA ∧ r ≠ .PW_CMPB) :
    s.blockWritable (.sup k) x = true := by
  have hblock : ¬(0x400F0000 ≤ x ∧ x < 0x40100000) := fun h => hs (findReg_in hf h.1 h.2)
  rw [State.blockWritable, decide_eq_false hblock]
  cases hS4 : s.inS4 with
  | false => rfl
  | true =>
    cases hcmp : isCompare x with
    | false => rfl
    | true => exact absurd (isCompare_reg hf hcmp) (not_or.2 (h4 hS4))

/-- A word written to a register. -/
theorem exec_regWrite_reg {a : BitVec 40} (hc : s.canAccess (.sup k) a.toNat = true) (hp : placeOf a.toNat = .reg ∨ placeOf a.toNat = .ceReg)
    (h4 : a.toNat % 4 = 0) (hf : findReg a.toNat = some (r, i)) :
    exec (.regWrite (.sup k) a w) s = .next ((if s.blockWritable (.sup k) a.toNat then s.writeReg r i w else s).answer 0#32) := by
  have hspace : s.writeSpace a.toNat w = s.writeReg r i w := by rw [State.writeSpace, hf]
  rw [← hspace]
  exact congrArg Host.Outcome.next (State.busWrite_reg hc hp h4)

end

/-! The writes. -/

theorem plainRw_all : ∀ r ∈ plainRw, r ∉ ownWrites ∧ r ∉ safetyRegs ∧ ∀ f ∈ r.spec.flds, f.spec.acc = .rw := by decide +kernel

theorem plainRwl_all : ∀ r ∈ plainRwl, r ∉ ownWrites ∧ r ∉ safetyRegs ∧ r ≠ .PW_CMPA ∧ r ≠ .PW_CMPB ∧ (∀ f ∈ r.spec.flds, f.spec.acc = .rwl) ∧
    ∀ e ∈ blockLock r.spec.base, e.1.spec.acc ≠ .rwl ∧ ∀ g ∈ e.2, e.1 ≠ g := by decide +kernel

theorem plainW1c_all : ∀ r ∈ plainW1c, r ∉ ownWrites ∧ r ∉ safetyRegs ∧ r ≠ .PW_CMPA ∧ r ≠ .PW_CMPB ∧ ∀ f ∈ r.spec.flds, f.spec.acc = .w1c := by
  decide +kernel

/-- The registers whose write does more than store their fields, and that none of these fields takes. -/
theorem ownWrites_ro : ∀ r ∈ ownWrites, (r = .TIME_SECH ∨ r = .TIME_SECL ∨ r = .TIME_NS) ∨ ∃ f ∈ r.spec.flds, f.spec.acc ≠ .ro ∧ f.spec.acc ≠ .rc := by
  decide +kernel

theorem ctrl_all : ∀ r ∈ [Reg.TRIP_CTRL, .PWM_CTRL, .ADC_CTRL, .TRIP_SWREQ, .TRIP_SUPREQ], r ∉ safetyRegs ∧ r ≠ .PW_CMPA ∧ r ≠ .PW_CMPB := by
  decide +kernel

/-- A register that a write does not reach. -/
theorem State.putReg_ro {s : State} {r : Reg} {i : Nat} {w : Word} (h : ∀ f ∈ r.spec.flds, f.spec.acc = .ro ∨ f.spec.acc = .rc) : s.putReg r i w = s := by
  by_cases hr : r ∈ ownWrites
  · rcases ownWrites_ro r hr with (rfl | rfl | rfl) | ⟨f, hf, hro, hrc⟩
    · rfl
    · rfl
    · rfl
    · exact absurd (h f hf) (not_or.2 ⟨hro, hrc⟩)
  · rw [State.putReg_plain hr]
    exact foldl_writeField_ro _ w i _ h s

theorem SetsOn.nil {c : Instr} {s t : State} (h : exec c s = .next t) (hregs : t.regs = s.regs) : SetsOn c s t [] :=
  ⟨t, h, rfl, by simp, fun f i _ => by rw [State.getF, State.getF, hregs]⟩

theorem writeCtrl_cases {r : Reg} {u : LockUnit} (h : (r, u) ∈ [(Reg.TRIP_CTRL, LockUnit.trip), (.PWM_CTRL, .pwm), (.ADC_CTRL, .adc)]) :
    (r = .TRIP_CTRL ∧ u = .trip) ∨ (r = .PWM_CTRL ∧ u = .pwm) ∨ (r = .ADC_CTRL ∧ u = .adc) := by
  simpa using h

theorem State.engOk_lt {s : State} {i : Nat} (h : s.engOk i = true) : i < 24 := by
  have hi := of_decide_eq_true h
  have : s.variant.engines ≤ 24 := by cases s.variant <;> decide
  omega

theorem registerWrites : Claims.RegisterWrites := by
  intro k a w s c ok h4 hp hc
  refine ⟨fun hnone hfret hlane => ?_, fun r i hf => ?_⟩
  · refine ⟨_, congrArg Host.Outcome.next (State.busWrite_reg hc hp h4), ?_⟩
    have hspace : s.writeSpace a.toNat w = s := by
      rw [State.writeSpace, hnone]
      dsimp only
      rw [if_neg (by omega), hlane]
    rw [hspace, ite_self]
    rfl
  · have hexec : exec c s = _ := exec_regWrite_reg hc hp h4 hf
    have hstacked := findReg_all (P := fun q => Stacked q.spec.flds) regTable_stacked hf
    have hnd := hstacked.nodup
    have hlive {t : State} (hl : s.regLive r i = true) (hs : r ∉ safetyRegs) (hS4 : s.inS4 = true → r ≠ .PW_CMPA ∧ r ≠ .PW_CMPB)
        (hput : s.putReg r i w = t) : exec c s = .next (t.answer 0#32) := by
      rw [hexec, State.blockWritable_reg hf hs hS4, State.writeReg, hl, hput]
      rfl
    have hsets {l : List (Fld × Nat × Nat)} (hl : s.regLive r i = true) (hs : r ∉ safetyRegs) (hS4 : s.inS4 = true → r ≠ .PW_CMPA ∧ r ≠ .PW_CMPB)
        (hput : s.putReg r i w = s.setAll l) (hk : (writtenKeys l).Nodup) (hv : WritesFit l) : SetsOn c s ok l :=
      SetsOn.of_setAll ((hlive hl hs hS4 hput).trans (congrArg _ (s.setAll_answer l _))) hk hv rfl
    have hkeeps (h : s.writeReg r i w = s) : Answers c s (fun t => t = ok) := by
      rw [h, ite_self] at hexec
      exact ⟨_, hexec, rfl⟩
    have hfit : WritesFit (r.spec.flds.map fun f => (f, i, f.of w)) := fun e he => by
      obtain ⟨f, -, rfl⟩ := List.mem_map.1 he
      exact f.of_lt w
    intro live puts
    refine ⟨fun hdead => ?_, fun hl hr hS4 => ?_, fun hl hS4 hr => ?_, fun hl hr => ?_, fun hl hr lock lkerr hlock => ?_, fun hl hro => ?_,
      fun u hu hl => ?_, fun hl hr => ?_, fun hl hr hw => ?_⟩
    · exact hkeeps (by rw [State.writeReg, hdead]; rfl)
    · obtain ⟨hown, hs, hacc⟩ := plainRw_all r hr
      exact hsets hl hs hS4 ((State.putReg_plain hown).trans (foldl_writeField_rw _ w i _ hacc s)) (writtenKeys_flds hnd i _) hfit
    · refine ⟨_, hexec, ?_⟩
      have hblock : s.blockWritable (.sup k) a.toNat = false := by
        rw [State.blockWritable, hS4, isCompare_of hf hr]
        exact Bool.and_false _
      dsimp only
      rw [hblock]
      rfl
    · obtain ⟨hown, hs, ha, hb, hacc⟩ := plainW1c_all r hr
      refine hsets hl hs (fun _ => ⟨ha, hb⟩) ((State.putReg_plain hown).trans (foldl_writeField_w1c _ w i _ hacc hnd s)) (writtenKeys_flds hnd i _)
        fun e he => ?_
      obtain ⟨f, -, rfl⟩ := List.mem_map.1 he
      exact Nat.mod_lt _ (Nat.two_pow_pos _)
    · obtain ⟨hown, hs, ha, hb, hacc, hlk⟩ := plainRwl_all r hr
      obtain ⟨hlockne, hne⟩ := hlk _ hlock
      have hput : s.putReg r i w = r.spec.flds.foldl (fun t f => t.writeField (some (lock, lkerr)) f i (f.of w)) s :=
        (State.putReg_plain hown).trans (by
          rw [State.writeFields, hlock]
          rfl)
      refine ⟨fun hfree => ?_, fun hlocked hall => ?_, fun hlocked hdiff => ?_⟩
      · refine hsets hl hs (fun _ => ⟨ha, hb⟩) (hput.trans (foldl_writeField_free w i _ (fun f hf => ⟨hacc f hf, ?_⟩) s hfree)) (writtenKeys_flds hnd i _) hfit
        rintro rfl
        exact hlockne (hacc f hf)
      · exact SetsOn.nil (hlive hl hs (fun _ => ⟨ha, hb⟩) (hput.trans ((foldl_writeField_locked w i _ hacc hne s hlocked).1 hall))) rfl
      · obtain ⟨honly, hset⟩ := (foldl_writeField_locked w i _ hacc hne s hlocked).2 hdiff
        refine ⟨_, hlive hl hs (fun _ => ⟨ha, hb⟩) hput, ?_, fun e he => ?_, fun f j hj => ?_⟩
        · exact congrArg (fun t : State => t.answer 0#32) honly.1
        · obtain ⟨g, hg, rfl⟩ := List.mem_map.1 he
          exact hset g (Option.mem_toList.1 hg)
        · refine honly.2 f j ?_
          rwa [List.map_map] at hj
    · have hsame : s.writeReg r i w = s := by
        rw [State.writeReg, State.putReg_ro hro, ite_self]
      exact hkeeps hsame
    · have hr : r ∈ [Reg.TRIP_CTRL, .PWM_CTRL, .ADC_CTRL, .TRIP_SWREQ, .TRIP_SUPREQ] := by
        rcases writeCtrl_cases hu with ⟨rfl, -⟩ | ⟨rfl, -⟩ | ⟨rfl, -⟩ <;> simp
      obtain ⟨hs, ha, hb⟩ := ctrl_all r hr
      refine ⟨fun h1 => hsets hl hs (fun _ => ⟨ha, hb⟩) ?_ (List.nodup_singleton _) (List.forall_mem_singleton.2 (Fld.one_lt _)),
        fun h0 => SetsOn.nil (hlive hl hs (fun _ => ⟨ha, hb⟩) ?_) rfl⟩
      · obtain rfl : w = 1#32 := BitVec.eq_of_toNat_eq h1
        rcases writeCtrl_cases hu with ⟨rfl, rfl⟩ | ⟨rfl, rfl⟩ | ⟨rfl, rfl⟩ <;> rfl
      · obtain rfl : w = 0#32 := BitVec.eq_of_toNat_eq h0
        rcases writeCtrl_cases hu with ⟨rfl, rfl⟩ | ⟨rfl, rfl⟩ | ⟨rfl, rfl⟩ <;> rfl
    · subst hr
      obtain ⟨hs, ha, hb⟩ := ctrl_all .TRIP_SWREQ (by simp)
      have hput : s.putReg .TRIP_SWREQ i w = if s.engOk i then (if w.getLsbD 0 then s.swTrip (Fin.ofNat 24 i) else s) else s := rfl
      cases he : s.engOk i with
      | false =>
        rw [Bool.and_false, if_neg Bool.false_ne_true]
        exact SetsOn.nil (hlive hl hs (fun _ => ⟨ha, hb⟩) (hput.trans (by rw [he]; rfl))) rfl
      | true =>
        cases hw : w.getLsbD 0 with
        | false => exact SetsOn.nil (hlive hl hs (fun _ => ⟨ha, hb⟩) (hput.trans (by rw [he, hw]; rfl))) rfl
        | true =>
          have hi : i % 24 = i := Nat.mod_eq_of_lt (State.engOk_lt he)
          refine hsets hl hs (fun _ => ⟨ha, hb⟩) (hput.trans ?_) (List.nodup_singleton _) (List.forall_mem_singleton.2 (Nat.mod_lt _ (Nat.two_pow_pos _)))
          have hset := s.setF_mod .TRIP_LAT1_SW 0 (s.getF .TRIP_LAT1_SW 0 ||| 2 ^ i)
          rw [he, hw, if_pos rfl, if_pos rfl]
          refine Eq.trans ?_ hset.symm
          change s.setF .TRIP_LAT1_SW 0 (s.getF .TRIP_LAT1_SW 0 ||| 2 ^ (i % 24)) = _
          rw [hi]
    · subst hr
      obtain ⟨hs, ha, hb⟩ := ctrl_all .TRIP_SUPREQ (by simp)
      have hput : s.putReg .TRIP_SUPREQ i w = if w.getLsbD 0 then s.supTrip else s := rfl
      exact SetsOn.nil (hlive hl hs (fun _ => ⟨ha, hb⟩) (hput.trans (by rw [hw]; rfl))) rfl

/-! What a register shows. -/

/-- A word put together from field values, each in the place of its field. -/
def stack (v : Fld → Nat) (l : List Fld) : Nat := (l.map fun f => v f * 2 ^ f.spec.lo).sum

section
variable {v : Fld → Nat} {l : List Fld} {f : Fld}

theorem Stacked.tail (h : Stacked (f :: l)) : Stacked l := ⟨(List.pairwise_cons.1 h.1).2, fun g hg => h.2 g (List.mem_cons_of_mem _ hg)⟩

theorem Stacked.apart (h : Stacked l) {g : Fld} (hf : f ∈ l) (hg : g ∈ l) (hne : f ≠ g) : g.spec.hi < f.spec.lo ∨ f.spec.hi < g.spec.lo := by
  induction l with
  | nil => simp at hf
  | cons e l ih =>
    have hbelow := (List.pairwise_cons.1 h.1).1
    rcases List.mem_cons.1 hf with rfl | hf'
    · exact .inl (hbelow g ((List.mem_cons.1 hg).resolve_left hne.symm))
    · rcases List.mem_cons.1 hg with rfl | hg'
      · exact .inr (hbelow f hf')
      · exact ih h.tail hf' hg'

theorem stack_lt (hv : ∀ f ∈ l, v f < 2 ^ f.width) (h : Stacked l) {b : Nat} (hb : ∀ f ∈ l, f.spec.hi < b) : stack v l < 2 ^ b := by
  induction l generalizing b with
  | nil => exact Nat.two_pow_pos b
  | cons f l ih =>
    have hrest : stack v l < 2 ^ f.spec.lo := ih (fun g hg => hv g (List.mem_cons_of_mem _ hg)) h.tail (List.pairwise_cons.1 h.1).1
    have hf := hv f List.mem_cons_self
    have hle := (h.2 f List.mem_cons_self).2
    have hpow : 2 ^ f.spec.lo * 2 ^ f.width ≤ 2 ^ b := by
      rw [← Nat.pow_add]
      refine Nat.pow_le_pow_right (by decide) ?_
      have := hb f List.mem_cons_self
      rw [Fld.width]
      omega
    calc stack v (f :: l) = v f * 2 ^ f.spec.lo + stack v l := by rw [stack, List.map_cons, List.sum_cons, stack]
      _ < v f * 2 ^ f.spec.lo + 2 ^ f.spec.lo := by omega
      _ = 2 ^ f.spec.lo * (v f + 1) := by ring
      _ ≤ 2 ^ f.spec.lo * 2 ^ f.width := Nat.mul_le_mul_left _ hf
      _ ≤ 2 ^ b := hpow

/-- The bits of a word put together from fields. -/
theorem stack_testBit (hv : ∀ f ∈ l, v f < 2 ^ f.width) (h : Stacked l) (b : Nat) :
    (stack v l).testBit b = l.any fun f => decide (f.spec.lo ≤ b) && (v f).testBit (b - f.spec.lo) := by
  induction l with
  | nil => exact Nat.zero_testBit b
  | cons f l ih =>
    have hv' := fun g hg => hv g (List.mem_cons_of_mem f hg)
    have hbelow := (List.pairwise_cons.1 h.1).1
    have hsum : stack v (f :: l) = 2 ^ f.spec.lo * v f + stack v l := by rw [stack, List.map_cons, List.sum_cons, stack, Nat.mul_comm]
    rw [hsum, Nat.testBit_two_pow_mul_add _ (stack_lt hv' h.tail hbelow), List.any_cons, ← ih hv' h.tail]
    split_ifs with hb
    · rw [decide_eq_false (by omega), Bool.false_and, Bool.false_or]
    · have hzero : (stack v l).testBit b = false :=
        Nat.testBit_lt_two_pow ((stack_lt hv' h.tail hbelow).trans_le (Nat.pow_le_pow_right (by decide) (by omega)))
      rw [decide_eq_true (by omega), Bool.true_and, hzero, Bool.or_false]

theorem stack_high (hv : ∀ f ∈ l, v f < 2 ^ f.width) (hf : f ∈ l) {b : Nat} (hb : f.width ≤ b) : (v f).testBit b = false :=
  Nat.testBit_lt_two_pow ((hv f hf).trans_le (Nat.pow_le_pow_right (by decide) hb))

/-- A bit of a field, and no other, is shown in the field's place. -/
theorem stack_field (hv : ∀ f ∈ l, v f < 2 ^ f.width) (h : Stacked l) (hf : f ∈ l) {b : Nat} (hb : b < f.width) :
    (stack v l).testBit (f.spec.lo + b) = (v f).testBit b := by
  rw [stack_testBit hv h, Bool.eq_iff_iff, List.any_eq_true]
  constructor
  · rintro ⟨g, hg, hbit⟩
    obtain ⟨hlo, hbit⟩ := Bool.and_eq_true_iff.1 hbit
    have hlo := of_decide_eq_true hlo
    have hgb : f.spec.lo + b - g.spec.lo < g.width := by
      by_contra hge
      rw [stack_high hv hg (Nat.le_of_not_lt hge)] at hbit
      contradiction
    rw [Fld.width] at hb hgb
    have hfl := (h.2 f hf).2
    have hgl := (h.2 g hg).2
    have hfg : g = f := by
      by_contra hne
      have := h.apart hg hf hne
      omega
    subst hfg
    rwa [Nat.add_sub_cancel_left] at hbit
  · exact fun hbit => ⟨f, hf, by rw [decide_eq_true (by omega), Nat.add_sub_cancel_left, hbit]; rfl⟩

/-- A field is read back from the word that shows it. -/
theorem of_stack (hv : ∀ f ∈ l, v f < 2 ^ f.width) (h : Stacked l) (hf : f ∈ l) : f.of (BitVec.ofNat 32 (stack v l)) = v f := by
  have h32 : stack v l < 2 ^ 32 := stack_lt hv h fun g hg => (h.2 g hg).1
  rw [Fld.of, bitsOf, BitVec.toNat_ofNat, Nat.mod_eq_of_lt h32]
  refine Nat.eq_of_testBit_eq fun b => ?_
  change (stack v l / 2 ^ f.spec.lo % 2 ^ f.width).testBit b = _
  rw [Nat.testBit_mod_two_pow, Nat.testBit_div_two_pow]
  by_cases hb : b < f.width
  · rw [decide_eq_true hb, Bool.true_and, Nat.add_comm, stack_field hv h hf hb]
  · rw [decide_eq_false hb, Bool.false_and, stack_high hv hf (Nat.le_of_not_lt hb)]

theorem stack_reserved (hv : ∀ f ∈ l, v f < 2 ^ f.width) (h : Stacked l) {b : Nat} (hb : b < 32) (hres : ∀ f ∈ l, b < f.spec.lo ∨ f.spec.hi < b) :
    (BitVec.ofNat 32 (stack v l)).getLsbD b = false := by
  rw [BitVec.getLsbD_ofNat, decide_eq_true hb, Bool.true_and, stack_testBit hv h, List.any_eq_false]
  intro f hf
  rcases hres f hf with hlo | hhi
  · simp [Nat.not_le.2 hlo]
  · rw [stack_high hv hf (by have := (h.2 f hf).2; rw [Fld.width]; omega), Bool.and_false]
    exact Bool.false_ne_true

end

/-! The reads. -/

section
variable {s : State} {k : Fin 4} {r : Reg} {i x : Nat}

theorem State.showF_lt (s : State) (f : Fld) (i : Nat) : s.showF f i < 2 ^ f.width := by
  rw [State.showF]
  split_ifs
  · exact Nat.two_pow_pos _
  · exact Nat.mod_lt _ (Nat.two_pow_pos _)

theorem State.showReg_eq (h : r = .HP_PRP → i % 2 = 0) : s.showReg r i = BitVec.ofNat 32 (stack (s.showF · i) r.spec.flds) := by
  rw [State.showReg, if_neg fun ⟨hr, hi⟩ => by have := h hr; omega]
  rfl

theorem State.readReg_shows (hl : s.regLive r i = true) (h : r ∉ specialReads) (rd : TimeReader) : s.readReg rd r i = (s.showReg r i, s.clearRc r i) := by
  unfold State.readReg
  rw [hl, if_neg (by decide)]
  split
  case h_6 => rfl
  all_goals exact absurd (by decide) h

/-- No count is kept elsewhere than in its field. -/
theorem State.readF_rc {f : Fld} (h : f.spec.acc = .rc) : s.readF f i = s.getF f i := by
  unfold State.readF
  extract_lets slot
  split
  case h_37 => rfl
  all_goals exact absurd h (by decide)

theorem foldl_clear_rc (l : List Fld) (h : ∀ f ∈ l, f.spec.acc = .rc) (i : Nat) :
    ∀ s : State, l.foldl (fun t f => if f.spec.acc = .rc then t.setF f i 0 else t) s = s.setAll (l.map fun f => (f, i, 0)) := by
  induction l with
  | nil => exact fun s => rfl
  | cons f l ih =>
    intro s
    rw [List.foldl_cons, if_pos (h f List.mem_cons_self), ih fun g hg => h g (List.mem_cons_of_mem _ hg), List.map_cons, State.setAll_cons]

theorem State.clearRc_none (h : ∀ f ∈ r.spec.flds, f.spec.acc ≠ .rc) : s.clearRc r i = s :=
  List.foldlRecOn (motive := fun t => t = s) _ _ rfl fun t ht f hf => by rw [if_neg (h f hf), ht]

theorem exec_readClear_reg {a : BitVec 40} (hc : s.canAccess (.sup k) a.toNat = true) (hp : placeOf a.toNat = .reg ∨ placeOf a.toNat = .ceReg)
    (h4 : a.toNat % 4 = 0) (hf : findReg a.toNat = some (r, i)) :
    exec (.readClear (.sup k) a) s = .next ((s.readReg (.sup k) r i).2.answer (s.readReg (.sup k) r i).1) := by
  have hspace : s.readSpace (.sup k) a.toNat = s.readReg (.sup k) r i := by rw [State.readSpace, hf]
  rw [← hspace]
  exact congrArg Host.Outcome.next (State.busRead_reg hc hp h4)

theorem plainRc_all : ∀ r ∈ plainRc, r ∉ specialReads ∧ r ≠ .HP_PRP ∧ ∀ f ∈ r.spec.flds, f.spec.acc = .rc := by decide +kernel

theorem readClears : Claims.ReadClears := by
  intro k a r i s c h4 hp hf hc
  have hexec : exec c s = _ := exec_readClear_reg hc hp h4 hf
  have hstacked := findReg_all (P := fun q => Stacked q.spec.flds) regTable_stacked hf
  have hshow := fun f (_ : f ∈ r.spec.flds) => s.showF_lt f i
  refine ⟨fun hdead => ?_, fun hl hr => ?_, fun hl hr hrc hprp => ?_⟩
  · refine ⟨_, hexec, ?_⟩
    have hread : s.readReg (.sup k) r i = (0#32, s) := by
      unfold State.readReg
      rw [hdead]
      rfl
    rw [hread]
    rfl
  · obtain ⟨hplain, hprp, hacc⟩ := plainRc_all r hr
    have hreg := State.readReg_shows hl hplain (.sup k)
    rw [State.showReg_eq fun he => absurd he hprp] at hreg
    refine ⟨_, fun f hf => (of_stack hshow hstacked hf).trans ?_, SetsOn.of_setAll ?_ (writtenKeys_flds hstacked.nodup i fun _ => 0) (fun e he => ?_) rfl⟩
    · rw [State.showF, if_neg (by rw [hacc f hf]; decide), State.readF_rc (hacc f hf)]
    · rw [hexec, hreg, State.clearRc, foldl_clear_rc _ hacc, State.setAll_answer]
      rfl
    · obtain ⟨f, -, rfl⟩ := List.mem_map.1 he
      exact Nat.two_pow_pos _
  · have hreg := State.readReg_shows hl hr (.sup k)
    rw [State.showReg_eq hprp, State.clearRc_none hrc] at hreg
    refine ⟨_, fun f hf => of_stack hshow hstacked hf, fun b hb hres => stack_reserved hshow hstacked hb hres, _, hexec, ?_⟩
    rw [hreg]
    rfl

end

/-- Settles O44: a write reaches the fields of its register by their access codes, and a read shows them in their places. -/
theorem registerAccesses : Obligations.RegisterAccesses := ⟨registerWrites, readClears⟩

end Sys2Proof.Machine
end

section
/-! Resets: a thermal latch over a reset by POR_N, with a soft-start state wider than its field. -/
namespace Sys2Proof.Machine

-- The proofs one after another: all at once they would need more threads, and their stacks, than the check's memory holds.
set_option Elab.async false

/-- A state with the thermal shutdown latched, in which VREG_STAT.SSTATE holds a value that its two bits cannot hold. -/
def wideSstate : State :=
  { State.reset with regs := [(Fld.THERM_STAT_SHUTLAT.key 0, 1), (Fld.VREG_STAT_SSTATE.key 0, 4)], pmc := { porPin := false, porSupply := false } }

theorem wideSstate_reads : wideSstate.porHeld = false ∧ wideSstate.bit .THERM_STAT_SHUTLAT 0 = true ∧ wideSstate.sstate = 4 := by decide +kernel

/-- What the thermal latch keeps of the soft-start state is cut to the field's width. -/
theorem State.sstate_keepLatch {s : State} (t : State) (hlat : s.bit .THERM_STAT_SHUTLAT 0 = true) : (s.keepLatch t).sstate = s.sstate % 4 := by
  rw [State.keepLatch, hlat, if_pos rfl, State.sstate, State.getF_setF_same, (show Fld.VREG_STAT_SSTATE.width = 2 from rfl), show 2 ^ 2 = 4 from rfl]

theorem State.sstate_porPin {s : State} (hheld : s.porHeld = false) (hlat : s.bit .THERM_STAT_SHUTLAT 0 = true) :
    Answers .porPin s (fun t => t.sstate = s.sstate % 4) := by
  have hexec : exec .porPin s = .next ((s.keepLatch (s.powerOnReset .PMC_RSTCAUSE_POR_PIN)).modPmc (fun p => { p with porPin := true })) := by
    change execPorPin s = _
    rw [execPorPin, hheld, if_neg Bool.false_ne_true]
  refine ⟨_, hexec, ?_⟩
  rw [← State.sstate_keepLatch (s.powerOnReset .PMC_RSTCAUSE_POR_PIN) hlat]
  generalize s.keepLatch _ = u
  rfl

/-- Refutes O15: with VREG_STAT.SSTATE wider than its field under the thermal latch, a reset by POR_N does not keep it. -/
theorem not_resetCausesAndClasses : ¬ Obligations.ResetCausesAndClasses := by
  intro h
  obtain ⟨hheld, hlat, hwide⟩ := wideSstate_reads
  obtain ⟨-, -, -, -, -, -, -, hpin, -⟩ := h 0#4 0 0 false wideSstate
  obtain ⟨t, ht, -, -, hkept⟩ := hpin (by
    rintro (hp | hp)
    · exact absurd hp (by decide)
    · exact absurd hp (by decide))
  obtain ⟨u, hu, hcut⟩ := State.sstate_porPin hheld hlat
  obtain rfl := Host.Outcome.next.inj (ht.symm.trans hu)
  have hsame := (hkept hlat).2.2
  rw [hcut, hwide] at hsame
  exact absurd hsame (by decide)

end Sys2Proof.Machine
end

section
/-! Converter scans: a list whose mask names no input, held in a mask wider than its field. -/
namespace Sys2Proof.Machine

-- The proofs one after another: all at once they would need more threads, and their stacks, than the check's memory holds.
set_option Elab.async false

/-- Converter 0 is ON, and list 0 of it is valid by R312, its MASK being 4,096: a value that its twelve bits cannot hold and that names no input.  A start
of list 1 in the same FAB cycle has just been refused for its configuration. -/
def wideMask : State :=
  let s := ((State.reset.setF .PMC_STAGE_STAGE 0 3).setF .AD_STAT_ENST 0 1).setF .AD_LLEN_LEN 0 1
  { s with
    regs := Store.put s.regs (Fld.AD_LCFG_MASK.key 0) 4096 0
    gated := 0#4, quadFeed := true, pmc := { porSupply := false }
    adcs := s.adcs.set 0 { bad := [{ tick := s.tick, list := 1, fret := false, was := false }] } }

theorem wideMask_runs : wideMask.adcOn 0 = true ∧ wideMask.fabRuns = true ∧ (wideMask.adcs[(0 : Fin 8)]).scan = none ∧ wideMask.listBad 0 0 = false := by
  decide +kernel

/-- The scan of no input has ended as soon as it has begun. -/
theorem wideMask_scan : ((wideMask.scanStart 0 0 false).adcs[(0 : Fin 8)]).scan = none := by decide +kernel

/-- Refutes O13: a start that the configuration of an earlier one of the same cycle gave way to leaves no scan behind where MASK is wider than its field
and names no input. -/
theorem not_converterScans : ¬ Obligations.ConverterScans := by
  intro h
  obtain ⟨hon, hfab, hscan, hbad⟩ := wideMask_runs
  obtain ⟨-, hlate, -⟩ := h 0 0 { v := 0, e := 0, rs := none } 0#32 0 false wideMask
  obtain ⟨t, ht, -, -, -, -, sc, hsc, -⟩ := hlate _ ⟨hon, hfab⟩ hscan hbad rfl rfl (by decide) (by decide) rfl
  have hexec : exec (.scanStart 0 0 .software) wideMask = .next (wideMask.scanStart 0 0 false) := rfl
  obtain rfl := Host.Outcome.next.inj (ht.symm.trans hexec)
  rw [wideMask_scan] at hsc
  contradiction

end Sys2Proof.Machine
end

section
/-! Host ports: transfers whose memory lies among the words of the command ring that no agent may write. -/
namespace Sys2Proof.Machine

-- The proofs one after another: all at once they would need more threads, and their stacks, than the check's memory holds.
set_option Elab.async false

/-- The device runs in S3 with its memories powered and host port 0 UP. -/
def hostsUp : State :=
  let s := ((State.reset.setF .PMC_STAGE_STAGE 0 3).setF .HP_STAT_PSTATE 0 3).setF .HP_STAT_ENST 0 1
  { s with gated := 0#4, quadFeed := true, pmc := { porSupply := false } }

/-! The status of a frame (O17). -/

/-- A frame in transmission whose STATUS word is the first word of the command ring. -/
def ringJob : TxJob :=
  { src := .queue0, slot := 0x106FFFEC, frame := [], stamped := false, tsid := 0, tref := 0, oneStep := false, lat := 0, late := false }

/-- Port 0 is DRAINING, and that frame is in transmission. -/
def ringDrains : State := (hostsUp.setF .HP_STAT_ENST 0 2).modHp 0 (fun h => { h with last := some ringJob })

theorem ringDrains_runs : ringDrains.hpUp 0 = true ∧ ringDrains.getF .HP_STAT_ENST 0 = 2 := by decide +kernel

/-- The ring keeps its word. -/
theorem ringDrains_keeps : (ringDrains.sendJob 0 ringJob 0).word 0x10700000 = 0#32 := by decide +kernel

theorem ringDrains_exec : exec (.hostFrameSent 0 .queue0 0) ringDrains = .next (ringDrains.sendJob 0 ringJob 0) := by
  change execHostFrameSent 0 .queue0 0 ringDrains = _
  rw [execHostFrameSent, if_neg (by rw [ringDrains_runs.1]; decide)]
  rfl

/-- Refutes O17: the frame in progress of a DRAINING port may have its STATUS word in the header of the command ring, which keeps its words. -/
theorem not_hostTransmission : ¬ Obligations.HostTransmission := by
  intro h
  obtain ⟨-, -, -, -, -, -, -, -, -, -, -, -, -, -, -, hdrain, -⟩ := h 0 0 0#16 false 0 ringDrains
  obtain ⟨t, ht, hword, -⟩ := hdrain ringJob ringDrains_runs.1 ringDrains_runs.2 rfl rfl (by decide) rfl
  obtain rfl := Host.Outcome.next.inj (ht.symm.trans ringDrains_exec)
  have hkeeps := ringDrains_keeps
  rw [show (0x10700000 : Nat) = ringJob.slot + 20 from rfl, hword] at hkeeps
  exact absurd hkeeps (by decide)

/-! A received frame (O58). -/

/-- The receive ring of port 0 begins with the command ring. -/
def ringReceives : State := hostsUp.setF .HP_RQBASE_ADDR 0 0x10700

/-- The shortest frame. -/
def zeroFrame : List Byte := List.replicate 60 0#8

theorem ringReceives_runs : ringReceives.hpUp 0 = true ∧ zeroFrame.length + 4 ≤ ringReceives.maxlen 0 ∧ ringReceives.joined 0 = false ∧
    ringReceives.svEntry 0 zeroFrame = none ∧ RxRoom ringReceives 0 zeroFrame.length ∧ rxSlot ringReceives 0 = 0x10700000 := by decide +kernel

/-- What port 0 stores. -/
def ringStored : State := ringReceives.ringPut 0 zeroFrame 0 (ringReceives.stampAt 0 (-(ringReceives.getF .HP_TSLAT_RXLAT (0 : Fin 4) : Int)))

/-- The ring keeps its first byte. -/
theorem ringStored_keeps : ringStored.byte 0x10700000 = 0#8 := by decide +kernel

theorem zeroFrame_plain : rctOf zeroFrame = none ∧ isPtpEvent zeroFrame = false := by decide +kernel

theorem ringReceives_exec : exec (.hostFrameReceived 0 zeroFrame (fcsOf zeroFrame) 0) ringReceives = .next ringStored := by
  obtain ⟨hup, hlen, -, hsv, -⟩ := ringReceives_runs
  have hprp : ringReceives.prpReceive 0 zeroFrame = (some 0, ringReceives) := by rw [State.prpReceive, zeroFrame_plain.1]
  have hgood : ¬(fcsOf zeroFrame ≠ fcsOf zeroFrame ∨ zeroFrame.length + 4 < 64 ∨ ringReceives.maxlen 0 < zeroFrame.length + 4) := by
    rintro (hfcs | hshort | hlong)
    · exact hfcs rfl
    · exact absurd hshort (by decide)
    · exact absurd hlong (Nat.not_lt.mpr hlen)
  change execHostFrameReceived 0 zeroFrame (fcsOf zeroFrame) 0 ringReceives = _
  rw [execHostFrameReceived, if_neg (by rw [hup]; decide), if_neg hgood]
  simp only [hprp, hsv, zeroFrame_plain.2]
  rfl

/-- The first byte of what is read is the byte at the address. -/
theorem State.readList_head (s : State) (a k : Nat) : (s.readList a (k + 1)).head? = some (s.byte a) := rfl

/-- Refutes O58: a receive slot may begin at the header of the command ring, which keeps its words. -/
theorem not_hostReceptionAndLinks : ¬ Obligations.HostReceptionAndLinks := by
  rintro ⟨h, -⟩
  obtain ⟨hup, hlen, hjoined, hsv, hroom, hslot⟩ := ringReceives_runs
  obtain ⟨-, -, -, hplain, -⟩ := h 0 zeroFrame (fcsOf zeroFrame) 0 0 ringReceives
  obtain ⟨t, ht, ⟨hread, -⟩, -⟩ := hplain hup ⟨rfl, by decide, hlen⟩ (.inl hjoined) hsv hroom
  obtain rfl := Host.Outcome.next.inj (ht.symm.trans ringReceives_exec)
  have hwhole := hread (fun hcut => absurd hcut.1 (by simp [leBytes, zeroFrame]))
  have hfirst := congrArg List.head? hwhole
  rw [hslot, show 32 + zeroFrame.length = 91 + 1 from rfl, State.readList_head, ringStored_keeps] at hfirst
  change some 0#8 = some (BitVec.ofNat 8 (60 / 256 ^ 0)) at hfirst
  exact absurd hfirst (by decide)

end Sys2Proof.Machine
end

section
/-! The mirror's windows and the journal's execution: a window that does not begin at a word, and IMAGE_ACTIVATE in Minimal Mode. -/
namespace Sys2Proof.Machine

-- The proofs one after another: all at once they would need more threads, and their stacks, than the check's memory holds.
set_option Elab.async false

/-! A window on no word boundary (O21). -/

/-- A STANDBY device with its mirror UP, whose SSM holds an uncorrectable first word. -/
def standbyBad : State :=
  { ((hostsUp.setF .MIR_STAT_MIRUP 0 1).setF .MIR_STAT_ENST 0 1).setF .MIR_STAT_ROLE 0 2 with eccBad := [0x10000000] }

/-- The bytes of a WIN frame. -/
def zeroWindow : List Byte := List.replicate 256 0#8

theorem standbyBad_hears : standbyBad.hears = true ∧ standbyBad.role = 2 ∧
    (standbyBad.hears && (standbyBad.role == roleStandby || standbyBad.role == roleJoining) && zeroWindow.length == 256 &&
      inSsm (0x10000001#32).toNat 256) = true := by decide +kernel

/-- A window from the word's second byte on writes the word in part, and no fresh check bits. -/
theorem standbyBad_keeps : (standbyBad.mirFrame.putList 0x10000001 zeroWindow).badWord (0x10000001 + 0) = true := by decide +kernel

theorem standbyBad_exec : exec (.winFrameReceived 0x10000001#32 zeroWindow) standbyBad = .next (standbyBad.mirFrame.putList 0x10000001 zeroWindow) := by
  change execWinFrameReceived 0x10000001#32 zeroWindow standbyBad = _
  rw [execWinFrameReceived, if_pos standbyBad_hears.2.2]
  rfl

/-- Refutes O21: a WIN frame whose address is no multiple of 4 leaves the word that it begins within uncorrectable. -/
theorem not_mirrorFrameEffects : ¬ Obligations.MirrorFrameEffects := by
  intro h
  obtain ⟨-, -, -, -, -, hwin, -⟩ := h (State.reset.heartbeat 0) 0 0 0x10000001#32 zeroWindow [] [] 0#64 0#64 0#64 false standbyBad
  obtain ⟨t, ht, -, -, -, hgood, -⟩ := hwin standbyBad_hears.1 (.inl standbyBad_hears.2.1) List.length_replicate (by decide)
  obtain rfl := Host.Outcome.next.inj (ht.symm.trans standbyBad_exec)
  exact Bool.false_ne_true ((hgood 0 (by decide)).symm.trans standbyBad_keeps)

/-! IMAGE_ACTIVATE in Minimal Mode (O59). -/

/-- The device runs in S3 with MINIMAL set, and its journal holds an IMAGE_ACTIVATE to execute. -/
def minimalActivates : State :=
  { ((hostsUp.setF .PMC_STAGE_MINIMAL 0 1).setBytes (entryAddr 0 + 0xA) 0x402 2) with jnl := { State.reset.jnl with head := 1, done := 0 } }

theorem minimalActivates_runs : minimalActivates.coresRun = true ∧ minimalActivates.commanding = true ∧ minimalActivates.stage = 3 ∧
    minimalActivates.bit .JNL_STAT_REPLAYING 0 = false ∧ minimalActivates.entCode 0 = 0x402 ∧ minimalActivates.actBusy = false ∧
    (minimalActivates.coresRun && minimalActivates.commanding && minimalActivates.mayExecute) = true := by decide +kernel

/-- No activation begins. -/
theorem minimalActivates_idle : minimalActivates.noReplies.entryExecute.replayCheck.bit .CE_ACTCTRL_GO 0 = false := by decide +kernel

theorem minimalActivates_exec : exec .entryExecute minimalActivates = .next minimalActivates.noReplies.entryExecute.replayCheck := by
  change execEntryExecute minimalActivates = _
  obtain ⟨-, -, -, -, -, -, hmay⟩ := minimalActivates_runs
  rw [execEntryExecute, if_pos hmay]

/-- Refutes O59: in Minimal Mode, where a GO has no effect, an IMAGE_ACTIVATE that executes sets no GO. -/
theorem not_journalEntriesAndExecution : ¬ Obligations.JournalEntriesAndExecution := by
  rintro ⟨-, h⟩
  obtain ⟨hcores, hcmd, hstage, hrep, hcode, hbusy, -⟩ := minimalActivates_runs
  obtain ⟨-, -, -, -, -, -, -, -, -, -, -, -, -, hact, -⟩ := h 0 0#32 minimalActivates
  obtain ⟨t, ht, -, -, hgo, -⟩ := hact ⟨hcores, hcmd, ⟨by rw [hstage]; decide, .inl hrep⟩, rfl, by decide, rfl⟩ hcode hbusy
  obtain rfl := Host.Outcome.next.inj (ht.symm.trans minimalActivates_exec)
  exact absurd (minimalActivates_idle.symm.trans hgo) Bool.false_ne_true

end Sys2Proof.Machine
end

section
/-! The roles of the twins: takeover, yield, planned handover and claim (R411, R421 to R424, R428 to R430). -/
namespace Sys2Proof.Machine

-- The proofs one after another: all at once they would need more threads, and their stacks, than the check's memory holds.
set_option Elab.async false

section
variable {c : Instr} {s s' t : State} {l l' : List (Fld × Nat × Nat)}

/-- The same fields written in another order. -/
theorem SetsOn.of_setAll_order (h : exec c s = .next (s'.setAll l')) (hk : (writtenKeys l').Nodup) (hv : WritesFit l') (hregs : s'.regs = s.regs)
    (hsub : l ⊆ l') (hsup : l' ⊆ l) : SetsOn c s s' l := by
  obtain ⟨t, ht, hframe, hval, hbut⟩ := SetsOn.of_setAll h hk hv hregs
  exact ⟨t, ht, hframe, fun e he => hval e (hsub he), hbut.mono (List.map_subset _ hsup)⟩

end

/-! Leaving follow mode. -/

/-- The fields that a slew writes. -/
def slewFields : List (Fld × Nat) := [(.ATU_STAT_SLEWING, 0), (.ATU_FREQ_FREQ, 0), (.ATU_PHERR_PHERR, 0)]

/-- The ATU leaves follow mode towards a source. -/
def State.leaveSlews (s : State) : Prop := s.twin.follow = true ∧ s.src ≠ 2 ∧ s.holdover = false

theorem State.slewBegin_spec {s : State} (hfollow : s.twin.follow = false) (v : Nat) : let t := s.slewBegin v
    t = { s with regs := t.regs } ∧ RegsBut s t slewFields ∧ t.getF .ATU_STAT_SLEWING 0 = 1 := by
  rw [State.slewBegin, if_neg (by simp [hfollow])]
  refine ⟨rfl, ?_, ?_⟩
  · refine .setF (.setF (.setF (.refl s _) _ ?_) _ ?_) _ ?_ <;> decide
  · rw [State.getF_setF_ne _ _ _ _ (by decide), State.getF_setF_same]
    rfl

theorem State.leaveFollow_off {s : State} (h : s.twin.follow = false) : s.leaveFollow = s := by
  rw [State.leaveFollow, if_neg (by simp [h])]

/-- The state in which the ATU goes on from its present word. -/
def State.unfollow (s : State) : State :=
  { s with twin := { s.twin with follow := false }, atu := { s.atu with tracked := s.getF .ATU_FREQ_FREQ 0 } }

theorem State.leaveFollow_on {s : State} (h : s.twin.follow = true) :
    s.leaveFollow = if s.src = srcFree ∨ s.holdover = true then s.unfollow else s.unfollow.slewBegin s.src := by
  rw [State.leaveFollow, if_pos h]
  rfl

theorem State.leaveFollow_spec (s : State) : let t := s.leaveFollow
    t = { s with regs := t.regs, twin := { s.twin with follow := false }, atu := if s.twin.follow = true then { s.atu with tracked := s.getF .ATU_FREQ_FREQ 0 } else s.atu } ∧
    RegsBut s t slewFields ∧ (s.leaveSlews → t.getF .ATU_STAT_SLEWING 0 = 1) ∧ (¬s.leaveSlews → t.regs = s.regs) := by
  cases hfollow : s.twin.follow with
  | false =>
    have htwin : { s.twin with follow := false } = s.twin := by rw [← hfollow]
    rw [State.leaveFollow_off hfollow, htwin]
    exact ⟨rfl, .refl s _, fun h => absurd (hfollow.symm.trans h.1) Bool.false_ne_true, fun _ => rfl⟩
  | true =>
    rw [State.leaveFollow_on hfollow, if_pos rfl]
    by_cases hstay : s.src = srcFree ∨ s.holdover = true
    · rw [if_pos hstay]
      exact ⟨rfl, .refl s _, fun h => (hstay.elim h.2.1 fun hh => Bool.false_ne_true (h.2.2.symm.trans hh)).elim, fun _ => rfl⟩
    · rw [if_neg hstay]
      obtain ⟨hframe, hregs, hslew⟩ := State.slewBegin_spec (s := s.unfollow) rfl s.src
      exact ⟨hframe, hregs, fun _ => hslew, fun hno =>
        absurd ⟨hfollow, fun h => hstay (.inl h), by simpa using fun h => hstay (.inr h)⟩ hno⟩

/-! The device becomes ACTIVE. -/

/-- The fields that a new ACTIVE device sets, in the order of their writes. -/
def activeWrites (s : State) : List (Fld × Nat × Nat) :=
  [(.MIR_STAT_ROLE, 0, 3), (.PWM_STAT_OWNER, 0, 1), (.MIR_STAT_SYNCED, 0, 0), (.CLG_EPOCH_EPOCH, 0, s.nextEpoch), (.JNL_STAT_REPLAYING, 0, 1),
   (.JNL_STAT_SOLO, 0, 1), (.JNL_STAT_MIRFAIL, 0, 1)]

theorem State.nextEpoch_lt (s : State) : s.nextEpoch < 65536 := by
  unfold State.nextEpoch
  dsimp only
  split_ifs <;> exact Nat.mod_lt _ (by decide)

/-- The twin logic of a new ACTIVE device. -/
def State.activeTwin (s : State) : TwinSt :=
  { s.twin with follow := false, yieldDue := false, quiet := 0, maxEpoch := some s.nextEpoch, hoFret := none, soloDue := false, copyDone := false }

theorem State.becomeActive_eq (s : State) : s.becomeActive =
    { s.leaveFollow.setAll (activeWrites s) with twin := s.activeTwin, jnl := { s.jnl with scanned := false } } := by
  obtain ⟨hframe, -⟩ := s.leaveFollow_spec
  rw [State.becomeActive, hframe]
  rfl

theorem activeWrites_mem (s : State) (l : List (Fld × Nat × Nat)) : activeFields s ++ l ⊆ activeWrites s ++ l ∧ activeWrites s ++ l ⊆ activeFields s ++ l :=
  ⟨List.append_subset.2 ⟨fun e he => List.mem_append_left _ (by simpa [activeFields, activeWrites, or_assoc, or_comm, or_left_comm] using he), List.subset_append_right _ _⟩,
   List.append_subset.2 ⟨fun e he => List.mem_append_left _ (by simpa [activeFields, activeWrites, or_assoc, or_comm, or_left_comm] using he), List.subset_append_right _ _⟩⟩

theorem activeWrites_fit (s : State) : WritesFit (activeWrites s) := by
  simp only [activeWrites, writesFit_cons, writesFit_nil, and_true]
  exact ⟨by decide, by decide, by decide, s.nextEpoch_lt, by decide, by decide, by decide⟩

/-- The fields that a new ACTIVE device writes, `l` after them, and what of the registers changes beside them. -/
theorem State.leads_regs (s : State) {l : List (Fld × Nat × Nat)} (hk : ((activeWrites s ++ l).map Prod.fst).Nodup) (hv : WritesFit l)
    (hslew : ∀ e ∈ activeWrites s ++ l, e.1 ≠ .ATU_STAT_SLEWING) : let u := s.leaveFollow.setAll (activeWrites s ++ l)
    let named := (activeFields s ++ l).map fun x => (x.1, x.2.1)
    (∀ e ∈ activeFields s ++ l, u.getF e.1 e.2.1 = e.2.2) ∧ (s.leaveSlews → u.getF .ATU_STAT_SLEWING 0 = 1) ∧ (¬s.leaveSlews → RegsBut s u named) ∧
    RegsBut s u (named ++ slewFields) := by
  obtain ⟨-, hregs, hon, hoff⟩ := s.leaveFollow_spec
  obtain ⟨hsub, hsup⟩ := activeWrites_mem s l
  have hwritten := s.leaveFollow.setAll_regsBut (activeWrites s ++ l)
  have hnames := hwritten.mono (List.map_subset _ hsup)
  refine ⟨fun e he => ?_, fun hs => ?_, fun hs g i hg => ?_, ?_⟩
  · refine ((s.leaveFollow).getF_setAll (writtenKeys_nodup hk) e (hsub he)).trans (Nat.mod_eq_of_lt ?_)
    exact (List.mem_append.1 (hsub he)).elim (activeWrites_fit s e) (hv e)
  · refine (hwritten.getF_eq (fun e he => ?_) 0).trans (hon hs)
    obtain ⟨x, hx, rfl⟩ := List.mem_map.1 he
    exact hslew x hx
  · refine (hnames g i hg).trans ?_
    rw [State.getF, hoff hs, State.getF]
  · exact RegsBut.trans (hregs.mono (List.subset_append_right _ _)) (hnames.mono (List.subset_append_left _ _))

/-- The state of a new ACTIVE device: its writes, its twin logic and its journal, whose replay is due. -/
def State.led (s : State) (l : List (Fld × Nat × Nat)) (w : TwinSt) : State :=
  { s.leaveFollow.setAll (activeWrites s ++ l) with twin := w, jnl := { s.jnl with scanned := false } }

theorem State.led_frame (s : State) (l : List (Fld × Nat × Nat)) (w : TwinSt) : s.led l w =
    { s with regs := (s.leaveFollow.setAll (activeWrites s ++ l)).regs, twin := w, jnl := { s.jnl with scanned := false },
             atu := if s.twin.follow = true then { s.atu with tracked := s.getF .ATU_FREQ_FREQ 0 } else s.atu } := by
  obtain ⟨hframe, -⟩ := s.leaveFollow_spec
  rw [State.led, State.setAll_frame, hframe]

/-- A command that makes the device ACTIVE and writes `l` after it. -/
theorem leads_of_led {c : Instr} {s : State} {f : TwinSt → TwinSt} {l : List (Fld × Nat × Nat)} (h : exec c s = .next (s.led l (f s.activeTwin)))
    (hk : ((activeWrites s ++ l).map Prod.fst).Nodup) (hv : WritesFit l) (hslew : ∀ e ∈ activeWrites s ++ l, e.1 ≠ .ATU_STAT_SLEWING) : Leads c s f l := by
  obtain ⟨hval, hon, hoff, hall⟩ := s.leads_regs hk hv hslew
  rw [State.led_frame] at h
  generalize (s.leaveFollow.setAll (activeWrites s ++ l)) = u at h hval hon hoff hall
  exact ⟨_, h, hval, rfl, rfl, rfl, hon, hoff, rfl, hall⟩

theorem State.setAll_twinJnl (u : State) (l : List (Fld × Nat × Nat)) (w : TwinSt) (j : JnlSt) :
    State.setAll { u with twin := w, jnl := j } l = { u.setAll l with twin := w, jnl := j } := by
  induction l generalizing u with
  | nil => rfl
  | cons e l ih => exact ih (u.setF e.1 e.2.1 e.2.2)

theorem State.becomeActive_led (s : State) : s.becomeActive = s.led [] s.activeTwin := by
  rw [State.becomeActive_eq, State.led, List.append_nil]

/-- What a takeover writes after its steps 1 to 3 and 5. -/
def tookOver (s : State) : List (Fld × Nat × Nat) := [(.ATU_TWIN_TK_TK, 0, s.fretnum % 2 ^ 32), (.MIR_STAT_TKDONE, 0, 1), (.MIR_STAT_TKBLK, 0, 0)]

theorem State.takeOver_led (s : State) : s.takeOver = s.led (tookOver s) s.activeTwin := by
  have hwrites : s.takeOver = s.becomeActive.setAll (tookOver s) := by
    rw [tookOver, State.setAll_cons, show 2 ^ 32 = 2 ^ Fld.ATU_TWIN_TK_TK.width from rfl, State.setF_mod]
    rfl
  rw [hwrites, State.becomeActive_eq, State.setAll_twinJnl, ← State.setAll_append, State.led]

theorem tookOver_fit (s : State) : WritesFit (tookOver s) := by
  simp only [tookOver, writesFit_cons, writesFit_nil, and_true]
  exact ⟨Nat.mod_lt _ (by decide), by decide, by decide⟩

theorem leads_of_takeOver {c : Instr} {s : State} (h : exec c s = .next s.takeOver) : Leads c s id (tookOver s) :=
  leads_of_led (h.trans (congrArg Host.Outcome.next s.takeOver_led)) (by simp [activeWrites, tookOver]) (tookOver_fit s) (by simp [activeWrites, tookOver])

/-! The steps at a boundary. -/

section
variable {s : State}

theorem takeover_exec (hbound : s.atBoundary = true) (hrole : s.role = 2) (hmiss : s.getF .MIR_STAT_HBMISS 0 = 2) :
    exec .takeover s = .next (if s.tkBlock = 0 then s.takeOver else s.setF .MIR_STAT_TKBLK 0 s.tkBlock) := by
  change execTakeover s = _
  rw [execTakeover, if_pos hbound, State.takeoverCheck, if_pos ⟨hrole, hmiss⟩]

theorem takeover_blocked {k : Nat} (hbound : s.atBoundary = true) (hrole : s.role = 2) (hmiss : s.getF .MIR_STAT_HBMISS 0 = 2) (hk : s.tkBlock = k)
    (hpos : k ≠ 0) (hfit : k < 4) : Sets .takeover s [(.MIR_STAT_TKBLK, 0, k)] := by
  refine SetsOn.of_setAll ((takeover_exec hbound hrole hmiss).trans ?_) (by simp [writtenKeys]) ?_ rfl
  · rw [hk, if_neg hpos]
    rfl
  · simpa using hfit.trans_le (by decide : 4 ≤ 2 ^ Fld.MIR_STAT_TKBLK.width)

theorem tkBlock_unsynced (h : ¬s.twin.syncedThen = true) : s.tkBlock = 1 := by simp [State.tkBlock, h]

theorem tkBlock_stage (h : s.twin.syncedThen = true) (hs4 : s.inS4 = false) : s.tkBlock = 2 := by simp [State.tkBlock, h, hs4]

theorem tkBlock_manual (h : s.twin.syncedThen = true) (hs4 : s.inS4 = true) (hauto : ¬s.bit .MIR_CFG_AUTOTK 0 = true) : s.tkBlock = 3 := by
  simp [State.tkBlock, h, hs4, hauto]

theorem tkBlock_none (h : s.twin.syncedThen = true) (hs4 : s.inS4 = true) (hauto : s.bit .MIR_CFG_AUTOTK 0 = true) : s.tkBlock = 0 := by
  simp [State.tkBlock, h, hs4, hauto]

theorem yield_sets (hbound : s.atBoundary = true) (hrole : s.role = 3) (hyield : s.twin.yieldDue = true ∨ (s.mirUp = false ∧ 2 ≤ s.twin.quiet)) :
    SetsOn .yieldRole s { s with
      twin := { s.twin with yieldDue := false, quiet := 0, soloDue := false }, jnl := { s.jnl with waiting := [], queue := [] } }
      [(.MIR_STAT_ROLE, 0, 4), (.PWM_STAT_OWNER, 0, 0), (.MIR_STAT_SYNCED, 0, 0), (.MIR_STAT_YIELD, 0, 1)] := by
  refine SetsOn.of_setAll ?_ (by simp [writtenKeys, Fld.key_ne]) ?_ rfl
  · change execYieldRole s = _
    rw [execYieldRole, if_pos hbound, State.yieldCheck, if_pos ⟨hrole, hyield⟩]
    rfl
  · simp [show Fld.MIR_STAT_ROLE.width = 3 from rfl]

theorem yield_idle (h : s.role ≠ 3 ∨ ¬(s.twin.yieldDue = true ∨ (s.mirUp = false ∧ 2 ≤ s.twin.quiet))) : Ignores .yieldRole s := by
  change execYieldRole s = _
  have hidle : s.yieldCheck = s := by rw [State.yieldCheck, if_neg (fun hc => h.elim (fun hr => hr hc.1) fun hy => hy hc.2)]
  rw [execYieldRole, hidle, ite_self]

theorem handover_sets (hbound : s.atBoundary = true) (hrole : s.role = 3) (hho : s.bit .MIR_CTRL_HANDOVER 0 = true)
    (hat : s.getF .MIR_HOAT_AT 0 = s.fretnum) : SetsOn .plannedHandover s { s with twin := { s.twin with follow := true } }
      [(.MIR_STAT_ROLE, 0, 2), (.PWM_STAT_OWNER, 0, 0), (.MIR_CTRL_HANDOVER, 0, 0), (.ATU_STAT_SLEWING, 0, 0)] := by
  refine SetsOn.of_setAll_order (l' := [(.MIR_STAT_ROLE, 0, 2), (.PWM_STAT_OWNER, 0, 0), (.ATU_STAT_SLEWING, 0, 0), (.MIR_CTRL_HANDOVER, 0, 0)])
    ?_ (writtenKeys_nodup (by simp)) (by simp [show Fld.MIR_STAT_ROLE.width = 3 from rfl]) rfl (by simp) (by simp)
  change execPlannedHandover s = _
  rw [execPlannedHandover, if_pos hbound, State.handoverStep, if_pos ⟨hrole, hho, hat⟩]
  rfl

theorem handover_leads (hbound : s.atBoundary = true) (hrole : s.role = 2) (hfret : s.twin.hoFret = some s.fretnum) :
    Leads .plannedHandover s id (tookOver s) := by
  refine leads_of_takeOver ?_
  change execPlannedHandover s = _
  rw [execPlannedHandover, if_pos hbound, State.handoverStep, if_neg (fun h => absurd (hrole.symm.trans h.1) (by decide)), if_pos ⟨hrole, hfret⟩]

/-! What software asks. -/

theorem handoverRequest_exec (hbus : s.mirBus = true) : exec .handoverRequest s = .next s.requestHandover := by
  change execHandoverRequest s = _
  rw [execHandoverRequest, if_pos hbus]

/-- The conditions of R429 for a handover. -/
def State.mayHand (s : State) : Prop :=
  s.getF .MIR_PEER0_ROLE 0 = 2 ∧ s.twin.peerSynced = true ∧ s.mirUp = true ∧ s.inS4 = true ∧ s.getF .MIR_PEER0_STAGE 0 = 4 ∧
  4 ≤ (s.getF .MIR_HOAT_AT 0 + 2 ^ 32 - s.fretnum) % 2 ^ 32 ∧ (s.getF .MIR_HOAT_AT 0 + 2 ^ 32 - s.fretnum) % 2 ^ 32 < 2 ^ 31

theorem handoverRequest_sets (hbus : s.mirBus = true) (hrole : s.role = 3) (hmay : s.mayHand) : Sets .handoverRequest s [(.MIR_CTRL_HANDOVER, 0, 1)] := by
  obtain ⟨hpeer, hsync, hup, hs4, hstage, hlow, hhigh⟩ := hmay
  refine SetsOn.of_setAll ((handoverRequest_exec hbus).trans ?_) (by simp [writtenKeys]) (by simp) rfl
  rw [State.requestHandover, if_neg (fun h : s.role ≠ roleActive => h hrole), if_neg]
  · rfl
  · simp only [hpeer, hsync, hup, hs4, hstage, roleStandby, not_or]
    exact ⟨by simp, by simp, by simp, by simp, by simp, Nat.not_lt.2 hlow, Nat.not_le.2 hhigh⟩

theorem handoverRequest_refused (hbus : s.mirBus = true) (hrole : s.role = 3) (hmay : ¬s.mayHand) :
    Sets .handoverRequest s [(.MIR_STAT_HOERR, 0, 1), (.MIR_CTRL_HANDOVER, 0, 0)] := by
  refine SetsOn.of_setAll ((handoverRequest_exec hbus).trans ?_) (writtenKeys_nodup (by simp)) (by simp) rfl
  rw [State.requestHandover, if_neg (fun h : s.role ≠ roleActive => h hrole), if_pos]
  · rfl
  · by_contra hall
    simp only [not_or, not_not, Nat.not_lt, Nat.not_le, Bool.not_eq_false] at hall
    exact hmay hall

/-- The conditions of R430 for a claim. -/
def State.mayClaim (s : State) : Prop :=
  s.role = 1 ∧ ¬(s.mirUp = true ∧ s.twin.sideEqual = true) ∧
    ((s.mirUp = true ∧ s.twin.heard = true ∧ s.getF .MIR_PEER0_ROLE 0 ≠ 3) ∨ (s.mirUp = false ∧ s.twin.lastUp + second ≤ s.tick))

theorem State.claimRole_eq (s : State) [Decidable s.mayClaim] : s.claimRole =
    if s.mayClaim then s.becomeActive.modTwin (fun t => { t with tk := some s.fretnum }) else s.setF .MIR_STAT_CLAIMERR 0 1 := by
  rw [State.claimRole]
  exact if_congr (by simp [State.mayClaim, roleJoining, roleActive, and_assoc, imp_iff_not_or]) rfl rfl

theorem claim_exec (hbus : s.mirBus = true) : exec .claim s = .next s.claimRole := by
  change execClaim s = _
  rw [execClaim, if_pos hbus]

open Classical in
theorem claim_leads (hbus : s.mirBus = true) (hmay : s.mayClaim) : Leads .claim s (fun t => { t with tk := some s.fretnum }) [] := by
  have hled : s.claimRole = s.led [] { s.activeTwin with tk := some s.fretnum } := by
    rw [State.claimRole_eq, if_pos hmay, State.becomeActive_eq, State.led, List.append_nil]
    generalize s.leaveFollow.setAll (activeWrites s) = u
    generalize s.activeTwin = w
    rfl
  refine leads_of_led (f := fun t => { t with tk := some s.fretnum }) (l := []) ?_ (by simp [activeWrites]) writesFit_nil (by simp [activeWrites])
  rw [claim_exec hbus, hled]

open Classical in
theorem claim_refused (hbus : s.mirBus = true) (hmay : ¬s.mayClaim) : Sets .claim s [(.MIR_STAT_CLAIMERR, 0, 1)] := by
  refine SetsOn.of_setAll ((claim_exec hbus).trans ?_) (by simp [writtenKeys]) (by simp) rfl
  rw [State.claimRole_eq, if_neg hmay]
  rfl

end

/-- Settles O22: from what `becomeActive` writes, and the writes of the other role changes. -/
theorem twinRoleChanges : Obligations.TwinRoleChanges := by
  intro p s takes bound missed sync auto yields ahead mayHand mayClaim bus own top
  have hparity (m q : Nat) (hm : (match s.twin.maxEpoch with | some e => epochMax own e | none => own) = m) :
      s.nextEpoch = if (m + 1) % 65536 % 2 = s.getF .MIR_CFG_SIDE 0 then (m + 1) % 65536 else ((m + 1) % 65536 + 1) % 65536 := by
    subst hm
    rfl
  refine ⟨fun hp htop hside => ?_, fun hp htop hside => ?_, fun ⟨hb, hr, hm⟩ hs hs4 ha => ?_, fun ⟨hb, hr, hm⟩ hs => ?_, fun ⟨hb, hr, hm⟩ hs hs4 => ?_,
    fun ⟨hb, hr, hm⟩ hs hs4 ha => ?_, fun hb => ?_, yield_sets, yield_idle, handover_sets, handover_leads, fun hb => ?_, fun hb hr hmay => ?_,
    fun hb hr hmay => ?_, fun hb hmay => ?_, fun hb hmay => ?_⟩
  · rw [hparity p p htop, if_pos (by omega)]
  · rw [hparity p p htop, if_neg (by omega)]
    omega
  · refine leads_of_takeOver ((takeover_exec hb hr hm).trans ?_)
    rw [if_pos (tkBlock_none hs hs4 ha)]
  · exact takeover_blocked hb hr hm (tkBlock_unsynced hs) (by decide) (by decide)
  · exact takeover_blocked hb hr hm (tkBlock_stage hs hs4) (by decide) (by decide)
  · exact takeover_blocked hb hr hm (tkBlock_manual hs hs4 ha) (by decide) (by decide)
  · have hidle (u : State) : (if s.atBoundary then u else s) = s := if_neg hb
    exact List.forall_mem_cons.2 ⟨congrArg Host.Outcome.next (hidle _), List.forall_mem_cons.2 ⟨congrArg Host.Outcome.next (hidle _),
      List.forall_mem_cons.2 ⟨congrArg Host.Outcome.next (hidle _), List.forall_mem_nil _⟩⟩⟩
  · have hidle (u : State) : (if s.mirBus then u else s) = s := if_neg hb
    exact List.forall_mem_cons.2 ⟨congrArg Host.Outcome.next (hidle _), List.forall_mem_cons.2 ⟨congrArg Host.Outcome.next (hidle _), List.forall_mem_nil _⟩⟩
  · exact handoverRequest_sets hb hr hmay
  · exact handoverRequest_refused hb hr hmay
  · exact claim_leads hb hmay
  · exact claim_refused hb hmay

end Sys2Proof.Machine
end

section
/-! The security unit: tokens, the challenge, the floors, tamper events and verifications (R469 to R472, R476 to R478, R481, R482, R486). -/
namespace Sys2Proof.Machine

-- The proofs one after another: all at once they would need more threads, and their stacks, than the check's memory holds.
set_option Elab.async false

/-! What the clocks and the stage say over a write of another field. -/

/-- The fields that the clocks' conditions read. -/
def clockNames : List Fld := [.CLK_LOSS_ACTIVE, .PMC_STAGE_STAGE, .THERM_STAT_SHUTLAT]

section
variable {f : Fld} (hf : f ∉ clockNames) (s : State) (i v : Nat)
include hf

theorem State.getF_setF_clock {g : Fld} (hg : g ∈ clockNames) (j : Nat) : (s.setF f i v).getF g j = s.getF g j :=
  s.getF_setF_ne _ _ _ fun h => hf (h ▸ hg)

theorem State.stage_setF : (s.setF f i v).stage = s.stage := s.getF_setF_clock hf i v (by simp [clockNames]) 0

theorem State.awake_setF : (s.setF f i v).awake = s.awake := by
  rw [State.awake, s.getF_setF_clock hf i v (by simp [clockNames]), State.awake]

theorem State.coresRun_setF : (s.setF f i v).coresRun = s.coresRun := by
  rw [State.coresRun, s.awake_setF hf, State.clockLost, State.bit, State.bit, s.getF_setF_clock hf i v (by simp [clockNames]),
    s.getF_setF_clock hf i v (by simp [clockNames])]
  rfl

theorem State.sysRuns_setF : (s.setF f i v).sysRuns = s.sysRuns := by
  rw [State.sysRuns, State.clockLost, State.bit, State.bit, s.getF_setF_clock hf i v (by simp [clockNames]),
    s.getF_setF_clock hf i v (by simp [clockNames])]
  rfl

theorem State.fabBus_setF : (s.setF f i v).fabBus = s.fabBus := by
  rw [State.fabBus, State.busRuns, s.sysRuns_setF hf, s.awake_setF hf, State.fabRuns, s.awake_setF hf]
  rfl

end

/-- A field that a command does not write keeps its value, and may be listed with it. -/
theorem SetsOn.keeps {c : Instr} {s s' : State} {l : List (Fld × Nat × Nat)} {f : Fld} (h : SetsOn c s s' l) (hf : f ∉ l.map Prod.fst) (i : Nat) :
    SetsOn c s s' (l ++ [(f, i, s.getF f i)]) := by
  obtain ⟨t, ht, hframe, hval, hbut⟩ := h
  refine ⟨t, ht, hframe, List.forall_mem_append.2 ⟨hval, List.forall_mem_singleton.2 ?_⟩, hbut.mono (by simp)⟩
  refine hbut.getF_eq (fun e he heq => hf ?_) i
  obtain ⟨x, hx, rfl⟩ := List.mem_map.1 he
  exact List.mem_map.2 ⟨x, hx, heq⟩

/-! The verdict on an object. -/

theorem State.secCheck_le (s : State) (l : List Nat) (o : List Byte) : s.secCheck l o ≤ 8 := by
  unfold State.secCheck
  dsimp only
  split_ifs <;> decide

/-- An object without the magic of Table 19-1. -/
theorem State.secCheck_magic (s : State) (l : List Nat) {o : List Byte} (h : leNat (o.take 4) ≠ 0x53474F41) : s.secCheck l o = 1 := by
  rw [State.secCheck, if_pos (.inl h)]

/-! Tokens (R472, R481). -/

section
variable {s : State} {obj : List Byte}

theorem State.judgeToken_fails (h : s.secCheck [tyToken] obj ≠ 0) :
    s.judgeToken obj = s.setAll [(.SEC_STAT_LASTRES, 0, s.secCheck [tyToken] obj)] := by
  rw [State.judgeToken]
  exact if_pos h

/-- What a token that passes writes. -/
def granted (s : State) (obj : List Byte) : List (Fld × Nat × Nat) :=
  [(.SEC_STAT_LASTRES, 0, 0), (.DBG_STAT_LEVEL, 0, tokenLevel obj), (.DBG_STAT_S4OK, 0, b2n (tokenS4ok obj)), (.DBG_STAT_UNLOCKED, 0, 1),
    (.DBG_STAT_UNLOCKS, 0, min (2 ^ Fld.DBG_STAT_UNLOCKS.width - 1) (s.getF .DBG_STAT_UNLOCKS 0 + 1))]

theorem State.setAll_logEvent (s : State) (l : List (Fld × Nat × Nat)) (e : LogEv) : (s.logEvent e).setAll l = (s.setAll l).logEvent e := by
  induction l generalizing s with
  | nil => rfl
  | cons x l ih => exact ih (s.setF x.1 x.2.1 x.2.2)

theorem State.judgeToken_passes (h : s.secCheck [tyToken] obj = 0) : s.judgeToken obj = (s.logEvent .debugUnlock).setAll (granted s obj) := by
  have hcount (a b c d : Nat) : (((((s.setF .SEC_STAT_LASTRES 0 a).setF .DBG_STAT_LEVEL 0 b).setF .DBG_STAT_S4OK 0 c).setF .DBG_STAT_UNLOCKED 0 d)).getF
      .DBG_STAT_UNLOCKS 0 = s.getF .DBG_STAT_UNLOCKS 0 := by
    rw [State.getF_setF_ne _ _ _ _ (by decide), State.getF_setF_ne _ _ _ _ (by decide), State.getF_setF_ne _ _ _ _ (by decide),
      State.getF_setF_ne _ _ _ _ (by decide)]
  rw [State.judgeToken, if_neg (not_not_intro h), h, State.countF, State.setBit, hcount, State.setAll_logEvent, granted]
  generalize min (2 ^ Fld.DBG_STAT_UNLOCKS.width - 1) _ = n
  simp only [State.setAll_cons, State.setAll_nil]

theorem debugToken_free (hruns : s.coresRun = true) (hjob : s.sec.job = none) : exec (.debugToken obj) s = .next (s.judgeToken obj) := by
  change execDebugToken obj s = _
  rw [execDebugToken, hruns, hjob]
  rfl

theorem debugToken_fails (hruns : s.coresRun = true) (hjob : s.sec.job = none) (h : s.secCheck [tyToken] obj ≠ 0) :
    Sets (.debugToken obj) s [(.SEC_STAT_LASTRES, 0, s.secCheck [tyToken] obj)] := by
  refine SetsOn.of_setAll ((debugToken_free hruns hjob).trans (by rw [State.judgeToken_fails h])) (by simp [writtenKeys]) ?_ rfl
  exact List.forall_mem_singleton.2 ((s.secCheck_le _ _).trans_lt (show 8 < 2 ^ Fld.SEC_STAT_LASTRES.width by decide))

theorem granted_fit (s : State) (obj : List Byte) : WritesFit (granted s obj) := by
  have hlevel : tokenLevel obj < 2 ^ 4 := Nat.mod_lt _ (by decide)
  have hcount : min (2 ^ Fld.DBG_STAT_UNLOCKS.width - 1) (s.getF .DBG_STAT_UNLOCKS 0 + 1) < 2 ^ Fld.DBG_STAT_UNLOCKS.width :=
    (Nat.min_le_left _ _).trans_lt (Nat.sub_one_lt (Nat.two_pow_pos _).ne')
  simp only [granted, writesFit_cons, writesFit_nil, Fld.b2n_lt, Fld.one_lt, and_true, true_and]
  exact ⟨Nat.two_pow_pos _, hlevel, hcount⟩

theorem debugToken_grants (hruns : s.coresRun = true) (hjob : s.sec.job = none) (h : s.secCheck [tyToken] obj = 0) :
    SetsOn (.debugToken obj) s { s with pmc := { s.pmc with log := s.pmc.log ++ [.debugUnlock] } } (granted s obj) :=
  SetsOn.of_setAll ((debugToken_free hruns hjob).trans (congrArg Host.Outcome.next (State.judgeToken_passes h))) (writtenKeys_nodup (by simp [granted])) (granted_fit s obj) rfl

end

/-! The challenge (R481, R486). -/

/-- One word of the challenge drawn. -/
def State.drawWord (s : State) (k : Fin 8) : State := s.draw.2.setF .DBG_CHAL_CHAL k s.draw.1.toNat

theorem State.foldl_drawWord (l : List (Fin 8)) : ∀ s : State, let t := l.foldl State.drawWord s
    t = { s with regs := t.regs, free := s.free + l.length } ∧ RegsBut s t ((List.range 8).map (fun k => (Fld.DBG_CHAL_CHAL, k))) := by
  induction l with
  | nil => exact fun s => ⟨rfl, .refl s _⟩
  | cons k l ih =>
    intro s
    obtain ⟨hframe, hregs⟩ := ih (s.drawWord k)
    rw [List.foldl_cons, List.length_cons, show s.free + (l.length + 1) = s.free + 1 + l.length by omega]
    generalize l.foldl State.drawWord (s.drawWord k) = t at hframe hregs ⊢
    refine ⟨hframe, RegsBut.trans ?_ hregs⟩
    exact RegsBut.setF (t := s.draw.2) (fun _ _ _ => rfl) _ (List.mem_map.2 ⟨k, List.mem_range.2 k.isLt, rfl⟩)

theorem State.drawChallenge_spec (s : State) : let t := s.drawChallenge
    t = { s with regs := t.regs, free := s.free + 8, sec := { s.sec with chalOk := true } } ∧
    RegsBut s t ((List.range 8).map (fun k => (Fld.DBG_CHAL_CHAL, k))) := by
  obtain ⟨hframe, hregs⟩ := State.foldl_drawWord (List.finRange 8) s
  have hdraw : s.drawChallenge = ((List.finRange 8).foldl State.drawWord s).modSec (fun c => { c with chalOk := true }) := rfl
  rw [List.length_finRange] at hframe
  rw [hdraw]
  generalize (List.finRange 8).foldl State.drawWord s = t at hframe hregs
  exact ⟨congrArg (fun u : State => u.modSec (fun c => { c with chalOk := true })) hframe, hregs⟩

theorem dbgChalRead_draws {ag : Agent} {s : State} (hc : s.canAccess ag 0x40160020 = true) (hr : chalReader ag = true) :
    Answers (.dbgChalRead ag) s (fun t =>
      t.sec = { s.sec with chalOk := true } ∧ t.resp = ⟨BitVec.ofNat 32 (t.getF .DBG_CHAL_CHAL 0), [], false⟩ ∧
      t = { s with regs := t.regs, free := s.free + 8, sec := t.sec, resp := t.resp } ∧
      RegsBut s t ((List.range 8).map (fun k => (Fld.DBG_CHAL_CHAL, k)))) := by
  obtain ⟨hframe, hregs⟩ := s.drawChallenge_spec
  have hexec : exec (.dbgChalRead ag) s = .next (s.drawChallenge.answer (BitVec.ofNat 32 (s.drawChallenge.getF .DBG_CHAL_CHAL 0))) := by
    change execDbgChalRead ag s = _
    rw [execDbgChalRead, hc, if_neg (by decide), if_pos hr]
  generalize s.drawChallenge = u at hexec hframe hregs
  have hsec : u.sec = { s.sec with chalOk := true } := congrArg State.sec hframe
  refine ⟨_, hexec, hsec, rfl, ?_, hregs⟩
  rw [show (u.answer (BitVec.ofNat 32 (u.getF .DBG_CHAL_CHAL 0))).sec = { s.sec with chalOk := true } from hsec]
  exact congrArg (fun x : State => x.answer (BitVec.ofNat 32 (u.getF .DBG_CHAL_CHAL 0))) hframe

theorem dbgChalRead_errs {ag : Agent} {s : State} (hc : s.canAccess ag 0x40160020 = true) (hr : chalReader ag = false) :
    Answers (.dbgChalRead ag) s (fun t =>
    t.resp.err = true ∧ t.getF .SYS_BUSERR_COUNT 0 = min 255 (s.getF .SYS_BUSERR_COUNT 0 + 1) ∧ t.bit .SYS_BUSERR_VALID 0 = true ∧
    (s.bit .SYS_BUSERR_VALID 0 = false → t.getF .SYS_BUSERR_CAUSE 0 = (if ag = .saf then causeUnmapped else causeDmareg) ∧
      t.getF .SYS_BUSADDRLO_ADDR 0 = 0x40160020) ∧
    t = { s with regs := t.regs, resp := t.resp } ∧
    RegsBut s t [(.SYS_BUSERR_COUNT, 0), (.SYS_BUSERR_VALID, 0), (.SYS_BUSERR_CAUSE, 0), (.SYS_BUSERR_AGENT, 0), (.SYS_BUSADDRLO_ADDR, 0),
      (.SYS_BUSADDRHI_ADDR, 0), (.SYS_BUSADDRHI_WRITE, 0)]) := by
  have hcause : (if ag = .saf then causeUnmapped else causeDmareg) < 16 := by split_ifs <;> decide
  have hexec : exec (.dbgChalRead ag) s = .next ((s.setAll []).busError (if ag = .saf then causeUnmapped else causeDmareg) ag 0x40160020 false) := by
    change execDbgChalRead ag s = _
    rw [execDbgChalRead, hc, if_neg (by decide), if_neg (by simp [hr])]
    rfl
  generalize (if ag = .saf then causeUnmapped else causeDmareg) = cause at hcause hexec ⊢
  obtain ⟨hheld, hfree⟩ := SetsOn.of_busError hexec (by simp [busFields]) (by simp) hcause (by decide)
  cases hv : s.bit .SYS_BUSERR_VALID 0 with
  | true =>
    obtain ⟨t, ht, hframe, hval, hregs⟩ := hheld hv
    have hresp : t.resp = ⟨0#32, [], true⟩ := congrArg State.resp hframe
    refine ⟨t, ht, by rw [hresp], hval (.SYS_BUSERR_COUNT, 0, _) (by simp), ?_, nofun, hresp ▸ hframe, hregs.mono (by simp)⟩
    rw [State.bit, hregs.getF_eq (by simp), ← State.bit, hv]
  | false =>
    obtain ⟨t, ht, hframe, hval, hregs⟩ := hfree hv
    have hresp : t.resp = ⟨0#32, [], true⟩ := congrArg State.resp hframe
    refine ⟨t, ht, by rw [hresp], hval (.SYS_BUSERR_COUNT, 0, _) (by simp), ?_, fun _ => ⟨hval (.SYS_BUSERR_CAUSE, 0, cause) ?_, hval (.SYS_BUSADDRLO_ADDR, 0, 0x40160020) ?_⟩,
      hresp ▸ hframe, hregs.mono (by simp [busFields])⟩
    · exact beq_iff_eq.2 (hval (.SYS_BUSERR_VALID, 0, 1) (by simp [busFields]))
    · simp [busFields]
    · simp [busFields]

/-! The floor of the engines' images (R476). -/

/-- The floor raised at tick `due`. -/
def State.floorRaised (s : State) (due a : Nat) : State :=
  (s.passTo due).modSec (fun c => { c with arbEng := s.sec.arbEng.raise a, engPend := none })

/-- An image staged below the floor loses its approval. -/
def State.dropStaged (s : State) (floor : Nat) (n : Fin 24) : State := if (s.ce[n]).stgArb < floor then s.setF .CE_STAT_STGOK n 0 else s

/-- The approvals of the staged images. -/
def stagedKeys : List (Fld × Nat) := (List.finRange 24).map (fun n => (Fld.CE_STAT_STGOK, n.val))

theorem State.floorRaised_spec (s : State) (due a : Nat) : let t := s.floorRaised due a
    t = { s.passTo due with
      sec := { s.sec with arbEng := { s.sec.arbEng with mirror := max s.sec.arbEng.mirror (min 63 a) }, engPend := none } } ∧ t.ce = s.ce ∧
    ∀ f i, t.getF f i = s.getF f i := by
  have hsec : (s.passTo due).sec = s.sec := by rw [State.passTo_frame]
  have hce : (s.passTo due).ce = s.ce := by rw [State.passTo_frame]
  refine ⟨?_, hce, fun f i => s.getF_passTo _ f i⟩
  rw [State.floorRaised, State.modSec, hsec]
  rfl

theorem State.dropStaged_spec (s : State) (floor : Nat) : let t := forIdx (n := 24) (fun n t => t.dropStaged floor n) s
    t = { s with regs := t.regs } ∧ RegsBut s t stagedKeys ∧
    ∀ n : Fin 24, t.getF .CE_STAT_STGOK n = if (s.ce[n]).stgArb < floor then 0 else s.getF .CE_STAT_STGOK n := by
  obtain ⟨⟨hframe, hbut⟩, heach⟩ := forIdx_each (f := fun n t => t.dropStaged floor n) (s := s) (fun i t => t.getF .CE_STAT_STGOK i)
    (fun t => t = { s with regs := t.regs } ∧ RegsBut s t stagedKeys)
    (fun n v => v = if (s.ce[n]).stgArb < floor then 0 else s.getF .CE_STAT_STGOK n) ⟨rfl, .refl s _⟩ fun t n ht hn => by
      obtain ⟨hframe, hbut⟩ := ht
      have hce : t.ce = s.ce := by rw [hframe]
      rw [State.dropStaged, hce]
      by_cases h : (s.ce[n]).stgArb < floor
      · rw [if_pos h, if_pos h]
        refine ⟨⟨congrArg (fun u : State => u.setF .CE_STAT_STGOK n 0) hframe, hbut.setF 0 (List.mem_map.2 ⟨n, List.mem_finRange n, rfl⟩)⟩, ?_, fun j hj => ?_⟩
        · rw [State.getF_setF_same, Nat.zero_mod]
        · exact t.getF_setF_fin .CE_STAT_STGOK (by decide) hj 0
      · rw [if_neg h, if_neg h]
        exact ⟨⟨hframe, hbut⟩, hn, fun _ _ => rfl⟩
  exact ⟨hframe, hbut, heach⟩

theorem engFloorRaise_spec {s : State} {a due : Nat} (ha : s.sec.engPend = some a) (hdue : s.sec.engAt + s.startOk = due) : let up := max s.sec.arbEng.mirror (min 63 a)
    Answers .engFloorRaise s (fun t =>
    t.sec = { s.sec with arbEng := { s.sec.arbEng with mirror := up }, engPend := none } ∧
    (∀ n : Fin 24, t.getF .CE_STAT_STGOK n =
      if max s.sec.arbEng.fuses s.sec.arbEng.mirror < max s.sec.arbEng.fuses up ∧ (s.ce[n]).stgArb < max s.sec.arbEng.fuses up then 0
      else s.getF .CE_STAT_STGOK n) ∧
    t = { s.passTo due with regs := t.regs, sec := t.sec } ∧ RegsBut s t stagedKeys) := by
  intro up
  have hexec : exec .engFloorRaise s = .next (if max s.sec.arbEng.fuses s.sec.arbEng.mirror < max s.sec.arbEng.fuses up then
      forIdx (n := 24) (fun n t => t.dropStaged (max s.sec.arbEng.fuses up) n) (s.floorRaised due a) else s.floorRaised due a) := by
    change execEngFloorRaise s = _
    rw [execEngFloorRaise, ha, hdue]
    rfl
  obtain ⟨hframe, hce, hregs⟩ := s.floorRaised_spec due a
  obtain ⟨hframe', hbut, heach⟩ := (s.floorRaised due a).dropStaged_spec (max s.sec.arbEng.fuses up)
  have hsec := congrArg State.sec hframe
  generalize s.floorRaised due a = u at *
  generalize forIdx (n := 24) (fun n t => t.dropStaged (max s.sec.arbEng.fuses up) n) u = v at *
  by_cases h : max s.sec.arbEng.fuses s.sec.arbEng.mirror < max s.sec.arbEng.fuses up
  · rw [if_pos h] at hexec
    have hsec' : v.sec = u.sec := by rw [hframe']
    refine ⟨v, hexec, hsec'.trans hsec, fun n => ?_, ?_, fun f i hi => (hbut f i hi).trans (hregs f i)⟩
    · rw [heach n, hce, hregs]
      exact if_congr (by simp [h]) rfl rfl
    · rw [hsec', hsec]
      rw [hframe] at hframe'
      exact hframe'
  · rw [if_neg h] at hexec
    refine ⟨u, hexec, hsec, fun n => ?_, ?_, fun f i _ => hregs f i⟩
    · rw [if_neg (fun h' => h h'.1), hregs]
    · rw [hsec]
      exact hframe.trans (by rw [hframe])

theorem engFloorRaise_none {s : State} (h : s.sec.engPend = none) : Ignores .engFloorRaise s := by
  change execEngFloorRaise s = _
  rw [execEngFloorRaise, h]

/-! Tamper events (R482). -/

/-- Every session key is erased. -/
def State.wiped (s : State) : State :=
  { s with jnl := { s.jnl with sessions := s.jnl.sessions.map (fun x => { x with key := none, newKey := none }) } }

/-- The fields of a tamper event, the block excepted. -/
def tamperFields (s : State) : List (Fld × Nat × Nat) :=
  [(.SEC_TAMP_COUNT, 0, min (2 ^ Fld.SEC_TAMP_COUNT.width - 1) (s.getF .SEC_TAMP_COUNT 0 + 1)), (.DBG_STAT_LEVEL, 0, 0), (.DBG_STAT_S4OK, 0, 0),
    (.DBG_STAT_UNLOCKED, 0, 0)]

/-- The firmware requests a block. -/
def State.tamperBlocks (s : State) : Bool := s.bit .SEC_TAMPCFG_BLOCK 0 && decide (2 ≤ s.stage) && s.coresRun && s.fabBus

theorem State.tamperBlocks_iff (s : State) :
    s.tamperBlocks = true ↔ s.bit .SEC_TAMPCFG_BLOCK 0 = true ∧ 2 ≤ s.stage ∧ s.coresRun = true ∧ s.fabBus = true := by
  simp [State.tamperBlocks, and_assoc]

theorem State.tamperBlocks_setF (s : State) {f : Fld} (hf : f ∉ .SEC_TAMPCFG_BLOCK :: clockNames) (i v : Nat) :
    (s.setF f i v).tamperBlocks = s.tamperBlocks := by
  obtain ⟨hb, hc⟩ := not_or.1 (mt List.mem_cons.2 hf)
  rw [State.tamperBlocks, State.bit_setF_ne _ _ _ _ fun h => hb h.symm, s.stage_setF hc, s.coresRun_setF hc, s.fabBus_setF hc, State.tamperBlocks]

theorem State.setAll_wiped (s : State) (l : List (Fld × Nat × Nat)) : s.wiped.setAll l = (s.setAll l).wiped := by
  induction l generalizing s with
  | nil => rfl
  | cons x l ih => exact ih (s.setF x.1 x.2.1 x.2.2)

theorem State.tamper_eq (s : State) : s.tamper = s.wiped.setAll (tamperFields s ++ if s.tamperBlocks then [(.TRIP_LAT2_SUP, 0, 1)] else []) := by
  have hblock : (s.setAll (tamperFields s)).wiped.setAll (if s.tamperBlocks then [(.TRIP_LAT2_SUP, 0, 1)] else []) = s.tamper := by
    rw [State.tamper, State.tamperBlocks]
    split_ifs with hb hb' hb'
    · rfl
    · exact absurd hb hb'
    · exact absurd hb' hb
    · rfl
  rw [State.setAll_wiped, State.setAll_append, ← State.setAll_wiped, hblock]

theorem tamperFields_fit (s : State) : WritesFit (tamperFields s) := by
  have hcount : min (2 ^ Fld.SEC_TAMP_COUNT.width - 1) (s.getF .SEC_TAMP_COUNT 0 + 1) < 2 ^ Fld.SEC_TAMP_COUNT.width :=
    (Nat.min_le_left _ _).trans_lt (Nat.sub_one_lt (Nat.two_pow_pos _).ne')
  simp only [tamperFields, writesFit_cons, writesFit_nil, and_true]
  exact ⟨hcount, Nat.two_pow_pos _, Nat.two_pow_pos _, Nat.two_pow_pos _⟩

/-- The same fields listed in another order. -/
theorem SetsOn.perm {c : Instr} {s s' : State} {l l' : List (Fld × Nat × Nat)} (h : SetsOn c s s' l') (hp : l'.Perm l) : SetsOn c s s' l := by
  obtain ⟨t, ht, hframe, hval, hbut⟩ := h
  exact ⟨t, ht, hframe, fun e he => hval e (hp.symm.subset he), hbut.mono (List.map_subset _ hp.subset)⟩

/-- A command that writes `pre` and is then a tamper event. -/
theorem SetsOn.of_tamper {c : Instr} {s : State} {pre : List (Fld × Nat × Nat)} (hexec : exec c s = .next (s.setAll pre).tamper)
    (hpre : ∀ e ∈ pre, e.1 ∈ [Fld.SEC_TAMP_PIN, .SEC_TAMP_PINLVL, .SEC_TAMP_GLITCH]) (hnd : (pre.map Prod.fst).Nodup) (hfit : WritesFit pre) :
    SetsOn c s s.wiped (tamperFields s ++ [(.TRIP_LAT2_SUP, 0, if s.tamperBlocks then 1 else s.getF .TRIP_LAT2_SUP 0)] ++ pre) := by
  have hget {g : Fld} (hg : g ∉ [Fld.SEC_TAMP_PIN, .SEC_TAMP_PINLVL, .SEC_TAMP_GLITCH]) : (s.setAll pre).getF g 0 = s.getF g 0 :=
    (s.setAll_regsBut pre).getF_eq (fun e he heq => by
      obtain ⟨x, hx, rfl⟩ := List.mem_map.1 he
      exact hg (heq ▸ hpre x hx)) 0
  have hblocks : (s.setAll pre).tamperBlocks = s.tamperBlocks := by
    refine List.foldlRecOn (motive := fun t : State => t.tamperBlocks = s.tamperBlocks) pre _ rfl fun t ht e he => ?_
    rw [t.tamperBlocks_setF (by have := hpre e he; revert this; generalize e.1 = f; revert f; decide), ht]
  have hfields : tamperFields (s.setAll pre) = tamperFields s := by
    rw [tamperFields, tamperFields, hget (by decide)]
  rw [State.tamper_eq, hblocks, hfields, State.setAll_wiped, ← State.setAll_append, ← State.setAll_wiped] at hexec
  have hapart : ∀ f ∈ [Fld.SEC_TAMP_PIN, .SEC_TAMP_PINLVL, .SEC_TAMP_GLITCH], f ∉ (tamperFields s).map Prod.fst ∧ f ≠ .TRIP_LAT2_SUP := by
    simp [tamperFields]
  have hpast {f : Fld} (hf : f ∈ pre.map Prod.fst) : f ∉ (tamperFields s).map Prod.fst ∧ f ≠ .TRIP_LAT2_SUP := by
    obtain ⟨x, hx, rfl⟩ := List.mem_map.1 hf
    exact hapart _ (hpre x hx)
  have hkeys : ((pre ++ tamperFields s).map Prod.fst).Nodup := by
    rw [List.map_append]
    exact List.nodup_append.2 ⟨hnd, by simp [tamperFields], fun f hf g hg heq => (hpast hf).1 (heq ▸ hg)⟩
  have hsup : Fld.TRIP_LAT2_SUP ∉ (pre ++ tamperFields s).map Prod.fst := by
    rw [List.map_append, List.mem_append]
    exact fun h => h.elim (fun h => (hpast h).2 rfl) (by simp [tamperFields])
  have hfits : WritesFit (pre ++ tamperFields s) := List.forall_mem_append.2 ⟨hfit, tamperFields_fit s⟩
  cases hb : s.tamperBlocks with
  | true =>
    rw [hb, if_pos rfl] at hexec
    rw [← List.append_assoc] at hexec
    have hwritten := SetsOn.of_setAll hexec (writtenKeys_nodup ?_) (List.forall_mem_append.2 ⟨hfits, List.forall_mem_singleton.2 (Fld.one_lt _)⟩) rfl
    · rw [List.append_assoc] at hwritten
      exact hwritten.perm List.perm_append_comm
    · rw [List.map_append]
      exact hkeys.append (List.nodup_singleton _) (List.disjoint_singleton.2 hsup)
  | false =>
    rw [hb, if_neg (by decide), List.append_nil] at hexec
    have hwritten := (SetsOn.of_setAll hexec (writtenKeys_nodup hkeys) hfits rfl).keeps hsup 0
    rw [List.append_assoc] at hwritten
    exact hwritten.perm List.perm_append_comm

theorem tamperPin_low {s : State} (hpin : s.bit .SEC_TAMP_PINLVL 0 = false) (hruns : s.aonRuns = true) : SetsOn .tamperPin s s.wiped
    (tamperFields s ++ [(.TRIP_LAT2_SUP, 0, if s.tamperBlocks then 1 else s.getF .TRIP_LAT2_SUP 0)] ++ [(.SEC_TAMP_PIN, 0, 1), (.SEC_TAMP_PINLVL, 0, 1)]) := by
  have hexec : exec .tamperPin s = .next (s.setAll [(.SEC_TAMP_PINLVL, 0, 1), (.SEC_TAMP_PIN, 0, 1)]).tamper := by
    change execTamperPin s = _
    rw [execTamperPin, hpin, if_neg (by decide)]
    exact congrArg Host.Outcome.next (if_pos hruns)
  exact (SetsOn.of_tamper hexec (by simp) (by simp) (by simp)).perm (List.Perm.append_left _ (List.Perm.swap _ _ _))

theorem tamperPin_low_off {s : State} (hpin : s.bit .SEC_TAMP_PINLVL 0 = false) (hruns : s.aonRuns = false) : Sets .tamperPin s [(.SEC_TAMP_PINLVL, 0, 1)] := by
  have hexec : exec .tamperPin s = .next (s.setAll [(.SEC_TAMP_PINLVL, 0, 1)]) := by
    change execTamperPin s = _
    rw [execTamperPin, hpin, if_neg (by decide)]
    exact congrArg Host.Outcome.next (if_neg (by simp [hruns]))
  exact SetsOn.of_setAll hexec (by simp [writtenKeys]) (by simp) rfl

theorem tamperPin_high {s : State} (hpin : s.bit .SEC_TAMP_PINLVL 0 = true) : Sets .tamperPin s [(.SEC_TAMP_PINLVL, 0, 0)] := by
  have hexec : exec .tamperPin s = .next (s.setAll [(.SEC_TAMP_PINLVL, 0, 0)]) := by
    change execTamperPin s = _
    rw [execTamperPin, hpin, if_pos rfl]
    rfl
  exact SetsOn.of_setAll hexec (by simp [writtenKeys]) (by simp) rfl

theorem supplyGlitch_on {s : State} (hruns : s.aonRuns = true) : SetsOn .supplyGlitch s s.wiped
    (tamperFields s ++ [(.TRIP_LAT2_SUP, 0, if s.tamperBlocks then 1 else s.getF .TRIP_LAT2_SUP 0)] ++ [(.SEC_TAMP_GLITCH, 0, 1)]) := by
  have hexec : exec .supplyGlitch s = .next (s.setAll [(.SEC_TAMP_GLITCH, 0, 1)]).tamper := by
    change execSupplyGlitch s = _
    rw [execSupplyGlitch, hruns, if_pos rfl]
    rfl
  exact SetsOn.of_tamper hexec (by simp) (by simp) (by simp)

/-! A verification completes (R472). -/

/-- The registers that follow the journal. -/
def jnlKeys : List (Fld × Nat) := [(.JNL_HEADLO_HEAD, 0), (.JNL_HEADHI_HEAD, 0), (.JNL_DONELO_DONE, 0), (.JNL_DONEHI_DONE, 0), (.JNL_USED_USED, 0),
  (.JNL_STAT_SESSIONS, 0), (.JNL_STAT_REPLAYING, 0)]

/-- The journal's own state, its entries at `mem` and the registers that follow it, and nothing else, may differ from `s`. -/
def JournalStep (s t : State) (mem : List Host.Cell) : Prop := t = { s with regs := t.regs, mem := mem, jnl := t.jnl } ∧ RegsBut s t jnlKeys

theorem State.setList_frame (s : State) (a : Nat) (l : List Byte) : s.setList a l = { s with mem := (s.setList a l).mem } := by
  induction l generalizing s a with
  | nil => rfl
  | cons b l ih => exact ih (s.setByte a b) (a + 1)

/-- A list is written into memory alike in every state with the same memory. -/
theorem State.setList_mem_congr {s t : State} (hm : s.mem = t.mem) (hl : s.lost = t.lost) (a : Nat) (l : List Byte) :
    (s.setList a l).mem = (t.setList a l).mem := by
  induction l generalizing s t a with
  | nil => exact hm
  | cons b l ih => exact ih (s := s.setByte a b) (t := t.setByte a b) (by rw [State.setByte, State.setByte, hm, hl]) hl (a + 1)

theorem State.byte_congr {s t : State} (hm : s.mem = t.mem) (hl : s.lost = t.lost) (x : Nat) : s.byte x = t.byte x := by
  rw [State.byte, State.byte, hm, hl]

theorem State.setEntry_congr {s t : State} (hm : s.mem = t.mem) (hl : s.lost = t.lost) (j st result : Nat) (rdata : List Byte) :
    (s.setEntry j st result rdata).mem = (t.setEntry j st result rdata).mem ∧ (t.setEntry j st result rdata).lost = s.lost := by
  refine ⟨State.setList_mem_congr hm hl _ _, ?_⟩
  rw [State.setEntry, State.setList_frame, hl]

theorem State.setEntry_step (s : State) (j st result : Nat) (rdata : List Byte) :
    JournalStep s (s.setEntry j st result rdata) (s.setEntry j st result rdata).mem := by
  rw [State.setEntry, State.setList_frame]
  exact ⟨rfl, fun _ _ _ => rfl⟩

theorem JournalStep.modJnl {s t : State} {m : List Host.Cell} (h : JournalStep s t m) (f : JnlSt → JnlSt) : JournalStep s (t.modJnl f) m :=
  ⟨congrArg (fun u : State => u.modJnl f) h.1, h.2⟩

theorem JournalStep.setF {s t : State} {m : List Host.Cell} (h : JournalStep s t m) {f : Fld} {i : Nat} (hf : (f, i) ∈ jnlKeys) (v : Nat) :
    JournalStep s (t.setF f i v) m := ⟨congrArg (fun u : State => u.setF f i v) h.1, h.2.setF v hf⟩

theorem JournalStep.jnlSync {s t : State} {m : List Host.Cell} (h : JournalStep s t m) : JournalStep s t.jnlSync m := by
  refine .setF (.setF (.setF (.setF (.setF (.setF h ?_ _) ?_ _) ?_ _) ?_ _) ?_ _) ?_ _ <;> decide

theorem JournalStep.notice {s t : State} {m : List Host.Cell} (h : JournalStep s t m) (j : Nat) : JournalStep s (t.notice j) m := by
  rw [State.notice, State.noticeAs]
  split
  · exact h
  · exact (h.modJnl _).modJnl _

theorem State.finish_step (s : State) (j result : Nat) (rdata : List Byte) :
    JournalStep s (s.finish j result rdata) (s.setEntry j stDone result rdata).mem :=
  ((((s.setEntry_step j stDone result rdata).modJnl _).modJnl _).jnlSync).notice j

theorem JournalStep.replayCheck {s t : State} {m : List Host.Cell} (h : JournalStep s t m) : JournalStep s t.replayCheck m := by
  rw [State.replayCheck]
  split_ifs
  · rw [State.restartLeases]
    exact (h.setF (f := .JNL_STAT_REPLAYING) (i := 0) (by decide) 0).modJnl _
  · exact h

theorem State.judgeTokens_none {s : State} (h : s.sec.tokens = []) : s.judgeTokens = s := by
  rw [State.judgeTokens, h, List.foldl_nil, State.modSec, ← h]

/-- The verdict on the object of `job`, and the state in which what passes has been applied. -/
def State.verdict (s : State) (job : SecJob) : Nat × State :=
  if job.image then s.verifyImage (s.imgObject job.total) else s.verifyFw job.start job.total

theorem State.verdict_fw {s : State} {job : SecJob} (h : job.image = false) : s.verdict job = s.verifyFw job.start job.total := by
  rw [State.verdict, h]
  rfl

theorem State.verdict_image {s : State} {job : SecJob} (h : job.image = true) : s.verdict job = s.verifyImage (s.imgObject job.total) := by
  rw [State.verdict, h]
  rfl

/-- The RESULT of an entry whose object had the verdict `r`. -/
def verdictResult (r : Nat) : Nat := if r = 0 then rsOk else rsFail

/-- What the end of a verification leaves: the verdict `r` on it in the status of entry `j` and in LASTRES, and the state `u` else. -/
structure Verified (u : State) (j r : Nat) (t : State) : Prop where
  sec : t.sec = { u.sec with job := none }
  byte : ∀ x, t.byte x = (u.setEntry j stDone (verdictResult r) (leBytes 1 r)).byte x
  busy : t.getF .SEC_STAT_BUSY 0 = 0
  last : t.getF .SEC_STAT_LASTRES 0 = r
  regs : RegsBut u t ((.SEC_STAT_BUSY, 0) :: (.SEC_STAT_LASTRES, 0) :: jnlKeys)

/-- The end of a verification with verdict `r`, before the journal entry. -/
def State.judged (u : State) (r : Nat) : State := ((u.modSec (fun c => { c with job := none })).setF .SEC_STAT_BUSY 0 0).setF .SEC_STAT_LASTRES 0 r

theorem State.judged_mem (u : State) (r : Nat) : (u.judged r).mem = u.mem ∧ (u.judged r).lost = u.lost := ⟨rfl, rfl⟩

theorem JournalStep.verified {u t : State} {j r : Nat} (h : JournalStep (u.judged r) t ((u.judged r).setEntry j stDone (verdictResult r) (leBytes 1 r)).mem)
    (hr : r ≤ 8) : Verified u j r t := by
  obtain ⟨hframe, hregs⟩ := h
  have hfit : r < 2 ^ Fld.SEC_STAT_LASTRES.width := hr.trans_lt (show 8 < 2 ^ 4 by decide)
  refine ⟨by rw [hframe]; rfl, fun x => ?_, ?_, ?_, ?_⟩
  · refine State.byte_congr ?_ ?_ x
    · exact (congrArg State.mem hframe).trans (State.setEntry_congr (u.judged_mem r).1 (u.judged_mem r).2 _ _ _ _).1
    · exact ((congrArg State.lost hframe).trans (u.judged_mem r).2).trans (State.setEntry_congr rfl rfl _ _ _ _).2.symm
  · rw [hregs.getF_eq (by simp [jnlKeys]), State.judged, State.getF_setF_ne _ _ _ _ (by decide), State.getF_setF_same]
    rfl
  · rw [hregs.getF_eq (by simp [jnlKeys]), State.judged, State.getF_setF_same, Nat.mod_eq_of_lt hfit]
  · refine RegsBut.trans (t := u.judged r) ?_ (hregs.mono (fun _ h => List.mem_cons_of_mem _ (List.mem_cons_of_mem _ h)))
    exact ((RegsBut.setF (t := u.modSec (fun c => { c with job := none })) (fun _ _ _ => rfl) 0 (by simp)).setF r (by simp))

theorem secVerifyDone_spec {s u : State} {job : SecJob} {r : Nat} (hruns : s.coresRun = true) (hjob : s.sec.job = some job)
    (hv : s.noReplies.verdict job = (r, u)) (hr : r ≤ 8) (htok : u.sec.tokens = []) : Answers .secVerifyDone s (Verified u job.jidx r) := by
  have hfin := (u.judged r).finish_step job.jidx (verdictResult r) (leBytes 1 r)
  have hexec : exec .secVerifyDone s = .next (((u.judged r).finish job.jidx (verdictResult r) (leBytes 1 r)).judgeTokens).replayCheck := by
    change execSecVerifyDone s = _
    rw [execSecVerifyDone, hjob]
    dsimp only
    rw [if_pos hruns, State.secVerified, ← State.verdict, hv]
    rfl
  rw [State.judgeTokens_none (by rw [hfin.1]; exact htok)] at hexec
  exact ⟨_, hexec, hfin.replayCheck.verified hr⟩

/-! The status of an entry. -/

theorem leBytes_one (v : Nat) (h : v < 256) : leNat (leBytes 1 v) = v := leNat_leBytes h

theorem State.readList_congr {s t : State} (h : ∀ x, s.byte x = t.byte x) (a k : Nat) : s.readList a k = t.readList a k := by
  induction k generalizing a with
  | zero => rfl
  | succ k ih => rw [State.readList, State.readList, h, ih]

/-- The bytes of an entry's status before its check word. -/
def statusBytes (st result : Nat) (rdata : List Byte) : List Byte :=
  leBytes 1 st ++ leBytes 1 result ++ leBytes 2 0 ++ (rdata ++ List.replicate 24 0#8).take 24

theorem statusBytes_length (st result : Nat) (rdata : List Byte) : (statusBytes st result rdata).length = 28 := by
  simp [statusBytes, leBytes_length]

theorem setEntry_eq (s : State) (j st result : Nat) (rdata : List Byte) : s.setEntry j st result rdata =
    s.setList (entryAddr j + 0xE0) (statusBytes st result rdata ++ leBytes 4 (crc32c (statusBytes st result rdata))) := rfl

theorem statusWhole_length (st result : Nat) (rdata : List Byte) :
    (statusBytes st result rdata ++ leBytes 4 (crc32c (statusBytes st result rdata))).length = 32 := by
  rw [List.length_append, statusBytes_length, leBytes_length]

/-- An entry's status changes its own 32 bytes alone. -/
theorem byte_setEntry (s : State) (j st result : Nat) (rdata : List Byte) (x : Nat) (h : x < entryAddr j + 0xE0 ∨ entryAddr j + 0xE0 + 32 ≤ x) :
    (s.setEntry j st result rdata).byte x = s.byte x := by
  rw [setEntry_eq]
  exact s.byte_setList _ _ _ (by rwa [statusWhole_length])

/-- An entry's status reads as it was written. -/
theorem entry_setEntry {s t : State} {j st result : Nat} {rdata : List Byte} (h : ∀ x, t.byte x = (s.setEntry j st result rdata).byte x) (hst : st < 256)
    (hres : result < 256) : t.entState j = st ∧ t.entResult j = result ∧ t.entRdata j = (rdata ++ List.replicate 24 0#8).take 24 := by
  have hread : t.readList (entryAddr j + 0xE0) 32 = statusBytes st result rdata ++ leBytes 4 (crc32c (statusBytes st result rdata)) := by
    rw [State.readList_congr h, setEntry_eq, ← statusWhole_length st result rdata]
    exact State.readList_setList _ _ _
  have hslice (k n : Nat) (hk : k + n ≤ 32) : t.readList (entryAddr j + 0xE0 + k) n = _ := (t.readList_slice _ 32 k n hk).symm
  rw [hread] at hslice
  have hlen (v : Nat) : (leBytes 1 v).length = 1 := leBytes_length 1 v
  refine ⟨?_, ?_, ?_⟩
  · rw [State.entState, State.entField, State.bytes_eq, show entryAddr j + 0xE0 = entryAddr j + 0xE0 + 0 from rfl, hslice 0 1 (by decide)]
    rw [List.drop_zero, statusBytes, List.append_assoc, List.append_assoc, List.append_assoc, List.take_left' (hlen st), leBytes_one _ hst]
  · rw [State.entResult, State.entField, State.bytes_eq, show entryAddr j + 0xE1 = entryAddr j + 0xE0 + 1 from rfl, hslice 1 1 (by decide)]
    rw [statusBytes, List.append_assoc, List.append_assoc, List.append_assoc, List.drop_left' (hlen st), List.append_assoc,
      List.take_left' (hlen result), leBytes_one _ hres]
  · rw [State.entRdata, show entryAddr j + 0xE4 = entryAddr j + 0xE0 + 4 from rfl, hslice 4 24 (by decide)]
    rw [statusBytes, List.append_assoc, List.drop_left' (by simp [leBytes_length]), List.take_left' (by simp)]

section
variable {s u t : State} {job : SecJob} {j r : Nat}

theorem Verified.ends (h : Verified u j r t) : t.getF .SEC_STAT_LASTRES 0 = r ∧ t.bit .SEC_STAT_BUSY 0 = false ∧ t.sec.job = none ∧
    t.entState j = 3 ∧ t.entResult j = (if r = 0 then 0 else 1) ∧ (t.entRdata j).take 1 = [BitVec.ofNat 8 r] := by
  have hres : verdictResult r = if r = 0 then 0 else 1 := rfl
  obtain ⟨hstate, hresult, hrdata⟩ := entry_setEntry h.byte (by decide) (by rw [hres]; split_ifs <;> decide)
  refine ⟨h.last, by rw [State.bit, h.busy]; rfl, by rw [h.sec], hstate, hresult, ?_⟩
  rw [hrdata, leBytes_succ]
  rfl

theorem Verified.memBut (h : Verified u j r t) : MemBut u t (entryAddr j + 0xE0) 32 := fun x hx => (h.byte x).trans (byte_setEntry _ _ _ _ _ x hx)

/-- The bytes that SEC reads for a job on a firmware slot. -/
def State.fwBytes (s : State) (start total : Nat) : List Byte := s.readList (fwBase (1 - s.pmc.slot) + start) (min (fwSize - start) total)

theorem State.verifyFw_fails {start total : Nat} (h : s.secCheck [tyStation, tySer, tyRevoke] (s.fwBytes start total) ≠ 0) :
    s.verifyFw start total = (s.secCheck [tyStation, tySer, tyRevoke] (s.fwBytes start total), s) := by
  rw [State.verifyFw]
  exact if_pos h

theorem State.verifyFw_placed {start total : Nat} (h : s.secCheck [tyStation, tySer, tyRevoke] (s.fwBytes start total) = 0)
    (hp : (objType (s.fwBytes start total) = tyStation ∧ start = 0) ∨ (objType (s.fwBytes start total) = tySer ∧ start = 0x600000)) :
    s.verifyFw start total = (0, s) := by
  have hty : objType (s.fwBytes start total) ≠ tyRevoke := fun h' => by
    rw [h'] at hp
    exact absurd hp (by simp [tyRevoke, tyStation, tySer])
  rw [State.verifyFw, ← State.fwBytes]
  rw [if_neg (not_not_intro h), if_neg hty, if_pos hp]

theorem State.verifyFw_revokes {start total : Nat} (h : s.secCheck [tyStation, tySer, tyRevoke] (s.fwBytes start total) = 0)
    (hty : objType (s.fwBytes start total) = tyRevoke) : s.verifyFw start total =
    (0, (s.revoke (revokeTarget (s.fwBytes start total))).loseMem (fwBase (1 - s.pmc.slot) + start) (min (fwSize - start) total)) := by
  rw [State.verifyFw, ← State.fwBytes]
  rw [if_neg (not_not_intro h), if_pos hty]

/-- What the loss of an area leaves of the other bytes. -/
theorem State.byte_loseMem (s : State) (base size x : Nat) (h : x < base ∨ base + size ≤ x) : (s.loseMem base size).byte x = s.byte x := by
  have hout : decide (base ≤ x ∧ x < base + size) = false := by simp; omega
  have hdef : memDefault ((base, size, s.free) :: s.lost) x = memDefault s.lost x := by
    rw [memDefault, memDefault, List.find?_cons, hout]
  rw [State.byte, State.byte, ← hdef]
  exact (Store.get_keep s.mem (fun a => !decide (base ≤ a ∧ a < base + size)) x _).trans (if_pos (by rw [hout]; rfl))

/-- The units that an engine's section asks for. -/
def State.askUnits (s : State) (x : Section) : State := forIdx (n := 4) (fun m u => u.setF .CE_STGREQ_REQ (x.eng * 4 + m) (x.units.getD m 0)) s

/-- One engine's approval of the staged image. -/
def State.approve (s : State) (arb : Nat) (hash : List Byte) (x : Section) : State :=
  if h : x.eng < 24 then ((s.askUnits x).setF .CE_STAT_STGOK x.eng 1).modCe ⟨x.eng, h⟩ (fun e => { e with stgArb := arb, stgHash := hash })
  else s

/-- What an approval leaves, beside the engines' own records and the registers. -/
def SameObject (s t : State) : Prop := t.mem = s.mem ∧ t.lost = s.lost ∧ t.sec = s.sec

theorem State.askUnits_spec (s : State) (x : Section) : let t := s.askUnits x
    SameObject s t ∧ ∀ k, t.getF .CE_STAT_STGOK k = s.getF .CE_STAT_STGOK k := by
  refine List.foldlRecOn (motive := fun t : State => SameObject s t ∧ ∀ k, t.getF .CE_STAT_STGOK k = s.getF .CE_STAT_STGOK k) _ _
    ⟨⟨rfl, rfl, rfl⟩, fun _ => rfl⟩ fun t ht m _ => ⟨ht.1, fun k => ?_⟩
  rw [State.getF_setF_ne _ _ _ _ (by decide), ht.2]

theorem State.approve_spec (s : State) (arb : Nat) (hash : List Byte) {x : Section} (hx : x.eng < 24) : let t := s.approve arb hash x
    SameObject s t ∧ t.getF .CE_STAT_STGOK x.eng = 1 ∧ ∀ k, k < 24 → s.getF .CE_STAT_STGOK k = 1 → t.getF .CE_STAT_STGOK k = 1 := by
  obtain ⟨hsame, hkept⟩ := s.askUnits_spec x
  rw [State.approve, dif_pos hx]
  generalize s.askUnits x = u at hsame hkept
  have hset : (u.setF .CE_STAT_STGOK x.eng 1).getF .CE_STAT_STGOK x.eng = 1 := by
    rw [State.getF_setF_same]
    rfl
  refine ⟨hsame, hset, fun k hk h1 => ?_⟩
  by_cases hkx : k = x.eng
  · exact hkx ▸ hset
  · refine (u.getF_setF_idx .CE_STAT_STGOK x.eng k 1 (by omega)).trans ?_
    rw [hkept, h1]

theorem State.stagePass_spec (arb : Nat) (hash : List Byte) (l : List Section) (hl : ∀ x ∈ l, x.eng < 24) : ∀ s : State, let t := s.stagePass arb hash l
    SameObject s t ∧ (∀ k, k < 24 → s.getF .CE_STAT_STGOK k = 1 → t.getF .CE_STAT_STGOK k = 1) ∧ ∀ x ∈ l, t.getF .CE_STAT_STGOK x.eng = 1 := by
  induction l with
  | nil => exact fun s => ⟨⟨rfl, rfl, rfl⟩, fun _ _ h => h, List.forall_mem_nil _⟩
  | cons x l ih =>
    intro s
    have hx := hl x List.mem_cons_self
    obtain ⟨⟨hm, hlost, hsec⟩, hset, hkeep⟩ := s.approve_spec arb hash hx
    obtain ⟨⟨hm', hlost', hsec'⟩, hkeep', hall⟩ := ih (fun y hy => hl y (List.mem_cons_of_mem _ hy)) (s.approve arb hash x)
    exact ⟨⟨hm'.trans hm, hlost'.trans hlost, hsec'.trans hsec⟩, fun k hk h => hkeep' k hk (hkeep k hk h),
      List.forall_mem_cons.2 ⟨hkeep' _ hx hset, hall⟩⟩

theorem State.verifyImage_fails {o : List Byte} (h : s.secCheck [tyEngine] o ≠ 0) : s.verifyImage o = (s.secCheck [tyEngine] o, s) := by
  rw [State.verifyImage]
  exact if_pos h

theorem State.verifyImage_passes {o : List Byte} {l : List Section} (h : s.secCheck [tyEngine] o = 0) (hs : imageSections (objPayload o) = some l)
    (hok : l.all (fun x => s.engOk x.eng) = true) (hback : Config.shake (s.readBack (objPayload o) l) = objPhash o) :
    s.verifyImage o = (0, s.stagePass (objArb o) (objPhash o) l) := by
  rw [State.verifyImage, if_neg (not_not_intro h), hs]
  exact if_pos ((Bool.and_eq_true _ _).mpr ⟨hok, beq_iff_eq.2 hback⟩)

end

/-! Without its replies the state shows the same objects. -/

theorem noReplies_secCheck (s : State) (l : List Nat) (o : List Byte) : s.noReplies.secCheck l o = s.secCheck l o := rfl

theorem noReplies_fwBytes (s : State) (start total : Nat) : s.noReplies.fwBytes start total = s.fwBytes start total :=
  State.readList_congr (s := s.noReplies) (t := s) (fun _ => rfl) _ _

theorem noReplies_imgObject (s : State) (total : Nat) : s.noReplies.imgObject total = s.imgObject total := rfl

theorem noReplies_readBack (s : State) (p : List Byte) (l : List Section) : s.noReplies.readBack p l = s.readBack p l := by
  have hread (a k : Nat) : s.noReplies.readList a k = s.readList a k := State.readList_congr (s := s.noReplies) (t := s) (fun _ => rfl) a k
  simp only [State.readBack, hread]
  rfl

section
variable {s : State} {job : SecJob} (hi : job.image = false)
include hi

theorem verdict_fails (hc : s.secCheck [tyStation, tySer, tyRevoke] (s.fwBytes job.start job.total) ≠ 0) :
    s.noReplies.verdict job = (s.secCheck [tyStation, tySer, tyRevoke] (s.fwBytes job.start job.total), s.noReplies) := by
  rw [← noReplies_fwBytes, ← noReplies_secCheck] at hc ⊢
  rw [State.verdict_fw hi, State.verifyFw_fails hc]

theorem verdict_revokes (hc : s.secCheck [tyStation, tySer, tyRevoke] (s.fwBytes job.start job.total) = 0)
    (hty : objType (s.fwBytes job.start job.total) = tyRevoke) : s.noReplies.verdict job =
    (0, (s.noReplies.revoke (revokeTarget (s.fwBytes job.start job.total))).loseMem (fwBase (1 - s.pmc.slot) + job.start)
      (min (fwSize - job.start) job.total)) := by
  rw [← noReplies_fwBytes] at hc hty ⊢
  rw [← noReplies_secCheck] at hc
  rw [State.verdict_fw hi, State.verifyFw_revokes hc hty]
  rfl

theorem verdict_placed (hc : s.secCheck [tyStation, tySer, tyRevoke] (s.fwBytes job.start job.total) = 0)
    (hp : (objType (s.fwBytes job.start job.total) = tyStation ∧ job.start = 0) ∨ (objType (s.fwBytes job.start job.total) = tySer ∧ job.start = 0x600000)) :
    s.noReplies.verdict job = (0, s.noReplies) := by
  rw [← noReplies_fwBytes] at hc hp
  rw [← noReplies_secCheck] at hc
  rw [State.verdict_fw hi, State.verifyFw_placed hc hp]

end

section
variable {s : State} {job : SecJob} (hi : job.image = true)
include hi

theorem verdict_image_fails (hc : s.secCheck [tyEngine] (s.imgObject job.total) ≠ 0) :
    s.noReplies.verdict job = (s.secCheck [tyEngine] (s.imgObject job.total), s.noReplies) := by
  rw [← noReplies_imgObject, ← noReplies_secCheck] at hc ⊢
  rw [State.verdict_image hi, State.verifyImage_fails hc]

theorem verdict_image_passes {l : List Section} (hc : s.secCheck [tyEngine] (s.imgObject job.total) = 0)
    (hl : imageSections (objPayload (s.imgObject job.total)) = some l) (hok : l.all (fun x => s.engOk x.eng) = true)
    (hb : Config.shake (s.readBack (objPayload (s.imgObject job.total)) l) = objPhash (s.imgObject job.total)) :
    s.noReplies.verdict job = (0, s.noReplies.stagePass (objArb (s.imgObject job.total)) (objPhash (s.imgObject job.total)) l) := by
  rw [← noReplies_imgObject] at hc hl hb ⊢
  rw [← noReplies_secCheck] at hc
  rw [← noReplies_readBack] at hb
  rw [State.verdict_image hi, State.verifyImage_passes hc hl hok hb]

end

/-! The clauses of R472 on the end of a verification. -/

section
variable {s u t : State} {job : SecJob} {j r : Nat}

theorem secVerifyDone_ignores (h : s.sec.job = none ∨ s.coresRun = false) : Ignores .secVerifyDone s := by
  change execSecVerifyDone s = _
  rw [execSecVerifyDone]
  cases hjob : s.sec.job with
  | none => rfl
  | some x =>
    obtain h | h := h
    · exact absurd (hjob.symm.trans h) nofun
    · exact congrArg Host.Outcome.next (if_neg (by simp [h]))

/-- A verification whose object changes nothing but its entry's status. -/
theorem secVerifyDone_plain (hruns : s.coresRun = true) (hjob : s.sec.job = some job) (htok : s.sec.tokens = [])
    (hv : s.noReplies.verdict job = (r, s.noReplies)) (hr : r ≤ 8) : Answers .secVerifyDone s (fun t => Verified s job.jidx r t) := by
  obtain ⟨t, ht, h⟩ := secVerifyDone_spec hruns hjob hv hr htok
  refine ⟨t, ht, h.sec, fun x => ?_, h.busy, h.last, h.regs⟩
  rw [h.byte]
  exact State.byte_congr (State.setEntry_congr rfl rfl _ _ _ _).1 ((State.setEntry_congr rfl rfl _ _ _ _).2.trans (State.setEntry_congr rfl rfl _ _ _ _).2.symm) x

end

/-- Settles O23, each clause from the lemmas on its command; the verdicts come from `secVerifyDone_spec`. -/
theorem securityVerdicts : Obligations.SecurityVerdicts := by
  intro obj ag job s runs c base size fw img cf ci status ends tells verifies placed wiped blocks tampered free
  have hendsOf {u t : State} {r : Nat} (h : Verified u job.jidx r t) : ends r t := h.ends
  have htellsOf {t : State} {r : Nat} (h : Verified s job.jidx r t) : tells r t := ⟨h.ends, h.memBut⟩
  have hblocks : (if blocks then 1 else s.getF .TRIP_LAT2_SUP 0) = if s.tamperBlocks = true then 1 else s.getF .TRIP_LAT2_SUP 0 :=
    if_congr s.tamperBlocks_iff.symm rfl rfl
  refine ⟨fun h => ?_, fun x hr hx => ?_, fun hf hm => ?_, fun hf hc => ?_, fun hf hc => ?_, dbgChalRead_draws, dbgChalRead_errs, fun h => ?_, fun h2 hr => ?_,
    fun h => ?_, fun a ha => ?_, engFloorRaise_none, fun hp hr => ?_, tamperPin_low_off, tamperPin_high, fun hr => ?_, secVerifyDone_ignores,
    fun hv hi hc => ?_, fun hv hi hc hty => ?_, fun hv hi hc hp => ?_, fun hv hi hc => ?_, fun l hv hi hc hl hok hb => ?_⟩
  · change execDebugToken obj s = _
    rw [execDebugToken, h]
    rfl
  · refine ⟨_, ?_, rfl⟩
    change execDebugToken obj s = _
    rw [execDebugToken, show s.coresRun = true from hr, hx]
    rfl
  · have hone := s.secCheck_magic [tyToken] hm
    have := debugToken_fails (obj := obj) hf.1 hf.2 (by rw [hone]; decide)
    rwa [hone] at this
  · exact debugToken_fails hf.1 hf.2 hc
  · exact debugToken_grants hf.1 hf.2 hc
  · change execDbgChalRead ag s = _
    rw [execDbgChalRead, h]
    rfl
  · refine ⟨_, ?_, rfl⟩
    change execIdentityKeyReady s = _
    exact congrArg Host.Outcome.next (if_pos ⟨h2, hr⟩)
  · change execIdentityKeyReady s = _
    exact congrArg Host.Outcome.next (if_neg fun h' => h.elim (fun hlt => absurd h'.1 (Nat.not_le.2 hlt)) fun hn => hn h'.2)
  · exact engFloorRaise_spec ha rfl
  · rw [show tampered = tamperFields s ++ [(.TRIP_LAT2_SUP, 0, if s.tamperBlocks = true then 1 else s.getF .TRIP_LAT2_SUP 0)] by rw [← hblocks]; rfl]
    exact tamperPin_low hp hr
  · rw [show tampered = tamperFields s ++ [(.TRIP_LAT2_SUP, 0, if s.tamperBlocks = true then 1 else s.getF .TRIP_LAT2_SUP 0)] by rw [← hblocks]; rfl]
    exact supplyGlitch_on hr
  · obtain ⟨hr, hjob, htok⟩ := hv
    obtain ⟨t, ht, h⟩ := secVerifyDone_plain hr hjob htok (verdict_fails hi hc) (s.secCheck_le _ _)
    exact ⟨t, ht, htellsOf h, by rw [h.sec]⟩
  · obtain ⟨hr, hjob, htok⟩ := hv
    obtain ⟨t, ht, h⟩ := secVerifyDone_spec hr hjob (verdict_revokes hi hc hty) (Nat.zero_le 8) htok
    refine ⟨t, ht, hendsOf h, fun x hx hx' => ?_, fun k => ?_⟩
    · exact (h.memBut x hx').trans (State.byte_loseMem _ _ _ _ hx)
    · rw [h.sec]
      exact Vector.getElem_mapFinIdx k.isLt
  · obtain ⟨hr, hjob, htok⟩ := hv
    obtain ⟨t, ht, h⟩ := secVerifyDone_plain hr hjob htok (verdict_placed hi hc hp) (Nat.zero_le 8)
    exact ⟨t, ht, htellsOf h, by rw [h.sec]⟩
  · obtain ⟨hr, hjob, htok⟩ := hv
    obtain ⟨t, ht, h⟩ := secVerifyDone_plain hr hjob htok (verdict_image_fails hi hc) (s.secCheck_le _ _)
    exact ⟨t, ht, htellsOf h, fun n => h.regs.getF_eq (by simp [jnlKeys]) n⟩
  · obtain ⟨hr, hjob, htok⟩ := hv
    have hengs : ∀ x ∈ l, x.eng < 24 := fun x hx => State.engOk_lt (List.all_eq_true.1 hok x hx)
    obtain ⟨⟨hm, hlost, hsec⟩, -, hall⟩ := State.stagePass_spec (objArb img) (objPhash img) l hengs s.noReplies
    obtain ⟨t, ht, h⟩ := secVerifyDone_spec hr hjob (verdict_image_passes hi hc hl hok hb) (Nat.zero_le 8) (by exact (congrArg SecSt.tokens hsec).trans htok)
    refine ⟨t, ht, ⟨hendsOf h, fun x hx => ?_⟩, fun x hx => ?_⟩
    · rw [h.memBut x hx]
      exact State.byte_congr hm hlost x
    · exact beq_iff_eq.2 ((h.regs.getF_eq (by simp [jnlKeys]) x.eng).trans (hall x hx))

end Sys2Proof.Machine
end

section
/-! What a lane receives, and its delay measurement (R204, R220, R225, R226, R238, R252, R256). -/
namespace Sys2Proof.Machine

-- The proofs one after another: all at once they would need more threads, and their stacks, than the check's memory holds.
set_option Elab.async false

/-! The epoch of a received frame (R252, R425). -/

/-- The flags that a frame's epoch may set. -/
def epochKeys (n : Fin 96) : List (Fld × Nat) := [(.CL_STAT_EPOCHHI, n.val), (.MIR_STAT_FOREIGN, 0), (.TRIP_LAT2_TWIN, 0)]

theorem RegsBut.setWhen {s t : State} {l : List (Fld × Nat)} (h : RegsBut s t l) {f : Fld} {i : Nat} (hm : (f, i) ∈ l) (c : Bool) (v : Nat) :
    RegsBut s (t.setWhen c f i v) l := by
  cases c
  · exact h
  · exact h.setF v hm

theorem State.setWhen_frame (s : State) (c : Bool) (f : Fld) (i v : Nat) : s.setWhen c f i v = { s with regs := (s.setWhen c f i v).regs } := by
  cases c <;> rfl

/-- The flags of an epoch that is higher than the device's, and foreign. -/
def State.flagEpoch (s : State) (n : Fin 96) (hi foreign : Bool) : State :=
  ((s.setWhen hi .CL_STAT_EPOCHHI n 1).setWhen foreign .MIR_STAT_FOREIGN 0 1).setWhen foreign .TRIP_LAT2_TWIN 0 1

theorem State.flagEpoch_spec (s : State) (n : Fin 96) (hi foreign : Bool) : let t := s.flagEpoch n hi foreign
    t = { s with regs := t.regs } ∧ RegsBut s t (epochKeys n) ∧ (hi = true → t.bit .CL_STAT_EPOCHHI n = true) := by
  refine ⟨by cases hi <;> cases foreign <;> rfl, ?_, fun h => ?_⟩
  · exact ((RegsBut.setWhen (.refl s _) (by simp [epochKeys]) _ _).setWhen (by simp [epochKeys]) _ _).setWhen (by simp [epochKeys]) _ _
  · rw [State.bit, State.flagEpoch, State.getF_setWhen_ne _ _ _ _ _ (by decide), State.getF_setWhen_ne _ _ _ _ _ (by decide), h]
    exact beq_iff_eq.2 (s.getF_setF_same _ _ _)

theorem State.noteEpoch_spec (s : State) (n : Fin 96) (e : Nat) : let t := s.noteEpoch n e
    t = { s with regs := t.regs, twin := t.twin } ∧ t.twin.cellFrame = true ∧ RegsBut s t (epochKeys n) ∧
    (epochHigher e (s.getF .CLG_EPOCH_EPOCH 0) = true → t.bit .CL_STAT_EPOCHHI n = true) := by
  obtain ⟨w, foreign, hflag, hcell⟩ : ∃ w foreign, s.noteEpoch n e = State.flagEpoch { s with twin := w } n (epochHigher e (s.getF .CLG_EPOCH_EPOCH 0)) foreign ∧
    w.cellFrame = true := ⟨_, _, rfl, rfl⟩
  obtain ⟨hframe, hregs, hhi⟩ := State.flagEpoch_spec { s with twin := w } n (epochHigher e (s.getF .CLG_EPOCH_EPOCH 0)) foreign
  rw [hflag]
  generalize State.flagEpoch { s with twin := w } n (epochHigher e (s.getF .CLG_EPOCH_EPOCH 0)) foreign = t at hframe hregs hhi
  have htwin : t.twin = w := by rw [hframe]
  refine ⟨?_, by rw [htwin, hcell], hregs, hhi⟩
  rw [htwin]
  exact hframe

/-! The check of a received frame (R220, R256). -/

/-- A frame breaks the sequence of training sets that a lane counts. -/
def State.heard (s : State) (n : Fin 96) : State := s.modLane n (fun l => { l with good := 0 })

/-- The state in which a good frame takes effect: the lane's count of training sets starts anew, and the frame's epoch is noted. -/
def State.noted (s : State) (n : Fin 96) (f : RxFrame) : State := (s.heard n).noteEpoch n (frameField f.bytes 2 2)

theorem State.heard_eq (s : State) (n : Fin 96) : s.modLane n (fun l => { l with good := 0 }) = s.heard n := rfl

/-- What has changed in `t` since `s` of what a good frame may change: lane `n`, the twin's view and the registers of `l`. -/
structure Noted (n : Fin 96) (l : List (Fld × Nat)) (s t : State) : Prop where
  frame : t = { s with regs := t.regs, twin := t.twin, lanes := t.lanes }
  cell : t.twin.cellFrame = true
  others : ∀ m : Fin 96, m ≠ n → t.lanes[m] = s.lanes[m]
  regs : RegsBut s t l

theorem State.noted_spec (s : State) (n : Fin 96) (f : RxFrame) : let t := s.noted n f
    Noted n (epochKeys n) s t ∧ t.lanes[n] = { s.lanes[n] with good := 0 } ∧
    (epochHigher (frameField f.bytes 2 2) (s.getF .CLG_EPOCH_EPOCH 0) = true → t.bit .CL_STAT_EPOCHHI n = true) := by
  obtain ⟨hframe, hcell, hregs, hhi⟩ := (s.heard n).noteEpoch_spec n (frameField f.bytes 2 2)
  rw [State.noted]
  generalize (s.heard n).noteEpoch n (frameField f.bytes 2 2) = t at hframe hcell hregs hhi
  have hlanes : t.lanes = (s.heard n).lanes := by rw [hframe]
  refine ⟨⟨?_, hcell, fun m hm => ?_, hregs⟩, ?_, hhi⟩
  · rw [hlanes]
    exact hframe
  · rw [hlanes]
    exact s.modLane_ne _ hm
  · rw [hlanes]
    exact s.modLane_same n _

namespace Noted
variable {n : Fin 96} {l : List (Fld × Nat)} {s t : State} (h : Noted n l s t)
include h

theorem modLane (f : LaneSt → LaneSt) : Noted n l s (t.modLane n f) :=
  ⟨congrArg (fun u : State => u.modLane n f) h.frame, h.cell, fun _ hm => (t.modLane_ne f hm).trans (h.others _ hm), h.regs⟩

theorem setF {f : Fld} {i : Nat} (v : Nat) (hm : (f, i) ∈ l) : Noted n l s (t.setF f i v) :=
  ⟨congrArg (fun u : State => u.setF f i v) h.frame, h.cell, h.others, h.regs.setF v hm⟩

theorem mono {l' : List (Fld × Nat)} (hl : l ⊆ l') : Noted n l' s t := ⟨h.frame, h.cell, h.others, h.regs.mono hl⟩

/-- The frame of the claims. -/
theorem rxFrame {more : List (Fld × Nat)} (hl : l ⊆ epochKeys n ++ more) : RxFrameOf n more s t := by
  have hframe := h.frame
  refine ⟨h.others, h.cell, ?_, ?_, ?_, ?_, h.regs.mono fun e he => ?_⟩
  · rw [hframe]
  · rw [hframe]
  · rw [hframe]
  · rw [hframe]
  · have := hl he
    simp only [epochKeys, List.mem_append, List.mem_cons, List.not_mem_nil, or_false] at this ⊢
    tauto

theorem sameMem : SameMem s t := fun a => State.byte_congr (by rw [h.frame]) (by rw [h.frame]) a

theorem getF_eq {f : Fld} (hf : ∀ e ∈ l, e.1 ≠ f) (i : Nat) : t.getF f i = s.getF f i := h.regs.getF_eq hf i

theorem inFret (hf : ∀ e ∈ l, e.1 ≠ .ATU_CFG_FPCSEL) : t.inFret = s.inFret := by
  rw [State.inFret, State.angle, State.fretAu, State.fpc, h.getF_eq hf, show t.atu = s.atu by rw [h.frame]]
  rfl

end Noted

theorem epochKeys_ne {n : Fin 96} {f : Fld} (h1 : f ≠ .CL_STAT_EPOCHHI) (h2 : f ≠ .MIR_STAT_FOREIGN) (h3 : f ≠ .TRIP_LAT2_TWIN) :
    ∀ e ∈ epochKeys n, e.1 ≠ f := by
  simp [epochKeys, h1.symm, h2.symm, h3.symm]

section
variable {s : State} {n : Fin 96} {ty : Nat} {f : RxFrame} {bad : Nat → State → State} {ok : State → State}

theorem State.codeErrors_zero (s : State) (n : Fin 96) : s.codeErrors n 0 = s := by
  rw [State.codeErrors]
  rfl

/-- A good frame goes on with its epoch noted. -/
theorem State.receive_good (h : GoodFrame s n ty f) : s.receive n ty f bad ok = ok (s.noted n f) := by
  obtain ⟨hlive, hk, herrs, hlen, hcrc, hty, hid⟩ := h
  have hcheck : (s.heard n).rxCheck n ty f = 0 := by
    rw [State.rxCheck, hk, herrs, hlen, hcrc, hty]
    have hid' : frameField f.bytes 8 2 = (s.heard n).getF .CL_CFG_CELLID n := hid
    simp [hid']
  rw [State.receive, if_pos hlive]
  dsimp only
  rw [s.heard_eq n, hcheck, herrs, State.codeErrors_zero]
  rfl

/-- A frame with a character or CRC error. -/
theorem State.receive_broken (hlive : s.rxLive n = true)
    (h : f.kchar = true ∨ f.errs ≠ 0 ∨ f.bytes.length ≠ 63 ∨ crc32c (f.bytes.take 59) ≠ frameField f.bytes 60 4) : s.receive n ty f bad ok =
    (bad 1 ((s.heard n).countF .CL_FCNT1_RXERR n 1)).codeErrors n f.errs := by
  have hcheck : (s.heard n).rxCheck n ty f = 1 := by
    rw [State.rxCheck]
    exact if_pos (by simpa [or_assoc] using h)
  rw [State.receive, if_pos hlive]
  dsimp only
  rw [s.heard_eq n, hcheck]
  rfl

/-- A whole frame of another type. -/
theorem State.receive_type (h : GoodFrame s n (frameField f.bytes 1 1) f) (hty : frameField f.bytes 1 1 ≠ ty) : s.receive n ty f bad ok =
    bad 2 (((s.heard n).countF .CL_FCNT1_RXERR n 1).countF .CL_FCNT1_TYPEERR n 1) := by
  obtain ⟨hlive, hk, herrs, hlen, hcrc, -, -⟩ := h
  have hcheck : (s.heard n).rxCheck n ty f = 2 := by
    rw [State.rxCheck, hk, herrs, hlen, hcrc]
    simp [hty]
  rw [State.receive, if_pos hlive]
  dsimp only
  rw [s.heard_eq n, hcheck, herrs, State.codeErrors_zero]
  rfl

/-- A whole frame for another cell. -/
theorem State.receive_cell (hlive : s.rxLive n = true) (hk : f.kchar = false) (herrs : f.errs = 0) (hlen : f.bytes.length = 63)
    (hcrc : crc32c (f.bytes.take 59) = frameField f.bytes 60 4) (hty : frameField f.bytes 1 1 = ty) (hid : frameField f.bytes 8 2 ≠ s.getF .CL_CFG_CELLID n) :
    s.receive n ty f bad ok = bad 3 (((s.heard n).countF .CL_FCNT1_RXERR n 1).countF .CL_FCNT1_IDERR n 1) := by
  have hcheck : (s.heard n).rxCheck n ty f = 3 := by
    have hid' : frameField f.bytes 8 2 ≠ (s.heard n).getF .CL_CFG_CELLID n := hid
    rw [State.rxCheck, hk, herrs, hlen, hcrc, hty]
    simp [hid']
  rw [State.receive, if_pos hlive]
  dsimp only
  rw [s.heard_eq n, hcheck, herrs, State.codeErrors_zero]
  rfl

theorem State.rxLive_up (hruns : s.laneRuns n = true) (hup : s.lstate n = 3) : s.rxLive n = true := by
  rw [State.rxLive, State.laneUp, hruns, hup]
  rfl

end

/-! The claims on reception. -/

section
variable {s : State} {n : Fin 96} {f : RxFrame}

theorem ackReceived_good (h : GoodFrame s n 3 f) : Answers (.ackReceived n f) s (fun t => RxFrameOf n [] s t ∧ SameMem s t ∧
    t.lanes[n] = { s.lanes[n] with good := 0, ack := some (frameField f.bytes 4 4, frameField f.bytes 11 1, s.inFret) } ∧
    (epochHigher (frameField f.bytes 2 2) (s.getF .CLG_EPOCH_EPOCH 0) = true → t.bit .CL_STAT_EPOCHHI n = true)) := by
  obtain ⟨hnoted, hlane, hhi⟩ := s.noted_spec n f
  have hfret := hnoted.inFret (epochKeys_ne (by simp) (by simp) (by simp))
  have hexec : exec (.ackReceived n f) s = .next ((s.noted n f).modLane n
      (fun l => { l with ack := some (frameField f.bytes 4 4, frameField f.bytes 11 1, s.inFret) })) := by
    change execAckReceived n f s = _
    rw [execAckReceived, tyAck, State.receive_good h, hfret]
  generalize s.noted n f = u at hexec hnoted hlane hhi
  have hall := hnoted.modLane (fun l => { l with ack := some (frameField f.bytes 4 4, frameField f.bytes 11 1, s.inFret) })
  exact ⟨_, hexec, hall.rxFrame (by simp), hall.sameMem, (u.modLane_same n _).trans (by rw [hlane]), hhi⟩

/-- The receive buffer of a good TELEMETRY. -/
def State.filled (s : State) (f : RxFrame) : RxBuf where
  state := 1
  epochHi := epochHigher (frameField f.bytes 2 2) (s.getF .CLG_EPOCH_EPOCH 0)
  tfret := BitVec.ofNat 32 (frameField f.bytes 4 4)
  tw := Vector.ofFn (fun (k : Fin 12) => BitVec.ofNat 32 (frameField f.bytes (12 + 4 * k) 4))

theorem State.filled_spec (s : State) (f : RxFrame) : (s.filled f).state = 1 ∧ (s.filled f).tfret = BitVec.ofNat 32 (frameField f.bytes 4 4) ∧
    ∀ k : Fin 12, (s.filled f).tw[k] = BitVec.ofNat 32 (frameField f.bytes (12 + 4 * k) 4) := ⟨rfl, rfl, fun k => Vector.getElem_ofFn k.isLt⟩

theorem telemetry_good (h : GoodFrame s n 4 f) (hlate : serialLater s.fretnum (frameField f.bytes 4 4) = false) :
    Answers (.telemetryReceived n f) s (fun t => RxFrameOf n [] s t ∧ SameMem s t ∧
      (t.lanes[n]).rx = (s.lanes[n]).rx ∧ (t.lanes[n]).fill.state = 1 ∧ (t.lanes[n]).fill.tfret = BitVec.ofNat 32 (frameField f.bytes 4 4) ∧
      ∀ k : Fin 12, (t.lanes[n]).fill.tw[k] = BitVec.ofNat 32 (frameField f.bytes (12 + 4 * k) 4)) := by
  obtain ⟨hnoted, hlane, -⟩ := s.noted_spec n f
  have hfret : (s.noted n f).fretnum = s.fretnum := hnoted.getF_eq (epochKeys_ne (by simp) (by simp) (by simp)) 0
  have hexec : exec (.telemetryReceived n f) s = .next ((s.noted n f).modLane n (fun l => { l with fill := s.filled f })) := by
    change execTelemetryReceived n f s = _
    rw [execTelemetryReceived, tyTelemetry, State.receive_good h, hfret, hlate]
    rfl
  obtain ⟨hstate, htfret, htw⟩ := s.filled_spec f
  generalize s.filled f = fill at hexec hstate htfret htw
  generalize s.noted n f = u at hexec hnoted hlane
  have hall := hnoted.modLane (fun l => { l with fill := fill })
  have hn := (u.modLane_same n (fun l => { l with fill := fill }))
  exact ⟨_, hexec, hall.rxFrame (by simp), hall.sameMem, by rw [hn, hlane], by rw [hn]; exact hstate, by rw [hn]; exact htfret, by rw [hn]; exact htw⟩

theorem telemetry_late (h : GoodFrame s n 4 f) (hlate : serialLater s.fretnum (frameField f.bytes 4 4) = true) :
    Answers (.telemetryReceived n f) s (fun t => RxFrameOf n [(.CL_FCNT1_LATE, n)] s t ∧ (t.lanes[n]).fill = (s.lanes[n]).fill ∧
      t.getF .CL_FCNT1_LATE n = min (2 ^ Fld.CL_FCNT1_LATE.width - 1) (s.getF .CL_FCNT1_LATE n + 1)) := by
  obtain ⟨hnoted, hlane, -⟩ := s.noted_spec n f
  have hfret : (s.noted n f).fretnum = s.fretnum := hnoted.getF_eq (epochKeys_ne (by simp) (by simp) (by simp)) 0
  have hcount : (s.noted n f).getF .CL_FCNT1_LATE n = s.getF .CL_FCNT1_LATE n := hnoted.getF_eq (epochKeys_ne (by simp) (by simp) (by simp)) n
  have hexec : exec (.telemetryReceived n f) s = .next ((s.noted n f).countF .CL_FCNT1_LATE n 1) := by
    change execTelemetryReceived n f s = _
    rw [execTelemetryReceived, tyTelemetry, State.receive_good h, hfret, hlate]
    rfl
  generalize s.noted n f = u at hexec hnoted hlane hcount
  have hall : Noted n (epochKeys n ++ [(.CL_FCNT1_LATE, n.val)]) s (u.countF .CL_FCNT1_LATE n 1) :=
    (hnoted.mono (List.subset_append_left _ _)).setF _ (List.mem_append_right _ (List.mem_singleton.2 rfl))
  refine ⟨_, hexec, hall.rxFrame (List.Subset.refl _), (congrArg LaneSt.fill hlane).trans rfl, ?_⟩
  rw [State.getF_countF_same, hcount]

/-- The state of a lane that has discarded a frame, as its telemetry buffer shows it. -/
def State.discarded (s : State) (n : Fin 96) (shown : Nat) : State := s.modLane n (fun l => { l with fill := { state := shown } })

/-- A frame that a lane has counted as received in error. -/
theorem State.heard_counted (s : State) (n : Fin 96) : let t := (s.heard n).countF .CL_FCNT1_RXERR n 1
    LaneAlone n [(.CL_FCNT1_RXERR, n.val)] s t ∧ t.lanes[n] = { s.lanes[n] with good := 0 } ∧
    t.getF .CL_FCNT1_RXERR n = min (2 ^ Fld.CL_FCNT1_RXERR.width - 1) (s.getF .CL_FCNT1_RXERR n + 1) := by
  have hheard : LaneAlone n [(.CL_FCNT1_RXERR, n.val)] s (s.heard n) := (LaneAlone.refl n _ s).modLane _
  refine ⟨hheard.setF _ (by simp), s.modLane_same n (fun l => { l with good := 0 }), ?_⟩
  rw [State.getF_countF_same]
  rfl

theorem telemetry_broken (hruns : s.laneRuns n = true) (hup : s.lstate n = 3)
    (h : f.kchar = true ∨ f.errs ≠ 0 ∨ f.bytes.length ≠ 63 ∨ crc32c (f.bytes.take 59) ≠ frameField f.bytes 60 4) :
    exec (.telemetryReceived n f) s = .next ((((s.heard n).countF .CL_FCNT1_RXERR n 1).discarded n 2).codeErrors n f.errs) := by
  change execTelemetryReceived n f s = _
  rw [execTelemetryReceived, State.receive_broken (State.rxLive_up hruns hup) h]
  rfl

/-- The state with the times of the last errors. -/
def State.erredAt (s : State) (n : Fin 96) (errs : Nat) (last : List Nat) : State :=
  (s.countF .CL_LINKCNT_CODEERR n errs).modLane n (fun l => { l with errAt := last })

/-- The times of the last four errors. -/
def State.lastErrors (s : State) (n : Fin 96) (errs : Nat) : List Nat := (List.replicate (min 4 errs) s.tick ++ (s.lanes[n]).errAt).take 4

theorem State.codeErrors_few {errs : Nat} (hup : s.lstate n = 3) (h0 : errs ≠ 0) (h : (s.lanes[n]).errAt.length + errs < 4) :
    s.codeErrors n errs = s.erredAt n errs (s.lastErrors n errs) := by
  have hlen : (s.lastErrors n errs).length ≠ 4 := by
    rw [State.lastErrors, List.length_take, List.length_append, List.length_replicate]
    omega
  rw [State.codeErrors, if_neg (by simp [h0, State.laneUp, hup, lsUp]), ← State.lastErrors]
  exact if_neg fun h' => hlen h'.1

theorem State.codeErrors_four {errs : Nat} (hup : s.lstate n = 3) (h : 4 ≤ errs) :
    s.codeErrors n errs = (s.erredAt n errs (s.lastErrors n errs)).linkLost n := by
  have hlast : s.lastErrors n errs = List.replicate 4 s.tick := by
    rw [State.lastErrors, Nat.min_eq_left h]
    exact List.take_left' List.length_replicate
  rw [State.codeErrors, if_neg (by simp [State.laneUp, hup, lsUp]; omega), ← State.lastErrors]
  refine if_pos ⟨by rw [hlast, List.length_replicate], ?_⟩
  rw [hlast]
  exact List.all_eq_true.2 fun t ht => by rw [List.eq_of_mem_replicate ht]; simp

theorem telemetry_few (hruns : s.laneRuns n = true) (hup : s.lstate n = 3)
    (h : f.kchar = true ∨ f.errs ≠ 0 ∨ f.bytes.length ≠ 63 ∨ crc32c (f.bytes.take 59) ≠ frameField f.bytes 60 4)
    (hfew : (s.lanes[n]).errAt.length + f.errs < 4) : Answers (.telemetryReceived n f) s (fun t =>
      (t.lanes[n]).fill = { state := 2 } ∧ (t.lanes[n]).rx = (s.lanes[n]).rx ∧
      t.getF .CL_FCNT1_RXERR n = min (2 ^ Fld.CL_FCNT1_RXERR.width - 1) (s.getF .CL_FCNT1_RXERR n + 1) ∧
      t.getF .CL_LINKCNT_CODEERR n = (if f.errs = 0 then s.getF .CL_LINKCNT_CODEERR n
        else min (2 ^ Fld.CL_LINKCNT_CODEERR.width - 1) (s.getF .CL_LINKCNT_CODEERR n + f.errs)) ∧
      t = { s with regs := t.regs, lanes := t.lanes } ∧ RegsBut s t [(.CL_FCNT1_RXERR, n), (.CL_LINKCNT_CODEERR, n)]) := by
  obtain ⟨halone, hlane, hcount⟩ := s.heard_counted n
  have hexec := telemetry_broken hruns hup h
  generalize (s.heard n).countF .CL_FCNT1_RXERR n 1 = u at halone hlane hcount hexec
  have hshown : ((u.discarded n 2).lanes[n]) = { s.lanes[n] with good := 0, fill := { state := 2 } } := (u.modLane_same n _).trans (by rw [hlane])
  have hall : LaneAlone n [(.CL_FCNT1_RXERR, n.val), (.CL_LINKCNT_CODEERR, n.val)] s (u.discarded n 2) := (halone.mono (by simp)).modLane _
  have hcode : (u.discarded n 2).getF .CL_LINKCNT_CODEERR n = s.getF .CL_LINKCNT_CODEERR n := halone.getF_eq (by simp) n
  by_cases h0 : f.errs = 0
  · rw [h0, State.codeErrors_zero] at hexec
    exact ⟨_, hexec, by rw [hshown], by rw [hshown], hcount, by rw [if_pos h0, hcode], hall.frame, hall.regs⟩
  · have hup' : (u.discarded n 2).lstate n = 3 := (hall.getF_eq (by simp) n).trans hup
    rw [State.codeErrors_few hup' h0 (by rw [hshown]; exact hfew)] at hexec
    generalize (u.discarded n 2).lastErrors n f.errs = last at hexec
    have hend := (hall.setF (f := .CL_LINKCNT_CODEERR) (i := n) (min (2 ^ Fld.CL_LINKCNT_CODEERR.width - 1)
      ((u.discarded n 2).getF .CL_LINKCNT_CODEERR n + f.errs)) (by simp)).modLane (fun l => { l with errAt := last })
    refine ⟨_, hexec, ?_, ?_, ?_, ?_, hend.frame, hend.regs⟩
    · exact (congrArg LaneSt.fill (State.modLane_same _ n _)).trans ((congrArg LaneSt.fill hshown).trans rfl)
    · exact (congrArg LaneSt.rx (State.modLane_same _ n _)).trans ((congrArg LaneSt.rx hshown).trans rfl)
    · exact (State.getF_countF_ne _ _ _ _ (by simp)).trans hcount
    · rw [if_neg h0, ← hcode]
      exact State.getF_countF_same _ _ _ _

theorem telemetry_four (hruns : s.laneRuns n = true) (hup : s.lstate n = 3) (h : 4 ≤ f.errs) : Answers (.telemetryReceived n f) s (fun t =>
    t.getF .CL_FCNT1_RXERR n = min (2 ^ Fld.CL_FCNT1_RXERR.width - 1) (s.getF .CL_FCNT1_RXERR n + 1) ∧
    t.getF .CL_LINKCNT_LOSSCNT n = min (2 ^ Fld.CL_LINKCNT_LOSSCNT.width - 1) (s.getF .CL_LINKCNT_LOSSCNT n + 1) ∧ t.bit .CL_PHYSTAT_LOSS n = true ∧
    Trains n [(.CL_FCNT1_RXERR, n), (.CL_LINKCNT_CODEERR, n), (.CL_PHYSTAT_LOSS, n), (.CL_LINKCNT_LOSSCNT, n)] s t) := by
  obtain ⟨halone, hlane, hcount⟩ := s.heard_counted n
  have hexec := telemetry_broken hruns hup (.inr (.inl (show f.errs ≠ 0 by omega)))
  generalize (s.heard n).countF .CL_FCNT1_RXERR n 1 = u at halone hlane hcount hexec
  have hshown : ((u.discarded n 2).lanes[n]) = { s.lanes[n] with good := 0, fill := { state := 2 } } := (u.modLane_same n _).trans (by rw [hlane])
  have hall : LaneAlone n [(.CL_FCNT1_RXERR, n.val), (.CL_LINKCNT_CODEERR, n.val), (.CL_PHYSTAT_LOSS, n.val), (.CL_LINKCNT_LOSSCNT, n.val)] s (u.discarded n 2) :=
    (halone.mono (by simp)).modLane _
  have hup' : (u.discarded n 2).lstate n = 3 := (halone.getF_eq (by simp) n).trans hup
  rw [State.codeErrors_four hup' h] at hexec
  generalize (u.discarded n 2).lastErrors n f.errs = last at hexec
  let y := (u.discarded n 2).erredAt n f.errs last
  have hy : LaneAlone n [(.CL_FCNT1_RXERR, n.val), (.CL_LINKCNT_CODEERR, n.val), (.CL_PHYSTAT_LOSS, n.val), (.CL_LINKCNT_LOSSCNT, n.val)] s y :=
    (hall.setF _ (by simp)).modLane _
  let z := (y.setF .CL_PHYSTAT_LOSS n 1).countF .CL_LINKCNT_LOSSCNT n 1
  have hz : LaneAlone n [(.CL_FCNT1_RXERR, n.val), (.CL_LINKCNT_CODEERR, n.val), (.CL_PHYSTAT_LOSS, n.val), (.CL_LINKCNT_LOSSCNT, n.val)] s z :=
    (hy.setF 1 (by simp)).setF _ (by simp)
  obtain ⟨-, hloss, hlosscnt, -⟩ := y.linkLost_spec n
  have hrx : z.getF .CL_FCNT1_RXERR n = min (2 ^ Fld.CL_FCNT1_RXERR.width - 1) (s.getF .CL_FCNT1_RXERR n + 1) := by
    refine (State.getF_countF_ne _ _ _ _ (by simp)).trans ((State.getF_setF_ne _ _ _ _ (by simp)).trans ?_)
    exact (State.getF_countF_ne _ _ _ _ (by simp)).trans hcount
  have hyloss : y.getF .CL_LINKCNT_LOSSCNT n = s.getF .CL_LINKCNT_LOSSCNT n :=
    (State.getF_countF_ne _ _ _ _ (by simp)).trans (halone.getF_eq (by simp) n)
  have hburst : (y.lanes[n]).burst = (s.lanes[n]).burst := by
    have herred : y.lanes[n] = { (u.discarded n 2).lanes[n] with errAt := last } := State.modLane_same _ n (fun l => { l with errAt := last })
    rw [herred, hshown]
  refine ⟨_, hexec, ?_, by rw [hlosscnt, hyloss], hloss, Trains.after (z.train_spec n) hz (by simp [trainReads]) hburst⟩
  exact (Trains.getF_eq (z.train_spec n) (by simp [lstateFields]) n).trans hrx

/-- A frame of another type than the one expected. -/
theorem ackReceived_type (h : GoodFrame s n (frameField f.bytes 1 1) f) (hty : frameField f.bytes 1 1 ≠ 3) : Answers (.ackReceived n f) s (fun t =>
    (t.lanes[n]).ack = (s.lanes[n]).ack ∧ t.getF .CL_FCNT1_TYPEERR n = min (2 ^ Fld.CL_FCNT1_TYPEERR.width - 1) (s.getF .CL_FCNT1_TYPEERR n + 1) ∧
    t.getF .CL_FCNT1_RXERR n = min (2 ^ Fld.CL_FCNT1_RXERR.width - 1) (s.getF .CL_FCNT1_RXERR n + 1) ∧
    RegsBut s t [(.CL_FCNT1_TYPEERR, n), (.CL_FCNT1_RXERR, n)]) := by
  obtain ⟨halone, hlane, hcount⟩ := s.heard_counted n
  have hexec : exec (.ackReceived n f) s = .next (((s.heard n).countF .CL_FCNT1_RXERR n 1).countF .CL_FCNT1_TYPEERR n 1) := by
    change execAckReceived n f s = _
    rw [execAckReceived, tyAck, State.receive_type h hty]
  generalize (s.heard n).countF .CL_FCNT1_RXERR n 1 = u at halone hlane hcount hexec
  refine ⟨_, hexec, (congrArg LaneSt.ack hlane).trans rfl, ?_, ?_, (halone.regs.mono (by simp)).setF _ (by simp)⟩
  · rw [State.getF_countF_same, halone.getF_eq (by simp)]
  · rw [State.getF_countF_ne _ _ _ _ (by simp), hcount]

/-- A TELEMETRY for another cell. -/
theorem telemetry_cell (hruns : s.laneRuns n = true) (hup : s.lstate n = 3) (hk : f.kchar = false) (herrs : f.errs = 0) (hlen : f.bytes.length = 63)
    (hcrc : crc32c (f.bytes.take 59) = frameField f.bytes 60 4) (hty : frameField f.bytes 1 1 = 4) (hid : frameField f.bytes 8 2 ≠ s.getF .CL_CFG_CELLID n) :
    Answers (.telemetryReceived n f) s (fun t => (t.lanes[n]).fill = { state := 3 } ∧
      t.getF .CL_FCNT1_IDERR n = min (2 ^ Fld.CL_FCNT1_IDERR.width - 1) (s.getF .CL_FCNT1_IDERR n + 1) ∧
      t.getF .CL_FCNT1_RXERR n = min (2 ^ Fld.CL_FCNT1_RXERR.width - 1) (s.getF .CL_FCNT1_RXERR n + 1) ∧
      RegsBut s t [(.CL_FCNT1_IDERR, n), (.CL_FCNT1_RXERR, n)]) := by
  obtain ⟨halone, hlane, hcount⟩ := s.heard_counted n
  have hexec : exec (.telemetryReceived n f) s = .next ((((s.heard n).countF .CL_FCNT1_RXERR n 1).countF .CL_FCNT1_IDERR n 1).discarded n 3) := by
    change execTelemetryReceived n f s = _
    rw [execTelemetryReceived, tyTelemetry, State.receive_cell (State.rxLive_up hruns hup) hk herrs hlen hcrc hty hid]
    rfl
  generalize (s.heard n).countF .CL_FCNT1_RXERR n 1 = u at halone hlane hcount hexec
  refine ⟨_, hexec, congrArg LaneSt.fill (State.modLane_same _ n _), ?_, ?_, (halone.regs.mono (by simp)).setF _ (by simp)⟩
  · refine (State.getF_countF_same _ _ _ _).trans ?_
    rw [halone.getF_eq (by simp)]
  · exact (State.getF_countF_ne _ _ _ _ (by simp)).trans hcount

end

theorem linkReceives : Claims.LinkReceives := by
  intro n f s b count
  refine ⟨ackReceived_good, telemetry_good, telemetry_late, fun hruns hup hbad => ⟨telemetry_few hruns hup hbad, telemetry_four hruns hup⟩,
    fun g hg h hty => ?_, fun hruns hup hk herrs hlen hcrc hty hid => telemetry_cell hruns hup hk herrs hlen hcrc hty hid⟩
  have hb : b = g.bytes := hg.symm
  rw [hb] at h hty
  exact ackReceived_type h hty

/-! Delay measurement (R238). -/

/-- Eight round trips taken as the lane's delay. -/
theorem State.takeDelay_spec (s : State) (n : Fin 96) {rts : List Nat} (hsum : rts.sum < 2 ^ 20) : let t := s.takeDelay n rts
    t = { s with regs := t.regs, free := s.free + 1 } ∧ RegsBut s t [(.CL_DELAY_VALID, n), (.CL_DELAY_DLY, n), (.CL_STAT_DLYOVR, n)] ∧
    t.bit .CL_DELAY_VALID n = true ∧ rts.sum / 16 ≤ t.getF .CL_DELAY_DLY n ∧ t.getF .CL_DELAY_DLY n ≤ (rts.sum + 15) / 16 ∧
    (s.getF .CLG_DMAX_DMAX 0 * 256 < rts.sum → t.bit .CL_STAT_DLYOVR n = true) := by
  have hround := Nat.mod_lt s.draw.1.toNat (show 0 < 16 by decide)
  rw [State.takeDelay]
  dsimp only
  rw [meanDelay]
  generalize s.draw.1.toNat % 16 = r at hround
  have hfit : (rts.sum + r) / 16 % 2 ^ Fld.CL_DELAY_DLY.width = (rts.sum + r) / 16 := Nat.mod_eq_of_lt (by
    rw [show Fld.CL_DELAY_DLY.width = 24 from rfl]
    omega)
  let y := ((s.draw.2).setF .CL_DELAY_VALID n 1).setF .CL_DELAY_DLY n ((rts.sum + r) / 16)
  have hdly : (y.setWhen (decide (s.getF .CLG_DMAX_DMAX 0 * 256 < rts.sum)) .CL_STAT_DLYOVR n 1).getF .CL_DELAY_DLY n = (rts.sum + r) / 16 := by
    rw [State.getF_setWhen_ne _ _ _ _ _ (by simp), State.getF_setF_same, hfit]
  refine ⟨State.setWhen_frame y _ _ _ _, ?_, ?_, ?_, ?_, fun h => ?_⟩
  · refine RegsBut.setWhen ?_ (by simp) _ _
    exact RegsBut.setF (RegsBut.setF (t := s.draw.2) (fun _ _ _ => rfl) 1 (by simp)) _ (by simp)
  · rw [State.bit, State.getF_setWhen_ne _ _ _ _ _ (by simp), State.getF_setF_ne _ _ _ _ (by simp)]
    exact beq_iff_eq.2 (State.getF_setF_same _ _ _ _)
  · rw [hdly]
    omega
  · rw [hdly]
    omega
  · rw [decide_eq_true h]
    exact beq_iff_eq.2 (State.getF_setF_same _ _ _ _)

/-- The measurement's results become `acc`. -/
def State.tripped (s : State) (n : Fin 96) (acc : List Nat) : State :=
  (s.modLane n (fun l => { l with dlyWait := false })).modLane n (fun l => { l with dlyAcc := acc, dlyOut := [] })

theorem State.tripped_lane (s : State) (n : Fin 96) (acc : List Nat) :
    ((s.tripped n acc).lanes[n]).dlyAcc = acc ∧ ((s.tripped n acc).lanes[n]).dlyWait = false := by
  have hlane : (s.tripped n acc).lanes[n] = { { s.lanes[n] with dlyWait := false } with dlyAcc := acc, dlyOut := [] } := by
    rw [State.tripped, State.modLane_same, State.modLane_same]
  rw [hlane]
  exact ⟨rfl, rfl⟩

section
variable {n : Fin 96} {f : RxFrame} {t4 : Nat} {s : State}

/-- A response in time to the request that waits, while no delay is valid (R238). -/
theorem delayResp_result (h : GoodFrame s n 7 f) (hwait : (s.lanes[n]).dlyWait = true)
    (hseq : frameField f.bytes 11 1 = (s.lanes[n]).dseq.toNat) (hoff : s.offReached (s.slot n 3) = false) (hval : s.bit .CL_DELAY_VALID n = false) :
    let acc := ((t4 - (s.lanes[n]).dlyT1 - frameField f.bytes 12 4) :: (s.lanes[n]).dlyAcc).take 8
    exec (.delayRespReceived n f t4) s =
      .next (if acc.length = 8 then ((s.noted n f).tripped n acc).takeDelay n acc else (s.noted n f).tripped n acc) := by
  intro acc
  obtain ⟨hnoted, hlane, -⟩ := s.noted_spec n f
  have hget {g : Fld} (h1 : g ≠ .CL_STAT_EPOCHHI) (h2 : g ≠ .MIR_STAT_FOREIGN) (h3 : g ≠ .TRIP_LAT2_TWIN) (i : Nat) :
      (s.noted n f).getF g i = s.getF g i := hnoted.getF_eq (epochKeys_ne h1 h2 h3) i
  have hslot : (s.noted n f).slot n 3 = s.slot n 3 := by
    have hframe := hnoted.frame
    exact State.slot_congr (by rw [hframe]) (by rw [hframe]) (by rw [hframe]) (hget (by simp) (by simp) (by simp) n) 3
  have hreached : (s.noted n f).offReached (s.slot n 3) = false := by
    rw [← hoff, State.offReached, State.offReached, State.unitAu, State.unitAu, State.fretAu, State.fretAu, State.fpc, State.fpc,
      hnoted.inFret (epochKeys_ne (by simp) (by simp) (by simp)), hget (by simp) (by simp) (by simp)]
  have hvalid : (s.noted n f).bit .CL_DELAY_VALID n = false := by rw [State.bit, hget (by simp) (by simp) (by simp), ← State.bit, hval]
  change execDelayRespReceived n f t4 s = _
  rw [execDelayRespReceived, tyDelayResp, State.receive_good h]
  dsimp only
  generalize s.noted n f = u at hlane hslot hreached hvalid ⊢
  rw [hlane]
  dsimp only
  rw [if_pos hwait, hslot, if_pos ⟨hseq, hreached⟩, State.delayResult]
  have hwaits : (u.modLane n (fun l => { l with dlyWait := false })).lanes[n] = { s.lanes[n] with good := 0, dlyWait := false } := by
    rw [State.modLane_same, hlane]
  have hvalid' : (u.modLane n (fun l => { l with dlyWait := false })).bit .CL_DELAY_VALID n = false := hvalid
  rw [hwaits, hvalid']
  rfl

/-- What a frame leaves as it was, once more registers and memory have changed and values been drawn. -/
theorem RxFrameOf.after {u t : State} {more : List (Fld × Nat)} (h : RxFrameOf n [] s u)
    (hframe : t = { u with regs := t.regs, mem := t.mem, free := t.free }) (hregs : RegsBut u t more) : RxFrameOf n more s t := by
  obtain ⟨hothers, hcell, hpend, hjnl, hce, harms, hbut⟩ := h
  rw [List.append_nil] at hbut
  have hkeys := (hbut.mono (List.subset_append_left _ more)).trans (hregs.mono (List.subset_append_right _ _))
  refine ⟨fun m hm => ?_, ?_, ?_, ?_, ?_, ?_, hkeys⟩
  · rw [hframe]
    exact hothers m hm
  · rw [hframe]
    exact hcell
  · rw [hframe]
    exact hpend
  · rw [hframe]
    exact hjnl
  · rw [hframe]
    exact hce
  · rw [hframe]
    exact harms

theorem delayMeasurement : Claims.DelayMeasurement := by
  intro n f t4 s l rt ok sum
  refine ⟨fun hok hval hlen => ?_, fun hok hval hlen hsum => ?_, fun hwait hatu hruns => ?_⟩
  · obtain ⟨hgood, hwait, hseq, hoff⟩ := hok
    have hacc : (rt :: l.dlyAcc).take 8 = rt :: l.dlyAcc := List.take_of_length_le (by rw [List.length_cons]; omega)
    have hexec := delayResp_result (t4 := t4) hgood hwait hseq hoff hval
    dsimp only at hexec
    rw [hacc, if_neg (by rw [List.length_cons]; show l.dlyAcc.length + 1 ≠ 8; omega)] at hexec
    obtain ⟨hnoted, -, -⟩ := s.noted_spec n f
    obtain ⟨hdly, hw⟩ := (s.noted n f).tripped_lane n (rt :: l.dlyAcc)
    have hall : Noted n (epochKeys n) s ((s.noted n f).tripped n (rt :: l.dlyAcc)) := (hnoted.modLane _).modLane _
    refine ⟨_, hexec, hall.rxFrame (by simp), hdly, hw, ?_⟩
    rw [State.bit, hall.getF_eq (epochKeys_ne (by simp) (by simp) (by simp)), ← State.bit, hval]
  · obtain ⟨hgood, hwait, hseq, hoff⟩ := hok
    have hacc : (rt :: l.dlyAcc).take 8 = rt :: l.dlyAcc.take 7 := rfl
    have hexec := delayResp_result (t4 := t4) hgood hwait hseq hoff hval
    dsimp only at hexec
    rw [hacc, if_pos (by rw [List.length_cons, List.length_take]; omega)] at hexec
    obtain ⟨hnoted, -, -⟩ := s.noted_spec n f
    have hall : Noted n (epochKeys n) s ((s.noted n f).tripped n (rt :: l.dlyAcc.take 7)) := (hnoted.modLane _).modLane _
    obtain ⟨hframe, hregs, hv, hlo, hhi, hover⟩ := ((s.noted n f).tripped n (rt :: l.dlyAcc.take 7)).takeDelay_spec n
      (rts := rt :: l.dlyAcc.take 7) (by rw [List.sum_cons]; exact hsum)
    have hmax := hall.getF_eq (f := .CLG_DMAX_DMAX) (epochKeys_ne (by simp) (by simp) (by simp)) 0
    rw [List.sum_cons] at hlo hhi hover
    generalize (s.noted n f).tripped n (rt :: l.dlyAcc.take 7) = v at hexec hall hframe hregs hv hlo hhi hover hmax
    generalize v.takeDelay n (rt :: l.dlyAcc.take 7) = u at hexec hframe hregs hv hlo hhi hover
    have hlater := hframe.trans (by rw [show u.mem = v.mem by rw [hframe], show u.free = v.free + 1 by rw [hframe]] :
      _ = { v with regs := u.regs, mem := u.mem, free := u.free })
    exact ⟨_, hexec, RxFrameOf.after (hall.rxFrame (by simp)) hlater hregs, hv, hlo, hhi, fun hd => hover (by rw [hmax]; exact hd)⟩
  · have hexec : exec (.delayRespTimeout n) s = .next ((s.raiseAngle (s.slot n 3)).delayVoid n) := by
      change execDelayRespTimeout n s = _
      rw [execDelayRespTimeout, show (s.lanes[n]).dlyWait = true from hwait, hatu, hruns]
      rfl
    have hlane : (s.raiseAngle (s.slot n 3)).lanes[n] = l := by rw [State.raiseAngle_lanes]
    exact ⟨_, hexec, LaneIs.of_modLane (s := atOffset s (s.slot n 3)) (congrArg (fun x : LaneSt => { x with dlyWait := false, dlyOut := [] }) hlane)⟩

end

/-- Settles O51: the claims on reception and on the delay measurement. -/
theorem linkReceptionAndDelay : Obligations.LinkReceptionAndDelay := ⟨linkReceives, delayMeasurement⟩

end Sys2Proof.Machine
end

section
/-! Bulk frames, slot tables and the CLEAR request (R229 to R234, R250). -/
namespace Sys2Proof.Machine

-- The proofs one after another: all at once they would need more threads, and their stacks, than the check's memory holds.
set_option Elab.async false

/-! Bulk frames (R229, R234). -/

theorem LaneAlone.clrF {n : Fin 96} {l : List (Fld × Nat)} {s t : State} (h : LaneAlone n l s t) {f : Fld} {i : Nat} (b : Nat) (hm : (f, i) ∈ l) :
    LaneAlone n l s (t.clrF f i b) := by
  rw [State.clrF]
  split_ifs
  · exact h.setF _ hm
  · exact h

theorem State.clrF_lanes (s : State) (f : Fld) (i b : Nat) : (s.clrF f i b).lanes = s.lanes := by
  rw [State.clrF]
  split_ifs <;> rfl

section
variable {n : Fin 96} {e : Fin 4} {f : RxFrame} {s : State}

theorem bulkTxGo_new (hbus : s.laneBus n = true) (h : s.testF .CL_BSTAT_TXBUSY n e = false) : Answers (.bulkTxGo n e) s (fun t =>
    (t.lanes[n]).bulkQ = (s.lanes[n]).bulkQ ++ [e] ∧ t.testF .CL_BSTAT_TXBUSY n e = true ∧ t.testF .CL_BCTRL_TXGO n e = true ∧
    (∀ m : Fin 96, m ≠ n → t.lanes[m] = s.lanes[m]) ∧ t = { s with regs := t.regs, lanes := t.lanes } ∧
    RegsBut s t [(.CL_BSTAT_TXBUSY, n), (.CL_BCTRL_TXGO, n)]) := by
  let y := (s.orF .CL_BCTRL_TXGO n e).orF .CL_BSTAT_TXBUSY n e
  have hexec : exec (.bulkTxGo n e) s = .next (y.modLane n (fun l => { l with bulkQ := l.bulkQ ++ [e] })) := by
    change execBulkTxGo n e s = _
    rw [execBulkTxGo, if_pos hbus, State.bulkGo, h]
    rfl
  have hall : LaneAlone n [(.CL_BSTAT_TXBUSY, n.val), (.CL_BCTRL_TXGO, n.val)] s (y.modLane n (fun l => { l with bulkQ := l.bulkQ ++ [e] })) :=
    (((LaneAlone.refl n _ s).setF _ (by simp)).setF _ (by simp)).modLane _
  refine ⟨_, hexec, ?_, ?_, ?_, hall.others, hall.frame, hall.regs⟩
  · exact (congrArg LaneSt.bulkQ (y.modLane_same n (fun l => { l with bulkQ := l.bulkQ ++ [e] }))).trans rfl
  · exact State.testF_orF_same _ _ .CL_BSTAT_TXBUSY e.isLt
  · exact (State.testF_setF_ne _ _ _ _ _ (by decide)).trans (State.testF_orF_same s _ .CL_BCTRL_TXGO e.isLt)

theorem bulkRxFree_held (hbus : s.laneBus n = true) (h : s.testF .CL_BSTAT_RXVALID n e = true) : Sets (.bulkRxFree n e) s
    [(.CL_BSTAT_RXVALID, n, (s.getF .CL_BSTAT_RXVALID n - 2 ^ e.val) % 2 ^ Fld.CL_BSTAT_RXVALID.width)] := by
  have hexec : exec (.bulkRxFree n e) s =
      .next (s.setAll [(.CL_BSTAT_RXVALID, n, (s.getF .CL_BSTAT_RXVALID n - 2 ^ e.val) % 2 ^ Fld.CL_BSTAT_RXVALID.width)]) := by
    change execBulkRxFree n e s = _
    rw [execBulkRxFree, if_pos hbus, State.bulkFree, State.clrF, if_pos h, State.setAll_cons, State.setF_mod]
    rfl
  exact SetsOn.of_setAll hexec (by simp [writtenKeys]) (List.forall_mem_singleton.2 (Nat.mod_lt _ (Nat.two_pow_pos _))) rfl

theorem bulkRxFree_free (hbus : s.laneBus n = true) (h : s.testF .CL_BSTAT_RXVALID n e = false) : Ignores (.bulkRxFree n e) s := by
  change execBulkRxFree n e s = _
  rw [execBulkRxFree, if_pos hbus, State.bulkFree, State.clrF, if_neg (by simp [h])]

theorem bulkTxSend_waits (h : s.txBusy n = true ∨ s.gapOk n = false) : Ignores (.bulkTxSend n) s := by
  change execBulkTxSend n s = _
  rw [execBulkTxSend]
  cases (s.lanes[n]).bulkQ with
  | nil => rfl
  | cons e rest => exact congrArg Host.Outcome.next (if_neg (by rcases h with h | h <;> simp [h]))

theorem bulkTxSend_sends {rest : List (Fin 4)} (hq : (s.lanes[n]).bulkQ = e :: rest) (hserv : s.serving n = true) (hbusy : s.txBusy n = false)
    (hgap : s.gapOk n = true) : Answers (.bulkTxSend n) s (fun t =>
    let chan := s.getF .CL_BCTRL_TXCHAN n / 2 ^ (4 * e.val) % 16
    Sends n [s.frame n 8 ([BitVec.ofNat 8 chan, (s.lanes[n]).bulkSeq] ++ s.readList (bulkTxBase n e) 48)] [(.CL_BSTAT_TXBUSY, n), (.CL_BCTRL_TXGO, n)] s t ∧
    (t.lanes[n]).bulkQ = rest ∧ (t.lanes[n]).bulkSeq = (s.lanes[n]).bulkSeq + 1#8 ∧
    (s.getF .CL_BSTAT_TXBUSY n < 16 → t.testF .CL_BSTAT_TXBUSY n e = false)) := by
  let chan := s.getF .CL_BCTRL_TXCHAN n / 2 ^ (4 * e.val) % 16
  let fr := s.frame n 8 ([BitVec.ofNat 8 chan, (s.lanes[n]).bulkSeq] ++ s.readList (bulkTxBase n e) 48)
  let y := ((s.sendFrames n [fr]).clrF .CL_BCTRL_TXGO n e).clrF .CL_BSTAT_TXBUSY n e
  let next := fun l : LaneSt => { l with bulkQ := rest, bulkSeq := l.bulkSeq + 1#8 }
  let t := y.modLane n next
  have hbody : leBytes 1 chan ++ leBytes 1 (s.lanes[n]).bulkSeq.toNat = [BitVec.ofNat 8 chan, (s.lanes[n]).bulkSeq] := by
    rw [leBytes_byte, leBytes_succ]
    rfl
  have hexec : exec (.bulkTxSend n) s = .next t := by
    change execBulkTxSend n s = _
    rw [execBulkTxSend, hq]
    dsimp only
    rw [hserv, hbusy, hgap, hbody]
    rfl
  have hlane : t.lanes[n] = next { s.lanes[n] with lastTx := [fr], txCut := false, txEnd := s.tick + [fr].length * s.frameTicks n } := by
    refine (y.modLane_same n _).trans ?_
    rw [show y.lanes = (s.sendFrames n [fr]).lanes from (State.clrF_lanes _ _ _ _).trans (State.clrF_lanes _ _ _ _), State.sendFrames, State.modLane_same]
  have hall : LaneAlone n [(.CL_BSTAT_TXBUSY, n.val), (.CL_BCTRL_TXGO, n.val)] s t :=
    (LaneAlone.clrF (LaneAlone.clrF ((LaneAlone.refl n _ s).modLane _) _ (by simp)) _ (by simp)).modLane _
  refine ⟨t, hexec, Sends.of_alone hall (by rw [hlane]) (by rw [hlane]) (by rw [hlane]), by rw [hlane], by rw [hlane], fun _ => ?_⟩
  exact (State.testF_clrF _ .CL_BSTAT_TXBUSY n e.isLt).trans (by simp)

/-- The header of a receive entry. -/
def brxKeys (n : Fin 96) (e : Nat) : List (Fld × Nat) :=
  [(.CL_BRXHDR_CHAN0, n * 2 + e / 2), (.CL_BRXHDR_SEQ0, n * 2 + e / 2), (.CL_BRXHDR_CHAN1, n * 2 + e / 2), (.CL_BRXHDR_SEQ1, n * 2 + e / 2)]

theorem State.setBrxHdr_only (s : State) (n : Fin 96) (e chan seq : Nat) : OnlyRegs s (s.setBrxHdr n e chan seq) (brxKeys n e) := by
  rw [State.setBrxHdr]
  split_ifs
  · exact ((OnlyRegs.refl s _).setF _ (by simp [brxKeys])).setF _ (by simp [brxKeys])
  · exact ((OnlyRegs.refl s _).setF _ (by simp [brxKeys])).setF _ (by simp [brxKeys])

/-- The first free receive entry. -/
theorem find_free (h : s.testF .CL_BSTAT_RXVALID n e = false) (hlow : ∀ k : Fin 4, k < e → s.testF .CL_BSTAT_RXVALID n k = true) :
    (List.range 4).find? (fun e => !s.testF .CL_BSTAT_RXVALID n e) = some e.val := by
  refine List.find?_range_eq_some.2 ⟨by rw [h]; rfl, List.mem_range.2 e.isLt, fun j hj => ?_⟩
  rw [hlow ⟨j, hj.trans e.isLt⟩ hj]
  rfl

theorem bulkReceived_taken (h : GoodFrame s n 8 f) (hfree : s.testF .CL_BSTAT_RXVALID n e = false)
    (hlow : ∀ k : Fin 4, k < e → s.testF .CL_BSTAT_RXVALID n k = true) :
    Answers (.bulkReceived n f) s (fun t => t.readList (bulkRxBase n e) 48 = (f.bytes.drop 11).take 48 ∧ t.testF .CL_BSTAT_RXVALID n e = true ∧
      MemBut s t (bulkRxBase n e) 48 ∧
      RxFrameOf n [(.CL_BSTAT_RXVALID, n), (.CL_BRXHDR_CHAN0, n * 2 + e / 2), (.CL_BRXHDR_SEQ0, n * 2 + e / 2), (.CL_BRXHDR_CHAN1, n * 2 + e / 2),
        (.CL_BRXHDR_SEQ1, n * 2 + e / 2)] s t) := by
  obtain ⟨hnoted, -, -⟩ := s.noted_spec n f
  have hvalid : (s.noted n f).getF .CL_BSTAT_RXVALID n = s.getF .CL_BSTAT_RXVALID n := hnoted.getF_eq (epochKeys_ne (by simp) (by simp) (by simp)) n
  have htest (k : Nat) : (s.noted n f).testF .CL_BSTAT_RXVALID n k = s.testF .CL_BSTAT_RXVALID n k := by rw [State.testF, hvalid, State.testF]
  let data := (f.bytes.drop 11).take 48
  have hlen : data.length = 48 := by
    have := h.2.2.2.1
    rw [List.length_take, List.length_drop, this]
    rfl
  have hfind := find_free (s := s.noted n f) (e := e) (n := n) (by rw [htest, hfree]) (fun k hk => by rw [htest, hlow k hk])
  have hexec : exec (.bulkReceived n f) s = .next ((((s.noted n f).setList (bulkRxBase n e) data).setBrxHdr n e (frameField f.bytes 10 1 % 16)
      (frameField f.bytes 11 1)).orF .CL_BSTAT_RXVALID n e) := by
    change execBulkReceived n f s = _
    rw [execBulkReceived, tyBulk, State.receive_good h, hfind]
  have hmem := (s.noted n f).readList_setList (bulkRxBase n e) data
  have hrest := (s.noted n f).byte_setList (bulkRxBase n e) data
  rw [hlen] at hmem hrest
  have hput := (s.noted n f).setList_frame (bulkRxBase n e) data
  have hsame := hnoted.sameMem
  generalize s.noted n f = u at hexec hnoted hmem hrest hput hsame
  generalize u.setList (bulkRxBase n e) data = v at hexec hmem hrest hput
  obtain ⟨hframe, hregs⟩ := v.setBrxHdr_only n e (frameField f.bytes 10 1 % 16) (frameField f.bytes 11 1)
  generalize v.setBrxHdr n e (frameField f.bytes 10 1 % 16) (frameField f.bytes 11 1) = w at hexec hframe hregs
  have hbyte (x : Nat) : w.byte x = v.byte x := by rw [hframe]; rfl
  refine ⟨_, hexec, ?_, State.testF_orF_same w _ .CL_BSTAT_RXVALID (e.isLt), fun x hx => ?_, ?_⟩
  · exact (State.readList_congr (s := w.orF .CL_BSTAT_RXVALID n e) (t := v) hbyte _ _).trans hmem
  · exact (hbyte x).trans ((hrest x hx).trans (hsame x))
  · refine RxFrameOf.after (u := u) (hnoted.rxFrame (by simp)) ?_ ?_
    · have hw : w = { u with regs := w.regs, mem := w.mem } := by
        rw [show w.mem = v.mem by rw [hframe]]
        exact hframe.trans (congrArg (fun x : State => { x with regs := w.regs }) hput)
      exact (congrArg (fun x : State => x.orF .CL_BSTAT_RXVALID n e) hw).trans (by rw [show (w.orF .CL_BSTAT_RXVALID n e).free = u.free by rw [hw]; rfl]; rfl)
    · have hv : RegsBut u v [] := fun g i _ => by rw [hput]; rfl
      exact ((hv.mono (List.nil_subset _)).trans (hregs.mono (List.subset_cons_self _ _))).setF _ List.mem_cons_self

theorem bulkReceived_dropped (h : GoodFrame s n 8 f) (hfull : ∀ k : Fin 4, s.testF .CL_BSTAT_RXVALID n k = true) :
    Answers (.bulkReceived n f) s (fun t => SameMem s t ∧ RxFrameOf n [(.CL_BSTAT_RXDROP, n)] s t ∧
      t.getF .CL_BSTAT_RXDROP n = min (2 ^ Fld.CL_BSTAT_RXDROP.width - 1) (s.getF .CL_BSTAT_RXDROP n + 1)) := by
  obtain ⟨hnoted, -, -⟩ := s.noted_spec n f
  have hcount : (s.noted n f).getF .CL_BSTAT_RXDROP n = s.getF .CL_BSTAT_RXDROP n := hnoted.getF_eq (epochKeys_ne (by simp) (by simp) (by simp)) n
  have hvalid : (s.noted n f).getF .CL_BSTAT_RXVALID n = s.getF .CL_BSTAT_RXVALID n := hnoted.getF_eq (epochKeys_ne (by simp) (by simp) (by simp)) n
  have hnone : (List.range 4).find? (fun e => !(s.noted n f).testF .CL_BSTAT_RXVALID n e) = none := by
    refine List.find?_eq_none.2 fun k hk => ?_
    rw [State.testF, hvalid, ← State.testF, hfull ⟨k, List.mem_range.1 hk⟩]
    decide
  have hexec : exec (.bulkReceived n f) s = .next ((s.noted n f).countF .CL_BSTAT_RXDROP n 1) := by
    change execBulkReceived n f s = _
    rw [execBulkReceived, tyBulk, State.receive_good h, hnone]
  generalize s.noted n f = u at hexec hnoted hcount
  have hall : Noted n (epochKeys n ++ [(.CL_BSTAT_RXDROP, n.val)]) s (u.countF .CL_BSTAT_RXDROP n 1) :=
    (hnoted.mono (List.subset_append_left _ _)).setF _ (List.mem_append_right _ (List.mem_singleton.2 rfl))
  exact ⟨_, hexec, hall.sameMem, hall.rxFrame (List.Subset.refl _), by rw [State.getF_countF_same, hcount]⟩

theorem bulkFrames : Claims.BulkFrames := by
  intro n e f s l w
  refine ⟨fun hbus => ⟨fun h => ?_, bulkTxGo_new hbus, bulkRxFree_held hbus, bulkRxFree_free hbus⟩, bulkTxSend_waits,
    fun rest hq hserv hbusy hgap => bulkTxSend_sends hq hserv hbusy hgap, bulkReceived_taken, bulkReceived_dropped⟩
  change execBulkTxGo n e s = _
  rw [execBulkTxGo, if_pos hbus, State.bulkGo, if_pos h]

end

/-! Slot tables (R230 to R233). -/

section
variable {n : Fin 96} {off : BitVec 7} {w : Word} {mode : Bool} {s : State}

theorem slotTableWrite_eq (hbus : s.laneBus n = true) (h4 : off.toNat % 4 = 0) : exec (.slotTableWrite n off w) s = .next (s.writeSlot n off.toNat w) := by
  change execSlotTableWrite n off w s = _
  rw [execSlotTableWrite, hbus, h4]
  rfl

theorem slotTableWrite_shadow (hbus : s.laneBus n = true) (h4 : off.toNat % 4 = 0) (hcopy : off.toNat / 64 ≠ s.getF .CL_STAT_ACTIVE n)
    (hfree : s.clgBusy = false ∨ s.swapMasked n = false) : Answers (.slotTableWrite n off w) s (fun t =>
      t.word (slotBase n + off.toNat) = (if off.toNat % 16 = 12 then 0#32 else w) ∧ MemBut s t (slotBase n + off.toNat) 4 ∧ t = { s with mem := t.mem }) := by
  have hlt := off.isLt
  generalize hv : (if off.toNat % 16 = 12 then 0#32 else w) = v
  have hexec : exec (.slotTableWrite n off w) s = .next (s.setWord (slotBase n + off.toNat) v) := by
    rw [slotTableWrite_eq hbus h4, State.writeSlot, if_neg (by rw [Nat.mod_eq_of_lt (show off.toNat / 64 < 2 by omega)]; exact hcopy),
      if_neg (by rcases hfree with h | h <;> simp [h]), hv]
  refine ⟨_, hexec, s.word_setWord _ _, fun x hx => s.byte_setBytes _ _ _ _ hx, ?_⟩
  rw [State.setWord, State.setBytes_frame]

theorem State.clgCode_le (s : State) : s.clgCode ≤ 3 := by
  unfold State.clgCode
  split_ifs <;> decide

/-- The lanes named in turn change to their other copy. -/
theorem foldl_swap {l : List (Fin 96)} (hl : l.Nodup) : ∀ s : State,
    let t := l.foldl (fun t n => t.setF .CL_STAT_ACTIVE n (1 - t.getF .CL_STAT_ACTIVE n)) s
    OnlyRegs s t ((List.range 96).map (fun k => (Fld.CL_STAT_ACTIVE, k))) ∧
    ∀ k : Fin 96, t.getF .CL_STAT_ACTIVE k = if k ∈ l then 1 - s.getF .CL_STAT_ACTIVE k else s.getF .CL_STAT_ACTIVE k := by
  induction l with
  | nil => exact fun s => ⟨.refl s _, fun k => (if_neg (List.not_mem_nil)).symm⟩
  | cons m l ih =>
    intro s
    obtain ⟨hm, hnd⟩ := List.nodup_cons.1 hl
    obtain ⟨honly, heach⟩ := ih hnd (s.setF .CL_STAT_ACTIVE m (1 - s.getF .CL_STAT_ACTIVE m))
    have hm' : (Fld.CL_STAT_ACTIVE, m.val) ∈ (List.range 96).map (fun k => (Fld.CL_STAT_ACTIVE, k)) := List.mem_map.2 ⟨m, List.mem_range.2 m.isLt, rfl⟩
    refine ⟨((OnlyRegs.refl s _).setF _ hm').trans honly, fun k => (heach k).trans ?_⟩
    by_cases hk : k = m
    · subst hk
      rw [if_neg hm, if_pos List.mem_cons_self, State.getF_setF_same]
      exact Nat.mod_eq_of_lt (by rw [show Fld.CL_STAT_ACTIVE.width = 1 from rfl]; omega)
    · rw [s.getF_setF_fin .CL_STAT_ACTIVE (by decide) hk]
      exact if_congr (by simp [hk]) rfl rfl

/-- The fields that the swap writes beside the lanes' own. -/
def clgKeys : List (Fld × Nat) := [(.CLG_STAT_VALIDATING, 0), (.CLG_STAT_SWAPPEND, 0), (.CLG_CTRL_SWAP, 0), (.CLG_STAT_SWAPDONE, 0)]

theorem mem_swapLanes (s : State) (k : Fin 96) : k ∈ s.swapLanes ↔ s.swapMasked k = true := by
  simp [State.swapLanes]

theorem State.clgSwapNow_spec (s : State) : let t := s.clgSwapNow
    t.bit .CLG_STAT_SWAPPEND 0 = false ∧ t.bit .CLG_CTRL_SWAP 0 = false ∧ t.bit .CLG_STAT_SWAPDONE 0 = true ∧
    (∀ k : Fin 96, t.getF .CL_STAT_ACTIVE k = if s.swapMasked k then 1 - s.getF .CL_STAT_ACTIVE k else s.getF .CL_STAT_ACTIVE k) ∧
    OnlyRegs s t (clgKeys ++ (List.range 96).map (fun k => (Fld.CL_STAT_ACTIVE, k))) ∧ t.getF .CLG_STAT_VALIDATING 0 = s.getF .CLG_STAT_VALIDATING 0 := by
  have hnd : s.swapLanes.Nodup := (List.nodup_finRange 96).filter _
  obtain ⟨honly, heach⟩ := foldl_swap hnd s
  rw [State.clgSwapNow]
  dsimp only
  generalize s.swapLanes.foldl (fun t n => t.setF .CL_STAT_ACTIVE n (1 - t.getF .CL_STAT_ACTIVE n)) s = u at honly heach
  have hkeep {g : Fld} (hg : g ≠ .CL_STAT_ACTIVE) (i : Nat) : u.getF g i = s.getF g i := honly.2.getF_eq (fun e he heq => hg (by
    obtain ⟨k, -, rfl⟩ := List.mem_map.1 he
    exact heq.symm)) i
  refine ⟨?_, ?_, ?_, fun k => ?_, ?_, ?_⟩
  · rw [State.bit_setF_ne _ _ _ _ (by decide), State.bit_setF_same]
    rfl
  · rw [State.bit_setF_ne _ _ _ _ (by decide), State.bit_setF_ne _ _ _ _ (by decide), State.bit_setF_same]
    rfl
  · rw [State.bit_setF_same]
    rfl
  · rw [State.getF_setF_ne _ _ _ _ (by decide), State.getF_setF_ne _ _ _ _ (by decide), State.getF_setF_ne _ _ _ _ (by decide), heach]
    exact if_congr (mem_swapLanes s k) rfl rfl
  · have hall := honly.mono (List.subset_append_right clgKeys _)
    exact ((hall.setF 0 (by simp [clgKeys])).setF 0 (by simp [clgKeys])).setF 1 (by simp [clgKeys])
  · rw [State.getF_setF_ne _ _ _ _ (by decide), State.getF_setF_ne _ _ _ _ (by decide), State.getF_setF_ne _ _ _ _ (by decide), hkeep (by decide)]

theorem clgSwap_go (hbus : s.fabBus = true) (h : s.clgBusy = false) :
    Sets (.clgSwap mode) s [(.CLG_CTRL_SWAPMODE, 0, b2n mode), (.CLG_CTRL_SWAP, 0, 1), (.CLG_STAT_VALIDATING, 0, 1)] := by
  have hexec : exec (.clgSwap mode) s = .next (s.setAll [(.CLG_CTRL_SWAPMODE, 0, b2n mode), (.CLG_CTRL_SWAP, 0, 1), (.CLG_STAT_VALIDATING, 0, 1)]) := by
    change execClgSwap mode s = _
    rw [execClgSwap, if_pos hbus, State.writeClgSwap, h]
    rfl
  exact SetsOn.of_setAll hexec (writtenKeys_nodup (by simp)) (by simp) rfl

theorem clgSwap_busy (hbus : s.fabBus = true) (h : s.clgBusy = true) (hm : mode ≠ s.bit .CLG_CTRL_SWAPMODE 0) :
    Sets (.clgSwap mode) s [(.CLG_STAT_WRPEND, 0, 1)] := by
  have hexec : exec (.clgSwap mode) s = .next (s.setAll [(.CLG_STAT_WRPEND, 0, 1)]) := by
    change execClgSwap mode s = _
    rw [execClgSwap, if_pos hbus, State.writeClgSwap, if_pos h, if_pos (bne_iff_ne.2 hm)]
    rfl
  exact SetsOn.of_setAll hexec (by simp [writtenKeys]) (by simp) rfl

section
variable (hruns : s.fabRuns = true) (hval : s.bit .CLG_STAT_VALIDATING 0 = true)
include hruns hval

theorem clgSwapValidated_eq : exec .clgSwapValidated s = .next (if s.clgCode ≠ 0 then
    s.setAll [(.CLG_STAT_VALIDATING, 0, 0), (.CLG_STAT_SWAPERR, 0, 1), (.CLG_STAT_SWAPCODE, 0, s.clgCode), (.CLG_CTRL_SWAP, 0, 0)]
    else if s.atuOn then s.setAll [(.CLG_STAT_VALIDATING, 0, 0), (.CLG_STAT_SWAPPEND, 0, 1)] else (s.setF .CLG_STAT_VALIDATING 0 0).clgSwapNow) := by
  change execClgSwapValidated s = _
  rw [execClgSwapValidated, hval, hruns]
  rfl

theorem clgSwapValidated_fails (hc : s.clgCode ≠ 0) : Sets .clgSwapValidated s
    [(.CLG_STAT_VALIDATING, 0, 0), (.CLG_STAT_SWAPERR, 0, 1), (.CLG_STAT_SWAPCODE, 0, s.clgCode), (.CLG_CTRL_SWAP, 0, 0)] := by
  refine SetsOn.of_setAll ((clgSwapValidated_eq hruns hval).trans (by rw [if_pos hc])) (writtenKeys_nodup (by simp)) ?_ rfl
  have hfit : s.clgCode < 2 ^ Fld.CLG_STAT_SWAPCODE.width := s.clgCode_le.trans_lt (show 3 < 2 ^ 4 by decide)
  simp [hfit]

theorem clgSwapValidated_waits (hc : s.clgCode = 0) (hatu : s.atuOn = true) : Sets .clgSwapValidated s
    [(.CLG_STAT_VALIDATING, 0, 0), (.CLG_STAT_SWAPPEND, 0, 1)] := by
  refine SetsOn.of_setAll ((clgSwapValidated_eq hruns hval).trans (by rw [if_neg (not_not_intro hc), if_pos hatu])) (writtenKeys_nodup (by simp)) ?_ rfl
  simp

theorem clgSwapValidated_now (hc : s.clgCode = 0) (hatu : s.atuOn = false) : Answers .clgSwapValidated s (fun t =>
    t.bit .CLG_STAT_VALIDATING 0 = false ∧ t.bit .CLG_STAT_SWAPPEND 0 = false ∧ t.bit .CLG_CTRL_SWAP 0 = false ∧ t.bit .CLG_STAT_SWAPDONE 0 = true ∧
    (∀ k : Fin 96, t.getF .CL_STAT_ACTIVE k = if s.swapMasked k then 1 - s.getF .CL_STAT_ACTIVE k else s.getF .CL_STAT_ACTIVE k) ∧
    OnlyRegs s t (clgKeys ++ (List.range 96).map (fun k => (Fld.CL_STAT_ACTIVE, k)))) := by
  have hexec := (clgSwapValidated_eq hruns hval).trans (by rw [if_neg (not_not_intro hc), if_neg (by simp [hatu])])
  let u := s.setF .CLG_STAT_VALIDATING 0 0
  have hmask (k : Nat) : u.swapMasked k = s.swapMasked k := s.testF_setF_ne _ _ _ _ (by decide)
  have hact (k : Nat) : u.getF .CL_STAT_ACTIVE k = s.getF .CL_STAT_ACTIVE k := s.getF_setF_ne _ _ _ (by decide)
  obtain ⟨hpend, hswap, hdone, heach, honly, hkept⟩ := u.clgSwapNow_spec
  refine ⟨_, hexec, ?_, hpend, hswap, hdone, fun k => ?_, ?_⟩
  · refine beq_eq_false_iff_ne.2 ?_
    rw [hkept, State.getF_setF_same]
    decide
  · rw [heach, hmask, hact]
  · exact ((OnlyRegs.refl s _).setF (f := .CLG_STAT_VALIDATING) (i := 0) 0 (by simp [clgKeys])).trans honly

end

/-! The CLEAR request (R250). -/

theorem clearRequest_eq (hbus : s.fabBus = true) : exec .clearRequest s = .next s.clearRequest := by
  change execClearRequest s = _
  rw [execClearRequest, if_pos hbus]

theorem clearRequest_refused (hbus : s.fabBus = true) (hgo : s.bit .CLG_CTRL_CLRGO 0 = false)
    (h : s.mstate = true ∨ s.commanding = false ∨ ∃ k : Fin 96, s.clrMasked k = true ∧ s.laneOk k = false) : Sets .clearRequest s [(.CLG_STAT_CLRERR, 0, 1)] := by
  have hexec : exec .clearRequest s = .next (s.setAll [(.CLG_STAT_CLRERR, 0, 1)]) := by
    rw [clearRequest_eq hbus, State.clearRequest, if_neg (by simp [hgo]), if_pos]
    · rfl
    · rcases h with h | h | ⟨k, hk, hok⟩
      · rw [h, Bool.true_or, Bool.true_or]
      · rw [h, Bool.not_false, Bool.or_true]
      · have hany : (List.range 96).any (fun n => s.clrMasked n && !s.laneOk n) = true :=
          List.any_eq_true.2 ⟨k, List.mem_range.2 k.isLt, by rw [hk, hok]; rfl⟩
        rw [hany, Bool.or_true, Bool.true_or]
  exact SetsOn.of_setAll hexec (by simp [writtenKeys]) (by simp) rfl

/-- Lane `n`'s part of a CLEAR request of `s`. -/
def State.askClear (s : State) (n : Fin 96) (t : State) : State :=
  if s.clrMasked n && s.laneUp n then t.modLane n (fun l => { l with clrPend := true }) else t

theorem State.askClear_spec (s u : State) : let t := forIdx (n := 96) s.askClear u
    t = { u with lanes := t.lanes } ∧ ∀ k : Fin 96, s.clrMasked k = true → s.laneUp k = true → (t.lanes[k]).clrPend = true := by
  refine forIdx_each (f := s.askClear) (s := u) (fun k t => t.lanes[k]) (fun t => t = { u with lanes := t.lanes })
    (fun k l => s.clrMasked k = true → s.laneUp k = true → l.clrPend = true) rfl fun t k ht _ => ?_
  rw [State.askClear]
  split_ifs with hk
  · refine ⟨congrArg (fun x : State => x.modLane k (fun l => { l with clrPend := true })) ht, fun _ _ => ?_, fun j hj => t.modLane_ne _ hj⟩
    exact congrArg LaneSt.clrPend (t.modLane_same k (fun l => { l with clrPend := true }))
  · exact ⟨ht, fun h1 h2 => absurd (show (s.clrMasked k && s.laneUp k) = true by rw [h1, h2]; rfl) hk, fun _ _ => rfl⟩

theorem clearRequest_taken (hbus : s.fabBus = true) (hgo : s.bit .CLG_CTRL_CLRGO 0 = false) (hm : s.mstate = false) (hcom : s.commanding = true)
    (hok : ∀ k : Fin 96, s.clrMasked k = true → s.laneOk k = true) :
    Answers .clearRequest s (fun t => (∀ k : Fin 96, s.clrMasked k = true → s.laneUp k = true → (t.lanes[k]).clrPend = true) ∧
      ((∃ k : Fin 96, s.clrMasked k = true ∧ s.laneUp k = true) → t.bit .CLG_CTRL_CLRGO 0 = true) ∧
      t = { s with regs := t.regs, lanes := t.lanes } ∧ RegsBut s t [(.CLG_CTRL_CLRGO, 0), (.CLG_STAT_CLRDONE, 0)]) := by
  have hany : (List.range 96).any (fun n => s.clrMasked n && !s.laneOk n) = false := by
    refine List.any_eq_false.2 fun n hn hbad => ?_
    obtain ⟨hmask, hno⟩ := (Bool.and_eq_true _ _).mp hbad
    rw [hok ⟨n, List.mem_range.1 hn⟩ hmask] at hno
    exact absurd hno (by decide)
  have hexec : exec .clearRequest s = .next (forIdx (n := 96) s.askClear (s.setF .CLG_CTRL_CLRGO 0 1)).clearCheck := by
    rw [clearRequest_eq hbus, State.clearRequest, if_neg (by simp [hgo]), hm, hany, hcom]
    rfl
  obtain ⟨hframe, hpend⟩ := s.askClear_spec (s.setF .CLG_CTRL_CLRGO 0 1)
  generalize forIdx (n := 96) s.askClear (s.setF .CLG_CTRL_CLRGO 0 1) = u at hexec hframe hpend
  have hregs : RegsBut s u [(.CLG_CTRL_CLRGO, 0), (.CLG_STAT_CLRDONE, 0)] := by
    have := (RegsBut.refl s [(.CLG_CTRL_CLRGO, 0), (.CLG_STAT_CLRDONE, 0)]).setF (f := .CLG_CTRL_CLRGO) (i := 0) 1 (by simp)
    exact fun f i hi => (by rw [hframe]; rfl : u.getF f i = (s.setF .CLG_CTRL_CLRGO 0 1).getF f i).trans (this f i hi)
  have hcheck := u.clearCheck_spec
  refine ⟨_, hexec, fun k h1 h2 => by rw [u.clearCheck_lanes]; exact hpend k h1 h2, fun ⟨k, h1, h2⟩ => ?_, ?_, hregs.trans hcheck.2⟩
  · have hsome : u.lanes.toList.all (fun l => !l.clrPend && !l.heldClr) = false := by
      refine List.all_eq_false.2 ⟨u.lanes[k], by simp, ?_⟩
      rw [hpend k h1 h2]
      simp
    rw [State.clearCheck, hsome, Bool.and_false, if_neg (by decide), State.bit, hframe]
    exact beq_iff_eq.2 (s.getF_setF_same .CLG_CTRL_CLRGO 0 1)
  · rw [u.clearCheck_lanes]
    exact hcheck.1.trans (congrArg (fun x : State => { x with regs := u.clearCheck.regs }) hframe)

end

theorem slotTablesAndClear : Claims.SlotTablesAndClear := by
  intro n off w mode s a copy
  refine ⟨fun hbus h4 => ⟨fun hcopy => ?_, fun hcopy hbusy hmask => ?_, fun hcopy hfree => slotTableWrite_shadow hbus h4 hcopy hfree⟩, clgSwap_go, clgSwap_busy,
    clgSwapValidated_fails, clgSwapValidated_waits, clgSwapValidated_now, clearRequest_refused, clearRequest_taken⟩
  all_goals
    have hlt := off.isLt
    have hmod : off.toNat / 64 % 2 = copy := Nat.mod_eq_of_lt (by omega)
  · have hexec : exec (.slotTableWrite n off w) s = .next (s.setAll [(.CL_STAT_WRACT, n, 1)]) := by
      rw [slotTableWrite_eq hbus h4, State.writeSlot, hmod, if_pos hcopy]
      rfl
    exact SetsOn.of_setAll hexec (by simp [writtenKeys]) (by simp) rfl
  · have hexec : exec (.slotTableWrite n off w) s = .next (s.setAll [(.CL_STAT_WRPEND, n, 1)]) := by
      rw [slotTableWrite_eq hbus h4, State.writeSlot, hmod, if_neg hcopy, hbusy, hmask]
      rfl
    exact SetsOn.of_setAll hexec (by simp [writtenKeys]) (by simp) rfl

/-- Settles O52: the claims on bulk frames and on slot tables and CLEAR. -/
theorem bulkAndSlotTables : Obligations.BulkAndSlotTables := ⟨bulkFrames, slotTablesAndClear⟩

end Sys2Proof.Machine
end

section
/-! The conversion of an arm, the unit reset of the modulation unit, and the cell sort (R38, R169 to R190). -/
namespace Sys2Proof.Machine

-- The proofs one after another: all at once they would need more threads, and their stacks, than the check's memory holds.
set_option Elab.async false

/-! The plan of the member lanes (R172, R184). -/

/-- The counters that a plan moves. -/
def planKeys (a : Fin 6) : List (Fld × Nat) := [(.ARM_CNT_SHIFT, a), (.ARM_CNT_DROP, a), (.ARM_CNT_CAP, a), (.ARM_CNT2_DABCLIP, a)]

/-- The lanes and the plan's counters, and nothing else, may differ from `s`. -/
def PlanStep (a : Fin 6) (s t : State) : Prop := t = { s with regs := t.regs, lanes := t.lanes } ∧ RegsBut s t (planKeys a)

theorem PlanStep.trans {a : Fin 6} {s t u : State} (h : PlanStep a s t) (h' : PlanStep a t u) : PlanStep a s u :=
  ⟨h'.1.trans (congrArg (fun x : State => { x with regs := u.regs, lanes := u.lanes }) h.1), h.2.trans h'.2⟩

/-- What a plan gives a lane. -/
def LanePlanned (a : Fin 6) (c : Conv) (p : Nat) (ew1 : Word) (l l' : LaneSt) : Prop :=
  l'.edges = ((c.planCell p l ew1).edges).map Edge.record ∧ l'.convFret = some c.fret ∧ l'.convArm = a

/-- The counters of a plan. -/
def State.planCount (s : State) (a : Fin 6) (shifts drops capped clipped : Nat) : State :=
  (((s.countF .ARM_CNT_SHIFT a shifts).countF .ARM_CNT_DROP a drops).countF .ARM_CNT_CAP a capped).countF .ARM_CNT2_DABCLIP a clipped

theorem State.planCount_step (s : State) (a : Fin 6) (w x y z : Nat) : PlanStep a s (s.planCount a w x y z) :=
  ⟨rfl, ((((RegsBut.refl s _).setF _ (by simp [planKeys])).setF _ (by simp [planKeys])).setF _ (by simp [planKeys])).setF _ (by simp [planKeys])⟩

theorem State.planLane_eq (s : State) (a : Fin 6) (c : Conv) (p : Nat) {m : Nat × Word × Word} (hm : m.1 < 96) : ∃ l' w x y z,
    (s.planLane a c p m).1 = (s.modLane ⟨m.1, hm⟩ (fun _ => l')).planCount a w x y z ∧ LanePlanned a c p m.2.2 (s.lanes[m.1]) l' := by
  rw [State.planLane, dif_pos hm]
  exact ⟨_, _, _, _, _, rfl, rfl, rfl, rfl⟩

theorem State.planLane_spec (s : State) (a : Fin 6) (c : Conv) (p : Nat) (m : Nat × Word × Word) (n : Fin 96) (hn : n.val = m.1) : let t := (s.planLane a c p m).1
    PlanStep a s t ∧ LanePlanned a c p m.2.2 s.lanes[n] t.lanes[n] ∧ ∀ j : Fin 96, j ≠ n → t.lanes[j] = s.lanes[j] := by
  have hm : m.1 < 96 := hn ▸ n.isLt
  obtain rfl : n = ⟨m.1, hm⟩ := Fin.ext hn
  obtain ⟨l', w, x, y, z, heq, hplan⟩ := s.planLane_eq a c p hm
  rw [heq]
  have hlane : ((s.modLane ⟨m.1, hm⟩ (fun _ => l')).planCount a w x y z).lanes[(⟨m.1, hm⟩ : Fin 96)] = l' := s.modLane_same ⟨m.1, hm⟩ fun _ => l'
  refine ⟨PlanStep.trans (t := s.modLane ⟨m.1, hm⟩ (fun _ => l')) ⟨rfl, fun _ _ _ => rfl⟩ (State.planCount_step _ a w x y z), ?_,
    fun j hj => s.modLane_ne (fun _ => l') hj⟩
  rw [hlane]
  exact hplan

theorem State.planLanes_spec (a : Fin 6) (c : Conv) (l : List (Nat × Word × Word)) (hnd : (l.map Prod.fst).Nodup) (hlt : ∀ m ∈ l, m.1 < 96) :
    ∀ (s : State) (p : Nat) (d : Int), let t := (s.planLanes a c p l d).1
    PlanStep a s t ∧ (∀ q, ∀ h : q < l.length, ∀ n : Fin 96, n.val = (l[q]).1 → LanePlanned a c (p + q) (l[q]).2.2 s.lanes[n] t.lanes[n]) ∧
    ∀ n : Fin 96, n.val ∉ l.map Prod.fst → t.lanes[n] = s.lanes[n] := by
  induction l with
  | nil => exact fun s p d => ⟨⟨rfl, .refl s _⟩, fun q h => absurd h (Nat.not_lt_zero q), fun _ _ => rfl⟩
  | cons m l ih =>
    intro s p d
    obtain ⟨hm, hnd'⟩ := List.nodup_cons.1 hnd
    have hm96 := hlt m List.mem_cons_self
    obtain ⟨hstep, hplan, hothers⟩ := s.planLane_spec a c p m ⟨m.1, hm96⟩ rfl
    obtain ⟨hstep', hplans, hrest⟩ := ih hnd' (fun x hx => hlt x (List.mem_cons_of_mem _ hx)) (s.planLane a c p m).1 (p + 1) (d + (s.planLane a c p m).2)
    rw [State.planLanes]
    dsimp only at hplans hrest ⊢
    refine ⟨hstep.trans hstep', fun q h n hn => ?_, fun n hn => ?_⟩
    · cases q with
      | zero =>
        obtain rfl : n = ⟨m.1, hm96⟩ := Fin.ext hn
        rw [hrest _ hm]
        exact hplan
      | succ q =>
        have hq : q < l.length := Nat.lt_of_succ_lt_succ h
        have hne : n ≠ ⟨m.1, hm96⟩ := fun e => hm (by
          rw [← show n.val = m.1 from congrArg Fin.val e, show n.val = (l[q]).1 from hn]
          exact List.mem_map_of_mem (List.getElem_mem hq))
        have := hplans q hq n hn
        rw [hothers n hne, show p + 1 + q = p + (q + 1) by omega] at this
        exact this
    · rw [List.map_cons, List.mem_cons, not_or] at hn
      rw [hrest n hn.2, hothers n fun e => hn.1 (congrArg Fin.val e)]

/-! The completion of a conversion (R174, R183, R184). -/

/-- A DRAINING unit whose last item has ended is OFF. -/
theorem State.modDrained_spec (s : State) : let t := s.modDrained
    OnlyRegs s t [(.MOD_STAT_ENST, 0)] ∧ (s.modBusy = true → t.getF .MOD_STAT_ENST 0 = s.getF .MOD_STAT_ENST 0) ∧
    (s.modBusy = false → t.getF .MOD_STAT_ENST 0 = if s.getF .MOD_STAT_ENST 0 = 2 then 0 else s.getF .MOD_STAT_ENST 0) := by
  rw [State.modDrained]
  refine ⟨⟨State.setWhen_frame _ _ _ _ _, (RegsBut.refl s _).setWhen (List.mem_singleton.2 rfl) _ _⟩, fun h => ?_, fun h => ?_⟩
  · rw [h, Bool.not_true, Bool.and_false]
    rfl
  · rw [h, State.getF_setWhen_same, Bool.not_false, Bool.and_true]
    exact if_congr beq_iff_eq rfl rfl

theorem State.modBusy_iff (s : State) : s.modBusy = true ↔ ∃ b : Fin 6, (s.arms[b]).conv.isSome = true ∨ (s.arms[b]).running.isSome = true := by
  rw [State.modBusy, List.any_eq_true]
  constructor
  · rintro ⟨x, hx, h⟩
    obtain ⟨i, hi, rfl⟩ := Vector.mem_iff_getElem.1 (Vector.mem_toList_iff.1 hx)
    exact ⟨⟨i, hi⟩, by simpa using h⟩
  · rintro ⟨b, h⟩
    exact ⟨s.arms[b], Vector.mem_toList_iff.2 (Vector.getElem_mem b.isLt), by simpa using h⟩

/-- The end of a conversion, the deficit `v` shown by a device that commands. -/
def State.convEnd (u : State) (a : Fin 6) (com drain : Bool) (v : Nat) : State :=
  (((u.setWhen com .ARM_DEF_DEF a v).setF .ARM_STAT_CONV a 1).modArm a (fun x => { x with conv := none })).setWhen drain .ARM_STAT_ENST a enstOff

/-- The fields that the end of a conversion writes. -/
def convKeys (a : Fin 6) : List (Fld × Nat) := [(.ARM_STAT_CONV, a), (.ARM_DEF_DEF, a), (.ARM_STAT_ENST, a)]

theorem State.convEnd_spec (u : State) (a : Fin 6) (com drain : Bool) {v : Nat} (hv : v < 2 ^ 32) : let t := u.convEnd a com drain v
    t = { u with regs := t.regs, arms := t.arms } ∧ RegsBut u t (convKeys a) ∧ t.arms[a] = { u.arms[a] with conv := none } ∧
    (∀ b : Fin 6, b ≠ a → t.arms[b] = u.arms[b]) ∧ t.bit .ARM_STAT_CONV a = true ∧
    t.getF .ARM_DEF_DEF a = (if com then v else u.getF .ARM_DEF_DEF a) ∧ t.getF .ARM_STAT_ENST a = if drain then 0 else u.getF .ARM_STAT_ENST a := by
  let y := (u.setWhen com .ARM_DEF_DEF a v).setF .ARM_STAT_CONV a 1
  let z := y.modArm a (fun x => { x with conv := none })
  have hy : OnlyRegs u y (convKeys a) :=
    ⟨congrArg (fun x : State => x.setF .ARM_STAT_CONV a 1) (u.setWhen_frame _ _ _ _), ((RegsBut.refl u _).setWhen (by simp [convKeys]) _ _).setF _ (by simp [convKeys])⟩
  have harms : y.arms = u.arms := by rw [hy.1]
  have hz : z = { u with regs := z.regs, arms := z.arms } := congrArg (fun x : State => { x with arms := z.arms }) hy.1
  have ht : u.convEnd a com drain v = z.setWhen drain .ARM_STAT_ENST a enstOff := rfl
  have hframe := z.setWhen_frame drain .ARM_STAT_ENST a enstOff
  have htarms : (z.setWhen drain .ARM_STAT_ENST a enstOff).arms = z.arms := by rw [hframe]
  have hconv : z.getF .ARM_STAT_CONV a = 1 := (u.setWhen com .ARM_DEF_DEF a v).getF_setF_same .ARM_STAT_CONV a 1
  have hdef : z.getF .ARM_DEF_DEF a = if com then v else u.getF .ARM_DEF_DEF a := by
    refine ((u.setWhen com .ARM_DEF_DEF a v).getF_setF_ne a a 1 (show Fld.ARM_DEF_DEF ≠ .ARM_STAT_CONV by decide)).trans ((State.getF_setWhen_same _ _ _ _ _).trans ?_)
    rw [Nat.mod_eq_of_lt (by exact hv)]
  have henst : z.getF .ARM_STAT_ENST a = u.getF .ARM_STAT_ENST a :=
    ((u.setWhen com .ARM_DEF_DEF a v).getF_setF_ne a a 1 (show Fld.ARM_STAT_ENST ≠ .ARM_STAT_CONV by decide)).trans (State.getF_setWhen_ne _ _ _ _ _ (by decide))
  rw [ht]
  refine ⟨?_, RegsBut.setWhen (t := z) hy.2 (by simp [convKeys]) _ _, ?_, fun b hb => ?_, ?_, ?_, ?_⟩
  · rw [htarms]
    exact hframe.trans (congrArg (fun x : State => { x with regs := (z.setWhen drain .ARM_STAT_ENST a enstOff).regs }) hz)
  · rw [htarms, ← harms]
    exact y.modArm_same a _
  · rw [htarms, ← harms]
    exact y.modArm_ne _ hb
  · rw [State.bit, State.getF_setWhen_ne _ _ _ _ _ (by decide), hconv]
    rfl
  · rw [State.getF_setWhen_ne _ _ _ _ _ (by decide), hdef]
  · rw [State.getF_setWhen_same, henst]
    rfl

/-- The deficit that a conversion shows, limited to what the arm can give. -/
def shownDeficit (lim : Nat) (d : Int) : Nat := (BitVec.ofInt 32 (max (-(lim : Int)) (min lim d))).toNat

theorem shownDeficit_le {lim : Nat} (d : Int) (h : lim < 2 ^ 31) : (BitVec.ofNat 32 (shownDeficit lim d)).toInt.natAbs ≤ lim := by
  rw [shownDeficit, BitVec.ofNat_toNat, BitVec.setWidth_eq, BitVec.toInt_ofInt]
  have hb : (max (-(lim : Int)) (min lim d)).bmod (2 ^ 32) = max (-(lim : Int)) (min lim d) := by
    apply Int.bmod_eq_of_le <;> omega
  rw [hb]
  omega

theorem State.armConverted_eq {s : State} {a : Fin 6} {c : Conv} (hc : (s.arms[a]).conv = some c) :
    s.armConverted a = (s.planLanes a c 0 c.lanes 0).1.convEnd a s.commanding (s.getF .ARM_STAT_ENST a == enstDraining)
      (shownDeficit (c.nIn * c.f) (s.planLanes a c 0 c.lanes 0).2) := by
  rw [State.armConverted, hc]
  rfl

theorem armConversionDone_spec {a : Fin 6} {s : State} {c : Conv} (hruns : s.fabRuns = true) (hc : (s.arms[a]).conv = some c)
    (hnd : (c.lanes.map Prod.fst).Nodup) (hlt : ∀ m ∈ c.lanes, m.1 < 96) :
    let others := ∃ b : Fin 6, ((s.arms[b]).conv.isSome = true ∧ b ≠ a) ∨ (s.arms[b]).running.isSome = true
    Answers (.armConversionDone a) s (fun t =>
    t.bit .ARM_STAT_CONV a = true ∧ (t.arms[a]).conv = none ∧ (∀ b : Fin 6, b ≠ a → t.arms[b] = s.arms[b]) ∧
    (∀ p, ∀ h : p < c.lanes.length, ∀ n : Fin 96, n.val = (c.lanes[p]).1 →
      (t.lanes[n]).edges = ((c.planCell p s.lanes[n] (c.lanes[p]).2.2).edges).map Edge.record ∧
      (t.lanes[n]).convFret = some c.fret ∧ (t.lanes[n]).convArm = a) ∧
    (∀ n : Fin 96, n.val ∉ c.lanes.map Prod.fst → t.lanes[n] = s.lanes[n]) ∧
    (s.commanding = false → t.getF .ARM_DEF_DEF a = s.getF .ARM_DEF_DEF a) ∧
    (s.commanding = true → c.nIn * c.f < 2 ^ 31 → (BitVec.ofNat 32 (t.getF .ARM_DEF_DEF a)).toInt.natAbs ≤ c.nIn * c.f) ∧
    t.getF .ARM_STAT_ENST a = (if s.getF .ARM_STAT_ENST a = 2 then 0 else s.getF .ARM_STAT_ENST a) ∧
    (others → t.getF .MOD_STAT_ENST 0 = s.getF .MOD_STAT_ENST 0) ∧
    (¬others → t.getF .MOD_STAT_ENST 0 = if s.getF .MOD_STAT_ENST 0 = 2 then 0 else s.getF .MOD_STAT_ENST 0) ∧
    t = { s with regs := t.regs, lanes := t.lanes, arms := t.arms } ∧
    RegsBut s t [(.MOD_STAT_ENST, 0), (.ARM_STAT_CONV, a), (.ARM_DEF_DEF, a), (.ARM_STAT_ENST, a), (.ARM_CNT_SHIFT, a), (.ARM_CNT_DROP, a), (.ARM_CNT_CAP, a),
      (.ARM_CNT2_DABCLIP, a)]) := by
  intro others
  have hexec : exec (.armConversionDone a) s = .next (s.armConverted a).modDrained := by
    change execArmConversionDone a s = _
    rw [execArmConversionDone, if_pos hruns]
  rw [State.armConverted_eq hc] at hexec
  obtain ⟨⟨hpframe, hpregs⟩, hplans, hprest⟩ := State.planLanes_spec a c c.lanes hnd hlt s 0 0
  generalize (s.planLanes a c 0 c.lanes 0).2 = d at hexec
  generalize (s.planLanes a c 0 c.lanes 0).1 = u at hexec hpframe hpregs hplans hprest
  have hfit : shownDeficit (c.nIn * c.f) d < 2 ^ 32 := BitVec.isLt _
  obtain ⟨hcframe, hcregs, harm, harms, hconv, hdef, henst⟩ := u.convEnd_spec a s.commanding (s.getF .ARM_STAT_ENST a == enstDraining) hfit
  generalize u.convEnd a s.commanding (s.getF .ARM_STAT_ENST a == enstDraining) (shownDeficit (c.nIn * c.f) d) = v at hexec hcframe hcregs harm harms hconv hdef henst
  obtain ⟨⟨hdframe, hdregs⟩, hbusy, hidle⟩ := v.modDrained_spec
  generalize v.modDrained = t at hexec hdframe hdregs hbusy hidle
  have huarms : u.arms = s.arms := by rw [hpframe]
  have htarms : t.arms = v.arms := by rw [hdframe]
  have hvlanes : t.lanes = u.lanes := by rw [hdframe, hcframe]
  have hvframe : v = { s with regs := v.regs, lanes := u.lanes, arms := v.arms } :=
    hcframe.trans (congrArg (fun x : State => { x with regs := v.regs, arms := v.arms }) hpframe)
  have hframe : t = { s with regs := t.regs, lanes := t.lanes, arms := t.arms } := by
    rw [hvlanes, htarms]
    exact hdframe.trans (congrArg (fun x : State => { x with regs := t.regs }) hvframe)
  have hmod : v.getF .MOD_STAT_ENST 0 = s.getF .MOD_STAT_ENST 0 :=
    (hcregs.getF_eq (by simp [convKeys]) 0).trans (hpregs.getF_eq (by simp [planKeys]) 0)
  have hothers : v.modBusy = true ↔ others := by
    rw [State.modBusy_iff]
    refine exists_congr fun b => ?_
    by_cases hb : b = a
    · subst hb
      rw [harm, huarms]
      simp
    · rw [harms b hb, huarms]
      simp [hb]
  refine ⟨t, hexec, ?_, ?_, fun b hb => ?_, fun p h n hn => ?_, fun n hn => ?_, fun hcom => ?_, fun hcom hlim => ?_, ?_, fun h => ?_, fun h => ?_, hframe, ?_⟩
  · rw [State.bit, hdregs.getF_eq (by simp), ← State.bit, hconv]
  · rw [htarms, harm]
  · rw [htarms, harms b hb, huarms]
  · have := hplans p h n hn
    rw [Nat.zero_add] at this
    rw [hvlanes]
    exact this
  · rw [hvlanes, hprest n hn]
  · rw [hdregs.getF_eq (by simp), hdef, hcom, if_neg (by decide), hpregs.getF_eq (by simp [planKeys])]
  · rw [hdregs.getF_eq (by simp), hdef, hcom, if_pos rfl]
    exact shownDeficit_le d hlim
  · rw [hdregs.getF_eq (by simp), henst, hpregs.getF_eq (by simp [planKeys])]
    exact if_congr beq_iff_eq rfl rfl
  · rw [hbusy (hothers.2 h), hmod]
  · rw [hidle (Bool.eq_false_iff.2 fun hb => h (hothers.1 hb)), hmod]
  · refine RegsBut.trans (t := u) (hpregs.mono (by simp [planKeys])) (RegsBut.trans (t := v) (hcregs.mono (by simp [convKeys])) (hdregs.mono (by simp)))

/-! The unit reset (R40, R169, R185). -/

theorem modUrst_refused {s : State} (hbus : s.fabBus = true) (h4 : s.inS4 = true) : Sets .modUrst s [(.MOD_STAT_DISERR, 0, 1)] := by
  have hexec : exec .modUrst s = .next (s.setAll [(.MOD_STAT_DISERR, 0, 1)]) := by
    change execModUrst s = _
    rw [execModUrst, hbus, h4]
    rfl
  exact SetsOn.of_setAll hexec (by simp [writtenKeys]) (by simp) rfl

/-- The unit is OFF. -/
def State.modOff (s : State) : State := (s.setF .MOD_CTRL_EN 0 0).setF .MOD_STAT_ENST 0 enstOff

/-- The sorts of every arm are abandoned. -/
def State.dropSorts (s : State) : State := { s with arms := s.arms.map (fun x => { x with queued := none, running := none, kept := none }) }

/-- The ENST of arm `a` follows its EN. -/
def State.armFollow (a : Fin 6) (s : State) : State := s.setF .ARM_STAT_ENST a (if s.bit .ARM_CFG_EN a then enstOn else enstOff)

/-- Field `f` of each arm. -/
def armKeys (f : Fld) : List (Fld × Nat) := (List.range 6).map (fun b => (f, b))

theorem mem_armKeys (f : Fld) (b : Fin 6) : (f, b.val) ∈ armKeys f := List.mem_map.2 ⟨b, List.mem_range.2 b.isLt, rfl⟩

theorem armKeys_ne {f g : Fld} (h : g ≠ f) : ∀ e ∈ armKeys f, e.1 ≠ g := fun e he heq => by
  obtain ⟨b, -, rfl⟩ := List.mem_map.1 he
  exact h heq.symm

theorem State.armFollow_spec (s : State) : let t := forIdx (n := 6) State.armFollow s
    OnlyRegs s t (armKeys .ARM_STAT_ENST) ∧ ∀ b : Fin 6, t.getF .ARM_STAT_ENST b = b2n (s.bit .ARM_CFG_EN b) := by
  refine forIdx_each (f := State.armFollow) (s := s) (fun b t => t.getF .ARM_STAT_ENST b) (fun t => OnlyRegs s t (armKeys .ARM_STAT_ENST))
    (fun b v => v = b2n (s.bit .ARM_CFG_EN b)) (.refl s _) fun t b ht _ => ?_
  refine ⟨ht.setF _ (mem_armKeys _ b), ?_, fun j hj => t.getF_setF_fin _ (by decide) hj _⟩
  have hen : t.bit .ARM_CFG_EN b = s.bit .ARM_CFG_EN b := by rw [State.bit, ht.getF_eq (armKeys_ne (by decide)), State.bit]
  rw [State.armFollow, hen, State.getF_setF_same]
  cases s.bit .ARM_CFG_EN b <;> rfl

theorem State.planResetAll_regs (s : State) : RegsBut s s.planResetAll (armKeys .ARM_DEF_DEF) :=
  List.foldlRecOn (motive := fun t => RegsBut s t (armKeys .ARM_DEF_DEF)) (List.finRange 6) _ (fun _ _ _ => rfl) fun _ ht a _ => ht.setF 0 (mem_armKeys _ a)

theorem modUrst_resets {s : State} (hbus : s.fabBus = true) (h4 : s.inS4 = false) : Answers .modUrst s (fun t =>
    t.getF .MOD_CTRL_EN 0 = 0 ∧ t.getF .MOD_STAT_ENST 0 = 0 ∧
    (∀ b : Fin 6, t.arms[b] = { s.arms[b] with conv := none, queued := none, running := none, kept := none } ∧ t.getF .ARM_DEF_DEF b = 0 ∧
      t.getF .ARM_STAT_ENST b = b2n (s.bit .ARM_CFG_EN b)) ∧
    (∀ n : Fin 96, t.lanes[n] = { s.lanes[n] with level := 0, lastEdge := none, phil := 0 }) ∧
    t = { s with regs := t.regs, lanes := t.lanes, arms := t.arms } ∧
    RegsBut s t ([(.MOD_CTRL_EN, 0), (.MOD_STAT_ENST, 0)] ++ (List.range 6).map (fun b => (Fld.ARM_DEF_DEF, b)) ++
      (List.range 6).map (fun b => (Fld.ARM_STAT_ENST, b)))) := by
  have hexec : exec .modUrst s = .next (forIdx (n := 6) State.armFollow s.modOff.planResetAll.dropSorts) := by
    change execModUrst s = _
    rw [execModUrst, hbus, h4]
    rfl
  obtain ⟨⟨hframe, -, hlanes, harms⟩, hdef⟩ := s.modOff.planResetAll_spec
  have hregs := s.modOff.planResetAll_regs
  have hen : s.modOff.getF .MOD_CTRL_EN 0 = 0 := (State.getF_setF_ne _ _ _ _ (by decide)).trans (s.getF_setF_same .MOD_CTRL_EN 0 0)
  have hoff : s.modOff.getF .MOD_STAT_ENST 0 = 0 := State.getF_setF_same _ .MOD_STAT_ENST 0 enstOff
  have hcfg (b : Nat) : s.modOff.getF .ARM_CFG_EN b = s.getF .ARM_CFG_EN b :=
    (State.getF_setF_ne _ _ _ _ (by decide)).trans (State.getF_setF_ne _ _ _ _ (by decide))
  have hmod : RegsBut s s.modOff [(.MOD_CTRL_EN, 0), (.MOD_STAT_ENST, 0)] := ((RegsBut.refl s _).setF 0 (by simp)).setF _ (by simp)
  have hsoff : LaneFrame s s.modOff ∧ s.modOff.lanes = s.lanes ∧ s.modOff.arms = s.arms := ⟨rfl, rfl, rfl⟩
  generalize s.modOff = r at hexec hframe hregs hlanes harms hdef hen hoff hcfg hmod hsoff
  obtain ⟨hrframe, hrlanes, hrarms⟩ := hsoff
  generalize r.planResetAll = u at hexec hframe hregs hlanes harms hdef
  obtain ⟨⟨hframe', hregs'⟩, henst⟩ := u.dropSorts.armFollow_spec
  generalize forIdx (n := 6) State.armFollow u.dropSorts = t at hexec hframe' hregs' henst
  have htlanes : t.lanes = u.lanes := by
    rw [hframe']
    rfl
  have htarms : t.arms = u.dropSorts.arms := by rw [hframe']
  have hdrop (b : Fin 6) : u.dropSorts.arms[b] = { u.arms[b] with queued := none, running := none, kept := none } := Vector.getElem_map _ b.isLt
  have hkeep {f : Fld} (h1 : f ≠ .ARM_STAT_ENST) (i : Nat) : t.getF f i = u.getF f i := hregs'.getF_eq (armKeys_ne h1) i
  have hkept {f : Fld} (h1 : f ≠ .ARM_STAT_ENST) (h2 : f ≠ .ARM_DEF_DEF) (i : Nat) : t.getF f i = r.getF f i :=
    (hkeep h1 i).trans (hregs.getF_eq (armKeys_ne h2) i)
  refine ⟨t, hexec, ?_, ?_, fun b => ⟨?_, ?_, ?_⟩, fun n => ?_, ?_, ?_⟩
  · rw [hkept (by decide) (by decide), hen]
  · rw [hkept (by decide) (by decide), hoff]
  · rw [htarms, hdrop, harms, hrarms]
  · rw [hkeep (by decide), hdef]
  · have hbit : u.dropSorts.getF .ARM_CFG_EN b = s.getF .ARM_CFG_EN b := (hregs.getF_eq (armKeys_ne (by decide)) b).trans (hcfg b)
    rw [henst, State.bit, hbit, State.bit]
  · rw [htlanes, hlanes, hrlanes]
    rfl
  · exact LaneFrame.trans (hrframe.trans hframe) (LaneFrame.trans (t := u.dropSorts) rfl (by
      rw [LaneFrame, htlanes, htarms]
      exact hframe'))
  · have hall := RegsBut.trans (t := r) (hmod.mono (List.subset_append_left _ (armKeys .ARM_DEF_DEF))) (hregs.mono (List.subset_append_right _ _))
    exact RegsBut.trans (t := u) (hall.mono (List.subset_append_left _ (armKeys .ARM_STAT_ENST))) (RegsBut.mono (s := u) hregs' (List.subset_append_right _ _))

theorem conversionsAndReset : Claims.ConversionsAndReset := by
  intro a s others
  exact ⟨fun hruns c hc hnd hlt => armConversionDone_spec hruns hc hnd hlt, modUrst_refused, modUrst_resets⟩

/-! The cell sort (R187 to R190). -/

theorem cbsSortStart_spec {a : Fin 6} {s : State} {r : SortReq} (hq : (s.arms[a]).queued = some r) (hrun : (s.arms[a]).running = none)
    (hon : s.getF .MOD_STAT_ENST 0 = 1) (hfab : s.fabRuns = true) : Answers (.cbsSortStart a) s (fun t =>
    t = { s with arms := t.arms } ∧ t.arms[a] = { s.arms[a] with queued := none, running := some r } ∧ ∀ b : Fin 6, b ≠ a → t.arms[b] = s.arms[b]) := by
  have hexec : exec (.cbsSortStart a) s = .next (s.modArm a (fun x => { x with queued := none, running := some r })) := by
    change execCbsSortStart a s = _
    rw [execCbsSortStart, hq, hrun]
    dsimp only
    rw [State.modOn, hon, hfab]
    rfl
  exact ⟨_, hexec, rfl, s.modArm_same a _, fun b hb => s.modArm_ne _ hb⟩

/-! The ranking. -/

section
variable (le : Nat × Nat → Nat × Nat → Bool)

theorem rankInsert_perm (x : Nat × Nat) (l : List (Nat × Nat)) : (rankInsert le x l).Perm (x :: l) := by
  induction l with
  | nil => exact .refl _
  | cons y l ih =>
    rw [rankInsert]
    split_ifs
    · exact .refl _
    · exact (ih.cons y).trans (.swap x y l)

theorem rankSort_perm (l : List (Nat × Nat)) : (rankSort le l).Perm l := by
  induction l with
  | nil => exact .refl _
  | cons x l ih => exact (rankInsert_perm le x _).trans (ih.cons x)

variable {le} (htotal : ∀ x y, le x y = true ∨ le y x = true) (htrans : ∀ x y z, le x y = true → le y z = true → le x z = true)
include htotal htrans

theorem rankInsert_sorted (x : Nat × Nat) {l : List (Nat × Nat)} (h : l.Pairwise (fun a b => le a b = true)) :
    (rankInsert le x l).Pairwise (fun a b => le a b = true) := by
  induction l with
  | nil => exact List.pairwise_singleton _ _
  | cons y l ih =>
    obtain ⟨hy, hl⟩ := List.pairwise_cons.1 h
    rw [rankInsert]
    split_ifs with hxy
    · exact List.pairwise_cons.2 ⟨List.forall_mem_cons.2 ⟨hxy, fun z hz => htrans _ _ _ hxy (hy z hz)⟩, h⟩
    · refine List.pairwise_cons.2 ⟨fun z hz => ?_, ih hl⟩
      rcases List.mem_cons.1 ((rankInsert_perm le x l).mem_iff.1 hz) with rfl | hz
      · exact (htotal _ _).resolve_right hxy
      · exact hy z hz

theorem rankSort_sorted (l : List (Nat × Nat)) : (rankSort le l).Pairwise (fun a b => le a b = true) := by
  induction l with
  | nil => exact .nil
  | cons x l ih => exact rankInsert_sorted htotal htrans x ih

end

/-- The positions with their groups and keys. -/
def SortReq.places (r : SortReq) : List (Nat × Nat × Nat) := (List.range r.keys.length).zip r.keys

/-- The positions of group `k`, in their order. -/
def SortReq.group (r : SortReq) (k : Nat) : List (Nat × Nat × Nat) := r.places.filter (fun x => x.2.1 == k)

/-- The order of the keys. -/
def SortReq.le (r : SortReq) (x y : Nat × Nat) : Bool := if r.asc then decide (x.2 ≤ y.2) else decide (y.2 ≤ x.2)

/-- The valid positions with their keys, sorted. -/
def SortReq.sorted (r : SortReq) : List (Nat × Nat) := rankSort r.le ((r.group 0).map (fun x => (x.1, x.2.2)))

theorem SortReq.rank_eq (r : SortReq) : r.rank = r.sorted.map Prod.fst ++ (r.group 1).map Prod.fst ++ (r.group 2).map Prod.fst := rfl

theorem SortReq.places_fst (r : SortReq) : r.places.map Prod.fst = List.range r.keys.length := List.map_fst_zip (by rw [List.length_range])

theorem SortReq.places_snd (r : SortReq) : r.places.map Prod.snd = r.keys := List.map_snd_zip (by rw [List.length_range])

theorem SortReq.sorted_perm (r : SortReq) : r.sorted.Perm ((r.group 0).map (fun x => (x.1, x.2.2))) := rankSort_perm _ _

theorem SortReq.groups_perm (r : SortReq) (h : ∀ k ∈ r.keys, k.1 ≤ 2) : (r.group 0 ++ r.group 1 ++ r.group 2).Perm r.places := by
  have hle (x : Nat × Nat × Nat) (hx : x ∈ r.places) : x.2.1 ≤ 2 := h _ (by rw [← r.places_snd]; exact List.mem_map_of_mem hx)
  have h12 : ((r.places.filter (fun x => !(x.2.1 == 0))).filter (fun x => x.2.1 == 1)) = r.group 1 := by
    rw [List.filter_filter]
    refine List.filter_congr fun x _ => ?_
    cases h1 : x.2.1 == 1 with
    | false => rfl
    | true => rw [beq_iff_eq.1 h1]; rfl
  have h2 : ((r.places.filter (fun x => !(x.2.1 == 0))).filter (fun x => !(x.2.1 == 1))) = r.group 2 := by
    rw [List.filter_filter]
    refine List.filter_congr fun x hx => ?_
    have := hle x hx
    rw [Bool.eq_iff_iff]
    simp
    omega
  have hrest := List.filter_append_perm (fun x : Nat × Nat × Nat => x.2.1 == 1) (r.places.filter (fun x => !(x.2.1 == 0)))
  rw [h12, h2] at hrest
  rw [List.append_assoc]
  exact (hrest.append_left _).trans (List.filter_append_perm (fun x : Nat × Nat × Nat => x.2.1 == 0) r.places)

theorem SortReq.rank_perm (r : SortReq) (h : ∀ k ∈ r.keys, k.1 ≤ 2) : r.rank.Perm (List.range r.keys.length) := by
  have hfirst : (r.sorted.map Prod.fst).Perm ((r.group 0).map Prod.fst) := by
    refine (r.sorted_perm.map Prod.fst).trans ?_
    rw [List.map_map]
    exact .refl _
  rw [r.rank_eq, ← r.places_fst]
  refine ((hfirst.append_right _).append_right _).trans ?_
  rw [← List.map_append, ← List.map_append]
  exact (r.groups_perm h).map Prod.fst

theorem SortReq.sorted_length (r : SortReq) : r.sorted.length = r.nvalid := by
  rw [r.sorted_perm.length_eq, List.length_map, SortReq.nvalid, ← r.places_snd, List.filter_map, List.length_map]
  rfl

/-- A valid position stands in the sorted list with its key. -/
theorem SortReq.mem_sorted (r : SortReq) {x : Nat × Nat} (hx : x ∈ r.sorted) (d : Nat × Nat) : r.keys.getD x.1 d = (0, x.2) := by
  obtain ⟨y, hy, rfl⟩ := List.mem_map.1 (r.sorted_perm.mem_iff.1 hx)
  obtain ⟨hplace, hvalid⟩ := List.mem_filter.1 hy
  obtain ⟨i, hi, rfl⟩ := List.mem_iff_getElem.1 hplace
  have hlen : i < r.keys.length := by
    rw [SortReq.places, List.length_zip, List.length_range] at hi
    omega
  have hi' : r.places[i] = (i, r.keys[i]) := by
    simp only [SortReq.places, List.getElem_zip, List.getElem_range]
  rw [hi'] at hvalid ⊢
  rw [List.getD_eq_getElem _ _ hlen]
  exact Prod.ext (beq_iff_eq.1 hvalid) rfl

theorem SortReq.sorted_pairwise (r : SortReq) : r.sorted.Pairwise (fun a b => r.le a b = true) := by
  refine rankSort_sorted (fun x y => ?_) (fun x y z => ?_) _
  · cases h : r.asc <;> simp [SortReq.le, h] <;> omega
  · cases h : r.asc <;> simp [SortReq.le, h] <;> omega

theorem SortReq.rank_getD (r : SortReq) {i : Nat} (h : i < r.sorted.length) : r.rank.getD i 0 = (r.sorted[i]).1 := by
  rw [r.rank_eq, List.append_assoc, List.getD_append _ _ _ _ (by rw [List.length_map]; exact h), List.getD_eq_getElem _ _ (by rw [List.length_map]; exact h),
    List.getElem_map]

theorem SortReq.rank_sorted (r : SortReq) {i j : Nat} (hij : i < j) (hj : j < r.nvalid) :
    let key := fun (p : Nat) => (r.keys.getD p (0, 0)).2
    (r.keys.getD (r.rank.getD i 0) (9, 0)).1 = 0 ∧ (r.asc = true → key (r.rank.getD i 0) ≤ key (r.rank.getD j 0)) ∧
    (r.asc = false → key (r.rank.getD j 0) ≤ key (r.rank.getD i 0)) := by
  rw [← r.sorted_length] at hj
  have hi := hij.trans hj
  have hle := List.pairwise_iff_getElem.1 r.sorted_pairwise i j hi hj hij
  dsimp only
  rw [r.rank_getD hi, r.rank_getD hj, r.mem_sorted (List.getElem_mem hi), r.mem_sorted (List.getElem_mem hi), r.mem_sorted (List.getElem_mem hj)]
  refine ⟨rfl, fun h => ?_, fun h => ?_⟩
  · rw [SortReq.le, h, if_pos rfl] at hle
    exact of_decide_eq_true hle
  · rw [SortReq.le, h, if_neg (by decide)] at hle
    exact of_decide_eq_true hle

/-! The result block (R94, R188). -/

/-- The ranks of the result block. -/
def SortReq.ranks (r : SortReq) : List Byte := (List.range 32).map (fun i => BitVec.ofNat 8 (r.rank.getD i 0xFF))

theorem SortReq.ranks_length (r : SortReq) : r.ranks.length = 32 := by rw [SortReq.ranks, List.length_map, List.length_range]

/-- The result block at `base`. -/
def State.putSort (s : State) (base : Nat) (r : SortReq) : State :=
  ((s.setList base r.ranks).setBytes (base + 0x20) (r.tag * 65536 + r.nvalid * 256 + r.ncell) 4).freshRange base 36

/-- A byte of a list that was written. -/
theorem State.byte_setList_in (s : State) (a : Nat) (l : List Byte) {i : Nat} (h : i < l.length) : (s.setList a l).byte (a + i) = l[i] := by
  induction l generalizing s a i with
  | nil => exact absurd h (Nat.not_lt_zero i)
  | cons b l ih =>
    cases i with
    | zero =>
      rw [State.setList, State.byte_setList _ _ _ _ (Or.inl (by omega)), Nat.add_zero, State.byte_setByte, if_pos rfl]
      rfl
    | succ i =>
      rw [State.setList, show a + (i + 1) = a + 1 + i by omega]
      exact ih (s.setByte a b) (a + 1) (Nat.lt_of_succ_lt_succ h)

theorem State.putSort_frame (s : State) (base : Nat) (r : SortReq) : s.putSort base r =
    { s with mem := (s.putSort base r).mem, eccBad := (s.putSort base r).eccBad, eccSoft := (s.putSort base r).eccSoft } := by
  rw [State.putSort, State.setBytes_frame, State.setList_frame]
  rfl

theorem State.byte_freshRange (s : State) (a k x : Nat) : (s.freshRange a k).byte x = s.byte x := rfl

theorem State.bytes_freshRange (s : State) (a k x n : Nat) : (s.freshRange a k).bytes x n = s.bytes x n := by
  induction n generalizing x with
  | zero => rfl
  | succ n ih => rw [State.bytes, State.bytes, ih, State.byte_freshRange]

theorem State.putSort_spec (s : State) {base : Nat} (r : SortReq) (h4 : base % 4 = 0) : let t := s.putSort base r
    (∀ i < 36, t.badWord (base + i) = false ∧ t.softWord (base + i) = false) ∧ MemBut s t base 0x24 ∧
    (∀ i < 32, t.byte (base + i) = BitVec.ofNat 8 (r.rank.getD i 0xFF)) ∧
    t.word (base + 0x20) = BitVec.ofNat 32 (r.tag * 65536 + r.nvalid * 256 + r.ncell) := by
  have hbyte (x : Nat) : (s.putSort base r).byte x = ((s.setList base r.ranks).setBytes (base + 0x20) (r.tag * 65536 + r.nvalid * 256 + r.ncell) 4).byte x := by
    rw [State.putSort, State.byte_freshRange]
  have hfresh {i : Nat} (hi : i < 36) : (!decide (base ≤ (base + i) / 4 * 4 ∧ (base + i) / 4 * 4 + 4 ≤ base + 36)) = false := by
    rw [decide_eq_true ⟨by omega, by omega⟩]
    rfl
  refine ⟨fun i hi => ⟨?_, ?_⟩, fun x hx => ?_, fun i hi => ?_, ?_⟩
  · refine Bool.eq_false_iff.2 fun h => ?_
    have hmem := (List.mem_filter.1 (List.contains_iff_mem.1 h)).2
    rw [hfresh hi] at hmem
    exact Bool.false_ne_true hmem
  · refine Bool.eq_false_iff.2 fun h => ?_
    have hmem := (List.mem_filter.1 (List.contains_iff_mem.1 h)).2
    rw [hfresh hi] at hmem
    exact Bool.false_ne_true hmem
  · rw [hbyte, State.byte_setBytes _ _ _ _ _ (by omega), State.byte_setList _ _ _ _ (by rw [r.ranks_length]; omega)]
  · rw [hbyte, State.byte_setBytes _ _ _ _ _ (by omega), State.byte_setList_in _ _ _ (by rw [r.ranks_length]; exact hi)]
    simp only [SortReq.ranks, List.getElem_map, List.getElem_range]
  · apply BitVec.eq_of_toNat_eq
    rw [State.word, State.putSort, State.bytes_freshRange, State.bytes_setBytes, BitVec.toNat_ofNat, BitVec.toNat_ofNat]
    exact Nat.mod_mod _ _

theorem State.word_congr {s t : State} (h : ∀ x, s.byte x = t.byte x) (a : Nat) : s.word a = t.word a := by
  rw [State.word, State.word, State.bytes_eq, State.bytes_eq, State.readList_congr h]

theorem State.writeSort_eq (s : State) (a : Fin 6) (r : SortReq) :
    s.writeSort a r = s.putSort (ceData (s.modSettings a).owner + (s.modSettings a).addr * 64) r := by
  rw [State.writeSort, State.putSort, SortReq.ranks]

theorem ceData_aligned (n : Nat) : ceData n % 4 = 0 := by
  unfold ceData ceBase
  omega

theorem cbsSortDone_spec {a : Fin 6} {s : State} {r : SortReq} (hrun : (s.arms[a]).running = some r) (hfab : s.fabRuns = true) :
    let base := ceData (s.modSettings a).owner + (s.modSettings a).addr * 64
    let others := ∃ b : Fin 6, (s.arms[b]).conv.isSome = true ∨ ((s.arms[b]).running.isSome = true ∧ b ≠ a)
    Answers (.cbsSortDone a) s (fun t =>
    t = { s with regs := t.regs, arms := t.arms, mem := t.mem, eccBad := t.eccBad, eccSoft := t.eccSoft } ∧ RegsBut s t [(.MOD_STAT_ENST, 0)] ∧
    (others → t.getF .MOD_STAT_ENST 0 = s.getF .MOD_STAT_ENST 0) ∧
    (¬others → t.getF .MOD_STAT_ENST 0 = if s.getF .MOD_STAT_ENST 0 = 2 then 0 else s.getF .MOD_STAT_ENST 0) ∧
    (∀ i < 36, t.badWord (base + i) = false ∧ t.softWord (base + i) = false) ∧ t.arms[a] = { s.arms[a] with running := none, ranking := some r.rank } ∧
    (∀ b : Fin 6, b ≠ a → t.arms[b] = s.arms[b]) ∧ MemBut s t base 0x24 ∧
    (∀ i < 32, t.byte (base + i) = BitVec.ofNat 8 (r.rank.getD i 0xFF)) ∧
    t.word (base + 0x20) = BitVec.ofNat 32 (r.tag * 65536 + r.nvalid * 256 + r.ncell)) := by
  intro base others
  have h4 : base % 4 = 0 := by
    have := ceData_aligned (s.modSettings a).owner
    show (ceData (s.modSettings a).owner + (s.modSettings a).addr * 64) % 4 = 0
    omega
  have hexec : exec (.cbsSortDone a) s = .next (((s.putSort base r).modArm a (fun x => { x with running := none, ranking := some r.rank })).modDrained) := by
    change execCbsSortDone a s = _
    rw [execCbsSortDone, if_pos hfab, State.sortDone, hrun]
    dsimp only
    rw [State.writeSort_eq]
  obtain ⟨hecc, hmem, hranks, hword⟩ := s.putSort_spec r h4
  have hframe := s.putSort_frame base r
  generalize s.putSort base r = u at hexec hecc hmem hranks hword hframe
  have harm := u.modArm_same a (fun x => { x with running := none, ranking := some r.rank })
  have harms (b : Fin 6) (hb : b ≠ a) := u.modArm_ne (fun x => { x with running := none, ranking := some r.rank }) hb
  have hvframe : u.modArm a (fun x => { x with running := none, ranking := some r.rank }) =
      { u with arms := (u.modArm a (fun x => { x with running := none, ranking := some r.rank })).arms } := rfl
  have huarms : u.arms = s.arms := by rw [hframe]
  have hureg (f : Fld) (i : Nat) : u.getF f i = s.getF f i := by rw [State.getF, State.getF, show u.regs = s.regs by rw [hframe]]
  generalize u.modArm a (fun x => { x with running := none, ranking := some r.rank }) = v at hexec harm harms hvframe
  rw [huarms] at harm harms
  obtain ⟨⟨hdframe, hdregs⟩, hbusy, hidle⟩ := v.modDrained_spec
  generalize v.modDrained = t at hexec hdframe hdregs hbusy hidle
  have hvreg (f : Fld) (i : Nat) : v.getF f i = s.getF f i := by
    rw [← hureg f i, State.getF, State.getF, show v.regs = u.regs by rw [hvframe]]
  have hothers : v.modBusy = true ↔ others := by
    rw [State.modBusy_iff]
    refine exists_congr fun b => ?_
    by_cases hb : b = a
    · subst hb
      rw [harm]
      simp
    · rw [harms b hb]
      simp [hb]
  have htframe : t = { u with regs := t.regs, arms := v.arms } := hdframe.trans (congrArg (fun x : State => { x with regs := t.regs }) hvframe)
  have htarms : t.arms = v.arms := by rw [htframe]
  have htbyte (x : Nat) : t.byte x = u.byte x := State.byte_congr (by rw [htframe]) (by rw [htframe]) x
  refine ⟨t, hexec, ?_, fun f i hi => (hdregs f i hi).trans (hvreg f i), fun h => ?_, fun h => ?_, fun i hi => ?_, ?_, fun b hb => ?_, fun x hx => ?_,
    fun i hi => ?_, ?_⟩
  · rw [htarms, show t.mem = u.mem by rw [htframe], show t.eccBad = u.eccBad by rw [htframe], show t.eccSoft = u.eccSoft by rw [htframe]]
    exact htframe.trans (congrArg (fun x : State => { x with regs := t.regs, arms := v.arms }) hframe)
  · rw [hbusy (hothers.2 h), hvreg]
  · rw [hidle (Bool.eq_false_iff.2 fun hb => h (hothers.1 hb)), hvreg]
  · rw [State.badWord, State.softWord, show t.eccBad = u.eccBad by rw [htframe], show t.eccSoft = u.eccSoft by rw [htframe]]
    exact hecc i hi
  · rw [htarms, harm]
  · rw [htarms, harms b hb]
  · rw [htbyte, hmem x hx]
  · rw [htbyte, hranks i hi]
  · rw [State.word_congr htbyte, hword]

theorem cellSort : Claims.CellSort := by
  intro a s r set base others key
  exact ⟨cbsSortStart_spec, cbsSortDone_spec, r.rank_perm, fun i j hij hj => r.rank_sorted hij hj⟩

/-- Settles O48: the claims on the conversion and the unit reset, and on the cell sort. -/
theorem conversionAndSort : Obligations.ConversionAndSort := ⟨conversionsAndReset, cellSort⟩

end Sys2Proof.Machine
end

section
/-! The auxiliary half-bridges and the core-rail regulator (R320 to R335). -/
namespace Sys2Proof.Machine

-- The proofs one after another: all at once they would need more threads, and their stacks, than the check's memory holds.
set_option Elab.async false

/-! The switches of a half-bridge. -/

/-- The switches' balls, their turn-off times and their monitors apart, `b` is `a`. -/
def AuxSt.Driven (a b : AuxSt) : Prop :=
  b = { a with ho := b.ho, lo := b.lo, hOff := b.hOff, lOff := b.lOff, monH := b.monH, monL := b.monL }

/-- The duty in effect and the commands are the same. -/
structure AuxSt.SameCmd (a b : AuxSt) : Prop where
  hon : b.hon = a.hon
  gH : b.gH = a.gH
  gL : b.gL = a.gL
  hcmd : b.hcmd = a.hcmd
  lcmd : b.lcmd = a.lcmd

namespace AuxSt

variable {a b c : AuxSt}

theorem Driven.trans (h : a.Driven b) (h' : b.Driven c) : a.Driven c := by
  unfold Driven at *
  rw [h'] at ⊢
  rw [h]

theorem Driven.sameCmd (h : a.Driven b) : a.SameCmd b := by
  rw [h]
  exact ⟨rfl, rfl, rfl, rfl, rfl⟩

theorem SameCmd.trans (h : a.SameCmd b) (h' : b.SameCmd c) : a.SameCmd c :=
  ⟨h'.hon.trans h.hon, h'.gH.trans h.gH, h'.gL.trans h.gL, h'.hcmd.trans h.hcmd, h'.lcmd.trans h.lcmd⟩

variable (a) (now : Nat) (v : Bool)

theorem setH_driven : a.Driven (a.setH now v) := by
  unfold setH
  split <;> rfl

theorem setL_driven : a.Driven (a.setL now v) := by
  unfold setL
  split <;> rfl

@[simp] theorem setH_ho : (a.setH now v).ho = v := by
  unfold setH
  split
  · assumption
  · rfl

@[simp] theorem setL_lo : (a.setL now v).lo = v := by
  unfold setL
  split
  · assumption
  · rfl

@[simp] theorem setH_lo : (a.setH now v).lo = a.lo := by
  unfold setH
  split <;> rfl

@[simp] theorem setL_ho : (a.setL now v).ho = a.ho := by
  unfold setL
  split <;> rfl

@[simp] theorem setH_lOff : (a.setH now v).lOff = a.lOff := by
  unfold setH
  split <;> rfl

@[simp] theorem setL_hOff : (a.setL now v).hOff = a.hOff := by
  unfold setL
  split <;> rfl

/-- The turn-offs that the wanted switches `w` ask for. -/
def driveOff (w : Bool × Bool) : AuxSt :=
  let a1 := if w.1 then a else a.setH now false
  if w.2 then a1 else a1.setL now false

/-- The turn-on of the high side, where it is wanted and the dead time admits it. -/
def driveH (w : Bool × Bool) (dt : Nat) : AuxSt := if w.1 && !a.lo && auxGuard now dt a.lOff then a.setH now true else a

/-- The turn-on of the low side. -/
def driveL (w : Bool × Bool) (dt : Nat) : AuxSt := if w.2 && !a.ho && auxGuard now dt a.hOff then a.setL now true else a

/-- What a half-bridge's balls become. -/
def drive (w : Bool × Bool) (dt : Nat) : AuxSt := ((a.driveOff now w).driveH now w dt).driveL now w dt

variable (w : Bool × Bool) (dt : Nat)

theorem driveOff_driven : a.Driven (a.driveOff now w) := by
  obtain ⟨h, l⟩ := w
  cases h <;> cases l
  · exact (a.setH_driven now false).trans (setL_driven _ now false)
  · exact a.setH_driven now false
  · exact a.setL_driven now false
  · rfl

theorem driveH_driven : a.Driven (a.driveH now w dt) := by
  unfold driveH
  split
  · exact a.setH_driven now true
  · rfl

theorem driveL_driven : a.Driven (a.driveL now w dt) := by
  unfold driveL
  split
  · exact a.setL_driven now true
  · rfl

theorem drive_driven : a.Driven (a.drive now w dt) :=
  ((a.driveOff_driven now w).trans (driveH_driven _ now w dt)).trans (driveL_driven _ now w dt)

theorem driveH_lo : (a.driveH now w dt).lo = a.lo := by
  unfold driveH
  split <;> simp

theorem driveL_ho : (a.driveL now w dt).ho = a.ho := by
  unfold driveL
  split <;> simp

theorem driveH_unwanted (h : w.1 = false) : a.driveH now w dt = a := by simp [driveH, h]

theorem driveL_unwanted (h : w.2 = false) : a.driveL now w dt = a := by simp [driveL, h]

theorem driveOff_ho (h : w.1 = false) : (a.driveOff now w).ho = false := by
  obtain ⟨hw, l⟩ := w
  obtain rfl := h
  cases l <;> simp [driveOff]

theorem driveOff_lo (h : w.2 = false) : (a.driveOff now w).lo = false := by
  obtain ⟨hw, l⟩ := w
  obtain rfl := h
  cases hw <;> simp [driveOff]

/-- A switch that is not wanted is off. -/
theorem drive_off : (w.1 = false → (a.drive now w dt).ho = false) ∧ (w.2 = false → (a.drive now w dt).lo = false) := by
  constructor
  · intro h
    rw [drive, driveL_ho, driveH_unwanted _ _ _ _ h, driveOff_ho _ _ _ h]
  · intro h
    rw [drive, driveL_unwanted _ _ _ _ h, driveH_lo, driveOff_lo _ _ _ h]

/-- The high side turns on where it alone is wanted, the low side is off and its dead time has passed. -/
theorem drive_high (hlo : a.lo = false) (hg : auxGuard now dt a.lOff = true) : (a.drive now (true, false) dt).ho = true := by
  have hl : a.setL now false = a := by rw [setL, if_pos hlo]
  simp [drive, driveOff, driveH, driveL, hl, hlo, hg]

theorem drive_low (hho : a.ho = false) (hg : auxGuard now dt a.hOff = true) : (a.drive now (false, true) dt).lo = true := by
  have hh : a.setH now false = a := by rw [setH, if_pos hho]
  simp [drive, driveOff, driveH, driveL, hh, hho, hg]

end AuxSt

/-! The balls of the half-bridges follow. -/

section
variable (s : State) (x : Fin 4)

theorem State.modAux_same (f : AuxSt → AuxSt) : (s.modAux x f).aux[x] = f s.aux[x] := vector_set_same _ _

theorem State.modAux_ne {y : Fin 4} (f : AuxSt → AuxSt) (h : y ≠ x) : (s.modAux x f).aux[y] = s.aux[y] := vector_set_ne _ _ h

theorem State.auxDrive_eq : s.auxDrive x = s.modAux x (fun a => a.drive s.auxc.now (s.auxWant x) (s.getF .AUXH_CFG_DT x)) := rfl

end

/-- Nothing but the balls of the half-bridges changes. -/
def Drives (s t : State) : Prop := t = { s with aux := t.aux } ∧ ∀ y : Fin 4, (s.aux[y]).Driven t.aux[y]

section
variable {s t u : State}

theorem Drives.refl (s : State) : Drives s s := ⟨rfl, fun _ => rfl⟩

theorem Drives.trans (h : Drives s t) (h' : Drives t u) : Drives s u :=
  ⟨h'.1.trans (congrArg (fun v : State => { v with aux := u.aux }) h.1), fun y => (h.2 y).trans (h'.2 y)⟩

theorem Drives.getF_eq (h : Drives s t) (f : Fld) (i : Nat) : t.getF f i = s.getF f i := by rw [h.1]; rfl

theorem Drives.auxc (h : Drives s t) : t.auxc = s.auxc := by rw [h.1]

/-- What the switches should do rests on nothing that the drive changes. -/
theorem Drives.auxWant (h : Drives s t) (y : Fin 4) : t.auxWant y = s.auxWant y := by
  rw [State.auxWant, h.auxc, h.2 y]
  rfl

theorem State.auxDrive_spec (s : State) (x : Fin 4) : Drives s (s.auxDrive x) ∧
    (s.auxDrive x).aux[x] = (s.aux[x]).drive s.auxc.now (s.auxWant x) (s.getF .AUXH_CFG_DT x) ∧ ∀ y, y ≠ x → (s.auxDrive x).aux[y] = s.aux[y] := by
  rw [s.auxDrive_eq]
  refine ⟨⟨rfl, fun y => ?_⟩, s.modAux_same x _, fun y hy => s.modAux_ne x _ hy⟩
  by_cases hy : y = x
  · rw [hy, s.modAux_same]
    exact AuxSt.drive_driven _ _ _ _
  · rw [s.modAux_ne _ _ hy]
    rfl

/-- The switches that are not wanted are off. -/
def OffUnless (w : Bool × Bool) (a : AuxSt) : Prop := (w.1 = false → a.ho = false) ∧ (w.2 = false → a.lo = false)

theorem State.auxDrive_off (s : State) (x : Fin 4) : OffUnless (s.auxWant x) (s.auxDrive x).aux[x] := by
  rw [(s.auxDrive_spec x).2.1]
  exact AuxSt.drive_off _ _ _ _

theorem State.auxDriveAll_spec (s : State) : Drives s s.auxDriveAll ∧ ∀ y : Fin 4, OffUnless (s.auxWant y) (s.auxDriveAll).aux[y] := by
  refine forIdx_each (fun y t => t.aux[y]) (Drives s) (fun y a => OffUnless (s.auxWant y) a) (.refl s) fun t y hframe _ => ?_
  obtain ⟨hdrives, -, hothers⟩ := t.auxDrive_spec y
  refine ⟨hframe.trans hdrives, ?_, hothers⟩
  rw [← hframe.auxWant y]
  exact t.auxDrive_off y

end

/-! What the commands of the half-bridges change. -/

/-- The flags that a command edge moves. -/
def auxKeys : List (Fld × Nat) :=
  ((List.range 4).map (fun x => [(Fld.AUXH_STAT_XCONFST, x), (.AUXH_STAT_XCONF, x), (.AUXH_STAT_BSUV, x), (.AUXH_FCNT_BSUV, x)])).flatten ++
    ([(.AUX_STAT_ASHORT, 0)] : List (Fld × Nat))

theorem mem_auxKeys (x : Fin 4) : (Fld.AUXH_STAT_XCONFST, x.val) ∈ auxKeys ∧ (Fld.AUXH_STAT_XCONF, x.val) ∈ auxKeys ∧
    (Fld.AUXH_STAT_BSUV, x.val) ∈ auxKeys ∧ (Fld.AUXH_FCNT_BSUV, x.val) ∈ auxKeys ∧ (Fld.AUX_STAT_ASHORT, 0) ∈ auxKeys := by
  revert x
  decide

/-- Nothing but the auxiliary drive, its flags and the fields of `more` changes. -/
def AuxStep (more : List (Fld × Nat)) (s t : State) : Prop := OnlyAux more s t

section
variable {s t u : State} {more : List (Fld × Nat)}

theorem AuxStep.refl (s : State) (more : List (Fld × Nat)) : AuxStep more s s := ⟨rfl, .refl s _⟩

theorem AuxStep.trans (h : AuxStep more s t) (h' : AuxStep more t u) : AuxStep more s u :=
  ⟨h'.1.trans (congrArg (fun v : State => { v with regs := u.regs, aux := u.aux, auxc := u.auxc }) h.1), h.2.trans h'.2⟩

theorem AuxStep.mono (h : AuxStep [] s t) (more : List (Fld × Nat)) : AuxStep more s t :=
  ⟨h.1, h.2.mono fun _ he => List.mem_append_left _ (by simpa using he)⟩

theorem AuxStep.setF (h : AuxStep more s t) {f : Fld} {i : Nat} (v : Nat) (hm : (f, i) ∈ auxKeys ++ more) : AuxStep more s (t.setF f i v) :=
  ⟨congrArg (fun w : State => w.setF f i v) h.1, h.2.setF v hm⟩

theorem AuxStep.getF_eq (h : AuxStep more s t) {f : Fld} (hf : ∀ e ∈ auxKeys ++ more, e.1 ≠ f) (i : Nat) : t.getF f i = s.getF f i := h.2.getF_eq hf i

theorem AuxStep.mem (h : AuxStep more s t) (aux : Vector AuxSt 4) (auxc : AuxShared) : AuxStep more s { t with aux := aux, auxc := auxc } :=
  ⟨congrArg (fun w : State => { w with aux := aux, auxc := auxc }) h.1, h.2⟩

theorem Drives.auxStep (h : Drives s t) (more : List (Fld × Nat)) : AuxStep more s t := by
  refine ⟨?_, fun f i _ => h.getF_eq f i⟩
  rw [h.1]

end

end Sys2Proof.Machine
end

section
/-! The periods, the overrides and the faults of the auxiliary half-bridges (R321 to R327). -/
namespace Sys2Proof.Machine

-- The proofs one after another: all at once they would need more threads, and their stacks, than the check's memory holds.
set_option Elab.async false

/-! A command edge, and the commands formed anew (R325, R326). -/

section
variable {s t u : State} {more : List (Fld × Nat)}

/-- Commands and duties stay, and of what the half-bridges share the active short alone may end. -/
structure EdgeStep (s t : State) : Prop where
  only : AuxStep [] s t
  auxc : t.auxc = { s.auxc with short := t.auxc.short }
  cmd : ∀ y : Fin 4, (s.aux[y]).SameCmd t.aux[y]

theorem EdgeStep.refl (s : State) : EdgeStep s s := ⟨.refl s _, rfl, fun _ => ⟨rfl, rfl, rfl, rfl, rfl⟩⟩

theorem EdgeStep.trans (h : EdgeStep s t) (h' : EdgeStep t u) : EdgeStep s u :=
  ⟨h.only.trans h'.only, by rw [h'.auxc, h.auxc], fun y => (h.cmd y).trans (h'.cmd y)⟩

theorem EdgeStep.setF (h : EdgeStep s t) {f : Fld} {i : Nat} (v : Nat) (hm : (f, i) ∈ auxKeys) : EdgeStep s (t.setF f i v) :=
  ⟨h.only.setF v (by simpa using hm), h.auxc, h.cmd⟩

theorem EdgeStep.setWhen (h : EdgeStep s t) {f : Fld} {i : Nat} (hm : (f, i) ∈ auxKeys) (c : Bool) (v : Nat) : EdgeStep s (t.setWhen c f i v) := by
  cases c
  · exact h
  · exact h.setF v hm

theorem Drives.edgeStep (h : Drives s t) : EdgeStep s t := ⟨h.auxStep [], by rw [h.auxc], fun y => (h.2 y).sameCmd⟩

/-- A change of one half-bridge that keeps its commands, and of the active short. -/
theorem EdgeStep.of_modAux (s : State) (x : Fin 4) {f : AuxSt → AuxSt} (hf : ∀ a : AuxSt, a.SameCmd (f a)) (short : Option (Fin 4)) :
    EdgeStep s { s.modAux x f with auxc := { s.auxc with short := short } } := by
  refine ⟨(AuxStep.refl s []).mem _ _, rfl, fun y => ?_⟩
  by_cases hy : y = x
  · subst hy
    show (s.aux[y]).SameCmd (s.modAux y f).aux[y]
    rw [s.modAux_same]
    exact hf _
  · show (s.aux[y]).SameCmd (s.modAux x f).aux[y]
    rw [s.modAux_ne x f hy]
    exact ⟨rfl, rfl, rfl, rfl, rfl⟩

theorem State.auxEdge_step (s : State) (x : Fin 4) : EdgeStep s (s.auxEdge x) := by
  obtain ⟨-, -, hbs, hcnt, hshort⟩ := mem_auxKeys x
  unfold State.auxEdge
  split
  · exact .refl s
  · have h1 := EdgeStep.of_modAux s x (f := fun a => { a with bsHold := a.bsLow, vdHold := s.auxc.vdLow, dsHold := false, lkHold := false })
      (fun _ => ⟨rfl, rfl, rfl, rfl, rfl⟩) (if s.auxc.short = some x then none else s.auxc.short)
    dsimp only at h1 ⊢
    split
    · exact ((h1.setF 1 hbs).setF _ hcnt).setF _ hshort
    · exact h1.setF _ hshort

end

/-- The commands of half-bridge `x` after its overrides. -/
def State.auxCmds (s : State) (x : Fin 4) : Bool × Bool :=
  (s.getF .AUXH_STAT_ENST x != enstOff && overridden (s.getF .AUXH_OVR_OVRH x) (s.aux[x]).gH,
    s.getF .AUXH_STAT_ENST x != enstOff && overridden (s.getF .AUXH_OVR_OVRL x) (s.aux[x]).gL)

/-- Half-bridge `x` with its commands formed anew. -/
def State.auxCmdSet (s : State) (x : Fin 4) : State := s.modAux x (fun a => { a with hcmd := (s.auxCmds x).1, lcmd := (s.auxCmds x).2 })

/-- The edge that a change of the commands is. -/
def State.auxCmdEdge (s : State) (x : Fin 4) : State :=
  if (s.auxCmds x).1 != (s.aux[x]).hcmd || (s.auxCmds x).2 != (s.aux[x]).lcmd then (s.auxCmdSet x).auxEdge x else s.auxCmdSet x

/-- The conflict of the commands as the flags show it. -/
def State.auxConflict (s : State) (x : Fin 4) : State :=
  ((s.auxCmdEdge x).setBit .AUXH_STAT_XCONFST x ((s.auxCmds x).1 && (s.auxCmds x).2)).setWhen ((s.auxCmds x).1 && (s.auxCmds x).2) .AUXH_STAT_XCONF x 1

theorem State.auxCommand_eq (s : State) (x : Fin 4) : s.auxCommand x = (s.auxConflict x).auxDriveAll := rfl

section
variable (s : State) (x : Fin 4)

theorem State.auxCmdEdge_step : EdgeStep (s.auxCmdSet x) (s.auxCmdEdge x) := by
  unfold State.auxCmdEdge
  split
  · exact (s.auxCmdSet x).auxEdge_step x
  · exact .refl _

theorem State.auxConflict_step : EdgeStep (s.auxCmdSet x) (s.auxConflict x) :=
  ((s.auxCmdEdge_step x).setF _ (mem_auxKeys x).1).setWhen (mem_auxKeys x).2.1 _ _

theorem State.auxCommand_step : EdgeStep (s.auxCmdSet x) (s.auxCommand x) :=
  (s.auxConflict_step x).trans (s.auxConflict x).auxDriveAll_spec.1.edgeStep

/-- Two commands that both ask for their switch show a conflict. -/
theorem State.auxCommand_conflict (h : (s.auxCmds x).1 = true) (l : (s.auxCmds x).2 = true) : (s.auxCommand x).bit .AUXH_STAT_XCONF x = true := by
  rw [s.auxCommand_eq, State.bit, (s.auxConflict x).auxDriveAll_spec.1.getF_eq, State.auxConflict, h, l, State.setWhen, if_pos (by rfl), State.getF_setF_same]
  decide

theorem State.auxCmdSet_only : AuxStep [] s (s.auxCmdSet x) := (AuxStep.refl s []).mem _ _

/-- The commands formed anew leave the generator's commands and the duty. -/
theorem State.auxCmdSet_gen (y : Fin 4) : ((s.auxCmdSet x).aux[y]).hon = (s.aux[y]).hon ∧ ((s.auxCmdSet x).aux[y]).gH = (s.aux[y]).gH ∧
    ((s.auxCmdSet x).aux[y]).gL = (s.aux[y]).gL := by
  unfold State.auxCmdSet
  by_cases hy : y = x
  · subst hy
    rw [State.modAux_same]
    exact ⟨rfl, rfl, rfl⟩
  · rw [State.modAux_ne _ _ _ hy]
    exact ⟨rfl, rfl, rfl⟩

/-- What the commands formed anew for one half-bridge leave and give. -/
structure CmdStep (s t : State) (x : Fin 4) : Prop where
  only : AuxStep [] s t
  auxc : t.auxc = { s.auxc with short := t.auxc.short }
  hon : ∀ y : Fin 4, (t.aux[y]).hon = (s.aux[y]).hon
  gH : ∀ y : Fin 4, (t.aux[y]).gH = (s.aux[y]).gH
  gL : ∀ y : Fin 4, (t.aux[y]).gL = (s.aux[y]).gL
  hcmd : (t.aux[x]).hcmd = (s.auxCmds x).1
  lcmd : (t.aux[x]).lcmd = (s.auxCmds x).2

theorem State.auxCommand_spec : CmdStep s (s.auxCommand x) x := by
  have h := s.auxCommand_step x
  have hgen := s.auxCmdSet_gen x
  have hset : (s.auxCmdSet x).aux[x] = { s.aux[x] with hcmd := (s.auxCmds x).1, lcmd := (s.auxCmds x).2 } := s.modAux_same x _
  refine ⟨(s.auxCmdSet_only x).trans h.only, h.auxc, fun y => ?_, fun y => ?_, fun y => ?_, ?_, ?_⟩
  · rw [(h.cmd y).hon, (hgen y).1]
  · rw [(h.cmd y).gH, (hgen y).2.1]
  · rw [(h.cmd y).gL, (hgen y).2.2]
  · rw [(h.cmd x).hcmd, hset]
  · rw [(h.cmd x).lcmd, hset]

end

/-! A period begins (R321, R322, R327). -/

section
variable (s : State) (x : Fin 4)

/-- The duty that a period takes. -/
def State.auxDuty (s : State) (x : Fin 4) : Nat := if s.bit .AUX_CTRL_HOLD 0 then (s.aux[x]).hon else s.getF .AUXH_DUTY_HON x

/-- The fields that a period start may write besides the flags of the command edges. -/
def auxPeriodKeys : List (Fld × Nat) := (List.range 4).map (fun y => (Fld.AUXH_FCNT_CLAMP, y)) ++ (List.range 4).map (fun y => (Fld.AUXH_STAT_ENST, y))

theorem mem_auxPeriodKeys (y : Fin 4) : (Fld.AUXH_FCNT_CLAMP, y.val) ∈ auxPeriodKeys ∧ (Fld.AUXH_STAT_ENST, y.val) ∈ auxPeriodKeys := by
  revert y
  decide

/-- What a period start reads of half-bridge `x` and moves there. -/
def auxSeen (x : Fin 4) (s : State) : (Nat × Bool × Bool) × Nat × Nat :=
  (((s.aux[x]).hon, (s.aux[x]).gH, (s.aux[x]).gL), s.getF .AUXH_STAT_ENST x, s.getF .AUXH_FCNT_CLAMP x)

/-- What the period start gives half-bridge `y`: its duty; where it is ON its commands and the count of its clamp; where it was DRAINING, OFF. -/
def PeriodAt (s : State) (y : Fin 4) (a : (Nat × Bool × Bool) × Nat × Nat) : Prop :=
  a.1.1 = s.auxDuty y ∧
  (s.getF .AUXH_STAT_ENST y = 1 → a.1.2.1 = decide (0 < min (s.auxDuty y) (s.honMax y)) ∧ a.1.2.2 = decide (min (s.auxDuty y) (s.honMax y) = 0) ∧
    a.2.2 = min (2 ^ Fld.AUXH_FCNT_CLAMP.width - 1) (s.getF .AUXH_FCNT_CLAMP y + if s.honMax y < s.auxDuty y then 1 else 0)) ∧
  (s.getF .AUXH_STAT_ENST y = 2 → a.2.1 = 0 ∧ a.1.2.1 = false ∧ a.1.2.2 = false)

/-- The command edges leave what a period start sees. -/
theorem CmdStep.seen {s t : State} {x : Fin 4} (h : CmdStep s t x) (y : Fin 4) : auxSeen y t = auxSeen y s := by
  rw [auxSeen, h.hon y, h.gH y, h.gL y, h.only.getF_eq (by decide), h.only.getF_eq (by decide)]
  rfl

/-- The period start of half-bridge `x` up to its command edge. -/
structure PeriodPart (s t : State) (x : Fin 4) : Prop where
  only : AuxStep auxPeriodKeys s t
  cnt : t.auxc.cnt = s.auxc.cnt
  here : PeriodAt s x (auxSeen x t)
  others : ∀ y : Fin 4, y ≠ x → auxSeen y t = auxSeen y s

theorem PeriodPart.command {s t : State} {x : Fin 4} (h : PeriodPart s t x) : PeriodPart s (t.auxCommand x) x := by
  have hc := t.auxCommand_spec x
  exact ⟨h.only.trans (hc.only.mono _), by rw [hc.auxc]; exact h.cnt, hc.seen x ▸ h.here, fun y hy => (hc.seen y).trans (h.others y hy)⟩

theorem auxSeen_modAux_ne {x y : Fin 4} (s : State) (f : AuxSt → AuxSt) (h : y ≠ x) : auxSeen y (s.modAux x f) = auxSeen y s := by
  rw [auxSeen, State.modAux_ne _ _ _ h]
  rfl

theorem auxSeen_setF_ne {x y : Fin 4} (s : State) {f : Fld} (v : Nat) (h : y ≠ x) : auxSeen y (s.setF f x v) = auxSeen y s := by
  have hne : ∀ g : Fld, (s.setF f x v).getF g y = s.getF g y := fun g => by
    by_cases hg : g = f
    · rw [hg, s.getF_setF_fin f (by decide) h]
    · exact s.getF_setF_ne _ _ _ hg
  rw [auxSeen, hne, hne]
  rfl

/-- The duty is taken into the half-bridge, whatever its state. -/
def State.auxTake (s : State) (x : Fin 4) : State := s.modAux x (fun a => { a with hon := s.auxDuty x })

/-- The state in which the command edge of a period start comes: OFF out of DRAINING, or ON with the commands and the count of the clamp. -/
def State.auxOff (s : State) (x : Fin 4) : State :=
  ((s.auxTake x).setF .AUXH_STAT_ENST x enstOff).modAux x (fun a => { a with gH := false, gL := false })

def State.auxOn (s : State) (x : Fin 4) : State :=
  ((s.auxTake x).countF .AUXH_FCNT_CLAMP x (b2n (decide (s.honMax x < s.auxDuty x)))).modAux x
    (fun a => { a with gH := decide (0 < min (s.auxDuty x) (s.honMax x)), gL := decide (min (s.auxDuty x) (s.honMax x) = 0) })

theorem State.auxPeriod_eq : s.auxPeriod x = if s.getF .AUXH_STAT_ENST x = enstDraining then (s.auxOff x).auxCommand x
    else if s.getF .AUXH_STAT_ENST x = enstOn then (s.auxOn x).auxCommand x else s.auxTake x := rfl

theorem State.auxTake_same : (s.auxTake x).aux[x] = { s.aux[x] with hon := s.auxDuty x } := s.modAux_same x _

theorem State.auxOff_part (h : s.getF .AUXH_STAT_ENST x = 2) : PeriodPart s (s.auxOff x) x := by
  have haux : (s.auxOff x).aux[x] = { s.aux[x] with hon := s.auxDuty x, gH := false, gL := false } := by
    rw [State.auxOff, State.modAux_same]
    exact congrArg (fun a : AuxSt => { a with gH := false, gL := false }) (s.auxTake_same x)
  refine ⟨((((AuxStep.refl s _).mem _ _).setF _ (List.mem_append_right _ (mem_auxPeriodKeys x).2)).mem _ _), rfl, ?_, fun y hy => ?_⟩
  · rw [PeriodAt, auxSeen, haux]
    exact ⟨rfl, fun h1 => absurd (h.symm.trans h1) (by decide), fun _ => ⟨((s.auxTake x).getF_setF_same .AUXH_STAT_ENST x enstOff).trans (by decide), rfl, rfl⟩⟩
  · exact (auxSeen_modAux_ne _ _ hy).trans ((auxSeen_setF_ne _ _ hy).trans (auxSeen_modAux_ne _ _ hy))

theorem State.auxOn_part (h : s.getF .AUXH_STAT_ENST x = 1) : PeriodPart s (s.auxOn x) x := by
  have haux : (s.auxOn x).aux[x] = { s.aux[x] with hon := s.auxDuty x, gH := decide (0 < min (s.auxDuty x) (s.honMax x)), gL := decide (min (s.auxDuty x) (s.honMax x) = 0) } := by
    rw [State.auxOn, State.modAux_same]
    exact congrArg (fun a : AuxSt =>
      { a with gH := decide (0 < min (s.auxDuty x) (s.honMax x)), gL := decide (min (s.auxDuty x) (s.honMax x) = 0) }) (s.auxTake_same x)
  have hcnt : (s.auxOn x).getF .AUXH_FCNT_CLAMP x =
      min (2 ^ Fld.AUXH_FCNT_CLAMP.width - 1) (s.getF .AUXH_FCNT_CLAMP x + if s.honMax x < s.auxDuty x then 1 else 0) := by
    refine ((s.auxTake x).getF_countF_same _ _ _).trans ?_
    rw [b2n]
    simp only [decide_eq_true_eq]
    rfl
  refine ⟨((((AuxStep.refl s _).mem _ _).setF _ (List.mem_append_right _ (mem_auxPeriodKeys x).1)).mem _ _), rfl, ?_, fun y hy => ?_⟩
  · rw [PeriodAt, auxSeen, haux, hcnt]
    exact ⟨rfl, fun _ => ⟨rfl, rfl, rfl⟩, fun h2 => absurd (h.symm.trans h2) (by decide)⟩
  · exact (auxSeen_modAux_ne _ _ hy).trans ((auxSeen_setF_ne _ _ hy).trans (auxSeen_modAux_ne _ _ hy))

theorem State.auxPeriod_part : PeriodPart s (s.auxPeriod x) x := by
  rw [s.auxPeriod_eq]
  split
  next h => exact (s.auxOff_part x h).command
  next h2 =>
    split
    next h => exact (s.auxOn_part x h).command
    next h1 =>
      refine ⟨(AuxStep.refl s _).mem _ _, rfl, ?_, fun y hy => auxSeen_modAux_ne _ _ hy⟩
      rw [PeriodAt, auxSeen, s.auxTake_same]
      exact ⟨rfl, fun h => absurd h h1, fun h => absurd h h2⟩

/-- The period start passes from half-bridge to half-bridge. -/
structure PeriodStep (s t : State) : Prop where
  only : AuxStep auxPeriodKeys s t
  cnt : t.auxc.cnt = s.auxc.cnt

theorem PeriodAt.congr {s t : State} {y : Fin 4} {a : (Nat × Bool × Bool) × Nat × Nat} (h : PeriodAt t y a) (hs : PeriodStep s t)
    (hseen : auxSeen y t = auxSeen y s) : PeriodAt s y a := by
  have hkeep {f : Fld} (hf : ∀ e ∈ auxKeys ++ auxPeriodKeys, e.1 ≠ f) (i : Nat) := hs.only.getF_eq hf i
  obtain ⟨⟨hon, -⟩, henst, hclamp⟩ := by simpa only [auxSeen, Prod.mk.injEq] using hseen
  have hduty : t.auxDuty y = s.auxDuty y := by
    rw [State.auxDuty, State.auxDuty, State.bit, State.bit, hkeep (by decide), hkeep (by decide), hon]
  have hmax : t.honMax y = s.honMax y := by
    rw [State.honMax, State.honMax, State.auxPrd, State.auxPrd, hkeep (by decide), hkeep (by decide)]
  rwa [PeriodAt, hduty, hmax, henst, hclamp] at h

theorem State.auxPeriods_spec : let t := forIdx (n := 4) (fun x t => t.auxPeriod x) s
    PeriodStep s t ∧ ∀ y, PeriodAt s y (auxSeen y t) := by
  refine forIdx_each auxSeen (PeriodStep s) (PeriodAt s) ⟨.refl s _, rfl⟩ fun t y hframe hseen => ?_
  have h := t.auxPeriod_part y
  exact ⟨⟨hframe.only.trans h.only, h.cnt.trans hframe.cnt⟩, h.here.congr hframe hseen, h.others⟩

end

/-! The commands of the half-bridges. -/

section
variable {s : State} {x : Fin 4}

/-- The period counter starts anew. -/
def State.auxRestart (s : State) : State := { s with auxc := { s.auxc with cnt := 0, now := s.auxc.now + (s.auxPrd + 1 - s.auxc.cnt) } }

theorem State.auxPeriodStart_spec (s : State) : AuxStep auxPeriodKeys s s.auxPeriodStart ∧ s.auxPeriodStart.auxc.cnt = 0 ∧
    ∀ y, PeriodAt s y (auxSeen y s.auxPeriodStart) := by
  have h := s.auxRestart.auxPeriods_spec
  change PeriodStep s.auxRestart s.auxPeriodStart ∧ ∀ y, PeriodAt s y (auxSeen y s.auxPeriodStart) at h
  exact ⟨((AuxStep.refl s _).mem s.aux _).trans h.1.only, h.1.cnt, h.2⟩

theorem auxPeriodStart_clause (hok : s.auxOk = true) (hfab : s.fabRuns = true) : Answers .auxPeriodStart s (fun t => t.auxc.cnt = 0 ∧
    (∀ y : Fin 4, (t.aux[y]).hon = s.auxDuty y) ∧
    (∀ y : Fin 4, s.getF .AUXH_STAT_ENST y = 1 → (t.aux[y]).gH = decide (0 < min (s.auxDuty y) (s.honMax y)) ∧
      (t.aux[y]).gL = decide (min (s.auxDuty y) (s.honMax y) = 0) ∧
      t.getF .AUXH_FCNT_CLAMP y = min (2 ^ Fld.AUXH_FCNT_CLAMP.width - 1) (s.getF .AUXH_FCNT_CLAMP y + if s.honMax y < s.auxDuty y then 1 else 0)) ∧
    (∀ y : Fin 4, s.getF .AUXH_STAT_ENST y = 2 → t.getF .AUXH_STAT_ENST y = 0 ∧ (t.aux[y]).gH = false ∧ (t.aux[y]).gL = false) ∧
    OnlyAux auxPeriodKeys s t) := by
  obtain ⟨honly, hcnt, hat⟩ := s.auxPeriodStart_spec
  have hexec : exec .auxPeriodStart s = .next (if s.auxOk && s.fabRuns then s.auxPeriodStart else s) := rfl
  generalize s.auxPeriodStart = t at *
  exact .of_guard hexec (by rw [hok, hfab]; rfl) ⟨hcnt, fun y => (hat y).1, fun y => (hat y).2.1, fun y => (hat y).2.2, honly⟩

theorem State.auxRaise_spec (s : State) (c : Nat) : ∃ k n, s.auxRaise c = { s with auxc := { s.auxc with cnt := k, now := n } } ∧ k = max s.auxc.cnt c := by
  unfold State.auxRaise
  split
  · exact ⟨_, _, rfl, by omega⟩
  · exact ⟨s.auxc.cnt, s.auxc.now, rfl, by omega⟩

theorem auxHonMatch_clause (hok : s.auxOk = true) (hfab : s.fabRuns = true) (hg : (s.aux[x]).gH = true) :
    Answers (.auxHonMatch x) s (fun t => (t.aux[x]).gH = false ∧ (t.aux[x]).gL = true ∧
      t.auxc.cnt = max s.auxc.cnt (min (s.aux[x]).hon (s.honMax x)) ∧ OnlyAux [] s t) := by
  obtain ⟨k, n, hraise, hk⟩ := s.auxRaise_spec (min (s.aux[x]).hon (s.honMax x))
  refine .of_guard (b := s.auxOk && s.fabRuns && (s.aux[x]).gH) rfl (by rw [hok, hfab, hg]; rfl) ?_
  rw [State.auxMatch, hraise]
  generalize hu : State.modAux { s with auxc := { s.auxc with cnt := k, now := n } } x (fun a => { a with gH := false, gL := true }) = u
  have haux : u.aux[x] = { s.aux[x] with gH := false, gL := true } := by rw [← hu, State.modAux_same]
  have hcmd := u.auxCommand_spec x
  refine ⟨by rw [hcmd.gH, haux], by rw [hcmd.gL, haux], by rw [hcmd.auxc, ← hk, ← hu]; rfl, ?_⟩
  refine AuxStep.trans ?_ hcmd.only
  rw [← hu]
  exact (AuxStep.refl s []).mem _ _

theorem State.auxWant_one (s : State) (x : Fin 4) : (s.auxWant x).1 = false ∨ (s.auxWant x).2 = false := by
  unfold State.auxWant
  dsimp only
  split
  · exact .inl rfl
  · split
    · exact .inl rfl
    · split
      · exact .inl rfl
      next h => 
        cases h1 : (s.aux[x]).hcmd
        · exact .inl rfl
        · exact .inr (by simpa only [h1, Bool.true_and, Bool.not_eq_true] using h)

/-- When the dead time that a switch waits for is over. -/
def State.auxDue (s : State) (x : Fin 4) (high : Bool) : Nat :=
  match (if high then (s.aux[x]).lOff else (s.aux[x]).hOff) with | some t => t + s.getF .AUXH_CFG_DT x | none => 0

/-- Time has come to the end of that dead time. -/
def State.auxAwait (s : State) (x : Fin 4) (high : Bool) : State :=
  { s with auxc := { s.auxc with now := s.auxc.now + (s.auxDue x high - s.auxc.now), cnt := min s.auxPrd (s.auxc.cnt + (s.auxDue x high - s.auxc.now)) } }

/-- At that end the dead time admits the switch. -/
theorem State.auxAwait_guard (s : State) (x : Fin 4) (high : Bool) :
    auxGuard (s.auxAwait x high).auxc.now (s.getF .AUXH_CFG_DT x) (if high then (s.aux[x]).lOff else (s.aux[x]).hOff) = true := by
  have hnow : (s.auxAwait x high).auxc.now = s.auxc.now + (s.auxDue x high - s.auxc.now) := rfl
  rw [hnow, State.auxDue]
  cases (if high then (s.aux[x]).lOff else (s.aux[x]).hOff) with
  | none => rfl
  | some t => exact decide_eq_true (by dsimp only; omega)

theorem auxDeadTimeExpiry_clause (high : Bool) (hok : s.auxOk = true) (hfab : s.fabRuns = true)
    (hw : (if high then (s.auxWant x).1 else (s.auxWant x).2) = true) (hoff : (if high then (s.aux[x]).lo else (s.aux[x]).ho) = false) :
    Answers (.auxDeadTimeExpiry x high) s (fun t => (if high then (t.aux[x]).ho else (t.aux[x]).lo) = true ∧
      t.auxc.now = max s.auxc.now (s.auxDue x high) ∧ OnlyAux [] s t) := by
  refine .of_guard (b := s.auxOk && s.fabRuns) (t := (s.auxAwait x high).auxDrive x) rfl (by rw [hok, hfab]; rfl) ?_
  have hguard := s.auxAwait_guard x high
  obtain ⟨hdrives, hhere, -⟩ := (s.auxAwait x high).auxDrive_spec x
  have hnow : (s.auxAwait x high).auxc.now = max s.auxc.now (s.auxDue x high) :=
    (show _ = s.auxc.now + (s.auxDue x high - s.auxc.now) from rfl).trans (by omega)
  refine ⟨?_, by rw [hdrives.auxc, hnow], ((AuxStep.refl s []).mem s.aux _).trans (hdrives.auxStep [])⟩
  rw [hhere]
  change (if high then ((s.aux[x]).drive _ (s.auxWant x) (s.getF .AUXH_CFG_DT x)).ho else ((s.aux[x]).drive _ (s.auxWant x) (s.getF .AUXH_CFG_DT x)).lo) = true
  have hone := s.auxWant_one x
  cases high
  · rw [show s.auxWant x = (false, true) from Prod.ext (hone.resolve_right (by simpa using hw)) hw]
    exact AuxSt.drive_low _ _ _ hoff hguard
  · rw [show s.auxWant x = (true, false) from Prod.ext hw (hone.resolve_left (by simpa using hw))]
    exact AuxSt.drive_high _ _ _ hoff hguard

/-! The faults (R323 to R327). -/

/-- With the link or VDRV down or one of those faults held both switches stay off. -/
theorem State.auxWant_held (s : State) (x : Fin 4)
    (h : (s.auxc.linkDown || (s.aux[x]).lkHold || (s.aux[x]).vdHold || (s.aux[x]).dsHold || s.auxc.vdLow) = true) : s.auxWant x = (false, false) := by
  rw [State.auxWant]
  exact if_pos h

theorem State.auxWant_bsLow (s : State) (x : Fin 4) (h : (s.aux[x]).bsLow = true) : (s.auxWant x).1 = false := by
  unfold State.auxWant
  dsimp only
  split
  · rfl
  · split
    · rfl
    · split
      · rfl
      · dsimp only
        rw [h]
        exact Bool.and_false _

/-- During an active short the high sides of AUXA to AUXC are off. -/
theorem State.auxWant_short (s : State) (x : Fin 4) (hx : x.val < 3) (h : s.auxc.short.isSome = true) : (s.auxWant x).1 = false := by
  unfold State.auxWant
  dsimp only
  split
  · rfl
  · rw [if_pos (by simp [hx, h])]

theorem bootstrapUv_clause (hok : s.auxOk = true) (hlow : (s.aux[x]).bsLow = false) : Answers (.bootstrapUv x) s (fun t =>
    (t.aux[x]).bsLow = true ∧ (t.aux[x]).ho = false ∧ t.bit .AUXH_STAT_BSUV x = true ∧
    t.getF .AUXH_FCNT_BSUV x = min (2 ^ Fld.AUXH_FCNT_BSUV.width - 1) (s.getF .AUXH_FCNT_BSUV x + 1) ∧ OnlyAux [] s t) := by
  refine .of_guard (b := s.auxOk && !(s.aux[x]).bsLow) rfl (by rw [hok, hlow]; rfl) ?_
  obtain ⟨-, -, hbs, hcnt, -⟩ := mem_auxKeys x
  have hreg : AuxStep [] s ((s.setF .AUXH_STAT_BSUV x 1).countF .AUXH_FCNT_BSUV x 1) :=
    ((AuxStep.refl s []).setF 1 (by simpa using hbs)).setF _ (by simpa using hcnt)
  have hbit : ((s.setF .AUXH_STAT_BSUV x 1).countF .AUXH_FCNT_BSUV x 1).bit .AUXH_STAT_BSUV x = true := by
    rw [State.bit, State.getF_countF_ne _ _ _ _ (by decide), State.getF_setF_same]
    decide
  have hcount : ((s.setF .AUXH_STAT_BSUV x 1).countF .AUXH_FCNT_BSUV x 1).getF .AUXH_FCNT_BSUV x =
      min (2 ^ Fld.AUXH_FCNT_BSUV.width - 1) (s.getF .AUXH_FCNT_BSUV x + 1) := by
    rw [State.getF_countF_same, State.getF_setF_ne _ _ _ _ (by decide)]
  have haux : ((s.setF .AUXH_STAT_BSUV x 1).countF .AUXH_FCNT_BSUV x 1).aux = s.aux := rfl
  generalize (s.setF .AUXH_STAT_BSUV x 1).countF .AUXH_FCNT_BSUV x 1 = u at *
  have hset := u.modAux_same x fun a => { a with bsLow := true, bsHold := true }
  have hstep : AuxStep [] s (u.modAux x fun a => { a with bsLow := true, bsHold := true }) := hreg.mem _ _
  have hkeep (f : Fld) (i : Nat) : (u.modAux x fun a => { a with bsLow := true, bsHold := true }).getF f i = u.getF f i := rfl
  generalize u.modAux x (fun a => { a with bsLow := true, bsHold := true }) = v at *
  obtain ⟨hdrives, -, -⟩ := v.auxDrive_spec x
  refine ⟨by rw [hdrives.2 x, hset], (v.auxDrive_off x).1 (v.auxWant_bsLow x (by rw [hset])), ?_, ?_, hstep.trans (hdrives.auxStep [])⟩
  · rw [State.bit, hdrives.getF_eq, hkeep]
    exact hbit
  · rw [hdrives.getF_eq, hkeep]
    exact hcount

theorem bootstrapRecover_clause (hok : s.auxOk = true) : Answers (.bootstrapRecover x) s (fun t =>
    (t.aux[x]).bsLow = false ∧ (t.aux[x]).bsHold = (s.aux[x]).bsHold ∧ OnlyAux [] s t) := by
  refine .of_guard (b := s.auxOk) rfl hok ?_
  have hset := s.modAux_same x fun a => { a with bsLow := false }
  have hstep : AuxStep [] s (s.modAux x fun a => { a with bsLow := false }) := (AuxStep.refl s []).mem _ _
  generalize s.modAux x (fun a => { a with bsLow := false }) = v at *
  obtain ⟨hdrives, -, -⟩ := v.auxDrive_spec x
  exact ⟨by rw [hdrives.2 x, hset], by rw [hdrives.2 x, hset], hstep.trans (hdrives.auxStep [])⟩

/-- A change of each half-bridge. -/
theorem State.eachAux (s : State) (f : AuxSt → AuxSt) : let t := forIdx (n := 4) (fun x t => t.modAux x f) s
    t = { s with aux := t.aux } ∧ ∀ y : Fin 4, t.aux[y] = f s.aux[y] := by
  refine forIdx_each (fun y t => t.aux[y]) (fun t => t = { s with aux := t.aux }) (fun y a => a = f s.aux[y]) rfl fun t y hframe hseen => ?_
  exact ⟨congrArg (fun v : State => v.modAux y f) hframe |>.trans rfl, by rw [t.modAux_same]; exact congrArg f hseen, fun z hz => t.modAux_ne y f hz⟩

/-- All half-bridges that are not to drive are off after the drive. -/
theorem State.auxDriveAll_off (s : State) (y : Fin 4) (h : s.auxWant y = (false, false)) :
    ((s.auxDriveAll).aux[y]).ho = false ∧ ((s.auxDriveAll).aux[y]).lo = false := by
  obtain ⟨hho, hlo⟩ := s.auxDriveAll_spec.2 y
  exact ⟨hho (by rw [h]), hlo (by rw [h])⟩

end

end Sys2Proof.Machine
end

section
/-! The supplies, the desaturations, the overrides and the link of the auxiliary drive, and the regulator (R320 to R335). -/
namespace Sys2Proof.Machine

-- The proofs one after another: all at once they would need more threads, and their stacks, than the check's memory holds.
set_option Elab.async false

section
variable {s : State} {x : Fin 4}

/-- A step of the auxiliary drive that leaves the half-bridges, and what they share apart from the supplies. -/
theorem State.auxSupply_spec (s : State) (vd vh : Bool) : let t := s.auxSupply vd vh
    AuxStep [(.AUX_STAT_VDRVUV, 0), (.AUX_STAT_VHVUV, 0)] s t ∧ t.bit .AUX_STAT_VDRVUV 0 = vd ∧ t.bit .AUX_STAT_VHVUV 0 = vh ∧ t.aux = s.aux ∧
    t.auxc = { s.auxc with vdLow := vd, vhLow := vh } := by
  refine ⟨((((AuxStep.refl s _).mem s.aux _).setF _ (by simp)).setF _ (by simp)), ?_, ?_, rfl, rfl⟩
  · rw [State.bit, State.auxSupply, State.setBit, State.getF_setF_ne _ _ _ _ (by decide), State.setBit, State.getF_setF_same]
    cases vd <;> decide
  · rw [State.bit, State.auxSupply, State.setBit, State.getF_setF_same]
    cases vh <;> decide

theorem vdrvUv_clause (vhv : Bool) (hok : s.auxOk = true) : Answers (.vdrvUv vhv) s (fun t => t.bit .AUX_STAT_VDRVUV 0 = true ∧ t.auxc.vdLow = true ∧
    t.bit .AUX_STAT_VHVUV 0 = (vhv || s.auxc.vhLow) ∧
    (∀ y : Fin 4, (t.aux[y]).vdHold = true ∧ (t.aux[y]).ho = false ∧ (t.aux[y]).lo = false) ∧
    OnlyAux [(.AUX_STAT_VDRVUV, 0), (.AUX_STAT_VHVUV, 0)] s t) := by
  refine .of_guard (b := s.auxOk) rfl hok ?_
  obtain ⟨hstep, hvd, hvh, -, hauxc⟩ := s.auxSupply_spec true (vhv || s.auxc.vhLow)
  generalize s.auxSupply true (vhv || s.auxc.vhLow) = u at *
  obtain ⟨hframe, hheld⟩ := u.eachAux fun a => { a with vdHold := true }
  generalize forIdx (n := 4) (fun x t => t.modAux x fun a => { a with vdHold := true }) u = v at *
  have hdrives := v.auxDriveAll_spec.1
  have hbit (f : Fld) : v.auxDriveAll.bit f 0 = u.bit f 0 := by rw [State.bit, hdrives.getF_eq, State.getF, show v.regs = u.regs by rw [hframe]]; rfl
  have hvauxc : v.auxc = u.auxc := by rw [hframe]
  refine ⟨by rw [hbit, hvd], by rw [hdrives.auxc, hvauxc, hauxc], by rw [hbit, hvh], fun y => ⟨by rw [hdrives.2 y, hheld y], ?_⟩,
    (hstep.trans ?_).trans (hdrives.auxStep _)⟩
  · exact v.auxDriveAll_off y (v.auxWant_held y (by simp [hvauxc, hauxc]))
  · rw [hframe]
    exact (AuxStep.refl u _).mem _ u.auxc

theorem vdrvRecover_clause (hok : s.auxOk = true) : Answers .vdrvRecover s (fun t => t.bit .AUX_STAT_VDRVUV 0 = false ∧ t.bit .AUX_STAT_VHVUV 0 = false ∧
    t.auxc.vdLow = false ∧
    (∀ y : Fin 4, (t.aux[y]).vdHold = (s.aux[y]).vdHold ∧ ((s.aux[y]).vdHold = true → (t.aux[y]).ho = false ∧ (t.aux[y]).lo = false)) ∧
    OnlyAux [(.AUX_STAT_VDRVUV, 0), (.AUX_STAT_VHVUV, 0)] s t) := by
  refine .of_guard (b := s.auxOk) rfl hok ?_
  obtain ⟨hstep, hvd, hvh, haux, hauxc⟩ := s.auxSupply_spec false false
  generalize s.auxSupply false false = u at *
  have hdrives := u.auxDriveAll_spec.1
  refine ⟨by rw [State.bit, hdrives.getF_eq]; exact hvd, by rw [State.bit, hdrives.getF_eq]; exact hvh, by rw [hdrives.auxc, hauxc],
    fun y => ⟨by rw [hdrives.2 y, haux], fun hheld => u.auxDriveAll_off y (u.auxWant_held y ?_)⟩, hstep.trans (hdrives.auxStep _)⟩
  rw [haux, hheld]
  simp

theorem auxDesatBlankEnd_clause (high : Bool) : Answers (.auxDesatBlankEnd x high) s (fun t =>
    (if high then (t.aux[x]).monH = (s.aux[x]).ho else (t.aux[x]).monL = (s.aux[x]).lo) ∧ t = { s with aux := t.aux } ∧
    ∀ y : Fin 4, y ≠ x → t.aux[y] = s.aux[y]) := by
  refine ⟨_, rfl, ?_, rfl, fun y hy => s.modAux_ne x _ hy⟩
  rw [s.modAux_same]
  cases high <;> rfl

/-! Desaturation (R324). -/

/-- The fields that a desaturation of half-bridge `x` moves. -/
def desatKeys (x : Fin 4) : List (Fld × Nat) := [(.AUXH_STAT_DESAT, x), (.AUXH_FCNT_DESAT, x)]

/-- A desaturation is counted and shown. -/
def State.noteDesat (s : State) (x : Fin 4) : State := (s.countF .AUXH_FCNT_DESAT x 1).setF .AUXH_STAT_DESAT x 1

theorem State.noteDesat_spec (s : State) (x : Fin 4) : let t := s.noteDesat x
    AuxStep (desatKeys x) s t ∧ t.bit .AUXH_STAT_DESAT x = true ∧
    t.getF .AUXH_FCNT_DESAT x = min (2 ^ Fld.AUXH_FCNT_DESAT.width - 1) (s.getF .AUXH_FCNT_DESAT x + 1) := by
  refine ⟨((AuxStep.refl s _).setF _ (by simp [desatKeys])).setF _ (by simp [desatKeys]), ?_, ?_⟩
  · rw [State.bit, State.noteDesat, State.getF_setF_same]
    decide
  · rw [State.noteDesat, State.getF_setF_ne _ _ _ _ (by decide), State.getF_countF_same]

/-- The guard of a desaturation: its monitor is open. -/
theorem auxDesat_answers {high : Bool} {P : State → Prop} (hok : s.auxOk = true) (hmon : (if high then (s.aux[x]).monH else (s.aux[x]).monL) = true)
    (h : P (s.auxDesat x high)) : Answers (.auxDesat x high) s P :=
  .of_guard (b := s.auxOk && (if high then (s.aux[x]).monH else (s.aux[x]).monL)) rfl (by rw [hok, hmon]; rfl) h

/-- Half-bridge `x` starts an active short. -/
def State.shortOf (s : State) (x : Fin 4) : State := { s.noteDesat x with auxc := { s.auxc with short := some x } }.setF .AUX_STAT_ASHORT 0 1

theorem auxDesat_short {high : Bool} (hok : s.auxOk = true) (hmon : (if high then (s.aux[x]).monH else (s.aux[x]).monL) = true) (hx : x.val < 3)
    (hsh : s.auxc.short = none ∨ high = true) : Answers (.auxDesat x high) s (fun t =>
    t.bit .AUXH_STAT_DESAT x = true ∧ t.bit .AUX_STAT_ASHORT 0 = true ∧ t.auxc.short = some x ∧
    t.getF .AUXH_FCNT_DESAT x = min (2 ^ Fld.AUXH_FCNT_DESAT.width - 1) (s.getF .AUXH_FCNT_DESAT x + 1) ∧
    (∀ y : Fin 4, y.val < 3 → (t.aux[y]).ho = false) ∧ OnlyAux (desatKeys x) s t) := by
  have heq : s.auxDesat x high = (s.shortOf x).auxDriveAll := by
    rw [State.auxDesat]
    dsimp only
    rw [if_pos hx, if_neg]
    · rfl
    · rcases hsh with h | h
      all_goals simp [h]
  refine auxDesat_answers hok hmon ?_
  rw [heq]
  obtain ⟨hnote, hbit, hcnt⟩ := s.noteDesat_spec x
  have hdrives := (s.shortOf x).auxDriveAll_spec
  have hstep : AuxStep (desatKeys x) s (s.shortOf x) := (hnote.mem (s.noteDesat x).aux _).setF 1 (List.mem_append_left _ (mem_auxKeys x).2.2.2.2)
  have hshort : (s.shortOf x).auxc.short = some x := rfl
  have hkeep {f : Fld} (hf : f ≠ .AUX_STAT_ASHORT) (i : Nat) : (s.shortOf x).getF f i = (s.noteDesat x).getF f i := State.getF_setF_ne _ _ _ _ hf
  have hash : (s.shortOf x).getF .AUX_STAT_ASHORT 0 = 1 := State.getF_setF_same _ _ _ _
  generalize s.shortOf x = u at *
  refine ⟨?_, ?_, by rw [hdrives.1.auxc, hshort], ?_, fun y hy => (hdrives.2 y).1 (u.auxWant_short y hy (by rw [hshort]; rfl)),
    hstep.trans (hdrives.1.auxStep _)⟩
  · rw [State.bit, hdrives.1.getF_eq, hkeep (by decide)]
    exact hbit
  · rw [State.bit, hdrives.1.getF_eq, hash]
    rfl
  · rw [hdrives.1.getF_eq, hkeep (by decide), hcnt]

theorem auxDesat_fourth {high : Bool} (hok : s.auxOk = true) (hmon : (if high then (s.aux[x]).monH else (s.aux[x]).monL) = true) (hx : x.val = 3) :
    Answers (.auxDesat x high) s (fun t => t.bit .AUXH_STAT_DESAT x = true ∧ (t.aux[x]).dsHold = true ∧
      ((t.aux[x]).ho = false ∧ (t.aux[x]).lo = false) ∧ OnlyAux (desatKeys x) s t) := by
  refine auxDesat_answers hok hmon ?_
  rw [show s.auxDesat x high = ((s.noteDesat x).modAux x fun a => { a with dsHold := true }).auxDrive x from if_neg (by omega)]
  obtain ⟨hnote, hbit, -⟩ := s.noteDesat_spec x
  generalize s.noteDesat x = u at *
  have hset := u.modAux_same x fun a => { a with dsHold := true }
  have hstep : AuxStep (desatKeys x) s (u.modAux x fun a => { a with dsHold := true }) := hnote.mem _ _
  have hkeep (f : Fld) (i : Nat) : (u.modAux x fun a => { a with dsHold := true }).getF f i = u.getF f i := rfl
  generalize u.modAux x (fun a => { a with dsHold := true }) = v at *
  obtain ⟨hdrives, -, -⟩ := v.auxDrive_spec x
  have hoff := v.auxDrive_off x
  rw [v.auxWant_held x (by simp [hset])] at hoff
  refine ⟨?_, by rw [hdrives.2 x, hset], ⟨hoff.1 rfl, hoff.2 rfl⟩, hstep.trans (hdrives.auxStep _)⟩
  rw [State.bit, hdrives.getF_eq, hkeep]
  exact hbit

theorem auxDesat_counted (hok : s.auxOk = true) (hmon : (s.aux[x]).monL = true) (hx : x.val < 3) (hsh : s.auxc.short.isSome = true) :
    Sets (.auxDesat x false) s [(.AUXH_FCNT_DESAT, x, min (2 ^ Fld.AUXH_FCNT_DESAT.width - 1) (s.getF .AUXH_FCNT_DESAT x + 1))] := by
  have heq : s.auxDesat x false = s.countF .AUXH_FCNT_DESAT x 1 := by
    rw [State.auxDesat]
    dsimp only
    rw [if_pos hx]
    exact if_pos (by rw [hsh]; rfl)
  refine .of_setAll ?_ (writtenKeys_nodup (by simp)) (by simp only [writesFit_cons, writesFit_nil, and_true]; have := Fld.AUXH_FCNT_DESAT.one_lt; omega) rfl
  show Host.Outcome.next (if s.auxOk && (s.aux[x]).monL then s.auxDesat x false else s) = _
  rw [hok, hmon, heq]
  rfl

/-! Overrides and the link (R326, R327). -/

theorem overridden_iff (o : BitVec 2) (cmd : Bool) : overridden o.toNat cmd = true ↔ o = 2#2 ∨ (o ≠ 1#2 ∧ cmd = true) := by
  revert o cmd
  decide

theorem auxOverride_clause (h l : BitVec 2) (hok : s.auxOk = true) (hfab : s.fabBus = true) : Answers (.auxOverride x h l) s (fun t =>
    t.getF .AUXH_OVR_OVRH x = h.toNat ∧ t.getF .AUXH_OVR_OVRL x = l.toNat ∧
    ((t.aux[x]).hcmd = true ↔ s.getF .AUXH_STAT_ENST x ≠ 0 ∧ (h = 2#2 ∨ (h ≠ 1#2 ∧ (s.aux[x]).gH = true))) ∧
    ((t.aux[x]).lcmd = true ↔ s.getF .AUXH_STAT_ENST x ≠ 0 ∧ (l = 2#2 ∨ (l ≠ 1#2 ∧ (s.aux[x]).gL = true))) ∧
    ((t.aux[x]).hcmd = true → (t.aux[x]).lcmd = true → t.bit .AUXH_STAT_XCONF x = true) ∧
    OnlyAux [(.AUXH_OVR_OVRH, x), (.AUXH_OVR_OVRL, x)] s t) := by
  refine .of_guard (b := s.auxOk && s.fabBus) rfl (by rw [hok, hfab]; rfl) ?_
  rw [State.writeAuxOvr]
  have hstep : AuxStep [(.AUXH_OVR_OVRH, x.val), (.AUXH_OVR_OVRL, x.val)] s ((s.setF .AUXH_OVR_OVRH x h.toNat).setF .AUXH_OVR_OVRL x l.toNat) :=
    ((AuxStep.refl s _).setF _ (by simp)).setF _ (by simp)
  have hovrh : ((s.setF .AUXH_OVR_OVRH x h.toNat).setF .AUXH_OVR_OVRL x l.toNat).getF .AUXH_OVR_OVRH x = h.toNat := by
    rw [State.getF_setF_ne _ _ _ _ (by decide), State.getF_setF_same]
    exact Nat.mod_eq_of_lt h.isLt
  have hovrl : ((s.setF .AUXH_OVR_OVRH x h.toNat).setF .AUXH_OVR_OVRL x l.toNat).getF .AUXH_OVR_OVRL x = l.toNat := by
    rw [State.getF_setF_same]
    exact Nat.mod_eq_of_lt l.isLt
  have henst : ((s.setF .AUXH_OVR_OVRH x h.toNat).setF .AUXH_OVR_OVRL x l.toNat).getF .AUXH_STAT_ENST x = s.getF .AUXH_STAT_ENST x := by
    rw [State.getF_setF_ne _ _ _ _ (by decide), State.getF_setF_ne _ _ _ _ (by decide)]
  have haux : ((s.setF .AUXH_OVR_OVRH x h.toNat).setF .AUXH_OVR_OVRL x l.toNat).aux = s.aux := rfl
  generalize (s.setF .AUXH_OVR_OVRH x h.toNat).setF .AUXH_OVR_OVRL x l.toNat = u at *
  have hcmd := u.auxCommand_spec x
  have hcmds : u.auxCmds x = (s.getF .AUXH_STAT_ENST x != enstOff && overridden h.toNat (s.aux[x]).gH,
      s.getF .AUXH_STAT_ENST x != enstOff && overridden l.toNat (s.aux[x]).gL) := by rw [State.auxCmds, henst, hovrh, hovrl, haux]
  refine ⟨by rw [hcmd.only.getF_eq (by decide), hovrh], by rw [hcmd.only.getF_eq (by decide), hovrl], ?_, ?_, fun h1 h2 => ?_,
    hstep.trans (hcmd.only.mono _)⟩
  · rw [hcmd.hcmd, hcmds, ← overridden_iff]
    simp [enstOff]
  · rw [hcmd.lcmd, hcmds, ← overridden_iff]
    simp [enstOff]
  · exact u.auxCommand_conflict x (hcmd.hcmd ▸ h1) (hcmd.lcmd ▸ h2)

theorem auxLinkLoss_clause (hok : s.auxOk = true) : Answers .auxLinkLoss s (fun t => t.bit .AUX_STAT_LINKLOSS 0 = true ∧ t.auxc.linkDown = true ∧
    (∀ y : Fin 4, (t.aux[y]).lkHold = true ∧ (t.aux[y]).ho = false ∧ (t.aux[y]).lo = false) ∧ OnlyAux [(.AUX_STAT_LINKLOSS, 0)] s t) := by
  refine .of_guard (b := s.auxOk) rfl hok ?_
  have hstep : AuxStep [(.AUX_STAT_LINKLOSS, 0)] s { s.setF .AUX_STAT_LINKLOSS 0 1 with auxc := { s.auxc with linkDown := true } } :=
    ((AuxStep.refl s _).setF 1 (by simp)).mem s.aux _
  have hbit : ({ s.setF .AUX_STAT_LINKLOSS 0 1 with auxc := { s.auxc with linkDown := true } } : State).getF .AUX_STAT_LINKLOSS 0 = 1 :=
    s.getF_setF_same .AUX_STAT_LINKLOSS 0 1
  have hdown : ({ s.setF .AUX_STAT_LINKLOSS 0 1 with auxc := { s.auxc with linkDown := true } } : State).auxc.linkDown = true := rfl
  change (fun t : State => _) (State.auxDriveAll (forIdx (n := 4) (fun x t => t.modAux x fun a => { a with lkHold := true })
    { s.setF .AUX_STAT_LINKLOSS 0 1 with auxc := { s.auxc with linkDown := true } }))
  generalize ({ s.setF .AUX_STAT_LINKLOSS 0 1 with auxc := { s.auxc with linkDown := true } } : State) = u at *
  obtain ⟨hframe, hheld⟩ := u.eachAux fun a => { a with lkHold := true }
  generalize forIdx (n := 4) (fun x t => t.modAux x fun a => { a with lkHold := true }) u = v at *
  have hdrives := v.auxDriveAll_spec.1
  have hvauxc : v.auxc = u.auxc := by rw [hframe]
  refine ⟨?_, by rw [hdrives.auxc, hvauxc, hdown], fun y => ⟨by rw [hdrives.2 y, hheld y], ?_⟩, (hstep.trans ?_).trans (hdrives.auxStep _)⟩
  · rw [State.bit, hdrives.getF_eq, State.getF, show v.regs = u.regs by rw [hframe], ← State.getF, hbit]
    rfl
  · exact v.auxDriveAll_off y (v.auxWant_held y (by simp [hvauxc, hdown]))
  · rw [hframe]
    exact (AuxStep.refl u _).mem _ u.auxc

theorem auxLinkReturn_clause (hdown : s.auxc.linkDown = true) : Answers .auxLinkReturn s (fun t =>
    t = { s with aux := t.aux, auxc := { s.auxc with linkDown := false } } ∧ ∀ y : Fin 4, t.aux[y] = { s.aux[y] with lkHold := true }) :=
  .of_guard (b := s.auxc.linkDown) rfl hdown (State.eachAux { s with auxc := { s.auxc with linkDown := false } } fun a => { a with lkHold := true })

end

theorem auxHalfBridges : Claims.AuxHalfBridges := by
  intro x high vhv h l s
  dsimp only
  intro hok
  exact ⟨fun hfab => auxPeriodStart_clause hok hfab, fun hfab hg => auxHonMatch_clause hok hfab hg,
    fun hfab hw hoff => auxDeadTimeExpiry_clause high hok hfab hw hoff, fun hlow => bootstrapUv_clause hok hlow, bootstrapRecover_clause hok,
    vdrvUv_clause vhv hok, vdrvRecover_clause hok, auxDesatBlankEnd_clause high, fun hmon hx hsh => auxDesat_short hok hmon hx hsh,
    fun hmon hx => auxDesat_fourth hok hmon hx, fun hmon hx hsh => auxDesat_counted hok hmon hx hsh, fun hfab => auxOverride_clause h l hok hfab,
    auxLinkLoss_clause hok, auxLinkReturn_clause, .of_guard rfl⟩

/-! The core-rail regulator (R328 to R334). -/

section
variable {s : State} {p : Fin 4}

/-- The regulator regulates in a soft start and in the run. -/
theorem State.regulating_of (hrun : s.aonRuns = true) (hact : s.sstate = 1 ∨ s.sstate = 2) : s.regulating = true := by
  rw [State.regulating, hrun]
  rcases hact with h | h <;> rw [h] <;> rfl

/-- The phase in turn fires where its switch is not still on. -/
theorem State.nextPhase_of (hturn : s.vreg.next % (s.getF .VREG_CFG_NPH 0 + 1) = p.val) (hoff : s.vreg.phase[p] ≠ .high) : s.nextPhase = some p := by
  have hturn' : (s.vreg.next + 0) % (s.getF .VREG_CFG_NPH 0 + 1) = p.val := hturn
  unfold State.nextPhase
  dsimp only
  rw [List.range_succ_eq_map, List.map_cons, List.findSome?_cons, hturn', dif_pos p.isLt, if_neg hoff]

theorem vregPhaseFire_clause (hrun : s.aonRuns = true) (hact : s.sstate = 1 ∨ s.sstate = 2)
    (hturn : s.vreg.next % (s.getF .VREG_CFG_NPH 0 + 1) = p.val) (hoff : s.vreg.phase[p] ≠ .high) : Answers .vregPhaseFire s (fun t =>
    t = { s with vreg := { s.vreg with phase := s.vreg.phase.set p .high, next := (p.val + 1) % (s.getF .VREG_CFG_NPH 0 + 1) } }) := by
  refine .of_guard rfl (State.regulating_of hrun hact) ?_
  rw [State.nextPhase_of hturn hoff]
  rfl

theorem vregOnTimeEnd_clause (hrun : s.aonRuns = true) (hhigh : s.vreg.phase[p] = .high) : Answers (.vregOnTimeEnd p) s (fun t =>
    t = { s with vreg := { s.vreg with phase := s.vreg.phase.set p .low } }) :=
  .of_guard rfl hrun (if_pos hhigh)

theorem vregCurrentLimit_clause (hrun : s.aonRuns = true) (hhigh : s.vreg.phase[p] = .high) :
    SetsOn (.vregCurrentLimit p) s { s with vreg := { s.vreg with phase := s.vreg.phase.set p .low } }
      [(.VREG_CNT_ILIM, 0, min (2 ^ Fld.VREG_CNT_ILIM.width - 1) (s.getF .VREG_CNT_ILIM 0 + 1))] := by
  refine .of_setAll ?_ (writtenKeys_nodup (by simp)) (by simp only [writesFit_cons, writesFit_nil, and_true]; have := Fld.VREG_CNT_ILIM.one_lt; omega) rfl
  show Host.Outcome.next _ = _
  rw [if_pos ⟨hhigh, hrun⟩, State.phaseLow, if_pos hhigh]
  rfl

/-- One field written. -/
theorem Sets.one {c : Instr} {f : Fld} {i v : Nat} (h : exec c s = .next (s.setF f i v)) (hv : v < 2 ^ f.width) : Sets c s [(f, i, v)] :=
  .of_setAll h (List.nodup_singleton _) (by simpa using hv) rfl

theorem vregRefStep_eq (hrun : s.aonRuns = true) (hact : s.sstate = 1 ∨ s.sstate = 2) :
    exec .vregRefStep s = .next (s.setF .VREG_STAT_REF 0 (if s.getF .VREG_STAT_REF 0 < s.getF .VREG_VID_VID 0 then s.getF .VREG_STAT_REF 0 + 1
      else if s.getF .VREG_VID_VID 0 < s.getF .VREG_STAT_REF 0 then s.getF .VREG_STAT_REF 0 - 1 else s.getF .VREG_STAT_REF 0)) :=
  congrArg Host.Outcome.next (if_pos (State.regulating_of hrun hact))

theorem vidWrite_eq (vid : BitVec 8) (hrun : s.aonRuns = true) : exec (.vidWrite vid) s = .next (s.writeVid vid.toNat) :=
  congrArg Host.Outcome.next (if_pos hrun)

theorem pwrgdAssert_eq (hrun : s.aonRuns = true) (hact : s.sstate = 1 ∨ s.sstate = 2) : exec .pwrgdAssert s =
    .next (((s.setWhen (s.sstate == ssSoft) .VREG_STAT_REF 0 (s.getF .VREG_VID_VID 0)).setF .VREG_STAT_PGOOD 0 1).setF .VREG_STAT_SSTATE 0 ssRun) :=
  congrArg Host.Outcome.next (if_pos (State.regulating_of hrun hact))

theorem pwrgdAssert_run (hrun : s.aonRuns = true) (hact : s.sstate = 2) :
    Sets .pwrgdAssert s [(.VREG_STAT_PGOOD, 0, 1), (.VREG_STAT_SSTATE, 0, 2)] := by
  refine .of_setAll ?_ (writtenKeys_nodup (by simp)) (by simp; decide) rfl
  rw [pwrgdAssert_eq hrun (.inr hact), State.setWhen, if_neg (by rw [hact]; decide)]
  rfl

/-- In a soft start REF takes its target, cut to its width. -/
theorem pwrgdAssert_soft (hrun : s.aonRuns = true) (hact : s.sstate = 1) :
    Sets .pwrgdAssert s [(.VREG_STAT_REF, 0, s.getF .VREG_VID_VID 0 % 256), (.VREG_STAT_PGOOD, 0, 1), (.VREG_STAT_SSTATE, 0, 2)] := by
  refine .of_setAll ?_ (writtenKeys_nodup (by simp)) ?_ rfl
  · rw [pwrgdAssert_eq hrun (.inl hact), State.setWhen, if_pos (by rw [hact]; rfl), ← s.setF_mod .VREG_STAT_REF 0 (s.getF .VREG_VID_VID 0)]
    rfl
  · simp only [writesFit_cons, writesFit_nil, and_true, show Fld.VREG_STAT_REF.width = 8 from rfl]
    exact ⟨by omega, Fld.one_lt _, by decide⟩

theorem softStartTimeout_eq (hrun : s.aonRuns = true) (hact : s.sstate = 1 ∨ s.sstate = 2) (hpg : s.bit .VREG_STAT_PGOOD 0 = false) :
    exec .softStartTimeout s = .next s.softTimeout :=
  congrArg Host.Outcome.next (if_pos (by rw [hrun, State.regulating_of hrun hact, hpg]; rfl))

theorem softStartTimeout_hiccup (hrun : s.aonRuns = true) (hact : s.sstate = 1 ∨ s.sstate = 2) (hpg : s.bit .VREG_STAT_PGOOD 0 = false)
    (hh : s.getF .VREG_STAT_HICCUPS 0 < 8 ∨ s.sstate = 2) : SetsOn .softStartTimeout s { s with vreg := { s.vreg with phase := Vector.replicate 4 .mid } }
    [(.VREG_STAT_SSTATE, 0, 0), (.VREG_STAT_HICCUPS, 0, min (2 ^ Fld.VREG_STAT_HICCUPS.width - 1) (s.getF .VREG_STAT_HICCUPS 0 + 1))] := by
  refine .of_setAll ?_ (writtenKeys_nodup (by simp)) ?_ rfl
  · rw [softStartTimeout_eq hrun hact hpg, State.softTimeout]
    dsimp only
    rw [if_neg (by rcases hh with h | h <;> rw [ssSoft] <;> omega), State.countF, State.getF_setF_ne _ _ _ _ (by decide)]
    rfl
  · simp only [writesFit_cons, writesFit_nil, and_true]
    exact ⟨by decide, by have := Fld.VREG_STAT_HICCUPS.one_lt; omega⟩

theorem softStartTimeout_latch (hrun : s.aonRuns = true) (hact : s.sstate = 1) (hpg : s.bit .VREG_STAT_PGOOD 0 = false)
    (hh : 8 ≤ s.getF .VREG_STAT_HICCUPS 0) : SetsOn .softStartTimeout s { s with vreg := { s.vreg with phase := Vector.replicate 4 .mid } }
    [(.VREG_STAT_SSTATE, 0, 3), (.PMC_STAGE_REASON, 0, 0x10)] := by
  refine .of_setAll ?_ (writtenKeys_nodup (by simp)) (by simp only [writesFit_cons, writesFit_nil]; decide) rfl
  rw [softStartTimeout_eq hrun (.inl hact) hpg, State.softTimeout]
  dsimp only
  rw [if_pos ⟨hh, hact⟩]
  rfl

theorem hiccupEnd_clause (hrun : s.aonRuns = true) (hs : s.sstate = 0) (hh : s.getF .VREG_STAT_HICCUPS 0 ≠ 0)
    (hlat : s.bit .THERM_STAT_SHUTLAT 0 = false) : Sets .hiccupEnd s [(.VREG_STAT_SSTATE, 0, 1), (.VREG_STAT_REF, 0, 0)] := by
  refine .of_setAll (congrArg Host.Outcome.next (if_pos ?_)) (writtenKeys_nodup (by simp)) (by simp) rfl
  rw [hrun, hs, hlat, bne_iff_ne.2 hh]
  rfl

theorem syncInLost_clause (hrun : s.aonRuns = true) (hact : s.bit .VREG_STAT_SYNCACT 0 = true) :
    Sets .syncInLost s [(.VREG_STAT_SYNCACT, 0, 0), (.VREG_STAT_SYNCLOST, 0, 1)] :=
  .of_setAll (congrArg Host.Outcome.next (if_pos (by rw [hrun, hact]; rfl))) (writtenKeys_nodup (by simp)) (by simp) rfl

end

theorem regulator : Claims.Regulator := by
  intro p vid s
  dsimp only
  intro hrun
  refine ⟨fun hact hturn hoff => vregPhaseFire_clause hrun hact hturn hoff, fun hhigh => vregOnTimeEnd_clause hrun hhigh,
    fun hhigh => vregCurrentLimit_clause hrun hhigh, fun hact hlt h256 => ?_, fun hact hlt h256 => ?_, fun hlo hhi => ?_, fun hout => ?_,
    fun hact => pwrgdAssert_soft hrun hact, fun hact => pwrgdAssert_run hrun hact, .one (congrArg Host.Outcome.next (if_pos hrun)) (Fld.one_lt _),
    fun hact hpg hh => softStartTimeout_hiccup hrun hact hpg hh, fun hact hpg hh => softStartTimeout_latch hrun hact hpg hh,
    fun hs hh hlat => hiccupEnd_clause hrun hs hh hlat, fun hpg => .one (congrArg Host.Outcome.next (if_pos (by rw [hrun, hpg]; rfl))) (by simp),
    fun hact => syncInLost_clause hrun hact, fun hen => .one (congrArg Host.Outcome.next (if_pos (by rw [hrun, hen]; rfl))) (Fld.one_lt _)⟩
  · exact .one ((vregRefStep_eq hrun hact).trans (by rw [if_pos hlt])) (by rw [show Fld.VREG_STAT_REF.width = 8 from rfl]; omega)
  · exact .one ((vregRefStep_eq hrun hact).trans (by rw [if_neg (by omega), if_pos hlt])) (by rw [show Fld.VREG_STAT_REF.width = 8 from rfl]; omega)
  · exact .one ((vidWrite_eq vid hrun).trans (by rw [State.writeVid, if_pos ⟨hlo, hhi⟩])) vid.isLt
  · exact .one ((vidWrite_eq vid hrun).trans (by rw [State.writeVid, if_neg (by omega)])) (Fld.one_lt _)

/-- Settles O55: the balls of the half-bridges follow their wanted switches alone, so each event's own writes are read off; the regulator's events write lists
of fields. -/
theorem auxiliaryDriveAndRegulator : Obligations.AuxiliaryDriveAndRegulator := ⟨auxHalfBridges, regulator⟩

end Sys2Proof.Machine
end

section
/-! The front of the host commands: who is answered, the tag of a sessioned request, and the order of one session's requests (R386 to R390, R394, R395). -/
namespace Sys2Proof.Machine

-- The proofs one after another: all at once they would need more threads, and their stacks, than the check's memory holds.
set_option Elab.async false

/-! Replies. -/

section
variable (s : State) (q : Peer)

/-- A reply of class N out of a new observation. -/
theorem replyN_replies (code st : Nat) (bd : List Byte) :
    Replies { peer := q, code := code, status := st, body := bd } none s (s.noReplies.replyN q code st bd) := rfl

/-- A reply to a sessioned request, under its session's key. -/
theorem send_replies (r : Reply) : Replies r (s.keyOf r.session) s (s.noReplies.send r) := rfl

theorem sessionless_go {q : Peer} (h : s.answers q = true) (go : State → State) : s.sessionless q go = go s.noReplies := if_pos h

theorem sessionless_silent {q : Peer} (h : ¬s.answers q = true) (go : State → State) : s.sessionless q go = s.noReplies := if_neg h

end

/-! What a request with a valid tag leaves of the sessions and the locks (R389, R390, R407). -/

/-- The sessions' keys and idle times, the locks' leases and the replies apart, `u` is `s`. -/
structure Renewed (s u : State) : Prop where
  frame : u = { s with jnl := { s.jnl with sessions := u.jnl.sessions, locks := u.jnl.locks, replies := u.jnl.replies } }
  sess : ∀ id, (u.sess id).map (fun x => (x.cred, x.last)) = (s.sess id).map (fun x => (x.cred, x.last))
  locks : ∀ k, u.lockHolder k = s.lockHolder k

/-- Sessions changed one by one, their names kept, are found as before. -/
theorem find_session_map (l : List Sess) {f : Sess → Sess} (hf : ∀ x, (f x).id = x.id) (id : Nat) :
    (l.map f).find? (fun x => x.id == id) = (l.find? (fun x => x.id == id)).map f := by
  rw [List.find?_map]
  congr 2
  funext x
  rw [Function.comp, hf]

theorem getD_lock_map (v : Vector SLock 5) {f : SLock → SLock} (h0 : f {} = {}) (k : Nat) :
    (v.map f).toList.getD k {} = f (v.toList.getD k {}) := by
  rw [Vector.toList_map]
  conv_lhs => rw [← h0]
  exact List.getD_map _ _ _

/-- What a valid tag makes of a session: a key that was pending becomes its key, and its idle time begins anew. -/
def renewedSess (id tick : Nat) (pending : Bool) (y : Sess) : Sess :=
  if y.id = id then { y with key := if pending then y.newKey else y.key, newKey := if pending then none else y.newKey, seen := tick } else y

/-- The lease of a lock that the session holds begins anew. -/
def renewedLock (id due : Nat) (l : SLock) : SLock := if l.holder = some id then { l with due := due } else l

/-- A request of session `id` with a valid tag. -/
def State.renewed (s : State) (id : Nat) (pending : Bool) : State := { s with jnl := { s.jnl with
  sessions := s.jnl.sessions.map (renewedSess id s.tick pending),
  locks := s.jnl.locks.map (renewedLock id (s.tick + s.jnl.lease * 400000000)) } }

theorem renewedSess_id (id tick : Nat) (pending : Bool) (y : Sess) : (renewedSess id tick pending y).id = y.id := by
  rw [renewedSess]
  split <;> rfl

theorem State.renewed_spec (s : State) (id : Nat) (pending : Bool) : Renewed s (s.renewed id pending) := by
  refine ⟨rfl, fun j => ?_, fun k => ?_⟩
  · have hfind : (s.renewed id pending).sess j = (s.sess j).map (renewedSess id s.tick pending) := find_session_map _ (renewedSess_id _ _ _) j
    rw [hfind, Option.map_map]
    congr 1
    funext y
    rw [Function.comp, renewedSess]
    split <;> rfl
  · have hlock : (s.renewed id pending).lockHolder k = (renewedLock id _ (s.jnl.locks.toList.getD k {})).holder :=
      congrArg SLock.holder (getD_lock_map _ rfl k)
    rw [hlock, renewedLock]
    split <;> rfl

theorem State.renew_eq (s : State) (id : Nat) : s.renew id = s.renewed id false := rfl

/-- A valid tag under the pending key makes it the session's key. -/
theorem State.renew_pending (s : State) (id : Nat) :
    (s.modSess id (fun y => { y with key := y.newKey, newKey := none })).renew id = s.renewed id true := by
  have hsess : (s.jnl.sessions.map (fun x => if x.id = id then { x with key := x.newKey, newKey := none } else x)).map
      (fun x => if x.id = id then { x with seen := s.tick } else x) = s.jnl.sessions.map (renewedSess id s.tick true) := by
    rw [List.map_map]
    congr 1
    funext x
    rw [Function.comp, renewedSess]
    split
    next h => simp only [h, ↓reduceIte]
    next h => rfl
  exact congrArg (fun l => ({ s.renewed id true with jnl := { (s.renewed id true).jnl with sessions := l } } : State)) hsess

section
variable {s u : State} {r : Req} {code : Nat} {body : List Byte}

/-- The state that a request with a valid tag leaves. -/
theorem authentic_state (h : Authentic r code body s u) : ∃ x, s.sess r.session.toNat = some x ∧
    u = s.renewed r.session.toNat (!tagOk x.key (reqBytes r.session.toNat code r.seq.toNat r.peer.reqid.toNat r.notify r.rsv body) r.tag) ∧
    (tagOk x.key (reqBytes r.session.toNat code r.seq.toNat r.peer.reqid.toNat r.notify r.rsv body) r.tag = true ∨
      tagOk x.newKey (reqBytes r.session.toNat code r.seq.toNat r.peer.reqid.toNat r.notify r.rsv body) r.tag = true) := by
  obtain ⟨-, -, x, hx, htag, rfl⟩ := h
  refine ⟨x, hx, ?_, htag⟩
  dsimp only at htag ⊢
  generalize tagOk x.key _ r.tag = b at *
  cases b <;> rfl

theorem authentic_renewed (h : Authentic r code body s u) : Renewed s u := by
  obtain ⟨x, -, rfl, -⟩ := authentic_state h
  exact s.renewed_spec _ _

theorem authenticate_of_authentic (h : Authentic r code body s u) : s.noReplies.authenticate r code body = some u.noReplies := by
  obtain ⟨x, hx, rfl, htag⟩ := authentic_state h
  have hx' : s.noReplies.sess r.session.toNat = some x := hx
  rw [State.authenticate, hx']
  dsimp only
  generalize tagOk x.key _ r.tag = b at *
  cases b
  · rw [if_neg Bool.false_ne_true, if_pos (htag.resolve_left Bool.false_ne_true)]
    exact congrArg some (s.noReplies.renew_pending _)
  · rfl

/-- A request with a valid tag goes on. -/
theorem sessioned_of_authentic (h : Authentic r code body s u) (go : State → State) : s.sessioned r code body go = go u.noReplies := by
  rw [State.sessioned, h.1, if_neg (by decide), h.2.1]
  dsimp only
  rw [authenticate_of_authentic h]

theorem sessioned_of_unauthentic (h : Unauthentic r code body s) (go : State → State) :
    s.sessioned r code body go = s.noReplies.countF .JNL_CNT0_BADTAG 0 1 := by
  obtain ⟨hans, hbring, hkeys⟩ := h
  have hnone : s.noReplies.authenticate r code body = none := by
    rw [State.authenticate]
    cases hx : s.sess r.session.toNat with
    | none =>
      rw [show s.noReplies.sess r.session.toNat = none from hx]
    | some x =>
      obtain ⟨hkey, hnew⟩ := hkeys x hx
      rw [show s.noReplies.sess r.session.toNat = some x from hx]
      dsimp only
      rw [hkey, hnew]
      rfl
  rw [State.sessioned, hans, if_neg (by decide), hbring]
  dsimp only
  rw [hnone]

/-- What every sessioned request meets first. -/
theorem sessionedFront_of_sessioned {c : Instr} {go : State → State} (h : exec c s = .next (s.sessioned r code body go)) :
    SessionedFront c r code body s := by
  refine ⟨fun hans => ⟨_, h, ?_⟩, fun hans st hst => ⟨_, h, ?_⟩, fun hun => ?_⟩
  · rw [State.sessioned, hans, if_pos (by decide)]
  · rw [State.sessioned, hans, if_neg (by decide), hst]
    exact send_replies s _
  · rw [sessioned_of_unauthentic hun] at h
    refine .of_setAll (h.trans ?_) (List.nodup_singleton _) (by simp [show Fld.JNL_CNT0_BADTAG.width = 16 from rfl]) rfl
    rfl

end

/-! The order of one session's requests (R395). -/

section
variable {s u : State} {id : Nat} {q : Queued}

/-- The requests of a session that wait in the queue. -/
def JnlSt.mine (j : JnlSt) (id : Nat) : List Queued := j.queue.filter (fun x => x.session == id)

theorem inTurn_iff : InTurn id s ↔ (s.jnl.busy id || !(s.jnl.mine id).isEmpty) = false := by
  rw [InTurn, Bool.or_eq_false_iff, Bool.not_eq_false', List.isEmpty_iff, JnlSt.mine, List.filter_eq_nil_iff]
  simp

theorem submit_inTurn (h : InTurn q.session s) : s.submit q = s.serve q := by
  rw [State.submit]
  exact if_neg (by rw [inTurn_iff, JnlSt.mine] at h; simp only [h]; decide)

theorem submit_outOfTurn (h : ¬InTurn q.session s) :
    s.submit q = if 8 ≤ (s.jnl.mine q.session).length then s.turnAway q else s.modJnl (fun j => { j with queue := j.queue ++ [q] }) := by
  rw [State.submit]
  exact if_pos (by rw [inTurn_iff, Bool.not_eq_false, JnlSt.mine] at h; exact h)

/-- The turn rests on what waits alone. -/
theorem inTurn_congr (hw : u.jnl.waiting = s.jnl.waiting) (hq : u.jnl.queue = s.jnl.queue) : InTurn id u ↔ InTurn id s := by
  rw [InTurn, InTurn, JnlSt.busy, JnlSt.busy, hw, hq]

/-- A request submitted out of its turn waits, or is turned away. -/
theorem outOfTurn_of_submit {c : Instr} {busy : State → Prop} (h : exec c s = .next (u.noReplies.submit q)) (hid : q.session = id)
    (hw : u.jnl.waiting = s.jnl.waiting) (hq : u.jnl.queue = s.jnl.queue) (hbusy : busy (u.noReplies.turnAway q)) : OutOfTurn c id q busy s u := by
  subst hid
  intro hturn
  have hturn' : ¬InTurn q.session u.noReplies := fun h' => hturn ((inTurn_congr hw hq).1 h')
  have hmine : (u.noReplies.jnl.mine q.session).length = (s.jnl.queue.filter (fun x => Queued.session x == q.session)).length := by
    rw [JnlSt.mine, ← hq]
    rfl
  rw [submit_outOfTurn hturn', hmine] at h
  refine ⟨fun hlt => ⟨_, h, ?_⟩, fun hle => ⟨_, h, ?_⟩⟩
  · rw [if_neg (by omega), ← hq]
    rfl
  · rw [if_pos hle]
    exact hbusy

end

end Sys2Proof.Machine
end

section
/-! A new entry of the journal (Table 15-7). -/
namespace Sys2Proof.Machine

-- The proofs one after another: all at once they would need more threads, and their stacks, than the check's memory holds.
set_option Elab.async false

/-- The part of a list behind `p` and before `q`. -/
theorem take_drop_middle {α : Type} {l p m q : List α} (h : l = p ++ m ++ q) {k n : Nat} (hp : p.length = k) (hm : m.length = n) : (l.drop k).take n = m := by
  rw [h, List.append_assoc, List.drop_left' hp, List.take_left' hm]

/-- A body filled up to the place that an entry has for it. -/
def entryPad (b : List Byte) : List Byte := (b ++ List.replicate 188 0#8).take 188

theorem entryPad_length (b : List Byte) : (entryPad b).length = 188 := by
  rw [entryPad, List.length_take, List.length_append, List.length_replicate]
  omega

/-- The header of a new entry and its body. -/
def entryHead (s : State) (j : Nat) (r : SReq) (solo : Bool) : List Byte :=
  leBytes 8 j ++ leBytes 2 r.session ++ leBytes 2 r.code ++ leBytes 4 r.seq ++ leBytes 4 s.compact ++ leBytes 4 s.fretnum ++
    leBytes 2 r.body.length ++ leBytes 2 (b2n solo + 2 * b2n r.notify) ++ leBytes 4 0 ++ entryPad r.body

/-- The header with its check word. -/
def entryWhole (s : State) (j : Nat) (r : SReq) (solo : Bool) : List Byte := entryHead s j r solo ++ leBytes 4 (crc32c (entryHead s j r solo))

section
variable (s : State) (j : Nat) (r : SReq) (solo : Bool)

theorem entryHead_length : (entryHead s j r solo).length = 0xDC := by
  simp only [entryHead, List.length_append, leBytes_length, entryPad_length]

theorem entryWhole_length : (entryWhole s j r solo).length = 0xE0 := by
  rw [entryWhole, List.length_append, entryHead_length, leBytes_length]

theorem writeEntry_eq : s.writeEntry j r solo = (s.setList (entryAddr j) (entryWhole s j r solo)).setEntry j stAccepted rsPending [] := rfl

/-- A new entry changes its own 256 bytes alone. -/
theorem byte_writeEntry (x : Nat) (h : x < entryAddr j ∨ entryAddr j + 256 ≤ x) : (s.writeEntry j r solo).byte x = s.byte x := by
  rw [writeEntry_eq, byte_setEntry _ _ _ _ _ _ (by omega)]
  exact s.byte_setList _ _ _ (by rw [entryWhole_length]; omega)

theorem writeEntry_frame : s.writeEntry j r solo = { s with mem := (s.writeEntry j r solo).mem } := by
  rw [writeEntry_eq, setEntry_eq, State.setList_frame, State.setList_frame s]

end

section
variable {s t : State} {j : Nat} {r : SReq} {solo : Bool}

/-- The header of a new entry reads as it was written. -/
theorem readList_writeEntry (h : ∀ x, t.byte x = (s.writeEntry j r solo).byte x) : t.readList (entryAddr j) 0xE0 = entryWhole s j r solo := by
  have hbelow (x : Nat) (hx : x < entryAddr j + 0xE0) : (s.writeEntry j r solo).byte x = (s.setList (entryAddr j) (entryWhole s j r solo)).byte x := by
    rw [writeEntry_eq]
    exact byte_setEntry _ _ _ _ _ _ (.inl hx)
  have hset : (s.setList (entryAddr j) (entryWhole s j r solo)).readList (entryAddr j) (entryWhole s j r solo).length = entryWhole s j r solo :=
    State.readList_setList _ _ _
  rw [entryWhole_length] at hset
  refine Eq.trans ?_ hset
  have key : ∀ n a, a + n ≤ entryAddr j + 0xE0 → t.readList a n = (s.setList (entryAddr j) (entryWhole s j r solo)).readList a n := by
    intro n
    induction n with
    | zero => exact fun _ _ => rfl
    | succ n ih =>
      intro a ha
      rw [State.readList, State.readList, h, hbelow a (by omega), ih (a + 1) (by omega)]
  exact key _ _ (Nat.le_refl _)

/-- A field of the header. -/
theorem entField_writeEntry (h : ∀ x, t.byte x = (s.writeEntry j r solo).byte x) {p q : List Byte} {k n v : Nat}
    (hw : entryWhole s j r solo = p ++ leBytes n v ++ q) (hp : p.length = k) (hk : k + n ≤ 0xE0) (hv : v < 256 ^ n) : t.entField j k n = v := by
  rw [State.entField, State.bytes_eq, ← State.readList_slice t (entryAddr j) 0xE0 k n hk, readList_writeEntry h, take_drop_middle hw hp (leBytes_length _ _),
    leNat_leBytes hv]

/-- Where one field of the header stands in the whole. -/
theorem entryWhole_split (s : State) (j : Nat) (r : SReq) (solo : Bool) :
    (∃ q, entryWhole s j r solo = leBytes 8 j ++ leBytes 2 r.session ++ q) ∧
    (∃ q, entryWhole s j r solo = (leBytes 8 j ++ leBytes 2 r.session) ++ leBytes 2 r.code ++ q) ∧
    (∃ q, entryWhole s j r solo = (leBytes 8 j ++ leBytes 2 r.session ++ leBytes 2 r.code) ++ leBytes 4 r.seq ++ q) ∧
    (∃ p q, p.length = 0x18 ∧ entryWhole s j r solo = p ++ leBytes 2 r.body.length ++ q) ∧
    (∃ p q, p.length = 0x20 ∧ entryWhole s j r solo = p ++ entryPad r.body ++ q) := by
  refine ⟨⟨_, by simp only [entryWhole, entryHead, List.append_assoc]; rfl⟩, ⟨_, by simp only [entryWhole, entryHead, List.append_assoc]; rfl⟩,
    ⟨_, by simp only [entryWhole, entryHead, List.append_assoc]; rfl⟩,
    ⟨leBytes 8 j ++ leBytes 2 r.session ++ leBytes 2 r.code ++ leBytes 4 r.seq ++ leBytes 4 s.compact ++ leBytes 4 s.fretnum, _,
      by simp only [List.length_append, leBytes_length], by simp only [entryWhole, entryHead, List.append_assoc]; rfl⟩,
    ⟨leBytes 8 j ++ leBytes 2 r.session ++ leBytes 2 r.code ++ leBytes 4 r.seq ++ leBytes 4 s.compact ++ leBytes 4 s.fretnum ++ leBytes 2 r.body.length ++
      leBytes 2 (b2n solo + 2 * b2n r.notify) ++ leBytes 4 0, _, by simp only [List.length_append, leBytes_length],
      by simp only [entryWhole, entryHead, List.append_assoc]; rfl⟩⟩

/-- The status of an entry reads as it was written, its check word too. -/
theorem readStatus_setEntry {st result : Nat} {rdata : List Byte} (h : ∀ x, t.byte x = (s.setEntry j st result rdata).byte x) :
    t.readList (entryAddr j + 0xE0) 32 = statusBytes st result rdata ++ leBytes 4 (crc32c (statusBytes st result rdata)) := by
  rw [State.readList_congr h, setEntry_eq, ← statusWhole_length st result rdata]
  exact State.readList_setList _ _ _

theorem statusOk_setEntry {st result : Nat} {rdata : List Byte} (h : ∀ x, t.byte x = (s.setEntry j st result rdata).byte x) : t.statusOk j = true := by
  have hslice (k n : Nat) (hk : k + n ≤ 32) := t.readList_slice (entryAddr j + 0xE0) 32 k n hk
  rw [readStatus_setEntry h] at hslice
  have hbytes := hslice 0 28 (by decide)
  have hcheck := hslice 28 4 (by decide)
  rw [List.drop_zero, List.take_left' (statusBytes_length _ _ _)] at hbytes
  rw [List.drop_left' (statusBytes_length _ _ _), List.take_of_length_le (by rw [leBytes_length])] at hcheck
  rw [State.statusOk, beq_iff_eq, State.entField, State.bytes_eq, show entryAddr j + 0xFC = entryAddr j + 0xE0 + 28 from rfl, ← hcheck,
    leNat_leBytes (crc32c_lt _)]
  exact congrArg crc32c hbytes.symm

theorem headOk_writeEntry (h : ∀ x, t.byte x = (s.writeEntry j r solo).byte x) : t.headOk j = true := by
  have hhead := entryHead_length s j r solo
  have hslice (k n : Nat) (hk : k + n ≤ 0xE0) := t.readList_slice (entryAddr j) 0xE0 k n hk
  rw [readList_writeEntry h, entryWhole] at hslice
  have hbytes := hslice 0 0xDC (by decide)
  have hcheck := hslice 0xDC 4 (by decide)
  rw [List.drop_zero, List.take_left' hhead] at hbytes
  rw [List.drop_left' hhead, List.take_of_length_le (by rw [leBytes_length])] at hcheck
  rw [State.headOk, beq_iff_eq, State.entField, State.bytes_eq, ← hcheck, leNat_leBytes (crc32c_lt _)]
  exact congrArg crc32c hbytes.symm

theorem entLength_writeEntry (h : ∀ x, t.byte x = (s.writeEntry j r solo).byte x) (hlen : r.body.length < 256 ^ 2) :
    t.entField j 0x18 2 = r.body.length := by
  obtain ⟨p, q, hp, hsplit⟩ := (entryWhole_split s j r solo).2.2.2.1
  exact entField_writeEntry h hsplit hp (by decide) hlen

/-- The place of the body holds it, filled up. -/
theorem readBody_writeEntry (h : ∀ x, t.byte x = (s.writeEntry j r solo).byte x) : t.readList (entryAddr j + 0x20) 188 = entryPad r.body := by
  obtain ⟨p, q, hp, hsplit⟩ := (entryWhole_split s j r solo).2.2.2.2
  rw [← State.readList_slice t (entryAddr j) 0xE0 0x20 188 (by decide), readList_writeEntry h, take_drop_middle hsplit hp (entryPad_length _)]

theorem entBody_writeEntry (h : ∀ x, t.byte x = (s.writeEntry j r solo).byte x) (hlen : r.body.length ≤ 188) : t.entBody j = r.body := by
  have htake : (entryPad r.body).take r.body.length = r.body := by
    rw [entryPad, List.take_take, Nat.min_eq_left hlen, List.take_left]
  have hslice := State.readList_slice t (entryAddr j + 0x20) 188 0 r.body.length (by omega)
  rw [readBody_writeEntry h] at hslice
  have hsize : min 188 (t.entField j 0x18 2) = r.body.length := by
    rw [entLength_writeEntry h (lt_of_le_of_lt hlen (by decide)), Nat.min_eq_right hlen]
  calc t.entBody j = t.readList (entryAddr j + 0x20) r.body.length := congrArg _ hsize
    _ = (entryPad r.body).take r.body.length := hslice.symm
    _ = r.body := htake

/-- What an entry that has just been written reads. -/
theorem entry_writeEntry (h : ∀ x, t.byte x = (s.writeEntry j r solo).byte x) (hid : r.session < 256 ^ 2) (hcode : r.code < 256 ^ 2) (hseq : r.seq < 256 ^ 4)
    (hlen : r.body.length ≤ 188) : t.headOk j = true ∧ t.statusOk j = true ∧ t.entSession j = r.session ∧ t.entCode j = r.code ∧ t.entSeq j = r.seq ∧
    t.entBody j = r.body ∧ t.entState j = 0 := by
  obtain ⟨⟨q1, h1⟩, ⟨q2, h2⟩, ⟨q3, h3⟩, -⟩ := entryWhole_split s j r solo
  have hstatus : ∀ x, t.byte x = ((s.setList (entryAddr j) (entryWhole s j r solo)).setEntry j stAccepted rsPending []).byte x := h
  obtain ⟨hstate, -, -⟩ := entry_setEntry hstatus (by decide) (by decide)
  refine ⟨headOk_writeEntry h, statusOk_setEntry hstatus, entField_writeEntry h h1 (leBytes_length _ _) (by decide) hid,
    entField_writeEntry h h2 ?_ (by decide) hcode, entField_writeEntry h h3 ?_ (by decide) hseq, entBody_writeEntry h hlen, hstate⟩
  · simp only [List.length_append, leBytes_length]
  · simp only [List.length_append, leBytes_length]

end

end Sys2Proof.Machine
end

section
/-! What a class S request meets, in the order of the checks (R391, R394 to R397). -/
namespace Sys2Proof.Machine

-- The proofs one after another: all at once they would need more threads, and their stacks, than the check's memory holds.
set_option Elab.async false

section
variable {s u t : State}

/-! What the checks read stands after the tag as before it. -/

theorem Renewed.regs (h : Renewed s u) : u.regs = s.regs := by rw [h.frame]

theorem Renewed.getF_eq (h : Renewed s u) (f : Fld) (i : Nat) : u.getF f i = s.getF f i := by rw [State.getF, h.regs, State.getF]

theorem Renewed.byte_eq (h : Renewed s u) (x : Nat) : u.byte x = s.byte x := State.byte_congr (by rw [h.frame]) (by rw [h.frame]) x

theorem Renewed.head (h : Renewed s u) : u.jnl.head = s.jnl.head := by rw [h.frame]

theorem Renewed.waiting (h : Renewed s u) : u.jnl.waiting = s.jnl.waiting := by rw [h.frame]

theorem Renewed.queue (h : Renewed s u) : u.jnl.queue = s.jnl.queue := by rw [h.frame]

theorem Renewed.reclaim (h : Renewed s u) : u.jnl.reclaim = s.jnl.reclaim := by rw [h.frame]

theorem Renewed.commanding (h : Renewed s u) : u.commanding = s.commanding := by
  rw [State.commanding, State.commanding, h.getF_eq]

theorem Renewed.stageOk (h : Renewed s u) (code : Nat) : u.stageOk code = s.stageOk code := by
  rw [State.stageOk, State.stageOk, State.stage, State.stage, h.getF_eq]

theorem Renewed.unitBad (h : Renewed s u) (code : Nat) (body : List Byte) : u.unitBad code body = s.unitBad code body := by
  have heng : u.engOk = s.engOk := by
    funext n
    rw [h.frame]
    rfl
  rw [State.unitBad, State.unitBad, heng]

theorem Renewed.last (h : Renewed s u) (id : Nat) : ((u.sess id).getD { id := 0, cred := 0 }).last = ((s.sess id).getD { id := 0, cred := 0 }).last := by
  have hs := h.sess id
  cases hu : u.sess id <;> cases hx : s.sess id <;> rw [hu, hx] at hs
  · cases hs
  · cases hs
  · exact congrArg Prod.snd (Option.some.inj hs)

theorem Renewed.profile (h : Renewed s u) (id b : Nat) : u.profile id b = s.profile id b := by
  have hs := h.sess id
  have hcred : u.cred = s.cred := by
    funext n
    rw [h.frame]
    rfl
  rw [State.profile, State.profile, hcred]
  generalize u.sess id = a at hs
  generalize s.sess id = b at hs
  cases a <;> cases b
  · rfl
  · cases hs
  · cases hs
  next x y =>
    have hc : x.cred = y.cred := congrArg Prod.fst (Option.some.inj hs)
    dsimp only
    rw [hc]

theorem Renewed.profileOk (h : Renewed s u) (id code : Nat) (body : List Byte) : u.profileOk id code body = s.profileOk id code body := by
  have hp : u.profile = s.profile := by
    funext a b
    exact h.profile a b
  rw [State.profileOk, State.profileOk, hp]

theorem Renewed.lockBad (h : Renewed s u) (id : Nat) (k : Option Nat) : u.lockBad id k = s.lockBad id k := by
  have hl : u.lockHolder = s.lockHolder := funext h.locks
  have he : u.jnl.expiring = s.jnl.expiring := by
    funext k
    rw [JnlSt.expiring, JnlSt.expiring, h.waiting]
  cases k with
  | none => rfl
  | some k => simp only [State.lockBad, hl, he]

/-! The entries of the journal in two states with one memory. -/

theorem entField_congr (h : ∀ x, u.byte x = s.byte x) (j o k : Nat) : u.entField j o k = s.entField j o k := by
  rw [State.entField, State.entField, State.bytes_eq, State.bytes_eq, State.readList_congr h]

theorem findEntry_congr (h : ∀ x, u.byte x = s.byte x) (id seq : Nat) : ∀ k hi, u.findEntry id seq k hi = s.findEntry id seq k hi := by
  intro k
  induction k with
  | zero => exact fun _ => rfl
  | succ k ih =>
    intro hi
    rw [State.findEntry, State.findEntry, State.entSession, State.entSeq, entField_congr h, entField_congr h, ih]
    rfl

theorem entBody_congr (h : ∀ x, u.byte x = s.byte x) (j : Nat) : u.entBody j = s.entBody j := by
  rw [State.entBody, State.entBody, entField_congr h, State.readList_congr h]

theorem entBytes_congr (h : ∀ x, u.byte x = s.byte x) (j : Nat) : u.entBytes j = s.entBytes j := by
  rw [State.entBytes, State.entBytes, State.readList_congr h]

theorem queueMir_entBytes (s : State) (f : MirFrame) (j : Nat) : (s.queueMir f).entBytes j = s.entBytes j := by
  have h (x : Nat) : (s.queueMir f).byte x = s.byte x := rfl
  rw [entBytes_congr h]

theorem Renewed.entryOf (h : Renewed s u) (id seq : Nat) : u.entryOf id seq = s.entryOf id seq := by
  rw [State.entryOf, State.entryOf, h.head, h.waiting, findEntry_congr h.byte_eq]

/-- A new observation changes nothing that the checks read. -/
theorem Renewed.noReplies (h : Renewed s u) : Renewed s u.noReplies := ⟨congrArg State.noReplies h.frame, h.sess, h.locks⟩

end

/-! The evaluation of a request. -/

/-- How far a request's number lies from the last one accepted of its session (R395). -/
def State.ahead (s : State) (id seq : Nat) : Int := (BitVec.ofNat 32 (seq + 2 ^ 32 - ((s.sess id).getD { id := 0, cred := 0 }).last)).toInt

/-- The last number accepted of a session. -/
def State.lastSeq (s : State) (id : Nat) : Nat := ((s.sess id).getD { id := 0, cred := 0 }).last

/-- The checks of a new request, behind its format and its number. -/
def State.evaluateNew (s : State) (r : SReq) : State :=
  if !s.stageOk r.code then s.replyS r stStage []
  else if !s.profileOk r.session r.code r.body then s.replyS r stDenied []
  else if s.unitBad r.code r.body then s.replyS r stMissing []
  else match s.lockBad r.session (lockOf r.code) with
    | some h => s.replyS r stNotHolder (leBytes 2 h)
    | none =>
      if s.getF .JNL_STAT_ENST 0 ≠ enstOn then s.replyS r stBusy []
      else if jnlDepth ≤ s.jnl.next - s.jnl.reclaim then (s.countF .JNL_CNT1_FULL 0 1).replyS r stJnlFull []
      else s.journal r false

section
variable {s u t : State} {r : SReq}

theorem State.evaluate_eq (s : State) (r : SReq) : s.evaluate r =
    if !bodyOk r.code r.body then s.replyS r stBadFormat []
    else if 2 ≤ s.ahead r.session r.seq then (s.countF .JNL_CNT0_NEEDSEQ 0 1).replyS r stNeedSeq (leBytes 4 (s.lastSeq r.session + 1))
    else if s.ahead r.session r.seq ≤ 0 then s.duplicate r
    else s.evaluateNew r := rfl

theorem evaluate_bad (h : ¬bodyOk r.code r.body = true) : s.evaluate r = s.replyS r stBadFormat [] := by
  rw [s.evaluate_eq, if_pos (by simpa using h)]

theorem evaluate_ahead (hf : bodyOk r.code r.body = true) (h : 2 ≤ s.ahead r.session r.seq) :
    s.evaluate r = (s.countF .JNL_CNT0_NEEDSEQ 0 1).replyS r stNeedSeq (leBytes 4 (s.lastSeq r.session + 1)) := by
  rw [s.evaluate_eq, hf, if_neg (by decide), if_pos h]

theorem evaluate_behind (hf : bodyOk r.code r.body = true) (h : s.ahead r.session r.seq ≤ 0) : s.evaluate r = s.duplicate r := by
  rw [s.evaluate_eq, hf, if_neg (by decide), if_neg (by omega), if_pos h]

theorem evaluate_next (hf : bodyOk r.code r.body = true) (h : s.ahead r.session r.seq = 1) : s.evaluate r = s.evaluateNew r := by
  rw [s.evaluate_eq, hf, if_neg (by decide), if_neg (by omega), if_neg (by omega)]

/-- The body of a class S command fits an entry. -/
theorem bodyOk_length {code : Nat} {b : List Byte} (h : bodyOk code b = true) : b.length ≤ 188 := by
  rw [bodyOk] at h
  split_ifs at h
  all_goals
    simp only [beq_iff_eq, Bool.and_eq_true, decide_eq_true_eq] at h
    omega

/-! The replies that count. -/

/-- A counted reply: beside the reply the one counter moves. -/
theorem counted_reply (rep : Reply) {f : Fld} (hregs : u.regs = s.regs) (hf : f ≠ .HP_PRP_EN) (hw : f.width = 16) :
    let t := (u.noReplies.countF f 0 1).send rep
    Replies rep (u.keyOf rep.session) u { t with regs := u.regs } ∧ t.getF f 0 = min 65535 (s.getF f 0 + 1) ∧ RegsBut s t [(f, 0)] := by
  have hjoined : (u.noReplies.countF f 0 1).joined rep.peer.port = u.joined rep.peer.port := by
    rw [State.joined, State.joined, State.bit, State.bit, State.getF_countF_ne _ _ _ _ hf.symm]
    rfl
  have hget (g : Fld) (i : Nat) : u.getF g i = s.getF g i := by rw [State.getF, hregs, State.getF]
  have hcount : (u.noReplies.countF f 0 1).getF f 0 = min 65535 (s.getF f 0 + 1) := by
    rw [State.getF_countF_same, hw, ← hget]
    rfl
  have hbut : RegsBut s (u.noReplies.countF f 0 1) [(f, 0)] := fun g i hg =>
    (((RegsBut.refl u.noReplies [(f, 0)]).setF _ (by simp)) g i hg).trans (hget g i)
  have hsend : (u.noReplies.countF f 0 1).send rep = { u with
      regs := (u.noReplies.countF f 0 1).regs, jnl := { u.jnl with replies := [Tagged u rep (u.keyOf rep.session)] } } := by
    rw [State.send, State.sendAs, hjoined]
    rfl
  dsimp only
  rw [hsend]
  exact ⟨rfl, hcount, hbut⟩

end

/-! Class S. -/

theorem classS_exec {r : Req} {c : Instr} {code : Nat} {body : List Byte} (h : ClassS r c code body) (s : State) : exec c s = .next (s.request r code body) := by
  rcases h with ⟨rfl, rfl, rfl⟩ | ⟨k, rfl, rfl, rfl⟩ | ⟨k, kb, rfl, rfl, rfl⟩ | ⟨rfl, rfl⟩ | ⟨rfl, rfl, rfl⟩ | ⟨pid, v, rfl, rfl, rfl⟩ | ⟨w, rfl, rfl, rfl⟩ |
    ⟨w, m, v, rfl, rfl, rfl⟩ | ⟨rfl, rfl⟩ | ⟨w, rfl, rfl, rfl⟩ | ⟨rfl, rfl, rfl⟩ | ⟨rfl, rfl, rfl⟩ | ⟨w, v, rfl, rfl, rfl⟩ | ⟨rfl, rfl, rfl⟩ <;> rfl

theorem classS_code {r : Req} {c : Instr} {code : Nat} {body : List Byte} (h : ClassS r c code body) : code < 256 ^ 2 := by
  rcases h with ⟨-, rfl, -⟩ | ⟨k, -, rfl, -⟩ | ⟨k, kb, -, rfl, -⟩ | ⟨-, rfl⟩ | ⟨-, rfl, -⟩ | ⟨pid, v, -, rfl, -⟩ | ⟨w, -, rfl, -⟩ |
    ⟨w, m, v, -, rfl, -⟩ | ⟨-, rfl⟩ | ⟨w, -, rfl, -⟩ | ⟨-, rfl, -⟩ | ⟨-, rfl, -⟩ | ⟨w, v, -, rfl, -⟩ | ⟨-, rfl, -⟩ <;> decide

/-- A new entry waits for its commit, and goes to the twin of a mirroring device. -/
theorem journal_eq (s : State) (r : SReq) : let t := s.journal r false
    t = { s with mem := (s.writeEntry s.jnl.next r (s.bit .JNL_STAT_SOLO 0)).mem, jnl := { s.jnl with
      mirror := s.jnl.mirror ++ (if s.role = 3 ∧ s.mirUp = true then [.jnl (t.readList (entryAddr s.jnl.next) 256)] else []),
      waiting := s.jnl.waiting ++ [{ jidx := s.jnl.next, req := r, since := s.tick }] } } := by
  have hmirrors : s.mirrors = true ↔ s.role = 3 ∧ s.mirUp = true := by
    rw [State.mirrors, Bool.and_eq_true, beq_iff_eq]
    rfl
  have hentry : ((s.writeEntry s.jnl.next r (s.bit .JNL_STAT_SOLO 0)).modJnl fun j =>
      { j with waiting := j.waiting ++ [{ jidx := s.jnl.next, req := r, acked := false, since := s.tick }] }) =
      { s with mem := (s.writeEntry s.jnl.next r (s.bit .JNL_STAT_SOLO 0)).mem, jnl := { s.jnl with
        waiting := s.jnl.waiting ++ [{ jidx := s.jnl.next, req := r, since := s.tick }] } } := by
    rw [writeEntry_frame]
    rfl
  dsimp only
  rw [State.journal, hentry]
  generalize (s.writeEntry s.jnl.next r (s.bit .JNL_STAT_SOLO 0)).mem = m
  by_cases hm : s.mirrors = true
  · rw [if_pos (hmirrors.1 hm), if_pos hm]
    refine Eq.trans (b := { s with mem := m, jnl := { s.jnl with
      mirror := s.jnl.mirror ++ [.jnl (State.entBytes _ s.jnl.next)],
      waiting := s.jnl.waiting ++ [{ jidx := s.jnl.next, req := r, since := s.tick }] } }) rfl ?_
    rw [← State.entBytes, queueMir_entBytes]
  · rw [if_neg (fun h => hm (hmirrors.2 h)), if_neg hm, List.append_nil]

section
variable {s u : State} {r : Req} {c : Instr} {code : Nat} {body : List Byte}

/-- The request as the journal takes it. -/
def sReqOf (r : Req) (code : Nat) (body : List Byte) : SReq := ⟨r.peer, r.session.toNat, r.seq.toNat, r.notify, code, body⟩

theorem classS_submit (hc : ClassS r c code body) (h : Authentic r code body s u) : exec c s = .next (u.noReplies.submit (.seq (sReqOf r code body))) :=
  (classS_exec hc s).trans (congrArg Host.Outcome.next (sessioned_of_authentic h _))

/-- A request in its turn is evaluated by a device that commands. -/
theorem classS_evaluate (hc : ClassS r c code body) (h : Authentic r code body s u) (hcmd : s.commanding = true) (ht : InTurn r.session.toNat s) :
    exec c s = .next (u.noReplies.evaluate (sReqOf r code body)) := by
  have hr := (authentic_renewed h).noReplies
  rw [classS_submit hc h, submit_inTurn (q := .seq (sReqOf r code body)) ((inTurn_congr hr.waiting hr.queue).2 ht), State.serve,
    hr.commanding, if_pos hcmd]

theorem classS_idle (hc : ClassS r c code body) (h : Authentic r code body s u) (hcmd : s.commanding = false) (ht : InTurn r.session.toNat s) :
    exec c s = .next u.noReplies := by
  have hr := (authentic_renewed h).noReplies
  rw [classS_submit hc h, submit_inTurn (q := .seq (sReqOf r code body)) ((inTurn_congr hr.waiting hr.queue).2 ht), State.serve,
    hr.commanding, hcmd, if_neg Bool.false_ne_true]

/-- The reply of class S with a status and a body. -/
def sReply (r : Req) (code st : Nat) (bd : List Byte) : Reply :=
  { peer := r.peer, session := r.session.toNat, code := code, seq := r.seq.toNat, status := st, body := bd }

theorem replyS_eq (t : State) (st : Nat) (bd : List Byte) : t.replyS (sReqOf r code body) st bd = t.send (sReply r code st bd) := rfl

theorem replyS_replies (st : Nat) (bd : List Byte) :
    Replies (sReply r code st bd) (u.keyOf r.session.toNat) u (u.noReplies.replyS (sReqOf r code body) st bd) := send_replies u _

/-- A reply that is counted, and nothing else. -/
theorem counted_replyS (st : Nat) (bd : List Byte) {f : Fld} (hr : Renewed s u) (hf : f ≠ .HP_PRP_EN) (hw : f.width = 16) :
    let t := (u.noReplies.countF f 0 1).replyS (sReqOf r code body) st bd
    Replies (sReply r code st bd) (u.keyOf r.session.toNat) u { t with regs := u.regs } ∧ t.getF f 0 = min 65535 (s.getF f 0 + 1) ∧ RegsBut s t [(f, 0)] :=
  counted_reply (sReply r code st bd) hr.regs hf hw

/-! Duplicates (R396). -/

theorem countF_noReplies_byte (u : State) (f : Fld) (x : Nat) : (u.noReplies.countF f 0 1).byte x = u.byte x := rfl

/-- A duplicate whose entry is no longer in the journal. -/
theorem duplicate_none (hr : Renewed s u) (h : s.entryOf r.session.toNat r.seq.toNat = none) :
    u.noReplies.duplicate (sReqOf r code body) = (u.noReplies.countF .JNL_CNT1_DUP 0 1).replyS (sReqOf r code body) stAlready [] := by
  have h' : u.noReplies.entryOf r.session.toNat r.seq.toNat = none := (hr.noReplies.entryOf _ _).trans h
  rw [State.duplicate]
  dsimp only [sReqOf]
  rw [h']

/-- A duplicate of another request. -/
theorem duplicate_conflict (hr : Renewed s u) {j : Nat} (h : s.entryOf r.session.toNat r.seq.toNat = some j)
    (hne : ¬(s.entCode j = code ∧ s.entBody j = body)) :
    u.noReplies.duplicate (sReqOf r code body) = (u.noReplies.countF .JNL_CNT1_DUP 0 1).replyS (sReqOf r code body) stSeqConflict [] := by
  have h' : u.noReplies.entryOf r.session.toNat r.seq.toNat = some j := (hr.noReplies.entryOf _ _).trans h
  have hcode : u.noReplies.entCode j = s.entCode j := entField_congr hr.noReplies.byte_eq _ _ _
  have hbody : u.noReplies.entBody j = s.entBody j := entBody_congr hr.noReplies.byte_eq _
  rw [State.duplicate]
  dsimp only [sReqOf]
  rw [h']
  dsimp only
  rw [hcode, hbody]
  exact if_neg hne

/-- The reply that a duplicate gets again. -/
def dupReply (s : State) (r : Req) (code j : Nat) : Reply :=
  { peer := r.peer, session := r.session.toNat, code := code, seq := r.seq.toNat, dup := true, status := 0, solo := s.entField j 0x1A 2 % 2 == 1,
    result := s.entResult j, jidx := j, body := (s.entRdata j).take (if code = 0x201 ∨ code = 0x202 then 1 else 0) }

theorem duplicate_again (hr : Renewed s u) {j : Nat} (h : s.entryOf r.session.toNat r.seq.toNat = some j) (hc : s.entCode j = code) (hb : s.entBody j = body) :
    u.noReplies.duplicate (sReqOf r code body) = ((u.noReplies.countF .JNL_CNT1_DUP 0 1).noteCopy j (sReqOf r code body)).send (dupReply s r code j) := by
  have h' : u.noReplies.entryOf r.session.toNat r.seq.toNat = some j := (hr.noReplies.entryOf _ _).trans h
  have hfield (o k : Nat) : u.noReplies.entField j o k = s.entField j o k := entField_congr hr.noReplies.byte_eq _ _ _
  have hbody : u.noReplies.entBody j = s.entBody j := entBody_congr hr.noReplies.byte_eq _
  have hrdata : u.noReplies.entRdata j = s.entRdata j := State.readList_congr hr.noReplies.byte_eq _ _
  rw [State.duplicate]
  dsimp only [sReqOf]
  rw [h']
  dsimp only
  rw [State.entCode, State.entResult, hfield, hfield, hfield, hbody, hrdata]
  exact if_pos ⟨hc, hb⟩

/-- A copy of a request moves the notice to its source: its entry is not done, and one of its copies asked for a notice. -/
def CopyNotes (t : State) (j : Nat) (notify : Bool) : Prop := t.entState j ≠ 3 ∧ (notify = true ∨ ∃ e ∈ t.jnl.notify, e.1 = j)

theorem copyNotes_iff (t : State) (j : Nat) (q : SReq) :
    (t.entState j != stDone && (q.notify || t.jnl.notify.any (fun e => e.1 == j))) = true ↔ CopyNotes t j q.notify := by
  rw [Bool.and_eq_true, bne_iff_ne, Bool.or_eq_true, List.any_eq_true]
  simp only [beq_iff_eq]
  rfl

theorem noteCopy_due {t : State} {j : Nat} {q : SReq} (h : CopyNotes t j q.notify) :
    t.noteCopy j q = { t with jnl := { t.jnl with notify := (j, q.peer) :: t.jnl.notify.filter (fun e => e.1 != j) } } := by
  rw [State.noteCopy, if_pos ((copyNotes_iff t j q).2 h)]
  rfl

theorem noteCopy_undue {t : State} {j : Nat} {q : SReq} (h : ¬CopyNotes t j q.notify) : t.noteCopy j q = t := by
  rw [State.noteCopy, if_neg fun h' => h ((copyNotes_iff t j q).1 h')]

/-- What the reply to a duplicate leaves: the notices, the reply and the count. -/
theorem noteCopy_notify (t : State) (j : Nat) (q : SReq) : ∃ n, t.noteCopy j q = { t with jnl := { t.jnl with notify := n } } ∧
    (CopyNotes t j q.notify → n = (j, q.peer) :: t.jnl.notify.filter (fun e => e.1 != j)) ∧ (¬CopyNotes t j q.notify → n = t.jnl.notify) := by
  by_cases h : CopyNotes t j q.notify
  · exact ⟨_, noteCopy_due h, fun _ => rfl, fun h' => absurd h h'⟩
  · exact ⟨_, noteCopy_undue h, fun h' => absurd h' h, fun _ => rfl⟩

/-- The answer to a duplicate under its entry: the original reply, with the notice where one is due. -/
theorem duplicate_answers (hr : Renewed s u) {j : Nat} (h : s.entryOf r.session.toNat r.seq.toNat = some j) (hc : s.entCode j = code)
    (hb : s.entBody j = body) : let t := u.noReplies.duplicate (sReqOf r code body)
    (CopyNotes s j r.notify → t.jnl.notify = (j, r.peer) :: s.jnl.notify.filter (fun e => e.1 != j)) ∧
    (¬CopyNotes s j r.notify → t.jnl.notify = s.jnl.notify) ∧
    Replies (dupReply s r code j) (u.keyOf r.session.toNat) { u with jnl := { u.jnl with notify := t.jnl.notify } } { t with regs := u.regs } ∧
    t.getF .JNL_CNT1_DUP 0 = min 65535 (s.getF .JNL_CNT1_DUP 0 + 1) ∧ RegsBut s t [(.JNL_CNT1_DUP, 0)] := by
  have hnotify : u.jnl.notify = s.jnl.notify := by rw [hr.frame]
  have hstate : (u.noReplies.countF .JNL_CNT1_DUP 0 1).entState j = s.entState j :=
    entField_congr (u := u.noReplies.countF .JNL_CNT1_DUP 0 1) (s := s) hr.byte_eq _ _ _
  have hcopy : CopyNotes (u.noReplies.countF .JNL_CNT1_DUP 0 1) j r.notify ↔ CopyNotes s j r.notify := by
    rw [CopyNotes, CopyNotes, hstate, show (u.noReplies.countF .JNL_CNT1_DUP 0 1).jnl.notify = s.jnl.notify from hnotify]
  obtain ⟨n, hn, hdue, hundue⟩ := noteCopy_notify (u.noReplies.countF .JNL_CNT1_DUP 0 1) j (sReqOf r code body)
  have hcount := counted_reply (u := { u with jnl := { u.jnl with notify := n } }) (s := s) (dupReply s r code j) hr.regs
    (f := .JNL_CNT1_DUP) (by decide) rfl
  rw [duplicate_again hr h hc hb, hn]
  exact ⟨fun h' => (hdue (hcopy.2 h')).trans (by rw [← hnotify]; rfl), fun h' => (hundue fun h'' => h' (hcopy.1 h'')).trans hnotify, hcount⟩

/-! A new request (R394). -/

/-- The checks of a new request up to its unit have passed. -/
def State.passesUnit (s : State) (q : SReq) : Prop :=
  s.stageOk q.code = true ∧ s.profileOk q.session q.code q.body = true ∧ s.unitBad q.code q.body = false

section
variable {v : State} {q : SReq}

theorem evaluateNew_stage (h : ¬v.stageOk q.code = true) : v.evaluateNew q = v.replyS q stStage [] := by
  rw [State.evaluateNew, if_pos (by simpa using h)]

theorem evaluateNew_profile (h : v.stageOk q.code = true) (hp : ¬v.profileOk q.session q.code q.body = true) : v.evaluateNew q = v.replyS q stDenied [] := by
  rw [State.evaluateNew, h, if_neg (by decide), if_pos (by simpa using hp)]

theorem evaluateNew_unit (h : v.stageOk q.code = true) (hp : v.profileOk q.session q.code q.body = true) (hu : ¬v.unitBad q.code q.body = false) :
    v.evaluateNew q = v.replyS q stMissing [] := by
  rw [State.evaluateNew, h, if_neg (by decide), hp, if_neg (by decide), if_pos (by simpa using hu)]

theorem evaluateNew_lock (h : v.passesUnit q) {k : Nat} (hl : v.lockBad q.session (lockOf q.code) = some k) :
    v.evaluateNew q = v.replyS q stNotHolder (leBytes 2 k) := by
  obtain ⟨hs, hp, hu⟩ := h
  rw [State.evaluateNew, hs, if_neg (by decide), hp, if_neg (by decide), hu, if_neg (by decide), hl]

theorem evaluateNew_room (h : v.passesUnit q) (hl : v.lockBad q.session (lockOf q.code) = none) : v.evaluateNew q =
    if v.getF .JNL_STAT_ENST 0 ≠ enstOn then v.replyS q stBusy []
    else if jnlDepth ≤ v.jnl.next - v.jnl.reclaim then (v.countF .JNL_CNT1_FULL 0 1).replyS q stJnlFull []
    else v.journal q false := by
  obtain ⟨hs, hp, hu⟩ := h
  rw [State.evaluateNew, hs, if_neg (by decide), hp, if_neg (by decide), hu, if_neg (by decide), hl]

end

theorem Renewed.passesUnit (hr : Renewed s u) (q : SReq) (hs : s.stageOk q.code = true) (hp : s.profileOk q.session q.code q.body = true)
    (hu : s.unitBad q.code q.body = false) : u.passesUnit q := ⟨(hr.stageOk _).trans hs, (hr.profileOk _ _ _).trans hp, (hr.unitBad _ _).trans hu⟩

/-- What a new entry leaves: it waits for its commit, and reads as its request. -/
theorem journal_answers (hr : Renewed s u) (hcode : code < 256 ^ 2) (hb : bodyOk code body = true) : let t := u.noReplies.journal (sReqOf r code body) false
    let k := s.jnl.head + s.jnl.waiting.length
    t = { u with
      mem := t.mem,
      jnl := { u.jnl with
        replies := [], mirror := s.jnl.mirror ++ (if s.role = 3 ∧ s.mirUp = true then [.jnl (t.readList (entryAddr k) 256)] else []),
        waiting := s.jnl.waiting ++ [{ jidx := k, req := sReqOf r code body, since := s.tick }] } } ∧
    MemBut s t (entryAddr k) 256 ∧ t.headOk k = true ∧ t.statusOk k = true ∧ t.entSession k = r.session.toNat ∧ t.entCode k = code ∧
    t.entSeq k = r.seq.toNat ∧ t.entBody k = body ∧ t.entState k = 0 := by
  have hk : u.noReplies.jnl.next = s.jnl.head + s.jnl.waiting.length := by rw [JnlSt.next, hr.noReplies.head, hr.noReplies.waiting]
  have hrole : u.noReplies.role = s.role := hr.noReplies.getF_eq _ _
  have hmir : u.noReplies.mirUp = s.mirUp := congrArg (· == 1) (hr.noReplies.getF_eq .MIR_STAT_MIRUP 0)
  have hmirror : u.noReplies.jnl.mirror = s.jnl.mirror := by rw [hr.noReplies.frame]
  have htick : u.noReplies.tick = s.tick := by rw [hr.noReplies.frame]
  have heq := journal_eq u.noReplies (sReqOf r code body)
  dsimp only at heq ⊢
  rw [hk, hrole, hmir, hmirror, htick, hr.noReplies.waiting] at heq
  generalize u.noReplies.journal (sReqOf r code body) false = t at *
  generalize t.readList (entryAddr (s.jnl.head + s.jnl.waiting.length)) 256 = l at *
  have hlost : t.lost = (u.noReplies.writeEntry (s.jnl.head + s.jnl.waiting.length) (sReqOf r code body) (u.noReplies.bit .JNL_STAT_SOLO 0)).lost := by
    rw [heq, writeEntry_frame]
  have hmem : t.mem = (u.noReplies.writeEntry (s.jnl.head + s.jnl.waiting.length) (sReqOf r code body) (u.noReplies.bit .JNL_STAT_SOLO 0)).mem := by
    rw [heq]
  have hbyte := State.byte_congr hmem hlost
  refine ⟨?_, fun x hx => ?_, entry_writeEntry hbyte (by show r.session.toNat < _; omega) hcode (by show r.seq.toNat < _; omega) (bodyOk_length hb)⟩
  · rw [hmem, show u.tick = s.tick from htick]
    exact heq
  · rw [hbyte, byte_writeEntry _ _ _ _ _ (by omega)]
    exact hr.noReplies.byte_eq x

end

/-- Settles O18: the state behind the tag reads as the state before it wherever a check reads, and the checks follow one another in their order. -/
theorem sequencedRequests : Obligations.SequencedRequests := by
  intro r c code body s id last d hclass
  refine ⟨sessionedFront_of_sessioned (classS_exec hclass s), fun u hauth => ?_⟩
  have hr := authentic_renewed hauth
  have hv := hr.noReplies
  have hlast : u.noReplies.lastSeq id = last := hv.last id
  have hd : u.noReplies.ahead id r.seq.toNat = d := by rw [State.ahead, hv.last]
  have hexec (hc : s.commanding = true ∧ InTurn id s) := classS_evaluate hclass hauth hc.1 hc.2
  have hnew (hc : s.commanding = true ∧ InTurn id s) (hf : bodyOk code body = true) (h1 : d = 1) :
      exec c s = .next (u.noReplies.evaluateNew (sReqOf r code body)) :=
    (hexec hc).trans (congrArg Host.Outcome.next (evaluate_next hf (hd.trans h1)))
  have hdup (hc : s.commanding = true ∧ InTurn id s) (hf : bodyOk code body = true) (h0 : d ≤ 0) :
      exec c s = .next (u.noReplies.duplicate (sReqOf r code body)) :=
    (hexec hc).trans (congrArg Host.Outcome.next (evaluate_behind hf (hd.trans_le h0)))
  have hreply (st : Nat) (bd : List Byte) := replyS_replies (u := u) (r := r) (code := code) (body := body) st bd
  refine ⟨outOfTurn_of_submit (classS_submit hclass hauth) rfl hr.waiting hr.queue (hreply _ _), fun hc ht => ⟨_, classS_idle hclass hauth hc ht, rfl⟩,
    fun hc hf => ⟨_, hexec hc, ?_⟩, fun hc hf h2 => ⟨_, hexec hc, ?_⟩, fun hc hf h0 hn => ⟨_, hdup hc hf h0, ?_⟩, fun j hc hf h0 hj hne => ⟨_, hdup hc hf h0, ?_⟩,
    fun j hc hf h0 hj hcode hbody => ⟨_, hdup hc hf h0, duplicate_answers hr hj hcode hbody⟩, fun hc hf h1 hs => ⟨_, hnew hc hf h1, ?_⟩,
    fun hc hf h1 hs hp => ⟨_, hnew hc hf h1, ?_⟩, fun hc hf h1 hs hp hu => ⟨_, hnew hc hf h1, ?_⟩, fun h hc hf h1 hs hp hu hl => ⟨_, hnew hc hf h1, ?_⟩,
    fun hc hf h1 hs hp hu hl he => ⟨_, hnew hc hf h1, ?_⟩, fun hc hf h1 hs hp hu hl he hk => ⟨_, hnew hc hf h1, ?_⟩,
    fun hc hf h1 hs hp hu hl he hk => ⟨_, hnew hc hf h1, ?_⟩⟩
  · rw [evaluate_bad hf]
    exact hreply _ _
  · rw [evaluate_ahead hf (hd.symm ▸ h2), show (sReqOf r code body).session = id from rfl, hlast]
    exact counted_replyS _ _ hr (by decide) rfl
  · rw [duplicate_none hr hn]
    exact counted_replyS _ _ hr (by decide) rfl
  · rw [duplicate_conflict hr hj hne]
    exact counted_replyS _ _ hr (by decide) rfl
  · rw [evaluateNew_stage (q := sReqOf r code body) (by rw [hv.stageOk]; exact hs)]
    exact hreply _ _
  · rw [evaluateNew_profile (q := sReqOf r code body) (by rw [hv.stageOk]; exact hs) (by rw [hv.profileOk]; exact hp)]
    exact hreply _ _
  · rw [evaluateNew_unit (q := sReqOf r code body) (by rw [hv.stageOk]; exact hs) (by rw [hv.profileOk]; exact hp) (by rw [hv.unitBad]; exact hu)]
    exact hreply _ _
  · rw [evaluateNew_lock (hv.passesUnit (sReqOf r code body) hs hp hu) ((hv.lockBad _ _).trans hl)]
    exact hreply _ _
  · rw [evaluateNew_room (hv.passesUnit (sReqOf r code body) hs hp hu) ((hv.lockBad _ _).trans hl), if_pos (by rw [hv.getF_eq]; exact he)]
    exact hreply _ _
  · have hfull : jnlDepth ≤ u.noReplies.jnl.next - u.noReplies.jnl.reclaim := by
      rw [JnlSt.next, hv.head, hv.waiting, hv.reclaim]
      exact hk
    rw [evaluateNew_room (hv.passesUnit (sReqOf r code body) hs hp hu) ((hv.lockBad _ _).trans hl), if_neg (by rw [hv.getF_eq, he]; decide), if_pos hfull]
    exact counted_replyS _ _ hr (by decide) rfl
  · have hroom : ¬jnlDepth ≤ u.noReplies.jnl.next - u.noReplies.jnl.reclaim := by
      rw [JnlSt.next, hv.head, hv.waiting, hv.reclaim]
      exact Nat.not_le.2 hk
    rw [evaluateNew_room (hv.passesUnit (sReqOf r code body) hs hp hu) ((hv.lockBad _ _).trans hl), if_neg (by rw [hv.getF_eq, he]; decide), if_neg hroom]
    exact journal_answers hr (classS_code hclass) hf

end Sys2Proof.Machine
end

section
/-! The class U requests PING, QUERY, READ, LOG_READ, ATTEST and IMAGE_PUT (R393, R404, R479). -/
namespace Sys2Proof.Machine

-- The proofs one after another: all at once they would need more threads, and their stacks, than the check's memory holds.
set_option Elab.async false

/-! What the answers read rests on nothing of the journal's sessions. -/

section
variable (s : State) (j : JnlSt)

theorem showReg_jnl (r : Reg) (i : Nat) : ({ s with jnl := j } : State).showReg r i = s.showReg r i := by
  have hshow : ({ s with jnl := j } : State).showF = s.showF := by
    funext f i
    rfl
  rw [State.showReg, State.showReg, hshow]

theorem readSpace_jnl (rd : TimeReader) {a : Nat} (h : findReg a = none) : (({ s with jnl := j } : State).readSpace rd a).1 = (s.readSpace rd a).1 := by
  rw [State.readSpace, State.readSpace, h]
  dsimp only
  by_cases hf : 0x40058000 ≤ a ∧ a < 0x40060000
  · rw [if_pos hf, if_pos hf]
    rfl
  · rw [if_neg hf, if_neg hf]
    cases laneOff a with
    | none => rfl
    | some n =>
      obtain ⟨n, o⟩ := n
      dsimp only
      rw [show ({ s with jnl := j } : State).unitLive (.lane n) = s.unitLive (.lane n) from rfl]
      split_ifs <;> rfl

theorem readMem_jnl (a : Nat) : (({ s with jnl := j } : State).readMem a).1 = (s.readMem a).1 := by
  have hlive (n : Fin 24) : ({ s with jnl := j } : State).unitLive (.ce n) = s.unitLive (.ce n) := rfl
  have hpow : ({ s with jnl := j } : State).powered domProt = s.powered domProt := rfl
  rw [State.readMem, State.readMem]
  cases placeOf a with
  | ssm =>
    dsimp only
    rw [hpow]
    split_ifs <;> rfl
  | ceMem n off =>
    dsimp only
    rw [hlive]
    split_ifs <;> rfl
  | rom => rfl
  | mram => rfl
  | peg =>
    dsimp only
    rw [hpow]
    split_ifs <;> rfl
  | reg => rfl
  | ceReg => rfl
  | none => rfl

theorem peek_jnl (a : Nat) : ({ s with jnl := j } : State).peek a = s.peek a := by
  have hlive (r : Reg) (i : Nat) : ({ s with jnl := j } : State).regLive r i = s.regLive r i := rfl
  have hecc : ({ s with jnl := j } : State).eccAt a = s.eccAt a := rfl
  have hmem := readMem_jnl s j a
  have hspace (h : findReg a = none) := readSpace_jnl s j .other h
  have hsec (r : Reg) (h : r = .TIME_SECH ∨ r = .TIME_SECL) (i : Nat) :
      (({ s with jnl := j } : State).readReg .other r i).1 = (s.readReg .other r i).1 := by
    rcases h with rfl | rfl
    all_goals
      rw [State.readReg, State.readReg, hlive]
      split_ifs <;> rfl
  rw [State.peek, State.peek]
  generalize findReg a = o at *
  split
  case h_3 => rw [hecc, hmem]
  all_goals
    split
    · rfl
    · exact hsec _ (.inl rfl) _
    · exact hsec _ (.inr rfl) _
    · rw [hlive, showReg_jnl]
    · exact hspace rfl

theorem certificate_jnl : ({ s with jnl := j } : State).certificate = s.certificate := by
  have hb (x : Nat) : ({ s with jnl := j } : State).byte x = s.byte x := rfl
  rw [State.certificate, State.certificate, State.objectAt, State.objectAt, State.word_congr hb, State.readList_congr hb]

theorem reportLen_jnl : ({ s with jnl := j } : State).reportLen = s.reportLen := by
  rw [State.reportLen, State.reportLen, certificate_jnl]

theorem reportPayload_jnl (nonce : List Byte) : ({ s with jnl := j } : State).reportPayload nonce = s.reportPayload nonce := by
  have hstage : ({ s with jnl := j } : State).stage = s.stage := rfl
  have hmin : ({ s with jnl := j } : State).minimal = s.minimal := rfl
  have hget (f : Fld) : ({ s with jnl := j } : State).getF f 0 = s.getF f 0 := rfl
  have hfret : ({ s with jnl := j } : State).fretnum = s.fretnum := rfl
  rw [State.reportPayload, State.reportPayload, showReg_jnl s j .SER_PCRC, showReg_jnl s j .DBG_STAT, showReg_jnl s j .SEC_TAMP, hstage, hmin, hget, hget, hfret]

end

/-! Class U. -/

section
variable {s u : State} {r : Req} {c : Instr} {w : UReq}

theorem Renewed.jnl (h : Renewed s u) : u = { s with jnl := u.jnl } := by
  have hj : u.jnl = { s.jnl with sessions := u.jnl.sessions, locks := u.jnl.locks, replies := u.jnl.replies } := by rw [h.frame]
  rw [hj]
  exact h.frame

theorem Renewed.peek (h : Renewed s u) (a : Nat) : u.peek a = s.peek a := by
  rw [h.jnl]
  exact peek_jnl s _ a

theorem Renewed.absentAt (h : Renewed s u) (a : Nat) : u.absentAt a = s.absentAt a := by
  rw [h.jnl]
  rfl

theorem Renewed.reportLen (h : Renewed s u) : u.reportLen = s.reportLen := by
  rw [h.jnl]
  exact reportLen_jnl s _

theorem Renewed.certificate (h : Renewed s u) : u.certificate = s.certificate := by
  rw [h.jnl]
  exact certificate_jnl s _

theorem Renewed.reportPayload (h : Renewed s u) (nonce : List Byte) : u.reportPayload nonce = s.reportPayload nonce := by
  rw [h.jnl]
  exact reportPayload_jnl s _ nonce

/-- The reply of class U with a status and a body. -/
def uReply (r : Req) (code st : Nat) (bd : List Byte) : Reply :=
  { peer := r.peer, session := r.session.toNat, code := code, seq := r.seq.toNat, status := st, body := bd }

theorem replyU_replies (code st : Nat) (bd : List Byte) :
    Replies (uReply r code st bd) (u.keyOf r.session.toNat) u (u.noReplies.replyU r code st bd) := send_replies u _

/-- What every class U request meets first. -/
theorem unsequenced_front (h : exec c s = .next (s.unsequenced r w)) : SessionedFront c r w.code (w.body r) s ∧
    (Authentic r w.code (w.body r) s u →
      OutOfTurn c r.session.toNat (.unseq r w) (Replies (uReply r w.code 0x14 []) (u.keyOf r.session.toNat) u) s u) := by
  refine ⟨sessionedFront_of_sessioned h, fun hauth => ?_⟩
  have hr := authentic_renewed hauth
  exact outOfTurn_of_submit (h.trans (congrArg Host.Outcome.next (sessioned_of_authentic hauth _))) rfl hr.waiting hr.queue (replyU_replies _ _ _)

/-- A class U request in its turn is answered. -/
theorem unsequenced_answer (h : exec c s = .next (s.unsequenced r w)) (hauth : Authentic r w.code (w.body r) s u) (ht : InTurn r.session.toNat s) :
    exec c s = .next (u.noReplies.answerU r w) := by
  have hr := (authentic_renewed hauth).noReplies
  rw [h, State.unsequenced, sessioned_of_authentic hauth, submit_inTurn (q := .unseq r w) ((inTurn_congr hr.waiting hr.queue).2 ht)]
  rfl

theorem viewed_go (code : Nat) (go : State → State) (h : s.profile r.session.toNat 0 = true) : s.viewed r code go = go s := if_pos h

theorem viewed_denied (code : Nat) (go : State → State) (h : ¬s.profile r.session.toNat 0 = true) : s.viewed r code go = s.replyU r code stDenied [] :=
  if_neg h

/-! QUERY (R404). -/

theorem queryEntry_held {j : Nat} (h : j < s.jnl.head ∧ s.jnl.next ≤ j + 65536) :
    s.queryEntry r j = s.replyU r 0x101 0 (leBytes 1 (s.entState j) ++ leBytes 1 (s.entResult j) ++ s.entRdata j) := if_pos (decide_eq_true h)

theorem queryEntry_gone {j : Nat} (h : ¬(j < s.jnl.head ∧ s.jnl.next ≤ j + 65536)) : s.queryEntry r j = s.replyU r 0x101 1 [] :=
  if_neg (by rw [State.entryHeld, decide_eq_true_eq]; exact h)

end

/-! The bytes of the firmware buffer that have been put again (R393). -/

/-- An area is lost after a put where it was lost before and lies outside what was put. -/
theorem mem_putFw (j : JnlSt) (a b x : Nat) : (∃ e ∈ (j.putFw a b).fwLost, e.1 ≤ x ∧ x < e.2) ↔
    (∃ e ∈ j.fwLost, e.1 ≤ x ∧ x < e.2) ∧ ¬(a ≤ x ∧ x < b) := by
  simp only [JnlSt.putFw, List.mem_filter, List.mem_flatMap, List.mem_cons, List.not_mem_nil, or_false, decide_eq_true_eq]
  constructor
  · rintro ⟨e, ⟨⟨p, hp, rfl | rfl⟩, -⟩, hle, hlt⟩
    · dsimp only at hle hlt
      exact ⟨⟨p, hp, hle, by omega⟩, by omega⟩
    · dsimp only at hle hlt
      exact ⟨⟨p, hp, by omega, hlt⟩, by omega⟩
  · rintro ⟨⟨p, hp, hle, hlt⟩, hout⟩
    rcases Nat.lt_or_ge x a with hxa | hxa
    · exact ⟨(p.1, min p.2 a), ⟨⟨p, hp, .inl rfl⟩, by dsimp only; omega⟩, hle, by dsimp only; omega⟩
    · exact ⟨(max p.1 b, p.2), ⟨⟨p, hp, .inr rfl⟩, by dsimp only; omega⟩, by dsimp only; omega, hlt⟩

section
variable {s u : State} {r : Req} {k : QueryKey} {nonce : List Byte} {part : Nat} {buf : Byte} {off : Nat} {data : List Byte}

theorem answerU_query (h : u.queryOk k = true) : u.answerU r (.query k) = u.viewed r 0x101 (fun t => t.query r k) := by
  rw [State.answerU]
  exact if_pos h

theorem answerU_read (a : Nat) : u.answerU r (.read a) = u.viewed r 0x102 (fun t => t.readWord r a) := rfl

theorem answerU_logRead : u.answerU r .logRead = u.viewed r 0x103 (fun t => t.freeBody.2.replyU r 0x103 0 t.freeBody.1) := rfl

theorem queryOk_seq (s : State) (sid : BitVec 16) (seq : Word) : s.queryOk (.seq sid seq) = true := rfl

theorem queryOk_jidx {j : BitVec 64} (h : j.toNat < s.jnl.head) : s.queryOk (.jidx j) = true := decide_eq_true h

theorem answer_query (hr : Renewed s u) (hk : s.queryOk k = true) (hv : s.profile r.session.toNat 0 = true) :
    u.answerU r (.query k) = u.query r k := by
  have hk' : u.queryOk k = true := by
    cases k
    · rwa [State.queryOk, hr.head]
    · rfl
  rw [answerU_query hk', viewed_go _ _ ((hr.profile _ _).trans hv)]

/-- A held entry is told. -/
theorem query_found (hr : Renewed s u) {j : Nat} (h : j < s.jnl.head ∧ s.jnl.head + s.jnl.waiting.length ≤ j + 65536) :
    u.queryEntry r j = u.replyU r 0x101 0 (leBytes 1 (s.entState j) ++ leBytes 1 (s.entResult j) ++ s.entRdata j) := by
  rw [queryEntry_held (by rw [JnlSt.next, hr.head, hr.waiting]; exact h), State.entState, State.entResult, State.entRdata, entField_congr hr.byte_eq,
    entField_congr hr.byte_eq, State.readList_congr hr.byte_eq]
  rfl

theorem query_gone (hr : Renewed s u) {j : Nat} (h : ¬(j < s.jnl.head ∧ s.jnl.head + s.jnl.waiting.length ≤ j + 65536)) :
    u.queryEntry r j = u.replyU r 0x101 1 [] := queryEntry_gone (by rw [JnlSt.next, hr.head, hr.waiting]; exact h)

theorem query_seq (hr : Renewed s u) (sid : BitVec 16) (seq : Word) : u.query r (.seq sid seq) =
    match s.entryOf sid.toNat seq.toNat with
    | some j => u.queryEntry r j
    | none => u.replyU r 0x101 1 [] := by
  rw [State.query, hr.entryOf]
  rfl

/-! ATTEST (R479). -/

theorem attestReply_bad (h : ¬(nonce.length = 32 ∧ 1384 * part < s.reportLen)) : s.attestReply r nonce part = s.replyU r 0x104 0x10 [] :=
  if_pos (by omega)

theorem attestReply_viewed (h : nonce.length = 32 ∧ 1384 * part < s.reportLen) : s.attestReply r nonce part = s.viewed r 0x104 (fun t =>
    if !t.sec.idReady then t.replyU r 0x104 0x30 []
    else (t.attested nonce).2.replyU r 0x104 0 (reportPart (t.attested nonce).1 part)) := if_neg (by omega)

theorem attested_held {p : List Byte} {n : Nat} (h : s.jnl.report = some (nonce, p, n)) : s.attested nonce = (reportObject p n ++ s.certificate, s) := by
  rw [State.attested, h]
  exact if_pos rfl

theorem attested_fresh (h : ∀ p n, s.jnl.report ≠ some (nonce, p, n)) : s.attested nonce = (reportObject (s.reportPayload nonce) s.free ++ s.certificate,
    { s with free := s.free + 1, jnl := { s.jnl with report := some (nonce, s.reportPayload nonce, s.free) } }) := by
  rw [State.attested]
  cases hrep : s.jnl.report with
  | none => rfl
  | some x =>
    obtain ⟨n, p, k⟩ := x
    exact if_neg fun hn : n = nonce => h p k (hn ▸ hrep)

/-! IMAGE_PUT (R393). -/

/-- The format of IMAGE_PUT. -/
def PutFits (buf : Byte) (off : Nat) (data : List Byte) : Prop :=
  buf.toNat ≤ 1 ∧ 1 ≤ data.length ∧ data.length ≤ 1384 ∧ off + data.length ≤ if buf = 0#8 then 0x100000 else 0x700000

theorem imagePut_bad (h : ¬PutFits buf off data) : s.imagePut r buf off data = s.replyU r 0x105 0x10 [] := by
  rw [State.imagePut]
  exact if_pos (by rw [putOk, Bool.not_eq_true', decide_eq_false_iff_not]; exact h)

theorem putOk_of_fits (h : PutFits buf off data) : putOk buf off data = true := decide_eq_true h

theorem imagePut_denied (h : PutFits buf off data) (hp : ¬s.profile r.session.toNat (if buf = 0#8 then 2 else 4) = true) :
    s.imagePut r buf off data = s.replyU r 0x105 0x20 [] := by
  rw [State.imagePut, putOk_of_fits h, if_neg (by decide)]
  exact if_pos (by rw [Bool.not_eq_true']; exact Bool.not_eq_true _ ▸ hp)

theorem imagePut_allowed (h : PutFits buf off data) (hp : s.profile r.session.toNat (if buf = 0#8 then 2 else 4) = true) :
    s.imagePut r buf off data = match s.lockBad r.session.toNat (some (if buf = 0#8 then 2 else 4)) with
      | some h => s.replyU r 0x105 0x21 (leBytes 2 h)
      | none => ((s.putList ((if buf = 0#8 then 0x10600000 else fwBase (1 - s.pmc.slot)) + off) data).modJnl
          (fun j => if buf = 0#8 then { j with imgHeld := true } else j.putFw off (off + data.length))).replyU r 0x105 0 [] := by
  rw [State.imagePut, putOk_of_fits h, if_neg (by decide), show s.profile r.session.toNat (putProfile buf) = true from hp, if_neg (by decide)]
  rfl

theorem putList_frame (s : State) (a : Nat) (l : List Byte) :
    s.putList a l = { s with mem := (s.putList a l).mem, eccBad := (s.putList a l).eccBad, eccSoft := (s.putList a l).eccSoft } := by
  rw [State.putList, State.setList_frame]
  rfl

theorem putList_byte (s : State) (a : Nat) (l : List Byte) (x : Nat) : (s.putList a l).byte x = (s.setList a l).byte x := rfl

theorem readList_putList (s : State) (a : Nat) (l : List Byte) : (s.putList a l).readList a l.length = l :=
  (State.readList_congr (putList_byte s a l) a l.length).trans (s.readList_setList a l)

/-- The journal's note of what a put brought. -/
def putNote (buf : Byte) (off : Nat) (data : List Byte) (j : JnlSt) : JnlSt := if buf = 0#8 then { j with imgHeld := true } else j.putFw off (off + data.length)

theorem putNote_eq (hbuf : buf.toNat ≤ 1) (j : JnlSt) :
    putNote buf off data j = { j with imgHeld := j.imgHeld || buf == 0#8, fwLost := (putNote buf off data j).fwLost } := by
  rw [putNote]
  by_cases h : buf = 0#8
  · subst h
    rw [if_pos rfl]
    exact congrArg (fun b => { j with imgHeld := b }) (Bool.or_true _).symm
  · rw [if_neg h, beq_eq_false_iff_ne.2 h, Bool.or_false]
    rfl

/-- What an accepted put leaves. -/
theorem imagePut_answers (hr : Renewed s u) {a : Nat} (hbuf : buf.toNat ≤ 1) :
    let t := ((u.noReplies.putList a data).modJnl (putNote buf off data)).replyU r 0x105 0 []
    t.readList a data.length = data ∧ MemBut s t a data.length ∧
    Replies (uReply r 0x105 0 []) (u.keyOf r.session.toNat) { u with
      mem := t.mem, eccBad := t.eccBad, eccSoft := t.eccSoft, jnl := { u.jnl with imgHeld := s.jnl.imgHeld || buf == 0#8, fwLost := t.jnl.fwLost } } t ∧
    (buf = 0#8 → t.jnl.fwLost = s.jnl.fwLost) ∧
    (buf = 1#8 → ∀ x, (∃ e ∈ t.jnl.fwLost, e.1 ≤ x ∧ x < e.2) ↔
      (∃ e ∈ s.jnl.fwLost, e.1 ≤ x ∧ x < e.2) ∧ ¬(off ≤ x ∧ x < off + data.length)) := by
  have hlost : u.jnl.fwLost = s.jnl.fwLost := by rw [hr.frame]
  have himg : u.jnl.imgHeld = s.jnl.imgHeld := by rw [hr.frame]
  have hread := readList_putList u.noReplies a data
  have hbut (x : Nat) (hx : x < a ∨ a + data.length ≤ x) : (u.noReplies.putList a data).byte x = u.byte x := State.byte_setList _ _ _ _ hx
  have hframe := putList_frame u.noReplies a data
  generalize u.noReplies.putList a data = p at *
  have hj : p.jnl = u.noReplies.jnl := by rw [hframe]
  have hkey : (p.modJnl (putNote buf off data)).keyOf r.session.toNat = u.keyOf r.session.toNat := by
    rw [State.keyOf, State.modJnl, hj, putNote_eq hbuf]
    rfl
  have heq : (p.modJnl (putNote buf off data)).replyU r 0x105 0 [] = { u with
      mem := p.mem, eccBad := p.eccBad, eccSoft := p.eccSoft, jnl := { u.jnl with
        imgHeld := u.jnl.imgHeld || buf == 0#8, fwLost := (putNote buf off data u.noReplies.jnl).fwLost,
        replies := [Tagged u (uReply r 0x105 0 []) (u.keyOf r.session.toNat)] } } := by
    rw [State.replyU, State.send, hkey, State.modJnl, hj, putNote_eq hbuf, hframe]
    rfl
  have hplost : p.lost = u.lost := by rw [hframe]; rfl
  have hbyte (x : Nat) : ((p.modJnl (putNote buf off data)).replyU r 0x105 0 []).byte x = p.byte x :=
    State.byte_congr (by rw [heq]) (by rw [heq, hplost]) x
  refine ⟨(State.readList_congr hbyte _ _).trans hread, fun x hx => (hbyte x).trans ((hbut x hx).trans (hr.byte_eq x)), ?_⟩
  rw [heq]
  refine ⟨?_, fun h0 => ?_, fun h1 => ?_⟩
  · rw [himg]
    rfl
  · rw [putNote, if_pos h0]
    exact hlost
  · rw [putNote, if_neg (by rw [h1]; decide), ← hlost]
    exact mem_putFw u.noReplies.jnl off (off + data.length)

end

/-- Settles O19: what the answers read is the same behind the tag as before it, and each answer is one reply. -/
theorem unsequencedRequests : Obligations.UnsequencedRequests := by
  intro r k addr nonce part buf off data s u id key view reply put att next held turn found size fits base bad may report sent whole
  have hreply (c : Instr) (code st : Nat) (bd : List Byte) (h : exec c s = .next (u.noReplies.replyU r code st bd)) :
      Answers c s (Replies (uReply r code st bd) (u.keyOf r.session.toNat) u) := ⟨_, h, replyU_replies _ _ _⟩
  refine ⟨?_, fun hauth ht => hreply _ _ _ _ (unsequenced_answer (w := .ping) rfl hauth ht), fun hauth ht => ?_, fun hauth ht => ?_,
    fun hauth ht hview => ?_, fun hauth ht hview => ?_, fun hauth ht => ?_, fun hauth ht => ?_⟩
  · exact List.forall_mem_cons.2 ⟨unsequenced_front (c := .ping r) (w := .ping) rfl,
      List.forall_mem_cons.2 ⟨unsequenced_front (c := .query r k) (w := .query k) rfl,
      List.forall_mem_cons.2 ⟨unsequenced_front (c := .readState r addr) (w := .read addr.toNat) rfl,
      List.forall_mem_cons.2 ⟨unsequenced_front (c := .logRead r) (w := .logRead) rfl,
      List.forall_mem_cons.2 ⟨unsequenced_front (c := .attest r nonce part) (w := .attest nonce part) rfl,
      List.forall_mem_cons.2 ⟨unsequenced_front (c := .imagePut r buf off data) (w := .imagePut buf off.toNat data) rfl, List.forall_mem_nil _⟩⟩⟩⟩⟩⟩
  · have hr := (authentic_renewed hauth).noReplies
    have hexec := unsequenced_answer (w := .query k) (c := .query r k) rfl hauth ht
    refine ⟨fun j hk hj => hreply _ _ _ _ ?_, fun j hk hv hj => hreply _ _ _ _ ?_, fun sid seq j hk hv he hj => hreply _ _ _ _ ?_,
      fun j hk hv hj hgone => hreply _ _ _ _ ?_, fun sid seq hk hv he => hreply _ _ _ _ ?_, fun sid seq hk hv => hreply _ _ _ _ ?_⟩
    · subst hk
      refine hexec.trans (congrArg Host.Outcome.next (if_neg ?_))
      rw [State.queryOk, hr.head, decide_eq_true_eq]
      exact Nat.not_lt.2 hj
    · subst hk
      rw [hexec, answer_query hr (queryOk_jidx hj.1) hv]
      exact congrArg Host.Outcome.next (query_found hr hj)
    · subst hk
      rw [hexec, answer_query hr (queryOk_seq s sid seq) hv, query_seq hr, he]
      exact congrArg Host.Outcome.next (query_found hr hj)
    · subst hk
      rw [hexec, answer_query hr (queryOk_jidx hj) hv]
      exact congrArg Host.Outcome.next (query_gone hr (by omega))
    · subst hk
      rw [hexec, answer_query hr (queryOk_seq s sid seq) hv, query_seq hr, he]
    · subst hk
      rw [hexec, answerU_query (queryOk_seq _ sid seq), viewed_denied _ _ (by rw [hr.profile]; exact hv)]
      rfl
  · have hr := (authentic_renewed hauth).noReplies
    have hexec := unsequenced_answer (w := .read addr.toNat) (c := .readState r addr) rfl hauth ht
    have hgo (hv : view) : exec (.readState r addr) s = .next (u.noReplies.readWord r addr.toNat) := by
      rw [hexec, answerU_read, viewed_go _ _ ((hr.profile _ _).trans hv)]
    refine ⟨fun hv ha => hreply _ _ _ _ ?_, fun hv ha => hreply _ _ _ _ ?_, fun hv => hreply _ _ _ _ ?_⟩
    · rw [hgo hv, State.readWord, hr.absentAt, ha, if_neg Bool.false_ne_true, hr.peek]
      rfl
    · rw [hgo hv, State.readWord, hr.absentAt, ha]
      rfl
    · rw [hexec, answerU_read, viewed_denied _ _ (by rw [hr.profile]; exact hv)]
      rfl
  · have hr := authentic_renewed hauth
    have hexec := unsequenced_answer (w := .logRead) (c := .logRead r) rfl hauth ht
    rw [answerU_logRead, viewed_go _ _ ((hr.noReplies.profile _ _).trans hview)] at hexec
    refine ⟨_, hexec, u.noReplies.freeBody.1, ?_⟩
    rw [show s.free = u.free by rw [hr.frame]]
    exact replyU_replies (u := { u with free := u.free + 1 }) _ _ _
  · have hr := (authentic_renewed hauth).noReplies
    have hexec := unsequenced_answer (w := .logRead) (c := .logRead r) rfl hauth ht
    rw [answerU_logRead, viewed_denied _ _ (by rw [hr.profile]; exact hview)] at hexec
    exact hreply _ _ _ _ hexec
  · have hr := authentic_renewed hauth
    have hv := hr.noReplies
    have hexec := unsequenced_answer (w := .attest nonce part) (c := .attest r nonce part) rfl hauth ht
    have hlen (hw : whole) : nonce.length = 32 ∧ 1384 * part < u.noReplies.reportLen := ⟨hw.1, hv.reportLen ▸ hw.2⟩
    have hready : u.noReplies.sec.idReady = s.sec.idReady := by rw [hv.frame]
    have hgo (hw : whole) (hview : view) : exec (.attest r nonce part) s = .next (if !s.sec.idReady then u.noReplies.replyU r 0x104 0x30 []
        else (u.noReplies.attested nonce).2.replyU r 0x104 0 (reportPart (u.noReplies.attested nonce).1 part)) := by
      rw [hexec, State.answerU, attestReply_viewed (hlen hw), viewed_go _ _ ((hv.profile _ _).trans hview), hready]
    refine ⟨fun hw => hreply _ _ _ _ ?_, fun hw hview => hreply _ _ _ _ ?_, fun hw hview hid => hreply _ _ _ _ ?_, fun p n hw hview hid hrep => ?_,
      fun hw hview hid hrep => ?_⟩
    · rw [hexec, State.answerU, attestReply_bad (by rw [hv.reportLen]; exact hw)]
    · rw [hexec, State.answerU, attestReply_viewed (hlen hw), viewed_denied _ _ (by rw [hv.profile]; exact hview)]
      rfl
    · rw [hgo hw hview, hid]
      rfl
    · have hheld : u.noReplies.attested nonce = (reportObject p n ++ s.certificate, u.noReplies) := by
        rw [attested_held (s := u.noReplies) (by rw [hv.frame]; exact hrep), hv.certificate]
      refine hreply _ _ _ _ ?_
      rw [hgo hw hview, hid, hheld]
      rfl
    · have hfresh := attested_fresh (s := u.noReplies) (nonce := nonce) (by rw [hv.frame]; exact hrep)
      rw [hv.certificate, hv.reportPayload, show u.noReplies.free = s.free by rw [hv.frame]] at hfresh
      refine ⟨_, hgo hw hview, ?_⟩
      rw [hid, hfresh]
      exact replyU_replies (u := { u with free := s.free + 1, jnl := { u.jnl with report := some (nonce, s.reportPayload nonce, s.free) } }) _ _ _
  · have hr := authentic_renewed hauth
    have hv := hr.noReplies
    have hexec : exec (.imagePut r buf off data) s = .next (u.noReplies.imagePut r buf off.toNat data) :=
      unsequenced_answer (w := .imagePut buf off.toNat data) rfl hauth ht
    have hbase : (if buf = 0#8 then 0x10600000 else fwBase (1 - u.noReplies.pmc.slot)) + off.toNat = base := by rw [hv.frame]
    refine ⟨fun hf => hreply _ _ _ _ ?_, fun hf hp => hreply _ _ _ _ ?_, fun h hf hp hl => hreply _ _ _ _ ?_, fun hf hp hl => ?_⟩
    · rw [hexec, imagePut_bad hf]
    · rw [hexec, imagePut_denied hf (by rw [hv.profile]; exact hp)]
    · rw [hexec, imagePut_allowed hf ((hv.profile _ _).trans hp), hv.lockBad, show s.lockBad r.session.toNat _ = some h from hl]
    · have hput : u.noReplies.imagePut r buf off.toNat data =
          ((u.noReplies.putList base data).modJnl (putNote buf off.toNat data)).replyU r 0x105 0 [] := by
        rw [imagePut_allowed hf ((hv.profile _ _).trans hp), hv.lockBad, show s.lockBad r.session.toNat _ = none from hl, hbase]
        rfl
      exact ⟨_, hexec.trans (congrArg Host.Outcome.next hput), imagePut_answers hr hf.1⟩

end Sys2Proof.Machine
end

section
/-! What a warm reset leaves (R24, R40, R162, R390, R393, R439). -/
namespace Sys2Proof.Machine

-- The proofs one after another: all at once they would need more threads, and their stacks, than the check's memory holds.
set_option Elab.async false

/-- What every step of a list keeps and one step of it establishes holds after the list. -/
theorem foldl_establish {α : Type} {P : State → Prop} {f : State → α → State} {l : List α} {d : α} (hd : d ∈ l) (hkeep : ∀ t e, P t → P (f t e))
    (hset : ∀ t, P (f t d)) (s : State) : P (l.foldl f s) := by
  induction l generalizing s with
  | nil => exact absurd hd List.not_mem_nil
  | cons x l ih =>
    rcases List.mem_cons.1 hd with rfl | hd
    · exact List.foldlRecOn l _ (hset s) fun t ht e _ => hkeep t e ht
    · exact ih hd _

/-! Fields that return to their reset values. -/

theorem State.getF_resetFields (s : State) (p : Fld → Nat → Bool) (f : Fld) (i : Nat) :
    (s.resetFields p).getF f i = if p f (i % 1024) then f.spec.rst else s.getF f i := by
  have hidx : f.key i % 1024 = i % 1024 := by
    rw [Fld.key]
    omega
  refine (Store.get_keep s.regs (fun k => !p (Fld.ofNat (k / 1024)) (k % 1024)) (f.key i) f.spec.rst).trans ?_
  rw [Fld.ofNat_key, hidx]
  cases p f (i % 1024) <;> rfl

/-! The units of a domain reset. -/

/-- The fields that the reset of a domain's units may write. -/
def unitResetKeys : List (Fld × Nat) :=
  (List.range 8).map (fun n => (Fld.TOUT_CTRL_ENST, n)) ++ [(.AUX_STAT_VDRVUV, 0), (.AUX_STAT_VHVUV, 0)]

/-- What the reset of a domain's units leaves. -/
structure UnitsReset (s t : State) : Prop where
  mem : t.mem = s.mem
  lost : t.lost = s.lost
  free : t.free = s.free
  jnl : t.jnl = s.jnl
  clock : t.clock = s.clock
  vreg : t.vreg = s.vreg
  ser : t.ser = s.ser
  sec : t.sec = s.sec
  pmc : t.pmc = s.pmc
  variant : t.variant = s.variant
  low : t.auxc.vdLow = s.auxc.vdLow ∧ t.auxc.vhLow = s.auxc.vhLow
  regs : RegsBut s t unitResetKeys

namespace UnitsReset

theorem refl (s : State) : UnitsReset s s := ⟨rfl, rfl, rfl, rfl, rfl, rfl, rfl, rfl, rfl, rfl, ⟨rfl, rfl⟩, .refl s _⟩

theorem trans {s t u : State} (h : UnitsReset s t) (h' : UnitsReset t u) : UnitsReset s u :=
  ⟨h'.mem.trans h.mem, h'.lost.trans h.lost, h'.free.trans h.free, h'.jnl.trans h.jnl, h'.clock.trans h.clock, h'.vreg.trans h.vreg, h'.ser.trans h.ser,
    h'.sec.trans h.sec, h'.pmc.trans h.pmc, h'.variant.trans h.variant, ⟨h'.low.1.trans h.low.1, h'.low.2.trans h.low.2⟩, h.regs.trans h'.regs⟩

theorem setF {s t : State} (h : UnitsReset s t) {f : Fld} {i : Nat} (v : Nat) (hm : (f, i) ∈ unitResetKeys) : UnitsReset s (t.setF f i v) :=
  ⟨h.mem, h.lost, h.free, h.jnl, h.clock, h.vreg, h.ser, h.sec, h.pmc, h.variant, h.low, h.regs.setF v hm⟩

end UnitsReset

/-- The engines and the lanes of a domain reset. -/
def State.resetCells (s : State) (d : Nat) : State := { s with
  ce := s.ce.mapFinIdx (fun n e _ => if domEngine d n then e.powerReset else e),
  lanes := s.lanes.mapFinIdx (fun n l _ => if domLane d n then { ({} : LaneSt) with level := l.level, lastEdge := l.lastEdge, phil := l.phil } else l) }

/-- The state fields of the timed outputs. -/
def enstKeys : List (Fld × Nat) := (List.range 8).map (fun n => (Fld.TOUT_CTRL_ENST, n))

/-- The timed outputs go OFF. -/
def State.toutsOff (s : State) : State := forIdx (n := 8) (fun n t => t.setF .TOUT_CTRL_ENST n enstOff) s

theorem toutsOff_spec (s : State) : OnlyRegs s s.toutsOff enstKeys := by
  refine List.foldlRecOn (motive := fun t : State => OnlyRegs s t enstKeys) _ _ (.refl s _) fun t ht n _ => ht.setF _ ?_
  revert n
  decide

/-- The auxiliary drive shows at its flags what stands at its pins. -/
def SupplyShown (t : State) : Prop := t.bit .AUX_STAT_VDRVUV 0 = t.auxc.vdLow ∧ t.bit .AUX_STAT_VHVUV 0 = t.auxc.vhLow

/-- The auxiliary drive reset, the supplies at its pins as they stand. -/
def State.auxReset (s : State) (v : Vector AuxSt 4) : State :=
  ({ s with aux := v, auxc := { linkDown := s.auxc.linkDown } } : State).auxSupply s.auxc.vdLow s.auxc.vhLow

theorem auxReset_step (s : State) (v : Vector AuxSt 4) : UnitsReset s (s.auxReset v) ∧ SupplyShown (s.auxReset v) := by
  obtain ⟨-, hvd, hvh, -, -⟩ := State.auxSupply_spec { s with aux := v, auxc := { linkDown := s.auxc.linkDown } } s.auxc.vdLow s.auxc.vhLow
  exact ⟨⟨rfl, rfl, rfl, rfl, rfl, rfl, rfl, rfl, rfl, rfl, ⟨rfl, rfl⟩, ((RegsBut.refl s _).setF _ (by decide)).setF _ (by decide)⟩, hvd, hvh⟩

theorem resetCells_step (s : State) (d : Nat) : UnitsReset s (s.resetCells d) := ⟨rfl, rfl, rfl, rfl, rfl, rfl, rfl, rfl, rfl, rfl, ⟨rfl, rfl⟩, .refl s _⟩

/-- The host ports reset. -/
def State.portsReset (s : State) (since : Nat) : State :=
  { s with hp := Vector.replicate 4 {}, prp := Vector.replicate 2 {}, svExp := Vector.replicate 16 none, svFeed := { since := since }, tout := Vector.replicate 8 {} }

theorem resetUnits_nine (s : State) : s.resetUnits 9 = (s.resetCells 9).toutsOff.portsReset s.tick := rfl

theorem portsOff_step (u : State) (n : Nat) : UnitsReset u (u.toutsOff.portsReset n) ∧ (u.toutsOff.portsReset n).ce = u.ce ∧
    (SupplyShown u → SupplyShown (u.toutsOff.portsReset n)) ∧ (u.toutsOff.portsReset n).pegs = u.pegs ∧ (u.toutsOff.portsReset n).arms = u.arms := by
  obtain ⟨hframe, hregs⟩ := toutsOff_spec u
  generalize u.toutsOff = w at *
  have hget (f : Fld) : (w.portsReset n).getF f 0 = w.getF f 0 := rfl
  have hauxc : w.auxc = u.auxc := by rw [hframe]
  have hmono : RegsBut u (w.portsReset n) unitResetKeys := RegsBut.mono (t := w) hregs (List.subset_append_left _ _)
  refine ⟨?_, ?_, fun h => ?_, ?_, ?_⟩
  · rw [hframe] at hmono ⊢
    exact ⟨rfl, rfl, rfl, rfl, rfl, rfl, rfl, rfl, rfl, rfl, ⟨rfl, rfl⟩, hmono⟩
  · rw [hframe]
    rfl
  · rw [SupplyShown, State.bit, State.bit, hget, hget, hregs.getF_eq (by decide), hregs.getF_eq (by decide)]
    show _ = w.auxc.vdLow ∧ _ = w.auxc.vhLow
    rw [hauxc]
    exact h
  · rw [hframe]
    rfl
  · rw [hframe]
    rfl

/-- What the reset of one domain's units does beside the engines and the lanes. -/
theorem resetUnits_spec (s : State) (d : Nat) : UnitsReset s (s.resetUnits d) ∧ (s.resetUnits d).ce = (s.resetCells d).ce ∧
    (SupplyShown s ∨ d = 13 → SupplyShown (s.resetUnits d)) ∧
    ((∀ k : Fin 256, s.pegs[k] = {}) ∨ d = 6 → ∀ k : Fin 256, (s.resetUnits d).pegs[k] = {}) ∧
    ((∀ a : Fin 6, s.arms[a] = {}) ∨ d = 6 → ∀ a : Fin 6, (s.resetUnits d).arms[a] = {}) := by
  have hcells := resetCells_step s d
  by_cases h6 : d = 6
  · subst h6
    exact ⟨⟨rfl, rfl, rfl, rfl, rfl, rfl, rfl, rfl, rfl, rfl, ⟨rfl, rfl⟩, .refl s _⟩, rfl, fun h => h.resolve_right (by decide),
      fun _ k => Vector.getElem_replicate k.isLt, fun _ a => Vector.getElem_replicate a.isLt⟩
  by_cases h9 : d = 9
  · subst h9
    obtain ⟨hstep, hce, hshown, hpegs, harms⟩ := portsOff_step (s.resetCells 9) s.tick
    rw [resetUnits_nine]
    generalize (s.resetCells 9).toutsOff.portsReset s.tick = w at *
    refine ⟨hcells.trans hstep, hce, fun h => hshown (h.resolve_right (by decide)), fun h => ?_, fun h => ?_⟩
    · rw [hpegs]
      exact h.resolve_right (by decide)
    · rw [harms]
      exact h.resolve_right (by decide)
  by_cases h13 : d = 13
  · subst h13
    obtain ⟨hstep, hshown⟩ := auxReset_step (s.resetCells 13) (s.aux.map (fun (a : AuxSt) => { bsLow := a.bsLow, bsHold := a.bsLow }))
    exact ⟨hcells.trans hstep, rfl, fun _ => hshown, fun h => h.resolve_right (by decide), fun h => h.resolve_right (by decide)⟩
  by_cases h10 : d = 10
  · subst h10
    exact ⟨⟨rfl, rfl, rfl, rfl, rfl, rfl, rfl, rfl, rfl, rfl, ⟨rfl, rfl⟩, .refl s _⟩, rfl, fun h => h.resolve_right (by decide),
      fun h => h.resolve_right (by decide), fun h => h.resolve_right (by decide)⟩
  by_cases h11 : d = 11
  · subst h11
    exact ⟨⟨rfl, rfl, rfl, rfl, rfl, rfl, rfl, rfl, rfl, rfl, ⟨rfl, rfl⟩, .refl s _⟩, rfl, fun h => h.resolve_right (by decide),
      fun h => h.resolve_right (by decide), fun h => h.resolve_right (by decide)⟩
  have heq : s.resetUnits d = s.resetCells d := by
    unfold State.resetUnits
    split
    · exact absurd rfl h6
    · exact absurd rfl h9
    · exact absurd rfl h10
    · exact absurd rfl h11
    · exact absurd rfl h13
    · rfl
  rw [heq]
  exact ⟨hcells, rfl, fun h => h.resolve_right h13, fun h => h.resolve_right h6, fun h => h.resolve_right h6⟩

/-! Every unit reset. -/

/-- An engine's registers, accumulators and program counter are clear. -/
def Cleared (e : Eng) : Prop := e.g = Vector.replicate 32 0#32 ∧ e.acc = Vector.replicate 4 0#72 ∧ e.pc = 0#32

theorem resetCells_ce (s : State) (d : Nat) (n : Fin 24) : (s.resetCells d).ce[n] = if domEngine d n then (s.ce[n]).powerReset else s.ce[n] :=
  Vector.getElem_mapFinIdx ..

/-- The units of every domain that a reset covers, reset in turn. -/
def State.resetAll (s : State) : State := resetDomains.foldl (fun t d => t.resetUnits d) s

theorem resetAll_spec (s : State) : UnitsReset s s.resetAll ∧ SupplyShown s.resetAll ∧ (∀ k : Fin 256, s.resetAll.pegs[k] = {}) ∧
    (∀ a : Fin 6, s.resetAll.arms[a] = {}) ∧ ∀ n : Fin 24, Cleared s.resetAll.ce[n] := by
  refine ⟨?_, ?_, ?_, ?_, fun n => ?_⟩
  · exact List.foldlRecOn _ _ (UnitsReset.refl s) fun t ht d _ => ht.trans (resetUnits_spec t d).1
  · exact foldl_establish (d := 13) (by decide) (fun t d h => (resetUnits_spec t d).2.2.1 (.inl h)) (fun t => (resetUnits_spec t 13).2.2.1 (.inr rfl)) s
  · exact foldl_establish (P := fun t => ∀ k : Fin 256, t.pegs[k] = {}) (d := 6) (by decide) (fun t d h => (resetUnits_spec t d).2.2.2.1 (.inl h))
      (fun t => (resetUnits_spec t 6).2.2.2.1 (.inr rfl)) s
  · exact foldl_establish (P := fun t => ∀ a : Fin 6, t.arms[a] = {}) (d := 6) (by decide) (fun t d h => (resetUnits_spec t d).2.2.2.2 (.inl h))
      (fun t => (resetUnits_spec t 6).2.2.2.2 (.inr rfl)) s
  · obtain ⟨d, hd, hn⟩ : ∃ d ∈ resetDomains, domEngine d n = true := by
      revert n
      decide
    have hclear (e : Eng) : Cleared e.powerReset := ⟨rfl, rfl, rfl⟩
    have hce (t : State) (d : Nat) : (t.resetUnits d).ce[n] = if domEngine d n then (t.ce[n]).powerReset else t.ce[n] := by
      rw [(resetUnits_spec t d).2.1, resetCells_ce]
    refine foldl_establish (P := fun t => Cleared t.ce[n]) hd (fun t d h => ?_) (fun t => ?_) s
    · rw [hce]
      split
      · exact hclear _
      · exact h
    · rw [hce, if_pos hn]
      exact hclear _

/-! The warm reset. -/

/-- The fields that a reset gives their reset values. -/
theorem getF_resetClass (s : State) (f : Fld) (i : Nat) : (s.resetClass false).getF f i =
    if (f.spec.cls = .wr ∨ f.spec.cls = .ur) ∧ (f ≠ .PMC_STAGE_REASON ∨ s.getF .PMC_STAGE_REASON 0 ≠ rsVcoreShort) then f.spec.rst else s.getF f i := by
  rw [State.resetClass, State.getF_resetFields]
  cases f.spec.cls <;> simp

/-- The state behind the reset of the units, the image buffer lost. -/
def State.warmUnits (s : State) : State := (s.mirDown.resetClass false).resetAll.loseMem imgBuffer imgSize

/-- What the supervisory cores and the journal engine lose. -/
def State.warmRest (s : State) (tick : Nat) : State := { s with
  haltEn := 0#24, secLatch := Vector.replicate 29 0, dmaEnst := 0, jnl := s.jnl.restart, sec := s.sec.restart,
  pmc := { s.pmc.restart tick false with fromPor := false } }

/-- The end of a warm reset, from the state with the units reset. -/
def State.warmEnd (w : State) (tick : Nat) (cause : Fld) : State :=
  (((w.warmRest tick).setF .PMC_BTN_ARMED 0 0).setBytes 0x10700000 0 20).setF cause 0 1

theorem warmReset_eq (s : State) (cause : Fld) : s.warmReset cause = s.warmUnits.warmEnd s.tick cause := rfl

theorem mirDown_frame (s : State) : s.mirDown = { s with twin := s.mirDown.twin } := by
  rw [State.mirDown]
  split <;> rfl

theorem byte_warmRest (u : State) (tick x : Nat) : ((u.warmRest tick).setF .PMC_BTN_ARMED 0 0).byte x = u.byte x := rfl

theorem byte_setF (u : State) (f : Fld) (i v x : Nat) : (u.setF f i v).byte x = u.byte x := rfl

theorem byte_warmReset (s : State) (cause : Fld) : (∀ x, x < 0x10600000 ∨ 0x10700014 ≤ x → (s.warmReset cause).byte x = s.byte x) ∧
    ∀ k < 20, (s.warmReset cause).byte (0x10700000 + k) = 0#8 := by
  obtain ⟨hreset, -⟩ := resetAll_spec (s.mirDown.resetClass false)
  have hmem : (s.mirDown.resetClass false).resetAll.mem = s.mem := hreset.mem.trans (by rw [mirDown_frame]; rfl)
  have hlost : (s.mirDown.resetClass false).resetAll.lost = s.lost := hreset.lost.trans (by rw [mirDown_frame]; rfl)
  refine ⟨fun x hx => ?_, fun k hk => ?_⟩
  · rw [warmReset_eq, State.warmEnd, byte_setF, State.byte_setBytes _ _ _ _ _ (by omega), byte_warmRest, State.warmUnits, State.byte_loseMem _ _ _ _ (by rw [imgBuffer, imgSize]; omega)]
    exact State.byte_congr hmem hlost x
  · rw [warmReset_eq, State.warmEnd, byte_setF, State.byte_setBytes_in _ _ _ _ hk, Nat.zero_div]

/-- What the reset of the units leaves of the state before. -/
theorem warmUnits_spec (s : State) : let w := s.warmUnits
    SupplyShown w ∧ (w.auxc.vdLow = s.auxc.vdLow ∧ w.auxc.vhLow = s.auxc.vhLow) ∧ (∀ k : Fin 256, w.pegs[k] = {}) ∧ (∀ a : Fin 6, w.arms[a] = {}) ∧
    (∀ n : Fin 24, Cleared w.ce[n]) ∧ (w.jnl = s.jnl ∧ w.clock = s.clock ∧ w.vreg = s.vreg ∧ w.ser = s.ser ∧ w.sec = s.sec ∧ w.pmc = s.pmc ∧
      w.variant = s.variant ∧ w.lost = (0x10600000, 0x100000, s.free) :: s.lost) ∧ RegsBut (s.resetClass false) w unitResetKeys := by
  obtain ⟨hreset, hshown, hpegs, harms, hce⟩ := resetAll_spec (s.mirDown.resetClass false)
  have hframe : s.mirDown.resetClass false = { s.resetClass false with twin := s.mirDown.twin } := by
    rw [mirDown_frame]
    rfl
  have hloses (u : State) : let w := u.loseMem imgBuffer imgSize
      w = { u with mem := w.mem, lost := (0x10600000, 0x100000, u.free) :: u.lost, free := u.free + 1 } := rfl
  rw [hframe] at hreset hshown hpegs harms hce
  rw [State.warmUnits, hframe]
  generalize ({ s.resetClass false with twin := s.mirDown.twin } : State).resetAll = u at *
  exact ⟨hshown, hreset.low, hpegs, harms, hce, ⟨hreset.jnl, hreset.clock, hreset.vreg, hreset.ser, hreset.sec, hreset.pmc, hreset.variant,
    by rw [hloses u, hreset.free, hreset.lost]; rfl⟩, hreset.regs⟩

section
variable (w : State) (tick : Nat) {cause : Fld}

theorem warmEnd_frame : w.warmEnd tick cause =
    { w.warmRest tick with regs := (w.warmEnd tick cause).regs, mem := (w.warmEnd tick cause).mem } := by
  rw [State.warmEnd, State.setBytes_frame]
  rfl

theorem getF_warmEnd {f : Fld} (i : Nat) (hc : f ≠ cause) (hb : f ≠ .PMC_BTN_ARMED) : (w.warmEnd tick cause).getF f i = w.getF f i := by
  rw [State.warmEnd, State.getF_setF_ne _ _ _ _ hc, State.setBytes_frame]
  exact Eq.trans (b := ((w.warmRest tick).setF .PMC_BTN_ARMED 0 0).getF f i) rfl (State.getF_setF_ne (w.warmRest tick) _ _ _ hb)

/-- What a warm reset leaves of the state with the units reset. -/
theorem warmEnd_spec : let t := w.warmEnd tick cause
    t.bit cause 0 = true ∧ t.auxc = w.auxc ∧ t.pegs = w.pegs ∧ t.arms = w.arms ∧ t.ce = w.ce ∧ t.jnl = w.jnl.restart ∧ t.clock = w.clock ∧ t.vreg = w.vreg ∧
    t.ser = w.ser ∧ t.variant = w.variant ∧ t.pmc.failcnt = w.pmc.failcnt ∧ t.sec.slots = w.sec.slots ∧ t.lost = w.lost := by
  have hbit : (w.warmEnd tick cause).bit cause 0 = true := by
    rw [State.bit, State.warmEnd, State.getF_setF_same, Nat.mod_eq_of_lt cause.one_lt]
    rfl
  refine ⟨hbit, ?_⟩
  rw [warmEnd_frame]
  exact ⟨rfl, rfl, rfl, rfl, rfl, rfl, rfl, rfl, rfl, rfl, rfl, rfl⟩

end

theorem unitResetKeys_names : ∀ e ∈ unitResetKeys, e.1 = .TOUT_CTRL_ENST ∨ e.1 = .AUX_STAT_VDRVUV ∨ e.1 = .AUX_STAT_VHVUV := by decide

theorem restart_sessions (j : JnlSt) : ∀ x ∈ j.restart.sessions, x.key = none ∧ x.newKey = none := by
  intro x hx
  obtain ⟨y, -, rfl⟩ := List.mem_map.1 hx
  exact ⟨rfl, rfl⟩

/-- A warm reset. -/
theorem warmReset_spec (s : State) {cause : Fld} (hcls : cause.spec.cls = .po) : WarmReset cause s (s.warmReset cause) := by
  obtain ⟨hmem, hring⟩ := byte_warmReset s cause
  obtain ⟨hshown, hlow, hpegs, harms, hce, ⟨hjnl, hclock, hvreg, hser, hsec, hpmc, hvar, hlost⟩, hregs⟩ := warmUnits_spec s
  rw [warmReset_eq] at hmem hring ⊢
  generalize s.warmUnits = w at *
  obtain ⟨hcause, tauxc, tpegs, tarms, tce, tjnl, tclock, tvreg, tser, tvar, tfail, tslots, tlost⟩ := warmEnd_spec w s.tick (cause := cause)
  have hget {f : Fld} (i : Nat) (hc : f ≠ cause) (hb : f ≠ .PMC_BTN_ARMED) := getF_warmEnd w s.tick (cause := cause) i hc hb
  generalize w.warmEnd s.tick cause = t at *
  have hkept {f : Fld} (i : Nat) (he : f ≠ .TOUT_CTRL_ENST) (hd : f ≠ .AUX_STAT_VDRVUV) (hh : f ≠ .AUX_STAT_VHVUV) :
      w.getF f i = (s.resetClass false).getF f i := hregs.getF_eq (fun e hmem heq => by
    rcases unitResetKeys_names e hmem with h | h | h
    · exact he (heq ▸ h)
    · exact hd (heq ▸ h)
    · exact hh (heq ▸ h)) i
  have hpo {f g : Fld} (hf : f.spec.cls = .wr ∨ f.spec.cls = .ur) (hg : g.spec.cls = .po) : f ≠ g := by
    rintro rfl
    rcases hf with h | h <;> exact absurd (h.symm.trans hg) (by decide)
  have hsame {f : Fld} (hw : f.spec.cls ≠ .wr) (g : Fld) (hg : g.spec.cls = .wr) : f ≠ g := fun h => hw (h ▸ hg)
  refine ⟨hcause, fun f i hf hr hvd hvh => ?_, ⟨?_, ?_, ?_, ?_⟩, fun f i hw hu hc hb he => ?_, fun n => ?_, fun k => ?_, fun a => ?_, ?_, ?_, ?_, ?_, ?_, ?_, ?_, ?_, ?_,
    ?_, ?_, hmem, hring⟩
  · rw [hget i (hpo hf hcls) (hpo hf rfl), hkept i (hpo hf rfl) hvd hvh, getF_resetClass, if_pos ⟨hf, .inl hr⟩]
  · rw [State.bit, hget 0 (hpo (.inl rfl) hcls) (by decide), ← hlow.1]
    exact hshown.1
  · rw [State.bit, hget 0 (hpo (.inl rfl) hcls) (by decide), ← hlow.2]
    exact hshown.2
  · rw [tauxc, hlow.1]
  · rw [tauxc, hlow.2]
  · rw [hget i hc hb, hkept i he (hsame hw _ rfl) (hsame hw _ rfl), getF_resetClass, if_neg fun h => h.1.elim hw hu]
  · rw [tce]
    exact hce n
  · rw [tpegs]
    exact hpegs k
  · rw [tarms]
    exact harms a
  · rw [tjnl]
    exact restart_sessions _
  · rw [tjnl, hjnl]
    rfl
  · rw [tjnl, hjnl]
    rfl
  · rw [tjnl]
    rfl
  · rw [tclock, hclock]
  · rw [tvreg, hvreg]
  · rw [tser, hser]
  · rw [tvar, hvar]
  · rw [tfail, hpmc]
  · rw [tslots, hsec]
  · rw [tlost, hlost]

/-- A warm reset from a state that differs in what the reset clears alone. -/
theorem warmReset_congr {cause : Fld} {u v t : State} (h : WarmReset cause v t)
    (hframe : v = { u with regs := v.regs, jnl := v.jnl }) (hhead : v.jnl.head = u.jnl.head) (hdone : v.jnl.done = u.jnl.done)
    (hregs : ∀ (f : Fld) i, f.spec.cls ≠ .wr → f.spec.cls ≠ .ur → v.getF f i = u.getF f i) : WarmReset cause u t := by
  obtain ⟨h1, h2, h3, h4, h5, h6, h7, h8, h9, h10, h11, h12, h13, h14, h15, h16, h17, h18, h19, h20⟩ := h
  have hbyte (x : Nat) : v.byte x = u.byte x := State.byte_congr (by rw [hframe]) (by rw [hframe]) x
  refine ⟨h1, h2, ?_, fun f i hw hu hc hb he => (h4 f i hw hu hc hb he).trans (hregs f i hw hu), h5, h6, h7, h8, h9.trans hhead, h10.trans hdone, h11, ?_, ?_, ?_, ?_, ?_, ?_,
    ?_, fun x hx => (h19 x hx).trans (hbyte x), h20⟩
  all_goals rw [hframe] at *
  · exact h3
  · exact h12
  · exact h13
  · exact h14
  · exact h15
  · exact h16
  · exact h17
  · exact h18

end Sys2Proof.Machine
end

section
/-! The class N requests, OPEN, firmware recovery and malformed datagrams (R386 to R391, R394, R446, R448). -/
namespace Sys2Proof.Machine

-- The proofs one after another: all at once they would need more threads, and their stacks, than the check's memory holds.
set_option Elab.async false

section
variable {s : State} {q : Peer} {total off : Word} {data : List Byte}

/-! The front of firmware recovery (R448). -/

/-- A request of the open recovery puts off its end. -/
def State.recoveryHeard (s : State) : State := { s with jnl := { s.jnl with recovery := s.jnl.recovery.map (fun c => { c with seen := s.tick }) } }

/-- The open recovery, where there is one, is that of this source. -/
def OwnRecovery (s : State) (q : Peer) : Prop := ∀ c, s.jnl.recovery = some c → c.port = q.port ∧ c.addr = q.addr

theorem recovering_own (hans : s.answers q = true) (hmin : s.minimal = true) (hown : OwnRecovery s q) (go : State → State) :
    s.recovering q go = go s.recoveryHeard.noReplies := by
  have hmin' : s.noReplies.minimal = true := hmin
  rw [State.recovering, sessionless_go s hans, hmin', if_neg (by decide)]
  cases hc : s.jnl.recovery with
  | none =>
    rw [show s.noReplies.jnl.recovery = none from hc]
    dsimp only
    rw [State.recoveryHeard, hc, Option.map_none, ← hc]
  | some c =>
    obtain ⟨hp, ha⟩ := hown c hc
    rw [show s.noReplies.jnl.recovery = some c from hc]
    dsimp only
    rw [if_pos (by rw [Recovery.from, hp, ha, beq_self_eq_true, beq_self_eq_true]; rfl), State.recoveryHeard, hc]
    rfl

theorem recovering_other {c : Recovery} (hans : s.answers q = true) (hmin : s.minimal = true) (hc : s.jnl.recovery = some c)
    (hne : c.port ≠ q.port ∨ c.addr ≠ q.addr) (go : State → State) : s.recovering q go = s.noReplies.replyN q 4 0x14 [] := by
  have hmin' : s.noReplies.minimal = true := hmin
  have hfrom : ¬c.from q = true := by
    rw [Recovery.from, Bool.and_eq_true, beq_iff_eq, beq_iff_eq]
    exact fun h => hne.elim (fun h' => h' h.1) fun h' => h' h.2
  rw [State.recovering, sessionless_go s hans, hmin', if_neg (by decide), show s.noReplies.jnl.recovery = some c from hc]
  exact if_neg hfrom

/-! BEGIN and DATA. -/

theorem recoverBegin_fits (t : State) (h : total.toNat ≤ 0x700000) : t.recoverBegin q total.toNat =
    (t.modJnl (fun j => { j with recovery := some { port := q.port, addr := q.addr, total := total.toNat, seen := t.tick } })).replyN q 4 0 [] :=
  if_neg (Nat.not_lt.2 h)

theorem recoverBegin_long (t : State) (h : 0x700000 < total.toNat) : t.recoverBegin q total.toNat = t.replyN q 4 0x10 [] := if_pos h

/-- A piece of the recovery is noted, and the reply goes out. -/
def State.pieceNoted (t : State) (q : Peer) (c : Recovery) (off : Nat) (data : List Byte) : State :=
  (t.modJnl (fun j =>
    { j.loseFw off (off + data.length) with recovery := some { c with got := off + data.length, lastOff := off, lastData := data } })).replyN q 4 0 []

theorem pieceNoted_byte (t : State) (q : Peer) (c : Recovery) (off : Nat) (data : List Byte) (x : Nat) : (t.pieceNoted q c off data).byte x = t.byte x := rfl

theorem pieceNoted_eq (t : State) (q : Peer) (c : Recovery) (off : Nat) (data : List Byte) : t.pieceNoted q c off data = { t with jnl := { t.jnl with
    fwLost := (off, off + data.length) :: t.jnl.fwLost, recovery := some { c with got := off + data.length, lastOff := off, lastData := data },
    replies := t.jnl.replies ++ [Tagged t { peer := q, code := 4 } none] } } := rfl

theorem recoverData_next {t : State} {c : Recovery} (hc : t.jnl.recovery = some c) (hoff : off.toNat = c.got) (h1 : 1 ≤ data.length) (hlen : data.length ≤ 1384)
    (htot : off.toNat + data.length ≤ c.total) : t.recoverData q off.toNat data =
      (t.setList (fwBase (1 - t.pmc.slot) + off.toNat) data).pieceNoted q c off.toNat data := by
  rw [State.recoverData, hc]
  dsimp only
  rw [if_pos hoff, if_neg (by omega)]
  rfl

theorem recoverData_seq {t : State} {c : Recovery} (hc : t.jnl.recovery = some c) (hoff : off.toNat ≠ c.got) (hlast : off.toNat ≠ c.lastOff) :
    t.recoverData q off.toNat data = t.replyN q 4 0x12 (leBytes 4 c.got) := by
  rw [State.recoverData, hc]
  dsimp only
  rw [if_neg hoff, if_neg fun h => hlast h.1]
  rfl

/-- A piece of a recovery is stored. -/
theorem fwRecoverData_clause {c : Recovery} (hans : s.answers q = true) (hmin : s.minimal = true) (hown : OwnRecovery s q) (hc : s.jnl.recovery = some c)
    (hoff : off.toNat = c.got) (h1 : 1 ≤ data.length) (hlen : data.length ≤ 1384) (htot : off.toNat + data.length ≤ c.total) :
    Answers (.fwRecoverData q off data) s (fun t => t.readList (fwBase (1 - s.pmc.slot) + off.toNat) data.length = data ∧
      MemBut s t (fwBase (1 - s.pmc.slot) + off.toNat) data.length ∧
      t = { s with mem := t.mem, jnl := { s.jnl with
        fwLost := (off.toNat, off.toNat + data.length) :: s.jnl.fwLost,
        recovery := some { c with seen := s.tick, got := off.toNat + data.length, lastOff := off.toNat, lastData := data },
        replies := [Tagged s { peer := q, code := 4 } none] } }) := by
  have hheard : s.recoveryHeard.noReplies.jnl.recovery = some { c with seen := s.tick } := congrArg (Option.map _) hc
  have hexec : exec (.fwRecoverData q off data) s = .next (s.recoveryHeard.noReplies.recoverData q off.toNat data) :=
    congrArg Host.Outcome.next (recovering_own hans hmin hown _)
  rw [recoverData_next hheard hoff h1 hlen htot] at hexec
  have hframe := State.setList_frame s.recoveryHeard.noReplies (fwBase (1 - s.pmc.slot) + off.toNat) data
  have hread := State.readList_setList s.recoveryHeard.noReplies (fwBase (1 - s.pmc.slot) + off.toNat) data
  have hbut (x : Nat) (hx : x < fwBase (1 - s.pmc.slot) + off.toNat ∨ fwBase (1 - s.pmc.slot) + off.toNat + data.length ≤ x) :
      (s.recoveryHeard.noReplies.setList (fwBase (1 - s.pmc.slot) + off.toNat) data).byte x = s.byte x := State.byte_setList _ _ _ x hx
  change exec _ s = .next ((s.recoveryHeard.noReplies.setList (fwBase (1 - s.pmc.slot) + off.toNat) data).pieceNoted q _ off.toNat data) at hexec
  generalize s.recoveryHeard.noReplies.setList (fwBase (1 - s.pmc.slot) + off.toNat) data = w at *
  refine ⟨_, hexec, (State.readList_congr (pieceNoted_byte w q _ _ data) _ _).trans hread, fun x hx => (pieceNoted_byte w q _ _ data x).trans (hbut x hx), ?_⟩
  have hjnl : w.jnl = s.recoveryHeard.noReplies.jnl := by rw [hframe]
  have htag : Tagged w { peer := q, code := 4 } none = Tagged s { peer := q, code := 4 } none := by rw [hframe]; rfl
  rw [pieceNoted_eq, hjnl, htag]
  generalize Tagged s { peer := q, code := 4 } none = r
  have key (j : JnlSt) : ({ w with jnl := j } : State) = { s with mem := w.mem, jnl := j } := by
    rw [hframe]
    rfl
  exact key _

/-! COMMIT and RETRY: a warm reset follows the reply (R448). -/

theorem joined_congr {u v : State} (hv : v.variant = u.variant) (hr : ∀ i, v.getF .HP_PRP_EN i = u.getF .HP_PRP_EN i) (p : Fin 4) : v.joined p = u.joined p := by
  rw [State.joined, State.joined, State.bit, State.bit, hr, State.portOk, State.portOk, hv]

theorem warmReset_pmc (s : State) (cause : Fld) : (s.warmReset cause).pmc = { s.pmc.restart s.tick false with fromPor := false } := by
  obtain ⟨-, -, -, -, -, ⟨-, -, -, -, -, hpmc, -⟩, -⟩ := warmUnits_spec s
  rw [warmReset_eq, warmEnd_frame]
  show ({ s.warmUnits.pmc.restart s.tick false with fromPor := false } : PmcSt) = _
  rw [hpmc]

/-- The reply goes out, and the device resets. -/
theorem replyReset_spec {v : State} {p : PmcSt} (hframe : v = { s with regs := v.regs, pmc := v.pmc, jnl := v.jnl }) (hnone : v.jnl.replies = [])
    (hhead : v.jnl.head = s.jnl.head) (hdone : v.jnl.done = s.jnl.done)
    (hregs : ∀ (f : Fld) i, f.spec.cls ≠ .wr → f.spec.cls ≠ .ur → v.getF f i = s.getF f i) (hprp : ∀ i, v.getF .HP_PRP_EN i = s.getF .HP_PRP_EN i)
    (hp : v.pmc.slot = p.slot ∧ v.pmc.mmreq = p.mmreq ∧ v.pmc.trial = p.trial ∧ v.pmc.failcnt = p.failcnt) : let t := v.replyReset q
    WarmReset .PMC_RSTCAUSE_SOFTWARE { s with pmc := p } t ∧ t.pmc.slot = p.slot ∧ t.pmc.mmreq = p.mmreq ∧ t.pmc.trial = p.trial ∧
      t.jnl.replies = [Tagged s { peer := q, code := 4 } none] := by
  obtain ⟨hslot, hmm, htrial, hfail⟩ := hp
  have hvar : v.variant = s.variant := by rw [hframe]
  have htag : (v.replyN q 4 0 []).jnl.replies = [Tagged s { peer := q, code := 4 } none] := by
    rw [Tagged, ← joined_congr hvar hprp]
    show v.jnl.replies ++ _ = _
    rw [hnone]
    rfl
  have hreset : WarmReset .PMC_RSTCAUSE_SOFTWARE { s with pmc := v.pmc } ((v.replyN q 4 0 []).warmReset .PMC_RSTCAUSE_SOFTWARE) := by
    refine warmReset_congr (warmReset_spec (v.replyN q 4 0 []) rfl) ?_ hhead hdone hregs
    exact congrArg (fun x : State => { x with jnl := (v.replyN q 4 0 []).jnl }) hframe
  have hpmc : ((v.replyN q 4 0 []).warmReset .PMC_RSTCAUSE_SOFTWARE).pmc = { v.pmc.restart v.tick false with fromPor := false } := warmReset_pmc _ _
  have heq : v.replyReset q = ((v.replyN q 4 0 []).warmReset .PMC_RSTCAUSE_SOFTWARE).modJnl
    (fun j => { j with replies := [Tagged s { peer := q, code := 4 } none] }) := by rw [← htag]; rfl
  rw [heq]
  generalize (v.replyN q 4 0 []).warmReset .PMC_RSTCAUSE_SOFTWARE = w at *
  have hwpmc (f : JnlSt → JnlSt) : (w.modJnl f).pmc = { v.pmc.restart v.tick false with fromPor := false } := hpmc
  refine ⟨?_, by rw [hwpmc]; exact hslot, by rw [hwpmc]; exact hmm, by rw [hwpmc]; exact htrial, rfl⟩
  obtain ⟨h1, h2, h3, h4, h5, h6, h7, h8, h9, h10, h11, h12, h13, h14, h15, h16, h17, h18, h19, h20⟩ := hreset
  exact ⟨h1, h2, h3, h4, h5, h6, h7, h8, h9, h10, h11, h12, h13, h14, h15, h16.trans hfail, h17, h18, h19, h20⟩

/-- The reset that follows the last request of a recovery. -/
theorem replyReset_heard {v : State} {p : PmcSt} (hv : v = { s.recoveryHeard.noReplies with regs := v.regs, pmc := v.pmc })
    (hregs : ∀ (f : Fld) i, f.spec.cls ≠ .wr → f.spec.cls ≠ .ur → v.getF f i = s.getF f i) (hprp : ∀ i, v.getF .HP_PRP_EN i = s.getF .HP_PRP_EN i)
    (hp : v.pmc.slot = p.slot ∧ v.pmc.mmreq = p.mmreq ∧ v.pmc.trial = p.trial ∧ v.pmc.failcnt = p.failcnt) : let t := v.replyReset q
    WarmReset .PMC_RSTCAUSE_SOFTWARE { s with pmc := p } t ∧ t.pmc.slot = p.slot ∧ t.pmc.mmreq = p.mmreq ∧ t.pmc.trial = p.trial ∧
      t.jnl.replies = [Tagged s { peer := q, code := 4 } none] := by
  have hj : v.jnl = s.recoveryHeard.noReplies.jnl := by rw [hv]
  refine replyReset_spec ?_ (by rw [hj]; rfl) (by rw [hj]; rfl) (by rw [hj]; rfl) hregs hprp hp
  rw [hj]
  exact hv

/-- A reply behind the write of one field. -/
theorem setF_replyN (u : State) {f : Fld} (v code st : Nat) (bd : List Byte) (hf : f ≠ .HP_PRP_EN) :
    let t := (u.noReplies.setF f 0 v).replyN q code st bd
    Replies { peer := q, code := code, status := st, body := bd } none u { t with regs := u.regs } ∧ t.regs = (u.setF f 0 v).regs := by
  have hjoined : (u.noReplies.setF f 0 v).joined q.port = u.joined q.port :=
    joined_congr (u := u) (v := u.noReplies.setF f 0 v) rfl (fun i => u.noReplies.getF_setF_ne _ _ _ hf.symm) _
  dsimp only
  rw [State.replyN, State.sendAs, hjoined]
  exact ⟨rfl, rfl⟩

theorem recoverCommit_some {t : State} {c : Recovery} (hc : t.jnl.recovery = some c) : t.recoverCommit q =
    if c.got ≠ c.total then t.replyN q 4 0x10 [1#8]
    else if t.secCheck [tyStation] (t.recovered c.total) = 6 then (t.setF .SEC_STAT_LASTRES 0 (t.secCheck [tyStation] (t.recovered c.total))).replyN q 4 0x10 [3#8]
    else if t.secCheck [tyStation] (t.recovered c.total) ≠ 0 then (t.setF .SEC_STAT_LASTRES 0 (t.secCheck [tyStation] (t.recovered c.total))).replyN q 4 0x10 [2#8]
    else ((t.setF .SEC_STAT_LASTRES 0 (t.secCheck [tyStation] (t.recovered c.total))).modPmc
      (fun p => { p.retry with slot := 1 - p.slot, trial := false, trialBegun := false, slotPend := false })).replyReset q := by
  rw [State.recoverCommit, hc]
  rfl

/-- The object received, as it stands in the inactive slot. -/
theorem recovered_heard (s : State) (n : Nat) : s.recoveryHeard.noReplies.recovered n = s.readList (fwBase (1 - s.pmc.slot)) n := by
  have h (x : Nat) : s.recoveryHeard.noReplies.byte x = s.byte x := rfl
  rw [State.recovered, State.readList_congr h]
  rfl

theorem secCheck_heard (s : State) (l : List Nat) (o : List Byte) : s.recoveryHeard.noReplies.secCheck l o = s.secCheck l o := rfl

/-- COMMIT of a whole object. -/
theorem fwRecoverCommit_eq {c : Recovery} (hans : s.answers q = true) (hmin : s.minimal = true) (hown : OwnRecovery s q) (hc : s.jnl.recovery = some c)
    (hgot : c.got = c.total) : exec (.fwRecoverCommit q) s = .next (
    if s.secCheck [tyStation] (s.readList (fwBase (1 - s.pmc.slot)) c.total) = 6 then
      (s.recoveryHeard.noReplies.setF .SEC_STAT_LASTRES 0 (s.secCheck [tyStation] (s.readList (fwBase (1 - s.pmc.slot)) c.total))).replyN q 4 0x10 [3#8]
    else if s.secCheck [tyStation] (s.readList (fwBase (1 - s.pmc.slot)) c.total) ≠ 0 then
      (s.recoveryHeard.noReplies.setF .SEC_STAT_LASTRES 0 (s.secCheck [tyStation] (s.readList (fwBase (1 - s.pmc.slot)) c.total))).replyN q 4 0x10 [2#8]
    else ((s.recoveryHeard.noReplies.setF .SEC_STAT_LASTRES 0 (s.secCheck [tyStation] (s.readList (fwBase (1 - s.pmc.slot)) c.total))).modPmc
      (fun p => { p.retry with slot := 1 - p.slot, trial := false, trialBegun := false, slotPend := false })).replyReset q) := by
  have hheard : s.recoveryHeard.noReplies.jnl.recovery = some { c with seen := s.tick } := congrArg (Option.map _) hc
  have hexec : exec (.fwRecoverCommit q) s = .next (s.recoveryHeard.noReplies.recoverCommit q) :=
    congrArg Host.Outcome.next (recovering_own hans hmin hown _)
  rw [hexec, recoverCommit_some hheard, if_neg (not_not_intro hgot), recovered_heard, secCheck_heard]

theorem fwRecoverCommit_fails {c : Recovery} {k : Nat} (hans : s.answers q = true) (hmin : s.minimal = true) (hown : OwnRecovery s q)
    (hc : s.jnl.recovery = some c) (hgot : c.got = c.total) (hk : s.secCheck [tyStation] (s.readList (fwBase (1 - s.pmc.slot)) c.total) = k) (h0 : k ≠ 0)
    (h16 : k < 16) : Answers (.fwRecoverCommit q) s (fun t =>
      Replies { peer := q, code := 4, status := 0x10, body := [if k = 6 then 3#8 else 2#8] } none s.recoveryHeard { t with regs := s.regs } ∧
      t.getF .SEC_STAT_LASTRES 0 = k ∧ RegsBut s t [(.SEC_STAT_LASTRES, 0)]) := by
  have hexec := fwRecoverCommit_eq hans hmin hown hc hgot
  have hfinal : exec (.fwRecoverCommit q) s =
      .next ((s.recoveryHeard.noReplies.setF .SEC_STAT_LASTRES 0 k).replyN q 4 0x10 [if k = 6 then 3#8 else 2#8]) := by
    rw [hexec, hk, if_pos h0]
    split_ifs <;> rfl
  obtain ⟨hreply, hregs⟩ := setF_replyN (q := q) s.recoveryHeard (f := .SEC_STAT_LASTRES) k 4 0x10 [if k = 6 then 3#8 else 2#8] (by decide)
  generalize (s.recoveryHeard.noReplies.setF .SEC_STAT_LASTRES 0 k).replyN q 4 0x10 [if k = 6 then 3#8 else 2#8] = t at *
  have hget (f : Fld) (i : Nat) : t.getF f i = (s.recoveryHeard.setF .SEC_STAT_LASTRES 0 k).getF f i := by rw [State.getF, hregs, State.getF]
  refine ⟨_, hfinal, hreply, ?_, fun f i h => ?_⟩
  · rw [hget, State.getF_setF_same]
    exact Nat.mod_eq_of_lt h16
  · rw [hget]
    exact ((RegsBut.refl s.recoveryHeard [(.SEC_STAT_LASTRES, 0)]).setF k (by simp)) f i h

/-- COMMIT of an object that passes: the slot becomes active and the device resets. -/
theorem fwRecoverCommit_passes {c : Recovery} {p : PmcSt} (hans : s.answers q = true) (hmin : s.minimal = true) (hown : OwnRecovery s q)
    (hc : s.jnl.recovery = some c) (hgot : c.got = c.total) (hk : s.secCheck [tyStation] (s.readList (fwBase (1 - s.pmc.slot)) c.total) = 0)
    (hp : 1 - s.pmc.slot = p.slot ∧ false = p.mmreq ∧ false = p.trial ∧ 0 = p.failcnt) : Answers (.fwRecoverCommit q) s (fun t =>
    WarmReset .PMC_RSTCAUSE_SOFTWARE { s with pmc := p } t ∧ t.pmc.slot = p.slot ∧ t.pmc.mmreq = p.mmreq ∧ t.pmc.trial = p.trial ∧
      t.jnl.replies = [Tagged s { peer := q, code := 4 } none]) := by
  have hexec := fwRecoverCommit_eq hans hmin hown hc hgot
  rw [hk, if_neg (by decide), if_neg (by decide)] at hexec
  have hget {f : Fld} (i : Nat) (hf : f ≠ .SEC_STAT_LASTRES) : (s.recoveryHeard.noReplies.setF .SEC_STAT_LASTRES 0 0).getF f i = s.getF f i :=
    State.getF_setF_ne s.recoveryHeard.noReplies _ _ _ hf
  refine ⟨_, hexec, replyReset_heard rfl (fun f i hw hu => hget i ?_) (fun i => hget i (by decide)) hp⟩
  rintro rfl
  exact hw rfl

theorem fwRecoverRetry_clause {p : PmcSt} (hans : s.answers q = true) (hmin : s.minimal = true) (hown : OwnRecovery s q)
    (hr : s.getF .PMC_STAGE_REASON 0 < 3 ∨ 6 < s.getF .PMC_STAGE_REASON 0)
    (hp : s.pmc.slot = p.slot ∧ false = p.mmreq ∧ s.pmc.trial = p.trial ∧ 0 = p.failcnt) : Answers (.fwRecoverRetry q) s (fun t =>
    WarmReset .PMC_RSTCAUSE_SOFTWARE { s with pmc := p } t ∧ t.pmc.slot = p.slot ∧ t.pmc.mmreq = p.mmreq ∧ t.pmc.trial = p.trial ∧
      t.jnl.replies = [Tagged s { peer := q, code := 4 } none]) := by
  have hexec : exec (.fwRecoverRetry q) s = .next (s.recoveryHeard.noReplies.recoverRetry q) :=
    congrArg Host.Outcome.next (recovering_own hans hmin hown _)
  have hreason : s.recoveryHeard.noReplies.getF .PMC_STAGE_REASON 0 = s.getF .PMC_STAGE_REASON 0 := rfl
  rw [State.recoverRetry, hreason, if_neg (by omega)] at hexec
  have hget (f : Fld) (i : Nat) : (s.recoveryHeard.noReplies.modPmc PmcSt.retry).getF f i = s.getF f i := rfl
  have hpmc : (s.recoveryHeard.noReplies.modPmc PmcSt.retry).pmc = s.pmc.retry := rfl
  exact ⟨_, hexec, replyReset_heard (v := s.recoveryHeard.noReplies.modPmc PmcSt.retry) rfl (fun f i _ _ => hget f i) (hget _) (by rw [hpmc]; exact hp)⟩

theorem fwRecoverRetry_refused (hans : s.answers q = true) (hmin : s.minimal = true) (hown : OwnRecovery s q)
    (h3 : 3 ≤ s.getF .PMC_STAGE_REASON 0) (h6 : s.getF .PMC_STAGE_REASON 0 ≤ 6) : Answers (.fwRecoverRetry q) s
      (Replies { peer := q, code := 4, status := 0x22, body := [] } none s.recoveryHeard) := by
  have hexec : exec (.fwRecoverRetry q) s = .next (s.recoveryHeard.noReplies.recoverRetry q) :=
    congrArg Host.Outcome.next (recovering_own hans hmin hown _)
  have hreason : s.recoveryHeard.noReplies.getF .PMC_STAGE_REASON 0 = s.getF .PMC_STAGE_REASON 0 := rfl
  rw [State.recoverRetry, hreason, if_pos ⟨h3, h6⟩] at hexec
  exact ⟨_, hexec, replyN_replies s.recoveryHeard q _ _ _⟩

theorem recoveryIdleTimeout_eq {c : Recovery} (hc : s.jnl.recovery = some c) (hruns : s.coresRun = true) : exec .recoveryIdleTimeout s = .next
    (((s.passTo (c.seen + 60 * second)).modJnl (fun j => { j with recovery := none })).loseMem (fwBase (1 - s.pmc.slot)) c.got) := by
  change execRecoveryIdleTimeout s = _
  rw [execRecoveryIdleTimeout, hc]
  exact congrArg Host.Outcome.next (if_pos hruns)

/-- The end of a recovery that falls silent, at `due`: its data is lost. -/
theorem recoveryIdleTimeout_clause {c : Recovery} {due : Nat} (hdue : due = c.seen + 60 * second) (hc : s.jnl.recovery = some c)
    (hruns : s.coresRun = true) : Answers .recoveryIdleTimeout s (fun t =>
    t.jnl = { s.jnl with recovery := none } ∧ MemBut s t (fwBase (1 - s.pmc.slot)) c.got ∧
    t = { s.passTo due with mem := t.mem, lost := t.lost, free := t.free, jnl := t.jnl }) := by
  have hexec := recoveryIdleTimeout_eq hc hruns
  rw [← hdue] at hexec
  have hframe := s.passTo_frame due
  generalize s.passTo due = u at *
  have hjnl : u.jnl = s.jnl := by rw [hframe]
  have hbyte (x : Nat) : (u.modJnl (fun j => { j with recovery := none })).byte x = s.byte x :=
    State.byte_congr (s := u.modJnl (fun j => { j with recovery := none })) (show u.mem = s.mem by rw [hframe]) (show u.lost = s.lost by rw [hframe]) x
  refine ⟨_, hexec, ?_, fun x hx => (State.byte_loseMem _ _ _ x hx).trans (hbyte x), rfl⟩
  rw [← hjnl]
  rfl

end

end Sys2Proof.Machine
end

section
/-! The sessions that OPEN makes, and malformed datagrams (R387 to R391, R394). -/
namespace Sys2Proof.Machine

-- The proofs one after another: all at once they would need more threads, and their stacks, than the check's memory holds.
set_option Elab.async false

/-! A free session identifier (R389). -/

section
variable (s : State)

/-- The candidates from `d` on are all taken, or the first free one is found. -/
theorem freeSession_free (k : Nat) : ∀ d, s.sess (s.freeSession d k) = none ∨ ∀ i < k, (s.sess ((d + i) % 0xFFFE + 1)).isSome = true := by
  induction k with
  | zero => exact fun _ => .inr fun i hi => absurd hi (Nat.not_lt_zero i)
  | succ k ih =>
    intro d
    rw [State.freeSession]
    by_cases h : (s.sess (d % 0xFFFE + 1)).isSome = true
    · rw [if_pos h]
      refine (ih (d + 1)).imp_right fun hall i hi => ?_
      rcases Nat.eq_zero_or_pos i with rfl | hpos
      · exact h
      · rw [show d + i = d + 1 + (i - 1) by omega]
        exact hall (i - 1) (by omega)
    · rw [if_neg h]
      exact .inl (by simpa using h)

theorem freeSession_range (k : Nat) : ∀ d, 1 ≤ s.freeSession d k ∧ s.freeSession d k ≤ 0xFFFE := by
  induction k with
  | zero =>
    intro d
    rw [State.freeSession]
    omega
  | succ k ih =>
    intro d
    rw [State.freeSession]
    split
    · exact ih _
    · omega

/-- As many candidates that are taken, so many sessions. -/
theorem sessions_of_taken {d k : Nat} (hk : k ≤ 32) (h : ∀ i < k, (s.sess ((d + i) % 0xFFFE + 1)).isSome = true) : k ≤ s.jnl.sessions.length := by
  have hsub : ((List.range k).map fun i => (d + i) % 0xFFFE + 1) ⊆ s.jnl.sessions.map Sess.id := by
    intro x hx
    obtain ⟨i, hi, rfl⟩ := List.mem_map.1 hx
    obtain ⟨y, hy⟩ := Option.isSome_iff_exists.1 (h i (List.mem_range.1 hi))
    exact List.mem_map.2 ⟨y, List.mem_of_find?_eq_some hy, by simpa using List.find?_some hy⟩
  have hnodup : ((List.range k).map fun i => (d + i) % 0xFFFE + 1).Nodup := by
    refine List.Nodup.map_on (fun i hi j hj hij => ?_) List.nodup_range
    have := List.mem_range.1 hi
    have := List.mem_range.1 hj
    omega
  simpa using (List.subperm_of_subset hnodup hsub).length_le

/-- With fewer than 32 sessions a free identifier is found. -/
theorem freeSession_spec (d : Nat) (h : s.jnl.sessions.length < 32) :
    1 ≤ s.freeSession d 32 ∧ s.freeSession d 32 ≤ 0xFFFE ∧ s.sess (s.freeSession d 32) = none := by
  obtain ⟨hlo, hhi⟩ := freeSession_range s 32 d
  refine ⟨hlo, hhi, (freeSession_free s 32 d).resolve_right fun hall => ?_⟩
  have := sessions_of_taken s (Nat.le_refl 32) hall
  omega

end

/-! The reply to OPEN and the session's new key. -/

theorem jnlSync_only (u : State) : OnlyRegs u u.jnlSync jnlFields := by
  refine .setF (.setF (.setF (.setF (.setF (.setF (.refl u _) _ ?_) _ ?_) _ ?_) _ ?_) _ ?_) _ ?_ <;> decide

/-- The state in which the reply to OPEN is formed: the draws so far, the frames to the twin and the sessions. -/
def State.opening (s : State) (free : Nat) (mirror : List MirFrame) (olds : List Sess) : State :=
  { s with free := free, jnl := { s.jnl with sessions := olds, mirror := mirror, replies := [] } }

/-- A session's pending key is new, and the reply goes out under it. -/
def Opened (s : State) (q : Peer) (nh : List Byte) (id last : Nat) (key : List Byte) (olds : List Sess) (t : State) : Prop :=
  ∃ nd : List Byte, nd.length = 16 ∧
    let sk := Config.kmacKey key (leBytes 2 id ++ nh ++ nd ++ leBytes 2 (s.getF .CLG_NODE_NODE 0) ++ asciiBytes "AG96SES")
    t.jnl = { s.jnl with
      sessions := olds.map (fun x => if x.id = id then { x with newKey := some sk, keyAt := s.tick } else x), mirror := t.jnl.mirror,
      replies := [Tagged s { peer := q, code := 0x10, body := leBytes 2 id ++ nd ++ leBytes 4 (last + 1) ++ leBytes 2 s.jnl.lease } (some sk)] } ∧
    t = { s with free := t.free, regs := t.regs, jnl := t.jnl } ∧ RegsBut s t jnlFields

section
variable (s : State) (free : Nat) (mirror : List MirFrame) (olds : List Sess) (q : Peer) (key nh : List Byte) (id : Nat)

/-- The device's nonce of an OPEN. -/
def openNonce (free : Nat) : List Byte := (List.range 16).map (Config.freeByte free)

/-- The session key that an OPEN agrees on. -/
def openSessKey (s : State) (free : Nat) (key nh : List Byte) (id : Nat) : List Byte :=
  Config.kmacKey key (leBytes 2 id ++ nh ++ openNonce free ++ leBytes 2 (s.getF .CLG_NODE_NODE 0) ++ asciiBytes "AG96SES")

/-- The reply to an OPEN. -/
def openReply (s : State) (q : Peer) (free id last : Nat) : Reply :=
  { peer := q, code := 0x10, body := leBytes 2 id ++ openNonce free ++ leBytes 4 (last + 1) ++ leBytes 2 s.jnl.lease }

/-- What an OPEN leaves before the journal's registers follow. -/
def State.openSent (s : State) (free : Nat) (mirror : List MirFrame) (olds : List Sess) (q : Peer) (key nh : List Byte) (id last : Nat) : State :=
  { s with free := free + 1, jnl := { s.jnl with
    sessions := olds.map (fun x => if x.id = id then { x with newKey := some (openSessKey s free key nh id), keyAt := s.tick } else x), mirror := mirror,
    replies := [Tagged s (openReply s q free id last) (some (openSessKey s free key nh id))] } }

theorem openKey_eq {last : Nat} (hlast : (((s.opening free mirror olds).sess id).getD { id := 0, cred := 0 }).last = last) :
    (s.opening free mirror olds).openKey q key nh id = (s.openSent free mirror olds q key nh id last).jnlSync := by
  rw [State.openKey, hlast]
  rfl

theorem openKey_opened {last : Nat} (hlast : (((s.opening free mirror olds).sess id).getD { id := 0, cred := 0 }).last = last) :
    let t := (s.opening free mirror olds).openKey q key nh id
    Opened s q nh id last key olds t ∧ t.jnl.mirror = mirror ∧ t.jnl = (s.openSent free mirror olds q key nh id last).jnl := by
  obtain ⟨hframe, hregs⟩ := jnlSync_only (s.openSent free mirror olds q key nh id last)
  rw [openKey_eq s free mirror olds q key nh id hlast]
  generalize (s.openSent free mirror olds q key nh id last).jnlSync = t at *
  have hjnl : t.jnl = (s.openSent free mirror olds q key nh id last).jnl := by rw [hframe]
  refine ⟨⟨openNonce free, by simp [openNonce], ?_, ?_, fun f i h => hregs f i h⟩, by rw [hjnl]; rfl, hjnl⟩
  · rw [hjnl]
    rfl
  · rw [hframe]
    rfl

/-! A new session (R389). -/

/-- The sessions with a new one. -/
def State.withSession (s : State) (id cred : Nat) : List Sess := s.jnl.sessions ++ [{ id := id, cred := cred, seen := s.tick }]

theorem withSession_sess (cred : Nat) (h : s.sess id = none) :
    (s.withSession id cred).find? (fun x => x.id == id) = some { id := id, cred := cred, seen := s.tick } := by
  rw [State.withSession, List.find?_append, show s.jnl.sessions.find? (fun x => x.id == id) = none from h, Option.none_or, List.find?_cons,
    beq_self_eq_true]

/-- The record of a session that goes to the twin rests on the sessions and the locks. -/
theorem sessFrame_congr {u v : State} (hs : (u.sess id).map (fun x => (x.cred, x.last)) = (v.sess id).map (fun x => (x.cred, x.last)))
    (hl : u.jnl.locks = v.jnl.locks) : u.sessFrame id = v.sessFrame id := by
  have hmask (p : SLock → Bool) : u.lockMask p = v.lockMask p := by rw [State.lockMask, State.lockMask, hl]
  have hsome : (u.sess id).isSome = (v.sess id).isSome := by
    have := congrArg Option.isSome hs
    simpa using this
  have hcred : ((u.sess id).getD { id := id, cred := 0 }).cred = ((v.sess id).getD { id := id, cred := 0 }).cred ∧
      ((u.sess id).getD { id := id, cred := 0 }).last = ((v.sess id).getD { id := id, cred := 0 }).last := by
    generalize u.sess id = a at hs
    generalize v.sess id = b at hs
    cases a <;> cases b
    · exact ⟨rfl, rfl⟩
    · cases hs
    · cases hs
    · exact ⟨congrArg Prod.fst (Option.some.inj hs), congrArg Prod.snd (Option.some.inj hs)⟩
  rw [State.sessFrame, State.sessFrame, hcred.1, hcred.2, hsome, hmask, hmask]

/-- The new session's record goes to the twin of a mirroring device. -/
theorem mirrorSess_eq (cred : Nat) : ((s.opening free mirror (s.withSession id cred)).mirrorSess id) =
    s.opening free (mirror ++ (if s.role = 3 ∧ s.mirUp = true then [.jnl ((s.opening free mirror (s.withSession id cred)).sessFrame id)] else []))
      (s.withSession id cred) := by
  have hmirrors : (s.opening free mirror (s.withSession id cred)).mirrors = true ↔ s.role = 3 ∧ s.mirUp = true := by
    rw [State.mirrors, Bool.and_eq_true, beq_iff_eq]
    rfl
  rw [State.mirrorSess]
  by_cases h : s.role = 3 ∧ s.mirUp = true
  · rw [if_pos (hmirrors.2 h), if_pos h]
    rfl
  · rw [if_neg (fun h' => h (hmirrors.1 h')), if_neg h, List.append_nil]

/-- A new session's record as it goes to the twin reads in the state behind OPEN too. -/
theorem sessFrame_opened (cred : Nat) {t : State} (m : List MirFrame) (h : t.jnl = (s.openSent free m (s.withSession id cred) q key nh id 0).jnl) :
    t.sessFrame id = (s.opening free mirror (s.withSession id cred)).sessFrame id := by
  refine sessFrame_congr id ?_ (by rw [h]; rfl)
  have hsess : t.sess id = ((s.withSession id cred).find? (fun x => x.id == id)).map
      (fun x => if x.id = id then { x with newKey := some (openSessKey s free key nh id), keyAt := s.tick } else x) := by
    rw [State.sess, h]
    exact find_session_map _ (fun x => by split <;> rfl) id
  have hsess' : (s.opening free mirror (s.withSession id cred)).sess id = (s.withSession id cred).find? (fun x => x.id == id) := rfl
  rw [hsess, hsess', Option.map_map]
  congr 1
  funext x
  rw [Function.comp]
  split <;> rfl

end

section
variable {s : State} {q : Peer} {cred : Byte} {resume : BitVec 16} {nh key : List Byte} {m : Byte}

/-- OPEN reaches its stage. -/
theorem openSession_stage (hans : s.answers q = true) (hmin : s.minimal = false) (hbring : s.bringup = none) (hmade : cred.toNat < 16 ∧ nh.length = 16) :
    exec (.openSession q cred resume nh) s = .next (s.noReplies.openStage q cred.toNat resume.toNat nh) := by
  have hexec : exec (.openSession q cred resume nh) s = .next (s.noReplies.openReq q cred.toNat resume.toNat nh) :=
    congrArg Host.Outcome.next (sessionless_go s hans _)
  rw [hexec, State.openReq, show s.noReplies.minimal = false from hmin, if_neg Bool.false_ne_true, if_neg (by omega),
    show s.noReplies.bringup = none from hbring]

theorem openStage_cred (hcred : s.cred cred.toNat = some (m, key)) : s.noReplies.openStage q cred.toNat resume.toNat nh =
    if resume.toNat = 0 then
      if 32 ≤ s.jnl.sessions.length then s.noReplies.replyN q 0x10 0x25 []
      else ((s.opening (s.free + 1) s.jnl.mirror (s.withSession (s.noReplies.freeSession (Config.freeWord s.free).toNat 32) cred.toNat)).mirrorSess
        (s.noReplies.freeSession (Config.freeWord s.free).toNat 32)).openKey q key nh (s.noReplies.freeSession (Config.freeWord s.free).toNat 32)
    else match s.sess resume.toNat with
      | none => s.noReplies.replyN q 0x10 0x11 []
      | some x => if x.cred = cred.toNat then s.noReplies.openKey q key nh resume.toNat else s.noReplies.replyN q 0x10 0x11 [] := by
  rw [State.openStage, show s.noReplies.cred cred.toNat = some (m, key) from hcred]
  rfl

/-- OPEN of a new session. -/
theorem openSession_new (hans : s.answers q = true) (hmin : s.minimal = false) (hbring : s.bringup = none) (hmade : cred.toNat < 16 ∧ nh.length = 16)
    (hcred : s.cred cred.toNat = some (m, key)) (h0 : resume = 0#16) (hroom : s.jnl.sessions.length < 32) :
    Answers (.openSession q cred resume nh) s (fun t => ∃ id, 1 ≤ id ∧ id ≤ 0xFFFE ∧ s.sess id = none ∧
      t.jnl.mirror = s.jnl.mirror ++ (if s.role = 3 ∧ s.mirUp = true then [.jnl (t.sessFrame id)] else []) ∧
      Opened s q nh id 0 key (s.withSession id cred.toNat) t) := by
  have hexec := openSession_stage (resume := resume) hans hmin hbring hmade
  rw [openStage_cred hcred, if_pos (by rw [h0]; rfl), if_neg (Nat.not_le.2 hroom)] at hexec
  obtain ⟨hlo, hhi, hfree⟩ := freeSession_spec s.noReplies (Config.freeWord s.free).toNat hroom
  generalize s.noReplies.freeSession (Config.freeWord s.free).toNat 32 = id at *
  rw [mirrorSess_eq s (s.free + 1) s.jnl.mirror id cred.toNat] at hexec
  have hlast : (((s.opening (s.free + 1) (s.jnl.mirror ++ (if s.role = 3 ∧ s.mirUp = true then
      [.jnl ((s.opening (s.free + 1) s.jnl.mirror (s.withSession id cred.toNat)).sessFrame id)] else [])) (s.withSession id cred.toNat)).sess id).getD
        { id := 0, cred := 0 }).last = 0 := by
    rw [State.sess]
    exact congrArg (fun x => (Option.getD x { id := 0, cred := 0 }).last) (withSession_sess s id cred.toNat hfree)
  obtain ⟨hopened, hmirror, hjnl⟩ := openKey_opened s (s.free + 1) _ _ q key nh id hlast
  refine ⟨_, hexec, id, hlo, hhi, hfree, ?_, hopened⟩
  rw [hmirror, sessFrame_opened s (s.free + 1) s.jnl.mirror q key nh id cred.toNat _ hjnl]

/-- OPEN that resumes a session. -/
theorem openSession_resume {x : Sess} (hans : s.answers q = true) (hmin : s.minimal = false) (hbring : s.bringup = none)
    (hmade : cred.toNat < 16 ∧ nh.length = 16) (hcred : s.cred cred.toNat = some (m, key)) (h0 : resume ≠ 0#16) (hx : s.sess resume.toNat = some x)
    (hxc : x.cred = cred.toNat) : Answers (.openSession q cred resume nh) s (fun t =>
      Opened s q nh resume.toNat x.last key s.jnl.sessions t ∧ t.jnl.mirror = s.jnl.mirror) := by
  have hne : resume.toNat ≠ 0 := fun h => h0 (BitVec.eq_of_toNat_eq h)
  have hexec := openSession_stage (resume := resume) hans hmin hbring hmade
  rw [openStage_cred hcred, if_neg hne, hx] at hexec
  dsimp only at hexec
  rw [if_pos hxc] at hexec
  have hlast : (((s.opening s.free s.jnl.mirror s.jnl.sessions).sess resume.toNat).getD { id := 0, cred := 0 }).last = x.last := by
    rw [show (s.opening s.free s.jnl.mirror s.jnl.sessions).sess resume.toNat = some x from hx]
    rfl
  obtain ⟨hopened, hmirror, -⟩ := openKey_opened s s.free s.jnl.mirror s.jnl.sessions q key nh resume.toNat hlast
  exact ⟨_, hexec, hopened, hmirror⟩


/-- OPEN with a credential that there is not, or with no room or no session to resume, is refused. -/
theorem openSession_refused {st : Nat} (hans : s.answers q = true) (hmin : s.minimal = false) (hbring : s.bringup = none)
    (hmade : cred.toNat < 16 ∧ nh.length = 16)
    (h : s.noReplies.openStage q cred.toNat resume.toNat nh = s.noReplies.replyN q 0x10 st []) :
    Answers (.openSession q cred resume nh) s (Replies { peer := q, code := 0x10, status := st } none s) :=
  ⟨_, openSession_stage hans hmin hbring hmade, by rw [h]; exact replyN_replies s q _ _ _⟩

/-- A pending key that is not used in time is forgotten, at `due`. -/
theorem sessionKeyTimeout_clause {x : Sess} {sid : BitVec 16} {due : Nat} (hdue : due = x.keyAt + 5 * second) (hx : s.sess sid.toNat = some x)
    (hnew : x.newKey ≠ none) (hruns : s.coresRun = true) : Answers (.sessionKeyTimeout sid) s (fun t =>
    t = { s.passTo due with jnl := { s.jnl with sessions := s.jnl.sessions.map (fun x => if x.id = sid.toNat then { x with newKey := none } else x) } }) := by
  have hexec : exec (.sessionKeyTimeout sid) s = .next ((s.passTo due).modSess sid.toNat (fun y => { y with newKey := none })) := by
    change execSessionKeyTimeout sid s = _
    rw [execSessionKeyTimeout, hx, hdue]
    exact congrArg Host.Outcome.next (if_pos (by rw [hruns, Option.isSome_iff_ne_none.2 hnew]; rfl))
  have hjnl : (s.passTo due).jnl = s.jnl := by rw [s.passTo_frame due]
  exact ⟨_, hexec, by rw [← hjnl]; rfl⟩

end

/-! Malformed datagrams (R386, R388, R394). -/

section
variable {s : State} {q : Peer} {raw : List Byte}

/-- A datagram whose code belongs to no session. -/
def PlainCode (raw : List Byte) : Prop := codesN.contains (hdr raw 6 2) = true ∨ (hdr raw 4 2 = 0 ∧ (codesU ++ codesS).contains (hdr raw 6 2) = false)

theorem badformat_exec (hans : s.answers q = true) (hbad : rawOk raw = false) :
    exec (.badformatRequest q raw) s = .next (s.noReplies.badDatagram q raw) := by
  change execBadformatRequest q raw s = _
  rw [execBadformatRequest, hbad, if_neg Bool.false_ne_true, sessionless_go s hans]

theorem badDatagram_short (h : raw.length < 32) : s.badDatagram q raw = s := if_pos h

theorem badDatagram_plain (hlen : 32 ≤ raw.length) (h : PlainCode raw) : s.badDatagram q raw = s.replyN q (hdr raw 6 2)
    (if s.minimal = true ∧ ¬(1 ≤ hdr raw 6 2 ∧ hdr raw 6 2 ≤ 4) then 0x31 else 0x10) [] := by
  rw [State.badDatagram, if_neg (Nat.not_lt.2 hlen)]
  refine (if_pos h).trans ?_
  simp only [Bool.and_eq_true, Bool.not_eq_true', decide_eq_false_iff_not]
  rfl

theorem badDatagram_sessioned (hlen : 32 ≤ raw.length) (h : ¬PlainCode raw) : s.badDatagram q raw =
    match s.bringup with
    | some st => s.sendAs none { peer := q, session := hdr raw 4 2, code := hdr raw 6 2, seq := hdr raw 8 4, status := st }
    | none => if s.rawAuth raw then ((s.rawKey raw).renew (hdr raw 4 2)).submit (.bad q (hdr raw 4 2) (hdr raw 6 2) (hdr raw 8 4))
      else s.countF .JNL_CNT0_BADTAG 0 1 := by
  rw [State.badDatagram, if_neg (Nat.not_lt.2 hlen)]
  exact if_neg h

/-- A valid tag leaves what waits. -/
theorem rawKey_waits (s : State) (raw : List Byte) : ((s.rawKey raw).renew (hdr raw 4 2)).jnl.waiting = s.jnl.waiting ∧
    ((s.rawKey raw).renew (hdr raw 4 2)).jnl.queue = s.jnl.queue := ⟨rfl, rfl⟩

theorem inTurn_rawKey (id : Nat) : InTurn id ((s.rawKey raw).renew (hdr raw 4 2)).noReplies ↔ InTurn id s := by
  obtain ⟨hw, hq⟩ := rawKey_waits s raw
  exact inTurn_congr (u := ((s.rawKey raw).renew (hdr raw 4 2)).noReplies) hw hq

/-- A malformed datagram with a valid tag is decided in its session's order. -/
theorem badformat_authentic (hans : s.answers q = true) (hbad : rawOk raw = false) (hlen : 32 ≤ raw.length) (h : ¬PlainCode raw)
    (hbring : s.bringup = none) (hauth : s.rawAuth raw = true) : exec (.badformatRequest q raw) s =
      .next (((s.rawKey raw).renew (hdr raw 4 2)).noReplies.submit (.bad q (hdr raw 4 2) (hdr raw 6 2) (hdr raw 8 4))) := by
  rw [badformat_exec hans hbad, badDatagram_sessioned hlen h, show s.noReplies.bringup = none from hbring]
  exact congrArg Host.Outcome.next (if_pos hauth)

theorem badformat_untagged (hans : s.answers q = true) (hbad : rawOk raw = false) (hlen : 32 ≤ raw.length) (h : ¬PlainCode raw)
    (hbring : s.bringup = none) (hauth : s.rawAuth raw = false) :
    exec (.badformatRequest q raw) s = .next (s.noReplies.setAll [(.JNL_CNT0_BADTAG, 0, min 65535 (s.getF .JNL_CNT0_BADTAG 0 + 1))]) := by
  have hauth' : ¬s.noReplies.rawAuth raw = true := by
    rw [show s.noReplies.rawAuth raw = s.rawAuth raw from rfl, hauth]
    exact Bool.false_ne_true
  rw [badformat_exec hans hbad, badDatagram_sessioned hlen h, show s.noReplies.bringup = none from hbring]
  exact congrArg Host.Outcome.next (if_neg hauth')

end

theorem recoveryNoted_eq (t : State) (q : Peer) (c : Recovery) : (t.modJnl (fun j => { j with recovery := some c })).replyN q 4 0 [] =
    { t with jnl := { t.jnl with recovery := some c, replies := t.jnl.replies ++ [Tagged t { peer := q, code := 4 } none] } } := rfl

/-- A recovery opened takes the place of the one heard. -/
theorem recovery_opened {s : State} {q : Peer} (c : Recovery) : (s.recoveryHeard.noReplies.modJnl (fun j => { j with recovery := some c })).replyN q 4 0 [] =
    { s with jnl := { s.jnl with recovery := some c, replies := [Tagged s { peer := q, code := 4 } none] } } := by
  have htag : Tagged s.recoveryHeard.noReplies { peer := q, code := 4 } none = Tagged s { peer := q, code := 4 } none := rfl
  rw [recoveryNoted_eq, htag]
  rfl

/-- Settles O20: one lemma for each request, behind those about who is answered. -/
theorem sessionlessRequests : Obligations.SessionlessRequests := by
  intro q total off data nh raw cred resume sid s ans touched reply tells mm base wellMade serve opened reset again broken plain
  refine ⟨fun hans => ?_, fun hans => ?_, fun hans hs => ?_, fun hans hmin hstage => ?_, fun hmm hlen => ?_, fun hmm hlen => ?_, fun c hans hmin hc hne => ?_,
    fun c hmm hc hoff h1 hlen htot => fwRecoverData_clause hmm.1 hmm.2.1 hmm.2.2 hc hoff h1 hlen htot, fun c hmm hc hoff hlast => ?_,
    fun c hmm hc hgot => ?_, fun c k hmm hc hgot hk h0 h16 => fwRecoverCommit_fails hmm.1 hmm.2.1 hmm.2.2 hc hgot hk h0 h16,
    fun c hmm hc hgot hk => fwRecoverCommit_passes hmm.1 hmm.2.1 hmm.2.2 hc hgot hk ⟨rfl, rfl, rfl, rfl⟩,
    fun hmm hr => fwRecoverRetry_clause hmm.1 hmm.2.1 hmm.2.2 hr ⟨rfl, rfl, rfl, rfl⟩,
    fun hmm h3 h6 => fwRecoverRetry_refused hmm.1 hmm.2.1 hmm.2.2 h3 h6, fun c hc hruns => recoveryIdleTimeout_clause rfl hc hruns,
    fun hans hmin => ?_, fun hans hmin hmade => ?_, fun st hans hmin hmade hst => ?_, fun ⟨hans, hmin, hbring, hmade⟩ hcred => ?_,
    fun m key ⟨hans, hmin, hbring, hmade⟩ hcred h0 hroom => openSession_new hans hmin hbring hmade hcred h0 hroom,
    fun m key ⟨hans, hmin, hbring, hmade⟩ hcred h0 hfull => openSession_refused hans hmin hbring hmade ?_,
    fun m key x ⟨hans, hmin, hbring, hmade⟩ hcred h0 hx hxc => openSession_resume hans hmin hbring hmade hcred h0 hx hxc,
    fun m key ⟨hans, hmin, hbring, hmade⟩ hcred h0 hx => openSession_refused hans hmin hbring hmade ?_,
    fun x hx hnew hruns => sessionKeyTimeout_clause rfl hx hnew hruns, fun hans hbad hlen => ⟨_, badformat_exec hans hbad, badDatagram_short hlen⟩,
    fun hans hb hplain => ⟨_, badformat_exec hans hb.1, ?_⟩, fun st hans hb hplain hst => ⟨_, badformat_exec hans hb.1, ?_⟩,
    fun hans hb hplain hbring hauth => ⟨fun hturn => ?_, ?_⟩, fun hans hb hplain hbring hauth =>
      .of_setAll (badformat_untagged hans hb.1 hb.2 hplain hbring hauth) (List.nodup_singleton _) (by simp [show Fld.JNL_CNT0_BADTAG.width = 16 from rfl]) rfl⟩
  · have hquiet (go : State → State) : s.sessionless q go = s.noReplies := sessionless_silent s hans go
    simp only [List.mem_cons, List.not_mem_nil, or_false, forall_eq_or_imp, forall_eq]
    have hrec (go : State → State) : s.recovering q go = s.noReplies := hquiet _
    exact ⟨⟨_, rfl, hquiet _⟩, ⟨_, rfl, hquiet _⟩, ⟨_, rfl, hquiet _⟩, ⟨_, rfl, hrec _⟩, ⟨_, rfl, hrec _⟩, ⟨_, rfl, hrec _⟩, ⟨_, rfl, hrec _⟩,
      ⟨_, rfl, hquiet _⟩⟩
  · simp only [List.mem_cons, List.not_mem_nil, or_false, forall_eq_or_imp, forall_eq]
    exact ⟨⟨_, rfl, s.noReplies.freeBody.1, by rw [sessionless_go s hans]; exact replyN_replies { s with free := s.free + 1 } q _ _ _⟩,
      ⟨_, rfl, s.noReplies.freeBody.1, by rw [sessionless_go s hans]; exact replyN_replies { s with free := s.free + 1 } q _ _ _⟩⟩
  · have hin : s.noReplies.inS1 = false := by
      rw [State.inS1, show s.noReplies.minimal = s.minimal from rfl, show s.noReplies.stage = s.stage from rfl]
      rcases hs with h | h
      · rw [h, Bool.not_true, Bool.and_false]
      · rw [decide_eq_false h, Bool.false_and]
    refine ⟨_, rfl, ?_⟩
    rw [sessionless_go s hans, hin]
    exact replyN_replies s q _ _ _
  · refine ⟨_, rfl, ?_⟩
    rw [State.recovering, sessionless_go s hans, show s.noReplies.minimal = false from hmin, show s.noReplies.stage = s.stage from rfl, if_neg hstage]
    exact replyN_replies s q _ _ _
  · refine ⟨_, congrArg Host.Outcome.next (recovering_own hmm.1 hmm.2.1 hmm.2.2 _), ?_⟩
    rw [recoverBegin_fits _ hlen]
    exact recovery_opened _
  · refine ⟨_, congrArg Host.Outcome.next (recovering_own hmm.1 hmm.2.1 hmm.2.2 _), ?_⟩
    rw [recoverBegin_long _ hlen]
    exact replyN_replies s.recoveryHeard q _ _ _
  · have hbusy (go : State → State) : reply 4 0x14 [] (s.recovering q go) := by
      rw [recovering_other hans hmin hc hne]
      exact replyN_replies s q _ _ _
    simp only [List.mem_cons, List.not_mem_nil, or_false, forall_eq_or_imp, forall_eq]
    exact ⟨⟨_, rfl, hbusy _⟩, ⟨_, rfl, hbusy _⟩, ⟨_, rfl, hbusy _⟩, ⟨_, rfl, hbusy _⟩⟩
  · have hheard : s.recoveryHeard.noReplies.jnl.recovery = some { c with seen := s.tick } := congrArg (Option.map _) hc
    refine ⟨_, congrArg Host.Outcome.next (recovering_own hmm.1 hmm.2.1 hmm.2.2 _), ?_⟩
    rw [recoverData_seq hheard hoff hlast]
    exact replyN_replies s.recoveryHeard q _ _ _
  · have hheard : s.recoveryHeard.noReplies.jnl.recovery = some { c with seen := s.tick } := congrArg (Option.map _) hc
    refine ⟨_, congrArg Host.Outcome.next (recovering_own hmm.1 hmm.2.1 hmm.2.2 _), ?_⟩
    rw [recoverCommit_some hheard, if_pos hgot]
    exact replyN_replies s.recoveryHeard q _ _ _
  · refine ⟨_, congrArg Host.Outcome.next (sessionless_go s hans _), ?_⟩
    rw [State.openReq, show s.noReplies.minimal = true from hmin, if_pos rfl]
    exact replyN_replies s q _ _ _
  · refine ⟨_, congrArg Host.Outcome.next (sessionless_go s hans _), ?_⟩
    have hbad : 16 ≤ cred.toNat ∨ nh.length ≠ 16 := (not_and_or.1 hmade).imp_left Nat.not_lt.1
    rw [State.openReq, show s.noReplies.minimal = false from hmin, if_neg Bool.false_ne_true, if_pos hbad]
    exact replyN_replies s q _ _ _
  · refine ⟨_, congrArg Host.Outcome.next (sessionless_go s hans _), ?_⟩
    rw [State.openReq, show s.noReplies.minimal = false from hmin, if_neg Bool.false_ne_true, if_neg (by have := hmade.1; have := hmade.2; omega),
      show s.noReplies.bringup = some st from hst]
    exact replyN_replies s q _ _ _
  · refine openSession_refused hans hmin hbring hmade ?_
    rw [State.openStage, show s.noReplies.cred cred.toNat = none from hcred]
    rfl
  · rw [openStage_cred hcred, if_pos (by rw [h0]; rfl), if_pos hfull]
  · have hne : resume.toNat ≠ 0 := fun h => h0 (BitVec.eq_of_toNat_eq h)
    rw [openStage_cred hcred, if_neg hne]
    cases hs : s.sess resume.toNat with
    | none => rfl
    | some x => exact if_neg (hx x hs)
  · rw [badDatagram_plain hb.2 hplain]
    exact replyN_replies s q _ _ _
  · rw [badDatagram_sessioned hb.2 hplain, show s.noReplies.bringup = some st from hst]
    rfl
  · have hturn' : InTurn (hdr raw 4 2) ((s.rawKey raw).renew (hdr raw 4 2)).noReplies := (inTurn_rawKey _).2 hturn
    refine ⟨_, badformat_authentic hans hb.1 hb.2 hplain hbring hauth, ?_⟩
    rw [submit_inTurn (q := .bad q (hdr raw 4 2) (hdr raw 6 2) (hdr raw 8 4)) hturn']
    exact send_replies _ _
  · exact outOfTurn_of_submit (badformat_authentic hans hb.1 hb.2 hplain hbring hauth) rfl (rawKey_waits s raw).1 (rawKey_waits s raw).2 (send_replies _ _)

end Sys2Proof.Machine
end

section
/-! The enable of the angle timebase (R32, R44, R75, R447). -/
namespace Sys2Proof.Machine

-- The proofs one after another: all at once they would need more threads, and their stacks, than the check's memory holds.
set_option Elab.async false

/-- The fields that the boundary an enable marks leaves as the start of the timebase made them. -/
def startFields : List Fld := [.ATU_CTRL_EN, .ATU_STAT_ENST, .ATU_FRETNUM_FRETNUM, .ATU_FREQ_FREQ, .ATU_STAT_SRC, .ARM_DEF_DEF]

/-- A lane in the new fret: its receive buffers flip. -/
def LaneSt.flipped (l : LaneSt) : LaneSt := { l with
  rx := l.fill, fill := {}, dlyWait := false, dlyOut := if l.dlyWait then [] else l.dlyOut,
  released := none, convFret := none, cmdFret := none, ack := none }

/-- What the boundary an enable marks leaves as it stands in `u`: the start's fields, the time, the angle, the memory, the lanes and the arms. -/
structure StartKept (u s : State) : Prop where
  regs : ∀ f ∈ startFields, ∀ i, s.getF f i = u.getF f i
  tick : s.tick = u.tick
  acc : s.atu.acc = u.atu.acc
  mem : ∀ a, s.byte a = u.byte a
  lanes : s.lanes = u.lanes
  arms : s.arms = u.arms

section
variable {u s : State} (hs : StartKept u s)
include hs

theorem StartKept.setF {f : Fld} {i v : Nat} (hf : startFields.contains f = false := by rfl) : StartKept u (s.setF f i v) where
  regs g hg j := (s.getF_setF_ne i j v (by
    rintro rfl
    rw [List.contains_iff_mem.2 hg] at hf
    cases hf)).trans (hs.regs g hg j)
  tick := hs.tick
  acc := hs.acc
  mem := hs.mem
  lanes := hs.lanes
  arms := hs.arms

/-- What the predicate reads is the same. -/
theorem StartKept.upd {t : State} (hr : t.regs = s.regs := by rfl) (ht : t.tick = s.tick := by rfl) (ha : t.atu.acc = s.atu.acc := by rfl)
    (hm : t.mem = s.mem := by rfl) (hlost : t.lost = s.lost := by rfl) (hl : t.lanes = s.lanes := by rfl) (harms : t.arms = s.arms := by rfl) :
    StartKept u t where
  regs f hf i := by
    rw [State.getF, hr]
    exact hs.regs f hf i
  tick := ht.trans hs.tick
  acc := ha.trans hs.acc
  mem a := (State.byte_congr hm hlost a).trans (hs.mem a)
  lanes := hl.trans hs.lanes
  arms := harms.trans hs.arms

omit hs in
theorem StartKept.ite {c : Prop} [Decidable c] {x y : State} (hx : StartKept u x) (hy : StartKept u y) : StartKept u (if c then x else y) := by
  split
  · exact hx
  · exact hy

theorem StartKept.foldl {α : Type} {f : State → α → State} {l : List α} (hf : ∀ t x, StartKept u t → StartKept u (f t x)) : StartKept u (l.foldl f s) :=
  List.foldlRecOn (motive := StartKept u) l f hs fun t ht x _ => hf t x ht

theorem StartKept.forIdx {n : Nat} {f : Fin n → State → State} (hf : ∀ t i, StartKept u t → StartKept u (f i t)) : StartKept u (forIdx f s) :=
  hs.foldl fun t i => hf t i

theorem StartKept.setBit {f i b} (hf : startFields.contains f = false := by rfl) : StartKept u (s.setBit f i b) := hs.setF hf

theorem StartKept.setWhen {c f i v} (hf : startFields.contains f = false := by rfl) : StartKept u (s.setWhen c f i v) := .ite (hs.setF hf) hs

theorem StartKept.modCe {n f} : StartKept u (s.modCe n f) := .upd hs

theorem StartKept.modAdc {m f} : StartKept u (s.modAdc m f) := .upd hs

theorem StartKept.modTwin {f} : StartKept u (s.modTwin f) := .upd hs

/-! A task that overran ends, and a program image is activated (R144, R152). -/

theorem StartKept.toggleBank {n} : StartKept u (s.toggleBank n) := by
  unfold State.toggleBank
  extract_lets held shown s1
  have h1 : StartKept u s1 := .forIdx hs fun _ _ ht => .setF ht
  exact .modCe (.setF h1)

theorem StartKept.actSwap : StartKept u s.actSwap := by
  unfold State.actSwap
  extract_lets s0 _ s1 mask _ s2
  have h1 : StartKept u s0 := .foldl hs fun _ _ ht => .toggleBank ht
  have h2 : StartKept u s2 := .upd h1
  exact .setF (.setF (.setF h2))

theorem StartKept.actOffDone : StartKept u s.actOffDone := .ite (.actSwap hs) hs

theorem StartKept.endTask {n cyc} : StartKept u (s.endTask n cyc) := .actOffDone (.modCe (.setWhen (.setWhen (.setF (.setF (.setBit hs))))))

theorem StartKept.overrunEnd {n} : StartKept u (s.overrunEnd n) := .endTask (.setF hs)

theorem StartKept.overrunCheck {n} : StartKept u (s.overrunCheck n) := .ite (.ite (.modCe hs) (.overrunEnd hs)) hs

theorem StartKept.activate : StartKept u s.activate := .actSwap (.foldl (.setF hs) fun _ _ ht => .ite (.overrunEnd ht) ht)

theorem StartKept.actBoundary : StartKept u s.actBoundary := .ite (.activate hs) hs

/-! The swaps (R69, R230). -/

theorem StartKept.clgSwapNow : StartKept u s.clgSwapNow := .setF (.setF (.setF (.foldl hs fun _ _ ht => .setF ht)))

theorem StartKept.clgBoundary : StartKept u s.clgBoundary := .ite (.clgSwapNow hs) hs

theorem StartKept.fretSwapNow : StartKept u s.fretSwapNow := .setF (.setF (.setF (.setF hs)))

theorem StartKept.fretOffCheck : StartKept u s.fretOffCheck := .ite (.fretSwapNow hs) hs

theorem StartKept.fretSwapBoundary : StartKept u s.fretSwapBoundary := .ite (.fretSwapNow hs) hs

theorem StartKept.fretReachOff : StartKept u s.fretReachOff := by
  unfold State.fretReachOff
  exact .fretOffCheck (.setF (.upd hs))

theorem StartKept.swapStep : StartKept u s.swapStep := .actBoundary (.clgBoundary (.fretSwapBoundary hs))

/-! The other steps of the boundary. -/

theorem StartKept.scanEnd {m} : StartKept u (s.scanEnd m) := by
  unfold State.scanEnd
  split
  · exact .ite (.setF (.modAdc hs)) hs
  · exact hs

theorem StartKept.adcNext {m} : StartKept u (s.adcNext m) := by
  unfold State.adcNext
  refine .ite hs ?_
  extract_lets s1
  have h1 : StartKept u s1 := .scanEnd hs
  split
  · exact .modAdc h1
  · split
    · exact .modAdc h1
    · exact h1
  · exact h1

theorem StartKept.atuSample {x angle code} : StartKept u (s.atuSample x angle code) := by
  unfold State.atuSample
  exact .ite hs (.ite (.upd hs) (.upd hs))

theorem StartKept.atuRequest {x} : StartKept u (s.atuRequest x) := by
  unfold State.atuRequest
  exact .ite (.adcNext (.modAdc hs)) (.atuSample (.upd hs))

theorem StartKept.atuConversions : StartKept u s.atuConversions := by
  unfold State.atuConversions
  exact .ite (.upd hs) (.foldl (.upd hs) fun _ _ ht => .atuRequest ht)

theorem StartKept.latchTwin : StartKept u s.latchTwin := by
  unfold State.latchTwin
  extract_lets s0
  have h1 : StartKept u s0 := by
    unfold s0
    split
    · exact .modTwin (.setF hs)
    · exact hs
  exact .setF (.setF (.setF (.setF h1)))

theorem StartKept.queueTb : StartKept u s.queueTb := .upd hs

theorem StartKept.flipRx : StartKept u.flipRx s.flipRx where
  regs := hs.regs
  tick := hs.tick
  acc := hs.acc
  mem := hs.mem
  lanes := congrArg (fun l => l.map LaneSt.flipped) hs.lanes
  arms := congrArg (fun l => l.map (fun x : ArmSt => { x with released := none })) hs.arms

theorem StartKept.dispatchStep : StartKept u s.dispatchStep := by
  unfold State.dispatchStep
  extract_lets s1 c r
  have h1 : StartKept u s1 := .ite (.fretReachOff hs) hs
  exact .upd h1

theorem StartKept.boundaryChecks : StartKept u s.boundaryChecks :=
  .setF (.forIdx (.forIdx hs fun _ _ ht => .overrunCheck ht) fun _ _ ht => .ite (.setWhen ht) ht)

end

/-- What the boundary that an enable marks does to the start's state. -/
theorem atuFirst_spec (u : State) : StartKept u.flipRx u.atuFirst := by
  have h : StartKept u u.boundaryChecks.swapStep := .swapStep (.boundaryChecks ⟨fun _ _ _ => rfl, rfl, rfl, fun _ => rfl, rfl, rfl⟩)
  exact .atuConversions (.dispatchStep (.queueTb (.latchTwin (.modTwin (.flipRx h)))))

/-! The loss of the source in use (R58). -/

/-- What the loss of a source may set in the registers. -/
def lossKeys : List (Fld × Nat) :=
  [(.ATU_FREQ_FREQ, 0), (.ATU_STAT_HOLDOVER, 0), (.ATU_STAT_SRCLOSS, 0), (.ATU_STAT_SLEWING, 0), (.ATU_STAT_LOCKED, 0)]

/-- The registers of a source's loss, the applied word apart. -/
def lossFlags : List (Fld × Nat × Nat) := [(.ATU_STAT_HOLDOVER, 0, 1), (.ATU_STAT_SRCLOSS, 0, 1), (.ATU_STAT_SLEWING, 0, 0), (.ATU_STAT_LOCKED, 0, 0)]

/-- The state in which the loss of a source is shown. -/
def State.losing (s : State) : State :=
  { s with atu := { s.atu with autoWord := if s.bit .ATU_CFG_AUTOFREE 0 then some s.atu.tracked else s.atu.autoWord, lockFrom := none } }

section
variable (s : State)

/-- The source in use is lost where it is not the free-running word and not lost already. -/
theorem sourceLost_eq (hon : s.atuOn = true) (hsrc : s.src ≠ 2) (hhold : s.holdover = false) :
    s.sourceLost = s.losing.setAll (if s.twin.follow then lossFlags else (.ATU_FREQ_FREQ, 0, s.atu.tracked) :: lossFlags) := by
  have hsrc' : (s.src != srcFree) = true := bne_iff_ne.2 hsrc
  rw [State.sourceLost, hon, hsrc', hhold]
  cases h : s.twin.follow
  · rfl
  · rfl

theorem sourceLost_idle (h : s.atuOn = false ∨ s.src = 2 ∨ s.holdover = true) : s.sourceLost = s := by
  refine if_neg ?_
  rcases h with h | h | h
  · rw [h]
    exact Bool.false_ne_true
  · rw [h, show (2 != srcFree) = false from rfl, Bool.and_false]
    exact Bool.false_ne_true
  · rw [h, Bool.not_true, Bool.and_false]
    exact Bool.false_ne_true

theorem sourceLost_cases : s.sourceLost = s ∨
    s.sourceLost = s.losing.setAll (if s.twin.follow then lossFlags else (.ATU_FREQ_FREQ, 0, s.atu.tracked) :: lossFlags) := by
  rcases Classical.em (s.src = 2) with hsrc | hsrc
  · exact .inl (sourceLost_idle s (.inr (.inl hsrc)))
  · cases hon : s.atuOn
    · exact .inl (sourceLost_idle s (.inl hon))
    · cases hhold : s.holdover
      · exact .inr (sourceLost_eq s hon hsrc hhold)
      · exact .inl (sourceLost_idle s (.inr (.inr hhold)))

/-- The loss of a source touches the angle timebase's fields alone. -/
theorem sourceLost_regsBut : RegsBut s s.sourceLost lossKeys := by
  rcases sourceLost_cases s with h | h
  · rw [h]
    exact .refl s _
  · rw [h]
    refine (State.setAll_regsBut s.losing _).mono ?_
    split
    · decide
    · exact fun e he => he

theorem sourceLost_frame : s.sourceLost = { s with regs := s.sourceLost.regs, atu := { s.atu with
    autoWord := s.sourceLost.atu.autoWord, lockFrom := s.sourceLost.atu.lockFrom } } := by
  rcases sourceLost_cases s with h | h
  · rw [h]
  · rw [h]
    generalize (if s.twin.follow then lossFlags else (Fld.ATU_FREQ_FREQ, 0, s.atu.tracked) :: lossFlags) = l
    rw [State.setAll_frame]
    rfl

/-- The word applied after a loss is the last tracked one, or that of the twin. -/
theorem sourceLost_freq (h : s.getF .ATU_FREQ_FREQ 0 = s.atu.tracked) (hlt : s.atu.tracked < 2 ^ 32) :
    s.sourceLost.getF .ATU_FREQ_FREQ 0 = s.getF .ATU_FREQ_FREQ 0 := by
  have hflags (u : State) : (u.setAll lossFlags).getF .ATU_FREQ_FREQ 0 = u.getF .ATU_FREQ_FREQ 0 := (State.setAll_regsBut u lossFlags).getF_eq (by decide) 0
  rcases sourceLost_cases s with h' | h'
  · rw [h']
  · rw [h']
    split
    · exact hflags s.losing
    · rw [State.setAll_cons, hflags, State.getF_setF_same, h]
      exact Nat.mod_eq_of_lt hlt

/-- The check of the source in use, and its loss. -/
theorem sourceCheck_spec : let t := s.sourceCheck
    t = { s with regs := t.regs, atu := { s.atu with autoWord := t.atu.autoWord, lockFrom := t.atu.lockFrom } } ∧
      RegsBut s t ((.ATU_STAT_SRCERR, 0) :: lossKeys) ∧ (s.getF .ATU_FREQ_FREQ 0 = s.atu.tracked → s.atu.tracked < 2 ^ 32 → t.getF .ATU_FREQ_FREQ 0 = s.getF .ATU_FREQ_FREQ 0) := by
  have hframe := s.setWhen_frame ((s.src == srcAdc && s.adcselBad) || s.svVchBad) .ATU_STAT_SRCERR 0 1
  have hbut : RegsBut s (s.setWhen ((s.src == srcAdc && s.adcselBad) || s.svVchBad) .ATU_STAT_SRCERR 0 1) [(.ATU_STAT_SRCERR, 0)] :=
    (RegsBut.refl s _).setWhen (List.mem_cons_self ..) _ _
  rw [State.sourceCheck]
  dsimp only
  generalize s.setWhen ((s.src == srcAdc && s.adcselBad) || s.svVchBad) .ATU_STAT_SRCERR 0 1 = w at *
  have hsub : [(.ATU_STAT_SRCERR, 0)] ⊆ ((.ATU_STAT_SRCERR, 0) :: lossKeys : List (Fld × Nat)) := by decide
  have hfreq : w.getF .ATU_FREQ_FREQ 0 = s.getF .ATU_FREQ_FREQ 0 := hbut.getF_eq (by decide) 0
  have htracked : w.atu = s.atu := by rw [hframe]
  split
  · refine ⟨?_, (hbut.mono hsub).trans ((sourceLost_regsBut w).mono (List.subset_cons_self _ _)), fun h hlt => ?_⟩
    · have hlost := sourceLost_frame w
      generalize w.sourceLost = z at *
      rw [hlost, hframe]
    · rw [sourceLost_freq w (by rw [hfreq, h, htracked]) (by rw [htracked]; exact hlt), hfreq]
  · exact ⟨by rw [hframe], hbut.mono hsub, fun _ _ => hfreq⟩

end

/-! The start. -/

theorem clampFreq_lt (w : Int) : clampFreq w < 2 ^ 32 := by
  rw [clampFreq]
  omega

theorem clampFreq_mod (w : Int) : clampFreq w % 2 ^ Fld.ATU_FREQ_FREQ.width = clampFreq w := by
  rw [show Fld.ATU_FREQ_FREQ.width = 32 from rfl]
  exact Nat.mod_eq_of_lt (clampFreq_lt w)

/-- The angle timebase at the start of its run. -/
def State.startAngle (s : State) (fic freq : Nat) : State := { s with atu := { s.atu with
  acc := fic * s.fretAu * 65536, absStart := 0, past := 0, tracked := clampFreq freq, lockFrom := none, lowFrom := none, hist := [], got := [],
  bTime := (s.tick * 40 : Nat), bPrev := s.atu.bTime, handover := none, autoWord := none } }

/-- What the start writes. -/
def startWrites (s : State) (fret freq : Nat) : List (Fld × Nat × Nat) :=
  [(.ATU_CTRL_EN, 0, 1), (.ATU_STAT_ENST, 0, 1), (.ATU_FRETNUM_FRETNUM, 0, fret), (.ATU_FREQ_FREQ, 0, clampFreq freq), (.ATU_BT_CNS_BTCNS, 0, s.compact),
    (.ATU_STAT_SRC, 0, s.getF .ATU_CTRL_SRCREQ 0), (.ATU_STAT_HOLDOVER, 0, 0), (.ATU_STAT_SLEWING, 0, b2n (s.getF .ATU_CTRL_SRCREQ 0 != srcFree)),
    (.ATU_STAT_LOCKED, 0, 0)]

theorem atuStart_eq (s : State) (fret fic freq : Nat) :
    s.atuStart fret fic freq = (((s.startAngle fic freq).setAll (startWrites s fret freq)).planResetAll.forgetFrets).sourceCheck := rfl

/-- A lane at the start: nothing is planned, released, converted, launched or acknowledged. -/
def LaneSt.forgotten (l : LaneSt) : LaneSt := { l.clearPlan with released := none, convFret := none, cmdFret := none, ack := none }

/-- What a start leaves: the run's fields, the angle, the lanes and the arms; the time and the memory stay. -/
structure Started (s : State) (fret acc freq : Nat) (u : State) : Prop where
  on : u.getF .ATU_CTRL_EN 0 = 1 ∧ u.getF .ATU_STAT_ENST 0 = 1
  fret : u.fretnum = fret % 2 ^ 32
  freq : u.getF .ATU_FREQ_FREQ 0 = clampFreq freq
  src : u.src = s.getF .ATU_CTRL_SRCREQ 0 % 4
  deficit : ∀ a : Fin 6, u.getF .ARM_DEF_DEF a = 0
  acc : u.atu.acc = acc
  tick : u.tick = s.tick
  mem : ∀ a, u.byte a = s.byte a
  lanes : ∀ n : Fin 96, u.lanes[n] = (s.lanes[n]).forgotten
  arms : ∀ a : Fin 6, (u.arms[a]).released = none

theorem forgetFrets_getF (s : State) (f : Fld) (i : Nat) : s.forgetFrets.getF f i = s.getF f i := rfl

theorem forgetFrets_same (s : State) : s.forgetFrets.tick = s.tick ∧ s.forgetFrets.mem = s.mem ∧ s.forgetFrets.lost = s.lost := ⟨rfl, rfl, rfl⟩

theorem forgetFrets_atu (s : State) : s.forgetFrets.atu = s.atu := rfl

/-- The fields that a start writes, their values apart. -/
theorem startWrites_names (s : State) (fret freq : Nat) : (startWrites s fret freq).map Prod.fst = [.ATU_CTRL_EN, .ATU_STAT_ENST, .ATU_FRETNUM_FRETNUM,
    .ATU_FREQ_FREQ, .ATU_BT_CNS_BTCNS, .ATU_STAT_SRC, .ATU_STAT_HOLDOVER, .ATU_STAT_SLEWING, .ATU_STAT_LOCKED] := rfl

theorem atuStart_spec (s : State) (fret fic freq : Nat) : Started s fret (fic * s.fretAu * 65536) freq (s.atuStart fret fic freq) := by
  have hkeys : (writtenKeys (startWrites s fret freq)).Nodup := writtenKeys_nodup (by rw [startWrites_names]; decide)
  have hset := State.getF_setAll (s.startAngle fic freq) hkeys
  have hsetframe := State.setAll_frame (s.startAngle fic freq) (startWrites s fret freq)
  rw [atuStart_eq]
  generalize (s.startAngle fic freq).setAll (startWrites s fret freq) = w at *
  obtain ⟨⟨hplan, hplankeep, hplanlanes, hplanarms⟩, hplandef⟩ := w.planResetAll_spec
  generalize w.planResetAll = x at *
  obtain ⟨hcheck, hkeep, hfreq⟩ := sourceCheck_spec x.forgetFrets
  generalize x.forgetFrets.sourceCheck = u at *
  have hforget (f : Fld) (i : Nat) : x.forgetFrets.getF f i = x.getF f i := forgetFrets_getF x f i
  have hx {f : Fld} {i v : Nat} (hmem : (f, i, v) ∈ startWrites s fret freq) (hf : f ≠ .ARM_DEF_DEF) : x.getF f i = v % 2 ^ f.width :=
    (hplankeep f i hf).trans (hset (f, i, v) hmem)
  have hu {f : Fld} {i v : Nat} (hmem : (f, i, v) ∈ startWrites s fret freq) (hf : f ≠ .ARM_DEF_DEF)
      (hl : ∀ e ∈ (Fld.ATU_STAT_SRCERR, 0) :: lossKeys, e.1 ≠ f) : u.getF f i = v % 2 ^ f.width :=
    (hkeep.getF_eq hl i).trans ((hforget f i).trans (hx hmem hf))
  have hatu : x.forgetFrets.atu = (s.startAngle fic freq).atu := by
    have hw : w.atu = (s.startAngle fic freq).atu := by rw [hsetframe]
    have hx : x.atu = w.atu := by rw [hplan]
    exact (forgetFrets_atu x).trans (hx.trans hw)
  have hforgot := forgetFrets_same x
  have hsame : x.tick = s.tick ∧ x.mem = s.mem ∧ x.lost = s.lost := by
    have hw : w.tick = s.tick ∧ w.mem = s.mem ∧ w.lost = s.lost := by
      rw [hsetframe]
      exact ⟨rfl, rfl, rfl⟩
    rw [hplan]
    exact hw
  have hxfreq : x.getF .ATU_FREQ_FREQ 0 = clampFreq freq := (hx (v := clampFreq freq) (by simp [startWrites]) (by decide)).trans (clampFreq_mod _)
  refine ⟨⟨?_, ?_⟩, ?_, ?_, ?_, fun a => ?_, ?_, ?_, fun a => ?_, fun n => ?_, fun a => ?_⟩
  · exact hu (v := 1) (by simp [startWrites]) (by decide) (by decide)
  · exact hu (v := 1) (by simp [startWrites]) (by decide) (by decide)
  · exact hu (v := fret) (by simp [startWrites]) (by decide) (by decide)
  · rw [hfreq (by rw [hatu, hforget, hxfreq]; rfl) (by rw [hatu]; exact clampFreq_lt _), hforget, hxfreq]
  · exact hu (v := s.getF .ATU_CTRL_SRCREQ 0) (by simp [startWrites]) (by decide) (by decide)
  · rw [hkeep.getF_eq (by decide), hforget, hplandef]
  · rw [hcheck]
    exact congrArg AtuSt.acc hatu
  · rw [hcheck]
    exact hforgot.1.trans hsame.1
  · refine State.byte_congr ?_ ?_ a
    · rw [hcheck]
      exact hforgot.2.1.trans hsame.2.1
    · rw [hcheck]
      exact hforgot.2.2.trans hsame.2.2
  · have hlanes : w.lanes = s.lanes := by
      rw [hsetframe]
      rfl
    rw [hcheck]
    show x.forgetFrets.lanes[n] = _
    rw [← hlanes]
    refine (Vector.getElem_map _ _).trans ?_
    rw [show x.lanes[n.val] = (w.lanes[n]).clearPlan from hplanlanes n]
    rfl
  · rw [hcheck]
    show (x.forgetFrets.arms[a]).released = _
    exact congrArg ArmSt.released (Vector.getElem_map _ _)

/-- The enable of the angle timebase. -/
theorem atuEnable_started {s : State} (hbus : s.protBus = true) (hoff : s.atuOn = false) (hmin : s.bit .PMC_STAGE_MINIMAL 0 = false) :
    exec .atuEnable s = .next (s.atuStart (s.getF .ATU_FRETINIT_FRETINIT 0) 0 (s.getF .ATU_FREE_FREE 0)).atuFirst := by
  have hruns : s.fabRuns = true := (Bool.and_eq_true_iff.1 (Bool.and_eq_true_iff.1 hbus).1).2
  change execAtuEnable s = _
  rw [execAtuEnable, if_pos hbus, State.atuEnable, hoff, hmin, hruns]
  exact congrArg Host.Outcome.next (if_neg Bool.false_ne_true)

/-- A lane of the first fret. -/
theorem atuFirst_lane {s u : State} {fret acc freq : Nat} (h : Started s fret acc freq u) (n : Fin 96) :
    (u.atuFirst.lanes[n]) = (s.lanes[n]).forgotten.flipped := by
  rw [(atuFirst_spec u).lanes, ← h.lanes n]
  exact Vector.getElem_map _ _

theorem atuFirst_arm {s u : State} {fret acc freq : Nat} (_ : Started s fret acc freq u) (a : Fin 6) : (u.atuFirst.arms[a]).released = none := by
  rw [(atuFirst_spec u).arms]
  exact congrArg ArmSt.released (Vector.getElem_map _ _)

/-- R75: what the enable leaves. -/
theorem atuEnable_clause {s : State} (hbus : s.protBus = true) (hoff : s.atuOn = false) (hmin : s.bit .PMC_STAGE_MINIMAL 0 = false) :
    Answers .atuEnable s (fun t =>
      t.getF .ATU_CTRL_EN 0 = 1 ∧ t.getF .ATU_STAT_ENST 0 = 1 ∧ t.atu.acc = 0 ∧ t.fretnum = s.getF .ATU_FRETINIT_FRETINIT 0 % 2 ^ 32 ∧
      t.getF .ATU_FREQ_FREQ 0 = clampFreq (s.getF .ATU_FREE_FREE 0) ∧ t.src = s.getF .ATU_CTRL_SRCREQ 0 % 4 ∧ t.tick = s.tick ∧
      (∀ n : Fin 96, (t.lanes[n]).rx = (s.lanes[n]).fill ∧ (t.lanes[n]).level = 0 ∧ (t.lanes[n]).lastEdge = none ∧ (t.lanes[n]).phil = 0 ∧
        (t.lanes[n]).released = none ∧ (t.lanes[n]).convFret = none ∧ (t.lanes[n]).cmdFret = none ∧ (t.lanes[n]).ack = none) ∧
      (∀ a : Fin 6, t.getF .ARM_DEF_DEF a = 0 ∧ (t.arms[a]).released = none) ∧ SameMem s t) := by
  have hstart := atuStart_spec s (s.getF .ATU_FRETINIT_FRETINIT 0) 0 (s.getF .ATU_FREE_FREE 0)
  refine ⟨_, atuEnable_started hbus hoff hmin, ?_⟩
  generalize s.atuStart (s.getF .ATU_FRETINIT_FRETINIT 0) 0 (s.getF .ATU_FREE_FREE 0) = u at *
  have hlane := atuFirst_lane hstart
  have harm := atuFirst_arm hstart
  obtain ⟨hregs, htick, hacc, hmem, -, -⟩ := atuFirst_spec u
  generalize u.atuFirst = t at *
  have hget {f : Fld} (hf : f ∈ startFields) (i : Nat) : t.getF f i = u.getF f i := hregs f hf i
  refine ⟨(hget (by decide) 0).trans hstart.on.1, (hget (by decide) 0).trans hstart.on.2, hacc.trans (hstart.acc.trans ?_), (hget (by decide) 0).trans hstart.fret,
    (hget (by decide) 0).trans hstart.freq, (hget (by decide) 0).trans hstart.src, htick.trans hstart.tick, fun n => ?_,
    fun a => ⟨(hget (by decide) a).trans (hstart.deficit a), harm a⟩, fun a => (hmem a).trans (hstart.mem a)⟩
  · simp
  · rw [hlane n]
    exact ⟨rfl, rfl, rfl, rfl, rfl, rfl, rfl, rfl⟩

end Sys2Proof.Machine
end

section
/-! The angle timebase's sources, handovers and snapshot (R53, R58 to R60, R63). -/
namespace Sys2Proof.Machine

-- The proofs one after another: all at once they would need more threads, and their stacks, than the check's memory holds.
set_option Elab.async false

section
variable {s : State}

/-! The disable (R74, R75). -/

/-- The state in which the disable is shown. -/
def State.atuStopping (s : State) : State := { s with
  fretd := { s.fretd with row := none }, twin := { s.twin with follow := false }, atu := { s.atu with handover := none, autoWord := none, lockFrom := none } }

/-- What the disable writes. -/
def stopWrites : List (Fld × Nat × Nat) := [(.ATU_CTRL_EN, 0, 0), (.ATU_STAT_ENST, 0, 0), (.ATU_STAT_LOCKED, 0, 0), (.ATU_STAT_SLEWING, 0, 0)]

theorem atuDisable_exec (hbus : s.protBus = true) : exec .atuDisable s = .next s.atuDisable := by
  change execAtuDisable s = _
  rw [execAtuDisable, if_pos hbus]

/-- With nothing that waits for a boundary the disable writes its own fields alone. -/
theorem atuDisable_eq (h4 : s.inS4 = false) (hon : s.atuOn = true) (hpend : s.bit .ATU_STAT_FPCPEND 0 = false) (hfret : s.bit .FRET_STAT_SWAPPEND 0 = false)
    (hclg : s.bit .CLG_STAT_SWAPPEND 0 = false) (hact : s.bit .CE_ACTSTAT_PEND 0 = false) (henst : s.getF .FRET_STAT_ENST 0 ≠ 2) :
    s.atuDisable = s.atuStopping.setAll stopWrites := by
  have heq : s.atuDisable = ((s.atuStopping.setAll stopWrites).fretOffCheck.clgAtuOff.actOffCheck) := by
    rw [State.atuDisable, h4, if_neg Bool.false_ne_true, hon, if_neg (by decide), hpend]
    exact if_neg henst
  have hbit {f : Fld} (hf : f ∉ stopWrites.map Prod.fst) (hb : s.bit f 0 = false) : (s.atuStopping.setAll stopWrites).bit f 0 = false := by
    have hget : (s.atuStopping.setAll stopWrites).getF f 0 = s.getF f 0 :=
      (State.setAll_regsBut s.atuStopping stopWrites).getF_eq (fun e he hef => hf (by
        obtain ⟨x, hx, rfl⟩ := List.mem_map.1 he
        exact List.mem_map.2 ⟨x, hx, hef⟩)) 0
    rw [State.bit, hget]
    exact hb
  rw [heq]
  generalize s.atuStopping.setAll stopWrites = w at *
  have h1 : w.fretOffCheck = w := if_neg (by rw [hbit (by decide) hfret]; exact Bool.false_ne_true)
  have h2 : w.clgAtuOff = w := if_neg (by rw [hbit (by decide) hclg]; exact Bool.false_ne_true)
  have h3 : w.actOffCheck = w := if_neg (by rw [hbit (by decide) hact]; exact Bool.false_ne_true)
  rw [h1, h2, h3]

/-! The phase comparison's set (R53). -/

theorem fpcsel_exec (v : BitVec 2) (hbus : s.protBus = true) : exec (.fpcselWrite v) s = .next (s.writeFpcsel v.toNat) := by
  change execFpcselWrite v s = _
  rw [execFpcselWrite, if_pos hbus]

/-! The loss of the source (R58). -/

/-- What a loss shows: the applied word and the flags. -/
def lossShown (s : State) : List (Fld × Nat × Nat) :=
  [(.ATU_FREQ_FREQ, 0, if s.twin.follow then s.getF .ATU_FREQ_FREQ 0 else s.atu.tracked % 2 ^ Fld.ATU_FREQ_FREQ.width), (.ATU_STAT_HOLDOVER, 0, 1),
    (.ATU_STAT_SRCLOSS, 0, 1), (.ATU_STAT_SLEWING, 0, 0), (.ATU_STAT_LOCKED, 0, 0)]

theorem sourceLost_shown (hon : s.atuOn = true) (hsrc : s.src ≠ 2) (hhold : s.holdover = false) :
    s.sourceLost = { s.losing with regs := s.sourceLost.regs } ∧ ∀ e ∈ lossShown s, s.sourceLost.getF e.1 e.2.1 = e.2.2 := by
  have hflags (u : State) : ∀ e ∈ lossFlags, (u.setAll lossFlags).getF e.1 e.2.1 = e.2.2 := fun e he =>
    (u.getF_setAll (writtenKeys_nodup (by decide)) e he).trans (Nat.mod_eq_of_lt ((by simp [lossFlags] : WritesFit lossFlags) e he))
  have hfreq (u : State) : (u.setAll lossFlags).getF .ATU_FREQ_FREQ 0 = u.getF .ATU_FREQ_FREQ 0 := (State.setAll_regsBut u lossFlags).getF_eq (by decide) 0
  rw [sourceLost_eq s hon hsrc hhold]
  refine ⟨State.setAll_frame _ _, List.forall_mem_cons.2 ?_⟩
  by_cases h : s.twin.follow = true
  · rw [if_pos h, if_pos h]
    exact ⟨hfreq s.losing, hflags _⟩
  · rw [if_neg h, if_neg h, State.setAll_cons]
    exact ⟨(hfreq _).trans (State.getF_setF_same _ _ _ _), hflags _⟩

/-- A source is lost behind the write of a flag `f`. -/
theorem sourceLost_behind {c : Instr} {x : State} {f : Fld} (hexec : exec c s = .next x.sourceLost) (hframe : x = { s with regs := x.regs })
    (hbut : RegsBut s x [(f, 0)]) (hf : f = .ATU_STAT_SRCERR) (hval : x.getF f 0 = 1) (hon : x.atuOn = true) (hsrc : x.src ≠ 2)
    (hhold : x.holdover = false) : SetsOn c s s.losing ((f, 0, 1) :: lossShown s) := by
  subst hf
  have hx {g : Fld} (hg : g ≠ .ATU_STAT_SRCERR) : x.getF g 0 = s.getF g 0 := hbut.getF_eq (by simpa using hg.symm) 0
  have hshown : lossShown x = lossShown s := by
    rw [lossShown, lossShown, hx (by decide), hframe]
  have hlosing : x.losing = { s.losing with regs := x.regs } := by
    rw [State.losing, State.bit, hx (by decide), State.losing, State.bit, hframe]
  obtain ⟨hlost, hval'⟩ := sourceLost_shown hon hsrc hhold
  have hkeep := sourceLost_regsBut x
  rw [hshown] at hval'
  rw [hlosing] at hlost
  generalize x.sourceLost = t at *
  refine ⟨t, hexec, hlost, List.forall_mem_cons.2 ⟨(hkeep.getF_eq (by decide) 0).trans hval, hval'⟩, ?_⟩
  exact (hbut.mono (by simp)).trans (hkeep.mono (List.subset_cons_self _ _))

/-- A source is lost and nothing else is written. -/
theorem sourceLost_sets {c : Instr} (hexec : exec c s = .next s.sourceLost) (hon : s.atuOn = true) (hsrc : s.src ≠ 2) (hhold : s.holdover = false) :
    SetsOn c s s.losing (lossShown s) := by
  obtain ⟨hlost, hval⟩ := sourceLost_shown hon hsrc hhold
  exact ⟨_, hexec, hlost, hval, sourceLost_regsBut s⟩

theorem lossDue_src (h : s.lossDue = true) : s.src ≠ 2 := fun h' => by
  rw [State.lossDue, h', show (2 != srcFree) = false from rfl, Bool.false_and] at h
  cases h

/-- A stream that stays silent has missed its samples by `svLossAt`. -/
theorem lossDue_at (hsrc : s.src = 1) (hlate : s.svLossAt ≤ s.tick) : s.lossDue = true := by
  have hsec : 0 < second := by decide
  have hsilent : s.missMax ≤ s.svFeed.miss + s.svSilent := by
    have hdue : s.svFeed.since + ((s.missMax - s.svFeed.miss + 1) * second + s.svWrap) / (s.svWrap + 1) ≤ s.tick := hlate
    have hceil : (s.missMax - s.svFeed.miss + 1) * second + s.svWrap <
        ((s.missMax - s.svFeed.miss + 1) * second + s.svWrap) / (s.svWrap + 1) * (s.svWrap + 1) + (s.svWrap + 1) := Nat.lt_div_mul_add (Nat.succ_pos s.svWrap)
    have hpassed : ((s.missMax - s.svFeed.miss + 1) * second + s.svWrap) / (s.svWrap + 1) ≤ s.tick - s.svFeed.since := by omega
    have hmul := Nat.mul_le_mul_right (s.svWrap + 1) hpassed
    have hwait : (s.missMax - s.svFeed.miss + 1) * second ≤ (s.tick - s.svFeed.since) * (s.svWrap + 1) := by omega
    have hcount := (Nat.le_div_iff_mul_le hsec).2 hwait
    rw [State.svSilent]
    omega
  rw [State.lossDue, hsrc, decide_eq_true hsilent, show (1 == srcSv) = true from rfl, Bool.true_and, Bool.or_true]
  rfl


/-! The loss by time (R56, R58). -/

theorem passTo_tracked (due : Nat) : (s.passTo due).atu.tracked = s.atu.tracked := by
  unfold State.passTo
  split <;> rfl

theorem sourceLoss_exec (hruns : s.atuRuns = true) : exec .sourceLoss s = .next (
    if (if s.src == srcSv && !s.lossDue then s.passTo s.svLossAt else s).lossDue then
      (if s.src == srcSv && !s.lossDue then s.passTo s.svLossAt else s).sourceLost
    else if s.src == srcSv && !s.lossDue then s.passTo s.svLossAt else s) := by
  change execSourceLoss s = _
  rw [execSourceLoss, if_pos hruns]

theorem sourceLoss_due (hruns : s.atuRuns = true) (hdue : s.lossDue = true) : exec .sourceLoss s = .next s.sourceLost := by
  rw [sourceLoss_exec hruns, hdue, Bool.not_true, Bool.and_false, if_neg Bool.false_ne_true, if_pos hdue]

/-- What the clause of a silent stream asks of the state behind the loss of `x`. -/
theorem sourceLost_stream {x : State} (hon : x.atuOn = true) (hsrc : x.src = 1) (hhold : x.holdover = false) : let t := x.sourceLost
    t.holdover = true ∧ t.bit .ATU_STAT_SRCLOSS 0 = true ∧ t.bit .ATU_STAT_LOCKED 0 = false ∧ t.bit .ATU_STAT_SLEWING 0 = false ∧
      t.atu.tracked = x.atu.tracked ∧ t.tick = x.tick ∧
      (x.twin.follow = false → t.getF .ATU_FREQ_FREQ 0 = x.atu.tracked % 2 ^ Fld.ATU_FREQ_FREQ.width) := by
  have hsrc2 : x.src ≠ 2 := by rw [hsrc]; decide
  obtain ⟨hlost, hval⟩ := sourceLost_shown hon hsrc2 hhold
  simp only [lossShown, List.forall_mem_cons] at hval
  obtain ⟨hfreq, hholdover, hloss, hslew, hlocked, -⟩ := hval
  generalize x.sourceLost = t at *
  have hbit {f : Fld} {v : Nat} {b : Bool} (h : t.getF f 0 = v) (hb : (v == 1) = b) : t.bit f 0 = b := by rw [State.bit, h, hb]
  refine ⟨hbit hholdover rfl, hbit hloss rfl, hbit hlocked rfl, hbit hslew rfl, ?_, ?_, fun h => ?_⟩
  · rw [hlost]
    rfl
  · rw [hlost]
    rfl
  · rw [hfreq, h]
    rfl

theorem svLossAt_congr {x : State} (hregs : x.regs = s.regs) (hfeed : x.svFeed = s.svFeed) : x.svLossAt = s.svLossAt := by
  have hget (f : Fld) (i : Nat) : x.getF f i = s.getF f i := by rw [State.getF, hregs, State.getF]
  rw [State.svLossAt, State.missMax, State.svWrap, hget, hget, hfeed]
  rfl

/-- A selected stream of samples falls silent and is lost. -/
theorem sourceLoss_stream (hruns : s.atuRuns = true) (hhold : s.holdover = false) (hsrc : s.src = 1) : Answers .sourceLoss s (fun t =>
    t.holdover = true ∧ t.bit .ATU_STAT_SRCLOSS 0 = true ∧ t.bit .ATU_STAT_LOCKED 0 = false ∧ t.bit .ATU_STAT_SLEWING 0 = false ∧
    t.atu.tracked = s.atu.tracked ∧ s.tick ≤ t.tick ∧
    (s.twin.follow = false → t.getF .ATU_FREQ_FREQ 0 = s.atu.tracked % 2 ^ Fld.ATU_FREQ_FREQ.width)) := by
  have hon : s.atuOn = true := (Bool.and_eq_true_iff.1 hruns).1
  by_cases hdue : s.lossDue = true
  · obtain ⟨h1, h2, h3, h4, h5, h6, h7⟩ := sourceLost_stream hon hsrc hhold
    exact ⟨_, sourceLoss_due hruns hdue, h1, h2, h3, h4, h5, h6.ge, h7⟩
  · have hcond : (s.src == srcSv && !s.lossDue) = true := by
      rw [hsrc, eq_false_of_ne_true hdue]
      rfl
    have hexec := sourceLoss_exec hruns
    rw [if_pos hcond] at hexec
    have htick : s.svLossAt ≤ (s.passTo s.svLossAt).tick ∧ s.tick ≤ (s.passTo s.svLossAt).tick := by
      rw [State.passTo_tick]
      omega
    have htracked := passTo_tracked (s := s) s.svLossAt
    have hframe := s.passTo_frame s.svLossAt
    have hregs := s.passTo_regs s.svLossAt
    have hfeed : (s.passTo s.svLossAt).svFeed = s.svFeed := by rw [hframe]
    have hat : (s.passTo s.svLossAt).svLossAt = s.svLossAt := svLossAt_congr (s.passTo_regs _) hfeed
    generalize s.passTo s.svLossAt = x at *
    have hget (f : Fld) (i : Nat) : x.getF f i = s.getF f i := by rw [State.getF, hregs, State.getF]
    have hxsrc : x.src = 1 := (hget _ _).trans hsrc
    have hxon : x.atuOn = true := by
      rw [State.atuOn, hget]
      exact hon
    have hxhold : x.holdover = false := by
      rw [State.holdover, State.bit, hget]
      exact hhold
    rw [if_pos (lossDue_at hxsrc (by rw [hat]; exact htick.1))] at hexec
    obtain ⟨h1, h2, h3, h4, h5, h6, h7⟩ := sourceLost_stream hxon hxsrc hxhold
    have hfollow : x.twin.follow = s.twin.follow := by rw [hframe]
    exact ⟨_, hexec, h1, h2, h3, h4, h5.trans htracked, by rw [h6]; exact htick.2, fun h => by rw [h7 (by rw [hfollow]; exact h), htracked]⟩

theorem sourceLoss_idle (hdue : s.lossDue = false) (hsrc : s.src ≠ 1) : Ignores .sourceLoss s := by
  have hcond : (s.src == srcSv) = false := beq_eq_false_iff_ne.2 hsrc
  change execSourceLoss s = _
  rw [execSourceLoss, hcond, Bool.false_and, if_neg Bool.false_ne_true]
  dsimp only
  rw [hdue, if_neg Bool.false_ne_true, ite_self]

/-! A write of SRCREQ (R54, R59). -/

theorem srcreq_bad (hbus : s.protBus = true) : ∃ b, let x := (s.setF .ATU_STAT_SRCERR 0 1).setWhen b .ATU_STAT_SRCERR 0 1
    exec (.sourceHandoverRequest 3#2) s = .next (if x.lossDue then x.sourceLost else x) := by
  refine ⟨((s.setF .ATU_STAT_SRCERR 0 1).src == srcAdc && (s.setF .ATU_STAT_SRCERR 0 1).adcselBad) || (s.setF .ATU_STAT_SRCERR 0 1).svVchBad, ?_⟩
  change execSourceHandoverRequest 3#2 s = _
  rw [execSourceHandoverRequest, if_pos hbus]
  rfl

/-- SRCERR is set, once or twice. -/
theorem srcerr_again (b : Bool) : let t := (s.setF .ATU_STAT_SRCERR 0 1).setWhen b .ATU_STAT_SRCERR 0 1
    t = { s with regs := t.regs } ∧ RegsBut s t [(.ATU_STAT_SRCERR, 0)] ∧ t.getF .ATU_STAT_SRCERR 0 = 1 := by
  have hbut : RegsBut s (s.setF .ATU_STAT_SRCERR 0 1) [(.ATU_STAT_SRCERR, 0)] := (RegsBut.refl s _).setF 1 (by simp)
  have hval : (s.setF .ATU_STAT_SRCERR 0 1).getF .ATU_STAT_SRCERR 0 = 1 := s.getF_setF_same _ _ _
  refine ⟨?_, hbut.setWhen (by simp) _ _, ?_⟩
  · cases b <;> rfl
  · rw [State.getF_setWhen_same]
    cases b
    · exact hval
    · rfl


/-- What is checked of the selected stream of samples. -/
theorem lossDue_stream (hsrc : s.src = 1) : s.lossDue = (s.svBad || decide (s.missMax ≤ s.svFeed.miss + s.svSilent)) := by
  rw [State.lossDue, hsrc, State.srcUnusable]
  simp [srcFree, srcAdc, srcSv]

/-- The write of 0b11 into SRCREQ where no source is lost with it. -/
theorem srcreq_bad_sets (hbus : s.protBus = true)
    (h : ∀ b, let x := (s.setF .ATU_STAT_SRCERR 0 1).setWhen b .ATU_STAT_SRCERR 0 1
      x.lossDue = false ∨ x.atuOn = false ∨ x.src = 2 ∨ x.holdover = true) : Sets (.sourceHandoverRequest 3#2) s [(.ATU_STAT_SRCERR, 0, 1)] := by
  obtain ⟨b, hexec⟩ := srcreq_bad hbus
  obtain ⟨hframe, hbut, hval⟩ := srcerr_again (s := s) b
  have hidle := h b
  dsimp only at hexec hidle
  generalize (s.setF .ATU_STAT_SRCERR 0 1).setWhen b .ATU_STAT_SRCERR 0 1 = x at *
  have hx : (if x.lossDue then x.sourceLost else x) = x := by
    rcases hidle with h | h
    · rw [h, if_neg Bool.false_ne_true]
    · rw [sourceLost_idle x h, ite_self]
  rw [hx] at hexec
  exact ⟨x, hexec, hframe, List.forall_mem_singleton.2 hval, hbut⟩

/-- The write of 0b11 into SRCREQ with the ADC source in use. -/
theorem srcreq_bad_adc (hbus : s.protBus = true) (hsrc : s.src = 0) (hon : s.atuOn = true) (hhold : s.holdover = false) :
    SetsOn (.sourceHandoverRequest 3#2) s s.losing ((.ATU_STAT_SRCERR, 0, 1) :: lossShown s) := by
  obtain ⟨b, hexec⟩ := srcreq_bad hbus
  obtain ⟨hframe, hbut, hval⟩ := srcerr_again (s := s) b
  dsimp only at hexec
  generalize (s.setF .ATU_STAT_SRCERR 0 1).setWhen b .ATU_STAT_SRCERR 0 1 = x at *
  have hx {g : Fld} (hg : g ≠ .ATU_STAT_SRCERR) : x.getF g 0 = s.getF g 0 := hbut.getF_eq (by simpa using hg.symm) 0
  have hxsrc : x.src = 0 := (hx (by decide)).trans hsrc
  have hxon : x.atuOn = true := by
    rw [State.atuOn, hx (by decide)]
    exact hon
  have hxhold : x.holdover = false := by
    rw [State.holdover, State.bit, hx (by decide)]
    exact hhold
  have hdue : x.lossDue = true := by
    rw [State.lossDue, hxsrc, State.srcUnusable, State.bit, hval]
    simp [srcFree, srcAdc]
  rw [if_pos hdue] at hexec
  exact sourceLost_behind hexec hframe hbut rfl hval hxon (by rw [hxsrc]; decide) hxhold

/-! The snapshot (R63). -/

/-- Values written are cut to the fields' widths. -/
theorem SetsOn.of_setAll_cut {c : Instr} {s' : State} {l l' : List (Fld × Nat × Nat)} (h : exec c s = .next (s'.setAll l)) (hk : (writtenKeys l).Nodup)
    (hregs : s'.regs = s.regs) (hl : l' = l.map (fun e => (e.1, e.2.1, e.2.2 % 2 ^ e.1.width))) : SetsOn c s s' l' := by
  subst hl
  refine ⟨_, h, s'.setAll_frame l, List.forall_mem_map.2 fun e he => s'.getF_setAll hk e he, fun f i hi => ?_⟩
  rw [s'.setAll_regsBut l f i (by rw [List.map_map] at hi; exact hi), State.getF, State.getF, hregs]

theorem snap_clause (hbus : s.protBus = true) : Sets .snap s [(.ATU_SNAP_FRET_FRET, 0, s.fretnum % 2 ^ 32), (.ATU_SNAP_ANGLE_ANGLE, 0, s.angle),
    (.ATU_SNAP_SECH_SECH, 0, s.clock.sec / 2 ^ 32 % 2 ^ 16), (.ATU_SNAP_SECL_SECL, 0, s.clock.sec % 2 ^ 32), (.ATU_SNAP_NS_NS, 0, s.clock.ns % 2 ^ 30)] := by
  have hexec : exec .snap s = .next (s.setAll [(.ATU_SNAP_FRET_FRET, 0, s.fretnum), (.ATU_SNAP_ANGLE_ANGLE, 0, s.angle),
      (.ATU_SNAP_SECH_SECH, 0, s.clock.sec / 2 ^ 32), (.ATU_SNAP_SECL_SECL, 0, s.clock.sec), (.ATU_SNAP_NS_NS, 0, s.clock.ns)]) := by
    change execSnap s = _
    rw [execSnap, if_pos hbus]
    rfl
  have hangle : s.angle % 2 ^ Fld.ATU_SNAP_ANGLE_ANGLE.width = s.angle := by
    rw [State.angle, show Fld.ATU_SNAP_ANGLE_ANGLE.width = 32 from rfl, Nat.mod_mod]
  refine .of_setAll_cut hexec (writtenKeys_nodup (by simp)) rfl ?_
  simp only [List.map_cons, List.map_nil, hangle]
  rfl

/-! The return of a source and the end of its slew (R60). -/

theorem sourceReturn_exec (hruns : s.atuRuns = true) (hsrc : s.src ≠ 2) (hhold : s.holdover = true) (hdue : s.lossDue = false) :
    exec .sourceReturn s = .next ((s.setF .ATU_STAT_HOLDOVER 0 0).slewBegin s.src) := by
  have hcond : (s.atuRuns && s.src != srcFree && s.holdover && !s.lossDue) = true := by
    rw [hruns, show (s.src != srcFree) = true from bne_iff_ne.2 hsrc, hhold, hdue]
    rfl
  change execSourceReturn s = _
  rw [execSourceReturn, if_pos hcond]

/-- The word of a slew that begins, from the phase error shown. -/
theorem slewBegin_eq (u : State) (v : Nat) (h : u.twin.follow = false) : u.slewBegin v = u.setAll [(.ATU_PHERR_PHERR, 0, (BitVec.ofInt 32 (u.atu.track v).pherr).toNat),
    (.ATU_STAT_SLEWING, 0, 1), (.ATU_FREQ_FREQ, 0, clampFreq (u.atu.tracked +
      if 0 ≤ (BitVec.ofInt 32 (u.atu.track v).pherr).toInt then (u.getF .ATU_SLEW_SLEW 0 : Int) else -(u.getF .ATU_SLEW_SLEW 0 : Int)))] := by
  have hshown : ((u.showPherr v).setF .ATU_STAT_SLEWING 0 1).pherr = (BitVec.ofInt 32 (u.atu.track v).pherr).toInt := by
    rw [State.pherr, State.getF_setF_ne _ _ _ _ (by decide), State.showPherr, State.getF_setF_same]
    rw [show Fld.ATU_PHERR_PHERR.width = 32 from rfl, Nat.mod_eq_of_lt (BitVec.isLt _), BitVec.ofNat_toNat, BitVec.setWidth_eq]
  have hslew : ((u.showPherr v).setF .ATU_STAT_SLEWING 0 1).getF .ATU_SLEW_SLEW 0 = u.getF .ATU_SLEW_SLEW 0 := by
    rw [State.getF_setF_ne _ _ _ _ (by decide), State.showPherr, State.getF_setF_ne _ _ _ _ (by decide)]
  rw [State.slewBegin, h, if_neg Bool.false_ne_true]
  dsimp only
  rw [State.slewWord, hshown, hslew]
  rfl


/-- The phase error that the end of a slew leaves to the tracker of the source `v`. -/
def AtuSt.slewEnded (a : AtuSt) (v : Nat) (e : Int) : AtuSt :=
  if v = srcAdc then { a with adcTr := { a.adcTr with pherr := e } } else { a with svTr := { a.svTr with pherr := e } }

theorem slewEnded_track (a : AtuSt) (v : Nat) (e : Int) : ((a.slewEnded v e).track v).pherr = e := by
  rw [AtuSt.track, AtuSt.slewEnded]
  split <;> rfl

theorem slewEnded_frame (a : AtuSt) (v : Nat) (e : Int) :
    a.slewEnded v e = { a with adcTr := (a.slewEnded v e).adcTr, svTr := (a.slewEnded v e).svTr } := by
  rw [AtuSt.slewEnded]
  split <;> rfl

/-- What the end of a slew writes. -/
def slewWrites (s : State) (e : Int) : List (Fld × Nat × Nat) :=
  [(.ATU_STAT_SLEWING, 0, 0), (.ATU_FREQ_FREQ, 0, clampFreq s.atu.tracked), (.ATU_PHERR_PHERR, 0, (BitVec.ofInt 32 e).toNat)]

theorem slewEnd_exec (hruns : s.atuRuns = true) (hslew : s.bit .ATU_STAT_SLEWING 0 = true) : ∃ e : Int,
    e.natAbs < max 1 (s.getF .ATU_FREQ_FREQ 0 / 65536) ∧
      exec .slewEnd s = .next (State.setAll { s with free := s.free + 1, atu := s.atu.slewEnded s.src e } (slewWrites s e)) := by
  have hm : 0 < max 1 (s.getF .ATU_FREQ_FREQ 0 / 65536) := by omega
  refine ⟨((Config.freeWord s.free).toNat % (2 * max 1 (s.getF .ATU_FREQ_FREQ 0 / 65536) - 1) : Nat) -
    ((max 1 (s.getF .ATU_FREQ_FREQ 0 / 65536) - 1 : Nat) : Int), ?_, ?_⟩
  · have hlt := Nat.mod_lt (Config.freeWord s.free).toNat (show 0 < 2 * max 1 (s.getF .ATU_FREQ_FREQ 0 / 65536) - 1 by omega)
    omega
  · have hcond : (s.atuRuns && s.bit .ATU_STAT_SLEWING 0) = true := by
      rw [hruns, hslew]
      rfl
    change execSlewEnd s = _
    rw [execSlewEnd, if_pos hcond]
    rfl

/-- What the end of a slew leaves. -/
theorem slewEnd_clause (hruns : s.atuRuns = true) (hslew : s.bit .ATU_STAT_SLEWING 0 = true) (hfreq : s.getF .ATU_FREQ_FREQ 0 < 2 ^ 32) :
    Answers .slewEnd s (fun t =>
      t = { s with regs := t.regs, free := s.free + 1, atu := { s.atu with adcTr := t.atu.adcTr, svTr := t.atu.svTr } } ∧
      (t.atu.track s.src).pherr = t.pherr ∧ t.bit .ATU_STAT_SLEWING 0 = false ∧ t.getF .ATU_FREQ_FREQ 0 = clampFreq s.atu.tracked ∧
      t.pherr.natAbs < max 1 (s.getF .ATU_FREQ_FREQ 0 / 65536) ∧
      RegsBut s t [(.ATU_STAT_SLEWING, 0), (.ATU_FREQ_FREQ, 0), (.ATU_PHERR_PHERR, 0)]) := by
  obtain ⟨e, he, hexec⟩ := slewEnd_exec hruns hslew
  have hshown : (BitVec.ofInt 32 e).toInt = e := by
    rw [BitVec.toInt_ofInt]
    exact Int.bmod_eq_of_le (by omega) (by omega)
  have hset := State.getF_setAll { s with free := s.free + 1, atu := s.atu.slewEnded s.src e } (l := slewWrites s e) (writtenKeys_nodup (by simp [slewWrites]))
  have hbut := State.setAll_regsBut { s with free := s.free + 1, atu := s.atu.slewEnded s.src e } (slewWrites s e)
  have hframe := State.setAll_frame { s with free := s.free + 1, atu := s.atu.slewEnded s.src e } (slewWrites s e)
  have htrack := slewEnded_track s.atu s.src e
  have hkept := slewEnded_frame s.atu s.src e
  refine ⟨_, hexec, ?_⟩
  generalize State.setAll { s with free := s.free + 1, atu := s.atu.slewEnded s.src e } _ = t at *
  generalize s.atu.slewEnded s.src e = a at *
  simp only [slewWrites, List.forall_mem_cons] at hset
  obtain ⟨hslewing, hfreq', hpherr, -⟩ := hset
  have htp : t.pherr = e := by
    rw [State.pherr, hpherr, show Fld.ATU_PHERR_PHERR.width = 32 from rfl, Nat.mod_eq_of_lt (BitVec.isLt _), BitVec.ofNat_toNat, BitVec.setWidth_eq, hshown]
  have hta : t.atu = a := by rw [hframe]
  refine ⟨?_, by rw [hta, htrack, htp], ?_, hfreq'.trans (clampFreq_mod _), by rw [htp]; exact he, hbut⟩
  · rw [hta, ← hkept, hframe]
  · rw [State.bit, hslewing]
    rfl

end

/-! The two claims. -/

theorem atuEnableDisable : Claims.AtuEnableDisable := by
  intro s
  refine ⟨fun hbus hoff hmin => atuEnable_clause hbus hoff hmin, fun h => ?_, fun hbus h4 => ?_, fun hbus h4 hon hpend hfret hclg hact henst => ?_⟩
  · change execAtuEnable s = _
    rw [execAtuEnable]
    rcases h with h | h | h
    · rw [State.atuEnable, h, Bool.true_or, Bool.true_or, if_pos rfl, ite_self]
    · rw [if_neg (by rw [h]; exact Bool.false_ne_true)]
    · rw [State.atuEnable, h, Bool.or_true, if_pos rfl, ite_self]
  · refine Sets.one ((atuDisable_exec hbus).trans ?_) (by decide)
    rw [State.atuDisable, if_pos h4]
  · refine .of_setAll ((atuDisable_exec hbus).trans ?_) (writtenKeys_nodup (by decide)) (by simp) rfl
    rw [atuDisable_eq h4 hon hpend hfret hclg hact henst]
    rfl

theorem atuSources : Claims.AtuSources := by
  intro v s pend cur slew bound lost holds p
  refine ⟨fun hbus hcur => ?_, fun hbus hcur h4 => ?_, fun hbus hcur h4 hon => ?_, fun hbus hcur h4 hoff => ?_, fun hbus hv h => ?_,
    fun hbus hv hsrc hon hhold => ?_, fun hbus hv hsrc hdue => ?_, fun hbus hv => ?_, fun hbus => snap_clause hbus,
    fun hruns hhold hdue => ?_, fun hruns hhold hsrc => sourceLoss_stream hruns hhold hsrc, fun hdue hsrc => sourceLoss_idle hdue hsrc, fun hsrc h => ?_,
    fun hruns hsrc hhold hdue hfollow => ?_, fun hruns hsrc hhold hdue hfollow => ?_, fun hruns hslew hfreq => slewEnd_clause hruns hslew hfreq⟩
  · exact (fpcsel_exec v hbus).trans (congrArg Host.Outcome.next (if_pos hcur))
  · refine Sets.one ((fpcsel_exec v hbus).trans (congrArg Host.Outcome.next ?_)) (by decide)
    exact (if_neg hcur).trans (if_pos h4)
  · refine .of_setAll ((fpcsel_exec v hbus).trans (congrArg Host.Outcome.next ?_)) (writtenKeys_nodup (by simp)) (by simp) rfl
    exact (if_neg hcur).trans ((if_neg (by rw [h4]; exact Bool.false_ne_true)).trans (if_pos hon))
  · refine Sets.one ((fpcsel_exec v hbus).trans (congrArg Host.Outcome.next ?_)) v.isLt
    exact (if_neg hcur).trans ((if_neg (by rw [h4]; exact Bool.false_ne_true)).trans (if_neg (by rw [hoff]; exact Bool.false_ne_true)))
  · subst hv
    refine srcreq_bad_sets hbus fun b => ?_
    obtain ⟨-, hbut, -⟩ := srcerr_again (s := s) b
    dsimp only at hbut ⊢
    generalize (s.setF .ATU_STAT_SRCERR 0 1).setWhen b .ATU_STAT_SRCERR 0 1 = x at *
    have hx {g : Fld} (hg : g ≠ .ATU_STAT_SRCERR) : x.getF g 0 = s.getF g 0 := hbut.getF_eq (by simpa using hg.symm) 0
    rw [State.atuOn, State.src, State.holdover, State.bit, hx (by decide), hx (by decide), hx (by decide)]
    rcases h with h | h | h
    · exact .inr (.inr (.inl h))
    · exact .inr (.inl h)
    · exact .inr (.inr (.inr h))
  · subst hv
    exact srcreq_bad_adc hbus hsrc hon hhold
  · subst hv
    refine srcreq_bad_sets hbus fun b => .inl ?_
    obtain ⟨hframe, hbut, -⟩ := srcerr_again (s := s) b
    generalize (s.setF .ATU_STAT_SRCERR 0 1).setWhen b .ATU_STAT_SRCERR 0 1 = x at *
    have hx {g : Fld} (hg : g ≠ .ATU_STAT_SRCERR) (i : Nat) : x.getF g i = s.getF g i := hbut.getF_eq (by simpa using hg.symm) i
    rw [← hdue, lossDue_stream hsrc, lossDue_stream ((hx (by decide) 0).trans hsrc), State.svBad, State.svVchBad, State.svStream, State.missMax,
      State.svSilent, State.svWrap, hx (by decide), hx (by decide), hx (by decide), hx (by decide), hframe]
    rfl
  · have hlt : v.toNat < 2 ^ Fld.ATU_CTRL_SRCREQ.width := v.isLt
    have hne : ¬v.toNat = 3 := fun h => hv (BitVec.eq_of_toNat_eq h)
    refine .of_setAll (l := [(.ATU_CTRL_SRCREQ, 0, v.toNat)]) ?_ (writtenKeys_nodup (by simp)) (writesFit_cons.2 ⟨hlt, writesFit_nil⟩) rfl
    change execSourceHandoverRequest v s = _
    rw [execSourceHandoverRequest, if_pos hbus]
    exact congrArg Host.Outcome.next (if_neg hne)
  · exact sourceLost_sets (sourceLoss_due hruns hdue) (Bool.and_eq_true_iff.1 hruns).1 (lossDue_src hdue) hhold
  · rw [State.lossDue, show (s.src != srcFree) = true from bne_iff_ne.2 hsrc]
    rcases h with h | ⟨h, hmiss⟩ | ⟨h, a, ha, hlow⟩
    · rw [h]
      rfl
    · have hmiss' : s.missMax ≤ s.svFeed.miss + s.svSilent := Nat.le_add_right_of_le hmiss
      rw [h, decide_eq_true hmiss', show (1 == srcSv) = true from rfl]
      simp
    · have hlow' : s.lowCycle = true := by
        rw [State.lowCycle, ha, Option.any_some, decide_eq_true_eq]
        exact hlow
      rw [h, hlow', show (0 == srcAdc) = true from rfl]
      simp
  · refine Sets.one ((sourceReturn_exec hruns hsrc hhold hdue).trans (congrArg Host.Outcome.next ?_)) (by decide)
    exact if_pos hfollow
  · have hfollow' : (s.setF .ATU_STAT_HOLDOVER 0 0).twin.follow = false := hfollow
    have hexec := sourceReturn_exec hruns hsrc hhold hdue
    rw [slewBegin_eq _ _ hfollow', State.getF_setF_ne _ _ _ _ (by decide)] at hexec
    refine .of_setAll_order (l' := [(.ATU_STAT_HOLDOVER, 0, 0), (.ATU_PHERR_PHERR, 0, p.toNat), (.ATU_STAT_SLEWING, 0, 1),
      (.ATU_FREQ_FREQ, 0, clampFreq (s.atu.tracked + if 0 ≤ p.toInt then slew else -slew))]) hexec (writtenKeys_nodup (by simp)) ?_ rfl ?_ ?_
    · simp only [writesFit_cons, writesFit_nil, and_true]
      exact ⟨by decide, p.isLt, by decide, clampFreq_lt _⟩
    · intro e he
      simp only [List.mem_cons, List.not_mem_nil, or_false] at he ⊢
      tauto
    · intro e he
      simp only [List.mem_cons, List.not_mem_nil, or_false] at he ⊢
      tauto

/-- Settles O47: the enable's boundary keeps what the start made; the sources each by its own lemma. -/
theorem angleTimebaseSources : Obligations.AngleTimebaseSources := ⟨atuEnableDisable, atuSources⟩

end Sys2Proof.Machine
end

section
/-! What the steps of a safety cycle leave of SAF's state (R342 to R359). -/
namespace Sys2Proof.Machine

-- The proofs one after another: all at once they would need more threads, and their stacks, than the check's memory holds.
set_option Elab.async false

/-! Nothing but SAF's state changes, of it not `core`, and of the registers `keys` alone. -/

structure SerKept {α : Type} (keys : List (Fld × Nat)) (core : SerSt → α) (s t : State) : Prop where
  frame : t = { s with regs := t.regs, ser := t.ser }
  regs : RegsBut s t keys
  core : core t.ser = core s.ser

section
variable {α : Type} {keys : List (Fld × Nat)} {core : SerSt → α} {s t u : State}

theorem SerKept.refl (s : State) : SerKept keys core s s := ⟨rfl, .refl s _, rfl⟩

theorem SerKept.trans (h : SerKept keys core s t) (h' : SerKept keys core t u) : SerKept keys core s u := by
  refine ⟨?_, h.regs.trans h'.regs, h'.core.trans h.core⟩
  rw [h'.frame, h.frame]

theorem SerKept.mono {β : Type} {keys' : List (Fld × Nat)} {core' : SerSt → β} (h : SerKept keys core s t) (hk : keys ⊆ keys')
    (hc : core t.ser = core s.ser → core' t.ser = core' s.ser) : SerKept keys' core' s t := ⟨h.frame, h.regs.mono hk, hc h.core⟩

theorem SerKept.setF {f : Fld} {v : Nat} (h : SerKept keys core s t) (hf : (f, 0) ∈ keys) : SerKept keys core s (t.setF f 0 v) := by
  refine ⟨?_, h.regs.setF v hf, h.core⟩
  rw [State.setF, h.frame]

theorem SerKept.setWhen {f : Fld} {v : Nat} {b : Bool} (h : SerKept keys core s t) (hf : (f, 0) ∈ keys) : SerKept keys core s (t.setWhen b f 0 v) := by
  cases b
  · exact h
  · exact h.setF hf

theorem SerKept.modSer {f : SerSt → SerSt} (h : SerKept keys core s t) (hf : core (f t.ser) = core t.ser) : SerKept keys core s (t.modSer f) := by
  refine ⟨?_, h.regs, hf.trans h.core⟩
  rw [State.modSer, h.frame]

theorem SerKept.ite {c : Prop} [Decidable c] (h : SerKept keys core s t) (h' : SerKept keys core s u) : SerKept keys core s (if c then t else u) := by
  split
  · exact h
  · exact h'

theorem SerKept.foldl {β : Type} {f : State → β → State} {l : List β} (h : SerKept keys core s t)
    (hf : ∀ x b, SerKept keys core s x → SerKept keys core s (f x b)) : SerKept keys core s (l.foldl f t) :=
  List.foldlRecOn (motive := SerKept keys core s) l f h fun x hx b _ => hf x b hx

/-- A register that is not among the keys reads as before. -/
theorem SerKept.getF (h : SerKept keys core s t) {f : Fld} (hf : ∀ e ∈ keys, e.1 ≠ f) (i : Nat) : t.getF f i = s.getF f i := h.regs.getF_eq hf i

end

/-! The parts of the cycle. -/

/-- What a cycle never touches of SAF's state behind the readback. -/
def SerSt.outer (r : SerSt) := (r.store, r.confirm, r.cycles, r.stuckOn, r.stuckOff)

/-- What the transitions and the checks leave of SAF's state. -/
def SerSt.inner (r : SerSt) := (r.outer, r.record, r.fresh, r.disc)

/-- The registers of the transitions and the checks. -/
def serLateKeys : List (Fld × Nat) := [(.SER_STAT_STATE, 0), (.SER_STAT_PERMIT, 0), (.SER_STAT_FAULT, 0), (.SER_STAT_FAULTIDX, 0), (.SER_STARTUP_SOUTOK, 0),
  (.SER_STARTUP_TPOOK, 0), (.SER_STARTUP_OPENSEEN, 0), (.SER_STARTUP_DONE, 0), (.SER_TEST_NOTDONE, 0), (.SER_TEST_TESTRES, 0)]

/-- The registers of SAF that a cycle may change. -/
def serKeys : List (Fld × Nat) := [(.SER_STAT_STATE, 0), (.SER_STAT_PERMIT, 0), (.SER_STAT_FAULT, 0), (.SER_STAT_FAULTIDX, 0), (.SER_STAT_NEWREC, 0),
  (.SER_STAT_RECERR, 0), (.SER_STAT_CONFIRMED, 0), (.SER_STAT_SOUTST, 0), (.SER_SIN_RAW, 0), (.SER_SIN_FILTERED, 0), (.SER_SIN_DEMAND, 0),
  (.SER_PCRC_PCRC, 0), (.SER_CONF_CONF, 0), (.SER_STARTUP_SOUTOK, 0), (.SER_STARTUP_TPOOK, 0), (.SER_STARTUP_OPENSEEN, 0),
  (.SER_STARTUP_DONE, 0), (.SER_TEST_NOTDONE, 0), (.SER_TEST_TESTRES, 0), (.SER_CNT_DEMCNT, 0)]

/-- A step of the transitions and the checks. -/
abbrev SerLate (s t : State) : Prop := SerKept serLateKeys SerSt.inner s t

/-- A step of the cycle behind the readback. -/
abbrev SerStep (s t : State) : Prop := SerKept serKeys SerSt.outer s t

theorem SerLate.step {s t : State} (h : SerLate s t) : SerStep s t := h.mono (by decide) fun hc => congrArg Prod.fst hc

section
variable {s : State}

/-! Tests abandoned, faults recorded, and the safe state (R347, R353, R354). -/

/-- The output in its dark pulse. -/
def SerSt.darkBit (r : SerSt) : BitVec 4 := match r.dark with | some k => BitVec.ofNat 4 (2 ^ k.val) | none => 0#4

theorem abandonTests_late : SerLate s s.abandonTests := by
  unfold State.abandonTests
  exact .modSer (.setWhen (.setF (.refl s) (by decide)) (by decide)) rfl

/-- What the abandoning of tests leaves of what the states turn on. -/
theorem abandonTests_spec (s : State) : let t := s.abandonTests
    t.serState = s.serState ∧ t.getF .SER_STAT_FAULT 0 = s.getF .SER_STAT_FAULT 0 ∧ t.ser.sout = s.ser.sout &&& ~~~s.ser.darkBit ∧ t.ser.dark = none ∧
      t.ser.cut = s.ser.cut ∧ t.ser.demand = s.ser.demand ∧ t.ser.restart = s.ser.restart := by
  have hget {f : Fld} (h1 : f ≠ .SER_TEST_NOTDONE) (h2 : f ≠ .SER_TEST_TESTRES) : s.abandonTests.getF f 0 = s.getF f 0 :=
    (State.getF_setWhen_ne _ _ _ _ _ h2).trans (State.getF_setF_ne _ _ _ _ h1)
  refine ⟨hget (by decide) (by decide), hget (by decide) (by decide), ?_⟩
  unfold State.abandonTests
  dsimp only
  cases (s.serState == serTest) <;> exact ⟨rfl, rfl, rfl, rfl, rfl⟩

theorem setSer_late (v : Nat) : SerLate s (s.setSer v) := .setF (.setF (.refl s) (by decide)) (by decide)

theorem setSer_state (s : State) {v : Nat} (hv : v < 8) : (s.setSer v).serState = v := by
  rw [State.serState, State.setSer, State.setBit, State.getF_setF_ne _ _ _ _ (by decide), State.getF_setF_same]
  exact Nat.mod_eq_of_lt (by rw [show Fld.SER_STAT_STATE.width = 4 from rfl]; omega)

theorem setSer_permit (s : State) (v : Nat) : (s.setSer v).bit .SER_STAT_PERMIT 0 = (v == serPermit) := by
  rw [State.setSer, State.setBit, State.bit_setF_same]
  cases (v == serPermit) <;> rfl

theorem setSer_getF (s : State) (v : Nat) {f : Fld} (h1 : f ≠ .SER_STAT_STATE) (h2 : f ≠ .SER_STAT_PERMIT) (i : Nat) : (s.setSer v).getF f i = s.getF f i :=
  (State.getF_setF_ne _ _ _ _ h2).trans (State.getF_setF_ne _ _ _ _ h1)

theorem serLeave_late (v : Nat) : SerLate s (s.serLeave v) :=
  .ite (.modSer abandonTests_late rfl) (.modSer (abandonTests_late.trans (setSer_late v)) rfl)

/-- In PERMIT the cut is ordered. -/
theorem serLeave_permit {v : Nat} (h : s.serState = 5) : let t := s.serLeave v
    t.serState = 5 ∧ t.getF .SER_STAT_FAULT 0 = s.getF .SER_STAT_FAULT 0 ∧ t.ser.sout = s.ser.sout &&& ~~~s.ser.darkBit ∧ t.ser.dark = none ∧
      t.ser.cut = some v ∧ t.ser.demand = (s.ser.demand || v == 3) ∧ t.ser.restart = false := by
  have heq : s.serLeave v = s.abandonTests.modSer (fun t => { t with cut := some v, demand := t.demand || v == serDemand, restart := false }) := if_pos h
  obtain ⟨hstate, hfault, hsout, hdark, -, hdemand, -⟩ := abandonTests_spec s
  rw [heq]
  generalize s.abandonTests = w at *
  exact ⟨hstate.trans h, hfault, hsout, hdark, rfl, congrArg (· || v == 3) hdemand, rfl⟩

/-- Elsewhere the state is entered at once. -/
theorem serLeave_other {v : Nat} (h : s.serState ≠ 5) (hv : v < 8) : let t := s.serLeave v
    t.serState = v ∧ t.getF .SER_STAT_FAULT 0 = s.getF .SER_STAT_FAULT 0 ∧ t.ser.sout = 0#4 ∧ t.ser.cut = s.ser.cut ∧ t.ser.demand = s.ser.demand ∧
      t.ser.restart = false := by
  have heq : s.serLeave v = (s.abandonTests.setSer v).modSer (fun t => { t with sout := 0#4, restart := false }) := if_neg h
  obtain ⟨-, hfault, -, -, hcut, hdemand, -⟩ := abandonTests_spec s
  rw [heq]
  generalize s.abandonTests = w at *
  exact ⟨setSer_state w hv, (setSer_getF w v (by decide) (by decide) 0).trans hfault, rfl, hcut, hdemand, rfl⟩

theorem recordFault_late (code idx : Nat) : SerLate s (s.recordFault code idx) :=
  .ite (.refl s) (.modSer (.setF (.setF (.refl s) (by decide)) (by decide)) rfl)

/-- A fault that only a power-on reset clears is recorded and stands. -/
def State.porLatched (s : State) : Prop := s.serState = 6 ∧ s.getF .SER_STAT_FAULT 0 ≠ 0 ∧ s.getF .SER_STAT_FAULT 0 < 0x10

theorem recordFault_latched (code idx : Nat) (h : s.porLatched) : s.recordFault code idx = s := by
  obtain ⟨hstate, h0, hlt⟩ := h
  refine if_pos ?_
  rw [show (s.serState == serFault) = true from beq_iff_eq.2 hstate, bne_iff_ne.2 h0, restartable, decide_eq_false (Nat.not_le.2 hlt)]
  rfl

theorem recordFault_taken (code idx : Nat) (h : ¬s.porLatched) :
    s.recordFault code idx = ((s.setF .SER_STAT_FAULT 0 code).setF .SER_STAT_FAULTIDX 0 idx).modSer (fun t => { t with cause := true }) := by
  refine if_neg fun hc => h ?_
  rw [Bool.and_eq_true, Bool.and_eq_true, beq_iff_eq, bne_iff_ne, Bool.not_eq_true', restartable, decide_eq_false_iff_not] at hc
  exact ⟨hc.1.1, hc.1.2, Nat.not_le.1 hc.2⟩

/-- What the record of a fault leaves of what the states turn on. -/
theorem recordFault_keeps (s : State) (code idx : Nat) : let t := s.recordFault code idx
    t.serState = s.serState ∧ t.getF .SER_TEST_TESTRES 0 = s.getF .SER_TEST_TESTRES 0 ∧ t.ser.sout = s.ser.sout ∧ t.ser.dark = s.ser.dark ∧ t.ser.cut = s.ser.cut ∧
      t.ser.demand = s.ser.demand ∧ t.ser.restart = s.ser.restart := by
  by_cases h : s.porLatched
  · rw [recordFault_latched code idx h]
    exact ⟨rfl, rfl, rfl, rfl, rfl, rfl, rfl⟩
  · rw [recordFault_taken code idx h]
    have hget {f : Fld} (h1 : f ≠ .SER_STAT_FAULT) (h2 : f ≠ .SER_STAT_FAULTIDX) :
        ((s.setF .SER_STAT_FAULT 0 code).setF .SER_STAT_FAULTIDX 0 idx).getF f 0 = s.getF f 0 :=
      (State.getF_setF_ne _ _ _ _ h2).trans (State.getF_setF_ne _ _ _ _ h1)
    exact ⟨hget (by decide) (by decide), hget (by decide) (by decide), rfl, rfl, rfl, rfl, rfl⟩

/-- The code and the index that the record of a fault shows. -/
theorem recordFault_code {code idx : Nat} (hc : code < 256) (hi : idx < 8) (h : ¬s.porLatched) :
    (s.recordFault code idx).getF .SER_STAT_FAULT 0 = code ∧ (s.recordFault code idx).getF .SER_STAT_FAULTIDX 0 = idx := by
  rw [recordFault_taken code idx h]
  refine ⟨(State.getF_setF_ne _ _ _ _ (by decide)).trans ((State.getF_setF_same _ _ _ _).trans ?_), (State.getF_setF_same _ _ _ _).trans ?_⟩
  · exact Nat.mod_eq_of_lt hc
  · exact Nat.mod_eq_of_lt hi


/-! A failure that SAF's diagnostics detect (R347, R352, R354). -/

theorem serFail_late (code idx : Nat) : SerLate s (s.serFail code idx) := by
  have hrec := recordFault_late (s := s) code idx
  exact .ite (.modSer ((hrec.setF (by decide)).trans (setSer_late 6)) rfl)
    (.ite (hrec.trans abandonTests_late) (hrec.trans (serLeave_late 6)))

theorem serFail_test {code idx : Nat} (h : s.serState = 7) : s.serFail code idx = (((s.recordFault code idx).setF .SER_TEST_TESTRES 0 2).setSer 6).modSer
    (fun t => { t with sout := 0#4, pulse := none, recovery := none, dark := none }) := if_pos h

theorem serFail_fault {code idx : Nat} (h : s.serState = 6) : s.serFail code idx = (s.recordFault code idx).abandonTests :=
  (if_neg (by rw [h]; decide)).trans (if_pos h)

theorem serFail_other {code idx : Nat} (h7 : s.serState ≠ 7) (h6 : s.serState ≠ 6) : s.serFail code idx = (s.recordFault code idx).serLeave 6 :=
  (if_neg h7).trans (if_neg h6)

/-- The fault shown behind a failure is the one recorded. -/
theorem serFail_shown (s : State) (code idx : Nat) {f : Fld} (hf : f = .SER_STAT_FAULT ∨ f = .SER_STAT_FAULTIDX) :
    (s.serFail code idx).getF f 0 = (s.recordFault code idx).getF f 0 := by
  have habandon (u : State) : u.abandonTests.getF f 0 = u.getF f 0 := by
    have hcore : SerKept [(.SER_TEST_NOTDONE, 0), (.SER_TEST_TESTRES, 0)] SerSt.inner u u.abandonTests := by
      unfold State.abandonTests
      exact .modSer (.setWhen (.setF (.refl u) (by decide)) (by decide)) rfl
    exact hcore.getF (by rcases hf with rfl | rfl <;> decide) 0
  have hset (u : State) : (u.setSer 6).getF f 0 = u.getF f 0 := setSer_getF u 6 (by rcases hf with rfl | rfl <;> decide) (by rcases hf with rfl | rfl <;> decide) 0
  rcases Classical.em (s.serState = 7) with h7 | h7
  · rw [serFail_test h7]
    exact (hset _).trans (State.getF_setF_ne _ _ _ _ (by rcases hf with rfl | rfl <;> decide))
  · rcases Classical.em (s.serState = 6) with h6 | h6
    · rw [serFail_fault h6]
      exact habandon _
    · rw [serFail_other h7 h6, State.serLeave]
      split
      · exact habandon _
      · exact (hset _).trans (habandon _)

/-- What a detected failure leaves: the cut in PERMIT, the state elsewhere. -/
theorem serFail_spec (s : State) (code idx : Nat) : let t := s.serFail code idx
    (s.serState = 5 → t.serState = 5 ∧ t.ser.cut = some 6 ∧ t.ser.sout = s.ser.sout &&& ~~~s.ser.darkBit ∧ t.ser.demand = s.ser.demand) ∧
    (s.serState ≠ 5 → t.serState = 6 ∧ t.ser.cut = s.ser.cut) ∧ (s.serState ≠ 5 → s.serState ≠ 6 → t.ser.sout = 0#4) ∧
    (s.serState = 6 → t.ser.sout = s.ser.sout &&& ~~~s.ser.darkBit) ∧ (s.serState = 7 → t.getF .SER_TEST_TESTRES 0 = 2) ∧
    (s.ser.restart = false → t.ser.restart = false) := by
  obtain ⟨hstate, -, hsout, hdark, hcut, hdemand, hrestart⟩ := recordFault_keeps s code idx
  have hbit : (s.recordFault code idx).ser.darkBit = s.ser.darkBit := by rw [SerSt.darkBit, hdark, SerSt.darkBit]
  rcases Classical.em (s.serState = 7) with h7 | h7
  · rw [serFail_test h7, h7]
    generalize s.recordFault code idx = x at *
    refine ⟨fun h => absurd h (by decide), fun _ => ⟨setSer_state (x.setF .SER_TEST_TESTRES 0 2) (v := 6) (by decide), hcut⟩, fun _ _ => rfl, fun h => absurd h (by decide), fun _ => ?_,
      fun h => hrestart.trans h⟩
    exact (setSer_getF (x.setF .SER_TEST_TESTRES 0 2) 6 (f := .SER_TEST_TESTRES) (by decide) (by decide) 0).trans (State.getF_setF_same _ _ _ _)
  · rcases Classical.em (s.serState = 6) with h6 | h6
    · rw [serFail_fault h6, h6]
      obtain ⟨hstate', -, hsout', -, hcut', -, hrestart'⟩ := abandonTests_spec (s.recordFault code idx)
      generalize (s.recordFault code idx).abandonTests = t at *
      exact ⟨fun h => absurd h (by decide), fun _ => ⟨hstate'.trans (hstate.trans h6), hcut'.trans hcut⟩, fun _ h => absurd rfl h,
        fun _ => by rw [hsout', hsout, hbit], fun h => absurd h (by decide), fun h => hrestart'.trans (hrestart.trans h)⟩
    · rw [serFail_other h7 h6]
      rcases Classical.em (s.serState = 5) with h5 | h5
      · obtain ⟨hstate', -, hsout', -, hcut', hdemand', hrestart'⟩ := serLeave_permit (v := 6) (hstate.trans h5)
        refine ⟨fun _ => ⟨hstate', hcut', by rw [hsout', hsout, hbit], ?_⟩, fun h => absurd h5 h, fun h => absurd h5 h, fun h => absurd h h6, fun h => absurd h h7,
          fun _ => hrestart'⟩
        rw [hdemand', hdemand]
        exact Bool.or_false _
      · obtain ⟨hstate', -, hsout', hcut', -, hrestart'⟩ := serLeave_other (v := 6) (fun h => h5 (hstate.symm.trans h)) (by decide)
        exact ⟨fun h => absurd h h5, fun _ => ⟨hstate', hcut'.trans hcut⟩, fun _ _ => hsout', fun h => absurd h h6, fun h => absurd h h7, fun _ => hrestart'⟩

/-! The transitions of one cycle (R348, R350, R351). -/

theorem clearChecks_late : SerLate s s.clearChecks := .setF (.setF (.refl s) (by decide)) (by decide)

theorem enterPermit_late : SerLate s s.enterPermit := .modSer (setSer_late 5) rfl

theorem orF_late {f : Fld} {b : Nat} (hf : (f, 0) ∈ serLateKeys) {t : State} (h : SerLate s t) : SerLate s (t.orF f 0 b) := h.setF hf

theorem clrF_late {f : Fld} {b : Nat} (hf : (f, 0) ∈ serLateKeys) {t : State} (h : SerLate s t) : SerLate s (t.clrF f 0 b) := .ite (h.setF hf) h

theorem guardStep_late : SerLate s s.guardStep := by
  unfold State.guardStep
  refine .foldl (.refl s) fun t n h => .ite h (.ite ?_ (.ite ?_ (.ite ?_ h)))
  · exact .modSer (clrF_late (by decide) h) rfl
  · exact orF_late (by decide) h
  · exact .modSer h rfl

theorem serTransition_late (ok : Bool) : SerLate s (s.serTransition ok) := by
  unfold State.serTransition
  refine .ite (.ite ?_ guardStep_late) (.ite (.ite (.refl s) ?_) (.ite (.ite enterPermit_late ?_) (.ite (.ite (serLeave_late 3) (.refl s))
    (.ite (.ite (serLeave_late 3) ?_) (.refl s)))))
  · exact guardStep_late.trans enterPermit_late
  · exact (setSer_late 4).trans clearChecks_late
  · exact .modSer (.refl s) rfl
  · exact .modSer (.refl s) rfl

theorem causeStep_late (sf : Option (Nat × Nat)) : SerLate s (s.causeStep sf) := .ite (.modSer (.refl s) rfl) (.ite (.modSer (.refl s) rfl) (.refl s))

theorem serChecks_late (sf : Option (Nat × Nat)) (diag : SafDiag) : SerLate s (s.serChecks sf diag) := by
  unfold State.serChecks
  refine .ite (serFail_late _ _) ?_
  split
  · exact serFail_late _ _
  · exact serFail_late _ _
  · exact .refl s

theorem newDemand_late (old : Nat) : SerLate s (s.newDemand old) := by
  unfold State.newDemand
  exact .ite (SerKept.trans (.modSer (.refl s) rfl) abandonTests_late) (.modSer (.refl s) rfl)

/-! The record, the confirmation and the samples (R342, R343, R349, R357 to R359). -/

theorem setSer_step (v : Nat) : SerStep s (s.setSer v) := (setSer_late v).step

theorem takeRecord_step : SerStep s s.takeRecord := by
  unfold State.takeRecord
  extract_lets r ok s1 s2 s3
  have h2 : SerStep s s2 := .setF (.setF (.setF (.setF (.setF (.setF (.refl s) (by decide)) (by decide)) (by decide)) (by decide)) (by decide)) (by decide)
  have h3 : SerStep s s3 := .ite h2 (.setF (h2.trans (setSer_step 1)) (by decide))
  exact .modSer (.setF h3 (by decide)) rfl

theorem confirmStep_step : SerStep s s.confirmStep := by
  unfold State.confirmStep
  extract_lets s1
  have h1 : SerStep s s1 := .setF (.refl s) (by decide)
  refine .ite (.modSer ?_ rfl) h1
  exact SerKept.trans (.setF (.setF ((SerKept.setF h1 (by decide)).trans (setSer_step 2)) (by decide)) (by decide)) clearChecks_late.step

/-- The samples touch what they show, the runs and what they establish. -/
theorem sampleInputs_step (closed : BitVec 8) : SerStep s (s.sampleInputs closed) := by
  unfold State.sampleInputs
  exact .modSer (.setF (.setF (.setF (.refl s) (by decide)) (by decide)) (by decide)) rfl

theorem pairStep_step : SerStep s s.pairStep := by
  unfold State.pairStep
  exact .modSer (.refl s) rfl

theorem soutCut_frame (s : State) : SerKept serKeys (fun r => (r.store, r.confirm, r.cycles)) s s.soutCut := by
  unfold State.soutCut
  split
  · exact .refl s
  · refine .modSer (.modSer (SerKept.setF (SerKept.setF (.setF (.refl s) ?_) ?_) ?_) rfl) rfl <;> decide


/-! The cycle in three parts. -/

/-- The samples of a record in use, with what a new demand abandons. -/
def State.serSampled (s : State) (closed : BitVec 8) : State := ((s.sampleInputs closed).pairStep).newDemand (s.getF .SER_SIN_DEMAND 0)

/-- The transitions and the checks. -/
def State.cycleEnd (s : State) (sf : Option (Nat × Nat)) (diag : SafDiag) : State :=
  ((if s.serRecord then s.serTransition (diag == .ok && s.discFault.isNone && sf.isNone) else s).causeStep sf).serChecks sf diag

/-- The record taken and confirmed. -/
def State.recordStep (s : State) : State :=
  let s1 := if s.takesRecord then s.takeRecord else s
  if s1.serState = serUnconf then s1.confirmStep else s1

/-- The samples, where a record is in use. -/
def State.sampleStep (s : State) (closed : BitVec 8) : State := if s.serRecord then s.serSampled closed else s

theorem safetyCycle_eq (s : State) (closed : BitVec 8) (rb : BitVec 4) (diag : SafDiag) : s.safetyCycle closed rb diag =
    ((s.soutCut.readSouts rb).recordStep.sampleStep closed).cycleEnd ((s.soutCut.readSouts rb).soutFault rb) diag := rfl

theorem sampled_step (closed : BitVec 8) : SerStep s (s.serSampled closed) :=
  ((sampleInputs_step closed).trans pairStep_step).trans (newDemand_late _).step

theorem sampleStep_step (closed : BitVec 8) : SerStep s (s.sampleStep closed) := .ite (sampled_step closed) (.refl s)

theorem recordStep_step : SerStep s s.recordStep := by
  unfold State.recordStep
  extract_lets s1
  have h1 : SerStep s s1 := .ite takeRecord_step (.refl s)
  exact .ite (h1.trans confirmStep_step) h1

theorem cycleEnd_late (sf : Option (Nat × Nat)) (diag : SafDiag) : SerLate s (s.cycleEnd sf diag) := by
  unfold State.cycleEnd
  exact ((SerKept.ite (serTransition_late _) (.refl s)).trans (causeStep_late sf)).trans (serChecks_late sf diag)

/-- What every cycle leaves. -/
theorem safetyCycle_step (closed : BitVec 8) (rb : BitVec 4) (diag : SafDiag) :
    SerStep (s.soutCut.readSouts rb) (s.safetyCycle closed rb diag) := by
  rw [safetyCycle_eq]
  exact (recordStep_step.trans (sampleStep_step closed)).trans (cycleEnd_late _ _).step

end

end Sys2Proof.Machine
end

section
/-! The samples of a safety cycle, and the record taken and confirmed (R342, R343, R357 to R359). -/
namespace Sys2Proof.Machine

-- The proofs one after another: all at once they would need more threads, and their stacks, than the check's memory holds.
set_option Elab.async false

/-! Masks of inputs. -/

/-- A mask gathered over a list has the bits of the members that pass. -/
theorem testBit_gather (p : Nat → Bool) (l : List Nat) (m k : Nat) :
    (l.foldl (fun m n => if p n then m ||| 2 ^ n else m) m).testBit k = (m.testBit k || l.any (fun n => n == k && p n)) := by
  induction l generalizing m with
  | nil => simp
  | cons n l ih =>
    rw [List.foldl_cons, ih, List.any_cons, ← Bool.or_assoc]
    congr 1
    cases p n
    · simp
    · by_cases hk : n = k
      · simp [hk, Nat.testBit_two_pow_self]
      · simp [hk, Nat.testBit_two_pow_of_ne hk]

/-- The used inputs' part of a mask. -/
theorem gather_used (p : Nat → Bool) (r : List Byte) (m k : Nat) :
    ((usedInputs r).foldl (fun m n => if p n then m ||| 2 ^ n else m) m).testBit k = (m.testBit k || (decide (k < 8) && sinFunc r k != 0 && p k)) := by
  rw [testBit_gather]
  congr 1
  rw [Bool.eq_iff_iff, List.any_eq_true]
  simp only [usedInputs, List.mem_filter, List.mem_range, Bool.and_eq_true, beq_iff_eq, decide_eq_true_eq]
  constructor
  · rintro ⟨n, ⟨hlt, hused⟩, rfl, hp⟩
    exact ⟨⟨hlt, hused⟩, hp⟩
  · rintro ⟨⟨hlt, hused⟩, hp⟩
    exact ⟨k, ⟨hlt, hused⟩, rfl, hp⟩

theorem usedMask_bit (r : List Byte) (k : Nat) : (usedMask r).testBit k = (decide (k < 8) && sinFunc r k != 0) := by
  have h := gather_used (fun _ => true) r 0 k
  rw [Nat.zero_testBit, Bool.false_or, Bool.and_true] at h
  exact h

/-- Bits taken away from a mask that has them. -/
theorem testBit_sub_subset {m f : Nat} (hm : m < 2 ^ 8) (h : ∀ k, f.testBit k = true → m.testBit k = true) (k : Nat) :
    (m - f).testBit k = (m.testBit k && !f.testBit k) := by
  have hf : f < 2 ^ 8 := Nat.lt_pow_two_of_testBit f fun k hk => by
    by_contra hbit
    rw [Bool.not_eq_false] at hbit
    have hbit' := h k hbit
    rw [Nat.testBit_lt_two_pow (lt_of_lt_of_le hm (Nat.pow_le_pow_right (by decide) hk))] at hbit'
    exact absurd hbit' Bool.false_ne_true
  have hbits (x : Nat) (j : Nat) (hj : j < 8) : (BitVec.ofNat 8 x).getLsbD j = x.testBit j := by rw [BitVec.getLsbD_ofNat, decide_eq_true hj, Bool.true_and]
  have hdisj : BitVec.ofNat 8 f &&& (BitVec.ofNat 8 m &&& ~~~BitVec.ofNat 8 f) = 0#8 := by
    refine BitVec.eq_of_getLsbD_eq fun j hj => ?_
    simp only [BitVec.getLsbD_and, BitVec.getLsbD_not, BitVec.getLsbD_zero, hj, decide_true, Bool.true_and]
    cases (BitVec.ofNat 8 f).getLsbD j <;> simp
  have hunion : BitVec.ofNat 8 f ||| (BitVec.ofNat 8 m &&& ~~~BitVec.ofNat 8 f) = BitVec.ofNat 8 m := by
    refine BitVec.eq_of_getLsbD_eq fun j hj => ?_
    have := h j
    cases hfj : f.testBit j <;> simp_all
  have hadd := BitVec.toNat_add_of_and_eq_zero hdisj
  rw [BitVec.add_eq_or_of_and_eq_zero _ _ hdisj, hunion, BitVec.toNat_ofNat, BitVec.toNat_ofNat, Nat.mod_eq_of_lt hm, Nat.mod_eq_of_lt hf] at hadd
  have hsub : m - f = (BitVec.ofNat 8 m &&& ~~~BitVec.ofNat 8 f).toNat := by omega
  rw [hsub, BitVec.testBit_toNat, BitVec.getLsbD_and, BitVec.getLsbD_not]
  by_cases hk : k < 8
  · rw [hbits _ _ hk, hbits _ _ hk, decide_eq_true hk, Bool.true_and]
  · rw [Nat.testBit_lt_two_pow (lt_of_lt_of_le hm (Nat.pow_le_pow_right (by decide) (Nat.not_lt.1 hk))), BitVec.getLsbD_of_ge _ _ (Nat.not_lt.1 hk),
      Bool.false_and, Bool.false_and]

/-! The samples. -/

theorem State.modSer_getF (s : State) (g : SerSt → SerSt) (f : Fld) (i : Nat) : (s.modSer g).getF f i = s.getF f i := rfl

/-- The filter's verdict on an input (R342), as the model forms it. -/
def filtBit (s : State) (closed : BitVec 8) (n : Nat) : Bool :=
  let raw := closed.toNat &&& usedMask s.ser.record
  let run := if raw.testBit n = (s.getF .SER_SIN_RAW 0).testBit n then min 64 (s.ser.run.toList.getD n 0 + 1) else 1
  if sinFilt s.ser.record n ≤ run then raw.testBit n else (s.getF .SER_SIN_FILTERED 0).testBit n

section
variable {s : State} {closed : BitVec 8}

theorem filtBit_iff (n : Fin 8) : (sinFunc s.ser.record n != 0 && filtBit s closed n) = true ↔ FilteredClosed s closed n := by
  have hraw (h : sinFunc s.ser.record n ≠ 0) : (closed.toNat &&& usedMask s.ser.record).testBit n = closed.getLsbD n := by
    rw [Nat.testBit_and, usedMask_bit, decide_eq_true n.isLt, bne_iff_ne.2 h, Bool.true_and, Bool.and_true, BitVec.testBit_toNat]
  have hrun : s.ser.run.toList.getD n 0 = s.ser.run[n] := by simp
  rw [FilteredClosed, Bool.and_eq_true, bne_iff_ne]
  refine and_congr_right fun h => ?_
  rw [filtBit, hraw h, hrun]
  rw [show s.testF .SER_SIN_RAW 0 n = (s.getF .SER_SIN_RAW 0).testBit n from rfl]
  split <;> split <;> rfl

/-- What the samples show. -/
theorem sampleInputs_shows (n : Fin 8) : let t := s.sampleInputs closed
    t.testF .SER_SIN_RAW 0 n = (decide (sinFunc s.ser.record n ≠ 0) && closed.getLsbD n) ∧
    (t.testF .SER_SIN_FILTERED 0 n = true ↔ FilteredClosed s closed n) ∧
    (t.testF .SER_SIN_DEMAND 0 n = true ↔ sinFunc s.ser.record n ≠ 0 ∧ ¬FilteredClosed s closed n) := by
  unfold State.sampleInputs
  extract_lets r raw old run est filt known
  have hused (k : Nat) (hk : raw.testBit k = true) : (usedMask r).testBit k = true := by
    rw [Nat.testBit_and, Bool.and_eq_true] at hk
    exact hk.2
  have hmask : usedMask r < 2 ^ 8 := Nat.lt_pow_two_of_testBit _ fun k hk => by rw [usedMask_bit, decide_eq_false (Nat.not_lt.2 hk), Bool.false_and]
  have hbit (k : Nat) : filt.testBit k = (decide (k < 8) && sinFunc r k != 0 && if est k then raw.testBit k else (s.getF .SER_SIN_FILTERED 0).testBit k) :=
    (gather_used (fun n => if est n then raw.testBit n else (s.getF .SER_SIN_FILTERED 0).testBit n) r 0 k).trans (by rw [Nat.zero_testBit, Bool.false_or])
  have hsub (k : Nat) (hk : filt.testBit k = true) : (usedMask r).testBit k = true := by
    rw [hbit, Bool.and_eq_true] at hk
    rw [usedMask_bit]
    exact hk.1
  have hfilt : filt.testBit n = (sinFunc r n != 0 && filtBit s closed n) := by
    have hrun : run.toList.getD n 0 = if raw.testBit n = old.testBit n then min 64 (s.ser.run.toList.getD n 0 + 1) else 1 := by
      simp [run]
    rw [hbit, decide_eq_true n.isLt, Bool.true_and, filtBit]
    congr 1
    simp only [est, decide_eq_true_eq, hrun]
    rfl
  have hcut (x : Nat) {f : Fld} (hf : f.width = 8) : (x % 2 ^ f.width).testBit n = x.testBit n := by
    rw [hf, Nat.testBit_mod_two_pow, decide_eq_true n.isLt, Bool.true_and]
  have hdem : (usedMask r - filt).testBit n = (sinFunc r n != 0 && !(sinFunc r n != 0 && filtBit s closed n)) := by
    rw [testBit_sub_subset hmask hsub, usedMask_bit, hfilt, decide_eq_true n.isLt, Bool.true_and]
  refine ⟨?_, ?_, ?_⟩
  · rw [State.testF, State.modSer_getF, State.getF_setF_ne _ _ _ _ (by decide), State.getF_setF_ne _ _ _ _ (by decide), State.getF_setF_same, hcut _ rfl,
      Nat.testBit_and, usedMask_bit, decide_eq_true n.isLt, BitVec.testBit_toNat, Bool.true_and, Bool.and_comm]
    congr 1
    rw [Bool.eq_iff_iff, bne_iff_ne, decide_eq_true_eq]
  · rw [State.testF, State.modSer_getF, State.getF_setF_ne _ _ _ _ (by decide), State.getF_setF_same, hcut _ rfl, hfilt]
    exact filtBit_iff n
  · rw [State.testF, State.modSer_getF, State.getF_setF_same, hcut _ rfl, hdem, Bool.and_eq_true, bne_iff_ne, Bool.not_eq_true', ← Bool.not_eq_true, filtBit_iff]

/-- An input demands where the samples show it. -/
theorem sampleInputs_demands : (s.sampleInputs closed).getF .SER_SIN_DEMAND 0 ≠ 0 ↔ ∃ n : Fin 8, sinFunc s.ser.record n ≠ 0 ∧ ¬FilteredClosed s closed n := by
  have hlt : (s.sampleInputs closed).getF .SER_SIN_DEMAND 0 < 2 ^ 8 := by
    unfold State.sampleInputs
    rw [State.modSer_getF, State.getF_setF_same]
    exact Nat.mod_lt _ (by decide)
  have hshows (n : Fin 8) := (sampleInputs_shows (s := s) (closed := closed) n).2.2
  generalize s.sampleInputs closed = t at *
  constructor
  · intro h
    obtain ⟨k, hk⟩ := Nat.exists_testBit_of_ne_zero h
    have hk8 : k < 8 := by
      by_contra hge
      rw [Nat.testBit_lt_two_pow (lt_of_lt_of_le hlt (Nat.pow_le_pow_right (by decide) (Nat.not_lt.1 hge)))] at hk
      exact Bool.false_ne_true hk
    exact ⟨⟨k, hk8⟩, (hshows ⟨k, hk8⟩).1 hk⟩
  · rintro ⟨n, hn⟩ h0
    have := (hshows n).2 hn
    rw [State.testF, h0, Nat.zero_testBit] at this
    exact Bool.false_ne_true this


/-- What the samples leave of SAF's state. -/
def SerSt.settled (r : SerSt) := (r.outer, r.record, r.fresh, r.cut, r.demand, r.restart)

/-- The registers of the samples and of the tests that a new demand abandons. -/
def sampleKeys : List (Fld × Nat) := [(.SER_SIN_RAW, 0), (.SER_SIN_FILTERED, 0), (.SER_SIN_DEMAND, 0), (.SER_TEST_NOTDONE, 0), (.SER_TEST_TESTRES, 0)]

theorem abandonTests_kept : SerKept [(.SER_TEST_NOTDONE, 0), (.SER_TEST_TESTRES, 0)] SerSt.settled s s.abandonTests := by
  unfold State.abandonTests
  exact .modSer (.setWhen (.setF (.refl s) (by decide)) (by decide)) rfl

theorem newDemand_kept (old : Nat) : SerKept [(.SER_TEST_NOTDONE, 0), (.SER_TEST_TESTRES, 0)] SerSt.settled s (s.newDemand old) := by
  unfold State.newDemand
  exact .ite (SerKept.trans (.modSer (.refl s) rfl) abandonTests_kept) (.modSer (.refl s) rfl)

theorem serSampled_kept : SerKept sampleKeys SerSt.settled s (s.serSampled closed) := by
  have hsample : SerKept sampleKeys SerSt.settled s (s.sampleInputs closed) := by
    unfold State.sampleInputs
    exact .modSer (.setF (.setF (.setF (.refl s) (by decide)) (by decide)) (by decide)) rfl
  have hpair : SerKept sampleKeys SerSt.settled s (s.sampleInputs closed).pairStep := by
    unfold State.pairStep
    exact .modSer hsample rfl
  exact hpair.trans ((newDemand_kept _).mono (by decide) id)

/-- A new demand leaves the outputs in PERMIT, and without a dark pulse. -/
theorem newDemand_outputs (old : Nat) : let t := s.newDemand old
    (s.serState = 5 → t.ser.sout = s.ser.sout ∧ t.ser.dark = s.ser.dark) ∧ (s.ser.dark = none → t.ser.sout = s.ser.sout ∧ t.ser.dark = none) := by
  unfold State.newDemand
  extract_lets wait s1 t
  have h1 : s1.ser.sout = s.ser.sout ∧ s1.ser.dark = s.ser.dark := ⟨rfl, rfl⟩
  have ht : t = s1.abandonTests ∧ s.serState ≠ 5 ∨ t = s1 := by
    unfold t
    split
    next h =>
      rw [Bool.and_eq_true, Bool.and_eq_true, bne_iff_ne, bne_iff_ne] at h
      exact .inl ⟨rfl, h.1.2⟩
    next h => exact .inr rfl
  clear_value t s1
  rcases ht with ⟨rfl, hne⟩ | rfl
  · obtain ⟨-, -, hsout, hdark', -⟩ := abandonTests_spec s1
    refine ⟨fun h5 => absurd h5 hne, fun hdark => ⟨?_, hdark'⟩⟩
    rw [hsout, SerSt.darkBit, h1.2, hdark, h1.1]
    exact BitVec.and_allOnes
  · exact ⟨fun _ => h1, fun hdark => ⟨h1.1, h1.2.trans hdark⟩⟩

theorem serSampled_outputs : let t := s.serSampled closed
    (s.serState = 5 → t.ser.sout = s.ser.sout ∧ t.ser.dark = s.ser.dark) ∧ (s.ser.dark = none → t.ser.sout = s.ser.sout ∧ t.ser.dark = none) := by
  have hkept : SerKept sampleKeys SerSt.settled s (s.sampleInputs closed).pairStep := by
    unfold State.sampleInputs State.pairStep
    exact .modSer (.modSer (.setF (.setF (.setF (.refl s) (by decide)) (by decide)) (by decide)) rfl) rfl
  have hser : (s.sampleInputs closed).pairStep.ser.sout = s.ser.sout ∧ (s.sampleInputs closed).pairStep.ser.dark = s.ser.dark := ⟨rfl, rfl⟩
  have hnew := newDemand_outputs (s := (s.sampleInputs closed).pairStep) (s.getF .SER_SIN_DEMAND 0)
  have hstate : (s.sampleInputs closed).pairStep.serState = s.serState := hkept.getF (by decide) 0
  rw [State.serSampled]
  generalize (s.sampleInputs closed).pairStep = w at *
  dsimp only at hnew ⊢
  rw [hstate, hser.1, hser.2] at hnew
  exact hnew

theorem serSampled_getF (f : Fld) (hf : f ≠ .SER_TEST_NOTDONE ∧ f ≠ .SER_TEST_TESTRES) : (s.serSampled closed).getF f 0 = (s.sampleInputs closed).getF f 0 :=
  ((newDemand_kept (s := (s.sampleInputs closed).pairStep) _).getF (by simpa using ⟨hf.1.symm, hf.2.symm⟩) 0).trans rfl

/-- What the samples of a cycle show. -/
theorem serSampled_shows (n : Fin 8) : let t := s.serSampled closed
    t.testF .SER_SIN_RAW 0 n = (decide (sinFunc s.ser.record n ≠ 0) && closed.getLsbD n) ∧
    (t.testF .SER_SIN_FILTERED 0 n = true ↔ FilteredClosed s closed n) ∧
    (t.testF .SER_SIN_DEMAND 0 n = true ↔ sinFunc s.ser.record n ≠ 0 ∧ ¬FilteredClosed s closed n) := by
  dsimp only
  rw [State.testF, serSampled_getF _ (by decide), State.testF, serSampled_getF _ (by decide), State.testF, serSampled_getF _ (by decide)]
  exact sampleInputs_shows n

theorem serSampled_demands : (s.serSampled closed).getF .SER_SIN_DEMAND 0 ≠ 0 ↔ ∃ n : Fin 8, sinFunc s.ser.record n ≠ 0 ∧ ¬FilteredClosed s closed n := by
  rw [serSampled_getF _ (by decide)]
  exact sampleInputs_demands

/-- A record in use stays in use. -/
theorem serRecord_congr {t : State} (hr : t.ser.record = s.ser.record) (he : t.getF .SER_STAT_RECERR 0 = s.getF .SER_STAT_RECERR 0) : t.serRecord = s.serRecord := by
  rw [State.serRecord, State.bit, hr, he]
  rfl

end

end Sys2Proof.Machine
end

section
/-! One safety cycle (R342 to R359). -/
namespace Sys2Proof.Machine

-- The proofs one after another: all at once they would need more threads, and their stacks, than the check's memory holds.
set_option Elab.async false

section
variable {s : State} {closed : BitVec 8} {rb : BitVec 4} {diag : SafDiag} {sf : Option (Nat × Nat)}

/-! The end of the cycle. -/

theorem discFault_congr {t : State} (h : t.ser.inner = s.ser.inner) : t.discFault = s.discFault := by
  have hrec : t.ser.record = s.ser.record := congrArg (fun x => x.2.1) h
  have hdisc : t.ser.disc = s.ser.disc := congrArg (fun x => x.2.2.2) h
  rw [State.discFault, hrec, hdisc, State.discFault]

/-- What the transition of the cycle makes of the state. -/
def State.serMoved (s : State) (ok : Bool) : State := if s.serRecord then s.serTransition ok else s

theorem serMoved_late (ok : Bool) : SerLate s (s.serMoved ok) := .ite (serTransition_late ok) (.refl s)

/-- What the causes of a fault do not touch. -/
def SerSt.apart (r : SerSt) := (r.inner, r.sout, r.cut, r.demand, r.restart, r.dark)

theorem causeStep_kept (sf : Option (Nat × Nat)) : SerKept [] SerSt.apart s (s.causeStep sf) := by
  unfold State.causeStep
  exact .ite (.modSer (.refl s) rfl) (.ite (.modSer (.refl s) rfl) (.refl s))

/-- A cycle without a fault ends with its transition. -/
theorem cycleEnd_quiet (hd : s.discFault = none) : s.cycleEnd none .ok = (s.serMoved true).causeStep none := by
  have hd' : ((s.serMoved true).causeStep none).discFault = none :=
    (discFault_congr ((serMoved_late true).trans (causeStep_late none)).core).trans hd
  have hok : (SafDiag.ok == .ok && s.discFault.isNone && (none : Option (Nat × Nat)).isNone) = true := by rw [hd]; rfl
  rw [State.cycleEnd, hok]
  show ((s.serMoved true).causeStep none).serChecks none .ok = _
  unfold State.serChecks
  rw [hd']
  rfl

/-- The quiet cycle's end leaves what the transition left. -/
theorem cycleEnd_moved (hd : s.discFault = none) : SerKept [] SerSt.apart (s.serMoved true) (s.cycleEnd none .ok) := by
  rw [cycleEnd_quiet hd]
  exact causeStep_kept none

/-- A diagnostic that fails ends the cycle. -/
theorem cycleEnd_fails (hdiag : diag ≠ .ok) : s.cycleEnd sf diag = ((s.serMoved false).causeStep sf).serFail (diagCode diag) 0 := by
  have hok : (diag == .ok && s.discFault.isNone && sf.isNone) = false := by
    rw [show (diag == .ok) = false from by simpa using hdiag]
    rfl
  have hcode : (diagCode diag != 0) = true := by
    cases diag with
    | ok => exact absurd rfl hdiag
    | _ => rfl
  rw [State.cycleEnd, hok]
  show ((s.serMoved false).causeStep sf).serChecks sf diag = _
  unfold State.serChecks
  rw [if_pos hcode]

/-! The samples of a record in use. -/

/-- An input demands (R343). -/
def SerDemands (s : State) (closed : BitVec 8) : Prop := ∃ n : Fin 8, sinFunc s.ser.record n ≠ 0 ∧ ¬FilteredClosed s closed n

/-- The state behind the samples of a cycle of `s`. -/
structure SampledFrom (s : State) (closed : BitVec 8) (u : State) : Prop where
  state : u.serState = s.serState
  fault : u.getF .SER_STAT_FAULT 0 = s.getF .SER_STAT_FAULT 0
  record : u.ser.record = s.ser.record
  inUse : u.serRecord = s.serRecord
  cut : u.ser.cut = s.ser.cut
  restart : u.ser.restart = s.ser.restart
  demands : u.getF .SER_SIN_DEMAND 0 ≠ 0 ↔ SerDemands s closed
  permit : s.serState = 5 → u.ser.sout = s.ser.sout ∧ u.ser.dark = s.ser.dark
  noDark : s.ser.dark = none → u.ser.sout = s.ser.sout ∧ u.ser.dark = none

theorem serSampled_from (s : State) (closed : BitVec 8) : SampledFrom s closed (s.serSampled closed) := by
  have hkept := serSampled_kept (s := s) (closed := closed)
  obtain ⟨hpermit, hdark⟩ := serSampled_outputs (s := s) (closed := closed)
  have hcore := hkept.core
  have hrec : (s.serSampled closed).ser.record = s.ser.record := congrArg (fun x => x.2.1) hcore
  exact ⟨hkept.getF (by decide) 0, hkept.getF (by decide) 0, hrec, serRecord_congr hrec (hkept.getF (by decide) 0),
    congrArg (fun x => x.2.2.2.1) hcore, congrArg (fun x => x.2.2.2.2.2) hcore, serSampled_demands, hpermit, hdark⟩

theorem SampledFrom.readSouts {u : State} (h : SampledFrom (s.readSouts rb) closed u) : SampledFrom s closed u :=
  ⟨h.state, h.fault, h.record, h.inUse, h.cut, h.restart, h.demands, h.permit, h.noDark⟩

/-! The cycle without a cut, a new record or a record to confirm. -/

theorem soutCut_none (h : s.ser.cut = none) : s.soutCut = s := by
  rw [State.soutCut, h]

theorem recordStep_idle (ht : s.takesRecord = false) (h1 : s.serState ≠ 1) : s.recordStep = s := by
  rw [State.recordStep, ht, if_neg Bool.false_ne_true]
  exact if_neg h1

/-- With a record in use the cycle samples and ends. -/
theorem safetyCycle_sampled (hcut : s.ser.cut = none) (ht : s.takesRecord = false) (h1 : s.serState ≠ 1) (hrec : s.serRecord = true) :
    ∃ u, SampledFrom s closed u ∧ ∀ diag, s.safetyCycle closed rb diag = u.cycleEnd (s.soutFault rb) diag := by
  have hidle : (s.readSouts rb).recordStep = s.readSouts rb := recordStep_idle (s := s.readSouts rb) ht h1
  refine ⟨(s.readSouts rb).serSampled closed, (serSampled_from _ closed).readSouts, fun diag => ?_⟩
  rw [safetyCycle_eq, soutCut_none hcut, hidle, State.sampleStep, show (s.readSouts rb).serRecord = true from hrec, if_pos rfl]
  rfl


/-! The transitions, by state. -/

theorem serMoved_inUse (h : s.serRecord = true) (ok : Bool) : s.serMoved ok = s.serTransition ok := if_pos h

theorem serTransition_permit (h : s.serState = 5) (ok : Bool) : s.serTransition ok = if s.getF .SER_SIN_DEMAND 0 ≠ 0 then s.serLeave 3 else s := by
  unfold State.serTransition
  rw [h]
  simp only [bne_iff_ne]
  rfl

theorem serTransition_demand (h : s.serState = 3) (ok : Bool) :
    s.serTransition ok = if s.getF .SER_SIN_DEMAND 0 ≠ 0 then s else (s.setSer 4).clearChecks := by
  unfold State.serTransition
  rw [h]
  simp only [bne_iff_ne]
  rfl

theorem serTransition_recovery (h : s.serState = 4) (ok : Bool) : s.serTransition ok =
    if s.ser.restart = true ∧ ok = true ∧ s.getF .SER_SIN_DEMAND 0 = 0 then s.enterPermit else s.modSer (fun t => { t with restart := false }) := by
  unfold State.serTransition
  rw [h]
  simp only [Bool.and_eq_true, Bool.not_eq_true', bne_eq_false_iff_eq, and_assoc]
  rfl

theorem serTransition_other (h : s.serState = 0 ∨ s.serState = 1 ∨ s.serState = 6) (ok : Bool) : s.serTransition ok = s := by
  unfold State.serTransition
  rcases h with h | h | h <;> rw [h] <;> rfl

/-- The checks pass, or one fails. -/
theorem serChecks_cases (x : State) (sf : Option (Nat × Nat)) (diag : SafDiag) : x.serChecks sf diag = x ∨ ∃ c i, x.serChecks sf diag = x.serFail c i := by
  unfold State.serChecks
  split
  · exact .inr ⟨_, _, rfl⟩
  · split
    · exact .inr ⟨_, _, rfl⟩
    · exact .inr ⟨_, _, rfl⟩
    · exact .inl rfl

/-- How a cycle ends: with its transition, or with the failure of a check behind it. -/
theorem cycleEnd_cases (s : State) (sf : Option (Nat × Nat)) (diag : SafDiag) : ∃ ok, let x := (s.serMoved ok).causeStep sf
    s.cycleEnd sf diag = x ∨ ∃ c i, s.cycleEnd sf diag = x.serFail c i :=
  ⟨diag == .ok && s.discFault.isNone && sf.isNone, serChecks_cases _ sf diag⟩

/-- The cause of a fault found anew leaves what the states turn on. -/
theorem causeStep_same (x : State) (sf : Option (Nat × Nat)) : let t := x.causeStep sf
    t.serState = x.serState ∧ (∀ f, t.getF f 0 = x.getF f 0) ∧ t.ser.sout = x.ser.sout ∧ t.ser.cut = x.ser.cut ∧ t.ser.demand = x.ser.demand ∧
      t.ser.restart = x.ser.restart ∧ t.ser.dark = x.ser.dark := by
  have hkept := causeStep_kept (s := x) sf
  have hcore := hkept.core
  have hget (f : Fld) : (x.causeStep sf).getF f 0 = x.getF f 0 := hkept.getF (List.forall_mem_nil _) 0
  exact ⟨hget _, hget, congrArg (fun r => r.2.1) hcore, congrArg (fun r => r.2.2.1) hcore, congrArg (fun r => r.2.2.2.1) hcore,
    congrArg (fun r => r.2.2.2.2.1) hcore, congrArg (fun r => r.2.2.2.2.2) hcore⟩

theorem asserted_ser (t : State) : t.asserted 65 = (t.serState != 5 || t.ser.cut.isSome) := rfl

/-- The code that a failed diagnostic records. -/
theorem serFail_diag {x : State} (h : ¬x.porLatched) : (x.serFail (diagCode diag) 0).getF .SER_STAT_FAULT 0 = diagCode diag := by
  rw [serFail_shown x _ _ (.inl rfl)]
  exact (recordFault_code (by cases diag <;> decide) (by decide) h).1

/-! PERMIT (R347, R351). -/

theorem darkBit_none {r : SerSt} (h : r.dark = none) : r.darkBit = 0#4 := by rw [SerSt.darkBit, h]

/-- The cycle in PERMIT. -/
theorem permit_cycle {u : State} (hu : SampledFrom s closed u) (h5 : s.serState = 5) (hrec : s.serRecord = true) (hcut : s.ser.cut = none) :
    let t := u.cycleEnd sf diag
    t.serState = 5 ∧ (t.ser.sout = if t.ser.cut.isSome then s.ser.sout &&& ~~~s.ser.darkBit else s.ser.sout) ∧
    (SerDemands s closed → t.ser.cut.isSome = true ∧ t.ser.demand = true) ∧
    (diag = .ok → t.discFault = none → sf = none → (SerDemands s closed → t.ser.cut = some 3) ∧ (¬SerDemands s closed → t.ser.cut = none)) ∧
    (diag ≠ .ok → t.ser.cut = some 6 ∧ t.getF .SER_STAT_FAULT 0 = diagCode diag) := by
  have hu5 : u.serState = 5 := hu.state.trans h5
  obtain ⟨hsout, hdark⟩ := hu.permit h5
  have hucut : u.ser.cut = none := hu.cut.trans hcut
  have hbit : u.ser.darkBit = s.ser.darkBit := by rw [SerSt.darkBit, hdark, SerSt.darkBit]
  -- the transition: the cut is ordered where an input demands
  have hmoved (ok : Bool) : (SerDemands s closed ∧ (u.serMoved ok).serState = 5 ∧ (u.serMoved ok).ser.sout = s.ser.sout &&& ~~~s.ser.darkBit ∧
      (u.serMoved ok).ser.dark = none ∧ (u.serMoved ok).ser.cut = some 3 ∧ (u.serMoved ok).ser.demand = true) ∨
      (¬SerDemands s closed ∧ u.serMoved ok = u) := by
    rw [serMoved_inUse (hu.inUse.trans hrec), serTransition_permit hu5]
    by_cases hd : u.getF .SER_SIN_DEMAND 0 ≠ 0
    · obtain ⟨hstate, -, hsout', hdark', hcut', hdemand, -⟩ := serLeave_permit (v := 3) hu5
      rw [if_pos hd]
      exact .inl ⟨hu.demands.1 hd, hstate, by rw [hsout', hsout, hbit], hdark', hcut', by rw [hdemand]; exact Bool.or_true _⟩
    · rw [if_neg hd]
      exact .inr ⟨fun h => hd (hu.demands.2 h), rfl⟩
  -- what stands in PERMIT before the checks and after them
  have hends (ok : Bool) (t : State) (x : State) (hx : x = (u.serMoved ok).causeStep sf) (ht : t = x ∨ ∃ c i, t = x.serFail c i) :
      t.serState = 5 ∧ (t.ser.sout = if t.ser.cut.isSome then s.ser.sout &&& ~~~s.ser.darkBit else s.ser.sout) ∧
      (SerDemands s closed → t.ser.cut.isSome = true ∧ t.ser.demand = true) := by
    obtain ⟨hxstate, -, hxsout, hxcut, hxdemand, -, hxdark⟩ := causeStep_same (u.serMoved ok) sf
    rw [← hx] at hxstate hxsout hxcut hxdemand hxdark
    have hxbit : x.ser.darkBit = (u.serMoved ok).ser.darkBit := by rw [SerSt.darkBit, hxdark, SerSt.darkBit]
    rcases hmoved ok with ⟨hd, hstate, hsout', hdark', hcut', hdemand⟩ | ⟨hd, hsame⟩
    · rcases ht with rfl | ⟨c, i, rfl⟩
      · refine ⟨hxstate.trans hstate, ?_, fun _ => ⟨?_, hxdemand.trans hdemand⟩⟩
        · rw [hxcut, hcut', hxsout, hsout']
          rfl
        · rw [hxcut, hcut']
          rfl
      · obtain ⟨hfstate, hfcut, hfsout, hfdemand⟩ := (serFail_spec x c i).1 (hxstate.trans hstate)
        refine ⟨hfstate, ?_, fun _ => ⟨by rw [hfcut]; rfl, hfdemand.trans (hxdemand.trans hdemand)⟩⟩
        rw [hfcut, hfsout, hxsout, hsout', hxbit, darkBit_none hdark']
        exact BitVec.and_allOnes
    · rw [hsame] at hxstate hxsout hxcut hxdemand hxdark hxbit
      rcases ht with rfl | ⟨c, i, rfl⟩
      · refine ⟨hxstate.trans hu5, ?_, fun h => absurd h hd⟩
        rw [hxcut, hucut, hxsout, hsout]
        rfl
      · obtain ⟨hfstate, hfcut, hfsout, -⟩ := (serFail_spec x c i).1 (hxstate.trans hu5)
        refine ⟨hfstate, ?_, fun h => absurd h hd⟩
        rw [hfcut, hfsout, hxsout, hsout, hxbit, hbit]
        rfl
  obtain ⟨ok, hcases⟩ := cycleEnd_cases u sf diag
  obtain ⟨h1, h2, h3⟩ := hends ok _ _ rfl hcases
  refine ⟨h1, h2, h3, fun hok hdisc hsf => ?_, fun hdiag => ?_⟩
  · subst hok hsf
    have hd : u.discFault = none := (discFault_congr (cycleEnd_late none .ok).core).symm.trans hdisc
    rw [cycleEnd_quiet hd]
    obtain ⟨-, -, -, hxcut, -⟩ := causeStep_same (u.serMoved true) none
    rcases hmoved true with ⟨hdem, -, -, -, hcut', -⟩ | ⟨hdem, hsame⟩
    · exact ⟨fun _ => hxcut.trans hcut', fun h => absurd hdem h⟩
    · exact ⟨fun h => absurd h hdem, fun _ => hxcut.trans (by rw [hsame]; exact hucut)⟩
  · rw [cycleEnd_fails hdiag]
    obtain ⟨hxstate, -⟩ := causeStep_same (u.serMoved false) sf
    have hx5 : ((u.serMoved false).causeStep sf).serState = 5 := hxstate.trans (by
      rcases hmoved false with ⟨-, hstate, -⟩ | ⟨-, hsame⟩
      · exact hstate
      · rw [hsame]
        exact hu5)
    exact ⟨((serFail_spec _ _ _).1 hx5).2.1, serFail_diag fun h => absurd (hx5.symm.trans h.1) (by decide)⟩

/-! DEMAND and RECOVERY (R350, R351). -/

/-- A failed diagnostic outside PERMIT, FAULT and TEST. -/
theorem failed_cycle {u : State} (hx : ∀ ok, (u.serMoved ok).serState = 3 ∨ (u.serMoved ok).serState = 4) (hdiag : diag ≠ .ok) : let t := u.cycleEnd sf diag
    t.serState = 6 ∧ t.getF .SER_STAT_FAULT 0 = diagCode diag ∧ t.ser.sout = 0#4 := by
  rw [cycleEnd_fails hdiag]
  obtain ⟨hxstate, -⟩ := causeStep_same (u.serMoved false) sf
  have hx' := hx false
  rw [← hxstate] at hx'
  obtain ⟨-, h6, hsout, -⟩ := serFail_spec ((u.serMoved false).causeStep sf) (diagCode diag) 0
  exact ⟨(h6 (by omega)).1, serFail_diag fun h => by have := h.1; omega, hsout (by omega) (by omega)⟩

theorem demand_cycle {u : State} (hu : SampledFrom s closed u) (h3 : s.serState = 3) (hrec : s.serRecord = true) : let t := u.cycleEnd sf diag
    (SerDemands s closed → diag = .ok ∧ t.discFault = none ∧ sf = none → t.serState = 3) ∧
    (¬SerDemands s closed → diag = .ok ∧ t.discFault = none ∧ sf = none →
      t.serState = 4 ∧ t.getF .SER_STARTUP_TPOOK 0 = 0 ∧ t.getF .SER_STARTUP_SOUTOK 0 = 0) ∧
    (diag ≠ .ok → t.serState = 6 ∧ t.getF .SER_STAT_FAULT 0 = diagCode diag ∧ t.ser.sout = 0#4) := by
  have hu3 : u.serState = 3 := hu.state.trans h3
  have hcleared : (u.setSer 4).clearChecks.serState = 4 :=
    ((State.getF_setF_ne _ _ _ _ (by decide)).trans (State.getF_setF_ne _ _ _ _ (by decide))).trans (setSer_state u (by decide))
  have hmoved (ok : Bool) : u.serMoved ok = if u.getF .SER_SIN_DEMAND 0 ≠ 0 then u else (u.setSer 4).clearChecks := by
    rw [serMoved_inUse (hu.inUse.trans hrec), serTransition_demand hu3]
  refine ⟨fun hdem hq => ?_, fun hdem hq => ?_, failed_cycle fun ok => ?_⟩
  · obtain ⟨rfl, hdisc, rfl⟩ := hq
    have hd : u.discFault = none := (discFault_congr (cycleEnd_late none .ok).core).symm.trans hdisc
    rw [cycleEnd_quiet hd, hmoved, if_pos (hu.demands.2 hdem)]
    exact (causeStep_same u none).1.trans hu3
  · obtain ⟨rfl, hdisc, rfl⟩ := hq
    have hd : u.discFault = none := (discFault_congr (cycleEnd_late none .ok).core).symm.trans hdisc
    rw [cycleEnd_quiet hd, hmoved, if_neg fun h => hdem (hu.demands.1 h)]
    obtain ⟨hstate, hget, -⟩ := causeStep_same (u.setSer 4).clearChecks none
    rw [hstate, hget, hget]
    exact ⟨hcleared, (State.getF_setF_ne _ _ _ _ (by decide)).trans (State.getF_setF_same _ _ _ _), State.getF_setF_same _ _ _ _⟩
  · rw [hmoved]
    split
    · exact .inl hu3
    · exact .inr hcleared

theorem recovery_cycle {u : State} (hu : SampledFrom s closed u) (h4 : s.serState = 4) (hrec : s.serRecord = true) : let t := u.cycleEnd sf diag
    t.ser.restart = false ∧
    (s.ser.restart = true → ¬SerDemands s closed → diag = .ok ∧ t.discFault = none ∧ sf = none →
      t.serState = 5 ∧ t.bit .SER_STAT_PERMIT 0 = true ∧ t.ser.sout = BitVec.ofNat 4 (recSouten s.ser.record)) ∧
    ((s.ser.restart = false ∨ SerDemands s closed) → diag = .ok ∧ t.discFault = none ∧ sf = none →
      t.serState = 4 ∧ (s.ser.dark = none → t.ser.sout = s.ser.sout)) := by
  have hu4 : u.serState = 4 := hu.state.trans h4
  have hmoved (ok : Bool) : u.serMoved ok = if u.ser.restart = true ∧ ok = true ∧ u.getF .SER_SIN_DEMAND 0 = 0 then u.enterPermit
      else u.modSer (fun t => { t with restart := false }) := by
    rw [serMoved_inUse (hu.inUse.trans hrec), serTransition_recovery hu4]
  have hrestart (ok : Bool) : (u.serMoved ok).ser.restart = false := by
    rw [hmoved]
    split <;> rfl
  refine ⟨?_, fun hres hdem hq => ?_, fun hres hq => ?_⟩
  · obtain ⟨ok, hcases⟩ := cycleEnd_cases u sf diag
    have hx : ((u.serMoved ok).causeStep sf).ser.restart = false := (causeStep_same (u.serMoved ok) sf).2.2.2.2.2.1.trans (hrestart ok)
    rcases hcases with h | ⟨c, i, h⟩
    · rw [h]
      exact hx
    · rw [h]
      exact (serFail_spec _ c i).2.2.2.2.2 hx
  · obtain ⟨rfl, hdisc, rfl⟩ := hq
    have hd : u.discFault = none := (discFault_congr (cycleEnd_late none .ok).core).symm.trans hdisc
    rw [cycleEnd_quiet hd, hmoved, if_pos ⟨hu.restart.trans hres, rfl, by_contra fun h => hdem (hu.demands.1 h)⟩]
    obtain ⟨hstate, hget, hsout, -⟩ := causeStep_same u.enterPermit none
    rw [hstate, State.bit, hget, hsout, ← hu.record]
    exact ⟨setSer_state u (v := 5) (by decide), setSer_permit u 5, rfl⟩
  · obtain ⟨rfl, hdisc, rfl⟩ := hq
    have hd : u.discFault = none := (discFault_congr (cycleEnd_late none .ok).core).symm.trans hdisc
    rw [cycleEnd_quiet hd, hmoved, if_neg (by
      rintro ⟨h1, -, h2⟩
      rcases hres with h | h
      · rw [hu.restart, h] at h1
        cases h1
      · exact hu.demands.2 h h2)]
    obtain ⟨hstate, -, hsout, -⟩ := causeStep_same (u.modSer (fun t => { t with restart := false })) none
    exact ⟨hstate.trans hu4, fun hdark => hsout.trans (hu.noDark hdark).1⟩


/-! UNCONF and the record (R357 to R359). -/

/-- What the confirmation leaves of SAF's state and of the registers. -/
theorem confirmStep_kept : SerKept [(.SER_CONF_CONF, 0), (.SER_STAT_CONFIRMED, 0), (.SER_STAT_STATE, 0), (.SER_STAT_PERMIT, 0), (.SER_STARTUP_OPENSEEN, 0),
    (.SER_STARTUP_DONE, 0), (.SER_STARTUP_TPOOK, 0), (.SER_STARTUP_SOUTOK, 0)]
    (fun r => (r.inner, r.run, r.known, r.sout, r.cut, r.demand, r.restart, r.dark)) s s.confirmStep := by
  unfold State.confirmStep
  refine .ite (.modSer (.setF (.setF (.setF (.setF (.setF (.setF (.setF (.setF (.refl s) ?_) ?_) ?_) ?_) ?_) ?_) ?_) ?_) rfl) (.setF (.refl s) ?_) <;> decide

theorem confirmStep_conf (s : State) : s.confirmStep.getF .SER_CONF_CONF 0 = s.ser.confirm.toNat := by
  have hlt : s.ser.confirm.toNat % 2 ^ Fld.SER_CONF_CONF.width = s.ser.confirm.toNat := Nat.mod_eq_of_lt s.ser.confirm.isLt
  have hconf : (s.setF .SER_CONF_CONF 0 s.ser.confirm.toNat).getF .SER_CONF_CONF 0 = s.ser.confirm.toNat := (State.getF_setF_same _ _ _ _).trans hlt
  unfold State.confirmStep
  dsimp only
  split
  · have hrest : SerKept [(.SER_STAT_CONFIRMED, 0), (.SER_STAT_STATE, 0), (.SER_STAT_PERMIT, 0), (.SER_STARTUP_OPENSEEN, 0), (.SER_STARTUP_DONE, 0),
        (.SER_STARTUP_TPOOK, 0), (.SER_STARTUP_SOUTOK, 0)] SerSt.inner (s.setF .SER_CONF_CONF 0 s.ser.confirm.toNat)
        (((((((s.setF .SER_CONF_CONF 0 s.ser.confirm.toNat).setF .SER_STAT_CONFIRMED 0 1).setSer serStartup).setF .SER_STARTUP_OPENSEEN 0 0).setF
          .SER_STARTUP_DONE 0 0).clearChecks).modSer (fun t => { t with closed := 0#8 })) := by
      refine .modSer (.setF (.setF (.setF (.setF (.setF (.setF (.setF (.refl _) ?_) ?_) ?_) ?_) ?_) ?_) ?_) rfl <;> decide
    exact (hrest.getF (by decide) 0).trans hconf
  · exact hconf

/-- The word that equals PCRC confirms. -/
theorem confirmStep_confirmed (hrec : s.serRecord = true) (heq : s.ser.confirm.toNat = s.getF .SER_PCRC_PCRC 0) :
    s.confirmStep.bit .SER_STAT_CONFIRMED 0 = true := by
  have hset : ((s.setF .SER_CONF_CONF 0 s.ser.confirm.toNat).setF .SER_STAT_CONFIRMED 0 1).bit .SER_STAT_CONFIRMED 0 = true := by
    rw [State.bit_setF_same]
    rfl
  have hrest : SerKept [(.SER_STAT_STATE, 0), (.SER_STAT_PERMIT, 0), (.SER_STARTUP_OPENSEEN, 0), (.SER_STARTUP_DONE, 0),
      (.SER_STARTUP_TPOOK, 0), (.SER_STARTUP_SOUTOK, 0)] SerSt.inner ((s.setF .SER_CONF_CONF 0 s.ser.confirm.toNat).setF .SER_STAT_CONFIRMED 0 1)
      (((((((s.setF .SER_CONF_CONF 0 s.ser.confirm.toNat).setF .SER_STAT_CONFIRMED 0 1).setSer serStartup).setF .SER_STARTUP_OPENSEEN 0 0).setF
        .SER_STARTUP_DONE 0 0).clearChecks).modSer (fun t => { t with closed := 0#8 })) := by
    refine .modSer (.setF (.setF (.setF (.setF (.setF (.setF (.refl _) ?_) ?_) ?_) ?_) ?_) ?_) rfl <;> decide
  have hcond : (s.serRecord && s.ser.confirm.toNat == s.getF .SER_PCRC_PCRC 0) = true := by
    rw [hrec, heq, beq_self_eq_true]
    rfl
  unfold State.confirmStep
  dsimp only
  rw [if_pos hcond, State.bit, hrest.getF (by decide) 0]
  exact hset

theorem confirmStep_not (h : s.serRecord = false ∨ s.ser.confirm.toNat ≠ s.getF .SER_PCRC_PCRC 0) :
    s.confirmStep = s.setF .SER_CONF_CONF 0 s.ser.confirm.toNat := by
  refine if_neg ?_
  rw [Bool.and_eq_true, beq_iff_eq]
  rintro ⟨hrec, heq⟩
  rcases h with h | h
  · rw [h] at hrec
    cases hrec
  · exact h heq

/-- The samples of a cycle, where a record is in use, and its end leave what the record's part left in these fields. -/
theorem cycleRest_getF (u : State) {f : Fld} (h1 : ∀ e ∈ sampleKeys, e.1 ≠ f) (h2 : ∀ e ∈ serLateKeys, e.1 ≠ f) :
    ((u.sampleStep closed).cycleEnd sf diag).getF f 0 = u.getF f 0 := by
  have hsample : SerKept sampleKeys SerSt.settled u (u.sampleStep closed) := .ite serSampled_kept (.refl u)
  exact ((cycleEnd_late sf diag).getF h2 0).trans (hsample.getF h1 0)


/-- A cycle whose transition leaves the state. -/
theorem idle_cycle {u : State} (hst : u.serState = 1) (hq : diag = .ok ∧ (u.cycleEnd sf diag).discFault = none ∧ sf = none) :
    (u.cycleEnd sf diag).serState = 1 ∧ (u.cycleEnd sf diag).ser.sout = u.ser.sout := by
  obtain ⟨rfl, hdisc, rfl⟩ := hq
  have hd : u.discFault = none := (discFault_congr (cycleEnd_late none .ok).core).symm.trans hdisc
  have hmoved : u.serMoved true = u := by
    rw [State.serMoved, serTransition_other (.inr (.inl hst)), ite_self]
  obtain ⟨hstate, -, hsout, -⟩ := causeStep_same u none
  rw [cycleEnd_quiet hd, hmoved]
  exact ⟨hstate.trans hst, hsout⟩

/-- A fault that only a power-on reset clears stands through a cycle. -/
theorem latched_cycle {u : State} (h : u.porLatched) : (u.cycleEnd sf diag).serState = 6 ∧
    (u.cycleEnd sf diag).getF .SER_STAT_FAULT 0 = u.getF .SER_STAT_FAULT 0 := by
  obtain ⟨ok, hcases⟩ := cycleEnd_cases u sf diag
  have hmoved : u.serMoved ok = u := by
    rw [State.serMoved, serTransition_other (.inr (.inr h.1)), ite_self]
  rw [hmoved] at hcases
  obtain ⟨hstate, hget, -⟩ := causeStep_same u sf
  have hx : (u.causeStep sf).porLatched := ⟨hstate.trans h.1, by rw [hget]; exact h.2.1, by rw [hget]; exact h.2.2⟩
  rcases hcases with heq | ⟨c, i, heq⟩
  · rw [heq]
    exact ⟨hstate.trans h.1, hget _⟩
  · rw [heq, serFail_shown _ c i (.inl rfl), recordFault_latched c i hx]
    exact ⟨((serFail_spec _ c i).2.1 (by rw [hx.1]; decide)).1, hget _⟩

/-- What the taking of a record leaves. -/
theorem takeRecord_spec (s : State) : let t := s.takeRecord
    t.ser.record = s.ser.store ∧ t.ser.fresh = false ∧ t.ser.sout = 0#4 ∧ t.ser.confirm = s.ser.confirm ∧
    t.bit .SER_STAT_RECERR 0 = !recordValid s.ser.store ∧ t.getF .SER_PCRC_PCRC 0 = (if recordValid s.ser.store then crc32c s.ser.store else 0) ∧
    t.bit .SER_STAT_CONFIRMED 0 = false ∧ (s.porFault = false → t.serState = 1) ∧
    (s.porFault = true → t.serState = s.serState ∧ t.getF .SER_STAT_FAULT 0 = s.getF .SER_STAT_FAULT 0) := by
  unfold State.takeRecord
  extract_lets r ok s1 s2 s3 t
  have hs2 {f : Fld} (hf : ∀ e ∈ [(Fld.SER_STAT_RECERR, 0), (.SER_PCRC_PCRC, 0), (.SER_STAT_CONFIRMED, 0), (.SER_STAT_NEWREC, 0), (.SER_SIN_FILTERED, 0),
      (.SER_SIN_RAW, 0)], e.1 ≠ f) : s2.getF f 0 = s.getF f 0 := by
    refine (SerKept.getF (keys := [(Fld.SER_STAT_RECERR, 0), (.SER_PCRC_PCRC, 0), (.SER_STAT_CONFIRMED, 0), (.SER_STAT_NEWREC, 0), (.SER_SIN_FILTERED, 0),
      (.SER_SIN_RAW, 0)]) (core := SerSt.inner) ?_ hf 0)
    refine .setF (.setF (.setF (.setF (.setF (.setF (.refl s) ?_) ?_) ?_) ?_) ?_) ?_ <;> decide
  have hrest : SerKept [(.SER_STAT_CONFIRMED, 0), (.SER_STAT_NEWREC, 0), (.SER_SIN_FILTERED, 0), (.SER_SIN_RAW, 0)] SerSt.inner s1 s2 := by
    refine .setF (.setF (.setF (.setF (.refl s1) ?_) ?_) ?_) ?_ <;> decide
  have hs3 : SerKept [(.SER_STAT_STATE, 0), (.SER_STAT_PERMIT, 0), (.SER_STAT_FAULT, 0)] SerSt.inner s2 s3 := by
    refine .ite (.refl s2) (.setF (.setF (.setF (.refl s2) ?_) ?_) ?_) <;> decide
  have ht (f : Fld) (hf : f ≠ .SER_SIN_DEMAND) : t.getF f 0 = s3.getF f 0 := State.getF_setF_ne _ _ _ _ hf
  have hrecerr : s1.getF .SER_STAT_RECERR 0 = b2n (!ok) := by
    refine (State.getF_setF_ne _ _ _ _ (by decide)).trans ((State.getF_setF_same _ _ _ _).trans ?_)
    cases ok <;> rfl
  have hpcrc : s1.getF .SER_PCRC_PCRC 0 = if ok then crc32c r else 0 := by
    refine (State.getF_setF_same _ _ _ _).trans (Nat.mod_eq_of_lt ?_)
    split
    · exact crc32c_lt r
    · decide
  have hconf : s2.getF .SER_STAT_CONFIRMED 0 = 0 := by
    refine (State.getF_setF_ne _ _ _ _ (by decide)).trans ((State.getF_setF_ne _ _ _ _ (by decide)).trans ((State.getF_setF_ne _ _ _ _ (by decide)).trans
      (State.getF_setF_same _ _ _ _)))
  refine ⟨rfl, rfl, rfl, ?_, ?_, ?_, ?_, fun hpor => ?_, fun hpor => ⟨?_, ?_⟩⟩
  · exact congrArg (fun x => x.1.2.1) hs3.core
  · rw [State.bit, ht _ (by decide), hs3.getF (by decide), hrest.getF (by decide), hrecerr]
    exact (by cases ok <;> rfl : (b2n (!ok) == 1) = !ok)
  · rw [ht _ (by decide), hs3.getF (by decide), hrest.getF (by decide), hpcrc]
  · rw [State.bit, ht _ (by decide), hs3.getF (by decide), hconf]
    rfl
  · refine (ht _ (by decide)).trans ?_
    rw [show s3 = (s2.setSer 1).setF .SER_STAT_FAULT 0 0 from if_neg (by rw [hpor]; exact Bool.false_ne_true), State.getF_setF_ne _ _ _ _ (by decide)]
    exact setSer_state s2 (by decide)
  · refine (ht _ (by decide)).trans ?_
    rw [show s3 = s2 from if_pos hpor]
    exact hs2 (by decide)
  · refine (ht _ (by decide)).trans ?_
    rw [show s3 = s2 from if_pos hpor]
    exact hs2 (by decide)

end

/-! The claim. -/

theorem onlySer_of_step {s t : State} (h : SerStep s t) : OnlySer s t := ⟨h.frame, h.regs⟩

theorem OnlySer_trans {s t u : State} (h : OnlySer s t) (h' : OnlySer t u) : OnlySer s u := by
  refine ⟨?_, h.2.trans h'.2⟩
  rw [h'.1, h.1]

/-- The cut of the cycle's beginning, and the readback. -/
theorem readSouts_spec (s : State) (rb : BitVec 4) : let u := s.soutCut.readSouts rb
    let sout := if s.ser.cut.isSome then 0#4 else s.ser.sout
    OnlySer s u ∧ u.ser.stuckOn = rb &&& ~~~sout ∧ u.ser.stuckOff = sout &&& ~~~rb ∧ u.ser.cycles = s.ser.cycles + 1 ∧ u.ser.store = s.ser.store ∧
      u.ser.confirm = s.ser.confirm := by
  have hkept := soutCut_frame s
  have hsout : s.soutCut.ser.sout = if s.ser.cut.isSome then 0#4 else s.ser.sout := by
    unfold State.soutCut
    cases s.ser.cut <;> rfl
  generalize s.soutCut = w at *
  have hcore := hkept.core
  refine ⟨OnlySer_trans ⟨hkept.frame, hkept.regs⟩ ⟨rfl, .refl _ _⟩, ?_, ?_, ?_, congrArg Prod.fst hcore, congrArg (fun x => x.2.1) hcore⟩
  · rw [← hsout]
    rfl
  · rw [← hsout]
    rfl
  · exact congrArg (fun x => x.2.2 + 1) hcore

theorem sampleStep_kept (u : State) (closed : BitVec 8) : SerKept sampleKeys SerSt.settled u (u.sampleStep closed) := .ite serSampled_kept (.refl u)

theorem filteredClosed_congr {s w : State} {closed : BitVec 8} (hrec : w.ser.record = s.ser.record) (hrun : w.ser.run = s.ser.run)
    (hraw : w.getF .SER_SIN_RAW 0 = s.getF .SER_SIN_RAW 0) (hfilt : w.getF .SER_SIN_FILTERED 0 = s.getF .SER_SIN_FILTERED 0) (n : Fin 8) :
    FilteredClosed w closed n ↔ FilteredClosed s closed n := by
  rw [FilteredClosed, hrec, hrun, State.testF, hraw, State.testF, hfilt]
  rfl

/-- A cycle without a new record samples what its record's part left. -/
theorem recordStep_old {s : State} (ht : s.takesRecord = false) : s.recordStep = if s.serState = 1 then s.confirmStep else s := by
  rw [State.recordStep, ht, if_neg Bool.false_ne_true]
  rfl

theorem recordStep_new {s : State} (ht : s.takesRecord = true) : s.recordStep = if s.takeRecord.serState = 1 then s.takeRecord.confirmStep else s.takeRecord := by
  rw [State.recordStep, ht, if_pos rfl]
  rfl

/-- What a cycle without a new record shows of its samples. -/
theorem cycle_shows {s : State} {closed : BitVec 8} {sf : Option (Nat × Nat)} {diag : SafDiag} (ht : s.takesRecord = false) (hrec : s.serRecord = true) (n : Fin 8) :
    let t := (s.recordStep.sampleStep closed).cycleEnd sf diag
    t.testF .SER_SIN_RAW 0 n = (decide (sinFunc s.ser.record n ≠ 0) && closed.getLsbD n) ∧
    (t.testF .SER_SIN_FILTERED 0 n = true ↔ FilteredClosed s closed n) ∧
    (t.testF .SER_SIN_DEMAND 0 n = true ↔ sinFunc s.ser.record n ≠ 0 ∧ ¬FilteredClosed s closed n) := by
  obtain ⟨w, hw, hrecord, hrun, hraw, hfilt, herr⟩ : ∃ w, s.recordStep = w ∧ w.ser.record = s.ser.record ∧ w.ser.run = s.ser.run ∧
      w.getF .SER_SIN_RAW 0 = s.getF .SER_SIN_RAW 0 ∧ w.getF .SER_SIN_FILTERED 0 = s.getF .SER_SIN_FILTERED 0 ∧
      w.getF .SER_STAT_RECERR 0 = s.getF .SER_STAT_RECERR 0 := by
    refine ⟨_, recordStep_old ht, ?_⟩
    split
    · have hkept := confirmStep_kept (s := s)
      have hcore := hkept.core
      exact ⟨congrArg (fun x => x.1.2.1) hcore, congrArg (fun x => x.2.1) hcore, hkept.getF (by decide) 0, hkept.getF (by decide) 0, hkept.getF (by decide) 0⟩
    · exact ⟨rfl, rfl, rfl, rfl, rfl⟩
  have hin : w.serRecord = true := (serRecord_congr hrecord herr).trans hrec
  have hfc := filteredClosed_congr (closed := closed) hrecord hrun hraw hfilt n
  have hend {f : Fld} (hf : ∀ e ∈ serLateKeys, e.1 ≠ f) : ((w.serSampled closed).cycleEnd sf diag).testF f 0 n = (w.serSampled closed).testF f 0 n := by
    rw [State.testF, (cycleEnd_late sf diag).getF hf 0]
    rfl
  have hshows := serSampled_shows (s := w) (closed := closed) n
  dsimp only at hshows ⊢
  rw [hrecord, hfc] at hshows
  rw [hw, State.sampleStep, if_pos hin, hend (by decide), hend (by decide), hend (by decide)]
  exact hshows

/-- The cycle in UNCONF. -/
theorem unconf_cycle {s : State} {closed : BitVec 8} {sf : Option (Nat × Nat)} {diag : SafDiag} (h1 : s.serState = 1) (ht : s.takesRecord = false) :
    let t := (s.recordStep.sampleStep closed).cycleEnd sf diag
    t.getF .SER_CONF_CONF 0 = s.ser.confirm.toNat ∧
    (s.serRecord = true → s.ser.confirm.toNat = s.getF .SER_PCRC_PCRC 0 → t.bit .SER_STAT_CONFIRMED 0 = true) ∧
    (s.serRecord = false ∨ s.ser.confirm.toNat ≠ s.getF .SER_PCRC_PCRC 0 → diag = .ok ∧ t.discFault = none ∧ sf = none → t.serState = 1) := by
  rw [recordStep_old ht, if_pos h1]
  refine ⟨(cycleRest_getF _ (by decide) (by decide)).trans (confirmStep_conf s), fun hrec heq => ?_, fun hnot hq => ?_⟩
  · rw [State.bit, cycleRest_getF _ (by decide) (by decide)]
    exact confirmStep_confirmed hrec heq
  · rw [confirmStep_not hnot] at hq ⊢
    have hst : ((s.setF .SER_CONF_CONF 0 s.ser.confirm.toNat).sampleStep closed).serState = 1 :=
      ((sampleStep_kept _ closed).getF (by decide) 0).trans ((State.getF_setF_ne _ _ _ _ (by decide)).trans h1)
    exact (idle_cycle hst hq).1

/-- The cycle that takes a record. -/
theorem take_cycle {s : State} {closed : BitVec 8} {sf : Option (Nat × Nat)} {diag : SafDiag} (ht : s.takesRecord = true) :
    let t := (s.recordStep.sampleStep closed).cycleEnd sf diag
    t.ser.record = s.ser.store ∧ t.ser.fresh = false ∧
    (recordValid s.ser.store = false → s.porFault = false → diag = .ok ∧ t.discFault = none ∧ sf = none → t.bit .SER_STAT_RECERR 0 = true ∧
      t.getF .SER_PCRC_PCRC 0 = 0 ∧ t.serState = 1 ∧ t.bit .SER_STAT_CONFIRMED 0 = false ∧ t.ser.sout = 0#4) ∧
    (recordValid s.ser.store = true → t.bit .SER_STAT_RECERR 0 = false ∧ t.getF .SER_PCRC_PCRC 0 = crc32c s.ser.store) ∧
    (s.porFault = true → s.getF .SER_STAT_FAULT 0 ≠ 0 → t.serState = 6 ∧ t.getF .SER_STAT_FAULT 0 = s.getF .SER_STAT_FAULT 0) := by
  obtain ⟨hrecord, hfresh, hsout, -, herr, hpcrc, hconf, hunconf, hpor⟩ := takeRecord_spec s
  rw [recordStep_new ht]
  generalize s.takeRecord = k at *
  obtain ⟨w, hw, hwrecord, hwfresh, hwsout, hwget⟩ : ∃ w, (if k.serState = 1 then k.confirmStep else k) = w ∧ w.ser.record = k.ser.record ∧
      w.ser.fresh = k.ser.fresh ∧ w.ser.sout = k.ser.sout ∧ ∀ {f : Fld}, f = .SER_STAT_RECERR ∨ f = .SER_PCRC_PCRC → w.getF f 0 = k.getF f 0 := by
    refine ⟨_, rfl, ?_⟩
    split
    · have hkept := confirmStep_kept (s := k)
      have hcore := hkept.core
      exact ⟨congrArg (fun x => x.1.2.1) hcore, congrArg (fun x => x.1.2.2.1) hcore, congrArg (fun x => x.2.2.2.1) hcore,
        fun hf => hkept.getF (by rcases hf with rfl | rfl <;> decide) 0⟩
    · exact ⟨rfl, rfl, rfl, fun _ => rfl⟩
  rw [hw]
  have hsample := (sampleStep_kept w closed).core
  have hend := (cycleEnd_late (s := w.sampleStep closed) sf diag).core
  have hget {f : Fld} (h1 : ∀ e ∈ sampleKeys, e.1 ≠ f) (h2 : ∀ e ∈ serLateKeys, e.1 ≠ f) :
      ((w.sampleStep closed).cycleEnd sf diag).getF f 0 = w.getF f 0 := cycleRest_getF w h1 h2
  refine ⟨(congrArg (fun x => x.2.1) hend).trans ((congrArg (fun x => x.2.1) hsample).trans (hwrecord.trans hrecord)),
    (congrArg (fun x => x.2.2.1) hend).trans ((congrArg (fun x => x.2.2.1) hsample).trans (hwfresh.trans hfresh)), fun hbad hnpor hq => ?_, fun hok => ?_,
    fun hp h0 => ?_⟩
  · rw [hbad] at herr hpcrc
    have hk1 := hunconf hnpor
    have hkerr : k.serRecord = false := by rw [State.serRecord, herr]; exact Bool.and_false _
    have hweq : w = k.setF .SER_CONF_CONF 0 k.ser.confirm.toNat := by rw [← hw, if_pos hk1, confirmStep_not (.inl hkerr)]
    have hwin : w.serRecord = false := by rw [State.serRecord, State.bit, hwget (.inl rfl)]; rw [State.bit] at herr; rw [herr]; exact Bool.and_false _
    have hsame : w.sampleStep closed = w := if_neg (by rw [hwin]; exact Bool.false_ne_true)
    have hw1 : w.serState = 1 := by
      rw [hweq]
      exact (State.getF_setF_ne _ _ _ _ (by decide)).trans hk1
    have hwconf : w.bit .SER_STAT_CONFIRMED 0 = false := by
      rw [hweq, State.bit_setF_ne _ _ _ _ (by decide)]
      exact hconf
    rw [State.bit, State.bit, hget (by decide) (by decide), hget (by decide) (by decide), hget (by decide) (by decide), hwget (.inl rfl), hwget (.inr rfl)]
    rw [hsame] at hq ⊢
    obtain ⟨hstate, hsout'⟩ := idle_cycle hw1 hq
    exact ⟨herr, hpcrc, hstate, hwconf, hsout'.trans (hwsout.trans hsout)⟩
  · rw [hok] at herr hpcrc
    rw [State.bit, hget (by decide) (by decide), hget (by decide) (by decide), hwget (.inl rfl), hwget (.inr rfl)]
    exact ⟨herr, hpcrc⟩
  · obtain ⟨hkstate, hkfault⟩ := hpor hp
    rw [State.porFault, Bool.and_eq_true, beq_iff_eq, Bool.not_eq_true', restartable, decide_eq_false_iff_not, Nat.not_le] at hp
    have hk6 : k.serState = 6 := hkstate.trans hp.1
    have hwk : w = k := by rw [← hw, if_neg (by rw [hk6]; decide)]
    subst hwk
    have hstate : (w.sampleStep closed).serState = 6 := ((sampleStep_kept w closed).getF (by decide) 0).trans hk6
    have hfault : (w.sampleStep closed).getF .SER_STAT_FAULT 0 = s.getF .SER_STAT_FAULT 0 := ((sampleStep_kept w closed).getF (by decide) 0).trans hkfault
    obtain ⟨h6, hf⟩ := latched_cycle (u := w.sampleStep closed) (sf := sf) (diag := diag) ⟨hstate, by rw [hfault]; exact h0, by rw [hfault]; exact hp.2⟩
    exact ⟨h6, hf.trans hfault⟩

/-- The claim about one cycle, its clauses by state. -/
theorem safetyCycles : Claims.SafetyCycles := by
  intro closed rb diag s r demands quiet code cycle on sout lit
  have hcode : code = diagCode diag := by cases diag <;> rfl
  have hexec (hon : on) : exec cycle s = .next (s.safetyCycle closed rb diag) := by
    change execSafetyCycle closed rb diag s = _
    rw [execSafetyCycle, if_neg fun h => h.elim hon.1 fun h' => by rw [hon.2] at h'; cases h']
  have hstays {n : Nat} (h : s.serState = n) (h0 : n ≠ 0) (hrun : s.sysRuns = true) : on := ⟨by rw [h]; exact h0, hrun⟩
  have hquiet {t : State} (h : quiet t) : diag = .ok ∧ t.discFault = none ∧ s.soutFault rb = none := h
  refine ⟨fun hoff => ?_, fun hon => ⟨_, hexec hon, ?_⟩, fun hon hcut htake hrec => ⟨_, hexec hon, ?_⟩, fun h5 hrun hrec hcut => ⟨_, hexec (hstays h5 (by decide) hrun), ?_⟩,
    fun h3 hrun hrec hcut htake => ⟨_, hexec (hstays h3 (by decide) hrun), ?_⟩, fun h4 hrun hrec hcut htake => ⟨_, hexec (hstays h4 (by decide) hrun), ?_⟩,
    fun h1 hrun htake hcut => ⟨_, hexec (hstays h1 (by decide) hrun), ?_⟩, fun hon hn5 htake hcut => ⟨_, hexec hon, ?_⟩⟩
  · change execSafetyCycle closed rb diag s = _
    rw [execSafetyCycle, if_pos]
    by_contra hc
    rw [not_or] at hc
    exact hoff ⟨hc.1, Bool.not_eq_false _ ▸ hc.2⟩
  · obtain ⟨honly, hon', hoff', hcyc, hstore, hconf⟩ := readSouts_spec s rb
    have hstep := safetyCycle_step (s := s) closed rb diag
    have hcore := hstep.core
    exact ⟨OnlySer_trans honly (onlySer_of_step hstep), (congrArg (fun x => x.2.2.2.1) hcore).trans hon', (congrArg (fun x => x.2.2.2.2) hcore).trans hoff',
      (congrArg (fun x => x.2.2.1) hcore).trans hcyc, (congrArg (fun x => x.1) hcore).trans hstore, (congrArg (fun x => x.2.1) hcore).trans hconf⟩
  · rw [safetyCycle_eq, soutCut_none hcut]
    exact cycle_shows (s := s.readSouts rb) (sf := s.soutFault rb) htake hrec
  · obtain ⟨u, hu, hcyc⟩ := safetyCycle_sampled (s := s) (closed := closed) (rb := rb) hcut
      (by rw [State.takesRecord, h5]; exact Bool.and_false _) (by rw [h5]; decide) hrec
    obtain ⟨hstate, hlit, hdem, hq, hfail⟩ := permit_cycle (diag := diag) (sf := s.soutFault rb) hu h5 hrec hcut
    rw [hcyc, hcode]
    refine ⟨hstate, hlit, fun hd => ?_, fun hd hqt => (hq hqt.1 hqt.2.1 hqt.2.2).1 hd, fun hd hqt => ?_, hfail⟩
    · rw [asserted_ser, (hdem hd).1, Bool.or_true]
      exact ⟨rfl, (hdem hd).2, rfl⟩
    · have hcut' := (hq hqt.1 hqt.2.1 hqt.2.2).2 hd
      rw [asserted_ser, hstate, hcut']
      exact ⟨rfl, rfl⟩
  · obtain ⟨u, hu, hcyc⟩ := safetyCycle_sampled (s := s) (closed := closed) (rb := rb) hcut htake (by rw [h3]; decide) hrec
    rw [hcyc, hcode]
    exact demand_cycle hu h3 hrec
  · obtain ⟨u, hu, hcyc⟩ := safetyCycle_sampled (s := s) (closed := closed) (rb := rb) hcut htake (by rw [h4]; decide) hrec
    rw [hcyc]
    exact recovery_cycle hu h4 hrec
  · rw [safetyCycle_eq, soutCut_none hcut]
    exact unconf_cycle (s := s.readSouts rb) (sf := s.soutFault rb) h1 htake
  · rw [safetyCycle_eq, soutCut_none hcut]
    exact take_cycle (s := s.readSouts rb) (sf := s.soutFault rb) htake

end Sys2Proof.Machine
end

section
/-! The tests of Safe Energy Removal, its start and the failures that the hardware detects (R340, R344, R345, R347, R351 to R354). -/
namespace Sys2Proof.Machine

-- The proofs one after another: all at once they would need more threads, and their stacks, than the check's memory holds.
set_option Elab.async false

section
variable {s : State} {k : Fin 4} {closed before : BitVec 8}

/-! The start of SAF's firmware, and the cut. -/

/-- SAF's state at the start of its firmware from slot `j`. -/
def State.serStarting (s : State) (j : Nat) : State := { s with
  ser := { s.ser with fresh := !s.ser.store.isEmpty, cycles := 0, tpoAt := 0, darkAt := 0 },
  sec := { s.sec with runSer := objArb (s.serObj j), serHash := objPhash (s.serObj j) } }

theorem serStarting_eq (s : State) (j : Nat) (v : Nat) :
    (((s.setSer serUnconf).setF .SER_VER_VERSION 0 v).modSer (fun t => { t with fresh := !t.store.isEmpty, cycles := 0, tpoAt := 0, darkAt := 0 })).modSec
      (fun c => { c with runSer := objArb (s.serObj j), serHash := objPhash (s.serObj j) }) =
    (s.serStarting j).setAll [(.SER_STAT_STATE, 0, 1), (.SER_STAT_PERMIT, 0, 0), (.SER_VER_VERSION, 0, v)] := rfl

theorem serFirmwareStart_clause {j : Nat} (hslot : s.pmc.safSlot = some j) (h0 : s.serState = 0) (hrun : s.sysRuns = true) (hok : s.serOk j = true) :
    SetsOn .serFirmwareStart s (s.serStarting j)
      [(.SER_STAT_STATE, 0, 1), (.SER_STAT_PERMIT, 0, 0), (.SER_VER_VERSION, 0, objVersion (s.serObj j) % 2 ^ 32)] := by
  have hstart : s.serStart (objVersion (s.serObj j)) = ((s.setSer serUnconf).setF .SER_VER_VERSION 0 (objVersion (s.serObj j))).modSer
      (fun t => { t with fresh := !t.store.isEmpty, cycles := 0, tpoAt := 0, darkAt := 0 }) := if_pos h0
  have hexec : exec .serFirmwareStart s = .next ((s.serStarting j).setAll
      [(.SER_STAT_STATE, 0, 1), (.SER_STAT_PERMIT, 0, 0), (.SER_VER_VERSION, 0, objVersion (s.serObj j))]) := by
    change execSerFirmwareStart s = _
    rw [execSerFirmwareStart, hslot]
    dsimp only
    rw [if_pos ⟨h0, hrun, hok⟩, hstart, serStarting_eq]
  have hregs : (s.serStarting j).regs = s.regs := rfl
  generalize s.serStarting j = w at *
  generalize objVersion (s.serObj j) = v at *
  refine .of_setAll_cut hexec (writtenKeys_nodup (by simp)) hregs ?_
  simp only [List.map_cons, List.map_nil]
  rfl

/-- SAF's state behind the cut. -/
def State.serCutOff (s : State) : State := { s with ser := { s.ser with sout := 0#4, cut := none, demand := false } }

theorem modSer_setF (s : State) (f : Fld) (i v : Nat) (g : SerSt → SerSt) : (s.setF f i v).modSer g = (s.modSer g).setF f i v := rfl

theorem serCut_eq (s : State) (v n : Nat) :
    (((s.setSer v).setF .SER_CNT_DEMCNT 0 n).modSer (fun t => { t with demand := false })).modSer (fun t => { t with sout := 0#4, cut := none }) =
    s.serCutOff.setAll [(.SER_STAT_STATE, 0, v), (.SER_STAT_PERMIT, 0, b2n (v == serPermit)), (.SER_CNT_DEMCNT, 0, n)] := by
  rw [State.setSer, State.setBit, modSer_setF, modSer_setF, modSer_setF, modSer_setF, modSer_setF, modSer_setF]
  rfl

theorem countDemand_eq (w : State) : w.countDemand =
    (w.setF .SER_CNT_DEMCNT 0 (min 65535 (w.getF .SER_CNT_DEMCNT 0 + b2n w.ser.demand))).modSer (fun t => { t with demand := false }) := by
  rw [State.countDemand, State.countF, show Fld.SER_CNT_DEMCNT.width = 16 from rfl, show 2 ^ 16 - 1 = 65535 from rfl]

theorem serSoutCut_clause {v : Nat} (hcut : s.ser.cut = some v) (hv : v < 8) (hrun : s.sysRuns = true) :
    SetsOn .serSoutCut s s.serCutOff
      [(.SER_STAT_STATE, 0, v), (.SER_STAT_PERMIT, 0, if v = 5 then 1 else 0),
       (.SER_CNT_DEMCNT, 0, min 65535 (s.getF .SER_CNT_DEMCNT 0 + if s.ser.demand then 1 else 0))] := by
  have hcnt : (s.setSer v).getF .SER_CNT_DEMCNT 0 = s.getF .SER_CNT_DEMCNT 0 := setSer_getF s v (by decide) (by decide) 0
  have hexec : exec .serSoutCut s = .next (s.serCutOff.setAll
      [(.SER_STAT_STATE, 0, v), (.SER_STAT_PERMIT, 0, b2n (v == serPermit)), (.SER_CNT_DEMCNT, 0, min 65535 (s.getF .SER_CNT_DEMCNT 0 + b2n s.ser.demand))]) := by
    change execSerSoutCut s = _
    rw [execSerSoutCut, if_pos hrun, State.soutCut, hcut]
    dsimp only
    rw [countDemand_eq, hcnt]
    exact congrArg Host.Outcome.next (serCut_eq s v _)
  have hb (b : Bool) : (if b then 1 else 0) = b2n b := by cases b <;> rfl
  have hv5 : (if v = 5 then 1 else 0) = b2n (v == serPermit) := by rw [← hb]; simp [serPermit]
  have hregs : s.serCutOff.regs = s.regs := rfl
  generalize s.serCutOff = w at *
  rw [hv5, hb]
  refine .of_setAll hexec (writtenKeys_nodup (by simp)) ?_ hregs
  simp only [writesFit_cons, writesFit_nil, and_true]
  refine ⟨?_, Fld.b2n_lt _ _, ?_⟩
  · rw [show Fld.SER_STAT_STATE.width = 4 from rfl]
    omega
  · rw [show Fld.SER_CNT_DEMCNT.width = 16 from rfl]
    omega

/-! The schedule of the checks (R344, R345, R352, R353). -/

/-- The check of number `k` comes up in the cycle in progress. -/
def CheckDue (s : State) (k : Fin 4) (i : Nat) (redo : BitVec 4) (start : Nat) : Prop :=
  let c := s.ser.cycles
  let again := redo ≠ 0#4 ∧ c = start + 1 ∧ s.getF .SER_SIN_DEMAND 0 = 0
  (s.serState = 7 ∧ 1 ≤ s.ser.test ∧ s.ser.test ≤ 64 ∧ (s.ser.test - 1) % 4 = k.val) ∨
    (s.serState ≠ 7 ∧ ((again ∧ redo.getLsbD k = true ∧ ∀ j < k.val, redo.getLsbD j = false) ∨
      (¬again ∧ 1 ≤ c ∧ (c - 1) % i = 0 ∧ (c - 1) / i % 4 = k.val)))

/-- The lowest check to repeat. -/
theorem lowest_redo {redo : BitVec 4} (hk : redo.getLsbD k = true) (hlow : ∀ j < k.val, redo.getLsbD j = false) :
    (List.range 4).find? (fun j => redo.getLsbD j) = some k.val := by
  revert k redo
  decide

theorem checkIn_of_due {i start : Nat} {redo : BitVec 4} (h : CheckDue s k i redo start) : s.checkIn k i s.ser.cycles s.ser.test redo start = true := by
  rw [State.checkIn, serTest]
  rcases h with ⟨h7, h1, h64, hmod⟩ | ⟨h7, h⟩
  · rw [if_pos h7, decide_eq_true ⟨h1, h64⟩, Bool.true_and, beq_iff_eq]
    omega
  · rw [if_neg h7]
    rcases h with ⟨⟨hredo, hc, hdem⟩, hk, hlow⟩ | ⟨hnot, h1, hmod, hdiv⟩
    · rw [if_pos (by rw [bne_iff_ne.2 hredo, hc, beq_self_eq_true, hdem]; rfl), lowest_redo hk hlow, beq_self_eq_true]
    · rw [if_neg (by
        rw [Bool.and_eq_true, Bool.and_eq_true, bne_iff_ne, beq_iff_eq, beq_iff_eq]
        exact fun h => hnot ⟨h.1.1, h.1.2, h.2⟩), decide_eq_true h1, hmod, hdiv]
      simp

/-- The pulses run. -/
def PulsesRun (s : State) : Prop := s.sysRuns = true ∧ s.serRecord = true ∧ s.serState ≠ 0 ∧ s.ser.cut = none

theorem checkDue_of_due {i last start : Nat} {redo : BitVec 4} (hruns : PulsesRun s) (hlast : last < s.ser.cycles) (h : CheckDue s k i redo start) :
    s.checkDue k i last redo start = some s.ser.cycles := by
  obtain ⟨hsys, hrec, h0, hcut⟩ := hruns
  have hrun : s.pulsesRun = true := by
    rw [State.pulsesRun, hsys, hrec, show (s.serState != serBoot) = true from bne_iff_ne.2 h0, hcut]
    rfl
  rw [State.checkDue, hrun, checkIn_of_due h, decide_eq_true hlast]
  rfl


/-! The pulses (R344, R345). -/

theorem tpoPulse_clause (hruns : PulsesRun s) (hpulse : s.ser.pulse = none) (hrecov : s.ser.recovery = none) (hlast : s.ser.tpoAt < s.ser.cycles)
    (hdue : CheckDue s k (recTpi s.ser.record) s.ser.redoTpo s.ser.tpoFrom) : Answers (.tpoPulse k) s (fun t => t = { s with ser := { s.ser with
      pulse := some (k, BitVec.ofNat 8 (s.getF .SER_SIN_RAW 0)), tpoAt := s.ser.cycles, tpoFrom := s.ser.cycles,
      redoTpo := s.ser.redoTpo &&& ~~~BitVec.ofNat 4 (2 ^ k.val) } }) := by
  have hat : s.tpoDue k = some s.ser.cycles := checkDue_of_due hruns hlast hdue
  have hfree : (s.ser.pulse.isNone && s.ser.recovery.isNone) = true := by rw [hpulse, hrecov]; rfl
  refine ⟨_, ?_, rfl⟩
  change execTpoPulse k s = _
  rw [execTpoPulse, hat]
  exact congrArg Host.Outcome.next (if_pos hfree)

theorem cleared_bit (o : BitVec 4) (k : Fin 4) : (o &&& ~~~BitVec.ofNat 4 (2 ^ k.val)).getLsbD k = false := by
  revert o k
  decide

theorem soutDarkPulse_clause (hruns : PulsesRun s) (hdark : s.ser.dark = none) (hen : (recSouten s.ser.record).testBit k = true)
    (hlast : s.ser.darkAt < s.ser.cycles) (hdue : CheckDue s k (recDpi s.ser.record) s.ser.redoSout s.ser.soutFrom) :
    Answers (.soutDarkPulse k) s (fun t => t = { s with ser := { s.ser with
      dark := some k, darkAt := s.ser.cycles, soutFrom := s.ser.cycles, redoSout := s.ser.redoSout &&& ~~~BitVec.ofNat 4 (2 ^ k.val) } } ∧
      t.soutOn.getLsbD k = false) := by
  have hat : s.darkDue k = some s.ser.cycles := (if_pos hen).trans (checkDue_of_due hruns hlast hdue)
  have hfree : s.ser.dark.isNone = true := by rw [hdark]; rfl
  refine ⟨_, ?_, rfl, ?_⟩
  · change execSoutDarkPulse k s = _
    rw [execSoutDarkPulse, hat]
    exact congrArg Host.Outcome.next (if_pos hfree)
  · exact cleared_bit s.ser.sout k

/-! Failures found by the pulses' ends (R354). -/

/-- What a failure leaves, as the pulses' ends show it. -/
def SerFails (s : State) (code idx : Nat) (t : State) : Prop := OnlySer s t ∧
  (s.serState ≠ 6 → t.getF .SER_STAT_FAULT 0 = code ∧ t.getF .SER_STAT_FAULTIDX 0 = idx) ∧
  (s.serState = 5 → t.serState = 5 ∧ t.ser.cut = some 6 ∧ t.asserted 65 = true) ∧
  (s.serState ≠ 5 → t.serState = 6) ∧ (s.serState ≠ 5 → s.serState ≠ 6 → t.ser.sout = 0#4) ∧
  (s.serState = 6 → 0x10 ≤ s.getF .SER_STAT_FAULT 0 → t.getF .SER_STAT_FAULT 0 = code ∧ t.getF .SER_STAT_FAULTIDX 0 = idx) ∧
  (s.serState = 7 → t.getF .SER_TEST_TESTRES 0 = 2)

theorem serFail_fails {x : State} {code idx : Nat} (hx : x = { s with ser := x.ser }) (hc : code < 256) (hi : idx < 8) :
    SerFails s code idx (x.serFail code idx) := by
  have hxs (f : Fld) : x.getF f 0 = s.getF f 0 := by rw [hx]; rfl
  have hstate : x.serState = s.serState := hxs _
  have honly : OnlySer s (x.serFail code idx) := by
    refine OnlySer_trans ⟨?_, fun f i _ => ?_⟩ (onlySer_of_step (serFail_late code idx).step)
    · rw [hx]
    · rw [hx]
      rfl
  have hshown (h : ¬x.porLatched) : (x.serFail code idx).getF .SER_STAT_FAULT 0 = code ∧ (x.serFail code idx).getF .SER_STAT_FAULTIDX 0 = idx := by
    rw [serFail_shown x code idx (.inl rfl), serFail_shown x code idx (.inr rfl)]
    exact recordFault_code hc hi h
  obtain ⟨h5, h6, hsout, -, htest, -⟩ := serFail_spec x code idx
  rw [hstate] at h5 h6 hsout htest
  refine ⟨honly, fun h => hshown fun hl => h (hstate.symm.trans hl.1), fun h => ?_, fun h => (h6 h).1, hsout, fun h h10 => hshown fun hl => ?_, htest⟩
  · obtain ⟨hst, hcut, -⟩ := h5 h
    refine ⟨hst, hcut, ?_⟩
    rw [asserted_ser, hcut]
    exact Bool.or_true _
  · have := hl.2.2
    rw [hxs] at this
    omega


/-! The end of a pulse (R344). -/

/-- The input is supplied by TPOk and read closed before its pulse. -/
def OwnInput (s : State) (k : Fin 4) (before : BitVec 8) (n : Fin 8) : Prop :=
  sinFunc s.ser.record n ≠ 0 ∧ sinTpo s.ser.record n = k.val ∧ before.getLsbD n = true

theorem mem_pulseInputs (n : Nat) : n ∈ s.pulseInputs k before ↔ ∃ h : n < 8, OwnInput s k before ⟨n, h⟩ := by
  rw [State.pulseInputs, List.mem_filter, usedInputs, List.mem_filter, List.mem_range, Bool.and_eq_true, beq_iff_eq, bne_iff_ne]
  constructor
  · rintro ⟨⟨hlt, hused⟩, htpo, hbit⟩
    exact ⟨hlt, hused, htpo, hbit⟩
  · rintro ⟨hlt, hused, htpo, hbit⟩
    exact ⟨⟨hlt, hused⟩, htpo, hbit⟩

/-- The inputs that TPOk supplies read so and so. -/
theorem forall_pulseInputs {p : Nat → Prop} : (∀ n ∈ s.pulseInputs k before, p n) ↔ ∀ n : Fin 8, OwnInput s k before n → p n := by
  constructor
  · exact fun h n hn => h n ((mem_pulseInputs n.val).2 ⟨n.isLt, hn⟩)
  · intro h n hn
    obtain ⟨hlt, hown⟩ := (mem_pulseInputs n).1 hn
    exact h ⟨n, hlt⟩ hown

theorem tpoPulseEnd_exec (hrun : s.sysRuns = true) (hpulse : s.ser.pulse = some (k, before)) :
    exec (.tpoPulseEnd k closed) s = .next (s.pulseEnd k before closed) := by
  change execTpoPulseEnd k closed s = _
  rw [execTpoPulseEnd, hpulse]
  exact congrArg Host.Outcome.next (if_pos ⟨rfl, hrun⟩)

/-- Every input of the TPO reads open: the pulse passes so far. -/
theorem tpoPulseEnd_open (hrun : s.sysRuns = true) (hpulse : s.ser.pulse = some (k, before))
    (hopen : ∀ n : Fin 8, OwnInput s k before n → closed.getLsbD n = false) : Answers (.tpoPulseEnd k closed) s (fun t =>
    t = { s with ser := { s.ser with pulse := none, recovery := some (k, before), cross := t.ser.cross } } ∧
      ∀ n : Fin 8, OwnInput s k before n → t.ser.cross.getLsbD n = false) := by
  have hexec := tpoPulseEnd_exec (closed := closed) hrun hpulse
  have hstuck : ((s.pulseInputs k before).filter (fun n => closed.getLsbD n)).head? = none := by
    rw [List.head?_eq_none_iff, List.filter_eq_nil_iff]
    exact forall_pulseInputs.2 fun n hn => by rw [hopen n hn]; exact Bool.false_ne_true
  have hmask (n : Fin 8) (hn : OwnInput s k before n) :
      (BitVec.ofNat 8 ((s.pulseInputs k before).foldl (fun m n => m ||| 2 ^ n) 0)).getLsbD n = true := by
    have hbit := testBit_gather (fun _ => true) (s.pulseInputs k before) 0 n
    rw [BitVec.getLsbD_ofNat, decide_eq_true n.isLt, Bool.true_and]
    refine hbit.trans ?_
    rw [Nat.zero_testBit, Bool.false_or, List.any_eq_true]
    exact ⟨n, (mem_pulseInputs n.val).2 ⟨n.isLt, hn⟩, by simp⟩
  unfold State.pulseEnd at hexec
  extract_lets own stuck others mask s1 at hexec
  rw [show stuck.head? = none from hstuck] at hexec
  refine ⟨_, hexec, rfl, fun n hn => ?_⟩
  show (s1.ser.cross &&& ~~~mask own).getLsbD n = false
  rw [BitVec.getLsbD_and, BitVec.getLsbD_not, show (mask own).getLsbD n = true from hmask n hn]
  simp

/-- An input of the TPO still reads closed. -/
theorem tpoPulseEnd_stuck {n : Fin 8} (hrun : s.sysRuns = true) (hpulse : s.ser.pulse = some (k, before)) (hown : OwnInput s k before n)
    (hclosed : closed.getLsbD n = true) (hlow : ∀ m : Fin 8, m < n → OwnInput s k before m → closed.getLsbD m = false) :
    Answers (.tpoPulseEnd k closed) s (SerFails s (if s.ser.cross.getLsbD n then 0x11 else 0x10) n) := by
  have hexec := tpoPulseEnd_exec (closed := closed) hrun hpulse
  have hstuck : ((s.pulseInputs k before).filter (fun n => closed.getLsbD n)).head? = some n.val := by
    rw [List.head?_filter, State.pulseInputs, usedInputs, List.find?_filter, List.find?_filter, List.find?_range_eq_some]
    obtain ⟨hused, htpo, hbit⟩ := hown
    refine ⟨by simp [hused, htpo, hbit, hclosed], List.mem_range.2 n.isLt, fun j hj => ?_⟩
    by_contra hp
    rw [Bool.not_eq_true', Bool.not_eq_false] at hp
    simp only [Bool.and_eq_true, beq_iff_eq, bne_iff_ne, decide_eq_true_eq] at hp
    have := hlow ⟨j, hj.trans n.isLt⟩ hj ⟨hp.1, hp.2.1.1, hp.2.1.2⟩
    rw [hp.2.2] at this
    cases this
  unfold State.pulseEnd at hexec
  extract_lets own stuck others mask s1 at hexec
  rw [show stuck.head? = some n.val from hstuck] at hexec
  refine ⟨_, hexec, serFail_fails rfl ?_ n.isLt⟩
  split <;> decide

/-! The recovery check (R344, R348). -/

theorem tpoRecovery_exec (hrun : s.sysRuns = true) (hrecov : s.ser.recovery = some (k, before)) :
    exec (.tpoRecoveryCheck k closed) s = .next (s.recoveryCheck k before closed) := by
  change execTpoRecoveryCheck k closed s = _
  rw [execTpoRecoveryCheck, hrecov]
  exact congrArg Host.Outcome.next (if_pos ⟨rfl, hrun⟩)

/-- The completed checks of a proof test, with one more in TEST. -/
def plusRun (s : State) (v : Vector Nat 4) (k : Fin 4) : Vector Nat 4 := v.set k.val (v[k] + if s.serState = 7 then 1 else 0)

theorem plusRun_eq (s : State) (v : Vector Nat 4) (k : Fin 4) : v.set k.val (v[k] + b2n (s.serState == serTest)) = plusRun s v k := by
  rw [plusRun]
  congr 2
  rw [b2n]
  simp [serTest]

/-- The state behind a recovery check, before it shows that it passed. -/
def State.recovered1 (s : State) (k : Fin 4) : State := { s with ser := { s.ser with recovery := none, tpoRuns := plusRun s s.ser.tpoRuns k } }


theorem orF_startup {f : Fld} (hf : f.width = 4) (s : State) (k : Fin 4) : (s.orF f 0 k).getF f 0 = s.getF f 0 % 16 ||| 2 ^ k.val := by
  rw [State.orF, State.getF_setF_same, hf, Nat.or_mod_two_pow, Nat.mod_eq_of_lt (Nat.pow_lt_pow_right (by decide) k.isLt)]

/-- What the recovery check of a pulse that passed shows in STARTUP and RECOVERY. -/
def State.pulsePassed (w : State) (st : Nat) (own : List Nat) (k : Fin 4) : State :=
  if st = 2 ∨ st = 4 then
    if st = 2 then own.foldl (fun t n => if sinFunc t.ser.record n == 1 && t.ser.closed.getLsbD n then t.orF .SER_STARTUP_DONE 0 n else t)
        (w.orF .SER_STARTUP_TPOOK 0 k)
    else w.orF .SER_STARTUP_TPOOK 0 k
  else w

/-- What a recovery check leaves of SAF's state. -/
def SerSt.checked (r : SerSt) := (r.recovery, r.tpoRuns, r.sout)

/-- The guards' checks touch what they show alone. -/
theorem guardsDone_kept (w : State) (own : List Nat) : SerKept [(.SER_STARTUP_DONE, 0)] SerSt.checked w
    (own.foldl (fun t n => if sinFunc t.ser.record n == 1 && t.ser.closed.getLsbD n then t.orF .SER_STARTUP_DONE 0 n else t) w) :=
  SerKept.foldl (.refl w) fun _ _ h => .ite (h.setF (by decide)) h

theorem pulsePassed_kept (w : State) (st : Nat) (own : List Nat) :
    SerKept [(.SER_STARTUP_TPOOK, 0), (.SER_STARTUP_DONE, 0)] SerSt.checked w (w.pulsePassed st own k) := by
  have hor : SerKept [(.SER_STARTUP_TPOOK, 0), (.SER_STARTUP_DONE, 0)] SerSt.checked w (w.orF .SER_STARTUP_TPOOK 0 k) := SerKept.setF (.refl w) (by decide)
  exact .ite (.ite (hor.trans ((guardsDone_kept _ own).mono (by decide) id)) hor) (.refl w)

theorem pulsePassed_shown (w : State) {st : Nat} (own : List Nat) (h : st = 2 ∨ st = 4) :
    (w.pulsePassed st own k).getF .SER_STARTUP_TPOOK 0 = w.getF .SER_STARTUP_TPOOK 0 % 16 ||| 2 ^ k.val := by
  rw [State.pulsePassed, if_pos h]
  split
  · exact ((guardsDone_kept _ own).getF (by decide) 0).trans (orF_startup rfl w k)
  · exact orF_startup rfl w k

/-- A recovery check that passed: the cause of a fault that the pulse had shown is gone. -/
theorem recoveryCheck_passed (h : (s.pulseInputs k before).all (fun n => closed.getLsbD n) = true) : ∃ w, SerKept [] SerSt.checked (s.recovered1 k) w ∧
    s.recoveryCheck k before closed = w.pulsePassed s.serState (s.pulseInputs k before) k := by
  have hs1 : s.modSer (fun t => { t with recovery := none, tpoRuns := t.tpoRuns.set k.val (t.tpoRuns[k] + b2n (s.serState == serTest)) }) = s.recovered1 k := by
    rw [State.modSer, plusRun_eq]
    rfl
  unfold State.recoveryCheck
  dsimp only
  rw [hs1, if_pos h]
  exact ⟨_, .ite (.modSer (.refl _) rfl) (.refl _), rfl⟩

theorem recoveryCheck_open (h : ¬(s.pulseInputs k before).all (fun n => closed.getLsbD n) = true) : s.recoveryCheck k before closed = s.recovered1 k := by
  have hs1 : s.modSer (fun t => { t with recovery := none, tpoRuns := t.tpoRuns.set k.val (t.tpoRuns[k] + b2n (s.serState == serTest)) }) = s.recovered1 k := by
    rw [State.modSer, plusRun_eq]
    rfl
  unfold State.recoveryCheck
  dsimp only
  rw [hs1, if_neg h]

theorem tpoRecovery_clause (hrun : s.sysRuns = true) (hrecov : s.ser.recovery = some (k, before)) : Answers (.tpoRecoveryCheck k closed) s (fun t =>
    t.ser.recovery = none ∧ t.serState = s.serState ∧ OnlySer s t ∧ t.ser.sout = s.ser.sout ∧ t.ser.tpoRuns = plusRun s s.ser.tpoRuns k ∧
    ((∀ n, OwnInput s k before n → closed.getLsbD n = true) → s.serState = 2 ∨ s.serState = 4 →
      t.getF .SER_STARTUP_TPOOK 0 = s.getF .SER_STARTUP_TPOOK 0 % 16 ||| 2 ^ k.val) ∧
    ((¬∀ n, OwnInput s k before n → closed.getLsbD n = true) →
      t = { s with ser := { s.ser with recovery := none, tpoRuns := plusRun s s.ser.tpoRuns k } })) := by
  have hexec := tpoRecovery_exec (closed := closed) hrun hrecov
  have hall : ((s.pulseInputs k before).all (fun n => closed.getLsbD n) = true) ↔ ∀ n, OwnInput s k before n → closed.getLsbD n = true := by
    rw [List.all_eq_true]
    exact forall_pulseInputs
  have hrec : SerKept [] (fun _ => ()) s (s.recovered1 k) := ⟨rfl, .refl _ _, rfl⟩
  by_cases h : (s.pulseInputs k before).all (fun n => closed.getLsbD n) = true
  · obtain ⟨w, hw, heq⟩ := recoveryCheck_passed h
    rw [heq] at hexec
    have hkept := (hw.mono (List.nil_subset _) id).trans (pulsePassed_kept (k := k) w s.serState (s.pulseInputs k before))
    have hcore := hkept.core
    have hget (f : Fld) : w.getF f 0 = s.getF f 0 := (hw.getF (List.forall_mem_nil _) 0).trans rfl
    have honly : OnlySer s (w.pulsePassed s.serState (s.pulseInputs k before) k) :=
      OnlySer_trans ⟨rfl, .refl _ _⟩ (s := s) (t := s.recovered1 k) ⟨hkept.frame, hkept.regs.mono (by decide)⟩
    refine ⟨_, hexec, congrArg Prod.fst hcore, (hkept.getF (by decide) 0).trans rfl, honly, congrArg (fun x => x.2.2) hcore, congrArg (fun x => x.2.1) hcore,
      fun _ hst => ?_, fun hnot => absurd (hall.1 h) hnot⟩
    rw [pulsePassed_shown w _ hst, hget]
  · rw [recoveryCheck_open h] at hexec
    exact ⟨_, hexec, rfl, rfl, ⟨rfl, .refl _ _⟩, rfl, rfl, fun hown => absurd (hall.2 hown) h, fun _ => rfl⟩

/-! The end of a dark pulse (R345, R352). -/

theorem darkPulseEnd_exec {r : SoutRead} (hrun : s.sysRuns = true) (hdark : s.ser.dark = some k) :
    exec (.darkPulseEnd k r) s = .next (s.darkEnd k r) := by
  change execDarkPulseEnd k r s = _
  rw [execDarkPulseEnd, if_pos ⟨hdark, hrun⟩]

/-- SAF's state at the end of a dark pulse whose output read low. -/
def State.darkEnded (s : State) (k : Fin 4) : State := { s with ser := { s.ser with
  dark := none, stuckOn := s.ser.stuckOn &&& ~~~BitVec.ofNat 4 (2 ^ k.val), soutRuns := plusRun s s.ser.soutRuns k } }

/-- SAF's state at the end of a dark pulse whose output read high. -/
def State.darkStuck (s : State) (k : Fin 4) : State := { s with ser := { s.ser with
  dark := none, stuckOn := s.ser.stuckOn ||| BitVec.ofNat 4 (2 ^ k.val), sout := s.ser.sout &&& ~~~BitVec.ofNat 4 (2 ^ k.val),
  soutRuns := plusRun s s.ser.soutRuns k } }

/-- The readback at the end of a dark pulse. -/
theorem darkSeen_eq (r : SoutRead) : s.modSer (fun t => { t with
      dark := none, stuckOn := if r = .high then t.stuckOn ||| BitVec.ofNat 4 (2 ^ k.val) else t.stuckOn &&& ~~~BitVec.ofNat 4 (2 ^ k.val),
      sout := if r = .high then t.sout &&& ~~~BitVec.ofNat 4 (2 ^ k.val) else t.sout,
      soutRuns := t.soutRuns.set k.val (t.soutRuns[k] + b2n (s.serState == serTest)) }) =
    if r = .high then s.darkStuck k else s.darkEnded k := by
  rw [State.modSer, plusRun_eq]
  cases r <;> rfl

theorem darkSeen_off {r : SoutRead} (h : r ≠ .high) : (if r = .high then s.darkStuck k else s.darkEnded k) = s.darkEnded k := if_neg h

theorem darkEnd_low : s.darkEnd k .low =
    if s.serState = 2 ∨ s.serState = 4 then (s.darkEnded k).orF .SER_STARTUP_SOUTOK 0 k else s.darkEnded k := by
  have hseen := darkSeen_eq (s := s) (k := k) .low
  unfold State.darkEnd
  dsimp only
  rw [hseen, darkSeen_off (by decide)]
  rfl

theorem darkEnd_high : s.darkEnd k .high = (s.darkStuck k).serFail 0x20 k := by
  have hseen := darkSeen_eq (s := s) (k := k) .high
  unfold State.darkEnd
  dsimp only
  rw [hseen, if_pos rfl]
  rfl

theorem darkEnd_unsupplied : s.darkEnd k .unsupplied = if s.serState = 7 then (s.darkEnded k).serFail 0x21 k else s.darkEnded k := by
  have hseen := darkSeen_eq (s := s) (k := k) .unsupplied
  unfold State.darkEnd
  dsimp only
  rw [hseen, darkSeen_off (by decide)]
  rfl

/-- A state left leaves no dark pulse. -/
theorem serLeave_dark (x : State) (v : Nat) : (x.serLeave v).ser.dark = none := by
  have habandon : x.abandonTests.ser.dark = none := (abandonTests_spec x).2.2.2.1
  by_cases h : x.serState = serPermit
  · rw [State.serLeave, if_pos h]
    generalize x.abandonTests = w at *
    exact habandon
  · rw [State.serLeave, if_neg h]
    generalize x.abandonTests = w at *
    exact habandon

/-- No dark pulse goes on behind a failure. -/
theorem serFail_dark (x : State) (code idx : Nat) : (x.serFail code idx).ser.dark = none := by
  rcases Classical.em (x.serState = 7) with h7 | h7
  · rw [serFail_test h7]
    rfl
  · rcases Classical.em (x.serState = 6) with h6 | h6
    · rw [serFail_fault h6]
      exact (abandonTests_spec _).2.2.2.1
    · rw [serFail_other h7 h6]
      exact serLeave_dark _ _

theorem darkPulseEnd_high (hrun : s.sysRuns = true) (hdark : s.ser.dark = some k) : Answers (.darkPulseEnd k .high) s (fun t =>
    SerFails s 0x20 k t ∧ t.ser.sout.getLsbD k = false ∧ t.ser.dark = none) := by
  have hexec := darkPulseEnd_exec (r := .high) hrun hdark
  rw [darkEnd_high] at hexec
  have hfails := serFail_fails (s := s) (x := s.darkStuck k) (code := 0x20) (idx := k) rfl (by decide) (by omega)
  obtain ⟨h5, h6, hzero, hsix, -, -⟩ := serFail_spec (s.darkStuck k) 0x20 k
  have hbit : (s.darkStuck k).ser.darkBit = 0#4 := rfl
  have hoff : (s.darkStuck k).ser.sout.getLsbD k = false := cleared_bit s.ser.sout k
  have hmasked (o : BitVec 4) (h : o.getLsbD k = false) (m : BitVec 4) : (o &&& m).getLsbD k = false := by rw [BitVec.getLsbD_and, h, Bool.false_and]
  refine ⟨_, hexec, hfails, ?_, serFail_dark _ _ _⟩
  rcases Classical.em ((s.darkStuck k).serState = 5) with hp | hp
  · rw [(h5 hp).2.2.1]
    exact hmasked _ hoff _
  · rcases Classical.em ((s.darkStuck k).serState = 6) with hf | hf
    · rw [hsix hf]
      exact hmasked _ hoff _
    · rw [hzero hp hf]
      exact BitVec.getLsbD_zero

theorem darkPulseEnd_low (hrun : s.sysRuns = true) (hdark : s.ser.dark = some k) : SetsOn (.darkPulseEnd k .low) s (s.darkEnded k)
    [(.SER_STARTUP_SOUTOK, 0, if s.serState = 2 ∨ s.serState = 4 then s.getF .SER_STARTUP_SOUTOK 0 % 16 ||| 2 ^ k.val else s.getF .SER_STARTUP_SOUTOK 0)] := by
  have hexec := darkPulseEnd_exec (r := .low) hrun hdark
  rw [darkEnd_low] at hexec
  have hregs : (s.darkEnded k).regs = s.regs := rfl
  have hget : (s.darkEnded k).getF .SER_STARTUP_SOUTOK 0 = s.getF .SER_STARTUP_SOUTOK 0 := rfl
  generalize s.darkEnded k = w at *
  by_cases h : s.serState = 2 ∨ s.serState = 4
  · rw [if_pos h] at hexec ⊢
    rw [← hget]
    have hk : 2 ^ k.val < 2 ^ 4 := Nat.pow_lt_pow_right (by decide) k.isLt
    refine .of_setAll (l := [(.SER_STARTUP_SOUTOK, 0, w.getF .SER_STARTUP_SOUTOK 0 % 16 ||| 2 ^ k.val)]) (hexec.trans (congrArg Host.Outcome.next ?_)) (List.nodup_singleton _)
      (by
        simp only [writesFit_cons, writesFit_nil, and_true]
        exact Nat.or_lt_two_pow (n := 4) (Nat.mod_lt _ (by decide)) hk) hregs
    rw [State.setAll_cons, State.setAll_nil, State.orF, ← State.setF_mod]
    rw [show Fld.SER_STARTUP_SOUTOK.width = 4 from rfl, Nat.or_mod_two_pow, Nat.mod_eq_of_lt hk]
  · rw [if_neg h] at hexec ⊢
    exact SetsOn.keeps (l := []) (.of_setAll hexec List.nodup_nil (by simp) hregs) List.not_mem_nil 0

theorem darkPulseEnd_unsupplied (hrun : s.sysRuns = true) (hdark : s.ser.dark = some k) (h7 : s.serState ≠ 7) : Answers (.darkPulseEnd k .unsupplied) s (fun t =>
    t = { s with ser := { s.ser with dark := none, stuckOn := s.ser.stuckOn &&& ~~~BitVec.ofNat 4 (2 ^ k.val), soutRuns := s.ser.soutRuns } }) := by
  have hexec := darkPulseEnd_exec (r := .unsupplied) hrun hdark
  rw [darkEnd_unsupplied, if_neg h7] at hexec
  have hkept : plusRun s s.ser.soutRuns k = s.ser.soutRuns := by
    rw [plusRun, if_neg h7, Nat.add_zero]
    exact Vector.set_getElem_self _
  refine ⟨_, hexec, ?_⟩
  rw [State.darkEnded, hkept]

theorem darkPulseEnd_unsuppliedTest (hrun : s.sysRuns = true) (hdark : s.ser.dark = some k) (h7 : s.serState = 7) :
    Answers (.darkPulseEnd k .unsupplied) s (SerFails s 0x21 k) := by
  have hexec := darkPulseEnd_exec (r := .unsupplied) hrun hdark
  rw [darkEnd_unsupplied, if_pos h7] at hexec
  exact ⟨_, hexec, serFail_fails (s := s) (x := s.darkEnded k) rfl (by decide) (by omega)⟩

/-! The end of a proof test (R353). -/

/-- R353: a proof test is done after 64 pulses, 16 of them on each output that the record uses. -/
theorem proofDone_iff : s.proofDone = true ↔
    64 ≤ s.ser.test ∧ ∀ j : Fin 4, 16 ≤ s.ser.tpoRuns[j] ∧ ((recSouten s.ser.record).testBit j = true → 16 ≤ s.ser.soutRuns[j]) := by
  have hget (v : Vector Nat 4) (j : Fin 4) : v.toList.getD j 0 = v[j] := by simp [List.getD]
  have htpo : s.ser.tpoRuns.toList.all (fun n => decide (16 ≤ n)) = true ↔ ∀ j : Fin 4, 16 ≤ s.ser.tpoRuns[j] := by
    rw [List.all_eq_true]
    constructor
    · intro h j
      exact of_decide_eq_true (h _ (by simp))
    · intro h n hn
      obtain ⟨i, hi, rfl⟩ := List.getElem_of_mem hn
      exact decide_eq_true (h ⟨i, by simpa using hi⟩)
  have hsout : (List.range 4).all (fun n => !(recSouten s.ser.record).testBit n || decide (16 ≤ s.ser.soutRuns.toList.getD n 0)) = true ↔
      ∀ j : Fin 4, (recSouten s.ser.record).testBit j = true → 16 ≤ s.ser.soutRuns[j] := by
    rw [List.all_eq_true]
    refine ⟨fun h j hj => ?_, fun h n hn => ?_⟩
    · have := h j (List.mem_range.2 j.isLt)
      rwa [hj, Bool.not_true, Bool.false_or, decide_eq_true_eq, hget] at this
    · rw [Bool.or_eq_true, Bool.not_eq_true', decide_eq_true_eq, Classical.or_iff_not_imp_left, Bool.not_eq_false]
      exact fun hb => (hget s.ser.soutRuns ⟨n, List.mem_range.1 hn⟩).symm ▸ h ⟨n, List.mem_range.1 hn⟩ hb
  rw [State.proofDone, Bool.and_eq_true, Bool.and_eq_true, decide_eq_true_eq, htpo, hsout, and_assoc, forall_and]

theorem proofTestEnd_clause (h7 : s.serState = 7) (hrun : s.sysRuns = true) (hdone : s.proofDone = true) : Sets .proofTestEnd s
    [(.SER_TEST_TESTRES, 0, 1), (.SER_STAT_STATE, 0, 4), (.SER_STAT_PERMIT, 0, 0), (.SER_STARTUP_TPOOK, 0, 0), (.SER_STARTUP_SOUTOK, 0, 0)] := by
  refine .of_setAll (s' := s) ?_ (writtenKeys_nodup (by simp)) (by simp; decide) rfl
  change execProofTestEnd s = _
  rw [execProofTestEnd, if_pos ⟨h7, hdone, hrun⟩]
  rfl

theorem proofTestEnd_ignored (hdone : ¬s.proofDone = true) : Ignores .proofTestEnd s :=
  congrArg Host.Outcome.next (if_neg fun h => hdone h.2.1)

/-! The failures that the hardware detects (R347, R354, R358). -/

/-- What a failure that the hardware detects shows. -/
def SerForced (s : State) (code : Nat) (t : State) : Prop := t.serState = 6 ∧ t.bit .SER_STAT_PERMIT 0 = false ∧ t.ser.sout = 0#4 ∧ t.ser.cut = none ∧
  OnlySer s t ∧ (t.getF .SER_STAT_FAULT 0 = if s.serState = 6 ∧ 0 < s.getF .SER_STAT_FAULT 0 ∧ s.getF .SER_STAT_FAULT 0 < 0x10
    then s.getF .SER_STAT_FAULT 0 else code) ∧
  (t.getF .SER_CNT_DEMCNT 0 = min 65535 (s.getF .SER_CNT_DEMCNT 0 + if s.ser.demand then 1 else 0))

theorem serForce_fault {code : Nat} (hc : code < 256) : (s.recordFault code 0).getF .SER_STAT_FAULT 0 =
    if s.serState = 6 ∧ 0 < s.getF .SER_STAT_FAULT 0 ∧ s.getF .SER_STAT_FAULT 0 < 0x10 then s.getF .SER_STAT_FAULT 0 else code := by
  by_cases h : s.porLatched
  · rw [recordFault_latched code 0 h, if_pos ⟨h.1, Nat.pos_of_ne_zero h.2.1, h.2.2⟩]
  · rw [(recordFault_code hc (by decide) h).1, if_neg fun hl => h ⟨hl.1, hl.2.1.ne', hl.2.2⟩]

theorem countDemand_demcnt (w : State) : w.countDemand.getF .SER_CNT_DEMCNT 0 = min 65535 (w.getF .SER_CNT_DEMCNT 0 + if w.ser.demand then 1 else 0) := by
  rw [countDemand_eq, State.modSer_getF, State.getF_setF_same, show Fld.SER_CNT_DEMCNT.width = 16 from rfl, b2n, Nat.mod_eq_of_lt]
  have := Nat.min_le_left 65535 (w.getF .SER_CNT_DEMCNT 0 + if w.ser.demand then 1 else 0)
  omega

theorem countDemand_getF (w : State) {f : Fld} (hf : f ≠ .SER_CNT_DEMCNT) (i : Nat) : w.countDemand.getF f i = w.getF f i := by
  rw [countDemand_eq, State.modSer_getF, State.getF_setF_ne _ _ _ _ hf]

theorem countDemand_late (w : State) : SerStep w w.countDemand := by
  rw [countDemand_eq]
  exact .modSer (.setF (.refl w) (by decide)) rfl

theorem serForce_forced {code : Nat} (hc : code < 256) : SerForced s code (s.serForce code) := by
  obtain ⟨-, -, -, -, -, hdemand, -⟩ := recordFault_keeps s code 0
  obtain ⟨-, hfault', -, -, -, hdemand', -⟩ := abandonTests_spec (s.recordFault code 0)
  have hlate : SerLate s (s.recordFault code 0).abandonTests := (recordFault_late code 0).trans abandonTests_late
  have hcnt : (s.recordFault code 0).abandonTests.getF .SER_CNT_DEMCNT 0 = s.getF .SER_CNT_DEMCNT 0 := hlate.getF (by decide) 0
  have hshown := (hfault'.trans (serForce_fault hc))
  rw [hdemand] at hdemand'
  rw [State.serForce]
  generalize (s.recordFault code 0).abandonTests = w at *
  have hcount := countDemand_demcnt w
  have hfault := countDemand_getF w (f := .SER_STAT_FAULT) (by decide) 0
  have hstep := hlate.step.trans (countDemand_late w)
  generalize w.countDemand = x at *
  refine ⟨setSer_state x (v := 6) (by decide), setSer_permit x 6, rfl, rfl, onlySer_of_step ((hstep.trans (setSer_step 6)).modSer rfl), ?_, ?_⟩
  · exact (setSer_getF x 6 (f := .SER_STAT_FAULT) (by decide) (by decide) 0).trans (hfault.trans hshown)
  · rw [hcnt, hdemand'] at hcount
    exact (setSer_getF x 6 (f := .SER_CNT_DEMCNT) (by decide) (by decide) 0).trans hcount

theorem hardwareFailures (hrun : s.aonRuns = true) : Answers .lockstepFault s (SerForced s 1) ∧
    (s.serState ≠ 0 → Answers .serWatchdogExpiry s (SerForced s 3)) ∧ Answers .safeSupplyFault s (SerForced s 5) :=
  ⟨⟨_, congrArg Host.Outcome.next (if_pos hrun), serForce_forced (by decide)⟩,
   fun h => ⟨_, congrArg Host.Outcome.next (if_pos ⟨h, hrun⟩), serForce_forced (by decide)⟩,
   ⟨_, congrArg Host.Outcome.next (if_pos hrun), serForce_forced (by decide)⟩⟩

end


/-- R340, R344, R345, R347, R351 to R354. -/
theorem safetyTests : Claims.SafetyTests := by
  intro k closed before s r c runs again due on plus own checks fails latched forced proof
  refine ⟨fun j hslot h0 hrun hok => serFirmwareStart_clause hslot h0 hrun hok, fun v hcut hv hrun => serSoutCut_clause hcut hv hrun,
    fun hruns hp hr hat hdue => tpoPulse_clause hruns hp hr hat hdue, fun hrun hp hopen => tpoPulseEnd_open hrun hp hopen,
    fun n hrun hp hown hcl hlow => tpoPulseEnd_stuck hrun hp hown hcl hlow, fun hrun hr => tpoRecovery_clause hrun hr,
    fun hruns hd hout hat hdue => soutDarkPulse_clause hruns hd hout hat hdue, fun hrun hd => darkPulseEnd_low hrun hd,
    fun hrun hd => darkPulseEnd_high hrun hd, fun hrun hd h7 => darkPulseEnd_unsupplied hrun hd h7,
    fun hrun hd h7 => darkPulseEnd_unsuppliedTest hrun hd h7, fun h7 hrun hproof => proofTestEnd_clause h7 hrun (proofDone_iff.2 hproof),
    fun hproof => proofTestEnd_ignored (mt proofDone_iff.1 hproof), fun hrun => hardwareFailures hrun⟩

/-- Settles O57: the cycle's steps one by one, and the tests by what each of their ends shows. -/
theorem safetyCyclesAndTests : Obligations.SafetyCyclesAndTests := ⟨safetyCycles, safetyTests⟩

end Sys2Proof.Machine
end

section
/-! The bridge PWM: a tick of a comparator, due in the cycle in which an override turns a switch off. -/
namespace Sys2Proof.Machine

-- The proofs one after another: all at once they would need more threads, and their stacks, than the check's memory holds.
set_option Elab.async false

/-- Pair 0 is OFF with its high side still on.  Comparator 0 counts with FILT = 0; its gated output is on the trip side, and the tick of FAB cycle 16
has come and has not been taken. -/
def tickDue : State :=
  let s := ((State.reset.setF .PMC_STAGE_STAGE 0 3).setF .CMP_STATUS_STATE 0 2).setF .PW_STAT_HON 0 1
  { s with
    tick := 16, gated := 0#4, quadFeed := true, pmc := { porSupply := false }
    cmps := s.cmps.set 0 { gated := true } }

theorem tickDue_runs : tickDue.pairOk (0 : Fin 24) = true ∧ tickDue.fabBus = true ∧ tickDue.getF .CMP_STATUS_STATE 0 = 2 := by decide +kernel

/-- The edge runs the trip inputs up to the present cycle, where it looks for windows to open: the comparator trips. -/
theorem tickDue_trips : (tickDue.writeOvr 0 0 0).getF .CMP_STATUS_STATE 0 = 3 := by decide +kernel

theorem pwmOverride_eq {s : State} {n : Fin 24} {h l : BitVec 2} (hpair : s.pairOk n = true) (hfab : s.fabBus = true) :
    exec (.pwmOverride n h l) s = .next (s.writeOvr n h.toNat l.toNat) := by
  change execPwmOverride n h l s = _
  rw [execPwmOverride, if_pos (by rw [hpair, hfab]; rfl)]

/-- Refutes O54: an override that turns a switch off takes the tick that is due for a comparator in that cycle, which then trips: STATE of the comparator
is no field of the pair. -/
theorem not_pwmPeriodsAndOutputs : ¬ Obligations.PwmPeriodsAndOutputs := by
  intro h
  obtain ⟨hpair, hfab, hstate⟩ := tickDue_runs
  obtain ⟨-, -, -, -, hovr, -⟩ := h.2 0 false 0#2 0#2 tickDue
  obtain ⟨t, ht, -, -, -, -, -, -, -, hregs⟩ := hovr hpair hfab
  have hsame : t.getF .CMP_STATUS_STATE 0 = 2 := (hregs.getF_eq (by simp [pairFields]) 0).trans hstate
  have heq : t = tickDue.writeOvr 0 0 0 := Host.Outcome.next.inj (ht.symm.trans (pwmOverride_eq hpair hfab))
  rw [heq, tickDue_trips] at hsame
  contradiction

end Sys2Proof.Machine
end

section
/-! What a sequence of register writes leaves, and what the boot ROM does to the PLLs (R435, R452). -/
namespace Sys2Proof.Machine

-- The proofs one after another: all at once they would need more threads, and their stacks, than the check's memory holds.
set_option Elab.async false

/-- Nothing that `core` reads of the state changes, and of the fields none but `names`. -/
structure KeptBut {α : Type} (core : State → α) (names : List Fld) (s t : State) : Prop where
  core : core t = core s
  regs : ∀ f ∉ names, ∀ i, t.getF f i = s.getF f i

section
variable {α : Type} {core : State → α} {names : List Fld} {s t u : State}

theorem KeptBut.refl (s : State) : KeptBut core names s s := ⟨rfl, fun _ _ _ => rfl⟩

theorem KeptBut.trans (h : KeptBut core names s t) (h' : KeptBut core names t u) : KeptBut core names s u :=
  ⟨h'.core.trans h.core, fun f hf i => (h'.regs f hf i).trans (h.regs f hf i)⟩

theorem KeptBut.setF {f : Fld} {i v : Nat} (h : KeptBut core names s t) (hf : f ∈ names) (hc : core (t.setF f i v) = core t := by rfl) :
    KeptBut core names s (t.setF f i v) :=
  ⟨hc.trans h.core, fun g hg j => (State.getF_setF_ne _ _ _ _ (by rintro rfl; exact hg hf)).trans (h.regs g hg j)⟩

theorem KeptBut.setWhen {f : Fld} {i v : Nat} {b : Bool} (h : KeptBut core names s t) (hf : f ∈ names) (hc : core (t.setF f i v) = core t := by rfl) :
    KeptBut core names s (t.setWhen b f i v) := by
  cases b with
  | false => exact h
  | true => exact h.setF hf hc

/-- A change of what neither the registers nor `core` hold. -/
theorem KeptBut.upd {x : State} (h : KeptBut core names s t) (hr : x.regs = t.regs) (hc : core x = core t) : KeptBut core names s x :=
  ⟨hc.trans h.core, fun f hf i => (by rw [State.getF, hr, State.getF] : x.getF f i = t.getF f i).trans (h.regs f hf i)⟩

theorem KeptBut.ite {c : Prop} [Decidable c] {x y : State} (hx : KeptBut core names s x) (hy : KeptBut core names s y) :
    KeptBut core names s (if c then x else y) := by
  split
  · exact hx
  · exact hy

theorem KeptBut.foldl {β : Type} {f : State → β → State} {l : List β} (h : KeptBut core names s t)
    (hf : ∀ x e, KeptBut core names s x → KeptBut core names s (f x e)) : KeptBut core names s (l.foldl f t) :=
  List.foldlRecOn (motive := KeptBut core names s) l f h fun x hx e _ => hf x e hx

theorem KeptBut.forIdx {n : Nat} {f : Fin n → State → State} (h : KeptBut core names s t)
    (hf : ∀ x i, KeptBut core names s x → KeptBut core names s (f i x)) : KeptBut core names s (forIdx f t) :=
  h.foldl hf

theorem KeptBut.mono {β : Type} {core' : State → β} {names' : List Fld} (h : KeptBut core names s t) (hn : names ⊆ names')
    (hc : core t = core s → core' t = core' s) : KeptBut core' names' s t := ⟨hc h.core, fun f hf i => h.regs f (fun hm => hf (hn hm)) i⟩

theorem KeptBut.bit (h : KeptBut core names s t) {f : Fld} (hf : f ∉ names) (i : Nat) : t.bit f i = s.bit f i :=
  congrArg (· == 1) (h.regs f hf i)

/-- What holds of fields by their instances holds of them by their names. -/
theorem KeptBut.of_regsBut {l : List (Fld × Nat)} (hc : core t = core s) (hr : RegsBut s t l) (hl : ∀ e ∈ l, e.1 ∈ names) : KeptBut core names s t :=
  ⟨hc, fun _ hf i => hr.getF_eq (by rintro e he rfl; exact hf (hl e he)) i⟩

end

/-- What every step keeps, and one step establishes under it and no step undoes, holds after all of them. -/
theorem forIdx_establish {n : Nat} {f : Fin n → State → State} {P Q : State → Prop} {s : State} (i : Fin n) (h0 : P s) (hP : ∀ t j, P t → P (f j t))
    (hkeep : ∀ t j, P t → Q t → Q (f j t)) (hset : ∀ t, P t → Q (f i t)) : Q (forIdx f s) := by
  have key : ∀ (l : List (Fin n)) (t : State), P t → (i ∈ l ∨ Q t) → Q (l.foldl (fun t i => f i t) t) := by
    intro l
    induction l with
    | nil =>
      rintro t - (h | h)
      · exact absurd h List.not_mem_nil
      · exact h
    | cons j l ih =>
      intro t ht h
      refine ih _ (hP t j ht) ?_
      rcases h with h | h
      · rcases List.mem_cons.1 h with rfl | h
        · exact .inr (hset t ht)
        · exact .inl h
      · exact .inr (hkeep t j ht h)
  exact key _ s h0 (.inl (List.mem_finRange i))

/-! An acquisition (R452, R453). -/

/-- What an acquisition leaves of the state. -/
def pllCore (s : State) := (s.mem, s.lost, s.tick, s.gated, s.refOk, s.pmc, s.sec, s.lanes, s.quadFeed)

/-- The fields that an acquisition writes. -/
def acqNames : List Fld := [.CLK_PLL_STAT_ACQ, .CLK_PLL_STAT_NOBAND]

section
variable {s t : State} {n : Fin 4}

theorem loadDither_kept (s : State) (n : Fin 4) : (s.loadDither n).regs = s.regs ∧ pllCore (s.loadDither n) = pllCore s := by
  unfold State.loadDither
  split <;> exact ⟨rfl, rfl⟩

theorem acquire_kept (s : State) (n : Fin 4) : KeptBut pllCore acqNames s (s.acquire n) := by
  obtain ⟨hregs, hcore⟩ := loadDither_kept s n
  exact .ite (.setF (t := { s.loadDither n with acqAt := s.acqAt.set n s.tick }) (.upd (.refl s) hregs hcore) (by decide)) (.setF (.refl s) (by decide))

theorem relock_kept (s : State) (n : Fin 4) : KeptBut pllCore acqNames s (s.relock n) := .ite (acquire_kept s n) (.refl s)

theorem bandOf_congr (h : ∀ f ∉ acqNames, ∀ i, t.getF f i = s.getF f i) : t.bandOf n = s.bandOf n := by
  simp only [State.bandOf, State.bit, h .CLK_PLL_BAND_VALID (by decide), h .CLK_PLL_BAND_FLO (by decide), h .CLK_PLL_BAND_FHI (by decide)]

/-- An acquisition with a band shows ACQ. -/
theorem acquire_acq (h : (s.bandOf n).isSome = true) : (s.acquire n).bit .CLK_PLL_STAT_ACQ n = true := by
  rw [State.acquire, if_pos h, State.bit_setF_same]
  rfl

/-- An acquisition ends none. -/
theorem acquire_acqKept {k : Fin 4} (h : s.bit .CLK_PLL_STAT_ACQ k = true) : (s.acquire n).bit .CLK_PLL_STAT_ACQ k = true := by
  obtain ⟨hregs, -⟩ := loadDither_kept s n
  have hget : ({ s.loadDither n with acqAt := s.acqAt.set n s.tick } : State).getF .CLK_PLL_STAT_ACQ k = s.getF .CLK_PLL_STAT_ACQ k := by
    rw [State.getF, State.getF]
    exact congrArg (fun r => Store.get r _ _) hregs
  unfold State.acquire
  split
  · rw [State.bit, State.getF_setF]
    split
    · rfl
    · rw [hget]
      exact h
  · rw [State.bit, State.getF_setF_ne _ _ _ _ (by decide)]
    exact h

end

end Sys2Proof.Machine
end

section
/-! The boot ROM's start (R435, R445 to R447, R452, R473, R475). -/
namespace Sys2Proof.Machine

-- The proofs one after another: all at once they would need more threads, and their stacks, than the check's memory holds.
set_option Elab.async false

section
variable {s t u : State}

/-! The band tables. -/

/-- The fields that the ROM writes where it fills the band tables and locks the PLLs. -/
def romNames : List Fld := [.CLK_PLL_BAND_VALID, .CLK_PLL_BAND_BAND, .CLK_PLL_BAND_FLO, .CLK_PLL_BAND_FHI, .CLK_PLL_STAT_ACQ, .CLK_PLL_STAT_NOBAND]

/-- The tables as the ROM has measured them. -/
def State.romBands (s : State) : State := forIdx (n := 64) (fun k t =>
  let d := t.draw
  (((d.2.setF .CLK_PLL_BAND_VALID k 1).setF .CLK_PLL_BAND_BAND k (bitsOf d.1.toNat 29 24)).setF .CLK_PLL_BAND_FLO k
    (bitsOf d.1.toNat 23 12)).setF .CLK_PLL_BAND_FHI k (bitsOf d.1.toNat 11 0)) s

theorem romTables_eq (s : State) : s.romTables = forIdx (n := 4) (fun n t => t.relock n) s.romBands := rfl

theorem romBands_kept (s : State) : KeptBut pllCore romNames s s.romBands :=
  .forIdx (.refl s) fun x _ hx => .setF (.setF (.setF (.setF (.upd (x := x.draw.2) hx rfl rfl) (by decide)) (by decide)) (by decide)) (by decide)

theorem relocks_kept (s : State) : KeptBut pllCore acqNames s (forIdx (n := 4) (fun n t => t.relock n) s) :=
  .forIdx (.refl s) fun x n hx => hx.trans (relock_kept x n)

theorem romTables_kept (s : State) : KeptBut pllCore romNames s s.romTables :=
  (romBands_kept s).trans ((relocks_kept s.romBands).mono (by decide) id)

/-- Every gated PLL with a band is in acquisition. -/
theorem romTables_acq {k : Fin 4} (hg : s.gated.getLsbD k = true) (href : s.refOk = true) (haon : s.aonRuns = true) :
    (s.romTables.bandOf k).isSome = true → s.romTables.bit .CLK_PLL_STAT_ACQ k = true := by
  rw [romTables_eq]
  refine forIdx_establish (P := KeptBut pllCore acqNames s.romBands) (Q := fun x => (x.bandOf k).isSome = true → x.bit .CLK_PLL_STAT_ACQ k = true) k (.refl _)
    (fun x n hx => hx.trans (relock_kept x n)) (fun x n _ hq hband => ?_) fun x hx hband => ?_
  · rw [bandOf_congr (relock_kept x n).regs] at hband
    have hacq := hq hband
    unfold State.relock
    split
    · exact acquire_acqKept hacq
    · exact hacq
  · have hcore := hx.core.trans (romBands_kept s).core
    rw [bandOf_congr (relock_kept x k).regs] at hband
    cases hacq : x.bit .CLK_PLL_STAT_ACQ k with
    | true =>
      rw [State.relock, hacq, Bool.not_true, Bool.and_false, if_neg (by decide)]
      exact hacq
    | false =>
      have hgate : x.gated = s.gated := congrArg (fun c => c.2.2.2.1) hcore
      have hreference : x.refOk = s.refOk := congrArg (fun c => c.2.2.2.2.1) hcore
      have hpmc : x.pmc = s.pmc := congrArg (fun c => c.2.2.2.2.2.1) hcore
      have hrun : x.aonRuns = true := (congrArg (fun p : PmcSt => !p.porSupply) hpmc).trans haon
      rw [State.relock, if_pos (by rw [hgate, hg, hreference, href, hrun, hacq]; rfl)]
      exact acquire_acq hband

/-! What the ROM reads of an object. -/

theorem secCheck_congr (hslots : t.sec.slots = s.sec.slots) (hok : t.sec.chalOk = s.sec.chalOk) (hchal : t.challenge = s.challenge)
    (hfloor : ∀ ty, t.floorOf ty = s.floorOf ty) : t.secCheck = s.secCheck := by
  have hslot : t.slotOk = s.slotOk := by
    funext k
    rw [State.slotOk, hslots, State.slotOk]
  have huse : t.useOk = s.useOk := by
    funext o
    rw [State.useOk, State.fwSlotsBut, hslot, State.useOk, State.fwSlotsBut]
    simp only [State.slotUse, hslots]
  have hhash : t.slotHash = s.slotHash := by
    funext k
    rw [State.slotHash, hslots, State.slotHash]
  funext expect o
  rw [State.secCheck, State.secCheck, hslot, huse, hhash, hok, hchal]
  simp only [hfloor]

theorem floorOf_level (s : State) (ty : Nat) : (s.modSec SecSt.levelArb).floorOf ty = s.floorOf ty := by
  have hlevel (c : ArbCount) : c.level.floor = c.floor := Nat.max_self _
  unfold State.floorOf
  split
  · exact hlevel _
  · exact hlevel _
  · exact hlevel _
  · rfl

/-- `u` judges objects as `c` does, out of the same slot. -/
structure JudgesAs (c u : State) : Prop where
  check : u.secCheck = c.secCheck
  mem : SameMem c u
  slot : u.pmc.slot = c.pmc.slot

theorem objectAt_congr (h : SameMem s u) (a size : Nat) : u.objectAt a size = s.objectAt a size := by
  have hb (x : Nat) : s.byte x = u.byte x := (h x).symm
  rw [State.objectAt, State.objectAt, State.word_congr hb, State.readList_congr hb]

theorem JudgesAs.code (h : JudgesAs s u) (k : Nat) : u.stationCode k = s.stationCode k := by
  rw [State.stationCode, State.stationObj, h.check, objectAt_congr h.mem, State.stationCode, State.stationObj]

theorem JudgesAs.serOk (h : JudgesAs s u) (k : Nat) : u.serOk k = s.serOk k := by
  rw [State.serOk, State.serObj, h.check, objectAt_congr h.mem, State.serOk, State.serObj]

theorem JudgesAs.stationOk (h : JudgesAs s u) (k : Nat) : u.stationOk k = s.stationOk k := congrArg (· == 0) (h.code k)

theorem JudgesAs.chooseSlot (h : JudgesAs s u) : u.chooseSlot = s.chooseSlot := by
  rw [State.chooseSlot, h.slot, h.stationOk, h.stationOk, State.chooseSlot]

/-! The start record. -/

theorem startSlot_vio (p : PmcSt) (v : Bool) : ({ p with vio := v } : PmcSt).startSlot = { p.startSlot with vio := v } := by
  unfold PmcSt.startSlot
  dsimp only
  split
  · rfl
  · split <;> rfl

/-- The choice of the slot for a start leaves the count of failed starts and the request of the button. -/
theorem startSlot_keeps (p : PmcSt) : p.startSlot.failcnt = p.failcnt ∧ p.startSlot.mmreq = p.mmreq := by
  unfold PmcSt.startSlot
  split
  · exact ⟨rfl, rfl⟩
  · split <;> exact ⟨rfl, rfl⟩

/-- The start record and the floors, as the ROM's decisions read them. -/
def State.slotTaken (s : State) : State := (s.modSec SecSt.levelArb).modPmc PmcSt.startSlot

/-- The registers of S1 as the ROM enters it. -/
def State.s1Entered (s : State) : State := ((s.setF .PMC_STAGE_STAGE 0 1).setRole roleSingle).modPmc (fun p => { p with vio := true })

/-- S1 with the PLLs in acquisition. -/
def State.romBegun (s : State) : State := s.s1Entered.romTables

/-- The boot ROM may start (R435, R496). -/
def RomMayStart (x : RomStart) (s : State) : Prop := (1620 < x.vio ∧ 810 < x.vsd ∧ 1080 < x.vsdt ∧ 1620 < x.vana) ∧ s.stage = 0 ∧ s.pmc.porPin = false ∧
  s.pmc.porSupply = false ∧ s.bit .VREG_STAT_PGOOD 0 = true ∧ s.bit .THERM_STAT_SHUTLAT 0 = false ∧ s.getF .PMC_STAGE_REASON 0 ≠ 0x10

theorem bootRomStart_exec {x : RomStart} (h : RomMayStart x s) : exec (.bootRomStart x) s = .next (s.romBegun.romDecide x.mramOk) := by
  obtain ⟨⟨hvio, hvsd, hvsdt, hvana⟩, h0, hpin, hsup, hgood, hshut, hreason⟩ := h
  change execBootRomStart x s = _
  have hrails : railsOk x = true := by simp [railsOk, hvio, hvsd, hvsdt, hvana]
  rw [execBootRomStart, if_pos ⟨h0, by rw [State.porHeld, hpin, hsup]; rfl, hrails, hgood, hshut, hreason⟩]
  rfl

theorem bootRomStart_ignored {x : RomStart} (h : ¬RomMayStart x s) : Ignores (.bootRomStart x) s := by
  refine congrArg Host.Outcome.next (if_neg fun hc => h ?_)
  obtain ⟨h0, hheld, hrails, hgood, hshut, hreason⟩ := hc
  rw [State.porHeld, Bool.or_eq_false_iff] at hheld
  rw [railsOk, Bool.and_eq_true, Bool.and_eq_true, Bool.and_eq_true, decide_eq_true_eq, decide_eq_true_eq, decide_eq_true_eq, decide_eq_true_eq] at hrails
  obtain ⟨⟨⟨hvio, hvsd⟩, hvsdt⟩, hvana⟩ := hrails
  exact ⟨⟨hvio, hvsd, hvsdt, hvana⟩, h0, hheld.1, hheld.2, hgood, hshut, hreason⟩

/-- What a start in S1 leaves, whatever the ROM decides. -/
structure StartsS1 (s t : State) : Prop where
  stage : t.stage = 1
  role : t.role = 0
  minimal : t.minimal = s.minimal
  ser : t.serState = s.serState
  mem : SameMem s t

/-- A start in Minimal Mode with the reason `r` (R447). -/
def StartsMinimal (s : State) (r : Nat) (t : State) : Prop := t.stage = 1 ∧ t.minimal = true ∧ t.getF .PMC_STAGE_REASON 0 = r ∧ t.role = 0 ∧ t.pmc.safSlot = none ∧
  t.serState = s.serState ∧ SameMem s t

/-- What the ROM's steps leave of the state. -/
def startCore (x : State) := (x.mem, x.lost, x.sec, x.gated, x.refOk, x.pmc.porSupply)

/-- The fields that the ROM's decisions write. -/
def decisionNames : List Fld := [.SEC_STAT_LASTRES]

theorem StartsS1.of_kept (h : StartsS1 s u) (hk : KeptBut startCore decisionNames u t) : StartsS1 s t where
  stage := (hk.regs _ (by decide) 0).trans h.stage
  role := (hk.regs _ (by decide) 0).trans h.role
  minimal := (congrArg (· == 1) (hk.regs .PMC_STAGE_MINIMAL (by decide) 0)).trans h.minimal
  ser := (hk.regs _ (by decide) 0).trans h.ser
  mem a := (State.byte_congr (congrArg Prod.fst hk.core) (congrArg (fun c => c.2.1) hk.core) a).trans (h.mem a)

theorem StartsS1.of_mem (h : StartsS1 s u) (hr : t.regs = u.regs) (hm : t.mem = u.mem) (hl : t.lost = u.lost) : StartsS1 s t := by
  have hget (f : Fld) : t.getF f 0 = u.getF f 0 := by rw [State.getF, hr, State.getF]
  exact ⟨(hget _).trans h.stage, (hget _).trans h.role, (congrArg (· == 1) (hget .PMC_STAGE_MINIMAL)).trans h.minimal, (hget _).trans h.ser,
    fun a => (State.byte_congr hm hl a).trans (h.mem a)⟩

/-- Minimal Mode, entered with the reason `r`. -/
def State.minimalFor (s : State) (r : Nat) : State := (s.nameSlot none).enterMinimal r

theorem minimalFor_getF (u : State) (r : Nat) {f : Fld} (h1 : f ≠ .PMC_STAGE_MINIMAL) (h2 : f ≠ .PMC_STAGE_REASON) :
    (u.minimalFor r).getF f 0 = u.getF f 0 :=
  (State.getF_setF_ne _ _ _ _ h2).trans ((State.getF_setF_ne _ _ _ _ h1).trans rfl)

theorem minimalFor_starts {r : Nat} (h : StartsS1 s u) (hr : r < 8) : StartsMinimal s r (u.minimalFor r) := by
  refine ⟨(minimalFor_getF u r (by decide) (by decide)).trans h.stage, ?_, ?_, (minimalFor_getF u r (by decide) (by decide)).trans h.role, rfl,
    (minimalFor_getF u r (by decide) (by decide)).trans h.ser, h.mem⟩
  · rw [State.minimal, State.minimalFor, State.enterMinimal, State.bit_setF_ne _ _ _ _ (by decide), State.bit_setF_same]
    rfl
  · rw [State.minimalFor, State.enterMinimal, State.getF_setF_same, show Fld.PMC_STAGE_REASON.width = 8 from rfl, Nat.mod_eq_of_lt]
    omega

/-! The decisions of the ROM. -/

/-- LASTRES shows the ROM's verifications. -/
def State.romJudged (s : State) : State := s.setF .SEC_STAT_LASTRES 0 s.romResult

/-- The slot that the ROM takes for the start. -/
def State.startSlotSet (s : State) (k : Nat) : State :=
  if k = s.pmc.slot then s.romJudged else (s.romJudged.modPmc (fun q => { q with slot := k })).logEvent .slotSwitch

/-- The start out of slot `k`. -/
def State.startFrom (s : State) (k : Nat) : State :=
  if (s.startSlotSet k).serState = serBoot ∧ (s.startSlotSet k).serOk k = false then (s.startSlotSet k).minimalFor 4
  else ((s.startSlotSet k).nameSlot (some k)).modPmc (fun q => { q with failcnt := q.failcnt + 1 })

theorem romDecide_eq (u : State) : u.romDecide true =
    if u.slotTaken.pmc.mmreq then u.slotTaken.minimalFor 2
    else if 3 ≤ u.slotTaken.pmc.failcnt then u.slotTaken.minimalFor 1
    else if u.slotTaken.keysRevoked then u.slotTaken.minimalFor 6
    else match u.slotTaken.chooseSlot with
      | none => u.slotTaken.romJudged.minimalFor 3
      | some k => u.slotTaken.startFrom k := by
  rw [State.romDecide, if_neg (by decide)]
  unfold State.startFrom State.startSlotSet State.romJudged State.minimalFor State.slotTaken
  dsimp only
  generalize (u.modSec SecSt.levelArb).modPmc PmcSt.startSlot = w
  generalize w.romResult = v
  cases w.chooseSlot <;> rfl

/-- The fields that the entry into S1 writes. -/
def s1Names : List Fld := [.PMC_STAGE_STAGE, .MIR_STAT_ROLE, .PWM_STAT_OWNER, .MIR_STAT_SYNCED]

theorem s1Entered_kept (s : State) : KeptBut startCore s1Names s s.s1Entered :=
  .upd (t := (s.setF .PMC_STAGE_STAGE 0 1).setRole roleSingle)
    (.setWhen (.setF (.setF (.setF (.refl s) (by decide)) (by decide)) (by decide)) (by decide)) rfl rfl

theorem setRole_getF (s : State) (r : Nat) {f : Fld} (h1 : f ≠ .PWM_STAT_OWNER) (h2 : f ≠ .MIR_STAT_SYNCED) :
    (s.setRole r).getF f 0 = (s.setF .MIR_STAT_ROLE 0 r).getF f 0 :=
  (State.getF_setWhen_ne _ _ _ _ _ h2).trans (State.getF_setF_ne _ _ _ _ h1)

theorem s1Entered_starts (s : State) : StartsS1 s s.s1Entered where
  stage := ((setRole_getF _ _ (by decide) (by decide)).trans (State.getF_setF_ne _ _ _ _ (by decide))).trans (State.getF_setF_same _ _ _ _)
  role := (setRole_getF _ _ (by decide) (by decide)).trans (State.getF_setF_same _ _ _ _)
  minimal := (s1Entered_kept s).bit (by decide) 0
  ser := (s1Entered_kept s).regs _ (by decide) 0
  mem a := State.byte_congr (congrArg Prod.fst (s1Entered_kept s).core) (congrArg (fun c => c.2.1) (s1Entered_kept s).core) a

/-- What the ROM's decisions begin with. -/
theorem romBegun_spec (s : State) : StartsS1 s s.romBegun ∧ s.romBegun.sec = s.sec ∧ s.romBegun.pmc = { s.pmc with vio := true } ∧
    s.romBegun.challenge = s.challenge := by
  have hk : KeptBut pllCore romNames s.s1Entered s.romBegun := romTables_kept s.s1Entered
  have hs := s1Entered_starts s
  have hmem : s.romBegun.mem = s.s1Entered.mem := congrArg Prod.fst hk.core
  have hlost : s.romBegun.lost = s.s1Entered.lost := congrArg (fun c => c.2.1) hk.core
  refine ⟨⟨(hk.regs _ (by decide) 0).trans hs.stage, (hk.regs _ (by decide) 0).trans hs.role,
    (hk.bit (f := .PMC_STAGE_MINIMAL) (by decide) 0).trans hs.minimal, (hk.regs _ (by decide) 0).trans hs.ser,
    fun a => (State.byte_congr hmem hlost a).trans (hs.mem a)⟩, ?_, ?_, ?_⟩
  · exact congrArg (fun c => c.2.2.2.2.2.2.1) hk.core
  · exact congrArg (fun c => c.2.2.2.2.2.1) hk.core
  · have hget (k : Nat) : s.romBegun.getF .DBG_CHAL_CHAL k = s.getF .DBG_CHAL_CHAL k := (hk.regs _ (by decide) k).trans ((s1Entered_kept s).regs _ (by decide) k)
    simp only [State.challenge, hget]

/-- Two starts with one security record and one start record judge alike. -/
theorem slotTaken_judges {v : Bool} (hsec : u.sec = s.sec) (hpmc : u.pmc = { s.pmc with vio := v }) (hchal : u.challenge = s.challenge) (hmem : SameMem s u) :
    JudgesAs s.slotTaken u.slotTaken := by
  have hs : u.slotTaken.sec = s.slotTaken.sec := congrArg SecSt.levelArb hsec
  have hc : u.slotTaken.challenge = s.slotTaken.challenge := hchal
  refine ⟨secCheck_congr (congrArg SecSt.slots hs) (congrArg SecSt.chalOk hs) hc fun ty => ?_, hmem, ?_⟩
  · unfold State.floorOf
    rw [hs]
  · change u.pmc.startSlot.slot = s.pmc.startSlot.slot
    rw [hpmc, startSlot_vio]

theorem romBegun_acq {k : Fin 4} (hsup : s.pmc.porSupply = false) (hg : s.gated.getLsbD k = true) (hr : s.refOk = true) :
    (s.romBegun.bandOf k).isSome = true → s.romBegun.bit .CLK_PLL_STAT_ACQ k = true := by
  have hentered := (s1Entered_kept s).core
  have hgate : s.s1Entered.gated = s.gated := congrArg (fun c => c.2.2.2.1) hentered
  have href : s.s1Entered.refOk = s.refOk := congrArg (fun c => c.2.2.2.2.1) hentered
  have hpor : s.s1Entered.pmc.porSupply = s.pmc.porSupply := congrArg (fun c => c.2.2.2.2.2) hentered
  exact romTables_acq (s := s.s1Entered) (by rw [hgate]; exact hg) (href.trans hr) (by rw [State.aonRuns, hpor, hsup]; rfl)

/-- The ROM judges as the state at the start does with the start record's slot. -/
theorem romBegun_judges (s : State) : JudgesAs s.slotTaken s.romBegun.slotTaken := by
  obtain ⟨hstart, hsec, hpmc, hchal⟩ := romBegun_spec s
  exact slotTaken_judges hsec hpmc hchal hstart.mem

/-- The floors' copies and the start record leave the judgement as it is. -/
theorem slotTaken_check (s : State) : s.slotTaken.secCheck = s.secCheck :=
  secCheck_congr rfl rfl rfl (floorOf_level s)

theorem slotTaken_pmc {v : Bool} (hpmc : u.pmc = { s.pmc with vio := v }) :
    u.slotTaken.pmc.failcnt = s.pmc.failcnt ∧ u.slotTaken.pmc.mmreq = s.pmc.mmreq := by
  have h : u.slotTaken.pmc = u.pmc.startSlot := rfl
  obtain ⟨hcnt, hreq⟩ := startSlot_keeps u.pmc
  rw [h, hcnt, hreq, hpmc]
  exact ⟨rfl, rfl⟩

theorem slotTaken_revoked (hsec : u.sec = s.sec) : u.slotTaken.keysRevoked = s.keysRevoked := by
  have h : u.slotTaken.sec.slots = u.sec.slots := rfl
  rw [State.keysRevoked, h, hsec, State.keysRevoked]

theorem slotTaken_getF (u : State) (f : Fld) (i : Nat) : u.slotTaken.getF f i = u.getF f i := rfl

theorem slotTaken_starts (h : StartsS1 s u) : StartsS1 s u.slotTaken := h.of_mem rfl rfl rfl

theorem romJudged_kept (u : State) : KeptBut startCore decisionNames u u.romJudged := by
  unfold State.romJudged
  generalize u.romResult = v
  exact .setF (.refl u) (by decide)

theorem startSlotSet_kept (u : State) (k : Nat) : KeptBut startCore decisionNames u (u.startSlotSet k) := by
  have h := romJudged_kept u
  unfold State.startSlotSet
  generalize u.romJudged = w at *
  exact .ite h (h.upd rfl rfl)

theorem startSlotSet_failcnt (u : State) (k : Nat) : (u.startSlotSet k).pmc.failcnt = u.pmc.failcnt := by
  unfold State.startSlotSet State.romJudged
  generalize u.romResult = v
  split <;> rfl

theorem romJudged_lastres (u : State) : u.romJudged.getF .SEC_STAT_LASTRES 0 = u.romResult % 16 := State.getF_setF_same _ _ _ _

theorem startSlotSet_lastres (u : State) (k : Nat) : (u.startSlotSet k).getF .SEC_STAT_LASTRES 0 = u.romResult % 16 := by
  have h := romJudged_lastres u
  unfold State.startSlotSet
  generalize u.romJudged = w at *
  split <;> exact h

/-- The slot that the ROM takes has passed. -/
theorem romResult_chosen {j : Nat} (h : u.chooseSlot = some j) : u.romResult = 0 := by
  unfold State.chooseSlot at h
  unfold State.romResult
  split at h
  next hok => exact if_pos hok
  next hno =>
    split at h
    next hok =>
      rw [if_neg hno]
      exact beq_iff_eq.1 hok
    · cases h

theorem romResult_none (h : u.chooseSlot = none) : u.romResult = u.stationCode (1 - u.pmc.slot) := by
  unfold State.chooseSlot at h
  unfold State.romResult
  split at h
  next => cases h
  next hno => exact if_neg hno

/-- What the ROM has written is not what it judges by. -/
theorem startSlotSet_judges (u : State) (k : Nat) : (u.startSlotSet k).serOk k = u.serOk k := by
  have hk := startSlotSet_kept u k
  have hsec : (u.startSlotSet k).sec = u.sec := congrArg (fun c => c.2.2.1) hk.core
  have hget (j : Nat) : (u.startSlotSet k).getF .DBG_CHAL_CHAL j = u.getF .DBG_CHAL_CHAL j := hk.regs _ (by decide) j
  have hmem : SameMem u (u.startSlotSet k) := State.byte_congr (congrArg Prod.fst hk.core) (congrArg (fun c => c.2.1) hk.core)
  have hcheck : (u.startSlotSet k).secCheck = u.secCheck := by
    refine secCheck_congr (by rw [hsec]) (by rw [hsec]) (by simp only [State.challenge, hget]) fun ty => ?_
    unfold State.floorOf
    rw [hsec]
  rw [State.serOk, State.serObj, hcheck, objectAt_congr hmem, State.serOk, State.serObj]

theorem startSlotSet_slot (u : State) (k : Nat) : (u.startSlotSet k).pmc.slot = k := by
  unfold State.startSlotSet
  split
  next h => exact h.symm
  · rfl

/-! What the start answers. -/

theorem rom_mramFails {x : RomStart} (h : RomMayStart x s) (hm : x.mramOk = false) : Answers (.bootRomStart x) s (StartsMinimal s 5) := by
  have hexec := bootRomStart_exec h
  obtain ⟨hstart, -, -, -⟩ := romBegun_spec s
  rw [hm, State.romDecide, if_pos (by decide)] at hexec
  generalize s.romBegun = u at *
  exact ⟨_, hexec, minimalFor_starts (u := u.modSec SecSt.levelArb) (hstart.of_mem rfl rfl rfl) (by decide)⟩

/-- The SER object of the chosen slot is judged as it stands. -/
theorem rom_serOk (s : State) (j : Nat) : (s.romBegun.slotTaken.startSlotSet j).serOk j = s.serOk j := by
  have hmem : SameMem s s.slotTaken := fun _ => rfl
  rw [startSlotSet_judges, (romBegun_judges s).serOk, State.serOk, State.serObj, slotTaken_check, objectAt_congr hmem, State.serOk, State.serObj]

section
variable {x : RomStart} (h : RomMayStart x s) (hm : x.mramOk = true)
include h hm

theorem rom_button (hreq : s.pmc.mmreq = true) : Answers (.bootRomStart x) s (StartsMinimal s 2) := by
  have hexec := bootRomStart_exec h
  obtain ⟨hstart, -, hpmc, -⟩ := romBegun_spec s
  rw [hm, romDecide_eq, if_pos ((slotTaken_pmc hpmc).2.trans hreq)] at hexec
  exact ⟨_, hexec, minimalFor_starts (slotTaken_starts hstart) (by decide)⟩

theorem rom_failedStarts (hreq : s.pmc.mmreq = false) (hcnt : 3 ≤ s.pmc.failcnt) : Answers (.bootRomStart x) s (StartsMinimal s 1) := by
  have hexec := bootRomStart_exec h
  obtain ⟨hstart, -, hpmc, -⟩ := romBegun_spec s
  obtain ⟨hfail, hmm⟩ := slotTaken_pmc hpmc
  rw [hm, romDecide_eq, hmm, hreq, if_neg (by decide), hfail, if_pos hcnt] at hexec
  exact ⟨_, hexec, minimalFor_starts (slotTaken_starts hstart) (by decide)⟩

theorem rom_revoked (hreq : s.pmc.mmreq = false) (hcnt : s.pmc.failcnt < 3) (hkeys : s.keysRevoked = true) :
    Answers (.bootRomStart x) s (StartsMinimal s 6) := by
  have hexec := bootRomStart_exec h
  obtain ⟨hstart, hsec, hpmc, -⟩ := romBegun_spec s
  obtain ⟨hfail, hmm⟩ := slotTaken_pmc hpmc
  rw [hm, romDecide_eq, hmm, hreq, if_neg (by decide), hfail, if_neg (Nat.not_le.2 hcnt), slotTaken_revoked hsec, if_pos hkeys] at hexec
  exact ⟨_, hexec, minimalFor_starts (slotTaken_starts hstart) (by decide)⟩

/-- With the start record and the keys in order the firmware decides. -/
theorem rom_chooses (hreq : s.pmc.mmreq = false) (hcnt : s.pmc.failcnt < 3) (hkeys : s.keysRevoked = false) :
    exec (.bootRomStart x) s = .next (match s.slotTaken.chooseSlot with
      | none => s.romBegun.slotTaken.romJudged.minimalFor 3
      | some k => s.romBegun.slotTaken.startFrom k) := by
  have hexec := bootRomStart_exec h
  obtain ⟨-, hsec, hpmc, -⟩ := romBegun_spec s
  obtain ⟨hfail, hmm⟩ := slotTaken_pmc hpmc
  rw [hm, romDecide_eq, hmm, hreq, if_neg (by decide), hfail, if_neg (Nat.not_le.2 hcnt), slotTaken_revoked hsec, hkeys, if_neg (by decide),
    (romBegun_judges s).chooseSlot] at hexec
  exact hexec

theorem rom_noFirmware (hreq : s.pmc.mmreq = false) (hcnt : s.pmc.failcnt < 3) (hkeys : s.keysRevoked = false) (hnone : s.slotTaken.chooseSlot = none) :
    Answers (.bootRomStart x) s (fun t => StartsMinimal s 3 t ∧ t.getF .SEC_STAT_LASTRES 0 = s.slotTaken.stationCode (1 - s.slotTaken.pmc.slot) % 16) := by
  have hexec := rom_chooses h hm hreq hcnt hkeys
  obtain ⟨hstart, -, -, -⟩ := romBegun_spec s
  have hjudge := romBegun_judges s
  rw [hnone] at hexec
  refine ⟨_, hexec, minimalFor_starts ((slotTaken_starts hstart).of_kept (romJudged_kept _)) (by decide), ?_⟩
  have hres := romResult_none (hjudge.chooseSlot.trans hnone)
  rw [hjudge.slot, hjudge.code] at hres
  rw [← hres]
  exact (minimalFor_getF _ 3 (by decide) (by decide)).trans (romJudged_lastres _)

theorem rom_safInvalid {j : Nat} (hreq : s.pmc.mmreq = false) (hcnt : s.pmc.failcnt < 3) (hkeys : s.keysRevoked = false)
    (hj : s.slotTaken.chooseSlot = some j) (h0 : s.serState = 0) (hbad : s.serOk j = false) : Answers (.bootRomStart x) s (StartsMinimal s 4) := by
  have hexec := rom_chooses h hm hreq hcnt hkeys
  obtain ⟨hstart, -, -, -⟩ := romBegun_spec s
  have hu := (slotTaken_starts hstart).of_kept (startSlotSet_kept _ j)
  have hok := rom_serOk s j
  rw [hj] at hexec
  dsimp only at hexec
  unfold State.startFrom at hexec
  generalize s.romBegun.slotTaken.startSlotSet j = u at *
  rw [if_pos ⟨hu.ser.trans h0, hok.trans hbad⟩] at hexec
  exact ⟨_, hexec, minimalFor_starts hu (by decide)⟩

/-- What a start out of slot `j` shows. -/
def StartsFrom (s : State) (j : Nat) (t : State) : Prop := t.stage = 1 ∧ t.minimal = s.minimal ∧ t.pmc.slot = j ∧ t.pmc.safSlot = some j ∧
  t.pmc.failcnt = s.pmc.failcnt + 1 ∧ t.role = 0 ∧ t.getF .SEC_STAT_LASTRES 0 = 0 ∧
  (∀ k : Fin 4, s.gated.getLsbD k = true → s.refOk = true → (t.bandOf k).isSome = true → t.bit .CLK_PLL_STAT_ACQ k = true) ∧ SameMem s t

theorem rom_starts {j : Nat} (hreq : s.pmc.mmreq = false) (hcnt : s.pmc.failcnt < 3) (hkeys : s.keysRevoked = false)
    (hj : s.slotTaken.chooseSlot = some j) (hser : s.serState ≠ 0 ∨ s.serOk j = true) : Answers (.bootRomStart x) s (StartsFrom s j) := by
  have hexec := rom_chooses h hm hreq hcnt hkeys
  obtain ⟨hstart, -, hpmc, -⟩ := romBegun_spec s
  have hu := (slotTaken_starts hstart).of_kept (startSlotSet_kept _ j)
  have hok := rom_serOk s j
  have hslot := startSlotSet_slot s.romBegun.slotTaken j
  have hfail := (startSlotSet_failcnt s.romBegun.slotTaken j).trans (slotTaken_pmc hpmc).1
  have hres := startSlotSet_lastres s.romBegun.slotTaken j
  rw [romResult_chosen ((romBegun_judges s).chooseSlot.trans hj)] at hres
  have hget {f : Fld} (hf : f ∉ decisionNames) (i : Nat) : (s.romBegun.slotTaken.startSlotSet j).getF f i = s.romBegun.getF f i :=
    ((startSlotSet_kept s.romBegun.slotTaken j).regs f hf i).trans (slotTaken_getF _ f i)
  have hacq (k : Fin 4) := romBegun_acq (k := k) h.2.2.2.1
  rw [hj] at hexec
  dsimp only at hexec
  unfold State.startFrom at hexec
  generalize s.romBegun = w at *
  generalize w.slotTaken.startSlotSet j = u at *
  have hband (k : Fin 4) : ((u.nameSlot (some j)).modPmc (fun q => { q with failcnt := q.failcnt + 1 })).bandOf k = w.bandOf k := by
    have hbit (i : Nat) : u.bit .CLK_PLL_BAND_VALID i = w.bit .CLK_PLL_BAND_VALID i := congrArg (· == 1) (hget (by decide) i)
    have hv : u.bandOf k = w.bandOf k := by
      rw [State.bandOf, State.bandOf]
      simp only [hbit, hget (f := .CLK_PLL_BAND_FLO) (by decide), hget (f := .CLK_PLL_BAND_FHI) (by decide)]
    exact hv
  rw [if_neg fun hc => hser.elim (fun hne => hne (hu.ser.symm.trans hc.1)) fun hyes => by rw [hok, hyes] at hc; exact absurd hc.2 (by decide)] at hexec
  refine ⟨_, hexec, hu.stage, hu.minimal, hslot, rfl, congrArg (· + 1) hfail, hu.role, hres, fun k hg hr hb => ?_, hu.mem⟩
  rw [hband] at hb
  exact (congrArg (· == 1) (hget (f := .CLK_PLL_STAT_ACQ) (by decide) k)).trans (hacq k hg hr hb)

end

end

end Sys2Proof.Machine
end

section
/-! The stages from S1 on: the start of the firmware, S3, the start record, arming and disarming (R435, R441, R442, R445, R475, R476). -/
namespace Sys2Proof.Machine

-- The proofs one after another: all at once they would need more threads, and their stacks, than the check's memory holds.
set_option Elab.async false

section
variable {s t : State}

/-! The firmware's start, S3, and the start record. -/

/-- The state in which the firmware starts. -/
def State.firmwareBegun (s : State) : State := { s with
  pmc := { s.pmc with s2At := s.tick }, jnl := { s.jnl with hcmdUsed := s.jnl.hcmdPort, scanned := false },
  sec := { s.sec with runFw := objArb (s.stationObj s.pmc.slot), fwHash := objPhash (s.stationObj s.pmc.slot) } }

theorem firmwareStart_eq (s : State) : s.firmwareStart = s.firmwareBegun.setAll [(.PMC_STAGE_STAGE, 0, 2), (.JNL_STAT_REPLAYING, 0, 1), (.JNL_STAT_ENST, 0, 1)] := by
  unfold State.firmwareStart State.firmwareBegun
  generalize s.stationObj s.pmc.slot = o
  rfl

theorem firmwareStart_clause (h1 : s.stage = 1) (hmin : s.minimal = false) (hrun : s.coresRun = true) :
    SetsOn .firmwareStart s s.firmwareBegun [(.PMC_STAGE_STAGE, 0, 2), (.JNL_STAT_REPLAYING, 0, 1), (.JNL_STAT_ENST, 0, 1)] := by
  have hexec : exec .firmwareStart s = .next s.firmwareStart := congrArg Host.Outcome.next (if_pos ⟨h1, hmin, hrun⟩)
  rw [firmwareStart_eq] at hexec
  have hregs : s.firmwareBegun.regs = s.regs := by
    unfold State.firmwareBegun
    generalize s.stationObj s.pmc.slot = o
    rfl
  generalize s.firmwareBegun = w at *
  exact .of_setAll hexec (writtenKeys_nodup (by simp)) (by simp; decide) hregs

theorem stageS3Entry_enters (h2 : s.stage = 2) (hrun : s.coresRun = true) (hany : s.pmc.actAny = true) (hdue : s.pmc.actDue = 0#24) (hbusy : s.actBusy = false) :
    Sets .stageS3Entry s [(.PMC_STAGE_STAGE, 0, 3)] :=
  .one (congrArg Host.Outcome.next (if_pos ⟨h2, hrun, hany, hdue, hbusy⟩)) (by decide)

theorem stageS3Entry_ignored (h : s.stage ≠ 2 ∨ s.pmc.actAny = false ∨ s.pmc.actDue ≠ 0#24 ∨ s.actBusy = true) : Ignores .stageS3Entry s := by
  refine congrArg Host.Outcome.next (if_neg ?_)
  rintro ⟨h2, -, hany, hdue, hbusy⟩
  rcases h with h | h | h | h
  · exact h h2
  · exact absurd (hany.symm.trans h) (by decide)
  · exact h hdue
  · exact absurd (hbusy.symm.trans h) (by decide)

theorem startOk_clause (h2 : 2 ≤ s.stage) : Answers .startOk s (fun t => t = { s.passTo (s.pmc.s2At + max 1 (s.getF .PMC_START_STARTOK 0) * 400000000) with
    pmc := { s.pmc with failcnt := 0, trial := false, trialBegun := false },
    sec := { s.sec with arbFw := ⟨s.sec.arbFw.fuses, max s.sec.arbFw.mirror (min 63 s.sec.runFw)⟩,
                        arbSer := ⟨s.sec.arbSer.fuses, max s.sec.arbSer.mirror (min 63 s.sec.runSer)⟩ } }) := by
  have hexec : exec .startOk s = execStartOk s := rfl
  rw [execStartOk, if_pos h2] at hexec
  refine ⟨_, hexec, ?_⟩
  rw [State.startOk, show second = 400000000 from rfl]
  generalize s.pmc.s2At + max 1 (s.getF .PMC_START_STARTOK 0) * 400000000 = d
  have hframe := s.passTo_frame d
  have hpmc : (s.passTo d).pmc = s.pmc := (congrArg State.pmc hframe).trans rfl
  have hsec : (s.passTo d).sec = s.sec := (congrArg State.sec hframe).trans rfl
  rw [State.modSec, State.modPmc, hpmc, hsec]
  rfl

/-! The conditions of arming. -/

/-- Every condition of R442, FREEOK as it stands. -/
def State.mayArm (s : State) : Prop := s.stage = 3 ∧ s.minimal = false ∧ s.bit .VREG_STAT_PGOOD 0 = true ∧ s.bit .THERM_STAT_BLKREQ 0 = false ∧ s.serState = 5 ∧
  s.mstate = false ∧ s.unresolved = false ∧ s.atuOn = true ∧ s.fretOn = true ∧ s.modOn = true ∧
  (s.bit .ATU_STAT_LOCKED 0 = true ∨ (s.src = 2 ∧ s.bit .PMC_ARM_FREEOK 0 = true) ∨ ((s.role = 1 ∨ s.role = 2) ∧ s.bit .MIR_STAT_SYNCED 0 = true))

theorem armBlock_le (s : State) : s.armBlock ≤ 8 := by
  unfold State.armBlock
  dsimp only
  split_ifs <;> decide

/-- The word shows no condition where all hold, and there alone. -/
theorem armBlock_eq_zero : s.armBlock = 0 ↔ s.mayArm := by
  have hlock : (s.bit .ATU_STAT_LOCKED 0 || ((s.src == srcFree && s.bit .PMC_ARM_FREEOK 0) ||
      ((s.role == roleJoining || s.role == roleStandby) && s.bit .MIR_STAT_SYNCED 0))) = true ↔
      s.bit .ATU_STAT_LOCKED 0 = true ∨ (s.src = 2 ∧ s.bit .PMC_ARM_FREEOK 0 = true) ∨ ((s.role = 1 ∨ s.role = 2) ∧ s.bit .MIR_STAT_SYNCED 0 = true) := by
    simp only [Bool.or_eq_true, Bool.and_eq_true, beq_iff_eq]
    rfl
  unfold State.armBlock State.mayArm
  rw [← hlock]
  dsimp only
  generalize (s.bit .ATU_STAT_LOCKED 0 || ((s.src == srcFree && s.bit .PMC_ARM_FREEOK 0) ||
      ((s.role == roleJoining || s.role == roleStandby) && s.bit .MIR_STAT_SYNCED 0))) = locked
  constructor
  · intro h
    split_ifs at h with h1 h2 h3 h4 h5 h6 h7 h8
    rw [not_or, not_not, Bool.not_eq_true] at h1
    rw [Bool.not_eq_true', Bool.not_eq_false] at h2 h7 h8
    rw [Bool.and_eq_true, Bool.and_eq_true] at h7
    exact ⟨h1.1, h1.2, h2, Bool.eq_false_of_not_eq_true h3, not_not.1 h4, Bool.eq_false_of_not_eq_true h5, Bool.eq_false_of_not_eq_true h6, h7.1.1, h7.1.2, h7.2, h8⟩
  · rintro ⟨hstage, hmin, hgood, hblk, hser, hmute, hunres, hatu, hfret, hmod, hlocked⟩
    rw [if_neg (by rw [hstage, hmin]; decide), hgood, hblk, if_neg (by decide), if_neg (by decide), if_neg (show ¬s.serState ≠ serPermit from not_not.2 hser), hmute, hunres, if_neg (by decide),
      if_neg (by decide), hatu, hfret, hmod, hlocked, if_neg (by decide), if_neg (by decide)]

/-- The FREEOK of the same write is what arming reads. -/
theorem mayArm_freeok (s : State) (freeok : Bool) : (s.setBit .PMC_ARM_FREEOK 0 freeok).mayArm ↔
    s.stage = 3 ∧ s.minimal = false ∧ s.bit .VREG_STAT_PGOOD 0 = true ∧ s.bit .THERM_STAT_BLKREQ 0 = false ∧ s.serState = 5 ∧ s.mstate = false ∧
    s.unresolved = false ∧ s.atuOn = true ∧ s.fretOn = true ∧ s.modOn = true ∧
    (s.bit .ATU_STAT_LOCKED 0 = true ∨ (s.src = 2 ∧ freeok = true) ∨ ((s.role = 1 ∨ s.role = 2) ∧ s.bit .MIR_STAT_SYNCED 0 = true)) := by
  have hget {f : Fld} (hf : f ≠ .PMC_ARM_FREEOK) (i : Nat) : (s.setBit .PMC_ARM_FREEOK 0 freeok).getF f i = s.getF f i := State.getF_setF_ne _ _ _ _ hf
  have hbit {f : Fld} (hf : f ≠ .PMC_ARM_FREEOK) (i : Nat) : (s.setBit .PMC_ARM_FREEOK 0 freeok).bit f i = s.bit f i := congrArg (· == 1) (hget hf i)
  have hfree : (s.setBit .PMC_ARM_FREEOK 0 freeok).bit .PMC_ARM_FREEOK 0 = freeok := by
    rw [State.setBit, State.bit_setF_same]
    cases freeok <;> rfl
  have hunres : (s.setBit .PMC_ARM_FREEOK 0 freeok).unresolved = s.unresolved := by
    simp only [State.unresolved, hbit (f := .TRIP_ROUTE_MUTE) (by decide), hget (f := .TRIP_ROUTE_FG) (by decide),
      hget (f := .CMP_STATUS_STATE) (by decide), hget (f := .TPIN_STATUS_STATE) (by decide)]
  generalize s.setBit .PMC_ARM_FREEOK 0 freeok = u at *
  simp only [State.mayArm, hunres, hfree, State.stage, State.minimal, State.serState, State.mstate, State.atuOn, State.fretOn, State.modOn, State.src, State.role,
    hget (f := .PMC_STAGE_STAGE) (by decide), hbit (f := .PMC_STAGE_MINIMAL) (by decide), hbit (f := .VREG_STAT_PGOOD) (by decide),
    hbit (f := .THERM_STAT_BLKREQ) (by decide), hget (f := .SER_STAT_STATE) (by decide), hbit (f := .TRIP_STAT_MSTATE) (by decide),
    hget (f := .ATU_STAT_ENST) (by decide), hget (f := .FRET_STAT_ENST) (by decide), hget (f := .MOD_STAT_ENST) (by decide),
    hbit (f := .ATU_STAT_LOCKED) (by decide), hget (f := .ATU_STAT_SRC) (by decide), hget (f := .MIR_STAT_ROLE) (by decide), hbit (f := .MIR_STAT_SYNCED) (by decide)]

theorem arm_refused (freeok : Bool) (hrun : s.coresRun = true) (h : ¬(s.setBit .PMC_ARM_FREEOK 0 freeok).mayArm) :
    let b := (s.setBit .PMC_ARM_FREEOK 0 freeok).armBlock
    0 < b ∧ b ≤ 8 ∧ Sets (.arm freeok) s [(.PMC_ARM_FREEOK, 0, b2n freeok), (.PMC_ARM_BLK, 0, b), (.PMC_ARM_ARMERR, 0, 1)] := by
  intro b
  have hb : b ≠ 0 := fun h0 => h (armBlock_eq_zero.1 h0)
  have hle : b ≤ 8 := armBlock_le _
  refine ⟨Nat.pos_of_ne_zero hb, hle, .of_setAll (s' := s) ?_ (writtenKeys_nodup (by simp)) ?_ rfl⟩
  · change execArm freeok s = _
    rw [execArm, if_pos hrun, State.armDevice]
    exact congrArg Host.Outcome.next (if_pos hb)
  · simp only [writesFit_cons, writesFit_nil, and_true]
    refine ⟨Fld.b2n_lt _ _, ?_, by decide⟩
    rw [show Fld.PMC_ARM_BLK.width = 4 from rfl]
    omega

/-! The entry into S4 (R213, R442). -/

/-- What the entry into S4 leaves beside the registers, the lanes and the mirror group. -/
def s4Core (x : State) : State :=
  { x with regs := [], lanes := Vector.replicate 96 {}, ml := Vector.replicate 4 {}, mlOrdered := false, twin := {} }

/-- The fields that a lane's state moves as it enters S4. -/
def s4Names : List Fld := [.CL_PHYSTAT_LSTATE, .CL_DELAY_VALID, .CL_DELAY_DLY, .CL_PHYSTAT_RXINVST, .CLG_CTRL_CLRGO, .CLG_STAT_CLRDONE, .CL_PHYCTRL_EIREQ,
  .ML_PHYSTAT_LSTATE, .ML_PHYSTAT_RXINVST, .MIR_LANEMAP_UP, .MIR_STAT_MIRUP, .MIR_DELAY_VALID, .MIR_DELAY_DLY, .MIR_CTRL_HANDOVER, .MIR_STAT_HOERR]

/-- The fields of the patterns. -/
def s4Patterns : List Fld := [.CL_PATCTRL_GENEN, .CL_PATCTRL_LOOP, .ML_PATCTRL_GENEN, .ML_PATCTRL_LOOP]

theorem KeptBut.of_alone {n : Fin 96} {l : List (Fld × Nat)} (h : LaneAlone n l s t) (hl : ∀ e ∈ l, e.1 ∈ s4Names) : KeptBut s4Core s4Names s t :=
  .of_regsBut ((congrArg s4Core h.frame).trans rfl) h.regs hl

theorem lstateFields_s4 (n : Fin 96) : ∀ e ∈ lstateFields n ++ [], e.1 ∈ s4Names := by
  rw [List.append_nil]
  simp [lstateFields, s4Names]

theorem setLstate_s4 (x : State) (n : Fin 96) (v : Nat) : KeptBut s4Core s4Names x (x.setLstate n v) :=
  .of_alone (State.setLstate_alone x n v) (by simp [setLstateFields, s4Names])

theorem train_s4 (x : State) (n : Fin 96) : KeptBut s4Core s4Names x (x.train n) := .of_alone (EntersState.alone (x.train_spec n).1) (lstateFields_s4 n)

theorem laneTested_s4 (x : State) (n : Fin 96) : KeptBut s4Core s4Names x (x.laneTested n) := .of_alone (EntersState.alone (x.laneTested_spec n)) (lstateFields_s4 n)

theorem eireqClear_s4 (x : State) (n : Fin 96) : KeptBut s4Core s4Names x (x.eireqClear n) := by
  have hset : KeptBut s4Core s4Names x (x.setF .CL_PHYCTRL_EIREQ n 0) := .setF (.refl x) (by decide)
  unfold State.eireqClear State.exitIdle State.exitLater
  generalize x.setF .CL_PHYCTRL_EIREQ n 0 = y at *
  exact .ite (.ite (hset.trans (setLstate_s4 y n _)) (hset.trans (train_s4 y n))) (.ite (hset.upd rfl rfl) hset)

/-- The patterns of lane `n` are off. -/
def State.laneQuiet (x : State) (n : Fin 96) : State := (x.setF .CL_PATCTRL_GENEN n 0).setF .CL_PATCTRL_LOOP n 0

theorem laneEnterS4_s4 (x : State) (n : Fin 96) : KeptBut s4Core s4Names (x.laneQuiet n) (x.laneEnterS4 n) := by
  have heq : x.laneEnterS4 n = if x.lstate n == lsTest then (x.laneQuiet n).testFollow (.lane n)
    else if x.lstate n == lsEidle then (x.laneQuiet n).eireqClear n else x.laneQuiet n := rfl
  rw [heq, State.testFollow_lane]
  generalize x.laneQuiet n = y
  exact .ite (.ite (laneTested_s4 y n) (.ite (train_s4 y n) (.refl y))) (.ite (eireqClear_s4 y n) (.refl y))

theorem mirTrain_s4 (x : State) : KeptBut s4Core s4Names x x.mirTrain := by
  obtain ⟨-, -, -, -, -, -, hframe, hregs⟩ := x.mirTrain_spec
  exact .of_regsBut ((congrArg s4Core hframe).trans rfl) hregs (by rw [List.append_nil]; decide)

/-- The patterns of mirror lane `m` are off. -/
def State.mlQuiet (x : State) (m : Fin 4) : State := (x.setF .ML_PATCTRL_GENEN m 0).setF .ML_PATCTRL_LOOP m 0

theorem mirFollow_s4 (x : State) (m : Fin 4) : KeptBut s4Core s4Names x (x.testFollow (.mirror m)) := by
  rw [State.testFollow_mirror]
  exact .ite (.setF (.ite (mirTrain_s4 x) (.refl x)) (by decide)) (.ite (.ite (.setF (.refl x) (by decide)) (mirTrain_s4 x)) (.refl x))

/-- Field `f` off, at every index that had it off and at `i` (R213). -/
theorem getF_cleared (x : State) (f : Fld) (i j : Nat) (h : x.getF f j = 0 ∨ j = i) : (x.setF f i 0).getF f j = 0 := by
  rw [State.getF_setF]
  split
  · exact Nat.zero_mod _
  next hne => exact h.resolve_right fun he => hne (he ▸ rfl)

theorem laneQuiet_off (x : State) (m : Fin 96) (j : Nat) (h : (x.getF .CL_PATCTRL_GENEN j = 0 ∧ x.getF .CL_PATCTRL_LOOP j = 0) ∨ j = m) :
    (x.laneQuiet m).getF .CL_PATCTRL_GENEN j = 0 ∧ (x.laneQuiet m).getF .CL_PATCTRL_LOOP j = 0 := by
  refine ⟨(State.getF_setF_ne _ _ _ _ (by decide)).trans (getF_cleared _ _ _ _ (h.imp_left And.left)), getF_cleared _ _ _ _ (h.imp_left fun h' => ?_)⟩
  exact (State.getF_setF_ne _ _ _ _ (by decide)).trans h'.2

theorem mlQuiet_off (x : State) (m : Fin 4) (j : Nat) (h : (x.getF .ML_PATCTRL_GENEN j = 0 ∧ x.getF .ML_PATCTRL_LOOP j = 0) ∨ j = m) :
    (x.mlQuiet m).getF .ML_PATCTRL_GENEN j = 0 ∧ (x.mlQuiet m).getF .ML_PATCTRL_LOOP j = 0 := by
  refine ⟨(State.getF_setF_ne _ _ _ _ (by decide)).trans (getF_cleared _ _ _ _ (h.imp_left And.left)), getF_cleared _ _ _ _ (h.imp_left fun h' => ?_)⟩
  exact (State.getF_setF_ne _ _ _ _ (by decide)).trans h'.2

/-- The lanes as they enter S4. -/
def State.lanesS4 (x : State) : State := forIdx (n := 96) (fun n t => t.laneEnterS4 n) x

theorem lanesS4_kept (x : State) : KeptBut s4Core (s4Names ++ s4Patterns) x x.lanesS4 :=
  .forIdx (.refl x) fun y n hy => (KeptBut.setF (KeptBut.setF hy (by decide)) (by decide)).trans ((laneEnterS4_s4 y n).mono (List.subset_append_left _ _) id)

theorem lanesS4_off (x : State) (n : Fin 96) : x.lanesS4.getF .CL_PATCTRL_GENEN n = 0 ∧ x.lanesS4.getF .CL_PATCTRL_LOOP n = 0 := by
  refine forIdx_establish (P := fun _ => True) (Q := fun y => y.getF .CL_PATCTRL_GENEN n = 0 ∧ y.getF .CL_PATCTRL_LOOP n = 0) n trivial (fun _ _ _ => trivial)
    (fun y m _ hq => ?_) fun y _ => ?_
  · have h := laneEnterS4_s4 y m
    rw [h.regs _ (by decide), h.regs _ (by decide)]
    exact laneQuiet_off y m n (.inl hq)
  · have h := laneEnterS4_s4 y n
    rw [h.regs _ (by decide), h.regs _ (by decide)]
    exact laneQuiet_off y n n (.inr rfl)

/-- The fields that the mirror's lanes move as they enter S4. -/
def mirS4Names : List Fld := s4Names ++ [.ML_PATCTRL_GENEN, .ML_PATCTRL_LOOP]

theorem mirEnterS4_kept (x : State) : KeptBut s4Core mirS4Names x x.mirEnterS4 :=
  .forIdx (.refl x) fun y m hy => (KeptBut.setF (KeptBut.setF hy (by decide)) (by decide)).trans ((mirFollow_s4 (y.mlQuiet m) m).mono (List.subset_append_left _ _) id)

theorem mirEnterS4_off (x : State) (m : Fin 4) : x.mirEnterS4.getF .ML_PATCTRL_GENEN m = 0 ∧ x.mirEnterS4.getF .ML_PATCTRL_LOOP m = 0 := by
  refine forIdx_establish (P := fun _ => True) (Q := fun y => y.getF .ML_PATCTRL_GENEN m = 0 ∧ y.getF .ML_PATCTRL_LOOP m = 0) m trivial (fun _ _ _ => trivial)
    (fun y k _ hq => ?_) fun y _ => ?_
  · have h := mirFollow_s4 (y.mlQuiet k) k
    exact ⟨(h.regs _ (by decide) _).trans (mlQuiet_off y k m (.inl hq)).1, (h.regs _ (by decide) _).trans (mlQuiet_off y k m (.inl hq)).2⟩
  · have h := mirFollow_s4 (y.mlQuiet m) m
    exact ⟨(h.regs _ (by decide) _).trans (mlQuiet_off y m m (.inr rfl)).1, (h.regs _ (by decide) _).trans (mlQuiet_off y m m (.inr rfl)).2⟩

/-- What the entry into S4 shows. -/
def EntersS4 (s t : State) : Prop := t.stage = 4 ∧ t.getF .PMC_ARM_BLK 0 = 0 ∧ SameMem s t ∧
  (∀ n : Fin 96, t.bit .CL_PATCTRL_GENEN n = false ∧ t.getF .CL_PATCTRL_LOOP n = 0) ∧
  (∀ m : Fin 4, t.bit .ML_PATCTRL_GENEN m = false ∧ t.getF .ML_PATCTRL_LOOP m = 0) ∧
  t = { s with regs := t.regs, lanes := t.lanes, ml := t.ml, mlOrdered := t.mlOrdered, twin := t.twin }

theorem s4_entered {u : State} (hcore : s4Core u = s4Core s) (h4 : u.stage = 4) (hblk : u.getF .PMC_ARM_BLK 0 = 0) : EntersS4 s u.lanesS4.mirEnterS4 := by
  have hlanes := lanesS4_kept u
  have hmir := mirEnterS4_kept u.lanesS4
  have hoff := lanesS4_off u
  have hmoff := mirEnterS4_off u.lanesS4
  have hall : s4Core u.lanesS4.mirEnterS4 = s4Core s := (hmir.core.trans hlanes.core).trans hcore
  generalize u.lanesS4.mirEnterS4 = t at *
  refine ⟨(hmir.regs _ (by decide) 0).trans ((hlanes.regs _ (by decide) 0).trans h4), (hmir.regs _ (by decide) 0).trans ((hlanes.regs _ (by decide) 0).trans hblk),
    State.byte_congr ((congrArg State.mem hall).trans rfl) ((congrArg State.lost hall).trans rfl), fun n => ⟨?_, ?_⟩, fun m => ⟨?_, (hmoff m).2⟩, ?_⟩
  · rw [State.bit, hmir.regs _ (by decide), (hoff n).1]
    rfl
  · rw [hmir.regs _ (by decide), (hoff n).2]
  · rw [State.bit, (hmoff m).1]
    rfl
  · exact congrArg (fun x : State => { x with regs := t.regs, lanes := t.lanes, ml := t.ml, mlOrdered := t.mlOrdered, twin := t.twin }) hall

theorem arm_enters (freeok : Bool) (hrun : s.coresRun = true) (h : (s.setBit .PMC_ARM_FREEOK 0 freeok).mayArm) : Answers (.arm freeok) s (EntersS4 s) := by
  have hb : (s.setBit .PMC_ARM_FREEOK 0 freeok).armBlock = 0 := armBlock_eq_zero.2 h
  have hexec : exec (.arm freeok) s = .next ((((s.setBit .PMC_ARM_FREEOK 0 freeok).setF .PMC_ARM_BLK 0 0).setF .PMC_STAGE_STAGE 0 4).lanesS4.mirEnterS4) := by
    change execArm freeok s = _
    rw [execArm, if_pos hrun, State.armDevice, hb]
    exact congrArg Host.Outcome.next (if_neg (by decide))
  refine ⟨_, hexec, s4_entered rfl ?_ ?_⟩
  · exact State.getF_setF_same _ _ _ _
  · rw [State.getF_setF_ne _ _ _ _ (by decide), State.getF_setF_same]
    rfl

/-! Disarming (R441). -/

theorem disarm_leaves (hrun : s.coresRun = true) (h4 : s.inS4 = true) (h : s.mstate = true ∨ s.serState ≠ 5) : Sets .disarm s [(.PMC_STAGE_STAGE, 0, 3)] := by
  refine .one ?_ (by decide)
  change execDisarm s = _
  rw [execDisarm, if_pos hrun, State.disarmDevice, h4, if_neg (by decide)]
  refine congrArg Host.Outcome.next (if_pos ?_)
  rw [Bool.or_eq_true, bne_iff_ne]
  exact h

theorem disarm_refused (hrun : s.coresRun = true) (h4 : s.inS4 = true) (hm : s.mstate = false) (h5 : s.serState = 5) : Sets .disarm s [(.PMC_ARM_DISERR, 0, 1)] := by
  refine .one ?_ (by decide)
  change execDisarm s = _
  rw [execDisarm, if_pos hrun, State.disarmDevice, h4, if_neg (by decide), hm, h5]
  rfl

end

/-- Settles O16: the ROM by the order of its checks, arming by the word that names the first condition that fails. -/
theorem bringUpStages : Obligations.BringUpStages := by
  intro freeok x s rails start minimal c b ready
  refine ⟨fun h => bootRomStart_ignored h, fun h hm => rom_mramFails h hm, fun h hm hreq => rom_button h hm hreq,
    fun h hm hreq hcnt => rom_failedStarts h hm hreq hcnt, fun h hm hreq hcnt hkeys => rom_revoked h hm hreq hcnt hkeys,
    fun h hm hreq hcnt hkeys hnone => rom_noFirmware h hm hreq hcnt hkeys hnone, fun j h hm hreq hcnt hkeys hj => ⟨?_, ?_⟩,
    fun h1 hmin hrun => firmwareStart_clause h1 hmin hrun, fun h2 hrun hany hdue hbusy => stageS3Entry_enters h2 hrun hany hdue hbusy,
    fun h => stageS3Entry_ignored h, fun h2 => startOk_clause h2, fun hrun hnot => arm_refused freeok hrun (mt (mayArm_freeok s freeok).1 hnot),
    fun hrun hready => arm_enters freeok hrun ((mayArm_freeok s freeok).2 hready), fun hrun h4 h => disarm_leaves hrun h4 h,
    fun hrun h4 hm h5 => disarm_refused hrun h4 hm h5⟩
  · exact fun h0 hbad => rom_safInvalid h hm hreq hcnt hkeys hj h0 hbad
  · exact fun hser => rom_starts h hm hreq hcnt hkeys hj hser

end Sys2Proof.Machine
end

section
/-! A declared loss of a clock: the trip inputs run to it, and every ball of the PWM goes off (R262, R298, R456). -/
namespace Sys2Proof.Machine

-- The proofs one after another: all at once they would need more threads, and their stacks, than the check's memory holds.
set_option Elab.async false

section
variable {s t : State}

/-! The trip inputs up to the present cycle. -/

theorem InputFrame.refl (x : TripIn) (s : State) : InputFrame x s s := ⟨rfl, .refl s _, fun _ _ => rfl, fun _ _ _ => rfl⟩

theorem gateStep_input (s : State) (x : TripIn) : InputFrame x s (s.gateStep x) := by
  obtain ⟨-, hothers, hframe, hregs, hlatch, -⟩ := s.gateStep_decided x
  exact ⟨hframe, hregs, hothers, hlatch⟩

theorem decideIn_input (s : State) (x : TripIn) : InputFrame x s (s.decideIn x) := by
  by_cases hoff : s.trState x = 0
  · rw [State.decideIn_off hoff]
    exact .refl x s
  · obtain ⟨-, hothers, hframe, hregs, hlatch, -⟩ := State.decideIn_decided hoff
    exact ⟨hframe, hregs, hothers, hlatch⟩

theorem ticksTo_input (s : State) (x : TripIn) (now : Nat) : InputFrame x s (s.ticksTo x now) := by
  have hdec : InputFrame x s (if s.sampled x then s.decideIn x else s) := by
    split
    · exact decideIn_input s x
    · exact .refl x s
  unfold State.ticksTo
  dsimp only
  split
  · exact .refl x s
  · exact hdec.trans (State.filtTicks_spec _ x _ now).1

theorem blankEndIn_input (s : State) (x : TripIn) : InputFrame x s (s.blankEndIn x) := by
  have hmod := s.modTrIn_input x (fun t => { t with blank := false })
  unfold State.blankEndIn
  dsimp only
  split
  · exact hmod
  · exact hmod.trans (gateStep_input _ x)

theorem inputRun_input (s : State) (x : TripIn) : InputFrame x s (s.inputRun x) := by
  unfold State.inputRun
  dsimp only
  split
  · exact .refl x s
  · refine InputFrame.trans ?_ (ticksTo_input _ x s.tick)
    split
    · exact (ticksTo_input s x _).trans (blankEndIn_input _ x)
    · exact .refl x s

/-- What the trip inputs and the outputs of the pairs leave of the state. -/
def pwCore (x : State) : State :=
  { x with regs := [], cmps := Vector.replicate 32 {}, pins := Vector.replicate 8 {}, pairs := Vector.replicate 24 {} }

/-- The fields of the trip inputs. -/
def inputNames : List Fld := [.CMP_STATUS_STATE, .CMP_STATUS_LOSIDE, .TRIP_LAT0_CMP, .TPIN_STATUS_STATE, .TRIP_LAT1_PIN]

theorem inputRun_kept (s : State) (x : TripIn) : KeptBut pwCore inputNames s (s.inputRun x) := by
  have h := inputRun_input s x
  exact .of_regsBut ((congrArg pwCore h.frame).trans rfl) h.regs (by cases x <;> simp [tripFields, inputNames])

theorem modTrIn_kept (s : State) (x : TripIn) (f : TrInSt → TrInSt) : KeptBut pwCore inputNames s (s.modTrIn x f) := by
  have h := s.modTrIn_input x f
  exact .of_regsBut ((congrArg pwCore h.frame).trans rfl) h.regs (by cases x <;> simp [tripFields, inputNames])

theorem inputsRun_kept (s : State) : KeptBut pwCore inputNames s s.inputsRun :=
  .forIdx (.forIdx (.refl s) fun x n hx => hx.trans (inputRun_kept x (.cmp n))) fun x n hx => hx.trans (inputRun_kept x (.pin n))

theorem openWindows_kept (s : State) (p : Nat) (h rising : Bool) : KeptBut pwCore inputNames s (s.openWindows p h rising) :=
  .foldl (.refl s) fun y x hy => .ite ((hy.trans (inputRun_kept y x)).trans (modTrIn_kept _ x _)) (hy.trans (inputRun_kept y x))

/-! The outputs of one pair. -/

/-- The fields that the outputs of a pair move, the balls apart. -/
def planNames : List Fld := inputNames ++ [.PW_STAT_XCONF, .PW_STAT_XCONFST, .PW_SUPCNT_CBC]

/-- The fields of the balls with what the outputs of a pair move. -/
def pairNames : List Fld := planNames ++ [.PW_STAT_HON, .PW_STAT_LON]

theorem planPart_kept (s : State) (n : Fin 24) : KeptBut pwCore planNames s (s.planPart n) := by
  have hcut : KeptBut pwCore planNames s (s.cbcCut n) := .setF (.upd (.refl s) rfl rfl) (by decide)
  unfold State.planPart
  generalize s.cbcCut n = x at *
  exact .ite (.setF (.setF (.upd (.ite hcut (.refl s)) rfl rfl) (by decide)) (by decide)) (.setF (.upd (.ite hcut (.refl s)) rfl rfl) (by decide))

/-- The ball of a switch. -/
def ballFld (high : Bool) : Fld := if high then .PW_STAT_HON else .PW_STAT_LON

theorem ballFld_mem (high : Bool) : ballFld high ∈ pairNames := by cases high <;> decide

theorem ballFld_plan (high : Bool) : ballFld high ∉ planNames := by cases high <;> decide

theorem KeptBut.modPair {names : List Fld} (h : KeptBut pwCore names s t) (n : Fin 24) (g : PairSt → PairSt) : KeptBut pwCore names s (t.modPair n g) :=
  h.upd rfl rfl

/-- A ball that changes: its bit, the windows that open, and the pair. -/
theorem setBall_kept (s : State) (n : Fin 24) (h on : Bool) : (s.bit (ballFld h) n = on ∧ s.setBall n h on = s) ∨
    KeptBut pwCore inputNames (s.setBit (ballFld h) n on) (s.setBall n h on) := by
  by_cases hb : s.bit (ballFld h) n = on
  · exact .inl ⟨hb, if_pos hb⟩
  · refine .inr ?_
    unfold State.setBall
    dsimp only
    rw [show (if h = true then Fld.PW_STAT_HON else .PW_STAT_LON) = ballFld h from rfl, if_neg hb]
    exact (openWindows_kept _ n h _).modPair n _

theorem setBall_pair (s : State) (n : Fin 24) (h on : Bool) : KeptBut pwCore pairNames s (s.setBall n h on) := by
  rcases setBall_kept s n h on with ⟨-, heq⟩ | hk
  · rw [heq]
    exact .refl s
  · exact (KeptBut.setF (.refl s) (ballFld_mem h)).trans (hk.mono (by decide) id)

theorem drive_kept (s : State) (n : Fin 24) (want : Bool × Bool) : KeptBut pwCore pairNames s (s.drive n want) := by
  unfold State.drive
  extract_lets dt s1 s2 q s3
  have h1 : KeptBut pwCore pairNames s s1 := .ite (.refl s) (setBall_pair s n _ _)
  have h2 : KeptBut pwCore pairNames s s2 := .ite h1 (h1.trans (setBall_pair s1 n _ _))
  have h3 : KeptBut pwCore pairNames s s3 := .ite (h2.trans (setBall_pair s2 n _ _)) h2
  exact .ite (h3.trans (setBall_pair s3 n _ _)) h3

theorem settle_kept (s : State) (n : Fin 24) : KeptBut pwCore pairNames s (s.settle n) := by
  have hplan : KeptBut pwCore pairNames s (if s.heldFrozen n then s else s.planPart n) := .ite (.refl s) ((planPart_kept s n).mono (by decide) id)
  unfold State.settle
  dsimp only
  generalize (if s.heldFrozen n then s else s.planPart n) = x at *
  exact .ite (hplan.trans (drive_kept x n _)) (.ite (hplan.trans (drive_kept x n _)) (.ite hplan (hplan.trans (drive_kept x n _))))

/-! The balls under a declared loss. -/

/-- Both balls of pair `k` are off. -/
def BallsOff (k : Fin 24) (s : State) : Prop := ∀ high, s.bit (ballFld high) k = false

/-- A switch that is turned off turns none on. -/
theorem setBall_off (s : State) (n : Fin 24) (h high : Bool) (k : Nat) (hoff : s.bit (ballFld high) k = false ∨ (high = h ∧ k = n)) :
    (s.setBall n h false).bit (ballFld high) k = false := by
  rcases setBall_kept s n h false with ⟨hoff', heq⟩ | hk
  · rw [heq]
    rcases hoff with hoff | ⟨rfl, rfl⟩
    · exact hoff
    · exact hoff'
  · rw [hk.bit (fun hm => ballFld_plan high (List.mem_append_left _ hm)), State.bit, State.setBit, State.getF_setF]
    split
    · rw [show b2n false = 0 from rfl, Nat.zero_mod]
      rfl
    next hne =>
      refine hoff.resolve_right ?_
      rintro ⟨rfl, rfl⟩
      exact hne rfl

/-- Under a declared loss the pair's outputs turn off. -/
theorem settle_lost (s : State) (n : Fin 24) (hlost : s.bit .CLK_LOSS_ACTIVE 0 = true) : ∃ x, KeptBut pwCore planNames s x ∧
    s.settle n = (x.setBall n true false).setBall n false false := by
  have hplan : KeptBut pwCore planNames s (if s.heldFrozen n then s else s.planPart n) := .ite (.refl s) (planPart_kept s n)
  unfold State.settle
  dsimp only
  rw [if_pos hlost]
  exact ⟨_, hplan, rfl⟩

theorem settle_ballsOff (s : State) (n k : Fin 24) (hlost : s.bit .CLK_LOSS_ACTIVE 0 = true) (h : BallsOff k s ∨ k = n) : BallsOff k (s.settle n) := by
  obtain ⟨x, hx, heq⟩ := settle_lost s n hlost
  intro high
  have hoff : x.bit (ballFld high) k = false ∨ k = n := h.imp_left fun hb => (hx.bit (ballFld_plan high) k).trans (hb high)
  rw [heq]
  refine setBall_off _ n false high k ?_
  cases high with
  | true => exact .inl (setBall_off x n true true k (hoff.imp_right fun hk => ⟨rfl, congrArg Fin.val hk⟩))
  | false =>
    rcases hoff with hoff | rfl
    · exact .inl (setBall_off x n true false k (.inl hoff))
    · exact .inr ⟨rfl, rfl⟩

theorem settle_active (s : State) (n : Fin 24) : (s.settle n).bit .CLK_LOSS_ACTIVE 0 = s.bit .CLK_LOSS_ACTIVE 0 := (settle_kept s n).bit (by decide) 0

theorem pairsClockLoss_kept (s : State) : KeptBut pwCore pairNames s s.pairsClockLoss := .forIdx (.refl s) fun x n hx => hx.trans (settle_kept x n)

theorem pairsClockLoss_off (s : State) (k : Fin 24) (hlost : s.bit .CLK_LOSS_ACTIVE 0 = true) : BallsOff k s.pairsClockLoss :=
  forIdx_establish (P := fun x => x.bit .CLK_LOSS_ACTIVE 0 = true) k hlost (fun x n hx => (settle_active x n).trans hx)
    (fun x n hx hq => settle_ballsOff x n k hx (.inl hq)) fun x hx => settle_ballsOff x k k hx (.inr rfl)

/-- What a declared loss writes. -/
def lossNames : List Fld := pairNames ++ [.PW_TRIP_CLKLOSS, .CLK_LOSS_ACTIVE]

/-- The pair sets CLKLOSS where it is one of the part's. -/
def State.pairBack (s : State) (n : Fin 24) : State := if s.pairOk n then (s.setF .PW_TRIP_CLKLOSS n 1).settle n else s

theorem pairBack_kept (s : State) (n : Fin 24) : KeptBut pwCore lossNames s (s.pairBack n) :=
  .ite ((KeptBut.setF (.refl s) (by decide)).trans ((settle_kept _ n).mono (by decide) id)) (.refl s)

theorem pairsClockBack_kept (s : State) : KeptBut pwCore lossNames s s.pairsClockBack := .forIdx (.refl s) fun x n hx => hx.trans (pairBack_kept x n)

theorem pairBack_active (s : State) (n : Fin 24) : (s.pairBack n).bit .CLK_LOSS_ACTIVE 0 = s.bit .CLK_LOSS_ACTIVE 0 := by
  unfold State.pairBack
  split
  · exact (settle_active _ n).trans (State.bit_setF_ne _ _ _ _ (by decide))
  · rfl

theorem pairBack_off (s : State) (n k : Fin 24) (hlost : s.bit .CLK_LOSS_ACTIVE 0 = true) (h : BallsOff k s) : BallsOff k (s.pairBack n) := by
  unfold State.pairBack
  split
  · refine settle_ballsOff _ n k ((State.bit_setF_ne _ _ _ _ (by decide)).trans hlost) (.inl fun high => ?_)
    rw [State.bit_setF_ne _ _ _ _ (by cases high <;> decide)]
    exact h high
  · exact h

theorem pairsClockBack_off (s : State) (k : Fin 24) (hlost : s.bit .CLK_LOSS_ACTIVE 0 = true) (h : BallsOff k s) :
    BallsOff k s.pairsClockBack ∧ s.pairsClockBack.bit .CLK_LOSS_ACTIVE 0 = true :=
  List.foldlRecOn (motive := fun x => BallsOff k x ∧ x.bit .CLK_LOSS_ACTIVE 0 = true) _ _ ⟨h, hlost⟩ fun x hx n _ =>
    ⟨pairBack_off x n k hx.2 hx.1, (pairBack_active x n).trans hx.2⟩

/-- CLKLOSS once set stays. -/
theorem pairBack_clkloss (s : State) (n k : Fin 24) (h : s.bit .PW_TRIP_CLKLOSS k = true ∨ (k = n ∧ s.pairOk n = true)) :
    (s.pairBack n).bit .PW_TRIP_CLKLOSS k = true := by
  unfold State.pairBack
  split
  · rw [(settle_kept _ n).bit (by decide), State.bit, State.getF_setF]
    split
    · rfl
    next hne => exact h.resolve_right fun hk => hne (by rw [hk.1])
  next hno => exact h.resolve_right fun hk => hno hk.2

theorem pairsClockBack_eq (s : State) : s.pairsClockBack = forIdx (n := 24) (fun n t => t.pairBack n) s := rfl

theorem pairOk_kept {names : List Fld} (h : KeptBut pwCore names s t) (k : Nat) : t.pairOk k = s.pairOk k := by
  have hv : t.variant = s.variant := (congrArg State.variant h.core).trans rfl
  rw [State.pairOk, hv, State.pairOk]

theorem pairsClockBack_clkloss (s : State) (k : Fin 24) (hok : s.pairOk k = true) : s.pairsClockBack.bit .PW_TRIP_CLKLOSS k = true := by
  rw [pairsClockBack_eq]
  refine forIdx_establish (P := KeptBut pwCore lossNames s) (Q := fun x => x.bit .PW_TRIP_CLKLOSS k = true) k (.refl s)
    (fun x n hx => hx.trans (pairBack_kept x n)) (fun x n _ hq => pairBack_clkloss x n k (.inl hq)) fun x hx => ?_
  exact pairBack_clkloss x k k (.inr ⟨rfl, (pairOk_kept hx k).trans hok⟩)

/-! A declared loss (R298, R456). -/

theorem clockLoss_kept (s : State) : KeptBut pwCore lossNames s s.clockLoss := by
  have h1 : KeptBut pwCore lossNames s (s.setF .CLK_LOSS_ACTIVE 0 1).pairsClockLoss :=
    (KeptBut.setF (.refl s) (by decide)).trans ((pairsClockLoss_kept _).mono (by decide) id)
  unfold State.clockLoss
  generalize (s.setF .CLK_LOSS_ACTIVE 0 1).pairsClockLoss = x at *
  exact .ite (h1.trans (pairsClockBack_kept x)) h1

theorem ballsOff_shown {t : State} (h : ∀ k, BallsOff k t) (n : Fin 24) : t.bit .PW_STAT_HON n = false ∧ t.bit .PW_STAT_LON n = false := ⟨h n true, h n false⟩

theorem clockLoss_lost (s : State) : ClockLost s.clockLoss := by
  have hactive : (s.setF .CLK_LOSS_ACTIVE 0 1).bit .CLK_LOSS_ACTIVE 0 = true := by
    rw [State.bit_setF_same]
    rfl
  have hoff (k : Fin 24) := pairsClockLoss_off _ k hactive
  have hkept := ((pairsClockLoss_kept (s.setF .CLK_LOSS_ACTIVE 0 1)).bit (f := .CLK_LOSS_ACTIVE) (by decide) 0).trans hactive
  unfold State.clockLoss
  generalize (s.setF .CLK_LOSS_ACTIVE 0 1).pairsClockLoss = x at *
  dsimp only
  split
  · exact ⟨(pairsClockBack_off x 0 hkept (hoff 0)).2, ballsOff_shown fun k => (pairsClockBack_off x k hkept (hoff k)).1⟩
  · exact ⟨hkept, ballsOff_shown hoff⟩

theorem clockLoss_clkloss (s : State) (hfab : s.fabRuns = true) (k : Fin 24) (hok : s.pairOk k = true) : s.clockLoss.bit .PW_TRIP_CLKLOSS k = true := by
  have hk : KeptBut pwCore lossNames s (s.setF .CLK_LOSS_ACTIVE 0 1).pairsClockLoss :=
    (KeptBut.setF (.refl s) (by decide)).trans ((pairsClockLoss_kept _).mono (by decide) id)
  unfold State.clockLoss
  generalize (s.setF .CLK_LOSS_ACTIVE 0 1).pairsClockLoss = x at *
  have hstage := hk.regs .PMC_STAGE_STAGE (by decide) 0
  have hgate : x.gated = s.gated := (congrArg State.gated hk.core).trans rfl
  have hrun : x.fabRuns = true := by
    rw [← hfab, State.fabRuns, State.fabRuns, State.pll0Runs, State.awake, hgate, hstage]
    rfl
  have hvar : x.pairOk k = true := (pairOk_kept hk k).trans hok
  dsimp only
  rw [if_pos hrun]
  exact pairsClockBack_clkloss x k hvar

/-- A loss once shown stays over what touches none of its fields. -/
theorem ClockLost.of_kept {α : Type} {core : State → α} {names : List Fld} (h : ClockLost s) (hk : KeptBut core names s t)
    (hn : .CLK_LOSS_ACTIVE ∉ names ∧ .PW_STAT_HON ∉ names ∧ .PW_STAT_LON ∉ names) : ClockLost t := by
  obtain ⟨hact, hballs⟩ := h
  obtain ⟨h1, h2, h3⟩ := hn
  exact ⟨(hk.bit h1 0).trans hact, fun n => ⟨(hk.bit h2 n).trans (hballs n).1, (hk.bit h3 n).trans (hballs n).2⟩⟩

end

end Sys2Proof.Machine
end

section
/-! Gated PLLs, and the quads of the lanes without their feed (R197, R451, R455 to R457). -/
namespace Sys2Proof.Machine

-- The proofs one after another: all at once they would need more threads, and their stacks, than the check's memory holds.
set_option Elab.async false

section
variable {s t : State}

/-! The outputs of a PLL are gated. -/

/-- What the gating of a PLL leaves beside the registers, the mirror group and the gates. -/
def gateCore (x : State) : State := { x with regs := [], ml := Vector.replicate 4 {}, mlOrdered := false, twin := {}, gated := 0#4 }

/-- The fields that the gating of a PLL writes. -/
def gateNames : List Fld := [.ML_PHYSTAT_LSTATE, .ML_PHYSTAT_RXINVST, .MIR_LANEMAP_UP, .MIR_STAT_MIRUP, .MIR_DELAY_VALID, .MIR_DELAY_DLY, .MIR_CTRL_HANDOVER,
  .MIR_STAT_HOERR, .CLK_PLL_STAT_LOSS, .CLK_PLL_STAT_LOCKED, .CLK_PLL_STAT_ACQ]

/-- The mirror group where its clock stops. -/
def State.mirStopped (s : State) (n : Fin 4) : State := if n = 3 ∧ s.mirUp = true then s.mirTrain else s

theorem mirStopped_kept (s : State) (n : Fin 4) : KeptBut gateCore gateNames s (s.mirStopped n) := by
  refine .ite ?_ (.refl s)
  obtain ⟨-, -, -, -, -, -, hframe, hregs⟩ := s.mirTrain_spec
  exact .of_regsBut ((congrArg gateCore hframe).trans rfl) hregs (by rw [List.append_nil]; decide)

theorem mirStopped_pll (s : State) (n : Fin 4) {f : Fld} (hf : ∀ e ∈ mirrorFields, e.1 ≠ f) (i : Nat) : (s.mirStopped n).getF f i = s.getF f i := by
  unfold State.mirStopped
  split
  · exact MirrorTrains.getF_eq s.mirTrain_spec hf i
  · rfl

/-- The gates with PLL `n`'s closed, over whatever the mirror group has become. -/
def State.gateClosed (x : State) (g : BitVec 4) (n : Fin 4) : State :=
  ((({ x with gated := g ||| BitVec.ofNat 4 (2 ^ n.val) } : State).setF .CLK_PLL_STAT_LOSS n 1).setF .CLK_PLL_STAT_LOCKED n 0).setF .CLK_PLL_STAT_ACQ n 0

theorem gatePll_eq (s : State) (n : Fin 4) : s.gatePll n = (s.mirStopped n).gateClosed s.gated n := rfl

theorem gatePll_kept (s : State) (n : Fin 4) : KeptBut gateCore gateNames s (s.gatePll n) := by
  have h := mirStopped_kept s n
  rw [gatePll_eq]
  generalize s.mirStopped n = x at *
  exact .setF (.setF (.setF (.upd h rfl rfl) (by decide)) (by decide)) (by decide)

theorem gatePll_gated (s : State) (n : Fin 4) : (s.gatePll n).gated = s.gated ||| BitVec.ofNat 4 (2 ^ n.val) := by
  rw [gatePll_eq]
  rfl

/-- A PLL once lost stays so. -/
theorem gatePll_lost (s : State) (n k : Fin 4) (h : (s.bit .CLK_PLL_STAT_LOSS k = true ∧ s.bit .CLK_PLL_STAT_LOCKED k = false) ∨ k = n) :
    (s.gatePll n).bit .CLK_PLL_STAT_LOSS k = true ∧ (s.gatePll n).bit .CLK_PLL_STAT_LOCKED k = false := by
  have hloss := mirStopped_pll s n (f := .CLK_PLL_STAT_LOSS) (by decide) k
  have hlock := mirStopped_pll s n (f := .CLK_PLL_STAT_LOCKED) (by decide) k
  rw [gatePll_eq]
  generalize s.mirStopped n = x at *
  constructor
  · rw [State.gateClosed, State.bit_setF_ne _ _ _ _ (by decide), State.bit_setF_ne _ _ _ _ (by decide), State.bit, State.getF_setF]
    split
    · rfl
    next hne => exact (congrArg (· == 1) hloss).trans (h.resolve_right fun hk => hne (by rw [hk])).1
  · rw [State.gateClosed, State.bit_setF_ne _ _ _ _ (by decide), State.bit, State.getF_setF]
    split
    · rfl
    next hne =>
      have hl := (h.resolve_right fun hk => hne (by rw [hk])).2
      rw [State.getF_setF_ne _ _ _ _ (by decide)]
      exact (congrArg (· == 1) hlock).trans hl

/-- One PLL at the loss of the reference. -/
def State.refLost (s : State) (n : Fin 4) : State := if s.gated.getLsbD n then s.setF .CLK_PLL_STAT_ACQ n 0 else s.gatePll n

theorem refLost_kept (s : State) (n : Fin 4) : KeptBut gateCore gateNames s (s.refLost n) := .ite (.setF (.refl s) (by decide)) (gatePll_kept s n)

theorem refLost_gated (s : State) (n k : Fin 4) (h : s.gated.getLsbD k = true ∨ k = n) : (s.refLost n).gated.getLsbD k = true := by
  unfold State.refLost
  split
  next hg =>
    rcases h with h | rfl
    · exact h
    · exact hg
  · rw [gatePll_gated, BitVec.getLsbD_or, Bool.or_eq_true]
    refine h.imp id ?_
    rintro rfl
    rw [BitVec.getLsbD_ofNat, Nat.testBit_two_pow_self, Bool.and_true]
    exact decide_eq_true k.isLt

theorem refLost_pll (s : State) (n k : Fin 4) (h : (s.bit .CLK_PLL_STAT_LOSS k = true ∧ s.bit .CLK_PLL_STAT_LOCKED k = false) ∨ k = n ∧ s.gated.getLsbD k = false) :
    (s.refLost n).bit .CLK_PLL_STAT_LOSS k = true ∧ (s.refLost n).bit .CLK_PLL_STAT_LOCKED k = false := by
  unfold State.refLost
  split
  next hg =>
    have hl := h.resolve_right fun hk => by rw [← hk.1, hk.2] at hg; cases hg
    exact ⟨(State.bit_setF_ne _ _ _ _ (by decide)).trans hl.1, (State.bit_setF_ne _ _ _ _ (by decide)).trans hl.2⟩
  · exact gatePll_lost s n k (h.imp_right And.left)

/-- All PLLs at the loss of the reference (R454). -/
def State.pllsLost (s : State) : State := forIdx (n := 4) (fun n t => t.refLost n) s

theorem pllsLost_kept (s : State) : KeptBut gateCore gateNames s s.pllsLost := .forIdx (.refl s) fun x n hx => hx.trans (refLost_kept x n)

theorem pllsLost_gated (s : State) : s.pllsLost.gated = 15#4 := by
  have hbit (k : Fin 4) : s.pllsLost.gated.getLsbD k = true :=
    forIdx_establish (P := fun _ => True) (Q := fun x => x.gated.getLsbD k = true) k trivial (fun _ _ _ => trivial) (fun x n _ hq => refLost_gated x n k (.inl hq))
      fun x _ => refLost_gated x k k (.inr rfl)
  generalize s.pllsLost.gated = g at *
  refine BitVec.eq_of_getLsbD_eq fun i hi => (hbit ⟨i, hi⟩).trans ?_
  interval_cases i <;> rfl

theorem pllsLost_pll (s : State) (k : Fin 4) (hg : s.gated.getLsbD k = false) :
    s.pllsLost.bit .CLK_PLL_STAT_LOSS k = true ∧ s.pllsLost.bit .CLK_PLL_STAT_LOCKED k = false := by
  refine forIdx_establish
    (P := fun x => x.gated.getLsbD k = false ∨ (x.bit .CLK_PLL_STAT_LOSS k = true ∧ x.bit .CLK_PLL_STAT_LOCKED k = false))
    (Q := fun x => x.bit .CLK_PLL_STAT_LOSS k = true ∧ x.bit .CLK_PLL_STAT_LOCKED k = false) k (.inl hg)
    (fun x n hx => ?_) (fun x n _ hq => refLost_pll x n k (.inl hq)) fun x hx => refLost_pll x k k (hx.elim (fun h => .inr ⟨rfl, h⟩) .inl)
  rcases hx with hx | hx
  · rcases Classical.em (k = n) with hk | hk
    · exact .inr (refLost_pll x n k (.inr ⟨hk, hx⟩))
    · refine .inl ?_
      unfold State.refLost
      split
      · exact hx
      · rw [gatePll_gated, BitVec.getLsbD_or, hx, Bool.false_or, BitVec.getLsbD_ofNat, Nat.testBit_two_pow_of_ne (fun h => hk (Fin.ext h.symm)), Bool.and_false]
  · exact .inr (refLost_pll x n k (.inl hx))

/-! The quads of the lanes (R197, R455). -/

theorem burst_eq (s : State) (n : Fin 96) (m : Nat) : s.burst n m = s.modLane n (fun l => l.startBurst s.tick (s.setTime n) m) := rfl

/-- Every lane that is UP sends a burst with the reason CLOCK_LOSS, and nothing else changes. -/
theorem quadBurst_spec (s : State) : s.quadBurst = { s with lanes := s.quadBurst.lanes } ∧
    ∀ n : Fin 96, s.laneUp n = true → (s.quadBurst.lanes[n]).burst = some (burstAt (s.lanes[n]).burst s.tick (s.setTime n) 8) := by
  refine forIdx_each (fun (n : Fin 96) (x : State) => x.lanes[n]) (fun x => x = { s with lanes := x.lanes })
    (fun n l => s.laneUp n = true → l.burst = some (burstAt (s.lanes[n]).burst s.tick (s.setTime n) 8)) rfl fun x n hx hseen => ?_
  have hget (f : Fld) (i : Nat) : x.getF f i = s.getF f i := by rw [hx, State.getF, State.getF]
  have hup : x.laneUp n = s.laneUp n := State.laneUp_congr (hget _ _)
  have htime : x.setTime n = s.setTime n := by rw [State.setTime, State.bit, hget, State.setTime, State.bit]
  have htick : x.tick = s.tick := by rw [hx]
  rw [hup]
  split
  · refine ⟨?_, fun _ => ?_, fun j hj => x.modLane_ne _ hj⟩
    · rw [burst_eq]
      exact congrArg (fun y : State => { y with lanes := (x.modLane n (fun l => l.startBurst x.tick (x.setTime n) 8)).lanes }) hx
    · rw [burst_eq, State.modLane_same, htick, htime, hseen]
      rfl
  next hno => exact ⟨hx, fun h => absurd h hno, fun _ _ => rfl⟩

/-- What the loss of the feed leaves beside the registers and the lanes. -/
def quadCore (x : State) : State := { x with regs := [], lanes := Vector.replicate 96 {}, quadFeed := false }

/-- The fields that a lost link moves. -/
def quadNames : List Fld := [.CL_PHYSTAT_LSTATE, .CL_DELAY_VALID, .CL_DELAY_DLY, .CL_PHYSTAT_RXINVST, .CLG_CTRL_CLRGO, .CLG_STAT_CLRDONE, .CL_PHYSTAT_LOSS,
  .CL_LINKCNT_LOSSCNT]

/-- A lane that has lost its link, or one that was not UP. -/
def State.laneLost (s : State) (n : Fin 96) : State := if s.laneUp n then s.linkLost n else s

theorem linkLost_alone (s : State) (n : Fin 96) :
    LaneAlone n (lstateFields n ++ [(.CL_PHYSTAT_LOSS, n.val), (.CL_LINKCNT_LOSSCNT, n.val)]) s (s.linkLost n) :=
  EntersState.alone (s.linkLost_spec n).1.1

/-- A lost link moves no field of another lane. -/
theorem linkLost_other (s : State) {n k : Fin 96} (hk : k ≠ n) {f : Fld} (hf : f ≠ .CLG_CTRL_CLRGO) (hf' : f ≠ .CLG_STAT_CLRDONE) :
    (s.linkLost n).getF f k = s.getF f k := by
  have hkey {g : Fld} : f.key k ≠ g.key n := by
    intro he
    have := (Fld.key_inj he).2
    rw [Nat.mod_eq_of_lt (by omega), Nat.mod_eq_of_lt (by omega)] at this
    exact hk (Fin.ext this)
  refine (linkLost_alone s n).regs f k fun e he => ?_
  simp only [lstateFields, List.cons_append, List.nil_append, List.mem_cons, List.not_mem_nil, or_false] at he
  rcases he with rfl | rfl | rfl | rfl | rfl | rfl | rfl | rfl
  · exact hkey
  · exact hkey
  · exact hkey
  · exact hkey
  · exact Fld.key_ne _ _ hf
  · exact Fld.key_ne _ _ hf'
  · exact hkey
  · exact hkey

theorem laneLost_kept (s : State) (n : Fin 96) : KeptBut quadCore quadNames s (s.laneLost n) := by
  have h := linkLost_alone s n
  exact .ite (.of_regsBut ((congrArg quadCore h.frame).trans rfl) h.regs (by simp [lstateFields, quadNames])) (.refl s)

theorem laneLost_feed (s : State) (n : Fin 96) : (s.laneLost n).quadFeed = s.quadFeed := by
  unfold State.laneLost
  split
  · exact (congrArg State.quadFeed (linkLost_alone s n).frame).trans rfl
  · rfl

/-- A lane that has lost its link trains. -/
theorem laneLost_trains (s : State) (n k : Fin 96) (h : (s.lstate k = 1 ∧ s.bit .CL_PHYSTAT_LOSS k = true) ∨ (k = n ∧ s.laneUp k = true)) :
    (s.laneLost n).lstate k = 1 ∧ (s.laneLost n).bit .CL_PHYSTAT_LOSS k = true := by
  unfold State.laneLost
  split
  next hup =>
    obtain ⟨⟨⟨hstate, -⟩, -⟩, hloss, -⟩ := s.linkLost_spec n
    rcases Classical.em (k = n) with rfl | hk
    · exact ⟨hstate, hloss⟩
    · have hl := h.resolve_right fun hr => hk hr.1
      have hget {f : Fld} := linkLost_other s hk (f := f)
      exact ⟨(hget (by decide) (by decide)).trans hl.1, (congrArg (· == 1) (hget (by decide) (by decide))).trans hl.2⟩
  next hno => exact h.resolve_right fun hr => hno (hr.1 ▸ hr.2)

/-- The quads fall silent. -/
def State.quadsSilent (s : State) : State :=
  { s with quadFeed := false, lanes := s.lanes.map (fun l => { l with burst := none, heldTb := false, heldDly := false, heldClr := false }) }

theorem gateQuads_eq (s : State) : s.gateQuads = forIdx (n := 96) (fun n t => t.laneLost n) s.quadsSilent := rfl

theorem gateQuads_kept (s : State) : KeptBut quadCore quadNames s s.gateQuads := by
  rw [gateQuads_eq]
  exact .forIdx (.upd (.refl s) rfl rfl) fun x n hx => hx.trans (laneLost_kept x n)

theorem gateQuads_feed (s : State) : s.gateQuads.quadFeed = false := by
  rw [gateQuads_eq]
  exact List.foldlRecOn (motive := fun x => x.quadFeed = false) (List.finRange 96) (fun x n => x.laneLost n) (b := s.quadsSilent) rfl fun x hx n _ => (laneLost_feed x n).trans hx

theorem gateQuads_trains (s : State) (k : Fin 96) (hup : s.laneUp k = true) : s.gateQuads.lstate k = 1 ∧ s.gateQuads.bit .CL_PHYSTAT_LOSS k = true := by
  rw [gateQuads_eq]
  refine forIdx_establish (P := fun x => x.laneUp k = true ∨ (x.lstate k = 1 ∧ x.bit .CL_PHYSTAT_LOSS k = true))
    (Q := fun x => x.lstate k = 1 ∧ x.bit .CL_PHYSTAT_LOSS k = true) k (.inl hup) (fun x n hx => ?_) (fun x n _ hq => laneLost_trains x n k (.inl hq))
    fun x hx => laneLost_trains x k k (hx.elim (fun h => .inr ⟨rfl, h⟩) .inl)
  rcases hx with hx | hx
  · rcases Classical.em (k = n) with hk | hk
    · exact .inr (laneLost_trains x n k (.inr ⟨hk, hx⟩))
    · refine .inl ?_
      unfold State.laneLost
      split
      · exact (State.laneUp_congr (linkLost_other x hk (by decide) (by decide))).trans hx
      · exact hx
  · exact .inr (laneLost_trains x n k (.inl hx))

end

end Sys2Proof.Machine
end

section
/-! The losses and locks of the clocks (R451 to R457). -/
namespace Sys2Proof.Machine

-- The proofs one after another: all at once they would need more threads, and their stacks, than the check's memory holds.
set_option Elab.async false

section
variable {s t : State} {n : Fin 4} {names : List Fld}

/-! What the steps leave of the state, field by field. -/

section
variable (h : KeptBut pwCore names s t)
include h

theorem pw_mem : t.mem = s.mem := have e := congrArg State.mem h.core; e
theorem pw_lost : t.lost = s.lost := have e := congrArg State.lost h.core; e
theorem pw_pmc : t.pmc = s.pmc := have e := congrArg State.pmc h.core; e
theorem pw_gated : t.gated = s.gated := have e := congrArg State.gated h.core; e
theorem pw_quadFeed : t.quadFeed = s.quadFeed := have e := congrArg State.quadFeed h.core; e
theorem pw_refOk : t.refOk = s.refOk := have e := congrArg State.refOk h.core; e
theorem pw_rc16 : t.rc16Ok = s.rc16Ok := have e := congrArg State.rc16Ok h.core; e
theorem pw_lanes : t.lanes = s.lanes := have e := congrArg State.lanes h.core; e
theorem pw_tick : t.tick = s.tick := have e := congrArg State.tick h.core; e
theorem pw_lossAt : t.lossAt = s.lossAt := have e := congrArg State.lossAt h.core; e
theorem pw_sameMem : SameMem s t := State.byte_congr (pw_mem h) (pw_lost h)
theorem pw_aonRuns : t.aonRuns = s.aonRuns := by rw [State.aonRuns, pw_pmc h, State.aonRuns]

end

section
variable (h : KeptBut gateCore names s t)
include h

theorem gate_pmc : t.pmc = s.pmc := have e := congrArg State.pmc h.core; e
theorem gate_quadFeed : t.quadFeed = s.quadFeed := have e := congrArg State.quadFeed h.core; e
theorem gate_refOk : t.refOk = s.refOk := have e := congrArg State.refOk h.core; e
theorem gate_lanes : t.lanes = s.lanes := have e := congrArg State.lanes h.core; e
theorem gate_lossAt : t.lossAt = s.lossAt := have e := congrArg State.lossAt h.core; e
theorem gate_variant : t.variant = s.variant := have e := congrArg State.variant h.core; e
theorem gate_sameMem : SameMem s t := have e := congrArg State.mem h.core; have e' := congrArg State.lost h.core; State.byte_congr e e'

end

section
variable (h : KeptBut quadCore names s t)
include h

theorem quad_gated : t.gated = s.gated := have e := congrArg State.gated h.core; e
theorem quad_refOk : t.refOk = s.refOk := have e := congrArg State.refOk h.core; e
theorem quad_tick : t.tick = s.tick := have e := congrArg State.tick h.core; e
theorem quad_sameMem : SameMem s t := have e := congrArg State.mem h.core; have e' := congrArg State.lost h.core; State.byte_congr e e'

end

section
variable (h : KeptBut pllCore names s t)
include h

theorem pll_gated : t.gated = s.gated := have e := congrArg (fun c => c.2.2.2.1) h.core; e
theorem pll_refOk : t.refOk = s.refOk := have e := congrArg (fun c => c.2.2.2.2.1) h.core; e
theorem pll_pmc : t.pmc = s.pmc := have e := congrArg (fun c => c.2.2.2.2.2.1) h.core; e
theorem pll_quadFeed : t.quadFeed = s.quadFeed := have e := congrArg (fun c => c.2.2.2.2.2.2.2.2) h.core; e
theorem pll_sameMem : SameMem s t := have e := congrArg (fun c => c.1) h.core; have e' := congrArg (fun c => c.2.1) h.core; State.byte_congr e e'

end

theorem SameMem.trans {u : State} (h : SameMem s t) (h' : SameMem t u) : SameMem s u := fun a => (h' a).trans (h a)

/-! The loss of the reference (R454). -/

/-- The state at the loss of the reference, the inputs run to it. -/
def State.refStopped (s : State) : State := { s.inputsRun with refOk := false }

/-- What the stop of the reference leaves. -/
structure RefGone (s x : State) : Prop where
  pmc : x.pmc = s.pmc
  gated : x.gated = s.gated
  feed : x.quadFeed = s.quadFeed
  ref : x.refOk = false
  tick : x.tick = s.tick
  mem : SameMem s x
  regs : ∀ f ∉ inputNames, ∀ i, x.getF f i = s.getF f i

theorem refStopped_gone (s : State) : RefGone s s.refStopped ∧ s.refStopped.lanes = s.lanes := by
  have h := inputsRun_kept s
  have hfields := And.intro (pw_pmc h) (And.intro (pw_gated h) (And.intro (pw_quadFeed h) (And.intro (pw_tick h) (And.intro (pw_sameMem h) (pw_lanes h)))))
  unfold State.refStopped
  generalize s.inputsRun = x at *
  obtain ⟨hpmc, hgated, hfeed, htick, hmem, hlanes⟩ := hfields
  exact ⟨⟨hpmc, hgated, hfeed, rfl, htick, hmem, h.regs⟩, hlanes⟩

theorem refLoss_eq (href : s.refOk = true) : exec .refLoss s = .next (if !s.aonRuns then s.refStopped else
    (({ (if s.quadFeed then s.refStopped.quadBurst else s.refStopped) with lossAt := s.tick } : State).pllsLost.setF .CLK_LOSS_REF 0 1).clockLoss) := by
  change execRefLoss s = _
  rw [execRefLoss, if_pos href]
  unfold State.refStopped
  generalize s.inputsRun = x
  rfl

theorem refLoss_unpowered (haon : s.aonRuns = false) (href : s.refOk = true) : Answers .refLoss s (fun t => t.refOk = false ∧ t.gated = s.gated ∧
    t.bit .CLK_LOSS_ACTIVE 0 = s.bit .CLK_LOSS_ACTIVE 0 ∧ SameMem s t) := by
  obtain ⟨hk, -⟩ := refStopped_gone s
  have hexec := refLoss_eq href
  rw [haon, if_pos (by decide)] at hexec
  exact ⟨_, hexec, hk.ref, hk.gated, congrArg (· == 1) (hk.regs _ (by decide) 0), hk.mem⟩

/-- The quads' bursts, where their feed runs. -/
def State.refBursts (s : State) : State := if s.quadFeed then s.refStopped.quadBurst else s.refStopped

/-- What the bursts leave. -/
theorem refBursts_frame (s : State) : s.refBursts = { s.refStopped with lanes := s.refBursts.lanes } := by
  unfold State.refBursts
  generalize s.refStopped = w
  split
  · exact (quadBurst_spec w).1
  · rfl

theorem refBursts_burst (hfeed : s.quadFeed = true) (k : Fin 96) (hup : s.laneUp k = true) :
    (s.refBursts.lanes[k]).burst = some (burstAt (s.lanes[k]).burst s.tick (s.setTime k) 8) := by
  obtain ⟨hk, hlanes⟩ := refStopped_gone s
  rw [State.refBursts, if_pos hfeed]
  generalize s.refStopped = w at *
  have hstate : w.laneUp k = true := (State.laneUp_congr (hk.regs _ (by decide) _)).trans hup
  have htime : w.setTime k = s.setTime k := congrArg (fun v : Nat => if (v == 1) = true then 32 else 16) (hk.regs .CL_PHYCTRL_RATE (by decide) k)
  rw [(quadBurst_spec w).2 k hstate, hlanes, hk.tick, htime]

theorem refBursts_gone (s : State) : RefGone s s.refBursts := by
  obtain ⟨hstop, -⟩ := refStopped_gone s
  have hframe := refBursts_frame s
  generalize s.refBursts = x at *
  generalize s.refStopped = w at *
  rw [hframe]
  exact ⟨hstop.pmc, hstop.gated, hstop.feed, hstop.ref, hstop.tick, hstop.mem, hstop.regs⟩

theorem refLoss_clause (haon : s.aonRuns = true) (href : s.refOk = true) : Answers .refLoss s (fun t => ClockLost t ∧ t.bit .CLK_LOSS_REF 0 = true ∧ t.refOk = false ∧
    t.gated = 15#4 ∧ t.quadFeed = s.quadFeed ∧
    (∀ k : Fin 4, s.gated.getLsbD k = false → t.bit .CLK_PLL_STAT_LOSS k = true ∧ t.bit .CLK_PLL_STAT_LOCKED k = false) ∧
    (s.quadFeed = true → ∀ k : Fin 96, s.laneUp k = true → (t.lanes[k]).burst = some (burstAt (s.lanes[k]).burst s.tick (s.setTime k) 8)) ∧
    t.lossAt = s.tick ∧ SameMem s t) := by
  have hexec := refLoss_eq href
  rw [haon, if_neg (by decide), ← State.refBursts] at hexec
  refine ⟨_, hexec, ?_⟩
  obtain ⟨-, hgate, hfeed, href', -, hmem, -⟩ := refBursts_gone s
  have hburst := fun hfeed k hup => refBursts_burst (s := s) hfeed k hup
  generalize s.refBursts = x at *
  have hplls := pllsLost_kept { x with lossAt := s.tick }
  have hlanes' := gate_lanes hplls
  have hmem2 : SameMem x { x with lossAt := s.tick } := fun _ => rfl
  have hgated := pllsLost_gated { x with lossAt := s.tick }
  have hpll := fun k hk => pllsLost_pll { x with lossAt := s.tick } k ((congrArg (fun g : BitVec 4 => g.getLsbD k) hgate).trans hk)
  generalize State.pllsLost { x with lossAt := s.tick } = y at *
  have hloss := clockLoss_kept (y.setF .CLK_LOSS_REF 0 1)
  have hset : (y.setF .CLK_LOSS_REF 0 1).bit .CLK_LOSS_REF 0 = true := by
    rw [State.bit_setF_same]
    rfl
  have hlost := clockLoss_lost (y.setF .CLK_LOSS_REF 0 1)
  have hmem' : SameMem y (y.setF .CLK_LOSS_REF 0 1) := fun _ => rfl
  generalize (y.setF .CLK_LOSS_REF 0 1).clockLoss = t at *
  refine ⟨hlost, (hloss.bit (by decide) 0).trans hset, (pw_refOk hloss).trans ((gate_refOk hplls).trans href'), (pw_gated hloss).trans hgated,
    (pw_quadFeed hloss).trans ((gate_quadFeed hplls).trans hfeed), fun k hk => ?_, fun hq k hup => ?_, (pw_lossAt hloss).trans (gate_lossAt hplls),
    (((hmem.trans hmem2).trans (gate_sameMem hplls)).trans hmem').trans (pw_sameMem hloss)⟩
  · obtain ⟨h1, h2⟩ := hpll k hk
    exact ⟨((hloss.bit (by decide) _).trans (State.bit_setF_ne _ _ _ _ (by decide))).trans h1,
      ((hloss.bit (by decide) _).trans (State.bit_setF_ne _ _ _ _ (by decide))).trans h2⟩
  · have hlanes : t.lanes = x.lanes := (pw_lanes hloss).trans hlanes'
    rw [hlanes]
    exact hburst hq k hup

end

end Sys2Proof.Machine
end

section
/-! The loss and the lock of one PLL, of RC16 and of the quads' feed, and the return of the reference (R452 to R457). -/
namespace Sys2Proof.Machine

-- The proofs one after another: all at once they would need more threads, and their stacks, than the check's memory holds.
set_option Elab.async false

section
variable {s t u v : State} {n : Fin 4}

/-! The quads' feed (R455). -/

/-- Time that passes, as a step that writes no field. -/
theorem passTo_sameMem (s : State) (d : Nat) : SameMem s (s.passTo d) :=
  State.byte_congr (by rw [s.passTo_frame d]) (by rw [s.passTo_frame d])

/-- The lanes that were UP train. -/
def LanesTrain (s t : State) : Prop := ∀ k : Fin 96, s.laneUp k = true → t.lstate k = 1 ∧ t.bit .CL_PHYSTAT_LOSS k = true

theorem gateQuads_lanes (s : State) : LanesTrain s s.gateQuads := fun k hup => gateQuads_trains s k hup

theorem LanesTrain.of_up (h : LanesTrain u t) (hup : ∀ k : Fin 96, u.laneUp k = s.laneUp k) : LanesTrain s t := fun k hk => h k ((hup k).trans hk)

theorem quadFeedGate_clause (hg : s.gated.getLsbD 2 = true) (hfeed : s.quadFeed = true) : Answers .quadFeedGate s (fun t => t.quadFeed = false ∧
    t.tick = max s.tick (s.lossAt + 80) ∧ LanesTrain s t ∧ SameMem s t) := by
  have hexec : exec .quadFeedGate s = .next (s.passTo (s.lossAt + 80)).gateQuads := by
    change execQuadFeedGate s = _
    rw [execQuadFeedGate, hg, hfeed]
    rfl
  have hup (k : Fin 96) : (s.passTo (s.lossAt + 80)).laneUp k = s.laneUp k := State.laneUp_congr (s.getF_passTo _ _ _)
  have htick : (s.passTo (s.lossAt + 80)).tick = max s.tick (s.lossAt + 80) := s.passTo_tick _
  have hmem := passTo_sameMem s (s.lossAt + 80)
  generalize s.passTo (s.lossAt + 80) = x at *
  have hk := gateQuads_kept x
  exact ⟨_, hexec, gateQuads_feed x, (quad_tick hk).trans htick, (gateQuads_lanes x).of_up hup, hmem.trans (quad_sameMem hk)⟩

/-! The loss of RC16 (R454). -/

theorem rc16Loss_clause (haon : s.aonRuns = true) : Answers .rc16Loss s (fun t => ClockLost t ∧ t.rc16Ok = false ∧ t.bit .CLK_LOSS_RC16 0 = true ∧
    t.gated = s.gated ∧ SameMem s t) := by
  have hexec : exec .rc16Loss s = .next (({ s with rc16Ok := false } : State).setF .CLK_LOSS_RC16 0 1).clockLoss := by
    change execRc16Loss s = _
    rw [execRc16Loss, if_pos haon]
  have hset : (({ s with rc16Ok := false } : State).setF .CLK_LOSS_RC16 0 1).bit .CLK_LOSS_RC16 0 = true := by
    rw [State.bit_setF_same]
    rfl
  have hrc : (({ s with rc16Ok := false } : State).setF .CLK_LOSS_RC16 0 1).rc16Ok = false := rfl
  have hg : (({ s with rc16Ok := false } : State).setF .CLK_LOSS_RC16 0 1).gated = s.gated := rfl
  have hmem : SameMem s (({ s with rc16Ok := false } : State).setF .CLK_LOSS_RC16 0 1) := fun _ => rfl
  generalize ({ s with rc16Ok := false } : State).setF .CLK_LOSS_RC16 0 1 = y at *
  have hk := clockLoss_kept y
  exact ⟨_, hexec, clockLoss_lost y, (pw_rc16 hk).trans hrc, (hk.bit (by decide) 0).trans hset, (pw_gated hk).trans hg, hmem.trans (pw_sameMem hk)⟩

/-! The loss of a PLL's lock (R454, R455, R457). -/

theorem bandOf_kept {α : Type} {core : State → α} {names : List Fld} (hk : KeptBut core names s t)
    (hn : .CLK_PLL_BAND_VALID ∉ names ∧ .CLK_PLL_BAND_FLO ∉ names ∧ .CLK_PLL_BAND_FHI ∉ names) : t.bandOf n = s.bandOf n := by
  simp only [State.bandOf, State.bit, hk.regs _ hn.1, hk.regs _ hn.2.1, hk.regs _ hn.2.2]

/-- What the loss of PLL `n`'s lock has declared in `t`. -/
structure LockGone (n : Fin 4) (s t : State) : Prop where
  lost : ClockLost t
  gated : t.gated = s.gated ||| BitVec.ofNat 4 (2 ^ n.val)
  loss : t.bit .CLK_PLL_STAT_LOSS n = true
  locked : t.bit .CLK_PLL_STAT_LOCKED n = false
  cause : t.testF .CLK_LOSS_CAUSE 0 n = true
  back : n ≠ 0 → s.fabRuns = true → ∀ k : Fin 24, s.pairOk k = true → t.bit .PW_TRIP_CLKLOSS k = true
  mem : SameMem s t

/-- The fields of `LockGone`. -/
def lockGoneNames : List Fld := [.CLK_LOSS_ACTIVE, .PW_STAT_HON, .PW_STAT_LON, .CLK_PLL_STAT_LOSS, .CLK_PLL_STAT_LOCKED, .CLK_LOSS_CAUSE, .PW_TRIP_CLKLOSS]

/-- What a step leaves alone stays declared. -/
theorem LockGone.step {α : Type} {core : State → α} {names : List Fld} (h : LockGone n s u) (hk : KeptBut core names u v) (hn : ∀ f ∈ lockGoneNames, f ∉ names)
    (hg : v.gated = u.gated) (hm : SameMem u v) : LockGone n s v where
  lost := ClockLost.of_kept h.lost hk ⟨hn _ (by decide), hn _ (by decide), hn _ (by decide)⟩
  gated := hg.trans h.gated
  loss := (hk.bit (hn _ (by decide)) _).trans h.loss
  locked := (hk.bit (hn _ (by decide)) _).trans h.locked
  cause := (congrArg (·.testBit n) (hk.regs _ (hn _ (by decide)) 0)).trans h.cause
  back hne hfab k hok := (hk.bit (hn _ (by decide)) _).trans (h.back hne hfab k hok)
  mem := h.mem.trans hm

/-- The PLL gated, with the cause shown. -/
def State.lockCaused (s : State) (n : Fin 4) : State := (s.gatePll n).orF .CLK_LOSS_CAUSE 0 n

/-- The fields that a gated PLL with its cause writes. -/
def causeNames : List Fld := .CLK_LOSS_CAUSE :: gateNames

theorem lockCaused_kept (s : State) (n : Fin 4) : KeptBut gateCore causeNames s (s.lockCaused n) := by
  have h := gatePll_kept s n
  unfold State.lockCaused
  generalize s.gatePll n = y at *
  exact .setF (h.mono (by decide) id) (by decide)

theorem lockCaused_spec (s : State) (n : Fin 4) : let z := s.lockCaused n
    z.gated = s.gated ||| BitVec.ofNat 4 (2 ^ n.val) ∧ z.bit .CLK_PLL_STAT_LOSS n = true ∧ z.bit .CLK_PLL_STAT_LOCKED n = false ∧ z.testF .CLK_LOSS_CAUSE 0 n = true := by
  have hg := gatePll_gated s n
  obtain ⟨hloss, hlock⟩ := gatePll_lost s n n (.inr rfl)
  unfold State.lockCaused
  generalize s.gatePll n = y at *
  exact ⟨hg, (State.bit_setF_ne _ _ _ _ (by decide)).trans hloss, (State.bit_setF_ne _ _ _ _ (by decide)).trans hlock, State.testF_orF_same _ _ _ n.isLt⟩

theorem gated_zero {n : Fin 4} (hn : n ≠ 0) (g : BitVec 4) : (g ||| BitVec.ofNat 4 (2 ^ n.val)).getLsbD 0 = g.getLsbD 0 := by
  revert n g
  decide

/-- The loss with its declaration. -/
theorem lockLoss_gone (s : State) (n : Fin 4) : LockGone n s (s.lockCaused n).clockLoss := by
  have hgate := lockCaused_kept s n
  obtain ⟨hg, hloss, hlock, hcause⟩ := lockCaused_spec s n
  generalize s.lockCaused n = z at *
  have hk := clockLoss_kept z
  refine ⟨clockLoss_lost z, (pw_gated hk).trans hg, (hk.bit (by decide) _).trans hloss, (hk.bit (by decide) _).trans hlock,
    (congrArg (·.testBit n) (hk.regs .CLK_LOSS_CAUSE (by decide) 0)).trans hcause, fun hne hfab k hok => ?_, (gate_sameMem hgate).trans (pw_sameMem hk)⟩
  have hrun : z.fabRuns = true := by
    rw [← hfab, State.fabRuns, State.fabRuns, State.pll0Runs, State.pll0Runs, State.awake, State.awake, hg, gated_zero hne, hgate.regs .PMC_STAGE_STAGE (by decide)]
  have hvar : z.pairOk k = true := by
    rw [← hok, State.pairOk, State.pairOk, gate_variant hgate]
  exact clockLoss_clkloss z hrun k hvar

/-- The quads fall silent with PLL2. -/
def State.quadsWith (u : State) (n : Fin 4) : State := if n = 2 then u.gateQuads else u

theorem quadsWith_kept (u : State) (n : Fin 4) : KeptBut quadCore quadNames u (u.quadsWith n) := .ite (gateQuads_kept u) (.refl u)

/-- With AUTORELOCK the PLL acquires. -/
def State.acquireAuto (v : State) (n : Fin 4) : State := if v.bit .CLK_PLL_CTRL_AUTORELOCK n && v.refOk then v.acquire n else v

theorem acquireAuto_kept (v : State) (n : Fin 4) : KeptBut pllCore acqNames v (v.acquireAuto n) := .ite (acquire_kept v n) (.refl v)

theorem pllLockLoss_eq (haon : s.aonRuns = true) (hl : s.pllLocked n = true) :
    exec (.pllLockLoss n) s = .next (((s.lockCaused n).clockLoss.quadsWith n).acquireAuto n) := by
  change execPllLockLoss n s = _
  rw [execPllLockLoss, haon, if_neg (by decide), if_pos hl]
  rfl

theorem pllLockLoss_clause (haon : s.aonRuns = true) (hl : s.pllLocked n = true) : Answers (.pllLockLoss n) s (fun t => ClockLost t ∧
    t.gated = s.gated ||| BitVec.ofNat 4 (2 ^ n.val) ∧
    t.bit .CLK_PLL_STAT_LOSS n = true ∧ t.bit .CLK_PLL_STAT_LOCKED n = false ∧ t.testF .CLK_LOSS_CAUSE 0 n = true ∧ (n = 2 → LanesTrain s t ∧ t.quadFeed = false) ∧
    (n ≠ 0 → s.fabRuns = true → ∀ k : Fin 24, s.pairOk k = true → t.bit .PW_TRIP_CLKLOSS k = true) ∧
    (s.bit .CLK_PLL_CTRL_AUTORELOCK n = true → s.refOk = true → (s.bandOf n).isSome = true → t.bit .CLK_PLL_STAT_ACQ n = true) ∧ SameMem s t) := by
  refine ⟨_, pllLockLoss_eq haon hl, ?_⟩
  have hz := lockCaused_kept s n
  have hu := clockLoss_kept (s.lockCaused n)
  have hgone := lockLoss_gone s n
  have hup (k : Fin 96) : (s.lockCaused n).clockLoss.laneUp k = s.laneUp k :=
    State.laneUp_congr ((hu.regs _ (by decide) _).trans (hz.regs _ (by decide) _))
  have hauto : (s.lockCaused n).clockLoss.bit .CLK_PLL_CTRL_AUTORELOCK n = s.bit .CLK_PLL_CTRL_AUTORELOCK n :=
    (hu.bit (by decide) _).trans (hz.bit (by decide) _)
  have href : (s.lockCaused n).clockLoss.refOk = s.refOk := (pw_refOk hu).trans (gate_refOk hz)
  have hband : (s.lockCaused n).clockLoss.bandOf n = s.bandOf n := (bandOf_kept hu (by decide)).trans (bandOf_kept hz (by decide))
  generalize (s.lockCaused n).clockLoss = u at *
  have hv := quadsWith_kept u n
  have hquads : n = 2 → LanesTrain s (u.quadsWith n) ∧ (u.quadsWith n).quadFeed = false := by
    rintro rfl
    exact ⟨(gateQuads_lanes u).of_up hup, gateQuads_feed u⟩
  generalize u.quadsWith n = v at *
  have ht := acquireAuto_kept v n
  have hacq : v.bit .CLK_PLL_CTRL_AUTORELOCK n = true → v.refOk = true → (v.bandOf n).isSome = true → (v.acquireAuto n).bit .CLK_PLL_STAT_ACQ n = true := by
    intro h1 h2 h3
    rw [State.acquireAuto, h1, h2, if_pos (by decide)]
    exact acquire_acq h3
  generalize v.acquireAuto n = t at *
  obtain ⟨hlost, hg, hloss, hlock, hcause, hback, hmem⟩ := (hgone.step hv (by decide) (quad_gated hv) (quad_sameMem hv)).step ht (by decide) (pll_gated ht) (pll_sameMem ht)
  refine ⟨hlost, hg, hloss, hlock, hcause, fun h2 => ⟨fun k hk => ?_, (pll_quadFeed ht).trans (hquads h2).2⟩, hback, fun h1 h2 h3 => hacq ?_ ?_ ?_, hmem⟩
  · obtain ⟨hst, hls⟩ := (hquads h2).1 k hk
    exact ⟨(ht.regs .CL_PHYSTAT_LSTATE (by decide) k).trans hst, (ht.bit (by decide) _).trans hls⟩
  · exact ((hv.bit (by decide) _).trans hauto).trans h1
  · exact ((quad_refOk hv).trans href).trans h2
  · rw [bandOf_kept hv (by decide), hband]
    exact h3

end

end Sys2Proof.Machine
end

section
/-! The lock of a PLL, an acquisition, the return of the reference and the band tables (R452, R453, R457); the claims of the clocks together. -/
namespace Sys2Proof.Machine

-- The proofs one after another: all at once they would need more threads, and their stacks, than the check's memory holds.
set_option Elab.async false

section
variable {s t u v : State} {n : Fin 4}

/-! The lock (R452, R457). -/

/-- PLL `n` shows its lock, and its outputs are ungated. -/
def State.lockShown (x : State) (n : Fin 4) : State :=
  { (x.setF .CLK_PLL_STAT_ACQ n 0).setF .CLK_PLL_STAT_LOCKED n 1 with
    gated := x.gated &&& ~~~(BitVec.ofNat 4 (2 ^ n.val)), quadFeed := x.quadFeed || n == 2 }

/-- FAB runs again: the fabric latches source 68, and each pair sets CLKLOSS. -/
def State.lockBack (y : State) (n : Fin 4) (lost : Bool) : State :=
  if n = 0 ∧ y.fabRuns = true ∧ lost = true then (y.setLatch srcClkLoss true).pairsClockBack else y

theorem pllLock_eq (haon : s.aonRuns = true) (hacq : s.bit .CLK_PLL_STAT_ACQ n = true) (href : s.refOk = true) :
    exec (.pllLock n) s = .next ((((s.passTo (s.acqAt[n] + 4096)).lockShown n).lockBack n (s.bit .CLK_LOSS_ACTIVE 0)).clockCheck) := by
  change execPllLock n s = _
  rw [execPllLock, haon, hacq, href]
  rfl

/-- What a lock leaves of the state. -/
structure LockUp (n : Fin 4) (s y : State) : Prop where
  regs : ∀ f, f ≠ .CLK_PLL_STAT_ACQ → f ≠ .CLK_PLL_STAT_LOCKED → ∀ i, y.getF f i = s.getF f i
  others : ∀ k : Fin 4, k ≠ n → y.pllLocked k = s.pllLocked k
  locked : y.pllLocked n = true
  acq : y.bit .CLK_PLL_STAT_ACQ n = false
  gated : y.gated = s.gated &&& ~~~(BitVec.ofNat 4 (2 ^ n.val))
  feed : n = 2 → y.quadFeed = true
  tick : y.tick = max s.tick (s.acqAt[n] + 4096)
  ref : y.refOk = s.refOk
  variant : y.variant = s.variant
  mem : SameMem s y

theorem lockShown_up (s : State) (n : Fin 4) : LockUp n s ((s.passTo (s.acqAt[n] + 4096)).lockShown n) := by
  have hget (f : Fld) (i : Nat) : (s.passTo (s.acqAt[n] + 4096)).getF f i = s.getF f i := s.getF_passTo _ _ _
  have hmem := passTo_sameMem s (s.acqAt[n] + 4096)
  have hframe := s.passTo_frame (s.acqAt[n] + 4096)
  have htick : (s.passTo (s.acqAt[n] + 4096)).tick = max s.tick (s.acqAt[n] + 4096) := s.passTo_tick _
  generalize s.passTo (s.acqAt[n] + 4096) = x at *
  have hgate : x.gated = s.gated := by rw [hframe]
  have href : x.refOk = s.refOk := by rw [hframe]
  have hvar : x.variant = s.variant := by rw [hframe]
  have hshown (f : Fld) (i : Nat) : (x.lockShown n).getF f i = ((x.setF .CLK_PLL_STAT_ACQ n 0).setF .CLK_PLL_STAT_LOCKED n 1).getF f i := rfl
  refine ⟨fun f h1 h2 i => ?_, fun k hk => ?_, ?_, ?_, congrArg (· &&& ~~~(BitVec.ofNat 4 (2 ^ n.val))) hgate, fun h2 => ?_, htick, href, hvar, fun a => hmem a⟩
  · rw [hshown, State.getF_setF_ne _ _ _ _ h2, State.getF_setF_ne _ _ _ _ h1, hget]
  · rw [State.pllLocked, State.bit, hshown, State.getF_setF_idx _ _ _ _ _ (fun h => hk (Fin.ext (by omega))), State.getF_setF_ne _ _ _ _ (by decide), hget,
      State.pllLocked, State.bit]
  · rw [State.pllLocked, State.bit, hshown, State.getF_setF_same]
    rfl
  · rw [State.bit, hshown, State.getF_setF_ne _ _ _ _ (by decide), State.getF_setF_same]
    rfl
  · subst h2
    exact Bool.or_true _

/-- The fields that a lock of PLL0 writes when FAB runs again. -/
def backNames : List Fld := .TRIP_LAT2_CLKLOSS :: lossNames

theorem lockBack_kept (y : State) (n : Fin 4) (lost : Bool) : KeptBut pwCore backNames y (y.lockBack n lost) := by
  refine .ite ?_ (.refl y)
  have hset : KeptBut pwCore backNames y (y.setLatch srcClkLoss true) := .setF (f := .TRIP_LAT2_CLKLOSS) (.refl y) (by decide)
  exact hset.trans ((pairsClockBack_kept _).mono (by decide) id)

theorem lockBack_back (y : State) (hfab : y.fabRuns = true) : (y.lockBack 0 true).latched 68 = true ∧
    ∀ k : Fin 24, y.pairOk k = true → (y.lockBack 0 true).bit .PW_TRIP_CLKLOSS k = true := by
  have hset : (y.setLatch srcClkLoss true).bit .TRIP_LAT2_CLKLOSS 0 = true :=
    (State.bit_setF_same y .TRIP_LAT2_CLKLOSS 0 1).trans rfl
  have hvar (k : Fin 24) : (y.setLatch srcClkLoss true).pairOk k = y.pairOk k := rfl
  rw [State.lockBack, if_pos ⟨rfl, hfab, rfl⟩]
  generalize y.setLatch srcClkLoss true = z at *
  exact ⟨((pairsClockBack_kept z).bit (f := .TRIP_LAT2_CLKLOSS) (by decide) 0).trans hset, fun k hok => pairsClockBack_clkloss z k ((hvar k).trans hok)⟩

theorem clockCheck_kept {α : Type} {core : State → α} (s : State) (hc : core (s.setF .CLK_LOSS_ACTIVE 0 0) = core s) : KeptBut core [.CLK_LOSS_ACTIVE] s s.clockCheck :=
  .ite (.setF (.refl s) (by decide) hc) (.refl s)

/-- The loss ends with the reference and every lock (R457). -/
theorem clockCheck_ends (href : s.refOk = true) (hall : ∀ k : Fin 4, s.pllLocked k = true) : s.clockCheck.bit .CLK_LOSS_ACTIVE 0 = false := by
  have hlocked : s.allLocked = true := List.all_eq_true.2 fun k hk => hall ⟨k, List.mem_range.1 hk⟩
  rw [State.clockCheck, href, hlocked, Bool.and_true, Bool.and_true]
  split
  · rw [State.bit_setF_same]
    rfl
  next h => exact Bool.eq_false_iff.2 h

theorem gated_zeroClear (g : BitVec 4) : (g &&& ~~~(BitVec.ofNat 4 (2 ^ (0 : Fin 4).val))).getLsbD 0 = false := by
  revert g
  decide

theorem pllLock_clause (haon : s.aonRuns = true) (hacq : s.bit .CLK_PLL_STAT_ACQ n = true) (href : s.refOk = true) :
    Answers (.pllLock n) s (fun t => t.bit .CLK_PLL_STAT_LOCKED n = true ∧
    t.tick = max s.tick (s.acqAt[n] + 4096) ∧ t.bit .CLK_PLL_STAT_ACQ n = false ∧ t.gated = s.gated &&& ~~~BitVec.ofNat 4 (2 ^ n.val) ∧ (n = 2 → t.quadFeed = true) ∧
    (n = 0 → s.awake = true → s.bit .CLK_LOSS_ACTIVE 0 = true → t.latched 68 = true ∧ ∀ k : Fin 24, s.pairOk k = true → t.bit .PW_TRIP_CLKLOSS k = true) ∧
    ((∀ k : Fin 4, k ≠ n → s.pllLocked k = true) → t.bit .CLK_LOSS_ACTIVE 0 = false) ∧ SameMem s t) := by
  refine ⟨_, pllLock_eq haon hacq href, ?_⟩
  have hup := lockShown_up s n
  generalize (s.passTo (s.acqAt[n] + 4096)).lockShown n = y at *
  have hk := lockBack_kept y n (s.bit .CLK_LOSS_ACTIVE 0)
  have hback : n = 0 → s.awake = true → s.bit .CLK_LOSS_ACTIVE 0 = true → (y.lockBack n (s.bit .CLK_LOSS_ACTIVE 0)).latched 68 = true ∧
      ∀ k : Fin 24, s.pairOk k = true → (y.lockBack n (s.bit .CLK_LOSS_ACTIVE 0)).bit .PW_TRIP_CLKLOSS k = true := by
    rintro rfl haw hlost
    have hfab : y.fabRuns = true := by
      rw [State.fabRuns, State.pll0Runs, hup.gated, gated_zeroClear, State.awake, hup.regs _ (by decide) (by decide)]
      exact haw
    rw [hlost]
    obtain ⟨hlatch, hclk⟩ := lockBack_back y hfab
    refine ⟨hlatch, fun k hok => hclk k ?_⟩
    rw [← hok, State.pairOk, State.pairOk, hup.variant]
  generalize y.lockBack n (s.bit .CLK_LOSS_ACTIVE 0) = z at *
  have hc : KeptBut pwCore [.CLK_LOSS_ACTIVE] z z.clockCheck := clockCheck_kept z rfl
  have hends := clockCheck_ends (s := z)
  generalize z.clockCheck = t at *
  have hlock (k : Fin 4) : z.pllLocked k = y.pllLocked k := hk.bit (by decide) _
  refine ⟨(hc.bit (by decide) _).trans ((hlock n).trans hup.locked), (pw_tick hc).trans ((pw_tick hk).trans hup.tick),
    (hc.bit (by decide) _).trans ((hk.bit (by decide) _).trans hup.acq), (pw_gated hc).trans ((pw_gated hk).trans hup.gated),
    fun h2 => (pw_quadFeed hc).trans ((pw_quadFeed hk).trans (hup.feed h2)), fun h0 haw hlost => ?_, fun hall => ?_,
    (hup.mem.trans (pw_sameMem hk)).trans (pw_sameMem hc)⟩
  · obtain ⟨hlatch, hclk⟩ := hback h0 haw hlost
    exact ⟨(hc.bit (f := .TRIP_LAT2_CLKLOSS) (by decide) 0).trans hlatch, fun k hok => (hc.bit (by decide) _).trans (hclk k hok)⟩
  · refine hends (((pw_refOk hk).trans hup.ref).trans href) fun k => (hlock k).trans ?_
    by_cases hkn : k = n
    · rw [hkn]
      exact hup.locked
    · exact (hup.others k hkn).trans (hall k hkn)

/-! An acquisition (R452, R453). -/

theorem pllRelock_eq (haon : s.aonRuns = true) (hg : s.gated.getLsbD n = true) (href : s.refOk = true) (hacq : s.bit .CLK_PLL_STAT_ACQ n = false) :
    exec (.pllRelock n) s = .next (s.acquire n) := by
  change execPllRelock n s = _
  rw [execPllRelock, State.relock, hg, href, haon, hacq]
  rfl

/-- The state with an acquisition of PLL `n` begun. -/
def State.acquiring (s : State) (n : Fin 4) : State := { s with
  acqAt := s.acqAt.set n s.tick, ditherAt := if n = 3 then s.tick else s.ditherAt,
  ditherSeed := if n = 3 then (if s.getF .CLK_PLL_DITHER_SEED 3 = 0 then 0xACE1#16 else BitVec.ofNat 16 (s.getF .CLK_PLL_DITHER_SEED 3)) else s.ditherSeed }

theorem acquire_eq (hband : (s.bandOf n).isSome = true) : s.acquire n = (s.acquiring n).setF .CLK_PLL_STAT_ACQ n 1 := by
  rw [State.acquire, if_pos hband, State.loadDither, State.acquiring]
  by_cases h3 : n = 3
  · subst h3
    rfl
  · rw [if_neg h3, if_neg h3, if_neg h3]

theorem pllRelock_clause (haon : s.aonRuns = true) (hg : s.gated.getLsbD n = true) (href : s.refOk = true) (hacq : s.bit .CLK_PLL_STAT_ACQ n = false) :
    ((s.bandOf n).isSome = true → SetsOn (.pllRelock n) s (s.acquiring n) [(.CLK_PLL_STAT_ACQ, n, 1)]) ∧
    (s.bandOf n = none → Sets (.pllRelock n) s [(.CLK_PLL_STAT_NOBAND, n, 1)]) := by
  have hexec := pllRelock_eq haon hg href hacq
  refine ⟨fun hband => ?_, fun hband => ?_⟩
  · rw [acquire_eq hband] at hexec
    exact .of_setAll hexec (List.nodup_singleton _) (by simp) rfl
  · rw [State.acquire, hband, if_neg (by decide)] at hexec
    exact .one hexec (by decide)

/-! The return of the reference (R457). -/

theorem autoRelock_kept (s : State) (n : Fin 4) : KeptBut pllCore acqNames s (s.autoRelock n) := .ite (relock_kept s n) (.refl s)

theorem autoRelock_acqKept {k : Fin 4} (h : s.bit .CLK_PLL_STAT_ACQ k = true) : (s.autoRelock n).bit .CLK_PLL_STAT_ACQ k = true := by
  unfold State.autoRelock State.relock
  split
  · split
    · exact acquire_acqKept h
    · exact h
  · exact h

theorem autoRelock_acq (hauto : s.bit .CLK_PLL_CTRL_AUTORELOCK n = true) (hg : s.gated.getLsbD n = true) (href : s.refOk = true) (haon : s.aonRuns = true)
    (hband : (s.bandOf n).isSome = true) : (s.autoRelock n).bit .CLK_PLL_STAT_ACQ n = true := by
  rw [State.autoRelock, if_pos hauto, State.relock, hg, href, haon, Bool.true_and, Bool.true_and, Bool.true_and]
  cases hacq : s.bit .CLK_PLL_STAT_ACQ n with
  | true => exact hacq
  | false => exact acquire_acq hband

/-- The reference back, with the comparators' ticks. -/
def State.refBack (s : State) : State := { s.ticksReturn with refOk := true }

theorem referenceReturn_clause (href : s.refOk = false) : Answers .referenceReturn s (fun t => t.refOk = true ∧ t.gated = s.gated ∧ SameMem s t ∧
    (∀ k : Fin 4, s.aonRuns = true → s.gated.getLsbD k = true → s.bit .CLK_PLL_CTRL_AUTORELOCK k = true → (s.bandOf k).isSome = true →
      t.bit .CLK_PLL_STAT_ACQ k = true)) := by
  have hexec : exec .referenceReturn s = .next (forIdx (n := 4) (fun n t => t.autoRelock n) s.refBack) := by
    change execReferenceReturn s = _
    rw [execReferenceReturn, href]
    rfl
  have hr : s.refBack.refOk = true := rfl
  have hg : s.refBack.gated = s.gated := rfl
  have hm : SameMem s s.refBack := fun _ => rfl
  have hp : s.refBack.pmc = s.pmc := rfl
  have hb (f : Fld) (i : Nat) : s.refBack.bit f i = s.bit f i := rfl
  have hband (k : Fin 4) : s.refBack.bandOf k = s.bandOf k := rfl
  generalize s.refBack = x at *
  have hk : KeptBut pllCore acqNames x (forIdx (n := 4) (fun n t => t.autoRelock n) x) := .forIdx (.refl x) fun y n hy => hy.trans (autoRelock_kept y n)
  refine ⟨_, hexec, (pll_refOk hk).trans hr, (pll_gated hk).trans hg, hm.trans (pll_sameMem hk), fun k haon hgk hauto hbk => ?_⟩
  refine forIdx_establish (f := fun n t => t.autoRelock n) (P := KeptBut pllCore acqNames x) (Q := fun t => t.bit .CLK_PLL_STAT_ACQ k = true) k (.refl x)
    (fun y j hy => hy.trans (autoRelock_kept y j)) (fun y j _ hq => autoRelock_acqKept hq) fun y hy => ?_
  refine autoRelock_acq ?_ ?_ ((pll_refOk hy).trans hr) ?_ ?_
  · exact (hy.bit (by decide) _).trans ((hb _ _).trans hauto)
  · rw [pll_gated hy, hg]
    exact hgk
  · rw [State.aonRuns, pll_pmc hy, hp]
    exact haon
  · rw [bandOf_kept hy (by decide), hband]
    exact hbk

/-! The band tables (R452). -/

theorem bandWrite_refused (m : Fin 16) (w : Word) (hbus : s.busRuns = true) (hacq : s.bit .CLK_PLL_STAT_ACQ n = true) :
    Sets (.bandWrite n m w) s [(.CLK_PLL_STAT_BTERR, n, 1)] := by
  refine .one ?_ (by decide)
  change execBandWrite n m w s = _
  rw [execBandWrite, if_pos hbus, State.writeBand, if_pos hacq]

theorem bandWrite_stored (m : Fin 16) (w : Word) (hbus : s.busRuns = true) (hacq : s.bit .CLK_PLL_STAT_ACQ n = false) :
    Sets (.bandWrite n m w) s [(.CLK_PLL_BAND_VALID, n.val * 16 + m.val, w.toNat / 2 ^ 31), (.CLK_PLL_BAND_BAND, n.val * 16 + m.val, w.toNat / 2 ^ 24 % 64),
      (.CLK_PLL_BAND_FLO, n.val * 16 + m.val, w.toNat / 2 ^ 12 % 4096), (.CLK_PLL_BAND_FHI, n.val * 16 + m.val, w.toNat % 4096)] := by
  have hw := w.isLt
  have hvalid : b2n (w.getLsbD 31) = w.toNat / 2 ^ 31 := by
    rw [BitVec.getLsbD, Nat.testBit_eq_decide_div_mod_eq, b2n]
    split
    · simp_all
      omega
    · simp_all
      omega
  refine .of_setAll ?_ (writtenKeys_nodup (by simp)) ?_ rfl
  · change execBandWrite n m w s = _
    rw [execBandWrite, if_pos hbus, State.writeBand, hacq, if_neg (by decide)]
    unfold State.setBit
    rw [hvalid]
    simp [bandIdx, bitsOf]
    rfl
  · have h1 : Fld.CLK_PLL_BAND_VALID.width = 1 := rfl
    have h2 : Fld.CLK_PLL_BAND_BAND.width = 6 := rfl
    have h3 : Fld.CLK_PLL_BAND_FLO.width = 12 := rfl
    have h4 : Fld.CLK_PLL_BAND_FHI.width = 12 := rfl
    simp [h1, h2, h3, h4]
    omega

theorem clocks : Claims.Clocks := fun _ m w _ =>
  ⟨refLoss_unpowered, refLoss_clause, quadFeedGate_clause, pllLockLoss_clause, rc16Loss_clause, pllLock_clause, pllRelock_clause, referenceReturn_clause,
    bandWrite_refused m w, bandWrite_stored m w⟩

end

end Sys2Proof.Machine
end

section
/-! The reset of a power domain and its power-down (R43, R459). -/
namespace Sys2Proof.Machine

-- The proofs one after another: all at once they would need more threads, and their stacks, than the check's memory holds.
set_option Elab.async false

section
variable {s t u : State} {d : Nat}

/-! What the return of a domain's units to reset leaves (R147, R459). -/

/-- The fields that show something of their own right after the reset. -/
def shownNames : List Fld := [.CLG_CTRL_CLRGO, .CLG_STAT_CLRDONE, .AUX_STAT_VDRVUV, .AUX_STAT_VHVUV]

/-- What the reset of a domain leaves beside the registers. -/
structure DomainLeaves (s t : State) : Prop where
  pmc : t.pmc = s.pmc
  variant : t.variant = s.variant
  vreg : t.vreg = s.vreg
  low : t.auxc.vdLow = s.auxc.vdLow ∧ t.auxc.vhLow = s.auxc.vhLow

theorem DomainLeaves.trans (h : DomainLeaves s t) (h' : DomainLeaves t u) : DomainLeaves s u :=
  ⟨h'.pmc.trans h.pmc, h'.variant.trans h.variant, h'.vreg.trans h.vreg, h'.low.1.trans h.low.1, h'.low.2.trans h.low.2⟩

/-- The reset of domain `d`. -/
structure DomainReset (d : Nat) (s t : State) : Prop where
  leaves : DomainLeaves s t
  reset : ∀ f i, f ∉ shownNames → f.spec.cls ≠ .bk → fldDomain f (i % 1024) = d → t.getF f i = f.spec.rst
  kept : ∀ f i, f ∉ shownNames → f ≠ .TOUT_CTRL_ENST → (f.spec.cls = .bk ∨ fldDomain f (i % 1024) ≠ d) → t.getF f i = s.getF f i
  shown : d = 13 → SupplyShown t

/-- The mirror link down, and the pegs of the domain's engines broken. -/
def State.domainCut (s : State) (d : Nat) : State :=
  (List.finRange 24).foldl (fun t (n : Fin 24) => if domEngine d n then t.breakPegs n else t) (if d = domMir then s.mirDown else s)

theorem domainCut_frame (s : State) (d : Nat) : s.domainCut d = { s with twin := (s.domainCut d).twin, pegs := (s.domainCut d).pegs } := by
  refine List.foldlRecOn (motive := fun t : State => t = { s with twin := t.twin, pegs := t.pegs }) _ _ ?_ fun t ht n _ => ?_
  · split
    · rw [mirDown_frame]
    · rfl
  · split
    · rw [State.breakPegs, ht]
    · exact ht

/-- The fields that return to their reset values. -/
def State.domainFields (s : State) (d : Nat) : State := s.resetFields (fun f i => f.spec.cls != .bk && fldDomain f i == d)

theorem domainReset_eq (s : State) (d : Nat) : s.domainReset d = ((((s.domainCut d).domainFields d).resetUnits d).loseMemories d).clearCheck := rfl

theorem getF_domainFields (s : State) (d : Nat) (f : Fld) (i : Nat) : (s.domainFields d).getF f i =
    if f.spec.cls ≠ .bk ∧ fldDomain f (i % 1024) = d then f.spec.rst else s.getF f i := by
  rw [State.domainFields, State.getF_resetFields]
  cases f.spec.cls <;> simp

/-- The timed outputs are domain 9's, and stay OFF in it. -/
theorem resetUnits_tout (s : State) (i : Nat) (h : s.getF .TOUT_CTRL_ENST i = 0) : (s.resetUnits 9).getF .TOUT_CTRL_ENST i = 0 := by
  have hcells : (s.resetCells 9).getF .TOUT_CTRL_ENST i = 0 := h
  rw [resetUnits_nine]
  generalize s.resetCells 9 = x at *
  have hports (y : State) : (y.portsReset s.tick).getF .TOUT_CTRL_ENST i = y.getF .TOUT_CTRL_ENST i := rfl
  rw [hports, State.toutsOff, forIdx]
  refine List.foldlRecOn (motive := fun t : State => t.getF .TOUT_CTRL_ENST i = 0) _ _ hcells fun t ht n _ => ?_
  rw [State.getF_setF]
  split
  · rfl
  · exact ht

theorem loseMemories_frame (s : State) (d : Nat) : s.loseMemories d = { s with
    mem := (s.loseMemories d).mem, lost := (s.loseMemories d).lost, free := (s.loseMemories d).free } := by
  unfold State.loseMemories
  split <;> rfl

theorem domainReset_spec (s : State) (d : Nat) : DomainReset d s (s.domainReset d) := by
  have hcut := domainCut_frame s d
  have hget (f : Fld) (i : Nat) : (s.domainCut d).getF f i = s.getF f i := by rw [hcut, State.getF, State.getF]
  have hleave : DomainLeaves s ((s.domainCut d).domainFields d) := by
    rw [hcut]
    exact ⟨rfl, rfl, rfl, rfl, rfl⟩
  have hfields := getF_domainFields (s.domainCut d) d
  rw [domainReset_eq]
  generalize (s.domainCut d).domainFields d = x at *
  obtain ⟨hunits, -, hshown, -⟩ := resetUnits_spec x d
  have htout : ∀ i, d = 9 → x.getF .TOUT_CTRL_ENST i = 0 → (x.resetUnits d).getF .TOUT_CTRL_ENST i = 0 := by
    rintro i rfl
    exact resetUnits_tout x i
  generalize x.resetUnits d = y at *
  have hlose := loseMemories_frame y d
  have hcheck := (y.loseMemories d).clearCheck_spec
  have hgetc {f : Fld} (hf : f ∉ shownNames) (i : Nat) : (y.loseMemories d).clearCheck.getF f i = y.getF f i := by
    rw [State.clearCheck_getF _ (fun h => hf (by rw [h]; decide)) (fun h => hf (by rw [h]; decide)), hlose, State.getF, State.getF]
  have hregs {f : Fld} (hf : f ∉ shownNames) (ht : f ≠ .TOUT_CTRL_ENST) (i : Nat) : y.getF f i = x.getF f i := by
    refine hunits.regs.getF_eq (fun e he heq => ?_) i
    rcases unitResetKeys_names e he with h | h | h
    · exact ht (heq.symm.trans h)
    · exact hf (by rw [← heq, h]; decide)
    · exact hf (by rw [← heq, h]; decide)
  refine ⟨hleave.trans ?_, fun f i hf hbk hd => ?_, fun f i hf ht hno => ?_, fun h13 => ?_⟩
  · rw [hcheck.1, hlose]
    exact ⟨hunits.pmc, hunits.variant, hunits.vreg, hunits.low⟩
  · rw [hgetc hf]
    have hrst : x.getF f i = f.spec.rst := (hfields f i).trans (if_pos ⟨hbk, hd⟩)
    by_cases ht : f = .TOUT_CTRL_ENST
    · subst ht
      exact htout i hd.symm hrst
    · rw [hregs hf ht, hrst]
  · rw [hgetc hf, hregs hf ht, hfields, if_neg (fun h => hno.elim h.1 (fun h' => h' h.2)), hget]
  · have hy := hshown (.inr h13)
    have hvd : (y.loseMemories d).clearCheck.getF .AUX_STAT_VDRVUV 0 = y.getF .AUX_STAT_VDRVUV 0 := by
      rw [State.clearCheck_getF _ (by decide) (by decide), hlose, State.getF, State.getF]
    have hvh : (y.loseMemories d).clearCheck.getF .AUX_STAT_VHVUV 0 = y.getF .AUX_STAT_VHVUV 0 := by
      rw [State.clearCheck_getF _ (by decide) (by decide), hlose, State.getF, State.getF]
    have haux : (y.loseMemories d).clearCheck.auxc = y.auxc := by rw [hcheck.1, hlose]
    rw [SupplyShown, State.bit, State.bit, hvd, hvh, haux]
    exact hy

/-- The reset of domain 13 shows the supplies at its pins as they stand. -/
theorem DomainReset.supply (h : DomainReset d s t) (h13 : d = 13) : AuxSupplyShown s t := by
  obtain ⟨hvd, hvh⟩ := h.shown h13
  obtain ⟨hd, hh⟩ := h.leaves.low
  exact ⟨hvd.trans hd, hvh.trans hh, hd, hh⟩

/-! A device without its mirror is SINGLE (R411). -/

/-- What a device that becomes SINGLE keeps beside the registers. -/
def singleCore (x : State) := (x.pmc, x.variant, x.vreg, x.auxc)

/-- The fields that a device which becomes SINGLE writes. -/
def singleNames : List Fld := [.ATU_PHERR_PHERR, .ATU_STAT_SLEWING, .ATU_FREQ_FREQ, .MIR_STAT_ROLE, .PWM_STAT_OWNER, .MIR_STAT_SYNCED, .MIR_CTRL_HANDOVER, .JNL_STAT_REPLAYING]

theorem leaveFollow_kept (s : State) : KeptBut singleCore singleNames s s.leaveFollow := by
  obtain ⟨hframe, hregs, -⟩ := s.leaveFollow_spec
  exact .of_regsBut ((congrArg singleCore hframe).trans rfl) hregs (by decide)

/-- The device is SINGLE and has its OWNER_OUT, the handover dropped. -/
def State.singled (x : State) : State := (x.setRole roleSingle).setF .MIR_CTRL_HANDOVER 0 0

/-- The twin logic of a SINGLE device. -/
def TwinSt.single (t : TwinSt) : TwinSt :=
  { t with joinAt := none, hb := [], hoFret := none, soloDue := false, yieldDue := false, syncRun := 0, syncedThen := false, pwLoad := none,
           copyDone := false }

/-- A device that did not command replays its journal. -/
def State.singleEnd (y : State) (replays : Bool) : State := if replays then (y.modTwin TwinSt.single).startReplay else y.modTwin TwinSt.single

theorem becomeSingle_eq (s : State) : s.becomeSingle = s.leaveFollow.singled.singleEnd (!s.commanding && decide (2 ≤ s.getF .PMC_STAGE_STAGE 0)) := rfl

theorem singled_kept (x : State) : KeptBut singleCore singleNames x x.singled :=
  .setF (.setWhen (.setF (.setF (.refl x) (by decide)) (by decide)) (by decide)) (by decide)

theorem singled_shown (x : State) : x.singled.getF .MIR_STAT_ROLE 0 = 0 ∧ x.singled.bit .PWM_STAT_OWNER 0 = true := by
  constructor
  · exact (State.getF_setF_ne _ _ _ _ (by decide)).trans ((setRole_getF _ _ (by decide) (by decide)).trans (State.getF_setF_same _ _ _ _))
  · refine (State.bit_setF_ne _ _ _ _ (by decide)).trans ((congrArg (· == 1) (State.getF_setWhen_ne _ _ _ _ _ (by decide))).trans ?_)
    exact (State.bit_setF_same ..).trans rfl

theorem singleEnd_kept (y : State) (b : Bool) : KeptBut singleCore [.JNL_STAT_REPLAYING] y (y.singleEnd b) := by
  have htwin : KeptBut singleCore [.JNL_STAT_REPLAYING] y (y.modTwin TwinSt.single) := .upd (.refl y) rfl rfl
  exact .ite (.setF (.upd htwin rfl rfl) (by decide)) htwin

theorem becomeSingle_kept (s : State) : KeptBut singleCore singleNames s s.becomeSingle := by
  rw [becomeSingle_eq]
  exact ((leaveFollow_kept s).trans (singled_kept _)).trans ((singleEnd_kept _ _).mono (by decide) id)

theorem becomeSingle_shown (s : State) : s.becomeSingle.getF .MIR_STAT_ROLE 0 = 0 ∧ s.becomeSingle.bit .PWM_STAT_OWNER 0 = true := by
  rw [becomeSingle_eq]
  obtain ⟨hrole, hown⟩ := singled_shown s.leaveFollow
  have hend := singleEnd_kept s.leaveFollow.singled (!s.commanding && decide (2 ≤ s.getF .PMC_STAGE_STAGE 0))
  exact ⟨(hend.regs _ (by decide) 0).trans hrole, (hend.bit (by decide) 0).trans hown⟩

/-! A power-down (R43, R459). -/

/-- Where the mirror goes off, the device becomes SINGLE. -/
def State.leavesPair (s : State) (d : Nat) : State := if d = domMir ∧ s.awake = true then s.becomeSingle else s

theorem leavesPair_kept (s : State) (d : Nat) : KeptBut singleCore singleNames s (s.leavesPair d) := .ite (becomeSingle_kept s) (.refl s)

/-- The bit of the domain goes, and PDWAIT follows. -/
def State.powerShown (x : State) (d : Nat) : State :=
  (if x.testF .PMC_PDSTAT_PWR 0 d then x.setF .PMC_PDSTAT_PWR 0 (x.getF .PMC_PDSTAT_PWR 0 - 2 ^ d) else x).pdwait

theorem powerOff_eq (s : State) (d : Nat) : s.powerOff d = ((s.leavesPair d).domainReset d).powerShown d := rfl

/-- What a power-down shows beside the domain's own fields. -/
def powerNames : List Fld := [.PMC_PDSTAT_PWR, .PMC_PDSTAT_PDWAIT]

theorem pdwait_kept {α : Type} {core : State → α} (x : State) (hc : core x.pdwait = core x := by rfl) : KeptBut core powerNames x x.pdwait :=
  .setF (.refl x) (by decide) hc

theorem powerShown_kept (x : State) (d : Nat) : KeptBut singleCore powerNames x (x.powerShown d) :=
  (KeptBut.ite (.setF (.refl x) (by decide)) (.refl x)).trans (pdwait_kept _)

theorem powerShown_bits (x : State) (d e : Nat) (he : e < 14) : (x.powerShown d).testF .PMC_PDSTAT_PWR 0 e = (x.testF .PMC_PDSTAT_PWR 0 e && decide (e ≠ d)) := by
  have hwidth : Fld.PMC_PDSTAT_PWR.width = 14 := rfl
  have hwait (y : State) : y.pdwait.testF .PMC_PDSTAT_PWR 0 e = y.testF .PMC_PDSTAT_PWR 0 e :=
    congrArg (·.testBit e) (State.getF_setF_ne _ _ _ _ (by decide))
  rw [State.powerShown, hwait]
  split
  next h =>
    rw [State.testF, State.getF_setF_same, hwidth, Nat.testBit_mod_two_pow, testBit_sub_two_pow h, State.testF]
    simp [he]
  next h =>
    by_cases hed : e = d
    · subst hed
      simp [h]
    · simp [hed]

/-- The state fields of the units of the domains that software switches. -/
def unitStates : List Fld := [.MIR_STAT_ENST, .CMP_STATUS_ENST, .AD_STAT_ENST, .AUXH_STAT_ENST, .CE_STAT_ENST, .CL_STAT_ENST]

/-- What the power-down of domain `d` leaves. -/
structure PoweredDown (d : Nat) (s t : State) : Prop where
  pmc : t.pmc = s.pmc
  variant : t.variant = s.variant
  asked : t.getF .PMC_PDREQ_REQ 0 = s.getF .PMC_PDREQ_REQ 0
  err : t.getF .PMC_PDSTAT_PDERR 0 = s.getF .PMC_PDSTAT_PDERR 0
  off : ∀ f ∈ unitStates, ∀ i, s.getF f i = enstOff → t.getF f i = enstOff
  bits : ∀ e < 14, t.testF .PMC_PDSTAT_PWR 0 e = (s.testF .PMC_PDSTAT_PWR 0 e && decide (e ≠ d))

theorem unitStates_rst : ∀ f ∈ unitStates, f.spec.rst = enstOff ∧ f ∉ shownNames ∧ f ≠ .TOUT_CTRL_ENST ∧ f ∉ singleNames ∧ f ∉ powerNames := by decide

theorem powerFields_aon : fldDomain .PMC_PDREQ_REQ 0 = 1 ∧ fldDomain .PMC_PDSTAT_PDERR 0 = 1 ∧ fldDomain .PMC_PDSTAT_PWR 0 = 1 := by decide

theorem powerOff_down (s : State) (hd : 4 ≤ d) : PoweredDown d s (s.powerOff d) := by
  have h1 := leavesPair_kept s d
  have h2 := domainReset_spec (s.leavesPair d) d
  rw [powerOff_eq]
  generalize s.leavesPair d = x at *
  generalize x.domainReset d = y at *
  have h3 := powerShown_kept y d
  have hbits := fun e he => powerShown_bits y d e he
  generalize y.powerShown d = t at *
  obtain ⟨hreq, herr, hpwr⟩ := powerFields_aon
  refine ⟨(congrArg (·.1) h3.core).trans (h2.leaves.pmc.trans (congrArg (·.1) h1.core)),
    (congrArg (·.2.1) h3.core).trans (h2.leaves.variant.trans (congrArg (·.2.1) h1.core)), ?_, ?_, fun f hf i hoff => ?_, fun e he => ?_⟩
  · exact (h3.regs _ (by decide) 0).trans ((h2.kept _ 0 (by decide) (by decide) (.inr (by rw [hreq]; omega))).trans (h1.regs _ (by decide) 0))
  · exact (h3.regs _ (by decide) 0).trans ((h2.kept _ 0 (by decide) (by decide) (.inr (by rw [herr]; omega))).trans (h1.regs _ (by decide) 0))
  · obtain ⟨hrst, hs, ht, hn, hp⟩ := unitStates_rst f hf
    rw [h3.regs f hp i]
    by_cases hin : f.spec.cls = .bk ∨ fldDomain f (i % 1024) ≠ d
    · rw [h2.kept f i hs ht hin, h1.regs f hn i]
      exact hoff
    · obtain ⟨hbk, hdom⟩ := not_or.1 hin
      rw [h2.reset f i hs hbk (not_not.1 hdom), hrst]
  · rw [hbits e he, State.testF, h2.kept _ 0 (by decide) (by decide) (.inr (by rw [hpwr]; omega)), h1.regs _ (by decide) 0, State.testF]

theorem powerNames_aon (i : Nat) : ∀ f ∈ powerNames, fldDomain f i = 1 := by
  simp only [powerNames, List.mem_cons, List.not_mem_nil, or_false]
  rintro f (rfl | rfl)
  · rfl
  · rfl

/-- What the power-down of domain `d` shows: its registers at reset, and without the mirror a SINGLE device. -/
theorem powerOff_shown (s : State) (hd : 4 ≤ d) : let t := s.powerOff d
    (d = 10 → s.stage ≠ 0 → t.role = 0 ∧ t.bit .PWM_STAT_OWNER 0 = true) ∧ (d = 13 → AuxSupplyShown s t) ∧
    ∀ f i, f.spec.cls ≠ .bk → fldDomain f (i % 1024) = d → f ∉ shownNames → t.getF f i = f.spec.rst := by
  intro t
  have h1 := leavesPair_kept s d
  have h2 := domainReset_spec (s.leavesPair d) d
  have hsingle : d = 10 → s.stage ≠ 0 → (s.leavesPair d).getF .MIR_STAT_ROLE 0 = 0 ∧ (s.leavesPair d).bit .PWM_STAT_OWNER 0 = true := by
    rintro rfl h0
    rw [State.leavesPair, if_pos ⟨rfl, decide_eq_true (Nat.one_le_iff_ne_zero.2 h0)⟩]
    exact becomeSingle_shown s
  have ht : t = ((s.leavesPair d).domainReset d).powerShown d := powerOff_eq s d
  clear_value t
  generalize s.leavesPair d = x at *
  generalize x.domainReset d = y at *
  have h3 := powerShown_kept y d
  rw [← ht] at h3
  have hcore : singleCore t = singleCore y := h3.core
  refine ⟨fun h10 h0 => ?_, fun h13 => ?_, fun f i hbk hdom hf => ?_⟩
  · obtain ⟨hrole, hown⟩ := hsingle h10 h0
    refine ⟨(h3.regs .MIR_STAT_ROLE (by decide) 0).trans (h2.reset _ 0 (by decide) (by decide) ?_), (h3.bit (by decide) 0).trans ?_⟩
    · subst h10
      decide
    · refine (congrArg (· == 1) (h2.kept .PWM_STAT_OWNER 0 (by decide) (by decide) (.inr ?_))).trans hown
      subst h10
      decide
  · obtain ⟨hvd, hvh, hlow, hhigh⟩ := h2.supply h13
    have haux : t.auxc = y.auxc := congrArg (·.2.2.2) hcore
    have hsup : x.auxc = s.auxc := congrArg (·.2.2.2) h1.core
    rw [AuxSupplyShown, h3.bit (by decide), h3.bit (by decide), haux, ← hsup]
    exact ⟨hvd, hvh, hlow, hhigh⟩
  · have hp : f ∉ powerNames := by
      intro hp
      have hone := powerNames_aon (i % 1024) f hp
      omega
    exact (h3.regs f hp i).trans (h2.reset f i hf hbk hdom)

end

end Sys2Proof.Machine
end

section
/-! Software power-down and power-up of the domains (R43, R459). -/
namespace Sys2Proof.Machine

-- The proofs one after another: all at once they would need more threads, and their stacks, than the check's memory holds.
set_option Elab.async false

section
variable {s t u : State} {d : Nat}

theorem notShown {f : Fld} (h1 : f ≠ .CLG_CTRL_CLRGO) (h2 : f ≠ .CLG_STAT_CLRDONE) (h3 : f ≠ .AUX_STAT_VDRVUV) (h4 : f ≠ .AUX_STAT_VHVUV) : f ∉ shownNames := by
  simp [shownNames, h1, h2, h3, h4]

theorem powered_false (h : t.testF .PMC_PDSTAT_PWR 0 d = false) : t.powered d = false := by
  rw [State.powered, h, Bool.and_false, Bool.false_and]

theorem powered_congr (hv : t.variant = s.variant) (hp : t.pmc = s.pmc) (h : t.testF .PMC_PDSTAT_PWR 0 d = s.testF .PMC_PDSTAT_PWR 0 d) : t.powered d = s.powered d := by
  rw [State.powered, State.powered, hv, h, State.aonRuns, State.aonRuns, hp]

theorem le_of_offAsked (h : s.offAsked d = true) : 4 ≤ d := of_decide_eq_true (Bool.and_eq_true _ _ ▸ h).1

/-! The last unit reaches OFF; the domain comes back. -/

theorem powerDownDone_clause (d : Fin 14) (haon : s.aonRuns = true) (hask : s.offAsked d = true) (hpow : s.powered d = true) (hoff : s.domainOff d = true) :
    Answers (.powerDownDone d) s (fun t => t.powered d = false ∧
    (d = 10 → s.stage ≠ 0 → t.role = 0 ∧ t.bit .PWM_STAT_OWNER 0 = true) ∧ (d = 13 → AuxSupplyShown s t) ∧
    ∀ f i, f.spec.cls ≠ .bk → fldDomain f (i % 1024) = d.val → f ≠ .CLG_CTRL_CLRGO → f ≠ .CLG_STAT_CLRDONE → f ≠ .AUX_STAT_VDRVUV →
      f ≠ .AUX_STAT_VHVUV → t.getF f i = f.spec.rst) := by
  have hd := le_of_offAsked hask
  have hexec : exec (.powerDownDone d) s = .next (s.powerOff d) := by
    change execPowerDownDone d s = _
    rw [execPowerDownDone, if_pos haon, State.powerStep, hask, hpow, hoff]
    rfl
  have hdown := powerOff_down s hd
  obtain ⟨hsingle, hsupply, hreset⟩ := powerOff_shown s hd
  refine ⟨_, hexec, powered_false ?_, fun h => hsingle (congrArg Fin.val h), fun h => hsupply (congrArg Fin.val h), fun f i hbk hdom h1 h2 h3 h4 =>
    hreset f i hbk hdom (notShown h1 h2 h3 h4)⟩
  rw [hdown.bits d d.isLt]
  simp

theorem AuxSupplyShown.orF (h : AuxSupplyShown s t) (b : Nat) : AuxSupplyShown s (t.orF .PMC_PDSTAT_PWR 0 b) :=
  ⟨(State.bit_setF_ne _ _ _ _ (by decide)).trans h.1, (State.bit_setF_ne _ _ _ _ (by decide)).trans h.2.1, h.2.2.1, h.2.2.2⟩

theorem powerUpDone_clause (d : Fin 14) (haon : s.aonRuns = true) (hhas : s.variant.hasDomain d = true) (hpow : s.powered d = false) (hd : 4 ≤ d.val)
    (hask : s.offAsked d = false) (hshut : s.bit .THERM_STAT_SHUTLAT 0 = false) : Answers (.powerUpDone d) s (fun t => t.powered d = true ∧ (d = 13 → AuxSupplyShown s t) ∧
      ∀ f i, f.spec.cls ≠ .bk → fldDomain f (i % 1024) = d.val → f ≠ .CLG_CTRL_CLRGO → f ≠ .CLG_STAT_CLRDONE → f ≠ .AUX_STAT_VDRVUV →
        f ≠ .AUX_STAT_VHVUV → t.getF f i = f.spec.rst) := by
  have hexec : exec (.powerUpDone d) s = .next ((s.domainReset d).orF .PMC_PDSTAT_PWR 0 d) := by
    change execPowerUpDone d s = _
    rw [execPowerUpDone, hhas, hpow, hask, hshut, haon, decide_eq_true hd]
    rfl
  have hreset := domainReset_spec s d
  generalize s.domainReset d = x at *
  refine ⟨_, hexec, ?_, fun h => AuxSupplyShown.orF (hreset.supply (congrArg Fin.val h)) d, fun f i hbk hdom h1 h2 h3 h4 => ?_⟩
  · have hset : (x.orF .PMC_PDSTAT_PWR 0 d).testF .PMC_PDSTAT_PWR 0 d = true := State.testF_orF_same _ _ _ d.isLt
    have hp : (x.orF .PMC_PDSTAT_PWR 0 d).aonRuns = x.aonRuns := rfl
    have hv : (x.orF .PMC_PDSTAT_PWR 0 d).variant = x.variant := rfl
    have haon' : x.aonRuns = true := by
      rw [← haon, State.aonRuns, State.aonRuns, hreset.leaves.pmc]
    rw [State.powered, hset, hp, haon', hv, hreset.leaves.variant, hhas]
    rfl
  · have hp : f ≠ .PMC_PDSTAT_PWR := by
      rintro rfl
      have hone := powerNames_aon (i % 1024) .PMC_PDSTAT_PWR (by decide)
      omega
    exact (State.getF_setF_ne _ _ _ _ hp).trans (hreset.reset f i (notShown h1 h2 h3 h4) hbk hdom)

/-! A write of PMC_PDREQ.REQ. -/

/-- The write refuses to power a domain down in S4. -/
def State.pdRefuses (s : State) (v j : Nat) : Bool :=
  !(!switchableMask.testBit j || !s.variant.hasDomain (j + 4) || v.testBit j == (s.getF .PMC_PDREQ_REQ 0).testBit j) && (v.testBit j && s.inS4)

/-- The bit that the write leaves. -/
def State.pdValue (s : State) (v j : Nat) : Bool :=
  if !switchableMask.testBit j || !s.variant.hasDomain (j + 4) || v.testBit j == (s.getF .PMC_PDREQ_REQ 0).testBit j then (s.getF .PMC_PDREQ_REQ 0).testBit j
  else v.testBit j && !s.inS4

/-- One bit of the write. -/
def State.pdStep (s : State) (v : Nat) (t : Nat × Bool) (j : Nat) : Nat × Bool :=
  if !switchableMask.testBit j || !s.variant.hasDomain (j + 4) || v.testBit j == (s.getF .PMC_PDREQ_REQ 0).testBit j then
    (t.1 ||| (if (s.getF .PMC_PDREQ_REQ 0).testBit j then 2 ^ j else 0), t.2)
  else if v.testBit j && s.inS4 then (t.1, true)
  else (t.1 ||| (if v.testBit j then 2 ^ j else 0), t.2)

/-- The written value, and whether a bit was refused. -/
def State.pdResult (s : State) (v n : Nat) : Nat × Bool := (List.range n).foldl (s.pdStep v) (0, false)

theorem pdStep_eq (s : State) (v : Nat) (r : Nat × Bool) (j : Nat) :
    s.pdStep v r j = (r.1 ||| (if s.pdValue v j then 2 ^ j else 0), r.2 || s.pdRefuses v j) := by
  unfold State.pdStep State.pdValue State.pdRefuses
  split
  next h => simp [h]
  next h =>
    split
    next hw =>
      obtain ⟨hv, hs4⟩ := Bool.and_eq_true_iff.1 hw
      rw [Bool.eq_false_iff.2 h, hv, hs4]
      simp
    next hw =>
      have hval : (v.testBit j && !s.inS4) = v.testBit j := by
        cases hv : v.testBit j <;> simp_all
      simp [h, hw, hval]

theorem testBit_ite_pow (b : Bool) (j k : Nat) : (if b then 2 ^ j else 0).testBit k = (b && decide (j = k)) := by
  cases b with
  | false => exact Nat.zero_testBit k
  | true => simp [Nat.testBit_two_pow]

theorem pdResult_spec (s : State) (v n : Nat) : (∀ k, (s.pdResult v n).1.testBit k = (decide (k < n) && s.pdValue v k)) ∧
    ∀ j < n, s.pdRefuses v j = true → (s.pdResult v n).2 = true := by
  induction n with
  | zero => exact ⟨fun k => by simp [State.pdResult], fun j hj => absurd hj (Nat.not_lt_zero j)⟩
  | succ n ih =>
    obtain ⟨hval, href⟩ := ih
    have hstep : s.pdResult v (n + 1) = s.pdStep v (s.pdResult v n) n := by
      rw [State.pdResult, List.range_succ, List.foldl_append]
      rfl
    rw [hstep, pdStep_eq]
    refine ⟨fun k => ?_, fun j hj hr => ?_⟩
    · rw [Nat.testBit_or, hval, testBit_ite_pow]
      by_cases hk : n = k
      · subst hk
        simp
      · have hlt : k < n + 1 ↔ k < n := by omega
        simp [hk, hlt]
    · rcases Nat.lt_succ_iff_lt_or_eq.1 hj with h | rfl
      · exact (congrArg (· || _) (href j h hr)).trans (Bool.true_or _)
      · exact (congrArg (_ || ·) hr).trans (Bool.or_true _)

/-- The state with the request stored. -/
def State.pdStored (s : State) (v : Nat) : State := (s.setF .PMC_PDREQ_REQ 0 (s.pdResult v 10).1).setWhen (s.pdResult v 10).2 .PMC_PDSTAT_PDERR 0 1

theorem writePdreq_eq (s : State) (v : Nat) : s.writePdreq v = ((List.range 14).foldl (fun t d => t.powerStep d) (s.pdStored v)).pdwait := rfl

theorem unitStates_request : ∀ f ∈ unitStates, f ∉ [.PMC_PDREQ_REQ, .PMC_PDSTAT_PDERR] := by decide

theorem pdStored_kept (s : State) (v : Nat) : KeptBut singleCore [.PMC_PDREQ_REQ, .PMC_PDSTAT_PDERR] s (s.pdStored v) :=
  .setWhen (.setF (.refl s) (by decide)) (by decide)

theorem pdStored_req (s : State) (v : Nat) {j : Nat} (hj : j < 10) : (s.pdStored v).testF .PMC_PDREQ_REQ 0 j = s.pdValue v j := by
  have hwidth : Fld.PMC_PDREQ_REQ.width = 10 := rfl
  rw [State.testF, State.pdStored, State.getF_setWhen_ne _ _ _ _ _ (by decide), State.getF_setF_same, hwidth, Nat.testBit_mod_two_pow, (pdResult_spec s v 10).1]
  simp [hj]

theorem pdStored_err (s : State) (v : Nat) {j : Nat} (hj : j < 10) (h : s.pdRefuses v j = true) : (s.pdStored v).getF .PMC_PDSTAT_PDERR 0 = 1 := by
  rw [State.pdStored, (pdResult_spec s v 10).2 j hj h]
  exact State.getF_setF_same _ _ _ _

/-! Every domain that need not wait goes off. -/

theorem domainOff_mono (h : ∀ f ∈ unitStates, ∀ i, s.getF f i = enstOff → t.getF f i = enstOff) (hoff : s.domainOff d = true) : t.domainOff d = true := by
  have hone (f : Fld) (hf : f ∈ unitStates) (i : Nat) (hs : (s.getF f i == enstOff) = true) : (t.getF f i == enstOff) = true :=
    beq_iff_eq.2 (h f hf i (beq_iff_eq.1 hs))
  have hall (f : Fld) (hf : f ∈ unitStates) (n : Nat) (hs : (List.range n).all (fun i => s.getF f i == enstOff) = true) :
      (List.range n).all (fun i => t.getF f i == enstOff) = true :=
    List.all_eq_true.2 fun i hi => hone f hf i (List.all_eq_true.1 hs i hi)
  have hor (f : Fld) (hf : f ∈ unitStates) (n : Nat) (p : Nat → Bool) (hs : (List.range n).all (fun i => !p i || s.getF f i == enstOff) = true) :
      (List.range n).all (fun i => !p i || t.getF f i == enstOff) = true :=
    List.all_eq_true.2 fun i hi => Bool.or_eq_true_iff.2 ((Bool.or_eq_true_iff.1 (List.all_eq_true.1 hs i hi)).imp_right (hone f hf i))
  unfold State.domainOff at hoff ⊢
  split at hoff
  · exact hone _ (by decide) _ hoff
  · obtain ⟨h1, h2⟩ := Bool.and_eq_true_iff.1 hoff
    exact Bool.and_eq_true_iff.2 ⟨hall _ (by decide) _ h1, hall _ (by decide) _ h2⟩
  · exact hall _ (by decide) _ hoff
  · obtain ⟨h1, h2⟩ := Bool.and_eq_true_iff.1 hoff
    exact Bool.and_eq_true_iff.2 ⟨hor _ (by decide) _ _ h1, hor _ (by decide) _ _ h2⟩

/-- What the power-downs of some domains leave. -/
structure PowerSteps (s t : State) : Prop where
  pmc : t.pmc = s.pmc
  variant : t.variant = s.variant
  asked : t.getF .PMC_PDREQ_REQ 0 = s.getF .PMC_PDREQ_REQ 0
  err : t.getF .PMC_PDSTAT_PDERR 0 = s.getF .PMC_PDSTAT_PDERR 0
  off : ∀ f ∈ unitStates, ∀ i, s.getF f i = enstOff → t.getF f i = enstOff
  falls : ∀ e < 14, s.testF .PMC_PDSTAT_PWR 0 e = false → t.testF .PMC_PDSTAT_PWR 0 e = false
  stays : ∀ e < 14, s.offAsked e = false → t.testF .PMC_PDSTAT_PWR 0 e = s.testF .PMC_PDSTAT_PWR 0 e

theorem offAsked_congr (h : t.getF .PMC_PDREQ_REQ 0 = s.getF .PMC_PDREQ_REQ 0) (e : Nat) : t.offAsked e = s.offAsked e := by
  rw [State.offAsked, State.offAsked, State.testF, State.testF, h]

theorem PowerSteps.refl (s : State) : PowerSteps s s := ⟨rfl, rfl, rfl, rfl, fun _ _ _ h => h, fun _ _ h => h, fun _ _ _ => rfl⟩

theorem PowerSteps.trans (h : PowerSteps s t) (h' : PowerSteps t u) : PowerSteps s u where
  pmc := h'.pmc.trans h.pmc
  variant := h'.variant.trans h.variant
  asked := h'.asked.trans h.asked
  err := h'.err.trans h.err
  off f hf i hs := h'.off f hf i (h.off f hf i hs)
  falls e he hs := h'.falls e he (h.falls e he hs)
  stays e he hs := (h'.stays e he ((offAsked_congr h.asked e).trans hs)).trans (h.stays e he hs)

theorem powerStep_steps (s : State) (d : Nat) : PowerSteps s (s.powerStep d) := by
  unfold State.powerStep
  split
  next h =>
    obtain ⟨hask, -⟩ := Bool.and_eq_true_iff.1 (Bool.and_eq_true_iff.1 h).1
    have hdown := powerOff_down s (le_of_offAsked hask)
    refine ⟨hdown.pmc, hdown.variant, hdown.asked, hdown.err, hdown.off, fun e he hs => ?_, fun e he hs => ?_⟩
    · rw [hdown.bits e he, hs, Bool.false_and]
    · have hne : e ≠ d := by
        rintro rfl
        exact Bool.false_ne_true (hs.symm.trans hask)
      rw [hdown.bits e he, decide_eq_true hne, Bool.and_true]
  next => exact .refl s

theorem powerSteps_foldl (s : State) (l : List Nat) : PowerSteps s (l.foldl (fun t d => t.powerStep d) s) :=
  List.foldlRecOn (motive := PowerSteps s) l _ (.refl s) fun t ht d _ => ht.trans (powerStep_steps t d)

/-- A domain that is asked off and need not wait goes off. -/
theorem powerStep_off {e : Nat} (he : e < 14) (hask : s.offAsked e = true) (hoff : s.domainOff e = true) : (s.powerStep e).powered e = false := by
  unfold State.powerStep
  split
  next =>
    refine powered_false ?_
    rw [(powerOff_down s (le_of_offAsked hask)).bits e he]
    simp
  next h =>
    rw [hask, hoff, Bool.true_and, Bool.and_true] at h
    exact Bool.eq_false_iff.2 h

theorem PowerSteps.powered_off (h : PowerSteps s t) {e : Nat} (he : e < 14) (hs : s.powered e = false) : t.powered e = false := by
  cases htest : s.testF .PMC_PDSTAT_PWR 0 e with
  | false => exact powered_false (h.falls e he htest)
  | true =>
    rw [State.powered, htest, Bool.and_true] at hs
    rw [State.powered, State.aonRuns, h.variant, h.pmc, Bool.and_right_comm]
    exact (congrArg (· && _) hs).trans (Bool.false_and _)

theorem powerSteps_off (x : State) {e : Nat} (he : e < 14) (hask : x.offAsked e = true) (hoff : x.domainOff e = true) :
    ((List.range 14).foldl (fun t d => t.powerStep d) x).powered e = false := by
  obtain ⟨l₁, l₂, hl⟩ := List.append_of_mem (List.mem_range.2 he)
  rw [hl, List.foldl_append, List.foldl_cons]
  have hfirst := powerSteps_foldl x l₁
  generalize l₁.foldl (fun t d => t.powerStep d) x = y at *
  have hgone := powerStep_off he ((offAsked_congr hfirst.asked e).trans hask) (domainOff_mono hfirst.off hoff)
  exact (powerSteps_foldl (y.powerStep e) l₂).powered_off he hgone

theorem pdValue_written {v j : Nat} (hmay : switchableMask.testBit j = true ∧ s.variant.hasDomain (j + 4) = true) (hs4 : ¬(s.inS4 = true ∧ v.testBit j = true)) :
    s.pdValue v j = v.testBit j := by
  rw [State.pdValue, hmay.1, hmay.2]
  split
  next h =>
    have heq : v.testBit j = (s.getF .PMC_PDREQ_REQ 0).testBit j := by simpa using h
    exact heq.symm
  next =>
    cases hv : v.testBit j with
    | false => rfl
    | true => simpa [hv] using hs4

theorem pdValue_kept {v j : Nat} (hmay : ¬(switchableMask.testBit j = true ∧ s.variant.hasDomain (j + 4) = true)) :
    s.pdValue v j = s.testF .PMC_PDREQ_REQ 0 j := by
  rw [State.pdValue, if_pos]
  · rfl
  · cases h1 : switchableMask.testBit j <;> cases h2 : s.variant.hasDomain (j + 4) <;> simp_all

theorem powerDomainRequest_clause (req : BitVec 10) (hrun : s.coresRun = true) : Answers (.powerDomainRequest req) s (fun t =>
    (∀ j < 10, ((switchableMask.testBit j = true ∧ s.variant.hasDomain (j + 4) = true) ∧ ¬(s.inS4 = true ∧ req.getLsbD j = true) →
        t.testF .PMC_PDREQ_REQ 0 j = req.getLsbD j) ∧
      (¬(switchableMask.testBit j = true ∧ s.variant.hasDomain (j + 4) = true) → t.testF .PMC_PDREQ_REQ 0 j = s.testF .PMC_PDREQ_REQ 0 j)) ∧
    ((∃ j < 10, (switchableMask.testBit j = true ∧ s.variant.hasDomain (j + 4) = true) ∧ s.inS4 = true ∧ req.getLsbD j = true ∧
      s.testF .PMC_PDREQ_REQ 0 j = false) → t.bit .PMC_PDSTAT_PDERR 0 = true) ∧
    (∀ e < 14, 4 ≤ e → t.testF .PMC_PDREQ_REQ 0 (e - 4) = true → s.domainOff e = true → t.powered e = false) ∧
    (∀ e < 14, (e < 4 ∨ t.testF .PMC_PDREQ_REQ 0 (e - 4) = false) → t.powered e = s.powered e)) := by
  have hexec : exec (.powerDomainRequest req) s = .next (s.writePdreq req.toNat) := by
    change execPowerDomainRequest req s = _
    rw [execPowerDomainRequest, if_pos hrun]
  rw [writePdreq_eq] at hexec
  refine ⟨_, hexec, ?_⟩
  have hst := pdStored_kept s req.toNat
  have hreq : ∀ j < 10, _ := fun j hj => pdStored_req s req.toNat (j := j) hj
  have herr : ∀ j < 10, _ := fun j hj => pdStored_err s req.toNat (j := j) hj
  generalize s.pdStored req.toNat = x at *
  have hsteps := powerSteps_foldl x (List.range 14)
  have hgone : ∀ e < 14, _ := fun e he => powerSteps_off x (e := e) he
  generalize (List.range 14).foldl (fun t d => t.powerStep d) x = y at *
  have hwait : KeptBut singleCore powerNames y y.pdwait := pdwait_kept y
  have hpow (e : Nat) : y.pdwait.powered e = y.powered e :=
    powered_congr (congrArg (·.2.1) hwait.core) (congrArg (·.1) hwait.core) (congrArg (·.testBit e) (State.getF_setF_ne _ _ _ _ (by decide)))
  generalize y.pdwait = t at *
  have hask : t.getF .PMC_PDREQ_REQ 0 = x.getF .PMC_PDREQ_REQ 0 := (hwait.regs _ (by decide) 0).trans hsteps.asked
  have hbit (j : Nat) : t.testF .PMC_PDREQ_REQ 0 j = x.testF .PMC_PDREQ_REQ 0 j := congrArg (·.testBit j) hask
  have hoff (e : Nat) (h4 : 4 ≤ e) : x.offAsked e = t.testF .PMC_PDREQ_REQ 0 (e - 4) := by
    rw [State.offAsked, decide_eq_true h4, hbit, Bool.true_and]
  refine ⟨fun j hj => ⟨fun h => ?_, fun h => ?_⟩, ?_, fun e he h4 hr hunits => ?_, fun e he h => ?_⟩
  · rw [hbit, hreq j hj, pdValue_written h.1 h.2]
    rfl
  · rw [hbit, hreq j hj, pdValue_kept h]
  · rintro ⟨j, hj, hmay, hs4, hr, hold⟩
    refine (congrArg (· == 1) (((hwait.regs _ (by decide) 0).trans hsteps.err).trans (herr j hj ?_))).trans rfl
    have hv : req.toNat.testBit j = true := hr
    have ho : (s.getF .PMC_PDREQ_REQ 0).testBit j = false := hold
    rw [State.pdRefuses, hmay.1, hmay.2, hv, ho, hs4]
    rfl
  · rw [hpow]
    exact hgone e he ((hoff e h4).trans hr) (domainOff_mono (fun f hf i hi =>
      (hst.regs f (unitStates_request f hf) i).trans hi) hunits)
  · have hx : x.offAsked e = false := by
      rcases h with h | h
      · rw [State.offAsked, decide_eq_false (by omega), Bool.false_and]
      · by_cases h4 : 4 ≤ e
        · exact (hoff e h4).trans h
        · rw [State.offAsked, decide_eq_false h4, Bool.false_and]
    rw [hpow]
    refine powered_congr (hsteps.variant.trans (congrArg (·.2.1) hst.core)) (hsteps.pmc.trans (congrArg (·.1) hst.core)) ?_
    rw [hsteps.stays e he hx]
    exact congrArg (·.testBit e) (hst.regs .PMC_PDSTAT_PWR (by decide) 0)

end

end Sys2Proof.Machine
end

section
/-! The thermal supervisor's samples, levels and mask (R461 to R464). -/
namespace Sys2Proof.Machine

-- The proofs one after another: all at once they would need more threads, and their stacks, than the check's memory holds.
set_option Elab.async false

section
variable {s t u : State}

/-! THERM_MAX (R462). -/

/-- The better of two sensors, folded over a list: the greatest of all. -/
theorem foldl_best {T : Nat → Int} (l : List Nat) (i : Nat) : let b := l.foldl (fun b j => if T b < T j then j else b) i
    (b = i ∨ b ∈ l) ∧ T i ≤ T b ∧ ∀ j ∈ l, T j ≤ T b := by
  induction l generalizing i with
  | nil => exact ⟨.inl rfl, le_refl _, fun _ h => absurd h List.not_mem_nil⟩
  | cons x xs ih =>
    obtain ⟨hmem, hle, hall⟩ := ih (if T i < T x then x else i)
    have hboth : T i ≤ T (if T i < T x then x else i) ∧ T x ≤ T (if T i < T x then x else i) := by
      split <;> omega
    rw [List.foldl_cons]
    refine ⟨?_, hboth.1.trans hle, List.forall_mem_cons.2 ⟨hboth.2.trans hle, hall⟩⟩
    rcases hmem with h | h
    · rw [h]
      split
      · exact .inr List.mem_cons_self
      · exact .inl rfl
    · exact .inr (List.mem_cons_of_mem _ h)

/-- The maximum and its sensor shown. -/
def State.maxShown (s : State) (b : Nat) : State := (s.setF .THERM_MAX_MAX 0 (BitVec.ofInt 16 (s.temp b)).toNat).setF .THERM_MAX_ARGMAX 0 b

/-- The fields of the maximum. -/
def maxNames : List Fld := [.THERM_MAX_MAX, .THERM_MAX_ARGMAX]

theorem maxShown_kept (s : State) (b : Nat) : KeptBut (fun x : State => { x with regs := [] }) maxNames s (s.maxShown b) :=
  .setF (.setF (.refl s) (by decide)) (by decide)

theorem mem_sensors {i : Nat} : i ∈ s.sensors ↔ i < 12 ∧ s.testF .THERM_MASK_MASK 0 i = false := by
  rw [State.sensors, List.mem_filter, List.mem_range, Bool.not_eq_true']

theorem thermMax_cases (s : State) : (s.sensors = [] ∧ s.thermMax = s) ∨
    ∃ b ∈ s.sensors, (∀ j ∈ s.sensors, s.temp j ≤ s.temp b) ∧ s.thermMax = s.maxShown b := by
  unfold State.thermMax
  cases h : s.sensors with
  | nil => exact .inl ⟨rfl, rfl⟩
  | cons i l =>
    obtain ⟨hmem, hle, hall⟩ := foldl_best (T := s.temp) l i
    exact .inr ⟨_, List.mem_cons.2 hmem, List.forall_mem_cons.2 ⟨hle, hall⟩, rfl⟩

theorem thermMax_kept (s : State) : KeptBut (fun x : State => { x with regs := [] }) maxNames s s.thermMax := by
  rcases thermMax_cases s with ⟨-, h⟩ | ⟨b, -, -, h⟩
  · rw [h]
    exact .refl s
  · rw [h]
    exact maxShown_kept s b

/-- The maximum that a state shows. -/
def State.maxTemp (t : State) : Int := (BitVec.ofNat 16 (t.getF .THERM_MAX_MAX 0)).toInt

/-- `t` shows the maximum of its unmasked sensors and the sensor that gives it. -/
def ShowsMax (t : State) : Prop := (∃ i : Fin 12, t.testF .THERM_MASK_MASK 0 i = false ∧ t.maxTemp = t.temp i ∧ t.getF .THERM_MAX_ARGMAX 0 = i.val) ∧
  ∀ i : Fin 12, t.testF .THERM_MASK_MASK 0 i = false → t.temp i ≤ t.maxTemp

theorem maxShown_temp (s : State) (b : Nat) : (s.maxShown b).maxTemp = s.temp b := by
  have hwidth : Fld.THERM_MAX_MAX.width = 16 := rfl
  rw [State.maxTemp, State.maxShown, State.getF_setF_ne _ _ _ _ (by decide), State.getF_setF_same, hwidth, Nat.mod_eq_of_lt (BitVec.isLt _),
    BitVec.ofNat_toNat, BitVec.setWidth_eq, State.temp, BitVec.ofInt_toInt]

theorem thermMax_shows (h : ∃ i : Fin 12, s.testF .THERM_MASK_MASK 0 i = false) : ShowsMax s.thermMax := by
  obtain ⟨i, hi⟩ := h
  rcases thermMax_cases s with ⟨hnil, -⟩ | ⟨b, hb, hall, heq⟩
  · exact absurd (mem_sensors.2 ⟨i.isLt, hi⟩) (by rw [hnil]; exact List.not_mem_nil)
  · obtain ⟨hlt, hmask⟩ := mem_sensors.1 hb
    have hk := maxShown_kept s b
    have hmax := maxShown_temp s b
    have harg : (s.maxShown b).getF .THERM_MAX_ARGMAX 0 = b := (State.getF_setF_same _ _ _ _).trans (Nat.mod_eq_of_lt (show b < 16 by omega))
    rw [heq]
    generalize s.maxShown b = t at *
    have htest (j : Nat) : t.testF .THERM_MASK_MASK 0 j = s.testF .THERM_MASK_MASK 0 j := congrArg (·.testBit j) (hk.regs _ (by decide) 0)
    have htemp (j : Nat) : t.temp j = s.temp j := congrArg (fun v => (BitVec.ofNat 16 v).toInt) (hk.regs .THERM_TS_TEMP (by decide) j)
    refine ⟨⟨⟨b, hlt⟩, (htest b).trans hmask, hmax.trans (htemp b).symm, harg⟩, fun j hj => ?_⟩
    rw [htemp, hmax]
    exact hall j (mem_sensors.2 ⟨j.isLt, (htest j).symm.trans hj⟩)

/-! A write of THERM_MASK. -/

theorem thermMaskWrite_refused (mask : BitVec 12) (hrun : s.coresRun = true) (h : s.inS4 = true ∨ mask = 0xFFF#12) :
    Sets (.thermMaskWrite mask) s [(.THERM_STAT_MASKERR, 0, 1)] := by
  refine .one ?_ (by decide)
  have hbad : s.inS4 = true ∨ mask.toNat % 4096 = 4095 := h.imp_right fun h => by rw [h]; rfl
  change execThermMaskWrite mask s = _
  rw [execThermMaskWrite, if_pos hrun, State.writeThermMask, if_pos hbad]

theorem exists_clear {mask : BitVec 12} (h : mask ≠ 0xFFF#12) : ∃ i : Fin 12, mask.getLsbD i = false := by
  by_contra hno
  refine h (BitVec.eq_of_getLsbD_eq fun i hi => ?_)
  have hset : mask.getLsbD i = true := Bool.not_eq_false _ ▸ fun hc => hno ⟨⟨i, hi⟩, hc⟩
  have hones : ∀ i < 12, (0xFFF#12).getLsbD i = true := by decide
  rw [hset, hones i hi]

theorem thermMaskWrite_stored (mask : BitVec 12) (hrun : s.coresRun = true) (hs4 : s.inS4 = false) (hmask : mask ≠ 0xFFF#12) :
    Answers (.thermMaskWrite mask) s (fun t => t.getF .THERM_MASK_MASK 0 = mask.toNat ∧
    (∀ i : Fin 12, mask.getLsbD i = false → t.temp i ≤ t.maxTemp) ∧ (∃ i : Fin 12, mask.getLsbD i = false ∧ t.maxTemp = t.temp i) ∧
    OnlyRegs s t [(.THERM_MASK_MASK, 0), (.THERM_MAX_MAX, 0), (.THERM_MAX_ARGMAX, 0)]) := by
  have hlt := mask.isLt
  have hgood : ¬(s.inS4 = true ∨ mask.toNat % 4096 = 4095) := by
    rintro (h | h)
    · exact Bool.false_ne_true (hs4.symm.trans h)
    · exact hmask (BitVec.eq_of_toNat_eq ((Nat.mod_eq_of_lt hlt).symm.trans h))
  have hexec : exec (.thermMaskWrite mask) s = .next (s.setF .THERM_MASK_MASK 0 mask.toNat).thermMax := by
    change execThermMaskWrite mask s = _
    rw [execThermMaskWrite, if_pos hrun, State.writeThermMask, if_neg hgood]
  have hstored : (s.setF .THERM_MASK_MASK 0 mask.toNat).getF .THERM_MASK_MASK 0 = mask.toNat := (State.getF_setF_same _ _ _ _).trans (Nat.mod_eq_of_lt hlt)
  have hframe : OnlyRegs s (s.setF .THERM_MASK_MASK 0 mask.toNat) [(.THERM_MASK_MASK, 0), (.THERM_MAX_MAX, 0), (.THERM_MAX_ARGMAX, 0)] :=
    (OnlyRegs.refl s _).setF _ (by decide)
  refine ⟨_, hexec, ?_⟩
  generalize s.setF .THERM_MASK_MASK 0 mask.toNat = x at *
  have hbit (i : Nat) : x.testF .THERM_MASK_MASK 0 i = mask.getLsbD i := by
    rw [State.testF, hstored]
    rfl
  obtain ⟨i, hi⟩ := exists_clear hmask
  obtain ⟨⟨j, hj, hjmax, -⟩, hall⟩ := thermMax_shows ⟨i, (hbit i).trans hi⟩
  have hk := thermMax_kept x
  have honly : OnlyRegs s x.thermMax [(.THERM_MASK_MASK, 0), (.THERM_MAX_MAX, 0), (.THERM_MAX_ARGMAX, 0)] := by
    rcases thermMax_cases x with ⟨-, h⟩ | ⟨b, -, -, h⟩
    · rw [h]
      exact hframe
    · rw [h]
      exact (hframe.setF _ (by decide)).setF _ (by decide)
  generalize x.thermMax = t at *
  have htest (i : Nat) : t.testF .THERM_MASK_MASK 0 i = mask.getLsbD i := (congrArg (·.testBit i) (hk.regs _ (by decide) 0)).trans (hbit i)
  exact ⟨(hk.regs _ (by decide) 0).trans hstored, fun i hi => hall i ((htest i).trans hi), ⟨j, (htest j).symm.trans hj, hjmax⟩, honly⟩

/-! One sample (R461). -/

/-- What the sensors leave beside the registers: all but the counts of failed self-tests. -/
def sensorCore (x : State) : State := { x with regs := [], therm := { x.therm with fails := Vector.replicate 12 0 } }

/-- The fields of the sensors. -/
def sensorNames : List Fld := [.THERM_TS_BROKEN, .THERM_TS_TEMP]

theorem sensor_kept (s : State) (test : Bool) (fail : BitVec 12) (i : Fin 12) (v : BitVec 16) : KeptBut sensorCore sensorNames s (s.sensor test fail i v) :=
  .setF (.setF (.upd (.refl s) rfl rfl) (by decide)) (by decide)

/-- The flag and the reading that sensor `i` shows of a sample `v`, where `old` is the flag before. -/
def SensorShows (old : Nat) (v : BitVec 16) (r : Nat × Nat) : Prop :=
  ((old == 1) = true ∨ v.toInt < -960 ∨ 2560 < v.toInt → (r.1 == 1) = true) ∧ ((r.1 == 1) = true → r.2 = 2400) ∧ ((r.1 == 1) = false → r.2 = v.toNat)

/-- Where the fields of a sensor stand. -/
def State.sensorSeen (s : State) (i : Fin 12) : Nat × Nat := (s.getF .THERM_TS_BROKEN i, s.getF .THERM_TS_TEMP i)

/-- Sensor `i` shows whether it is broken, and its reading. -/
def State.sensorShown (x : State) (i : Fin 12) (b : Bool) (v : BitVec 16) : State :=
  (x.setBit .THERM_TS_BROKEN i b).setF .THERM_TS_TEMP i (if b then 2400 else v.toNat)

theorem sensor_eq (s : State) (test : Bool) (fail : BitVec 12) (i : Fin 12) (v : BitVec 16) : ∃ (b : Bool) (g : ThermSt → ThermSt),
    (s.bit .THERM_TS_BROKEN i = true ∨ v.toInt < -960 ∨ 2560 < v.toInt → b = true) ∧ s.sensor test fail i v = (s.modTherm g).sensorShown i b v := by
  refine ⟨_, _, fun h => ?_, rfl⟩
  rcases h with h | h | h
  · rw [h, Bool.true_or, Bool.true_or, Bool.true_or]
  · rw [decide_eq_true h, Bool.or_true, Bool.true_or]
  · rw [decide_eq_true h, Bool.or_true]

theorem sensorShown_seen (x : State) (i : Fin 12) (b : Bool) (v : BitVec 16) : (x.sensorShown i b v).sensorSeen i = (b2n b, if b then 2400 else v.toNat) := by
  have hv : (if b then 2400 else v.toNat) < 2 ^ 16 := by
    have := v.isLt
    split <;> omega
  have hb : (x.sensorShown i b v).getF .THERM_TS_BROKEN i = b2n b := (State.getF_setF_ne _ _ _ _ (by decide)).trans ((State.getF_setF_same _ _ _ _).trans (by cases b <;> rfl))
  have ht : (x.sensorShown i b v).getF .THERM_TS_TEMP i = if b then 2400 else v.toNat := (State.getF_setF_same _ _ _ _).trans (Nat.mod_eq_of_lt hv)
  rw [State.sensorSeen, hb, ht]

theorem sensorShown_others (x : State) {i j : Fin 12} (b : Bool) (v : BitVec 16) (hj : j ≠ i) : (x.sensorShown i b v).sensorSeen j = x.sensorSeen j := by
  have hne : (j.val % 1024 ≠ i.val % 1024) := fun h => hj (Fin.ext (by omega))
  have hb : (x.sensorShown i b v).getF .THERM_TS_BROKEN j = x.getF .THERM_TS_BROKEN j :=
    (State.getF_setF_ne _ _ _ _ (by decide)).trans (State.getF_setF_idx _ _ _ _ _ hne)
  have ht : (x.sensorShown i b v).getF .THERM_TS_TEMP j = x.getF .THERM_TS_TEMP j :=
    (State.getF_setF_idx _ _ _ _ _ hne).trans (State.getF_setF_ne _ _ _ _ (by decide))
  rw [State.sensorSeen, State.sensorSeen, hb, ht]

theorem sensorShown_shows {old : Nat} {b : Bool} {v : BitVec 16} (h : (old == 1) = true ∨ v.toInt < -960 ∨ 2560 < v.toInt → b = true) :
    SensorShows old v (b2n b, if b then 2400 else v.toNat) := by
  cases b with
  | true => exact ⟨fun _ => rfl, fun _ => rfl, fun h' => Bool.noConfusion h'⟩
  | false => exact ⟨fun h' => absurd (h h') Bool.false_ne_true, fun h' => Bool.noConfusion h', fun _ => rfl⟩

/-- The sensors read in turn. -/
def State.sensed (s : State) (test : Bool) (ts : List (BitVec 16)) (fail : BitVec 12) : State :=
  forIdx (n := 12) (fun i t => t.sensor test fail i (ts.getD i 0#16)) s

theorem sensed_spec (s : State) (test : Bool) (ts : List (BitVec 16)) (fail : BitVec 12) : let t := s.sensed test ts fail
    KeptBut sensorCore sensorNames s t ∧ ∀ i : Fin 12, SensorShows (s.getF .THERM_TS_BROKEN i) (ts.getD i 0#16) (t.sensorSeen i) := by
  refine forIdx_each (s := s) (fun i t => t.sensorSeen i) (fun t => KeptBut sensorCore sensorNames s t)
    (fun i r => SensorShows (s.getF .THERM_TS_BROKEN i) (ts.getD i 0#16) r) (.refl s) fun t i ht hseen => ?_
  obtain ⟨b, g, hb, heq⟩ := sensor_eq t test fail i (ts.getD i 0#16)
  have hold : t.getF .THERM_TS_BROKEN i = s.getF .THERM_TS_BROKEN i := congrArg Prod.fst hseen
  refine ⟨ht.trans (sensor_kept t test fail i _), ?_, fun j hj => ?_⟩
  · rw [heq, sensorShown_seen]
    refine sensorShown_shows fun h => hb ?_
    rw [State.bit, hold]
    exact h
  · rw [heq, sensorShown_others _ _ _ hj]
    rfl

end

end Sys2Proof.Machine
end

section
/-! The levels of the thermal supervisor over a sample, and its shutdown (R461 to R465). -/
namespace Sys2Proof.Machine

-- The proofs one after another: all at once they would need more threads, and their stacks, than the check's memory holds.
set_option Elab.async false

section
variable {s t u : State}

/-! A sample up to its counts. -/

/-- The sample read, with the maximum of the unmasked sensors. -/
def State.thermRead (s : State) (ts : List (BitVec 16)) (fail : BitVec 12) : State :=
  ((s.sensed (s.therm.conv % 256 == 255) ts fail).modTherm (fun t => { t with conv := (t.conv + 1) % 256 })).thermMax

/-- The counts of Table 18-4 after the sample. -/
def State.thermCounted (x : State) (div2 : Bool) : State := x.modTherm (fun t => t.count x.maxTemp div2)

theorem thermSample_eq (s : State) (ts : List (BitVec 16)) (fail : BitVec 12) : s.thermSample ts fail =
    ((s.thermRead ts fail).thermCounted (s.getF .THERM_STAT_THROTTLE 0 == 1)).throttleStep.blockStep := rfl

/-- What a read sample leaves beside the registers: the counts of Table 18-4 and all that is not the supervisor's. -/
def readCore (x : State) : State := { x with regs := [], therm := { x.therm with fails := Vector.replicate 12 0, conv := 0 } }

/-- The fields that a read sample writes. -/
def readNames : List Fld := sensorNames ++ maxNames

theorem thermRead_spec (s : State) (ts : List (BitVec 16)) (fail : BitVec 12) : let x := s.thermRead ts fail
    KeptBut readCore readNames s x ∧ (∀ i : Fin 12, SensorShows (s.getF .THERM_TS_BROKEN i) (ts.getD i 0#16) (x.sensorSeen i)) ∧
    ((∃ i : Fin 12, s.testF .THERM_MASK_MASK 0 i = false) → ShowsMax x) := by
  obtain ⟨hk, hshows⟩ := sensed_spec s (s.therm.conv % 256 == 255) ts fail
  unfold State.thermRead
  generalize s.sensed (s.therm.conv % 256 == 255) ts fail = y at *
  have hconv : KeptBut readCore sensorNames s (y.modTherm (fun t => { t with conv := (t.conv + 1) % 256 })) :=
    .upd (hk.mono (fun _ h => h) fun h => congrArg (fun x : State => { x with therm := { x.therm with conv := 0 } }) h) rfl rfl
  have hseen (i : Fin 12) : (y.modTherm (fun t => { t with conv := (t.conv + 1) % 256 })).sensorSeen i = y.sensorSeen i := rfl
  generalize y.modTherm (fun t => { t with conv := (t.conv + 1) % 256 }) = z at *
  have hmax := thermMax_kept z
  have hshown := thermMax_shows (s := z)
  dsimp only
  generalize z.thermMax = x at *
  refine ⟨(hconv.mono (by decide) id).trans (hmax.mono (by decide) fun h => congrArg (fun x : State => { x with therm := { x.therm with fails := Vector.replicate 12 0, conv := 0 } }) h),
    fun i => ?_, fun ⟨i, hi⟩ => hshown ⟨i, (congrArg (·.testBit i) (hconv.regs _ (by decide) 0)).trans hi⟩⟩
  have hx : x.sensorSeen i = z.sensorSeen i := by
    rw [State.sensorSeen, hmax.regs _ (by decide), hmax.regs _ (by decide), State.sensorSeen]
  rw [hx, hseen]
  exact hshows i

/-! The throttle levels. -/

/-- The fields of the throttle level. -/
def throttleNames : List Fld := [.THERM_STAT_THROTTLE, .THERM_CNT_THRCNT]

theorem throttleStep_kept (s : State) : KeptBut (fun x : State => { x with regs := [] }) throttleNames s s.throttleStep := by
  unfold State.throttleStep
  dsimp only
  split
  · exact .ite (.setF (.setF (.refl s) (by decide)) (by decide)) (.refl s)
  · exact .ite (.setF (.refl s) (by decide)) (.refl s)
  · exact .ite (.setF (.refl s) (by decide)) (.refl s)

/-- The entry into THROT2. -/
theorem throttleStep_idle (h : s.getF .THERM_STAT_THROTTLE 0 = 0) : s.throttleStep.getF .THERM_STAT_THROTTLE 0 = if 2 ≤ s.therm.hot2 then 1 else 0 := by
  have heq : s.throttleStep = if 2 ≤ s.therm.hot2 then (s.setF .THERM_STAT_THROTTLE 0 1).countF .THERM_CNT_THRCNT 0 1 else s := by
    unfold State.throttleStep
    rw [h]
    rfl
  rw [heq]
  split
  · rw [State.getF_countF_ne _ _ _ _ (by decide), State.getF_setF_same]
    rfl
  · exact h

theorem throt4Entry_clause (haon : s.aonRuns = true) (h1 : s.getF .THERM_STAT_THROTTLE 0 = 1) (hhot : 200 ≤ s.therm.hot4) :
    Sets .throt4Entry s [(.THERM_STAT_THROTTLE, 0, 2)] := by
  refine .one ?_ (by decide)
  change execThrot4Entry s = _
  rw [execThrot4Entry, if_pos ⟨haon, h1, hhot⟩]

/-! BLOCK (R464). -/

/-- The fields of the request and of the handover that it asks for. -/
def requestNames : List Fld := [.THERM_STAT_BLKREQ, .THERM_CNT_BLKCNT, .MIR_HOAT_AT, .MIR_STAT_HOERR, .MIR_CTRL_HANDOVER]

/-- The fields that BLOCK may move. -/
def blockNames : List Fld := requestNames ++ (latchNames ++ muteNames)

theorem thermHandover_kept (s : State) : KeptBut (fun x : State => { x with regs := [] }) [.MIR_HOAT_AT, .MIR_STAT_HOERR, .MIR_CTRL_HANDOVER] s s.thermHandover := by
  refine .ite ?_ (.refl s)
  have hset : KeptBut (fun x : State => { x with regs := [] }) [.MIR_HOAT_AT, .MIR_STAT_HOERR, .MIR_CTRL_HANDOVER] s (s.setF .MIR_HOAT_AT 0 (s.fretnum + 4)) :=
    .setF (.refl s) (by decide)
  generalize s.setF .MIR_HOAT_AT 0 (s.fretnum + 4) = x at *
  exact .ite hset (.ite (.setF (.setF hset (by decide)) (by decide)) (.setF hset (by decide)))

/-- BLOCK requested, with the handover that it asks for. -/
def State.blockAsked (s : State) : State := ((s.setF .THERM_STAT_BLKREQ 0 1).countF .THERM_CNT_BLKCNT 0 1).thermHandover

theorem blockAsked_kept (s : State) : KeptBut (fun x : State => { x with regs := [] }) requestNames s s.blockAsked := by
  have hset : KeptBut (fun x : State => { x with regs := [] }) requestNames s ((s.setF .THERM_STAT_BLKREQ 0 1).countF .THERM_CNT_BLKCNT 0 1) :=
    .setF (.setF (.refl s) (by decide)) (by decide)
  exact hset.trans ((thermHandover_kept _).mono (by decide) id)

theorem blockAsked_request (s : State) : s.blockAsked.bit .THERM_STAT_BLKREQ 0 = true := by
  have hset : ((s.setF .THERM_STAT_BLKREQ 0 1).countF .THERM_CNT_BLKCNT 0 1).bit .THERM_STAT_BLKREQ 0 = true :=
    (congrArg (· == 1) ((State.getF_countF_ne _ _ _ _ (by decide)).trans (State.getF_setF_same _ _ _ _))).trans rfl
  exact ((thermHandover_kept _).bit (by decide) 0).trans hset

/-- The fabric takes the request at once where FAB runs. -/
def State.blockFabric (x : State) : State := if x.fabRuns then x.muteCycle else x

theorem blockFabric_keeps (x : State) {f : Fld} (hf : f ∉ latchNames ++ muteNames) (i : Nat) : x.blockFabric.getF f i = x.getF f i := by
  unfold State.blockFabric
  split
  · exact x.muteCycle_keeps.regs f hf i
  · rfl

/-- A requested BLOCK latches source 66 and sets the MUTE state. -/
theorem blockFabric_mutes (x : State) (hfab : x.fabRuns = true) (hreq : x.bit .THERM_STAT_BLKREQ 0 = true) : x.blockFabric.latched 66 = true ∧ x.blockFabric.mstate = true := by
  rw [State.blockFabric, if_pos hfab]
  have hkeep := x.muteCycle_keeps
  have hlatch : x.latchFixed.latched 66 = true := (x.latchFixed_spec.2 66 (by decide)).2 (.inr ⟨by decide, hreq⟩)
  have hmem : 66 ∈ x.latchFixed.muting := State.mem_muting_latchFixed.2 ⟨⟨by decide, .inr ⟨by decide, hreq⟩⟩, rfl⟩
  exact ⟨(hkeep.latches 66 (by decide)).trans hlatch, hkeep.muted (List.ne_nil_of_mem hmem)⟩

theorem blockStep_eq (s : State) : s.blockStep =
    if s.bit .THERM_STAT_BLKREQ 0 then (if 20 ≤ s.therm.coolB then s.setF .THERM_STAT_BLKREQ 0 0 else s)
    else if 2 ≤ s.therm.hotB then s.blockAsked.blockFabric else s := rfl

theorem blockStep_keeps (s : State) {f : Fld} (hf : f ∉ blockNames) (i : Nat) : s.blockStep.getF f i = s.getF f i := by
  obtain ⟨hr, hm⟩ := not_or.1 (mt List.mem_append.2 hf)
  rw [blockStep_eq]
  split
  · split
    · exact State.getF_setF_ne _ _ _ _ (by rintro rfl; exact hr (by decide))
    · rfl
  · split
    · exact (blockFabric_keeps _ hm i).trans ((blockAsked_kept s).regs f hr i)
    · rfl

/-- The entry into BLOCK. -/
theorem blockStep_enters (hreq : s.bit .THERM_STAT_BLKREQ 0 = false) (hhot : 2 ≤ s.therm.hotB) : s.blockStep.bit .THERM_STAT_BLKREQ 0 = true ∧
    (s.fabRuns = true → s.blockStep.latched 66 = true ∧ s.blockStep.mstate = true) := by
  rw [blockStep_eq, hreq, if_neg (by decide), if_pos hhot]
  have hask := blockAsked_request s
  have hk := blockAsked_kept s
  generalize s.blockAsked = x at *
  refine ⟨(congrArg (· == 1) (blockFabric_keeps x (by decide) 0)).trans hask, fun hfab => blockFabric_mutes x ?_ hask⟩
  have hgate : x.gated = s.gated := have e := congrArg State.gated hk.core; e
  rw [← hfab, State.fabRuns, State.fabRuns, State.pll0Runs, State.pll0Runs, State.awake, State.awake, hgate, hk.regs .PMC_STAGE_STAGE (by decide)]

/-- BLOCK stays until the samples have cooled. -/
theorem blockStep_stays (hreq : s.bit .THERM_STAT_BLKREQ 0 = true) (hcool : ¬20 ≤ s.therm.coolB) : s.blockStep.bit .THERM_STAT_BLKREQ 0 = true := by
  rw [blockStep_eq, if_pos hreq, if_neg hcool]
  exact hreq

/-! A whole sample. -/

/-- The levels of Tables 18-4 over a read sample. -/
theorem thermLevels (x : State) (div2 : Bool) : let y := (x.thermCounted div2).throttleStep
    (x.getF .THERM_STAT_THROTTLE 0 = 0 → 1 ≤ x.therm.hot2 → 1600 ≤ x.maxTemp → y.getF .THERM_STAT_THROTTLE 0 = 1) ∧
    (x.getF .THERM_STAT_THROTTLE 0 = 0 → ¬1600 ≤ x.maxTemp → y.getF .THERM_STAT_THROTTLE 0 = 0) ∧
    (1 ≤ x.therm.hotB → 1840 ≤ x.maxTemp → 2 ≤ y.therm.hotB) ∧ (1760 ≤ x.maxTemp → ¬20 ≤ y.therm.coolB) := by
  have hidle := throttleStep_idle (s := x.thermCounted div2)
  have hget : (x.thermCounted div2).getF .THERM_STAT_THROTTLE 0 = x.getF .THERM_STAT_THROTTLE 0 := rfl
  have htherm : (x.thermCounted div2).therm = x.therm.count x.maxTemp div2 := rfl
  have hk := throttleStep_kept (x.thermCounted div2)
  generalize x.thermCounted div2 = u at *
  have ht : u.throttleStep.therm = u.therm := have e := congrArg State.therm hk.core; e
  dsimp only
  rw [ht, htherm]
  rw [hget, htherm] at hidle
  refine ⟨fun h0 hhot hwarm => ?_, fun h0 hcool => ?_, fun hhot hwarm => ?_, fun hwarm => ?_⟩
  · rw [hidle h0, if_pos]
    rw [ThermSt.count]
    dsimp only
    rw [runOf, if_pos (decide_eq_true hwarm)]
    omega
  · rw [hidle h0, if_neg]
    rw [ThermSt.count]
    dsimp only
    rw [runOf, if_neg (fun h => hcool (of_decide_eq_true h))]
    omega
  · rw [ThermSt.count]
    dsimp only
    rw [runOf, if_pos (decide_eq_true hwarm)]
    omega
  · rw [ThermSt.count]
    dsimp only
    rw [runOf, if_neg (fun h => by have := of_decide_eq_true h; omega)]
    omega

theorem thermalSample_clause (ts : List (BitVec 16)) (fail : BitVec 12) (haon : s.aonRuns = true) : Answers (.thermalSample ts fail) s (fun t =>
    (∀ i : Fin 12, let v := ts.getD i 0#16
      (s.bit .THERM_TS_BROKEN i = true ∨ v.toInt < -960 ∨ 2560 < v.toInt → t.bit .THERM_TS_BROKEN i = true) ∧
      (t.bit .THERM_TS_BROKEN i = true → t.getF .THERM_TS_TEMP i = 2400) ∧ (t.bit .THERM_TS_BROKEN i = false → t.getF .THERM_TS_TEMP i = v.toNat)) ∧
    ((∃ i : Fin 12, s.testF .THERM_MASK_MASK 0 i = false) →
      (∃ i : Fin 12, s.testF .THERM_MASK_MASK 0 i = false ∧ t.maxTemp = t.temp i ∧ t.getF .THERM_MAX_ARGMAX 0 = i.val) ∧
      ∀ i : Fin 12, s.testF .THERM_MASK_MASK 0 i = false → t.temp i ≤ t.maxTemp) ∧
    (s.getF .THERM_STAT_THROTTLE 0 = 0 → 1 ≤ s.therm.hot2 → 1600 ≤ t.maxTemp → t.getF .THERM_STAT_THROTTLE 0 = 1) ∧
    (s.getF .THERM_STAT_THROTTLE 0 = 0 → ¬1600 ≤ t.maxTemp → t.getF .THERM_STAT_THROTTLE 0 = 0) ∧
    (s.bit .THERM_STAT_BLKREQ 0 = false → 1 ≤ s.therm.hotB → 1840 ≤ t.maxTemp → t.bit .THERM_STAT_BLKREQ 0 = true ∧
      (s.fabRuns = true → t.latched 66 = true ∧ t.mstate = true)) ∧
    (s.bit .THERM_STAT_BLKREQ 0 = true → 1760 ≤ t.maxTemp → t.bit .THERM_STAT_BLKREQ 0 = true)) := by
  have hexec : exec (.thermalSample ts fail) s = .next (s.thermSample ts fail) := by
    change execThermalSample ts fail s = _
    rw [execThermalSample, if_pos haon]
  rw [thermSample_eq] at hexec
  refine ⟨_, hexec, ?_⟩
  obtain ⟨hread, hsensors, hmax⟩ := thermRead_spec s ts fail
  generalize s.thermRead ts fail = x at *
  have hlevels := thermLevels x (s.getF .THERM_STAT_THROTTLE 0 == 1)
  have hcount (f : Fld) (i : Nat) : (x.thermCounted (s.getF .THERM_STAT_THROTTLE 0 == 1)).getF f i = x.getF f i := rfl
  have hgate : (x.thermCounted (s.getF .THERM_STAT_THROTTLE 0 == 1)).gated = x.gated := rfl
  generalize x.thermCounted (s.getF .THERM_STAT_THROTTLE 0 == 1) = u at *
  have hthr := throttleStep_kept u
  generalize u.throttleStep = y at *
  have hblock {f : Fld} (hf : f ∉ blockNames) (i : Nat) : y.blockStep.getF f i = y.getF f i := blockStep_keeps y hf i
  have henter := blockStep_enters (s := y)
  have hstay := blockStep_stays (s := y)
  generalize y.blockStep = t at *
  obtain ⟨hrise, hidle, hhot, hcool⟩ := hlevels
  have hxt {f : Fld} (h1 : f ∉ throttleNames) (h2 : f ∉ blockNames) (i : Nat) : t.getF f i = x.getF f i :=
    (hblock h2 i).trans ((hthr.regs f h1 i).trans (hcount f i))
  have hmt : t.maxTemp = x.maxTemp := congrArg (fun v => (BitVec.ofNat 16 v).toInt) (hxt (f := .THERM_MAX_MAX) (by decide) (by decide) 0)
  have htemp (i : Nat) : t.temp i = x.temp i := congrArg (fun v => (BitVec.ofNat 16 v).toInt) (hxt (f := .THERM_TS_TEMP) (by decide) (by decide) i)
  have hmask (i : Nat) : x.testF .THERM_MASK_MASK 0 i = s.testF .THERM_MASK_MASK 0 i := congrArg (·.testBit i) (hread.regs _ (by decide) 0)
  have hthrottle : x.getF .THERM_STAT_THROTTLE 0 = s.getF .THERM_STAT_THROTTLE 0 := hread.regs _ (by decide) 0
  have hreq : y.bit .THERM_STAT_BLKREQ 0 = s.bit .THERM_STAT_BLKREQ 0 :=
    congrArg (· == 1) ((hthr.regs _ (by decide) 0).trans ((hcount _ 0).trans (hread.regs _ (by decide) 0)))
  have hhot2 : x.therm.hot2 = s.therm.hot2 := have e := congrArg (fun c : State => c.therm.hot2) hread.core; e
  have hhotB : x.therm.hotB = s.therm.hotB := have e := congrArg (fun c : State => c.therm.hotB) hread.core; e
  have hfab (h : s.fabRuns = true) : y.fabRuns = true := by
    have hg : y.gated = u.gated := have e := congrArg State.gated hthr.core; e
    have hg' : x.gated = s.gated := have e := congrArg State.gated hread.core; e
    rw [← h, State.fabRuns, State.fabRuns, State.pll0Runs, State.pll0Runs, State.awake, State.awake, hg, hgate, hg', hthr.regs .PMC_STAGE_STAGE (by decide), hcount,
      hread.regs .PMC_STAGE_STAGE (by decide)]
  rw [hmt]
  refine ⟨fun i => ?_, fun hun => ?_, fun h0 h1 hw => ?_, fun h0 hw => ?_, fun h0 h1 hw => ?_, fun h1 hw => ?_⟩
  · dsimp only
    rw [State.bit, State.bit, hxt (by decide) (by decide), hxt (by decide) (by decide)]
    exact hsensors i
  · obtain ⟨⟨i, hi, htop, harg⟩, hall⟩ := hmax hun
    refine ⟨⟨i, (hmask i).symm.trans hi, htop.trans (htemp i).symm, (hxt (by decide) (by decide) 0).trans harg⟩, fun j hj => ?_⟩
    rw [htemp]
    exact hall j ((hmask j).trans hj)
  · rw [hblock (by decide)]
    exact hrise (hthrottle.trans h0) (by rw [hhot2]; exact h1) hw
  · rw [hblock (by decide)]
    exact hidle (hthrottle.trans h0) hw
  · obtain ⟨hon, hmute⟩ := henter (hreq.trans h0) (hhot (by rw [hhotB]; exact h1) hw)
    exact ⟨hon, fun h => hmute (hfab h)⟩
  · exact hstay (hreq.trans h1) (hcool hw)

end

end Sys2Proof.Machine
end

section
/-! The thermal shutdown (R465), and the claims of clocks, power and temperature together. -/
namespace Sys2Proof.Machine

-- The proofs one after another: all at once they would need more threads, and their stacks, than the check's memory holds.
set_option Elab.async false

section
variable {s t : State} {d : Nat}

/-! Every domain off but AON and BK. -/

/-- A field that resets to 0 stays 0 over the reset of any domain. -/
theorem domainReset_zero {f : Fld} (hf : f ∉ shownNames) (ht : f ≠ .TOUT_CTRL_ENST) (hr : f.spec.rst = 0) (i : Nat) (h : s.getF f i = 0) :
    (s.domainReset d).getF f i = 0 := by
  have hd := domainReset_spec s d
  by_cases hin : f.spec.cls = .bk ∨ fldDomain f (i % 1024) ≠ d
  · exact (hd.kept f i hf ht hin).trans h
  · obtain ⟨hbk, hdom⟩ := not_or.1 hin
    exact (hd.reset f i hf hbk (not_not.1 hdom)).trans hr

/-- The domains that the shutdown turns off, in its order. -/
def shutDomains : List Nat := [4, 5, 7, 8, 10, 9, 11, 6, 3, 12, 2, 13]

/-- The domains reset in turn. -/
def State.domainsReset (s : State) : State := shutDomains.foldl (fun t d => t.domainReset d) s

/-- The fields of AON that the shutdown's record is about. -/
def shutKept : List Fld := [.THERM_BKREC_SHUT125, .PMC_STAGE_STAGE, .VREG_STAT_SSTATE]

theorem shutKept_domain : ∀ f ∈ shutKept, f ∉ shownNames ∧ f ≠ .TOUT_CTRL_ENST ∧ ∀ d ∈ shutDomains, fldDomain f 0 ≠ d := by decide

theorem domainsReset_kept (s : State) {f : Fld} (hf : f ∈ shutKept) : s.domainsReset.getF f 0 = s.getF f 0 := by
  obtain ⟨hs, ht, hd⟩ := shutKept_domain f hf
  exact List.foldlRecOn (motive := fun t : State => t.getF f 0 = s.getF f 0) shutDomains _ rfl fun t h d hmem =>
    ((domainReset_spec t d).kept f 0 hs ht (.inr (hd d hmem))).trans h

theorem domainResets_zero (l : List Nat) {f : Fld} (hf : f ∉ shownNames ∧ f ≠ .TOUT_CTRL_ENST ∧ f.spec.rst = 0 ∧ f.spec.cls ≠ .bk) (hd : fldDomain f 0 ∈ l) :
    (l.foldl (fun t d => t.domainReset d) s).getF f 0 = 0 := by
  obtain ⟨hs, ht, hr, hbk⟩ := hf
  exact foldl_establish (P := fun t : State => t.getF f 0 = 0) (f := fun t d => t.domainReset d) hd (fun t d h => domainReset_zero hs ht hr 0 h)
    (fun t => ((domainReset_spec t _).reset f 0 hs hbk rfl).trans hr) s

/-- What the shutdown shows of AON: AON and BK alone are on, and the shutdown is latched. -/
def State.shutShown (x : State) : State := ((x.setF .PMC_PDSTAT_PWR 0 3).setF .PMC_PDSTAT_PDWAIT 0 0).setF .THERM_STAT_SHUTLAT 0 1

/-- What SAF, the clock, the cores and the regulator lose. -/
def State.shutUnits (y s : State) : State :=
  ({ y with
    ser := { ({} : SerSt) with store := s.ser.store, confirm := s.ser.confirm }, dmaEnst := 0, clock := {},
    jnl := s.jnl.restart, sec := { s.sec.restart with runSer := 0, serHash := [] } } : State).phasesMid

theorem thermShutdown_eq (s : State) : s.thermShutdown =
    (((s.setF .THERM_BKREC_SHUT125 0 1).domainsReset).shutShown.shutUnits s).setWhen (s.sstate != ssLatch) .VREG_STAT_SSTATE 0 ssHiccup := rfl

theorem shutUnits_getF (y s : State) (f : Fld) (i : Nat) : (y.shutUnits s).getF f i = y.getF f i := rfl

theorem shutUnits_phase (y s : State) (p : Fin 4) : (y.shutUnits s).vreg.phase[p] = .mid := Vector.getElem_replicate p.isLt

/-- The fields that the end of the shutdown writes. -/
def shutNames : List Fld := [.PMC_PDSTAT_PWR, .PMC_PDSTAT_PDWAIT, .THERM_STAT_SHUTLAT]

theorem shutShown_spec (x : State) : (∀ f ∉ shutNames, ∀ i, x.shutShown.getF f i = x.getF f i) ∧ x.shutShown.bit .THERM_STAT_SHUTLAT 0 = true ∧
    x.shutShown.getF .PMC_PDSTAT_PWR 0 = 3 := by
  refine ⟨fun f hf i => ?_, ?_, ?_⟩
  · simp only [shutNames, List.mem_cons, List.not_mem_nil, or_false, not_or] at hf
    obtain ⟨h1, h2, h3⟩ := hf
    exact (State.getF_setF_ne _ _ _ _ h3).trans ((State.getF_setF_ne _ _ _ _ h2).trans (State.getF_setF_ne _ _ _ _ h1))
  · exact (State.bit_setF_same _ _ _ _).trans rfl
  · exact (State.getF_setF_ne _ _ _ _ (by decide)).trans ((State.getF_setF_ne _ _ _ _ (by decide)).trans (State.getF_setF_same _ _ _ _))

theorem thermalShutdown_clause (haon : s.aonRuns = true) (hhot : 2 ≤ s.therm.hotS) (hlat : s.bit .THERM_STAT_SHUTLAT 0 = false) : Answers .thermalShutdown s (fun t =>
    t.bit .THERM_STAT_SHUTLAT 0 = true ∧ t.bit .THERM_BKREC_SHUT125 0 = true ∧ t.getF .PMC_PDSTAT_PWR 0 = 3 ∧
    t.getF .VREG_STAT_SSTATE 0 = (if s.getF .VREG_STAT_SSTATE 0 = 3 then 3 else 0) ∧
    (∀ p : Fin 4, t.vreg.phase[p] = .mid) ∧ t.serState = 0 ∧ t.getF .CE_STAT_ENST 0 = 0 ∧ t.getF .PMC_STAGE_STAGE 0 = s.getF .PMC_STAGE_STAGE 0) := by
  have hexec : exec .thermalShutdown s = .next s.thermShutdown := by
    change execThermalShutdown s = _
    rw [execThermalShutdown, if_pos ⟨haon, hhot, hlat⟩]
  rw [thermShutdown_eq] at hexec
  refine ⟨_, hexec, ?_⟩
  have hset : (s.setF .THERM_BKREC_SHUT125 0 1).getF .THERM_BKREC_SHUT125 0 = 1 := State.getF_setF_same _ _ _ _
  have hother {f : Fld} (hf : f ≠ .THERM_BKREC_SHUT125) : (s.setF .THERM_BKREC_SHUT125 0 1).getF f 0 = s.getF f 0 := State.getF_setF_ne _ _ _ _ hf
  generalize s.setF .THERM_BKREC_SHUT125 0 1 = w at *
  have hkept : ∀ f ∈ shutKept, w.domainsReset.getF f 0 = w.getF f 0 := fun f hf => domainsReset_kept w hf
  have hser : w.domainsReset.getF .SER_STAT_STATE 0 = 0 := domainResets_zero shutDomains (by decide) (by decide)
  have henst : w.domainsReset.getF .CE_STAT_ENST 0 = 0 := domainResets_zero shutDomains (by decide) (by decide)
  generalize w.domainsReset = x at *
  obtain ⟨hkeep, hshut, hpwr⟩ := shutShown_spec x
  generalize x.shutShown = y at *
  have hunits := shutUnits_getF y s
  have hphase := shutUnits_phase y s
  generalize y.shutUnits s = z at *
  have hz {f : Fld} (hf : f ∉ shutNames) : z.getF f 0 = x.getF f 0 := (hunits f 0).trans (hkeep f hf 0)
  have hend {f : Fld} (hf : f ≠ .VREG_STAT_SSTATE) : (z.setWhen (s.sstate != ssLatch) .VREG_STAT_SSTATE 0 ssHiccup).getF f 0 = z.getF f 0 :=
    State.getF_setWhen_ne _ _ _ _ _ hf
  refine ⟨?_, ?_, (hend (by decide)).trans ((hunits _ 0).trans hpwr), ?_, fun p => ?_, (hend (by decide)).trans ((hz (by decide)).trans hser),
    (hend (by decide)).trans ((hz (by decide)).trans henst), (hend (by decide)).trans ((hz (by decide)).trans ((hkept _ (by decide)).trans (hother (by decide))))⟩
  · exact (congrArg (· == 1) ((hend (by decide)).trans (hunits _ 0))).trans hshut
  · exact (congrArg (· == 1) ((hend (by decide)).trans ((hz (by decide)).trans ((hkept _ (by decide)).trans hset)))).trans rfl
  · rw [State.getF_setWhen_same, hz (by decide), hkept _ (by decide), hother (by decide), State.sstate, ssLatch]
    by_cases h3 : s.getF .VREG_STAT_SSTATE 0 = 3
    · rw [h3]
      rfl
    · rw [if_neg h3, bne_iff_ne.2 h3]
      rfl
  · rw [← hphase p]
    unfold State.setWhen
    split <;> rfl

theorem powerAndHeat : Claims.PowerAndHeat := fun req d ts fail mask _ =>
  ⟨powerDomainRequest_clause req, powerDownDone_clause d, powerUpDone_clause d, thermalSample_clause ts fail, throt4Entry_clause, thermalShutdown_clause,
    thermMaskWrite_refused mask, thermMaskWrite_stored mask⟩

end

/-- Settles O56: a loss of a clock is its gates, its flags and its declaration in turn, a power-down the reset of its domain's fields, and a sample its readings,
its maximum and its levels; each is followed field by field over what the later steps leave. -/
theorem clocksPowerAndHeat : Obligations.ClocksPowerAndHeat := ⟨clocks, powerAndHeat⟩

end Sys2Proof.Machine
end
